-- ==== Sys2Proof/Word.lean ====
section
/-! DEFINITION. The word types of the T512: a register is 32 bits (R11), a byte of host memory 8. -/
namespace Sys2Proof

/-- A 32-bit register value (R11). -/
abbrev Word := BitVec 32

/-- One byte of host memory or flash. -/
abbrev Byte := BitVec 8

end Sys2Proof
end

