-- ==== Sys2Proof/Types.lean ====
section
/-! DEFINITION. The data that commands carry: samples, messages and host stores. -/
namespace Sys2Proof

/-- One raw conversion of a tap in a frame (R105): tap h = lane × 2 + t of the cluster, raw code of its converter. -/
structure TapSample where
  h : Fin 512
  raw : Fin 4096
  deriving DecidableEq, Repr

/-- Bytes the host has made visible in its memory before a doorbell (R238). -/
structure HostStore where
  addr : Nat
  bytes : List Byte
  deriving DecidableEq, Repr

/-- A write of BAR2: its offset, and whether it is 32 bits wide (R228, R230). -/
structure Bar2Write where
  ofs : Fin 1048576
  full : Bool
  deriving DecidableEq, Repr

/-- What a lost link cuts: the bytes of its running transmission that have left, and those of its arriving frame that came behind
the first cell (R281, R316). -/
structure LinkCut where
  left : Nat
  rest : List Byte
  deriving DecidableEq, Repr

/-- What a boot stage finds when it ends (R461 to R463): the tests on what lies outside the model pass. -/
structure BootIn where
  ok : Bool
  deriving DecidableEq, Repr

/-- What the verifier of out-port `out` finds at an evaluation (R175): the amplitude of the bin of its path, the
largest amplitude of every other bin, the unmodulated mean, all in one unit, and whether the sign of the tone turned
against the bit period before. -/
structure TagBin where
  out : Fin 512
  own : Nat
  other : Nat
  mean : Nat
  inv : Bool
  deriving DecidableEq, Repr

/-- The measurement of one temperature sensor (R409): the count of its gate and the reading in 1/16 °C. -/
structure SnsRead where
  i : Fin 160
  cnt : Nat
  val : BitVec 16
  deriving DecidableEq, Repr

/-- New constants of a conversion channel (R103, R473): cluster, channel, range, reference, offset in codes, gain in
1/65,536. -/
structure CalMeas where
  c : Fin 144
  h : Fin 512
  hi : Bool
  ref : Fin 3
  off : Int
  gain : Nat
  deriving DecidableEq, Repr

/-- The power that CAL_OPT measures for an in-port: the sum of tap 0 over both planes, 1/256 dBm (R474). -/
structure PortMeas where
  p : Fin 512
  v : BitVec 16
  deriving DecidableEq, Repr

/-- The resets of R226, and the assertion of PERST_N (R460). -/
inductive PcieRst where
  | perst | hotReset | linkDisable | flr | d3hot | linkDown
  deriving DecidableEq, Repr

/-! ### Mirror frames of a pair (R337) -/

/-- HELLO. -/
structure HelloW where
  unit : Bool
  pref : Bool
  role : Nat
  sync : Nat
  safe : Bool
  health : Word
  ptn : Word
  seq : Word
  digest : Word
  /-- send time tag -/
  tag : Word
  deriving DecidableEq, Repr

/-- A request inside a TXN, with the middle node the active module chose. -/
structure PairReq where
  op : Nat
  a : Nat
  b : Nat
  mid : Nat
  reqId : Word
  deriving DecidableEq, Repr

/-- TXN. -/
structure TxnW where
  ptn : Word
  ring : Nat
  reqs : List PairReq
  /-- boundary, network time in ns -/
  due : Nat
  rearr : Bool
  layer : Nat
  digest : Word
  deriving DecidableEq, Repr

/-- One part of a STATE snapshot: its number, whether it is the last, table entries (layer × 512 + in-port, out-port),
unresolved transactions, PTN and shared SEQ. -/
structure StateW where
  part : Nat
  last : Bool
  table : List (Nat × Nat)
  txns : List TxnW
  ptn : Word
  seq : Word
  deriving DecidableEq, Repr

/-- CTRL: 0 start, 1 stop, 2 switch, with its time in ns. -/
structure CtrlW where
  kind : Nat
  time : Nat
  deriving DecidableEq, Repr

/-- ANN: SEQ and the frame. -/
structure AnnW where
  seq : Word
  bytes : List Byte
  deriving DecidableEq, Repr

/-- A mirror frame (R337). -/
inductive MirMsg where
  | hello (w : HelloW)
  | txn (w : TxnW)
  | ack (ptn : Word) (cause : Nat)
  | outcome (ptn : Word) (status : Nat) (validT : Word)
  | ann (w : AnnW)
  | ctrl (w : CtrlW)
  | state (w : StateW)
  | retry (lo hi : Nat)
  deriving DecidableEq, Repr

/-- What the receiver learns of a mirror frame beside its content (R336, R337): its MSEQ, and how many copies failed their
CRC since the frame before it. -/
structure MirHdr where
  mseq : Nat
  bad : Nat
  deriving DecidableEq, Repr

/-! ### Control messages of a fabric (R370) -/

/-- One path of a RESERVE: F_a, F_b and the link port chosen (R370, R384). -/
structure ResvItem where
  fa : Nat
  fb : Nat
  link : Nat
  deriving DecidableEq, Repr

/-- RESERVE: reservation number, kind 0 connect, 1 release, 2 move, 3 re-route, and its paths. -/
structure ResvW where
  num : Nat
  kind : Nat
  items : List ResvItem
  deriving DecidableEq, Repr

/-- A claim of DISC (R375): a link out-port, or a link in-port, with a tag word. -/
structure Claim where
  out : Bool
  port : Nat
  word : Nat
  deriving DecidableEq, Repr

/-- What the owner does on a later fault of a segment (R374, R382): the path is re-routed through another middle, or to another
link; it stays DEGRADED; or the fault is recorded only. -/
inductive SegFix where
  | middle | link | stay | note
  deriving DecidableEq, Repr

/-- The outcome of a segment (R370, R380): status of R161, flags, valid time. -/
structure SegOut where
  status : Nat
  rearr : Bool
  repaired : Bool
  eqRaised : Bool
  unobs : Bool
  validT : Word
  fix : SegFix
  deriving DecidableEq, Repr

/-- The content of a control message (R370). Kinds: HELLO, DISC, LSA, RESERVE, RESV_REPLY, COMMIT, OUTCOME, DOWN. -/
inductive FabBody where
  /-- role, state, digest -/
  | hello (middle : Bool) (state : Nat) (digest : Word)
  | disc (claims : List Claim)
  /-- sender's neighbours with SP ports; age -/
  | lsa (nbrs : List (Nat × Nat)) (age : Nat)
  | reserve (w : ResvW)
  /-- 0 accepted, or cause 1 PORT, 2 LINK, 3 PLACE, 4 STATE, 5 TIME; per path the segment's in-port and out-port -/
  | reply (num cause : Nat) (ports : List (Nat × Nat))
  /-- strobe time in ns, or ABORT; `rel`: kind release of a roll-back (R380) -/
  | commit (num : Nat) (rel : Bool) (strobe : Option Nat)
  | outcome (num : Nat) (o : SegOut)
  /-- a device, or a device's link port (in-port or not), lost at time t -/
  | downDev (dev t : Nat)
  | downLink (dev : Nat) (isIn : Bool) (port t : Nat)
  deriving DecidableEq, Repr

/-- TYPE of a control message (R370). -/
def FabBody.type : FabBody → Nat
  | .hello .. => 16 | .disc _ => 17 | .lsa .. => 18 | .reserve _ => 19 | .reply .. => 20 | .commit .. => 21 | .outcome .. => 22
  | .downDev .. => 23 | .downLink .. => 23

/-- The FEC options of a rate coded as FORCE_RATE (R278): 0 none, 1 Clause 74, 2 RS(528,514), 3 RS(544,514). -/
def fecOk (rate fec : Nat) : Bool := if rate = 0 then decide (fec ≤ 1) else if rate = 1 then decide (fec ≤ 2) else fec == 3

/-- A control message: SRC, destination (255: every neighbour), SEQ, HOPS, and its content (R220, R370). -/
structure FabMsg where
  src : Nat
  dst : Nat
  seq : Nat
  hops : Nat
  body : FabBody
  deriving DecidableEq, Repr

end Sys2Proof
end

