-- ==== Sys2Proof/Syntax.lean ====
section
/-! DEFINITION. The commands of the T512: one constructor per row of spec/opcode_table.json, with the operands that come
from outside the block. -/
namespace Sys2Proof

/-- The commands (spec/opcode_table.json; the rule of each row stands beside it). -/
inductive Instr where
  /-- REGISTER_WRITE (R12). -/
  | registerWrite (a : Nat) (v : Word)
  /-- BAR0_ACCESS_ERROR (R228). -/
  | bar0AccessError (write : Bool)
  /-- POWER_ON_RESET (R460). -/
  | powerOnReset
  /-- POR_RELEASE (R460). -/
  | porRelease (m : Fin 4) (pref : Bool) (devid : Fin 64) (bootSrc : Bool)
  /-- MAIN_RAIL_RESET (R460). -/
  | mainRailReset (rail : Fin 4)
  /-- MAIN_RAIL_RESET_RELEASE (R460). -/
  | mainRailResetRelease (m : Fin 4) (pref : Bool) (devid : Fin 64) (bootSrc : Bool)
  /-- BOOT_STAGE (R461). -/
  | bootStage (b : BootIn)
  /-- SUPPLY_FAIL_BLEED (R58). -/
  | supplyFailBleed
  /-- HV_SUPPLY_LOSS (R122). -/
  | hvSupplyLoss
  /-- ENGAGE_REQUEST (R54). -/
  | engageRequest
  /-- RELEASE_REQUEST (R56). -/
  | releaseRequest
  /-- PLACKET_ENGAGED (R57). -/
  | placketEngaged (hv : Fin 1024)
  /-- ENGAGE_TIMEOUT (R54). -/
  | engageTimeout (hv : Fin 1024)
  /-- HOLD_VOLTAGE_LOW (R54). -/
  | holdVoltageLow (hv : Fin 1024)
  /-- PLACKET_RELEASED (R56). -/
  | placketReleased
  /-- CUF_CTRL_WRITE (R51). -/
  | cufCtrlWrite (v : Word)
  /-- TONE_ZERO_CROSSING (R126). -/
  | toneZeroCrossing (e : Fin 36864)
  /-- CONVERSION_FRAME (R105). -/
  | conversionFrame (c : Fin 144) (t : Nat) (smp : List TapSample)
  /-- LIGHT_CLASS_CHANGE (R69). -/
  | lightClassChange (e : Fin 36864) (t : Nat)
  /-- HI_RANGE_RETURN (R102). -/
  | hiRangeReturn (e : Fin 36864) (tap : Bool)
  /-- LOOP_UPDATE (R73). -/
  | loopUpdate (c : Fin 144) (t : Nat)
  /-- LOOP_LOCK (R83). -/
  | loopLock (e : Fin 36864) (t : Nat)
  /-- LOOP_UNLOCK (R83). -/
  | loopUnlock (e : Fin 36864) (t : Nat)
  /-- INTEGRATOR_SAT_FAULT (R83). -/
  | integratorSatFault (e : Fin 36864) (t : Nat)
  /-- LEAK_FAULT (R89). -/
  | leakFault (e : Fin 36864) (t : Nat)
  /-- ACQ_TIMEOUT (R83). -/
  | acqTimeout (e : Fin 36864) (t : Nat)
  /-- LEARNING_TICK (R79). -/
  | learningTick (c : Fin 144) (t : Nat)
  /-- SETPT_WRITE (R81). -/
  | setptWrite (e : Fin 36864) (k : Fin 2) (v : Word)
  /-- LANE_RESTART (R83). -/
  | laneRestart (e : Fin 36864) (v : Word) (t : Nat)
  /-- RESTART_ALL (R83). -/
  | restartAll (c : Fin 144) (v : Word) (t : Nat)
  /-- CUFF_EXCHANGE (R95). -/
  | cuffExchange (t : Nat)
  /-- EXCHANGE_STALE (R95). -/
  | exchangeStale (c : Fin 144) (t : Nat)
  /-- REF_SELECT_WRITE (R108). -/
  | refSelectWrite (c : Fin 144) (v : Word)
  /-- REF_SETTLE_EXPIRY (R108). -/
  | refSettleExpiry (c : Fin 144) (adc : Fin 8) (inWin : Bool)
  /-- REF_OUT_OF_WINDOW (R108). -/
  | refOutOfWindow (c : Fin 144) (adc : Fin 8)
  /-- ACC_ENABLE (R115). -/
  | accEnable (c : Fin 144) (v : Word)
  /-- ACC_STOP (R115). -/
  | accStop (c : Fin 144) (v : Word)
  /-- ACC_STOP_DONE (R115). -/
  | accStopDone (c : Fin 144)
  /-- ACC_TRIGGER (R114). -/
  | accTrigger (c : Fin 144)
  /-- ACC_WINDOW_END (R113). -/
  | accWindowEnd (c : Fin 144) (t : Nat)
  /-- DRIVE_UPDATE (R118). -/
  | driveUpdate (c : Fin 144) (t : Nat)
  /-- OVC_DETECT (R120). -/
  | ovcDetect (e : Fin 36864) (t : Nat)
  /-- LSG_HOST_LOAD (R129). -/
  | lsgHostLoad (c : Fin 144) (v : Word)
  /-- DRV_LIM_WRITE (R131). -/
  | drvLimWrite (c : Fin 144) (v : Word)
  /-- PATTERN_FIRE (R209). -/
  | patternFire (t : Nat)
  /-- HAND_OVER (R139). -/
  | handOver (e : Fin 36864) (t : Nat)
  /-- CLUSTER_REPORT (R145). -/
  | clusterReport (c : Fin 144) (pat : Fin 1024)
  /-- COLLECTOR_RESOLVE (R146). -/
  | collectorResolve (pat : Fin 1024) (t : Nat)
  /-- MEAS_RECORD (R147). -/
  | measRecord (e : Fin 36864) (t : Nat)
  /-- INTAKE_TURN (R239). -/
  | intakeTurn
  /-- CONNECT (R156). -/
  | connect (t : Nat)
  /-- RELEASE (R188). -/
  | release (t : Nat)
  /-- MOVE (R156). -/
  | move (t : Nat)
  /-- QUERY (R160). -/
  | query
  /-- FENCE (R242). -/
  | fence
  /-- FW_LOAD (R453). -/
  | fwLoad
  /-- FW_COMMIT (R454). -/
  | fwCommit (flashOk : Bool)
  /-- LOG_READ (R450). -/
  | logRead
  /-- PLACEMENT (R165). -/
  | placement (t : Nat)
  /-- STAGING_END (R206). -/
  | stagingEnd (t : Nat)
  /-- COMMIT_POINT (R206). -/
  | commitPoint (t : Nat)
  /-- COMPLETION_WRITE (R243). -/
  | completionWrite
  /-- ELEMENT_FAULT_REPORT (R181). -/
  | elementFaultReport (t : Nat)
  /-- REPAIR_PATTERN_FIRE (R182). -/
  | repairPatternFire (t : Nat)
  /-- CONTINUITY_FAULT (R180). -/
  | continuityFault (t : Nat)
  /-- BANK_RESTORE (R185). -/
  | bankRestore (e : Fin 36864)
  /-- EQ_REFRESH (R171). -/
  | eqRefresh (b : Fin 512) (t : Nat)
  /-- TAG_BIT_PERIOD (R174). -/
  | tagBitPeriod (t : Nat)
  /-- TAG_EVALUATION (R175). -/
  | tagEvaluation (t : Nat) (bins : List TagBin)
  /-- TAG_ID_WRITE (R189). -/
  | tagIdWrite (v : Word)
  /-- PTH_EXCL_WRITE (R184). -/
  | pthExclWrite (w : Fin 136) (v : Word)
  /-- PTH_EXCL_SET_WRITE (R184). -/
  | pthExclSetWrite (w : Fin 136) (v : Word)
  /-- PPS_EDGE (R194). -/
  | ppsEdge (t : Nat)
  /-- PPS_WINDOW_CLOSE (R194). -/
  | ppsWindowClose (t : Nat)
  /-- NETWORK_SECOND (R205). -/
  | networkSecond (sec : Nat)
  /-- REF10M_WINDOW (R195). -/
  | ref10mWindow (inRange : Bool)
  /-- REF10M_LOSS (R195). -/
  | ref10mLoss
  /-- TOD_MESSAGE (R196). -/
  | todMessage (t : Nat) (msg : List Byte) (gap : Bool)
  /-- TOD_WINDOW_CLOSE (R197). -/
  | todWindowClose (t : Nat)
  /-- HOLDOVER_LIMIT (R198). -/
  | holdoverLimit (t : Nat)
  /-- CLR_CTRL_WRITE (R198). -/
  | clrCtrlWrite (v : Word)
  /-- TIME_SET_ARM (R197). -/
  | timeSetArm (v : Word)
  /-- CLOCK_SNAPSHOT (R202). -/
  | clockSnapshot (t : Nat)
  /-- YK_GRID_WRITE (R205). -/
  | ykGridWrite (v : Word)
  /-- CALENDAR_START_REQUEST (R217). -/
  | calendarStartRequest (v : Word) (t : Nat)
  /-- CALENDAR_STOP_REQUEST (R218). -/
  | calendarStopRequest (v : Word) (t : Nat)
  /-- CALENDAR_START (R217). -/
  | calendarStart (t : Nat)
  /-- CALENDAR_TURN (R214). -/
  | calendarTurn (t : Nat)
  /-- CAL_SWITCH_REQUEST (R219). -/
  | calSwitchRequest (v : Word) (t : Nat)
  /-- ANNOUNCE_REPEAT (R222). -/
  | announceRepeat (t : Nat)
  /-- DOORBELL (R235). -/
  | doorbell (w : Bar2Write) (v : Word) (stores : List HostStore)
  /-- RING_ENABLE (R236). -/
  | ringEnable (g : Fin 180) (v : Word)
  /-- RING_DISABLE (R236). -/
  | ringDisable (g : Fin 180) (v : Word)
  /-- RING_STOP_DONE (R236). -/
  | ringStopDone (g : Fin 180)
  /-- EVENT_WRITE (R252). -/
  | eventWrite
  /-- COALESCE_TIMER (R256). -/
  | coalesceTimer (g : Fin 180)
  /-- SPH_TX_FETCH (R257). -/
  | sphTxFetch (k : Fin 16) (t : Nat)
  /-- SPH_TX_WRITEBACK (R257). -/
  | sphTxWriteback
  /-- SPH_RX_WRITE (R258). -/
  | sphRxWrite (k : Fin 16) (t : Nat)
  /-- DMA_READ_FAIL (R259). -/
  | dmaReadFail (g : Fin 180) (buf : Bool)
  /-- DMA_WRITE_FAIL (R259). -/
  | dmaWriteFail (g : Fin 180) (buf : Bool)
  /-- PCIE_FUNCTION_RESET (R226). -/
  | pcieFunctionReset (k : PcieRst)
  /-- PCIE_LINK_RETRAIN (R269). -/
  | pcieLinkRetrain (rate : Fin 33) (width : Fin 9)
  /-- CAPTURE_ENABLE (R268). -/
  | captureEnable (k : Fin 4) (v : Word) (t : Nat)
  /-- CAPTURE_DISABLE (R274). -/
  | captureDisable (k : Fin 4) (v : Word)
  /-- CAPTURE_DOORBELL (R270). -/
  | captureDoorbell (k : Fin 4) (v : Word) (t : Nat)
  /-- CAPTURE_WRITE (R264). -/
  | captureWrite (k : Fin 4) (t : Nat)
  /-- QUOTA_WINDOW_END (R266). -/
  | quotaWindowEnd (t : Nat)
  /-- CAP_INDEX_LATCH (R276). -/
  | capIndexLatch (k : Fin 4) (oldest : Bool)
  /-- FRAME_INGRESS (R286). -/
  | frameIngress (p : Fin 65) (first : List Byte) (whole : Bool) (ts : Word) (t : Nat)
  /-- FRAME_COMPLETE (R303). -/
  | frameComplete (p : Fin 64) (rest : List Byte) (err : Bool) (t : Nat)
  /-- CROSSBAR_SLOT (R296). -/
  | crossbarSlot (bad : List (Fin 65)) (t : Nat)
  /-- EGRESS_SELECT (R299). -/
  | egressSelect (o : Fin 64) (t : Nat)
  /-- TRANSMIT_END (R316). -/
  | transmitEnd (o : Fin 64) (t : Nat)
  /-- PORT_ENABLE (R281). -/
  | portEnable (p : Fin 64) (v : Word)
  /-- PORT_DISABLE (R281). -/
  | portDisable (p : Fin 64) (v : Word)
  /-- PORT_STOP_DONE (R281). -/
  | portStopDone (p : Fin 64)
  /-- LINK_UP (R281). -/
  | linkUp (p : Fin 64) (rate : Fin 3) (fec : Fin 4)
  /-- LINK_LOSS (R281). -/
  | linkLoss (p : Fin 64) (cut : LinkCut) (t : Nat)
  /-- HOLDOFF_EXPIRY (R305). -/
  | holdoffExpiry (p : Fin 64) (t : Nat)
  /-- AN_TIMEOUT (R279). -/
  | anTimeout (p : Fin 64)
  /-- FWD_INSERT (R289). -/
  | fwdInsert (v : Word)
  /-- FWD_DELETE (R289). -/
  | fwdDelete (v : Word)
  /-- FWD_LOOKUP (R289). -/
  | fwdLookup (v : Word)
  /-- FWD_READ (R289). -/
  | fwdRead (v : Word)
  /-- FWD_CLEAR (R289). -/
  | fwdClear (v : Word)
  /-- FWD_COMMAND_DONE (R289). -/
  | fwdCommandDone
  /-- TOKEN_REFILL (R313). -/
  | tokenRefill (t : Nat)
  /-- SHAPER_APPLY (R315). -/
  | shaperApply (n : Fin 1024) (v : Word)
  /-- POLICER_APPLY (R319). -/
  | policerApply (n : Fin 4096) (v : Word)
  /-- QUEUE_SAMPLE (R326). -/
  | queueSample (t : Nat)
  /-- HEALTH_UPDATE (R351). -/
  | healthUpdate
  /-- HEALTH_OK_ASSERT (R352). -/
  | healthOkAssert
  /-- HELLO_SEND (R337). -/
  | helloSend (t : Nat)
  /-- HELLO (R338). -/
  | hello (h : MirHdr) (w : HelloW) (ofs : Int) (t : Nat)
  /-- TXN (R341). -/
  | txn (h : MirHdr) (w : TxnW) (t : Nat)
  /-- ACK (R340). -/
  | ack (h : MirHdr) (ptn : Word) (cause : Nat) (t : Nat)
  /-- OUTCOME (R342). -/
  | outcome (h : MirHdr) (ptn : Word) (status : Nat) (vt : Word) (t : Nat)
  /-- ANN (R349). -/
  | ann (h : MirHdr) (w : AnnW) (t : Nat)
  /-- CTRL (R344). -/
  | ctrl (h : MirHdr) (w : CtrlW) (t : Nat)
  /-- STATE (R357). -/
  | stateMsg (h : MirHdr) (w : StateW) (t : Nat)
  /-- RETRY (R337). -/
  | retry (h : MirHdr) (lo : Nat) (hi : Nat) (t : Nat)
  /-- MIRROR_LANE_CHANGE (R336). -/
  | mirrorLaneChange (lane : Fin 2) (up : Bool)
  /-- PEER_LOSS (R338). -/
  | peerLoss
  /-- MIRROR_TIMEOUT (R349). -/
  | mirrorTimeout (t : Nat)
  /-- ACTIVE_SEL_CHANGE (R356). -/
  | activeSelChange (sel : Bool)
  /-- RECLAIM_HOLD (R360). -/
  | reclaimHold
  /-- PAIR_RESYNC (R356). -/
  | pairResync (v : Word)
  /-- FAB_HELLO_SEND (R370). -/
  | fabHelloSend (t : Nat)
  /-- FAB_HELLO (R371). -/
  | fabHello (m : FabMsg) (port : Fin 64) (t : Nat)
  /-- DISC_SEND (R375). -/
  | discSend (t : Nat)
  /-- DISC (R376). -/
  | disc (m : FabMsg) (t : Nat)
  /-- LSA (R371). -/
  | lsa (m : FabMsg) (t : Nat)
  /-- ROUTE_RECOMPUTE (R371). -/
  | routeRecompute
  /-- NEIGHBOUR_LOSS (R371). -/
  | neighbourLoss (d : Fin 64) (t : Nat)
  /-- RESERVE (R378). -/
  | reserve (m : FabMsg) (t : Nat)
  /-- RESV_REPLY (R379). -/
  | resvReply (m : FabMsg) (t : Nat)
  /-- COMMIT (R379). -/
  | commit (m : FabMsg) (t : Nat)
  /-- FAB_OUTCOME (R380). -/
  | fabOutcome (m : FabMsg) (t : Nat)
  /-- DOWN (R384). -/
  | down (m : FabMsg) (t : Nat)
  /-- CONTROL_RETRANSMIT (R371). -/
  | controlRetransmit (t : Nat)
  /-- RESERVATION_TIMEOUT (R379). -/
  | reservationTimeout (t : Nat)
  /-- LINK_LOSS_DETECT (R383). -/
  | linkLossDetect (t : Nat)
  /-- PROBE_DWELL (R375). -/
  | probeDwell (t : Nat)
  /-- FAULT_SOURCE_SET (R389). -/
  | faultSourceSet (n : Fin 256) (cause : Bool) (info : Word)
  /-- FLT_FORCE (R392). -/
  | fltForce (g : Fin 8) (v : Word)
  /-- FLT_STAT_CLEAR (R395). -/
  | fltStatClear (g : Fin 8) (v : Word)
  /-- FLT_CONFIG_WRITE (R394). -/
  | fltConfigWrite (g : Fin 8) (w : Fin 3) (v : Word)
  /-- ESCALATION_EXPIRY (R394). -/
  | escalationExpiry (n : Fin 256) (us : Nat) (info : Word)
  /-- PARITY_ERROR (R403). -/
  | parityError (source : Fin 25) (again : Bool)
  /-- SAFE_ENTRY_COMPLETE (R399). -/
  | safeEntryComplete (force : Bool)
  /-- SENSOR_MEASURE (R409). -/
  | sensorMeasure (t : Nat) (l : List SnsRead)
  /-- THERMAL_RESTART (R415). -/
  | thermalRestart
  /-- THERMAL_RESTART_RELEASE (R415). -/
  | thermalRestartRelease (m : Fin 4) (pref : Bool) (devid : Fin 64) (bootSrc : Bool)
  /-- TEC_LOOP (R417). -/
  | tecLoop
  /-- TEC_BAND_TIMEOUT (R418). -/
  | tecBandTimeout
  /-- PWM_RELOAD (R419). -/
  | pwmReload (ch : Fin 4)
  /-- PWM_PULSE_END (R420). -/
  | pwmPulseEnd (ch : Fin 4)
  /-- PWM_FAULT_INPUT (R422). -/
  | pwmFaultInput (n : Fin 3) (active : Bool)
  /-- PWM_ENABLE (R421). -/
  | pwmEnable (ch : Fin 4) (v : Word)
  /-- PWM_DISABLE (R421). -/
  | pwmDisable (ch : Fin 4) (v : Word)
  /-- PWM_UPDATE (R424). -/
  | pwmUpdate (ch : Fin 4) (v : Word)
  /-- POWER_TARGET_WRITE (R426). -/
  | powerTargetWrite (v : Word) (t : Nat)
  /-- POWER_ENTRY (R426). -/
  | powerEntry (off : Bool) (t : Nat)
  /-- POWER_CHANGE_DONE (R427). -/
  | powerChangeDone (t : Nat)
  /-- AUTO_WAKE (R428). -/
  | autoWake (t : Nat)
  /-- LOCKSTEP_HALT (R433). -/
  | lockstepHalt
  /-- HEARTBEAT (R434). -/
  | heartbeat
  /-- HEARTBEAT_LATE (R434). -/
  | heartbeatLate
  /-- INTERRUPT_ENTRY (R440). -/
  | interruptEntry
  /-- INTERRUPT_RETURN (R441). -/
  | interruptReturn
  /-- IC_GATE_WRITE (R442). -/
  | icGateWrite (gate : Bool)
  /-- PRALE_SLEEP (R444). -/
  | praleSleep
  /-- PRALE_WAKE (R443). -/
  | praleWake (line : Fin 32)
  /-- READ_32 (R446). -/
  | read32 (code : Byte) (t : Nat)
  /-- WRITE_32 (R446). -/
  | write32 (code : Byte) (v : Word) (pec : Option Byte) (t : Nat)
  /-- ALERT_RESPONSE (R445). -/
  | alertResponse
  /-- LOG_APPEND (R449). -/
  | logAppend
  /-- STAGE_RELEASE (R453). -/
  | stageRelease (v : Word)
  /-- STAGE_COMMIT (R453). -/
  | stageCommit (v : Word) (flashOk : Bool)
  /-- STAGING_TIMEOUT (R453). -/
  | stagingTimeout
  /-- SLOT_CONFIRM (R455). -/
  | slotConfirm
  /-- TRIM_CHECK (R471). -/
  | trimCheck (t : Nat)
  /-- TRIM (R471). -/
  | trim (t : Nat)
  /-- PROBE_LEARN (R468). -/
  | probeLearn (t : Nat)
  /-- CAL_ELEC (R473). -/
  | calElec (t : Nat)
  /-- CAL_OPT (R474). -/
  | calOpt (t : Nat)
  /-- RESTORE (R477). -/
  | restore (t : Nat)
  /-- ABORT (R476). -/
  | abort (t : Nat)
  /-- PROBE_LAYER_DWELL (R468). -/
  | probeLayerDwell (t : Nat)
  /-- TRIM_PULSE (R470). -/
  | trimPulse (c : Fin 136) (t : Nat)
  /-- CAL_STEP_DONE (R472). -/
  | calStepDone (l : List CalMeas) (meas : List PortMeas) (t : Nat)
  /-- CAL_RUN_DONE (R472). -/
  | calRunDone (t : Nat)
  /-- RC_REGISTER_READ (R12). -/
  | rcRegisterRead (a : Nat)
  /-- PPS_LOSS_BEFORE_SET (R194). -/
  | ppsLossBeforeSet (t : Nat)
  /-- HV_SUPPLY_RETURN (R122). -/
  | hvSupplyReturn
  /-- SMBUS_TIMEOUT (R488). -/
  | smbusTimeout
  /-- PERST_N_DEASSERTION (R461). -/
  | perstNDeassertion
  deriving DecidableEq, Repr

end Sys2Proof
end

