-- ==== Sys2Proof/Decode.lean ====
section
/-! DEFINITION. The commands of the T512 come from pins, buses and its own engines: no row of spec/opcode_table.json
gives a command bits, so no word spells one. -/
namespace Sys2Proof

/-- The command a table word spells: none, because the table gives no row bits. -/
def decodeTableWord (nbits w : Nat) : Option Instr :=
  match nbits, w with
  | _, _ => none

end Sys2Proof
end

