-- ==== Sys2Proof/Machine/Bits.lean ====
section
/-! DEFINITION. Bit fields (R10), the saturations of R18, signed readings and the rounding the rules ask for. -/
namespace Sys2Proof.Machine

/-- The value of `len` bits of `w` from bit `lo` upwards (R10). -/
def fget (lo len : Nat) (w : Word) : Nat := (w.toNat >>> lo) % 2 ^ len

/-- `w` with the `len` bits from `lo` upwards replaced by `v` (R10). -/
def fput (lo len : Nat) (v : Nat) (w : Word) : Word :=
  BitVec.ofNat 32 (w.toNat % 2 ^ lo + (v % 2 ^ len) * 2 ^ lo + (w.toNat / 2 ^ (lo + len)) * 2 ^ (lo + len))

/-- Bit `n` of a word. -/
def bit (n : Nat) (w : Word) : Bool := w.toNat.testBit n

/-- A word from a natural number, modulo 2^32. -/
abbrev wd (n : Nat) : Word := BitVec.ofNat 32 n

/-- 1 for true, 0 for false. -/
def b2n (b : Bool) : Nat := if b then 1 else 0

/-- `x` clamped to lo..hi. -/
def clampI (lo hi x : Int) : Int := if x < lo then lo else if hi < x then hi else x

/-- `x` clamped to lo..hi. -/
def clampN (lo hi x : Nat) : Nat := if x < lo then lo else if hi < x then hi else x

/-- `sat(x, n)` of R18: the signed n-bit clamp. -/
def sat (n : Nat) (x : Int) : Int := clampI (-(2 ^ (n - 1) : Nat)) ((2 ^ (n - 1) : Nat) - 1) x

/-- `usat(x, n)` of R18: the unsigned n-bit clamp. -/
def usat (n : Nat) (x : Int) : Int := clampI 0 ((2 ^ n : Nat) - 1) x

/-- The signed reading of the low `n` bits of `x` (two's complement). -/
def sgn (n : Nat) (x : Nat) : Int :=
  if x % 2 ^ n < 2 ^ (n - 1) then ((x % 2 ^ n : Nat) : Int) else ((x % 2 ^ n : Nat) : Int) - (2 ^ n : Nat)

/-- The low `n` bits of an integer in two's complement. -/
def low (n : Nat) (x : Int) : Nat := (x % ((2 ^ n : Nat) : Int)).toNat

/-- Arithmetic shift right: towards minus infinity (R18). -/
def asr (x : Int) (k : Nat) : Int := x / ((2 ^ k : Nat) : Int)

/-- Division rounded up. -/
def ceilDiv (a b : Nat) : Nat := (a + b - 1) / b

/-- Division of an integer by a positive number, rounded half away from zero (R136). -/
def roundDiv (a : Int) (b : Nat) : Int :=
  if 0 ≤ a then (2 * a + b) / (2 * b) else -((2 * (-a) + b) / (2 * b))

/-- A saturating 32-bit count (the saturating counters of the register tables). -/
def satInc (w : Word) (n : Nat) : Word := if 0xFFFFFFFF ≤ w.toNat + n then wd 0xFFFFFFFF else wd (w.toNat + n)

/-- Bits set in the low `n` bits of `x`. -/
def popcount : Nat → Nat → Nat
  | 0, _ => 0
  | n + 1, x => x % 2 + popcount n (x / 2)

/-- `k` little-endian bytes of `x` (R10). -/
def leBytes : Nat → Nat → List Byte
  | 0, _ => []
  | k + 1, x => BitVec.ofNat 8 x :: leBytes k (x / 256)

/-- The little-endian value of a list of bytes (R10). -/
def leValue : List Byte → Nat
  | [] => 0
  | b :: t => b.toNat + 256 * leValue t

/-- The bytes of a list of 32-bit words, each little-endian. -/
def wordBytes (l : List Word) : List Byte := l.flatMap fun w => leBytes 4 w.toNat

/-- The words of a list of bytes (a tail of fewer than four bytes is dropped). -/
def bytesWords : List Byte → List Word
  | a :: b :: c :: d :: t => wd (leValue [a, b, c, d]) :: bytesWords t
  | _ => []

/-- `l` with element `i` set to `v`. -/
def lset {α : Type} (l : List α) (i : Nat) (v : α) : List α := l.set i v

/-- `l` padded with zero words to `n` words, cut at `n`. -/
def padW (n : Nat) (l : List Word) : List Word := (l ++ List.replicate n 0).take n

end Sys2Proof.Machine
end

