-- ==== Sys2Proof/Machine/Crc.lean ====
section
/-! DEFINITION. The checks over bytes: the CRC-8 of tag words (R173) and the CRC-32C of R288. -/
namespace Sys2Proof.Machine

/-- One bit of the CRC-8 with polynomial 0x07, most significant bit first. -/
def crc8Bit (c : Nat) : Nat := if 128 ≤ c then ((c * 2) ^^^ 0x07) % 256 else c * 2

/-- The CRC-8 of bytes from initial value 0 (R173). -/
def crc8 (l : List Nat) : Nat :=
  l.foldl (fun c b => (List.range 8).foldl (fun c _ => crc8Bit c) (c ^^^ b)) 0

/-- The 24-bit tag frame of a word (R173). -/
def tagFrame (w : Nat) : Nat := w * 256 + (crc8 [w / 256 % 256, w % 256] ^^^ 0xA5)

/-- The word of a received 24-bit frame when its check holds (R173). -/
def tagWordOf (f : Nat) : Option Nat := if tagFrame (f / 256) = f then some (f / 256) else none

/-- One bit of the reflected CRC-32C (polynomial 0x82F63B78). -/
def crc32Bit (c : Nat) : Nat := if c % 2 = 1 then (c / 2) ^^^ 0x82F63B78 else c / 2

/-- The CRC-32C of bytes (R288). -/
def crc32c (l : List Byte) : Word :=
  wd ((l.foldl (fun c b => (List.range 8).foldl (fun c _ => crc32Bit c) (c ^^^ b.toNat)) 0xFFFFFFFF) ^^^ 0xFFFFFFFF)

/-- One bit of the reflected CRC of the Ethernet FCS (polynomial 0xEDB88320). -/
def fcsBit (c : Nat) : Nat := if c % 2 = 1 then (c / 2) ^^^ 0xEDB88320 else c / 2

/-- The frame check sequence of IEEE 802.3 over bytes, in the order in which it is sent. -/
def fcs (l : List Byte) : List Byte :=
  leBytes 4 ((l.foldl (fun c b => (List.range 8).foldl (fun c _ => fcsBit c) (c ^^^ b.toNat)) 0xFFFFFFFF) ^^^ 0xFFFFFFFF)

/-- The complement of the correct FCS (R304). -/
def fcsInv (l : List Byte) : List Byte := (fcs l).map fun b => ~~~ b

/-- The FCS of a whole frame checks. -/
def fcsOk (l : List Byte) : Bool := fcs (l.take (l.length - 4)) == l.drop (l.length - 4)

end Sys2Proof.Machine
end

