-- ==== Sys2Proof/Machine/Store.lean ====
section
/-! DEFINITION. Sparse stores: a sorted list of (key, value) pairs with a default for every unlisted key, and the
host memory as a canonical list of `Host.Cell`. -/
namespace Sys2Proof.Machine

/-- A sparse table by number. -/
abbrev SMap (α : Type) := List (Nat × α)

/-- The value at key `a`, `d` where none is listed. -/
def sget {α : Type} (d : α) : SMap α → Nat → α
  | [], _ => d
  | (k, v) :: t, a => if k = a then v else sget d t a

/-- The table with `v` at key `a`. -/
def sset {α : Type} : SMap α → Nat → α → SMap α
  | [], a, v => [(a, v)]
  | (k, w) :: t, a, v =>
    if a < k then (a, v) :: (k, w) :: t else if a = k then (k, v) :: t else (k, w) :: sset t a v

/-- The value at key `a`, if one is listed. -/
def sfind {α : Type} : SMap α → Nat → Option α
  | [], _ => none
  | (k, v) :: t, a => if k = a then some v else sfind t a

/-- The table without key `a`. -/
def sdel {α : Type} (m : SMap α) (a : Nat) : SMap α := m.filter fun p => p.1 ≠ a

/-- What an unlisted byte of host memory reads as (DESIGN CHOICE, log entry 8: no rule gives the content of the
host's memory). -/
def Memory.blank : Byte := 0

/-- The byte at an address of a memory list. -/
def Memory.get : List Host.Cell → Nat → Byte
  | [], _ => Memory.blank
  | (k, v) :: t, a => if k = a then v else Memory.get t a

/-- A memory list with the byte at `a` set to `v`; the canonical form is kept: addresses rising, no entry that equals
what an unlisted address reads as. -/
def Memory.put : List Host.Cell → Nat → Byte → List Host.Cell
  | [], a, v => if v = Memory.blank then [] else [(a, v)]
  | (k, w) :: t, a, v =>
    if a < k then (if v = Memory.blank then (k, w) :: t else (a, v) :: (k, w) :: t)
    else if a = k then (if v = Memory.blank then t else (k, v) :: t)
    else (k, w) :: Memory.put t a v

/-- Writes the bytes `l` from address `a` upwards. -/
def Memory.putL : List Host.Cell → Nat → List Byte → List Host.Cell
  | m, _, [] => m
  | m, a, b :: t => Memory.putL (Memory.put m a b) (a + 1) t

/-- Reads `n` bytes from address `a` upwards. -/
def Memory.getL (m : List Host.Cell) : Nat → Nat → List Byte
  | _, 0 => []
  | a, n + 1 => Memory.get m a :: Memory.getL m (a + 1) n

/-- Every address listed lies above `a`, rising, with no blank entry. -/
def Memory.wfFrom : Nat → List Host.Cell → Bool
  | _, [] => true
  | a, (k, v) :: t => decide (a ≤ k) && decide (v ≠ Memory.blank) && Memory.wfFrom (k + 1) t

/-- The canonical form of host memory: addresses strictly rising, no entry that equals what an unlisted address
reads as. -/
def Memory.wf (m : List Host.Cell) : Bool := Memory.wfFrom 0 m

end Sys2Proof.Machine
end

