-- ==== Sys2Proof/Machine/Blocks.lean ====
section
/-! DEFINITION. The state of the optical blocks: straps and reset domains, the Placket, the lanes with their taps,
profiles and settle checks, the cluster engines, and the completion collector. -/
namespace Sys2Proof.Machine

/-- The sampled straps and the state of the reset domains (R28, R29, R460, R461). -/
structure Sys where
  /-- power-on reset in force (R460) -/
  por : Bool
  /-- the main domains held in reset by a main rail (R460) -/
  mainRst : Bool
  /-- the main domains held in reset by the hardware restart (R415) -/
  thmRst : Bool
  /-- boot stage completed so far; 15 when ready (R461) -/
  stage : Nat
  /-- the boot has stopped after a failure (R463) -/
  stopped : Bool
  /-- PERST_N deasserted: the endpoint answers configuration requests (R461) -/
  pcie : Bool
  mode : Nat
  pref : Bool
  devid : Nat
  bootSrc : Bool
  /-- the high-voltage supplies stand within limits (R122) -/
  hvOk : Bool
  /-- negotiated link rate in GT/s and width (R268) -/
  linkRate : Nat
  linkWidth : Nat
  /-- whether the module has been ready since the last power-on reset (R54) -/
  readySince : Bool
  deriving DecidableEq, Repr

/-- The Placket (R53 to R60): the state code of R54 and what PLK_STATUS shows. -/
inductive PlkSt where
  | released | engaging | engaged | releasing
  deriving DecidableEq, Repr

/-- The Placket (R54 to R60). -/
structure Plk where
  st : PlkSt
  engPend : Bool
  pumpOk : Bool
  holdV : Nat
  deriving DecidableEq, Repr

/-- The loop states of R82. -/
inductive LaneSt where
  | off | profile | acquire | locked | hold | fault | block | atten
  deriving DecidableEq, Repr

/-- The state code of R82. -/
def LaneSt.code : LaneSt → Nat
  | .off => 0 | .profile => 1 | .acquire => 2 | .locked => 3
  | .hold => 4 | .fault => 5 | .block => 6 | .atten => 7

/-- One conversion as it counts in a power word (R104): corrected code, range, stale flag. -/
structure Conv where
  code : Nat
  hi : Bool
  stale : Bool
  deriving DecidableEq, Repr

/-- One tap front end (R100 to R104). -/
structure Tap where
  /-- range by role of a switching lane's conversions in the running frame: HI (R101) -/
  hi : Bool
  /-- overload of R102, and its count of low LO conversions -/
  ovl : Bool
  lowRun : Nat
  /-- the last conversions, newest first, at most 16 -/
  convs : List Conv
  /-- the power word of R104, 1/256 dBm -/
  word : Int
  /-- long average of R94, 1/256 dBm (Cuff lanes) -/
  avg : Int
  deriving DecidableEq, Repr

/-- The feed-forward profile of R135 and R136. -/
structure Prof where
  on : Bool
  /-- updates done, of `len` -/
  n : Nat
  len : Nat
  x0 : Int
  tgt : Int
  deriving DecidableEq, Repr

/-- Results of a lane transition, coded as PRF_LAST.RESULT (R152). -/
inductive LaneRes where
  | none | settled | unobserved | settleFail | superseded | aborted | progress
  deriving DecidableEq, Repr

/-- The code of PRF_LAST.RESULT. -/
def LaneRes.code : LaneRes → Nat
  | .none => 0 | .settled => 1 | .unobserved => 2 | .settleFail => 3
  | .superseded => 4 | .aborted => 5 | .progress => 6

/-- The transition of a lane while its check or its measurement window is open (R140, R147). -/
structure Trans where
  pat : Nat
  /-- network time of the strobe, ns -/
  t0 : Nat
  /-- frames begun since the strobe: the next frame's index -/
  f : Nat
  res : LaneRes
  /-- frame of decision -/
  df : Nat
  /-- settle time in 15.625 ns units -/
  tset : Nat
  dist : Nat
  /-- its record is written (R147) -/
  recd : Bool
  /-- its strobe closed the record of an earlier transition (R148) -/
  sup : Bool
  peakLeak : Int
  maxLit : Int
  /-- its conversion path was under calibration at the strobe (R476) -/
  cal : Bool
  deriving DecidableEq, Repr

/-- One Sleeve lane with its drive channel (R68 to R97, R117 to R130, R135 to R148). -/
structure Lane where
  st : LaneSt
  /-- commanded slot: true is slot 1 (PASS1, or blocking) -/
  cmd : Bool
  lit : Bool
  litRun : Nat
  darkRun : Nat
  /-- HOLD_WHY of LANE_STAT -/
  why : Nat
  /-- the sticky flags LANE_STAT[7:0] -/
  sticky : BitVec 8
  /-- the integrator, 1/256 code -/
  i : Int
  /-- set-point change not yet absorbed (R81), codes -/
  spAdj : Int
  /-- slot and network time of the last host write of a set-point (R81) -/
  spAt : Option (Bool × Nat)
  /-- network time of the last RESTART that was taken, and whether the lane was isolated before it (R85) -/
  rstAt : Option (Nat × Bool)
  /-- demodulator: sum, last products newest first, fill, error (R72) -/
  win : Int
  hist : List Int
  fill : Nat
  e : Int
  /-- the demodulator reference latched at the start of the dark tap's conversion (R124) -/
  ref : Int
  lockRun : Nat
  unlockRun : Nat
  satRun : Nat
  leakRun : Nat
  /-- microseconds in ACQUIRE without interruption (R85) -/
  acq : Nat
  /-- microseconds for which the leak check stays idle (R139), and the classification (R92) -/
  leakIdle : Nat
  classIdle : Nat
  /-- calibration hold: classed afresh when it ends (R93, R106) -/
  fresh : Bool
  tap0 : Tap
  tap1 : Tap
  /-- loop drive value held or computed by the loop (R78, R94, R96); for a Cuff lane before the clamp of R96 -/
  drv : Int
  /-- LANE_CFG.DAMP as it took effect at the lane's last update (R85) -/
  damp : Nat
  /-- value in the buffer, value loaded, code at the DAC (R118, R129) -/
  buf : Int
  loaded : Int
  out : Int
  /-- the output was clamped high, low at the last update (R74) -/
  clampHi : Bool
  clampLo : Bool
  isol : Bool
  /-- tone synthesiser (R123 to R127) -/
  acc : Nat
  rem : Nat
  on : Bool
  amp : Nat
  ash : Nat
  /-- amplitude and shift the path service set for the tag tone (R172) -/
  tagAmp : Nat
  tagAsh : Nat
  invP : Bool
  /-- the last update was a zero crossing (R126) -/
  zc : Bool
  prof : Prof
  tr : Option Trans
  /-- LANE_CUF: loss target, VALID, SRC -/
  tgt : Nat
  valid : Bool
  src : Nat
  /-- long average last sent over the exchange (R95) -/
  sent : Int
  deriving DecidableEq, Repr

/-- A tap at reset: no conversion made, the word at the floor (DESIGN CHOICE, log entry 3). -/
def Tap.reset : Tap := ⟨false, false, 0, [], -32768, -32768⟩

/-- A lane at reset: in the path slot, so that the dark tap of a switching lane is tap 1, in HI (R45, R101). -/
def Lane.reset : Lane :=
  { st := .off, cmd := false, lit := false, litRun := 0, darkRun := 0, why := 0, sticky := 0, i := 0, spAdj := 0, spAt := none, rstAt := none,
    win := 0, hist := [], fill := 0, e := 0, ref := 0, lockRun := 0, unlockRun := 0, satRun := 0, leakRun := 0,
    acq := 0, leakIdle := 0, classIdle := 0, fresh := true, tap0 := Tap.reset, tap1 := { Tap.reset with hi := true }, drv := 0, damp := 0, buf := 0,
    loaded := 0, out := 0, clampHi := false, clampLo := false, isol := false, acc := 0, rem := 0, on := false,
    amp := 0, ash := 0, tagAmp := 0, tagAsh := 0, invP := false, zc := false, prof := ⟨false, 0, 0, 0, 0⟩,
    tr := none, tgt := 0, valid := false, src := 0, sent := -32768 }

/-- The reference of one ADC (R108): settled or not. -/
structure AdcRef where
  settled : Bool
  /-- the settle time is running -/
  settling : Bool
  deriving DecidableEq, Repr

/-- One accumulator while its window runs (R111, R112). -/
structure Acc where
  sum : Nat
  cnt : Nat
  mn : Nat
  mx : Nat
  hi : Bool
  stale : Bool
  short : Bool
  deriving DecidableEq, Repr

/-- An accumulator at a window start in the given range. -/
def Acc.start (hi : Bool) : Acc := ⟨0, 0, 4095, 0, hi, false, false⟩

/-- The accumulator engine of a cluster (R113 to R115). -/
structure AccEng where
  /-- the engine is enabled (ACC_EN in effect) -/
  en : Bool
  running : Bool
  latched : Bool
  stopping : Bool
  enPend : Bool
  /-- a triggered scan starts at the next frame boundary -/
  startP : Bool
  /-- frames done in the running window -/
  fi : Nat
  /-- K and TRIG_SRC in force -/
  k : Nat
  src : Nat
  /-- network time of the last trigger taken, by its source (R114) -/
  hostAt : Option Nat
  strobeAt : Option Nat
  deriving DecidableEq, Repr

/-- Bookkeeping of one pattern in a cluster until its report (R145). -/
structure ClTrans where
  pat : Nat
  t0 : Nat
  /-- taking-part lanes not yet decided -/
  open_ : Nat
  nSet : Nat
  nUnobs : Nat
  nFail : Nat
  nSup : Nat
  nAb : Nat
  /-- latest settle time, ns after the strobe, 0 for none -/
  tl : Nat
  /-- some lane has a settle time -/
  has : Bool
  deriving DecidableEq, Repr

/-- One Sleeve cluster (R22, R91 to R95, R105 to R115, R121). -/
structure Cluster where
  /-- RUN has taken effect -/
  runAct : Bool
  /-- lanes held for P2 -/
  p2 : Bool
  /-- microseconds since RUN was last set, for the learning tick (R79) -/
  tick : Nat
  /-- drive update in the frame, 0 to 11 (R133) -/
  upd : Nat
  /-- references of ADC 0 to 7 -/
  adc : List AdcRef
  eng : AccEng
  accs : SMap Acc
  /-- safe-state force in effect (R121) -/
  safe : Bool
  /-- host load strobes waiting, slot strobe waiting for the next update (R129) -/
  ldP : Nat
  slotP : Bool
  tr : List ClTrans
  /-- pattern of the transition in progress or of the last one (R151) -/
  lastPat : Nat
  /-- ingress Cuff cluster: its exchange words are fresh (R95) -/
  exFresh : Bool
  deriving DecidableEq, Repr

/-- A cluster at reset (R131, R151). -/
def Cluster.reset : Cluster :=
  { runAct := false, p2 := false, tick := 0, upd := 0, adc := List.replicate 8 ⟨false, true⟩,
    eng := ⟨false, false, false, false, false, false, 0, 10, 0, none, none⟩, accs := [], safe := false, ldP := 0, slotP := false,
    tr := [], lastPat := 0, exFresh := false }

/-- Results of R145, coded. -/
inductive ColRes where
  | complete | failed | superseded | aborted
  deriving DecidableEq, Repr

/-- The code of R145. -/
def ColRes.code : ColRes → Nat
  | .complete => 0 | .failed => 1 | .superseded => 2 | .aborted => 3

/-- The worse of two results (R145: the first row that applies; R146). -/
def ColRes.worse (a b : ColRes) : ColRes := if a.code < b.code then b else a

/-- The outcome of a pattern as those that it superseded see it (R186): result, valid time, UNOBSERVED lanes, failed elements,
a repair pattern. -/
structure ByOut where
  res : ColRes
  vt : Word
  unobs : Bool
  bad : List Nat
  rep : Bool
  deriving DecidableEq, Repr

/-- A pattern in flight in the collector (R146). -/
structure ColEnt where
  pat : Nat
  /-- network time of the strobe -/
  t0 : Nat
  /-- clusters still awaited, ascending -/
  wait : List Nat
  /-- some cluster is involved -/
  inv : Bool
  res : ColRes
  nUnobs : Nat
  nFail : Nat
  /-- latest settle time, ns after the strobe -/
  tl : Nat
  has : Bool
  /-- the pattern that superseded it, and that pattern's outcome once known (R186) -/
  by_ : Option Nat
  byOut : Option ByOut
  deriving DecidableEq, Repr

end Sys2Proof.Machine
end

