-- ==== Sys2Proof/Machine/ServiceBlocks.lean ====
section
/-! DEFINITION. The state of the time block, the schedule engine and the path service. -/
namespace Sys2Proof.Machine

/-- The Collar states of R198. -/
inductive ClrSt where
  | unset | freerun | acquire | locked | holdover
  deriving DecidableEq, Repr

/-- The code of R198. -/
def ClrSt.code : ClrSt → Nat
  | .unset => 0 | .freerun => 1 | .acquire => 2 | .locked => 3 | .holdover => 4

/-- The Collar (R190 to R202). -/
structure Clr where
  /-- network time, ns since the epoch: SEC × 1,000,000,000 + NS (R190) -/
  now : Nat
  st : ClrSt
  phi : Int
  fint : Int
  adj : Int
  lockRun : Nat
  unlockRun : Nat
  ppsOk : Bool
  /-- network time of the last accepted edge -/
  lastEdge : Option Nat
  /-- an edge was accepted in the window that closes next, and seconds missed in a row (R194) -/
  edgeIn : Bool
  missed : Nat
  /-- consecutive agreeing edges outside the window: their number, the phase of the first, and the least and largest
  phase of the others against it (R198) -/
  badRun : Nat
  badRef : Int
  badLo : Int
  badHi : Int
  /-- good 10 ms windows in a row, and REF10M_IN valid (R195) -/
  refRun : Nat
  refOk : Bool
  todOk : Bool
  /-- seconds of the last valid message: before the setting any, after it one that disagreed (R197) -/
  todLast : Option Nat
  /-- seconds to be applied at the edge that the message names (R197), and the network time of that edge -/
  todSet : Option Nat
  todEdge : Nat
  /-- network time at which the waiting setting was first formed (R201) -/
  setAt : Option Nat
  /-- a valid agreeing message came since the last accepted edge -/
  todSeen : Bool
  /-- a step waits for the Yoke to be quiet (R201) -/
  stepP : Bool
  /-- network time of the entry to HOLDOVER (R198) -/
  holdAt : Nat
  deriving DecidableEq, Repr

/-- What a pattern sets on one lane (R204): the slot and, for a Cuff lane, set-point, target and tone. -/
structure LaneSet where
  e : Nat
  slot : Bool
  sp0 : Option Nat
  tgt : Option Nat
  valid : Option Bool
  src : Option Nat
  amp : Option Nat
  ash : Option Nat
  deriving DecidableEq, Repr

/-- States of a pattern entry that is not FREE (R204). -/
inductive PatSt where
  | staged | armed | inFlight | resident
  deriving DecidableEq, Repr

/-- What a pattern is for. -/
inductive PatKind where
  | request | repair | rollback | layer | probe | calib
  deriving DecidableEq, Repr

/-- An entry of the pattern store (R204). -/
structure PatEnt where
  num : Nat
  st : PatSt
  kind : PatKind
  lanes : List LaneSet
  /-- the boundary at which it is due, network time in ns; of a pattern that waits for a turn, the time before which no turn is
  its (R215) -/
  due : Nat
  /-- its commit lead in ns (R205) -/
  lead : Nat
  /-- its request named a time (R201, R205) -/
  timed : Bool
  /-- placement order: the stamp of its last placement (R209) -/
  order : Nat
  /-- held until the return to P0 (R210) -/
  heldP : Bool
  layer : Nat
  /-- it fired at a turn (R214) -/
  turn : Bool
  deriving DecidableEq, Repr

/-- The Yoke (R204 to R222). MODE: 0 STATIC, 1 CAL_PENDING, 2 CALENDAR, 3 CAL_STOPPING. -/
structure Yk where
  mode : Nat
  bank : Bool
  entry : Nat
  /-- start of the calendar or of the last bank switch, and the time a pending start is due -/
  start : Nat
  calAt : Nat
  /-- the next turn: its time and its entry -/
  turnAt : Nat
  turnEnt : Nat
  calPend : Bool
  swPend : Bool
  /-- earliest time of the pending bank switch, and in a pair the turn that the active module named (R219, R344) -/
  swAt : Nat
  /-- a stop was asked for; in a pair, its turn (R344) -/
  stopAt : Nat
  cycles : Nat
  /-- slot length in force, µs; the register holds the accepted one (R205) -/
  slot : Nat
  store : List PatEnt
  lastPat : Nat
  /-- stamp of the next placement -/
  stamp : Nat
  annSeq : Nat
  /-- announcement frames handed to the signalling fabric and not yet taken by it: how many of the waiting control messages were
  made before each, and its payload (R220, R300) -/
  annOut : List (Nat × List Byte)
  deriving DecidableEq, Repr

/-- Path states of R155. -/
inductive PathSt where
  | idle | pending | active | degraded | repairing
  deriving DecidableEq, Repr

/-- The code of R155. -/
def PathSt.code : PathSt → Nat
  | .idle => 0 | .pending => 1 | .active => 2 | .degraded => 3 | .repairing => 4

/-- A path record (R154, R155). -/
structure PathRec where
  st : PathSt
  out : Nat
  mid : Nat
  eqR : Bool
  validT : Word
  deriving DecidableEq, Repr

/-- The record of an in-port without a path. -/
def PathRec.idle : PathRec := ⟨.idle, 0, 0, false, 0⟩

/-- The verifier of one path (R175, R176), by in-port. -/
structure TagV where
  /-- status code of R176 -/
  status : Nat
  /-- strobe or resumption, network time in ns; in the future while a restart waits for the grid (R201) -/
  since : Nat
  /-- evaluations without, with the tone in a row -/
  loss : Nat
  pres : Nat
  /-- bits of the running frame, newest first -/
  bits : List Bool
  /-- the evaluation at the start of the running frame found the tone -/
  tone0 : Bool
  /-- the same for the frame that begins at the last frame boundary, until the frame before it is taken up -/
  tone1 : Bool
  misRun : Nat
  misWord : Nat
  badRun : Nat
  /-- last frame decoded with a valid check, 0 for none -/
  last : Nat
  deriving DecidableEq, Repr

/-- No path: status OFF. -/
def TagV.off : TagV := ⟨0, 0, 0, 0, [], false, false, 0, 0, 0, 0⟩

/-- A report to the path service (R90, R142, R180): kind 0 lane FAULT, 1 SETTLE_FAIL of pattern `pat`, 2 continuity, 3 SETTLE_FAIL
whose pattern has resolved. -/
structure Report where
  e : Nat
  kind : Nat
  pat : Nat
  /-- network time of the report -/
  t : Nat
  /-- detection bound of its source in µs (PTH_REP_STAT) -/
  bound : Nat
  deriving DecidableEq, Repr

/-- One request of a transaction (R156, R246). -/
structure Req where
  op : Nat
  reqId : Word
  a : Nat
  b : Nat
  layer : Nat
  sel : Bool
  cmdCI : Nat
  /-- its completion slot -/
  id : Nat
  /-- DST_DEV in a fabric (R377) -/
  dst : Nat
  deriving DecidableEq, Repr

/-- A delivered transaction, or a QUERY, FENCE or management descriptor on its own (R157, R239). -/
structure Txn where
  /-- local number of the command ring, and of its completion ring -/
  ring : Nat
  cring : Nat
  reqs : List Req
  asap : Bool
  rasap : Bool
  policy : Nat
  actT : Nat
  rearrT : Nat
  maxMoved : Nat
  movedAddr : Nat
  movedCap : Nat
  /-- management descriptors (R247) -/
  buf : Nat
  len : Nat
  ofs : Nat
  switch : Bool
  /-- network time of delivery -/
  t : Nat
  deriving DecidableEq, Repr

/-- The transaction under check or placement. -/
structure Cur where
  txn : Txn
  /-- requests checked so far -/
  idx : Nat
  /-- first failed check of R161: its position in the order, and its status -/
  fail : Option (Nat × Nat)
  deriving DecidableEq, Repr

/-- A planned route: out-port and middle node. -/
structure Route where
  out : Nat
  mid : Nat
  deriving DecidableEq, Repr

/-- A change of one table key by a transaction: its route before and after, and its record before (R158). -/
structure Chg where
  key : Nat
  old : Option Route
  new : Option Route
  rcd : PathRec
  deriving DecidableEq, Repr

/-- A placed transaction that is not resolved (R158, R186). -/
structure Placed where
  /-- its number, in placement order -/
  id : Nat
  txn : Txn
  pat : Nat
  /-- staged: the pattern is in the store -/
  staged : Bool
  /-- fired: its routes are in force -/
  fired : Bool
  /-- every path it names or moves -/
  chg : List Chg
  moved : List Nat
  /-- existing paths move: REARRANGED (R161); the placement is that of R167, which sets the time of policy 1 (R166) -/
  rearr : Bool
  loop : Bool
  repaired : Bool
  eqRaised : Bool
  unobs : Bool
  /-- waits for the outcome of this other pattern (repair, roll-back or a superseding one) -/
  waits : Option Nat
  /-- waits for a repair that is not staged yet -/
  waitRep : Bool
  /-- rolled back: completes NOT_APPLIED_FAULT -/
  rolled : Bool
  /-- its completions belong to this host (not a mirrored copy, R341) -/
  host : Bool
  /-- pair transaction number, and the boundary that the TXN names (R340) -/
  ptn : Option Nat
  mirDue : Option Nat
  /-- accepted from a peer that has not confirmed it: its outcome is written as ADOPTED (R358) -/
  adopt : Bool
  /-- in a fabric, the owner and number of the reservation whose segment this is (R365, R379) -/
  seg : Option (Nat × Nat)
  /-- the segment waits for its COMMIT (R379) -/
  hold : Bool
  /-- a roll-back pattern (R186) -/
  rb : Bool
  /-- placement refuses it now: it is to complete NOT_APPLIED_FAULT (R182) -/
  lost : Bool
  /-- strobe in ns, and the valid time its outcome carried (R186) -/
  t0 : Nat
  validT : Word
  deriving DecidableEq, Repr

/-- A transaction as it is placed, with its changes, the in-ports of the moved paths and whether R167 placed it. -/
def Placed.new (id : Nat) (x : Txn) (l : List Chg) (moved : List Nat) (loop : Bool) : Placed :=
  { id := id, txn := x, pat := 0, staged := false, fired := false, chg := l, moved := moved, rearr := !moved.isEmpty, loop := loop
    repaired := false, eqRaised := false, unobs := false, waits := none, waitRep := false, rolled := false, host := false
    ptn := none, mirDue := none, adopt := false, seg := none, hold := false, rb := false, lost := false, t0 := 0, validT := 0 }

/-- A repair of R181: its pattern once staged, its number, the causing element, the onset in ns of network time, the
paths repaired and moved, and their new routes. -/
structure Rep where
  pat : Nat
  staged : Bool
  fired : Bool
  num : Nat
  e : Nat
  onset : Nat
  paths : List Nat
  moved : List Nat
  routes : List (Nat × Route)
  /-- nodes that only this search avoids (R178) -/
  avoid : List (Nat × Nat)
  /-- of a layer whose slot is not running: it fires with a turn, in a pattern written since this stamp (R216) -/
  turn : Option Nat
  deriving DecidableEq, Repr

/-- The path service (R154 to R189). -/
structure Pth where
  /-- records shown, keyed layer × 512 + in-port -/
  conn : SMap PathRec
  /-- routes in force: those of fired patterns, same keys -/
  live : SMap (Option Route)
  /-- the table as it stands after every placed transaction (R158), same keys -/
  plan : SMap (Option Route)
  delivered : List Txn
  cur : Option Cur
  /-- placed transactions in placement order, and the number of the next -/
  placed : List Placed
  nextId : Nat
  reports : List Report
  reps : List Rep
  /-- number of the next repair -/
  repNum : Nat
  /-- continuity runs, keyed plane × 512 + in-port (R180) -/
  cont : SMap Nat
  /-- in-ports whose continuity condition has been met and not yet taken up, with the plane -/
  contDue : List (Nat × Nat)
  tags : SMap TagV
  /-- tag identity in force (R173, R189) -/
  tagId : Nat
  /-- lanes on gain bank 1 (R185) -/
  bank1 : List Nat
  /-- the pattern of each layer, as RESIDENT (R212) -/
  layerPat : SMap Nat
  /-- in a fabric, the tag word that the path of an in-port is to carry (R374) -/
  tagWord : SMap Nat
  deriving DecidableEq, Repr

/-- The pair logic (R332 to R361). -/
structure Pair where
  /-- ROLE: 0 NONE, 1 ACTIVE, 2 STANDBY, 3 YIELDING; SYNC: 0 NOSYNC, 1 SYNCING, 2 SYNCED, 3 SOURCE (R356) -/
  role : Nat
  sync : Nat
  /-- lanes up, peer found -/
  lanes : Nat
  peer : Bool
  /-- next MSEQ to send, frames handed to the link, next MSEQ expected, frames that wait for a missing one, with the
  offset measured with a HELLO (R337) -/
  mtx : Nat
  tx : List (Nat × MirMsg)
  mrx : Nat
  held : List (Nat × Int × MirMsg)
  /-- the peer's last HELLO, and the microseconds since it came -/
  hello : Option HelloW
  helloAge : Nat
  offset : Int
  /-- HELLOs in a row that differ from, that equal the own digest; the match in force (R345) -/
  cfgBad : Nat
  cfgGood : Nat
  cfgMatch : Bool
  /-- last PTN, last shared SEQ, last unit-local SEQ (R340, R348) -/
  ptn : Nat
  seq : Nat
  lseq : Nat
  /-- PTNs that await an ACK, with the time at which MIR_TO ends and the commit point (R340, R349) -/
  ackWait : List (Nat × Nat × Nat)
  /-- shared frames that await the ACK of a PTN or the end of its MIR_TO: PTN, SEQ, frame (R349) -/
  annWait : List (Nat × Nat × List Byte)
  /-- own outcomes and the peer's, by PTN: status and valid time (R342) -/
  outs : List (Nat × Nat)
  peerOuts : List (Nat × Nat)
  /-- parts of a snapshot received; its table has been placed (R357) -/
  snap : List StateW
  snapOn : Bool
  sel : Bool
  healthOk : Bool
  /-- microseconds for which every selected health bit, and for which HEALTH_OK, has held (R352, R360) -/
  healthRun : Nat
  okRun : Nat
  reclaim : Bool
  health : Word
  /-- intake has started since the module became ACTIVE (R356) -/
  intake : Bool
  /-- the snapshot asked for by the peer's NOSYNC is on its way (R357) -/
  snapSent : Bool
  /-- |PAIR_OFFSET| above TSKEW_MAX; both modules ACTIVE_SEL; equal PREF (R355, R361) -/
  skew : Bool
  dual : Bool
  conflict : Bool
  /-- outcomes known here and not yet confirmed by a HELLO of the peer: PTN, the boundary at which the peer fires, and the event
  ADOPTED (R358) -/
  unconf : List (Nat × Nat × List Word)
  deriving DecidableEq, Repr

/-- The pair logic at reset. -/
def Pair.reset : Pair :=
  { role := 0, sync := 0, lanes := 0, peer := false, mtx := 0, tx := [], mrx := 0, held := [], hello := none,
    helloAge := 0, offset := 0, cfgBad := 0, cfgGood := 0, cfgMatch := true, ptn := 0, seq := 0, lseq := 0,
    ackWait := [], annWait := [], outs := [], peerOuts := [], snap := [], snapOn := false, sel := false,
    healthOk := false, healthRun := 0, okRun := 0, reclaim := false, health := 0, intake := false
    snapSent := false, skew := false, dual := false, conflict := false, unconf := [] }

/-! ### The fabric (R363 to R387) -/

/-- Where a HELLO last came from: device, SP port, network time (R371). -/
structure Nbr where
  dev : Nat
  port : Nat
  t : Nat
  deriving DecidableEq, Repr

/-- An entry of the link table: code of R369, device and port at the far end. -/
structure Lnk where
  st : Nat
  dev : Nat
  port : Nat
  deriving DecidableEq, Repr

/-- UNKNOWN. -/
def Lnk.reset : Lnk := ⟨0, 0, 0⟩

/-- An owner's record of a fabric path (FAB_PATH of R387): state code, local, middle, destination, out-port, link
out-port of the owner, link in-port of the destination. -/
structure FabPath where
  st : Nat
  loc : Bool
  mid : Nat
  dst : Nat
  b : Nat
  up : Nat
  down : Nat
  /-- number of its last reservation -/
  num : Nat
  deriving DecidableEq, Repr

/-- IDLE. -/
def FabPath.idle : FabPath := ⟨0, false, 0, 0, 0, 0, 0, 0⟩

/-- A path in an owner's reservation: end in-port, its record before, destination, out-port, the uplink chosen, and the
link in-port that the destination answered. -/
structure FabItem where
  a : Nat
  old : FabPath
  dst : Nat
  b : Nat
  up : Nat
  down : Nat
  deriving DecidableEq, Repr

/-- A reservation of this owner (R378 to R381, R384). Stage: 0 RESERVE sent, 1 COMMIT sent, 2 roll-back. -/
structure FabReq where
  num : Nat
  kind : Nat
  txn : Option Txn
  items : List FabItem
  /-- the candidate middles, the first index, the tries made, the middle in hand -/
  list : List Nat
  start : Nat
  tries : Nat
  mid : Nat
  /-- devices whose reply is awaited, devices that accepted -/
  wait : List Nat
  acc : List Nat
  /-- last refusal cause, 0 for none -/
  cause : Nat
  want : Option Nat
  strobe : Nat
  stage : Nat
  /-- devices of the commit, outcomes so far, end of the wait -/
  devs : List Nat
  outs : List (Nat × SegOut)
  dl : Nat
  moved : List Nat
  /-- pattern of the owner's own segment -/
  pat : Nat
  deriving DecidableEq, Repr

/-- A segment placed for a reservation (R365, R379): owner, number, F_a of its paths with their in-port and out-port, its
changes, and its state: 0 reserved, 1 staged, 2 resolved. -/
structure FabSeg where
  owner : Nat
  num : Nat
  kind : Nat
  paths : List (Nat × Nat × Nat)
  chg : List Chg
  st : Nat
  /-- the reservation is released at this time without a COMMIT -/
  dl : Nat
  deriving DecidableEq, Repr

/-- A message that awaits a reply: when it was last sent, and how often it was sent again (R371). -/
structure FabSent where
  msg : FabMsg
  t : Nat
  n : Nat
  deriving DecidableEq, Repr

/-- The fabric logic (R363 to R387). State: 0 DISCOVER, 1 READY, 2 ISOLATED. -/
structure Fab where
  st : Nat
  seq : Nat
  num : Nat
  nbrs : List Nbr
  known : List Nat
  /-- LSAs held, by device: neighbours with SP ports -/
  lsas : SMap (List (Nat × Nat))
  /-- FAB_RT: hops and SP port by device -/
  rt : SMap (Nat × Nat)
  rtStale : Bool
  /-- digest by device, from its last HELLO -/
  digest : SMap Word
  /-- last claims by device -/
  claims : SMap (List Claim)
  lnkOut : SMap Lnk
  lnkIn : SMap Lnk
  paths : SMap FabPath
  reqs : List FabReq
  /-- requests on a path that is RESERVING or REROUTING (R381) -/
  waitQ : List Txn
  segs : List FabSeg
  /-- messages handed to the signalling fabric: SP port (none: by FAB_RT), message -/
  out : List (Option Nat × FabMsg)
  sent : List FabSent
  seen : List (Nat × Nat)
  /-- link in-ports: reference sum of R383 in 1/256 dBm, low comparisons in a row -/
  linkRef : SMap Int
  linkLow : SMap Nat
  /-- probe segments: in-port and out-port, and the next out-port to try (R375) -/
  probes : List (Nat × Nat)
  probeN : Nat
  /-- links between other devices seen in claims: device, out-port, device, in-port (R376, R378) -/
  remote : List (Nat × Nat × Nat × Nat)
  /-- devices that a DOWN message or a silence declared lost, and old middles to be released: device, F_a (R384) -/
  dead : List Nat
  late : List (Nat × Nat)
  /-- own claims as last sent (R375), devices whose differing digest has been reported (R373), and paths hit by a loss before
  they were established: reservation and end in-port (R384) -/
  said : List Claim
  digBad : List Nat
  missed : List (Nat × Nat)
  deriving DecidableEq, Repr

/-- The fabric logic at reset. -/
def Fab.reset : Fab :=
  { st := 0, seq := 0, num := 0, nbrs := [], known := [], lsas := [], rt := [], rtStale := false, digest := []
    claims := [], lnkOut := [], lnkIn := [], paths := [], reqs := [], waitQ := [], segs := [], out := [], sent := []
    seen := [], linkRef := [], linkLow := [], probes := [], probeN := 0, remote := [], dead := [], late := []
    said := [], digBad := [], missed := [] }

end Sys2Proof.Machine
end

