-- ==== Sys2Proof/Config.lean ====
section
/-! DEFINITION. What one module or its environment fixes and the spec does not: opaque values, with no body, so that
nothing can be proved about a particular one. The first group is read from module flash (R21, R502); the second are
free values, each applied to a counter of State so that no two uses are tied together. -/
namespace Sys2Proof.Config

/-! Module data (log entries 4 and 5). -/

/-- Trimmed DPH of switching element E (R71, R502). -/
opaque dph : Nat → BitVec 8
/-- Trimmed POL of switching element E (R71, R502). -/
opaque pol : Nat → Bool
/-- SP and SP_REF of element E, slot k as stored in flash (R77, R502). -/
opaque setpt : Nat → Nat → Word
/-- Completed Placket engagements before this power-on (R60). -/
opaque plkCycles : Word
/-- Couplings and bypass loss of port p, as places within the ranges of R502 (R63). -/
opaque calCplA : Nat → BitVec 16
opaque calCplB : Nat → BitVec 16
opaque monCpl : Nat → BitVec 16
opaque bypLoss : Nat → BitVec 16
/-- EGR_OFS of out-port b (R189), as a place within its range (R502). -/
opaque egrOfs : Nat → BitVec 15
/-- Photonic offset of cluster c (R416), as a place within its range (R502). -/
opaque thmOfs : Nat → BitVec 16
/-- Trimmed TEC gains (R430). -/
opaque tecGain : Word
/-- Serial number of the module (R225). -/
opaque serial : BitVec 64
/-- Variant and revision as HIF_REV shows them (R231). -/
opaque hifRev : BitVec 16
/-- The times of the last stored calibrations (R479). -/
opaque calLast : Nat → Word
/-- Offset and gain constants of a conversion channel (R103), keyed cluster, channel, range and reference. -/
opaque convOff : Nat → Int
opaque convGain : Nat → Nat

/-- The boot record of the module as it first powers on: state code, tries, VERSION and SVN of slots A (0) and B (1), the
boot slot, and the SVN floor and revoked keys of the fuses (R451, R454, R455). -/
opaque slotSt : Nat → Nat
opaque slotTries : Nat → Nat
opaque slotVer : Nat → Word
opaque slotSvn : Nat → Nat
opaque bootSlotB : Bool
opaque svnFloor : Nat
opaque revoked : Nat → Bool
/-- Module flash as it first powers on, by offset from 0x3000_0000, and the place and SEQ of the last log entry (R436,
R450). -/
opaque flash : Nat → Byte
opaque logOfs : Nat
opaque logSeq : Nat
/-- Whether a header's signature checks against one of the keys in the boot ROM (R451). -/
opaque sigOk : List Byte → Bool
/-- Pulses that the module data counts for the cell of an element (R470). -/
opaque pulses : Nat → Nat
/-- Excess loss at 0 mA of the ingress Cuff elements of a port, 1/256 dB (R474). -/
opaque loss0 : Nat → Nat

/-! Free values (each applied to the counter of log entry 2). -/

/-- AMP and ASH of a tag tone that meet a depth (R125, R172). -/
opaque freeAmp : Nat → Nat
opaque freeAsh : Nat → Nat
/-- Current that a Cuff curve gives for a loss (R172). -/
opaque freeCuf : Nat → Nat
/-- Which FREE entry of the pattern store is taken (R204). -/
opaque freePick : Nat → Nat
/-- The set-point code stored for a sum outside the 16-bit format (R79, R472), by the sum. -/
opaque freeSp : Int → Nat
/-- What a pattern of the unpowered store holds after P4 (R425), by its number. -/
opaque freeStore : Nat → Nat → List Sys2Proof.Machine.LaneSet
/-- What a set-point of the unpowered store reads as in P4 (R425), by its offset. -/
opaque darkSp : Nat → Word
/-- Offset and gain that a step of CAL_ELEC finds for a channel that its command does not list (R473), by the channel's key. -/
opaque elecOff : Nat → Nat → Int
opaque elecGain : Nat → Nat → Nat
/-- Predicted loss of a plane path in 1/256 dB (R170). -/
opaque freeLoss : Nat → Nat

/-- Payload of a mirror frame, of whose fields the spec gives no widths (R337). -/
opaque mirBody : MirMsg → List Byte
/-- Content of a fabric control message behind the four bytes that begin its body (R370). -/
opaque fabBody : FabBody → List Byte
/-- Bytes of a frame that no command carries to the model (R281), by use and place. -/
opaque freeByte : Nat → Nat → Byte
/-- Source address of the frames that the T512 originates (R220). -/
opaque ownMac : Nat
/-- Words 4 to 6 of a receive descriptor whose buffer access failed (R259). -/
opaque freeRx : Nat → Nat → Word
/-- INDEX shown after a forwarding command that found no way (R289), and what READ of a free way shows. -/
opaque freeWay : Nat → Nat
opaque freeFwd : Nat → Word
/-- What a read of the watch core's registers gives (R448), what a refused read gives (R447), and the low bit of an answer to
the Alert Response Address (R445). -/
opaque freeOob : Nat → Word

end Sys2Proof.Config
end

