-- ==== Sys2Proof/Machine/RegMap.lean ====
section
/-! DEFINITION. The register map, from the register tables of spec/: every register with its place (R98, R229, R230),
its access masks (R12) and its reset value (R15), and every field with its bits. Interrupt controller registers are
keyed at their Prale address (R435), every other register at its BAR0 offset. -/
namespace Sys2Proof.Machine

/-- The registers, by their mnemonics. -/
inductive Reg where
  | CUF_CTRL | CUF_STATUS | PLK_CTRL | PLK_STATUS | PLK_HOLD | PLK_EVT | PLK_CYCLES | PORT_CAL | PORT_MON
  | SLV_CTRL | SLV_STATUS | SLV_ID | SLV_LOOP | SLV_LIM | SLV_LIGHT | SLV_FAULT | SLV_LEARN | SLV_LUTCFG
  | SLV_CUF | SLV_FLT_EN | SLV_FLT_SUM | SLV_CNT0 | SLV_CNT1 | SLV_LRN_CNT | SLV_MAP | LANE_CFG | LANE_STAT
  | LUT | SETPT | LANE_INT | LANE_ERR | LANE_CUF | CNV_REF | CNV_STATUS | CNV_RANGE | ACC_CTRL | ACC_TRIG
  | ACC_STATUS | ACC_OVR | SCAN_EN | DRV_CTRL | DRV_LIM | DRV_STATUS | LSG_CTRL | LSG_LOAD | LSG_EVT | ACC_SUM
  | ACC_CNT | ACC_MM | ACC_THR | DRV_OUT | TONE_FREQ | TONE_AMP | DRV_LCTL | TONE_TAB | PRF_LIM_A | PRF_LIM_B
  | SET_CFG | TRN_STATUS | TRN_RESULT | TRN_TIME | TRN_EVT | TRN_CNT | PRF_CFG | PRF_LAST | PRF_PWR | PRF_MOVE
  | COL_STATUS | COL_SLOT_A | COL_SLOT_B | PTH_CTRL | PTH_STATUS | PTH_TAG_ID | PTH_EQ | PTH_CHK | PTH_EVT
  | PTH_REP_STAT | EQ_CFG | PATH_A | PATH_B | OUT_MAP | PTH_EXCL | PTH_EXCL_SET | CLR_CTRL | CLR_STATUS
  | CLR_EVT | CLR_SNAP_SECL | CLR_SNAP_SECH | CLR_SNAP_NS | CLR_SNAP_TAG | CLR_PHASE | CLR_ADJ | CLR_DISC
  | CLR_HOLD | CLR_TOD | CLR_TOD_ERR | CLR_SET_SECL | CLR_SET_SECH | YK_CTRL | YK_STATUS | YK_GRID | YK_HORIZON
  | YK_EVT | YK_CNT | YK_CAL_N | YK_CAL_AT0 | YK_CAL_AT1 | YK_CAL_AT2 | YK_CAL_SW | YK_CYCLE | YK_VIEW
  | YK_ANN_A | YK_ANN_B | YK_ANN_DAL | YK_ANN_DAH | YK_ANN_SEQ | YK_CAL_ENT | YK_LAYER | HIF_ID | HIF_REV
  | HIF_STRAP | HIF_STATUS | HIF_CTRL | HIF_ERR | HIF_ERR_RING | HIF_EVT_ROUTE | HIF_EVT_EN | HIF_SCRATCH
  | RING_BASE_LO | RING_BASE_HI | RING_CFG | RING_STATUS | RING_PI | RING_CI | RING_COAL | RING_LOST | CAP_CFG
  | CAP_STATUS | CAP_PI_LO | CAP_PI_HI | CAP_LOST | CAP_SRC | CAP_QUOTA | CAP_RSV | CAP_OLDEST_LO
  | CAP_OLDEST_HI | CAP_LAP | CAP_SUPP | SGF_CTRL | SGF_STATUS | SGF_BUF | SGF_TRAP | SGF_EVT | SGF_FWD_CMD
  | SGF_FWD_KEY0 | SGF_FWD_KEY1 | SGF_FWD_RES | SGF_FWD_CNT | SP_CFG | SP_STATUS | SP_PCP | SP_EVT | SP_CNT
  | MC_MASK | TRC_CTRL | TRC_PCPCOL | TRC_EVT | OBS_SEQ | POL_PORT | POL_PC | POL_VID | PAIR_CTRL | PAIR_STATUS
  | PAIR_EVT | PAIR_TIME | PAIR_WD | HEALTH_WORD | PEER_HEALTH | HEALTH_MASK | PAIR_OFFSET | PAIR_PTN
  | PAIR_SEQ | PAIR_CNT | FAB_CTRL | FAB_STATUS | FAB_EVT | FAB_TIME0 | FAB_TIME1 | FAB_TIME2 | FAB_WATCH
  | FAB_DIGEST | FAB_RT | FAB_DEV | FAB_LNK_OUT | FAB_LNK_IN | FAB_PATH_A | FAB_PATH_B | FLT_CTRL | FLT_STATUS
  | FLT_SAFE | FLT_SAFE_CNT | FLT_PAR | FLT_SUM | FLT_STAT | FLT_EN | FLT_FORCE | FLT_CLASS_LO | FLT_CLASS_HI
  | FLT_ESC_RUN | FLT_HELD | FLT_ACTED | THM_CTRL | THM_STATUS | THM_THR | THM_MAX | THM_EVT | THM_PD
  | THM_RESTARTS | TEC_CTRL | TEC_GAIN | TEC_MON | TEC_OUT | THM_SNS | THM_OFS | PWM_CTRL | PWM_PER | PWM_DUTY
  | PWM_UPD | PWM_STATUS | PWM_LIVE | PWM_CUTS | PWR_CTRL | PWR_STATUS | PWR_EVT | PWR_EXIT | PRL_STATUS
  | PRL_FWVER | PRL_ALTVER | PRL_SLOTS | PRL_LOG | PRL_LOGSEQ | PRL_STAGE | PRL_WD | IC_CTRL | IC_WAKE | IC_SRC
  | PRL_BOOT | CAL_CMD | CAL_STATUS | CAL_SCOPE | CAL_PREF | CAL_VREF | CAL_PRB | TRIM_CFG | CAL_COVER
  | TRIM_RES | TRIM_WORN | CAL_DELTA | CAL_LAST | SHP_CIR | SHP_PIR | SHP_CBS | SHP_PBS | SHP_CFG | SHP_TC
  | SHP_TP | SHP_STATUS | POL_CIR | POL_PIR | POL_CBS | POL_PBS | POL_CFG | POL_GREEN | POL_YELLOW | POL_RED
  | Q_DEPTH | Q_DAVG | Q_TMAX | Q_TAVG | MSIX_AL | MSIX_AH | MSIX_DATA | MSIX_CTL | MSIX_PBA
  deriving DecidableEq, Repr

/-- One register row: first offset, array dimensions as (stride, count) from the outermost, the masks of its access
codes, its hardware reset value, the mask of the fields firmware loads (F), and the boot stage that loads them. -/
structure RegRow where
  base : Nat
  dims : List (Nat × Nat)
  rw : Nat
  w1c : Nat
  rc : Nat
  wo : Nat
  ro : Nat
  rst : Nat
  fwm : Nat
  stage : Nat
  deriving DecidableEq, Repr

/-- The row of each register. -/
def Reg.row : Reg → RegRow
  | .CUF_CTRL => ⟨0xc0100, [], 0x11f, 0, 0, 0, 0, 0x108, 0, 6⟩
  | .CUF_STATUS => ⟨0xc0104, [], 0, 1, 0, 0, 2, 0, 0, 6⟩
  | .PLK_CTRL => ⟨0xc0000, [], 1, 0, 0, 0, 0, 0, 0, 6⟩
  | .PLK_STATUS => ⟨0xc0004, [], 0, 0, 0, 0, 0xf3, 0x80, 0, 6⟩
  | .PLK_HOLD => ⟨0xc0008, [], 0, 0, 0, 0, 0x3ff, 0, 0, 6⟩
  | .PLK_EVT => ⟨0xc000c, [], 0, 0xf, 0, 0, 0, 0, 0, 6⟩
  | .PLK_CYCLES => ⟨0xc0010, [], 0, 0, 0, 0, 0xffffffff, 0, 0xffffffff, 6⟩
  | .PORT_CAL => ⟨0xc1000, [(8, 512)], 0, 0, 0, 0, 0xffffffff, 0, 0xffffffff, 6⟩
  | .PORT_MON => ⟨0xc1004, [(8, 512)], 0, 0, 0, 0, 0xffffffff, 0, 0xffffffff, 6⟩
  | .SLV_CTRL => ⟨0x1000000, [(0x10000, 144)], 0x33, 0, 0, 4, 0, 0, 3, 10⟩
  | .SLV_STATUS => ⟨0x1000004, [(0x10000, 144)], 0, 0, 0, 0, 0xff, 0x10, 0, 8⟩
  | .SLV_ID => ⟨0x1000008, [(0x10000, 144)], 0, 0, 0, 0, 0x1ffff, 0, 0, 8⟩
  | .SLV_LOOP => ⟨0x1000010, [(0x10000, 144)], 0xffffffff, 0, 0, 0, 0, 0, 0xffffffff, 8⟩
  | .SLV_LIM => ⟨0x1000014, [(0x10000, 144)], 0xffffffff, 0, 0, 0, 0, 0, 0xffffffff, 8⟩
  | .SLV_LIGHT => ⟨0x1000018, [(0x10000, 144)], 0xffffffff, 0, 0, 0, 0, 0, 0xffffffff, 8⟩
  | .SLV_FAULT => ⟨0x100001c, [(0x10000, 144)], 0xffffffff, 0, 0, 0, 0, 0, 0xffffffff, 8⟩
  | .SLV_LEARN => ⟨0x1000020, [(0x10000, 144)], 0x1f0f, 0, 0, 0, 0, 0, 0x1f0f, 8⟩
  | .SLV_LUTCFG => ⟨0x1000024, [(0x10000, 144)], 0xffff, 0, 0, 0, 0, 0, 0xffff, 8⟩
  | .SLV_CUF => ⟨0x1000028, [(0x10000, 144)], 0xffff000f, 0, 0, 0, 0, 0, 0xffff000f, 8⟩
  | .SLV_FLT_EN => ⟨0x100002c, [(0x10000, 144)], 0xff, 0, 0, 0, 0, 0, 0xff, 8⟩
  | .SLV_FLT_SUM => ⟨0x1000030, [(0x10000, 144)], 0, 0, 0, 0, 0xff, 0, 0, 8⟩
  | .SLV_CNT0 => ⟨0x1000034, [(0x10000, 144)], 0, 0, 0, 0, 0x1ff01ff, 0, 0, 8⟩
  | .SLV_CNT1 => ⟨0x1000038, [(0x10000, 144)], 0, 0, 0, 0, 0x1ff01ff, 0, 0, 8⟩
  | .SLV_LRN_CNT => ⟨0x100003c, [(0x10000, 144)], 0, 0, 0xffffffff, 0, 0, 0, 0, 8⟩
  | .SLV_MAP => ⟨0x1000040, [(0x10000, 144), (4, 8)], 0, 0, 0, 0, 0xffffffff, 0, 0, 8⟩
  | .LANE_CFG => ⟨0x1000400, [(0x10000, 144), (4, 256)], 0xffffff85, 0, 0, 2, 0, 0, 0xffffff85, 8⟩
  | .LANE_STAT => ⟨0x1000800, [(0x10000, 144), (4, 256)], 0, 0xff, 0, 0, 0xfe000000, 0, 0, 8⟩
  | .LUT => ⟨0x1000c00, [(0x10000, 144), (0x100, 4), (4, 64)], 0xffff, 0, 0, 0, 0, 0, 0xffff, 8⟩
  | .SETPT => ⟨0x1001000, [(0x10000, 144), (8, 256), (4, 2)], 0xffffffff, 0, 0, 0, 0, 0, 0xffffffff, 6⟩
  | .LANE_INT => ⟨0x1001800, [(0x10000, 144), (4, 256)], 0, 0, 0, 0, 0xffffff, 0, 0, 8⟩
  | .LANE_ERR => ⟨0x1001c00, [(0x10000, 144), (4, 256)], 0, 0, 0, 0, 0x1ffffff, 0, 0, 8⟩
  | .LANE_CUF => ⟨0x1002000, [(0x10000, 144), (4, 256)], 0, 0, 0, 0, 0xffff03ff, 0, 0, 8⟩
  | .CNV_REF => ⟨0x1000100, [(0x10000, 144)], 0xffff, 0, 0, 0, 0, 0, 0, 8⟩
  | .CNV_STATUS => ⟨0x1000104, [(0x10000, 144)], 0, 0xff0000, 0, 0, 0xffff, 0, 0, 8⟩
  | .CNV_RANGE => ⟨0x1000108, [(0x10000, 144)], 3, 0, 0, 0, 0, 0, 0, 8⟩
  | .ACC_CTRL => ⟨0x1000110, [(0x10000, 144)], 0x1031f, 0, 0, 0, 0, 0xa, 0, 8⟩
  | .ACC_TRIG => ⟨0x1000114, [(0x10000, 144)], 0, 0, 0, 1, 0, 0, 0, 8⟩
  | .ACC_STATUS => ⟨0x1000118, [(0x10000, 144)], 0, 0, 0, 0, 0xffff000f, 0, 0, 8⟩
  | .ACC_OVR => ⟨0x100011c, [(0x10000, 144)], 0, 0, 0xffffffff, 0, 0, 0, 0, 8⟩
  | .SCAN_EN => ⟨0x1000180, [(0x10000, 144), (4, 16)], 0xffffffff, 0, 0, 0, 0, 0xffffffff, 0, 8⟩
  | .DRV_CTRL => ⟨0x1000200, [(0x10000, 144)], 1, 0, 0, 0, 6, 0, 1, 9⟩
  | .DRV_LIM => ⟨0x1000204, [(0x10000, 144)], 0xffffffff, 0, 0, 0, 0, 0, 0xffffffff, 8⟩
  | .DRV_STATUS => ⟨0x1000208, [(0x10000, 144)], 0, 0x100, 0, 0, 0, 0, 0, 8⟩
  | .LSG_CTRL => ⟨0x1000210, [(0x10000, 144)], 0x3f, 0, 0, 0, 0, 0, 0, 8⟩
  | .LSG_LOAD => ⟨0x1000214, [(0x10000, 144)], 0, 0, 0, 0xe, 0, 0, 0, 8⟩
  | .LSG_EVT => ⟨0x1000218, [(0x10000, 144)], 0, 0xe, 0, 0, 0, 0, 0, 8⟩
  | .ACC_SUM => ⟨0x1004000, [(0x10000, 144), (0x10, 512)], 0, 0, 0, 0, 0xffffffff, 0, 0, 8⟩
  | .ACC_CNT => ⟨0x1004004, [(0x10000, 144), (0x10, 512)], 0, 0, 0, 0, 0x7ffff, 0, 0, 8⟩
  | .ACC_MM => ⟨0x1004008, [(0x10000, 144), (0x10, 512)], 0, 0, 0, 0, 0xfff0fff, 0xfff, 0, 8⟩
  | .ACC_THR => ⟨0x100400c, [(0x10000, 144), (0x10, 512)], 0x8fff, 0, 0, 0, 0x10000, 0, 0, 8⟩
  | .DRV_OUT => ⟨0x1006000, [(0x10000, 144), (0x10, 256)], 0, 0, 0, 0, 0xffffffff, 0, 0, 8⟩
  | .TONE_FREQ => ⟨0x1006004, [(0x10000, 144), (0x10, 256)], 0, 0, 0, 0, 0xfffff, 0, 0, 8⟩
  | .TONE_AMP => ⟨0x1006008, [(0x10000, 144), (0x10, 256)], 0, 0, 0, 0, 0x701ff, 0, 0, 8⟩
  | .DRV_LCTL => ⟨0x100600c, [(0x10000, 144), (0x10, 256)], 3, 0, 0, 0, 4, 0, 3, 8⟩
  | .TONE_TAB => ⟨0x1007000, [(0x10000, 144), (4, 1024)], 0x7fff, 0, 0, 0, 0, 0, 0x7fff, 8⟩
  | .PRF_LIM_A => ⟨0x1000300, [(0x10000, 144), (8, 4)], 0xffffffff, 0, 0, 0, 0, 0, 0xffffffff, 8⟩
  | .PRF_LIM_B => ⟨0x1000304, [(0x10000, 144), (8, 4)], 0xfffff, 0, 0, 0, 0, 0, 0xfffff, 8⟩
  | .SET_CFG => ⟨0x1000320, [(0x10000, 144)], 0xffff0fff, 0, 0, 0, 0, 0, 0xffff0fff, 8⟩
  | .TRN_STATUS => ⟨0x1000324, [(0x10000, 144)], 0, 0, 0, 0, 0xfff3ffff, 0, 0, 8⟩
  | .TRN_RESULT => ⟨0x1000328, [(0x10000, 144)], 0, 0, 0, 0, 0xc7ffffff, 0, 0, 8⟩
  | .TRN_TIME => ⟨0x100032c, [(0x10000, 144)], 0, 0, 0, 0, 0xffffffff, 0, 0, 8⟩
  | .TRN_EVT => ⟨0x1000330, [(0x10000, 144)], 0, 0xf, 0, 0, 0, 0, 0, 8⟩
  | .TRN_CNT => ⟨0x1000334, [(0x10000, 144)], 0, 0, 0xffffffff, 0, 0, 0, 0, 8⟩
  | .PRF_CFG => ⟨0x1008000, [(0x10000, 144), (0x10, 256)], 0x33, 0, 0, 0, 0, 0, 0x33, 8⟩
  | .PRF_LAST => ⟨0x1008004, [(0x10000, 144), (0x10, 256)], 0, 0, 0, 0, 0xffffffff, 0, 0, 8⟩
  | .PRF_PWR => ⟨0x1008008, [(0x10000, 144), (0x10, 256)], 0, 0, 0, 0, 0xffffffff, 0, 0, 8⟩
  | .PRF_MOVE => ⟨0x100800c, [(0x10000, 144), (0x10, 256)], 0, 0, 0, 0, 0xffffffff, 0, 0, 8⟩
  | .COL_STATUS => ⟨0x30800, [], 0, 0, 0, 0, 0x701ff, 0, 0, 8⟩
  | .COL_SLOT_A => ⟨0x30a00, [(8, 144)], 0, 0, 0, 0, 0xfff3ffff, 0, 0, 8⟩
  | .COL_SLOT_B => ⟨0x30a04, [(8, 144)], 0, 0, 0, 0, 0xffffffff, 0, 0, 8⟩
  | .PTH_CTRL => ⟨0x30000, [], 0xf, 0, 0, 0, 0, 0xb, 0, 6⟩
  | .PTH_STATUS => ⟨0x30004, [], 0, 0, 0, 0, 0x3ff1fff, 0, 0, 6⟩
  | .PTH_TAG_ID => ⟨0x30008, [], 0x7f, 0, 0, 0, 0, 0, 0, 6⟩
  | .PTH_EQ => ⟨0x3000c, [], 0xffc0ffff, 0, 0, 0, 0, 0x19000514, 0, 6⟩
  | .PTH_CHK => ⟨0x30010, [], 0xffffffff, 0, 0, 0, 0, 0xc042403, 0, 6⟩
  | .PTH_EVT => ⟨0x30014, [], 0, 0x1f, 0, 0, 0, 0, 0, 6⟩
  | .PTH_REP_STAT => ⟨0x30018, [], 0, 0, 0xffff0000, 0, 0xffff, 0, 0, 6⟩
  | .EQ_CFG => ⟨0x31000, [(4, 512)], 0x8000ffff, 0, 0, 0, 0x7fff0000, 0, 0x7fffffff, 6⟩
  | .PATH_A => ⟨0x32000, [(8, 512)], 0, 0, 0, 0, 0xffff00ff, 0, 0, 6⟩
  | .PATH_B => ⟨0x32004, [(8, 512)], 0, 0, 0, 0, 0xffffffff, 0, 0, 6⟩
  | .OUT_MAP => ⟨0x33000, [(4, 512)], 0, 0, 0, 0, 0x800001ff, 0, 0, 6⟩
  | .PTH_EXCL => ⟨0x34000, [(4, 136)], 0, 0xffffffff, 0, 0, 0, 0, 0, 6⟩
  | .PTH_EXCL_SET => ⟨0x34400, [(4, 136)], 0, 0, 0, 0, 0, 0, 0, 6⟩
  | .CLR_CTRL => ⟨0x10000, [], 0x1f, 0, 0, 0, 0, 0x1f, 0, 6⟩
  | .CLR_STATUS => ⟨0x10004, [], 0, 0, 0, 0, 0xf7, 0, 0, 6⟩
  | .CLR_EVT => ⟨0x10008, [], 0, 0xff, 0, 0, 0, 0, 0, 6⟩
  | .CLR_SNAP_SECL => ⟨0x1000c, [], 0, 0, 0, 0, 0xffffffff, 0, 0, 6⟩
  | .CLR_SNAP_SECH => ⟨0x10010, [], 0, 0, 0, 0, 0xffff, 0, 0, 6⟩
  | .CLR_SNAP_NS => ⟨0x10014, [], 0, 0, 0, 0, 0x3fffffff, 0, 0, 6⟩
  | .CLR_SNAP_TAG => ⟨0x10018, [], 0, 0, 0, 0, 0xffffffff, 0, 0, 6⟩
  | .CLR_PHASE => ⟨0x1001c, [], 0, 0, 0, 0, 0xffffffff, 0, 0, 6⟩
  | .CLR_ADJ => ⟨0x10020, [], 0, 0, 0, 0, 0xffffffff, 0, 0, 6⟩
  | .CLR_DISC => ⟨0x10024, [], 0xffffffff, 0, 0, 0, 0, 0x41403e8, 0, 6⟩
  | .CLR_HOLD => ⟨0x10028, [], 0xffff00ff, 0, 0, 0, 0, 0xe100002, 0, 6⟩
  | .CLR_TOD => ⟨0x1002c, [], 0, 0, 0, 0, 0xffffffff, 0, 0, 6⟩
  | .CLR_TOD_ERR => ⟨0x10030, [], 0, 0, 0xffffffff, 0, 0, 0, 0, 6⟩
  | .CLR_SET_SECL => ⟨0x10034, [], 0xffffffff, 0, 0, 0, 0, 0, 0, 6⟩
  | .CLR_SET_SECH => ⟨0x10038, [], 0xffff, 0, 0, 0, 0, 0, 0, 6⟩
  | .YK_CTRL => ⟨0x20000, [], 0x331, 0, 0, 0, 0, 0x100, 0, 6⟩
  | .YK_STATUS => ⟨0x20004, [], 0, 0, 0, 0, 0xfffffbff, 0, 0, 6⟩
  | .YK_GRID => ⟨0x20008, [], 0x3fffffff, 0, 0, 0, 0, 0x1400064, 0, 6⟩
  | .YK_HORIZON => ⟨0x2000c, [], 0xffff, 0, 0, 0, 0, 0xe10, 0, 6⟩
  | .YK_EVT => ⟨0x20010, [], 0, 0x1ff, 0, 0, 0, 0, 0, 6⟩
  | .YK_CNT => ⟨0x20014, [], 0, 0, 0xffffffff, 0, 0, 0, 0, 6⟩
  | .YK_CAL_N => ⟨0x20100, [], 0x7f007f, 0, 0, 0, 0, 0x10001, 0, 6⟩
  | .YK_CAL_AT0 => ⟨0x20104, [], 0xffffffff, 0, 0, 0, 0, 0, 0, 6⟩
  | .YK_CAL_AT1 => ⟨0x20108, [], 0xffff, 0, 0, 0, 0, 0, 0, 6⟩
  | .YK_CAL_AT2 => ⟨0x2010c, [], 0xfffff, 0, 0, 0, 0, 0, 0, 6⟩
  | .YK_CAL_SW => ⟨0x20110, [], 0, 0, 0, 1, 2, 0, 0, 6⟩
  | .YK_CYCLE => ⟨0x20114, [], 0, 0, 0, 0, 0xffffffff, 0, 0, 6⟩
  | .YK_VIEW => ⟨0x20118, [], 0x3f, 0, 0, 0, 0, 0, 0, 6⟩
  | .YK_ANN_A => ⟨0x20200, [], 0xffff0fff, 0, 0, 0, 0, 0xa0000, 0xfff, 6⟩
  | .YK_ANN_B => ⟨0x20204, [], 0xffffffff, 0, 0, 0, 0, 0x64000a, 0, 6⟩
  | .YK_ANN_DAL => ⟨0x20208, [], 0xffffffff, 0, 0, 0, 0, 0x7500000f, 0, 6⟩
  | .YK_ANN_DAH => ⟨0x2020c, [], 0xffff, 0, 0, 0, 0, 0x12, 0, 6⟩
  | .YK_ANN_SEQ => ⟨0x20210, [], 0, 0, 0, 0, 0xffffffff, 0, 0, 6⟩
  | .YK_CAL_ENT => ⟨0x20400, [(0x100, 2), (4, 64)], 0xfffff, 0, 0, 0, 0, 0x14, 0, 6⟩
  | .YK_LAYER => ⟨0x20600, [(4, 64)], 0, 0, 0, 0, 0x3ff03ff, 0, 0, 6⟩
  | .HIF_ID => ⟨0, [], 0, 0, 0, 0, 0xffffffff, 0x75121f9c, 0, 4⟩
  | .HIF_REV => ⟨4, [], 0, 0, 0, 0, 0xff03, 0, 0, 4⟩
  | .HIF_STRAP => ⟨8, [], 0, 0, 0, 0, 0x80013f13, 0, 0, 4⟩
  | .HIF_STATUS => ⟨0xc, [], 0, 0, 0, 0, 0xf10d, 0, 0x100, 4⟩
  | .HIF_CTRL => ⟨0x10, [], 0x100ff, 0, 0, 0, 0, 0, 0, 4⟩
  | .HIF_ERR => ⟨0x14, [], 0, 0x7f, 0, 0, 0, 0, 0, 4⟩
  | .HIF_ERR_RING => ⟨0x18, [], 0, 0, 0, 0, 0x800000ff, 0, 0, 4⟩
  | .HIF_EVT_ROUTE => ⟨0x1c, [], 0xffffffff, 0, 0, 0, 0, 0, 0, 4⟩
  | .HIF_EVT_EN => ⟨0x20, [], 0xff, 0, 0, 0, 0, 0, 0, 4⟩
  | .HIF_SCRATCH => ⟨0x24, [], 0xffffffff, 0, 0, 0, 0, 0, 0, 4⟩
  | .RING_BASE_LO => ⟨0x200000, [(0x40, 180)], 0xffffffc0, 0, 0, 0, 0, 0, 0, 4⟩
  | .RING_BASE_HI => ⟨0x200004, [(0x40, 180)], 0xffffffff, 0, 0, 0, 0, 0, 0, 4⟩
  | .RING_CFG => ⟨0x200008, [(0x40, 180)], 0xb03fff1f, 0, 0, 0, 0, 6, 0, 4⟩
  | .RING_STATUS => ⟨0x20000c, [(0x40, 180)], 0, 0x700, 0, 0, 7, 0, 0, 4⟩
  | .RING_PI => ⟨0x200010, [(0x40, 180)], 0, 0, 0, 0, 0xffffffff, 0, 0, 4⟩
  | .RING_CI => ⟨0x200014, [(0x40, 180)], 0, 0, 0, 0, 0xffffffff, 0, 0, 4⟩
  | .RING_COAL => ⟨0x200018, [(0x40, 180)], 0xffffffff, 0, 0, 0, 0, 1, 0, 4⟩
  | .RING_LOST => ⟨0x20001c, [(0x40, 180)], 0, 0, 0xffffffff, 0, 0, 0, 0, 4⟩
  | .CAP_CFG => ⟨0x202408, [(0x40, 4)], 0x8000ff3f, 0, 0, 0, 0, 0xc, 0, 6⟩
  | .CAP_STATUS => ⟨0x20240c, [(0x40, 4)], 0, 0xf00, 0, 0, 0x1007, 0, 0, 6⟩
  | .CAP_PI_LO => ⟨0x202410, [(0x40, 4)], 0, 0, 0, 0, 0xffffffff, 0, 0, 6⟩
  | .CAP_PI_HI => ⟨0x202414, [(0x40, 4)], 0, 0, 0, 0, 0xffffffff, 0, 0, 6⟩
  | .CAP_LOST => ⟨0x20241c, [(0x40, 4)], 0, 0, 0, 0, 0xffffffff, 0, 0, 6⟩
  | .CAP_SRC => ⟨0x202420, [(0x40, 4)], 0xffff0077, 0, 0, 0, 0, 0x8f000070, 0, 6⟩
  | .CAP_QUOTA => ⟨0x202424, [(0x40, 4)], 0xffffffff, 0, 0, 0, 0, 0x10101010, 0, 6⟩
  | .CAP_RSV => ⟨0x202428, [(0x40, 4)], 0xffff, 0, 0, 0, 0xffff0000, 0, 0, 6⟩
  | .CAP_OLDEST_LO => ⟨0x20242c, [(0x40, 4)], 0, 0, 0, 0, 0xffffffff, 0, 0, 6⟩
  | .CAP_OLDEST_HI => ⟨0x202430, [(0x40, 4)], 0, 0, 0, 0, 0xffffffff, 0, 0, 6⟩
  | .CAP_LAP => ⟨0x202434, [(0x40, 4)], 0, 0, 0, 0, 0xffffffff, 0, 0, 6⟩
  | .CAP_SUPP => ⟨0x202438, [(0x40, 4)], 0, 0, 0xffffffff, 0, 0, 0, 0, 6⟩
  | .SGF_CTRL => ⟨0x400000, [], 0xf3ffff, 0, 0, 0, 0, 0xf22710, 0x10000, 11⟩
  | .SGF_STATUS => ⟨0x400004, [], 0, 0, 0, 0, 0x17ffff, 0x60000, 0, 11⟩
  | .SGF_BUF => ⟨0x400008, [], 0xffffffff, 0, 0, 0, 0, 0x6000800, 0, 11⟩
  | .SGF_TRAP => ⟨0x40000c, [], 0xffff, 0, 0, 0, 0, 0x88b5, 0, 11⟩
  | .SGF_EVT => ⟨0x400010, [], 0, 7, 0, 0, 0, 0, 0, 11⟩
  | .SGF_FWD_CMD => ⟨0x400020, [], 0xffff, 0, 0, 0xf0000, 0x8f000000, 0, 0, 11⟩
  | .SGF_FWD_KEY0 => ⟨0x400024, [], 0xffffffff, 0, 0, 0, 0, 0, 0, 11⟩
  | .SGF_FWD_KEY1 => ⟨0x400028, [], 0xfffffff, 0, 0, 0, 0, 0, 0, 11⟩
  | .SGF_FWD_RES => ⟨0x40002c, [], 0x7f000fff, 0, 0, 0, 0x80000000, 0, 0, 11⟩
  | .SGF_FWD_CNT => ⟨0x400030, [], 0, 0, 0, 0, 0x1ffff, 0, 0, 11⟩
  | .SP_CFG => ⟨0x410000, [(0x100, 65)], 0xff8cffff, 0, 0, 0, 0, 0x6f000001, 0, 11⟩
  | .SP_STATUS => ⟨0x410004, [(0x100, 65)], 0, 0, 0, 0, 0xffc0ffff, 0, 0, 11⟩
  | .SP_PCP => ⟨0x410008, [(0x100, 65)], 0xffffffff, 0, 0, 0, 0, 0xeca86420, 0, 11⟩
  | .SP_EVT => ⟨0x41000c, [(0x100, 65)], 0, 0xf, 0, 0, 0, 0, 0, 11⟩
  | .SP_CNT => ⟨0x410040, [(0x100, 65), (4, 13)], 0, 0, 0xffffffff, 0, 0, 0, 0, 11⟩
  | .MC_MASK => ⟨0x420000, [(0x10, 4096), (4, 3)], 0xffffffff, 0, 0, 0, 0, 0, 0, 11⟩
  | .TRC_CTRL => ⟨0x600000, [], 0x10f3f, 0, 0, 0, 0, 0x10a14, 0, 11⟩
  | .TRC_PCPCOL => ⟨0x600004, [], 0xffff, 0, 0, 0, 0, 0, 0, 11⟩
  | .TRC_EVT => ⟨0x600008, [], 0, 1, 0, 0, 0, 0, 0, 11⟩
  | .OBS_SEQ => ⟨0x60000c, [], 0, 0, 0, 0, 0xffffffff, 0, 0, 11⟩
  | .POL_PORT => ⟨0x600100, [(4, 65)], 1, 0, 0, 0, 0, 0, 0, 11⟩
  | .POL_PC => ⟨0x610000, [(4, 1040)], 0x80000fff, 0, 0, 0, 0, 0, 0, 11⟩
  | .POL_VID => ⟨0x614000, [(4, 4096)], 0x80000fff, 0, 0, 0, 0, 0, 0, 11⟩
  | .PAIR_CTRL => ⟨0xb0000, [], 0xffff0001, 0, 0, 2, 0, 0xa0001, 0, 6⟩
  | .PAIR_STATUS => ⟨0xb0004, [], 0, 0, 0, 0, 0xffffff1f, 0, 0, 6⟩
  | .PAIR_EVT => ⟨0xb0008, [], 0, 0xfff, 0, 0, 0, 0, 0, 6⟩
  | .PAIR_TIME => ⟨0xb000c, [], 0xffff03ff, 0, 0, 0, 0, 0xc8000a, 0, 6⟩
  | .PAIR_WD => ⟨0xb0010, [], 0x3ff03ff, 0, 0, 0, 0, 0xa000a, 0, 6⟩
  | .HEALTH_WORD => ⟨0xb0014, [], 0, 0, 0, 0, 0xffffffff, 0, 0, 6⟩
  | .PEER_HEALTH => ⟨0xb0018, [], 0, 0, 0, 0, 0xffffffff, 0, 0, 6⟩
  | .HEALTH_MASK => ⟨0xb001c, [], 0xffff, 0, 0, 0, 0, 0x83f, 0, 6⟩
  | .PAIR_OFFSET => ⟨0xb0020, [], 0, 0, 0, 0, 0xffffffff, 0, 0, 6⟩
  | .PAIR_PTN => ⟨0xb0024, [], 0, 0, 0, 0, 0xffffffff, 0, 0, 6⟩
  | .PAIR_SEQ => ⟨0xb0028, [], 0, 0, 0, 0, 0xffffffff, 0, 0, 6⟩
  | .PAIR_CNT => ⟨0xb0030, [(4, 4)], 0, 0, 0xffffffff, 0, 0, 0, 0, 6⟩
  | .FAB_CTRL => ⟨0xb8000, [], 0xffff0f07, 0, 0, 0, 0, 0xc80407, 0, 6⟩
  | .FAB_STATUS => ⟨0xb8004, [], 0, 0, 0, 0, 0x33f7f7f, 0, 0, 6⟩
  | .FAB_EVT => ⟨0xb8008, [], 0, 0x3ff, 0, 0, 0, 0, 0, 6⟩
  | .FAB_TIME0 => ⟨0xb800c, [], 0xfff, 0, 0, 0, 0, 0x30a, 0, 6⟩
  | .FAB_TIME1 => ⟨0xb8010, [], 0xffffffff, 0, 0, 0, 0, 0x2580064, 0, 6⟩
  | .FAB_TIME2 => ⟨0xb8014, [], 0xffffffff, 0, 0, 0, 0, 0x6401f4, 0, 6⟩
  | .FAB_WATCH => ⟨0xb8018, [], 0xffff, 0, 0, 0, 0, 0xc02, 0, 6⟩
  | .FAB_DIGEST => ⟨0xb801c, [], 0, 0, 0, 0, 0xffffffff, 0, 0, 6⟩
  | .FAB_RT => ⟨0xb8100, [(4, 64)], 0, 0, 0, 0, 0x800f003f, 0, 0, 6⟩
  | .FAB_DEV => ⟨0xb8200, [(4, 64)], 0, 0, 0, 0, 0xc3ff0000, 0, 0, 6⟩
  | .FAB_LNK_OUT => ⟨0xb9000, [(8, 512)], 0, 0, 0, 0, 0xe03f01ff, 0, 0, 6⟩
  | .FAB_LNK_IN => ⟨0xb9004, [(8, 512)], 0, 0, 0, 0, 0xe03f01ff, 0, 0, 6⟩
  | .FAB_PATH_A => ⟨0xba000, [(8, 256)], 0, 0, 0, 0, 0xffffff00, 0, 0, 6⟩
  | .FAB_PATH_B => ⟨0xba004, [(8, 256)], 0, 0, 0, 0, 0x1ff01ff, 0, 0, 6⟩
  | .FLT_CTRL => ⟨0x80000, [], 0x3ff0000, 0, 0, 0, 0, 0x140000, 0, 13⟩
  | .FLT_STATUS => ⟨0x80004, [], 0, 0, 0, 0, 0xe1ff01ff, 0, 0, 13⟩
  | .FLT_SAFE => ⟨0x80008, [], 0, 0, 0, 0, 0xffff, 0, 0, 13⟩
  | .FLT_SAFE_CNT => ⟨0x8000c, [], 0, 0, 0xffffffff, 0, 0, 0, 0, 13⟩
  | .FLT_PAR => ⟨0x80010, [], 0, 0, 0, 0, 0x80000fff, 0, 0, 13⟩
  | .FLT_SUM => ⟨0x80014, [], 0, 0, 0, 0, 0xff, 0, 0, 13⟩
  | .FLT_STAT => ⟨0x80100, [(0x40, 8)], 0, 0xffffffff, 0, 0, 0, 0, 0, 13⟩
  | .FLT_EN => ⟨0x80104, [(0x40, 8)], 0xffffffff, 0, 0, 0, 0, 0, 0xffffffff, 13⟩
  | .FLT_FORCE => ⟨0x80108, [(0x40, 8)], 0, 0, 0, 0xffffffff, 0, 0, 0, 13⟩
  | .FLT_CLASS_LO => ⟨0x8010c, [(0x40, 8)], 0xffffffff, 0, 0, 0, 0, 0, 0xffffffff, 13⟩
  | .FLT_CLASS_HI => ⟨0x80110, [(0x40, 8)], 0xffffffff, 0, 0, 0, 0, 0, 0xffffffff, 13⟩
  | .FLT_ESC_RUN => ⟨0x80114, [(0x40, 8)], 0, 0, 0, 0, 0xffffffff, 0, 0, 13⟩
  | .FLT_HELD => ⟨0x80118, [(0x40, 8)], 0, 0, 0, 0, 0xffffffff, 0, 0, 13⟩
  | .FLT_ACTED => ⟨0x8011c, [(0x40, 8)], 0, 0, 0, 0, 0xffffffff, 0, 0, 13⟩
  | .THM_CTRL => ⟨0x90000, [], 0xf01, 0, 0, 0, 0, 0x400, 0, 6⟩
  | .THM_STATUS => ⟨0x90004, [], 0, 0, 0, 0, 0xffff0073, 0, 0, 6⟩
  | .THM_THR => ⟨0x90008, [], 0xffffff, 0, 0, 0, 0, 0x786e64, 0, 6⟩
  | .THM_MAX => ⟨0x9000c, [], 0, 0, 0xffff0000, 0, 0xffff, 0, 0, 6⟩
  | .THM_EVT => ⟨0x90010, [], 0, 0x1f, 0, 0, 0, 0, 0, 6⟩
  | .THM_PD => ⟨0x90014, [], 0, 0, 0, 0, 0xcfffffff, 0, 0, 6⟩
  | .THM_RESTARTS => ⟨0x90018, [], 0, 0, 0, 0, 0xffffffff, 0, 0, 6⟩
  | .TEC_CTRL => ⟨0x90020, [], 3, 0, 0, 0, 0xffff0000, 0x3200000, 1, 6⟩
  | .TEC_GAIN => ⟨0x90024, [], 0xffffffff, 0, 0, 0, 0, 0, 0xffffffff, 6⟩
  | .TEC_MON => ⟨0x90028, [], 0xffff00ff, 0, 0, 0, 0, 0xa0020, 0, 6⟩
  | .TEC_OUT => ⟨0x9002c, [], 0, 0, 0, 0, 0x3ffff, 0, 0, 6⟩
  | .THM_SNS => ⟨0x90100, [(4, 160)], 0x80000000, 0, 0, 0, 0x4000ffff, 0, 0x80000000, 0⟩
  | .THM_OFS => ⟨0x90400, [(4, 144)], 0, 0, 0, 0, 0xffff, 0, 0xffff, 6⟩
  | .PWM_CTRL => ⟨0x90800, [(0x20, 4)], 0x37, 0, 0, 0, 0, 0, 0x33, 6⟩
  | .PWM_PER => ⟨0x90804, [(0x20, 4)], 0xfff, 0, 0, 0, 0, 0xea6, 0, 6⟩
  | .PWM_DUTY => ⟨0x90808, [(0x20, 4)], 0xffff, 0, 0, 0, 0, 0, 0, 6⟩
  | .PWM_UPD => ⟨0x9080c, [(0x20, 4)], 0, 0, 0, 1, 2, 0, 0, 6⟩
  | .PWM_STATUS => ⟨0x90810, [(0x20, 4)], 0, 3, 0, 0, 0xc, 0, 0, 6⟩
  | .PWM_LIVE => ⟨0x90814, [(0x20, 4)], 0, 0, 0, 0, 0xffffffff, 0xea6, 0, 6⟩
  | .PWM_CUTS => ⟨0x90818, [(0x20, 4)], 0, 0, 0xffffffff, 0, 0, 0, 0, 6⟩
  | .PWR_CTRL => ⟨0xa0000, [], 0x107, 0, 0, 0, 0, 0x100, 0, 6⟩
  | .PWR_STATUS => ⟨0xa0004, [], 0, 0, 0, 0, 0x3f0307, 0, 0, 6⟩
  | .PWR_EVT => ⟨0xa0008, [], 0, 3, 0, 0, 0, 0, 0, 6⟩
  | .PWR_EXIT => ⟨0xa000c, [], 0, 0, 0, 0, 0xe0ffffff, 0, 0, 6⟩
  | .PRL_STATUS => ⟨0x1000, [], 0, 0, 0, 0, 0xf00f00ff, 0, 0xf0000, 4⟩
  | .PRL_FWVER => ⟨0x1004, [], 0, 0, 0, 0, 0xffffffff, 0, 0xffffffff, 4⟩
  | .PRL_ALTVER => ⟨0x1008, [], 0, 0, 0, 0, 0xffffffff, 0, 0xffffffff, 4⟩
  | .PRL_SLOTS => ⟨0x100c, [], 0, 0, 0, 0, 0x1ff00ff, 0, 0x1ff00ff, 4⟩
  | .PRL_LOG => ⟨0x1010, [], 0, 0, 0, 0, 0xffffff, 0, 0xffffff, 4⟩
  | .PRL_LOGSEQ => ⟨0x1014, [], 0, 0, 0, 0, 0xffffffff, 0, 0xffffffff, 4⟩
  | .PRL_STAGE => ⟨0x1018, [], 0, 0, 0, 0x38000000, 0xc3ffffff, 0, 0, 4⟩
  | .PRL_WD => ⟨0x101c, [], 0x3ff, 0, 0, 0, 0, 0x64, 0, 4⟩
  | .IC_CTRL => ⟨0x40000000, [], 0x80000000, 0, 0xffff, 0, 0x1fff0000, 0xff0000, 0, 4⟩
  | .IC_WAKE => ⟨0x40000004, [], 0xffffffff, 0, 0, 0, 0, 0xff, 0, 4⟩
  | .IC_SRC => ⟨0x40000400, [(4, 512)], 0x80ff00ff, 0x10000000, 0, 0, 0x68000000, 1, 0, 4⟩
  | .PRL_BOOT => ⟨0x1020, [], 0, 0, 0, 0, 0x8f0000ff, 0, 0, 6⟩
  | .CAL_CMD => ⟨0x1100, [], 0, 0, 0, 0xf, 0, 0, 0, 6⟩
  | .CAL_STATUS => ⟨0x1104, [], 0, 1, 0, 0, 0xcfffff00, 0, 0, 6⟩
  | .CAL_SCOPE => ⟨0x1108, [], 0xfffff, 0, 0, 0, 0, 0xf8f00, 0, 6⟩
  | .CAL_PREF => ⟨0x110c, [], 0xffff, 0, 0, 0, 0, 0x1400, 0, 6⟩
  | .CAL_VREF => ⟨0x1110, [], 0x1fffff, 0, 0, 0, 0, 0x1312d0, 0, 6⟩
  | .CAL_PRB => ⟨0x1114, [], 0x1ffff, 0, 0, 0, 0, 0x9c4, 0, 6⟩
  | .TRIM_CFG => ⟨0x1118, [], 0xfff07ff, 0, 0, 0, 0, 0x8100148, 0, 6⟩
  | .CAL_COVER => ⟨0x111c, [], 0, 0, 0, 0, 0xffffffff, 0, 0, 6⟩
  | .TRIM_RES => ⟨0x1120, [], 0, 0, 0, 0, 0xffffffff, 0, 0, 6⟩
  | .TRIM_WORN => ⟨0x1124, [], 0, 0, 0, 0, 0xffff, 0, 0xffff, 6⟩
  | .CAL_DELTA => ⟨0x1128, [], 0, 0, 0, 0, 0xffffff, 0, 0, 6⟩
  | .CAL_LAST => ⟨0x1130, [(4, 4)], 0, 0, 0, 0, 0xffffffff, 0, 0xffffffff, 6⟩
  | .SHP_CIR => ⟨0x601000, [(0x20, 1024)], 0x3ffffff, 0, 0, 0, 0, 0, 0, 11⟩
  | .SHP_PIR => ⟨0x601004, [(0x20, 1024)], 0x3ffffff, 0, 0, 0, 0, 0, 0, 11⟩
  | .SHP_CBS => ⟨0x601008, [(0x20, 1024)], 0x3ffff, 0, 0, 0, 0, 0x4000, 0, 11⟩
  | .SHP_PBS => ⟨0x60100c, [(0x20, 1024)], 0x3ffff, 0, 0, 0, 0, 0x4000, 0, 11⟩
  | .SHP_CFG => ⟨0x601010, [(0x20, 1024)], 1, 0, 0, 0x80000000, 0x100, 0, 0, 11⟩
  | .SHP_TC => ⟨0x601014, [(0x20, 1024)], 0, 0, 0, 0, 0xffffffff, 0, 0, 11⟩
  | .SHP_TP => ⟨0x601018, [(0x20, 1024)], 0, 0, 0, 0, 0xffffffff, 0, 0, 11⟩
  | .SHP_STATUS => ⟨0x60101c, [(0x20, 1024)], 0, 0, 0, 0, 3, 3, 0, 11⟩
  | .POL_CIR => ⟨0x620000, [(0x20, 4096)], 0x3ffffff, 0, 0, 0, 0, 0, 0, 11⟩
  | .POL_PIR => ⟨0x620004, [(0x20, 4096)], 0x3ffffff, 0, 0, 0, 0, 0, 0, 11⟩
  | .POL_CBS => ⟨0x620008, [(0x20, 4096)], 0x3ffff, 0, 0, 0, 0, 0x4000, 0, 11⟩
  | .POL_PBS => ⟨0x62000c, [(0x20, 4096)], 0x3ffff, 0, 0, 0, 0, 0x4000, 0, 11⟩
  | .POL_CFG => ⟨0x620010, [(0x20, 4096)], 0x1fff3, 0, 0, 0x80000000, 0x1000000, 0x40, 0, 11⟩
  | .POL_GREEN => ⟨0x620014, [(0x20, 4096)], 0, 0, 0xffffffff, 0, 0, 0, 0, 11⟩
  | .POL_YELLOW => ⟨0x620018, [(0x20, 4096)], 0, 0, 0xffffffff, 0, 0, 0, 0, 11⟩
  | .POL_RED => ⟨0x62001c, [(0x20, 4096)], 0, 0, 0xffffffff, 0, 0, 0, 0, 11⟩
  | .Q_DEPTH => ⟨0x640000, [(0x10, 67584)], 0, 0, 0xffff, 0, 0xffff0000, 0, 0, 11⟩
  | .Q_DAVG => ⟨0x640004, [(0x10, 67584)], 0, 0, 0, 0, 0xffffffff, 0, 0, 11⟩
  | .Q_TMAX => ⟨0x640008, [(0x10, 67584)], 0, 0, 0xffffffff, 0, 0, 0, 0, 11⟩
  | .Q_TAVG => ⟨0x64000c, [(0x10, 67584)], 0, 0, 0, 0, 0xffffffff, 0, 0, 11⟩
  | .MSIX_AL => ⟨0xc000, [(0x10, 256)], 0xffffffff, 0, 0, 0, 0, 0, 0, 4⟩
  | .MSIX_AH => ⟨0xc004, [(0x10, 256)], 0xffffffff, 0, 0, 0, 0, 0, 0, 4⟩
  | .MSIX_DATA => ⟨0xc008, [(0x10, 256)], 0xffffffff, 0, 0, 0, 0, 0, 0, 4⟩
  | .MSIX_CTL => ⟨0xc00c, [(0x10, 256)], 1, 0, 0, 0, 0, 1, 0, 4⟩
  | .MSIX_PBA => ⟨0xd000, [(4, 8)], 0, 0, 0, 0, 0xffffffff, 0, 0, 4⟩

/-- Part 0 of the list of all registers. -/
def regs0 : List Reg := [
  .CAP_CFG, .CAP_STATUS, .CAP_PI_LO, .CAP_PI_HI, .CAP_LOST, .CAP_SRC, .CAP_QUOTA, .CAP_RSV, .CAP_OLDEST_LO,
  .CAP_OLDEST_HI, .CAP_LAP, .CAP_SUPP, .CUF_CTRL, .CUF_STATUS, .PLK_CTRL, .PLK_STATUS, .PLK_HOLD, .PLK_EVT,
  .PLK_CYCLES, .PORT_CAL, .PORT_MON, .SLV_CTRL, .SLV_STATUS, .SLV_ID, .SLV_LOOP, .SLV_LIM, .SLV_LIGHT,
  .SLV_FAULT, .SLV_LEARN, .SLV_LUTCFG, .SLV_CUF, .SLV_FLT_EN, .SLV_FLT_SUM, .SLV_CNT0, .SLV_CNT1, .SLV_LRN_CNT,
  .SLV_MAP, .LANE_CFG, .LANE_STAT, .LUT, .SETPT, .LANE_INT, .LANE_ERR, .LANE_CUF, .CNV_REF, .CNV_STATUS,
  .CNV_RANGE, .ACC_CTRL, .ACC_TRIG, .ACC_STATUS, .ACC_OVR, .SCAN_EN, .DRV_CTRL, .DRV_LIM, .DRV_STATUS, .LSG_CTRL,
  .LSG_LOAD, .LSG_EVT, .ACC_SUM, .ACC_CNT, .ACC_MM, .ACC_THR, .DRV_OUT, .TONE_FREQ, .TONE_AMP, .DRV_LCTL,
  .TONE_TAB, .PRF_LIM_A, .PRF_LIM_B, .SET_CFG]

/-- Part 1 of the list of all registers. -/
def regs1 : List Reg := [
  .TRN_STATUS, .TRN_RESULT, .TRN_TIME, .TRN_EVT, .TRN_CNT, .PRF_CFG, .PRF_LAST, .PRF_PWR, .PRF_MOVE, .COL_STATUS,
  .COL_SLOT_A, .COL_SLOT_B, .PTH_CTRL, .PTH_STATUS, .PTH_TAG_ID, .PTH_EQ, .PTH_CHK, .PTH_EVT, .PTH_REP_STAT,
  .EQ_CFG, .PATH_A, .PATH_B, .OUT_MAP, .PTH_EXCL, .PTH_EXCL_SET, .CLR_CTRL, .CLR_STATUS, .CLR_EVT,
  .CLR_SNAP_SECL, .CLR_SNAP_SECH, .CLR_SNAP_NS, .CLR_SNAP_TAG, .CLR_PHASE, .CLR_ADJ, .CLR_DISC, .CLR_HOLD,
  .CLR_TOD, .CLR_TOD_ERR, .CLR_SET_SECL, .CLR_SET_SECH, .YK_CTRL, .YK_STATUS, .YK_GRID, .YK_HORIZON, .YK_EVT,
  .YK_CNT, .YK_CAL_N, .YK_CAL_AT0, .YK_CAL_AT1, .YK_CAL_AT2, .YK_CAL_SW, .YK_CYCLE, .YK_VIEW, .YK_ANN_A,
  .YK_ANN_B, .YK_ANN_DAL, .YK_ANN_DAH, .YK_ANN_SEQ, .YK_CAL_ENT, .YK_LAYER, .HIF_ID, .HIF_REV, .HIF_STRAP,
  .HIF_STATUS, .HIF_CTRL, .HIF_ERR, .HIF_ERR_RING, .HIF_EVT_ROUTE, .HIF_EVT_EN, .HIF_SCRATCH]

/-- Part 2 of the list of all registers. -/
def regs2 : List Reg := [
  .RING_BASE_LO, .RING_BASE_HI, .RING_CFG, .RING_STATUS, .RING_PI, .RING_CI, .RING_COAL, .RING_LOST, .SGF_CTRL,
  .SGF_STATUS, .SGF_BUF, .SGF_TRAP, .SGF_EVT, .SGF_FWD_CMD, .SGF_FWD_KEY0, .SGF_FWD_KEY1, .SGF_FWD_RES,
  .SGF_FWD_CNT, .SP_CFG, .SP_STATUS, .SP_PCP, .SP_EVT, .SP_CNT, .MC_MASK, .TRC_CTRL, .TRC_PCPCOL, .TRC_EVT,
  .OBS_SEQ, .POL_PORT, .POL_PC, .POL_VID, .PAIR_CTRL, .PAIR_STATUS, .PAIR_EVT, .PAIR_TIME, .PAIR_WD,
  .HEALTH_WORD, .PEER_HEALTH, .HEALTH_MASK, .PAIR_OFFSET, .PAIR_PTN, .PAIR_SEQ, .PAIR_CNT, .FAB_CTRL,
  .FAB_STATUS, .FAB_EVT, .FAB_TIME0, .FAB_TIME1, .FAB_TIME2, .FAB_WATCH, .FAB_DIGEST, .FAB_RT, .FAB_DEV,
  .FAB_LNK_OUT, .FAB_LNK_IN, .FAB_PATH_A, .FAB_PATH_B, .FLT_CTRL, .FLT_STATUS, .FLT_SAFE, .FLT_SAFE_CNT,
  .FLT_PAR, .FLT_SUM, .FLT_STAT, .FLT_EN, .FLT_FORCE, .FLT_CLASS_LO, .FLT_CLASS_HI, .FLT_ESC_RUN, .FLT_HELD]

/-- Part 3 of the list of all registers. -/
def regs3 : List Reg := [
  .FLT_ACTED, .THM_CTRL, .THM_STATUS, .THM_THR, .THM_MAX, .THM_EVT, .THM_PD, .THM_RESTARTS, .TEC_CTRL, .TEC_GAIN,
  .TEC_MON, .TEC_OUT, .THM_SNS, .THM_OFS, .PWM_CTRL, .PWM_PER, .PWM_DUTY, .PWM_UPD, .PWM_STATUS, .PWM_LIVE,
  .PWM_CUTS, .PWR_CTRL, .PWR_STATUS, .PWR_EVT, .PWR_EXIT, .PRL_STATUS, .PRL_FWVER, .PRL_ALTVER, .PRL_SLOTS,
  .PRL_LOG, .PRL_LOGSEQ, .PRL_STAGE, .PRL_WD, .IC_CTRL, .IC_WAKE, .IC_SRC, .PRL_BOOT, .CAL_CMD, .CAL_STATUS,
  .CAL_SCOPE, .CAL_PREF, .CAL_VREF, .CAL_PRB, .TRIM_CFG, .CAL_COVER, .TRIM_RES, .TRIM_WORN, .CAL_DELTA,
  .CAL_LAST, .SHP_CIR, .SHP_PIR, .SHP_CBS, .SHP_PBS, .SHP_CFG, .SHP_TC, .SHP_TP, .SHP_STATUS, .POL_CIR, .POL_PIR,
  .POL_CBS, .POL_PBS, .POL_CFG, .POL_GREEN, .POL_YELLOW, .POL_RED, .Q_DEPTH, .Q_DAVG, .Q_TMAX, .Q_TAVG, .MSIX_AL]

/-- Part 4 of the list of all registers. -/
def regs4 : List Reg := [
  .MSIX_AH, .MSIX_DATA, .MSIX_CTL, .MSIX_PBA]

/-- Every register; the capture sets lie inside the ring sets (R237, R276) and are looked up first. -/
def allRegs : List Reg := regs0 ++ regs1 ++ regs2 ++ regs3 ++ regs4

/-- Resolves an offset inside an array of the given dimensions to its indices. -/
def matchDims : List (Nat × Nat) → Nat → Option (List Nat)
  | [], 0 => some []
  | [], _ => none
  | (st, n) :: t, off => if off / st < n then (matchDims t (off % st)).map (off / st :: ·) else none

/-- The indices at which offset `a` is register `r`, if it is. -/
def Reg.match? (r : Reg) (a : Nat) : Option (Reg × List Nat) :=
  if a < r.row.base then none else (matchDims r.row.dims (a - r.row.base)).map fun ix => (r, ix)

/-- The register at an offset, with its indices; none where no register lies (R14). -/
def locate (a : Nat) : Option (Reg × List Nat) := allRegs.findSome? fun r => r.match? a

/-- Sum of stride times index. -/
def dimOff : List (Nat × Nat) → List Nat → Nat
  | (st, _) :: t, i :: ix => st * i + dimOff t ix
  | _, _ => 0

/-- The offset of a register at given indices. -/
def Reg.at (r : Reg) (ix : List Nat) : Nat := r.row.base + dimOff r.row.dims ix

/-- A field: its register, its lowest bit and its width. -/
structure Fld where
  reg : Reg
  lo : Nat
  len : Nat
  deriving DecidableEq, Repr

/-! CUF_CTRL (R51) -/
def CUF_CTRL.IDLE_BLOCK : Fld := ⟨.CUF_CTRL, 8, 1⟩
def CUF_CTRL.TAG_DEPTH : Fld := ⟨.CUF_CTRL, 0, 5⟩
/-! CUF_STATUS (R51) -/
def CUF_STATUS.TONE_ALIGNED : Fld := ⟨.CUF_STATUS, 1, 1⟩
def CUF_STATUS.DEPTH_CLAMP : Fld := ⟨.CUF_STATUS, 0, 1⟩
/-! PLK_CTRL (R60) -/
def PLK_CTRL.ENGAGE : Fld := ⟨.PLK_CTRL, 0, 1⟩
/-! PLK_STATUS (R60) -/
def PLK_STATUS.INHIBIT : Fld := ⟨.PLK_STATUS, 7, 1⟩
def PLK_STATUS.PUMP_OK : Fld := ⟨.PLK_STATUS, 6, 1⟩
def PLK_STATUS.BUSY : Fld := ⟨.PLK_STATUS, 5, 1⟩
def PLK_STATUS.ENG_PEND : Fld := ⟨.PLK_STATUS, 4, 1⟩
def PLK_STATUS.STATE : Fld := ⟨.PLK_STATUS, 0, 2⟩
/-! PLK_HOLD (R60) -/
def PLK_HOLD.HOLD_V : Fld := ⟨.PLK_HOLD, 0, 10⟩
/-! PLK_EVT (R60) -/
def PLK_EVT.ENG_REFUSED : Fld := ⟨.PLK_EVT, 3, 1⟩
def PLK_EVT.PUMP_LOW : Fld := ⟨.PLK_EVT, 2, 1⟩
def PLK_EVT.RELEASED_DONE : Fld := ⟨.PLK_EVT, 1, 1⟩
def PLK_EVT.ENGAGED_DONE : Fld := ⟨.PLK_EVT, 0, 1⟩
/-! PLK_CYCLES (R60) -/
def PLK_CYCLES.CYCLES : Fld := ⟨.PLK_CYCLES, 0, 32⟩
/-! PORT_CAL (R63) -/
def PORT_CAL.CAL_CPL_B : Fld := ⟨.PORT_CAL, 16, 16⟩
def PORT_CAL.CAL_CPL_A : Fld := ⟨.PORT_CAL, 0, 16⟩
/-! PORT_MON (R63) -/
def PORT_MON.BYP_LOSS : Fld := ⟨.PORT_MON, 16, 16⟩
def PORT_MON.MON_CPL : Fld := ⟨.PORT_MON, 0, 16⟩
/-! SLV_CTRL (R99) -/
def SLV_CTRL.LUT_XOR : Fld := ⟨.SLV_CTRL, 4, 2⟩
def SLV_CTRL.RESTART_ALL : Fld := ⟨.SLV_CTRL, 2, 1⟩
def SLV_CTRL.LEARN : Fld := ⟨.SLV_CTRL, 1, 1⟩
def SLV_CTRL.RUN : Fld := ⟨.SLV_CTRL, 0, 1⟩
/-! SLV_STATUS (R99) -/
def SLV_STATUS.RATE_DIV : Fld := ⟨.SLV_STATUS, 4, 4⟩
def SLV_STATUS.P2_HOLD : Fld := ⟨.SLV_STATUS, 3, 1⟩
def SLV_STATUS.CAL_HOLD : Fld := ⟨.SLV_STATUS, 2, 1⟩
def SLV_STATUS.EXCH_OK : Fld := ⟨.SLV_STATUS, 1, 1⟩
def SLV_STATUS.RUN_ACT : Fld := ⟨.SLV_STATUS, 0, 1⟩
/-! SLV_ID (R99) -/
def SLV_ID.HALF : Fld := ⟨.SLV_ID, 16, 1⟩
def SLV_ID.STAGE : Fld := ⟨.SLV_ID, 11, 5⟩
def SLV_ID.PLANE : Fld := ⟨.SLV_ID, 10, 1⟩
def SLV_ID.KIND : Fld := ⟨.SLV_ID, 8, 2⟩
def SLV_ID.CLUSTER : Fld := ⟨.SLV_ID, 0, 8⟩
/-! SLV_LOOP (R99) -/
def SLV_LOOP.LOCK_CNT : Fld := ⟨.SLV_LOOP, 24, 8⟩
def SLV_LOOP.UNLOCK_THR : Fld := ⟨.SLV_LOOP, 12, 12⟩
def SLV_LOOP.LOCK_THR : Fld := ⟨.SLV_LOOP, 0, 12⟩
/-! SLV_LIM (R99) -/
def SLV_LIM.LEARN_LIM : Fld := ⟨.SLV_LIM, 16, 16⟩
def SLV_LIM.INT_LIMIT : Fld := ⟨.SLV_LIM, 0, 16⟩
/-! SLV_LIGHT (R99) -/
def SLV_LIGHT.LIT_OFF : Fld := ⟨.SLV_LIGHT, 16, 16⟩
def SLV_LIGHT.LIT_ON : Fld := ⟨.SLV_LIGHT, 0, 16⟩
/-! SLV_FAULT (R99) -/
def SLV_FAULT.ACQ_TIME : Fld := ⟨.SLV_FAULT, 24, 8⟩
def SLV_FAULT.LEAK_CNT : Fld := ⟨.SLV_FAULT, 16, 8⟩
def SLV_FAULT.LEAK_DB : Fld := ⟨.SLV_FAULT, 8, 8⟩
def SLV_FAULT.SAT_HOLD : Fld := ⟨.SLV_FAULT, 0, 8⟩
/-! SLV_LEARN (R99) -/
def SLV_LEARN.LTICK : Fld := ⟨.SLV_LEARN, 8, 5⟩
def SLV_LEARN.LFRAC : Fld := ⟨.SLV_LEARN, 0, 4⟩
/-! SLV_LUTCFG (R99) -/
def SLV_LUTCFG.SHIFT3 : Fld := ⟨.SLV_LUTCFG, 12, 4⟩
def SLV_LUTCFG.SHIFT2 : Fld := ⟨.SLV_LUTCFG, 8, 4⟩
def SLV_LUTCFG.SHIFT1 : Fld := ⟨.SLV_LUTCFG, 4, 4⟩
def SLV_LUTCFG.SHIFT0 : Fld := ⟨.SLV_LUTCFG, 0, 4⟩
/-! SLV_CUF (R99) -/
def SLV_CUF.CUF_FLOOR : Fld := ⟨.SLV_CUF, 16, 16⟩
def SLV_CUF.CUF_TAU : Fld := ⟨.SLV_CUF, 0, 4⟩
/-! SLV_FLT_EN (R99) -/
def SLV_FLT_EN.EN : Fld := ⟨.SLV_FLT_EN, 0, 8⟩
/-! SLV_FLT_SUM (R99) -/
def SLV_FLT_SUM.ANY : Fld := ⟨.SLV_FLT_SUM, 0, 8⟩
/-! SLV_CNT0 (R99) -/
def SLV_CNT0.N_LOCKED : Fld := ⟨.SLV_CNT0, 16, 9⟩
def SLV_CNT0.N_ACQUIRE : Fld := ⟨.SLV_CNT0, 0, 9⟩
/-! SLV_CNT1 (R99) -/
def SLV_CNT1.N_HOLD : Fld := ⟨.SLV_CNT1, 16, 9⟩
def SLV_CNT1.N_FAULT : Fld := ⟨.SLV_CNT1, 0, 9⟩
/-! SLV_LRN_CNT (R99) -/
def SLV_LRN_CNT.FOLDS : Fld := ⟨.SLV_LRN_CNT, 0, 32⟩
/-! SLV_MAP (R99) -/
def SLV_MAP.LANES : Fld := ⟨.SLV_MAP, 0, 32⟩
/-! LANE_CFG (R99) -/
def LANE_CFG.DPH : Fld := ⟨.LANE_CFG, 24, 8⟩
def LANE_CFG.DAMP : Fld := ⟨.LANE_CFG, 16, 8⟩
def LANE_CFG.DFREQ : Fld := ⟨.LANE_CFG, 10, 6⟩
def LANE_CFG.BANK : Fld := ⟨.LANE_CFG, 8, 2⟩
def LANE_CFG.POL : Fld := ⟨.LANE_CFG, 7, 1⟩
def LANE_CFG.LEARN_EN : Fld := ⟨.LANE_CFG, 2, 1⟩
def LANE_CFG.RESTART : Fld := ⟨.LANE_CFG, 1, 1⟩
def LANE_CFG.LOOP_EN : Fld := ⟨.LANE_CFG, 0, 1⟩
/-! LANE_STAT (R99) -/
def LANE_STAT.STATE : Fld := ⟨.LANE_STAT, 29, 3⟩
def LANE_STAT.CMD : Fld := ⟨.LANE_STAT, 28, 1⟩
def LANE_STAT.LIT : Fld := ⟨.LANE_STAT, 27, 1⟩
def LANE_STAT.HOLD_WHY : Fld := ⟨.LANE_STAT, 25, 2⟩
def LANE_STAT.OVC : Fld := ⟨.LANE_STAT, 7, 1⟩
def LANE_STAT.DCLAMP : Fld := ⟨.LANE_STAT, 6, 1⟩
def LANE_STAT.LRN_LIM : Fld := ⟨.LANE_STAT, 5, 1⟩
def LANE_STAT.LOCK_LOST : Fld := ⟨.LANE_STAT, 4, 1⟩
def LANE_STAT.ACQ_TO : Fld := ⟨.LANE_STAT, 3, 1⟩
def LANE_STAT.LEAK : Fld := ⟨.LANE_STAT, 2, 1⟩
def LANE_STAT.ISAT_NEG : Fld := ⟨.LANE_STAT, 1, 1⟩
def LANE_STAT.ISAT_POS : Fld := ⟨.LANE_STAT, 0, 1⟩
/-! LUT (R99) -/
def LUT.GAIN : Fld := ⟨.LUT, 0, 16⟩
/-! SETPT (R99) -/
def SETPT.SP : Fld := ⟨.SETPT, 16, 16⟩
def SETPT.SP_REF : Fld := ⟨.SETPT, 0, 16⟩
/-! LANE_INT (R99) -/
def LANE_INT.INT : Fld := ⟨.LANE_INT, 0, 24⟩
/-! LANE_ERR (R99) -/
def LANE_ERR.FILL : Fld := ⟨.LANE_ERR, 16, 9⟩
def LANE_ERR.ERR : Fld := ⟨.LANE_ERR, 0, 16⟩
/-! LANE_CUF (R99) -/
def LANE_CUF.LOSS_TGT : Fld := ⟨.LANE_CUF, 16, 16⟩
def LANE_CUF.VALID : Fld := ⟨.LANE_CUF, 9, 1⟩
def LANE_CUF.SRC : Fld := ⟨.LANE_CUF, 0, 9⟩
/-! CNV_REF (R131) -/
def CNV_REF.REF_SEL : Fld := ⟨.CNV_REF, 0, 16⟩
/-! CNV_STATUS (R131) -/
def CNV_STATUS.REF_BAD : Fld := ⟨.CNV_STATUS, 16, 8⟩
def CNV_STATUS.OVLD : Fld := ⟨.CNV_STATUS, 8, 8⟩
def CNV_STATUS.REF_SETTLED : Fld := ⟨.CNV_STATUS, 0, 8⟩
/-! CNV_RANGE (R131) -/
def CNV_RANGE.RMODE : Fld := ⟨.CNV_RANGE, 0, 2⟩
/-! ACC_CTRL (R131) -/
def ACC_CTRL.ACC_EN : Fld := ⟨.ACC_CTRL, 16, 1⟩
def ACC_CTRL.TRIG_SRC : Fld := ⟨.ACC_CTRL, 8, 2⟩
def ACC_CTRL.K : Fld := ⟨.ACC_CTRL, 0, 5⟩
/-! ACC_TRIG (R131) -/
def ACC_TRIG.TRIG : Fld := ⟨.ACC_TRIG, 0, 1⟩
/-! ACC_STATUS (R131) -/
def ACC_STATUS.SCANS : Fld := ⟨.ACC_STATUS, 16, 16⟩
def ACC_STATUS.EN_PEND : Fld := ⟨.ACC_STATUS, 3, 1⟩
def ACC_STATUS.STOPPING : Fld := ⟨.ACC_STATUS, 2, 1⟩
def ACC_STATUS.LATCHED : Fld := ⟨.ACC_STATUS, 1, 1⟩
def ACC_STATUS.RUNNING : Fld := ⟨.ACC_STATUS, 0, 1⟩
/-! ACC_OVR (R131) -/
def ACC_OVR.OVR : Fld := ⟨.ACC_OVR, 0, 32⟩
/-! SCAN_EN (R131) -/
def SCAN_EN.EN : Fld := ⟨.SCAN_EN, 0, 32⟩
/-! DRV_CTRL (R131) -/
def DRV_CTRL.SAFE : Fld := ⟨.DRV_CTRL, 2, 1⟩
def DRV_CTRL.MODE : Fld := ⟨.DRV_CTRL, 1, 1⟩
def DRV_CTRL.OUT_EN : Fld := ⟨.DRV_CTRL, 0, 1⟩
/-! DRV_LIM (R131) -/
def DRV_LIM.DRV_HI : Fld := ⟨.DRV_LIM, 16, 16⟩
def DRV_LIM.DRV_LO : Fld := ⟨.DRV_LIM, 0, 16⟩
/-! DRV_STATUS (R131) -/
def DRV_STATUS.LIM_REJ : Fld := ⟨.DRV_STATUS, 8, 1⟩
/-! LSG_CTRL (R131) -/
def LSG_CTRL.SRC3 : Fld := ⟨.LSG_CTRL, 4, 2⟩
def LSG_CTRL.SRC2 : Fld := ⟨.LSG_CTRL, 2, 2⟩
def LSG_CTRL.SRC1 : Fld := ⟨.LSG_CTRL, 0, 2⟩
/-! LSG_LOAD (R131) -/
def LSG_LOAD.LOAD : Fld := ⟨.LSG_LOAD, 1, 3⟩
/-! LSG_EVT (R131) -/
def LSG_EVT.DONE : Fld := ⟨.LSG_EVT, 1, 3⟩
/-! ACC_SUM (R131) -/
def ACC_SUM.SUM : Fld := ⟨.ACC_SUM, 0, 32⟩
/-! ACC_CNT (R131) -/
def ACC_CNT.SHORT : Fld := ⟨.ACC_CNT, 18, 1⟩
def ACC_CNT.RANGE : Fld := ⟨.ACC_CNT, 17, 1⟩
def ACC_CNT.STALE : Fld := ⟨.ACC_CNT, 16, 1⟩
def ACC_CNT.COUNT : Fld := ⟨.ACC_CNT, 0, 16⟩
/-! ACC_MM (R131) -/
def ACC_MM.MAX : Fld := ⟨.ACC_MM, 16, 12⟩
def ACC_MM.MIN : Fld := ⟨.ACC_MM, 0, 12⟩
/-! ACC_THR (R131) -/
def ACC_THR.ABOVE : Fld := ⟨.ACC_THR, 16, 1⟩
def ACC_THR.THR_EN : Fld := ⟨.ACC_THR, 15, 1⟩
def ACC_THR.THR : Fld := ⟨.ACC_THR, 0, 12⟩
/-! DRV_OUT (R131) -/
def DRV_OUT.BUF : Fld := ⟨.DRV_OUT, 16, 16⟩
def DRV_OUT.CODE : Fld := ⟨.DRV_OUT, 0, 16⟩
/-! TONE_FREQ (R131) -/
def TONE_FREQ.FREQ : Fld := ⟨.TONE_FREQ, 0, 20⟩
/-! TONE_AMP (R131) -/
def TONE_AMP.ASH : Fld := ⟨.TONE_AMP, 16, 3⟩
def TONE_AMP.ON : Fld := ⟨.TONE_AMP, 8, 1⟩
def TONE_AMP.AMP : Fld := ⟨.TONE_AMP, 0, 8⟩
/-! DRV_LCTL (R131) -/
def DRV_LCTL.ISOL : Fld := ⟨.DRV_LCTL, 2, 1⟩
def DRV_LCTL.LSG : Fld := ⟨.DRV_LCTL, 0, 2⟩
/-! TONE_TAB (R131) -/
def TONE_TAB.VAL : Fld := ⟨.TONE_TAB, 0, 15⟩
/-! PRF_LIM_A (R151) -/
def PRF_LIM_A.AMAX : Fld := ⟨.PRF_LIM_A, 16, 16⟩
def PRF_LIM_A.JMAX : Fld := ⟨.PRF_LIM_A, 0, 16⟩
/-! PRF_LIM_B (R151) -/
def PRF_LIM_B.NMIN : Fld := ⟨.PRF_LIM_B, 16, 4⟩
def PRF_LIM_B.VMAX : Fld := ⟨.PRF_LIM_B, 0, 16⟩
/-! SET_CFG (R151) -/
def SET_CFG.SET_FLOOR : Fld := ⟨.SET_CFG, 16, 16⟩
def SET_CFG.SET_FRAMES : Fld := ⟨.SET_CFG, 8, 4⟩
def SET_CFG.SET_XT : Fld := ⟨.SET_CFG, 0, 8⟩
/-! TRN_STATUS (R151) -/
def TRN_STATUS.PATTERN : Fld := ⟨.TRN_STATUS, 22, 10⟩
def TRN_STATUS.ACTIVE : Fld := ⟨.TRN_STATUS, 21, 1⟩
def TRN_STATUS.MEAS : Fld := ⟨.TRN_STATUS, 20, 1⟩
def TRN_STATUS.N_CHECK : Fld := ⟨.TRN_STATUS, 9, 9⟩
def TRN_STATUS.N_PROF : Fld := ⟨.TRN_STATUS, 0, 9⟩
/-! TRN_RESULT (R151) -/
def TRN_RESULT.RESULT : Fld := ⟨.TRN_RESULT, 30, 2⟩
def TRN_RESULT.N_FAIL : Fld := ⟨.TRN_RESULT, 18, 9⟩
def TRN_RESULT.N_UNOBS : Fld := ⟨.TRN_RESULT, 9, 9⟩
def TRN_RESULT.N_SETTLED : Fld := ⟨.TRN_RESULT, 0, 9⟩
/-! TRN_TIME (R151) -/
def TRN_TIME.TLATEST : Fld := ⟨.TRN_TIME, 0, 32⟩
/-! TRN_EVT (R151) -/
def TRN_EVT.LIM_CAP : Fld := ⟨.TRN_EVT, 3, 1⟩
def TRN_EVT.LONG : Fld := ⟨.TRN_EVT, 2, 1⟩
def TRN_EVT.SUPERSEDED : Fld := ⟨.TRN_EVT, 1, 1⟩
def TRN_EVT.SETTLE_TO : Fld := ⟨.TRN_EVT, 0, 1⟩
/-! TRN_CNT (R151) -/
def TRN_CNT.COUNT : Fld := ⟨.TRN_CNT, 0, 32⟩
/-! PRF_CFG (R152) -/
def PRF_CFG.LSET1 : Fld := ⟨.PRF_CFG, 4, 2⟩
def PRF_CFG.LSET0 : Fld := ⟨.PRF_CFG, 0, 2⟩
/-! PRF_LAST (R152) -/
def PRF_LAST.RESULT : Fld := ⟨.PRF_LAST, 28, 4⟩
def PRF_LAST.FRAME : Fld := ⟨.PRF_LAST, 24, 4⟩
def PRF_LAST.N : Fld := ⟨.PRF_LAST, 16, 8⟩
def PRF_LAST.TSETTLE : Fld := ⟨.PRF_LAST, 0, 16⟩
/-! PRF_PWR (R152) -/
def PRF_PWR.FINAL : Fld := ⟨.PRF_PWR, 16, 16⟩
def PRF_PWR.PEAK_LEAK : Fld := ⟨.PRF_PWR, 0, 16⟩
/-! PRF_MOVE (R152) -/
def PRF_MOVE.OVERSHOOT : Fld := ⟨.PRF_MOVE, 16, 16⟩
def PRF_MOVE.DIST : Fld := ⟨.PRF_MOVE, 0, 16⟩
/-! COL_STATUS (R153) -/
def COL_STATUS.INFLIGHT : Fld := ⟨.COL_STATUS, 16, 3⟩
def COL_STATUS.N_WAIT : Fld := ⟨.COL_STATUS, 0, 9⟩
/-! COL_SLOT_A (R153) -/
def COL_SLOT_A.PATTERN : Fld := ⟨.COL_SLOT_A, 22, 10⟩
def COL_SLOT_A.RESULT : Fld := ⟨.COL_SLOT_A, 20, 2⟩
def COL_SLOT_A.N_UNOBS : Fld := ⟨.COL_SLOT_A, 9, 9⟩
def COL_SLOT_A.N_FAIL : Fld := ⟨.COL_SLOT_A, 0, 9⟩
/-! COL_SLOT_B (R153) -/
def COL_SLOT_B.TLATEST : Fld := ⟨.COL_SLOT_B, 0, 32⟩
/-! PTH_CTRL (R189) -/
def PTH_CTRL.NOTICE_EN : Fld := ⟨.PTH_CTRL, 3, 1⟩
def PTH_CTRL.TAG_REPAIR : Fld := ⟨.PTH_CTRL, 2, 1⟩
def PTH_CTRL.REPAIR_REARR : Fld := ⟨.PTH_CTRL, 1, 1⟩
def PTH_CTRL.VERIFY_EN : Fld := ⟨.PTH_CTRL, 0, 1⟩
/-! PTH_STATUS (R189) -/
def PTH_STATUS.N_PATHS : Fld := ⟨.PTH_STATUS, 16, 10⟩
def PTH_STATUS.N_EXCL : Fld := ⟨.PTH_STATUS, 4, 9⟩
def PTH_STATUS.REPAIRING : Fld := ⟨.PTH_STATUS, 3, 1⟩
def PTH_STATUS.N_PEND : Fld := ⟨.PTH_STATUS, 0, 3⟩
/-! PTH_TAG_ID (R189) -/
def PTH_TAG_ID.UNIT : Fld := ⟨.PTH_TAG_ID, 6, 1⟩
def PTH_TAG_ID.DEVID : Fld := ⟨.PTH_TAG_ID, 0, 6⟩
/-! PTH_EQ (R189) -/
def PTH_EQ.EQ_PERIOD : Fld := ⟨.PTH_EQ, 22, 10⟩
def PTH_EQ.EQ_DEADBAND : Fld := ⟨.PTH_EQ, 8, 8⟩
def PTH_EQ.EQ_HEADROOM : Fld := ⟨.PTH_EQ, 0, 8⟩
/-! PTH_CHK (R189) -/
def PTH_CHK.CONT_DB : Fld := ⟨.PTH_CHK, 24, 8⟩
def PTH_CHK.CONT_N : Fld := ⟨.PTH_CHK, 16, 8⟩
def PTH_CHK.MISMATCH_N : Fld := ⟨.PTH_CHK, 12, 4⟩
def PTH_CHK.WORD_BAD_N : Fld := ⟨.PTH_CHK, 8, 4⟩
def PTH_CHK.TONE_LOSS_N : Fld := ⟨.PTH_CHK, 0, 8⟩
/-! PTH_EVT (R189) -/
def PTH_EVT.EQ_RAISED : Fld := ⟨.PTH_EVT, 4, 1⟩
def PTH_EVT.CONT_FAULT : Fld := ⟨.PTH_EVT, 3, 1⟩
def PTH_EVT.TAG_FAULT : Fld := ⟨.PTH_EVT, 2, 1⟩
def PTH_EVT.REPAIR_FAIL : Fld := ⟨.PTH_EVT, 1, 1⟩
def PTH_EVT.REPAIR_DONE : Fld := ⟨.PTH_EVT, 0, 1⟩
/-! PTH_REP_STAT (R189) -/
def PTH_REP_STAT.MAX_US : Fld := ⟨.PTH_REP_STAT, 16, 16⟩
def PTH_REP_STAT.LAST_US : Fld := ⟨.PTH_REP_STAT, 0, 16⟩
/-! EQ_CFG (R189) -/
def EQ_CFG.MODE : Fld := ⟨.EQ_CFG, 31, 1⟩
def EQ_CFG.EGR_OFS : Fld := ⟨.EQ_CFG, 16, 15⟩
def EQ_CFG.VALUE : Fld := ⟨.EQ_CFG, 0, 16⟩
/-! PATH_A (R189) -/
def PATH_A.STATE : Fld := ⟨.PATH_A, 29, 3⟩
def PATH_A.TAG : Fld := ⟨.PATH_A, 26, 3⟩
def PATH_A.EQ_RAISED : Fld := ⟨.PATH_A, 25, 1⟩
def PATH_A.OUT : Fld := ⟨.PATH_A, 16, 9⟩
def PATH_A.MID : Fld := ⟨.PATH_A, 0, 8⟩
/-! PATH_B (R189) -/
def PATH_B.VALID_T : Fld := ⟨.PATH_B, 0, 32⟩
/-! OUT_MAP (R189) -/
def OUT_MAP.USED : Fld := ⟨.OUT_MAP, 31, 1⟩
def OUT_MAP.IN : Fld := ⟨.OUT_MAP, 0, 9⟩
/-! PTH_EXCL (R189) -/
def PTH_EXCL.NODES : Fld := ⟨.PTH_EXCL, 0, 32⟩
/-! PTH_EXCL_SET (R189) -/
def PTH_EXCL_SET.NODES : Fld := ⟨.PTH_EXCL_SET, 0, 32⟩
/-! CLR_CTRL (R223) -/
def CLR_CTRL.STEP_EN : Fld := ⟨.CLR_CTRL, 4, 1⟩
def CLR_CTRL.TOD_EN : Fld := ⟨.CLR_CTRL, 3, 1⟩
def CLR_CTRL.REF_EN : Fld := ⟨.CLR_CTRL, 2, 1⟩
def CLR_CTRL.PPS_EN : Fld := ⟨.CLR_CTRL, 1, 1⟩
def CLR_CTRL.DISC_EN : Fld := ⟨.CLR_CTRL, 0, 1⟩
/-! CLR_STATUS (R223) -/
def CLR_STATUS.STEP_PEND : Fld := ⟨.CLR_STATUS, 7, 1⟩
def CLR_STATUS.TOD_OK : Fld := ⟨.CLR_STATUS, 6, 1⟩
def CLR_STATUS.REF_OK : Fld := ⟨.CLR_STATUS, 5, 1⟩
def CLR_STATUS.PPS_OK : Fld := ⟨.CLR_STATUS, 4, 1⟩
def CLR_STATUS.STATE : Fld := ⟨.CLR_STATUS, 0, 3⟩
/-! CLR_EVT (R223) -/
def CLR_EVT.PPS_BAD : Fld := ⟨.CLR_EVT, 7, 1⟩
def CLR_EVT.HOLD_LIMIT : Fld := ⟨.CLR_EVT, 6, 1⟩
def CLR_EVT.STEPPED : Fld := ⟨.CLR_EVT, 5, 1⟩
def CLR_EVT.TOD_BAD : Fld := ⟨.CLR_EVT, 4, 1⟩
def CLR_EVT.TOD_JUMP : Fld := ⟨.CLR_EVT, 3, 1⟩
def CLR_EVT.LOCK_LOST : Fld := ⟨.CLR_EVT, 2, 1⟩
def CLR_EVT.REF_LOST : Fld := ⟨.CLR_EVT, 1, 1⟩
def CLR_EVT.PPS_LOST : Fld := ⟨.CLR_EVT, 0, 1⟩
/-! CLR_SNAP_SECL (R223) -/
def CLR_SNAP_SECL.SEC_LO : Fld := ⟨.CLR_SNAP_SECL, 0, 32⟩
/-! CLR_SNAP_SECH (R223) -/
def CLR_SNAP_SECH.SEC_HI : Fld := ⟨.CLR_SNAP_SECH, 0, 16⟩
/-! CLR_SNAP_NS (R223) -/
def CLR_SNAP_NS.NS : Fld := ⟨.CLR_SNAP_NS, 0, 30⟩
/-! CLR_SNAP_TAG (R223) -/
def CLR_SNAP_TAG.TAG : Fld := ⟨.CLR_SNAP_TAG, 0, 32⟩
/-! CLR_PHASE (R223) -/
def CLR_PHASE.PHI : Fld := ⟨.CLR_PHASE, 0, 32⟩
/-! CLR_ADJ (R223) -/
def CLR_ADJ.ADJ : Fld := ⟨.CLR_ADJ, 0, 32⟩
/-! CLR_DISC (R223) -/
def CLR_DISC.LOCK_N : Fld := ⟨.CLR_DISC, 24, 8⟩
def CLR_DISC.LOCK_THR : Fld := ⟨.CLR_DISC, 16, 8⟩
def CLR_DISC.PPS_WIN : Fld := ⟨.CLR_DISC, 0, 16⟩
/-! CLR_HOLD (R223) -/
def CLR_HOLD.HOLD_LIMIT : Fld := ⟨.CLR_HOLD, 16, 16⟩
def CLR_HOLD.PPS_LOSS_N : Fld := ⟨.CLR_HOLD, 0, 8⟩
/-! CLR_TOD (R223) -/
def CLR_TOD.UTC_OFS : Fld := ⟨.CLR_TOD, 16, 16⟩
def CLR_TOD.FLAGS : Fld := ⟨.CLR_TOD, 8, 8⟩
def CLR_TOD.SEQ : Fld := ⟨.CLR_TOD, 0, 8⟩
/-! CLR_TOD_ERR (R223) -/
def CLR_TOD_ERR.BAD : Fld := ⟨.CLR_TOD_ERR, 0, 32⟩
/-! CLR_SET_SECL (R223) -/
def CLR_SET_SECL.SEC_LO : Fld := ⟨.CLR_SET_SECL, 0, 32⟩
/-! CLR_SET_SECH (R223) -/
def CLR_SET_SECH.ARM : Fld := ⟨.CLR_SET_SECH, 31, 1⟩
def CLR_SET_SECH.SEC_HI : Fld := ⟨.CLR_SET_SECH, 0, 16⟩
/-! YK_CTRL (R224) -/
def YK_CTRL.ANN_STATIC : Fld := ⟨.YK_CTRL, 9, 1⟩
def YK_CTRL.ANN_EN : Fld := ⟨.YK_CTRL, 8, 1⟩
def YK_CTRL.ALLOW_UNSET : Fld := ⟨.YK_CTRL, 5, 1⟩
def YK_CTRL.LATE_MODE : Fld := ⟨.YK_CTRL, 4, 1⟩
def YK_CTRL.CAL_RUN : Fld := ⟨.YK_CTRL, 0, 1⟩
/-! YK_STATUS (R224) -/
def YK_STATUS.ENTRY : Fld := ⟨.YK_STATUS, 26, 6⟩
def YK_STATUS.BANK : Fld := ⟨.YK_STATUS, 25, 1⟩
def YK_STATUS.N_STORE : Fld := ⟨.YK_STATUS, 14, 11⟩
def YK_STATUS.MODE : Fld := ⟨.YK_STATUS, 12, 2⟩
def YK_STATUS.CAL_PEND : Fld := ⟨.YK_STATUS, 11, 1⟩
def YK_STATUS.LAST_PAT : Fld := ⟨.YK_STATUS, 0, 10⟩
/-! YK_GRID (R224) -/
def YK_GRID.LEAD_US : Fld := ⟨.YK_GRID, 20, 10⟩
def YK_GRID.SLOT_US : Fld := ⟨.YK_GRID, 0, 20⟩
/-! YK_HORIZON (R224) -/
def YK_HORIZON.HORIZON : Fld := ⟨.YK_HORIZON, 0, 16⟩
/-! YK_EVT (R224) -/
def YK_EVT.STORE_FULL : Fld := ⟨.YK_EVT, 8, 1⟩
def YK_EVT.ANN_DEFER : Fld := ⟨.YK_EVT, 7, 1⟩
def YK_EVT.CAL_STOPPED : Fld := ⟨.YK_EVT, 6, 1⟩
def YK_EVT.CAL_SWITCHED : Fld := ⟨.YK_EVT, 5, 1⟩
def YK_EVT.CAL_STARTED : Fld := ⟨.YK_EVT, 4, 1⟩
def YK_EVT.GRID_REJ : Fld := ⟨.YK_EVT, 3, 1⟩
def YK_EVT.TURN_SKIP : Fld := ⟨.YK_EVT, 2, 1⟩
def YK_EVT.HELD : Fld := ⟨.YK_EVT, 1, 1⟩
def YK_EVT.LATE : Fld := ⟨.YK_EVT, 0, 1⟩
/-! YK_CNT (R224) -/
def YK_CNT.SKIP : Fld := ⟨.YK_CNT, 16, 16⟩
def YK_CNT.LATE : Fld := ⟨.YK_CNT, 0, 16⟩
/-! YK_CAL_N (R224) -/
def YK_CAL_N.N_B : Fld := ⟨.YK_CAL_N, 16, 7⟩
def YK_CAL_N.N_A : Fld := ⟨.YK_CAL_N, 0, 7⟩
/-! YK_CAL_AT0 (R224) -/
def YK_CAL_AT0.SEC_LO : Fld := ⟨.YK_CAL_AT0, 0, 32⟩
/-! YK_CAL_AT1 (R224) -/
def YK_CAL_AT1.SEC_HI : Fld := ⟨.YK_CAL_AT1, 0, 16⟩
/-! YK_CAL_AT2 (R224) -/
def YK_CAL_AT2.US : Fld := ⟨.YK_CAL_AT2, 0, 20⟩
/-! YK_CAL_SW (R224) -/
def YK_CAL_SW.SW_PEND : Fld := ⟨.YK_CAL_SW, 1, 1⟩
def YK_CAL_SW.SWITCH : Fld := ⟨.YK_CAL_SW, 0, 1⟩
/-! YK_CYCLE (R224) -/
def YK_CYCLE.CYCLES : Fld := ⟨.YK_CYCLE, 0, 32⟩
/-! YK_VIEW (R224) -/
def YK_VIEW.LAYER : Fld := ⟨.YK_VIEW, 0, 6⟩
/-! YK_ANN_A (R224) -/
def YK_ANN_A.NOTICE_LEAD : Fld := ⟨.YK_ANN_A, 16, 16⟩
def YK_ANN_A.GROUP : Fld := ⟨.YK_ANN_A, 0, 12⟩
/-! YK_ANN_B (R224) -/
def YK_ANN_B.ANN_REPEAT : Fld := ⟨.YK_ANN_B, 16, 16⟩
def YK_ANN_B.ANN_LEAD : Fld := ⟨.YK_ANN_B, 0, 16⟩
/-! YK_ANN_DAL (R224) -/
def YK_ANN_DAL.DA_LO : Fld := ⟨.YK_ANN_DAL, 0, 32⟩
/-! YK_ANN_DAH (R224) -/
def YK_ANN_DAH.DA_HI : Fld := ⟨.YK_ANN_DAH, 0, 16⟩
/-! YK_ANN_SEQ (R224) -/
def YK_ANN_SEQ.SEQ : Fld := ⟨.YK_ANN_SEQ, 0, 32⟩
/-! YK_CAL_ENT (R224) -/
def YK_CAL_ENT.LEN_US : Fld := ⟨.YK_CAL_ENT, 0, 20⟩
/-! YK_LAYER (R224) -/
def YK_LAYER.N_PATHS : Fld := ⟨.YK_LAYER, 16, 10⟩
def YK_LAYER.PATTERN : Fld := ⟨.YK_LAYER, 0, 10⟩
/-! HIF_ID (R231) -/
def HIF_ID.DEVICE : Fld := ⟨.HIF_ID, 16, 16⟩
def HIF_ID.VENDOR : Fld := ⟨.HIF_ID, 0, 16⟩
/-! HIF_REV (R231) -/
def HIF_REV.REV_LETTER : Fld := ⟨.HIF_REV, 12, 4⟩
def HIF_REV.REV_NUM : Fld := ⟨.HIF_REV, 8, 4⟩
def HIF_REV.VARIANT : Fld := ⟨.HIF_REV, 0, 2⟩
/-! HIF_STRAP (R231) -/
def HIF_STRAP.STRAP_FAULT : Fld := ⟨.HIF_STRAP, 31, 1⟩
def HIF_STRAP.BOOT_SRC : Fld := ⟨.HIF_STRAP, 16, 1⟩
def HIF_STRAP.DEVID : Fld := ⟨.HIF_STRAP, 8, 6⟩
def HIF_STRAP.PREF : Fld := ⟨.HIF_STRAP, 4, 1⟩
def HIF_STRAP.MODE : Fld := ⟨.HIF_STRAP, 0, 2⟩
/-! HIF_STATUS (R231) -/
def HIF_STATUS.BOOT_STAGE : Fld := ⟨.HIF_STATUS, 12, 4⟩
def HIF_STATUS.FW_SLOT : Fld := ⟨.HIF_STATUS, 8, 1⟩
def HIF_STATUS.SAFE : Fld := ⟨.HIF_STATUS, 3, 1⟩
def HIF_STATUS.INTAKE : Fld := ⟨.HIF_STATUS, 2, 1⟩
def HIF_STATUS.READY : Fld := ⟨.HIF_STATUS, 0, 1⟩
/-! HIF_CTRL (R231) -/
def HIF_CTRL.INTAKE_EN : Fld := ⟨.HIF_CTRL, 16, 1⟩
def HIF_CTRL.ERR_VEC : Fld := ⟨.HIF_CTRL, 0, 8⟩
/-! HIF_ERR (R231) -/
def HIF_ERR.ACC_ERR : Fld := ⟨.HIF_ERR, 6, 1⟩
def HIF_ERR.CFG_REJ : Fld := ⟨.HIF_ERR, 5, 1⟩
def HIF_ERR.EVT_LOST : Fld := ⟨.HIF_ERR, 4, 1⟩
def HIF_ERR.DESC_ERR : Fld := ⟨.HIF_ERR, 3, 1⟩
def HIF_ERR.DMA_WR : Fld := ⟨.HIF_ERR, 2, 1⟩
def HIF_ERR.DMA_RD : Fld := ⟨.HIF_ERR, 1, 1⟩
def HIF_ERR.DB_ERR : Fld := ⟨.HIF_ERR, 0, 1⟩
/-! HIF_ERR_RING (R231) -/
def HIF_ERR_RING.VALID : Fld := ⟨.HIF_ERR_RING, 31, 1⟩
def HIF_ERR_RING.RING : Fld := ⟨.HIF_ERR_RING, 0, 8⟩
/-! HIF_EVT_ROUTE (R231) -/
def HIF_EVT_ROUTE.ALL : Fld := ⟨.HIF_EVT_ROUTE, 0, 32⟩
/-! HIF_EVT_EN (R231) -/
def HIF_EVT_EN.EN : Fld := ⟨.HIF_EVT_EN, 0, 8⟩
/-! HIF_SCRATCH (R231) -/
def HIF_SCRATCH.VALUE : Fld := ⟨.HIF_SCRATCH, 0, 32⟩
/-! RING_BASE_LO (R237) -/
def RING_BASE_LO.ADDR : Fld := ⟨.RING_BASE_LO, 6, 26⟩
/-! RING_BASE_HI (R237) -/
def RING_BASE_HI.ADDR : Fld := ⟨.RING_BASE_HI, 0, 32⟩
/-! RING_CFG (R237) -/
def RING_CFG.EN : Fld := ⟨.RING_CFG, 31, 1⟩
def RING_CFG.PRIO : Fld := ⟨.RING_CFG, 28, 2⟩
def RING_CFG.ASSOC : Fld := ⟨.RING_CFG, 16, 6⟩
def RING_CFG.VEC : Fld := ⟨.RING_CFG, 8, 8⟩
def RING_CFG.SIZE : Fld := ⟨.RING_CFG, 0, 5⟩
/-! RING_STATUS (R237) -/
def RING_STATUS.DESC_ERR : Fld := ⟨.RING_STATUS, 10, 1⟩
def RING_STATUS.DMA_ERR : Fld := ⟨.RING_STATUS, 9, 1⟩
def RING_STATUS.DB_ERR : Fld := ⟨.RING_STATUS, 8, 1⟩
def RING_STATUS.EN_PEND : Fld := ⟨.RING_STATUS, 2, 1⟩
def RING_STATUS.BUSY : Fld := ⟨.RING_STATUS, 1, 1⟩
def RING_STATUS.ACTIVE : Fld := ⟨.RING_STATUS, 0, 1⟩
/-! RING_PI (R237) -/
def RING_PI.PI : Fld := ⟨.RING_PI, 0, 32⟩
/-! RING_CI (R237) -/
def RING_CI.CI : Fld := ⟨.RING_CI, 0, 32⟩
/-! RING_COAL (R237) -/
def RING_COAL.COAL_US : Fld := ⟨.RING_COAL, 16, 16⟩
def RING_COAL.COAL_CNT : Fld := ⟨.RING_COAL, 0, 16⟩
/-! RING_LOST (R237) -/
def RING_LOST.LOST : Fld := ⟨.RING_LOST, 0, 32⟩
/-! CAP_CFG (R276) -/
def CAP_CFG.EN : Fld := ⟨.CAP_CFG, 31, 1⟩
def CAP_CFG.VEC : Fld := ⟨.CAP_CFG, 8, 8⟩
def CAP_CFG.SIZE : Fld := ⟨.CAP_CFG, 0, 6⟩
/-! CAP_STATUS (R276) -/
def CAP_STATUS.RSV_SHORT : Fld := ⟨.CAP_STATUS, 12, 1⟩
def CAP_STATUS.OVERRUN : Fld := ⟨.CAP_STATUS, 11, 1⟩
def CAP_STATUS.ADM_REJ : Fld := ⟨.CAP_STATUS, 10, 1⟩
def CAP_STATUS.DMA_ERR : Fld := ⟨.CAP_STATUS, 9, 1⟩
def CAP_STATUS.DB_ERR : Fld := ⟨.CAP_STATUS, 8, 1⟩
def CAP_STATUS.EN_PEND : Fld := ⟨.CAP_STATUS, 2, 1⟩
def CAP_STATUS.BUSY : Fld := ⟨.CAP_STATUS, 1, 1⟩
def CAP_STATUS.ACTIVE : Fld := ⟨.CAP_STATUS, 0, 1⟩
/-! CAP_PI_LO (R276) -/
def CAP_PI_LO.PI : Fld := ⟨.CAP_PI_LO, 0, 32⟩
/-! CAP_PI_HI (R276) -/
def CAP_PI_HI.PI : Fld := ⟨.CAP_PI_HI, 0, 32⟩
/-! CAP_LOST (R276) -/
def CAP_LOST.LOST : Fld := ⟨.CAP_LOST, 0, 32⟩
/-! CAP_SRC (R276) -/
def CAP_SRC.LAST_C : Fld := ⟨.CAP_SRC, 24, 8⟩
def CAP_SRC.FIRST_C : Fld := ⟨.CAP_SRC, 16, 8⟩
def CAP_SRC.MARK_HOST : Fld := ⟨.CAP_SRC, 6, 1⟩
def CAP_SRC.MARK_PAT : Fld := ⟨.CAP_SRC, 5, 1⟩
def CAP_SRC.MARK_FLT : Fld := ⟨.CAP_SRC, 4, 1⟩
def CAP_SRC.MEAS : Fld := ⟨.CAP_SRC, 2, 1⟩
def CAP_SRC.LOOP : Fld := ⟨.CAP_SRC, 1, 1⟩
def CAP_SRC.XING : Fld := ⟨.CAP_SRC, 0, 1⟩
/-! CAP_QUOTA (R276) -/
def CAP_QUOTA.MQ : Fld := ⟨.CAP_QUOTA, 24, 8⟩
def CAP_QUOTA.QM : Fld := ⟨.CAP_QUOTA, 16, 8⟩
def CAP_QUOTA.QS : Fld := ⟨.CAP_QUOTA, 8, 8⟩
def CAP_QUOTA.QX : Fld := ⟨.CAP_QUOTA, 0, 8⟩
/-! CAP_RSV (R276) -/
def CAP_RSV.W_MBPS : Fld := ⟨.CAP_RSV, 16, 16⟩
def CAP_RSV.RSV : Fld := ⟨.CAP_RSV, 0, 16⟩
/-! CAP_OLDEST_LO (R276) -/
def CAP_OLDEST_LO.OLDEST : Fld := ⟨.CAP_OLDEST_LO, 0, 32⟩
/-! CAP_OLDEST_HI (R276) -/
def CAP_OLDEST_HI.OLDEST : Fld := ⟨.CAP_OLDEST_HI, 0, 32⟩
/-! CAP_LAP (R276) -/
def CAP_LAP.LAP : Fld := ⟨.CAP_LAP, 0, 32⟩
/-! CAP_SUPP (R276) -/
def CAP_SUPP.SUPP : Fld := ⟨.CAP_SUPP, 0, 32⟩
/-! SGF_CTRL (R309) -/
def SGF_CTRL.OWN_CLASS : Fld := ⟨.SGF_CTRL, 20, 4⟩
def SGF_CTRL.TRAP_CONSUME : Fld := ⟨.SGF_CTRL, 17, 1⟩
def SGF_CTRL.FWD_EN : Fld := ⟨.SGF_CTRL, 16, 1⟩
def SGF_CTRL.HOLDOFF_US : Fld := ⟨.SGF_CTRL, 0, 16⟩
/-! SGF_STATUS (R309) -/
def SGF_STATUS.SAFE_IDLE : Fld := ⟨.SGF_STATUS, 20, 1⟩
def SGF_STATUS.FREE_CELLS : Fld := ⟨.SGF_STATUS, 0, 19⟩
/-! SGF_BUF (R309) -/
def SGF_BUF.INPUT_MAX : Fld := ⟨.SGF_BUF, 16, 16⟩
def SGF_BUF.VOQ_MAX : Fld := ⟨.SGF_BUF, 0, 16⟩
/-! SGF_TRAP (R309) -/
def SGF_TRAP.ETYPE : Fld := ⟨.SGF_TRAP, 0, 16⟩
/-! SGF_EVT (R309) -/
def SGF_EVT.CELL_CRC : Fld := ⟨.SGF_EVT, 2, 1⟩
def SGF_EVT.FWD_FULL : Fld := ⟨.SGF_EVT, 1, 1⟩
def SGF_EVT.CMD_REJ : Fld := ⟨.SGF_EVT, 0, 1⟩
/-! SGF_FWD_CMD (R309) -/
def SGF_FWD_CMD.BUSY : Fld := ⟨.SGF_FWD_CMD, 31, 1⟩
def SGF_FWD_CMD.RESULT : Fld := ⟨.SGF_FWD_CMD, 24, 4⟩
def SGF_FWD_CMD.OP : Fld := ⟨.SGF_FWD_CMD, 16, 4⟩
def SGF_FWD_CMD.INDEX : Fld := ⟨.SGF_FWD_CMD, 0, 16⟩
/-! SGF_FWD_KEY0 (R309) -/
def SGF_FWD_KEY0.DA_LO : Fld := ⟨.SGF_FWD_KEY0, 0, 32⟩
/-! SGF_FWD_KEY1 (R309) -/
def SGF_FWD_KEY1.VID : Fld := ⟨.SGF_FWD_KEY1, 16, 12⟩
def SGF_FWD_KEY1.DA_HI : Fld := ⟨.SGF_FWD_KEY1, 0, 16⟩
/-! SGF_FWD_RES (R309) -/
def SGF_FWD_RES.VALID : Fld := ⟨.SGF_FWD_RES, 31, 1⟩
def SGF_FWD_RES.TYPE : Fld := ⟨.SGF_FWD_RES, 29, 2⟩
def SGF_FWD_RES.CLS_OVR : Fld := ⟨.SGF_FWD_RES, 28, 1⟩
def SGF_FWD_RES.CLASS : Fld := ⟨.SGF_FWD_RES, 24, 4⟩
def SGF_FWD_RES.DEST : Fld := ⟨.SGF_FWD_RES, 0, 12⟩
/-! SGF_FWD_CNT (R309) -/
def SGF_FWD_CNT.ENTRIES : Fld := ⟨.SGF_FWD_CNT, 0, 17⟩
/-! SP_CFG (R310) -/
def SP_CFG.EN : Fld := ⟨.SP_CFG, 31, 1⟩
def SP_CFG.AN_EN : Fld := ⟨.SP_CFG, 30, 1⟩
def SP_CFG.FORCE_RATE : Fld := ⟨.SP_CFG, 28, 2⟩
def SP_CFG.ADV : Fld := ⟨.SP_CFG, 25, 3⟩
def SP_CFG.FEC_REQ : Fld := ⟨.SP_CFG, 24, 1⟩
def SP_CFG.CT_EN : Fld := ⟨.SP_CFG, 23, 1⟩
def SP_CFG.MISS : Fld := ⟨.SP_CFG, 18, 2⟩
def SP_CFG.DEF_CLASS : Fld := ⟨.SP_CFG, 12, 4⟩
def SP_CFG.DEF_VID : Fld := ⟨.SP_CFG, 0, 12⟩
/-! SP_STATUS (R310) -/
def SP_STATUS.STATE : Fld := ⟨.SP_STATUS, 29, 3⟩
def SP_STATUS.RATE : Fld := ⟨.SP_STATUS, 27, 2⟩
def SP_STATUS.FEC : Fld := ⟨.SP_STATUS, 25, 2⟩
def SP_STATUS.BUSY : Fld := ⟨.SP_STATUS, 24, 1⟩
def SP_STATUS.EN_PEND : Fld := ⟨.SP_STATUS, 23, 1⟩
def SP_STATUS.CAPPED : Fld := ⟨.SP_STATUS, 22, 1⟩
def SP_STATUS.HOLD_LEFT : Fld := ⟨.SP_STATUS, 0, 16⟩
/-! SP_PCP (R310) -/
def SP_PCP.CLASS : Fld := ⟨.SP_PCP, 0, 32⟩
/-! SP_EVT (R310) -/
def SP_EVT.AN_FAIL : Fld := ⟨.SP_EVT, 3, 1⟩
def SP_EVT.FLUSHED : Fld := ⟨.SP_EVT, 2, 1⟩
def SP_EVT.LINK_DOWN : Fld := ⟨.SP_EVT, 1, 1⟩
def SP_EVT.LINK_UP : Fld := ⟨.SP_EVT, 0, 1⟩
/-! SP_CNT (R310) -/
def SP_CNT.COUNT : Fld := ⟨.SP_CNT, 0, 32⟩
/-! MC_MASK (R312) -/
def MC_MASK.PORTS : Fld := ⟨.MC_MASK, 0, 32⟩
/-! TRC_CTRL (R328) -/
def TRC_CTRL.OBS_EN : Fld := ⟨.TRC_CTRL, 16, 1⟩
def TRC_CTRL.OBS_TAU : Fld := ⟨.TRC_CTRL, 8, 4⟩
def TRC_CTRL.SHP_OVH : Fld := ⟨.TRC_CTRL, 0, 6⟩
/-! TRC_PCPCOL (R328) -/
def TRC_PCPCOL.COL : Fld := ⟨.TRC_PCPCOL, 0, 16⟩
/-! TRC_EVT (R328) -/
def TRC_EVT.PAR_REJ : Fld := ⟨.TRC_EVT, 0, 1⟩
/-! OBS_SEQ (R328) -/
def OBS_SEQ.SEQ : Fld := ⟨.OBS_SEQ, 0, 32⟩
/-! POL_PORT (R328) -/
def POL_PORT.SEL : Fld := ⟨.POL_PORT, 0, 1⟩
/-! POL_PC (R328) -/
def POL_PC.EN : Fld := ⟨.POL_PC, 31, 1⟩
def POL_PC.POLICER : Fld := ⟨.POL_PC, 0, 12⟩
/-! POL_VID (R328) -/
def POL_VID.EN : Fld := ⟨.POL_VID, 31, 1⟩
def POL_VID.POLICER : Fld := ⟨.POL_VID, 0, 12⟩
/-! PAIR_CTRL (R362) -/
def PAIR_CTRL.RECLAIM_HOLD : Fld := ⟨.PAIR_CTRL, 16, 16⟩
def PAIR_CTRL.RESYNC : Fld := ⟨.PAIR_CTRL, 1, 1⟩
def PAIR_CTRL.MIR_EN : Fld := ⟨.PAIR_CTRL, 0, 1⟩
/-! PAIR_STATUS (R362) -/
def PAIR_STATUS.RECLAIM_LEFT : Fld := ⟨.PAIR_STATUS, 16, 16⟩
def PAIR_STATUS.LANE_UP : Fld := ⟨.PAIR_STATUS, 14, 2⟩
def PAIR_STATUS.PEER : Fld := ⟨.PAIR_STATUS, 13, 1⟩
def PAIR_STATUS.RECLAIM : Fld := ⟨.PAIR_STATUS, 12, 1⟩
def PAIR_STATUS.HEALTH_OK : Fld := ⟨.PAIR_STATUS, 11, 1⟩
def PAIR_STATUS.ACTIVE_SEL : Fld := ⟨.PAIR_STATUS, 10, 1⟩
def PAIR_STATUS.PREF : Fld := ⟨.PAIR_STATUS, 9, 1⟩
def PAIR_STATUS.UNIT : Fld := ⟨.PAIR_STATUS, 8, 1⟩
def PAIR_STATUS.SYNC : Fld := ⟨.PAIR_STATUS, 2, 3⟩
def PAIR_STATUS.ROLE : Fld := ⟨.PAIR_STATUS, 0, 2⟩
/-! PAIR_EVT (R362) -/
def PAIR_EVT.HEALTH : Fld := ⟨.PAIR_EVT, 11, 1⟩
def PAIR_EVT.PREF_CONFLICT : Fld := ⟨.PAIR_EVT, 10, 1⟩
def PAIR_EVT.DUAL_ACTIVE : Fld := ⟨.PAIR_EVT, 9, 1⟩
def PAIR_EVT.TIME_SKEW : Fld := ⟨.PAIR_EVT, 8, 1⟩
def PAIR_EVT.CFG_MISMATCH : Fld := ⟨.PAIR_EVT, 7, 1⟩
def PAIR_EVT.STANDBY_OUTCOME : Fld := ⟨.PAIR_EVT, 6, 1⟩
def PAIR_EVT.PEER_FOUND : Fld := ⟨.PAIR_EVT, 5, 1⟩
def PAIR_EVT.PEER_LOST : Fld := ⟨.PAIR_EVT, 4, 1⟩
def PAIR_EVT.SYNCED : Fld := ⟨.PAIR_EVT, 3, 1⟩
def PAIR_EVT.SYNC_LOST : Fld := ⟨.PAIR_EVT, 2, 1⟩
def PAIR_EVT.YIELD : Fld := ⟨.PAIR_EVT, 1, 1⟩
def PAIR_EVT.TAKEOVER : Fld := ⟨.PAIR_EVT, 0, 1⟩
/-! PAIR_TIME (R362) -/
def PAIR_TIME.TSKEW_MAX : Fld := ⟨.PAIR_TIME, 16, 16⟩
def PAIR_TIME.MIR_TO : Fld := ⟨.PAIR_TIME, 0, 10⟩
/-! PAIR_WD (R362) -/
def PAIR_WD.PEER_TO : Fld := ⟨.PAIR_WD, 16, 10⟩
def PAIR_WD.HB_MS : Fld := ⟨.PAIR_WD, 0, 10⟩
/-! HEALTH_WORD (R362) -/
def HEALTH_WORD.WORD : Fld := ⟨.HEALTH_WORD, 0, 32⟩
/-! PEER_HEALTH (R362) -/
def PEER_HEALTH.WORD : Fld := ⟨.PEER_HEALTH, 0, 32⟩
/-! HEALTH_MASK (R362) -/
def HEALTH_MASK.MASK : Fld := ⟨.HEALTH_MASK, 0, 16⟩
/-! PAIR_OFFSET (R362) -/
def PAIR_OFFSET.OFFSET : Fld := ⟨.PAIR_OFFSET, 0, 32⟩
/-! PAIR_PTN (R362) -/
def PAIR_PTN.PTN : Fld := ⟨.PAIR_PTN, 0, 32⟩
/-! PAIR_SEQ (R362) -/
def PAIR_SEQ.SEQ : Fld := ⟨.PAIR_SEQ, 0, 32⟩
/-! PAIR_CNT (R362) -/
def PAIR_CNT.COUNT : Fld := ⟨.PAIR_CNT, 0, 32⟩
/-! FAB_CTRL (R387) -/
def FAB_CTRL.FAB_LEAD : Fld := ⟨.FAB_CTRL, 16, 16⟩
def FAB_CTRL.TRIES : Fld := ⟨.FAB_CTRL, 8, 4⟩
def FAB_CTRL.REROUTE_EN : Fld := ⟨.FAB_CTRL, 2, 1⟩
def FAB_CTRL.PROBE_EN : Fld := ⟨.FAB_CTRL, 1, 1⟩
def FAB_CTRL.DISC_EN : Fld := ⟨.FAB_CTRL, 0, 1⟩
/-! FAB_STATUS (R387) -/
def FAB_STATUS.STATE : Fld := ⟨.FAB_STATUS, 24, 2⟩
def FAB_STATUS.N_MID : Fld := ⟨.FAB_STATUS, 16, 6⟩
def FAB_STATUS.N_DEV : Fld := ⟨.FAB_STATUS, 8, 7⟩
def FAB_STATUS.ROLE : Fld := ⟨.FAB_STATUS, 6, 1⟩
def FAB_STATUS.DEVID : Fld := ⟨.FAB_STATUS, 0, 6⟩
/-! FAB_EVT (R387) -/
def FAB_EVT.DIGEST : Fld := ⟨.FAB_EVT, 9, 1⟩
def FAB_EVT.DUP_DEVID : Fld := ⟨.FAB_EVT, 8, 1⟩
def FAB_EVT.SEGMENT : Fld := ⟨.FAB_EVT, 7, 1⟩
def FAB_EVT.REROUTE_FAIL : Fld := ⟨.FAB_EVT, 6, 1⟩
def FAB_EVT.REROUTED : Fld := ⟨.FAB_EVT, 5, 1⟩
def FAB_EVT.MISWIRED : Fld := ⟨.FAB_EVT, 4, 1⟩
def FAB_EVT.DEV_FOUND : Fld := ⟨.FAB_EVT, 3, 1⟩
def FAB_EVT.DEV_LOST : Fld := ⟨.FAB_EVT, 2, 1⟩
def FAB_EVT.LINK_DOWN : Fld := ⟨.FAB_EVT, 1, 1⟩
def FAB_EVT.TOPOLOGY : Fld := ⟨.FAB_EVT, 0, 1⟩
/-! FAB_TIME0 (R387) -/
def FAB_TIME0.HELLO_N : Fld := ⟨.FAB_TIME0, 8, 4⟩
def FAB_TIME0.HELLO_US : Fld := ⟨.FAB_TIME0, 0, 8⟩
/-! FAB_TIME1 (R387) -/
def FAB_TIME1.PROBE_MS : Fld := ⟨.FAB_TIME1, 16, 16⟩
def FAB_TIME1.DISC_MS : Fld := ⟨.FAB_TIME1, 0, 16⟩
/-! FAB_TIME2 (R387) -/
def FAB_TIME2.REP_LEAD : Fld := ⟨.FAB_TIME2, 16, 16⟩
def FAB_TIME2.RESV_TO : Fld := ⟨.FAB_TIME2, 0, 16⟩
/-! FAB_WATCH (R387) -/
def FAB_WATCH.LINK_DB : Fld := ⟨.FAB_WATCH, 8, 8⟩
def FAB_WATCH.LINK_N : Fld := ⟨.FAB_WATCH, 0, 8⟩
/-! FAB_DIGEST (R387) -/
def FAB_DIGEST.DIGEST : Fld := ⟨.FAB_DIGEST, 0, 32⟩
/-! FAB_RT (R387) -/
def FAB_RT.VALID : Fld := ⟨.FAB_RT, 31, 1⟩
def FAB_RT.HOPS : Fld := ⟨.FAB_RT, 16, 4⟩
def FAB_RT.PORT : Fld := ⟨.FAB_RT, 0, 6⟩
/-! FAB_DEV (R387) -/
def FAB_DEV.KNOWN : Fld := ⟨.FAB_DEV, 31, 1⟩
def FAB_DEV.ALIVE : Fld := ⟨.FAB_DEV, 30, 1⟩
def FAB_DEV.LINKS : Fld := ⟨.FAB_DEV, 16, 10⟩
/-! FAB_LNK_OUT (R387) -/
def FAB_LNK_OUT.STATE : Fld := ⟨.FAB_LNK_OUT, 29, 3⟩
def FAB_LNK_OUT.REMOTE_DEV : Fld := ⟨.FAB_LNK_OUT, 16, 6⟩
def FAB_LNK_OUT.REMOTE_PORT : Fld := ⟨.FAB_LNK_OUT, 0, 9⟩
/-! FAB_LNK_IN (R387) -/
def FAB_LNK_IN.STATE : Fld := ⟨.FAB_LNK_IN, 29, 3⟩
def FAB_LNK_IN.REMOTE_DEV : Fld := ⟨.FAB_LNK_IN, 16, 6⟩
def FAB_LNK_IN.REMOTE_PORT : Fld := ⟨.FAB_LNK_IN, 0, 9⟩
/-! FAB_PATH_A (R387) -/
def FAB_PATH_A.STATE : Fld := ⟨.FAB_PATH_A, 29, 3⟩
def FAB_PATH_A.LOCAL : Fld := ⟨.FAB_PATH_A, 28, 1⟩
def FAB_PATH_A.MID_DEV : Fld := ⟨.FAB_PATH_A, 22, 6⟩
def FAB_PATH_A.DST_DEV : Fld := ⟨.FAB_PATH_A, 16, 6⟩
def FAB_PATH_A.DST_PORT : Fld := ⟨.FAB_PATH_A, 8, 8⟩
/-! FAB_PATH_B (R387) -/
def FAB_PATH_B.UPLINK : Fld := ⟨.FAB_PATH_B, 16, 9⟩
def FAB_PATH_B.DOWNLINK : Fld := ⟨.FAB_PATH_B, 0, 9⟩
/-! FLT_CTRL (R406) -/
def FLT_CTRL.ESC_MS : Fld := ⟨.FLT_CTRL, 16, 10⟩
/-! FLT_STATUS (R406) -/
def FLT_STATUS.SAFE : Fld := ⟨.FLT_STATUS, 31, 1⟩
def FLT_STATUS.ENTERING : Fld := ⟨.FLT_STATUS, 30, 1⟩
def FLT_STATUS.EXIT_PEND : Fld := ⟨.FLT_STATUS, 29, 1⟩
def FLT_STATUS.N_ESC : Fld := ⟨.FLT_STATUS, 16, 9⟩
def FLT_STATUS.N_SET : Fld := ⟨.FLT_STATUS, 0, 9⟩
/-! FLT_SAFE (R406) -/
def FLT_SAFE.CAUSE : Fld := ⟨.FLT_SAFE, 0, 16⟩
/-! FLT_SAFE_CNT (R406) -/
def FLT_SAFE_CNT.COUNT : Fld := ⟨.FLT_SAFE_CNT, 0, 32⟩
/-! FLT_PAR (R406) -/
def FLT_PAR.VALID : Fld := ⟨.FLT_PAR, 31, 1⟩
def FLT_PAR.OFFSET : Fld := ⟨.FLT_PAR, 0, 12⟩
/-! FLT_SUM (R406) -/
def FLT_SUM.GROUP : Fld := ⟨.FLT_SUM, 0, 8⟩
/-! FLT_STAT (R407) -/
def FLT_STAT.STAT : Fld := ⟨.FLT_STAT, 0, 32⟩
/-! FLT_EN (R407) -/
def FLT_EN.EN : Fld := ⟨.FLT_EN, 0, 32⟩
/-! FLT_FORCE (R407) -/
def FLT_FORCE.FORCE : Fld := ⟨.FLT_FORCE, 0, 32⟩
/-! FLT_CLASS_LO (R407) -/
def FLT_CLASS_LO.ALL : Fld := ⟨.FLT_CLASS_LO, 0, 32⟩
/-! FLT_CLASS_HI (R407) -/
def FLT_CLASS_HI.ALL : Fld := ⟨.FLT_CLASS_HI, 0, 32⟩
/-! FLT_ESC_RUN (R407) -/
def FLT_ESC_RUN.RUN : Fld := ⟨.FLT_ESC_RUN, 0, 32⟩
/-! FLT_HELD (R407) -/
def FLT_HELD.HELD : Fld := ⟨.FLT_HELD, 0, 32⟩
/-! FLT_ACTED (R407) -/
def FLT_ACTED.ACTED : Fld := ⟨.FLT_ACTED, 0, 32⟩
/-! THM_CTRL (R430) -/
def THM_CTRL.BROKEN_MAX : Fld := ⟨.THM_CTRL, 8, 4⟩
def THM_CTRL.TEST : Fld := ⟨.THM_CTRL, 0, 1⟩
/-! THM_STATUS (R430) -/
def THM_STATUS.HOT_SNS : Fld := ⟨.THM_STATUS, 24, 8⟩
def THM_STATUS.N_BROKEN : Fld := ⟨.THM_STATUS, 16, 8⟩
def THM_STATUS.SHUT_LATCH : Fld := ⟨.THM_STATUS, 6, 1⟩
def THM_STATUS.PHASE : Fld := ⟨.THM_STATUS, 4, 2⟩
def THM_STATUS.LEVEL : Fld := ⟨.THM_STATUS, 0, 2⟩
/-! THM_THR (R430) -/
def THM_THR.SHUT_C : Fld := ⟨.THM_THR, 16, 8⟩
def THM_THR.THR_C : Fld := ⟨.THM_THR, 8, 8⟩
def THM_THR.WARN_C : Fld := ⟨.THM_THR, 0, 8⟩
/-! THM_MAX (R430) -/
def THM_MAX.PEAK : Fld := ⟨.THM_MAX, 16, 16⟩
def THM_MAX.NOW : Fld := ⟨.THM_MAX, 0, 16⟩
/-! THM_EVT (R430) -/
def THM_EVT.RESTARTED : Fld := ⟨.THM_EVT, 4, 1⟩
def THM_EVT.BROKEN : Fld := ⟨.THM_EVT, 3, 1⟩
def THM_EVT.SHUTDOWN : Fld := ⟨.THM_EVT, 2, 1⟩
def THM_EVT.THROTTLE : Fld := ⟨.THM_EVT, 1, 1⟩
def THM_EVT.WARN : Fld := ⟨.THM_EVT, 0, 1⟩
/-! THM_PD (R430) -/
def THM_PD.PD_VALID : Fld := ⟨.THM_PD, 31, 1⟩
def THM_PD.GRAD_WIDE : Fld := ⟨.THM_PD, 30, 1⟩
def THM_PD.GRAD : Fld := ⟨.THM_PD, 16, 12⟩
def THM_PD.MEAN : Fld := ⟨.THM_PD, 0, 16⟩
/-! THM_RESTARTS (R430) -/
def THM_RESTARTS.COUNT : Fld := ⟨.THM_RESTARTS, 0, 32⟩
/-! TEC_CTRL (R430) -/
def TEC_CTRL.TSET : Fld := ⟨.TEC_CTRL, 16, 16⟩
def TEC_CTRL.COOL_LEG : Fld := ⟨.TEC_CTRL, 1, 1⟩
def TEC_CTRL.EN : Fld := ⟨.TEC_CTRL, 0, 1⟩
/-! TEC_GAIN (R430) -/
def TEC_GAIN.KP : Fld := ⟨.TEC_GAIN, 16, 16⟩
def TEC_GAIN.KI : Fld := ⟨.TEC_GAIN, 0, 16⟩
/-! TEC_MON (R430) -/
def TEC_MON.TEC_TIME : Fld := ⟨.TEC_MON, 16, 16⟩
def TEC_MON.TEC_BAND : Fld := ⟨.TEC_MON, 0, 8⟩
/-! TEC_OUT (R430) -/
def TEC_OUT.IN_BAND : Fld := ⟨.TEC_OUT, 17, 1⟩
def TEC_OUT.U : Fld := ⟨.TEC_OUT, 0, 17⟩
/-! THM_SNS (R430) -/
def THM_SNS.EN : Fld := ⟨.THM_SNS, 31, 1⟩
def THM_SNS.BROKEN : Fld := ⟨.THM_SNS, 30, 1⟩
def THM_SNS.VALUE : Fld := ⟨.THM_SNS, 0, 16⟩
/-! THM_OFS (R430) -/
def THM_OFS.OFS : Fld := ⟨.THM_OFS, 0, 16⟩
/-! PWM_CTRL (R431) -/
def PWM_CTRL.PRESC : Fld := ⟨.PWM_CTRL, 4, 2⟩
def PWM_CTRL.IDLE_LVL : Fld := ⟨.PWM_CTRL, 2, 1⟩
def PWM_CTRL.SYNC : Fld := ⟨.PWM_CTRL, 1, 1⟩
def PWM_CTRL.EN : Fld := ⟨.PWM_CTRL, 0, 1⟩
/-! PWM_PER (R431) -/
def PWM_PER.PER : Fld := ⟨.PWM_PER, 0, 12⟩
/-! PWM_DUTY (R431) -/
def PWM_DUTY.DUTY : Fld := ⟨.PWM_DUTY, 0, 16⟩
/-! PWM_UPD (R431) -/
def PWM_UPD.UPD_PEND : Fld := ⟨.PWM_UPD, 1, 1⟩
def PWM_UPD.UPDATE : Fld := ⟨.PWM_UPD, 0, 1⟩
/-! PWM_STATUS (R431) -/
def PWM_STATUS.OWNED : Fld := ⟨.PWM_STATUS, 3, 1⟩
def PWM_STATUS.FLT_IN : Fld := ⟨.PWM_STATUS, 2, 1⟩
def PWM_STATUS.CUT : Fld := ⟨.PWM_STATUS, 1, 1⟩
def PWM_STATUS.CLAMP : Fld := ⟨.PWM_STATUS, 0, 1⟩
/-! PWM_LIVE (R431) -/
def PWM_LIVE.DUTY : Fld := ⟨.PWM_LIVE, 16, 16⟩
def PWM_LIVE.K : Fld := ⟨.PWM_LIVE, 12, 4⟩
def PWM_LIVE.PER : Fld := ⟨.PWM_LIVE, 0, 12⟩
/-! PWM_CUTS (R431) -/
def PWM_CUTS.COUNT : Fld := ⟨.PWM_CUTS, 0, 32⟩
/-! PWR_CTRL (R432) -/
def PWR_CTRL.AUTO_WAKE : Fld := ⟨.PWR_CTRL, 8, 1⟩
def PWR_CTRL.TARGET : Fld := ⟨.PWR_CTRL, 0, 3⟩
/-! PWR_STATUS (R432) -/
def PWR_STATUS.WAIT : Fld := ⟨.PWR_STATUS, 16, 6⟩
def PWR_STATUS.CHANGING : Fld := ⟨.PWR_STATUS, 9, 1⟩
def PWR_STATUS.PEND : Fld := ⟨.PWR_STATUS, 8, 1⟩
def PWR_STATUS.STATE : Fld := ⟨.PWR_STATUS, 0, 3⟩
/-! PWR_EVT (R432) -/
def PWR_EVT.AUTO : Fld := ⟨.PWR_EVT, 1, 1⟩
def PWR_EVT.CHANGED : Fld := ⟨.PWR_EVT, 0, 1⟩
/-! PWR_EXIT (R432) -/
def PWR_EXIT.FROM : Fld := ⟨.PWR_EXIT, 29, 3⟩
def PWR_EXIT.US : Fld := ⟨.PWR_EXIT, 0, 24⟩
/-! PRL_STATUS (R457) -/
def PRL_STATUS.LS_HALT : Fld := ⟨.PRL_STATUS, 31, 1⟩
def PRL_STATUS.HB_LATE : Fld := ⟨.PRL_STATUS, 30, 1⟩
def PRL_STATUS.AWAKE : Fld := ⟨.PRL_STATUS, 29, 1⟩
def PRL_STATUS.REMAP : Fld := ⟨.PRL_STATUS, 28, 1⟩
def PRL_STATUS.ROLLBACK : Fld := ⟨.PRL_STATUS, 16, 4⟩
def PRL_STATUS.HB_CNT : Fld := ⟨.PRL_STATUS, 0, 8⟩
/-! PRL_FWVER (R457) -/
def PRL_FWVER.VERSION : Fld := ⟨.PRL_FWVER, 0, 32⟩
/-! PRL_ALTVER (R457) -/
def PRL_ALTVER.VERSION : Fld := ⟨.PRL_ALTVER, 0, 32⟩
/-! PRL_SLOTS (R457) -/
def PRL_SLOTS.BOOT_SLOT : Fld := ⟨.PRL_SLOTS, 24, 1⟩
def PRL_SLOTS.TRIES_B : Fld := ⟨.PRL_SLOTS, 20, 4⟩
def PRL_SLOTS.STATE_B : Fld := ⟨.PRL_SLOTS, 16, 4⟩
def PRL_SLOTS.TRIES_A : Fld := ⟨.PRL_SLOTS, 4, 4⟩
def PRL_SLOTS.STATE_A : Fld := ⟨.PRL_SLOTS, 0, 4⟩
/-! PRL_LOG (R457) -/
def PRL_LOG.WR_OFS : Fld := ⟨.PRL_LOG, 0, 24⟩
/-! PRL_LOGSEQ (R457) -/
def PRL_LOGSEQ.SEQ : Fld := ⟨.PRL_LOGSEQ, 0, 32⟩
/-! PRL_STAGE (R457) -/
def PRL_STAGE.OWNER : Fld := ⟨.PRL_STAGE, 30, 2⟩
def PRL_STAGE.RELEASE : Fld := ⟨.PRL_STAGE, 29, 1⟩
def PRL_STAGE.COMMIT : Fld := ⟨.PRL_STAGE, 28, 1⟩
def PRL_STAGE.SWITCH : Fld := ⟨.PRL_STAGE, 27, 1⟩
def PRL_STAGE.EXTENT : Fld := ⟨.PRL_STAGE, 0, 26⟩
/-! PRL_WD (R457) -/
def PRL_WD.WD_MS : Fld := ⟨.PRL_WD, 0, 10⟩
/-! IC_CTRL (R458) -/
def IC_CTRL.GATE : Fld := ⟨.IC_CTRL, 31, 1⟩
def IC_CTRL.DEPTH : Fld := ⟨.IC_CTRL, 24, 5⟩
def IC_CTRL.RUN_GRP : Fld := ⟨.IC_CTRL, 16, 8⟩
def IC_CTRL.SPUR : Fld := ⟨.IC_CTRL, 0, 16⟩
/-! IC_WAKE (R458) -/
def IC_WAKE.EN : Fld := ⟨.IC_WAKE, 0, 32⟩
/-! IC_SRC (R458) -/
def IC_SRC.EN : Fld := ⟨.IC_SRC, 31, 1⟩
def IC_SRC.PEND : Fld := ⟨.IC_SRC, 30, 1⟩
def IC_SRC.ACT : Fld := ⟨.IC_SRC, 29, 1⟩
def IC_SRC.OVR : Fld := ⟨.IC_SRC, 28, 1⟩
def IC_SRC.EDGE : Fld := ⟨.IC_SRC, 27, 1⟩
def IC_SRC.GRP : Fld := ⟨.IC_SRC, 20, 4⟩
def IC_SRC.SUB : Fld := ⟨.IC_SRC, 16, 4⟩
def IC_SRC.FILT : Fld := ⟨.IC_SRC, 0, 8⟩
/-! PRL_BOOT (R479) -/
def PRL_BOOT.FAIL : Fld := ⟨.PRL_BOOT, 31, 1⟩
def PRL_BOOT.STAGE : Fld := ⟨.PRL_BOOT, 24, 4⟩
def PRL_BOOT.CAUSE : Fld := ⟨.PRL_BOOT, 0, 8⟩
/-! CAL_CMD (R479) -/
def CAL_CMD.OP : Fld := ⟨.CAL_CMD, 0, 4⟩
/-! CAL_STATUS (R479) -/
def CAL_STATUS.BUSY : Fld := ⟨.CAL_STATUS, 31, 1⟩
def CAL_STATUS.STALE : Fld := ⟨.CAL_STATUS, 30, 1⟩
def CAL_STATUS.OP : Fld := ⟨.CAL_STATUS, 24, 4⟩
def CAL_STATUS.RESULT : Fld := ⟨.CAL_STATUS, 20, 4⟩
def CAL_STATUS.CAUSE : Fld := ⟨.CAL_STATUS, 16, 4⟩
def CAL_STATUS.DONE_C : Fld := ⟨.CAL_STATUS, 8, 8⟩
def CAL_STATUS.CMD_REJ : Fld := ⟨.CAL_STATUS, 0, 1⟩
/-! CAL_SCOPE (R479) -/
def CAL_SCOPE.GROUPS : Fld := ⟨.CAL_SCOPE, 16, 4⟩
def CAL_SCOPE.LAST_C : Fld := ⟨.CAL_SCOPE, 8, 8⟩
def CAL_SCOPE.FIRST_C : Fld := ⟨.CAL_SCOPE, 0, 8⟩
/-! CAL_PREF (R479) -/
def CAL_PREF.PREF : Fld := ⟨.CAL_PREF, 0, 16⟩
/-! CAL_VREF (R479) -/
def CAL_VREF.VREF : Fld := ⟨.CAL_VREF, 0, 21⟩
/-! CAL_PRB (R479) -/
def CAL_PRB.DWELL_US : Fld := ⟨.CAL_PRB, 0, 17⟩
/-! TRIM_CFG (R479) -/
def TRIM_CFG.TRAINS : Fld := ⟨.TRIM_CFG, 24, 4⟩
def TRIM_CFG.TRAIN : Fld := ⟨.TRIM_CFG, 16, 8⟩
def TRIM_CFG.TOL : Fld := ⟨.TRIM_CFG, 0, 11⟩
/-! CAL_COVER (R479) -/
def CAL_COVER.N_MISS : Fld := ⟨.CAL_COVER, 16, 16⟩
def CAL_COVER.N_BOTH : Fld := ⟨.CAL_COVER, 0, 16⟩
/-! TRIM_RES (R479) -/
def TRIM_RES.N_OUT : Fld := ⟨.TRIM_RES, 16, 16⟩
def TRIM_RES.N_PULSED : Fld := ⟨.TRIM_RES, 0, 16⟩
/-! TRIM_WORN (R479) -/
def TRIM_WORN.N_WORN : Fld := ⟨.TRIM_WORN, 0, 16⟩
/-! CAL_DELTA (R479) -/
def CAL_DELTA.CLUSTER : Fld := ⟨.CAL_DELTA, 16, 8⟩
def CAL_DELTA.DELTA : Fld := ⟨.CAL_DELTA, 0, 16⟩
/-! CAL_LAST (R479) -/
def CAL_LAST.SEC : Fld := ⟨.CAL_LAST, 0, 32⟩
/-! SHP_CIR (R329) -/
def SHP_CIR.CIR : Fld := ⟨.SHP_CIR, 0, 26⟩
/-! SHP_PIR (R329) -/
def SHP_PIR.PIR : Fld := ⟨.SHP_PIR, 0, 26⟩
/-! SHP_CBS (R329) -/
def SHP_CBS.CBS : Fld := ⟨.SHP_CBS, 0, 18⟩
/-! SHP_PBS (R329) -/
def SHP_PBS.PBS : Fld := ⟨.SHP_PBS, 0, 18⟩
/-! SHP_CFG (R329) -/
def SHP_CFG.APPLY : Fld := ⟨.SHP_CFG, 31, 1⟩
def SHP_CFG.ACT_EN : Fld := ⟨.SHP_CFG, 8, 1⟩
def SHP_CFG.EN : Fld := ⟨.SHP_CFG, 0, 1⟩
/-! SHP_TC (R329) -/
def SHP_TC.TC : Fld := ⟨.SHP_TC, 0, 32⟩
/-! SHP_TP (R329) -/
def SHP_TP.TP : Fld := ⟨.SHP_TP, 0, 32⟩
/-! SHP_STATUS (R329) -/
def SHP_STATUS.TIER : Fld := ⟨.SHP_STATUS, 0, 2⟩
/-! POL_CIR (R330) -/
def POL_CIR.CIR : Fld := ⟨.POL_CIR, 0, 26⟩
/-! POL_PIR (R330) -/
def POL_PIR.PIR : Fld := ⟨.POL_PIR, 0, 26⟩
/-! POL_CBS (R330) -/
def POL_CBS.CBS : Fld := ⟨.POL_CBS, 0, 18⟩
/-! POL_PBS (R330) -/
def POL_PBS.PBS : Fld := ⟨.POL_PBS, 0, 18⟩
/-! POL_CFG (R330) -/
def POL_CFG.APPLY : Fld := ⟨.POL_CFG, 31, 1⟩
def POL_CFG.ACT_EN : Fld := ⟨.POL_CFG, 24, 1⟩
def POL_CFG.EN : Fld := ⟨.POL_CFG, 16, 1⟩
def POL_CFG.RED_CLASS : Fld := ⟨.POL_CFG, 12, 4⟩
def POL_CFG.YEL_CLASS : Fld := ⟨.POL_CFG, 8, 4⟩
def POL_CFG.RED_ACT : Fld := ⟨.POL_CFG, 6, 2⟩
def POL_CFG.YEL_ACT : Fld := ⟨.POL_CFG, 4, 2⟩
def POL_CFG.MODE : Fld := ⟨.POL_CFG, 0, 2⟩
/-! POL_GREEN (R330) -/
def POL_GREEN.COUNT : Fld := ⟨.POL_GREEN, 0, 32⟩
/-! POL_YELLOW (R330) -/
def POL_YELLOW.COUNT : Fld := ⟨.POL_YELLOW, 0, 32⟩
/-! POL_RED (R330) -/
def POL_RED.COUNT : Fld := ⟨.POL_RED, 0, 32⟩
/-! Q_DEPTH (R331) -/
def Q_DEPTH.DNOW : Fld := ⟨.Q_DEPTH, 16, 16⟩
def Q_DEPTH.DMAX : Fld := ⟨.Q_DEPTH, 0, 16⟩
/-! Q_DAVG (R331) -/
def Q_DAVG.DAVG : Fld := ⟨.Q_DAVG, 0, 32⟩
/-! Q_TMAX (R331) -/
def Q_TMAX.TMAX : Fld := ⟨.Q_TMAX, 0, 32⟩
/-! Q_TAVG (R331) -/
def Q_TAVG.TAVG : Fld := ⟨.Q_TAVG, 0, 32⟩
/-! MSIX_AL (R229) -/
def MSIX_AL.VALUE : Fld := ⟨.MSIX_AL, 0, 32⟩
/-! MSIX_AH (R229) -/
def MSIX_AH.VALUE : Fld := ⟨.MSIX_AH, 0, 32⟩
/-! MSIX_DATA (R229) -/
def MSIX_DATA.VALUE : Fld := ⟨.MSIX_DATA, 0, 32⟩
/-! MSIX_CTL (R229) -/
def MSIX_CTL.MASK : Fld := ⟨.MSIX_CTL, 0, 1⟩
/-! MSIX_PBA (R229) -/
def MSIX_PBA.PEND : Fld := ⟨.MSIX_PBA, 0, 32⟩

end Sys2Proof.Machine
end

