-- ==== Sys2Proof/Machine/Firmware.lean ====
section
/-! DEFINITION. The values firmware loads into the fields marked F (R15, R71, R76, R99, R131, R151, R393, R407), and
the reset words that differ along an array. -/
namespace Sys2Proof.Machine

/-- Clusters 136 to 143 hold Cuff elements (R48). -/
def isCuffC (c : Nat) : Bool := decide (136 ≤ c)

/-- pi times 10^40, rounded. -/
def pi40 : Nat := 31415926535897932384626433832795028841972

/-- sin(x) for x on a fixed point of 10^40, by 16 terms of its series. -/
def sin40 (x : Int) : Int :=
  let one : Int := 10 ^ 40
  let step := fun (p : Int × Int × Nat) (_ : Nat) =>
    let t := -(p.1 * x / one * x / one) / ((p.2.2 + 1) * (p.2.2 + 2) : Nat)
    (t, p.2.1 + t, p.2.2 + 2)
  ((List.range 16).foldl step (x, x, 1)).2.1

/-- Entry i of the quarter-wave table: round(32,767 × sin((i + 0.5) × π / 2,048)) (R124). -/
def quarterWave (i : Nat) : Nat :=
  (roundDiv (32767 * sin40 ((2 * i + 1) * pi40 / 4096)) (10 ^ 40)).toNat

/-- The gain entry of bank b, index i that firmware loads (R76). -/
def lutDefault (b i : Nat) : Nat :=
  let col := if i = 0 then 0 else if i < 8 then 1 else if i < 32 then 2 else 3
  (match b with
    | 0 => [0x0000, 0x0200, 0x0800, 0x1000]
    | 1 => [0x0000, 0x0400, 0x1000, 0x2000]
    | 2 => [0x0000, 0x0400, 0x0800, 0x0800]
    | _ => [0, 0, 0, 0]).getD col 0

/-- Sources 0, 1 and 19 are immediate (R391). -/
def immediate (n : Nat) : Bool := n == 0 || n == 1 || n == 19

/-- The sources of R393 that are not reserved. -/
def realSource (n : Nat) : Bool :=
  decide (n ≤ 22) || (decide (32 ≤ n) && decide (n ≤ 202)) || (decide (224 ≤ n) && decide (n ≤ 236))

/-- The default reaction class of a source (R393): 0 LOG, 1 INTERRUPT, 2 ESCALATE. -/
def defaultClass (n : Nat) : Nat :=
  if immediate n then 2
  else if !realSource n then 0
  else if n == 4 || n == 5 || n == 193 || n == 200 || n == 224 then 0
  else if n == 2 || n == 3 || n == 6 || n == 7 || n == 13 || n == 14 || n == 15 || n == 16 || n == 21 then 2
  else 1

/-- A word of 32 one-bit fields. -/
def bitsWord (f : Nat → Bool) : Nat := (List.range 32).foldl (fun a j => a + b2n (f j) * 2 ^ j) 0

/-- A word of 16 two-bit fields. -/
def pairsWord (f : Nat → Nat) : Nat := (List.range 16).foldl (fun a j => a + (f j % 4) * 4 ^ j) 0

/-- SLV_ID of cluster c (R48, R99). -/
def slvId (c : Nat) : Nat :=
  if isCuffC c then (c - 136) % 2 * 2 ^ 16 + (c - 136) / 4 * 2 ^ 10 + ((c - 136) / 2 % 2 + 1) * 2 ^ 8 + c
  else c % 68 / 4 * 2 ^ 11 + c / 68 * 2 ^ 10 + c

/-- Sources of the interrupt controller with a glitch filter (R437, R438). -/
def icFiltered (n : Nat) : Bool := decide (416 ≤ n) && decide (n ≤ 421)

/-- The hardware reset word of a register (R15; the identity and the drive mode of a cluster, R99, R131; the immediate sources
of R391 and R407). -/
def Reg.hw (r : Reg) (ix : List Nat) : Nat :=
  match r, ix with
  | .SLV_ID, [c] => slvId c
  | .DRV_CTRL, [c] => if isCuffC c then 2 else 0
  | .IC_SRC, [n] => b2n (icFiltered n)
  | .FLT_EN, [g] => bitsWord fun j => immediate (32 * g + j)
  | .FLT_CLASS_LO, [g] => pairsWord fun j => if immediate (32 * g + j) then 2 else 0
  | .FLT_CLASS_HI, [g] => pairsWord fun j => if immediate (32 * g + 16 + j) then 2 else 0
  | _, _ => r.row.rst

/-- A coupling in 0.01 dB: 42.1 dB with a spread of ±1.5 dB (R62, R502). -/
def coupling (x : BitVec 16) : Nat := 4060 + x.toNat % 301

/-- The word whose F fields firmware loads (R15), module data within the ranges of R502. -/
def Reg.fw (r : Reg) (ix : List Nat) : Nat :=
  match r, ix with
  | .PLK_CYCLES, _ => Config.plkCycles.toNat
  | .PORT_CAL, [p] => coupling (Config.calCplB p) * 2 ^ 16 + coupling (Config.calCplA p)
  | .PORT_MON, [p] => (Config.bypLoss p).toNat % 401 * 2 ^ 16 + coupling (Config.monCpl p)
  | .SLV_CTRL, _ => 3
  | .SLV_LOOP, [c] => 64 * 2 ^ 24 + (if isCuffC c then 64 * 2 ^ 12 + 26 else 96 * 2 ^ 12 + 32)
  | .SLV_LIM, [c] => if isCuffC c then 3277 * 2 ^ 16 + 6554 else 2048 * 2 ^ 16 + 4096
  | .SLV_LIGHT, _ => 0xDF00E200
  | .SLV_FAULT, _ => 250 * 2 ^ 24 + 16 * 2 ^ 16 + 30 * 2 ^ 8 + 32
  | .SLV_LEARN, _ => 14 * 2 ^ 8 + 4
  | .SLV_LUTCFG, _ => 0x4244
  | .SLV_CUF, [c] => if isCuffC c then 0xD800000A else 0
  | .SLV_FLT_EN, _ => 0x4F
  | .LANE_CFG, [c, j] =>
    if isCuffC c then 2 * 2 ^ 8 + 5
    else
      let e := 256 * c + j
      (Config.dph e).toNat * 2 ^ 24 + 32 * 2 ^ 16 + (19 + 2 * (c % 68 / 4) + j % 4 / 2) * 2 ^ 10
        + b2n (Config.pol e) * 2 ^ 7 + 5
  | .LUT, [_, b, i] => lutDefault b i
  | .SETPT, [c, j, k] => (Config.setpt (256 * c + j) k).toNat
  | .DRV_CTRL, _ => 1
  | .DRV_LIM, [c] => if isCuffC c then 0xFFFF0000 else 0x7FFF8000
  | .TONE_TAB, [_, i] => quarterWave i
  | .PRF_LIM_A, [c, _] => if isCuffC c then 8192 * 2 ^ 16 + 4096 else 3000 * 2 ^ 16 + 1200
  | .PRF_LIM_B, [c, _] => 4 * 2 ^ 16 + (if isCuffC c then 16384 else 6000)
  | .SET_CFG, [c] => (if isCuffC c then 0 else 0xE200 * 2 ^ 16) + 3 * 2 ^ 8 + 54
  | .EQ_CFG, [b] => (50 + (Config.egrOfs b).toNat % 251) * 2 ^ 16 + 1536
  | .YK_ANN_A, _ => 4094
  | .SGF_CTRL, _ => 2 ^ 16
  | .FLT_EN, [g] => bitsWord fun j => realSource (32 * g + j)
  | .FLT_CLASS_LO, [g] => pairsWord fun j => defaultClass (32 * g + j)
  | .FLT_CLASS_HI, [g] => pairsWord fun j => defaultClass (32 * g + 16 + j)
  | .TEC_CTRL, _ => 1
  | .TEC_GAIN, _ => Config.tecGain.toNat
  | .THM_SNS, _ => 2 ^ 31
  | .THM_OFS, [c] => low 16 ((Config.thmOfs c).toNat % 641 - 128 : Int)
  | .PWM_CTRL, [k] => if k < 2 then 3 else 2 * 16 + 1
  | .TRIM_WORN, _ => min 65535 ((List.range 34816).filter fun e => decide (4096 ≤ Config.pulses e)).length
  | .CAL_LAST, [k] => (Config.calLast k).toNat
  | _, _ => 0

/-- What a register holds that nothing has written: its hardware reset word and, once boot has passed the stage that
loads them, the firmware values in its F fields (R15). `stage` is the boot stage in progress. -/
def Reg.dflt (stage : Nat) (r : Reg) (ix : List Nat) : Word :=
  if r.row.stage < stage then
    wd ((Reg.hw r ix &&& (0xFFFFFFFF ^^^ r.row.fwm)) ||| (Reg.fw r ix &&& r.row.fwm))
  else wd (Reg.hw r ix)

end Sys2Proof.Machine
end

