-- ==== Sys2Proof/Machine/HostBlocks.lean ====
section
/-! DEFINITION. The state of the host interface, the capture unit and the fault collector. -/
namespace Sys2Proof.Machine

/-- An event waiting for its entry, with the ring its class was routed to at the moment of the event (R252, R253). -/
structure Evt where
  ring : Nat
  cls : Nat
  code : Nat
  sub : Nat
  time : Word
  pl : List Word
  deriving DecidableEq, Repr

/-- A completion ready to be written (R248). -/
structure Comp where
  /-- local number of the completion ring -/
  cring : Nat
  reqId : Word
  op : Nat
  status : Nat
  rearr : Bool
  repaired : Bool
  eqRaised : Bool
  trunc : Bool
  unobs : Bool
  txnEnd : Bool
  validT : Word
  pattern : Nat
  nMoved : Nat
  cmdCI : Nat
  r0 : Word
  r1 : Word
  /-- the moved list with its host address and capacity (R251) -/
  moved : List Nat
  movedAddr : Nat
  movedCap : Nat
  deriving DecidableEq, Repr

/-- A delivered descriptor that has not got its completion entry yet (R242). -/
structure CompSlot where
  /-- local number of the command ring -/
  ring : Nat
  /-- the number that names the request inside the model -/
  id : Nat
  /-- the number that the requests of one transaction share inside the model (R242) -/
  txn : Nat
  reqId : Word
  /-- CONNECT, RELEASE, MOVE, FENCE: in descriptor order -/
  ordered : Bool
  fence : Bool
  comp : Option Comp
  deriving DecidableEq, Repr

/-- A command descriptor as read. -/
structure Desc where
  op : Nat
  link : Bool
  req : Req
  asap : Bool
  rasap : Bool
  policy : Nat
  act : Nat
  rearr : Nat
  maxMoved : Nat
  movedAddr : Nat
  movedCap : Nat
  buf : Nat
  len : Nat
  ofs : Nat
  switch : Bool
  /-- a reserved field is not 0, or the opcode is not in the table -/
  bad : Bool
  /-- POLICY, MAX_MOVED, MOVED_ADDR or MOVED_CAP makes the first request of a transaction malformed -/
  badFirst : Bool
  deriving DecidableEq, Repr

/-- One host ring (R230, R233, R236, R256). -/
structure Ring where
  active : Bool
  busy : Bool
  enPend : Bool
  pi : Nat
  ci : Nat
  /-- completion ring: entries reserved for undelivered completions (R241) -/
  resv : Nat
  /-- entries or write-backs since the ring last signalled (R256) -/
  u : Nat
  /-- the moderation time has passed since the first unsignalled entry (R256) -/
  coalP : Bool
  /-- events lost since the last EVT_OVERFLOW (R255) -/
  lostNew : Nat
  /-- command ring: the requests read so far of a linked run that is not delivered yet, with the FENCE or management descriptor
  that ended it (R233, R240) -/
  run : List Desc
  /-- command ring: the descriptor that ends the run has been read (R240) -/
  runEnd : Bool
  /-- command ring: status of the requests of the run, when it is rejected as it is read; 0 for none (R240, R244) -/
  runRej : Nat
  /-- command ring: the number of a rejected run inside the model -/
  runTx : Nat
  /-- SPH ring: index of the next descriptor to take, and indices written back ahead of CI (R233, R257) -/
  nxt : Nat
  wb : List Nat
  deriving DecidableEq, Repr

/-- A ring at reset, or just disabled. -/
def Ring.reset : Ring := ⟨false, false, false, 0, 0, 0, 0, false, 0, [], false, 0, 0, 0, []⟩

/-- A write-back that an SPH transmit frame waits for (R257): ring, index, TX_STATUS, TX_TS, PORT. -/
structure SphDone where
  k : Nat
  idx : Nat
  status : Nat
  ts : Word
  port : Nat
  deriving DecidableEq, Repr

/-- The host interface (R225 to R259). -/
structure Hif where
  rings : SMap Ring
  evq : List Evt
  compq : List CompSlot
  /-- number of the next request inside the model -/
  nextId : Nat
  /-- command ring served last, by PRIO (R239) -/
  rr : SMap Nat
  /-- MSI-X vectors sent, oldest first -/
  msix : List Nat
  /-- slot whose completion follows the one just written, inside a transaction (R242) -/
  compNext : Option Nat
  /-- SPH transmit write-backs to be made -/
  sphDone : List SphDone
  deriving DecidableEq, Repr

/-- A capture record before its LAP is known (R261, R264). -/
structure CapRec where
  ty : Nat
  cl : Nat
  item : Nat
  time : Word
  pl : List Word
  /-- frame in which it is offered, µs of network time; a step can leave it before time 0 -/
  frame : Int
  deriving DecidableEq, Repr

/-- One capture ring (R266 to R274). -/
structure CapRing where
  active : Bool
  busy : Bool
  enPend : Bool
  pi : Nat
  ci : Nat
  oldest : Nat
  lost : Nat
  lap : Nat
  /-- records offered and not yet written: the staging FIFO of R273 -/
  fifo : List CapRec
  /-- tag of the last loss in the FIFO: the next record written is a GAP (R273) -/
  gapP : Option Word
  /-- records taken in the quota window, keyed cluster × 4 + kind; marks at key 1023 (R266) -/
  taken : SMap Nat
  /-- records suppressed in the window, same keys -/
  supp : SMap Nat
  /-- the same of records that are offered in a frame of the next window (R264) -/
  takenN : SMap Nat
  suppN : SMap Nat
  /-- the LOOP records suppressed last: cluster, lane and tag (R263) -/
  suppL : List (Nat × Nat × Word)
  /-- tag of the window start -/
  winT : Nat
  /-- host triggers since enable -/
  trig : Nat
  /-- high words latched by reads (R276) -/
  latPi : Nat
  latOld : Nat
  u : Nat
  coalP : Bool
  deriving DecidableEq, Repr

/-- A capture ring at reset. -/
def CapRing.reset : CapRing :=
  { active := false, busy := false, enPend := false, pi := 0, ci := 0, oldest := 0, lost := 0, lap := 0, fifo := [],
    gapP := none, taken := [], supp := [], takenN := [], suppN := [], suppL := [], winT := 0, trig := 0, latPi := 0, latOld := 0, u := 0, coalP := false }

/-- The fault collector beside its registers (R388 to R402). -/
structure Flt where
  safe : Bool
  entering : Bool
  exitPend : Bool
  /-- sources whose event cause or force waits for its cycle (R389, R392), with the FORCED mark -/
  evc : List (Nat × Bool)
  /-- sources whose cause lies outside the modelled blocks and holds (R393: rails, reference, AER) -/
  ext : List Nat
  /-- escalation timers running: source, ESC_MS at their start (R394) -/
  esc : List (Nat × Nat)
  deriving DecidableEq, Repr

end Sys2Proof.Machine
end

