-- ==== Sys2Proof/Machine/PowerBlocks.lean ====
section
/-! DEFINITION. The state of the thermal control, the PWM channels, the power ladder, Prale and the calibration
engine. -/
namespace Sys2Proof.Machine

/-! ### Thermal control (R408 to R418) -/

/-- One temperature sensor (R409, R410): last reading in 1/16 °C, last count, gates with that count in a row, good gates
in a row, broken. -/
structure Sns where
  val : Int
  cnt : Nat
  same : Nat
  good : Nat
  broken : Bool
  deriving DecidableEq, Repr

/-- A sensor at reset. -/
def Sns.reset : Sns := ⟨0, 0, 0, 0, false⟩

/-- The thermal block (R408 to R418), in the always-on domain. -/
structure Thm where
  sns : SMap Sns
  /-- warning, throttle, shutdown asserted (R412) -/
  warn : Bool
  thr : Bool
  shut : Bool
  /-- phase START in force; SHUT_LATCH; a hardware restart is due (R414, R415) -/
  start : Bool
  latch : Bool
  restartP : Bool
  /-- measurements in a row with every usable reading below WARN_C − 5 K (R415) -/
  cool : Nat
  /-- hottest usable reading since the last read of PEAK, now, and its sensor -/
  peak : Option Int
  now : Int
  hot : Nat
  /-- the estimate of R416 -/
  pdValid : Bool
  mean : Int
  grad : Int
  /-- the loop of R417: accumulator and output -/
  acc : Int
  u : Int
  /-- the mean has lain in the band since EN was set; measurements outside in a row; outside for TEC_TIME (R418) -/
  seen : Bool
  out : Nat
  tecTo : Bool
  deriving DecidableEq, Repr

/-- The thermal block at power-on reset. -/
def Thm.reset : Thm :=
  { sns := [], warn := false, thr := false, shut := false, start := true, latch := false, restartP := false, cool := 0
    peak := none, now := 0, hot := 0, pdValid := false, mean := 0, grad := 0, acc := 0, u := 0, seen := false, out := 0
    tecTo := false }

/-- The highest level asserted (R412). -/
def Thm.level (t : Thm) : Nat := if t.shut then 3 else if t.thr then 2 else if t.warn then 1 else 0

/-- One PWM channel (R419 to R424): values in use, pin, high count of the period, fault input. -/
structure Pwm where
  per : Nat
  duty : Nat
  presc : Nat
  k : Nat
  h : Nat
  pin : Bool
  flt : Bool
  updP : Bool
  deriving DecidableEq, Repr

/-- A channel at reset. -/
def Pwm.reset : Pwm := ⟨3750, 0, 0, 0, 0, false, false, false⟩

/-! ### Power ladder (R425 to R429) -/

/-- The power ladder: STATE, the state of a running change, an entry that waits, PCIe off as the last POWER_ENTRY saw it, a
TARGET written while a change runs, the network time at which the running exit began, and the set-points that firmware has
written to module flash for P4 (R427). -/
structure Pwr where
  st : Nat
  chg : Option Nat
  pend : Bool
  off : Bool
  late : Bool
  t0 : Nat
  kept : List (Nat × Word)
  deriving DecidableEq, Repr

/-- P0. -/
def Pwr.reset : Pwr := ⟨0, none, false, false, false, 0, []⟩

/-! ### Prale (R433 to R456) -/

/-- An image slot of the boot record (R454): its state code, tries, and the VERSION, SVN of its image. -/
structure Slot where
  st : Nat
  tries : Nat
  ver : Word
  svn : Nat
  deriving DecidableEq, Repr

/-- A write to module flash: `n` bytes from `a` that read as `d`, and as 0xFF behind its end (an erased sector has no
data). -/
structure FlashWr where
  a : Nat
  n : Nat
  d : List Byte
  deriving DecidableEq, Repr

/-- An entry of the log before it has its SEQ and CRC (R449). -/
structure LogEnt where
  kind : Nat
  level : Nat
  code : Nat
  time : Nat
  pl : List Word
  deriving DecidableEq, Repr

/-- The interrupt controller (R437 to R442): pending sources, levels from the running one downwards as source and group,
edges latched during sleep, and what the retention registers hold: source, register, pending. -/
structure Ic where
  pend : List Nat
  act : List (Nat × Nat)
  latched : List Nat
  kept : List (Nat × Word × Bool)
  deriving DecidableEq, Repr

/-- The SMBus window (R446): its registers, and the PEC that ends the last Read 32 (R445). -/
structure Oob where
  addr : Nat
  data : Word
  pec : Nat
  inc : Bool
  alertEn : Bool
  err : Bool
  code : Nat
  deriving DecidableEq, Repr

/-- Prale as the rest of the module sees it (R433 to R457). -/
structure Prl where
  /-- microseconds since firmware last refreshed its heartbeat, none before the first time; refreshes (R351, R434) -/
  hbAge : Option Nat
  /-- microseconds for which the image has run without a first refresh (R434) -/
  bootAge : Nat
  /-- HB_CNT; HB_LATE; the cores are halted by a difference (R433); the main domain is awake; REMAP -/
  hbCnt : Nat
  hbLate : Bool
  lsHalt : Bool
  awake : Bool
  remap : Bool
  /-- boot record (R454, R455): slots A and B, boot slot, running slot, SVN floor -/
  slotA : Slot
  slotB : Slot
  bootB : Bool
  runB : Bool
  svnFloor : Nat
  /-- VERSION of the running image (PRL_FWVER) -/
  fwVer : Word
  /-- ROLLBACK of the last boot; its event waits for READY -/
  rollback : Nat
  rbEvt : Option (Nat × Bool)
  /-- microseconds of READY with ALIVE in a row (R455) -/
  aliveRun : Nat
  /-- log (R449, R450): byte offset of the next entry, SEQ of the last, entries waiting, entries lost -/
  logOfs : Nat
  logSeq : Nat
  logBuf : List LogEnt
  logLost : Nat
  /-- module flash, newest write first; what nothing has written is the module's own -/
  flash : List FlashWr
  /-- staging (R453): owner 0 none, 1 host, 2 OOB; extent; microseconds since its last write -/
  owner : Nat
  extent : Nat
  stageAge : Nat
  ic : Ic
  oob : Oob
  deriving DecidableEq, Repr

/-! ### Calibration (R466 to R478) -/

/-- Constants of one conversion channel (R103): offset in codes, gain in 1/65,536 (log entry 9). -/
structure CalConst where
  off : Int
  gain : Nat
  deriving DecidableEq, Repr

/-- What a run has found before it started, for a revert: constants, and SETPT registers by element and slot (R476,
R477). -/
structure CalUndo where
  consts : SMap CalConst
  setpt : List (Nat × Word)
  deriving DecidableEq, Repr

/-- The calibration engine (R466 to R478). -/
structure Cal where
  /-- constants that calibrations have written, by conversion key: in force, and as stored in module flash -/
  consts : SMap CalConst
  stored : SMap CalConst
  /-- set-points that runs have stored in module flash, keyed 512 × cluster + 2 × lane + slot (R478) -/
  storedSp : SMap Word
  /-- conversion paths under calibration, keyed 8 × cluster + ADC (R93); steps that a strobe abandoned (R476) -/
  busyAdc : List Nat
  again : List Nat
  /-- REF_SEL by the same key and RMODE by cluster as a step found them (R473, R474); ingress lanes held at 0 mA -/
  refs : SMap Nat
  rmodes : SMap Nat
  zero : List Nat
  /-- CAL_OPT: what its window has found, none while it runs: the sum of the corrections and their number (R474) -/
  mean : Option (Int × Nat)
  /-- lanes still lit by the probe routes of a run that was reverted: what they have learned is dropped (R476) -/
  back : List Nat
  /-- CAL_STATUS: BUSY, OP, RESULT, CAUSE, DONE_C -/
  busy : Bool
  op : Nat
  result : Nat
  cause : Nat
  doneC : Nat
  /-- first and last cluster of the run -/
  c0 : Nat
  c1 : Nat
  undo : CalUndo
  /-- the last completed run of kind ELEC, OPT or PROBE -/
  last : Option CalUndo
  /-- largest change of a gain constant so far and its cluster (R478) -/
  delta : Nat
  deltaC : Nat
  /-- ADC in step, 8 when every step is done; the window of OPT comes before its steps (R472, R474) -/
  step : Nat
  /-- probe stage: 0 none, 1 BAR layer, 2 CROSS layer, 3 release; trimming: 4 BAR layer, 5 release, 6 pulses, 7 done -/
  stage : Nat
  /-- the pattern of the stage has fired, and its strobe in network time; the routes of the stage -/
  fired : Bool
  fireAt : Nat
  routes : List (Nat × Nat × Nat)
  /-- routes of the pattern that is staged -/
  next : List (Nat × Nat × Nat)
  /-- lanes on probe routes; those whose lit tap has reached −45.00 dBm; elements found lit in PASS0 and in PASS1 -/
  lanes : List Nat
  seen : List Nat
  /-- lanes whose gain bank 1 a probe route selected (R185); settle failures of probe lanes without light so far (R467) -/
  bankL : List Nat
  held : List Report
  lit0 : List Nat
  lit1 : List Nat
  /-- TRIM: trains given, by element; the lane whose turn it is, by cluster; pulses still to be given by element with their sense
  (true ADVANCE); elements pulsed; the rest-state set-points learned first; those of the elements that have stopped -/
  train : SMap Nat
  turn : SMap Nat
  todo : List (Nat × Nat × Bool)
  pulsed : List Nat
  rest : SMap Int
  fin : SMap Int
  /-- pulses given to each cell beyond those of the module data -/
  pulses : SMap Nat
  deriving DecidableEq, Repr

/-- The calibration engine at reset. -/
def Cal.reset : Cal :=
  { consts := [], stored := [], storedSp := [], busyAdc := [], again := [], refs := [], rmodes := [], zero := [], mean := none, back := [], busy := false
    op := 0, result := 0, cause := 0, doneC := 0, c0 := 0, c1 := 0, undo := ⟨[], []⟩, last := none, delta := 0, deltaC := 0
    step := 0, stage := 0, fired := false, fireAt := 0, routes := [], next := [], lanes := [], seen := [], bankL := [], held := [], lit0 := [], lit1 := []
    train := [], turn := [], todo := [], pulsed := [], rest := [], fin := [], pulses := [] }

end Sys2Proof.Machine
end

