-- ==== Sys2Proof/Machine/SwitchBlocks.lean ====
section
/-! DEFINITION. The state of the signalling fabric, its shapers, policers and queue samples (R277 to R331). -/
namespace Sys2Proof.Machine

/-- States of an SP port (R281). -/
inductive SpSt where
  | disabled | negotiate | up | hold | down | stopping
  deriving DecidableEq, Repr

/-- The code of R281. -/
def SpSt.code : SpSt → Nat
  | .disabled => 0 | .negotiate => 1 | .up => 2 | .hold => 3 | .down => 4 | .stopping => 5

/-- An SP port (R279 to R281, R305). -/
structure SpPort where
  st : SpSt
  rate : Nat
  fec : Nat
  enPend : Bool
  capped : Bool
  /-- SP_CFG as it stood when the negotiation or training in progress began (R310) -/
  neg : Word
  /-- network time at which HOLD was entered -/
  holdAt : Nat
  /-- frame being transmitted -/
  tx : Option Nat
  deriving DecidableEq, Repr

/-- A port at reset. -/
def SpPort.reset : SpPort := ⟨.disabled, 0, 0, false, false, 0, 0, none⟩

/-- A frame in the packet buffer (R293, R294). -/
structure Frm where
  id : Nat
  inp : Nat
  cls : Nat
  bytes : List Byte
  /-- its last cell has arrived -/
  whole : Bool
  /-- a copy that is cut through ends with a complemented FCS (R304) -/
  bad : Bool
  own : Bool
  mcast : Bool
  /-- SPH transmit ring and descriptor index of a frame from SPH (R257) -/
  host : Option (Nat × Nat)
  /-- network time of the arrival of its first cell, ns; tag of its first byte -/
  arr : Int
  ts : Word
  /-- the policer that decided it, and whether Tc and Tp were charged (R321) -/
  pol : Option (Nat × Bool × Bool)
  /-- of the copies that left, the one whose first byte left first: network time of that byte, and port (R257) -/
  sent : Option (Nat × Nat)
  flushed : Bool
  deriving DecidableEq, Repr

/-- One copy of a frame (R286, R295, R298). -/
structure Cpy where
  fid : Nat
  inp : Nat
  out : Nat
  cls : Nat
  /-- cells assigned by a matcher, cells in staging -/
  asg : Nat
  moved : Nat
  ct : Bool
  /-- good cells before a cell CRC mismatch of a cut-through copy -/
  cut : Option Nat
  /-- stamp of its completion in staging -/
  stag : Option Nat
  /-- network time at which its transmission began -/
  txAt : Option Nat
  deriving DecidableEq, Repr

/-- The frame arriving at a port: its bytes so far, its frame in the buffer, and what becomes of its last cell. -/
structure Rx where
  bytes : List Byte
  fid : Option Nat
  trap : Bool
  /-- counted in RX_LEN or RX_CTRL already: its last cell counts nowhere -/
  dropped : Bool
  deriving DecidableEq, Repr

/-- An entry of the forwarding table (R288): address octets 0 to 5 little-endian, VID, result bits [30:0]. -/
structure Fwd where
  da : Nat
  vid : Nat
  res : Nat
  deriving DecidableEq, Repr

/-- What a forwarding command shows when it completes (R289): RESULT, INDEX, result word, key words. -/
structure FwdDone where
  result : Nat
  index : Option Nat
  res : Option Word
  key : Option (Word × Word)
  deriving DecidableEq, Repr

/-- A pair matched by a crossbar matcher (R297): the copy and its output. -/
structure XPair where
  fid : Nat
  inp : Nat
  out : Nat
  deriving DecidableEq, Repr

/-- Active set and buckets of a shaper or policer (R313 to R322), buckets in millibits. -/
structure Tok where
  en : Bool
  cir : Nat
  pir : Nat
  cbs : Nat
  pbs : Nat
  tc : Int
  tp : Int
  /-- policers: the active RED_CLASS, YEL_CLASS, RED_ACT, YEL_ACT, MODE as POL_CFG holds them -/
  cfg : Word
  deriving DecidableEq, Repr

/-- Nothing committed yet (R329, R330). -/
def Tok.reset : Tok := ⟨false, 0, 0, 16384, 16384, 0, 0, 0x40⟩

/-- Samples of a queue (R326). -/
structure Obs where
  dnow : Nat
  dmax : Nat
  davg : Nat
  tmax : Nat
  tavg : Nat
  deriving DecidableEq, Repr

/-- Nothing sampled. -/
def Obs.reset : Obs := ⟨0, 0, 0, 0, 0⟩

/-- The signalling fabric (R277 to R331). -/
structure Sgf where
  ports : SMap SpPort
  frames : List Frm
  /-- copies, oldest first: the queues of R295 -/
  copies : List Cpy
  nextId : Nat
  stamp : Nat
  rx : SMap Rx
  /-- forwarding table by bucket × 4 + way -/
  fwd : SMap Fwd
  cmd : Option FwdDone
  /-- matchings made and not used yet, oldest first; round-robin pointers (R296, R297) -/
  xq : List (List XPair)
  gptr : SMap Nat
  aptr : SMap Nat
  /-- frames that left: output and bytes, oldest first -/
  wire : List (Nat × List Byte)
  /-- frames delivered to Prale: ingress port and bytes (R287) -/
  trapped : List (Nat × List Byte)
  shp : SMap Tok
  pol : SMap Tok
  /-- commits that wait for the next whole microsecond (R315) -/
  shpApply : List Nat
  polApply : List Nat
  /-- policers committed last, as they would stand without that commit, and its network time (R324) -/
  polOld : SMap Tok
  polOldT : Nat
  /-- queue observers, by queue number; OBS_SEQ (R326) -/
  obs : SMap Obs
  obsSeq : Word
  deriving DecidableEq, Repr

/-- Network time steps by d (R201): arrivals, transmissions and hold-offs keep their ages. -/
def Sgf.shift (k : Sgf) (d : Int) : Sgf :=
  { k with
    polOld := []
    frames := k.frames.map fun f => { f with arr := f.arr + d }
    copies := k.copies.map fun c => { c with txAt := c.txAt.map fun x => ((x : Int) + d).toNat }
    ports := k.ports.map fun p : Nat × SpPort => (p.1, { p.2 with holdAt := ((p.2.holdAt : Int) + d).toNat }) }

/-- The fabric at reset. -/
def Sgf.reset : Sgf :=
  { ports := [], frames := [], copies := [], nextId := 0, stamp := 0, rx := [], fwd := [], cmd := none, xq := []
    gptr := [], aptr := [], wire := [], trapped := [], shp := [], pol := [], shpApply := [], polApply := [], polOld := []
    polOldT := 0, obs := []
    obsSeq := 0 }

end Sys2Proof.Machine
end

