-- ==== Sys2Proof/Machine/State.lean ====
section
/-! DEFINITION. The state of the T512 as plain data, the reasons a step can stop, and the state after reset. -/
namespace Sys2Proof.Machine

/-- The state. Registers that hold a value of their own are in `regs`, keyed by offset; a register that only shows
other state is computed from it by the read function of Machine/View.lean. -/
structure State where
  /-- commands that wait, first in first out -/
  pending : List Instr
  sys : Sys
  regs : SMap Word
  plk : Plk
  /-- lanes by element index E (R47) -/
  lanes : SMap Lane
  clusters : SMap Cluster
  /-- patterns in flight (R146) -/
  col : List ColEnt
  clr : Clr
  yk : Yk
  pth : Pth
  pair : Pair
  fab : Fab
  sgf : Sgf
  hif : Hif
  /-- capture rings by local number -/
  cap : SMap CapRing
  flt : Flt
  pwr : Pwr
  thm : Thm
  /-- PWM channels by number -/
  pwm : SMap Pwm
  cal : Cal
  prl : Prl
  /-- the model's own: counter of free values (log entry 2) -/
  freeN : Nat
  /-- the model's own: the data the last read returned (log entry 7) -/
  rdata : Word
  /-- the model's own: host memory as the block's DMA sees it (log entry 8) -/
  hostMem : List Host.Cell
  deriving DecidableEq, Repr

/-- Prale at the first power-on: the boot record, the SVN floor and the log are the module's own (log entry 5). -/
def Prl.reset : Prl :=
  { hbAge := none, bootAge := 0, hbCnt := 0, hbLate := false, lsHalt := false, awake := false, remap := false
    slotA := ⟨Config.slotSt 0 % 5, Config.slotTries 0 % 16, Config.slotVer 0, Config.slotSvn 0 % 256⟩
    slotB := ⟨Config.slotSt 1 % 5, Config.slotTries 1 % 16, Config.slotVer 1, Config.slotSvn 1 % 256⟩
    bootB := Config.bootSlotB, runB := false, svnFloor := Config.svnFloor % 256, fwVer := 0, rollback := 0, rbEvt := none, aliveRun := 0
    logOfs := Config.logOfs % 524288 * 32, logSeq := Config.logSeq % 2 ^ 32, logBuf := [], logLost := 0, flash := []
    owner := 0, extent := 0, stageAge := 0, ic := ⟨[], [], [], []⟩, oob := ⟨0, 0, 0, true, false, false, 0⟩ }

/-- Faults of a step. No rule of the T512 ends a command in one (a block has no exception entry, R388): the type has
one constructor so that it is inhabited. -/
inductive Fault where
  /-- Raised by no command. Safe: nothing stops on it. -/
  | none
  deriving DecidableEq, Repr

/-- Refusals of a step. -/
inductive Refusal where
  /-- Raised by an arm of `exec` whose command has no meaning yet. Safe: the run stops. -/
  | notModelled (mnemonic : String)
  deriving DecidableEq, Repr

/-- The machine while power-on reset holds (R15, R54, R60, R131, R190, R460). -/
def State.reset : State :=
  { pending := []
    sys := { por := true, mainRst := false, thmRst := false, stage := 0, stopped := false, pcie := false, mode := 0,
             pref := false, devid := 0, bootSrc := false, hvOk := true, linkRate := 32, linkWidth := 8,
             readySince := false }
    regs := []
    plk := ⟨.released, false, false, 0⟩
    lanes := []
    clusters := []
    col := []
    clr := { now := 0, st := .unset, phi := 0, fint := 0, adj := 0, lockRun := 0, unlockRun := 0, ppsOk := false,
             lastEdge := none, edgeIn := false, missed := 0, badRun := 0, badRef := 0, badLo := 0, badHi := 0,
             refRun := 0, refOk := false, todOk := false, todLast := none, todSet := none, todEdge := 0, setAt := none,
             todSeen := false, stepP := false, holdAt := 0 }
    yk := { mode := 0, bank := false, entry := 0, start := 0, calAt := 0, turnAt := 0, turnEnt := 0, calPend := false,
            swPend := false, swAt := 0, stopAt := 0, cycles := 0, slot := 100, store := [], lastPat := 0, stamp := 0,
            annSeq := 0, annOut := [] }
    pth := { conn := [], live := [], plan := [], delivered := [], cur := none, placed := [], nextId := 0, reports := [], reps := [],
             repNum := 0, cont := [], contDue := [], tags := [], tagId := 0, bank1 := [], layerPat := [], tagWord := [] }
    pair := Pair.reset
    fab := Fab.reset
    sgf := Sgf.reset
    hif := ⟨[], [], [], 0, [], [], none, []⟩
    cap := []
    flt := ⟨false, false, false, [], [], []⟩
    pwr := Pwr.reset
    thm := Thm.reset
    pwm := []
    cal := Cal.reset
    prl := Prl.reset
    freeN := 0
    rdata := 0
    hostMem := [] }

end Sys2Proof.Machine
end

