-- ==== Sys2Proof/Machine/Ops.lean ====
section
/-! DEFINITION. The named operations over State: registers and fields, network time, lanes and clusters, free values,
events, capture offers, fault causes and the bytes of host memory. -/
namespace Sys2Proof.Machine

/-! ### Registers -/

/-- The word a register holds: what was last stored there, or its reset or firmware value (R12, R15). -/
def State.reg (s : State) (r : Reg) (ix : List Nat) : Word := sget (r.dflt s.sys.stage ix) s.regs (r.at ix)

/-- Stores a word in a register. -/
def State.setReg (s : State) (r : Reg) (ix : List Nat) (v : Word) : State :=
  { s with regs := sset s.regs (r.at ix) v }

/-- A field of a register as a number. -/
def State.f (s : State) (x : Fld) (ix : List Nat) : Nat := fget x.lo x.len (s.reg x.reg ix)

/-- A one-bit field. -/
def State.fb (s : State) (x : Fld) (ix : List Nat) : Bool := decide (s.f x ix ≠ 0)

/-- Stores a field, the rest of its register kept. -/
def State.setF (s : State) (x : Fld) (ix : List Nat) (v : Nat) : State :=
  s.setReg x.reg ix (fput x.lo x.len v (s.reg x.reg ix))

/-- The sources that wake lines 0 to 7 carry, in that order (R443). -/
def wakeSrc : List Nat := [432, 417, 416, 433, 421, 400, 438, 439]

/-- Source n is on a wake line that IC_WAKE enables (R443). -/
def State.icWakes (s : State) (n : Nat) : Bool :=
  (List.range 8).any fun i => decide (wakeSrc.getD i 0 = n) && bit i (s.reg .IC_WAKE [])

/-- The interrupt controller of the domain that wakes: a retained source is pending as saved or as latched, nothing else is
(R444). -/
def Ic.awoken (k : Ic) : Ic := ⟨(k.kept.filter fun p => p.2.2 || k.latched.contains p.1).map fun p => p.1, [], [], []⟩

/-- An edge of interrupt source n of Prale (R437, R438): it becomes pending, or sets OVR while it is pending. While the main
domain sleeps, edges of the retained sources are latched and the others lost (R444), and an edge on an enabled wake line wakes
the domain (R443). -/
def State.icEdge (s : State) (n : Nat) : State :=
  let k := s.prl.ic
  if s.prl.awake then
    if k.pend.contains n then s.setF IC_SRC.OVR [n] 1 else { s with prl := { s.prl with ic := { k with pend := k.pend ++ [n] } } }
  else
    let k1 := if (n = 416 ∨ n = 417 ∨ n = 432) ∧ k.latched.contains n = false then { k with latched := k.latched ++ [n] } else k
    if s.icWakes n ∧ 2 < s.sys.stage then { s with prl := { s.prl with awake := true, ic := k1.awoken } }
    else { s with prl := { s.prl with ic := k1 } }

/-- The interrupt source of a block's event register (R437). -/
def icOf : Reg → Option Nat
  | .PWR_EVT => some 433
  | .CLR_EVT => some 434
  | .YK_EVT => some 435
  | .PTH_EVT => some 436
  | _ => none

/-- Sets an event bit (W1C fields are set by the block, R12); some event registers are interrupt sources (R437). -/
def State.raise (s : State) (x : Fld) (ix : List Nat) : State :=
  let s1 := s.setF x ix 1
  match icOf x.reg with
  | some n => s1.icEdge n
  | none => s1

/-- Adds to a saturating 32-bit counter register. -/
def State.bump (s : State) (r : Reg) (ix : List Nat) (n : Nat) : State := s.setReg r ix (satInc (s.reg r ix) n)

/-- A write to the RW and W1C bits of a register by the access codes of R12; every other bit is kept (R14). -/
def State.wrCodes (s : State) (r : Reg) (ix : List Nat) (v : Word) : State :=
  let o := s.reg r ix
  let rw := wd r.row.rw
  let wc := wd r.row.w1c
  s.setReg r ix (((o &&& ~~~ rw) ||| (v &&& rw)) &&& ~~~ (v &&& wc))

/-! ### Boot stage and time -/

/-- READY (R231, R461). -/
def State.ready (s : State) : Bool := decide (s.sys.stage = 15)

/-- Stage 12 has begun (R461): in PAIR the mirror link trains, in FABRIC discovery runs. -/
def State.modeOn (s : State) : Bool := decide (12 ≤ s.sys.stage)

/-- The nanosecond tag of the network time (R192). -/
def State.tag (s : State) : Word := wd s.clr.now

/-- Network time runs on to the instant `t` of the command; it never runs back by this. -/
def State.passTo (s : State) (t : Nat) : State :=
  if 7 < s.sys.stage then { s with clr := { s.clr with now := max s.clr.now t } } else s

/-! ### Lanes and clusters -/

/-- The lane of element E. -/
def State.lane (s : State) (e : Nat) : Lane := sget Lane.reset s.lanes e

/-- Stores a lane. -/
def State.setLane (s : State) (e : Nat) (l : Lane) : State := { s with lanes := sset s.lanes e l }

/-- Cluster c. -/
def State.cl (s : State) (c : Nat) : Cluster := sget Cluster.reset s.clusters c

/-- Stores a cluster. -/
def State.setCl (s : State) (c : Nat) (k : Cluster) : State := { s with clusters := sset s.clusters c k }

/-- Runs a step for each lane of a cluster, in lane order. -/
def forLanes (c : Nat) (f : State → Nat → State) (s : State) : State :=
  (List.range 256).foldl (fun s j => f s (256 * c + j)) s

/-! ### Free values -/

/-- Takes the number of the next free value (log entry 2). -/
def State.takeFree (s : State) : Nat × State := (s.freeN, { s with freeN := s.freeN + 1 })

/-! ### Events (R252, R253) -/

/-- Appends an entry to the log (R449, R450): it waits in the buffer of 256 entries, or is counted lost. Nothing is appended
while the main cores are halted (R433). -/
def State.logPut (s : State) (kind level code : Nat) (pl : List Word) : State :=
  let p := s.prl
  if p.lsHalt then s
  else if p.logBuf.length < 256 then
    { s with prl := { p with logBuf := p.logBuf ++ [⟨kind, level, code, s.clr.now, pl⟩] } }
  else { s with prl := { p with logLost := p.logLost + 1 } }

/-- The log entry of an event (R449): KIND, LEVEL and CODE by its code. -/
def State.logEvent (s : State) (code sub : Nat) (pl : List Word) : State :=
  match code with
  | 0x10 => s.logPut 1 (fget 0 2 (pl.headD 0)) sub pl
  | 0x11 => s.logPut 2 (sub % 256) 0 pl
  | 0x12 => s.logPut 2 (sub % 256) 0 pl
  | 0x20 => s.logPut 6 (sub % 256) 0 pl
  | 0x21 => s.logPut 5 (sub % 256) 0 pl
  | 0x40 => s.logPut 7 (sub % 256) 0 pl
  | 0x41 => s.logPut 7 (sub % 256) 0 pl
  | 0x60 => s.logPut 4 (sub % 256) sub pl
  | _ => s

/-- Posts an event: its class must be enabled at this moment, and its ring is the one the class is routed to at this
moment (R252). -/
def State.postRaw (s : State) (cls code sub : Nat) (pl : List Word) : State :=
  if bit cls (s.reg .HIF_EVT_EN []) then
    { s with hif := { s.hif with evq := s.hif.evq ++
      [⟨fget (4 * cls) 4 (s.reg .HIF_EVT_ROUTE []), cls, code, sub, s.tag, pl⟩] } }
  else s

/-- Posts an event with its log entry: events of classes 1, 2, 4 and 6 are logged whatever is enabled (R449). -/
def State.post (s : State) (cls code sub : Nat) (pl : List Word) : State := (s.logEvent code sub pl).postRaw cls code sub pl

/-- Posts RING_ERROR for ring g: P0 carries RING_STATUS[10:8] (R254). -/
def State.ringError (s : State) (g : Nat) : State :=
  let st := if 144 ≤ g ∧ g < 148 then s.reg .CAP_STATUS [g - 144] else s.reg .RING_STATUS [g]
  s.post 5 0x50 g [wd (fget 8 3 st)]

/-- Sends the MSI-X message of a vector; a masked vector sets its pending bit (R256). -/
def State.msi (s : State) (vec : Nat) : State :=
  if s.fb MSIX_CTL.MASK [vec] then s.setReg .MSIX_PBA [vec / 32] (s.reg .MSIX_PBA [vec / 32] ||| wd (2 ^ (vec % 32)))
  else { s with hif := { s.hif with msix := s.hif.msix ++ [vec] } }

/-- Sets a bit of HIF_ERR; the first one of a ring is captured, and the change from 0 to 1 sends ERR_VEC (R231). -/
def State.hifErr (s : State) (x : Fld) (ring : Option Nat) : State :=
  let s1 := match ring with
    | some g => if s.reg .HIF_ERR [] = 0 then (s.setReg .HIF_ERR_RING [] (wd (2 ^ 31 + g))) else s
    | none => s
  let s2 := if s.fb x [] then s1 else s1.msi (s1.f HIF_CTRL.ERR_VEC [])
  s2.raise x []

/-! ### Capture offers (R262 to R266, R273) -/

/-- The capture ring with local number k. -/
def State.capR (s : State) (k : Nat) : CapRing := sget CapRing.reset s.cap k

/-- Stores a capture ring. -/
def State.setCap (s : State) (k : Nat) (r : CapRing) : State := { s with cap := sset s.cap k r }

/-- The kind of a record for the quotas: 0 XING, 1 LOOP, 2 MEAS, 3 mark, 4 none of these (R266). -/
def capKind (ty : Nat) : Nat :=
  if ty = 1 then 0 else if ty = 2 then 1 else if ty = 3 then 2 else if 0x10 ≤ ty ∧ ty ≤ 0x12 then 3 else 4

/-- Whether ring k selects the source of a record (R276, CAP_SRC). -/
def State.capSelects (s : State) (k : Nat) (r : CapRec) : Bool :=
  let w := s.reg .CAP_SRC [k]
  match capKind r.ty with
  | 3 => bit (r.ty - 0x10 + 4) w
  | 4 => true
  | q => bit q w && decide (fget 16 8 w ≤ r.cl) && decide (r.cl ≤ fget 24 8 w)

/-- The quota of a kind on ring k (R266). -/
def State.capQuota (s : State) (k q : Nat) : Nat := fget (8 * q) 8 (s.reg .CAP_QUOTA [k])

/-- Puts a record into the staging FIFO of a ring, or counts it lost at tag t when the FIFO is full (R273). -/
def CapRing.stage (c : CapRing) (r : CapRec) (t : Word) : CapRing :=
  if c.fifo.length < 512 then { c with fifo := c.fifo ++ [r] }
  else { c with lost := c.lost + 1, gapP := some t }

/-- Network time steps from `o` to `n` (R264, R265): the staged records keep their order and belong to frames before that of the
step, so that its TIME record comes after them. -/
def CapRing.rebase (c : CapRing) (o n : Nat) : CapRing :=
  let last := c.fifo.foldl (fun a r => max a r.frame) ((o / 1000 : Nat) : Int)
  { c with fifo := c.fifo.map fun r => { r with frame := r.frame + (n / 1000 : Nat) - (last + 1) } }

/-- The frame after every staged record of the lane and type of r, no earlier than its own (R264). -/
def CapRing.frameFor (c : CapRing) (r : CapRec) : Int :=
  c.fifo.foldl (fun f x => if x.ty == r.ty && x.cl == r.cl && x.item == r.item && decide (f ≤ x.frame) then x.frame + 1 else f)
    r.frame

/-- The payload of the one LOOP record of an update, of two with payloads o and n: the old state of the first, the flags of both,
all else of the second (R263). -/
def loopJoin (o n : List Word) : List Word :=
  wd (fput 4 3 (fget 4 3 (o.headD 0)) (n.headD 0 ||| (o.headD 0 &&& 0xFF0000))).toNat :: n.drop 1

/-- A LOOP record joins the one of the same lane and update that ring k has staged or suppressed (R263); none where there is
none. -/
def CapRing.join (c : CapRing) (r : CapRec) : Option CapRing :=
  let same := fun (x : CapRec) => x.ty == r.ty && x.cl == r.cl && x.item == r.item && x.time == r.time
  if r.ty ≠ 2 then none
  else if c.fifo.any same then some { c with fifo := c.fifo.map fun x => if same x then { x with pl := loopJoin x.pl r.pl } else x }
  else if c.suppL.contains (r.cl, r.item, r.time) then some c
  else none

/-- Offers a record to ring k: selection, then the quota of its source in the window of its frame, then the FIFO (R266, R273, R274).
A record of the lane and type already offered in the frame is offered in the next one (R264). -/
def State.offerTo (s : State) (r : CapRec) (k : Nat) : State :=
  let c := s.capR k
  if !c.active || !s.capSelects k r then s
  else match c.join r with
  | some c' => s.setCap k c'
  | none =>
    let q := capKind r.ty
    let r := if q < 3 then { r with frame := c.frameFor r } else r
    if q = 4 then s.setCap k (c.stage r s.tag)
    else
      let key := if q = 3 then 1023 else r.cl * 4 + q
      let next := decide ((s.clr.now / 1000000 : Nat) < r.frame / 1000)
      let n := if next then sget 0 c.takenN key else sget 0 c.taken key
      if n < s.capQuota k q then
        s.setCap k ((if next then { c with takenN := sset c.takenN key (n + 1) } else { c with taken := sset c.taken key (n + 1) }).stage
          r s.tag)
      else
        let l := if r.ty = 2 then (c.suppL.filter fun x => x.2.2 == r.time) ++ [(r.cl, r.item, r.time)] else c.suppL
        let c1 := { c with suppL := l }
        (s.setCap k (if next then { c1 with suppN := sset c.suppN key (sget 0 c.suppN key + 1) }
          else { c1 with supp := sset c.supp key (sget 0 c.supp key + 1) })).bump .CAP_SUPP [k] 1

/-- Offers a record to every ring (R262). -/
def State.offer (s : State) (ty cl item : Nat) (time : Word) (pl : List Word) : State :=
  let r : CapRec := ⟨ty, cl, item, time, pl, s.clr.now / 1000⟩
  (List.range 4).foldl (fun s k => s.offerTo r k) s

/-! ### Fault causes (R389) -/

/-- An event cause of a fault source: it waits for the collector's cycle. -/
def State.cause (s : State) (n : Nat) : State := { s with flt := { s.flt with evc := s.flt.evc ++ [(n, false)] } }

/-! ### Host memory (R232) -/

/-- Writes bytes to host memory. -/
def State.hput (s : State) (a : Nat) (l : List Byte) : State := { s with hostMem := Memory.putL s.hostMem a l }

/-- Reads bytes of host memory. -/
def State.hget (s : State) (a n : Nat) : List Byte := Memory.getL s.hostMem a n

/-- A little-endian number of host memory. -/
def State.hnum (s : State) (a n : Nat) : Nat := leValue (s.hget a n)

/-! ### Modes -/

/-- MODE of R28 as sampled: 0 STANDALONE, 1 PAIR, 2 FABRIC, 3 reserved. -/
def State.inPair (s : State) : Bool := decide (s.sys.mode = 1)
def State.inFabric (s : State) : Bool := decide (s.sys.mode = 2)
def State.strapFault (s : State) : Bool := decide (s.sys.mode = 3)

/-! ### Which registers answer (R362, R387, R460, R464) -/

/-- A reset of R460 is in force. -/
def State.inReset (s : State) : Bool := s.sys.por || s.sys.mainRst || s.sys.thmRst

/-- Registers that belong to a mode the module is not in: they read 0, and writes to them are ignored (R362, R387). -/
def State.modeOff (s : State) (r : Reg) : Bool :=
  match r with
  | .PAIR_STATUS => false
  | .PAIR_WD => false
  | .HEALTH_WORD => false
  | .HEALTH_MASK => false
  | _ =>
    let a := r.row.base
    (decide (0xB0000 ≤ a) && decide (a < 0xB0100) && !s.inPair) || (decide (0xB8000 ≤ a) && decide (a < 0xC0000) && !s.inFabric)

/-- The registers that are read and written as their chapters give before READY (R464): the HIF globals, the Prale host
window, the MSI-X table and the registers of Prale's own space. -/
def earlyAt (a : Nat) : Bool := decide (a < 0x2000) || (decide (0xC000 ≤ a) && decide (a < 0xE000)) || decide (0x40000000 ≤ a)

/-- The set-point store is unpowered: P4 is in force and no exit has reloaded it (R425, R428). -/
def State.storeOff (s : State) : Bool := decide (s.pwr.st = 4) && s.pwr.chg.isNone

/-- A register at this place takes no access of the kind that acts: a reset is in force, the register belongs to a mode the
module is not in (R362, R387), it is a set-point of the unpowered store (DESIGN CHOICE, log entry 213), or the module is not READY
and the register lies outside the early ones (R464). -/
def State.shut (s : State) (r : Reg) (ix : List Nat) : Bool :=
  s.inReset || s.modeOff r || (decide (r = .SETPT) && s.storeOff) || !(s.ready || earlyAt (r.at ix))

/-- Every register but the set-points of P4 and those of another mode takes its accesses: READY, in no reset (R464). -/
def State.isOpen (s : State) : Bool := s.ready && !s.inReset

/-- An access to a register that has a row of its own (R464): what f does, unless the register is shut. -/
def State.hostWr (s : State) (r : Reg) (ix : List Nat) (f : State → State) : State := if s.shut r ix then s else f s

end Sys2Proof.Machine
end

