-- ==== Sys2Proof/Machine/Flags.lean ====
section
/-! DEFINITION. The derived conditions and number formats the lanes share: power words, element numbering, the
configuration of a lane and the conditions that hold or stop its loop. -/
namespace Sys2Proof.Machine

/-! ### Numbering (R40, R41, R44, R47, R48) -/

/-- Pairing bit of stage s (R40). -/
def pairBit (s : Nat) : Nat := if s ≤ 8 then 8 - s else s - 8

/-- Node of link address l at stage s (R40). -/
def nodeOf (s l : Nat) : Nat :=
  let b := pairBit s
  ((l >>> (b + 1)) <<< b) ||| (l % 2 ^ b)

/-- Side of link address l at stage s: false upper, true lower (R40). -/
def sideOf (s l : Nat) : Bool := l.testBit (pairBit s)

/-- Switching element index (R47). -/
def elemOf (plane stage node q : Nat) : Nat := plane * 17408 + stage * 1024 + node * 4 + q

/-- Cuff element index (R47): side 0 ingress, 1 egress. -/
def cuffOf (plane side port : Nat) : Nat := 34816 + plane * 1024 + side * 512 + port

/-- Commanded slot of element q of a node: true is PASS1 (R44). -/
def nodeSlot (cross : Bool) (q : Nat) : Bool := if cross then q % 2 == 0 else q % 2 == 1

/-- A Cuff element (R47). -/
def isCuffE (e : Nat) : Bool := decide (34816 ≤ e)

/-- An egress Cuff element (R47). -/
def isEgressE (e : Nat) : Bool := isCuffE e && decide (1 = (e - 34816) / 512 % 2)

/-- Plane of an element (R47, R48). -/
def planeE (e : Nat) : Nat := if isCuffE e then (e - 34816) / 1024 else e / 17408

/-- Port of a Cuff element (R47). -/
def portE (e : Nat) : Nat := (e - 34816) % 512

/-- q of a switching element: 0, 1 split; 2, 3 select (R42). -/
def qE (e : Nat) : Nat := e % 4

/-- The dark tap is tap 0 only for a split element in PASS1 (R45). -/
def darkIs0 (e : Nat) (cmd : Bool) : Bool := decide (qE e < 2) && cmd

/-! ### Optical powers (R68, R104, R140) -/

/-- Whether 2560 × log10 of the power of sum s (in HI codes over 16 conversions, relative to 1 mW) is at least
w − 1/2, in whole numbers: (38,703 s)^5120 ≥ 16^5120 × 10^(51,200 + 2w − 1) (R104). -/
def powerAtLeast (sp : Nat) (w : Int) : Bool := decide (16 ^ 5120 * 10 ^ (51199 + 2 * w).toNat ≤ sp)

/-- Bisection on the power word: the largest w in lo .. lo + 2^n − 1 that still holds. -/
def powerSearch (sp : Nat) : Nat → Int → Int
  | 0, w => w
  | n + 1, w => if powerAtLeast sp (w + (2 ^ n : Nat)) then powerSearch sp n (w + (2 ^ n : Nat)) else powerSearch sp n w

/-- The power word of a sum of 16 conversions in HI codes (R104); 0x8000 at the floor, at most 0x0C00. -/
def powerWord (s : Nat) : Int :=
  if s = 0 then -32768
  else
    let w := powerSearch ((38703 * s) ^ 5120) 15 (-18000)
    if 0x0C00 < w then 0x0C00 else w

/-- One conversion in HI codes (R104). -/
def Conv.hiCodes (c : Conv) : Nat := if c.hi then c.code else c.code * 1000

/-- The power of one conversion (R140): s = 16 × code for HI, 16,000 × code for LO. -/
def Conv.power (c : Conv) : Int := powerWord (16 * c.hiCodes)

/-- The power word of a tap is stale with a stale conversion among its 16, or before 16 were made (R104, R106). -/
def Tap.stale (t : Tap) : Bool := decide (t.convs.length < 16) || t.convs.any (·.stale)

/-! ### Configuration of a lane -/

/-- LANE_CFG fields. -/
def State.loopEn (s : State) (e : Nat) : Bool := s.fb LANE_CFG.LOOP_EN [e / 256, e % 256]
def State.damp (s : State) (e : Nat) : Nat := s.f LANE_CFG.DAMP [e / 256, e % 256]
def State.dfreq (s : State) (e : Nat) : Nat := s.f LANE_CFG.DFREQ [e / 256, e % 256]
def State.dphOf (s : State) (e : Nat) : Nat := s.f LANE_CFG.DPH [e / 256, e % 256]
def State.polOf (s : State) (e : Nat) : Bool := s.fb LANE_CFG.POL [e / 256, e % 256]
def State.learnEn (s : State) (e : Nat) : Bool :=
  s.fb LANE_CFG.LEARN_EN [e / 256, e % 256] && s.fb SLV_CTRL.LEARN [e / 256]

/-- Physical gain bank (R73). -/
def State.bankOf (s : State) (e : Nat) : Nat :=
  (s.f LANE_CFG.BANK [e / 256, e % 256] ^^^ s.f SLV_CTRL.LUT_XOR [e / 256]) % 4

/-- A set-point code: signed for switching lanes, unsigned for Cuff lanes (R77). -/
def spCode (e v : Nat) : Int := if isCuffE e then (v : Int) else sgn 16 v

/-- SP of slot k of element e (R77). -/
def State.sp (s : State) (e : Nat) (k : Bool) : Int := spCode e (s.f SETPT.SP [e / 256, e % 256, b2n k])

/-- SP_REF of slot k of element e (R77). -/
def State.spRef (s : State) (e : Nat) (k : Bool) : Int := spCode e (s.f SETPT.SP_REF [e / 256, e % 256, b2n k])

/-- The 16 bits that a set-point code takes; a sum that lies outside the format (R77) has no stated code, and a free value stands
for it (log entry 16). -/
def spBits (e : Nat) (v : Int) : Nat :=
  if (if isCuffE e then 0 ≤ v ∧ v ≤ 65535 else -32768 ≤ v ∧ v ≤ 32767) then low 16 v else Config.freeSp v % 65536

/-- Stores SP. -/
def State.setSp (s : State) (e : Nat) (k : Bool) (v : Int) : State := s.setF SETPT.SP [e / 256, e % 256, b2n k] (spBits e v)

/-- Integrator limit, 1/256 code (R73). -/
def State.intLim (s : State) (e : Nat) : Int := (s.f SLV_LIM.INT_LIMIT [e / 256] : Int) * 256

/-- The ingress Cuff of this in-port carries no tone: a link in-port of a fabric (R374). -/
def State.toneless (s : State) (a : Nat) : Bool := s.inFabric && (decide (32 ≤ s.sys.devid) || decide (256 ≤ a))

/-! ### Conditions -/

/-- The loop of a lane is enabled (R70, R83, R97): DAMP counts for switching lanes only. -/
def State.loopOn (s : State) (e : Nat) : Bool :=
  s.loopEn e && s.fb SLV_CTRL.RUN [e / 256] && (isCuffE e || decide (s.damp e ≠ 0))

/-- Thermal throttle is in force (R412). -/
def State.throttle (s : State) : Bool := s.thm.thr

/-- The rate divisor div of R91. In P2, P3 and P4, for which R91 gives none, it is the value of P0 with or without throttle
(DESIGN CHOICE, log entry 174). -/
def State.div (s : State) : Nat := if s.pwr.st = 1 then 10 else if s.throttle then 2 else 1

/-- The photonic control domain is unpowered (R122, R425): P3 or P4 in force with no exit to P0, P1 or P2 running; an exit restores
its power when it starts (R428). -/
def State.folded (s : State) : Bool := decide (3 ≤ s.pwr.st) && decide (3 ≤ s.pwr.chg.getD s.pwr.st)

/-- The reference of ADC a is selected by this code (R107). -/
def State.refSel (s : State) (c a : Nat) : Nat := fget (2 * a) 2 (s.reg .CNV_REF [c])

/-- SCAN_EN bit of channel n of ADC a (R106, R131). -/
def State.scanEn (s : State) (c a n : Nat) : Bool := bit (n % 32) (s.reg .SCAN_EN [c, 2 * a + n / 32])

/-- The reference of ADC a is settled. -/
def Cluster.settled (k : Cluster) (a : Nat) : Bool := (k.adc.getD a ⟨false, false⟩).settled

/-- Some enabled sticky flag of a lane is set (R397, SLV_FLT_EN). -/
def State.stickyEn (s : State) (e : Nat) : Bool :=
  decide ((s.lane e).sticky.toNat &&& s.f SLV_FLT_EN.EN [e / 256] ≠ 0)

/-- Both loop states in which a loop runs. -/
def LaneSt.runs : LaneSt → Bool
  | .acquire => true
  | .locked => true
  | _ => false

/-- The ingress Cuff cluster that sends the word of in-port p in a plane (R48, R95). -/
def ingressCl (plane p : Nat) : Nat := 136 + 4 * plane + p / 256

/-- A lane on a probe route that has had no light: its lit-tap power word has stayed below −45.00 dBm in the layer (R467). -/
def State.probeDark (s : State) (e : Nat) : Bool := s.cal.lanes.contains e && !s.cal.seen.contains e

/-- A cluster converts in HI under CAL_OPT, unless its step is abandoned (R474, R475, R476). -/
def State.optCl (s : State) (c : Nat) : Bool :=
  (s.cal.rmodes.any fun p => p.1 == c) && !(s.cal.again.any fun k => k / 8 == c)

/-- The exchange word an egress lane uses is stale (R95); while its ingress cluster is under CAL_OPT the lane holds alike
(R475). -/
def State.exStale (s : State) (e : Nat) : Bool :=
  let c := ingressCl (planeE e) (s.lane e).src
  !(s.cl c).exFresh || s.optCl c

/-! ### Drive values (R78, R94, R96, R136) -/

/-- num(m) of R136. -/
def profNum (m n : Nat) : Nat :=
  let half := fun m : Nat =>
    if 4 * m ≤ n then 64 * m * m * m
    else
      let k := 4 * m - n
      n * n * n + 3 * k * n * n + 3 * k * k * n - k * k * k
  if 2 * m ≤ n then half m else 12 * n * n * n - half (n - m)

/-- buf of a profile after m updates (R136). -/
def Prof.at (p : Prof) (m : Nat) : Int :=
  p.x0 + roundDiv ((p.tgt - p.x0) * profNum m p.len) (12 * p.len * p.len * p.len)

/-- The drive is the loop's own value (R78, R96). -/
def LaneSt.loopDrive : LaneSt → Bool
  | .acquire | .locked | .hold | .fault => true
  | _ => false

/-- The drive of a lane outside a profile (R78, R94); the value of a Cuff loop is clamped to its 16-bit code (R96). -/
def State.driveOf (s : State) (e : Nat) (l : Lane) : Int :=
  match l.st with
  | .off => s.sp e l.cmd
  | .atten => s.sp e false
  | .block => if s.fb CUF_CTRL.IDLE_BLOCK [] && !(s.cal.zero.contains e && s.optCl (e / 256)) then s.sp e true else 0
  | .profile => l.prof.tgt
  | _ => if isCuffE e then usat 16 l.drv else l.drv

/-- The next drive update is a step of the profile (R136). -/
def Lane.stepping (l : Lane) : Bool := l.prof.on && decide (l.prof.n < l.prof.len)

/-- buf of a lane at its next drive update (R118, R136). -/
def State.nextBuf (s : State) (e : Nat) (l : Lane) : Int :=
  if l.stepping then l.prof.at (l.prof.n + 1) else if l.prof.on then l.prof.tgt else s.driveOf e l

/-- pin of R96: the ingress long average of in-port SRC. -/
def State.pin (s : State) (e : Nat) : Int := (s.lane (cuffOf (planeE e) 0 (s.lane e).src)).sent

end Sys2Proof.Machine
end

