-- ==== Sys2Proof/Machine/Placket.lean ====
section
/-! DEFINITION. The Placket and the Cuff globals (R50 to R60): engaging, releasing and the passive bleed, the loss and
return of the high-voltage supplies (R122), CUF_CTRL. -/
namespace Sys2Proof.Machine

/-! ### Inhibits (R54) -/

/-- The power state P3 or P4 inhibits (R54): from the start of an entry until an exit from it starts (R428; log entry 117). -/
def State.pwrInhibit (s : State) : Bool := decide (3 ≤ s.pwr.chg.getD s.pwr.st)

/-- An inhibit other than P3 and P4 is asserted (R54): the safe state, a strap fault, or the time from power-on reset
until the module reports ready. -/
def State.otherInhibit (s : State) : Bool := s.flt.safe || s.strapFault || !s.sys.readySince

/-- An inhibit of R54 is asserted (PLK_STATUS.INHIBIT). -/
def State.plkInhibit (s : State) : Bool := s.otherInhibit || s.pwrInhibit

/-! ### Requests -/

/-- Stores a Placket state. -/
def State.setPlk (s : State) (st : PlkSt) : State := { s with plk := { s.plk with st := st } }

/-- An engage request in RELEASED is evaluated (R54): refused under an inhibit or with PUMP_OK = 0. The photonic die is
not checked (R465). -/
def State.evalEngage (s : State) : State :=
  if s.plkInhibit || !s.plk.pumpOk then (s.setF PLK_CTRL.ENGAGE [] 0).raise PLK_EVT.ENG_REFUSED []
  else s.setPlk .engaging

/-- An engage request (R54, R55): evaluated in RELEASED, deferred in RELEASING, without effect in ENGAGING and
ENGAGED. READY and the end of the safe state make none (R465). -/
def State.engageReq (s : State) : State :=
  match s.plk.st with
  | .released => (s.setF PLK_CTRL.ENGAGE [] 1).evalEngage
  | .releasing => let s1 := s.setF PLK_CTRL.ENGAGE [] 1
                  { s1 with plk := { s1.plk with engPend := true } }
  | _ => s.setF PLK_CTRL.ENGAGE [] 1

/-- The inhibit of P3 or P4 ends: with ENGAGE = 1 that is an engage request (R54), deferred with ENG_PEND in RELEASING as R55 has it
of a write (DESIGN CHOICE, log entry 226). -/
def State.inhibitEnd (s : State) : State := if s.fb PLK_CTRL.ENGAGE [] then s.engageReq else s

/-- A release starts: from ENGAGING or ENGAGED to RELEASING (R54, R56). -/
def State.plkRelease (s : State) : State :=
  match s.plk.st with
  | .engaging => s.setPlk .releasing
  | .engaged => s.setPlk .releasing
  | _ => s

/-- ENGAGE cleared with a release and PUMP_LOW set (R54, R57); PUMP_LOW is the cause of source 192. -/
def State.plkPumpLow (s : State) : State := ((s.setF PLK_CTRL.ENGAGE [] 0).raise PLK_EVT.PUMP_LOW []).plkRelease

/-- ENGAGE_REQUEST (R54): a write of PLK_CTRL with ENGAGE = 1. -/
def doEngageRequest (s : State) : State := s.engageReq

/-- Meaning of ENGAGE_REQUEST (R54). -/
def execEngageRequest (s : State) : Host.Outcome State Fault Refusal := .next (s.hostWr .PLK_CTRL [] doEngageRequest)

/-- RELEASE_REQUEST (R56): a write of PLK_CTRL with ENGAGE = 0; a pending engagement is cancelled (R55). -/
def doReleaseRequest (s : State) : State :=
  let s1 := s.setF PLK_CTRL.ENGAGE [] 0
  State.plkRelease { s1 with plk := { s1.plk with engPend := false } }

/-- Meaning of RELEASE_REQUEST (R56). -/
def execReleaseRequest (s : State) : Host.Outcome State Fault Refusal := .next (s.hostWr .PLK_CTRL [] doReleaseRequest)

/-- A write of PLK_CTRL (R60). -/
def doPlkCtrlWrite (v : Word) (s : State) : State := if bit 0 v then doEngageRequest s else doReleaseRequest s

/-! ### Events of the couplers -/

/-- Stores the measured hold voltage (PLK_HOLD). -/
def State.holdV (s : State) (hv : Nat) : State := { s with plk := { s.plk with holdV := hv } }

/-- Tag verification restarts at this moment for every path with a status other than OFF (R59, R177). -/
def State.tagRestart (s : State) (at_ : Nat) : State :=
  { s with pth := { s.pth with tags := s.pth.tags.map fun p =>
      (p.1, if p.2.status = 0 then p.2 else { TagV.off with status := 1, since := at_, last := p.2.last }) } }

/-- PLACKET_ENGAGED (R57, R59, R60): every coupler clear at 27.0 V (540 units) or more. -/
def doPlacketEngaged (hv : Nat) (s : State) : State :=
  if s.plk.st = .engaging ∧ 540 ≤ hv then
    (((((s.holdV hv).setPlk .engaged).raise PLK_EVT.ENGAGED_DONE []).bump .PLK_CYCLES [] 1).tagRestart s.clr.now)
  else s

/-- Meaning of PLACKET_ENGAGED (R57). -/
def execPlacketEngaged (hv : Fin 1024) (s : State) : Host.Outcome State Fault Refusal := .next (doPlacketEngaged hv s)

/-- ENGAGE_TIMEOUT (R54, R57): 200 µs in ENGAGING. -/
def doEngageTimeout (hv : Nat) (s : State) : State :=
  if s.plk.st = .engaging then (s.holdV hv).plkPumpLow else s

/-- Meaning of ENGAGE_TIMEOUT (R54). -/
def execEngageTimeout (hv : Fin 1024) (s : State) : Host.Outcome State Fault Refusal := .next (doEngageTimeout hv s)

/-- HOLD_VOLTAGE_LOW (R54): the hold voltage below 25.0 V (500 units) while ENGAGED. -/
def doHoldVoltageLow (hv : Nat) (s : State) : State :=
  if s.plk.st = .engaged ∧ hv < 500 then (s.holdV hv).plkPumpLow else s

/-- Meaning of HOLD_VOLTAGE_LOW (R54). -/
def execHoldVoltageLow (hv : Fin 1024) (s : State) : Host.Outcome State Fault Refusal := .next (doHoldVoltageLow hv s)

/-- The Placket reaches RELEASED; a deferred engage request is evaluated (R55, R56). -/
def State.plkHome (s : State) : State :=
  let p := s.plk.engPend
  let s1 := ({ s with plk := { s.plk with st := .released, engPend := false, holdV := 0 } }).raise
    PLK_EVT.RELEASED_DONE []
  if p then s1.evalEngage else s1

/-- PLACKET_RELEASED (R56). -/
def doPlacketReleased (s : State) : State := if s.plk.st = .releasing then s.plkHome else s

/-- Meaning of PLACKET_RELEASED (R56). -/
def execPlacketReleased (s : State) : Host.Outcome State Fault Refusal := .next (doPlacketReleased s)

/-- SUPPLY_FAIL_BLEED (R58): the pump is lost; from ENGAGING or ENGAGED the hold voltage falls below its limit, ENGAGE
clears with PUMP_LOW (R54), and every coupler comes home. -/
def doSupplyFailBleed (s : State) : State :=
  let s0 := { s with plk := { s.plk with pumpOk := false } }
  match s.plk.st with
  | .released => s0
  | .releasing => s0.plkHome
  | _ => s0.plkPumpLow.plkHome

/-- Meaning of SUPPLY_FAIL_BLEED (R58). -/
def execSupplyFailBleed (s : State) : Host.Outcome State Fault Refusal := .next (doSupplyFailBleed s)

/-- HV_SUPPLY_LOSS (R122): the outputs fall passively, whatever their codes, which run on; the charge pump is not ready. -/
def doHvSupplyLoss (s : State) : State :=
  { s with sys := { s.sys with hvOk := false }, plk := { s.plk with pumpOk := false } }

/-- Meaning of HV_SUPPLY_LOSS (R122). -/
def execHvSupplyLoss (s : State) : Host.Outcome State Fault Refusal := .next (doHvSupplyLoss s)

/-- HV_SUPPLY_RETURN (R122): the outputs follow their codes again; the charge pump is ready. -/
def doHvSupplyReturn (s : State) : State :=
  { s with sys := { s.sys with hvOk := true }, plk := { s.plk with pumpOk := true } }

/-- Meaning of HV_SUPPLY_RETURN (R122). -/
def execHvSupplyReturn (s : State) : Host.Outcome State Fault Refusal := .next (doHvSupplyReturn s)

/-! ### CUF_CTRL (R51, R52) -/

/-- A tone setting in the settings of a lane that a pattern holds: its slot-0 current is the peak (R172). -/
def LaneSet.retone (x : LaneSet) (p amp ash : Nat) : LaneSet :=
  if x.amp.isSome ∧ (x.e = cuffOf 0 0 p ∨ x.e = cuffOf 1 0 p) then
    { x with sp0 := some (min 65535 (amp * 2 ^ ash)), amp := some amp, ash := some ash }
  else x

/-- The port has a path, or a pattern of the store gives it one. -/
def State.toned (s : State) (p : Nat) : Bool :=
  !s.toneless p && ((s.lane (cuffOf 0 0 p)).valid || (s.lane (cuffOf 1 0 p)).valid
    || s.yk.store.any fun x => x.lanes.any fun l => l.amp.isSome && (l.e == cuffOf 0 0 p || l.e == cuffOf 1 0 p))

/-- A new tag tone amplitude of both planes of an in-port (R39), also in the patterns that are yet to fire: a free value, because
no rule gives the AMP and ASH that meet a depth (R172; log entry 11). -/
def State.retone (s : State) (p : Nat) : State :=
  let f := s.takeFree
  let amp := Config.freeAmp f.1 % 256
  let ash := Config.freeAsh f.1 % 8
  let s1 := [0, 1].foldl (fun s pl =>
    s.setLane (cuffOf pl 0 p) { s.lane (cuffOf pl 0 p) with tagAmp := amp, tagAsh := ash }) f.2
  { s1 with yk := { s1.yk with store := s1.yk.store.map fun x => { x with lanes := x.lanes.map fun l => l.retone p amp ash } } }

/-- CUF_CTRL_WRITE (R51): TAG_DEPTH is clamped to 4–20, setting DEPTH_CLAMP. A change of the depth gives every ingress
Cuff lane with a path a new amplitude, which takes effect at its next zero crossing (R52). -/
def doCufCtrlWrite (v : Word) (s : State) : State :=
  let d := fget 0 5 v
  let d' := clampN 4 20 d
  let s1 := (s.setF CUF_CTRL.IDLE_BLOCK [] (fget 8 1 v)).setF CUF_CTRL.TAG_DEPTH [] d'
  let s2 := if d = d' then s1 else s1.raise CUF_STATUS.DEPTH_CLAMP []
  if d' = s.f CUF_CTRL.TAG_DEPTH [] then s2
  else (List.range 512).foldl (fun s p => if s.toned p then s.retone p else s) s2

/-- Meaning of CUF_CTRL_WRITE (R51). -/
def execCufCtrlWrite (v : Word) (s : State) : Host.Outcome State Fault Refusal := .next (s.hostWr .CUF_CTRL [] (doCufCtrlWrite v))

end Sys2Proof.Machine
end

