-- ==== Sys2Proof/Machine/Collar.lean ====
section
/-! DEFINITION. The Collar (R190 to R203): PPS_IN, TOD_RX and REF10M_IN, the states, the discipline, steps of network
time, the settings and the snapshot. -/
namespace Sys2Proof.Machine

/-! ### Numbers of network time (R190) -/

/-- Nanoseconds in a second. -/
def secNs : Nat := 1000000000

/-- The nearest whole second, and phi against it in signed nanoseconds (R199). -/
def nearSec (t : Nat) : Nat := (t + secNs / 2) / secNs
def phiOf (t : Nat) : Int := (t : Int) - (nearSec t * secNs : Nat)

/-- phi rounded to whole microseconds, halves away from zero, in ns (R201). -/
def roundUs (x : Int) : Int := roundDiv x 1000 * 1000

/-! ### Events (R254) -/

/-- Posts the CLOCK event for the changes since `o`: the state, or CLR_EVT bits newly set (R254). -/
def State.clockEvent (o s : State) : State :=
  let new := s.reg .CLR_EVT [] &&& ~~~ (o.reg .CLR_EVT [])
  if new ≠ 0 ∨ s.clr.st ≠ o.clr.st then s.post 3 0x30 s.clr.st.code [new] else s

/-- Posts the SCHEDULE event for YK_EVT bits newly set since `o` (R254). -/
def State.schedEvent (o s : State) : State :=
  let new := s.reg .YK_EVT [] &&& ~~~ (o.reg .YK_EVT [])
  if new ≠ 0 then s.post 3 0x31 0 [new] else s

/-! ### States (R198) -/

/-- Stores the Collar. -/
def State.setClr (s : State) (k : Clr) : State := { s with clr := k }

/-- Enters a Collar state: the edge counts start afresh; in FREERUN and HOLDOVER adj = fint (R198, R199). -/
def Clr.go (k : Clr) (st : ClrSt) : Clr :=
  if k.st = st then k
  else { k with
    st := st, lockRun := 0, unlockRun := 0
    adj := if st = .freerun ∨ st = .holdover then k.fint else k.adj
    holdAt := if st = .holdover then k.now else k.holdAt }

/-- PPS_EN and DISC_EN are both 1. -/
def State.ppsDisc (s : State) : Bool := s.fb CLR_CTRL.PPS_EN [] && s.fb CLR_CTRL.DISC_EN []

/-- The state in which a first setting leaves the Collar (R198). -/
def State.afterSet (s : State) : ClrSt := if s.ppsDisc then .acquire else .freerun

/-! ### Steps (R201) -/

/-- The Yoke is quiet (R201). -/
def State.ykQuiet (s : State) : Bool :=
  s.yk.store.all (fun p => !(p.st == .armed) && !(p.st == .staged && p.timed)) && s.col.isEmpty
    && decide (s.yk.mode = 0) && !s.fb YK_CTRL.CAL_RUN []

/-- A FREE-mode window in progress is discarded (R201). -/
def Cluster.dropFree (k : Cluster) : Cluster :=
  if k.eng.running ∧ k.eng.src = 0 then { k with eng := { k.eng with running := false, fi := 0 }, accs := [] } else k

/-- The TIME record of the present instant (R263, R265). -/
def State.timePayload (s : State) (step : Bool) : List Word :=
  [wd (s.clr.now / secNs), wd (s.clr.now / secNs / 2 ^ 32 % 2 ^ 16), wd (s.clr.now % secNs), wd (b2n step)]

/-- Network time becomes `n` in one update (R201). What is measured by it goes on: ages of frames, transmissions and hold-offs. -/
def State.makeStep (s : State) (n : Nat) : State :=
  let d : Int := (n : Int) - s.clr.now
  let k : Clr := { s.clr with
    now := n, stepP := false
    lastEdge := s.clr.lastEdge.map (fun e => ((e : Int) + d).toNat), todEdge := ((s.clr.todEdge : Int) + d).toNat }
  let s1 := (s.setClr k).raise CLR_EVT.STEPPED []
  let s2 := { s1 with
    clusters := s1.clusters.map fun p : Nat × Cluster => (p.1, p.2.dropFree)
    cap := s1.cap.map fun p : Nat × CapRing => (p.1, p.2.rebase s.clr.now n)
    sgf := s1.sgf.shift d }
  let grid := 240000000
  let s3 := s2.tagRestart (ceilDiv n grid * grid)
  s3.offer 0x20 255 0 s3.tag (s3.timePayload true)

/-- Network time with the seconds `sec`, NS keeping its sub-microsecond part (R197). -/
def setTo (now sec : Nat) : Nat := sec * secNs + now % 1000

/-- The seconds of a setting that was first formed at `a`, advanced by the whole seconds passed (R201). -/
def advSec (sec now : Nat) : Option Nat → Nat
  | some a => (sec + roundDiv ((now : Int) - a) secNs).toNat
  | none => sec

/-- The step that an accepted edge is to make, as the new network time (R201): a setting from TOD_RX or the host, a
confirmed whole-second disagreement, or a phase step in ACQUIRE. -/
def State.edgeStep (s : State) : Option Nat :=
  let k := s.clr
  let phi := phiOf k.now
  if s.fb CLR_CTRL.TOD_EN [] && k.todSet.isSome then
    let sec := advSec (k.todSet.getD 0) k.now k.setAt
    if k.st = .unset then some (setTo k.now sec) else some ((sec * secNs : Nat) + (phi - roundUs phi)).toNat
  else if s.fb CLR_SET_SECH.ARM [] && !s.fb CLR_CTRL.TOD_EN [] then
    some (setTo k.now (advSec ((s.reg .CLR_SET_SECL []).toNat + s.f CLR_SET_SECH.SEC_HI [] * 2 ^ 32) k.now k.setAt))
  else if k.st = .acquire ∧ s.fb CLR_CTRL.STEP_EN [] = true ∧ 1000 ≤ phi.natAbs then
    some ((k.now : Int) - roundUs phi).toNat
  else none

/-- A setting (not a phase step) is due. -/
def State.settingDue (s : State) : Bool :=
  (s.fb CLR_CTRL.TOD_EN [] && s.clr.todSet.isSome) || (s.fb CLR_SET_SECH.ARM [] && !s.fb CLR_CTRL.TOD_EN [])

/-- A setting has been applied: ARM clears, the requests end and UNSET is left (R197, R198). -/
def State.settingDone (s : State) : State :=
  let s1 := if s.fb CLR_CTRL.TOD_EN [] then s else s.setF CLR_SET_SECH.ARM [] 0
  let k : Clr := { s1.clr with todSet := none, setAt := none, todLast := none }
  s1.setClr (if k.st = .unset then k.go s1.afterSet else k)

/-- The setting that a message asked for lapses once the edge which it names has passed unused (R197). -/
def Clr.lapse (k : Clr) : Clr :=
  if k.setAt.isNone && decide (k.todEdge + secNs / 2 < k.now) then { k with todSet := none } else k

/-- A setting or a phase step that waited and can no longer be made is dropped, and STEP_PEND with it (R197, R201, R223): a
message's setting without TOD_EN or, waiting, without PPS_EN; the host's with TOD_EN; any other step without STEP_EN, PPS_EN and
DISC_EN. -/
def State.dropSteps (s : State) : State :=
  let k := s.clr
  let tod := s.fb CLR_CTRL.TOD_EN []
  let pps := s.fb CLR_CTRL.PPS_EN []
  let mine := if tod then k.todSet.isSome && pps else s.fb CLR_SET_SECH.ARM []
  let wait := k.setAt.isSome && mine
  s.setClr { k with
    todSet := if tod && (pps || k.setAt.isNone) then k.todSet else none
    todLast := if tod then k.todLast else none
    setAt := if wait then k.setAt else none
    stepP := k.stepP && (if k.setAt.isSome then wait else s.fb CLR_CTRL.STEP_EN [] && s.ppsDisc) }

/-! ### PPS_IN (R194, R198, R199) -/

/-- The discipline of R199 with the phase error `use`. -/
def Clr.discipline (k : Clr) (use : Int) : Clr :=
  let fint := k.fint - asr use 4
  { k with fint := fint, adj := clampI (-5000) 5000 (fint - asr use 1) }

/-- ACQUIRE to LOCKED and back by the phase error of an accepted edge (R198). -/
def State.lockEdge (s : State) (phi : Int) : State :=
  let k := s.clr
  let thr := s.f CLR_DISC.LOCK_THR []
  if k.st = .acquire then
    let n := if phi.natAbs ≤ thr then k.lockRun + 1 else 0
    if s.f CLR_DISC.LOCK_N [] ≤ n then s.setClr (k.go .locked) else s.setClr { k with lockRun := n }
  else if k.st = .locked then
    let n := if thr < phi.natAbs then k.unlockRun + 1 else 0
    if 2 ≤ n then (s.setClr (k.go .acquire)).raise CLR_EVT.LOCK_LOST [] else s.setClr { k with unlockRun := n }
  else s

/-- FREERUN and HOLDOVER enter ACQUIRE at an accepted edge (R198). -/
def State.enterAcquire (s : State) : State :=
  if (s.clr.st = .freerun ∧ s.ppsDisc = true) ∨ s.clr.st = .holdover then s.setClr (s.clr.go .acquire) else s

/-- An accepted edge (R194, R197, R198, R199, R201). -/
def State.edgeIn (s : State) : State :=
  let s0 := s.setClr { s.clr.lapse with
    ppsOk := true, lastEdge := some s.clr.now, edgeIn := true, missed := 0, badRun := 0, todSeen := false }
  let due := s0.settingDue
  -- settings are applied first, so that the phase error is that of the time just set
  let s1 := match (if due then s0.edgeStep else none) with
    | some n =>
      if s0.ykQuiet then (s0.makeStep n).settingDone
      else s0.setClr { s0.clr with stepP := true, setAt := some (s0.clr.setAt.getD s0.clr.now)
                                   todSet := s0.clr.todSet }
    | none => s0
  let waits := due && !s0.ykQuiet
  let phi := phiOf s1.clr.now
  let s2 := (s1.setClr { s1.clr with phi := phi }).enterAcquire
  if s2.clr.st = .acquire ∨ s2.clr.st = .locked then
    let s3 := s2.lockEdge phi
    if waits then s3.setClr (s3.clr.discipline (phi - roundUs phi))
    else match (if s3.clr.st = .acquire ∧ s3.fb CLR_CTRL.STEP_EN [] = true ∧ 1000 ≤ phi.natAbs
        then some ((s3.clr.now : Int) - roundUs phi).toNat else none) with
      | some n =>
        if s3.ykQuiet then
          let s4 := s3.makeStep n
          s4.setClr (s4.clr.discipline (phi - roundUs phi))
        else s3.setClr ({ s3.clr with stepP := true }.discipline (phi - roundUs phi))
      | none => s3.setClr ({ s3.clr with stepP := false }.discipline phi)
  else s2.setClr { s2.clr with stepP := waits }

/-- `d` as an offset between −0.5 s and 0.5 s. -/
def wrapSec (d : Int) : Int := (d + 500000000) % 1000000000 - 500000000

/-- The count of agreeing edges outside the window with one more at `phi` (R198: within 100 ns of one another). -/
def Clr.badEdge (k : Clr) (phi : Int) : Clr :=
  let d := wrapSec (phi - k.badRef)
  let lo := min k.badLo d
  let hi := max k.badHi d
  if k.badRun ≠ 0 ∧ hi - lo ≤ 100 then { k with badRun := k.badRun + 1, badLo := lo, badHi := hi }
  else { k with badRun := 1, badRef := phi, badLo := 0, badHi := 0 }

/-- An edge outside PPS_WIN (R194): counted, and used only towards a re-alignment (R198). -/
def State.edgeOut (s : State) : State :=
  let phi := phiOf s.clr.now
  let s1 := (s.setClr (s.clr.badEdge phi)).raise CLR_EVT.PPS_BAD []
  let k := s1.clr
  let from_ := k.st = .acquire ∨ k.st = .holdover ∨ (k.st = .freerun ∧ s1.ppsDisc = true)
  if from_ ∧ s1.f CLR_HOLD.PPS_LOSS_N [] ≤ k.badRun ∧ s1.fb CLR_CTRL.STEP_EN [] = true then
    if s1.ykQuiet then
      let s2 := s1.makeStep ((k.now : Int) - roundUs phi).toNat
      s2.setClr ({ s2.clr with ppsOk := true, lastEdge := some s2.clr.now, edgeIn := true, missed := 0, badRun := 0
                               todSeen := false }.go .acquire)
    else s1.setClr { k with stepP := true }
  else s1

/-- PPS_EDGE (R194): a rising edge at network time t; ignored before the reference locks and with PPS_EN = 0. -/
def doPpsEdge (t : Nat) (s : State) : State :=
  if s.sys.stage ≤ 7 ∨ s.fb CLR_CTRL.PPS_EN [] = false then s
  else
    let s1 := (s.passTo t).icEdge 416
    let inWin := decide ((phiOf s1.clr.now).natAbs ≤ s1.f CLR_DISC.PPS_WIN [])
    State.clockEvent s (if s1.clr.st = .unset || inWin then s1.edgeIn else s1.edgeOut)

/-- Meaning of PPS_EDGE (R194). -/
def execPpsEdge (t : Nat) (s : State) : Host.Outcome State Fault Refusal := .next (doPpsEdge t s)

/-- PPS_IN is lost (R194, R197, R198). -/
def State.ppsLost (s : State) : State :=
  let k := { s.clr with ppsOk := false, todOk := false, stepP := s.clr.stepP && s.clr.setAt.isSome }
  let k1 := if k.st = .locked then k.go .holdover else if k.st = .acquire then k.go .freerun else k
  (s.setClr k1).raise CLR_EVT.PPS_LOST []

/-- PPS_WINDOW_CLOSE (R194): once time is set, a second without an accepted edge is missed; at the PPS_LOSS_N-th in a
row PPS_OK clears. -/
def doPpsWindowClose (t : Nat) (s : State) : State :=
  let s1 := s.passTo t
  if s1.clr.st = .unset then s1
  else if s1.clr.edgeIn then s1.setClr { s1.clr with edgeIn := false, missed := 0 }
  else
    let s2 := s1.setClr { s1.clr with missed := s1.clr.missed + 1 }
    if s2.clr.ppsOk ∧ s2.f CLR_HOLD.PPS_LOSS_N [] ≤ s2.clr.missed then State.clockEvent s s2.ppsLost else s2

/-- Meaning of PPS_WINDOW_CLOSE (R194). -/
def execPpsWindowClose (t : Nat) (s : State) : Host.Outcome State Fault Refusal := .next (doPpsWindowClose t s)

/-- PPS_LOSS_BEFORE_SET (R194): before time is set, PPS_LOSS_N seconds after the last accepted edge. -/
def doPpsLossBeforeSet (t : Nat) (s : State) : State :=
  let s1 := s.passTo t
  match s1.clr.lastEdge with
  | some e =>
    if s1.clr.st = .unset ∧ s1.clr.ppsOk = true ∧ e + s1.f CLR_HOLD.PPS_LOSS_N [] * secNs ≤ s1.clr.now
    then State.clockEvent s s1.ppsLost else s1
  | none => s1

/-- Meaning of PPS_LOSS_BEFORE_SET (R194). -/
def execPpsLossBeforeSet (t : Nat) (s : State) : Host.Outcome State Fault Refusal := .next (doPpsLossBeforeSet t s)

/-- NETWORK_SECOND (R205, R197, R265): the accepted slot length takes effect, a host setting with PPS_EN = 0 is applied
or waits, and every active capture ring takes a TIME record. -/
def doNetworkSecond (sec : Nat) (s : State) : State :=
  if s.sys.stage ≤ 7 then s
  else
    let s1 := s.passTo (sec * secNs)
    let s2 := { s1 with yk := { s1.yk with slot := s1.f YK_GRID.SLOT_US [] } }
    let host := s2.fb CLR_SET_SECH.ARM [] && !s2.fb CLR_CTRL.TOD_EN [] && !s2.fb CLR_CTRL.PPS_EN []
    if !host then s2.offer 0x20 255 0 s2.tag (s2.timePayload false)
    else if s2.ykQuiet then
      match s2.edgeStep with
      | some n =>
        let s3 := if s2.clr.st = .unset then s2.setClr { s2.clr with edgeIn := false, missed := 0 } else s2
        State.clockEvent s (s3.makeStep n).settingDone
      | none => s2
    else
      let s3 := s2.setClr { s2.clr with stepP := true, setAt := some (s2.clr.setAt.getD s2.clr.now) }
      s3.offer 0x20 255 0 s3.tag (s3.timePayload false)

/-- Meaning of NETWORK_SECOND (R205). -/
def execNetworkSecond (sec : Nat) (s : State) : Host.Outcome State Fault Refusal := .next (doNetworkSecond sec s)

/-! ### REF10M_IN (R195) -/

/-- REF10M_IN becomes invalid. -/
def State.refLost (s : State) : State :=
  let s1 := s.setClr { s.clr with refRun := 0, refOk := false }
  if s.clr.refOk then State.clockEvent s (s1.raise CLR_EVT.REF_LOST []) else s1

/-- REF10M_WINDOW (R195): 100 windows in a row within ±20 ppm make the input valid. -/
def doRef10mWindow (inRange : Bool) (s : State) : State :=
  if inRange then
    s.setClr { s.clr with refRun := s.clr.refRun + 1, refOk := s.clr.refOk || decide (100 ≤ s.clr.refRun + 1) }
  else s.refLost

/-- Meaning of REF10M_WINDOW (R195). -/
def execRef10mWindow (inRange : Bool) (s : State) : Host.Outcome State Fault Refusal := .next (doRef10mWindow inRange s)

/-- REF10M_LOSS (R195): no edge for 1 µs. -/
def doRef10mLoss (s : State) : State := s.refLost

/-- Meaning of REF10M_LOSS (R195). -/
def execRef10mLoss (s : State) : Host.Outcome State Fault Refusal := .next (doRef10mLoss s)

/-! ### TOD_RX (R196, R197) -/

/-- Exclusive or of bytes. -/
def xorBytes (l : List Byte) : Byte := l.foldl (· ^^^ ·) 0

/-- The message itself is valid (R196). -/
def todValid (msg : List Byte) (gap : Bool) : Bool :=
  decide (msg.length = 16) && !gap && (msg.getD 0 0 == 0xA7) && (msg.getD 1 0 == 0x10)
    && (xorBytes (msg.take 14) == msg.getD 14 0) && ((msg.foldl (fun a b => a + b.toNat) 0) % 256 == 0)

/-- The last stop bit lies between 100 ms and 900 ms after an accepted edge (R196). -/
def State.todInWindow (s : State) : Bool :=
  match s.clr.lastEdge with
  | some e => decide (e + 100000000 ≤ s.clr.now) && decide (s.clr.now ≤ e + 900000000)
  | none => false

/-- A valid message with the seconds `sec` while TOD_EN = 1 (R197). -/
def State.todUse (s : State) (sec : Nat) : State :=
  let k := s.clr.lapse
  let next := k.lastEdge.getD k.now + secNs
  if k.st = .unset then
    s.setClr { k with
      todLast := some sec
      todSet := if k.todLast = some (sec - 1) ∧ 0 < sec then some sec else k.todSet
      todEdge := next, setAt := if k.todLast = some (sec - 1) ∧ 0 < sec then none else k.setAt }
  else if sec = k.now / secNs + 1 then
    s.setClr { k with todOk := true, todSeen := true, todLast := none }
  else
    let ag := decide (k.todLast = some (sec - 1)) && decide (0 < sec)
    (s.setClr { k with
      todOk := false, todLast := some sec
      todSet := if ag then some sec else k.todSet
      todEdge := next, setAt := if ag then none else k.setAt }).raise CLR_EVT.TOD_JUMP []

/-- TOD_MESSAGE (R196): a message whose last stop bit ends at network time t; a failed one is counted. -/
def doTodMessage (t : Nat) (msg : List Byte) (gap : Bool) (s : State) : State :=
  let s1 := s.passTo t
  if todValid msg gap && s1.todInWindow then
    let s2 := s1.setReg .CLR_TOD [] (wd (leValue [msg.getD 11 0, msg.getD 10 0, msg.getD 8 0, msg.getD 9 0]))
    if s2.fb CLR_CTRL.TOD_EN [] then State.clockEvent s (s2.todUse (leValue ((msg.drop 2).take 6))) else s2
  else
    State.clockEvent s (((s1.setClr { s1.clr with todLast := none }).bump .CLR_TOD_ERR [] 1).raise CLR_EVT.TOD_BAD [])

/-- Meaning of TOD_MESSAGE (R196). -/
def execTodMessage (t : Nat) (msg : List Byte) (gap : Bool) (s : State) : Host.Outcome State Fault Refusal :=
  .next (doTodMessage t msg gap s)

/-- TOD_WINDOW_CLOSE (R197): no valid agreeing message came after the last accepted edge. -/
def doTodWindowClose (t : Nat) (s : State) : State :=
  let s1 := s.passTo t
  if s1.clr.todSeen then s1 else s1.setClr { s1.clr with todOk := false }

/-- Meaning of TOD_WINDOW_CLOSE (R197). -/
def execTodWindowClose (t : Nat) (s : State) : Host.Outcome State Fault Refusal := .next (doTodWindowClose t s)

/-- HOLDOVER_LIMIT (R198): HOLDOVER has lasted HOLD_LIMIT seconds. -/
def doHoldoverLimit (t : Nat) (s : State) : State :=
  let s1 := s.passTo t
  let n := s1.f CLR_HOLD.HOLD_LIMIT []
  if s1.clr.st = .holdover ∧ n ≠ 0 ∧ s1.clr.holdAt + n * secNs ≤ s1.clr.now
  then State.clockEvent s (s1.raise CLR_EVT.HOLD_LIMIT []) else s1

/-- Meaning of HOLDOVER_LIMIT (R198). -/
def execHoldoverLimit (t : Nat) (s : State) : Host.Outcome State Fault Refusal := .next (doHoldoverLimit t s)

/-! ### Host writes and reads (R197, R198, R202) -/

/-- CLR_CTRL_WRITE (R198): PPS_EN or DISC_EN written 0 forces FREERUN from any state but UNSET, and drops a step that can no
longer be made. -/
def doClrCtrlWrite (v : Word) (s : State) : State :=
  let s1 := s.wrCodes .CLR_CTRL [] v
  let s2 := if s1.clr.st ≠ .unset ∧ s1.ppsDisc = false then s1.setClr (s1.clr.go .freerun)
    else if s1.clr.st = .freerun ∧ s1.clr.ppsOk = true then s1.setClr (s1.clr.go .acquire) else s1
  State.clockEvent s s2.dropSteps

/-- Meaning of CLR_CTRL_WRITE (R198). -/
def execClrCtrlWrite (v : Word) (s : State) : Host.Outcome State Fault Refusal := .next (s.hostWr .CLR_CTRL [] (doClrCtrlWrite v))

/-- TIME_SET_ARM (R197): a write of CLR_SET_SECH; ARM is ignored while TOD_EN = 1, and a written 0 leaves it. -/
def doTimeSetArm (v : Word) (s : State) : State :=
  let s1 := s.setF CLR_SET_SECH.SEC_HI [] (fget 0 16 v)
  if bit 31 v && !s.fb CLR_CTRL.TOD_EN [] then
    (s1.setF CLR_SET_SECH.ARM [] 1).setClr { s1.clr with setAt := none }
  else s1

/-- Meaning of TIME_SET_ARM (R197). -/
def execTimeSetArm (v : Word) (s : State) : Host.Outcome State Fault Refusal := .next (s.hostWr .CLR_SET_SECH [] (doTimeSetArm v))

/-- A read of CLR_SNAP_SECL latches the snapshot (R202). -/
def State.snapshot (s : State) : State :=
  let n := s.clr.now
  (((s.setReg .CLR_SNAP_SECL [] (wd (n / secNs))).setReg .CLR_SNAP_SECH [] (wd (n / secNs / 2 ^ 32 % 2 ^ 16))).setReg
    .CLR_SNAP_NS [] (wd (n % secNs))).setReg .CLR_SNAP_TAG [] s.tag

/-- CLOCK_SNAPSHOT (R202): a read of CLR_SNAP_SECL at network time t. -/
def doClockSnapshot (t : Nat) (s : State) : State :=
  let s1 := (s.passTo t).snapshot
  { s1 with rdata := s1.reg .CLR_SNAP_SECL [] }

/-- Meaning of CLOCK_SNAPSHOT (R202). -/
def execClockSnapshot (t : Nat) (s : State) : Host.Outcome State Fault Refusal :=
  .next (s.hostWr .CLR_SNAP_SECL [] (doClockSnapshot t))

end Sys2Proof.Machine
end

