-- ==== Sys2Proof/Machine/Routing.lean ====
section
/-! DEFINITION. The route engine (R163 to R167): link addresses, conflicts, the non-disturbing search and the looping
rearrangement. -/
namespace Sys2Proof.Machine

/-- A route: in-port, out-port and middle node (R163). -/
structure Rt where
  a : Nat
  b : Nat
  m : Nat
  deriving DecidableEq, Repr

/-- Link address after stage s (R163). -/
def Rt.link (r : Rt) (s : Nat) : Nat :=
  if s ≤ 7 then (r.m >>> (7 - s)) * 2 ^ (8 - s) + r.a % 2 ^ (8 - s)
  else if s = 8 then 2 * r.m + r.b % 2
  else (r.m >>> (s - 8)) * 2 ^ (s - 7) + r.b % 2 ^ (s - 7)

/-- Link address into stage s; the link into stage 0 is the in-port (R163). -/
def Rt.into (r : Rt) (s : Nat) : Nat := if s = 0 then r.a else r.link (s - 1)

/-- Node the path crosses at stage s (R163, R40). -/
def Rt.node (r : Rt) (s : Nat) : Nat := nodeOf s (r.into s)

/-- State of that node: CROSS when the links into and out of the stage differ (R163). -/
def Rt.cross (r : Rt) (s : Nat) : Bool := decide (r.into s ≠ r.link s)

/-- Two paths conflict: equal links after some stage 0–15 (R164). -/
def Rt.conflicts (r t : Rt) : Bool := (List.range 16).any fun s => r.link s == t.link s

/-- The node of a stage is marked in PTH_EXCL (R189). -/
def State.excluded (s : State) (st node : Nat) : Bool :=
  bit (node % 32) (s.reg .PTH_EXCL [8 * st + node / 32])

/-- A set of nodes to avoid, by stage and node. -/
abbrev NodeSet := List (Nat × Nat)

/-- The nodes marked in PTH_EXCL at stages 1–15 (R165). -/
def State.exclNodes (s : State) : NodeSet :=
  (List.range 15).flatMap fun i => (List.range 256).filterMap fun n =>
    if s.excluded (i + 1) n then some (i + 1, n) else none

/-- The path crosses a node of the set at stages 1–15 (R165). -/
def Rt.hits (r : Rt) (x : NodeSet) : Bool := x.any fun p => decide (1 ≤ p.1) && decide (p.1 ≤ 15) && r.node p.1 == p.2

/-- The search of R165 among the m that keep the bits of `keep` above bit 8 − k: the first m = m0 xor j that conflicts
with no other path and crosses no excluded node. -/
def search (x : NodeSet) (others : List Rt) (a b keep k : Nat) : Option Nat :=
  ((List.range 256).map fun j => (a / 2) ^^^ j).find? fun m =>
    decide (m >>> (8 - k) = keep >>> (8 - k)) && !(Rt.hits ⟨a, b, m⟩ x)
      && others.all fun o => !(Rt.conflicts ⟨a, b, m⟩ o)

/-- The search of R165 for a new path. -/
def place (x : NodeSet) (others : List Rt) (a b : Nat) : Option Nat := search x others a b 0 0

/-! ### Looping (R167) -/

/-- A path under rearrangement: its ports, its present m when it exists, and the m built so far. -/
structure LoopP where
  a : Nat
  b : Nat
  old : Option Nat
  m : Nat
  deriving DecidableEq, Repr

/-- Joined at level k (R167). -/
def LoopP.joined (k : Nat) (p q : LoopP) : Bool :=
  decide (p.m >>> (8 - k) = q.m >>> (8 - k)) &&
    (decide ((p.a ^^^ q.a) % 2 ^ (9 - k) = 2 ^ (8 - k)) || decide ((p.b ^^^ q.b) % 2 ^ (9 - k) = 2 ^ (8 - k)))

/-- Colours of the component of the paths in `front`: `seen` holds the colours given so far, by in-port. -/
def colour (k : Nat) (all : List LoopP) : Nat → List (LoopP × Bool) → List (Nat × Bool) → List (Nat × Bool)
  | 0, _, seen => seen
  | n + 1, front, seen =>
    let next := front.flatMap fun f => (all.filter fun q => q.joined k f.1 && !(seen.any fun x => x.1 == q.a)).map
      fun q => (q, !f.2)
    if next.isEmpty then seen
    else colour k all n next (next.foldl (fun acc q => if acc.any (fun x => x.1 == q.1.a) then acc else (q.1.a, q.2) :: acc) seen)

/-- Bit 7 − k of a number. -/
def lbit (k m : Nat) : Bool := m.testBit (7 - k)

/-- Whether the colouring `c` of a component is taken as it stands (true) or inverted, by the three rules of R167. -/
def colourKeeps (k : Nat) (all : List LoopP) (c : List (Nat × Bool)) : Bool :=
  let comp := all.filter fun p => c.any fun x => x.1 == p.a
  let col := fun p : LoopP => c.any fun x => x.1 == p.a && x.2
  let olds := comp.filter fun p => p.old.isSome
  let kept := (olds.filter fun p => col p == lbit k (p.old.getD 0)).length
  if olds.length < 2 * kept then true
  else if 2 * kept < olds.length then false
  else match olds with
    | p :: _ => col p == lbit k (p.old.getD 0)
    | [] => match comp with
      | p :: _ => col p == lbit k (p.a / 2)
      | [] => true

/-- Level k: every component takes its colouring; `todo` walks the paths in ascending in-port order. -/
def loopLevel (k : Nat) (all : List LoopP) : List LoopP → List (Nat × Bool) → List (Nat × Bool)
  | [], done => done
  | p :: t, done =>
    if done.any (fun x => x.1 == p.a) then loopLevel k all t done
    else
      let c := colour k all all.length [(p, false)] [(p.a, false)]
      let keep := colourKeeps k all c
      loopLevel k all t ((c.map fun x => (x.1, x.2 == keep)) ++ done)

/-- One level applied to every path. -/
def loopStep (all : List LoopP) (k : Nat) : List LoopP :=
  let bits := loopLevel k all all []
  all.map fun p => if bits.any (fun x => x.1 == p.a && x.2) then { p with m := p.m + 2 ^ (7 - k) } else p

/-- The deepest level whose nodes at stages 1–k and 16 − k to 15 are not excluded (R167, final pass). -/
def keepLevel (x : NodeSet) (r : Rt) : Nat → Nat → Nat
  | 0, k => k
  | n + 1, k =>
    if x.contains (k + 1, r.node (k + 1)) || x.contains (15 - k, r.node (15 - k)) then k else keepLevel x r n (k + 1)

/-- The final pass of R167 in ascending in-port order. -/
def finalPass (x : NodeSet) : List Rt → List Rt → Option (List Rt)
  | done, [] => some done.reverse
  | done, r :: t =>
    if r.hits x then
      match search x (done ++ t) r.a r.b r.m (keepLevel x r 8 0) with
      | some m => finalPass x ({ r with m := m } :: done) t
      | none => none
    else finalPass x (r :: done) t

/-- Inserts by in-port. -/
def insertLP (p : LoopP) : List LoopP → List LoopP
  | [] => [p]
  | q :: t => if p.a < q.a then p :: q :: t else q :: insertLP p t

/-- Rearrangement (R167) of existing paths and new ones (in-port, out-port). -/
def rearrange (x : NodeSet) (old : List Rt) (new : List (Nat × Nat)) : Option (List Rt) :=
  let all := (old.map fun r => (⟨r.a, r.b, some r.m, 0⟩ : LoopP)) ++ new.map fun p => ⟨p.1, p.2, none, 0⟩
  let sorted := all.foldr insertLP []
  let fin := (List.range 8).foldl loopStep sorted
  finalPass x [] (fin.map fun p => ⟨p.a, p.b, p.m⟩)

/-! ### Lanes of a route (R38, R44, R47) -/

/-- The node states of a route: stage, node, CROSS. -/
def Rt.nodes (r : Rt) : List (Nat × Nat × Bool) := (List.range 17).map fun s => (s, r.node s, r.cross s)

/-- The elements of a node with their slots, in both planes (R38, R44). -/
def nodeLanes (st node : Nat) (cross : Bool) : List (Nat × Bool) :=
  [0, 1].flatMap fun pl => [0, 1, 2, 3].map fun q => (elemOf pl st node q, nodeSlot cross q)

/-- A node crossed by a route (for the faults of R179). -/
def Rt.crosses (r : Rt) (st node : Nat) : Bool := r.node st == node

/-- The switching element of a route at a stage: its split and its select element (R42). -/
def Rt.select (r : Rt) (pl st : Nat) : Nat := elemOf pl st (r.node st) (2 + b2n (sideOf st (r.link st)))

/-- The switching elements that the light of a route passes in both planes: at each stage a split and a select (R42). -/
def Rt.litLanes (r : Rt) : List Nat :=
  [0, 1].flatMap fun pl => (List.range 17).flatMap fun st =>
    [elemOf pl st (r.node st) (b2n (sideOf st (r.into st))), r.select pl st]

end Sys2Proof.Machine
end

