-- ==== Sys2Proof/Machine/Sleeve.lean ====
section
/-! DEFINITION. The Sleeve loops (R68 to R99): state changes of a lane, folds, the integrator, the locks and the lane
faults, set-point writes, restarts and the Cuff exchange. -/
namespace Sys2Proof.Machine

/-! ### Storing a lane -/

/-- A sticky flag of LANE_STAT[7:0]. -/
def stk (n : Nat) : BitVec 8 := BitVec.ofNat 8 (2 ^ n)

/-- The payload of a LOOP record (R263): the old lane, the new one, and buf after the update. -/
def loopPayload (o l : Lane) (buf : Int) : List Word :=
  [wd (l.st.code + o.st.code * 2 ^ 4 + b2n l.cmd * 2 ^ 8 + b2n l.lit * 2 ^ 9 + l.why * 2 ^ 10
      + (l.sticky &&& ~~~ o.sticky).toNat * 2 ^ 16),
   wd (low 24 l.i), wd (low 16 buf)]

/-- Stores a lane whose buf after the update is `buf`. A change of its state or a newly set sticky flag is offered to capture
in one record (R86, R263); entry to FAULT is reported to the path service (R90). -/
def State.putLaneBuf (s : State) (e : Nat) (l : Lane) (buf : Int) : State :=
  let o := s.lane e
  let s1 := s.setLane e l
  let s2 := if l.st ≠ o.st ∨ l.sticky &&& ~~~ o.sticky ≠ 0
    then s1.offer 2 (e / 256) (e % 256) s.tag (loopPayload o l buf) else s1
  if l.st = .fault ∧ o.st ≠ .fault then
    let b := if l.sticky &&& stk 2 ≠ 0 ∧ o.sticky &&& stk 2 = 0
      then 16 + max 1 (s2.f SLV_FAULT.LEAK_CNT [e / 256]) else 0
    State.icEdge { s2 with pth := { s2.pth with reports := s2.pth.reports ++ [⟨e, 0, 0, s2.clr.now, b⟩] } } (256 + e / 256)
  else s2

/-- Stores a lane at a loop update: its buf is the one the next drive update computes. -/
def State.putLane (s : State) (e : Nat) (l : Lane) : State := s.putLaneBuf e l (s.nextBuf e l)

/-! ### Pure lane changes -/

/-- The demodulator restarts (R72). -/
def Lane.restart (l : Lane) : Lane := { l with win := 0, hist := [], fill := 0, e := 0 }

/-- The demodulator of lane e restarts; a Cuff lane has none, and keeps its last error (R72, R96, R99). -/
def Lane.redemod (l : Lane) (e : Nat) : Lane := if isCuffE e then l else l.restart

/-- Enters ACQUIRE: the timer and the counts start (R83, R85). -/
def Lane.acquire (l : Lane) : Lane :=
  { l with st := .acquire, why := 0, lockRun := 0, unlockRun := 0, satRun := 0, leakRun := 0, acq := 0 }

/-- Enters HOLD with a cause (R82, HOLD_WHY). -/
def Lane.hold (l : Lane) (why : Nat) : Lane :=
  { l with st := .hold, why := why, lockRun := 0, unlockRun := 0, satRun := 0, leakRun := 0, acq := 0 }

/-- Leaves OFF, FAULT, a hold or a profile by its class (R83), a Cuff lane by its commanded slot (R97). -/
def Lane.enter (l : Lane) (e : Nat) : Lane :=
  if isCuffE e then
    if l.cmd then { l with st := .block, why := 0 }
    else if isEgressE e then l.acquire
    else { l with st := .atten, why := 0 }
  else if l.lit then l.acquire.restart
  else (l.hold 0).restart

/-! ### Folds (R79, R80) -/

/-- The largest part of t that keeps sp + a within lim of ref (R79). -/
def foldPart (sp ref lim t : Int) : Int :=
  if 0 ≤ t then
    let a := min t (ref + lim - sp)
    if 0 ≤ a ∧ ref - lim ≤ sp + a then a else 0
  else
    let a := max t (ref - lim - sp)
    if a ≤ 0 ∧ sp + a ≤ ref + lim then a else 0

/-- The fold of t = i >> sh of a lane into the set-point of its commanded slot (R79, R80): the lane after it, and a; no fold
in the safe state or while isolated (R396, R398), and none of a slot that the host has written in the same cycle (R81; log
entry 215). SP_REF is read at each fold, as R81 has it (DEDUCED against R137, log entry 220). What a lane has learned under a
run that was reverted leaves its drive and comes into no set-point (R476; DEDUCED, log entry 234). -/
def State.foldOf (s : State) (e : Nat) (l : Lane) (sh : Nat) : Lane × Int :=
  if !s.learnEn e || l.isol || s.flt.safe || l.spAt == some (l.cmd, s.clr.now) then (l, 0)
  else
    let t := asr l.i sh
    if s.cal.back.contains e then ({ l with i := l.i - t * 256, drv := l.drv - t }, 0)
    else
    let a := foldPart (s.sp e l.cmd) (s.spRef e l.cmd) (s.f SLV_LIM.LEARN_LIM [e / 256]) t
    ({ l with i := l.i - a * 256, sticky := if a ≠ t then l.sticky ||| stk 5 else l.sticky }, a)

/-- The set-point of the commanded slot moves by a, and a fold with a ≠ 0 is counted (R79). -/
def State.foldSp (s : State) (e : Nat) (a : Int) : State :=
  let k := (s.lane e).cmd
  if a = 0 then s else (s.setSp e k (s.sp e k + a)).bump .SLV_LRN_CNT [e / 256] 1

/-- The departure fold of R80, of a lane that leaves LOCKED; at the entry to P2, of every lane that it holds (R92). -/
def State.depart (s : State) (e : Nat) (all : Bool) : Lane × Int :=
  if all || (s.lane e).st == .locked then s.foldOf e (s.lane e) 8 else (s.lane e, 0)

/-! ### State changes that read the set-points -/

/-- Enters HOLD after the departure fold; the drive stays (R78, R80, R92). -/
def State.toHold (s : State) (e why : Nat) : State :=
  let x := s.depart e (why == 1)
  (s.foldSp e x.2).putLane e (x.1.hold why)

/-- Leaving HOLD or FAULT restarts the demodulator (R72). -/
def Lane.leave (l : Lane) (e : Nat) : Lane := if l.st = .hold ∨ l.st = .fault then l.redemod e else l

/-- Enters OFF after the departure fold; the integrator is cleared (R72, R80, R83). -/
def State.toOff (s : State) (e : Nat) : State :=
  let x := s.depart e false
  (s.foldSp e x.2).putLane e { x.1.leave e with st := .off, why := 0, i := 0, spAdj := 0 }

/-- A lane comes back to its loop by its class (R83). While P2 holds the cluster it enters HOLD (P2): R83 and R92 name the entry
to P2 only (DESIGN CHOICE, log entry 216). While its reference is not settled it takes the state of R83 until its next
frame (R109; DESIGN CHOICE, log entry 217). -/
def State.reenter (s : State) (e : Nat) : State :=
  let l0 := s.lane e
  let l := if l0.st = .off then { l0 with drv := s.sp e l0.cmd } else l0
  if (s.cl (e / 256)).p2 && (!isCuffE e || isEgressE e) && !(isCuffE e && l.cmd) then s.putLane e ((l.hold 1).redemod e)
  else s.putLane e (l.enter e)

/-! ### The loop update (R73, R74, R81, R96) -/

/-- The gain entry a lane uses for an error (R73). -/
def State.gainOf (s : State) (e : Nat) (err : Int) : Nat :=
  let b := s.bankOf e
  let idx := min 63 (err.natAbs >>> fget (4 * b) 4 (s.reg .SLV_LUTCFG [e / 256]))
  fget 0 16 (s.reg .LUT [e / 256, b, idx])

/-- Clamps an integrator to ±INT_LIMIT, setting ISAT_POS or ISAT_NEG (R73, R74, R81). -/
def Lane.limit (l : Lane) (lim i : Int) : Lane :=
  if lim < i then { l with i := lim, sticky := l.sticky ||| stk 0 }
  else if i < -lim then { l with i := -lim, sticky := l.sticky ||| stk 1 }
  else { l with i := i }

/-- Takes a set-point change that waits (R81): i is reduced by it, and the drive moves by what the integrator could
not absorb. -/
def State.takeSpAdj (s : State) (e : Nat) (l : Lane) : Lane :=
  if l.spAdj = 0 then l
  else
    let l1 := l.limit (s.intLim e) (l.i - l.spAdj * 256)
    { l1 with drv := l.drv + l.spAdj + (asr l1.i 8 - asr l.i 8), spAdj := 0 }

/-- The integrator after an update by d (R73, R96). Where a write has lowered INT_LIMIT below its magnitude, the update sets it to
the new limit with its sign and adds no d (R74; DEDUCED, log entry 175). -/
def Lane.addInt (l : Lane) (lim d : Int) : Lane := if lim < l.i.natAbs then l.limit lim l.i else l.limit lim (l.i + d)

/-- The integrator step of R73 or R96. -/
def State.integrate (s : State) (e : Nat) (l : Lane) : Lane :=
  let cuf := isCuffE e
  let err := if cuf then sat 16 ((l.tgt : Int) - (s.pin e - l.tap0.avg)) else l.e
  let g := s.gainOf e err
  let d0 := asr ((g : Int) * err * (s.div : Int)) 12
  let d1 := if cuf || s.polOf e then d0 else -d0
  let d := if (l.clampHi && decide (0 < d1)) || (l.clampLo && decide (d1 < 0)) then 0 else d1
  let lim := s.intLim e
  let l1 := l.addInt lim d
  let mag := err.natAbs
  let full := cuf || decide (l.fill = 125)
  { l1 with
    e := err
    drv := s.sp e l.cmd + asr l1.i 8
    lockRun := if decide (mag < s.f SLV_LOOP.LOCK_THR [e / 256]) && full then l.lockRun + 1 else 0
    unlockRun := if s.f SLV_LOOP.UNLOCK_THR [e / 256] ≤ mag then l.unlockRun + 1 else 0
    satRun := if l1.i = lim ∨ l1.i = -lim then l.satRun + 1 else 0 }

/-- A write of DAMP takes effect at the lane's next update; for a lane in PROFILE, at hand-over (R85). -/
def State.takeDamp (s : State) (e : Nat) : State :=
  let l := s.lane e
  if l.st = .profile ∨ l.damp = s.damp e then s else s.setLane e { l with damp := s.damp e }

/-- One lane at a loop update: disable first, then leaving OFF, then the set-point change, then the integrator
(R81, R83, R84, R85); integrator updates are discarded in the safe state and while isolated (R396, R398). -/
def State.loopLane (s : State) (e : Nat) : State :=
  let s1 := s.takeDamp e
  let l := s1.lane e
  if !s1.loopOn e then
    if l.st = .off ∨ l.st = .profile then s1 else s1.toOff e
  else if l.st = .off then (if l.prof.on then s1 else s1.reenter e)
  else if l.st = .profile then s1
  else
    let l1 := s1.takeSpAdj e l
    let l2 := if l.st.runs && !l.isol && !s1.flt.safe then s1.integrate e l1 else l1
    if l2 = l then s1 else s1.putLane e l2

/-- LOOP_UPDATE (R73, R91): one integrator update of every lane of a cluster; RUN takes effect. -/
def doLoopUpdate (c t : Nat) (s : State) : State :=
  let s1 := s.passTo t
  let s2 := if s1.folded then s1 else forLanes c State.loopLane s1
  s2.setCl c { s2.cl c with runAct := s1.fb SLV_CTRL.RUN [c] }

/-- Meaning of LOOP_UPDATE (R73). -/
def execLoopUpdate (c : Fin 144) (t : Nat) (s : State) : Host.Outcome State Fault Refusal := .next (doLoopUpdate c t s)

/-! ### Lock, unlock and faults (R83, R84, R89, R97) -/

/-- The class change to dark waits (R69, R84). -/
def State.darkDue (s : State) (e : Nat) : Bool :=
  !isCuffE e && (s.lane e).lit && decide (8 ≤ (s.lane e).darkRun)

/-- The integrator has stood at a limit for SAT_HOLD updates (R83). -/
def State.satDue (s : State) (e : Nat) : Bool :=
  (s.lane e).st.runs && decide (max 1 (s.f SLV_FAULT.SAT_HOLD [e / 256]) ≤ (s.lane e).satRun)

/-- The leak condition has held for LEAK_CNT microseconds (R89). -/
def State.leakDue (s : State) (e : Nat) : Bool :=
  !isCuffE e && (s.lane e).st.runs && decide (max 1 (s.f SLV_FAULT.LEAK_CNT [e / 256]) ≤ (s.lane e).leakRun)

/-- ACQUIRE has lasted ACQ_TIME × 8 µs (R83, R85). -/
def State.acqDue (s : State) (e : Nat) : Bool :=
  decide ((s.lane e).st = .acquire) && decide (s.f SLV_FAULT.ACQ_TIME [e / 256] ≠ 0)
    && decide (8 * s.f SLV_FAULT.ACQ_TIME [e / 256] ≤ (s.lane e).acq)

/-- A fault may be taken: no condition of higher priority holds (R84), the safe state puts no lane into FAULT (R400), and no
lane on a probe route that has had no light (R467). -/
def State.faultOk (s : State) (e : Nat) : Bool :=
  s.loopOn e && !s.darkDue e && !s.flt.safe && !s.probeDark e

/-- Enters FAULT; the drive stays and the sticky flags of `fl` are set (R83, R90). -/
def State.toFault (s : State) (e : Nat) (fl : BitVec 8) : State :=
  s.putLane e { s.lane e with st := .fault, why := 0, sticky := (s.lane e).sticky ||| fl }

/-- LOOP_LOCK (R83): ACQUIRE to LOCKED. -/
def doLoopLock (e t : Nat) (s : State) : State :=
  let s1 := s.passTo t
  let l := s1.lane e
  if l.st = .acquire ∧ max 1 (s1.f SLV_LOOP.LOCK_CNT [e / 256]) ≤ l.lockRun ∧ s1.loopOn e = true
      ∧ s1.darkDue e = false ∧ s1.satDue e = false ∧ s1.leakDue e = false ∧ s1.acqDue e = false then
    s1.putLane e { l with st := .locked, lockRun := 0, unlockRun := 0 }
  else s1

/-- Meaning of LOOP_LOCK (R83). -/
def execLoopLock (e : Fin 36864) (t : Nat) (s : State) : Host.Outcome State Fault Refusal := .next (doLoopLock e t s)

/-- LOOP_UNLOCK (R83): LOCKED to ACQUIRE with LOCK_LOST. -/
def doLoopUnlock (e t : Nat) (s : State) : State :=
  let s1 := s.passTo t
  let l := s1.lane e
  if l.st = .locked ∧ max 1 (s1.f SLV_LOOP.LOCK_CNT [e / 256]) ≤ l.unlockRun ∧ s1.loopOn e = true
      ∧ s1.darkDue e = false ∧ s1.satDue e = false ∧ s1.leakDue e = false then
    s1.putLane e { l.acquire with sticky := l.sticky ||| stk 4 }
  else s1

/-- Meaning of LOOP_UNLOCK (R83). -/
def execLoopUnlock (e : Fin 36864) (t : Nat) (s : State) : Host.Outcome State Fault Refusal :=
  .next (doLoopUnlock e t s)

/-- INTEGRATOR_SAT_FAULT (R83). -/
def doSatFault (e t : Nat) (s : State) : State :=
  let s1 := s.passTo t
  if s1.satDue e && s1.faultOk e then s1.toFault e 0 else s1

/-- Meaning of INTEGRATOR_SAT_FAULT (R83). -/
def execIntegratorSatFault (e : Fin 36864) (t : Nat) (s : State) : Host.Outcome State Fault Refusal :=
  .next (doSatFault e t s)

/-- LEAK_FAULT (R89). -/
def doLeakFault (e t : Nat) (s : State) : State :=
  let s1 := s.passTo t
  if s1.leakDue e && s1.faultOk e then s1.toFault e (stk 2) else s1

/-- Meaning of LEAK_FAULT (R89). -/
def execLeakFault (e : Fin 36864) (t : Nat) (s : State) : Host.Outcome State Fault Refusal := .next (doLeakFault e t s)

/-- ACQ_TIMEOUT (R83). -/
def doAcqTimeout (e t : Nat) (s : State) : State :=
  let s1 := s.passTo t
  if s1.acqDue e && s1.faultOk e then s1.toFault e (stk 3) else s1

/-- Meaning of ACQ_TIMEOUT (R83). -/
def execAcqTimeout (e : Fin 36864) (t : Nat) (s : State) : Host.Outcome State Fault Refusal :=
  .next (doAcqTimeout e t s)

/-! ### Light classes (R69, R83) -/

/-- LIGHT_CLASS_CHANGE (R69): after 8 microseconds the class changes, and with it the loop state (R83). While a profile runs
the lane keeps the class it held before the strobe (R139), and in P2 that from before the entry (R92). -/
def doLightClass (e t : Nat) (s : State) : State :=
  let s1 := s.passTo t
  let l := s1.lane e
  if isCuffE e || l.prof.on || (s1.cl (e / 256)).p2 then s1
  else if l.lit = false ∧ 8 ≤ l.litRun then
    let l1 := { l with lit := true, litRun := 0 }
    if l.st = .hold ∧ l.why = 0 then s1.putLane e l1.acquire.restart else s1.putLane e l1
  else if l.lit = true ∧ 8 ≤ l.darkRun then
    if l.st.runs then
      let x := s1.depart e false
      let s2 := (s1.foldSp e x.2).putLane e ({ x.1 with lit := false, darkRun := 0 }.hold 0)
      { s2 with cal := { s2.cal with back := s2.cal.back.filter (· ≠ e) } }
    else s1.putLane e { l with lit := false, darkRun := 0 }
  else s1

/-- Meaning of LIGHT_CLASS_CHANGE (R69). -/
def execLightClassChange (e : Fin 36864) (t : Nat) (s : State) : Host.Outcome State Fault Refusal :=
  .next (doLightClass e t s)

/-! ### Learning (R79) -/

/-- One lane at a learning tick: LOCKED lanes fold i >> (8 + LFRAC). -/
def State.learnLane (s : State) (e : Nat) : State :=
  if (s.lane e).st = .locked then
    let x := s.foldOf e (s.lane e) (8 + s.f SLV_LEARN.LFRAC [e / 256])
    (s.foldSp e x.2).putLane e x.1
  else s

/-- LEARNING_TICK (R79): every 2^LTICK µs since RUN was last set; the moment of the setting itself is none. -/
def doLearningTick (c t : Nat) (s : State) : State :=
  let s1 := s.passTo t
  if s1.fb SLV_CTRL.RUN [c] && !s1.folded && decide (0 < (s1.cl c).tick) && decide ((s1.cl c).tick % 2 ^ clampN 10 20 (s1.f SLV_LEARN.LTICK [c]) = 0)
  then forLanes c State.learnLane s1 else s1

/-- Meaning of LEARNING_TICK (R79). -/
def execLearningTick (c : Fin 144) (t : Nat) (s : State) : Host.Outcome State Fault Refusal :=
  .next (doLearningTick c t s)

/-! ### Host writes to a lane (R81, R70, R72, R83, R397) -/

/-- A write of a set-point slot (R81): stored; for the commanded slot of a lane in ACQUIRE, LOCKED, HOLD or FAULT the
change waits for the next update. The moment of the write is kept for a fold of the same cycle. -/
def doSetptWrite (e : Nat) (k : Bool) (v : Word) (s : State) : State :=
  let l := s.lane e
  let d := spCode e (fget 16 16 v) - s.sp e k
  let s1 := s.setReg .SETPT [e / 256, e % 256, b2n k] v
  if k = l.cmd ∧ (l.st.runs = true ∨ l.st = .hold ∨ l.st = .fault) then
    s1.setLane e { l with spAdj := l.spAdj + d, spAt := some (k, s.clr.now) }
  else s1.setLane e { l with spAt := some (k, s.clr.now) }

/-- Meaning of SETPT_WRITE (R81). -/
def execSetptWrite (e : Fin 36864) (k : Fin 2) (v : Word) (s : State) : Host.Outcome State Fault Refusal :=
  .next (s.hostWr .SETPT [e / 256, e % 256, k] (doSetptWrite e (decide (k = 1)) v))

/-- RESTART of one lane (R83, R397): discarded while an enabled sticky flag is set, and in the cycle of a transition start of the
lane (R85; log entry 215); else the isolation ends and the lane leaves FAULT. -/
def State.restartLane (s : State) (e : Nat) : State :=
  if s.stickyEn e || (s.lane e).tr.any (fun x => x.t0 == s.clr.now) then s
  else
    let s1 := s.setLane e { s.lane e with isol := false, rstAt := some (s.clr.now, (s.lane e).isol) }
    if (s.lane e).st = .fault then s1.reenter e else s1

/-- A write of LANE_CFG (R70, R72, R99): DFREQ is clamped to 19–56 on switching lanes; a change of DFREQ or DPH
restarts the demodulator; a host write ends the selection of gain bank 1 (R185); RESTART acts last. -/
def doLaneCfgWrite (e : Nat) (v : Word) (s : State) : State :=
  let ix := [e / 256, e % 256]
  let fq := s.f LANE_CFG.DFREQ ix
  let ph := s.f LANE_CFG.DPH ix
  let s0 := s.wrCodes .LANE_CFG ix v
  let s1 := { s0 with pth := { s0.pth with bank1 := s0.pth.bank1.filter (· ≠ e) } }
  let s2 := if isCuffE e then s1 else s1.setF LANE_CFG.DFREQ ix (clampN 19 56 (fget 10 6 v))
  let s3 := if (s2.f LANE_CFG.DFREQ ix ≠ fq ∨ s2.f LANE_CFG.DPH ix ≠ ph) ∧ isCuffE e = false
    then s2.setLane e (s2.lane e).restart else s2
  if bit 1 v then s3.restartLane e else s3

/-- Meaning of LANE_RESTART (R83): a write of LANE_CFG with RESTART. -/
def execLaneRestart (e : Fin 36864) (v : Word) (t : Nat) (s : State) : Host.Outcome State Fault Refusal :=
  .next (s.hostWr .LANE_CFG [e / 256, e % 256] (fun s => doLaneCfgWrite e (v ||| 2) (s.passTo t)))

/-- A write of SLV_CTRL (R75, R79, R83): RUN, LEARN and LUT_XOR are stored, a rise of RUN starts the learning ticks,
and RESTART_ALL restarts every lane of the cluster. -/
def doSlvCtrlWrite (c : Nat) (v : Word) (s : State) : State :=
  let run := s.fb SLV_CTRL.RUN [c]
  let s1 := s.wrCodes .SLV_CTRL [c] v
  let s2 := if !run && bit 0 v then s1.setCl c { s1.cl c with tick := 0 } else s1
  if bit 2 v then forLanes c State.restartLane s2 else s2

/-- Meaning of RESTART_ALL (R83): a write of SLV_CTRL with RESTART_ALL. -/
def execRestartAll (c : Fin 144) (v : Word) (t : Nat) (s : State) : Host.Outcome State Fault Refusal :=
  .next (s.hostWr .SLV_CTRL [c] (fun s => doSlvCtrlWrite c (v ||| 4) (s.passTo t)))

/-! ### The Cuff exchange (R95, R97) -/

/-- The Cuff hold conditions of R97 for an egress lane: exchange stale, or a power below CUF_FLOOR. -/
def State.cufHold (s : State) (e : Nat) : Option Nat :=
  let l := s.lane e
  if l.valid && s.exStale e then some 3
  else
    let fl := sgn 16 (s.f SLV_CUF.CUF_FLOOR [e / 256])
    if s.pin e < fl ∨ l.tap0.avg < fl then some 0 else none

/-- An egress Cuff lane follows its hold conditions (R97), also in P2, which takes only lanes in ACQUIRE, LOCKED and HOLD
(dark): a lane whose exchange word was stale at the entry keeps HOLD_WHY 3, and follows its word (DEDUCED, log entry 176). -/
def State.cufHoldLane (s : State) (e : Nat) : State :=
  let l := s.lane e
  if !isEgressE e then s
  else match s.cufHold e with
    | some w =>
      if l.st.runs then s.toHold e w
      else if l.st = .hold ∧ (l.why = 0 ∨ l.why = 3) ∧ l.why ≠ w then s.putLane e { l with why := w } else s
    | none => if l.st = .hold ∧ (l.why = 0 ∨ l.why = 3) then s.putLane e l.acquire else s

/-- An ingress Cuff lane sends its long average (R95). -/
def State.sendLane (s : State) (e : Nat) : State := s.setLane e { s.lane e with sent := (s.lane e).tap0.avg }

/-- An ingress Cuff cluster sends while RUN_ACT is 1, in P0 to P2 (R95). -/
def State.exchangeCl (s : State) (c : Nat) : State :=
  if (s.cl c).runAct && !s.folded then
    let s1 := forLanes c State.sendLane s
    s1.setCl c { s1.cl c with exFresh := true }
  else s

/-- The loop part of CUFF_EXCHANGE (R95): the ingress clusters send, the egress lanes see the fresh words. -/
def State.exchange (s : State) : State :=
  let s1 := [136, 137, 140, 141].foldl State.exchangeCl s
  [138, 139, 142, 143].foldl (fun s c => forLanes c State.cufHoldLane s) s1

/-- EXCHANGE_STALE (R95): the words of an ingress cluster pass 64 µs; the egress lanes of its plane that use them
enter HOLD. -/
def doExchangeStale (c t : Nat) (s : State) : State :=
  let s1 := s.passTo t
  if c = 136 ∨ c = 137 ∨ c = 140 ∨ c = 141 then
    let s2 := s1.setCl c { s1.cl c with exFresh := false }
    let b := if c < 140 then 138 else 142
    forLanes (b + 1) State.cufHoldLane (forLanes b State.cufHoldLane s2)
  else s1

/-- Meaning of EXCHANGE_STALE (R95). -/
def execExchangeStale (c : Fin 144) (t : Nat) (s : State) : Host.Outcome State Fault Refusal :=
  .next (doExchangeStale c t s)

end Sys2Proof.Machine
end

