-- ==== Sys2Proof/Machine/Conversion.lean ====
section
/-! DEFINITION. Monitor conversion and drive channels (R100 to R131): the conversion frame with power words, lit
classification, leak check, settle check, demodulator and Cuff averages; references; accumulators; drive updates,
tones and load strobes. -/
namespace Sys2Proof.Machine

/-! ### Conversions (R103, R106, R108 to R110) -/

/-- Key of the constants of a conversion channel (R103): cluster, channel, range, reference. -/
def convKey (c h : Nat) (hi : Bool) (ref : Nat) : Nat := ((c * 512 + h) * 2 + b2n hi) * 3 + ref

/-- The constants in force: those a calibration wrote, or the module's (R103). -/
def State.convConst (s : State) (c h : Nat) (hi : Bool) (ref : Nat) : CalConst :=
  sget ⟨Config.convOff (convKey c h hi ref), Config.convGain (convKey c h hi ref)⟩ s.cal.consts (convKey c h hi ref)

/-- The corrected code of a raw conversion (R103): offset, then gain in 1/65,536 rounded to the nearest code, clamped to
0–4,095. With VANA selected the gain is 1 (R110). The fixed point of the gain and its rounding are a DESIGN CHOICE (log
entry 9). -/
def State.correct (s : State) (c h : Nat) (hi : Bool) (ref raw : Nat) : Nat :=
  let k := s.convConst c h hi ref
  let x := (raw : Int) + k.off
  (clampI 0 4095 (if ref = 2 then x else asr (x * k.gain + 32768) 16)).toNat

/-- A conversion of this ADC is stale (R93, R101, R109, R110): reference not settled, VANA selected, range mode not by
role, or its calibration running. -/
def State.adcStale (s : State) (c a : Nat) : Bool :=
  !(s.cl c).settled a || decide (s.refSel c a = 2) || decide (s.f CNV_RANGE.RMODE [c] ≠ 0)
    || s.cal.busyAdc.contains (8 * c + a)

/-- The raw code of tap h in a frame: 0 where the frame lists none (log entry 10). -/
def rawOf (smp : List TapSample) (h : Nat) : Nat :=
  match smp.find? (fun x => x.h.val == h) with
  | some x => x.raw.val
  | none => 0

/-- The conversion of tap h in a frame (R105, R106). The conversion that a masked channel does not make has code 0 in the sum of
R104 (DESIGN CHOICE, log entry 178). -/
def State.convert (s : State) (c h : Nat) (hi : Bool) (smp : List TapSample) : Conv :=
  let a := h / 64
  if s.scanEn c a (h % 64) then
    ⟨s.correct c h hi (s.refSel c a) (rawOf smp h), hi, s.adcStale c a⟩
  else ⟨0, hi, true⟩

/-- Takes a conversion into a tap: overload (R102), the last 16 (R104), the power word, the long average (R94). With VANA
selected no word is formed, and the last one stays (R110; log entry 177). -/
def Tap.take (t : Tap) (en cuf vana : Bool) (tau : Nat) (k : Conv) : Tap :=
  let ov := en && k.hi && decide (k.code = 4095)
  let t1 := { t with
    ovl := t.ovl || ov
    lowRun := if ov then 0 else if t.ovl && !k.hi && en then (if k.code < 3 then t.lowRun + 1 else 0) else t.lowRun
    convs := (k :: t.convs).take 16 }
  let w := if vana then t.word else powerWord ((t1.convs.map Conv.hiCodes).foldl (· + ·) 0)
  { t1 with
    word := w
    avg := if cuf && !t1.stale then t.avg + asr (w - t.avg) tau else t.avg }

/-- The range by role of a tap in the next frame (R101, R102). -/
def nextHi (e : Nat) (cmd : Bool) (tap : Bool) (ovl : Bool) : Bool := !isCuffE e && (tap == !darkIs0 e cmd) && !ovl

/-- The range in which a tap converts: by RMODE, else the range by role it has in this frame (R101). -/
def State.rangeOf (s : State) (c : Nat) (hi : Bool) : Bool :=
  match s.f CNV_RANGE.RMODE [c] with
  | 1 => false
  | 2 => true
  | _ => hi && decide (c < 136)

/-! ### Settle decisions (R140, R142, R145) -/

/-- Time from the strobe at which the drive of a profile of N updates is final, in 1/3 ns (R140). -/
def driveFinal3 (e n : Nat) : Nat := (n - 1) * 250 + (if isCuffE e then 624 else 144)

/-- Takes one lane decision into the cluster's bookkeeping of its pattern (R145). -/
def ClTrans.decide (k : ClTrans) (r : LaneRes) (ns : Nat) : ClTrans :=
  let k1 := { k with open_ := k.open_ - 1 }
  match r with
  | .settled => { k1 with nSet := k.nSet + 1, tl := max k.tl ns, has := true }
  | .unobserved => { k1 with nUnobs := k.nUnobs + 1, tl := max k.tl ns, has := true }
  | .settleFail => { k1 with nFail := k.nFail + 1 }
  | .superseded => { k1 with nSup := k.nSup + 1 }
  | .aborted => { k1 with nAb := k.nAb + 1 }
  | _ => k1

/-- Records a decision for pattern `pat` in the cluster of lane e. -/
def State.clDecide (s : State) (e pat : Nat) (r : LaneRes) (ns : Nat) : State :=
  let c := e / 256
  let k := s.cl c
  s.setCl c { k with tr := k.tr.map fun x => if x.pat = pat then x.decide r ns else x }

/-- Takes a lane decision back (R148). -/
def ClTrans.undecide (k : ClTrans) (r : LaneRes) : ClTrans :=
  match r with
  | .settled => { k with open_ := k.open_ + 1, nSet := k.nSet - 1 }
  | .unobserved => { k with open_ := k.open_ + 1, nUnobs := k.nUnobs - 1 }
  | .settleFail => { k with open_ := k.open_ + 1, nFail := k.nFail - 1 }
  | _ => k

/-- A lane of pattern `pat`, decided `old` or not at all, is aborted (R148); a report that the cluster has written stands. -/
def State.clRedecide (s : State) (e pat : Nat) (old : LaneRes) : State :=
  let c := e / 256
  let k := s.cl c
  s.setCl c { k with tr := k.tr.map fun x => if x.pat = pat then (x.undecide old).decide .aborted 0 else x }

/-- Writes the profile-table record of a lane (R147, R152) and offers it to capture (R262). FRAME is the frame of decision modulo
16, and a Cuff lane whose drive is final after T+17 µs is recorded twice (log entry 222); FINAL of a record closed early is
the power word as it stands (log entry 223). -/
def State.writeMeas (s : State) (e : Nat) (tr : Trans) (len : Nat) (res : LaneRes) : State :=
  let ix := [e / 256, e % 256]
  let l := s.lane e
  let cuf := isCuffE e
  let fin := if cuf then 0 else (if darkIs0 e l.cmd then l.tap1.word else l.tap0.word)
  let peak := if cuf then 0 else tr.peakLeak
  let ovr := if cuf then 0 else (max 0 (tr.maxLit - fin)).toNat
  let s1 := s.setReg .PRF_LAST ix (wd (res.code * 2 ^ 28 + tr.df % 16 * 2 ^ 24 + len * 2 ^ 16 + min 65535 tr.tset))
  let s2 := s1.setReg .PRF_PWR ix (wd (low 16 fin * 2 ^ 16 + low 16 peak))
  let s3 := s2.setReg .PRF_MOVE ix (wd (min 65535 ovr * 2 ^ 16 + tr.dist))
  s3.offer 3 (e / 256) (e % 256) (wd tr.t0)
    [wd (tr.pat + res.code * 2 ^ 12 + tr.df % 16 * 2 ^ 16 + len * 2 ^ 24), wd (min 65535 tr.tset + tr.dist * 2 ^ 16),
     wd (low 16 peak + low 16 fin * 2 ^ 16), wd (min 65535 ovr)]

/-- A settle failure goes to the path service (R142, R179). -/
def State.failReport (s : State) (r : Report) : State :=
  State.icEdge { s with pth := { s.pth with reports := s.pth.reports ++ [r] } } (256 + r.e / 256)

/-- The lit tap of a probe lane has reached −45.00 dBm in the layer: a settle failure kept back is reported (R467). -/
def State.probeSeen (s : State) (e : Nat) : State :=
  let s1 : State := { s with cal := { s.cal with seen := e :: s.cal.seen, held := s.cal.held.filter fun r => r.e ≠ e } }
  (s.cal.held.filter fun r => r.e == e).foldl State.failReport s1

/-- SETTLE_DECISION (R140, R142): lane e is decided in frame f. A SETTLE_FAIL lane sets SETTLE_TO and is reported to
the path service; the report of a probe lane without light so far is kept until it has light (R467). -/
def State.decideLane (s : State) (e : Nat) (tr : Trans) (res : LaneRes) (f tset ns : Nat) : State :=
  let tr1 := { tr with res := res, df := f, tset := tset }
  let s1 := (s.setLane e { s.lane e with tr := some tr1 }).clDecide e tr.pat res ns
  let s2 := if tr.recd then (s1.writeMeas e tr1 (s.lane e).prof.len res).setLane e { s1.lane e with tr := if (s1.lane e).prof.on then some tr1 else none } else s1
  if res = .settleFail then
    let s3 := s2.raise TRN_EVT.SETTLE_TO [e / 256]
    let r : Report := ⟨e, 1, tr.pat, s3.clr.now, (s3.clr.now - tr.t0) / 1000⟩
    if s3.probeDark e then { s3 with cal := { s3.cal with held := s3.cal.held ++ [r] } } else s3.failReport r
  else s2

/-- The settle check of a lane in frame f (R140), from the conversions of that frame. A channel that SCAN_EN masks makes no
conversion; it counts as code 0, −128.00 dBm (DESIGN CHOICE, log entry 178). -/
def State.settleCheck (s : State) (e : Nat) (tr : Trans) : State :=
  let f := tr.f
  let l := s.lane e
  let n3 := driveFinal3 e l.prof.len
  if tr.res ≠ .progress then s
  else if isCuffE e then
    if n3 ≤ (f + 1) * 3000 then s.decideLane e tr (if tr.cal then .unobserved else .settled) f (ceilDiv (n3 * 64) 3000) (ceilDiv n3 3) else s
  else if f = 0 then s
  else
    let p0 := ((l.tap0.convs.head?).map Conv.power).getD (-32768)
    let p1 := ((l.tap1.convs.head?).map Conv.power).getD (-32768)
    let d0 := darkIs0 e l.cmd
    let lit := if d0 then p1 else p0
    let dark := if d0 then p0 else p1
    let dOvl := if d0 then l.tap0.ovl else l.tap1.ovl
    let fl := sgn 16 (s.f SET_CFG.SET_FLOOR [e / 256])
    let units := f * 64 + (e % 32) * 2 + 2
    if tr.cal = true ∨ (f = 1 ∧ p0 < fl ∧ p1 < fl) then s.decideLane e tr .unobserved 1 (ceilDiv (n3 * 64) 3000) (ceilDiv n3 3)
    else if fl ≤ lit ∧ dOvl = false ∧ dark ≤ lit - (s.f SET_CFG.SET_XT [e / 256] : Int) * 128 then
      s.decideLane e tr .settled f units (ceilDiv (units * 125) 8)
    else if max 1 (s.f SET_CFG.SET_FRAMES [e / 256]) ≤ f then s.decideLane e tr .settleFail f 0 0
    else s

/-- The measurement window of R147 and the frame count of a lane's transition. -/
def Lane.measure (l : Lane) (e : Nat) : Lane :=
  match l.tr with
  | none => l
  | some tr =>
    let p0 := ((l.tap0.convs.head?).map Conv.power).getD (-32768)
    let p1 := ((l.tap1.convs.head?).map Conv.power).getD (-32768)
    let d0 := darkIs0 e l.cmd
    let tr1 := if 1 ≤ tr.f ∧ tr.f ≤ 16 then
        { tr with peakLeak := max tr.peakLeak (if d0 then p0 else p1), maxLit := max tr.maxLit (if d0 then p1 else p0) }
      else tr
    { l with tr := some { tr1 with f := tr.f + 1 } }

/-! ### The lane in a frame -/

/-- The demodulator step of R72. -/
def Lane.demod (l : Lane) (x : Nat) : Lane :=
  let p := (x : Int) * l.ref
  let win := l.win + p - (if 125 ≤ l.hist.length then l.hist.getLastD 0 else 0)
  let fill := min 125 (l.fill + 1)
  { l with win := win, hist := (p :: l.hist).take 125, fill := fill,
           e := if fill < 125 then 0 else sat 16 (asr win 11) }

/-- The counts of the lit classification (R69); LIT_OFF not below LIT_ON counts as LIT_ON. -/
def Lane.classify (l : Lane) (on off : Int) : Lane :=
  let lo := if off < on then off else on
  { l with
    litRun := if on ≤ l.tap0.word ∨ on ≤ l.tap1.word then l.litRun + 1 else 0
    darkRun := if l.tap0.word < lo ∧ l.tap1.word < lo then l.darkRun + 1 else 0 }

/-- A class afresh from new power words (R93, R106). -/
def Lane.classAfresh (l : Lane) (on off : Int) : Lane :=
  let lo := if off < on then off else on
  { l with
    lit := if on ≤ l.tap0.word ∨ on ≤ l.tap1.word then true
           else if l.tap0.word < lo ∧ l.tap1.word < lo then false else l.lit
    litRun := 0, darkRun := 0 }

/-- A lane whose conversion path gives stale words enters HOLD (calibration) and is to be classed afresh (R93, R109). -/
def State.calHold (s : State) (e : Nat) : State :=
  let l := s.lane e
  let s1 := s.setLane e { l with fresh := true, litRun := 0, darkRun := 0 }
  if l.st.runs || (l.st == .hold && (l.why == 0 || l.why == 3)) then s1.toHold e 2 else s1

/-- The lanes of ADC a of cluster c are held (R109). -/
def State.calHoldAdc (s : State) (c a : Nat) : State :=
  (List.range 32).foldl (fun s j => State.calHold s (256 * c + 32 * a + j)) s

/-- The calibration hold of R93, R106 and R109, which a write of CNV_RANGE reaches in the next frame (R101; DESIGN CHOICE, log
entry 219): a lane with a stale power word is held, and is classed afresh when its words are free of stale conversions, after a
running profile (R139). -/
def State.calHoldLane (s : State) (e : Nat) : State :=
  let l := s.lane e
  let on := sgn 16 (s.f SLV_LIGHT.LIT_ON [e / 256])
  let off := sgn 16 (s.f SLV_LIGHT.LIT_OFF [e / 256])
  if l.tap0.stale || l.tap1.stale then s.calHold e
  else if l.fresh && !l.prof.on then
    let l1 := if isCuffE e then l else l.classAfresh on off
    let s1 := s.setLane e { l1 with fresh := false }
    if l.st = .hold ∧ l.why = 2 then s1.reenter e else s1
  else s

/-- One lane in a conversion frame (R68, R69, R72, R89, R94, R104, R105, R140). -/
def State.frameLane (smp : List TapSample) (s : State) (e : Nat) : State :=
  let c := e / 256
  let h := (e % 256) * 2
  let cuf := isCuffE e
  let l := s.lane e
  let tau := clampN 8 12 (s.f SLV_CUF.CUF_TAU [c])
  let k0 := s.convert c h (s.rangeOf c l.tap0.hi) smp
  let k1 := s.convert c (h + 1) (s.rangeOf c l.tap1.hi) smp
  let vana := decide (s.refSel c (h / 64) = 2)
  let t0 := l.tap0.take (s.scanEn c (h / 64) (h % 64)) cuf vana tau k0
  let t1 := l.tap1.take (s.scanEn c (h / 64) ((h + 1) % 64)) cuf vana tau k1
  let p2 := (s.cl c).p2
  let d0 := darkIs0 e l.cmd
  let dk := if d0 then k0 else k1
  let dOvl := if d0 then t0.ovl else t1.ovl
  let l1 := { l with tap0 := t0, tap1 := t1 }
  let l2 := if !cuf && l.st != .hold && !p2 && !dk.stale then l1.demod (if dOvl then 4095 else dk.code) else l1
  let l3 := if cuf || p2 || t0.stale || t1.stale then l2
    else if 0 < l.classIdle then { l2 with classIdle := l.classIdle - 1 }
    else if s.cal.lanes.contains e then { l2 with litRun := if l2.lit then 0 else l2.litRun + 1, darkRun := 0 }
    else l2.classify (sgn 16 (s.f SLV_LIGHT.LIT_ON [c])) (sgn 16 (s.f SLV_LIGHT.LIT_OFF [c]))
  let litW := if d0 then t1.word else t0.word
  let darkW := if d0 then t0.word else t1.word
  let leak := decide (litW - (s.f SLV_FAULT.LEAK_DB [c] : Int) * 128 ≤ darkW)
  let l4 := if cuf || !l.st.runs || !l.lit then { l3 with leakIdle := l.leakIdle - 1 }
    else if 0 < l.leakIdle then { l3 with leakIdle := l.leakIdle - 1, leakRun := 0 }
    else { l3 with leakRun := if leak then l.leakRun + 1 else 0 }
  let l5 := if l.st = .acquire then { l4 with acq := l.acq + 1 } else l4
  let s0 := if s.probeDark e && decide (-11520 ≤ litW) then s.probeSeen e else s
  let s1 := s0.setLane e l5
  let s2 := match l5.tr with
    | some tr => s1.settleCheck e tr
    | none => s1
  let s3 := s2.setLane e ((s2.lane e).measure e)
  let s4 := s3.calHoldLane e
  let s5 := s4.cufHoldLane e
  let l6 := s5.lane e
  s5.setLane e { l6 with
    tap0 := { l6.tap0 with hi := nextHi e l6.cmd false l6.tap0.ovl }
    tap1 := { l6.tap1 with hi := nextHi e l6.cmd true l6.tap1.ovl } }

/-! ### Accumulators (R111 to R116) -/

/-- The trigger source in force: of the running window, else the register (R113). -/
def State.accSrc (s : State) (c : Nat) : Nat :=
  if (s.cl c).eng.running then (s.cl c).eng.src else s.f ACC_CTRL.TRIG_SRC [c]

/-- A window starts at this frame boundary: FREE mode on a multiple of 2^K µs, or a triggered scan (R113, R114). -/
def State.accStart (s : State) (c t : Nat) : State :=
  let k := s.cl c
  let kk := min 20 (s.f ACC_CTRL.K [c])
  let src := s.f ACC_CTRL.TRIG_SRC [c]
  if k.eng.en && !k.eng.running && !k.eng.stopping &&
      (if src = 0 then decide (t / 1000 % 2 ^ kk = 0) else k.eng.startP) then
    s.setCl c { k with eng := { k.eng with running := true, startP := false, fi := 0, k := kk, src := src }, accs := [] }
  else s

/-- One conversion into its accumulator (R112). One that fails several conditions counts by the first of: its index in the
window, then mask or reference (STALE), then its range (SHORT) (DESIGN CHOICE, log entry 218). -/
def Acc.take (a : Acc) (en ref : Bool) (pick : Bool) (k : Conv) : Acc :=
  if !pick then a
  else if !en || !ref then { a with stale := true }
  else if k.hi ≠ a.hi then { a with short := true }
  else { a with sum := a.sum + k.code, cnt := a.cnt + 1, mn := min a.mn k.code, mx := max a.mx k.code }

/-- The accumulator of tap h takes the conversion of the frame; `hi0` is the range the tap had in this frame. -/
def State.accTap (smp : List TapSample) (c : Nat) (s : State) (h : Nat) : State :=
  let k := s.cl c
  let e := 256 * c + h / 2
  let tap := if h % 2 = 0 then (s.lane e).tap0 else (s.lane e).tap1
  let hi := s.rangeOf c tap.hi
  let cv := s.convert c h hi smp
  let a := h / 64
  let a0 := if k.eng.fi = 0 then Acc.start hi else sget (Acc.start hi) k.accs h
  let pick := decide (k.eng.k < 16) || decide (k.eng.fi % 2 ^ (k.eng.k - 15) = 0)
  let ref := k.settled a || decide (s.refSel c a = 2)
  s.setCl c { k with accs := sset k.accs h (a0.take (s.scanEn c a (h % 64)) ref pick cv) }

/-- The accumulators of a cluster in a frame. -/
def State.accFrame (s : State) (c t : Nat) (smp : List TapSample) : State :=
  let s1 := s.accStart c t
  if (s1.cl c).eng.running && decide ((s1.cl c).eng.fi < 2 ^ (s1.cl c).eng.k) then
    let s2 := (List.range 512).foldl (State.accTap smp c) s1
    let k := s2.cl c
    s2.setCl c { k with eng := { k.eng with fi := k.eng.fi + 1 } }
  else s1

/-- CONVERSION_FRAME (R105): one 1 µs frame of a cluster, at network time t. -/
def doConversionFrame (c t : Nat) (smp : List TapSample) (s : State) : State :=
  let s1 := s.passTo t
  if s1.folded then s1
  else
  let s2 := s1.accFrame c s1.clr.now smp
  let s3 := forLanes c (State.frameLane smp) s2
  let k := s3.cl c
  s3.setCl c { k with tick := if s3.fb SLV_CTRL.RUN [c] then k.tick + 1 else k.tick }

/-- Meaning of CONVERSION_FRAME (R105). -/
def execConversionFrame (c : Fin 144) (t : Nat) (smp : List TapSample) (s : State) :
    Host.Outcome State Fault Refusal := .next (doConversionFrame c t smp s)

/-- HI_RANGE_RETURN (R102): after 16 low LO conversions the tap returns to HI. -/
def doHiRangeReturn (e : Nat) (tap : Bool) (s : State) : State :=
  let l := s.lane e
  let x := if tap then l.tap1 else l.tap0
  if x.ovl = true ∧ 16 ≤ x.lowRun then
    let y := { x with ovl := false, lowRun := 0, hi := nextHi e l.cmd tap false }
    s.setLane e (if tap then { l with tap1 := y } else { l with tap0 := y })
  else s

/-- Meaning of HI_RANGE_RETURN (R102). -/
def execHiRangeReturn (e : Fin 36864) (tap : Bool) (s : State) : Host.Outcome State Fault Refusal :=
  .next (doHiRangeReturn e tap s)

/-! ### References (R107 to R110) -/

/-- One ADC of a write of CNV_REF: a field of 3 keeps its value; a change restarts the settle time (R108, R131). -/
def State.refSelect (c : Nat) (v : Word) (s : State) (a : Nat) : State :=
  let n := fget (2 * a) 2 v
  if n = 3 ∨ n = s.refSel c a then s
  else
    let s1 := s.setReg .CNV_REF [c] (fput (2 * a) 2 n (s.reg .CNV_REF [c]))
    (s1.setCl c { s1.cl c with adc := (s1.cl c).adc.set a ⟨false, true⟩ }).calHoldAdc c a

/-- REF_SELECT_WRITE (R108): a write of CNV_REF. -/
def doRefSelect (c : Nat) (v : Word) (s : State) : State := (List.range 8).foldl (State.refSelect c v) s

/-- Meaning of REF_SELECT_WRITE (R108). -/
def execRefSelectWrite (c : Fin 144) (v : Word) (s : State) : Host.Outcome State Fault Refusal :=
  .next (s.hostWr .CNV_REF [c] (doRefSelect c v))

/-- Sets REF_BAD of an ADC (R108). -/
def State.refBad (s : State) (c a : Nat) : State :=
  s.setF CNV_STATUS.REF_BAD [c] (s.f CNV_STATUS.REF_BAD [c] ||| 2 ^ a)

/-- REF_SETTLE_EXPIRY (R108): the settle time is over, or a later frame boundary finds the reference inside. -/
def doRefExpiry (c a : Nat) (inWin : Bool) (s : State) : State :=
  let k := s.cl c
  if k.settled a then s
  else if inWin then s.setCl c { k with adc := k.adc.set a ⟨true, false⟩ }
  else if (k.adc.getD a ⟨false, false⟩).settling then
    (s.setCl c { k with adc := k.adc.set a ⟨false, false⟩ }).refBad c a
  else s

/-- Meaning of REF_SETTLE_EXPIRY (R108). -/
def execRefSettleExpiry (c : Fin 144) (adc : Fin 8) (inWin : Bool) (s : State) : Host.Outcome State Fault Refusal :=
  .next (doRefExpiry c adc inWin s)

/-- REF_OUT_OF_WINDOW (R108): a settled reference leaves its window. -/
def doRefOut (c a : Nat) (s : State) : State :=
  let k := s.cl c
  if k.settled a then ((s.setCl c { k with adc := k.adc.set a ⟨false, false⟩ }).refBad c a).calHoldAdc c a else s

/-- Meaning of REF_OUT_OF_WINDOW (R108). -/
def execRefOutOfWindow (c : Fin 144) (adc : Fin 8) (s : State) : Host.Outcome State Fault Refusal :=
  .next (doRefOut c adc s)

/-- A write of CNV_STATUS (R12, R131): REF_BAD of an ADC whose reference is still outside its window sets again at once. -/
def State.cnvStatusWrite (s : State) (c : Nat) (v : Word) : State :=
  let bad := s.f CNV_STATUS.REF_BAD [c]
  let s1 := s.wrCodes .CNV_STATUS [c] v
  let out := (List.range 8).foldl (fun n a =>
    if bad.testBit a && (s.cl c).adc.getD a ⟨true, false⟩ == ⟨false, false⟩ then n ||| 2 ^ a else n) 0
  s1.setF CNV_STATUS.REF_BAD [c] (s1.f CNV_STATUS.REF_BAD [c] ||| out)

/-! ### Accumulator control (R113 to R116) -/

/-- The RW fields of a write of ACC_CTRL, K clamped to 20 (R131). -/
def State.accCtrl (s : State) (c : Nat) (v : Word) : State :=
  (s.wrCodes .ACC_CTRL [c] v).setF ACC_CTRL.K [c] (min 20 (fget 0 5 v))

/-- A write of ACC_CTRL (R115): ACC_EN = 1 starts or is deferred, 0 stops or cancels. -/
def doAccCtrl (c : Nat) (v : Word) (s : State) : State :=
  let s1 := s.accCtrl c v
  let k := s1.cl c
  let g := k.eng
  if bit 16 v then
    if g.stopping then s1.setCl c { k with eng := { g with enPend := true } }
    else s1.setCl c { k with eng := { g with en := true } }
  else if g.stopping then s1.setCl c { k with eng := { g with enPend := false } }
  else if g.en then s1.setCl c { k with eng := { g with stopping := true } }
  else s1

/-- Meaning of ACC_ENABLE (R115): a write of ACC_CTRL with ACC_EN = 1. -/
def execAccEnable (c : Fin 144) (v : Word) (s : State) : Host.Outcome State Fault Refusal :=
  .next (s.hostWr .ACC_CTRL [c] (doAccCtrl c (v ||| 0x10000)))

/-- Meaning of ACC_STOP (R115): a write of ACC_CTRL with ACC_EN = 0. -/
def execAccStop (c : Fin 144) (v : Word) (s : State) : Host.Outcome State Fault Refusal :=
  .next (s.hostWr .ACC_CTRL [c] (doAccCtrl c (v &&& 0xFFFEFFFF)))

/-- ACC_STOP_DONE (R115): at the frame boundary the window is discarded and a deferred enable takes effect. -/
def doAccStopDone (c : Nat) (s : State) : State :=
  let k := s.cl c
  if k.eng.stopping then
    let g := { k.eng with en := k.eng.enPend, enPend := false, stopping := false, running := false }
    s.setCl c { k with accs := [], eng := { g with latched := false, startP := false, fi := 0 } }
  else s

/-- Meaning of ACC_STOP_DONE (R115). -/
def execAccStopDone (c : Fin 144) (s : State) : Host.Outcome State Fault Refusal := .next (doAccStopDone c s)

/-- A trigger is taken against the state of the scans (R114). One that comes with a trigger latched counts an overrun whether the
scan runs or is about to start (DESIGN CHOICE, log entry 221). -/
def State.accTake (s : State) (c : Nat) : State :=
  let k := s.cl c
  if k.eng.latched then s.bump .ACC_OVR [c] 1
  else if k.eng.running || k.eng.startP then s.setCl c { k with eng := { k.eng with latched := true } }
  else s.setCl c { k with eng := { k.eng with startP := true } }

/-- A trigger arrives at the accumulators of a cluster (R114); `strobe` tells a slot strobe from a host write, by its bit of
TRIG_SRC. A host write and a slot strobe at one network time are the triggers of one cycle and count as one (log entry 31). -/
def State.accTrigger (s : State) (c : Nat) (strobe : Bool) : State :=
  let k := s.cl c
  let g := k.eng
  if !g.en || !(s.accSrc c).testBit (b2n strobe) then s
  else if (if strobe then g.hostAt else g.strobeAt) = some s.clr.now then
    s.setCl c { k with eng := { g with hostAt := none, strobeAt := none } }
  else
    let g1 := if strobe then { g with hostAt := none, strobeAt := some s.clr.now }
      else { g with hostAt := some s.clr.now, strobeAt := none }
    (s.setCl c { k with eng := g1 }).accTake c

/-- Meaning of ACC_TRIGGER (R114): a host write of ACC_TRIG.TRIG. -/
def execAccTrigger (c : Fin 144) (s : State) : Host.Outcome State Fault Refusal :=
  .next (s.hostWr .ACC_TRIG [c] (fun s => s.accTrigger c false))

/-- Publishes the accumulator of tap h and compares its threshold (R112, R113, R116). -/
def State.accPublish (c : Nat) (s : State) (h : Nat) : State :=
  let a := sget (Acc.start false) (s.cl c).accs h
  let s1 := s.setReg .ACC_SUM [c, h] (wd a.sum)
  let s2 := s1.setReg .ACC_CNT [c, h] (wd (a.cnt + b2n a.stale * 2 ^ 16 + b2n a.hi * 2 ^ 17 + b2n a.short * 2 ^ 18))
  let s3 := s2.setReg .ACC_MM [c, h] (wd (a.mn + a.mx * 2 ^ 16))
  if s3.fb ACC_THR.THR_EN [c, h] && decide (0 < a.cnt) then
    let ab := decide (s3.f ACC_THR.THR [c, h] * a.cnt ≤ a.sum)
    if ab = s3.fb ACC_THR.ABOVE [c, h] then s3
    else
      (s3.setF ACC_THR.ABOVE [c, h] (b2n ab)).offer 1 c h s3.tag
        [wd a.sum, wd (a.cnt + b2n a.hi * 2 ^ 16 + b2n a.stale * 2 ^ 17 + b2n a.short * 2 ^ 18 + b2n ab * 2 ^ 24),
         wd (a.mn + a.mx * 2 ^ 16), wd (s3.f ACC_THR.THR [c, h])]
  else s3

/-- ACC_WINDOW_END (R113, R114, R116): all 512 accumulators publish, SCANS counts, a latched trigger starts its scan. -/
def doAccWindowEnd (c t : Nat) (s : State) : State :=
  let s1 := s.passTo t
  let g := (s1.cl c).eng
  if g.running && !g.stopping && decide (g.fi = 2 ^ g.k) then
    let s2 := (List.range 512).foldl (State.accPublish c) s1
    let s3 := s2.setF ACC_STATUS.SCANS [c] (s2.f ACC_STATUS.SCANS [c] + 1)
    let k := s3.cl c
    let g1 := { k.eng with running := false, fi := 0, startP := k.eng.latched, latched := false }
    s3.setCl c { k with accs := [], eng := g1 }
  else s1

/-- Meaning of ACC_WINDOW_END (R113). -/
def execAccWindowEnd (c : Fin 144) (t : Nat) (s : State) : Host.Outcome State Fault Refusal :=
  .next (doAccWindowEnd c t s)

/-! ### Tones (R123 to R127) -/

/-- FREQ of R125. -/
def State.toneFreq (s : State) (e : Nat) : Nat :=
  if isCuffE e then (if isEgressE e then 0 else 10000 + 100 * portE e) else 8000 * s.dfreq e

/-- Whether the tone of a lane is to be on (R125), with the DAMP in effect (R85). -/
def Lane.toneWant (l : Lane) (e : Nat) : Bool :=
  if isCuffE e then decide (l.st = .atten)
  else decide (l.st ≠ .off) && !(l.st == .hold && l.why == 1) && decide (0 < l.damp)

/-- AMP and ASH that a lane is to have (R125). -/
def Lane.ampWant (l : Lane) (e : Nat) : Nat × Nat :=
  if isCuffE e then (if isEgressE e then (0, 0) else (l.tagAmp, l.tagAsh)) else (l.damp, 1)

/-- The quarter of the cycle of a phase (R124). -/
def quad (acc : Nat) : Nat := acc / 2 ^ 22 % 4

/-- The signed table value at a phase (R124). -/
def State.toneVal (s : State) (c acc : Nat) : Int :=
  let ph := acc / 2 ^ 12
  let q := quad acc
  let idx := if q % 2 = 1 then 1023 - ph % 1024 else ph % 1024
  let v : Int := s.f TONE_TAB.VAL [c, idx]
  if 2 ≤ q then -v else v

/-- The tone of a lane (R124). -/
def State.tone (s : State) (e : Nat) (l : Lane) : Int :=
  if l.on then asr (s.toneVal (e / 256) l.acc * l.amp * (2 ^ l.ash : Nat) + 16384) 15 else 0

/-! ### Drive update (R118, R129, R136) -/

/-- DRV_HI and DRV_LO of a cluster (R131). -/
def State.drvLims (s : State) (e : Nat) : Int × Int :=
  (spCode e (s.f DRV_LIM.DRV_LO [e / 256]), spCode e (s.f DRV_LIM.DRV_HI [e / 256]))

/-- The output of a lane from its loaded value and its tone (R118, R121): the code and the clamps, among them the clamp of a
Cuff loop's value to its code range (R74, R96); 0 in P3 and P4 (R425). -/
def State.driveOut (s : State) (e : Nat) (l : Lane) : Lane :=
  let x := l.loaded + s.tone e l
  let lim := s.drvLims e
  let cl := isCuffE e && l.st.loopDrive
  let hi := decide (lim.2 < x) || (cl && decide (65535 < l.drv))
  let lo := decide (x < lim.1) || (cl && decide (l.drv < 0))
  let y := if lim.2 < x then lim.2 else if x < lim.1 then lim.1 else x
  { l with
    clampHi := hi, clampLo := lo
    sticky := if hi || lo then l.sticky ||| stk 6 else l.sticky
    out := if (s.cl (e / 256)).safe || l.isol || !s.fb DRV_CTRL.OUT_EN [e / 256] || s.folded
      then 0 else y }

/-- The source of a load-strobe group takes this strobe (R129). -/
def State.lsgTakes (s : State) (c g : Nat) (host : Bool) : Bool :=
  let src := fget (2 * (g - 1)) 2 (s.reg .LSG_CTRL [c])
  if host then src = 0 || src = 2 else src = 1 || src = 2

/-- Group g of cluster c loads at this update (R129). -/
def State.lsgFires (s : State) (c g : Nat) : Bool :=
  (s.cl c).ldP.testBit g || ((s.cl c).slotP && s.lsgTakes c g false)

/-- The update in a frame at which the dark tap of a lane converts (R105, R133): channel × 15.625 ns. -/
def darkUpd (e : Nat) (cmd : Bool) : Nat := ((e % 32) * 2 + (if darkIs0 e cmd then 0 else 1)) * 3 / 16

/-- One lane at a drive update (R118, R123, R129, R136). -/
def State.driveLane (s : State) (e : Nat) : State :=
  let c := e / 256
  let l := s.lane e
  let buf := s.nextBuf e l
  let g := s.f DRV_LCTL.LSG [c, e % 256]
  let loads := decide (g = 0) || decide (l.st ≠ .off) || l.prof.on || s.lsgFires c g
  let n := s.toneFreq e * 16777216 + l.rem
  let acc := (l.acc + n / 12000000) % 16777216
  let l1 := { l with
    buf := buf
    loaded := if loads then buf else l.loaded
    prof := if l.stepping then { l.prof with n := l.prof.n + 1 } else l.prof
    acc := acc, rem := n % 12000000
    zc := (quad l.acc == 1 && quad acc == 2) || (quad l.acc == 3 && quad acc == 0) }
  let l2 := if !isCuffE e && decide ((s.cl c).upd = darkUpd e l.cmd)
    then { l1 with ref := asr (s.toneVal c ((acc + s.dphOf e * 2 ^ 16) % 16777216)) 4 } else l1
  s.putLaneBuf e (s.driveOut e l2) buf

/-- DRIVE_UPDATE (R118): one 12 MHz update of a cluster; load events are set and the strobes are spent (R129). The bit of a
group is set by each strobe that it takes, whether or not a lane of the group loads (DEDUCED, log entry 179). -/
def doDriveUpdate (c t : Nat) (s : State) : State :=
  let s1 := s.passTo t
  let ev := (if s1.lsgFires c 1 then 1 else 0) + (if s1.lsgFires c 2 then 2 else 0) + (if s1.lsgFires c 3 then 4 else 0)
  let s2 := forLanes c State.driveLane s1
  let s3 := s2.setF LSG_EVT.DONE [c] (s2.f LSG_EVT.DONE [c] ||| ev)
  let k := s3.cl c
  s3.setCl c { k with upd := (k.upd + 1) % 12, ldP := 0, slotP := false }

/-- Meaning of DRIVE_UPDATE (R118). -/
def execDriveUpdate (c : Fin 144) (t : Nat) (s : State) : Host.Outcome State Fault Refusal :=
  .next (doDriveUpdate c t s)

/-- TONE_ZERO_CROSSING (R126, R127): at a zero crossing, a pending switch, amplitude change or inversion takes
effect. -/
def doToneZeroCrossing (e : Nat) (s : State) : State :=
  let l := s.lane e
  if l.zc then
    let w := l.ampWant e
    let l1 := { l with
      on := l.toneWant e, amp := w.1, ash := w.2
      acc := if l.invP then (l.acc + 0x800000) % 16777216 else l.acc
      invP := false, zc := false }
    s.putLaneBuf e (s.driveOut e l1) l.buf
  else s

/-- Meaning of TONE_ZERO_CROSSING (R126). -/
def execToneZeroCrossing (e : Fin 36864) (s : State) : Host.Outcome State Fault Refusal :=
  .next (doToneZeroCrossing e s)

/-- OVC_DETECT (R120): an output limit held for 200 ns; not while the high-voltage supplies are out of limits
(R122). -/
def doOvcDetect (e t : Nat) (s : State) : State :=
  let s1 := s.passTo t
  if s1.sys.hvOk then s1.putLaneBuf e { s1.lane e with sticky := (s1.lane e).sticky ||| stk 7 } (s1.lane e).buf else s1

/-- Meaning of OVC_DETECT (R120). -/
def execOvcDetect (e : Fin 36864) (t : Nat) (s : State) : Host.Outcome State Fault Refusal := .next (doOvcDetect e t s)

/-- The flags of LANE_STAT whose cause is present: the integrator at a limit, the drive clamped (R73, R74, R99). -/
def State.laneCause (s : State) (e : Nat) (l : Lane) : BitVec 8 :=
  (if s.intLim e ≤ l.i then stk 0 else 0) ||| (if l.i ≤ -s.intLim e then stk 1 else 0)
    ||| (if l.clampHi || l.clampLo then stk 6 else 0)

/-- A write of LANE_STAT (R12, R99): a flag whose cause is still present sets again at once. -/
def State.laneStatWrite (s : State) (e : Nat) (v : Word) : State :=
  let l := s.lane e
  let l1 := { l with sticky := l.sticky &&& ~~~ (v.setWidth 8) }
  (s.setLane e l1).putLaneBuf e { l1 with sticky := l1.sticky ||| (l.sticky &&& s.laneCause e l) } l.buf

/-- LSG_HOST_LOAD (R129): a write of LSG_LOAD; bit g acts at the next update if SRCg selects the host. -/
def doLsgLoad (c : Nat) (v : Word) (s : State) : State :=
  let k := s.cl c
  let m := (if bit 1 v && s.lsgTakes c 1 true then 2 else 0) ||| (if bit 2 v && s.lsgTakes c 2 true then 4 else 0)
    ||| (if bit 3 v && s.lsgTakes c 3 true then 8 else 0)
  s.setCl c { k with ldP := k.ldP ||| m }

/-- Meaning of LSG_HOST_LOAD (R129). -/
def execLsgHostLoad (c : Fin 144) (v : Word) (s : State) : Host.Outcome State Fault Refusal :=
  .next (s.hostWr .LSG_LOAD [c] (doLsgLoad c v))

/-- DRV_LIM_WRITE (R131): refused with LIM_REJ when DRV_LO would lie above DRV_HI. -/
def doDrvLim (c : Nat) (v : Word) (s : State) : State :=
  if spCode (256 * c) (fget 16 16 v) < spCode (256 * c) (fget 0 16 v) then s.raise DRV_STATUS.LIM_REJ [c]
  else s.setReg .DRV_LIM [c] v

/-- Meaning of DRV_LIM_WRITE (R131). -/
def execDrvLimWrite (c : Fin 144) (v : Word) (s : State) : Host.Outcome State Fault Refusal :=
  .next (s.hostWr .DRV_LIM [c] (doDrvLim c v))

end Sys2Proof.Machine
end

