-- ==== Sys2Proof/Machine/Transition.lean ====
section
/-! DEFINITION. Transitions and settling (R132 to R153): the start of a lane's transition, its length, the hand-over,
superseding and aborting, cluster reports and measurement records. -/
namespace Sys2Proof.Machine

/-! ### Profile length (R135) -/

/-- The limits of R135 hold for N updates over the distance d. -/
def profFits (d vmax amax jmax n : Nat) : Bool :=
  decide (2 * d ≤ vmax * n) && decide (8 * d ≤ amax * n ^ 2) && decide (32 * d ≤ jmax * n ^ 3)

/-- The smallest N from n upwards that fits, within k further tries. -/
def profFind (d vmax amax jmax : Nat) : Nat → Nat → Option Nat
  | 0, _ => none
  | k + 1, n => if profFits d vmax amax jmax n then some n else profFind d vmax amax jmax k (n + 1)

/-- N of a lane for distance d with limit set ls, and whether it was capped at 240 (R135). A limit of 0 counts as 1
(R151). -/
def State.profLen (s : State) (c ls d : Nat) : Nat × Bool :=
  let nmin := max 1 (s.f PRF_LIM_B.NMIN [c, ls])
  match profFind d (max 1 (s.f PRF_LIM_B.VMAX [c, ls])) (max 1 (s.f PRF_LIM_A.AMAX [c, ls]))
      (max 1 (s.f PRF_LIM_A.JMAX [c, ls])) (241 - nmin) nmin with
  | some n => (n, false)
  | none => (240, true)

/-! ### Superseding and aborting (R148) -/

/-- The result of a record that is already written changes (R148). -/
def State.reResult (s : State) (e : Nat) (r : LaneRes) : State := s.setF PRF_LAST.RESULT [e / 256, e % 256] r.code

/-- An earlier transition of the lane ends because a strobe reaches it (R148). -/
def State.supersede (s : State) (e : Nat) : State :=
  let l := s.lane e
  match l.tr with
  | none => s
  | some tr =>
    let s1 := (s.raise TRN_EVT.SUPERSEDED [e / 256])
    let s2 := if tr.res = .progress then s1.clDecide e tr.pat .superseded 0 else s1
    let s3 := if tr.recd then s2.reResult e .superseded else s2.writeMeas e tr l.prof.len .superseded
    s3.setLane e { s3.lane e with tr := none }

/-- The transition of a lane is aborted by the safe state or by isolation during its profile or its check (R148): the profile
runs on, no check. A lane that was decided while its profile runs is counted anew. -/
def State.abortLane (s : State) (e : Nat) : State :=
  let l := s.lane e
  match l.tr with
  | some tr =>
    if tr.res = .aborted ∨ (tr.res ≠ .progress ∧ l.prof.on = false) then s
    else
      let s1 := (s.setLane e { l with tr := some { tr with res := .aborted } }).clRedecide e tr.pat tr.res
      if tr.recd then s1.reResult e .aborted else s1
  | none => s

/-! ### Transition start (R132, R135) -/

/-- The bookkeeping of a pattern in its cluster gains a taking-part lane (R145). -/
def Cluster.joinTrans (k : Cluster) (pat t0 : Nat) : Cluster :=
  if k.tr.any (fun x => x.pat == pat) then
    { k with lastPat := pat, tr := k.tr.map fun x => if x.pat = pat then { x with open_ := x.open_ + 1 } else x }
  else { k with lastPat := pat, tr := k.tr ++ [⟨pat, t0, 1, 0, 0, 0, 0, 0, 0, false⟩] }

/-- A strobe meets the calibration step of an ADC (R476): it is to be abandoned once every lane of the strobe is started. The
window of CAL_OPT is one step of all ADCs of a cluster. -/
def State.calMeet (s : State) (key : Nat) : State :=
  if s.cal.again.contains key then s
  else
    let c := key / 8
    let l := if (sfind s.cal.rmodes c).isSome then s.cal.busyAdc.filter fun k => k / 8 = c else [key]
    { s with cal := { s.cal with again := s.cal.again ++ l } }

/-- A calibration step that a strobe meets is abandoned (R476): its hold ends, and REF_SEL or RMODE returns. -/
def State.calAbandon (s : State) (key : Nat) : State :=
  let k := s.cal
  let s0 : State := { s with cal := { k with busyAdc := k.busyAdc.erase key } }
  let s1 := match sfind k.rmodes (key / 8) with
    | some r => s0.setF CNV_RANGE.RMODE [key / 8] r
    | none => s0
  match sfind k.refs key with
  | some r => State.refSelect (key / 8) (wd (r * 4 ^ (key % 8))) s1 (key % 8)
  | none => s1

/-- The steps that the strobe has met are abandoned (R476). -/
def State.calAbandonMet (s : State) : State := (s.cal.busyAdc.filter s.cal.again.contains).foldl State.calAbandon s

/-- The steps of a cluster that were abandoned restart once the cluster has written its collector slot (R476). -/
def State.calAgain (s : State) (c : Nat) : State :=
  (s.cal.again.filter fun k => k / 8 = c).foldl (fun (s : State) key =>
    let s0 : State := { s with cal := { s.cal with busyAdc := s.cal.busyAdc ++ [key], again := s.cal.again.erase key } }
    let s1 := (if (sfind s.cal.rmodes c).isSome then s0.setF CNV_RANGE.RMODE [c] 2 else s0).calHoldAdc c (key % 8)
    if (sfind s.cal.refs key).isSome then State.refSelect c (wd (4 ^ (key % 8))) s1 (key % 8) else s1) s

/-- The drive a lane moves to when its slot becomes `slot` (R94, R135). -/
def State.slotDrive (s : State) (e : Nat) (slot : Bool) : Int :=
  if isCuffE e && slot && !s.fb CUF_CTRL.IDLE_BLOCK [] then 0 else s.sp e slot

/-- TRANSITION_START (R135): lane e leaves for slot `slot` of pattern `pat`, at the strobe at network time t0. A lane
whose commanded slot is unchanged is not touched (R132). A fault that is due sets its flag and is not taken (R84), and a RESTART
of the same cycle is undone (R85). -/
def State.startTrans (s : State) (pat t0 e : Nat) (slot : Bool) : State :=
  if (s.lane e).cmd = slot then s
  else
    let c := e / 256
    let s0 := s.supersede e
    let x := s0.depart e false
    let s1 := s0.foldSp e x.2
    let l := x.1
    let due := (if s.leakDue e && s.faultOk e then stk 2 else 0) ||| (if s.acqDue e && s.faultOk e then stk 3 else 0)
    let tgt := s1.slotDrive e slot
    let d := (tgt - l.buf).natAbs
    let ls := if slot then s1.f PRF_CFG.LSET1 [c, e % 256] else s1.f PRF_CFG.LSET0 [c, e % 256]
    let n := s1.profLen c ls d
    let iso := match l.rstAt with
      | some x => if x.1 = s.clr.now then x.2 else l.isol
      | none => l.isol
    let cut := iso || s1.flt.safe
    let key := 8 * c + e % 256 / 32
    let busy := s1.cal.busyAdc.contains key
    let tr : Trans := ⟨pat, t0, 0, .progress, 0, 0, min 65535 d, false,
      (s.lane e).tr.isSome, -32768, -32768, busy⟩
    let l1 := { l.leave e with
      cmd := slot, isol := iso, rstAt := none
      st := if l.st = .off then .off else .profile
      why := 0, i := 0, spAdj := 0, sticky := l.sticky ||| due
      tap0 := { l.tap0 with ovl := false, lowRun := 0 }
      tap1 := { l.tap1 with ovl := false, lowRun := 0 }
      prof := ⟨true, 0, n.1, l.buf, tgt⟩
      tr := some tr }
    let s2 := s1.putLane e l1
    let s4 := if n.2 then s2.raise TRN_EVT.LIM_CAP [c] else s2
    let s5 := if 10 < n.1 then s4.raise TRN_EVT.LONG [c] else s4
    let s6 := s5.bump .TRN_CNT [c] 1
    let s7 := s6.setCl c ((s6.cl c).joinTrans pat t0)
    let s8 := if busy then s7.calMeet key else s7
    if cut then s8.abortLane e else s8

/-- PRF_LAST of a lane (R148, R152): in progress while the transition is open, but for a record that its strobe closed, which
stands until the first update of the new profile (DEDUCED, log entry 180). -/
def State.prfLast (s : State) (e : Nat) : Word :=
  let l := s.lane e
  match l.tr with
  | some tr =>
    if tr.recd || (tr.sup && l.prof.on && l.prof.n == 0) then s.reg .PRF_LAST [e / 256, e % 256]
    else wd (6 * 2 ^ 28 + l.prof.len * 2 ^ 16)
  | none => s.reg .PRF_LAST [e / 256, e % 256]

/-! ### Hand-over (R83, R97, R139) -/

/-- The long averages of an egress Cuff lane that enters ACQUIRE start at the current power words (R97). -/
def Lane.freshAvg (l : Lane) (e : Nat) : Lane :=
  if isEgressE e && !l.cmd then
    { l with tap0 := { l.tap0 with avg := l.tap0.word }, tap1 := { l.tap1 with avg := l.tap1.word } }
  else l

/-- HAND_OVER (R139): at update N the lane takes its state; a set-point write during the profile is taken up by the
integrator (R81). A lane that was OFF stays OFF; one disabled during the profile enters OFF (R85). -/
def doHandOver (e t : Nat) (s : State) : State :=
  let s1 := s.passTo t
  let l := s1.lane e
  if !l.prof.on || decide (l.prof.n < l.prof.len) then s1
  else
    let l1 := { l.redemod e with
      prof := { l.prof with on := false }, leakIdle := 16, damp := s1.damp e
      tr := l.tr.filter fun x => !x.recd || x.res == .progress }
    if l.st = .off then s1.putLane e l1
    else if !s1.loopOn e then s1.putLane e { l1 with st := .off, i := 0, why := 0 }
    else
      let sp := s1.slotDrive e l.cmd
      let l2 := l1.limit (s1.intLim e) ((l.prof.tgt - sp) * 256)
      s1.putLane e (({ l2 with drv := sp + asr l2.i 8 }.freshAvg e).enter e)

/-- Meaning of HAND_OVER (R139). -/
def execHandOver (e : Fin 36864) (t : Nat) (s : State) : Host.Outcome State Fault Refusal := .next (doHandOver e t s)

/-! ### Reports (R145, R146) and records (R147) -/

/-- The result of a cluster for a pattern (R145). -/
def ClTrans.result (k : ClTrans) : ColRes :=
  if 0 < k.nAb then .aborted else if 0 < k.nSup then .superseded else if 0 < k.nFail then .failed else .complete

/-- Merges a slot write into the entry of its pattern (R146). -/
def ColEnt.merge (x : ColEnt) (c : Nat) (k : ClTrans) : ColEnt :=
  { x with
    wait := x.wait.filter (· ≠ c)
    res := x.res.worse k.result
    nUnobs := x.nUnobs + k.nUnobs
    nFail := x.nFail + k.nFail
    tl := max x.tl k.tl
    has := x.has || k.has }

/-- CLUSTER_REPORT (R145): once every taking-part lane is decided, or one is superseded, the cluster writes its
collector slot. -/
def doClusterReport (c pat : Nat) (s : State) : State :=
  match (s.cl c).tr.find? (fun x => x.pat == pat) with
  | none => s
  | some k =>
    if k.open_ ≠ 0 ∧ k.nSup = 0 then s
    else
      let tl := if k.has then wd (k.t0 + k.tl) else 0
      let r := k.result.code
      let s1 := s.setReg .TRN_RESULT [c] (wd (r * 2 ^ 30 + k.nFail * 2 ^ 18 + k.nUnobs * 2 ^ 9 + k.nSet))
      let s2 := s1.setReg .TRN_TIME [c] tl
      let s3 := s2.setReg .COL_SLOT_A [c] (wd (pat * 2 ^ 22 + r * 2 ^ 20 + k.nUnobs * 2 ^ 9 + k.nFail))
      let s4 := s3.setReg .COL_SLOT_B [c] tl
      let s5 := s4.setCl c { s4.cl c with tr := (s4.cl c).tr.filter (fun x => x.pat ≠ pat) }
      State.calAgain (State.icEdge { s5 with col := s5.col.map fun x => if x.pat = pat then x.merge c k else x } (256 + c)) c

/-- Meaning of CLUSTER_REPORT (R145). -/
def execClusterReport (c : Fin 144) (pat : Fin 1024) (s : State) : Host.Outcome State Fault Refusal :=
  .next (doClusterReport c pat s)

/-- MEAS_RECORD (R147): at T+17 µs, after frames 0 to 16, the record of the lane is written. The transition stays open until the
lane is decided and its profile has ended (R148). -/
def doMeasRecord (e t : Nat) (s : State) : State :=
  let s1 := s.passTo t
  let l := s1.lane e
  match l.tr with
  | none => s1
  | some tr =>
    if tr.f < 17 ∨ tr.recd = true then s1
    else
      let s2 := s1.writeMeas e tr l.prof.len tr.res
      s2.setLane e { s2.lane e with tr := if tr.res = .progress ∨ l.prof.on = true then some { tr with recd := true } else none }

/-- Meaning of MEAS_RECORD (R147). -/
def execMeasRecord (e : Fin 36864) (t : Nat) (s : State) : Host.Outcome State Fault Refusal :=
  .next (doMeasRecord e t s)

end Sys2Proof.Machine
end

