-- ==== Sys2Proof/Machine/Yoke.lean ====
section
/-! DEFINITION. The Yoke (R204 to R224): the slot grid, the pattern store, firing groups, announcements and the
calendar. -/
namespace Sys2Proof.Machine

/-! ### The grid and the turns (R205, R206, R213) -/

/-- Slot length and commit lead in ns. -/
def State.slotNs (s : State) : Nat := s.yk.slot * 1000
def State.leadNs (s : State) : Nat := s.f YK_GRID.LEAD_US [] * 1000

/-- First slot boundary at or after t (R205): from the next whole second on the grid is that of the accepted SLOT_US. -/
def State.boundary (s : State) (t : Nat) : Nat :=
  let b := ceilDiv t s.slotNs * s.slotNs
  let n := s.f YK_GRID.SLOT_US [] * 1000
  let sec := (s.clr.now / secNs + 1) * secNs
  if b < sec then b else ceilDiv (max t sec) n * n

/-- Entries and entry lengths of a bank (R213). -/
def State.bankN (s : State) (b : Bool) : Nat := if b then s.f YK_CAL_N.N_B [] else s.f YK_CAL_N.N_A []
def State.entNs (s : State) (b : Bool) (i : Nat) : Nat := s.f YK_CAL_ENT.LEN_US [b2n b, i] * 1000

/-- Offset of entry i in the cycle; with i = N the cycle length (R213). -/
def State.entOfs (s : State) (b : Bool) (i : Nat) : Nat := (List.range i).foldl (fun a j => a + s.entNs b j) 0

/-- First turn of entry i at or after t, for a calendar that starts at `start` (R213). -/
def State.turnAfter (s : State) (b : Bool) (start i t : Nat) : Nat :=
  let c := s.entOfs b (s.bankN b)
  let t0 := start + s.entOfs b i
  t0 + ceilDiv (t - t0) c * c

/-- The turn of entry 0 at which a pending switch is made (R219), when one is pending. -/
def State.switchTurn (s : State) : Option Nat :=
  if s.yk.swPend && decide (2 ≤ s.yk.mode) then some (s.turnAfter s.yk.bank s.yk.start 0 (max s.yk.swAt s.yk.turnAt)) else none

/-- First turn of entry i at or after t (R213, R217, R219): in CAL_PENDING of the calendar to come; from a pending switch on, of
the other bank. -/
def State.layerTurn (s : State) (i t : Nat) : Nat :=
  let b := s.turnAfter s.yk.bank (if s.yk.mode = 1 then s.yk.calAt else s.yk.start) i t
  match s.switchTurn with
  | some w => if w ≤ b then s.turnAfter (!s.yk.bank) w i (max w t) else b
  | none => b

/-- The boundary of a pattern (R206, R207, R159, R222): its time, the time before which it may not fire (in STATIC mode the
boundary itself), whether the request was late, whether it was deferred by an announcement. -/
structure DueR where
  due : Nat
  floor : Nat
  late : Bool
  defer : Bool
  deriving DecidableEq, Repr

/-- The boundary of a static pattern whose staging ends at `endT`: `want` is the requested time (none: ASAP), `after`
the latest boundary of an earlier placed pattern, `lead` the earliest boundary an announcement allows. -/
def State.staticDue (s : State) (endT : Nat) (want : Option Nat) (after lead : Nat) : DueR :=
  let asap := s.boundary (endT + s.leadNs)
  let b0 := match want with
    | none => asap
    | some t => s.boundary t
  let late := want.isSome && decide (b0 < endT + s.leadNs)
  let b1 := if late then asap else b0
  let b2 := if b1 < after then max after asap else b1
  if b2 < lead then ⟨s.boundary lead, s.boundary lead, late, true⟩ else ⟨b2, b2, late, false⟩

/-- The turn of a request to layer i (R215): as R206 for the turns of its entry. Its floor is the latest of the requested
time, the end of staging with the commit lead, the turn after that of the layer's last change, and the lead of R222. -/
def State.layerDue (s : State) (i endT : Nat) (want : Option Nat) (after lead : Nat) : DueR :=
  let soon := endT + s.leadNs
  let t0 := want.getD soon
  let b0 := s.layerTurn i t0
  let fl := max (max soon t0) after
  ⟨s.layerTurn i (max fl lead), max fl lead, want.isSome && decide (b0 < soon), decide (s.layerTurn i fl < lead)⟩

/-! ### The pattern store (R204) -/

/-- The entry of a pattern. -/
def State.pat? (s : State) (n : Nat) : Option PatEnt := s.yk.store.find? fun p => p.num == n

/-- Changes the entry of a pattern. -/
def State.modPat (s : State) (n : Nat) (f : PatEnt → PatEnt) : State :=
  { s with yk := { s.yk with store := s.yk.store.map fun p => if p.num = n then f p else p } }

/-- The entry returns to FREE. -/
def State.freePat (s : State) (n : Nat) : State :=
  { s with yk := { s.yk with store := s.yk.store.filter fun p => p.num ≠ n } }

/-- Numbers of the FREE entries. -/
def State.freeNums (s : State) : List Nat := (List.range 1024).filter fun n => !(s.yk.store.any fun p => p.num == n)

/-- Takes a FREE entry for a pattern; which one is a free value (log entry 12). -/
def State.newPat (s : State) (kind : PatKind) (st : PatSt) (lanes : List LaneSet) (due lead : Nat) (timed : Bool)
    (layer : Nat) : Option (Nat × State) :=
  let l := s.freeNums
  if l.isEmpty then none
  else
    let f := s.takeFree
    let n := l.getD (Config.freePick f.1 % l.length) 0
    let y := f.2.yk
    let p : PatEnt := ⟨n, st, kind, lanes, due, lead, timed, y.stamp, false, layer, false⟩
    some (n, { f.2 with yk := { y with store := y.store ++ [p], stamp := y.stamp + 1 } })

/-- A layer whose changes wait for a turn of its entry (R215, R217). -/
def State.isCal (s : State) (layer : Nat) : Bool := decide (2 ≤ s.yk.mode) || (decide (s.yk.mode = 1) && decide (layer ≠ 0))

/-- The boundary or turn at which a pattern that waits is due (R206, R215). -/
def State.patDue (s : State) (p : PatEnt) : Nat := if s.isCal p.layer then s.layerTurn p.layer p.due else p.due

/-! ### Announcements (R220 to R222, R348, R349) -/

/-- Two bytes, four bytes and six bytes, little-endian. -/
def le2 (n : Nat) : List Byte := leBytes 2 n
def le4 (n : Nat) : List Byte := leBytes 4 n
def le6 (n : Nat) : List Byte := leBytes 6 n

/-- The payload of an announcement sent now (R220). -/
def State.annFrame (s : State) (ty seq : Nat) (body : List Byte) : List Byte :=
  leBytes 1 1 ++ leBytes 1 ty ++ le2 body.length ++ le4 seq
    ++ leBytes 1 (s.f PTH_TAG_ID.UNIT [] * 64 + s.f PTH_TAG_ID.DEVID []) ++ leBytes 1 0
    ++ le6 (s.clr.now / secNs) ++ le4 (s.clr.now % secNs) ++ body

/-- Hands a frame to the signalling fabric (R220). -/
def State.handAnn (s : State) (seq : Nat) (f : List Byte) : State :=
  { s with yk := { s.yk with annSeq := seq, annOut := s.yk.annOut ++ [(s.fab.out.length, f)] } }

/-- Sends a mirror frame (R337); with the link down nothing is sent (R336). -/
def State.mirSend (s : State) (m : MirMsg) : State :=
  if s.pair.lanes = 0 then s
  else { s with pair := { s.pair with mtx := (s.pair.mtx + 1) % 2 ^ 32, tx := s.pair.tx ++ [(s.pair.mtx, m)] } }

/-- Sends an announcement (R220, R348, R349). Outside PAIR its SEQ counts frames. In PAIR a shared frame of the active
module with the peer found takes the pair count, goes to the standby as ANN and waits for the ACK of the transaction sent last,
or for the end of its MIR_TO; with no ACK awaited it is handed over at once (DESIGN CHOICE, log entry 186). Every other frame
takes the unit-local count with SEQ[31] = 1. -/
def State.announce (s : State) (ty : Nat) (shared : Bool) (body : List Byte) : State :=
  if !s.inPair then s.handAnn (s.yk.annSeq + 1) (s.annFrame ty (s.yk.annSeq + 1) body)
  else if shared && s.pair.role ≠ 1 && s.pair.role ≠ 3 then s
  else if shared && s.pair.peer then
    let q := (s.pair.seq + 1) % 2 ^ 31
    let fr := s.annFrame ty q body
    let s1 := s.mirSend (.ann ⟨wd q, fr⟩)
    let s2 := { s1 with pair := { s1.pair with seq := q } }
    match (s.pair.ackWait.filter fun x => decide (s.clr.now < x.2.1)).getLast? with
    | some x => { s2 with pair := { s2.pair with annWait := s2.pair.annWait ++ [(x.1, q, fr)] } }
    | none => s2.handAnn q fr
  else
    let q := (s.pair.lseq + 1) % 2 ^ 31
    let s1 := { s with pair := { s.pair with lseq := q } }
    s1.handAnn (q + 2 ^ 31) (s1.annFrame ty (q + 2 ^ 31) body)

/-- One entry of a NOTICE: out-port, and the new in-port if any (R221). -/
abbrev NotEnt := Nat × Option Nat

/-- Body of one NOTICE fragment (R221). -/
def noticeBody (t pat kind i n : Nat) (l : List NotEnt) : List Byte :=
  le6 (t / secNs) ++ le4 (t % secNs) ++ le2 pat ++ leBytes 1 kind ++ leBytes 1 (i * 16 + n) ++ le2 l.length
    ++ l.flatMap fun x => le2 x.1 ++ le2 (match x.2 with
      | some a => 2 ^ 15 + a
      | none => 0)

/-- Sends a NOTICE in fragments of 360 entries (R221). -/
def State.notice (s : State) (t pat kind : Nat) (shared : Bool) (l : List NotEnt) : State :=
  let n := max 1 (ceilDiv l.length 360)
  (List.range n).foldl (fun s i => s.announce 1 shared (noticeBody t pat kind i n ((l.drop (360 * i)).take 360))) s

/-- ANN_EN. -/
def State.annEn (s : State) : Bool := s.fb YK_CTRL.ANN_EN []

/-- Lead of a NOTICE and of the calendar announcements in ns (R222). -/
def State.noticeLead (s : State) : Nat := s.f YK_ANN_A.NOTICE_LEAD [] * 100000
def State.annLead (s : State) : Nat := s.f YK_ANN_B.ANN_LEAD [] * 1000000

/-- Sends CAL_SCHED for a start or switch at t with bank b (R222; the widths of the first fields are a DESIGN CHOICE,
log entry 13). -/
def State.sendSched (s : State) (t : Nat) (b : Bool) : State :=
  let n := s.bankN b
  s.announce 2 true (le6 (t / secNs) ++ le4 (t % secNs) ++ le4 (s.entOfs b n / 1000) ++ le4 n
    ++ (List.range n).flatMap fun i => le4 (s.entNs b i / 1000))

/-- The in-port that a layer of a table joins to an out-port. -/
def mapIn (m : SMap (Option Route)) (layer b : Nat) : Option Nat :=
  (List.range 512).find? fun a => match sget none m (512 * layer + a) with
    | some r => r.out == b
    | none => false

/-- The table of a layer in force at time t (R215): what has fired, and what is staged for a time up to t. -/
def State.tableAt (s : State) (layer t : Nat) : SMap (Option Route) :=
  s.pth.placed.foldl (fun m p => match s.pat? p.pat with
    | some q => if p.staged && !p.fired && decide (q.layer = layer) && decide (s.patDue q ≤ t) then
        p.chg.foldl (fun m c => sset m c.key c.new) m else m
    | none => m) s.pth.live

/-- Sends CAL_MAP of a layer of table m with its first turn (R222). -/
def State.sendMap (s : State) (m : SMap (Option Route)) (layer t : Nat) : State :=
  s.announce 3 true (le2 layer ++ le6 (t / secNs) ++ le4 (t % secNs) ++ (List.range 512).flatMap fun b =>
    le2 (match mapIn m layer b with
      | some a => 2 ^ 15 + a
      | none => 0))

/-- Sends CAL_SCHED and the CAL_MAP of every served layer as it is in force at its turn (R222). -/
def State.sendCalendar (s : State) (t : Nat) (b : Bool) : State :=
  (List.range (s.bankN b)).foldl (fun s i => s.sendMap (s.tableAt i (t + s.entOfs b i)) i (t + s.entOfs b i)) (s.sendSched t b)

/-! ### Firing (R209, R210, R211) -/

/-- What a group decides for a lane: the last pattern that names it, and its slot (R209). -/
def groupSlots (g : List PatEnt) : SMap (Nat × Bool × PatKind) :=
  g.foldl (fun m p => p.lanes.foldl (fun m l => sset m l.e (p.num, l.slot, p.kind)) m) []

/-- Applies the set-points, targets and tones of a lane at the strobe (R133, R172). -/
def State.applySet (s : State) (l : LaneSet) : State :=
  let k := s.lane l.e
  let s1 := s.setLane l.e { k with
    tgt := l.tgt.getD k.tgt, valid := l.valid.getD k.valid, src := l.src.getD k.src
    tagAmp := l.amp.getD k.tagAmp, tagAsh := l.ash.getD k.tagAsh }
  match l.sp0 with
  | some v => doSetptWrite l.e false (wd (v * 2 ^ 16 + s1.f SETPT.SP_REF [l.e / 256, l.e % 256, 0])) s1
  | none => s1

/-- A pattern that repairs, rolls back or lights a probe route selects gain bank 1 for its taking-part switching lanes, and for
those that a probe route lights (R185). -/
def State.selectBank1 (probe : Bool) (s : State) (e : Nat) : State :=
  if isCuffE e then s
  else
    let s1 := s.setF LANE_CFG.BANK [e / 256, e % 256] 1
    let l := s1.cal.bankL.filter (· ≠ e)
    { s1 with
      pth := { s1.pth with bank1 := if s1.pth.bank1.contains e then s1.pth.bank1 else s1.pth.bank1 ++ [e] }
      cal := { s1.cal with bankL := if probe then l ++ [e] else l } }

/-- A lane whose selection ends returns to gain bank 0 (R185). -/
def State.bank0 (s : State) (e : Nat) : State :=
  if s.pth.bank1.contains e then
    let s1 := s.setF LANE_CFG.BANK [e / 256, e % 256] 0
    { s1 with pth := { s1.pth with bank1 := s1.pth.bank1.erase e } }
  else s

/-- Lanes of probe routes that are released before they lock return to gain bank 0; those in `keep` stay on one (R185). -/
def State.bankBack (s : State) (keep : List Nat) : State :=
  let s1 := (s.cal.bankL.filter fun e => !keep.contains e).foldl State.bank0 s
  { s1 with cal := { s1.cal with bankL := s1.cal.bankL.filter keep.contains } }

/-- The switching lanes of the nodes that routes cross. -/
def routesLanes (l : List (Nat × Nat × Nat)) : List Nat :=
  l.flatMap fun r => (Rt.nodes ⟨r.1, r.2.1, r.2.2⟩).flatMap fun n => (nodeLanes n.1 n.2.1 n.2.2).map Prod.fst

/-- Marks the pattern that supersedes the open transition of a lane (R186). -/
def State.markBy (s : State) (e pat : Nat) : State :=
  match (s.lane e).tr with
  | some tr =>
    if tr.res = .progress then
      { s with col := s.col.map fun x => if x.pat = tr.pat then { x with by_ := some pat } else x }
    else s
  | none => s

/-- One lane of the group at the strobe (R132, R209). -/
def State.fireLane (t : Nat) (s : State) (x : Nat × (Nat × Bool × PatKind)) : State :=
  if (s.lane x.1).cmd = x.2.2.1 then s
  else
    let s1 := s.markBy x.1 x.2.1
    let s2 := if x.2.2.2 = .repair ∨ x.2.2.2 = .rollback ∨ x.2.2.2 = .calib then
      s1.selectBank1 (x.2.2.2 == .calib) x.1 else s1
    s2.startTrans x.2.1 t x.1 x.2.2.1

/-- Clusters that hold a lane of a pattern in transition (R145, R146). -/
def State.involved (s : State) (pat : Nat) : List Nat :=
  (List.range 144).filter fun c => (s.cl c).tr.any fun x => x.pat == pat

/-- The collector entry of a fired pattern (R146). -/
def State.newCol (s : State) (pat t : Nat) : ColEnt :=
  let w := s.involved pat
  ⟨pat, t, w, !w.isEmpty, .complete, 0, 0, 0, false, none, none⟩

/-- The slot strobe reaches every cluster at update 0 of a frame (R133): accumulator triggers and load strobes (R114, R129). -/
def State.strobe (s : State) : State :=
  (List.range 144).foldl (fun s c => (s.setCl c { s.cl c with slotP := true, upd := 0 }).accTrigger c true) s

/-- A pattern becomes IN_FLIGHT: its collector entry, its mark (R263; none for a probe, R375), LAST_PAT. -/
def State.launch (turn : Option Nat) (t : Nat) (s : State) (p : PatEnt) : State :=
  let s1 := { s with col := s.col ++ [s.newCol p.num t] }
  let s2 := s1.modPat p.num fun q => { q with st := .inFlight, turn := turn.isSome }
  let s3 := if p.kind = .probe then s2
    else s2.offer 0x11 255 0 (wd t)
      [wd (p.num + b2n (p.kind == .repair) * 2 ^ 16 + b2n turn.isSome * 2 ^ 17), wd (turn.getD 0)]
  { s3 with yk := { s3.yk with lastPat := p.num } }

/-- The routes of a list of changes come into force. -/
def liveNow (m : SMap (Option Route)) (l : List (Nat × Option Route)) : SMap (Option Route) :=
  l.foldl (fun m x => sset m x.1 x.2) m

/-- Entries of a NOTICE for paths given by in-port key and route (R221). -/
def repEnts (l : List (Nat × Route)) : List NotEnt := l.map fun x => (x.2.out, some (x.1 % 512))

/-- Entries of the NOTICE of a transaction (R221): each out-port it changes with its new in-port. -/
def Placed.entries (p : Placed) : List NotEnt :=
  p.chg.filterMap (fun c => c.new.map fun r => (r.out, some (c.key % 512))) ++
  p.chg.filterMap (fun c => match c.old with
    | some r => if p.chg.any (fun d => d.new.map Route.out == some r.out) then none else some (r.out, none)
    | none => none)

/-- The roll-back patterns that fire as pattern `pat` are announced at their strobe, in the shared space of a pair (R221,
R348). -/
def State.announceRb (t pat : Nat) (s : State) : State :=
  if s.annEn then
    (s.pth.placed.filter fun x => x.rb && x.pat == pat && x.staged).foldl (fun (s : State) x => s.notice t pat 2 true x.entries) s
  else s

/-- The layer of a repair. -/
def Rep.layer (r : Rep) : Nat := r.paths.headD 0 / 512

/-- A staged repair fires with a pattern: its own; of a layer whose slot was not running, the one that fires at the layer's next
turn with lanes written since (R216). -/
def Rep.firesWith (r : Rep) (p : PatEnt) (turn : Bool) : Bool :=
  r.staged && !r.fired && (match r.turn with
    | none => r.pat == p.num
    | some n => turn && decide (r.layer = p.layer) && (p.kind == .layer || decide (n ≤ p.order)))

/-- After a pattern has fired: its routes are in force; a repair or roll-back is announced at its strobe with kind 2
(R211, R221). A calibration pattern moves the probe routes on (R185, R468). -/
def State.afterFire (turn : Bool) (t : Nat) (s : State) (p : PatEnt) : State :=
  let s1 := { s with pth := { s.pth with
    live := s.pth.placed.foldl (fun (m : SMap (Option Route)) (x : Placed) => if x.pat = p.num ∧ x.staged = true ∧ x.fired = false
      then liveNow m (x.chg.map fun c : Chg => (c.key, c.new)) else m) s.pth.live
    placed := s.pth.placed.map fun x : Placed => if x.pat = p.num ∧ x.staged = true then { x with fired := true } else x } }
  if p.kind = .calib then
    let k := s1.cal
    let ln := k.next.flatMap fun r => Rt.litLanes ⟨r.1, r.2.1, r.2.2⟩
    let s2 := (ln.foldl (State.selectBank1 true) s1).bankBack (ln ++ p.lanes.map LaneSet.e)
    { s2 with cal := { s2.cal with held := [], fired := true, fireAt := t, routes := k.next, next := [], lanes := ln, seen := [] } }
  else
    let rts := (s1.pth.reps.filter fun r => r.firesWith p turn).flatMap Rep.routes
    let s2 := { s1 with pth := { s1.pth with
      live := liveNow s1.pth.live (rts.map fun x : Nat × Route => (x.1, some x.2))
      reps := s1.pth.reps.map fun x : Rep => if x.firesWith p turn then { x with pat := p.num, fired := true } else x } }
    let s3 := if s2.annEn && !rts.isEmpty then s2.notice t p.num 2 false (repEnts rts) else s2
    s3.announceRb t p.num

/-- A lane with its slot alone. -/
def slotSet (e : Nat) (slot : Bool) : LaneSet := ⟨e, slot, none, none, none, none, none, none⟩

/-- The routes that a pattern brings into force. -/
def State.newRoutes (s : State) (p : PatEnt) : List Rt :=
  (s.pth.placed.filter fun x => x.pat == p.num && x.staged).flatMap (fun x => x.chg.filterMap fun c =>
    c.new.map fun r => (⟨c.key % 512, r.out, r.mid⟩ : Rt))
  ++ (s.pth.reps.filter fun r => r.firesWith p (decide (2 ≤ s.yk.mode))).flatMap fun r => r.routes.map fun x => ⟨x.1 % 512, x.2.out, x.2.mid⟩

/-- Probe routes that a group of patterns meets: a new path uses a port or a link of theirs (R469). -/
def State.probeHits (s : State) (g : List PatEnt) : List (Nat × Nat × Nat) :=
  let new := g.flatMap s.newRoutes
  (s.cal.routes ++ s.cal.next).filter fun r => new.any fun n => n.a == r.1 || n.b == r.2.1 || n.conflicts ⟨r.1, r.2.1, r.2.2⟩

/-- Probe routes give way to a transaction or a repair in its own pattern (R469): they leave the layer, and that pattern moves to
BLOCK those of their ingress Cuff lanes that no pattern of the group names. -/
def State.giveWay (s : State) (g : List PatEnt) : List PatEnt × State :=
  let hit := s.probeHits g
  if hit.isEmpty then (g, s)
  else
    let routes := s.cal.routes.filter fun r => !hit.contains r
    let next := s.cal.next.filter fun r => !hit.contains r
    let ln := if s.cal.lanes.isEmpty then [] else routes.flatMap fun r => Rt.litLanes ⟨r.1, r.2.1, r.2.2⟩
    let gone := hit.flatMap fun r => [0, 1].map fun pl => cuffOf pl 0 r.1
    let cut := fun (p : PatEnt) =>
      if p.kind = .calib then
        let keep := routesLanes next
        { p with lanes := p.lanes.filter fun l => if isCuffE l.e then !gone.contains l.e else keep.contains l.e }
      else
        let mine := (s.probeHits [p]).flatMap fun r => [0, 1].map fun pl => cuffOf pl 0 r.1
        let add := (mine.filter fun e => !(g.any fun q => !(q.kind == .calib) && q.lanes.any fun l => l.e == e)).map fun e =>
          (⟨e, true, none, none, some false, none, none, none⟩ : LaneSet)
        { p with lanes := add ++ p.lanes }
    let s1 := if hit.any s.cal.routes.contains then s.bankBack (routesLanes routes) else s
    (g.map cut, { s1 with cal := { s1.cal with routes := routes, next := next, lanes := ln } })

/-- The lanes of new paths learn again, also where a reverted run has lit them (R476). -/
def State.calForget (s : State) (rts : List Rt) : State :=
  if s.cal.back.isEmpty then s
  else
    let on := rts.flatMap Rt.litLanes
    { s with cal := { s.cal with back := s.cal.back.filter fun e => !on.contains e } }

/-- A firing group fires at network time t (R209, R211). -/
def State.fire (s0 : State) (t : Nat) (turn : Option Nat) (g0 : List PatEnt) : State :=
  let w := s0.giveWay g0
  let g := w.1
  let s := w.2.calForget (g.flatMap w.2.newRoutes)
  let s1 := g.foldl (fun s p => p.lanes.foldl State.applySet s) s
  let s2 := ((groupSlots g).foldl (State.fireLane t) s1).calAbandonMet
  let s3 := g.foldl (State.launch turn t) s2
  (g.foldl (State.afterFire turn.isSome t) s3).strobe

/-- A request pattern moves to the next boundary (R209, R210). -/
def State.holdNext (s : State) (t : Nat) (p : PatEnt) : State :=
  s.modPat p.num fun q => { q with due := s.boundary (max (t + 1000) q.due), st := .staged }

/-- Patterns by placement order (R209). -/
def insertPat (p : PatEnt) : List PatEnt → List PatEnt
  | [] => [p]
  | q :: l => if p.order ≤ q.order then p :: q :: l else q :: insertPat p l

/-- The static patterns due at t: ARMED request and roll-back patterns of the grid (R209). Those of layers 1–63 wait for
their entries' first turns (R217), beyond a cancelled start too (DESIGN CHOICE, log entry 183). -/
def State.dueStatic (s : State) (t : Nat) : List PatEnt :=
  (s.yk.store.filter fun p => p.st == .armed && !(p.kind == .repair) && !(p.kind == .layer) && decide (p.due ≤ t)
    && !p.heldP && decide (p.layer = 0)).foldr insertPat []

/-- The layer whose slot is running: 0 in STATIC mode. -/
def State.runLayer (s : State) : Nat := if 2 ≤ s.yk.mode then s.yk.entry else 0

/-- The repair patterns that are staged for the layer in force: each fires at the first frame boundary (R182, R216), one of a
re-route at the time that its COMMIT names (R384). -/
def State.dueRepair (s : State) (layer t : Nat) : List PatEnt :=
  (s.yk.store.filter fun p => p.st == .staged && p.kind == .repair && decide (p.due ≤ t) && decide (p.layer = layer)).foldr
    insertPat []

/-- The group that fires at a frame boundary t: repairs first take the collector's places, then request patterns in
placement order; the rest is held (R209, R210, R146). In P1–P4 nothing fires: what is due is STAGED again until P0. -/
def State.fireAt (s : State) (t : Nat) (grid : Bool) : State :=
  let req := if grid then s.dueStatic t else []
  if s.pwr.st ≠ 0 then
    if req.isEmpty then s
    else (req.foldl (fun s p => s.modPat p.num fun q => { q with heldP := true, st := .staged }) s).raise YK_EVT.HELD []
  else
    let room := 4 - s.col.length
    let rep := (s.dueRepair s.runLayer t).take room
    let now := req.take (room - rep.length)
    let rest := req.drop (room - rep.length)
    let s1 := rest.foldl (fun s p => s.holdNext t p) s
    let s2 := if rest.isEmpty then s1 else s1.raise YK_EVT.HELD []
    s2.fire t none ((rep ++ now).foldr insertPat [])

/-! ### Configuration and commit points -/

/-- YK_GRID_WRITE (R205): LEAD_US is taken clamped; a change of SLOT_US is accepted or refused with GRID_REJ. -/
def doYkGridWrite (v : Word) (s : State) : State :=
  let s1 := s.setF YK_GRID.LEAD_US [] (clampN 5 1000 (fget 20 10 v))
  let n := fget 0 20 v
  if n = s.f YK_GRID.SLOT_US [] then s1
  else if 20 ≤ n ∧ n ≤ 1000000 ∧ 1000000 % n = 0
      ∧ s.yk.store.all (fun p => !(p.st == .armed) && !(p.st == .staged && p.timed)) = true then
    s1.setF YK_GRID.SLOT_US [] n
  else State.schedEvent s (s1.raise YK_EVT.GRID_REJ [])

/-- Meaning of YK_GRID_WRITE (R205). -/
def execYkGridWrite (v : Word) (s : State) : Host.Outcome State Fault Refusal := .next (s.hostWr .YK_GRID [] (doYkGridWrite v))

/-- COMMIT_POINT (R206): every STAGED pattern whose commit point has come is ARMED; repairs are not subject to it
(R210), a pattern held for P0 waits. -/
def doCommitPoint (t : Nat) (s : State) : State :=
  let s1 := s.passTo t
  if s1.flt.safe then s1
  else { s1 with yk := { s1.yk with store := s1.yk.store.map fun p =>
    if p.st = .staged ∧ p.kind ≠ .repair ∧ p.heldP = false ∧ s1.patDue p ≤ s1.clr.now + p.lead then { p with st := .armed }
    else p } }

/-- Meaning of COMMIT_POINT (R206). -/
def execCommitPoint (t : Nat) (s : State) : Host.Outcome State Fault Refusal := .next (doCommitPoint t s)

/-! ### The calendar (R213 to R219) -/

/-- YK_CAL_AT as network time. -/
def State.calTime (s : State) : Nat :=
  ((s.reg .YK_CAL_AT0 []).toNat + s.f YK_CAL_AT1.SEC_HI [] * 2 ^ 32) * secNs + s.f YK_CAL_AT2.US [] * 1000

/-- The first whole second at or after t. -/
def secAfter (t : Nat) : Nat := ceilDiv t secNs * secNs

/-- The start time for a lead: YK_CAL_AT, or the first whole second that keeps the lead (R217). -/
def State.startFor (s : State) (lead : Nat) : Nat :=
  if s.calTime < s.clr.now + lead then secAfter (s.clr.now + lead) else s.calTime

/-- CAL_RUN is writable here: not in FABRIC (R366), not on a standby (R344). -/
def State.calOwner (s : State) : Bool := !s.inFabric && !(s.inPair && s.pair.role ≠ 1)

/-- The active module of a pair sends a resolved start (0), stop (1) or switch (2) with its time (R344). -/
def State.sendCtrl (s : State) (kind t : Nat) : State := if s.inPair && s.calOwner then s.mirSend (.ctrl ⟨kind, t⟩) else s

/-- A start is requested in STATIC mode (R217): MODE becomes CAL_PENDING; a start that only the announcements defer sets
ANN_DEFER (R222). -/
def State.calPending (s : State) : State :=
  let at_ := s.startFor (if s.annEn then max s.leadNs s.annLead else s.leadNs)
  let s1 := { s with yk := { s.yk with mode := 1, calAt := at_, calPend := false } }
  let s2 := if s.startFor s.leadNs < at_ then s1.raise YK_EVT.ANN_DEFER [] else s1
  let s3 := if s2.annEn then s2.sendCalendar at_ s2.yk.bank else s2
  s3.sendCtrl 0 at_

/-- A deferred start is taken when MODE reaches STATIC (R218); on a standby, the start that the active module named (R344). -/
def State.calResume (s : State) : State :=
  if !s.yk.calPend then s
  else if s.calOwner then s.calPending
  else { s with yk := { s.yk with mode := 1, calPend := false } }

/-- CALENDAR_START_REQUEST (R217, R218): a write of YK_CTRL with CAL_RUN = 1. -/
def doCalStartReq (v : Word) (t : Nat) (s : State) : State :=
  let s1 := (s.passTo t).wrCodes .YK_CTRL [] (v &&& 0xFFFFFFFE)
  let s1 := s1.setF YK_CTRL.CAL_RUN [] (s.f YK_CTRL.CAL_RUN [])
  if !s1.calOwner || s1.flt.safe then s1
  else
    let s2 := s1.setF YK_CTRL.CAL_RUN [] 1
    State.schedEvent s (match s2.yk.mode with
      | 0 => s2.calPending
      | 3 => { s2 with yk := { s2.yk with calPend := true } }
      | _ => s2)

/-- Meaning of CALENDAR_START_REQUEST (R217). -/
def execCalendarStartRequest (v : Word) (t : Nat) (s : State) : Host.Outcome State Fault Refusal :=
  .next (s.hostWr .YK_CTRL [] (doCalStartReq v t))

/-- CALENDAR_STOP_REQUEST (R217, R218): a write of YK_CTRL with CAL_RUN = 0. -/
def doCalStopReq (v : Word) (t : Nat) (s : State) : State :=
  let s1 := (s.passTo t).wrCodes .YK_CTRL [] (v &&& 0xFFFFFFFE)
  if !s1.calOwner then s1.setF YK_CTRL.CAL_RUN [] (s.f YK_CTRL.CAL_RUN [])
  else match s1.yk.mode with
    | 1 => { s1 with yk := { s1.yk with mode := 0 } }.sendCtrl 1 s1.clr.now
    | 2 =>
      let s2 := { s1 with yk := { s1.yk with mode := 3, stopAt := 0 } }
      s2.sendCtrl 1 (s2.turnAfter s2.yk.bank s2.yk.start 0 s2.yk.turnAt)
    | 3 => { s1 with yk := { s1.yk with calPend := false } }
    | _ => s1

/-- Meaning of CALENDAR_STOP_REQUEST (R218). -/
def execCalendarStopRequest (v : Word) (t : Nat) (s : State) : Host.Outcome State Fault Refusal :=
  .next (s.hostWr .YK_CTRL [] (doCalStopReq v t))

/-- CAL_SWITCH_REQUEST (R219): a write of YK_CAL_SW with SWITCH = 1. -/
def doCalSwitchReq (v : Word) (t : Nat) (s : State) : State :=
  let s1 := s.passTo t
  if bit 0 v && decide (s1.yk.mode = 2) && s1.calOwner then
    let lead := if s1.annEn then s1.clr.now + s1.annLead else 0
    let turn := fun t => s1.turnAfter s1.yk.bank s1.yk.start 0 (max t s1.yk.turnAt)
    let at_ := turn (max s1.calTime lead)
    let s2 := { s1 with yk := { s1.yk with swPend := true, swAt := at_ } }
    let s3 := if turn s1.calTime < at_ then s2.raise YK_EVT.ANN_DEFER [] else s2
    let s4 := if s3.annEn then s3.sendCalendar at_ (!s3.yk.bank) else s3
    State.schedEvent s (s4.sendCtrl 2 at_)
  else s1

/-- Meaning of CAL_SWITCH_REQUEST (R219). -/
def execCalSwitchRequest (v : Word) (t : Nat) (s : State) : Host.Outcome State Fault Refusal :=
  .next (s.hostWr .YK_CAL_SW [] (doCalSwitchReq v t))

/-- The paths of a layer as it stands after every placed transaction (R158). -/
def State.planPaths (s : State) (layer : Nat) : List Rt :=
  (List.range 512).filterMap fun a => (sget none s.pth.plan (512 * layer + a)).map fun r => ⟨a, r.out, r.mid⟩

/-- Routes in force of a layer. -/
def State.liveRts (s : State) (layer : Nat) : List Rt :=
  (List.range 512).filterMap fun a => (sget none s.pth.live (512 * layer + a)).map fun r => ⟨a, r.out, r.mid⟩

/-- Paths of a layer that occupy its planes: those in force, also where their release or move is placed and not fired (R155), and
those placed. -/
def State.usedRts (s : State) (layer : Nat) : List Rt :=
  let l := s.liveRts layer
  l ++ (s.planPaths layer).filter fun r => !l.contains r

/-- In-port a has a path of layer 0: one in force or one placed (R155). -/
def State.hasPath (s : State) (a : Nat) : Bool := (sget none s.pth.live a).isSome || (sget none s.pth.plan a).isSome

/-- The paths that the RESIDENT pattern of a layer holds (R212, R215, R216): those in force, on the routes of repairs that wait
for the layer's next turn. A staged change has a pattern of its own, which fires at its own turn. -/
def State.residentPaths (s : State) (layer : Nat) : List Rt :=
  let reps := s.pth.reps.filter fun r => r.staged && !r.fired && r.turn.isSome
  (s.liveRts layer).map fun r => match reps.findSome? fun x => x.routes.find? fun y => y.1 == 512 * layer + r.a with
    | some y => ⟨r.a, y.2.out, y.2.mid⟩
    | none => r

/-- The settings of a Cuff lane in the path slot: those of an earlier pattern of the layer, else those in force. -/
def State.keepSet (s : State) (prior : List LaneSet) (e src : Nat) : LaneSet :=
  let l := s.lane e
  match prior.find? (fun x => x.e == e && x.sp0.isSome) with
  | some x => { x with slot := false, valid := some true }
  | none => ⟨e, false, some (s.f SETPT.SP [e / 256, e % 256, 0]), some l.tgt, some true, some src, some l.tagAmp,
      some l.tagAsh⟩

/-- The lanes that the paths of a layer command (R212): the nodes crossed by them, and the Cuff lanes of every port. -/
def State.layerLanes (s : State) (paths : List Rt) (prior : List LaneSet) : List LaneSet :=
  (paths.flatMap fun p => p.nodes.flatMap fun n => (nodeLanes n.1 n.2.1 n.2.2).map fun x => slotSet x.1 x.2)
    ++ (List.range 512).flatMap fun port => [0, 1].flatMap fun pl =>
      let i := cuffOf pl 0 port
      let o := cuffOf pl 1 port
      [(if paths.any (fun p => p.a == port) then s.keepSet prior i port
        else { slotSet i true with valid := some false }),
       (match paths.find? (fun p => p.b == port) with
         | some p => s.keepSet prior o p.a
         | none => { slotSet o true with valid := some false })]

/-- The lanes of the last pattern placed for a layer. -/
def State.priorLanes (s : State) (layer : Nat) : List LaneSet :=
  match ((s.yk.store.filter fun p => p.layer == layer && !(p.kind == .repair)).foldr insertPat []).getLast? with
  | some p => p.lanes
  | none => []

/-- The lanes of the last pattern of a layer that has fired. -/
def State.firedLanes (s : State) (layer : Nat) : List LaneSet :=
  match ((s.yk.store.filter fun p => p.layer == layer && !(p.kind == .repair) && !(p.st == .staged) && !(p.st == .armed)).foldr
      insertPat []).getLast? with
  | some p => p.lanes
  | none => []

/-- The RESIDENT pattern of a layer; one is made from its paths in force when there is none (R212). -/
def State.resident (s : State) (layer : Nat) : Option (Nat × State) :=
  match sfind s.pth.layerPat layer with
  | some n => some (n, s)
  | none =>
    match s.newPat .layer .resident (s.layerLanes (s.residentPaths layer) (s.firedLanes layer)) 0 0 false layer
    with
    | some (n, s1) => some (n, { s1 with pth := { s1.pth with layerPat := sset s1.pth.layerPat layer n } })
    | none => none

/-- The pattern that fires at a turn of entry i: the earliest staged change of the layer that is due, else the RESIDENT
one (R214, R215). -/
def State.turnPat (s : State) (i t : Nat) : Option (Nat × State) :=
  match (s.yk.store.filter fun p => p.layer == i && (p.kind == .request || p.kind == .rollback) && p.st == .armed
      && decide (p.due ≤ t)).foldr insertPat [] with
  | p :: _ => some (p.num, s)
  | [] => s.resident i

/-- Entry i fires its turn at t or is skipped (R214). -/
def State.turn (s : State) (i t : Nat) : State :=
  let skip := (s.setF YK_CNT.SKIP [] (min 65535 (s.f YK_CNT.SKIP [] + 1))).raise YK_EVT.TURN_SKIP []
  if s.pwr.st ≠ 0 ∨ s.flt.safe = true ∨ 4 ≤ s.col.length + (s.dueRepair i t).length then skip
  else match s.turnPat i t with
    | some (n, s1) =>
      match s1.pat? n with
      | some p => s1.fire t (some i) ((p :: s1.dueRepair i t).foldr insertPat [])
      | none => skip
    | none => skip

/-- Releases layers 1–63 (R218): their paths become IDLE and their patterns FREE; what still waits for one of their
turns is dropped. -/
def State.releaseLayers (s : State) : State :=
  let low := fun (p : Nat × Option Route) => decide (p.1 < 512)
  let dead := fun (p : PatEnt) => (p.kind == .layer && !(p.st == .inFlight)) || (decide (0 < p.layer) && !(p.st == .inFlight))
  { s with
    pth := { s.pth with
      conn := s.pth.conn.filter fun p => decide (p.1 < 512)
      live := s.pth.live.filter low, plan := s.pth.plan.filter low, layerPat := [] }
    yk := { s.yk with store := s.yk.store.filter fun p => !dead p } }

/-- Schedules the next turn after entry i at t (R213). -/
def State.nextTurn (s : State) (i t : Nat) : State :=
  let b := s.yk.bank
  let n := s.bankN b
  { s with yk := { s.yk with entry := i, turnAt := t + s.entNs b i, turnEnt := (i + 1) % max 1 n } }

/-- CALENDAR_START (R217): at the start time, with no static pattern STAGED or ARMED, entry 0 fires its turn; else the
start moves to the next whole second. -/
def doCalStart (t : Nat) (s : State) : State :=
  let s1 := s.passTo t
  if s1.yk.mode ≠ 1 ∨ t ≠ s1.yk.calAt ∨ s1.flt.safe = true then s1
  else if s1.yk.store.any (fun p => (p.st == .staged || p.st == .armed) && decide (p.layer = 0) && !(p.kind == .repair)) then
    { s1 with yk := { s1.yk with calAt := secAfter (t + 1) } }.sendCtrl 0 (secAfter (t + 1))
  else
    let s2 := { s1 with yk := { s1.yk with mode := 2, start := t, cycles := 1 } }
    let s3 := (s2.turn 0 t).raise YK_EVT.CAL_STARTED []
    State.schedEvent s (s3.nextTurn 0 t)

/-- Meaning of CALENDAR_START (R217). -/
def execCalendarStart (t : Nat) (s : State) : Host.Outcome State Fault Refusal := .next (doCalStart t s)

/-- ANNOUNCE_REPEAT (R222): with ANN_EN = 1 and ANN_REPEAT above 0, the current CAL_SCHED and every served CAL_MAP. -/
def doAnnRepeat (t : Nat) (s : State) : State :=
  let s1 := s.passTo t
  if s1.annEn && decide (s1.f YK_ANN_B.ANN_REPEAT [] ≠ 0) && decide (2 ≤ s1.yk.mode) then
    s1.sendCalendar s1.yk.start s1.yk.bank
  else s1

/-- Meaning of ANNOUNCE_REPEAT (R222). -/
def execAnnounceRepeat (t : Nat) (s : State) : Host.Outcome State Fault Refusal := .next (doAnnRepeat t s)

end Sys2Proof.Machine
end

