-- ==== Sys2Proof/Machine/Equal.lean ====
section
/-! DEFINITION. Equalisation (R169 to R172): sums of powers given in 1/256 dBm, loss targets with their floor, the
settings of the Cuff lanes of a path, and the refresh. -/
namespace Sys2Proof.Machine

/-! ### Sums of powers in 1/256 dBm -/

/-- One, and ln 10, in units of 10^-40. -/
def fix1 : Nat := 10 ^ 40
def ln10 : Nat := 23025850929940456840179914546843642076011

/-- exp(x / 10^40) × 10^40 for 0 ≤ x, by 80 terms of its series. -/
def expFix (x : Nat) : Nat :=
  ((List.range 80).foldl (fun (p : Nat × Nat) k => (p.1 * x / fix1 / (k + 1), p.2 + p.1 * x / fix1 / (k + 1)))
    (fix1, fix1)).2

/-- 10^(n / 5,120) × 10^40 for n of either sign (n counts half steps of 1/256 dB); the series runs on n mod 5,120. -/
def pow10Half (n : Int) : Nat :=
  let q := n / 5120
  let e := expFix ((n % 5120).toNat * ln10 / 5120)
  if 0 ≤ q then e * 10 ^ q.toNat else e / 10 ^ (-q).toNat

/-- The largest w in lo .. lo + 2^n − 1 whose lower edge w − 1/2 does not lie above the sum t. -/
def dbSearch (t : Nat) : Nat → Int → Int
  | 0, w => w
  | n + 1, w => if pow10Half (2 * (w + (2 ^ n : Nat)) - 1) ≤ t then dbSearch t n (w + (2 ^ n : Nat)) else dbSearch t n w

/-- The sum of powers given in 1/256 dBm, rounded to the nearest 1/256 dBm (R169, R171; the rounding is a DESIGN
CHOICE, log entry 14). The floor word 0x8000 counts as no power. -/
def dbSum (l : List Int) : Int :=
  let m := l.foldl max (-32768)
  if m = -32768 then -32768
  else
    let t := l.foldl (fun a x => if x = -32768 then a else a + pow10Half (2 * (x - m))) 0
    m + dbSearch t 12 (-1)

/-! ### Light of an in-port (R171, R177) -/

/-- CUF_FLOOR of the egress cluster of a plane and out-port. -/
def State.floorOf (s : State) (pl b : Nat) : Int := sgn 16 (s.f SLV_CUF.CUF_FLOOR [cuffOf pl 1 b / 256])

/-- The ingress Cuff lane of a plane. -/
def State.inLane (s : State) (pl a : Nat) : Lane := s.lane (cuffOf pl 0 a)

/-- P_in: the sum over both planes of the tap-0 and tap-1 long averages of the in-port (R171). -/
def State.pIn (s : State) (a : Nat) : Int :=
  dbSum [(s.inLane 0 a).tap0.avg, (s.inLane 0 a).tap1.avg, (s.inLane 1 a).tap0.avg, (s.inLane 1 a).tap1.avg]

/-- Both planes' ingress words lie below CUF_FLOOR (R171). -/
def State.inDark (s : State) (a b : Nat) : Bool :=
  [0, 1].all fun pl => decide ((s.inLane pl a).tap0.avg < s.floorOf pl b)

/-- The sums of both ingress taps lie below CUF_FLOOR in both planes (R177). -/
def State.tagDark (s : State) (a b : Nat) : Bool :=
  [0, 1].all fun pl => decide (dbSum [(s.inLane pl a).tap0.avg, (s.inLane pl a).tap1.avg] < s.floorOf pl b)

/-! ### Loss targets (R169, R170) -/

/-- The loss target of out-port b for in-port a with the predicted losses p0 and p1 of the two planes: target, and
whether it was raised to its floor. `stay` is the target that a dark in-port keeps (none at staging: the floor). -/
def State.lossTarget (s : State) (a b p0 p1 : Nat) (stay : Option Nat) : Nat × Bool :=
  let floor5 : Int := (5 * max p0 p1 + 64 * s.f PTH_EQ.EQ_HEADROOM [] : Nat)
  let floor := (roundDiv floor5 5).toNat
  let value := sgn 16 (s.f EQ_CFG.VALUE [b])
  if s.fb EQ_CFG.MODE [b] then
    if s.inDark a b then (stay.getD floor, stay.isNone)
    else
      let want := s.pIn a - value
      if 5 * want < floor5 then (floor, true) else (min 65535 want.toNat, false)
  else if 5 * value < floor5 then (floor, true) else (value.toNat, false)

/-- The settings of the four Cuff lanes of a new path (R169 to R172): target and currents of the egress lanes, tone of
the ingress lanes. The predicted losses, the currents and the tone amplitude are free values (log entries 11, 15). -/
def State.openPath (s : State) (a b : Nat) : List LaneSet × Bool × State :=
  let f0 := s.takeFree
  let f1 := f0.2.takeFree
  let f2 := f1.2.takeFree
  let tg := s.lossTarget a b (Config.freeLoss f0.1) (Config.freeLoss f1.1) none
  let amp := if s.toneless a then 0 else Config.freeAmp f2.1 % 256
  let ash := Config.freeAsh f2.1 % 8
  let peak := min 65535 (Config.freeAmp f2.1 % 256 * 2 ^ ash)
  let inn := fun pl => (⟨cuffOf pl 0 a, false, some peak, none, some true, some a, some amp, some ash⟩ : LaneSet)
  let out := fun pl n => (⟨cuffOf pl 1 b, false, some (Config.freeCuf n % 65536), some tg.1, some true, some a, none, none⟩
    : LaneSet)
  ([inn 0, inn 1, out 0 f0.1, out 1 f1.1], tg.2, f2.2)

/-- The ingress, the egress Cuff lanes of a port move to the blocking slot (R188). -/
def closeIn (a : Nat) : List LaneSet := [0, 1].map fun pl => { slotSet (cuffOf pl 0 a) true with valid := some false }
def closeOut (b : Nat) : List LaneSet := [0, 1].map fun pl => { slotSet (cuffOf pl 1 b) true with valid := some false }

/-! ### Records -/

/-- The record of a key (R154). -/
def State.pathRec (s : State) (key : Nat) : PathRec := sget PathRec.idle s.pth.conn key

/-- Stores a record. -/
def State.setRec (s : State) (key : Nat) (r : PathRec) : State :=
  { s with pth := { s.pth with conn := sset s.pth.conn key r } }

/-- The in-port whose record shows an out-port in a layer. -/
def State.inOf (s : State) (layer b : Nat) : Option Nat :=
  (List.range 512).find? fun a => (s.pathRec (512 * layer + a)).st ≠ .idle && (s.pathRec (512 * layer + a)).out == b

/-- EQ_REFRESH (R171): the target of the ACTIVE path of out-port b is computed afresh and written to both egress lanes
when it moved by more than the deadband. -/
def doEqRefresh (b t : Nat) (s : State) : State :=
  let s1 := s.passTo t
  match s1.inOf s1.runLayer b with
  | none => s1
  | some a =>
    let key := 512 * s1.runLayer + a
    let r := s1.pathRec key
    if r.st ≠ .active then s1
    else
      let f0 := s1.takeFree
      let f1 := f0.2.takeFree
      let old := (s1.lane (cuffOf 0 1 b)).tgt
      let tg := s1.lossTarget a b (Config.freeLoss f0.1) (Config.freeLoss f1.1) (some old)
      let s2 := f1.2
      if 64 * s2.f PTH_EQ.EQ_DEADBAND [] < 5 * ((tg.1 : Int) - old).natAbs then
        let s3 := [0, 1].foldl (fun s pl => s.setLane (cuffOf pl 1 b) { s.lane (cuffOf pl 1 b) with tgt := tg.1 }) s2
        let s4 := s3.setRec key { r with eqR := tg.2 }
        if tg.2 then s4.raise PTH_EVT.EQ_RAISED [] else s4
      else s2

/-- Meaning of EQ_REFRESH (R171). -/
def execEqRefresh (b : Fin 512) (t : Nat) (s : State) : Host.Outcome State Fault Refusal := .next (doEqRefresh b t s)

end Sys2Proof.Machine
end

