-- ==== Sys2Proof/Machine/Path.lean ====
section
/-! DEFINITION. The path service's requests (R154 to R168): the checks at delivery, placement, staging, QUERY and FENCE,
and the completions of a transaction. -/
namespace Sys2Proof.Machine

/-! ### Status codes (R161, R250) -/

def stApplied : Nat := 0
def stBlocked : Nat := 1
def stMoves : Nat := 2
def stPort : Nat := 3
def stId : Nat := 4
def stState : Nat := 5
def stFault : Nat := 6
def stAbort : Nat := 7
def stTime : Nat := 8

/-- A management opcode (R245). -/
def isMgmt (op : Nat) : Bool := decide (0x10 ≤ op) && decide (op ≤ 0x12)

/-- A management descriptor on its own (R247). -/
def Txn.mgmt (x : Txn) : Bool := x.reqs.any fun r => isMgmt r.op

/-! ### Completions (R242, R248, R249) -/

/-- Fills the completion slot of a request. -/
def State.fillComp (s : State) (id : Nat) (c : Comp) : State :=
  { s with hif := { s.hif with compq := s.hif.compq.map fun x : CompSlot => if x.id = id then { x with comp := some c } else x } }

/-- What a transaction's completions share (R248). -/
structure Verdict where
  status : Nat
  validT : Word
  pattern : Nat
  rearr : Bool
  repaired : Bool
  eqRaised : Bool
  unobs : Bool
  moved : List Nat
  deriving DecidableEq, Repr

/-- A rejection: nothing was placed. -/
def Verdict.reject (st : Nat) : Verdict := ⟨st, 0, 0, false, false, false, false, []⟩

/-- RESULT0 and RESULT1 of a path request (R249): `old` is the out-port of the path that a RELEASE ends, `mid` the middle-stage
element of the path after the transaction. -/
def State.results (s : State) (v : Verdict) (r : Req) (old mid : Nat) : Word × Word :=
  if r.op = 2 then (wd (r.a + old * 2 ^ 16), 0)
  else (wd (r.a + r.b * 2 ^ 16), if v.status = stApplied then wd (mid
    + (if s.inFabric then s.sys.devid * 2 ^ 16 + r.dst * 2 ^ 24 else 0)) else 0)

/-- Completes every request of a transaction with one verdict (R248: the same status, flags, valid time, pattern and
count in each; TXN_END in the last, R242). `old` gives the out-port of an in-port before the request of a place, `mid` the
middle-stage element of a record after the transaction. -/
def State.completeTxn (s : State) (x : Txn) (v : Verdict) (old : Nat → Nat → Nat) (mid : Nat → Nat) : State :=
  let n := x.reqs.length
  (x.reqs.zip (List.range n)).foldl (fun s p =>
    let r := p.1
    let w := s.results v r (old p.2 r.a) (mid (512 * r.layer + r.a))
    s.fillComp r.id
      { cring := x.cring, reqId := r.reqId, op := r.op, status := v.status, rearr := v.rearr, repaired := v.repaired
        eqRaised := v.eqRaised, trunc := decide (x.movedCap < v.moved.length), unobs := v.unobs
        txnEnd := decide (p.2 + 1 = n), validT := if v.status = stApplied then v.validT else 0, pattern := v.pattern
        nMoved := v.moved.length, cmdCI := r.cmdCI, r0 := w.1, r1 := w.2
        moved := if p.2 = 0 then v.moved else [], movedAddr := x.movedAddr, movedCap := x.movedCap }) s

/-- The out-port that a record shows. -/
def State.shownOut (s : State) (layer a : Nat) : Nat :=
  if (s.pathRec (512 * layer + a)).st = .idle then 0 else (s.pathRec (512 * layer + a)).out

/-- Rejects a transaction (R161): the table and every element stay unchanged. -/
def State.rejectTxn (s : State) (x : Txn) (st : Nat) : State :=
  s.completeTxn x (Verdict.reject st) (fun _ a => s.shownOut ((x.reqs.map Req.layer).headD 0) a) fun _ => 0

/-! ### The table as the requests of a transaction see it (R158) -/

/-- Layer of a transaction (R212). -/
def Txn.layer (x : Txn) : Nat := (x.reqs.map Req.layer).headD 0

/-- One request applied to an overlay of out-ports by in-port. -/
def overlayReq (m : SMap (Option Nat)) (r : Req) : SMap (Option Nat) :=
  if r.op = 2 then sset m r.a none else sset m r.a (some r.b)

/-- The out-port of an in-port after the first n requests of a transaction. -/
def State.outAfter (s : State) (x : Txn) (n a : Nat) : Option Nat :=
  match sfind ((x.reqs.take n).foldl overlayReq []) a with
  | some o => o
  | none => (sget none s.pth.plan (512 * x.layer + a)).map Route.out

/-- Whether an out-port has a path after the first n requests. -/
def State.outUsed (s : State) (x : Txn) (n b : Nat) : Bool :=
  (List.range 512).any fun a => s.outAfter x n a == some b

/-! ### Checks at delivery (R161, R162, R208, R212) -/

/-- The identifier equals that of an uncompleted request of the same ring. -/
def State.idTaken (s : State) (x : Txn) (r : Req) : Bool :=
  s.hif.compq.any fun c => c.ring == x.ring && c.reqId == r.reqId && decide (c.id < r.id)

/-- Layers that a request may not name (R212, R219, R366). -/
def State.layerBad (s : State) (layer : Nat) : Bool :=
  if layer = 0 then false
  else s.inFabric || decide (s.yk.mode = 0) || decide (s.bankN s.yk.bank ≤ layer)

/-- What a fabric refuses with REJECTED_STATE (R365, R377): CONNECT and MOVE on a middle, a RELEASE or MOVE of a segment
that another device owns, a linked run that holds a fabric path. -/
def State.fabStateBad (s : State) (x : Txn) (r : Req) : Bool :=
  s.inFabric && ((decide (32 ≤ s.sys.devid) && r.op != 2) || decide (1 < x.reqs.length)
    || ((decide (32 ≤ s.sys.devid) || decide (256 ≤ r.a)) && r.op != 1 && (sget none s.pth.plan r.a).isSome))

/-- REJECTED_STATE (R161, R162, R339). -/
def State.stateBad (s : State) (x : Txn) (r : Req) : Bool :=
  s.fabStateBad x r || s.flt.safe || (decide (r.op ≠ 2) && s.throttle) || (s.inPair && decide (s.pair.role ≠ 1)) || s.layerBad r.layer
    || decide (r.layer ≠ x.layer)

/-- REJECTED_PORT for one request (R156, R158). -/
def State.portBad (s : State) (x : Txn) (i : Nat) (r : Req) : Bool :=
  match r.op with
  | 1 => (s.outAfter x i r.a).isSome || s.outUsed x i r.b
  | 2 => (s.outAfter x i r.a).isNone
  | _ => (s.outAfter x i r.a).isNone || (s.outUsed x i r.b && !(s.outAfter x i r.a == some r.b))

/-- REJECTED_PORT for a fabric path (R377): ports in 0–255; its out-port is looked at here only for a local path. -/
def State.fabPortBad (s : State) (x : Txn) (i : Nat) (r : Req) : Bool :=
  let far := decide (256 ≤ r.a) || decide (256 ≤ r.b) || decide (32 ≤ r.dst)
  let loc := decide (r.dst = s.sys.devid)
  match r.op with
  | 1 => far || (s.outAfter x i r.a).isSome || (loc && s.outUsed x i r.b)
  | 2 => (s.outAfter x i r.a).isNone
  | _ => far || (s.outAfter x i r.a).isNone || (loc && s.outUsed x i r.b && !(s.outAfter x i r.a == some r.b))

/-- REJECTED_TIME at delivery (R208). -/
def State.timeBad (s : State) (x : Txn) : Bool :=
  !x.asap && (decide (x.t + s.f YK_HORIZON.HORIZON [] * secNs < x.actT)
    || (decide (s.clr.st = .unset) && !s.fb YK_CTRL.ALLOW_UNSET []))

/-- The first of checks 1 to 4 that a request fails: its place in the order, and its status (R161). -/
def State.checkReq (s : State) (x : Txn) (i : Nat) (r : Req) : Option (Nat × Nat) :=
  if s.idTaken x r then some (1, stId)
  else if s.stateBad x r then some (2, stState)
  else if (if s.inFabric then s.fabPortBad x i r else s.portBad x i r) then some (3, stPort)
  else if s.timeBad x then some (4, stTime)
  else none

/-- The earlier of two failed checks. -/
def firstFail : Option (Nat × Nat) → Option (Nat × Nat) → Option (Nat × Nat)
  | some a, some b => if b.1 < a.1 then some b else some a
  | none, b => b
  | a, none => a

/-- Stores the transaction under check. -/
def State.setCur (s : State) (c : Option Cur) : State := { s with pth := { s.pth with cur := c } }

/-- No transaction is between its placement and the end of its staging (R158: one at a time). -/
def State.placeFree (s : State) : Bool := s.pth.placed.all fun p => p.staged || p.hold || p.rb

/-- The request under check has been checked with result `f`: after the last one, a failure rejects the transaction. -/
def State.checked (s : State) (c : Cur) (f : Option (Nat × Nat)) : State :=
  let fail := firstFail c.fail f
  if c.idx + 1 < c.txn.reqs.length then s.setCur (some { c with idx := c.idx + 1, fail := fail })
  else match fail with
    | some x => (s.setCur none).rejectTxn c.txn x.2
    | none => s.setCur (some { c with idx := c.idx + 1, fail := none })

/-- The oldest delivered descriptor or transaction of the path service, with the rest: Prale takes the management descriptors
(R158, R247). -/
def frontReq (l : List Txn) : Option (Txn × List Txn) :=
  (l.find? fun x => !x.mgmt).map fun x => (x, l.eraseP fun x => !x.mgmt)

/-- The transaction whose next request is to be checked: the one under check, or the oldest delivered one. -/
def State.takeCur (s : State) : Option (Cur × State) :=
  match s.pth.cur with
  | some c => some (c, s)
  | none =>
    match frontReq s.pth.delivered with
    | some p => some (⟨p.1, 0, none⟩, { s with pth := { s.pth with delivered := p.2 } })
    | none => none

/-- A CONNECT, RELEASE or MOVE is checked (R156, R161): the next request of the transaction in hand when it has this
opcode; nothing otherwise. -/
def State.request (s : State) (op : Nat) : State :=
  if !s.placeFree then s
  else match s.takeCur with
    | none => s
    | some (c, s1) =>
      match c.txn.reqs[c.idx]? with
      | some r => if r.op = op then s1.checked c (s1.checkReq c.txn c.idx r) else s
      | none => s

/-! ### Placement (R165 to R167) -/

/-- The in-ports that a transaction names, once each, in request order. -/
def Txn.named (x : Txn) : List Nat := x.reqs.foldl (fun l r => if l.contains r.a then l else l ++ [r.a]) []

/-- The in-ports for which a transaction makes a path, in the order of the requests that make it (R165): a MOVE to the present
out-port makes none. -/
def State.makers (s : State) (x : Txn) : List Nat :=
  (x.reqs.zip (List.range x.reqs.length)).foldl (fun l p =>
    if p.1.op = 2 ∨ s.outAfter x p.2 p.1.a = some p.1.b then l else l.filter (· ≠ p.1.a) ++ [p.1.a]) []

/-- The new paths of a transaction: in-port and out-port, in request order; a MOVE to the present out-port is none. -/
def State.newPaths (s : State) (x : Txn) : List (Nat × Nat) :=
  (s.makers x).filterMap fun a =>
    match s.outAfter x x.reqs.length a with
    | some b =>
      let kept := (sget none s.pth.plan (512 * x.layer + a)).map Route.out == some b
        && x.reqs.all (fun r => r.a ≠ a || r.op == 3)
      if kept then none else some (a, b)
    | none => none

/-- The non-disturbing search for each new path in turn (R165). -/
def placeAll (x : NodeSet) : List Rt → List (Nat × Nat) → Option (List Rt)
  | _, [] => some []
  | others, p :: t =>
    match place x others p.1 p.2 with
    | some m => (placeAll x (⟨p.1, p.2, m⟩ :: others) t).map fun l => ⟨p.1, p.2, m⟩ :: l
    | none => none

/-- The routes of a layer that a transaction leaves in the table: those of in-ports it neither releases nor places
anew. The old paths of all its RELEASE and MOVE requests are out of the table before its first search (DESIGN CHOICE, log entry
184). -/
def State.keptRoutes (s : State) (x : Txn) : List Rt :=
  (s.planPaths x.layer).filter fun r => !(x.named.contains r.a) ||
    (decide (s.outAfter x x.reqs.length r.a = some r.b) && !((s.newPaths x).any fun p => p.1 == r.a))

/-- The result of placement: the new routes, the moved existing paths and whether R167 placed them, or the status of a
rejection. -/
inductive PlaceR where
  | ok (new : List Rt) (moved : List Rt) (loop : Bool)
  | bad (status : Nat)
  deriving DecidableEq, Repr

/-- Placement with rearrangement (R167), at most `maxMoved` paths moved where that is not 0. -/
def placeMoves (x : NodeSet) (kept : List Rt) (named : List Nat) (new : List (Nat × Nat)) (maxMoved : Nat) : PlaceR :=
  match rearrange x kept new with
  | none => .bad stBlocked
  | some all =>
    let diff := all.filter fun r => kept.any fun k => k.a == r.a && k.m != r.m
    let moved := diff.filter fun r => !named.contains r.a
    if maxMoved ≠ 0 ∧ maxMoved < moved.length then .bad stMoves
    else .ok ((all.filter fun r => new.any fun p => p.1 == r.a) ++ diff.filter fun r => named.contains r.a) moved true

/-- Placement under a policy (R165, R166, R167): 0 REJECT, 1 REARRANGE, 2 REARRANGE_AT_ACT. Paths of named in-ports do not
count as moved. -/
def placeTxn (x : NodeSet) (kept : List Rt) (named : List Nat) (new : List (Nat × Nat)) (policy maxMoved : Nat) : PlaceR :=
  match placeAll x kept new with
  | some l => .ok l [] false
  | none => if policy = 0 then .bad stBlocked else placeMoves x kept named new maxMoved

/-- A route as the table holds it. -/
def Rt.route (r : Rt) : Route := ⟨r.b, r.m⟩

/-- The changes of a transaction: every named in-port, then the moved ones (R158). -/
def State.changes (s : State) (x : Txn) (new moved : List Rt) : List Chg :=
  let k := fun a => 512 * x.layer + a
  let mk := fun a n => (⟨k a, sget none s.pth.plan (k a), n, s.pathRec (k a)⟩ : Chg)
  (x.named.map fun a => mk a (match new.find? (fun r => r.a == a) with
    | some r => some r.route
    | none => if (s.outAfter x x.reqs.length a).isSome then sget none s.pth.plan (k a) else none))
  ++ moved.map fun r => mk r.a (some r.route)

/-- The records that a placement changes: a path placed anew reads PENDING (R155). -/
def State.pendRecs (s : State) (l : List Chg) (new : List Rt) : State :=
  l.foldl (fun s c => match c.new with
    | some r => if new.any (fun n => n.a == c.key % 512)
      then s.setRec c.key { s.pathRec c.key with st := .pending, out := r.out, mid := r.mid } else s
    | none => s) s

/-- The table of placed transactions takes the changes. -/
def planTake (m : SMap (Option Route)) (l : List Chg) : SMap (Option Route) := l.foldl (fun m c => sset m c.key c.new) m

/-- The latest boundary of an earlier placed pattern that has not fired (R159); in calendar mode the next change of a
layer takes a later turn. -/
def State.afterDue (s : State) (layer : Nat) : Nat :=
  (s.yk.store.filter fun p => (p.st == .staged || p.st == .armed) && (p.kind == .request || p.kind == .rollback)
      && (!s.isCal layer || p.layer == layer)).foldl
    (fun a p => max a (s.patDue p + b2n (s.isCal layer))) 0

/-- Whether the pattern of a transaction is announced by a NOTICE (R221). -/
def State.noticed (s : State) (rearr : Bool) (layer : Nat) : Bool :=
  s.annEn && ((rearr && s.fb PTH_CTRL.NOTICE_EN []) || (!s.isCal layer && s.fb YK_CTRL.ANN_STATIC []))

/-- The boundary of a placed transaction whose staging ends at endT (R206, R207, R159, R215, R222). -/
def State.txnDue (s : State) (x : Txn) (loop rearr : Bool) (endT : Nat) : DueR :=
  let want := if loop ∧ x.policy = 1 then (if x.rasap then none else some x.rearrT)
    else if x.asap then none else some x.actT
  let after := s.afterDue x.layer
  if s.isCal x.layer then
    s.layerDue x.layer endT want after
      (if s.annEn then endT + (if s.noticed rearr x.layer then max s.annLead s.noticeLead else s.annLead) else 0)
  else s.staticDue endT want after (if s.noticed rearr x.layer then endT + s.noticeLead else 0)

/-- The unit number of a pair module (R332). -/
def State.unit (s : State) : Nat := if s.sys.pref then 0 else 1

/-- The boundary at which this unit applies a pair transaction whose boundary is k (R346). -/
def State.unitDue (s : State) (layer : Nat) (rearr : Bool) (k : Nat) : Nat :=
  if s.inPair && rearr && decide (s.unit = 1) then
    (if s.isCal layer then s.layerTurn layer (k + 1) else s.boundary (k + 1))
  else k

/-- The precondition digest of R341. -/
def State.tableDigest (s : State) (layer : Nat) : Word :=
  crc32c ((List.range 512).flatMap fun a => le2 (match sget none s.pth.plan (512 * layer + a) with
    | some r => 2 ^ 15 + r.out
    | none => 0))

/-- Adds a placed transaction. -/
def State.addPlaced (s : State) (p : Placed) : State :=
  { s with pth := { s.pth with placed := s.pth.placed ++ [p], nextId := max s.pth.nextId (p.id + 1) } }

/-- A placed transaction by its number. -/
def State.txn? (s : State) (id : Nat) : Option Placed := s.pth.placed.find? fun p => p.id == id

/-- Runs `k` on each placed transaction that `sel` picks, in placement order, as it stands when its turn comes. -/
def State.eachTxn (s : State) (sel : Placed → Bool) (k : State → Placed → State) : State :=
  ((s.pth.placed.filter sel).map Placed.id).foldl (fun s n => match s.txn? n with
    | some p => k s p
    | none => s) s

/-- A late request is counted and reported (R207). -/
def State.countLate (s : State) : State :=
  (s.setF YK_CNT.LATE [] (min 65535 (s.f YK_CNT.LATE [] + 1))).raise YK_EVT.LATE []

/-- The next PTN goes out with a TXN: its ACK is awaited until MIR_TO ends and until the commit point of its boundary (R340). With
the link down nothing is mirrored (R336, R362). -/
def State.mirrorOut (s : State) (w : TxnW) : State :=
  let s1 := { s with pair := { s.pair with
    ptn := w.ptn.toNat, ackWait := s.pair.ackWait ++ [(w.ptn.toNat, s.clr.now + s.f PAIR_TIME.MIR_TO [] * 1000, w.due - s.leadNs)] } }
  if s.pair.lanes = 0 then s1 else (s1.mirSend (.txn w)).bump .PAIR_CNT [0] 1

/-- In PAIR, the transaction gets its PTN and goes to the standby as TXN at the end of placement, with its boundary chosen as if
staging ended MIR_TO later (R340); a late or deferred one is reported here (R207, R222). -/
def State.mirrorTxn (s : State) (p : Placed) (digest : Word) : State × Placed :=
  if !s.inPair then (s, p)
  else
    let n := (s.pair.ptn + 1) % 2 ^ 32
    let d := s.txnDue p.txn p.loop p.rearr (s.clr.now + s.f PAIR_TIME.MIR_TO [] * 1000)
    let reqs := p.txn.reqs.map fun r => (⟨r.op, r.a, r.b, (match p.chg.find? (fun c => c.key == 512 * r.layer + r.a) with
      | some c => (c.new.map Route.mid).getD 0
      | none => 0), r.reqId⟩ : PairReq)
    let s1 := if d.late then s.countLate else s
    let s2 := if d.defer then s1.raise YK_EVT.ANN_DEFER [] else s1
    (s2.mirrorOut ⟨wd n, p.txn.ring, reqs, d.due, p.rearr, p.txn.layer, digest⟩, { p with ptn := some n, mirDue := some d.due })

/-- The table takes the changes of a placement, and the records of its new paths read PENDING (R155, R158). -/
def State.takeChanges (s : State) (l : List Chg) (new : List Rt) : State :=
  let s1 := s.pendRecs l new
  { s1 with pth := { s1.pth with plan := planTake s1.pth.plan l } }

/-- Places a checked transaction (R158, R165, R166): the table takes its changes, or it is rejected. -/
def State.placeNow (s : State) (x : Txn) : State :=
  match placeTxn s.exclNodes (s.keptRoutes x) x.named (s.newPaths x) x.policy x.maxMoved with
  | .bad st => s.rejectTxn x st
  | .ok new moved loop =>
    let l := s.changes x new moved
    -- in PAIR the last checks fall here, because a rejected transaction is not mirrored (R340)
    let late := s.inPair && (s.txnDue x loop (!moved.isEmpty) (s.clr.now + s.f PAIR_TIME.MIR_TO [] * 1000)).late
    if s.inPair && decide (s.freeNums.length < 5) then
      (s.raise YK_EVT.STORE_FULL []).rejectTxn x stTime
    else if late && s.fb YK_CTRL.LATE_MODE [] then (s.raise YK_EVT.LATE []).rejectTxn x stTime
    else
      let p := { Placed.new s.pth.nextId x l (moved.map Rt.a) loop with host := true }
      let m := (s.takeChanges l new).mirrorTxn p (s.tableDigest x.layer)
      m.1.addPlaced m.2

/-- PLACEMENT (R165): the transaction in hand, every request of it checked, is placed or rejected. -/
def State.placement (s : State) : State :=
  match s.pth.cur with
  | some c =>
    if c.txn.reqs.length ≤ c.idx ∧ s.placeFree = true then (s.setCur none).placeNow c.txn else s
  | none => s

/-! ### Staging (R206, R168, R172) -/

/-- Switching lanes of a route (R44). -/
def routeLanes (a : Nat) (r : Route) : List LaneSet :=
  (Rt.nodes ⟨a, r.out, r.mid⟩).flatMap fun n => (nodeLanes n.1 n.2.1 n.2.2).map fun x => slotSet x.1 x.2

/-- The lanes of a transaction's pattern with its Cuff settings (R168, R172, R188), and whether a target was raised. A path that
keeps its ports keeps its loss target, floor and currents on its new route (DESIGN CHOICE, log entry 185). -/
def State.stageLanes (s : State) (l : List Chg) : List LaneSet × Bool × State :=
  let sw := l.flatMap fun c => match c.new with
    | some r => routeLanes (c.key % 512) r
    | none => []
  let close := l.flatMap fun c =>
    (if c.new.isNone && c.old.isSome then closeIn (c.key % 512) else []) ++
    (match c.old with
      | some r => if l.any (fun d => (d.new.map Route.out) == some r.out) then [] else closeOut r.out
      | none => [])
  let open_ := l.foldl (fun (acc : List LaneSet × Bool × State) c => match c.new with
    | some r =>
      if c.old.map Route.out = some r.out then acc
      else
        let o := acc.2.2.openPath (c.key % 512) r.out
        let s1 := if o.2.1 then (o.2.2.setRec c.key { o.2.2.pathRec c.key with eqR := true }).raise PTH_EVT.EQ_RAISED []
          else o.2.2.setRec c.key { o.2.2.pathRec c.key with eqR := false }
        (acc.1 ++ o.1, acc.2.1 || o.2.1, s1)
    | none => acc) ([], false, s)
  (sw ++ close ++ open_.1, open_.2.1, open_.2.2)

/-- Changes the placed transaction with this number. -/
def State.modTxn (s : State) (id : Nat) (f : Placed → Placed) : State :=
  { s with pth := { s.pth with placed := s.pth.placed.map fun x => if x.id = id then f x else x } }

/-- Removes a placed transaction. -/
def State.dropPlaced (s : State) (p : Placed) : State :=
  { s with pth := { s.pth with placed := s.pth.placed.filter fun x => x.id ≠ p.id } }

/-! ### Records under several transactions (R155, R158)

The record shown of an in-port is that of the last placed transaction that places a path there. Each later transaction keeps in
its changes the record that it will find when those before it are resolved. -/

/-- The record `rc` goes to the transactions of the list that change a key, up to the one whose new path the table shows: true
when none does, so that the shown record is `rc` itself. -/
def recWalk (key : Nat) (rc : PathRec) : List Placed → List Placed × Bool
  | [] => ([], true)
  | q :: t =>
    match q.chg.find? fun c => c.key == key with
    | none => let r := recWalk key rc t; (q :: r.1, r.2)
    | some c =>
      let q1 := { q with chg := q.chg.map fun d => if d.key = key then { d with rcd := rc } else d }
      if c.new.isSome && c.new != c.old && !q.moved.contains (key % 512) then (q1 :: t, false)
      else let r := recWalk key rc t; (q1 :: r.1, r.2)

/-- The record of a key before the transactions of the list. -/
def State.recBefore (s : State) (l : List Placed) (key : Nat) : PathRec :=
  match l.findSome? fun q => q.chg.find? fun c => c.key == key with
  | some c => c.rcd
  | none => s.pathRec key

/-- Writes the record of a key as it stands before the transactions that follow the first `n` (R155). -/
def State.recWrite (s : State) (n key : Nat) (f : PathRec → PathRec) : State :=
  let l := s.pth.placed
  let rc := f (s.recBefore (l.drop n) key)
  let w := recWalk key rc (l.drop n)
  let s1 := { s with pth := { s.pth with placed := l.take n ++ w.1 } }
  if w.2 then s1.setRec key rc else s1

/-- How many of the placed transactions have been placed up to transaction `id`, itself included. -/
def State.upTo (s : State) (id : Nat) : Nat := s.pth.placed.findIdx (fun p => p.id == id) + 1

/-- Transactions from the first that has not fired and changes a key: before them stands the record of the path in force. -/
def State.firedPart (s : State) (key : Nat) : Nat :=
  s.pth.placed.findIdx fun p => !p.fired && p.chg.any fun c => c.key == key

/-- The record of the path in force of a key (R155). -/
def State.liveRec (s : State) (key : Nat) : PathRec := s.recBefore (s.pth.placed.drop (s.firedPart key)) key

/-- Changes the record of the path in force of a key. -/
def State.modLive (s : State) (key : Nat) (f : PathRec → PathRec) : State := s.recWrite (s.firedPart key) key f

/-- The first transaction of the list that changes a key starts from another route: true when there is none. -/
def oldWalk (key : Nat) (old : Option Route) : List Placed → List Placed × Bool
  | [] => ([], true)
  | q :: t =>
    if q.chg.any fun c => c.key == key then
      ({ q with chg := q.chg.map fun d => if d.key = key then { d with old := old } else d } :: t, false)
    else let r := oldWalk key old t; (q :: r.1, r.2)

/-- A later transaction that stays has given the out-port or the links of an old route to another path (R187; DESIGN CHOICE, log
entry 187). -/
def State.taken (s : State) (n : Nat) (c : Chg) : Bool :=
  match c.old with
  | none => false
  | some r => (s.pth.placed.drop n).any fun q => q.chg.any fun d =>
      decide (d.key ≠ c.key) && decide (d.key / 512 = c.key / 512) && (match sget none s.pth.plan d.key with
        | some o => o.out == r.out || Rt.conflicts ⟨c.key % 512, r.out, r.mid⟩ ⟨d.key % 512, o.out, o.mid⟩
        | none => false)

/-- Takes one change of transaction p back: route, record and, where no later transaction has fired on it, the route in force
are as before it; with no path where a later one has taken its out-port. -/
def State.undoChg (s : State) (p : Placed) (c : Chg) : State :=
  let n := s.upTo p.id
  let fired := p.fired && !((s.pth.placed.drop n).any fun q => q.fired && q.chg.any fun d => d.key == c.key)
  let gone := s.taken n c
  let old := if gone then none else c.old
  let s1 := s.recWrite n c.key fun _ => if gone then PathRec.idle else c.rcd
  let w := oldWalk c.key old (s1.pth.placed.drop n)
  { s1 with pth := { s1.pth with
    placed := s1.pth.placed.take n ++ w.1
    plan := if w.2 then sset s1.pth.plan c.key old else s1.pth.plan
    live := if fired then sset s1.pth.live c.key old else s1.pth.live } }

/-- A placed transaction leaves the table as it was before it (R161, R186), and is gone. -/
def State.withdraw (s : State) (p : Placed) : State :=
  match s.txn? p.id with
  | some q => (q.chg.foldl (fun s c => s.undoChg q c) s).dropPlaced q
  | none => s

/-- The announcements of a staged pattern whose boundary is k (R221, R222, R347): CAL_MAP of a layer; a NOTICE, in a pair one for
each unit where paths move. -/
def State.announceTxn (s : State) (p : Placed) (pat k : Nat) : State :=
  let ly := p.txn.layer
  let s1 := if s.isCal ly && s.annEn then s.sendMap s.pth.plan ly k else s
  if !s1.noticed p.rearr ly then s1
  else if s1.inPair && p.rearr && s1.fb PTH_CTRL.NOTICE_EN [] then
    (s1.notice k pat 3 true p.entries).notice (if s1.isCal ly then s1.layerTurn ly (k + 1) else s1.boundary (k + 1)) pat 4 true p.entries
  else s1.notice k pat (b2n p.rearr) true p.entries

/-- A re-route of a fabric fires off the grid, as a repair does (R384); every other transaction on the grid. -/
def State.segKind (s : State) (p : Placed) : PatKind :=
  match p.seg with
  | some x => if s.fab.segs.any (fun g => g.owner == x.1 && g.num == x.2 && g.kind == 3) then .repair else .request
  | none => .request

/-- Every lane that the pattern of a list of changes commands (R168, R172, R212): in a layer of the calendar those of the whole
layer; whether a target was raised. -/
def State.patLanes (s : State) (layer : Nat) (l : List Chg) : List LaneSet × Bool × State :=
  let x := s.stageLanes l
  let s1 := x.2.2
  (if s1.isCal layer then s1.layerLanes (s1.planPaths layer) (s1.priorLanes layer ++ x.1) ++ x.1 else x.1, x.2.1, s1)

/-- Ends the staging of a placed transaction (R204, R206, R207, R222): the last checks, the pattern and its boundary. -/
def State.stage (s : State) (p : Placed) : State :=
  let x := p.txn
  let d := match p.mirDue with
    | some k => let u := s.unitDue x.layer p.rearr k; (⟨u, u, false, false⟩ : DueR)
    | none => s.txnDue x p.loop p.rearr s.clr.now
  if p.mirDue.isNone && decide (s.freeNums.length < 5) then
    ((s.withdraw p).rejectTxn x stTime).raise YK_EVT.STORE_FULL []
  else if d.late && s.fb YK_CTRL.LATE_MODE [] then
    ((s.withdraw p).rejectTxn x stTime).raise YK_EVT.LATE []
  else
    let lanes := s.patLanes x.layer p.chg
    let s1 := lanes.2.2
    let timed := (p.loop && decide (x.policy = 1) && !x.rasap) || (!(p.loop && decide (x.policy = 1)) && !x.asap)
    match s1.newPat (s1.segKind p) .staged lanes.1 d.floor s1.leadNs timed x.layer with
    | none => s
    | some (n, s2) =>
      let s3 := s2.modTxn p.id fun q => { q with pat := n, staged := true, eqRaised := lanes.2.1 }
      let s4 := if d.late then s3.countLate else s3
      let s5 := if d.defer then s4.raise YK_EVT.ANN_DEFER [] else s4
      s5.announceTxn p n (p.mirDue.getD d.due)

/-- STAGING_END (R206): staging of the transaction placed last ends at network time t. -/
def doStagingEnd (t : Nat) (s : State) : State :=
  let s1 := s.passTo t
  match s1.pth.placed.find? (fun p => !p.staged && !p.hold && !p.rb) with
  | some p => State.schedEvent s (s1.stage p)
  | none => s1

/-- Meaning of STAGING_END (R206). -/
def execStagingEnd (t : Nat) (s : State) : Host.Outcome State Fault Refusal := .next (doStagingEnd t s)

/-! ### Placing again (R182, R186) -/

/-- A transaction that may still be placed again: its pattern is not ARMED (R204). -/
def State.open_ (s : State) (p : Placed) : Bool :=
  !p.fired && !p.rb && !p.lost && (!p.staged || (match s.pat? p.pat with
    | some q => q.st == .staged
    | none => false))

/-- Writes the lanes of an unfired transaction's pattern afresh after its routes changed; its placement order is that of
the last placement (R209). -/
def State.rebuild (s : State) (p : Placed) : State :=
  if !p.staged then s
  else
    let lanes := s.patLanes p.txn.layer p.chg
    let y := lanes.2.2.yk
    let s2 := { lanes.2.2 with yk := { y with stamp := y.stamp + 1 } }
    s2.modPat p.pat fun q => { q with lanes := lanes.1, order := y.stamp }

/-- The requests of a transaction are refused by the table as it stands (R156, R158). -/
def State.txnBad (s : State) (x : Txn) : Bool := (x.reqs.zip (List.range x.reqs.length)).any fun q => s.portBad x q.2 q.1

/-- The same for a transaction that was placed before; in a fabric by R377. -/
def State.reqsBad (s : State) (p : Placed) : Bool :=
  if s.inFabric && p.host then (p.txn.reqs.zip (List.range p.txn.reqs.length)).any fun q => s.fabPortBad p.txn q.2 q.1
  else s.txnBad p.txn

/-- The changes of a withdrawn transaction on the table as it stands: those it had, where its routes still fit and cross no node
of `bad` (R164, R165). -/
def State.sameChg (s : State) (p : Placed) (bad : NodeSet) : Option (List Chg) :=
  let l := p.chg.map fun c =>
    let o := sget none s.pth.plan c.key
    (⟨c.key, o, if c.new = c.old then o else c.new, s.pathRec c.key⟩ : Chg)
  let new := l.filterMap fun c => c.new.map fun r => (⟨c.key % 512, r.out, r.mid⟩ : Rt)
  let kept := (s.planPaths p.txn.layer).filter fun r => !(l.any fun c => c.key % 512 == r.a)
  let stay := l.all fun c => !p.moved.contains (c.key % 512) || decide (c.old.map Route.out = c.new.map Route.out)
  if stay && new.all fun r => !r.hits bad && kept.all fun k => k.b != r.b && !k.conflicts r then some l else none

/-- Placement refuses a transaction that was placed before (R182): its pattern is dropped, and it is to complete
NOT_APPLIED_FAULT. -/
def State.loseTxn (s : State) (p : Placed) : State :=
  (if p.staged then s.freePat p.pat else s).addPlaced { p with lost := true, chg := [], moved := [] }

/-- A withdrawn transaction is placed again (R182): as it was where that fits, else by the search; its pattern follows those
placed before. -/
def State.redo (bad : NodeSet) (s : State) (p : Placed) : State :=
  if s.reqsBad p then s.loseTxn p
  else match s.sameChg p bad with
    | some l =>
      let q := { p with chg := l }
      let new := l.filterMap fun c => if p.moved.contains (c.key % 512) ∨ c.new = c.old then none
        else c.new.map fun r => (⟨c.key % 512, r.out, r.mid⟩ : Rt)
      ((s.takeChanges l new).addPlaced q).rebuild q
    | none =>
      let x := p.txn
      match placeTxn s.exclNodes (s.keptRoutes x) x.named (s.newPaths x) x.policy x.maxMoved with
      | .bad _ => s.loseTxn p
      | .ok new moved loop =>
        let l := s.changes x new moved
        let q := { p with chg := l, moved := moved.map Rt.a, rearr := !moved.isEmpty, loop := loop }
        ((s.takeChanges l new).addPlaced q).rebuild q

/-- The open transactions of a layer after the first `n` placed. -/
def State.openFrom (s : State) (layer n : Nat) : List Placed :=
  (s.pth.placed.drop n).filter fun p => p.txn.layer == layer && s.open_ p

/-- Runs `k` on the table without the open transactions of a layer after the first `n` placed, which are then placed again in
their order (R182). -/
def State.beneath (s : State) (layer n : Nat) (bad : NodeSet) (k : State → State) : State :=
  let l := s.openFrom layer n
  l.foldl (State.redo bad) (k (l.reverse.foldl State.withdraw s))

/-! ### QUERY and FENCE (R160, R242, R249) -/

/-- The tag status of an in-port (R176). -/
def State.tagStatus (s : State) (a : Nat) : Nat := (sget TagV.off s.pth.tags a).status

/-- The words of a record as a QUERY gives them (R249). -/
def State.queryWords (s : State) (layer : Nat) (sel : Bool) (port : Nat) : Word × Word × Nat :=
  let found := if sel then s.inOf layer port
    else if (s.pathRec (512 * layer + port)).st = .idle then none else some port
  match found with
  | none => (wd (if sel then port * 2 ^ 16 else port), 0, 0)
  | some a =>
    let r := s.pathRec (512 * layer + a)
    (wd (r.st.code * 2 ^ 29 + s.tagStatus a * 2 ^ 26 + b2n r.eqR * 2 ^ 25 + r.out * 2 ^ 16 + a), r.validT, r.mid)

/-- The completion of a descriptor that is no path request. -/
def mgmtComp (x : Txn) (r : Req) (status : Nat) (r0 r1 : Word) : Comp :=
  { cring := x.cring, reqId := r.reqId, op := r.op, status := status, rearr := false, repaired := false
    eqRaised := false, trunc := false, unobs := false, txnEnd := true, validT := 0, pattern := 0, nMoved := 0
    cmdCI := r.cmdCI, r0 := r0, r1 := r1, moved := [], movedAddr := 0, movedCap := 0 }

/-- Takes the oldest delivered descriptor when its opcode is `op` and none is under check (R158, R160). -/
def State.takeOp (s : State) (op : Nat) : Option (Txn × Req × State) :=
  if s.pth.cur.isSome || !s.placeFree then none
  else match frontReq s.pth.delivered with
    | some (x, rest) => match x.reqs with
      | r :: _ => if r.op = op then some (x, r, { s with pth := { s.pth with delivered := rest } }) else none
      | [] => none
    | none => none

/-- QUERY (R160): answered from the table as it stands, in the layer of YK_VIEW (R212, R249); the safe state and the mode do not
refuse it. A request whose own layer the mode does not allow is refused (R212). -/
def doQuery (s : State) : State :=
  match s.takeOp 4 with
  | none => s
  | some (x, r, s1) =>
    if s1.idTaken x r then s1.fillComp r.id (mgmtComp x r stId 0 0)
    else if s1.layerBad r.layer then s1.fillComp r.id (mgmtComp x r stState 0 0)
    else
      let w := s1.queryWords (s1.f YK_VIEW.LAYER []) r.sel r.a
      s1.fillComp r.id { mgmtComp x r stApplied w.1 w.2.1 with pattern := w.2.2 }

/-- Meaning of QUERY (R160). -/
def execQuery (s : State) : Host.Outcome State Fault Refusal := .next (doQuery s)

/-- FENCE (R242): completes APPLIED; its entry waits for every earlier descriptor of its ring. -/
def doFence (s : State) : State :=
  match s.takeOp 0 with
  | none => s
  | some (x, r, s1) =>
    if s1.idTaken x r then s1.fillComp r.id (mgmtComp x r stId 0 0)
    else s1.fillComp r.id (mgmtComp x r stApplied 0 0)

/-- Meaning of FENCE (R242). -/
def execFence (s : State) : Host.Outcome State Fault Refusal := .next (doFence s)

end Sys2Proof.Machine
end

