-- ==== Sys2Proof/Machine/PairOps.lean ====
section
/-! DEFINITION. Operations that the pair, the path service and the fabric share: PAIR events, the resynchronisation
snapshot (R357), roll-back patterns (R186), and the control messages and outcomes of a fabric (R370, R380). -/
namespace Sys2Proof.Machine

/-! ### Pair (R342, R357, R358, R361) -/

/-- The bit of PAIR_EVT with the name of a PAIR event; ADOPTED has none (R361, R362). -/
def pairBitOf (sub : Nat) : Option Nat := if sub = 5 then none else if sub < 5 then some (sub - 1) else some (sub - 2)

/-- A PAIR event (R361); there is none outside PAIR mode. -/
def State.pairEvent (s : State) (sub : Nat) (pl : List Word) : State :=
  if !s.inPair then s
  else
    let s1 := match pairBitOf sub with
      | some b => s.setReg .PAIR_EVT [] (s.reg .PAIR_EVT [] ||| wd (2 ^ b))
      | none => s
    s1.post 4 0x40 sub pl

/-- Stores the pair logic. -/
def State.setPair (s : State) (p : Pair) : State := { s with pair := p }

/-- A standby that is SYNCING or SYNCED leaves it (R356): SYNC_LOST with its cause. -/
def State.loseSync (s : State) (cause : Nat) : State :=
  if s.pair.role = 2 ∧ (s.pair.sync = 1 ∨ s.pair.sync = 2) then
    (s.setPair { s.pair with sync := 0, snap := [], snapOn := false }).pairEvent 3 [wd cause]
  else s

/-- The pattern of a snapshot: no request, no PTN, no segment (R357). -/
def Placed.isSnap (p : Placed) : Bool := !p.host && p.ptn.isNone && p.seg.isNone && !p.rb

/-- The request that makes a change, for the mirror (R186: a roll-back is mirrored like any other transaction). -/
def reqOfChg (c : Chg) : Option PairReq :=
  match c.old, c.new with
  | some _, none => some ⟨2, c.key % 512, 0, 0, 0⟩
  | none, some r => some ⟨1, c.key % 512, r.out, r.mid, 0⟩
  | some o, some r => if o.out = r.out then none else some ⟨3, c.key % 512, r.out, r.mid, 0⟩
  | none, none => none

/-- The TXN of a placed transaction in a snapshot (R337, R357). -/
def State.txnW (s : State) (p : Placed) (n : Nat) : TxnW :=
  let x := p.txn
  let reqs := if p.rb then p.chg.filterMap reqOfChg
    else x.reqs.map (fun r => (⟨r.op, r.a, r.b, (match p.chg.find? (fun c => c.key == 512 * r.layer + r.a) with
      | some c => (c.new.map Route.mid).getD 0
      | none => 0), r.reqId⟩ : PairReq))
  ⟨wd n, x.ring, reqs, p.mirDue.getD 0, p.rearr, x.layer, s.tableDigest x.layer⟩

/-- Layers of a table with a path, and layer 0. -/
def usedLayers (m : SMap (Option Route)) : List Nat :=
  (List.range 64).filter fun l => l == 0 || m.any fun p => p.2.isSome && p.1 / 512 == l

/-- Mirrored transactions that are placed and have not resolved, in placement order (R357). -/
def State.openTxns (s : State) : List (Placed × Nat) := s.pth.placed.filterMap fun p => p.ptn.map fun n => (p, n)

/-- The table without the transactions of a list (R357). -/
def tableBefore (m : SMap (Option Route)) (l : List (Placed × Nat)) : SMap (Option Route) :=
  l.foldr (fun p m => p.1.chg.foldl (fun m c => sset m c.key c.old) m) m

/-- Sends the snapshot of R357: one STATE frame for each layer in use, the last with the transactions that have not
resolved; the table is the one that they start from. -/
def State.sendSnapshot (s : State) : State :=
  let open_ := s.openTxns
  let tab := tableBefore s.pth.plan open_
  let ls := usedLayers tab
  (ls.zip (List.range ls.length)).foldl (fun s x =>
    let last := decide (x.2 + 1 = ls.length)
    s.mirSend (.state ⟨x.2, last, tab.filterMap (fun p => match p.2 with
        | some r => if p.1 / 512 = x.1 then some (p.1, r.out) else none
        | none => none),
      if last then open_.map (fun p => s.txnW p.1 p.2) else [], wd s.pair.ptn, wd s.pair.seq⟩)) s

/-- The standby's outcome `st` of a PTN against the own one `own` (R342): a difference starts a resynchronisation. -/
def State.compareOut (s : State) (n own st : Nat) : State :=
  if own = st then s
  else (s.pairEvent 8 [wd n, wd st]).sendSnapshot

/-- The boundary at which the other unit applies a pair transaction whose boundary is k (R346). -/
def State.peerDue (s : State) (layer : Nat) (rearr : Bool) (k : Nat) : Nat :=
  if rearr && decide (s.unit = 0) then (if s.isCal layer then s.layerTurn layer (k + 1) else s.boundary (k + 1)) else k

/-- The outcome of a transaction with a PTN is known on this module (R342, R358): the active one holds it against the standby's,
the standby reports it. A snapshot that is not applied leaves the standby out of sync (R356; DESIGN CHOICE, log entry 228). -/
def State.pairDone (s : State) (p : Placed) (status : Nat) (vt : Word) : State :=
  match p.ptn with
  | none => if p.isSnap && decide (status ≠ stApplied) then s.loseSync 3 else s
  | some n =>
    let w : List Word := [((p.txn.reqs.map Req.reqId).headD 0), wd (status + p.txn.ring * 256), vt, wd n]
    if !s.inPair then s
    else if s.pair.role = 1 ∨ s.pair.role = 3 then
      let s1 := match s.pair.peerOuts.find? (fun x => x.1 == n) with
        | some x => { s with pair := { s.pair with peerOuts := s.pair.peerOuts.filter fun y => y.1 ≠ n } }.compareOut n status x.2
        | none => { s with pair := { s.pair with outs := s.pair.outs ++ [(n, status)] } }
      if p.adopt then s1.pairEvent 5 w else s1
    else
      let s1 := s.mirSend (.outcome (wd n) status vt)
      if p.adopt then s1.pairEvent 5 w
      else if p.host then s1
      else s1.setPair { s1.pair with unconf := s1.pair.unconf ++ [(n, s.peerDue p.txn.layer p.rearr (p.mirDue.getD 0), w)] }

/-! ### Records and tags when a pattern resolves (R154, R155, R176) -/

/-- The path of an in-port to an out-port is a standing one (R216): in calendar mode, present with the same out-port in every
layer of the active bank. -/
def State.standing (s : State) (a b : Nat) : Bool :=
  decide (s.yk.mode < 2) || (List.range (s.bankN s.yk.bank)).all fun i => (sget none s.pth.live (512 * i + a)).map Route.out == some b

/-- Verification of an in-port's path begins in SEARCH, its limits counting from `since` (R176); that of a path which is not
standing is suspended (R216). -/
def State.tagStart (s : State) (a b since : Nat) : State :=
  { s with pth := { s.pth with
    tags := sset s.pth.tags a { TagV.off with
      status := if s.fb PTH_CTRL.VERIFY_EN [] then (if s.standing a b then 1 else 7) else 0, since := since }
    cont := sdel (sdel s.pth.cont a) (512 + a) } }

/-- No path: OFF. -/
def State.tagStop (s : State) (a : Nat) : State := { s with pth := { s.pth with tags := sdel s.pth.tags a } }

/-- Verification is suspended (R177). -/
def State.tagSuspend (s : State) (a : Nat) : State :=
  let v := sget TagV.off s.pth.tags a
  if v.status = 0 then s else { s with pth := { s.pth with tags := sset s.pth.tags a { TagV.off with status := 7, last := v.last } } }

/-- The record of one change when its transaction's pattern, fired at t0, has resolved (R155, R168, R176): a path placed anew is
ACTIVE, unless a fault has been reported on it since it fired; a released one is IDLE; a moved one keeps its state; a path that
stays as it was keeps its record. -/
def State.applyRec (t0 : Nat) (vt : Word) (p : Placed) (s : State) (c : Chg) : State :=
  let live := sget none s.pth.live c.key
  match c.new with
  | none =>
    let s1 := s.recWrite (s.upTo p.id) c.key fun _ => PathRec.idle
    if live.isNone then s1.tagStop (c.key % 512) else s1
  | some r =>
    if c.old = some r then s
    else
      let mid := match live with
        | some o => if o.out = r.out then o.mid else r.mid
        | none => r.mid
      let s1 := s.recWrite (s.upTo p.id) c.key fun rc =>
        { rc with st := if rc.st = .pending ∧ p.moved.contains (c.key % 512) = false then .active else rc.st
                  out := r.out, mid := mid, validT := vt }
      if c.old.map Route.out = some r.out ∨ live.map Route.out ≠ some r.out then s1 else s1.tagStart (c.key % 512) r.out t0

/-- The records of a transaction whose pattern has resolved (R155). -/
def State.applyRecs (s : State) (p : Placed) (t0 : Nat) (vt : Word) : State := p.chg.foldl (State.applyRec t0 vt p) s

/-! ### Roll-back patterns (R186) -/

/-- The route that a roll-back gives a path of in-port a that had route r, among the paths `others`: the old one where it still
fits, else the first that the search finds, else the old one where only an excluded node forbids it. With its out-port or its links
given to a path of a later transaction the path is not restored (DESIGN CHOICE, log entry 187). -/
def State.backRoute (s : State) (others : List Rt) (a : Nat) (r : Route) : Option Route :=
  let old : Rt := ⟨a, r.out, r.mid⟩
  let fits := others.all fun o => !old.conflicts o
  if others.any fun o => o.b == r.out then none
  else if fits && !old.hits s.exclNodes then some r
  else match place s.exclNodes others a r.out with
    | some m => some ⟨r.out, m⟩
    | none => if fits then some r else none

/-- A change that a roll-back takes back: no later transaction has changed its path. -/
def State.undoable (s : State) (n : Nat) (c : Chg) : Bool :=
  (sget none s.pth.plan c.key).map Route.out == c.new.map Route.out
    && !((s.pth.placed.drop n).any fun q => q.chg.any fun d => d.key == c.key)

/-- The changes that undo a list of changes of a layer, made by the transaction that is the n-th placed. -/
def State.undo (s : State) (n layer : Nat) (l : List Chg) : List Chg :=
  let mine := l.filter (s.undoable n)
  let base := (s.planPaths layer).filter fun r => !(mine.any fun c => c.key % 512 == r.a)
  (mine.foldl (fun (acc : List Rt × List Chg) c =>
    let new := c.old.bind (s.backRoute acc.1 (c.key % 512))
    (match new with
      | some r => ⟨c.key % 512, r.out, r.mid⟩ :: acc.1
      | none => acc.1, acc.2 ++ [⟨c.key, sget none s.pth.plan c.key, new, s.pathRec c.key⟩])) (base, [])).2

/-- Stages a roll-back when a pattern entry is FREE and the safe state is not in force; otherwise it waits (R204, R398). What was
placed after it fires no earlier (R159). -/
def State.stageRb (s : State) (q : Placed) : State :=
  if s.flt.safe then s
  else if s.freeNums.isEmpty then s.raise YK_EVT.STORE_FULL []
  else
    let layer := q.txn.layer
    let lanes := s.patLanes layer q.chg
    let s1 := lanes.2.2
    let soon := s1.clr.now + s1.leadNs
    let due := q.mirDue.getD (if s1.isCal layer then soon else s1.boundary soon)
    match s1.newPat .rollback .staged lanes.1 due s1.leadNs false layer with
    | none => s
    | some (n, s2) =>
      let s3 := s2.modTxn q.id fun x => { x with pat := n, staged := true }
      let first := if s3.isCal layer then s3.layerTurn layer due + 1 else due
      let after := ((s3.pth.placed.drop (s3.upTo q.id)).filter fun x => x.staged && !x.fired).map Placed.pat
      { s3 with
        pth := { s3.pth with placed := s3.pth.placed.map fun x : Placed =>
          if x.rolled && x.waits.isNone && decide (x.txn = q.txn) && !x.rb then { x with waits := some n } else x }
        yk := { s3.yk with store := s3.yk.store.map fun y => if after.contains y.num ∧ y.kind = .request then
          { y with due := max y.due first } else y } }

/-- A roll-back pattern for the changes `l` of the transaction that is the n-th placed (R186): the table takes the restored routes
and the pattern is staged; the transactions that are still open are placed again on that table. The active module of a pair mirrors
it as a transaction of its own (R342). -/
def State.rollBack (s : State) (x : Txn) (n : Nat) (l : List Chg) (due : Option Nat) (seg : Option (Nat × Nat)) : State :=
  let dg := s.tableDigest x.layer
  s.beneath x.layer n [] fun s =>
    let u := s.undo n x.layer l
    let new := u.filterMap fun c => if c.new.map Route.out = c.old.map Route.out then none
      else c.new.map fun r => (⟨c.key % 512, r.out, r.mid⟩ : Rt)
    let q := { Placed.new s.pth.nextId x u [] false with mirDue := due, seg := seg, rb := true }
    let s1 := s.takeChanges u new
    if s1.inPair && (decide (s1.pair.role = 1) || decide (s1.pair.role = 3)) then
      let at_ := s1.clr.now + s1.f PAIR_TIME.MIR_TO [] * 1000 + s1.leadNs
      let k := if s1.isCal x.layer then s1.layerTurn x.layer at_ else s1.boundary at_
      let p := (s1.pair.ptn + 1) % 2 ^ 32
      let q1 := { q with ptn := some p, mirDue := some k }
      ((s1.mirrorOut ⟨wd p, x.ring, u.filterMap reqOfChg, k, false, x.layer, dg⟩).addPlaced q1).stageRb q1
    else (s1.addPlaced q).stageRb q

/-! ### Control messages (R370, R371) -/

/-- DEVID of this device. -/
def State.devid (s : State) : Nat := s.sys.devid

/-- A MIDDLE device (R363). -/
def State.isMiddle (s : State) : Bool := decide (32 ≤ s.sys.devid)

/-- A FABRIC event with its FAB_EVT bit (R386). -/
def State.fabEvent (s : State) (sub : Nat) (pl : List Word) : State :=
  let s1 := (s.setReg .FAB_EVT [] (s.reg .FAB_EVT [] ||| wd (2 ^ (sub - 1)))).icEdge 440
  s1.post 4 0x41 sub pl

/-- Messages that are sent again without a reply (R371). -/
def trackedMsg : FabBody → Bool
  | .reserve _ => true
  | .reply .. => true
  | .commit .. => true
  | .outcome .. => true
  | _ => false

/-- Sends a control message (R370): SEQ counts the sender's control frames. -/
def State.fabSend (s : State) (dst : Nat) (b : FabBody) : State :=
  let m : FabMsg := ⟨s.devid, dst, s.fab.seq + 1, 0, b⟩
  let f := s.fab
  { s with fab := { f with
    seq := f.seq + 1, out := f.out ++ [(none, m)]
    sent := if trackedMsg b then f.sent ++ [(⟨m, s.clr.now, 0⟩ : FabSent)] else f.sent } }

/-- A reply to a tracked message has come: it is not sent again (R371). -/
def State.fabReplied (s : State) (dst num : Nat) (k : FabBody → Option Nat) : State :=
  { s with fab := { s.fab with sent := s.fab.sent.filter fun x => !(x.msg.dst == dst && k x.msg.body == some num) } }

/-- Numbers of the messages that await a reply, by kind. -/
def numReserve : FabBody → Option Nat
  | .reserve w => some w.num
  | _ => none
def numReply : FabBody → Option Nat
  | .reply n _ _ => some n
  | _ => none
def numCommit : FabBody → Option Nat
  | .commit n _ _ => some n
  | _ => none

/-! ### Segments (R365, R379, R380) -/

/-- Changes a segment entry. -/
def State.modSeg (s : State) (owner num : Nat) (f : FabSeg → FabSeg) : State :=
  { s with fab := { s.fab with segs := s.fab.segs.map fun g => if g.owner = owner ∧ g.num = num then f g else g } }

/-- The segment of a reservation. -/
def State.seg? (s : State) (owner num : Nat) : Option FabSeg := s.fab.segs.find? fun g => g.owner == owner && g.num == num

/-- An empty transaction of the module itself. -/
def Txn.own (reqs : List Req) (t : Nat) : Txn :=
  { ring := 0, cring := 0, reqs := reqs, asap := true, rasap := true, policy := 1, actT := 0, rearrT := 0, maxMoved := 0
    movedAddr := 0, movedCap := 0, buf := 0, len := 0, ofs := 0, switch := false, t := t }

/-- Rolls back the resolved segment of a reservation at boundary `due` (R380). -/
def State.segRollback (s : State) (owner num : Nat) (due : Option Nat) : State :=
  match s.seg? owner num with
  | some g => if g.st = 2 then (s.rollBack (Txn.own [] s.clr.now) 0 g.chg due (some (owner, num))).modSeg owner num fun g => { g with st := 3 }
    else s
  | none => s

/-- The state code that a local path shows in FAB_PATH_A (R364, R387): a PENDING one reads COMMITTED, one under repair ACTIVE
(DESIGN CHOICE, log entry 232). -/
def localCode : PathSt → Nat
  | .idle => 0
  | .pending => 2
  | .degraded => 6
  | _ => 3

/-- The local path of an end in-port, as the table shows it (R364). -/
def State.localPath (s : State) (a : Nat) : FabPath :=
  let r := s.pathRec a
  if s.inFabric && !s.isMiddle && decide (a < 256) && decide (r.out < 256) && decide (r.st ≠ .idle) then
    ⟨localCode r.st, true, s.devid, s.devid, r.out, 0, 0, 0⟩
  else FabPath.idle

/-- An owner's record of a fabric path; a local one is that of the table (R364). -/
def State.fpath (s : State) (a : Nat) : FabPath := (sfind s.fab.paths a).getD (s.localPath a)

/-- Stores it; of a local path and of none nothing is stored. -/
def State.setFpath (s : State) (a : Nat) (p : FabPath) : State :=
  { s with fab := { s.fab with paths := if p.loc || decide (p.st = 0) then sdel s.fab.paths a else sset s.fab.paths a p } }

/-- No flag, no time. -/
def SegOut.none : SegOut := ⟨0, false, false, false, false, 0, .middle⟩

/-- The later of two nanosecond tags, by their difference modulo 2^32. -/
def laterTag (a b : Word) : Word := if 0 < (b - a).toInt then b else a

/-- The flags of all outcomes joined, and the latest valid time (R380). -/
def joinOuts : List (Nat × SegOut) → SegOut
  | [] => SegOut.none
  | x :: l => l.foldl (fun a y => ⟨stApplied, a.rearr || y.2.rearr, a.repaired || y.2.repaired, a.eqRaised || y.2.eqRaised,
      a.unobs || y.2.unobs, laterTag a.validT y.2.validT, .middle⟩) x.2

/-- Completes the request of a fabric path (R377, R380). -/
def State.fabComplete (s : State) (q : FabReq) (status : Nat) (o : SegOut) : State :=
  match q.txn with
  | none => s
  | some x =>
    match x.reqs with
    | [] => s
    | r :: _ =>
      let ok := decide (status = stApplied)
      let moved := if ok then q.moved else []
      let r1 := match q.items with
        | i :: _ => (s.liveRec i.a).mid + q.mid * 2 ^ 16 + i.dst * 2 ^ 24
        | [] => 0
      s.fillComp r.id
        { cring := x.cring, reqId := r.reqId, op := r.op, status := status, rearr := ok && o.rearr
          repaired := ok && o.repaired, eqRaised := ok && o.eqRaised, trunc := decide (x.movedCap < moved.length)
          unobs := ok && o.unobs, txnEnd := true, validT := if ok then o.validT else 0, pattern := q.pat
          nMoved := moved.length, cmdCI := r.cmdCI
          r0 := if r.op = 2 then wd (r.a + s.shownOut 0 r.a * 2 ^ 16) else wd (r.a + r.b * 2 ^ 16)
          r1 := if ok && r.op != 2 then wd r1 else 0, moved := moved, movedAddr := x.movedAddr, movedCap := x.movedCap }

/-- A roll-back that the owner ordered has resolved at device `dev` (R380): after the last one the request completes (R186). -/
def State.rbDone (s : State) (num dev : Nat) : State :=
  match s.fab.reqs.find? (fun q => q.num == num && q.stage == 2) with
  | none => s
  | some q =>
    let w := q.wait.filter fun d => d ≠ dev
    if w.isEmpty then
      { s with fab := { s.fab with reqs := s.fab.reqs.filter fun r : FabReq => r.num ≠ num } }.fabComplete q q.cause SegOut.none
    else { s with fab := { s.fab with reqs := s.fab.reqs.map fun r : FabReq => if r.num = num then { r with wait := w } else r } }

/-- Whether every outcome of a committed reservation is known, and then the end of the path's request (R380): the completion waits
for every roll-back that the owner orders, here and at the other devices (R186). -/
def State.fabFinish (s : State) (q : FabReq) : State :=
  if q.outs.length < q.devs.length then s
  else
    let s1 := { s with fab := { s.fab with reqs := s.fab.reqs.filter fun r : FabReq => r.num ≠ q.num } }
    if q.outs.all fun x => x.2.status = stApplied then
      let j := joinOuts q.outs
      let s2 := q.items.foldl (fun s i =>
        let s' := if q.kind = 1 then s.setFpath i.a FabPath.idle
          else s.setFpath i.a ⟨3, decide (q.mid = s.devid), q.mid, i.dst, i.b, i.up, i.down, q.num⟩
        let s'' := if q.kind = 1 then s' else s'.setRec i.a { s'.pathRec i.a with validT := j.validT }
        if q.kind = 3 then s''.fabEvent 6 [wd (i.a + q.mid * 2 ^ 16), j.validT] else s'') s1
      s2.fabComplete q stApplied j
    else
      let fault := q.outs.any fun x => x.2.status = stFault
      let due := s1.boundary (s1.clr.now + s1.f FAB_CTRL.FAB_LEAD [] * 1000 + s1.leadNs)
      let s2 := q.outs.foldl (fun s x => if x.2.status = stApplied then
        (if x.1 = s.devid then s.segRollback s.devid q.num (some due) else s.fabSend x.1 (.commit q.num true (some due)))
        else s) s1
      let s3 := q.items.foldl (fun s i =>
        if q.kind = 3 then (s.setFpath i.a { i.old with st := 5 }).fabEvent 7 [wd i.a] else s.setFpath i.a i.old) s2
      let st := if fault then stFault else stAbort
      let back := (q.outs.filter fun x => x.2.status = stApplied).map Prod.fst
      if back.isEmpty then s3.fabComplete q st SegOut.none
      else { s3 with fab := { s3.fab with
        reqs := s3.fab.reqs ++ [{ q with stage := 2, cause := st, wait := back, dl := due + s3.f FAB_TIME2.RESV_TO [] * 1000 }] } }

/-- An outcome of device `dev` for this owner's reservation `num` (R380). -/
def State.fabGather (s : State) (num dev : Nat) (o : SegOut) : State :=
  match s.fab.reqs.find? (fun q => q.num == num) with
  | none => s
  | some q =>
    if q.stage ≠ 1 ∨ q.outs.any (fun x => x.1 == dev) = true then s
    else
      let q1 := { q with outs := q.outs ++ [(dev, o)] }
      let s1 := { s with fab := { s.fab with reqs := s.fab.reqs.map fun r : FabReq => if r.num = num then q1 else r } }
      s1.fabFinish q1

/-- A link port of this device (R363). -/
def State.isLinkPort (s : State) (p : Nat) : Bool := s.isMiddle || decide (256 ≤ p)

/-- The tag word of a fabric port number (R173, R374). -/
def fabWord (fa : Nat) : Nat := fa / 256 * 512 + fa % 256

/-- The reference of R383 is taken anew on the link in-ports of a list that carry a segment: it has a new valid time. -/
def State.refLinks (s : State) (l : List Nat) : State :=
  l.foldl (fun s p => if (sfind s.fab.linkRef p).isSome then
    { s with fab := { s.fab with linkRef := sset s.fab.linkRef p (s.pIn p), linkLow := sdel s.fab.linkLow p } } else s) s

/-- The in-ports of a segment take the tag word of its source and, on link ports, the reference of R383. -/
def State.segRefs (s : State) (g : FabSeg) : State :=
  if g.kind = 1 then g.paths.foldl (fun s x => { s with
    pth := { s.pth with tagWord := sdel s.pth.tagWord x.2.1 }, fab := { s.fab with linkRef := sdel s.fab.linkRef x.2.1 } }) s
  else g.paths.foldl (fun s x =>
    let s1 := { s with pth := { s.pth with tagWord := sset s.pth.tagWord x.2.1 (fabWord x.1) } }
    if s1.isLinkPort x.2.1 then
      { s1 with fab := { s1.fab with linkRef := sset s1.fab.linkRef x.2.1 (s1.pIn x.2.1), linkLow := sdel s1.fab.linkLow x.2.1 } }
    else s1) s

/-- The segment of a reservation has its outcome (R380): it goes to the owner. -/
def State.segDone (s : State) (p : Placed) (o : SegOut) : State :=
  match p.seg with
  | none => s
  | some x =>
    if p.rb then
      if x.1 = s.devid then s.rbDone x.2 s.devid else s.fabSend x.1 (.outcome x.2 o)
    else
    let s1 := s.modSeg x.1 x.2 fun g => { g with st := if o.status = stApplied then 2 else 3, chg := p.chg }
    let s1 := match s1.seg? x.1 x.2 with
      | some g => if o.status = stApplied then s1.segRefs g else s1
      | none => s1
    if x.1 = s1.devid then
      State.fabGather { s1 with fab := { s1.fab with reqs := s1.fab.reqs.map fun q : FabReq =>
        if q.num = x.2 then { q with pat := p.pat } else q } } x.2 s1.devid o
    else s1.fabSend x.1 (.outcome x.2 o)

/-! ### The end of a transaction (R186) -/

/-- The out-port an in-port had before the request of place i of a transaction (R158, R249): what the requests before it gave
it, else what it had before the transaction. -/
def State.oldOut (s : State) (p : Placed) (i a : Nat) : Nat :=
  match sfind ((p.txn.reqs.take i).foldl overlayReq []) a with
  | some o => o.getD 0
  | none => match p.chg.find? fun c => c.key % 512 == a with
    | some c => (c.old.map Route.out).getD 0
    | none => s.shownOut p.txn.layer a

/-- The middle-stage element of an in-port after a placed transaction (R249): later ones are not looked at. -/
def State.midAfter (s : State) (p : Placed) (key : Nat) : Nat := (s.recBefore (s.pth.placed.drop (s.upTo p.id)) key).mid

/-- A placed transaction ends with a status (R161, R186): its completions, the pair, the owner of its segment. -/
def State.finish (s : State) (p : Placed) (status : Nat) : State :=
  let s1 := s.dropPlaced p
  let ok := decide (status = stApplied)
  let v : Verdict := { status := status, validT := p.validT, pattern := p.pat, rearr := ok && p.rearr
                       repaired := ok && p.repaired, eqRaised := p.eqRaised, unobs := p.unobs
                       moved := if ok then p.moved else [] }
  let s2 := if p.host && !p.rb then s1.completeTxn p.txn v (s.oldOut p) (s.midAfter p) else s1
  let s3 := s2.pairDone p status (if ok then p.validT else 0)
  let s4 := if ok then s3.refLinks ((p.chg.filter fun c => c.new.isSome).map fun c => c.key % 512) else s3
  s4.segDone p ⟨status, p.rearr, p.repaired, p.eqRaised, p.unobs, p.validT, .middle⟩

/-- The transactions that placement has refused since they were placed complete NOT_APPLIED_FAULT (R182); a reserved segment waits
for its COMMIT. -/
def State.sweepLost (s : State) : State :=
  s.pth.placed.foldl (fun s _ => match s.pth.placed.find? fun p => p.lost && !p.hold with
    | some p => s.finish p stFault
    | none => s) s

end Sys2Proof.Machine
end

