-- ==== Sys2Proof/Machine/Fabric.lean ====
section
/-! DEFINITION. Multi-device fabrics (R363 to R386): the control network, links and discovery, reservations and their
commit, loss of links and devices, re-routing. -/
namespace Sys2Proof.Machine

/-! ### Links (R368, R369) -/

/-- Stores the fabric logic. -/
def State.setFab (s : State) (f : Fab) : State := { s with fab := f }

/-- Entries of the link table. -/
def State.lnkOut (s : State) (p : Nat) : Lnk := sget Lnk.reset s.fab.lnkOut p
def State.lnkIn (s : State) (p : Nat) : Lnk := sget Lnk.reset s.fab.lnkIn p

/-- The in-port that the table of placed transactions joins to an out-port. -/
def State.outTaken (s : State) (p : Nat) : Option Nat := mapIn s.pth.plan 0 p

/-- The in-port has a path in the table of placed transactions. -/
def State.inTaken (s : State) (p : Nat) : Bool := (sget none s.pth.plan p).isSome

/-- CONFIRMED links of this device (R386). -/
def State.confirmed (s : State) : Nat :=
  (s.fab.lnkOut.filter fun p => p.2.st == 2).length + (s.fab.lnkIn.filter fun p => p.2.st == 2).length

/-- The TOPOLOGY event (R386, R387): the route table or the link table differs from that of `o`. -/
def State.topoNote (o s : State) : State :=
  if s.fab.rt = o.fab.rt ∧ s.fab.lnkOut = o.fab.lnkOut ∧ s.fab.lnkIn = o.fab.lnkIn then s
  else s.fabEvent 1 [wd (s.fab.known.length + 1), wd s.confirmed]

/-- Lowest free CONFIRMED link out-port to a device that is not in `not` (R378). -/
def State.freeOut (s : State) (dev : Nat) (not : List Nat) : Option Nat :=
  (List.range 512).find? fun p => s.lnkOut p == ⟨2, dev, (s.lnkOut p).port⟩ && (s.outTaken p).isNone && !not.contains p

/-- The own link in-port that an out-port of a device feeds, CONFIRMED (R378). -/
def State.fedBy (s : State) (dev port : Nat) : Option Nat :=
  (List.range 512).find? fun p => s.lnkIn p == ⟨2, dev, port⟩

/-- The digest of the settings matched across the fabric (R373). -/
def State.fabDigest (s : State) : Word :=
  crc32c (wordBytes [s.reg .YK_GRID [], s.reg .YK_HORIZON [], s.reg .PTH_CTRL [], s.reg .PTH_EQ [], s.reg .PTH_CHK [],
    s.reg .CUF_CTRL [] &&& 0x1FF, s.reg .FAB_CTRL [], s.reg .FAB_TIME0 [], s.reg .FAB_TIME1 [], s.reg .FAB_TIME2 [],
    s.reg .FAB_WATCH []])

/-- Reachable: FAB_RT names a route (R371). -/
def State.reachable (s : State) (d : Nat) : Bool := d == s.devid || (sfind s.fab.rt d).isSome

/-- The digest of a device is not known to differ (R373): only neighbours send theirs. -/
def State.digestOk (s : State) (d : Nat) : Bool := (sfind s.fab.digest d).all fun x => x == s.fabDigest

/-- The digest of a neighbour differs from the own one (R373). -/
def State.digestDiff (s : State) : Bool := s.fab.nbrs.any fun x => !s.digestOk x.dev

/-- ALIVE (R371, R373, R387): reachable, not declared lost, its digest not known to differ. -/
def State.alive (s : State) (d : Nat) : Bool :=
  s.reachable d && !s.fab.dead.contains d && (d == s.devid || s.digestOk d)

/-- A free link from a middle to a destination is known here (R378): its ends have been matched in claims, and no own path uses it.
Whether another owner's path does only the middle knows, which then refuses (DEDUCED, log entry 231). -/
def State.seenLink (s : State) (mid dst : Nat) : Bool :=
  s.fab.remote.any fun x => x.1 == mid && x.2.2.1 == dst
    && !(s.fab.paths.any fun p => p.2.mid == mid && p.2.dst == dst && p.2.down == x.2.2.2)

/-- The middles of R378 for a path to `dst`, in ascending DEVID. -/
def State.middles (s : State) (dst : Nat) : List Nat :=
  (List.range 64).filter fun m => decide (32 ≤ m) && s.alive m && (s.freeOut m []).isSome && s.seenLink m dst

/-! ### Segments (R365, R378, R379) -/

/-- A path request of the module's own. -/
def segReq (op a b : Nat) : Req := ⟨op, 0, a, b, 0, false, 0, 0, 0⟩

/-- Places the requests of a segment and holds them PENDING for a COMMIT (R378, R379): under R165, then under R167 as
the policy allows. -/
def State.placeSeg (s : State) (owner num kind dl : Nat) (reqs : List Req) (paths : List (Nat × Nat × Nat))
    (policy maxMoved : Nat) : Option (State × List Nat) :=
  let x : Txn := { Txn.own reqs s.clr.now with policy := policy, maxMoved := maxMoved }
  let bad := (reqs.zip (List.range reqs.length)).any fun p => s.portBad x p.2 p.1
  if bad || decide (s.freeNums.length < 5) then none
  else match placeTxn s.exclNodes (s.keptRoutes x) x.named (s.newPaths x) policy maxMoved with
    | .bad _ => none
    | .ok new moved loop =>
      let l := s.changes x new moved
      let p := { Placed.new s.pth.nextId x l (moved.map Rt.a) loop with seg := some (owner, num), hold := true }
      let s1 := s.takeChanges l new
      let s2 := { s1 with
        fab := { s1.fab with segs := s1.fab.segs.filter (fun g : FabSeg => !(g.owner == owner && g.num == num)) ++
          [(⟨owner, num, kind, paths, l, 0, dl⟩ : FabSeg)] } }
      some (s2.addPlaced p, moved.map Rt.a)

/-- The placed transaction of a reservation. -/
def State.segPlaced (s : State) (owner num : Nat) : Option Placed :=
  s.pth.placed.find? fun p => p.seg == some (owner, num) && !p.rb

/-- Releases a reservation with no pattern (R379); what was placed after it is placed again without it. -/
def State.releaseSeg (s : State) (owner num : Nat) : State :=
  let s1 := { s with fab := { s.fab with segs := s.fab.segs.filter fun g : FabSeg => !(g.owner == owner && g.num == num && g.st == 0) } }
  match s1.segPlaced owner num with
  | some p => if p.hold then s1.beneath 0 (s1.upTo p.id) [] fun s => s.withdraw p else s1
  | none => s1

/-- Stages the segment of a reservation for the strobe at t, or reports that the commit point has passed (R379). -/
def State.commitSeg (s : State) (owner num t : Nat) : State :=
  match s.segPlaced owner num, s.seg? owner num with
  | some p, some g =>
    if !p.hold then s
    else if p.lost then s.finish p stFault
    else
      let lead := if g.kind = 3 then 0 else s.leadNs
      if t < s.clr.now + lead then
        let s1 := s.releaseSeg owner num
        if owner = s1.devid then s1.fabGather num owner { SegOut.none with status := stAbort }
        else s1.fabSend owner (.outcome num { SegOut.none with status := stAbort })
      else
        let q := { p with hold := false, mirDue := some t }
        ((s.modTxn p.id fun _ => q).modSeg owner num fun g => { g with st := 1 }).stage q
  | _, _ => s

/-! ### The owner (R377 to R381, R384) -/

/-- Changes a reservation of this owner. -/
def State.modReq (s : State) (n : Nat) (f : FabReq → FabReq) : State :=
  { s with fab := { s.fab with reqs := s.fab.reqs.map fun q : FabReq => if q.num = n then f q else q } }

/-- Ends a reservation. -/
def State.dropReq (s : State) (n : Nat) : State :=
  { s with fab := { s.fab with reqs := s.fab.reqs.filter fun q : FabReq => q.num ≠ n } }

/-- RESV_TO in ns. -/
def State.resvTo (s : State) : Nat := s.f FAB_TIME2.RESV_TO [] * 1000

/-- F_a of an own end in-port. -/
def State.ownFa (s : State) (a : Nat) : Nat := s.devid * 256 + a

/-- The completion status for a refusal cause when no middle remains (R378). -/
def causeStatus (c : Nat) : Nat := if c = 1 then stPort else if c = 4 ∨ c = 5 then stState else stBlocked

/-- The reservation has failed for good: its paths read as before, or BLOCKED after a re-route (R378, R384). -/
def State.resvFail (s : State) (q : FabReq) (status : Nat) : State :=
  let s1 := q.items.foldl (fun s i =>
    if q.kind = 3 then (s.setFpath i.a { i.old with st := 5 }).fabEvent 7 [wd i.a] else s.setFpath i.a i.old) (s.dropReq q.num)
  s1.fabComplete q status SegOut.none

/-- The own requests of a reservation through uplinks `ups`: connect or move each end in-port. -/
def State.ownReqs (s : State) (items : List FabItem) : List Req :=
  items.map fun i => segReq (if s.inTaken i.a then 3 else 1) i.a i.up

/-- Uplinks for the items to a middle: the present one where it leads there, else the lowest free (R378, R381). -/
def State.pickUps (s : State) (mid : Nat) : List FabItem → List Nat → Option (List FabItem)
  | [], _ => some []
  | i :: t, used =>
    let keep := [3, 5, 6].contains i.old.st && decide (i.old.mid = mid) && (s.lnkOut i.old.up == ⟨2, mid, (s.lnkOut i.old.up).port⟩)
    match (if keep then some i.old.up else s.freeOut mid used) with
    | none => none
    | some u => (State.pickUps s mid t (u :: used)).map fun l => { i with up := u } :: l

/-- Other devices that hold a segment of the old path and have none of the new one: they get kind release (R381). -/
def oldDevs (own : Nat) (q : FabReq) (mid : Nat) : List Nat :=
  match q.items with
  | i :: _ => if q.kind = 2 ∧ i.old.st ≠ 0 ∧ i.old.loc = false then
      [i.old.mid, i.old.dst].filter fun d => d ≠ own ∧ d ≠ mid ∧ d ≠ i.dst else []
  | [] => []

/-- Devices that cannot be reached now and hold a segment of the old paths: they release it once they are found (R381, R384). -/
def State.owesRelease (s : State) (devs : List Nat) (items : List FabItem) : State :=
  if devs.isEmpty then s
  else s.setFab { s.fab with late := s.fab.late ++ devs.flatMap fun d => items.map fun i => (d, s.ownFa i.a) }

/-- Tries middles until RESERVE is sent, or fails (R378). The number is fresh for each try. -/
def State.fabTry : Nat → State → FabReq → State
  | 0, s, q => s.resvFail q (causeStatus q.cause)
  | n + 1, s, q =>
    if s.f FAB_CTRL.TRIES [] ≤ q.tries ∨ q.list.length ≤ q.tries then s.resvFail q (causeStatus q.cause)
    else
      let mid := q.list.getD ((q.start + q.tries) % max 1 q.list.length) 0
      let next := { q with tries := q.tries + 1 }
      match s.pickUps mid q.items [] with
      | none => State.fabTry n s next
      | some items =>
        let num := s.fab.num + 1
        let s0 := s.setFab { s.fab with num := num }
        let own := (s0.ownReqs items).filter fun r => !((sget none s0.pth.plan r.a).map Route.out == some r.b)
        let pol := match q.txn with
          | some x => (x.policy, x.maxMoved)
          | none => (1, 0)
        match s0.placeSeg s0.devid num q.kind (s0.clr.now + s0.resvTo) own
            (items.map fun i => (s0.ownFa i.a, i.a, i.up)) pol.1 pol.2 with
        | none => State.fabTry n s0 next
        | some (s1, moved) =>
          let old := oldDevs s0.devid q mid
          let others := old.filter s0.alive
          let dsts := (items.map FabItem.dst).eraseDups
          let q1 := { q with
            num := num, items := items, mid := mid, tries := q.tries + 1, wait := [mid] ++ dsts ++ others, acc := []
            moved := moved, dl := s1.clr.now + 4 * s1.resvTo
            devs := (if own.isEmpty then [] else [s0.devid]) ++ [mid] ++ dsts ++ others }
          let w : ResvW := ⟨num, q.kind, items.map fun i => ⟨s1.ownFa i.a, i.dst * 256 + i.b, i.up⟩⟩
          let s2 := (if own.isEmpty then s1.releaseSeg s0.devid num else s1).owesRelease (old.filter fun d => !s0.alive d) q.items
          let s3 := (s2.setFab { s2.fab with reqs := s2.fab.reqs.filter (fun r : FabReq => r.num ≠ q.num) ++ [q1] }).fabSend mid (.reserve w)
          others.foldl (fun s d => s.fabSend d (.reserve ⟨num, 1, w.items⟩)) s3

/-- Every reply has arrived: the strobe is chosen and COMMIT sent (R379, R384). -/
def State.fabCommit (s : State) (q : FabReq) : State :=
  let now := s.clr.now
  let asap := s.boundary (now + s.f FAB_CTRL.FAB_LEAD [] * 1000 + s.leadNs)
  let want := match q.want with
    | some t => s.boundary t
    | none => asap
  let late := q.want.isSome && decide (want < asap)
  let b := if q.kind = 3 then ceilDiv (now + s.f FAB_TIME2.REP_LEAD [] * 1000) 1000 * 1000
    else max (max want asap) (s.afterDue 0)
  let s0 := if late then (s.setF YK_CNT.LATE [] (min 65535 (s.f YK_CNT.LATE [] + 1))).raise YK_EVT.LATE [] else s
  if late && s.fb YK_CTRL.LATE_MODE [] then
    let s1 := (s.raise YK_EVT.LATE []).releaseSeg s.devid q.num
    let s2 := q.acc.foldl (fun s d => s.fabSend d (.commit q.num false none)) s1
    s2.resvFail q stTime
  else
    let s1 := s0.modReq q.num fun q => { q with stage := 1, strobe := b, dl := b + s0.resvTo }
    let s2 := q.items.foldl (fun s i => s.setFpath i.a { s.fpath i.a with st := if q.kind = 3 then 4 else 2 }) s1
    let s3 := (q.devs.filter fun d => d ≠ s.devid).foldl (fun s d => s.fabSend d (.commit q.num false (some b))) s2
    s3.commitSeg s.devid q.num b

/-- Starts a reservation for a host request (R377, R378, R381): connect, release or move of end in-port a. -/
def State.fabRequest (s : State) (x : Txn) (r : Req) : State :=
  let old := s.fpath r.a
  let num := s.fab.num + 1
  let want := if x.asap then none else some x.actT
  let it : FabItem := ⟨r.a, old, if r.op = 2 then old.dst else r.dst, if r.op = 2 then old.b else r.b, old.up, old.down⟩
  let q : FabReq := { num := num, kind := r.op - 1, txn := some x, items := [it], list := [], start := 0, tries := 0
                      mid := old.mid, wait := [], acc := [], cause := 0, want := want, strobe := 0, stage := 0
                      devs := [], outs := [], dl := 0, moved := [], pat := 0 }
  let s0 := s.setFab { s.fab with num := num }
  if r.op = 1 ∨ (r.op = 3 ∧ r.dst ≠ s.devid) then
    let base := s0.middles r.dst
    let same := decide (r.op = 3) && !old.loc && s0.alive old.mid && (s0.lnkOut old.up == ⟨2, old.mid, (s0.lnkOut old.up).port⟩)
      && (decide (r.dst = old.dst) || s0.seenLink old.mid r.dst)
    let list := if same then old.mid :: base.filter (fun m => m ≠ old.mid) else base
    let kind := if r.op = 1 then 0 else 2
    let n := list.length
    let start := if same then 0 else (s0.devid * 256 + r.a) % max 1 n
    if n = 0 then s0.fabComplete { q with kind := kind } stBlocked SegOut.none
    else State.fabTry 64 ((s0.setFpath r.a { old with st := 1, dst := r.dst, b := r.b, loc := false }))
      { q with kind := kind, list := list, start := start }
  else
    -- a release, or a move to a local destination: the other devices release their segments
    let own := if r.op = 2 then [segReq 2 r.a 0] else [segReq 3 r.a r.b]
    match s0.placeSeg s0.devid num q.kind (s0.clr.now + s0.resvTo) own [(s0.ownFa r.a, r.a, r.b)] x.policy x.maxMoved with
    | none => s0.fabComplete q stBlocked SegOut.none
    | some (s1, moved) =>
      let all := ([old.mid, old.dst].filter fun d => d ≠ s0.devid).eraseDups
      let devs := all.filter s0.alive
      let kind := if r.op = 2 then 1 else 2
      let q1 := { q with kind := kind, wait := devs, devs := s0.devid :: devs, moved := moved
                         mid := if r.op = 2 then old.mid else s0.devid, dl := s1.clr.now + 4 * s1.resvTo }
      let s2 := ((s1.setFab { s1.fab with reqs := s1.fab.reqs ++ [q1] }).setFpath r.a { old with st := 1 }).owesRelease
        (all.filter fun d => !s0.alive d) q.items
      if devs.isEmpty then s2.fabCommit q1
      else devs.foldl (fun s d => s.fabSend d (.reserve ⟨num, 1, [⟨s2.ownFa r.a, old.dst * 256 + old.b, old.up⟩]⟩)) s2

/-- Aborts the try in hand at every other device and here (R378). -/
def State.abortTry (s : State) (q : FabReq) (but : Nat) : State :=
  let s1 := (q.acc ++ q.wait).foldl (fun s d => if d = but then s else s.fabSend d (.commit q.num false none)) s
  s1.releaseSeg s.devid q.num

/-- A reply for reservation `num` from a device (R378, R379). -/
def State.fabReply (s : State) (num dev cause : Nat) (ports : List (Nat × Nat)) : State :=
  match s.fab.reqs.find? (fun q => q.num == num && q.stage == 0) with
  | none => s
  | some q =>
    if !q.wait.contains dev then s
    else if cause ≠ 0 then
      let s1 := (s.abortTry q dev).dropReq q.num
      if cause = 1 ∨ q.list = [] then s1.resvFail { q with cause := cause } (causeStatus cause)
      else State.fabTry 64 s1 { q with cause := cause }
    else
      let items := if q.items.all (fun i => i.dst == dev) && decide (dev ≠ q.mid) then
          (q.items.zip ports).map fun p => { p.1 with down := p.2.1 } else q.items
      let q1 := { q with wait := q.wait.filter (· ≠ dev), acc := q.acc ++ [dev], items := items }
      let s1 := s.modReq num fun _ => q1
      if q1.wait.isEmpty then s1.fabCommit q1 else s1

/-! ### Re-routing (R382, R384) -/

/-- Groups the paths to re-route: the next path joins the group of its middle and destination. -/
def addGroup (mid : Nat) (i : FabItem) : List (Nat × List FabItem) → List (Nat × List FabItem)
  | [] => [(mid, [i])]
  | g :: t => if g.1 = mid ∧ (g.2.head?.map FabItem.dst) = some i.dst then (g.1, g.2 ++ [i]) :: t else g :: addGroup mid i t

/-- A new middle and uplink for a path, with the uplinks already given away (R378, R384); `away`: the present middle is excluded.
The present links are not free, so that another link is taken in any case. -/
def State.rerouteVia (s : State) (a : Nat) (p : FabPath) (away : Bool) (used : List Nat) : Option (Nat × Nat) :=
  let l := (s.middles p.dst).filter fun m => !(away && m == p.mid)
  let n := l.length
  let start := (s.devid * 256 + a) % max 1 n
  ((List.range n).filterMap fun t =>
    let m := l.getD ((start + t) % max 1 n) 0
    (s.freeOut m used).map fun u => (m, u)).head?

/-- Starts the re-route of own paths, in ascending in-port order (R384); `away`: their middles have failed and are excluded. -/
def State.reroute (s : State) (l : List Nat) (away : Bool) : State :=
  if !s.fb FAB_CTRL.REROUTE_EN [] then s
  else
    let acc := l.foldl (fun (acc : State × List (Nat × List FabItem) × List Nat) a =>
      let p := acc.1.fpath a
      match acc.1.rerouteVia a p away acc.2.2 with
      | some x => (acc.1.setFpath a { p with st := 4 },
          addGroup x.1 ⟨a, p, p.dst, p.b, x.2, p.down⟩ acc.2.1, x.2 :: acc.2.2)
      | none => (if p.st = 5 then acc.1 else (acc.1.setFpath a { p with st := 5 }).fabEvent 7 [wd a], acc.2.1, acc.2.2))
      (s, [], [])
    acc.2.1.foldl (fun s g =>
      let num := s.fab.num + 1
      let dst := (g.2.head?.map FabItem.dst).getD 0
      let q : FabReq := { num := num, kind := 3, txn := none, items := g.2.map fun i => { i with old := { i.old with st := 4 } }
                          list := g.1 :: (s.middles dst).filter (fun m => m ≠ g.1 && !(away && g.2.any fun i => i.old.mid == m)), start := 0, tries := 0, mid := g.1
                          wait := [], acc := [], cause := 0, want := none, strobe := 0, stage := 0, devs := []
                          outs := [], dl := 0, moved := [], pat := 0 }
      let s1 := s.setFab { s.fab with num := num, late := s.fab.late ++ (g.2.filter fun i => i.old.mid ≠ g.1).map fun i => (i.old.mid, s.ownFa i.a) }
      State.fabTry 64 s1 q) acc.1

/-- Own end in-ports whose established path meets a condition (R384). -/
def State.affected (s : State) (c : FabPath → Bool) : List Nat :=
  (List.range 256).filter fun a => let p := s.fpath a; (p.st == 3 || p.st == 6) && !p.loc && c p

/-- Paths that read BLOCKED are tried again (R384). -/
def State.retryBlocked (s : State) : State := s.reroute ((List.range 256).filter fun a => (s.fpath a).st == 5) false

/-- A loss that hits the paths of which `c` holds (R384): established ones are re-routed at once, those of a reservation once it is
established. -/
def State.lossOf (s : State) (c : FabPath → Bool) : State :=
  let l := (s.fab.reqs.filter fun q => decide (q.stage ≤ 1) && q.kind != 1).flatMap fun q => (q.items.filter fun i =>
    c ⟨3, false, q.mid, i.dst, i.b, i.up, i.down, q.num⟩).map fun i => (q.num, i.a)
  (if l.isEmpty then s else s.setFab { s.fab with missed := s.fab.missed ++ l }).reroute (s.affected c) false

/-- The paths that a loss hit before they were established, once they are (R384). -/
def State.missedLoss (s : State) : State :=
  if s.fab.missed.isEmpty then s
  else
    let ended := s.fab.missed.filter fun x => !(s.fab.reqs.any fun q => q.num == x.1)
    let s1 := s.setFab { s.fab with missed := s.fab.missed.filter fun x => !ended.contains x }
    s1.reroute (s1.affected fun p => ended.any fun x => x.1 == p.num) false

/-- A later fault of a segment of own paths (R374, R382): they are re-routed, stay DEGRADED, or it is recorded only. -/
def State.segFault (s : State) (l : List Nat) (fix : SegFix) : State :=
  match fix with
  | .middle => s.reroute l true
  | .link => s.reroute l false
  | .stay => l.foldl (fun s a => s.setFpath a { s.fpath a with st := 6 }) s
  | .note => s

/-- Reports the fault of the path at an in-port of this device to the owner of its segment (R374, R382): the last one placed
there. -/
def State.tellOwner (s : State) (a : Nat) (fix : SegFix) : State :=
  match s.fab.segs.reverse.find? (fun g => g.st == 2 && g.kind != 1 && g.paths.any fun x => x.2.1 == a) with
  | some g =>
    if g.owner = s.devid then s.segFault (s.affected fun p => g.paths.any fun x => x.2.1 == a && x.2.2 == p.up) fix
    else s.fabSend g.owner (.outcome g.num { SegOut.none with status := stFault, fix := fix })
  | none => s

/-- Releases probe segments (R375): their Cuffs close in one pattern at the next boundary, but for ports that a path has. -/
def State.dropProbes (s : State) (sel : Nat × Nat → Bool) : State :=
  let gone := s.fab.probes.filter sel
  if gone.isEmpty then s
  else
    let ins := gone.filter fun x => !(s.inTaken x.1)
    let s1 := ins.foldl (fun s x => s.tagStop x.1) (s.setFab { s.fab with probes := s.fab.probes.filter fun x => !sel x })
    let lanes := ins.flatMap (fun x => closeIn x.1) ++ (gone.filter fun x => (s.outTaken x.2).isNone).flatMap fun x => closeOut x.2
    if lanes.isEmpty || s1.flt.safe then s1
    else match s1.newPat .probe .staged lanes (s1.boundary (s1.clr.now + s1.leadNs)) s1.leadNs false 0 with
      | none => s1
      | some (_, s2) => s2

/-- Probe segments give way to the paths that need their ports (R375). -/
def State.yieldProbes (s : State) : State := s.dropProbes fun x => s.inTaken x.1 || (s.outTaken x.2).isSome

/-- Requests that waited for a path come back to the front of the delivered ones (R381). -/
def State.wakeWaiting (s : State) : State :=
  let free := fun x : Txn => match x.reqs with
    | r :: _ => let st := (s.fpath r.a).st; st != 1 && st != 2 && st != 4
    | [] => true
  { s with
    pth := { s.pth with delivered := (s.fab.waitQ.filter free) ++ s.pth.delivered }
    fab := { s.fab with waitQ := s.fab.waitQ.filter fun x : Txn => !free x } }

/-- Old middles that can be reached again release their segments of re-routed paths (R384). -/
def State.lateRelease (s : State) : State :=
  let l := s.fab.late.filter fun x => s.alive x.1 && !(s.fab.reqs.any fun q => q.items.any fun i => s.ownFa i.a == x.2)
  l.foldl (fun s x =>
    let num := s.fab.num + 1
    let q : FabReq := { num := num, kind := 1, txn := none, items := [], list := [], start := 0, tries := 0, mid := x.1
                        wait := [x.1], acc := [], cause := 0, want := none, strobe := 0, stage := 0, devs := [x.1]
                        outs := [], dl := s.clr.now + 4 * s.resvTo, moved := [], pat := 0 }
    (s.setFab { s.fab with num := num, late := s.fab.late.filter (fun y : Nat × Nat => y ≠ x), reqs := s.fab.reqs ++ [q] }).fabSend
      x.1 (.reserve ⟨num, 1, [⟨x.2, 0, 0⟩]⟩)) s

/-- What every change of the table, of the reservations and of the links leads to. -/
def State.fabAfter (s : State) : State := s.sweepLost.wakeWaiting.lateRelease.missedLoss.yieldProbes

/-! ### Reception (R363, R370, R371) -/

/-- The first copy of a tracked message is kept in mind (R371). -/
def State.firstCopy (s : State) (m : FabMsg) : Bool := !(trackedMsg m.body && s.fab.seen.contains (m.src, m.seq))

/-- Messages that show another device with the own DEVID (R363): HELLO, which crosses one hop, and DISC. An LSA of the own may have
been flooded back (DEDUCED, log entry 229). -/
def showsTwin : FabBody → Bool
  | .hello .. => true
  | .disc _ => true
  | _ => false

/-- Takes a control message at an SP port (R363, R371): own DEVID from another device, forwarding, second copies; else
its meaning `k`. -/
def fabRecv (m : FabMsg) (t : Nat) (k : State → State) (s : State) : State :=
  if !s.inFabric then s
  else
    let s1 := s.passTo t
    if m.src = s1.devid then
      if !showsTwin m.body then s1
      else ({ s1 with fab := { s1.fab with st := 2 } }).fabEvent 9 [wd s1.devid]
    else if m.dst ≠ 255 ∧ m.dst ≠ s1.devid then
      if 7 ≤ m.hops then s1
      else s1.setFab { s1.fab with out := s1.fab.out ++ [((sfind s1.fab.rt m.dst).map Prod.snd, { m with hops := m.hops + 1 })] }
    else if !s1.firstCopy m then s1
    else
      let s2 := if trackedMsg m.body then s1.setFab { s1.fab with seen := s1.fab.seen ++ [(m.src, m.seq)] } else s1
      State.schedEvent s1 (State.topoNote s1 (k s2)).fabAfter

/-! ### HELLO and neighbours (R370, R371, R373) -/

/-- FAB_HELLO_SEND (R370): every HELLO_US, HELLO to every neighbour. -/
def doFabHelloSend (t : Nat) (s : State) : State :=
  let s1 := s.passTo t
  if s1.inFabric && s1.modeOn then s1.fabSend 255 (.hello s1.isMiddle s1.fab.st s1.fabDigest) else s1

/-- Meaning of FAB_HELLO_SEND (R370). -/
def execFabHelloSend (t : Nat) (s : State) : Host.Outcome State Fault Refusal := .next (doFabHelloSend t s)

/-- DOWN links to a device that is found again return to CLAIMED (R369). -/
def reclaimLinks (d : Nat) (m : SMap Lnk) : SMap Lnk :=
  m.map fun p => if p.2.st = 4 ∧ p.2.dev = d then (p.1, { p.2 with st := 1 }) else p

/-- A device is found, for the first time or again (R369, R371, R384). -/
def State.devFound (s : State) (d : Nat) : State :=
  let f := s.fab
  (s.setFab { f with
    known := if f.known.contains d then f.known else f.known ++ [d]
    dead := f.dead.filter (· ≠ d), lnkOut := reclaimLinks d f.lnkOut, lnkIn := reclaimLinks d f.lnkIn }).fabEvent 4 [wd d]

/-- FAB_HELLO (R371, R373): the sender is a neighbour; a device found again; a digest that differs. -/
def helloIn (m : FabMsg) (port t : Nat) (s : State) : State :=
  match m.body with
  | .hello _ _ dg =>
    let d := m.src
    let f := s.fab
    let fresh := !f.known.contains d || f.dead.contains d
    let s1 := s.setFab { f with
      nbrs := f.nbrs.filter (fun x : Nbr => !(x.dev == d && x.port == port)) ++ [⟨d, port, t⟩]
      digest := sset f.digest d dg
      rtStale := f.rtStale || fresh || !(f.nbrs.any fun x => x.dev == d && x.port == port) }
    let s2 := if fresh then s1.devFound d else s1
    let bad := decide (dg ≠ s2.fabDigest)
    let told := s2.fab.digBad.contains d
    let s3 := if bad = told then s2
      else if bad then (s2.setFab { s2.fab with digBad := s2.fab.digBad ++ [d] }).fabEvent 10 [s2.fabDigest, dg, wd d]
      else s2.setFab { s2.fab with digBad := s2.fab.digBad.filter (· ≠ d) }
    if fresh then s3.retryBlocked else s3
  | _ => s

/-- FAB_HELLO (R371). -/
def doFabHello (m : FabMsg) (port t : Nat) (s : State) : State := fabRecv m t (helloIn m port t) s

/-- Meaning of FAB_HELLO (R371). -/
def execFabHello (m : FabMsg) (port : Fin 64) (t : Nat) (s : State) : Host.Outcome State Fault Refusal :=
  .next (doFabHello m port t s)

/-- LSA (R371): the neighbour list of its sender. A change makes the route table stale; the LSA is flooded on, with the age it came
with (R370; DEDUCED, log entry 209). -/
def lsaIn (m : FabMsg) (s : State) : State :=
  match m.body with
  | .lsa n _ =>
    if sget [] s.fab.lsas m.src = n then s
    else s.setFab { s.fab with lsas := sset s.fab.lsas m.src n, rtStale := true
                               out := s.fab.out ++ [(none, { m with hops := m.hops + 1 })] }
  | _ => s

/-- LSA (R371). -/
def doLsa (m : FabMsg) (t : Nat) (s : State) : State := fabRecv m t (lsaIn m) s

/-- Meaning of LSA (R371). -/
def execLsa (m : FabMsg) (t : Nat) (s : State) : Host.Outcome State Fault Refusal := .next (doLsa m t s)

/-- Devices within k hops of the ones in l (R371). -/
def State.ball (s : State) : Nat → List Nat → List Nat
  | 0, l => l
  | k + 1, l => State.ball s k ((l ++ l.flatMap fun d => (sget [] s.fab.lsas d).map Prod.fst).eraseDups)

/-- Fewest hops from neighbour n to device d, at most 7. -/
def State.hopsFrom (s : State) (n d : Nat) : Option Nat := (List.range 8).find? fun k => (s.ball k [n]).contains d

/-- The better of two routes: fewest hops, then the lower neighbour, then the lower SP port (R371). -/
def betterRt (a b : Nat × Nat × Nat) : Bool :=
  decide (a.1 < b.1) || (decide (a.1 = b.1) && (decide (a.2.1 < b.2.1) || (decide (a.2.1 = b.2.1) && decide (a.2.2 < b.2.2))))

/-- The route to device d: hops and SP port (R371). -/
def State.routeTo (s : State) (d : Nat) : Option (Nat × Nat) :=
  let c := s.fab.nbrs.filterMap fun n => (s.hopsFrom n.dev d).map fun k => (k + 1, n.dev, n.port)
  match c with
  | [] => none
  | x :: t => let b := t.foldl (fun a y => if betterRt y a then y else a) x
              some (b.1, b.2.2)

/-- Links to a lost device go DOWN (R369). -/
def downLinks (d : Nat) (m : SMap Lnk) : SMap Lnk :=
  m.map fun p => if p.2.dev = d ∧ (p.2.st = 1 ∨ p.2.st = 2) then (p.1, { p.2 with st := 4 }) else p

/-- A device is lost (R369, R371, R382): its links go DOWN, and own paths through it are re-routed. Only an LSA that comes later, or
its HELLO, can show it again. -/
def State.devLost (s : State) (d : Nat) : State :=
  if s.fab.dead.contains d then s
  else
    let f := s.fab
    let s1 := (s.setFab { f with dead := f.dead ++ [d], rtStale := true
                                 lsas := (sdel f.lsas d).map fun x => (x.1, x.2.filter fun y => y.1 ≠ d), lnkOut := downLinks d f.lnkOut
                                 lnkIn := downLinks d f.lnkIn, remote := f.remote.filter fun x => x.1 != d && x.2.2.1 != d }).fabEvent
      3 [wd d]
    s1.lossOf fun p => p.mid == d

/-- ROUTE_RECOMPUTE (R371): FAB_RT is computed from the neighbours and LSAs; the first table makes the device READY. A device that
a route reaches for the first time, or again, is found; one that no route reaches any more is lost. -/
def doRouteRecompute (s : State) : State :=
  if !s.inFabric then s
  else
    let rt := (List.range 64).filterMap fun d => if d = s.devid then none else (s.routeTo d).map fun r => (d, r)
    let f := s.fab
    let s1 := s.setFab { f with rt := rt, rtStale := false, st := if f.st = 0 then 1 else f.st }
    let found := (rt.map Prod.fst).filter fun d => !f.known.contains d || f.dead.contains d
    let s2 := found.foldl State.devFound s1
    let gone := (f.rt.map Prod.fst).filter fun d => (sfind rt d).isNone
    let s3 := gone.foldl State.devLost s2
    let s4 := if found.isEmpty then s3 else s3.retryBlocked
    State.schedEvent s (State.topoNote s s4).fabAfter

/-- Meaning of ROUTE_RECOMPUTE (R371). -/
def execRouteRecompute (s : State) : Host.Outcome State Fault Refusal := .next (doRouteRecompute s)

/-- Sends a message to every known device (R383). -/
def State.tellAll (s : State) (b : FabBody) : State :=
  (s.fab.known.filter fun d => s.reachable d).foldl (fun s d => s.fabSend d b) s

/-- NEIGHBOUR_LOSS (R371): HELLO_N intervals without a HELLO from device d on any port. -/
def doNeighbourLoss (d t : Nat) (s : State) : State :=
  let s1 := s.passTo t
  let lim := s1.f FAB_TIME0.HELLO_N [] * s1.f FAB_TIME0.HELLO_US [] * 10000
  if !s1.inFabric || !(s1.fab.nbrs.any fun n => n.dev == d)
      || s1.fab.nbrs.any (fun n => n.dev == d && decide (t < n.t + lim)) then s1
  else
    let s2 := s1.setFab { s1.fab with nbrs := s1.fab.nbrs.filter fun n : Nbr => n.dev ≠ d }
    State.schedEvent s (State.topoNote s1 ((s2.devLost d).tellAll (.downDev d t))).fabAfter

/-- Meaning of NEIGHBOUR_LOSS (R371). -/
def execNeighbourLoss (d : Fin 64) (t : Nat) (s : State) : Host.Outcome State Fault Refusal := .next (doNeighbourLoss d t s)

/-! ### Discovery (R375, R376) -/

/-- The tag word that a path or probe of an in-port carries (R374): none known where a link in-port has received none. -/
def State.carried (s : State) (a : Nat) : Option Nat :=
  match sfind s.pth.tagWord a with
  | some w => some w
  | none =>
    let v := sget TagV.off s.pth.tags a
    if !s.isLinkPort a then some (fabWord (s.ownFa a)) else if v.last = 0 then none else some (v.last / 256)

/-- The in-port whose light an out-port carries, by a path in force or a probe. -/
def State.feeds (s : State) (p : Nat) : Option Nat :=
  match s.inOf 0 p with
  | some a => some a
  | none => (s.fab.probes.find? fun x => x.2 == p).map Prod.fst

/-- The claims of this device (R375). -/
def State.ownClaims (s : State) : List Claim :=
  ((List.range 512).filterMap fun p => if s.isLinkPort p then (s.feeds p).bind fun a => (s.carried a).map fun w => ⟨true, p, w⟩ else none)
  ++ (List.range 512).filterMap fun p =>
    let v := sget TagV.off s.pth.tags p
    if s.isLinkPort p ∧ v.last ≠ 0 ∧ (v.status = 3 ∨ s.fab.probes.any (fun x => x.1 == p) = true) then
      some ⟨false, p, v.last / 256⟩ else none

/-- DISC_SEND (R370, R375): DISC with the claims while DISC_EN = 1, and the own LSA. -/
def doDiscSend (t : Nat) (s : State) : State :=
  let s1 := s.passTo t
  if !(s1.inFabric && s1.modeOn) then s1
  else
    let s2 := if s1.fb FAB_CTRL.DISC_EN [] then (s1.setFab { s1.fab with said := s1.ownClaims }).tellAll (.disc s1.ownClaims) else s1
    s2.fabSend 255 (.lsa (s2.fab.nbrs.map fun n => (n.dev, n.port)) 0)

/-- Meaning of DISC_SEND (R375). -/
def execDiscSend (t : Nat) (s : State) : Host.Outcome State Fault Refusal := .next (doDiscSend t s)

/-- A valid link runs between an EDGE and a MIDDLE (R368). -/
def State.linkOk (s : State) (d : Nat) : Bool := s.isMiddle != decide (32 ≤ d)

/-- An own link in-port that verified word w is fed by out-port u of device d (R376): CONFIRMED, or MISWIRED (R368). A
different earlier entry writes a MISWIRED event. -/
def State.setLinkIn (s : State) (p d u w : Nat) : State :=
  let o := s.lnkIn p
  let n : Lnk := ⟨if s.linkOk d then 2 else 3, d, u⟩
  if o = n then s
  else
    let s1 := s.setFab { s.fab with lnkIn := sset s.fab.lnkIn p n }
    if n.st = 3 ∨ ((o.st = 1 ∨ o.st = 2) ∧ (o.dev ≠ d ∨ o.port ≠ u)) then s1.fabEvent 5 [wd (p + 512 + d * 65536), wd w]
    else s1

/-- The own link out-port p that carries word w feeds in-port j of device d (R376). -/
def State.setLinkOut (s : State) (p d j w : Nat) : State :=
  let o := s.lnkOut p
  let n : Lnk := ⟨if s.linkOk d then 2 else 3, d, j⟩
  if o = n then s
  else
    let s1 := s.setFab { s.fab with lnkOut := sset s.fab.lnkOut p n }
    if n.st = 3 ∨ ((o.st = 1 ∨ o.st = 2) ∧ (o.dev ≠ d ∨ o.port ≠ j)) then s1.fabEvent 5 [wd (p + d * 65536), wd w]
    else s1

/-- Claims of other devices that place a word on an out-port (`out`) or an in-port: device and port. -/
def State.claimed (s : State) (out : Bool) (w : Nat) : List (Nat × Nat) :=
  s.fab.claims.flatMap fun x => (x.2.filter fun c => c.out == out && c.word == w).map fun c => (x.1, c.port)

/-- The far end that the claims give for a word (R376): an end of a valid link before any other. One of an invalid link (R368) only
where no claim shows the light to take another way (DEDUCED, log entry 230). -/
def State.farEnd (s : State) (out : Bool) (w : Nat) : Option (Nat × Nat) :=
  let l := s.claimed out w
  match l.find? fun x => s.linkOk x.1 with
  | some x => some x
  | none => if (s.claimed (!out) w).isEmpty then l.head? else none

/-- A believed link end is still claimed with the word. -/
def State.stillClaimed (s : State) (o : Lnk) (out : Bool) (w : Nat) : Bool :=
  (o.st == 1 || o.st == 2) && (sget [] s.fab.claims o.dev).contains ⟨out, o.port, w⟩

/-- A DISC of device d bears on an own port with word w whose link entry is o. -/
def State.bears (s : State) (d : Nat) (o : Lnk) (out : Bool) (w : Nat) : Bool :=
  (o.dev == d && o.st != 0) || (sget [] s.fab.claims d).any fun c => c.out == out && c.word == w

/-- An own link in-port that has verified a word (R376): its link is CONFIRMED where the believed out-port still claims the word;
else it is re-marked from the claims, or MISWIRED where none names the word. -/
def State.matchIn (d : Nat) (s : State) (p w : Nat) : State :=
  let o := s.lnkIn p
  if !s.bears d o true w then s
  else if s.stillClaimed o true w then s.setLinkIn p o.dev o.port w
  else match s.farEnd true w with
    | some x => s.setLinkIn p x.1 x.2 w
    | none =>
      if o.st = 1 ∨ o.st = 2 then
        (s.setFab { s.fab with lnkIn := sset s.fab.lnkIn p { o with st := 3 } }).fabEvent 5 [wd (p + 512 + o.dev * 65536), wd w]
      else s

/-- An own link out-port that carries a word (R376): its link is CONFIRMED where the believed in-port claims the word; else it is
marked from the claims, or MISWIRED where that in-port has verified another word. -/
def State.matchOut (d : Nat) (s : State) (p w : Nat) : State :=
  let o := s.lnkOut p
  if !s.bears d o false w then s
  else if s.stillClaimed o false w then s.setLinkOut p o.dev o.port w
  else match s.farEnd false w with
    | some x => s.setLinkOut p x.1 x.2 w
    | none => match (sget [] s.fab.claims o.dev).find? fun c => !c.out && c.port == o.port with
      | some c => if o.st = 1 ∨ o.st = 2 then
            (s.setFab { s.fab with lnkOut := sset s.fab.lnkOut p { o with st := 3 } }).fabEvent 5 [wd (p + o.dev * 65536), wd c.word]
          else s
      | none => s

/-- A word that the own DISC frames claimed and that is not on the port now: where claims of another device match it, the far end of
an UNKNOWN link is known from discovery frames only (R369; DESIGN CHOICE, log entry 230). -/
def State.claimLink (s : State) (c : Claim) : State :=
  match s.farEnd (!c.out) c.word with
  | some x =>
    if !s.linkOk x.1 then s
    else if c.out then
      (if (s.lnkOut c.port).st = 0 then s.setFab { s.fab with lnkOut := sset s.fab.lnkOut c.port ⟨1, x.1, x.2⟩ } else s)
    else if (s.lnkIn c.port).st = 0 then s.setFab { s.fab with lnkIn := sset s.fab.lnkIn c.port ⟨1, x.1, x.2⟩ } else s
  | none => s

/-- Links between two other devices, one EDGE and one MIDDLE, that their claims show (R368, R376). -/
def seenLinks (m : SMap (List Claim)) : List (Nat × Nat × Nat × Nat) :=
  m.flatMap fun x => m.flatMap fun y =>
    if decide (32 ≤ x.1) = decide (32 ≤ y.1) then [] else (x.2.filter Claim.out).flatMap fun o =>
      (y.2.filter fun c => !c.out && c.word == o.word).map fun c => (x.1, o.port, y.1, c.port)

/-- The links between other devices after new claims: a link seen now replaces those that share an end with it. -/
def mergeLinks (old new : List (Nat × Nat × Nat × Nat)) : List (Nat × Nat × Nat × Nat) :=
  old.filter (fun x => !(new.any fun y => (y.1 == x.1 && y.2.1 == x.2.1) || (y.2.2.1 == x.2.2.1 && y.2.2.2 == x.2.2.2))) ++ new.eraseDups

/-- A link has become CONFIRMED, here or by the claims of others, since state `o` (R384). -/
def State.newLink (o s : State) : Bool :=
  (s.fab.lnkOut.any fun x => x.2.st == 2 && (o.lnkOut x.1).st != 2) || (s.fab.lnkIn.any fun x => x.2.st == 2 && (o.lnkIn x.1).st != 2)
    || s.fab.remote.any fun x => !o.fab.remote.contains x

/-- DISC (R376): claims matched with the words verified and carried here. -/
def discIn (m : FabMsg) (s : State) : State :=
  match m.body with
  | .disc l =>
    let d := m.src
    let claims := sset s.fab.claims d l
    let s1 := s.setFab { s.fab with claims := claims, remote := mergeLinks s.fab.remote (seenLinks claims) }
    let own := s1.ownClaims
    let s2 := own.foldl (fun s c => if c.out then State.matchOut d s c.port c.word else State.matchIn d s c.port c.word) s1
    let s3 := (s2.fab.said.filter fun c => !own.contains c).foldl State.claimLink s2
    if State.newLink s s3 then s3.retryBlocked else s3
  | _ => s

/-- DISC (R376). -/
def doDisc (m : FabMsg) (t : Nat) (s : State) : State := fabRecv m t (discIn m) s

/-- Meaning of DISC (R376). -/
def execDisc (m : FabMsg) (t : Nat) (s : State) : Host.Outcome State Fault Refusal := .next (doDisc m t s)

/-- An in-port is lit: an ingress Cuff long average reaches CUF_FLOOR (R375). -/
def State.portLit (s : State) (a : Nat) : Bool :=
  [0, 1].any fun pl => decide (sgn 16 (s.f SLV_CUF.CUF_FLOOR [cuffOf pl 0 a / 256]) ≤ (s.inLane pl a).tap0.avg)

/-- The lit in-ports in `l` without a path, and the out-ports in `l` without one. -/
def State.idleLit (s : State) (l : List Nat) : List Nat := l.filter fun a => !s.inTaken a && s.portLit a
def State.idleOut (s : State) (l : List Nat) : List Nat := l.filter fun p => (s.outTaken p).isNone

/-- The probe segments of the dwell with number n (R375): in-port, out-port, and whether its egress Cuff is open. -/
def State.probePlan (s : State) (n : Nat) : List (Nat × Nat × Bool) :=
  let rot := fun (l : List Nat) (k : Nat) => l.getD ((n + k) % max 1 l.length) 0
  if s.isMiddle then
    let outs := s.idleOut (List.range 512)
    let ins := s.idleLit (List.range 512)
    (ins.zip (List.range (min ins.length outs.length))).map fun p => (p.1, rot outs p.2, true)
  else
    let outs := s.idleOut ((List.range 256).map (· + 256))
    let ends := s.idleLit (List.range 256)
    let up := match ends, outs with
      | a :: _, _ :: _ => [(a, rot outs 0, true)]
      | _, _ => []
    let free := s.idleOut (List.range 256)
    let ins := s.idleLit ((List.range 256).map (· + 256))
    up ++ (ins.zip (List.range (min ins.length free.length))).map fun p => (p.1, free.getD p.2 0, false)

/-- Routes for the probe segments that the table of placed transactions leaves room for (R165). -/
def State.probeRoutes (s : State) : List (Nat × Nat × Bool) → List Rt → List (Rt × Bool)
  | [], _ => []
  | p :: t, others =>
    match place s.exclNodes others p.1 p.2.1 with
    | some m => (⟨p.1, p.2.1, m⟩, p.2.2) :: State.probeRoutes s t (⟨p.1, p.2.1, m⟩ :: others)
    | none => State.probeRoutes s t others

/-- PROBE_DWELL (R375): the probe segments of the last dwell are released and the next ones placed, in one pattern. -/
def doProbeDwell (t : Nat) (s : State) : State :=
  let s1 := s.passTo t
  if !(s1.inFabric && s1.ready && s1.fb FAB_CTRL.PROBE_EN [] && !s1.flt.safe) then s1
  else
    let old := s1.fab.probes
    let rts := s1.probeRoutes (s1.probePlan s1.fab.probeN) (s1.planPaths 0)
    let gone := old.filter fun x => !(s1.inTaken x.1) && !(rts.any fun r => r.1.a == x.1)
    let goneOut := old.filter fun x => (s1.outTaken x.2).isNone && !(rts.any fun r => r.1.b == x.2)
    let acc := rts.foldl (fun (acc : List LaneSet × State) r =>
      let o := acc.2.openPath r.1.a r.1.b
      let cuffs := if r.2 then o.1 else o.1.filter (fun l => !isEgressE l.e) ++ closeOut r.1.b
      (acc.1 ++ routeLanes r.1.a ⟨r.1.b, r.1.m⟩ ++ cuffs, o.2.2)) ([], s1)
    let lanes := gone.flatMap (fun x => closeIn x.1) ++ goneOut.flatMap (fun x => closeOut x.2) ++ acc.1
    let s2 := acc.2
    if lanes.isEmpty then s2
    else match s2.newPat .probe .staged lanes (s2.boundary (s2.clr.now + s2.leadNs)) s2.leadNs false 0 with
      | none => s2
      | some (_, s3) =>
        let s4 := s3.setFab { s3.fab with probes := rts.map fun r => (r.1.a, r.1.b), probeN := s3.fab.probeN + 1 }
        let s5 := (old.filter fun x => !(s4.inTaken x.1)).foldl (fun s x => s.tagStop x.1) s4
        rts.foldl (fun s r => s.tagStart r.1.a r.1.b t) s5

/-- Meaning of PROBE_DWELL (R375). -/
def execProbeDwell (t : Nat) (s : State) : Host.Outcome State Fault Refusal := .next (doProbeDwell t s)

/-! ### RESERVE, RESV_REPLY, COMMIT, OUTCOME (R378 to R380) -/

/-- Causes STATE and TIME of a refusal (R373, R378): `devs` are the owner, the device that sent the RESERVE, and on a middle the
destination, of which none may have a differing digest. -/
def State.refuseCause (s : State) (devs : List Nat) : Nat :=
  if s.flt.safe || s.throttle || decide (s.pwr.st ≠ 0) || decide (s.fab.st = 2)
      || devs.any (fun d => !s.digestOk d) then 4
  else if s.clr.st ≠ .locked ∧ s.clr.st ≠ .holdover then 5
  else 0

/-- The segment held here for a fabric path (R365): in-port and out-port. -/
def State.heldSeg (s : State) (fa : Nat) : Option (Nat × Nat) :=
  (((s.fab.segs.filter fun g => g.st == 2 && g.kind != 1).flatMap FabSeg.paths).reverse.find? fun x =>
    x.1 == fa && (sget none s.pth.plan x.2.1).map Route.out == some x.2.2).map Prod.snd

/-- The requests of one path of a RESERVE on this device: the requests, its in-port and out-port; or a refusal cause. A re-route
takes another link where one is free (R384). `used` are link ports given to earlier paths of the message. -/
def State.segItem (s : State) (src kind : Nat) (used : List Nat) (i : ResvItem) : Except Nat (List Req × Nat × Nat) :=
  let held := s.heldSeg i.fa
  if kind = 1 then
    match held with
    | some h => .ok ([segReq 2 h.1 0], h.1, h.2)
    | none => .error 2
  else
    match s.fedBy src i.link with
    | none => .error 2
    | some j =>
      let mine := held.map Prod.fst == some j
      let out := if s.isMiddle then
          (let free := s.freeOut (i.fb / 256) used
          match held with
            | some h =>
              if (s.lnkOut h.2).dev = i.fb / 256 ∧ (s.lnkOut h.2).st = 2 then (if kind = 3 then free.orElse fun _ => some h.2 else some h.2)
              else free
            | none => free)
        else some (i.fb % 256)
      match out with
      | none => .error 2
      | some k =>
        let owner := s.outTaken k
        if !s.isMiddle && owner.isSome && !(owner == held.map Prod.fst) then .error 1
        else if s.inTaken j && !mine then .error 2
        else match held with
          | none => .ok ([segReq 1 j k], j, k)
          | some h => if mine then .ok ((if h.2 = k then [] else [segReq 3 j k]), j, k)
            else .ok ([segReq 2 h.1 0, segReq 1 j k], j, k)

/-- Every path of a RESERVE. -/
def State.segItems (s : State) (src kind : Nat) : List ResvItem → List Nat → Except Nat (List Req × List (Nat × Nat × Nat))
  | [], _ => .ok ([], [])
  | i :: t, used =>
    match s.segItem src kind used i with
    | .error c => .error c
    | .ok x => match State.segItems s src kind t (x.2.2 :: used) with
      | .error c => .error c
      | .ok y => .ok (x.1 ++ y.1, (i.fa, x.2.1, x.2.2) :: y.2)

/-- The owner of the paths of a RESERVE, and their destination (R377, R378). -/
def resvOwner (w : ResvW) : Nat := (w.items.head?.map fun i => i.fa / 256).getD 0
def resvDst (w : ResvW) : Nat := (w.items.head?.map fun i => i.fb / 256).getD 0

/-- The devices whose digest a RESERVE from device `src` is held against (R373): the owner, the sender, and on a middle the
destination. -/
def State.resvDevs (s : State) (src : Nat) (w : ResvW) : List Nat :=
  [resvOwner w, src] ++ if s.isMiddle && decide (w.kind ≠ 1) then [resvDst w] else []

/-- RESERVE (R378, R379): the segment is placed and held, or refused with a cause; a middle passes it on to the
destination. A device whose main cores are halted places nothing (R433). -/
def reserveIn (m : FabMsg) (s : State) : State :=
  match m.body with
  | .reserve w =>
    if s.prl.lsHalt then s else
    let owner := resvOwner w
    let refuse := fun (s : State) c => s.fabSend owner (.reply w.num c [])
    let c := s.refuseCause (s.resvDevs m.src w)
    if c ≠ 0 then refuse s c
    else match s.segItems m.src w.kind w.items [] with
      | .error c => refuse s c
      | .ok x =>
        match s.placeSeg owner w.num w.kind (s.clr.now + s.resvTo) x.1 x.2 1 0 with
        | none => refuse s 3
        | some (s1, moved) =>
          let s2 := if moved.isEmpty then s1 else s1.fabEvent 8 [wd owner, wd moved.length]
          let s3 := s2.fabSend owner (.reply w.num 0 (x.2.map fun p => p.2))
          if s3.isMiddle && decide (w.kind ≠ 1) then
            s3.fabSend (resvDst w)
              (.reserve { w with items := (w.items.zip x.2).map fun p => { p.1 with link := p.2.2.2 } })
          else s3
  | _ => s

/-- RESERVE (R378). -/
def doReserve (m : FabMsg) (t : Nat) (s : State) : State := fabRecv m t (reserveIn m) s

/-- Meaning of RESERVE (R378). -/
def execReserve (m : FabMsg) (t : Nat) (s : State) : Host.Outcome State Fault Refusal := .next (doReserve m t s)

/-- RESV_REPLY (R379). -/
def replyIn (m : FabMsg) (s : State) : State :=
  match m.body with
  | .reply n c ports => (s.fabReplied m.src n numReserve).fabReply n m.src c ports
  | _ => s

/-- RESV_REPLY (R379). -/
def doResvReply (m : FabMsg) (t : Nat) (s : State) : State := fabRecv m t (replyIn m) s

/-- Meaning of RESV_REPLY (R379). -/
def execResvReply (m : FabMsg) (t : Nat) (s : State) : Host.Outcome State Fault Refusal := .next (doResvReply m t s)

/-- COMMIT (R379, R380): the segment is staged for the strobe, released, or rolled back. -/
def commitIn (m : FabMsg) (s : State) : State :=
  match m.body with
  | .commit n rel strobe =>
    let s1 := s.fabReplied m.src n numReply
    match rel, strobe with
    | true, due => s1.segRollback m.src n due
    | false, some t => s1.commitSeg m.src n t
    | false, none => s1.releaseSeg m.src n
  | _ => s

/-- COMMIT (R379). -/
def doCommit (m : FabMsg) (t : Nat) (s : State) : State := fabRecv m t (commitIn m) s

/-- Meaning of COMMIT (R379). -/
def execCommit (m : FabMsg) (t : Nat) (s : State) : Host.Outcome State Fault Refusal := .next (doCommit m t s)

/-- FAB_OUTCOME (R380, R382): an outcome of a committed reservation, or a later fault of an established segment. -/
def outcomeIn (m : FabMsg) (s : State) : State :=
  match m.body with
  | .outcome n o =>
    let s1 := s.fabReplied m.src n numCommit
    if s1.fab.reqs.any (fun q => q.num == n && q.stage == 1) then s1.fabGather n m.src o
    else if s1.fab.reqs.any (fun q => q.num == n && q.stage == 2) then s1.rbDone n m.src
    else if o.status = stFault then s1.segFault (s1.affected fun p => p.num == n) o.fix else s1
  | _ => s

/-- FAB_OUTCOME (R380). -/
def doFabOutcome (m : FabMsg) (t : Nat) (s : State) : State := fabRecv m t (outcomeIn m) s

/-- Meaning of FAB_OUTCOME (R380). -/
def execFabOutcome (m : FabMsg) (t : Nat) (s : State) : Host.Outcome State Fault Refusal := .next (doFabOutcome m t s)

/-- DOWN (R382, R384): a device or a link is lost; own paths through it are re-routed. -/
def downIn (m : FabMsg) (s : State) : State :=
  match m.body with
  | .downDev d _ => if d = s.devid then s else s.devLost d
  | .downLink d isIn p _ =>
    let out := (List.range 512).find? fun u => (s.lnkOut u).dev == d && (s.lnkOut u).port == p && (s.lnkOut u).st != 0
    let s1 := match (if isIn then out else none) with
      | some u => s.setFab { s.fab with lnkOut := sset s.fab.lnkOut u { s.lnkOut u with st := 4 } }
      | none => s
    let s2 := s1.setFab { s1.fab with remote := s1.fab.remote.filter fun x =>
      !(if isIn then x.2.2.1 == d && x.2.2.2 == p else x.1 == d && x.2.1 == p) }
    s2.lossOf fun q => (decide (isIn = true) && decide (out = some q.up) && q.mid == d)
      || (decide (isIn = true) && q.dst == d && q.down == p)
  | _ => s

/-- DOWN (R384). -/
def doDown (m : FabMsg) (t : Nat) (s : State) : State := fabRecv m t (downIn m) s

/-- Meaning of DOWN (R384). -/
def execDown (m : FabMsg) (t : Nat) (s : State) : Host.Outcome State Fault Refusal := .next (doDown m t s)

/-- CONTROL_RETRANSMIT (R371): messages unanswered for 50 µs are sent again, up to three times. -/
def doControlRetransmit (t : Nat) (s : State) : State :=
  let s1 := s.passTo t
  let due := fun x : FabSent => decide (x.t + 50000 ≤ s1.clr.now)
  let again := s1.fab.sent.filter fun x => due x && decide (x.n < 3)
  s1.setFab { s1.fab with
    out := s1.fab.out ++ again.map fun x => (none, x.msg)
    sent := s1.fab.sent.filterMap fun x : FabSent =>
      if due x then (if x.n < 3 then some { x with t := s1.clr.now, n := x.n + 1 } else none) else some x }

/-- Meaning of CONTROL_RETRANSMIT (R371). -/
def execControlRetransmit (t : Nat) (s : State) : Host.Outcome State Fault Refusal := .next (doControlRetransmit t s)

/-- RESERVATION_TIMEOUT (R379, R380): reservations whose RESV_TO has passed are released; an owner takes missing
outcomes as NOT_APPLIED_ABORT, waits no longer for its roll-backs, and goes on to its next middle where replies are missing. -/
def doReservationTimeout (t : Nat) (s : State) : State :=
  let s1 := s.passTo t
  let now := s1.clr.now
  let s2 := (s1.fab.segs.filter fun g => g.st == 0 && g.owner != s1.devid && decide (g.dl ≤ now)).foldl
    (fun s g => s.releaseSeg g.owner g.num) s1
  let s3 := (s2.fab.reqs.filter fun q => q.stage == 1 && decide (q.dl ≤ now)).foldl (fun s q =>
    (q.devs.filter fun d => !(q.outs.any fun x => x.1 == d)).foldl (fun s d =>
      s.fabGather q.num d { SegOut.none with status := stAbort }) s) s2
  let s4 := (s3.fab.reqs.filter fun q => q.stage == 0 && decide (q.dl ≤ now)).foldl (fun s q =>
    let s' := (s.abortTry q 64).dropReq q.num
    if q.list = [] then s'.resvFail q (causeStatus q.cause) else State.fabTry 64 s' q) s3
  let s5 := (s4.fab.reqs.filter fun q => q.stage == 2 && decide (q.dl ≤ now)).foldl (fun s q =>
    (s.dropReq q.num).fabComplete q q.cause SegOut.none) s4
  State.schedEvent s s5.fabAfter

/-- Meaning of RESERVATION_TIMEOUT (R379). -/
def execReservationTimeout (t : Nat) (s : State) : Host.Outcome State Fault Refusal := .next (doReservationTimeout t s)

/-- One link in-port at a comparison of R383. -/
def State.watchLink (t : Nat) (s : State) (p : Nat) : State :=
  match sfind s.fab.linkRef p with
  | none => s
  | some ref =>
    if !s.inTaken p then s
    else
      let n := sget 0 s.fab.linkLow p + 1
      if ref - s.pIn p ≤ 128 * s.f FAB_WATCH.LINK_DB [] then s.setFab { s.fab with linkLow := sdel s.fab.linkLow p }
      else if n < s.f FAB_WATCH.LINK_N [] ∨ (s.lnkIn p).st = 4 then s.setFab { s.fab with linkLow := sset s.fab.linkLow p n }
      else
        let l := s.lnkIn p
        let s1 := s.setFab { s.fab with linkLow := sset s.fab.linkLow p n, lnkIn := sset s.fab.lnkIn p { l with st := 4 } }
        let s2 := (s1.fabEvent 2 [wd (p + 512 + l.dev * 65536)]).tellAll (.downLink s1.devid true p t)
        s2.lossOf fun q => q.dst == s2.devid && q.down == p

/-- LINK_LOSS_DETECT (R383): the comparison of every link in-port that carries a segment, every 16 µs. -/
def doLinkLossDetect (t : Nat) (s : State) : State :=
  let s1 := s.passTo t
  if !s1.inFabric then s1
  else
    let s2 := (s1.fab.linkRef.map Prod.fst).foldl (State.watchLink s1.clr.now) s1
    State.schedEvent s (State.topoNote s1 s2).fabAfter

/-- Meaning of LINK_LOSS_DETECT (R383). -/
def execLinkLossDetect (t : Nat) (s : State) : Host.Outcome State Fault Refusal := .next (doLinkLossDetect t s)

end Sys2Proof.Machine
end

