-- ==== Sys2Proof/Machine/Repair.lean ====
section
/-! DEFINITION. Element faults, repair and recovery (R179 to R188): fault reports, repair patterns, the resolution of
patterns and the end of a transaction. -/
namespace Sys2Proof.Machine

/-! ### Nodes (R47, R179) -/

/-- Stage and node of a switching element (R47). -/
def nodeE (e : Nat) : Nat × Nat := (e % 17408 / 1024, e % 1024 / 4)

/-- A node that placement can avoid: stages 1–15 (R181). -/
def avoidable (e : Nat) : Bool := !isCuffE e && decide (1 ≤ (nodeE e).1) && decide ((nodeE e).1 ≤ 15)

/-- Marks a node in PTH_EXCL (R181). -/
def State.exclude (s : State) (n : Nat × Nat) : State :=
  let ix := [8 * n.1 + n.2 / 32]
  s.setReg .PTH_EXCL ix (s.reg .PTH_EXCL ix ||| wd (2 ^ (n.2 % 32)))

/-- The path at an in-port uses the element (R179): its node, or one of its Cuff elements. -/
def Rt.usesE (r : Rt) (e : Nat) : Bool :=
  if isCuffE e then (if isEgressE e then r.b == portE e else r.a == portE e)
  else r.node (nodeE e).1 == (nodeE e).2

/-- In-ports of a layer whose path in force uses the element and has a record. -/
def State.hitBy (s : State) (layer e : Nat) : List Nat :=
  ((s.liveRts layer).filter fun r => r.usesE e && decide ((s.liveRec (512 * layer + r.a)).st ≠ .idle)).map Rt.a

/-- Ports of a path as events give them (R254). -/
def portsW (a b : Nat) : Word := wd (a + b * 2 ^ 16)

/-! ### Transactions that wait for a repair (R186) -/

/-- A path is under a repair that is under way. -/
def State.covered (s : State) (key : Nat) : Bool := s.pth.reps.any fun r => r.paths.contains key || r.moved.contains key

/-- Rolls a transaction back (R186); its completion waits for the roll-back pattern. -/
def State.rollTxn (s : State) (p : Placed) : State :=
  if p.rolled then s
  else (s.modTxn p.id fun q => { q with rolled := true, waits := none, waitRep := false }).rollBack p.txn (s.upTo p.id) p.chg none none

/-- A path that a transaction made, or moved while it was sound, is DEGRADED (R186). -/
def State.spoilt (s : State) (p : Placed) (c : Chg) : Bool :=
  decide ((s.recBefore (s.pth.placed.drop (s.upTo p.id)) c.key).st = .degraded) && c.new.isSome && c.new != c.old
    && (c.rcd.st != .degraded || !p.moved.contains (c.key % 512))

/-- After a failed or repaired pattern (R186): a DEGRADED path rolls the transaction back, a path under repair makes it
wait, otherwise it is APPLIED. -/
def State.tryFinish (s : State) (p : Placed) : State :=
  if p.chg.any (s.spoilt p) then s.rollTxn p
  else if p.chg.any fun c => c.new.isSome && s.covered c.key then
    s.modTxn p.id fun q => { q with waitRep := true, waits := none, repaired := true }
  else s.finish p stApplied

/-- Every transaction that waits for a repair is looked at again. -/
def State.retryWaits (s : State) : State := s.eachTxn (fun p => p.waitRep && !p.rolled) State.tryFinish

/-! ### Degraded paths (R181) -/

/-- Paths become DEGRADED (R181): events with `code` 0x04 or 0x05, REPAIR_FAIL. -/
def State.degrade (s : State) (code num e : Nat) (keys : List Nat) : State :=
  if keys.isEmpty then s
  else
    let s1 := keys.foldl (fun s k =>
      let s' := (s.modLive k fun r => { r with st := .degraded }).post 0 code (num % 65536)
        [portsW (k % 512) (s.liveRec k).out, 0, 0, wd e]
      -- in a fabric a middle's fault, or one at the link port of an end device, is re-routed; others stay (R382)
      if s'.inFabric then
        s'.tellOwner (k % 512) (if s'.isMiddle then .middle else if isCuffE e && s'.isLinkPort (portE e) then .link else .stay)
      else s') s
    (s1.raise PTH_EVT.REPAIR_FAIL []).retryWaits

/-! ### Repair (R181, R182, R216) -/

/-- Sets the paths to REPAIRING; the verification of those in force is suspended (R177, R181). -/
def State.markRepairing (s : State) (keys : List Nat) : State :=
  keys.foldl (fun s k =>
    let s1 := s.modLive k fun r => { r with st := .repairing }
    if k / 512 = s1.runLayer then s1.tagSuspend (k % 512) else s1) s

/-- A layer's RESIDENT pattern is written afresh from its paths in force (R212). -/
def State.refreshLayer (s : State) (layer : Nat) : State :=
  match sfind s.pth.layerPat layer with
  | some n => match s.pat? n with
    | some p => s.modPat n fun q => { q with lanes := s.layerLanes (s.residentPaths layer) p.lanes }
    | none => s
  | none => s

/-- Routes of a repair: those of its paths, and those of moved ones. -/
structure RepPlan where
  new : List Rt
  moved : List Rt
  deriving DecidableEq, Repr

/-- The routes in force of the paths `l` of a layer. -/
def State.wanted (s : State) (layer : Nat) (l : List Nat) : List Rt := (s.liveRts layer).filter fun r => l.contains r.a

/-- Placement of the paths `l` of a layer again under R165, in in-port order (R181); `avoid` are nodes that only this search treats
as excluded (R178). -/
def State.searchRep (s : State) (layer : Nat) (l : List Nat) (avoid : NodeSet) : Option RepPlan :=
  let others := (s.liveRts layer ++ s.planPaths layer).filter fun r => !l.contains r.a
  (placeAll (s.exclNodes ++ avoid) others ((s.wanted layer l).map fun r => (r.a, r.b))).map fun n => ⟨n, []⟩

/-- What R167 gives a repair: no placement, one that must wait for an ARMED pattern to fire, or one to stage. -/
inductive RearrR where
  | none
  | wait
  | plan (p : RepPlan)
  deriving DecidableEq, Repr

/-- Placement of the paths `l` of a layer under R167 with no limit on moves (R181), on the table that ARMED and fired patterns
leave. It waits for an ARMED pattern where it would move a path that this changes, or meet the old route of one that it removes:
an ARMED pattern fires unchanged (R204, R210; DESIGN CHOICE, log entry 188). -/
def State.rearrRep (s : State) (layer : Nat) (l : List Nat) : RearrR :=
  let table := s.planPaths layer
  let want := s.wanted layer l
  let armed := fun (a : Nat) => s.pth.placed.any fun p => !p.fired && p.chg.any fun c => c.key == 512 * layer + a
  if !(want.all table.contains) then .wait
  else match rearrange s.exclNodes (table.filter fun r => !l.contains r.a) (want.map fun r => (r.a, r.b)) with
    | none => .none
    | some all =>
      let moved := all.filter fun r => !l.contains r.a && !table.contains r
      let leaving := (s.liveRts layer).filter fun r => !(table.any fun t => t.a == r.a)
      if moved.any (fun r => armed r.a) || leaving.any (fun o => all.any fun r => r.conflicts o) then .wait
      else .plan ⟨all.filter fun r => l.contains r.a, moved⟩

/-- A path in force takes route n in place of o: the unfired transactions that leave it as it is follow, and the first that changes
it starts from n; true when the table itself takes it. -/
def routeWalk (key : Nat) (o n : Route) : List Placed → List Placed × Bool
  | [] => ([], true)
  | q :: t =>
    match q.chg.find? fun c => !q.fired && c.key == key with
    | none => let r := routeWalk key o n t; (q :: r.1, r.2)
    | some c =>
      let f := fun (x : Option Route) => if x = some o then some n else x
      let q1 := { q with chg := q.chg.map fun d => if d.key = key then { d with old := f d.old, new := f d.new } else d }
      if c.new = some o then let r := routeWalk key o n t; (q1 :: r.1, r.2) else (q1 :: t, false)

/-- The table takes new routes of paths that keep their ports, each given by key, present and new route; the patterns of open
transactions that hold them follow (R182). -/
def State.takeRoutes (s : State) (layer : Nat) (l : List (Nat × Route × Route)) : State :=
  let s1 := l.foldl (fun s x =>
    let w := routeWalk x.1 x.2.1 x.2.2 s.pth.placed
    { s with pth := { s.pth with placed := w.1, plan := if w.2 then sset s.pth.plan x.1 (some x.2.2) else s.pth.plan } }) s
  s1.eachTxn (fun p => p.txn.layer == layer && s1.open_ p && (s1.isCal layer || p.chg.any fun c => l.any fun x => x.1 == c.key))
    fun s p => s.rebuild p

/-- Replaces or removes a repair. -/
def State.putRep (s : State) (n : Nat) (x : Option Rep) : State :=
  let l := s.pth.reps.filterMap fun y : Rep => if y.num = n then x else some y
  { s with pth := { s.pth with reps := l } }

/-- Stages a repair with its routes (R181): as a pattern of its own in the layer that is running; in every other layer the next turn
applies it, in the pattern that fires there (R216). -/
def State.stageWith (s : State) (r : Rep) (pl : RepPlan) : State :=
  let layer := r.layer
  let key := fun (m : Rt) => 512 * layer + m.a
  let rts := pl.new ++ pl.moved
  let r1 := { r with staged := true, moved := pl.moved.map key, routes := rts.map fun m => (key m, m.route) }
  let take := rts.filterMap fun m => (sget none s.pth.live (key m)).map fun o => (key m, o, m.route)
  let s1 := if layer = s.runLayer then
      match s.newPat .repair .staged (rts.flatMap fun m => routeLanes m.a m.route) 0 0 false layer with
      | none => s
      | some (n, s') => s'.putRep r.num (some { r1 with pat := n })
    else { s with yk := { s.yk with stamp := s.yk.stamp + 1 } }.putRep r.num (some { r1 with turn := some s.yk.stamp })
  (s1.takeRoutes layer take).refreshLayer layer

/-- Places and stages a repair that is not staged (R181, R182): it waits in the safe state and while no entry is FREE. With
REPAIR_REARR = 1 the second placement is under R167, and what is still open is placed again after it; it waits, unstaged, for an
ARMED pattern in its way. With no placement its paths become DEGRADED, those of a tag repair too (DESIGN CHOICE, log entry 189).
-/
def State.stageRep (s : State) (r : Rep) : State :=
  let layer := r.layer
  let ports := r.paths.map (· % 512)
  let fail := (s.putRep r.num none).degrade 0x05 r.num r.e r.paths
  if s.flt.safe then s
  else if (s.wanted layer ports).isEmpty then s.putRep r.num none
  else if layer = s.runLayer ∧ s.freeNums.isEmpty = true then s.raise YK_EVT.STORE_FULL []
  else match s.searchRep layer ports r.avoid with
    | some pl => s.stageWith r pl
    | none =>
      if !s.fb PTH_CTRL.REPAIR_REARR [] || !r.avoid.isEmpty then fail
      else match ((s.openFrom layer 0).reverse.foldl State.withdraw s).rearrRep layer ports with
        | .plan pl => s.beneath layer 0 [] fun s => s.stageWith r pl
        | .wait => s
        | .none => fail

/-- What waits for a FREE entry or for the end of the safe state is staged (R182, R204). -/
def State.stageWaiting (s : State) : State :=
  let s1 := s.eachTxn (fun p => p.rb && !p.staged) State.stageRb
  ((s1.pth.reps.filter fun r => !r.staged).map Rep.num).foldl (fun s n => match s.pth.reps.find? fun r => r.num == n with
    | some r => s.stageRep r
    | none => s) s1

/-- Starts a repair of the paths `keys` of one layer (R181). -/
def State.startRep (s : State) (e onset : Nat) (keys : List Nat) (avoid : NodeSet) : State :=
  if keys.isEmpty then s
  else
    let n := s.pth.repNum + 1
    let r : Rep := ⟨0, false, false, n, e, onset, keys, [], [], avoid, none⟩
    let s1 := { s with pth := { s.pth with repNum := n, reps := s.pth.reps ++ [r] } }
    (s1.markRepairing keys).stageRep r

/-- A staged repair that has not fired is taken back: its pattern is FREE and the table has the routes in force again. -/
def State.unstageRep (s : State) (r : Rep) : State :=
  let back := r.routes.filterMap fun x => (sget none s.pth.live x.1).map fun o => (x.1, x.2, o)
  let s1 := if r.turn.isNone then s.freePat r.pat else s
  ((s1.putRep r.num (some { r with staged := false, pat := 0, moved := [], routes := [], turn := none })).takeRoutes r.layer
    back).refreshLayer r.layer

/-- The staged repairs whose new routes cross a node are placed again (R182). -/
def State.restageHit (s : State) (n : Nat × Nat) : State :=
  let hit := s.pth.reps.filter fun r => r.staged && !r.fired && r.routes.any fun x => Rt.hits ⟨x.1 % 512, x.2.out, x.2.mid⟩ [n]
  (hit.map Rep.num).foldl (fun s k => match s.pth.reps.find? fun r => r.num == k with
    | some r =>
      let s1 := s.unstageRep r
      match s1.pth.reps.find? fun x => x.num == k with
      | some x => s1.stageRep x
      | none => s1
    | none => s) s

/-- A staged request pattern of a layer that crosses a newly excluded node is placed again, and what was placed after it; where
placement refuses it, its transaction is lost (R182). Nodes that the host has excluded move nothing (R184). -/
def State.replaceAt (n : Nat × Nat) (s : State) (layer : Nat) : State :=
  let i := s.pth.placed.findIdx fun p => p.txn.layer == layer && s.open_ p && p.chg.any fun c => match c.new with
    | some r => Rt.hits ⟨c.key % 512, r.out, r.mid⟩ [n]
    | none => false
  if i < s.pth.placed.length then s.beneath layer i [n] id else s

/-- A path whose present route is leaving by a repair that has not fired. -/
def State.leaving (s : State) (key : Nat) : Bool :=
  s.pth.reps.any fun r => !r.fired && (r.paths.contains key || r.moved.contains key)

/-- An element fault (R179, R181, R216): a node at stages 1–15 is excluded and the paths that cross it in any layer are placed
again, then the staged patterns that cross it; with any other element the paths become DEGRADED at once. -/
def State.elementFault (s : State) (e onset : Nat) : State :=
  let layers := s.runLayer :: (List.range 64).filter fun l => l != s.runLayer && s.pth.live.any fun p => p.1 / 512 == l
  let keys := fun (s : State) (l : Nat) => (s.hitBy l e).map fun a => 512 * l + a
  if avoidable e then
    let s1 := (s.exclude (nodeE e)).restageHit (nodeE e)
    let s2 := layers.foldl (fun s l => s.startRep e onset ((keys s l).filter fun k => !s.leaving k) []) s1
    layers.foldl (State.replaceAt (nodeE e)) s2
  else
    let hit := layers.flatMap (keys s)
    let n := s.pth.repNum + 1
    let s1 := if hit.isEmpty then s else { s with pth := { s.pth with repNum := n } }
    s1.degrade 0x04 n e hit

/-! ### Resolution (R146, R182, R186) -/

/-- An outcome of the collector: result, valid time, UNOBSERVED lanes, strobe. -/
structure Outc where
  res : ColRes
  vt : Word
  unobs : Bool
  t0 : Nat
  /-- settle end in ns of network time -/
  tEnd : Nat
  deriving DecidableEq, Repr

/-- The outcome of a collector entry (R146); SUPERSEDED and ABORTED have no valid time (R148). -/
def ColEnt.outc (x : ColEnt) : Outc :=
  ⟨x.res, if x.res = .superseded ∨ x.res = .aborted then 0 else if x.has then wd (x.t0 + x.tl) else if x.inv then 0 else wd x.t0,
    decide (0 < x.nUnobs), x.t0, x.t0 + x.tl⟩

/-- What an outcome means for the transactions of its pattern (R186): the outcome, the failed elements, already taken up by
`elementFault`, and whether it is that of a repair. -/
structure Effect where
  out : Outc
  bad : List Nat
  rep : Bool
  deriving DecidableEq, Repr

/-- The effect of a collector entry (R186): of a superseded one, that of the pattern which superseded it; none while that is not
known. -/
def ColEnt.effect (x : ColEnt) (bad : List Nat) (rep : Bool) : Option Effect :=
  let o := x.outc
  if o.res ≠ .superseded then some ⟨o, bad, rep⟩
  else match x.byOut, x.by_ with
    | some b, _ => some ⟨{ o with res := b.res, vt := b.vt, unobs := b.unobs }, b.bad, b.rep⟩
    | none, some _ => none
    | none, none => some ⟨{ o with res := .complete, vt := wd x.t0 }, bad, rep⟩

/-- Whether the failed elements touch a path of the transaction that placement cannot free from them: one of its Cuffs
or end nodes (R186). -/
def Placed.stuckOn (p : Placed) (bad : List Nat) : Bool :=
  bad.any fun e => !avoidable e && p.chg.any fun c =>
    (match c.new with
      | some r => Rt.usesE ⟨c.key % 512, r.out, r.mid⟩ e
      | none => false) ||
    (isCuffE e && match c.old with
      | some r => Rt.usesE ⟨c.key % 512, r.out, r.mid⟩ e
      | none => false)

/-- Marks a transaction with the outcome of its pattern, and acts on it (R186). -/
def State.outcomeTxn (x : Effect) (s : State) (p : Placed) : State :=
  let s1 := s.modTxn p.id fun q => { q with validT := x.out.vt, unobs := q.unobs || x.out.unobs, waits := none }
  match s1.txn? p.id with
  | none => s1
  | some q =>
    if q.rolled then s1.finish q stFault
    else if q.rb then s1.finish q stApplied
    else match x.out.res with
      | .aborted => (s.beneath p.txn.layer (s.upTo p.id) [] fun s => s.withdraw p).finish p stAbort
      | .failed => if q.stuckOn x.bad then s1.rollTxn q else s1.tryFinish q
      | _ => if x.rep || q.repaired then s1.tryFinish q else s1.finish q stApplied

/-- Records of a fired transaction when its outcome is known (R155). -/
def State.txnRecs (x : Effect) (s : State) (p : Placed) : State :=
  if p.rolled || (decide (x.out.res = .aborted) && !p.rb) then s else s.applyRecs p x.out.t0 x.out.vt

/-- PTH_REP_STAT takes an interruption in ns (R189), in whole microseconds. -/
def State.repStat (s : State) (ns : Nat) : State :=
  let us := min 65535 (ns / 1000)
  let s1 := s.setF PTH_REP_STAT.LAST_US [] us
  s1.setF PTH_REP_STAT.MAX_US [] (max us (s1.f PTH_REP_STAT.MAX_US []))

/-- A path of a resolved repair (R182): back to ACTIVE with the new valid time, and its event; one that a further repair holds stays
REPAIRING, a moved one keeps its state. -/
def State.repPath (r : Rep) (o : Outc) (s : State) (k : Nat) : State :=
  match sget none s.pth.live k with
  | none => s
  | some rt =>
    let rc := s.liveRec k
    let back := decide (rc.st = .repairing) && !s.covered k
    if rc.st = .idle then s
    else
      let s1 := s.modLive k fun rc => { rc with st := if back then .active else rc.st, mid := rt.mid, validT := o.vt }
      let s2 := if back && decide (k / 512 = s1.runLayer) then s1.tagStart (k % 512) rt.out s1.clr.now else s1
      if s.covered k then s2
      else s2.post 0 0x03 (r.num % 65536) [portsW (k % 512) rt.out, wd (b2n (r.moved.contains k)), o.vt, wd r.e]

/-- A repair pattern has resolved (R182): the good paths return to ACTIVE with the new valid time; those that a failed
element touches are under a new repair already. -/
def State.repDone (s : State) (r : Rep) (o : Outc) : State :=
  let keys := r.paths ++ r.moved
  let s1 := keys.foldl (State.repPath r o) s
  let s2 := (s1.raise PTH_EVT.REPAIR_DONE []).repStat (o.tEnd - r.onset)
  let s3 := { s2 with pth := { s2.pth with placed := s2.pth.placed.map fun p : Placed =>
    if (p.waitRep && p.chg.any (fun c => keys.contains c.key)) = true then { p with validT := o.vt, repaired := true } else p } }
  (s3.refLinks (keys.map (· % 512))).retryWaits

/-- The repairs whose pattern has an outcome: of a superseded one, the superseding pattern decides; after an abort it is placed
again (R182). -/
def State.outcomeRep (x : ColEnt) (ef : Option Effect) (s : State) (r : Rep) : State :=
  match ef with
  | none => s.putRep r.num (some { r with pat := x.by_.getD r.pat })
  | some y =>
    if y.out.res = .aborted then
      s.putRep r.num (some { r with staged := false, fired := false, pat := 0, moved := [], routes := [], turn := none })
    else (s.putRep r.num none).repDone r y.out

/-- The entry of a resolved pattern (R204, R212, R215): FREE, or RESIDENT for a pattern that fired at a turn of the calendar. -/
def State.retire (s : State) (n : Nat) : State :=
  match s.pat? n with
  | none => s
  | some p =>
    let keep := decide (2 ≤ s.yk.mode) && p.turn && (match p.kind with
      | .layer => sfind s.pth.layerPat p.layer == some n
      | .request => true
      | .rollback => true
      | _ => false)
    if !keep then s.freePat n
    else
      let s1 := match sfind s.pth.layerPat p.layer with
        | some m => if m = n then s else s.freePat m
        | none => s
      let s2 := s1.modPat n fun q => { q with st := .resident, kind := .layer }
      { s2 with pth := { s2.pth with layerPat := sset s2.pth.layerPat p.layer n } }.refreshLayer p.layer

/-- The collector forgets a pattern, and those that it superseded know its outcome, or wait for the pattern that superseded it in
turn (R186). -/
def State.closeCol (s : State) (x : ColEnt) (ef : Option Effect) : State :=
  { s with col := (s.col.filter fun y : ColEnt => y.pat ≠ x.pat).map fun y : ColEnt =>
      if y.by_ ≠ some x.pat ∨ y.byOut ≠ none then y
      else match ef with
        | some e => { y with byOut := some ⟨e.out.res, e.out.vt, e.out.unobs, e.bad, e.rep⟩ }
        | none => { y with by_ := x.by_ } }

/-- Runs `k` on the transactions that a pattern decides: those that fired with it, and those that wait for it. -/
def State.eachOf (s : State) (pat : Nat) (k : State → Placed → State) : State :=
  s.eachTxn (fun p => (p.pat == pat && p.fired && p.waits.isNone && !p.rolled && !p.waitRep) || p.waits == some pat) k

/-- The pattern of a collector entry resolves (R146, R182, R186). Its records come first, then the elements that failed in it,
then its repairs and transactions. A SETTLE_FAIL of a pattern that was superseded or aborted is taken up like any other report
(R179). -/
def State.resolve (s : State) (x : ColEnt) : State :=
  let mine := fun (r : Report) => r.kind == 1 && r.pat == x.pat
  let failed := decide (x.res = .failed)
  let bad := if failed then ((s.pth.reports.filter mine).map Report.e).eraseDups else []
  let reps := s.pth.reps.filter fun r => r.pat == x.pat && r.fired
  let ef := x.effect bad (!reps.isEmpty)
  let reports := if failed then s.pth.reports.filter fun r => !mine r
    else s.pth.reports.map fun r => if mine r then { r with kind := 3 } else r
  let s1 := ({ s with pth := { s.pth with reports := reports } }.closeCol x ef).retire x.pat
  let s2 := match ef with
    | some e => s1.eachOf x.pat (State.txnRecs e)
    | none => s1
  let s3 := bad.foldl (fun s e => s.elementFault e x.t0) s2
  let s4 := reps.foldl (State.outcomeRep x ef) s3
  let s5 := match ef with
    | some e => s4.eachOf x.pat (State.outcomeTxn e)
    | none => s4.eachOf x.pat fun s p => s.modTxn p.id fun q => { q with waits := x.by_ }
  (s5.stageWaiting.fabAfter).icEdge 437

/-- COLLECTOR_RESOLVE (R146): every involved cluster has written its slot, and the outcome goes to the path service. -/
def doCollectorResolve (pat t : Nat) (s : State) : State :=
  let s1 := s.passTo t
  match s1.col.find? fun x => x.pat == pat with
  | some x => if x.wait.isEmpty then State.schedEvent s (s1.resolve x) else s1
  | none => s1

/-- Meaning of COLLECTOR_RESOLVE (R146). -/
def execCollectorResolve (pat : Fin 1024) (t : Nat) (s : State) : Host.Outcome State Fault Refusal :=
  .next (doCollectorResolve pat t s)

/-! ### Firing -/

/-- PATTERN_FIRE (R209, R210): the strobe at slot boundary t; with no pattern due it is the bare slot strobe. There is no
grid in calendar mode (R217). -/
def doPatternFire (t : Nat) (s : State) : State :=
  let s1 := s.passTo t
  if s1.yk.mode ≥ 2 ∨ t % s1.slotNs ≠ 0 ∨ s1.flt.safe = true then s1
  else
    State.schedEvent s (if s1.pwr.st = 0 then s1.fireAt t true else (s1.fireAt t true).strobe)

/-- Meaning of PATTERN_FIRE (R209). -/
def execPatternFire (t : Nat) (s : State) : Host.Outcome State Fault Refusal := .next (doPatternFire t s)

/-- REPAIR_PATTERN_FIRE (R182): at the frame boundary t the staged repair patterns fire, off the slot grid; on a slot
boundary they fire with the patterns due there (R209). -/
def doRepairFire (t : Nat) (s : State) : State :=
  let s1 := s.passTo t
  if t % 1000 ≠ 0 ∨ (s1.dueRepair s1.runLayer t).isEmpty = true ∨ s1.flt.safe = true ∨ s1.pwr.st ≠ 0 ∨ 4 ≤ s1.col.length then s1
  else State.schedEvent s (s1.fireAt t (decide (s1.yk.mode < 2) && decide (t % s1.slotNs = 0)))

/-- Meaning of REPAIR_PATTERN_FIRE (R182). -/
def execRepairPatternFire (t : Nat) (s : State) : Host.Outcome State Fault Refusal := .next (doRepairFire t s)

/-! ### The end of the calendar (R218) -/

/-- A transaction that has not fired is aborted (R186): the table as before it, its pattern FREE, NOT_APPLIED_ABORT. -/
def State.abortTxn (s : State) (p : Placed) : State :=
  let s1 := s.withdraw p
  (if p.staged then s1.freePat p.pat else s1).finish p stAbort

/-- The end of the calendar (R218): what still waits for a turn of layers 1–63 is aborted, newest first, and the layers are
released with their repairs; a transaction of such a layer that has fired keeps no path. -/
def State.dropLayers (s : State) : State :=
  let l := (s.pth.placed.filter fun p => decide (0 < p.txn.layer) && !p.fired && !p.rb).reverse
  let s1 := (l.foldl State.abortTxn s).releaseLayers
  let s2 := s1.eachTxn (fun p => decide (0 < p.txn.layer) && p.rolled) fun s p => s.finish p stFault
  { s2 with pth := { s2.pth with
    reps := s2.pth.reps.filter fun r : Rep => r.fired || decide (r.layer = 0)
    placed := (s2.pth.placed.filter fun p : Placed =>
      !(decide (0 < p.txn.layer) && p.rb && !p.fired)).map fun p : Placed => if 0 < p.txn.layer then { p with chg := [] } else p } }

/-- CALENDAR_TURN (R214, R218, R219): the turn at t; at entry 0 a stop or a bank switch takes effect. -/
def doCalTurn (t : Nat) (s : State) : State :=
  let s1 := s.passTo t
  if s1.yk.mode < 2 ∨ t ≠ s1.yk.turnAt then s1
  else
    let i := s1.yk.turnEnt
    if i = 0 ∧ s1.yk.mode = 3 ∧ s1.yk.stopAt ≤ t then
      let s2 := (s1.turn 0 t).dropLayers
      let s3 := { s2 with yk := { s2.yk with mode := 0, swPend := false, entry := 0 } }.raise YK_EVT.CAL_STOPPED []
      State.schedEvent s s3.calResume.sweepLost
    else
      let s2 := if i = 0 ∧ s1.yk.swPend = true ∧ s1.yk.swAt ≤ t then
          { s1 with yk := { s1.yk with bank := !s1.yk.bank, start := t, swPend := false } }.raise YK_EVT.CAL_SWITCHED []
        else s1
      let s3 := if i = 0 then { s2 with yk := { s2.yk with cycles := (s2.yk.cycles + 1) % 2 ^ 32 } } else s2
      State.schedEvent s ((s3.turn i t).nextTurn i t)

/-- Meaning of CALENDAR_TURN (R214). -/
def execCalendarTurn (t : Nat) (s : State) : Host.Outcome State Fault Refusal := .next (doCalTurn t s)

/-! ### Reports -/

/-- A report belongs to the check of a pattern that has not resolved (R186). -/
def State.held (s : State) (r : Report) : Bool := r.kind == 1 && s.col.any fun x => x.pat == r.pat

/-- ELEMENT_FAULT_REPORT (R179, R181): the oldest report that no unresolved pattern holds is taken up. -/
def doElementFaultReport (t : Nat) (s : State) : State :=
  let s1 := s.passTo t
  match s1.pth.reports.find? fun r => !s1.held r with
  | none => s1
  | some r =>
    let s2 := { s1 with pth := { s1.pth with reports := s1.pth.reports.erase r } }
    State.schedEvent s ((s2.elementFault r.e (r.t - r.bound * 1000)).fabAfter)

/-- Meaning of ELEMENT_FAULT_REPORT (R181). -/
def execElementFaultReport (t : Nat) (s : State) : Host.Outcome State Fault Refusal := .next (doElementFaultReport t s)

/-- The measured plane loss less the target reaches CONT_DB in a plane whose ingress word is not dark (R180). -/
def State.contBad (s : State) (pl a b : Nat) : Bool :=
  let i := (s.inLane pl a).tap0.avg
  let o := s.lane (cuffOf pl 1 b)
  decide ((o.tgt : Int) + 128 * s.f PTH_CHK.CONT_DB [] < i - o.tap0.avg) && decide (s.floorOf pl b ≤ i)

/-- The continuity comparison of one plane of one in-port (R180); suspended while the ingress cluster is under CAL_OPT
(R475). -/
def State.contStep (s : State) (pl a : Nat) : State :=
  let r := s.liveRec (512 * s.runLayer + a)
  let k := 512 * pl + a
  if r.st ≠ .active ∨ s.optCl (ingressCl pl a) = true ∨ s.contBad pl a r.out = false then { s with pth := { s.pth with cont := sdel s.pth.cont k } }
  else
    let n := sget 0 s.pth.cont k + 1
    if n < s.f PTH_CHK.CONT_N [] then { s with pth := { s.pth with cont := sset s.pth.cont k n } }
    else { s with pth := { s.pth with cont := sdel s.pth.cont k, contDue := s.pth.contDue ++ [(a, pl)] } }

/-- CUFF_EXCHANGE (R95, R180): the ingress clusters send their long averages, and the continuity comparison runs for
each path. -/
def doCuffExchange (t : Nat) (s : State) : State :=
  let s1 := (s.passTo t).exchange
  let ports := (List.range 512).filter fun a => (sget none s1.pth.live (512 * s1.runLayer + a)).isSome
  ports.foldl (fun s a => (s.contStep 0 a).contStep 1 a) s1

/-- Meaning of CUFF_EXCHANGE (R95). -/
def execCuffExchange (t : Nat) (s : State) : Host.Outcome State Fault Refusal := .next (doCuffExchange t s)

/-- The power word of the lit tap of a switching element (R45, R180). -/
def State.litWord (s : State) (e : Nat) : Int :=
  let l := s.lane e
  if darkIs0 e l.cmd then l.tap1.word else l.tap0.word

/-- The first node whose lit tap lies more than CONT_DB × 0.5 dB below the one before it, named by its element with
q = 0; the egress Cuff element where there is none (R180, R254). -/
def State.contName (s : State) (pl : Nat) (r : Rt) : Nat :=
  let db : Int := (128 * s.f PTH_CHK.CONT_DB [] : Nat)
  let words := (s.inLane pl r.a).tap0.word :: (List.range 17).map fun st => s.litWord (r.select pl st)
  match ((List.range 17).zip (words.zip (words.drop 1))).find? fun x => decide (x.2.2 < x.2.1 - db) with
  | some x => elemOf pl x.1 (r.node x.1) 0
  | none => cuffOf pl 1 r.b

/-- CONTINUITY_FAULT (R180): the oldest continuity condition is taken up: CONT_FAULT, and a report of the named
element. -/
def doContinuityFault (t : Nat) (s : State) : State :=
  let s1 := s.passTo t
  match s1.pth.contDue with
  | [] => s1
  | d :: rest =>
    let s2 := { s1 with pth := { s1.pth with contDue := rest } }
    match sget none s2.pth.live (512 * s2.runLayer + d.1) with
    | none => s2
    | some rt =>
      let e := s2.contName d.2 ⟨d.1, rt.out, rt.mid⟩
      let s3 := s2.raise PTH_EVT.CONT_FAULT []
      { s3 with pth := { s3.pth with reports := s3.pth.reports ++
        [⟨e, 2, 0, s3.clr.now, 16 * s3.f PTH_CHK.CONT_N []⟩] } }

/-- Meaning of CONTINUITY_FAULT (R180). -/
def execContinuityFault (t : Nat) (s : State) : Host.Outcome State Fault Refusal := .next (doContinuityFault t s)

/-- BANK_RESTORE (R185): a lane that reached LOCKED on gain bank 1 returns to bank 0. -/
def doBankRestore (e : Nat) (s : State) : State :=
  if (s.lane e).st = .locked then s.bank0 e else s

/-- Meaning of BANK_RESTORE (R185). -/
def execBankRestore (e : Fin 36864) (s : State) : Host.Outcome State Fault Refusal := .next (doBankRestore e s)

end Sys2Proof.Machine
end

