-- ==== Sys2Proof/Machine/Tags.lean ====
section
/-! DEFINITION. Path tags (R173 to R178): the serialiser, the evaluation of the tone and of the tag frames, tag faults and
their repair, and the host's writes of PTH_TAG_ID, PTH_EXCL and PTH_EXCL_SET. -/
namespace Sys2Proof.Machine

/-! ### The serialiser (R174, R189) -/

/-- A bit period and a frame in ns. -/
def bitNs : Nat := 10000000
def frameNs : Nat := 240000000

/-- The tag word of in-port p (R173). -/
def State.ownWord (s : State) (p : Nat) : Nat := s.pth.tagId * 512 + p

/-- Bit i of the frame of a word, the most significant first (R173). -/
def frameBit (w i : Nat) : Bool := (tagFrame w).testBit (23 - i)

/-- The identity bits of PTH_TAG_ID. -/
def State.tagIdReg (s : State) : Nat := s.f PTH_TAG_ID.UNIT [] * 64 + s.f PTH_TAG_ID.DEVID []

/-- TAG_BIT_PERIOD (R174): at the start of a bit period, every ingress Cuff in ATTEN commands a phase inversion for a 1 bit; the
other plane's Cuff of the port inverts with it, so that the two stay in phase (R39). At a frame boundary a new tag identity takes
effect, and verification restarts (R189). -/
def doTagBitPeriod (t : Nat) (s : State) : State :=
  let s1 := s.passTo t
  if t % bitNs ≠ 0 then s1
  else
    let i := t % frameNs / bitNs
    let id := s1.tagIdReg
    let s2 := if i = 0 ∧ id ≠ s1.pth.tagId then
        State.tagRestart { s1 with pth := { s1.pth with tagId := id } } t
      else s1
    (List.range 512).foldl (fun s p =>
      if s.toneless p || !frameBit (s.ownWord p) i then s
      else if (s.lane (cuffOf 0 0 p)).st = .atten ∨ (s.lane (cuffOf 1 0 p)).st = .atten then
        [0, 1].foldl (fun s pl => s.setLane (cuffOf pl 0 p) { s.lane (cuffOf pl 0 p) with invP := true }) s
      else s) s2

/-- Meaning of TAG_BIT_PERIOD (R174). -/
def execTagBitPeriod (t : Nat) (s : State) : Host.Outcome State Fault Refusal := .next (doTagBitPeriod t s)

/-! ### Evaluation (R175, R176, R177) -/

/-- The tone is present (R175): at least half the amplitude that TAG_DEPTH gives, and twice every other bin. -/
def State.tonePresent (s : State) (b : TagBin) : Bool :=
  decide (b.mean * s.f CUF_CTRL.TAG_DEPTH [] ≤ 800 * b.own) && decide (2 * b.other ≤ b.own) && decide (0 < b.own)

/-- The word that the path of an in-port is to carry (R176, R374). -/
def State.wantWord (s : State) (a : Nat) : Nat :=
  if s.inFabric then (match sfind s.pth.tagWord a with
    | some w => w
    | none => s.ownWord a)
  else s.ownWord a

/-- Verification of an in-port's path is suspended (R177). -/
def State.tagHeld (s : State) (a b : Nat) (rec : Bool) : Bool :=
  decide (s.plk.st ≠ .engaged) || s.tagDark a b || rec

/-- A tag status is a path fault (R176). -/
def tagBad (n : Nat) : Bool := n == 4 || n == 5 || n == 6

/-- Stores the verifier of an in-port; entering VERIFIED or a path fault writes its event (R176); a path fault may move
the path (R178, R382). `layer` is none for a probe segment, which writes nothing. -/
def State.setTag (s : State) (a : Nat) (v : TagV) (layer : Option Nat) : State :=
  let o := sget TagV.off s.pth.tags a
  let s1 := { s with pth := { s.pth with tags := sset s.pth.tags a v } }
  match layer with
  | none => s1
  | some ly =>
    let key := 512 * ly + a
    let r := s1.pathRec key
    if o.status = v.status then s1
    else if v.status = 3 then s1.post 0 0x01 ly [portsW a r.out]
    else if tagBad v.status then
      let s2 := (s1.raise PTH_EVT.TAG_FAULT []).post 0 0x02 v.status [portsW a r.out, wd v.last]
      let s3 := if s2.inFabric then s2.tellOwner a (if v.status ≠ 5 ∧ s2.isLinkPort a = true then .middle else .note) else s2
      if v.status = 5 then s3
      else
        match s3.fb PTH_CTRL.TAG_REPAIR [], sget none s3.pth.live key with
        | true, some rt =>
          let nodes := ((Rt.nodes ⟨a, rt.out, rt.mid⟩).filter fun n => 1 ≤ n.1 && n.1 ≤ 15).map fun n => (n.1, n.2.1)
          if s3.covered key then s3 else s3.startRep (cuffOf 0 1 rt.out) s3.clr.now [key] nodes
        | _, _ => s3
    else s1

/-- SEARCH from now on (R176). -/
def TagV.search (v : TagV) (t : Nat) : TagV := { TagV.off with status := 1, since := t, last := v.last }

/-- The frame that ended 1 ms ago (R176): decoded, compared, counted. -/
def State.tagFrameEnd (s : State) (want t : Nat) (v : TagV) : TagV :=
  let v0 := { v with bits := [], tone0 := v.tone1 }
  if v.status = 5 then (if 240 ≤ v.pres then v0.search t else v0)
  else if v.bits.length ≠ 24 ∨ v.status < 2 then v0
  else
    let f := v.bits.reverse.foldl (fun a b => 2 * a + b2n b) 0
    match tagWordOf f with
    | some w =>
      if w = want then
        let v1 := { v0 with misRun := 0, badRun := 0, last := f }
        if v.status = 2 ∧ v.tone0 = true then { v1 with status := 3 }
        else if v.status = 4 ∨ v.status = 6 then v1.search t
        else v1
      else
        let n := if v.misWord = w then v.misRun + 1 else 1
        let v1 := { v0 with misRun := n, misWord := w, badRun := 0, last := f }
        if s.f PTH_CHK.MISMATCH_N [] ≤ n then { v1 with status := 4 }
        else if v.status = 4 ∨ v.status = 6 then v1.search t else v1
    | none =>
      let v1 := { v0 with badRun := v.badRun + 1, misRun := 0 }
      if s.f PTH_CHK.WORD_BAD_N [] ≤ v.badRun + 1 then { v1 with status := 6 }
      else if v.status = 4 then v1.search t else v1

/-- One evaluation of a running verifier (R175, R176). -/
def State.tagStep (s : State) (want t : Nat) (b : TagBin) (v : TagV) : TagV :=
  let p := s.tonePresent b
  let v1 := { v with
    pres := if p then v.pres + 1 else 0
    loss := if p then 0 else v.loss + 1
    bits := if t % bitNs = 0 then b.inv :: v.bits else v.bits
    tone1 := if t % frameNs = 0 then p else v.tone1 }
  let v2 := if v.status = 1 then
      (if v.since + 9000000 ≤ t then { v1 with status := if p then 2 else 5, loss := 0 } else v1)
    else if (v.status = 2 ∨ v.status = 3 ∨ v.status = 4 ∨ v.status = 6) ∧ s.f PTH_CHK.TONE_LOSS_N [] ≤ v1.loss then { v1 with status := 5 }
    else v1
  if t % frameNs = 1000000 then s.tagFrameEnd want t v2 else v2

/-- The evaluation of one in-port with out-port b at time t (R176, R177). -/
def State.tagPort (s : State) (t a b : Nat) (held : Bool) (layer : Option Nat) (bins : List TagBin) : State :=
  let v := sget TagV.off s.pth.tags a
  if !s.fb PTH_CTRL.VERIFY_EN [] then s.setTag a { TagV.off with last := v.last } layer
  else if s.tagHeld a b held then s.setTag a { TagV.off with status := 7, last := v.last } layer
  else if v.status = 0 ∨ v.status = 7 then s.setTag a (v.search t) layer
  else if t < v.since then s
  else
    let bin := (bins.find? fun x => x.out.val == b).getD ⟨0, 0, 0, 0, false⟩
    s.setTag a (s.tagStep (s.wantWord a) t bin v) layer

/-- In calendar mode, an in-port without a path in the running layer has one in another layer of the active bank (R216). -/
def State.offTurn (s : State) (a : Nat) : Bool :=
  decide (2 ≤ s.yk.mode) && (List.range (s.bankN s.yk.bank)).any fun i => (sget none s.pth.live (512 * i + a)).isSome

/-- TAG_EVALUATION (R175): at a whole millisecond of network time, every egress Cuff with a path or probe evaluates. -/
def doTagEvaluation (t : Nat) (bins : List TagBin) (s : State) : State :=
  let s1 := s.passTo t
  if t % 1000000 ≠ 0 then s1
  else
    let ly := s1.runLayer
    let s2 := (List.range 512).foldl (fun s a =>
      let r := s.liveRec (512 * ly + a)
      if r.st = .pending then s
      else if r.st = .idle then (if s.offTurn a then s.tagPort t a 0 true (some ly) bins else s)
      else s.tagPort t a r.out (decide (r.st = .repairing) || !s.standing a r.out) (some ly) bins) s1
    let s3 := s2.fab.probes.foldl (fun s x =>
      if (s.pathRec x.1).st = .idle then s.tagPort t x.1 x.2 false none bins else s) s2
    State.schedEvent s s3.fabAfter

/-- Meaning of TAG_EVALUATION (R175). -/
def execTagEvaluation (t : Nat) (bins : List TagBin) (s : State) : Host.Outcome State Fault Refusal :=
  .next (doTagEvaluation t bins s)

/-! ### Host writes (R184, R189, R332) -/

/-- TAG_ID_WRITE (R189, R332, R374): UNIT is not written in PAIR mode, neither field in FABRIC mode, where UNIT is 0; the change
takes effect at the next tag frame boundary. -/
def doTagIdWrite (v : Word) (s : State) : State :=
  let s1 := if s.inPair || s.inFabric then s else s.setF PTH_TAG_ID.UNIT [] (fget 6 1 v)
  if s.inFabric then s1 else s1.setF PTH_TAG_ID.DEVID [] (fget 0 6 v)

/-- Meaning of TAG_ID_WRITE (R189). -/
def execTagIdWrite (v : Word) (s : State) : Host.Outcome State Fault Refusal := .next (s.hostWr .PTH_TAG_ID [] (doTagIdWrite v))

/-- PTH_EXCL_WRITE (R184): a written 1 readmits the node for later placements. -/
def doPthExclWrite (w : Nat) (v : Word) (s : State) : State := s.setReg .PTH_EXCL [w] (s.reg .PTH_EXCL [w] &&& ~~~ v)

/-- Meaning of PTH_EXCL_WRITE (R184). -/
def execPthExclWrite (w : Fin 136) (v : Word) (s : State) : Host.Outcome State Fault Refusal :=
  .next (s.hostWr .PTH_EXCL [w] (doPthExclWrite w v))

/-- PTH_EXCL_SET_WRITE (R184): a written 1 excludes the node from later placements. -/
def doPthExclSetWrite (w : Nat) (v : Word) (s : State) : State := s.setReg .PTH_EXCL [w] (s.reg .PTH_EXCL [w] ||| v)

/-- Meaning of PTH_EXCL_SET_WRITE (R184). -/
def execPthExclSetWrite (w : Fin 136) (v : Word) (s : State) : Host.Outcome State Fault Refusal :=
  .next (s.hostWr .PTH_EXCL_SET [w] (doPthExclSetWrite w v))

end Sys2Proof.Machine
end

