-- ==== Sys2Proof/Machine/Requests.lean ====
section
/-! DEFINITION. The path requests as commands (R156, R165, R377, R381): CONNECT, RELEASE, MOVE and PLACEMENT, in a
fabric through the owner's reservation. -/
namespace Sys2Proof.Machine

/-- In a fabric, a request on a path that is RESERVING, COMMITTED or REROUTING waits (R381). -/
def State.setAside (s : State) : State :=
  if !s.inFabric || s.pth.cur.isSome then s
  else match frontReq s.pth.delivered with
    | some (x, rest) => match x.reqs with
      | r :: _ =>
        let st := (s.fpath r.a).st
        if (st == 1 || st == 2 || st == 4) && !(s.fpath r.a).loc && decide (1 ≤ r.op) && decide (r.op ≤ 3) then
          { s with pth := { s.pth with delivered := rest }, fab := { s.fab with waitQ := s.fab.waitQ ++ [x] } }
        else s
      | [] => s
    | none => s

/-- CONNECT (R156, R161): the next request of the transaction in hand is checked, when it is a CONNECT. -/
def doConnect (t : Nat) (s : State) : State := ((s.passTo t).setAside).request 1

/-- Meaning of CONNECT (R156). -/
def execConnect (t : Nat) (s : State) : Host.Outcome State Fault Refusal := .next (doConnect t s)

/-- RELEASE (R156, R161, R188): the next request of the transaction in hand is checked, when it is a RELEASE. -/
def doRelease (t : Nat) (s : State) : State := ((s.passTo t).setAside).request 2

/-- Meaning of RELEASE (R188). -/
def execRelease (t : Nat) (s : State) : Host.Outcome State Fault Refusal := .next (doRelease t s)

/-- MOVE (R156, R161): the next request of the transaction in hand is checked, when it is a MOVE. -/
def doMove (t : Nat) (s : State) : State := ((s.passTo t).setAside).request 3

/-- Meaning of MOVE (R156). -/
def execMove (t : Nat) (s : State) : Host.Outcome State Fault Refusal := .next (doMove t s)

/-- A request of a fabric path that needs other devices (R364, R377, R381). -/
def State.farPath (s : State) (r : Req) : Bool :=
  let p := s.fpath r.a
  let old := p.st != 0 && !p.loc
  match r.op with
  | 1 => decide (r.dst ≠ s.devid)
  | 2 => old
  | _ => old || decide (r.dst ≠ s.devid)

/-- Placement of the transaction in hand (R158, R165), in a fabric through a reservation; a local path is placed as in STANDALONE
(R364). -/
def State.placeAny (s : State) : State :=
  match s.pth.cur with
  | some c =>
    if !s.inFabric then s.placement
    else if c.txn.reqs.length ≤ c.idx ∧ s.placeFree = true then
      match c.txn.reqs with
      | [r] => if s.farPath r then (s.setCur none).fabRequest c.txn r else (s.setCur none).placeNow c.txn
      | _ => s.placement
    else s
  | none => s

/-- PLACEMENT (R165): the transaction whose requests are all checked is placed, or rejected. Nothing is placed
while the main cores are halted (R433). Probe segments whose ports it takes are released (R375). -/
def doPlacement (t : Nat) (s : State) : State :=
  if s.prl.lsHalt then s.passTo t else State.schedEvent s (s.passTo t).placeAny.yieldProbes

/-- Meaning of PLACEMENT (R165). -/
def execPlacement (t : Nat) (s : State) : Host.Outcome State Fault Refusal := .next (doPlacement t s)

end Sys2Proof.Machine
end

