-- ==== Sys2Proof/Machine/CalOps.lean ====
section
/-! DEFINITION. Operations of the calibration engine that other families use (R466 to R477): the probe patterns, their
release, the removal of a probe route by a transaction, and the revert of a run. -/
namespace Sys2Proof.Machine

/-- Stores the calibration engine. -/
def State.setCal (s : State) (k : Cal) : State := { s with cal := k }

/-- A step takes ADCs (R472): their lanes are in HOLD (calibration) from now on. -/
def State.calTake (s : State) (keys : List Nat) : State :=
  keys.foldl (fun (s : State) (k : Nat) => s.calHoldAdc (k / 8) (k % 8)) (s.setCal { s.cal with busyAdc := keys })

/-- Stages a pattern of the calibration engine; it fires as request patterns do, not before one placed earlier (R159, R466). -/
def State.calPat (s : State) (lanes : List LaneSet) : Option State :=
  (s.newPat .calib .staged lanes (s.boundary (max (s.clr.now + s.leadNs) (s.afterDue 0))) s.leadNs false 0).map Prod.snd

/-- In-ports without a path whose ingress Cuff lanes are open for calibration light. -/
def State.openIdle (s : State) : List Nat :=
  (List.range 512).filter fun a => !s.hasPath a && !(s.fab.probes.any fun x => x.1 == a)
    && !(s.lane (cuffOf 0 0 a)).cmd && decide ((s.lane (cuffOf 0 0 a)).st = .atten)

/-- The pattern that releases the probe routes: their ingress Cuff lanes move to BLOCK (R188, R468). -/
def State.calRelease (s : State) : State :=
  let l := s.openIdle.flatMap closeIn
  if l.isEmpty then s else (s.calPat l).getD s

/-- REF_SEL and RMODE return to what a calibration step found, and its holds end (R472 to R474). -/
def State.calUnhold (s : State) : State :=
  let k := s.cal
  let s1 := k.refs.foldl (fun (s : State) (p : Nat × Nat) => State.refSelect (p.1 / 8) (wd (p.2 * 4 ^ (p.1 % 8))) s (p.1 % 8)) s
  let s2 := k.rmodes.foldl (fun (s : State) (p : Nat × Nat) => s.setF CNV_RANGE.RMODE [p.1] p.2) s1
  s2.setCal { k with refs := [], rmodes := [], busyAdc := [], again := [], zero := [] }

/-- Writes back the set-points of a revert (R476, R477), each as a host write of its slot (R81; DEDUCED, log entry 234). -/
def State.spBack (s : State) (u : CalUndo) : State :=
  u.setpt.foldl (fun (s : State) (p : Nat × Word) => doSetptWrite (p.1 / 2) (decide (p.1 % 2 = 1)) p.2 s) s

/-- A run ends without being stored: every constant and set-point it changed reverts, its patterns that have not fired are
dropped, and its probe routes are released; what their lanes learn until they fall dark reverts too (R476). Result 2 ABORTED or 4
FAILED. In the safe state the release waits for the exit. -/
def State.calStop (s : State) (result cause : Nat) : State :=
  if !s.cal.busy then s
  else
    let s1 := s.calUnhold
    let k := s1.cal
    let s2 := (s1.setCal { k with
      consts := k.undo.consts, busy := false, result := result, cause := cause, stage := 0, fired := false, routes := [], mean := none
      back := (k.undo.setpt.map fun p => p.1 / 2).eraseDups.filter k.lanes.contains
      next := [], lanes := [], seen := [], todo := [] }).spBack k.undo
    let s3 : State := { s2 with yk := { s2.yk with store := s2.yk.store.filter fun p : PatEnt => !(p.kind == .calib && !(p.st == .inFlight)) } }
    if s3.flt.safe then s3 else s3.calRelease

/-- ABORTED with a cause. -/
def State.calAbort (s : State) (cause : Nat) : State := s.calStop 2 cause

/-- Remembers the set-points of lanes before a run changes them (R476). -/
def State.calKeep (s : State) (l : List Nat) : State :=
  let u := s.cal.undo
  let keys := l.flatMap fun e => [2 * e, 2 * e + 1]
  let new := keys.filter fun k => !(u.setpt.any fun p => p.1 == k)
  s.setCal { s.cal with undo := { u with setpt := u.setpt ++ new.map fun k => (k, s.reg .SETPT [k / 512, k / 2 % 256, k % 2]) } }

end Sys2Proof.Machine
end

