-- ==== Sys2Proof/Machine/Pair.lean ====
section
/-! DEFINITION. Redundant pairs (R332 to R362): the mirror link, the mirrored transactions, the health word, the roles and
the resynchronisation. -/
namespace Sys2Proof.Machine

/-! ### Values (R345, R351) -/

/-- The digest of the matched configuration (R345): each value as a 32-bit word, in the order of the rule. -/
def State.pairDigest (s : State) : Word :=
  crc32c (wordBytes (
    [s.reg .YK_GRID [], s.reg .YK_HORIZON [], s.reg .YK_CTRL [] &&& 0x3F0, s.reg .YK_ANN_A [], s.reg .YK_ANN_B [],
      s.reg .YK_ANN_DAL [], s.reg .YK_ANN_DAH [], s.reg .YK_CAL_N []]
    ++ ([0, 1].flatMap fun b => (List.range 64).map fun i => s.reg .YK_CAL_ENT [b, i])
    ++ [s.reg .PTH_CTRL [], s.reg .PTH_EQ [], s.reg .PTH_CHK []]
    ++ ((List.range 512).map fun b => s.reg .EQ_CFG [b] &&& 0x8000FFFF)
    ++ [s.reg .CUF_CTRL [] &&& 0x1FF]))

/-- Firmware has refreshed its heartbeat within HB_MS (R351). -/
def State.aliveNow (s : State) : Bool :=
  match s.prl.hbAge with
  | some a => decide (a ≤ s.f PAIR_WD.HB_MS [] * 1000)
  | none => false

/-- A path fault by its verifier (R176, R351). -/
def State.tagFaulty (s : State) (a : Nat) : Bool :=
  let n := s.tagStatus a
  n == 4 || n == 5 || n == 6

/-- A lane whose FAULT counts for LOOPS (R351). -/
def State.loopCounts (s : State) (e : Nat) (l : Lane) : Bool :=
  if !isCuffE e then l.lit
  else isEgressE e && l.valid && decide (s.floorOf (planeE e) (portE e) ≤ (s.inLane (planeE e) l.src).tap0.avg)

/-- N_BAD (R351): paths of the running layer that are DEGRADED or have a tag fault. -/
def State.badPaths (s : State) : Nat :=
  ((List.range 512).filter fun a =>
    let r := s.pathRec (512 * s.runLayer + a)
    r.st != .idle && (r.st == .degraded || s.tagFaulty a)).length

/-- |PAIR_OFFSET| exceeds TSKEW_MAX. -/
def State.skewed (s : State) : Bool := decide (s.f PAIR_TIME.TSKEW_MAX [] < s.pair.offset.natAbs)

/-- The health bits 0 to 11 (R351). -/
def State.healthBits (s : State) : List Bool :=
  [ s.aliveNow
  , !s.inPair || decide (s.pair.role = 1) || (decide (s.pair.role = 2) && decide (s.pair.sync = 2))
  , !s.flt.safe
  , decide (s.pwr.st = 0)
  , (s.clr.st == .locked || s.clr.st == .holdover) && (!s.inPair || !s.pair.peer || !s.skewed)
  , !s.inPair || !s.pair.peer || s.pair.cfgMatch
  , !s.inPair || (decide (s.pair.lanes ≠ 0) && s.pair.peer)
  , !s.throttle
  , s.pth.conn.all fun p => !(p.2.st == .degraded || p.2.st == .repairing)
  , (List.range 512).all fun a => !s.tagFaulty a
  , s.lanes.all fun p => !(p.2.st == .fault && s.loopCounts p.1 p.2)
  , s.plk.st == .engaged ]

/-- The health word (R351). -/
def State.healthWord (s : State) : Word :=
  wd ((s.healthBits.zip (List.range 12)).foldl (fun a p => a + b2n p.1 * 2 ^ p.2) 0
    + s.badPaths * 2 ^ 16 + b2n (s.inPair && decide (s.pair.role = 1)) * 2 ^ 26)

/-- Every bit that HEALTH_MASK selects is 1 in a health word, and nothing else forbids HEALTH_OK (R352). -/
def State.healthHolds (s : State) (w : Word) : Bool :=
  decide (s.reg .HEALTH_MASK [] &&& 0xFFF &&& ~~~ w = 0) && s.ready && !s.flt.safe

/-! ### Synchronisation (R356) -/

/-- The peer's health word; 0 while the peer is lost. -/
def State.peerHealth (s : State) : Word :=
  if s.pair.peer then (match s.pair.hello with
    | some w => w.health
    | none => 0) else 0

/-- The role that the peer's last HELLO reports, with the peer found. -/
def State.peerRole (s : State) : Option Nat := if s.pair.peer then s.pair.hello.map HelloW.role else none

/-- A snapshot whose pattern has resolved: SYNCED (R356, R357). -/
def State.syncDone (s : State) : State :=
  if s.pair.role = 2 ∧ s.pair.sync = 1 ∧ s.pair.snapOn = true ∧ s.pth.placed.any Placed.isSnap = false then
    (s.setPair { s.pair with sync := 2, snapOn := false }).pairEvent 4 [wd s.pair.ptn]
  else s

/-- A module that is ACTIVE starts intake (R356): with the peer lost at once, else when the peer reports neither ACTIVE nor
YIELDING, or the safe state. -/
def State.startIntake (s : State) : State :=
  let go := match s.pair.hello with
    | some w => !s.pair.peer || w.safe || (w.role != 1 && w.role != 3)
    | none => !s.pair.peer
  if s.pair.role = 1 ∧ go = true then s.setPair { s.pair with intake := true } else s

/-- ACTIVE_SEL as the role follows it: in a double selection unit 1 takes it as deasserted (R355). -/
def State.effSel (s : State) : Bool := s.pair.sel && !(s.pair.dual && decide (s.unit = 1) && !s.pair.conflict)

/-- A standby becomes ACTIVE (R349, R356, R358). -/
def State.takeover (s : State) : State :=
  let p := s.pair
  let s1 := s.setPair { p with role := 1, sync := 3, reclaim := false, seq := (p.seq + 2 ^ 20) % 2 ^ 31, snap := []
                               snapOn := false, snapSent := false, unconf := [], ackWait := [], intake := false }
  let s2 := s1.pairEvent 1 [wd p.ptn, wd (b2n (p.sync == 2))]
  let s3 := p.unconf.foldl (fun s w => s.pairEvent 5 w.2.2) s2
  State.startIntake { s3 with pth := { s3.pth with placed := s3.pth.placed.map fun x : Placed =>
    if (x.ptn.isSome && !x.host) = true then { x with adopt := true } else x } }

/-- A shared frame as this module sends it: its own SRC and the sending time (R349). -/
def State.restamp (s : State) (f : List Byte) : List Byte :=
  f.take 8 ++ leBytes 1 (s.f PTH_TAG_ID.UNIT [] * 64 + s.f PTH_TAG_ID.DEVID []) ++ (f.drop 9).take 1
    ++ le6 (s.clr.now / secNs) ++ le4 (s.clr.now % secNs) ++ f.drop 20

/-- The active module hands its own copies of shared frames to its signalling fabric (R349): those whose transaction has its ACK or
has waited MIR_TO for it; all of them at the end of its role. -/
def State.handOff (all : Bool) (s : State) : State :=
  let waits := fun (x : Nat × Nat × List Byte) =>
    !all && s.pair.ackWait.any fun w => w.1 == x.1 && decide (s.clr.now < w.2.1)
  (s.pair.annWait.filter fun x => !waits x).foldl (fun s x => s.handAnn x.2.1 (s.restamp x.2.2))
    (s.setPair { s.pair with annWait := s.pair.annWait.filter waits })

/-- Roles follow ACTIVE_SEL once the module is ready (R356). A module that yields with the peer lost does not stay SYNCED. -/
def State.roleStep (s : State) : State :=
  if !s.inPair || !s.ready then s
  else
    -- ACTIVE yields; YIELDING ends when every placed transaction has its ACK
    let s1 := if s.pair.role = 1 ∧ s.effSel = false then s.setPair { s.pair with role := 3, intake := false } else s
    let s2 := if s1.pair.role = 3 ∧ s1.pair.ackWait.all (fun x => decide (x.2.1 ≤ s1.clr.now)) = true ∧ s1.pth.cur = none then
        let sy := if s1.pair.hello.map (fun w => w.ptn.toNat) = some s1.pair.ptn then 2 else 0
        let s' := s1.handOff true
        let u := (s'.setPair { s'.pair with role := 2, sync := sy, snapSent := false }).pairEvent 2 [wd s1.pair.ptn]
        let u1 := if sy = 2 then u.pairEvent 4 [wd s1.pair.ptn] else u
        if u1.pair.peer then u1 else u1.loseSync 1
      else s1
    if s2.pair.role = 0 then
      if s2.effSel then
        State.startIntake (s2.setPair { s2.pair with role := 1, sync := 3, seq := (s2.pair.seq + 2 ^ 20) % 2 ^ 31 })
      else s2.setPair { s2.pair with role := 2, sync := 0 }
    else if s2.pair.role = 2 ∧ s2.effSel = true then s2.takeover
    else s2

/-- The peer is lost (R338, R356). -/
def State.peerLost (s : State) : State :=
  if !s.pair.peer then s
  else
    let s1 := (s.setPair { s.pair with peer := false, dual := false, outs := [], peerOuts := [], snapSent := false }).pairEvent 6 []
    ((s1.loseSync 1).startIntake).roleStep

/-! ### Transactions on the standby (R341, R342) -/

/-- The transaction of a TXN as this module holds it; it has no completion here. -/
def State.txnOf (s : State) (w : TxnW) : Txn :=
  { Txn.own (w.reqs.map fun r => (⟨r.op, r.reqId, r.a, r.b, w.layer, false, 0, 0, 0⟩ : Req)) s.clr.now with ring := w.ring }

/-- The routes of the new paths, each through the middle that the active module chose where that crosses no excluded node
and conflicts with no path, else by the search of R165. -/
def placeHint (x : NodeSet) (hint : Nat → Option Nat) : List Rt → List (Nat × Nat) → Option (List Rt)
  | _, [] => some []
  | others, p :: t =>
    let m := match hint p.1 with
      | some h => if !(Rt.hits ⟨p.1, p.2, h⟩ x) && others.all (fun o => !(Rt.conflicts ⟨p.1, p.2, h⟩ o)) then some h
        else place x others p.1 p.2
      | none => place x others p.1 p.2
    match m with
    | some m => (placeHint x hint (⟨p.1, p.2, m⟩ :: others) t).map fun l => ⟨p.1, p.2, m⟩ :: l
    | none => none

/-- Placement of a mirrored transaction (R341): hints, then R165, then R167 with no limit on moves. -/
def State.placeMir (s : State) (x : Txn) (hint : Nat → Option Nat) : PlaceR :=
  match placeHint s.exclNodes hint (s.keptRoutes x) (s.newPaths x) with
  | some l => .ok l [] false
  | none => placeMoves s.exclNodes (s.keptRoutes x) x.named (s.newPaths x) 0

/-- Takes a mirrored transaction for boundary `due` (R341, R358): placed and staged; paths moved by own choice are announced
in a unit-local NOTICE of kind 1. None when the table refuses a request (R158) or no placement is found. -/
def State.takeTxn (s : State) (w : TxnW) (due : Nat) : Option State :=
  let x := s.txnOf w
  let hint := fun a => (w.reqs.find? fun r => r.a == a && r.op != 2).map PairReq.mid
  match if s.txnBad x then .bad stPort else s.placeMir x hint with
  | .bad _ => none
  | .ok new moved loop =>
    let l := s.changes x new moved
    let q := { Placed.new s.pth.nextId x l (moved.map Rt.a) loop with rearr := w.rearr, ptn := some w.ptn.toNat, mirDue := some due }
    let s3 := ((s.takeChanges l new).addPlaced q).stage q
    let s4 := (s3.setPair { s3.pair with ptn := w.ptn.toNat }).bump .PAIR_CNT [0] 1
    some (if moved.isEmpty || !s4.annEn || !s4.fb PTH_CTRL.NOTICE_EN [] then s4
      else match s4.txn? q.id with
        | some p => s4.notice (s4.unitDue w.layer w.rearr due) p.pat 1 false (moved.map fun r => (r.b, some r.a))
        | none => s4)

/-- The cause for which the standby refuses a TXN: 1 digest, 2 PTN, 3 no FREE entry, 4 safe state, 5 commit point passed
(R341). -/
def State.txnCause (s : State) (w : TxnW) : Nat :=
  if s.tableDigest w.layer ≠ w.digest then 1
  else if w.ptn.toNat ≠ (s.pair.ptn + 1) % 2 ^ 32 then 2
  else if s.freeNums.isEmpty then 3
  else if s.flt.safe then 4
  else if w.due < s.clr.now + s.leadNs then 5
  else 0

/-- TXN on the standby (R341, R356). While the main cores are halted nothing is placed and no ACK is sent (R433). -/
def State.onTxn (s : State) (w : TxnW) : State :=
  if s.pair.role ≠ 2 ∨ s.prl.lsHalt = true then s
  else
    let refuse := fun (c : Nat) => (s.mirSend (.ack w.ptn c)).loseSync (if c = 2 then 4 else 3)
    match s.txnCause w with
    | 0 => match s.takeTxn w w.due with
      | some s1 => s1.mirSend (.ack w.ptn 0)
      | none => refuse 6
    | c => refuse c

/-- ACK on the module that placed the transaction (R340, R349). -/
def State.onAck (s : State) (ptn : Word) (cause : Nat) : State :=
  if s.pair.role ≠ 1 ∧ s.pair.role ≠ 3 then s
  else
    let s1 := s.setPair { s.pair with ackWait := s.pair.ackWait.filter fun x => x.1 ≠ ptn.toNat }
    let s2 := if cause = 0 then s1 else s1.bump .PAIR_CNT [1] 1
    (s2.handOff false).roleStep

/-- OUTCOME on the active module (R342). -/
def State.onOutcome (s : State) (ptn : Word) (status : Nat) : State :=
  if s.pair.role ≠ 1 ∧ s.pair.role ≠ 3 then s
  else match s.pair.outs.find? (fun x => x.1 == ptn.toNat) with
  | some x => (s.setPair { s.pair with outs := s.pair.outs.filter fun y => y.1 ≠ ptn.toNat }).compareOut ptn.toNat x.2 status
  | none =>
    if s.pth.placed.any fun p => p.ptn == some ptn.toNat then
      s.setPair { s.pair with peerOuts := s.pair.peerOuts ++ [(ptn.toNat, status)] }
    else s

/-- ANN on the standby (R349). -/
def State.onAnn (s : State) (w : AnnW) : State :=
  let s1 := s.setPair { s.pair with seq := max s.pair.seq (w.seq.toNat % 2 ^ 31) }
  if s1.pair.role = 2 then s1.handAnn w.seq.toNat (s1.restamp w.bytes) else s1

/-- CTRL on the standby (R344): both modules take it at the same turn; a start may move, be cancelled, or follow a stop (R217,
R218). -/
def State.onCtrl (s : State) (w : CtrlW) : State :=
  if s.pair.role ≠ 2 then s
  else match w.kind with
    | 0 =>
      let s1 := { s with yk := { s.yk with calAt := w.time } }.setF YK_CTRL.CAL_RUN [] 1
      match s.yk.mode with
      | 0 => { s1 with yk := { s1.yk with mode := 1 } }
      | 1 => s1
      | 3 => { s1 with yk := { s1.yk with calPend := true } }
      | _ => s
    | 1 => if s.yk.mode = 2 then { s with yk := { s.yk with mode := 3, stopAt := w.time } }.setF YK_CTRL.CAL_RUN [] 0
      else if s.yk.mode = 1 ∨ s.yk.mode = 3 then
        { s with yk := { s.yk with mode := if s.yk.mode = 1 then 0 else 3, calPend := false } }.setF YK_CTRL.CAL_RUN [] 0
      else s
    | _ => if s.yk.mode = 2 then { s with yk := { s.yk with swPend := true, swAt := w.time } } else s

/-! ### The snapshot (R357) -/

/-- The routes that give a layer the table of a snapshot: those already there stay; none when no placement exists. -/
def State.snapLayer (s : State) (layer : Nat) (want : List (Nat × Nat)) : Option (List Rt × List Rt) :=
  let kept := (s.planPaths layer).filter fun r => want.contains (r.a, r.b)
  let new := want.filter fun p => !(kept.any fun r => r.a == p.1)
  match placeTxn s.exclNodes kept [] new 1 0 with
  | .ok l moved _ => some (l, moved)
  | .bad _ => none

/-- Places the table of a snapshot for a layer and stages the pattern that applies it. -/
def State.applyLayer (s : State) (want : List (Nat × Nat)) (layer : Nat) : Option State :=
  match s.snapLayer layer want with
  | none => none
  | some (new, moved) =>
    let mk := fun a n => (⟨512 * layer + a, sget none s.pth.plan (512 * layer + a), n, s.pathRec (512 * layer + a)⟩ : Chg)
    let gone := (s.planPaths layer).filter fun r => !(want.any fun p => p.1 == r.a)
    let l := (gone.map fun r => mk r.a none) ++ ((new ++ moved).map fun r => mk r.a (some r.route))
    if l.isEmpty then some s
    else
      let x := Txn.own [{ segReq 3 0 0 with layer := layer }] s.clr.now
      let q := { Placed.new s.pth.nextId x l (moved.map Rt.a) false with rearr := false }
      some (((s.takeChanges l new).addPlaced q).stage q)

/-- The snapshot is complete: its table is placed under R167 with no limit on moves and applied, and its unresolved
transactions are taken at their own boundaries (R357); one that it cannot take is refused (R341). -/
def State.applySnap (s : State) : State :=
  let tab : List (Nat × Nat) := s.pair.snap.flatMap StateW.table
  let ls := ((tab.map fun p : Nat × Nat => p.1 / 512) ++ usedLayers s.pth.plan).eraseDups
  let step := fun (o : Option State) (layer : Nat) => match o with
    | none => none
    | some s => s.applyLayer ((tab.filter fun p : Nat × Nat => p.1 / 512 == layer).map fun p : Nat × Nat => (p.1 % 512, p.2)) layer
  match ls.foldl step (some s), s.pair.snap.getLast? with
  | some s1, some w =>
    let s2 := w.txns.foldl (fun (s : State) (x : TxnW) =>
      if s.pair.sync ≠ 1 then s
      else match s.takeTxn x (if x.due < s.clr.now + s.leadNs then s.boundary (s.clr.now + s.leadNs) else x.due) with
      | some s' => s'.mirSend (.ack x.ptn 0)
      | none => (s.mirSend (.ack x.ptn 6)).loseSync 3) s1
    s2.setPair { s2.pair with ptn := w.ptn.toNat, seq := max s2.pair.seq (w.seq.toNat % 2 ^ 31), snap := []
                              snapOn := decide (s2.pair.sync = 1) }
  | _, _ => s.loseSync 3

/-- STATE on the standby (R356, R357); a module whose main cores are halted places nothing (R433). -/
def State.onState (s : State) (w : StateW) : State :=
  if s.pair.role ≠ 2 ∨ s.prl.lsHalt = true then s
  else
    let s1 := if w.part ≠ 0 then s
      else if s.pair.sync = 2 then
        (s.setPair { s.pair with sync := 1, snap := [], snapOn := false }).pairEvent 3 [wd 7]
      else if s.pair.sync = 1 ∨ s.peerRole = some 1 then s.setPair { s.pair with sync := 1, snap := [], snapOn := false }
      else s
    if s1.pair.sync ≠ 1 ∨ w.part ≠ s1.pair.snap.length then s1
    else
      let s2 := s1.setPair { s1.pair with snap := s1.pair.snap ++ [w] }
      if w.last then s2.applySnap else s2

/-! ### HELLO (R337, R338, R345, R355) -/

/-- The digest of a HELLO against the own one (R345). -/
def State.cfgCheck (s : State) (d : Word) : State :=
  let own := s.pairDigest
  let p := s.pair
  if d = own then
    let n := min 10 (p.cfgGood + 1)
    s.setPair { p with cfgBad := 0, cfgGood := n, cfgMatch := p.cfgMatch || decide (n = 10) }
  else
    let n := min 10 (p.cfgBad + 1)
    let s1 := s.setPair { p with cfgGood := 0, cfgBad := n, cfgMatch := p.cfgMatch && decide (n ≠ 10) }
    if p.cfgMatch && decide (n = 10) then s1.pairEvent 9 [own, d] else s1

/-- The conflicts of R355. -/
def State.conflictCheck (s : State) (w : HelloW) : State :=
  let pf := decide (w.pref = s.sys.pref)
  let du := s.pair.sel && decide (w.role = 1)
  let s1 := if pf && !s.pair.conflict then s.pairEvent 12 [] else s
  let s2 := if du && !s.pair.dual then s1.pairEvent 11 [] else s1
  s2.setPair { s2.pair with conflict := pf, dual := du, reclaim := s2.pair.reclaim && !pf }

/-- A resynchronisation is due (R357): the peer reports STANDBY and NOSYNC, or waits for a snapshot not sent yet. -/
def State.snapCheck (s : State) (old : Option HelloW) (w : HelloW) : State :=
  if s.pair.role ≠ 1 ∨ w.role ≠ 2 then s
  else
    let again := decide (w.sync = 0) && (old.map HelloW.sync != some 0)
    if 2 ≤ w.sync then s.setPair { s.pair with snapSent := false }
    else if again || !s.pair.snapSent then (s.setPair { s.pair with snapSent := true }).sendSnapshot
    else s

/-- How far a 32-bit count lies ahead of another. -/
def ahead (base n : Nat) : Nat := (n + 2 ^ 32 - base % 2 ^ 32) % 2 ^ 32

/-- A HELLO confirms an outcome when its last PTN has reached that transaction and the peer's boundary has come (R358; DEDUCED, log
entry 86). -/
def State.confirms (s : State) (w : HelloW) (x : Nat × Nat × List Word) : Bool :=
  decide (ahead x.1 w.ptn.toNat < 2 ^ 31) && decide (x.2.1 ≤ s.clr.now)

/-- A HELLO of the peer. -/
def State.onHello (s : State) (w : HelloW) (ofs : Int) : State :=
  let old := if s.pair.peer then s.pair.hello else none
  let found := !s.pair.peer
  let s1 := s.setPair { s.pair with peer := true, hello := some w, helloAge := 0, offset := ofs
                                    unconf := s.pair.unconf.filter fun x => !s.confirms w x
                                    seq := max s.pair.seq (w.seq.toNat % 2 ^ 31) }
  let s2 := if found then s1.pairEvent 7 [w.health] else s1
  let sk := s2.skewed
  let s3 := if sk && !s2.pair.skew then s2.pairEvent 10 [BitVec.ofInt 32 ofs] else s2
  let s4 := ((s3.setPair { s3.pair with skew := sk }).cfgCheck w.digest).conflictCheck w
  let s5 := if s4.pair.role = 2 ∧ s4.pair.sync = 0 ∧ w.role = 1 then
      s4.setPair { s4.pair with sync := 1, snap := [], snapOn := false } else s4
  ((s5.startIntake).snapCheck old w).roleStep

/-! ### The mirror link (R336, R337) -/

/-- TYPE of a mirror frame (R337). -/
def mirType : MirMsg → Nat
  | .hello _ => 1
  | .txn _ => 2
  | .ack .. => 3
  | .outcome .. => 4
  | .ann _ => 5
  | .ctrl _ => 6
  | .state _ => 7
  | .retry .. => 8

/-- A mirror frame as it leaves on both lanes (R337): the header with TYPE, LEN and MSEQ, the payload, of which the spec gives no
widths (Config.mirBody), and the CRC-32C over both. -/
def mirFrame (x : Nat × MirMsg) : List Byte :=
  let l := Config.mirBody x.2
  let b := leBytes 1 (mirType x.2) ++ [0] ++ leBytes 2 l.length ++ leBytes 4 x.1 ++ l
  b ++ leBytes 4 (crc32c b).toNat

/-- The latest frames that the replay store holds, newest first (R337). -/
def replayed : Nat → List (Nat × MirMsg) → List (Nat × MirMsg)
  | _, [] => []
  | room, x :: t => if (mirFrame x).length ≤ room then x :: replayed (room - (mirFrame x).length) t else []

/-- RETRY (R337): the named frames that the replay store of 64 KiB holds are sent again. -/
def State.onRetry (s : State) (lo hi : Nat) : State :=
  let store := (replayed 65536 s.pair.tx.reverse.eraseDups).reverse
  s.setPair { s.pair with tx := s.pair.tx ++ store.filter fun x => decide (ahead lo x.1 ≤ ahead lo hi) }

/-- The content of a frame takes effect. -/
def State.mirTake (s : State) (ofs : Int) : MirMsg → State
  | .hello w => s.onHello w ofs
  | .txn w => s.onTxn w
  | .ack n c => s.onAck n c
  | .outcome n st _ => s.onOutcome n st
  | .ann w => s.onAnn w
  | .ctrl w => s.onCtrl w
  | .state w => s.onState w
  | .retry _ _ => s

/-- The frames that no longer wait are taken in the order of their MSEQ. -/
def mirDrain : Nat → State → State
  | 0, s => s
  | n + 1, s =>
    match s.pair.held with
    | x :: rest =>
      if x.1 = s.pair.mrx then
        mirDrain n ((s.setPair { s.pair with held := rest, mrx := (s.pair.mrx + 1) % 2 ^ 32 }).mirTake x.2.1 x.2.2)
      else s
    | [] => s

/-- A frame is kept in order of MSEQ, counted from the next expected. -/
def insHeld (base : Nat) (x : Nat × Int × MirMsg) : List (Nat × Int × MirMsg) → List (Nat × Int × MirMsg)
  | [] => [x]
  | y :: l => if ahead base x.1 < ahead base y.1 then x :: y :: l else if x.1 = y.1 then y :: l else y :: insHeld base x l

/-- An intact mirror frame arrives (R336, R337): copies of a frame already taken are discarded, a gap sends RETRY, and the
frames are taken in order; a RETRY acts at once. -/
def State.mirRecv (s : State) (h : MirHdr) (ofs : Int) (m : MirMsg) (t : Nat) : State :=
  let s0 := s.passTo t
  if !s0.inPair || decide (s0.pair.lanes = 0) then s0
  else
    let s1 := if h.bad = 0 then s0 else s0.bump .PAIR_CNT [3] h.bad
    let p := s1.pair
    let n := h.mseq % 2 ^ 32
    if 2 ^ 31 ≤ ahead p.mrx n ∨ p.held.any (fun x => x.1 == n) = true then s1
    else
      let next := (p.held.map fun x => ahead p.mrx x.1 + 1).foldl max 0
      let s2 := if next < ahead p.mrx n then
          (s1.mirSend (.retry ((p.mrx + next) % 2 ^ 32) ((n + 2 ^ 32 - 1) % 2 ^ 32))).bump .PAIR_CNT [2] 1
        else s1
      let s3 := match m with
        | .retry lo hi => s2.onRetry lo hi
        | _ => s2
      let s4 := s3.setPair { s3.pair with held := insHeld p.mrx (n, ofs, m) s3.pair.held }
      State.schedEvent s (mirDrain s4.pair.held.length s4)

/-! ### Commands -/

/-- The offset of the peer's network time that a HELLO received at network time t gives, with the delay of the link in ns, which the
two-way exchange of tags measures (R338; log entry 85). -/
def helloOfs (w : HelloW) (delay : Int) (t : Nat) : Int := (w.tag + BitVec.ofInt 32 delay - wd t).toInt

/-- Meaning of HELLO (R338). -/
def execHello (h : MirHdr) (w : HelloW) (ofs : Int) (t : Nat) (s : State) : Host.Outcome State Fault Refusal :=
  .next (s.mirRecv h (helloOfs w ofs (s.passTo t).clr.now) (.hello w) t)

/-- Meaning of TXN (R341). -/
def execTxn (h : MirHdr) (w : TxnW) (t : Nat) (s : State) : Host.Outcome State Fault Refusal := .next (s.mirRecv h 0 (.txn w) t)

/-- Meaning of ACK (R340). -/
def execAck (h : MirHdr) (ptn : Word) (cause t : Nat) (s : State) : Host.Outcome State Fault Refusal :=
  .next (s.mirRecv h 0 (.ack ptn cause) t)

/-- Meaning of OUTCOME (R342). -/
def execOutcome (h : MirHdr) (ptn : Word) (status : Nat) (vt : Word) (t : Nat) (s : State) :
    Host.Outcome State Fault Refusal := .next (s.mirRecv h 0 (.outcome ptn status vt) t)

/-- Meaning of ANN (R349). -/
def execAnn (h : MirHdr) (w : AnnW) (t : Nat) (s : State) : Host.Outcome State Fault Refusal := .next (s.mirRecv h 0 (.ann w) t)

/-- Meaning of CTRL (R344). -/
def execCtrl (h : MirHdr) (w : CtrlW) (t : Nat) (s : State) : Host.Outcome State Fault Refusal := .next (s.mirRecv h 0 (.ctrl w) t)

/-- Meaning of STATE (R357). -/
def execState (h : MirHdr) (w : StateW) (t : Nat) (s : State) : Host.Outcome State Fault Refusal :=
  .next (s.mirRecv h 0 (.state w) t)

/-- Meaning of RETRY (R337). -/
def execRetry (h : MirHdr) (lo hi t : Nat) (s : State) : Host.Outcome State Fault Refusal := .next (s.mirRecv h 0 (.retry lo hi) t)

/-- The HELLO that this module sends (R337). -/
def State.ownHello (s : State) : HelloW :=
  ⟨decide (s.unit = 1), s.sys.pref, s.pair.role, s.pair.sync, s.flt.safe, s.pair.health, wd s.pair.ptn, wd s.pair.seq,
    s.pairDigest, s.tag⟩

/-- HELLO_SEND (R337): every 100 µs. -/
def doHelloSend (t : Nat) (s : State) : State :=
  let s1 := s.passTo t
  if s1.inPair then s1.mirSend (.hello s1.ownHello) else s1

/-- Meaning of HELLO_SEND (R337). -/
def execHelloSend (t : Nat) (s : State) : Host.Outcome State Fault Refusal := .next (doHelloSend t s)

/-- MIRROR_LANE_CHANGE (R336, R337, R461): MSEQ starts at 0 when the link comes up. -/
def doMirrorLane (lane : Nat) (up : Bool) (s : State) : State :=
  if !s.inPair || (up && !(s.fb PAIR_CTRL.MIR_EN [] && s.modeOn)) then s
  else
    let p := s.pair
    let n := if up then p.lanes ||| 2 ^ lane else p.lanes &&& (3 - 2 ^ lane)
    let s1 := if (p.lanes == 0) = (n == 0) then s else s.icEdge 439
    if p.lanes = 0 ∧ n ≠ 0 then s1.setPair { p with lanes := n, mtx := 0, tx := [], mrx := 0, held := [] }
    else s1.setPair { p with lanes := n }

/-- Meaning of MIRROR_LANE_CHANGE (R336). -/
def execMirrorLaneChange (lane : Fin 2) (up : Bool) (s : State) : Host.Outcome State Fault Refusal :=
  .next (doMirrorLane lane up s)

/-- PEER_LOSS (R338): no HELLO for PEER_TO. -/
def doPeerLoss (s : State) : State :=
  if s.inPair && decide (s.f PAIR_WD.PEER_TO [] * 100 ≤ s.pair.helloAge) then s.peerLost else s

/-- Meaning of PEER_LOSS (R338). -/
def execPeerLoss (s : State) : Host.Outcome State Fault Refusal := .next (doPeerLoss s)

/-- MIRROR_TIMEOUT (R340, R349): MIR_TO has passed without an ACK. The module that placed the transaction hands off its own
copies, and at the commit point counts the ACK as missing; a standby whose ACK went missing leaves SYNCED. -/
def doMirrorTimeout (t : Nat) (s : State) : State :=
  let s1 := s.passTo t
  if !s1.inPair then s1
  else if s1.pair.role = 2 then s1.loseSync 2
  else
    let late := s1.pair.ackWait.filter fun x => decide (x.2.2 ≤ s1.clr.now)
    let s2 := s1.setPair { s1.pair with ackWait := s1.pair.ackWait.filter fun x => decide (s1.clr.now < x.2.2) }
    let s3 := if late.isEmpty then s2 else s2.bump .PAIR_CNT [1] late.length
    (s3.handOff false).roleStep

/-- Meaning of MIRROR_TIMEOUT (R349). -/
def execMirrorTimeout (t : Nat) (s : State) : Host.Outcome State Fault Refusal := .next (doMirrorTimeout t s)

/-- ACTIVE_SEL_CHANGE (R335, R356): the level after the filter. Outside PAIR it is ignored. -/
def doActiveSel (sel : Bool) (s : State) : State :=
  if !s.inPair then s
  else ((s.icEdge 417).setPair { s.pair with sel := sel, dual := s.pair.dual && sel }).roleStep

/-- Meaning of ACTIVE_SEL_CHANGE (R356). -/
def execActiveSelChange (sel : Bool) (s : State) : Host.Outcome State Fault Refusal := .next (doActiveSel sel s)

/-- The conditions under which RECLAIM may stand (R355, R360). -/
def State.reclaimOk (s : State) : Bool :=
  s.inPair && decide (s.unit = 0) && decide (s.pair.role = 2) && decide (s.pair.sync = 2) && s.pair.healthOk && !s.pair.conflict
    && decide (s.f PAIR_CTRL.RECLAIM_HOLD [] ≠ 0) && decide (s.f PAIR_CTRL.RECLAIM_HOLD [] * 1000000 ≤ s.pair.okRun)

/-- RECLAIM_HOLD (R360). -/
def doReclaimHold (s : State) : State := if s.reclaimOk then s.setPair { s.pair with reclaim := true } else s

/-- Meaning of RECLAIM_HOLD (R360). -/
def execReclaimHold (s : State) : Host.Outcome State Fault Refusal := .next (doReclaimHold s)

/-- A write of PAIR_CTRL (R356, R362). With MIR_EN at 0 the lanes fall silent and the peer is lost (R338). -/
def doPairCtrl (v : Word) (s : State) : State :=
  if !s.inPair then s
  else
    let s1 := (s.setF PAIR_CTRL.RECLAIM_HOLD [] (min 3600 (fget 16 16 v))).setF PAIR_CTRL.MIR_EN [] (fget 0 1 v)
    let s2 := if bit 0 v then s1 else ((if s1.pair.lanes = 0 then s1 else s1.icEdge 439).setPair { s1.pair with lanes := 0 }).peerLost
    if bit 1 v then s2.loseSync 5 else s2

/-- Meaning of PAIR_RESYNC (R356): a write of PAIR_CTRL. -/
def execPairResync (v : Word) (s : State) : Host.Outcome State Fault Refusal := .next (s.hostWr .PAIR_CTRL [] (doPairCtrl v))

/-- The change of HEALTH_OK (R352, R361). -/
def State.setHealthOk (s : State) (b : Bool) : State :=
  (s.setPair { s.pair with healthOk := b, okRun := 0 }).pairEvent 13 [wd (b2n b), s.pair.health, s.peerHealth]

/-- HEALTH_UPDATE (R351, R352, R360): every microsecond. -/
def doHealthUpdate (s : State) : State :=
  let s0 := { s with prl := { s.prl with
    hbAge := s.prl.hbAge.map (· + 1), bootAge := if s.prl.hbAge.isNone && decide (4 < s.sys.stage) then s.prl.bootAge + 1 else s.prl.bootAge
    stageAge := s.prl.stageAge + 1
    aliveRun := if s.ready && s.aliveNow then s.prl.aliveRun + 1 else 0 } }
  let w := s0.healthWord
  let ok := s0.healthHolds w
  let p := s0.pair
  let s1 := s0.setPair { p with
    health := w, healthRun := if ok then p.healthRun + 1 else 0, okRun := if p.healthOk then p.okRun + 1 else 0
    helloAge := if p.peer then p.helloAge + 1 else p.helloAge }
  let s2 := if p.healthOk && !ok then s1.setHealthOk false else s1
  let s3 := s2.syncDone.roleStep
  if s3.reclaimOk then s3 else s3.setPair { s3.pair with reclaim := false }

/-- Meaning of HEALTH_UPDATE (R351). -/
def execHealthUpdate (s : State) : Host.Outcome State Fault Refusal := .next (doHealthUpdate s)

/-- HEALTH_OK_ASSERT (R352): every selected bit has held for 1 ms. -/
def doHealthOk (s : State) : State :=
  if !s.pair.healthOk && decide (1000 ≤ s.pair.healthRun) && s.ready && !s.flt.safe then s.setHealthOk true else s

/-- Meaning of HEALTH_OK_ASSERT (R352). -/
def execHealthOkAssert (s : State) : Host.Outcome State Fault Refusal := .next (doHealthOk s)

end Sys2Proof.Machine
end

