-- ==== Sys2Proof/Machine/Traffic.lean ====
section
/-! DEFINITION. Shaping, policing and queue observation (R313 to R331). -/
namespace Sys2Proof.Machine

/-- Stores the signalling fabric. -/
def State.setSgf (s : State) (g : Sgf) : State := { s with sgf := g }

/-- Bucket size in millibits (R313). -/
def milli (bytes : Nat) : Int := (bytes * 8000 : Nat)

/-- A commit (R315): buckets start full when it enables, and are clamped to their new sizes otherwise. -/
def Tok.commit (t n : Tok) : Tok :=
  if n.en && !t.en then { n with tc := milli n.cbs, tp := milli n.pbs }
  else { n with tc := min t.tc (milli n.cbs), tp := min t.tp (milli n.pbs) }

/-- A refill (R313): every bucket gains its rate, capped at its size, whether it is charged or not. -/
def Tok.refill (t : Tok) : Tok :=
  { t with tc := min (milli t.cbs) (t.tc + t.cir), tp := min (milli t.pbs) (t.tp + t.pir) }

/-- The staged set of a shaper. -/
def State.shpStaged (s : State) (n : Nat) : Tok :=
  ⟨s.fb SHP_CFG.EN [n], s.f SHP_CIR.CIR [n], s.f SHP_PIR.PIR [n], s.f SHP_CBS.CBS [n], s.f SHP_PBS.PBS [n], 0, 0, 0⟩

/-- The staged set of a policer. -/
def State.polStaged (s : State) (n : Nat) : Tok :=
  ⟨s.fb POL_CFG.EN [n], s.f POL_CIR.CIR [n], s.f POL_PIR.PIR [n], s.f POL_CBS.CBS [n], s.f POL_PBS.PBS [n], 0, 0,
    s.reg .POL_CFG [n]⟩

/-- Commits the staged set of a shaper, or refuses it (R315). -/
def State.shpCommit (s : State) (n : Nat) : State :=
  let p := s.shpStaged n
  if p.pir ≠ 0 ∧ p.pir < p.cir then s.raise TRC_EVT.PAR_REJ []
  else s.setSgf { s.sgf with shp := sset s.sgf.shp n ((sget Tok.reset s.sgf.shp n).commit p) }

/-- Commits the staged set of a policer, or refuses it (R319). -/
def State.polCommit (s : State) (n : Nat) : State :=
  let p := s.polStaged n
  if p.pir < p.cir ∨ p.cbs = 0 ∨ p.pbs = 0 then s.raise TRC_EVT.PAR_REJ []
  else s.setSgf { s.sgf with pol := sset s.sgf.pol n ((sget Tok.reset s.sgf.pol n).commit p) }

/-- TOKEN_REFILL (R313): at a whole microsecond, commits, then refills. The committed policers are kept as they would stand without
the commit, for the frames of this cycle (R324). -/
def doTokenRefill (t : Nat) (s : State) : State :=
  let s1 := s.passTo t
  let s2 := s1.sgf.shpApply.foldl State.shpCommit s1
  let s3 := s1.sgf.polApply.foldl State.polCommit s2
  s3.setSgf { s3.sgf with
    shpApply := [], polApply := []
    polOld := s1.sgf.polApply.map (fun n => (n, (sget Tok.reset s1.sgf.pol n).refill)), polOldT := s1.clr.now
    shp := s3.sgf.shp.map fun p => (p.1, p.2.refill), pol := s3.sgf.pol.map fun p => (p.1, p.2.refill) }

/-- Meaning of TOKEN_REFILL (R313). -/
def execTokenRefill (t : Nat) (s : State) : Host.Outcome State Fault Refusal := .next (doTokenRefill t s)

/-- A write of SHP_CFG (R315): EN is staged, APPLY asks for the commit. -/
def doShpCfg (n : Nat) (v : Word) (s : State) : State :=
  let s1 := s.wrCodes .SHP_CFG [n] v
  if bit 31 v then s1.setSgf { s1.sgf with shpApply := if s1.sgf.shpApply.contains n then s1.sgf.shpApply else s1.sgf.shpApply ++ [n] } else s1

/-- Meaning of SHAPER_APPLY (R315). -/
def execShaperApply (n : Fin 1024) (v : Word) (s : State) : Host.Outcome State Fault Refusal :=
  .next (s.hostWr .SHP_CFG [n] (doShpCfg n v))

/-- A field of a written word whose value 3 keeps the previous one. -/
def keep3 (lo : Nat) (o v : Word) : Word := if fget lo 2 v = 3 then fput lo 2 (fget lo 2 o) v else v

/-- A write of POL_CFG (R319, R322, R330). -/
def doPolCfg (n : Nat) (v : Word) (s : State) : State :=
  let o := s.reg .POL_CFG [n]
  let s1 := s.wrCodes .POL_CFG [n] (keep3 0 o (keep3 4 o (keep3 6 o v)))
  if bit 31 v then s1.setSgf { s1.sgf with polApply := if s1.sgf.polApply.contains n then s1.sgf.polApply else s1.sgf.polApply ++ [n] } else s1

/-- Meaning of POLICER_APPLY (R319). -/
def execPolicerApply (n : Fin 4096) (v : Word) (s : State) : Host.Outcome State Fault Refusal :=
  .next (s.hostWr .POL_CFG [n] (doPolCfg n v))

/-! ### Shapers (R316, R317) -/

/-- The shaper of an output and class. -/
def State.shaper (s : State) (o c : Nat) : Tok := sget Tok.reset s.sgf.shp (o * 16 + c)

/-- The tier of R317: 0 COMMITTED, 1 EXCESS, 2 BLOCKED. -/
def Tok.tier (t : Tok) : Nat :=
  let peak := decide (t.pir = 0) || decide (0 ≤ t.tp)
  if !t.en then 0
  else if decide (0 < t.cir) && decide (0 ≤ t.tc) && peak then 0
  else if peak then 1
  else 2

/-- A bucket after a charge: it does not fall below the floor of R316. -/
def chargeTo (floor b x : Int) : Int := max (b - x) (min b floor)

/-- The charge at the end of a transmission of n bytes (R316). -/
def State.shpCharge (s : State) (o c n : Nat) : State :=
  let t := s.shaper o c
  let x := milli (n + s.f TRC_CTRL.SHP_OVH [])
  if !t.en then s
  else
    let lo := - milli (9216 + s.f TRC_CTRL.SHP_OVH [])
    let u : Tok := { t with tc := chargeTo lo t.tc x, tp := if t.pir = 0 then t.tp else chargeTo lo t.tp x }
    s.setSgf { s.sgf with shp := sset s.sgf.shp (o * 16 + c) u }

/-! ### Policers (R320 to R324) -/

/-- The policer entry of a frame (R320). -/
def State.polEntry (s : State) (p c vid : Nat) : Option Nat :=
  let w := if s.fb POL_PORT.SEL [p] then s.reg .POL_VID [vid] else s.reg .POL_PC [p * 16 + c]
  if bit 31 w then some (fget 0 12 w) else none

/-- Result of a policer: colour 0 GREEN, 1 YELLOW, 2 RED; the buckets charged. -/
structure Colour where
  col : Nat
  tc : Bool
  tp : Bool
  deriving DecidableEq, Repr

/-- The decision of R321 for Bd bytes with input colour `cin`. -/
def Tok.decide3 (t : Tok) (aware : Bool) (cin bd : Nat) : Colour :=
  let b := milli bd
  if (aware && cin == 2) || decide (t.tp < b) then ⟨2, false, false⟩
  else if (aware && cin == 1) || decide (t.tc < b) then ⟨1, false, true⟩
  else ⟨0, true, true⟩

/-- The input colour (R322): PCP and DEI of a tagged frame. -/
def State.inColour (s : State) (mode : Nat) (tag : Option (Nat × Bool)) : Nat :=
  match tag with
  | none => 0
  | some x => if mode = 1 then b2n x.2 else if mode = 2 then fget (2 * x.1) 2 (s.reg .TRC_PCPCOL []) else 0

/-- What policing does with a frame (R323): discarded or not, its class, and the charge still due. -/
structure PolRes where
  drop : Bool
  cls : Nat
  pol : Option (Nat × Bool × Bool)
  st : State

/-- The policer that decides a frame now: in the cycle of its commit with the old parameters (R324), of which the buckets are those
of the old sizes (log entry 200). -/
def State.polTok (s : State) (i : Nat) : Tok :=
  if s.clr.now = s.sgf.polOldT then (sfind s.sgf.polOld i).getD (sget Tok.reset s.sgf.pol i) else sget Tok.reset s.sgf.pol i

/-- Buckets after a charge of b millibits (R321). -/
def Tok.pay (t : Tok) (tc tp : Bool) (b : Int) : Tok :=
  { t with tc := if tc then t.tc - b else t.tc, tp := if tp then t.tp - b else t.tp }

/-- Charges a policer (R321). -/
def State.polPay (s : State) (i : Nat) (tc tp : Bool) (b : Int) : State :=
  s.setSgf { s.sgf with pol := sset s.sgf.pol i ((sget Tok.reset s.sgf.pol i).pay tc tp b)
                        polOld := match sfind s.sgf.polOld i with
                          | some t => sset s.sgf.polOld i (t.pay tc tp b)
                          | none => s.sgf.polOld }

/-- Step 4 of R286: the frame of class c is coloured, counted and acted on. -/
def State.police (s : State) (p c vid : Nat) (tag : Option (Nat × Bool)) (n : Nat) : PolRes :=
  match s.polEntry p c vid with
  | none => ⟨false, c, none, s⟩
  | some i =>
    let t := s.polTok i
    if !t.en then ⟨false, c, none, s.bump .POL_GREEN [i] 1⟩
    else
      let mode := fget 0 2 t.cfg
      let k := t.decide3 (decide (mode ≠ 0)) (s.inColour mode tag) (min n 128)
      let s1 := s.polPay i k.tc k.tp (milli (min n 128))
      let due := some (i, k.tc, k.tp)
      match k.col with
      | 0 => ⟨false, c, due, s1.bump .POL_GREEN [i] 1⟩
      | 1 =>
        let a := fget 4 2 t.cfg
        let s2 := s1.bump .POL_YELLOW [i] 1
        if a = 1 then ⟨true, c, none, s2.bump .SP_CNT [p, 6] 1⟩ else ⟨false, if a = 2 then fget 8 4 t.cfg else c, due, s2⟩
      | _ =>
        let a := fget 6 2 t.cfg
        let s2 := s1.bump .POL_RED [i] 1
        if a = 1 then ⟨true, c, none, s2.bump .SP_CNT [p, 6] 1⟩ else ⟨false, if a = 2 then fget 12 4 t.cfg else c, due, s2⟩

/-- The rest of a frame's charge when its last cell has arrived (R321, R324); n is its length. -/
def State.polRest (s : State) (d : Option (Nat × Bool × Bool)) (n : Nat) : State :=
  match d with
  | none => s
  | some x => s.polPay x.1 x.2.1 x.2.2 (milli (min n 9216 - 128))

/-! ### Queue observation (R325, R326) -/

/-- Cells of a frame in the buffer (R293). -/
def Frm.cells (f : Frm) : Nat := ceilDiv f.bytes.length 128

/-- Number of a queue (R325). -/
def queueNo (i o c : Nat) : Nat :=
  if o = 64 then 65536 + i * 16 + c else if i = 64 then 66560 + o * 16 + c else (i * 64 + o) * 16 + c

/-- The frame of a copy. -/
def Sgf.frame (g : Sgf) (id : Nat) : Option Frm := g.frames.find? fun f => f.id == id

/-- The copies of a queue, oldest first. -/
def Sgf.queue (g : Sgf) (i o c : Nat) : List Cpy := g.copies.filter fun x => x.inp == i && x.out == o && x.cls == c

/-- Cells of the copies in a queue. -/
def Sgf.depth (g : Sgf) (i o c : Nat) : Nat :=
  (g.queue i o c).foldl (fun a x => a + ((g.frame x.fid).map Frm.cells).getD 0) 0

/-- Delay of the head copy of a queue at time `now` (R326). -/
def Sgf.headDelay (g : Sgf) (now i o c : Nat) : Nat :=
  match g.queue i o c with
  | [] => 0
  | x :: _ => match g.frame x.fid with
    | some f => min ((now : Int) - f.arr).toNat 0xFFFFFFFF
    | none => 0

/-- One sample of a queue of depth d and head delay t (R326): DNOW and DMAX wrap at their 16 bits (R331). -/
def Obs.sample (o : Obs) (tau d t : Nat) : Obs :=
  { dnow := d % 2 ^ 16, dmax := max o.dmax d % 2 ^ 16, davg := low 32 ((o.davg : Int) + asr ((d * 256 : Nat) - (o.davg : Int)) tau)
    tmax := max o.tmax t, tavg := (usat 32 ((o.tavg : Int) + asr ((t : Int) - (o.tavg : Int)) tau)).toNat }

/-- Queues that hold a copy, by number, with their place. -/
def Sgf.busyQueues (g : Sgf) : SMap (Nat × Nat × Nat) :=
  g.copies.foldl (fun m x => sset m (queueNo x.inp x.out x.cls) (x.inp, x.out, x.cls)) []

/-- QUEUE_SAMPLE (R326): every queue is sampled; a queue that holds nothing and has only zeros stays so. -/
def doQueueSample (t : Nat) (s : State) : State :=
  let s1 := s.passTo t
  if !s1.fb TRC_CTRL.OBS_EN [] then s1
  else
    let g := s1.sgf
    let tau := s1.f TRC_CTRL.OBS_TAU []
    let b := g.busyQueues
    let idle := g.obs.map fun p => if (sfind b p.1).isSome then p else (p.1, p.2.sample tau 0 0)
    let all := b.foldl (fun m p => sset m p.1 ((sget Obs.reset m p.1).sample tau (g.depth p.2.1 p.2.2.1 p.2.2.2)
      (g.headDelay s1.clr.now p.2.1 p.2.2.1 p.2.2.2))) idle
    s1.setSgf { g with obs := all, obsSeq := g.obsSeq + 1 }

/-- Meaning of QUEUE_SAMPLE (R326). -/
def execQueueSample (t : Nat) (s : State) : Host.Outcome State Fault Refusal := .next (doQueueSample t s)

end Sys2Proof.Machine
end

