-- ==== Sys2Proof/Machine/Switch.lean ====
section
/-! DEFINITION. The signalling fabric (R277 to R312): ports, frames at the input, forwarding, admission, the crossbar,
transmission, and the forwarding commands. -/
namespace Sys2Proof.Machine

/-! ### Ports (R281) -/

/-- An SP port. -/
def State.spPort (s : State) (p : Nat) : SpPort := sget SpPort.reset s.sgf.ports p

/-- Stores an SP port. -/
def State.setSpPort (s : State) (p : Nat) (x : SpPort) : State := s.setSgf { s.sgf with ports := sset s.sgf.ports p x }

/-- A destination takes frames: port 64, or an SP port in UP or HOLD (R281). -/
def State.outOpen (s : State) (p : Nat) : Bool :=
  decide (p = 64) || (s.spPort p).st == .up || (s.spPort p).st == .hold

/-- Counts in a port counter (R311). -/
def State.spCount (s : State) (p k : Nat) : State := s.bump .SP_CNT [p, k] 1

/-! ### The packet buffer (R293, R294) -/

/-- Cells that a frame holds: 72 reserved until its last cell has arrived. -/
def Frm.held (f : Frm) : Nat := if f.whole then f.cells else 72

/-- Free cells (R293). -/
def Sgf.free (g : Sgf) : Nat := 393216 - g.frames.foldl (fun a f => a + f.held) 0

/-- Cells in use for the frames of a port. -/
def Sgf.inUse (g : Sgf) (p : Nat) : Nat := g.frames.foldl (fun a f => if f.inp = p then a + f.held else a) 0

/-- Bytes that cross an SP lane in n ns at a rate coded as FORCE_RATE (R278): 10, 25 or 50 Gbit/s. -/
def bytesIn (rate n : Nat) : Nat := if rate = 0 then n * 5 / 4 else if rate = 1 then n * 25 / 8 else n * 25 / 4

/-- Bytes of an arriving frame received by now: its first cell, and what its lane has carried since. -/
def State.gotBytes (s : State) (f : Frm) : Nat := f.bytes.length + bytesIn (s.spPort f.inp).rate ((s.clr.now : Int) - f.arr).toNat

/-- Frames without a copy leave the buffer; a frame from SPH then gets its write-back (R257, R307). One that is still arriving is
charged for the bytes received by now (R321). -/
def State.reap (s0 : State) : State :=
  let gone := s0.sgf.frames.filter fun f => !(s0.sgf.copies.any fun c => c.fid == f.id)
  let s := gone.foldl (fun s f => if f.whole then s else s.polRest f.pol (s.gotBytes f)) s0
  let g := s.sgf
  let done := gone.filterMap fun f => f.host.map fun h => (match f.sent with
    | some x => ⟨h.1, h.2, 1, wd x.1, x.2⟩
    | none => ⟨h.1, h.2, if f.flushed then 3 else 2, 0, 0⟩ : SphDone)
  { s with
    sgf := { g with frames := g.frames.filter fun f => g.copies.any fun c => c.fid == f.id }
    hif := { s.hif with sphDone := s.hif.sphDone ++ done } }

/-- Changes a frame. -/
def State.modFrm (s : State) (id : Nat) (f : Frm → Frm) : State :=
  s.setSgf { s.sgf with frames := s.sgf.frames.map fun x : Frm => if x.id = id then f x else x }

/-- Changes the copy of a frame to an output. -/
def State.modCpy (s : State) (id o : Nat) (f : Cpy → Cpy) : State :=
  s.setSgf { s.sgf with copies := s.sgf.copies.map fun x : Cpy => if x.fid = id ∧ x.out = o then f x else x }

/-- Removes copies. -/
def State.dropCpy (s : State) (p : Cpy → Bool) : State :=
  s.setSgf { s.sgf with copies := s.sgf.copies.filter fun x => !p x }

/-- Flushes copies (R281, R283, R305): each counts in FLUSHED of its output. -/
def State.flush (s : State) (p : Cpy → Bool) : State :=
  let l := s.sgf.copies.filter p
  let s1 := l.foldl (fun s c => (s.spCount c.out 9).modFrm c.fid fun f => { f with flushed := true }) s
  (s1.dropCpy p).reap

/-- The queued copies of an output that is not transmitting them. -/
def State.queuedTo (s : State) (o : Nat) (c : Cpy) : Bool := c.out == o && (s.spPort o).tx != some c.fid

/-- Flushes the queues of an output, with its FLUSHED event; port 64 has none (R310). -/
def State.flushOut (s : State) (o : Nat) : State :=
  if s.sgf.copies.any (s.queuedTo o) then
    let s1 := s.flush (s.queuedTo o)
    if o = 64 then s1 else s1.raise SP_EVT.FLUSHED [o]
  else s

/-! ### Frames (R285, R288) -/

/-- A byte of a frame as a number. -/
def byteAt (l : List Byte) (i : Nat) : Nat := (l.getD i 0).toNat

/-- A tagged frame (R285). -/
def isTagged (l : List Byte) : Bool := decide (byteAt l 12 = 0x81) && decide (byteAt l 13 = 0)

/-- The EtherType (R285). -/
def etypeOf (l : List Byte) : Nat := if isTagged l then byteAt l 16 * 256 + byteAt l 17 else byteAt l 12 * 256 + byteAt l 13

/-- PCP and DEI of a tagged frame. -/
def pcpOf (l : List Byte) : Option (Nat × Bool) :=
  if isTagged l then some (byteAt l 14 / 32, decide (byteAt l 14 / 16 % 2 = 1)) else none

/-- VID (R285). -/
def State.vidOf (s : State) (p : Nat) (l : List Byte) : Nat :=
  let v := byteAt l 14 % 16 * 256 + byteAt l 15
  if isTagged l && decide (v ≠ 0) then v else s.f SP_CFG.DEF_VID [p]

/-- Class of a frame received on a port (R285). -/
def State.classOf (s : State) (p : Nat) (l : List Byte) : Nat :=
  match pcpOf l with
  | some x => fget (4 * x.1) 4 (s.reg .SP_PCP [p])
  | none => s.f SP_CFG.DEF_CLASS [p]

/-- Bucket of a key (R288). -/
def fwdBucket (da vid : Nat) : Nat := (crc32c (leBytes 6 da ++ leBytes 2 vid)).toNat % 16384

/-- The entry of a key: its index and result. -/
def Sgf.fwdFind (g : Sgf) (da vid : Nat) : Option (Nat × Nat) :=
  (List.range 4).findSome? fun w =>
    let i := fwdBucket da vid * 4 + w
    match sfind g.fwd i with
    | some e => if e.da = da ∧ e.vid = vid then some (i, e.res) else none
    | none => none

/-- Members of a group (R292, R312). -/
def State.members (s : State) (grp : Nat) : List Nat :=
  (List.range 65).filter fun p => bit (p % 32) (s.reg .MC_MASK [grp, p / 32])

/-- What a lookup gives (R288, R291): copies wanted, whether they are multicast, and the class that replaces. -/
structure Look where
  outs : List Nat
  mcast : Bool
  cls : Option Nat
  deriving DecidableEq, Repr

/-- A unicast result (R291): never the port of entry; a number above 64 names no port. -/
def ucast (p d : Nat) : List Nat := if d = p ∨ 64 < d then [] else [d]

/-- Lookup of a frame of port p (R288, R291). -/
def State.lookup (s : State) (p da vid : Nat) : Look :=
  let mc := fun g => (s.members g).filter fun o => o != p
  match s.sgf.fwdFind da vid with
  | some x =>
    let cls := if x.2 / 2 ^ 28 % 2 = 1 then some (x.2 / 2 ^ 24 % 16) else none
    match x.2 / 2 ^ 29 % 4 with
    | 0 => ⟨ucast p (x.2 % 4096), false, cls⟩
    | 1 => ⟨mc (x.2 % 4096), true, cls⟩
    | _ => ⟨[], false, cls⟩
  | none =>
    match s.f SP_CFG.MISS [p] with
    | 1 => ⟨ucast p 64, false, none⟩
    | 2 => ⟨mc 4095, true, none⟩
    | _ => ⟨[], false, none⟩

/-! ### Admission and enqueue (R294, R301) -/

/-- A copy makes its output busy (R301): an open cut-through, one with cells in transfer or staging, or one that is complete and
so requests a cell. -/
def State.engages (s : State) (c : Cpy) : Bool :=
  c.ct || decide (0 < c.asg) || ((s.sgf.frame c.fid).map Frm.whole).getD false

/-- A copy may be cut through (R301). -/
def State.mayCut (s : State) (p o c : Nat) : Bool :=
  decide (p < 64) && decide (o < 64) && (s.spPort o).st == .up && s.fb SP_CFG.CT_EN [o]
    && decide ((s.spPort o).rate ≤ (s.spPort p).rate) && (s.spPort o).tx.isNone
    && !(s.sgf.copies.any fun x => x.out == o && s.engages x) && !(s.sgf.copies.any fun x => x.inp == p && x.ct)
    && decide ((s.shaper o c).tier ≠ 2)

/-- Admits one copy or counts it in ADM_DROP (R294). A frame whose last byte has arrived (`all`) is not cut through (R301). -/
def State.letIn (f : Frm) (ok all : Bool) (s : State) (o : Nat) : State :=
  if ok && decide (s.sgf.depth f.inp o f.cls < s.f SGF_BUF.VOQ_MAX []) then
    let ct := !all && s.mayCut f.inp o f.cls
    s.setSgf { s.sgf with copies := s.sgf.copies ++ [(⟨f.id, f.inp, o, f.cls, 0, 0, ct, none, none, none⟩ : Cpy)] }
  else s.spCount f.inp 4

/-- Steps 5 and 6 of R286: one copy for each destination of a frame, whose id is next; `all`: its last byte has arrived. -/
def State.enqueue (s : State) (f : Frm) (all : Bool) (outs : List Nat) : State :=
  let g := s.sgf
  let ok := decide (g.inUse f.inp + 72 ≤ s.f SGF_BUF.INPUT_MAX [] * 16) && decide (72 ≤ g.free)
  let s1 := s.setSgf { g with frames := g.frames ++ [f], nextId := g.nextId + 1 }
  outs.foldl (State.letIn f ok all) s1

/-- Counts what a lookup drops: FWD_DROP for a discarded frame, DOWN_DROP at each output that is not open. -/
def State.dropLook (s : State) (p : Nat) (k : Look) : State :=
  if k.outs.isEmpty then s.spCount p 5
  else k.outs.foldl (fun s o => if s.outOpen o then s else s.spCount o 10) s

/-- The fabric forwards (R283, R309). -/
def State.forwards (s : State) : Bool := s.fb SGF_CTRL.FWD_EN [] && !s.flt.safe

/-- A new frame of port p with these bytes. -/
def State.newFrm (s : State) (p cls : Nat) (l : List Byte) (whole mcast own : Bool) (host : Option (Nat × Nat))
    (pol : Option (Nat × Bool × Bool)) (ts : Word) : Frm :=
  { id := s.sgf.nextId, inp := p, cls := cls, bytes := l, whole := whole, bad := false, own := own, mcast := mcast
    host := host, arr := s.clr.now, ts := ts, pol := pol, sent := none, flushed := false }

/-- What steps 1 to 6 of R286 leave: the state, the frame's id if it got any copy, and whether it reached step 3. -/
structure Entry where
  st : State
  id : Option Nat
  passed : Bool

/-- Steps 1 to 6 of R286 for a frame whose class before lookup is `c0`; `whole`: it is complete; `all`: its last byte has arrived;
`trapOnly`: the trap of step 3 consumes it (R287). What the lookup discards goes no further. -/
def State.ingress (s : State) (p c0 : Nat) (l : List Byte) (whole all trapOnly : Bool) (host : Option (Nat × Nat)) (ts : Word) : Entry :=
  if !s.forwards then ⟨s.spCount p 5, none, false⟩
  else
    let vid := s.vidOf p l
    let k := s.lookup p (leValue (l.take 6)) vid
    let s1 := s.dropLook p k
    let outs := k.outs.filter s1.outOpen
    if outs.isEmpty then ⟨s1, none, false⟩
    else if trapOnly then ⟨s1, none, true⟩
    else
      let r := s1.police p (k.cls.getD c0) vid (pcpOf l) l.length
      if r.drop then ⟨r.st, none, true⟩
      else
        let f := r.st.newFrm p r.cls l whole k.mcast false host r.pol ts
        let s2 := r.st.enqueue f all outs
        ⟨s2, if s2.sgf.copies.any fun c => c.fid == f.id then some f.id else none, true⟩

/-- A frame from SPH that got no copy is written back DROPPED (R307). -/
def State.hostDrop (s : State) (host : Option (Nat × Nat)) (id : Option Nat) : State :=
  match host, id with
  | some h, none => { s with hif := { s.hif with sphDone := s.hif.sphDone ++ [(⟨h.1, h.2, 2, 0, 0⟩ : SphDone)] } }
  | _, _ => s

/-- An announcement as an Ethernet frame (R220): padded to the least length, with its FCS. -/
def State.ownFrame (s : State) (payload : List Byte) : List Byte :=
  let h := leBytes 4 (s.reg .YK_ANN_DAL []).toNat ++ leBytes 2 (s.reg .YK_ANN_DAH []).toNat ++ leBytes 6 Config.ownMac
    ++ [0x88, 0xB5] ++ payload
  let b := h ++ List.replicate (60 - h.length) 0
  b ++ fcs b

/-- The frame of a control message (R370): the header of R220, the four bytes that begin every body, and the content of its
TYPE, of which the spec gives no widths (Config.fabBody). -/
def State.fabFrame (s : State) (m : FabMsg) : List Byte :=
  let body := leBytes 1 m.dst ++ leBytes 1 m.hops ++ leBytes 2 0 ++ Config.fabBody m.body
  s.ownFrame (leBytes 1 1 ++ leBytes 1 m.body.type ++ leBytes 2 body.length ++ leBytes 4 m.seq ++ leBytes 1 m.src ++ leBytes 1 0
    ++ leBytes 6 (s.clr.now / 1000000000) ++ leBytes 4 (s.clr.now % 1000000000) ++ body)

/-- The SP ports by which a control message leaves (R370, R371): the one it is forwarded on, every port in UP for every
neighbour, else the port that FAB_RT names. -/
def State.fabPorts (s : State) (port : Option Nat) (m : FabMsg) : List Nat :=
  match port with
  | some p => [p]
  | none =>
    if m.dst = 255 then (List.range 64).filter fun p => (s.spPort p).st == .up
    else match sfind s.fab.rt m.dst with
      | some x => [x.2]
      | none => []

/-- A frame that the T512 originates enters through port 64, is counted there, and goes to the ports `outs` (R277, R285). -/
def State.ownEnter (s : State) (l : List Byte) (outs : List Nat) (mcast : Bool) : State :=
  let s1 := s.spCount 64 0
  if !s1.forwards then s1.spCount 64 5
  else
    let s2 := s1.dropLook 64 ⟨outs, mcast, none⟩
    let f := s2.newFrm 64 (s2.f SGF_CTRL.OWN_CLASS []) l true mcast true none none s2.tag
    (s2.enqueue f true (outs.filter s2.outOpen)).reap

/-- The announcement that enters now (R300): the oldest, once the control messages originated before it have entered. -/
def State.annNext (s : State) : Option (List Byte × List (Nat × List Byte)) :=
  match s.yk.annOut with
  | a :: rest => if a.1 = 0 ∨ s.fab.out = [] then some (a.2, rest) else none
  | [] => none

/-- The oldest frame that the T512 originated enters (R220, R277, R300): an announcement goes to the announcement group, a control
message of the fabric to its ports. -/
def State.ownIngress (s : State) : State :=
  match s.annNext, s.fab.out with
  | some a, _ =>
    State.ownEnter { s with yk := { s.yk with annOut := a.2 } } (s.ownFrame a.1)
      ((s.members (s.f YK_ANN_A.GROUP [])).filter fun o => o != 64) true
  | none, x :: rest =>
    let l := s.fabPorts x.1 x.2
    State.ownEnter { s with fab := { s.fab with out := rest }, yk := { s.yk with annOut := s.yk.annOut.map fun a => (a.1 - 1, a.2) } }
      (s.fabFrame x.2) l (decide (1 < l.length))
  | none, [] => s

/-- A control frame of a fabric (R370): its TYPE stands behind the version in the header of R220. -/
def ctlFrame (l : List Byte) : Bool :=
  let ty := byteAt l (if isTagged l then 19 else 15)
  decide (16 ≤ ty) && decide (ty ≤ 23)

/-- A frame received on an SP port (R283 to R287). In the safe state it is counted in FWD_DROP and goes no further. In FABRIC mode a
control frame is trapped and not forwarded (R370). -/
def State.rxFirst (s : State) (p : Nat) (first : List Byte) (whole : Bool) (ts : Word) : State :=
  if (s.spPort p).st ≠ .up ∨ (sfind s.sgf.rx p).isSome then s
  else
    let put := fun (s : State) (r : Rx) => s.setSgf { s.sgf with rx := sset s.sgf.rx p r }
    let s1 := if s.flt.safe then s.spCount p 5 else s
    if whole && decide (first.length < 64) then put (s1.spCount p 2) ⟨first, none, false, true⟩
    else if etypeOf first = 0x8808 then put (s1.spCount p 3) ⟨first, none, false, true⟩
    else if s.flt.safe then put s1 ⟨first, none, false, false⟩
    else
      let trap := decide (etypeOf first = s.f SGF_TRAP.ETYPE [])
      let x := s.ingress p (s.classOf p first) first false whole (trap && (s.fb SGF_CTRL.TRAP_CONSUME [] || (s.inFabric && ctlFrame first))) none ts
      (put x.st ⟨first, x.id, trap && x.passed, false⟩).reap

/-- FRAME_INGRESS (R286): the first cell of a frame on port p, at network time t; `ts` is the tag of its first byte. On
port 64 the oldest frame that the T512 originated enters. -/
def doFrameIngress (p : Nat) (first : List Byte) (whole : Bool) (ts : Word) (t : Nat) (s : State) : State :=
  let s1 := s.passTo t
  if p = 64 then s1.ownIngress else s1.rxFirst p first whole ts

/-- Meaning of FRAME_INGRESS (R286). -/
def execFrameIngress (p : Fin 65) (first : List Byte) (whole : Bool) (ts : Word) (t : Nat) (s : State) :
    Host.Outcome State Fault Refusal := .next (doFrameIngress p first whole ts t s)

/-! ### The last cell (R303, R304) -/

/-- Ends a frame that failed: store-and-forward copies are discarded, a cut-through copy leaves with `l` and the
complement of its FCS (R304). -/
def State.failFrm (s : State) (id : Nat) (l : List Byte) : State :=
  ((s.modFrm id fun f => { f with bytes := l ++ fcsInv l, whole := true, bad := true, pol := none }).dropCpy
    fun c => c.fid == id && !c.ct).reap

/-- The last cell of the frame arriving on port p: the rest of its bytes, and whether the PCS or FEC reported an error. -/
def State.rxLast (s : State) (p : Nat) (rest : List Byte) (err : Bool) : State :=
  match sfind s.sgf.rx p with
  | none => s
  | some r =>
    let l := r.bytes ++ rest
    let s1 := s.setSgf { s.sgf with rx := sdel s.sgf.rx p }
    if r.dropped then s1
    else
      let pol := match r.fid with
        | some id => (s1.sgf.frame id).bind Frm.pol
        | none => none
      let s2 := s1.polRest pol l.length
      let id := r.fid.getD s2.sgf.nextId
      if 9216 < l.length then (s2.spCount p 2).failFrm id (l.take 9212)
      else if err || !fcsOk l then (s2.spCount p 1).failFrm id (l.take (l.length - 4))
      else
        let s3 := (s2.spCount p 0).modFrm id fun f => { f with bytes := l, whole := true }
        if r.trap then (s3.setSgf { s3.sgf with trapped := s3.sgf.trapped ++ [(p, l)] }).icEdge 438 else s3

/-- FRAME_COMPLETE (R303). -/
def doFrameComplete (p : Nat) (rest : List Byte) (err : Bool) (t : Nat) (s : State) : State := (s.passTo t).rxLast p rest err

/-- Meaning of FRAME_COMPLETE (R303). -/
def execFrameComplete (p : Fin 64) (rest : List Byte) (err : Bool) (t : Nat) (s : State) : Host.Outcome State Fault Refusal :=
  .next (doFrameComplete p rest err t s)

/-! ### The crossbar (R296 to R298, R302) -/

/-- Cells of a frame that are in the buffer: the first, or all once the last has arrived. -/
def Frm.there (f : Frm) : Nat := if f.whole then f.cells else 1

/-- Cells that a copy moves in all. -/
def Sgf.size (g : Sgf) (c : Cpy) : Nat := ((g.frame c.fid).map Frm.cells).getD 0

/-- Free places in the staging store of an output, less the cells still owed to copies in transfer (R298). -/
def Sgf.staging (g : Sgf) (o : Nat) : Nat :=
  144 - (g.copies.filter fun c => c.out == o && decide (0 < c.asg)).foldl (fun a c => a + g.size c) 0

/-- An earlier copy of the same queue has cells left to assign. -/
def Sgf.blocked (g : Sgf) (c : Cpy) : Bool :=
  ((g.queue c.inp c.out c.cls).takeWhile fun x => x.fid != c.fid).any fun x =>
    decide (x.asg < g.size x) || !((g.frame x.fid).map Frm.whole).getD true

/-- The output of port 64 for class c is busy (R306): receive ring c has no posted buffer or is not ACTIVE. -/
def State.sphBusy (s : State) (c : Nat) : Bool :=
  let r := sget Ring.reset s.hif.rings (164 + c)
  !r.active || r.nxt == r.pi

/-- A store-and-forward copy with a cell to request (R298); `busy`: classes for which the output of port 64 is busy. -/
def Sgf.eligible (g : Sgf) (busy : Nat → Bool) (c : Cpy) : Bool :=
  match g.frame c.fid with
  | none => false
  | some f => !c.ct && f.whole && decide (c.asg < f.cells) && !g.blocked c
      && (decide (0 < c.asg) || (decide (f.cells ≤ g.staging c.out) && !(c.out == 64 && busy c.cls)))

/-- A cut-through copy whose next cell is in the buffer (R302). -/
def Sgf.pinned (g : Sgf) (c : Cpy) : Bool :=
  match g.frame c.fid with
  | none => false
  | some f => c.ct && c.cut.isNone && decide (c.asg < f.there)

/-- The best of a list by class, then by distance from a round-robin pointer (R297). -/
def bestBy (dist : Cpy → Nat) : List Cpy → Option Cpy
  | [] => none
  | c :: t => match bestBy dist t with
    | none => some c
    | some d => if d.cls < c.cls ∨ (d.cls = c.cls ∧ dist c ≤ dist d) then some c else some d

/-- The state of a matcher (R297): pairs made, pointers. -/
structure Matcher where
  pairs : List XPair
  gptr : SMap Nat
  aptr : SMap Nat
  deriving DecidableEq, Repr

/-- One request, grant and accept iteration (R297); the first moves the pointers. -/
def matchIter (req : List Cpy) (first : Bool) (m : Matcher) : Matcher :=
  let open_ := req.filter fun c => !(m.pairs.any fun p => p.inp == c.inp || p.out == c.out)
  let grants := (List.range 65).filterMap fun o =>
    bestBy (fun c => (c.inp + 65 - sget 0 m.gptr o) % 65) (open_.filter fun c => c.out == o)
  let takes := (List.range 65).filterMap fun i =>
    bestBy (fun c => (c.out + 65 - sget 0 m.aptr i) % 65) (grants.filter fun c => c.inp == i)
  takes.foldl (fun m c =>
    { pairs := m.pairs ++ [(⟨c.fid, c.inp, c.out⟩ : XPair)]
      gptr := if first then sset m.gptr c.out ((c.inp + 1) % 65) else m.gptr
      aptr := if first then sset m.aptr c.inp ((c.out + 1) % 65) else m.aptr }) m

/-- A matching: the pinned pairs, then four iterations (R297, R302). -/
def Sgf.matching (g : Sgf) (busy : Nat → Bool) : Matcher :=
  let pin := (g.copies.filter g.pinned).map fun c => (⟨c.fid, c.inp, c.out⟩ : XPair)
  let req := g.copies.filter (g.eligible busy)
  matchIter req false (matchIter req false (matchIter req false (matchIter req true ⟨pin, g.gptr, g.aptr⟩)))

/-- A cell of a pair reaches staging; `bad`: its CRC does not check (R303, R304). -/
def State.moveCell (bad : List (Fin 65)) (s : State) (x : XPair) : State :=
  match s.sgf.copies.find? (fun c => c.fid == x.fid && c.out == x.out), s.sgf.frame x.fid with
  | some c, some f =>
    let n := c.moved + 1
    if c.cut.isSome then s.modCpy x.fid x.out fun c => { c with moved := n }
    else if bad.any (fun i => i.val == x.inp) then
      let s1 := (s.spCount x.out 12).raise SGF_EVT.CELL_CRC []
      if c.ct then s1.modCpy x.fid x.out fun c => { c with moved := n, cut := some c.moved }
      else (s1.dropCpy fun c => c.fid == x.fid && c.out == x.out).reap
    else if f.whole && decide (n = f.cells) then
      let s1 := s.modCpy x.fid x.out fun c => { c with moved := n, stag := some s.sgf.stamp }
      s1.setSgf { s1.sgf with stamp := s.sgf.stamp + 1 }
    else s.modCpy x.fid x.out fun c => { c with moved := n }
  | _, _ => s

/-- CROSSBAR_SLOT (R296): the oldest of the matchings that are two slots old is used; a matcher starts. -/
def doCrossbarSlot (bad : List (Fin 65)) (t : Nat) (s : State) : State :=
  let s1 := s.passTo t
  let s2 := match s1.sgf.xq with
    | a :: b :: rest => (a.foldl (State.moveCell bad) s1).setSgf { (a.foldl (State.moveCell bad) s1).sgf with xq := b :: rest }
    | _ => s1
  let m := s2.sgf.matching s2.sphBusy
  m.pairs.foldl (fun s x => s.modCpy x.fid x.out fun c => { c with asg := c.asg + 1 })
    (s2.setSgf { s2.sgf with xq := s2.sgf.xq ++ [m.pairs], gptr := m.gptr, aptr := m.aptr })

/-- Meaning of CROSSBAR_SLOT (R296). -/
def execCrossbarSlot (bad : List (Fin 65)) (t : Nat) (s : State) : Host.Outcome State Fault Refusal :=
  .next (doCrossbarSlot bad t s)

/-! ### Transmission (R299, R316, R317) -/

/-- A copy that its output could transmit: whole in staging, or cut through with its first cell there. -/
def Cpy.ready (c : Cpy) : Bool := c.stag.isSome || (c.ct && decide (0 < c.moved))

/-- The first of the copies by completion in staging. -/
def firstStag : List Cpy → Option Cpy
  | [] => none
  | c :: t => match firstStag t with
    | none => some c
    | some d => if (d.stag.getD 0) < (c.stag.getD 0) then some d else some c

/-- The copy that output o takes next (R299, R317): the highest class in the committed tier, else the highest in the
excess tier; an open cut-through holds the output. -/
def State.select (s : State) (o : Nat) : Option Cpy :=
  let q := s.sgf.copies.filter fun c => c.out == o
  match q.find? (fun c => c.ct) with
  | some c => if c.ready then some c else none
  | none =>
    let r := q.filter Cpy.ready
    let in_ := fun k => r.filter fun c => decide ((s.shaper o c.cls).tier = k)
    let l := if (in_ 0).isEmpty then in_ 1 else in_ 0
    let top := l.foldl (fun a c => max a c.cls) 0
    firstStag (l.filter fun c => c.cls == top)

/-- EGRESS_SELECT (R299): a free MAC starts the next copy. -/
def doEgressSelect (o t : Nat) (s : State) : State :=
  let s1 := s.passTo t
  let p := s1.spPort o
  if p.st ≠ .up ∨ p.tx.isSome = true ∨ s1.flt.safe = true then s1
  else match s1.select o with
    | none => s1
    | some c => (s1.setSpPort o { p with tx := some c.fid }).modCpy c.fid o fun c => { c with txAt := some s1.clr.now }

/-- Meaning of EGRESS_SELECT (R299). -/
def execEgressSelect (o : Fin 64) (t : Nat) (s : State) : Host.Outcome State Fault Refusal := .next (doEgressSelect o t s)

/-- The bytes that a copy sends (R303, R304): those of its frame, or its good cells with a complemented FCS. -/
def txBytes (f : Frm) (c : Cpy) : List Byte :=
  match c.cut with
  | some n => f.bytes.take (128 * n) ++ fcsInv (f.bytes.take (128 * n))
  | none => f.bytes

/-- The frame's first copy so far, once one that began at time n has left by port o (R257). -/
def firstSent (x : Option (Nat × Nat)) (n o : Nat) : Option (Nat × Nat) :=
  match x with
  | some y => if n < y.1 then some (n, o) else some y
  | none => some (n, o)

/-- TRANSMIT_END (R316): the copy has left; its shaper is charged and its cells may be freed. -/
def doTransmitEnd (o t : Nat) (s : State) : State :=
  let s1 := s.passTo t
  let p := s1.spPort o
  match p.tx with
  | none => s1
  | some id =>
    match s1.sgf.copies.find? (fun c => c.fid == id && c.out == o), s1.sgf.frame id with
    | some c, some f =>
      if !(f.whole && decide (f.cells ≤ c.moved)) && c.cut.isNone then s1
      else
        let b := txBytes f c
        let s2 := (s1.setSpPort o { p with tx := none }).shpCharge o c.cls b.length
        let s3 := s2.spCount o (if f.bad || c.cut.isSome then 8 else 7)
        let s4 := s3.modFrm id fun f => { f with sent := firstSent f.sent (c.txAt.getD s1.clr.now) o }
        ((s4.setSgf { s4.sgf with wire := s4.sgf.wire ++ [(o, b)] }).dropCpy fun x => x.fid == id && x.out == o).reap
    | _, _ => s1.setSpPort o { p with tx := none }

/-- Meaning of TRANSMIT_END (R316). -/
def execTransmitEnd (o : Fin 64) (t : Nat) (s : State) : Host.Outcome State Fault Refusal := .next (doTransmitEnd o t s)

/-! ### Port commands (R279 to R281, R305) -/

/-- The transmission of a port ends after n bytes (R316); its copy stays. -/
def State.endTx (s : State) (o n : Nat) : State :=
  let p := s.spPort o
  match p.tx with
  | none => s
  | some id =>
    let s1 := s.setSpPort o { p with tx := none }
    match s.sgf.copies.find? (fun c => c.fid == id && c.out == o), s.sgf.frame id with
    | some c, some f => s1.shpCharge o c.cls (min n (if f.whole then f.bytes.length else 9216))
    | _, _ => s1

/-- The transmission of a port is cut after n bytes, and lost (R281, R311). -/
def State.cutTx (s : State) (o n : Nat) : State :=
  match (s.spPort o).tx with
  | none => s
  | some id => (((s.endTx o n).spCount o 11).dropCpy fun x => x.fid == id && x.out == o).reap

/-- Bytes of the transmission of a port that have left by now. -/
def State.txLeft (s : State) (o : Nat) : Nat :=
  match s.sgf.copies.find? (fun c => some c.fid == (s.spPort o).tx && c.out == o) with
  | some c => bytesIn (s.spPort o).rate (s.clr.now - c.txAt.getD s.clr.now)
  | none => 0

/-- The frame arriving on a port goes no further, after the bytes `rest` behind its first cell: its policer takes the rest of its
charge (R321), and an open cut-through copy ends with a complemented FCS (R304). -/
def State.dropRx (s : State) (p : Nat) (rest : List Byte) : State :=
  match sfind s.sgf.rx p with
  | none => s
  | some r =>
    let s1 := s.setSgf { s.sgf with rx := sdel s.sgf.rx p }
    match r.fid with
    | some id =>
      let l := r.bytes ++ rest
      (s1.polRest ((s1.sgf.frame id).bind Frm.pol) l.length).failFrm id l
    | none => s1

/-- Bytes of the frame arriving on a port that have come behind its first cell, where no command carries them: as many as the
lane has carried, each a free value (log entry 193). -/
def State.restNow (s : State) (p : Nat) : List Byte × State :=
  let f := s.takeFree
  match (sfind s.sgf.rx p).bind Rx.fid with
  | some id => match s.sgf.frame id with
    | some x => ((List.range (s.gotBytes x - x.bytes.length)).map (Config.freeByte f.1), f.2)
    | none => ([], s)
  | none => ([], s)

/-- The frame arriving on a port is cut by the loss of its link: an FCS failure (R281, R311). -/
def State.cutRx (s : State) (p : Nat) (rest : List Byte) : State :=
  match sfind s.sgf.rx p with
  | none => s
  | some r => if r.dropped then s.dropRx p rest else (s.spCount p 1).dropRx p rest

/-- A port begins to negotiate or train (R279, R310), in state st: with its configuration as it stands. -/
def State.negotiate (s : State) (p : Nat) (x : SpPort) (st : SpSt) : State :=
  s.setSpPort p { x with st := st, neg := s.reg .SP_CFG [p] }

/-- A port leaves UP (R281): HOLD with its timer, or DOWN with the flush when there is no hold-off. n bytes of a transmission have
left, `rest` has arrived of a frame. -/
def State.leaveUp (s : State) (p n : Nat) (rest : List Byte) : State :=
  let s1 := ((s.cutTx p n).cutRx p rest).raise SP_EVT.LINK_DOWN [p]
  let x := s1.spPort p
  if s1.f SGF_CTRL.HOLDOFF_US [] = 0 then (s1.negotiate p x .down).flushOut p |>.raise SP_EVT.FLUSHED [p]
  else s1.negotiate p { x with holdAt := s1.clr.now } .hold

/-- A port that is UP is restarted (R280). -/
def State.restartPort (s : State) (p : Nat) : State :=
  let f := s.restNow p
  f.2.leaveUp p (s.txLeft p) f.1

/-- The written SP_CFG of a port (R310): value 3 of FORCE_RATE and MISS keeps the previous one; port 64 has three
fields. -/
def State.spCfg (s : State) (p : Nat) (v : Word) : State :=
  let o := s.reg .SP_CFG [p]
  let w := keep3 28 o (keep3 18 o v)
  if p = 64 then s.setReg .SP_CFG [p] ((o &&& ~~~ (wd 0x000CFFFF)) ||| (w &&& wd 0x000CFFFF)) else s.wrCodes .SP_CFG [p] w

/-- A write of SP_CFG (R281): EN starts negotiation or stops the port. -/
def doSpCfg (p : Nat) (v : Word) (s : State) : State :=
  let s1 := s.spCfg p v
  if p = 64 then s1
  else
    let x := s1.spPort p
    if bit 31 v then
      match x.st with
      | .disabled => s1.negotiate p x .negotiate
      | .stopping => s1.setSpPort p { x with enPend := true }
      | _ => s1
    else
      match x.st with
      | .disabled => s1
      | .stopping => s1.setSpPort p { x with enPend := false }
      | _ =>
        let f := s1.restNow p
        let s2 := f.2.dropRx p f.1
        let s3 := if x.st = .up then s2.raise SP_EVT.LINK_DOWN [p] else s2
        (s3.setSpPort p { x with st := .stopping, capped := false }).flushOut p

/-- Meaning of PORT_ENABLE (R281). -/
def execPortEnable (p : Fin 64) (v : Word) (s : State) : Host.Outcome State Fault Refusal :=
  .next (s.hostWr .SP_CFG [p] (doSpCfg p v))

/-- Meaning of PORT_DISABLE (R281). -/
def execPortDisable (p : Fin 64) (v : Word) (s : State) : Host.Outcome State Fault Refusal :=
  .next (s.hostWr .SP_CFG [p] (doSpCfg p v))

/-- PORT_STOP_DONE (R281): queues empty and any transmission ended. -/
def doPortStopDone (p : Nat) (s : State) : State :=
  let x := s.spPort p
  if x.st ≠ .stopping ∨ x.tx.isSome = true ∨ (s.sgf.copies.any fun c => c.out == p) = true then s
  else if x.enPend then s.negotiate p SpPort.reset .negotiate
  else s.setSpPort p SpPort.reset

/-- Meaning of PORT_STOP_DONE (R281). -/
def execPortStopDone (p : Fin 64) (s : State) : Host.Outcome State Fault Refusal := .next (doPortStopDone p s)

/-- A port negotiates or trains (R281). -/
def SpSt.tries (t : SpSt) : Bool := t == .negotiate || t == .hold || t == .down

/-- The FEC that FEC_REQ selects for a rate (R279): RS(528,514) before Clause 74 at 25 Gbit/s; always RS(544,514) at 50. -/
def forcedFec (req : Bool) (rate : Nat) : Nat := if rate = 2 then 3 else if req then rate + 1 else 0

/-- A port may come up at a rate with a FEC (R278 to R280): with auto-negotiation at a mode that it advertises, with optional FEC
only when it requests one; else at its forced rate. Thermal throttle caps both at 25 Gbit/s. -/
def State.upOk (s : State) (p rate fec : Nat) : Bool :=
  let w := (s.spPort p).neg
  let cap := fun r => if s.throttle then min 1 r else r
  fecOk rate fec && decide (cap rate = rate) &&
    (if bit 30 w then bit (25 + rate) w && (fec == 0 || rate == 2 || bit 24 w)
     else rate == cap (fget 28 2 w) && fec == forcedFec (bit 24 w) rate)

/-- LINK_UP (R281): training done, block lock and FEC lock, at a rate and FEC that the link resolved (R279, R280). -/
def doLinkUp (p rate fec : Nat) (s : State) : State :=
  let x := s.spPort p
  if x.st.tries && s.upOk p rate fec then
    (s.setSpPort p { x with st := .up, rate := rate, fec := fec }).raise SP_EVT.LINK_UP [p]
  else s

/-- Meaning of LINK_UP (R281). -/
def execLinkUp (p : Fin 64) (rate : Fin 3) (fec : Fin 4) (s : State) : Host.Outcome State Fault Refusal :=
  .next (doLinkUp p rate fec s)

/-- LINK_LOSS (R281): lock lost for 10 µs; `left` bytes of a transmission had left, and the bytes `rest` of an arriving frame had
come behind its first cell. -/
def doLinkLoss (p left : Nat) (rest : List Byte) (t : Nat) (s : State) : State :=
  let s1 := s.passTo t
  if (s1.spPort p).st = .up then s1.leaveUp p left rest else s1

/-- Meaning of LINK_LOSS (R281). -/
def execLinkLoss (p : Fin 64) (cut : LinkCut) (t : Nat) (s : State) : Host.Outcome State Fault Refusal :=
  .next (doLinkLoss p cut.left cut.rest t s)

/-- HOLDOFF_EXPIRY (R305). -/
def doHoldoffExpiry (p t : Nat) (s : State) : State :=
  let s1 := s.passTo t
  let x := s1.spPort p
  if x.st = .hold ∧ s1.f SGF_CTRL.HOLDOFF_US [] * 1000 ≤ s1.clr.now - x.holdAt then
    (s1.setSpPort p { x with st := .down }).flushOut p |>.raise SP_EVT.FLUSHED [p]
  else s1

/-- Meaning of HOLDOFF_EXPIRY (R305). -/
def execHoldoffExpiry (p : Fin 64) (t : Nat) (s : State) : Host.Outcome State Fault Refusal := .next (doHoldoffExpiry p t s)

/-- AN_TIMEOUT (R279): negotiation, or a training without it, has not led to link-up and restarts. -/
def doAnTimeout (p : Nat) (s : State) : State :=
  let x := s.spPort p
  if x.st.tries then
    let s1 := s.negotiate p x x.st
    if bit 30 x.neg then s1.raise SP_EVT.AN_FAIL [p] else s1
  else s

/-- Meaning of AN_TIMEOUT (R279). -/
def execAnTimeout (p : Fin 64) (s : State) : Host.Outcome State Fault Refusal := .next (doAnTimeout p s)

/-- Thermal throttle begins or ends for the ports (R280). -/
def State.sgfThrottle (s : State) (on : Bool) : State :=
  (List.range 64).foldl (fun s p =>
    let x := s.spPort p
    if on then
      if x.st = .up ∧ x.rate = 2 then (s.setSpPort p { x with capped := true }).restartPort p else s
    else if x.capped then
      let s1 := s.setSpPort p { x with capped := false }
      if x.st = .up then s1.restartPort p else s1
    else s) s

/-- Cells of a frame all of whose copies were refused are freed (R294). -/
def State.sgfPrune (s : State) : State := s.setSgf { s.sgf with frames := s.sgf.frames.filter fun f => s.sgf.copies.any fun c => c.fid == f.id }

/-- A frame that arrives as the safe state is entered is discarded and counted in FWD_DROP (R283). -/
def Rx.halt (r : Rx) : Rx := { r with fid := none, trap := false }

/-- Entry to the safe state (R283): transmissions end and every port is idle, frames that arrive are discarded, every queued
frame is flushed. -/
def State.sgfSafe (s : State) : State :=
  let s1 := (List.range 64).foldl (fun s o => s.endTx o (s.txLeft o)) s
  let s2 := s1.sgf.rx.foldl (fun s p => if p.2.dropped then s else s.spCount p.1 5) s1
  let s3 := s2.setSgf { s2.sgf with rx := s2.sgf.rx.map fun p => (p.1, p.2.halt) }
  (List.range 65).foldl State.flushOut s3

/-- The fabric loses its power (P3, P4): ports, frames and tables return to reset. -/
def State.sgfOff (s : State) : State :=
  s.setSgf { Sgf.reset with wire := s.sgf.wire, trapped := s.sgf.trapped }

/-! ### Forwarding commands (R289, R290) -/

/-- A forwarding command starts, or is refused while one runs. -/
def State.fwdStart (s : State) (v : Word) (f : State → State) : State :=
  if s.sgf.cmd.isSome then s.raise SGF_EVT.CMD_REJ []
  else f (s.wrCodes .SGF_FWD_CMD [] v)

/-- The result a running command will show. -/
def State.fwdResult (s : State) (d : FwdDone) : State := s.setSgf { s.sgf with cmd := some d }

/-- The key registers (R309). -/
def State.fwdKey (s : State) : Nat × Nat :=
  ((s.reg .SGF_FWD_KEY0 []).toNat + s.f SGF_FWD_KEY1.DA_HI [] * 2 ^ 32, s.f SGF_FWD_KEY1.VID [])

/-- INDEX after a command that found no way: the bucket, and a free value for the way. -/
def State.noWay (s : State) : Nat × State :=
  let k := s.fwdKey
  let f := s.takeFree
  (fwdBucket k.1 k.2 * 4 + Config.freeWay f.1 % 4, f.2)

/-- INSERT (R289). -/
def fwdInsert (s : State) : State :=
  let k := s.fwdKey
  let e : Fwd := ⟨k.1, k.2, (s.reg .SGF_FWD_RES []).toNat % 2 ^ 31⟩
  let put := fun i => s.setSgf { s.sgf with fwd := sset s.sgf.fwd i e }
  match s.sgf.fwdFind k.1 k.2 with
  | some x => (put x.1).fwdResult ⟨3, some x.1, none, none⟩
  | none =>
    match (List.range 4).find? (fun w => (sfind s.sgf.fwd (fwdBucket k.1 k.2 * 4 + w)).isNone) with
    | some w => (put (fwdBucket k.1 k.2 * 4 + w)).fwdResult ⟨0, some (fwdBucket k.1 k.2 * 4 + w), none, none⟩
    | none => (s.noWay.2.raise SGF_EVT.FWD_FULL []).fwdResult ⟨2, some s.noWay.1, none, none⟩

/-- Meaning of FWD_INSERT (R289). -/
def execFwdInsert (v : Word) (s : State) : Host.Outcome State Fault Refusal :=
  .next (s.hostWr .SGF_FWD_CMD [] (fun s => s.fwdStart v fwdInsert))

/-- DELETE (R289). -/
def fwdDelete (s : State) : State :=
  match s.sgf.fwdFind s.fwdKey.1 s.fwdKey.2 with
  | some x => (s.setSgf { s.sgf with fwd := sdel s.sgf.fwd x.1 }).fwdResult ⟨0, none, none, none⟩
  | none => s.fwdResult ⟨1, none, none, none⟩

/-- Meaning of FWD_DELETE (R289). -/
def execFwdDelete (v : Word) (s : State) : Host.Outcome State Fault Refusal :=
  .next (s.hostWr .SGF_FWD_CMD [] (fun s => s.fwdStart v fwdDelete))

/-- LOOKUP (R289). -/
def fwdLookup (s : State) : State :=
  match s.sgf.fwdFind s.fwdKey.1 s.fwdKey.2 with
  | some x => s.fwdResult ⟨0, some x.1, some (wd (2 ^ 31 + x.2)), none⟩
  | none => s.noWay.2.fwdResult ⟨1, some s.noWay.1, some (s.reg .SGF_FWD_RES [] &&& wd 0x7FFFFFFF), none⟩

/-- Meaning of FWD_LOOKUP (R289). -/
def execFwdLookup (v : Word) (s : State) : Host.Outcome State Fault Refusal :=
  .next (s.hostWr .SGF_FWD_CMD [] (fun s => s.fwdStart v fwdLookup))

/-- READ (R289): for a free way only VALID is stated; the rest are free values. -/
def fwdRead (s : State) : State :=
  match sfind s.sgf.fwd (s.f SGF_FWD_CMD.INDEX []) with
  | some e => s.fwdResult ⟨0, none, some (wd (2 ^ 31 + e.res)), some (wd e.da, wd (e.vid * 2 ^ 16 + e.da / 2 ^ 32))⟩
  | none =>
    let f := s.takeFree
    let g := f.2.takeFree
    let h := g.2.takeFree
    h.2.fwdResult ⟨0, none, some (Config.freeFwd f.1 &&& wd 0x7F000FFF), some (Config.freeFwd g.1, Config.freeFwd h.1 &&& wd 0x0FFFFFFF)⟩

/-- Meaning of FWD_READ (R289). -/
def execFwdRead (v : Word) (s : State) : Host.Outcome State Fault Refusal :=
  .next (s.hostWr .SGF_FWD_CMD [] (fun s => s.fwdStart v fwdRead))

/-- CLEAR (R289). -/
def fwdClear (s : State) : State := (s.setSgf { s.sgf with fwd := [] }).fwdResult ⟨0, none, none, none⟩

/-- Meaning of FWD_CLEAR (R289). -/
def execFwdClear (v : Word) (s : State) : Host.Outcome State Fault Refusal :=
  .next (s.hostWr .SGF_FWD_CMD [] (fun s => s.fwdStart v fwdClear))

/-- FWD_COMMAND_DONE (R289): BUSY clears and the results show. -/
def doFwdCommandDone (s : State) : State :=
  match s.sgf.cmd with
  | none => s
  | some d =>
    let s1 := (s.setSgf { s.sgf with cmd := none }).setF SGF_FWD_CMD.RESULT [] d.result
    let s2 := match d.index with
      | some i => s1.setF SGF_FWD_CMD.INDEX [] i
      | none => s1
    let s3 := match d.res with
      | some w => s2.setReg .SGF_FWD_RES [] w
      | none => s2
    match d.key with
    | some k => (s3.setReg .SGF_FWD_KEY0 [] k.1).setReg .SGF_FWD_KEY1 [] k.2
    | none => s3

/-- Meaning of FWD_COMMAND_DONE (R289). -/
def execFwdCommandDone (s : State) : Host.Outcome State Fault Refusal := .next (doFwdCommandDone s)

end Sys2Proof.Machine
end

