-- ==== Sys2Proof/Machine/Thermal.lean ====
section
/-! DEFINITION. Thermal control (R408 to R418): the sensors, the thresholds and their levels, the estimate of the photonic
die, and the TEC loop. The PWM channels (R419 to R424). -/
namespace Sys2Proof.Machine

/-! ### Sensors (R409 to R411) -/

/-- Stores the thermal block. -/
def State.setThm (s : State) (k : Thm) : State := { s with thm := k }

/-- A sensor. -/
def State.sns (s : State) (i : Nat) : Sns := sget Sns.reset s.thm.sns i

/-- A sensor is enabled (R411). -/
def State.snsEn (s : State) (i : Nat) : Bool := s.fb THM_SNS.EN [i]

/-- A gate of a sensor (R410): broken after 4 equal counts in a row or a reading outside −40 °C to +150 °C; whole again after
16 gates with neither. -/
def Sns.gate (k : Sns) (cnt : Nat) (val : Int) : Sns :=
  let same := if k.same ≠ 0 ∧ cnt = k.cnt then min 4 (k.same + 1) else 1
  let bad := decide (4 ≤ same) || decide (val < -640) || decide (2400 < val)
  let good := if bad then 0 else k.good + 1
  ⟨val, cnt, same, good, if bad then true else k.broken && decide (good < 16)⟩

/-- Sensors that are enabled, and those of them that are broken. -/
def State.snsOn (s : State) : List Nat := (List.range 160).filter s.snsEn
def State.snsBroken (s : State) : List Nat := s.snsOn.filter fun i => (s.sns i).broken

/-- A sensor that is not enabled is never broken (R411). -/
def State.snsOff (s : State) (i : Nat) : State :=
  if s.snsEn i then s
  else s.setThm { s.thm with sns := sset s.thm.sns i { s.sns i with broken := false, same := 0, good := 0 } }

/-- A threshold in 1/16 °C. -/
def State.thrOf (s : State) (x : Fld) : Int := (s.f x [] : Int) * 16

/-- What a broken sensor counts as (R410). -/
def State.snsSub (s : State) : Int :=
  if s.snsBroken.length ≤ s.f THM_CTRL.BROKEN_MAX [] then s.thrOf THM_THR.THR_C else s.thrOf THM_THR.SHUT_C

/-- The usable reading of an enabled sensor (R410, R412). -/
def State.snsVal (s : State) (i : Nat) : Int := if (s.sns i).broken then s.snsSub else (s.sns i).val

/-- The hottest usable reading with the lowest sensor that has it; none when no sensor is enabled. -/
def State.hottest (s : State) : Option (Nat × Int) :=
  s.snsOn.foldl (fun m i => match m with
    | none => some (i, s.snsVal i)
    | some x => if x.2 < s.snsVal i then some (i, s.snsVal i) else some x) none

/-! ### Levels (R412 to R414) -/

/-- The phase of R414: 0 START, 1 TEST, 2 RECOVERY, 3 SERVICE. A latched shutdown does not turn into RECOVERY. -/
def State.phase_ (s : State) : Nat :=
  if s.thm.start then 0 else if s.fb THM_CTRL.TEST [] then 1 else if s.flt.safe && !s.thm.latch then 2 else 3

/-- A level after a measurement (R412): asserted from its threshold, deasserted below it less 5 K. -/
def levelNow (was : Bool) (h : Option (Nat × Int)) (thr : Int) : Bool :=
  match h with
  | none => false
  | some x => if thr ≤ x.2 then true else if x.2 < thr - 80 then false else was

/-- A THERMAL event (R254, R412); none while the main domains are held in reset (R415). -/
def State.thermalEvent (s : State) (lvl : Nat) : State :=
  if s.sys.thmRst || s.sys.mainRst then s
  else s.post 2 0x20 lvl [wd s.thm.hot, wd (low 16 s.thm.now)]

/-- A level newly asserted: its THM_EVT bit and its event. -/
def State.assertLevel (s : State) (lvl : Nat) : State :=
  let x := if lvl = 1 then THM_EVT.WARN else if lvl = 2 then THM_EVT.THROTTLE else THM_EVT.SHUTDOWN
  (s.raise x []).thermalEvent lvl

/-- The events of the levels that fell from o to n: one each, from the highest down, with the level then in force (R412, R414). -/
def fallen (o n : Thm) : List Nat :=
  let a := { o with shut := o.shut && n.shut }
  let b := { a with thr := o.thr && n.thr }
  let c := { b with warn := o.warn && n.warn }
  (if o.shut && !n.shut then [a.level] else []) ++ (if o.thr && !n.thr then [b.level] else [])
    ++ (if o.warn && !n.warn then [c.level] else [])

/-- The levels after a measurement, with their events and actions (R412 to R414). -/
def State.levels (s : State) : State :=
  let h := s.hottest
  let o := s.thm
  let n := { o with
    warn := levelNow o.warn h (s.thrOf THM_THR.WARN_C), thr := levelNow o.thr h (s.thrOf THM_THR.THR_C)
    shut := levelNow o.shut h (s.thrOf THM_THR.SHUT_C)
    now := (h.map Prod.snd).getD 0, hot := (h.map Prod.fst).getD 0
    peak := match h, o.peak with
      | some x, some p => some (max p x.2)
      | some x, none => some x.2
      | none, p => p
    cool := match h with
      | some x => if x.2 < s.thrOf THM_THR.WARN_C - 80 then o.cool + 1 else 0
      | none => o.cool + 1 }
  let up := [(1, n.warn && !o.warn), (2, n.thr && !o.thr), (3, n.shut && !o.shut)].filter fun p : Nat × Bool => p.2
  let s1 := (fallen o n).foldl State.thermalEvent (s.setThm n)
  let s3 := up.foldl (fun (s : State) (p : Nat × Bool) => s.assertLevel p.1) s1
  let s4 := if n.level = o.level then s3 else s3.icEdge 432
  let s5 := if n.thr = o.thr then s4 else s4.sgfThrottle n.thr
  if n.shut && !o.shut then
    if s.phase_ = 3 then s5.setThm { s5.thm with latch := true }
    else if s.sys.thmRst then s5 else s5.setThm { s5.thm with restartP := true }
  else s5

/-! ### The photonic die (R416, R418) -/

/-- Readings of the photonic die by cluster (R416). -/
def State.pdList (s : State) : List Int :=
  ((List.range 144).filter fun c => s.snsEn c && !(s.sns c).broken).map fun c => (s.sns c).val - sgn 16 (s.f THM_OFS.OFS [c])

/-- The estimate of R416; the mean is rounded towards minus infinity. -/
def State.estimate (s : State) : State :=
  let l := s.pdList
  let n := l.length
  let valid := decide (8 ≤ n)
  let mean := if n = 0 then s.thm.mean else (l.foldl (· + ·) 0) / (n : Int)
  let grad := if n = 0 then s.thm.grad else l.foldl max (l.headD 0) - l.foldl min (l.headD 0)
  s.setThm { s.thm with pdValid := valid, mean := mean, grad := grad }

/-- The mean lies within TEC_BAND of the set-point. -/
def State.inBand (s : State) : Bool := s.thm.pdValid && decide ((s.thm.mean - 800).natAbs ≤ s.f TEC_MON.TEC_BAND [])

/-- The supervision of R418 after a measurement. -/
def State.tecWatch (s : State) : State :=
  let k := s.thm
  if !s.fb TEC_CTRL.EN [] then s.setThm { k with seen := false, out := 0, tecTo := false }
  else if s.inBand then s.setThm { k with seen := true, out := 0, tecTo := false }
  else s.setThm { k with out := k.out + 1 }

/-- The TEC source has its cause (R418). -/
def State.tecCause (s : State) : Bool :=
  s.fb TEC_CTRL.EN [] && s.thm.seen && (s.thm.tecTo || decide (160 < s.thm.grad) || !s.thm.pdValid)

/-- SENSOR_MEASURE (R409 to R418): every 100 µs, the enabled sensors are measured. A sensor that the command does not list has
no new gate. -/
def doSensorMeasure (t : Nat) (l : List SnsRead) (s : State) : State :=
  let s1 := s.passTo t
  let s2 := l.foldl (fun s x =>
    if s.snsEn x.i.val then
      let o := s.sns x.i.val
      let n := o.gate x.cnt (sgn 16 x.val.toNat)
      let s' := s.setThm { s.thm with sns := sset s.thm.sns x.i.val n }
      if n.broken && !o.broken then (s'.raise THM_EVT.BROKEN []).cause 20 else s'
    else s) s1
  s2.levels.estimate.tecWatch

/-- TEC_BAND_TIMEOUT (R418): the mean has lain outside the band for TEC_TIME. -/
def doTecBandTimeout (s : State) : State :=
  if s.fb TEC_CTRL.EN [] && !s.inBand && decide (s.f TEC_MON.TEC_TIME [] * 10000 ≤ s.thm.out) then
    s.setThm { s.thm with tecTo := true } else s

/-- Meaning of TEC_BAND_TIMEOUT (R418). -/
def execTecBandTimeout (s : State) : Host.Outcome State Fault Refusal := .next (doTecBandTimeout s)

/-! ### PWM channels (R419 to R424) -/

/-- A channel. -/
def State.pwmOf (s : State) (ch : Nat) : Pwm := sget Pwm.reset s.pwm ch
def State.setPwm (s : State) (ch : Nat) (k : Pwm) : State := { s with pwm := sset s.pwm ch k }

/-- The TEC loop writes the channel (R421). -/
def State.pwmOwned (s : State) (ch : Nat) : Bool := decide (ch < 2) && s.fb TEC_CTRL.EN []

/-- Reversal of four bits. -/
def rev4 (k : Nat) : Nat := k % 2 * 8 + k / 2 % 2 * 4 + k / 4 % 2 * 2 + k / 8 % 2

/-- The high count H (R420). -/
def pwmH (per duty k : Nat) : Nat := min per (duty / 16 + b2n (decide (rev4 k < duty % 16)))

/-- A period is cut or suppressed (R422). -/
def State.pwmCut (s : State) (ch : Nat) : State :=
  let s1 := (s.raise PWM_STATUS.CUT [ch]).bump .PWM_CUTS [ch] 1
  if 2 ≤ ch then s1.cause 22 else s1

/-- A period starts with dither index k (R419, R420, R422). -/
def State.pwmStart (s : State) (ch k : Nat) : State :=
  let p := s.pwmOf ch
  let h := pwmH p.per p.duty k
  let s1 := s.setPwm ch { p with k := k, h := h, pin := decide (0 < h) && !p.flt }
  if p.flt then s1.pwmCut ch else s1

/-- PWM_RELOAD (R419, R423, R424): the channel takes its values and starts its period. -/
def doPwmReload (ch : Nat) (s : State) : State :=
  if !s.fb PWM_CTRL.EN [ch] then s
  else
    let p := s.pwmOf ch
    let take := !s.fb PWM_CTRL.SYNC [ch] || p.updP
    let q := { p with
      per := if take then s.f PWM_PER.PER [ch] else p.per, duty := if take then s.f PWM_DUTY.DUTY [ch] else p.duty
      presc := s.f PWM_CTRL.PRESC [ch], updP := false }
    let s1 := s.setPwm ch q
    let s2 := if take && decide (q.per < q.duty / 16) then s1.raise PWM_STATUS.CLAMP [ch] else s1
    s2.pwmStart ch ((p.k + 1) % 16)

/-- Meaning of PWM_RELOAD (R419). -/
def execPwmReload (ch : Fin 4) (s : State) : Host.Outcome State Fault Refusal := .next (doPwmReload ch s)

/-- PWM_PULSE_END (R420): the pin falls at the high count; H = PER keeps it high. -/
def doPwmPulseEnd (ch : Nat) (s : State) : State :=
  let p := s.pwmOf ch
  if s.fb PWM_CTRL.EN [ch] && decide (p.h < p.per) then s.setPwm ch { p with pin := false } else s

/-- Meaning of PWM_PULSE_END (R420). -/
def execPwmPulseEnd (ch : Fin 4) (s : State) : Host.Outcome State Fault Refusal := .next (doPwmPulseEnd ch s)

/-- A fault input of one channel changes (R422). -/
def State.pwmFlt (s : State) (ch : Nat) (active : Bool) : State :=
  let p := s.pwmOf ch
  let cut := active && s.fb PWM_CTRL.EN [ch] && p.pin
  let s1 := s.setPwm ch { p with flt := active, pin := p.pin && !cut }
  if cut then s1.pwmCut ch else s1

/-- PWM_FAULT_INPUT (R422): input n after its filter: 0 TEC_FLT_N for both TEC channels, 1 FAN0, 2 FAN1. -/
def doPwmFault (n : Nat) (active : Bool) (s : State) : State :=
  if n = 0 then (s.pwmFlt 0 active).pwmFlt 1 active else s.pwmFlt (n + 1) active

/-- Meaning of PWM_FAULT_INPUT (R422). -/
def execPwmFaultInput (n : Fin 3) (active : Bool) (s : State) : Host.Outcome State Fault Refusal := .next (doPwmFault n active s)

/-- A write of PWM_CTRL (R421, R431): EN = 1 starts a period at once, with k = 0, also where EN was 1. -/
def doPwmCtrl (ch : Nat) (v : Word) (s : State) : State :=
  let s1 := s.wrCodes .PWM_CTRL [ch] v
  let p := s1.pwmOf ch
  if !s1.fb PWM_CTRL.EN [ch] then s1.setPwm ch { p with pin := s1.fb PWM_CTRL.IDLE_LVL [ch] }
  else s1.pwmStart ch 0

/-- Meaning of PWM_ENABLE (R421): a write of PWM_CTRL with EN = 1. -/
def execPwmEnable (ch : Fin 4) (v : Word) (s : State) : Host.Outcome State Fault Refusal :=
  .next (s.hostWr .PWM_CTRL [ch] (doPwmCtrl ch v))

/-- Meaning of PWM_DISABLE (R421): a write of PWM_CTRL with EN = 0. -/
def execPwmDisable (ch : Fin 4) (v : Word) (s : State) : Host.Outcome State Fault Refusal :=
  .next (s.hostWr .PWM_CTRL [ch] (doPwmCtrl ch v))

/-- PWM_UPDATE (R421, R424): a write of PWM_UPD. -/
def doPwmUpd (ch : Nat) (v : Word) (s : State) : State :=
  if bit 0 v && s.fb PWM_CTRL.SYNC [ch] && !s.pwmOwned ch then s.setPwm ch { s.pwmOf ch with updP := true } else s

/-- Meaning of PWM_UPDATE (R424). -/
def execPwmUpdate (ch : Fin 4) (v : Word) (s : State) : Host.Outcome State Fault Refusal :=
  .next (s.hostWr .PWM_UPD [ch] (doPwmUpd ch v))

/-! ### The TEC loop (R417) -/

/-- Writes DUTY of a leg by the atomic update (R417, R424). -/
def State.tecDuty (s : State) (ch d : Nat) : State :=
  (s.setF PWM_DUTY.DUTY [ch] d).setPwm ch { (s.setF PWM_DUTY.DUTY [ch] d).pwmOf ch with updP := true }

/-- TEC_LOOP (R417): one step of the loop; it holds its output while PD_VALID is 0 (R416). -/
def doTecLoop (s : State) : State :=
  if !s.fb TEC_CTRL.EN [] || !s.thm.pdValid then s
  else
    let e := s.thm.mean - 800
    let kp : Int := s.f TEC_GAIN.KP []
    let ki : Int := s.f TEC_GAIN.KI []
    let u0 := asr (kp * e + s.thm.acc) 6
    let acc := if (65535 < u0 ∧ 0 < e) ∨ (u0 < -65535 ∧ e < 0) then s.thm.acc else sat 24 (s.thm.acc + ki * e)
    let u := clampI (-65535) 65535 (asr (kp * e + acc) 6)
    let cool := s.f TEC_CTRL.COOL_LEG []
    let leg := if 0 < u then cool else 1 - cool
    let d := u.natAbs * s.f PWM_PER.PER [leg] * 16 / 65535
    ((s.setThm { s.thm with acc := acc, u := u }).tecDuty leg d).tecDuty (1 - leg) 0

/-- Meaning of TEC_LOOP (R417). -/
def execTecLoop (s : State) : Host.Outcome State Fault Refusal := .next (doTecLoop s)

/-- A write of TEC_CTRL (R417, R418, R430). -/
def doTecCtrl (v : Word) (s : State) : State :=
  let was := s.fb TEC_CTRL.EN []
  let s1 := s.wrCodes .TEC_CTRL [] v
  let s2 := if s1.fb TEC_CTRL.EN [] then s1
    else ((s1.setThm { s1.thm with acc := 0 }).tecDuty 0 0).tecDuty 1 0
  if was == s2.fb TEC_CTRL.EN [] then s2 else s2.setThm { s2.thm with seen := false, out := 0, tecTo := false }

end Sys2Proof.Machine
end

