-- ==== Sys2Proof/Machine/Power.lean ====
section
/-! DEFINITION. The power ladder (R425 to R429): requests, entries, exits and AUTO_WAKE. -/
namespace Sys2Proof.Machine

/-- Stores the ladder. -/
def State.setPwr (s : State) (p : Pwr) : State := { s with pwr := p }

/-- The state requested. -/
def State.target (s : State) : Nat := s.f PWR_CTRL.TARGET []

/-- The conditions of an entry to state g that are not met: PWR_STATUS.WAIT (R426, R429). -/
def State.pwrWait (s : State) (g : Nat) : Nat :=
  let deep := decide (3 ≤ g)
  b2n (!s.col.isEmpty || s.yk.store.any fun p => p.st == .armed || p.st == .inFlight)
    + 2 * b2n (deep && decide (s.yk.mode ≠ 0))
    + 4 * b2n (deep && (List.range 64).any fun p => decide ((s.spPort p).st ≠ .disabled))
    + 8 * b2n (deep && (List.range 4).any fun k => (s.capR k).active)
    + 16 * b2n (deep && !s.pwr.off && s.sys.pcie)
    + 32 * b2n (deep && s.flt.safe)

/-! ### P2 (R92) -/

/-- Enters P2 (R92): switching and egress Cuff lanes in ACQUIRE, LOCKED or HOLD (dark) fold and enter HOLD (P2). Every other lane
stays as it is, an egress lane with a stale exchange word among them (log entry 176). -/
def State.enterP2 (s : State) : State :=
  (List.range 144).foldl (fun s c =>
    let s1 := if c = 136 ∨ c = 137 ∨ c = 140 ∨ c = 141 then s
      else forLanes c (fun s e =>
        let l := s.lane e
        if l.st.runs || (l.st == .hold && l.why == 0) then s.toHold e 1 else s) s
    s1.setCl c { s1.cl c with p2 := true }) s

/-- Leaves P2: lanes in HOLD (P2) return by their class, and classification resumes after 16 µs with its counts at 0 (R69, R92). -/
def State.leaveP2 (s : State) : State :=
  (List.range 144).foldl (fun s c =>
    let s1 := s.setCl c { s.cl c with p2 := false }
    if c = 136 ∨ c = 137 ∨ c = 140 ∨ c = 141 then s1
    else forLanes c (fun s e =>
      let l := s.lane e
      if l.st = .hold ∧ l.why = 1 then
        let s2 := s.setLane e { l.redemod e with classIdle := 16, litRun := 0, darkRun := 0 }
        s2.reenter e
      else s.setLane e { l.redemod e with classIdle := 16, litRun := 0, darkRun := 0 }) s1) s

/-! ### P3 and P4 (R428) -/

/-- The domain wakes from P3 or P4: drives at sp of the commanded slots, references settling, taps without a conversion. -/
def State.wakeLane (s : State) (e : Nat) : State :=
  let l := s.lane e
  let l1 := { l.redemod e with
    i := 0, spAdj := 0, drv := s.sp e l.cmd, buf := s.sp e l.cmd, loaded := s.sp e l.cmd
    tap0 := { Tap.reset with hi := nextHi e l.cmd false false }, tap1 := { Tap.reset with hi := nextHi e l.cmd true false }
    fresh := true, litRun := 0, darkRun := 0, lit := false, classIdle := 0 }
  if l.st = .off ∨ l.st = .block ∨ l.st = .atten ∨ l.st = .fault then s.setLane e l1 else s.putLane e (l1.hold 2)

/-- The photonic control domain wakes (R428). -/
def State.wakeDomain (s : State) : State :=
  (List.range 144).foldl (fun s c =>
    let k := s.cl c
    forLanes c State.wakeLane (s.setCl c { k with p2 := false, adc := k.adc.map fun _ => ⟨false, true⟩ })) s

/-! ### Changes -/

/-- The offsets of the set-points: 2 KiB in the window of each cluster (R99). -/
def isSetpt (a : Nat) : Bool :=
  let o := a - Reg.at .SETPT [0, 0, 0]
  decide (Reg.at .SETPT [0, 0, 0] ≤ a) && decide (o / 65536 < 144) && decide (o % 65536 < 2048)

/-- The working set-points, as firmware writes them to module flash for P4 (R427). -/
def State.setpts (s : State) : List (Nat × Word) := s.regs.filter fun p : Nat × Word => isSetpt p.1

/-- The set-points come back from module flash after P4 (R428). -/
def State.reload (s : State) : State := 
  let others := s.regs.filter fun p : Nat × Word => !isSetpt p.1
  { s with regs := s.pwr.kept.foldl (fun (m : SMap Word) (p : Nat × Word) => sset m p.1 p.2) others }

/-- P4 is in force (R425, R427): the set-points are in module flash, and the store is unpowered. What its patterns hold from then
on is a free value (DESIGN CHOICE, log entry 213). -/
def State.storeDark (s : State) : State :=
  let s1 := s.setPwr { s.pwr with kept := s.setpts }
  { s1 with freeN := s1.freeN + 1, yk := { s1.yk with store := s1.yk.store.map fun p : PatEnt =>
    { p with lanes := (Config.freeStore s1.freeN p.num).filter fun l => decide (l.e < 36864) } } }

/-- An exit from the ladder starts (R426, R428). From P3 or P4 the power of the domain is restored, from P4 the set-points are
reloaded, and the inhibit of the Placket ends. -/
def State.startExit (s : State) (g : Nat) : State :=
  let s1 := s.setPwr { s.pwr with chg := some g, pend := false, late := false, off := false, t0 := s.clr.now }
  let s2 := if s.pwr.st = 4 then s1.reload else s1
  if 3 ≤ s.pwr.st ∧ g < 3 then s2.wakeDomain.inhibitEnd else s2

/-- What the TARGET now asks for (R426): an exit starts, an entry waits. Whether PCIe is off is what the POWER_ENTRY commands of
this request say. -/
def State.pwrRequest (s : State) : State :=
  let g := s.target
  if g < s.pwr.st then s.startExit g
  else s.setPwr { s.pwr with pend := decide (s.pwr.st < g), late := false, off := false }

/-- POWER_TARGET_WRITE (R426, R427, R428): a write of PWR_CTRL. A TARGET above 4 keeps the previous one. -/
def doPowerTarget (v : Word) (t : Nat) (s : State) : State :=
  let s1 := (s.passTo t).setF PWR_CTRL.AUTO_WAKE [] (fget 8 1 v)
  let g := fget 0 3 v
  if 4 < g then s1
  else
    let s2 := s1.setF PWR_CTRL.TARGET [] g
    let s3 := if g ≠ 0 then s2.calAbort 6 else s2
    match s3.pwr.chg with
    | none => s3.pwrRequest
    | some c =>
      -- a shallower TARGET cancels an entry to P4; any other write waits for the end of the change
      if c = 4 ∧ s3.pwr.st < 4 ∧ g < 4 then
        let s4 := s3.setPwr { s3.pwr with chg := none }
        (if s3.pwrInhibit && !s4.pwrInhibit then s4.inhibitEnd else s4).pwrRequest
      else s3.setPwr { s3.pwr with late := true }

/-- Meaning of POWER_TARGET_WRITE (R426). -/
def execPowerTargetWrite (v : Word) (t : Nat) (s : State) : Host.Outcome State Fault Refusal :=
  .next (s.hostWr .PWR_CTRL [] (doPowerTarget v t))

/-- POWER_ENTRY (R426): a waiting entry starts once its conditions hold; `off`: the link is in L2/L3 Ready or PERST_N is
asserted. -/
def doPowerEntry (off : Bool) (t : Nat) (s : State) : State :=
  let s1 := (s.passTo t).setPwr { s.pwr with off := off }
  let g := s1.target
  if !s1.pwr.pend || s1.pwr.chg.isSome || decide (s1.pwrWait g ≠ 0) then s1
  else
    let s2 := s1.setPwr { s1.pwr with chg := some g, pend := false, t0 := s1.clr.now }
    if g = 2 then s2.enterP2 else if 3 ≤ g then s2.plkRelease else s2

/-- Meaning of POWER_ENTRY (R426). -/
def execPowerEntry (off : Bool) (t : Nat) (s : State) : Host.Outcome State Fault Refusal := .next (doPowerEntry off t s)

/-- Patterns held for P0 take the first boundary whose commit point is ahead (R210). -/
def State.resumeHeld (s : State) : State :=
  let due := s.boundary (s.clr.now + s.leadNs)
  { s with yk := { s.yk with store := s.yk.store.map fun p : PatEnt =>
      if p.heldP then { p with heldP := false, st := .staged, due := max p.due due } else p } }

/-- POWER_CHANGE_DONE (R427, R428): the running change completes. An entry to P3 or P4 completes once the Placket is
RELEASED. PUMP_OK is left as it is by the ladder: what it reads in P3 and P4, where R425 folds the charge pump, is not given
(DESIGN CHOICE, log entry 182). -/
def doPowerDone (t : Nat) (s : State) : State :=
  let s1 := s.passTo t
  match s1.pwr.chg with
  | none => s1
  | some g =>
    let f := s1.pwr.st
    if 3 ≤ g ∧ f < g ∧ s1.plk.st ≠ .released then s1
    else
      let s2 := s1.setPwr { s1.pwr with st := g, chg := none }
      let s3 := if g < f ∧ g = 0 then
          s2.setReg .PWR_EXIT [] (wd (f * 2 ^ 29 + min 0xFFFFFF ((s2.clr.now - s2.pwr.t0) / 1000))) else s2
      let s4 := if 3 ≤ g ∧ f < 3 then s3.sgfOff else s3
      let s5 := if f = 2 ∧ g < 2 then s4.leaveP2
        else if 3 ≤ f ∧ g = 2 then s4.enterP2
        else if g = 4 then s4.storeDark
        else s4
      let s6 := if g = 0 then s5.resumeHeld else s5
      let s7 := (s6.post 2 0x21 g []).raise PWR_EVT.CHANGED []
      if s7.pwr.late then s7.pwrRequest else s7

/-- Meaning of POWER_CHANGE_DONE (R427). -/
def execPowerChangeDone (t : Nat) (s : State) : Host.Outcome State Fault Refusal := .next (doPowerDone t s)

/-- The exit time of a state in ns (R425). -/
def exitNs (st : Nat) : Nat := if st = 1 then 20000 else if st = 2 then 200000 else 2000000

/-- The commit point of the earliest pattern that waits to fire: STAGED, one held for P0 among them, or ARMED. -/
def State.firstCommit (s : State) : Option Nat :=
  ((s.yk.store.filter fun p => p.st == .staged || p.st == .armed).map fun p => p.due - p.lead).foldl (fun m x => match m with
    | none => some x
    | some y => some (min x y)) none

/-- AUTO_WAKE (R428): with AUTO_WAKE = 1 in P1 to P3, an exit to P0 starts ahead of the earliest staged pattern. -/
def doAutoWake (t : Nat) (s : State) : State :=
  let s1 := s.passTo t
  match s1.firstCommit with
  | none => s1
  | some c =>
    if s1.fb PWR_CTRL.AUTO_WAKE [] && decide (1 ≤ s1.pwr.st) && decide (s1.pwr.st ≤ 3) && s1.pwr.chg.isNone
        && decide (c ≤ s1.clr.now + exitNs s1.pwr.st + 10000) then
      (s1.startExit 0).raise PWR_EVT.AUTO []
    else s1

/-- Meaning of AUTO_WAKE (R428). -/
def execAutoWake (t : Nat) (s : State) : Host.Outcome State Fault Refusal := .next (doAutoWake t s)

end Sys2Proof.Machine
end

