-- ==== Sys2Proof/Machine/Calib.lean ====
section
/-! DEFINITION. Trimming, probe runs and calibration (R466 to R479). -/
namespace Sys2Proof.Machine

/-! ### Scope and refusals (R466, R471, R477, R479) -/

/-- First and last cluster of CAL_SCOPE. -/
def State.scope (s : State) : Nat × Nat := (s.f CAL_SCOPE.FIRST_C [], s.f CAL_SCOPE.LAST_C [])

/-- A cluster lies within the scope of the run. -/
def State.inScope (s : State) (c : Nat) : Bool := decide (s.cal.c0 ≤ c) && decide (c ≤ s.cal.c1)

/-- A path crosses a node of a cluster from c0 to c1 (R471). -/
def State.pathsIn (s : State) (c0 c1 : Nat) : Bool :=
  (s.usedRts 0).any fun r => [0, 1].any fun pl => (List.range 17).any fun st =>
    let c := elemOf pl st (r.node st) 0 / 256
    decide (c0 ≤ c) && decide (c ≤ c1)

/-- The cause for which a command is refused, 0 for none; the lowest code first. -/
def State.calCause (s : State) (op : Nat) : Nat :=
  let sc := s.scope
  if op = 6 then (if s.cal.last.isNone then 8 else 0)
  else if s.pwr.st ≠ 0 ∨ s.pwr.chg.isSome = true ∨ s.target ≠ 0 then 1
  else if s.flt.safe = true then 2
  else if op ≤ 3 ∧ s.yk.mode ≠ 0 then 3
  else if op = 2 ∧ s.pathsIn sc.1 (min 135 sc.2) = true then 4
  else if sc.2 < sc.1 ∨ 143 < sc.2 then 9
  else 0

/-! ### Probe layers (R466, R468) -/

/-- The probe routes of a layer: idle in-port p to idle out-port p (BAR) or p xor 1 (CROSS), with every node of the route in
that state where it is free, else as R165 places it. -/
def State.layerRoutes (s : State) (cross : Bool) : List Rt :=
  let paths := s.usedRts 0
  let x := s.exclNodes
  ((List.range 512).foldl (fun (acc : List Rt) p =>
    let b := if cross then p ^^^ 1 else p
    let hint : Rt := ⟨p, b, if cross then (p / 2) ^^^ 255 else p / 2⟩
    let others := acc ++ paths
    if paths.any (fun r => r.a == p || r.b == b) then acc
    else if !hint.hits x && others.all (fun o => !hint.conflicts o) then acc ++ [hint]
    else match place x others p b with
      | some m => acc ++ [⟨p, b, m⟩]
      | none => acc) [])

/-- The ingress Cuff lanes of a probe route: ATTEN at 0 mA (R466), and no tone, where R61 has calibration light take the tag tone
(DESIGN CHOICE, log entry 225). -/
def probeIn (a : Nat) : List LaneSet :=
  [0, 1].map fun pl => ⟨cuffOf pl 0 a, false, some 0, none, none, none, some 0, some 0⟩

/-- Takes up the staged pattern of a stage, or fails the run where the pattern store is full (R204). -/
def State.calStage (s : State) (n : Nat) (routes : List Rt) (lanes : List LaneSet) : State :=
  match s.calPat lanes with
  | some s1 => s1.setCal { s1.cal with stage := n, fired := false, next := routes.map fun r => (r.a, r.b, r.m) }
  | none => (State.schedEvent s (s.raise YK_EVT.STORE_FULL [])).calStop 4 0

/-- Stages a probe layer as stage n (R468). -/
def State.calLayer (s : State) (n : Nat) (cross : Bool) : State :=
  let rts := s.layerRoutes cross
  let gone := s.openIdle.filter fun a => !(rts.any fun r => r.a == a)
  let s1 := s.calKeep (rts.flatMap fun r => [cuffOf 0 0 r.a, cuffOf 1 0 r.a] ++ r.litLanes)
  s1.calStage n rts (gone.flatMap closeIn ++ rts.flatMap fun r => routeLanes r.a ⟨r.b, r.m⟩ ++ probeIn r.a)

/-- Stages the pattern that releases the probe routes as stage n (R468). -/
def State.calLetGo (s : State) (n : Nat) : State := s.calStage n [] (s.openIdle.flatMap closeIn)

/-! ### Commands (R471 to R479) -/

/-- A run begins. -/
def State.calBegin (s : State) (op : Nat) : State :=
  let sc := s.scope
  s.setCal { s.cal with
    busy := true, op := op, result := 0, cause := 0, doneC := 0, c0 := sc.1, c1 := sc.2, undo := ⟨s.cal.consts, []⟩
    delta := 0, deltaC := 0, step := 0, stage := 0, fired := false, lit0 := [], lit1 := [], train := [], turn := [], todo := []
    mean := none, back := [], pulsed := [], rest := [], fin := [] }

/-- The clusters in the scope of the run. -/
def State.scopeCl (s : State) : List Nat := (List.range 144).filter s.inScope

/-- An ADC step begins (R472, R473): VREF_EXT is selected and the lanes of the ADC are held. -/
def State.elecHold (s : State) : State :=
  let a := s.cal.step
  let keys := s.scopeCl.map fun c => 8 * c + a
  let refs := keys.map fun k => (k, s.refSel (k / 8) a)
  let s1 := (s.setCal { s.cal with refs := refs }).calTake keys
  keys.foldl (fun (s : State) k => State.refSelect (k / 8) (wd (4 ^ a)) s a) s1

/-- In-ports that CAL_OPT measures: of a selected group, without a path, their ingress clusters in scope (R474). -/
def State.optPorts (s : State) : List Nat :=
  (List.range 512).filter fun p => bit (16 + p / 128) (s.reg .CAL_SCOPE []) && !s.hasPath p
    && s.inScope (136 + p / 256) && s.inScope (140 + p / 256)

/-- The window of CAL_OPT begins (R474, R475): it measures every in-port at once, so that it comes before the ADC steps of the other
clusters (R472; DEDUCED, log entry 235). The ingress Cuff clusters concerned convert in HI, the measured lanes stand at 0 mA,
and the egress lanes that use words of those clusters hold. -/
def State.optHold (s : State) : State :=
  let ports := s.optPorts
  let cls := (ports.flatMap fun p => [136 + p / 256, 140 + p / 256]).eraseDups
  let s1 := (s.setCal { s.cal with
    rmodes := cls.map fun c => (c, s.f CNV_RANGE.RMODE [c])
    zero := ports.flatMap fun p => [cuffOf 0 0 p, cuffOf 1 0 p] }).calTake (cls.flatMap fun c => (List.range 8).map fun a => 8 * c + a)
  let s2 := cls.foldl (fun (s : State) c => s.setF CNV_RANGE.RMODE [c] 2) s1
  [138, 139, 142, 143].foldl (fun s c => forLanes c State.cufHoldLane s) s2

/-- Set-points that a run has changed are stored in module flash (R477, R478). -/
def State.spStore (s : State) (u : CalUndo) : State :=
  s.setCal { s.cal with storedSp := u.setpt.foldl (fun (m : SMap Word) (p : Nat × Word) =>
    sset m p.1 (s.reg .SETPT [p.1 / 512, p.1 / 2 % 256, p.1 % 2])) s.cal.storedSp }

/-- RESTORE (R477). -/
def State.calRestore (s : State) : State :=
  match s.cal.last with
  | none => s
  | some u =>
    ((s.setCal { s.cal with
      op := 6, result := 1, cause := 0, doneC := 0, consts := u.consts, stored := u.consts, last := none }).spBack u).spStore u

/-- A write of CAL_CMD (R476, R479). -/
def doCalCmd (op t : Nat) (s0 : State) : State :=
  let s := s0.passTo t
  if op = 15 then s.calAbort 7
  else if op = 0 ∨ 6 < op then s
  else if s.cal.busy then s.raise CAL_STATUS.CMD_REJ []
  else
    let c := s.calCause op
    if c ≠ 0 then s.setCal { s.cal with op := op, result := 3, cause := c, doneC := 0 }
    else match op with
      | 3 => (s.calBegin op).calLayer 1 false
      | 4 => (s.calBegin op).elecHold
      | 5 => (s.calBegin op).optHold
      | 6 => s.calRestore
      | _ => (s.calBegin op).calLayer 4 false

/-- Meaning of TRIM_CHECK (R471). -/
def execTrimCheck (t : Nat) (s : State) : Host.Outcome State Fault Refusal := .next (s.hostWr .CAL_CMD [] (doCalCmd 1 t))

/-- Meaning of TRIM (R471). -/
def execTrim (t : Nat) (s : State) : Host.Outcome State Fault Refusal := .next (s.hostWr .CAL_CMD [] (doCalCmd 2 t))

/-- Meaning of PROBE_LEARN (R468). -/
def execProbeLearn (t : Nat) (s : State) : Host.Outcome State Fault Refusal := .next (s.hostWr .CAL_CMD [] (doCalCmd 3 t))

/-- Meaning of CAL_ELEC (R473). -/
def execCalElec (t : Nat) (s : State) : Host.Outcome State Fault Refusal := .next (s.hostWr .CAL_CMD [] (doCalCmd 4 t))

/-- Meaning of CAL_OPT (R474). -/
def execCalOpt (t : Nat) (s : State) : Host.Outcome State Fault Refusal := .next (s.hostWr .CAL_CMD [] (doCalCmd 5 t))

/-- Meaning of RESTORE (R477). -/
def execRestore (t : Nat) (s : State) : Host.Outcome State Fault Refusal := .next (s.hostWr .CAL_CMD [] (doCalCmd 6 t))

/-- Meaning of ABORT (R476). -/
def execAbort (t : Nat) (s : State) : Host.Outcome State Fault Refusal := .next (s.hostWr .CAL_CMD [] (doCalCmd 15 t))

/-! ### Trimming (R470, R471) -/

/-- The rest-state set-point of an element: that of its slot in the BAR row (R44, R471). -/
def State.restSp (s : State) (e : Nat) : Int := s.sp e (nodeSlot false (qE e))

/-- Pulses given to the cell of an element. -/
def State.cellPulses (s : State) (e : Nat) : Nat := Config.pulses e + sget 0 s.cal.pulses e

/-- Pulses of the next train of an element: its number and its sense, none where it stops (R470, R471). -/
def State.nextTrain (s : State) (e : Nat) : Option (Nat × Bool) :=
  let v := s.restSp e
  let n := min (clampN 1 (s.f TRIM_CFG.TRAIN []) (v.natAbs / 106)) (4096 - s.cellPulses e)
  if v.natAbs ≤ s.f TRIM_CFG.TOL [] ∨ s.f TRIM_CFG.TRAINS [] ≤ sget 0 s.cal.train e ∨ n = 0 then none else some (n, decide (v < 0))

/-- Elements of a map outside TOL. -/
def State.nOut (s : State) (m : SMap Int) : Nat := (m.filter fun p : Nat × Int => decide (s.f TRIM_CFG.TOL [] < p.2.natAbs)).length

/-- Adds d to a set-point word: SP_REF, and SP where `both` (R471). -/
def State.spShift (s : State) (e : Nat) (k both : Bool) (d : Int) : State :=
  let ix := [e / 256, e % 256, b2n k]
  let s1 := s.setF SETPT.SP_REF ix (spBits e (s.spRef e k + d))
  if both then s1.setSp e k (s1.sp e k + d) else s1

/-- The changes of TRIM come into the set-points: the rest slot has already learned its own (R471). -/
def State.trimShift (s : State) : State :=
  s.cal.rest.foldl (fun (s : State) (p : Nat × Int) =>
    let d := sget p.2 s.cal.fin p.1 - p.2
    let k := nodeSlot false (qE p.1)
    (s.spShift p.1 k false d).spShift p.1 (!k) true d) s

/-- The turn of lane j of cluster c (R471): an element that the layer did not reach is passed; one that stops leaves the turn to the
next, which the same layer has taught (DEDUCED, log entry 150); else its next train is to be given. -/
def State.trimLane (c : Nat) (s : State) (j : Nat) : State :=
  let e := 256 * c + j
  let k := s.cal
  if decide (j < sget 0 k.turn c) || k.todo.any (fun x => x.1 / 256 == c) then s
  else if (sfind k.rest e).isNone && !k.lit0.contains e then s.setCal { k with turn := sset k.turn c (j + 1) }
  else
    let s1 := s.setCal { k with rest := if (sfind k.rest e).isNone then sset k.rest e (s.restSp e) else k.rest }
    match s1.nextTrain e with
    | some x => s1.setCal { s1.cal with todo := k.todo ++ [(e, x.1, x.2)], turn := sset k.turn c j, train := sset k.train e (sget 0 k.train e + 1) }
    | none => s1.setCal { s1.cal with fin := sset k.fin e (s1.restSp e), turn := sset k.turn c (j + 1) }

/-- The next element of each cluster in scope; the clusters trim in parallel (R471). -/
def State.trimTurns (s : State) : State :=
  (s.scopeCl.filter fun c => decide (c < 136)).foldl (fun s c => (List.range 256).foldl (State.trimLane c) s) s

/-- A BAR layer has been learned and released (R471): TRIM_CHECK reports; TRIM gives each cluster the next train of the element
whose turn it is, or, after the last element of every cluster, updates the set-points and runs PROBE_LEARN. -/
def State.trimNext (s : State) : State :=
  let k := s.cal
  if k.op = 1 then
    let rest := (k.lit0.filter fun e => s.inScope (e / 256)).foldl (fun (m : SMap Int) e => sset m e (s.restSp e)) []
    (s.setF TRIM_RES.N_OUT [] (min 65535 (s.nOut rest))).setCal
      { k with rest := rest, stage := 7, doneC := (s.scopeCl.filter fun c => decide (c < 136)).length }
  else
    let s1 := s.trimTurns
    let todo := s1.cal.todo
    let s2 := s1.setCal { s1.cal with doneC := (s1.cal.turn.filter fun p => decide (256 ≤ p.2)).length }
    if todo.isEmpty then
      let s3 := (s2.calKeep (s2.cal.rest.map Prod.fst)).trimShift
      let s4 := s3.setReg .TRIM_RES [] (wd (min 65535 (s3.nOut s3.cal.fin) * 2 ^ 16 + min 65535 s3.cal.pulsed.length))
      (s4.setCal { s4.cal with lit0 := [], lit1 := [] }).calLayer 1 false
    else
      (s2.setCal { s2.cal with stage := 6 }).calTake ((todo.map fun x => x.1 / 256).flatMap fun c => (List.range 8).map fun a => 8 * c + a)

/-- TRIM_PULSE (R470): one pulse by the pulser of cluster c. -/
def doTrimPulse (c t : Nat) (s0 : State) : State :=
  let s := s0.passTo t
  let k := s.cal
  if !k.busy || decide (k.stage ≠ 6) then s
  else match k.todo.find? fun x => x.1 / 256 == c with
    | none => s
    | some x =>
      let n := sget 0 k.pulses x.1 + 1
      let todo := if x.2.1 ≤ 1 then k.todo.erase x else k.todo.map fun y => if y = x then (x.1, x.2.1 - 1, x.2.2) else y
      let busy := if todo.any fun y => y.1 / 256 == c then k.busyAdc else k.busyAdc.filter fun b => b / 8 ≠ c
      let s1 := s.setCal { k with
        todo := todo, busyAdc := busy, pulses := sset k.pulses x.1 n
        pulsed := if k.pulsed.contains x.1 then k.pulsed else k.pulsed ++ [x.1] }
      let s2 := if Config.pulses x.1 + n = 4096 then s1.setF TRIM_WORN.N_WORN [] (min 65535 (s1.f TRIM_WORN.N_WORN [] + 1)) else s1
      if todo.isEmpty then s2.calLayer 4 false else s2

/-- Meaning of TRIM_PULSE (R470). -/
def execTrimPulse (c : Fin 136) (t : Nat) (s : State) : Host.Outcome State Fault Refusal := .next (doTrimPulse c t s)

/-! ### Dwells (R467, R468) -/

/-- Switching elements found lit in the layer that ends, by slot (R467). -/
def State.litIn (s : State) (k : Bool) : List Nat :=
  s.cal.seen.filter fun e => s.cal.lanes.contains e && !isCuffE e && (s.lane e).cmd == k

/-- PROBE_LAYER_DWELL (R468): the layer has been held for DWELL_US. -/
def doProbeLayerDwell (t : Nat) (s0 : State) : State :=
  let s := s0.passTo t
  let k := s.cal
  if !k.busy || !k.fired || decide (s.clr.now < k.fireAt + s.f CAL_PRB.DWELL_US [] * 1000) then s
  else
    let hit := s.setCal { k with lit0 := (k.lit0 ++ s.litIn false).eraseDups, lit1 := (k.lit1 ++ s.litIn true).eraseDups }
    match k.stage with
    | 1 => hit.calLayer 2 true
    | 2 => hit.calLetGo 3
    | 4 => (s.setCal { k with lit0 := s.litIn false ++ s.litIn true }).calLetGo 5
    | 5 => s.trimNext
    | _ => s

/-- Meaning of PROBE_LAYER_DWELL (R468). -/
def execProbeLayerDwell (t : Nat) (s : State) : Host.Outcome State Fault Refusal := .next (doProbeLayerDwell t s)

/-! ### Steps of a calibration (R472 to R474) -/

/-- 10^(num / den) × 10^40. -/
def pow10Q (num : Int) (den : Nat) : Nat :=
  let q := num / (den : Int)
  let e := expFix ((num % (den : Int)).toNat * ln10 / den)
  if 0 ≤ q then e * 10 ^ q.toNat else e / 10 ^ (-q).toNat

/-- Half steps of 1/256 dB in a decade. -/
def dbSteps : Nat := 5120

/-- The largest k below 2^(n + 1) for which a / b is at least 10^((2k − 1) / 5,120): a ratio in 1/256 dB, rounded. -/
def ratioDb (a b : Nat) (n : Nat) : Nat :=
  (List.range (n + 1)).foldl (fun k i =>
    let m := k + 2 ^ (n - i)
    if b ^ dbSteps * 10 ^ (2 * m - 1) ≤ a ^ dbSteps then m else k) 0

/-- The size of a gain change in 1/256 dB (R478). -/
def gainStep (a b : Nat) : Nat := if a = 0 ∨ b = 0 then 65535 else min 65535 (if a < b then ratioDb b a 15 else ratioDb a b 15)

/-- The largest change so far and its cluster. -/
def Cal.widen (k : Cal) (d c : Nat) : Cal := { k with delta := max k.delta d, deltaC := if k.delta < d then c else k.deltaC }

/-- The constants that a step finds for a channel (R473): those of the command, whose gain holds for VREF_EXT at its nominal 1.250 V
and is scaled to the value declared in CAL_VREF; free values where the command lists none (DESIGN CHOICE, log entry 152). -/
def State.elecConst (s : State) (l : List CalMeas) (n c h : Nat) (hi : Bool) (ref : Nat) : CalConst :=
  match l.find? fun x => x.c.val == c && x.h.val == h && x.hi == hi && x.ref.val == ref with
  | some x => ⟨x.off, (x.gain * s.f CAL_VREF.VREF [] + 625000) / 1250000⟩
  | none => ⟨Config.elecOff n (convKey c h hi ref), Config.elecGain n (convKey c h hi ref)⟩

/-- A new pair of constants of a channel. -/
def State.setConst (s : State) (c h : Nat) (hi : Bool) (ref : Nat) (x : CalConst) : State :=
  let k := s.cal.widen (gainStep (s.convConst c h hi ref).gain x.gain) c
  s.setCal { k with consts := sset k.consts (convKey c h hi ref) x }

/-- Ranges and references of a channel. -/
def chanForms : List (Bool × Nat) := [(false, 0), (false, 1), (false, 2), (true, 0), (true, 1), (true, 2)]

/-- The channels of the ADC in step, in every cluster in scope. -/
def State.stepChans (s : State) : List (Nat × Nat) := s.scopeCl.flatMap fun c => (List.range 64).map fun i => (c, 64 * s.cal.step + i)

/-- The new constants of a step of CAL_ELEC (R473): both ranges and all three references of every channel of its ADC. -/
def State.elecApply (l : List CalMeas) (s : State) : State :=
  let f := s.takeFree
  s.stepChans.foldl (fun z ch => chanForms.foldl (fun z x =>
    z.setConst ch.1 ch.2 x.1 x.2 (s.elecConst l f.1 ch.1 ch.2 x.1 x.2)) z) f.2

/-- Scales the gain of channel h of cluster c by 10^(num / den), in both ranges and for every reference (R474). -/
def State.scaleCh (num : Int) (den : Nat) (s : State) (p : Nat × Nat) : State :=
  let f := pow10Q num den
  chanForms.foldl (fun (s : State) (x : Bool × Nat) =>
    let o := s.convConst p.1 p.2 x.1 x.2
    s.setCal { s.cal with consts := sset s.cal.consts (convKey p.1 p.2 x.1 x.2) { o with gain := (2 * o.gain * f + fix1) / (2 * fix1) } }) s

/-- The correction of an in-port in 1/25,600 dB: expected less measured power (R474). -/
def State.optCorr (s : State) (p : Nat) (v : Int) : Int :=
  100 * (sgn 16 (s.f CAL_PREF.PREF []) - Config.loss0 p - v) - 128 * ((s.f PORT_CAL.CAL_CPL_A [p] + s.f PORT_CAL.CAL_CPL_B [p] : Nat) : Int)

/-- What the window of CAL_OPT has found: in-port and correction of each measured port whose sum reaches −35.00 dBm (R474). -/
def State.optFound (s : State) (meas : List PortMeas) : List (Nat × Int) :=
  let ports := s.optPorts
  (meas.filter fun m => ports.contains m.p.val && decide (-8960 ≤ m.v.toInt)).map fun m => (m.p.val, s.optCorr m.p m.v.toInt)

/-- The corrections come into the constants of the tap-0 channels of their ports, in both planes (R474). -/
def State.optApply (s : State) (l : List (Nat × Int)) : State :=
  l.foldl (fun (s : State) (x : Nat × Int) =>
    let s2 := [136, 140].foldl (fun (s : State) c0 => s.scaleCh x.2 256000 (c0 + x.1 / 256, 2 * (x.1 % 256))) s
    s2.setCal (s2.cal.widen (min 65535 ((x.2.natAbs + 50) / 100)) (136 + x.1 / 256))) s

/-- The switching and egress Cuff clusters in scope: those that CAL_OPT scales by the mean (R474). -/
def State.meanCl (s : State) : List Nat :=
  s.scopeCl.filter fun c => decide (c < 136) || c == 138 || c == 139 || c == 142 || c == 143

/-- The ADC in step of the clusters that are scaled by the mean is held (R472). -/
def State.optStep (s : State) : State := s.calTake (s.meanCl.map fun c => 8 * c + s.cal.step)

/-- The channels of the ADC in step are scaled by the mean of n corrections of that sum (R472, R474). -/
def State.meanApply (s : State) (sum : Int) (n : Nat) : State :=
  s.meanCl.foldl (fun (s : State) c => (List.range 64).foldl (fun (s : State) i => s.scaleCh sum (256000 * n) (c, 64 * s.cal.step + i)) s) s

/-- A step has ended: the next one begins as `go` says, or every cluster in scope is complete (R472, R479). -/
def State.stepOn (s : State) (go : State → State) : State :=
  let n := s.cal.step + 1
  let s1 := s.setCal { s.cal with step := n }
  if n < 8 then go s1 else s1.setCal { s1.cal with doneC := s1.scopeCl.length }

/-- CAL_STEP_DONE (R472, R473, R474): the step ends, and its new constants take effect. -/
def doCalStep (l : List CalMeas) (meas : List PortMeas) (t : Nat) (s0 : State) : State :=
  let s := s0.passTo t
  let k := s.cal
  if !k.busy || !k.again.isEmpty || decide (8 ≤ k.step) then s
  else if k.op = 4 then
    if k.busyAdc.any fun x => !((s.cl (x / 8)).settled (x % 8)) then s.calStop 4 5
    else (s.elecApply l).calUnhold.stepOn State.elecHold
  else if k.op = 5 then
    match k.mean with
    | none =>
      let found := s.optFound meas
      let s1 := (s.optApply found).calUnhold
      if found.length < 16 then s1.setCal { s1.cal with step := 8, doneC := s1.scopeCl.length }
      else (s1.setCal { s1.cal with mean := some ((found.map Prod.snd).foldl (· + ·) 0, found.length) }).optStep
    | some m => (s.meanApply m.1 m.2).calUnhold.stepOn State.optStep
  else s

/-- Meaning of CAL_STEP_DONE (R472). -/
def execCalStepDone (l : List CalMeas) (meas : List PortMeas) (t : Nat) (s : State) : Host.Outcome State Fault Refusal :=
  .next (doCalStep l meas t s)

/-! ### The end of a run (R472, R478) -/

/-- The largest change of a set-point by the run in codes, and its cluster (R478). -/
def State.spDelta (s : State) : Nat × Nat :=
  s.cal.undo.setpt.foldl (fun (m : Nat × Nat) (p : Nat × Word) =>
    let e := p.1 / 2
    let d := (s.sp e (decide (p.1 % 2 = 1)) - spCode e (fget SETPT.SP.lo 16 p.2)).natAbs
    if m.1 < d then (d, e / 256) else m) (0, 0)

/-- The coverage of a probe run (R468, R479): elements in scope lit in both states, and the others. -/
def State.cover (s : State) : State :=
  let all := (s.scopeCl.filter fun c => decide (c < 136)).length * 256
  let both := (s.cal.lit0.filter fun e => s.cal.lit1.contains e && s.inScope (e / 256)).length
  s.setReg .CAL_COVER [] (wd (min 65535 (all - both) * 2 ^ 16 + min 65535 both))

/-- CAL_RUN_DONE (R472, R478): the run completes and is stored as a whole. -/
def doCalRunDone (t : Nat) (s0 : State) : State :=
  let s := s0.passTo t
  let k := s.cal
  let ok := match k.op with
    | 1 => k.stage == 7
    | 2 => k.stage == 3 && k.fired
    | 3 => k.stage == 3 && k.fired
    | _ => k.step == 8
  if !k.busy || !ok then s
  else
    let cls := s.scopeCl.filter fun c => decide (3 < k.op) || decide (c < 136)
    let s1 := s.setCal { k with
      busy := false, result := 1, cause := 0, doneC := cls.length, stage := 0
      last := if k.op = 2 then none else if k.op = 1 then k.last else some k.undo
      stored := if 3 < k.op then k.consts else k.stored }
    if k.op = 1 then s1
    else
      let kind := if k.op = 4 then 0 else if k.op = 5 then 1 else if k.op = 3 then 2 else 3
      let s2 := s1.setReg .CAL_LAST [kind] (wd (s.clr.now / secNs))
      if 3 < k.op then s2.setReg .CAL_DELTA [] (wd (k.deltaC * 2 ^ 16 + k.delta))
      else
        let d := s2.spDelta
        ((s2.setReg .CAL_DELTA [] (wd (d.2 * 2 ^ 16 + min 65535 d.1))).cover).spStore k.undo

/-- Meaning of CAL_RUN_DONE (R472). -/
def execCalRunDone (t : Nat) (s : State) : Host.Outcome State Fault Refusal := .next (doCalRunDone t s)

end Sys2Proof.Machine
end

