-- ==== Sys2Proof/Machine/RingOps.lean ====
section
/-! DEFINITION. Operations that the rings share (R232 to R236, R256): places of entries, writing an entry, moderation of
MSI-X messages, ring errors. -/
namespace Sys2Proof.Machine

/-! ### The PCIe endpoint (R225) -/

/-- What the T512 shows of itself as a PCIe endpoint (R225). Link rates are in GT/s, 2 for 2.5; what the table does not list is
not implemented. -/
structure Endpoint where
  rates : List Nat
  widths : List Nat
  vendor : Nat
  device : Nat
  classCode : Nat
  subVendor : Nat
  subsystem : Nat
  payloads : List Nat
  maxReadReq : Nat
  tenBitTags : Bool
  msixVectors : Nat
  aspmL1 : Bool
  d3hot : Bool
  flr : Bool
  aer : Bool
  serial : BitVec 64
  deriving DecidableEq, Repr

/-- The endpoint of a T512-O (variant 0) or a T512-C (variant 1). -/
def endpoint (variant : Nat) : Endpoint :=
  { rates := [2, 5, 8, 16, 32], widths := [1, 2, 4, 8], vendor := 0x1F9C, device := 0x7512, classCode := 0x028000
    subVendor := 0x1F9C, subsystem := variant + 1, payloads := [128, 256, 512], maxReadReq := 4096, tenBitTags := true
    msixVectors := 256, aspmL1 := true, d3hot := true, flr := true, aer := true, serial := Config.serial }

/-- The endpoint of this module. -/
def thisEndpoint : Endpoint := endpoint (Config.hifRev.toNat % 4)

/-- A link rate and width to which the endpoint trains (R225). -/
def Endpoint.trains (p : Endpoint) (rate width : Nat) : Bool := p.rates.contains rate && p.widths.contains width

/-! ### Rings -/

/-- Ring g. -/
def State.ring (s : State) (g : Nat) : Ring := sget Ring.reset s.hif.rings g

/-- Stores a ring. -/
def State.setRing (s : State) (g : Nat) (r : Ring) : State := { s with hif := { s.hif with rings := sset s.hif.rings g r } }

/-- Entries of a ring (R232). -/
def State.ringLen (s : State) (g : Nat) : Nat := 2 ^ s.f RING_CFG.SIZE [g]

/-- Base address of a ring (R237). -/
def State.ringBase (s : State) (g : Nat) : Nat :=
  (s.reg .RING_BASE_LO [g]).toNat + (s.reg .RING_BASE_HI [g]).toNat * 2 ^ 32

/-- Address of the entry of index i, with entries of n bytes (R233). -/
def State.entryAt (s : State) (g i n : Nat) : Nat := s.ringBase g + i % s.ringLen g * n

/-- A difference of indices modulo 2^32 (R233). -/
def idxSub (a b : Nat) : Nat := (a + 2 ^ 32 - b % 2 ^ 32) % 2 ^ 32

/-- An index after it (R233). -/
def idxInc (a : Nat) : Nat := (a + 1) % 2 ^ 32

/-- PHASE of index i (R234). -/
def State.phase (s : State) (g i : Nat) : Nat := (i / s.ringLen g + 1) % 2

/-- The entry of index i of a T512-produced ring is free. -/
def State.hasRoom (s : State) (g : Nat) : Bool := decide (idxSub (s.ring g).pi (s.ring g).ci < s.ringLen g)

/-- Completion and event rings signal only while PI differs from CI (R256). -/
def needsEntries (g : Nat) : Bool := decide (64 ≤ g) && decide (g < 144)

/-- Sends the message of ring g when its moderation calls for it (R256). -/
def State.signal (s : State) (g : Nat) : State :=
  let r := s.ring g
  if (decide (s.f RING_COAL.COAL_CNT [g] ≤ r.u) || r.coalP) && decide (0 < r.u) && !(needsEntries g && decide (r.pi = r.ci)) then
    (s.setRing g { r with u := 0, coalP := false }).msi (s.f RING_CFG.VEC [g])
  else s

/-- One more entry or write-back of ring g (R256). -/
def State.counted (s : State) (g : Nat) : State := (s.setRing g { s.ring g with u := (s.ring g).u + 1 }).signal g

/-- Writes an entry of seven dwords and dword 7 to a completion or event ring (R243): PI moves on. -/
def State.writeEntry (s : State) (g : Nat) (l : List Word) (d7 : Nat) : State :=
  let r := s.ring g
  let s1 := s.hput (s.entryAt g r.pi 32) (wordBytes (padW 7 l) ++ leBytes 4 (d7 + s.phase g r.pi * 2 ^ 31))
  (s1.setRing g { r with pi := idxInc r.pi }).counted g

/-- A ring error: a bit of RING_STATUS, a bit of HIF_ERR and a RING_ERROR event (R259). -/
def State.ringErr (s : State) (g : Nat) (x y : Fld) : State := ((s.raise x [g]).hifErr y (some g)).ringError g

/-! ### Events (R252 to R255) -/

/-- The words of an event entry before dword 7 (R253). -/
def Evt.words (e : Evt) : List Word := wd (e.code + e.cls * 2 ^ 8 + e.sub % 65536 * 2 ^ 16) :: e.time :: e.pl

/-- Writes an event to event ring k. -/
def State.putEvent (s : State) (k : Nat) (e : Evt) : State := s.writeEntry (128 + k) e.words ((s.ring (128 + k)).pi % 65536)

/-- EVENT_WRITE (R252, R255): the oldest event is written to its ring, or lost. -/
def doEventWrite (s : State) : State :=
  if s.prl.lsHalt then s else
  match s.hif.evq with
  | [] => s
  | e :: rest =>
    let s1 := { s with hif := { s.hif with evq := rest } }
    let g := 128 + e.ring
    if (s1.ring g).active && s1.hasRoom g then s1.putEvent e.ring e
    else ((s1.setRing g { s1.ring g with lostNew := (s1.ring g).lostNew + 1 }).bump .RING_LOST [g] 1).hifErr HIF_ERR.EVT_LOST (some g)

/-- Meaning of EVENT_WRITE (R252). -/
def execEventWrite (s : State) : Host.Outcome State Fault Refusal := .next (doEventWrite s)

/-- EVT_OVERFLOW (R255): a doorbell has freed space on an event ring that lost events; not while the main cores are halted
(R433). -/
def State.overflow (s : State) (g : Nat) : State :=
  let r := s.ring g
  if 128 ≤ g ∧ g < 144 ∧ r.lostNew ≠ 0 ∧ s.hasRoom g = true ∧ s.prl.lsHalt = false then
    (s.setRing g { r with lostNew := 0 }).putEvent (g - 128) ⟨g - 128, 5, 0x51, g, s.tag, [wd r.lostNew]⟩
  else s

end Sys2Proof.Machine
end

