-- ==== Sys2Proof/Machine/Capture.lean ====
section
/-! DEFINITION. Telemetry capture (R261 to R276): admission, the capture rings, quotas, and the records written. -/
namespace Sys2Proof.Machine

/-- Configuration words of a capture ring lie at the set of ring 144 + k. -/
def capG (k : Nat) : Nat := 144 + k

/-- 2^SIZE of a capture ring (R270). -/
def State.capLen (s : State) (k : Nat) : Nat := 2 ^ s.f CAP_CFG.SIZE [k]

/-- Worst-case records per millisecond (R267). -/
def State.capWorst (s : State) (k : Nat) : Nat :=
  let q := fun x y => if s.fb x [k] then s.f y [k] else 0
  let n := s.f CAP_SRC.LAST_C [k] + 1 - s.f CAP_SRC.FIRST_C [k]
  let marks := s.fb CAP_SRC.MARK_FLT [k] || s.fb CAP_SRC.MARK_PAT [k] || s.fb CAP_SRC.MARK_HOST [k]
  n * (q CAP_SRC.XING CAP_QUOTA.QX + q CAP_SRC.LOOP CAP_QUOTA.QS + q CAP_SRC.MEAS CAP_QUOTA.QM + 1)
    + (if marks then s.f CAP_QUOTA.MQ [k] else 0) + 2

/-- Capture limit in MB/s (R268); a rate of 2 stands for 2.5 GT/s. -/
def State.capLimit (s : State) : Nat :=
  4000 * (if s.sys.linkRate = 2 then 5 else 2 * s.sys.linkRate) * s.sys.linkWidth / 512

/-- RSV of the rings with EN = 1 or BUSY = 1, ring `but` left out. -/
def State.capReserved (s : State) (but : Option Nat) : Nat :=
  (List.range 4).foldl (fun a k => if some k ≠ but ∧ (s.fb CAP_CFG.EN [k] || (s.capR k).busy) then a + s.f CAP_RSV.RSV [k] else a) 0

/-- The reservations of the ACTIVE rings exceed the limit of the present link (R269, R276): the same for every ring. -/
def State.rsvShort (s : State) : Bool :=
  let sum := (List.range 4).foldl (fun a j => if (s.capR j).active then a + s.f CAP_RSV.RSV [j] else a) 0
  decide (s.capLimit < sum)

/-- The admission tests (R268). -/
def State.capAdmit (s : State) (k : Nat) : Bool :=
  decide (s.f CAP_SRC.FIRST_C [k] ≤ s.f CAP_SRC.LAST_C [k]) && decide (s.f CAP_SRC.LAST_C [k] ≤ 143)
    && decide (s.capWorst k * 32000 ≤ s.f CAP_RSV.RSV [k] * 1000000)
    && decide (s.capReserved (some k) + s.f CAP_RSV.RSV [k] ≤ s.capLimit)

/-- A capture ring error (R259). -/
def State.capErr (s : State) (k : Nat) (x y : Fld) : State := ((s.raise x [k]).hifErr y (some (capG k))).ringError (capG k)

/-- The enable takes effect, or is not admitted (R268, R274): record 0 is TIME. The high words that reads latched stay (R276). -/
def State.capEnable (s : State) (k : Nat) : State :=
  if s.capAdmit k then
    let s1 := s.setCap k { CapRing.reset with
      active := true, winT := s.clr.now, u := 0, latPi := (s.capR k).latPi, latOld := (s.capR k).latOld }
    let s2 := s1.setCap k ((s1.capR k).stage ⟨0x20, 255, 0, s1.tag, s1.timePayload false, s1.clr.now / 1000⟩ s1.tag)
    s2.setF CAP_CFG.EN [k] 1
  else ((s.setF CAP_CFG.EN [k] 0).setCap k { s.capR k with enPend := false }).capErr k CAP_STATUS.ADM_REJ HIF_ERR.CFG_REJ

/-- A write of CAP_CFG (R236, R274): SIZE and VEC keep their values while the ring runs, with CFG_REJ for a change. -/
def doCapCfg (k : Nat) (v : Word) (s : State) : State :=
  let c := s.capR k
  let en := s.fb CAP_CFG.EN [k]
  let size := clampN 12 37 (fget 0 6 v)
  let locked := en || c.busy
  let change := decide (size ≠ s.f CAP_CFG.SIZE [k]) || decide (fget 8 8 v ≠ s.f CAP_CFG.VEC [k])
  let s1 := if locked then (if change then s.hifErr HIF_ERR.CFG_REJ (some (capG k)) else s)
    else (s.setF CAP_CFG.SIZE [k] size).setF CAP_CFG.VEC [k] (fget 8 8 v)
  if bit 31 v then
    if c.busy then (s1.setF CAP_CFG.EN [k] 1).setCap k { s1.capR k with enPend := true }
    else if en then s1
    else s1.capEnable k
  else if c.busy then (s1.setF CAP_CFG.EN [k] 0).setCap k { s1.capR k with enPend := false }
  else if en then (s1.setF CAP_CFG.EN [k] 0).setCap k { s1.capR k with active := false, busy := true }
  else s1

/-- Meaning of CAPTURE_ENABLE (R268). -/
def execCaptureEnable (k : Fin 4) (v : Word) (t : Nat) (s : State) : Host.Outcome State Fault Refusal :=
  .next (s.hostWr .CAP_CFG [k] (fun s => doCapCfg k v (s.passTo t)))

/-- Meaning of CAPTURE_DISABLE (R274). -/
def execCaptureDisable (k : Fin 4) (v : Word) (s : State) : Host.Outcome State Fault Refusal :=
  .next (s.hostWr .CAP_CFG [k] (doCapCfg k v))

/-- A capture ring's stop is complete once its FIFO is empty (R274); a deferred enable is then tested. -/
def State.capStopDone (s : State) (k : Nat) : State :=
  let c := s.capR k
  if c.busy && c.fifo.isEmpty && c.gapP.isNone then
    let s1 := s.setCap k { c with busy := false, enPend := false }
    if c.enPend then s1.capEnable k else s1
  else s

/-- Moderation of a capture ring's messages (R256, R271). -/
def State.capSignal (s : State) (k : Nat) : State :=
  let c := s.capR k
  if (decide (s.f RING_COAL.COAL_CNT [capG k] ≤ c.u) || c.coalP) && decide (0 < c.u) && decide (c.pi ≠ c.ci) then
    (s.setCap k { c with u := 0, coalP := false }).msi (s.f CAP_CFG.VEC [k])
  else s

/-- Writes one record at index PI (R261, R271). -/
def State.capPut (s : State) (k : Nat) (r : CapRec) : State :=
  let c := s.capR k
  let a := s.ringBase (capG k) + c.pi % s.capLen k * 32
  let d0 := r.ty + r.cl * 2 ^ 8 + r.item * 2 ^ 16
  let lap := (c.pi / s.capLen k + 1) % 65536
  let s1 := s.hput a (wordBytes (padW 7 (wd d0 :: r.time :: r.pl)) ++ leBytes 4 lap)
  (s1.setCap k { c with pi := c.pi + 1, u := c.u + 1 }).capSignal k

/-- A GAP record (R263) with its RESUME. -/
def CapRing.gap (c : CapRing) (resume : Nat) (t : Word) : CapRec :=
  ⟨0x21, 255, 0, t, [wd c.lost, wd (c.lost / 2 ^ 32), wd resume, wd (resume / 2 ^ 32), wd (min c.lap 0xFFFFFFFF)], 0⟩

/-- The ring is full (R272). -/
def State.capFull (s : State) (k : Nat) : Bool := decide ((s.capR k).pi - max (s.capR k).ci (s.capR k).oldest = s.capLen k)

/-- A full ring gives up its oldest sixteenth (R272). -/
def State.capGive (s : State) (k : Nat) : State :=
  let c := s.capR k
  let give := s.capLen k / 16
  (s.setCap k { c with oldest := max c.ci c.oldest + give, lost := c.lost + give, lap := min 0xFFFFFFFF (c.lap + 1) }).raise
    CAP_STATUS.OVERRUN [k]

/-- Writes a record, made from the ring as it stands then; a full ring first gives up records and tells so in a GAP (R272). -/
def State.capWrite1 (s : State) (k : Nat) (mk : CapRing → CapRec) : State :=
  if s.capFull k then
    let s1 := s.capGive k
    let s2 := s1.capPut k ((s1.capR k).gap (s1.capR k).oldest s1.tag)
    s2.capPut k (mk (s2.capR k))
  else s.capPut k (mk (s.capR k))

/-- The GAP of a loss in the FIFO (R273): its RESUME is its own index. -/
def lossGap (t : Word) (c : CapRing) : CapRec := c.gap c.pi t

/-- Writes a record; after a loss in the FIFO its GAP goes first (R273). -/
def State.capWrite (k : Nat) (s : State) (r : CapRec) : State :=
  match (s.capR k).gapP with
  | some t => ((s.setCap k { s.capR k with gapP := none }).capWrite1 k (lossGap t)).capWrite1 k fun _ => r
  | none => s.capWrite1 k fun _ => r

/-- The order of records in a frame (R264). -/
def CapRec.key (r : CapRec) : Nat :=
  if r.ty = 0x20 then 0
  else if 0x10 ≤ r.ty ∧ r.ty ≤ 0x12 then 2 ^ 60 + r.ty * 2 ^ 40 + ((r.pl.headD 0).toNat)
  else if r.ty = 0x22 then 3 * 2 ^ 60 + r.cl
  else 2 * 2 ^ 60 + r.cl * 2 ^ 30 + r.item * 2 ^ 10 + r.ty

/-- Puts a record behind those that do not come after it. -/
def capInsert (r : CapRec) : List CapRec → List CapRec
  | [] => [r]
  | x :: t => if r.key < x.key then r :: x :: t else x :: capInsert r t

/-- The earliest frame with staged records. -/
def CapRing.firstFrame (c : CapRing) : Option Int :=
  c.fifo.foldl (fun a r => match a with
    | none => some r.frame
    | some f => some (min f r.frame)) none

/-- The staged records of a frame, in order (R264). -/
def CapRing.inFrame (c : CapRing) (f : Int) : List CapRec :=
  (c.fifo.filter fun r => r.frame == f).foldl (fun a r => capInsert r a) []

/-- The frame f may be written: it has ended, or the ring drains (R264, R274). -/
def State.capDue (s : State) (k : Nat) (f : Int) : Bool := decide (f < (s.clr.now / 1000 : Nat)) || !(s.capR k).active

/-- CAPTURE_WRITE (R264): the records of the earliest frame that has ended are written in order. -/
def doCaptureWrite (k t : Nat) (s : State) : State :=
  let s1 := s.passTo t
  let c := s1.capR k
  match c.firstFrame with
  | none => match c.gapP with
    | some g => (s1.setCap k { c with gapP := none }).capWrite1 k (lossGap g)
    | none => s1
  | some f =>
    if s1.capDue k f then
      (c.inFrame f).foldl (State.capWrite k) (s1.setCap k { c with fifo := c.fifo.filter fun r => r.frame != f })
    else s1

/-- Meaning of CAPTURE_WRITE (R264). -/
def execCaptureWrite (k : Fin 4) (t : Nat) (s : State) : Host.Outcome State Fault Refusal := .next (doCaptureWrite k t s)

/-- The ring after the record that is due has left the FIFO, `none` when none is due: the GAP of a loss first (R273). -/
def State.capTake (s : State) (k : Nat) : Option CapRing :=
  let c := s.capR k
  match c.firstFrame with
  | none => if c.gapP.isSome then some { c with gapP := none } else none
  | some f =>
    if !s.capDue k f then none
    else if c.gapP.isSome then some { c with gapP := none }
    else (c.inFrame f).head?.map fun r => { c with fifo := c.fifo.erase r }

/-- The write of the record that is due fails (R259, R272, R274): it counts as written and the ring stops; in a full ring the
record that is due is the GAP of the discard. -/
def State.capFail (s : State) (k : Nat) : State :=
  match s.capTake k with
  | none => s
  | some c =>
    let s1 := if s.capFull k then s.capGive k else s.setCap k c
    let c1 := s1.capR k
    ((s1.setCap k { c1 with pi := c1.pi + 1, u := c1.u + 1, active := false, busy := true }).capSignal k).capErr k
      CAP_STATUS.DMA_ERR HIF_ERR.DMA_WR

/-- A doorbell refused because its ring is not ACTIVE (R235, R270). -/
def State.capRefuse (s : State) (k : Nat) : State := s.capErr k CAP_STATUS.DB_ERR HIF_ERR.DB_ERR

/-- CI from CIBLK (R270): the multiple of the block size between PI − 2^SIZE and PI that agrees with it modulo 2^31. -/
def State.capCi (s : State) (k : Nat) (v : Word) : Option Nat :=
  let b := if s.f CAP_CFG.SIZE [k] = 37 then 128 else 64
  let x := (s.capR k).pi / b
  let d := (x + 2 ^ 31 - fget 0 31 v % 2 ^ 31) % 2 ^ 31
  if x < d then none
  else if (s.capR k).pi ≤ (x - d) * b + s.capLen k then some ((x - d) * b) else none

/-- CAPTURE_DOORBELL (R270). -/
def doCaptureDoorbell (k : Nat) (v : Word) (t : Nat) (s : State) : State :=
  let s1 := s.passTo t
  let c := s1.capR k
  if !c.active then s1.capRefuse k
  else
    let ci := match s1.capCi k v with
      | some n => max n c.oldest
      | none => c.ci
    let u := c.pi - ci
    let s2 := s1.setCap k { c with ci := ci, u := u, coalP := c.coalP && decide (u ≠ 0), trig := if bit 31 v then c.trig + 1 else c.trig }
    let s3 := if bit 31 v then s2.offerTo ⟨0x12, 255, 0, s2.tag, [wd ((c.trig + 1) % 65536)], s2.clr.now / 1000⟩ k else s2
    s3.capSignal k

/-- Meaning of CAPTURE_DOORBELL (R270). -/
def execCaptureDoorbell (k : Fin 4) (v : Word) (t : Nat) (s : State) : Host.Outcome State Fault Refusal :=
  .next (doCaptureDoorbell k v t s)

/-- The SUPPRESSED records of a ring at the end of its window (R263, R266). -/
def CapRing.suppressed (c : CapRing) (tag : Word) (frame : Int) : List CapRec :=
  let n := fun key => min 65535 (sget 0 c.supp key)
  let cls := (List.range 144).filter fun x => decide (0 < n (4 * x) + n (4 * x + 1) + n (4 * x + 2))
  cls.map (fun x => (⟨0x22, x, 0, tag, [wd (n (4 * x) + n (4 * x + 1) * 2 ^ 16), wd (n (4 * x + 2)), wd c.winT], frame⟩ : CapRec))
    ++ (if n 1023 = 0 then [] else [(⟨0x22, 255, 0, tag, [0, wd (n 1023 * 2 ^ 16), wd c.winT], frame⟩ : CapRec)])

/-- A ring's quota window ends (R266): its last frame is the one that ends at `now`. -/
def State.windowEnd (s : State) (k : Nat) : State :=
  let c := s.capR k
  if !c.active then s
  else
    let l := c.suppressed s.tag ((s.clr.now / 1000 : Nat) - 1)
    s.setCap k (l.foldl (fun c r => c.stage r s.tag) { c with
      taken := c.takenN, supp := c.suppN, takenN := [], suppN := [], winT := s.clr.now })

/-- QUOTA_WINDOW_END (R266): a whole millisecond of network time. -/
def doQuotaWindowEnd (t : Nat) (s : State) : State :=
  let s1 := s.passTo t
  if t % 1000000 ≠ 0 then s1 else (List.range 4).foldl State.windowEnd s1

/-- Meaning of QUOTA_WINDOW_END (R266). -/
def execQuotaWindowEnd (t : Nat) (s : State) : Host.Outcome State Fault Refusal := .next (doQuotaWindowEnd t s)

/-- CAP_INDEX_LATCH (R276): a read of CAP_PI_LO or CAP_OLDEST_LO latches the high word. -/
def doCapIndexLatch (k : Nat) (oldest : Bool) (s : State) : State :=
  let c := s.capR k
  if oldest then { s.setCap k { c with latOld := c.oldest / 2 ^ 32 } with rdata := wd c.oldest }
  else { s.setCap k { c with latPi := c.pi / 2 ^ 32 } with rdata := wd c.pi }

/-- Meaning of CAP_INDEX_LATCH (R276). -/
def execCapIndexLatch (k : Fin 4) (oldest : Bool) (s : State) : Host.Outcome State Fault Refusal :=
  .next (s.hostWr (if oldest then .CAP_OLDEST_LO else .CAP_PI_LO) [k] (doCapIndexLatch k oldest))

/-- PCIE_LINK_RETRAIN (R225, R269): a rate and a width to which the link trains. -/
def doPcieLinkRetrain (rate width : Nat) (s : State) : State :=
  if thisEndpoint.trains rate width then
    { s with sys := { s.sys with linkRate := rate, linkWidth := width }, pwr := { s.pwr with off := false } }
  else s

/-- Meaning of PCIE_LINK_RETRAIN (R269). -/
def execPcieLinkRetrain (rate : Fin 33) (width : Fin 9) (s : State) : Host.Outcome State Fault Refusal :=
  .next (doPcieLinkRetrain rate width s)

end Sys2Proof.Machine
end

