-- ==== Sys2Proof/Machine/Rings.lean ====
section
/-! DEFINITION. The host interface (R226 to R259): doorbells, ring enables and stops, command intake, completions,
moderation timers, the SPH rings and failed transfers. -/
namespace Sys2Proof.Machine

/-! ### Doorbells (R235, R238) -/

/-- Command and SPH rings are produced by the host (R230). -/
def hostProduced (g : Nat) : Bool := decide (g < 64) || decide (148 ≤ g)

/-- A doorbell value is accepted (R235). -/
def State.dbOk (s : State) (g v : Nat) : Bool :=
  let r := s.ring g
  if hostProduced g then decide (idxSub v r.pi ≤ s.ringLen g) && decide (idxSub v r.ci ≤ s.ringLen g)
  else decide (idxSub v r.ci ≤ idxSub r.pi r.ci)

/-- The doorbell of ring g takes the value v (R235); those of the capture rings have a command of their own (R270). -/
def State.ringDoorbell (s : State) (g : Nat) (v : Word) : State :=
  let r := s.ring g
  if 144 ≤ g ∧ g < 148 then s
  else if !r.active || !(s.dbOk g v.toNat) then s.ringErr g RING_STATUS.DB_ERR HIF_ERR.DB_ERR
  else if hostProduced g then
    let s2 := s.setRing g { r with pi := v.toNat }
    if g < 64 then s2.icEdge 400 else s2
  else
    let u := idxSub r.pi v.toNat
    (s.setRing g { r with ci := v.toNat, u := u, coalP := r.coalP && decide (u ≠ 0) }).overflow g |>.signal g

/-- The ring whose doorbell lies at a BAR2 offset (R230): offset 0 of pages 0 to 179. -/
def bar2Ring (ofs : Nat) : Option Nat := if ofs % 0x1000 = 0 ∧ ofs / 0x1000 < 180 then some (ofs / 0x1000) else none

/-- DOORBELL (R228, R230, R235): a write of BAR2 at an offset, `full` when it is 32 bits wide. Every other write of BAR2 is
ignored. The host's stores made before it are visible (R238). -/
def doDoorbell (ofs : Nat) (full : Bool) (v : Word) (stores : List HostStore) (s : State) : State :=
  let s1 := stores.foldl (fun s x => s.hput x.addr x.bytes) s
  match bar2Ring ofs with
  | some g => if full then s1.ringDoorbell g v else s1
  | none => s1

/-- Meaning of DOORBELL (R235). -/
def execDoorbell (w : Bar2Write) (v : Word) (stores : List HostStore) (s : State) : Host.Outcome State Fault Refusal :=
  .next (doDoorbell w.ofs w.full v stores s)

/-! ### Enable and stop (R236) -/

/-- A ring becomes ACTIVE with zero indices (R236). -/
def State.ringStart (s : State) (g : Nat) : State :=
  (s.setRing g { Ring.reset with active := true, lostNew := (s.ring g).lostNew }).setF RING_CFG.EN [g] 1

/-- A command ring that names completion ring k and is enabled or stopping. -/
def State.named (s : State) (k : Nat) : Bool :=
  (List.range 64).any fun g => decide (s.f RING_CFG.ASSOC [g] = k) && (s.fb RING_CFG.EN [g] || (s.ring g).busy)

/-- The stop of a ring waits for something (R236). -/
def State.stopWaits (s : State) (g : Nat) : Bool :=
  if g < 64 then s.hif.compq.any fun c => c.ring == g
  else if 148 ≤ g ∧ g < 164 then
    (s.hif.sphDone.any fun d => d.k == g - 148) || s.sgf.frames.any fun f => f.host.map Prod.fst == some (g - 148)
  else false

/-- A ring stops (R236): what it has not taken is discarded; command and SPH rings read BUSY until the stop is complete. -/
def State.ringStop (s : State) (g : Nat) : State :=
  let r := s.ring g
  s.setRing g { r with active := false, busy := hostProduced g, run := [], runEnd := false, runRej := 0 }

/-- A write of EN = 0 that R236 refuses: of a completion ring that a command ring names. -/
def State.stopRefused (s : State) (g : Nat) (v : Word) : Bool :=
  !bit 31 v && s.fb RING_CFG.EN [g] && !(s.ring g).busy && decide (64 ≤ g) && decide (g < 128) && s.named (g - 64)

/-- A write of RING_CFG (R236, R237). -/
def doRingCfg (g : Nat) (v : Word) (s : State) : State :=
  let r := s.ring g
  let en := s.fb RING_CFG.EN [g]
  if s.stopRefused g v then s.hifErr HIF_ERR.CFG_REJ (some g) else
  let size := clampN 6 16 (fget 0 5 v)
  let locked := en || r.busy
  let change := decide (size ≠ s.f RING_CFG.SIZE [g]) || decide (fget 16 6 v ≠ s.f RING_CFG.ASSOC [g])
  let s1 := if locked then (if change then s.hifErr HIF_ERR.CFG_REJ (some g) else s)
    else (s.setF RING_CFG.SIZE [g] size).setF RING_CFG.ASSOC [g] (fget 16 6 v)
  let s2 := (s1.setF RING_CFG.PRIO [g] (fget 28 2 v)).setF RING_CFG.VEC [g] (fget 8 8 v)
  if bit 31 v then
    if r.busy then (s2.setF RING_CFG.EN [g] 1).setRing g { s2.ring g with enPend := true }
    else if en then s2
    else s2.ringStart g
  else if r.busy then (s2.setF RING_CFG.EN [g] 0).setRing g { s2.ring g with enPend := false }
  else if !en then s2
  else (s2.setF RING_CFG.EN [g] 0).ringStop g

/-- Configuration of a ring of any kind; the capture sets have rows of their own (R274). -/
def doRingCtrl (g : Nat) (v : Word) (s : State) : State := if 144 ≤ g ∧ g < 148 then s else doRingCfg g v s

/-- Meaning of RING_ENABLE (R236). -/
def execRingEnable (g : Fin 180) (v : Word) (s : State) : Host.Outcome State Fault Refusal :=
  .next (s.hostWr .RING_CFG [g] (doRingCtrl g v))

/-- Meaning of RING_DISABLE (R236). -/
def execRingDisable (g : Fin 180) (v : Word) (s : State) : Host.Outcome State Fault Refusal :=
  .next (s.hostWr .RING_CFG [g] (doRingCtrl g v))

/-- RING_STOP_DONE (R236, R274). -/
def doRingStopDone (g : Nat) (s : State) : State :=
  if 144 ≤ g ∧ g < 148 then s.capStopDone (g - 144)
  else
    let r := s.ring g
    if r.busy && !(s.stopWaits g) then
      let s1 := s.setRing g { r with busy := false, enPend := false }
      if r.enPend then s1.ringStart g else s1
    else s

/-- Meaning of RING_STOP_DONE (R236). -/
def execRingStopDone (g : Fin 180) (s : State) : Host.Outcome State Fault Refusal := .next (doRingStopDone g s)

/-- Sends the message of a ring whose moderation changed (R256); command rings do not signal. -/
def State.signalAny (s : State) (g : Nat) : State :=
  if g < 64 then s else if 144 ≤ g ∧ g < 148 then s.capSignal (g - 144) else s.signal g

/-- COALESCE_TIMER (R256): COAL_US has passed since the first unsignalled entry of ring g. -/
def doCoalesceTimer (g : Nat) (s : State) : State :=
  if s.f RING_COAL.COAL_US [g] = 0 then s
  else if 144 ≤ g ∧ g < 148 then
    let c := s.capR (g - 144)
    if c.u = 0 then s else (s.setCap (g - 144) { c with coalP := true }).capSignal (g - 144)
  else if g < 64 then s
  else
    let r := s.ring g
    if r.u = 0 then s else (s.setRing g { r with coalP := true }).signal g

/-- Meaning of COALESCE_TIMER (R256). -/
def execCoalesceTimer (g : Fin 180) (s : State) : Host.Outcome State Fault Refusal := .next (doCoalesceTimer g s)

/-! ### Descriptors (R244 to R247) -/

/-- Reads the descriptor of index i of command ring g (R246, R247). -/
def State.desc (s : State) (g i : Nat) : Desc :=
  let a := s.entryAt g i 64
  let d := fun k => s.hnum (a + 4 * k) 4
  let q := fun k => s.hnum (a + 4 * k) 8
  let b := fun x lo n => x / 2 ^ lo % 2 ^ n
  let op := d 0 % 256
  let m := isMgmt op
  let fab := s.inFabric
  let resPath := decide (b (d 0) 11 1 ≠ 0) || decide (b (d 0) 15 1 ≠ 0) || decide (b (d 0) 22 10 ≠ 0)
    || decide (b (d 2) 9 7 ≠ 0) || decide (b (d 2) 25 7 ≠ 0)
    || (if fab then decide (b (d 3) 10 6 ≠ 0) || decide (b (d 3) 22 10 ≠ 0) else decide (b (d 3) 10 22 ≠ 0))
    || decide (b (d 10) 10 22 ≠ 0) || decide (d 11 ≠ 0) || decide (d 12 ≠ 0) || decide (d 13 ≠ 0) || decide (d 14 ≠ 0) || decide (d 15 ≠ 0)
  let resMgmt := decide (b (d 0) 8 24 ≠ 0) || decide (b (d 4) 21 11 ≠ 0) || decide (b (d 6) 1 31 ≠ 0)
    || (List.range 9).any fun k => decide (d (7 + k) ≠ 0)
  { op := op, link := decide (b (d 0) 8 1 = 1)
    req := { op := op, reqId := wd (d 1), a := d 2 % 512, b := b (d 2) 16 9, layer := b (d 0) 16 6, sel := decide (b (d 0) 14 1 = 1)
             cmdCI := idxInc i, id := 0, dst := if fab then b (d 3) 16 6 else 0 }
    asap := decide (b (d 0) 9 1 = 1), rasap := decide (b (d 0) 10 1 = 1), policy := b (d 0) 12 2, act := q 4, rearr := q 6
    maxMoved := d 3 % 1024, movedAddr := q 8, movedCap := d 10 % 1024
    buf := q 2, len := d 4 % 2 ^ 21, ofs := d 5, switch := decide (d 6 % 2 = 1)
    bad := if m then resMgmt else decide (4 < op) || resPath
    badFirst := decide (b (d 0) 12 2 = 3) || decide (512 < d 3 % 1024) || decide (512 < d 10 % 1024) || decide (q 8 % 8 ≠ 0) }

/-- A descriptor outside a run is malformed (R244). -/
def Desc.badAlone (d : Desc) : Bool :=
  d.bad || (d.link && (isMgmt d.op || decide (d.op = 0))) || (d.badFirst && decide (1 ≤ d.op) && decide (d.op ≤ 3))

/-- FENCE and management descriptors end a run in which they lie (R240). -/
def Desc.breaks (d : Desc) : Bool := isMgmt d.op || decide (d.op = 0)

/-- A descriptor that begins a linked run (R157, R240). -/
def Desc.opens (d : Desc) : Bool := d.link && decide (d.op ≠ 4) && !d.breaks

/-- The run read so far on ring g is rejected (R240, R244): its requests take status st. -/
def State.rejects (s : State) (g : Nat) (r : Ring) (st : Nat) : State :=
  ({ s with hif := { s.hif with nextId := s.hif.nextId + 1 } }).setRing g { r with runRej := st, runTx := s.hif.nextId }

/-- The status of a run that is rejected: BAD_DESCRIPTOR when a request of it is malformed (R244). -/
def stBadDesc : Nat := 16

/-- Reads one more descriptor of a linked run (R233, R240): CI passes it. Nothing is read at a QUERY inside the run, which a turn
delivers on its own, past the end of the run, or past a 65th request, which rejects it. -/
def State.readStep (s : State) (g : Nat) : Option State :=
  let r := s.ring g
  if !r.active || r.runEnd || decide (r.runRej ≠ 0) || decide (r.pi = r.ci) then none
  else
    let d := s.desc g r.ci
    let on := { r with ci := idxInc r.ci, run := r.run ++ [d] }
    if r.run.isEmpty then
      if d.opens then some (s.setRing g { on with run := [{ d with bad := d.bad || d.badFirst }] }) else none
    else if d.op = 4 then none
    else if d.breaks then some (s.rejects g { on with run := r.run ++ [{ d with bad := true }], runEnd := true } stBadDesc)
    else if 64 ≤ r.run.length then some (s.rejects g r (if r.run.any Desc.bad then stBadDesc else stPort))
    else if d.link then some (s.setRing g on)
    else if on.run.any Desc.bad then some (s.rejects g { on with runEnd := true } stBadDesc)
    else some (s.setRing g { on with runEnd := true })

/-- Reads on in the linked run of ring g, at most n descriptors. -/
def State.readAhead (g : Nat) : Nat → State → State
  | 0, s => s
  | n + 1, s =>
    match s.readStep g with
    | some t => State.readAhead g n t
    | none => s

/-! ### Intake (R239 to R241) -/

/-- Intake runs (R239, R356). -/
def State.intakeOn (s : State) : Bool :=
  s.ready && s.fb HIF_CTRL.INTAKE_EN [] && (!s.inPair || decide (s.pair.role = 2) || (decide (s.pair.role = 1) && s.pair.intake))

/-- Completion ring of a command ring, as a global number. -/
def State.compG (s : State) (g : Nat) : Nat := 64 + s.f RING_CFG.ASSOC [g]

/-- Free entries of the completion ring of a command ring, less those reserved (R241); none while it is not ACTIVE. -/
def State.freeComp (s : State) (g : Nat) : Nat :=
  let r := s.ring (s.compG g)
  if r.active then s.ringLen (s.compG g) - idxSub r.pi r.ci - r.resv else 0

/-- Path transactions placed and not resolved (R241, PTH_STATUS.N_PEND): roll-backs are none of the host's. -/
def State.nPend (s : State) : Nat := (s.pth.placed.filter fun p => !p.rb).length

/-- What a ring would give at a turn of intake: 0 nothing, 1 requests of a rejected run, 2 a QUERY inside a run, 3 a run read
whole, 4 a descriptor on its own (R240, R241). -/
def State.deliverable (s : State) (g : Nat) : Nat :=
  let r := s.ring g
  if !r.active || decide (s.freeComp g = 0) then 0
  else if r.runRej ≠ 0 then b2n (!r.run.isEmpty || decide (r.pi ≠ r.ci))
  else if r.runEnd then (if r.run.length ≤ s.freeComp g ∧ s.nPend < 7 then 3 else 0)
  else if r.pi = r.ci then 0
  else
    let d := s.desc g r.ci
    if !r.run.isEmpty then (if d.op = 4 then 2 else 0)
    else if d.opens then 0
    else if d.badAlone || d.breaks || decide (d.op = 4) || decide (s.nPend < 7) then 4
    else 0

/-- Reserves the completion entry of a request and gives the request its number (R241, R242). -/
def State.slot (s : State) (g : Nat) (d : Desc) (txn : Nat) (ordered fence : Bool) : State × Req :=
  let h := s.hif
  let c := s.compG g
  let r := s.ring c
  let q : CompSlot := ⟨g, h.nextId, txn, d.req.reqId, ordered, fence, none⟩
  (({ s with hif := { h with compq := h.compq ++ [q], nextId := h.nextId + 1 } }).setRing c { r with resv := r.resv + 1 },
    { d.req with id := h.nextId })

/-- CONNECT, RELEASE, MOVE and FENCE complete in descriptor order (R242). -/
def Desc.ordered (d : Desc) : Bool := decide (d.op ≠ 4) && !isMgmt d.op

/-- The entries of the requests of one transaction. -/
def State.slots (s : State) (g : Nat) (l : List Desc) : State × List Req :=
  l.foldl (fun acc d =>
    let x := acc.1.slot g d s.hif.nextId d.ordered (decide (d.op = 0))
    (x.1, acc.2 ++ [x.2])) (s, [])

/-- A transaction from its first descriptor and its requests. -/
def State.mkTxn (s : State) (g : Nat) (d : Desc) (reqs : List Req) : Txn :=
  { ring := g, cring := s.f RING_CFG.ASSOC [g], reqs := reqs, asap := d.asap, rasap := d.rasap, policy := d.policy
    actT := d.act, rearrT := d.rearr, maxMoved := d.maxMoved, movedAddr := d.movedAddr, movedCap := d.movedCap
    buf := d.buf, len := d.len, ofs := d.ofs, switch := d.switch, t := s.clr.now }

/-- Delivers descriptors as one transaction (R239). -/
def State.deliver (s : State) (g : Nat) (l : List Desc) : State :=
  match l with
  | [] => s
  | d :: _ =>
    let x := s.slots g l
    { x.1 with pth := { x.1.pth with delivered := x.1.pth.delivered ++ [s.mkTxn g d x.2] } }

/-- DESC_ERR of a malformed descriptor (R244, R259). -/
def State.descErr (s : State) (g : Nat) : State := s.ringErr g RING_STATUS.DESC_ERR HIF_ERR.DESC_ERR

/-- RESULT0 and RESULT1 of a descriptor that is completed as it is read (R249). -/
def State.readResults (s : State) (r : Req) : Word × Word :=
  if r.op = 2 then (wd (r.a + s.shownOut r.layer r.a * 2 ^ 16), 0)
  else if r.op = 1 ∨ r.op = 3 then (wd (r.a + r.b * 2 ^ 16), 0)
  else if r.op = 0x12 then (0, wd s.prl.logOfs)
  else (0, 0)

/-- Completes the descriptor whose entry is reserved with a status (R240, R244, R247). -/
def State.rejectSlot (o : State) (g : Nat) (d : Desc) (s : State) (r : Req) (status : Nat) (last : Bool) : State :=
  let w := o.readResults r
  s.fillComp r.id { mgmtComp (o.mkTxn g d [r]) r status w.1 w.2 with txnEnd := last }

/-- Completes a descriptor on its own with a status as it is read (R244, R247). -/
def State.rejectDesc (s : State) (g : Nat) (d : Desc) (status : Nat) : State :=
  let x := s.slot g d s.hif.nextId d.ordered (decide (d.op = 0))
  s.rejectSlot g d x.1 x.2 status true

/-- Completes a request of a rejected run (R240): its completion keeps the descriptor order, a malformed one sets DESC_ERR. -/
def State.rejectReq (s : State) (g txn : Nat) (d : Desc) (status : Nat) (last : Bool) : State :=
  let x := s.slot g d txn true false
  let s1 := s.rejectSlot g d x.1 x.2 (if d.breaks then stBadDesc else status) (last || d.breaks)
  if d.bad then s1.descErr g else s1

/-- CI moves past a descriptor. -/
def State.ciOn (s : State) (g : Nat) : State := s.setRing g { s.ring g with ci := idxInc (s.ring g).ci }

/-- A QUERY is delivered on its own, or completed when it is malformed (R240, R244). -/
def State.single (s : State) (g : Nat) (d : Desc) : State :=
  if d.bad then (s.rejectDesc g d stBadDesc).descErr g else s.deliver g [d]

/-- The rejected run of ring g is over. -/
def State.runOver (s : State) (g : Nat) : State :=
  s.setRing g { s.ring g with run := [], runEnd := false, runRej := 0 }

/-- The next request of a rejected run (R240): of those read before the rejection, or the one at CI. A QUERY is delivered on
its own; a FENCE or management descriptor is malformed and ends the run. -/
def State.rejectNext (s : State) (g : Nat) : State :=
  let r := s.ring g
  match r.run with
  | d :: rest =>
    let last := (rest.isEmpty && r.runEnd) || (rest.head?.any Desc.breaks)
    let s1 := State.rejectReq (s.setRing g { r with run := rest }) g r.runTx d r.runRej last
    if rest.isEmpty && r.runEnd then s1.runOver g else s1
  | [] =>
    let d := s.desc g r.ci
    let nxt := s.desc g (idxInc r.ci)
    if d.op = 4 then (s.ciOn g).single g d
    else
      let last := !d.link || (decide (r.pi ≠ idxInc r.ci) && nxt.breaks)
      let s1 := (s.ciOn g).rejectReq g r.runTx { d with bad := d.bad || d.breaks } r.runRej last
      if d.breaks || !d.link then s1.runOver g else s1

/-- Consumes what can be consumed of a rejected run: at most n requests, each with a free completion entry (R240). -/
def State.rejectRun (g : Nat) : Nat → State → State
  | 0, s => s
  | n + 1, s =>
    let r := s.ring g
    if r.runRej = 0 ∨ (r.run = [] ∧ r.pi = r.ci) ∨ s.freeComp g = 0 then s else State.rejectRun g n (s.rejectNext g)

/-- FW_LOAD and FW_COMMIT, of which one runs at a time (R247). -/
def isFw (op : Nat) : Bool := decide (op = 0x10) || decide (op = 0x11)

/-- An FW_LOAD or FW_COMMIT of any ring runs (R247). -/
def State.fwRuns (s : State) : Bool := s.pth.delivered.any fun x => x.reqs.any fun r => isFw r.op

/-- A descriptor on its own is delivered, or completed when it is malformed or BUSY (R239, R244, R247). -/
def State.alone (s : State) (g : Nat) (d : Desc) : State :=
  if d.badAlone then (s.rejectDesc g d stBadDesc).descErr g
  else if isFw d.op && s.fwRuns then s.rejectDesc g d 18
  else if isMgmt d.op then (s.deliver g [d]).icEdge 401
  else s.deliver g [d]

/-- Serves a ring (R239, R240). -/
def State.serve (s : State) (g : Nat) : State :=
  let r := s.ring g
  match s.deliverable g with
  | 1 => State.rejectRun g 65536 s
  | 2 => (s.ciOn g).single g (s.desc g r.ci)
  | 3 => (s.deliver g r.run).runOver g
  | 4 => (s.ciOn g).alone g (s.desc g r.ci)
  | _ => s

/-- The ring that a turn serves (R239): the highest PRIO, round-robin within it. -/
def State.turnRing (s : State) : Option Nat :=
  let l := (List.range 64).filter fun g => decide (s.deliverable g ≠ 0)
  let top := l.foldl (fun a g => max a (s.f RING_CFG.PRIO [g])) 0
  let c := l.filter fun g => s.f RING_CFG.PRIO [g] == top
  match c.find? (fun g => decide (sget 63 s.hif.rr top < g)) with
  | some g => some g
  | none => c.head?

/-- Every command ring reads on in its linked run (R233, R240): at most its 64 requests, its end and one more. -/
def State.readAll (s : State) : State := (List.range 64).foldl (fun s g => State.readAhead g 66 s) s

/-- INTAKE_TURN (R239): the rings read on, and one of them is served. -/
def doIntakeTurn (s0 : State) : State :=
  if !s0.intakeOn then s0
  else
    let s := s0.readAll
    match s.turnRing with
    | none => s
    | some g =>
      let s1 := s.serve g
      { s1 with hif := { s1.hif with rr := sset s1.hif.rr (s.f RING_CFG.PRIO [g]) g } }

/-- Meaning of INTAKE_TURN (R239). -/
def execIntakeTurn (s : State) : Host.Outcome State Fault Refusal := .next (doIntakeTurn s)

/-! ### Completions (R242, R243, R248) -/

/-- The words of a completion entry before dword 7 (R248). -/
def Comp.words (c : Comp) : List Word :=
  [c.reqId, c.validT,
   wd (c.op + c.status * 2 ^ 8 + b2n c.rearr * 2 ^ 16 + b2n c.repaired * 2 ^ 17 + b2n c.eqRaised * 2 ^ 18 + b2n c.trunc * 2 ^ 19
     + b2n c.unobs * 2 ^ 20 + b2n c.txnEnd * 2 ^ 24),
   wd (c.pattern + c.nMoved * 2 ^ 16), wd c.cmdCI, c.r0, c.r1]

/-- Whether a filled slot may be written now: the order of its ring (R242); `before` are the slots ahead of it. -/
def slotReady (before : List CompSlot) (x : CompSlot) : Bool :=
  x.comp.isSome && !(before.any fun y => y.ring == x.ring && (x.fence || (x.ordered && y.ordered)))

/-- The first slot that may be written. -/
def firstReady : List CompSlot → List CompSlot → Option CompSlot
  | _, [] => none
  | b, x :: t => if slotReady b x then some x else firstReady (b ++ [x]) t

/-- The slot written next: the rest of a transaction whose first completions are written goes ahead (R242). -/
def State.nextComp (s : State) : Option CompSlot :=
  match s.hif.compNext with
  | some id => match s.hif.compq.find? (fun x => x.id == id && x.comp.isSome) with
    | some x => some x
    | none => firstReady [] s.hif.compq
  | none => firstReady [] s.hif.compq

/-- A slot leaves the queue with its reserved entry; after a completion without TXN_END the next one follows it. -/
def State.dropSlot (s : State) (x : CompSlot) (c : Comp) : State :=
  let g := 64 + c.cring
  let s1 := s.setRing g { s.ring g with resv := (s.ring g).resv - 1 }
  let rest := s1.hif.compq.filter fun y => y.id != x.id
  let nxt := if c.txnEnd then none else (rest.find? fun y => y.txn == x.txn).map CompSlot.id
  { s1 with hif := { s1.hif with compq := rest, compNext := nxt } }

/-- The bytes of a moved list (R251). -/
def movedBytes (c : Comp) : List Byte := (c.moved.take c.movedCap).flatMap fun a => leBytes 2 a

/-- Writes one completion (R243): the moved list, then the entry. -/
def State.putComp (s : State) (x : CompSlot) (c : Comp) : State :=
  let g := 64 + c.cring
  let s1 := s.dropSlot x c
  if !(s1.ring g).active then s1
  else
    let s2 := if (movedBytes c).isEmpty then s1 else s1.hput c.movedAddr (movedBytes c)
    s2.writeEntry g c.words x.ring

/-- COMPLETION_WRITE (R243). -/
def doCompletionWrite (s : State) : State :=
  if s.prl.lsHalt then s else
  match s.nextComp with
  | some x => match x.comp with
    | some c => s.putComp x c
    | none => s
  | none => s

/-- Meaning of COMPLETION_WRITE (R243). -/
def execCompletionWrite (s : State) : Host.Outcome State Fault Refusal := .next (doCompletionWrite s)

/-! ### SPH rings (R257, R258) -/

/-- The write-back of descriptor i of an SPH ring is complete: CI passes every descriptor below it that is written back
(R233). -/
def State.wroteBack (s : State) (g i : Nat) : State :=
  let r := s.ring g
  let w := r.wb ++ [i]
  let ci := (List.range w.length).foldl (fun c _ => if w.contains c then idxInc c else c) r.ci
  (s.setRing g { r with ci := ci, wb := w.filter fun j => decide (idxSub j ci < 2 ^ 31) }).counted g

/-- Writes the last sixteen bytes of an SPH descriptor, dword 7 last. -/
def State.writeBack (s : State) (g i : Nat) (l : List Word) : State :=
  (s.hput (s.entryAt g i 32 + 16) (wordBytes (padW 4 l))).wroteBack g i

/-- The next descriptor of an SPH ring to be taken. -/
def State.sphNext (s : State) (g : Nat) : Option Nat :=
  let r := s.ring g
  if r.active && decide (r.nxt ≠ r.pi) then some r.nxt else none

/-- A write-back of a transmit descriptor waits. -/
def State.txDone (s : State) (k i status : Nat) : State :=
  { s with hif := { s.hif with sphDone := s.hif.sphDone ++ [(⟨k, i, status, 0, 0⟩ : SphDone)] } }

/-- SPH_TX_FETCH (R257, R290): the next descriptor of transmit ring k with its frame. -/
def doSphTxFetch (k t : Nat) (s : State) : State :=
  let s1 := s.passTo t
  let g := 148 + k
  match s1.sphNext g with
  | none => s1
  | some i =>
    let a := s1.entryAt g i 32
    let w := s1.hnum (a + 8) 4
    let len := w % 2 ^ 14
    let s2 := s1.setRing g { s1.ring g with nxt := idxInc i }
    if s2.flt.safe then (s2.spCount 64 5).txDone k i 2
    else if len < 60 ∨ 9212 < len ∨ w / 2 ^ 14 % 4 ≠ 0 ∨ w / 2 ^ 20 ≠ 0 ∨ s1.hnum (a + 12) 4 ≠ 0 then s2.txDone k i 4
    else
      let b := s2.hget (s1.hnum a 8) len
      let l := b ++ fcs b
      let x := (s2.spCount 64 0).ingress 64 (w / 2 ^ 16 % 16) l true true false (some (k, i)) s2.tag
      let s3 := match x.id with
        | some id => x.st.polRest ((x.st.sgf.frame id).bind Frm.pol) l.length
        | none => x.st
      (s3.hostDrop (some (k, i)) x.id).sgfPrune

/-- Meaning of SPH_TX_FETCH (R257). -/
def execSphTxFetch (k : Fin 16) (t : Nat) (s : State) : Host.Outcome State Fault Refusal := .next (doSphTxFetch k t s)

/-- SPH_TX_WRITEBACK (R257): the oldest write-back that waits. -/
def doSphTxWriteback (s : State) : State :=
  match s.hif.sphDone with
  | [] => s
  | d :: rest =>
    let s1 := { s with hif := { s.hif with sphDone := rest } }
    let ok := decide (d.status = 1)
    s1.writeBack (148 + d.k) d.idx
      [if ok then d.ts else 0, wd (d.status + if ok then d.port * 2 ^ 16 else 0), 0, wd (2 ^ 31)]

/-- Meaning of SPH_TX_WRITEBACK (R257). -/
def execSphTxWriteback (s : State) : Host.Outcome State Fault Refusal := .next (doSphTxWriteback s)

/-- The copy of class k that the SPH output takes next (R299, R306). -/
def State.sphSelect (s : State) (k : Nat) : Option Cpy :=
  firstStag (s.sgf.copies.filter fun c => c.out == 64 && c.cls == k && c.ready)

/-- The words of a receive write-back (R258). -/
def rxWords (f : Frm) (k : Nat) : List Word :=
  [f.ts, wd (f.bytes.length + f.inp * 2 ^ 16 + k * 2 ^ 24 + b2n (!fcsOk f.bytes) * 2 ^ 28 + b2n f.mcast * 2 ^ 29), 0, wd (2 ^ 31)]

/-- A failed access to a buffer that ring g names (R259): the bit of HIF_ERR and a RING_ERROR event. -/
def State.bufErr (s : State) (g : Nat) (y : Fld) : State := (s.hifErr y (some g)).ringError g

/-- How the writes of a received frame end (R259): the buffer and the write-back are written, the buffer's write fails, or that
of the write-back. -/
inductive RxEnd where
  | ok | bufFail | entryFail
  deriving DecidableEq, Repr

/-- The words of the write-back of a receive descriptor whose buffer access failed (R259): the layout of R258 has no place for
DMA_FAULT, so that only DONE is known (log entry 191). -/
def State.rxFault (s : State) : List Word × State :=
  let f := s.takeFree
  ((List.range 3).map (fun k => Config.freeRx f.1 k) ++ [wd (2 ^ 31)], f.2)

/-- Copy c leaves the fabric into its receive ring. -/
def State.rxTaken (s : State) (c : Cpy) : State := (s.dropCpy fun x => x.fid == c.fid && x.out == 64).reap

/-- SPH_RX_WRITE (R258): a frame goes whole into the next posted buffer, with its write-back; a small buffer is returned
unused. A frame whose writes fail is lost (R259). -/
def State.sphRx (s : State) (k : Nat) (e : RxEnd) : State :=
  let g := 164 + k
  match s.sphNext g, s.sphSelect k with
  | some i, some c =>
    let a := s.entryAt g i 32
    let s1 := s.setRing g { s.ring g with nxt := idxInc i }
    let small := decide (s.hnum (a + 8) 4 % 2 ^ 14 < 9216)
    match e with
    | .ok =>
      if small then s1.writeBack g i [0, 0, 0, wd (2 ^ 31 + 2 ^ 30)]
      else match s.sgf.frame c.fid with
        | some f => (((s1.hput (s.hnum a 8) f.bytes).writeBack g i (rxWords f k)).spCount 64 7).rxTaken c
        | none => s1
    | .bufFail =>
      let x := s1.rxFault
      if small then s else ((x.2.writeBack g i x.1).bufErr g HIF_ERR.DMA_WR).rxTaken c
    | .entryFail =>
      let s2 := s1.wroteBack g i
      if small then s2
      else match s.sgf.frame c.fid with
        | some f => (s2.hput (s.hnum a 8) f.bytes).rxTaken c
        | none => s2
  | _, _ => s

/-- SPH_RX_WRITE at network time t. -/
def doSphRxWrite (k t : Nat) (s : State) : State := (s.passTo t).sphRx k .ok

/-- Meaning of SPH_RX_WRITE (R258). -/
def execSphRxWrite (k : Fin 16) (t : Nat) (s : State) : Host.Outcome State Fault Refusal := .next (doSphRxWrite k t s)

/-! ### Failed transfers and resets (R226, R259) -/

/-- A ring stops on a failed transfer, with EN still 1 (R259). -/
def State.dmaStop (s : State) (g : Nat) (y : Fld) : State := (s.ringStop g).ringErr g RING_STATUS.DMA_ERR y

/-- The management command of a command ring whose buffer access fails completes DMA_FAULT (R249, R250, R259): FW_LOAD reads
its buffer, LOG_READ writes it. -/
def State.mgmtFault (s : State) (g op : Nat) (y : Fld) : State :=
  match s.pth.delivered.find? (fun x => decide (x.ring = g) && (x.reqs.any fun r => decide (r.op = op))) with
  | some x =>
    let s1 := { s with pth := { s.pth with delivered := s.pth.delivered.erase x } }
    State.bufErr (x.reqs.foldl (fun s r => s.fillComp r.id (mgmtComp x r 17 0 (s.readResults r).2)) s1) g y
  | none => s

/-- DMA_READ_FAIL (R259): the read of a descriptor of ring g fails, or with `buf` that of a buffer it names. -/
def doDmaReadFail (g : Nat) (buf : Bool) (s : State) : State :=
  if !buf then (if hostProduced g && (s.ring g).active then s.dmaStop g HIF_ERR.DMA_RD else s)
  else if g < 64 then s.mgmtFault g 0x10 HIF_ERR.DMA_RD
  else if 148 ≤ g ∧ g < 164 then
    match s.sphNext g with
    | some i => ((s.setRing g { s.ring g with nxt := idxInc i }).txDone (g - 148) i 5).bufErr g HIF_ERR.DMA_RD
    | none => s
  else s

/-- Meaning of DMA_READ_FAIL (R259). -/
def execDmaReadFail (g : Fin 180) (buf : Bool) (s : State) : Host.Outcome State Fault Refusal := .next (doDmaReadFail g buf s)

/-- The completion that would be written to completion ring k next. -/
def State.compOf (s : State) (k : Nat) : Option (CompSlot × Comp) :=
  match s.nextComp with
  | some x => match x.comp with
    | some c => if c.cring = k then some (x, c) else none
    | none => none
  | none => none

/-- An entry of ring g whose write failed counts as written, and the ring stops (R259). -/
def State.entryLost (s : State) (g : Nat) : State :=
  ((s.setRing g { s.ring g with pi := idxInc (s.ring g).pi }).counted g).dmaStop g HIF_ERR.DMA_WR

/-- A failed write of an entry or write-back of ring g: it counts as written, and the ring stops (R259). The moved list of a
completion is written before it (R243). -/
def State.entryFail (s : State) (g : Nat) : State :=
  if g < 64 then s
  else if g < 128 then
    match s.compOf (g - 64) with
    | some x =>
      if (s.ring g).active then
        let s1 := s.dropSlot x.1 x.2
        (if (movedBytes x.2).isEmpty then s1 else s1.hput x.2.movedAddr (movedBytes x.2)).entryLost g
      else s
    | none => s
  else if g < 144 then
    match s.hif.evq with
    | e :: rest =>
      if e.ring = g - 128 ∧ (s.ring g).active = true then State.entryLost { s with hif := { s.hif with evq := rest } } g else s
    | [] => s
  else if g < 148 then s.capFail (g - 144)
  else if g < 164 then
    match s.hif.sphDone with
    | d :: rest =>
      if d.k = g - 148 then
        (State.wroteBack { s with hif := { s.hif with sphDone := rest } } g d.idx).dmaStop g HIF_ERR.DMA_WR
      else s
    | [] => s
  else if (s.ring g).active then (s.sphRx (g - 164) .entryFail).dmaStop g HIF_ERR.DMA_WR else s

/-- A failed write of a buffer of ring g: a moved list, a management buffer or a received frame (R259). The completions of a
transaction carry the same flags (R248). -/
def State.bufFail (s : State) (g : Nat) : State :=
  if g < 64 then s.mgmtFault g 0x12 HIF_ERR.DMA_WR
  else if g < 128 then
    match s.compOf (g - 64) with
    | some x => if x.2.moved.isEmpty then s
        else
          let q := s.hif.compq.map fun y : CompSlot =>
            if y.txn = x.1.txn then { y with comp := y.comp.map fun c => { c with trunc := true } } else y
          (State.putComp { s with hif := { s.hif with compq := q } } x.1 { x.2 with moved := [], trunc := true }).bufErr g HIF_ERR.DMA_WR
    | none => s
  else if 164 ≤ g then s.sphRx (g - 164) .bufFail
  else s

/-- DMA_WRITE_FAIL (R259). -/
def doDmaWriteFail (g : Nat) (buf : Bool) (s : State) : State := if buf then s.bufFail g else s.entryFail g

/-- Meaning of DMA_WRITE_FAIL (R259). -/
def execDmaWriteFail (g : Fin 180) (buf : Bool) (s : State) : Host.Outcome State Fault Refusal := .next (doDmaWriteFail g buf s)

/-- Registers that the resets of R226 return to their reset values, by offset. -/
def hifReset (a : Nat) : Bool :=
  (decide (0x10 ≤ a) && decide (a < 0x28)) || (decide (0xC000 ≤ a) && decide (a < 0xD020)) || (decide (0x200000 ≤ a) && decide (a < 0x202D00))

/-- The resets of R226: the ring state, and nothing else. -/
def State.resetHif (s : State) : State :=
  { s with
    regs := s.regs.filter fun p => !hifReset p.1
    cap := []
    hif := { s.hif with rings := [], evq := [], compq := [], compNext := none, rr := [], sphDone := [] }
    pth := { s.pth with delivered := s.pth.delivered.filter fun x => x.reqs.any fun r => decide (1 ≤ r.op) && decide (r.op ≤ 3) }
    sgf := { s.sgf with frames := s.sgf.frames.map fun f : Frm => { f with host := none } } }

end Sys2Proof.Machine
end

