-- ==== Sys2Proof/Machine/Sha.lean ====
section
/-! DEFINITION. SHA-384, with which BODY_HASH of an image is formed (R451). -/
namespace Sys2Proof.Machine

/-- The first 80 primes. -/
def primes80 : List Nat := (List.range 410).filter fun n => decide (2 ≤ n) && (List.range n).all fun d => decide (d < 2) || decide (n % d ≠ 0)

/-- The largest x below 2^(n + 1) with x^k ≤ v. -/
def rootFloor (k v : Nat) (n : Nat) : Nat :=
  (List.range (n + 1)).foldl (fun x i => if (x + 2 ^ (n - i)) ^ k ≤ v then x + 2 ^ (n - i) else x) 0

/-- 2^64. -/
def w64 : Nat := 2 ^ 64

/-- The round constants: the first 64 bits of the fractional parts of the cube roots of the primes. -/
def shaK : List Nat := primes80.map fun p => rootFloor 3 (p * 2 ^ 192) 67 % w64

/-- The initial value of SHA-384: from the square roots of the 9th to 16th primes. -/
def shaH0 : List Nat := ((primes80.drop 8).take 8).map fun p => rootFloor 2 (p * 2 ^ 128) 67 % w64

/-- Rotation right of a 64-bit word. -/
def ror64 (x n : Nat) : Nat := (x >>> n) ||| (x * 2 ^ (64 - n) % w64)

/-- The 80 words of the message schedule of a block of 16 words. -/
def shaSched (l : List Nat) : List Nat :=
  (List.range 64).foldl (fun w i =>
    let g := fun k => w.getD (i + 16 - k) 0
    let s0 := ror64 (g 15) 1 ^^^ ror64 (g 15) 8 ^^^ (g 15 >>> 7)
    let s1 := ror64 (g 2) 19 ^^^ ror64 (g 2) 61 ^^^ (g 2 >>> 6)
    w ++ [(g 16 + s0 + g 7 + s1) % w64]) l

/-- One round on the eight working variables. -/
def shaRound (v : List Nat) (kw : Nat) : List Nat :=
  let a := v.getD 0 0; let b := v.getD 1 0; let c := v.getD 2 0; let d := v.getD 3 0
  let e := v.getD 4 0; let f := v.getD 5 0; let g := v.getD 6 0; let h := v.getD 7 0
  let s1 := ror64 e 14 ^^^ ror64 e 18 ^^^ ror64 e 41
  let ch := (e &&& f) ^^^ ((w64 - 1 - e) &&& g)
  let t1 := h + s1 + ch + kw
  let s0 := ror64 a 28 ^^^ ror64 a 34 ^^^ ror64 a 39
  let maj := (a &&& b) ^^^ (a &&& c) ^^^ (b &&& c)
  [(t1 + s0 + maj) % w64, a, b, c, (d + t1) % w64, e, f, g]

/-- One block of 16 words. -/
def shaBlock (h : List Nat) (blk : List Nat) : List Nat :=
  let v := ((shaSched blk).zip shaK).foldl (fun v p => shaRound v (p.1 + p.2)) h
  (h.zip v).map fun p => (p.1 + p.2) % w64

/-- A big-endian number of bytes, and `n` big-endian bytes of a number. -/
def beValue (l : List Byte) : Nat := l.foldl (fun a b => a * 256 + b.toNat) 0
def beBytes (n v : Nat) : List Byte := (leBytes n v).reverse

/-- The padded message. -/
def shaPad (l : List Byte) : List Byte :=
  l ++ [0x80] ++ List.replicate ((239 - l.length % 128) % 128) 0 ++ beBytes 16 (8 * l.length)

/-- `n` items at a time. -/
def chunks {α : Type} (n : Nat) (l : List α) : List (List α) := (List.range (l.length / n)).map fun i => (l.drop (n * i)).take n

/-- The SHA-384 hash of bytes (R451). -/
def sha384 (l : List Byte) : List Byte :=
  (((chunks 128 (shaPad l)).map fun b => (chunks 8 b).map beValue).foldl shaBlock shaH0).take 6 |>.flatMap fun w => beBytes 8 w

end Sys2Proof.Machine
end

