-- ==== Sys2Proof/Machine/Prale.lean ====
section
/-! DEFINITION. Prale (R433 to R456): heartbeat and lockstep, the interrupt controller with sleep and wake, the log, image
verification, staging and the slots. -/
namespace Sys2Proof.Machine

/-- Stores Prale. -/
def State.setPrl (s : State) (p : Prl) : State := { s with prl := p }

/-! ### Processors (R433, R434) -/

/-- LOCKSTEP_HALT (R433): the main cores stop; source 2 sees its cause. -/
def doLockstepHalt (s : State) : State := s.setPrl { s.prl with lsHalt := true }

/-- Meaning of LOCKSTEP_HALT (R433). -/
def execLockstepHalt (s : State) : Host.Outcome State Fault Refusal := .next (doLockstepHalt s)

/-- HEARTBEAT (R434): firmware refreshes its heartbeat; source 3 loses its cause. -/
def doHeartbeat (s : State) : State :=
  if s.prl.lsHalt || !s.prl.awake then s
  else s.setPrl { s.prl with hbAge := some 0, hbCnt := (s.prl.hbCnt + 1) % 256, hbLate := false }

/-- Meaning of HEARTBEAT (R434). -/
def execHeartbeat (s : State) : Host.Outcome State Fault Refusal := .next (doHeartbeat s)

/-- The watch core finds no refresh for WD_MS (R434); before the first refresh it counts from the moment at which the image runs. -/
def State.heartbeatDue (s : State) : Bool :=
  match s.prl.hbAge with
  | some a => decide (s.f PRL_WD.WD_MS [] * 1000 ≤ a)
  | none => decide (4 < s.sys.stage) && decide (s.f PRL_WD.WD_MS [] * 1000 ≤ s.prl.bootAge)

/-- HEARTBEAT_LATE (R434). -/
def doHeartbeatLate (s : State) : State := if s.heartbeatDue then s.setPrl { s.prl with hbLate := true } else s

/-- Meaning of HEARTBEAT_LATE (R434). -/
def execHeartbeatLate (s : State) : Host.Outcome State Fault Refusal := .next (doHeartbeatLate s)

/-! ### Interrupt controller (R437 to R442) -/

/-- Stores the interrupt controller. -/
def State.setIc (s : State) (k : Ic) : State := s.setPrl { s.prl with ic := k }

/-- A level source (R437). -/
def icIsLevel (n : Nat) : Bool := decide (n < 256) || n == 418 || n == 419 || n == 420

/-- The level of a level source (R437). -/
def State.icLevel (s : State) (n : Nat) : Bool :=
  if n < 256 then bit (n % 32) (s.reg .FLT_STAT [n / 32] &&& s.reg .FLT_EN [n / 32])
  else if n = 418 then (s.pwmOf 0).flt
  else if n = 419 then (s.pwmOf 2).flt
  else if n = 420 then (s.pwmOf 3).flt
  else false

/-- A source is pending (R438). -/
def State.icPending (s : State) (n : Nat) : Bool := if icIsLevel n then s.icLevel n else s.prl.ic.pend.contains n

/-- The group against which arbitration is made: that of the running handler, 16 where none runs (R439). -/
def State.icRun (s : State) : Nat := match s.prl.ic.act with
  | p :: _ => p.2
  | [] => 16

/-- A source qualifies (R439, R442). -/
def State.icQualifies (s : State) (n : Nat) : Bool :=
  s.fb IC_SRC.EN [n] && s.icPending n && decide (s.f IC_SRC.GRP [n] < s.icRun) && !s.fb IC_CTRL.GATE []

/-- The rank by which a winner is found: lowest group, then SUB, then number (R439). -/
def State.icRank (s : State) (n : Nat) : Nat := (s.f IC_SRC.GRP [n] * 16 + s.f IC_SRC.SUB [n]) * 512 + n

/-- The winner among the sources that qualify (R439). -/
def State.icWinner (s : State) : Option Nat :=
  ((List.range 512).filter s.icQualifies).foldl (fun w n => match w with
    | none => some n
    | some m => if s.icRank n < s.icRank m then some n else some m) none

/-- The vector of source n is fetched: its handler runs in the bank of its group, and an edge source is no longer pending
(R440). -/
def State.icFetch (s : State) (n : Nat) : State :=
  let k := s.prl.ic
  s.setIc { k with pend := k.pend.filter (· ≠ n), act := (n, s.f IC_SRC.GRP [n]) :: k.act }

/-- INTERRUPT_ENTRY (R440): the vector fetch at the end of an entry; with no source left that qualifies, SPUR counts. -/
def doInterruptEntry (s : State) : State :=
  if s.prl.lsHalt || !s.prl.awake then s
  else match s.icWinner with
    | some n => s.icFetch n
    | none => s.setF IC_CTRL.SPUR [] (min 65535 (s.f IC_CTRL.SPUR [] + 1))

/-- Meaning of INTERRUPT_ENTRY (R440). -/
def execInterruptEntry (s : State) : Host.Outcome State Fault Refusal := .next (doInterruptEntry s)

/-- INTERRUPT_RETURN (R441): the running handler ends, and the core chains to a source that qualifies against the level
returned to. -/
def doInterruptReturn (s : State) : State :=
  if s.prl.lsHalt then s
  else match s.prl.ic.act with
    | [] => s
    | _ :: rest =>
      let s1 := s.setIc { s.prl.ic with act := rest }
      match s1.icWinner with
      | some n => s1.icFetch n
      | none => s1

/-- Meaning of INTERRUPT_RETURN (R441). -/
def execInterruptReturn (s : State) : Host.Outcome State Fault Refusal := .next (doInterruptReturn s)

/-- IC_GATE_WRITE (R442): firmware writes GATE. -/
def doIcGate (gate : Bool) (s : State) : State := if s.prl.lsHalt then s else s.setF IC_CTRL.GATE [] (b2n gate)

/-- Meaning of IC_GATE_WRITE (R442). -/
def execIcGateWrite (gate : Bool) (s : State) : Host.Outcome State Fault Refusal := .next (s.hostWr .IC_CTRL [] (doIcGate gate))

/-! ### Sleep and wake (R443, R444) -/

/-- The retained sources (R444). -/
def icRetained : List Nat := [416, 417, 432]

/-- The sources' registers as the domain will wake with them (R444): at their reset values, but EN, GRP and SUB of the retained
ones. The spec gives no value that the window reads there during sleep: it reads these (DESIGN CHOICE, log entry 233). -/
def State.icSave (s : State) : State :=
  let s1 : State := { s with regs := s.regs.filter fun p : Nat × Word => !(decide (0x40000400 ≤ p.1) && decide (p.1 < 0x40000C00)) }
  icRetained.foldl (fun z n => z.setReg .IC_SRC [n] ((z.reg .IC_SRC [n] &&& 0x700000FF) ||| (s.reg .IC_SRC [n] &&& 0x80FF0000))) s1

/-- PRALE_SLEEP (R444): the retained sources are saved; the main domain powers down. -/
def doPraleSleep (s : State) : State :=
  if !s.prl.awake then s
  else
    let k := s.prl.ic
    s.icSave.setPrl { s.prl with
      awake := false
      ic := ⟨[], [], [], icRetained.map fun n => (n, s.reg .IC_SRC [n], k.pend.contains n)⟩ }

/-- Meaning of PRALE_SLEEP (R444). -/
def execPraleSleep (s : State) : Host.Outcome State Fault Refusal := .next (doPraleSleep s)

/-- PRALE_WAKE (R443): an event on wake line `line`, which IC_WAKE must enable, is an edge of the source that the line carries;
lines 8 to 31 are reserved. -/
def doPraleWake (line : Nat) (s : State) : State :=
  if s.prl.awake || decide (8 ≤ line) || !bit line (s.reg .IC_WAKE []) then s else s.icEdge (wakeSrc.getD line 0)

/-- Meaning of PRALE_WAKE (R443). -/
def execPraleWake (line : Fin 32) (s : State) : Host.Outcome State Fault Refusal := .next (doPraleWake line s)

/-! ### Module flash (R436) -/

/-- Offsets of the partitions (R436). -/
def flashA : Nat := 0x00100000
def flashB : Nat := 0x02100000
def flashStage : Nat := 0x04100000
def flashLog : Nat := 0x06100000
def slotBytes : Nat := 0x02000000
def logBytes : Nat := 0x01000000

/-- The byte at a flash offset: the newest write that covers it, or the module's own. -/
def State.flashByte (s : State) (a : Nat) : Byte :=
  match s.prl.flash.find? fun w => decide (w.a ≤ a) && decide (a < w.a + w.n) with
  | some w => w.d.getD (a - w.a) 0xFF
  | none => Config.flash a

/-- n bytes of flash. -/
def State.flashGet (s : State) (a n : Nat) : List Byte := (List.range n).map fun i => s.flashByte (a + i)

/-- A write of n bytes that read as d, and 0xFF behind it; writes that it covers are dropped. -/
def State.flashPut (s : State) (a n : Nat) (d : List Byte) : State :=
  let old := s.prl.flash.filter fun w : FlashWr => !(decide (a ≤ w.a) && decide (w.a + w.n ≤ a + n))
  s.setPrl { s.prl with flash := ⟨a, n, d⟩ :: old }

/-! ### The log (R449, R450) -/

/-- The 32 bytes of an entry (R449). -/
def LogEnt.bytes (x : LogEnt) (seq : Nat) : List Byte :=
  let b := leBytes 4 (x.kind % 256 + x.level % 256 * 2 ^ 8 + x.code % 65536 * 2 ^ 16) ++ leBytes 4 seq ++ leBytes 8 x.time
    ++ wordBytes (padW 3 x.pl)
  b ++ leBytes 4 (crc32c b).toNat

/-- Writes an entry at the write offset; a sector is erased before it is entered (R450). -/
def State.logWrite (s : State) (x : LogEnt) : State :=
  let o := s.prl.logOfs
  let q := (s.prl.logSeq + 1) % 2 ^ 32
  let s1 := if o % 65536 = 0 then s.flashPut (flashLog + o) 65536 [] else s
  let s2 := s1.flashPut (flashLog + o) 32 (x.bytes q)
  s2.setPrl { s2.prl with logOfs := (o + 32) % logBytes, logSeq := q }

/-- LOG_APPEND (R450): after a loss the next entry written is KIND 0x0F, and LOG_LOST tells the host (R456) with its own entry
behind it (R449; DESIGN CHOICE, log entry 140: that entry does not wait in the buffer); else the oldest entry that waits. -/
def doLogAppend (s : State) : State :=
  let p := s.prl
  if p.lsHalt then s
  else if p.logLost ≠ 0 then
    let s1 := s.logWrite ⟨0x0F, 0, 0, s.clr.now, [wd p.logLost]⟩
    ((s1.setPrl { s1.prl with logLost := 0 }).logWrite ⟨4, 4, 4, s.clr.now, [wd p.logLost]⟩).postRaw 6 0x60 4 [wd p.logLost]
  else match p.logBuf with
    | [] => s
    | x :: rest => (s.setPrl { p with logBuf := rest }).logWrite x

/-- Meaning of LOG_APPEND (R449). -/
def execLogAppend (s : State) : Host.Outcome State Fault Refusal := .next (doLogAppend s)

/-! ### Management descriptors (R247, R450, R453) -/

/-- Takes the oldest delivered management descriptor with opcode `op`. -/
def State.takeMgmt (s : State) (op : Nat) : Option (Txn × Req × State) :=
  match s.pth.delivered.find? fun x => x.reqs.any fun r => r.op == op with
  | some x => match x.reqs with
    | r :: _ => some (x, r, { s with pth := { s.pth with delivered := s.pth.delivered.filter fun z : Txn => decide (z ≠ x) } })
    | [] => none
  | none => none

/-- LOG_READ (R450). -/
def doLogRead (s : State) : State :=
  if s.prl.lsHalt then s
  else match s.takeMgmt 0x12 with
    | none => s
    | some (x, r, s1) =>
      if logBytes < x.ofs + x.len then s1.fillComp r.id (mgmtComp x r 20 0 (wd s.prl.logOfs))
      else (s1.hput x.buf (s.flashGet (flashLog + x.ofs) x.len)).fillComp r.id (mgmtComp x r 0 (wd x.len) (wd s.prl.logOfs))

/-- Meaning of LOG_READ (R450). -/
def execLogRead (s : State) : Host.Outcome State Fault Refusal := .next (doLogRead s)

/-- A staging write of bytes d at offset o by a path (1 host, 2 OOB): a write at 0 starts afresh and claims (R453). -/
def State.stageWrite (s : State) (path o : Nat) (d : List Byte) : State :=
  let s1 := s.flashPut (flashStage + o) d.length d
  s1.setPrl { s1.prl with extent := o + d.length, owner := if o = 0 then path else s.prl.owner, stageAge := 0 }

/-- FW_LOAD (R453). -/
def doFwLoad (s : State) : State :=
  if s.prl.lsHalt then s
  else match s.takeMgmt 0x10 with
    | none => s
    | some (x, r, s1) =>
      if s.prl.owner = 2 then s1.fillComp r.id (mgmtComp x r 18 0 0)
      else if slotBytes < x.ofs + x.len ∨ (x.ofs ≠ 0 ∧ x.ofs ≠ s.prl.extent) then s1.fillComp r.id (mgmtComp x r 20 0 0)
      else (s1.stageWrite 1 x.ofs (s.hget x.buf x.len)).fillComp r.id (mgmtComp x r 0 (wd x.len) 0)

/-- Meaning of FW_LOAD (R453). -/
def execFwLoad (s : State) : Host.Outcome State Fault Refusal := .next (doFwLoad s)

/-! ### Verification and the slots (R451 to R455) -/

/-- A little-endian field of n bytes of a header. -/
def hdr (h : List Byte) (o n : Nat) : Nat := leValue ((h.drop o).take n)

/-- The first failed test of R452 on the image at flash offset `base` with `extent` bytes, 0 for none. -/
def State.verify (s : State) (base extent : Nat) : Nat :=
  let h := s.flashGet base 4096
  let len := hdr h 16 4
  let rev := Config.hifRev.toNat
  let res := ((h.drop 72).take 3896 ++ h.drop 4064).all fun b => b == 0
  let key := hdr h 13 1
  if hdr h 0 4 ≠ 0x57465856 ∨ hdr h 4 2 ≠ 1 ∨ res = false then 1
  else if hdr h 6 2 ≠ 0x7512 ∨ rev / 256 < hdr h 14 1 ∨ (hdr h 15 1).testBit (rev % 4) = false then 2
  else if len % 4 ≠ 0 ∨ 33550336 < len ∨ extent < 4096 + len then 3
  else if Config.sigOk h = false then 4
  else if Config.revoked key = true ∨ 3 < key then 5
  else if hdr h 12 1 < s.prl.svnFloor then 6
  else if sha384 (s.flashGet (base + 4096) len) ≠ (h.drop 24).take 48 then 7
  else 0

/-- Slot A (false) or B (true), and its place in flash. -/
def Prl.slot (p : Prl) (b : Bool) : Slot := if b then p.slotB else p.slotA
def Prl.setSlot (p : Prl) (b : Bool) (x : Slot) : Prl := if b then { p with slotB := x } else { p with slotA := x }
def slotBase (b : Bool) : Nat := if b then flashB else flashA

/-- A firmware event (R456). -/
def State.mgmtEvent (s : State) (sub : Nat) (pl : List Word) : State := s.post 6 0x60 sub pl

/-- The staged image is committed (R452, R454): the cause of a refusal, 0 for none, and the new state. `flashOk`: the program
and its read-back succeeded. -/
def State.fwCommit (s : State) (sw flashOk : Bool) : Nat × State :=
  let p := s.prl
  let done := s.setPrl { p with owner := 0 }
  let c := if p.extent = 0 then 8
    else
      let v := s.verify flashStage p.extent
      if v ≠ 0 then v else if !flashOk then 9 else if (p.slot p.runB).st ≠ 3 then 10 else 0
  if c ≠ 0 then (c, done)
  else
    let h := s.flashGet flashStage 4096
    let b := !p.runB
    let n := 4096 + hdr h 16 4
    let ver := wd (hdr h 8 4)
    let s1 := done.flashPut (slotBase b) slotBytes (s.flashGet flashStage n)
    let q := s1.prl.setSlot b ⟨if sw then 2 else 1, if sw then 3 else 0, ver, hdr h 12 1⟩
    (0, (s1.setPrl { q with bootB := if sw then b else q.bootB }).mgmtEvent 1 [ver, wd (b2n b + 2 * b2n sw)])

/-- FW_COMMIT (R454). -/
def doFwCommit (flashOk : Bool) (s : State) : State :=
  if s.prl.lsHalt then s
  else match s.takeMgmt 0x11 with
    | none => s
    | some (x, r, s1) =>
      let ver := wd (hdr (s.flashGet flashStage 4096) 8 4)
      let c := s1.fwCommit x.switch flashOk
      if c.1 = 0 then c.2.fillComp r.id (mgmtComp x r 0 0 ver) else c.2.fillComp r.id (mgmtComp x r 19 0 (wd c.1))

/-- Meaning of FW_COMMIT (R454). -/
def execFwCommit (flashOk : Bool) (s : State) : Host.Outcome State Fault Refusal := .next (doFwCommit flashOk s)

/-- Ownership of staging ends by a release or its timeout (R453, R456). -/
def State.stageFree (s : State) (byTime : Bool) : State :=
  if s.prl.owner = 0 then s else (s.setPrl { s.prl with owner := 0 }).mgmtEvent 5 [wd s.prl.owner, wd (b2n byTime)]

/-- A write of PRL_STAGE (R453, R457): COMMIT for the OOB owner only. -/
def doPrlStage (oob : Bool) (v : Word) (flashOk : Bool) (s : State) : State :=
  let s1 := if oob && bit 28 v && decide (s.prl.owner = 2) && !s.prl.lsHalt then (s.fwCommit (bit 27 v) flashOk).2 else s
  if bit 29 v then s1.stageFree false else s1

/-- Meaning of STAGE_RELEASE (R453): the host writes PRL_STAGE. -/
def execStageRelease (v : Word) (s : State) : Host.Outcome State Fault Refusal :=
  .next (s.hostWr .PRL_STAGE [] (doPrlStage false v true))

/-- Meaning of STAGE_COMMIT (R453): the BMC writes PRL_STAGE. -/
def execStageCommit (v : Word) (flashOk : Bool) (s : State) : Host.Outcome State Fault Refusal :=
  .next (s.hostWr .PRL_STAGE [] (doPrlStage true v flashOk))

/-- STAGING_TIMEOUT (R453): 60 s without a staging write. -/
def doStagingTimeout (s : State) : State := if 60000000 ≤ s.prl.stageAge then s.stageFree true else s

/-- Meaning of STAGING_TIMEOUT (R453). -/
def execStagingTimeout (s : State) : Host.Outcome State Fault Refusal := .next (doStagingTimeout s)

/-- SLOT_CONFIRM (R455): a TRIAL slot whose image has run for 60 s with READY and ALIVE is CONFIRMED; the SVN floor rises. -/
def doSlotConfirm (s : State) : State :=
  let p := s.prl
  let x := p.slot p.runB
  if s.ready && decide (x.st = 2) && decide (60000000 ≤ p.aliveRun) then
    let q := p.setSlot p.runB { x with st := 3 }
    (s.setPrl { q with svnFloor := max p.svnFloor x.svn }).mgmtEvent 2 [x.ver, wd (b2n p.runB)]
  else s

/-- Meaning of SLOT_CONFIRM (R455). -/
def execSlotConfirm (s : State) : Host.Outcome State Fault Refusal := .next (doSlotConfirm s)

/-! ### The boot ROM (R455) -/

/-- Why slot b does not verify at a boot, 0 where it does: the first failed test of R452 on what flash holds; an EMPTY slot holds no
image. -/
def State.slotFail (s : State) (b : Bool) : Nat :=
  if (s.prl.slot b).st = 0 then 1 else s.verify (slotBase b) slotBytes

/-- Boots slot b. -/
def State.bootSlot (s : State) (b : Bool) (rollback : Nat) : State :=
  let p := s.prl
  s.setPrl { p with runB := b, bootB := b, fwVer := (p.slot b).ver, rollback := rollback
                    rbEvt := if rollback = 0 then p.rbEvt else some (rollback, !b) }

/-- The boot ROM verifies both slots and picks the one to run (R455), and whether one runs; a boot slot that fails is marked
INVALID. -/
def State.bootRom (s : State) : State × Bool :=
  let b := s.prl.bootB
  let x := s.prl.slot b
  let own := s.slotFail b
  let other := s.slotFail (!b)
  let s1 := if other ≠ 0 ∧ (s.prl.slot (!b)).st ≠ 0 then s.cause 4 else s
  if own = 0 ∧ (x.st = 1 ∨ x.st = 3) then (s1.bootSlot b 0, true)
  else if own = 0 ∧ x.st = 2 ∧ 0 < x.tries then
    ((s1.setPrl (s1.prl.setSlot b { x with tries := x.tries - 1 })).bootSlot b 0, true)
  else
    let s2 := if x.st = 0 then s1 else s1.setPrl (s1.prl.setSlot b { x with st := 4 })
    if other = 0 then (s2.bootSlot (!b) (if x.st = 2 ∧ x.tries = 0 then 1 else if own = 7 then 3 else 2), true) else (s2, false)

end Sys2Proof.Machine
end

