-- ==== Sys2Proof/Machine/View.lean ====
section
/-! DEFINITION. What a read of a register shows: the fields that other state makes are computed here, every other bit is the
register's own (R12, R14, R464). -/
namespace Sys2Proof.Machine

/-- The register's own word with fields laid over it. -/
def State.show (s : State) (r : Reg) (ix : List Nat) (l : List (Fld × Nat)) : Word :=
  l.foldl (fun w p => fput p.1.lo p.1.len p.2 w) (s.reg r ix)

/-- Lanes of cluster c for which p holds. -/
def State.countLanes (s : State) (c : Nat) (p : Lane → Bool) : Nat :=
  ((List.range 256).filter fun j => p (s.lane (256 * c + j))).length

/-- A lane of cluster c for which p holds. -/
def State.anyLane (s : State) (c : Nat) (p : Lane → Bool) : Bool := (List.range 256).any fun j => p (s.lane (256 * c + j))

/-! ### Clusters (R99, R131, R151) -/

/-- EXCH_OK (R95, R99). -/
def State.exchOk (s : State) (c : Nat) : Bool :=
  s.fb SLV_CTRL.RUN [c]
    && !((c == 138 || c == 139 || c == 142 || c == 143)
      && (List.range 256).any fun j => (s.lane (256 * c + j)).valid && s.exStale (256 * c + j))

/-- SLV_STATUS (R99). P2_HOLD reads 1 in P2 in every cluster, the ingress Cuff clusters among them, where no lane is held for P2
(DESIGN CHOICE, log entry 224). -/
def State.slvStatus (s : State) (c : Nat) : Word :=
  s.show .SLV_STATUS [c] [(SLV_STATUS.RATE_DIV, s.div), (SLV_STATUS.P2_HOLD, b2n (s.cl c).p2),
    (SLV_STATUS.CAL_HOLD, b2n ((s.anyLane c fun l => l.st == .hold && l.why == 2) || (List.range 8).any (s.adcStale c))),
    (SLV_STATUS.EXCH_OK, b2n (s.exchOk c)), (SLV_STATUS.RUN_ACT, b2n (s.cl c).runAct)]

/-- SLV_FLT_SUM (R99). -/
def State.fltSum (s : State) (c : Nat) : Nat :=
  (List.range 8).foldl (fun a n => a + b2n (s.anyLane c fun l => l.sticky.toNat.testBit n) * 2 ^ n) 0

/-- CNV_STATUS (R102, R108, R131). -/
def State.cnvStatus (s : State) (c : Nat) : Word :=
  let ovl := fun a => (List.range 32).any fun j => (s.lane (256 * c + 32 * a + j)).tap0.ovl || (s.lane (256 * c + 32 * a + j)).tap1.ovl
  s.show .CNV_STATUS [c] [(CNV_STATUS.OVLD, (List.range 8).foldl (fun n a => n + b2n (ovl a) * 2 ^ a) 0),
    (CNV_STATUS.REF_SETTLED, (List.range 8).foldl (fun n a => n + b2n ((s.cl c).settled a) * 2 ^ a) 0)]

/-- TRN_STATUS (R151). -/
def State.trnStatus (s : State) (c : Nat) : Word :=
  let prof := s.countLanes c fun l => l.prof.on
  let check := s.countLanes c fun l => l.tr.any fun t => t.res == .progress
  s.show .TRN_STATUS [c] [(TRN_STATUS.PATTERN, (s.cl c).lastPat), (TRN_STATUS.ACTIVE, b2n (decide (0 < prof + check))),
    (TRN_STATUS.MEAS, b2n ((decide (c < 136)) && s.anyLane c fun l => l.tr.any fun t => decide (1 ≤ t.f) && !t.recd)),
    (TRN_STATUS.N_CHECK, check), (TRN_STATUS.N_PROF, prof)]

/-- LANE_STAT (R82, R99). -/
def Lane.stat (l : Lane) (w : Word) : Word :=
  [(LANE_STAT.STATE, l.st.code), (LANE_STAT.CMD, b2n l.cmd), (LANE_STAT.LIT, b2n l.lit), (LANE_STAT.HOLD_WHY, l.why),
    ((⟨.LANE_STAT, 0, 8⟩ : Fld), l.sticky.toNat)].foldl (fun w p => fput p.1.lo p.1.len p.2 w) w

/-- The tones of the two planes agree for in-port p within 1° (R39): both off, or both on within 46,603 of 2^24 of a period; a
plane whose update of the frame is still to come is not compared. -/
def State.toneAligned (s : State) (p : Nat) : Bool :=
  let e0 := cuffOf 0 0 p
  let e1 := cuffOf 1 0 p
  let x := s.lane e0
  let y := s.lane e1
  if (s.cl (e0 / 256)).upd ≠ (s.cl (e1 / 256)).upd then true
  else if x.on ≠ y.on then false
  else if !x.on then true
  else
    let d := (x.acc + 16777216 - y.acc % 16777216) % 16777216
    decide (d ≤ 46603) || decide (16777216 - 46603 ≤ d)

/-- CUF_STATUS (R51). -/
def State.cufStatus (s : State) : Word :=
  s.show .CUF_STATUS [] [(CUF_STATUS.TONE_ALIGNED, b2n ((List.range 512).all s.toneAligned))]

/-! ### Services -/

/-- Paths whose record is not IDLE in a layer (R189, R224). -/
def State.nPaths (s : State) (layer : Nat) : Nat :=
  (s.pth.conn.filter fun p => decide (p.1 / 512 = layer) && decide (p.2.st ≠ .idle)).length

/-- The layer that the connection-table registers show (R212). -/
def State.viewLayer (s : State) : Nat := s.f YK_VIEW.LAYER []

/-- PTH_STATUS (R189). -/
def State.pthStatus (s : State) : Word :=
  let excl := (s.exclNodes.filter fun p => decide (1 ≤ p.1) && decide (p.1 ≤ 15)).length
  s.show .PTH_STATUS [] [(PTH_STATUS.N_PATHS, s.nPaths s.viewLayer), (PTH_STATUS.N_EXCL, min 511 excl),
    (PTH_STATUS.REPAIRING, b2n (s.pth.reps.any fun r => r.staged)), (PTH_STATUS.N_PEND, min 7 s.nPend)]

/-- SP_STATUS (R310). -/
def State.spStatus (s : State) (p : Nat) : Word :=
  if p = 64 then wd (2 * 2 ^ 29)
  else
    let x := s.spPort p
    let left := if x.st = .hold then s.f SGF_CTRL.HOLDOFF_US [] - (s.clr.now - x.holdAt) / 1000 else 0
    s.show .SP_STATUS [p] [(SP_STATUS.STATE, x.st.code), (SP_STATUS.RATE, x.rate), (SP_STATUS.FEC, x.fec),
      (SP_STATUS.BUSY, b2n (x.st == .stopping)), (SP_STATUS.EN_PEND, b2n x.enPend), (SP_STATUS.CAPPED, b2n x.capped),
      (SP_STATUS.HOLD_LEFT, min 65535 left)]

/-- RECLAIM_LEFT (R360, R362). -/
def State.reclaimLeft (s : State) : Nat :=
  let h := s.f PAIR_CTRL.RECLAIM_HOLD []
  let on := s.inPair && decide (s.unit = 0) && decide (s.pair.role = 2) && decide (s.pair.sync = 2) && s.pair.healthOk && decide (h ≠ 0)
  if on then h - s.pair.okRun / 1000000 else 0

/-- PAIR_STATUS (R362). -/
def State.pairStatus (s : State) : Word :=
  let p := s.pair
  if !s.inPair then wd (b2n p.healthOk * 2 ^ 11)
  else s.show .PAIR_STATUS [] [(PAIR_STATUS.RECLAIM_LEFT, s.reclaimLeft), (PAIR_STATUS.LANE_UP, p.lanes), (PAIR_STATUS.PEER, b2n p.peer),
    (PAIR_STATUS.RECLAIM, b2n p.reclaim), (PAIR_STATUS.HEALTH_OK, b2n p.healthOk), (PAIR_STATUS.ACTIVE_SEL, b2n p.sel),
    (PAIR_STATUS.PREF, b2n s.sys.pref), (PAIR_STATUS.UNIT, s.unit), (PAIR_STATUS.SYNC, p.sync), (PAIR_STATUS.ROLE, p.role)]

/-- FAB_STATUS (R387). -/
def State.fabStatus (s : State) : Word :=
  let al := (List.range 64).filter s.alive
  s.show .FAB_STATUS [] [(FAB_STATUS.STATE, s.fab.st), (FAB_STATUS.N_MID, (al.filter fun d => decide (32 ≤ d)).length),
    (FAB_STATUS.N_DEV, al.length), (FAB_STATUS.ROLE, b2n s.isMiddle), (FAB_STATUS.DEVID, s.devid)]

/-- A word of the link table (R387). -/
def Lnk.word (l : Lnk) : Word := wd (l.st * 2 ^ 29 + l.dev * 2 ^ 16 + l.port)

/-- A link port's word; end ports read 0. -/
def State.lnkWord (s : State) (p : Nat) (l : Lnk) : Word := if s.isLinkPort p then l.word else 0

/-- FLT_STATUS (R406). -/
def State.fltStatus (s : State) : Word :=
  let n := (List.range 8).foldl (fun a g => a + popcount 32 (s.reg .FLT_STAT [g]).toNat) 0
  s.show .FLT_STATUS [] [(FLT_STATUS.SAFE, b2n s.flt.safe), (FLT_STATUS.ENTERING, b2n s.flt.entering),
    (FLT_STATUS.EXIT_PEND, b2n s.flt.exitPend), (FLT_STATUS.N_ESC, s.flt.esc.length), (FLT_STATUS.N_SET, n)]

/-- Bits of group g for which p holds. -/
def groupBits (g : Nat) (p : Nat → Bool) : Word := wd (bitsWord fun j => p (32 * g + j))

/-! ### Thermal, power, Prale, calibration -/

/-- THM_PD (R430). -/
def State.thmPd (s : State) : Word :=
  s.show .THM_PD [] [(THM_PD.PD_VALID, b2n s.thm.pdValid), (THM_PD.GRAD_WIDE, b2n (decide (32 < s.thm.grad))),
    (THM_PD.GRAD, min 4095 s.thm.grad.toNat), (THM_PD.MEAN, low 16 s.thm.mean)]

/-- PRL_STATUS (R457). -/
def State.prlStatus (s : State) : Word :=
  let p := s.prl
  s.show .PRL_STATUS [] [(PRL_STATUS.LS_HALT, b2n p.lsHalt), (PRL_STATUS.HB_LATE, b2n p.hbLate), (PRL_STATUS.AWAKE, b2n p.awake),
    (PRL_STATUS.REMAP, b2n p.remap), (PRL_STATUS.ROLLBACK, p.rollback), (PRL_STATUS.HB_CNT, p.hbCnt)]

/-- CAL_STATUS (R472, R479). -/
def State.calStatus (s : State) : Word :=
  let k := s.cal
  s.show .CAL_STATUS [] [(CAL_STATUS.BUSY, b2n k.busy), (CAL_STATUS.STALE, b2n (!k.busyAdc.isEmpty)), (CAL_STATUS.OP, k.op),
    (CAL_STATUS.RESULT, k.result), (CAL_STATUS.CAUSE, k.cause), (CAL_STATUS.DONE_C, min 255 k.doneC)]

/-! ### The read -/

/-- Registers of the clusters and of the Placket (R51, R60, R99, R131, R151 to R153). TONE_AMP.ON shows the synthesiser's own state,
also while R121 keeps the tone off the output (DESIGN CHOICE, log entry 190). -/
def State.viewLoops (s : State) (r : Reg) (ix : List Nat) : Option Word :=
  match r, ix with
  | .CUF_STATUS, _ => some s.cufStatus
  | .PLK_STATUS, _ => some (s.show r ix [(PLK_STATUS.INHIBIT, b2n s.plkInhibit), (PLK_STATUS.PUMP_OK, b2n s.plk.pumpOk),
      (PLK_STATUS.BUSY, b2n (s.plk.st == .engaging || s.plk.st == .releasing)), (PLK_STATUS.ENG_PEND, b2n s.plk.engPend),
      (PLK_STATUS.STATE, match s.plk.st with
        | .released => 0 | .engaging => 1 | .engaged => 2 | .releasing => 3)])
  | .PLK_HOLD, _ => some (wd (s.plk.holdV % 1024))
  | .SLV_STATUS, [c] => some (s.slvStatus c)
  | .SLV_FLT_SUM, [c] => some (wd (s.fltSum c))
  | .SLV_CNT0, [c] => some (wd (s.countLanes c (fun l => l.st == .locked) * 2 ^ 16 + s.countLanes c (fun l => l.st == .acquire)))
  | .SLV_CNT1, [c] => some (wd (s.countLanes c (fun l => l.st == .hold) * 2 ^ 16 + s.countLanes c (fun l => l.st == .fault)))
  | .SLV_MAP, [c, k] =>
    some (wd (bitsWord fun j => (s.lane (256 * c + 32 * k + j)).st == .fault || decide ((s.lane (256 * c + 32 * k + j)).sticky ≠ 0)))
  | .SETPT, [c, j, k] => some (if s.storeOff then Config.darkSp (r.at ix) else s.reg .SETPT [c, j, k])
  | .LANE_STAT, [c, j] => some ((s.lane (256 * c + j)).stat (s.reg r ix))
  | .LANE_INT, [c, j] => some (wd (low 24 (s.lane (256 * c + j)).i))
  | .LANE_ERR, [c, j] =>
    let l := s.lane (256 * c + j)
    some (wd ((if isCuffC c && l.st.runs then 125 else l.fill) * 2 ^ 16 + low 16 l.e))
  | .LANE_CUF, [c, j] =>
    let l := s.lane (256 * c + j)
    let e := 256 * c + j
    if !isCuffC c then some 0
    else if isEgressE e then some (wd (l.tgt * 2 ^ 16 + b2n l.valid * 2 ^ 9 + l.src))
    else some (wd (b2n l.valid * 2 ^ 9 + portE e))
  | .CNV_STATUS, [c] => some (s.cnvStatus c)
  | .ACC_STATUS, [c] =>
    let k := (s.cl c).eng
    some (s.show r ix [(ACC_STATUS.EN_PEND, b2n k.enPend), (ACC_STATUS.STOPPING, b2n k.stopping),
      (ACC_STATUS.LATCHED, b2n k.latched), (ACC_STATUS.RUNNING, b2n k.running)])
  | .DRV_CTRL, [c] => some (s.show r ix [(DRV_CTRL.SAFE, b2n (s.cl c).safe)])
  | .DRV_OUT, [c, j] => some (wd (low 16 (s.lane (256 * c + j)).buf * 2 ^ 16 + low 16 (s.lane (256 * c + j)).out))
  | .TONE_FREQ, [c, j] => some (wd (s.toneFreq (256 * c + j)))
  | .TONE_AMP, [c, j] =>
    let l := s.lane (256 * c + j)
    some (s.show r ix [(TONE_AMP.ASH, l.ash), (TONE_AMP.ON, b2n l.on), (TONE_AMP.AMP, l.amp)])
  | .DRV_LCTL, [c, j] => some (s.show r ix [(DRV_LCTL.ISOL, b2n (s.lane (256 * c + j)).isol)])
  | .TRN_STATUS, [c] => some (s.trnStatus c)
  | .PRF_LAST, [c, j] => some (s.prfLast (256 * c + j))
  | .COL_STATUS, _ => some (wd (s.col.length * 2 ^ 16 + (match s.col with
      | x :: _ => x.wait.length
      | [] => 0)))
  | _, _ => none

/-- Registers of the path service, the time block and the schedule engine (R189, R223, R224). -/
def State.viewServices (s : State) (r : Reg) (ix : List Nat) : Option Word :=
  match r, ix with
  | .PTH_STATUS, _ => some s.pthStatus
  | .PTH_EXCL_SET, [w] => some (s.reg .PTH_EXCL [w])
  | .PATH_A, [a] =>
    let x := s.pathRec (512 * s.viewLayer + a)
    some (if x.st = .idle then 0
      else wd (x.st.code * 2 ^ 29 + s.tagStatus a * 2 ^ 26 + b2n x.eqR * 2 ^ 25 + x.out * 2 ^ 16 + x.mid))
  | .PATH_B, [a] => some (s.pathRec (512 * s.viewLayer + a)).validT
  | .OUT_MAP, [b] => some (match s.inOf s.viewLayer b with
      | some a => wd (2 ^ 31 + a)
      | none => 0)
  | .CLR_STATUS, _ => some (s.show r ix [(CLR_STATUS.STEP_PEND, b2n s.clr.stepP), (CLR_STATUS.TOD_OK, b2n s.clr.todOk),
      (CLR_STATUS.REF_OK, b2n s.clr.refOk), (CLR_STATUS.PPS_OK, b2n s.clr.ppsOk), (CLR_STATUS.STATE, s.clr.st.code)])
  | .CLR_PHASE, _ => some (wd (low 32 s.clr.phi))
  | .CLR_ADJ, _ => some (wd (low 32 s.clr.adj))
  | .YK_STATUS, _ => some (s.show r ix [(YK_STATUS.ENTRY, s.yk.entry), (YK_STATUS.BANK, b2n s.yk.bank),
      (YK_STATUS.N_STORE, s.yk.store.length), (YK_STATUS.MODE, s.yk.mode), (YK_STATUS.CAL_PEND, b2n s.yk.calPend),
      (YK_STATUS.LAST_PAT, s.yk.lastPat)])
  | .YK_CAL_SW, _ => some (s.show r ix [(YK_CAL_SW.SW_PEND, b2n s.yk.swPend)])
  | .YK_CYCLE, _ => some (wd s.yk.cycles)
  | .YK_ANN_SEQ, _ => some (wd s.yk.annSeq)
  | .YK_LAYER, [i] => some (wd (s.nPaths i * 2 ^ 16 + (sget 0 s.pth.layerPat i) % 1024))
  | _, _ => none

/-- Registers of the host interface, capture and the signalling fabric (R231, R237, R276, R309 to R331). -/
def State.viewHost (s : State) (r : Reg) (ix : List Nat) : Option Word :=
  match r, ix with
  | .HIF_REV, _ => some (wd (Config.hifRev.toNat / 256 * 2 ^ 8 + Config.hifRev.toNat % 4))
  | .HIF_STRAP, _ => some (s.show r ix [(HIF_STRAP.STRAP_FAULT, b2n s.strapFault), (HIF_STRAP.BOOT_SRC, b2n s.sys.bootSrc),
      (HIF_STRAP.DEVID, s.sys.devid), (HIF_STRAP.PREF, b2n s.sys.pref), (HIF_STRAP.MODE, s.sys.mode)])
  | .HIF_STATUS, _ => some (s.show r ix [(HIF_STATUS.BOOT_STAGE, s.sys.stage), (HIF_STATUS.FW_SLOT, b2n s.prl.runB),
      (HIF_STATUS.SAFE, b2n s.flt.safe), (HIF_STATUS.INTAKE, b2n s.intakeOn), (HIF_STATUS.READY, b2n s.ready)])
  | .RING_STATUS, [g] =>
    let x := s.ring g
    some (s.show r ix [(RING_STATUS.EN_PEND, b2n x.enPend), (RING_STATUS.BUSY, b2n x.busy), (RING_STATUS.ACTIVE, b2n x.active)])
  | .RING_PI, [g] => some (wd (s.ring g).pi)
  | .RING_CI, [g] => some (wd (s.ring g).ci)
  | .CAP_STATUS, [k] =>
    let x := s.capR k
    some (s.show r ix [(CAP_STATUS.RSV_SHORT, b2n s.rsvShort), (CAP_STATUS.EN_PEND, b2n x.enPend),
      (CAP_STATUS.BUSY, b2n x.busy), (CAP_STATUS.ACTIVE, b2n x.active)])
  | .CAP_PI_LO, [k] => some (wd (s.capR k).pi)
  | .CAP_PI_HI, [k] => some (wd (s.capR k).latPi)
  | .CAP_LOST, [k] => some (wd (s.capR k).lost)
  | .CAP_RSV, [k] => some (fput 16 16 (min 65535 (ceilDiv (s.capWorst k * 32000) 1000000)) (s.reg r ix))
  | .CAP_OLDEST_LO, [k] => some (wd (s.capR k).oldest)
  | .CAP_OLDEST_HI, [k] => some (wd (s.capR k).latOld)
  | .CAP_LAP, [k] => some (wd (min 0xFFFFFFFF (s.capR k).lap))
  | .SGF_STATUS, _ => some (s.show r ix [(SGF_STATUS.SAFE_IDLE, b2n s.flt.safe), (SGF_STATUS.FREE_CELLS, s.sgf.free)])
  | .SGF_FWD_CMD, _ => some (s.show r ix [(SGF_FWD_CMD.BUSY, b2n s.sgf.cmd.isSome)])
  | .SGF_FWD_CNT, _ => some (wd s.sgf.fwd.length)
  | .SP_STATUS, [p] => some (s.spStatus p)
  | .OBS_SEQ, _ => some s.sgf.obsSeq
  | .SHP_CFG, [n] => some (s.show r ix [(SHP_CFG.ACT_EN, b2n (s.shaper (n / 16) (n % 16)).en)])
  | .SHP_TC, [n] => some (wd (low 32 (s.shaper (n / 16) (n % 16)).tc))
  | .SHP_TP, [n] => some (wd (low 32 (s.shaper (n / 16) (n % 16)).tp))
  | .SHP_STATUS, [n] => some (wd (let t := s.shaper (n / 16) (n % 16); if t.en then t.tier else 3))
  | .POL_CFG, [n] => some (s.show r ix [(POL_CFG.ACT_EN, b2n (sget Tok.reset s.sgf.pol n).en)])
  | .Q_DEPTH, [q] => some (wd ((sget Obs.reset s.sgf.obs q).dnow * 2 ^ 16 + (sget Obs.reset s.sgf.obs q).dmax))
  | .Q_DAVG, [q] => some (wd (sget Obs.reset s.sgf.obs q).davg)
  | .Q_TMAX, [q] => some (wd (sget Obs.reset s.sgf.obs q).tmax)
  | .Q_TAVG, [q] => some (wd (sget Obs.reset s.sgf.obs q).tavg)
  | _, _ => none

/-- Registers of the PAIR and FAB block (R362, R387). -/
def State.viewPair (s : State) (r : Reg) (ix : List Nat) : Option Word :=
  match r, ix with
  | .PAIR_STATUS, _ => some s.pairStatus
  | .HEALTH_WORD, _ => some s.pair.health
  | .PEER_HEALTH, _ => some s.peerHealth
  | .PAIR_OFFSET, _ => some (wd (low 32 s.pair.offset))
  | .PAIR_PTN, _ => some (wd s.pair.ptn)
  | .PAIR_SEQ, _ => some (wd s.pair.seq)
  | .FAB_STATUS, _ => some s.fabStatus
  | .FAB_DIGEST, _ => some s.fabDigest
  | .FAB_RT, [d] => some (if d = s.devid then wd (2 ^ 31)
      else match sfind s.fab.rt d with
        | some x => wd (2 ^ 31 + x.1 * 2 ^ 16 + x.2)
        | none => 0)
  | .FAB_DEV, [d] =>
    let links := ((s.fab.lnkOut ++ s.fab.lnkIn).filter fun x => x.2.st == 2 && x.2.dev == d).length
    some (wd (b2n (d == s.devid || s.fab.known.contains d) * 2 ^ 31 + b2n (s.alive d) * 2 ^ 30 + links * 2 ^ 16))
  | .FAB_LNK_OUT, [p] => some (s.lnkWord p (s.lnkOut p))
  | .FAB_LNK_IN, [p] => some (s.lnkWord p (s.lnkIn p))
  | .FAB_PATH_A, [a] =>
    let x := s.fpath a
    some (if x.st = 0 then 0 else wd (x.st * 2 ^ 29 + b2n x.loc * 2 ^ 28 + x.mid * 2 ^ 22 + x.dst * 2 ^ 16 + x.b * 2 ^ 8))
  | .FAB_PATH_B, [a] =>
    let x := s.fpath a
    some (if x.st = 0 then 0 else wd (x.up * 2 ^ 16 + x.down))
  | _, _ => none

/-- Registers of the fault collector, thermal control, PWM, power, Prale and calibration (R406, R407, R430 to R432, R457,
R458, R479). -/
def State.viewManage (s : State) (r : Reg) (ix : List Nat) : Option Word :=
  match r, ix with
  | .FLT_STATUS, _ => some s.fltStatus
  | .FLT_SUM, _ => some (wd ((List.range 8).foldl (fun a g => a + b2n (decide (s.reg .FLT_STAT [g] ≠ 0)) * 2 ^ g) 0))
  | .FLT_ESC_RUN, [g] => some (groupBits g fun n => s.flt.esc.any fun x => x.1 == n)
  | .THM_STATUS, _ => some (s.show r ix [(THM_STATUS.HOT_SNS, s.thm.hot), (THM_STATUS.N_BROKEN, s.snsBroken.length),
      (THM_STATUS.SHUT_LATCH, b2n s.thm.latch), (THM_STATUS.PHASE, s.phase_), (THM_STATUS.LEVEL, s.thm.level)])
  | .THM_MAX, _ => some (wd (low 16 (s.thm.peak.getD 0) * 2 ^ 16 + low 16 s.thm.now))
  | .THM_PD, _ => some s.thmPd
  | .TEC_OUT, _ => some (s.show r ix [(TEC_OUT.IN_BAND, b2n s.inBand), (TEC_OUT.U, low 17 s.thm.u)])
  | .THM_SNS, [i] => some (s.show r ix [(THM_SNS.BROKEN, b2n (s.sns i).broken),
      (THM_SNS.VALUE, low 16 (s.snsVal i))])
  | .PWM_UPD, [c] => some (wd (b2n (s.pwmOf c).updP * 2))
  | .PWM_STATUS, [c] => some (s.show r ix [(PWM_STATUS.OWNED, b2n (s.pwmOwned c)), (PWM_STATUS.FLT_IN, b2n (s.pwmOf c).flt)])
  | .PWM_LIVE, [c] => some (wd ((s.pwmOf c).duty * 2 ^ 16 + (s.pwmOf c).k * 2 ^ 12 + (s.pwmOf c).per))
  | .PWR_STATUS, _ => some (s.show r ix [(PWR_STATUS.WAIT, if s.pwr.pend then s.pwrWait s.target else 0),
      (PWR_STATUS.CHANGING, b2n s.pwr.chg.isSome), (PWR_STATUS.PEND, b2n s.pwr.pend), (PWR_STATUS.STATE, s.pwr.st)])
  | .PRL_STATUS, _ => some s.prlStatus
  | .PRL_FWVER, _ => some s.prl.fwVer
  | .PRL_ALTVER, _ =>
    let x := s.prl.slot (!s.prl.runB)
    some (if x.st = 0 then 0 else x.ver)
  | .PRL_SLOTS, _ =>
    let p := s.prl
    some (wd (b2n p.bootB * 2 ^ 24 + p.slotB.tries % 16 * 2 ^ 20 + p.slotB.st % 16 * 2 ^ 16 + p.slotA.tries % 16 * 2 ^ 4
      + p.slotA.st % 16))
  | .PRL_LOG, _ => some (wd s.prl.logOfs)
  | .PRL_LOGSEQ, _ => some (wd s.prl.logSeq)
  | .PRL_STAGE, _ => some (wd (s.prl.owner * 2 ^ 30 + s.prl.extent % 2 ^ 26))
  | .IC_CTRL, _ => some (s.show r ix [(IC_CTRL.DEPTH, s.prl.ic.act.length),
      (IC_CTRL.RUN_GRP, match s.prl.ic.act with
        | p :: _ => p.2
        | [] => 0xFF)])
  | .IC_SRC, [n] => some (s.show r ix [(IC_SRC.PEND, b2n (s.icPending n)), (IC_SRC.ACT, b2n (s.prl.ic.act.any fun p => p.1 == n)),
      (IC_SRC.EDGE, b2n (!icIsLevel n))])
  | .CAL_STATUS, _ => some s.calStatus
  | _, _ => none

/-- What a register shows to a read once the module is ready. -/
def State.view (s : State) (r : Reg) (ix : List Nat) : Word :=
  ((s.viewLoops r ix).orElse fun _ => (s.viewServices r ix).orElse fun _ => (s.viewHost r ix).orElse fun _ =>
    (s.viewPair r ix).orElse fun _ => s.viewManage r ix).getD (s.reg r ix)

/-- What a register elsewhere reads before READY (R464): its reset value, with the F fields loaded so far and the straps where
the reset value is theirs. -/
def State.early (s : State) (r : Reg) (ix : List Nat) : Word :=
  let w := r.dflt s.sys.stage ix
  match r with
  | .PAIR_STATUS => if s.inPair then w ||| wd (b2n s.sys.pref * 2 ^ 9 + s.unit * 2 ^ 8) else w
  | .FAB_STATUS => w ||| wd (b2n s.isMiddle * 2 ^ 6 + s.devid)
  | .PTH_TAG_ID => if s.inFabric then w ||| wd s.sys.devid else if s.inPair then w ||| (s.reg .PTH_TAG_ID [] &&& 0x40) else w
  | _ => w

/-- What a read of a register shows (R12, R464). -/
def State.readReg (s : State) (r : Reg) (ix : List Nat) : Word :=
  if s.modeOff r then 0 else if s.ready || earlyAt (r.at ix) then s.view r ix else s.early r ix

end Sys2Proof.Machine
end

