-- ==== Sys2Proof/Machine/Faults.lean ====
section
/-! DEFINITION. The fault collector (R388 to R407): causes, new faults, escalation, the safe state and its end, parity. -/
namespace Sys2Proof.Machine

/-! ### Sources (R388, R393) -/

/-- Bit of source n in a group register. -/
def State.src (s : State) (r : Reg) (n : Nat) : Bool := bit (n % 32) (s.reg r [n / 32])

/-- Sets bit n of a group register. -/
def State.setSrc (s : State) (r : Reg) (n : Nat) (v : Bool) : State :=
  s.setReg r [n / 32] (fput (n % 32) 1 (b2n v) (s.reg r [n / 32]))

/-- Reaction class of a source (R390, R407). -/
def State.classOfSrc (s : State) (n : Nat) : Nat :=
  if n % 32 < 16 then fget (2 * (n % 32)) 2 (s.reg .FLT_CLASS_LO [n / 32])
  else fget (2 * (n % 32) - 32) 2 (s.reg .FLT_CLASS_HI [n / 32])

/-- Clusters of SETTLE(k) or REF(k) with their cause present: bit i for cluster 18k + i (R393, R405). -/
def State.partBits (s : State) (k : Nat) (x : Fld) : Nat :=
  (List.range 18).foldl (fun a i => a + b2n (decide (s.f x [18 * k + i] ≠ 0)) * 2 ^ i) 0

/-- The egress Cuff clusters whose exchange is not OK (source 197). -/
def State.exchBad (s : State) : List Nat := [138, 139, 142, 143].filter fun c => s.fb SLV_CTRL.RUN [c] && !s.exchOk c

/-- Sources whose cause lies outside the modelled blocks: the SRAM, flash and rail sources, the reference and AER. -/
def extLevel (n : Nat) : Bool := (decide (9 ≤ n) && decide (n ≤ 16)) || n == 227
def extEvent (n : Nat) : Bool := decide (5 ≤ n) && decide (n ≤ 8)

/-- The cause of a source holds as a level (R393). Source 0 holds after a second parity failure (R403). -/
def State.faultLevel (s : State) (n : Nat) : Bool :=
  if 32 ≤ n ∧ n < 176 then s.anyLane (n - 32) fun l => decide (l.sticky.toNat &&& s.f SLV_FLT_EN.EN [n - 32] ≠ 0)
  else if 176 ≤ n ∧ n < 184 then decide (s.partBits (n - 176) TRN_EVT.SETTLE_TO ≠ 0)
  else if 184 ≤ n ∧ n < 192 then decide (s.partBits (n - 184) CNV_STATUS.REF_BAD ≠ 0)
  else match n with
    | 0 => s.flt.ext.contains 0
    | 1 => s.strapFault
    | 2 => s.prl.lsHalt
    | 3 => s.prl.hbLate
    | 17 => s.thm.warn || s.thm.thr
    | 18 => s.thm.thr
    | 19 => s.thm.shut || s.thm.latch
    | 20 => !s.snsBroken.isEmpty
    | 21 => s.tecCause
    | 192 => s.fb PLK_EVT.PUMP_LOW []
    | 193 => decide (10000000 ≤ (s.reg .PLK_CYCLES []).toNat)
    | 194 => s.fb PTH_EVT.TAG_FAULT []
    | 195 => s.fb PTH_EVT.CONT_FAULT []
    | 196 => s.fb PTH_EVT.REPAIR_FAIL []
    | 197 => !s.exchBad.isEmpty
    | 198 => decide (0 < s.nPaths s.viewLayer) && !bit 1 s.cufStatus
    | 199 => s.fb CLR_EVT.PPS_LOST []
    | 200 => s.fb CLR_EVT.REF_LOST []
    | 201 => s.fb CLR_EVT.HOLD_LIMIT []
    | 202 => s.fb CLR_EVT.TOD_JUMP []
    | 225 => s.fb HIF_ERR.DMA_RD []
    | 226 => s.fb HIF_ERR.DMA_WR []
    | 228 => s.fb SGF_EVT.CELL_CRC []
    | 229 => s.inPair && s.fb PAIR_CTRL.MIR_EN [] && decide (s.pair.lanes = 0)
    | 230 => s.fb PAIR_EVT.PEER_LOST []
    | 231 => s.fb PAIR_EVT.DUAL_ACTIVE []
    | 232 => s.fb PAIR_EVT.PREF_CONFLICT []
    | 233 => s.fb PAIR_EVT.CFG_MISMATCH []
    | 234 => s.fb FAB_EVT.DUP_DEVID []
    | 235 => s.fb FAB_EVT.DIGEST []
    | 236 => s.fb FAB_EVT.MISWIRED []
    | m => extLevel m && s.flt.ext.contains m

/-- P1 of a FAULT event (R405): SLV_FLT_SUM, the clusters of a group, the cause register that R393 names, 0 for event causes;
`info` where R393 names no register (log entry). -/
def State.faultInfo (s : State) (n : Nat) (info : Word) : Word :=
  if 32 ≤ n ∧ n < 176 then wd (s.fltSum (n - 32))
  else if 176 ≤ n ∧ n < 184 then wd (s.partBits (n - 176) TRN_EVT.SETTLE_TO)
  else if 184 ≤ n ∧ n < 192 then wd (s.partBits (n - 184) CNV_STATUS.REF_BAD)
  else if extEvent n ∨ n = 4 ∨ n = 22 ∨ n = 224 then 0
  else match n with
    | 0 => s.reg .FLT_PAR []
    | 1 => s.view .HIF_STRAP []
    | 192 => s.reg .PLK_EVT []
    | 193 => s.reg .PLK_CYCLES []
    | 194 => s.reg .PTH_EVT []
    | 195 => s.reg .PTH_EVT []
    | 196 => s.reg .PTH_EVT []
    | 197 => s.slvStatus (s.exchBad.headD 138)
    | 198 => s.cufStatus
    | 199 => s.reg .CLR_EVT []
    | 200 => s.reg .CLR_EVT []
    | 201 => s.reg .CLR_EVT []
    | 202 => s.reg .CLR_EVT []
    | 225 => s.reg .HIF_ERR []
    | 226 => s.reg .HIF_ERR []
    | 228 => s.reg .SGF_EVT []
    | 230 => s.reg .PAIR_EVT []
    | 231 => s.reg .PAIR_EVT []
    | 232 => s.reg .PAIR_EVT []
    | 233 => s.reg .PAIR_EVT []
    | 234 => s.reg .FAB_EVT []
    | 235 => s.reg .FAB_EVT []
    | 236 => s.reg .FAB_EVT []
    | _ => info

/-! ### The safe state (R398 to R402) -/

/-- Stores the collector. -/
def State.setFlt (s : State) (k : Flt) : State := { s with flt := k }

/-- The path service and the Yoke at the entry (R186, R210, R218, R398): unfired transactions are aborted, newest first, and so
is one whose checks are done; repairs and roll-backs that have not fired lose their patterns and wait; probe patterns are
dropped; the calendar ends. -/
def State.safePaths (s : State) : State :=
  let s1 := match s.pth.cur with
    | some c => if c.txn.reqs.length ≤ c.idx then (s.setCur none).rejectTxn c.txn stAbort else s
    | none => s
  let l := (s1.pth.placed.filter fun p => !p.fired && !p.rb).reverse
  let s2 := l.foldl State.abortTxn s1
  let pats := (s2.pth.placed.filter fun p => p.rb && p.staged && !p.fired).map Placed.pat
  let s3 : State := { s2 with pth := { s2.pth with
    placed := s2.pth.placed.map fun p : Placed =>
      if p.rb && p.staged && !p.fired then { p with staged := false, pat := 0 }
      else if p.rolled && p.waits.any (fun w => pats.contains w) then { p with waits := none } else p } }
  let s4 := (s3.pth.reps.filter fun r => r.staged && !r.fired).foldl State.unstageRep (pats.foldl State.freePat s3)
  let s5 : State := { s4 with yk := { s4.yk with store := s4.yk.store.filter fun p : PatEnt =>
    !(p.kind == .probe && !(p.st == .inFlight)) } }
  let cal := decide (2 ≤ s5.yk.mode)
  let s6 := s5.dropLayers
  let s7 : State := { s6 with yk := { s6.yk with mode := 0, calPend := false, swPend := false, entry := 0 } }
  let s8 := s7.setF YK_CTRL.CAL_RUN [] 0
  if cal then s8.raise YK_EVT.CAL_STOPPED [] else s8

/-- The clusters take the safe command (R121, R148): every transition under way ends ABORTED. -/
def State.safeClusters (s : State) (on : Bool) : State :=
  let s1 := (List.range 144).foldl (fun (s : State) c => s.setCl c { s.cl c with safe := on }) s
  if on then (s.lanes.map Prod.fst).foldl State.abortLane s1 else s1

/-- A source holds the safe state (R399 to R401); the first entry takes all of its effects. -/
def State.enterSafe (s : State) (n : Nat) : State :=
  let s1 := (s.setSrc .FLT_HELD n true).setFlt { s.flt with exitPend := false }
  if s.flt.safe then s1
  else
    let s2 := (s1.setReg .FLT_SAFE [] (wd n)).bump .FLT_SAFE_CNT [] 1
    let s3 := s2.setFlt { s2.flt with safe := true, entering := true }
    let s4 := doReleaseRequest s3
    let s4 := s4.safeClusters true
    let s5 := State.schedEvent s4 (s4.setPair { s4.pair with healthRun := 0 }).safePaths
    (((s5.calAbort 2).loseSync 6).sgfSafe).post 1 0x11 n []

/-- The safe state ends (R402): repairs and roll-backs that waited are staged (R182), probe routes released (R476). The
Placket is not engaged (R465). -/
def State.exitSafe (s : State) : State :=
  let s1 := (s.setFlt { s.flt with safe := false, exitPend := false }).safeClusters false
  let s2 := State.schedEvent s1 s1.stageWaiting.sweepLost
  (if s2.cal.busy then s2 else s2.calRelease).post 1 0x12 0 []

/-- The exit of R401 is taken when no source holds the safe state, or deferred while the entry runs. -/
def State.exitCheck (s : State) : State :=
  if !s.flt.safe || (List.range 8).any (fun g => decide (s.reg .FLT_HELD [g] &&& s.reg .FLT_STAT [g] ≠ 0)) then s
  else if s.flt.entering then s.setFlt { s.flt with exitPend := true }
  else s.exitSafe

/-- SAFE_ENTRY_COMPLETE (R399, R401): ENTERING clears once the Placket is RELEASED and the events of the entry are written;
`force`: T+50 µs is reached. A deferred exit is taken. -/
def doSafeEntryComplete (force : Bool) (s : State) : State :=
  let done := decide (s.plk.st = .released) && !(s.hif.evq.any fun e => e.code == 0x11)
  if !s.flt.entering || !(force || done) then s
  else
    let s1 := s.setFlt { s.flt with entering := false }
    if s.flt.exitPend then s1.exitCheck else s1

/-- Meaning of SAFE_ENTRY_COMPLETE (R399). -/
def execSafeEntryComplete (force : Bool) (s : State) : Host.Outcome State Fault Refusal := .next (doSafeEntryComplete force s)

/-! ### New faults (R389 to R392) -/

/-- The escalation timer of a source starts, or starts again (R394). -/
def State.escStart (s : State) (n : Nat) : State :=
  s.setFlt { s.flt with esc := (s.flt.esc.filter fun x => x.1 ≠ n) ++ [(n, s.f FLT_CTRL.ESC_MS [])] }

/-- The timer of a source stops. -/
def State.escStop (s : State) (n : Nat) : State := s.setFlt { s.flt with esc := s.flt.esc.filter fun x => x.1 ≠ n }

/-- The payload of a FAULT event (R405). P2 counts in nine bits: lanes modulo 512 (DESIGN CHOICE, log entry 227). -/
def State.faultPl (s : State) (n : Nat) (forced esc safe : Bool) (info : Word) (lanes : Nat) : List Word :=
  [wd (s.classOfSrc n + b2n forced * 4 + b2n esc * 8 + b2n safe * 16), s.faultInfo n info, wd (lanes % 512)]

/-- A new fault of source n (R389 to R392): its status, its capture mark, and the actions of its class. -/
def State.newFault (s : State) (n : Nat) (forced : Bool) (info : Word) : State :=
  let c := s.classOfSrc n
  let s1 := (s.setSrc .FLT_STAT n true).offer 0x10 255 0 s.tag [wd n, wd c]
  if !s1.src .FLT_EN n then s1
  else
    let pl := s1.faultPl n forced false (immediate n) info 0
    if immediate n then (s1.post 1 0x10 n pl).enterSafe n
    else if c = 0 then s1.logPut 1 0 n pl
    else
      let s2 := s1.post 1 0x10 n pl
      if c = 2 then s2.escStart n else s2

/-- FAULT_SOURCE_SET (R389): the cause of source n in a cycle of the collector. `cause` is the cause of a source outside the
modelled blocks; every other one is computed. -/
def doFaultSourceSet (n : Nat) (cause : Bool) (info : Word) (s : State) : State :=
  if s.sys.por then s
  else
    let s0 := if extLevel n then s.setFlt { s.flt with ext := if cause then s.flt.ext.filter (· ≠ n) ++ [n] else s.flt.ext.filter (· ≠ n) }
      else s
    let ev := s0.flt.evc.find? fun x => x.1 == n
    let forced := ev.any Prod.snd
    let s1 := match ev with
      | some x => s0.setFlt { s0.flt with evc := s0.flt.evc.erase x }
      | none => s0
    let holds := realSource n && (ev.isSome || s1.faultLevel n || (extEvent n && cause))
    if !(holds || forced) || s.sys.mainRst || s.sys.thmRst then s1
    else if forced || !s1.src .FLT_STAT n then s1.newFault n forced info
    else s1

/-- Meaning of FAULT_SOURCE_SET (R389). -/
def execFaultSourceSet (n : Fin 256) (cause : Bool) (info : Word) (s : State) : Host.Outcome State Fault Refusal :=
  .next (doFaultSourceSet n cause info s)

/-- A hardware restart asserts the safe-state command in the cycle of the shutdown, without firmware (R415): source 19 sets, or, set
already, holds the safe state again. -/
def State.thermalSafe (s : State) : State :=
  if s.sys.mainRst then s else if s.src .FLT_STAT 19 then s.enterSafe 19 else s.newFault 19 false 0

/-- SENSOR_MEASURE (R409, R415): a measurement, and the safe state where it makes the thermal block restart the module. -/
def doSensors (t : Nat) (l : List SnsRead) (s : State) : State :=
  let u := doSensorMeasure t l s
  if u.thm.restartP && !s.thm.restartP then u.thermalSafe else u

/-- Meaning of SENSOR_MEASURE (R409). -/
def execSensorMeasure (t : Nat) (l : List SnsRead) (s : State) : Host.Outcome State Fault Refusal := .next (doSensors t l s)

/-- FLT_FORCE (R392): each source written with 1 sees its cause at the next cycle; reserved sources never set. -/
def doFltForce (g : Nat) (v : Word) (s : State) : State :=
  let l := ((List.range 32).filter fun j => bit j v && realSource (32 * g + j)).map fun j => (32 * g + j, true)
  s.setFlt { s.flt with evc := s.flt.evc ++ l }

/-- Meaning of FLT_FORCE (R392). -/
def execFltForce (g : Fin 8) (v : Word) (s : State) : Host.Outcome State Fault Refusal :=
  .next (s.hostWr .FLT_FORCE [g] (doFltForce g v))

/-! ### Clears (R389, R395, R401) -/

/-- The status of a source is cleared with its cause gone. -/
def State.clearSrc (s : State) (n : Nat) : State :=
  let s1 := (((s.setSrc .FLT_STAT n false).setSrc .FLT_ACTED n false).setSrc .FLT_HELD n false).escStop n
  if n = 0 then s1.setF FLT_PAR.VALID [] 0 else s1

/-- FLT_STAT_CLEAR (R389, R395): a write of FLT_STAT; a status whose cause holds sets again at once, as a continuation. -/
def doFltStatClear (g : Nat) (v : Word) (s : State) : State :=
  let l := ((List.range 32).filter fun j => bit j v).map fun j => 32 * g + j
  let s1 := l.foldl (fun s n => if s.src .FLT_STAT n && !s.faultLevel n then s.clearSrc n else s) s
  s1.exitCheck

/-- Meaning of FLT_STAT_CLEAR (R395). -/
def execFltStatClear (g : Fin 8) (v : Word) (s : State) : Host.Outcome State Fault Refusal :=
  .next (s.hostWr .FLT_STAT [g] (doFltStatClear g v))

/-! ### Enables and classes (R390, R391, R394) -/

/-- An enabled ESCALATE source. -/
def State.escalates (s : State) (n : Nat) : Bool := s.src .FLT_EN n && decide (s.classOfSrc n = 2)

/-- The timers of group g after its enables or classes changed from those of o (R394). -/
def State.escUpdate (o s : State) (g : Nat) : State :=
  (List.range 32).foldl (fun (s : State) j =>
    let n := 32 * g + j
    if immediate n || o.escalates n == s.escalates n then s
    else if s.escalates n then (if s.src .FLT_STAT n then s.escStart n else s)
    else s.escStop n) s

/-- A class word as a write leaves it: a field written 3 keeps its class, and so do the immediate sources. -/
def classWord (n0 : Nat) (o v : Word) : Word :=
  wd (pairsWord fun j => if fget (2 * j) 2 v = 3 ∨ immediate (n0 + j) = true then fget (2 * j) 2 o else fget (2 * j) 2 v)

/-- FLT_CONFIG_WRITE (R390, R391, R394): a write of FLT_EN (0), FLT_CLASS_LO (1) or FLT_CLASS_HI (2) of group g. -/
def doFltConfig (g w : Nat) (v : Word) (s : State) : State :=
  let s1 := match w with
    | 0 => s.setReg .FLT_EN [g] (v ||| wd (bitsWord fun j => immediate (32 * g + j)))
    | 1 => s.setReg .FLT_CLASS_LO [g] (classWord (32 * g) (s.reg .FLT_CLASS_LO [g]) v)
    | _ => s.setReg .FLT_CLASS_HI [g] (classWord (32 * g + 16) (s.reg .FLT_CLASS_HI [g]) v)
  State.escUpdate s s1 g

/-- Meaning of FLT_CONFIG_WRITE (R394). -/
def execFltConfigWrite (g : Fin 8) (w : Fin 3) (v : Word) (s : State) : Host.Outcome State Fault Refusal :=
  .next (s.hostWr .FLT_EN [g] (doFltConfig g w v))

/-! ### Escalation (R394 to R396, R400) -/

/-- A lane that the expiry of source n isolates (R396). -/
def State.isolates (s : State) (n e : Nat) : Bool :=
  if n < 176 then decide (e / 256 = n - 32) && ((s.lane e).st == .fault || s.stickyEn e)
  else decide (e / 256 / 18 = n - 176) && decide (fget 28 4 (s.prfLast e) = 3)

/-- Isolates a lane (R148, R396). -/
def State.isolate (s : State) (e : Nat) : State := (s.setLane e { s.lane e with isol := true }).abortLane e

/-- ESCALATION_EXPIRY (R394): the timer of source n expires `us` microseconds after its start, within 10 µs of ESC_MS. -/
def doEscalationExpiry (n us : Nat) (info : Word) (s : State) : State :=
  match s.flt.esc.find? fun x => x.1 == n with
  | none => s
  | some x =>
    if us + 10 < x.2 * 1000 then s
    else
      let s1 := (s.escStop n).setSrc .FLT_ACTED n true
      if 32 ≤ n ∧ n < 184 then
        let l := (s1.lanes.map Prod.fst).filter (s1.isolates n)
        (l.foldl State.isolate s1).post 1 0x10 n (s1.faultPl n false true false info l.length)
      else (s1.post 1 0x10 n (s1.faultPl n false true true info 0)).enterSafe n

/-- Meaning of ESCALATION_EXPIRY (R394). -/
def execEscalationExpiry (n : Fin 256) (us : Nat) (info : Word) (s : State) : Host.Outcome State Fault Refusal :=
  .next (doEscalationExpiry n us info s)

/-! ### Parity (R403) -/

/-- The words that carry parity: FLT_CTRL, then EN, CLASS_LO and CLASS_HI of each group. -/
def parityReg (i : Nat) : Reg × List Nat :=
  if i = 0 then (.FLT_CTRL, [])
  else ((if (i - 1) % 3 = 0 then .FLT_EN else if (i - 1) % 3 = 1 then .FLT_CLASS_LO else .FLT_CLASS_HI), [(i - 1) / 3])

/-- PARITY_ERROR (R403): word i reverts to its hardware reset value, FLT_PAR records it, and source 0 sets; `again`: the word
fails once more after the revert. -/
def doParityError (i : Nat) (again : Bool) (s : State) : State :=
  if s.sys.por || s.sys.mainRst || s.sys.thmRst then s
  else
    let p := parityReg i
    let s1 := s.setReg p.1 p.2 (wd (Reg.hw p.1 p.2))
    let s2 := if i = 0 then s1 else State.escUpdate s s1 ((i - 1) / 3)
    let s3 := s2.setReg .FLT_PAR [] (wd (2 ^ 31 + (p.1.at p.2 - 0x80000)))
    let s4 := if again then s3.setFlt { s3.flt with ext := s3.flt.ext.filter (· ≠ 0) ++ [0] } else s3
    if s4.src .FLT_STAT 0 then s4 else s4.newFault 0 false 0

/-- Meaning of PARITY_ERROR (R403). -/
def execParityError (i : Fin 25) (again : Bool) (s : State) : Host.Outcome State Fault Refusal := .next (doParityError i again s)

end Sys2Proof.Machine
end

