-- ==== Sys2Proof/Machine/Boot.lean ====
section
/-! DEFINITION. Resets and the boot (R415, R460 to R464): power-on reset, the main-rail and thermal restarts, the resets of
PCIe, and the boot stages. -/
namespace Sys2Proof.Machine

/-! ### What a reset keeps -/

/-- Registers whose value is module flash data: PLK_CYCLES, TRIM_WORN and CAL_LAST (R21, R60, R470, R478). -/
def flashReg (a : Nat) : Bool :=
  a == Reg.at .PLK_CYCLES [] || a == Reg.at .TRIM_WORN [] || (decide (Reg.at .CAL_LAST [0] ≤ a) && decide (a ≤ Reg.at .CAL_LAST [3]))

/-- Prale after a reset: boot record, with a rollback not yet told (R456), SVN floor, log and flash stay (R436, R454). -/
def Prl.keep (p : Prl) : Prl :=
  { Prl.reset with
    rbEvt := p.rbEvt, slotA := p.slotA, slotB := p.slotB, bootB := p.bootB, svnFloor := p.svnFloor, logOfs := p.logOfs, logSeq := p.logSeq
    flash := p.flash }

/-- Calibration after a reset: what module flash and the trim cells hold (R470, R476, R478). -/
def Cal.keep (k : Cal) : Cal :=
  { Cal.reset with stored := k.stored, storedSp := k.storedSp, pulses := k.pulses }

/-- Every block at its reset state but module flash, the pins that come from outside, the queue of commands and the model's own
fields (R460). -/
def State.wholeReset (s : State) : State :=
  { State.reset with
    pending := s.pending, freeN := s.freeN, rdata := s.rdata, hostMem := s.hostMem
    sys := { State.reset.sys with pcie := s.sys.pcie, hvOk := s.sys.hvOk }
    regs := s.regs.filter fun p : Nat × Word => flashReg p.1
    pair := { Pair.reset with sel := s.pair.sel }
    pwm := s.pwm.map fun p : Nat × Pwm => (p.1, { Pwm.reset with flt := p.2.flt })
    cal := s.cal.keep
    prl := s.prl.keep }

/-- Registers of the always-on domain with F fields (R430, R431, R461). -/
def thermalF : List (Reg × List Nat) :=
  [(.TEC_CTRL, []), (.TEC_GAIN, [])] ++ (List.range 160).map (fun i => (Reg.THM_SNS, [i]))
    ++ (List.range 144).map (fun c => (Reg.THM_OFS, [c])) ++ (List.range 4).map fun k => (Reg.PWM_CTRL, [k])

/-- Every domain but the always-on domain is reset (R415, R460): the thermal block and PWM go on with what their registers hold, the
sensors among them (R408), in phase START, with the restart counted. A device that is ISOLATED stays so (R363). -/
def State.mainReset (s : State) : State :=
  let u := s.wholeReset
  let r : State := { u with
    sys := { s.sys with stage := 0, stopped := false, readySince := false }
    regs := s.regs.filter fun p : Nat × Word => flashReg p.1 || (decide (0x90000 ≤ p.1) && decide (p.1 < 0xA0000))
    thm := { s.thm with start := true, restartP := false }
    pwm := s.pwm
    fab := { Fab.reset with st := if s.fab.st = 2 then 2 else 0 }
    flt := { u.flt with ext := s.flt.ext.filter fun n : Nat => decide (9 ≤ n) && decide (n ≤ 16) } }
  let r1 := thermalF.foldl (fun (r : State) (p : Reg × List Nat) => r.setReg p.1 p.2 (s.reg p.1 p.2)) r
  (r1.bump .THM_RESTARTS [] 1).setF THM_EVT.RESTARTED [] 1

/-- The straps are sampled (R28, R29, R461), and the tag identity takes DEVID in FABRIC (R189), the unit number in PAIR (R332). The
reserved mode is a strap fault, which puts the module into the safe state at once (R28). -/
def State.straps (s : State) (m : Nat) (pref : Bool) (devid : Nat) (src : Bool) : State :=
  let s1 : State := { s with sys := { s.sys with mode := m, pref := pref, devid := devid, bootSrc := src } }
  if m = 2 then
    let s2 := s1.setF PTH_TAG_ID.DEVID [] devid
    { s2 with pth := { s2.pth with tagId := devid } }
  else if m = 1 then
    let s2 := s1.setF PTH_TAG_ID.UNIT [] s1.unit
    { s2 with pth := { s2.pth with tagId := 64 * s1.unit } }
  else if m = 3 then s1.newFault 1 false 0
  else s1

/-! ### Resets (R415, R460) -/

/-- POWER_ON_RESET (R460): the whole module. -/
def doPowerOnReset (s : State) : State := s.wholeReset

/-- Meaning of POWER_ON_RESET (R460). -/
def execPowerOnReset (s : State) : Host.Outcome State Fault Refusal := .next (doPowerOnReset s)

/-- POR_RELEASE (R28, R460): the straps are sampled and stage 1 begins. -/
def doPorRelease (m : Nat) (pref : Bool) (devid : Nat) (src : Bool) (s : State) : State :=
  if !s.sys.por then s
  else State.straps { s with sys := { s.sys with por := false, stage := 1 } } m pref devid src

/-- Meaning of POR_RELEASE (R460). -/
def execPorRelease (m : Fin 4) (pref : Bool) (devid : Fin 64) (bootSrc : Bool) (s : State) : Host.Outcome State Fault Refusal :=
  .next (doPorRelease m pref devid bootSrc s)

/-- The source of a main rail: VCORE, VSRAM, VSERDES, VANA (R393, R460). -/
def railSource (rail : Nat) : Nat := if rail = 3 then 13 else 9 + rail

/-- MAIN_RAIL_RESET (R460): every domain but the always-on domain; the status of the rail's source is kept. -/
def doMainRailReset (rail : Nat) (s : State) : State :=
  if s.sys.por then s
  else
    let n := railSource rail
    let r := if s.sys.mainRst then s else s.mainReset
    let r1 : State := { r with
      sys := { r.sys with mainRst := true }, flt := { r.flt with ext := r.flt.ext.filter (· ≠ n) ++ [n] } }
    r1.setReg .FLT_STAT [0] (r1.reg .FLT_STAT [0] ||| wd (2 ^ n))

/-- Meaning of MAIN_RAIL_RESET (R460). -/
def execMainRailReset (rail : Fin 4) (s : State) : Host.Outcome State Fault Refusal := .next (doMainRailReset rail s)

/-- MAIN_RAIL_RESET_RELEASE (R460): boot from stage 0, unless the hardware restart holds the main domains too. MODE stays as
power-on reset sampled it (R28; DEDUCED, log entry 125). -/
def doMainRailRelease (pref : Bool) (devid : Nat) (src : Bool) (s : State) : State :=
  if !s.sys.mainRst then s
  else
    let s1 : State := { s with sys := { s.sys with mainRst := false } }
    if s.sys.thmRst then s1 else s1.straps s.sys.mode pref devid src

/-- Meaning of MAIN_RAIL_RESET_RELEASE (R460). -/
def execMainRailResetRelease (_ : Fin 4) (pref : Bool) (devid : Fin 64) (bootSrc : Bool) (s : State) :
    Host.Outcome State Fault Refusal := .next (doMainRailRelease pref devid bootSrc s)

/-- THERMAL_RESTART (R415): 50 µs after a shutdown outside SERVICE took the safe state, with the Placket RELEASED, the thermal block
holds every domain but the always-on domain in reset. -/
def doThermalRestart (s : State) : State :=
  if s.sys.por || !s.thm.restartP || !(s.plk.st == .released) then s
  else
    let r := s.mainReset
    { r with sys := { r.sys with thmRst := true } }

/-- Meaning of THERMAL_RESTART (R415). -/
def execThermalRestart (s : State) : Host.Outcome State Fault Refusal := .next (doThermalRestart s)

/-- THERMAL_RESTART_RELEASE (R415): 100 ms of measurements below WARN_C − 5 K; the module boots as after power-on reset, with the
MODE that power-on reset sampled (R28; DEDUCED, log entry 125). -/
def doThermalRelease (pref : Bool) (devid : Nat) (src : Bool) (s : State) : State :=
  if !s.sys.thmRst || decide (s.thm.cool < 1000) then s
  else
    let s1 : State := { s with sys := { s.sys with thmRst := false } }
    if s.sys.mainRst then s1 else State.straps { s1 with sys := { s1.sys with stage := 1 } } s.sys.mode pref devid src

/-- Meaning of THERMAL_RESTART_RELEASE (R415). -/
def execThermalRestartRelease (_ : Fin 4) (pref : Bool) (devid : Fin 64) (bootSrc : Bool) (s : State) :
    Host.Outcome State Fault Refusal := .next (doThermalRelease pref devid bootSrc s)

/-- PCIE_FUNCTION_RESET (R226, R460): the ring state of the host interface; a link-down event is source 224, and PERST_N
asserted takes the endpoint down. -/
def doPcieReset (k : PcieRst) (s : State) : State :=
  let s1 := s.resetHif
  match k with
  | .linkDown => s1.cause 224
  | .perst => { s1 with sys := { s1.sys with pcie := false } }
  | _ => s1

/-- Meaning of PCIE_FUNCTION_RESET (R226). -/
def execPcieFunctionReset (k : PcieRst) (s : State) : Host.Outcome State Fault Refusal := .next (doPcieReset k s)

/-- PERST_N_DEASSERTION (R461): the endpoint leaves reset. -/
def doPerstDeassert (s : State) : State := { s with sys := { s.sys with pcie := true }, pwr := { s.pwr with off := false } }

/-- Meaning of PERST_N_DEASSERTION (R461). -/
def execPerstNDeassertion (s : State) : Host.Outcome State Fault Refusal := .next (doPerstDeassert s)

/-! ### Boot stages (R461 to R463) -/

/-- The cause of PRL_BOOT for a stage that fails; 0 where the register has no cause for the stage (R479). -/
def bootCause (stage : Nat) : Nat :=
  match stage with
  | 2 => 1 | 3 => 2 | 5 => 3 | 6 => 4 | 7 => 5 | 14 => 6 | 12 => 7 | _ => 0

/-- The boot stops (R463): PRL_BOOT tells the stage and its cause, and the log has an entry. -/
def State.bootStop (s : State) : State :=
  let n := s.sys.stage
  let s1 : State := { s with sys := { s.sys with stopped := true } }
  (s1.setReg .PRL_BOOT [] (wd (2 ^ 31 + n * 2 ^ 24 + bootCause n))).logPut 3 0 0 []

/-- The stage is completed: the next one is in force. Fields that firmware loads in it hold their values from then on (R15). -/
def State.nextStage (s : State) : State := { s with sys := { s.sys with stage := s.sys.stage + 1 } }

/-- Firmware loads the F fields of registers `l` over what they hold. -/
def State.loadF (s : State) (l : List (Reg × List Nat)) : State :=
  l.foldl (fun (s : State) (p : Reg × List Nat) =>
    let m := wd p.1.row.fwm
    s.setReg p.1 p.2 ((s.reg p.1 p.2 &&& ~~~ m) ||| (wd (Reg.fw p.1 p.2) &&& m))) s

/-- Registers of the fault collector with F fields (R407). -/
def faultF : List (Reg × List Nat) :=
  (List.range 8).flatMap fun g => [(.FLT_EN, [g]), (.FLT_CLASS_LO, [g]), (.FLT_CLASS_HI, [g])]

/-- Stage 3 (R455): the image to run, from the slots or, with BOOT_SRC = 1, from staging through the OOB window, for which the
boot waits; with no image in the slots it stops. -/
def State.bootImage (s : State) : State :=
  if s.sys.bootSrc then
    if s.prl.owner = 2 ∧ s.prl.extent ≠ 0 ∧ s.verify flashStage s.prl.extent = 0 then
      let s1 := s.setPrl { s.prl with fwVer := wd (hdr (s.flashGet flashStage 4096) 8 4) }
      s1.nextStage
    else s
  else
    let r := s.bootRom
    if r.2 then r.1.nextStage else r.1.bootStop

/-- Stage 6 (R461): module data; the TEC loop and the PWM channels are enabled. -/
def State.bootData (s : State) : State :=
  let was := (List.range 4).map fun k => s.fb PWM_CTRL.EN [k]
  let s1 := s.nextStage.loadF thermalF
  let s2 := s1.setThm { s1.thm with seen := false, out := 0, tecTo := false }
  let s3 := (List.range 4).foldl (fun (s : State) k =>
    if s.fb PWM_CTRL.EN [k] && !(was.getD k false) then s.pwmStart k 0 else s) s2
  let s4 : State := { s3 with cal := { s3.cal with consts := s3.cal.stored } }
  s4.cal.storedSp.foldl (fun (s : State) (p : Nat × Word) => s.setReg .SETPT [p.1 / 512, p.1 / 2 % 256, p.1 % 2] p.2) s4

/-- A lane as stage 9 leaves it: the rest state of the BAR row of R44, or BLOCK. Its tone synthesiser and the conversions of its
taps run on (R123). -/
def State.restLane (s : State) (e : Nat) : Lane :=
  let slot := isCuffE e || nodeSlot false (qE e)
  let d := s.slotDrive e slot
  let l := s.lane e
  { Lane.reset with
    st := if isCuffE e then .block else .off, cmd := slot, drv := d, buf := d, loaded := d, out := l.out
    acc := l.acc, rem := l.rem, on := l.on, amp := l.amp, ash := l.ash, zc := l.zc
    tap0 := { l.tap0 with hi := nextHi e slot false l.tap0.ovl }
    tap1 := { l.tap1 with hi := nextHi e slot true l.tap1.ovl } }

/-- Stage 9 (R461): every lane is commanded to rest. -/
def State.bootDrive (s : State) : State :=
  let s1 := s.nextStage
  { s1 with lanes := (List.range 36864).map fun e => (e, s1.restLane e) }

/-- Stage 10 (R461): RUN = 1; every switching lane in HOLD (dark). -/
def State.bootLoops (s : State) : State :=
  let s1 := s.nextStage
  { s1 with
    clusters := (List.range 144).map fun c => (c, { s1.cl c with runAct := true, tick := 0 })
    lanes := s1.lanes.map fun p : Nat × Lane => (p.1, if isCuffE p.1 then p.2 else (p.2.hold 0).restart) }

/-- Stage 13 (R407, R461): enables and classes of the fault collector. -/
def State.bootFaults (s : State) : State :=
  let s1 := s.nextStage.loadF faultF
  (List.range 8).foldl (fun s' g => State.escUpdate s s' g) s1

/-- Stage 14 ends (R461, R456): READY; the phase START and the start-up inhibit end, and a rollback is reported. The
Placket is not engaged (R465). -/
def State.bootReady (s : State) : State :=
  let s1 := s.nextStage
  let s2 : State := { s1 with
    sys := { s1.sys with readySince := true }
    thm := { s1.thm with start := false } }
  let s3 := s2.roleStep
  match s3.prl.rbEvt with
  | some x => (s3.setPrl { s3.prl with rbEvt := none }).mgmtEvent 3 [wd x.1, wd (b2n x.2)]
  | none => s3

/-- The tests of stage 14 on what the module itself holds (R461): every cluster has RUN_ACT, OUT_EN and its references settled. -/
def State.selfTest (s : State) : Bool :=
  (List.range 144).all fun c => (s.cl c).runAct && s.fb DRV_CTRL.OUT_EN [c] && (List.range 8).all (s.cl c).settled

/-- BOOT_STAGE (R461, R463): the stage in force completes, or its test fails: `ok` is the outcome of the tests on what lies
outside the model (rails, sensors, SRAM, clocks, the parity of module data). With BOOT_SRC = 1 stage 3 has no bound (R462). A
stage without a cause in PRL_BOOT cannot fail. PUMP_OK rises when stage 2 ends with the high-voltage supplies within limits: the
spec gives no moment of its first rise (DESIGN CHOICE, log entry 181). -/
def doBootStage (b : BootIn) (s : State) : State :=
  if s.inReset || s.sys.stopped || decide (15 ≤ s.sys.stage) then s
  else if s.sys.stage = 3 ∧ s.sys.bootSrc = true then s.bootImage
  else if !b.ok || (decide (s.sys.stage = 14) && !s.selfTest) then (if bootCause s.sys.stage = 0 then s else s.bootStop)
  else match s.sys.stage with
    | 2 => State.nextStage { s with
        plk := { s.plk with pumpOk := s.sys.hvOk }, prl := { s.prl with awake := true } }
    | 3 => s.bootImage
    | 4 => State.nextStage { s with prl := { s.prl with remap := true } }
    | 6 => s.bootData
    | 9 => s.bootDrive
    | 10 => s.bootLoops
    | 13 => s.bootFaults
    | 14 => s.bootReady
    | _ => s.nextStage

/-- Meaning of BOOT_STAGE (R461). -/
def execBootStage (b : BootIn) (s : State) : Host.Outcome State Fault Refusal := .next (doBootStage b s)

end Sys2Proof.Machine
end

