-- ==== Sys2Proof/Machine/Regs.lean ====
section
/-! DEFINITION. Register accesses of the host (R11 to R15, R228, R464): what a write of each register does, and what a read
clears or latches. -/
namespace Sys2Proof.Machine

/-! ### Values a field takes instead of the one written -/

/-- A field of a written word replaced by what `f` makes of it. -/
def mapF (x : Fld) (f : Nat → Nat) (v : Word) : Word := fput x.lo x.len (f (fget x.lo x.len v)) v

/-- Clamps of written fields in the clusters (R99, R131, R151). -/
def fixCluster (r : Reg) (c : Nat) (o v : Word) : Word :=
  match r with
  | .SLV_LOOP => mapF SLV_LOOP.LOCK_CNT (max 1) v
  | .SLV_LIM => mapF SLV_LIM.INT_LIMIT (min 32767) v
  | .SLV_FAULT => mapF SLV_FAULT.LEAK_CNT (max 1) (mapF SLV_FAULT.SAT_HOLD (max 1) v)
  | .SLV_LEARN => mapF SLV_LEARN.LTICK (clampN 10 20) v
  | .SLV_CUF => if isCuffC c then mapF SLV_CUF.CUF_TAU (clampN 8 12) v else 0
  | .CNV_RANGE => keep3 0 o v
  | .LSG_CTRL => keep3 0 o (keep3 2 o (keep3 4 o v))
  | .PRF_LIM_A => mapF PRF_LIM_A.AMAX (max 1) (mapF PRF_LIM_A.JMAX (max 1) v)
  | .PRF_LIM_B => mapF PRF_LIM_B.NMIN (max 1) (mapF PRF_LIM_B.VMAX (max 1) v)
  | .SET_CFG => mapF SET_CFG.SET_FRAMES (max 1) (if isCuffC c then fput 16 16 0 v else v)
  | _ => v

/-- Clamps of written fields of the path service, the time block and the schedule engine (R189, R223, R224). -/
def fixServices (r : Reg) (v : Word) : Word :=
  match r with
  | .PTH_EQ => mapF PTH_EQ.EQ_PERIOD (clampN 1 1000) v
  | .PTH_CHK => mapF PTH_CHK.CONT_DB (max 1) (mapF PTH_CHK.CONT_N (max 1) (mapF PTH_CHK.MISMATCH_N (max 1)
      (mapF PTH_CHK.WORD_BAD_N (max 1) (mapF PTH_CHK.TONE_LOSS_N (max 1) v))))
  | .CLR_DISC => mapF CLR_DISC.LOCK_N (max 1) (mapF CLR_DISC.LOCK_THR (max 1) (mapF CLR_DISC.PPS_WIN (max 100) v))
  | .CLR_HOLD => mapF CLR_HOLD.PPS_LOSS_N (max 1) v
  | .YK_HORIZON => mapF YK_HORIZON.HORIZON (max 1) v
  | .YK_CAL_N => mapF YK_CAL_N.N_A (clampN 1 64) (mapF YK_CAL_N.N_B (clampN 1 64) v)
  | .YK_CAL_AT2 => mapF YK_CAL_AT2.US (min 999999) v
  | .YK_CAL_ENT => mapF YK_CAL_ENT.LEN_US (clampN 20 1000000) v
  | _ => v

/-- A colour field: 3 is stored as 2 (R328). -/
def colours (v : Word) : Word := wd (pairsWord fun k => min 2 (fget (2 * k) 2 v))

/-- Clamps of written fields of the host interface and the signalling fabric (R237, R276, R309, R312, R328 to R330). -/
def fixHost (r : Reg) (ix : List Nat) (v : Word) : Word :=
  match r, ix with
  | .RING_COAL, _ => mapF RING_COAL.COAL_CNT (max 1) v
  | .CAP_RSV, _ => mapF CAP_RSV.RSV (min 4000) v
  | .SGF_BUF, _ => mapF SGF_BUF.INPUT_MAX (max 5) (mapF SGF_BUF.VOQ_MAX (max 72) v)
  | .SGF_FWD_RES, _ => mapF SGF_FWD_RES.TYPE (min 2) v
  | .MC_MASK, [_, 2] => v &&& 1
  | .TRC_PCPCOL, _ => colours v
  | .SHP_CIR, _ => mapF SHP_CIR.CIR (min 50000000) v
  | .POL_CIR, _ => mapF POL_CIR.CIR (min 50000000) v
  | _, _ => v

/-- Clamps of written fields of the pair and fabric logic, the collector, the thermal block, PWM, Prale and calibration (R362,
R387, R406, R430, R431, R457, R458, R479). -/
def fixManage (r : Reg) (ix : List Nat) (v : Word) : Word :=
  match r, ix with
  | .PAIR_TIME, _ => mapF PAIR_TIME.TSKEW_MAX (clampN 20 10000) (mapF PAIR_TIME.MIR_TO (clampN 2 1000) v)
  | .PAIR_WD, _ => mapF PAIR_WD.PEER_TO (clampN 2 1000) (mapF PAIR_WD.HB_MS (clampN 1 1000) v)
  | .HEALTH_MASK, _ => v &&& 0x0FFF
  | .FAB_CTRL, _ => mapF FAB_CTRL.FAB_LEAD (clampN 20 10000) (mapF FAB_CTRL.TRIES (max 1) v)
  | .FAB_TIME0, _ => mapF FAB_TIME0.HELLO_N (max 1) (mapF FAB_TIME0.HELLO_US (max 2) v)
  | .FAB_TIME1, _ => mapF FAB_TIME1.PROBE_MS (clampN 500 10000) (mapF FAB_TIME1.DISC_MS (clampN 10 10000) v)
  | .FAB_TIME2, _ => mapF FAB_TIME2.REP_LEAD (clampN 20 1000) (mapF FAB_TIME2.RESV_TO (clampN 50 10000) v)
  | .FAB_WATCH, _ => mapF FAB_WATCH.LINK_DB (max 1) (mapF FAB_WATCH.LINK_N (max 1) v)
  | .FLT_CTRL, _ => mapF FLT_CTRL.ESC_MS (clampN 1 1000) v
  | .THM_THR, _ => mapF THM_THR.SHUT_C (min 120) (mapF THM_THR.THR_C (min 110) (mapF THM_THR.WARN_C (min 100) v))
  | .TEC_MON, _ => mapF TEC_MON.TEC_TIME (clampN 1 600) (mapF TEC_MON.TEC_BAND (clampN 8 160) v)
  | .PWM_PER, _ => mapF PWM_PER.PER (max 16) v
  | .PRL_WD, _ => mapF PRL_WD.WD_MS (clampN 10 1000) v
  | .IC_SRC, [n] => if icFiltered n then mapF IC_SRC.FILT (max 1) v else fput 0 8 0 v
  | .CAL_PRB, _ => mapF CAL_PRB.DWELL_US (clampN 300 100000) v
  | .TRIM_CFG, _ => mapF TRIM_CFG.TRAINS (clampN 1 8) (mapF TRIM_CFG.TRAIN (clampN 1 64) (mapF TRIM_CFG.TOL (clampN 82 1638) v))
  | _, _ => v

/-- The word that a write stores through the RW bits, in place of the written one `v`; `o` is the word before. -/
def fixWord (r : Reg) (ix : List Nat) (o v : Word) : Word := fixManage r ix (fixHost r ix (fixServices r (fixCluster r (ix.headD 0) o v)))

/-- A write with no other effect than that on the register's own fields (R12, R14). -/
def State.plainWrite (s : State) (r : Reg) (ix : List Nat) (v : Word) : State := s.wrCodes r ix (fixWord r ix (s.reg r ix) v)

/-! ### Writes with conditions of their own -/

/-- Ring g is enabled or stopping: its base and layout keep their values (R236, R274). -/
def State.ringLocked (s : State) (g : Nat) : Bool :=
  if 144 ≤ g ∧ g < 148 then s.fb CAP_CFG.EN [g - 144] || (s.capR (g - 144)).busy else s.fb RING_CFG.EN [g] || (s.ring g).busy

/-- A write of a register that a running ring locks (R236, R274): a change is refused with CFG_REJ. -/
def State.lockedWrite (s : State) (g : Nat) (r : Reg) (ix : List Nat) (v : Word) : State :=
  let s1 := s.plainWrite r ix v
  if s1.reg r ix = s.reg r ix then s1 else if s.ringLocked g then s.hifErr HIF_ERR.CFG_REJ (some g) else s1

/-- A write of HIF_ERR (R231): VALID of HIF_ERR_RING clears with the last bit. -/
def State.hifErrWrite (s : State) (v : Word) : State :=
  let s1 := s.wrCodes .HIF_ERR [] v
  if s1.reg .HIF_ERR [] = 0 then s1.setF HIF_ERR_RING.VALID [] 0 else s1

/-- A write of PAIR_EVT (R12, R355, R361): PREF_CONFLICT, DUAL_ACTIVE and TIME_SKEW set again while their cause stands. -/
def State.pairEvtWrite (s : State) (v : Word) : State :=
  let p := s.pair
  let on := wd (b2n p.skew * 2 ^ 8 + b2n p.dual * 2 ^ 9 + b2n p.conflict * 2 ^ 10)
  let s1 := s.wrCodes .PAIR_EVT [] v
  s1.setReg .PAIR_EVT [] (s1.reg .PAIR_EVT [] ||| (s.reg .PAIR_EVT [] &&& on))

/-- A write of FAB_EVT (R12, R373): DIGEST sets again while the digest of a neighbour differs. -/
def State.fabEvtWrite (s : State) (v : Word) : State :=
  let s1 := s.wrCodes .FAB_EVT [] v
  if s.digestDiff then s1.setReg .FAB_EVT [] (s1.reg .FAB_EVT [] ||| (s.reg .FAB_EVT [] &&& wd (2 ^ 9))) else s1

/-- A write of FAB_CTRL (R375): with PROBE_EN = 0 the probe segments are released. -/
def State.fabCtrlWrite (s : State) (v : Word) : State :=
  let s1 := s.plainWrite .FAB_CTRL [] v
  if s1.fb FAB_CTRL.PROBE_EN [] then s1 else s1.dropProbes fun _ => true

/-- A write of an MSI-X vector control (R256): a message that waits behind the mask is sent when the mask ends. -/
def State.msixCtl (s : State) (n : Nat) (v : Word) : State :=
  let s1 := s.wrCodes .MSIX_CTL [n] v
  if !s1.fb MSIX_CTL.MASK [n] && bit (n % 32) (s1.reg .MSIX_PBA [n / 32]) then
    State.msi (s1.setReg .MSIX_PBA [n / 32] (fput (n % 32) 1 0 (s1.reg .MSIX_PBA [n / 32]))) n
  else s1

/-- A write of SGF_FWD_CMD (R289, R309): a listed OP is a command, refused while one runs; any other write is ignored. -/
def State.fwdCmd (s : State) (v : Word) : State :=
  match fget 16 4 v with
  | 1 => s.fwdStart v fwdInsert
  | 2 => s.fwdStart v fwdDelete
  | 3 => s.fwdStart v fwdLookup
  | 4 => s.fwdStart v fwdRead
  | 5 => s.fwdStart v fwdClear
  | _ => s

/-- A write of YK_CTRL (R217, R218). -/
def State.ykCtrl (s : State) (v : Word) : State := if bit 0 v then doCalStartReq v s.clr.now s else doCalStopReq v s.clr.now s

/-- A write of CAL_CMD (R472, R479): a value not listed is ignored. -/
def State.calCmd (s : State) (v : Word) : State :=
  let n := fget 0 4 v
  if (1 ≤ n ∧ n ≤ 6) ∨ n = 15 then doCalCmd n s.clr.now s else s

/-- Registers of the clusters and the Placket whose writes act (R51, R60, R70, R77, R81, R99, R107, R114, R115, R129, R130). -/
def State.writeLoops (s : State) (r : Reg) (ix : List Nat) (v : Word) : Option State :=
  match r, ix with
  | .CUF_CTRL, _ => some (doCufCtrlWrite v s)
  | .PLK_CTRL, _ => some (doPlkCtrlWrite v s)
  | .SLV_CTRL, [c] => some (doSlvCtrlWrite c v s)
  | .LANE_CFG, [c, j] => some (doLaneCfgWrite (256 * c + j) v s)
  | .LANE_STAT, [c, j] =>
    some (s.laneStatWrite (256 * c + j) v)
  | .SETPT, [c, j, k] => some (doSetptWrite (256 * c + j) (k == 1) v s)
  | .CNV_REF, [c] => some (doRefSelect c v s)
  | .CNV_STATUS, [c] => some (s.cnvStatusWrite c v)
  | .ACC_CTRL, [c] => some (doAccCtrl c v s)
  | .ACC_TRIG, [c] => some (if bit 0 v then s.accTrigger c false else s)
  | .DRV_LIM, [c] => some (doDrvLim c v s)
  | .LSG_LOAD, [c] => some (doLsgLoad c v s)
  | _, _ => none

/-- Registers of the path service, the time block and the schedule engine whose writes act (R184, R189, R197, R198, R205,
R217 to R219). -/
def State.writeServices (s : State) (r : Reg) (ix : List Nat) (v : Word) : Option State :=
  match r, ix with
  | .PTH_TAG_ID, _ => some (doTagIdWrite v s)
  | .PTH_EXCL, [w] => some (doPthExclWrite w v s)
  | .PTH_EXCL_SET, [w] => some (doPthExclSetWrite w v s)
  | .CLR_CTRL, _ => some (doClrCtrlWrite v s)
  | .CLR_SET_SECH, _ => some (doTimeSetArm v s)
  | .YK_CTRL, _ => some (s.ykCtrl v)
  | .YK_GRID, _ => some (doYkGridWrite v s)
  | .YK_CAL_SW, _ => some (doCalSwitchReq v s.clr.now s)
  | .YK_CAL_N, _ =>
    let act := if s.yk.bank then YK_CAL_N.N_B else YK_CAL_N.N_A
    some (s.plainWrite r ix (if 2 ≤ s.yk.mode then mapF act (fun _ => s.f act []) v else v))
  | .YK_CAL_ENT, [b, _] => some (if 2 ≤ s.yk.mode ∧ b = b2n s.yk.bank then s else s.plainWrite r ix v)
  | _, _ => none

/-- Registers of the host interface, capture and the signalling fabric whose writes act (R231, R236, R256, R274, R281, R289,
R315, R319). -/
def State.writeHost (s : State) (r : Reg) (ix : List Nat) (v : Word) : Option State :=
  match r, ix with
  | .HIF_ERR, _ => some (s.hifErrWrite v)
  | .RING_BASE_LO, [g] => some (s.lockedWrite g r ix v)
  | .RING_BASE_HI, [g] => some (s.lockedWrite g r ix v)
  | .RING_CFG, [g] => some (doRingCtrl g v s)
  | .RING_COAL, [g] => some ((s.plainWrite r ix v).signalAny g)
  | .CAP_CFG, [k] => some (doCapCfg k v s)
  | .CAP_SRC, [k] => some (s.lockedWrite (144 + k) r ix v)
  | .CAP_QUOTA, [k] => some (s.lockedWrite (144 + k) r ix v)
  | .CAP_RSV, [k] => some (s.lockedWrite (144 + k) r ix v)
  | .MSIX_CTL, [n] => some (s.msixCtl n v)
  | .SGF_FWD_CMD, _ => some (s.fwdCmd v)
  | .SP_CFG, [p] => some (doSpCfg p v s)
  | .SHP_CFG, [n] => some (doShpCfg n v s)
  | .POL_CFG, [n] => some (doPolCfg n v s)
  | _, _ => none

/-- Registers of the other blocks whose writes act (R356, R389 to R395, R417, R419 to R424, R426, R442, R453, R472). Those of
the interrupt controller are written by the firmware of Prale only (R433, R458). -/
def State.writeManage (s : State) (r : Reg) (ix : List Nat) (v : Word) : Option State :=
  match r, ix with
  | .PAIR_CTRL, _ => some (doPairCtrl v s)
  | .PAIR_EVT, _ => some (s.pairEvtWrite v)
  | .FAB_EVT, _ => some (s.fabEvtWrite v)
  | .FAB_CTRL, _ => some (s.fabCtrlWrite v)
  | .FLT_STAT, [g] => some (doFltStatClear g v s)
  | .FLT_EN, [g] => some (doFltConfig g 0 v s)
  | .FLT_CLASS_LO, [g] => some (doFltConfig g 1 v s)
  | .FLT_CLASS_HI, [g] => some (doFltConfig g 2 v s)
  | .FLT_FORCE, [g] => some (doFltForce g v s)
  | .THM_SNS, [i] => some ((s.plainWrite r ix v).snsOff i)
  | .TEC_CTRL, _ => some (doTecCtrl v s)
  | .PWM_CTRL, [c] => some (doPwmCtrl c v s)
  | .PWM_UPD, [c] => some (doPwmUpd c v s)
  | .PWM_DUTY, [c] => some (if s.pwmOwned c then s else s.plainWrite r ix v)
  | .PWR_CTRL, _ => some (doPowerTarget v s.clr.now s)
  | .PRL_STAGE, _ => some (doPrlStage false v true s)
  | .CAL_CMD, _ => some (s.calCmd v)
  | .IC_CTRL, _ => some (doIcGate (bit 31 v) s)
  | .IC_WAKE, _ => some (if s.prl.lsHalt || !s.prl.awake then s else s.plainWrite r ix v)
  | .IC_SRC, _ => some (if s.prl.lsHalt || !s.prl.awake then s else s.plainWrite r ix v)
  | _, _ => none

/-- A write of a register that is writable now. -/
def State.writeReg (s : State) (r : Reg) (ix : List Nat) (v : Word) : State :=
  ((s.writeLoops r ix v).orElse fun _ => (s.writeServices r ix v).orElse fun _ => (s.writeHost r ix v).orElse fun _ =>
    s.writeManage r ix v).getD (s.plainWrite r ix v)

/-! ### Accesses -/

/-- REGISTER_WRITE (R12, R14, R464): a write of the word at an offset; where no register lies it is ignored. -/
def doRegisterWrite (a : Nat) (v : Word) (s : State) : State :=
  match locate a with
  | some p => if s.shut p.1 p.2 then s else s.writeReg p.1 p.2 v
  | none => s

/-- Meaning of REGISTER_WRITE (R12). -/
def execRegisterWrite (a : Nat) (v : Word) (s : State) : Host.Outcome State Fault Refusal := .next (doRegisterWrite a v s)

/-- What a read clears (R12). -/
def State.rcClear (s : State) (r : Reg) (ix : List Nat) : State :=
  match r, ix with
  | .THM_MAX, _ => s.setThm { s.thm with peak := none }
  | .Q_DEPTH, [q] => s.setSgf { s.sgf with obs := sset s.sgf.obs q { sget Obs.reset s.sgf.obs q with dmax := 0 } }
  | .Q_TMAX, [q] => s.setSgf { s.sgf with obs := sset s.sgf.obs q { sget Obs.reset s.sgf.obs q with tmax := 0 } }
  | _, _ => if r.row.rc = 0 then s else s.setReg r ix (s.reg r ix &&& ~~~ (wd r.row.rc))

/-- A read of a register that acts now: the snapshot and the index latches first, then what the read clears (R12, R202,
R276). -/
def State.readClear (s : State) (r : Reg) (ix : List Nat) : State :=
  match r, ix with
  | .CLR_SNAP_SECL, _ => doClockSnapshot s.clr.now s
  | .CAP_PI_LO, [k] => doCapIndexLatch k false s
  | .CAP_OLDEST_LO, [k] => doCapIndexLatch k true s
  | _, _ => State.rcClear { s with rdata := s.readReg r ix } r ix

/-- A read of the word at an offset: BAR2, at 0x200_0000 here, and reserved places read 0 (R14, R228). Its data, and what the read
clears or latches. -/
def State.readAt (s : State) (a : Nat) : State :=
  match locate a with
  | some p => if s.shut p.1 p.2 then { s with rdata := s.readReg p.1 p.2 } else s.readClear p.1 p.2
  | none => { s with rdata := 0 }

/-- RC_REGISTER_READ (R12). -/
def doRcRead (a : Nat) (s : State) : State := s.readAt a

/-- Meaning of RC_REGISTER_READ (R12). -/
def execRcRegisterRead (a : Nat) (s : State) : Host.Outcome State Fault Refusal := .next (doRcRead a s)

/-- BAR0_ACCESS_ERROR (R228): a BAR0 access of another size or alignment. -/
def doBar0Error (write : Bool) (s : State) : State :=
  if s.sys.por || s.sys.mainRst || s.sys.thmRst then s
  else
    let s1 := if write then s else { s with rdata := 0xFFFFFFFF }
    s1.hifErr HIF_ERR.ACC_ERR none

/-- Meaning of BAR0_ACCESS_ERROR (R228). -/
def execBar0AccessError (write : Bool) (s : State) : Host.Outcome State Fault Refusal := .next (doBar0Error write s)

end Sys2Proof.Machine
end

