-- ==== Sys2Proof/Machine/Window.lean ====
section
/-! DEFINITION. The out-of-band window of the BMC (R445 to R448): Read 32 and Write 32 of the OOB registers, the Alert Response
Address, and the bus timeout. -/
namespace Sys2Proof.Machine

/-- Stores the OOB registers. -/
def State.setOob (s : State) (o : Oob) : State := s.setPrl { s.prl with oob := o }

/-- The 7-bit address of the target (R445). -/
def State.smbAddr (s : State) : Nat := if s.sys.pref then 0x5B else 0x5A

/-- SMBALERT_N is asserted (R448). -/
def State.smbAlert (s : State) : Bool := s.prl.oob.alertEn && (s.prl.oob.err || s.flt.safe)

/-- OOB_STATUS (R448); an access is over when its command is, so BUSY reads 0. -/
def State.oobStatus (s : State) : Word :=
  wd (b2n s.prl.awake * 2 ^ 8 + s.prl.oob.code * 2 + b2n s.prl.oob.err)

/-- OOB_CTRL (R448). -/
def State.oobCtrl (s : State) : Word := wd (b2n s.prl.oob.alertEn * 2 + b2n s.prl.oob.inc)

/-- Regions of the Prale address map (R435). -/
def inBar (a : Nat) : Bool := decide (0x20000000 ≤ a) && decide (a < 0x22000000)
def inFlash (a : Nat) : Bool := decide (0x30000000 ≤ a) && decide (a < 0x40000000)
def inIc (a : Nat) : Bool := decide (0x40000000 ≤ a) && decide (a < 0x40004000)
def inWatch (a : Nat) : Bool := decide (0x40010000 ≤ a) && decide (a < 0x40011000)
def inStaging (a : Nat) : Bool := decide (flashStage ≤ a) && decide (a < flashStage + slotBytes)

/-- A read of a flash address is prefetched when OOB_ADDR is written or incremented (R447). -/
def State.prefetch (s : State) : State :=
  let o := s.prl.oob
  if inFlash o.addr then s.setOob { o with data := wd (leValue (s.flashGet (o.addr - 0x30000000) 4)) } else s

/-- An access that succeeded: OOB_ADDR increments under INC and wraps (R447). -/
def State.oobDone (s : State) : State :=
  let o := s.prl.oob
  if o.inc then State.prefetch (s.setOob { o with addr := (o.addr + 4) % 2 ^ 32 }) else s

/-- An access that failed (R447). -/
def State.oobFail (s : State) (code : Nat) : State := s.setOob { s.prl.oob with err := true, code := code }

/-- The data word of an access. -/
def State.oobData (s : State) (d : Word) : State := { s.setOob { s.prl.oob with data := d } with rdata := d }

/-- A free word as read data. -/
def State.freeRead (s : State) : State :=
  let f := s.takeFree
  { f.2 with rdata := Config.freeOob f.1 }

/-- A read of OOB_DATA (R447, R448). -/
def State.oobRead (s : State) : State :=
  let a := s.prl.oob.addr
  if inBar a then
    let s1 := s.readAt (a - 0x20000000)
    (s1.oobData s1.rdata).oobDone
  else if inFlash a then State.oobDone { s with rdata := s.prl.oob.data }
  else if inIc a then
    let s1 := s.readAt a
    (s1.oobData s1.rdata).oobDone
  else if inWatch a then
    let s1 := s.freeRead
    (s1.oobData s1.rdata).oobDone
  else s.freeRead.oobFail 1

/-- BAR0 offsets that the window may write (R448): FLT, THM and PWM, PWR, PAIR and FAB, HIF_SCRATCH; and PRL_STAGE, by which the
BMC commits (R453). -/
def oobMayWrite (o : Nat) : Bool :=
  (decide (0x80000 ≤ o) && decide (o < 0xC0000)) || o == Reg.at .HIF_SCRATCH [] || o == Reg.at .PRL_STAGE []

/-- OOB_DATA takes the word of a write that succeeded (R447). -/
def State.oobTook (s : State) (v : Word) : State := State.oobDone (s.setOob { s.prl.oob with data := v })

/-- A write of OOB_DATA to module flash (R448, R453): the staging partition only, in order, unless the host owns it. -/
def State.oobStage (s : State) (o : Nat) (v : Word) : State :=
  if !inStaging o then s.oobFail 2
  else if s.prl.owner = 1 then s.oobFail 6
  else if o ≠ flashStage ∧ o - flashStage ≠ s.prl.extent then s.oobFail 5
  else (s.stageWrite 2 (o - flashStage) (leBytes 4 v.toNat)).oobTook v

/-- A write of OOB_DATA (R447, R448, R453); one that fails leaves OOB_DATA as it is. -/
def State.oobWrite (s : State) (v : Word) : State :=
  let a := s.prl.oob.addr
  if inBar a then
    let o := a - 0x20000000
    if !oobMayWrite o then s.oobFail 2
    else if o = Reg.at .PRL_STAGE [] then (doPrlStage true v true s).oobTook v
    else (doRegisterWrite o v s).oobTook v
  else if inFlash a then s.oobStage (a - 0x30000000) v
  else if inIc a || inWatch a then s.oobFail 2
  else s.oobFail 1

/-- A start condition addressed to the T512: an edge of source 421 (R437). -/
def State.smbStart (s : State) : State := s.icEdge 421

/-- The PEC of a Read 32: the CRC-8 of the two address bytes, the command code and the data bytes (R445, SMBus 3.1). -/
def State.readPec (s : State) (code : Nat) (v : Word) : Nat :=
  crc8 ([2 * s.smbAddr, code, 2 * s.smbAddr + 1] ++ (leBytes 4 v.toNat).map BitVec.toNat)

/-- A Read 32 returns a word, and its PEC (R445). -/
def State.oobGive (s : State) (code : Nat) (v : Word) : State :=
  { s.setOob { s.prl.oob with pec := s.readPec code v } with rdata := v }

/-- READ_32 (R446): an unknown command code is not acknowledged. -/
def doRead32 (code t : Nat) (s : State) : State :=
  if s.sys.por then s
  else
    let s1 := (s.passTo t).smbStart
    match code with
    | 0 => s1.oobGive 0 0x75121F9C
    | 1 => s1.oobGive 1 s1.oobStatus
    | 2 => s1.oobGive 2 (wd s1.prl.oob.addr)
    | 3 =>
      let s2 := s1.oobRead
      s2.oobGive 3 s2.rdata
    | 4 => s1.oobGive 4 s1.oobCtrl
    | _ => s1

/-- Meaning of READ_32 (R446). -/
def execRead32 (code : Byte) (t : Nat) (s : State) : Host.Outcome State Fault Refusal := .next (doRead32 code.toNat t s)

/-- The PEC of a Write 32: the CRC-8 of the address byte, the command code and the data bytes (SMBus 3.1). -/
def State.pecOf (s : State) (code : Nat) (v : Word) : Nat :=
  crc8 ([2 * s.smbAddr, code] ++ (leBytes 4 v.toNat).map BitVec.toNat)

/-- WRITE_32 (R446): with a wrong PEC it is discarded. -/
def doWrite32 (code : Nat) (v : Word) (pec : Option Byte) (t : Nat) (s : State) : State :=
  if s.sys.por then s
  else
    let s1 := (s.passTo t).smbStart
    let o := s1.prl.oob
    if code = 0 ∨ 4 < code then s1
    else if pec.any fun p => decide (p.toNat ≠ s1.pecOf code v) then s1.oobFail 7
    else match code with
      | 1 => if bit 0 v then s1.setOob { o with err := false } else s1
      | 2 => State.prefetch (s1.setOob { o with addr := v.toNat / 4 * 4 })
      | 3 => s1.oobWrite v
      | _ => s1.setOob { o with alertEn := bit 1 v, inc := bit 0 v }

/-- Meaning of WRITE_32 (R446). -/
def execWrite32 (code : Byte) (v : Word) (pec : Option Byte) (t : Nat) (s : State) : Host.Outcome State Fault Refusal :=
  .next (doWrite32 code.toNat v pec t s)

/-- ALERT_RESPONSE (R445): while SMBALERT_N is asserted, the target answers with its address in [7:1]. -/
def doAlertResponse (s : State) : State :=
  if s.sys.por || !s.smbAlert then s
  else
    let f := s.takeFree
    { f.2 with rdata := wd (2 * s.smbAddr + (Config.freeOob f.1).toNat % 2) }

/-- Meaning of ALERT_RESPONSE (R445). -/
def execAlertResponse (s : State) : Host.Outcome State Fault Refusal := .next (doAlertResponse s)

/-- SMBUS_TIMEOUT (R488): the transaction in progress is abandoned. How far it had come is a free word (log entry 146): by bit 0
its start condition was addressed to the T512 (R437); by bit 1 it was then a Read 32 of OOB_DATA whose command byte had arrived,
so that a BAR0 read has been made (R447). What was read goes nowhere, and OOB_ADDR stays. -/
def doSmbusTimeout (s : State) : State :=
  if s.sys.por then s
  else
    let f := s.takeFree
    let w := Config.freeOob f.1
    if !bit 0 w then f.2
    else
      let s1 := f.2.smbStart
      if bit 1 w && inBar s1.prl.oob.addr then { s1.readAt (s1.prl.oob.addr - 0x20000000) with rdata := s.rdata } else s1

/-- Meaning of SMBUS_TIMEOUT (R488). -/
def execSmbusTimeout (s : State) : Host.Outcome State Fault Refusal := .next (doSmbusTimeout s)

end Sys2Proof.Machine
end

