-- ==== Sys2Proof/Machine/Dispatch.lean ====
section
/-! DEFINITION. The dispatch: one arm per command, each one call of its meaning. -/
namespace Sys2Proof.Machine

def exec (i : Instr) (s : State) : Host.Outcome State Fault Refusal :=
  match i with
  | .registerWrite a v => Sys2Proof.Machine.execRegisterWrite a v s
  | .bar0AccessError write => Sys2Proof.Machine.execBar0AccessError write s
  | .powerOnReset => Sys2Proof.Machine.execPowerOnReset s
  | .porRelease m pref devid bootSrc => Sys2Proof.Machine.execPorRelease m pref devid bootSrc s
  | .mainRailReset rail => Sys2Proof.Machine.execMainRailReset rail s
  | .mainRailResetRelease m pref devid bootSrc => Sys2Proof.Machine.execMainRailResetRelease m pref devid bootSrc s
  | .bootStage b => Sys2Proof.Machine.execBootStage b s
  | .supplyFailBleed => Sys2Proof.Machine.execSupplyFailBleed s
  | .hvSupplyLoss => Sys2Proof.Machine.execHvSupplyLoss s
  | .engageRequest => Sys2Proof.Machine.execEngageRequest s
  | .releaseRequest => Sys2Proof.Machine.execReleaseRequest s
  | .placketEngaged hv => Sys2Proof.Machine.execPlacketEngaged hv s
  | .engageTimeout hv => Sys2Proof.Machine.execEngageTimeout hv s
  | .holdVoltageLow hv => Sys2Proof.Machine.execHoldVoltageLow hv s
  | .placketReleased => Sys2Proof.Machine.execPlacketReleased s
  | .cufCtrlWrite v => Sys2Proof.Machine.execCufCtrlWrite v s
  | .toneZeroCrossing e => Sys2Proof.Machine.execToneZeroCrossing e s
  | .conversionFrame c t smp => Sys2Proof.Machine.execConversionFrame c t smp s
  | .lightClassChange e t => Sys2Proof.Machine.execLightClassChange e t s
  | .hiRangeReturn e tap => Sys2Proof.Machine.execHiRangeReturn e tap s
  | .loopUpdate c t => Sys2Proof.Machine.execLoopUpdate c t s
  | .loopLock e t => Sys2Proof.Machine.execLoopLock e t s
  | .loopUnlock e t => Sys2Proof.Machine.execLoopUnlock e t s
  | .integratorSatFault e t => Sys2Proof.Machine.execIntegratorSatFault e t s
  | .leakFault e t => Sys2Proof.Machine.execLeakFault e t s
  | .acqTimeout e t => Sys2Proof.Machine.execAcqTimeout e t s
  | .learningTick c t => Sys2Proof.Machine.execLearningTick c t s
  | .setptWrite e k v => Sys2Proof.Machine.execSetptWrite e k v s
  | .laneRestart e v t => Sys2Proof.Machine.execLaneRestart e v t s
  | .restartAll c v t => Sys2Proof.Machine.execRestartAll c v t s
  | .cuffExchange t => Sys2Proof.Machine.execCuffExchange t s
  | .exchangeStale c t => Sys2Proof.Machine.execExchangeStale c t s
  | .refSelectWrite c v => Sys2Proof.Machine.execRefSelectWrite c v s
  | .refSettleExpiry c adc inWin => Sys2Proof.Machine.execRefSettleExpiry c adc inWin s
  | .refOutOfWindow c adc => Sys2Proof.Machine.execRefOutOfWindow c adc s
  | .accEnable c v => Sys2Proof.Machine.execAccEnable c v s
  | .accStop c v => Sys2Proof.Machine.execAccStop c v s
  | .accStopDone c => Sys2Proof.Machine.execAccStopDone c s
  | .accTrigger c => Sys2Proof.Machine.execAccTrigger c s
  | .accWindowEnd c t => Sys2Proof.Machine.execAccWindowEnd c t s
  | .driveUpdate c t => Sys2Proof.Machine.execDriveUpdate c t s
  | .ovcDetect e t => Sys2Proof.Machine.execOvcDetect e t s
  | .lsgHostLoad c v => Sys2Proof.Machine.execLsgHostLoad c v s
  | .drvLimWrite c v => Sys2Proof.Machine.execDrvLimWrite c v s
  | .patternFire t => Sys2Proof.Machine.execPatternFire t s
  | .handOver e t => Sys2Proof.Machine.execHandOver e t s
  | .clusterReport c pat => Sys2Proof.Machine.execClusterReport c pat s
  | .collectorResolve pat t => Sys2Proof.Machine.execCollectorResolve pat t s
  | .measRecord e t => Sys2Proof.Machine.execMeasRecord e t s
  | .intakeTurn => Sys2Proof.Machine.execIntakeTurn s
  | .connect t => Sys2Proof.Machine.execConnect t s
  | .release t => Sys2Proof.Machine.execRelease t s
  | .move t => Sys2Proof.Machine.execMove t s
  | .query => Sys2Proof.Machine.execQuery s
  | .fence => Sys2Proof.Machine.execFence s
  | .fwLoad => Sys2Proof.Machine.execFwLoad s
  | .fwCommit flashOk => Sys2Proof.Machine.execFwCommit flashOk s
  | .logRead => Sys2Proof.Machine.execLogRead s
  | .placement t => Sys2Proof.Machine.execPlacement t s
  | .stagingEnd t => Sys2Proof.Machine.execStagingEnd t s
  | .commitPoint t => Sys2Proof.Machine.execCommitPoint t s
  | .completionWrite => Sys2Proof.Machine.execCompletionWrite s
  | .elementFaultReport t => Sys2Proof.Machine.execElementFaultReport t s
  | .repairPatternFire t => Sys2Proof.Machine.execRepairPatternFire t s
  | .continuityFault t => Sys2Proof.Machine.execContinuityFault t s
  | .bankRestore e => Sys2Proof.Machine.execBankRestore e s
  | .eqRefresh b t => Sys2Proof.Machine.execEqRefresh b t s
  | .tagBitPeriod t => Sys2Proof.Machine.execTagBitPeriod t s
  | .tagEvaluation t bins => Sys2Proof.Machine.execTagEvaluation t bins s
  | .tagIdWrite v => Sys2Proof.Machine.execTagIdWrite v s
  | .pthExclWrite w v => Sys2Proof.Machine.execPthExclWrite w v s
  | .pthExclSetWrite w v => Sys2Proof.Machine.execPthExclSetWrite w v s
  | .ppsEdge t => Sys2Proof.Machine.execPpsEdge t s
  | .ppsWindowClose t => Sys2Proof.Machine.execPpsWindowClose t s
  | .networkSecond sec => Sys2Proof.Machine.execNetworkSecond sec s
  | .ref10mWindow inRange => Sys2Proof.Machine.execRef10mWindow inRange s
  | .ref10mLoss => Sys2Proof.Machine.execRef10mLoss s
  | .todMessage t msg gap => Sys2Proof.Machine.execTodMessage t msg gap s
  | .todWindowClose t => Sys2Proof.Machine.execTodWindowClose t s
  | .holdoverLimit t => Sys2Proof.Machine.execHoldoverLimit t s
  | .clrCtrlWrite v => Sys2Proof.Machine.execClrCtrlWrite v s
  | .timeSetArm v => Sys2Proof.Machine.execTimeSetArm v s
  | .clockSnapshot t => Sys2Proof.Machine.execClockSnapshot t s
  | .ykGridWrite v => Sys2Proof.Machine.execYkGridWrite v s
  | .calendarStartRequest v t => Sys2Proof.Machine.execCalendarStartRequest v t s
  | .calendarStopRequest v t => Sys2Proof.Machine.execCalendarStopRequest v t s
  | .calendarStart t => Sys2Proof.Machine.execCalendarStart t s
  | .calendarTurn t => Sys2Proof.Machine.execCalendarTurn t s
  | .calSwitchRequest v t => Sys2Proof.Machine.execCalSwitchRequest v t s
  | .announceRepeat t => Sys2Proof.Machine.execAnnounceRepeat t s
  | .doorbell w v stores => Sys2Proof.Machine.execDoorbell w v stores s
  | .ringEnable g v => Sys2Proof.Machine.execRingEnable g v s
  | .ringDisable g v => Sys2Proof.Machine.execRingDisable g v s
  | .ringStopDone g => Sys2Proof.Machine.execRingStopDone g s
  | .eventWrite => Sys2Proof.Machine.execEventWrite s
  | .coalesceTimer g => Sys2Proof.Machine.execCoalesceTimer g s
  | .sphTxFetch k t => Sys2Proof.Machine.execSphTxFetch k t s
  | .sphTxWriteback => Sys2Proof.Machine.execSphTxWriteback s
  | .sphRxWrite k t => Sys2Proof.Machine.execSphRxWrite k t s
  | .dmaReadFail g buf => Sys2Proof.Machine.execDmaReadFail g buf s
  | .dmaWriteFail g buf => Sys2Proof.Machine.execDmaWriteFail g buf s
  | .pcieFunctionReset k => Sys2Proof.Machine.execPcieFunctionReset k s
  | .pcieLinkRetrain rate width => Sys2Proof.Machine.execPcieLinkRetrain rate width s
  | .captureEnable k v t => Sys2Proof.Machine.execCaptureEnable k v t s
  | .captureDisable k v => Sys2Proof.Machine.execCaptureDisable k v s
  | .captureDoorbell k v t => Sys2Proof.Machine.execCaptureDoorbell k v t s
  | .captureWrite k t => Sys2Proof.Machine.execCaptureWrite k t s
  | .quotaWindowEnd t => Sys2Proof.Machine.execQuotaWindowEnd t s
  | .capIndexLatch k oldest => Sys2Proof.Machine.execCapIndexLatch k oldest s
  | .frameIngress p first whole ts t => Sys2Proof.Machine.execFrameIngress p first whole ts t s
  | .frameComplete p rest err t => Sys2Proof.Machine.execFrameComplete p rest err t s
  | .crossbarSlot bad t => Sys2Proof.Machine.execCrossbarSlot bad t s
  | .egressSelect o t => Sys2Proof.Machine.execEgressSelect o t s
  | .transmitEnd o t => Sys2Proof.Machine.execTransmitEnd o t s
  | .portEnable p v => Sys2Proof.Machine.execPortEnable p v s
  | .portDisable p v => Sys2Proof.Machine.execPortDisable p v s
  | .portStopDone p => Sys2Proof.Machine.execPortStopDone p s
  | .linkUp p rate fec => Sys2Proof.Machine.execLinkUp p rate fec s
  | .linkLoss p cut t => Sys2Proof.Machine.execLinkLoss p cut t s
  | .holdoffExpiry p t => Sys2Proof.Machine.execHoldoffExpiry p t s
  | .anTimeout p => Sys2Proof.Machine.execAnTimeout p s
  | .fwdInsert v => Sys2Proof.Machine.execFwdInsert v s
  | .fwdDelete v => Sys2Proof.Machine.execFwdDelete v s
  | .fwdLookup v => Sys2Proof.Machine.execFwdLookup v s
  | .fwdRead v => Sys2Proof.Machine.execFwdRead v s
  | .fwdClear v => Sys2Proof.Machine.execFwdClear v s
  | .fwdCommandDone => Sys2Proof.Machine.execFwdCommandDone s
  | .tokenRefill t => Sys2Proof.Machine.execTokenRefill t s
  | .shaperApply n v => Sys2Proof.Machine.execShaperApply n v s
  | .policerApply n v => Sys2Proof.Machine.execPolicerApply n v s
  | .queueSample t => Sys2Proof.Machine.execQueueSample t s
  | .healthUpdate => Sys2Proof.Machine.execHealthUpdate s
  | .healthOkAssert => Sys2Proof.Machine.execHealthOkAssert s
  | .helloSend t => Sys2Proof.Machine.execHelloSend t s
  | .hello h w ofs t => Sys2Proof.Machine.execHello h w ofs t s
  | .txn h w t => Sys2Proof.Machine.execTxn h w t s
  | .ack h ptn cause t => Sys2Proof.Machine.execAck h ptn cause t s
  | .outcome h ptn status vt t => Sys2Proof.Machine.execOutcome h ptn status vt t s
  | .ann h w t => Sys2Proof.Machine.execAnn h w t s
  | .ctrl h w t => Sys2Proof.Machine.execCtrl h w t s
  | .stateMsg h w t => Sys2Proof.Machine.execState h w t s
  | .retry h lo hi t => Sys2Proof.Machine.execRetry h lo hi t s
  | .mirrorLaneChange lane up => Sys2Proof.Machine.execMirrorLaneChange lane up s
  | .peerLoss => Sys2Proof.Machine.execPeerLoss s
  | .mirrorTimeout t => Sys2Proof.Machine.execMirrorTimeout t s
  | .activeSelChange sel => Sys2Proof.Machine.execActiveSelChange sel s
  | .reclaimHold => Sys2Proof.Machine.execReclaimHold s
  | .pairResync v => Sys2Proof.Machine.execPairResync v s
  | .fabHelloSend t => Sys2Proof.Machine.execFabHelloSend t s
  | .fabHello m port t => Sys2Proof.Machine.execFabHello m port t s
  | .discSend t => Sys2Proof.Machine.execDiscSend t s
  | .disc m t => Sys2Proof.Machine.execDisc m t s
  | .lsa m t => Sys2Proof.Machine.execLsa m t s
  | .routeRecompute => Sys2Proof.Machine.execRouteRecompute s
  | .neighbourLoss d t => Sys2Proof.Machine.execNeighbourLoss d t s
  | .reserve m t => Sys2Proof.Machine.execReserve m t s
  | .resvReply m t => Sys2Proof.Machine.execResvReply m t s
  | .commit m t => Sys2Proof.Machine.execCommit m t s
  | .fabOutcome m t => Sys2Proof.Machine.execFabOutcome m t s
  | .down m t => Sys2Proof.Machine.execDown m t s
  | .controlRetransmit t => Sys2Proof.Machine.execControlRetransmit t s
  | .reservationTimeout t => Sys2Proof.Machine.execReservationTimeout t s
  | .linkLossDetect t => Sys2Proof.Machine.execLinkLossDetect t s
  | .probeDwell t => Sys2Proof.Machine.execProbeDwell t s
  | .faultSourceSet n cause info => Sys2Proof.Machine.execFaultSourceSet n cause info s
  | .fltForce g v => Sys2Proof.Machine.execFltForce g v s
  | .fltStatClear g v => Sys2Proof.Machine.execFltStatClear g v s
  | .fltConfigWrite g w v => Sys2Proof.Machine.execFltConfigWrite g w v s
  | .escalationExpiry n us info => Sys2Proof.Machine.execEscalationExpiry n us info s
  | .parityError source again => Sys2Proof.Machine.execParityError source again s
  | .safeEntryComplete force => Sys2Proof.Machine.execSafeEntryComplete force s
  | .sensorMeasure t l => Sys2Proof.Machine.execSensorMeasure t l s
  | .thermalRestart => Sys2Proof.Machine.execThermalRestart s
  | .thermalRestartRelease m pref devid bootSrc => Sys2Proof.Machine.execThermalRestartRelease m pref devid bootSrc s
  | .tecLoop => Sys2Proof.Machine.execTecLoop s
  | .tecBandTimeout => Sys2Proof.Machine.execTecBandTimeout s
  | .pwmReload ch => Sys2Proof.Machine.execPwmReload ch s
  | .pwmPulseEnd ch => Sys2Proof.Machine.execPwmPulseEnd ch s
  | .pwmFaultInput n active => Sys2Proof.Machine.execPwmFaultInput n active s
  | .pwmEnable ch v => Sys2Proof.Machine.execPwmEnable ch v s
  | .pwmDisable ch v => Sys2Proof.Machine.execPwmDisable ch v s
  | .pwmUpdate ch v => Sys2Proof.Machine.execPwmUpdate ch v s
  | .powerTargetWrite v t => Sys2Proof.Machine.execPowerTargetWrite v t s
  | .powerEntry off t => Sys2Proof.Machine.execPowerEntry off t s
  | .powerChangeDone t => Sys2Proof.Machine.execPowerChangeDone t s
  | .autoWake t => Sys2Proof.Machine.execAutoWake t s
  | .lockstepHalt => Sys2Proof.Machine.execLockstepHalt s
  | .heartbeat => Sys2Proof.Machine.execHeartbeat s
  | .heartbeatLate => Sys2Proof.Machine.execHeartbeatLate s
  | .interruptEntry => Sys2Proof.Machine.execInterruptEntry s
  | .interruptReturn => Sys2Proof.Machine.execInterruptReturn s
  | .icGateWrite gate => Sys2Proof.Machine.execIcGateWrite gate s
  | .praleSleep => Sys2Proof.Machine.execPraleSleep s
  | .praleWake line => Sys2Proof.Machine.execPraleWake line s
  | .read32 code t => Sys2Proof.Machine.execRead32 code t s
  | .write32 code v pec t => Sys2Proof.Machine.execWrite32 code v pec t s
  | .alertResponse => Sys2Proof.Machine.execAlertResponse s
  | .logAppend => Sys2Proof.Machine.execLogAppend s
  | .stageRelease v => Sys2Proof.Machine.execStageRelease v s
  | .stageCommit v flashOk => Sys2Proof.Machine.execStageCommit v flashOk s
  | .stagingTimeout => Sys2Proof.Machine.execStagingTimeout s
  | .slotConfirm => Sys2Proof.Machine.execSlotConfirm s
  | .trimCheck t => Sys2Proof.Machine.execTrimCheck t s
  | .trim t => Sys2Proof.Machine.execTrim t s
  | .probeLearn t => Sys2Proof.Machine.execProbeLearn t s
  | .calElec t => Sys2Proof.Machine.execCalElec t s
  | .calOpt t => Sys2Proof.Machine.execCalOpt t s
  | .restore t => Sys2Proof.Machine.execRestore t s
  | .abort t => Sys2Proof.Machine.execAbort t s
  | .probeLayerDwell t => Sys2Proof.Machine.execProbeLayerDwell t s
  | .trimPulse c t => Sys2Proof.Machine.execTrimPulse c t s
  | .calStepDone l meas t => Sys2Proof.Machine.execCalStepDone l meas t s
  | .calRunDone t => Sys2Proof.Machine.execCalRunDone t s
  | .rcRegisterRead a => Sys2Proof.Machine.execRcRegisterRead a s
  | .ppsLossBeforeSet t => Sys2Proof.Machine.execPpsLossBeforeSet t s
  | .hvSupplyReturn => Sys2Proof.Machine.execHvSupplyReturn s
  | .smbusTimeout => Sys2Proof.Machine.execSmbusTimeout s
  | .perstNDeassertion => Sys2Proof.Machine.execPerstNDeassertion s

end Sys2Proof.Machine
end

