-- ==== Sys2Proof/Safety.lean ====
section
/-! DEFINITION. What counts as a safe run, and the terms the frame statements use: the parts of the state, and which of them each
command may change. -/
namespace Sys2Proof.Machine

/-- An outcome that is a next state. -/
def isNext : Host.Outcome State Fault Refusal → Bool
  | .next _ => true
  | _ => false

/-- Host memory is in canonical form (log entry 8). -/
def State.memWf (s : State) : Bool := Memory.wf s.hostMem

/-- The parts of the state other than the queue: the sampled straps, the rest of `sys`, and every other field under its own
name. -/
inductive Part where
  | straps | sys | regs | plk | lanes | clusters | col | clr | yk | pth | pair | fab | sgf | hif | cap | flt | pwr | thm | pwm
  | cal | prl | freeN | rdata | hostMem
  deriving DecidableEq, Repr

/-- `sys` without the straps. -/
def Sys.rest (x : Sys) : Sys := { x with mode := 0, pref := false, devid := 0, bootSrc := false }

/-- Part p holds in t what it holds in s. -/
def Part.same (p : Part) (s t : State) : Prop :=
  match p with
  | .straps => t.sys.mode = s.sys.mode ∧ t.sys.pref = s.sys.pref ∧ t.sys.devid = s.sys.devid ∧ t.sys.bootSrc = s.sys.bootSrc
  | .sys => t.sys.rest = s.sys.rest
  | .regs => t.regs = s.regs
  | .plk => t.plk = s.plk
  | .lanes => t.lanes = s.lanes
  | .clusters => t.clusters = s.clusters
  | .col => t.col = s.col
  | .clr => t.clr = s.clr
  | .yk => t.yk = s.yk
  | .pth => t.pth = s.pth
  | .pair => t.pair = s.pair
  | .fab => t.fab = s.fab
  | .sgf => t.sgf = s.sgf
  | .hif => t.hif = s.hif
  | .cap => t.cap = s.cap
  | .flt => t.flt = s.flt
  | .pwr => t.pwr = s.pwr
  | .thm => t.thm = s.thm
  | .pwm => t.pwm = s.pwm
  | .cal => t.cal = s.cal
  | .prl => t.prl = s.prl
  | .freeN => t.freeN = s.freeN
  | .rdata => t.rdata = s.rdata
  | .hostMem => t.hostMem = s.hostMem

/-- Only the parts listed differ between s and t; the queue is the same. -/
def changesOnly (l : List Part) (s t : State) : Prop := t.pending = s.pending ∧ ∀ p : Part, p ∉ l → p.same s t

/-- Command c runs in s: it answers a next state, and P holds of that state. -/
def Runs (c : Instr) (s : State) (P : State → Prop) : Prop := ∃ t, exec c s = .next t ∧ P t

/-- Every lane but e is the same in t as in s. -/
def otherLanes (e : Nat) (s t : State) : Prop := ∀ x, x ≠ e → t.lane x = s.lane x

/-- Every register offset but those of l holds the same in t as in s. -/
def otherRegs (l : List Nat) (s t : State) : Prop := ∀ a, a ∉ l → ∀ d, sget d t.regs a = sget d s.regs a

/-- Registers beside its own that a change of lane e may reach: the suppressed records of the capture rings (R266), and the
overrun bit of the interrupt source of its cluster (R437). -/
def noteRegs (e : Nat) : List Nat :=
  [Reg.CAP_SUPP.at [0], Reg.CAP_SUPP.at [1], Reg.CAP_SUPP.at [2], Reg.CAP_SUPP.at [3], Reg.IC_SRC.at [256 + e / 256]]

/-- The register that a command of its own row accesses, for the rows that are one access of one register (R464). -/
def regOf : Instr → Option (Reg × List Nat)
  | .engageRequest => some (.PLK_CTRL, [])
  | .releaseRequest => some (.PLK_CTRL, [])
  | .cufCtrlWrite _ => some (.CUF_CTRL, [])
  | .setptWrite e k _ => some (.SETPT, [e / 256, e % 256, k])
  | .laneRestart e _ _ => some (.LANE_CFG, [e / 256, e % 256])
  | .restartAll c _ _ => some (.SLV_CTRL, [c])
  | .refSelectWrite c _ => some (.CNV_REF, [c])
  | .accEnable c _ => some (.ACC_CTRL, [c])
  | .accStop c _ => some (.ACC_CTRL, [c])
  | .accTrigger c => some (.ACC_TRIG, [c])
  | .lsgHostLoad c _ => some (.LSG_LOAD, [c])
  | .drvLimWrite c _ => some (.DRV_LIM, [c])
  | .tagIdWrite _ => some (.PTH_TAG_ID, [])
  | .pthExclWrite w _ => some (.PTH_EXCL, [w])
  | .pthExclSetWrite w _ => some (.PTH_EXCL_SET, [w])
  | .clrCtrlWrite _ => some (.CLR_CTRL, [])
  | .timeSetArm _ => some (.CLR_SET_SECH, [])
  | .clockSnapshot _ => some (.CLR_SNAP_SECL, [])
  | .ykGridWrite _ => some (.YK_GRID, [])
  | .calendarStartRequest _ _ => some (.YK_CTRL, [])
  | .calendarStopRequest _ _ => some (.YK_CTRL, [])
  | .calSwitchRequest _ _ => some (.YK_CAL_SW, [])
  | .ringEnable g _ => some (.RING_CFG, [g])
  | .ringDisable g _ => some (.RING_CFG, [g])
  | .captureEnable k _ _ => some (.CAP_CFG, [k])
  | .captureDisable k _ => some (.CAP_CFG, [k])
  | .capIndexLatch k oldest => some (if oldest then .CAP_OLDEST_LO else .CAP_PI_LO, [k])
  | .portEnable p _ => some (.SP_CFG, [p])
  | .portDisable p _ => some (.SP_CFG, [p])
  | .fwdInsert _ => some (.SGF_FWD_CMD, [])
  | .fwdDelete _ => some (.SGF_FWD_CMD, [])
  | .fwdLookup _ => some (.SGF_FWD_CMD, [])
  | .fwdRead _ => some (.SGF_FWD_CMD, [])
  | .fwdClear _ => some (.SGF_FWD_CMD, [])
  | .shaperApply n _ => some (.SHP_CFG, [n])
  | .policerApply n _ => some (.POL_CFG, [n])
  | .pairResync _ => some (.PAIR_CTRL, [])
  | .fltForce g _ => some (.FLT_FORCE, [g])
  | .fltStatClear g _ => some (.FLT_STAT, [g])
  | .fltConfigWrite g _ _ => some (.FLT_EN, [g])
  | .pwmEnable ch _ => some (.PWM_CTRL, [ch])
  | .pwmDisable ch _ => some (.PWM_CTRL, [ch])
  | .pwmUpdate ch _ => some (.PWM_UPD, [ch])
  | .powerTargetWrite _ _ => some (.PWR_CTRL, [])
  | .icGateWrite _ => some (.IC_CTRL, [])
  | .stageRelease _ => some (.PRL_STAGE, [])
  | .stageCommit _ _ => some (.PRL_STAGE, [])
  | .trimCheck _ => some (.CAL_CMD, [])
  | .trim _ => some (.CAL_CMD, [])
  | .probeLearn _ => some (.CAL_CMD, [])
  | .calElec _ => some (.CAL_CMD, [])
  | .calOpt _ => some (.CAL_CMD, [])
  | .restore _ => some (.CAL_CMD, [])
  | .abort _ => some (.CAL_CMD, [])
  | _ => none

/-- Lane e has entered FAULT with the sticky flags fl: it keeps its integrator, drive and output, the path service has a report
of it, and every other lane is the same (R83, R90). -/
def faulted (e : Nat) (fl : BitVec 8) (s t : State) : Prop :=
  t.lane e = { s.lane e with st := .fault, why := 0, sticky := (s.lane e).sticky ||| fl } ∧ otherLanes e s t
    ∧ (∃ r : Report, t.pth.reports = s.pth.reports ++ [r] ∧ r.e = e ∧ r.kind = 0) ∧ otherRegs (noteRegs e) s t
    ∧ changesOnly [.regs, .lanes, .clr, .pth, .cap, .prl] s t

/-- The parts a command may change, by the rules of its row in spec/opcode_table.json. -/
def partsOf : Instr → List Part
  | .registerWrite _ _ => [.regs, .plk, .lanes, .clusters, .clr, .yk, .pth, .pair, .fab, .sgf, .hif, .cap, .flt, .pwr, .thm,
      .pwm, .cal, .prl, .freeN]
  | .bar0AccessError _ => [.regs, .hif, .prl, .rdata]
  | .powerOnReset => [.straps, .sys, .regs, .plk, .lanes, .clusters, .col, .clr, .yk, .pth, .pair, .fab, .sgf, .hif, .cap,
      .flt, .pwr, .thm, .pwm, .cal, .prl]
  | .porRelease _ _ _ _ => [.straps, .sys, .regs, .plk, .lanes, .clusters, .yk, .pth, .pair, .fab, .sgf, .hif, .cap,
      .flt, .cal, .prl, .freeN]
  | .mainRailReset _ => [.sys, .regs, .plk, .lanes, .clusters, .col, .clr, .yk, .pth, .pair, .fab, .sgf, .hif, .cap, .flt,
      .pwr, .thm, .pwm, .cal, .prl]
  | .mainRailResetRelease _ _ _ _ => [.straps, .sys, .regs, .plk, .lanes, .clusters, .yk, .pth, .pair, .fab, .sgf,
      .hif, .cap, .flt, .cal, .prl, .freeN]
  | .bootStage _ => [.sys, .regs, .plk, .lanes, .clusters, .yk, .pth, .pair, .hif, .flt, .thm, .pwm, .cal, .prl]
  | .supplyFailBleed => [.regs, .plk, .prl]
  | .hvSupplyLoss => [.sys, .plk]
  | .engageRequest => [.regs, .plk, .prl]
  | .releaseRequest => [.regs, .plk]
  | .placketEngaged _ => [.regs, .plk, .pth, .prl]
  | .engageTimeout _ => [.regs, .plk, .prl]
  | .holdVoltageLow _ => [.regs, .plk, .prl]
  | .placketReleased => [.regs, .plk, .prl]
  | .cufCtrlWrite _ => [.regs, .lanes, .yk, .prl, .freeN]
  | .toneZeroCrossing _ => [.regs, .lanes, .pth, .cap, .prl]
  | .conversionFrame _ _ _ => [.regs, .lanes, .clusters, .clr, .pth, .cap, .cal, .prl]
  | .lightClassChange _ _ => [.regs, .lanes, .clr, .pth, .cap, .cal, .prl]
  | .hiRangeReturn _ _ => [.lanes]
  | .loopUpdate _ _ => [.regs, .lanes, .clusters, .clr, .pth, .cap, .prl]
  | .loopLock _ _ => [.regs, .lanes, .clr, .pth, .cap, .prl]
  | .loopUnlock _ _ => [.regs, .lanes, .clr, .pth, .cap, .prl]
  | .integratorSatFault _ _ => [.regs, .lanes, .clr, .pth, .cap, .prl]
  | .leakFault _ _ => [.regs, .lanes, .clr, .pth, .cap, .prl]
  | .acqTimeout _ _ => [.regs, .lanes, .clr, .pth, .cap, .prl]
  | .learningTick _ _ => [.regs, .lanes, .clr, .pth, .cap, .prl]
  | .setptWrite _ _ _ => [.regs, .lanes]
  | .laneRestart _ _ _ => [.regs, .lanes, .clr, .pth, .cap, .prl]
  | .restartAll _ _ _ => [.regs, .lanes, .clusters, .clr, .pth, .cap, .prl]
  | .cuffExchange _ => [.regs, .lanes, .clusters, .clr, .pth, .cap, .prl]
  | .exchangeStale _ _ => [.regs, .lanes, .clusters, .clr, .pth, .cap, .prl]
  | .refSelectWrite _ _ => [.regs, .lanes, .clusters, .pth, .cap, .prl]
  | .refSettleExpiry _ _ _ => [.regs, .clusters]
  | .refOutOfWindow _ _ => [.regs, .lanes, .clusters, .pth, .cap, .prl]
  | .accEnable _ _ => [.regs, .clusters]
  | .accStop _ _ => [.regs, .clusters]
  | .accStopDone _ => [.clusters]
  | .accTrigger _ => [.regs, .clusters]
  | .accWindowEnd _ _ => [.regs, .clusters, .clr, .cap]
  | .driveUpdate _ _ => [.regs, .lanes, .clusters, .clr, .pth, .cap, .prl]
  | .ovcDetect _ _ => [.regs, .lanes, .clr, .pth, .cap, .prl]
  | .lsgHostLoad _ _ => [.clusters]
  | .drvLimWrite _ _ => [.regs, .prl]
  | .patternFire _ => [.regs, .lanes, .clusters, .col, .clr, .yk, .pth, .pair, .hif, .cap, .cal, .prl]
  | .handOver _ _ => [.regs, .lanes, .clr, .pth, .cap, .prl]
  | .clusterReport _ _ => [.regs, .lanes, .clusters, .col, .pth, .cap, .cal, .prl]
  | .collectorResolve _ _ => [.regs, .col, .clr, .yk, .pth, .pair, .fab, .hif, .prl, .freeN]
  | .measRecord _ _ => [.regs, .lanes, .clr, .cap]
  | .intakeTurn => [.regs, .pth, .hif, .prl]
  | .connect _ => [.clr, .pth, .fab, .hif]
  | .release _ => [.clr, .pth, .fab, .hif]
  | .move _ => [.clr, .pth, .fab, .hif]
  | .query => [.pth, .hif]
  | .fence => [.pth, .hif]
  | .fwLoad => [.pth, .hif, .prl]
  | .fwCommit _ => [.pth, .hif, .prl]
  | .logRead => [.pth, .hif, .hostMem]
  | .placement _ => [.regs, .clr, .yk, .pth, .pair, .fab, .hif, .prl, .freeN]
  | .stagingEnd _ => [.regs, .clr, .yk, .pth, .pair, .hif, .prl, .freeN]
  | .commitPoint _ => [.clr, .yk]
  | .completionWrite => [.regs, .hif, .hostMem]
  | .elementFaultReport _ => [.regs, .clr, .yk, .pth, .pair, .fab, .hif, .prl, .freeN]
  | .repairPatternFire _ => [.regs, .lanes, .clusters, .col, .clr, .yk, .pth, .pair, .hif, .cap, .cal, .prl]
  | .continuityFault _ => [.regs, .clr, .pth, .prl]
  | .bankRestore _ => [.regs, .pth]
  | .eqRefresh _ _ => [.regs, .lanes, .clr, .pth, .prl, .freeN]
  | .tagBitPeriod _ => [.lanes, .clr, .pth]
  | .tagEvaluation _ _ => [.regs, .clr, .yk, .pth, .pair, .fab, .hif, .prl, .freeN]
  | .tagIdWrite _ => [.regs]
  | .pthExclWrite _ _ => [.regs]
  | .pthExclSetWrite _ _ => [.regs]
  | .ppsEdge _ => [.regs, .clusters, .clr, .pth, .sgf, .hif, .cap, .prl]
  | .ppsWindowClose _ => [.regs, .clr, .hif, .prl]
  | .networkSecond _ => [.regs, .clusters, .clr, .yk, .pth, .sgf, .hif, .cap, .prl]
  | .ref10mWindow _ => [.regs, .clr, .hif, .prl]
  | .ref10mLoss => [.regs, .clr, .hif, .prl]
  | .todMessage _ _ _ => [.regs, .clr, .hif, .prl]
  | .todWindowClose _ => [.clr]
  | .holdoverLimit _ => [.regs, .clr, .hif, .prl]
  | .clrCtrlWrite _ => [.regs, .clr, .hif, .prl]
  | .timeSetArm _ => [.regs, .clr]
  | .clockSnapshot _ => [.regs, .clr, .rdata]
  | .ykGridWrite _ => [.regs, .hif, .prl]
  | .calendarStartRequest _ _ => [.regs, .clr, .yk, .pair, .hif, .prl]
  | .calendarStopRequest _ _ => [.regs, .clr, .yk, .pair]
  | .calendarStart _ => [.regs, .lanes, .clusters, .col, .clr, .yk, .pth, .pair, .hif, .cap, .cal, .prl, .freeN]
  | .calendarTurn _ => [.regs, .lanes, .clusters, .col, .clr, .yk, .pth, .pair, .fab, .hif, .cap, .cal, .prl, .freeN]
  | .calSwitchRequest _ _ => [.regs, .clr, .yk, .pair, .hif, .prl]
  | .announceRepeat _ => [.clr, .yk, .pair]
  | .doorbell _ _ _ => [.regs, .hif, .prl, .hostMem]
  | .ringEnable _ _ => [.regs, .hif, .prl]
  | .ringDisable _ _ => [.regs, .hif, .prl]
  | .ringStopDone _ => [.regs, .hif, .cap, .prl]
  | .eventWrite => [.regs, .hif, .prl, .hostMem]
  | .coalesceTimer _ => [.regs, .hif, .cap]
  | .sphTxFetch _ _ => [.regs, .clr, .sgf, .hif]
  | .sphTxWriteback => [.regs, .hif, .hostMem]
  | .sphRxWrite _ _ => [.regs, .clr, .sgf, .hif, .prl, .freeN, .hostMem]
  | .dmaReadFail _ _ => [.regs, .pth, .hif, .prl]
  | .dmaWriteFail _ _ => [.regs, .pth, .sgf, .hif, .cap, .prl, .freeN, .hostMem]
  | .pcieFunctionReset _ => [.sys, .regs, .pth, .sgf, .hif, .cap, .flt]
  | .pcieLinkRetrain _ _ => [.sys, .pwr]
  | .captureEnable _ _ _ => [.regs, .clr, .hif, .cap, .prl]
  | .captureDisable _ _ => [.regs, .hif, .cap, .prl]
  | .captureDoorbell _ _ _ => [.regs, .clr, .hif, .cap, .prl]
  | .captureWrite _ _ => [.regs, .clr, .hif, .cap, .prl, .hostMem]
  | .quotaWindowEnd _ => [.clr, .cap]
  | .capIndexLatch _ _ => [.cap, .rdata]
  | .frameIngress _ _ _ _ _ => [.regs, .clr, .yk, .fab, .sgf, .hif]
  | .frameComplete _ _ _ _ => [.regs, .clr, .sgf, .hif, .prl]
  | .crossbarSlot _ _ => [.regs, .clr, .sgf, .hif, .prl]
  | .egressSelect _ _ => [.clr, .sgf]
  | .transmitEnd _ _ => [.regs, .clr, .sgf, .hif]
  | .portEnable _ _ => [.regs, .sgf, .hif, .prl, .freeN]
  | .portDisable _ _ => [.regs, .sgf, .hif, .prl, .freeN]
  | .portStopDone _ => [.sgf]
  | .linkUp _ _ _ => [.regs, .sgf, .prl]
  | .linkLoss _ _ _ => [.regs, .clr, .sgf, .hif, .prl]
  | .holdoffExpiry _ _ => [.regs, .clr, .sgf, .hif, .prl]
  | .anTimeout _ => [.regs, .sgf, .prl]
  | .fwdInsert _ => [.regs, .sgf, .prl, .freeN]
  | .fwdDelete _ => [.regs, .sgf, .prl]
  | .fwdLookup _ => [.regs, .sgf, .prl, .freeN]
  | .fwdRead _ => [.regs, .sgf, .prl, .freeN]
  | .fwdClear _ => [.regs, .sgf, .prl]
  | .fwdCommandDone => [.regs, .sgf]
  | .tokenRefill _ => [.regs, .clr, .sgf, .prl]
  | .shaperApply _ _ => [.regs, .sgf]
  | .policerApply _ _ => [.regs, .sgf]
  | .queueSample _ => [.clr, .sgf]
  | .healthUpdate => [.regs, .yk, .pth, .pair, .hif, .prl]
  | .healthOkAssert => [.regs, .pair, .hif, .prl]
  | .helloSend _ => [.clr, .pair]
  | .hello _ _ _ _ => [.regs, .clr, .yk, .pth, .pair, .hif, .prl, .freeN]
  | .txn _ _ _ => [.regs, .clr, .yk, .pth, .pair, .hif, .prl, .freeN]
  | .ack _ _ _ _ => [.regs, .clr, .yk, .pth, .pair, .hif, .prl, .freeN]
  | .outcome _ _ _ _ _ => [.regs, .clr, .yk, .pth, .pair, .hif, .prl, .freeN]
  | .ann _ _ _ => [.regs, .clr, .yk, .pth, .pair, .hif, .prl, .freeN]
  | .ctrl _ _ _ => [.regs, .clr, .yk, .pth, .pair, .hif, .prl, .freeN]
  | .stateMsg _ _ _ => [.regs, .clr, .yk, .pth, .pair, .hif, .prl, .freeN]
  | .retry _ _ _ _ => [.regs, .clr, .yk, .pth, .pair, .hif, .prl, .freeN]
  | .mirrorLaneChange _ _ => [.regs, .pair, .prl]
  | .peerLoss => [.regs, .yk, .pth, .pair, .hif, .prl]
  | .mirrorTimeout _ => [.regs, .clr, .yk, .pth, .pair, .hif, .prl]
  | .activeSelChange _ => [.regs, .yk, .pth, .pair, .hif, .prl]
  | .reclaimHold => [.pair]
  | .pairResync _ => [.regs, .yk, .pth, .pair, .hif, .prl]
  | .fabHelloSend _ => [.clr, .fab]
  | .fabHello _ _ _ => [.regs, .clr, .yk, .pth, .pair, .fab, .hif, .prl, .freeN]
  | .discSend _ => [.clr, .fab]
  | .disc _ _ => [.regs, .clr, .yk, .pth, .pair, .fab, .hif, .prl, .freeN]
  | .lsa _ _ => [.regs, .clr, .yk, .pth, .pair, .fab, .hif, .prl, .freeN]
  | .routeRecompute => [.regs, .yk, .pth, .pair, .fab, .hif, .prl, .freeN]
  | .neighbourLoss _ _ => [.regs, .clr, .yk, .pth, .pair, .fab, .hif, .prl, .freeN]
  | .reserve _ _ => [.regs, .clr, .yk, .pth, .pair, .fab, .hif, .prl, .freeN]
  | .resvReply _ _ => [.regs, .clr, .yk, .pth, .pair, .fab, .hif, .prl, .freeN]
  | .commit _ _ => [.regs, .clr, .yk, .pth, .pair, .fab, .hif, .prl, .freeN]
  | .fabOutcome _ _ => [.regs, .clr, .yk, .pth, .pair, .fab, .hif, .prl, .freeN]
  | .down _ _ => [.regs, .clr, .yk, .pth, .pair, .fab, .hif, .prl, .freeN]
  | .controlRetransmit _ => [.clr, .fab]
  | .reservationTimeout _ => [.regs, .clr, .yk, .pth, .pair, .fab, .hif, .prl, .freeN]
  | .linkLossDetect _ => [.regs, .clr, .yk, .pth, .pair, .fab, .hif, .prl, .freeN]
  | .probeDwell _ => [.clr, .yk, .pth, .fab, .freeN]
  | .faultSourceSet _ _ _ => [.regs, .plk, .lanes, .clusters, .yk, .pth, .pair, .fab, .sgf, .hif, .cap, .flt, .cal, .prl,
      .freeN]
  | .fltForce _ _ => [.flt]
  | .fltStatClear _ _ => [.regs, .lanes, .clusters, .yk, .pth, .pair, .fab, .hif, .flt, .prl, .freeN]
  | .fltConfigWrite _ _ _ => [.regs, .flt]
  | .escalationExpiry _ _ _ => [.regs, .plk, .lanes, .clusters, .yk, .pth, .pair, .fab, .sgf, .hif, .cap, .flt, .cal, .prl,
      .freeN]
  | .parityError _ _ => [.regs, .plk, .lanes, .clusters, .yk, .pth, .pair, .fab, .sgf, .hif, .cap, .flt, .cal, .prl, .freeN]
  | .safeEntryComplete _ => [.regs, .lanes, .clusters, .yk, .pth, .pair, .fab, .hif, .flt, .prl, .freeN]
  | .sensorMeasure _ _ => [.regs, .plk, .lanes, .clusters, .clr, .yk, .pth, .pair, .fab, .sgf, .hif, .cap, .flt,
      .thm, .cal, .prl, .freeN]
  | .thermalRestart => [.sys, .regs, .plk, .lanes, .clusters, .col, .clr, .yk, .pth, .pair, .fab, .sgf, .hif, .cap, .flt,
      .pwr, .thm, .pwm, .cal, .prl]
  | .thermalRestartRelease _ _ _ _ => [.straps, .sys, .regs, .plk, .lanes, .clusters, .yk, .pth, .pair, .fab, .sgf,
      .hif, .cap, .flt, .cal, .prl, .freeN]
  | .tecLoop => [.regs, .thm, .pwm]
  | .tecBandTimeout => [.thm]
  | .pwmReload _ => [.regs, .flt, .pwm, .prl]
  | .pwmPulseEnd _ => [.pwm]
  | .pwmFaultInput _ _ => [.regs, .flt, .pwm, .prl]
  | .pwmEnable _ _ => [.regs, .flt, .pwm, .prl]
  | .pwmDisable _ _ => [.regs, .flt, .pwm, .prl]
  | .pwmUpdate _ _ => [.pwm]
  | .powerTargetWrite _ _ => [.regs, .plk, .lanes, .clusters, .clr, .yk, .pth, .cap, .pwr, .cal, .prl, .freeN]
  | .powerEntry _ _ => [.regs, .plk, .lanes, .clusters, .clr, .pth, .cap, .pwr, .prl]
  | .powerChangeDone _ => [.regs, .plk, .lanes, .clusters, .clr, .yk, .pth, .sgf, .hif, .cap, .pwr, .prl, .freeN]
  | .autoWake _ => [.regs, .plk, .lanes, .clusters, .clr, .pth, .cap, .pwr, .prl]
  | .lockstepHalt => [.prl]
  | .heartbeat => [.prl]
  | .heartbeatLate => [.prl]
  | .interruptEntry => [.regs, .prl]
  | .interruptReturn => [.prl]
  | .icGateWrite _ => [.regs]
  | .praleSleep => [.regs, .prl]
  | .praleWake _ => [.regs, .prl]
  | .read32 _ _ => [.regs, .clr, .sgf, .cap, .thm, .prl, .freeN, .rdata]
  | .write32 _ _ _ _ => [.regs, .plk, .lanes, .clusters, .clr, .yk, .pth, .pair, .fab, .sgf, .hif, .cap, .flt, .pwr, .thm,
      .pwm, .cal, .prl, .freeN]
  | .alertResponse => [.freeN, .rdata]
  | .logAppend => [.hif, .prl]
  | .stageRelease _ => [.hif, .prl]
  | .stageCommit _ _ => [.hif, .prl]
  | .stagingTimeout => [.hif, .prl]
  | .slotConfirm => [.hif, .prl]
  | .trimCheck _ => [.regs, .lanes, .clusters, .clr, .yk, .pth, .hif, .cap, .cal, .prl, .freeN]
  | .trim _ => [.regs, .lanes, .clusters, .clr, .yk, .pth, .hif, .cap, .cal, .prl, .freeN]
  | .probeLearn _ => [.regs, .lanes, .clusters, .clr, .yk, .pth, .hif, .cap, .cal, .prl, .freeN]
  | .calElec _ => [.regs, .lanes, .clusters, .clr, .yk, .pth, .hif, .cap, .cal, .prl, .freeN]
  | .calOpt _ => [.regs, .lanes, .clusters, .clr, .yk, .pth, .hif, .cap, .cal, .prl, .freeN]
  | .restore _ => [.regs, .lanes, .clusters, .clr, .yk, .pth, .hif, .cap, .cal, .prl, .freeN]
  | .abort _ => [.regs, .lanes, .clusters, .clr, .yk, .pth, .hif, .cap, .cal, .prl, .freeN]
  | .probeLayerDwell _ => [.regs, .lanes, .clusters, .clr, .yk, .pth, .hif, .cap, .cal, .prl, .freeN]
  | .trimPulse _ _ => [.regs, .lanes, .clusters, .clr, .yk, .pth, .hif, .cap, .cal, .prl, .freeN]
  | .calStepDone _ _ _ => [.regs, .lanes, .clusters, .clr, .yk, .pth, .cap, .cal, .prl, .freeN]
  | .calRunDone _ => [.regs, .clr, .cal]
  | .rcRegisterRead _ => [.regs, .clr, .sgf, .cap, .thm, .rdata]
  | .ppsLossBeforeSet _ => [.regs, .clr, .hif, .prl]
  | .hvSupplyReturn => [.sys, .plk]
  | .smbusTimeout => [.regs, .clr, .sgf, .cap, .thm, .prl, .freeN, .rdata]
  | .perstNDeassertion => [.sys, .pwr]

end Sys2Proof.Machine
end

