-- ==== Sys2Proof/Certificates/Slice0/Obligations.lean ====
section
/-! DEFINITION. The statements for the provers. `Runs c s P`: command c answers a next state in s, and P holds of it.
`changesOnly l s t`: the queue and every part of the state outside l are the same. -/
open Sys2Proof Sys2Proof.Machine

/-! ### The machine as a whole -/

/-- For every command c and state with c at the front of its queue, a step is exec of c on that state with the rest of the queue.
That a block takes its commands from a queue is the form of this model. (R12, R17.) -/
def Obligations.StepRunsFront : Prop := ∀ (c : Instr) (s : State) (rest : List Instr), s.pending = c :: rest →
  step s = exec c { s with pending := rest }

/-- At reset no command waits, host memory lists no byte and is in canonical form, the boot stage is 0 and READY is 0, the Placket
is RELEASED and inhibited with PUMP_OK 0, TAG_DEPTH is 8 and IDLE_BLOCK 1, network time is 0 and UNSET, and the Yoke is in
STATIC mode. (PUMP_OK 0, network time 0 and the empty memory are choices of the model where no rule gives them: log entries 3
and 8.) (R15, R51, R54, R190, R198, R204, R231.) -/
def Obligations.ResetState : Prop := State.reset.pending = [] ∧ State.reset.memWf = true ∧ State.reset.hostMem = []
  ∧ State.reset.sys.stage = 0 ∧ State.reset.ready = false ∧ State.reset.plk.st = .released ∧ State.reset.plk.pumpOk = false
  ∧ State.reset.plkInhibit = true ∧ State.reset.f CUF_CTRL.TAG_DEPTH [] = 8 ∧ State.reset.fb CUF_CTRL.IDLE_BLOCK [] = true
  ∧ State.reset.clr.now = 0 ∧ State.reset.clr.st = .unset ∧ State.reset.yk.mode = 0

/-- Every command answers a next state from every state; the queue is kept, and every part of the state that partsOf does not list
for the command is the same. (That a command runs where its rule gives it no effect is log entry 17.) (R12, R22, R59, R99.) -/
def Obligations.FrameOfEveryCommand : Prop := ∀ (c : Instr) (s : State), Runs c s (changesOnly (partsOf c) s)

/-- From every state whose host memory is in canonical form (addresses rising, no entry equal to what an unlisted address reads
as), a step that answers a next state gives one whose host memory is in canonical form. (That an unlisted byte reads 0 is log
entry 8.) (R232, R238, R243, R257, R258.) -/
def Obligations.HostMemoryStaysCanonical : Prop := ∀ s t : State, s.memWf = true → step s = .next t → t.memWf = true

/-- From every state whose boot stage is at most 15, a step that answers a next state gives one whose boot stage is at most 15.
(R461, R463, R460.) -/
def Obligations.BootStageBounded : Prop := ∀ s t : State, s.sys.stage ≤ 15 → step s = .next t → t.sys.stage ≤ 15

/-! ### Placket and Cuff globals -/

/-- When READY and outside a reset (R464): an engage request starts ENGAGING in RELEASED without inhibit and with PUMP_OK; is
refused with ENG_REFUSED and ENGAGE 0 under an inhibit or without PUMP_OK; is deferred in RELEASING; and changes nothing of
the Placket in ENGAGING and ENGAGED. A release request in ENGAGING or ENGAGED starts RELEASING. In any state of the module:
with a hold voltage of at least 27.0 V (540 codes) the couplers' end gives ENGAGED; the engage timeout, and a hold voltage
below 25.0 V (500 codes) in ENGAGED, give RELEASING with ENGAGE 0 and PUMP_LOW. The end of a release gives RELEASED, or
ENGAGING where a request is deferred and allowed. The failing supplies release the Placket, the loss of the high-voltage
supplies clears PUMP_OK, and their return sets it. Each clause names the parts of the state that may change. (R54, R55, R57,
R58, R122, R464.) -/
def Obligations.Placket : Prop :=
  (∀ s : State, s.isOpen = true →
    (s.plk.st = .released → s.plkInhibit = false → s.plk.pumpOk = true → Runs .engageRequest s fun t =>
      t.plk = { s.plk with st := .engaging } ∧ t.f PLK_CTRL.ENGAGE [] = 1 ∧ changesOnly [.regs, .plk] s t
        ∧ otherRegs [Reg.PLK_CTRL.at []] s t)
    ∧ (s.plk.st = .released → (s.plkInhibit = true ∨ s.plk.pumpOk = false) → Runs .engageRequest s fun t =>
      t.plk = s.plk ∧ t.f PLK_CTRL.ENGAGE [] = 0 ∧ t.f PLK_EVT.ENG_REFUSED [] = 1 ∧ changesOnly [.regs] s t
        ∧ otherRegs [Reg.PLK_CTRL.at [], Reg.PLK_EVT.at []] s t)
    ∧ (s.plk.st = .releasing → Runs .engageRequest s fun t => t.plk = { s.plk with engPend := true }
        ∧ t.f PLK_CTRL.ENGAGE [] = 1 ∧ changesOnly [.regs, .plk] s t ∧ otherRegs [Reg.PLK_CTRL.at []] s t)
    ∧ (s.plk.st = .engaging ∨ s.plk.st = .engaged → Runs .engageRequest s fun t => t.plk = s.plk
        ∧ changesOnly [.regs] s t ∧ otherRegs [Reg.PLK_CTRL.at []] s t))
  ∧ (∀ (s : State) (hv : Fin 1024),
    (s.isOpen = true → s.plk.st = .engaging ∨ s.plk.st = .engaged → Runs .releaseRequest s fun t =>
      t.plk = { s.plk with st := .releasing, engPend := false } ∧ t.f PLK_CTRL.ENGAGE [] = 0
        ∧ changesOnly [.regs, .plk] s t ∧ otherRegs [Reg.PLK_CTRL.at []] s t)
    ∧ (s.plk.st = .engaging → 540 ≤ hv.val → Runs (.placketEngaged hv) s fun t => t.plk.st = .engaged ∧ t.plk.holdV = hv.val
        ∧ t.f PLK_EVT.ENGAGED_DONE [] = 1 ∧ changesOnly [.regs, .plk, .pth] s t)
    ∧ (s.plk.st = .engaging → Runs (.engageTimeout hv) s fun t => t.plk.st = .releasing ∧ t.plk.holdV = hv.val
        ∧ t.f PLK_CTRL.ENGAGE [] = 0 ∧ t.f PLK_EVT.PUMP_LOW [] = 1 ∧ changesOnly [.regs, .plk] s t)
    ∧ (s.plk.st = .engaged → hv.val < 500 → Runs (.holdVoltageLow hv) s fun t => t.plk.st = .releasing
        ∧ t.f PLK_CTRL.ENGAGE [] = 0 ∧ t.f PLK_EVT.PUMP_LOW [] = 1 ∧ changesOnly [.regs, .plk] s t)
    ∧ (s.plk.st = .releasing → s.plk.engPend = false → Runs .placketReleased s fun t =>
        t.plk = { s.plk with st := .released, engPend := false, holdV := 0 } ∧ t.f PLK_EVT.RELEASED_DONE [] = 1
          ∧ changesOnly [.regs, .plk] s t)
    ∧ (s.plk.st = .releasing → s.plk.engPend = true → s.plkInhibit = false → s.plk.pumpOk = true →
        Runs .placketReleased s fun t => t.plk.st = .engaging ∧ t.plk.engPend = false ∧ changesOnly [.regs, .plk] s t))
  ∧ (∀ s : State,
    Runs .supplyFailBleed s (fun t => t.plk.st = .released ∧ t.plk.pumpOk = false ∧ changesOnly [.regs, .plk] s t)
    ∧ Runs .hvSupplyLoss s (fun t => t.sys = { s.sys with hvOk := false } ∧ t.plk = { s.plk with pumpOk := false }
        ∧ changesOnly [.sys, .plk] s t)
    ∧ Runs .hvSupplyReturn s (fun t => t.sys = { s.sys with hvOk := true } ∧ t.plk = { s.plk with pumpOk := true }
        ∧ changesOnly [.sys, .plk] s t))

/-- When READY and outside a reset (R464), a write of CUF_CTRL stores TAG_DEPTH clamped to 4 to 20 and IDLE_BLOCK, sets
DEPTH_CLAMP where it clamped, and, where the depth changes, gives the ingress lanes of both planes of each in-port that has a
path, or that a pattern of the store gives one, one new tag tone amplitude and shift, which they take at their next zero
crossing; nothing else of a lane changes. (The new amplitudes are free values: log entry 11.) (R39, R51, R52, R50, R464.) -/
def Obligations.CufCtrlWrite : Prop := ∀ (s : State) (v : Word), s.isOpen = true →
  Runs (.cufCtrlWrite v) s fun t =>
    t.f CUF_CTRL.TAG_DEPTH [] = (if fget 0 5 v < 4 then 4 else if 20 < fget 0 5 v then 20 else fget 0 5 v)
    ∧ t.f CUF_CTRL.IDLE_BLOCK [] = fget 8 1 v
    ∧ (fget 0 5 v < 4 ∨ 20 < fget 0 5 v → t.f CUF_STATUS.DEPTH_CLAMP [] = 1)
    ∧ (t.f CUF_CTRL.TAG_DEPTH [] = s.f CUF_CTRL.TAG_DEPTH [] → t.lanes = s.lanes ∧ t.yk = s.yk)
    ∧ (t.f CUF_CTRL.TAG_DEPTH [] ≠ s.f CUF_CTRL.TAG_DEPTH [] → ∀ p, p < 512 → s.toned p = true →
        ∃ n, s.freeN ≤ n ∧ n < t.freeN ∧ ∀ pl, pl < 2 → t.lane (cuffOf pl 0 p) =
          { s.lane (cuffOf pl 0 p) with tagAmp := Config.freeAmp n % 256, tagAsh := Config.freeAsh n % 8 })
    ∧ (∀ e, (∀ p pl, p < 512 → s.toned p = true → e ≠ cuffOf pl 0 p) → t.lane e = s.lane e)
    ∧ changesOnly [.regs, .lanes, .yk, .freeN] s t

/-! ### Resets and boot -/

/-- Power-on reset takes the Placket, lanes, clusters, path service, Yoke, Collar, faults, thermal block and host interface to
their reset values and keeps the queue and host memory. Its release samples all straps and changes only them, the boot state,
registers and the path service, whose tag identity takes DEVID in FABRIC and 64 times the unit number in PAIR; with MODE 0b11
and source 1 enabled it enters the safe state with the status of source 1 set (R28). A main-rail reset resets the Placket,
path service and lanes, keeps the PWM channels and host memory, and leaves the status of its rail set. A thermal restart that
is asked for changes nothing while the Placket is not RELEASED and then does the same (log entry 211). The releases of both,
the latter after 1,000 cool measurements, sample PREF, DEVID and BOOT_SRC and keep MODE, and change no more than the release
of power-on reset (log entry 125; in the reserved MODE the fault of source 1 comes again). A PCIe reset makes every ring
inactive with PI and CI 0 and changes no path, lane, Yoke state or byte of host memory; PERST_N shows in sys, and its
deassertion ends what a power request had noted of PCIe being off. (R28, R29, R226, R415, R460, R461.) -/
def Obligations.Resets : Prop :=
  (∀ s : State, Runs .powerOnReset s fun t => t.sys.stage = 0 ∧ t.sys.por = true
    ∧ t.plk = State.reset.plk ∧ t.lanes = [] ∧ t.clusters = [] ∧ t.pth = State.reset.pth ∧ t.yk = State.reset.yk
    ∧ t.clr = State.reset.clr ∧ t.flt = State.reset.flt ∧ t.thm = State.reset.thm ∧ t.hif = State.reset.hif
    ∧ t.pending = s.pending ∧ t.hostMem = s.hostMem)
  ∧ (∀ (s : State) (m : Fin 4) (pref : Bool) (devid : Fin 64) (src : Bool),
    s.sys.por = true → Runs (.porRelease m pref devid src) s fun t =>
      t.sys = { s.sys with por := false, stage := 1, mode := m.val, pref := pref, devid := devid.val, bootSrc := src }
      ∧ (m.val = 2 → t.pth.tagId = devid.val) ∧ (m.val = 1 → t.pth.tagId = if pref then 0 else 64)
      ∧ (m.val ≠ 3 → changesOnly [.straps, .sys, .regs, .pth] s t)
      ∧ (m.val = 3 → s.src .FLT_EN 1 = true → t.flt.safe = true ∧ t.src .FLT_STAT 1 = true))
  ∧ (∀ (s : State) (rail m : Fin 4) (pref : Bool) (devid : Fin 64) (src : Bool),
    (s.sys.por = false → s.sys.mainRst = false → Runs (.mainRailReset rail) s fun t => t.sys.stage = 0 ∧ t.sys.mainRst = true
      ∧ t.plk.st = .released ∧ t.pth = State.reset.pth ∧ t.lanes = [] ∧ t.thm = { s.thm with start := true, restartP := false }
      ∧ t.pwm = s.pwm ∧ bit (if rail.val = 3 then 13 else 9 + rail.val) (t.reg .FLT_STAT [0]) = true ∧ t.hostMem = s.hostMem)
    ∧ (s.sys.mainRst = true → s.sys.thmRst = false → Runs (.mainRailResetRelease m pref devid src) s fun t =>
        t.sys = { s.sys with mainRst := false, pref := pref, devid := devid.val, bootSrc := src }
        ∧ (s.sys.mode ≠ 3 → changesOnly [.straps, .sys, .regs, .pth] s t))
    ∧ (s.thm.restartP = true → s.plk.st ≠ .released → Runs .thermalRestart s fun t => t = s)
    ∧ (s.sys.por = false → s.thm.restartP = true → s.plk.st = .released → Runs .thermalRestart s fun t => t.sys.stage = 0 ∧ t.sys.thmRst = true
        ∧ t.plk.st = .released ∧ t.pth = State.reset.pth ∧ t.lanes = [] ∧ t.thm = { s.thm with start := true, restartP := false } ∧ t.pwm = s.pwm
          ∧ t.hostMem = s.hostMem)
    ∧ (s.sys.thmRst = true → s.sys.mainRst = false → 1000 ≤ s.thm.cool → Runs (.thermalRestartRelease m pref devid src) s fun t =>
        t.sys = { s.sys with thmRst := false, stage := 1, pref := pref, devid := devid.val, bootSrc := src }
        ∧ (s.sys.mode ≠ 3 → changesOnly [.straps, .sys, .regs, .pth] s t)))
  ∧ (∀ (s : State) (k : PcieRst),
    Runs (.pcieFunctionReset k) s (fun t => (∀ g, (t.ring g).active = false ∧ (t.ring g).pi = 0 ∧ (t.ring g).ci = 0)
      ∧ t.pth = s.pth ∧ t.yk = s.yk ∧ t.lanes = s.lanes ∧ t.hostMem = s.hostMem ∧ (k = .perst → t.sys.pcie = false))
    ∧ Runs .perstNDeassertion s (fun t => t.sys = { s.sys with pcie := true } ∧ t.pwr = { s.pwr with off := false }
        ∧ changesOnly [.sys, .pwr] s t))

/-- Outside a reset, while the boot has not stopped: a stage 0 to 2 or 4 to 13 that succeeds is followed by the next; stage 4 sets
the remap, stage 9 puts Cuff lanes into their blocking slot and switching lanes into OFF with the slot of their rest state,
stage 10 puts every cluster's loops in force, and stage 14, when every cluster has RUN_ACT, OUT_EN and its references settled,
sets READY and ends the start-up phase of the thermal block. With BOOT_SRC = 1 and no image staged, stage 3 waits whatever
comes (R462). A stage that fails with a cause, stage 14 also for those conditions, stops the boot at its stage and writes
stage and cause to PRL_BOOT. (Which stages have a cause: log entry 126; the wait: log entry 136.) (R461, R462, R463, R464,
R465.) -/
def Obligations.BootStages : Prop := ∀ (s : State) (b : BootIn),
  s.inReset = false → s.sys.stopped = false →
  (b.ok = true → s.sys.stage ∈ [0, 1, 2, 4, 5, 6, 7, 8, 9, 10, 11, 12, 13] →
    Runs (.bootStage b) s fun t => t.sys.stage = s.sys.stage + 1)
  ∧ (b.ok = true → s.sys.stage = 4 → Runs (.bootStage b) s fun t => t.prl = { s.prl with remap := true })
  ∧ (b.ok = true → s.sys.stage = 9 → Runs (.bootStage b) s fun t => ∀ e, e < 36864 →
      (t.lane e).st = (if isCuffE e then .block else .off) ∧ (t.lane e).cmd = (isCuffE e || nodeSlot false (qE e)))
  ∧ (b.ok = true → s.sys.stage = 10 → Runs (.bootStage b) s fun t => ∀ c, c < 144 → (t.cl c).runAct = true)
  ∧ (b.ok = true → s.sys.stage = 14 → s.selfTest = true → Runs (.bootStage b) s fun t => t.ready = true ∧ t.sys.readySince = true
      ∧ t.thm.start = false)
  ∧ (s.sys.stage = 3 → s.sys.bootSrc = true → s.prl.extent = 0 → Runs (.bootStage b) s fun t => t = s)
  ∧ (b.ok = false ∨ s.sys.stage = 14 ∧ s.selfTest = false → s.sys.stage ∈ [2, 3, 5, 6, 7, 12, 14] →
      (s.sys.stage = 3 → s.sys.bootSrc = false) → Runs (.bootStage b) s fun t => t.sys.stage = s.sys.stage
      ∧ t.sys.stopped = true ∧ t.reg .PRL_BOOT [] = wd (2 ^ 31 + s.sys.stage * 2 ^ 24 + bootCause s.sys.stage))

/-- When READY and outside a reset: an engage request in RELEASING leaves the Placket RELEASING and makes PLK_STATUS.ENG_PEND read
1. At the end of the release the deferred request is evaluated: under an inhibit or without PUMP_OK the Placket is RELEASED
with ENGAGE 0 and ENG_REFUSED, otherwise ENGAGING; in both cases the request is no longer pending. A release request cancels a
deferred request. A release request in ENGAGING or ENGAGED starts RELEASING at once. (R55.) -/
def Obligations.DeferredEngage : Prop := ∀ s : State, s.isOpen = true →
  (s.plk.st = .releasing → Runs .engageRequest s fun t => t.plk.st = .releasing ∧ fget 4 1 (t.view .PLK_STATUS []) = 1)
  ∧ (s.plk.st = .releasing → s.plk.engPend = true → Runs .placketReleased s fun t => t.plk.engPend = false
      ∧ t.plk.st = (if s.plkInhibit = true ∨ s.plk.pumpOk = false then .released else .engaging)
      ∧ (s.plkInhibit = true ∨ s.plk.pumpOk = false → t.f PLK_CTRL.ENGAGE [] = 0 ∧ t.f PLK_EVT.ENG_REFUSED [] = 1))
  ∧ (s.plk.st = .releasing → s.plk.engPend = true → Runs .releaseRequest s fun t => t.plk.st = .releasing ∧ t.plk.engPend = false)
  ∧ (s.plk.st = .engaging ∨ s.plk.st = .engaged → Runs .releaseRequest s fun t => t.plk.st = .releasing)

/-! ### Register accesses -/

/-- A write to an offset that no register occupies changes nothing and a read of it gives 0. When READY: HIF_SCRATCH stores the
written word and a read gives it; PTH_EVT, CLR_EVT, YK_EVT, PWR_EVT, THM_EVT, SGF_EVT and PLK_EVT clear the W1C bits written
with 1; TRN_CNT, SLV_LRN_CNT and ACC_OVR give their value and become 0 when read; an access error sets ACC_ERR, a faulty read
gives all ones. Before READY, writes to 0x2000 to 0xBFFF and to 0xE000 to 0x3FFF_FFFF change nothing. A command that is a
write of one register changes nothing in a reset (log entry 19), in a mode the register does not belong to, and before READY
outside the offsets that are open then. (R12, R14, R228, R231, R362, R387, R464.) -/
def Obligations.RegisterAccesses : Prop :=
  (∀ (s : State) (a : Nat) (v : Word), locate a = none →
    Runs (.registerWrite a v) s (fun t => t = s) ∧ Runs (.rcRegisterRead a) s (fun t => t = { s with rdata := 0 }))
  ∧ (∀ (s : State) (v : Word) (c : Fin 144) (w : Bool), s.ready = true → s.inReset = false →
    Runs (.registerWrite (Reg.HIF_SCRATCH.at []) v) s (fun t => t.reg .HIF_SCRATCH [] = v ∧ changesOnly [.regs] s t
        ∧ otherRegs [Reg.HIF_SCRATCH.at []] s t)
    ∧ (∀ r ∈ [Reg.PTH_EVT, .CLR_EVT, .YK_EVT, .PWR_EVT, .THM_EVT, .SGF_EVT, .PLK_EVT], Runs (.registerWrite (r.at []) v) s fun t =>
        t.reg r [] = s.reg r [] &&& ~~~ (v &&& wd r.row.w1c) ∧ changesOnly [.regs] s t ∧ otherRegs [r.at []] s t)
    ∧ (∀ r ∈ [Reg.TRN_CNT, .SLV_LRN_CNT, .ACC_OVR], Runs (.rcRegisterRead (r.at [c.val])) s fun t =>
        t.rdata = s.reg r [c.val] ∧ t.reg r [c.val] = 0 ∧ changesOnly [.regs, .rdata] s t ∧ otherRegs [r.at [c.val]] s t)
    ∧ Runs (.rcRegisterRead (Reg.HIF_SCRATCH.at [])) s (fun t => t = { s with rdata := s.reg .HIF_SCRATCH [] })
    ∧ Runs (.bar0AccessError w) s (fun t => t.f HIF_ERR.ACC_ERR [] = 1 ∧ (w = false → t.rdata = 0xFFFFFFFF)
        ∧ (w = true → t.rdata = s.rdata) ∧ changesOnly [.regs, .hif, .rdata] s t))
  ∧ (∀ (s : State) (a : Nat) (v : Word),
    (s.ready = false → (0x2000 ≤ a ∧ a < 0xC000 ∨ 0xE000 ≤ a ∧ a < 0x40000000) → Runs (.registerWrite a v) s fun t => t = s)
    ∧ (∀ (c : Instr) (p : Reg × List Nat), regOf c = some p →
        (s.inReset = true ∨ s.modeOff p.1 = true ∨ s.ready = false ∧ earlyAt (p.1.at p.2) = false) → Runs c s fun t => t = s))

/-- For every register, index and bit number below 32, a store of v through the access codes leaves a W1C bit written with 1 at 0,
an RW bit at the written value, and every other bit as it was; no other register changes. (R12.) -/
def Obligations.AccessCodes : Prop := ∀ (s : State) (r : Reg) (ix : List Nat) (v : Word) (n : Nat), n < 32 →
  bit n ((s.wrCodes r ix v).reg r ix) =
      (if r.row.w1c.testBit n && bit n v then false else if r.row.rw.testBit n then bit n v else bit n (s.reg r ix))
    ∧ otherRegs [r.at ix] s (s.wrCodes r ix v)

/-! ### Lanes and their loops -/

/-- In a lane whose loop is on and for which no condition of higher priority is due: ACQUIRE goes to LOCKED after LOCK_CNT updates
within the threshold, and LOCKED to ACQUIRE with LOCK_LOST after LOCK_CNT updates outside it. A saturated integrator, a leak
and an acquisition time-out that are due put the lane into FAULT with its drive held and set its sticky flag. With the high-
voltage supplies present, overcurrent sets the OVC flag and changes nothing else of the lane. No other lane changes. (R83,
R84, R89, R90, R120.) -/
def Obligations.LaneEvents : Prop :=
  (∀ (s : State) (e : Fin 36864) (t : Nat),
    s.loopOn e = true → s.darkDue e = false → s.satDue e = false → s.leakDue e = false →
    ((s.lane e).st = .acquire → max 1 (s.f SLV_LOOP.LOCK_CNT [e.val / 256]) ≤ (s.lane e).lockRun → s.acqDue e = false →
      Runs (.loopLock e t) s fun u => u.lane e = { s.lane e with st := .locked, lockRun := 0, unlockRun := 0 }
        ∧ otherLanes e s u ∧ otherRegs (noteRegs e) s u ∧ changesOnly [.regs, .lanes, .clr, .cap] s u)
    ∧ ((s.lane e).st = .locked → max 1 (s.f SLV_LOOP.LOCK_CNT [e.val / 256]) ≤ (s.lane e).unlockRun →
      Runs (.loopUnlock e t) s fun u => u.lane e = { (s.lane e).acquire with sticky := (s.lane e).sticky ||| stk 4 }
        ∧ otherLanes e s u ∧ otherRegs (noteRegs e) s u ∧ changesOnly [.regs, .lanes, .clr, .cap] s u))
  ∧ (∀ (s : State) (e : Fin 36864) (t : Nat),
    (s.faultOk e = true →
      (s.satDue e = true → Runs (.integratorSatFault e t) s (faulted e 0 s))
      ∧ (s.leakDue e = true → Runs (.leakFault e t) s (faulted e (stk 2) s))
      ∧ (s.acqDue e = true → Runs (.acqTimeout e t) s (faulted e (stk 3) s)))
    ∧ (s.sys.hvOk = true → Runs (.ovcDetect e t) s fun u =>
        u.lane e = { s.lane e with sticky := (s.lane e).sticky ||| stk 7 } ∧ otherLanes e s u
          ∧ otherRegs (noteRegs e) s u ∧ changesOnly [.regs, .lanes, .clr, .cap] s u))

/-- Outside P2 and while no profile runs, a switching lane that is dark becomes lit after 8 microseconds at LIT_ON, and then
acquires, with its demodulator restarted, if it was in HOLD (dark); one that is lit becomes dark after 8 microseconds below
LIT_OFF, and then goes to HOLD (dark) if its loop ran, with its drive held (but that of a probe lane whose calibration run was
reverted: log entry 234). In any other state only the class changes. In P2, and while its profile runs, the lane keeps its
class and nothing changes but the time (R92, R139). A tap in overload after 16 low conversions leaves it, with lane state and
other tap unchanged. No other lane changes. (R69, R83, R92, R102, R139.) -/
def Obligations.LightClasses : Prop := ∀ (s : State) (e : Fin 36864) (t : Nat) (tap : Bool), isCuffE e = false →
  ((s.lane e).prof.on = false → (s.cl (e.val / 256)).p2 = false → (s.lane e).lit = false → 8 ≤ (s.lane e).litRun → Runs (.lightClassChange e t) s fun u =>
      (u.lane e).lit = true
      ∧ ((s.lane e).st = .hold → (s.lane e).why = 0 → (u.lane e).st = .acquire ∧ (u.lane e).fill = 0)
      ∧ ((s.lane e).st ≠ .hold → u.lane e = { s.lane e with lit := true, litRun := 0 })
      ∧ otherLanes e s u ∧ otherRegs (noteRegs e) s u ∧ changesOnly [.regs, .lanes, .clr, .cap] s u)
  ∧ ((s.lane e).prof.on = false → (s.cl (e.val / 256)).p2 = false → (s.lane e).lit = true → 8 ≤ (s.lane e).darkRun →
    Runs (.lightClassChange e t) s fun u => (u.lane e).lit = false
      ∧ ((s.lane e).st.runs = true → (u.lane e).st = .hold ∧ (u.lane e).why = 0
          ∧ (s.cal.back.contains e.val = false → (u.lane e).drv = (s.lane e).drv))
      ∧ ((s.lane e).st.runs = false → u.lane e = { s.lane e with lit := false, darkRun := 0 }) ∧ otherLanes e s u
      ∧ changesOnly [.regs, .lanes, .clr, .cap, .cal] s u)
  ∧ ((s.lane e).prof.on = true ∨ (s.cl (e.val / 256)).p2 = true → Runs (.lightClassChange e t) s fun u => changesOnly [.clr] s u)
  ∧ ((if tap then (s.lane e).tap1 else (s.lane e).tap0).ovl = true → 16 ≤ (if tap then (s.lane e).tap1 else (s.lane e).tap0).lowRun →
      Runs (.hiRangeReturn e tap) s fun u =>
        (if tap then (u.lane e).tap1 else (u.lane e).tap0).ovl = false ∧ (u.lane e).st = (s.lane e).st
          ∧ (if tap then (u.lane e).tap0 = (s.lane e).tap0 else (u.lane e).tap1 = (s.lane e).tap1)
          ∧ otherLanes e s u ∧ changesOnly [.lanes] s u)

/-- When READY and outside a reset: a write of SETPT stores the word and notes its time; a lane whose slot in force it is, in
ACQUIRE, LOCKED, HOLD or FAULT, notes the difference to its old set-point for its next update, and nothing else of a lane
changes; while P4 is in force the write changes nothing (log entry 213). RESTART, at another time than a transition start of
the lane (R85; log entry 215), brings a switching lane outside P2 without an enabled sticky flag from FAULT to ACQUIRE when
lit and HOLD when dark, without isolation; a Cuff lane with an enabled flag, or at its transition start, stays as it is.
RESTART_ALL changes no lane of another cluster, none with an enabled sticky flag and none at its transition start, and leaves
every other lane of its cluster out of FAULT and not isolated; RUN takes bit 0. (The discard lane by lane: log entry 167.)
(R77, R81, R83, R85, R397, R464.) -/
def Obligations.SetPointsAndRestarts : Prop :=
  (∀ (s : State) (e : Fin 36864) (k : Fin 2) (v : Word), s.isOpen = true →
    (s.storeOff = true → Runs (.setptWrite e k v) s fun u => u = s)
    ∧ (s.storeOff = false → Runs (.setptWrite e k v) s fun u => u.reg .SETPT [e.val / 256, e.val % 256, k.val] = v
      ∧ u.lane e = (if decide (k = 1) = (s.lane e).cmd ∧ (s.lane e).st ∈ [LaneSt.acquire, .locked, .hold, .fault]
          then { s.lane e with
            spAdj := (s.lane e).spAdj + (spCode e (fget 16 16 v) - s.sp e (decide (k = 1))), spAt := some (decide (k = 1), s.clr.now) }
          else { s.lane e with spAt := some (decide (k = 1), s.clr.now) })
      ∧ otherLanes e s u ∧ otherRegs [Reg.SETPT.at [e.val / 256, e.val % 256, k.val]] s u ∧ changesOnly [.regs, .lanes] s u))
  ∧ (∀ (s : State) (e : Fin 36864) (c : Fin 144) (v : Word) (t : Nat), s.isOpen = true →
    (s.stickyEn e = false → (s.lane e).tr.any (fun x => x.t0 == max s.clr.now t) = false → (s.lane e).st = .fault →
      isCuffE e = false → (s.cl (e.val / 256)).p2 = false → Runs (.laneRestart e v t) s fun u => (u.lane e).isol = false ∧ (u.lane e).fill = 0
        ∧ (u.lane e).st = (if (s.lane e).lit then .acquire else .hold) ∧ otherLanes e s u)
    ∧ (s.stickyEn e = true ∨ (s.lane e).tr.any (fun x => x.t0 == max s.clr.now t) = true → isCuffE e = true → Runs (.laneRestart e v t) s fun u => u.lanes = s.lanes)
    ∧ Runs (.restartAll c v t) s (fun u => (∀ x, x / 256 ≠ c.val → u.lane x = s.lane x)
        ∧ (∀ x, x / 256 = c.val → s.stickyEn x = true ∨ (s.lane x).tr.any (fun y => y.t0 == max s.clr.now t) = true →
            u.lane x = s.lane x)
        ∧ (∀ x, x / 256 = c.val → s.stickyEn x = false → (s.lane x).tr.any (fun y => y.t0 == max s.clr.now t) = false → (u.lane x).isol = false ∧ (u.lane x).st ≠ .fault)
        ∧ u.fb SLV_CTRL.RUN [c.val] = bit 0 v))

/-- At a loop update RUN_ACT takes RUN, no lane of another cluster and none in PROFILE changes, and none in the folded states P3
and P4. Elsewhere, outside the safe state, a switching lane that runs, is not isolated, has no set-point adjustment and is not
clamped adds (gain × error × div) >> 12, turned by its polarity, to its integrator, within the integrator limit; one whose
integrator lies beyond a limit lowered since takes the limit with its sign and sets ISAT instead (that it adds nothing at that
update is log entry 175). Its drive is its set-point plus the integrator >> 8. (R73, R74, R91, R396.) -/
def Obligations.LoopUpdate : Prop := ∀ (s : State) (c : Fin 144) (t : Nat),
  Runs (.loopUpdate c t) s (fun u => (u.cl c).runAct = s.fb SLV_CTRL.RUN [c.val]
    ∧ (∀ x, x / 256 ≠ c.val → u.lane x = s.lane x)
    ∧ (∀ x, (s.lane x).st = .profile → u.lane x = s.lane x)
    ∧ (s.folded = true → u.lanes = s.lanes)
    ∧ (s.folded = false → s.flt.safe = false → ∀ x, x / 256 = c.val → isCuffE x = false → s.loopOn x = true → (s.lane x).st.runs = true →
        (s.lane x).isol = false → (s.lane x).spAdj = 0 → (s.lane x).clampHi = false → (s.lane x).clampLo = false →
        ((s.lane x).i.natAbs ≤ s.intLim x → (u.lane x).i = clampI (-(s.intLim x)) (s.intLim x) ((s.lane x).i
          + (if s.polOf x then 1 else -1) * asr ((s.gainOf x (s.lane x).e : Int) * (s.lane x).e * (s.div : Int)) 12))
        ∧ (s.intLim x < (s.lane x).i.natAbs → (u.lane x).i = (if 0 < (s.lane x).i then s.intLim x else -(s.intLim x))
            ∧ (u.lane x).sticky = (s.lane x).sticky ||| stk (if 0 < (s.lane x).i then 0 else 1))
        ∧ (u.lane x).drv = s.sp x (s.lane x).cmd + asr (u.lane x).i 8 ∧ (u.lane x).st = (s.lane x).st))

/-- With RUN 1, outside P3 and P4, at a learning tick, when the frames counted with RUN 1 reach a multiple of 2^LTICK other than
0: a lane of another cluster, one that is not LOCKED, does not learn or is isolated, one whose slot in force the host wrote at
the same time (R81; log entry 215), and every lane in the safe state keeps its state and its set-points. In every other
switching lane of the cluster (but a probe lane whose calibration run was reverted: log entry 234) the tick moves a, the
largest part of the integrator >> (8 + LFRAC) that keeps the set-point in force within LEARN_LIM of its reference, read at the
tick (log entry 220), from the integrator (256 a) to that set-point, and sets LRN_LIM where a is not all of it; its other set-
point stays. (What becomes of a set-point that leaves 16 bits is log entry 16.) With RUN 0, in P3 and P4, and between ticks
nothing changes but the time. (R79, R80, R81, R396, R398.) -/
def Obligations.LearningTick : Prop := ∀ (s : State) (c : Fin 144) (t : Nat),
  (s.fb SLV_CTRL.RUN [c.val] = true → s.folded = false → 0 < (s.cl c).tick → (s.cl c).tick % 2 ^ clampN 10 20 (s.f SLV_LEARN.LTICK [c.val]) = 0 →
    Runs (.learningTick c t) s fun u =>
      (∀ x, (x / 256 ≠ c.val ∨ (s.lane x).st ≠ .locked ∨ s.learnEn x = false ∨ (s.lane x).isol = true ∨ s.flt.safe = true
            ∨ (s.lane x).spAt = some ((s.lane x).cmd, (s.passTo t).clr.now)) →
          u.lane x = s.lane x ∧ ∀ k, u.sp x k = s.sp x k)
      ∧ (∀ x, x / 256 = c.val → isCuffE x = false → (s.lane x).st = .locked → s.learnEn x = true → (s.lane x).isol = false →
          s.flt.safe = false → (s.lane x).spAt ≠ some ((s.lane x).cmd, (s.passTo t).clr.now) →
          s.cal.back.contains x = false → ∀ a, a = foldPart (s.sp x (s.lane x).cmd) (s.spRef x (s.lane x).cmd) (s.f SLV_LIM.LEARN_LIM [c.val])
            (asr (s.lane x).i (8 + s.f SLV_LEARN.LFRAC [c.val])) →
          u.lane x = { s.lane x with i := (s.lane x).i - a * 256, sticky :=
            (if a = asr (s.lane x).i (8 + s.f SLV_LEARN.LFRAC [c.val]) then (s.lane x).sticky else (s.lane x).sticky ||| stk 5) }
          ∧ ((s.spRef x (s.lane x).cmd).natAbs + s.f SLV_LIM.LEARN_LIM [c.val] ≤ 32767 →
              u.sp x (s.lane x).cmd = s.sp x (s.lane x).cmd + a)
          ∧ u.sp x (!(s.lane x).cmd) = s.sp x (!(s.lane x).cmd)))
  ∧ ((s.fb SLV_CTRL.RUN [c.val] = false ∨ s.folded = true ∨ (s.cl c).tick = 0 ∨ (s.cl c).tick % 2 ^ clampN 10 20 (s.f SLV_LEARN.LTICK [c.val]) ≠ 0) →
    Runs (.learningTick c t) s fun u => changesOnly [.clr] s u)

/-! ### Conversion, references, accumulators and drive -/

/-- Outside P3 and P4 a conversion frame puts one new conversion in front of the last ones of both taps of every lane of the
cluster, keeps 16, and forms the power word of tap 0 from them unless VANA is selected (log entry 177); no lane of another
cluster and no other cluster changes, and the learning time counts while RUN is 1. In P3 and P4 it makes no conversion. (Taps
that the command does not list: log entry 10; masked channels: log entry 178; constants: log entry 9.) (R101, R104, R105,
R103, R110.) -/
def Obligations.ConversionFrame : Prop := ∀ (s : State) (c : Fin 144) (t : Nat) (smp : List TapSample),
  (s.folded = false → Runs (.conversionFrame c t smp) s fun u =>
    (∀ x, x / 256 = c.val →
      (u.lane x).tap0.convs = (s.convert c (x % 256 * 2) (s.rangeOf c (s.lane x).tap0.hi) smp :: (s.lane x).tap0.convs).take 16
      ∧ (u.lane x).tap1.convs = (s.convert c (x % 256 * 2 + 1) (s.rangeOf c (s.lane x).tap1.hi) smp :: (s.lane x).tap1.convs).take 16
      ∧ (u.lane x).tap0.word = (if s.refSel c (x % 256 * 2 / 64) = 2 then (s.lane x).tap0.word
          else powerWord (((u.lane x).tap0.convs.map Conv.hiCodes).foldl (· + ·) 0)))
    ∧ (∀ x, x / 256 ≠ c.val → u.lane x = s.lane x) ∧ (∀ d, d ≠ c.val → u.cl d = s.cl d)
    ∧ (u.cl c).tick = (if s.fb SLV_CTRL.RUN [c.val] then (s.cl c).tick + 1 else (s.cl c).tick))
  ∧ (s.folded = true → Runs (.conversionFrame c t smp) s fun u => changesOnly [.clr] s u)

/-- At an exchange an ingress Cuff cluster with RUN_ACT 1 in P0 to P2 sends the long average of tap 0 of each of its lanes, one
with RUN_ACT 0 does not change, and no switching lane changes. When the words of an ingress cluster are stale, every running
egress Cuff lane with a path that uses them goes to HOLD with reason 3, and no lane but an egress Cuff lane changes. (R94,
R95, R97.) -/
def Obligations.CuffExchange : Prop := ∀ (s : State) (c : Fin 144) (t : Nat), c.val ∈ [136, 137, 140, 141] →
  Runs (.cuffExchange t) s (fun u =>
    ((s.cl c).runAct = true → s.folded = false → (u.cl c).exFresh = true ∧ ∀ x, x / 256 = c.val → (u.lane x).sent = (s.lane x).tap0.avg)
    ∧ ((s.cl c).runAct = false → u.cl c = s.cl c ∧ ∀ x, x / 256 = c.val → u.lane x = s.lane x)
    ∧ (∀ x, isCuffE x = false → u.lane x = s.lane x))
  ∧ Runs (.exchangeStale c t) s (fun u => (u.cl c).exFresh = false
    ∧ (∀ x, isEgressE x = false → u.lane x = s.lane x)
    ∧ (∀ x, x < 36864 → isEgressE x = true → ingressCl (planeE x) (s.lane x).src = c.val → (s.lane x).valid = true →
        (s.lane x).st.runs = true → (u.lane x).st = .hold ∧ (u.lane x).why = 3))

/-- When READY and outside a reset, a write of CNV_REF selects for each ADC the reference of its field, or the present one for 3,
and a changed one settles anew and puts the running lanes of its ADC into HOLD (calibration) with their drive held (but that
of a probe lane whose calibration run was reverted: log entry 234). At the end of the settle time in the window the reference
counts as settled, out of it REF_BAD is set; a settled one that leaves the window is no longer settled, sets REF_BAD and holds
the running lanes of its ADC. Lanes of other ADCs do not change. (R93, R107, R108, R109, R464.) -/
def Obligations.References : Prop := ∀ (s : State) (c : Fin 144) (a : Fin 8) (v : Word), (s.cl c).adc.length = 8 →
  (s.isOpen = true → Runs (.refSelectWrite c v) s fun u =>
    u.refSel c a = (if fget (2 * a.val) 2 v = 3 then s.refSel c a else fget (2 * a.val) 2 v)
    ∧ ((u.cl c).adc.getD a ⟨false, false⟩ = if u.refSel c a = s.refSel c a then (s.cl c).adc.getD a ⟨false, false⟩ else ⟨false, true⟩)
    ∧ (∀ x, x / 256 ≠ c.val → u.lane x = s.lane x)
    ∧ (∀ x, x / 256 = c.val → x % 256 / 32 = a.val →
        (u.refSel c a = s.refSel c a → u.lane x = s.lane x)
        ∧ (u.refSel c a ≠ s.refSel c a → (s.lane x).st.runs = true → (u.lane x).st = .hold ∧ (u.lane x).why = 2
            ∧ (s.cal.back.contains x = false → (u.lane x).drv = (s.lane x).drv))))
  ∧ ((s.cl c).settled a = false → Runs (.refSettleExpiry c a true) s fun u => (u.cl c).settled a = true
      ∧ (∀ b, b ≠ a.val → (u.cl c).settled b = (s.cl c).settled b) ∧ changesOnly [.clusters] s u)
  ∧ ((s.cl c).settled a = false → ((s.cl c).adc.getD a ⟨false, false⟩).settling = true → Runs (.refSettleExpiry c a false) s fun u =>
      (u.cl c).settled a = false ∧ (u.f CNV_STATUS.REF_BAD [c.val]).testBit a.val = true ∧ changesOnly [.regs, .clusters] s u)
  ∧ ((s.cl c).settled a = true → Runs (.refOutOfWindow c a) s fun u => (u.cl c).settled a = false
      ∧ (u.f CNV_STATUS.REF_BAD [c.val]).testBit a.val = true
      ∧ (∀ x, (x / 256 ≠ c.val ∨ x % 256 / 32 ≠ a.val) → u.lane x = s.lane x)
      ∧ (∀ x, x / 256 = c.val → x % 256 / 32 = a.val → (s.lane x).st.runs = true → (u.lane x).st = .hold ∧ (u.lane x).why = 2
          ∧ (s.cal.back.contains x = false → (u.lane x).drv = (s.lane x).drv)))

/-- When READY and outside a reset: a write of ACC_EN = 1 enables the accumulators of the cluster, or makes the enable pending
while they stop, and K is stored clamped to 20; a write of 0 stops them or cancels a pending enable; at the end of a stop
nothing runs or is latched, the enable is the pending one, and no accumulator holds a value. An enabled host trigger starts a
scan, is latched while one runs or is about to, and is counted in ACC_OVR while one is latched (before a scan that is about to
start too: log entry 221); at the network time of a slot strobe that was taken it is the same trigger and has no further
effect (log entry 31). At a window end the SUM and COUNT of all 512 accumulators show, the engine stops running, a latched
trigger becomes the start of the next scan, and no lane and no other cluster changes. (R113, R114, R115, R111, R464.) -/
def Obligations.Accumulators : Prop :=
  (∀ (s : State) (c : Fin 144) (v : Word),
    (s.isOpen = true → Runs (.accEnable c v) s fun u => (u.cl c).eng = (if (s.cl c).eng.stopping then { (s.cl c).eng with enPend := true }
        else { (s.cl c).eng with en := true }) ∧ u.f ACC_CTRL.K [c.val] = min 20 (fget 0 5 v)
        ∧ (∀ d, d ≠ c.val → u.cl d = s.cl d) ∧ otherRegs [Reg.ACC_CTRL.at [c.val]] s u ∧ changesOnly [.regs, .clusters] s u)
    ∧ (s.isOpen = true → Runs (.accStop c v) s fun u => (u.cl c).eng = (if (s.cl c).eng.stopping then { (s.cl c).eng with enPend := false }
        else if (s.cl c).eng.en then { (s.cl c).eng with stopping := true } else (s.cl c).eng)
        ∧ otherRegs [Reg.ACC_CTRL.at [c.val]] s u ∧ changesOnly [.regs, .clusters] s u)
    ∧ ((s.cl c).eng.stopping = true → Runs (.accStopDone c) s fun u => (u.cl c).eng.stopping = false
        ∧ (u.cl c).eng.running = false ∧ (u.cl c).eng.latched = false ∧ (u.cl c).eng.en = (s.cl c).eng.enPend ∧ (u.cl c).accs = []
        ∧ (∀ d, d ≠ c.val → u.cl d = s.cl d) ∧ changesOnly [.clusters] s u))
  ∧ (∀ (s : State) (c : Fin 144) (t : Nat),
    (s.isOpen = true → (s.cl c).eng.en = true → (s.accSrc c).testBit 0 = true →
      ((s.cl c).eng.strobeAt ≠ some s.clr.now → ∀ g, g = { (s.cl c).eng with hostAt := some s.clr.now, strobeAt := none } →
        Runs (.accTrigger c) s fun u => u.cl c = { s.cl c with eng := if g.latched then g
            else if g.running || g.startP then { g with latched := true } else { g with startP := true } }
          ∧ u.reg .ACC_OVR [c.val] = (if g.latched then satInc (s.reg .ACC_OVR [c.val]) 1 else s.reg .ACC_OVR [c.val])
          ∧ (∀ d, d ≠ c.val → u.cl d = s.cl d) ∧ otherRegs [Reg.ACC_OVR.at [c.val]] s u ∧ changesOnly [.regs, .clusters] s u)
      ∧ ((s.cl c).eng.strobeAt = some s.clr.now → Runs (.accTrigger c) s fun u =>
          u.cl c = { s.cl c with eng := { (s.cl c).eng with hostAt := none, strobeAt := none } } ∧ changesOnly [.clusters] s u))
    ∧ ((s.cl c).eng.running = true → (s.cl c).eng.stopping = false → (s.cl c).eng.fi = 2 ^ (s.cl c).eng.k →
      Runs (.accWindowEnd c t) s fun u =>
        (∀ h, h < 512 → u.reg .ACC_SUM [c.val, h] = wd (sget (Acc.start false) (s.cl c).accs h).sum
          ∧ fget 0 16 (u.reg .ACC_CNT [c.val, h]) = (sget (Acc.start false) (s.cl c).accs h).cnt % 65536)
        ∧ (u.cl c).eng.running = false ∧ (u.cl c).eng.startP = (s.cl c).eng.latched ∧ (u.cl c).eng.latched = false
        ∧ (∀ d, d ≠ c.val → u.cl d = s.cl d) ∧ u.lanes = s.lanes))

/-- At a drive update no lane of another cluster changes; a lane of the cluster keeps loop state, integrator and drive, takes its
next value into the buffer and moves its tone on by its frequency; its output is 0 while the cluster is under the safe
command, the lane is isolated, OUT_EN is 0 or its domain is unpowered in P3 and P4, and otherwise it is the loaded value plus
the tone, clamped to the drive limits when these are in order. The strobes for set-point loads are used up, and no other
cluster changes. (R118, R121, R123, R124, R129, R131.) -/
def Obligations.DriveUpdate : Prop := ∀ (s : State) (c : Fin 144) (t : Nat),
  Runs (.driveUpdate c t) s fun u =>
    (∀ x, x / 256 ≠ c.val → u.lane x = s.lane x)
    ∧ (∀ x, x / 256 = c.val → (u.lane x).st = (s.lane x).st ∧ (u.lane x).i = (s.lane x).i ∧ (u.lane x).drv = (s.lane x).drv
      ∧ (u.lane x).buf = s.nextBuf x (s.lane x)
      ∧ (u.lane x).acc = ((s.lane x).acc + (s.toneFreq x * 16777216 + (s.lane x).rem) / 12000000) % 16777216
      ∧ (((s.cl c).safe = true ∨ (s.lane x).isol = true ∨ s.fb DRV_CTRL.OUT_EN [c.val] = false ∨ s.folded = true) →
          (u.lane x).out = 0)
      ∧ ((s.cl c).safe = false → (s.lane x).isol = false → s.fb DRV_CTRL.OUT_EN [c.val] = true → s.folded = false →
          (s.drvLims x).1 ≤ (s.drvLims x).2 →
          (u.lane x).out = clampI (s.drvLims x).1 (s.drvLims x).2 ((u.lane x).loaded + s.tone x (u.lane x))))
    ∧ (u.cl c).upd = ((s.cl c).upd + 1) % 12 ∧ (u.cl c).ldP = 0 ∧ (u.cl c).slotP = false ∧ (∀ d, d ≠ c.val → u.cl d = s.cl d)

/-- At a zero crossing the tone takes its wanted switch and amplitudes, a commanded inversion adds half a turn to the phase, loop
state and integrator stay, and no other lane changes. When READY and outside a reset (R464): LSG_LOAD gives a strobe to those
of groups 1 to 3 that are named and take the host's. DRV_LIM is stored when DRV_LO is not above DRV_HI; otherwise LIM_REJ is
set and nothing else changes. (R126, R127, R129, R131, R464.) -/
def Obligations.TonesAndLimits : Prop := ∀ (s : State) (e : Fin 36864) (c : Fin 144) (v : Word),
  ((s.lane e).zc = true → Runs (.toneZeroCrossing e) s fun u => (u.lane e).on = (s.lane e).toneWant e
      ∧ ((u.lane e).amp, (u.lane e).ash) = (s.lane e).ampWant e ∧ (u.lane e).invP = false
      ∧ (u.lane e).acc = (if (s.lane e).invP then ((s.lane e).acc + 0x800000) % 16777216 else (s.lane e).acc)
      ∧ (u.lane e).st = (s.lane e).st ∧ (u.lane e).i = (s.lane e).i ∧ otherLanes e s u)
  ∧ (s.isOpen = true → Runs (.lsgHostLoad c v) s fun u => (∀ g, 1 ≤ g → g ≤ 3 →
        (u.cl c).ldP.testBit g = ((s.cl c).ldP.testBit g || (bit g v && s.lsgTakes c g true)))
      ∧ (∀ d, d ≠ c.val → u.cl d = s.cl d) ∧ changesOnly [.clusters] s u)
  ∧ (s.isOpen = true → spCode (256 * c.val) (fget 0 16 v) ≤ spCode (256 * c.val) (fget 16 16 v) → Runs (.drvLimWrite c v) s fun u =>
      u.reg .DRV_LIM [c.val] = v ∧ otherRegs [Reg.DRV_LIM.at [c.val]] s u ∧ changesOnly [.regs] s u)
  ∧ (s.isOpen = true → spCode (256 * c.val) (fget 16 16 v) < spCode (256 * c.val) (fget 0 16 v) → Runs (.drvLimWrite c v) s fun u =>
      u.f DRV_STATUS.LIM_REJ [c.val] = 1 ∧ otherRegs [Reg.DRV_STATUS.at [c.val]] s u ∧ changesOnly [.regs] s u)

/-! ### Transitions -/

/-- At the hand-over of a lane whose profile has run its length the profile ends, the demodulator restarts and the leak check is
idle for 16 microseconds; OFF stays OFF; a lane whose loop is off goes to OFF with its integrator 0; a lane with its loop on
starts its integrator with what a set-point write left between the profile's target and the set-point (0 without one), and its
drive by it; a switching lane goes to ACQUIRE when lit and HOLD when dark; a Cuff lane goes to BLOCK, ACQUIRE (egress, its
long average reset to the power word) or ATTEN (ingress) by its commanded slot; no other lane changes. A cluster with no lane
undecided, or with a superseded one, writes its result, its counts and its latest settle time to TRN_RESULT, TRN_TIME and its
collector slot, and the collector merges them into the entry of the pattern. From T + 17 microseconds the record of a lane is
written to its profile table, and nothing of the lane changes but its transition, which is marked as recorded while it is in
progress or its profile runs, and else ends. (The integrator in OFF: log entry 24; the FRAME of a late decision: 222; FINAL of
a record closed early: 223; both long averages: 198.) (R83, R97, R139, R145, R146, R147, R148, R151, R152.) -/
def Obligations.HandOverAndReports : Prop :=
  (∀ (s : State) (e : Fin 36864) (t : Nat), (s.lane e).prof.on = true →
    (s.lane e).prof.len ≤ (s.lane e).prof.n → Runs (.handOver e t) s fun u =>
      (u.lane e).prof.on = false ∧ (u.lane e).leakIdle = 16 ∧ (isCuffE e = false → (u.lane e).fill = 0) ∧ otherLanes e s u
      ∧ ((s.lane e).st = .off → (u.lane e).st = .off)
      ∧ ((s.lane e).st ≠ .off → s.loopOn e = false → (u.lane e).st = .off ∧ (u.lane e).i = 0)
      ∧ ((s.lane e).st ≠ .off → s.loopOn e = true →
          (u.lane e).i = clampI (-(s.intLim e)) (s.intLim e) (((s.lane e).prof.tgt - s.slotDrive e (s.lane e).cmd) * 256)
          ∧ (u.lane e).drv = s.slotDrive e (s.lane e).cmd + asr (u.lane e).i 8
          ∧ (isCuffE e = false → (u.lane e).st = (if (s.lane e).lit then .acquire else .hold))
          ∧ (isCuffE e = true → (u.lane e).st = (if (s.lane e).cmd then .block else if isEgressE e then .acquire else .atten)
            ∧ (u.lane e).tap0.avg = (if isEgressE e && !(s.lane e).cmd then (s.lane e).tap0.word else (s.lane e).tap0.avg)))
      ∧ otherRegs (noteRegs e) s u ∧ changesOnly [.regs, .lanes, .clr, .cap] s u)
  ∧ (∀ (s : State) (c : Fin 144) (pat : Fin 1024) (k : ClTrans) (e : Fin 36864) (tr : Trans) (t : Nat),
    ((s.cl c).tr.find? (fun x => x.pat == pat.val) = some k → (k.open_ = 0 ∨ 0 < k.nSup) → Runs (.clusterReport c pat) s fun u =>
      u.reg .TRN_RESULT [c.val] = wd (k.result.code * 2 ^ 30 + k.nFail * 2 ^ 18 + k.nUnobs * 2 ^ 9 + k.nSet)
      ∧ u.reg .COL_SLOT_A [c.val] = wd (pat.val * 2 ^ 22 + k.result.code * 2 ^ 20 + k.nUnobs * 2 ^ 9 + k.nFail)
      ∧ u.reg .COL_SLOT_B [c.val] = (if k.has then wd (k.t0 + k.tl) else 0)
      ∧ u.reg .TRN_TIME [c.val] = u.reg .COL_SLOT_B [c.val]
      ∧ u.col = s.col.map (fun x : ColEnt => if x.pat = pat.val then { x with
          wait := x.wait.filter (· ≠ c.val), res := if x.res.code < k.result.code then k.result else x.res,
          nUnobs := x.nUnobs + k.nUnobs, nFail := x.nFail + k.nFail, tl := max x.tl k.tl, has := x.has || k.has } else x)
      ∧ (u.cl c).tr = (s.cl c).tr.filter (fun x => x.pat ≠ pat.val)
      ∧ ((∀ a ∈ s.cal.again, a / 8 ≠ c.val) → changesOnly [.regs, .clusters, .col, .prl] s u))
    ∧ ((s.lane e).tr = some tr → 17 ≤ tr.f → tr.recd = false → Runs (.measRecord e t) s fun u =>
      u.reg .PRF_LAST [e.val / 256, e.val % 256] =
        wd (tr.res.code * 2 ^ 28 + tr.df % 16 * 2 ^ 24 + (s.lane e).prof.len * 2 ^ 16 + min 65535 tr.tset)
      ∧ (isCuffE e = true → u.reg .PRF_PWR [e.val / 256, e.val % 256] = 0 ∧ u.reg .PRF_MOVE [e.val / 256, e.val % 256] = wd tr.dist)
      ∧ (isCuffE e = false → ∀ w, w = (if darkIs0 e (s.lane e).cmd then (s.lane e).tap1.word else (s.lane e).tap0.word) →
          u.reg .PRF_PWR [e.val / 256, e.val % 256] = wd (low 16 w * 2 ^ 16 + low 16 tr.peakLeak)
          ∧ u.reg .PRF_MOVE [e.val / 256, e.val % 256] = wd (min 65535 (max 0 (tr.maxLit - w)).toNat * 2 ^ 16 + tr.dist))
      ∧ u.lane e = { s.lane e with tr := if tr.res = .progress ∨ (s.lane e).prof.on = true then some { tr with recd := true } else none } ∧ otherLanes e s u
      ∧ changesOnly [.regs, .lanes, .clr, .cap] s u))

/-- Outside CALENDAR and CAL_STOPPING, at a slot boundary in P0, outside the safe state, with one armed pattern in the store that
is due, not held back, with nothing in flight and no calibration at work: its firing gives every lane it names the slot it
names for that lane, changes no other lane, shows its number as the last pattern, and puts it in flight in store and
collector. (R132, R133, R205, R209.) -/
def Obligations.PatternFire : Prop := ∀ (s : State) (t : Nat) (p : PatEnt), s.yk.mode < 2 → t % s.slotNs = 0 → s.flt.safe = false →
  s.pwr.st = 0 → s.col = [] → s.yk.store = [p] → s.cal.routes = [] → s.cal.next = [] → s.cal.busyAdc = [] → p.st = .armed →
  p.kind = .request → p.layer = 0 → p.due ≤ t → p.heldP = false →
  Runs (.patternFire t) s fun u => (∀ l ∈ p.lanes, ∃ m ∈ p.lanes, m.e = l.e ∧ (u.lane l.e).cmd = m.slot)
    ∧ (∀ x, (∀ l ∈ p.lanes, l.e ≠ x) → u.lane x = s.lane x) ∧ u.yk.lastPat = p.num ∧ u.col.map ColEnt.pat = [p.num]
    ∧ (∀ q ∈ u.yk.store, q.st = .inFlight)

/-! ### Network time -/

/-- After the reference has locked in the boot and with PPS_EN, an edge within PPS_WIN, or any edge while time is UNSET, sets
PPS_OK and ends the count of missed ones; in ACQUIRE with no setting due and no step allowed it takes the phase, moves the
integral by phase/16 and the adjustment to integral minus phase/2 within 5,000 ppb, and goes to LOCKED at the LOCK_N-th phase
in a row within LOCK_THR. In LOCKED an edge outside PPS_WIN sets PPS_BAD and leaves state, PPS_OK and adjustment. A window
with an edge ends the count of missed seconds; the PPS_LOSS_N-th window without one clears PPS_OK and TOD_OK, sets PPS_LOST,
and takes LOCKED to HOLDOVER and ACQUIRE to FREERUN. While time is UNSET, PPS_LOSS_N seconds after the last edge clear PPS_OK
and set PPS_LOST. (R194, R198, R199.) -/
def Obligations.PulsePerSecond : Prop :=
  (∀ (s : State) (t : Nat), 7 < s.sys.stage → s.fb CLR_CTRL.PPS_EN [] = true →
    ((s.clr.st = .unset ∨ (phiOf (max s.clr.now t)).natAbs ≤ s.f CLR_DISC.PPS_WIN []) → Runs (.ppsEdge t) s fun u =>
      u.clr.ppsOk = true ∧ u.clr.edgeIn = true ∧ u.clr.missed = 0 ∧ u.clr.badRun = 0
      ∧ (s.clr.st = .acquire → s.settingDue = false → s.fb CLR_CTRL.STEP_EN [] = false →
          u.clr.now = max s.clr.now t ∧ u.clr.phi = phiOf (max s.clr.now t)
          ∧ u.clr.fint = s.clr.fint - asr (phiOf (max s.clr.now t)) 4
          ∧ u.clr.adj = clampI (-5000) 5000 (u.clr.fint - asr (phiOf (max s.clr.now t)) 1)
          ∧ u.clr.st = (if (phiOf (max s.clr.now t)).natAbs ≤ s.f CLR_DISC.LOCK_THR [] ∧ s.f CLR_DISC.LOCK_N [] ≤ s.clr.lockRun + 1
              ∨ s.f CLR_DISC.LOCK_N [] = 0 then .locked else .acquire)))
    ∧ (s.clr.st = .locked → s.f CLR_DISC.PPS_WIN [] < (phiOf (max s.clr.now t)).natAbs → Runs (.ppsEdge t) s fun u =>
      u.clr.st = .locked ∧ u.clr.ppsOk = s.clr.ppsOk ∧ u.clr.adj = s.clr.adj ∧ u.f CLR_EVT.PPS_BAD [] = 1))
  ∧ (∀ (s : State) (t e : Nat),
    (s.clr.st ≠ .unset → s.clr.edgeIn = true → Runs (.ppsWindowClose t) s fun u =>
        u.clr.edgeIn = false ∧ u.clr.missed = 0 ∧ u.clr.ppsOk = s.clr.ppsOk ∧ changesOnly [.clr] s u)
    ∧ (s.clr.st ≠ .unset → s.clr.edgeIn = false → s.clr.ppsOk = true → s.f CLR_HOLD.PPS_LOSS_N [] ≤ s.clr.missed + 1 →
      Runs (.ppsWindowClose t) s fun u => u.clr.ppsOk = false ∧ u.clr.todOk = false ∧ u.f CLR_EVT.PPS_LOST [] = 1
        ∧ u.clr.st = (match s.clr.st with | .locked => .holdover | .acquire => .freerun | x => x))
    ∧ (s.clr.st = .unset → s.clr.ppsOk = true → s.clr.lastEdge = some e →
      e + s.f CLR_HOLD.PPS_LOSS_N [] * secNs ≤ (s.passTo t).clr.now → Runs (.ppsLossBeforeSet t) s fun u =>
        u.clr.ppsOk = false ∧ u.clr.st = .unset ∧ u.f CLR_EVT.PPS_LOST [] = 1))

/-- A good 10 ms window counts towards REF_OK, which 100 in a row set; a bad one and a silence clear it with REF_LOST. A valid TOD
message in its window that agrees with network time sets TOD_OK; an invalid one counts in CLR_TOD_ERR with TOD_BAD; a window
without one clears TOD_OK. HOLD_LIMIT is set after that long in HOLDOVER. When READY and outside a reset (R464): a write of
CLR_CTRL with PPS_EN or DISC_EN 0 forces FREERUN once time is set; while time is UNSET a write of CLR_CTRL changes of the
clock only a time message taken and a setting or step that waits, and with STEP_EN 0 and no setting due no step waits after
it; CLR_SET_SECH stores the seconds and takes ARM while TOD_EN is 0; a read of CLR_SNAP_SECL latches seconds, nanoseconds and
tag. At a whole second the accepted slot length takes effect, and an armed host setting without PPS_EN is applied when the
Yoke is quiet. (That a setting keeps the nanoseconds below a microsecond is log entry 35.) (R195, R196, R197, R198, R202,
R205, R223, R464.) -/
def Obligations.ReferenceAndTime : Prop :=
  (∀ (s : State) (t : Nat) (msg : List Byte) (gap : Bool),
    Runs (.ref10mWindow true) s (fun u => u.clr.refRun = s.clr.refRun + 1
      ∧ u.clr.refOk = (s.clr.refOk || decide (100 ≤ s.clr.refRun + 1)) ∧ u.clr.now = s.clr.now ∧ u.clr.st = s.clr.st
      ∧ changesOnly [.clr] s u)
    ∧ (s.clr.refOk = true → Runs (.ref10mWindow false) s (fun u => u.clr.refOk = false ∧ u.clr.refRun = 0 ∧ u.f CLR_EVT.REF_LOST [] = 1)
        ∧ Runs .ref10mLoss s (fun u => u.clr.refOk = false ∧ u.clr.refRun = 0 ∧ u.f CLR_EVT.REF_LOST [] = 1))
    ∧ (todValid msg gap = true → (s.passTo t).todInWindow = true → s.fb CLR_CTRL.TOD_EN [] = true → s.clr.st ≠ .unset →
        leValue ((msg.drop 2).take 6) = (s.passTo t).clr.now / secNs + 1 → Runs (.todMessage t msg gap) s fun u =>
        u.clr.todOk = true ∧ u.clr.todSeen = true ∧ u.clr.st = s.clr.st ∧ u.reg .CLR_TOD_ERR [] = s.reg .CLR_TOD_ERR [])
    ∧ (todValid msg gap = false → Runs (.todMessage t msg gap) s fun u =>
        u.reg .CLR_TOD_ERR [] = satInc (s.reg .CLR_TOD_ERR []) 1 ∧ u.f CLR_EVT.TOD_BAD [] = 1 ∧ u.clr.todOk = s.clr.todOk)
    ∧ (s.clr.todSeen = false → Runs (.todWindowClose t) s fun u => u.clr.todOk = false ∧ changesOnly [.clr] s u)
    ∧ (s.clr.st = .holdover → s.f CLR_HOLD.HOLD_LIMIT [] ≠ 0 → s.clr.holdAt + s.f CLR_HOLD.HOLD_LIMIT [] * secNs ≤ (s.passTo t).clr.now →
        Runs (.holdoverLimit t) s fun u => u.f CLR_EVT.HOLD_LIMIT [] = 1 ∧ u.clr.st = .holdover))
  ∧ (∀ (s : State) (v : Word) (t sec : Nat),
    (s.isOpen = true → s.clr.st ≠ .unset → (bit CLR_CTRL.PPS_EN.lo v = false ∨ bit CLR_CTRL.DISC_EN.lo v = false) → Runs (.clrCtrlWrite v) s fun u =>
        u.clr.st = .freerun ∧ (s.clr.st ≠ .freerun → u.clr.adj = s.clr.fint) ∧ u.clr.now = s.clr.now)
    ∧ (s.isOpen = true → s.clr.st = .unset → Runs (.clrCtrlWrite v) s fun u =>
        u.clr = { s.clr with todSet := u.clr.todSet, todLast := u.clr.todLast, setAt := u.clr.setAt, stepP := u.clr.stepP }
        ∧ (s.clr.setAt = none → bit CLR_CTRL.STEP_EN.lo v = false → u.clr.stepP = false) ∧ u.fb CLR_CTRL.PPS_EN [] = bit CLR_CTRL.PPS_EN.lo v)
    ∧ (s.isOpen = true → Runs (.timeSetArm v) s fun u => u.f CLR_SET_SECH.SEC_HI [] = fget 0 16 v
        ∧ u.fb CLR_SET_SECH.ARM [] = (s.fb CLR_SET_SECH.ARM [] || (bit 31 v && !s.fb CLR_CTRL.TOD_EN []))
        ∧ otherRegs [Reg.CLR_SET_SECH.at []] s u ∧ changesOnly [.regs, .clr] s u)
    ∧ (s.isOpen = true → Runs (.clockSnapshot t) s fun u => u.rdata = wd (u.clr.now / secNs) ∧ u.reg .CLR_SNAP_NS [] = wd (u.clr.now % secNs)
        ∧ u.reg .CLR_SNAP_TAG [] = wd u.clr.now ∧ u.clr.now = (s.passTo t).clr.now ∧ changesOnly [.regs, .clr, .rdata] s u)
    ∧ (7 < s.sys.stage → Runs (.networkSecond sec) s fun u => u.yk = { s.yk with slot := s.f YK_GRID.SLOT_US [] }
        ∧ (s.fb CLR_SET_SECH.ARM [] = false ∨ s.fb CLR_CTRL.TOD_EN [] = true ∨ s.fb CLR_CTRL.PPS_EN [] = true →
            u.clr.now = max s.clr.now (sec * secNs))
        ∧ (s.fb CLR_SET_SECH.ARM [] = true → s.fb CLR_CTRL.TOD_EN [] = false → s.fb CLR_CTRL.PPS_EN [] = false → s.ykQuiet = true →
            s.clr.setAt = none → u.clr.now = ((s.reg .CLR_SET_SECL []).toNat + s.f CLR_SET_SECH.SEC_HI [] * 2 ^ 32) * secNs
                + max s.clr.now (sec * secNs) % 1000 ∧ u.clr.st ≠ .unset ∧ u.f CLR_SET_SECH.ARM [] = 0)))

/-! ### The Yoke -/

/-- When READY and outside a reset (R464), a write of YK_GRID stores LEAD_US clamped to 5 to 1,000, and SLOT_US when it is 20 to
1,000,000, divides the second, and no pattern is armed or staged with a time, else GRID_REJ is set; the slot length in force
stays. At a commit point outside the safe state every staged pattern that is due, not held and no repair is armed, and no
other entry changes. When READY and outside a reset, on the module that owns the calendar: CAL_RUN = 1 in STATIC sets
CAL_PENDING with a start at or after the lead, in CAL_STOPPING makes a restart pending, and does nothing in the safe state;
CAL_RUN = 0 ends CAL_PENDING, takes CALENDAR to CAL_STOPPING and cancels a pending restart; SWITCH in CALENDAR sets SW_PEND.
None of them changes the path service or the bank. (R205, R206, R208, R217, R218, R219, R464.) -/
def Obligations.CalendarSetUp : Prop :=
  (∀ (s : State) (v : Word) (t : Nat),
    (s.isOpen = true → Runs (.ykGridWrite v) s fun u => u.yk = s.yk ∧ u.f YK_GRID.LEAD_US [] = clampN 5 1000 (fget 20 10 v)
      ∧ u.f YK_GRID.SLOT_US [] = (if 20 ≤ fget 0 20 v ∧ fget 0 20 v ≤ 1000000 ∧ 1000000 % fget 0 20 v = 0
          ∧ s.yk.store.all (fun p => !(p.st == .armed) && !(p.st == .staged && p.timed)) = true
          then fget 0 20 v else s.f YK_GRID.SLOT_US [])
      ∧ (u.f YK_GRID.SLOT_US [] ≠ fget 0 20 v → u.f YK_EVT.GRID_REJ [] = 1))
    ∧ (s.flt.safe = false → Runs (.commitPoint t) s fun u => u.yk = { s.yk with store := s.yk.store.map fun p =>
        (if p.st = .staged ∧ p.kind ≠ .repair ∧ p.heldP = false ∧ s.patDue p ≤ (s.passTo t).clr.now + p.lead then { p with st := .armed } else p) }
        ∧ changesOnly [.clr, .yk] s u))
  ∧ (∀ (s : State) (v : Word) (t : Nat), s.isOpen = true → s.calOwner = true →
    (s.flt.safe = false → s.yk.mode = 0 → Runs (.calendarStartRequest v t) s fun u => u.yk.mode = 1 ∧ u.fb YK_CTRL.CAL_RUN [] = true
        ∧ (s.passTo t).clr.now + s.leadNs ≤ u.yk.calAt ∧ u.yk.store = s.yk.store ∧ u.pth = s.pth)
    ∧ (s.flt.safe = false → s.yk.mode = 3 → Runs (.calendarStartRequest v t) s fun u => u.yk = { s.yk with calPend := true })
    ∧ (s.flt.safe = true → Runs (.calendarStartRequest v t) s fun u => u.yk = s.yk ∧ u.fb YK_CTRL.CAL_RUN [] = s.fb YK_CTRL.CAL_RUN [])
    ∧ (s.yk.mode = 1 → Runs (.calendarStopRequest v t) s fun u => u.yk = { s.yk with mode := 0 } ∧ u.pth = s.pth)
    ∧ (s.yk.mode = 2 → Runs (.calendarStopRequest v t) s fun u => u.yk = { s.yk with mode := 3, stopAt := 0 } ∧ u.pth = s.pth)
    ∧ (s.yk.mode = 3 → Runs (.calendarStopRequest v t) s fun u => u.yk = { s.yk with calPend := false } ∧ u.pth = s.pth)
    ∧ (s.yk.mode = 2 → bit 0 v = true → 0 < s.entOfs s.yk.bank (s.bankN s.yk.bank) → Runs (.calSwitchRequest v t) s fun u =>
        u.yk.swPend = true ∧ s.calTime ≤ u.yk.swAt ∧ s.yk.turnAt ≤ u.yk.swAt
        ∧ (∃ k, u.yk.swAt = s.yk.start + k * s.entOfs s.yk.bank (s.bankN s.yk.bank)) ∧ u.yk.mode = 2 ∧ u.yk.bank = s.yk.bank ∧ u.yk.store = s.yk.store ∧ u.pth = s.pth))

/-- At its time, outside the safe state, the calendar starts with entry 0 and CAL_STARTED, or moves its start to the next second
while a static pattern of layer 0 waits. At the time of the next turn: a turn of an entry other than 0 shows that entry and
keeps bank and cycle count; a turn of entry 0 with a switch that is due changes the bank with CAL_SWITCHED and counts a cycle;
one with a stop that is due and nothing placed returns to STATIC with CAL_STOPPED and releases the layers from 1 up. The
repeat of the announcements, outside PAIR, sends one frame and one for each entry of the bank and changes only their count and
queue and the clock. (R214, R217, R218, R219, R222.) -/
def Obligations.CalendarRuns : Prop := ∀ (s : State) (t : Nat),
  (s.yk.mode = 1 → s.yk.calAt = t → s.flt.safe = false →
    ((∀ p ∈ s.yk.store, ¬((p.st = .staged ∨ p.st = .armed) ∧ p.layer = 0 ∧ p.kind ≠ .repair)) → Runs (.calendarStart t) s fun u =>
        u.yk.mode = 2 ∧ u.yk.start = t ∧ u.yk.cycles = 1 ∧ u.yk.entry = 0 ∧ u.f YK_EVT.CAL_STARTED [] = 1)
    ∧ ((∃ p ∈ s.yk.store, (p.st = .staged ∨ p.st = .armed) ∧ p.layer = 0 ∧ p.kind ≠ .repair) → Runs (.calendarStart t) s fun u =>
        u.yk = { s.yk with calAt := secAfter (t + 1) } ∧ changesOnly [.clr, .yk, .pair] s u))
  ∧ (s.yk.turnAt = t → (s.yk.mode = 2 → s.yk.turnEnt ≠ 0 → Runs (.calendarTurn t) s fun u => u.yk.mode = 2
        ∧ u.yk.entry = s.yk.turnEnt ∧ u.yk.bank = s.yk.bank ∧ u.yk.cycles = s.yk.cycles)
      ∧ (s.yk.mode = 2 → s.yk.turnEnt = 0 → s.yk.swPend = true → s.yk.swAt ≤ t → Runs (.calendarTurn t) s fun u =>
        u.yk.bank = !s.yk.bank ∧ u.yk.start = t ∧ u.yk.swPend = false ∧ u.yk.entry = 0
          ∧ u.yk.cycles = (s.yk.cycles + 1) % 2 ^ 32 ∧ u.f YK_EVT.CAL_SWITCHED [] = 1)
      ∧ (s.yk.mode = 3 → s.yk.turnEnt = 0 → s.yk.stopAt ≤ t → s.yk.calPend = false → s.pth.placed = [] → Runs (.calendarTurn t) s fun u =>
        u.yk.mode = 0 ∧ u.yk.entry = 0 ∧ u.f YK_EVT.CAL_STOPPED [] = 1 ∧ ∀ k, 512 ≤ k → sget none u.pth.plan k = none))
  ∧ (s.annEn = true → s.f YK_ANN_B.ANN_REPEAT [] ≠ 0 → 2 ≤ s.yk.mode → s.inPair = false → Runs (.announceRepeat t) s fun u =>
      u.yk.annSeq = s.yk.annSeq + 1 + s.bankN s.yk.bank ∧ u.yk.annOut.length = s.yk.annOut.length + 1 + s.bankN s.yk.bank
        ∧ u.yk.store = s.yk.store ∧ changesOnly [.clr, .yk] s u)

/-! ### The path service -/

/-- Outside FABRIC, with nothing under check and no transaction between its placement and the end of its staging: a CONNECT,
RELEASE or MOVE at the head of the delivered transactions that passes its checks is held for placement; one that fails
completes with the status of the failed check, with TXN_END and no moved path, and its transaction leaves. No path, plan or
lane changes. A repeated identifier is refused first, with its own status; the safe state refuses every path request and
thermal throttle every one but RELEASE with REJECTED_STATE; an ASAP RELEASE of layer 0 of a port that has a path passes.
(R156, R161, R162, R158, R187.) -/
def Obligations.RequestChecks : Prop :=
  (∀ (s : State) (t op : Nat) (c : Instr) (x : Txn) (rest : List Txn) (r : Req),
    (op, c) ∈ [(1, Instr.connect t), (2, .release t), (3, .move t)] → s.inFabric = false → s.pth.cur = none → s.placeFree = true →
    s.pth.delivered = x :: rest → x.reqs = [r] → r.op = op →
    (s.checkReq x 0 r = none → Runs c s fun u => u.pth = { s.pth with delivered := rest, cur := some ⟨x, 1, none⟩ }
        ∧ changesOnly [.clr, .pth] s u)
    ∧ (∀ k st, s.checkReq x 0 r = some (k, st) → Runs c s fun u => u.pth = { s.pth with delivered := rest }
        ∧ (∀ q ∈ s.hif.compq, q.id = r.id → ∃ d, { q with comp := some d } ∈ u.hif.compq ∧ d.status = st ∧ d.txnEnd = true ∧ d.nMoved = 0)
        ∧ (∀ q ∈ s.hif.compq, q.id ≠ r.id → q ∈ u.hif.compq) ∧ changesOnly [.clr, .pth, .hif] s u))
  ∧ (∀ (s : State) (x : Txn) (i : Nat) (r : Req),
    (s.idTaken x r = true → s.checkReq x i r = some (1, stId))
    ∧ (s.idTaken x r = false → s.flt.safe = true → s.checkReq x i r = some (2, stState))
    ∧ (s.idTaken x r = false → s.thm.thr = true → r.op ≠ 2 → s.checkReq x i r = some (2, stState))
    ∧ (s.inFabric = false → s.idTaken x r = false → s.flt.safe = false → r.op = 2 → (s.inPair = true → s.pair.role = 1) → r.layer = 0 →
        x.layer = 0 → (s.outAfter x i r.a).isSome = true → x.asap = true → s.checkReq x i r = none))

/-- With nothing under check and no transaction between its placement and the end of its staging, a QUERY of layer 0 by in-port
completes with status 0 and with the state, tag status, out-port and valid time of the path record of the layer that
YK_VIEW.LAYER names, and a FENCE completes with status 0; neither changes a path. (Which layer a QUERY shows is log entry 58.)
A turn of intake of a ring whose run can be delivered appends one transaction with the opcodes of the run in order, opens one
completion slot and one reservation for each request, and moves CI past the run; a descriptor on its own that is well formed
does the same for itself. (R160, R239, R240, R241, R242, R249.) -/
def Obligations.QueriesAndIntake : Prop :=
  (∀ (s : State) (x : Txn) (rest : List Txn) (r : Req), s.pth.cur = none → s.placeFree = true →
    s.pth.delivered = x :: rest → x.reqs = [r] → s.idTaken x r = false →
    (r.op = 4 → r.layer = 0 → r.sel = false → Runs .query s fun u => u.pth = { s.pth with delivered := rest } ∧ changesOnly [.pth, .hif] s u
      ∧ ∀ p q, p = s.pathRec (512 * s.f YK_VIEW.LAYER [] + r.a) → q ∈ s.hif.compq → q.id = r.id →
          ∃ d, { q with comp := some d } ∈ u.hif.compq ∧ d.status = 0
          ∧ (p.st = .idle → d.r0 = wd r.a ∧ d.r1 = 0)
          ∧ (p.st ≠ .idle → d.r0 = wd (p.st.code * 2 ^ 29 + s.tagStatus r.a * 2 ^ 26 + b2n p.eqR * 2 ^ 25 + p.out * 2 ^ 16 + r.a)
              ∧ d.r1 = p.validT))
    ∧ (r.op = 0 → Runs .fence s fun u => u.pth = { s.pth with delivered := rest } ∧ changesOnly [.pth, .hif] s u
      ∧ ∀ q ∈ s.hif.compq, q.id = r.id → ∃ d, { q with comp := some d } ∈ u.hif.compq ∧ d.status = 0))
  ∧ (∀ (s m : State) (g : Nat), s.intakeOn = true → s.readAll = m → m.turnRing = some g →
    (m.deliverable g = 3 → (m.ring g).run ≠ [] → Runs .intakeTurn s fun u => ∃ x, u.pth = { s.pth with delivered := s.pth.delivered ++ [x] }
        ∧ x.ring = g ∧ x.reqs.map Req.op = (m.ring g).run.map (fun d => d.req.op)
        ∧ u.hif.compq.length = m.hif.compq.length + (m.ring g).run.length ∧ (u.ring g).ci = (m.ring g).ci ∧ (u.ring g).run = []
        ∧ (u.ring (s.compG g)).resv = (m.ring (s.compG g)).resv + (m.ring g).run.length)
    ∧ (m.deliverable g = 4 → (m.desc g (m.ring g).ci).badAlone = false →
        (isFw (m.desc g (m.ring g).ci).op = false ∨ m.fwRuns = false) → Runs .intakeTurn s fun u => ∃ x,
        u.pth = { s.pth with delivered := s.pth.delivered ++ [x] } ∧ x.ring = g ∧ x.reqs.map Req.op = [(m.desc g (m.ring g).ci).req.op]
        ∧ u.hif.compq.length = m.hif.compq.length + 1 ∧ (u.ring g).ci = idxInc (m.ring g).ci))

/-- In a module alone, with no transaction between an earlier placement and the end of its staging, with Prale's cores running and
the transaction in check complete: if the search places its new paths, the plan takes the changes, the routes in force stay,
and one placed transaction is added, not yet staged; if the search fails, nothing but the check's end changes in the path
service and each request (with distinct identifiers) completes with the status of the search. No lane changes in either case.
(R158, R161, R165, R166, R186.) -/
def Obligations.Placement : Prop := ∀ (s : State) (t : Nat) (c : Cur), s.prl.lsHalt = false → s.inFabric = false → s.inPair = false →
  s.pth.cur = some c → c.txn.reqs.length ≤ c.idx → s.placeFree = true →
  (∀ new moved loop, placeTxn s.exclNodes (s.keptRoutes c.txn) c.txn.named (s.newPaths c.txn) c.txn.policy c.txn.maxMoved
      = .ok new moved loop →
    Runs (.placement t) s fun u => u.pth.cur = none ∧ u.pth.live = s.pth.live
      ∧ u.pth.plan = planTake s.pth.plan (s.changes c.txn new moved)
      ∧ (∃ p, u.pth.placed = s.pth.placed ++ [p] ∧ p.txn = c.txn ∧ p.staged = false ∧ p.rearr = !moved.isEmpty ∧ p.moved = moved.map Rt.a)
      ∧ changesOnly [.clr, .pth] s u)
  ∧ (∀ st, placeTxn s.exclNodes (s.keptRoutes c.txn) c.txn.named (s.newPaths c.txn) c.txn.policy c.txn.maxMoved = .bad st →
    Runs (.placement t) s fun u => u.pth = { s.pth with cur := none } ∧ changesOnly [.clr, .pth, .hif] s u
      ∧ ∀ r ∈ c.txn.reqs, ∀ q ∈ s.hif.compq, q.id = r.id → (c.txn.reqs.map Req.id).Nodup →
          ∃ d, { q with comp := some d } ∈ u.hif.compq ∧ d.status = st)

/-- For the first transaction that waits for staging, not mirrored and in no fabric segment: with at least five free entries, and
a time that is not late or LATE_MODE 0, its pattern enters a free entry of the store, STAGED, for its due time and layer, and
no lane, plan or route in force changes. With fewer than five free entries STORE_FULL is set, the store stays, the transaction
leaves, and the plan is what it was before it. (Which free entry: log entry 12.) (R204, R206, R207, R211.) -/
def Obligations.StagingEnd : Prop := ∀ (s : State) (t : Nat) (p : Placed) (c : Chg),
  s.pth.placed.find? (fun p => !p.staged && !p.hold && !p.rb) = some p → p.mirDue = none → p.seg = none →
  (5 ≤ s.freeNums.length → (((s.passTo t).txnDue p.txn p.loop p.rearr (s.passTo t).clr.now).late = false ∨ s.fb YK_CTRL.LATE_MODE [] = false) →
    Runs (.stagingEnd t) s fun u => (∃ q, u.yk.store = s.yk.store ++ [q] ∧ q.st = .staged ∧ q.kind = .request ∧ q.num ∈ s.freeNums
        ∧ (s.isCal p.txn.layer = false → q.due = ((s.passTo t).txnDue p.txn p.loop p.rearr (s.passTo t).clr.now).due)
        ∧ (s.isCal p.txn.layer = true → q.due = ((s.passTo t).txnDue p.txn p.loop p.rearr (s.passTo t).clr.now).floor)
        ∧ q.layer = p.txn.layer)
      ∧ u.lanes = s.lanes ∧ u.pth.plan = s.pth.plan ∧ u.pth.live = s.pth.live)
  ∧ (s.freeNums.length < 5 → Runs (.stagingEnd t) s fun u => u.f YK_EVT.STORE_FULL [] = 1 ∧ u.yk.store = s.yk.store ∧ u.lanes = s.lanes
      ∧ u.pth.placed.map Placed.id = (s.pth.placed.map Placed.id).filter (· ≠ p.id)
      ∧ (s.pth.placed = [p] → p.chg = [c] → u.pth.plan = sset s.pth.plan c.key c.old))

/-- In STATIC mode, in a module alone, when the one pattern in flight has heard every cluster with the result complete, and its
transaction of one CONNECT-like change is not rolled back, repaired or waiting: the collector and the store entry are free,
the path is ACTIVE with its out-port, middle node and valid time, the transaction leaves, its completion has status 0, the
pattern number and the valid time, and no lane changes. (R146, R155, R186, R204, R248.) -/
def Obligations.PatternResolves : Prop := ∀ (s : State) (t : Nat) (pat : Fin 1024) (x : ColEnt) (p : Placed) (r : Req) (key : Nat)
    (old : Option Route) (rt : Route) (rcd : PathRec),
  s.inPair = false → s.inFabric = false → s.yk.mode < 2 → s.col = [x] → x.pat = pat.val → x.wait = [] → x.res = .complete →
  x.has = true → s.pth.placed = [p] → s.pth.reps = [] → s.pth.reports = [] → p.pat = pat.val → p.fired = true → p.rb = false →
  p.waits = none → p.rolled = false → p.waitRep = false → p.repaired = false → p.host = true → p.seg = none → p.ptn = none →
  p.txn.reqs = [r] → p.chg = [⟨key, old, some rt, rcd⟩] → old ≠ some rt → p.moved = [] → sget none s.pth.live key = some rt →
  (s.pathRec key).st = .pending →
  Runs (.collectorResolve pat t) s fun u => u.col = [] ∧ u.pth.placed = [] ∧ (∀ q ∈ u.yk.store, q.num ≠ pat.val)
    ∧ (u.pathRec key).st = .active ∧ (u.pathRec key).out = rt.out ∧ (u.pathRec key).mid = rt.mid
    ∧ (u.pathRec key).validT = wd (x.t0 + x.tl) ∧ u.lanes = s.lanes
    ∧ ∀ q ∈ s.hif.compq, q.id = r.id → ∃ d, { q with comp := some d } ∈ u.hif.compq ∧ d.status = 0 ∧ d.pattern = pat.val
        ∧ d.validT = wd (x.t0 + x.tl) ∧ d.txnEnd = true

/-- At a frame boundary in P0 outside the safe state, the one staged repair pattern that is due fires: it gives every lane it
names its slot, changes no other lane, and is in flight. A report of an element of stages 1 to 15 with no path in force or
placed excludes its node in PTH_EXCL and changes no lane. A due continuity condition on a path in force sets CONT_FAULT and
adds a report of kind continuity. A lane on gain bank 1 that locked returns to bank 0. (R133, R179, R180, R181, R182, R184,
R185.) -/
def Obligations.RepairsAndFaultReports : Prop :=
  (∀ (s : State) (t : Nat) (p : PatEnt), t % 1000 = 0 → s.flt.safe = false → s.pwr.st = 0 →
    s.col = [] → s.yk.store = [p] → s.cal.routes = [] → s.cal.next = [] → s.cal.busyAdc = [] → p.st = .staged → p.kind = .repair →
    p.layer = s.runLayer → p.due ≤ t →
    Runs (.repairPatternFire t) s fun u => (∀ l ∈ p.lanes, ∃ m ∈ p.lanes, m.e = l.e ∧ (u.lane l.e).cmd = m.slot)
      ∧ (∀ x, (∀ l ∈ p.lanes, l.e ≠ x) → u.lane x = s.lane x) ∧ u.yk.lastPat = p.num ∧ u.col.map ColEnt.pat = [p.num])
  ∧ (∀ (s : State) (t : Nat) (e : Fin 36864) (r : Report) (rest : List Report) (d : Nat × Nat)
      (dues : List (Nat × Nat)) (rt : Route),
    (s.fab.waitQ = [] → s.fab.late = [] → s.fab.missed = [] → s.fab.probes = [] → s.pth.reps = [] → s.pth.reports = r :: rest → s.held r = false → avoidable r.e = true → s.pth.live = [] → s.pth.placed = [] →
      Runs (.elementFaultReport t) s fun u => u.pth = { s.pth with reports := rest }
        ∧ (u.reg .PTH_EXCL [8 * (nodeE r.e).1 + (nodeE r.e).2 / 32]).toNat.testBit ((nodeE r.e).2 % 32) = true
        ∧ otherRegs [Reg.PTH_EXCL.at [8 * (nodeE r.e).1 + (nodeE r.e).2 / 32]] s u ∧ u.lanes = s.lanes)
    ∧ (s.pth.contDue = d :: dues → sget none s.pth.live (512 * s.runLayer + d.1) = some rt → Runs (.continuityFault t) s fun u =>
      u.f PTH_EVT.CONT_FAULT [] = 1 ∧ (∃ x, u.pth = { s.pth with contDue := dues, reports := s.pth.reports ++ [x] } ∧ x.kind = 2)
        ∧ u.lanes = s.lanes)
    ∧ (e.val ∈ s.pth.bank1 → (s.lane e).st = .locked → Runs (.bankRestore e) s fun u =>
      u.f LANE_CFG.BANK [e.val / 256, e.val % 256] = 0 ∧ u.pth = { s.pth with bank1 := s.pth.bank1.erase e }
        ∧ otherRegs [Reg.LANE_CFG.at [e.val / 256, e.val % 256]] s u ∧ changesOnly [.regs, .pth] s u))

/-- When READY and outside a reset: a write to PTH_EXCL clears the bits written with 1, a write to PTH_EXCL_SET sets them; no
other register and no other part of the state changes, so no path is moved. (R184.) -/
def Obligations.ExclusionWrites : Prop := ∀ (s : State) (w : Fin 136) (v : Word), s.isOpen = true →
  Runs (.pthExclWrite w v) s (fun u => u.reg .PTH_EXCL [w.val] = s.reg .PTH_EXCL [w.val] &&& ~~~ v
    ∧ otherRegs [Reg.PTH_EXCL.at [w.val]] s u ∧ changesOnly [.regs] s u)
  ∧ Runs (.pthExclSetWrite w v) s (fun u => u.reg .PTH_EXCL [w.val] = s.reg .PTH_EXCL [w.val] ||| v
    ∧ otherRegs [Reg.PTH_EXCL.at [w.val]] s u ∧ changesOnly [.regs] s u)

/-- The refresh of the target of an out-port with an ACTIVE path gives the new target to both egress Cuff elements when it differs
by more than EQ_DEADBAND and keeps the old one otherwise, and changes no other lane (the predicted losses in the target are
free values: log entry 15). At a bit boundary the ingress Cuffs of a port whose bit is 1 are commanded to invert when the Cuff
of either plane is in ATTEN: both planes together, also the one that is not in ATTEN itself, because R39 holds the tones of
one port at equal phase (R39, R174); nothing else of a lane's inversion changes. At an evaluation with VERIFY_EN, outside
FABRIC, the only path ACTIVE and in SEARCH for 9 ms goes to TONE_OK when the tone of its in-port is present in the bins that
the command carries (log entry 197) and to MISSING with TAG_FAULT when it is not; the connection table and the lanes stay.
When READY and outside a reset, a write of PTH_TAG_ID stores UNIT outside PAIR and FABRIC and keeps it in them, and stores
DEVID outside FABRIC. (R39, R127, R171, R173, R174, R175, R176, R189, R332, R374, R464.) -/
def Obligations.TagsAndTargets : Prop := ∀ (s : State) (t : Nat) (b : Fin 512) (a : Nat) (v : Word) (bins : List TagBin) (x : TagBin),
  (s.inOf s.runLayer b = some a → (s.pathRec (512 * s.runLayer + a)).st = .active →
    Runs (.eqRefresh b t) s fun u => u.freeN = s.freeN + 2 ∧ ∀ tg, tg = (s.lossTarget a b (Config.freeLoss s.freeN)
        (Config.freeLoss (s.freeN + 1)) (some (s.lane (cuffOf 0 1 b)).tgt)).1 →
      (∀ pl, pl < 2 → (u.lane (cuffOf pl 1 b)).tgt = if 64 * s.f PTH_EQ.EQ_DEADBAND [] < 5 * ((tg : Int) - (s.lane (cuffOf 0 1 b)).tgt).natAbs
        then tg else (s.lane (cuffOf pl 1 b)).tgt)
      ∧ ∀ e, e ≠ cuffOf 0 1 b → e ≠ cuffOf 1 1 b → u.lane e = s.lane e)
  ∧ (t % bitNs = 0 → (s.tagIdReg = s.pth.tagId ∨ t % frameNs / bitNs ≠ 0) → Runs (.tagBitPeriod t) s fun u => u.pth = s.pth
      ∧ (∀ p pl, p < 512 → pl < 2 → (u.lane (cuffOf pl 0 p)).invP = ((s.lane (cuffOf pl 0 p)).invP
        || (!s.toneless p && frameBit (s.ownWord p) (t % frameNs / bitNs) &&
          decide ((s.lane (cuffOf 0 0 p)).st = .atten ∨ (s.lane (cuffOf 1 0 p)).st = .atten))))
      ∧ changesOnly [.lanes, .clr] s u)
  ∧ (t % 1000000 = 0 → t % frameNs ≠ 1000000 → s.inFabric = false → s.fab.probes = [] → s.fab.missed = [] → s.yk.mode < 2 → (∀ p ∈ s.pth.placed, p.lost = false) → a < 512 →
    (∀ k, k < 512 → k ≠ a → (s.liveRec k).st = .idle) → (s.liveRec a).st = .active →
    s.fb PTH_CTRL.VERIFY_EN [] = true → s.tagHeld a (s.liveRec a).out false = false →
    s.tagStatus a = 1 → (sget TagV.off s.pth.tags a).since + 9000000 ≤ t →
    x.out.val = (s.liveRec a).out → bins.find? (fun y => y.out.val == x.out.val) = some x →
    Runs (.tagEvaluation t bins) s fun u => u.tagStatus a = (if s.tonePresent x then 2 else 5)
      ∧ (s.tonePresent x = false → u.f PTH_EVT.TAG_FAULT [] = 1) ∧ u.pth.conn = s.pth.conn ∧ u.lanes = s.lanes)
  ∧ (s.isOpen = true → Runs (.tagIdWrite v) s fun u => (s.inPair = false → s.inFabric = false → u.f PTH_TAG_ID.UNIT [] = fget 6 1 v)
      ∧ (s.inFabric = true → u.f PTH_TAG_ID.DEVID [] = s.f PTH_TAG_ID.DEVID [])
      ∧ (s.inPair = true ∨ s.inFabric = true → u.f PTH_TAG_ID.UNIT [] = s.f PTH_TAG_ID.UNIT [])
      ∧ (s.inFabric = false → u.f PTH_TAG_ID.DEVID [] = fget 0 6 v) ∧ otherRegs [Reg.PTH_TAG_ID.at []] s u ∧ changesOnly [.regs] s u)

/-! ### The host interface and the capture rings -/

/-- A doorbell makes the host's stores visible and moves PI of a ring that the host produces, or CI of a completion ring, to its
value when the ring is active and the value lies in range; otherwise no index moves and DB_ERR is set; a write to an offset of
BAR2 that is no doorbell, or of another size, changes no more than the stores before it. When READY and outside a reset
(R464): RING_CFG with EN starts a stopped ring with both indices 0 (the count of lost entries stays: log entry 62) and stores
SIZE clamped to 6 to 16, ASSOC, PRIO and VEC; with EN 0 a running command ring stops being active, busy until its stop is
done, drops the requests read and not delivered, and keeps SIZE; a completion ring that a command ring names cannot be stopped
(CFG_REJ). A stop that waits for nothing ends. No other ring changes. (R235, R236, R237, R238, R233, R231, R464.) -/
def Obligations.RingCommands : Prop := ∀ (s : State) (g : Fin 180) (v : Word) (stores : List HostStore) (ofs : Fin 1048576)
    (full : Bool),
  (bar2Ring ofs = some g.val → hostProduced g = true → (s.ring g).active = true → s.dbOk g v.toNat = true →
    Runs (.doorbell ⟨ofs, true⟩ v stores) s fun t =>
    t.ring g = { s.ring g with pi := v.toNat } ∧ (∀ h, h ≠ g.val → t.ring h = s.ring h)
      ∧ t.hostMem = stores.foldl (fun m x => Memory.putL m x.addr x.bytes) s.hostMem ∧ changesOnly [.regs, .hif, .prl, .hostMem] s t)
  ∧ (bar2Ring ofs = some g.val → 64 ≤ g.val → g.val < 128 → (s.ring g).active = true → s.dbOk g v.toNat = true →
    Runs (.doorbell ⟨ofs, true⟩ v stores) s fun t =>
    (t.ring g).ci = v.toNat ∧ (t.ring g).pi = (s.ring g).pi ∧ (t.ring g).active = true ∧ (∀ h, h ≠ g.val → t.ring h = s.ring h)
      ∧ t.hostMem = stores.foldl (fun m x => Memory.putL m x.addr x.bytes) s.hostMem ∧ changesOnly [.regs, .hif, .hostMem] s t)
  ∧ (bar2Ring ofs = some g.val → (g.val < 144 ∨ 148 ≤ g.val) → ((s.ring g).active = false ∨ s.dbOk g v.toNat = false) →
    Runs (.doorbell ⟨ofs, true⟩ v stores) s fun t =>
    (∀ h, t.ring h = s.ring h) ∧ t.f RING_STATUS.DB_ERR [g.val] = 1 ∧ t.f HIF_ERR.DB_ERR [] = 1
      ∧ changesOnly [.regs, .hif, .prl, .hostMem] s t)
  ∧ (bar2Ring ofs = none ∨ full = false → Runs (.doorbell ⟨ofs, full⟩ v stores) s fun t =>
    t.hostMem = stores.foldl (fun m x => Memory.putL m x.addr x.bytes) s.hostMem ∧ changesOnly [.hostMem] s t)
  ∧ (s.isOpen = true → (g.val < 144 ∨ 148 ≤ g.val) → bit 31 v = true → s.fb RING_CFG.EN [g.val] = false → (s.ring g).busy = false →
    Runs (.ringEnable g v) s fun t => t.ring g = { Ring.reset with active := true, lostNew := (s.ring g).lostNew }
      ∧ (∀ h, h ≠ g.val → t.ring h = s.ring h) ∧ t.f RING_CFG.EN [g.val] = 1
      ∧ t.f RING_CFG.SIZE [g.val] = clampN 6 16 (fget 0 5 v) ∧ t.f RING_CFG.ASSOC [g.val] = fget 16 6 v
      ∧ t.f RING_CFG.PRIO [g.val] = fget 28 2 v ∧ t.f RING_CFG.VEC [g.val] = fget 8 8 v
      ∧ otherRegs [Reg.RING_CFG.at [g.val]] s t ∧ changesOnly [.regs, .hif] s t)
  ∧ (s.isOpen = true → g.val < 64 → bit 31 v = false → s.fb RING_CFG.EN [g.val] = true → (s.ring g).busy = false → Runs (.ringDisable g v) s fun t =>
    t.ring g = { s.ring g with active := false, busy := true, run := [], runEnd := false, runRej := 0 } ∧ (∀ h, h ≠ g.val → t.ring h = s.ring h)
      ∧ t.f RING_CFG.EN [g.val] = 0 ∧ t.f RING_CFG.SIZE [g.val] = s.f RING_CFG.SIZE [g.val])
  ∧ (s.isOpen = true → 64 ≤ g.val → g.val < 128 → bit 31 v = false → s.fb RING_CFG.EN [g.val] = true → (s.ring g).busy = false →
    s.named (g.val - 64) = true → Runs (.ringDisable g v) s fun t =>
      (∀ h, t.ring h = s.ring h) ∧ t.reg .RING_CFG [g.val] = s.reg .RING_CFG [g.val] ∧ t.f HIF_ERR.CFG_REJ [] = 1)
  ∧ ((g.val < 144 ∨ 148 ≤ g.val) → (s.ring g).busy = true → (s.ring g).enPend = false → s.stopWaits g = false →
    Runs (.ringStopDone g) s fun t => t.ring g = { s.ring g with busy := false } ∧ (∀ h, h ≠ g.val → t.ring h = s.ring h)
      ∧ changesOnly [.hif] s t)

/-- With Prale's cores running: the event at the head of the queue is written, when its ring is active and has room, as 32 bytes
at the entry of index PI with SEQ (the index modulo 65,536: log entry 32) and PHASE, and no other byte of host memory changes;
PI moves on. Without room or ring it is dropped and counted in RING_LOST with EVT_LOST. The next completion without a moved
list goes in the same way to the entry of PI of its active ring. The moderation timer of a completion or event ring with
unsignalled, unread entries and an unmasked vector sends the message of its vector. (R234, R242, R243, R252, R253, R255,
R256.) -/
def Obligations.EntriesWritten : Prop := ∀ (s : State) (e : Evt) (rest : List Evt) (x : CompSlot) (c : Comp) (g : Fin 180),
  (s.prl.lsHalt = false → s.hif.evq = e :: rest → (s.ring (128 + e.ring)).active = true → s.hasRoom (128 + e.ring) = true →
    s.memWf = true → Runs .eventWrite s fun t => t.hif.evq = rest ∧ (t.ring (128 + e.ring)).pi = idxInc (s.ring (128 + e.ring)).pi
      ∧ t.hget (s.entryAt (128 + e.ring) (s.ring (128 + e.ring)).pi 32) 32 = wordBytes (padW 7 e.words)
          ++ leBytes 4 ((s.ring (128 + e.ring)).pi % 65536 + s.phase (128 + e.ring) (s.ring (128 + e.ring)).pi * 2 ^ 31)
      ∧ (∀ a, (a < s.entryAt (128 + e.ring) (s.ring (128 + e.ring)).pi 32 ∨ s.entryAt (128 + e.ring) (s.ring (128 + e.ring)).pi 32 + 32 ≤ a) →
          Memory.get t.hostMem a = Memory.get s.hostMem a) ∧ changesOnly [.regs, .hif, .hostMem] s t)
  ∧ (s.prl.lsHalt = false → s.hif.evq = e :: rest → e.ring < 16 →
    ((s.ring (128 + e.ring)).active = false ∨ s.hasRoom (128 + e.ring) = false) → Runs .eventWrite s fun t => t.hif.evq = rest
      ∧ t.reg .RING_LOST [128 + e.ring] = satInc (s.reg .RING_LOST [128 + e.ring]) 1 ∧ t.f HIF_ERR.EVT_LOST [] = 1
      ∧ (t.ring (128 + e.ring)).pi = (s.ring (128 + e.ring)).pi ∧ changesOnly [.regs, .hif] s t)
  ∧ (s.prl.lsHalt = false → s.nextComp = some x → x.comp = some c → c.moved = [] → (s.ring (64 + c.cring)).active = true →
    s.memWf = true → Runs .completionWrite s fun t => t.hif.compq = s.hif.compq.filter (fun y => y.id != x.id)
      ∧ (t.ring (64 + c.cring)).pi = idxInc (s.ring (64 + c.cring)).pi
      ∧ t.hget (s.entryAt (64 + c.cring) (s.ring (64 + c.cring)).pi 32) 32 = wordBytes (padW 7 c.words)
          ++ leBytes 4 (x.ring + s.phase (64 + c.cring) (s.ring (64 + c.cring)).pi * 2 ^ 31)
      ∧ (∀ a, (a < s.entryAt (64 + c.cring) (s.ring (64 + c.cring)).pi 32 ∨ s.entryAt (64 + c.cring) (s.ring (64 + c.cring)).pi 32 + 32 ≤ a) →
          Memory.get t.hostMem a = Memory.get s.hostMem a) ∧ changesOnly [.regs, .hif, .hostMem] s t)
  ∧ (64 ≤ g.val → g.val < 144 → s.f RING_COAL.COAL_US [g.val] ≠ 0 → (s.ring g).u ≠ 0 → (s.ring g).pi ≠ (s.ring g).ci →
    s.fb MSIX_CTL.MASK [s.f RING_CFG.VEC [g.val]] = false → Runs (.coalesceTimer g) s fun t =>
      t.ring g = { s.ring g with u := 0, coalP := false } ∧ (∀ h, h ≠ g.val → t.ring h = s.ring h)
        ∧ t.hif.msix = s.hif.msix ++ [s.f RING_CFG.VEC [g.val]] ∧ changesOnly [.hif] s t)

/-- The next SPH transmit descriptor completes with status 2 in the safe state, counted as dropped, with status 4 for a length
below 60; its index is fetched in every case. Otherwise the frame is the host's bytes with its FCS, counted as received, and
its copy is admitted or not: with forwarding on and a lookup to one open output, no policer, room for its input and in the
store, and space in its queue, it enters the switch with that one copy; with forwarding off, no open output, or, for one
output without a policer, no room for its input, in the store or in its queue, it completes with status 2 and no copy enters.
A write-back fills the last 16 bytes of its descriptor with time, status, port and ownership and changes no other byte. A
received frame is written to its descriptor, and to the posted buffer when that lies below the part of the descriptor that is
written. A failed read makes a ring that the host produces inactive with its indices kept and sets DMA_ERR and DMA_RD; a
failed event write makes the event ring inactive with PI moved past the entry and sets DMA_ERR and DMA_WR. (SPH in the safe
state: log entry 71.) (R257, R258, R259, R286, R293, R294, R306, R307, R309.) -/
def Obligations.SphRings : Prop := ∀ (s : State) (k : Fin 16) (t i : Nat) (d : SphDone) (rest : List SphDone) (c : Cpy) (f : Machine.Frm)
    (g : Fin 180) (e : Evt) (evs : List Evt) (w n : Nat) (b : List Byte) (z : Look),
  (s.sphNext (148 + k) = some i → s.flt.safe = true → Runs (.sphTxFetch k t) s fun u =>
    u.hif.sphDone = s.hif.sphDone ++ [(⟨k.val, i, 2, 0, 0⟩ : SphDone)] ∧ u.ring (148 + k) = { s.ring (148 + k) with nxt := idxInc i }
      ∧ u.reg .SP_CNT [64, 5] = satInc (s.reg .SP_CNT [64, 5]) 1 ∧ otherRegs [Reg.SP_CNT.at [64, 5]] s u ∧ changesOnly [.regs, .clr, .hif] s u)
  ∧ (s.sphNext (148 + k) = some i → s.flt.safe = false → s.hnum (s.entryAt (148 + k) i 32 + 8) 4 % 2 ^ 14 < 60 →
    Runs (.sphTxFetch k t) s fun u => u.hif.sphDone = s.hif.sphDone ++ [(⟨k.val, i, 4, 0, 0⟩ : SphDone)]
      ∧ u.ring (148 + k) = { s.ring (148 + k) with nxt := idxInc i } ∧ changesOnly [.clr, .hif] s u)
  ∧ (s.sphNext (148 + k) = some i → s.flt.safe = false → w = s.hnum (s.entryAt (148 + k) i 32 + 8) 4 → 60 ≤ w % 2 ^ 14 →
    w % 2 ^ 14 ≤ 9212 → w / 2 ^ 14 % 4 = 0 → w / 2 ^ 20 = 0 → s.hnum (s.entryAt (148 + k) i 32 + 12) 4 = 0 →
    b = s.hget (s.hnum (s.entryAt (148 + k) i 32) 8) (w % 2 ^ 14) → (∀ q ∈ s.sgf.copies, q.fid ≠ s.sgf.nextId) →
    z = s.lookup 64 (leValue ((b ++ fcs b).take 6)) (s.vidOf 64 (b ++ fcs b)) →
    (s.forwards = true → z.outs = [n] → s.outOpen n = true →
      s.polEntry 64 (z.cls.getD (w / 2 ^ 16 % 16)) (s.vidOf 64 (b ++ fcs b)) = none →
      s.sgf.inUse 64 + 72 ≤ s.f SGF_BUF.INPUT_MAX [] * 16 → 72 ≤ s.sgf.free →
      s.sgf.depth 64 n (z.cls.getD (w / 2 ^ 16 % 16)) < s.f SGF_BUF.VOQ_MAX [] → Runs (.sphTxFetch k t) s fun u =>
        u.ring (148 + k) = { s.ring (148 + k) with nxt := idxInc i } ∧ (∀ h, h ≠ 148 + k.val → u.ring h = s.ring h)
        ∧ u.sgf.copies = s.sgf.copies ++ [(⟨s.sgf.nextId, 64, n, z.cls.getD (w / 2 ^ 16 % 16), 0, 0, false, none, none, none⟩ : Cpy)]
        ∧ (∃ x ∈ u.sgf.frames, x.id = s.sgf.nextId ∧ x.host = some (k.val, i) ∧ x.bytes = b ++ fcs b ∧ x.whole = true)
        ∧ u.hif.sphDone = s.hif.sphDone ∧ u.reg .SP_CNT [64, 0] = satInc (s.reg .SP_CNT [64, 0]) 1
        ∧ changesOnly [.regs, .clr, .sgf, .hif] s u)
    ∧ ((s.forwards = false ∨ z.outs.filter s.outOpen = [] ∨ z.outs = [n]
          ∧ s.polEntry 64 (z.cls.getD (w / 2 ^ 16 % 16)) (s.vidOf 64 (b ++ fcs b)) = none
          ∧ (s.f SGF_BUF.INPUT_MAX [] * 16 < s.sgf.inUse 64 + 72 ∨ s.sgf.free < 72
            ∨ s.f SGF_BUF.VOQ_MAX [] ≤ s.sgf.depth 64 n (z.cls.getD (w / 2 ^ 16 % 16)))) → Runs (.sphTxFetch k t) s fun u =>
        u.ring (148 + k) = { s.ring (148 + k) with nxt := idxInc i } ∧ (∀ h, h ≠ 148 + k.val → u.ring h = s.ring h)
        ∧ u.sgf.copies = s.sgf.copies ∧ u.hif.sphDone = s.hif.sphDone ++ [(⟨k.val, i, 2, 0, 0⟩ : SphDone)]
        ∧ u.reg .SP_CNT [64, 0] = satInc (s.reg .SP_CNT [64, 0]) 1 ∧ changesOnly [.regs, .clr, .sgf, .hif] s u))
  ∧ (s.hif.sphDone = d :: rest → s.memWf = true → Runs .sphTxWriteback s fun u => u.hif.sphDone = rest
      ∧ u.hget (s.entryAt (148 + d.k) d.idx 32 + 16) 16 = wordBytes [if d.status = 1 then d.ts else 0,
          wd (d.status + if d.status = 1 then d.port * 2 ^ 16 else 0), 0, wd (2 ^ 31)]
      ∧ (∀ a, (a < s.entryAt (148 + d.k) d.idx 32 + 16 ∨ s.entryAt (148 + d.k) d.idx 32 + 32 ≤ a) →
          Memory.get u.hostMem a = Memory.get s.hostMem a) ∧ changesOnly [.regs, .hif, .hostMem] s u)
  ∧ (s.sphNext (164 + k) = some i → s.sphSelect k = some c → 9216 ≤ s.hnum (s.entryAt (164 + k) i 32 + 8) 4 % 2 ^ 14 →
    s.sgf.frame c.fid = some f → s.memWf = true → Runs (.sphRxWrite k t) s fun u => (u.ring (164 + k)).nxt = idxInc i
      ∧ u.hget (s.entryAt (164 + k) i 32 + 16) 16 = wordBytes (rxWords f k)
      ∧ (s.hnum (s.entryAt (164 + k) i 32) 8 + f.bytes.length ≤ s.entryAt (164 + k) i 32 + 16 →
          u.hget (s.hnum (s.entryAt (164 + k) i 32) 8) f.bytes.length = f.bytes))
  ∧ (hostProduced g = true → (s.ring g).active = true → Runs (.dmaReadFail g false) s fun u => (u.ring g).active = false
      ∧ (u.ring g).pi = (s.ring g).pi ∧ (u.ring g).ci = (s.ring g).ci ∧ u.f RING_STATUS.DMA_ERR [g.val] = 1 ∧ u.f HIF_ERR.DMA_RD [] = 1
      ∧ (∀ h, h ≠ g.val → u.ring h = s.ring h) ∧ changesOnly [.regs, .hif, .prl] s u)
  ∧ (s.hif.evq = e :: evs → 128 ≤ g.val → g.val < 144 → e.ring = g.val - 128 → (s.ring g).active = true →
    Runs (.dmaWriteFail g false) s fun u => (u.ring g).active = false ∧ (u.ring g).pi = idxInc (s.ring g).pi
      ∧ u.f RING_STATUS.DMA_ERR [g.val] = 1 ∧ u.f HIF_ERR.DMA_WR [] = 1 ∧ changesOnly [.regs, .hif, .prl] s u)

/-- When READY and outside a reset (R464): EN = 1 on a stopped capture ring that is admitted starts it with zero indices and the
TIME record staged; one that is not admitted stays off with ADM_REJ and CFG_REJ; EN = 0 stops it, busy until done. A doorbell
that names a block sets CI, not below OLDEST; a doorbell of an inactive ring sets DB_ERR. The one staged record of an earlier
frame is written as 32 bytes at index PI of a ring that is not full, and no other byte of host memory changes. The end of a
quota window, at a whole millisecond, starts a new one in each active ring, in which the records deferred to it count, and
leaves the other rings; at another time only the clock moves. A read of the low index word latches the high one. A retrained
link shows its rate and width (their codes are log entry 73) and ends what a power request had noted of PCIe being off. (R225,
R264, R266, R268, R270, R271, R274, R276, R464.) -/
def Obligations.CaptureRings : Prop := ∀ (s : State) (k : Fin 4) (v : Word) (t n : Nat) (r : CapRec) (old : Bool) (rate : Fin 33)
    (width : Fin 9),
  (s.isOpen = true → s.fb CAP_CFG.EN [k.val] = false → (s.capR k).busy = false → bit 31 v = true → s.capAdmit k = true →
    Runs (.captureEnable k v t) s fun u => u.f CAP_CFG.EN [k.val] = 1 ∧ (u.capR k).active = true ∧ (u.capR k).pi = 0
      ∧ (u.capR k).ci = 0 ∧ (u.capR k).lost = 0 ∧ ((u.capR k).fifo.map fun x => (x.ty, x.cl)) = [(0x20, 255)]
      ∧ (∀ j, j ≠ k.val → u.capR j = s.capR j) ∧ changesOnly [.regs, .clr, .cap] s u)
  ∧ (s.isOpen = true → s.fb CAP_CFG.EN [k.val] = false → (s.capR k).busy = false → bit 31 v = true → s.capAdmit k = false →
    Runs (.captureEnable k v t) s fun u => u.f CAP_CFG.EN [k.val] = 0 ∧ u.capR k = { s.capR k with enPend := false }
      ∧ u.f CAP_STATUS.ADM_REJ [k.val] = 1 ∧ u.f HIF_ERR.CFG_REJ [] = 1)
  ∧ (s.isOpen = true → s.fb CAP_CFG.EN [k.val] = true → (s.capR k).busy = false → bit 31 v = false → Runs (.captureDisable k v) s fun u =>
    u.f CAP_CFG.EN [k.val] = 0 ∧ u.capR k = { s.capR k with active := false, busy := true }
      ∧ (∀ j, j ≠ k.val → u.capR j = s.capR j))
  ∧ ((s.capR k).active = true → bit 31 v = false → s.capCi k v = some n → Runs (.captureDoorbell k v t) s fun u =>
    (u.capR k).ci = max n (s.capR k).oldest ∧ (u.capR k).pi = (s.capR k).pi ∧ (u.capR k).fifo = (s.capR k).fifo
      ∧ (∀ j, j ≠ k.val → u.capR j = s.capR j) ∧ changesOnly [.regs, .clr, .hif, .cap] s u)
  ∧ ((s.capR k).active = false → Runs (.captureDoorbell k v t) s fun u => (∀ j, u.capR j = s.capR j)
      ∧ u.f CAP_STATUS.DB_ERR [k.val] = 1 ∧ u.f HIF_ERR.DB_ERR [] = 1)
  ∧ ((s.capR k).fifo = [r] → (s.capR k).gapP = none → r.frame < (s.passTo t).clr.now / 1000 → s.memWf = true →
    (s.capR k).pi - max (s.capR k).ci (s.capR k).oldest ≠ s.capLen k → Runs (.captureWrite k t) s fun u =>
      (u.capR k).fifo = [] ∧ (u.capR k).pi = (s.capR k).pi + 1
      ∧ u.hget (s.ringBase (144 + k) + (s.capR k).pi % s.capLen k * 32) 32 = wordBytes (padW 7 (wd (r.ty + r.cl * 2 ^ 8 + r.item * 2 ^ 16)
          :: r.time :: r.pl)) ++ leBytes 4 (((s.capR k).pi / s.capLen k + 1) % 65536)
      ∧ (∀ a, (a < s.ringBase (144 + k) + (s.capR k).pi % s.capLen k * 32 ∨ s.ringBase (144 + k) + (s.capR k).pi % s.capLen k * 32 + 32 ≤ a) →
          Memory.get u.hostMem a = Memory.get s.hostMem a) ∧ changesOnly [.regs, .clr, .hif, .cap, .hostMem] s u)
  ∧ (t % 1000000 = 0 → Runs (.quotaWindowEnd t) s fun u => changesOnly [.clr, .cap] s u ∧ ∀ j, j < 4 →
      (if (s.capR j).active = true then (u.capR j).taken = (s.capR j).takenN ∧ (u.capR j).supp = (s.capR j).suppN
        ∧ (u.capR j).takenN = [] ∧ (u.capR j).suppN = [] ∧ (u.capR j).winT = (s.passTo t).clr.now
        ∧ (u.capR j).pi = (s.capR j).pi else u.capR j = s.capR j))
  ∧ (s.isOpen = true → Runs (.capIndexLatch k old) s fun u => u.rdata = wd (if old then (s.capR k).oldest else (s.capR k).pi)
      ∧ u.capR k = (if old then { s.capR k with latOld := (s.capR k).oldest / 2 ^ 32 } else { s.capR k with latPi := (s.capR k).pi / 2 ^ 32 })
      ∧ (∀ j, j ≠ k.val → u.capR j = s.capR j) ∧ changesOnly [.cap, .rdata] s u)
  ∧ (rate.val ∈ [2, 5, 8, 16, 32] → width.val ∈ [1, 2, 4, 8] → Runs (.pcieLinkRetrain rate width) s fun u =>
      u.sys = { s.sys with linkRate := rate.val, linkWidth := width.val } ∧ u.pwr = { s.pwr with off := false }
      ∧ changesOnly [.sys, .pwr] s u)
  ∧ (t % 1000000 ≠ 0 → Runs (.quotaWindowEnd t) s fun u => changesOnly [.clr] s u)

/-! ### The signalling fabric -/

/-- When READY and outside a reset (R464): enabling a DISABLED port starts NEGOTIATE with the configuration of that moment (log
entry 192); disabling one that is not DISABLED or STOPPING makes it STOPPING, with LINK_DOWN when it was UP, and only the
frame being sent keeps its copy; a stop with nothing left ends in DISABLED, or NEGOTIATE when an enable is pending. A link
that comes up with a rate and FEC open to the port gives UP with its rate and FEC and LINK_UP; a lost one ends the
transmission, counted in TX_ABORT, and the reception and gives HOLD, or DOWN when the hold-off is 0, with LINK_DOWN; at the
end of the hold-off the port is DOWN with FLUSHED and without waiting copies; an auto-negotiation time-out sets AN_FAIL. No
other port changes where the clause says so. (R279, R281, R304, R305, R464.) -/
def Obligations.SwitchPorts : Prop := ∀ (s : State) (p : Fin 64) (v : Word) (rate : Fin 3) (fec : Fin 4) (left t : Nat) (rest : List Byte),
  (s.isOpen = true → (s.spPort p).st = .disabled → bit 31 v = true → Runs (.portEnable p v) s fun u =>
    u.spPort p = { s.spPort p with st := .negotiate, neg := u.reg .SP_CFG [p.val] } ∧ u.f SP_CFG.EN [p.val] = 1
      ∧ (∀ q, q ≠ p.val → u.spPort q = s.spPort q) ∧ u.sgf.copies = s.sgf.copies
      ∧ otherRegs [Reg.SP_CFG.at [p.val]] s u ∧ changesOnly [.regs, .sgf] s u)
  ∧ (s.isOpen = true → (s.spPort p).st ≠ .disabled → (s.spPort p).st ≠ .stopping → bit 31 v = false → Runs (.portDisable p v) s fun u =>
    (u.spPort p).st = .stopping ∧ (u.spPort p).tx = (s.spPort p).tx ∧ (∀ q, q ≠ p.val → u.spPort q = s.spPort q)
      ∧ (∀ c ∈ u.sgf.copies, c.out = p.val → (s.spPort p).tx = some c.fid) ∧ sfind u.sgf.rx p = none
      ∧ ((s.spPort p).st = .up → u.f SP_EVT.LINK_DOWN [p.val] = 1) ∧ changesOnly [.regs, .sgf, .hif, .freeN] s u)
  ∧ ((s.spPort p).st = .stopping → (s.spPort p).tx = none → (∀ c ∈ s.sgf.copies, c.out ≠ p.val) → Runs (.portStopDone p) s fun u =>
    u.spPort p = (if (s.spPort p).enPend then { SpPort.reset with st := .negotiate, neg := s.reg .SP_CFG [p.val] } else SpPort.reset)
      ∧ (∀ q, q ≠ p.val → u.spPort q = s.spPort q) ∧ changesOnly [.sgf] s u)
  ∧ ((s.spPort p).st = .negotiate ∨ (s.spPort p).st = .hold ∨ (s.spPort p).st = .down → s.upOk p rate fec = true →
    Runs (.linkUp p rate fec) s fun u =>
    u.spPort p = { s.spPort p with st := .up, rate := rate.val, fec := fec.val } ∧ (∀ q, q ≠ p.val → u.spPort q = s.spPort q)
      ∧ u.f SP_EVT.LINK_UP [p.val] = 1 ∧ otherRegs [Reg.SP_EVT.at [p.val]] s u ∧ changesOnly [.regs, .sgf] s u)
  ∧ ((s.spPort p).st = .up → Runs (.linkLoss p ⟨left, rest⟩ t) s fun u => (u.spPort p).tx = none
      ∧ (u.spPort p).st = (if s.f SGF_CTRL.HOLDOFF_US [] = 0 then .down else .hold)
      ∧ u.f SP_EVT.LINK_DOWN [p.val] = 1 ∧ (∀ q, q ≠ p.val → u.spPort q = s.spPort q)
      ∧ sfind u.sgf.rx p = none ∧ ((s.spPort p).tx.isSome = true → u.reg .SP_CNT [p.val, 11] = satInc (s.reg .SP_CNT [p.val, 11]) 1)
      ∧ changesOnly [.regs, .clr, .sgf, .hif] s u)
  ∧ ((s.spPort p).st = .hold → s.f SGF_CTRL.HOLDOFF_US [] * 1000 ≤ (s.passTo t).clr.now - (s.spPort p).holdAt →
    Runs (.holdoffExpiry p t) s fun u => (u.spPort p).st = .down ∧ u.f SP_EVT.FLUSHED [p.val] = 1
      ∧ (∀ c ∈ u.sgf.copies, c.out = p.val → (s.spPort p).tx = some c.fid) ∧ (∀ q, q ≠ p.val → u.spPort q = s.spPort q))
  ∧ (bit 30 (s.spPort p).neg = true → (s.spPort p).st = .negotiate → Runs (.anTimeout p) s fun u =>
    u.f SP_EVT.AN_FAIL [p.val] = 1 ∧ u.spPort p = { s.spPort p with neg := s.reg .SP_CFG [p.val] }
      ∧ (∀ q, q ≠ p.val → u.spPort q = s.spPort q) ∧ otherRegs [Reg.SP_EVT.at [p.val]] s u ∧ changesOnly [.regs, .sgf] s u)

/-- A unicast frame that a lookup sends to one open output, with no policer, buffer room, and space in its queue, enters with one
copy and its bytes; the oldest announcement enters from the T512 itself and is counted, unless a control message was made
before it, which then enters first (R300). A whole good frame is counted and its last bytes are there; one with a bad FCS is
counted and its copies that are not cut through leave. A crossbar slot queues the matching of the moment and assigns one cell
for each matched pair; the matching of two slots before moves a cell to staging. An idle UP output takes the copy that the
selection gives; the end of a transmission puts the unchanged bytes on the wire, counts the frame and removes the copy. (R284,
R286, R293, R294, R296, R298, R299, R300, R303, R304, R311, R316.) -/
def Obligations.FramesThroughTheSwitch : Prop := ∀ (s : State) (p o : Fin 64) (l rest : List Byte) (ts : Word) (t id d : Nat) (k : Look)
    (r : Rx) (c : Cpy) (f : Machine.Frm) (x y : List XPair) (xs : List (List XPair)) (a : List Byte)
    (as : List (Nat × List Byte)) (n : Nat) (z : Option Nat × FabMsg) (zs : List (Option Nat × FabMsg)),
  ((s.spPort p).st = .up → sfind s.sgf.rx p = none → s.forwards = true → etypeOf l ≠ 0x8808 → etypeOf l ≠ s.f SGF_TRAP.ETYPE [] →
    s.lookup p (leValue (l.take 6)) (s.vidOf p l) = k → k.outs = [d] → s.outOpen d = true →
    s.polEntry p (k.cls.getD (s.classOf p l)) (s.vidOf p l) = none → s.sgf.inUse p + 72 ≤ s.f SGF_BUF.INPUT_MAX [] * 16 →
    72 ≤ s.sgf.free → (∀ q ∈ s.sgf.copies, q.fid ≠ s.sgf.nextId) →
    s.sgf.depth p d (k.cls.getD (s.classOf p l)) < s.f SGF_BUF.VOQ_MAX [] → Runs (.frameIngress ⟨p.val, by omega⟩ l false ts t) s fun u =>
      (∃ ct, u.sgf.copies = s.sgf.copies ++ [(⟨s.sgf.nextId, p.val, d, k.cls.getD (s.classOf p l), 0, 0, ct, none, none, none⟩ : Cpy)])
      ∧ (∃ q ∈ u.sgf.frames, q.id = s.sgf.nextId ∧ q.bytes = l ∧ q.inp = p.val ∧ q.ts = ts ∧ q.whole = false)
      ∧ sfind u.sgf.rx p = some (⟨l, some s.sgf.nextId, false, false⟩ : Rx) ∧ u.sgf.ports = s.sgf.ports
      ∧ changesOnly [.clr, .sgf, .hif] s u)
  ∧ (s.yk.annOut = (n, a) :: as → (n = 0 ∨ s.fab.out = []) → Runs (.frameIngress 64 l false ts t) s fun u => u.yk = { s.yk with annOut := as }
      ∧ u.reg .SP_CNT [64, 0] = satInc (s.reg .SP_CNT [64, 0]) 1 ∧ changesOnly [.regs, .clr, .yk, .sgf, .hif] s u)
  ∧ (sfind s.sgf.rx p = some r → r.dropped = false → r.trap = false → r.fid = some id → (r.bytes ++ rest).length ≤ 9216 →
    fcsOk (r.bytes ++ rest) = true → Runs (.frameComplete p rest false t) s fun u =>
      u.reg .SP_CNT [p.val, 0] = satInc (s.reg .SP_CNT [p.val, 0]) 1
      ∧ u.sgf.frames = s.sgf.frames.map (fun q : Machine.Frm => if q.id = id then { q with bytes := r.bytes ++ rest, whole := true } else q)
      ∧ u.sgf.copies = s.sgf.copies ∧ sfind u.sgf.rx p = none ∧ otherRegs [Reg.SP_CNT.at [p.val, 0]] s u
      ∧ changesOnly [.regs, .clr, .sgf] s u)
  ∧ (sfind s.sgf.rx p = some r → r.dropped = false → r.fid = some id → (r.bytes ++ rest).length ≤ 9216 →
    fcsOk (r.bytes ++ rest) = false → Runs (.frameComplete p rest false t) s fun u =>
      u.reg .SP_CNT [p.val, 1] = satInc (s.reg .SP_CNT [p.val, 1]) 1
      ∧ u.sgf.copies = s.sgf.copies.filter (fun q => !(q.fid == id && !q.ct)) ∧ sfind u.sgf.rx p = none
      ∧ changesOnly [.regs, .clr, .sgf, .hif] s u)
  ∧ (s.sgf.xq.length < 2 → Runs (.crossbarSlot [] t) s fun u => u.sgf.xq = s.sgf.xq ++ [(s.sgf.matching s.sphBusy).pairs]
      ∧ u.sgf.frames = s.sgf.frames ∧ u.sgf.ports = s.sgf.ports ∧ u.sgf.copies = (s.sgf.matching s.sphBusy).pairs.foldl (fun m z =>
          m.map fun q : Cpy => if q.fid = z.fid ∧ q.out = z.out then { q with asg := q.asg + 1 } else q) s.sgf.copies
      ∧ changesOnly [.clr, .sgf] s u)
  ∧ (s.sgf.xq = [(⟨id, p.val, d⟩ : XPair)] :: y :: xs → s.sgf.copies.find? (fun q => q.fid == id && q.out == d) = some c →
    s.sgf.frame id = some f → f.whole = true → c.cut = none → c.moved + 1 = f.cells → Runs (.crossbarSlot [] t) s fun u =>
      (∃ q ∈ u.sgf.copies, q.fid = id ∧ q.out = d ∧ q.moved = c.moved + 1 ∧ q.stag = some s.sgf.stamp)
      ∧ u.sgf.stamp = s.sgf.stamp + 1 ∧ (∃ z, u.sgf.xq = y :: xs ++ [z]) ∧ u.sgf.frames = s.sgf.frames ∧ changesOnly [.clr, .sgf] s u)
  ∧ ((s.spPort o).st = .up → (s.spPort o).tx = none → s.flt.safe = false → s.select o = some c → Runs (.egressSelect o t) s fun u =>
    u.spPort o = { s.spPort o with tx := some c.fid } ∧ (∀ q, q ≠ o.val → u.spPort q = s.spPort q)
      ∧ u.sgf.copies = s.sgf.copies.map (fun q : Cpy => if q.fid = c.fid ∧ q.out = o.val then { q with txAt := some (s.passTo t).clr.now } else q)
      ∧ changesOnly [.clr, .sgf] s u)
  ∧ ((s.spPort o).tx = some id → s.sgf.copies.find? (fun q => q.fid == id && q.out == o.val) = some c → s.sgf.frame id = some f →
    f.whole = true → f.cells ≤ c.moved → c.cut = none → f.bad = false → Runs (.transmitEnd o t) s fun u =>
      u.sgf.wire = s.sgf.wire ++ [(o.val, f.bytes)] ∧ u.spPort o = { s.spPort o with tx := none }
      ∧ u.reg .SP_CNT [o.val, 7] = satInc (s.reg .SP_CNT [o.val, 7]) 1
      ∧ u.sgf.copies = s.sgf.copies.filter (fun q => !(q.fid == id && q.out == o.val))
      ∧ otherRegs [Reg.SP_CNT.at [o.val, 7]] s u ∧ changesOnly [.regs, .clr, .sgf, .hif] s u)
  ∧ (s.yk.annOut = (n + 1, a) :: as → s.fab.out = z :: zs → Runs (.frameIngress 64 l false ts t) s fun u =>
      u.fab = { s.fab with out := zs } ∧ u.yk = { s.yk with annOut := (n, a) :: as.map fun q => (q.1 - 1, q.2) }
      ∧ u.reg .SP_CNT [64, 0] = satInc (s.reg .SP_CNT [64, 0]) 1 ∧ changesOnly [.regs, .clr, .yk, .fab, .sgf, .hif] s u)

/-- When READY and outside a reset (R464): while a command runs, every other one is refused with CMD_REJ. INSERT replaces the
result of a present key (REPLACED), takes the lowest free way of its bucket (OK), or stores nothing and sets FWD_FULL (FULL).
DELETE removes a present key or answers NOT_FOUND. LOOKUP answers OK with the result and VALID, or NOT_FOUND. READ of an
occupied way gives its key and result. CLEAR removes every entry. At its end a command shows RESULT, its INDEX, result and key
where it has them, and no other register changes. (INDEX after a command that finds no way is free: log entry 81.) (R289,
R309, R464.) -/
def Obligations.ForwardingCommands : Prop := ∀ (s : State) (v : Word) (i r w : Nat) (e : Fwd) (d : FwdDone),
  (s.isOpen = true → s.sgf.cmd.isSome = true → ∀ c ∈ [Instr.fwdInsert v, .fwdDelete v, .fwdLookup v, .fwdRead v, .fwdClear v], Runs c s fun u =>
    u.f SGF_EVT.CMD_REJ [] = 1 ∧ otherRegs [Reg.SGF_EVT.at []] s u ∧ changesOnly [.regs] s u)
  ∧ (s.isOpen = true → s.sgf.cmd = none → e = (⟨s.fwdKey.1, s.fwdKey.2, (s.reg .SGF_FWD_RES []).toNat % 2 ^ 31⟩ : Fwd) →
    (s.sgf.fwdFind s.fwdKey.1 s.fwdKey.2 = some (i, r) → Runs (.fwdInsert v) s fun u =>
        u.sgf = { s.sgf with fwd := sset s.sgf.fwd i e, cmd := some (⟨3, some i, none, none⟩ : FwdDone) } ∧ changesOnly [.regs, .sgf] s u)
    ∧ (s.sgf.fwdFind s.fwdKey.1 s.fwdKey.2 = none →
      (List.range 4).find? (fun n => (sfind s.sgf.fwd (fwdBucket s.fwdKey.1 s.fwdKey.2 * 4 + n)).isNone) = some w →
      i = fwdBucket s.fwdKey.1 s.fwdKey.2 * 4 + w → Runs (.fwdInsert v) s fun u =>
        u.sgf = { s.sgf with fwd := sset s.sgf.fwd i e, cmd := some (⟨0, some i, none, none⟩ : FwdDone) } ∧ changesOnly [.regs, .sgf] s u)
    ∧ (s.sgf.fwdFind s.fwdKey.1 s.fwdKey.2 = none →
      (List.range 4).find? (fun n => (sfind s.sgf.fwd (fwdBucket s.fwdKey.1 s.fwdKey.2 * 4 + n)).isNone) = none →
      Runs (.fwdInsert v) s fun u => u.sgf.fwd = s.sgf.fwd ∧ u.sgf.cmd.map FwdDone.result = some 2
        ∧ u.f SGF_EVT.FWD_FULL [] = 1 ∧ changesOnly [.regs, .sgf, .freeN] s u)
    ∧ (s.sgf.fwdFind s.fwdKey.1 s.fwdKey.2 = some (i, r) → Runs (.fwdDelete v) s fun u =>
        u.sgf = { s.sgf with fwd := sdel s.sgf.fwd i, cmd := some (⟨0, none, none, none⟩ : FwdDone) } ∧ changesOnly [.regs, .sgf] s u)
    ∧ (s.sgf.fwdFind s.fwdKey.1 s.fwdKey.2 = none → Runs (.fwdDelete v) s fun u =>
        u.sgf = { s.sgf with cmd := some (⟨1, none, none, none⟩ : FwdDone) } ∧ changesOnly [.regs, .sgf] s u)
    ∧ (s.sgf.fwdFind s.fwdKey.1 s.fwdKey.2 = some (i, r) → Runs (.fwdLookup v) s fun u =>
        u.sgf = { s.sgf with cmd := some (⟨0, some i, some (wd (2 ^ 31 + r)), none⟩ : FwdDone) } ∧ changesOnly [.regs, .sgf] s u)
    ∧ (s.sgf.fwdFind s.fwdKey.1 s.fwdKey.2 = none → Runs (.fwdLookup v) s fun u =>
        u.sgf.fwd = s.sgf.fwd ∧ u.sgf.cmd.map FwdDone.result = some 1 ∧ changesOnly [.regs, .sgf, .freeN] s u)
    ∧ (sfind s.sgf.fwd (fget 0 16 v) = some e → Runs (.fwdRead v) s fun u => u.sgf = { s.sgf with cmd := some (⟨0, none,
        some (wd (2 ^ 31 + e.res)), some (wd e.da, wd (e.vid * 2 ^ 16 + e.da / 2 ^ 32))⟩ : FwdDone) } ∧ changesOnly [.regs, .sgf] s u)
    ∧ Runs (.fwdClear v) s fun u => u.sgf = { s.sgf with fwd := [], cmd := some (⟨0, none, none, none⟩ : FwdDone) }
        ∧ changesOnly [.regs, .sgf] s u)
  ∧ (s.sgf.cmd = some d → d.result < 16 → Runs .fwdCommandDone s fun u => u.sgf = { s.sgf with cmd := none }
      ∧ u.f SGF_FWD_CMD.RESULT [] = d.result ∧ (∀ n, d.index = some n → n < 65536 → u.f SGF_FWD_CMD.INDEX [] = n)
      ∧ (∀ z, d.res = some z → u.reg .SGF_FWD_RES [] = z)
      ∧ (∀ z, d.key = some z → u.reg .SGF_FWD_KEY0 [] = z.1 ∧ u.reg .SGF_FWD_KEY1 [] = z.2)
      ∧ otherRegs [Reg.SGF_FWD_CMD.at [], Reg.SGF_FWD_RES.at [], Reg.SGF_FWD_KEY0.at [], Reg.SGF_FWD_KEY1.at []] s u
      ∧ changesOnly [.regs, .sgf] s u)

/-- A refill adds the rates to both buckets of every shaper and policer, enabled or not, up to their depths. With one commit asked
for: that of a shaper with a non-zero PIR below CIR is refused with PAR_REJ and its buckets are refilled; the first commit of
an enabled shaper, with PIR 0 or not below CIR, takes the staged values with full buckets; that of a policer with PIR below
CIR or a zero burst is refused with PAR_REJ and its buckets are refilled; the first commit of an enabled policer with neither
takes the staged values with full buckets (R319). When READY and outside a reset (R464): SHAPER_APPLY stages EN and asks for a
commit with bit 31; POLICER_APPLY stages its fields, keeping MODE, YEL_ACT and RED_ACT where 3 is written. A queue sample with
OBS_EN counts, leaves the copies, shows depth 0 for a queue without copies and, where one copy waits, the depth of its queue
as now and in the maximum, each in 16 bits; with OBS_EN 0 it changes nothing of the switch. (R313, R315, R319, R322, R326,
R331, R464.) -/
def Obligations.TrafficControl : Prop := ∀ (s : State) (t i : Nat) (n : Fin 1024) (m : Fin 4096) (v : Word) (x : Cpy),
  (s.sgf.shpApply = [] → s.sgf.polApply = [] → Runs (.tokenRefill t) s fun u => (∀ j, ∀ k, k = sget Tok.reset s.sgf.shp j →
      sget Tok.reset u.sgf.shp j = { k with tc := min (8000 * k.cbs) (k.tc + k.cir), tp := min (8000 * k.pbs) (k.tp + k.pir) })
    ∧ (∀ j, ∀ k, k = sget Tok.reset s.sgf.pol j →
      sget Tok.reset u.sgf.pol j = { k with tc := min (8000 * k.cbs) (k.tc + k.cir), tp := min (8000 * k.pbs) (k.tp + k.pir) })
    ∧ changesOnly [.clr, .sgf] s u)
  ∧ (s.sgf.shpApply = [i] → s.sgf.polApply = [] → s.f SHP_PIR.PIR [i] ≠ 0 → s.f SHP_PIR.PIR [i] < s.f SHP_CIR.CIR [i] →
    Runs (.tokenRefill t) s fun u => u.f TRC_EVT.PAR_REJ [] = 1 ∧ u.sgf.shp = s.sgf.shp.map (fun q => (q.1, q.2.refill))
      ∧ u.sgf.shpApply = [] ∧ otherRegs [Reg.TRC_EVT.at []] s u)
  ∧ (s.sgf.shpApply = [i] → s.sgf.polApply = [] → (s.f SHP_PIR.PIR [i] = 0 ∨ s.f SHP_CIR.CIR [i] ≤ s.f SHP_PIR.PIR [i]) → s.fb SHP_CFG.EN [i] = true →
    (sget Tok.reset s.sgf.shp i).en = false → Runs (.tokenRefill t) s fun u => sget Tok.reset u.sgf.shp i = (⟨true, s.f SHP_CIR.CIR [i],
        s.f SHP_PIR.PIR [i], s.f SHP_CBS.CBS [i], s.f SHP_PBS.PBS [i], 8000 * s.f SHP_CBS.CBS [i], 8000 * s.f SHP_PBS.PBS [i], 0⟩ : Tok)
      ∧ u.sgf.shpApply = [] ∧ changesOnly [.clr, .sgf] s u)
  ∧ (s.isOpen = true → Runs (.shaperApply n v) s fun u => u.f SHP_CFG.EN [n.val] = fget 0 1 v ∧ u.sgf.shp = s.sgf.shp
      ∧ (bit 31 v = true → n.val ∈ u.sgf.shpApply) ∧ (bit 31 v = false → u.sgf = s.sgf) ∧ otherRegs [Reg.SHP_CFG.at [n.val]] s u
      ∧ changesOnly [.regs, .sgf] s u)
  ∧ (s.isOpen = true → Runs (.policerApply m v) s fun u => u.f POL_CFG.EN [m.val] = fget 16 1 v
      ∧ u.f POL_CFG.MODE [m.val] = (if fget 0 2 v = 3 then s.f POL_CFG.MODE [m.val] else fget 0 2 v)
      ∧ u.f POL_CFG.YEL_ACT [m.val] = (if fget 4 2 v = 3 then s.f POL_CFG.YEL_ACT [m.val] else fget 4 2 v)
      ∧ u.f POL_CFG.RED_ACT [m.val] = (if fget 6 2 v = 3 then s.f POL_CFG.RED_ACT [m.val] else fget 6 2 v)
      ∧ u.sgf.pol = s.sgf.pol ∧ (bit 31 v = true → m.val ∈ u.sgf.polApply) ∧ (bit 31 v = false → u.sgf = s.sgf)
      ∧ otherRegs [Reg.POL_CFG.at [m.val]] s u ∧ changesOnly [.regs, .sgf] s u)
  ∧ (Runs (.queueSample t) s fun u => changesOnly [.clr, .sgf] s u
      ∧ (s.fb TRC_CTRL.OBS_EN [] = false → u.sgf = s.sgf)
      ∧ (s.fb TRC_CTRL.OBS_EN [] = true → u.sgf.obsSeq = s.sgf.obsSeq + 1 ∧ u.sgf.copies = s.sgf.copies
        ∧ (∀ q, (∀ c ∈ s.sgf.copies, queueNo c.inp c.out c.cls ≠ q) → (sget Obs.reset u.sgf.obs q).dnow = 0)
        ∧ (s.sgf.copies = [x] → ∀ q, q = queueNo x.inp x.out x.cls → ∀ d, d = s.sgf.depth x.inp x.out x.cls →
          (sget Obs.reset u.sgf.obs q).dnow = d % 2 ^ 16
            ∧ (sget Obs.reset u.sgf.obs q).dmax = max (sget Obs.reset s.sgf.obs q).dmax d % 2 ^ 16)))
  ∧ (s.sgf.shpApply = [] → s.sgf.polApply = [i] →
      (s.f POL_PIR.PIR [i] < s.f POL_CIR.CIR [i] ∨ s.f POL_CBS.CBS [i] = 0 ∨ s.f POL_PBS.PBS [i] = 0) → Runs (.tokenRefill t) s fun u =>
      u.f TRC_EVT.PAR_REJ [] = 1 ∧ u.sgf.pol = s.sgf.pol.map (fun q => (q.1, q.2.refill)) ∧ u.sgf.polApply = []
      ∧ otherRegs [Reg.TRC_EVT.at []] s u)
  ∧ (s.sgf.shpApply = [] → s.sgf.polApply = [i] → s.f POL_CIR.CIR [i] ≤ s.f POL_PIR.PIR [i] → s.f POL_CBS.CBS [i] ≠ 0 →
      s.f POL_PBS.PBS [i] ≠ 0 → s.fb POL_CFG.EN [i] = true → (sget Tok.reset s.sgf.pol i).en = false → Runs (.tokenRefill t) s fun u =>
      sget Tok.reset u.sgf.pol i = (⟨true, s.f POL_CIR.CIR [i], s.f POL_PIR.PIR [i], s.f POL_CBS.CBS [i], s.f POL_PBS.PBS [i],
        8000 * s.f POL_CBS.CBS [i], 8000 * s.f POL_PBS.PBS [i], s.reg .POL_CFG [i]⟩ : Tok)
      ∧ u.sgf.polApply = [] ∧ changesOnly [.clr, .sgf] s u)

/-- A policer in MODE 0 decides the same whatever PCP and DEI the frame has; in MODE 1 the input colour of a tagged frame with DEI
= 1 is YELLOW and of any other GREEN; in MODE 2 that of a tagged frame is the colour of its PCP in TRC_PCPCOL and of an
untagged one GREEN. When READY and outside a reset, a write of 3 to MODE keeps the previous value. (R322.) -/
def Obligations.InputColour : Prop := ∀ (s : State) (p c vid n i : Nat) (l : List Byte) (m : Fin 4096) (v : Word),
  (s.polEntry p c vid = some i → fget 0 2 (s.polTok i).cfg = 0 →
    (s.police p c vid (pcpOf l) n).cls = (s.police p c vid none n).cls ∧ (s.police p c vid (pcpOf l) n).drop = (s.police p c vid none n).drop
      ∧ (s.police p c vid (pcpOf l) n).pol = (s.police p c vid none n).pol ∧ (s.police p c vid (pcpOf l) n).st = (s.police p c vid none n).st)
  ∧ s.inColour 1 (pcpOf l) = (if isTagged l = true ∧ byteAt l 14 / 16 % 2 = 1 then 1 else 0)
  ∧ s.inColour 2 (pcpOf l) = (if isTagged l = true then fget (2 * (byteAt l 14 / 32)) 2 (s.reg .TRC_PCPCOL []) else 0)
  ∧ (s.isOpen = true → fget 0 2 v = 3 → Runs (.policerApply m v) s fun u => u.f POL_CFG.MODE [m.val] = s.f POL_CFG.MODE [m.val])

/-! ### Pairs -/

/-- In PAIR mode with a mirror lane up and no frame held, and, for TXN and STATE, with Prale's cores running: a frame already
taken changes nothing; one beyond the next number is held and RETRY names the gap; RETRY sends the named frames again that the
64 KiB of the replay store hold. The next frame: HELLO makes the peer present, measures the offset from its two-way times,
starts the synchronisation of a standby of an active peer, and confirms the transactions that wait for the peer up to the PTN
that it reports whose boundary on the peer has come, and no other (which ones a HELLO confirms is the model's choice for R358:
log entry 86); TXN is taken by a standby that can, which acknowledges it, or refused with its cause and SYNC_LOST; ACK ends
the wait for it, hands off the waiting shared frames and counts a refusal; OUTCOME ends its comparison, with STANDBY_OUTCOME
when it differs; ANN raises the shared SEQ and gives a standby its frame; CTRL starts, stops or switches the calendar of a
standby; a first part of STATE is kept. HELLO_SEND sends a HELLO. (Held frames and RETRY: log entry 87; offset: 85; causes:
84; hand-off: 95; HELLO and unconfirmed transactions: 86.) (R336, R337, R338, R340, R341, R342, R344, R348, R349, R356, R357,
R358.) -/
def Obligations.MirrorFrames : Prop := ∀ (s m : State) (h : MirHdr) (w : HelloW) (x : TxnW) (a : AnnW) (c : CtrlW) (g : StateW) (ofs : Int)
    (n vt : Word) (st lo hi t : Nat) (o : Nat × Nat), s.inPair = true → s.pair.lanes ≠ 0 → h.bad = 0 → s.pair.held = [] →
    s.pair.mrx < 2 ^ 32 → h.mseq < 2 ^ 32 → m = (s.passTo t).setPair { s.pair with mrx := (s.pair.mrx + 1) % 2 ^ 32 } →
  (2 ^ 31 ≤ ahead s.pair.mrx h.mseq → Runs (.ack h n st t) s fun u => changesOnly [.clr] s u)
  ∧ (0 < ahead s.pair.mrx h.mseq → ahead s.pair.mrx h.mseq < 2 ^ 31 → Runs (.ack h n st t) s fun u =>
      u.pair.mrx = s.pair.mrx ∧ u.pair.held = [(h.mseq, 0, .ack n st)]
      ∧ u.pair.tx = s.pair.tx ++ [(s.pair.mtx, .retry s.pair.mrx ((h.mseq + 2 ^ 32 - 1) % 2 ^ 32))]
      ∧ u.reg .PAIR_CNT [2] = satInc (s.reg .PAIR_CNT [2]) 1 ∧ otherRegs [Reg.PAIR_CNT.at [2]] s u ∧ changesOnly [.regs, .clr, .pair] s u)
  ∧ (h.mseq = s.pair.mrx →
    (Runs (.hello h w ofs t) s fun u => u.pair.peer = true ∧ u.pair.hello = some w ∧ u.pair.helloAge = 0
        ∧ u.pair.offset = helloOfs w ofs (s.passTo t).clr.now
        ∧ u.pair.unconf = s.pair.unconf.filter (fun y => !(m.confirms w y)) ∧ (s.pair.role = 2 → s.pair.sync = 0 → s.pair.sel = false → w.role = 1 → u.pair.role = 2 ∧ u.pair.sync = 1))
    ∧ (s.pair.role = 2 → s.prl.lsHalt = false → m.txnCause x = 0 → (m.takeTxn x x.due).isSome = true → Runs (.txn h x t) s fun u =>
        u.pair.ptn = x.ptn.toNat ∧ u.pair.tx.getLast?.map Prod.snd = some (.ack x.ptn 0)
          ∧ u.reg .PAIR_CNT [0] = satInc (s.reg .PAIR_CNT [0]) 1 ∧ u.lanes = s.lanes)
    ∧ (s.pair.role = 2 → s.prl.lsHalt = false → s.pair.sync = 2 → m.txnCause x ≠ 0 → Runs (.txn h x t) s fun u =>
        u.pair.tx = s.pair.tx ++ [(s.pair.mtx, .ack x.ptn (m.txnCause x))] ∧ u.pair.sync = 0 ∧ u.f PAIR_EVT.SYNC_LOST [] = 1
          ∧ u.pth = s.pth ∧ u.yk = s.yk)
    ∧ (s.pair.role = 1 → s.effSel = true → Runs (.ack h n st t) s fun u => u.pair.ackWait = s.pair.ackWait.filter (fun y => y.1 ≠ n.toNat)
        ∧ u.pair.annWait = s.pair.annWait.filter (fun z => u.pair.ackWait.any fun y => y.1 == z.1 && decide ((s.passTo t).clr.now < y.2.1))
        ∧ u.reg .PAIR_CNT [1] = (if st = 0 then s.reg .PAIR_CNT [1] else satInc (s.reg .PAIR_CNT [1]) 1))
    ∧ (s.pair.role = 1 → s.pair.outs.find? (fun y => y.1 == n.toNat) = some o → Runs (.outcome h n st vt t) s fun u =>
        u.pair.outs = s.pair.outs.filter (fun y => y.1 ≠ n.toNat) ∧ (o.2 = st → changesOnly [.clr, .pair] s u)
          ∧ (o.2 ≠ st → u.f PAIR_EVT.STANDBY_OUTCOME [] = 1))
    ∧ (Runs (.ann h a t) s fun u => u.pair.seq = max s.pair.seq (a.seq.toNat % 2 ^ 31) ∧ changesOnly [.clr, .yk, .pair] s u
        ∧ (s.pair.role = 2 → u.yk.annSeq = a.seq.toNat ∧ u.yk.annOut.length = s.yk.annOut.length + 1)
        ∧ (s.pair.role ≠ 2 → u.yk = s.yk))
    ∧ (s.pair.role = 2 → (c.kind = 0 → s.yk.mode = 0 → Runs (.ctrl h c t) s fun u =>
          u.yk = { s.yk with mode := 1, calAt := c.time } ∧ u.f YK_CTRL.CAL_RUN [] = 1
            ∧ otherRegs [Reg.YK_CTRL.at []] s u ∧ changesOnly [.regs, .clr, .yk, .pair] s u)
        ∧ (c.kind = 1 → s.yk.mode = 2 → Runs (.ctrl h c t) s fun u => u.yk = { s.yk with mode := 3, stopAt := c.time }
            ∧ u.f YK_CTRL.CAL_RUN [] = 0 ∧ changesOnly [.regs, .clr, .yk, .pair] s u)
        ∧ (c.kind = 2 → s.yk.mode = 2 → Runs (.ctrl h c t) s fun u => u.yk = { s.yk with swPend := true, swAt := c.time }
            ∧ changesOnly [.clr, .yk, .pair] s u))
    ∧ (s.pair.role = 2 → s.prl.lsHalt = false → s.pair.sync = 1 → g.part = 0 → g.last = false → Runs (.stateMsg h g t) s fun u => u.pair.snap = [g]
        ∧ u.pair.sync = 1 ∧ changesOnly [.clr, .pair] s u)
    ∧ (Runs (.retry h lo hi t) s fun u => u.pair.mrx = (s.pair.mrx + 1) % 2 ^ 32
        ∧ u.pair.tx = s.pair.tx ++ ((replayed 65536 s.pair.tx.reverse.eraseDups).reverse.filter fun y => decide (ahead lo y.1 ≤ ahead lo hi))
        ∧ changesOnly [.clr, .pair] s u))
  ∧ (Runs (.helloSend t) s fun u => u.pair.tx = s.pair.tx ++ [(s.pair.mtx, .hello (s.passTo t).ownHello)]
      ∧ u.pair.mtx = (s.pair.mtx + 1) % 2 ^ 32 ∧ changesOnly [.clr, .pair] s u)

/-- The health word shows the safe state, the power state, throttle and the Placket, and its update changes no lane; one
HEALTH_UPDATE stands for one microsecond and moves the ages of the heartbeat watch and of staging by one (log entry 89, a
choice of the model). HEALTH_OK is asserted after 1,000 good updates (one a microsecond: log entry 89), when READY and outside
the safe state. From boot stage 12 the first mirror lane to come up starts the numbering anew, one that goes down leaves the
others. A peer silent for PEER_TO, counted in those updates, is lost with PEER_LOST, and a synced standby with it loses SYNC.
A mirror time-out takes SYNC from a standby and on an active module ends the waits that are due (log entry 94). Without
selection an active module with no work open becomes standby with YIELD, and is SYNCED with its event when its peer is present
and has reported the own PTN, else NOSYNC (R356); with it a starting module becomes active and a standby takes over with
TAKEOVER and the shared SEQ raised by 2^20. Outside PAIR the pin changes nothing. RECLAIM is asserted when its conditions
hold. When READY, a resynchronisation write takes SYNC from a synced standby. The connection table stays where the clause says
so. (R335, R336, R338, R349, R351, R352, R355, R356, R360, R362.) -/
def Obligations.PairRoles : Prop := ∀ (s : State) (lane : Fin 2) (t : Nat) (v : Word),
  (Runs .healthUpdate s fun u => bit 2 u.pair.health = !s.flt.safe ∧ bit 3 u.pair.health = decide (s.pwr.st = 0)
      ∧ bit 7 u.pair.health = !s.throttle ∧ bit 11 u.pair.health = decide (s.plk.st = .engaged)
      ∧ u.prl.hbAge = s.prl.hbAge.map (· + 1) ∧ u.prl.stageAge = s.prl.stageAge + 1 ∧ u.lanes = s.lanes ∧ (s.inPair = false → u.yk = s.yk))
  ∧ (s.pair.healthOk = false → 1000 ≤ s.pair.healthRun → s.ready = true → s.flt.safe = false → Runs .healthOkAssert s fun u =>
      u.pair = { s.pair with healthOk := true, okRun := 0 } ∧ (s.inPair = true → u.f PAIR_EVT.HEALTH [] = 1)
        ∧ changesOnly [.regs, .pair, .hif, .prl] s u)
  ∧ (s.inPair = true → s.modeOn = true → s.fb PAIR_CTRL.MIR_EN [] = true → s.pair.lanes = 0 → Runs (.mirrorLaneChange lane true) s fun u =>
      u.pair = { s.pair with lanes := 2 ^ lane.val, mtx := 0, tx := [], mrx := 0, held := [] } ∧ changesOnly [.regs, .pair, .prl] s u)
  ∧ (s.inPair = true → Runs (.mirrorLaneChange lane false) s fun u =>
      u.pair = { s.pair with lanes := s.pair.lanes &&& (3 - 2 ^ lane.val) } ∧ changesOnly [.regs, .pair, .prl] s u)
  ∧ (s.inPair = true → s.pair.peer = true → s.f PAIR_WD.PEER_TO [] * 100 ≤ s.pair.helloAge → Runs .peerLoss s fun u =>
      u.pair.peer = false ∧ u.f PAIR_EVT.PEER_LOST [] = 1
        ∧ (s.pair.role = 2 → s.pair.sync = 2 → s.pair.sel = false → u.pair.role = 2 ∧ u.pair.sync = 0 ∧ u.f PAIR_EVT.SYNC_LOST [] = 1
          ∧ u.yk = s.yk) ∧ u.lanes = s.lanes)
  ∧ (s.inPair = true → s.pair.role = 2 → s.pair.sync = 2 → Runs (.mirrorTimeout t) s fun u => u.pair.role = 2 ∧ u.pair.sync = 0
      ∧ u.f PAIR_EVT.SYNC_LOST [] = 1 ∧ u.pth = s.pth ∧ u.yk = s.yk)
  ∧ (s.inPair = true → s.pair.role = 1 → s.effSel = true → Runs (.mirrorTimeout t) s fun u => u.pair.role = 1
      ∧ u.pair.ackWait = s.pair.ackWait.filter (fun x => decide ((s.passTo t).clr.now < x.2.2))
      ∧ u.pair.annWait = s.pair.annWait.filter (fun z => u.pair.ackWait.any fun y => y.1 == z.1 && decide ((s.passTo t).clr.now < y.2.1)))
  ∧ (s.inPair = true → s.ready = true → s.pair.role = 1 → s.pair.ackWait = [] → s.pth.cur = none →
      Runs (.activeSelChange false) s fun u => u.pair.role = 2 ∧ u.pair.sel = false ∧ u.pair.intake = false
        ∧ u.f PAIR_EVT.YIELD [] = 1 ∧ u.pth = s.pth ∧ (s.pair.peer = false → u.pair.sync = 0)
        ∧ (s.pair.peer = true → s.pair.hello.map (fun w => w.ptn.toNat) = some s.pair.ptn → u.pair.sync = 2 ∧ u.f PAIR_EVT.SYNCED [] = 1)
        ∧ (s.pair.hello.map (fun w => w.ptn.toNat) ≠ some s.pair.ptn → u.pair.sync = 0))
  ∧ (s.inPair = true → s.ready = true → s.pair.role = 0 → s.pair.dual = false → Runs (.activeSelChange true) s fun u =>
      u.pair.role = 1 ∧ u.pair.sync = 3 ∧ u.pair.sel = true ∧ u.pair.seq = (s.pair.seq + 2 ^ 20) % 2 ^ 31)
  ∧ (s.inPair = true → s.ready = true → s.pair.role = 2 → s.pair.dual = false → Runs (.activeSelChange true) s fun u =>
      u.pair.role = 1 ∧ u.pair.sync = 3 ∧ u.pair.seq = (s.pair.seq + 2 ^ 20) % 2 ^ 31 ∧ u.f PAIR_EVT.TAKEOVER [] = 1
        ∧ u.pth.conn = s.pth.conn)
  ∧ (s.inPair = false → Runs (.activeSelChange true) s fun u => u = s)
  ∧ (s.reclaimOk = true → Runs .reclaimHold s fun u => u.pair = { s.pair with reclaim := true } ∧ changesOnly [.pair] s u)
  ∧ (s.inPair = true → s.isOpen = true → s.pair.role = 2 → s.pair.sync = 2 → bit 0 v = true → bit 1 v = true → Runs (.pairResync v) s fun u =>
      u.pair.sync = 0 ∧ u.pair.role = 2 ∧ u.f PAIR_CTRL.RECLAIM_HOLD [] = min 3600 (fget 16 16 v) ∧ u.f PAIR_CTRL.MIR_EN [] = 1
        ∧ u.f PAIR_EVT.SYNC_LOST [] = 1 ∧ u.pth = s.pth)

/-! ### Fabrics -/

/-- In FABRIC mode with nothing waiting and no probe to release: a HELLO or DISC with the own DEVID sets DUP_DEVID and the state
for it, and any other message with it changes nothing (log entry 229); a message for another device goes on with one hop more
while it has fewer than 7; a tracked message seen before changes nothing. From boot stage 12 HELLO and LSA are sent with fresh
numbers; that DISC_SEND sends the LSA is log entry 194, its age 0 log entry 209. A HELLO makes its sender a neighbour, known
and alive, with DEV_FOUND where it was not, and stores its digest; where the digest differs from the own and no difference was
told, DIGEST is set (log entry 163). An LSA whose list differs from the one held is stored, makes the routes stale and goes
on; that this is the rule of the flood is log entry 209. The routes are computed anew, none without neighbours and one for a
single neighbour. A neighbour silent for HELLO_N times HELLO_US, and a DOWN message, make a device dead with its links DOWN
and DEV_LOST; that this device takes it as dead itself, with its own link entries DOWN, is log entry 164. A message without
answer is sent again after 50 microseconds, three times (log entry 160). (Log entries 163, 164, 194, 209 and 229 are choices
of the model.) (R363, R370, R371, R373, R384.) -/
def Obligations.ControlNetwork : Prop := ∀ (s : State) (m : FabMsg) (port d : Fin 64) (t st : Nat) (mid : Bool) (dg : Word) (n : Nbr)
    (l : List (Nat × Nat)) (age : Nat) (x : FabSent), s.inFabric = true → s.fab.waitQ = [] → s.fab.late = [] →
  (∀ p ∈ s.pth.placed, p.lost = false) → s.fab.missed = [] → (∀ x ∈ s.fab.probes, s.inTaken x.1 = false ∧ s.outTaken x.2 = none) →
  (m.src = s.devid → showsTwin m.body = true → Runs (.fabHello m port t) s fun u => u.fab = { s.fab with st := 2 }
      ∧ u.f FAB_EVT.DUP_DEVID [] = 1 ∧ changesOnly [.regs, .clr, .fab, .hif, .prl] s u)
  ∧ (m.src ≠ s.devid → m.dst ≠ 255 → m.dst ≠ s.devid → m.hops < 7 → Runs (.fabHello m port t) s fun u =>
      u.fab = { s.fab with out := s.fab.out ++ [((sfind s.fab.rt m.dst).map Prod.snd, { m with hops := m.hops + 1 })] }
        ∧ changesOnly [.clr, .fab] s u)
  ∧ (m.src ≠ s.devid → m.dst = s.devid → trackedMsg m.body = true → s.fab.seen.contains (m.src, m.seq) = true →
      Runs (.reserve m t) s fun u => changesOnly [.clr] s u)
  ∧ (s.modeOn = true → Runs (.fabHelloSend t) s fun u => u.fab = { s.fab with seq := s.fab.seq + 1, out := s.fab.out ++
        [(none, (⟨s.devid, 255, s.fab.seq + 1, 0, .hello s.isMiddle s.fab.st s.fabDigest⟩ : FabMsg))] } ∧ changesOnly [.clr, .fab] s u)
  ∧ (m.src ≠ s.devid → m.dst = 255 → m.body = .hello mid st dg → s.fab.paths = [] → Runs (.fabHello m port t) s fun u =>
      u.fab.nbrs = s.fab.nbrs.filter (fun y : Nbr => !(y.dev == m.src && y.port == port.val)) ++ [⟨m.src, port.val, t⟩]
        ∧ u.fab.digest = sset s.fab.digest m.src dg ∧ u.fab.dead = s.fab.dead.filter (· ≠ m.src) ∧ m.src ∈ u.fab.known
        ∧ ((s.fab.known.contains m.src = false ∨ s.fab.dead.contains m.src = true) → u.f FAB_EVT.DEV_FOUND [] = 1)
        ∧ (dg ≠ s.fabDigest → s.fab.digBad.contains m.src = false → u.f FAB_EVT.DIGEST [] = 1)
        ∧ (u.fab.digBad.contains m.src = decide (dg ≠ s.fabDigest)))
  ∧ (s.modeOn = true → s.fb FAB_CTRL.DISC_EN [] = false → Runs (.discSend t) s fun u => u.fab = { s.fab with seq := s.fab.seq + 1, out :=
        s.fab.out ++ [(none, (⟨s.devid, 255, s.fab.seq + 1, 0, .lsa (s.fab.nbrs.map fun y => (y.dev, y.port)) 0⟩ : FabMsg))] }
      ∧ changesOnly [.clr, .fab] s u)
  ∧ (m.src ≠ s.devid → m.dst = 255 → m.body = .lsa l age → sget [] s.fab.lsas m.src ≠ l → Runs (.lsa m t) s fun u =>
      u.fab = { s.fab with lsas := sset s.fab.lsas m.src l, rtStale := true, out := s.fab.out ++ [(none, { m with hops := m.hops + 1 })] }
        ∧ changesOnly [.clr, .pth, .fab] s u)
  ∧ (Runs .routeRecompute s fun u => (s.fab.rt = [] → u.fab.rtStale = false) ∧ u.fab.st = (if s.fab.st = 0 then 1 else s.fab.st)
      ∧ (s.fab.nbrs = [] → u.fab.rt = [])
      ∧ (s.fab.nbrs = [n] → s.fab.lsas = [] → n.dev < 64 → n.dev ≠ s.devid → u.fab.rt = [(n.dev, 1, n.port)]))
  ∧ ((s.fab.nbrs.any fun y => y.dev == d.val) = true → s.fab.paths = [] → s.fab.dead.contains d.val = false →
      (∀ y ∈ s.fab.nbrs, y.dev = d.val → y.t + s.f FAB_TIME0.HELLO_N [] * s.f FAB_TIME0.HELLO_US [] * 10000 ≤ t) →
      Runs (.neighbourLoss d t) s fun u => u.fab.nbrs = s.fab.nbrs.filter (fun y : Nbr => y.dev ≠ d.val) ∧ d.val ∈ u.fab.dead
        ∧ u.fab.lnkOut = downLinks d s.fab.lnkOut ∧ u.fab.lnkIn = downLinks d s.fab.lnkIn ∧ u.f FAB_EVT.DEV_LOST [] = 1)
  ∧ (m.src ≠ s.devid → m.dst = 255 → m.body = .downDev d t → d.val ≠ s.devid → s.fab.paths = [] → s.fab.dead.contains d.val = false →
      Runs (.down m t) s fun u => d.val ∈ u.fab.dead ∧ u.fab.lnkOut = downLinks d s.fab.lnkOut
        ∧ u.fab.lnkIn = downLinks d s.fab.lnkIn ∧ u.f FAB_EVT.DEV_LOST [] = 1)
  ∧ (s.fab.sent = [x] → Runs (.controlRetransmit t) s fun u => changesOnly [.clr, .fab] s u
      ∧ (x.t + 50000 ≤ (s.passTo t).clr.now → x.n < 3 → u.fab.out = s.fab.out ++ [(none, x.msg)]
          ∧ u.fab.sent = [{ x with t := (s.passTo t).clr.now, n := x.n + 1 }])
      ∧ (x.t + 50000 ≤ (s.passTo t).clr.now → 3 ≤ x.n → u.fab.out = s.fab.out ∧ u.fab.sent = [])
      ∧ ((s.passTo t).clr.now < x.t + 50000 → u.fab.out = s.fab.out ∧ u.fab.sent = [x]))
  ∧ (m.src = s.devid → showsTwin m.body = false → Runs (.lsa m t) s fun u => changesOnly [.clr] s u)

/-- In FABRIC mode with nothing waiting and no probe to release, for the first copy of a message to this device, and for RESERVE
with Prale's cores running: DISC stores the claims of its sender. RESERVE at a device that refuses is answered with the cause
and holds nothing; one that an edge device can place is answered with the ports and held pending. A reply of one of several
devices is noted with its request. A COMMIT that gives up drops the pending segment; one with a boundary still to be reached
makes it committed, and plan and routes in force stay. An OUTCOME is noted until all have come. The timeout, with no request
of the own and no segment placed in the store, drops exactly the pending segments of other owners whose time has come (all
records of such a reservation) and keeps every other. A link in-port whose power stays LINK_DB below its reference for LINK_N
checks goes down with LINK_DOWN, one at or above it starts the count anew. A probe dwell stages one pattern for its probe
routes. A DISC whose claim is the only one to match a word that this device claims at a link in-port, or at a link out-port,
makes that link CONFIRMED with the sender and its port, and sets MISWIRED when another far end stood there as CLAIMED or
CONFIRMED; when no claim matches the word of a link in-port any more, a DISC of the far end that stood there makes it MISWIRED
with the event (R376; which devices can be a far end, and which claim decides, is log entry 230). No lane changes where the
clause says so. (R368, R375, R376, R378, R379, R380, R383.) -/
def Obligations.ReservationsAndLinks : Prop := ∀ (s m' : State) (m : FabMsg) (t n b p : Nat) (l : List Claim) (w : ResvW) (o : SegOut)
    (q : FabReq) (g : FabSeg) (pl : Placed) (ref : Int) (reqs : List Req) (paths : List (Nat × Nat × Nat)) (s1 : State)
    (ports : List (Nat × Nat)) (rts : List (Rt × Bool)),
  s.inFabric = true → s.fab.waitQ = [] → s.fab.late = [] → (∀ p ∈ s.pth.placed, p.lost = false) → s.fab.missed = [] →
  (∀ x ∈ s.fab.probes, s.inTaken x.1 = false ∧ s.outTaken x.2 = none) → m.src ≠ s.devid → m.dst = s.devid → s.firstCopy m = true →
  m' = (s.passTo t).setFab { s.fab with seen := s.fab.seen ++ [(m.src, m.seq)] } →
  (m.body = .disc l → s.fab.paths = [] → Runs (.disc m t) s fun u => sget [] u.fab.claims m.src = l ∧ u.lanes = s.lanes)
  ∧ (m.body = .reserve w → s.prl.lsHalt = false → s.refuseCause (s.resvDevs m.src w) ≠ 0 → Runs (.reserve m t) s fun u =>
      u.fab.out = s.fab.out ++ [(none, (⟨s.devid, resvOwner w, s.fab.seq + 1, 0,
          .reply w.num (s.refuseCause (s.resvDevs m.src w)) []⟩ : FabMsg))]
        ∧ u.fab.segs = s.fab.segs ∧ changesOnly [.clr, .pth, .fab] s u)
  ∧ (m.body = .reserve w → s.prl.lsHalt = false → s.isMiddle = false → s.refuseCause (s.resvDevs m.src w) = 0 →
      m'.segItems m.src w.kind w.items [] = .ok (reqs, paths) →
      m'.placeSeg (resvOwner w) w.num w.kind (m'.clr.now + m'.resvTo) reqs paths 1 0 = some (s1, []) →
      Runs (.reserve m t) s fun u => u.fab.out.getLast?.map (fun z => z.2.body) = some (.reply w.num 0 (paths.map fun z => z.2))
        ∧ (∃ z ∈ u.fab.segs, z.owner = resvOwner w ∧ z.num = w.num ∧ z.st = 0 ∧ z.paths = paths)
        ∧ u.lanes = s.lanes)
  ∧ (m.body = .reply n 0 ports → s.fab.reqs.find? (fun z => z.num == n && z.stage == 0) = some q → q.wait.contains m.src = true →
      q.wait.filter (· ≠ m.src) ≠ [] → Runs (.resvReply m t) s fun u =>
        (∃ z ∈ u.fab.reqs, z.num = n ∧ z.wait = q.wait.filter (· ≠ m.src) ∧ z.acc = q.acc ++ [m.src])
          ∧ u.fab.segs = s.fab.segs ∧ changesOnly [.clr, .pth, .fab] s u)
  ∧ (m.body = .commit n false none → s.segPlaced m.src n = none → Runs (.commit m t) s fun u =>
      u.fab.segs = s.fab.segs.filter (fun z : FabSeg => !(z.owner == m.src && z.num == n && z.st == 0)) ∧ u.lanes = s.lanes)
  ∧ (m.body = .commit n false (some b) → s.segPlaced m.src n = some pl → s.seg? m.src n = some g → pl.hold = true →
      (s.passTo t).clr.now + s.leadNs ≤ b → Runs (.commit m t) s fun u =>
        (∃ z ∈ u.fab.segs, z.owner = m.src ∧ z.num = n ∧ z.st = 1) ∧ u.lanes = s.lanes ∧ u.pth.plan = s.pth.plan ∧ u.pth.live = s.pth.live)
  ∧ (m.body = .outcome n o → s.fab.reqs.find? (fun z => z.num == n) = some q → q.stage = 1 → (q.outs.any fun z => z.1 == m.src) = false →
      q.outs.length + 1 < q.devs.length → Runs (.fabOutcome m t) s fun u =>
        (∃ z ∈ u.fab.reqs, z.num = n ∧ z.outs = q.outs ++ [(m.src, o)]) ∧ changesOnly [.clr, .pth, .fab] s u)
  ∧ (s.fab.reqs = [] → (∀ x ∈ s.pth.placed, x.hold = false → x.seg = none) → Runs (.reservationTimeout t) s fun u =>
      u.fab.segs = s.fab.segs.filter (fun z : FabSeg => !(z.st == 0 && s.fab.segs.any fun y : FabSeg => y.st == 0
          && y.owner != s.devid && y.owner == z.owner && y.num == z.num && decide (y.dl ≤ (s.passTo t).clr.now)))
        ∧ u.lanes = s.lanes)
  ∧ (s.fab.linkRef = [(p, ref)] → s.inTaken p = true → s.fab.paths = [] → (s.lnkIn p).st ≠ 4 →
      128 * s.f FAB_WATCH.LINK_DB [] < ref - s.pIn p → s.f FAB_WATCH.LINK_N [] ≤ sget 0 s.fab.linkLow p + 1 →
      Runs (.linkLossDetect t) s fun u => u.lnkIn p = { s.lnkIn p with st := 4 } ∧ u.f FAB_EVT.LINK_DOWN [] = 1 ∧ u.lanes = s.lanes)
  ∧ (s.fab.linkRef = [(p, ref)] → s.inTaken p = true → ref - s.pIn p ≤ 128 * s.f FAB_WATCH.LINK_DB [] →
      Runs (.linkLossDetect t) s fun u => u.fab = { s.fab with linkLow := sdel s.fab.linkLow p } ∧ changesOnly [.clr, .pth, .fab] s u)
  ∧ (s.ready = true → s.fb FAB_CTRL.PROBE_EN [] = true → s.flt.safe = false → s.freeNums ≠ [] →
      s.probeRoutes (s.probePlan s.fab.probeN) (s.planPaths 0) = rts → rts ≠ [] → Runs (.probeDwell t) s fun u =>
        u.fab = { s.fab with probes := rts.map fun z => (z.1.a, z.1.b), probeN := s.fab.probeN + 1 }
          ∧ u.yk.store.length = s.yk.store.length + 1 ∧ u.lanes = s.lanes ∧ u.pth.plan = s.pth.plan ∧ u.pth.conn = s.pth.conn)
  ∧ (m.body = .disc l → s.fab.paths = [] → ⟨false, p, n⟩ ∈ s.ownClaims → ⟨true, b, n⟩ ∈ l → s.linkOk m.src = true →
      (∀ x ∈ sset s.fab.claims m.src l, ∀ c ∈ x.2, c.out = true → c.word = n → x.1 = m.src ∧ c.port = b) → Runs (.disc m t) s fun u =>
        u.lnkIn p = ⟨2, m.src, b⟩ ∧ ((s.lnkIn p).st = 1 ∨ (s.lnkIn p).st = 2 → ((s.lnkIn p).dev, (s.lnkIn p).port) ≠ (m.src, b) →
          u.f FAB_EVT.MISWIRED [] = 1))
  ∧ (m.body = .disc l → s.fab.paths = [] → ⟨true, p, n⟩ ∈ s.ownClaims → ⟨false, b, n⟩ ∈ l → s.linkOk m.src = true →
      (∀ x ∈ sset s.fab.claims m.src l, ∀ c ∈ x.2, c.out = false → c.word = n → x.1 = m.src ∧ c.port = b) → Runs (.disc m t) s fun u =>
        u.lnkOut p = ⟨2, m.src, b⟩ ∧ ((s.lnkOut p).st = 1 ∨ (s.lnkOut p).st = 2 → ((s.lnkOut p).dev, (s.lnkOut p).port) ≠ (m.src, b) →
          u.f FAB_EVT.MISWIRED [] = 1))
  ∧ (m.body = .disc l → s.fab.paths = [] → ⟨false, p, n⟩ ∈ s.ownClaims → ((s.lnkIn p).st = 1 ∨ (s.lnkIn p).st = 2) →
      (s.lnkIn p).dev = m.src → (∀ x ∈ sset s.fab.claims m.src l, ∀ c ∈ x.2, c.out = true → c.word ≠ n) → Runs (.disc m t) s fun u =>
        u.lnkIn p = { s.lnkIn p with st := 3 } ∧ u.f FAB_EVT.MISWIRED [] = 1)

/-! ### Faults -/

/-- Outside a reset: the cause of a source that is not immediate and whose status is 0 sets the status, starts the escalation
timer of an enabled ESCALATE source, and changes no lane, Yoke state, safe state or other register but the capture counts; a
cause whose status is set changes nothing. When READY (R464): FLT_FORCE queues a forced event for each existing source written
with 1. A clear outside the safe state clears the statuses written with 1 whose cause does not hold. FLT_EN keeps the
immediate sources enabled; FLT_CLASS_LO and FLT_CLASS_HI take the written classes by the rule of classWord. (R389, R390, R391,
R392, R394, R407, R464.) -/
def Obligations.FaultStatus : Prop := ∀ (s : State) (n : Fin 256) (g : Fin 8) (w : Fin 3) (v info : Word), s.sys.por = false →
    s.sys.mainRst = false → s.sys.thmRst = false →
  (s.faultLevel n = true → realSource n = true → extLevel n = false → s.flt.evc.find? (fun x => x.1 == n.val) = none →
    s.src .FLT_STAT n = false → immediate n = false →
    (Runs (.faultSourceSet n false info) s fun u => u.src .FLT_STAT n = true ∧ u.flt.safe = s.flt.safe ∧ u.lanes = s.lanes ∧ u.yk = s.yk
      ∧ otherRegs [Reg.FLT_STAT.at [n.val / 32], Reg.CAP_SUPP.at [0], Reg.CAP_SUPP.at [1], Reg.CAP_SUPP.at [2], Reg.CAP_SUPP.at [3]] s u
      ∧ u.flt.esc = (if s.src .FLT_EN n = true ∧ s.classOfSrc n = 2 then (s.flt.esc.filter fun x => x.1 ≠ n.val)
          ++ [(n.val, s.f FLT_CTRL.ESC_MS [])] else s.flt.esc)))
  ∧ (s.faultLevel n = true → realSource n = true → extLevel n = false → s.flt.evc.find? (fun x => x.1 == n.val) = none →
    s.src .FLT_STAT n = true → Runs (.faultSourceSet n false info) s fun u => u = s)
  ∧ (s.isOpen = true → Runs (.fltForce g v) s fun u => u.flt = { s.flt with evc := s.flt.evc ++
        ((List.range 32).filter fun j => bit j v && realSource (32 * g + j)).map fun j => (32 * g.val + j, true) } ∧ changesOnly [.flt] s u)
  ∧ (s.isOpen = true → s.flt.safe = false → Runs (.fltStatClear g v) s fun u => changesOnly [.regs, .flt] s u ∧ ∀ j, j < 32 →
      u.src .FLT_STAT (32 * g + j) = (s.src .FLT_STAT (32 * g + j) && !(bit j v && !s.faultLevel (32 * g + j))))
  ∧ (s.isOpen = true → w.val = 0 → Runs (.fltConfigWrite g w v) s fun u => u.reg .FLT_EN [g.val] = v ||| wd (bitsWord fun j => immediate (32 * g + j))
      ∧ otherRegs [Reg.FLT_EN.at [g.val]] s u ∧ changesOnly [.regs, .flt] s u)
  ∧ (s.isOpen = true → w.val = 1 → Runs (.fltConfigWrite g w v) s fun u => u.reg .FLT_CLASS_LO [g.val] = classWord (32 * g) (s.reg .FLT_CLASS_LO [g.val]) v
      ∧ otherRegs [Reg.FLT_CLASS_LO.at [g.val]] s u ∧ changesOnly [.regs, .flt] s u)
  ∧ (s.isOpen = true → w.val = 2 → Runs (.fltConfigWrite g w v) s fun u => u.reg .FLT_CLASS_HI [g.val] = classWord (32 * g + 16) (s.reg .FLT_CLASS_HI [g.val]) v
      ∧ otherRegs [Reg.FLT_CLASS_HI.at [g.val]] s u ∧ changesOnly [.regs, .flt] s u)

/-- Outside a reset: an enabled immediate source with a new fault enters the safe state: the status and HELD are set, FLT_SAFE
names it, every cluster is under the safe command, the calendar is over, ENGAGE is 0, the Placket neither ENGAGED nor
ENGAGING, and the clock is untouched. An escalation timer that expires enters it for sources below 32 and from 184 up, and
isolates the lanes of the cluster for those between, with ACTED set; before its time nothing changes. The entry ends with
SAFE_ENTRY_COMPLETE. When READY, a write of any FLT_STAT word that clears every held status still set, none of whose causes
holds, leaves the safe state and the safe command (a write with none left does so too); during the entry it leaves the exit
pending; a write that leaves a held status set stays in the safe state. A parity error restores its word and sets source 0
with FLT_PAR. (Elapsed time as operand: log entry 111; the moment of SAFE_ENTRY_COMPLETE: 106.) (R391, R394, R396, R398, R399,
R401, R402, R403, R464.) -/
def Obligations.SafeState : Prop := ∀ (s : State) (n : Fin 256) (us ms : Nat) (info : Word) (i : Fin 25)
    (g : Fin 8) (v : Word), s.sys.por = false →
    s.sys.mainRst = false → s.sys.thmRst = false →
  (s.faultLevel n = true → realSource n = true → extLevel n = false → s.flt.evc.find? (fun x => x.1 == n.val) = none →
    s.src .FLT_STAT n = false → immediate n = true → s.src .FLT_EN n = true → s.flt.safe = false →
    Runs (.faultSourceSet n false info) s fun u => u.flt.safe = true ∧ u.flt.entering = true ∧ u.src .FLT_STAT n = true
      ∧ u.src .FLT_HELD n = true ∧ u.reg .FLT_SAFE [] = wd n.val ∧ (∀ c, c < 144 → (u.cl c).safe = true) ∧ u.yk.mode = 0
      ∧ u.f YK_CTRL.CAL_RUN [] = 0 ∧ u.f PLK_CTRL.ENGAGE [] = 0 ∧ u.plk.st ≠ .engaged ∧ u.plk.st ≠ .engaging ∧ u.clr = s.clr)
  ∧ (s.flt.esc.find? (fun x => x.1 == n.val) = some (n.val, ms) → ms * 1000 ≤ us + 10 → (n.val < 32 ∨ 184 ≤ n.val) → s.flt.safe = false →
    Runs (.escalationExpiry n us info) s fun u => u.flt.safe = true ∧ u.src .FLT_ACTED n = true ∧ u.src .FLT_HELD n = true
      ∧ u.flt.esc = s.flt.esc.filter (fun x => x.1 ≠ n.val))
  ∧ (s.flt.esc.find? (fun x => x.1 == n.val) = some (n.val, ms) → ms * 1000 ≤ us + 10 → 32 ≤ n.val → n.val < 184 →
    Runs (.escalationExpiry n us info) s fun u => u.flt.safe = s.flt.safe ∧ u.src .FLT_ACTED n = true
      ∧ ∀ p ∈ s.lanes, s.isolates n p.1 = true → (u.lane p.1).isol = true)
  ∧ (s.flt.esc.find? (fun x => x.1 == n.val) = some (n.val, ms) → us + 10 < ms * 1000 → Runs (.escalationExpiry n us info) s fun u => u = s)
  ∧ (s.flt.entering = true → s.flt.exitPend = false → Runs (.safeEntryComplete true) s fun u => u.flt = { s.flt with entering := false }
      ∧ changesOnly [.flt] s u)
  ∧ (s.isOpen = true → s.flt.safe = true → s.flt.entering = false →
    (∀ m, m < 256 → s.src .FLT_HELD m = true → s.src .FLT_STAT m = true → m / 32 = g.val ∧ bit (m % 32) v = true ∧ s.faultLevel m = false) →
    Runs (.fltStatClear g v) s fun u => u.flt.safe = false ∧ ∀ c, c < 144 → (u.cl c).safe = false)
  ∧ (s.src .FLT_STAT 0 = false → Runs (.parityError i false) s fun u => u.reg (parityReg i).1 (parityReg i).2 = wd (Reg.hw (parityReg i).1 (parityReg i).2)
      ∧ u.reg .FLT_PAR [] = wd (2 ^ 31 + ((parityReg i).1.at (parityReg i).2 - 0x80000)) ∧ u.src .FLT_STAT 0 = true)
  ∧ (s.isOpen = true → s.flt.safe = true → s.flt.entering = true →
    (∀ m, m < 256 → s.src .FLT_HELD m = true → s.src .FLT_STAT m = true → m / 32 = g.val ∧ bit (m % 32) v = true ∧ s.faultLevel m = false) →
    Runs (.fltStatClear g v) s fun u => u.flt.safe = true ∧ u.flt.exitPend = true ∧ changesOnly [.regs, .flt] s u)
  ∧ (s.isOpen = true → s.flt.safe = true → s.src .FLT_HELD n = true → s.src .FLT_STAT n = true → (n.val / 32 ≠ g.val ∨ bit (n % 32) v = false) →
    Runs (.fltStatClear g v) s fun u => u.flt.safe = true ∧ changesOnly [.regs, .flt] s u)

/-! ### Thermal control, PWM, power -/

/-- The measurement of an enabled sensor takes its gate and changes no other sensor, and no lane in phase SERVICE or with the
shutdown level already asserted; that a sensor which the command does not list keeps its reading, so that a measurement of
none changes no sensor, is log entry 112. The three levels follow the hottest sensor with their hysteresis; a new shutdown
latches with SHUTDOWN in phase SERVICE; in another phase, outside a thermal restart, it asks for one without latching and,
with source 19 enabled, enters the safe state in the same command, held by that source (R415); where the shutdown level does
not change neither does the latch or the request. The TEC loop keeps its output within ±65,535, gives the duty in proportion
to one leg and 0 to the other, and updates both channels; without a valid photodiode value it changes nothing. TEC_TIME
outside the band sets the TEC cause. (Ties of the hottest sensor: log entry 113.) (R409, R410, R412, R414, R415, R417, R418.) -/
def Obligations.ThermalControl : Prop := ∀ (s : State) (t leg : Nat) (x : SnsRead),
  (s.snsEn x.i.val = true → Runs (.sensorMeasure t [x]) s fun u => u.sns x.i.val = (s.sns x.i.val).gate x.cnt (sgn 16 x.val.toNat)
      ∧ (∀ i, i ≠ x.i.val → u.sns i = s.sns i) ∧ (s.phase_ = 3 ∨ s.thm.shut = true → u.lanes = s.lanes))
  ∧ (Runs (.sensorMeasure t []) s fun u => u.thm.warn = levelNow s.thm.warn s.hottest (s.thrOf THM_THR.WARN_C)
      ∧ u.thm.thr = levelNow s.thm.thr s.hottest (s.thrOf THM_THR.THR_C) ∧ u.thm.shut = levelNow s.thm.shut s.hottest (s.thrOf THM_THR.SHUT_C)
      ∧ (∀ i, u.sns i = s.sns i)
      ∧ (s.thm.shut = false → u.thm.shut = true → s.phase_ = 3 → u.thm.latch = true ∧ u.f THM_EVT.SHUTDOWN [] = 1)
      ∧ (s.thm.shut = false → u.thm.shut = true → s.phase_ ≠ 3 → s.sys.thmRst = false → u.thm.restartP = true ∧ u.thm.latch = s.thm.latch
        ∧ (s.thm.restartP = false → s.sys.mainRst = false → s.src .FLT_EN 19 = true → u.flt.safe = true ∧ u.src .FLT_HELD 19 = true))
      ∧ (u.thm.shut = s.thm.shut → u.thm.latch = s.thm.latch ∧ u.thm.restartP = s.thm.restartP))
  ∧ (s.fb TEC_CTRL.EN [] = true → s.thm.pdValid = true → leg < 2 → Runs .tecLoop s fun u => -65535 ≤ u.thm.u ∧ u.thm.u ≤ 65535
      ∧ (leg = (if 0 < u.thm.u then s.f TEC_CTRL.COOL_LEG [] else 1 - s.f TEC_CTRL.COOL_LEG []) →
          u.f PWM_DUTY.DUTY [leg] = u.thm.u.natAbs * s.f PWM_PER.PER [leg] * 16 / 65535 ∧ u.f PWM_DUTY.DUTY [1 - leg] = 0)
      ∧ (u.pwmOf 0).updP = true ∧ (u.pwmOf 1).updP = true ∧ otherRegs [Reg.PWM_DUTY.at [0], Reg.PWM_DUTY.at [1]] s u
      ∧ changesOnly [.regs, .thm, .pwm] s u)
  ∧ (s.thm.pdValid = false → Runs .tecLoop s fun u => u = s)
  ∧ (s.fb TEC_CTRL.EN [] = true → s.inBand = false → s.f TEC_MON.TEC_TIME [] * 10000 ≤ s.thm.out → Runs .tecBandTimeout s fun u =>
      u.thm = { s.thm with tecTo := true } ∧ changesOnly [.thm] s u)

/-- A reload of an enabled channel without fault takes PER and DUTY (the staged ones when SYNC is 0 or an update is pending),
counts its dither step and starts the pulse of its length; with the fault active it keeps the pin low and counts a cut. The
end of the pulse lowers the pin. A fault input of channels 2 and 3 cuts a running pulse with CUT and an event; the release of
input 0 frees channels 0 and 1. When READY and outside a reset (R464): a write of EN = 1 without fault, enabled before or not,
starts a period at dither step 0, EN = 0 drives the idle level, and UPDATE with SYNC, on a channel that the TEC loop does not
own, makes an update pending (without SYNC: log entry 120). No other channel changes. (R419, R420, R421, R422, R423, R424,
R464.) -/
def Obligations.PwmChannels : Prop := ∀ (s : State) (ch : Fin 4) (n : Fin 3) (v : Word) (p d : Nat),
  (s.fb PWM_CTRL.EN [ch.val] = true → (s.pwmOf ch).flt = false →
    p = (if s.fb PWM_CTRL.SYNC [ch.val] = false ∨ (s.pwmOf ch).updP = true then s.f PWM_PER.PER [ch.val] else (s.pwmOf ch).per) →
    d = (if s.fb PWM_CTRL.SYNC [ch.val] = false ∨ (s.pwmOf ch).updP = true then s.f PWM_DUTY.DUTY [ch.val] else (s.pwmOf ch).duty) →
    Runs (.pwmReload ch) s fun u => u.pwmOf ch = (⟨p, d, s.f PWM_CTRL.PRESC [ch.val], ((s.pwmOf ch).k + 1) % 16,
        pwmH p d (((s.pwmOf ch).k + 1) % 16), decide (0 < pwmH p d (((s.pwmOf ch).k + 1) % 16)), false, false⟩ : Pwm)
      ∧ (∀ c, c ≠ ch.val → u.pwmOf c = s.pwmOf c) ∧ otherRegs [Reg.PWM_STATUS.at [ch.val]] s u ∧ changesOnly [.regs, .pwm] s u)
  ∧ (s.fb PWM_CTRL.EN [ch.val] = true → (s.pwmOf ch).flt = true → Runs (.pwmReload ch) s fun u => (u.pwmOf ch).pin = false
      ∧ u.f PWM_STATUS.CUT [ch.val] = 1 ∧ u.reg .PWM_CUTS [ch.val] = satInc (s.reg .PWM_CUTS [ch.val]) 1)
  ∧ (s.fb PWM_CTRL.EN [ch.val] = true → (s.pwmOf ch).h < (s.pwmOf ch).per → Runs (.pwmPulseEnd ch) s fun u =>
      u.pwmOf ch = { s.pwmOf ch with pin := false } ∧ (∀ c, c ≠ ch.val → u.pwmOf c = s.pwmOf c) ∧ changesOnly [.pwm] s u)
  ∧ (n.val ≠ 0 → s.fb PWM_CTRL.EN [n.val + 1] = true → (s.pwmOf (n.val + 1)).pin = true → Runs (.pwmFaultInput n true) s fun u =>
      u.pwmOf (n.val + 1) = { s.pwmOf (n.val + 1) with flt := true, pin := false } ∧ u.f PWM_STATUS.CUT [n.val + 1] = 1
        ∧ u.flt = { s.flt with evc := s.flt.evc ++ [(22, false)] } ∧ (∀ c, c ≠ n.val + 1 → u.pwmOf c = s.pwmOf c))
  ∧ (Runs (.pwmFaultInput 0 false) s fun u => u.pwmOf 0 = { s.pwmOf 0 with flt := false } ∧ u.pwmOf 1 = { s.pwmOf 1 with flt := false }
      ∧ u.pwmOf 2 = s.pwmOf 2 ∧ u.pwmOf 3 = s.pwmOf 3 ∧ changesOnly [.pwm] s u)
  ∧ (s.isOpen = true → bit 0 v = true → (s.pwmOf ch).flt = false → Runs (.pwmEnable ch v) s fun u =>
      u.f PWM_CTRL.EN [ch.val] = 1 ∧ u.f PWM_CTRL.PRESC [ch.val] = fget 4 2 v ∧ (u.pwmOf ch).k = 0
        ∧ (u.pwmOf ch).h = pwmH (s.pwmOf ch).per (s.pwmOf ch).duty 0 ∧ (u.pwmOf ch).pin = decide (0 < (u.pwmOf ch).h)
        ∧ otherRegs [Reg.PWM_CTRL.at [ch.val]] s u ∧ changesOnly [.regs, .pwm] s u)
  ∧ (s.isOpen = true → bit 0 v = false → Runs (.pwmDisable ch v) s fun u => u.f PWM_CTRL.EN [ch.val] = 0
      ∧ u.pwmOf ch = { s.pwmOf ch with pin := bit 2 v } ∧ (∀ c, c ≠ ch.val → u.pwmOf c = s.pwmOf c)
      ∧ otherRegs [Reg.PWM_CTRL.at [ch.val]] s u ∧ changesOnly [.regs, .pwm] s u)
  ∧ (s.isOpen = true → bit 0 v = true → s.fb PWM_CTRL.SYNC [ch.val] = true → s.pwmOwned ch = false → Runs (.pwmUpdate ch v) s fun u =>
      u.pwmOf ch = { s.pwmOf ch with updP := true } ∧ (∀ c, c ≠ ch.val → u.pwmOf c = s.pwmOf c) ∧ changesOnly [.pwm] s u)

/-- When READY and outside a reset (R464): a TARGET above 4 is not stored; with no change and no calibration in progress, a TARGET
shallower than the state in force starts an exit, which from P3 or P4 ends the P2 hold and the inhibit at its start (log entry
117) and from P4 loads the set-points kept, a deeper one makes an entry pending, and either forgets what an earlier request
noted of PCIe being off. An entry that waits for nothing starts, in P2 with every cluster folded into P2, in P3 and P4 with an
engaged Placket released. The end of a change puts the state in force with CHANGED, ends the P2 hold on leaving P2, writes
PWR_EXIT on an exit to P0 (log entry 119), empties the switch on an entry to P3 or P4, and leaves the set-point store
unpowered in P4 (log entry 213). A commit point within the exit time starts an automatic wake to P0 with AUTO. (Whether PCIe
is off is an operand: log entry 118.) (R425, R426, R427, R428, R432, R464.) -/
def Obligations.PowerLadder : Prop := ∀ (s : State) (v : Word) (t g c : Nat) (off : Bool),
  (s.isOpen = true → 4 < fget 0 3 v → Runs (.powerTargetWrite v t) s fun u => u.f PWR_CTRL.TARGET [] = s.f PWR_CTRL.TARGET []
      ∧ u.f PWR_CTRL.AUTO_WAKE [] = fget 8 1 v ∧ otherRegs [Reg.PWR_CTRL.at []] s u ∧ changesOnly [.regs, .clr] s u)
  ∧ (s.isOpen = true → fget 0 3 v = g → g ≤ 4 → s.cal.busy = false → s.pwr.chg = none → (∀ p ∈ s.pwr.kept, isSetpt p.1 = true) →
      Runs (.powerTargetWrite v t) s fun u => u.f PWR_CTRL.TARGET [] = g ∧ u.f PWR_CTRL.AUTO_WAKE [] = fget 8 1 v ∧ u.pwr.st = s.pwr.st
      ∧ ((s.pwr.st < 3 ∨ s.pwr.st ≤ g) → otherRegs [Reg.PWR_CTRL.at []] s u ∧ changesOnly [.regs, .clr, .pwr] s u)
      ∧ (3 ≤ s.pwr.st → g < 3 → ∀ k, k < 144 → (u.cl k).p2 = false)
      ∧ u.pwr.chg = (if g < s.pwr.st then some g else none) ∧ u.pwr.pend = decide (s.pwr.st < g)
      ∧ u.pwr.off = false)
  ∧ (s.pwr.pend = true → s.pwr.chg = none → s.target = g → ({ s with pwr := { s.pwr with off := off } } : State).pwrWait g = 0 →
    (g < 2 → Runs (.powerEntry off t) s fun u => u.pwr.chg = some g ∧ u.pwr.pend = false ∧ u.pwr.st = s.pwr.st ∧ u.pwr.off = off
        ∧ changesOnly [.clr, .pwr] s u)
    ∧ (g = 2 → Runs (.powerEntry off t) s fun u => u.pwr.chg = some 2 ∧ ∀ k, k < 144 → (u.cl k).p2 = true)
    ∧ (3 ≤ g → s.plk.st = .engaged → Runs (.powerEntry off t) s fun u => u.pwr.chg = some g ∧ u.plk.st = .releasing
        ∧ u.lanes = s.lanes))
  ∧ (s.pwr.chg = some g → s.pwr.late = false → (g < 3 ∨ g ≤ s.pwr.st ∨ s.plk.st = .released) → Runs (.powerChangeDone t) s fun u =>
      u.pwr.st = g ∧ u.pwr.chg = none ∧ u.f PWR_EVT.CHANGED [] = 1
        ∧ (s.pwr.st = 2 → g < 2 → ∀ k, k < 144 → (u.cl k).p2 = false)
        ∧ (g = 0 → 0 < s.pwr.st → u.reg .PWR_EXIT [] = wd (s.pwr.st * 2 ^ 29 + min 0xFFFFFF (((s.passTo t).clr.now - s.pwr.t0) / 1000)))
        ∧ (s.pwr.st < 3 → 3 ≤ g → u.sgf.ports = [] ∧ u.sgf.frames = [] ∧ u.sgf.copies = [] ∧ u.sgf.fwd = [])
        ∧ (g = 4 → u.storeOff = true))
  ∧ (s.firstCommit = some c → s.fb PWR_CTRL.AUTO_WAKE [] = true → 1 ≤ s.pwr.st → s.pwr.st ≤ 3 → s.pwr.chg = none →
    c ≤ (s.passTo t).clr.now + (if s.pwr.st = 1 then 20000 else if s.pwr.st = 2 then 200000 else 2000000) + 10000 →
    Runs (.autoWake t) s fun u => u.pwr.chg = some 0 ∧ u.pwr.st = s.pwr.st ∧ u.pwr.t0 = (s.passTo t).clr.now ∧ u.f PWR_EVT.AUTO [] = 1
      ∧ (s.pwr.st ≤ 2 → changesOnly [.regs, .clr, .pwr, .prl] s u))

/-! ### Prale -/

/-- A difference of the cores halts them. A heartbeat of a core that runs restarts the watch and counts; WD_MS without one makes
it late, and before the first refresh WD_MS after the boot has passed stage 4, and not earlier. An interrupt entry takes the
qualifying source of lowest rank from pending to active, or counts in SPUR when none qualifies; a return with none qualifying
ends the active one; outside a reset the gate is stored. Sleep keeps the sources 416, 417 and 432, and no other pending or
active one, with EN, GRP and SUB of these alone (what the others read is log entry 233), and keeps the log buffer (log entry
139); an enabled wake line wakes Prale with what was kept or has come in sleep, the source of lines 0 to 2 among them; another
line changes nothing. The first waiting log entry goes to its place in flash with the next SEQ. After a loss the entry that
tells the count goes there first, with the entry of LOG_LOST behind it, and LOG_LOST is an event of its class (that it does
not wait in the buffer: log entry 140). (R433, R434, R438, R440, R441, R442, R443, R444, R449, R450, R456.) -/
def Obligations.PraleProcessors : Prop := ∀ (s : State) (n : Nat) (gate : Bool) (line : Fin 32) (p : Nat × Nat) (rest : List (Nat × Nat))
    (x : LogEnt) (more : List LogEnt),
  (Runs .lockstepHalt s fun u => u.prl = { s.prl with lsHalt := true } ∧ changesOnly [.prl] s u)
  ∧ (s.prl.lsHalt = false → s.prl.awake = true → Runs .heartbeat s fun u =>
      u.prl = { s.prl with hbAge := some 0, hbCnt := (s.prl.hbCnt + 1) % 256, hbLate := false } ∧ changesOnly [.prl] s u)
  ∧ (s.prl.hbAge = some n → s.f PRL_WD.WD_MS [] * 1000 ≤ n → Runs .heartbeatLate s fun u => u.prl = { s.prl with hbLate := true }
      ∧ changesOnly [.prl] s u)
  ∧ (s.prl.hbAge = some n → n < s.f PRL_WD.WD_MS [] * 1000 → Runs .heartbeatLate s fun u => u = s)
  ∧ (s.prl.lsHalt = false → s.prl.awake = true → n < 512 → s.icQualifies n = true →
      (∀ m, m < 512 → m ≠ n → s.icQualifies m = true → s.icRank n < s.icRank m) → Runs .interruptEntry s fun u =>
        u.prl = { s.prl with ic := { s.prl.ic with pend := s.prl.ic.pend.filter (· ≠ n), act := (n, s.f IC_SRC.GRP [n]) :: s.prl.ic.act } }
          ∧ changesOnly [.prl] s u)
  ∧ (s.prl.lsHalt = false → s.prl.awake = true → (∀ m, m < 512 → s.icQualifies m = false) → Runs .interruptEntry s fun u =>
      u.f IC_CTRL.SPUR [] = min 65535 (s.f IC_CTRL.SPUR [] + 1) ∧ otherRegs [Reg.IC_CTRL.at []] s u ∧ changesOnly [.regs] s u)
  ∧ (s.prl.lsHalt = false → s.prl.ic.act = p :: rest →
      (∀ m, m < 512 → (s.setIc { s.prl.ic with act := rest }).icQualifies m = false) → Runs .interruptReturn s fun u =>
        u.prl = { s.prl with ic := { s.prl.ic with act := rest } } ∧ changesOnly [.prl] s u)
  ∧ (s.inReset = false → s.prl.lsHalt = false → Runs (.icGateWrite gate) s fun u => u.f IC_CTRL.GATE [] = (if gate then 1 else 0)
      ∧ u.f IC_CTRL.SPUR [] = s.f IC_CTRL.SPUR [] ∧ otherRegs [Reg.IC_CTRL.at []] s u ∧ changesOnly [.regs] s u)
  ∧ (s.prl.awake = true → Runs .praleSleep s fun u => u.prl.awake = false ∧ u.prl.ic.pend = [] ∧ u.prl.ic.act = []
      ∧ u.prl.ic.kept.map (fun k => k.1) = [416, 417, 432] ∧ u.prl.logBuf = s.prl.logBuf ∧ (∀ m, m < 512 → m ∉ icRetained → u.f IC_SRC.EN [m] = 0)
      ∧ (∀ m ∈ icRetained, u.f IC_SRC.EN [m] = s.f IC_SRC.EN [m] ∧ u.f IC_SRC.GRP [m] = s.f IC_SRC.GRP [m]
        ∧ u.f IC_SRC.SUB [m] = s.f IC_SRC.SUB [m]) ∧ changesOnly [.regs, .prl] s u)
  ∧ (s.prl.awake = false → 2 < s.sys.stage → line.val < 8 → bit line (s.reg .IC_WAKE []) = true → Runs (.praleWake line) s fun u => u.prl.awake = true
      ∧ u.prl.ic.act = [] ∧ u.prl.ic.pend = ((s.prl.ic.kept.filter fun k => k.2.2 || s.prl.ic.latched.contains k.1
        || (decide (line.val < 3) && k.1 == wakeSrc.getD line 0)).map fun k => k.1) ∧ changesOnly [.prl] s u)
  ∧ ((8 ≤ line.val ∨ bit line (s.reg .IC_WAKE []) = false) → Runs (.praleWake line) s fun u => u = s)
  ∧ (s.prl.lsHalt = false → s.prl.logLost = 0 → s.prl.logBuf = x :: more → Runs .logAppend s fun u => u.prl.logBuf = more
      ∧ u.prl.logSeq = (s.prl.logSeq + 1) % 2 ^ 32 ∧ u.prl.logOfs = (s.prl.logOfs + 32) % logBytes
      ∧ u.flashGet (flashLog + s.prl.logOfs) 32 = x.bytes ((s.prl.logSeq + 1) % 2 ^ 32) ∧ changesOnly [.prl] s u)
  ∧ (s.prl.hbAge = none → 4 < s.sys.stage → s.f PRL_WD.WD_MS [] * 1000 ≤ s.prl.bootAge → Runs .heartbeatLate s fun u =>
      u.prl = { s.prl with hbLate := true } ∧ changesOnly [.prl] s u)
  ∧ (s.prl.hbAge = none → (s.sys.stage ≤ 4 ∨ s.prl.bootAge < s.f PRL_WD.WD_MS [] * 1000) → Runs .heartbeatLate s fun u => u = s)
  ∧ (s.prl.lsHalt = false → s.prl.logLost = n → n ≠ 0 → Runs .logAppend s fun u => u.prl.logLost = 0 ∧ u.prl.logBuf = s.prl.logBuf
      ∧ u.prl.logSeq = (s.prl.logSeq + 2) % 2 ^ 32 ∧ u.prl.logOfs = (s.prl.logOfs + 64) % logBytes
      ∧ u.flashGet (flashLog + s.prl.logOfs) 32 = (⟨0x0F, 0, 0, s.clr.now, [wd n]⟩ : LogEnt).bytes ((s.prl.logSeq + 1) % 2 ^ 32)
      ∧ (bit 6 (s.reg .HIF_EVT_EN []) = true → u.hif.evq = s.hif.evq ++
        [(⟨fget 24 4 (s.reg .HIF_EVT_ROUTE []), 6, 0x60, 4, s.tag, [wd n]⟩ : Evt)]) ∧ changesOnly [.hif, .prl] s u)

/-- With Prale's cores running, the management command at the head: FW_LOAD in order puts the host's bytes into staging and moves
the extent, and a write at offset 0 claims it; while the window owns staging it changes nothing but its own completion. A
commit of a staged image that verifies, with the running slot CONFIRMED, makes the other slot TRIAL or VALID by the switch,
leaves the running slot, and frees staging; one of an empty or failing image frees staging only (log entries 131 and 132).
LOG_READ copies the log to the host's buffer and changes no other byte. Outside a reset, a release, a commit by the owner
through PRL_STAGE and the timeout of 60 s free staging; others change nothing. A trial that lives 60 s becomes CONFIRMED and
raises the SVN floor. (R247, R450, R452, R453, R454, R455.) -/
def Obligations.FirmwareImages : Prop := ∀ (s s1 : State) (x : Txn) (r : Req) (v : Word) (ok : Bool),
  (s.prl.lsHalt = false → s.takeMgmt 0x10 = some (x, r, s1) → s.prl.owner ≠ 2 → x.ofs + x.len ≤ slotBytes →
    (x.ofs = 0 ∨ x.ofs = s.prl.extent) → Runs .fwLoad s fun u => u.prl.extent = x.ofs + x.len
      ∧ u.prl.owner = (if x.ofs = 0 then 1 else s.prl.owner) ∧ u.prl.stageAge = 0
      ∧ u.flashGet (flashStage + x.ofs) x.len = s.hget x.buf x.len ∧ u.pth = s1.pth ∧ changesOnly [.pth, .hif, .prl] s u)
  ∧ (s.prl.lsHalt = false → s.takeMgmt 0x10 = some (x, r, s1) → s.prl.owner = 2 → Runs .fwLoad s fun u =>
      u.pth = s1.pth ∧ changesOnly [.pth, .hif] s u)
  ∧ (s.prl.lsHalt = false → s.takeMgmt 0x11 = some (x, r, s1) → s.prl.extent ≠ 0 →
    (s.prl.slot s.prl.runB).st = 3 → Runs (.fwCommit true) s fun u => s.verify flashStage s.prl.extent = 0 →
      u.prl.owner = 0 ∧ (u.prl.slot (!s.prl.runB)).st = (if x.switch then 2 else 1) ∧ (u.prl.slot (!s.prl.runB)).tries = (if x.switch then 3 else 0) ∧ u.prl.slot s.prl.runB = s.prl.slot s.prl.runB
      ∧ u.prl.bootB = (if x.switch then !s.prl.runB else s.prl.bootB) ∧ u.prl.runB = s.prl.runB ∧ u.pth = s1.pth)
  ∧ (s.prl.lsHalt = false → s.takeMgmt 0x11 = some (x, r, s1) → (s.prl.extent = 0 ∨ s.verify flashStage s.prl.extent ≠ 0) →
    Runs (.fwCommit ok) s fun u => u.prl = { s.prl with owner := 0 } ∧ u.pth = s1.pth)
  ∧ (s.prl.lsHalt = false → s.takeMgmt 0x12 = some (x, r, s1) → x.ofs + x.len ≤ logBytes → s.memWf = true → Runs .logRead s fun u =>
      u.hget x.buf x.len = s.flashGet (flashLog + x.ofs) x.len
        ∧ (∀ a, (a < x.buf ∨ x.buf + x.len ≤ a) → Memory.get u.hostMem a = Memory.get s.hostMem a)
        ∧ u.pth = s1.pth ∧ changesOnly [.pth, .hif, .hostMem] s u)
  ∧ (s.inReset = false → s.prl.owner ≠ 0 → bit 29 v = true → Runs (.stageRelease v) s fun u => u.prl.owner = 0 ∧ u.prl.extent = s.prl.extent
      ∧ u.prl.slotA = s.prl.slotA ∧ u.prl.slotB = s.prl.slotB ∧ changesOnly [.hif, .prl] s u)
  ∧ (s.inReset = false → s.prl.lsHalt = false → s.prl.owner = 2 → bit 28 v = true → bit 29 v = false → s.prl.extent ≠ 0 →
    (s.prl.slot s.prl.runB).st = 3 → Runs (.stageCommit v true) s fun u => s.verify flashStage s.prl.extent = 0 → u.prl.owner = 0
      ∧ (u.prl.slot (!s.prl.runB)).st = (if bit 27 v then 2 else 1) ∧ u.prl.slot s.prl.runB = s.prl.slot s.prl.runB
      ∧ u.prl.bootB = (if bit 27 v then !s.prl.runB else s.prl.bootB) ∧ changesOnly [.hif, .prl] s u)
  ∧ (s.prl.owner ≠ 2 → bit 29 v = false → Runs (.stageCommit v ok) s fun u => u = s)
  ∧ (60000000 ≤ s.prl.stageAge → s.prl.owner ≠ 0 → Runs .stagingTimeout s fun u => u.prl.owner = 0 ∧ u.prl.extent = s.prl.extent
      ∧ changesOnly [.hif, .prl] s u)
  ∧ (s.prl.stageAge < 60000000 → Runs .stagingTimeout s fun u => u = s)
  ∧ (s.ready = true → (s.prl.slot s.prl.runB).st = 2 → 60000000 ≤ s.prl.aliveRun → Runs .slotConfirm s fun u =>
      u.prl.slot s.prl.runB = { s.prl.slot s.prl.runB with st := 3 } ∧ u.prl.slot (!s.prl.runB) = s.prl.slot (!s.prl.runB)
        ∧ u.prl.svnFloor = max s.prl.svnFloor (s.prl.slot s.prl.runB).svn ∧ changesOnly [.hif, .prl] s u)

/-- Outside power-on reset: reads give OOB_ID, OOB_ADDR, OOB_CTRL and OOB_STATUS and change nothing of the window but the packet
error code that stands behind the word (its polynomial: log entry 144); in OOB_STATUS BUSY is 0, because an access ends within
its command (log entry 145). A read of OOB_DATA at an address below 0x2000_0000 fails with code 1; other command codes answer
nothing. Writes set OOB_ADDR (whole words below 0x3000_0000), OOB_CTRL and clear ERR; a wrong PEC fails with code 7. A write
of OOB_DATA at the start of staging claims it and stores the word, and fails with code 6 while the host owns it. The alert
response gives the own address while the alert is asserted and changes nothing otherwise. A bus timeout answers nothing and,
with OOB_ADDR outside BAR0, changes nothing of the window: it raises source 421 where the cut transaction was addressed to the
T512 (R437) and nothing where it was not, which a free value decides (log entry 146). (Log entries 144, 145 and 146 are
choices of the model.) (R437, R445, R446, R447, R448, R453, R488.) -/
def Obligations.OutOfBandWindow : Prop := ∀ (s : State) (t : Nat) (code : Byte) (v : Word) (p : Byte), s.sys.por = false →
  (Runs (.read32 0 t) s fun u => u.rdata = 0x75121F9C ∧ u.prl.oob = { s.prl.oob with pec := s.readPec 0 u.rdata } ∧ changesOnly [.regs, .clr, .prl, .rdata] s u)
  ∧ (Runs (.read32 2 t) s fun u => u.rdata = wd s.prl.oob.addr ∧ u.prl.oob = { s.prl.oob with pec := s.readPec 2 u.rdata } ∧ changesOnly [.regs, .clr, .prl, .rdata] s u)
  ∧ (Runs (.read32 4 t) s fun u => fget 0 1 u.rdata = (if s.prl.oob.inc then 1 else 0) ∧ fget 1 1 u.rdata = (if s.prl.oob.alertEn then 1 else 0)
      ∧ u.prl.oob = { s.prl.oob with pec := s.readPec 4 u.rdata })
  ∧ (Runs (.read32 1 t) s fun u => fget 0 1 u.rdata = (if s.prl.oob.err then 1 else 0)
      ∧ u.prl.oob = { s.prl.oob with pec := s.readPec 1 u.rdata }
      ∧ u.rdata = wd ((if u.prl.awake then 256 else 0) + s.prl.oob.code * 2 + (if s.prl.oob.err then 1 else 0)))
  ∧ (s.prl.oob.addr < 0x20000000 → Runs (.read32 3 t) s fun u => u.prl.oob = { s.prl.oob with err := true, code := 1, pec := s.readPec 3 u.rdata }
      ∧ u.lanes = s.lanes)
  ∧ (4 < code.toNat → Runs (.read32 code t) s fun u => u.rdata = s.rdata ∧ u.prl.oob = s.prl.oob)
  ∧ (v.toNat < 0x30000000 → Runs (.write32 2 v none t) s fun u => u.prl.oob = { s.prl.oob with addr := v.toNat / 4 * 4 }
      ∧ changesOnly [.regs, .clr, .prl] s u)
  ∧ (Runs (.write32 4 v none t) s fun u => u.prl.oob = { s.prl.oob with inc := bit 0 v, alertEn := bit 1 v }
      ∧ changesOnly [.regs, .clr, .prl] s u)
  ∧ (bit 0 v = true → Runs (.write32 1 v none t) s fun u => u.prl.oob = { s.prl.oob with err := false } ∧ changesOnly [.regs, .clr, .prl] s u)
  ∧ (1 ≤ code.toNat → code.toNat ≤ 4 → p.toNat ≠ s.pecOf code.toNat v → Runs (.write32 code v (some p) t) s fun u =>
      u.prl.oob = { s.prl.oob with err := true, code := 7 } ∧ changesOnly [.regs, .clr, .prl] s u)
  ∧ (s.prl.oob.addr = 0x30000000 + flashStage → s.prl.owner ≠ 1 → s.prl.oob.inc = false → Runs (.write32 3 v none t) s fun u =>
      u.prl.extent = 4 ∧ u.prl.owner = 2 ∧ u.flashGet flashStage 4 = leBytes 4 v.toNat ∧ u.prl.oob = { s.prl.oob with data := v }
        ∧ changesOnly [.regs, .clr, .prl] s u)
  ∧ (s.prl.oob.addr = 0x30000000 + flashStage → s.prl.owner = 1 → Runs (.write32 3 v none t) s fun u =>
      u.prl.oob = { s.prl.oob with err := true, code := 6 } ∧ u.prl.extent = s.prl.extent ∧ u.prl.flash = s.prl.flash)
  ∧ (s.smbAlert = true → Runs .alertResponse s fun u => u.rdata.toNat / 2 = (if s.sys.pref then 0x5B else 0x5A)
      ∧ changesOnly [.freeN, .rdata] s u)
  ∧ (s.smbAlert = false → Runs .alertResponse s fun u => u = s)
  ∧ (s.prl.awake = true → 421 ∉ s.prl.ic.pend → Runs .smbusTimeout s fun u => u.rdata = s.rdata ∧ (inBar s.prl.oob.addr = false →
      (u.prl = s.prl ∨ u.prl = { s.prl with ic := { s.prl.ic with pend := s.prl.ic.pend ++ [421] } })
        ∧ u.freeN = s.freeN + 1 ∧ changesOnly [.freeN, .prl] s u))

/-! ### Calibration -/

/-- Outside a reset. While idle, a TRIM_CHECK, TRIM or RESTORE with a cause against it ends at once with result 3 and that cause
(their order is log entry 147) and DONE_C 0. While a run goes on, every further one sets CMD_REJ. An allowed TRIM_CHECK, TRIM
or PROBE_LEARN starts with one pattern staged, or PROBE_LEARN fails with STORE_FULL (log entry 151); CAL_ELEC starts with the
first ADC of every cluster in scope, CAL_OPT with no constant changed and no mean yet. RESTORE puts the saved constants of the
last run in force and in store, and writes each saved set-point back to its register and to the store (R477), changing no
other register and no lane without one; an ABORT ends a run with the constants and set-points from before it, and a second one
changes nothing (that a set-point is written back as by the host is log entry 234). Of the lanes, CAL_ELEC holds those of the
ADCs it measures and CAL_OPT only lanes of the Cuff clusters (its window comes first: log entry 235); no lane changes where
the clause says so. (R466, R468, R471, R472, R473, R474, R476, R477, R479.) -/
def Obligations.CalibrationCommands : Prop := ∀ (s : State) (t : Nat) (k : CalUndo), s.inReset = false →
  (s.cal.busy = false → (s.calCause 1 ≠ 0 → Runs (.trimCheck t) s fun u =>
        u.cal = { s.cal with op := 1, result := 3, cause := s.calCause 1, doneC := 0 } ∧ changesOnly [.clr, .cal] s u)
    ∧ (s.calCause 2 ≠ 0 → Runs (.trim t) s fun u =>
        u.cal = { s.cal with op := 2, result := 3, cause := s.calCause 2, doneC := 0 } ∧ changesOnly [.clr, .cal] s u)
    ∧ (s.calCause 6 ≠ 0 → Runs (.restore t) s fun u =>
        u.cal = { s.cal with op := 6, result := 3, cause := s.calCause 6, doneC := 0 } ∧ changesOnly [.clr, .cal] s u))
  ∧ (s.cal.busy = true → ∀ c ∈ [Instr.trimCheck t, .trim t, .probeLearn t, .calElec t, .calOpt t, .restore t], Runs c s fun u =>
      u.f CAL_STATUS.CMD_REJ [] = 1 ∧ otherRegs [Reg.CAL_STATUS.at []] s u ∧ changesOnly [.regs, .clr] s u)
  ∧ (s.cal.busy = false → s.freeNums ≠ [] → s.calCause 1 = 0 → Runs (.trimCheck t) s fun u => u.cal.busy = true ∧ u.cal.op = 1
      ∧ u.cal.result = 0 ∧ u.cal.stage = 4 ∧ u.cal.fired = false ∧ u.yk.store.length = s.yk.store.length + 1 ∧ u.lanes = s.lanes)
  ∧ (s.cal.busy = false → s.freeNums ≠ [] → s.calCause 2 = 0 → Runs (.trim t) s fun u => u.cal.busy = true ∧ u.cal.op = 2
      ∧ u.cal.result = 0 ∧ u.cal.stage = 4 ∧ u.cal.fired = false ∧ u.yk.store.length = s.yk.store.length + 1 ∧ u.lanes = s.lanes)
  ∧ (s.cal.busy = false → s.freeNums ≠ [] → s.calCause 3 = 0 → Runs (.probeLearn t) s fun u => u.cal.busy = true ∧ u.cal.op = 3
      ∧ u.cal.result = 0 ∧ u.cal.stage = 1 ∧ u.cal.fired = false ∧ u.yk.store.length = s.yk.store.length + 1 ∧ u.lanes = s.lanes)
  ∧ (s.cal.busy = false → s.freeNums = [] → s.cal.refs = [] → s.calCause 3 = 0 → Runs (.probeLearn t) s fun u => u.cal.busy = false ∧ u.cal.result = 4
      ∧ u.f YK_EVT.STORE_FULL [] = 1 ∧ ∀ e, e < 36864 → u.lane e = { s.lane e with spAt := (u.lane e).spAt })
  ∧ (s.cal.busy = false → s.calCause 4 = 0 → Runs (.calElec t) s fun u => u.cal.busy = true ∧ u.cal.op = 4 ∧ u.cal.step = 0
      ∧ u.cal.busyAdc = ((List.range 144).filter fun c => decide (s.f CAL_SCOPE.FIRST_C [] ≤ c) && decide (c ≤ s.f CAL_SCOPE.LAST_C [])).map (8 * ·)
      ∧ (∀ e, (e / 256 < s.f CAL_SCOPE.FIRST_C [] ∨ s.f CAL_SCOPE.LAST_C [] < e / 256 ∨ 32 ≤ e % 256) → u.lane e = s.lane e)
      ∧ changesOnly [.regs, .lanes, .clusters, .clr, .cal, .cap] s u)
  ∧ (s.cal.busy = false → s.calCause 5 = 0 → Runs (.calOpt t) s fun u => u.cal.busy = true ∧ u.cal.op = 5 ∧ u.cal.step = 0
      ∧ u.cal.consts = s.cal.consts ∧ u.cal.mean = none
      ∧ (∀ e, e / 256 < 136 → u.lane e = s.lane e) ∧ changesOnly [.regs, .lanes, .clr, .cal, .cap] s u)
  ∧ (s.cal.busy = false → s.cal.last = some k → Runs (.restore t) s fun u => u.cal.consts = k.consts ∧ u.cal.stored = k.consts
      ∧ u.cal.last = none ∧ u.cal.result = 1 ∧ u.cal.busy = false
      ∧ (∀ p ∈ k.setpt, k.setpt.filter (fun q => q.1 == p.1) = [p] → u.reg .SETPT [p.1 / 2 / 256, p.1 / 2 % 256, p.1 % 2] = p.2
        ∧ sget 0 u.cal.storedSp p.1 = p.2) ∧ (∀ e, e < 36864 → (k.setpt.any fun p => p.1 / 2 == e) = false → u.lane e = s.lane e)
      ∧ otherRegs (k.setpt.map fun p => Reg.at .SETPT [p.1 / 2 / 256, p.1 / 2 % 256, p.1 % 2]) s u ∧ changesOnly [.regs, .lanes, .clr, .cal] s u)
  ∧ (s.cal.busy = true → Runs (.abort t) s fun u => u.cal.busy = false ∧ u.cal.result = 2 ∧ u.cal.cause = 7
      ∧ u.cal.consts = s.cal.undo.consts ∧ u.cal.stage = 0
      ∧ (∀ p ∈ s.cal.undo.setpt, s.cal.undo.setpt.filter (fun q => q.1 == p.1) = [p] → u.reg .SETPT [p.1 / 2 / 256, p.1 / 2 % 256, p.1 % 2] = p.2)
      ∧ (s.cal.refs = [] → s.cal.undo.setpt = [] → u.lanes = s.lanes))
  ∧ (s.cal.busy = false → Runs (.abort t) s fun u => changesOnly [.clr] s u)

/-- A trim pulse counts for the next element of its cluster and no other (the order of the elements: log entry 150). A dwell that
has lasted DWELL_US adds the elements lit in it (the level: log entry 149) and goes on to the next stage of the layer, from
the BAR learn to its dwell with the light off (log entry 149); before that it changes nothing. A step of ELEC moves on with
new constants of every channel of its ADC in scope, those measured with the gain scaled by CAL_VREF (R473) and free ones where
the command lists none (log entry 152), and leaves all others; a reference in use that is not settled fails the run with cause
5 and the constants from before (R473 gives the cause; that a failed run reverts as an aborted one is log entry 151). The
window of OPT, which comes before its ADC steps (log entry 235), ends the steps when fewer than 16 ports were found, with no
constant changed where none was measured, and otherwise takes the mean over them; each step of an ADC then scales the gain of
every range and reference of its channels in the clusters concerned by the mean (R474; log entry 153) and leaves all others.
At the end the result is 1, the constants are stored and the old ones kept for RESTORE, and CAL_LAST of the kind and CAL_DELTA
show the run. No lane changes where the clause says so. (Log entries 149 to 153 and 235 are choices of the model.) (R468,
R470, R471, R472, R473, R474, R476, R478.) -/
def Obligations.CalibrationSteps : Prop := ∀ (s : State) (t : Nat) (c : Fin 136) (x : Nat × Nat × Bool) (l : List CalMeas)
    (m : List PortMeas) (c0 h0 r0 : Nat) (hi : Bool) (d : Int) (n : Nat),
  (s.cal.busy = true → s.cal.stage = 6 → s.freeNums ≠ [] → s.cal.todo.find? (fun y => y.1 / 256 == c.val) = some x → Runs (.trimPulse c t) s fun u =>
      sget 0 u.cal.pulses x.1 = sget 0 s.cal.pulses x.1 + 1 ∧ (∀ e, e ≠ x.1 → sget 0 u.cal.pulses e = sget 0 s.cal.pulses e) ∧ u.lanes = s.lanes)
  ∧ (s.cal.busy = true → s.cal.fired = true → s.cal.fireAt + s.f CAL_PRB.DWELL_US [] * 1000 ≤ (s.passTo t).clr.now → s.freeNums ≠ [] →
    (s.cal.stage = 1 → Runs (.probeLayerDwell t) s fun u => u.cal.stage = 2 ∧ u.cal.fired = false
        ∧ u.cal.lit0 = (s.cal.lit0 ++ s.litIn false).eraseDups ∧ u.cal.lit1 = (s.cal.lit1 ++ s.litIn true).eraseDups ∧ u.lanes = s.lanes)
    ∧ (s.cal.stage = 2 → Runs (.probeLayerDwell t) s fun u => u.cal.stage = 3 ∧ u.cal.fired = false
        ∧ u.cal.lit0 = (s.cal.lit0 ++ s.litIn false).eraseDups ∧ u.cal.lit1 = (s.cal.lit1 ++ s.litIn true).eraseDups ∧ u.lanes = s.lanes)
    ∧ (s.cal.stage = 4 → Runs (.probeLayerDwell t) s fun u => u.cal.stage = 5 ∧ u.cal.lit0 = s.litIn false ++ s.litIn true
        ∧ u.lanes = s.lanes))
  ∧ ((s.passTo t).clr.now < s.cal.fireAt + s.f CAL_PRB.DWELL_US [] * 1000 → Runs (.probeLayerDwell t) s fun u => changesOnly [.clr] s u)
  ∧ (s.cal.busy = true → s.cal.again = [] → s.cal.step < 8 → s.cal.op = 4 →
    (s.cal.busyAdc.any fun y => !((s.cl (y / 8)).settled (y % 8))) = false → Runs (.calStepDone l m t) s fun u =>
      u.cal.step = s.cal.step + 1 ∧ u.cal.busy = true ∧ u.freeN = s.freeN + 1
      ∧ (c0 < 144 → h0 < 512 → r0 < 3 → (s.inScope c0 = true ∧ h0 / 64 = s.cal.step → sfind u.cal.consts (convKey c0 h0 hi r0) = some
          (match l.find? fun x => x.c.val == c0 && x.h.val == h0 && x.hi == hi && x.ref.val == r0 with
            | some x => ⟨x.off, (x.gain * s.f CAL_VREF.VREF [] + 625000) / 1250000⟩
            | none => ⟨Config.elecOff s.freeN (convKey c0 h0 hi r0), Config.elecGain s.freeN (convKey c0 h0 hi r0)⟩))
        ∧ (¬ (s.inScope c0 = true ∧ h0 / 64 = s.cal.step) → sfind u.cal.consts (convKey c0 h0 hi r0) = sfind s.cal.consts (convKey c0 h0 hi r0)))
      ∧ ((∀ y ∈ s.cal.refs, s.inScope (y.1 / 8) = true) → ∀ e, s.inScope (e / 256) = false → u.lane e = s.lane e))
  ∧ (s.cal.busy = true → s.cal.again = [] → s.cal.step < 8 → s.cal.op = 4 →
    (s.cal.busyAdc.any fun y => !((s.cl (y / 8)).settled (y % 8))) = true → Runs (.calStepDone l m t) s fun u =>
      u.cal.busy = false ∧ u.cal.result = 4 ∧ u.cal.cause = 5 ∧ u.cal.consts = s.cal.undo.consts
      ∧ (s.cal.undo.setpt = [] → (∀ y ∈ s.cal.refs, s.inScope (y.1 / 8) = true) → ∀ e, s.inScope (e / 256) = false → u.lane e = s.lane e))
  ∧ (s.cal.busy = true → s.cal.again = [] → s.cal.step < 8 → s.cal.op = 5 → s.cal.mean = none → (s.optFound m).length < 16 →
    Runs (.calStepDone l m t) s fun u => u.cal.step = 8 ∧ u.cal.busy = true ∧ u.cal.doneC = s.scopeCl.length ∧ u.cal.mean = none ∧ (m = [] → u.cal.consts = s.cal.consts) ∧ (s.cal.refs = [] → u.lanes = s.lanes))
  ∧ (s.cal.busy = true → s.cal.step = 8 → (s.cal.op = 4 ∨ s.cal.op = 5) → Runs (.calRunDone t) s fun u => u.cal.busy = false
      ∧ u.cal.result = 1 ∧ u.cal.cause = 0 ∧ u.cal.stored = s.cal.consts ∧ u.cal.last = some s.cal.undo ∧ u.cal.consts = s.cal.consts
      ∧ u.reg .CAL_LAST [if s.cal.op = 4 then 0 else 1] = wd ((s.passTo t).clr.now / secNs)
      ∧ u.reg .CAL_DELTA [] = wd (s.cal.deltaC * 2 ^ 16 + s.cal.delta)
      ∧ otherRegs [Reg.CAL_LAST.at [if s.cal.op = 4 then 0 else 1], Reg.CAL_DELTA.at []] s u ∧ changesOnly [.regs, .clr, .cal] s u)
  ∧ (s.cal.busy = true → s.cal.again = [] → s.cal.step < 8 → s.cal.op = 5 → s.cal.mean = none → 16 ≤ (s.optFound m).length →
    Runs (.calStepDone l m t) s fun u => u.cal.step = s.cal.step ∧ u.cal.busy = true
      ∧ u.cal.mean = some (((s.optFound m).map Prod.snd).foldl (· + ·) 0, (s.optFound m).length)
      ∧ u.cal.busyAdc = s.meanCl.map (fun c => 8 * c + s.cal.step)
      ∧ (s.cal.refs = [] → ∀ e, e < 36864 → (e / 256 ∉ s.meanCl ∨ e % 256 / 32 ≠ s.cal.step) → u.lane e = s.lane e))
  ∧ (s.cal.busy = true → s.cal.again = [] → s.cal.step < 8 → s.cal.op = 5 → s.cal.mean = some (d, n) → c0 < 144 → h0 < 512 → r0 < 3 →
    Runs (.calStepDone l m t) s fun u => u.cal.step = s.cal.step + 1 ∧ u.cal.busy = true ∧ u.cal.mean = some (d, n)
      ∧ (c0 ∈ s.meanCl ∧ h0 / 64 = s.cal.step → sfind u.cal.consts (convKey c0 h0 hi r0) = some { s.convConst c0 h0 hi r0 with
          gain := (2 * (s.convConst c0 h0 hi r0).gain * pow10Q d (256000 * n) + fix1) / (2 * fix1) })
      ∧ (¬ (c0 ∈ s.meanCl ∧ h0 / 64 = s.cal.step) → sfind u.cal.consts (convKey c0 h0 hi r0) = sfind s.cal.consts (convKey c0 h0 hi r0)))
end

