-- ==== Sys2Proof/Laws/Fabric.lean ====
section
/-! SUPPORT. What the claims of a device hold (R375). -/
namespace Sys2Proof.Machine

/-- A link in-port that has verified a word claims it. -/
theorem State.ownClaims_in {s : State} {p : Nat} {v : TagV} (hp : p < 512) (hl : s.isLinkPort p = true)
    (hv : sget TagV.off s.pth.tags p = v) (h0 : v.last ≠ 0) (h3 : v.status = 3) : (⟨false, p, v.last / 256⟩ : Claim) ∈ s.ownClaims := by
  subst hv
  exact List.mem_append_right _ (List.mem_filterMap.mpr ⟨p, List.mem_range.mpr hp, by simp [hl, h0, h3]⟩)

/-- A link out-port claims the word that the light of its in-port carries. -/
theorem State.ownClaims_out {s : State} {p a w : Nat} (hp : p < 512) (hl : s.isLinkPort p = true) (hf : s.feeds p = some a)
    (hc : s.carried a = some w) : (⟨true, p, w⟩ : Claim) ∈ s.ownClaims :=
  List.mem_append_left _ (List.mem_filterMap.mpr ⟨p, List.mem_range.mpr hp, by simp [hl, hf, hc]⟩)

end Sys2Proof.Machine
end

