-- ==== Sys2Proof/Laws/KeepsOps.lean ====
section
/-! SUPPORT. What each operation can change, one lemma each, the parts as a set of bits in the order of Part: the named operations, the lanes and the clusters. -/
namespace Sys2Proof.Machine
set_option Elab.async false

/-- From s to t the queue of commands is kept, host memory stays canonical, and every part outside the set m (bit n: the n-th
part) is kept. -/
structure Keeps (m : Nat) (s t : State) : Prop where
  pending : t.pending = s.pending
  wf : Memory.wf s.hostMem = true → Memory.wf t.hostMem = true
  frame : ∀ p : Part, m.testBit p.ctorIdx = false → p.same s t
theorem Part.same_refl (p : Part) (s : State) : p.same s s := by cases p <;> simp [Part.same]
theorem Part.same_trans {p : Part} {r s t : State} (h : p.same r s) (k : p.same s t) : p.same r t := by
  cases p <;> simp_all [Part.same]
variable {m n : Nat} {s₀ s t : State}
theorem Keeps.refl : Keeps m s s := ⟨rfl, id, fun p _ => p.same_refl s⟩
theorem Keeps.step (k : Keeps n s t) (h : Keeps m s₀ s) (e : n ||| m = m) : Keeps m s₀ t :=
  ⟨k.1.trans h.1, fun w => k.2 (h.2 w), fun p hp => Part.same_trans (h.3 p hp) (k.3 p (by
    rw [← e, Nat.testBit_or, Bool.or_eq_false_iff] at hp; exact hp.1))⟩
theorem Keeps.upd (h : Keeps m s₀ s) {sys regs plk lanes clusters col clr yk pth pair fab sgf hif cap flt pwr thm pwm cal prl freeN rdata}
    (h0 : (sys.mode = s.sys.mode ∧ sys.pref = s.sys.pref ∧ sys.devid = s.sys.devid ∧ sys.bootSrc = s.sys.bootSrc) ∨ m.testBit 0 = true := by first | exact Or.inr rfl | exact Or.inl rfl | exact Or.inl ⟨rfl, rfl, rfl, rfl⟩)
    (h1 : sys.rest = s.sys.rest ∨ m.testBit 1 = true := by first | exact Or.inr rfl | exact Or.inl rfl)
    (h2 : regs = s.regs ∨ m.testBit 2 = true := by first | exact Or.inr rfl | exact Or.inl rfl)
    (h3 : plk = s.plk ∨ m.testBit 3 = true := by first | exact Or.inr rfl | exact Or.inl rfl)
    (h4 : lanes = s.lanes ∨ m.testBit 4 = true := by first | exact Or.inr rfl | exact Or.inl rfl)
    (h5 : clusters = s.clusters ∨ m.testBit 5 = true := by first | exact Or.inr rfl | exact Or.inl rfl)
    (h6 : col = s.col ∨ m.testBit 6 = true := by first | exact Or.inr rfl | exact Or.inl rfl)
    (h7 : clr = s.clr ∨ m.testBit 7 = true := by first | exact Or.inr rfl | exact Or.inl rfl)
    (h8 : yk = s.yk ∨ m.testBit 8 = true := by first | exact Or.inr rfl | exact Or.inl rfl)
    (h9 : pth = s.pth ∨ m.testBit 9 = true := by first | exact Or.inr rfl | exact Or.inl rfl)
    (h10 : pair = s.pair ∨ m.testBit 10 = true := by first | exact Or.inr rfl | exact Or.inl rfl)
    (h11 : fab = s.fab ∨ m.testBit 11 = true := by first | exact Or.inr rfl | exact Or.inl rfl)
    (h12 : sgf = s.sgf ∨ m.testBit 12 = true := by first | exact Or.inr rfl | exact Or.inl rfl)
    (h13 : hif = s.hif ∨ m.testBit 13 = true := by first | exact Or.inr rfl | exact Or.inl rfl)
    (h14 : cap = s.cap ∨ m.testBit 14 = true := by first | exact Or.inr rfl | exact Or.inl rfl)
    (h15 : flt = s.flt ∨ m.testBit 15 = true := by first | exact Or.inr rfl | exact Or.inl rfl)
    (h16 : pwr = s.pwr ∨ m.testBit 16 = true := by first | exact Or.inr rfl | exact Or.inl rfl)
    (h17 : thm = s.thm ∨ m.testBit 17 = true := by first | exact Or.inr rfl | exact Or.inl rfl)
    (h18 : pwm = s.pwm ∨ m.testBit 18 = true := by first | exact Or.inr rfl | exact Or.inl rfl)
    (h19 : cal = s.cal ∨ m.testBit 19 = true := by first | exact Or.inr rfl | exact Or.inl rfl)
    (h20 : prl = s.prl ∨ m.testBit 20 = true := by first | exact Or.inr rfl | exact Or.inl rfl)
    (h21 : freeN = s.freeN ∨ m.testBit 21 = true := by first | exact Or.inr rfl | exact Or.inl rfl)
    (h22 : rdata = s.rdata ∨ m.testBit 22 = true := by first | exact Or.inr rfl | exact Or.inl rfl) :
    Keeps m s₀ (State.mk s.pending sys regs plk lanes clusters col clr yk pth pair fab sgf hif cap flt pwr thm pwm cal prl freeN rdata s.hostMem) := by
  refine ⟨h.1, h.2, fun p hp => Part.same_trans (h.3 p hp) ?_⟩
  cases p <;> simp_all [Part.same, Part.ctorIdx]
theorem Keeps.ite {c : Prop} {i : Decidable c} {x y : State} (hx : Keeps m s₀ x) (hy : Keeps m s₀ y) : Keeps m s₀ (ite c x y) := by
  split <;> assumption
theorem foldl_keeps {α β : Type} (P : β → Prop) {f : β → α → β} {l : List α} {x : β} (h : P x) (k : ∀ u a, P u → P (f u a)) : P (l.foldl f x) := by
  induction l generalizing x with
  | nil => exact h
  | cons a t ih => exact ih (k x a h)
theorem Keeps.foldl {α : Type} {f : State → α → State} {l : List α} (h : Keeps m s₀ s) (k : ∀ u x, Keeps m s₀ u → Keeps m s₀ (f u x)) : Keeps m s₀ (l.foldl f s) := foldl_keeps (Keeps m s₀) h k
theorem Keeps.foldl1 {α β : Type} {f : State × β → α → State × β} {l : List α} {x : State × β} (h : Keeps m s₀ x.1) (k : ∀ (u : State × β) a, Keeps m s₀ u.1 → Keeps m s₀ (f u a).1) : Keeps m s₀ (l.foldl f x).1 := foldl_keeps (fun u : State × β => Keeps m s₀ u.1) h k
theorem Keeps.foldl2 {α β : Type} {f : β × State → α → β × State} {l : List α} {x : β × State} (h : Keeps m s₀ x.2) (k : ∀ (u : β × State) a, Keeps m s₀ u.2 → Keeps m s₀ (f u a).2) : Keeps m s₀ (l.foldl f x).2 := foldl_keeps (fun u : β × State => Keeps m s₀ u.2) h k
theorem Keeps.foldl22 {α β γ : Type} {f : β × γ × State → α → β × γ × State} {l : List α} {x : β × γ × State} (h : Keeps m s₀ x.2.2) (k : ∀ (u : β × γ × State) a, Keeps m s₀ u.2.2 → Keeps m s₀ (f u a).2.2) : Keeps m s₀ (l.foldl f x).2.2 := foldl_keeps (fun u : β × γ × State => Keeps m s₀ u.2.2) h k
theorem Keeps.getD {o : Option State} (h : Keeps m s₀ s) (k : ∀ t, o = some t → Keeps m s₀ t) : Keeps m s₀ (o.getD s) := by
  cases o with
  | none => exact h
  | some t => exact k t rfl
theorem Keeps.forLanes {f : State → Nat → State} {c : Nat} (h : Keeps m s₀ s) (k : ∀ u x, Keeps m s₀ u → Keeps m s₀ (f u x)) : Keeps m s₀ (forLanes c f s) := Keeps.foldl h fun _ _ => k _ _
theorem mem_put_from {n a : Nat} {v : Byte} {m : List Host.Cell} (h : Memory.wfFrom n m = true) (ha : n ≤ a) : Memory.wfFrom n (Memory.put m a v) = true := by
  induction m generalizing n with
  | nil =>
    unfold Memory.put; split
    · rfl
    · simp_all [Memory.wfFrom]
  | cons c t ih =>
    obtain ⟨k, x⟩ := c
    simp only [Memory.wfFrom, Bool.and_eq_true, decide_eq_true_eq] at h
    obtain ⟨⟨h1, h2⟩, h3⟩ := h
    unfold Memory.put
    split
    · split
      · simp_all [Memory.wfFrom]
      · simp_all [Memory.wfFrom] <;> omega
    · split
      · split
        · subst_vars
          clear ih
          cases t with
          | nil => rfl
          | cons d u => simp_all [Memory.wfFrom] <;> omega
        · simp_all [Memory.wfFrom]
      · have := ih h3 (by omega)
        simp_all [Memory.wfFrom]
theorem mem_putL {m : List Host.Cell} (a : Nat) (l : List Byte) (h : Memory.wf m = true) : Memory.wf (Memory.putL m a l) = true := by
  induction l generalizing m a with
  | nil => exact h
  | cons x t ih => exact ih _ (mem_put_from h (Nat.zero_le _))
theorem hput_keeps (s : State) (a : Nat) (l : List Byte) : Keeps 0x800000 s (s.hput a l) :=
  ⟨rfl, fun k => mem_putL _ _ k, fun p hp => by cases p <;> first | rfl | exact absurd hp (by decide) | exact ⟨rfl, rfl, rfl, rfl⟩⟩

theorem setReg_keeps (s : State) (x1 : Reg) (x2 : List Nat) (x3 : Word) : Keeps 0x4 s (@State.setReg s x1 x2 x3) := by
  delta State.setReg; repeat' with_reducible first
    | extract_lets | assumption | exact Keeps.refl | apply Keeps.ite | refine Keeps.foldl ?_ fun _ _ _ => ?_
    | refine Keeps.foldl1 ?_ fun _ _ _ => ?_ | refine Keeps.foldl2 ?_ fun _ _ _ => ?_
    | refine Keeps.foldl22 ?_ fun _ _ _ => ?_ | apply Keeps.forLanes | apply Keeps.getD | split | (intro _ _ _)
    | (intro _ _) | fail_if_no_progress refine Keeps.upd ?_ | (dsimp +zetaDelta only; split)

theorem bump_keeps (s : State) (x1 : Reg) (x2 : List Nat) (x3 : Nat) : Keeps 0x4 s (@State.bump s x1 x2 x3) := by
  delta State.bump; repeat' with_reducible first
    | extract_lets | assumption | exact Keeps.refl | refine (setReg_keeps ..).step ?_ rfl | apply Keeps.ite
    | refine Keeps.foldl ?_ fun _ _ _ => ?_ | refine Keeps.foldl1 ?_ fun _ _ _ => ?_
    | refine Keeps.foldl2 ?_ fun _ _ _ => ?_ | refine Keeps.foldl22 ?_ fun _ _ _ => ?_ | apply Keeps.forLanes
    | apply Keeps.getD | split | (intro _ _ _) | (intro _ _) | fail_if_no_progress refine Keeps.upd ?_
    | (dsimp +zetaDelta only; split)

theorem cause_keeps (s : State) (x1 : Nat) : Keeps 0x8000 s (@State.cause s x1) := by
  delta State.cause; repeat' with_reducible first
    | extract_lets | assumption | exact Keeps.refl | apply Keeps.ite | refine Keeps.foldl ?_ fun _ _ _ => ?_
    | refine Keeps.foldl1 ?_ fun _ _ _ => ?_ | refine Keeps.foldl2 ?_ fun _ _ _ => ?_
    | refine Keeps.foldl22 ?_ fun _ _ _ => ?_ | apply Keeps.forLanes | apply Keeps.getD | split | (intro _ _ _)
    | (intro _ _) | fail_if_no_progress refine Keeps.upd ?_ | (dsimp +zetaDelta only; split)

theorem msi_keeps (s : State) (x1 : Nat) : Keeps 0x2004 s (@State.msi s x1) := by
  delta State.msi; repeat' with_reducible first
    | extract_lets | assumption | exact Keeps.refl | refine (setReg_keeps ..).step ?_ rfl | apply Keeps.ite
    | refine Keeps.foldl ?_ fun _ _ _ => ?_ | refine Keeps.foldl1 ?_ fun _ _ _ => ?_
    | refine Keeps.foldl2 ?_ fun _ _ _ => ?_ | refine Keeps.foldl22 ?_ fun _ _ _ => ?_ | apply Keeps.forLanes
    | apply Keeps.getD | split | (intro _ _ _) | (intro _ _) | fail_if_no_progress refine Keeps.upd ?_
    | (dsimp +zetaDelta only; split)

theorem setF_keeps (s : State) (x1 : Fld) (x2 : List Nat) (x3 : Nat) : Keeps 0x4 s (@State.setF s x1 x2 x3) := by
  delta State.setF; repeat' with_reducible first
    | extract_lets | assumption | exact Keeps.refl | refine (setReg_keeps ..).step ?_ rfl | apply Keeps.ite
    | refine Keeps.foldl ?_ fun _ _ _ => ?_ | refine Keeps.foldl1 ?_ fun _ _ _ => ?_
    | refine Keeps.foldl2 ?_ fun _ _ _ => ?_ | refine Keeps.foldl22 ?_ fun _ _ _ => ?_ | apply Keeps.forLanes
    | apply Keeps.getD | split | (intro _ _ _) | (intro _ _) | fail_if_no_progress refine Keeps.upd ?_
    | (dsimp +zetaDelta only; split)

theorem icEdge_keeps (s : State) (x1 : Nat) : Keeps 0x100004 s (@State.icEdge s x1) := by
  delta State.icEdge; repeat' with_reducible first
    | extract_lets | assumption | exact Keeps.refl | refine (setF_keeps ..).step ?_ rfl | apply Keeps.ite
    | refine Keeps.foldl ?_ fun _ _ _ => ?_ | refine Keeps.foldl1 ?_ fun _ _ _ => ?_
    | refine Keeps.foldl2 ?_ fun _ _ _ => ?_ | refine Keeps.foldl22 ?_ fun _ _ _ => ?_ | apply Keeps.forLanes
    | apply Keeps.getD | split | (intro _ _ _) | (intro _ _) | fail_if_no_progress refine Keeps.upd ?_
    | (dsimp +zetaDelta only; split)

theorem raise_keeps (s : State) (x1 : Fld) (x2 : List Nat) : Keeps 0x100004 s (@State.raise s x1 x2) := by
  delta State.raise; repeat' with_reducible first
    | extract_lets | assumption | exact Keeps.refl | refine (setF_keeps ..).step ?_ rfl
    | refine (icEdge_keeps ..).step ?_ rfl | apply Keeps.ite | refine Keeps.foldl ?_ fun _ _ _ => ?_
    | refine Keeps.foldl1 ?_ fun _ _ _ => ?_ | refine Keeps.foldl2 ?_ fun _ _ _ => ?_
    | refine Keeps.foldl22 ?_ fun _ _ _ => ?_ | apply Keeps.forLanes | apply Keeps.getD | split | (intro _ _ _)
    | (intro _ _) | fail_if_no_progress refine Keeps.upd ?_ | (dsimp +zetaDelta only; split)

theorem hifErr_keeps (s : State) (x1 : Fld) (x2 : Option Nat) : Keeps 0x102004 s (@State.hifErr s x1 x2) := by
  delta State.hifErr; repeat' with_reducible first
    | extract_lets | assumption | exact Keeps.refl | refine (setReg_keeps ..).step ?_ rfl
    | refine (msi_keeps ..).step ?_ rfl | refine (raise_keeps ..).step ?_ rfl | apply Keeps.ite
    | refine Keeps.foldl ?_ fun _ _ _ => ?_ | refine Keeps.foldl1 ?_ fun _ _ _ => ?_
    | refine Keeps.foldl2 ?_ fun _ _ _ => ?_ | refine Keeps.foldl22 ?_ fun _ _ _ => ?_ | apply Keeps.forLanes
    | apply Keeps.getD | split | (intro _ _ _) | (intro _ _) | fail_if_no_progress refine Keeps.upd ?_
    | (dsimp +zetaDelta only; split)

theorem logPut_keeps (s : State) (x1 : Nat) (x2 : Nat) (x3 : Nat) (x4 : List Word) : Keeps 0x100000 s (@State.logPut
    s x1 x2 x3 x4) := by
  delta State.logPut; repeat' with_reducible first
    | extract_lets | assumption | exact Keeps.refl | apply Keeps.ite | refine Keeps.foldl ?_ fun _ _ _ => ?_
    | refine Keeps.foldl1 ?_ fun _ _ _ => ?_ | refine Keeps.foldl2 ?_ fun _ _ _ => ?_
    | refine Keeps.foldl22 ?_ fun _ _ _ => ?_ | apply Keeps.forLanes | apply Keeps.getD | split | (intro _ _ _)
    | (intro _ _) | fail_if_no_progress refine Keeps.upd ?_ | (dsimp +zetaDelta only; split)

theorem logEvent_keeps (s : State) (x1 : Nat) (x2 : Nat) (x3 : List Word) : Keeps 0x100000 s (@State.logEvent s x1 x2
    x3) := by
  delta State.logEvent; repeat' with_reducible first
    | extract_lets | assumption | exact Keeps.refl | refine (logPut_keeps ..).step ?_ rfl | apply Keeps.ite
    | refine Keeps.foldl ?_ fun _ _ _ => ?_ | refine Keeps.foldl1 ?_ fun _ _ _ => ?_
    | refine Keeps.foldl2 ?_ fun _ _ _ => ?_ | refine Keeps.foldl22 ?_ fun _ _ _ => ?_ | apply Keeps.forLanes
    | apply Keeps.getD | split | (intro _ _ _) | (intro _ _) | fail_if_no_progress refine Keeps.upd ?_
    | (dsimp +zetaDelta only; split)

theorem setCap_keeps (s : State) (x1 : Nat) (x2 : CapRing) : Keeps 0x4000 s (@State.setCap s x1 x2) := by
  delta State.setCap; repeat' with_reducible first
    | extract_lets | assumption | exact Keeps.refl | apply Keeps.ite | refine Keeps.foldl ?_ fun _ _ _ => ?_
    | refine Keeps.foldl1 ?_ fun _ _ _ => ?_ | refine Keeps.foldl2 ?_ fun _ _ _ => ?_
    | refine Keeps.foldl22 ?_ fun _ _ _ => ?_ | apply Keeps.forLanes | apply Keeps.getD | split | (intro _ _ _)
    | (intro _ _) | fail_if_no_progress refine Keeps.upd ?_ | (dsimp +zetaDelta only; split)

theorem offerTo_keeps (s : State) (x1 : CapRec) (x2 : Nat) : Keeps 0x4004 s (@State.offerTo s x1 x2) := by
  delta State.offerTo; repeat' with_reducible first
    | extract_lets | assumption | exact Keeps.refl | refine (setCap_keeps ..).step ?_ rfl
    | refine (bump_keeps ..).step ?_ rfl | apply Keeps.ite | refine Keeps.foldl ?_ fun _ _ _ => ?_
    | refine Keeps.foldl1 ?_ fun _ _ _ => ?_ | refine Keeps.foldl2 ?_ fun _ _ _ => ?_
    | refine Keeps.foldl22 ?_ fun _ _ _ => ?_ | apply Keeps.forLanes | apply Keeps.getD | split | (intro _ _ _)
    | (intro _ _) | fail_if_no_progress refine Keeps.upd ?_ | (dsimp +zetaDelta only; split)

theorem offer_keeps (s : State) (x1 : Nat) (x2 : Nat) (x3 : Nat) (x4 : Word) (x5 : List Word) : Keeps 0x4004 s
    (@State.offer s x1 x2 x3 x4 x5) := by
  delta State.offer; repeat' with_reducible first
    | extract_lets | assumption | exact Keeps.refl | refine (offerTo_keeps ..).step ?_ rfl | apply Keeps.ite
    | refine Keeps.foldl ?_ fun _ _ _ => ?_ | refine Keeps.foldl1 ?_ fun _ _ _ => ?_
    | refine Keeps.foldl2 ?_ fun _ _ _ => ?_ | refine Keeps.foldl22 ?_ fun _ _ _ => ?_ | apply Keeps.forLanes
    | apply Keeps.getD | split | (intro _ _ _) | (intro _ _) | fail_if_no_progress refine Keeps.upd ?_
    | (dsimp +zetaDelta only; split)

theorem passTo_keeps (s : State) (x1 : Nat) : Keeps 0x80 s (@State.passTo s x1) := by
  delta State.passTo; repeat' with_reducible first
    | extract_lets | assumption | exact Keeps.refl | apply Keeps.ite | refine Keeps.foldl ?_ fun _ _ _ => ?_
    | refine Keeps.foldl1 ?_ fun _ _ _ => ?_ | refine Keeps.foldl2 ?_ fun _ _ _ => ?_
    | refine Keeps.foldl22 ?_ fun _ _ _ => ?_ | apply Keeps.forLanes | apply Keeps.getD | split | (intro _ _ _)
    | (intro _ _) | fail_if_no_progress refine Keeps.upd ?_ | (dsimp +zetaDelta only; split)

theorem postRaw_keeps (s : State) (x1 : Nat) (x2 : Nat) (x3 : Nat) (x4 : List Word) : Keeps 0x2000 s (@State.postRaw
    s x1 x2 x3 x4) := by
  delta State.postRaw; repeat' with_reducible first
    | extract_lets | assumption | exact Keeps.refl | apply Keeps.ite | refine Keeps.foldl ?_ fun _ _ _ => ?_
    | refine Keeps.foldl1 ?_ fun _ _ _ => ?_ | refine Keeps.foldl2 ?_ fun _ _ _ => ?_
    | refine Keeps.foldl22 ?_ fun _ _ _ => ?_ | apply Keeps.forLanes | apply Keeps.getD | split | (intro _ _ _)
    | (intro _ _) | fail_if_no_progress refine Keeps.upd ?_ | (dsimp +zetaDelta only; split)

theorem post_keeps (s : State) (x1 : Nat) (x2 : Nat) (x3 : Nat) (x4 : List Word) : Keeps 0x102000 s (@State.post s x1
    x2 x3 x4) := by
  delta State.post; repeat' with_reducible first
    | extract_lets | assumption | exact Keeps.refl | refine (postRaw_keeps ..).step ?_ rfl
    | refine (logEvent_keeps ..).step ?_ rfl | apply Keeps.ite | refine Keeps.foldl ?_ fun _ _ _ => ?_
    | refine Keeps.foldl1 ?_ fun _ _ _ => ?_ | refine Keeps.foldl2 ?_ fun _ _ _ => ?_
    | refine Keeps.foldl22 ?_ fun _ _ _ => ?_ | apply Keeps.forLanes | apply Keeps.getD | split | (intro _ _ _)
    | (intro _ _) | fail_if_no_progress refine Keeps.upd ?_ | (dsimp +zetaDelta only; split)

theorem ringError_keeps (s : State) (x1 : Nat) : Keeps 0x102000 s (@State.ringError s x1) := by
  delta State.ringError; repeat' with_reducible first
    | extract_lets | assumption | exact Keeps.refl | refine (post_keeps ..).step ?_ rfl | apply Keeps.ite
    | refine Keeps.foldl ?_ fun _ _ _ => ?_ | refine Keeps.foldl1 ?_ fun _ _ _ => ?_
    | refine Keeps.foldl2 ?_ fun _ _ _ => ?_ | refine Keeps.foldl22 ?_ fun _ _ _ => ?_ | apply Keeps.forLanes
    | apply Keeps.getD | split | (intro _ _ _) | (intro _ _) | fail_if_no_progress refine Keeps.upd ?_
    | (dsimp +zetaDelta only; split)

theorem setCl_keeps (s : State) (x1 : Nat) (x2 : Cluster) : Keeps 0x20 s (@State.setCl s x1 x2) := by
  delta State.setCl; repeat' with_reducible first
    | extract_lets | assumption | exact Keeps.refl | apply Keeps.ite | refine Keeps.foldl ?_ fun _ _ _ => ?_
    | refine Keeps.foldl1 ?_ fun _ _ _ => ?_ | refine Keeps.foldl2 ?_ fun _ _ _ => ?_
    | refine Keeps.foldl22 ?_ fun _ _ _ => ?_ | apply Keeps.forLanes | apply Keeps.getD | split | (intro _ _ _)
    | (intro _ _) | fail_if_no_progress refine Keeps.upd ?_ | (dsimp +zetaDelta only; split)

theorem setLane_keeps (s : State) (x1 : Nat) (x2 : Lane) : Keeps 0x10 s (@State.setLane s x1 x2) := by
  delta State.setLane; repeat' with_reducible first
    | extract_lets | assumption | exact Keeps.refl | apply Keeps.ite | refine Keeps.foldl ?_ fun _ _ _ => ?_
    | refine Keeps.foldl1 ?_ fun _ _ _ => ?_ | refine Keeps.foldl2 ?_ fun _ _ _ => ?_
    | refine Keeps.foldl22 ?_ fun _ _ _ => ?_ | apply Keeps.forLanes | apply Keeps.getD | split | (intro _ _ _)
    | (intro _ _) | fail_if_no_progress refine Keeps.upd ?_ | (dsimp +zetaDelta only; split)

theorem takeFree_keeps (s : State) (p) (hp : @State.takeFree s = p) : Keeps 0x200000 s p.2 := by
  delta State.takeFree at hp; subst hp
  repeat' with_reducible first
    | extract_lets | assumption | exact Keeps.refl | apply Keeps.ite | refine Keeps.foldl ?_ fun _ _ _ => ?_
    | refine Keeps.foldl1 ?_ fun _ _ _ => ?_ | refine Keeps.foldl2 ?_ fun _ _ _ => ?_
    | refine Keeps.foldl22 ?_ fun _ _ _ => ?_ | apply Keeps.forLanes | apply Keeps.getD | split | (intro _ _ _)
    | (intro _ _) | fail_if_no_progress refine Keeps.upd ?_ | (dsimp +zetaDelta only; split)

theorem wrCodes_keeps (s : State) (x1 : Reg) (x2 : List Nat) (x3 : Word) : Keeps 0x4 s (@State.wrCodes s x1 x2 x3) := by
  delta State.wrCodes; repeat' with_reducible first
    | extract_lets | assumption | exact Keeps.refl | refine (setReg_keeps ..).step ?_ rfl | apply Keeps.ite
    | refine Keeps.foldl ?_ fun _ _ _ => ?_ | refine Keeps.foldl1 ?_ fun _ _ _ => ?_
    | refine Keeps.foldl2 ?_ fun _ _ _ => ?_ | refine Keeps.foldl22 ?_ fun _ _ _ => ?_ | apply Keeps.forLanes
    | apply Keeps.getD | split | (intro _ _ _) | (intro _ _) | fail_if_no_progress refine Keeps.upd ?_
    | (dsimp +zetaDelta only; split)

theorem setSp_keeps (s : State) (x1 : Nat) (x2 : Bool) (x3 : Int) : Keeps 0x4 s (@State.setSp s x1 x2 x3) := by
  delta State.setSp; repeat' with_reducible first
    | extract_lets | assumption | exact Keeps.refl | refine (setF_keeps ..).step ?_ rfl | apply Keeps.ite
    | refine Keeps.foldl ?_ fun _ _ _ => ?_ | refine Keeps.foldl1 ?_ fun _ _ _ => ?_
    | refine Keeps.foldl2 ?_ fun _ _ _ => ?_ | refine Keeps.foldl22 ?_ fun _ _ _ => ?_ | apply Keeps.forLanes
    | apply Keeps.getD | split | (intro _ _ _) | (intro _ _) | fail_if_no_progress refine Keeps.upd ?_
    | (dsimp +zetaDelta only; split)

theorem setSgf_keeps (s : State) (x1 : Sgf) : Keeps 0x1000 s (@State.setSgf s x1) := by
  delta State.setSgf; repeat' with_reducible first
    | extract_lets | assumption | exact Keeps.refl | apply Keeps.ite | refine Keeps.foldl ?_ fun _ _ _ => ?_
    | refine Keeps.foldl1 ?_ fun _ _ _ => ?_ | refine Keeps.foldl2 ?_ fun _ _ _ => ?_
    | refine Keeps.foldl22 ?_ fun _ _ _ => ?_ | apply Keeps.forLanes | apply Keeps.getD | split | (intro _ _ _)
    | (intro _ _) | fail_if_no_progress refine Keeps.upd ?_ | (dsimp +zetaDelta only; split)

theorem polCommit_keeps (s : State) (x1 : Nat) : Keeps 0x101004 s (@State.polCommit s x1) := by
  delta State.polCommit; repeat' with_reducible first
    | extract_lets | assumption | exact Keeps.refl | refine (raise_keeps ..).step ?_ rfl
    | refine (setSgf_keeps ..).step ?_ rfl | apply Keeps.ite | refine Keeps.foldl ?_ fun _ _ _ => ?_
    | refine Keeps.foldl1 ?_ fun _ _ _ => ?_ | refine Keeps.foldl2 ?_ fun _ _ _ => ?_
    | refine Keeps.foldl22 ?_ fun _ _ _ => ?_ | apply Keeps.forLanes | apply Keeps.getD | split | (intro _ _ _)
    | (intro _ _) | fail_if_no_progress refine Keeps.upd ?_ | (dsimp +zetaDelta only; split)

theorem polPay_keeps (s : State) (x1 : Nat) (x2 : Bool) (x3 : Bool) (x4 : Int) : Keeps 0x1000 s (@State.polPay s x1
    x2 x3 x4) := by
  delta State.polPay; repeat' with_reducible first
    | extract_lets | assumption | exact Keeps.refl | refine (setSgf_keeps ..).step ?_ rfl | apply Keeps.ite
    | refine Keeps.foldl ?_ fun _ _ _ => ?_ | refine Keeps.foldl1 ?_ fun _ _ _ => ?_
    | refine Keeps.foldl2 ?_ fun _ _ _ => ?_ | refine Keeps.foldl22 ?_ fun _ _ _ => ?_ | apply Keeps.forLanes
    | apply Keeps.getD | split | (intro _ _ _) | (intro _ _) | fail_if_no_progress refine Keeps.upd ?_
    | (dsimp +zetaDelta only; split)

theorem polRest_keeps (s : State) (x1 : Option (Nat × Bool × Bool)) (x2 : Nat) : Keeps 0x1000 s (@State.polRest s x1
    x2) := by
  delta State.polRest; repeat' with_reducible first
    | extract_lets | assumption | exact Keeps.refl | refine (polPay_keeps ..).step ?_ rfl | apply Keeps.ite
    | refine Keeps.foldl ?_ fun _ _ _ => ?_ | refine Keeps.foldl1 ?_ fun _ _ _ => ?_
    | refine Keeps.foldl2 ?_ fun _ _ _ => ?_ | refine Keeps.foldl22 ?_ fun _ _ _ => ?_ | apply Keeps.forLanes
    | apply Keeps.getD | split | (intro _ _ _) | (intro _ _) | fail_if_no_progress refine Keeps.upd ?_
    | (dsimp +zetaDelta only; split)

theorem police_keeps (s : State) (x1 : Nat) (x2 : Nat) (x3 : Nat) (x4 : Option (Nat × Bool)) (x5 : Nat) : Keeps
    0x1004 s (@State.police s x1 x2 x3 x4 x5).st := by
  delta State.police; repeat' with_reducible first
    | extract_lets | assumption | exact Keeps.refl | refine (bump_keeps ..).step ?_ rfl
    | refine (polPay_keeps ..).step ?_ rfl | apply Keeps.ite | refine Keeps.foldl ?_ fun _ _ _ => ?_
    | refine Keeps.foldl1 ?_ fun _ _ _ => ?_ | refine Keeps.foldl2 ?_ fun _ _ _ => ?_
    | refine Keeps.foldl22 ?_ fun _ _ _ => ?_ | apply Keeps.forLanes | apply Keeps.getD | split | (intro _ _ _)
    | (intro _ _) | fail_if_no_progress refine Keeps.upd ?_ | (dsimp +zetaDelta only; split)

theorem shpCharge_keeps (s : State) (x1 : Nat) (x2 : Nat) (x3 : Nat) : Keeps 0x1000 s (@State.shpCharge s x1 x2 x3)
    := by
  delta State.shpCharge; repeat' with_reducible first
    | extract_lets | assumption | exact Keeps.refl | refine (setSgf_keeps ..).step ?_ rfl | apply Keeps.ite
    | refine Keeps.foldl ?_ fun _ _ _ => ?_ | refine Keeps.foldl1 ?_ fun _ _ _ => ?_
    | refine Keeps.foldl2 ?_ fun _ _ _ => ?_ | refine Keeps.foldl22 ?_ fun _ _ _ => ?_ | apply Keeps.forLanes
    | apply Keeps.getD | split | (intro _ _ _) | (intro _ _) | fail_if_no_progress refine Keeps.upd ?_
    | (dsimp +zetaDelta only; split)

theorem shpCommit_keeps (s : State) (x1 : Nat) : Keeps 0x101004 s (@State.shpCommit s x1) := by
  delta State.shpCommit; repeat' with_reducible first
    | extract_lets | assumption | exact Keeps.refl | refine (raise_keeps ..).step ?_ rfl
    | refine (setSgf_keeps ..).step ?_ rfl | apply Keeps.ite | refine Keeps.foldl ?_ fun _ _ _ => ?_
    | refine Keeps.foldl1 ?_ fun _ _ _ => ?_ | refine Keeps.foldl2 ?_ fun _ _ _ => ?_
    | refine Keeps.foldl22 ?_ fun _ _ _ => ?_ | apply Keeps.forLanes | apply Keeps.getD | split | (intro _ _ _)
    | (intro _ _) | fail_if_no_progress refine Keeps.upd ?_ | (dsimp +zetaDelta only; split)

theorem doPolCfg_keeps (x0 : Nat) (x1 : Word) (s : State) : Keeps 0x1004 s (@doPolCfg x0 x1 s) := by
  delta doPolCfg; repeat' with_reducible first
    | extract_lets | assumption | exact Keeps.refl | refine (wrCodes_keeps ..).step ?_ rfl
    | refine (setSgf_keeps ..).step ?_ rfl | apply Keeps.ite | refine Keeps.foldl ?_ fun _ _ _ => ?_
    | refine Keeps.foldl1 ?_ fun _ _ _ => ?_ | refine Keeps.foldl2 ?_ fun _ _ _ => ?_
    | refine Keeps.foldl22 ?_ fun _ _ _ => ?_ | apply Keeps.forLanes | apply Keeps.getD | split | (intro _ _ _)
    | (intro _ _) | fail_if_no_progress refine Keeps.upd ?_ | (dsimp +zetaDelta only; split)

theorem doQueueSample_keeps (x0 : Nat) (s : State) : Keeps 0x1080 s (@doQueueSample x0 s) := by
  delta doQueueSample; repeat' with_reducible first
    | extract_lets | assumption | exact Keeps.refl | refine (passTo_keeps ..).step ?_ rfl
    | refine (setSgf_keeps ..).step ?_ rfl | apply Keeps.ite | refine Keeps.foldl ?_ fun _ _ _ => ?_
    | refine Keeps.foldl1 ?_ fun _ _ _ => ?_ | refine Keeps.foldl2 ?_ fun _ _ _ => ?_
    | refine Keeps.foldl22 ?_ fun _ _ _ => ?_ | apply Keeps.forLanes | apply Keeps.getD | split | (intro _ _ _)
    | (intro _ _) | fail_if_no_progress refine Keeps.upd ?_ | (dsimp +zetaDelta only; split)

theorem doShpCfg_keeps (x0 : Nat) (x1 : Word) (s : State) : Keeps 0x1004 s (@doShpCfg x0 x1 s) := by
  delta doShpCfg; repeat' with_reducible first
    | extract_lets | assumption | exact Keeps.refl | refine (wrCodes_keeps ..).step ?_ rfl
    | refine (setSgf_keeps ..).step ?_ rfl | apply Keeps.ite | refine Keeps.foldl ?_ fun _ _ _ => ?_
    | refine Keeps.foldl1 ?_ fun _ _ _ => ?_ | refine Keeps.foldl2 ?_ fun _ _ _ => ?_
    | refine Keeps.foldl22 ?_ fun _ _ _ => ?_ | apply Keeps.forLanes | apply Keeps.getD | split | (intro _ _ _)
    | (intro _ _) | fail_if_no_progress refine Keeps.upd ?_ | (dsimp +zetaDelta only; split)

theorem doTokenRefill_keeps (x0 : Nat) (s : State) : Keeps 0x101084 s (@doTokenRefill x0 s) := by
  delta doTokenRefill; repeat' with_reducible first
    | extract_lets | assumption | exact Keeps.refl | refine (passTo_keeps ..).step ?_ rfl
    | refine (shpCommit_keeps ..).step ?_ rfl | refine (polCommit_keeps ..).step ?_ rfl
    | refine (setSgf_keeps ..).step ?_ rfl | apply Keeps.ite | refine Keeps.foldl ?_ fun _ _ _ => ?_
    | refine Keeps.foldl1 ?_ fun _ _ _ => ?_ | refine Keeps.foldl2 ?_ fun _ _ _ => ?_
    | refine Keeps.foldl22 ?_ fun _ _ _ => ?_ | apply Keeps.forLanes | apply Keeps.getD | split | (intro _ _ _)
    | (intro _ _) | fail_if_no_progress refine Keeps.upd ?_ | (dsimp +zetaDelta only; split)

theorem reap_keeps (s : State) : Keeps 0x3000 s (@State.reap s) := by
  delta State.reap; repeat' with_reducible first
    | extract_lets | assumption | exact Keeps.refl | refine (polRest_keeps ..).step ?_ rfl | apply Keeps.ite
    | refine Keeps.foldl ?_ fun _ _ _ => ?_ | refine Keeps.foldl1 ?_ fun _ _ _ => ?_
    | refine Keeps.foldl2 ?_ fun _ _ _ => ?_ | refine Keeps.foldl22 ?_ fun _ _ _ => ?_ | apply Keeps.forLanes
    | apply Keeps.getD | split | (intro _ _ _) | (intro _ _) | fail_if_no_progress refine Keeps.upd ?_
    | (dsimp +zetaDelta only; split)

theorem dropCpy_keeps (s : State) (x1 : Cpy → Bool) : Keeps 0x1000 s (@State.dropCpy s x1) := by
  delta State.dropCpy; repeat' with_reducible first
    | extract_lets | assumption | exact Keeps.refl | refine (setSgf_keeps ..).step ?_ rfl | apply Keeps.ite
    | refine Keeps.foldl ?_ fun _ _ _ => ?_ | refine Keeps.foldl1 ?_ fun _ _ _ => ?_
    | refine Keeps.foldl2 ?_ fun _ _ _ => ?_ | refine Keeps.foldl22 ?_ fun _ _ _ => ?_ | apply Keeps.forLanes
    | apply Keeps.getD | split | (intro _ _ _) | (intro _ _) | fail_if_no_progress refine Keeps.upd ?_
    | (dsimp +zetaDelta only; split)

theorem modFrm_keeps (s : State) (x1 : Nat) (x2 : Frm → Frm) : Keeps 0x1000 s (@State.modFrm s x1 x2) := by
  delta State.modFrm; repeat' with_reducible first
    | extract_lets | assumption | exact Keeps.refl | refine (setSgf_keeps ..).step ?_ rfl | apply Keeps.ite
    | refine Keeps.foldl ?_ fun _ _ _ => ?_ | refine Keeps.foldl1 ?_ fun _ _ _ => ?_
    | refine Keeps.foldl2 ?_ fun _ _ _ => ?_ | refine Keeps.foldl22 ?_ fun _ _ _ => ?_ | apply Keeps.forLanes
    | apply Keeps.getD | split | (intro _ _ _) | (intro _ _) | fail_if_no_progress refine Keeps.upd ?_
    | (dsimp +zetaDelta only; split)

theorem failFrm_keeps (s : State) (x1 : Nat) (x2 : List Byte) : Keeps 0x3000 s (@State.failFrm s x1 x2) := by
  delta State.failFrm; repeat' with_reducible first
    | extract_lets | assumption | exact Keeps.refl | refine (reap_keeps ..).step ?_ rfl
    | refine (dropCpy_keeps ..).step ?_ rfl | refine (modFrm_keeps ..).step ?_ rfl | apply Keeps.ite
    | refine Keeps.foldl ?_ fun _ _ _ => ?_ | refine Keeps.foldl1 ?_ fun _ _ _ => ?_
    | refine Keeps.foldl2 ?_ fun _ _ _ => ?_ | refine Keeps.foldl22 ?_ fun _ _ _ => ?_ | apply Keeps.forLanes
    | apply Keeps.getD | split | (intro _ _ _) | (intro _ _) | fail_if_no_progress refine Keeps.upd ?_
    | (dsimp +zetaDelta only; split)

theorem dropRx_keeps (s : State) (x1 : Nat) (x2 : List Byte) : Keeps 0x3000 s (@State.dropRx s x1 x2) := by
  delta State.dropRx; repeat' with_reducible first
    | extract_lets | assumption | exact Keeps.refl | refine (setSgf_keeps ..).step ?_ rfl
    | refine (failFrm_keeps ..).step ?_ rfl | refine (polRest_keeps ..).step ?_ rfl | apply Keeps.ite
    | refine Keeps.foldl ?_ fun _ _ _ => ?_ | refine Keeps.foldl1 ?_ fun _ _ _ => ?_
    | refine Keeps.foldl2 ?_ fun _ _ _ => ?_ | refine Keeps.foldl22 ?_ fun _ _ _ => ?_ | apply Keeps.forLanes
    | apply Keeps.getD | split | (intro _ _ _) | (intro _ _) | fail_if_no_progress refine Keeps.upd ?_
    | (dsimp +zetaDelta only; split)

theorem spCount_keeps (s : State) (x1 : Nat) (x2 : Nat) : Keeps 0x4 s (@State.spCount s x1 x2) := by
  delta State.spCount; repeat' with_reducible first
    | extract_lets | assumption | exact Keeps.refl | refine (bump_keeps ..).step ?_ rfl | apply Keeps.ite
    | refine Keeps.foldl ?_ fun _ _ _ => ?_ | refine Keeps.foldl1 ?_ fun _ _ _ => ?_
    | refine Keeps.foldl2 ?_ fun _ _ _ => ?_ | refine Keeps.foldl22 ?_ fun _ _ _ => ?_ | apply Keeps.forLanes
    | apply Keeps.getD | split | (intro _ _ _) | (intro _ _) | fail_if_no_progress refine Keeps.upd ?_
    | (dsimp +zetaDelta only; split)

theorem cutRx_keeps (s : State) (x1 : Nat) (x2 : List Byte) : Keeps 0x3004 s (@State.cutRx s x1 x2) := by
  delta State.cutRx; repeat' with_reducible first
    | extract_lets | assumption | exact Keeps.refl | refine (dropRx_keeps ..).step ?_ rfl
    | refine (spCount_keeps ..).step ?_ rfl | apply Keeps.ite | refine Keeps.foldl ?_ fun _ _ _ => ?_
    | refine Keeps.foldl1 ?_ fun _ _ _ => ?_ | refine Keeps.foldl2 ?_ fun _ _ _ => ?_
    | refine Keeps.foldl22 ?_ fun _ _ _ => ?_ | apply Keeps.forLanes | apply Keeps.getD | split | (intro _ _ _)
    | (intro _ _) | fail_if_no_progress refine Keeps.upd ?_ | (dsimp +zetaDelta only; split)

theorem setSpPort_keeps (s : State) (x1 : Nat) (x2 : SpPort) : Keeps 0x1000 s (@State.setSpPort s x1 x2) := by
  delta State.setSpPort; repeat' with_reducible first
    | extract_lets | assumption | exact Keeps.refl | refine (setSgf_keeps ..).step ?_ rfl | apply Keeps.ite
    | refine Keeps.foldl ?_ fun _ _ _ => ?_ | refine Keeps.foldl1 ?_ fun _ _ _ => ?_
    | refine Keeps.foldl2 ?_ fun _ _ _ => ?_ | refine Keeps.foldl22 ?_ fun _ _ _ => ?_ | apply Keeps.forLanes
    | apply Keeps.getD | split | (intro _ _ _) | (intro _ _) | fail_if_no_progress refine Keeps.upd ?_
    | (dsimp +zetaDelta only; split)

theorem endTx_keeps (s : State) (x1 : Nat) (x2 : Nat) : Keeps 0x1000 s (@State.endTx s x1 x2) := by
  delta State.endTx; repeat' with_reducible first
    | extract_lets | assumption | exact Keeps.refl | refine (setSpPort_keeps ..).step ?_ rfl
    | refine (shpCharge_keeps ..).step ?_ rfl | apply Keeps.ite | refine Keeps.foldl ?_ fun _ _ _ => ?_
    | refine Keeps.foldl1 ?_ fun _ _ _ => ?_ | refine Keeps.foldl2 ?_ fun _ _ _ => ?_
    | refine Keeps.foldl22 ?_ fun _ _ _ => ?_ | apply Keeps.forLanes | apply Keeps.getD | split | (intro _ _ _)
    | (intro _ _) | fail_if_no_progress refine Keeps.upd ?_ | (dsimp +zetaDelta only; split)

theorem cutTx_keeps (s : State) (x1 : Nat) (x2 : Nat) : Keeps 0x3004 s (@State.cutTx s x1 x2) := by
  delta State.cutTx; repeat' with_reducible first
    | extract_lets | assumption | exact Keeps.refl | refine (reap_keeps ..).step ?_ rfl
    | refine (dropCpy_keeps ..).step ?_ rfl | refine (spCount_keeps ..).step ?_ rfl
    | refine (endTx_keeps ..).step ?_ rfl | apply Keeps.ite | refine Keeps.foldl ?_ fun _ _ _ => ?_
    | refine Keeps.foldl1 ?_ fun _ _ _ => ?_ | refine Keeps.foldl2 ?_ fun _ _ _ => ?_
    | refine Keeps.foldl22 ?_ fun _ _ _ => ?_ | apply Keeps.forLanes | apply Keeps.getD | split | (intro _ _ _)
    | (intro _ _) | fail_if_no_progress refine Keeps.upd ?_ | (dsimp +zetaDelta only; split)

theorem dropLook_keeps (s : State) (x1 : Nat) (x2 : Look) : Keeps 0x4 s (@State.dropLook s x1 x2) := by
  delta State.dropLook; repeat' with_reducible first
    | extract_lets | assumption | exact Keeps.refl | refine (spCount_keeps ..).step ?_ rfl | apply Keeps.ite
    | refine Keeps.foldl ?_ fun _ _ _ => ?_ | refine Keeps.foldl1 ?_ fun _ _ _ => ?_
    | refine Keeps.foldl2 ?_ fun _ _ _ => ?_ | refine Keeps.foldl22 ?_ fun _ _ _ => ?_ | apply Keeps.forLanes
    | apply Keeps.getD | split | (intro _ _ _) | (intro _ _) | fail_if_no_progress refine Keeps.upd ?_
    | (dsimp +zetaDelta only; split)

theorem letIn_keeps (x0 : Frm) (x1 : Bool) (x2 : Bool) (s : State) (x4 : Nat) : Keeps 0x1004 s (@State.letIn x0 x1 x2
    s x4) := by
  delta State.letIn; repeat' with_reducible first
    | extract_lets | assumption | exact Keeps.refl | refine (setSgf_keeps ..).step ?_ rfl
    | refine (spCount_keeps ..).step ?_ rfl | apply Keeps.ite | refine Keeps.foldl ?_ fun _ _ _ => ?_
    | refine Keeps.foldl1 ?_ fun _ _ _ => ?_ | refine Keeps.foldl2 ?_ fun _ _ _ => ?_
    | refine Keeps.foldl22 ?_ fun _ _ _ => ?_ | apply Keeps.forLanes | apply Keeps.getD | split | (intro _ _ _)
    | (intro _ _) | fail_if_no_progress refine Keeps.upd ?_ | (dsimp +zetaDelta only; split)

theorem enqueue_keeps (s : State) (x1 : Frm) (x2 : Bool) (x3 : List Nat) : Keeps 0x1004 s (@State.enqueue s x1 x2 x3)
    := by
  delta State.enqueue; repeat' with_reducible first
    | extract_lets | assumption | exact Keeps.refl | refine (setSgf_keeps ..).step ?_ rfl
    | refine (letIn_keeps ..).step ?_ rfl | apply Keeps.ite | refine Keeps.foldl ?_ fun _ _ _ => ?_
    | refine Keeps.foldl1 ?_ fun _ _ _ => ?_ | refine Keeps.foldl2 ?_ fun _ _ _ => ?_
    | refine Keeps.foldl22 ?_ fun _ _ _ => ?_ | apply Keeps.forLanes | apply Keeps.getD | split | (intro _ _ _)
    | (intro _ _) | fail_if_no_progress refine Keeps.upd ?_ | (dsimp +zetaDelta only; split)

theorem flush_keeps (s : State) (x1 : Cpy → Bool) : Keeps 0x3004 s (@State.flush s x1) := by
  delta State.flush; repeat' with_reducible first
    | extract_lets | assumption | exact Keeps.refl | refine (modFrm_keeps ..).step ?_ rfl
    | refine (spCount_keeps ..).step ?_ rfl | refine (reap_keeps ..).step ?_ rfl
    | refine (dropCpy_keeps ..).step ?_ rfl | apply Keeps.ite | refine Keeps.foldl ?_ fun _ _ _ => ?_
    | refine Keeps.foldl1 ?_ fun _ _ _ => ?_ | refine Keeps.foldl2 ?_ fun _ _ _ => ?_
    | refine Keeps.foldl22 ?_ fun _ _ _ => ?_ | apply Keeps.forLanes | apply Keeps.getD | split | (intro _ _ _)
    | (intro _ _) | fail_if_no_progress refine Keeps.upd ?_ | (dsimp +zetaDelta only; split)

theorem flushOut_keeps (s : State) (x1 : Nat) : Keeps 0x103004 s (@State.flushOut s x1) := by
  delta State.flushOut; repeat' with_reducible first
    | extract_lets | assumption | exact Keeps.refl | refine (flush_keeps ..).step ?_ rfl
    | refine (raise_keeps ..).step ?_ rfl | apply Keeps.ite | refine Keeps.foldl ?_ fun _ _ _ => ?_
    | refine Keeps.foldl1 ?_ fun _ _ _ => ?_ | refine Keeps.foldl2 ?_ fun _ _ _ => ?_
    | refine Keeps.foldl22 ?_ fun _ _ _ => ?_ | apply Keeps.forLanes | apply Keeps.getD | split | (intro _ _ _)
    | (intro _ _) | fail_if_no_progress refine Keeps.upd ?_ | (dsimp +zetaDelta only; split)

theorem fwdResult_keeps (s : State) (x1 : FwdDone) : Keeps 0x1000 s (@State.fwdResult s x1) := by
  delta State.fwdResult; repeat' with_reducible first
    | extract_lets | assumption | exact Keeps.refl | refine (setSgf_keeps ..).step ?_ rfl | apply Keeps.ite
    | refine Keeps.foldl ?_ fun _ _ _ => ?_ | refine Keeps.foldl1 ?_ fun _ _ _ => ?_
    | refine Keeps.foldl2 ?_ fun _ _ _ => ?_ | refine Keeps.foldl22 ?_ fun _ _ _ => ?_ | apply Keeps.forLanes
    | apply Keeps.getD | split | (intro _ _ _) | (intro _ _) | fail_if_no_progress refine Keeps.upd ?_
    | (dsimp +zetaDelta only; split)

theorem fwdStart_keeps {m : Nat} {s₀ s : State} (h : Keeps m s₀ s) (hm : 0x100004 ||| m = m) (v : Word) {f : State → State}
    (k : ∀ u, Keeps m s₀ u → Keeps m s₀ (f u)) :
    Keeps m s₀ (s.fwdStart v f) := by
  delta State.fwdStart
  exact Keeps.ite (((raise_keeps s _ _).step (m := 0x100004) Keeps.refl rfl).step h hm)
    (k _ (((wrCodes_keeps s _ _ _).step (m := 0x100004) Keeps.refl rfl).step h hm))

theorem hostDrop_keeps (s : State) (x1 : Option (Nat × Nat)) (x2 : Option Nat) : Keeps 0x2000 s (@State.hostDrop s x1
    x2) := by
  delta State.hostDrop; repeat' with_reducible first
    | extract_lets | assumption | exact Keeps.refl | apply Keeps.ite | refine Keeps.foldl ?_ fun _ _ _ => ?_
    | refine Keeps.foldl1 ?_ fun _ _ _ => ?_ | refine Keeps.foldl2 ?_ fun _ _ _ => ?_
    | refine Keeps.foldl22 ?_ fun _ _ _ => ?_ | apply Keeps.forLanes | apply Keeps.getD | split | (intro _ _ _)
    | (intro _ _) | fail_if_no_progress refine Keeps.upd ?_ | (dsimp +zetaDelta only; split)

theorem ingress_keeps (s : State) (x1 : Nat) (x2 : Nat) (x3 : List Byte) (x4 : Bool) (x5 : Bool) (x6 : Bool) (x7 :
    Option (Nat × Nat)) (x8 : Word) : Keeps 0x1004 s (@State.ingress s x1 x2 x3 x4 x5 x6 x7 x8).st := by
  delta State.ingress; repeat' with_reducible first
    | extract_lets | assumption | exact Keeps.refl | refine (spCount_keeps ..).step ?_ rfl
    | refine (dropLook_keeps ..).step ?_ rfl | refine (police_keeps ..).step ?_ rfl
    | refine (enqueue_keeps ..).step ?_ rfl | apply Keeps.ite | refine Keeps.foldl ?_ fun _ _ _ => ?_
    | refine Keeps.foldl1 ?_ fun _ _ _ => ?_ | refine Keeps.foldl2 ?_ fun _ _ _ => ?_
    | refine Keeps.foldl22 ?_ fun _ _ _ => ?_ | apply Keeps.forLanes | apply Keeps.getD | split | (intro _ _ _)
    | (intro _ _) | fail_if_no_progress refine Keeps.upd ?_ | (dsimp +zetaDelta only; split)

theorem negotiate_keeps (s : State) (x1 : Nat) (x2 : SpPort) (x3 : SpSt) : Keeps 0x1000 s (@State.negotiate s x1 x2
    x3) := by
  delta State.negotiate; repeat' with_reducible first
    | extract_lets | assumption | exact Keeps.refl | refine (setSpPort_keeps ..).step ?_ rfl | apply Keeps.ite
    | refine Keeps.foldl ?_ fun _ _ _ => ?_ | refine Keeps.foldl1 ?_ fun _ _ _ => ?_
    | refine Keeps.foldl2 ?_ fun _ _ _ => ?_ | refine Keeps.foldl22 ?_ fun _ _ _ => ?_ | apply Keeps.forLanes
    | apply Keeps.getD | split | (intro _ _ _) | (intro _ _) | fail_if_no_progress refine Keeps.upd ?_
    | (dsimp +zetaDelta only; split)

theorem leaveUp_keeps (s : State) (x1 : Nat) (x2 : Nat) (x3 : List Byte) : Keeps 0x103004 s (@State.leaveUp s x1 x2
    x3) := by
  delta State.leaveUp; repeat' with_reducible first
    | extract_lets | assumption | exact Keeps.refl | refine (raise_keeps ..).step ?_ rfl
    | refine (cutRx_keeps ..).step ?_ rfl | refine (cutTx_keeps ..).step ?_ rfl
    | refine (flushOut_keeps ..).step ?_ rfl | refine (negotiate_keeps ..).step ?_ rfl | apply Keeps.ite
    | refine Keeps.foldl ?_ fun _ _ _ => ?_ | refine Keeps.foldl1 ?_ fun _ _ _ => ?_
    | refine Keeps.foldl2 ?_ fun _ _ _ => ?_ | refine Keeps.foldl22 ?_ fun _ _ _ => ?_ | apply Keeps.forLanes
    | apply Keeps.getD | split | (intro _ _ _) | (intro _ _) | fail_if_no_progress refine Keeps.upd ?_
    | (dsimp +zetaDelta only; split)

theorem modCpy_keeps (s : State) (x1 : Nat) (x2 : Nat) (x3 : Cpy → Cpy) : Keeps 0x1000 s (@State.modCpy s x1 x2 x3)
    := by
  delta State.modCpy; repeat' with_reducible first
    | extract_lets | assumption | exact Keeps.refl | refine (setSgf_keeps ..).step ?_ rfl | apply Keeps.ite
    | refine Keeps.foldl ?_ fun _ _ _ => ?_ | refine Keeps.foldl1 ?_ fun _ _ _ => ?_
    | refine Keeps.foldl2 ?_ fun _ _ _ => ?_ | refine Keeps.foldl22 ?_ fun _ _ _ => ?_ | apply Keeps.forLanes
    | apply Keeps.getD | split | (intro _ _ _) | (intro _ _) | fail_if_no_progress refine Keeps.upd ?_
    | (dsimp +zetaDelta only; split)

theorem moveCell_keeps (x0 : List (Fin 65)) (s : State) (x2 : XPair) : Keeps 0x103004 s (@State.moveCell x0 s x2) := by
  delta State.moveCell; repeat' with_reducible first
    | extract_lets | assumption | exact Keeps.refl | refine (modCpy_keeps ..).step ?_ rfl
    | refine (raise_keeps ..).step ?_ rfl | refine (spCount_keeps ..).step ?_ rfl | refine (reap_keeps ..).step ?_ rfl
    | refine (dropCpy_keeps ..).step ?_ rfl | refine (setSgf_keeps ..).step ?_ rfl | apply Keeps.ite
    | refine Keeps.foldl ?_ fun _ _ _ => ?_ | refine Keeps.foldl1 ?_ fun _ _ _ => ?_
    | refine Keeps.foldl2 ?_ fun _ _ _ => ?_ | refine Keeps.foldl22 ?_ fun _ _ _ => ?_ | apply Keeps.forLanes
    | apply Keeps.getD | split | (intro _ _ _) | (intro _ _) | fail_if_no_progress refine Keeps.upd ?_
    | (dsimp +zetaDelta only; split)

theorem noWay_keeps (s : State) (p) (hp : s.noWay = p) : Keeps 0x200000 s p.2 := by
  subst hp
  exact (takeFree_keeps s _ rfl).step Keeps.refl rfl

theorem ownEnter_keeps (s : State) (x1 : List Byte) (x2 : List Nat) (x3 : Bool) : Keeps 0x3004 s (@State.ownEnter s
    x1 x2 x3) := by
  delta State.ownEnter; repeat' with_reducible first
    | extract_lets | assumption | exact Keeps.refl | refine (spCount_keeps ..).step ?_ rfl
    | refine (dropLook_keeps ..).step ?_ rfl | refine (reap_keeps ..).step ?_ rfl
    | refine (enqueue_keeps ..).step ?_ rfl | apply Keeps.ite | refine Keeps.foldl ?_ fun _ _ _ => ?_
    | refine Keeps.foldl1 ?_ fun _ _ _ => ?_ | refine Keeps.foldl2 ?_ fun _ _ _ => ?_
    | refine Keeps.foldl22 ?_ fun _ _ _ => ?_ | apply Keeps.forLanes | apply Keeps.getD | split | (intro _ _ _)
    | (intro _ _) | fail_if_no_progress refine Keeps.upd ?_ | (dsimp +zetaDelta only; split)

theorem ownIngress_keeps (s : State) : Keeps 0x3904 s (@State.ownIngress s) := by
  delta State.ownIngress; repeat' with_reducible first
    | extract_lets | assumption | exact Keeps.refl | refine (ownEnter_keeps ..).step ?_ rfl | apply Keeps.ite
    | refine Keeps.foldl ?_ fun _ _ _ => ?_ | refine Keeps.foldl1 ?_ fun _ _ _ => ?_
    | refine Keeps.foldl2 ?_ fun _ _ _ => ?_ | refine Keeps.foldl22 ?_ fun _ _ _ => ?_ | apply Keeps.forLanes
    | apply Keeps.getD | split | (intro _ _ _) | (intro _ _) | fail_if_no_progress refine Keeps.upd ?_
    | (dsimp +zetaDelta only; split)

theorem restNow_keeps (s : State) (x1 : Nat) (p) (hp : @State.restNow s x1 = p) : Keeps 0x200000 s p.2 := by
  delta State.restNow at hp; subst hp
  repeat' with_reducible first
    | extract_lets | assumption | exact Keeps.refl | refine (takeFree_keeps _ _ rfl).step ?_ rfl
    | refine (takeFree_keeps _ (_, _) (by assumption)).step ?_ rfl | apply Keeps.ite
    | refine Keeps.foldl ?_ fun _ _ _ => ?_ | refine Keeps.foldl1 ?_ fun _ _ _ => ?_
    | refine Keeps.foldl2 ?_ fun _ _ _ => ?_ | refine Keeps.foldl22 ?_ fun _ _ _ => ?_ | apply Keeps.forLanes
    | apply Keeps.getD | split | (intro _ _ _) | (intro _ _) | fail_if_no_progress refine Keeps.upd ?_
    | (dsimp +zetaDelta only; split)

theorem restartPort_keeps (s : State) (x1 : Nat) : Keeps 0x303004 s (@State.restartPort s x1) := by
  delta State.restartPort; repeat' with_reducible first
    | extract_lets | assumption | exact Keeps.refl | refine (restNow_keeps _ _ _ rfl).step ?_ rfl
    | refine (restNow_keeps _ _ (_, _) (by assumption)).step ?_ rfl | refine (leaveUp_keeps ..).step ?_ rfl
    | apply Keeps.ite | refine Keeps.foldl ?_ fun _ _ _ => ?_ | refine Keeps.foldl1 ?_ fun _ _ _ => ?_
    | refine Keeps.foldl2 ?_ fun _ _ _ => ?_ | refine Keeps.foldl22 ?_ fun _ _ _ => ?_ | apply Keeps.forLanes
    | apply Keeps.getD | split | (intro _ _ _) | (intro _ _) | fail_if_no_progress refine Keeps.upd ?_
    | (dsimp +zetaDelta only; split)

theorem rxFirst_keeps (s : State) (x1 : Nat) (x2 : List Byte) (x3 : Bool) (x4 : Word) : Keeps 0x3004 s
    (@State.rxFirst s x1 x2 x3 x4) := by
  delta State.rxFirst; repeat' with_reducible first
    | extract_lets | assumption | exact Keeps.refl | refine (setSgf_keeps ..).step ?_ rfl
    | refine (spCount_keeps ..).step ?_ rfl | refine (ingress_keeps ..).step ?_ rfl
    | refine (reap_keeps ..).step ?_ rfl | apply Keeps.ite | refine Keeps.foldl ?_ fun _ _ _ => ?_
    | refine Keeps.foldl1 ?_ fun _ _ _ => ?_ | refine Keeps.foldl2 ?_ fun _ _ _ => ?_
    | refine Keeps.foldl22 ?_ fun _ _ _ => ?_ | apply Keeps.forLanes | apply Keeps.getD | split | (intro _ _ _)
    | (intro _ _) | fail_if_no_progress refine Keeps.upd ?_ | (dsimp +zetaDelta only; split)

theorem rxLast_keeps (s : State) (x1 : Nat) (x2 : List Byte) (x3 : Bool) : Keeps 0x103004 s (@State.rxLast s x1 x2
    x3) := by
  delta State.rxLast; repeat' with_reducible first
    | extract_lets | assumption | exact Keeps.refl | refine (setSgf_keeps ..).step ?_ rfl
    | refine (polRest_keeps ..).step ?_ rfl | refine (failFrm_keeps ..).step ?_ rfl
    | refine (spCount_keeps ..).step ?_ rfl | refine (modFrm_keeps ..).step ?_ rfl
    | refine (icEdge_keeps ..).step ?_ rfl | apply Keeps.ite | refine Keeps.foldl ?_ fun _ _ _ => ?_
    | refine Keeps.foldl1 ?_ fun _ _ _ => ?_ | refine Keeps.foldl2 ?_ fun _ _ _ => ?_
    | refine Keeps.foldl22 ?_ fun _ _ _ => ?_ | apply Keeps.forLanes | apply Keeps.getD | split | (intro _ _ _)
    | (intro _ _) | fail_if_no_progress refine Keeps.upd ?_ | (dsimp +zetaDelta only; split)

theorem sgfOff_keeps (s : State) : Keeps 0x1000 s (@State.sgfOff s) := by
  delta State.sgfOff; repeat' with_reducible first
    | extract_lets | assumption | exact Keeps.refl | refine (setSgf_keeps ..).step ?_ rfl | apply Keeps.ite
    | refine Keeps.foldl ?_ fun _ _ _ => ?_ | refine Keeps.foldl1 ?_ fun _ _ _ => ?_
    | refine Keeps.foldl2 ?_ fun _ _ _ => ?_ | refine Keeps.foldl22 ?_ fun _ _ _ => ?_ | apply Keeps.forLanes
    | apply Keeps.getD | split | (intro _ _ _) | (intro _ _) | fail_if_no_progress refine Keeps.upd ?_
    | (dsimp +zetaDelta only; split)

theorem sgfPrune_keeps (s : State) : Keeps 0x1000 s (@State.sgfPrune s) := by
  delta State.sgfPrune; repeat' with_reducible first
    | extract_lets | assumption | exact Keeps.refl | refine (setSgf_keeps ..).step ?_ rfl | apply Keeps.ite
    | refine Keeps.foldl ?_ fun _ _ _ => ?_ | refine Keeps.foldl1 ?_ fun _ _ _ => ?_
    | refine Keeps.foldl2 ?_ fun _ _ _ => ?_ | refine Keeps.foldl22 ?_ fun _ _ _ => ?_ | apply Keeps.forLanes
    | apply Keeps.getD | split | (intro _ _ _) | (intro _ _) | fail_if_no_progress refine Keeps.upd ?_
    | (dsimp +zetaDelta only; split)

theorem sgfSafe_keeps (s : State) : Keeps 0x103004 s (@State.sgfSafe s) := by
  delta State.sgfSafe; repeat' with_reducible first
    | extract_lets | assumption | exact Keeps.refl | refine (endTx_keeps ..).step ?_ rfl
    | refine (spCount_keeps ..).step ?_ rfl | refine (setSgf_keeps ..).step ?_ rfl
    | refine (flushOut_keeps ..).step ?_ rfl | apply Keeps.ite | refine Keeps.foldl ?_ fun _ _ _ => ?_
    | refine Keeps.foldl1 ?_ fun _ _ _ => ?_ | refine Keeps.foldl2 ?_ fun _ _ _ => ?_
    | refine Keeps.foldl22 ?_ fun _ _ _ => ?_ | apply Keeps.forLanes | apply Keeps.getD | split | (intro _ _ _)
    | (intro _ _) | fail_if_no_progress refine Keeps.upd ?_ | (dsimp +zetaDelta only; split)

theorem sgfThrottle_keeps (s : State) (x1 : Bool) : Keeps 0x303004 s (@State.sgfThrottle s x1) := by
  delta State.sgfThrottle; repeat' with_reducible first
    | extract_lets | assumption | exact Keeps.refl | refine (restartPort_keeps ..).step ?_ rfl
    | refine (setSpPort_keeps ..).step ?_ rfl | apply Keeps.ite | refine Keeps.foldl ?_ fun _ _ _ => ?_
    | refine Keeps.foldl1 ?_ fun _ _ _ => ?_ | refine Keeps.foldl2 ?_ fun _ _ _ => ?_
    | refine Keeps.foldl22 ?_ fun _ _ _ => ?_ | apply Keeps.forLanes | apply Keeps.getD | split | (intro _ _ _)
    | (intro _ _) | fail_if_no_progress refine Keeps.upd ?_ | (dsimp +zetaDelta only; split)

theorem spCfg_keeps (s : State) (x1 : Nat) (x2 : Word) : Keeps 0x4 s (@State.spCfg s x1 x2) := by
  delta State.spCfg; repeat' with_reducible first
    | extract_lets | assumption | exact Keeps.refl | refine (setReg_keeps ..).step ?_ rfl
    | refine (wrCodes_keeps ..).step ?_ rfl | apply Keeps.ite | refine Keeps.foldl ?_ fun _ _ _ => ?_
    | refine Keeps.foldl1 ?_ fun _ _ _ => ?_ | refine Keeps.foldl2 ?_ fun _ _ _ => ?_
    | refine Keeps.foldl22 ?_ fun _ _ _ => ?_ | apply Keeps.forLanes | apply Keeps.getD | split | (intro _ _ _)
    | (intro _ _) | fail_if_no_progress refine Keeps.upd ?_ | (dsimp +zetaDelta only; split)

theorem doAnTimeout_keeps (x0 : Nat) (s : State) : Keeps 0x101004 s (@doAnTimeout x0 s) := by
  delta doAnTimeout; repeat' with_reducible first
    | extract_lets | assumption | exact Keeps.refl | refine (negotiate_keeps ..).step ?_ rfl
    | refine (raise_keeps ..).step ?_ rfl | apply Keeps.ite | refine Keeps.foldl ?_ fun _ _ _ => ?_
    | refine Keeps.foldl1 ?_ fun _ _ _ => ?_ | refine Keeps.foldl2 ?_ fun _ _ _ => ?_
    | refine Keeps.foldl22 ?_ fun _ _ _ => ?_ | apply Keeps.forLanes | apply Keeps.getD | split | (intro _ _ _)
    | (intro _ _) | fail_if_no_progress refine Keeps.upd ?_ | (dsimp +zetaDelta only; split)

theorem doCrossbarSlot_keeps (x0 : List (Fin 65)) (x1 : Nat) (s : State) : Keeps 0x103084 s (@doCrossbarSlot x0 x1 s)
    := by
  delta doCrossbarSlot; repeat' with_reducible first
    | extract_lets | assumption | exact Keeps.refl | refine (passTo_keeps ..).step ?_ rfl
    | refine (setSgf_keeps ..).step ?_ rfl | refine (moveCell_keeps ..).step ?_ rfl
    | refine (modCpy_keeps ..).step ?_ rfl | apply Keeps.ite | refine Keeps.foldl ?_ fun _ _ _ => ?_
    | refine Keeps.foldl1 ?_ fun _ _ _ => ?_ | refine Keeps.foldl2 ?_ fun _ _ _ => ?_
    | refine Keeps.foldl22 ?_ fun _ _ _ => ?_ | apply Keeps.forLanes | apply Keeps.getD | split | (intro _ _ _)
    | (intro _ _) | fail_if_no_progress refine Keeps.upd ?_ | (dsimp +zetaDelta only; split)

theorem doEgressSelect_keeps (x0 : Nat) (x1 : Nat) (s : State) : Keeps 0x1080 s (@doEgressSelect x0 x1 s) := by
  delta doEgressSelect; repeat' with_reducible first
    | extract_lets | assumption | exact Keeps.refl | refine (passTo_keeps ..).step ?_ rfl
    | refine (modCpy_keeps ..).step ?_ rfl | refine (setSpPort_keeps ..).step ?_ rfl | apply Keeps.ite
    | refine Keeps.foldl ?_ fun _ _ _ => ?_ | refine Keeps.foldl1 ?_ fun _ _ _ => ?_
    | refine Keeps.foldl2 ?_ fun _ _ _ => ?_ | refine Keeps.foldl22 ?_ fun _ _ _ => ?_ | apply Keeps.forLanes
    | apply Keeps.getD | split | (intro _ _ _) | (intro _ _) | fail_if_no_progress refine Keeps.upd ?_
    | (dsimp +zetaDelta only; split)

theorem doFrameComplete_keeps (x0 : Nat) (x1 : List Byte) (x2 : Bool) (x3 : Nat) (s : State) : Keeps 0x103084 s
    (@doFrameComplete x0 x1 x2 x3 s) := by
  delta doFrameComplete; repeat' with_reducible first
    | extract_lets | assumption | exact Keeps.refl | refine (rxLast_keeps ..).step ?_ rfl
    | refine (passTo_keeps ..).step ?_ rfl | apply Keeps.ite | refine Keeps.foldl ?_ fun _ _ _ => ?_
    | refine Keeps.foldl1 ?_ fun _ _ _ => ?_ | refine Keeps.foldl2 ?_ fun _ _ _ => ?_
    | refine Keeps.foldl22 ?_ fun _ _ _ => ?_ | apply Keeps.forLanes | apply Keeps.getD | split | (intro _ _ _)
    | (intro _ _) | fail_if_no_progress refine Keeps.upd ?_ | (dsimp +zetaDelta only; split)

theorem doFrameIngress_keeps (x0 : Nat) (x1 : List Byte) (x2 : Bool) (x3 : Word) (x4 : Nat) (s : State) : Keeps
    0x3984 s (@doFrameIngress x0 x1 x2 x3 x4 s) := by
  delta doFrameIngress; repeat' with_reducible first
    | extract_lets | assumption | exact Keeps.refl | refine (passTo_keeps ..).step ?_ rfl
    | refine (ownIngress_keeps ..).step ?_ rfl | refine (rxFirst_keeps ..).step ?_ rfl | apply Keeps.ite
    | refine Keeps.foldl ?_ fun _ _ _ => ?_ | refine Keeps.foldl1 ?_ fun _ _ _ => ?_
    | refine Keeps.foldl2 ?_ fun _ _ _ => ?_ | refine Keeps.foldl22 ?_ fun _ _ _ => ?_ | apply Keeps.forLanes
    | apply Keeps.getD | split | (intro _ _ _) | (intro _ _) | fail_if_no_progress refine Keeps.upd ?_
    | (dsimp +zetaDelta only; split)

theorem doFwdCommandDone_keeps (s : State) : Keeps 0x1004 s (@doFwdCommandDone s) := by
  delta doFwdCommandDone; repeat' with_reducible first
    | extract_lets | assumption | exact Keeps.refl | refine (setF_keeps ..).step ?_ rfl
    | refine (setSgf_keeps ..).step ?_ rfl | refine (setReg_keeps ..).step ?_ rfl | apply Keeps.ite
    | refine Keeps.foldl ?_ fun _ _ _ => ?_ | refine Keeps.foldl1 ?_ fun _ _ _ => ?_
    | refine Keeps.foldl2 ?_ fun _ _ _ => ?_ | refine Keeps.foldl22 ?_ fun _ _ _ => ?_ | apply Keeps.forLanes
    | apply Keeps.getD | split | (intro _ _ _) | (intro _ _) | fail_if_no_progress refine Keeps.upd ?_
    | (dsimp +zetaDelta only; split)

theorem doHoldoffExpiry_keeps (x0 : Nat) (x1 : Nat) (s : State) : Keeps 0x103084 s (@doHoldoffExpiry x0 x1 s) := by
  delta doHoldoffExpiry; repeat' with_reducible first
    | extract_lets | assumption | exact Keeps.refl | refine (passTo_keeps ..).step ?_ rfl
    | refine (raise_keeps ..).step ?_ rfl | refine (flushOut_keeps ..).step ?_ rfl
    | refine (setSpPort_keeps ..).step ?_ rfl | apply Keeps.ite | refine Keeps.foldl ?_ fun _ _ _ => ?_
    | refine Keeps.foldl1 ?_ fun _ _ _ => ?_ | refine Keeps.foldl2 ?_ fun _ _ _ => ?_
    | refine Keeps.foldl22 ?_ fun _ _ _ => ?_ | apply Keeps.forLanes | apply Keeps.getD | split | (intro _ _ _)
    | (intro _ _) | fail_if_no_progress refine Keeps.upd ?_ | (dsimp +zetaDelta only; split)

theorem doLinkLoss_keeps (x0 : Nat) (x1 : Nat) (x2 : List Byte) (x3 : Nat) (s : State) : Keeps 0x103084 s
    (@doLinkLoss x0 x1 x2 x3 s) := by
  delta doLinkLoss; repeat' with_reducible first
    | extract_lets | assumption | exact Keeps.refl | refine (passTo_keeps ..).step ?_ rfl
    | refine (leaveUp_keeps ..).step ?_ rfl | apply Keeps.ite | refine Keeps.foldl ?_ fun _ _ _ => ?_
    | refine Keeps.foldl1 ?_ fun _ _ _ => ?_ | refine Keeps.foldl2 ?_ fun _ _ _ => ?_
    | refine Keeps.foldl22 ?_ fun _ _ _ => ?_ | apply Keeps.forLanes | apply Keeps.getD | split | (intro _ _ _)
    | (intro _ _) | fail_if_no_progress refine Keeps.upd ?_ | (dsimp +zetaDelta only; split)

theorem doLinkUp_keeps (x0 : Nat) (x1 : Nat) (x2 : Nat) (s : State) : Keeps 0x101004 s (@doLinkUp x0 x1 x2 s) := by
  delta doLinkUp; repeat' with_reducible first
    | extract_lets | assumption | exact Keeps.refl | refine (raise_keeps ..).step ?_ rfl
    | refine (setSpPort_keeps ..).step ?_ rfl | apply Keeps.ite | refine Keeps.foldl ?_ fun _ _ _ => ?_
    | refine Keeps.foldl1 ?_ fun _ _ _ => ?_ | refine Keeps.foldl2 ?_ fun _ _ _ => ?_
    | refine Keeps.foldl22 ?_ fun _ _ _ => ?_ | apply Keeps.forLanes | apply Keeps.getD | split | (intro _ _ _)
    | (intro _ _) | fail_if_no_progress refine Keeps.upd ?_ | (dsimp +zetaDelta only; split)

theorem doPortStopDone_keeps (x0 : Nat) (s : State) : Keeps 0x1000 s (@doPortStopDone x0 s) := by
  delta doPortStopDone; repeat' with_reducible first
    | extract_lets | assumption | exact Keeps.refl | refine (negotiate_keeps ..).step ?_ rfl
    | refine (setSpPort_keeps ..).step ?_ rfl | apply Keeps.ite | refine Keeps.foldl ?_ fun _ _ _ => ?_
    | refine Keeps.foldl1 ?_ fun _ _ _ => ?_ | refine Keeps.foldl2 ?_ fun _ _ _ => ?_
    | refine Keeps.foldl22 ?_ fun _ _ _ => ?_ | apply Keeps.forLanes | apply Keeps.getD | split | (intro _ _ _)
    | (intro _ _) | fail_if_no_progress refine Keeps.upd ?_ | (dsimp +zetaDelta only; split)

theorem doSpCfg_keeps (x0 : Nat) (x1 : Word) (s : State) : Keeps 0x303004 s (@doSpCfg x0 x1 s) := by
  delta doSpCfg; repeat' with_reducible first
    | extract_lets | assumption | exact Keeps.refl | refine (spCfg_keeps ..).step ?_ rfl
    | refine (negotiate_keeps ..).step ?_ rfl | refine (setSpPort_keeps ..).step ?_ rfl
    | refine (restNow_keeps _ _ _ rfl).step ?_ rfl | refine (restNow_keeps _ _ (_, _) (by assumption)).step ?_ rfl
    | refine (dropRx_keeps ..).step ?_ rfl | refine (raise_keeps ..).step ?_ rfl
    | refine (flushOut_keeps ..).step ?_ rfl | apply Keeps.ite | refine Keeps.foldl ?_ fun _ _ _ => ?_
    | refine Keeps.foldl1 ?_ fun _ _ _ => ?_ | refine Keeps.foldl2 ?_ fun _ _ _ => ?_
    | refine Keeps.foldl22 ?_ fun _ _ _ => ?_ | apply Keeps.forLanes | apply Keeps.getD | split | (intro _ _ _)
    | (intro _ _) | fail_if_no_progress refine Keeps.upd ?_ | (dsimp +zetaDelta only; split)

theorem doTransmitEnd_keeps (x0 : Nat) (x1 : Nat) (s : State) : Keeps 0x3084 s (@doTransmitEnd x0 x1 s) := by
  delta doTransmitEnd; repeat' with_reducible first
    | extract_lets | assumption | exact Keeps.refl | refine (passTo_keeps ..).step ?_ rfl
    | refine (shpCharge_keeps ..).step ?_ rfl | refine (setSpPort_keeps ..).step ?_ rfl
    | refine (spCount_keeps ..).step ?_ rfl | refine (modFrm_keeps ..).step ?_ rfl
    | refine (reap_keeps ..).step ?_ rfl | refine (dropCpy_keeps ..).step ?_ rfl
    | refine (setSgf_keeps ..).step ?_ rfl | apply Keeps.ite | refine Keeps.foldl ?_ fun _ _ _ => ?_
    | refine Keeps.foldl1 ?_ fun _ _ _ => ?_ | refine Keeps.foldl2 ?_ fun _ _ _ => ?_
    | refine Keeps.foldl22 ?_ fun _ _ _ => ?_ | apply Keeps.forLanes | apply Keeps.getD | split | (intro _ _ _)
    | (intro _ _) | fail_if_no_progress refine Keeps.upd ?_ | (dsimp +zetaDelta only; split)

theorem fwdClear_keeps (s : State) : Keeps 0x1000 s (@fwdClear s) := by
  delta fwdClear; repeat' with_reducible first
    | extract_lets | assumption | exact Keeps.refl | refine (fwdResult_keeps ..).step ?_ rfl
    | refine (setSgf_keeps ..).step ?_ rfl | apply Keeps.ite | refine Keeps.foldl ?_ fun _ _ _ => ?_
    | refine Keeps.foldl1 ?_ fun _ _ _ => ?_ | refine Keeps.foldl2 ?_ fun _ _ _ => ?_
    | refine Keeps.foldl22 ?_ fun _ _ _ => ?_ | apply Keeps.forLanes | apply Keeps.getD | split | (intro _ _ _)
    | (intro _ _) | fail_if_no_progress refine Keeps.upd ?_ | (dsimp +zetaDelta only; split)

theorem fwdDelete_keeps (s : State) : Keeps 0x1000 s (@fwdDelete s) := by
  delta fwdDelete; repeat' with_reducible first
    | extract_lets | assumption | exact Keeps.refl | refine (fwdResult_keeps ..).step ?_ rfl
    | refine (setSgf_keeps ..).step ?_ rfl | apply Keeps.ite | refine Keeps.foldl ?_ fun _ _ _ => ?_
    | refine Keeps.foldl1 ?_ fun _ _ _ => ?_ | refine Keeps.foldl2 ?_ fun _ _ _ => ?_
    | refine Keeps.foldl22 ?_ fun _ _ _ => ?_ | apply Keeps.forLanes | apply Keeps.getD | split | (intro _ _ _)
    | (intro _ _) | fail_if_no_progress refine Keeps.upd ?_ | (dsimp +zetaDelta only; split)

theorem fwdInsert_keeps (s : State) : Keeps 0x301004 s (@fwdInsert s) := by
  delta fwdInsert; repeat' with_reducible first
    | extract_lets | assumption | exact Keeps.refl | refine (setSgf_keeps ..).step ?_ rfl
    | refine (fwdResult_keeps ..).step ?_ rfl | refine (raise_keeps ..).step ?_ rfl
    | refine (noWay_keeps _ _ rfl).step ?_ rfl | refine (noWay_keeps _ (_, _) (by assumption)).step ?_ rfl
    | apply Keeps.ite | refine Keeps.foldl ?_ fun _ _ _ => ?_ | refine Keeps.foldl1 ?_ fun _ _ _ => ?_
    | refine Keeps.foldl2 ?_ fun _ _ _ => ?_ | refine Keeps.foldl22 ?_ fun _ _ _ => ?_ | apply Keeps.forLanes
    | apply Keeps.getD | split | (intro _ _ _) | (intro _ _) | fail_if_no_progress refine Keeps.upd ?_
    | (dsimp +zetaDelta only; split)

theorem fwdLookup_keeps (s : State) : Keeps 0x201000 s (@fwdLookup s) := by
  delta fwdLookup; repeat' with_reducible first
    | extract_lets | assumption | exact Keeps.refl | refine (fwdResult_keeps ..).step ?_ rfl
    | refine (noWay_keeps _ _ rfl).step ?_ rfl | refine (noWay_keeps _ (_, _) (by assumption)).step ?_ rfl
    | apply Keeps.ite | refine Keeps.foldl ?_ fun _ _ _ => ?_ | refine Keeps.foldl1 ?_ fun _ _ _ => ?_
    | refine Keeps.foldl2 ?_ fun _ _ _ => ?_ | refine Keeps.foldl22 ?_ fun _ _ _ => ?_ | apply Keeps.forLanes
    | apply Keeps.getD | split | (intro _ _ _) | (intro _ _) | fail_if_no_progress refine Keeps.upd ?_
    | (dsimp +zetaDelta only; split)

theorem fwdRead_keeps (s : State) : Keeps 0x201000 s (@fwdRead s) := by
  delta fwdRead; repeat' with_reducible first
    | extract_lets | assumption | exact Keeps.refl | refine (fwdResult_keeps ..).step ?_ rfl
    | refine (takeFree_keeps _ _ rfl).step ?_ rfl | refine (takeFree_keeps _ (_, _) (by assumption)).step ?_ rfl
    | apply Keeps.ite | refine Keeps.foldl ?_ fun _ _ _ => ?_ | refine Keeps.foldl1 ?_ fun _ _ _ => ?_
    | refine Keeps.foldl2 ?_ fun _ _ _ => ?_ | refine Keeps.foldl22 ?_ fun _ _ _ => ?_ | apply Keeps.forLanes
    | apply Keeps.getD | split | (intro _ _ _) | (intro _ _) | fail_if_no_progress refine Keeps.upd ?_
    | (dsimp +zetaDelta only; split)

theorem setPlk_keeps (s : State) (x1 : PlkSt) : Keeps 0x8 s (@State.setPlk s x1) := by
  delta State.setPlk; repeat' with_reducible first
    | extract_lets | assumption | exact Keeps.refl | apply Keeps.ite | refine Keeps.foldl ?_ fun _ _ _ => ?_
    | refine Keeps.foldl1 ?_ fun _ _ _ => ?_ | refine Keeps.foldl2 ?_ fun _ _ _ => ?_
    | refine Keeps.foldl22 ?_ fun _ _ _ => ?_ | apply Keeps.forLanes | apply Keeps.getD | split | (intro _ _ _)
    | (intro _ _) | fail_if_no_progress refine Keeps.upd ?_ | (dsimp +zetaDelta only; split)

theorem evalEngage_keeps (s : State) : Keeps 0x10000c s (@State.evalEngage s) := by
  delta State.evalEngage; repeat' with_reducible first
    | extract_lets | assumption | exact Keeps.refl | refine (raise_keeps ..).step ?_ rfl
    | refine (setF_keeps ..).step ?_ rfl | refine (setPlk_keeps ..).step ?_ rfl | apply Keeps.ite
    | refine Keeps.foldl ?_ fun _ _ _ => ?_ | refine Keeps.foldl1 ?_ fun _ _ _ => ?_
    | refine Keeps.foldl2 ?_ fun _ _ _ => ?_ | refine Keeps.foldl22 ?_ fun _ _ _ => ?_ | apply Keeps.forLanes
    | apply Keeps.getD | split | (intro _ _ _) | (intro _ _) | fail_if_no_progress refine Keeps.upd ?_
    | (dsimp +zetaDelta only; split)

theorem engageReq_keeps (s : State) : Keeps 0x10000c s (@State.engageReq s) := by
  delta State.engageReq; repeat' with_reducible first
    | extract_lets | assumption | exact Keeps.refl | refine (evalEngage_keeps ..).step ?_ rfl
    | refine (setF_keeps ..).step ?_ rfl | apply Keeps.ite | refine Keeps.foldl ?_ fun _ _ _ => ?_
    | refine Keeps.foldl1 ?_ fun _ _ _ => ?_ | refine Keeps.foldl2 ?_ fun _ _ _ => ?_
    | refine Keeps.foldl22 ?_ fun _ _ _ => ?_ | apply Keeps.forLanes | apply Keeps.getD | split | (intro _ _ _)
    | (intro _ _) | fail_if_no_progress refine Keeps.upd ?_ | (dsimp +zetaDelta only; split)

theorem holdV_keeps (s : State) (x1 : Nat) : Keeps 0x8 s (@State.holdV s x1) := by
  delta State.holdV; repeat' with_reducible first
    | extract_lets | assumption | exact Keeps.refl | apply Keeps.ite | refine Keeps.foldl ?_ fun _ _ _ => ?_
    | refine Keeps.foldl1 ?_ fun _ _ _ => ?_ | refine Keeps.foldl2 ?_ fun _ _ _ => ?_
    | refine Keeps.foldl22 ?_ fun _ _ _ => ?_ | apply Keeps.forLanes | apply Keeps.getD | split | (intro _ _ _)
    | (intro _ _) | fail_if_no_progress refine Keeps.upd ?_ | (dsimp +zetaDelta only; split)

theorem inhibitEnd_keeps (s : State) : Keeps 0x10000c s (@State.inhibitEnd s) := by
  delta State.inhibitEnd; repeat' with_reducible first
    | extract_lets | assumption | exact Keeps.refl | refine (engageReq_keeps ..).step ?_ rfl | apply Keeps.ite
    | refine Keeps.foldl ?_ fun _ _ _ => ?_ | refine Keeps.foldl1 ?_ fun _ _ _ => ?_
    | refine Keeps.foldl2 ?_ fun _ _ _ => ?_ | refine Keeps.foldl22 ?_ fun _ _ _ => ?_ | apply Keeps.forLanes
    | apply Keeps.getD | split | (intro _ _ _) | (intro _ _) | fail_if_no_progress refine Keeps.upd ?_
    | (dsimp +zetaDelta only; split)

theorem plkHome_keeps (s : State) : Keeps 0x10000c s (@State.plkHome s) := by
  delta State.plkHome; repeat' with_reducible first
    | extract_lets | assumption | exact Keeps.refl | refine (raise_keeps ..).step ?_ rfl
    | refine (evalEngage_keeps ..).step ?_ rfl | apply Keeps.ite | refine Keeps.foldl ?_ fun _ _ _ => ?_
    | refine Keeps.foldl1 ?_ fun _ _ _ => ?_ | refine Keeps.foldl2 ?_ fun _ _ _ => ?_
    | refine Keeps.foldl22 ?_ fun _ _ _ => ?_ | apply Keeps.forLanes | apply Keeps.getD | split | (intro _ _ _)
    | (intro _ _) | fail_if_no_progress refine Keeps.upd ?_ | (dsimp +zetaDelta only; split)

theorem plkRelease_keeps (s : State) : Keeps 0x8 s (@State.plkRelease s) := by
  delta State.plkRelease; repeat' with_reducible first
    | extract_lets | assumption | exact Keeps.refl | refine (setPlk_keeps ..).step ?_ rfl | apply Keeps.ite
    | refine Keeps.foldl ?_ fun _ _ _ => ?_ | refine Keeps.foldl1 ?_ fun _ _ _ => ?_
    | refine Keeps.foldl2 ?_ fun _ _ _ => ?_ | refine Keeps.foldl22 ?_ fun _ _ _ => ?_ | apply Keeps.forLanes
    | apply Keeps.getD | split | (intro _ _ _) | (intro _ _) | fail_if_no_progress refine Keeps.upd ?_
    | (dsimp +zetaDelta only; split)

theorem plkPumpLow_keeps (s : State) : Keeps 0x10000c s (@State.plkPumpLow s) := by
  delta State.plkPumpLow; repeat' with_reducible first
    | extract_lets | assumption | exact Keeps.refl | refine (plkRelease_keeps ..).step ?_ rfl
    | refine (raise_keeps ..).step ?_ rfl | refine (setF_keeps ..).step ?_ rfl | apply Keeps.ite
    | refine Keeps.foldl ?_ fun _ _ _ => ?_ | refine Keeps.foldl1 ?_ fun _ _ _ => ?_
    | refine Keeps.foldl2 ?_ fun _ _ _ => ?_ | refine Keeps.foldl22 ?_ fun _ _ _ => ?_ | apply Keeps.forLanes
    | apply Keeps.getD | split | (intro _ _ _) | (intro _ _) | fail_if_no_progress refine Keeps.upd ?_
    | (dsimp +zetaDelta only; split)

theorem retone_keeps (s : State) (x1 : Nat) : Keeps 0x200110 s (@State.retone s x1) := by
  delta State.retone; repeat' with_reducible first
    | extract_lets | assumption | exact Keeps.refl | refine (takeFree_keeps _ _ rfl).step ?_ rfl
    | refine (takeFree_keeps _ (_, _) (by assumption)).step ?_ rfl | refine (setLane_keeps ..).step ?_ rfl
    | apply Keeps.ite | refine Keeps.foldl ?_ fun _ _ _ => ?_ | refine Keeps.foldl1 ?_ fun _ _ _ => ?_
    | refine Keeps.foldl2 ?_ fun _ _ _ => ?_ | refine Keeps.foldl22 ?_ fun _ _ _ => ?_ | apply Keeps.forLanes
    | apply Keeps.getD | split | (intro _ _ _) | (intro _ _) | fail_if_no_progress refine Keeps.upd ?_
    | (dsimp +zetaDelta only; split)

theorem tagRestart_keeps (s : State) (x1 : Nat) : Keeps 0x200 s (@State.tagRestart s x1) := by
  delta State.tagRestart; repeat' with_reducible first
    | extract_lets | assumption | exact Keeps.refl | apply Keeps.ite | refine Keeps.foldl ?_ fun _ _ _ => ?_
    | refine Keeps.foldl1 ?_ fun _ _ _ => ?_ | refine Keeps.foldl2 ?_ fun _ _ _ => ?_
    | refine Keeps.foldl22 ?_ fun _ _ _ => ?_ | apply Keeps.forLanes | apply Keeps.getD | split | (intro _ _ _)
    | (intro _ _) | fail_if_no_progress refine Keeps.upd ?_ | (dsimp +zetaDelta only; split)

theorem doCufCtrlWrite_keeps (x0 : Word) (s : State) : Keeps 0x300114 s (@doCufCtrlWrite x0 s) := by
  delta doCufCtrlWrite; repeat' with_reducible first
    | extract_lets | assumption | exact Keeps.refl | refine (setF_keeps ..).step ?_ rfl
    | refine (raise_keeps ..).step ?_ rfl | refine (retone_keeps ..).step ?_ rfl | apply Keeps.ite
    | refine Keeps.foldl ?_ fun _ _ _ => ?_ | refine Keeps.foldl1 ?_ fun _ _ _ => ?_
    | refine Keeps.foldl2 ?_ fun _ _ _ => ?_ | refine Keeps.foldl22 ?_ fun _ _ _ => ?_ | apply Keeps.forLanes
    | apply Keeps.getD | split | (intro _ _ _) | (intro _ _) | fail_if_no_progress refine Keeps.upd ?_
    | (dsimp +zetaDelta only; split)

theorem doEngageRequest_keeps (s : State) : Keeps 0x10000c s (@doEngageRequest s) := by
  delta doEngageRequest; repeat' with_reducible first
    | extract_lets | assumption | exact Keeps.refl | refine (engageReq_keeps ..).step ?_ rfl | apply Keeps.ite
    | refine Keeps.foldl ?_ fun _ _ _ => ?_ | refine Keeps.foldl1 ?_ fun _ _ _ => ?_
    | refine Keeps.foldl2 ?_ fun _ _ _ => ?_ | refine Keeps.foldl22 ?_ fun _ _ _ => ?_ | apply Keeps.forLanes
    | apply Keeps.getD | split | (intro _ _ _) | (intro _ _) | fail_if_no_progress refine Keeps.upd ?_
    | (dsimp +zetaDelta only; split)

theorem doEngageTimeout_keeps (x0 : Nat) (s : State) : Keeps 0x10000c s (@doEngageTimeout x0 s) := by
  delta doEngageTimeout; repeat' with_reducible first
    | extract_lets | assumption | exact Keeps.refl | refine (plkPumpLow_keeps ..).step ?_ rfl
    | refine (holdV_keeps ..).step ?_ rfl | apply Keeps.ite | refine Keeps.foldl ?_ fun _ _ _ => ?_
    | refine Keeps.foldl1 ?_ fun _ _ _ => ?_ | refine Keeps.foldl2 ?_ fun _ _ _ => ?_
    | refine Keeps.foldl22 ?_ fun _ _ _ => ?_ | apply Keeps.forLanes | apply Keeps.getD | split | (intro _ _ _)
    | (intro _ _) | fail_if_no_progress refine Keeps.upd ?_ | (dsimp +zetaDelta only; split)

theorem doHoldVoltageLow_keeps (x0 : Nat) (s : State) : Keeps 0x10000c s (@doHoldVoltageLow x0 s) := by
  delta doHoldVoltageLow; repeat' with_reducible first
    | extract_lets | assumption | exact Keeps.refl | refine (plkPumpLow_keeps ..).step ?_ rfl
    | refine (holdV_keeps ..).step ?_ rfl | apply Keeps.ite | refine Keeps.foldl ?_ fun _ _ _ => ?_
    | refine Keeps.foldl1 ?_ fun _ _ _ => ?_ | refine Keeps.foldl2 ?_ fun _ _ _ => ?_
    | refine Keeps.foldl22 ?_ fun _ _ _ => ?_ | apply Keeps.forLanes | apply Keeps.getD | split | (intro _ _ _)
    | (intro _ _) | fail_if_no_progress refine Keeps.upd ?_ | (dsimp +zetaDelta only; split)

theorem doHvSupplyLoss_keeps (s : State) : Keeps 0xa s (@doHvSupplyLoss s) := by
  delta doHvSupplyLoss; repeat' with_reducible first
    | extract_lets | assumption | exact Keeps.refl | apply Keeps.ite | refine Keeps.foldl ?_ fun _ _ _ => ?_
    | refine Keeps.foldl1 ?_ fun _ _ _ => ?_ | refine Keeps.foldl2 ?_ fun _ _ _ => ?_
    | refine Keeps.foldl22 ?_ fun _ _ _ => ?_ | apply Keeps.forLanes | apply Keeps.getD | split | (intro _ _ _)
    | (intro _ _) | fail_if_no_progress refine Keeps.upd ?_ | (dsimp +zetaDelta only; split)

theorem doHvSupplyReturn_keeps (s : State) : Keeps 0xa s (@doHvSupplyReturn s) := by
  delta doHvSupplyReturn; repeat' with_reducible first
    | extract_lets | assumption | exact Keeps.refl | apply Keeps.ite | refine Keeps.foldl ?_ fun _ _ _ => ?_
    | refine Keeps.foldl1 ?_ fun _ _ _ => ?_ | refine Keeps.foldl2 ?_ fun _ _ _ => ?_
    | refine Keeps.foldl22 ?_ fun _ _ _ => ?_ | apply Keeps.forLanes | apply Keeps.getD | split | (intro _ _ _)
    | (intro _ _) | fail_if_no_progress refine Keeps.upd ?_ | (dsimp +zetaDelta only; split)

theorem doPlacketEngaged_keeps (x0 : Nat) (s : State) : Keeps 0x10020c s (@doPlacketEngaged x0 s) := by
  delta doPlacketEngaged; repeat' with_reducible first
    | extract_lets | assumption | exact Keeps.refl | refine (tagRestart_keeps ..).step ?_ rfl
    | refine (bump_keeps ..).step ?_ rfl | refine (raise_keeps ..).step ?_ rfl | refine (setPlk_keeps ..).step ?_ rfl
    | refine (holdV_keeps ..).step ?_ rfl | apply Keeps.ite | refine Keeps.foldl ?_ fun _ _ _ => ?_
    | refine Keeps.foldl1 ?_ fun _ _ _ => ?_ | refine Keeps.foldl2 ?_ fun _ _ _ => ?_
    | refine Keeps.foldl22 ?_ fun _ _ _ => ?_ | apply Keeps.forLanes | apply Keeps.getD | split | (intro _ _ _)
    | (intro _ _) | fail_if_no_progress refine Keeps.upd ?_ | (dsimp +zetaDelta only; split)

theorem doPlacketReleased_keeps (s : State) : Keeps 0x10000c s (@doPlacketReleased s) := by
  delta doPlacketReleased; repeat' with_reducible first
    | extract_lets | assumption | exact Keeps.refl | refine (plkHome_keeps ..).step ?_ rfl | apply Keeps.ite
    | refine Keeps.foldl ?_ fun _ _ _ => ?_ | refine Keeps.foldl1 ?_ fun _ _ _ => ?_
    | refine Keeps.foldl2 ?_ fun _ _ _ => ?_ | refine Keeps.foldl22 ?_ fun _ _ _ => ?_ | apply Keeps.forLanes
    | apply Keeps.getD | split | (intro _ _ _) | (intro _ _) | fail_if_no_progress refine Keeps.upd ?_
    | (dsimp +zetaDelta only; split)

theorem doReleaseRequest_keeps (s : State) : Keeps 0xc s (@doReleaseRequest s) := by
  delta doReleaseRequest; repeat' with_reducible first
    | extract_lets | assumption | exact Keeps.refl | refine (setF_keeps ..).step ?_ rfl
    | refine (plkRelease_keeps ..).step ?_ rfl | apply Keeps.ite | refine Keeps.foldl ?_ fun _ _ _ => ?_
    | refine Keeps.foldl1 ?_ fun _ _ _ => ?_ | refine Keeps.foldl2 ?_ fun _ _ _ => ?_
    | refine Keeps.foldl22 ?_ fun _ _ _ => ?_ | apply Keeps.forLanes | apply Keeps.getD | split | (intro _ _ _)
    | (intro _ _) | fail_if_no_progress refine Keeps.upd ?_ | (dsimp +zetaDelta only; split)

theorem doPlkCtrlWrite_keeps (x0 : Word) (s : State) : Keeps 0x10000c s (@doPlkCtrlWrite x0 s) := by
  delta doPlkCtrlWrite; repeat' with_reducible first
    | extract_lets | assumption | exact Keeps.refl | refine (doEngageRequest_keeps ..).step ?_ rfl
    | refine (doReleaseRequest_keeps ..).step ?_ rfl | apply Keeps.ite | refine Keeps.foldl ?_ fun _ _ _ => ?_
    | refine Keeps.foldl1 ?_ fun _ _ _ => ?_ | refine Keeps.foldl2 ?_ fun _ _ _ => ?_
    | refine Keeps.foldl22 ?_ fun _ _ _ => ?_ | apply Keeps.forLanes | apply Keeps.getD | split | (intro _ _ _)
    | (intro _ _) | fail_if_no_progress refine Keeps.upd ?_ | (dsimp +zetaDelta only; split)

theorem doSupplyFailBleed_keeps (s : State) : Keeps 0x10000c s (@doSupplyFailBleed s) := by
  delta doSupplyFailBleed; repeat' with_reducible first
    | extract_lets | assumption | exact Keeps.refl | refine (plkHome_keeps ..).step ?_ rfl
    | refine (plkPumpLow_keeps ..).step ?_ rfl | apply Keeps.ite | refine Keeps.foldl ?_ fun _ _ _ => ?_
    | refine Keeps.foldl1 ?_ fun _ _ _ => ?_ | refine Keeps.foldl2 ?_ fun _ _ _ => ?_
    | refine Keeps.foldl22 ?_ fun _ _ _ => ?_ | apply Keeps.forLanes | apply Keeps.getD | split | (intro _ _ _)
    | (intro _ _) | fail_if_no_progress refine Keeps.upd ?_ | (dsimp +zetaDelta only; split)

theorem clockEvent_keeps (x0 : State) (s : State) : Keeps 0x102000 s (@State.clockEvent x0 s) := by
  delta State.clockEvent; repeat' with_reducible first
    | extract_lets | assumption | exact Keeps.refl | refine (post_keeps ..).step ?_ rfl | apply Keeps.ite
    | refine Keeps.foldl ?_ fun _ _ _ => ?_ | refine Keeps.foldl1 ?_ fun _ _ _ => ?_
    | refine Keeps.foldl2 ?_ fun _ _ _ => ?_ | refine Keeps.foldl22 ?_ fun _ _ _ => ?_ | apply Keeps.forLanes
    | apply Keeps.getD | split | (intro _ _ _) | (intro _ _) | fail_if_no_progress refine Keeps.upd ?_
    | (dsimp +zetaDelta only; split)

theorem setClr_keeps (s : State) (x1 : Clr) : Keeps 0x80 s (@State.setClr s x1) := by
  delta State.setClr; repeat' with_reducible first
    | extract_lets | assumption | exact Keeps.refl | apply Keeps.ite | refine Keeps.foldl ?_ fun _ _ _ => ?_
    | refine Keeps.foldl1 ?_ fun _ _ _ => ?_ | refine Keeps.foldl2 ?_ fun _ _ _ => ?_
    | refine Keeps.foldl22 ?_ fun _ _ _ => ?_ | apply Keeps.forLanes | apply Keeps.getD | split | (intro _ _ _)
    | (intro _ _) | fail_if_no_progress refine Keeps.upd ?_ | (dsimp +zetaDelta only; split)

theorem dropSteps_keeps (s : State) : Keeps 0x80 s (@State.dropSteps s) := by
  delta State.dropSteps; repeat' with_reducible first
    | extract_lets | assumption | exact Keeps.refl | refine (setClr_keeps ..).step ?_ rfl | apply Keeps.ite
    | refine Keeps.foldl ?_ fun _ _ _ => ?_ | refine Keeps.foldl1 ?_ fun _ _ _ => ?_
    | refine Keeps.foldl2 ?_ fun _ _ _ => ?_ | refine Keeps.foldl22 ?_ fun _ _ _ => ?_ | apply Keeps.forLanes
    | apply Keeps.getD | split | (intro _ _ _) | (intro _ _) | fail_if_no_progress refine Keeps.upd ?_
    | (dsimp +zetaDelta only; split)

theorem settingDone_keeps (s : State) : Keeps 0x84 s (@State.settingDone s) := by
  delta State.settingDone; repeat' with_reducible first
    | extract_lets | assumption | exact Keeps.refl | refine (setF_keeps ..).step ?_ rfl
    | refine (setClr_keeps ..).step ?_ rfl | apply Keeps.ite | refine Keeps.foldl ?_ fun _ _ _ => ?_
    | refine Keeps.foldl1 ?_ fun _ _ _ => ?_ | refine Keeps.foldl2 ?_ fun _ _ _ => ?_
    | refine Keeps.foldl22 ?_ fun _ _ _ => ?_ | apply Keeps.forLanes | apply Keeps.getD | split | (intro _ _ _)
    | (intro _ _) | fail_if_no_progress refine Keeps.upd ?_ | (dsimp +zetaDelta only; split)

theorem makeStep_keeps (s : State) (x1 : Nat) : Keeps 0x1052a4 s (@State.makeStep s x1) := by
  delta State.makeStep; repeat' with_reducible first
    | extract_lets | assumption | exact Keeps.refl | refine (raise_keeps ..).step ?_ rfl
    | refine (setClr_keeps ..).step ?_ rfl | refine (tagRestart_keeps ..).step ?_ rfl
    | refine (offer_keeps ..).step ?_ rfl | apply Keeps.ite | refine Keeps.foldl ?_ fun _ _ _ => ?_
    | refine Keeps.foldl1 ?_ fun _ _ _ => ?_ | refine Keeps.foldl2 ?_ fun _ _ _ => ?_
    | refine Keeps.foldl22 ?_ fun _ _ _ => ?_ | apply Keeps.forLanes | apply Keeps.getD | split | (intro _ _ _)
    | (intro _ _) | fail_if_no_progress refine Keeps.upd ?_ | (dsimp +zetaDelta only; split)

theorem enterAcquire_keeps (s : State) : Keeps 0x80 s (@State.enterAcquire s) := by
  delta State.enterAcquire; repeat' with_reducible first
    | extract_lets | assumption | exact Keeps.refl | refine (setClr_keeps ..).step ?_ rfl | apply Keeps.ite
    | refine Keeps.foldl ?_ fun _ _ _ => ?_ | refine Keeps.foldl1 ?_ fun _ _ _ => ?_
    | refine Keeps.foldl2 ?_ fun _ _ _ => ?_ | refine Keeps.foldl22 ?_ fun _ _ _ => ?_ | apply Keeps.forLanes
    | apply Keeps.getD | split | (intro _ _ _) | (intro _ _) | fail_if_no_progress refine Keeps.upd ?_
    | (dsimp +zetaDelta only; split)

theorem lockEdge_keeps (s : State) (x1 : Int) : Keeps 0x100084 s (@State.lockEdge s x1) := by
  delta State.lockEdge; repeat' with_reducible first
    | extract_lets | assumption | exact Keeps.refl | refine (setClr_keeps ..).step ?_ rfl
    | refine (raise_keeps ..).step ?_ rfl | apply Keeps.ite | refine Keeps.foldl ?_ fun _ _ _ => ?_
    | refine Keeps.foldl1 ?_ fun _ _ _ => ?_ | refine Keeps.foldl2 ?_ fun _ _ _ => ?_
    | refine Keeps.foldl22 ?_ fun _ _ _ => ?_ | apply Keeps.forLanes | apply Keeps.getD | split | (intro _ _ _)
    | (intro _ _) | fail_if_no_progress refine Keeps.upd ?_ | (dsimp +zetaDelta only; split)

theorem edgeIn_keeps (s : State) : Keeps 0x1052a4 s (@State.edgeIn s) := by
  delta State.edgeIn; repeat' with_reducible first
    | extract_lets | assumption | exact Keeps.refl | refine (setClr_keeps ..).step ?_ rfl
    | refine (settingDone_keeps ..).step ?_ rfl | refine (makeStep_keeps ..).step ?_ rfl
    | refine (enterAcquire_keeps ..).step ?_ rfl | refine (lockEdge_keeps ..).step ?_ rfl | apply Keeps.ite
    | refine Keeps.foldl ?_ fun _ _ _ => ?_ | refine Keeps.foldl1 ?_ fun _ _ _ => ?_
    | refine Keeps.foldl2 ?_ fun _ _ _ => ?_ | refine Keeps.foldl22 ?_ fun _ _ _ => ?_ | apply Keeps.forLanes
    | apply Keeps.getD | split | (intro _ _ _) | (intro _ _) | fail_if_no_progress refine Keeps.upd ?_
    | (dsimp +zetaDelta only; split)

theorem edgeOut_keeps (s : State) : Keeps 0x1052a4 s (@State.edgeOut s) := by
  delta State.edgeOut; repeat' with_reducible first
    | extract_lets | assumption | exact Keeps.refl | refine (raise_keeps ..).step ?_ rfl
    | refine (setClr_keeps ..).step ?_ rfl | refine (makeStep_keeps ..).step ?_ rfl | apply Keeps.ite
    | refine Keeps.foldl ?_ fun _ _ _ => ?_ | refine Keeps.foldl1 ?_ fun _ _ _ => ?_
    | refine Keeps.foldl2 ?_ fun _ _ _ => ?_ | refine Keeps.foldl22 ?_ fun _ _ _ => ?_ | apply Keeps.forLanes
    | apply Keeps.getD | split | (intro _ _ _) | (intro _ _) | fail_if_no_progress refine Keeps.upd ?_
    | (dsimp +zetaDelta only; split)

theorem ppsLost_keeps (s : State) : Keeps 0x100084 s (@State.ppsLost s) := by
  delta State.ppsLost; repeat' with_reducible first
    | extract_lets | assumption | exact Keeps.refl | refine (raise_keeps ..).step ?_ rfl
    | refine (setClr_keeps ..).step ?_ rfl | apply Keeps.ite | refine Keeps.foldl ?_ fun _ _ _ => ?_
    | refine Keeps.foldl1 ?_ fun _ _ _ => ?_ | refine Keeps.foldl2 ?_ fun _ _ _ => ?_
    | refine Keeps.foldl22 ?_ fun _ _ _ => ?_ | apply Keeps.forLanes | apply Keeps.getD | split | (intro _ _ _)
    | (intro _ _) | fail_if_no_progress refine Keeps.upd ?_ | (dsimp +zetaDelta only; split)

theorem refLost_keeps (s : State) : Keeps 0x102084 s (@State.refLost s) := by
  delta State.refLost; repeat' with_reducible first
    | extract_lets | assumption | exact Keeps.refl | refine (setClr_keeps ..).step ?_ rfl
    | refine (clockEvent_keeps ..).step ?_ rfl | refine (raise_keeps ..).step ?_ rfl | apply Keeps.ite
    | refine Keeps.foldl ?_ fun _ _ _ => ?_ | refine Keeps.foldl1 ?_ fun _ _ _ => ?_
    | refine Keeps.foldl2 ?_ fun _ _ _ => ?_ | refine Keeps.foldl22 ?_ fun _ _ _ => ?_ | apply Keeps.forLanes
    | apply Keeps.getD | split | (intro _ _ _) | (intro _ _) | fail_if_no_progress refine Keeps.upd ?_
    | (dsimp +zetaDelta only; split)

theorem schedEvent_keeps (x0 : State) (s : State) : Keeps 0x102000 s (@State.schedEvent x0 s) := by
  delta State.schedEvent; repeat' with_reducible first
    | extract_lets | assumption | exact Keeps.refl | refine (post_keeps ..).step ?_ rfl | apply Keeps.ite
    | refine Keeps.foldl ?_ fun _ _ _ => ?_ | refine Keeps.foldl1 ?_ fun _ _ _ => ?_
    | refine Keeps.foldl2 ?_ fun _ _ _ => ?_ | refine Keeps.foldl22 ?_ fun _ _ _ => ?_ | apply Keeps.forLanes
    | apply Keeps.getD | split | (intro _ _ _) | (intro _ _) | fail_if_no_progress refine Keeps.upd ?_
    | (dsimp +zetaDelta only; split)

theorem snapshot_keeps (s : State) : Keeps 0x4 s (@State.snapshot s) := by
  delta State.snapshot; repeat' with_reducible first
    | extract_lets | assumption | exact Keeps.refl | refine (setReg_keeps ..).step ?_ rfl | apply Keeps.ite
    | refine Keeps.foldl ?_ fun _ _ _ => ?_ | refine Keeps.foldl1 ?_ fun _ _ _ => ?_
    | refine Keeps.foldl2 ?_ fun _ _ _ => ?_ | refine Keeps.foldl22 ?_ fun _ _ _ => ?_ | apply Keeps.forLanes
    | apply Keeps.getD | split | (intro _ _ _) | (intro _ _) | fail_if_no_progress refine Keeps.upd ?_
    | (dsimp +zetaDelta only; split)

theorem todUse_keeps (s : State) (x1 : Nat) : Keeps 0x100084 s (@State.todUse s x1) := by
  delta State.todUse; repeat' with_reducible first
    | extract_lets | assumption | exact Keeps.refl | refine (setClr_keeps ..).step ?_ rfl
    | refine (raise_keeps ..).step ?_ rfl | apply Keeps.ite | refine Keeps.foldl ?_ fun _ _ _ => ?_
    | refine Keeps.foldl1 ?_ fun _ _ _ => ?_ | refine Keeps.foldl2 ?_ fun _ _ _ => ?_
    | refine Keeps.foldl22 ?_ fun _ _ _ => ?_ | apply Keeps.forLanes | apply Keeps.getD | split | (intro _ _ _)
    | (intro _ _) | fail_if_no_progress refine Keeps.upd ?_ | (dsimp +zetaDelta only; split)

theorem doClockSnapshot_keeps (x0 : Nat) (s : State) : Keeps 0x400084 s (@doClockSnapshot x0 s) := by
  delta doClockSnapshot; repeat' with_reducible first
    | extract_lets | assumption | exact Keeps.refl | refine (snapshot_keeps ..).step ?_ rfl
    | refine (passTo_keeps ..).step ?_ rfl | apply Keeps.ite | refine Keeps.foldl ?_ fun _ _ _ => ?_
    | refine Keeps.foldl1 ?_ fun _ _ _ => ?_ | refine Keeps.foldl2 ?_ fun _ _ _ => ?_
    | refine Keeps.foldl22 ?_ fun _ _ _ => ?_ | apply Keeps.forLanes | apply Keeps.getD | split | (intro _ _ _)
    | (intro _ _) | fail_if_no_progress refine Keeps.upd ?_ | (dsimp +zetaDelta only; split)

theorem doClrCtrlWrite_keeps (x0 : Word) (s : State) : Keeps 0x102084 s (@doClrCtrlWrite x0 s) := by
  delta doClrCtrlWrite; repeat' with_reducible first
    | extract_lets | assumption | exact Keeps.refl | refine (wrCodes_keeps ..).step ?_ rfl
    | refine (setClr_keeps ..).step ?_ rfl | refine (clockEvent_keeps ..).step ?_ rfl
    | refine (dropSteps_keeps ..).step ?_ rfl | apply Keeps.ite | refine Keeps.foldl ?_ fun _ _ _ => ?_
    | refine Keeps.foldl1 ?_ fun _ _ _ => ?_ | refine Keeps.foldl2 ?_ fun _ _ _ => ?_
    | refine Keeps.foldl22 ?_ fun _ _ _ => ?_ | apply Keeps.forLanes | apply Keeps.getD | split | (intro _ _ _)
    | (intro _ _) | fail_if_no_progress refine Keeps.upd ?_ | (dsimp +zetaDelta only; split)

theorem doHoldoverLimit_keeps (x0 : Nat) (s : State) : Keeps 0x102084 s (@doHoldoverLimit x0 s) := by
  delta doHoldoverLimit; repeat' with_reducible first
    | extract_lets | assumption | exact Keeps.refl | refine (passTo_keeps ..).step ?_ rfl
    | refine (clockEvent_keeps ..).step ?_ rfl | refine (raise_keeps ..).step ?_ rfl | apply Keeps.ite
    | refine Keeps.foldl ?_ fun _ _ _ => ?_ | refine Keeps.foldl1 ?_ fun _ _ _ => ?_
    | refine Keeps.foldl2 ?_ fun _ _ _ => ?_ | refine Keeps.foldl22 ?_ fun _ _ _ => ?_ | apply Keeps.forLanes
    | apply Keeps.getD | split | (intro _ _ _) | (intro _ _) | fail_if_no_progress refine Keeps.upd ?_
    | (dsimp +zetaDelta only; split)

theorem doNetworkSecond_keeps (x0 : Nat) (s : State) : Keeps 0x1073a4 s (@doNetworkSecond x0 s) := by
  delta doNetworkSecond; repeat' with_reducible first
    | extract_lets | assumption | exact Keeps.refl | refine (passTo_keeps ..).step ?_ rfl
    | refine (offer_keeps ..).step ?_ rfl | refine (setClr_keeps ..).step ?_ rfl
    | refine (clockEvent_keeps ..).step ?_ rfl | refine (settingDone_keeps ..).step ?_ rfl
    | refine (makeStep_keeps ..).step ?_ rfl | apply Keeps.ite | refine Keeps.foldl ?_ fun _ _ _ => ?_
    | refine Keeps.foldl1 ?_ fun _ _ _ => ?_ | refine Keeps.foldl2 ?_ fun _ _ _ => ?_
    | refine Keeps.foldl22 ?_ fun _ _ _ => ?_ | apply Keeps.forLanes | apply Keeps.getD | split | (intro _ _ _)
    | (intro _ _) | fail_if_no_progress refine Keeps.upd ?_ | (dsimp +zetaDelta only; split)

theorem doPpsEdge_keeps (x0 : Nat) (s : State) : Keeps 0x1072a4 s (@doPpsEdge x0 s) := by
  delta doPpsEdge; repeat' with_reducible first
    | extract_lets | assumption | exact Keeps.refl | refine (icEdge_keeps ..).step ?_ rfl
    | refine (passTo_keeps ..).step ?_ rfl | refine (clockEvent_keeps ..).step ?_ rfl
    | refine (edgeIn_keeps ..).step ?_ rfl | refine (edgeOut_keeps ..).step ?_ rfl | apply Keeps.ite
    | refine Keeps.foldl ?_ fun _ _ _ => ?_ | refine Keeps.foldl1 ?_ fun _ _ _ => ?_
    | refine Keeps.foldl2 ?_ fun _ _ _ => ?_ | refine Keeps.foldl22 ?_ fun _ _ _ => ?_ | apply Keeps.forLanes
    | apply Keeps.getD | split | (intro _ _ _) | (intro _ _) | fail_if_no_progress refine Keeps.upd ?_
    | (dsimp +zetaDelta only; split)

theorem doPpsLossBeforeSet_keeps (x0 : Nat) (s : State) : Keeps 0x102084 s (@doPpsLossBeforeSet x0 s) := by
  delta doPpsLossBeforeSet; repeat' with_reducible first
    | extract_lets | assumption | exact Keeps.refl | refine (passTo_keeps ..).step ?_ rfl
    | refine (clockEvent_keeps ..).step ?_ rfl | refine (ppsLost_keeps ..).step ?_ rfl | apply Keeps.ite
    | refine Keeps.foldl ?_ fun _ _ _ => ?_ | refine Keeps.foldl1 ?_ fun _ _ _ => ?_
    | refine Keeps.foldl2 ?_ fun _ _ _ => ?_ | refine Keeps.foldl22 ?_ fun _ _ _ => ?_ | apply Keeps.forLanes
    | apply Keeps.getD | split | (intro _ _ _) | (intro _ _) | fail_if_no_progress refine Keeps.upd ?_
    | (dsimp +zetaDelta only; split)

theorem doPpsWindowClose_keeps (x0 : Nat) (s : State) : Keeps 0x102084 s (@doPpsWindowClose x0 s) := by
  delta doPpsWindowClose; repeat' with_reducible first
    | extract_lets | assumption | exact Keeps.refl | refine (passTo_keeps ..).step ?_ rfl
    | refine (setClr_keeps ..).step ?_ rfl | refine (clockEvent_keeps ..).step ?_ rfl
    | refine (ppsLost_keeps ..).step ?_ rfl | apply Keeps.ite | refine Keeps.foldl ?_ fun _ _ _ => ?_
    | refine Keeps.foldl1 ?_ fun _ _ _ => ?_ | refine Keeps.foldl2 ?_ fun _ _ _ => ?_
    | refine Keeps.foldl22 ?_ fun _ _ _ => ?_ | apply Keeps.forLanes | apply Keeps.getD | split | (intro _ _ _)
    | (intro _ _) | fail_if_no_progress refine Keeps.upd ?_ | (dsimp +zetaDelta only; split)

theorem doRef10mLoss_keeps (s : State) : Keeps 0x102084 s (@doRef10mLoss s) := by
  delta doRef10mLoss; repeat' with_reducible first
    | extract_lets | assumption | exact Keeps.refl | refine (refLost_keeps ..).step ?_ rfl | apply Keeps.ite
    | refine Keeps.foldl ?_ fun _ _ _ => ?_ | refine Keeps.foldl1 ?_ fun _ _ _ => ?_
    | refine Keeps.foldl2 ?_ fun _ _ _ => ?_ | refine Keeps.foldl22 ?_ fun _ _ _ => ?_ | apply Keeps.forLanes
    | apply Keeps.getD | split | (intro _ _ _) | (intro _ _) | fail_if_no_progress refine Keeps.upd ?_
    | (dsimp +zetaDelta only; split)

theorem doRef10mWindow_keeps (x0 : Bool) (s : State) : Keeps 0x102084 s (@doRef10mWindow x0 s) := by
  delta doRef10mWindow; repeat' with_reducible first
    | extract_lets | assumption | exact Keeps.refl | refine (setClr_keeps ..).step ?_ rfl
    | refine (refLost_keeps ..).step ?_ rfl | apply Keeps.ite | refine Keeps.foldl ?_ fun _ _ _ => ?_
    | refine Keeps.foldl1 ?_ fun _ _ _ => ?_ | refine Keeps.foldl2 ?_ fun _ _ _ => ?_
    | refine Keeps.foldl22 ?_ fun _ _ _ => ?_ | apply Keeps.forLanes | apply Keeps.getD | split | (intro _ _ _)
    | (intro _ _) | fail_if_no_progress refine Keeps.upd ?_ | (dsimp +zetaDelta only; split)

theorem doTimeSetArm_keeps (x0 : Word) (s : State) : Keeps 0x84 s (@doTimeSetArm x0 s) := by
  delta doTimeSetArm; repeat' with_reducible first
    | extract_lets | assumption | exact Keeps.refl | refine (setF_keeps ..).step ?_ rfl
    | refine (setClr_keeps ..).step ?_ rfl | apply Keeps.ite | refine Keeps.foldl ?_ fun _ _ _ => ?_
    | refine Keeps.foldl1 ?_ fun _ _ _ => ?_ | refine Keeps.foldl2 ?_ fun _ _ _ => ?_
    | refine Keeps.foldl22 ?_ fun _ _ _ => ?_ | apply Keeps.forLanes | apply Keeps.getD | split | (intro _ _ _)
    | (intro _ _) | fail_if_no_progress refine Keeps.upd ?_ | (dsimp +zetaDelta only; split)

theorem doTodMessage_keeps (x0 : Nat) (x1 : List Byte) (x2 : Bool) (s : State) : Keeps 0x102084 s (@doTodMessage x0
    x1 x2 s) := by
  delta doTodMessage; repeat' with_reducible first
    | extract_lets | assumption | exact Keeps.refl | refine (passTo_keeps ..).step ?_ rfl
    | refine (setReg_keeps ..).step ?_ rfl | refine (clockEvent_keeps ..).step ?_ rfl
    | refine (todUse_keeps ..).step ?_ rfl | refine (raise_keeps ..).step ?_ rfl | refine (bump_keeps ..).step ?_ rfl
    | refine (setClr_keeps ..).step ?_ rfl | apply Keeps.ite | refine Keeps.foldl ?_ fun _ _ _ => ?_
    | refine Keeps.foldl1 ?_ fun _ _ _ => ?_ | refine Keeps.foldl2 ?_ fun _ _ _ => ?_
    | refine Keeps.foldl22 ?_ fun _ _ _ => ?_ | apply Keeps.forLanes | apply Keeps.getD | split | (intro _ _ _)
    | (intro _ _) | fail_if_no_progress refine Keeps.upd ?_ | (dsimp +zetaDelta only; split)

theorem doTodWindowClose_keeps (x0 : Nat) (s : State) : Keeps 0x80 s (@doTodWindowClose x0 s) := by
  delta doTodWindowClose; repeat' with_reducible first
    | extract_lets | assumption | exact Keeps.refl | refine (passTo_keeps ..).step ?_ rfl
    | refine (setClr_keeps ..).step ?_ rfl | apply Keeps.ite | refine Keeps.foldl ?_ fun _ _ _ => ?_
    | refine Keeps.foldl1 ?_ fun _ _ _ => ?_ | refine Keeps.foldl2 ?_ fun _ _ _ => ?_
    | refine Keeps.foldl22 ?_ fun _ _ _ => ?_ | apply Keeps.forLanes | apply Keeps.getD | split | (intro _ _ _)
    | (intro _ _) | fail_if_no_progress refine Keeps.upd ?_ | (dsimp +zetaDelta only; split)

theorem putLaneBuf_keeps (s : State) (x1 : Nat) (x2 : Lane) (x3 : Int) : Keeps 0x104214 s (@State.putLaneBuf s x1 x2
    x3) := by
  delta State.putLaneBuf; repeat' with_reducible first
    | extract_lets | assumption | exact Keeps.refl | refine (setLane_keeps ..).step ?_ rfl
    | refine (offer_keeps ..).step ?_ rfl | refine (icEdge_keeps ..).step ?_ rfl | apply Keeps.ite
    | refine Keeps.foldl ?_ fun _ _ _ => ?_ | refine Keeps.foldl1 ?_ fun _ _ _ => ?_
    | refine Keeps.foldl2 ?_ fun _ _ _ => ?_ | refine Keeps.foldl22 ?_ fun _ _ _ => ?_ | apply Keeps.forLanes
    | apply Keeps.getD | split | (intro _ _ _) | (intro _ _) | fail_if_no_progress refine Keeps.upd ?_
    | (dsimp +zetaDelta only; split)

theorem putLane_keeps (s : State) (x1 : Nat) (x2 : Lane) : Keeps 0x104214 s (@State.putLane s x1 x2) := by
  delta State.putLane; repeat' with_reducible first
    | extract_lets | assumption | exact Keeps.refl | refine (putLaneBuf_keeps ..).step ?_ rfl | apply Keeps.ite
    | refine Keeps.foldl ?_ fun _ _ _ => ?_ | refine Keeps.foldl1 ?_ fun _ _ _ => ?_
    | refine Keeps.foldl2 ?_ fun _ _ _ => ?_ | refine Keeps.foldl22 ?_ fun _ _ _ => ?_ | apply Keeps.forLanes
    | apply Keeps.getD | split | (intro _ _ _) | (intro _ _) | fail_if_no_progress refine Keeps.upd ?_
    | (dsimp +zetaDelta only; split)

theorem foldSp_keeps (s : State) (x1 : Nat) (x2 : Int) : Keeps 0x4 s (@State.foldSp s x1 x2) := by
  delta State.foldSp; repeat' with_reducible first
    | extract_lets | assumption | exact Keeps.refl | refine (bump_keeps ..).step ?_ rfl
    | refine (setSp_keeps ..).step ?_ rfl | apply Keeps.ite | refine Keeps.foldl ?_ fun _ _ _ => ?_
    | refine Keeps.foldl1 ?_ fun _ _ _ => ?_ | refine Keeps.foldl2 ?_ fun _ _ _ => ?_
    | refine Keeps.foldl22 ?_ fun _ _ _ => ?_ | apply Keeps.forLanes | apply Keeps.getD | split | (intro _ _ _)
    | (intro _ _) | fail_if_no_progress refine Keeps.upd ?_ | (dsimp +zetaDelta only; split)

theorem toHold_keeps (s : State) (x1 : Nat) (x2 : Nat) : Keeps 0x104214 s (@State.toHold s x1 x2) := by
  delta State.toHold; repeat' with_reducible first
    | extract_lets | assumption | exact Keeps.refl | refine (putLane_keeps ..).step ?_ rfl
    | refine (foldSp_keeps ..).step ?_ rfl | apply Keeps.ite | refine Keeps.foldl ?_ fun _ _ _ => ?_
    | refine Keeps.foldl1 ?_ fun _ _ _ => ?_ | refine Keeps.foldl2 ?_ fun _ _ _ => ?_
    | refine Keeps.foldl22 ?_ fun _ _ _ => ?_ | apply Keeps.forLanes | apply Keeps.getD | split | (intro _ _ _)
    | (intro _ _) | fail_if_no_progress refine Keeps.upd ?_ | (dsimp +zetaDelta only; split)

theorem cufHoldLane_keeps (s : State) (x1 : Nat) : Keeps 0x104214 s (@State.cufHoldLane s x1) := by
  delta State.cufHoldLane; repeat' with_reducible first
    | extract_lets | assumption | exact Keeps.refl | refine (toHold_keeps ..).step ?_ rfl
    | refine (putLane_keeps ..).step ?_ rfl | apply Keeps.ite | refine Keeps.foldl ?_ fun _ _ _ => ?_
    | refine Keeps.foldl1 ?_ fun _ _ _ => ?_ | refine Keeps.foldl2 ?_ fun _ _ _ => ?_
    | refine Keeps.foldl22 ?_ fun _ _ _ => ?_ | apply Keeps.forLanes | apply Keeps.getD | split | (intro _ _ _)
    | (intro _ _) | fail_if_no_progress refine Keeps.upd ?_ | (dsimp +zetaDelta only; split)

theorem sendLane_keeps (s : State) (x1 : Nat) : Keeps 0x10 s (@State.sendLane s x1) := by
  delta State.sendLane; repeat' with_reducible first
    | extract_lets | assumption | exact Keeps.refl | refine (setLane_keeps ..).step ?_ rfl | apply Keeps.ite
    | refine Keeps.foldl ?_ fun _ _ _ => ?_ | refine Keeps.foldl1 ?_ fun _ _ _ => ?_
    | refine Keeps.foldl2 ?_ fun _ _ _ => ?_ | refine Keeps.foldl22 ?_ fun _ _ _ => ?_ | apply Keeps.forLanes
    | apply Keeps.getD | split | (intro _ _ _) | (intro _ _) | fail_if_no_progress refine Keeps.upd ?_
    | (dsimp +zetaDelta only; split)

theorem exchangeCl_keeps (s : State) (x1 : Nat) : Keeps 0x30 s (@State.exchangeCl s x1) := by
  delta State.exchangeCl; repeat' with_reducible first
    | extract_lets | assumption | exact Keeps.refl | refine (sendLane_keeps ..).step ?_ rfl
    | refine (setCl_keeps ..).step ?_ rfl | apply Keeps.ite | refine Keeps.foldl ?_ fun _ _ _ => ?_
    | refine Keeps.foldl1 ?_ fun _ _ _ => ?_ | refine Keeps.foldl2 ?_ fun _ _ _ => ?_
    | refine Keeps.foldl22 ?_ fun _ _ _ => ?_ | apply Keeps.forLanes | apply Keeps.getD | split | (intro _ _ _)
    | (intro _ _) | fail_if_no_progress refine Keeps.upd ?_ | (dsimp +zetaDelta only; split)

theorem exchange_keeps (s : State) : Keeps 0x104234 s (@State.exchange s) := by
  delta State.exchange; repeat' with_reducible first
    | extract_lets | assumption | exact Keeps.refl | refine (exchangeCl_keeps ..).step ?_ rfl
    | refine (cufHoldLane_keeps ..).step ?_ rfl | apply Keeps.ite | refine Keeps.foldl ?_ fun _ _ _ => ?_
    | refine Keeps.foldl1 ?_ fun _ _ _ => ?_ | refine Keeps.foldl2 ?_ fun _ _ _ => ?_
    | refine Keeps.foldl22 ?_ fun _ _ _ => ?_ | apply Keeps.forLanes | apply Keeps.getD | split | (intro _ _ _)
    | (intro _ _) | fail_if_no_progress refine Keeps.upd ?_ | (dsimp +zetaDelta only; split)

theorem learnLane_keeps (s : State) (x1 : Nat) : Keeps 0x104214 s (@State.learnLane s x1) := by
  delta State.learnLane; repeat' with_reducible first
    | extract_lets | assumption | exact Keeps.refl | refine (putLane_keeps ..).step ?_ rfl
    | refine (foldSp_keeps ..).step ?_ rfl | apply Keeps.ite | refine Keeps.foldl ?_ fun _ _ _ => ?_
    | refine Keeps.foldl1 ?_ fun _ _ _ => ?_ | refine Keeps.foldl2 ?_ fun _ _ _ => ?_
    | refine Keeps.foldl22 ?_ fun _ _ _ => ?_ | apply Keeps.forLanes | apply Keeps.getD | split | (intro _ _ _)
    | (intro _ _) | fail_if_no_progress refine Keeps.upd ?_ | (dsimp +zetaDelta only; split)

theorem takeDamp_keeps (s : State) (x1 : Nat) : Keeps 0x10 s (@State.takeDamp s x1) := by
  delta State.takeDamp; repeat' with_reducible first
    | extract_lets | assumption | exact Keeps.refl | refine (setLane_keeps ..).step ?_ rfl | apply Keeps.ite
    | refine Keeps.foldl ?_ fun _ _ _ => ?_ | refine Keeps.foldl1 ?_ fun _ _ _ => ?_
    | refine Keeps.foldl2 ?_ fun _ _ _ => ?_ | refine Keeps.foldl22 ?_ fun _ _ _ => ?_ | apply Keeps.forLanes
    | apply Keeps.getD | split | (intro _ _ _) | (intro _ _) | fail_if_no_progress refine Keeps.upd ?_
    | (dsimp +zetaDelta only; split)

theorem toOff_keeps (s : State) (x1 : Nat) : Keeps 0x104214 s (@State.toOff s x1) := by
  delta State.toOff; repeat' with_reducible first
    | extract_lets | assumption | exact Keeps.refl | refine (putLane_keeps ..).step ?_ rfl
    | refine (foldSp_keeps ..).step ?_ rfl | apply Keeps.ite | refine Keeps.foldl ?_ fun _ _ _ => ?_
    | refine Keeps.foldl1 ?_ fun _ _ _ => ?_ | refine Keeps.foldl2 ?_ fun _ _ _ => ?_
    | refine Keeps.foldl22 ?_ fun _ _ _ => ?_ | apply Keeps.forLanes | apply Keeps.getD | split | (intro _ _ _)
    | (intro _ _) | fail_if_no_progress refine Keeps.upd ?_ | (dsimp +zetaDelta only; split)

theorem reenter_keeps (s : State) (x1 : Nat) : Keeps 0x104214 s (@State.reenter s x1) := by
  delta State.reenter; repeat' with_reducible first
    | extract_lets | assumption | exact Keeps.refl | refine (putLane_keeps ..).step ?_ rfl | apply Keeps.ite
    | refine Keeps.foldl ?_ fun _ _ _ => ?_ | refine Keeps.foldl1 ?_ fun _ _ _ => ?_
    | refine Keeps.foldl2 ?_ fun _ _ _ => ?_ | refine Keeps.foldl22 ?_ fun _ _ _ => ?_ | apply Keeps.forLanes
    | apply Keeps.getD | split | (intro _ _ _) | (intro _ _) | fail_if_no_progress refine Keeps.upd ?_
    | (dsimp +zetaDelta only; split)

theorem loopLane_keeps (s : State) (x1 : Nat) : Keeps 0x104214 s (@State.loopLane s x1) := by
  delta State.loopLane; repeat' with_reducible first
    | extract_lets | assumption | exact Keeps.refl | refine (takeDamp_keeps ..).step ?_ rfl
    | refine (toOff_keeps ..).step ?_ rfl | refine (reenter_keeps ..).step ?_ rfl
    | refine (putLane_keeps ..).step ?_ rfl | apply Keeps.ite | refine Keeps.foldl ?_ fun _ _ _ => ?_
    | refine Keeps.foldl1 ?_ fun _ _ _ => ?_ | refine Keeps.foldl2 ?_ fun _ _ _ => ?_
    | refine Keeps.foldl22 ?_ fun _ _ _ => ?_ | apply Keeps.forLanes | apply Keeps.getD | split | (intro _ _ _)
    | (intro _ _) | fail_if_no_progress refine Keeps.upd ?_ | (dsimp +zetaDelta only; split)

theorem restartLane_keeps (s : State) (x1 : Nat) : Keeps 0x104214 s (@State.restartLane s x1) := by
  delta State.restartLane; repeat' with_reducible first
    | extract_lets | assumption | exact Keeps.refl | refine (setLane_keeps ..).step ?_ rfl
    | refine (reenter_keeps ..).step ?_ rfl | apply Keeps.ite | refine Keeps.foldl ?_ fun _ _ _ => ?_
    | refine Keeps.foldl1 ?_ fun _ _ _ => ?_ | refine Keeps.foldl2 ?_ fun _ _ _ => ?_
    | refine Keeps.foldl22 ?_ fun _ _ _ => ?_ | apply Keeps.forLanes | apply Keeps.getD | split | (intro _ _ _)
    | (intro _ _) | fail_if_no_progress refine Keeps.upd ?_ | (dsimp +zetaDelta only; split)

theorem toFault_keeps (s : State) (x1 : Nat) (x2 : BitVec 8) : Keeps 0x104214 s (@State.toFault s x1 x2) := by
  delta State.toFault; repeat' with_reducible first
    | extract_lets | assumption | exact Keeps.refl | refine (putLane_keeps ..).step ?_ rfl | apply Keeps.ite
    | refine Keeps.foldl ?_ fun _ _ _ => ?_ | refine Keeps.foldl1 ?_ fun _ _ _ => ?_
    | refine Keeps.foldl2 ?_ fun _ _ _ => ?_ | refine Keeps.foldl22 ?_ fun _ _ _ => ?_ | apply Keeps.forLanes
    | apply Keeps.getD | split | (intro _ _ _) | (intro _ _) | fail_if_no_progress refine Keeps.upd ?_
    | (dsimp +zetaDelta only; split)

theorem doAcqTimeout_keeps (x0 : Nat) (x1 : Nat) (s : State) : Keeps 0x104294 s (@doAcqTimeout x0 x1 s) := by
  delta doAcqTimeout; repeat' with_reducible first
    | extract_lets | assumption | exact Keeps.refl | refine (passTo_keeps ..).step ?_ rfl
    | refine (toFault_keeps ..).step ?_ rfl | apply Keeps.ite | refine Keeps.foldl ?_ fun _ _ _ => ?_
    | refine Keeps.foldl1 ?_ fun _ _ _ => ?_ | refine Keeps.foldl2 ?_ fun _ _ _ => ?_
    | refine Keeps.foldl22 ?_ fun _ _ _ => ?_ | apply Keeps.forLanes | apply Keeps.getD | split | (intro _ _ _)
    | (intro _ _) | fail_if_no_progress refine Keeps.upd ?_ | (dsimp +zetaDelta only; split)

theorem doExchangeStale_keeps (x0 : Nat) (x1 : Nat) (s : State) : Keeps 0x1042b4 s (@doExchangeStale x0 x1 s) := by
  delta doExchangeStale; repeat' with_reducible first
    | extract_lets | assumption | exact Keeps.refl | refine (passTo_keeps ..).step ?_ rfl
    | refine (setCl_keeps ..).step ?_ rfl | refine (cufHoldLane_keeps ..).step ?_ rfl | apply Keeps.ite
    | refine Keeps.foldl ?_ fun _ _ _ => ?_ | refine Keeps.foldl1 ?_ fun _ _ _ => ?_
    | refine Keeps.foldl2 ?_ fun _ _ _ => ?_ | refine Keeps.foldl22 ?_ fun _ _ _ => ?_ | apply Keeps.forLanes
    | apply Keeps.getD | split | (intro _ _ _) | (intro _ _) | fail_if_no_progress refine Keeps.upd ?_
    | (dsimp +zetaDelta only; split)

theorem doLaneCfgWrite_keeps (x0 : Nat) (x1 : Word) (s : State) : Keeps 0x104214 s (@doLaneCfgWrite x0 x1 s) := by
  delta doLaneCfgWrite; repeat' with_reducible first
    | extract_lets | assumption | exact Keeps.refl | refine (wrCodes_keeps ..).step ?_ rfl
    | refine (setF_keeps ..).step ?_ rfl | refine (setLane_keeps ..).step ?_ rfl
    | refine (restartLane_keeps ..).step ?_ rfl | apply Keeps.ite | refine Keeps.foldl ?_ fun _ _ _ => ?_
    | refine Keeps.foldl1 ?_ fun _ _ _ => ?_ | refine Keeps.foldl2 ?_ fun _ _ _ => ?_
    | refine Keeps.foldl22 ?_ fun _ _ _ => ?_ | apply Keeps.forLanes | apply Keeps.getD | split | (intro _ _ _)
    | (intro _ _) | fail_if_no_progress refine Keeps.upd ?_ | (dsimp +zetaDelta only; split)

theorem doLeakFault_keeps (x0 : Nat) (x1 : Nat) (s : State) : Keeps 0x104294 s (@doLeakFault x0 x1 s) := by
  delta doLeakFault; repeat' with_reducible first
    | extract_lets | assumption | exact Keeps.refl | refine (passTo_keeps ..).step ?_ rfl
    | refine (toFault_keeps ..).step ?_ rfl | apply Keeps.ite | refine Keeps.foldl ?_ fun _ _ _ => ?_
    | refine Keeps.foldl1 ?_ fun _ _ _ => ?_ | refine Keeps.foldl2 ?_ fun _ _ _ => ?_
    | refine Keeps.foldl22 ?_ fun _ _ _ => ?_ | apply Keeps.forLanes | apply Keeps.getD | split | (intro _ _ _)
    | (intro _ _) | fail_if_no_progress refine Keeps.upd ?_ | (dsimp +zetaDelta only; split)

theorem doLearningTick_keeps (x0 : Nat) (x1 : Nat) (s : State) : Keeps 0x104294 s (@doLearningTick x0 x1 s) := by
  delta doLearningTick; repeat' with_reducible first
    | extract_lets | assumption | exact Keeps.refl | refine (passTo_keeps ..).step ?_ rfl
    | refine (learnLane_keeps ..).step ?_ rfl | apply Keeps.ite | refine Keeps.foldl ?_ fun _ _ _ => ?_
    | refine Keeps.foldl1 ?_ fun _ _ _ => ?_ | refine Keeps.foldl2 ?_ fun _ _ _ => ?_
    | refine Keeps.foldl22 ?_ fun _ _ _ => ?_ | apply Keeps.forLanes | apply Keeps.getD | split | (intro _ _ _)
    | (intro _ _) | fail_if_no_progress refine Keeps.upd ?_ | (dsimp +zetaDelta only; split)

theorem doLightClass_keeps (x0 : Nat) (x1 : Nat) (s : State) : Keeps 0x184294 s (@doLightClass x0 x1 s) := by
  delta doLightClass; repeat' with_reducible first
    | extract_lets | assumption | exact Keeps.refl | refine (passTo_keeps ..).step ?_ rfl
    | refine (putLane_keeps ..).step ?_ rfl | refine (foldSp_keeps ..).step ?_ rfl | apply Keeps.ite
    | refine Keeps.foldl ?_ fun _ _ _ => ?_ | refine Keeps.foldl1 ?_ fun _ _ _ => ?_
    | refine Keeps.foldl2 ?_ fun _ _ _ => ?_ | refine Keeps.foldl22 ?_ fun _ _ _ => ?_ | apply Keeps.forLanes
    | apply Keeps.getD | split | (intro _ _ _) | (intro _ _) | fail_if_no_progress refine Keeps.upd ?_
    | (dsimp +zetaDelta only; split)

theorem doLoopLock_keeps (x0 : Nat) (x1 : Nat) (s : State) : Keeps 0x104294 s (@doLoopLock x0 x1 s) := by
  delta doLoopLock; repeat' with_reducible first
    | extract_lets | assumption | exact Keeps.refl | refine (passTo_keeps ..).step ?_ rfl
    | refine (putLane_keeps ..).step ?_ rfl | apply Keeps.ite | refine Keeps.foldl ?_ fun _ _ _ => ?_
    | refine Keeps.foldl1 ?_ fun _ _ _ => ?_ | refine Keeps.foldl2 ?_ fun _ _ _ => ?_
    | refine Keeps.foldl22 ?_ fun _ _ _ => ?_ | apply Keeps.forLanes | apply Keeps.getD | split | (intro _ _ _)
    | (intro _ _) | fail_if_no_progress refine Keeps.upd ?_ | (dsimp +zetaDelta only; split)

theorem doLoopUnlock_keeps (x0 : Nat) (x1 : Nat) (s : State) : Keeps 0x104294 s (@doLoopUnlock x0 x1 s) := by
  delta doLoopUnlock; repeat' with_reducible first
    | extract_lets | assumption | exact Keeps.refl | refine (passTo_keeps ..).step ?_ rfl
    | refine (putLane_keeps ..).step ?_ rfl | apply Keeps.ite | refine Keeps.foldl ?_ fun _ _ _ => ?_
    | refine Keeps.foldl1 ?_ fun _ _ _ => ?_ | refine Keeps.foldl2 ?_ fun _ _ _ => ?_
    | refine Keeps.foldl22 ?_ fun _ _ _ => ?_ | apply Keeps.forLanes | apply Keeps.getD | split | (intro _ _ _)
    | (intro _ _) | fail_if_no_progress refine Keeps.upd ?_ | (dsimp +zetaDelta only; split)

theorem doLoopUpdate_keeps (x0 : Nat) (x1 : Nat) (s : State) : Keeps 0x1042b4 s (@doLoopUpdate x0 x1 s) := by
  delta doLoopUpdate; repeat' with_reducible first
    | extract_lets | assumption | exact Keeps.refl | refine (passTo_keeps ..).step ?_ rfl
    | refine (loopLane_keeps ..).step ?_ rfl | refine (setCl_keeps ..).step ?_ rfl | apply Keeps.ite
    | refine Keeps.foldl ?_ fun _ _ _ => ?_ | refine Keeps.foldl1 ?_ fun _ _ _ => ?_
    | refine Keeps.foldl2 ?_ fun _ _ _ => ?_ | refine Keeps.foldl22 ?_ fun _ _ _ => ?_ | apply Keeps.forLanes
    | apply Keeps.getD | split | (intro _ _ _) | (intro _ _) | fail_if_no_progress refine Keeps.upd ?_
    | (dsimp +zetaDelta only; split)

theorem doSatFault_keeps (x0 : Nat) (x1 : Nat) (s : State) : Keeps 0x104294 s (@doSatFault x0 x1 s) := by
  delta doSatFault; repeat' with_reducible first
    | extract_lets | assumption | exact Keeps.refl | refine (passTo_keeps ..).step ?_ rfl
    | refine (toFault_keeps ..).step ?_ rfl | apply Keeps.ite | refine Keeps.foldl ?_ fun _ _ _ => ?_
    | refine Keeps.foldl1 ?_ fun _ _ _ => ?_ | refine Keeps.foldl2 ?_ fun _ _ _ => ?_
    | refine Keeps.foldl22 ?_ fun _ _ _ => ?_ | apply Keeps.forLanes | apply Keeps.getD | split | (intro _ _ _)
    | (intro _ _) | fail_if_no_progress refine Keeps.upd ?_ | (dsimp +zetaDelta only; split)

theorem doSetptWrite_keeps (x0 : Nat) (x1 : Bool) (x2 : Word) (s : State) : Keeps 0x14 s (@doSetptWrite x0 x1 x2 s)
    := by
  delta doSetptWrite; repeat' with_reducible first
    | extract_lets | assumption | exact Keeps.refl | refine (setReg_keeps ..).step ?_ rfl
    | refine (setLane_keeps ..).step ?_ rfl | apply Keeps.ite | refine Keeps.foldl ?_ fun _ _ _ => ?_
    | refine Keeps.foldl1 ?_ fun _ _ _ => ?_ | refine Keeps.foldl2 ?_ fun _ _ _ => ?_
    | refine Keeps.foldl22 ?_ fun _ _ _ => ?_ | apply Keeps.forLanes | apply Keeps.getD | split | (intro _ _ _)
    | (intro _ _) | fail_if_no_progress refine Keeps.upd ?_ | (dsimp +zetaDelta only; split)

theorem doSlvCtrlWrite_keeps (x0 : Nat) (x1 : Word) (s : State) : Keeps 0x104234 s (@doSlvCtrlWrite x0 x1 s) := by
  delta doSlvCtrlWrite; repeat' with_reducible first
    | extract_lets | assumption | exact Keeps.refl | refine (wrCodes_keeps ..).step ?_ rfl
    | refine (setCl_keeps ..).step ?_ rfl | refine (restartLane_keeps ..).step ?_ rfl | apply Keeps.ite
    | refine Keeps.foldl ?_ fun _ _ _ => ?_ | refine Keeps.foldl1 ?_ fun _ _ _ => ?_
    | refine Keeps.foldl2 ?_ fun _ _ _ => ?_ | refine Keeps.foldl22 ?_ fun _ _ _ => ?_ | apply Keeps.forLanes
    | apply Keeps.getD | split | (intro _ _ _) | (intro _ _) | fail_if_no_progress refine Keeps.upd ?_
    | (dsimp +zetaDelta only; split)

theorem accCtrl_keeps (s : State) (x1 : Nat) (x2 : Word) : Keeps 0x4 s (@State.accCtrl s x1 x2) := by
  delta State.accCtrl; repeat' with_reducible first
    | extract_lets | assumption | exact Keeps.refl | refine (setF_keeps ..).step ?_ rfl
    | refine (wrCodes_keeps ..).step ?_ rfl | apply Keeps.ite | refine Keeps.foldl ?_ fun _ _ _ => ?_
    | refine Keeps.foldl1 ?_ fun _ _ _ => ?_ | refine Keeps.foldl2 ?_ fun _ _ _ => ?_
    | refine Keeps.foldl22 ?_ fun _ _ _ => ?_ | apply Keeps.forLanes | apply Keeps.getD | split | (intro _ _ _)
    | (intro _ _) | fail_if_no_progress refine Keeps.upd ?_ | (dsimp +zetaDelta only; split)

theorem accStart_keeps (s : State) (x1 : Nat) (x2 : Nat) : Keeps 0x20 s (@State.accStart s x1 x2) := by
  delta State.accStart; repeat' with_reducible first
    | extract_lets | assumption | exact Keeps.refl | refine (setCl_keeps ..).step ?_ rfl | apply Keeps.ite
    | refine Keeps.foldl ?_ fun _ _ _ => ?_ | refine Keeps.foldl1 ?_ fun _ _ _ => ?_
    | refine Keeps.foldl2 ?_ fun _ _ _ => ?_ | refine Keeps.foldl22 ?_ fun _ _ _ => ?_ | apply Keeps.forLanes
    | apply Keeps.getD | split | (intro _ _ _) | (intro _ _) | fail_if_no_progress refine Keeps.upd ?_
    | (dsimp +zetaDelta only; split)

theorem accTap_keeps (x0 : List TapSample) (x1 : Nat) (s : State) (x3 : Nat) : Keeps 0x20 s (@State.accTap x0 x1 s
    x3) := by
  delta State.accTap; repeat' with_reducible first
    | extract_lets | assumption | exact Keeps.refl | refine (setCl_keeps ..).step ?_ rfl | apply Keeps.ite
    | refine Keeps.foldl ?_ fun _ _ _ => ?_ | refine Keeps.foldl1 ?_ fun _ _ _ => ?_
    | refine Keeps.foldl2 ?_ fun _ _ _ => ?_ | refine Keeps.foldl22 ?_ fun _ _ _ => ?_ | apply Keeps.forLanes
    | apply Keeps.getD | split | (intro _ _ _) | (intro _ _) | fail_if_no_progress refine Keeps.upd ?_
    | (dsimp +zetaDelta only; split)

theorem accFrame_keeps (s : State) (x1 : Nat) (x2 : Nat) (x3 : List TapSample) : Keeps 0x20 s (@State.accFrame s x1
    x2 x3) := by
  delta State.accFrame; repeat' with_reducible first
    | extract_lets | assumption | exact Keeps.refl | refine (accStart_keeps ..).step ?_ rfl
    | refine (accTap_keeps ..).step ?_ rfl | refine (setCl_keeps ..).step ?_ rfl | apply Keeps.ite
    | refine Keeps.foldl ?_ fun _ _ _ => ?_ | refine Keeps.foldl1 ?_ fun _ _ _ => ?_
    | refine Keeps.foldl2 ?_ fun _ _ _ => ?_ | refine Keeps.foldl22 ?_ fun _ _ _ => ?_ | apply Keeps.forLanes
    | apply Keeps.getD | split | (intro _ _ _) | (intro _ _) | fail_if_no_progress refine Keeps.upd ?_
    | (dsimp +zetaDelta only; split)

theorem accPublish_keeps (x0 : Nat) (s : State) (x2 : Nat) : Keeps 0x4004 s (@State.accPublish x0 s x2) := by
  delta State.accPublish; repeat' with_reducible first
    | extract_lets | assumption | exact Keeps.refl | refine (setReg_keeps ..).step ?_ rfl
    | refine (offer_keeps ..).step ?_ rfl | refine (setF_keeps ..).step ?_ rfl | apply Keeps.ite
    | refine Keeps.foldl ?_ fun _ _ _ => ?_ | refine Keeps.foldl1 ?_ fun _ _ _ => ?_
    | refine Keeps.foldl2 ?_ fun _ _ _ => ?_ | refine Keeps.foldl22 ?_ fun _ _ _ => ?_ | apply Keeps.forLanes
    | apply Keeps.getD | split | (intro _ _ _) | (intro _ _) | fail_if_no_progress refine Keeps.upd ?_
    | (dsimp +zetaDelta only; split)

theorem accTake_keeps (s : State) (x1 : Nat) : Keeps 0x24 s (@State.accTake s x1) := by
  delta State.accTake; repeat' with_reducible first
    | extract_lets | assumption | exact Keeps.refl | refine (bump_keeps ..).step ?_ rfl
    | refine (setCl_keeps ..).step ?_ rfl | apply Keeps.ite | refine Keeps.foldl ?_ fun _ _ _ => ?_
    | refine Keeps.foldl1 ?_ fun _ _ _ => ?_ | refine Keeps.foldl2 ?_ fun _ _ _ => ?_
    | refine Keeps.foldl22 ?_ fun _ _ _ => ?_ | apply Keeps.forLanes | apply Keeps.getD | split | (intro _ _ _)
    | (intro _ _) | fail_if_no_progress refine Keeps.upd ?_ | (dsimp +zetaDelta only; split)

theorem accTrigger_keeps (s : State) (x1 : Nat) (x2 : Bool) : Keeps 0x24 s (@State.accTrigger s x1 x2) := by
  delta State.accTrigger; repeat' with_reducible first
    | extract_lets | assumption | exact Keeps.refl | refine (setCl_keeps ..).step ?_ rfl
    | refine (accTake_keeps ..).step ?_ rfl | apply Keeps.ite | refine Keeps.foldl ?_ fun _ _ _ => ?_
    | refine Keeps.foldl1 ?_ fun _ _ _ => ?_ | refine Keeps.foldl2 ?_ fun _ _ _ => ?_
    | refine Keeps.foldl22 ?_ fun _ _ _ => ?_ | apply Keeps.forLanes | apply Keeps.getD | split | (intro _ _ _)
    | (intro _ _) | fail_if_no_progress refine Keeps.upd ?_ | (dsimp +zetaDelta only; split)

theorem calHold_keeps (s : State) (x1 : Nat) : Keeps 0x104214 s (@State.calHold s x1) := by
  delta State.calHold; repeat' with_reducible first
    | extract_lets | assumption | exact Keeps.refl | refine (setLane_keeps ..).step ?_ rfl
    | refine (toHold_keeps ..).step ?_ rfl | apply Keeps.ite | refine Keeps.foldl ?_ fun _ _ _ => ?_
    | refine Keeps.foldl1 ?_ fun _ _ _ => ?_ | refine Keeps.foldl2 ?_ fun _ _ _ => ?_
    | refine Keeps.foldl22 ?_ fun _ _ _ => ?_ | apply Keeps.forLanes | apply Keeps.getD | split | (intro _ _ _)
    | (intro _ _) | fail_if_no_progress refine Keeps.upd ?_ | (dsimp +zetaDelta only; split)

theorem calHoldAdc_keeps (s : State) (x1 : Nat) (x2 : Nat) : Keeps 0x104214 s (@State.calHoldAdc s x1 x2) := by
  delta State.calHoldAdc; repeat' with_reducible first
    | extract_lets | assumption | exact Keeps.refl | refine (calHold_keeps ..).step ?_ rfl | apply Keeps.ite
    | refine Keeps.foldl ?_ fun _ _ _ => ?_ | refine Keeps.foldl1 ?_ fun _ _ _ => ?_
    | refine Keeps.foldl2 ?_ fun _ _ _ => ?_ | refine Keeps.foldl22 ?_ fun _ _ _ => ?_ | apply Keeps.forLanes
    | apply Keeps.getD | split | (intro _ _ _) | (intro _ _) | fail_if_no_progress refine Keeps.upd ?_
    | (dsimp +zetaDelta only; split)

theorem calHoldLane_keeps (s : State) (x1 : Nat) : Keeps 0x104214 s (@State.calHoldLane s x1) := by
  delta State.calHoldLane; repeat' with_reducible first
    | extract_lets | assumption | exact Keeps.refl | refine (calHold_keeps ..).step ?_ rfl
    | refine (setLane_keeps ..).step ?_ rfl | refine (reenter_keeps ..).step ?_ rfl | apply Keeps.ite
    | refine Keeps.foldl ?_ fun _ _ _ => ?_ | refine Keeps.foldl1 ?_ fun _ _ _ => ?_
    | refine Keeps.foldl2 ?_ fun _ _ _ => ?_ | refine Keeps.foldl22 ?_ fun _ _ _ => ?_ | apply Keeps.forLanes
    | apply Keeps.getD | split | (intro _ _ _) | (intro _ _) | fail_if_no_progress refine Keeps.upd ?_
    | (dsimp +zetaDelta only; split)

theorem clDecide_keeps (s : State) (x1 : Nat) (x2 : Nat) (x3 : LaneRes) (x4 : Nat) : Keeps 0x20 s (@State.clDecide s
    x1 x2 x3 x4) := by
  delta State.clDecide; repeat' with_reducible first
    | extract_lets | assumption | exact Keeps.refl | refine (setCl_keeps ..).step ?_ rfl | apply Keeps.ite
    | refine Keeps.foldl ?_ fun _ _ _ => ?_ | refine Keeps.foldl1 ?_ fun _ _ _ => ?_
    | refine Keeps.foldl2 ?_ fun _ _ _ => ?_ | refine Keeps.foldl22 ?_ fun _ _ _ => ?_ | apply Keeps.forLanes
    | apply Keeps.getD | split | (intro _ _ _) | (intro _ _) | fail_if_no_progress refine Keeps.upd ?_
    | (dsimp +zetaDelta only; split)

theorem clRedecide_keeps (s : State) (x1 : Nat) (x2 : Nat) (x3 : LaneRes) : Keeps 0x20 s (@State.clRedecide s x1 x2
    x3) := by
  delta State.clRedecide; repeat' with_reducible first
    | extract_lets | assumption | exact Keeps.refl | refine (setCl_keeps ..).step ?_ rfl | apply Keeps.ite
    | refine Keeps.foldl ?_ fun _ _ _ => ?_ | refine Keeps.foldl1 ?_ fun _ _ _ => ?_
    | refine Keeps.foldl2 ?_ fun _ _ _ => ?_ | refine Keeps.foldl22 ?_ fun _ _ _ => ?_ | apply Keeps.forLanes
    | apply Keeps.getD | split | (intro _ _ _) | (intro _ _) | fail_if_no_progress refine Keeps.upd ?_
    | (dsimp +zetaDelta only; split)

theorem cnvStatusWrite_keeps (s : State) (x1 : Nat) (x2 : Word) : Keeps 0x4 s (@State.cnvStatusWrite s x1 x2) := by
  delta State.cnvStatusWrite; repeat' with_reducible first
    | extract_lets | assumption | exact Keeps.refl | refine (wrCodes_keeps ..).step ?_ rfl
    | refine (setF_keeps ..).step ?_ rfl | apply Keeps.ite | refine Keeps.foldl ?_ fun _ _ _ => ?_
    | refine Keeps.foldl1 ?_ fun _ _ _ => ?_ | refine Keeps.foldl2 ?_ fun _ _ _ => ?_
    | refine Keeps.foldl22 ?_ fun _ _ _ => ?_ | apply Keeps.forLanes | apply Keeps.getD | split | (intro _ _ _)
    | (intro _ _) | fail_if_no_progress refine Keeps.upd ?_ | (dsimp +zetaDelta only; split)

theorem writeMeas_keeps (s : State) (x1 : Nat) (x2 : Trans) (x3 : Nat) (x4 : LaneRes) : Keeps 0x4004 s
    (@State.writeMeas s x1 x2 x3 x4) := by
  delta State.writeMeas; repeat' with_reducible first
    | extract_lets | assumption | exact Keeps.refl | refine (setReg_keeps ..).step ?_ rfl
    | refine (offer_keeps ..).step ?_ rfl | apply Keeps.ite | refine Keeps.foldl ?_ fun _ _ _ => ?_
    | refine Keeps.foldl1 ?_ fun _ _ _ => ?_ | refine Keeps.foldl2 ?_ fun _ _ _ => ?_
    | refine Keeps.foldl22 ?_ fun _ _ _ => ?_ | apply Keeps.forLanes | apply Keeps.getD | split | (intro _ _ _)
    | (intro _ _) | fail_if_no_progress refine Keeps.upd ?_ | (dsimp +zetaDelta only; split)

theorem failReport_keeps (s : State) (x1 : Report) : Keeps 0x100204 s (@State.failReport s x1) := by
  delta State.failReport; repeat' with_reducible first
    | extract_lets | assumption | exact Keeps.refl | refine (icEdge_keeps ..).step ?_ rfl | apply Keeps.ite
    | refine Keeps.foldl ?_ fun _ _ _ => ?_ | refine Keeps.foldl1 ?_ fun _ _ _ => ?_
    | refine Keeps.foldl2 ?_ fun _ _ _ => ?_ | refine Keeps.foldl22 ?_ fun _ _ _ => ?_ | apply Keeps.forLanes
    | apply Keeps.getD | split | (intro _ _ _) | (intro _ _) | fail_if_no_progress refine Keeps.upd ?_
    | (dsimp +zetaDelta only; split)

theorem decideLane_keeps (s : State) (x1 : Nat) (x2 : Trans) (x3 : LaneRes) (x4 : Nat) (x5 : Nat) (x6 : Nat) : Keeps
    0x184234 s (@State.decideLane s x1 x2 x3 x4 x5 x6) := by
  delta State.decideLane; repeat' with_reducible first
    | extract_lets | assumption | exact Keeps.refl | refine (clDecide_keeps ..).step ?_ rfl
    | refine (setLane_keeps ..).step ?_ rfl | refine (writeMeas_keeps ..).step ?_ rfl
    | refine (raise_keeps ..).step ?_ rfl | refine (failReport_keeps ..).step ?_ rfl | apply Keeps.ite
    | refine Keeps.foldl ?_ fun _ _ _ => ?_ | refine Keeps.foldl1 ?_ fun _ _ _ => ?_
    | refine Keeps.foldl2 ?_ fun _ _ _ => ?_ | refine Keeps.foldl22 ?_ fun _ _ _ => ?_ | apply Keeps.forLanes
    | apply Keeps.getD | split | (intro _ _ _) | (intro _ _) | fail_if_no_progress refine Keeps.upd ?_
    | (dsimp +zetaDelta only; split)

theorem driveLane_keeps (s : State) (x1 : Nat) : Keeps 0x104214 s (@State.driveLane s x1) := by
  delta State.driveLane; repeat' with_reducible first
    | extract_lets | assumption | exact Keeps.refl | refine (putLaneBuf_keeps ..).step ?_ rfl | apply Keeps.ite
    | refine Keeps.foldl ?_ fun _ _ _ => ?_ | refine Keeps.foldl1 ?_ fun _ _ _ => ?_
    | refine Keeps.foldl2 ?_ fun _ _ _ => ?_ | refine Keeps.foldl22 ?_ fun _ _ _ => ?_ | apply Keeps.forLanes
    | apply Keeps.getD | split | (intro _ _ _) | (intro _ _) | fail_if_no_progress refine Keeps.upd ?_
    | (dsimp +zetaDelta only; split)

theorem probeSeen_keeps (s : State) (x1 : Nat) : Keeps 0x180204 s (@State.probeSeen s x1) := by
  delta State.probeSeen; repeat' with_reducible first
    | extract_lets | assumption | exact Keeps.refl | refine (failReport_keeps ..).step ?_ rfl | apply Keeps.ite
    | refine Keeps.foldl ?_ fun _ _ _ => ?_ | refine Keeps.foldl1 ?_ fun _ _ _ => ?_
    | refine Keeps.foldl2 ?_ fun _ _ _ => ?_ | refine Keeps.foldl22 ?_ fun _ _ _ => ?_ | apply Keeps.forLanes
    | apply Keeps.getD | split | (intro _ _ _) | (intro _ _) | fail_if_no_progress refine Keeps.upd ?_
    | (dsimp +zetaDelta only; split)

theorem settleCheck_keeps (s : State) (x1 : Nat) (x2 : Trans) : Keeps 0x184234 s (@State.settleCheck s x1 x2) := by
  delta State.settleCheck; repeat' with_reducible first
    | extract_lets | assumption | exact Keeps.refl | refine (decideLane_keeps ..).step ?_ rfl | apply Keeps.ite
    | refine Keeps.foldl ?_ fun _ _ _ => ?_ | refine Keeps.foldl1 ?_ fun _ _ _ => ?_
    | refine Keeps.foldl2 ?_ fun _ _ _ => ?_ | refine Keeps.foldl22 ?_ fun _ _ _ => ?_ | apply Keeps.forLanes
    | apply Keeps.getD | split | (intro _ _ _) | (intro _ _) | fail_if_no_progress refine Keeps.upd ?_
    | (dsimp +zetaDelta only; split)

theorem frameLane_keeps (x0 : List TapSample) (s : State) (x2 : Nat) : Keeps 0x184234 s (@State.frameLane x0 s x2) := by
  delta State.frameLane; repeat' with_reducible first
    | extract_lets | assumption | exact Keeps.refl | refine (probeSeen_keeps ..).step ?_ rfl
    | refine (setLane_keeps ..).step ?_ rfl | refine (settleCheck_keeps ..).step ?_ rfl
    | refine (calHoldLane_keeps ..).step ?_ rfl | refine (cufHoldLane_keeps ..).step ?_ rfl | apply Keeps.ite
    | refine Keeps.foldl ?_ fun _ _ _ => ?_ | refine Keeps.foldl1 ?_ fun _ _ _ => ?_
    | refine Keeps.foldl2 ?_ fun _ _ _ => ?_ | refine Keeps.foldl22 ?_ fun _ _ _ => ?_ | apply Keeps.forLanes
    | apply Keeps.getD | split | (intro _ _ _) | (intro _ _) | fail_if_no_progress refine Keeps.upd ?_
    | (dsimp +zetaDelta only; split)

theorem laneStatWrite_keeps (s : State) (x1 : Nat) (x2 : Word) : Keeps 0x104214 s (@State.laneStatWrite s x1 x2) := by
  delta State.laneStatWrite; repeat' with_reducible first
    | extract_lets | assumption | exact Keeps.refl | refine (putLaneBuf_keeps ..).step ?_ rfl
    | refine (setLane_keeps ..).step ?_ rfl | apply Keeps.ite | refine Keeps.foldl ?_ fun _ _ _ => ?_
    | refine Keeps.foldl1 ?_ fun _ _ _ => ?_ | refine Keeps.foldl2 ?_ fun _ _ _ => ?_
    | refine Keeps.foldl22 ?_ fun _ _ _ => ?_ | apply Keeps.forLanes | apply Keeps.getD | split | (intro _ _ _)
    | (intro _ _) | fail_if_no_progress refine Keeps.upd ?_ | (dsimp +zetaDelta only; split)

theorem refBad_keeps (s : State) (x1 : Nat) (x2 : Nat) : Keeps 0x4 s (@State.refBad s x1 x2) := by
  delta State.refBad; repeat' with_reducible first
    | extract_lets | assumption | exact Keeps.refl | refine (setF_keeps ..).step ?_ rfl | apply Keeps.ite
    | refine Keeps.foldl ?_ fun _ _ _ => ?_ | refine Keeps.foldl1 ?_ fun _ _ _ => ?_
    | refine Keeps.foldl2 ?_ fun _ _ _ => ?_ | refine Keeps.foldl22 ?_ fun _ _ _ => ?_ | apply Keeps.forLanes
    | apply Keeps.getD | split | (intro _ _ _) | (intro _ _) | fail_if_no_progress refine Keeps.upd ?_
    | (dsimp +zetaDelta only; split)

theorem refSelect_keeps (x0 : Nat) (x1 : Word) (s : State) (x3 : Nat) : Keeps 0x104234 s (@State.refSelect x0 x1 s
    x3) := by
  delta State.refSelect; repeat' with_reducible first
    | extract_lets | assumption | exact Keeps.refl | refine (setReg_keeps ..).step ?_ rfl
    | refine (calHoldAdc_keeps ..).step ?_ rfl | refine (setCl_keeps ..).step ?_ rfl | apply Keeps.ite
    | refine Keeps.foldl ?_ fun _ _ _ => ?_ | refine Keeps.foldl1 ?_ fun _ _ _ => ?_
    | refine Keeps.foldl2 ?_ fun _ _ _ => ?_ | refine Keeps.foldl22 ?_ fun _ _ _ => ?_ | apply Keeps.forLanes
    | apply Keeps.getD | split | (intro _ _ _) | (intro _ _) | fail_if_no_progress refine Keeps.upd ?_
    | (dsimp +zetaDelta only; split)

theorem doAccCtrl_keeps (x0 : Nat) (x1 : Word) (s : State) : Keeps 0x24 s (@doAccCtrl x0 x1 s) := by
  delta doAccCtrl; repeat' with_reducible first
    | extract_lets | assumption | exact Keeps.refl | refine (accCtrl_keeps ..).step ?_ rfl
    | refine (setCl_keeps ..).step ?_ rfl | apply Keeps.ite | refine Keeps.foldl ?_ fun _ _ _ => ?_
    | refine Keeps.foldl1 ?_ fun _ _ _ => ?_ | refine Keeps.foldl2 ?_ fun _ _ _ => ?_
    | refine Keeps.foldl22 ?_ fun _ _ _ => ?_ | apply Keeps.forLanes | apply Keeps.getD | split | (intro _ _ _)
    | (intro _ _) | fail_if_no_progress refine Keeps.upd ?_ | (dsimp +zetaDelta only; split)

theorem doAccStopDone_keeps (x0 : Nat) (s : State) : Keeps 0x20 s (@doAccStopDone x0 s) := by
  delta doAccStopDone; repeat' with_reducible first
    | extract_lets | assumption | exact Keeps.refl | refine (setCl_keeps ..).step ?_ rfl | apply Keeps.ite
    | refine Keeps.foldl ?_ fun _ _ _ => ?_ | refine Keeps.foldl1 ?_ fun _ _ _ => ?_
    | refine Keeps.foldl2 ?_ fun _ _ _ => ?_ | refine Keeps.foldl22 ?_ fun _ _ _ => ?_ | apply Keeps.forLanes
    | apply Keeps.getD | split | (intro _ _ _) | (intro _ _) | fail_if_no_progress refine Keeps.upd ?_
    | (dsimp +zetaDelta only; split)

theorem doAccWindowEnd_keeps (x0 : Nat) (x1 : Nat) (s : State) : Keeps 0x40a4 s (@doAccWindowEnd x0 x1 s) := by
  delta doAccWindowEnd; repeat' with_reducible first
    | extract_lets | assumption | exact Keeps.refl | refine (passTo_keeps ..).step ?_ rfl
    | refine (accPublish_keeps ..).step ?_ rfl | refine (setF_keeps ..).step ?_ rfl
    | refine (setCl_keeps ..).step ?_ rfl | apply Keeps.ite | refine Keeps.foldl ?_ fun _ _ _ => ?_
    | refine Keeps.foldl1 ?_ fun _ _ _ => ?_ | refine Keeps.foldl2 ?_ fun _ _ _ => ?_
    | refine Keeps.foldl22 ?_ fun _ _ _ => ?_ | apply Keeps.forLanes | apply Keeps.getD | split | (intro _ _ _)
    | (intro _ _) | fail_if_no_progress refine Keeps.upd ?_ | (dsimp +zetaDelta only; split)

theorem doConversionFrame_keeps (x0 : Nat) (x1 : Nat) (x2 : List TapSample) (s : State) : Keeps 0x1842b4 s
    (@doConversionFrame x0 x1 x2 s) := by
  delta doConversionFrame; repeat' with_reducible first
    | extract_lets | assumption | exact Keeps.refl | refine (passTo_keeps ..).step ?_ rfl
    | refine (accFrame_keeps ..).step ?_ rfl | refine (frameLane_keeps ..).step ?_ rfl
    | refine (setCl_keeps ..).step ?_ rfl | apply Keeps.ite | refine Keeps.foldl ?_ fun _ _ _ => ?_
    | refine Keeps.foldl1 ?_ fun _ _ _ => ?_ | refine Keeps.foldl2 ?_ fun _ _ _ => ?_
    | refine Keeps.foldl22 ?_ fun _ _ _ => ?_ | apply Keeps.forLanes | apply Keeps.getD | split | (intro _ _ _)
    | (intro _ _) | fail_if_no_progress refine Keeps.upd ?_ | (dsimp +zetaDelta only; split)

theorem doDriveUpdate_keeps (x0 : Nat) (x1 : Nat) (s : State) : Keeps 0x1042b4 s (@doDriveUpdate x0 x1 s) := by
  delta doDriveUpdate; repeat' with_reducible first
    | extract_lets | assumption | exact Keeps.refl | refine (passTo_keeps ..).step ?_ rfl
    | refine (driveLane_keeps ..).step ?_ rfl | refine (setF_keeps ..).step ?_ rfl
    | refine (setCl_keeps ..).step ?_ rfl | apply Keeps.ite | refine Keeps.foldl ?_ fun _ _ _ => ?_
    | refine Keeps.foldl1 ?_ fun _ _ _ => ?_ | refine Keeps.foldl2 ?_ fun _ _ _ => ?_
    | refine Keeps.foldl22 ?_ fun _ _ _ => ?_ | apply Keeps.forLanes | apply Keeps.getD | split | (intro _ _ _)
    | (intro _ _) | fail_if_no_progress refine Keeps.upd ?_ | (dsimp +zetaDelta only; split)

theorem doDrvLim_keeps (x0 : Nat) (x1 : Word) (s : State) : Keeps 0x100004 s (@doDrvLim x0 x1 s) := by
  delta doDrvLim; repeat' with_reducible first
    | extract_lets | assumption | exact Keeps.refl | refine (raise_keeps ..).step ?_ rfl
    | refine (setReg_keeps ..).step ?_ rfl | apply Keeps.ite | refine Keeps.foldl ?_ fun _ _ _ => ?_
    | refine Keeps.foldl1 ?_ fun _ _ _ => ?_ | refine Keeps.foldl2 ?_ fun _ _ _ => ?_
    | refine Keeps.foldl22 ?_ fun _ _ _ => ?_ | apply Keeps.forLanes | apply Keeps.getD | split | (intro _ _ _)
    | (intro _ _) | fail_if_no_progress refine Keeps.upd ?_ | (dsimp +zetaDelta only; split)

theorem doHiRangeReturn_keeps (x0 : Nat) (x1 : Bool) (s : State) : Keeps 0x10 s (@doHiRangeReturn x0 x1 s) := by
  delta doHiRangeReturn; repeat' with_reducible first
    | extract_lets | assumption | exact Keeps.refl | refine (setLane_keeps ..).step ?_ rfl | apply Keeps.ite
    | refine Keeps.foldl ?_ fun _ _ _ => ?_ | refine Keeps.foldl1 ?_ fun _ _ _ => ?_
    | refine Keeps.foldl2 ?_ fun _ _ _ => ?_ | refine Keeps.foldl22 ?_ fun _ _ _ => ?_ | apply Keeps.forLanes
    | apply Keeps.getD | split | (intro _ _ _) | (intro _ _) | fail_if_no_progress refine Keeps.upd ?_
    | (dsimp +zetaDelta only; split)

theorem doLsgLoad_keeps (x0 : Nat) (x1 : Word) (s : State) : Keeps 0x20 s (@doLsgLoad x0 x1 s) := by
  delta doLsgLoad; repeat' with_reducible first
    | extract_lets | assumption | exact Keeps.refl | refine (setCl_keeps ..).step ?_ rfl | apply Keeps.ite
    | refine Keeps.foldl ?_ fun _ _ _ => ?_ | refine Keeps.foldl1 ?_ fun _ _ _ => ?_
    | refine Keeps.foldl2 ?_ fun _ _ _ => ?_ | refine Keeps.foldl22 ?_ fun _ _ _ => ?_ | apply Keeps.forLanes
    | apply Keeps.getD | split | (intro _ _ _) | (intro _ _) | fail_if_no_progress refine Keeps.upd ?_
    | (dsimp +zetaDelta only; split)

theorem doOvcDetect_keeps (x0 : Nat) (x1 : Nat) (s : State) : Keeps 0x104294 s (@doOvcDetect x0 x1 s) := by
  delta doOvcDetect; repeat' with_reducible first
    | extract_lets | assumption | exact Keeps.refl | refine (passTo_keeps ..).step ?_ rfl
    | refine (putLaneBuf_keeps ..).step ?_ rfl | apply Keeps.ite | refine Keeps.foldl ?_ fun _ _ _ => ?_
    | refine Keeps.foldl1 ?_ fun _ _ _ => ?_ | refine Keeps.foldl2 ?_ fun _ _ _ => ?_
    | refine Keeps.foldl22 ?_ fun _ _ _ => ?_ | apply Keeps.forLanes | apply Keeps.getD | split | (intro _ _ _)
    | (intro _ _) | fail_if_no_progress refine Keeps.upd ?_ | (dsimp +zetaDelta only; split)

theorem doRefExpiry_keeps (x0 : Nat) (x1 : Nat) (x2 : Bool) (s : State) : Keeps 0x24 s (@doRefExpiry x0 x1 x2 s) := by
  delta doRefExpiry; repeat' with_reducible first
    | extract_lets | assumption | exact Keeps.refl | refine (setCl_keeps ..).step ?_ rfl
    | refine (refBad_keeps ..).step ?_ rfl | apply Keeps.ite | refine Keeps.foldl ?_ fun _ _ _ => ?_
    | refine Keeps.foldl1 ?_ fun _ _ _ => ?_ | refine Keeps.foldl2 ?_ fun _ _ _ => ?_
    | refine Keeps.foldl22 ?_ fun _ _ _ => ?_ | apply Keeps.forLanes | apply Keeps.getD | split | (intro _ _ _)
    | (intro _ _) | fail_if_no_progress refine Keeps.upd ?_ | (dsimp +zetaDelta only; split)

theorem doRefOut_keeps (x0 : Nat) (x1 : Nat) (s : State) : Keeps 0x104234 s (@doRefOut x0 x1 s) := by
  delta doRefOut; repeat' with_reducible first
    | extract_lets | assumption | exact Keeps.refl | refine (calHoldAdc_keeps ..).step ?_ rfl
    | refine (refBad_keeps ..).step ?_ rfl | refine (setCl_keeps ..).step ?_ rfl | apply Keeps.ite
    | refine Keeps.foldl ?_ fun _ _ _ => ?_ | refine Keeps.foldl1 ?_ fun _ _ _ => ?_
    | refine Keeps.foldl2 ?_ fun _ _ _ => ?_ | refine Keeps.foldl22 ?_ fun _ _ _ => ?_ | apply Keeps.forLanes
    | apply Keeps.getD | split | (intro _ _ _) | (intro _ _) | fail_if_no_progress refine Keeps.upd ?_
    | (dsimp +zetaDelta only; split)

theorem doRefSelect_keeps (x0 : Nat) (x1 : Word) (s : State) : Keeps 0x104234 s (@doRefSelect x0 x1 s) := by
  delta doRefSelect; repeat' with_reducible first
    | extract_lets | assumption | exact Keeps.refl | refine (refSelect_keeps ..).step ?_ rfl | apply Keeps.ite
    | refine Keeps.foldl ?_ fun _ _ _ => ?_ | refine Keeps.foldl1 ?_ fun _ _ _ => ?_
    | refine Keeps.foldl2 ?_ fun _ _ _ => ?_ | refine Keeps.foldl22 ?_ fun _ _ _ => ?_ | apply Keeps.forLanes
    | apply Keeps.getD | split | (intro _ _ _) | (intro _ _) | fail_if_no_progress refine Keeps.upd ?_
    | (dsimp +zetaDelta only; split)

theorem doToneZeroCrossing_keeps (x0 : Nat) (s : State) : Keeps 0x104214 s (@doToneZeroCrossing x0 s) := by
  delta doToneZeroCrossing; repeat' with_reducible first
    | extract_lets | assumption | exact Keeps.refl | refine (putLaneBuf_keeps ..).step ?_ rfl | apply Keeps.ite
    | refine Keeps.foldl ?_ fun _ _ _ => ?_ | refine Keeps.foldl1 ?_ fun _ _ _ => ?_
    | refine Keeps.foldl2 ?_ fun _ _ _ => ?_ | refine Keeps.foldl22 ?_ fun _ _ _ => ?_ | apply Keeps.forLanes
    | apply Keeps.getD | split | (intro _ _ _) | (intro _ _) | fail_if_no_progress refine Keeps.upd ?_
    | (dsimp +zetaDelta only; split)

theorem reResult_keeps (s : State) (x1 : Nat) (x2 : LaneRes) : Keeps 0x4 s (@State.reResult s x1 x2) := by
  delta State.reResult; repeat' with_reducible first
    | extract_lets | assumption | exact Keeps.refl | refine (setF_keeps ..).step ?_ rfl | apply Keeps.ite
    | refine Keeps.foldl ?_ fun _ _ _ => ?_ | refine Keeps.foldl1 ?_ fun _ _ _ => ?_
    | refine Keeps.foldl2 ?_ fun _ _ _ => ?_ | refine Keeps.foldl22 ?_ fun _ _ _ => ?_ | apply Keeps.forLanes
    | apply Keeps.getD | split | (intro _ _ _) | (intro _ _) | fail_if_no_progress refine Keeps.upd ?_
    | (dsimp +zetaDelta only; split)

theorem abortLane_keeps (s : State) (x1 : Nat) : Keeps 0x34 s (@State.abortLane s x1) := by
  delta State.abortLane; repeat' with_reducible first
    | extract_lets | assumption | exact Keeps.refl | refine (clRedecide_keeps ..).step ?_ rfl
    | refine (setLane_keeps ..).step ?_ rfl | refine (reResult_keeps ..).step ?_ rfl | apply Keeps.ite
    | refine Keeps.foldl ?_ fun _ _ _ => ?_ | refine Keeps.foldl1 ?_ fun _ _ _ => ?_
    | refine Keeps.foldl2 ?_ fun _ _ _ => ?_ | refine Keeps.foldl22 ?_ fun _ _ _ => ?_ | apply Keeps.forLanes
    | apply Keeps.getD | split | (intro _ _ _) | (intro _ _) | fail_if_no_progress refine Keeps.upd ?_
    | (dsimp +zetaDelta only; split)

theorem calAbandon_keeps (s : State) (x1 : Nat) : Keeps 0x184234 s (@State.calAbandon s x1) := by
  delta State.calAbandon; repeat' with_reducible first
    | extract_lets | assumption | exact Keeps.refl | refine (setF_keeps ..).step ?_ rfl
    | refine (refSelect_keeps ..).step ?_ rfl | apply Keeps.ite | refine Keeps.foldl ?_ fun _ _ _ => ?_
    | refine Keeps.foldl1 ?_ fun _ _ _ => ?_ | refine Keeps.foldl2 ?_ fun _ _ _ => ?_
    | refine Keeps.foldl22 ?_ fun _ _ _ => ?_ | apply Keeps.forLanes | apply Keeps.getD | split | (intro _ _ _)
    | (intro _ _) | fail_if_no_progress refine Keeps.upd ?_ | (dsimp +zetaDelta only; split)

theorem calAbandonMet_keeps (s : State) : Keeps 0x184234 s (@State.calAbandonMet s) := by
  delta State.calAbandonMet; repeat' with_reducible first
    | extract_lets | assumption | exact Keeps.refl | refine (calAbandon_keeps ..).step ?_ rfl | apply Keeps.ite
    | refine Keeps.foldl ?_ fun _ _ _ => ?_ | refine Keeps.foldl1 ?_ fun _ _ _ => ?_
    | refine Keeps.foldl2 ?_ fun _ _ _ => ?_ | refine Keeps.foldl22 ?_ fun _ _ _ => ?_ | apply Keeps.forLanes
    | apply Keeps.getD | split | (intro _ _ _) | (intro _ _) | fail_if_no_progress refine Keeps.upd ?_
    | (dsimp +zetaDelta only; split)

theorem calAgain_keeps (s : State) (x1 : Nat) : Keeps 0x184234 s (@State.calAgain s x1) := by
  delta State.calAgain; repeat' with_reducible first
    | extract_lets | assumption | exact Keeps.refl | refine (calHoldAdc_keeps ..).step ?_ rfl
    | refine (setF_keeps ..).step ?_ rfl | refine (refSelect_keeps ..).step ?_ rfl | apply Keeps.ite
    | refine Keeps.foldl ?_ fun _ _ _ => ?_ | refine Keeps.foldl1 ?_ fun _ _ _ => ?_
    | refine Keeps.foldl2 ?_ fun _ _ _ => ?_ | refine Keeps.foldl22 ?_ fun _ _ _ => ?_ | apply Keeps.forLanes
    | apply Keeps.getD | split | (intro _ _ _) | (intro _ _) | fail_if_no_progress refine Keeps.upd ?_
    | (dsimp +zetaDelta only; split)

theorem calMeet_keeps (s : State) (x1 : Nat) : Keeps 0x80000 s (@State.calMeet s x1) := by
  delta State.calMeet; repeat' with_reducible first
    | extract_lets | assumption | exact Keeps.refl | apply Keeps.ite | refine Keeps.foldl ?_ fun _ _ _ => ?_
    | refine Keeps.foldl1 ?_ fun _ _ _ => ?_ | refine Keeps.foldl2 ?_ fun _ _ _ => ?_
    | refine Keeps.foldl22 ?_ fun _ _ _ => ?_ | apply Keeps.forLanes | apply Keeps.getD | split | (intro _ _ _)
    | (intro _ _) | fail_if_no_progress refine Keeps.upd ?_ | (dsimp +zetaDelta only; split)

theorem supersede_keeps (s : State) (x1 : Nat) : Keeps 0x104034 s (@State.supersede s x1) := by
  delta State.supersede; repeat' with_reducible first
    | extract_lets | assumption | exact Keeps.refl | refine (raise_keeps ..).step ?_ rfl
    | refine (clDecide_keeps ..).step ?_ rfl | refine (reResult_keeps ..).step ?_ rfl
    | refine (writeMeas_keeps ..).step ?_ rfl | refine (setLane_keeps ..).step ?_ rfl | apply Keeps.ite
    | refine Keeps.foldl ?_ fun _ _ _ => ?_ | refine Keeps.foldl1 ?_ fun _ _ _ => ?_
    | refine Keeps.foldl2 ?_ fun _ _ _ => ?_ | refine Keeps.foldl22 ?_ fun _ _ _ => ?_ | apply Keeps.forLanes
    | apply Keeps.getD | split | (intro _ _ _) | (intro _ _) | fail_if_no_progress refine Keeps.upd ?_
    | (dsimp +zetaDelta only; split)

theorem startTrans_keeps (s : State) (x1 : Nat) (x2 : Nat) (x3 : Nat) (x4 : Bool) : Keeps 0x184234 s
    (@State.startTrans s x1 x2 x3 x4) := by
  delta State.startTrans; repeat' with_reducible first
    | extract_lets | assumption | exact Keeps.refl | refine (supersede_keeps ..).step ?_ rfl
    | refine (foldSp_keeps ..).step ?_ rfl | refine (putLane_keeps ..).step ?_ rfl
    | refine (raise_keeps ..).step ?_ rfl | refine (bump_keeps ..).step ?_ rfl | refine (setCl_keeps ..).step ?_ rfl
    | refine (calMeet_keeps ..).step ?_ rfl | refine (abortLane_keeps ..).step ?_ rfl | apply Keeps.ite
    | refine Keeps.foldl ?_ fun _ _ _ => ?_ | refine Keeps.foldl1 ?_ fun _ _ _ => ?_
    | refine Keeps.foldl2 ?_ fun _ _ _ => ?_ | refine Keeps.foldl22 ?_ fun _ _ _ => ?_ | apply Keeps.forLanes
    | apply Keeps.getD | split | (intro _ _ _) | (intro _ _) | fail_if_no_progress refine Keeps.upd ?_
    | (dsimp +zetaDelta only; split)

theorem doClusterReport_keeps (x0 : Nat) (x1 : Nat) (s : State) : Keeps 0x184274 s (@doClusterReport x0 x1 s) := by
  delta doClusterReport; repeat' with_reducible first
    | extract_lets | assumption | exact Keeps.refl | refine (setReg_keeps ..).step ?_ rfl
    | refine (setCl_keeps ..).step ?_ rfl | refine (calAgain_keeps ..).step ?_ rfl
    | refine (icEdge_keeps ..).step ?_ rfl | apply Keeps.ite | refine Keeps.foldl ?_ fun _ _ _ => ?_
    | refine Keeps.foldl1 ?_ fun _ _ _ => ?_ | refine Keeps.foldl2 ?_ fun _ _ _ => ?_
    | refine Keeps.foldl22 ?_ fun _ _ _ => ?_ | apply Keeps.forLanes | apply Keeps.getD | split | (intro _ _ _)
    | (intro _ _) | fail_if_no_progress refine Keeps.upd ?_ | (dsimp +zetaDelta only; split)

theorem doHandOver_keeps (x0 : Nat) (x1 : Nat) (s : State) : Keeps 0x104294 s (@doHandOver x0 x1 s) := by
  delta doHandOver; repeat' with_reducible first
    | extract_lets | assumption | exact Keeps.refl | refine (passTo_keeps ..).step ?_ rfl
    | refine (putLane_keeps ..).step ?_ rfl | apply Keeps.ite | refine Keeps.foldl ?_ fun _ _ _ => ?_
    | refine Keeps.foldl1 ?_ fun _ _ _ => ?_ | refine Keeps.foldl2 ?_ fun _ _ _ => ?_
    | refine Keeps.foldl22 ?_ fun _ _ _ => ?_ | apply Keeps.forLanes | apply Keeps.getD | split | (intro _ _ _)
    | (intro _ _) | fail_if_no_progress refine Keeps.upd ?_ | (dsimp +zetaDelta only; split)

theorem doMeasRecord_keeps (x0 : Nat) (x1 : Nat) (s : State) : Keeps 0x4094 s (@doMeasRecord x0 x1 s) := by
  delta doMeasRecord; repeat' with_reducible first
    | extract_lets | assumption | exact Keeps.refl | refine (passTo_keeps ..).step ?_ rfl
    | refine (writeMeas_keeps ..).step ?_ rfl | refine (setLane_keeps ..).step ?_ rfl | apply Keeps.ite
    | refine Keeps.foldl ?_ fun _ _ _ => ?_ | refine Keeps.foldl1 ?_ fun _ _ _ => ?_
    | refine Keeps.foldl2 ?_ fun _ _ _ => ?_ | refine Keeps.foldl22 ?_ fun _ _ _ => ?_ | apply Keeps.forLanes
    | apply Keeps.getD | split | (intro _ _ _) | (intro _ _) | fail_if_no_progress refine Keeps.upd ?_
    | (dsimp +zetaDelta only; split)

end Sys2Proof.Machine
end

