-- ==== Sys2Proof/Laws/KeepsPath.lean ====
section
/-! SUPPORT. What each operation can change, one lemma each, the parts as a set of bits in the order of Part: the scheduler, the path service, pairs and fabrics. -/
namespace Sys2Proof.Machine
set_option Elab.async false

variable {m : Nat} {s₀ s : State}

theorem bank0_keeps (s : State) (x1 : Nat) : Keeps 0x204 s (@State.bank0 s x1) := by
  delta State.bank0; repeat' with_reducible first
    | extract_lets | assumption | exact Keeps.refl | refine (setF_keeps ..).step ?_ rfl | apply Keeps.ite
    | refine Keeps.foldl ?_ fun _ _ _ => ?_ | refine Keeps.foldl1 ?_ fun _ _ _ => ?_
    | refine Keeps.foldl2 ?_ fun _ _ _ => ?_ | refine Keeps.foldl22 ?_ fun _ _ _ => ?_ | apply Keeps.forLanes
    | apply Keeps.getD | split | (intro _ _ _) | (intro _ _) | fail_if_no_progress refine Keeps.upd ?_
    | (dsimp +zetaDelta only; split)

theorem bankBack_keeps (s : State) (x1 : List Nat) : Keeps 0x80204 s (@State.bankBack s x1) := by
  delta State.bankBack; repeat' with_reducible first
    | extract_lets | assumption | exact Keeps.refl | refine (bank0_keeps ..).step ?_ rfl | apply Keeps.ite
    | refine Keeps.foldl ?_ fun _ _ _ => ?_ | refine Keeps.foldl1 ?_ fun _ _ _ => ?_
    | refine Keeps.foldl2 ?_ fun _ _ _ => ?_ | refine Keeps.foldl22 ?_ fun _ _ _ => ?_ | apply Keeps.forLanes
    | apply Keeps.getD | split | (intro _ _ _) | (intro _ _) | fail_if_no_progress refine Keeps.upd ?_
    | (dsimp +zetaDelta only; split)

theorem selectBank1_keeps (x0 : Bool) (s : State) (x2 : Nat) : Keeps 0x80204 s (@State.selectBank1 x0 s x2) := by
  delta State.selectBank1; repeat' with_reducible first
    | extract_lets | assumption | exact Keeps.refl | refine (setF_keeps ..).step ?_ rfl | apply Keeps.ite
    | refine Keeps.foldl ?_ fun _ _ _ => ?_ | refine Keeps.foldl1 ?_ fun _ _ _ => ?_
    | refine Keeps.foldl2 ?_ fun _ _ _ => ?_ | refine Keeps.foldl22 ?_ fun _ _ _ => ?_ | apply Keeps.forLanes
    | apply Keeps.getD | split | (intro _ _ _) | (intro _ _) | fail_if_no_progress refine Keeps.upd ?_
    | (dsimp +zetaDelta only; split)

theorem handAnn_keeps (s : State) (x1 : Nat) (x2 : List Byte) : Keeps 0x100 s (@State.handAnn s x1 x2) := by
  delta State.handAnn; repeat' with_reducible first
    | extract_lets | assumption | exact Keeps.refl | apply Keeps.ite | refine Keeps.foldl ?_ fun _ _ _ => ?_
    | refine Keeps.foldl1 ?_ fun _ _ _ => ?_ | refine Keeps.foldl2 ?_ fun _ _ _ => ?_
    | refine Keeps.foldl22 ?_ fun _ _ _ => ?_ | apply Keeps.forLanes | apply Keeps.getD | split | (intro _ _ _)
    | (intro _ _) | fail_if_no_progress refine Keeps.upd ?_ | (dsimp +zetaDelta only; split)

theorem mirSend_keeps (s : State) (x1 : MirMsg) : Keeps 0x400 s (@State.mirSend s x1) := by
  delta State.mirSend; repeat' with_reducible first
    | extract_lets | assumption | exact Keeps.refl | apply Keeps.ite | refine Keeps.foldl ?_ fun _ _ _ => ?_
    | refine Keeps.foldl1 ?_ fun _ _ _ => ?_ | refine Keeps.foldl2 ?_ fun _ _ _ => ?_
    | refine Keeps.foldl22 ?_ fun _ _ _ => ?_ | apply Keeps.forLanes | apply Keeps.getD | split | (intro _ _ _)
    | (intro _ _) | fail_if_no_progress refine Keeps.upd ?_ | (dsimp +zetaDelta only; split)

theorem announce_keeps (s : State) (x1 : Nat) (x2 : Bool) (x3 : List Byte) : Keeps 0x500 s (@State.announce s x1 x2
    x3) := by
  delta State.announce; repeat' with_reducible first
    | extract_lets | assumption | exact Keeps.refl | refine (handAnn_keeps ..).step ?_ rfl
    | refine (mirSend_keeps ..).step ?_ rfl | apply Keeps.ite | refine Keeps.foldl ?_ fun _ _ _ => ?_
    | refine Keeps.foldl1 ?_ fun _ _ _ => ?_ | refine Keeps.foldl2 ?_ fun _ _ _ => ?_
    | refine Keeps.foldl22 ?_ fun _ _ _ => ?_ | apply Keeps.forLanes | apply Keeps.getD | split | (intro _ _ _)
    | (intro _ _) | fail_if_no_progress refine Keeps.upd ?_ | (dsimp +zetaDelta only; split)

theorem notice_keeps (s : State) (x1 : Nat) (x2 : Nat) (x3 : Nat) (x4 : Bool) (x5 : List NotEnt) : Keeps 0x500 s
    (@State.notice s x1 x2 x3 x4 x5) := by
  delta State.notice; repeat' with_reducible first
    | extract_lets | assumption | exact Keeps.refl | refine (announce_keeps ..).step ?_ rfl | apply Keeps.ite
    | refine Keeps.foldl ?_ fun _ _ _ => ?_ | refine Keeps.foldl1 ?_ fun _ _ _ => ?_
    | refine Keeps.foldl2 ?_ fun _ _ _ => ?_ | refine Keeps.foldl22 ?_ fun _ _ _ => ?_ | apply Keeps.forLanes
    | apply Keeps.getD | split | (intro _ _ _) | (intro _ _) | fail_if_no_progress refine Keeps.upd ?_
    | (dsimp +zetaDelta only; split)

theorem announceRb_keeps (x0 : Nat) (x1 : Nat) (s : State) : Keeps 0x500 s (@State.announceRb x0 x1 s) := by
  delta State.announceRb; repeat' with_reducible first
    | extract_lets | assumption | exact Keeps.refl | refine (notice_keeps ..).step ?_ rfl | apply Keeps.ite
    | refine Keeps.foldl ?_ fun _ _ _ => ?_ | refine Keeps.foldl1 ?_ fun _ _ _ => ?_
    | refine Keeps.foldl2 ?_ fun _ _ _ => ?_ | refine Keeps.foldl22 ?_ fun _ _ _ => ?_ | apply Keeps.forLanes
    | apply Keeps.getD | split | (intro _ _ _) | (intro _ _) | fail_if_no_progress refine Keeps.upd ?_
    | (dsimp +zetaDelta only; split)

theorem afterFire_keeps (x0 : Bool) (x1 : Nat) (s : State) (x3 : PatEnt) : Keeps 0x80704 s (@State.afterFire x0 x1 s
    x3) := by
  delta State.afterFire; repeat' with_reducible first
    | extract_lets | assumption | exact Keeps.refl | refine (bankBack_keeps ..).step ?_ rfl
    | refine (selectBank1_keeps ..).step ?_ rfl | refine (notice_keeps ..).step ?_ rfl
    | refine (announceRb_keeps ..).step ?_ rfl | apply Keeps.ite | refine Keeps.foldl ?_ fun _ _ _ => ?_
    | refine Keeps.foldl1 ?_ fun _ _ _ => ?_ | refine Keeps.foldl2 ?_ fun _ _ _ => ?_
    | refine Keeps.foldl22 ?_ fun _ _ _ => ?_ | apply Keeps.forLanes | apply Keeps.getD | split | (intro _ _ _)
    | (intro _ _) | fail_if_no_progress refine Keeps.upd ?_ | (dsimp +zetaDelta only; split)

theorem applySet_keeps (s : State) (x1 : LaneSet) : Keeps 0x14 s (@State.applySet s x1) := by
  delta State.applySet; repeat' with_reducible first
    | extract_lets | assumption | exact Keeps.refl | refine (setLane_keeps ..).step ?_ rfl
    | refine (doSetptWrite_keeps ..).step ?_ rfl | apply Keeps.ite | refine Keeps.foldl ?_ fun _ _ _ => ?_
    | refine Keeps.foldl1 ?_ fun _ _ _ => ?_ | refine Keeps.foldl2 ?_ fun _ _ _ => ?_
    | refine Keeps.foldl22 ?_ fun _ _ _ => ?_ | apply Keeps.forLanes | apply Keeps.getD | split | (intro _ _ _)
    | (intro _ _) | fail_if_no_progress refine Keeps.upd ?_ | (dsimp +zetaDelta only; split)

theorem calForget_keeps (s : State) (x1 : List Rt) : Keeps 0x80000 s (@State.calForget s x1) := by
  delta State.calForget; repeat' with_reducible first
    | extract_lets | assumption | exact Keeps.refl | apply Keeps.ite | refine Keeps.foldl ?_ fun _ _ _ => ?_
    | refine Keeps.foldl1 ?_ fun _ _ _ => ?_ | refine Keeps.foldl2 ?_ fun _ _ _ => ?_
    | refine Keeps.foldl22 ?_ fun _ _ _ => ?_ | apply Keeps.forLanes | apply Keeps.getD | split | (intro _ _ _)
    | (intro _ _) | fail_if_no_progress refine Keeps.upd ?_ | (dsimp +zetaDelta only; split)

theorem sendMap_keeps (s : State) (x1 : SMap (Option Route)) (x2 : Nat) (x3 : Nat) : Keeps 0x500 s (@State.sendMap s
    x1 x2 x3) := by
  delta State.sendMap; repeat' with_reducible first
    | extract_lets | assumption | exact Keeps.refl | refine (announce_keeps ..).step ?_ rfl | apply Keeps.ite
    | refine Keeps.foldl ?_ fun _ _ _ => ?_ | refine Keeps.foldl1 ?_ fun _ _ _ => ?_
    | refine Keeps.foldl2 ?_ fun _ _ _ => ?_ | refine Keeps.foldl22 ?_ fun _ _ _ => ?_ | apply Keeps.forLanes
    | apply Keeps.getD | split | (intro _ _ _) | (intro _ _) | fail_if_no_progress refine Keeps.upd ?_
    | (dsimp +zetaDelta only; split)

theorem sendSched_keeps (s : State) (x1 : Nat) (x2 : Bool) : Keeps 0x500 s (@State.sendSched s x1 x2) := by
  delta State.sendSched; repeat' with_reducible first
    | extract_lets | assumption | exact Keeps.refl | refine (announce_keeps ..).step ?_ rfl | apply Keeps.ite
    | refine Keeps.foldl ?_ fun _ _ _ => ?_ | refine Keeps.foldl1 ?_ fun _ _ _ => ?_
    | refine Keeps.foldl2 ?_ fun _ _ _ => ?_ | refine Keeps.foldl22 ?_ fun _ _ _ => ?_ | apply Keeps.forLanes
    | apply Keeps.getD | split | (intro _ _ _) | (intro _ _) | fail_if_no_progress refine Keeps.upd ?_
    | (dsimp +zetaDelta only; split)

theorem sendCalendar_keeps (s : State) (x1 : Nat) (x2 : Bool) : Keeps 0x500 s (@State.sendCalendar s x1 x2) := by
  delta State.sendCalendar; repeat' with_reducible first
    | extract_lets | assumption | exact Keeps.refl | refine (sendMap_keeps ..).step ?_ rfl
    | refine (sendSched_keeps ..).step ?_ rfl | apply Keeps.ite | refine Keeps.foldl ?_ fun _ _ _ => ?_
    | refine Keeps.foldl1 ?_ fun _ _ _ => ?_ | refine Keeps.foldl2 ?_ fun _ _ _ => ?_
    | refine Keeps.foldl22 ?_ fun _ _ _ => ?_ | apply Keeps.forLanes | apply Keeps.getD | split | (intro _ _ _)
    | (intro _ _) | fail_if_no_progress refine Keeps.upd ?_ | (dsimp +zetaDelta only; split)

theorem sendCtrl_keeps (s : State) (x1 : Nat) (x2 : Nat) : Keeps 0x400 s (@State.sendCtrl s x1 x2) := by
  delta State.sendCtrl; repeat' with_reducible first
    | extract_lets | assumption | exact Keeps.refl | refine (mirSend_keeps ..).step ?_ rfl | apply Keeps.ite
    | refine Keeps.foldl ?_ fun _ _ _ => ?_ | refine Keeps.foldl1 ?_ fun _ _ _ => ?_
    | refine Keeps.foldl2 ?_ fun _ _ _ => ?_ | refine Keeps.foldl22 ?_ fun _ _ _ => ?_ | apply Keeps.forLanes
    | apply Keeps.getD | split | (intro _ _ _) | (intro _ _) | fail_if_no_progress refine Keeps.upd ?_
    | (dsimp +zetaDelta only; split)

theorem calPending_keeps (s : State) : Keeps 0x100504 s (@State.calPending s) := by
  delta State.calPending; repeat' with_reducible first
    | extract_lets | assumption | exact Keeps.refl | refine (raise_keeps ..).step ?_ rfl
    | refine (sendCalendar_keeps ..).step ?_ rfl | refine (sendCtrl_keeps ..).step ?_ rfl | apply Keeps.ite
    | refine Keeps.foldl ?_ fun _ _ _ => ?_ | refine Keeps.foldl1 ?_ fun _ _ _ => ?_
    | refine Keeps.foldl2 ?_ fun _ _ _ => ?_ | refine Keeps.foldl22 ?_ fun _ _ _ => ?_ | apply Keeps.forLanes
    | apply Keeps.getD | split | (intro _ _ _) | (intro _ _) | fail_if_no_progress refine Keeps.upd ?_
    | (dsimp +zetaDelta only; split)

theorem calResume_keeps (s : State) : Keeps 0x100504 s (@State.calResume s) := by
  delta State.calResume; repeat' with_reducible first
    | extract_lets | assumption | exact Keeps.refl | refine (calPending_keeps ..).step ?_ rfl | apply Keeps.ite
    | refine Keeps.foldl ?_ fun _ _ _ => ?_ | refine Keeps.foldl1 ?_ fun _ _ _ => ?_
    | refine Keeps.foldl2 ?_ fun _ _ _ => ?_ | refine Keeps.foldl22 ?_ fun _ _ _ => ?_ | apply Keeps.forLanes
    | apply Keeps.getD | split | (intro _ _ _) | (intro _ _) | fail_if_no_progress refine Keeps.upd ?_
    | (dsimp +zetaDelta only; split)

theorem giveWay_keeps (s : State) (x1 : List PatEnt) (p) (hp : @State.giveWay s x1 = p) : Keeps 0x80204 s p.2 := by
  delta State.giveWay at hp; subst hp
  repeat' with_reducible first
    | extract_lets | assumption | exact Keeps.refl | refine (bankBack_keeps ..).step ?_ rfl | apply Keeps.ite
    | refine Keeps.foldl ?_ fun _ _ _ => ?_ | refine Keeps.foldl1 ?_ fun _ _ _ => ?_
    | refine Keeps.foldl2 ?_ fun _ _ _ => ?_ | refine Keeps.foldl22 ?_ fun _ _ _ => ?_ | apply Keeps.forLanes
    | apply Keeps.getD | split | (intro _ _ _) | (intro _ _) | fail_if_no_progress refine Keeps.upd ?_
    | (dsimp +zetaDelta only; split)

theorem markBy_keeps (s : State) (x1 : Nat) (x2 : Nat) : Keeps 0x40 s (@State.markBy s x1 x2) := by
  delta State.markBy; repeat' with_reducible first
    | extract_lets | assumption | exact Keeps.refl | apply Keeps.ite | refine Keeps.foldl ?_ fun _ _ _ => ?_
    | refine Keeps.foldl1 ?_ fun _ _ _ => ?_ | refine Keeps.foldl2 ?_ fun _ _ _ => ?_
    | refine Keeps.foldl22 ?_ fun _ _ _ => ?_ | apply Keeps.forLanes | apply Keeps.getD | split | (intro _ _ _)
    | (intro _ _) | fail_if_no_progress refine Keeps.upd ?_ | (dsimp +zetaDelta only; split)

theorem fireLane_keeps (x0 : Nat) (s : State) (x2 : Nat × Nat × Bool × PatKind) : Keeps 0x184274 s (@State.fireLane
    x0 s x2) := by
  delta State.fireLane; repeat' with_reducible first
    | extract_lets | assumption | exact Keeps.refl | refine (markBy_keeps ..).step ?_ rfl
    | refine (selectBank1_keeps ..).step ?_ rfl | refine (startTrans_keeps ..).step ?_ rfl | apply Keeps.ite
    | refine Keeps.foldl ?_ fun _ _ _ => ?_ | refine Keeps.foldl1 ?_ fun _ _ _ => ?_
    | refine Keeps.foldl2 ?_ fun _ _ _ => ?_ | refine Keeps.foldl22 ?_ fun _ _ _ => ?_ | apply Keeps.forLanes
    | apply Keeps.getD | split | (intro _ _ _) | (intro _ _) | fail_if_no_progress refine Keeps.upd ?_
    | (dsimp +zetaDelta only; split)

theorem modPat_keeps (s : State) (x1 : Nat) (x2 : PatEnt → PatEnt) : Keeps 0x100 s (@State.modPat s x1 x2) := by
  delta State.modPat; repeat' with_reducible first
    | extract_lets | assumption | exact Keeps.refl | apply Keeps.ite | refine Keeps.foldl ?_ fun _ _ _ => ?_
    | refine Keeps.foldl1 ?_ fun _ _ _ => ?_ | refine Keeps.foldl2 ?_ fun _ _ _ => ?_
    | refine Keeps.foldl22 ?_ fun _ _ _ => ?_ | apply Keeps.forLanes | apply Keeps.getD | split | (intro _ _ _)
    | (intro _ _) | fail_if_no_progress refine Keeps.upd ?_ | (dsimp +zetaDelta only; split)

theorem launch_keeps (x0 : Option Nat) (x1 : Nat) (s : State) (x3 : PatEnt) : Keeps 0x4144 s (@State.launch x0 x1 s
    x3) := by
  delta State.launch; repeat' with_reducible first
    | extract_lets | assumption | exact Keeps.refl | refine (modPat_keeps ..).step ?_ rfl
    | refine (offer_keeps ..).step ?_ rfl | apply Keeps.ite | refine Keeps.foldl ?_ fun _ _ _ => ?_
    | refine Keeps.foldl1 ?_ fun _ _ _ => ?_ | refine Keeps.foldl2 ?_ fun _ _ _ => ?_
    | refine Keeps.foldl22 ?_ fun _ _ _ => ?_ | apply Keeps.forLanes | apply Keeps.getD | split | (intro _ _ _)
    | (intro _ _) | fail_if_no_progress refine Keeps.upd ?_ | (dsimp +zetaDelta only; split)

theorem strobe_keeps (s : State) : Keeps 0x24 s (@State.strobe s) := by
  delta State.strobe; repeat' with_reducible first
    | extract_lets | assumption | exact Keeps.refl | refine (accTrigger_keeps ..).step ?_ rfl
    | refine (setCl_keeps ..).step ?_ rfl | apply Keeps.ite | refine Keeps.foldl ?_ fun _ _ _ => ?_
    | refine Keeps.foldl1 ?_ fun _ _ _ => ?_ | refine Keeps.foldl2 ?_ fun _ _ _ => ?_
    | refine Keeps.foldl22 ?_ fun _ _ _ => ?_ | apply Keeps.forLanes | apply Keeps.getD | split | (intro _ _ _)
    | (intro _ _) | fail_if_no_progress refine Keeps.upd ?_ | (dsimp +zetaDelta only; split)

theorem fire_keeps (s : State) (x1 : Nat) (x2 : Option Nat) (x3 : List PatEnt) : Keeps 0x184774 s (@State.fire s x1
    x2 x3) := by
  delta State.fire; repeat' with_reducible first
    | extract_lets | assumption | exact Keeps.refl | refine (giveWay_keeps _ _ _ rfl).step ?_ rfl
    | refine (giveWay_keeps _ _ (_, _) (by assumption)).step ?_ rfl | refine (calForget_keeps ..).step ?_ rfl
    | refine (applySet_keeps ..).step ?_ rfl | refine (calAbandonMet_keeps ..).step ?_ rfl
    | refine (fireLane_keeps ..).step ?_ rfl | refine (launch_keeps ..).step ?_ rfl
    | refine (strobe_keeps ..).step ?_ rfl | refine (afterFire_keeps ..).step ?_ rfl | apply Keeps.ite
    | refine Keeps.foldl ?_ fun _ _ _ => ?_ | refine Keeps.foldl1 ?_ fun _ _ _ => ?_
    | refine Keeps.foldl2 ?_ fun _ _ _ => ?_ | refine Keeps.foldl22 ?_ fun _ _ _ => ?_ | apply Keeps.forLanes
    | apply Keeps.getD | split | (intro _ _ _) | (intro _ _) | fail_if_no_progress refine Keeps.upd ?_
    | (dsimp +zetaDelta only; split)

theorem holdNext_keeps (s : State) (x1 : Nat) (x2 : PatEnt) : Keeps 0x100 s (@State.holdNext s x1 x2) := by
  delta State.holdNext; repeat' with_reducible first
    | extract_lets | assumption | exact Keeps.refl | refine (modPat_keeps ..).step ?_ rfl | apply Keeps.ite
    | refine Keeps.foldl ?_ fun _ _ _ => ?_ | refine Keeps.foldl1 ?_ fun _ _ _ => ?_
    | refine Keeps.foldl2 ?_ fun _ _ _ => ?_ | refine Keeps.foldl22 ?_ fun _ _ _ => ?_ | apply Keeps.forLanes
    | apply Keeps.getD | split | (intro _ _ _) | (intro _ _) | fail_if_no_progress refine Keeps.upd ?_
    | (dsimp +zetaDelta only; split)

theorem fireAt_keeps (s : State) (x1 : Nat) (x2 : Bool) : Keeps 0x184774 s (@State.fireAt s x1 x2) := by
  delta State.fireAt; repeat' with_reducible first
    | extract_lets | assumption | exact Keeps.refl | refine (raise_keeps ..).step ?_ rfl
    | refine (modPat_keeps ..).step ?_ rfl | refine (holdNext_keeps ..).step ?_ rfl
    | refine (fire_keeps ..).step ?_ rfl | apply Keeps.ite | refine Keeps.foldl ?_ fun _ _ _ => ?_
    | refine Keeps.foldl1 ?_ fun _ _ _ => ?_ | refine Keeps.foldl2 ?_ fun _ _ _ => ?_
    | refine Keeps.foldl22 ?_ fun _ _ _ => ?_ | apply Keeps.forLanes | apply Keeps.getD | split | (intro _ _ _)
    | (intro _ _) | fail_if_no_progress refine Keeps.upd ?_ | (dsimp +zetaDelta only; split)

theorem freePat_keeps (s : State) (x1 : Nat) : Keeps 0x100 s (@State.freePat s x1) := by
  delta State.freePat; repeat' with_reducible first
    | extract_lets | assumption | exact Keeps.refl | apply Keeps.ite | refine Keeps.foldl ?_ fun _ _ _ => ?_
    | refine Keeps.foldl1 ?_ fun _ _ _ => ?_ | refine Keeps.foldl2 ?_ fun _ _ _ => ?_
    | refine Keeps.foldl22 ?_ fun _ _ _ => ?_ | apply Keeps.forLanes | apply Keeps.getD | split | (intro _ _ _)
    | (intro _ _) | fail_if_no_progress refine Keeps.upd ?_ | (dsimp +zetaDelta only; split)

theorem newPat_keeps (s : State) (kind : PatKind) (st : PatSt) (l : List LaneSet) (due lead : Nat) (timed : Bool) (layer :
    Nat) (p)
    (hp : s.newPat kind st l due lead timed layer = some p) : Keeps 0x200100 s p.2 := by
  simp only [State.newPat, State.takeFree] at hp
  split at hp
  · cases hp
  · simp only [Option.some.injEq] at hp
    subst hp
    constructor
    · rfl
    · exact id
    · intro p hp; cases p <;> first | rfl | exact absurd hp (by decide) | exact ⟨rfl, rfl, rfl, rfl⟩

theorem nextTurn_keeps (s : State) (x1 : Nat) (x2 : Nat) : Keeps 0x100 s (@State.nextTurn s x1 x2) := by
  delta State.nextTurn; repeat' with_reducible first
    | extract_lets | assumption | exact Keeps.refl | apply Keeps.ite | refine Keeps.foldl ?_ fun _ _ _ => ?_
    | refine Keeps.foldl1 ?_ fun _ _ _ => ?_ | refine Keeps.foldl2 ?_ fun _ _ _ => ?_
    | refine Keeps.foldl22 ?_ fun _ _ _ => ?_ | apply Keeps.forLanes | apply Keeps.getD | split | (intro _ _ _)
    | (intro _ _) | fail_if_no_progress refine Keeps.upd ?_ | (dsimp +zetaDelta only; split)

theorem releaseLayers_keeps (s : State) : Keeps 0x300 s (@State.releaseLayers s) := by
  delta State.releaseLayers; repeat' with_reducible first
    | extract_lets | assumption | exact Keeps.refl | apply Keeps.ite | refine Keeps.foldl ?_ fun _ _ _ => ?_
    | refine Keeps.foldl1 ?_ fun _ _ _ => ?_ | refine Keeps.foldl2 ?_ fun _ _ _ => ?_
    | refine Keeps.foldl22 ?_ fun _ _ _ => ?_ | apply Keeps.forLanes | apply Keeps.getD | split | (intro _ _ _)
    | (intro _ _) | fail_if_no_progress refine Keeps.upd ?_ | (dsimp +zetaDelta only; split)

theorem resident_keeps (s : State) (x1 : Nat) (p) (hp : @State.resident s x1 = some p) : Keeps 0x200300 s p.2 := by
  delta State.resident at hp; (repeat' (first | extract_lets at hp | split at hp)) <;> (first | cases hp | skip)
  all_goals repeat' with_reducible first
    | extract_lets | assumption | exact Keeps.refl
    | refine (newPat_keeps _ _ _ _ _ _ _ _ (_, _) (by assumption)).step ?_ rfl
    | refine (newPat_keeps _ _ _ _ _ _ _ _ _ (by assumption)).step ?_ rfl | apply Keeps.ite
    | refine Keeps.foldl ?_ fun _ _ _ => ?_ | refine Keeps.foldl1 ?_ fun _ _ _ => ?_
    | refine Keeps.foldl2 ?_ fun _ _ _ => ?_ | refine Keeps.foldl22 ?_ fun _ _ _ => ?_ | apply Keeps.forLanes
    | apply Keeps.getD | split | (intro _ _ _) | (intro _ _) | fail_if_no_progress refine Keeps.upd ?_
    | (dsimp +zetaDelta only; split)

theorem turnPat_keeps (s : State) (x1 : Nat) (x2 : Nat) (p) (hp : @State.turnPat s x1 x2 = some p) : Keeps 0x200300 s
    p.2 := by
  delta State.turnPat at hp; (repeat' (first | extract_lets at hp | split at hp)) <;> (first | cases hp | skip)
  all_goals repeat' with_reducible first
    | extract_lets | assumption | exact Keeps.refl | refine (resident_keeps _ _ (_, _) (by assumption)).step ?_ rfl
    | refine (resident_keeps _ _ _ (by assumption)).step ?_ rfl | apply Keeps.ite
    | refine Keeps.foldl ?_ fun _ _ _ => ?_ | refine Keeps.foldl1 ?_ fun _ _ _ => ?_
    | refine Keeps.foldl2 ?_ fun _ _ _ => ?_ | refine Keeps.foldl22 ?_ fun _ _ _ => ?_ | apply Keeps.forLanes
    | apply Keeps.getD | split | (intro _ _ _) | (intro _ _) | fail_if_no_progress refine Keeps.upd ?_
    | (dsimp +zetaDelta only; split)

theorem turn_keeps (s : State) (x1 : Nat) (x2 : Nat) : Keeps 0x384774 s (@State.turn s x1 x2) := by
  delta State.turn; repeat' with_reducible first
    | extract_lets | assumption | exact Keeps.refl | refine (raise_keeps ..).step ?_ rfl
    | refine (setF_keeps ..).step ?_ rfl | refine (turnPat_keeps _ _ _ (_, _) (by assumption)).step ?_ rfl
    | refine (turnPat_keeps _ _ _ _ (by assumption)).step ?_ rfl | refine (fire_keeps ..).step ?_ rfl
    | apply Keeps.ite | refine Keeps.foldl ?_ fun _ _ _ => ?_ | refine Keeps.foldl1 ?_ fun _ _ _ => ?_
    | refine Keeps.foldl2 ?_ fun _ _ _ => ?_ | refine Keeps.foldl22 ?_ fun _ _ _ => ?_ | apply Keeps.forLanes
    | apply Keeps.getD | split | (intro _ _ _) | (intro _ _) | fail_if_no_progress refine Keeps.upd ?_
    | (dsimp +zetaDelta only; split)

theorem doAnnRepeat_keeps (x0 : Nat) (s : State) : Keeps 0x580 s (@doAnnRepeat x0 s) := by
  delta doAnnRepeat; repeat' with_reducible first
    | extract_lets | assumption | exact Keeps.refl | refine (passTo_keeps ..).step ?_ rfl
    | refine (sendCalendar_keeps ..).step ?_ rfl | apply Keeps.ite | refine Keeps.foldl ?_ fun _ _ _ => ?_
    | refine Keeps.foldl1 ?_ fun _ _ _ => ?_ | refine Keeps.foldl2 ?_ fun _ _ _ => ?_
    | refine Keeps.foldl22 ?_ fun _ _ _ => ?_ | apply Keeps.forLanes | apply Keeps.getD | split | (intro _ _ _)
    | (intro _ _) | fail_if_no_progress refine Keeps.upd ?_ | (dsimp +zetaDelta only; split)

theorem doCalStart_keeps (x0 : Nat) (s : State) : Keeps 0x3867f4 s (@doCalStart x0 s) := by
  delta doCalStart; repeat' with_reducible first
    | extract_lets | assumption | exact Keeps.refl | refine (passTo_keeps ..).step ?_ rfl
    | refine (sendCtrl_keeps ..).step ?_ rfl | refine (raise_keeps ..).step ?_ rfl
    | refine (turn_keeps ..).step ?_ rfl | refine (schedEvent_keeps ..).step ?_ rfl
    | refine (nextTurn_keeps ..).step ?_ rfl | apply Keeps.ite | refine Keeps.foldl ?_ fun _ _ _ => ?_
    | refine Keeps.foldl1 ?_ fun _ _ _ => ?_ | refine Keeps.foldl2 ?_ fun _ _ _ => ?_
    | refine Keeps.foldl22 ?_ fun _ _ _ => ?_ | apply Keeps.forLanes | apply Keeps.getD | split | (intro _ _ _)
    | (intro _ _) | fail_if_no_progress refine Keeps.upd ?_ | (dsimp +zetaDelta only; split)

theorem doCalStartReq_keeps (x0 : Word) (x1 : Nat) (s : State) : Keeps 0x102584 s (@doCalStartReq x0 x1 s) := by
  delta doCalStartReq; repeat' with_reducible first
    | extract_lets | assumption | exact Keeps.refl | refine (wrCodes_keeps ..).step ?_ rfl
    | refine (passTo_keeps ..).step ?_ rfl | refine (setF_keeps ..).step ?_ rfl
    | refine (schedEvent_keeps ..).step ?_ rfl | refine (calPending_keeps ..).step ?_ rfl | apply Keeps.ite
    | refine Keeps.foldl ?_ fun _ _ _ => ?_ | refine Keeps.foldl1 ?_ fun _ _ _ => ?_
    | refine Keeps.foldl2 ?_ fun _ _ _ => ?_ | refine Keeps.foldl22 ?_ fun _ _ _ => ?_ | apply Keeps.forLanes
    | apply Keeps.getD | split | (intro _ _ _) | (intro _ _) | fail_if_no_progress refine Keeps.upd ?_
    | (dsimp +zetaDelta only; split)

theorem doCalStopReq_keeps (x0 : Word) (x1 : Nat) (s : State) : Keeps 0x584 s (@doCalStopReq x0 x1 s) := by
  delta doCalStopReq; repeat' with_reducible first
    | extract_lets | assumption | exact Keeps.refl | refine (wrCodes_keeps ..).step ?_ rfl
    | refine (passTo_keeps ..).step ?_ rfl | refine (setF_keeps ..).step ?_ rfl
    | refine (sendCtrl_keeps ..).step ?_ rfl | apply Keeps.ite | refine Keeps.foldl ?_ fun _ _ _ => ?_
    | refine Keeps.foldl1 ?_ fun _ _ _ => ?_ | refine Keeps.foldl2 ?_ fun _ _ _ => ?_
    | refine Keeps.foldl22 ?_ fun _ _ _ => ?_ | apply Keeps.forLanes | apply Keeps.getD | split | (intro _ _ _)
    | (intro _ _) | fail_if_no_progress refine Keeps.upd ?_ | (dsimp +zetaDelta only; split)

theorem doCalSwitchReq_keeps (x0 : Word) (x1 : Nat) (s : State) : Keeps 0x102584 s (@doCalSwitchReq x0 x1 s) := by
  delta doCalSwitchReq; repeat' with_reducible first
    | extract_lets | assumption | exact Keeps.refl | refine (passTo_keeps ..).step ?_ rfl
    | refine (raise_keeps ..).step ?_ rfl | refine (sendCalendar_keeps ..).step ?_ rfl
    | refine (schedEvent_keeps ..).step ?_ rfl | refine (sendCtrl_keeps ..).step ?_ rfl | apply Keeps.ite
    | refine Keeps.foldl ?_ fun _ _ _ => ?_ | refine Keeps.foldl1 ?_ fun _ _ _ => ?_
    | refine Keeps.foldl2 ?_ fun _ _ _ => ?_ | refine Keeps.foldl22 ?_ fun _ _ _ => ?_ | apply Keeps.forLanes
    | apply Keeps.getD | split | (intro _ _ _) | (intro _ _) | fail_if_no_progress refine Keeps.upd ?_
    | (dsimp +zetaDelta only; split)

theorem doCommitPoint_keeps (x0 : Nat) (s : State) : Keeps 0x180 s (@doCommitPoint x0 s) := by
  delta doCommitPoint; repeat' with_reducible first
    | extract_lets | assumption | exact Keeps.refl | refine (passTo_keeps ..).step ?_ rfl | apply Keeps.ite
    | refine Keeps.foldl ?_ fun _ _ _ => ?_ | refine Keeps.foldl1 ?_ fun _ _ _ => ?_
    | refine Keeps.foldl2 ?_ fun _ _ _ => ?_ | refine Keeps.foldl22 ?_ fun _ _ _ => ?_ | apply Keeps.forLanes
    | apply Keeps.getD | split | (intro _ _ _) | (intro _ _) | fail_if_no_progress refine Keeps.upd ?_
    | (dsimp +zetaDelta only; split)

theorem doYkGridWrite_keeps (x0 : Word) (s : State) : Keeps 0x102004 s (@doYkGridWrite x0 s) := by
  delta doYkGridWrite; repeat' with_reducible first
    | extract_lets | assumption | exact Keeps.refl | refine (setF_keeps ..).step ?_ rfl
    | refine (schedEvent_keeps ..).step ?_ rfl | refine (raise_keeps ..).step ?_ rfl | apply Keeps.ite
    | refine Keeps.foldl ?_ fun _ _ _ => ?_ | refine Keeps.foldl1 ?_ fun _ _ _ => ?_
    | refine Keeps.foldl2 ?_ fun _ _ _ => ?_ | refine Keeps.foldl22 ?_ fun _ _ _ => ?_ | apply Keeps.forLanes
    | apply Keeps.getD | split | (intro _ _ _) | (intro _ _) | fail_if_no_progress refine Keeps.upd ?_
    | (dsimp +zetaDelta only; split)

theorem openPath_keeps (s : State) (x1 : Nat) (x2 : Nat) (p) (hp : @State.openPath s x1 x2 = p) : Keeps 0x200000 s
    p.2.2 := by
  delta State.openPath at hp; subst hp
  repeat' with_reducible first
    | extract_lets | assumption | exact Keeps.refl | refine (takeFree_keeps _ _ rfl).step ?_ rfl
    | refine (takeFree_keeps _ (_, _) (by assumption)).step ?_ rfl | apply Keeps.ite
    | refine Keeps.foldl ?_ fun _ _ _ => ?_ | refine Keeps.foldl1 ?_ fun _ _ _ => ?_
    | refine Keeps.foldl2 ?_ fun _ _ _ => ?_ | refine Keeps.foldl22 ?_ fun _ _ _ => ?_ | apply Keeps.forLanes
    | apply Keeps.getD | split | (intro _ _ _) | (intro _ _) | fail_if_no_progress refine Keeps.upd ?_
    | (dsimp +zetaDelta only; split)

theorem setRec_keeps (s : State) (x1 : Nat) (x2 : PathRec) : Keeps 0x200 s (@State.setRec s x1 x2) := by
  delta State.setRec; repeat' with_reducible first
    | extract_lets | assumption | exact Keeps.refl | apply Keeps.ite | refine Keeps.foldl ?_ fun _ _ _ => ?_
    | refine Keeps.foldl1 ?_ fun _ _ _ => ?_ | refine Keeps.foldl2 ?_ fun _ _ _ => ?_
    | refine Keeps.foldl22 ?_ fun _ _ _ => ?_ | apply Keeps.forLanes | apply Keeps.getD | split | (intro _ _ _)
    | (intro _ _) | fail_if_no_progress refine Keeps.upd ?_ | (dsimp +zetaDelta only; split)

theorem doEqRefresh_keeps (x0 : Nat) (x1 : Nat) (s : State) : Keeps 0x300294 s (@doEqRefresh x0 x1 s) := by
  delta doEqRefresh; repeat' with_reducible first
    | extract_lets | assumption | exact Keeps.refl | refine (passTo_keeps ..).step ?_ rfl
    | refine (takeFree_keeps _ _ rfl).step ?_ rfl | refine (takeFree_keeps _ (_, _) (by assumption)).step ?_ rfl
    | refine (setLane_keeps ..).step ?_ rfl | refine (setRec_keeps ..).step ?_ rfl
    | refine (raise_keeps ..).step ?_ rfl | apply Keeps.ite | refine Keeps.foldl ?_ fun _ _ _ => ?_
    | refine Keeps.foldl1 ?_ fun _ _ _ => ?_ | refine Keeps.foldl2 ?_ fun _ _ _ => ?_
    | refine Keeps.foldl22 ?_ fun _ _ _ => ?_ | apply Keeps.forLanes | apply Keeps.getD | split | (intro _ _ _)
    | (intro _ _) | fail_if_no_progress refine Keeps.upd ?_ | (dsimp +zetaDelta only; split)

theorem addPlaced_keeps (s : State) (x1 : Placed) : Keeps 0x200 s (@State.addPlaced s x1) := by
  delta State.addPlaced; repeat' with_reducible first
    | extract_lets | assumption | exact Keeps.refl | apply Keeps.ite | refine Keeps.foldl ?_ fun _ _ _ => ?_
    | refine Keeps.foldl1 ?_ fun _ _ _ => ?_ | refine Keeps.foldl2 ?_ fun _ _ _ => ?_
    | refine Keeps.foldl22 ?_ fun _ _ _ => ?_ | apply Keeps.forLanes | apply Keeps.getD | split | (intro _ _ _)
    | (intro _ _) | fail_if_no_progress refine Keeps.upd ?_ | (dsimp +zetaDelta only; split)

theorem announceTxn_keeps (s : State) (x1 : Placed) (x2 : Nat) (x3 : Nat) : Keeps 0x500 s (@State.announceTxn s x1 x2
    x3) := by
  delta State.announceTxn; repeat' with_reducible first
    | extract_lets | assumption | exact Keeps.refl | refine (sendMap_keeps ..).step ?_ rfl
    | refine (notice_keeps ..).step ?_ rfl | apply Keeps.ite | refine Keeps.foldl ?_ fun _ _ _ => ?_
    | refine Keeps.foldl1 ?_ fun _ _ _ => ?_ | refine Keeps.foldl2 ?_ fun _ _ _ => ?_
    | refine Keeps.foldl22 ?_ fun _ _ _ => ?_ | apply Keeps.forLanes | apply Keeps.getD | split | (intro _ _ _)
    | (intro _ _) | fail_if_no_progress refine Keeps.upd ?_ | (dsimp +zetaDelta only; split)

theorem loseTxn_keeps (s : State) (x1 : Placed) : Keeps 0x300 s (@State.loseTxn s x1) := by
  delta State.loseTxn; repeat' with_reducible first
    | extract_lets | assumption | exact Keeps.refl | refine (addPlaced_keeps ..).step ?_ rfl
    | refine (freePat_keeps ..).step ?_ rfl | apply Keeps.ite | refine Keeps.foldl ?_ fun _ _ _ => ?_
    | refine Keeps.foldl1 ?_ fun _ _ _ => ?_ | refine Keeps.foldl2 ?_ fun _ _ _ => ?_
    | refine Keeps.foldl22 ?_ fun _ _ _ => ?_ | apply Keeps.forLanes | apply Keeps.getD | split | (intro _ _ _)
    | (intro _ _) | fail_if_no_progress refine Keeps.upd ?_ | (dsimp +zetaDelta only; split)

theorem stageLanes_keeps (s : State) (x1 : List Chg) (p) (hp : @State.stageLanes s x1 = p) : Keeps 0x300204 s p.2.2
    := by
  delta State.stageLanes at hp; subst hp
  repeat' with_reducible first
    | extract_lets | assumption | exact Keeps.refl | refine (openPath_keeps _ _ _ _ rfl).step ?_ rfl
    | refine (openPath_keeps _ _ _ (_, _) (by assumption)).step ?_ rfl | refine (raise_keeps ..).step ?_ rfl
    | refine (setRec_keeps ..).step ?_ rfl | apply Keeps.ite | refine Keeps.foldl ?_ fun _ _ _ => ?_
    | refine Keeps.foldl1 ?_ fun _ _ _ => ?_ | refine Keeps.foldl2 ?_ fun _ _ _ => ?_
    | refine Keeps.foldl22 ?_ fun _ _ _ => ?_ | apply Keeps.forLanes | apply Keeps.getD | split | (intro _ _ _)
    | (intro _ _) | fail_if_no_progress refine Keeps.upd ?_ | (dsimp +zetaDelta only; split)

theorem patLanes_keeps (s : State) (x1 : Nat) (x2 : List Chg) (p) (hp : @State.patLanes s x1 x2 = p) : Keeps 0x300204
    s p.2.2 := by
  delta State.patLanes at hp; subst hp
  repeat' with_reducible first
    | extract_lets | assumption | exact Keeps.refl | refine (stageLanes_keeps _ _ _ rfl).step ?_ rfl
    | refine (stageLanes_keeps _ _ (_, _) (by assumption)).step ?_ rfl | apply Keeps.ite
    | refine Keeps.foldl ?_ fun _ _ _ => ?_ | refine Keeps.foldl1 ?_ fun _ _ _ => ?_
    | refine Keeps.foldl2 ?_ fun _ _ _ => ?_ | refine Keeps.foldl22 ?_ fun _ _ _ => ?_ | apply Keeps.forLanes
    | apply Keeps.getD | split | (intro _ _ _) | (intro _ _) | fail_if_no_progress refine Keeps.upd ?_
    | (dsimp +zetaDelta only; split)

theorem rebuild_keeps (s : State) (x1 : Placed) : Keeps 0x300304 s (@State.rebuild s x1) := by
  delta State.rebuild; repeat' with_reducible first
    | extract_lets | assumption | exact Keeps.refl | refine (patLanes_keeps _ _ _ _ rfl).step ?_ rfl
    | refine (patLanes_keeps _ _ _ (_, _) (by assumption)).step ?_ rfl | refine (modPat_keeps ..).step ?_ rfl
    | apply Keeps.ite | refine Keeps.foldl ?_ fun _ _ _ => ?_ | refine Keeps.foldl1 ?_ fun _ _ _ => ?_
    | refine Keeps.foldl2 ?_ fun _ _ _ => ?_ | refine Keeps.foldl22 ?_ fun _ _ _ => ?_ | apply Keeps.forLanes
    | apply Keeps.getD | split | (intro _ _ _) | (intro _ _) | fail_if_no_progress refine Keeps.upd ?_
    | (dsimp +zetaDelta only; split)

theorem pendRecs_keeps (s : State) (x1 : List Chg) (x2 : List Rt) : Keeps 0x200 s (@State.pendRecs s x1 x2) := by
  delta State.pendRecs; repeat' with_reducible first
    | extract_lets | assumption | exact Keeps.refl | refine (setRec_keeps ..).step ?_ rfl | apply Keeps.ite
    | refine Keeps.foldl ?_ fun _ _ _ => ?_ | refine Keeps.foldl1 ?_ fun _ _ _ => ?_
    | refine Keeps.foldl2 ?_ fun _ _ _ => ?_ | refine Keeps.foldl22 ?_ fun _ _ _ => ?_ | apply Keeps.forLanes
    | apply Keeps.getD | split | (intro _ _ _) | (intro _ _) | fail_if_no_progress refine Keeps.upd ?_
    | (dsimp +zetaDelta only; split)

theorem takeChanges_keeps (s : State) (x1 : List Chg) (x2 : List Rt) : Keeps 0x200 s (@State.takeChanges s x1 x2) := by
  delta State.takeChanges; repeat' with_reducible first
    | extract_lets | assumption | exact Keeps.refl | refine (pendRecs_keeps ..).step ?_ rfl | apply Keeps.ite
    | refine Keeps.foldl ?_ fun _ _ _ => ?_ | refine Keeps.foldl1 ?_ fun _ _ _ => ?_
    | refine Keeps.foldl2 ?_ fun _ _ _ => ?_ | refine Keeps.foldl22 ?_ fun _ _ _ => ?_ | apply Keeps.forLanes
    | apply Keeps.getD | split | (intro _ _ _) | (intro _ _) | fail_if_no_progress refine Keeps.upd ?_
    | (dsimp +zetaDelta only; split)

theorem redo_keeps (x0 : NodeSet) (s : State) (x2 : Placed) : Keeps 0x300304 s (@State.redo x0 s x2) := by
  delta State.redo; repeat' with_reducible first
    | extract_lets | assumption | exact Keeps.refl | refine (loseTxn_keeps ..).step ?_ rfl
    | refine (rebuild_keeps ..).step ?_ rfl | refine (addPlaced_keeps ..).step ?_ rfl
    | refine (takeChanges_keeps ..).step ?_ rfl | apply Keeps.ite | refine Keeps.foldl ?_ fun _ _ _ => ?_
    | refine Keeps.foldl1 ?_ fun _ _ _ => ?_ | refine Keeps.foldl2 ?_ fun _ _ _ => ?_
    | refine Keeps.foldl22 ?_ fun _ _ _ => ?_ | apply Keeps.forLanes | apply Keeps.getD | split | (intro _ _ _)
    | (intro _ _) | fail_if_no_progress refine Keeps.upd ?_ | (dsimp +zetaDelta only; split)

theorem dropPlaced_keeps (s : State) (x1 : Placed) : Keeps 0x200 s (@State.dropPlaced s x1) := by
  delta State.dropPlaced; repeat' with_reducible first
    | extract_lets | assumption | exact Keeps.refl | apply Keeps.ite | refine Keeps.foldl ?_ fun _ _ _ => ?_
    | refine Keeps.foldl1 ?_ fun _ _ _ => ?_ | refine Keeps.foldl2 ?_ fun _ _ _ => ?_
    | refine Keeps.foldl22 ?_ fun _ _ _ => ?_ | apply Keeps.forLanes | apply Keeps.getD | split | (intro _ _ _)
    | (intro _ _) | fail_if_no_progress refine Keeps.upd ?_ | (dsimp +zetaDelta only; split)

theorem recWrite_keeps (s : State) (x1 : Nat) (x2 : Nat) (x3 : PathRec → PathRec) : Keeps 0x200 s (@State.recWrite s
    x1 x2 x3) := by
  delta State.recWrite; repeat' with_reducible first
    | extract_lets | assumption | exact Keeps.refl | refine (setRec_keeps ..).step ?_ rfl | apply Keeps.ite
    | refine Keeps.foldl ?_ fun _ _ _ => ?_ | refine Keeps.foldl1 ?_ fun _ _ _ => ?_
    | refine Keeps.foldl2 ?_ fun _ _ _ => ?_ | refine Keeps.foldl22 ?_ fun _ _ _ => ?_ | apply Keeps.forLanes
    | apply Keeps.getD | split | (intro _ _ _) | (intro _ _) | fail_if_no_progress refine Keeps.upd ?_
    | (dsimp +zetaDelta only; split)

theorem undoChg_keeps (s : State) (x1 : Placed) (x2 : Chg) : Keeps 0x200 s (@State.undoChg s x1 x2) := by
  delta State.undoChg; repeat' with_reducible first
    | extract_lets | assumption | exact Keeps.refl | refine (recWrite_keeps ..).step ?_ rfl | apply Keeps.ite
    | refine Keeps.foldl ?_ fun _ _ _ => ?_ | refine Keeps.foldl1 ?_ fun _ _ _ => ?_
    | refine Keeps.foldl2 ?_ fun _ _ _ => ?_ | refine Keeps.foldl22 ?_ fun _ _ _ => ?_ | apply Keeps.forLanes
    | apply Keeps.getD | split | (intro _ _ _) | (intro _ _) | fail_if_no_progress refine Keeps.upd ?_
    | (dsimp +zetaDelta only; split)

theorem withdraw_keeps (s : State) (x1 : Placed) : Keeps 0x200 s (@State.withdraw s x1) := by
  delta State.withdraw; repeat' with_reducible first
    | extract_lets | assumption | exact Keeps.refl | refine (dropPlaced_keeps ..).step ?_ rfl
    | refine (undoChg_keeps ..).step ?_ rfl | apply Keeps.ite | refine Keeps.foldl ?_ fun _ _ _ => ?_
    | refine Keeps.foldl1 ?_ fun _ _ _ => ?_ | refine Keeps.foldl2 ?_ fun _ _ _ => ?_
    | refine Keeps.foldl22 ?_ fun _ _ _ => ?_ | apply Keeps.forLanes | apply Keeps.getD | split | (intro _ _ _)
    | (intro _ _) | fail_if_no_progress refine Keeps.upd ?_ | (dsimp +zetaDelta only; split)

theorem beneath_keeps {m : Nat} {s₀ s : State} (h : Keeps m s₀ s) (hm : 0x300304 ||| m = m) (layer n : Nat) (bad : NodeSet)
    {k : State → State} (hk : ∀ u, Keeps m s₀ u → Keeps m s₀ (k u)) : Keeps m s₀ (s.beneath layer n bad k) := by
  delta State.beneath
  have hw : ∀ u x, Keeps m s₀ u → Keeps m s₀ (State.withdraw u x) := fun u x hu =>
    ((withdraw_keeps u x).step (m := 0x300304) Keeps.refl rfl).step hu hm
  have hr : ∀ u x, Keeps m s₀ u → Keeps m s₀ (State.redo bad u x) := fun u x hu =>
    ((redo_keeps bad u x).step (m := 0x300304) Keeps.refl rfl).step hu hm
  exact Keeps.foldl (hk _ (Keeps.foldl h hw)) hr

theorem setCur_keeps (s : State) (x1 : Option Cur) : Keeps 0x200 s (@State.setCur s x1) := by
  delta State.setCur; repeat' with_reducible first
    | extract_lets | assumption | exact Keeps.refl | apply Keeps.ite | refine Keeps.foldl ?_ fun _ _ _ => ?_
    | refine Keeps.foldl1 ?_ fun _ _ _ => ?_ | refine Keeps.foldl2 ?_ fun _ _ _ => ?_
    | refine Keeps.foldl22 ?_ fun _ _ _ => ?_ | apply Keeps.forLanes | apply Keeps.getD | split | (intro _ _ _)
    | (intro _ _) | fail_if_no_progress refine Keeps.upd ?_ | (dsimp +zetaDelta only; split)

theorem fillComp_keeps (s : State) (x1 : Nat) (x2 : Comp) : Keeps 0x2000 s (@State.fillComp s x1 x2) := by
  delta State.fillComp; repeat' with_reducible first
    | extract_lets | assumption | exact Keeps.refl | apply Keeps.ite | refine Keeps.foldl ?_ fun _ _ _ => ?_
    | refine Keeps.foldl1 ?_ fun _ _ _ => ?_ | refine Keeps.foldl2 ?_ fun _ _ _ => ?_
    | refine Keeps.foldl22 ?_ fun _ _ _ => ?_ | apply Keeps.forLanes | apply Keeps.getD | split | (intro _ _ _)
    | (intro _ _) | fail_if_no_progress refine Keeps.upd ?_ | (dsimp +zetaDelta only; split)

theorem completeTxn_keeps (s : State) (x1 : Txn) (x2 : Verdict) (x3 : Nat → Nat → Nat) (x4 : Nat → Nat) : Keeps
    0x2000 s (@State.completeTxn s x1 x2 x3 x4) := by
  delta State.completeTxn; repeat' with_reducible first
    | extract_lets | assumption | exact Keeps.refl | refine (fillComp_keeps ..).step ?_ rfl | apply Keeps.ite
    | refine Keeps.foldl ?_ fun _ _ _ => ?_ | refine Keeps.foldl1 ?_ fun _ _ _ => ?_
    | refine Keeps.foldl2 ?_ fun _ _ _ => ?_ | refine Keeps.foldl22 ?_ fun _ _ _ => ?_ | apply Keeps.forLanes
    | apply Keeps.getD | split | (intro _ _ _) | (intro _ _) | fail_if_no_progress refine Keeps.upd ?_
    | (dsimp +zetaDelta only; split)

theorem rejectTxn_keeps (s : State) (x1 : Txn) (x2 : Nat) : Keeps 0x2000 s (@State.rejectTxn s x1 x2) := by
  delta State.rejectTxn; repeat' with_reducible first
    | extract_lets | assumption | exact Keeps.refl | refine (completeTxn_keeps ..).step ?_ rfl | apply Keeps.ite
    | refine Keeps.foldl ?_ fun _ _ _ => ?_ | refine Keeps.foldl1 ?_ fun _ _ _ => ?_
    | refine Keeps.foldl2 ?_ fun _ _ _ => ?_ | refine Keeps.foldl22 ?_ fun _ _ _ => ?_ | apply Keeps.forLanes
    | apply Keeps.getD | split | (intro _ _ _) | (intro _ _) | fail_if_no_progress refine Keeps.upd ?_
    | (dsimp +zetaDelta only; split)

theorem checked_keeps (s : State) (x1 : Cur) (x2 : Option (Nat × Nat)) : Keeps 0x2200 s (@State.checked s x1 x2) := by
  delta State.checked; repeat' with_reducible first
    | extract_lets | assumption | exact Keeps.refl | refine (setCur_keeps ..).step ?_ rfl
    | refine (rejectTxn_keeps ..).step ?_ rfl | apply Keeps.ite | refine Keeps.foldl ?_ fun _ _ _ => ?_
    | refine Keeps.foldl1 ?_ fun _ _ _ => ?_ | refine Keeps.foldl2 ?_ fun _ _ _ => ?_
    | refine Keeps.foldl22 ?_ fun _ _ _ => ?_ | apply Keeps.forLanes | apply Keeps.getD | split | (intro _ _ _)
    | (intro _ _) | fail_if_no_progress refine Keeps.upd ?_ | (dsimp +zetaDelta only; split)

theorem countLate_keeps (s : State) : Keeps 0x100004 s (@State.countLate s) := by
  delta State.countLate; repeat' with_reducible first
    | extract_lets | assumption | exact Keeps.refl | refine (raise_keeps ..).step ?_ rfl
    | refine (setF_keeps ..).step ?_ rfl | apply Keeps.ite | refine Keeps.foldl ?_ fun _ _ _ => ?_
    | refine Keeps.foldl1 ?_ fun _ _ _ => ?_ | refine Keeps.foldl2 ?_ fun _ _ _ => ?_
    | refine Keeps.foldl22 ?_ fun _ _ _ => ?_ | apply Keeps.forLanes | apply Keeps.getD | split | (intro _ _ _)
    | (intro _ _) | fail_if_no_progress refine Keeps.upd ?_ | (dsimp +zetaDelta only; split)

theorem eachTxn_keeps {m : Nat} {s₀ s : State} (h : Keeps m s₀ s) (sel : Placed → Bool) {k : State → Placed → State}
    (hk : ∀ u p, Keeps m s₀ u → Keeps m s₀ (k u p)) : Keeps m s₀ (s.eachTxn sel k) := by
  delta State.eachTxn
  refine Keeps.foldl h fun u n hu => ?_
  split
  · exact hk _ _ hu
  · exact hu

theorem mirrorOut_keeps (s : State) (x1 : TxnW) : Keeps 0x404 s (@State.mirrorOut s x1) := by
  delta State.mirrorOut; repeat' with_reducible first
    | extract_lets | assumption | exact Keeps.refl | refine (bump_keeps ..).step ?_ rfl
    | refine (mirSend_keeps ..).step ?_ rfl | apply Keeps.ite | refine Keeps.foldl ?_ fun _ _ _ => ?_
    | refine Keeps.foldl1 ?_ fun _ _ _ => ?_ | refine Keeps.foldl2 ?_ fun _ _ _ => ?_
    | refine Keeps.foldl22 ?_ fun _ _ _ => ?_ | apply Keeps.forLanes | apply Keeps.getD | split | (intro _ _ _)
    | (intro _ _) | fail_if_no_progress refine Keeps.upd ?_ | (dsimp +zetaDelta only; split)

theorem mirrorTxn_keeps (s : State) (x1 : Placed) (x2 : Word) (p) (hp : @State.mirrorTxn s x1 x2 = p) : Keeps
    0x100404 s p.1 := by
  delta State.mirrorTxn at hp; subst hp
  repeat' with_reducible first
    | extract_lets | assumption | exact Keeps.refl | refine (countLate_keeps ..).step ?_ rfl
    | refine (raise_keeps ..).step ?_ rfl | refine (mirrorOut_keeps ..).step ?_ rfl | apply Keeps.ite
    | refine Keeps.foldl ?_ fun _ _ _ => ?_ | refine Keeps.foldl1 ?_ fun _ _ _ => ?_
    | refine Keeps.foldl2 ?_ fun _ _ _ => ?_ | refine Keeps.foldl22 ?_ fun _ _ _ => ?_ | apply Keeps.forLanes
    | apply Keeps.getD | split | (intro _ _ _) | (intro _ _) | fail_if_no_progress refine Keeps.upd ?_
    | (dsimp +zetaDelta only; split)

theorem modLive_keeps (s : State) (x1 : Nat) (x2 : PathRec → PathRec) : Keeps 0x200 s (@State.modLive s x1 x2) := by
  delta State.modLive; repeat' with_reducible first
    | extract_lets | assumption | exact Keeps.refl | refine (recWrite_keeps ..).step ?_ rfl | apply Keeps.ite
    | refine Keeps.foldl ?_ fun _ _ _ => ?_ | refine Keeps.foldl1 ?_ fun _ _ _ => ?_
    | refine Keeps.foldl2 ?_ fun _ _ _ => ?_ | refine Keeps.foldl22 ?_ fun _ _ _ => ?_ | apply Keeps.forLanes
    | apply Keeps.getD | split | (intro _ _ _) | (intro _ _) | fail_if_no_progress refine Keeps.upd ?_
    | (dsimp +zetaDelta only; split)

theorem modTxn_keeps (s : State) (x1 : Nat) (x2 : Placed → Placed) : Keeps 0x200 s (@State.modTxn s x1 x2) := by
  delta State.modTxn; repeat' with_reducible first
    | extract_lets | assumption | exact Keeps.refl | apply Keeps.ite | refine Keeps.foldl ?_ fun _ _ _ => ?_
    | refine Keeps.foldl1 ?_ fun _ _ _ => ?_ | refine Keeps.foldl2 ?_ fun _ _ _ => ?_
    | refine Keeps.foldl22 ?_ fun _ _ _ => ?_ | apply Keeps.forLanes | apply Keeps.getD | split | (intro _ _ _)
    | (intro _ _) | fail_if_no_progress refine Keeps.upd ?_ | (dsimp +zetaDelta only; split)

theorem placeNow_keeps (s : State) (x1 : Txn) : Keeps 0x102604 s (@State.placeNow s x1) := by
  delta State.placeNow; repeat' with_reducible first
    | extract_lets | assumption | exact Keeps.refl | refine (rejectTxn_keeps ..).step ?_ rfl
    | refine (raise_keeps ..).step ?_ rfl | refine (mirrorTxn_keeps _ _ _ _ rfl).step ?_ rfl
    | refine (mirrorTxn_keeps _ _ _ (_, _) (by assumption)).step ?_ rfl | refine (takeChanges_keeps ..).step ?_ rfl
    | refine (addPlaced_keeps ..).step ?_ rfl | apply Keeps.ite | refine Keeps.foldl ?_ fun _ _ _ => ?_
    | refine Keeps.foldl1 ?_ fun _ _ _ => ?_ | refine Keeps.foldl2 ?_ fun _ _ _ => ?_
    | refine Keeps.foldl22 ?_ fun _ _ _ => ?_ | apply Keeps.forLanes | apply Keeps.getD | split | (intro _ _ _)
    | (intro _ _) | fail_if_no_progress refine Keeps.upd ?_ | (dsimp +zetaDelta only; split)

theorem placement_keeps (s : State) : Keeps 0x102604 s (@State.placement s) := by
  delta State.placement; repeat' with_reducible first
    | extract_lets | assumption | exact Keeps.refl | refine (placeNow_keeps ..).step ?_ rfl
    | refine (setCur_keeps ..).step ?_ rfl | apply Keeps.ite | refine Keeps.foldl ?_ fun _ _ _ => ?_
    | refine Keeps.foldl1 ?_ fun _ _ _ => ?_ | refine Keeps.foldl2 ?_ fun _ _ _ => ?_
    | refine Keeps.foldl22 ?_ fun _ _ _ => ?_ | apply Keeps.forLanes | apply Keeps.getD | split | (intro _ _ _)
    | (intro _ _) | fail_if_no_progress refine Keeps.upd ?_ | (dsimp +zetaDelta only; split)

theorem takeCur_keeps (s : State) (p) (hp : @State.takeCur s = some p) : Keeps 0x200 s p.2 := by
  delta State.takeCur at hp; (repeat' (first | extract_lets at hp | split at hp)) <;> (first | cases hp | skip)
  all_goals repeat' with_reducible first
    | extract_lets | assumption | exact Keeps.refl | apply Keeps.ite | refine Keeps.foldl ?_ fun _ _ _ => ?_
    | refine Keeps.foldl1 ?_ fun _ _ _ => ?_ | refine Keeps.foldl2 ?_ fun _ _ _ => ?_
    | refine Keeps.foldl22 ?_ fun _ _ _ => ?_ | apply Keeps.forLanes | apply Keeps.getD | split | (intro _ _ _)
    | (intro _ _) | fail_if_no_progress refine Keeps.upd ?_ | (dsimp +zetaDelta only; split)

theorem request_keeps (s : State) (x1 : Nat) : Keeps 0x2200 s (@State.request s x1) := by
  delta State.request; repeat' with_reducible first
    | extract_lets | assumption | exact Keeps.refl | refine (takeCur_keeps _ (_, _) (by assumption)).step ?_ rfl
    | refine (takeCur_keeps _ _ (by assumption)).step ?_ rfl | refine (checked_keeps ..).step ?_ rfl | apply Keeps.ite
    | refine Keeps.foldl ?_ fun _ _ _ => ?_ | refine Keeps.foldl1 ?_ fun _ _ _ => ?_
    | refine Keeps.foldl2 ?_ fun _ _ _ => ?_ | refine Keeps.foldl22 ?_ fun _ _ _ => ?_ | apply Keeps.forLanes
    | apply Keeps.getD | split | (intro _ _ _) | (intro _ _) | fail_if_no_progress refine Keeps.upd ?_
    | (dsimp +zetaDelta only; split)

theorem stage_keeps (s : State) (x1 : Placed) : Keeps 0x302704 s (@State.stage s x1) := by
  delta State.stage; repeat' with_reducible first
    | extract_lets | assumption | exact Keeps.refl | refine (raise_keeps ..).step ?_ rfl
    | refine (rejectTxn_keeps ..).step ?_ rfl | refine (withdraw_keeps ..).step ?_ rfl
    | refine (patLanes_keeps _ _ _ _ rfl).step ?_ rfl
    | refine (patLanes_keeps _ _ _ (_, _) (by assumption)).step ?_ rfl
    | refine (newPat_keeps _ _ _ _ _ _ _ _ (_, _) (by assumption)).step ?_ rfl
    | refine (newPat_keeps _ _ _ _ _ _ _ _ _ (by assumption)).step ?_ rfl | refine (modTxn_keeps ..).step ?_ rfl
    | refine (countLate_keeps ..).step ?_ rfl | refine (announceTxn_keeps ..).step ?_ rfl | apply Keeps.ite
    | refine Keeps.foldl ?_ fun _ _ _ => ?_ | refine Keeps.foldl1 ?_ fun _ _ _ => ?_
    | refine Keeps.foldl2 ?_ fun _ _ _ => ?_ | refine Keeps.foldl22 ?_ fun _ _ _ => ?_ | apply Keeps.forLanes
    | apply Keeps.getD | split | (intro _ _ _) | (intro _ _) | fail_if_no_progress refine Keeps.upd ?_
    | (dsimp +zetaDelta only; split)

theorem takeOp_keeps (s : State) (x1 : Nat) (p) (hp : @State.takeOp s x1 = some p) : Keeps 0x200 s p.2.2 := by
  delta State.takeOp at hp; (repeat' (first | extract_lets at hp | split at hp)) <;> (first | cases hp | skip)
  all_goals repeat' with_reducible first
    | extract_lets | assumption | exact Keeps.refl | apply Keeps.ite | refine Keeps.foldl ?_ fun _ _ _ => ?_
    | refine Keeps.foldl1 ?_ fun _ _ _ => ?_ | refine Keeps.foldl2 ?_ fun _ _ _ => ?_
    | refine Keeps.foldl22 ?_ fun _ _ _ => ?_ | apply Keeps.forLanes | apply Keeps.getD | split | (intro _ _ _)
    | (intro _ _) | fail_if_no_progress refine Keeps.upd ?_ | (dsimp +zetaDelta only; split)

theorem doFence_keeps (s : State) : Keeps 0x2200 s (@doFence s) := by
  delta doFence; repeat' with_reducible first
    | extract_lets | assumption | exact Keeps.refl | refine (takeOp_keeps _ _ (_, _, _) (by assumption)).step ?_ rfl
    | refine (takeOp_keeps _ _ _ (by assumption)).step ?_ rfl | refine (fillComp_keeps ..).step ?_ rfl
    | apply Keeps.ite | refine Keeps.foldl ?_ fun _ _ _ => ?_ | refine Keeps.foldl1 ?_ fun _ _ _ => ?_
    | refine Keeps.foldl2 ?_ fun _ _ _ => ?_ | refine Keeps.foldl22 ?_ fun _ _ _ => ?_ | apply Keeps.forLanes
    | apply Keeps.getD | split | (intro _ _ _) | (intro _ _) | fail_if_no_progress refine Keeps.upd ?_
    | (dsimp +zetaDelta only; split)

theorem doQuery_keeps (s : State) : Keeps 0x2200 s (@doQuery s) := by
  delta doQuery; repeat' with_reducible first
    | extract_lets | assumption | exact Keeps.refl | refine (takeOp_keeps _ _ (_, _, _) (by assumption)).step ?_ rfl
    | refine (takeOp_keeps _ _ _ (by assumption)).step ?_ rfl | refine (fillComp_keeps ..).step ?_ rfl
    | apply Keeps.ite | refine Keeps.foldl ?_ fun _ _ _ => ?_ | refine Keeps.foldl1 ?_ fun _ _ _ => ?_
    | refine Keeps.foldl2 ?_ fun _ _ _ => ?_ | refine Keeps.foldl22 ?_ fun _ _ _ => ?_ | apply Keeps.forLanes
    | apply Keeps.getD | split | (intro _ _ _) | (intro _ _) | fail_if_no_progress refine Keeps.upd ?_
    | (dsimp +zetaDelta only; split)

theorem doStagingEnd_keeps (x0 : Nat) (s : State) : Keeps 0x302784 s (@doStagingEnd x0 s) := by
  delta doStagingEnd; repeat' with_reducible first
    | extract_lets | assumption | exact Keeps.refl | refine (passTo_keeps ..).step ?_ rfl
    | refine (schedEvent_keeps ..).step ?_ rfl | refine (stage_keeps ..).step ?_ rfl | apply Keeps.ite
    | refine Keeps.foldl ?_ fun _ _ _ => ?_ | refine Keeps.foldl1 ?_ fun _ _ _ => ?_
    | refine Keeps.foldl2 ?_ fun _ _ _ => ?_ | refine Keeps.foldl22 ?_ fun _ _ _ => ?_ | apply Keeps.forLanes
    | apply Keeps.getD | split | (intro _ _ _) | (intro _ _) | fail_if_no_progress refine Keeps.upd ?_
    | (dsimp +zetaDelta only; split)

theorem tagStop_keeps (s : State) (x1 : Nat) : Keeps 0x200 s (@State.tagStop s x1) := by
  delta State.tagStop; repeat' with_reducible first
    | extract_lets | assumption | exact Keeps.refl | apply Keeps.ite | refine Keeps.foldl ?_ fun _ _ _ => ?_
    | refine Keeps.foldl1 ?_ fun _ _ _ => ?_ | refine Keeps.foldl2 ?_ fun _ _ _ => ?_
    | refine Keeps.foldl22 ?_ fun _ _ _ => ?_ | apply Keeps.forLanes | apply Keeps.getD | split | (intro _ _ _)
    | (intro _ _) | fail_if_no_progress refine Keeps.upd ?_ | (dsimp +zetaDelta only; split)

theorem tagStart_keeps (s : State) (x1 : Nat) (x2 : Nat) (x3 : Nat) : Keeps 0x200 s (@State.tagStart s x1 x2 x3) := by
  delta State.tagStart; repeat' with_reducible first
    | extract_lets | assumption | exact Keeps.refl | apply Keeps.ite | refine Keeps.foldl ?_ fun _ _ _ => ?_
    | refine Keeps.foldl1 ?_ fun _ _ _ => ?_ | refine Keeps.foldl2 ?_ fun _ _ _ => ?_
    | refine Keeps.foldl22 ?_ fun _ _ _ => ?_ | apply Keeps.forLanes | apply Keeps.getD | split | (intro _ _ _)
    | (intro _ _) | fail_if_no_progress refine Keeps.upd ?_ | (dsimp +zetaDelta only; split)

theorem applyRec_keeps (x0 : Nat) (x1 : Word) (x2 : Placed) (s : State) (x4 : Chg) : Keeps 0x200 s (@State.applyRec
    x0 x1 x2 s x4) := by
  delta State.applyRec; repeat' with_reducible first
    | extract_lets | assumption | exact Keeps.refl | refine (recWrite_keeps ..).step ?_ rfl
    | refine (tagStop_keeps ..).step ?_ rfl | refine (tagStart_keeps ..).step ?_ rfl | apply Keeps.ite
    | refine Keeps.foldl ?_ fun _ _ _ => ?_ | refine Keeps.foldl1 ?_ fun _ _ _ => ?_
    | refine Keeps.foldl2 ?_ fun _ _ _ => ?_ | refine Keeps.foldl22 ?_ fun _ _ _ => ?_ | apply Keeps.forLanes
    | apply Keeps.getD | split | (intro _ _ _) | (intro _ _) | fail_if_no_progress refine Keeps.upd ?_
    | (dsimp +zetaDelta only; split)

theorem applyRecs_keeps (s : State) (x1 : Placed) (x2 : Nat) (x3 : Word) : Keeps 0x200 s (@State.applyRecs s x1 x2
    x3) := by
  delta State.applyRecs; repeat' with_reducible first
    | extract_lets | assumption | exact Keeps.refl | refine (applyRec_keeps ..).step ?_ rfl | apply Keeps.ite
    | refine Keeps.foldl ?_ fun _ _ _ => ?_ | refine Keeps.foldl1 ?_ fun _ _ _ => ?_
    | refine Keeps.foldl2 ?_ fun _ _ _ => ?_ | refine Keeps.foldl22 ?_ fun _ _ _ => ?_ | apply Keeps.forLanes
    | apply Keeps.getD | split | (intro _ _ _) | (intro _ _) | fail_if_no_progress refine Keeps.upd ?_
    | (dsimp +zetaDelta only; split)

theorem sendSnapshot_keeps (s : State) : Keeps 0x400 s (@State.sendSnapshot s) := by
  delta State.sendSnapshot; repeat' with_reducible first
    | extract_lets | assumption | exact Keeps.refl | refine (mirSend_keeps ..).step ?_ rfl | apply Keeps.ite
    | refine Keeps.foldl ?_ fun _ _ _ => ?_ | refine Keeps.foldl1 ?_ fun _ _ _ => ?_
    | refine Keeps.foldl2 ?_ fun _ _ _ => ?_ | refine Keeps.foldl22 ?_ fun _ _ _ => ?_ | apply Keeps.forLanes
    | apply Keeps.getD | split | (intro _ _ _) | (intro _ _) | fail_if_no_progress refine Keeps.upd ?_
    | (dsimp +zetaDelta only; split)

theorem pairEvent_keeps (s : State) (x1 : Nat) (x2 : List Word) : Keeps 0x102004 s (@State.pairEvent s x1 x2) := by
  delta State.pairEvent; repeat' with_reducible first
    | extract_lets | assumption | exact Keeps.refl | refine (setReg_keeps ..).step ?_ rfl
    | refine (post_keeps ..).step ?_ rfl | apply Keeps.ite | refine Keeps.foldl ?_ fun _ _ _ => ?_
    | refine Keeps.foldl1 ?_ fun _ _ _ => ?_ | refine Keeps.foldl2 ?_ fun _ _ _ => ?_
    | refine Keeps.foldl22 ?_ fun _ _ _ => ?_ | apply Keeps.forLanes | apply Keeps.getD | split | (intro _ _ _)
    | (intro _ _) | fail_if_no_progress refine Keeps.upd ?_ | (dsimp +zetaDelta only; split)

theorem compareOut_keeps (s : State) (x1 : Nat) (x2 : Nat) (x3 : Nat) : Keeps 0x102404 s (@State.compareOut s x1 x2
    x3) := by
  delta State.compareOut; repeat' with_reducible first
    | extract_lets | assumption | exact Keeps.refl | refine (sendSnapshot_keeps ..).step ?_ rfl
    | refine (pairEvent_keeps ..).step ?_ rfl | apply Keeps.ite | refine Keeps.foldl ?_ fun _ _ _ => ?_
    | refine Keeps.foldl1 ?_ fun _ _ _ => ?_ | refine Keeps.foldl2 ?_ fun _ _ _ => ?_
    | refine Keeps.foldl22 ?_ fun _ _ _ => ?_ | apply Keeps.forLanes | apply Keeps.getD | split | (intro _ _ _)
    | (intro _ _) | fail_if_no_progress refine Keeps.upd ?_ | (dsimp +zetaDelta only; split)

theorem fabComplete_keeps (s : State) (x1 : FabReq) (x2 : Nat) (x3 : SegOut) : Keeps 0x2000 s (@State.fabComplete s
    x1 x2 x3) := by
  delta State.fabComplete; repeat' with_reducible first
    | extract_lets | assumption | exact Keeps.refl | refine (fillComp_keeps ..).step ?_ rfl | apply Keeps.ite
    | refine Keeps.foldl ?_ fun _ _ _ => ?_ | refine Keeps.foldl1 ?_ fun _ _ _ => ?_
    | refine Keeps.foldl2 ?_ fun _ _ _ => ?_ | refine Keeps.foldl22 ?_ fun _ _ _ => ?_ | apply Keeps.forLanes
    | apply Keeps.getD | split | (intro _ _ _) | (intro _ _) | fail_if_no_progress refine Keeps.upd ?_
    | (dsimp +zetaDelta only; split)

theorem fabEvent_keeps (s : State) (x1 : Nat) (x2 : List Word) : Keeps 0x102004 s (@State.fabEvent s x1 x2) := by
  delta State.fabEvent; repeat' with_reducible first
    | extract_lets | assumption | exact Keeps.refl | refine (icEdge_keeps ..).step ?_ rfl
    | refine (setReg_keeps ..).step ?_ rfl | refine (post_keeps ..).step ?_ rfl | apply Keeps.ite
    | refine Keeps.foldl ?_ fun _ _ _ => ?_ | refine Keeps.foldl1 ?_ fun _ _ _ => ?_
    | refine Keeps.foldl2 ?_ fun _ _ _ => ?_ | refine Keeps.foldl22 ?_ fun _ _ _ => ?_ | apply Keeps.forLanes
    | apply Keeps.getD | split | (intro _ _ _) | (intro _ _) | fail_if_no_progress refine Keeps.upd ?_
    | (dsimp +zetaDelta only; split)

theorem setFpath_keeps (s : State) (x1 : Nat) (x2 : FabPath) : Keeps 0x800 s (@State.setFpath s x1 x2) := by
  delta State.setFpath; repeat' with_reducible first
    | extract_lets | assumption | exact Keeps.refl | apply Keeps.ite | refine Keeps.foldl ?_ fun _ _ _ => ?_
    | refine Keeps.foldl1 ?_ fun _ _ _ => ?_ | refine Keeps.foldl2 ?_ fun _ _ _ => ?_
    | refine Keeps.foldl22 ?_ fun _ _ _ => ?_ | apply Keeps.forLanes | apply Keeps.getD | split | (intro _ _ _)
    | (intro _ _) | fail_if_no_progress refine Keeps.upd ?_ | (dsimp +zetaDelta only; split)

theorem modSeg_keeps (s : State) (x1 : Nat) (x2 : Nat) (x3 : FabSeg → FabSeg) : Keeps 0x800 s (@State.modSeg s x1 x2
    x3) := by
  delta State.modSeg; repeat' with_reducible first
    | extract_lets | assumption | exact Keeps.refl | apply Keeps.ite | refine Keeps.foldl ?_ fun _ _ _ => ?_
    | refine Keeps.foldl1 ?_ fun _ _ _ => ?_ | refine Keeps.foldl2 ?_ fun _ _ _ => ?_
    | refine Keeps.foldl22 ?_ fun _ _ _ => ?_ | apply Keeps.forLanes | apply Keeps.getD | split | (intro _ _ _)
    | (intro _ _) | fail_if_no_progress refine Keeps.upd ?_ | (dsimp +zetaDelta only; split)

theorem stageRb_keeps (s : State) (x1 : Placed) : Keeps 0x300304 s (@State.stageRb s x1) := by
  delta State.stageRb; repeat' with_reducible first
    | extract_lets | assumption | exact Keeps.refl | refine (raise_keeps ..).step ?_ rfl
    | refine (patLanes_keeps _ _ _ _ rfl).step ?_ rfl
    | refine (patLanes_keeps _ _ _ (_, _) (by assumption)).step ?_ rfl
    | refine (newPat_keeps _ _ _ _ _ _ _ _ (_, _) (by assumption)).step ?_ rfl
    | refine (newPat_keeps _ _ _ _ _ _ _ _ _ (by assumption)).step ?_ rfl | refine (modTxn_keeps ..).step ?_ rfl
    | apply Keeps.ite | refine Keeps.foldl ?_ fun _ _ _ => ?_ | refine Keeps.foldl1 ?_ fun _ _ _ => ?_
    | refine Keeps.foldl2 ?_ fun _ _ _ => ?_ | refine Keeps.foldl22 ?_ fun _ _ _ => ?_ | apply Keeps.forLanes
    | apply Keeps.getD | split | (intro _ _ _) | (intro _ _) | fail_if_no_progress refine Keeps.upd ?_
    | (dsimp +zetaDelta only; split)

theorem rollBack_keeps (s : State) (x1 : Txn) (x2 : Nat) (x3 : List Chg) (x4 : Option Nat) (x5 : Option (Nat × Nat))
    : Keeps 0x300704 s (@State.rollBack s x1 x2 x3 x4 x5) := by
  delta State.rollBack; repeat' with_reducible first
    | extract_lets | assumption | exact Keeps.refl | refine beneath_keeps ?_ rfl _ _ _ ?_
    | refine (takeChanges_keeps ..).step ?_ rfl | refine (stageRb_keeps ..).step ?_ rfl
    | refine (addPlaced_keeps ..).step ?_ rfl | refine (mirrorOut_keeps ..).step ?_ rfl | apply Keeps.ite
    | refine Keeps.foldl ?_ fun _ _ _ => ?_ | refine Keeps.foldl1 ?_ fun _ _ _ => ?_
    | refine Keeps.foldl2 ?_ fun _ _ _ => ?_ | refine Keeps.foldl22 ?_ fun _ _ _ => ?_ | apply Keeps.forLanes
    | apply Keeps.getD | split | (intro _ _ _) | (intro _ _) | fail_if_no_progress refine Keeps.upd ?_
    | (dsimp +zetaDelta only; split)

theorem segRollback_keeps (s : State) (x1 : Nat) (x2 : Nat) (x3 : Option Nat) : Keeps 0x300f04 s (@State.segRollback
    s x1 x2 x3) := by
  delta State.segRollback; repeat' with_reducible first
    | extract_lets | assumption | exact Keeps.refl | refine (modSeg_keeps ..).step ?_ rfl
    | refine (rollBack_keeps ..).step ?_ rfl | apply Keeps.ite | refine Keeps.foldl ?_ fun _ _ _ => ?_
    | refine Keeps.foldl1 ?_ fun _ _ _ => ?_ | refine Keeps.foldl2 ?_ fun _ _ _ => ?_
    | refine Keeps.foldl22 ?_ fun _ _ _ => ?_ | apply Keeps.forLanes | apply Keeps.getD | split | (intro _ _ _)
    | (intro _ _) | fail_if_no_progress refine Keeps.upd ?_ | (dsimp +zetaDelta only; split)

theorem fabSend_keeps (s : State) (x1 : Nat) (x2 : FabBody) : Keeps 0x800 s (@State.fabSend s x1 x2) := by
  delta State.fabSend; repeat' with_reducible first
    | extract_lets | assumption | exact Keeps.refl | apply Keeps.ite | refine Keeps.foldl ?_ fun _ _ _ => ?_
    | refine Keeps.foldl1 ?_ fun _ _ _ => ?_ | refine Keeps.foldl2 ?_ fun _ _ _ => ?_
    | refine Keeps.foldl22 ?_ fun _ _ _ => ?_ | apply Keeps.forLanes | apply Keeps.getD | split | (intro _ _ _)
    | (intro _ _) | fail_if_no_progress refine Keeps.upd ?_ | (dsimp +zetaDelta only; split)

theorem fabFinish_keeps (s : State) (x1 : FabReq) : Keeps 0x302f04 s (@State.fabFinish s x1) := by
  delta State.fabFinish; repeat' with_reducible first
    | extract_lets | assumption | exact Keeps.refl | refine (setFpath_keeps ..).step ?_ rfl
    | refine (setRec_keeps ..).step ?_ rfl | refine (fabEvent_keeps ..).step ?_ rfl
    | refine (fabComplete_keeps ..).step ?_ rfl | refine (segRollback_keeps ..).step ?_ rfl
    | refine (fabSend_keeps ..).step ?_ rfl | apply Keeps.ite | refine Keeps.foldl ?_ fun _ _ _ => ?_
    | refine Keeps.foldl1 ?_ fun _ _ _ => ?_ | refine Keeps.foldl2 ?_ fun _ _ _ => ?_
    | refine Keeps.foldl22 ?_ fun _ _ _ => ?_ | apply Keeps.forLanes | apply Keeps.getD | split | (intro _ _ _)
    | (intro _ _) | fail_if_no_progress refine Keeps.upd ?_ | (dsimp +zetaDelta only; split)

theorem fabGather_keeps (s : State) (x1 : Nat) (x2 : Nat) (x3 : SegOut) : Keeps 0x302f04 s (@State.fabGather s x1 x2
    x3) := by
  delta State.fabGather; repeat' with_reducible first
    | extract_lets | assumption | exact Keeps.refl | refine (fabFinish_keeps ..).step ?_ rfl | apply Keeps.ite
    | refine Keeps.foldl ?_ fun _ _ _ => ?_ | refine Keeps.foldl1 ?_ fun _ _ _ => ?_
    | refine Keeps.foldl2 ?_ fun _ _ _ => ?_ | refine Keeps.foldl22 ?_ fun _ _ _ => ?_ | apply Keeps.forLanes
    | apply Keeps.getD | split | (intro _ _ _) | (intro _ _) | fail_if_no_progress refine Keeps.upd ?_
    | (dsimp +zetaDelta only; split)

theorem fabReplied_keeps (s : State) (x1 : Nat) (x2 : Nat) (x3 : FabBody → Option Nat) : Keeps 0x800 s
    (@State.fabReplied s x1 x2 x3) := by
  delta State.fabReplied; repeat' with_reducible first
    | extract_lets | assumption | exact Keeps.refl | apply Keeps.ite | refine Keeps.foldl ?_ fun _ _ _ => ?_
    | refine Keeps.foldl1 ?_ fun _ _ _ => ?_ | refine Keeps.foldl2 ?_ fun _ _ _ => ?_
    | refine Keeps.foldl22 ?_ fun _ _ _ => ?_ | apply Keeps.forLanes | apply Keeps.getD | split | (intro _ _ _)
    | (intro _ _) | fail_if_no_progress refine Keeps.upd ?_ | (dsimp +zetaDelta only; split)

theorem setPair_keeps (s : State) (x1 : Pair) : Keeps 0x400 s (@State.setPair s x1) := by
  delta State.setPair; repeat' with_reducible first
    | extract_lets | assumption | exact Keeps.refl | apply Keeps.ite | refine Keeps.foldl ?_ fun _ _ _ => ?_
    | refine Keeps.foldl1 ?_ fun _ _ _ => ?_ | refine Keeps.foldl2 ?_ fun _ _ _ => ?_
    | refine Keeps.foldl22 ?_ fun _ _ _ => ?_ | apply Keeps.forLanes | apply Keeps.getD | split | (intro _ _ _)
    | (intro _ _) | fail_if_no_progress refine Keeps.upd ?_ | (dsimp +zetaDelta only; split)

theorem loseSync_keeps (s : State) (x1 : Nat) : Keeps 0x102404 s (@State.loseSync s x1) := by
  delta State.loseSync; repeat' with_reducible first
    | extract_lets | assumption | exact Keeps.refl | refine (pairEvent_keeps ..).step ?_ rfl
    | refine (setPair_keeps ..).step ?_ rfl | apply Keeps.ite | refine Keeps.foldl ?_ fun _ _ _ => ?_
    | refine Keeps.foldl1 ?_ fun _ _ _ => ?_ | refine Keeps.foldl2 ?_ fun _ _ _ => ?_
    | refine Keeps.foldl22 ?_ fun _ _ _ => ?_ | apply Keeps.forLanes | apply Keeps.getD | split | (intro _ _ _)
    | (intro _ _) | fail_if_no_progress refine Keeps.upd ?_ | (dsimp +zetaDelta only; split)

theorem pairDone_keeps (s : State) (x1 : Placed) (x2 : Nat) (x3 : Word) : Keeps 0x102404 s (@State.pairDone s x1 x2
    x3) := by
  delta State.pairDone; repeat' with_reducible first
    | extract_lets | assumption | exact Keeps.refl | refine (loseSync_keeps ..).step ?_ rfl
    | refine (compareOut_keeps ..).step ?_ rfl | refine (pairEvent_keeps ..).step ?_ rfl
    | refine (mirSend_keeps ..).step ?_ rfl | refine (setPair_keeps ..).step ?_ rfl | apply Keeps.ite
    | refine Keeps.foldl ?_ fun _ _ _ => ?_ | refine Keeps.foldl1 ?_ fun _ _ _ => ?_
    | refine Keeps.foldl2 ?_ fun _ _ _ => ?_ | refine Keeps.foldl22 ?_ fun _ _ _ => ?_ | apply Keeps.forLanes
    | apply Keeps.getD | split | (intro _ _ _) | (intro _ _) | fail_if_no_progress refine Keeps.upd ?_
    | (dsimp +zetaDelta only; split)

theorem refLinks_keeps (s : State) (x1 : List Nat) : Keeps 0x800 s (@State.refLinks s x1) := by
  delta State.refLinks; repeat' with_reducible first
    | extract_lets | assumption | exact Keeps.refl | apply Keeps.ite | refine Keeps.foldl ?_ fun _ _ _ => ?_
    | refine Keeps.foldl1 ?_ fun _ _ _ => ?_ | refine Keeps.foldl2 ?_ fun _ _ _ => ?_
    | refine Keeps.foldl22 ?_ fun _ _ _ => ?_ | apply Keeps.forLanes | apply Keeps.getD | split | (intro _ _ _)
    | (intro _ _) | fail_if_no_progress refine Keeps.upd ?_ | (dsimp +zetaDelta only; split)

theorem rbDone_keeps (s : State) (x1 : Nat) (x2 : Nat) : Keeps 0x2800 s (@State.rbDone s x1 x2) := by
  delta State.rbDone; repeat' with_reducible first
    | extract_lets | assumption | exact Keeps.refl | refine (fabComplete_keeps ..).step ?_ rfl | apply Keeps.ite
    | refine Keeps.foldl ?_ fun _ _ _ => ?_ | refine Keeps.foldl1 ?_ fun _ _ _ => ?_
    | refine Keeps.foldl2 ?_ fun _ _ _ => ?_ | refine Keeps.foldl22 ?_ fun _ _ _ => ?_ | apply Keeps.forLanes
    | apply Keeps.getD | split | (intro _ _ _) | (intro _ _) | fail_if_no_progress refine Keeps.upd ?_
    | (dsimp +zetaDelta only; split)

theorem segRefs_keeps (s : State) (x1 : FabSeg) : Keeps 0xa00 s (@State.segRefs s x1) := by
  delta State.segRefs; repeat' with_reducible first
    | extract_lets | assumption | exact Keeps.refl | apply Keeps.ite | refine Keeps.foldl ?_ fun _ _ _ => ?_
    | refine Keeps.foldl1 ?_ fun _ _ _ => ?_ | refine Keeps.foldl2 ?_ fun _ _ _ => ?_
    | refine Keeps.foldl22 ?_ fun _ _ _ => ?_ | apply Keeps.forLanes | apply Keeps.getD | split | (intro _ _ _)
    | (intro _ _) | fail_if_no_progress refine Keeps.upd ?_ | (dsimp +zetaDelta only; split)

theorem segDone_keeps (s : State) (x1 : Placed) (x2 : SegOut) : Keeps 0x302f04 s (@State.segDone s x1 x2) := by
  delta State.segDone; repeat' with_reducible first
    | extract_lets | assumption | exact Keeps.refl | refine (rbDone_keeps ..).step ?_ rfl
    | refine (fabSend_keeps ..).step ?_ rfl | refine (modSeg_keeps ..).step ?_ rfl
    | refine (segRefs_keeps ..).step ?_ rfl | refine (fabGather_keeps ..).step ?_ rfl | apply Keeps.ite
    | refine Keeps.foldl ?_ fun _ _ _ => ?_ | refine Keeps.foldl1 ?_ fun _ _ _ => ?_
    | refine Keeps.foldl2 ?_ fun _ _ _ => ?_ | refine Keeps.foldl22 ?_ fun _ _ _ => ?_ | apply Keeps.forLanes
    | apply Keeps.getD | split | (intro _ _ _) | (intro _ _) | fail_if_no_progress refine Keeps.upd ?_
    | (dsimp +zetaDelta only; split)

theorem finish_keeps (s : State) (x1 : Placed) (x2 : Nat) : Keeps 0x302f04 s (@State.finish s x1 x2) := by
  delta State.finish; repeat' with_reducible first
    | extract_lets | assumption | exact Keeps.refl | refine (dropPlaced_keeps ..).step ?_ rfl
    | refine (completeTxn_keeps ..).step ?_ rfl | refine (pairDone_keeps ..).step ?_ rfl
    | refine (refLinks_keeps ..).step ?_ rfl | refine (segDone_keeps ..).step ?_ rfl | apply Keeps.ite
    | refine Keeps.foldl ?_ fun _ _ _ => ?_ | refine Keeps.foldl1 ?_ fun _ _ _ => ?_
    | refine Keeps.foldl2 ?_ fun _ _ _ => ?_ | refine Keeps.foldl22 ?_ fun _ _ _ => ?_ | apply Keeps.forLanes
    | apply Keeps.getD | split | (intro _ _ _) | (intro _ _) | fail_if_no_progress refine Keeps.upd ?_
    | (dsimp +zetaDelta only; split)

theorem sweepLost_keeps (s : State) : Keeps 0x302f04 s (@State.sweepLost s) := by
  delta State.sweepLost; repeat' with_reducible first
    | extract_lets | assumption | exact Keeps.refl | refine (finish_keeps ..).step ?_ rfl | apply Keeps.ite
    | refine Keeps.foldl ?_ fun _ _ _ => ?_ | refine Keeps.foldl1 ?_ fun _ _ _ => ?_
    | refine Keeps.foldl2 ?_ fun _ _ _ => ?_ | refine Keeps.foldl22 ?_ fun _ _ _ => ?_ | apply Keeps.forLanes
    | apply Keeps.getD | split | (intro _ _ _) | (intro _ _) | fail_if_no_progress refine Keeps.upd ?_
    | (dsimp +zetaDelta only; split)

theorem tagSuspend_keeps (s : State) (x1 : Nat) : Keeps 0x200 s (@State.tagSuspend s x1) := by
  delta State.tagSuspend; repeat' with_reducible first
    | extract_lets | assumption | exact Keeps.refl | apply Keeps.ite | refine Keeps.foldl ?_ fun _ _ _ => ?_
    | refine Keeps.foldl1 ?_ fun _ _ _ => ?_ | refine Keeps.foldl2 ?_ fun _ _ _ => ?_
    | refine Keeps.foldl22 ?_ fun _ _ _ => ?_ | apply Keeps.forLanes | apply Keeps.getD | split | (intro _ _ _)
    | (intro _ _) | fail_if_no_progress refine Keeps.upd ?_ | (dsimp +zetaDelta only; split)

theorem releaseSeg_keeps (s : State) (x1 : Nat) (x2 : Nat) : Keeps 0x300b04 s (@State.releaseSeg s x1 x2) := by
  delta State.releaseSeg; repeat' with_reducible first
    | extract_lets | assumption | exact Keeps.refl | refine beneath_keeps ?_ rfl _ _ _ ?_
    | refine (withdraw_keeps ..).step ?_ rfl | apply Keeps.ite | refine Keeps.foldl ?_ fun _ _ _ => ?_
    | refine Keeps.foldl1 ?_ fun _ _ _ => ?_ | refine Keeps.foldl2 ?_ fun _ _ _ => ?_
    | refine Keeps.foldl22 ?_ fun _ _ _ => ?_ | apply Keeps.forLanes | apply Keeps.getD | split | (intro _ _ _)
    | (intro _ _) | fail_if_no_progress refine Keeps.upd ?_ | (dsimp +zetaDelta only; split)

theorem abortTry_keeps (s : State) (x1 : FabReq) (x2 : Nat) : Keeps 0x300b04 s (@State.abortTry s x1 x2) := by
  delta State.abortTry; repeat' with_reducible first
    | extract_lets | assumption | exact Keeps.refl | refine (fabSend_keeps ..).step ?_ rfl
    | refine (releaseSeg_keeps ..).step ?_ rfl | apply Keeps.ite | refine Keeps.foldl ?_ fun _ _ _ => ?_
    | refine Keeps.foldl1 ?_ fun _ _ _ => ?_ | refine Keeps.foldl2 ?_ fun _ _ _ => ?_
    | refine Keeps.foldl22 ?_ fun _ _ _ => ?_ | apply Keeps.forLanes | apply Keeps.getD | split | (intro _ _ _)
    | (intro _ _) | fail_if_no_progress refine Keeps.upd ?_ | (dsimp +zetaDelta only; split)

theorem setFab_keeps (s : State) (x1 : Fab) : Keeps 0x800 s (@State.setFab s x1) := by
  delta State.setFab; repeat' with_reducible first
    | extract_lets | assumption | exact Keeps.refl | apply Keeps.ite | refine Keeps.foldl ?_ fun _ _ _ => ?_
    | refine Keeps.foldl1 ?_ fun _ _ _ => ?_ | refine Keeps.foldl2 ?_ fun _ _ _ => ?_
    | refine Keeps.foldl22 ?_ fun _ _ _ => ?_ | apply Keeps.forLanes | apply Keeps.getD | split | (intro _ _ _)
    | (intro _ _) | fail_if_no_progress refine Keeps.upd ?_ | (dsimp +zetaDelta only; split)

theorem claimLink_keeps (s : State) (x1 : Claim) : Keeps 0x800 s (@State.claimLink s x1) := by
  delta State.claimLink; repeat' with_reducible first
    | extract_lets | assumption | exact Keeps.refl | refine (setFab_keeps ..).step ?_ rfl | apply Keeps.ite
    | refine Keeps.foldl ?_ fun _ _ _ => ?_ | refine Keeps.foldl1 ?_ fun _ _ _ => ?_
    | refine Keeps.foldl2 ?_ fun _ _ _ => ?_ | refine Keeps.foldl22 ?_ fun _ _ _ => ?_ | apply Keeps.forLanes
    | apply Keeps.getD | split | (intro _ _ _) | (intro _ _) | fail_if_no_progress refine Keeps.upd ?_
    | (dsimp +zetaDelta only; split)

theorem commitSeg_keeps (s : State) (x1 : Nat) (x2 : Nat) (x3 : Nat) : Keeps 0x302f04 s (@State.commitSeg s x1 x2 x3)
    := by
  delta State.commitSeg; repeat' with_reducible first
    | extract_lets | assumption | exact Keeps.refl | refine (finish_keeps ..).step ?_ rfl
    | refine (releaseSeg_keeps ..).step ?_ rfl | refine (fabGather_keeps ..).step ?_ rfl
    | refine (fabSend_keeps ..).step ?_ rfl | refine (stage_keeps ..).step ?_ rfl
    | refine (modSeg_keeps ..).step ?_ rfl | refine (modTxn_keeps ..).step ?_ rfl | apply Keeps.ite
    | refine Keeps.foldl ?_ fun _ _ _ => ?_ | refine Keeps.foldl1 ?_ fun _ _ _ => ?_
    | refine Keeps.foldl2 ?_ fun _ _ _ => ?_ | refine Keeps.foldl22 ?_ fun _ _ _ => ?_ | apply Keeps.forLanes
    | apply Keeps.getD | split | (intro _ _ _) | (intro _ _) | fail_if_no_progress refine Keeps.upd ?_
    | (dsimp +zetaDelta only; split)

theorem devFound_keeps (s : State) (x1 : Nat) : Keeps 0x102804 s (@State.devFound s x1) := by
  delta State.devFound; repeat' with_reducible first
    | extract_lets | assumption | exact Keeps.refl | refine (fabEvent_keeps ..).step ?_ rfl
    | refine (setFab_keeps ..).step ?_ rfl | apply Keeps.ite | refine Keeps.foldl ?_ fun _ _ _ => ?_
    | refine Keeps.foldl1 ?_ fun _ _ _ => ?_ | refine Keeps.foldl2 ?_ fun _ _ _ => ?_
    | refine Keeps.foldl22 ?_ fun _ _ _ => ?_ | apply Keeps.forLanes | apply Keeps.getD | split | (intro _ _ _)
    | (intro _ _) | fail_if_no_progress refine Keeps.upd ?_ | (dsimp +zetaDelta only; split)

theorem dropReq_keeps (s : State) (x1 : Nat) : Keeps 0x800 s (@State.dropReq s x1) := by
  delta State.dropReq; repeat' with_reducible first
    | extract_lets | assumption | exact Keeps.refl | apply Keeps.ite | refine Keeps.foldl ?_ fun _ _ _ => ?_
    | refine Keeps.foldl1 ?_ fun _ _ _ => ?_ | refine Keeps.foldl2 ?_ fun _ _ _ => ?_
    | refine Keeps.foldl22 ?_ fun _ _ _ => ?_ | apply Keeps.forLanes | apply Keeps.getD | split | (intro _ _ _)
    | (intro _ _) | fail_if_no_progress refine Keeps.upd ?_ | (dsimp +zetaDelta only; split)

theorem resvFail_keeps (s : State) (x1 : FabReq) (x2 : Nat) : Keeps 0x102804 s (@State.resvFail s x1 x2) := by
  delta State.resvFail; repeat' with_reducible first
    | extract_lets | assumption | exact Keeps.refl | refine (fabEvent_keeps ..).step ?_ rfl
    | refine (setFpath_keeps ..).step ?_ rfl | refine (dropReq_keeps ..).step ?_ rfl
    | refine (fabComplete_keeps ..).step ?_ rfl | apply Keeps.ite | refine Keeps.foldl ?_ fun _ _ _ => ?_
    | refine Keeps.foldl1 ?_ fun _ _ _ => ?_ | refine Keeps.foldl2 ?_ fun _ _ _ => ?_
    | refine Keeps.foldl22 ?_ fun _ _ _ => ?_ | apply Keeps.forLanes | apply Keeps.getD | split | (intro _ _ _)
    | (intro _ _) | fail_if_no_progress refine Keeps.upd ?_ | (dsimp +zetaDelta only; split)

theorem placeSeg_keeps (s : State) (x1 : Nat) (x2 : Nat) (x3 : Nat) (x4 : Nat) (x5 : List Req) (x6 : List (Nat × Nat
    × Nat)) (x7 : Nat) (x8 : Nat) (p) (hp : @State.placeSeg s x1 x2 x3 x4 x5 x6 x7 x8 = some p) : Keeps 0xa00 s p.1
    := by
  delta State.placeSeg at hp; (repeat' (first | extract_lets at hp | split at hp)) <;> (first | cases hp | skip)
  all_goals repeat' with_reducible first
    | extract_lets | assumption | exact Keeps.refl | refine (takeChanges_keeps ..).step ?_ rfl
    | refine (addPlaced_keeps ..).step ?_ rfl | apply Keeps.ite | refine Keeps.foldl ?_ fun _ _ _ => ?_
    | refine Keeps.foldl1 ?_ fun _ _ _ => ?_ | refine Keeps.foldl2 ?_ fun _ _ _ => ?_
    | refine Keeps.foldl22 ?_ fun _ _ _ => ?_ | apply Keeps.forLanes | apply Keeps.getD | split | (intro _ _ _)
    | (intro _ _) | fail_if_no_progress refine Keeps.upd ?_ | (dsimp +zetaDelta only; split)

theorem owesRelease_keeps (s : State) (x1 : List Nat) (x2 : List FabItem) : Keeps 0x800 s (@State.owesRelease s x1
    x2) := by
  delta State.owesRelease; repeat' with_reducible first
    | extract_lets | assumption | exact Keeps.refl | refine (setFab_keeps ..).step ?_ rfl | apply Keeps.ite
    | refine Keeps.foldl ?_ fun _ _ _ => ?_ | refine Keeps.foldl1 ?_ fun _ _ _ => ?_
    | refine Keeps.foldl2 ?_ fun _ _ _ => ?_ | refine Keeps.foldl22 ?_ fun _ _ _ => ?_ | apply Keeps.forLanes
    | apply Keeps.getD | split | (intro _ _ _) | (intro _ _) | fail_if_no_progress refine Keeps.upd ?_
    | (dsimp +zetaDelta only; split)

theorem fabTry_keeps (n : Nat) (s : State) (q : FabReq) : Keeps 0x302b04 s (State.fabTry n s q) := by
  induction n generalizing s q with
  | zero => exact (resvFail_keeps s _ _).step Keeps.refl rfl
  | succ n ih =>
    unfold State.fabTry
    repeat' with_reducible first
    | extract_lets | assumption | exact Keeps.refl | refine (ih _ _).step ?_ rfl | refine (resvFail_keeps ..).step ?_ rfl
    | refine (fabSend_keeps ..).step ?_ rfl | refine (setFab_keeps ..).step ?_ rfl
    | refine (owesRelease_keeps ..).step ?_ rfl
    | refine (releaseSeg_keeps ..).step ?_ rfl | refine (placeSeg_keeps (hp := by assumption) ..).step ?_ rfl
    | refine (placeSeg_keeps (p := (_, _)) (hp := by assumption) ..).step ?_ rfl | apply Keeps.ite
    | refine Keeps.foldl ?_ fun _ _ _ => ?_ | split

theorem reroute_keeps (s : State) (x1 : List Nat) (x2 : Bool) : Keeps 0x302b04 s (@State.reroute s x1 x2) := by
  delta State.reroute; repeat' with_reducible first
    | extract_lets | assumption | exact Keeps.refl | refine (setFpath_keeps ..).step ?_ rfl
    | refine (fabEvent_keeps ..).step ?_ rfl | refine (setFab_keeps ..).step ?_ rfl
    | refine (fabTry_keeps ..).step ?_ rfl | apply Keeps.ite | refine Keeps.foldl ?_ fun _ _ _ => ?_
    | refine Keeps.foldl1 ?_ fun _ _ _ => ?_ | refine Keeps.foldl2 ?_ fun _ _ _ => ?_
    | refine Keeps.foldl22 ?_ fun _ _ _ => ?_ | apply Keeps.forLanes | apply Keeps.getD | split | (intro _ _ _)
    | (intro _ _) | fail_if_no_progress refine Keeps.upd ?_ | (dsimp +zetaDelta only; split)

theorem lossOf_keeps (s : State) (x1 : FabPath → Bool) : Keeps 0x302b04 s (@State.lossOf s x1) := by
  delta State.lossOf; repeat' with_reducible first
    | extract_lets | assumption | exact Keeps.refl | refine (reroute_keeps ..).step ?_ rfl
    | refine (setFab_keeps ..).step ?_ rfl | apply Keeps.ite | refine Keeps.foldl ?_ fun _ _ _ => ?_
    | refine Keeps.foldl1 ?_ fun _ _ _ => ?_ | refine Keeps.foldl2 ?_ fun _ _ _ => ?_
    | refine Keeps.foldl22 ?_ fun _ _ _ => ?_ | apply Keeps.forLanes | apply Keeps.getD | split | (intro _ _ _)
    | (intro _ _) | fail_if_no_progress refine Keeps.upd ?_ | (dsimp +zetaDelta only; split)

theorem devLost_keeps (s : State) (x1 : Nat) : Keeps 0x302b04 s (@State.devLost s x1) := by
  delta State.devLost; repeat' with_reducible first
    | extract_lets | assumption | exact Keeps.refl | refine (fabEvent_keeps ..).step ?_ rfl
    | refine (setFab_keeps ..).step ?_ rfl | refine (lossOf_keeps ..).step ?_ rfl | apply Keeps.ite
    | refine Keeps.foldl ?_ fun _ _ _ => ?_ | refine Keeps.foldl1 ?_ fun _ _ _ => ?_
    | refine Keeps.foldl2 ?_ fun _ _ _ => ?_ | refine Keeps.foldl22 ?_ fun _ _ _ => ?_ | apply Keeps.forLanes
    | apply Keeps.getD | split | (intro _ _ _) | (intro _ _) | fail_if_no_progress refine Keeps.upd ?_
    | (dsimp +zetaDelta only; split)

theorem dropProbes_keeps (s : State) (x1 : Nat × Nat → Bool) : Keeps 0x200b00 s (@State.dropProbes s x1) := by
  delta State.dropProbes; repeat' with_reducible first
    | extract_lets | assumption | exact Keeps.refl | refine (tagStop_keeps ..).step ?_ rfl
    | refine (setFab_keeps ..).step ?_ rfl | refine (newPat_keeps _ _ _ _ _ _ _ _ (_, _) (by assumption)).step ?_ rfl
    | refine (newPat_keeps _ _ _ _ _ _ _ _ _ (by assumption)).step ?_ rfl | apply Keeps.ite
    | refine Keeps.foldl ?_ fun _ _ _ => ?_ | refine Keeps.foldl1 ?_ fun _ _ _ => ?_
    | refine Keeps.foldl2 ?_ fun _ _ _ => ?_ | refine Keeps.foldl22 ?_ fun _ _ _ => ?_ | apply Keeps.forLanes
    | apply Keeps.getD | split | (intro _ _ _) | (intro _ _) | fail_if_no_progress refine Keeps.upd ?_
    | (dsimp +zetaDelta only; split)

theorem yieldProbes_keeps (s : State) : Keeps 0x200b00 s (@State.yieldProbes s) := by
  delta State.yieldProbes; repeat' with_reducible first
    | extract_lets | assumption | exact Keeps.refl | refine (dropProbes_keeps ..).step ?_ rfl | apply Keeps.ite
    | refine Keeps.foldl ?_ fun _ _ _ => ?_ | refine Keeps.foldl1 ?_ fun _ _ _ => ?_
    | refine Keeps.foldl2 ?_ fun _ _ _ => ?_ | refine Keeps.foldl22 ?_ fun _ _ _ => ?_ | apply Keeps.forLanes
    | apply Keeps.getD | split | (intro _ _ _) | (intro _ _) | fail_if_no_progress refine Keeps.upd ?_
    | (dsimp +zetaDelta only; split)

theorem missedLoss_keeps (s : State) : Keeps 0x302b04 s (@State.missedLoss s) := by
  delta State.missedLoss; repeat' with_reducible first
    | extract_lets | assumption | exact Keeps.refl | refine (setFab_keeps ..).step ?_ rfl
    | refine (reroute_keeps ..).step ?_ rfl | apply Keeps.ite | refine Keeps.foldl ?_ fun _ _ _ => ?_
    | refine Keeps.foldl1 ?_ fun _ _ _ => ?_ | refine Keeps.foldl2 ?_ fun _ _ _ => ?_
    | refine Keeps.foldl22 ?_ fun _ _ _ => ?_ | apply Keeps.forLanes | apply Keeps.getD | split | (intro _ _ _)
    | (intro _ _) | fail_if_no_progress refine Keeps.upd ?_ | (dsimp +zetaDelta only; split)

theorem lateRelease_keeps (s : State) : Keeps 0x800 s (@State.lateRelease s) := by
  delta State.lateRelease; repeat' with_reducible first
    | extract_lets | assumption | exact Keeps.refl | refine (fabSend_keeps ..).step ?_ rfl
    | refine (setFab_keeps ..).step ?_ rfl | apply Keeps.ite | refine Keeps.foldl ?_ fun _ _ _ => ?_
    | refine Keeps.foldl1 ?_ fun _ _ _ => ?_ | refine Keeps.foldl2 ?_ fun _ _ _ => ?_
    | refine Keeps.foldl22 ?_ fun _ _ _ => ?_ | apply Keeps.forLanes | apply Keeps.getD | split | (intro _ _ _)
    | (intro _ _) | fail_if_no_progress refine Keeps.upd ?_ | (dsimp +zetaDelta only; split)

theorem wakeWaiting_keeps (s : State) : Keeps 0xa00 s (@State.wakeWaiting s) := by
  delta State.wakeWaiting; repeat' with_reducible first
    | extract_lets | assumption | exact Keeps.refl | apply Keeps.ite | refine Keeps.foldl ?_ fun _ _ _ => ?_
    | refine Keeps.foldl1 ?_ fun _ _ _ => ?_ | refine Keeps.foldl2 ?_ fun _ _ _ => ?_
    | refine Keeps.foldl22 ?_ fun _ _ _ => ?_ | apply Keeps.forLanes | apply Keeps.getD | split | (intro _ _ _)
    | (intro _ _) | fail_if_no_progress refine Keeps.upd ?_ | (dsimp +zetaDelta only; split)

theorem fabAfter_keeps (s : State) : Keeps 0x302f04 s (@State.fabAfter s) := by
  delta State.fabAfter; repeat' with_reducible first
    | extract_lets | assumption | exact Keeps.refl | refine (yieldProbes_keeps ..).step ?_ rfl
    | refine (missedLoss_keeps ..).step ?_ rfl | refine (lateRelease_keeps ..).step ?_ rfl
    | refine (wakeWaiting_keeps ..).step ?_ rfl | refine (sweepLost_keeps ..).step ?_ rfl | apply Keeps.ite
    | refine Keeps.foldl ?_ fun _ _ _ => ?_ | refine Keeps.foldl1 ?_ fun _ _ _ => ?_
    | refine Keeps.foldl2 ?_ fun _ _ _ => ?_ | refine Keeps.foldl22 ?_ fun _ _ _ => ?_ | apply Keeps.forLanes
    | apply Keeps.getD | split | (intro _ _ _) | (intro _ _) | fail_if_no_progress refine Keeps.upd ?_
    | (dsimp +zetaDelta only; split)

theorem modReq_keeps (s : State) (x1 : Nat) (x2 : FabReq → FabReq) : Keeps 0x800 s (@State.modReq s x1 x2) := by
  delta State.modReq; repeat' with_reducible first
    | extract_lets | assumption | exact Keeps.refl | apply Keeps.ite | refine Keeps.foldl ?_ fun _ _ _ => ?_
    | refine Keeps.foldl1 ?_ fun _ _ _ => ?_ | refine Keeps.foldl2 ?_ fun _ _ _ => ?_
    | refine Keeps.foldl22 ?_ fun _ _ _ => ?_ | apply Keeps.forLanes | apply Keeps.getD | split | (intro _ _ _)
    | (intro _ _) | fail_if_no_progress refine Keeps.upd ?_ | (dsimp +zetaDelta only; split)

theorem fabCommit_keeps (s : State) (x1 : FabReq) : Keeps 0x302f04 s (@State.fabCommit s x1) := by
  delta State.fabCommit; repeat' with_reducible first
    | extract_lets | assumption | exact Keeps.refl | refine (raise_keeps ..).step ?_ rfl
    | refine (setF_keeps ..).step ?_ rfl | refine (releaseSeg_keeps ..).step ?_ rfl
    | refine (fabSend_keeps ..).step ?_ rfl | refine (resvFail_keeps ..).step ?_ rfl
    | refine (modReq_keeps ..).step ?_ rfl | refine (setFpath_keeps ..).step ?_ rfl
    | refine (commitSeg_keeps ..).step ?_ rfl | apply Keeps.ite | refine Keeps.foldl ?_ fun _ _ _ => ?_
    | refine Keeps.foldl1 ?_ fun _ _ _ => ?_ | refine Keeps.foldl2 ?_ fun _ _ _ => ?_
    | refine Keeps.foldl22 ?_ fun _ _ _ => ?_ | apply Keeps.forLanes | apply Keeps.getD | split | (intro _ _ _)
    | (intro _ _) | fail_if_no_progress refine Keeps.upd ?_ | (dsimp +zetaDelta only; split)

theorem fabReply_keeps (s : State) (x1 : Nat) (x2 : Nat) (x3 : Nat) (x4 : List (Nat × Nat)) : Keeps 0x302f04 s
    (@State.fabReply s x1 x2 x3 x4) := by
  delta State.fabReply; repeat' with_reducible first
    | extract_lets | assumption | exact Keeps.refl | refine (dropReq_keeps ..).step ?_ rfl
    | refine (abortTry_keeps ..).step ?_ rfl | refine (resvFail_keeps ..).step ?_ rfl
    | refine (fabTry_keeps ..).step ?_ rfl | refine (modReq_keeps ..).step ?_ rfl
    | refine (fabCommit_keeps ..).step ?_ rfl | apply Keeps.ite | refine Keeps.foldl ?_ fun _ _ _ => ?_
    | refine Keeps.foldl1 ?_ fun _ _ _ => ?_ | refine Keeps.foldl2 ?_ fun _ _ _ => ?_
    | refine Keeps.foldl22 ?_ fun _ _ _ => ?_ | apply Keeps.forLanes | apply Keeps.getD | split | (intro _ _ _)
    | (intro _ _) | fail_if_no_progress refine Keeps.upd ?_ | (dsimp +zetaDelta only; split)

theorem fabRequest_keeps (s : State) (x1 : Txn) (x2 : Req) : Keeps 0x302f04 s (@State.fabRequest s x1 x2) := by
  delta State.fabRequest; repeat' with_reducible first
    | extract_lets | assumption | exact Keeps.refl | refine (setFab_keeps ..).step ?_ rfl
    | refine (fabComplete_keeps ..).step ?_ rfl | refine (fabTry_keeps ..).step ?_ rfl
    | refine (setFpath_keeps ..).step ?_ rfl
    | refine (placeSeg_keeps _ _ _ _ _ _ _ _ _ (_, _) (by assumption)).step ?_ rfl
    | refine (placeSeg_keeps _ _ _ _ _ _ _ _ _ _ (by assumption)).step ?_ rfl
    | refine (owesRelease_keeps ..).step ?_ rfl | refine (fabCommit_keeps ..).step ?_ rfl
    | refine (fabSend_keeps ..).step ?_ rfl | apply Keeps.ite | refine Keeps.foldl ?_ fun _ _ _ => ?_
    | refine Keeps.foldl1 ?_ fun _ _ _ => ?_ | refine Keeps.foldl2 ?_ fun _ _ _ => ?_
    | refine Keeps.foldl22 ?_ fun _ _ _ => ?_ | apply Keeps.forLanes | apply Keeps.getD | split | (intro _ _ _)
    | (intro _ _) | fail_if_no_progress refine Keeps.upd ?_ | (dsimp +zetaDelta only; split)

theorem setLinkIn_keeps (s : State) (x1 : Nat) (x2 : Nat) (x3 : Nat) (x4 : Nat) : Keeps 0x102804 s (@State.setLinkIn
    s x1 x2 x3 x4) := by
  delta State.setLinkIn; repeat' with_reducible first
    | extract_lets | assumption | exact Keeps.refl | refine (setFab_keeps ..).step ?_ rfl
    | refine (fabEvent_keeps ..).step ?_ rfl | apply Keeps.ite | refine Keeps.foldl ?_ fun _ _ _ => ?_
    | refine Keeps.foldl1 ?_ fun _ _ _ => ?_ | refine Keeps.foldl2 ?_ fun _ _ _ => ?_
    | refine Keeps.foldl22 ?_ fun _ _ _ => ?_ | apply Keeps.forLanes | apply Keeps.getD | split | (intro _ _ _)
    | (intro _ _) | fail_if_no_progress refine Keeps.upd ?_ | (dsimp +zetaDelta only; split)

theorem matchIn_keeps (x0 : Nat) (s : State) (x2 : Nat) (x3 : Nat) : Keeps 0x102804 s (@State.matchIn x0 s x2 x3) := by
  delta State.matchIn; repeat' with_reducible first
    | extract_lets | assumption | exact Keeps.refl | refine (setLinkIn_keeps ..).step ?_ rfl
    | refine (fabEvent_keeps ..).step ?_ rfl | refine (setFab_keeps ..).step ?_ rfl | apply Keeps.ite
    | refine Keeps.foldl ?_ fun _ _ _ => ?_ | refine Keeps.foldl1 ?_ fun _ _ _ => ?_
    | refine Keeps.foldl2 ?_ fun _ _ _ => ?_ | refine Keeps.foldl22 ?_ fun _ _ _ => ?_ | apply Keeps.forLanes
    | apply Keeps.getD | split | (intro _ _ _) | (intro _ _) | fail_if_no_progress refine Keeps.upd ?_
    | (dsimp +zetaDelta only; split)

theorem setLinkOut_keeps (s : State) (x1 : Nat) (x2 : Nat) (x3 : Nat) (x4 : Nat) : Keeps 0x102804 s
    (@State.setLinkOut s x1 x2 x3 x4) := by
  delta State.setLinkOut; repeat' with_reducible first
    | extract_lets | assumption | exact Keeps.refl | refine (setFab_keeps ..).step ?_ rfl
    | refine (fabEvent_keeps ..).step ?_ rfl | apply Keeps.ite | refine Keeps.foldl ?_ fun _ _ _ => ?_
    | refine Keeps.foldl1 ?_ fun _ _ _ => ?_ | refine Keeps.foldl2 ?_ fun _ _ _ => ?_
    | refine Keeps.foldl22 ?_ fun _ _ _ => ?_ | apply Keeps.forLanes | apply Keeps.getD | split | (intro _ _ _)
    | (intro _ _) | fail_if_no_progress refine Keeps.upd ?_ | (dsimp +zetaDelta only; split)

theorem matchOut_keeps (x0 : Nat) (s : State) (x2 : Nat) (x3 : Nat) : Keeps 0x102804 s (@State.matchOut x0 s x2 x3)
    := by
  delta State.matchOut; repeat' with_reducible first
    | extract_lets | assumption | exact Keeps.refl | refine (setLinkOut_keeps ..).step ?_ rfl
    | refine (fabEvent_keeps ..).step ?_ rfl | refine (setFab_keeps ..).step ?_ rfl | apply Keeps.ite
    | refine Keeps.foldl ?_ fun _ _ _ => ?_ | refine Keeps.foldl1 ?_ fun _ _ _ => ?_
    | refine Keeps.foldl2 ?_ fun _ _ _ => ?_ | refine Keeps.foldl22 ?_ fun _ _ _ => ?_ | apply Keeps.forLanes
    | apply Keeps.getD | split | (intro _ _ _) | (intro _ _) | fail_if_no_progress refine Keeps.upd ?_
    | (dsimp +zetaDelta only; split)

theorem retryBlocked_keeps (s : State) : Keeps 0x302b04 s (@State.retryBlocked s) := by
  delta State.retryBlocked; repeat' with_reducible first
    | extract_lets | assumption | exact Keeps.refl | refine (reroute_keeps ..).step ?_ rfl | apply Keeps.ite
    | refine Keeps.foldl ?_ fun _ _ _ => ?_ | refine Keeps.foldl1 ?_ fun _ _ _ => ?_
    | refine Keeps.foldl2 ?_ fun _ _ _ => ?_ | refine Keeps.foldl22 ?_ fun _ _ _ => ?_ | apply Keeps.forLanes
    | apply Keeps.getD | split | (intro _ _ _) | (intro _ _) | fail_if_no_progress refine Keeps.upd ?_
    | (dsimp +zetaDelta only; split)

theorem segFault_keeps (s : State) (x1 : List Nat) (x2 : SegFix) : Keeps 0x302b04 s (@State.segFault s x1 x2) := by
  delta State.segFault; repeat' with_reducible first
    | extract_lets | assumption | exact Keeps.refl | refine (reroute_keeps ..).step ?_ rfl
    | refine (setFpath_keeps ..).step ?_ rfl | apply Keeps.ite | refine Keeps.foldl ?_ fun _ _ _ => ?_
    | refine Keeps.foldl1 ?_ fun _ _ _ => ?_ | refine Keeps.foldl2 ?_ fun _ _ _ => ?_
    | refine Keeps.foldl22 ?_ fun _ _ _ => ?_ | apply Keeps.forLanes | apply Keeps.getD | split | (intro _ _ _)
    | (intro _ _) | fail_if_no_progress refine Keeps.upd ?_ | (dsimp +zetaDelta only; split)

theorem tellAll_keeps (s : State) (x1 : FabBody) : Keeps 0x800 s (@State.tellAll s x1) := by
  delta State.tellAll; repeat' with_reducible first
    | extract_lets | assumption | exact Keeps.refl | refine (fabSend_keeps ..).step ?_ rfl | apply Keeps.ite
    | refine Keeps.foldl ?_ fun _ _ _ => ?_ | refine Keeps.foldl1 ?_ fun _ _ _ => ?_
    | refine Keeps.foldl2 ?_ fun _ _ _ => ?_ | refine Keeps.foldl22 ?_ fun _ _ _ => ?_ | apply Keeps.forLanes
    | apply Keeps.getD | split | (intro _ _ _) | (intro _ _) | fail_if_no_progress refine Keeps.upd ?_
    | (dsimp +zetaDelta only; split)

theorem tellOwner_keeps (s : State) (x1 : Nat) (x2 : SegFix) : Keeps 0x302b04 s (@State.tellOwner s x1 x2) := by
  delta State.tellOwner; repeat' with_reducible first
    | extract_lets | assumption | exact Keeps.refl | refine (segFault_keeps ..).step ?_ rfl
    | refine (fabSend_keeps ..).step ?_ rfl | apply Keeps.ite | refine Keeps.foldl ?_ fun _ _ _ => ?_
    | refine Keeps.foldl1 ?_ fun _ _ _ => ?_ | refine Keeps.foldl2 ?_ fun _ _ _ => ?_
    | refine Keeps.foldl22 ?_ fun _ _ _ => ?_ | apply Keeps.forLanes | apply Keeps.getD | split | (intro _ _ _)
    | (intro _ _) | fail_if_no_progress refine Keeps.upd ?_ | (dsimp +zetaDelta only; split)

theorem topoNote_keeps (x0 : State) (s : State) : Keeps 0x102004 s (@State.topoNote x0 s) := by
  delta State.topoNote; repeat' with_reducible first
    | extract_lets | assumption | exact Keeps.refl | refine (fabEvent_keeps ..).step ?_ rfl | apply Keeps.ite
    | refine Keeps.foldl ?_ fun _ _ _ => ?_ | refine Keeps.foldl1 ?_ fun _ _ _ => ?_
    | refine Keeps.foldl2 ?_ fun _ _ _ => ?_ | refine Keeps.foldl22 ?_ fun _ _ _ => ?_ | apply Keeps.forLanes
    | apply Keeps.getD | split | (intro _ _ _) | (intro _ _) | fail_if_no_progress refine Keeps.upd ?_
    | (dsimp +zetaDelta only; split)

theorem watchLink_keeps (x0 : Nat) (s : State) (x2 : Nat) : Keeps 0x302b04 s (@State.watchLink x0 s x2) := by
  delta State.watchLink; repeat' with_reducible first
    | extract_lets | assumption | exact Keeps.refl | refine (setFab_keeps ..).step ?_ rfl
    | refine (tellAll_keeps ..).step ?_ rfl | refine (fabEvent_keeps ..).step ?_ rfl
    | refine (lossOf_keeps ..).step ?_ rfl | apply Keeps.ite | refine Keeps.foldl ?_ fun _ _ _ => ?_
    | refine Keeps.foldl1 ?_ fun _ _ _ => ?_ | refine Keeps.foldl2 ?_ fun _ _ _ => ?_
    | refine Keeps.foldl22 ?_ fun _ _ _ => ?_ | apply Keeps.forLanes | apply Keeps.getD | split | (intro _ _ _)
    | (intro _ _) | fail_if_no_progress refine Keeps.upd ?_ | (dsimp +zetaDelta only; split)

theorem commitIn_keeps (x0 : FabMsg) (s : State) : Keeps 0x302f04 s (@commitIn x0 s) := by
  delta commitIn; repeat' with_reducible first
    | extract_lets | assumption | exact Keeps.refl | refine (fabReplied_keeps ..).step ?_ rfl
    | refine (segRollback_keeps ..).step ?_ rfl | refine (commitSeg_keeps ..).step ?_ rfl
    | refine (releaseSeg_keeps ..).step ?_ rfl | apply Keeps.ite | refine Keeps.foldl ?_ fun _ _ _ => ?_
    | refine Keeps.foldl1 ?_ fun _ _ _ => ?_ | refine Keeps.foldl2 ?_ fun _ _ _ => ?_
    | refine Keeps.foldl22 ?_ fun _ _ _ => ?_ | apply Keeps.forLanes | apply Keeps.getD | split | (intro _ _ _)
    | (intro _ _) | fail_if_no_progress refine Keeps.upd ?_ | (dsimp +zetaDelta only; split)

theorem discIn_keeps (x0 : FabMsg) (s : State) : Keeps 0x302b04 s (@discIn x0 s) := by
  delta discIn; repeat' with_reducible first
    | extract_lets | assumption | exact Keeps.refl | refine (setFab_keeps ..).step ?_ rfl
    | refine (matchOut_keeps ..).step ?_ rfl | refine (matchIn_keeps ..).step ?_ rfl
    | refine (claimLink_keeps ..).step ?_ rfl | refine (retryBlocked_keeps ..).step ?_ rfl | apply Keeps.ite
    | refine Keeps.foldl ?_ fun _ _ _ => ?_ | refine Keeps.foldl1 ?_ fun _ _ _ => ?_
    | refine Keeps.foldl2 ?_ fun _ _ _ => ?_ | refine Keeps.foldl22 ?_ fun _ _ _ => ?_ | apply Keeps.forLanes
    | apply Keeps.getD | split | (intro _ _ _) | (intro _ _) | fail_if_no_progress refine Keeps.upd ?_
    | (dsimp +zetaDelta only; split)

theorem fabRecv_keeps {n : Nat} {s : State} (x : FabMsg) (t : Nat) {f : State → State}
    (k : ∀ u, Keeps n s u → Keeps n s (f u)) (hn : 0x302f84 ||| n = n) : Keeps n s (fabRecv x t f s) := by
  delta fabRecv
  have hs : ∀ {u v : State}, Keeps 0x302f84 u v → Keeps n s u → Keeps n s v := fun a b => a.step b hn
  have hf : ∀ {u : State} (y : Fab), Keeps n s u → Keeps n s (u.setFab y) := fun y => hs ((setFab_keeps _ y).step
      Keeps.refl rfl)
  refine Keeps.ite Keeps.refl ?_
  extract_lets s1 _ s2
  have h1 : Keeps n s s1 := hs ((passTo_keeps s t).step Keeps.refl rfl) Keeps.refl
  have h2 : Keeps n s s2 := Keeps.ite (hf _ h1) h1
  exact Keeps.ite (Keeps.ite h1 (hs ((fabEvent_keeps ..).step Keeps.refl rfl) (hf _ h1)))
    (Keeps.ite (Keeps.ite h1 (hf _ h1)) (Keeps.ite h1 (hs ((schedEvent_keeps ..).step
      ((fabAfter_keeps ..).step ((topoNote_keeps ..).step Keeps.refl rfl) rfl) rfl) (k _ h2))))

theorem doCommit_keeps (x0 : FabMsg) (x1 : Nat) (s : State) : Keeps 0x302f84 s (@doCommit x0 x1 s) := by
  delta doCommit; repeat' with_reducible first
    | extract_lets | assumption | exact Keeps.refl | refine fabRecv_keeps _ _ ?_ rfl
    | refine (commitIn_keeps ..).step ?_ rfl | apply Keeps.ite | refine Keeps.foldl ?_ fun _ _ _ => ?_
    | refine Keeps.foldl1 ?_ fun _ _ _ => ?_ | refine Keeps.foldl2 ?_ fun _ _ _ => ?_
    | refine Keeps.foldl22 ?_ fun _ _ _ => ?_ | apply Keeps.forLanes | apply Keeps.getD | split | (intro _ _ _)
    | (intro _ _) | fail_if_no_progress refine Keeps.upd ?_ | (dsimp +zetaDelta only; split)

theorem doControlRetransmit_keeps (x0 : Nat) (s : State) : Keeps 0x880 s (@doControlRetransmit x0 s) := by
  delta doControlRetransmit; repeat' with_reducible first
    | extract_lets | assumption | exact Keeps.refl | refine (passTo_keeps ..).step ?_ rfl
    | refine (setFab_keeps ..).step ?_ rfl | apply Keeps.ite | refine Keeps.foldl ?_ fun _ _ _ => ?_
    | refine Keeps.foldl1 ?_ fun _ _ _ => ?_ | refine Keeps.foldl2 ?_ fun _ _ _ => ?_
    | refine Keeps.foldl22 ?_ fun _ _ _ => ?_ | apply Keeps.forLanes | apply Keeps.getD | split | (intro _ _ _)
    | (intro _ _) | fail_if_no_progress refine Keeps.upd ?_ | (dsimp +zetaDelta only; split)

theorem doDisc_keeps (x0 : FabMsg) (x1 : Nat) (s : State) : Keeps 0x302f84 s (@doDisc x0 x1 s) := by
  delta doDisc; repeat' with_reducible first
    | extract_lets | assumption | exact Keeps.refl | refine fabRecv_keeps _ _ ?_ rfl
    | refine (discIn_keeps ..).step ?_ rfl | apply Keeps.ite | refine Keeps.foldl ?_ fun _ _ _ => ?_
    | refine Keeps.foldl1 ?_ fun _ _ _ => ?_ | refine Keeps.foldl2 ?_ fun _ _ _ => ?_
    | refine Keeps.foldl22 ?_ fun _ _ _ => ?_ | apply Keeps.forLanes | apply Keeps.getD | split | (intro _ _ _)
    | (intro _ _) | fail_if_no_progress refine Keeps.upd ?_ | (dsimp +zetaDelta only; split)

theorem doDiscSend_keeps (x0 : Nat) (s : State) : Keeps 0x880 s (@doDiscSend x0 s) := by
  delta doDiscSend; repeat' with_reducible first
    | extract_lets | assumption | exact Keeps.refl | refine (passTo_keeps ..).step ?_ rfl
    | refine (tellAll_keeps ..).step ?_ rfl | refine (setFab_keeps ..).step ?_ rfl
    | refine (fabSend_keeps ..).step ?_ rfl | apply Keeps.ite | refine Keeps.foldl ?_ fun _ _ _ => ?_
    | refine Keeps.foldl1 ?_ fun _ _ _ => ?_ | refine Keeps.foldl2 ?_ fun _ _ _ => ?_
    | refine Keeps.foldl22 ?_ fun _ _ _ => ?_ | apply Keeps.forLanes | apply Keeps.getD | split | (intro _ _ _)
    | (intro _ _) | fail_if_no_progress refine Keeps.upd ?_ | (dsimp +zetaDelta only; split)

theorem downIn_keeps (x0 : FabMsg) (s : State) : Keeps 0x302b04 s (@downIn x0 s) := by
  delta downIn; repeat' with_reducible first
    | extract_lets | assumption | exact Keeps.refl | refine (devLost_keeps ..).step ?_ rfl
    | refine (setFab_keeps ..).step ?_ rfl | refine (lossOf_keeps ..).step ?_ rfl | apply Keeps.ite
    | refine Keeps.foldl ?_ fun _ _ _ => ?_ | refine Keeps.foldl1 ?_ fun _ _ _ => ?_
    | refine Keeps.foldl2 ?_ fun _ _ _ => ?_ | refine Keeps.foldl22 ?_ fun _ _ _ => ?_ | apply Keeps.forLanes
    | apply Keeps.getD | split | (intro _ _ _) | (intro _ _) | fail_if_no_progress refine Keeps.upd ?_
    | (dsimp +zetaDelta only; split)

theorem doDown_keeps (x0 : FabMsg) (x1 : Nat) (s : State) : Keeps 0x302f84 s (@doDown x0 x1 s) := by
  delta doDown; repeat' with_reducible first
    | extract_lets | assumption | exact Keeps.refl | refine fabRecv_keeps _ _ ?_ rfl
    | refine (downIn_keeps ..).step ?_ rfl | apply Keeps.ite | refine Keeps.foldl ?_ fun _ _ _ => ?_
    | refine Keeps.foldl1 ?_ fun _ _ _ => ?_ | refine Keeps.foldl2 ?_ fun _ _ _ => ?_
    | refine Keeps.foldl22 ?_ fun _ _ _ => ?_ | apply Keeps.forLanes | apply Keeps.getD | split | (intro _ _ _)
    | (intro _ _) | fail_if_no_progress refine Keeps.upd ?_ | (dsimp +zetaDelta only; split)

theorem helloIn_keeps (x0 : FabMsg) (x1 : Nat) (x2 : Nat) (s : State) : Keeps 0x302b04 s (@helloIn x0 x1 x2 s) := by
  delta helloIn; repeat' with_reducible first
    | extract_lets | assumption | exact Keeps.refl | refine (setFab_keeps ..).step ?_ rfl
    | refine (devFound_keeps ..).step ?_ rfl | refine (fabEvent_keeps ..).step ?_ rfl
    | refine (retryBlocked_keeps ..).step ?_ rfl | apply Keeps.ite | refine Keeps.foldl ?_ fun _ _ _ => ?_
    | refine Keeps.foldl1 ?_ fun _ _ _ => ?_ | refine Keeps.foldl2 ?_ fun _ _ _ => ?_
    | refine Keeps.foldl22 ?_ fun _ _ _ => ?_ | apply Keeps.forLanes | apply Keeps.getD | split | (intro _ _ _)
    | (intro _ _) | fail_if_no_progress refine Keeps.upd ?_ | (dsimp +zetaDelta only; split)

theorem doFabHello_keeps (x0 : FabMsg) (x1 : Nat) (x2 : Nat) (s : State) : Keeps 0x302f84 s (@doFabHello x0 x1 x2 s)
    := by
  delta doFabHello; repeat' with_reducible first
    | extract_lets | assumption | exact Keeps.refl | refine fabRecv_keeps _ _ ?_ rfl
    | refine (helloIn_keeps ..).step ?_ rfl | apply Keeps.ite | refine Keeps.foldl ?_ fun _ _ _ => ?_
    | refine Keeps.foldl1 ?_ fun _ _ _ => ?_ | refine Keeps.foldl2 ?_ fun _ _ _ => ?_
    | refine Keeps.foldl22 ?_ fun _ _ _ => ?_ | apply Keeps.forLanes | apply Keeps.getD | split | (intro _ _ _)
    | (intro _ _) | fail_if_no_progress refine Keeps.upd ?_ | (dsimp +zetaDelta only; split)

theorem doFabHelloSend_keeps (x0 : Nat) (s : State) : Keeps 0x880 s (@doFabHelloSend x0 s) := by
  delta doFabHelloSend; repeat' with_reducible first
    | extract_lets | assumption | exact Keeps.refl | refine (passTo_keeps ..).step ?_ rfl
    | refine (fabSend_keeps ..).step ?_ rfl | apply Keeps.ite | refine Keeps.foldl ?_ fun _ _ _ => ?_
    | refine Keeps.foldl1 ?_ fun _ _ _ => ?_ | refine Keeps.foldl2 ?_ fun _ _ _ => ?_
    | refine Keeps.foldl22 ?_ fun _ _ _ => ?_ | apply Keeps.forLanes | apply Keeps.getD | split | (intro _ _ _)
    | (intro _ _) | fail_if_no_progress refine Keeps.upd ?_ | (dsimp +zetaDelta only; split)

theorem outcomeIn_keeps (x0 : FabMsg) (s : State) : Keeps 0x302f04 s (@outcomeIn x0 s) := by
  delta outcomeIn; repeat' with_reducible first
    | extract_lets | assumption | exact Keeps.refl | refine (fabReplied_keeps ..).step ?_ rfl
    | refine (fabGather_keeps ..).step ?_ rfl | refine (rbDone_keeps ..).step ?_ rfl
    | refine (segFault_keeps ..).step ?_ rfl | apply Keeps.ite | refine Keeps.foldl ?_ fun _ _ _ => ?_
    | refine Keeps.foldl1 ?_ fun _ _ _ => ?_ | refine Keeps.foldl2 ?_ fun _ _ _ => ?_
    | refine Keeps.foldl22 ?_ fun _ _ _ => ?_ | apply Keeps.forLanes | apply Keeps.getD | split | (intro _ _ _)
    | (intro _ _) | fail_if_no_progress refine Keeps.upd ?_ | (dsimp +zetaDelta only; split)

theorem doFabOutcome_keeps (x0 : FabMsg) (x1 : Nat) (s : State) : Keeps 0x302f84 s (@doFabOutcome x0 x1 s) := by
  delta doFabOutcome; repeat' with_reducible first
    | extract_lets | assumption | exact Keeps.refl | refine fabRecv_keeps _ _ ?_ rfl
    | refine (outcomeIn_keeps ..).step ?_ rfl | apply Keeps.ite | refine Keeps.foldl ?_ fun _ _ _ => ?_
    | refine Keeps.foldl1 ?_ fun _ _ _ => ?_ | refine Keeps.foldl2 ?_ fun _ _ _ => ?_
    | refine Keeps.foldl22 ?_ fun _ _ _ => ?_ | apply Keeps.forLanes | apply Keeps.getD | split | (intro _ _ _)
    | (intro _ _) | fail_if_no_progress refine Keeps.upd ?_ | (dsimp +zetaDelta only; split)

theorem doLinkLossDetect_keeps (x0 : Nat) (s : State) : Keeps 0x302f84 s (@doLinkLossDetect x0 s) := by
  delta doLinkLossDetect; repeat' with_reducible first
    | extract_lets | assumption | exact Keeps.refl | refine (passTo_keeps ..).step ?_ rfl
    | refine (watchLink_keeps ..).step ?_ rfl | refine (schedEvent_keeps ..).step ?_ rfl
    | refine (fabAfter_keeps ..).step ?_ rfl | refine (topoNote_keeps ..).step ?_ rfl | apply Keeps.ite
    | refine Keeps.foldl ?_ fun _ _ _ => ?_ | refine Keeps.foldl1 ?_ fun _ _ _ => ?_
    | refine Keeps.foldl2 ?_ fun _ _ _ => ?_ | refine Keeps.foldl22 ?_ fun _ _ _ => ?_ | apply Keeps.forLanes
    | apply Keeps.getD | split | (intro _ _ _) | (intro _ _) | fail_if_no_progress refine Keeps.upd ?_
    | (dsimp +zetaDelta only; split)

theorem lsaIn_keeps (x0 : FabMsg) (s : State) : Keeps 0x800 s (@lsaIn x0 s) := by
  delta lsaIn; repeat' with_reducible first
    | extract_lets | assumption | exact Keeps.refl | refine (setFab_keeps ..).step ?_ rfl | apply Keeps.ite
    | refine Keeps.foldl ?_ fun _ _ _ => ?_ | refine Keeps.foldl1 ?_ fun _ _ _ => ?_
    | refine Keeps.foldl2 ?_ fun _ _ _ => ?_ | refine Keeps.foldl22 ?_ fun _ _ _ => ?_ | apply Keeps.forLanes
    | apply Keeps.getD | split | (intro _ _ _) | (intro _ _) | fail_if_no_progress refine Keeps.upd ?_
    | (dsimp +zetaDelta only; split)

theorem doLsa_keeps (x0 : FabMsg) (x1 : Nat) (s : State) : Keeps 0x302f84 s (@doLsa x0 x1 s) := by
  delta doLsa; repeat' with_reducible first
    | extract_lets | assumption | exact Keeps.refl | refine fabRecv_keeps _ _ ?_ rfl
    | refine (lsaIn_keeps ..).step ?_ rfl | apply Keeps.ite | refine Keeps.foldl ?_ fun _ _ _ => ?_
    | refine Keeps.foldl1 ?_ fun _ _ _ => ?_ | refine Keeps.foldl2 ?_ fun _ _ _ => ?_
    | refine Keeps.foldl22 ?_ fun _ _ _ => ?_ | apply Keeps.forLanes | apply Keeps.getD | split | (intro _ _ _)
    | (intro _ _) | fail_if_no_progress refine Keeps.upd ?_ | (dsimp +zetaDelta only; split)

theorem doNeighbourLoss_keeps (x0 : Nat) (x1 : Nat) (s : State) : Keeps 0x302f84 s (@doNeighbourLoss x0 x1 s) := by
  delta doNeighbourLoss; repeat' with_reducible first
    | extract_lets | assumption | exact Keeps.refl | refine (passTo_keeps ..).step ?_ rfl
    | refine (setFab_keeps ..).step ?_ rfl | refine (schedEvent_keeps ..).step ?_ rfl
    | refine (fabAfter_keeps ..).step ?_ rfl | refine (topoNote_keeps ..).step ?_ rfl
    | refine (tellAll_keeps ..).step ?_ rfl | refine (devLost_keeps ..).step ?_ rfl | apply Keeps.ite
    | refine Keeps.foldl ?_ fun _ _ _ => ?_ | refine Keeps.foldl1 ?_ fun _ _ _ => ?_
    | refine Keeps.foldl2 ?_ fun _ _ _ => ?_ | refine Keeps.foldl22 ?_ fun _ _ _ => ?_ | apply Keeps.forLanes
    | apply Keeps.getD | split | (intro _ _ _) | (intro _ _) | fail_if_no_progress refine Keeps.upd ?_
    | (dsimp +zetaDelta only; split)

theorem doProbeDwell_keeps (x0 : Nat) (s : State) : Keeps 0x200b80 s (@doProbeDwell x0 s) := by
  delta doProbeDwell; repeat' with_reducible first
    | extract_lets | assumption | exact Keeps.refl | refine (passTo_keeps ..).step ?_ rfl
    | refine (openPath_keeps _ _ _ _ rfl).step ?_ rfl
    | refine (openPath_keeps _ _ _ (_, _) (by assumption)).step ?_ rfl
    | refine (newPat_keeps _ _ _ _ _ _ _ _ (_, _) (by assumption)).step ?_ rfl
    | refine (newPat_keeps _ _ _ _ _ _ _ _ _ (by assumption)).step ?_ rfl | refine (setFab_keeps ..).step ?_ rfl
    | refine (tagStop_keeps ..).step ?_ rfl | refine (tagStart_keeps ..).step ?_ rfl | apply Keeps.ite
    | refine Keeps.foldl ?_ fun _ _ _ => ?_ | refine Keeps.foldl1 ?_ fun _ _ _ => ?_
    | refine Keeps.foldl2 ?_ fun _ _ _ => ?_ | refine Keeps.foldl22 ?_ fun _ _ _ => ?_ | apply Keeps.forLanes
    | apply Keeps.getD | split | (intro _ _ _) | (intro _ _) | fail_if_no_progress refine Keeps.upd ?_
    | (dsimp +zetaDelta only; split)

theorem doReservationTimeout_keeps (x0 : Nat) (s : State) : Keeps 0x302f84 s (@doReservationTimeout x0 s) := by
  delta doReservationTimeout; repeat' with_reducible first
    | extract_lets | assumption | exact Keeps.refl | refine (passTo_keeps ..).step ?_ rfl
    | refine (releaseSeg_keeps ..).step ?_ rfl | refine (fabGather_keeps ..).step ?_ rfl
    | refine (dropReq_keeps ..).step ?_ rfl | refine (abortTry_keeps ..).step ?_ rfl
    | refine (resvFail_keeps ..).step ?_ rfl | refine (fabTry_keeps ..).step ?_ rfl
    | refine (fabComplete_keeps ..).step ?_ rfl | refine (schedEvent_keeps ..).step ?_ rfl
    | refine (fabAfter_keeps ..).step ?_ rfl | apply Keeps.ite | refine Keeps.foldl ?_ fun _ _ _ => ?_
    | refine Keeps.foldl1 ?_ fun _ _ _ => ?_ | refine Keeps.foldl2 ?_ fun _ _ _ => ?_
    | refine Keeps.foldl22 ?_ fun _ _ _ => ?_ | apply Keeps.forLanes | apply Keeps.getD | split | (intro _ _ _)
    | (intro _ _) | fail_if_no_progress refine Keeps.upd ?_ | (dsimp +zetaDelta only; split)

theorem reserveIn_keeps (x0 : FabMsg) (s : State) : Keeps 0x102a04 s (@reserveIn x0 s) := by
  delta reserveIn; repeat' with_reducible first
    | extract_lets | assumption | exact Keeps.refl | refine (fabSend_keeps ..).step ?_ rfl
    | refine (placeSeg_keeps _ _ _ _ _ _ _ _ _ (_, _) (by assumption)).step ?_ rfl
    | refine (placeSeg_keeps _ _ _ _ _ _ _ _ _ _ (by assumption)).step ?_ rfl | refine (fabEvent_keeps ..).step ?_ rfl
    | apply Keeps.ite | refine Keeps.foldl ?_ fun _ _ _ => ?_ | refine Keeps.foldl1 ?_ fun _ _ _ => ?_
    | refine Keeps.foldl2 ?_ fun _ _ _ => ?_ | refine Keeps.foldl22 ?_ fun _ _ _ => ?_ | apply Keeps.forLanes
    | apply Keeps.getD | split | (intro _ _ _) | (intro _ _) | fail_if_no_progress refine Keeps.upd ?_
    | (dsimp +zetaDelta only; split)

theorem doReserve_keeps (x0 : FabMsg) (x1 : Nat) (s : State) : Keeps 0x302f84 s (@doReserve x0 x1 s) := by
  delta doReserve; repeat' with_reducible first
    | extract_lets | assumption | exact Keeps.refl | refine fabRecv_keeps _ _ ?_ rfl
    | refine (reserveIn_keeps ..).step ?_ rfl | apply Keeps.ite | refine Keeps.foldl ?_ fun _ _ _ => ?_
    | refine Keeps.foldl1 ?_ fun _ _ _ => ?_ | refine Keeps.foldl2 ?_ fun _ _ _ => ?_
    | refine Keeps.foldl22 ?_ fun _ _ _ => ?_ | apply Keeps.forLanes | apply Keeps.getD | split | (intro _ _ _)
    | (intro _ _) | fail_if_no_progress refine Keeps.upd ?_ | (dsimp +zetaDelta only; split)

theorem replyIn_keeps (x0 : FabMsg) (s : State) : Keeps 0x302f04 s (@replyIn x0 s) := by
  delta replyIn; repeat' with_reducible first
    | extract_lets | assumption | exact Keeps.refl | refine (fabReply_keeps ..).step ?_ rfl
    | refine (fabReplied_keeps ..).step ?_ rfl | apply Keeps.ite | refine Keeps.foldl ?_ fun _ _ _ => ?_
    | refine Keeps.foldl1 ?_ fun _ _ _ => ?_ | refine Keeps.foldl2 ?_ fun _ _ _ => ?_
    | refine Keeps.foldl22 ?_ fun _ _ _ => ?_ | apply Keeps.forLanes | apply Keeps.getD | split | (intro _ _ _)
    | (intro _ _) | fail_if_no_progress refine Keeps.upd ?_ | (dsimp +zetaDelta only; split)

theorem doResvReply_keeps (x0 : FabMsg) (x1 : Nat) (s : State) : Keeps 0x302f84 s (@doResvReply x0 x1 s) := by
  delta doResvReply; repeat' with_reducible first
    | extract_lets | assumption | exact Keeps.refl | refine fabRecv_keeps _ _ ?_ rfl
    | refine (replyIn_keeps ..).step ?_ rfl | apply Keeps.ite | refine Keeps.foldl ?_ fun _ _ _ => ?_
    | refine Keeps.foldl1 ?_ fun _ _ _ => ?_ | refine Keeps.foldl2 ?_ fun _ _ _ => ?_
    | refine Keeps.foldl22 ?_ fun _ _ _ => ?_ | apply Keeps.forLanes | apply Keeps.getD | split | (intro _ _ _)
    | (intro _ _) | fail_if_no_progress refine Keeps.upd ?_ | (dsimp +zetaDelta only; split)

theorem doRouteRecompute_keeps (s : State) : Keeps 0x302f04 s (@doRouteRecompute s) := by
  delta doRouteRecompute; repeat' with_reducible first
    | extract_lets | assumption | exact Keeps.refl | refine (setFab_keeps ..).step ?_ rfl
    | refine (devFound_keeps ..).step ?_ rfl | refine (devLost_keeps ..).step ?_ rfl
    | refine (retryBlocked_keeps ..).step ?_ rfl | refine (schedEvent_keeps ..).step ?_ rfl
    | refine (fabAfter_keeps ..).step ?_ rfl | refine (topoNote_keeps ..).step ?_ rfl | apply Keeps.ite
    | refine Keeps.foldl ?_ fun _ _ _ => ?_ | refine Keeps.foldl1 ?_ fun _ _ _ => ?_
    | refine Keeps.foldl2 ?_ fun _ _ _ => ?_ | refine Keeps.foldl22 ?_ fun _ _ _ => ?_ | apply Keeps.forLanes
    | apply Keeps.getD | split | (intro _ _ _) | (intro _ _) | fail_if_no_progress refine Keeps.upd ?_
    | (dsimp +zetaDelta only; split)

theorem abortTxn_keeps (s : State) (x1 : Placed) : Keeps 0x302f04 s (@State.abortTxn s x1) := by
  delta State.abortTxn; repeat' with_reducible first
    | extract_lets | assumption | exact Keeps.refl | refine (withdraw_keeps ..).step ?_ rfl
    | refine (finish_keeps ..).step ?_ rfl | refine (freePat_keeps ..).step ?_ rfl | apply Keeps.ite
    | refine Keeps.foldl ?_ fun _ _ _ => ?_ | refine Keeps.foldl1 ?_ fun _ _ _ => ?_
    | refine Keeps.foldl2 ?_ fun _ _ _ => ?_ | refine Keeps.foldl22 ?_ fun _ _ _ => ?_ | apply Keeps.forLanes
    | apply Keeps.getD | split | (intro _ _ _) | (intro _ _) | fail_if_no_progress refine Keeps.upd ?_
    | (dsimp +zetaDelta only; split)

theorem closeCol_keeps (s : State) (x1 : ColEnt) (x2 : Option Effect) : Keeps 0x40 s (@State.closeCol s x1 x2) := by
  delta State.closeCol; repeat' with_reducible first
    | extract_lets | assumption | exact Keeps.refl | apply Keeps.ite | refine Keeps.foldl ?_ fun _ _ _ => ?_
    | refine Keeps.foldl1 ?_ fun _ _ _ => ?_ | refine Keeps.foldl2 ?_ fun _ _ _ => ?_
    | refine Keeps.foldl22 ?_ fun _ _ _ => ?_ | apply Keeps.forLanes | apply Keeps.getD | split | (intro _ _ _)
    | (intro _ _) | fail_if_no_progress refine Keeps.upd ?_ | (dsimp +zetaDelta only; split)

theorem contStep_keeps (s : State) (x1 : Nat) (x2 : Nat) : Keeps 0x200 s (@State.contStep s x1 x2) := by
  delta State.contStep; repeat' with_reducible first
    | extract_lets | assumption | exact Keeps.refl | apply Keeps.ite | refine Keeps.foldl ?_ fun _ _ _ => ?_
    | refine Keeps.foldl1 ?_ fun _ _ _ => ?_ | refine Keeps.foldl2 ?_ fun _ _ _ => ?_
    | refine Keeps.foldl22 ?_ fun _ _ _ => ?_ | apply Keeps.forLanes | apply Keeps.getD | split | (intro _ _ _)
    | (intro _ _) | fail_if_no_progress refine Keeps.upd ?_ | (dsimp +zetaDelta only; split)

theorem rollTxn_keeps (s : State) (x1 : Placed) : Keeps 0x300704 s (@State.rollTxn s x1) := by
  delta State.rollTxn; repeat' with_reducible first
    | extract_lets | assumption | exact Keeps.refl | refine (rollBack_keeps ..).step ?_ rfl
    | refine (modTxn_keeps ..).step ?_ rfl | apply Keeps.ite | refine Keeps.foldl ?_ fun _ _ _ => ?_
    | refine Keeps.foldl1 ?_ fun _ _ _ => ?_ | refine Keeps.foldl2 ?_ fun _ _ _ => ?_
    | refine Keeps.foldl22 ?_ fun _ _ _ => ?_ | apply Keeps.forLanes | apply Keeps.getD | split | (intro _ _ _)
    | (intro _ _) | fail_if_no_progress refine Keeps.upd ?_ | (dsimp +zetaDelta only; split)

theorem tryFinish_keeps (s : State) (x1 : Placed) : Keeps 0x302f04 s (@State.tryFinish s x1) := by
  delta State.tryFinish; repeat' with_reducible first
    | extract_lets | assumption | exact Keeps.refl | refine (rollTxn_keeps ..).step ?_ rfl
    | refine (modTxn_keeps ..).step ?_ rfl | refine (finish_keeps ..).step ?_ rfl | apply Keeps.ite
    | refine Keeps.foldl ?_ fun _ _ _ => ?_ | refine Keeps.foldl1 ?_ fun _ _ _ => ?_
    | refine Keeps.foldl2 ?_ fun _ _ _ => ?_ | refine Keeps.foldl22 ?_ fun _ _ _ => ?_ | apply Keeps.forLanes
    | apply Keeps.getD | split | (intro _ _ _) | (intro _ _) | fail_if_no_progress refine Keeps.upd ?_
    | (dsimp +zetaDelta only; split)

theorem retryWaits_keeps (s : State) : Keeps 0x302f04 s (@State.retryWaits s) := by
  delta State.retryWaits; repeat' with_reducible first
    | extract_lets | assumption | exact Keeps.refl | refine eachTxn_keeps ?_ _ ?_
    | refine (tryFinish_keeps ..).step ?_ rfl | apply Keeps.ite | refine Keeps.foldl ?_ fun _ _ _ => ?_
    | refine Keeps.foldl1 ?_ fun _ _ _ => ?_ | refine Keeps.foldl2 ?_ fun _ _ _ => ?_
    | refine Keeps.foldl22 ?_ fun _ _ _ => ?_ | apply Keeps.forLanes | apply Keeps.getD | split | (intro _ _ _)
    | (intro _ _) | fail_if_no_progress refine Keeps.upd ?_ | (dsimp +zetaDelta only; split)

theorem degrade_keeps (s : State) (x1 : Nat) (x2 : Nat) (x3 : Nat) (x4 : List Nat) : Keeps 0x302f04 s (@State.degrade
    s x1 x2 x3 x4) := by
  delta State.degrade; repeat' with_reducible first
    | extract_lets | assumption | exact Keeps.refl | refine (post_keeps ..).step ?_ rfl
    | refine (modLive_keeps ..).step ?_ rfl | refine (tellOwner_keeps ..).step ?_ rfl
    | refine (retryWaits_keeps ..).step ?_ rfl | refine (raise_keeps ..).step ?_ rfl | apply Keeps.ite
    | refine Keeps.foldl ?_ fun _ _ _ => ?_ | refine Keeps.foldl1 ?_ fun _ _ _ => ?_
    | refine Keeps.foldl2 ?_ fun _ _ _ => ?_ | refine Keeps.foldl22 ?_ fun _ _ _ => ?_ | apply Keeps.forLanes
    | apply Keeps.getD | split | (intro _ _ _) | (intro _ _) | fail_if_no_progress refine Keeps.upd ?_
    | (dsimp +zetaDelta only; split)

theorem dropLayers_keeps (s : State) : Keeps 0x302f04 s (@State.dropLayers s) := by
  delta State.dropLayers; repeat' with_reducible first
    | extract_lets | assumption | exact Keeps.refl | refine (releaseLayers_keeps ..).step ?_ rfl
    | refine (abortTxn_keeps ..).step ?_ rfl | refine eachTxn_keeps ?_ _ ?_ | refine (finish_keeps ..).step ?_ rfl
    | apply Keeps.ite | refine Keeps.foldl ?_ fun _ _ _ => ?_ | refine Keeps.foldl1 ?_ fun _ _ _ => ?_
    | refine Keeps.foldl2 ?_ fun _ _ _ => ?_ | refine Keeps.foldl22 ?_ fun _ _ _ => ?_ | apply Keeps.forLanes
    | apply Keeps.getD | split | (intro _ _ _) | (intro _ _) | fail_if_no_progress refine Keeps.upd ?_
    | (dsimp +zetaDelta only; split)

theorem eachOf_keeps {m : Nat} {s₀ s : State} (h : Keeps m s₀ s) (pat : Nat) {k : State → Placed → State}
    (hk : ∀ u p, Keeps m s₀ u → Keeps m s₀ (k u p)) : Keeps m s₀ (s.eachOf pat k) := eachTxn_keeps h _ hk

theorem refreshLayer_keeps (s : State) (x1 : Nat) : Keeps 0x100 s (@State.refreshLayer s x1) := by
  delta State.refreshLayer; repeat' with_reducible first
    | extract_lets | assumption | exact Keeps.refl | refine (modPat_keeps ..).step ?_ rfl | apply Keeps.ite
    | refine Keeps.foldl ?_ fun _ _ _ => ?_ | refine Keeps.foldl1 ?_ fun _ _ _ => ?_
    | refine Keeps.foldl2 ?_ fun _ _ _ => ?_ | refine Keeps.foldl22 ?_ fun _ _ _ => ?_ | apply Keeps.forLanes
    | apply Keeps.getD | split | (intro _ _ _) | (intro _ _) | fail_if_no_progress refine Keeps.upd ?_
    | (dsimp +zetaDelta only; split)

theorem takeRoutes_keeps (s : State) (x1 : Nat) (x2 : List (Nat × Route × Route)) : Keeps 0x300304 s
    (@State.takeRoutes s x1 x2) := by
  delta State.takeRoutes; repeat' with_reducible first
    | extract_lets | assumption | exact Keeps.refl | refine eachTxn_keeps ?_ _ ?_
    | refine (rebuild_keeps ..).step ?_ rfl | apply Keeps.ite | refine Keeps.foldl ?_ fun _ _ _ => ?_
    | refine Keeps.foldl1 ?_ fun _ _ _ => ?_ | refine Keeps.foldl2 ?_ fun _ _ _ => ?_
    | refine Keeps.foldl22 ?_ fun _ _ _ => ?_ | apply Keeps.forLanes | apply Keeps.getD | split | (intro _ _ _)
    | (intro _ _) | fail_if_no_progress refine Keeps.upd ?_ | (dsimp +zetaDelta only; split)

theorem putRep_keeps (s : State) (x1 : Nat) (x2 : Option Rep) : Keeps 0x200 s (@State.putRep s x1 x2) := by
  delta State.putRep; repeat' with_reducible first
    | extract_lets | assumption | exact Keeps.refl | apply Keeps.ite | refine Keeps.foldl ?_ fun _ _ _ => ?_
    | refine Keeps.foldl1 ?_ fun _ _ _ => ?_ | refine Keeps.foldl2 ?_ fun _ _ _ => ?_
    | refine Keeps.foldl22 ?_ fun _ _ _ => ?_ | apply Keeps.forLanes | apply Keeps.getD | split | (intro _ _ _)
    | (intro _ _) | fail_if_no_progress refine Keeps.upd ?_ | (dsimp +zetaDelta only; split)

theorem unstageRep_keeps (s : State) (x1 : Rep) : Keeps 0x300304 s (@State.unstageRep s x1) := by
  delta State.unstageRep; repeat' with_reducible first
    | extract_lets | assumption | exact Keeps.refl | refine (freePat_keeps ..).step ?_ rfl
    | refine (refreshLayer_keeps ..).step ?_ rfl | refine (takeRoutes_keeps ..).step ?_ rfl
    | refine (putRep_keeps ..).step ?_ rfl | apply Keeps.ite | refine Keeps.foldl ?_ fun _ _ _ => ?_
    | refine Keeps.foldl1 ?_ fun _ _ _ => ?_ | refine Keeps.foldl2 ?_ fun _ _ _ => ?_
    | refine Keeps.foldl22 ?_ fun _ _ _ => ?_ | apply Keeps.forLanes | apply Keeps.getD | split | (intro _ _ _)
    | (intro _ _) | fail_if_no_progress refine Keeps.upd ?_ | (dsimp +zetaDelta only; split)

theorem stageWith_keeps (s : State) (x1 : Rep) (x2 : RepPlan) : Keeps 0x300304 s (@State.stageWith s x1 x2) := by
  delta State.stageWith; repeat' with_reducible first
    | extract_lets | assumption | exact Keeps.refl
    | refine (newPat_keeps _ _ _ _ _ _ _ _ (_, _) (by assumption)).step ?_ rfl
    | refine (newPat_keeps _ _ _ _ _ _ _ _ _ (by assumption)).step ?_ rfl | refine (putRep_keeps ..).step ?_ rfl
    | refine (refreshLayer_keeps ..).step ?_ rfl | refine (takeRoutes_keeps ..).step ?_ rfl | apply Keeps.ite
    | refine Keeps.foldl ?_ fun _ _ _ => ?_ | refine Keeps.foldl1 ?_ fun _ _ _ => ?_
    | refine Keeps.foldl2 ?_ fun _ _ _ => ?_ | refine Keeps.foldl22 ?_ fun _ _ _ => ?_ | apply Keeps.forLanes
    | apply Keeps.getD | split | (intro _ _ _) | (intro _ _) | fail_if_no_progress refine Keeps.upd ?_
    | (dsimp +zetaDelta only; split)

theorem stageRep_keeps (s : State) (x1 : Rep) : Keeps 0x302f04 s (@State.stageRep s x1) := by
  delta State.stageRep; repeat' with_reducible first
    | extract_lets | assumption | exact Keeps.refl | refine (degrade_keeps ..).step ?_ rfl
    | refine (putRep_keeps ..).step ?_ rfl | refine (raise_keeps ..).step ?_ rfl
    | refine (stageWith_keeps ..).step ?_ rfl | refine (withdraw_keeps ..).step ?_ rfl
    | refine beneath_keeps ?_ rfl _ _ _ ?_ | apply Keeps.ite | refine Keeps.foldl ?_ fun _ _ _ => ?_
    | refine Keeps.foldl1 ?_ fun _ _ _ => ?_ | refine Keeps.foldl2 ?_ fun _ _ _ => ?_
    | refine Keeps.foldl22 ?_ fun _ _ _ => ?_ | apply Keeps.forLanes | apply Keeps.getD | split | (intro _ _ _)
    | (intro _ _) | fail_if_no_progress refine Keeps.upd ?_ | (dsimp +zetaDelta only; split)

theorem restageHit_keeps (s : State) (x1 : Nat × Nat) : Keeps 0x302f04 s (@State.restageHit s x1) := by
  delta State.restageHit; repeat' with_reducible first
    | extract_lets | assumption | exact Keeps.refl | refine (unstageRep_keeps ..).step ?_ rfl
    | refine (stageRep_keeps ..).step ?_ rfl | apply Keeps.ite | refine Keeps.foldl ?_ fun _ _ _ => ?_
    | refine Keeps.foldl1 ?_ fun _ _ _ => ?_ | refine Keeps.foldl2 ?_ fun _ _ _ => ?_
    | refine Keeps.foldl22 ?_ fun _ _ _ => ?_ | apply Keeps.forLanes | apply Keeps.getD | split | (intro _ _ _)
    | (intro _ _) | fail_if_no_progress refine Keeps.upd ?_ | (dsimp +zetaDelta only; split)

theorem exclude_keeps (s : State) (x1 : Nat × Nat) : Keeps 0x4 s (@State.exclude s x1) := by
  delta State.exclude; repeat' with_reducible first
    | extract_lets | assumption | exact Keeps.refl | refine (setReg_keeps ..).step ?_ rfl | apply Keeps.ite
    | refine Keeps.foldl ?_ fun _ _ _ => ?_ | refine Keeps.foldl1 ?_ fun _ _ _ => ?_
    | refine Keeps.foldl2 ?_ fun _ _ _ => ?_ | refine Keeps.foldl22 ?_ fun _ _ _ => ?_ | apply Keeps.forLanes
    | apply Keeps.getD | split | (intro _ _ _) | (intro _ _) | fail_if_no_progress refine Keeps.upd ?_
    | (dsimp +zetaDelta only; split)

theorem markRepairing_keeps (s : State) (x1 : List Nat) : Keeps 0x200 s (@State.markRepairing s x1) := by
  delta State.markRepairing; repeat' with_reducible first
    | extract_lets | assumption | exact Keeps.refl | refine (modLive_keeps ..).step ?_ rfl
    | refine (tagSuspend_keeps ..).step ?_ rfl | apply Keeps.ite | refine Keeps.foldl ?_ fun _ _ _ => ?_
    | refine Keeps.foldl1 ?_ fun _ _ _ => ?_ | refine Keeps.foldl2 ?_ fun _ _ _ => ?_
    | refine Keeps.foldl22 ?_ fun _ _ _ => ?_ | apply Keeps.forLanes | apply Keeps.getD | split | (intro _ _ _)
    | (intro _ _) | fail_if_no_progress refine Keeps.upd ?_ | (dsimp +zetaDelta only; split)

theorem startRep_keeps (s : State) (x1 : Nat) (x2 : Nat) (x3 : List Nat) (x4 : NodeSet) : Keeps 0x302f04 s
    (@State.startRep s x1 x2 x3 x4) := by
  delta State.startRep; repeat' with_reducible first
    | extract_lets | assumption | exact Keeps.refl | refine (stageRep_keeps ..).step ?_ rfl
    | refine (markRepairing_keeps ..).step ?_ rfl | apply Keeps.ite | refine Keeps.foldl ?_ fun _ _ _ => ?_
    | refine Keeps.foldl1 ?_ fun _ _ _ => ?_ | refine Keeps.foldl2 ?_ fun _ _ _ => ?_
    | refine Keeps.foldl22 ?_ fun _ _ _ => ?_ | apply Keeps.forLanes | apply Keeps.getD | split | (intro _ _ _)
    | (intro _ _) | fail_if_no_progress refine Keeps.upd ?_ | (dsimp +zetaDelta only; split)

theorem replaceAt_keeps (x0 : Nat × Nat) (s : State) (x2 : Nat) : Keeps 0x300304 s (@State.replaceAt x0 s x2) := by
  delta State.replaceAt
  exact Keeps.ite (beneath_keeps Keeps.refl rfl _ _ _ fun _ h => h) Keeps.refl

theorem elementFault_keeps (s : State) (x1 : Nat) (x2 : Nat) : Keeps 0x302f04 s (@State.elementFault s x1 x2) := by
  delta State.elementFault; repeat' with_reducible first
    | extract_lets | assumption | exact Keeps.refl | refine (restageHit_keeps ..).step ?_ rfl
    | refine (exclude_keeps ..).step ?_ rfl | refine (startRep_keeps ..).step ?_ rfl
    | refine (replaceAt_keeps ..).step ?_ rfl | refine (degrade_keeps ..).step ?_ rfl | apply Keeps.ite
    | refine Keeps.foldl ?_ fun _ _ _ => ?_ | refine Keeps.foldl1 ?_ fun _ _ _ => ?_
    | refine Keeps.foldl2 ?_ fun _ _ _ => ?_ | refine Keeps.foldl22 ?_ fun _ _ _ => ?_ | apply Keeps.forLanes
    | apply Keeps.getD | split | (intro _ _ _) | (intro _ _) | fail_if_no_progress refine Keeps.upd ?_
    | (dsimp +zetaDelta only; split)

theorem repPath_keeps (x0 : Rep) (x1 : Outc) (s : State) (x3 : Nat) : Keeps 0x102200 s (@State.repPath x0 x1 s x3) := by
  delta State.repPath; repeat' with_reducible first
    | extract_lets | assumption | exact Keeps.refl | refine (modLive_keeps ..).step ?_ rfl
    | refine (tagStart_keeps ..).step ?_ rfl | refine (post_keeps ..).step ?_ rfl | apply Keeps.ite
    | refine Keeps.foldl ?_ fun _ _ _ => ?_ | refine Keeps.foldl1 ?_ fun _ _ _ => ?_
    | refine Keeps.foldl2 ?_ fun _ _ _ => ?_ | refine Keeps.foldl22 ?_ fun _ _ _ => ?_ | apply Keeps.forLanes
    | apply Keeps.getD | split | (intro _ _ _) | (intro _ _) | fail_if_no_progress refine Keeps.upd ?_
    | (dsimp +zetaDelta only; split)

theorem repStat_keeps (s : State) (x1 : Nat) : Keeps 0x4 s (@State.repStat s x1) := by
  delta State.repStat; repeat' with_reducible first
    | extract_lets | assumption | exact Keeps.refl | refine (setF_keeps ..).step ?_ rfl | apply Keeps.ite
    | refine Keeps.foldl ?_ fun _ _ _ => ?_ | refine Keeps.foldl1 ?_ fun _ _ _ => ?_
    | refine Keeps.foldl2 ?_ fun _ _ _ => ?_ | refine Keeps.foldl22 ?_ fun _ _ _ => ?_ | apply Keeps.forLanes
    | apply Keeps.getD | split | (intro _ _ _) | (intro _ _) | fail_if_no_progress refine Keeps.upd ?_
    | (dsimp +zetaDelta only; split)

theorem repDone_keeps (s : State) (x1 : Rep) (x2 : Outc) : Keeps 0x302f04 s (@State.repDone s x1 x2) := by
  delta State.repDone; repeat' with_reducible first
    | extract_lets | assumption | exact Keeps.refl | refine (repPath_keeps ..).step ?_ rfl
    | refine (repStat_keeps ..).step ?_ rfl | refine (raise_keeps ..).step ?_ rfl
    | refine (retryWaits_keeps ..).step ?_ rfl | refine (refLinks_keeps ..).step ?_ rfl | apply Keeps.ite
    | refine Keeps.foldl ?_ fun _ _ _ => ?_ | refine Keeps.foldl1 ?_ fun _ _ _ => ?_
    | refine Keeps.foldl2 ?_ fun _ _ _ => ?_ | refine Keeps.foldl22 ?_ fun _ _ _ => ?_ | apply Keeps.forLanes
    | apply Keeps.getD | split | (intro _ _ _) | (intro _ _) | fail_if_no_progress refine Keeps.upd ?_
    | (dsimp +zetaDelta only; split)

theorem outcomeRep_keeps (x0 : ColEnt) (x1 : Option Effect) (s : State) (x3 : Rep) : Keeps 0x302f04 s
    (@State.outcomeRep x0 x1 s x3) := by
  delta State.outcomeRep; repeat' with_reducible first
    | extract_lets | assumption | exact Keeps.refl | refine (putRep_keeps ..).step ?_ rfl
    | refine (repDone_keeps ..).step ?_ rfl | apply Keeps.ite | refine Keeps.foldl ?_ fun _ _ _ => ?_
    | refine Keeps.foldl1 ?_ fun _ _ _ => ?_ | refine Keeps.foldl2 ?_ fun _ _ _ => ?_
    | refine Keeps.foldl22 ?_ fun _ _ _ => ?_ | apply Keeps.forLanes | apply Keeps.getD | split | (intro _ _ _)
    | (intro _ _) | fail_if_no_progress refine Keeps.upd ?_ | (dsimp +zetaDelta only; split)

theorem outcomeTxn_keeps (x0 : Effect) (s : State) (x2 : Placed) : Keeps 0x302f04 s (@State.outcomeTxn x0 s x2) := by
  delta State.outcomeTxn; repeat' with_reducible first
    | extract_lets | assumption | exact Keeps.refl | refine (modTxn_keeps ..).step ?_ rfl
    | refine (finish_keeps ..).step ?_ rfl | refine beneath_keeps ?_ rfl _ _ _ ?_
    | refine (withdraw_keeps ..).step ?_ rfl | refine (rollTxn_keeps ..).step ?_ rfl
    | refine (tryFinish_keeps ..).step ?_ rfl | apply Keeps.ite | refine Keeps.foldl ?_ fun _ _ _ => ?_
    | refine Keeps.foldl1 ?_ fun _ _ _ => ?_ | refine Keeps.foldl2 ?_ fun _ _ _ => ?_
    | refine Keeps.foldl22 ?_ fun _ _ _ => ?_ | apply Keeps.forLanes | apply Keeps.getD | split | (intro _ _ _)
    | (intro _ _) | fail_if_no_progress refine Keeps.upd ?_ | (dsimp +zetaDelta only; split)

theorem retire_keeps (s : State) (x1 : Nat) : Keeps 0x300 s (@State.retire s x1) := by
  delta State.retire; repeat' with_reducible first
    | extract_lets | assumption | exact Keeps.refl | refine (freePat_keeps ..).step ?_ rfl
    | refine (modPat_keeps ..).step ?_ rfl | refine (refreshLayer_keeps ..).step ?_ rfl | apply Keeps.ite
    | refine Keeps.foldl ?_ fun _ _ _ => ?_ | refine Keeps.foldl1 ?_ fun _ _ _ => ?_
    | refine Keeps.foldl2 ?_ fun _ _ _ => ?_ | refine Keeps.foldl22 ?_ fun _ _ _ => ?_ | apply Keeps.forLanes
    | apply Keeps.getD | split | (intro _ _ _) | (intro _ _) | fail_if_no_progress refine Keeps.upd ?_
    | (dsimp +zetaDelta only; split)

theorem txnRecs_keeps (x0 : Effect) (s : State) (x2 : Placed) : Keeps 0x200 s (@State.txnRecs x0 s x2) := by
  delta State.txnRecs; repeat' with_reducible first
    | extract_lets | assumption | exact Keeps.refl | refine (applyRecs_keeps ..).step ?_ rfl | apply Keeps.ite
    | refine Keeps.foldl ?_ fun _ _ _ => ?_ | refine Keeps.foldl1 ?_ fun _ _ _ => ?_
    | refine Keeps.foldl2 ?_ fun _ _ _ => ?_ | refine Keeps.foldl22 ?_ fun _ _ _ => ?_ | apply Keeps.forLanes
    | apply Keeps.getD | split | (intro _ _ _) | (intro _ _) | fail_if_no_progress refine Keeps.upd ?_
    | (dsimp +zetaDelta only; split)

theorem stageWaiting_keeps (s : State) : Keeps 0x302f04 s (@State.stageWaiting s) := by
  delta State.stageWaiting; repeat' with_reducible first
    | extract_lets | assumption | exact Keeps.refl | refine eachTxn_keeps ?_ _ ?_
    | refine (stageRb_keeps ..).step ?_ rfl | refine (stageRep_keeps ..).step ?_ rfl | apply Keeps.ite
    | refine Keeps.foldl ?_ fun _ _ _ => ?_ | refine Keeps.foldl1 ?_ fun _ _ _ => ?_
    | refine Keeps.foldl2 ?_ fun _ _ _ => ?_ | refine Keeps.foldl22 ?_ fun _ _ _ => ?_ | apply Keeps.forLanes
    | apply Keeps.getD | split | (intro _ _ _) | (intro _ _) | fail_if_no_progress refine Keeps.upd ?_
    | (dsimp +zetaDelta only; split)

theorem resolve_keeps (s : State) (x1 : ColEnt) : Keeps 0x302f44 s (@State.resolve s x1) := by
  delta State.resolve; repeat' with_reducible first
    | extract_lets | assumption | exact Keeps.refl | refine (retire_keeps ..).step ?_ rfl
    | refine (closeCol_keeps ..).step ?_ rfl | refine eachOf_keeps ?_ _ ?_ | refine (txnRecs_keeps ..).step ?_ rfl
    | refine (elementFault_keeps ..).step ?_ rfl | refine (outcomeRep_keeps ..).step ?_ rfl
    | refine (outcomeTxn_keeps ..).step ?_ rfl | refine (modTxn_keeps ..).step ?_ rfl
    | refine (icEdge_keeps ..).step ?_ rfl | refine (fabAfter_keeps ..).step ?_ rfl
    | refine (stageWaiting_keeps ..).step ?_ rfl | apply Keeps.ite | refine Keeps.foldl ?_ fun _ _ _ => ?_
    | refine Keeps.foldl1 ?_ fun _ _ _ => ?_ | refine Keeps.foldl2 ?_ fun _ _ _ => ?_
    | refine Keeps.foldl22 ?_ fun _ _ _ => ?_ | apply Keeps.forLanes | apply Keeps.getD | split | (intro _ _ _)
    | (intro _ _) | fail_if_no_progress refine Keeps.upd ?_ | (dsimp +zetaDelta only; split)

theorem doBankRestore_keeps (x0 : Nat) (s : State) : Keeps 0x204 s (@doBankRestore x0 s) := by
  delta doBankRestore; repeat' with_reducible first
    | extract_lets | assumption | exact Keeps.refl | refine (bank0_keeps ..).step ?_ rfl | apply Keeps.ite
    | refine Keeps.foldl ?_ fun _ _ _ => ?_ | refine Keeps.foldl1 ?_ fun _ _ _ => ?_
    | refine Keeps.foldl2 ?_ fun _ _ _ => ?_ | refine Keeps.foldl22 ?_ fun _ _ _ => ?_ | apply Keeps.forLanes
    | apply Keeps.getD | split | (intro _ _ _) | (intro _ _) | fail_if_no_progress refine Keeps.upd ?_
    | (dsimp +zetaDelta only; split)

theorem doCalTurn_keeps (x0 : Nat) (s : State) : Keeps 0x386ff4 s (@doCalTurn x0 s) := by
  delta doCalTurn; repeat' with_reducible first
    | extract_lets | assumption | exact Keeps.refl | refine (passTo_keeps ..).step ?_ rfl
    | refine (dropLayers_keeps ..).step ?_ rfl | refine (turn_keeps ..).step ?_ rfl
    | refine (raise_keeps ..).step ?_ rfl | refine (schedEvent_keeps ..).step ?_ rfl
    | refine (sweepLost_keeps ..).step ?_ rfl | refine (calResume_keeps ..).step ?_ rfl
    | refine (nextTurn_keeps ..).step ?_ rfl | apply Keeps.ite | refine Keeps.foldl ?_ fun _ _ _ => ?_
    | refine Keeps.foldl1 ?_ fun _ _ _ => ?_ | refine Keeps.foldl2 ?_ fun _ _ _ => ?_
    | refine Keeps.foldl22 ?_ fun _ _ _ => ?_ | apply Keeps.forLanes | apply Keeps.getD | split | (intro _ _ _)
    | (intro _ _) | fail_if_no_progress refine Keeps.upd ?_ | (dsimp +zetaDelta only; split)

theorem doCollectorResolve_keeps (x0 : Nat) (x1 : Nat) (s : State) : Keeps 0x302fc4 s (@doCollectorResolve x0 x1 s)
    := by
  delta doCollectorResolve; repeat' with_reducible first
    | extract_lets | assumption | exact Keeps.refl | refine (passTo_keeps ..).step ?_ rfl
    | refine (schedEvent_keeps ..).step ?_ rfl | refine (resolve_keeps ..).step ?_ rfl | apply Keeps.ite
    | refine Keeps.foldl ?_ fun _ _ _ => ?_ | refine Keeps.foldl1 ?_ fun _ _ _ => ?_
    | refine Keeps.foldl2 ?_ fun _ _ _ => ?_ | refine Keeps.foldl22 ?_ fun _ _ _ => ?_ | apply Keeps.forLanes
    | apply Keeps.getD | split | (intro _ _ _) | (intro _ _) | fail_if_no_progress refine Keeps.upd ?_
    | (dsimp +zetaDelta only; split)

theorem doContinuityFault_keeps (x0 : Nat) (s : State) : Keeps 0x100284 s (@doContinuityFault x0 s) := by
  delta doContinuityFault; repeat' with_reducible first
    | extract_lets | assumption | exact Keeps.refl | refine (passTo_keeps ..).step ?_ rfl
    | refine (raise_keeps ..).step ?_ rfl | apply Keeps.ite | refine Keeps.foldl ?_ fun _ _ _ => ?_
    | refine Keeps.foldl1 ?_ fun _ _ _ => ?_ | refine Keeps.foldl2 ?_ fun _ _ _ => ?_
    | refine Keeps.foldl22 ?_ fun _ _ _ => ?_ | apply Keeps.forLanes | apply Keeps.getD | split | (intro _ _ _)
    | (intro _ _) | fail_if_no_progress refine Keeps.upd ?_ | (dsimp +zetaDelta only; split)

theorem doCuffExchange_keeps (x0 : Nat) (s : State) : Keeps 0x1042b4 s (@doCuffExchange x0 s) := by
  delta doCuffExchange; repeat' with_reducible first
    | extract_lets | assumption | exact Keeps.refl | refine (exchange_keeps ..).step ?_ rfl
    | refine (passTo_keeps ..).step ?_ rfl | refine (contStep_keeps ..).step ?_ rfl | apply Keeps.ite
    | refine Keeps.foldl ?_ fun _ _ _ => ?_ | refine Keeps.foldl1 ?_ fun _ _ _ => ?_
    | refine Keeps.foldl2 ?_ fun _ _ _ => ?_ | refine Keeps.foldl22 ?_ fun _ _ _ => ?_ | apply Keeps.forLanes
    | apply Keeps.getD | split | (intro _ _ _) | (intro _ _) | fail_if_no_progress refine Keeps.upd ?_
    | (dsimp +zetaDelta only; split)

theorem doElementFaultReport_keeps (x0 : Nat) (s : State) : Keeps 0x302f84 s (@doElementFaultReport x0 s) := by
  delta doElementFaultReport; repeat' with_reducible first
    | extract_lets | assumption | exact Keeps.refl | refine (passTo_keeps ..).step ?_ rfl
    | refine (schedEvent_keeps ..).step ?_ rfl | refine (fabAfter_keeps ..).step ?_ rfl
    | refine (elementFault_keeps ..).step ?_ rfl | apply Keeps.ite | refine Keeps.foldl ?_ fun _ _ _ => ?_
    | refine Keeps.foldl1 ?_ fun _ _ _ => ?_ | refine Keeps.foldl2 ?_ fun _ _ _ => ?_
    | refine Keeps.foldl22 ?_ fun _ _ _ => ?_ | apply Keeps.forLanes | apply Keeps.getD | split | (intro _ _ _)
    | (intro _ _) | fail_if_no_progress refine Keeps.upd ?_ | (dsimp +zetaDelta only; split)

theorem doPatternFire_keeps (x0 : Nat) (s : State) : Keeps 0x1867f4 s (@doPatternFire x0 s) := by
  delta doPatternFire; repeat' with_reducible first
    | extract_lets | assumption | exact Keeps.refl | refine (passTo_keeps ..).step ?_ rfl
    | refine (schedEvent_keeps ..).step ?_ rfl | refine (fireAt_keeps ..).step ?_ rfl
    | refine (strobe_keeps ..).step ?_ rfl | apply Keeps.ite | refine Keeps.foldl ?_ fun _ _ _ => ?_
    | refine Keeps.foldl1 ?_ fun _ _ _ => ?_ | refine Keeps.foldl2 ?_ fun _ _ _ => ?_
    | refine Keeps.foldl22 ?_ fun _ _ _ => ?_ | apply Keeps.forLanes | apply Keeps.getD | split | (intro _ _ _)
    | (intro _ _) | fail_if_no_progress refine Keeps.upd ?_ | (dsimp +zetaDelta only; split)

theorem doRepairFire_keeps (x0 : Nat) (s : State) : Keeps 0x1867f4 s (@doRepairFire x0 s) := by
  delta doRepairFire; repeat' with_reducible first
    | extract_lets | assumption | exact Keeps.refl | refine (passTo_keeps ..).step ?_ rfl
    | refine (schedEvent_keeps ..).step ?_ rfl | refine (fireAt_keeps ..).step ?_ rfl | apply Keeps.ite
    | refine Keeps.foldl ?_ fun _ _ _ => ?_ | refine Keeps.foldl1 ?_ fun _ _ _ => ?_
    | refine Keeps.foldl2 ?_ fun _ _ _ => ?_ | refine Keeps.foldl22 ?_ fun _ _ _ => ?_ | apply Keeps.forLanes
    | apply Keeps.getD | split | (intro _ _ _) | (intro _ _) | fail_if_no_progress refine Keeps.upd ?_
    | (dsimp +zetaDelta only; split)

theorem setTag_keeps (s : State) (x1 : Nat) (x2 : TagV) (x3 : Option Nat) : Keeps 0x302f04 s (@State.setTag s x1 x2
    x3) := by
  delta State.setTag; repeat' with_reducible first
    | extract_lets | assumption | exact Keeps.refl | refine (post_keeps ..).step ?_ rfl
    | refine (raise_keeps ..).step ?_ rfl | refine (tellOwner_keeps ..).step ?_ rfl
    | refine (startRep_keeps ..).step ?_ rfl | apply Keeps.ite | refine Keeps.foldl ?_ fun _ _ _ => ?_
    | refine Keeps.foldl1 ?_ fun _ _ _ => ?_ | refine Keeps.foldl2 ?_ fun _ _ _ => ?_
    | refine Keeps.foldl22 ?_ fun _ _ _ => ?_ | apply Keeps.forLanes | apply Keeps.getD | split | (intro _ _ _)
    | (intro _ _) | fail_if_no_progress refine Keeps.upd ?_ | (dsimp +zetaDelta only; split)

theorem tagPort_keeps (s : State) (x1 : Nat) (x2 : Nat) (x3 : Nat) (x4 : Bool) (x5 : Option Nat) (x6 : List TagBin) :
    Keeps 0x302f04 s (@State.tagPort s x1 x2 x3 x4 x5 x6) := by
  delta State.tagPort; repeat' with_reducible first
    | extract_lets | assumption | exact Keeps.refl | refine (setTag_keeps ..).step ?_ rfl | apply Keeps.ite
    | refine Keeps.foldl ?_ fun _ _ _ => ?_ | refine Keeps.foldl1 ?_ fun _ _ _ => ?_
    | refine Keeps.foldl2 ?_ fun _ _ _ => ?_ | refine Keeps.foldl22 ?_ fun _ _ _ => ?_ | apply Keeps.forLanes
    | apply Keeps.getD | split | (intro _ _ _) | (intro _ _) | fail_if_no_progress refine Keeps.upd ?_
    | (dsimp +zetaDelta only; split)

theorem doPthExclSetWrite_keeps (x0 : Nat) (x1 : Word) (s : State) : Keeps 0x4 s (@doPthExclSetWrite x0 x1 s) := by
  delta doPthExclSetWrite; repeat' with_reducible first
    | extract_lets | assumption | exact Keeps.refl | refine (setReg_keeps ..).step ?_ rfl | apply Keeps.ite
    | refine Keeps.foldl ?_ fun _ _ _ => ?_ | refine Keeps.foldl1 ?_ fun _ _ _ => ?_
    | refine Keeps.foldl2 ?_ fun _ _ _ => ?_ | refine Keeps.foldl22 ?_ fun _ _ _ => ?_ | apply Keeps.forLanes
    | apply Keeps.getD | split | (intro _ _ _) | (intro _ _) | fail_if_no_progress refine Keeps.upd ?_
    | (dsimp +zetaDelta only; split)

theorem doPthExclWrite_keeps (x0 : Nat) (x1 : Word) (s : State) : Keeps 0x4 s (@doPthExclWrite x0 x1 s) := by
  delta doPthExclWrite; repeat' with_reducible first
    | extract_lets | assumption | exact Keeps.refl | refine (setReg_keeps ..).step ?_ rfl | apply Keeps.ite
    | refine Keeps.foldl ?_ fun _ _ _ => ?_ | refine Keeps.foldl1 ?_ fun _ _ _ => ?_
    | refine Keeps.foldl2 ?_ fun _ _ _ => ?_ | refine Keeps.foldl22 ?_ fun _ _ _ => ?_ | apply Keeps.forLanes
    | apply Keeps.getD | split | (intro _ _ _) | (intro _ _) | fail_if_no_progress refine Keeps.upd ?_
    | (dsimp +zetaDelta only; split)

theorem doTagBitPeriod_keeps (x0 : Nat) (s : State) : Keeps 0x290 s (@doTagBitPeriod x0 s) := by
  delta doTagBitPeriod; repeat' with_reducible first
    | extract_lets | assumption | exact Keeps.refl | refine (passTo_keeps ..).step ?_ rfl
    | refine (tagRestart_keeps ..).step ?_ rfl | refine (setLane_keeps ..).step ?_ rfl | apply Keeps.ite
    | refine Keeps.foldl ?_ fun _ _ _ => ?_ | refine Keeps.foldl1 ?_ fun _ _ _ => ?_
    | refine Keeps.foldl2 ?_ fun _ _ _ => ?_ | refine Keeps.foldl22 ?_ fun _ _ _ => ?_ | apply Keeps.forLanes
    | apply Keeps.getD | split | (intro _ _ _) | (intro _ _) | fail_if_no_progress refine Keeps.upd ?_
    | (dsimp +zetaDelta only; split)

theorem doTagEvaluation_keeps (x0 : Nat) (x1 : List TagBin) (s : State) : Keeps 0x302f84 s (@doTagEvaluation x0 x1 s)
    := by
  delta doTagEvaluation; repeat' with_reducible first
    | extract_lets | assumption | exact Keeps.refl | refine (passTo_keeps ..).step ?_ rfl
    | refine (tagPort_keeps ..).step ?_ rfl | refine (schedEvent_keeps ..).step ?_ rfl
    | refine (fabAfter_keeps ..).step ?_ rfl | apply Keeps.ite | refine Keeps.foldl ?_ fun _ _ _ => ?_
    | refine Keeps.foldl1 ?_ fun _ _ _ => ?_ | refine Keeps.foldl2 ?_ fun _ _ _ => ?_
    | refine Keeps.foldl22 ?_ fun _ _ _ => ?_ | apply Keeps.forLanes | apply Keeps.getD | split | (intro _ _ _)
    | (intro _ _) | fail_if_no_progress refine Keeps.upd ?_ | (dsimp +zetaDelta only; split)

theorem doTagIdWrite_keeps (x0 : Word) (s : State) : Keeps 0x4 s (@doTagIdWrite x0 s) := by
  delta doTagIdWrite; repeat' with_reducible first
    | extract_lets | assumption | exact Keeps.refl | refine (setF_keeps ..).step ?_ rfl | apply Keeps.ite
    | refine Keeps.foldl ?_ fun _ _ _ => ?_ | refine Keeps.foldl1 ?_ fun _ _ _ => ?_
    | refine Keeps.foldl2 ?_ fun _ _ _ => ?_ | refine Keeps.foldl22 ?_ fun _ _ _ => ?_ | apply Keeps.forLanes
    | apply Keeps.getD | split | (intro _ _ _) | (intro _ _) | fail_if_no_progress refine Keeps.upd ?_
    | (dsimp +zetaDelta only; split)

theorem placeAny_keeps (s : State) : Keeps 0x302f04 s (@State.placeAny s) := by
  delta State.placeAny; repeat' with_reducible first
    | extract_lets | assumption | exact Keeps.refl | refine (placement_keeps ..).step ?_ rfl
    | refine (fabRequest_keeps ..).step ?_ rfl | refine (setCur_keeps ..).step ?_ rfl
    | refine (placeNow_keeps ..).step ?_ rfl | apply Keeps.ite | refine Keeps.foldl ?_ fun _ _ _ => ?_
    | refine Keeps.foldl1 ?_ fun _ _ _ => ?_ | refine Keeps.foldl2 ?_ fun _ _ _ => ?_
    | refine Keeps.foldl22 ?_ fun _ _ _ => ?_ | apply Keeps.forLanes | apply Keeps.getD | split | (intro _ _ _)
    | (intro _ _) | fail_if_no_progress refine Keeps.upd ?_ | (dsimp +zetaDelta only; split)

theorem setAside_keeps (s : State) : Keeps 0xa00 s (@State.setAside s) := by
  delta State.setAside; repeat' with_reducible first
    | extract_lets | assumption | exact Keeps.refl | apply Keeps.ite | refine Keeps.foldl ?_ fun _ _ _ => ?_
    | refine Keeps.foldl1 ?_ fun _ _ _ => ?_ | refine Keeps.foldl2 ?_ fun _ _ _ => ?_
    | refine Keeps.foldl22 ?_ fun _ _ _ => ?_ | apply Keeps.forLanes | apply Keeps.getD | split | (intro _ _ _)
    | (intro _ _) | fail_if_no_progress refine Keeps.upd ?_ | (dsimp +zetaDelta only; split)

theorem doConnect_keeps (x0 : Nat) (s : State) : Keeps 0x2a80 s (@doConnect x0 s) := by
  delta doConnect; repeat' with_reducible first
    | extract_lets | assumption | exact Keeps.refl | refine (request_keeps ..).step ?_ rfl
    | refine (setAside_keeps ..).step ?_ rfl | refine (passTo_keeps ..).step ?_ rfl | apply Keeps.ite
    | refine Keeps.foldl ?_ fun _ _ _ => ?_ | refine Keeps.foldl1 ?_ fun _ _ _ => ?_
    | refine Keeps.foldl2 ?_ fun _ _ _ => ?_ | refine Keeps.foldl22 ?_ fun _ _ _ => ?_ | apply Keeps.forLanes
    | apply Keeps.getD | split | (intro _ _ _) | (intro _ _) | fail_if_no_progress refine Keeps.upd ?_
    | (dsimp +zetaDelta only; split)

theorem doMove_keeps (x0 : Nat) (s : State) : Keeps 0x2a80 s (@doMove x0 s) := by
  delta doMove; repeat' with_reducible first
    | extract_lets | assumption | exact Keeps.refl | refine (request_keeps ..).step ?_ rfl
    | refine (setAside_keeps ..).step ?_ rfl | refine (passTo_keeps ..).step ?_ rfl | apply Keeps.ite
    | refine Keeps.foldl ?_ fun _ _ _ => ?_ | refine Keeps.foldl1 ?_ fun _ _ _ => ?_
    | refine Keeps.foldl2 ?_ fun _ _ _ => ?_ | refine Keeps.foldl22 ?_ fun _ _ _ => ?_ | apply Keeps.forLanes
    | apply Keeps.getD | split | (intro _ _ _) | (intro _ _) | fail_if_no_progress refine Keeps.upd ?_
    | (dsimp +zetaDelta only; split)

theorem doPlacement_keeps (x0 : Nat) (s : State) : Keeps 0x302f84 s (@doPlacement x0 s) := by
  delta doPlacement; repeat' with_reducible first
    | extract_lets | assumption | exact Keeps.refl | refine (passTo_keeps ..).step ?_ rfl
    | refine (schedEvent_keeps ..).step ?_ rfl | refine (yieldProbes_keeps ..).step ?_ rfl
    | refine (placeAny_keeps ..).step ?_ rfl | apply Keeps.ite | refine Keeps.foldl ?_ fun _ _ _ => ?_
    | refine Keeps.foldl1 ?_ fun _ _ _ => ?_ | refine Keeps.foldl2 ?_ fun _ _ _ => ?_
    | refine Keeps.foldl22 ?_ fun _ _ _ => ?_ | apply Keeps.forLanes | apply Keeps.getD | split | (intro _ _ _)
    | (intro _ _) | fail_if_no_progress refine Keeps.upd ?_ | (dsimp +zetaDelta only; split)

theorem doRelease_keeps (x0 : Nat) (s : State) : Keeps 0x2a80 s (@doRelease x0 s) := by
  delta doRelease; repeat' with_reducible first
    | extract_lets | assumption | exact Keeps.refl | refine (request_keeps ..).step ?_ rfl
    | refine (setAside_keeps ..).step ?_ rfl | refine (passTo_keeps ..).step ?_ rfl | apply Keeps.ite
    | refine Keeps.foldl ?_ fun _ _ _ => ?_ | refine Keeps.foldl1 ?_ fun _ _ _ => ?_
    | refine Keeps.foldl2 ?_ fun _ _ _ => ?_ | refine Keeps.foldl22 ?_ fun _ _ _ => ?_ | apply Keeps.forLanes
    | apply Keeps.getD | split | (intro _ _ _) | (intro _ _) | fail_if_no_progress refine Keeps.upd ?_
    | (dsimp +zetaDelta only; split)

theorem applyLayer_keeps (s : State) (l : List (Nat × Nat)) (layer : Nat) (p) (hp : s.applyLayer l layer = some p) : Keeps
    0x302704 s p := by
  delta State.applyLayer at hp
  split at hp
  · cases hp
  · extract_lets at hp
    split at hp
    · simp only [Option.some.injEq] at hp; subst hp; exact Keeps.refl
    · simp only [Option.some.injEq] at hp; subst hp
      repeat' with_reducible first
    | assumption | exact Keeps.refl | refine (stage_keeps ..).step ?_ rfl | refine (addPlaced_keeps ..).step ?_ rfl
    | refine (takeChanges_keeps ..).step ?_ rfl | fail_if_no_progress refine Keeps.upd ?_

theorem takeTxn_keeps (s : State) (x : TxnW) (due : Nat) (p) (hp : s.takeTxn x due = some p) : Keeps 0x302704 s p := by
  delta State.takeTxn at hp
  extract_lets at hp
  split at hp
  · cases hp
  · extract_lets at hp
    cases hp
    repeat' with_reducible first
    | assumption | exact Keeps.refl | refine (notice_keeps ..).step ?_ rfl | refine (bump_keeps ..).step ?_ rfl
    | refine (setPair_keeps ..).step ?_ rfl | refine (stage_keeps ..).step ?_ rfl
    | refine (addPlaced_keeps ..).step ?_ rfl | refine (takeChanges_keeps ..).step ?_ rfl | apply Keeps.ite | split
    | fail_if_no_progress refine Keeps.upd ?_

theorem applySnap_keeps (s : State) : Keeps 0x302704 s s.applySnap := by
  delta State.applySnap
  extract_lets tab ls step
  have key : ∀ t, List.foldl step (some s) ls = some t → Keeps 0x302704 s t := by
    refine foldl_keeps (fun o : Option State => ∀ t, o = some t → Keeps 0x302704 s t) (f := step) (x := some s) (l := ls)
        ?_ ?_
    · intro t ht; cases ht; exact Keeps.refl
    · intro u a hu t ht
      cases u with
      | none => cases ht
      | some u => exact (applyLayer_keeps u _ _ t ht).step (hu u rfl) rfl
  split
  · rename_i hs _
    have h1 := key _ hs
    repeat' with_reducible first
    | assumption | refine (setPair_keeps ..).step ?_ rfl | refine Keeps.foldl ?_ fun _ _ _ => ?_ | extract_lets
    | apply Keeps.ite | refine (mirSend_keeps ..).step ?_ rfl | refine (loseSync_keeps ..).step ?_ rfl
    | refine (takeTxn_keeps _ _ _ _ (by assumption)).step ?_ rfl | split
  · exact (loseSync_keeps s _).step Keeps.refl rfl

theorem cfgCheck_keeps (s : State) (x1 : Word) : Keeps 0x102404 s (@State.cfgCheck s x1) := by
  delta State.cfgCheck; repeat' with_reducible first
    | extract_lets | assumption | exact Keeps.refl | refine (setPair_keeps ..).step ?_ rfl
    | refine (pairEvent_keeps ..).step ?_ rfl | apply Keeps.ite | refine Keeps.foldl ?_ fun _ _ _ => ?_
    | refine Keeps.foldl1 ?_ fun _ _ _ => ?_ | refine Keeps.foldl2 ?_ fun _ _ _ => ?_
    | refine Keeps.foldl22 ?_ fun _ _ _ => ?_ | apply Keeps.forLanes | apply Keeps.getD | split | (intro _ _ _)
    | (intro _ _) | fail_if_no_progress refine Keeps.upd ?_ | (dsimp +zetaDelta only; split)

theorem conflictCheck_keeps (s : State) (x1 : HelloW) : Keeps 0x102404 s (@State.conflictCheck s x1) := by
  delta State.conflictCheck; repeat' with_reducible first
    | extract_lets | assumption | exact Keeps.refl | refine (pairEvent_keeps ..).step ?_ rfl
    | refine (setPair_keeps ..).step ?_ rfl | apply Keeps.ite | refine Keeps.foldl ?_ fun _ _ _ => ?_
    | refine Keeps.foldl1 ?_ fun _ _ _ => ?_ | refine Keeps.foldl2 ?_ fun _ _ _ => ?_
    | refine Keeps.foldl22 ?_ fun _ _ _ => ?_ | apply Keeps.forLanes | apply Keeps.getD | split | (intro _ _ _)
    | (intro _ _) | fail_if_no_progress refine Keeps.upd ?_ | (dsimp +zetaDelta only; split)

theorem handOff_keeps (x0 : Bool) (s : State) : Keeps 0x500 s (@State.handOff x0 s) := by
  delta State.handOff; repeat' with_reducible first
    | extract_lets | assumption | exact Keeps.refl | refine (handAnn_keeps ..).step ?_ rfl
    | refine (setPair_keeps ..).step ?_ rfl | apply Keeps.ite | refine Keeps.foldl ?_ fun _ _ _ => ?_
    | refine Keeps.foldl1 ?_ fun _ _ _ => ?_ | refine Keeps.foldl2 ?_ fun _ _ _ => ?_
    | refine Keeps.foldl22 ?_ fun _ _ _ => ?_ | apply Keeps.forLanes | apply Keeps.getD | split | (intro _ _ _)
    | (intro _ _) | fail_if_no_progress refine Keeps.upd ?_ | (dsimp +zetaDelta only; split)

theorem onRetry_keeps (s : State) (x1 : Nat) (x2 : Nat) : Keeps 0x400 s (@State.onRetry s x1 x2) := by
  delta State.onRetry; repeat' with_reducible first
    | extract_lets | assumption | exact Keeps.refl | refine (setPair_keeps ..).step ?_ rfl | apply Keeps.ite
    | refine Keeps.foldl ?_ fun _ _ _ => ?_ | refine Keeps.foldl1 ?_ fun _ _ _ => ?_
    | refine Keeps.foldl2 ?_ fun _ _ _ => ?_ | refine Keeps.foldl22 ?_ fun _ _ _ => ?_ | apply Keeps.forLanes
    | apply Keeps.getD | split | (intro _ _ _) | (intro _ _) | fail_if_no_progress refine Keeps.upd ?_
    | (dsimp +zetaDelta only; split)

theorem startIntake_keeps (s : State) : Keeps 0x400 s (@State.startIntake s) := by
  delta State.startIntake; repeat' with_reducible first
    | extract_lets | assumption | exact Keeps.refl | refine (setPair_keeps ..).step ?_ rfl | apply Keeps.ite
    | refine Keeps.foldl ?_ fun _ _ _ => ?_ | refine Keeps.foldl1 ?_ fun _ _ _ => ?_
    | refine Keeps.foldl2 ?_ fun _ _ _ => ?_ | refine Keeps.foldl22 ?_ fun _ _ _ => ?_ | apply Keeps.forLanes
    | apply Keeps.getD | split | (intro _ _ _) | (intro _ _) | fail_if_no_progress refine Keeps.upd ?_
    | (dsimp +zetaDelta only; split)

theorem takeover_keeps (s : State) : Keeps 0x102604 s (@State.takeover s) := by
  delta State.takeover; repeat' with_reducible first
    | extract_lets | assumption | exact Keeps.refl | refine (setPair_keeps ..).step ?_ rfl
    | refine (pairEvent_keeps ..).step ?_ rfl | refine (startIntake_keeps ..).step ?_ rfl | apply Keeps.ite
    | refine Keeps.foldl ?_ fun _ _ _ => ?_ | refine Keeps.foldl1 ?_ fun _ _ _ => ?_
    | refine Keeps.foldl2 ?_ fun _ _ _ => ?_ | refine Keeps.foldl22 ?_ fun _ _ _ => ?_ | apply Keeps.forLanes
    | apply Keeps.getD | split | (intro _ _ _) | (intro _ _) | fail_if_no_progress refine Keeps.upd ?_
    | (dsimp +zetaDelta only; split)

theorem roleStep_keeps (s : State) : Keeps 0x102704 s (@State.roleStep s) := by
  delta State.roleStep; repeat' with_reducible first
    | extract_lets | assumption | exact Keeps.refl | refine (setPair_keeps ..).step ?_ rfl
    | refine (handOff_keeps ..).step ?_ rfl | refine (pairEvent_keeps ..).step ?_ rfl
    | refine (loseSync_keeps ..).step ?_ rfl | refine (startIntake_keeps ..).step ?_ rfl
    | refine (takeover_keeps ..).step ?_ rfl | apply Keeps.ite | refine Keeps.foldl ?_ fun _ _ _ => ?_
    | refine Keeps.foldl1 ?_ fun _ _ _ => ?_ | refine Keeps.foldl2 ?_ fun _ _ _ => ?_
    | refine Keeps.foldl22 ?_ fun _ _ _ => ?_ | apply Keeps.forLanes | apply Keeps.getD | split | (intro _ _ _)
    | (intro _ _) | fail_if_no_progress refine Keeps.upd ?_ | (dsimp +zetaDelta only; split)

theorem snapCheck_keeps (s : State) (x1 : Option HelloW) (x2 : HelloW) : Keeps 0x400 s (@State.snapCheck s x1 x2) := by
  delta State.snapCheck; repeat' with_reducible first
    | extract_lets | assumption | exact Keeps.refl | refine (setPair_keeps ..).step ?_ rfl
    | refine (sendSnapshot_keeps ..).step ?_ rfl | apply Keeps.ite | refine Keeps.foldl ?_ fun _ _ _ => ?_
    | refine Keeps.foldl1 ?_ fun _ _ _ => ?_ | refine Keeps.foldl2 ?_ fun _ _ _ => ?_
    | refine Keeps.foldl22 ?_ fun _ _ _ => ?_ | apply Keeps.forLanes | apply Keeps.getD | split | (intro _ _ _)
    | (intro _ _) | fail_if_no_progress refine Keeps.upd ?_ | (dsimp +zetaDelta only; split)

theorem onHello_keeps (s : State) (x1 : HelloW) (x2 : Int) : Keeps 0x102704 s (@State.onHello s x1 x2) := by
  delta State.onHello; repeat' with_reducible first
    | extract_lets | assumption | exact Keeps.refl | refine (setPair_keeps ..).step ?_ rfl
    | refine (pairEvent_keeps ..).step ?_ rfl | refine (conflictCheck_keeps ..).step ?_ rfl
    | refine (cfgCheck_keeps ..).step ?_ rfl | refine (roleStep_keeps ..).step ?_ rfl
    | refine (snapCheck_keeps ..).step ?_ rfl | refine (startIntake_keeps ..).step ?_ rfl | apply Keeps.ite
    | refine Keeps.foldl ?_ fun _ _ _ => ?_ | refine Keeps.foldl1 ?_ fun _ _ _ => ?_
    | refine Keeps.foldl2 ?_ fun _ _ _ => ?_ | refine Keeps.foldl22 ?_ fun _ _ _ => ?_ | apply Keeps.forLanes
    | apply Keeps.getD | split | (intro _ _ _) | (intro _ _) | fail_if_no_progress refine Keeps.upd ?_
    | (dsimp +zetaDelta only; split)

theorem onTxn_keeps (s : State) (x1 : TxnW) : Keeps 0x302704 s (@State.onTxn s x1) := by
  delta State.onTxn; repeat' with_reducible first
    | extract_lets | assumption | exact Keeps.refl | refine (loseSync_keeps ..).step ?_ rfl
    | refine (mirSend_keeps ..).step ?_ rfl | refine (takeTxn_keeps _ _ _ _ (by assumption)).step ?_ rfl
    | apply Keeps.ite | refine Keeps.foldl ?_ fun _ _ _ => ?_ | refine Keeps.foldl1 ?_ fun _ _ _ => ?_
    | refine Keeps.foldl2 ?_ fun _ _ _ => ?_ | refine Keeps.foldl22 ?_ fun _ _ _ => ?_ | apply Keeps.forLanes
    | apply Keeps.getD | split | (intro _ _ _) | (intro _ _) | fail_if_no_progress refine Keeps.upd ?_
    | (dsimp +zetaDelta only; split)

theorem onAck_keeps (s : State) (x1 : Word) (x2 : Nat) : Keeps 0x102704 s (@State.onAck s x1 x2) := by
  delta State.onAck; repeat' with_reducible first
    | extract_lets | assumption | exact Keeps.refl | refine (setPair_keeps ..).step ?_ rfl
    | refine (bump_keeps ..).step ?_ rfl | refine (roleStep_keeps ..).step ?_ rfl
    | refine (handOff_keeps ..).step ?_ rfl | apply Keeps.ite | refine Keeps.foldl ?_ fun _ _ _ => ?_
    | refine Keeps.foldl1 ?_ fun _ _ _ => ?_ | refine Keeps.foldl2 ?_ fun _ _ _ => ?_
    | refine Keeps.foldl22 ?_ fun _ _ _ => ?_ | apply Keeps.forLanes | apply Keeps.getD | split | (intro _ _ _)
    | (intro _ _) | fail_if_no_progress refine Keeps.upd ?_ | (dsimp +zetaDelta only; split)

theorem onOutcome_keeps (s : State) (x1 : Word) (x2 : Nat) : Keeps 0x102404 s (@State.onOutcome s x1 x2) := by
  delta State.onOutcome; repeat' with_reducible first
    | extract_lets | assumption | exact Keeps.refl | refine (compareOut_keeps ..).step ?_ rfl
    | refine (setPair_keeps ..).step ?_ rfl | apply Keeps.ite | refine Keeps.foldl ?_ fun _ _ _ => ?_
    | refine Keeps.foldl1 ?_ fun _ _ _ => ?_ | refine Keeps.foldl2 ?_ fun _ _ _ => ?_
    | refine Keeps.foldl22 ?_ fun _ _ _ => ?_ | apply Keeps.forLanes | apply Keeps.getD | split | (intro _ _ _)
    | (intro _ _) | fail_if_no_progress refine Keeps.upd ?_ | (dsimp +zetaDelta only; split)

theorem onAnn_keeps (s : State) (x1 : AnnW) : Keeps 0x500 s (@State.onAnn s x1) := by
  delta State.onAnn; repeat' with_reducible first
    | extract_lets | assumption | exact Keeps.refl | refine (setPair_keeps ..).step ?_ rfl
    | refine (handAnn_keeps ..).step ?_ rfl | apply Keeps.ite | refine Keeps.foldl ?_ fun _ _ _ => ?_
    | refine Keeps.foldl1 ?_ fun _ _ _ => ?_ | refine Keeps.foldl2 ?_ fun _ _ _ => ?_
    | refine Keeps.foldl22 ?_ fun _ _ _ => ?_ | apply Keeps.forLanes | apply Keeps.getD | split | (intro _ _ _)
    | (intro _ _) | fail_if_no_progress refine Keeps.upd ?_ | (dsimp +zetaDelta only; split)

theorem onCtrl_keeps (s : State) (x1 : CtrlW) : Keeps 0x104 s (@State.onCtrl s x1) := by
  delta State.onCtrl; repeat' with_reducible first
    | extract_lets | assumption | exact Keeps.refl | refine (setF_keeps ..).step ?_ rfl | apply Keeps.ite
    | refine Keeps.foldl ?_ fun _ _ _ => ?_ | refine Keeps.foldl1 ?_ fun _ _ _ => ?_
    | refine Keeps.foldl2 ?_ fun _ _ _ => ?_ | refine Keeps.foldl22 ?_ fun _ _ _ => ?_ | apply Keeps.forLanes
    | apply Keeps.getD | split | (intro _ _ _) | (intro _ _) | fail_if_no_progress refine Keeps.upd ?_
    | (dsimp +zetaDelta only; split)

theorem onState_keeps (s : State) (x1 : StateW) : Keeps 0x302704 s (@State.onState s x1) := by
  delta State.onState; repeat' with_reducible first
    | extract_lets | assumption | exact Keeps.refl | refine (pairEvent_keeps ..).step ?_ rfl
    | refine (setPair_keeps ..).step ?_ rfl | refine (applySnap_keeps ..).step ?_ rfl | apply Keeps.ite
    | refine Keeps.foldl ?_ fun _ _ _ => ?_ | refine Keeps.foldl1 ?_ fun _ _ _ => ?_
    | refine Keeps.foldl2 ?_ fun _ _ _ => ?_ | refine Keeps.foldl22 ?_ fun _ _ _ => ?_ | apply Keeps.forLanes
    | apply Keeps.getD | split | (intro _ _ _) | (intro _ _) | fail_if_no_progress refine Keeps.upd ?_
    | (dsimp +zetaDelta only; split)

theorem mirTake_keeps (s : State) (x1 : Int) (x2 : MirMsg) : Keeps 0x302704 s (@State.mirTake s x1 x2) := by
  delta State.mirTake; repeat' with_reducible first
    | extract_lets | assumption | exact Keeps.refl | refine (onHello_keeps ..).step ?_ rfl
    | refine (onTxn_keeps ..).step ?_ rfl | refine (onAck_keeps ..).step ?_ rfl
    | refine (onOutcome_keeps ..).step ?_ rfl | refine (onAnn_keeps ..).step ?_ rfl
    | refine (onCtrl_keeps ..).step ?_ rfl | refine (onState_keeps ..).step ?_ rfl | apply Keeps.ite
    | refine Keeps.foldl ?_ fun _ _ _ => ?_ | refine Keeps.foldl1 ?_ fun _ _ _ => ?_
    | refine Keeps.foldl2 ?_ fun _ _ _ => ?_ | refine Keeps.foldl22 ?_ fun _ _ _ => ?_ | apply Keeps.forLanes
    | apply Keeps.getD | split | (intro _ _ _) | (intro _ _) | fail_if_no_progress refine Keeps.upd ?_
    | (dsimp +zetaDelta only; split)

theorem mirDrain_keeps (n : Nat) (s : State) : Keeps 0x302704 s (mirDrain n s) := by
  induction n generalizing s with
  | zero => exact Keeps.refl
  | succ n ih =>
    unfold mirDrain
    split
    · exact Keeps.ite ((ih _).step ((mirTake_keeps ..).step ((setPair_keeps ..).step Keeps.refl rfl) rfl) rfl) Keeps.refl
    · exact Keeps.refl

theorem mirRecv_keeps (s : State) (x1 : MirHdr) (x2 : Int) (x3 : MirMsg) (x4 : Nat) : Keeps 0x302784 s
    (@State.mirRecv s x1 x2 x3 x4) := by
  delta State.mirRecv; repeat' with_reducible first
    | extract_lets | assumption | exact Keeps.refl | refine (passTo_keeps ..).step ?_ rfl
    | refine (bump_keeps ..).step ?_ rfl | refine (mirSend_keeps ..).step ?_ rfl
    | refine (onRetry_keeps ..).step ?_ rfl | refine (setPair_keeps ..).step ?_ rfl
    | refine (schedEvent_keeps ..).step ?_ rfl | refine (mirDrain_keeps ..).step ?_ rfl | apply Keeps.ite
    | refine Keeps.foldl ?_ fun _ _ _ => ?_ | refine Keeps.foldl1 ?_ fun _ _ _ => ?_
    | refine Keeps.foldl2 ?_ fun _ _ _ => ?_ | refine Keeps.foldl22 ?_ fun _ _ _ => ?_ | apply Keeps.forLanes
    | apply Keeps.getD | split | (intro _ _ _) | (intro _ _) | fail_if_no_progress refine Keeps.upd ?_
    | (dsimp +zetaDelta only; split)

theorem peerLost_keeps (s : State) : Keeps 0x102704 s (@State.peerLost s) := by
  delta State.peerLost; repeat' with_reducible first
    | extract_lets | assumption | exact Keeps.refl | refine (pairEvent_keeps ..).step ?_ rfl
    | refine (setPair_keeps ..).step ?_ rfl | refine (roleStep_keeps ..).step ?_ rfl
    | refine (startIntake_keeps ..).step ?_ rfl | refine (loseSync_keeps ..).step ?_ rfl | apply Keeps.ite
    | refine Keeps.foldl ?_ fun _ _ _ => ?_ | refine Keeps.foldl1 ?_ fun _ _ _ => ?_
    | refine Keeps.foldl2 ?_ fun _ _ _ => ?_ | refine Keeps.foldl22 ?_ fun _ _ _ => ?_ | apply Keeps.forLanes
    | apply Keeps.getD | split | (intro _ _ _) | (intro _ _) | fail_if_no_progress refine Keeps.upd ?_
    | (dsimp +zetaDelta only; split)

theorem setHealthOk_keeps (s : State) (x1 : Bool) : Keeps 0x102404 s (@State.setHealthOk s x1) := by
  delta State.setHealthOk; repeat' with_reducible first
    | extract_lets | assumption | exact Keeps.refl | refine (pairEvent_keeps ..).step ?_ rfl
    | refine (setPair_keeps ..).step ?_ rfl | apply Keeps.ite | refine Keeps.foldl ?_ fun _ _ _ => ?_
    | refine Keeps.foldl1 ?_ fun _ _ _ => ?_ | refine Keeps.foldl2 ?_ fun _ _ _ => ?_
    | refine Keeps.foldl22 ?_ fun _ _ _ => ?_ | apply Keeps.forLanes | apply Keeps.getD | split | (intro _ _ _)
    | (intro _ _) | fail_if_no_progress refine Keeps.upd ?_ | (dsimp +zetaDelta only; split)

theorem syncDone_keeps (s : State) : Keeps 0x102404 s (@State.syncDone s) := by
  delta State.syncDone; repeat' with_reducible first
    | extract_lets | assumption | exact Keeps.refl | refine (pairEvent_keeps ..).step ?_ rfl
    | refine (setPair_keeps ..).step ?_ rfl | apply Keeps.ite | refine Keeps.foldl ?_ fun _ _ _ => ?_
    | refine Keeps.foldl1 ?_ fun _ _ _ => ?_ | refine Keeps.foldl2 ?_ fun _ _ _ => ?_
    | refine Keeps.foldl22 ?_ fun _ _ _ => ?_ | apply Keeps.forLanes | apply Keeps.getD | split | (intro _ _ _)
    | (intro _ _) | fail_if_no_progress refine Keeps.upd ?_ | (dsimp +zetaDelta only; split)

theorem doActiveSel_keeps (x0 : Bool) (s : State) : Keeps 0x102704 s (@doActiveSel x0 s) := by
  delta doActiveSel; repeat' with_reducible first
    | extract_lets | assumption | exact Keeps.refl | refine (roleStep_keeps ..).step ?_ rfl
    | refine (setPair_keeps ..).step ?_ rfl | refine (icEdge_keeps ..).step ?_ rfl | apply Keeps.ite
    | refine Keeps.foldl ?_ fun _ _ _ => ?_ | refine Keeps.foldl1 ?_ fun _ _ _ => ?_
    | refine Keeps.foldl2 ?_ fun _ _ _ => ?_ | refine Keeps.foldl22 ?_ fun _ _ _ => ?_ | apply Keeps.forLanes
    | apply Keeps.getD | split | (intro _ _ _) | (intro _ _) | fail_if_no_progress refine Keeps.upd ?_
    | (dsimp +zetaDelta only; split)

theorem doHealthOk_keeps (s : State) : Keeps 0x102404 s (@doHealthOk s) := by
  delta doHealthOk; repeat' with_reducible first
    | extract_lets | assumption | exact Keeps.refl | refine (setHealthOk_keeps ..).step ?_ rfl | apply Keeps.ite
    | refine Keeps.foldl ?_ fun _ _ _ => ?_ | refine Keeps.foldl1 ?_ fun _ _ _ => ?_
    | refine Keeps.foldl2 ?_ fun _ _ _ => ?_ | refine Keeps.foldl22 ?_ fun _ _ _ => ?_ | apply Keeps.forLanes
    | apply Keeps.getD | split | (intro _ _ _) | (intro _ _) | fail_if_no_progress refine Keeps.upd ?_
    | (dsimp +zetaDelta only; split)

theorem doHealthUpdate_keeps (s : State) : Keeps 0x102704 s (@doHealthUpdate s) := by
  delta doHealthUpdate; repeat' with_reducible first
    | extract_lets | assumption | exact Keeps.refl | refine (setPair_keeps ..).step ?_ rfl
    | refine (setHealthOk_keeps ..).step ?_ rfl | refine (roleStep_keeps ..).step ?_ rfl
    | refine (syncDone_keeps ..).step ?_ rfl | apply Keeps.ite | refine Keeps.foldl ?_ fun _ _ _ => ?_
    | refine Keeps.foldl1 ?_ fun _ _ _ => ?_ | refine Keeps.foldl2 ?_ fun _ _ _ => ?_
    | refine Keeps.foldl22 ?_ fun _ _ _ => ?_ | apply Keeps.forLanes | apply Keeps.getD | split | (intro _ _ _)
    | (intro _ _) | fail_if_no_progress refine Keeps.upd ?_ | (dsimp +zetaDelta only; split)

theorem doHelloSend_keeps (x0 : Nat) (s : State) : Keeps 0x480 s (@doHelloSend x0 s) := by
  delta doHelloSend; repeat' with_reducible first
    | extract_lets | assumption | exact Keeps.refl | refine (passTo_keeps ..).step ?_ rfl
    | refine (mirSend_keeps ..).step ?_ rfl | apply Keeps.ite | refine Keeps.foldl ?_ fun _ _ _ => ?_
    | refine Keeps.foldl1 ?_ fun _ _ _ => ?_ | refine Keeps.foldl2 ?_ fun _ _ _ => ?_
    | refine Keeps.foldl22 ?_ fun _ _ _ => ?_ | apply Keeps.forLanes | apply Keeps.getD | split | (intro _ _ _)
    | (intro _ _) | fail_if_no_progress refine Keeps.upd ?_ | (dsimp +zetaDelta only; split)

theorem doMirrorLane_keeps (x0 : Nat) (x1 : Bool) (s : State) : Keeps 0x100404 s (@doMirrorLane x0 x1 s) := by
  delta doMirrorLane; repeat' with_reducible first
    | extract_lets | assumption | exact Keeps.refl | refine (icEdge_keeps ..).step ?_ rfl
    | refine (setPair_keeps ..).step ?_ rfl | apply Keeps.ite | refine Keeps.foldl ?_ fun _ _ _ => ?_
    | refine Keeps.foldl1 ?_ fun _ _ _ => ?_ | refine Keeps.foldl2 ?_ fun _ _ _ => ?_
    | refine Keeps.foldl22 ?_ fun _ _ _ => ?_ | apply Keeps.forLanes | apply Keeps.getD | split | (intro _ _ _)
    | (intro _ _) | fail_if_no_progress refine Keeps.upd ?_ | (dsimp +zetaDelta only; split)

theorem doMirrorTimeout_keeps (x0 : Nat) (s : State) : Keeps 0x102784 s (@doMirrorTimeout x0 s) := by
  delta doMirrorTimeout; repeat' with_reducible first
    | extract_lets | assumption | exact Keeps.refl | refine (passTo_keeps ..).step ?_ rfl
    | refine (loseSync_keeps ..).step ?_ rfl | refine (setPair_keeps ..).step ?_ rfl
    | refine (bump_keeps ..).step ?_ rfl | refine (roleStep_keeps ..).step ?_ rfl
    | refine (handOff_keeps ..).step ?_ rfl | apply Keeps.ite | refine Keeps.foldl ?_ fun _ _ _ => ?_
    | refine Keeps.foldl1 ?_ fun _ _ _ => ?_ | refine Keeps.foldl2 ?_ fun _ _ _ => ?_
    | refine Keeps.foldl22 ?_ fun _ _ _ => ?_ | apply Keeps.forLanes | apply Keeps.getD | split | (intro _ _ _)
    | (intro _ _) | fail_if_no_progress refine Keeps.upd ?_ | (dsimp +zetaDelta only; split)

theorem doPairCtrl_keeps (x0 : Word) (s : State) : Keeps 0x102704 s (@doPairCtrl x0 s) := by
  delta doPairCtrl; repeat' with_reducible first
    | extract_lets | assumption | exact Keeps.refl | refine (setF_keeps ..).step ?_ rfl
    | refine (peerLost_keeps ..).step ?_ rfl | refine (setPair_keeps ..).step ?_ rfl
    | refine (icEdge_keeps ..).step ?_ rfl | refine (loseSync_keeps ..).step ?_ rfl | apply Keeps.ite
    | refine Keeps.foldl ?_ fun _ _ _ => ?_ | refine Keeps.foldl1 ?_ fun _ _ _ => ?_
    | refine Keeps.foldl2 ?_ fun _ _ _ => ?_ | refine Keeps.foldl22 ?_ fun _ _ _ => ?_ | apply Keeps.forLanes
    | apply Keeps.getD | split | (intro _ _ _) | (intro _ _) | fail_if_no_progress refine Keeps.upd ?_
    | (dsimp +zetaDelta only; split)

theorem doPeerLoss_keeps (s : State) : Keeps 0x102704 s (@doPeerLoss s) := by
  delta doPeerLoss; repeat' with_reducible first
    | extract_lets | assumption | exact Keeps.refl | refine (peerLost_keeps ..).step ?_ rfl | apply Keeps.ite
    | refine Keeps.foldl ?_ fun _ _ _ => ?_ | refine Keeps.foldl1 ?_ fun _ _ _ => ?_
    | refine Keeps.foldl2 ?_ fun _ _ _ => ?_ | refine Keeps.foldl22 ?_ fun _ _ _ => ?_ | apply Keeps.forLanes
    | apply Keeps.getD | split | (intro _ _ _) | (intro _ _) | fail_if_no_progress refine Keeps.upd ?_
    | (dsimp +zetaDelta only; split)

theorem doReclaimHold_keeps (s : State) : Keeps 0x400 s (@doReclaimHold s) := by
  delta doReclaimHold; repeat' with_reducible first
    | extract_lets | assumption | exact Keeps.refl | refine (setPair_keeps ..).step ?_ rfl | apply Keeps.ite
    | refine Keeps.foldl ?_ fun _ _ _ => ?_ | refine Keeps.foldl1 ?_ fun _ _ _ => ?_
    | refine Keeps.foldl2 ?_ fun _ _ _ => ?_ | refine Keeps.foldl22 ?_ fun _ _ _ => ?_ | apply Keeps.forLanes
    | apply Keeps.getD | split | (intro _ _ _) | (intro _ _) | fail_if_no_progress refine Keeps.upd ?_
    | (dsimp +zetaDelta only; split)

end Sys2Proof.Machine
end

