-- ==== Sys2Proof/Laws/KeepsHost.lean ====
section
/-! SUPPORT. What each operation can change, one lemma each, the parts as a set of bits in the order of Part: thermal, power, rings, capture, Prale, calibration, faults, boot and registers. -/
namespace Sys2Proof.Machine
set_option Elab.async false

variable {m : Nat} {s₀ s : State}

theorem thermalEvent_keeps (s : State) (x1 : Nat) : Keeps 0x102000 s (@State.thermalEvent s x1) := by
  delta State.thermalEvent; repeat' with_reducible first
    | extract_lets | assumption | exact Keeps.refl | refine (post_keeps ..).step ?_ rfl | apply Keeps.ite
    | refine Keeps.foldl ?_ fun _ _ _ => ?_ | refine Keeps.foldl1 ?_ fun _ _ _ => ?_
    | refine Keeps.foldl2 ?_ fun _ _ _ => ?_ | refine Keeps.foldl22 ?_ fun _ _ _ => ?_ | apply Keeps.forLanes
    | apply Keeps.getD | split | (intro _ _ _) | (intro _ _) | fail_if_no_progress refine Keeps.upd ?_
    | (dsimp +zetaDelta only; split)

theorem assertLevel_keeps (s : State) (x1 : Nat) : Keeps 0x102004 s (@State.assertLevel s x1) := by
  delta State.assertLevel; repeat' with_reducible first
    | extract_lets | assumption | exact Keeps.refl | refine (thermalEvent_keeps ..).step ?_ rfl
    | refine (raise_keeps ..).step ?_ rfl | apply Keeps.ite | refine Keeps.foldl ?_ fun _ _ _ => ?_
    | refine Keeps.foldl1 ?_ fun _ _ _ => ?_ | refine Keeps.foldl2 ?_ fun _ _ _ => ?_
    | refine Keeps.foldl22 ?_ fun _ _ _ => ?_ | apply Keeps.forLanes | apply Keeps.getD | split | (intro _ _ _)
    | (intro _ _) | fail_if_no_progress refine Keeps.upd ?_ | (dsimp +zetaDelta only; split)

theorem setThm_keeps (s : State) (x1 : Thm) : Keeps 0x20000 s (@State.setThm s x1) := by
  delta State.setThm; repeat' with_reducible first
    | extract_lets | assumption | exact Keeps.refl | apply Keeps.ite | refine Keeps.foldl ?_ fun _ _ _ => ?_
    | refine Keeps.foldl1 ?_ fun _ _ _ => ?_ | refine Keeps.foldl2 ?_ fun _ _ _ => ?_
    | refine Keeps.foldl22 ?_ fun _ _ _ => ?_ | apply Keeps.forLanes | apply Keeps.getD | split | (intro _ _ _)
    | (intro _ _) | fail_if_no_progress refine Keeps.upd ?_ | (dsimp +zetaDelta only; split)

theorem estimate_keeps (s : State) : Keeps 0x20000 s (@State.estimate s) := by
  delta State.estimate; repeat' with_reducible first
    | extract_lets | assumption | exact Keeps.refl | refine (setThm_keeps ..).step ?_ rfl | apply Keeps.ite
    | refine Keeps.foldl ?_ fun _ _ _ => ?_ | refine Keeps.foldl1 ?_ fun _ _ _ => ?_
    | refine Keeps.foldl2 ?_ fun _ _ _ => ?_ | refine Keeps.foldl22 ?_ fun _ _ _ => ?_ | apply Keeps.forLanes
    | apply Keeps.getD | split | (intro _ _ _) | (intro _ _) | fail_if_no_progress refine Keeps.upd ?_
    | (dsimp +zetaDelta only; split)

theorem levels_keeps (s : State) : Keeps 0x323004 s (@State.levels s) := by
  delta State.levels; repeat' with_reducible first
    | extract_lets | assumption | exact Keeps.refl | refine (thermalEvent_keeps ..).step ?_ rfl
    | refine (setThm_keeps ..).step ?_ rfl | refine (assertLevel_keeps ..).step ?_ rfl
    | refine (icEdge_keeps ..).step ?_ rfl | refine (sgfThrottle_keeps ..).step ?_ rfl | apply Keeps.ite
    | refine Keeps.foldl ?_ fun _ _ _ => ?_ | refine Keeps.foldl1 ?_ fun _ _ _ => ?_
    | refine Keeps.foldl2 ?_ fun _ _ _ => ?_ | refine Keeps.foldl22 ?_ fun _ _ _ => ?_ | apply Keeps.forLanes
    | apply Keeps.getD | split | (intro _ _ _) | (intro _ _) | fail_if_no_progress refine Keeps.upd ?_
    | (dsimp +zetaDelta only; split)

theorem pwmCut_keeps (s : State) (x1 : Nat) : Keeps 0x108004 s (@State.pwmCut s x1) := by
  delta State.pwmCut; repeat' with_reducible first
    | extract_lets | assumption | exact Keeps.refl | refine (bump_keeps ..).step ?_ rfl
    | refine (raise_keeps ..).step ?_ rfl | refine (cause_keeps ..).step ?_ rfl | apply Keeps.ite
    | refine Keeps.foldl ?_ fun _ _ _ => ?_ | refine Keeps.foldl1 ?_ fun _ _ _ => ?_
    | refine Keeps.foldl2 ?_ fun _ _ _ => ?_ | refine Keeps.foldl22 ?_ fun _ _ _ => ?_ | apply Keeps.forLanes
    | apply Keeps.getD | split | (intro _ _ _) | (intro _ _) | fail_if_no_progress refine Keeps.upd ?_
    | (dsimp +zetaDelta only; split)

theorem setPwm_keeps (s : State) (x1 : Nat) (x2 : Pwm) : Keeps 0x40000 s (@State.setPwm s x1 x2) := by
  delta State.setPwm; repeat' with_reducible first
    | extract_lets | assumption | exact Keeps.refl | apply Keeps.ite | refine Keeps.foldl ?_ fun _ _ _ => ?_
    | refine Keeps.foldl1 ?_ fun _ _ _ => ?_ | refine Keeps.foldl2 ?_ fun _ _ _ => ?_
    | refine Keeps.foldl22 ?_ fun _ _ _ => ?_ | apply Keeps.forLanes | apply Keeps.getD | split | (intro _ _ _)
    | (intro _ _) | fail_if_no_progress refine Keeps.upd ?_ | (dsimp +zetaDelta only; split)

theorem pwmFlt_keeps (s : State) (x1 : Nat) (x2 : Bool) : Keeps 0x148004 s (@State.pwmFlt s x1 x2) := by
  delta State.pwmFlt; repeat' with_reducible first
    | extract_lets | assumption | exact Keeps.refl | refine (setPwm_keeps ..).step ?_ rfl
    | refine (pwmCut_keeps ..).step ?_ rfl | apply Keeps.ite | refine Keeps.foldl ?_ fun _ _ _ => ?_
    | refine Keeps.foldl1 ?_ fun _ _ _ => ?_ | refine Keeps.foldl2 ?_ fun _ _ _ => ?_
    | refine Keeps.foldl22 ?_ fun _ _ _ => ?_ | apply Keeps.forLanes | apply Keeps.getD | split | (intro _ _ _)
    | (intro _ _) | fail_if_no_progress refine Keeps.upd ?_ | (dsimp +zetaDelta only; split)

theorem pwmStart_keeps (s : State) (x1 : Nat) (x2 : Nat) : Keeps 0x148004 s (@State.pwmStart s x1 x2) := by
  delta State.pwmStart; repeat' with_reducible first
    | extract_lets | assumption | exact Keeps.refl | refine (setPwm_keeps ..).step ?_ rfl
    | refine (pwmCut_keeps ..).step ?_ rfl | apply Keeps.ite | refine Keeps.foldl ?_ fun _ _ _ => ?_
    | refine Keeps.foldl1 ?_ fun _ _ _ => ?_ | refine Keeps.foldl2 ?_ fun _ _ _ => ?_
    | refine Keeps.foldl22 ?_ fun _ _ _ => ?_ | apply Keeps.forLanes | apply Keeps.getD | split | (intro _ _ _)
    | (intro _ _) | fail_if_no_progress refine Keeps.upd ?_ | (dsimp +zetaDelta only; split)

theorem snsOff_keeps (s : State) (x1 : Nat) : Keeps 0x20000 s (@State.snsOff s x1) := by
  delta State.snsOff; repeat' with_reducible first
    | extract_lets | assumption | exact Keeps.refl | refine (setThm_keeps ..).step ?_ rfl | apply Keeps.ite
    | refine Keeps.foldl ?_ fun _ _ _ => ?_ | refine Keeps.foldl1 ?_ fun _ _ _ => ?_
    | refine Keeps.foldl2 ?_ fun _ _ _ => ?_ | refine Keeps.foldl22 ?_ fun _ _ _ => ?_ | apply Keeps.forLanes
    | apply Keeps.getD | split | (intro _ _ _) | (intro _ _) | fail_if_no_progress refine Keeps.upd ?_
    | (dsimp +zetaDelta only; split)

theorem tecDuty_keeps (s : State) (x1 : Nat) (x2 : Nat) : Keeps 0x40004 s (@State.tecDuty s x1 x2) := by
  delta State.tecDuty; repeat' with_reducible first
    | extract_lets | assumption | exact Keeps.refl | refine (setPwm_keeps ..).step ?_ rfl
    | refine (setF_keeps ..).step ?_ rfl | apply Keeps.ite | refine Keeps.foldl ?_ fun _ _ _ => ?_
    | refine Keeps.foldl1 ?_ fun _ _ _ => ?_ | refine Keeps.foldl2 ?_ fun _ _ _ => ?_
    | refine Keeps.foldl22 ?_ fun _ _ _ => ?_ | apply Keeps.forLanes | apply Keeps.getD | split | (intro _ _ _)
    | (intro _ _) | fail_if_no_progress refine Keeps.upd ?_ | (dsimp +zetaDelta only; split)

theorem tecWatch_keeps (s : State) : Keeps 0x20000 s (@State.tecWatch s) := by
  delta State.tecWatch; repeat' with_reducible first
    | extract_lets | assumption | exact Keeps.refl | refine (setThm_keeps ..).step ?_ rfl | apply Keeps.ite
    | refine Keeps.foldl ?_ fun _ _ _ => ?_ | refine Keeps.foldl1 ?_ fun _ _ _ => ?_
    | refine Keeps.foldl2 ?_ fun _ _ _ => ?_ | refine Keeps.foldl22 ?_ fun _ _ _ => ?_ | apply Keeps.forLanes
    | apply Keeps.getD | split | (intro _ _ _) | (intro _ _) | fail_if_no_progress refine Keeps.upd ?_
    | (dsimp +zetaDelta only; split)

theorem doPwmCtrl_keeps (x0 : Nat) (x1 : Word) (s : State) : Keeps 0x148004 s (@doPwmCtrl x0 x1 s) := by
  delta doPwmCtrl; repeat' with_reducible first
    | extract_lets | assumption | exact Keeps.refl | refine (wrCodes_keeps ..).step ?_ rfl
    | refine (setPwm_keeps ..).step ?_ rfl | refine (pwmStart_keeps ..).step ?_ rfl | apply Keeps.ite
    | refine Keeps.foldl ?_ fun _ _ _ => ?_ | refine Keeps.foldl1 ?_ fun _ _ _ => ?_
    | refine Keeps.foldl2 ?_ fun _ _ _ => ?_ | refine Keeps.foldl22 ?_ fun _ _ _ => ?_ | apply Keeps.forLanes
    | apply Keeps.getD | split | (intro _ _ _) | (intro _ _) | fail_if_no_progress refine Keeps.upd ?_
    | (dsimp +zetaDelta only; split)

theorem doPwmFault_keeps (x0 : Nat) (x1 : Bool) (s : State) : Keeps 0x148004 s (@doPwmFault x0 x1 s) := by
  delta doPwmFault; repeat' with_reducible first
    | extract_lets | assumption | exact Keeps.refl | refine (pwmFlt_keeps ..).step ?_ rfl | apply Keeps.ite
    | refine Keeps.foldl ?_ fun _ _ _ => ?_ | refine Keeps.foldl1 ?_ fun _ _ _ => ?_
    | refine Keeps.foldl2 ?_ fun _ _ _ => ?_ | refine Keeps.foldl22 ?_ fun _ _ _ => ?_ | apply Keeps.forLanes
    | apply Keeps.getD | split | (intro _ _ _) | (intro _ _) | fail_if_no_progress refine Keeps.upd ?_
    | (dsimp +zetaDelta only; split)

theorem doPwmPulseEnd_keeps (x0 : Nat) (s : State) : Keeps 0x40000 s (@doPwmPulseEnd x0 s) := by
  delta doPwmPulseEnd; repeat' with_reducible first
    | extract_lets | assumption | exact Keeps.refl | refine (setPwm_keeps ..).step ?_ rfl | apply Keeps.ite
    | refine Keeps.foldl ?_ fun _ _ _ => ?_ | refine Keeps.foldl1 ?_ fun _ _ _ => ?_
    | refine Keeps.foldl2 ?_ fun _ _ _ => ?_ | refine Keeps.foldl22 ?_ fun _ _ _ => ?_ | apply Keeps.forLanes
    | apply Keeps.getD | split | (intro _ _ _) | (intro _ _) | fail_if_no_progress refine Keeps.upd ?_
    | (dsimp +zetaDelta only; split)

theorem doPwmReload_keeps (x0 : Nat) (s : State) : Keeps 0x148004 s (@doPwmReload x0 s) := by
  delta doPwmReload; repeat' with_reducible first
    | extract_lets | assumption | exact Keeps.refl | refine (setPwm_keeps ..).step ?_ rfl
    | refine (raise_keeps ..).step ?_ rfl | refine (pwmStart_keeps ..).step ?_ rfl | apply Keeps.ite
    | refine Keeps.foldl ?_ fun _ _ _ => ?_ | refine Keeps.foldl1 ?_ fun _ _ _ => ?_
    | refine Keeps.foldl2 ?_ fun _ _ _ => ?_ | refine Keeps.foldl22 ?_ fun _ _ _ => ?_ | apply Keeps.forLanes
    | apply Keeps.getD | split | (intro _ _ _) | (intro _ _) | fail_if_no_progress refine Keeps.upd ?_
    | (dsimp +zetaDelta only; split)

theorem doPwmUpd_keeps (x0 : Nat) (x1 : Word) (s : State) : Keeps 0x40000 s (@doPwmUpd x0 x1 s) := by
  delta doPwmUpd; repeat' with_reducible first
    | extract_lets | assumption | exact Keeps.refl | refine (setPwm_keeps ..).step ?_ rfl | apply Keeps.ite
    | refine Keeps.foldl ?_ fun _ _ _ => ?_ | refine Keeps.foldl1 ?_ fun _ _ _ => ?_
    | refine Keeps.foldl2 ?_ fun _ _ _ => ?_ | refine Keeps.foldl22 ?_ fun _ _ _ => ?_ | apply Keeps.forLanes
    | apply Keeps.getD | split | (intro _ _ _) | (intro _ _) | fail_if_no_progress refine Keeps.upd ?_
    | (dsimp +zetaDelta only; split)

theorem doSensorMeasure_keeps (x0 : Nat) (x1 : List SnsRead) (s : State) : Keeps 0x32b084 s (@doSensorMeasure x0 x1
    s) := by
  delta doSensorMeasure; repeat' with_reducible first
    | extract_lets | assumption | exact Keeps.refl | refine (passTo_keeps ..).step ?_ rfl
    | refine (setThm_keeps ..).step ?_ rfl | refine (cause_keeps ..).step ?_ rfl | refine (raise_keeps ..).step ?_ rfl
    | refine (tecWatch_keeps ..).step ?_ rfl | refine (estimate_keeps ..).step ?_ rfl
    | refine (levels_keeps ..).step ?_ rfl | apply Keeps.ite | refine Keeps.foldl ?_ fun _ _ _ => ?_
    | refine Keeps.foldl1 ?_ fun _ _ _ => ?_ | refine Keeps.foldl2 ?_ fun _ _ _ => ?_
    | refine Keeps.foldl22 ?_ fun _ _ _ => ?_ | apply Keeps.forLanes | apply Keeps.getD | split | (intro _ _ _)
    | (intro _ _) | fail_if_no_progress refine Keeps.upd ?_ | (dsimp +zetaDelta only; split)

theorem doTecBandTimeout_keeps (s : State) : Keeps 0x20000 s (@doTecBandTimeout s) := by
  delta doTecBandTimeout; repeat' with_reducible first
    | extract_lets | assumption | exact Keeps.refl | refine (setThm_keeps ..).step ?_ rfl | apply Keeps.ite
    | refine Keeps.foldl ?_ fun _ _ _ => ?_ | refine Keeps.foldl1 ?_ fun _ _ _ => ?_
    | refine Keeps.foldl2 ?_ fun _ _ _ => ?_ | refine Keeps.foldl22 ?_ fun _ _ _ => ?_ | apply Keeps.forLanes
    | apply Keeps.getD | split | (intro _ _ _) | (intro _ _) | fail_if_no_progress refine Keeps.upd ?_
    | (dsimp +zetaDelta only; split)

theorem doTecCtrl_keeps (x0 : Word) (s : State) : Keeps 0x60004 s (@doTecCtrl x0 s) := by
  delta doTecCtrl; repeat' with_reducible first
    | extract_lets | assumption | exact Keeps.refl | refine (wrCodes_keeps ..).step ?_ rfl
    | refine (tecDuty_keeps ..).step ?_ rfl | refine (setThm_keeps ..).step ?_ rfl | apply Keeps.ite
    | refine Keeps.foldl ?_ fun _ _ _ => ?_ | refine Keeps.foldl1 ?_ fun _ _ _ => ?_
    | refine Keeps.foldl2 ?_ fun _ _ _ => ?_ | refine Keeps.foldl22 ?_ fun _ _ _ => ?_ | apply Keeps.forLanes
    | apply Keeps.getD | split | (intro _ _ _) | (intro _ _) | fail_if_no_progress refine Keeps.upd ?_
    | (dsimp +zetaDelta only; split)

theorem doTecLoop_keeps (s : State) : Keeps 0x60004 s (@doTecLoop s) := by
  delta doTecLoop; repeat' with_reducible first
    | extract_lets | assumption | exact Keeps.refl | refine (tecDuty_keeps ..).step ?_ rfl
    | refine (setThm_keeps ..).step ?_ rfl | apply Keeps.ite | refine Keeps.foldl ?_ fun _ _ _ => ?_
    | refine Keeps.foldl1 ?_ fun _ _ _ => ?_ | refine Keeps.foldl2 ?_ fun _ _ _ => ?_
    | refine Keeps.foldl22 ?_ fun _ _ _ => ?_ | apply Keeps.forLanes | apply Keeps.getD | split | (intro _ _ _)
    | (intro _ _) | fail_if_no_progress refine Keeps.upd ?_ | (dsimp +zetaDelta only; split)

theorem setCal_keeps (s : State) (x1 : Cal) : Keeps 0x80000 s (@State.setCal s x1) := by
  delta State.setCal; repeat' with_reducible first
    | extract_lets | assumption | exact Keeps.refl | apply Keeps.ite | refine Keeps.foldl ?_ fun _ _ _ => ?_
    | refine Keeps.foldl1 ?_ fun _ _ _ => ?_ | refine Keeps.foldl2 ?_ fun _ _ _ => ?_
    | refine Keeps.foldl22 ?_ fun _ _ _ => ?_ | apply Keeps.forLanes | apply Keeps.getD | split | (intro _ _ _)
    | (intro _ _) | fail_if_no_progress refine Keeps.upd ?_ | (dsimp +zetaDelta only; split)

theorem calUnhold_keeps (s : State) : Keeps 0x184234 s (@State.calUnhold s) := by
  delta State.calUnhold; repeat' with_reducible first
    | extract_lets | assumption | exact Keeps.refl | refine (refSelect_keeps ..).step ?_ rfl
    | refine (setF_keeps ..).step ?_ rfl | refine (setCal_keeps ..).step ?_ rfl | apply Keeps.ite
    | refine Keeps.foldl ?_ fun _ _ _ => ?_ | refine Keeps.foldl1 ?_ fun _ _ _ => ?_
    | refine Keeps.foldl2 ?_ fun _ _ _ => ?_ | refine Keeps.foldl22 ?_ fun _ _ _ => ?_ | apply Keeps.forLanes
    | apply Keeps.getD | split | (intro _ _ _) | (intro _ _) | fail_if_no_progress refine Keeps.upd ?_
    | (dsimp +zetaDelta only; split)

theorem spBack_keeps (s : State) (x1 : CalUndo) : Keeps 0x14 s (@State.spBack s x1) := by
  delta State.spBack; repeat' with_reducible first
    | extract_lets | assumption | exact Keeps.refl | refine (doSetptWrite_keeps ..).step ?_ rfl | apply Keeps.ite
    | refine Keeps.foldl ?_ fun _ _ _ => ?_ | refine Keeps.foldl1 ?_ fun _ _ _ => ?_
    | refine Keeps.foldl2 ?_ fun _ _ _ => ?_ | refine Keeps.foldl22 ?_ fun _ _ _ => ?_ | apply Keeps.forLanes
    | apply Keeps.getD | split | (intro _ _ _) | (intro _ _) | fail_if_no_progress refine Keeps.upd ?_
    | (dsimp +zetaDelta only; split)

theorem calPat_keeps (s : State) (l : List LaneSet) (p) (hp : s.calPat l = some p) : Keeps 0x200100 s p := by
  simp only [State.calPat, Option.map_eq_some_iff] at hp
  obtain ⟨p, hp, rfl⟩ := hp
  exact newPat_keeps s _ _ _ _ _ _ _ p hp

theorem calRelease_keeps (s : State) : Keeps 0x200100 s (@State.calRelease s) := by
  delta State.calRelease; repeat' with_reducible first
    | extract_lets | assumption | exact Keeps.refl | refine (calPat_keeps _ _ _ (by assumption)).step ?_ rfl
    | apply Keeps.ite | refine Keeps.foldl ?_ fun _ _ _ => ?_ | refine Keeps.foldl1 ?_ fun _ _ _ => ?_
    | refine Keeps.foldl2 ?_ fun _ _ _ => ?_ | refine Keeps.foldl22 ?_ fun _ _ _ => ?_ | apply Keeps.forLanes
    | apply Keeps.getD | split | (intro _ _ _) | (intro _ _) | fail_if_no_progress refine Keeps.upd ?_
    | (dsimp +zetaDelta only; split)

theorem calStop_keeps (s : State) (x1 : Nat) (x2 : Nat) : Keeps 0x384334 s (@State.calStop s x1 x2) := by
  delta State.calStop; repeat' with_reducible first
    | extract_lets | assumption | exact Keeps.refl | refine (calUnhold_keeps ..).step ?_ rfl
    | refine (spBack_keeps ..).step ?_ rfl | refine (setCal_keeps ..).step ?_ rfl
    | refine (calRelease_keeps ..).step ?_ rfl | apply Keeps.ite | refine Keeps.foldl ?_ fun _ _ _ => ?_
    | refine Keeps.foldl1 ?_ fun _ _ _ => ?_ | refine Keeps.foldl2 ?_ fun _ _ _ => ?_
    | refine Keeps.foldl22 ?_ fun _ _ _ => ?_ | apply Keeps.forLanes | apply Keeps.getD | split | (intro _ _ _)
    | (intro _ _) | fail_if_no_progress refine Keeps.upd ?_ | (dsimp +zetaDelta only; split)

theorem calAbort_keeps (s : State) (x1 : Nat) : Keeps 0x384334 s (@State.calAbort s x1) := by
  delta State.calAbort; repeat' with_reducible first
    | extract_lets | assumption | exact Keeps.refl | refine (calStop_keeps ..).step ?_ rfl | apply Keeps.ite
    | refine Keeps.foldl ?_ fun _ _ _ => ?_ | refine Keeps.foldl1 ?_ fun _ _ _ => ?_
    | refine Keeps.foldl2 ?_ fun _ _ _ => ?_ | refine Keeps.foldl22 ?_ fun _ _ _ => ?_ | apply Keeps.forLanes
    | apply Keeps.getD | split | (intro _ _ _) | (intro _ _) | fail_if_no_progress refine Keeps.upd ?_
    | (dsimp +zetaDelta only; split)

theorem calKeep_keeps (s : State) (x1 : List Nat) : Keeps 0x80000 s (@State.calKeep s x1) := by
  delta State.calKeep; repeat' with_reducible first
    | extract_lets | assumption | exact Keeps.refl | refine (setCal_keeps ..).step ?_ rfl | apply Keeps.ite
    | refine Keeps.foldl ?_ fun _ _ _ => ?_ | refine Keeps.foldl1 ?_ fun _ _ _ => ?_
    | refine Keeps.foldl2 ?_ fun _ _ _ => ?_ | refine Keeps.foldl22 ?_ fun _ _ _ => ?_ | apply Keeps.forLanes
    | apply Keeps.getD | split | (intro _ _ _) | (intro _ _) | fail_if_no_progress refine Keeps.upd ?_
    | (dsimp +zetaDelta only; split)

theorem calTake_keeps (s : State) (x1 : List Nat) : Keeps 0x184214 s (@State.calTake s x1) := by
  delta State.calTake; repeat' with_reducible first
    | extract_lets | assumption | exact Keeps.refl | refine (calHoldAdc_keeps ..).step ?_ rfl
    | refine (setCal_keeps ..).step ?_ rfl | apply Keeps.ite | refine Keeps.foldl ?_ fun _ _ _ => ?_
    | refine Keeps.foldl1 ?_ fun _ _ _ => ?_ | refine Keeps.foldl2 ?_ fun _ _ _ => ?_
    | refine Keeps.foldl22 ?_ fun _ _ _ => ?_ | apply Keeps.forLanes | apply Keeps.getD | split | (intro _ _ _)
    | (intro _ _) | fail_if_no_progress refine Keeps.upd ?_ | (dsimp +zetaDelta only; split)

theorem enterP2_keeps (s : State) : Keeps 0x104234 s (@State.enterP2 s) := by
  delta State.enterP2; repeat' with_reducible first
    | extract_lets | assumption | exact Keeps.refl | refine (toHold_keeps ..).step ?_ rfl
    | refine (setCl_keeps ..).step ?_ rfl | apply Keeps.ite | refine Keeps.foldl ?_ fun _ _ _ => ?_
    | refine Keeps.foldl1 ?_ fun _ _ _ => ?_ | refine Keeps.foldl2 ?_ fun _ _ _ => ?_
    | refine Keeps.foldl22 ?_ fun _ _ _ => ?_ | apply Keeps.forLanes | apply Keeps.getD | split | (intro _ _ _)
    | (intro _ _) | fail_if_no_progress refine Keeps.upd ?_ | (dsimp +zetaDelta only; split)

theorem leaveP2_keeps (s : State) : Keeps 0x104234 s (@State.leaveP2 s) := by
  delta State.leaveP2; repeat' with_reducible first
    | extract_lets | assumption | exact Keeps.refl | refine (setCl_keeps ..).step ?_ rfl
    | refine (setLane_keeps ..).step ?_ rfl | refine (reenter_keeps ..).step ?_ rfl | apply Keeps.ite
    | refine Keeps.foldl ?_ fun _ _ _ => ?_ | refine Keeps.foldl1 ?_ fun _ _ _ => ?_
    | refine Keeps.foldl2 ?_ fun _ _ _ => ?_ | refine Keeps.foldl22 ?_ fun _ _ _ => ?_ | apply Keeps.forLanes
    | apply Keeps.getD | split | (intro _ _ _) | (intro _ _) | fail_if_no_progress refine Keeps.upd ?_
    | (dsimp +zetaDelta only; split)

theorem setPwr_keeps (s : State) (x1 : Pwr) : Keeps 0x10000 s (@State.setPwr s x1) := by
  delta State.setPwr; repeat' with_reducible first
    | extract_lets | assumption | exact Keeps.refl | apply Keeps.ite | refine Keeps.foldl ?_ fun _ _ _ => ?_
    | refine Keeps.foldl1 ?_ fun _ _ _ => ?_ | refine Keeps.foldl2 ?_ fun _ _ _ => ?_
    | refine Keeps.foldl22 ?_ fun _ _ _ => ?_ | apply Keeps.forLanes | apply Keeps.getD | split | (intro _ _ _)
    | (intro _ _) | fail_if_no_progress refine Keeps.upd ?_ | (dsimp +zetaDelta only; split)

theorem reload_keeps (s : State) : Keeps 0x4 s (@State.reload s) := by
  delta State.reload; repeat' with_reducible first
    | extract_lets | assumption | exact Keeps.refl | apply Keeps.ite | refine Keeps.foldl ?_ fun _ _ _ => ?_
    | refine Keeps.foldl1 ?_ fun _ _ _ => ?_ | refine Keeps.foldl2 ?_ fun _ _ _ => ?_
    | refine Keeps.foldl22 ?_ fun _ _ _ => ?_ | apply Keeps.forLanes | apply Keeps.getD | split | (intro _ _ _)
    | (intro _ _) | fail_if_no_progress refine Keeps.upd ?_ | (dsimp +zetaDelta only; split)

theorem wakeLane_keeps (s : State) (x1 : Nat) : Keeps 0x104214 s (@State.wakeLane s x1) := by
  delta State.wakeLane; repeat' with_reducible first
    | extract_lets | assumption | exact Keeps.refl | refine (setLane_keeps ..).step ?_ rfl
    | refine (putLane_keeps ..).step ?_ rfl | apply Keeps.ite | refine Keeps.foldl ?_ fun _ _ _ => ?_
    | refine Keeps.foldl1 ?_ fun _ _ _ => ?_ | refine Keeps.foldl2 ?_ fun _ _ _ => ?_
    | refine Keeps.foldl22 ?_ fun _ _ _ => ?_ | apply Keeps.forLanes | apply Keeps.getD | split | (intro _ _ _)
    | (intro _ _) | fail_if_no_progress refine Keeps.upd ?_ | (dsimp +zetaDelta only; split)

theorem wakeDomain_keeps (s : State) : Keeps 0x104234 s (@State.wakeDomain s) := by
  delta State.wakeDomain; repeat' with_reducible first
    | extract_lets | assumption | exact Keeps.refl | refine (wakeLane_keeps ..).step ?_ rfl
    | refine (setCl_keeps ..).step ?_ rfl | apply Keeps.ite | refine Keeps.foldl ?_ fun _ _ _ => ?_
    | refine Keeps.foldl1 ?_ fun _ _ _ => ?_ | refine Keeps.foldl2 ?_ fun _ _ _ => ?_
    | refine Keeps.foldl22 ?_ fun _ _ _ => ?_ | apply Keeps.forLanes | apply Keeps.getD | split | (intro _ _ _)
    | (intro _ _) | fail_if_no_progress refine Keeps.upd ?_ | (dsimp +zetaDelta only; split)

theorem startExit_keeps (s : State) (x1 : Nat) : Keeps 0x11423c s (@State.startExit s x1) := by
  delta State.startExit; repeat' with_reducible first
    | extract_lets | assumption | exact Keeps.refl | refine (setPwr_keeps ..).step ?_ rfl
    | refine (reload_keeps ..).step ?_ rfl | refine (inhibitEnd_keeps ..).step ?_ rfl
    | refine (wakeDomain_keeps ..).step ?_ rfl | apply Keeps.ite | refine Keeps.foldl ?_ fun _ _ _ => ?_
    | refine Keeps.foldl1 ?_ fun _ _ _ => ?_ | refine Keeps.foldl2 ?_ fun _ _ _ => ?_
    | refine Keeps.foldl22 ?_ fun _ _ _ => ?_ | apply Keeps.forLanes | apply Keeps.getD | split | (intro _ _ _)
    | (intro _ _) | fail_if_no_progress refine Keeps.upd ?_ | (dsimp +zetaDelta only; split)

theorem pwrRequest_keeps (s : State) : Keeps 0x11423c s (@State.pwrRequest s) := by
  delta State.pwrRequest; repeat' with_reducible first
    | extract_lets | assumption | exact Keeps.refl | refine (startExit_keeps ..).step ?_ rfl
    | refine (setPwr_keeps ..).step ?_ rfl | apply Keeps.ite | refine Keeps.foldl ?_ fun _ _ _ => ?_
    | refine Keeps.foldl1 ?_ fun _ _ _ => ?_ | refine Keeps.foldl2 ?_ fun _ _ _ => ?_
    | refine Keeps.foldl22 ?_ fun _ _ _ => ?_ | apply Keeps.forLanes | apply Keeps.getD | split | (intro _ _ _)
    | (intro _ _) | fail_if_no_progress refine Keeps.upd ?_ | (dsimp +zetaDelta only; split)

theorem resumeHeld_keeps (s : State) : Keeps 0x100 s (@State.resumeHeld s) := by
  delta State.resumeHeld; repeat' with_reducible first
    | extract_lets | assumption | exact Keeps.refl | apply Keeps.ite | refine Keeps.foldl ?_ fun _ _ _ => ?_
    | refine Keeps.foldl1 ?_ fun _ _ _ => ?_ | refine Keeps.foldl2 ?_ fun _ _ _ => ?_
    | refine Keeps.foldl22 ?_ fun _ _ _ => ?_ | apply Keeps.forLanes | apply Keeps.getD | split | (intro _ _ _)
    | (intro _ _) | fail_if_no_progress refine Keeps.upd ?_ | (dsimp +zetaDelta only; split)

theorem storeDark_keeps (s : State) : Keeps 0x210100 s (@State.storeDark s) := by
  delta State.storeDark; repeat' with_reducible first
    | extract_lets | assumption | exact Keeps.refl | refine (setPwr_keeps ..).step ?_ rfl | apply Keeps.ite
    | refine Keeps.foldl ?_ fun _ _ _ => ?_ | refine Keeps.foldl1 ?_ fun _ _ _ => ?_
    | refine Keeps.foldl2 ?_ fun _ _ _ => ?_ | refine Keeps.foldl22 ?_ fun _ _ _ => ?_ | apply Keeps.forLanes
    | apply Keeps.getD | split | (intro _ _ _) | (intro _ _) | fail_if_no_progress refine Keeps.upd ?_
    | (dsimp +zetaDelta only; split)

theorem doAutoWake_keeps (x0 : Nat) (s : State) : Keeps 0x1142bc s (@doAutoWake x0 s) := by
  delta doAutoWake; repeat' with_reducible first
    | extract_lets | assumption | exact Keeps.refl | refine (passTo_keeps ..).step ?_ rfl
    | refine (raise_keeps ..).step ?_ rfl | refine (startExit_keeps ..).step ?_ rfl | apply Keeps.ite
    | refine Keeps.foldl ?_ fun _ _ _ => ?_ | refine Keeps.foldl1 ?_ fun _ _ _ => ?_
    | refine Keeps.foldl2 ?_ fun _ _ _ => ?_ | refine Keeps.foldl22 ?_ fun _ _ _ => ?_ | apply Keeps.forLanes
    | apply Keeps.getD | split | (intro _ _ _) | (intro _ _) | fail_if_no_progress refine Keeps.upd ?_
    | (dsimp +zetaDelta only; split)

theorem doPowerDone_keeps (x0 : Nat) (s : State) : Keeps 0x3173bc s (@doPowerDone x0 s) := by
  delta doPowerDone; repeat' with_reducible first
    | extract_lets | assumption | exact Keeps.refl | refine (passTo_keeps ..).step ?_ rfl
    | refine (setPwr_keeps ..).step ?_ rfl | refine (setReg_keeps ..).step ?_ rfl
    | refine (sgfOff_keeps ..).step ?_ rfl | refine (leaveP2_keeps ..).step ?_ rfl
    | refine (enterP2_keeps ..).step ?_ rfl | refine (storeDark_keeps ..).step ?_ rfl
    | refine (resumeHeld_keeps ..).step ?_ rfl | refine (raise_keeps ..).step ?_ rfl
    | refine (post_keeps ..).step ?_ rfl | refine (pwrRequest_keeps ..).step ?_ rfl | apply Keeps.ite
    | refine Keeps.foldl ?_ fun _ _ _ => ?_ | refine Keeps.foldl1 ?_ fun _ _ _ => ?_
    | refine Keeps.foldl2 ?_ fun _ _ _ => ?_ | refine Keeps.foldl22 ?_ fun _ _ _ => ?_ | apply Keeps.forLanes
    | apply Keeps.getD | split | (intro _ _ _) | (intro _ _) | fail_if_no_progress refine Keeps.upd ?_
    | (dsimp +zetaDelta only; split)

theorem doPowerEntry_keeps (x0 : Bool) (x1 : Nat) (s : State) : Keeps 0x1142bc s (@doPowerEntry x0 x1 s) := by
  delta doPowerEntry; repeat' with_reducible first
    | extract_lets | assumption | exact Keeps.refl | refine (setPwr_keeps ..).step ?_ rfl
    | refine (passTo_keeps ..).step ?_ rfl | refine (enterP2_keeps ..).step ?_ rfl
    | refine (plkRelease_keeps ..).step ?_ rfl | apply Keeps.ite | refine Keeps.foldl ?_ fun _ _ _ => ?_
    | refine Keeps.foldl1 ?_ fun _ _ _ => ?_ | refine Keeps.foldl2 ?_ fun _ _ _ => ?_
    | refine Keeps.foldl22 ?_ fun _ _ _ => ?_ | apply Keeps.forLanes | apply Keeps.getD | split | (intro _ _ _)
    | (intro _ _) | fail_if_no_progress refine Keeps.upd ?_ | (dsimp +zetaDelta only; split)

theorem doPowerTarget_keeps (x0 : Word) (x1 : Nat) (s : State) : Keeps 0x3943bc s (@doPowerTarget x0 x1 s) := by
  delta doPowerTarget; repeat' with_reducible first
    | extract_lets | assumption | exact Keeps.refl | refine (setF_keeps ..).step ?_ rfl
    | refine (passTo_keeps ..).step ?_ rfl | refine (calAbort_keeps ..).step ?_ rfl
    | refine (pwrRequest_keeps ..).step ?_ rfl | refine (setPwr_keeps ..).step ?_ rfl
    | refine (inhibitEnd_keeps ..).step ?_ rfl | apply Keeps.ite | refine Keeps.foldl ?_ fun _ _ _ => ?_
    | refine Keeps.foldl1 ?_ fun _ _ _ => ?_ | refine Keeps.foldl2 ?_ fun _ _ _ => ?_
    | refine Keeps.foldl22 ?_ fun _ _ _ => ?_ | apply Keeps.forLanes | apply Keeps.getD | split | (intro _ _ _)
    | (intro _ _) | fail_if_no_progress refine Keeps.upd ?_ | (dsimp +zetaDelta only; split)

theorem setRing_keeps (s : State) (x1 : Nat) (x2 : Ring) : Keeps 0x2000 s (@State.setRing s x1 x2) := by
  delta State.setRing; repeat' with_reducible first
    | extract_lets | assumption | exact Keeps.refl | apply Keeps.ite | refine Keeps.foldl ?_ fun _ _ _ => ?_
    | refine Keeps.foldl1 ?_ fun _ _ _ => ?_ | refine Keeps.foldl2 ?_ fun _ _ _ => ?_
    | refine Keeps.foldl22 ?_ fun _ _ _ => ?_ | apply Keeps.forLanes | apply Keeps.getD | split | (intro _ _ _)
    | (intro _ _) | fail_if_no_progress refine Keeps.upd ?_ | (dsimp +zetaDelta only; split)

theorem signal_keeps (s : State) (x1 : Nat) : Keeps 0x2004 s (@State.signal s x1) := by
  delta State.signal; repeat' with_reducible first
    | extract_lets | assumption | exact Keeps.refl | refine (msi_keeps ..).step ?_ rfl
    | refine (setRing_keeps ..).step ?_ rfl | apply Keeps.ite | refine Keeps.foldl ?_ fun _ _ _ => ?_
    | refine Keeps.foldl1 ?_ fun _ _ _ => ?_ | refine Keeps.foldl2 ?_ fun _ _ _ => ?_
    | refine Keeps.foldl22 ?_ fun _ _ _ => ?_ | apply Keeps.forLanes | apply Keeps.getD | split | (intro _ _ _)
    | (intro _ _) | fail_if_no_progress refine Keeps.upd ?_ | (dsimp +zetaDelta only; split)

theorem counted_keeps (s : State) (x1 : Nat) : Keeps 0x2004 s (@State.counted s x1) := by
  delta State.counted; repeat' with_reducible first
    | extract_lets | assumption | exact Keeps.refl | refine (signal_keeps ..).step ?_ rfl
    | refine (setRing_keeps ..).step ?_ rfl | apply Keeps.ite | refine Keeps.foldl ?_ fun _ _ _ => ?_
    | refine Keeps.foldl1 ?_ fun _ _ _ => ?_ | refine Keeps.foldl2 ?_ fun _ _ _ => ?_
    | refine Keeps.foldl22 ?_ fun _ _ _ => ?_ | apply Keeps.forLanes | apply Keeps.getD | split | (intro _ _ _)
    | (intro _ _) | fail_if_no_progress refine Keeps.upd ?_ | (dsimp +zetaDelta only; split)

theorem writeEntry_keeps (s : State) (x1 : Nat) (x2 : List Word) (x3 : Nat) : Keeps 0x802004 s (@State.writeEntry s
    x1 x2 x3) := by
  delta State.writeEntry; repeat' with_reducible first
    | extract_lets | assumption | exact Keeps.refl | refine (hput_keeps ..).step ?_ rfl
    | refine (counted_keeps ..).step ?_ rfl | refine (setRing_keeps ..).step ?_ rfl | apply Keeps.ite
    | refine Keeps.foldl ?_ fun _ _ _ => ?_ | refine Keeps.foldl1 ?_ fun _ _ _ => ?_
    | refine Keeps.foldl2 ?_ fun _ _ _ => ?_ | refine Keeps.foldl22 ?_ fun _ _ _ => ?_ | apply Keeps.forLanes
    | apply Keeps.getD | split | (intro _ _ _) | (intro _ _) | fail_if_no_progress refine Keeps.upd ?_
    | (dsimp +zetaDelta only; split)

theorem putEvent_keeps (s : State) (x1 : Nat) (x2 : Evt) : Keeps 0x802004 s (@State.putEvent s x1 x2) := by
  delta State.putEvent; repeat' with_reducible first
    | extract_lets | assumption | exact Keeps.refl | refine (writeEntry_keeps ..).step ?_ rfl | apply Keeps.ite
    | refine Keeps.foldl ?_ fun _ _ _ => ?_ | refine Keeps.foldl1 ?_ fun _ _ _ => ?_
    | refine Keeps.foldl2 ?_ fun _ _ _ => ?_ | refine Keeps.foldl22 ?_ fun _ _ _ => ?_ | apply Keeps.forLanes
    | apply Keeps.getD | split | (intro _ _ _) | (intro _ _) | fail_if_no_progress refine Keeps.upd ?_
    | (dsimp +zetaDelta only; split)

theorem overflow_keeps (s : State) (x1 : Nat) : Keeps 0x802004 s (@State.overflow s x1) := by
  delta State.overflow; repeat' with_reducible first
    | extract_lets | assumption | exact Keeps.refl | refine (putEvent_keeps ..).step ?_ rfl
    | refine (setRing_keeps ..).step ?_ rfl | apply Keeps.ite | refine Keeps.foldl ?_ fun _ _ _ => ?_
    | refine Keeps.foldl1 ?_ fun _ _ _ => ?_ | refine Keeps.foldl2 ?_ fun _ _ _ => ?_
    | refine Keeps.foldl22 ?_ fun _ _ _ => ?_ | apply Keeps.forLanes | apply Keeps.getD | split | (intro _ _ _)
    | (intro _ _) | fail_if_no_progress refine Keeps.upd ?_ | (dsimp +zetaDelta only; split)

theorem ringErr_keeps (s : State) (x1 : Nat) (x2 : Fld) (x3 : Fld) : Keeps 0x102004 s (@State.ringErr s x1 x2 x3) := by
  delta State.ringErr; repeat' with_reducible first
    | extract_lets | assumption | exact Keeps.refl | refine (ringError_keeps ..).step ?_ rfl
    | refine (hifErr_keeps ..).step ?_ rfl | refine (raise_keeps ..).step ?_ rfl | apply Keeps.ite
    | refine Keeps.foldl ?_ fun _ _ _ => ?_ | refine Keeps.foldl1 ?_ fun _ _ _ => ?_
    | refine Keeps.foldl2 ?_ fun _ _ _ => ?_ | refine Keeps.foldl22 ?_ fun _ _ _ => ?_ | apply Keeps.forLanes
    | apply Keeps.getD | split | (intro _ _ _) | (intro _ _) | fail_if_no_progress refine Keeps.upd ?_
    | (dsimp +zetaDelta only; split)

theorem doEventWrite_keeps (s : State) : Keeps 0x902004 s (@doEventWrite s) := by
  delta doEventWrite; repeat' with_reducible first
    | extract_lets | assumption | exact Keeps.refl | refine (putEvent_keeps ..).step ?_ rfl
    | refine (hifErr_keeps ..).step ?_ rfl | refine (bump_keeps ..).step ?_ rfl
    | refine (setRing_keeps ..).step ?_ rfl | apply Keeps.ite | refine Keeps.foldl ?_ fun _ _ _ => ?_
    | refine Keeps.foldl1 ?_ fun _ _ _ => ?_ | refine Keeps.foldl2 ?_ fun _ _ _ => ?_
    | refine Keeps.foldl22 ?_ fun _ _ _ => ?_ | apply Keeps.forLanes | apply Keeps.getD | split | (intro _ _ _)
    | (intro _ _) | fail_if_no_progress refine Keeps.upd ?_ | (dsimp +zetaDelta only; split)

theorem capErr_keeps (s : State) (x1 : Nat) (x2 : Fld) (x3 : Fld) : Keeps 0x102004 s (@State.capErr s x1 x2 x3) := by
  delta State.capErr; repeat' with_reducible first
    | extract_lets | assumption | exact Keeps.refl | refine (ringError_keeps ..).step ?_ rfl
    | refine (hifErr_keeps ..).step ?_ rfl | refine (raise_keeps ..).step ?_ rfl | apply Keeps.ite
    | refine Keeps.foldl ?_ fun _ _ _ => ?_ | refine Keeps.foldl1 ?_ fun _ _ _ => ?_
    | refine Keeps.foldl2 ?_ fun _ _ _ => ?_ | refine Keeps.foldl22 ?_ fun _ _ _ => ?_ | apply Keeps.forLanes
    | apply Keeps.getD | split | (intro _ _ _) | (intro _ _) | fail_if_no_progress refine Keeps.upd ?_
    | (dsimp +zetaDelta only; split)

theorem capEnable_keeps (s : State) (x1 : Nat) : Keeps 0x106004 s (@State.capEnable s x1) := by
  delta State.capEnable; repeat' with_reducible first
    | extract_lets | assumption | exact Keeps.refl | refine (setCap_keeps ..).step ?_ rfl
    | refine (setF_keeps ..).step ?_ rfl | refine (capErr_keeps ..).step ?_ rfl | apply Keeps.ite
    | refine Keeps.foldl ?_ fun _ _ _ => ?_ | refine Keeps.foldl1 ?_ fun _ _ _ => ?_
    | refine Keeps.foldl2 ?_ fun _ _ _ => ?_ | refine Keeps.foldl22 ?_ fun _ _ _ => ?_ | apply Keeps.forLanes
    | apply Keeps.getD | split | (intro _ _ _) | (intro _ _) | fail_if_no_progress refine Keeps.upd ?_
    | (dsimp +zetaDelta only; split)

theorem capGive_keeps (s : State) (x1 : Nat) : Keeps 0x104004 s (@State.capGive s x1) := by
  delta State.capGive; repeat' with_reducible first
    | extract_lets | assumption | exact Keeps.refl | refine (raise_keeps ..).step ?_ rfl
    | refine (setCap_keeps ..).step ?_ rfl | apply Keeps.ite | refine Keeps.foldl ?_ fun _ _ _ => ?_
    | refine Keeps.foldl1 ?_ fun _ _ _ => ?_ | refine Keeps.foldl2 ?_ fun _ _ _ => ?_
    | refine Keeps.foldl22 ?_ fun _ _ _ => ?_ | apply Keeps.forLanes | apply Keeps.getD | split | (intro _ _ _)
    | (intro _ _) | fail_if_no_progress refine Keeps.upd ?_ | (dsimp +zetaDelta only; split)

theorem capSignal_keeps (s : State) (x1 : Nat) : Keeps 0x6004 s (@State.capSignal s x1) := by
  delta State.capSignal; repeat' with_reducible first
    | extract_lets | assumption | exact Keeps.refl | refine (msi_keeps ..).step ?_ rfl
    | refine (setCap_keeps ..).step ?_ rfl | apply Keeps.ite | refine Keeps.foldl ?_ fun _ _ _ => ?_
    | refine Keeps.foldl1 ?_ fun _ _ _ => ?_ | refine Keeps.foldl2 ?_ fun _ _ _ => ?_
    | refine Keeps.foldl22 ?_ fun _ _ _ => ?_ | apply Keeps.forLanes | apply Keeps.getD | split | (intro _ _ _)
    | (intro _ _) | fail_if_no_progress refine Keeps.upd ?_ | (dsimp +zetaDelta only; split)

theorem capFail_keeps (s : State) (x1 : Nat) : Keeps 0x106004 s (@State.capFail s x1) := by
  delta State.capFail; repeat' with_reducible first
    | extract_lets | assumption | exact Keeps.refl | refine (capGive_keeps ..).step ?_ rfl
    | refine (setCap_keeps ..).step ?_ rfl | refine (capErr_keeps ..).step ?_ rfl
    | refine (capSignal_keeps ..).step ?_ rfl | apply Keeps.ite | refine Keeps.foldl ?_ fun _ _ _ => ?_
    | refine Keeps.foldl1 ?_ fun _ _ _ => ?_ | refine Keeps.foldl2 ?_ fun _ _ _ => ?_
    | refine Keeps.foldl22 ?_ fun _ _ _ => ?_ | apply Keeps.forLanes | apply Keeps.getD | split | (intro _ _ _)
    | (intro _ _) | fail_if_no_progress refine Keeps.upd ?_ | (dsimp +zetaDelta only; split)

theorem capPut_keeps (s : State) (x1 : Nat) (x2 : CapRec) : Keeps 0x806004 s (@State.capPut s x1 x2) := by
  delta State.capPut; repeat' with_reducible first
    | extract_lets | assumption | exact Keeps.refl | refine (hput_keeps ..).step ?_ rfl
    | refine (capSignal_keeps ..).step ?_ rfl | refine (setCap_keeps ..).step ?_ rfl | apply Keeps.ite
    | refine Keeps.foldl ?_ fun _ _ _ => ?_ | refine Keeps.foldl1 ?_ fun _ _ _ => ?_
    | refine Keeps.foldl2 ?_ fun _ _ _ => ?_ | refine Keeps.foldl22 ?_ fun _ _ _ => ?_ | apply Keeps.forLanes
    | apply Keeps.getD | split | (intro _ _ _) | (intro _ _) | fail_if_no_progress refine Keeps.upd ?_
    | (dsimp +zetaDelta only; split)

theorem capRefuse_keeps (s : State) (x1 : Nat) : Keeps 0x102004 s (@State.capRefuse s x1) := by
  delta State.capRefuse; repeat' with_reducible first
    | extract_lets | assumption | exact Keeps.refl | refine (capErr_keeps ..).step ?_ rfl | apply Keeps.ite
    | refine Keeps.foldl ?_ fun _ _ _ => ?_ | refine Keeps.foldl1 ?_ fun _ _ _ => ?_
    | refine Keeps.foldl2 ?_ fun _ _ _ => ?_ | refine Keeps.foldl22 ?_ fun _ _ _ => ?_ | apply Keeps.forLanes
    | apply Keeps.getD | split | (intro _ _ _) | (intro _ _) | fail_if_no_progress refine Keeps.upd ?_
    | (dsimp +zetaDelta only; split)

theorem capStopDone_keeps (s : State) (x1 : Nat) : Keeps 0x106004 s (@State.capStopDone s x1) := by
  delta State.capStopDone; repeat' with_reducible first
    | extract_lets | assumption | exact Keeps.refl | refine (setCap_keeps ..).step ?_ rfl
    | refine (capEnable_keeps ..).step ?_ rfl | apply Keeps.ite | refine Keeps.foldl ?_ fun _ _ _ => ?_
    | refine Keeps.foldl1 ?_ fun _ _ _ => ?_ | refine Keeps.foldl2 ?_ fun _ _ _ => ?_
    | refine Keeps.foldl22 ?_ fun _ _ _ => ?_ | apply Keeps.forLanes | apply Keeps.getD | split | (intro _ _ _)
    | (intro _ _) | fail_if_no_progress refine Keeps.upd ?_ | (dsimp +zetaDelta only; split)

theorem capWrite1_keeps (s : State) (x1 : Nat) (x2 : CapRing → CapRec) : Keeps 0x906004 s (@State.capWrite1 s x1 x2)
    := by
  delta State.capWrite1; repeat' with_reducible first
    | extract_lets | assumption | exact Keeps.refl | refine (capGive_keeps ..).step ?_ rfl
    | refine (capPut_keeps ..).step ?_ rfl | apply Keeps.ite | refine Keeps.foldl ?_ fun _ _ _ => ?_
    | refine Keeps.foldl1 ?_ fun _ _ _ => ?_ | refine Keeps.foldl2 ?_ fun _ _ _ => ?_
    | refine Keeps.foldl22 ?_ fun _ _ _ => ?_ | apply Keeps.forLanes | apply Keeps.getD | split | (intro _ _ _)
    | (intro _ _) | fail_if_no_progress refine Keeps.upd ?_ | (dsimp +zetaDelta only; split)

theorem capWrite_keeps (x0 : Nat) (s : State) (x2 : CapRec) : Keeps 0x906004 s (@State.capWrite x0 s x2) := by
  delta State.capWrite; repeat' with_reducible first
    | extract_lets | assumption | exact Keeps.refl | refine (capWrite1_keeps ..).step ?_ rfl
    | refine (setCap_keeps ..).step ?_ rfl | apply Keeps.ite | refine Keeps.foldl ?_ fun _ _ _ => ?_
    | refine Keeps.foldl1 ?_ fun _ _ _ => ?_ | refine Keeps.foldl2 ?_ fun _ _ _ => ?_
    | refine Keeps.foldl22 ?_ fun _ _ _ => ?_ | apply Keeps.forLanes | apply Keeps.getD | split | (intro _ _ _)
    | (intro _ _) | fail_if_no_progress refine Keeps.upd ?_ | (dsimp +zetaDelta only; split)

theorem windowEnd_keeps (s : State) (x1 : Nat) : Keeps 0x4000 s (@State.windowEnd s x1) := by
  delta State.windowEnd; repeat' with_reducible first
    | extract_lets | assumption | exact Keeps.refl | refine (setCap_keeps ..).step ?_ rfl | apply Keeps.ite
    | refine Keeps.foldl ?_ fun _ _ _ => ?_ | refine Keeps.foldl1 ?_ fun _ _ _ => ?_
    | refine Keeps.foldl2 ?_ fun _ _ _ => ?_ | refine Keeps.foldl22 ?_ fun _ _ _ => ?_ | apply Keeps.forLanes
    | apply Keeps.getD | split | (intro _ _ _) | (intro _ _) | fail_if_no_progress refine Keeps.upd ?_
    | (dsimp +zetaDelta only; split)

theorem doCapCfg_keeps (x0 : Nat) (x1 : Word) (s : State) : Keeps 0x106004 s (@doCapCfg x0 x1 s) := by
  delta doCapCfg; repeat' with_reducible first
    | extract_lets | assumption | exact Keeps.refl | refine (hifErr_keeps ..).step ?_ rfl
    | refine (setF_keeps ..).step ?_ rfl | refine (setCap_keeps ..).step ?_ rfl
    | refine (capEnable_keeps ..).step ?_ rfl | apply Keeps.ite | refine Keeps.foldl ?_ fun _ _ _ => ?_
    | refine Keeps.foldl1 ?_ fun _ _ _ => ?_ | refine Keeps.foldl2 ?_ fun _ _ _ => ?_
    | refine Keeps.foldl22 ?_ fun _ _ _ => ?_ | apply Keeps.forLanes | apply Keeps.getD | split | (intro _ _ _)
    | (intro _ _) | fail_if_no_progress refine Keeps.upd ?_ | (dsimp +zetaDelta only; split)

theorem doCapIndexLatch_keeps (x0 : Nat) (x1 : Bool) (s : State) : Keeps 0x404000 s (@doCapIndexLatch x0 x1 s) := by
  delta doCapIndexLatch; repeat' with_reducible first
    | extract_lets | assumption | exact Keeps.refl | refine (setCap_keeps ..).step ?_ rfl | apply Keeps.ite
    | refine Keeps.foldl ?_ fun _ _ _ => ?_ | refine Keeps.foldl1 ?_ fun _ _ _ => ?_
    | refine Keeps.foldl2 ?_ fun _ _ _ => ?_ | refine Keeps.foldl22 ?_ fun _ _ _ => ?_ | apply Keeps.forLanes
    | apply Keeps.getD | split | (intro _ _ _) | (intro _ _) | fail_if_no_progress refine Keeps.upd ?_
    | (dsimp +zetaDelta only; split)

theorem doCaptureDoorbell_keeps (x0 : Nat) (x1 : Word) (x2 : Nat) (s : State) : Keeps 0x106084 s (@doCaptureDoorbell
    x0 x1 x2 s) := by
  delta doCaptureDoorbell; repeat' with_reducible first
    | extract_lets | assumption | exact Keeps.refl | refine (passTo_keeps ..).step ?_ rfl
    | refine (capRefuse_keeps ..).step ?_ rfl | refine (setCap_keeps ..).step ?_ rfl
    | refine (offerTo_keeps ..).step ?_ rfl | refine (capSignal_keeps ..).step ?_ rfl | apply Keeps.ite
    | refine Keeps.foldl ?_ fun _ _ _ => ?_ | refine Keeps.foldl1 ?_ fun _ _ _ => ?_
    | refine Keeps.foldl2 ?_ fun _ _ _ => ?_ | refine Keeps.foldl22 ?_ fun _ _ _ => ?_ | apply Keeps.forLanes
    | apply Keeps.getD | split | (intro _ _ _) | (intro _ _) | fail_if_no_progress refine Keeps.upd ?_
    | (dsimp +zetaDelta only; split)

theorem doCaptureWrite_keeps (x0 : Nat) (x1 : Nat) (s : State) : Keeps 0x906084 s (@doCaptureWrite x0 x1 s) := by
  delta doCaptureWrite; repeat' with_reducible first
    | extract_lets | assumption | exact Keeps.refl | refine (passTo_keeps ..).step ?_ rfl
    | refine (capWrite1_keeps ..).step ?_ rfl | refine (setCap_keeps ..).step ?_ rfl
    | refine (capWrite_keeps ..).step ?_ rfl | apply Keeps.ite | refine Keeps.foldl ?_ fun _ _ _ => ?_
    | refine Keeps.foldl1 ?_ fun _ _ _ => ?_ | refine Keeps.foldl2 ?_ fun _ _ _ => ?_
    | refine Keeps.foldl22 ?_ fun _ _ _ => ?_ | apply Keeps.forLanes | apply Keeps.getD | split | (intro _ _ _)
    | (intro _ _) | fail_if_no_progress refine Keeps.upd ?_ | (dsimp +zetaDelta only; split)

theorem doPcieLinkRetrain_keeps (x0 : Nat) (x1 : Nat) (s : State) : Keeps 0x10002 s (@doPcieLinkRetrain x0 x1 s) := by
  delta doPcieLinkRetrain; repeat' with_reducible first
    | extract_lets | assumption | exact Keeps.refl | apply Keeps.ite | refine Keeps.foldl ?_ fun _ _ _ => ?_
    | refine Keeps.foldl1 ?_ fun _ _ _ => ?_ | refine Keeps.foldl2 ?_ fun _ _ _ => ?_
    | refine Keeps.foldl22 ?_ fun _ _ _ => ?_ | apply Keeps.forLanes | apply Keeps.getD | split | (intro _ _ _)
    | (intro _ _) | fail_if_no_progress refine Keeps.upd ?_ | (dsimp +zetaDelta only; split)

theorem doQuotaWindowEnd_keeps (x0 : Nat) (s : State) : Keeps 0x4080 s (@doQuotaWindowEnd x0 s) := by
  delta doQuotaWindowEnd; repeat' with_reducible first
    | extract_lets | assumption | exact Keeps.refl | refine (passTo_keeps ..).step ?_ rfl
    | refine (windowEnd_keeps ..).step ?_ rfl | apply Keeps.ite | refine Keeps.foldl ?_ fun _ _ _ => ?_
    | refine Keeps.foldl1 ?_ fun _ _ _ => ?_ | refine Keeps.foldl2 ?_ fun _ _ _ => ?_
    | refine Keeps.foldl22 ?_ fun _ _ _ => ?_ | apply Keeps.forLanes | apply Keeps.getD | split | (intro _ _ _)
    | (intro _ _) | fail_if_no_progress refine Keeps.upd ?_ | (dsimp +zetaDelta only; split)

theorem descErr_keeps (s : State) (x1 : Nat) : Keeps 0x102004 s (@State.descErr s x1) := by
  delta State.descErr; repeat' with_reducible first
    | extract_lets | assumption | exact Keeps.refl | refine (ringErr_keeps ..).step ?_ rfl | apply Keeps.ite
    | refine Keeps.foldl ?_ fun _ _ _ => ?_ | refine Keeps.foldl1 ?_ fun _ _ _ => ?_
    | refine Keeps.foldl2 ?_ fun _ _ _ => ?_ | refine Keeps.foldl22 ?_ fun _ _ _ => ?_ | apply Keeps.forLanes
    | apply Keeps.getD | split | (intro _ _ _) | (intro _ _) | fail_if_no_progress refine Keeps.upd ?_
    | (dsimp +zetaDelta only; split)

theorem slot_keeps (s : State) (x1 : Nat) (x2 : Desc) (x3 : Nat) (x4 : Bool) (x5 : Bool) (p) (hp : @State.slot s x1
    x2 x3 x4 x5 = p) : Keeps 0x2000 s p.1 := by
  delta State.slot at hp; subst hp
  repeat' with_reducible first
    | extract_lets | assumption | exact Keeps.refl | refine (setRing_keeps ..).step ?_ rfl | apply Keeps.ite
    | refine Keeps.foldl ?_ fun _ _ _ => ?_ | refine Keeps.foldl1 ?_ fun _ _ _ => ?_
    | refine Keeps.foldl2 ?_ fun _ _ _ => ?_ | refine Keeps.foldl22 ?_ fun _ _ _ => ?_ | apply Keeps.forLanes
    | apply Keeps.getD | split | (intro _ _ _) | (intro _ _) | fail_if_no_progress refine Keeps.upd ?_
    | (dsimp +zetaDelta only; split)

theorem rejectSlot_keeps (x0 : State) (x1 : Nat) (x2 : Desc) (s : State) (x4 : Req) (x5 : Nat) (x6 : Bool) : Keeps
    0x2000 s (@State.rejectSlot x0 x1 x2 s x4 x5 x6) := by
  delta State.rejectSlot; repeat' with_reducible first
    | extract_lets | assumption | exact Keeps.refl | refine (fillComp_keeps ..).step ?_ rfl | apply Keeps.ite
    | refine Keeps.foldl ?_ fun _ _ _ => ?_ | refine Keeps.foldl1 ?_ fun _ _ _ => ?_
    | refine Keeps.foldl2 ?_ fun _ _ _ => ?_ | refine Keeps.foldl22 ?_ fun _ _ _ => ?_ | apply Keeps.forLanes
    | apply Keeps.getD | split | (intro _ _ _) | (intro _ _) | fail_if_no_progress refine Keeps.upd ?_
    | (dsimp +zetaDelta only; split)

theorem rejectDesc_keeps (s : State) (x1 : Nat) (x2 : Desc) (x3 : Nat) : Keeps 0x2000 s (@State.rejectDesc s x1 x2
    x3) := by
  delta State.rejectDesc; repeat' with_reducible first
    | extract_lets | assumption | exact Keeps.refl | refine (slot_keeps _ _ _ _ _ _ _ rfl).step ?_ rfl
    | refine (slot_keeps _ _ _ _ _ _ (_, _) (by assumption)).step ?_ rfl | refine (rejectSlot_keeps ..).step ?_ rfl
    | apply Keeps.ite | refine Keeps.foldl ?_ fun _ _ _ => ?_ | refine Keeps.foldl1 ?_ fun _ _ _ => ?_
    | refine Keeps.foldl2 ?_ fun _ _ _ => ?_ | refine Keeps.foldl22 ?_ fun _ _ _ => ?_ | apply Keeps.forLanes
    | apply Keeps.getD | split | (intro _ _ _) | (intro _ _) | fail_if_no_progress refine Keeps.upd ?_
    | (dsimp +zetaDelta only; split)

theorem slots_keeps (s : State) (x1 : Nat) (x2 : List Desc) (p) (hp : @State.slots s x1 x2 = p) : Keeps 0x2000 s p.1
    := by
  delta State.slots at hp; subst hp
  repeat' with_reducible first
    | extract_lets | assumption | exact Keeps.refl | refine (slot_keeps _ _ _ _ _ _ _ rfl).step ?_ rfl
    | refine (slot_keeps _ _ _ _ _ _ (_, _) (by assumption)).step ?_ rfl | apply Keeps.ite
    | refine Keeps.foldl ?_ fun _ _ _ => ?_ | refine Keeps.foldl1 ?_ fun _ _ _ => ?_
    | refine Keeps.foldl2 ?_ fun _ _ _ => ?_ | refine Keeps.foldl22 ?_ fun _ _ _ => ?_ | apply Keeps.forLanes
    | apply Keeps.getD | split | (intro _ _ _) | (intro _ _) | fail_if_no_progress refine Keeps.upd ?_
    | (dsimp +zetaDelta only; split)

theorem deliver_keeps (s : State) (x1 : Nat) (x2 : List Desc) : Keeps 0x2200 s (@State.deliver s x1 x2) := by
  delta State.deliver; repeat' with_reducible first
    | extract_lets | assumption | exact Keeps.refl | refine (slots_keeps _ _ _ _ rfl).step ?_ rfl
    | refine (slots_keeps _ _ _ (_, _) (by assumption)).step ?_ rfl | apply Keeps.ite
    | refine Keeps.foldl ?_ fun _ _ _ => ?_ | refine Keeps.foldl1 ?_ fun _ _ _ => ?_
    | refine Keeps.foldl2 ?_ fun _ _ _ => ?_ | refine Keeps.foldl22 ?_ fun _ _ _ => ?_ | apply Keeps.forLanes
    | apply Keeps.getD | split | (intro _ _ _) | (intro _ _) | fail_if_no_progress refine Keeps.upd ?_
    | (dsimp +zetaDelta only; split)

theorem alone_keeps (s : State) (x1 : Nat) (x2 : Desc) : Keeps 0x102204 s (@State.alone s x1 x2) := by
  delta State.alone; repeat' with_reducible first
    | extract_lets | assumption | exact Keeps.refl | refine (descErr_keeps ..).step ?_ rfl
    | refine (rejectDesc_keeps ..).step ?_ rfl | refine (icEdge_keeps ..).step ?_ rfl
    | refine (deliver_keeps ..).step ?_ rfl | apply Keeps.ite | refine Keeps.foldl ?_ fun _ _ _ => ?_
    | refine Keeps.foldl1 ?_ fun _ _ _ => ?_ | refine Keeps.foldl2 ?_ fun _ _ _ => ?_
    | refine Keeps.foldl22 ?_ fun _ _ _ => ?_ | apply Keeps.forLanes | apply Keeps.getD | split | (intro _ _ _)
    | (intro _ _) | fail_if_no_progress refine Keeps.upd ?_ | (dsimp +zetaDelta only; split)

theorem bufErr_keeps (s : State) (x1 : Nat) (x2 : Fld) : Keeps 0x102004 s (@State.bufErr s x1 x2) := by
  delta State.bufErr; repeat' with_reducible first
    | extract_lets | assumption | exact Keeps.refl | refine (ringError_keeps ..).step ?_ rfl
    | refine (hifErr_keeps ..).step ?_ rfl | apply Keeps.ite | refine Keeps.foldl ?_ fun _ _ _ => ?_
    | refine Keeps.foldl1 ?_ fun _ _ _ => ?_ | refine Keeps.foldl2 ?_ fun _ _ _ => ?_
    | refine Keeps.foldl22 ?_ fun _ _ _ => ?_ | apply Keeps.forLanes | apply Keeps.getD | split | (intro _ _ _)
    | (intro _ _) | fail_if_no_progress refine Keeps.upd ?_ | (dsimp +zetaDelta only; split)

theorem mgmtFault_keeps (s : State) (x1 : Nat) (x2 : Nat) (x3 : Fld) : Keeps 0x102204 s (@State.mgmtFault s x1 x2 x3)
    := by
  delta State.mgmtFault; repeat' with_reducible first
    | extract_lets | assumption | exact Keeps.refl | refine (bufErr_keeps ..).step ?_ rfl
    | refine (fillComp_keeps ..).step ?_ rfl | apply Keeps.ite | refine Keeps.foldl ?_ fun _ _ _ => ?_
    | refine Keeps.foldl1 ?_ fun _ _ _ => ?_ | refine Keeps.foldl2 ?_ fun _ _ _ => ?_
    | refine Keeps.foldl22 ?_ fun _ _ _ => ?_ | apply Keeps.forLanes | apply Keeps.getD | split | (intro _ _ _)
    | (intro _ _) | fail_if_no_progress refine Keeps.upd ?_ | (dsimp +zetaDelta only; split)

theorem dropSlot_keeps (s : State) (x1 : CompSlot) (x2 : Comp) : Keeps 0x2000 s (@State.dropSlot s x1 x2) := by
  delta State.dropSlot; repeat' with_reducible first
    | extract_lets | assumption | exact Keeps.refl | refine (setRing_keeps ..).step ?_ rfl | apply Keeps.ite
    | refine Keeps.foldl ?_ fun _ _ _ => ?_ | refine Keeps.foldl1 ?_ fun _ _ _ => ?_
    | refine Keeps.foldl2 ?_ fun _ _ _ => ?_ | refine Keeps.foldl22 ?_ fun _ _ _ => ?_ | apply Keeps.forLanes
    | apply Keeps.getD | split | (intro _ _ _) | (intro _ _) | fail_if_no_progress refine Keeps.upd ?_
    | (dsimp +zetaDelta only; split)

theorem putComp_keeps (s : State) (x1 : CompSlot) (x2 : Comp) : Keeps 0x802004 s (@State.putComp s x1 x2) := by
  delta State.putComp; repeat' with_reducible first
    | extract_lets | assumption | exact Keeps.refl | refine (dropSlot_keeps ..).step ?_ rfl
    | refine (hput_keeps ..).step ?_ rfl | refine (writeEntry_keeps ..).step ?_ rfl | apply Keeps.ite
    | refine Keeps.foldl ?_ fun _ _ _ => ?_ | refine Keeps.foldl1 ?_ fun _ _ _ => ?_
    | refine Keeps.foldl2 ?_ fun _ _ _ => ?_ | refine Keeps.foldl22 ?_ fun _ _ _ => ?_ | apply Keeps.forLanes
    | apply Keeps.getD | split | (intro _ _ _) | (intro _ _) | fail_if_no_progress refine Keeps.upd ?_
    | (dsimp +zetaDelta only; split)

theorem wroteBack_keeps (s : State) (x1 : Nat) (x2 : Nat) : Keeps 0x2004 s (@State.wroteBack s x1 x2) := by
  delta State.wroteBack; repeat' with_reducible first
    | extract_lets | assumption | exact Keeps.refl | refine (counted_keeps ..).step ?_ rfl
    | refine (setRing_keeps ..).step ?_ rfl | apply Keeps.ite | refine Keeps.foldl ?_ fun _ _ _ => ?_
    | refine Keeps.foldl1 ?_ fun _ _ _ => ?_ | refine Keeps.foldl2 ?_ fun _ _ _ => ?_
    | refine Keeps.foldl22 ?_ fun _ _ _ => ?_ | apply Keeps.forLanes | apply Keeps.getD | split | (intro _ _ _)
    | (intro _ _) | fail_if_no_progress refine Keeps.upd ?_ | (dsimp +zetaDelta only; split)

theorem writeBack_keeps (s : State) (x1 : Nat) (x2 : Nat) (x3 : List Word) : Keeps 0x802004 s (@State.writeBack s x1
    x2 x3) := by
  delta State.writeBack; repeat' with_reducible first
    | extract_lets | assumption | exact Keeps.refl | refine (wroteBack_keeps ..).step ?_ rfl
    | refine (hput_keeps ..).step ?_ rfl | apply Keeps.ite | refine Keeps.foldl ?_ fun _ _ _ => ?_
    | refine Keeps.foldl1 ?_ fun _ _ _ => ?_ | refine Keeps.foldl2 ?_ fun _ _ _ => ?_
    | refine Keeps.foldl22 ?_ fun _ _ _ => ?_ | apply Keeps.forLanes | apply Keeps.getD | split | (intro _ _ _)
    | (intro _ _) | fail_if_no_progress refine Keeps.upd ?_ | (dsimp +zetaDelta only; split)

theorem rxTaken_keeps (s : State) (x1 : Cpy) : Keeps 0x3000 s (@State.rxTaken s x1) := by
  delta State.rxTaken; repeat' with_reducible first
    | extract_lets | assumption | exact Keeps.refl | refine (reap_keeps ..).step ?_ rfl
    | refine (dropCpy_keeps ..).step ?_ rfl | apply Keeps.ite | refine Keeps.foldl ?_ fun _ _ _ => ?_
    | refine Keeps.foldl1 ?_ fun _ _ _ => ?_ | refine Keeps.foldl2 ?_ fun _ _ _ => ?_
    | refine Keeps.foldl22 ?_ fun _ _ _ => ?_ | apply Keeps.forLanes | apply Keeps.getD | split | (intro _ _ _)
    | (intro _ _) | fail_if_no_progress refine Keeps.upd ?_ | (dsimp +zetaDelta only; split)

theorem rxFault_keeps (s : State) (p) (hp : @State.rxFault s = p) : Keeps 0x200000 s p.2 := by
  delta State.rxFault at hp; subst hp
  repeat' with_reducible first
    | extract_lets | assumption | exact Keeps.refl | refine (takeFree_keeps _ _ rfl).step ?_ rfl
    | refine (takeFree_keeps _ (_, _) (by assumption)).step ?_ rfl | apply Keeps.ite
    | refine Keeps.foldl ?_ fun _ _ _ => ?_ | refine Keeps.foldl1 ?_ fun _ _ _ => ?_
    | refine Keeps.foldl2 ?_ fun _ _ _ => ?_ | refine Keeps.foldl22 ?_ fun _ _ _ => ?_ | apply Keeps.forLanes
    | apply Keeps.getD | split | (intro _ _ _) | (intro _ _) | fail_if_no_progress refine Keeps.upd ?_
    | (dsimp +zetaDelta only; split)

theorem sphRx_keeps (s : State) (x1 : Nat) (x2 : RxEnd) : Keeps 0xb03004 s (@State.sphRx s x1 x2) := by
  delta State.sphRx; repeat' with_reducible first
    | extract_lets | assumption | exact Keeps.refl | refine (setRing_keeps ..).step ?_ rfl
    | refine (writeBack_keeps ..).step ?_ rfl | refine (rxTaken_keeps ..).step ?_ rfl
    | refine (spCount_keeps ..).step ?_ rfl | refine (hput_keeps ..).step ?_ rfl
    | refine (rxFault_keeps _ _ rfl).step ?_ rfl | refine (rxFault_keeps _ (_, _) (by assumption)).step ?_ rfl
    | refine (bufErr_keeps ..).step ?_ rfl | refine (wroteBack_keeps ..).step ?_ rfl | apply Keeps.ite
    | refine Keeps.foldl ?_ fun _ _ _ => ?_ | refine Keeps.foldl1 ?_ fun _ _ _ => ?_
    | refine Keeps.foldl2 ?_ fun _ _ _ => ?_ | refine Keeps.foldl22 ?_ fun _ _ _ => ?_ | apply Keeps.forLanes
    | apply Keeps.getD | split | (intro _ _ _) | (intro _ _) | fail_if_no_progress refine Keeps.upd ?_
    | (dsimp +zetaDelta only; split)

theorem bufFail_keeps (s : State) (x1 : Nat) : Keeps 0xb03204 s (@State.bufFail s x1) := by
  delta State.bufFail; repeat' with_reducible first
    | extract_lets | assumption | exact Keeps.refl | refine (mgmtFault_keeps ..).step ?_ rfl
    | refine (bufErr_keeps ..).step ?_ rfl | refine (putComp_keeps ..).step ?_ rfl
    | refine (sphRx_keeps ..).step ?_ rfl | apply Keeps.ite | refine Keeps.foldl ?_ fun _ _ _ => ?_
    | refine Keeps.foldl1 ?_ fun _ _ _ => ?_ | refine Keeps.foldl2 ?_ fun _ _ _ => ?_
    | refine Keeps.foldl22 ?_ fun _ _ _ => ?_ | apply Keeps.forLanes | apply Keeps.getD | split | (intro _ _ _)
    | (intro _ _) | fail_if_no_progress refine Keeps.upd ?_ | (dsimp +zetaDelta only; split)

theorem ciOn_keeps (s : State) (x1 : Nat) : Keeps 0x2000 s (@State.ciOn s x1) := by
  delta State.ciOn; repeat' with_reducible first
    | extract_lets | assumption | exact Keeps.refl | refine (setRing_keeps ..).step ?_ rfl | apply Keeps.ite
    | refine Keeps.foldl ?_ fun _ _ _ => ?_ | refine Keeps.foldl1 ?_ fun _ _ _ => ?_
    | refine Keeps.foldl2 ?_ fun _ _ _ => ?_ | refine Keeps.foldl22 ?_ fun _ _ _ => ?_ | apply Keeps.forLanes
    | apply Keeps.getD | split | (intro _ _ _) | (intro _ _) | fail_if_no_progress refine Keeps.upd ?_
    | (dsimp +zetaDelta only; split)

theorem ringStop_keeps (s : State) (x1 : Nat) : Keeps 0x2000 s (@State.ringStop s x1) := by
  delta State.ringStop; repeat' with_reducible first
    | extract_lets | assumption | exact Keeps.refl | refine (setRing_keeps ..).step ?_ rfl | apply Keeps.ite
    | refine Keeps.foldl ?_ fun _ _ _ => ?_ | refine Keeps.foldl1 ?_ fun _ _ _ => ?_
    | refine Keeps.foldl2 ?_ fun _ _ _ => ?_ | refine Keeps.foldl22 ?_ fun _ _ _ => ?_ | apply Keeps.forLanes
    | apply Keeps.getD | split | (intro _ _ _) | (intro _ _) | fail_if_no_progress refine Keeps.upd ?_
    | (dsimp +zetaDelta only; split)

theorem dmaStop_keeps (s : State) (x1 : Nat) (x2 : Fld) : Keeps 0x102004 s (@State.dmaStop s x1 x2) := by
  delta State.dmaStop; repeat' with_reducible first
    | extract_lets | assumption | exact Keeps.refl | refine (ringErr_keeps ..).step ?_ rfl
    | refine (ringStop_keeps ..).step ?_ rfl | apply Keeps.ite | refine Keeps.foldl ?_ fun _ _ _ => ?_
    | refine Keeps.foldl1 ?_ fun _ _ _ => ?_ | refine Keeps.foldl2 ?_ fun _ _ _ => ?_
    | refine Keeps.foldl22 ?_ fun _ _ _ => ?_ | apply Keeps.forLanes | apply Keeps.getD | split | (intro _ _ _)
    | (intro _ _) | fail_if_no_progress refine Keeps.upd ?_ | (dsimp +zetaDelta only; split)

theorem entryLost_keeps (s : State) (x1 : Nat) : Keeps 0x102004 s (@State.entryLost s x1) := by
  delta State.entryLost; repeat' with_reducible first
    | extract_lets | assumption | exact Keeps.refl | refine (dmaStop_keeps ..).step ?_ rfl
    | refine (counted_keeps ..).step ?_ rfl | refine (setRing_keeps ..).step ?_ rfl | apply Keeps.ite
    | refine Keeps.foldl ?_ fun _ _ _ => ?_ | refine Keeps.foldl1 ?_ fun _ _ _ => ?_
    | refine Keeps.foldl2 ?_ fun _ _ _ => ?_ | refine Keeps.foldl22 ?_ fun _ _ _ => ?_ | apply Keeps.forLanes
    | apply Keeps.getD | split | (intro _ _ _) | (intro _ _) | fail_if_no_progress refine Keeps.upd ?_
    | (dsimp +zetaDelta only; split)

theorem entryFail_keeps (s : State) (x1 : Nat) : Keeps 0xb07004 s (@State.entryFail s x1) := by
  delta State.entryFail; repeat' with_reducible first
    | extract_lets | assumption | exact Keeps.refl | refine (dropSlot_keeps ..).step ?_ rfl
    | refine (entryLost_keeps ..).step ?_ rfl | refine (hput_keeps ..).step ?_ rfl
    | refine (capFail_keeps ..).step ?_ rfl | refine (dmaStop_keeps ..).step ?_ rfl
    | refine (wroteBack_keeps ..).step ?_ rfl | refine (sphRx_keeps ..).step ?_ rfl | apply Keeps.ite
    | refine Keeps.foldl ?_ fun _ _ _ => ?_ | refine Keeps.foldl1 ?_ fun _ _ _ => ?_
    | refine Keeps.foldl2 ?_ fun _ _ _ => ?_ | refine Keeps.foldl22 ?_ fun _ _ _ => ?_ | apply Keeps.forLanes
    | apply Keeps.getD | split | (intro _ _ _) | (intro _ _) | fail_if_no_progress refine Keeps.upd ?_
    | (dsimp +zetaDelta only; split)

theorem rejects_keeps (s : State) (x1 : Nat) (x2 : Ring) (x3 : Nat) : Keeps 0x2000 s (@State.rejects s x1 x2 x3) := by
  delta State.rejects; repeat' with_reducible first
    | extract_lets | assumption | exact Keeps.refl | refine (setRing_keeps ..).step ?_ rfl | apply Keeps.ite
    | refine Keeps.foldl ?_ fun _ _ _ => ?_ | refine Keeps.foldl1 ?_ fun _ _ _ => ?_
    | refine Keeps.foldl2 ?_ fun _ _ _ => ?_ | refine Keeps.foldl22 ?_ fun _ _ _ => ?_ | apply Keeps.forLanes
    | apply Keeps.getD | split | (intro _ _ _) | (intro _ _) | fail_if_no_progress refine Keeps.upd ?_
    | (dsimp +zetaDelta only; split)

theorem readStep_keeps (s : State) (x1 : Nat) (p) (hp : @State.readStep s x1 = some p) : Keeps 0x2000 s p := by
  delta State.readStep at hp; (repeat' (first | extract_lets at hp | split at hp)) <;> (first | cases hp | skip)
  all_goals repeat' with_reducible first
    | extract_lets | assumption | exact Keeps.refl | refine (setRing_keeps ..).step ?_ rfl
    | refine (rejects_keeps ..).step ?_ rfl | apply Keeps.ite | refine Keeps.foldl ?_ fun _ _ _ => ?_
    | refine Keeps.foldl1 ?_ fun _ _ _ => ?_ | refine Keeps.foldl2 ?_ fun _ _ _ => ?_
    | refine Keeps.foldl22 ?_ fun _ _ _ => ?_ | apply Keeps.forLanes | apply Keeps.getD | split | (intro _ _ _)
    | (intro _ _) | fail_if_no_progress refine Keeps.upd ?_ | (dsimp +zetaDelta only; split)

theorem readAhead_keeps (g n : Nat) (s : State) : Keeps 0x2000 s (State.readAhead g n s) := by
  induction n generalizing s with
  | zero => exact Keeps.refl
  | succ n ih =>
    unfold State.readAhead
    split
    · rename_i h
      exact (ih _).step ((readStep_keeps (hp := h) ..).step Keeps.refl rfl) rfl
    · exact Keeps.refl

theorem readAll_keeps (s : State) : Keeps 0x2000 s (@State.readAll s) := by
  delta State.readAll; repeat' with_reducible first
    | extract_lets | assumption | exact Keeps.refl | refine (readAhead_keeps ..).step ?_ rfl | apply Keeps.ite
    | refine Keeps.foldl ?_ fun _ _ _ => ?_ | refine Keeps.foldl1 ?_ fun _ _ _ => ?_
    | refine Keeps.foldl2 ?_ fun _ _ _ => ?_ | refine Keeps.foldl22 ?_ fun _ _ _ => ?_ | apply Keeps.forLanes
    | apply Keeps.getD | split | (intro _ _ _) | (intro _ _) | fail_if_no_progress refine Keeps.upd ?_
    | (dsimp +zetaDelta only; split)

theorem rejectReq_keeps (s : State) (x1 : Nat) (x2 : Nat) (x3 : Desc) (x4 : Nat) (x5 : Bool) : Keeps 0x102004 s
    (@State.rejectReq s x1 x2 x3 x4 x5) := by
  delta State.rejectReq; repeat' with_reducible first
    | extract_lets | assumption | exact Keeps.refl | refine (slot_keeps _ _ _ _ _ _ _ rfl).step ?_ rfl
    | refine (slot_keeps _ _ _ _ _ _ (_, _) (by assumption)).step ?_ rfl | refine (rejectSlot_keeps ..).step ?_ rfl
    | refine (descErr_keeps ..).step ?_ rfl | apply Keeps.ite | refine Keeps.foldl ?_ fun _ _ _ => ?_
    | refine Keeps.foldl1 ?_ fun _ _ _ => ?_ | refine Keeps.foldl2 ?_ fun _ _ _ => ?_
    | refine Keeps.foldl22 ?_ fun _ _ _ => ?_ | apply Keeps.forLanes | apply Keeps.getD | split | (intro _ _ _)
    | (intro _ _) | fail_if_no_progress refine Keeps.upd ?_ | (dsimp +zetaDelta only; split)

theorem runOver_keeps (s : State) (x1 : Nat) : Keeps 0x2000 s (@State.runOver s x1) := by
  delta State.runOver; repeat' with_reducible first
    | extract_lets | assumption | exact Keeps.refl | refine (setRing_keeps ..).step ?_ rfl | apply Keeps.ite
    | refine Keeps.foldl ?_ fun _ _ _ => ?_ | refine Keeps.foldl1 ?_ fun _ _ _ => ?_
    | refine Keeps.foldl2 ?_ fun _ _ _ => ?_ | refine Keeps.foldl22 ?_ fun _ _ _ => ?_ | apply Keeps.forLanes
    | apply Keeps.getD | split | (intro _ _ _) | (intro _ _) | fail_if_no_progress refine Keeps.upd ?_
    | (dsimp +zetaDelta only; split)

theorem single_keeps (s : State) (x1 : Nat) (x2 : Desc) : Keeps 0x102204 s (@State.single s x1 x2) := by
  delta State.single; repeat' with_reducible first
    | extract_lets | assumption | exact Keeps.refl | refine (descErr_keeps ..).step ?_ rfl
    | refine (rejectDesc_keeps ..).step ?_ rfl | refine (deliver_keeps ..).step ?_ rfl | apply Keeps.ite
    | refine Keeps.foldl ?_ fun _ _ _ => ?_ | refine Keeps.foldl1 ?_ fun _ _ _ => ?_
    | refine Keeps.foldl2 ?_ fun _ _ _ => ?_ | refine Keeps.foldl22 ?_ fun _ _ _ => ?_ | apply Keeps.forLanes
    | apply Keeps.getD | split | (intro _ _ _) | (intro _ _) | fail_if_no_progress refine Keeps.upd ?_
    | (dsimp +zetaDelta only; split)

theorem rejectNext_keeps (s : State) (x1 : Nat) : Keeps 0x102204 s (@State.rejectNext s x1) := by
  delta State.rejectNext; repeat' with_reducible first
    | extract_lets | assumption | exact Keeps.refl | refine (rejectReq_keeps ..).step ?_ rfl
    | refine (setRing_keeps ..).step ?_ rfl | refine (runOver_keeps ..).step ?_ rfl
    | refine (single_keeps ..).step ?_ rfl | refine (ciOn_keeps ..).step ?_ rfl | apply Keeps.ite
    | refine Keeps.foldl ?_ fun _ _ _ => ?_ | refine Keeps.foldl1 ?_ fun _ _ _ => ?_
    | refine Keeps.foldl2 ?_ fun _ _ _ => ?_ | refine Keeps.foldl22 ?_ fun _ _ _ => ?_ | apply Keeps.forLanes
    | apply Keeps.getD | split | (intro _ _ _) | (intro _ _) | fail_if_no_progress refine Keeps.upd ?_
    | (dsimp +zetaDelta only; split)

theorem rejectRun_keeps (g n : Nat) (s : State) : Keeps 0x102204 s (State.rejectRun g n s) := by
  induction n generalizing s with
  | zero => exact Keeps.refl
  | succ n ih => exact Keeps.ite Keeps.refl ((ih _).step ((rejectNext_keeps ..).step Keeps.refl rfl) rfl)

theorem resetHif_keeps (s : State) : Keeps 0x7204 s (@State.resetHif s) := by
  delta State.resetHif; repeat' with_reducible first
    | extract_lets | assumption | exact Keeps.refl | apply Keeps.ite | refine Keeps.foldl ?_ fun _ _ _ => ?_
    | refine Keeps.foldl1 ?_ fun _ _ _ => ?_ | refine Keeps.foldl2 ?_ fun _ _ _ => ?_
    | refine Keeps.foldl22 ?_ fun _ _ _ => ?_ | apply Keeps.forLanes | apply Keeps.getD | split | (intro _ _ _)
    | (intro _ _) | fail_if_no_progress refine Keeps.upd ?_ | (dsimp +zetaDelta only; split)

theorem ringDoorbell_keeps (s : State) (x1 : Nat) (x2 : Word) : Keeps 0x902004 s (@State.ringDoorbell s x1 x2) := by
  delta State.ringDoorbell; repeat' with_reducible first
    | extract_lets | assumption | exact Keeps.refl | refine (ringErr_keeps ..).step ?_ rfl
    | refine (setRing_keeps ..).step ?_ rfl | refine (icEdge_keeps ..).step ?_ rfl
    | refine (signal_keeps ..).step ?_ rfl | refine (overflow_keeps ..).step ?_ rfl | apply Keeps.ite
    | refine Keeps.foldl ?_ fun _ _ _ => ?_ | refine Keeps.foldl1 ?_ fun _ _ _ => ?_
    | refine Keeps.foldl2 ?_ fun _ _ _ => ?_ | refine Keeps.foldl22 ?_ fun _ _ _ => ?_ | apply Keeps.forLanes
    | apply Keeps.getD | split | (intro _ _ _) | (intro _ _) | fail_if_no_progress refine Keeps.upd ?_
    | (dsimp +zetaDelta only; split)

theorem ringStart_keeps (s : State) (x1 : Nat) : Keeps 0x2004 s (@State.ringStart s x1) := by
  delta State.ringStart; repeat' with_reducible first
    | extract_lets | assumption | exact Keeps.refl | refine (setF_keeps ..).step ?_ rfl
    | refine (setRing_keeps ..).step ?_ rfl | apply Keeps.ite | refine Keeps.foldl ?_ fun _ _ _ => ?_
    | refine Keeps.foldl1 ?_ fun _ _ _ => ?_ | refine Keeps.foldl2 ?_ fun _ _ _ => ?_
    | refine Keeps.foldl22 ?_ fun _ _ _ => ?_ | apply Keeps.forLanes | apply Keeps.getD | split | (intro _ _ _)
    | (intro _ _) | fail_if_no_progress refine Keeps.upd ?_ | (dsimp +zetaDelta only; split)

theorem serve_keeps (s : State) (x1 : Nat) : Keeps 0x102204 s (@State.serve s x1) := by
  delta State.serve; repeat' with_reducible first
    | extract_lets | assumption | exact Keeps.refl | refine (rejectRun_keeps ..).step ?_ rfl
    | refine (single_keeps ..).step ?_ rfl | refine (ciOn_keeps ..).step ?_ rfl
    | refine (runOver_keeps ..).step ?_ rfl | refine (deliver_keeps ..).step ?_ rfl
    | refine (alone_keeps ..).step ?_ rfl | apply Keeps.ite | refine Keeps.foldl ?_ fun _ _ _ => ?_
    | refine Keeps.foldl1 ?_ fun _ _ _ => ?_ | refine Keeps.foldl2 ?_ fun _ _ _ => ?_
    | refine Keeps.foldl22 ?_ fun _ _ _ => ?_ | apply Keeps.forLanes | apply Keeps.getD | split | (intro _ _ _)
    | (intro _ _) | fail_if_no_progress refine Keeps.upd ?_ | (dsimp +zetaDelta only; split)

theorem signalAny_keeps (s : State) (x1 : Nat) : Keeps 0x6004 s (@State.signalAny s x1) := by
  delta State.signalAny; repeat' with_reducible first
    | extract_lets | assumption | exact Keeps.refl | refine (capSignal_keeps ..).step ?_ rfl
    | refine (signal_keeps ..).step ?_ rfl | apply Keeps.ite | refine Keeps.foldl ?_ fun _ _ _ => ?_
    | refine Keeps.foldl1 ?_ fun _ _ _ => ?_ | refine Keeps.foldl2 ?_ fun _ _ _ => ?_
    | refine Keeps.foldl22 ?_ fun _ _ _ => ?_ | apply Keeps.forLanes | apply Keeps.getD | split | (intro _ _ _)
    | (intro _ _) | fail_if_no_progress refine Keeps.upd ?_ | (dsimp +zetaDelta only; split)

theorem txDone_keeps (s : State) (x1 : Nat) (x2 : Nat) (x3 : Nat) : Keeps 0x2000 s (@State.txDone s x1 x2 x3) := by
  delta State.txDone; repeat' with_reducible first
    | extract_lets | assumption | exact Keeps.refl | apply Keeps.ite | refine Keeps.foldl ?_ fun _ _ _ => ?_
    | refine Keeps.foldl1 ?_ fun _ _ _ => ?_ | refine Keeps.foldl2 ?_ fun _ _ _ => ?_
    | refine Keeps.foldl22 ?_ fun _ _ _ => ?_ | apply Keeps.forLanes | apply Keeps.getD | split | (intro _ _ _)
    | (intro _ _) | fail_if_no_progress refine Keeps.upd ?_ | (dsimp +zetaDelta only; split)

theorem doCoalesceTimer_keeps (x0 : Nat) (s : State) : Keeps 0x6004 s (@doCoalesceTimer x0 s) := by
  delta doCoalesceTimer; repeat' with_reducible first
    | extract_lets | assumption | exact Keeps.refl | refine (capSignal_keeps ..).step ?_ rfl
    | refine (setCap_keeps ..).step ?_ rfl | refine (signal_keeps ..).step ?_ rfl
    | refine (setRing_keeps ..).step ?_ rfl | apply Keeps.ite | refine Keeps.foldl ?_ fun _ _ _ => ?_
    | refine Keeps.foldl1 ?_ fun _ _ _ => ?_ | refine Keeps.foldl2 ?_ fun _ _ _ => ?_
    | refine Keeps.foldl22 ?_ fun _ _ _ => ?_ | apply Keeps.forLanes | apply Keeps.getD | split | (intro _ _ _)
    | (intro _ _) | fail_if_no_progress refine Keeps.upd ?_ | (dsimp +zetaDelta only; split)

theorem doCompletionWrite_keeps (s : State) : Keeps 0x802004 s (@doCompletionWrite s) := by
  delta doCompletionWrite; repeat' with_reducible first
    | extract_lets | assumption | exact Keeps.refl | refine (putComp_keeps ..).step ?_ rfl | apply Keeps.ite
    | refine Keeps.foldl ?_ fun _ _ _ => ?_ | refine Keeps.foldl1 ?_ fun _ _ _ => ?_
    | refine Keeps.foldl2 ?_ fun _ _ _ => ?_ | refine Keeps.foldl22 ?_ fun _ _ _ => ?_ | apply Keeps.forLanes
    | apply Keeps.getD | split | (intro _ _ _) | (intro _ _) | fail_if_no_progress refine Keeps.upd ?_
    | (dsimp +zetaDelta only; split)

theorem doDmaReadFail_keeps (x0 : Nat) (x1 : Bool) (s : State) : Keeps 0x102204 s (@doDmaReadFail x0 x1 s) := by
  delta doDmaReadFail; repeat' with_reducible first
    | extract_lets | assumption | exact Keeps.refl | refine (dmaStop_keeps ..).step ?_ rfl
    | refine (mgmtFault_keeps ..).step ?_ rfl | refine (bufErr_keeps ..).step ?_ rfl
    | refine (txDone_keeps ..).step ?_ rfl | refine (setRing_keeps ..).step ?_ rfl | apply Keeps.ite
    | refine Keeps.foldl ?_ fun _ _ _ => ?_ | refine Keeps.foldl1 ?_ fun _ _ _ => ?_
    | refine Keeps.foldl2 ?_ fun _ _ _ => ?_ | refine Keeps.foldl22 ?_ fun _ _ _ => ?_ | apply Keeps.forLanes
    | apply Keeps.getD | split | (intro _ _ _) | (intro _ _) | fail_if_no_progress refine Keeps.upd ?_
    | (dsimp +zetaDelta only; split)

theorem doDmaWriteFail_keeps (x0 : Nat) (x1 : Bool) (s : State) : Keeps 0xb07204 s (@doDmaWriteFail x0 x1 s) := by
  delta doDmaWriteFail; repeat' with_reducible first
    | extract_lets | assumption | exact Keeps.refl | refine (bufFail_keeps ..).step ?_ rfl
    | refine (entryFail_keeps ..).step ?_ rfl | apply Keeps.ite | refine Keeps.foldl ?_ fun _ _ _ => ?_
    | refine Keeps.foldl1 ?_ fun _ _ _ => ?_ | refine Keeps.foldl2 ?_ fun _ _ _ => ?_
    | refine Keeps.foldl22 ?_ fun _ _ _ => ?_ | apply Keeps.forLanes | apply Keeps.getD | split | (intro _ _ _)
    | (intro _ _) | fail_if_no_progress refine Keeps.upd ?_ | (dsimp +zetaDelta only; split)

theorem doDoorbell_keeps (x0 : Nat) (x1 : Bool) (x2 : Word) (x3 : List HostStore) (s : State) : Keeps 0x902004 s
    (@doDoorbell x0 x1 x2 x3 s) := by
  delta doDoorbell; repeat' with_reducible first
    | extract_lets | assumption | exact Keeps.refl | refine (hput_keeps ..).step ?_ rfl
    | refine (ringDoorbell_keeps ..).step ?_ rfl | apply Keeps.ite | refine Keeps.foldl ?_ fun _ _ _ => ?_
    | refine Keeps.foldl1 ?_ fun _ _ _ => ?_ | refine Keeps.foldl2 ?_ fun _ _ _ => ?_
    | refine Keeps.foldl22 ?_ fun _ _ _ => ?_ | apply Keeps.forLanes | apply Keeps.getD | split | (intro _ _ _)
    | (intro _ _) | fail_if_no_progress refine Keeps.upd ?_ | (dsimp +zetaDelta only; split)

theorem doIntakeTurn_keeps (s : State) : Keeps 0x102204 s (@doIntakeTurn s) := by
  delta doIntakeTurn; repeat' with_reducible first
    | extract_lets | assumption | exact Keeps.refl | refine (readAll_keeps ..).step ?_ rfl
    | refine (serve_keeps ..).step ?_ rfl | apply Keeps.ite | refine Keeps.foldl ?_ fun _ _ _ => ?_
    | refine Keeps.foldl1 ?_ fun _ _ _ => ?_ | refine Keeps.foldl2 ?_ fun _ _ _ => ?_
    | refine Keeps.foldl22 ?_ fun _ _ _ => ?_ | apply Keeps.forLanes | apply Keeps.getD | split | (intro _ _ _)
    | (intro _ _) | fail_if_no_progress refine Keeps.upd ?_ | (dsimp +zetaDelta only; split)

theorem doRingCfg_keeps (x0 : Nat) (x1 : Word) (s : State) : Keeps 0x102004 s (@doRingCfg x0 x1 s) := by
  delta doRingCfg; repeat' with_reducible first
    | extract_lets | assumption | exact Keeps.refl | refine (hifErr_keeps ..).step ?_ rfl
    | refine (setF_keeps ..).step ?_ rfl | refine (setRing_keeps ..).step ?_ rfl
    | refine (ringStart_keeps ..).step ?_ rfl | refine (ringStop_keeps ..).step ?_ rfl | apply Keeps.ite
    | refine Keeps.foldl ?_ fun _ _ _ => ?_ | refine Keeps.foldl1 ?_ fun _ _ _ => ?_
    | refine Keeps.foldl2 ?_ fun _ _ _ => ?_ | refine Keeps.foldl22 ?_ fun _ _ _ => ?_ | apply Keeps.forLanes
    | apply Keeps.getD | split | (intro _ _ _) | (intro _ _) | fail_if_no_progress refine Keeps.upd ?_
    | (dsimp +zetaDelta only; split)

theorem doRingCtrl_keeps (x0 : Nat) (x1 : Word) (s : State) : Keeps 0x102004 s (@doRingCtrl x0 x1 s) := by
  delta doRingCtrl; repeat' with_reducible first
    | extract_lets | assumption | exact Keeps.refl | refine (doRingCfg_keeps ..).step ?_ rfl | apply Keeps.ite
    | refine Keeps.foldl ?_ fun _ _ _ => ?_ | refine Keeps.foldl1 ?_ fun _ _ _ => ?_
    | refine Keeps.foldl2 ?_ fun _ _ _ => ?_ | refine Keeps.foldl22 ?_ fun _ _ _ => ?_ | apply Keeps.forLanes
    | apply Keeps.getD | split | (intro _ _ _) | (intro _ _) | fail_if_no_progress refine Keeps.upd ?_
    | (dsimp +zetaDelta only; split)

theorem doRingStopDone_keeps (x0 : Nat) (s : State) : Keeps 0x106004 s (@doRingStopDone x0 s) := by
  delta doRingStopDone; repeat' with_reducible first
    | extract_lets | assumption | exact Keeps.refl | refine (capStopDone_keeps ..).step ?_ rfl
    | refine (setRing_keeps ..).step ?_ rfl | refine (ringStart_keeps ..).step ?_ rfl | apply Keeps.ite
    | refine Keeps.foldl ?_ fun _ _ _ => ?_ | refine Keeps.foldl1 ?_ fun _ _ _ => ?_
    | refine Keeps.foldl2 ?_ fun _ _ _ => ?_ | refine Keeps.foldl22 ?_ fun _ _ _ => ?_ | apply Keeps.forLanes
    | apply Keeps.getD | split | (intro _ _ _) | (intro _ _) | fail_if_no_progress refine Keeps.upd ?_
    | (dsimp +zetaDelta only; split)

theorem doSphRxWrite_keeps (x0 : Nat) (x1 : Nat) (s : State) : Keeps 0xb03084 s (@doSphRxWrite x0 x1 s) := by
  delta doSphRxWrite; repeat' with_reducible first
    | extract_lets | assumption | exact Keeps.refl | refine (sphRx_keeps ..).step ?_ rfl
    | refine (passTo_keeps ..).step ?_ rfl | apply Keeps.ite | refine Keeps.foldl ?_ fun _ _ _ => ?_
    | refine Keeps.foldl1 ?_ fun _ _ _ => ?_ | refine Keeps.foldl2 ?_ fun _ _ _ => ?_
    | refine Keeps.foldl22 ?_ fun _ _ _ => ?_ | apply Keeps.forLanes | apply Keeps.getD | split | (intro _ _ _)
    | (intro _ _) | fail_if_no_progress refine Keeps.upd ?_ | (dsimp +zetaDelta only; split)

theorem doSphTxFetch_keeps (x0 : Nat) (x1 : Nat) (s : State) : Keeps 0x3084 s (@doSphTxFetch x0 x1 s) := by
  delta doSphTxFetch; repeat' with_reducible first
    | extract_lets | assumption | exact Keeps.refl | refine (passTo_keeps ..).step ?_ rfl
    | refine (setRing_keeps ..).step ?_ rfl | refine (txDone_keeps ..).step ?_ rfl
    | refine (spCount_keeps ..).step ?_ rfl | refine (ingress_keeps ..).step ?_ rfl
    | refine (polRest_keeps ..).step ?_ rfl | refine (sgfPrune_keeps ..).step ?_ rfl
    | refine (hostDrop_keeps ..).step ?_ rfl | apply Keeps.ite | refine Keeps.foldl ?_ fun _ _ _ => ?_
    | refine Keeps.foldl1 ?_ fun _ _ _ => ?_ | refine Keeps.foldl2 ?_ fun _ _ _ => ?_
    | refine Keeps.foldl22 ?_ fun _ _ _ => ?_ | apply Keeps.forLanes | apply Keeps.getD | split | (intro _ _ _)
    | (intro _ _) | fail_if_no_progress refine Keeps.upd ?_ | (dsimp +zetaDelta only; split)

theorem doSphTxWriteback_keeps (s : State) : Keeps 0x802004 s (@doSphTxWriteback s) := by
  delta doSphTxWriteback; repeat' with_reducible first
    | extract_lets | assumption | exact Keeps.refl | refine (writeBack_keeps ..).step ?_ rfl | apply Keeps.ite
    | refine Keeps.foldl ?_ fun _ _ _ => ?_ | refine Keeps.foldl1 ?_ fun _ _ _ => ?_
    | refine Keeps.foldl2 ?_ fun _ _ _ => ?_ | refine Keeps.foldl22 ?_ fun _ _ _ => ?_ | apply Keeps.forLanes
    | apply Keeps.getD | split | (intro _ _ _) | (intro _ _) | fail_if_no_progress refine Keeps.upd ?_
    | (dsimp +zetaDelta only; split)

theorem setPrl_keeps (s : State) (x1 : Prl) : Keeps 0x100000 s (@State.setPrl s x1) := by
  delta State.setPrl; repeat' with_reducible first
    | extract_lets | assumption | exact Keeps.refl | apply Keeps.ite | refine Keeps.foldl ?_ fun _ _ _ => ?_
    | refine Keeps.foldl1 ?_ fun _ _ _ => ?_ | refine Keeps.foldl2 ?_ fun _ _ _ => ?_
    | refine Keeps.foldl22 ?_ fun _ _ _ => ?_ | apply Keeps.forLanes | apply Keeps.getD | split | (intro _ _ _)
    | (intro _ _) | fail_if_no_progress refine Keeps.upd ?_ | (dsimp +zetaDelta only; split)

theorem bootSlot_keeps (s : State) (x1 : Bool) (x2 : Nat) : Keeps 0x100000 s (@State.bootSlot s x1 x2) := by
  delta State.bootSlot; repeat' with_reducible first
    | extract_lets | assumption | exact Keeps.refl | refine (setPrl_keeps ..).step ?_ rfl | apply Keeps.ite
    | refine Keeps.foldl ?_ fun _ _ _ => ?_ | refine Keeps.foldl1 ?_ fun _ _ _ => ?_
    | refine Keeps.foldl2 ?_ fun _ _ _ => ?_ | refine Keeps.foldl22 ?_ fun _ _ _ => ?_ | apply Keeps.forLanes
    | apply Keeps.getD | split | (intro _ _ _) | (intro _ _) | fail_if_no_progress refine Keeps.upd ?_
    | (dsimp +zetaDelta only; split)

theorem bootRom_keeps (s : State) (p) (hp : @State.bootRom s = p) : Keeps 0x108000 s p.1 := by
  delta State.bootRom at hp; subst hp
  repeat' with_reducible first
    | extract_lets | assumption | exact Keeps.refl | refine (cause_keeps ..).step ?_ rfl
    | refine (bootSlot_keeps ..).step ?_ rfl | refine (setPrl_keeps ..).step ?_ rfl | apply Keeps.ite
    | refine Keeps.foldl ?_ fun _ _ _ => ?_ | refine Keeps.foldl1 ?_ fun _ _ _ => ?_
    | refine Keeps.foldl2 ?_ fun _ _ _ => ?_ | refine Keeps.foldl22 ?_ fun _ _ _ => ?_ | apply Keeps.forLanes
    | apply Keeps.getD | split | (intro _ _ _) | (intro _ _) | fail_if_no_progress refine Keeps.upd ?_
    | (dsimp +zetaDelta only; split)

theorem flashPut_keeps (s : State) (x1 : Nat) (x2 : Nat) (x3 : List Byte) : Keeps 0x100000 s (@State.flashPut s x1 x2
    x3) := by
  delta State.flashPut; repeat' with_reducible first
    | extract_lets | assumption | exact Keeps.refl | refine (setPrl_keeps ..).step ?_ rfl | apply Keeps.ite
    | refine Keeps.foldl ?_ fun _ _ _ => ?_ | refine Keeps.foldl1 ?_ fun _ _ _ => ?_
    | refine Keeps.foldl2 ?_ fun _ _ _ => ?_ | refine Keeps.foldl22 ?_ fun _ _ _ => ?_ | apply Keeps.forLanes
    | apply Keeps.getD | split | (intro _ _ _) | (intro _ _) | fail_if_no_progress refine Keeps.upd ?_
    | (dsimp +zetaDelta only; split)

theorem mgmtEvent_keeps (s : State) (x1 : Nat) (x2 : List Word) : Keeps 0x102000 s (@State.mgmtEvent s x1 x2) := by
  delta State.mgmtEvent; repeat' with_reducible first
    | extract_lets | assumption | exact Keeps.refl | refine (post_keeps ..).step ?_ rfl | apply Keeps.ite
    | refine Keeps.foldl ?_ fun _ _ _ => ?_ | refine Keeps.foldl1 ?_ fun _ _ _ => ?_
    | refine Keeps.foldl2 ?_ fun _ _ _ => ?_ | refine Keeps.foldl22 ?_ fun _ _ _ => ?_ | apply Keeps.forLanes
    | apply Keeps.getD | split | (intro _ _ _) | (intro _ _) | fail_if_no_progress refine Keeps.upd ?_
    | (dsimp +zetaDelta only; split)

theorem fwCommit_keeps (s : State) (x1 : Bool) (x2 : Bool) (p) (hp : @State.fwCommit s x1 x2 = p) : Keeps 0x102000 s
    p.2 := by
  delta State.fwCommit at hp; subst hp
  repeat' with_reducible first
    | extract_lets | assumption | exact Keeps.refl | refine (setPrl_keeps ..).step ?_ rfl
    | refine (flashPut_keeps ..).step ?_ rfl | refine (mgmtEvent_keeps ..).step ?_ rfl | apply Keeps.ite
    | refine Keeps.foldl ?_ fun _ _ _ => ?_ | refine Keeps.foldl1 ?_ fun _ _ _ => ?_
    | refine Keeps.foldl2 ?_ fun _ _ _ => ?_ | refine Keeps.foldl22 ?_ fun _ _ _ => ?_ | apply Keeps.forLanes
    | apply Keeps.getD | split | (intro _ _ _) | (intro _ _) | fail_if_no_progress refine Keeps.upd ?_
    | (dsimp +zetaDelta only; split)

theorem setIc_keeps (s : State) (x1 : Ic) : Keeps 0x100000 s (@State.setIc s x1) := by
  delta State.setIc; repeat' with_reducible first
    | extract_lets | assumption | exact Keeps.refl | refine (setPrl_keeps ..).step ?_ rfl | apply Keeps.ite
    | refine Keeps.foldl ?_ fun _ _ _ => ?_ | refine Keeps.foldl1 ?_ fun _ _ _ => ?_
    | refine Keeps.foldl2 ?_ fun _ _ _ => ?_ | refine Keeps.foldl22 ?_ fun _ _ _ => ?_ | apply Keeps.forLanes
    | apply Keeps.getD | split | (intro _ _ _) | (intro _ _) | fail_if_no_progress refine Keeps.upd ?_
    | (dsimp +zetaDelta only; split)

theorem icFetch_keeps (s : State) (x1 : Nat) : Keeps 0x100000 s (@State.icFetch s x1) := by
  delta State.icFetch; repeat' with_reducible first
    | extract_lets | assumption | exact Keeps.refl | refine (setIc_keeps ..).step ?_ rfl | apply Keeps.ite
    | refine Keeps.foldl ?_ fun _ _ _ => ?_ | refine Keeps.foldl1 ?_ fun _ _ _ => ?_
    | refine Keeps.foldl2 ?_ fun _ _ _ => ?_ | refine Keeps.foldl22 ?_ fun _ _ _ => ?_ | apply Keeps.forLanes
    | apply Keeps.getD | split | (intro _ _ _) | (intro _ _) | fail_if_no_progress refine Keeps.upd ?_
    | (dsimp +zetaDelta only; split)

theorem icSave_keeps (s : State) : Keeps 0x4 s (@State.icSave s) := by
  delta State.icSave; repeat' with_reducible first
    | extract_lets | assumption | exact Keeps.refl | refine (setReg_keeps ..).step ?_ rfl | apply Keeps.ite
    | refine Keeps.foldl ?_ fun _ _ _ => ?_ | refine Keeps.foldl1 ?_ fun _ _ _ => ?_
    | refine Keeps.foldl2 ?_ fun _ _ _ => ?_ | refine Keeps.foldl22 ?_ fun _ _ _ => ?_ | apply Keeps.forLanes
    | apply Keeps.getD | split | (intro _ _ _) | (intro _ _) | fail_if_no_progress refine Keeps.upd ?_
    | (dsimp +zetaDelta only; split)

theorem logWrite_keeps (s : State) (x1 : LogEnt) : Keeps 0x100000 s (@State.logWrite s x1) := by
  delta State.logWrite; repeat' with_reducible first
    | extract_lets | assumption | exact Keeps.refl | refine (flashPut_keeps ..).step ?_ rfl
    | refine (setPrl_keeps ..).step ?_ rfl | apply Keeps.ite | refine Keeps.foldl ?_ fun _ _ _ => ?_
    | refine Keeps.foldl1 ?_ fun _ _ _ => ?_ | refine Keeps.foldl2 ?_ fun _ _ _ => ?_
    | refine Keeps.foldl22 ?_ fun _ _ _ => ?_ | apply Keeps.forLanes | apply Keeps.getD | split | (intro _ _ _)
    | (intro _ _) | fail_if_no_progress refine Keeps.upd ?_ | (dsimp +zetaDelta only; split)

theorem stageFree_keeps (s : State) (x1 : Bool) : Keeps 0x102000 s (@State.stageFree s x1) := by
  delta State.stageFree; repeat' with_reducible first
    | extract_lets | assumption | exact Keeps.refl | refine (mgmtEvent_keeps ..).step ?_ rfl
    | refine (setPrl_keeps ..).step ?_ rfl | apply Keeps.ite | refine Keeps.foldl ?_ fun _ _ _ => ?_
    | refine Keeps.foldl1 ?_ fun _ _ _ => ?_ | refine Keeps.foldl2 ?_ fun _ _ _ => ?_
    | refine Keeps.foldl22 ?_ fun _ _ _ => ?_ | apply Keeps.forLanes | apply Keeps.getD | split | (intro _ _ _)
    | (intro _ _) | fail_if_no_progress refine Keeps.upd ?_ | (dsimp +zetaDelta only; split)

theorem stageWrite_keeps (s : State) (x1 : Nat) (x2 : Nat) (x3 : List Byte) : Keeps 0x100000 s (@State.stageWrite s
    x1 x2 x3) := by
  delta State.stageWrite; repeat' with_reducible first
    | extract_lets | assumption | exact Keeps.refl | refine (flashPut_keeps ..).step ?_ rfl
    | refine (setPrl_keeps ..).step ?_ rfl | apply Keeps.ite | refine Keeps.foldl ?_ fun _ _ _ => ?_
    | refine Keeps.foldl1 ?_ fun _ _ _ => ?_ | refine Keeps.foldl2 ?_ fun _ _ _ => ?_
    | refine Keeps.foldl22 ?_ fun _ _ _ => ?_ | apply Keeps.forLanes | apply Keeps.getD | split | (intro _ _ _)
    | (intro _ _) | fail_if_no_progress refine Keeps.upd ?_ | (dsimp +zetaDelta only; split)

theorem takeMgmt_keeps (s : State) (x1 : Nat) (p) (hp : @State.takeMgmt s x1 = some p) : Keeps 0x200 s p.2.2 := by
  delta State.takeMgmt at hp; (repeat' (first | extract_lets at hp | split at hp)) <;> (first | cases hp | skip)
  all_goals repeat' with_reducible first
    | extract_lets | assumption | exact Keeps.refl | apply Keeps.ite | refine Keeps.foldl ?_ fun _ _ _ => ?_
    | refine Keeps.foldl1 ?_ fun _ _ _ => ?_ | refine Keeps.foldl2 ?_ fun _ _ _ => ?_
    | refine Keeps.foldl22 ?_ fun _ _ _ => ?_ | apply Keeps.forLanes | apply Keeps.getD | split | (intro _ _ _)
    | (intro _ _) | fail_if_no_progress refine Keeps.upd ?_ | (dsimp +zetaDelta only; split)

theorem doFwCommit_keeps (x0 : Bool) (s : State) : Keeps 0x102200 s (@doFwCommit x0 s) := by
  delta doFwCommit; repeat' with_reducible first
    | extract_lets | assumption | exact Keeps.refl | refine (takeMgmt_keeps _ _ (_, _, _) (by assumption)).step ?_ rfl
    | refine (takeMgmt_keeps _ _ _ (by assumption)).step ?_ rfl | refine (fwCommit_keeps _ _ _ _ rfl).step ?_ rfl
    | refine (fwCommit_keeps _ _ _ (_, _) (by assumption)).step ?_ rfl | refine (fillComp_keeps ..).step ?_ rfl
    | apply Keeps.ite | refine Keeps.foldl ?_ fun _ _ _ => ?_ | refine Keeps.foldl1 ?_ fun _ _ _ => ?_
    | refine Keeps.foldl2 ?_ fun _ _ _ => ?_ | refine Keeps.foldl22 ?_ fun _ _ _ => ?_ | apply Keeps.forLanes
    | apply Keeps.getD | split | (intro _ _ _) | (intro _ _) | fail_if_no_progress refine Keeps.upd ?_
    | (dsimp +zetaDelta only; split)

theorem doFwLoad_keeps (s : State) : Keeps 0x102200 s (@doFwLoad s) := by
  delta doFwLoad; repeat' with_reducible first
    | extract_lets | assumption | exact Keeps.refl | refine (takeMgmt_keeps _ _ (_, _, _) (by assumption)).step ?_ rfl
    | refine (takeMgmt_keeps _ _ _ (by assumption)).step ?_ rfl | refine (fillComp_keeps ..).step ?_ rfl
    | refine (stageWrite_keeps ..).step ?_ rfl | apply Keeps.ite | refine Keeps.foldl ?_ fun _ _ _ => ?_
    | refine Keeps.foldl1 ?_ fun _ _ _ => ?_ | refine Keeps.foldl2 ?_ fun _ _ _ => ?_
    | refine Keeps.foldl22 ?_ fun _ _ _ => ?_ | apply Keeps.forLanes | apply Keeps.getD | split | (intro _ _ _)
    | (intro _ _) | fail_if_no_progress refine Keeps.upd ?_ | (dsimp +zetaDelta only; split)

theorem doHeartbeat_keeps (s : State) : Keeps 0x100000 s (@doHeartbeat s) := by
  delta doHeartbeat; repeat' with_reducible first
    | extract_lets | assumption | exact Keeps.refl | refine (setPrl_keeps ..).step ?_ rfl | apply Keeps.ite
    | refine Keeps.foldl ?_ fun _ _ _ => ?_ | refine Keeps.foldl1 ?_ fun _ _ _ => ?_
    | refine Keeps.foldl2 ?_ fun _ _ _ => ?_ | refine Keeps.foldl22 ?_ fun _ _ _ => ?_ | apply Keeps.forLanes
    | apply Keeps.getD | split | (intro _ _ _) | (intro _ _) | fail_if_no_progress refine Keeps.upd ?_
    | (dsimp +zetaDelta only; split)

theorem doHeartbeatLate_keeps (s : State) : Keeps 0x100000 s (@doHeartbeatLate s) := by
  delta doHeartbeatLate; repeat' with_reducible first
    | extract_lets | assumption | exact Keeps.refl | refine (setPrl_keeps ..).step ?_ rfl | apply Keeps.ite
    | refine Keeps.foldl ?_ fun _ _ _ => ?_ | refine Keeps.foldl1 ?_ fun _ _ _ => ?_
    | refine Keeps.foldl2 ?_ fun _ _ _ => ?_ | refine Keeps.foldl22 ?_ fun _ _ _ => ?_ | apply Keeps.forLanes
    | apply Keeps.getD | split | (intro _ _ _) | (intro _ _) | fail_if_no_progress refine Keeps.upd ?_
    | (dsimp +zetaDelta only; split)

theorem doIcGate_keeps (x0 : Bool) (s : State) : Keeps 0x4 s (@doIcGate x0 s) := by
  delta doIcGate; repeat' with_reducible first
    | extract_lets | assumption | exact Keeps.refl | refine (setF_keeps ..).step ?_ rfl | apply Keeps.ite
    | refine Keeps.foldl ?_ fun _ _ _ => ?_ | refine Keeps.foldl1 ?_ fun _ _ _ => ?_
    | refine Keeps.foldl2 ?_ fun _ _ _ => ?_ | refine Keeps.foldl22 ?_ fun _ _ _ => ?_ | apply Keeps.forLanes
    | apply Keeps.getD | split | (intro _ _ _) | (intro _ _) | fail_if_no_progress refine Keeps.upd ?_
    | (dsimp +zetaDelta only; split)

theorem doInterruptEntry_keeps (s : State) : Keeps 0x100004 s (@doInterruptEntry s) := by
  delta doInterruptEntry; repeat' with_reducible first
    | extract_lets | assumption | exact Keeps.refl | refine (icFetch_keeps ..).step ?_ rfl
    | refine (setF_keeps ..).step ?_ rfl | apply Keeps.ite | refine Keeps.foldl ?_ fun _ _ _ => ?_
    | refine Keeps.foldl1 ?_ fun _ _ _ => ?_ | refine Keeps.foldl2 ?_ fun _ _ _ => ?_
    | refine Keeps.foldl22 ?_ fun _ _ _ => ?_ | apply Keeps.forLanes | apply Keeps.getD | split | (intro _ _ _)
    | (intro _ _) | fail_if_no_progress refine Keeps.upd ?_ | (dsimp +zetaDelta only; split)

theorem doInterruptReturn_keeps (s : State) : Keeps 0x100000 s (@doInterruptReturn s) := by
  delta doInterruptReturn; repeat' with_reducible first
    | extract_lets | assumption | exact Keeps.refl | refine (setIc_keeps ..).step ?_ rfl
    | refine (icFetch_keeps ..).step ?_ rfl | apply Keeps.ite | refine Keeps.foldl ?_ fun _ _ _ => ?_
    | refine Keeps.foldl1 ?_ fun _ _ _ => ?_ | refine Keeps.foldl2 ?_ fun _ _ _ => ?_
    | refine Keeps.foldl22 ?_ fun _ _ _ => ?_ | apply Keeps.forLanes | apply Keeps.getD | split | (intro _ _ _)
    | (intro _ _) | fail_if_no_progress refine Keeps.upd ?_ | (dsimp +zetaDelta only; split)

theorem doLockstepHalt_keeps (s : State) : Keeps 0x100000 s (@doLockstepHalt s) := by
  delta doLockstepHalt; repeat' with_reducible first
    | extract_lets | assumption | exact Keeps.refl | refine (setPrl_keeps ..).step ?_ rfl | apply Keeps.ite
    | refine Keeps.foldl ?_ fun _ _ _ => ?_ | refine Keeps.foldl1 ?_ fun _ _ _ => ?_
    | refine Keeps.foldl2 ?_ fun _ _ _ => ?_ | refine Keeps.foldl22 ?_ fun _ _ _ => ?_ | apply Keeps.forLanes
    | apply Keeps.getD | split | (intro _ _ _) | (intro _ _) | fail_if_no_progress refine Keeps.upd ?_
    | (dsimp +zetaDelta only; split)

theorem doLogAppend_keeps (s : State) : Keeps 0x102000 s (@doLogAppend s) := by
  delta doLogAppend; repeat' with_reducible first
    | extract_lets | assumption | exact Keeps.refl | refine (logWrite_keeps ..).step ?_ rfl
    | refine (postRaw_keeps ..).step ?_ rfl | refine (setPrl_keeps ..).step ?_ rfl | apply Keeps.ite
    | refine Keeps.foldl ?_ fun _ _ _ => ?_ | refine Keeps.foldl1 ?_ fun _ _ _ => ?_
    | refine Keeps.foldl2 ?_ fun _ _ _ => ?_ | refine Keeps.foldl22 ?_ fun _ _ _ => ?_ | apply Keeps.forLanes
    | apply Keeps.getD | split | (intro _ _ _) | (intro _ _) | fail_if_no_progress refine Keeps.upd ?_
    | (dsimp +zetaDelta only; split)

theorem doLogRead_keeps (s : State) : Keeps 0x802200 s (@doLogRead s) := by
  delta doLogRead; repeat' with_reducible first
    | extract_lets | assumption | exact Keeps.refl | refine (takeMgmt_keeps _ _ (_, _, _) (by assumption)).step ?_ rfl
    | refine (takeMgmt_keeps _ _ _ (by assumption)).step ?_ rfl | refine (fillComp_keeps ..).step ?_ rfl
    | refine (hput_keeps ..).step ?_ rfl | apply Keeps.ite | refine Keeps.foldl ?_ fun _ _ _ => ?_
    | refine Keeps.foldl1 ?_ fun _ _ _ => ?_ | refine Keeps.foldl2 ?_ fun _ _ _ => ?_
    | refine Keeps.foldl22 ?_ fun _ _ _ => ?_ | apply Keeps.forLanes | apply Keeps.getD | split | (intro _ _ _)
    | (intro _ _) | fail_if_no_progress refine Keeps.upd ?_ | (dsimp +zetaDelta only; split)

theorem doPraleSleep_keeps (s : State) : Keeps 0x100004 s (@doPraleSleep s) := by
  delta doPraleSleep; repeat' with_reducible first
    | extract_lets | assumption | exact Keeps.refl | refine (setPrl_keeps ..).step ?_ rfl
    | refine (icSave_keeps ..).step ?_ rfl | apply Keeps.ite | refine Keeps.foldl ?_ fun _ _ _ => ?_
    | refine Keeps.foldl1 ?_ fun _ _ _ => ?_ | refine Keeps.foldl2 ?_ fun _ _ _ => ?_
    | refine Keeps.foldl22 ?_ fun _ _ _ => ?_ | apply Keeps.forLanes | apply Keeps.getD | split | (intro _ _ _)
    | (intro _ _) | fail_if_no_progress refine Keeps.upd ?_ | (dsimp +zetaDelta only; split)

theorem doPraleWake_keeps (x0 : Nat) (s : State) : Keeps 0x100004 s (@doPraleWake x0 s) := by
  delta doPraleWake; repeat' with_reducible first
    | extract_lets | assumption | exact Keeps.refl | refine (icEdge_keeps ..).step ?_ rfl | apply Keeps.ite
    | refine Keeps.foldl ?_ fun _ _ _ => ?_ | refine Keeps.foldl1 ?_ fun _ _ _ => ?_
    | refine Keeps.foldl2 ?_ fun _ _ _ => ?_ | refine Keeps.foldl22 ?_ fun _ _ _ => ?_ | apply Keeps.forLanes
    | apply Keeps.getD | split | (intro _ _ _) | (intro _ _) | fail_if_no_progress refine Keeps.upd ?_
    | (dsimp +zetaDelta only; split)

theorem doPrlStage_keeps (x0 : Bool) (x1 : Word) (x2 : Bool) (s : State) : Keeps 0x102000 s (@doPrlStage x0 x1 x2 s)
    := by
  delta doPrlStage; repeat' with_reducible first
    | extract_lets | assumption | exact Keeps.refl | refine (fwCommit_keeps _ _ _ _ rfl).step ?_ rfl
    | refine (fwCommit_keeps _ _ _ (_, _) (by assumption)).step ?_ rfl | refine (stageFree_keeps ..).step ?_ rfl
    | apply Keeps.ite | refine Keeps.foldl ?_ fun _ _ _ => ?_ | refine Keeps.foldl1 ?_ fun _ _ _ => ?_
    | refine Keeps.foldl2 ?_ fun _ _ _ => ?_ | refine Keeps.foldl22 ?_ fun _ _ _ => ?_ | apply Keeps.forLanes
    | apply Keeps.getD | split | (intro _ _ _) | (intro _ _) | fail_if_no_progress refine Keeps.upd ?_
    | (dsimp +zetaDelta only; split)

theorem doSlotConfirm_keeps (s : State) : Keeps 0x102000 s (@doSlotConfirm s) := by
  delta doSlotConfirm; repeat' with_reducible first
    | extract_lets | assumption | exact Keeps.refl | refine (mgmtEvent_keeps ..).step ?_ rfl
    | refine (setPrl_keeps ..).step ?_ rfl | apply Keeps.ite | refine Keeps.foldl ?_ fun _ _ _ => ?_
    | refine Keeps.foldl1 ?_ fun _ _ _ => ?_ | refine Keeps.foldl2 ?_ fun _ _ _ => ?_
    | refine Keeps.foldl22 ?_ fun _ _ _ => ?_ | apply Keeps.forLanes | apply Keeps.getD | split | (intro _ _ _)
    | (intro _ _) | fail_if_no_progress refine Keeps.upd ?_ | (dsimp +zetaDelta only; split)

theorem doStagingTimeout_keeps (s : State) : Keeps 0x102000 s (@doStagingTimeout s) := by
  delta doStagingTimeout; repeat' with_reducible first
    | extract_lets | assumption | exact Keeps.refl | refine (stageFree_keeps ..).step ?_ rfl | apply Keeps.ite
    | refine Keeps.foldl ?_ fun _ _ _ => ?_ | refine Keeps.foldl1 ?_ fun _ _ _ => ?_
    | refine Keeps.foldl2 ?_ fun _ _ _ => ?_ | refine Keeps.foldl22 ?_ fun _ _ _ => ?_ | apply Keeps.forLanes
    | apply Keeps.getD | split | (intro _ _ _) | (intro _ _) | fail_if_no_progress refine Keeps.upd ?_
    | (dsimp +zetaDelta only; split)

theorem calBegin_keeps (s : State) (x1 : Nat) : Keeps 0x80000 s (@State.calBegin s x1) := by
  delta State.calBegin; repeat' with_reducible first
    | extract_lets | assumption | exact Keeps.refl | refine (setCal_keeps ..).step ?_ rfl | apply Keeps.ite
    | refine Keeps.foldl ?_ fun _ _ _ => ?_ | refine Keeps.foldl1 ?_ fun _ _ _ => ?_
    | refine Keeps.foldl2 ?_ fun _ _ _ => ?_ | refine Keeps.foldl22 ?_ fun _ _ _ => ?_ | apply Keeps.forLanes
    | apply Keeps.getD | split | (intro _ _ _) | (intro _ _) | fail_if_no_progress refine Keeps.upd ?_
    | (dsimp +zetaDelta only; split)

theorem calStage_keeps (s : State) (x1 : Nat) (x2 : List Rt) (x3 : List LaneSet) : Keeps 0x386334 s (@State.calStage
    s x1 x2 x3) := by
  delta State.calStage; repeat' with_reducible first
    | extract_lets | assumption | exact Keeps.refl | refine (calPat_keeps _ _ _ (by assumption)).step ?_ rfl
    | refine (setCal_keeps ..).step ?_ rfl | refine (calStop_keeps ..).step ?_ rfl
    | refine (schedEvent_keeps ..).step ?_ rfl | refine (raise_keeps ..).step ?_ rfl | apply Keeps.ite
    | refine Keeps.foldl ?_ fun _ _ _ => ?_ | refine Keeps.foldl1 ?_ fun _ _ _ => ?_
    | refine Keeps.foldl2 ?_ fun _ _ _ => ?_ | refine Keeps.foldl22 ?_ fun _ _ _ => ?_ | apply Keeps.forLanes
    | apply Keeps.getD | split | (intro _ _ _) | (intro _ _) | fail_if_no_progress refine Keeps.upd ?_
    | (dsimp +zetaDelta only; split)

theorem calLayer_keeps (s : State) (x1 : Nat) (x2 : Bool) : Keeps 0x386334 s (@State.calLayer s x1 x2) := by
  delta State.calLayer; repeat' with_reducible first
    | extract_lets | assumption | exact Keeps.refl | refine (calKeep_keeps ..).step ?_ rfl
    | refine (calStage_keeps ..).step ?_ rfl | apply Keeps.ite | refine Keeps.foldl ?_ fun _ _ _ => ?_
    | refine Keeps.foldl1 ?_ fun _ _ _ => ?_ | refine Keeps.foldl2 ?_ fun _ _ _ => ?_
    | refine Keeps.foldl22 ?_ fun _ _ _ => ?_ | apply Keeps.forLanes | apply Keeps.getD | split | (intro _ _ _)
    | (intro _ _) | fail_if_no_progress refine Keeps.upd ?_ | (dsimp +zetaDelta only; split)

theorem calLetGo_keeps (s : State) (x1 : Nat) : Keeps 0x386334 s (@State.calLetGo s x1) := by
  delta State.calLetGo; repeat' with_reducible first
    | extract_lets | assumption | exact Keeps.refl | refine (calStage_keeps ..).step ?_ rfl | apply Keeps.ite
    | refine Keeps.foldl ?_ fun _ _ _ => ?_ | refine Keeps.foldl1 ?_ fun _ _ _ => ?_
    | refine Keeps.foldl2 ?_ fun _ _ _ => ?_ | refine Keeps.foldl22 ?_ fun _ _ _ => ?_ | apply Keeps.forLanes
    | apply Keeps.getD | split | (intro _ _ _) | (intro _ _) | fail_if_no_progress refine Keeps.upd ?_
    | (dsimp +zetaDelta only; split)

theorem spStore_keeps (s : State) (x1 : CalUndo) : Keeps 0x80000 s (@State.spStore s x1) := by
  delta State.spStore; repeat' with_reducible first
    | extract_lets | assumption | exact Keeps.refl | refine (setCal_keeps ..).step ?_ rfl | apply Keeps.ite
    | refine Keeps.foldl ?_ fun _ _ _ => ?_ | refine Keeps.foldl1 ?_ fun _ _ _ => ?_
    | refine Keeps.foldl2 ?_ fun _ _ _ => ?_ | refine Keeps.foldl22 ?_ fun _ _ _ => ?_ | apply Keeps.forLanes
    | apply Keeps.getD | split | (intro _ _ _) | (intro _ _) | fail_if_no_progress refine Keeps.upd ?_
    | (dsimp +zetaDelta only; split)

theorem calRestore_keeps (s : State) : Keeps 0x80014 s (@State.calRestore s) := by
  delta State.calRestore; repeat' with_reducible first
    | extract_lets | assumption | exact Keeps.refl | refine (spStore_keeps ..).step ?_ rfl
    | refine (spBack_keeps ..).step ?_ rfl | refine (setCal_keeps ..).step ?_ rfl | apply Keeps.ite
    | refine Keeps.foldl ?_ fun _ _ _ => ?_ | refine Keeps.foldl1 ?_ fun _ _ _ => ?_
    | refine Keeps.foldl2 ?_ fun _ _ _ => ?_ | refine Keeps.foldl22 ?_ fun _ _ _ => ?_ | apply Keeps.forLanes
    | apply Keeps.getD | split | (intro _ _ _) | (intro _ _) | fail_if_no_progress refine Keeps.upd ?_
    | (dsimp +zetaDelta only; split)

theorem cover_keeps (s : State) : Keeps 0x4 s (@State.cover s) := by
  delta State.cover; repeat' with_reducible first
    | extract_lets | assumption | exact Keeps.refl | refine (setReg_keeps ..).step ?_ rfl | apply Keeps.ite
    | refine Keeps.foldl ?_ fun _ _ _ => ?_ | refine Keeps.foldl1 ?_ fun _ _ _ => ?_
    | refine Keeps.foldl2 ?_ fun _ _ _ => ?_ | refine Keeps.foldl22 ?_ fun _ _ _ => ?_ | apply Keeps.forLanes
    | apply Keeps.getD | split | (intro _ _ _) | (intro _ _) | fail_if_no_progress refine Keeps.upd ?_
    | (dsimp +zetaDelta only; split)

theorem setConst_keeps (s : State) (x1 : Nat) (x2 : Nat) (x3 : Bool) (x4 : Nat) (x5 : CalConst) : Keeps 0x80000 s
    (@State.setConst s x1 x2 x3 x4 x5) := by
  delta State.setConst; repeat' with_reducible first
    | extract_lets | assumption | exact Keeps.refl | refine (setCal_keeps ..).step ?_ rfl | apply Keeps.ite
    | refine Keeps.foldl ?_ fun _ _ _ => ?_ | refine Keeps.foldl1 ?_ fun _ _ _ => ?_
    | refine Keeps.foldl2 ?_ fun _ _ _ => ?_ | refine Keeps.foldl22 ?_ fun _ _ _ => ?_ | apply Keeps.forLanes
    | apply Keeps.getD | split | (intro _ _ _) | (intro _ _) | fail_if_no_progress refine Keeps.upd ?_
    | (dsimp +zetaDelta only; split)

theorem elecApply_keeps (x0 : List CalMeas) (s : State) : Keeps 0x280000 s (@State.elecApply x0 s) := by
  delta State.elecApply; repeat' with_reducible first
    | extract_lets | assumption | exact Keeps.refl | refine (takeFree_keeps _ _ rfl).step ?_ rfl
    | refine (takeFree_keeps _ (_, _) (by assumption)).step ?_ rfl | refine (setConst_keeps ..).step ?_ rfl
    | apply Keeps.ite | refine Keeps.foldl ?_ fun _ _ _ => ?_ | refine Keeps.foldl1 ?_ fun _ _ _ => ?_
    | refine Keeps.foldl2 ?_ fun _ _ _ => ?_ | refine Keeps.foldl22 ?_ fun _ _ _ => ?_ | apply Keeps.forLanes
    | apply Keeps.getD | split | (intro _ _ _) | (intro _ _) | fail_if_no_progress refine Keeps.upd ?_
    | (dsimp +zetaDelta only; split)

theorem elecHold_keeps (s : State) : Keeps 0x184234 s (@State.elecHold s) := by
  delta State.elecHold; repeat' with_reducible first
    | extract_lets | assumption | exact Keeps.refl | refine (calTake_keeps ..).step ?_ rfl
    | refine (setCal_keeps ..).step ?_ rfl | refine (refSelect_keeps ..).step ?_ rfl | apply Keeps.ite
    | refine Keeps.foldl ?_ fun _ _ _ => ?_ | refine Keeps.foldl1 ?_ fun _ _ _ => ?_
    | refine Keeps.foldl2 ?_ fun _ _ _ => ?_ | refine Keeps.foldl22 ?_ fun _ _ _ => ?_ | apply Keeps.forLanes
    | apply Keeps.getD | split | (intro _ _ _) | (intro _ _) | fail_if_no_progress refine Keeps.upd ?_
    | (dsimp +zetaDelta only; split)

theorem scaleCh_keeps (x0 : Int) (x1 : Nat) (s : State) (x3 : Nat × Nat) : Keeps 0x80000 s (@State.scaleCh x0 x1 s
    x3) := by
  delta State.scaleCh; repeat' with_reducible first
    | extract_lets | assumption | exact Keeps.refl | refine (setCal_keeps ..).step ?_ rfl | apply Keeps.ite
    | refine Keeps.foldl ?_ fun _ _ _ => ?_ | refine Keeps.foldl1 ?_ fun _ _ _ => ?_
    | refine Keeps.foldl2 ?_ fun _ _ _ => ?_ | refine Keeps.foldl22 ?_ fun _ _ _ => ?_ | apply Keeps.forLanes
    | apply Keeps.getD | split | (intro _ _ _) | (intro _ _) | fail_if_no_progress refine Keeps.upd ?_
    | (dsimp +zetaDelta only; split)

theorem meanApply_keeps (s : State) (x1 : Int) (x2 : Nat) : Keeps 0x80000 s (@State.meanApply s x1 x2) := by
  delta State.meanApply; repeat' with_reducible first
    | extract_lets | assumption | exact Keeps.refl | refine (scaleCh_keeps ..).step ?_ rfl | apply Keeps.ite
    | refine Keeps.foldl ?_ fun _ _ _ => ?_ | refine Keeps.foldl1 ?_ fun _ _ _ => ?_
    | refine Keeps.foldl2 ?_ fun _ _ _ => ?_ | refine Keeps.foldl22 ?_ fun _ _ _ => ?_ | apply Keeps.forLanes
    | apply Keeps.getD | split | (intro _ _ _) | (intro _ _) | fail_if_no_progress refine Keeps.upd ?_
    | (dsimp +zetaDelta only; split)

theorem optApply_keeps (s : State) (x1 : List (Nat × Int)) : Keeps 0x80000 s (@State.optApply s x1) := by
  delta State.optApply; repeat' with_reducible first
    | extract_lets | assumption | exact Keeps.refl | refine (scaleCh_keeps ..).step ?_ rfl
    | refine (setCal_keeps ..).step ?_ rfl | apply Keeps.ite | refine Keeps.foldl ?_ fun _ _ _ => ?_
    | refine Keeps.foldl1 ?_ fun _ _ _ => ?_ | refine Keeps.foldl2 ?_ fun _ _ _ => ?_
    | refine Keeps.foldl22 ?_ fun _ _ _ => ?_ | apply Keeps.forLanes | apply Keeps.getD | split | (intro _ _ _)
    | (intro _ _) | fail_if_no_progress refine Keeps.upd ?_ | (dsimp +zetaDelta only; split)

theorem optHold_keeps (s : State) : Keeps 0x184214 s (@State.optHold s) := by
  delta State.optHold; repeat' with_reducible first
    | extract_lets | assumption | exact Keeps.refl | refine (calTake_keeps ..).step ?_ rfl
    | refine (setCal_keeps ..).step ?_ rfl | refine (setF_keeps ..).step ?_ rfl
    | refine (cufHoldLane_keeps ..).step ?_ rfl | apply Keeps.ite | refine Keeps.foldl ?_ fun _ _ _ => ?_
    | refine Keeps.foldl1 ?_ fun _ _ _ => ?_ | refine Keeps.foldl2 ?_ fun _ _ _ => ?_
    | refine Keeps.foldl22 ?_ fun _ _ _ => ?_ | apply Keeps.forLanes | apply Keeps.getD | split | (intro _ _ _)
    | (intro _ _) | fail_if_no_progress refine Keeps.upd ?_ | (dsimp +zetaDelta only; split)

theorem optStep_keeps (s : State) : Keeps 0x184214 s (@State.optStep s) := by
  delta State.optStep; repeat' with_reducible first
    | extract_lets | assumption | exact Keeps.refl | refine (calTake_keeps ..).step ?_ rfl | apply Keeps.ite
    | refine Keeps.foldl ?_ fun _ _ _ => ?_ | refine Keeps.foldl1 ?_ fun _ _ _ => ?_
    | refine Keeps.foldl2 ?_ fun _ _ _ => ?_ | refine Keeps.foldl22 ?_ fun _ _ _ => ?_ | apply Keeps.forLanes
    | apply Keeps.getD | split | (intro _ _ _) | (intro _ _) | fail_if_no_progress refine Keeps.upd ?_
    | (dsimp +zetaDelta only; split)

theorem spShift_keeps (s : State) (x1 : Nat) (x2 : Bool) (x3 : Bool) (x4 : Int) : Keeps 0x4 s (@State.spShift s x1 x2
    x3 x4) := by
  delta State.spShift; repeat' with_reducible first
    | extract_lets | assumption | exact Keeps.refl | refine (setF_keeps ..).step ?_ rfl
    | refine (setSp_keeps ..).step ?_ rfl | apply Keeps.ite | refine Keeps.foldl ?_ fun _ _ _ => ?_
    | refine Keeps.foldl1 ?_ fun _ _ _ => ?_ | refine Keeps.foldl2 ?_ fun _ _ _ => ?_
    | refine Keeps.foldl22 ?_ fun _ _ _ => ?_ | apply Keeps.forLanes | apply Keeps.getD | split | (intro _ _ _)
    | (intro _ _) | fail_if_no_progress refine Keeps.upd ?_ | (dsimp +zetaDelta only; split)

theorem stepOn_keeps {m : Nat} {s₀ s : State} (h : Keeps m s₀ s) (hm : 0x80000 ||| m = m) {go : State → State}
    (k : ∀ u, Keeps m s₀ u → Keeps m s₀ (go u)) : Keeps m s₀ (s.stepOn go) := by
  delta State.stepOn
  have hc : ∀ {u : State} (x : Cal), Keeps m s₀ u → Keeps m s₀ (u.setCal x) := fun x hu =>
    ((setCal_keeps _ x).step (m := 0x80000) Keeps.refl rfl).step hu hm
  exact Keeps.ite (k _ (hc _ h)) (hc _ (hc _ h))

theorem trimLane_keeps (x0 : Nat) (s : State) (x2 : Nat) : Keeps 0x80000 s (@State.trimLane x0 s x2) := by
  delta State.trimLane; repeat' with_reducible first
    | extract_lets | assumption | exact Keeps.refl | refine (setCal_keeps ..).step ?_ rfl | apply Keeps.ite
    | refine Keeps.foldl ?_ fun _ _ _ => ?_ | refine Keeps.foldl1 ?_ fun _ _ _ => ?_
    | refine Keeps.foldl2 ?_ fun _ _ _ => ?_ | refine Keeps.foldl22 ?_ fun _ _ _ => ?_ | apply Keeps.forLanes
    | apply Keeps.getD | split | (intro _ _ _) | (intro _ _) | fail_if_no_progress refine Keeps.upd ?_
    | (dsimp +zetaDelta only; split)

theorem trimTurns_keeps (s : State) : Keeps 0x80000 s (@State.trimTurns s) := by
  delta State.trimTurns; repeat' with_reducible first
    | extract_lets | assumption | exact Keeps.refl | refine (trimLane_keeps ..).step ?_ rfl | apply Keeps.ite
    | refine Keeps.foldl ?_ fun _ _ _ => ?_ | refine Keeps.foldl1 ?_ fun _ _ _ => ?_
    | refine Keeps.foldl2 ?_ fun _ _ _ => ?_ | refine Keeps.foldl22 ?_ fun _ _ _ => ?_ | apply Keeps.forLanes
    | apply Keeps.getD | split | (intro _ _ _) | (intro _ _) | fail_if_no_progress refine Keeps.upd ?_
    | (dsimp +zetaDelta only; split)

theorem trimShift_keeps (s : State) : Keeps 0x4 s (@State.trimShift s) := by
  delta State.trimShift; repeat' with_reducible first
    | extract_lets | assumption | exact Keeps.refl | refine (spShift_keeps ..).step ?_ rfl | apply Keeps.ite
    | refine Keeps.foldl ?_ fun _ _ _ => ?_ | refine Keeps.foldl1 ?_ fun _ _ _ => ?_
    | refine Keeps.foldl2 ?_ fun _ _ _ => ?_ | refine Keeps.foldl22 ?_ fun _ _ _ => ?_ | apply Keeps.forLanes
    | apply Keeps.getD | split | (intro _ _ _) | (intro _ _) | fail_if_no_progress refine Keeps.upd ?_
    | (dsimp +zetaDelta only; split)

theorem trimNext_keeps (s : State) : Keeps 0x386334 s (@State.trimNext s) := by
  delta State.trimNext; repeat' with_reducible first
    | extract_lets | assumption | exact Keeps.refl | refine (setCal_keeps ..).step ?_ rfl
    | refine (setF_keeps ..).step ?_ rfl | refine (trimTurns_keeps ..).step ?_ rfl
    | refine (trimShift_keeps ..).step ?_ rfl | refine (calKeep_keeps ..).step ?_ rfl
    | refine (setReg_keeps ..).step ?_ rfl | refine (calLayer_keeps ..).step ?_ rfl
    | refine (calTake_keeps ..).step ?_ rfl | apply Keeps.ite | refine Keeps.foldl ?_ fun _ _ _ => ?_
    | refine Keeps.foldl1 ?_ fun _ _ _ => ?_ | refine Keeps.foldl2 ?_ fun _ _ _ => ?_
    | refine Keeps.foldl22 ?_ fun _ _ _ => ?_ | apply Keeps.forLanes | apply Keeps.getD | split | (intro _ _ _)
    | (intro _ _) | fail_if_no_progress refine Keeps.upd ?_ | (dsimp +zetaDelta only; split)

theorem doCalCmd_keeps (x0 : Nat) (x1 : Nat) (s : State) : Keeps 0x3863b4 s (@doCalCmd x0 x1 s) := by
  delta doCalCmd; repeat' with_reducible first
    | extract_lets | assumption | exact Keeps.refl | refine (passTo_keeps ..).step ?_ rfl
    | refine (calAbort_keeps ..).step ?_ rfl | refine (raise_keeps ..).step ?_ rfl
    | refine (setCal_keeps ..).step ?_ rfl | refine (calLayer_keeps ..).step ?_ rfl
    | refine (calBegin_keeps ..).step ?_ rfl | refine (elecHold_keeps ..).step ?_ rfl
    | refine (optHold_keeps ..).step ?_ rfl | refine (calRestore_keeps ..).step ?_ rfl | apply Keeps.ite
    | refine Keeps.foldl ?_ fun _ _ _ => ?_ | refine Keeps.foldl1 ?_ fun _ _ _ => ?_
    | refine Keeps.foldl2 ?_ fun _ _ _ => ?_ | refine Keeps.foldl22 ?_ fun _ _ _ => ?_ | apply Keeps.forLanes
    | apply Keeps.getD | split | (intro _ _ _) | (intro _ _) | fail_if_no_progress refine Keeps.upd ?_
    | (dsimp +zetaDelta only; split)

theorem doCalRunDone_keeps (x0 : Nat) (s : State) : Keeps 0x80084 s (@doCalRunDone x0 s) := by
  delta doCalRunDone; repeat' with_reducible first
    | extract_lets | assumption | exact Keeps.refl | refine (passTo_keeps ..).step ?_ rfl
    | refine (setCal_keeps ..).step ?_ rfl | refine (setReg_keeps ..).step ?_ rfl
    | refine (spStore_keeps ..).step ?_ rfl | refine (cover_keeps ..).step ?_ rfl | apply Keeps.ite
    | refine Keeps.foldl ?_ fun _ _ _ => ?_ | refine Keeps.foldl1 ?_ fun _ _ _ => ?_
    | refine Keeps.foldl2 ?_ fun _ _ _ => ?_ | refine Keeps.foldl22 ?_ fun _ _ _ => ?_ | apply Keeps.forLanes
    | apply Keeps.getD | split | (intro _ _ _) | (intro _ _) | fail_if_no_progress refine Keeps.upd ?_
    | (dsimp +zetaDelta only; split)

theorem doCalStep_keeps (x0 : List CalMeas) (x1 : List PortMeas) (x2 : Nat) (s : State) : Keeps 0x3843b4 s
    (@doCalStep x0 x1 x2 s) := by
  delta doCalStep; repeat' with_reducible first
    | extract_lets | assumption | exact Keeps.refl | refine (passTo_keeps ..).step ?_ rfl
    | refine (calStop_keeps ..).step ?_ rfl | refine stepOn_keeps ?_ rfl ?_ | refine (calUnhold_keeps ..).step ?_ rfl
    | refine (elecApply_keeps ..).step ?_ rfl | refine (elecHold_keeps ..).step ?_ rfl
    | refine (optApply_keeps ..).step ?_ rfl | refine (setCal_keeps ..).step ?_ rfl
    | refine (optStep_keeps ..).step ?_ rfl | refine (meanApply_keeps ..).step ?_ rfl | apply Keeps.ite
    | refine Keeps.foldl ?_ fun _ _ _ => ?_ | refine Keeps.foldl1 ?_ fun _ _ _ => ?_
    | refine Keeps.foldl2 ?_ fun _ _ _ => ?_ | refine Keeps.foldl22 ?_ fun _ _ _ => ?_ | apply Keeps.forLanes
    | apply Keeps.getD | split | (intro _ _ _) | (intro _ _) | fail_if_no_progress refine Keeps.upd ?_
    | (dsimp +zetaDelta only; split)

theorem doProbeLayerDwell_keeps (x0 : Nat) (s : State) : Keeps 0x3863b4 s (@doProbeLayerDwell x0 s) := by
  delta doProbeLayerDwell; repeat' with_reducible first
    | extract_lets | assumption | exact Keeps.refl | refine (passTo_keeps ..).step ?_ rfl
    | refine (setCal_keeps ..).step ?_ rfl | refine (calLayer_keeps ..).step ?_ rfl
    | refine (calLetGo_keeps ..).step ?_ rfl | refine (trimNext_keeps ..).step ?_ rfl | apply Keeps.ite
    | refine Keeps.foldl ?_ fun _ _ _ => ?_ | refine Keeps.foldl1 ?_ fun _ _ _ => ?_
    | refine Keeps.foldl2 ?_ fun _ _ _ => ?_ | refine Keeps.foldl22 ?_ fun _ _ _ => ?_ | apply Keeps.forLanes
    | apply Keeps.getD | split | (intro _ _ _) | (intro _ _) | fail_if_no_progress refine Keeps.upd ?_
    | (dsimp +zetaDelta only; split)

theorem doTrimPulse_keeps (x0 : Nat) (x1 : Nat) (s : State) : Keeps 0x3863b4 s (@doTrimPulse x0 x1 s) := by
  delta doTrimPulse; repeat' with_reducible first
    | extract_lets | assumption | exact Keeps.refl | refine (passTo_keeps ..).step ?_ rfl
    | refine (setCal_keeps ..).step ?_ rfl | refine (setF_keeps ..).step ?_ rfl
    | refine (calLayer_keeps ..).step ?_ rfl | apply Keeps.ite | refine Keeps.foldl ?_ fun _ _ _ => ?_
    | refine Keeps.foldl1 ?_ fun _ _ _ => ?_ | refine Keeps.foldl2 ?_ fun _ _ _ => ?_
    | refine Keeps.foldl22 ?_ fun _ _ _ => ?_ | apply Keeps.forLanes | apply Keeps.getD | split | (intro _ _ _)
    | (intro _ _) | fail_if_no_progress refine Keeps.upd ?_ | (dsimp +zetaDelta only; split)

theorem setFlt_keeps (s : State) (x1 : Flt) : Keeps 0x8000 s (@State.setFlt s x1) := by
  delta State.setFlt; repeat' with_reducible first
    | extract_lets | assumption | exact Keeps.refl | apply Keeps.ite | refine Keeps.foldl ?_ fun _ _ _ => ?_
    | refine Keeps.foldl1 ?_ fun _ _ _ => ?_ | refine Keeps.foldl2 ?_ fun _ _ _ => ?_
    | refine Keeps.foldl22 ?_ fun _ _ _ => ?_ | apply Keeps.forLanes | apply Keeps.getD | split | (intro _ _ _)
    | (intro _ _) | fail_if_no_progress refine Keeps.upd ?_ | (dsimp +zetaDelta only; split)

theorem escStop_keeps (s : State) (x1 : Nat) : Keeps 0x8000 s (@State.escStop s x1) := by
  delta State.escStop; repeat' with_reducible first
    | extract_lets | assumption | exact Keeps.refl | refine (setFlt_keeps ..).step ?_ rfl | apply Keeps.ite
    | refine Keeps.foldl ?_ fun _ _ _ => ?_ | refine Keeps.foldl1 ?_ fun _ _ _ => ?_
    | refine Keeps.foldl2 ?_ fun _ _ _ => ?_ | refine Keeps.foldl22 ?_ fun _ _ _ => ?_ | apply Keeps.forLanes
    | apply Keeps.getD | split | (intro _ _ _) | (intro _ _) | fail_if_no_progress refine Keeps.upd ?_
    | (dsimp +zetaDelta only; split)

theorem setSrc_keeps (s : State) (x1 : Reg) (x2 : Nat) (x3 : Bool) : Keeps 0x4 s (@State.setSrc s x1 x2 x3) := by
  delta State.setSrc; repeat' with_reducible first
    | extract_lets | assumption | exact Keeps.refl | refine (setReg_keeps ..).step ?_ rfl | apply Keeps.ite
    | refine Keeps.foldl ?_ fun _ _ _ => ?_ | refine Keeps.foldl1 ?_ fun _ _ _ => ?_
    | refine Keeps.foldl2 ?_ fun _ _ _ => ?_ | refine Keeps.foldl22 ?_ fun _ _ _ => ?_ | apply Keeps.forLanes
    | apply Keeps.getD | split | (intro _ _ _) | (intro _ _) | fail_if_no_progress refine Keeps.upd ?_
    | (dsimp +zetaDelta only; split)

theorem clearSrc_keeps (s : State) (x1 : Nat) : Keeps 0x8004 s (@State.clearSrc s x1) := by
  delta State.clearSrc; repeat' with_reducible first
    | extract_lets | assumption | exact Keeps.refl | refine (escStop_keeps ..).step ?_ rfl
    | refine (setSrc_keeps ..).step ?_ rfl | refine (setF_keeps ..).step ?_ rfl | apply Keeps.ite
    | refine Keeps.foldl ?_ fun _ _ _ => ?_ | refine Keeps.foldl1 ?_ fun _ _ _ => ?_
    | refine Keeps.foldl2 ?_ fun _ _ _ => ?_ | refine Keeps.foldl22 ?_ fun _ _ _ => ?_ | apply Keeps.forLanes
    | apply Keeps.getD | split | (intro _ _ _) | (intro _ _) | fail_if_no_progress refine Keeps.upd ?_
    | (dsimp +zetaDelta only; split)

theorem safeClusters_keeps (s : State) (x1 : Bool) : Keeps 0x34 s (@State.safeClusters s x1) := by
  delta State.safeClusters; repeat' with_reducible first
    | extract_lets | assumption | exact Keeps.refl | refine (setCl_keeps ..).step ?_ rfl
    | refine (abortLane_keeps ..).step ?_ rfl | apply Keeps.ite | refine Keeps.foldl ?_ fun _ _ _ => ?_
    | refine Keeps.foldl1 ?_ fun _ _ _ => ?_ | refine Keeps.foldl2 ?_ fun _ _ _ => ?_
    | refine Keeps.foldl22 ?_ fun _ _ _ => ?_ | apply Keeps.forLanes | apply Keeps.getD | split | (intro _ _ _)
    | (intro _ _) | fail_if_no_progress refine Keeps.upd ?_ | (dsimp +zetaDelta only; split)

theorem safePaths_keeps (s : State) : Keeps 0x302f04 s (@State.safePaths s) := by
  delta State.safePaths; repeat' with_reducible first
    | extract_lets | assumption | exact Keeps.refl | refine (rejectTxn_keeps ..).step ?_ rfl
    | refine (setCur_keeps ..).step ?_ rfl | refine (abortTxn_keeps ..).step ?_ rfl
    | refine (unstageRep_keeps ..).step ?_ rfl | refine (freePat_keeps ..).step ?_ rfl
    | refine (dropLayers_keeps ..).step ?_ rfl | refine (setF_keeps ..).step ?_ rfl
    | refine (raise_keeps ..).step ?_ rfl | apply Keeps.ite | refine Keeps.foldl ?_ fun _ _ _ => ?_
    | refine Keeps.foldl1 ?_ fun _ _ _ => ?_ | refine Keeps.foldl2 ?_ fun _ _ _ => ?_
    | refine Keeps.foldl22 ?_ fun _ _ _ => ?_ | apply Keeps.forLanes | apply Keeps.getD | split | (intro _ _ _)
    | (intro _ _) | fail_if_no_progress refine Keeps.upd ?_ | (dsimp +zetaDelta only; split)

theorem enterSafe_keeps (s : State) (x1 : Nat) : Keeps 0x38ff3c s (@State.enterSafe s x1) := by
  delta State.enterSafe; repeat' with_reducible first
    | extract_lets | assumption | exact Keeps.refl | refine (setFlt_keeps ..).step ?_ rfl
    | refine (setSrc_keeps ..).step ?_ rfl | refine (bump_keeps ..).step ?_ rfl | refine (setReg_keeps ..).step ?_ rfl
    | refine (doReleaseRequest_keeps ..).step ?_ rfl | refine (safeClusters_keeps ..).step ?_ rfl
    | refine (schedEvent_keeps ..).step ?_ rfl | refine (safePaths_keeps ..).step ?_ rfl
    | refine (setPair_keeps ..).step ?_ rfl | refine (post_keeps ..).step ?_ rfl
    | refine (sgfSafe_keeps ..).step ?_ rfl | refine (loseSync_keeps ..).step ?_ rfl
    | refine (calAbort_keeps ..).step ?_ rfl | apply Keeps.ite | refine Keeps.foldl ?_ fun _ _ _ => ?_
    | refine Keeps.foldl1 ?_ fun _ _ _ => ?_ | refine Keeps.foldl2 ?_ fun _ _ _ => ?_
    | refine Keeps.foldl22 ?_ fun _ _ _ => ?_ | apply Keeps.forLanes | apply Keeps.getD | split | (intro _ _ _)
    | (intro _ _) | fail_if_no_progress refine Keeps.upd ?_ | (dsimp +zetaDelta only; split)

theorem escStart_keeps (s : State) (x1 : Nat) : Keeps 0x8000 s (@State.escStart s x1) := by
  delta State.escStart; repeat' with_reducible first
    | extract_lets | assumption | exact Keeps.refl | refine (setFlt_keeps ..).step ?_ rfl | apply Keeps.ite
    | refine Keeps.foldl ?_ fun _ _ _ => ?_ | refine Keeps.foldl1 ?_ fun _ _ _ => ?_
    | refine Keeps.foldl2 ?_ fun _ _ _ => ?_ | refine Keeps.foldl22 ?_ fun _ _ _ => ?_ | apply Keeps.forLanes
    | apply Keeps.getD | split | (intro _ _ _) | (intro _ _) | fail_if_no_progress refine Keeps.upd ?_
    | (dsimp +zetaDelta only; split)

theorem escUpdate_keeps (x0 : State) (s : State) (x2 : Nat) : Keeps 0x8000 s (@State.escUpdate x0 s x2) := by
  delta State.escUpdate; repeat' with_reducible first
    | extract_lets | assumption | exact Keeps.refl | refine (escStart_keeps ..).step ?_ rfl
    | refine (escStop_keeps ..).step ?_ rfl | apply Keeps.ite | refine Keeps.foldl ?_ fun _ _ _ => ?_
    | refine Keeps.foldl1 ?_ fun _ _ _ => ?_ | refine Keeps.foldl2 ?_ fun _ _ _ => ?_
    | refine Keeps.foldl22 ?_ fun _ _ _ => ?_ | apply Keeps.forLanes | apply Keeps.getD | split | (intro _ _ _)
    | (intro _ _) | fail_if_no_progress refine Keeps.upd ?_ | (dsimp +zetaDelta only; split)

theorem exitSafe_keeps (s : State) : Keeps 0x30af34 s (@State.exitSafe s) := by
  delta State.exitSafe; repeat' with_reducible first
    | extract_lets | assumption | exact Keeps.refl | refine (safeClusters_keeps ..).step ?_ rfl
    | refine (setFlt_keeps ..).step ?_ rfl | refine (schedEvent_keeps ..).step ?_ rfl
    | refine (sweepLost_keeps ..).step ?_ rfl | refine (stageWaiting_keeps ..).step ?_ rfl
    | refine (post_keeps ..).step ?_ rfl | refine (calRelease_keeps ..).step ?_ rfl | apply Keeps.ite
    | refine Keeps.foldl ?_ fun _ _ _ => ?_ | refine Keeps.foldl1 ?_ fun _ _ _ => ?_
    | refine Keeps.foldl2 ?_ fun _ _ _ => ?_ | refine Keeps.foldl22 ?_ fun _ _ _ => ?_ | apply Keeps.forLanes
    | apply Keeps.getD | split | (intro _ _ _) | (intro _ _) | fail_if_no_progress refine Keeps.upd ?_
    | (dsimp +zetaDelta only; split)

theorem exitCheck_keeps (s : State) : Keeps 0x30af34 s (@State.exitCheck s) := by
  delta State.exitCheck; repeat' with_reducible first
    | extract_lets | assumption | exact Keeps.refl | refine (setFlt_keeps ..).step ?_ rfl
    | refine (exitSafe_keeps ..).step ?_ rfl | apply Keeps.ite | refine Keeps.foldl ?_ fun _ _ _ => ?_
    | refine Keeps.foldl1 ?_ fun _ _ _ => ?_ | refine Keeps.foldl2 ?_ fun _ _ _ => ?_
    | refine Keeps.foldl22 ?_ fun _ _ _ => ?_ | apply Keeps.forLanes | apply Keeps.getD | split | (intro _ _ _)
    | (intro _ _) | fail_if_no_progress refine Keeps.upd ?_ | (dsimp +zetaDelta only; split)

theorem isolate_keeps (s : State) (x1 : Nat) : Keeps 0x34 s (@State.isolate s x1) := by
  delta State.isolate; repeat' with_reducible first
    | extract_lets | assumption | exact Keeps.refl | refine (abortLane_keeps ..).step ?_ rfl
    | refine (setLane_keeps ..).step ?_ rfl | apply Keeps.ite | refine Keeps.foldl ?_ fun _ _ _ => ?_
    | refine Keeps.foldl1 ?_ fun _ _ _ => ?_ | refine Keeps.foldl2 ?_ fun _ _ _ => ?_
    | refine Keeps.foldl22 ?_ fun _ _ _ => ?_ | apply Keeps.forLanes | apply Keeps.getD | split | (intro _ _ _)
    | (intro _ _) | fail_if_no_progress refine Keeps.upd ?_ | (dsimp +zetaDelta only; split)

theorem newFault_keeps (s : State) (x1 : Nat) (x2 : Bool) (x3 : Word) : Keeps 0x38ff3c s (@State.newFault s x1 x2 x3)
    := by
  delta State.newFault; repeat' with_reducible first
    | extract_lets | assumption | exact Keeps.refl | refine (offer_keeps ..).step ?_ rfl
    | refine (setSrc_keeps ..).step ?_ rfl | refine (enterSafe_keeps ..).step ?_ rfl
    | refine (post_keeps ..).step ?_ rfl | refine (logPut_keeps ..).step ?_ rfl
    | refine (escStart_keeps ..).step ?_ rfl | apply Keeps.ite | refine Keeps.foldl ?_ fun _ _ _ => ?_
    | refine Keeps.foldl1 ?_ fun _ _ _ => ?_ | refine Keeps.foldl2 ?_ fun _ _ _ => ?_
    | refine Keeps.foldl22 ?_ fun _ _ _ => ?_ | apply Keeps.forLanes | apply Keeps.getD | split | (intro _ _ _)
    | (intro _ _) | fail_if_no_progress refine Keeps.upd ?_ | (dsimp +zetaDelta only; split)

theorem thermalSafe_keeps (s : State) : Keeps 0x38ff3c s (@State.thermalSafe s) := by
  delta State.thermalSafe; repeat' with_reducible first
    | extract_lets | assumption | exact Keeps.refl | refine (enterSafe_keeps ..).step ?_ rfl
    | refine (newFault_keeps ..).step ?_ rfl | apply Keeps.ite | refine Keeps.foldl ?_ fun _ _ _ => ?_
    | refine Keeps.foldl1 ?_ fun _ _ _ => ?_ | refine Keeps.foldl2 ?_ fun _ _ _ => ?_
    | refine Keeps.foldl22 ?_ fun _ _ _ => ?_ | apply Keeps.forLanes | apply Keeps.getD | split | (intro _ _ _)
    | (intro _ _) | fail_if_no_progress refine Keeps.upd ?_ | (dsimp +zetaDelta only; split)

theorem doEscalationExpiry_keeps (x0 : Nat) (x1 : Nat) (x2 : Word) (s : State) : Keeps 0x38ff3c s
    (@doEscalationExpiry x0 x1 x2 s) := by
  delta doEscalationExpiry; repeat' with_reducible first
    | extract_lets | assumption | exact Keeps.refl | refine (setSrc_keeps ..).step ?_ rfl
    | refine (escStop_keeps ..).step ?_ rfl | refine (post_keeps ..).step ?_ rfl
    | refine (isolate_keeps ..).step ?_ rfl | refine (enterSafe_keeps ..).step ?_ rfl | apply Keeps.ite
    | refine Keeps.foldl ?_ fun _ _ _ => ?_ | refine Keeps.foldl1 ?_ fun _ _ _ => ?_
    | refine Keeps.foldl2 ?_ fun _ _ _ => ?_ | refine Keeps.foldl22 ?_ fun _ _ _ => ?_ | apply Keeps.forLanes
    | apply Keeps.getD | split | (intro _ _ _) | (intro _ _) | fail_if_no_progress refine Keeps.upd ?_
    | (dsimp +zetaDelta only; split)

theorem doFaultSourceSet_keeps (x0 : Nat) (x1 : Bool) (x2 : Word) (s : State) : Keeps 0x38ff3c s (@doFaultSourceSet
    x0 x1 x2 s) := by
  delta doFaultSourceSet; repeat' with_reducible first
    | extract_lets | assumption | exact Keeps.refl | refine (setFlt_keeps ..).step ?_ rfl
    | refine (newFault_keeps ..).step ?_ rfl | apply Keeps.ite | refine Keeps.foldl ?_ fun _ _ _ => ?_
    | refine Keeps.foldl1 ?_ fun _ _ _ => ?_ | refine Keeps.foldl2 ?_ fun _ _ _ => ?_
    | refine Keeps.foldl22 ?_ fun _ _ _ => ?_ | apply Keeps.forLanes | apply Keeps.getD | split | (intro _ _ _)
    | (intro _ _) | fail_if_no_progress refine Keeps.upd ?_ | (dsimp +zetaDelta only; split)

theorem doFltConfig_keeps (x0 : Nat) (x1 : Nat) (x2 : Word) (s : State) : Keeps 0x8004 s (@doFltConfig x0 x1 x2 s) := by
  delta doFltConfig; repeat' with_reducible first
    | extract_lets | assumption | exact Keeps.refl | refine (setReg_keeps ..).step ?_ rfl
    | refine (escUpdate_keeps ..).step ?_ rfl | apply Keeps.ite | refine Keeps.foldl ?_ fun _ _ _ => ?_
    | refine Keeps.foldl1 ?_ fun _ _ _ => ?_ | refine Keeps.foldl2 ?_ fun _ _ _ => ?_
    | refine Keeps.foldl22 ?_ fun _ _ _ => ?_ | apply Keeps.forLanes | apply Keeps.getD | split | (intro _ _ _)
    | (intro _ _) | fail_if_no_progress refine Keeps.upd ?_ | (dsimp +zetaDelta only; split)

theorem doFltForce_keeps (x0 : Nat) (x1 : Word) (s : State) : Keeps 0x8000 s (@doFltForce x0 x1 s) := by
  delta doFltForce; repeat' with_reducible first
    | extract_lets | assumption | exact Keeps.refl | refine (setFlt_keeps ..).step ?_ rfl | apply Keeps.ite
    | refine Keeps.foldl ?_ fun _ _ _ => ?_ | refine Keeps.foldl1 ?_ fun _ _ _ => ?_
    | refine Keeps.foldl2 ?_ fun _ _ _ => ?_ | refine Keeps.foldl22 ?_ fun _ _ _ => ?_ | apply Keeps.forLanes
    | apply Keeps.getD | split | (intro _ _ _) | (intro _ _) | fail_if_no_progress refine Keeps.upd ?_
    | (dsimp +zetaDelta only; split)

theorem doFltStatClear_keeps (x0 : Nat) (x1 : Word) (s : State) : Keeps 0x30af34 s (@doFltStatClear x0 x1 s) := by
  delta doFltStatClear; repeat' with_reducible first
    | extract_lets | assumption | exact Keeps.refl | refine (clearSrc_keeps ..).step ?_ rfl
    | refine (exitCheck_keeps ..).step ?_ rfl | apply Keeps.ite | refine Keeps.foldl ?_ fun _ _ _ => ?_
    | refine Keeps.foldl1 ?_ fun _ _ _ => ?_ | refine Keeps.foldl2 ?_ fun _ _ _ => ?_
    | refine Keeps.foldl22 ?_ fun _ _ _ => ?_ | apply Keeps.forLanes | apply Keeps.getD | split | (intro _ _ _)
    | (intro _ _) | fail_if_no_progress refine Keeps.upd ?_ | (dsimp +zetaDelta only; split)

theorem doParityError_keeps (x0 : Nat) (x1 : Bool) (s : State) : Keeps 0x38ff3c s (@doParityError x0 x1 s) := by
  delta doParityError; repeat' with_reducible first
    | extract_lets | assumption | exact Keeps.refl | refine (setReg_keeps ..).step ?_ rfl
    | refine (escUpdate_keeps ..).step ?_ rfl | refine (setFlt_keeps ..).step ?_ rfl
    | refine (newFault_keeps ..).step ?_ rfl | apply Keeps.ite | refine Keeps.foldl ?_ fun _ _ _ => ?_
    | refine Keeps.foldl1 ?_ fun _ _ _ => ?_ | refine Keeps.foldl2 ?_ fun _ _ _ => ?_
    | refine Keeps.foldl22 ?_ fun _ _ _ => ?_ | apply Keeps.forLanes | apply Keeps.getD | split | (intro _ _ _)
    | (intro _ _) | fail_if_no_progress refine Keeps.upd ?_ | (dsimp +zetaDelta only; split)

theorem doSafeEntryComplete_keeps (x0 : Bool) (s : State) : Keeps 0x30af34 s (@doSafeEntryComplete x0 s) := by
  delta doSafeEntryComplete; repeat' with_reducible first
    | extract_lets | assumption | exact Keeps.refl | refine (setFlt_keeps ..).step ?_ rfl
    | refine (exitCheck_keeps ..).step ?_ rfl | apply Keeps.ite | refine Keeps.foldl ?_ fun _ _ _ => ?_
    | refine Keeps.foldl1 ?_ fun _ _ _ => ?_ | refine Keeps.foldl2 ?_ fun _ _ _ => ?_
    | refine Keeps.foldl22 ?_ fun _ _ _ => ?_ | apply Keeps.forLanes | apply Keeps.getD | split | (intro _ _ _)
    | (intro _ _) | fail_if_no_progress refine Keeps.upd ?_ | (dsimp +zetaDelta only; split)

theorem doSensors_keeps (x0 : Nat) (x1 : List SnsRead) (s : State) : Keeps 0x3affbc s (@doSensors x0 x1 s) := by
  delta doSensors; repeat' with_reducible first
    | extract_lets | assumption | exact Keeps.refl | refine (doSensorMeasure_keeps ..).step ?_ rfl
    | refine (thermalSafe_keeps ..).step ?_ rfl | apply Keeps.ite | refine Keeps.foldl ?_ fun _ _ _ => ?_
    | refine Keeps.foldl1 ?_ fun _ _ _ => ?_ | refine Keeps.foldl2 ?_ fun _ _ _ => ?_
    | refine Keeps.foldl22 ?_ fun _ _ _ => ?_ | apply Keeps.forLanes | apply Keeps.getD | split | (intro _ _ _)
    | (intro _ _) | fail_if_no_progress refine Keeps.upd ?_ | (dsimp +zetaDelta only; split)

theorem loadF_keeps (s : State) (x1 : List (Reg × List Nat)) : Keeps 0x4 s (@State.loadF s x1) := by
  delta State.loadF; repeat' with_reducible first
    | extract_lets | assumption | exact Keeps.refl | refine (setReg_keeps ..).step ?_ rfl | apply Keeps.ite
    | refine Keeps.foldl ?_ fun _ _ _ => ?_ | refine Keeps.foldl1 ?_ fun _ _ _ => ?_
    | refine Keeps.foldl2 ?_ fun _ _ _ => ?_ | refine Keeps.foldl22 ?_ fun _ _ _ => ?_ | apply Keeps.forLanes
    | apply Keeps.getD | split | (intro _ _ _) | (intro _ _) | fail_if_no_progress refine Keeps.upd ?_
    | (dsimp +zetaDelta only; split)

theorem nextStage_keeps (s : State) : Keeps 0x2 s (@State.nextStage s) := by
  delta State.nextStage; repeat' with_reducible first
    | extract_lets | assumption | exact Keeps.refl | apply Keeps.ite | refine Keeps.foldl ?_ fun _ _ _ => ?_
    | refine Keeps.foldl1 ?_ fun _ _ _ => ?_ | refine Keeps.foldl2 ?_ fun _ _ _ => ?_
    | refine Keeps.foldl22 ?_ fun _ _ _ => ?_ | apply Keeps.forLanes | apply Keeps.getD | split | (intro _ _ _)
    | (intro _ _) | fail_if_no_progress refine Keeps.upd ?_ | (dsimp +zetaDelta only; split)

theorem bootData_keeps (s : State) : Keeps 0x1e8006 s (@State.bootData s) := by
  delta State.bootData; repeat' with_reducible first
    | extract_lets | assumption | exact Keeps.refl | refine (loadF_keeps ..).step ?_ rfl
    | refine (nextStage_keeps ..).step ?_ rfl | refine (setThm_keeps ..).step ?_ rfl
    | refine (pwmStart_keeps ..).step ?_ rfl | refine (setReg_keeps ..).step ?_ rfl | apply Keeps.ite
    | refine Keeps.foldl ?_ fun _ _ _ => ?_ | refine Keeps.foldl1 ?_ fun _ _ _ => ?_
    | refine Keeps.foldl2 ?_ fun _ _ _ => ?_ | refine Keeps.foldl22 ?_ fun _ _ _ => ?_ | apply Keeps.forLanes
    | apply Keeps.getD | split | (intro _ _ _) | (intro _ _) | fail_if_no_progress refine Keeps.upd ?_
    | (dsimp +zetaDelta only; split)

theorem bootDrive_keeps (s : State) : Keeps 0x12 s (@State.bootDrive s) := by
  delta State.bootDrive; repeat' with_reducible first
    | extract_lets | assumption | exact Keeps.refl | refine (nextStage_keeps ..).step ?_ rfl | apply Keeps.ite
    | refine Keeps.foldl ?_ fun _ _ _ => ?_ | refine Keeps.foldl1 ?_ fun _ _ _ => ?_
    | refine Keeps.foldl2 ?_ fun _ _ _ => ?_ | refine Keeps.foldl22 ?_ fun _ _ _ => ?_ | apply Keeps.forLanes
    | apply Keeps.getD | split | (intro _ _ _) | (intro _ _) | fail_if_no_progress refine Keeps.upd ?_
    | (dsimp +zetaDelta only; split)

theorem bootFaults_keeps (s : State) : Keeps 0x8006 s (@State.bootFaults s) := by
  delta State.bootFaults; repeat' with_reducible first
    | extract_lets | assumption | exact Keeps.refl | refine (loadF_keeps ..).step ?_ rfl
    | refine (nextStage_keeps ..).step ?_ rfl | refine (escUpdate_keeps ..).step ?_ rfl | apply Keeps.ite
    | refine Keeps.foldl ?_ fun _ _ _ => ?_ | refine Keeps.foldl1 ?_ fun _ _ _ => ?_
    | refine Keeps.foldl2 ?_ fun _ _ _ => ?_ | refine Keeps.foldl22 ?_ fun _ _ _ => ?_ | apply Keeps.forLanes
    | apply Keeps.getD | split | (intro _ _ _) | (intro _ _) | fail_if_no_progress refine Keeps.upd ?_
    | (dsimp +zetaDelta only; split)

theorem bootStop_keeps (s : State) : Keeps 0x100006 s (@State.bootStop s) := by
  delta State.bootStop; repeat' with_reducible first
    | extract_lets | assumption | exact Keeps.refl | refine (logPut_keeps ..).step ?_ rfl
    | refine (setReg_keeps ..).step ?_ rfl | apply Keeps.ite | refine Keeps.foldl ?_ fun _ _ _ => ?_
    | refine Keeps.foldl1 ?_ fun _ _ _ => ?_ | refine Keeps.foldl2 ?_ fun _ _ _ => ?_
    | refine Keeps.foldl22 ?_ fun _ _ _ => ?_ | apply Keeps.forLanes | apply Keeps.getD | split | (intro _ _ _)
    | (intro _ _) | fail_if_no_progress refine Keeps.upd ?_ | (dsimp +zetaDelta only; split)

theorem bootImage_keeps (s : State) : Keeps 0x108006 s (@State.bootImage s) := by
  delta State.bootImage; repeat' with_reducible first
    | extract_lets | assumption | exact Keeps.refl | refine (setPrl_keeps ..).step ?_ rfl
    | refine (nextStage_keeps ..).step ?_ rfl | refine (bootRom_keeps _ _ rfl).step ?_ rfl
    | refine (bootRom_keeps _ (_, _) (by assumption)).step ?_ rfl | refine (bootStop_keeps ..).step ?_ rfl
    | apply Keeps.ite | refine Keeps.foldl ?_ fun _ _ _ => ?_ | refine Keeps.foldl1 ?_ fun _ _ _ => ?_
    | refine Keeps.foldl2 ?_ fun _ _ _ => ?_ | refine Keeps.foldl22 ?_ fun _ _ _ => ?_ | apply Keeps.forLanes
    | apply Keeps.getD | split | (intro _ _ _) | (intro _ _) | fail_if_no_progress refine Keeps.upd ?_
    | (dsimp +zetaDelta only; split)

theorem bootLoops_keeps (s : State) : Keeps 0x32 s (@State.bootLoops s) := by
  delta State.bootLoops; repeat' with_reducible first
    | extract_lets | assumption | exact Keeps.refl | refine (nextStage_keeps ..).step ?_ rfl | apply Keeps.ite
    | refine Keeps.foldl ?_ fun _ _ _ => ?_ | refine Keeps.foldl1 ?_ fun _ _ _ => ?_
    | refine Keeps.foldl2 ?_ fun _ _ _ => ?_ | refine Keeps.foldl22 ?_ fun _ _ _ => ?_ | apply Keeps.forLanes
    | apply Keeps.getD | split | (intro _ _ _) | (intro _ _) | fail_if_no_progress refine Keeps.upd ?_
    | (dsimp +zetaDelta only; split)

theorem bootReady_keeps (s : State) : Keeps 0x122706 s (@State.bootReady s) := by
  delta State.bootReady; repeat' with_reducible first
    | extract_lets | assumption | exact Keeps.refl | refine (nextStage_keeps ..).step ?_ rfl
    | refine (roleStep_keeps ..).step ?_ rfl | refine (mgmtEvent_keeps ..).step ?_ rfl
    | refine (setPrl_keeps ..).step ?_ rfl | apply Keeps.ite | refine Keeps.foldl ?_ fun _ _ _ => ?_
    | refine Keeps.foldl1 ?_ fun _ _ _ => ?_ | refine Keeps.foldl2 ?_ fun _ _ _ => ?_
    | refine Keeps.foldl22 ?_ fun _ _ _ => ?_ | apply Keeps.forLanes | apply Keeps.getD | split | (intro _ _ _)
    | (intro _ _) | fail_if_no_progress refine Keeps.upd ?_ | (dsimp +zetaDelta only; split)

theorem wholeReset_keeps (s : State) : Keeps 0x1fffff s s.wholeReset := by
  constructor
  · rfl
  · exact id
  · intro p hp; cases p <;> first | rfl | exact absurd hp (by decide)

theorem mainReset_keeps (s : State) : Keeps 0x1ffffe s s.mainReset := by
  delta State.mainReset
  extract_lets _ _ _ _ _ r r1
  have hr : Keeps 0x1ffffe s r := by
    constructor
    · rfl
    · exact id
    · intro p hp; cases p <;> first | rfl | exact absurd hp (by decide) | exact ⟨rfl, rfl, rfl, rfl⟩
  have h1 : Keeps 0x1ffffe s r1 := Keeps.foldl hr fun _ _ h => (setReg_keeps ..).step h rfl
  exact (setF_keeps ..).step ((bump_keeps ..).step h1 rfl) rfl

theorem straps_keeps (s : State) (m : Nat) (p : Bool) (d : Nat) (x : Bool) : Keeps 0x38ff3d s (s.straps m p d x) := by
  delta State.straps; repeat' with_reducible first
    | extract_lets | assumption | exact Keeps.refl | refine (setF_keeps ..).step ?_ rfl
    | refine (newFault_keeps ..).step ?_ rfl | apply Keeps.ite
    | fail_if_no_progress refine Keeps.upd ?_

theorem doBootStage_keeps (x0 : BootIn) (s : State) : Keeps 0x1ea73e s (@doBootStage x0 s) := by
  delta doBootStage; repeat' with_reducible first
    | extract_lets | assumption | exact Keeps.refl | refine (bootImage_keeps ..).step ?_ rfl
    | refine (bootStop_keeps ..).step ?_ rfl | refine (nextStage_keeps ..).step ?_ rfl
    | refine (bootData_keeps ..).step ?_ rfl | refine (bootDrive_keeps ..).step ?_ rfl
    | refine (bootLoops_keeps ..).step ?_ rfl | refine (bootFaults_keeps ..).step ?_ rfl
    | refine (bootReady_keeps ..).step ?_ rfl | apply Keeps.ite | refine Keeps.foldl ?_ fun _ _ _ => ?_
    | refine Keeps.foldl1 ?_ fun _ _ _ => ?_ | refine Keeps.foldl2 ?_ fun _ _ _ => ?_
    | refine Keeps.foldl22 ?_ fun _ _ _ => ?_ | apply Keeps.forLanes | apply Keeps.getD | split | (intro _ _ _)
    | (intro _ _) | fail_if_no_progress refine Keeps.upd ?_ | (dsimp +zetaDelta only; split)

theorem doMainRailRelease_keeps (x0 : Bool) (x1 : Nat) (x2 : Bool) (s : State) : Keeps 0x38ff3f s (@doMainRailRelease
    x0 x1 x2 s) := by
  delta doMainRailRelease; repeat' with_reducible first
    | extract_lets | assumption | exact Keeps.refl | refine (straps_keeps ..).step ?_ rfl | apply Keeps.ite
    | refine Keeps.foldl ?_ fun _ _ _ => ?_ | refine Keeps.foldl1 ?_ fun _ _ _ => ?_
    | refine Keeps.foldl2 ?_ fun _ _ _ => ?_ | refine Keeps.foldl22 ?_ fun _ _ _ => ?_ | apply Keeps.forLanes
    | apply Keeps.getD | split | (intro _ _ _) | (intro _ _) | fail_if_no_progress refine Keeps.upd ?_
    | (dsimp +zetaDelta only; split)

theorem doMainRailReset_keeps (x0 : Nat) (s : State) : Keeps 0x1ffffe s (@doMainRailReset x0 s) := by
  delta doMainRailReset; repeat' with_reducible first
    | extract_lets | assumption | exact Keeps.refl | refine (mainReset_keeps ..).step ?_ rfl
    | refine (setReg_keeps ..).step ?_ rfl | apply Keeps.ite | refine Keeps.foldl ?_ fun _ _ _ => ?_
    | refine Keeps.foldl1 ?_ fun _ _ _ => ?_ | refine Keeps.foldl2 ?_ fun _ _ _ => ?_
    | refine Keeps.foldl22 ?_ fun _ _ _ => ?_ | apply Keeps.forLanes | apply Keeps.getD | split | (intro _ _ _)
    | (intro _ _) | fail_if_no_progress refine Keeps.upd ?_ | (dsimp +zetaDelta only; split)

theorem doPcieReset_keeps (x0 : PcieRst) (s : State) : Keeps 0xf206 s (@doPcieReset x0 s) := by
  delta doPcieReset; repeat' with_reducible first
    | extract_lets | assumption | exact Keeps.refl | refine (resetHif_keeps ..).step ?_ rfl
    | refine (cause_keeps ..).step ?_ rfl | apply Keeps.ite | refine Keeps.foldl ?_ fun _ _ _ => ?_
    | refine Keeps.foldl1 ?_ fun _ _ _ => ?_ | refine Keeps.foldl2 ?_ fun _ _ _ => ?_
    | refine Keeps.foldl22 ?_ fun _ _ _ => ?_ | apply Keeps.forLanes | apply Keeps.getD | split | (intro _ _ _)
    | (intro _ _) | fail_if_no_progress refine Keeps.upd ?_ | (dsimp +zetaDelta only; split)

theorem doPerstDeassert_keeps (s : State) : Keeps 0x10002 s (@doPerstDeassert s) := by
  delta doPerstDeassert; repeat' with_reducible first
    | extract_lets | assumption | exact Keeps.refl | apply Keeps.ite | refine Keeps.foldl ?_ fun _ _ _ => ?_
    | refine Keeps.foldl1 ?_ fun _ _ _ => ?_ | refine Keeps.foldl2 ?_ fun _ _ _ => ?_
    | refine Keeps.foldl22 ?_ fun _ _ _ => ?_ | apply Keeps.forLanes | apply Keeps.getD | split | (intro _ _ _)
    | (intro _ _) | fail_if_no_progress refine Keeps.upd ?_ | (dsimp +zetaDelta only; split)

theorem doPorRelease_keeps (x0 : Nat) (x1 : Bool) (x2 : Nat) (x3 : Bool) (s : State) : Keeps 0x38ff3f s
    (@doPorRelease x0 x1 x2 x3 s) := by
  delta doPorRelease; repeat' with_reducible first
    | extract_lets | assumption | exact Keeps.refl | refine (straps_keeps ..).step ?_ rfl | apply Keeps.ite
    | refine Keeps.foldl ?_ fun _ _ _ => ?_ | refine Keeps.foldl1 ?_ fun _ _ _ => ?_
    | refine Keeps.foldl2 ?_ fun _ _ _ => ?_ | refine Keeps.foldl22 ?_ fun _ _ _ => ?_ | apply Keeps.forLanes
    | apply Keeps.getD | split | (intro _ _ _) | (intro _ _) | fail_if_no_progress refine Keeps.upd ?_
    | (dsimp +zetaDelta only; split)

theorem doPowerOnReset_keeps (s : State) : Keeps 0x1fffff s (@doPowerOnReset s) := by
  delta doPowerOnReset; repeat' with_reducible first
    | extract_lets | assumption | exact Keeps.refl | refine (wholeReset_keeps ..).step ?_ rfl | apply Keeps.ite
    | refine Keeps.foldl ?_ fun _ _ _ => ?_ | refine Keeps.foldl1 ?_ fun _ _ _ => ?_
    | refine Keeps.foldl2 ?_ fun _ _ _ => ?_ | refine Keeps.foldl22 ?_ fun _ _ _ => ?_ | apply Keeps.forLanes
    | apply Keeps.getD | split | (intro _ _ _) | (intro _ _) | fail_if_no_progress refine Keeps.upd ?_
    | (dsimp +zetaDelta only; split)

theorem doThermalRelease_keeps (x0 : Bool) (x1 : Nat) (x2 : Bool) (s : State) : Keeps 0x38ff3f s (@doThermalRelease
    x0 x1 x2 s) := by
  delta doThermalRelease; repeat' with_reducible first
    | extract_lets | assumption | exact Keeps.refl | refine (straps_keeps ..).step ?_ rfl | apply Keeps.ite
    | refine Keeps.foldl ?_ fun _ _ _ => ?_ | refine Keeps.foldl1 ?_ fun _ _ _ => ?_
    | refine Keeps.foldl2 ?_ fun _ _ _ => ?_ | refine Keeps.foldl22 ?_ fun _ _ _ => ?_ | apply Keeps.forLanes
    | apply Keeps.getD | split | (intro _ _ _) | (intro _ _) | fail_if_no_progress refine Keeps.upd ?_
    | (dsimp +zetaDelta only; split)

theorem doThermalRestart_keeps (s : State) : Keeps 0x1ffffe s (@doThermalRestart s) := by
  delta doThermalRestart; repeat' with_reducible first
    | extract_lets | assumption | exact Keeps.refl | refine (mainReset_keeps ..).step ?_ rfl | apply Keeps.ite
    | refine Keeps.foldl ?_ fun _ _ _ => ?_ | refine Keeps.foldl1 ?_ fun _ _ _ => ?_
    | refine Keeps.foldl2 ?_ fun _ _ _ => ?_ | refine Keeps.foldl22 ?_ fun _ _ _ => ?_ | apply Keeps.forLanes
    | apply Keeps.getD | split | (intro _ _ _) | (intro _ _) | fail_if_no_progress refine Keeps.upd ?_
    | (dsimp +zetaDelta only; split)

theorem calCmd_keeps (s : State) (x1 : Word) : Keeps 0x3863b4 s (@State.calCmd s x1) := by
  delta State.calCmd; repeat' with_reducible first
    | extract_lets | assumption | exact Keeps.refl | refine (doCalCmd_keeps ..).step ?_ rfl | apply Keeps.ite
    | refine Keeps.foldl ?_ fun _ _ _ => ?_ | refine Keeps.foldl1 ?_ fun _ _ _ => ?_
    | refine Keeps.foldl2 ?_ fun _ _ _ => ?_ | refine Keeps.foldl22 ?_ fun _ _ _ => ?_ | apply Keeps.forLanes
    | apply Keeps.getD | split | (intro _ _ _) | (intro _ _) | fail_if_no_progress refine Keeps.upd ?_
    | (dsimp +zetaDelta only; split)

theorem plainWrite_keeps (s : State) (x1 : Reg) (x2 : List Nat) (x3 : Word) : Keeps 0x4 s (@State.plainWrite s x1 x2
    x3) := by
  delta State.plainWrite; repeat' with_reducible first
    | extract_lets | assumption | exact Keeps.refl | refine (wrCodes_keeps ..).step ?_ rfl | apply Keeps.ite
    | refine Keeps.foldl ?_ fun _ _ _ => ?_ | refine Keeps.foldl1 ?_ fun _ _ _ => ?_
    | refine Keeps.foldl2 ?_ fun _ _ _ => ?_ | refine Keeps.foldl22 ?_ fun _ _ _ => ?_ | apply Keeps.forLanes
    | apply Keeps.getD | split | (intro _ _ _) | (intro _ _) | fail_if_no_progress refine Keeps.upd ?_
    | (dsimp +zetaDelta only; split)

theorem fabCtrlWrite_keeps (s : State) (x1 : Word) : Keeps 0x200b04 s (@State.fabCtrlWrite s x1) := by
  delta State.fabCtrlWrite; repeat' with_reducible first
    | extract_lets | assumption | exact Keeps.refl | refine (plainWrite_keeps ..).step ?_ rfl
    | refine (dropProbes_keeps ..).step ?_ rfl | apply Keeps.ite | refine Keeps.foldl ?_ fun _ _ _ => ?_
    | refine Keeps.foldl1 ?_ fun _ _ _ => ?_ | refine Keeps.foldl2 ?_ fun _ _ _ => ?_
    | refine Keeps.foldl22 ?_ fun _ _ _ => ?_ | apply Keeps.forLanes | apply Keeps.getD | split | (intro _ _ _)
    | (intro _ _) | fail_if_no_progress refine Keeps.upd ?_ | (dsimp +zetaDelta only; split)

theorem fabEvtWrite_keeps (s : State) (x1 : Word) : Keeps 0x4 s (@State.fabEvtWrite s x1) := by
  delta State.fabEvtWrite; repeat' with_reducible first
    | extract_lets | assumption | exact Keeps.refl | refine (wrCodes_keeps ..).step ?_ rfl
    | refine (setReg_keeps ..).step ?_ rfl | apply Keeps.ite | refine Keeps.foldl ?_ fun _ _ _ => ?_
    | refine Keeps.foldl1 ?_ fun _ _ _ => ?_ | refine Keeps.foldl2 ?_ fun _ _ _ => ?_
    | refine Keeps.foldl22 ?_ fun _ _ _ => ?_ | apply Keeps.forLanes | apply Keeps.getD | split | (intro _ _ _)
    | (intro _ _) | fail_if_no_progress refine Keeps.upd ?_ | (dsimp +zetaDelta only; split)

theorem fwdCmd_keeps (s : State) (x1 : Word) : Keeps 0x301004 s (@State.fwdCmd s x1) := by
  delta State.fwdCmd; repeat' with_reducible first
    | extract_lets | assumption | exact Keeps.refl | refine fwdStart_keeps Keeps.refl rfl _ ?_
    | refine (fwdInsert_keeps ..).step ?_ rfl | refine (fwdDelete_keeps ..).step ?_ rfl
    | refine (fwdLookup_keeps ..).step ?_ rfl | refine (fwdRead_keeps ..).step ?_ rfl
    | refine (fwdClear_keeps ..).step ?_ rfl | apply Keeps.ite | refine Keeps.foldl ?_ fun _ _ _ => ?_
    | refine Keeps.foldl1 ?_ fun _ _ _ => ?_ | refine Keeps.foldl2 ?_ fun _ _ _ => ?_
    | refine Keeps.foldl22 ?_ fun _ _ _ => ?_ | apply Keeps.forLanes | apply Keeps.getD | split | (intro _ _ _)
    | (intro _ _) | fail_if_no_progress refine Keeps.upd ?_ | (dsimp +zetaDelta only; split)

theorem hifErrWrite_keeps (s : State) (x1 : Word) : Keeps 0x4 s (@State.hifErrWrite s x1) := by
  delta State.hifErrWrite; repeat' with_reducible first
    | extract_lets | assumption | exact Keeps.refl | refine (wrCodes_keeps ..).step ?_ rfl
    | refine (setF_keeps ..).step ?_ rfl | apply Keeps.ite | refine Keeps.foldl ?_ fun _ _ _ => ?_
    | refine Keeps.foldl1 ?_ fun _ _ _ => ?_ | refine Keeps.foldl2 ?_ fun _ _ _ => ?_
    | refine Keeps.foldl22 ?_ fun _ _ _ => ?_ | apply Keeps.forLanes | apply Keeps.getD | split | (intro _ _ _)
    | (intro _ _) | fail_if_no_progress refine Keeps.upd ?_ | (dsimp +zetaDelta only; split)

theorem lockedWrite_keeps (s : State) (x1 : Nat) (x2 : Reg) (x3 : List Nat) (x4 : Word) : Keeps 0x102004 s
    (@State.lockedWrite s x1 x2 x3 x4) := by
  delta State.lockedWrite; repeat' with_reducible first
    | extract_lets | assumption | exact Keeps.refl | refine (plainWrite_keeps ..).step ?_ rfl
    | refine (hifErr_keeps ..).step ?_ rfl | apply Keeps.ite | refine Keeps.foldl ?_ fun _ _ _ => ?_
    | refine Keeps.foldl1 ?_ fun _ _ _ => ?_ | refine Keeps.foldl2 ?_ fun _ _ _ => ?_
    | refine Keeps.foldl22 ?_ fun _ _ _ => ?_ | apply Keeps.forLanes | apply Keeps.getD | split | (intro _ _ _)
    | (intro _ _) | fail_if_no_progress refine Keeps.upd ?_ | (dsimp +zetaDelta only; split)

theorem msixCtl_keeps (s : State) (x1 : Nat) (x2 : Word) : Keeps 0x2004 s (@State.msixCtl s x1 x2) := by
  delta State.msixCtl; repeat' with_reducible first
    | extract_lets | assumption | exact Keeps.refl | refine (wrCodes_keeps ..).step ?_ rfl
    | refine (msi_keeps ..).step ?_ rfl | refine (setReg_keeps ..).step ?_ rfl | apply Keeps.ite
    | refine Keeps.foldl ?_ fun _ _ _ => ?_ | refine Keeps.foldl1 ?_ fun _ _ _ => ?_
    | refine Keeps.foldl2 ?_ fun _ _ _ => ?_ | refine Keeps.foldl22 ?_ fun _ _ _ => ?_ | apply Keeps.forLanes
    | apply Keeps.getD | split | (intro _ _ _) | (intro _ _) | fail_if_no_progress refine Keeps.upd ?_
    | (dsimp +zetaDelta only; split)

theorem pairEvtWrite_keeps (s : State) (x1 : Word) : Keeps 0x4 s (@State.pairEvtWrite s x1) := by
  delta State.pairEvtWrite; repeat' with_reducible first
    | extract_lets | assumption | exact Keeps.refl | refine (wrCodes_keeps ..).step ?_ rfl
    | refine (setReg_keeps ..).step ?_ rfl | apply Keeps.ite | refine Keeps.foldl ?_ fun _ _ _ => ?_
    | refine Keeps.foldl1 ?_ fun _ _ _ => ?_ | refine Keeps.foldl2 ?_ fun _ _ _ => ?_
    | refine Keeps.foldl22 ?_ fun _ _ _ => ?_ | apply Keeps.forLanes | apply Keeps.getD | split | (intro _ _ _)
    | (intro _ _) | fail_if_no_progress refine Keeps.upd ?_ | (dsimp +zetaDelta only; split)

theorem rcClear_keeps (s : State) (x1 : Reg) (x2 : List Nat) : Keeps 0x21004 s (@State.rcClear s x1 x2) := by
  delta State.rcClear; repeat' with_reducible first
    | extract_lets | assumption | exact Keeps.refl | refine (setThm_keeps ..).step ?_ rfl
    | refine (setSgf_keeps ..).step ?_ rfl | refine (setReg_keeps ..).step ?_ rfl | apply Keeps.ite
    | refine Keeps.foldl ?_ fun _ _ _ => ?_ | refine Keeps.foldl1 ?_ fun _ _ _ => ?_
    | refine Keeps.foldl2 ?_ fun _ _ _ => ?_ | refine Keeps.foldl22 ?_ fun _ _ _ => ?_ | apply Keeps.forLanes
    | apply Keeps.getD | split | (intro _ _ _) | (intro _ _) | fail_if_no_progress refine Keeps.upd ?_
    | (dsimp +zetaDelta only; split)

theorem readClear_keeps (s : State) (x1 : Reg) (x2 : List Nat) : Keeps 0x425084 s (@State.readClear s x1 x2) := by
  delta State.readClear; repeat' with_reducible first
    | extract_lets | assumption | exact Keeps.refl | refine (doClockSnapshot_keeps ..).step ?_ rfl
    | refine (doCapIndexLatch_keeps ..).step ?_ rfl | refine (rcClear_keeps ..).step ?_ rfl | apply Keeps.ite
    | refine Keeps.foldl ?_ fun _ _ _ => ?_ | refine Keeps.foldl1 ?_ fun _ _ _ => ?_
    | refine Keeps.foldl2 ?_ fun _ _ _ => ?_ | refine Keeps.foldl22 ?_ fun _ _ _ => ?_ | apply Keeps.forLanes
    | apply Keeps.getD | split | (intro _ _ _) | (intro _ _) | fail_if_no_progress refine Keeps.upd ?_
    | (dsimp +zetaDelta only; split)

theorem readAt_keeps (s : State) (x1 : Nat) : Keeps 0x425084 s (@State.readAt s x1) := by
  delta State.readAt; repeat' with_reducible first
    | extract_lets | assumption | exact Keeps.refl | refine (readClear_keeps ..).step ?_ rfl | apply Keeps.ite
    | refine Keeps.foldl ?_ fun _ _ _ => ?_ | refine Keeps.foldl1 ?_ fun _ _ _ => ?_
    | refine Keeps.foldl2 ?_ fun _ _ _ => ?_ | refine Keeps.foldl22 ?_ fun _ _ _ => ?_ | apply Keeps.forLanes
    | apply Keeps.getD | split | (intro _ _ _) | (intro _ _) | fail_if_no_progress refine Keeps.upd ?_
    | (dsimp +zetaDelta only; split)

theorem writeHost_keeps (s : State) (x1 : Reg) (x2 : List Nat) (x3 : Word) (p) (hp : @State.writeHost s x1 x2 x3 =
    some p) : Keeps 0x307004 s p := by
  delta State.writeHost at hp; (repeat' (first | extract_lets at hp | split at hp)) <;> (first | cases hp | skip)
  all_goals repeat' with_reducible first
    | extract_lets | assumption | exact Keeps.refl | refine (hifErrWrite_keeps ..).step ?_ rfl
    | refine (lockedWrite_keeps ..).step ?_ rfl | refine (doRingCtrl_keeps ..).step ?_ rfl
    | refine (signalAny_keeps ..).step ?_ rfl | refine (plainWrite_keeps ..).step ?_ rfl
    | refine (doCapCfg_keeps ..).step ?_ rfl | refine (msixCtl_keeps ..).step ?_ rfl
    | refine (fwdCmd_keeps ..).step ?_ rfl | refine (doSpCfg_keeps ..).step ?_ rfl
    | refine (doShpCfg_keeps ..).step ?_ rfl | refine (doPolCfg_keeps ..).step ?_ rfl | apply Keeps.ite
    | refine Keeps.foldl ?_ fun _ _ _ => ?_ | refine Keeps.foldl1 ?_ fun _ _ _ => ?_
    | refine Keeps.foldl2 ?_ fun _ _ _ => ?_ | refine Keeps.foldl22 ?_ fun _ _ _ => ?_ | apply Keeps.forLanes
    | apply Keeps.getD | split | (intro _ _ _) | (intro _ _) | fail_if_no_progress refine Keeps.upd ?_
    | (dsimp +zetaDelta only; split)

theorem writeLoops_keeps (s : State) (x1 : Reg) (x2 : List Nat) (x3 : Word) (p) (hp : @State.writeLoops s x1 x2 x3 =
    some p) : Keeps 0x30433c s p := by
  delta State.writeLoops at hp; (repeat' (first | extract_lets at hp | split at hp)) <;> (first | cases hp | skip)
  all_goals repeat' with_reducible first
    | extract_lets | assumption | exact Keeps.refl | refine (doCufCtrlWrite_keeps ..).step ?_ rfl
    | refine (doPlkCtrlWrite_keeps ..).step ?_ rfl | refine (doSlvCtrlWrite_keeps ..).step ?_ rfl
    | refine (doLaneCfgWrite_keeps ..).step ?_ rfl | refine (laneStatWrite_keeps ..).step ?_ rfl
    | refine (doSetptWrite_keeps ..).step ?_ rfl | refine (doRefSelect_keeps ..).step ?_ rfl
    | refine (cnvStatusWrite_keeps ..).step ?_ rfl | refine (doAccCtrl_keeps ..).step ?_ rfl
    | refine (accTrigger_keeps ..).step ?_ rfl | refine (doDrvLim_keeps ..).step ?_ rfl
    | refine (doLsgLoad_keeps ..).step ?_ rfl | apply Keeps.ite | refine Keeps.foldl ?_ fun _ _ _ => ?_
    | refine Keeps.foldl1 ?_ fun _ _ _ => ?_ | refine Keeps.foldl2 ?_ fun _ _ _ => ?_
    | refine Keeps.foldl22 ?_ fun _ _ _ => ?_ | apply Keeps.forLanes | apply Keeps.getD | split | (intro _ _ _)
    | (intro _ _) | fail_if_no_progress refine Keeps.upd ?_ | (dsimp +zetaDelta only; split)

theorem writeManage_keeps (s : State) (x1 : Reg) (x2 : List Nat) (x3 : Word) (p) (hp : @State.writeManage s x1 x2 x3
    = some p) : Keeps 0x3fefbc s p := by
  delta State.writeManage at hp; (repeat' (first | extract_lets at hp | split at hp)) <;> (first | cases hp | skip)
  all_goals repeat' with_reducible first
    | extract_lets | assumption | exact Keeps.refl | refine (doPairCtrl_keeps ..).step ?_ rfl
    | refine (pairEvtWrite_keeps ..).step ?_ rfl | refine (fabEvtWrite_keeps ..).step ?_ rfl
    | refine (fabCtrlWrite_keeps ..).step ?_ rfl | refine (doFltStatClear_keeps ..).step ?_ rfl
    | refine (doFltConfig_keeps ..).step ?_ rfl | refine (doFltForce_keeps ..).step ?_ rfl
    | refine (snsOff_keeps ..).step ?_ rfl | refine (plainWrite_keeps ..).step ?_ rfl
    | refine (doTecCtrl_keeps ..).step ?_ rfl | refine (doPwmCtrl_keeps ..).step ?_ rfl
    | refine (doPwmUpd_keeps ..).step ?_ rfl | refine (doPowerTarget_keeps ..).step ?_ rfl
    | refine (doPrlStage_keeps ..).step ?_ rfl | refine (calCmd_keeps ..).step ?_ rfl
    | refine (doIcGate_keeps ..).step ?_ rfl | apply Keeps.ite | refine Keeps.foldl ?_ fun _ _ _ => ?_
    | refine Keeps.foldl1 ?_ fun _ _ _ => ?_ | refine Keeps.foldl2 ?_ fun _ _ _ => ?_
    | refine Keeps.foldl22 ?_ fun _ _ _ => ?_ | apply Keeps.forLanes | apply Keeps.getD | split | (intro _ _ _)
    | (intro _ _) | fail_if_no_progress refine Keeps.upd ?_ | (dsimp +zetaDelta only; split)

theorem ykCtrl_keeps (s : State) (x1 : Word) : Keeps 0x102584 s (@State.ykCtrl s x1) := by
  delta State.ykCtrl; repeat' with_reducible first
    | extract_lets | assumption | exact Keeps.refl | refine (doCalStartReq_keeps ..).step ?_ rfl
    | refine (doCalStopReq_keeps ..).step ?_ rfl | apply Keeps.ite | refine Keeps.foldl ?_ fun _ _ _ => ?_
    | refine Keeps.foldl1 ?_ fun _ _ _ => ?_ | refine Keeps.foldl2 ?_ fun _ _ _ => ?_
    | refine Keeps.foldl22 ?_ fun _ _ _ => ?_ | apply Keeps.forLanes | apply Keeps.getD | split | (intro _ _ _)
    | (intro _ _) | fail_if_no_progress refine Keeps.upd ?_ | (dsimp +zetaDelta only; split)

theorem writeServices_keeps (s : State) (x1 : Reg) (x2 : List Nat) (x3 : Word) (p) (hp : @State.writeServices s x1 x2
    x3 = some p) : Keeps 0x102584 s p := by
  delta State.writeServices at hp; (repeat' (first | extract_lets at hp | split at hp)) <;> (first | cases hp | skip)
  all_goals repeat' with_reducible first
    | extract_lets | assumption | exact Keeps.refl | refine (doTagIdWrite_keeps ..).step ?_ rfl
    | refine (doPthExclWrite_keeps ..).step ?_ rfl | refine (doPthExclSetWrite_keeps ..).step ?_ rfl
    | refine (doClrCtrlWrite_keeps ..).step ?_ rfl | refine (doTimeSetArm_keeps ..).step ?_ rfl
    | refine (ykCtrl_keeps ..).step ?_ rfl | refine (doYkGridWrite_keeps ..).step ?_ rfl
    | refine (doCalSwitchReq_keeps ..).step ?_ rfl | refine (plainWrite_keeps ..).step ?_ rfl | apply Keeps.ite
    | refine Keeps.foldl ?_ fun _ _ _ => ?_ | refine Keeps.foldl1 ?_ fun _ _ _ => ?_
    | refine Keeps.foldl2 ?_ fun _ _ _ => ?_ | refine Keeps.foldl22 ?_ fun _ _ _ => ?_ | apply Keeps.forLanes
    | apply Keeps.getD | split | (intro _ _ _) | (intro _ _) | fail_if_no_progress refine Keeps.upd ?_
    | (dsimp +zetaDelta only; split)

theorem writeReg_keeps (s : State) (r : Reg) (ix : List Nat) (v : Word) : Keeps 0x3fffbc s (s.writeReg r ix v) := by
  delta State.writeReg
  refine Keeps.getD ((plainWrite_keeps s _ _ _).step Keeps.refl rfl) fun t ht => ?_
  cases h1 : s.writeLoops r ix v with
  | some x => rw [h1] at ht; exact (writeLoops_keeps s _ _ _ _ (h1.trans ht)).step Keeps.refl rfl
  | none =>
    rw [h1] at ht
    cases h2 : s.writeServices r ix v with
    | some x => rw [h2] at ht; exact (writeServices_keeps s _ _ _ _ (h2.trans ht)).step Keeps.refl rfl
    | none =>
      rw [h2] at ht
      cases h3 : s.writeHost r ix v with
      | some x => rw [h3] at ht; exact (writeHost_keeps s _ _ _ _ (h3.trans ht)).step Keeps.refl rfl
      | none => rw [h3] at ht; exact (writeManage_keeps s _ _ _ _ ht).step Keeps.refl rfl

theorem doBar0Error_keeps (x0 : Bool) (s : State) : Keeps 0x502004 s (@doBar0Error x0 s) := by
  delta doBar0Error; repeat' with_reducible first
    | extract_lets | assumption | exact Keeps.refl | refine (hifErr_keeps ..).step ?_ rfl | apply Keeps.ite
    | refine Keeps.foldl ?_ fun _ _ _ => ?_ | refine Keeps.foldl1 ?_ fun _ _ _ => ?_
    | refine Keeps.foldl2 ?_ fun _ _ _ => ?_ | refine Keeps.foldl22 ?_ fun _ _ _ => ?_ | apply Keeps.forLanes
    | apply Keeps.getD | split | (intro _ _ _) | (intro _ _) | fail_if_no_progress refine Keeps.upd ?_
    | (dsimp +zetaDelta only; split)

theorem doRcRead_keeps (x0 : Nat) (s : State) : Keeps 0x425084 s (@doRcRead x0 s) := by
  delta doRcRead; repeat' with_reducible first
    | extract_lets | assumption | exact Keeps.refl | refine (readAt_keeps ..).step ?_ rfl | apply Keeps.ite
    | refine Keeps.foldl ?_ fun _ _ _ => ?_ | refine Keeps.foldl1 ?_ fun _ _ _ => ?_
    | refine Keeps.foldl2 ?_ fun _ _ _ => ?_ | refine Keeps.foldl22 ?_ fun _ _ _ => ?_ | apply Keeps.forLanes
    | apply Keeps.getD | split | (intro _ _ _) | (intro _ _) | fail_if_no_progress refine Keeps.upd ?_
    | (dsimp +zetaDelta only; split)

theorem doRegisterWrite_keeps (x0 : Nat) (x1 : Word) (s : State) : Keeps 0x3fffbc s (@doRegisterWrite x0 x1 s) := by
  delta doRegisterWrite; repeat' with_reducible first
    | extract_lets | assumption | exact Keeps.refl | refine (writeReg_keeps ..).step ?_ rfl | apply Keeps.ite
    | refine Keeps.foldl ?_ fun _ _ _ => ?_ | refine Keeps.foldl1 ?_ fun _ _ _ => ?_
    | refine Keeps.foldl2 ?_ fun _ _ _ => ?_ | refine Keeps.foldl22 ?_ fun _ _ _ => ?_ | apply Keeps.forLanes
    | apply Keeps.getD | split | (intro _ _ _) | (intro _ _) | fail_if_no_progress refine Keeps.upd ?_
    | (dsimp +zetaDelta only; split)

theorem freeRead_keeps (s : State) : Keeps 0x600000 s (@State.freeRead s) := by
  delta State.freeRead; repeat' with_reducible first
    | extract_lets | assumption | exact Keeps.refl | refine (takeFree_keeps _ _ rfl).step ?_ rfl
    | refine (takeFree_keeps _ (_, _) (by assumption)).step ?_ rfl | apply Keeps.ite
    | refine Keeps.foldl ?_ fun _ _ _ => ?_ | refine Keeps.foldl1 ?_ fun _ _ _ => ?_
    | refine Keeps.foldl2 ?_ fun _ _ _ => ?_ | refine Keeps.foldl22 ?_ fun _ _ _ => ?_ | apply Keeps.forLanes
    | apply Keeps.getD | split | (intro _ _ _) | (intro _ _) | fail_if_no_progress refine Keeps.upd ?_
    | (dsimp +zetaDelta only; split)

theorem setOob_keeps (s : State) (x1 : Oob) : Keeps 0x100000 s (@State.setOob s x1) := by
  delta State.setOob; repeat' with_reducible first
    | extract_lets | assumption | exact Keeps.refl | refine (setPrl_keeps ..).step ?_ rfl | apply Keeps.ite
    | refine Keeps.foldl ?_ fun _ _ _ => ?_ | refine Keeps.foldl1 ?_ fun _ _ _ => ?_
    | refine Keeps.foldl2 ?_ fun _ _ _ => ?_ | refine Keeps.foldl22 ?_ fun _ _ _ => ?_ | apply Keeps.forLanes
    | apply Keeps.getD | split | (intro _ _ _) | (intro _ _) | fail_if_no_progress refine Keeps.upd ?_
    | (dsimp +zetaDelta only; split)

theorem oobData_keeps (s : State) (x1 : Word) : Keeps 0x500000 s (@State.oobData s x1) := by
  delta State.oobData; repeat' with_reducible first
    | extract_lets | assumption | exact Keeps.refl | refine (setOob_keeps ..).step ?_ rfl | apply Keeps.ite
    | refine Keeps.foldl ?_ fun _ _ _ => ?_ | refine Keeps.foldl1 ?_ fun _ _ _ => ?_
    | refine Keeps.foldl2 ?_ fun _ _ _ => ?_ | refine Keeps.foldl22 ?_ fun _ _ _ => ?_ | apply Keeps.forLanes
    | apply Keeps.getD | split | (intro _ _ _) | (intro _ _) | fail_if_no_progress refine Keeps.upd ?_
    | (dsimp +zetaDelta only; split)

theorem prefetch_keeps (s : State) : Keeps 0x100000 s (@State.prefetch s) := by
  delta State.prefetch; repeat' with_reducible first
    | extract_lets | assumption | exact Keeps.refl | refine (setOob_keeps ..).step ?_ rfl | apply Keeps.ite
    | refine Keeps.foldl ?_ fun _ _ _ => ?_ | refine Keeps.foldl1 ?_ fun _ _ _ => ?_
    | refine Keeps.foldl2 ?_ fun _ _ _ => ?_ | refine Keeps.foldl22 ?_ fun _ _ _ => ?_ | apply Keeps.forLanes
    | apply Keeps.getD | split | (intro _ _ _) | (intro _ _) | fail_if_no_progress refine Keeps.upd ?_
    | (dsimp +zetaDelta only; split)

theorem oobDone_keeps (s : State) : Keeps 0x100000 s (@State.oobDone s) := by
  delta State.oobDone; repeat' with_reducible first
    | extract_lets | assumption | exact Keeps.refl | refine (prefetch_keeps ..).step ?_ rfl
    | refine (setOob_keeps ..).step ?_ rfl | apply Keeps.ite | refine Keeps.foldl ?_ fun _ _ _ => ?_
    | refine Keeps.foldl1 ?_ fun _ _ _ => ?_ | refine Keeps.foldl2 ?_ fun _ _ _ => ?_
    | refine Keeps.foldl22 ?_ fun _ _ _ => ?_ | apply Keeps.forLanes | apply Keeps.getD | split | (intro _ _ _)
    | (intro _ _) | fail_if_no_progress refine Keeps.upd ?_ | (dsimp +zetaDelta only; split)

theorem oobFail_keeps (s : State) (x1 : Nat) : Keeps 0x100000 s (@State.oobFail s x1) := by
  delta State.oobFail; repeat' with_reducible first
    | extract_lets | assumption | exact Keeps.refl | refine (setOob_keeps ..).step ?_ rfl | apply Keeps.ite
    | refine Keeps.foldl ?_ fun _ _ _ => ?_ | refine Keeps.foldl1 ?_ fun _ _ _ => ?_
    | refine Keeps.foldl2 ?_ fun _ _ _ => ?_ | refine Keeps.foldl22 ?_ fun _ _ _ => ?_ | apply Keeps.forLanes
    | apply Keeps.getD | split | (intro _ _ _) | (intro _ _) | fail_if_no_progress refine Keeps.upd ?_
    | (dsimp +zetaDelta only; split)

theorem oobGive_keeps (s : State) (x1 : Nat) (x2 : Word) : Keeps 0x500000 s (@State.oobGive s x1 x2) := by
  delta State.oobGive; repeat' with_reducible first
    | extract_lets | assumption | exact Keeps.refl | refine (setOob_keeps ..).step ?_ rfl | apply Keeps.ite
    | refine Keeps.foldl ?_ fun _ _ _ => ?_ | refine Keeps.foldl1 ?_ fun _ _ _ => ?_
    | refine Keeps.foldl2 ?_ fun _ _ _ => ?_ | refine Keeps.foldl22 ?_ fun _ _ _ => ?_ | apply Keeps.forLanes
    | apply Keeps.getD | split | (intro _ _ _) | (intro _ _) | fail_if_no_progress refine Keeps.upd ?_
    | (dsimp +zetaDelta only; split)

theorem oobRead_keeps (s : State) : Keeps 0x725084 s (@State.oobRead s) := by
  delta State.oobRead; repeat' with_reducible first
    | extract_lets | assumption | exact Keeps.refl | refine (readAt_keeps ..).step ?_ rfl
    | refine (oobDone_keeps ..).step ?_ rfl | refine (oobData_keeps ..).step ?_ rfl
    | refine (freeRead_keeps ..).step ?_ rfl | refine (oobFail_keeps ..).step ?_ rfl | apply Keeps.ite
    | refine Keeps.foldl ?_ fun _ _ _ => ?_ | refine Keeps.foldl1 ?_ fun _ _ _ => ?_
    | refine Keeps.foldl2 ?_ fun _ _ _ => ?_ | refine Keeps.foldl22 ?_ fun _ _ _ => ?_ | apply Keeps.forLanes
    | apply Keeps.getD | split | (intro _ _ _) | (intro _ _) | fail_if_no_progress refine Keeps.upd ?_
    | (dsimp +zetaDelta only; split)

theorem oobTook_keeps (s : State) (x1 : Word) : Keeps 0x100000 s (@State.oobTook s x1) := by
  delta State.oobTook; repeat' with_reducible first
    | extract_lets | assumption | exact Keeps.refl | refine (oobDone_keeps ..).step ?_ rfl
    | refine (setOob_keeps ..).step ?_ rfl | apply Keeps.ite | refine Keeps.foldl ?_ fun _ _ _ => ?_
    | refine Keeps.foldl1 ?_ fun _ _ _ => ?_ | refine Keeps.foldl2 ?_ fun _ _ _ => ?_
    | refine Keeps.foldl22 ?_ fun _ _ _ => ?_ | apply Keeps.forLanes | apply Keeps.getD | split | (intro _ _ _)
    | (intro _ _) | fail_if_no_progress refine Keeps.upd ?_ | (dsimp +zetaDelta only; split)

theorem oobStage_keeps (s : State) (x1 : Nat) (x2 : Word) : Keeps 0x100000 s (@State.oobStage s x1 x2) := by
  delta State.oobStage; repeat' with_reducible first
    | extract_lets | assumption | exact Keeps.refl | refine (oobFail_keeps ..).step ?_ rfl
    | refine (oobTook_keeps ..).step ?_ rfl | refine (stageWrite_keeps ..).step ?_ rfl | apply Keeps.ite
    | refine Keeps.foldl ?_ fun _ _ _ => ?_ | refine Keeps.foldl1 ?_ fun _ _ _ => ?_
    | refine Keeps.foldl2 ?_ fun _ _ _ => ?_ | refine Keeps.foldl22 ?_ fun _ _ _ => ?_ | apply Keeps.forLanes
    | apply Keeps.getD | split | (intro _ _ _) | (intro _ _) | fail_if_no_progress refine Keeps.upd ?_
    | (dsimp +zetaDelta only; split)

theorem oobWrite_keeps (s : State) (x1 : Word) : Keeps 0x3fffbc s (@State.oobWrite s x1) := by
  delta State.oobWrite; repeat' with_reducible first
    | extract_lets | assumption | exact Keeps.refl | refine (oobFail_keeps ..).step ?_ rfl
    | refine (oobTook_keeps ..).step ?_ rfl | refine (doPrlStage_keeps ..).step ?_ rfl
    | refine (doRegisterWrite_keeps ..).step ?_ rfl | refine (oobStage_keeps ..).step ?_ rfl | apply Keeps.ite
    | refine Keeps.foldl ?_ fun _ _ _ => ?_ | refine Keeps.foldl1 ?_ fun _ _ _ => ?_
    | refine Keeps.foldl2 ?_ fun _ _ _ => ?_ | refine Keeps.foldl22 ?_ fun _ _ _ => ?_ | apply Keeps.forLanes
    | apply Keeps.getD | split | (intro _ _ _) | (intro _ _) | fail_if_no_progress refine Keeps.upd ?_
    | (dsimp +zetaDelta only; split)

theorem smbStart_keeps (s : State) : Keeps 0x100004 s (@State.smbStart s) := by
  delta State.smbStart; repeat' with_reducible first
    | extract_lets | assumption | exact Keeps.refl | refine (icEdge_keeps ..).step ?_ rfl | apply Keeps.ite
    | refine Keeps.foldl ?_ fun _ _ _ => ?_ | refine Keeps.foldl1 ?_ fun _ _ _ => ?_
    | refine Keeps.foldl2 ?_ fun _ _ _ => ?_ | refine Keeps.foldl22 ?_ fun _ _ _ => ?_ | apply Keeps.forLanes
    | apply Keeps.getD | split | (intro _ _ _) | (intro _ _) | fail_if_no_progress refine Keeps.upd ?_
    | (dsimp +zetaDelta only; split)

theorem doAlertResponse_keeps (s : State) : Keeps 0x600000 s (@doAlertResponse s) := by
  delta doAlertResponse; repeat' with_reducible first
    | extract_lets | assumption | exact Keeps.refl | refine (takeFree_keeps _ _ rfl).step ?_ rfl
    | refine (takeFree_keeps _ (_, _) (by assumption)).step ?_ rfl | apply Keeps.ite
    | refine Keeps.foldl ?_ fun _ _ _ => ?_ | refine Keeps.foldl1 ?_ fun _ _ _ => ?_
    | refine Keeps.foldl2 ?_ fun _ _ _ => ?_ | refine Keeps.foldl22 ?_ fun _ _ _ => ?_ | apply Keeps.forLanes
    | apply Keeps.getD | split | (intro _ _ _) | (intro _ _) | fail_if_no_progress refine Keeps.upd ?_
    | (dsimp +zetaDelta only; split)

theorem doRead32_keeps (x0 : Nat) (x1 : Nat) (s : State) : Keeps 0x725084 s (@doRead32 x0 x1 s) := by
  delta doRead32; repeat' with_reducible first
    | extract_lets | assumption | exact Keeps.refl | refine (smbStart_keeps ..).step ?_ rfl
    | refine (passTo_keeps ..).step ?_ rfl | refine (oobGive_keeps ..).step ?_ rfl
    | refine (oobRead_keeps ..).step ?_ rfl | apply Keeps.ite | refine Keeps.foldl ?_ fun _ _ _ => ?_
    | refine Keeps.foldl1 ?_ fun _ _ _ => ?_ | refine Keeps.foldl2 ?_ fun _ _ _ => ?_
    | refine Keeps.foldl22 ?_ fun _ _ _ => ?_ | apply Keeps.forLanes | apply Keeps.getD | split | (intro _ _ _)
    | (intro _ _) | fail_if_no_progress refine Keeps.upd ?_ | (dsimp +zetaDelta only; split)

theorem doSmbusTimeout_keeps (s : State) : Keeps 0x725084 s (@doSmbusTimeout s) := by
  delta doSmbusTimeout; repeat' with_reducible first
    | extract_lets | assumption | exact Keeps.refl | refine (takeFree_keeps _ _ rfl).step ?_ rfl
    | refine (takeFree_keeps _ (_, _) (by assumption)).step ?_ rfl | refine (smbStart_keeps ..).step ?_ rfl
    | refine (readAt_keeps ..).step ?_ rfl | apply Keeps.ite | refine Keeps.foldl ?_ fun _ _ _ => ?_
    | refine Keeps.foldl1 ?_ fun _ _ _ => ?_ | refine Keeps.foldl2 ?_ fun _ _ _ => ?_
    | refine Keeps.foldl22 ?_ fun _ _ _ => ?_ | apply Keeps.forLanes | apply Keeps.getD | split | (intro _ _ _)
    | (intro _ _) | fail_if_no_progress refine Keeps.upd ?_ | (dsimp +zetaDelta only; split)

theorem doWrite32_keeps (x0 : Nat) (x1 : Word) (x2 : Option Byte) (x3 : Nat) (s : State) : Keeps 0x3fffbc s
    (@doWrite32 x0 x1 x2 x3 s) := by
  delta doWrite32; repeat' with_reducible first
    | extract_lets | assumption | exact Keeps.refl | refine (smbStart_keeps ..).step ?_ rfl
    | refine (passTo_keeps ..).step ?_ rfl | refine (oobFail_keeps ..).step ?_ rfl
    | refine (setOob_keeps ..).step ?_ rfl | refine (prefetch_keeps ..).step ?_ rfl
    | refine (oobWrite_keeps ..).step ?_ rfl | apply Keeps.ite | refine Keeps.foldl ?_ fun _ _ _ => ?_
    | refine Keeps.foldl1 ?_ fun _ _ _ => ?_ | refine Keeps.foldl2 ?_ fun _ _ _ => ?_
    | refine Keeps.foldl22 ?_ fun _ _ _ => ?_ | apply Keeps.forLanes | apply Keeps.getD | split | (intro _ _ _)
    | (intro _ _) | fail_if_no_progress refine Keeps.upd ?_ | (dsimp +zetaDelta only; split)

end Sys2Proof.Machine
end

