-- ==== Sys2Proof/Laws/State.lean ====
section
/-! SUPPORT. What each update of State leaves in each field: one lemma per field per update, each true by rfl. -/
namespace Sys2Proof.Machine
variable (s : State)

@[simp] theorem State.setReg_pending (r : Reg) (ix : List Nat) (v : Word) : (s.setReg r ix v).pending = s.pending := rfl
@[simp] theorem State.setReg_sys (r : Reg) (ix : List Nat) (v : Word) : (s.setReg r ix v).sys = s.sys := rfl
@[simp] theorem State.setReg_regs (r : Reg) (ix : List Nat) (v : Word) : (s.setReg r ix v).regs = sset s.regs (r.at ix) v := rfl
@[simp] theorem State.setReg_plk (r : Reg) (ix : List Nat) (v : Word) : (s.setReg r ix v).plk = s.plk := rfl
@[simp] theorem State.setReg_lanes (r : Reg) (ix : List Nat) (v : Word) : (s.setReg r ix v).lanes = s.lanes := rfl
@[simp] theorem State.setReg_clusters (r : Reg) (ix : List Nat) (v : Word) : (s.setReg r ix v).clusters = s.clusters := rfl
@[simp] theorem State.setReg_col (r : Reg) (ix : List Nat) (v : Word) : (s.setReg r ix v).col = s.col := rfl
@[simp] theorem State.setReg_clr (r : Reg) (ix : List Nat) (v : Word) : (s.setReg r ix v).clr = s.clr := rfl
@[simp] theorem State.setReg_yk (r : Reg) (ix : List Nat) (v : Word) : (s.setReg r ix v).yk = s.yk := rfl
@[simp] theorem State.setReg_pth (r : Reg) (ix : List Nat) (v : Word) : (s.setReg r ix v).pth = s.pth := rfl
@[simp] theorem State.setReg_pair (r : Reg) (ix : List Nat) (v : Word) : (s.setReg r ix v).pair = s.pair := rfl
@[simp] theorem State.setReg_fab (r : Reg) (ix : List Nat) (v : Word) : (s.setReg r ix v).fab = s.fab := rfl
@[simp] theorem State.setReg_sgf (r : Reg) (ix : List Nat) (v : Word) : (s.setReg r ix v).sgf = s.sgf := rfl
@[simp] theorem State.setReg_hif (r : Reg) (ix : List Nat) (v : Word) : (s.setReg r ix v).hif = s.hif := rfl
@[simp] theorem State.setReg_cap (r : Reg) (ix : List Nat) (v : Word) : (s.setReg r ix v).cap = s.cap := rfl
@[simp] theorem State.setReg_flt (r : Reg) (ix : List Nat) (v : Word) : (s.setReg r ix v).flt = s.flt := rfl
@[simp] theorem State.setReg_pwr (r : Reg) (ix : List Nat) (v : Word) : (s.setReg r ix v).pwr = s.pwr := rfl
@[simp] theorem State.setReg_thm (r : Reg) (ix : List Nat) (v : Word) : (s.setReg r ix v).thm = s.thm := rfl
@[simp] theorem State.setReg_pwm (r : Reg) (ix : List Nat) (v : Word) : (s.setReg r ix v).pwm = s.pwm := rfl
@[simp] theorem State.setReg_cal (r : Reg) (ix : List Nat) (v : Word) : (s.setReg r ix v).cal = s.cal := rfl
@[simp] theorem State.setReg_prl (r : Reg) (ix : List Nat) (v : Word) : (s.setReg r ix v).prl = s.prl := rfl
@[simp] theorem State.setReg_freeN (r : Reg) (ix : List Nat) (v : Word) : (s.setReg r ix v).freeN = s.freeN := rfl
@[simp] theorem State.setReg_rdata (r : Reg) (ix : List Nat) (v : Word) : (s.setReg r ix v).rdata = s.rdata := rfl
@[simp] theorem State.setReg_hostMem (r : Reg) (ix : List Nat) (v : Word) : (s.setReg r ix v).hostMem = s.hostMem := rfl

@[simp] theorem State.setF_pending (x : Fld) (ix : List Nat) (v : Nat) : (s.setF x ix v).pending = s.pending := rfl
@[simp] theorem State.setF_sys (x : Fld) (ix : List Nat) (v : Nat) : (s.setF x ix v).sys = s.sys := rfl
@[simp] theorem State.setF_plk (x : Fld) (ix : List Nat) (v : Nat) : (s.setF x ix v).plk = s.plk := rfl
@[simp] theorem State.setF_lanes (x : Fld) (ix : List Nat) (v : Nat) : (s.setF x ix v).lanes = s.lanes := rfl
@[simp] theorem State.setF_clusters (x : Fld) (ix : List Nat) (v : Nat) : (s.setF x ix v).clusters = s.clusters := rfl
@[simp] theorem State.setF_col (x : Fld) (ix : List Nat) (v : Nat) : (s.setF x ix v).col = s.col := rfl
@[simp] theorem State.setF_clr (x : Fld) (ix : List Nat) (v : Nat) : (s.setF x ix v).clr = s.clr := rfl
@[simp] theorem State.setF_yk (x : Fld) (ix : List Nat) (v : Nat) : (s.setF x ix v).yk = s.yk := rfl
@[simp] theorem State.setF_pth (x : Fld) (ix : List Nat) (v : Nat) : (s.setF x ix v).pth = s.pth := rfl
@[simp] theorem State.setF_pair (x : Fld) (ix : List Nat) (v : Nat) : (s.setF x ix v).pair = s.pair := rfl
@[simp] theorem State.setF_fab (x : Fld) (ix : List Nat) (v : Nat) : (s.setF x ix v).fab = s.fab := rfl
@[simp] theorem State.setF_sgf (x : Fld) (ix : List Nat) (v : Nat) : (s.setF x ix v).sgf = s.sgf := rfl
@[simp] theorem State.setF_hif (x : Fld) (ix : List Nat) (v : Nat) : (s.setF x ix v).hif = s.hif := rfl
@[simp] theorem State.setF_cap (x : Fld) (ix : List Nat) (v : Nat) : (s.setF x ix v).cap = s.cap := rfl
@[simp] theorem State.setF_flt (x : Fld) (ix : List Nat) (v : Nat) : (s.setF x ix v).flt = s.flt := rfl
@[simp] theorem State.setF_pwr (x : Fld) (ix : List Nat) (v : Nat) : (s.setF x ix v).pwr = s.pwr := rfl
@[simp] theorem State.setF_thm (x : Fld) (ix : List Nat) (v : Nat) : (s.setF x ix v).thm = s.thm := rfl
@[simp] theorem State.setF_pwm (x : Fld) (ix : List Nat) (v : Nat) : (s.setF x ix v).pwm = s.pwm := rfl
@[simp] theorem State.setF_cal (x : Fld) (ix : List Nat) (v : Nat) : (s.setF x ix v).cal = s.cal := rfl
@[simp] theorem State.setF_prl (x : Fld) (ix : List Nat) (v : Nat) : (s.setF x ix v).prl = s.prl := rfl
@[simp] theorem State.setF_freeN (x : Fld) (ix : List Nat) (v : Nat) : (s.setF x ix v).freeN = s.freeN := rfl
@[simp] theorem State.setF_rdata (x : Fld) (ix : List Nat) (v : Nat) : (s.setF x ix v).rdata = s.rdata := rfl
@[simp] theorem State.setF_hostMem (x : Fld) (ix : List Nat) (v : Nat) : (s.setF x ix v).hostMem = s.hostMem := rfl

@[simp] theorem State.setLane_pending (e : Nat) (l : Lane) : (s.setLane e l).pending = s.pending := rfl
@[simp] theorem State.setLane_sys (e : Nat) (l : Lane) : (s.setLane e l).sys = s.sys := rfl
@[simp] theorem State.setLane_regs (e : Nat) (l : Lane) : (s.setLane e l).regs = s.regs := rfl
@[simp] theorem State.setLane_plk (e : Nat) (l : Lane) : (s.setLane e l).plk = s.plk := rfl
@[simp] theorem State.setLane_lanes (e : Nat) (l : Lane) : (s.setLane e l).lanes = sset s.lanes e l := rfl
@[simp] theorem State.setLane_clusters (e : Nat) (l : Lane) : (s.setLane e l).clusters = s.clusters := rfl
@[simp] theorem State.setLane_col (e : Nat) (l : Lane) : (s.setLane e l).col = s.col := rfl
@[simp] theorem State.setLane_clr (e : Nat) (l : Lane) : (s.setLane e l).clr = s.clr := rfl
@[simp] theorem State.setLane_yk (e : Nat) (l : Lane) : (s.setLane e l).yk = s.yk := rfl
@[simp] theorem State.setLane_pth (e : Nat) (l : Lane) : (s.setLane e l).pth = s.pth := rfl
@[simp] theorem State.setLane_pair (e : Nat) (l : Lane) : (s.setLane e l).pair = s.pair := rfl
@[simp] theorem State.setLane_fab (e : Nat) (l : Lane) : (s.setLane e l).fab = s.fab := rfl
@[simp] theorem State.setLane_sgf (e : Nat) (l : Lane) : (s.setLane e l).sgf = s.sgf := rfl
@[simp] theorem State.setLane_hif (e : Nat) (l : Lane) : (s.setLane e l).hif = s.hif := rfl
@[simp] theorem State.setLane_cap (e : Nat) (l : Lane) : (s.setLane e l).cap = s.cap := rfl
@[simp] theorem State.setLane_flt (e : Nat) (l : Lane) : (s.setLane e l).flt = s.flt := rfl
@[simp] theorem State.setLane_pwr (e : Nat) (l : Lane) : (s.setLane e l).pwr = s.pwr := rfl
@[simp] theorem State.setLane_thm (e : Nat) (l : Lane) : (s.setLane e l).thm = s.thm := rfl
@[simp] theorem State.setLane_pwm (e : Nat) (l : Lane) : (s.setLane e l).pwm = s.pwm := rfl
@[simp] theorem State.setLane_cal (e : Nat) (l : Lane) : (s.setLane e l).cal = s.cal := rfl
@[simp] theorem State.setLane_prl (e : Nat) (l : Lane) : (s.setLane e l).prl = s.prl := rfl
@[simp] theorem State.setLane_freeN (e : Nat) (l : Lane) : (s.setLane e l).freeN = s.freeN := rfl
@[simp] theorem State.setLane_rdata (e : Nat) (l : Lane) : (s.setLane e l).rdata = s.rdata := rfl
@[simp] theorem State.setLane_hostMem (e : Nat) (l : Lane) : (s.setLane e l).hostMem = s.hostMem := rfl

@[simp] theorem State.setCl_pending (c : Nat) (k : Cluster) : (s.setCl c k).pending = s.pending := rfl
@[simp] theorem State.setCl_sys (c : Nat) (k : Cluster) : (s.setCl c k).sys = s.sys := rfl
@[simp] theorem State.setCl_regs (c : Nat) (k : Cluster) : (s.setCl c k).regs = s.regs := rfl
@[simp] theorem State.setCl_plk (c : Nat) (k : Cluster) : (s.setCl c k).plk = s.plk := rfl
@[simp] theorem State.setCl_lanes (c : Nat) (k : Cluster) : (s.setCl c k).lanes = s.lanes := rfl
@[simp] theorem State.setCl_clusters (c : Nat) (k : Cluster) : (s.setCl c k).clusters = sset s.clusters c k := rfl
@[simp] theorem State.setCl_col (c : Nat) (k : Cluster) : (s.setCl c k).col = s.col := rfl
@[simp] theorem State.setCl_clr (c : Nat) (k : Cluster) : (s.setCl c k).clr = s.clr := rfl
@[simp] theorem State.setCl_yk (c : Nat) (k : Cluster) : (s.setCl c k).yk = s.yk := rfl
@[simp] theorem State.setCl_pth (c : Nat) (k : Cluster) : (s.setCl c k).pth = s.pth := rfl
@[simp] theorem State.setCl_pair (c : Nat) (k : Cluster) : (s.setCl c k).pair = s.pair := rfl
@[simp] theorem State.setCl_fab (c : Nat) (k : Cluster) : (s.setCl c k).fab = s.fab := rfl
@[simp] theorem State.setCl_sgf (c : Nat) (k : Cluster) : (s.setCl c k).sgf = s.sgf := rfl
@[simp] theorem State.setCl_hif (c : Nat) (k : Cluster) : (s.setCl c k).hif = s.hif := rfl
@[simp] theorem State.setCl_cap (c : Nat) (k : Cluster) : (s.setCl c k).cap = s.cap := rfl
@[simp] theorem State.setCl_flt (c : Nat) (k : Cluster) : (s.setCl c k).flt = s.flt := rfl
@[simp] theorem State.setCl_pwr (c : Nat) (k : Cluster) : (s.setCl c k).pwr = s.pwr := rfl
@[simp] theorem State.setCl_thm (c : Nat) (k : Cluster) : (s.setCl c k).thm = s.thm := rfl
@[simp] theorem State.setCl_pwm (c : Nat) (k : Cluster) : (s.setCl c k).pwm = s.pwm := rfl
@[simp] theorem State.setCl_cal (c : Nat) (k : Cluster) : (s.setCl c k).cal = s.cal := rfl
@[simp] theorem State.setCl_prl (c : Nat) (k : Cluster) : (s.setCl c k).prl = s.prl := rfl
@[simp] theorem State.setCl_freeN (c : Nat) (k : Cluster) : (s.setCl c k).freeN = s.freeN := rfl
@[simp] theorem State.setCl_rdata (c : Nat) (k : Cluster) : (s.setCl c k).rdata = s.rdata := rfl
@[simp] theorem State.setCl_hostMem (c : Nat) (k : Cluster) : (s.setCl c k).hostMem = s.hostMem := rfl

@[simp] theorem State.setCap_pending (k : Nat) (r : CapRing) : (s.setCap k r).pending = s.pending := rfl
@[simp] theorem State.setCap_sys (k : Nat) (r : CapRing) : (s.setCap k r).sys = s.sys := rfl
@[simp] theorem State.setCap_regs (k : Nat) (r : CapRing) : (s.setCap k r).regs = s.regs := rfl
@[simp] theorem State.setCap_plk (k : Nat) (r : CapRing) : (s.setCap k r).plk = s.plk := rfl
@[simp] theorem State.setCap_lanes (k : Nat) (r : CapRing) : (s.setCap k r).lanes = s.lanes := rfl
@[simp] theorem State.setCap_clusters (k : Nat) (r : CapRing) : (s.setCap k r).clusters = s.clusters := rfl
@[simp] theorem State.setCap_col (k : Nat) (r : CapRing) : (s.setCap k r).col = s.col := rfl
@[simp] theorem State.setCap_clr (k : Nat) (r : CapRing) : (s.setCap k r).clr = s.clr := rfl
@[simp] theorem State.setCap_yk (k : Nat) (r : CapRing) : (s.setCap k r).yk = s.yk := rfl
@[simp] theorem State.setCap_pth (k : Nat) (r : CapRing) : (s.setCap k r).pth = s.pth := rfl
@[simp] theorem State.setCap_pair (k : Nat) (r : CapRing) : (s.setCap k r).pair = s.pair := rfl
@[simp] theorem State.setCap_fab (k : Nat) (r : CapRing) : (s.setCap k r).fab = s.fab := rfl
@[simp] theorem State.setCap_sgf (k : Nat) (r : CapRing) : (s.setCap k r).sgf = s.sgf := rfl
@[simp] theorem State.setCap_hif (k : Nat) (r : CapRing) : (s.setCap k r).hif = s.hif := rfl
@[simp] theorem State.setCap_cap (k : Nat) (r : CapRing) : (s.setCap k r).cap = sset s.cap k r := rfl
@[simp] theorem State.setCap_flt (k : Nat) (r : CapRing) : (s.setCap k r).flt = s.flt := rfl
@[simp] theorem State.setCap_pwr (k : Nat) (r : CapRing) : (s.setCap k r).pwr = s.pwr := rfl
@[simp] theorem State.setCap_thm (k : Nat) (r : CapRing) : (s.setCap k r).thm = s.thm := rfl
@[simp] theorem State.setCap_pwm (k : Nat) (r : CapRing) : (s.setCap k r).pwm = s.pwm := rfl
@[simp] theorem State.setCap_cal (k : Nat) (r : CapRing) : (s.setCap k r).cal = s.cal := rfl
@[simp] theorem State.setCap_prl (k : Nat) (r : CapRing) : (s.setCap k r).prl = s.prl := rfl
@[simp] theorem State.setCap_freeN (k : Nat) (r : CapRing) : (s.setCap k r).freeN = s.freeN := rfl
@[simp] theorem State.setCap_rdata (k : Nat) (r : CapRing) : (s.setCap k r).rdata = s.rdata := rfl
@[simp] theorem State.setCap_hostMem (k : Nat) (r : CapRing) : (s.setCap k r).hostMem = s.hostMem := rfl

@[simp] theorem State.setRing_pending (g : Nat) (r : Ring) : (s.setRing g r).pending = s.pending := rfl
@[simp] theorem State.setRing_sys (g : Nat) (r : Ring) : (s.setRing g r).sys = s.sys := rfl
@[simp] theorem State.setRing_regs (g : Nat) (r : Ring) : (s.setRing g r).regs = s.regs := rfl
@[simp] theorem State.setRing_plk (g : Nat) (r : Ring) : (s.setRing g r).plk = s.plk := rfl
@[simp] theorem State.setRing_lanes (g : Nat) (r : Ring) : (s.setRing g r).lanes = s.lanes := rfl
@[simp] theorem State.setRing_clusters (g : Nat) (r : Ring) : (s.setRing g r).clusters = s.clusters := rfl
@[simp] theorem State.setRing_col (g : Nat) (r : Ring) : (s.setRing g r).col = s.col := rfl
@[simp] theorem State.setRing_clr (g : Nat) (r : Ring) : (s.setRing g r).clr = s.clr := rfl
@[simp] theorem State.setRing_yk (g : Nat) (r : Ring) : (s.setRing g r).yk = s.yk := rfl
@[simp] theorem State.setRing_pth (g : Nat) (r : Ring) : (s.setRing g r).pth = s.pth := rfl
@[simp] theorem State.setRing_pair (g : Nat) (r : Ring) : (s.setRing g r).pair = s.pair := rfl
@[simp] theorem State.setRing_fab (g : Nat) (r : Ring) : (s.setRing g r).fab = s.fab := rfl
@[simp] theorem State.setRing_sgf (g : Nat) (r : Ring) : (s.setRing g r).sgf = s.sgf := rfl
@[simp] theorem State.setRing_hif (g : Nat) (r : Ring) : (s.setRing g r).hif = { s.hif with rings := sset s.hif.rings g r } := rfl
@[simp] theorem State.setRing_cap (g : Nat) (r : Ring) : (s.setRing g r).cap = s.cap := rfl
@[simp] theorem State.setRing_flt (g : Nat) (r : Ring) : (s.setRing g r).flt = s.flt := rfl
@[simp] theorem State.setRing_pwr (g : Nat) (r : Ring) : (s.setRing g r).pwr = s.pwr := rfl
@[simp] theorem State.setRing_thm (g : Nat) (r : Ring) : (s.setRing g r).thm = s.thm := rfl
@[simp] theorem State.setRing_pwm (g : Nat) (r : Ring) : (s.setRing g r).pwm = s.pwm := rfl
@[simp] theorem State.setRing_cal (g : Nat) (r : Ring) : (s.setRing g r).cal = s.cal := rfl
@[simp] theorem State.setRing_prl (g : Nat) (r : Ring) : (s.setRing g r).prl = s.prl := rfl
@[simp] theorem State.setRing_freeN (g : Nat) (r : Ring) : (s.setRing g r).freeN = s.freeN := rfl
@[simp] theorem State.setRing_rdata (g : Nat) (r : Ring) : (s.setRing g r).rdata = s.rdata := rfl
@[simp] theorem State.setRing_hostMem (g : Nat) (r : Ring) : (s.setRing g r).hostMem = s.hostMem := rfl

@[simp] theorem State.setClr_pending (k : Clr) : (s.setClr k).pending = s.pending := rfl
@[simp] theorem State.setClr_sys (k : Clr) : (s.setClr k).sys = s.sys := rfl
@[simp] theorem State.setClr_regs (k : Clr) : (s.setClr k).regs = s.regs := rfl
@[simp] theorem State.setClr_plk (k : Clr) : (s.setClr k).plk = s.plk := rfl
@[simp] theorem State.setClr_lanes (k : Clr) : (s.setClr k).lanes = s.lanes := rfl
@[simp] theorem State.setClr_clusters (k : Clr) : (s.setClr k).clusters = s.clusters := rfl
@[simp] theorem State.setClr_col (k : Clr) : (s.setClr k).col = s.col := rfl
@[simp] theorem State.setClr_clr (k : Clr) : (s.setClr k).clr = k := rfl
@[simp] theorem State.setClr_yk (k : Clr) : (s.setClr k).yk = s.yk := rfl
@[simp] theorem State.setClr_pth (k : Clr) : (s.setClr k).pth = s.pth := rfl
@[simp] theorem State.setClr_pair (k : Clr) : (s.setClr k).pair = s.pair := rfl
@[simp] theorem State.setClr_fab (k : Clr) : (s.setClr k).fab = s.fab := rfl
@[simp] theorem State.setClr_sgf (k : Clr) : (s.setClr k).sgf = s.sgf := rfl
@[simp] theorem State.setClr_hif (k : Clr) : (s.setClr k).hif = s.hif := rfl
@[simp] theorem State.setClr_cap (k : Clr) : (s.setClr k).cap = s.cap := rfl
@[simp] theorem State.setClr_flt (k : Clr) : (s.setClr k).flt = s.flt := rfl
@[simp] theorem State.setClr_pwr (k : Clr) : (s.setClr k).pwr = s.pwr := rfl
@[simp] theorem State.setClr_thm (k : Clr) : (s.setClr k).thm = s.thm := rfl
@[simp] theorem State.setClr_pwm (k : Clr) : (s.setClr k).pwm = s.pwm := rfl
@[simp] theorem State.setClr_cal (k : Clr) : (s.setClr k).cal = s.cal := rfl
@[simp] theorem State.setClr_prl (k : Clr) : (s.setClr k).prl = s.prl := rfl
@[simp] theorem State.setClr_freeN (k : Clr) : (s.setClr k).freeN = s.freeN := rfl
@[simp] theorem State.setClr_rdata (k : Clr) : (s.setClr k).rdata = s.rdata := rfl
@[simp] theorem State.setClr_hostMem (k : Clr) : (s.setClr k).hostMem = s.hostMem := rfl

@[simp] theorem State.setPair_pending (k : Pair) : (s.setPair k).pending = s.pending := rfl
@[simp] theorem State.setPair_sys (k : Pair) : (s.setPair k).sys = s.sys := rfl
@[simp] theorem State.setPair_regs (k : Pair) : (s.setPair k).regs = s.regs := rfl
@[simp] theorem State.setPair_plk (k : Pair) : (s.setPair k).plk = s.plk := rfl
@[simp] theorem State.setPair_lanes (k : Pair) : (s.setPair k).lanes = s.lanes := rfl
@[simp] theorem State.setPair_clusters (k : Pair) : (s.setPair k).clusters = s.clusters := rfl
@[simp] theorem State.setPair_col (k : Pair) : (s.setPair k).col = s.col := rfl
@[simp] theorem State.setPair_clr (k : Pair) : (s.setPair k).clr = s.clr := rfl
@[simp] theorem State.setPair_yk (k : Pair) : (s.setPair k).yk = s.yk := rfl
@[simp] theorem State.setPair_pth (k : Pair) : (s.setPair k).pth = s.pth := rfl
@[simp] theorem State.setPair_pair (k : Pair) : (s.setPair k).pair = k := rfl
@[simp] theorem State.setPair_fab (k : Pair) : (s.setPair k).fab = s.fab := rfl
@[simp] theorem State.setPair_sgf (k : Pair) : (s.setPair k).sgf = s.sgf := rfl
@[simp] theorem State.setPair_hif (k : Pair) : (s.setPair k).hif = s.hif := rfl
@[simp] theorem State.setPair_cap (k : Pair) : (s.setPair k).cap = s.cap := rfl
@[simp] theorem State.setPair_flt (k : Pair) : (s.setPair k).flt = s.flt := rfl
@[simp] theorem State.setPair_pwr (k : Pair) : (s.setPair k).pwr = s.pwr := rfl
@[simp] theorem State.setPair_thm (k : Pair) : (s.setPair k).thm = s.thm := rfl
@[simp] theorem State.setPair_pwm (k : Pair) : (s.setPair k).pwm = s.pwm := rfl
@[simp] theorem State.setPair_cal (k : Pair) : (s.setPair k).cal = s.cal := rfl
@[simp] theorem State.setPair_prl (k : Pair) : (s.setPair k).prl = s.prl := rfl
@[simp] theorem State.setPair_freeN (k : Pair) : (s.setPair k).freeN = s.freeN := rfl
@[simp] theorem State.setPair_rdata (k : Pair) : (s.setPair k).rdata = s.rdata := rfl
@[simp] theorem State.setPair_hostMem (k : Pair) : (s.setPair k).hostMem = s.hostMem := rfl

@[simp] theorem State.setFab_pending (k : Fab) : (s.setFab k).pending = s.pending := rfl
@[simp] theorem State.setFab_sys (k : Fab) : (s.setFab k).sys = s.sys := rfl
@[simp] theorem State.setFab_regs (k : Fab) : (s.setFab k).regs = s.regs := rfl
@[simp] theorem State.setFab_plk (k : Fab) : (s.setFab k).plk = s.plk := rfl
@[simp] theorem State.setFab_lanes (k : Fab) : (s.setFab k).lanes = s.lanes := rfl
@[simp] theorem State.setFab_clusters (k : Fab) : (s.setFab k).clusters = s.clusters := rfl
@[simp] theorem State.setFab_col (k : Fab) : (s.setFab k).col = s.col := rfl
@[simp] theorem State.setFab_clr (k : Fab) : (s.setFab k).clr = s.clr := rfl
@[simp] theorem State.setFab_yk (k : Fab) : (s.setFab k).yk = s.yk := rfl
@[simp] theorem State.setFab_pth (k : Fab) : (s.setFab k).pth = s.pth := rfl
@[simp] theorem State.setFab_pair (k : Fab) : (s.setFab k).pair = s.pair := rfl
@[simp] theorem State.setFab_fab (k : Fab) : (s.setFab k).fab = k := rfl
@[simp] theorem State.setFab_sgf (k : Fab) : (s.setFab k).sgf = s.sgf := rfl
@[simp] theorem State.setFab_hif (k : Fab) : (s.setFab k).hif = s.hif := rfl
@[simp] theorem State.setFab_cap (k : Fab) : (s.setFab k).cap = s.cap := rfl
@[simp] theorem State.setFab_flt (k : Fab) : (s.setFab k).flt = s.flt := rfl
@[simp] theorem State.setFab_pwr (k : Fab) : (s.setFab k).pwr = s.pwr := rfl
@[simp] theorem State.setFab_thm (k : Fab) : (s.setFab k).thm = s.thm := rfl
@[simp] theorem State.setFab_pwm (k : Fab) : (s.setFab k).pwm = s.pwm := rfl
@[simp] theorem State.setFab_cal (k : Fab) : (s.setFab k).cal = s.cal := rfl
@[simp] theorem State.setFab_prl (k : Fab) : (s.setFab k).prl = s.prl := rfl
@[simp] theorem State.setFab_freeN (k : Fab) : (s.setFab k).freeN = s.freeN := rfl
@[simp] theorem State.setFab_rdata (k : Fab) : (s.setFab k).rdata = s.rdata := rfl
@[simp] theorem State.setFab_hostMem (k : Fab) : (s.setFab k).hostMem = s.hostMem := rfl

@[simp] theorem State.setSgf_pending (k : Sgf) : (s.setSgf k).pending = s.pending := rfl
@[simp] theorem State.setSgf_sys (k : Sgf) : (s.setSgf k).sys = s.sys := rfl
@[simp] theorem State.setSgf_regs (k : Sgf) : (s.setSgf k).regs = s.regs := rfl
@[simp] theorem State.setSgf_plk (k : Sgf) : (s.setSgf k).plk = s.plk := rfl
@[simp] theorem State.setSgf_lanes (k : Sgf) : (s.setSgf k).lanes = s.lanes := rfl
@[simp] theorem State.setSgf_clusters (k : Sgf) : (s.setSgf k).clusters = s.clusters := rfl
@[simp] theorem State.setSgf_col (k : Sgf) : (s.setSgf k).col = s.col := rfl
@[simp] theorem State.setSgf_clr (k : Sgf) : (s.setSgf k).clr = s.clr := rfl
@[simp] theorem State.setSgf_yk (k : Sgf) : (s.setSgf k).yk = s.yk := rfl
@[simp] theorem State.setSgf_pth (k : Sgf) : (s.setSgf k).pth = s.pth := rfl
@[simp] theorem State.setSgf_pair (k : Sgf) : (s.setSgf k).pair = s.pair := rfl
@[simp] theorem State.setSgf_fab (k : Sgf) : (s.setSgf k).fab = s.fab := rfl
@[simp] theorem State.setSgf_sgf (k : Sgf) : (s.setSgf k).sgf = k := rfl
@[simp] theorem State.setSgf_hif (k : Sgf) : (s.setSgf k).hif = s.hif := rfl
@[simp] theorem State.setSgf_cap (k : Sgf) : (s.setSgf k).cap = s.cap := rfl
@[simp] theorem State.setSgf_flt (k : Sgf) : (s.setSgf k).flt = s.flt := rfl
@[simp] theorem State.setSgf_pwr (k : Sgf) : (s.setSgf k).pwr = s.pwr := rfl
@[simp] theorem State.setSgf_thm (k : Sgf) : (s.setSgf k).thm = s.thm := rfl
@[simp] theorem State.setSgf_pwm (k : Sgf) : (s.setSgf k).pwm = s.pwm := rfl
@[simp] theorem State.setSgf_cal (k : Sgf) : (s.setSgf k).cal = s.cal := rfl
@[simp] theorem State.setSgf_prl (k : Sgf) : (s.setSgf k).prl = s.prl := rfl
@[simp] theorem State.setSgf_freeN (k : Sgf) : (s.setSgf k).freeN = s.freeN := rfl
@[simp] theorem State.setSgf_rdata (k : Sgf) : (s.setSgf k).rdata = s.rdata := rfl
@[simp] theorem State.setSgf_hostMem (k : Sgf) : (s.setSgf k).hostMem = s.hostMem := rfl

@[simp] theorem State.setSpPort_pending (p : Nat) (x : SpPort) : (s.setSpPort p x).pending = s.pending := rfl
@[simp] theorem State.setSpPort_sys (p : Nat) (x : SpPort) : (s.setSpPort p x).sys = s.sys := rfl
@[simp] theorem State.setSpPort_regs (p : Nat) (x : SpPort) : (s.setSpPort p x).regs = s.regs := rfl
@[simp] theorem State.setSpPort_plk (p : Nat) (x : SpPort) : (s.setSpPort p x).plk = s.plk := rfl
@[simp] theorem State.setSpPort_lanes (p : Nat) (x : SpPort) : (s.setSpPort p x).lanes = s.lanes := rfl
@[simp] theorem State.setSpPort_clusters (p : Nat) (x : SpPort) : (s.setSpPort p x).clusters = s.clusters := rfl
@[simp] theorem State.setSpPort_col (p : Nat) (x : SpPort) : (s.setSpPort p x).col = s.col := rfl
@[simp] theorem State.setSpPort_clr (p : Nat) (x : SpPort) : (s.setSpPort p x).clr = s.clr := rfl
@[simp] theorem State.setSpPort_yk (p : Nat) (x : SpPort) : (s.setSpPort p x).yk = s.yk := rfl
@[simp] theorem State.setSpPort_pth (p : Nat) (x : SpPort) : (s.setSpPort p x).pth = s.pth := rfl
@[simp] theorem State.setSpPort_pair (p : Nat) (x : SpPort) : (s.setSpPort p x).pair = s.pair := rfl
@[simp] theorem State.setSpPort_fab (p : Nat) (x : SpPort) : (s.setSpPort p x).fab = s.fab := rfl
@[simp] theorem State.setSpPort_sgf (p : Nat) (x : SpPort) : (s.setSpPort p x).sgf = { s.sgf with ports := sset s.sgf.ports p x } := rfl
@[simp] theorem State.setSpPort_hif (p : Nat) (x : SpPort) : (s.setSpPort p x).hif = s.hif := rfl
@[simp] theorem State.setSpPort_cap (p : Nat) (x : SpPort) : (s.setSpPort p x).cap = s.cap := rfl
@[simp] theorem State.setSpPort_flt (p : Nat) (x : SpPort) : (s.setSpPort p x).flt = s.flt := rfl
@[simp] theorem State.setSpPort_pwr (p : Nat) (x : SpPort) : (s.setSpPort p x).pwr = s.pwr := rfl
@[simp] theorem State.setSpPort_thm (p : Nat) (x : SpPort) : (s.setSpPort p x).thm = s.thm := rfl
@[simp] theorem State.setSpPort_pwm (p : Nat) (x : SpPort) : (s.setSpPort p x).pwm = s.pwm := rfl
@[simp] theorem State.setSpPort_cal (p : Nat) (x : SpPort) : (s.setSpPort p x).cal = s.cal := rfl
@[simp] theorem State.setSpPort_prl (p : Nat) (x : SpPort) : (s.setSpPort p x).prl = s.prl := rfl
@[simp] theorem State.setSpPort_freeN (p : Nat) (x : SpPort) : (s.setSpPort p x).freeN = s.freeN := rfl
@[simp] theorem State.setSpPort_rdata (p : Nat) (x : SpPort) : (s.setSpPort p x).rdata = s.rdata := rfl
@[simp] theorem State.setSpPort_hostMem (p : Nat) (x : SpPort) : (s.setSpPort p x).hostMem = s.hostMem := rfl

@[simp] theorem State.setCal_pending (k : Cal) : (s.setCal k).pending = s.pending := rfl
@[simp] theorem State.setCal_sys (k : Cal) : (s.setCal k).sys = s.sys := rfl
@[simp] theorem State.setCal_regs (k : Cal) : (s.setCal k).regs = s.regs := rfl
@[simp] theorem State.setCal_plk (k : Cal) : (s.setCal k).plk = s.plk := rfl
@[simp] theorem State.setCal_lanes (k : Cal) : (s.setCal k).lanes = s.lanes := rfl
@[simp] theorem State.setCal_clusters (k : Cal) : (s.setCal k).clusters = s.clusters := rfl
@[simp] theorem State.setCal_col (k : Cal) : (s.setCal k).col = s.col := rfl
@[simp] theorem State.setCal_clr (k : Cal) : (s.setCal k).clr = s.clr := rfl
@[simp] theorem State.setCal_yk (k : Cal) : (s.setCal k).yk = s.yk := rfl
@[simp] theorem State.setCal_pth (k : Cal) : (s.setCal k).pth = s.pth := rfl
@[simp] theorem State.setCal_pair (k : Cal) : (s.setCal k).pair = s.pair := rfl
@[simp] theorem State.setCal_fab (k : Cal) : (s.setCal k).fab = s.fab := rfl
@[simp] theorem State.setCal_sgf (k : Cal) : (s.setCal k).sgf = s.sgf := rfl
@[simp] theorem State.setCal_hif (k : Cal) : (s.setCal k).hif = s.hif := rfl
@[simp] theorem State.setCal_cap (k : Cal) : (s.setCal k).cap = s.cap := rfl
@[simp] theorem State.setCal_flt (k : Cal) : (s.setCal k).flt = s.flt := rfl
@[simp] theorem State.setCal_pwr (k : Cal) : (s.setCal k).pwr = s.pwr := rfl
@[simp] theorem State.setCal_thm (k : Cal) : (s.setCal k).thm = s.thm := rfl
@[simp] theorem State.setCal_pwm (k : Cal) : (s.setCal k).pwm = s.pwm := rfl
@[simp] theorem State.setCal_cal (k : Cal) : (s.setCal k).cal = k := rfl
@[simp] theorem State.setCal_prl (k : Cal) : (s.setCal k).prl = s.prl := rfl
@[simp] theorem State.setCal_freeN (k : Cal) : (s.setCal k).freeN = s.freeN := rfl
@[simp] theorem State.setCal_rdata (k : Cal) : (s.setCal k).rdata = s.rdata := rfl
@[simp] theorem State.setCal_hostMem (k : Cal) : (s.setCal k).hostMem = s.hostMem := rfl

@[simp] theorem State.setFlt_pending (k : Flt) : (s.setFlt k).pending = s.pending := rfl
@[simp] theorem State.setFlt_sys (k : Flt) : (s.setFlt k).sys = s.sys := rfl
@[simp] theorem State.setFlt_regs (k : Flt) : (s.setFlt k).regs = s.regs := rfl
@[simp] theorem State.setFlt_plk (k : Flt) : (s.setFlt k).plk = s.plk := rfl
@[simp] theorem State.setFlt_lanes (k : Flt) : (s.setFlt k).lanes = s.lanes := rfl
@[simp] theorem State.setFlt_clusters (k : Flt) : (s.setFlt k).clusters = s.clusters := rfl
@[simp] theorem State.setFlt_col (k : Flt) : (s.setFlt k).col = s.col := rfl
@[simp] theorem State.setFlt_clr (k : Flt) : (s.setFlt k).clr = s.clr := rfl
@[simp] theorem State.setFlt_yk (k : Flt) : (s.setFlt k).yk = s.yk := rfl
@[simp] theorem State.setFlt_pth (k : Flt) : (s.setFlt k).pth = s.pth := rfl
@[simp] theorem State.setFlt_pair (k : Flt) : (s.setFlt k).pair = s.pair := rfl
@[simp] theorem State.setFlt_fab (k : Flt) : (s.setFlt k).fab = s.fab := rfl
@[simp] theorem State.setFlt_sgf (k : Flt) : (s.setFlt k).sgf = s.sgf := rfl
@[simp] theorem State.setFlt_hif (k : Flt) : (s.setFlt k).hif = s.hif := rfl
@[simp] theorem State.setFlt_cap (k : Flt) : (s.setFlt k).cap = s.cap := rfl
@[simp] theorem State.setFlt_flt (k : Flt) : (s.setFlt k).flt = k := rfl
@[simp] theorem State.setFlt_pwr (k : Flt) : (s.setFlt k).pwr = s.pwr := rfl
@[simp] theorem State.setFlt_thm (k : Flt) : (s.setFlt k).thm = s.thm := rfl
@[simp] theorem State.setFlt_pwm (k : Flt) : (s.setFlt k).pwm = s.pwm := rfl
@[simp] theorem State.setFlt_cal (k : Flt) : (s.setFlt k).cal = s.cal := rfl
@[simp] theorem State.setFlt_prl (k : Flt) : (s.setFlt k).prl = s.prl := rfl
@[simp] theorem State.setFlt_freeN (k : Flt) : (s.setFlt k).freeN = s.freeN := rfl
@[simp] theorem State.setFlt_rdata (k : Flt) : (s.setFlt k).rdata = s.rdata := rfl
@[simp] theorem State.setFlt_hostMem (k : Flt) : (s.setFlt k).hostMem = s.hostMem := rfl

@[simp] theorem State.setPrl_pending (k : Prl) : (s.setPrl k).pending = s.pending := rfl
@[simp] theorem State.setPrl_sys (k : Prl) : (s.setPrl k).sys = s.sys := rfl
@[simp] theorem State.setPrl_regs (k : Prl) : (s.setPrl k).regs = s.regs := rfl
@[simp] theorem State.setPrl_plk (k : Prl) : (s.setPrl k).plk = s.plk := rfl
@[simp] theorem State.setPrl_lanes (k : Prl) : (s.setPrl k).lanes = s.lanes := rfl
@[simp] theorem State.setPrl_clusters (k : Prl) : (s.setPrl k).clusters = s.clusters := rfl
@[simp] theorem State.setPrl_col (k : Prl) : (s.setPrl k).col = s.col := rfl
@[simp] theorem State.setPrl_clr (k : Prl) : (s.setPrl k).clr = s.clr := rfl
@[simp] theorem State.setPrl_yk (k : Prl) : (s.setPrl k).yk = s.yk := rfl
@[simp] theorem State.setPrl_pth (k : Prl) : (s.setPrl k).pth = s.pth := rfl
@[simp] theorem State.setPrl_pair (k : Prl) : (s.setPrl k).pair = s.pair := rfl
@[simp] theorem State.setPrl_fab (k : Prl) : (s.setPrl k).fab = s.fab := rfl
@[simp] theorem State.setPrl_sgf (k : Prl) : (s.setPrl k).sgf = s.sgf := rfl
@[simp] theorem State.setPrl_hif (k : Prl) : (s.setPrl k).hif = s.hif := rfl
@[simp] theorem State.setPrl_cap (k : Prl) : (s.setPrl k).cap = s.cap := rfl
@[simp] theorem State.setPrl_flt (k : Prl) : (s.setPrl k).flt = s.flt := rfl
@[simp] theorem State.setPrl_pwr (k : Prl) : (s.setPrl k).pwr = s.pwr := rfl
@[simp] theorem State.setPrl_thm (k : Prl) : (s.setPrl k).thm = s.thm := rfl
@[simp] theorem State.setPrl_pwm (k : Prl) : (s.setPrl k).pwm = s.pwm := rfl
@[simp] theorem State.setPrl_cal (k : Prl) : (s.setPrl k).cal = s.cal := rfl
@[simp] theorem State.setPrl_prl (k : Prl) : (s.setPrl k).prl = k := rfl
@[simp] theorem State.setPrl_freeN (k : Prl) : (s.setPrl k).freeN = s.freeN := rfl
@[simp] theorem State.setPrl_rdata (k : Prl) : (s.setPrl k).rdata = s.rdata := rfl
@[simp] theorem State.setPrl_hostMem (k : Prl) : (s.setPrl k).hostMem = s.hostMem := rfl

@[simp] theorem State.setThm_pending (k : Thm) : (s.setThm k).pending = s.pending := rfl
@[simp] theorem State.setThm_sys (k : Thm) : (s.setThm k).sys = s.sys := rfl
@[simp] theorem State.setThm_regs (k : Thm) : (s.setThm k).regs = s.regs := rfl
@[simp] theorem State.setThm_plk (k : Thm) : (s.setThm k).plk = s.plk := rfl
@[simp] theorem State.setThm_lanes (k : Thm) : (s.setThm k).lanes = s.lanes := rfl
@[simp] theorem State.setThm_clusters (k : Thm) : (s.setThm k).clusters = s.clusters := rfl
@[simp] theorem State.setThm_col (k : Thm) : (s.setThm k).col = s.col := rfl
@[simp] theorem State.setThm_clr (k : Thm) : (s.setThm k).clr = s.clr := rfl
@[simp] theorem State.setThm_yk (k : Thm) : (s.setThm k).yk = s.yk := rfl
@[simp] theorem State.setThm_pth (k : Thm) : (s.setThm k).pth = s.pth := rfl
@[simp] theorem State.setThm_pair (k : Thm) : (s.setThm k).pair = s.pair := rfl
@[simp] theorem State.setThm_fab (k : Thm) : (s.setThm k).fab = s.fab := rfl
@[simp] theorem State.setThm_sgf (k : Thm) : (s.setThm k).sgf = s.sgf := rfl
@[simp] theorem State.setThm_hif (k : Thm) : (s.setThm k).hif = s.hif := rfl
@[simp] theorem State.setThm_cap (k : Thm) : (s.setThm k).cap = s.cap := rfl
@[simp] theorem State.setThm_flt (k : Thm) : (s.setThm k).flt = s.flt := rfl
@[simp] theorem State.setThm_pwr (k : Thm) : (s.setThm k).pwr = s.pwr := rfl
@[simp] theorem State.setThm_thm (k : Thm) : (s.setThm k).thm = k := rfl
@[simp] theorem State.setThm_pwm (k : Thm) : (s.setThm k).pwm = s.pwm := rfl
@[simp] theorem State.setThm_cal (k : Thm) : (s.setThm k).cal = s.cal := rfl
@[simp] theorem State.setThm_prl (k : Thm) : (s.setThm k).prl = s.prl := rfl
@[simp] theorem State.setThm_freeN (k : Thm) : (s.setThm k).freeN = s.freeN := rfl
@[simp] theorem State.setThm_rdata (k : Thm) : (s.setThm k).rdata = s.rdata := rfl
@[simp] theorem State.setThm_hostMem (k : Thm) : (s.setThm k).hostMem = s.hostMem := rfl

@[simp] theorem State.setPwr_pending (k : Pwr) : (s.setPwr k).pending = s.pending := rfl
@[simp] theorem State.setPwr_sys (k : Pwr) : (s.setPwr k).sys = s.sys := rfl
@[simp] theorem State.setPwr_regs (k : Pwr) : (s.setPwr k).regs = s.regs := rfl
@[simp] theorem State.setPwr_plk (k : Pwr) : (s.setPwr k).plk = s.plk := rfl
@[simp] theorem State.setPwr_lanes (k : Pwr) : (s.setPwr k).lanes = s.lanes := rfl
@[simp] theorem State.setPwr_clusters (k : Pwr) : (s.setPwr k).clusters = s.clusters := rfl
@[simp] theorem State.setPwr_col (k : Pwr) : (s.setPwr k).col = s.col := rfl
@[simp] theorem State.setPwr_clr (k : Pwr) : (s.setPwr k).clr = s.clr := rfl
@[simp] theorem State.setPwr_yk (k : Pwr) : (s.setPwr k).yk = s.yk := rfl
@[simp] theorem State.setPwr_pth (k : Pwr) : (s.setPwr k).pth = s.pth := rfl
@[simp] theorem State.setPwr_pair (k : Pwr) : (s.setPwr k).pair = s.pair := rfl
@[simp] theorem State.setPwr_fab (k : Pwr) : (s.setPwr k).fab = s.fab := rfl
@[simp] theorem State.setPwr_sgf (k : Pwr) : (s.setPwr k).sgf = s.sgf := rfl
@[simp] theorem State.setPwr_hif (k : Pwr) : (s.setPwr k).hif = s.hif := rfl
@[simp] theorem State.setPwr_cap (k : Pwr) : (s.setPwr k).cap = s.cap := rfl
@[simp] theorem State.setPwr_flt (k : Pwr) : (s.setPwr k).flt = s.flt := rfl
@[simp] theorem State.setPwr_pwr (k : Pwr) : (s.setPwr k).pwr = k := rfl
@[simp] theorem State.setPwr_thm (k : Pwr) : (s.setPwr k).thm = s.thm := rfl
@[simp] theorem State.setPwr_pwm (k : Pwr) : (s.setPwr k).pwm = s.pwm := rfl
@[simp] theorem State.setPwr_cal (k : Pwr) : (s.setPwr k).cal = s.cal := rfl
@[simp] theorem State.setPwr_prl (k : Pwr) : (s.setPwr k).prl = s.prl := rfl
@[simp] theorem State.setPwr_freeN (k : Pwr) : (s.setPwr k).freeN = s.freeN := rfl
@[simp] theorem State.setPwr_rdata (k : Pwr) : (s.setPwr k).rdata = s.rdata := rfl
@[simp] theorem State.setPwr_hostMem (k : Pwr) : (s.setPwr k).hostMem = s.hostMem := rfl

@[simp] theorem State.setPwm_pending (c : Nat) (k : Pwm) : (s.setPwm c k).pending = s.pending := rfl
@[simp] theorem State.setPwm_sys (c : Nat) (k : Pwm) : (s.setPwm c k).sys = s.sys := rfl
@[simp] theorem State.setPwm_regs (c : Nat) (k : Pwm) : (s.setPwm c k).regs = s.regs := rfl
@[simp] theorem State.setPwm_plk (c : Nat) (k : Pwm) : (s.setPwm c k).plk = s.plk := rfl
@[simp] theorem State.setPwm_lanes (c : Nat) (k : Pwm) : (s.setPwm c k).lanes = s.lanes := rfl
@[simp] theorem State.setPwm_clusters (c : Nat) (k : Pwm) : (s.setPwm c k).clusters = s.clusters := rfl
@[simp] theorem State.setPwm_col (c : Nat) (k : Pwm) : (s.setPwm c k).col = s.col := rfl
@[simp] theorem State.setPwm_clr (c : Nat) (k : Pwm) : (s.setPwm c k).clr = s.clr := rfl
@[simp] theorem State.setPwm_yk (c : Nat) (k : Pwm) : (s.setPwm c k).yk = s.yk := rfl
@[simp] theorem State.setPwm_pth (c : Nat) (k : Pwm) : (s.setPwm c k).pth = s.pth := rfl
@[simp] theorem State.setPwm_pair (c : Nat) (k : Pwm) : (s.setPwm c k).pair = s.pair := rfl
@[simp] theorem State.setPwm_fab (c : Nat) (k : Pwm) : (s.setPwm c k).fab = s.fab := rfl
@[simp] theorem State.setPwm_sgf (c : Nat) (k : Pwm) : (s.setPwm c k).sgf = s.sgf := rfl
@[simp] theorem State.setPwm_hif (c : Nat) (k : Pwm) : (s.setPwm c k).hif = s.hif := rfl
@[simp] theorem State.setPwm_cap (c : Nat) (k : Pwm) : (s.setPwm c k).cap = s.cap := rfl
@[simp] theorem State.setPwm_flt (c : Nat) (k : Pwm) : (s.setPwm c k).flt = s.flt := rfl
@[simp] theorem State.setPwm_pwr (c : Nat) (k : Pwm) : (s.setPwm c k).pwr = s.pwr := rfl
@[simp] theorem State.setPwm_thm (c : Nat) (k : Pwm) : (s.setPwm c k).thm = s.thm := rfl
@[simp] theorem State.setPwm_pwm (c : Nat) (k : Pwm) : (s.setPwm c k).pwm = sset s.pwm c k := rfl
@[simp] theorem State.setPwm_cal (c : Nat) (k : Pwm) : (s.setPwm c k).cal = s.cal := rfl
@[simp] theorem State.setPwm_prl (c : Nat) (k : Pwm) : (s.setPwm c k).prl = s.prl := rfl
@[simp] theorem State.setPwm_freeN (c : Nat) (k : Pwm) : (s.setPwm c k).freeN = s.freeN := rfl
@[simp] theorem State.setPwm_rdata (c : Nat) (k : Pwm) : (s.setPwm c k).rdata = s.rdata := rfl
@[simp] theorem State.setPwm_hostMem (c : Nat) (k : Pwm) : (s.setPwm c k).hostMem = s.hostMem := rfl

@[simp] theorem State.hput_pending (a : Nat) (l : List Byte) : (s.hput a l).pending = s.pending := rfl
@[simp] theorem State.hput_sys (a : Nat) (l : List Byte) : (s.hput a l).sys = s.sys := rfl
@[simp] theorem State.hput_regs (a : Nat) (l : List Byte) : (s.hput a l).regs = s.regs := rfl
@[simp] theorem State.hput_plk (a : Nat) (l : List Byte) : (s.hput a l).plk = s.plk := rfl
@[simp] theorem State.hput_lanes (a : Nat) (l : List Byte) : (s.hput a l).lanes = s.lanes := rfl
@[simp] theorem State.hput_clusters (a : Nat) (l : List Byte) : (s.hput a l).clusters = s.clusters := rfl
@[simp] theorem State.hput_col (a : Nat) (l : List Byte) : (s.hput a l).col = s.col := rfl
@[simp] theorem State.hput_clr (a : Nat) (l : List Byte) : (s.hput a l).clr = s.clr := rfl
@[simp] theorem State.hput_yk (a : Nat) (l : List Byte) : (s.hput a l).yk = s.yk := rfl
@[simp] theorem State.hput_pth (a : Nat) (l : List Byte) : (s.hput a l).pth = s.pth := rfl
@[simp] theorem State.hput_pair (a : Nat) (l : List Byte) : (s.hput a l).pair = s.pair := rfl
@[simp] theorem State.hput_fab (a : Nat) (l : List Byte) : (s.hput a l).fab = s.fab := rfl
@[simp] theorem State.hput_sgf (a : Nat) (l : List Byte) : (s.hput a l).sgf = s.sgf := rfl
@[simp] theorem State.hput_hif (a : Nat) (l : List Byte) : (s.hput a l).hif = s.hif := rfl
@[simp] theorem State.hput_cap (a : Nat) (l : List Byte) : (s.hput a l).cap = s.cap := rfl
@[simp] theorem State.hput_flt (a : Nat) (l : List Byte) : (s.hput a l).flt = s.flt := rfl
@[simp] theorem State.hput_pwr (a : Nat) (l : List Byte) : (s.hput a l).pwr = s.pwr := rfl
@[simp] theorem State.hput_thm (a : Nat) (l : List Byte) : (s.hput a l).thm = s.thm := rfl
@[simp] theorem State.hput_pwm (a : Nat) (l : List Byte) : (s.hput a l).pwm = s.pwm := rfl
@[simp] theorem State.hput_cal (a : Nat) (l : List Byte) : (s.hput a l).cal = s.cal := rfl
@[simp] theorem State.hput_prl (a : Nat) (l : List Byte) : (s.hput a l).prl = s.prl := rfl
@[simp] theorem State.hput_freeN (a : Nat) (l : List Byte) : (s.hput a l).freeN = s.freeN := rfl
@[simp] theorem State.hput_rdata (a : Nat) (l : List Byte) : (s.hput a l).rdata = s.rdata := rfl
@[simp] theorem State.hput_hostMem (a : Nat) (l : List Byte) : (s.hput a l).hostMem = Memory.putL s.hostMem a l := rfl

end Sys2Proof.Machine
end

