-- ==== Sys2Proof/Laws/Store.lean ====
section
/-! SUPPORT. Reading after writing: sparse tables, registers, fields, lanes, clusters, rings, and host memory. -/
namespace Sys2Proof.Machine
set_option Elab.async false

/-! ### Sparse tables -/

@[simp] theorem sget_sset_same {α : Type} (d v : α) (m : SMap α) (a : Nat) : sget d (sset m a v) a = v := by
  induction m with
  | nil => simp [sset, sget]
  | cons p t ih =>
    obtain ⟨k, w⟩ := p
    unfold sset
    split
    · simp [sget]
    · split
      · subst_vars; simp [sget]
      · have : k ≠ a := fun h => by omega
        simp [sget, this, ih]

theorem sget_sset_ne {α : Type} (d v : α) (m : SMap α) {a b : Nat} (h : a ≠ b) : sget d (sset m a v) b = sget d m b := by
  induction m with
  | nil => simp [sset, sget, h]
  | cons p t ih =>
    obtain ⟨k, w⟩ := p
    unfold sset
    split
    · simp [sget, h]
    · split
      · subst_vars; simp [sget, h]
      · simp only [sget, ih]

/-! ### Registers and fields -/

@[simp] theorem reg_setReg_same (s : State) (r : Reg) (ix : List Nat) (v : Word) : (s.setReg r ix v).reg r ix = v := by
  simp [State.reg]

theorem reg_setReg_ne (s : State) {r q : Reg} {ix jx : List Nat} (v : Word) (h : r.at ix ≠ q.at jx) :
    (s.setReg r ix v).reg q jx = s.reg q jx := by
  simp [State.reg, sget_sset_ne _ _ _ h]

/-- A register reads the same in two states with the same table and the same boot stage. -/
theorem reg_congr {s t : State} (hr : t.regs = s.regs) (hs : t.sys.stage = s.sys.stage) (r : Reg) (ix : List Nat) :
    t.reg r ix = s.reg r ix := by
  simp [State.reg, hr, hs]

theorem fget_lt (lo len : Nat) (w : Word) : fget lo len w < 2 ^ len := Nat.mod_lt _ (Nat.two_pow_pos _)

/-- The bits of a word after a field was replaced. -/
theorem testBit_fput (lo len v : Nat) (w : Word) (i : Nat) (h : lo + len ≤ 32) :
    (fput lo len v w).toNat.testBit i = if lo ≤ i ∧ i < lo + len then v.testBit (i - lo) else w.toNat.testBit i := by
  have hw : w.toNat < 2 ^ 32 := w.isLt
  have hlo : w.toNat % 2 ^ lo < 2 ^ lo := Nat.mod_lt _ (Nat.two_pow_pos _)
  have hv : v % 2 ^ len < 2 ^ len := Nat.mod_lt _ (Nat.two_pow_pos _)
  have hsplit : w.toNat % 2 ^ lo + v % 2 ^ len * 2 ^ lo + w.toNat / 2 ^ (lo + len) * 2 ^ (lo + len)
      = 2 ^ lo * (2 ^ len * (w.toNat / 2 ^ (lo + len)) + v % 2 ^ len) + w.toNat % 2 ^ lo := by
    rw [Nat.pow_add]; ring
  unfold fput
  rw [BitVec.toNat_ofNat, hsplit, Nat.testBit_mod_two_pow, Nat.testBit_two_pow_mul_add _ hlo]
  by_cases h1 : i < lo
  · have h2 : i < 32 := by omega
    have h3 : ¬ (lo ≤ i ∧ i < lo + len) := by omega
    rw [if_pos h1, if_neg h3, Nat.testBit_mod_two_pow]
    simp [h1, h2]
  · rw [if_neg h1, Nat.testBit_two_pow_mul_add _ hv]
    by_cases h2 : i - lo < len
    · have h3 : i < 32 := by omega
      have h4 : lo ≤ i ∧ i < lo + len := by omega
      rw [if_pos h2, if_pos h4, Nat.testBit_mod_two_pow]
      simp [h2, h3]
    · have h4 : ¬ (lo ≤ i ∧ i < lo + len) := by omega
      have h5 : i - lo - len + (lo + len) = i := by omega
      rw [if_neg h2, if_neg h4, Nat.testBit_div_two_pow, h5]
      by_cases h6 : i < 32
      · simp [h6]
      · have : w.toNat.testBit i = false := Nat.testBit_lt_two_pow (by
          calc w.toNat < 2 ^ 32 := hw
            _ ≤ 2 ^ i := Nat.pow_le_pow_right (by omega) (by omega))
        simp [h6, this]

theorem testBit_fget (lo len : Nat) (w : Word) (i : Nat) :
    (fget lo len w).testBit i = (decide (i < len) && w.toNat.testBit (lo + i)) := by
  rw [fget, Nat.testBit_mod_two_pow, Nat.testBit_shiftRight]

theorem fget_fput_same (lo len v : Nat) (w : Word) (h : lo + len ≤ 32) : fget lo len (fput lo len v w) = v % 2 ^ len := by
  apply Nat.eq_of_testBit_eq
  intro i
  rw [testBit_fget, testBit_fput _ _ _ _ _ h, Nat.testBit_mod_two_pow]
  by_cases hi : i < len
  · have h1 : lo ≤ lo + i ∧ lo + i < lo + len := by omega
    rw [if_pos h1, show lo + i - lo = i by omega]
  · simp [hi]

/-- Replacing a field leaves a field beside it. -/
theorem fget_fput_ne {lo len lo' len' : Nat} (v : Nat) (w : Word) (h : lo + len ≤ 32)
    (hd : lo' + len' ≤ lo ∨ lo + len ≤ lo') : fget lo' len' (fput lo len v w) = fget lo' len' w := by
  apply Nat.eq_of_testBit_eq
  intro i
  rw [testBit_fget, testBit_fget, testBit_fput _ _ _ _ _ h]
  by_cases hi : i < len'
  · have h1 : ¬ (lo ≤ lo' + i ∧ lo' + i < lo + len) := by omega
    rw [if_neg h1]
  · simp [hi]

@[simp] theorem f_setF_same (s : State) (x : Fld) (ix : List Nat) (v : Nat) (h : x.lo + x.len ≤ 32) :
    (s.setF x ix v).f x ix = v % 2 ^ x.len := by
  simp [State.f, State.setF, fget_fput_same _ _ _ _ h]

/-! ### Lanes, clusters, rings -/

@[simp] theorem lane_setLane_same (s : State) (e : Nat) (l : Lane) : (s.setLane e l).lane e = l := by simp [State.lane]

theorem lane_setLane_ne (s : State) {e x : Nat} (l : Lane) (h : e ≠ x) : (s.setLane e l).lane x = s.lane x := by
  simp [State.lane, sget_sset_ne _ _ _ h]

@[simp] theorem cl_setCl_same (s : State) (c : Nat) (k : Cluster) : (s.setCl c k).cl c = k := by simp [State.cl]

theorem cl_setCl_ne (s : State) {c x : Nat} (k : Cluster) (h : c ≠ x) : (s.setCl c k).cl x = s.cl x := by
  simp [State.cl, sget_sset_ne _ _ _ h]

@[simp] theorem ring_setRing_same (s : State) (g : Nat) (r : Ring) : (s.setRing g r).ring g = r := by simp [State.ring]

theorem ring_setRing_ne (s : State) {g x : Nat} (r : Ring) (h : g ≠ x) : (s.setRing g r).ring x = s.ring x := by
  simp [State.ring, sget_sset_ne _ _ _ h]

@[simp] theorem capR_setCap_same (s : State) (k : Nat) (r : CapRing) : (s.setCap k r).capR k = r := by simp [State.capR]

theorem capR_setCap_ne (s : State) {k x : Nat} (r : CapRing) (h : k ≠ x) : (s.setCap k r).capR x = s.capR x := by
  simp [State.capR, sget_sset_ne _ _ _ h]

/-! ### Host memory -/

theorem Memory.get_put_same (m : List Host.Cell) (a : Nat) (v : Byte) (h : Memory.wf m = true) :
    Memory.get (Memory.put m a v) a = v := by
  have key : ∀ (m : List Host.Cell) (n : Nat), Memory.wfFrom n m = true → (∀ b, b < n → Memory.get m b = Memory.blank) := by
    intro m
    induction m with
    | nil => intros; rfl
    | cons p t ih =>
      obtain ⟨k, w⟩ := p
      intro n hw b hb
      simp only [Memory.wfFrom, Bool.and_eq_true, decide_eq_true_eq] at hw
      have : k ≠ b := by omega
      simp only [Memory.get, this, if_false]
      exact ih _ hw.2 b (by omega)
  have main : ∀ (m : List Host.Cell) (n : Nat), Memory.wfFrom n m = true → Memory.get (Memory.put m a v) a = v := by
    intro m
    induction m with
    | nil =>
      intro n _
      unfold Memory.put
      split
      · subst_vars; rfl
      · simp [Memory.get]
    | cons p t ih =>
      obtain ⟨k, w⟩ := p
      intro n hw
      have hw' := hw
      simp only [Memory.wfFrom, Bool.and_eq_true, decide_eq_true_eq] at hw
      unfold Memory.put
      split
      · split
        · subst_vars
          have hk : k ≠ a := by omega
          simp only [Memory.get, hk, if_false]
          exact key t _ hw.2 a (by omega)
        · simp [Memory.get]
      · split
        · split
          · subst_vars
            exact key t _ hw.2 _ (by omega)
          · subst_vars; simp [Memory.get]
        · have hk : k ≠ a := by omega
          simp only [Memory.get, hk, if_false]
          exact ih _ hw.2
  exact main m 0 h

theorem Memory.get_put_ne (m : List Host.Cell) {a b : Nat} (v : Byte) (hab : a ≠ b) : Memory.get (Memory.put m a v) b = Memory.get m b := by
  induction m with
  | nil =>
    unfold Memory.put
    split
    · rfl
    · simp [Memory.get, hab]
  | cons p t ih =>
    obtain ⟨k, w⟩ := p
    unfold Memory.put
    split
    · split
      · rfl
      · simp [Memory.get, hab]
    · split
      · split
        · subst_vars; simp [Memory.get, hab]
        · subst_vars; simp [Memory.get, hab]
      · simp only [Memory.get, ih]

theorem Memory.get_putL_outside (m : List Host.Cell) (a : Nat) (l : List Byte) {b : Nat} (h : b < a ∨ a + l.length ≤ b) :
    Memory.get (Memory.putL m a l) b = Memory.get m b := by
  induction l generalizing m a with
  | nil => rfl
  | cons x t ih =>
    simp only [List.length_cons] at h
    rw [Memory.putL, ih _ _ (by omega), Memory.get_put_ne _ _ (by omega)]

end Sys2Proof.Machine
end

