-- ==== Sys2Proof/Laws/Lane.lean ====
section
/-! SUPPORT. Single fields after the operations that every command uses: network time running on, events, offers of records, and
the storing of a lane. -/
namespace Sys2Proof.Machine
set_option Elab.async false

variable (s : State) (t : Nat)

@[simp] theorem passTo_sys : (s.passTo t).sys = s.sys := by unfold State.passTo; split <;> rfl
@[simp] theorem passTo_regs : (s.passTo t).regs = s.regs := by unfold State.passTo; split <;> rfl
@[simp] theorem passTo_plk : (s.passTo t).plk = s.plk := by unfold State.passTo; split <;> rfl
@[simp] theorem passTo_lanes : (s.passTo t).lanes = s.lanes := by unfold State.passTo; split <;> rfl
@[simp] theorem passTo_clusters : (s.passTo t).clusters = s.clusters := by unfold State.passTo; split <;> rfl
@[simp] theorem passTo_col : (s.passTo t).col = s.col := by unfold State.passTo; split <;> rfl
@[simp] theorem passTo_yk : (s.passTo t).yk = s.yk := by unfold State.passTo; split <;> rfl
@[simp] theorem passTo_pth : (s.passTo t).pth = s.pth := by unfold State.passTo; split <;> rfl
@[simp] theorem passTo_pair : (s.passTo t).pair = s.pair := by unfold State.passTo; split <;> rfl
@[simp] theorem passTo_fab : (s.passTo t).fab = s.fab := by unfold State.passTo; split <;> rfl
@[simp] theorem passTo_sgf : (s.passTo t).sgf = s.sgf := by unfold State.passTo; split <;> rfl
@[simp] theorem passTo_hif : (s.passTo t).hif = s.hif := by unfold State.passTo; split <;> rfl
@[simp] theorem passTo_cap : (s.passTo t).cap = s.cap := by unfold State.passTo; split <;> rfl
@[simp] theorem passTo_flt : (s.passTo t).flt = s.flt := by unfold State.passTo; split <;> rfl
@[simp] theorem passTo_pwr : (s.passTo t).pwr = s.pwr := by unfold State.passTo; split <;> rfl
@[simp] theorem passTo_thm : (s.passTo t).thm = s.thm := by unfold State.passTo; split <;> rfl
@[simp] theorem passTo_pwm : (s.passTo t).pwm = s.pwm := by unfold State.passTo; split <;> rfl
@[simp] theorem passTo_cal : (s.passTo t).cal = s.cal := by unfold State.passTo; split <;> rfl
@[simp] theorem passTo_prl : (s.passTo t).prl = s.prl := by unfold State.passTo; split <;> rfl
@[simp] theorem passTo_freeN : (s.passTo t).freeN = s.freeN := by unfold State.passTo; split <;> rfl
@[simp] theorem passTo_hostMem : (s.passTo t).hostMem = s.hostMem := by unfold State.passTo; split <;> rfl
@[simp] theorem passTo_pending : (s.passTo t).pending = s.pending := by unfold State.passTo; split <;> rfl
@[simp] theorem passTo_lane (e : Nat) : (s.passTo t).lane e = s.lane e := by simp [State.lane]
@[simp] theorem passTo_cl (c : Nat) : (s.passTo t).cl c = s.cl c := by simp [State.cl]
@[simp] theorem passTo_reg (r : Reg) (ix : List Nat) : (s.passTo t).reg r ix = s.reg r ix := by simp [State.reg]
@[simp] theorem passTo_f (x : Fld) (ix : List Nat) : (s.passTo t).f x ix = s.f x ix := by simp [State.f]
@[simp] theorem passTo_fb (x : Fld) (ix : List Nat) : (s.passTo t).fb x ix = s.fb x ix := by simp [State.fb]

/-! ### Which register offsets an operation writes -/

variable {s} {l : List Nat} {u v : State}

theorem otherRegs.refl : otherRegs l s s := fun _ _ _ => rfl
theorem otherRegs.trans (h : otherRegs l s u) (k : otherRegs l u v) : otherRegs l s v := fun a ha d => (k a ha d).trans (h a ha d)
theorem otherRegs.of_regs (h : u.regs = s.regs) : otherRegs l s u := fun _ _ _ => by rw [h]
theorem otherRegs.setReg {r : Reg} {ix : List Nat} {w : Word} (h : r.at ix ∈ l) : otherRegs l s (s.setReg r ix w) := fun a ha d => by
  rw [State.setReg_regs]; exact sget_sset_ne _ _ _ fun e => ha (e ▸ h)
theorem otherRegs.bump {r : Reg} {ix : List Nat} {n : Nat} (h : r.at ix ∈ l) : otherRegs l s (s.bump r ix n) := .setReg h
theorem otherRegs.setF {x : Fld} {ix : List Nat} {n : Nat} (h : x.reg.at ix ∈ l) : otherRegs l s (s.setF x ix n) := .setReg h
theorem otherRegs.mono {m : List Nat} (h : otherRegs l s u) (k : ∀ a ∈ l, a ∈ m) : otherRegs m s u := fun a ha => h a fun e => ha (k a e)

/-- A record offered to a capture ring writes no register but the ring's count of suppressed records. -/
theorem otherRegs.offerTo {r : CapRec} {k : Nat} (h : Reg.CAP_SUPP.at [k] ∈ l) : otherRegs l s (s.offerTo r k) := by
  unfold State.offerTo
  extract_lets c q r' key next n l' c1
  repeat' split
  · exact .refl
  · exact .of_regs rfl
  · exact .of_regs rfl
  · exact .of_regs rfl
  · exact .of_regs rfl
  · exact .trans (.of_regs rfl) (.bump h)
  · exact .trans (.of_regs rfl) (.bump h)

theorem otherRegs.offer {ty cl item : Nat} {w : Word} {pl : List Word} (h : ∀ k < 4, Reg.CAP_SUPP.at [k] ∈ l) :
    otherRegs l s (s.offer ty cl item w pl) := by
  unfold State.offer
  simp only [List.range, List.range.loop, List.foldl]
  exact .trans (.trans (.trans (.offerTo (h 0 (by omega))) (.offerTo (h 1 (by omega)))) (.offerTo (h 2 (by omega))))
    (.offerTo (h 3 (by omega)))

theorem otherRegs.icEdge {n : Nat} (h : Reg.IC_SRC.at [n] ∈ l) : otherRegs l s (s.icEdge n) := by
  unfold State.icEdge
  extract_lets k k1
  repeat' split
  · exact .setF h
  all_goals exact .of_regs rfl

/-! ### Registers that answer (R464) -/

/-- A register that is not shut takes its access. -/
@[simp] theorem hostWr_of_not_shut {r : Reg} {ix : List Nat} {f : State → State} (h : s.shut r ix = false) :
    s.hostWr r ix f = f s := by simp [State.hostWr, h]

/-- A register that is shut takes none. -/
@[simp] theorem hostWr_of_shut {r : Reg} {ix : List Nat} {f : State → State} (h : s.shut r ix = true) :
    s.hostWr r ix f = s := by simp [State.hostWr, h]

/-- In an open module only the registers of another mode and the set-points of P4 are shut. -/
theorem shut_of_isOpen {r : Reg} {ix : List Nat} (h : s.isOpen = true) :
    s.shut r ix = (s.modeOff r || (decide (r = .SETPT) && s.storeOff)) := by
  simp only [State.isOpen, Bool.and_eq_true, Bool.not_eq_true'] at h
  simp [State.shut, h.1, h.2]

theorem mem_noteRegs_supp (e k : Nat) (h : k < 4) : Reg.CAP_SUPP.at [k] ∈ noteRegs e := by
  unfold noteRegs
  match k, h with
  | 0, _ => exact .head _
  | 1, _ => exact .tail _ (.head _)
  | 2, _ => exact .tail _ (.tail _ (.head _))
  | 3, _ => exact .tail _ (.tail _ (.tail _ (.head _)))

theorem mem_noteRegs_ic (e : Nat) : Reg.IC_SRC.at [256 + e / 256] ∈ noteRegs e :=
  .tail _ (.tail _ (.tail _ (.tail _ (.head _))))

/-! ### Storing a lane -/

@[simp] theorem offer_lanes (ty cl item : Nat) (w : Word) (pl : List Word) : (s.offer ty cl item w pl).lanes = s.lanes :=
  (offer_keeps ..).frame .lanes rfl
@[simp] theorem icEdge_lanes (n : Nat) : (s.icEdge n).lanes = s.lanes := (icEdge_keeps ..).frame .lanes rfl

theorem putLaneBuf_lanes (e : Nat) (x : Lane) (b : Int) : (s.putLaneBuf e x b).lanes = sset s.lanes e x := by
  unfold State.putLaneBuf; extract_lets o s1 s2
  have h2 : s2.lanes = sset s.lanes e x := by simp only [s2, s1]; split <;> simp
  split
  · rw [icEdge_lanes]; exact h2
  · exact h2

theorem putLane_lanes (e : Nat) (x : Lane) : (s.putLane e x).lanes = sset s.lanes e x := putLaneBuf_lanes ..
@[simp] theorem lane_putLane_same (e : Nat) (x : Lane) : (s.putLane e x).lane e = x := by simp [State.lane, putLane_lanes]
theorem lane_putLane_ne {e y : Nat} (x : Lane) (h : e ≠ y) : (s.putLane e x).lane y = s.lane y := by
  simp [State.lane, putLane_lanes, sget_sset_ne _ _ _ h]
theorem otherLanes_putLane (e : Nat) (x : Lane) : otherLanes e s (s.putLane e x) := fun _ h => lane_putLane_ne x (Ne.symm h)

/-- Storing a lane writes no register but those that a record or a report of it may reach. -/
theorem otherRegs_putLaneBuf (e : Nat) (x : Lane) (b : Int) : otherRegs (noteRegs e) s (s.putLaneBuf e x b) := by
  unfold State.putLaneBuf; extract_lets o s1 s2
  have h2 : otherRegs (noteRegs e) s s2 := by
    simp only [s2, s1]; split
    · exact otherRegs.trans (u := s1) (.of_regs (State.setLane_regs ..)) (.offer fun k h => mem_noteRegs_supp e k h)
    · exact .of_regs rfl
  split
  · intro a ha d
    rw [otherRegs.icEdge (mem_noteRegs_ic e) a ha d]
    exact h2 a ha d
  · exact h2

theorem otherRegs_putLane (e : Nat) (x : Lane) : otherRegs (noteRegs e) s (s.putLane e x) :=
  otherRegs_putLaneBuf e x _

/-- A lane that does not enter FAULT leaves the path service and Prale as they are. -/
theorem putLaneBuf_pth {e : Nat} {x : Lane} {b : Int} (h : x.st ≠ .fault) : (s.putLaneBuf e x b).pth = s.pth := by
  unfold State.putLaneBuf; extract_lets o s1 s2
  rw [if_neg (by simp [h])]
  simp only [s2, s1]; split
  · exact (offer_keeps ..).frame .pth rfl
  · rfl

theorem putLaneBuf_prl {e : Nat} {x : Lane} {b : Int} (h : x.st ≠ .fault) : (s.putLaneBuf e x b).prl = s.prl := by
  unfold State.putLaneBuf; extract_lets o s1 s2
  rw [if_neg (by simp [h])]
  simp only [s2, s1]; split
  · exact (offer_keeps ..).frame .prl rfl
  · rfl

theorem putLane_pth {e : Nat} {x : Lane} (h : x.st ≠ .fault) : (s.putLane e x).pth = s.pth := putLaneBuf_pth h
theorem putLane_prl {e : Nat} {x : Lane} (h : x.st ≠ .fault) : (s.putLane e x).prl = s.prl := putLaneBuf_prl h

end Sys2Proof.Machine
end

