-- ==== Sys2Proof/Machine/Physical.lean ====
section
/-! DEFINITION. What the module shows at its lands, rails and fibres (R481 to R484, R495): the function of a land, the limits of a
rail, the connector and fibre of a port. -/
namespace Sys2Proof.Machine

/-! ### Lands (R481 to R483) -/

/-- Place of land c/r in µm from the south-west corner (R481). -/
def landAt (c r : Nat) : Nat × Nat := (10500 + (c - 1) * 1000, 13500 + (r - 1) * 1000)

/-- The rails (R484). -/
inductive Rail where
  | vaux | vcore | vsram | vserdes | vio | vana | vhvp | vhvn
  deriving DecidableEq, Repr

/-- What a land carries (R482): a discrete signal, the P or N leg of the transmitter or receiver of SP port k or PCIe lane k, the
PCIe reference clock, a lane of the mirror link, a leg of the TEC, a rail, or ground. -/
inductive LandFn where
  | discrete (name : String)
  | sp (k : Nat) (tx n : Bool)
  | pcie (k : Nat) (tx n : Bool)
  | refclk (n : Bool)
  | mirror (k : Nat) (tx n : Bool)
  | tec (n : Bool)
  | rail (r : Rail)
  | vss
  deriving DecidableEq, Repr

/-- The discrete lands of rows 48 to 55 (R483), columns 2 to 6. -/
def discreteRow (r : Nat) : List String :=
  match r with
  | 55 => ["RST_N", "PERST_N", "BOOT_SRC", "MODE0", "MODE1"]
  | 54 => ["PREF", "DEVID0", "DEVID1", "DEVID2", "DEVID3"]
  | 53 => ["DEVID4", "DEVID5", "HEALTH_OK", "RECLAIM", "ACTIVE_SEL"]
  | 52 => ["SMB_CLK", "SMB_DAT", "SMBALERT_N", "TOD_RX", "PPS_IN"]
  | 51 => ["VSS", "REF10M_IN", "VSS", "VREF_EXT", "VSS"]
  | 50 => ["TEC_A_PWM", "TEC_B_PWM", "FAN0_PWM", "FAN1_PWM", "TEC_FLT_N"]
  | 49 => ["FAN0_FLT_N", "FAN1_FLT_N", "TCK", "TMS", "TDI"]
  | 48 => ["TDO", "TRST_N", "VSS", "VSS", "VSS"]
  | _ => []

/-- A discrete land (R483). -/
def discreteLand (c r : Nat) : Option LandFn :=
  if 2 ≤ c ∧ c ≤ 6 then (discreteRow r)[c - 2]?.map fun x => if x = "VSS" then .vss else .discrete x else none

/-- A land of an SP port (R482). -/
def spLand (c r : Nat) : Option LandFn :=
  let k := (c - 8) / 2
  let n := decide (c % 2 = 1)
  if c < 8 ∨ 71 < c then none
  else if r = 2 then some (.sp k true n)
  else if r = 5 then some (.sp k false n)
  else if r = 63 then some (.sp (32 + k) true n)
  else if r = 60 then some (.sp (32 + k) false n)
  else none

/-- A land of PCIe (R482). -/
def pcieLand (c r : Nat) : Option LandFn :=
  if c = 2 ∧ 44 ≤ r ∧ r ≤ 45 then some (.refclk (r == 45))
  else if (c = 2 ∨ c = 5) ∧ 20 ≤ r ∧ r < 44 ∧ (r - 20) % 3 < 2 then some (.pcie ((r - 20) / 3) (c == 2) ((r - 20) % 3 == 1))
  else none

/-- A land of the mirror link (R482). -/
def mirrorLand (c r : Nat) : Option LandFn :=
  if (c = 76 ∨ c = 79) ∧ 28 ≤ r ∧ r ≤ 32 ∧ r ≠ 30 then some (.mirror (if r < 30 then 0 else 1) (c == 79) (r == 29 || r == 32))
  else none

/-- A land of the TEC (R482). -/
def tecLand (c r : Nat) : Option LandFn :=
  if 74 ≤ c ∧ c ≤ 78 ∧ 58 ≤ r ∧ r ≤ 63 then some (.tec (decide (61 ≤ r))) else none

/-- The rectangles of the rails: rail, first and last column, first and last row (R482). -/
def railRects : List (Rail × Nat × Nat × Nat × Nat) :=
  [(.vcore, 24, 56, 16, 48), (.vsram, 16, 23, 16, 48), (.vsram, 57, 64, 16, 48), (.vana, 8, 15, 16, 48), (.vana, 65, 72, 16, 48)
  , (.vserdes, 8, 71, 10, 14), (.vserdes, 8, 71, 50, 54), (.vio, 74, 78, 16, 19), (.vhvp, 74, 78, 40, 47)
  , (.vhvn, 74, 78, 50, 57), (.vaux, 2, 6, 56, 61)]

/-- A land of a rail (R482). -/
def railLand (c r : Nat) : Option LandFn :=
  if (c + r) % 2 = 1 then
    (railRects.find? fun x => decide (x.2.1 ≤ c) && decide (c ≤ x.2.2.1) && decide (x.2.2.2.1 ≤ r) && decide (r ≤ x.2.2.2.2)).map
      fun x => LandFn.rail x.1
  else none

/-- The function of land c/r: the first row of the table of R482 that applies. -/
def landFn (c r : Nat) : LandFn :=
  ((((((discreteLand c r).or (spLand c r)).or (pcieLand c r)).or (mirrorLand c r)).or (tecLand c r)).or (railLand c r)).getD .vss

/-! ### Rails (R484) -/

/-- The limits of a rail in 100 µV (R484). -/
def Rail.limits : Rail → Int × Int
  | .vaux => (31350, 34650)
  | .vcore => (7275, 7725)
  | .vsram => (8245, 8755)
  | .vserdes => (8730, 9270)
  | .vio => (11400, 12600)
  | .vana => (17460, 18540)
  | .vhvp => (71250, 78750)
  | .vhvn => (-78750, -71250)

/-- The monitor window of a rail in 100 µV: outside it, sources 9 to 15 have their cause (R393, R484). -/
def Rail.window : Rail → Option (Int × Int)
  | .vaux => none
  | .vcore => some (7125, 7875)
  | .vsram => some (8075, 8925)
  | .vserdes => some (8550, 9450)
  | .vio => some (11000, 13000)
  | .vana => some (17100, 18900)
  | .vhvp => some (69000, 81000)
  | .vhvn => some (-81000, -69000)

/-- The source of a rail (R393). -/
def Rail.source : Rail → Option Nat
  | .vaux => none
  | .vcore => some 9
  | .vsram => some 10
  | .vserdes => some 11
  | .vio => some 12
  | .vana => some 13
  | .vhvp => some 14
  | .vhvn => some 15

/-- Below this voltage in 100 µV a rail resets the module or its main domains (R460, R484). -/
def Rail.resetBelow : Rail → Option Int
  | .vaux => some 29000
  | .vcore => some 6750
  | .vsram => some 7650
  | .vserdes => some 8100
  | .vana => some 16200
  | _ => none

/-- The rail has its fault cause at this voltage (R393, R484). -/
def Rail.cause (x : Rail) (v : Int) : Bool :=
  match x.window with
  | some w => decide (v < w.1) || decide (w.2 < v)
  | none => false

/-! ### Fibres (R53, R495) -/

/-- Array, connector and fibre of a port, in-port or out-port alike (R495). -/
def fibreOf (p : Nat) : Nat × Nat × Nat := (p / 64, p % 64 / 16, p % 16 + 1)

/-- The port on a fibre (R495). -/
def fibrePort (k j f : Nat) : Nat := 64 * k + 16 * j + (f - 1)

/-- The out-port that the released Placket gives an in-port (R53). -/
def successor (p : Nat) : Nat := (p + 1) % 512

end Sys2Proof.Machine
end

