-- ==== Sys2Proof/WellFormed.lean ====
section
/-! DEFINITION. Commands that the outside world can send: the bounds that the types of the operands do not say. -/
namespace Sys2Proof

/-- No tap is sampled twice in a frame (R105). -/
def noRepeat : List Nat → Bool
  | [] => true
  | a :: t => !t.contains a && noRepeat t

/-- An address of a register access: BAR0 of 32 MiB (R230), or the interrupt controller of Prale, which its firmware writes
(R435, R440). -/
def regAddr (a : Nat) : Bool := decide (a % 4 = 0) && (decide (a < 0x2000000) || (decide (0x40000000 ≤ a) && decide (a < 0x40004000)))

/-- An address of a read: of a register, or of BAR2, which lies behind BAR0 here and reads 0 (R228). -/
def readAddr (a : Nat) : Bool := regAddr a || (decide (a % 4 = 0) && decide (0x2000000 ≤ a) && decide (a < 0x2100000))

/-- A command is well formed: what its operand types do not say. -/
def Instr.wf : Instr → Bool
  | .registerWrite a _ => regAddr a
  | .rcRegisterRead a => readAddr a
  | .conversionFrame _ _ smp => noRepeat (smp.map fun x => x.h.val)
  | .linkUp _ rate fec => fecOk rate.val fec.val
  | .frameIngress p first whole _ _ =>
    if p.val = 64 then first.isEmpty else decide (first.length ≤ 128) && (whole || decide (first.length = 128))
  | _ => true

end Sys2Proof
end

