-- ==== Sys2Proof/Tests/Slice0.lean ====
section
/-! SUPPORT. Tests of the model: refusals of ill-formed commands, worked examples of the spec, a few single steps, and for each
statement with hypotheses the states and operands that meet them, clause by clause. -/
set_option maxRecDepth 20000
set_option Elab.async false
namespace Sys2Proof.Machine

/-- A state with a lane changed. -/
def State.onLane (s : State) (e : Nat) (f : Lane → Lane) : State := s.setLane e (f (s.lane e))

/-- A state with a cluster changed. -/
def State.onCl (s : State) (c : Nat) (f : Cluster → Cluster) : State := s.setCl c (f (s.cl c))

end Sys2Proof.Machine
namespace Sys2Proof.Tests
open Sys2Proof.Machine

/-! ### Well-formed commands -/

theorem test_wf_misaligned : (Instr.registerWrite 2 0).wf = false := by decide
theorem test_wf_outside : (Instr.rcRegisterRead 0x2100000).wf = false := by decide
theorem test_wf_bar2_read : (Instr.rcRegisterRead 0x2000000).wf = true := by decide
theorem test_wf_fec : (Instr.linkUp 3 2 0).wf = false := by decide
theorem test_wf_tap_twice : (Instr.conversionFrame 0 0 [⟨5, 1⟩, ⟨5, 2⟩]).wf = false := by decide
theorem test_wf_short_cell : (Instr.frameIngress 3 [1, 2] false 0 0).wf = false := by decide
theorem test_wf_own_bytes : (Instr.frameIngress 64 [1] false 0 0).wf = false := by decide
theorem test_wf_write : (Instr.registerWrite 0x0008 5).wf = true := by decide

/-! ### Worked examples of the spec -/

/-- 08: RING_CFG of command ring 2 lies at 0x0020_0088. -/
theorem test_ring_cfg_offset : Reg.RING_CFG.at [2] = 0x200088 := by decide +kernel
/-- 11: the block of shaper 149 lies at 0x0060_22A0, that of queue 3,221 at 0x0064_C950. -/
theorem test_traffic_offsets : Reg.SHP_CIR.at [149] = 0x6022A0 ∧ Reg.Q_DEPTH.at [queueNo 3 9 5] = 0x64C950 := by decide +kernel
/-- 04: the accumulator h = 148 of cluster 32 lies at 0x0120_4940. -/
theorem test_accumulator_offset : Reg.ACC_SUM.at [32, 148] = 0x1204940 := by decide +kernel
/-- An offset is found again as its register. -/
theorem test_locate : locate 0x6022A0 = some (.SHP_CIR, [149]) := by decide +kernel
/-- 06: the frame of the word 0x0025 is 0x00_255E. -/
theorem test_tag_frame : tagFrame 0x0025 = 0x00255E := by decide +kernel
/-- 06: the links of the path from 37 to 200 with m = 18. -/
theorem test_links : (List.range 17).map (fun s => (⟨37, 200, 18⟩ : Rt).link s) =
    [37, 37, 37, 37, 37, 37, 37, 37, 36, 36, 32, 40, 40, 8, 72, 200, 200] := by decide +kernel
/-- 06: it goes through node 16 of stage 10, whose split-lower element of plane A is 10,305. -/
theorem test_element : (⟨37, 200, 18⟩ : Rt).node 10 = 16 ∧ elemOf 0 10 16 1 = 10305 := by decide +kernel
/-- 06: −5.00 dBm and −6.00 dBm add up to −2.46 dBm. -/
theorem test_power_sum : dbSum [-1280, -1536] = -630 := by decide +kernel
/-- 07: the time message of second 1,700,000,037. -/
theorem test_tod : todValid [0xA7, 0x10, 0x25, 0xF1, 0x53, 0x65, 0, 0, 0x25, 0, 0x01, 0x2A, 0, 0, 0x5B, 0xD0] false = true := by
  decide +kernel
/-- 15: PER = 3,750 with DUTY = 0x576C is low at 1,398 in the periods k = 3, 7, 11 and 15 and 1,399 in the others. -/
theorem test_pwm : (List.range 16).map (pwmH 3750 0x576C) = (List.range 16).map (fun k => if k % 4 = 3 then 1398 else 1399) := by
  decide +kernel

/-- 18: SP37 has TXP at land 18/63 and RXN at land 19/60. -/
theorem test_sp_land : landFn 18 63 = .sp 37 true false ∧ landFn 19 60 = .sp 37 false true := by decide +kernel
/-- 18: land 18/63 lies at (27.5 mm, 75.5 mm). -/
theorem test_land_place : landAt 18 63 = (27500, 75500) := by decide
/-- 18: ports 37 and 200 lie on fibre 6 of ferrule 2 of connector 0 and on fibre 9 of ferrule 0 of connector 3. -/
theorem test_fibres : fibreOf 37 = (0, 2, 6) ∧ fibreOf 200 = (3, 0, 9) := by decide

/-! ### Single steps -/

/-- A command answers a next state for which p holds. -/
def after (o : Host.Outcome State Fault Refusal) (p : State → Bool) : Bool :=
  match o with
  | .next t => p t
  | _ => false

theorem test_reset_mem : State.reset.memWf = true := by decide
/-- A module that is READY, all else as at reset. -/
def up : State := { State.reset with sys := { State.reset.sys with por := false, stage := 15 } }

theorem test_engage_refused : after (exec .engageRequest up) (fun t => t.f PLK_EVT.ENG_REFUSED [] == 1 && t.plk.st == .released)
    = true := by decide +kernel
theorem test_depth_clamped : after (exec (.cufCtrlWrite 3) up) (fun t => t.f CUF_CTRL.TAG_DEPTH [] == 4
    && t.f CUF_STATUS.DEPTH_CLAMP [] == 1) = true := by decide +kernel
theorem test_idle : step State.reset = .next State.reset := rfl
theorem test_queue_order : after (step { State.reset with pending := [.lockstepHalt, .heartbeat] }) (fun t => t.prl.lsHalt
    && t.pending == [.heartbeat]) = true := by decide +kernel
theorem test_quarter_wave : quarterWave 0 = 25 := by decide +kernel

/-! ### States of the witnesses -/

/-- A module that has booted and is ready, in STANDALONE. -/
def rdy : State := { State.reset with sys := { State.reset.sys with por := false, stage := 15, pcie := true, readySince := true }, plk := ⟨.released, false, true, 0⟩ }

/-- A ready module whose cluster c runs its loops, with its first lane e enabled. -/
def loops (e : Nat) : State :=
  (rdy.setF SLV_CTRL.RUN [e / 256] 1).setReg .LANE_CFG [e / 256, e % 256] 0x00010001

/-- A module at the boot stage n. -/
def atStage (n : Nat) : State := { rdy with sys := { rdy.sys with stage := n, readySince := false } }

/-- A Placket state. -/
def plkIn (st : PlkSt) (pend : Bool) : State := { rdy with plk := ⟨st, pend, true, 0⟩ }

/-- A request of operation op on in-port a and out-port b with completion slot 1. -/
def req (op a b : Nat) : Req := ⟨op, 0x11, a, b, 0, false, 1, 1, 0⟩

/-- A transaction of one request, at the next boundary, from ring 0. -/
def txn1 (r : Req) : Txn := ⟨0, 0, [r], true, true, 0, 0, 0, 0, 0, 0, 0, 0, 0, false, 0⟩

/-- A placed request with pattern number p. -/
def placed1 (p : Nat) (fired : Bool) (r : Req) (chg : List Chg) : Placed :=
  ⟨0, txn1 r, p, fired, fired, chg, [], false, false, false, false, false, none, false, false, true, none, none, false, none, false, false, false, 0, 0⟩

/-- A completion slot for request 1 of ring 0. -/
def slot1 : CompSlot := ⟨0, 1, 0, 0x11, true, false, none⟩

/-- A module with a transaction delivered, its completion slot reserved. -/
def delivered (x : Txn) : State :=
  { rdy with pth := { rdy.pth with delivered := [x] }, hif := { rdy.hif with compq := [slot1, ⟨1, 2, 0, 0x12, true, false, none⟩] } }

/-- A module with one active path from in-port a to out-port b. -/
def onePath (a b mid : Nat) : State :=
  { rdy with pth := { rdy.pth with conn := sset [] a ⟨.active, b, mid, false, 77⟩, live := sset [] a (some ⟨b, mid⟩), plan := sset [] a (some ⟨b, mid⟩) } }

/-- Rings 0 (command) and 64 (its completions) active with 16 entries, n descriptors waiting at 0x10000. -/
def cmdRing (n : Nat) (ws : List Word) : State :=
  let s := ((((rdy.setF RING_CFG.EN [0] 1).setF RING_CFG.EN [64] 1).setF RING_CFG.SIZE [0] 4).setF RING_CFG.SIZE [64] 4).setF HIF_CTRL.INTAKE_EN [] 1
  let s := (s.setReg .RING_BASE_LO [0] 0x10000).setReg .RING_BASE_LO [64] 0x20000
  ((s.setRing 0 { Ring.reset with active := true, pi := n }).setRing 64 { Ring.reset with active := true }).hput 0x10000 (wordBytes ws)

/-- The same with light at the in-port, the Placket engaged and the verifier of the in-port in SEARCH. -/
def tagged (a b : Nat) : State :=
  { ((onePath a b 5).setF PTH_CTRL.VERIFY_EN [] 1).onLane (cuffOf 0 0 a) (fun l => { l with tap0 := { l.tap0 with avg := -500 } }) with
    plk := ⟨.engaged, false, true, 600⟩, pth := { (onePath a b 5).pth with tags := sset [] a { TagV.off with status := 1 } } }

/-- Ring g active with 64 entries at 0x40000, indices pi, ci and nxt. -/
def ringAt (g pi ci nxt : Nat) : State :=
  (((rdy.setF RING_CFG.EN [g] 1).setF RING_CFG.SIZE [g] 6).setReg .RING_BASE_LO [g] 0x40000).setRing g
    { Ring.reset with active := true, pi := pi, ci := ci, nxt := nxt }

/-- A frame in the buffer, n bytes of zeros, from port 2. -/
def frm (id n : Nat) : Machine.Frm := ⟨id, 2, 0, List.replicate n 0, true, false, false, false, none, 0, 55, none, none, false⟩

/-- A copy of it for output o in class 0. -/
def cpy (id o moved : Nat) : Cpy := ⟨id, 2, o, 0, moved, moved, false, none, none, none⟩

/-- A completion of request 1. -/
def comp1 : Comp := ⟨0, 0x11, 1, 0, false, false, false, false, false, true, 77, 3, 0, 1, 0, 0, [], 0, 0⟩

/-- Port p of the switch in a state. -/
def port (p : Nat) (f : SpPort → SpPort) (s : State) : State :=
  { s with sgf := { s.sgf with ports := sset s.sgf.ports p (f (s.spPort p)) } }

/-- A frame from an address to 02:00:00:00:00:07, 64 bytes with its FCS. -/
def eth : List Byte :=
  let b := [2, 0, 0, 0, 0, 7, 2, 0, 0, 0, 0, 8, 0x12, 0x34] ++ List.replicate 46 0
  b ++ fcs b

/-- A switch that forwards, ports 2 and 5 up, 02:00:00:00:00:07 in VLAN 1 behind port 5. -/
def sw : State :=
  let s := port 2 (fun p => { p with st := .up }) (port 5 (fun p => { p with st := .up }) ((rdy.setF SGF_CTRL.FWD_EN [] 1).setF SP_CFG.DEF_VID [2] 1))
  { s with sgf := { s.sgf with fwd := sset [] (fwdBucket 0x070000000002 1 * 4) ⟨0x070000000002, 1, 5⟩ } }

/-- The key registers hold 02:00:00:00:00:07 in VLAN 1 and result 9. -/
def keyed (s : State) : State :=
  ((((s.setReg .SGF_FWD_KEY0 [] 2).setF SGF_FWD_KEY1.DA_HI [] 0x0700).setF SGF_FWD_KEY1.VID [] 1).setReg .SGF_FWD_RES [] 9)

/-- A switch with one frame of 100 bytes from port 2 for port 5, of which n cells have crossed. -/
def queued (n : Nat) : State := { sw with sgf := { sw.sgf with frames := [frm 9 100], copies := [cpy 9 5 n], nextId := 10 } }

/-- A pair module with mirror lane 0 up, in a role and a sync state. -/
def paired (role sync : Nat) : State :=
  { rdy with sys := { rdy.sys with mode := 1, pref := true }, pair := { rdy.pair with role := role, sync := sync, lanes := 1, peer := true } }

/-- A HELLO. -/
def hello1 : HelloW := ⟨true, false, 1, 3, false, 7, 4, 5, 6, 77⟩

/-- A fabric device of number n. -/
def fabDev (n : Nat) : State := { rdy with sys := { rdy.sys with mode := 2, devid := n }, pth := { rdy.pth with tagId := n } }

/-- A control message from device 9 with SEQ 4. -/
def msg (dst : Nat) (b : FabBody) : FabMsg := ⟨9, dst, 4, 0, b⟩

/-- A lane that is stuck with a fault flag, its cluster's faults enabled. -/
def stuck : State := (rdy.setF SLV_FLT_EN.EN [0] 255).onLane 3 fun l => { l with sticky := 1 }

/-- A state with the fabric changed. -/
def onFab (s : State) (f : Fab → Fab) : State := { s with fab := f s.fab }
def onPrl (s : State) (f : Prl → Prl) : State := { s with prl := f s.prl }
def onCal (s : State) (f : Cal → Cal) : State := { s with cal := f s.cal }
def onPwr (s : State) (f : Pwr → Pwr) : State := { s with pwr := f s.pwr }
def onThm (s : State) (f : Thm → Thm) : State := { s with thm := f s.thm }
def onFlt (s : State) (f : Flt → Flt) : State := { s with flt := f s.flt }
def onPwm (s : State) (ch : Nat) (f : Pwm → Pwm) : State := { s with pwm := sset s.pwm ch (f (s.pwmOf ch)) }
def onOob (s : State) (f : Oob → Oob) : State := { s with prl := { s.prl with oob := f s.prl.oob } }

/-- A device 2 with a link in-port 300 fed by out-port 310 of device 9, its time locked. -/
def linked : State := { onFab (fabDev 2) (fun f => { f with lnkIn := sset [] 300 ⟨2, 9, 310⟩ }) with clr := { rdy.clr with st := .locked } }

/-- A RESERVE of device 9 for a path from its in-port 5 to this device's out-port 7. -/
def resv1 : ResvW := ⟨6, 0, [⟨256 * 9 + 5, 256 * 2 + 7, 310⟩]⟩

/-- A reservation that waits for devices. -/
def freq (stage : Nat) (wait : List Nat) : FabReq := ⟨6, 0, none, [], [], 0, 0, 40, wait, [], 0, none, 0, stage, [9, 11, 12], [], 0, [], 0⟩

/-- A segment held for reservation 6 of device 9. -/
def held6 : Placed := { placed1 0 false (req 1 300 7) [⟨300, none, some ⟨7, 5⟩, PathRec.idle⟩] with seg := some (9, 6), hold := true, host := false }
def seg6 : FabSeg := ⟨9, 6, 0, [(2309, 300, 7)], [⟨300, none, some ⟨7, 5⟩, PathRec.idle⟩], 0, 99⟩

/-- A device whose end in-port 5 is lit, link out-ports idle, probing enabled. -/
def probing : State := ((fabDev 2).setF FAB_CTRL.PROBE_EN [] 1).onLane (cuffOf 0 0 5) fun l => { l with tap0 := { l.tap0 with avg := -500 } }

/-- A management descriptor of operation op on a buffer. -/
def mgmt (op ofs len : Nat) : Txn := { txn1 (req op 0 0) with buf := 0x1000, ofs := ofs, len := len }

/-- A calibration run of operation op, at a stage or a step. -/
def calRun (op stage step : Nat) : State := onCal rdy fun k => { k with busy := true, op := op, stage := stage, step := step, c1 := 135 }

/-- A module at boot stage 14 whose clusters pass the self test. -/
def tested : State := { atStage 14 with clusters := (List.range 144).map fun c => (c, { Cluster.reset with runAct := true, adc := List.replicate 8 ⟨true, true⟩ }) }

/-- A switch that forwards, with a host frame of 60 bytes at 0x50000 for 02:00:00:00:00:07 in the first entry of transmit ring 0. -/
def hostTx : State :=
  (((((((sw.setF SP_CFG.DEF_VID [64] 1).setF RING_CFG.EN [148] 1).setF RING_CFG.SIZE [148] 6).setReg .RING_BASE_LO [148] 0x40000).setRing 148
    { Ring.reset with active := true, pi := 1 }).hput 0x40000 (wordBytes [0x50000, 0, 60, 0]))).hput 0x50000 (eth.take 60)

/-- A state with a full pattern store. -/
def full (s : State) : State := { s with yk := { s.yk with store := (List.range 1024).map fun n => ⟨n, .resident, .layer, [], 0, 0, false, 0, false, 1, false⟩ } }

theorem full_free (s : State) : (full s).freeNums = [] := by
  simp only [State.freeNums, full, List.filter_eq_nil_iff, List.any_map]
  intro n hn
  have : (List.range 1024).any (fun k => k == n) = true := List.any_eq_true.mpr ⟨n, hn, by simp⟩
  simpa [Function.comp_def] using this

/-! ### The hypotheses of the statements are met -/

theorem witness_stepRunsFront : ∃ (c : Instr) (s : State) (rest : List Instr), s.pending = c :: rest :=
  ⟨.heartbeat, { State.reset with pending := [.heartbeat, .lockstepHalt] }, [.lockstepHalt], rfl⟩
theorem witness_hostMemoryStaysCanonical : ∃ (s t : State), s.memWf = true ∧ step s = .next t :=
  ⟨{ State.reset with pending := [.doorbell ⟨0, true⟩ 1 [⟨64, [1, 2]⟩]] }, _, by decide +kernel, rfl⟩
theorem witness_bootStageBounded : ∃ (s t : State), s.sys.stage ≤ 15 ∧ step s = .next t :=
  ⟨{ atStage 14 with pending := [.bootStage ⟨true⟩] }, _, by decide +kernel, rfl⟩
theorem witness_placket_1 :
    (∃ (s : State), s.isOpen = true ∧ s.plk.st = .released ∧ s.plkInhibit = false ∧ s.plk.pumpOk = true)
    ∧ (∃ (s : State), s.isOpen = true ∧ s.plk.st = .released ∧ (s.plkInhibit = true ∨ s.plk.pumpOk = false))
    ∧ (∃ (s : State), s.isOpen = true ∧ s.plk.st = .releasing)
    ∧ (∃ (s : State), s.isOpen = true ∧ (s.plk.st = .engaging ∨ s.plk.st = .engaged))
    ∧ (∃ (s : State), s.isOpen = true ∧ (s.plk.st = .engaging ∨ s.plk.st = .engaged))
    ∧ (∃ (s : State) (hv : Fin 1024), s.plk.st = .engaging ∧ 540 ≤ hv.val)
    ∧ (∃ (s : State), s.plk.st = .engaging)
    ∧ (∃ (s : State) (hv : Fin 1024), s.plk.st = .engaged ∧ hv.val < 500)
    ∧ (∃ (s : State), s.plk.st = .releasing ∧ s.plk.engPend = false) :=
  ⟨⟨rdy, by decide +kernel⟩,
   ⟨{ rdy with plk := { rdy.plk with pumpOk := false } }, by decide +kernel⟩,
   ⟨plkIn .releasing false, by decide +kernel⟩,
   ⟨plkIn .engaged false, by decide +kernel⟩,
   ⟨plkIn .engaging false, by decide +kernel⟩,
   ⟨plkIn .engaging false, 540, by decide +kernel⟩,
   ⟨plkIn .engaging false, by decide +kernel⟩,
   ⟨plkIn .engaged false, 499, by decide +kernel⟩,
   ⟨plkIn .releasing false, by decide +kernel⟩⟩
theorem witness_placket_2 : ∃ (s : State), s.plk.st = .releasing ∧ s.plk.engPend = true ∧ s.plkInhibit = false ∧ s.plk.pumpOk = true :=
  ⟨plkIn .releasing true, by decide +kernel⟩
theorem witness_cufCtrlWrite : ∃ (s : State), s.isOpen = true :=
  ⟨rdy.onLane 34816 fun l => { l with st := .atten, tgt := 5 }, by decide +kernel⟩
theorem witness_resets :
    (∃ (s : State), s.sys.por = true)
    ∧ (∃ (s : State), s.sys.por = false ∧ s.sys.mainRst = false)
    ∧ (∃ (s : State), s.sys.mainRst = true ∧ s.sys.thmRst = false)
    ∧ (∃ (s : State), s.thm.restartP = true ∧ s.plk.st ≠ .released)
    ∧ (∃ (s : State), s.sys.por = false ∧ s.thm.restartP = true ∧ s.plk.st = .released)
    ∧ (∃ (s : State), s.sys.thmRst = true ∧ s.sys.mainRst = false ∧ 1000 ≤ s.thm.cool) :=
  ⟨⟨State.reset, by decide +kernel⟩,
   ⟨loops 3, by decide +kernel⟩,
   ⟨{ rdy with sys := { rdy.sys with mainRst := true } }, by decide +kernel⟩,
   ⟨{ (plkIn .engaged false) with thm := { rdy.thm with restartP := true } }, by decide +kernel⟩,
   ⟨{ rdy with thm := { rdy.thm with restartP := true } }, by decide +kernel⟩,
   ⟨{ rdy with sys := { rdy.sys with thmRst := true }, thm := { rdy.thm with cool := 1000 } }, by decide +kernel⟩⟩
theorem witness_bootStages :
    (∃ (s : State) (b : BootIn), s.inReset = false ∧ s.sys.stopped = false ∧ b.ok = true ∧ s.sys.stage ∈ [0, 1, 2, 4, 5, 6, 7, 8, 9, 10, 11, 12, 13])
    ∧ (∃ (s : State) (b : BootIn), s.inReset = false ∧ s.sys.stopped = false ∧ b.ok = true ∧ s.sys.stage = 4)
    ∧ (∃ (s : State) (b : BootIn), s.inReset = false ∧ s.sys.stopped = false ∧ b.ok = true ∧ s.sys.stage = 9)
    ∧ (∃ (s : State) (b : BootIn), s.inReset = false ∧ s.sys.stopped = false ∧ b.ok = true ∧ s.sys.stage = 10)
    ∧ (∃ (s : State) (b : BootIn), s.inReset = false ∧ s.sys.stopped = false ∧ b.ok = true ∧ s.sys.stage = 14 ∧ s.selfTest = true)
    ∧ (∃ (s : State), s.inReset = false ∧ s.sys.stopped = false ∧ s.sys.stage = 3 ∧ s.sys.bootSrc = true ∧ s.prl.extent = 0)
    ∧ (∃ (s : State) (b : BootIn), s.inReset = false ∧ s.sys.stopped = false ∧ (b.ok = false ∨ s.sys.stage = 14 ∧ s.selfTest = false) ∧ s.sys.stage ∈ [2, 3, 5, 6, 7, 12, 14] ∧ (s.sys.stage = 3 → s.sys.bootSrc = false))
    ∧ (∃ (s : State) (b : BootIn), s.inReset = false ∧ s.sys.stopped = false ∧ (b.ok = false ∨ s.sys.stage = 14 ∧ s.selfTest = false) ∧ s.sys.stage ∈ [2, 3, 5, 6, 7, 12, 14] ∧ (s.sys.stage = 3 → s.sys.bootSrc = false)) :=
  ⟨⟨atStage 0, ⟨true⟩, by decide +kernel⟩,
   ⟨atStage 4, ⟨true⟩, by decide +kernel⟩,
   ⟨atStage 9, ⟨true⟩, by decide +kernel⟩,
   ⟨atStage 10, ⟨true⟩, by decide +kernel⟩,
   ⟨tested, ⟨true⟩, by decide +kernel⟩,
   ⟨{ atStage 3 with sys := { (atStage 3).sys with bootSrc := true } }, by decide +kernel⟩,
   ⟨atStage 14, ⟨false⟩, by decide +kernel⟩,
   ⟨atStage 14, ⟨true⟩, by decide +kernel⟩⟩
theorem witness_deferredEngage :
    (∃ (s : State), s.isOpen = true ∧ s.plk.st = .releasing)
    ∧ (∃ (s : State), s.isOpen = true ∧ s.plk.st = .releasing ∧ s.plk.engPend = true)
    ∧ (∃ (s : State), s.isOpen = true ∧ s.plk.st = .releasing ∧ s.plk.engPend = true)
    ∧ (∃ (s : State), s.isOpen = true ∧ (s.plk.st = .engaging ∨ s.plk.st = .engaged)) :=
  ⟨⟨plkIn .releasing false, by decide +kernel⟩,
   ⟨plkIn .releasing true, by decide +kernel⟩,
   ⟨plkIn .releasing true, by decide +kernel⟩,
   ⟨plkIn .engaging false, by decide +kernel⟩⟩
theorem witness_registerAccesses :
    (∃ (a : Nat), locate a = none)
    ∧ (∃ (a : Nat), locate a = none)
    ∧ (∃ (s : State), s.ready = true ∧ s.inReset = false)
    ∧ (∃ (s : State), s.ready = true ∧ s.inReset = false)
    ∧ (∃ (s : State), s.ready = true ∧ s.inReset = false)
    ∧ (∃ (s : State), s.ready = true ∧ s.inReset = false)
    ∧ (∃ (s : State), s.ready = true ∧ s.inReset = false)
    ∧ (∃ (s : State) (a : Nat), s.ready = false ∧ (0x2000 ≤ a ∧ a < 0xC000 ∨ 0xE000 ≤ a ∧ a < 0x40000000)) :=
  ⟨⟨0x1FFC, by decide +kernel⟩,
   ⟨0x1FFC, by decide +kernel⟩,
   ⟨rdy, by decide +kernel⟩,
   ⟨rdy, by decide +kernel⟩,
   ⟨rdy, by decide +kernel⟩,
   ⟨rdy, by decide +kernel⟩,
   ⟨rdy, by decide +kernel⟩,
   ⟨atStage 14, 0x2000, by decide +kernel⟩⟩
theorem witness_accessCodes :
    (∃ (n : Nat), n < 32)
    ∧ (∃ (n : Nat), n < 32) :=
  ⟨⟨31, by decide +kernel⟩,
   ⟨31, by decide +kernel⟩⟩
theorem witness_laneEvents :
    (∃ (s : State) (e : Fin 36864), s.loopOn e = true ∧ s.darkDue e = false ∧ s.satDue e = false ∧ s.leakDue e = false ∧ (s.lane e).st = .acquire ∧ max 1 (s.f SLV_LOOP.LOCK_CNT [e.val / 256]) ≤ (s.lane e).lockRun ∧ s.acqDue e = false)
    ∧ (∃ (s : State) (e : Fin 36864), s.loopOn e = true ∧ s.darkDue e = false ∧ s.satDue e = false ∧ s.leakDue e = false ∧ (s.lane e).st = .locked ∧ max 1 (s.f SLV_LOOP.LOCK_CNT [e.val / 256]) ≤ (s.lane e).unlockRun)
    ∧ (∃ (s : State) (e : Fin 36864), s.faultOk e = true ∧ s.satDue e = true)
    ∧ (∃ (s : State) (e : Fin 36864), s.faultOk e = true ∧ s.leakDue e = true)
    ∧ (∃ (s : State) (e : Fin 36864), s.faultOk e = true ∧ s.acqDue e = true)
    ∧ (∃ (s : State), s.sys.hvOk = true) :=
  ⟨⟨(loops 3).onLane 3 fun l => { l with st := .acquire, lockRun := (loops 3).f SLV_LOOP.LOCK_CNT [0] + 1 }, 3, by decide +kernel⟩,
   ⟨(loops 3).onLane 3 fun l => { l with st := .locked, unlockRun := (loops 3).f SLV_LOOP.LOCK_CNT [0] + 1 }, 3, by decide +kernel⟩,
   ⟨(loops 3).onLane 3 fun l => { l with st := .locked, satRun := (loops 3).f SLV_FAULT.SAT_HOLD [0] + 1 }, 3, by decide +kernel⟩,
   ⟨(loops 3).onLane 3 fun l => { l with st := .locked, leakRun := (loops 3).f SLV_FAULT.LEAK_CNT [0] + 1 }, 3, by decide +kernel⟩,
   ⟨((loops 3).setF SLV_FAULT.ACQ_TIME [0] 1).onLane 3 fun l => { l with st := .acquire, acq := 8 }, 3, by decide +kernel⟩,
   ⟨loops 3, by decide +kernel⟩⟩
theorem witness_lightClasses :
    (∃ (s : State) (e : Fin 36864), isCuffE e = false ∧ (s.lane e).prof.on = false ∧ (s.cl (e.val / 256)).p2 = false ∧ (s.lane e).lit = false ∧ 8 ≤ (s.lane e).litRun)
    ∧ (∃ (s : State) (e : Fin 36864), isCuffE e = false ∧ (s.lane e).prof.on = false ∧ (s.cl (e.val / 256)).p2 = false ∧ (s.lane e).lit = true ∧ 8 ≤ (s.lane e).darkRun)
    ∧ (∃ (s : State) (e : Fin 36864), isCuffE e = false ∧ (s.lane e).prof.on = true ∨ (s.cl (e.val / 256)).p2 = true)
    ∧ (∃ (s : State) (e : Fin 36864) (tap : Bool), isCuffE e = false ∧ (if tap then (s.lane e).tap1 else (s.lane e).tap0).ovl = true ∧ 16 ≤ (if tap then (s.lane e).tap1 else (s.lane e).tap0).lowRun) :=
  ⟨⟨(loops 3).onLane 3 fun l => { l with st := .hold, litRun := 8 }, 3, by decide +kernel⟩,
   ⟨(loops 3).onLane 3 fun l => { l with st := .locked, lit := true, darkRun := 8 }, 3, by decide +kernel⟩,
   ⟨(loops 3).onLane 3 fun l => { l with litRun := 9, prof := { l.prof with on := true } }, 3, by decide +kernel⟩,
   ⟨(loops 3).onLane 3 fun l => { l with tap1 := { l.tap1 with ovl := true, lowRun := 16 } }, 3, true, by decide +kernel⟩⟩
theorem witness_setPointsAndRestarts :
    (∃ (s : State), s.isOpen = true ∧ s.storeOff = true)
    ∧ (∃ (s : State), s.isOpen = true ∧ s.storeOff = false)
    ∧ (∃ (s : State) (e : Fin 36864) (t : Nat), s.isOpen = true ∧ s.stickyEn e = false ∧ (s.lane e).tr.any (fun x => x.t0 == max s.clr.now t) = false ∧ (s.lane e).st = .fault ∧ isCuffE e = false ∧ (s.cl (e.val / 256)).p2 = false)
    ∧ (∃ (s : State) (e : Fin 36864) (t : Nat), s.isOpen = true ∧ (s.stickyEn e = true ∨ (s.lane e).tr.any (fun x => x.t0 == max s.clr.now t) = true) ∧ isCuffE e = true)
    ∧ (∃ (s : State), s.isOpen = true) :=
  ⟨⟨{ rdy with pwr := { rdy.pwr with st := 4 } }, by decide +kernel⟩,
   ⟨(loops 3).onLane 3 fun l => { l with st := .locked }, by decide +kernel⟩,
   ⟨(loops 3).onLane 3 fun l => { l with st := .fault, lit := true }, 3, 0, by decide +kernel⟩,
   ⟨((loops 34816).setF SLV_FLT_EN.EN [136] 255).onLane 34816 fun l => { l with st := .fault, sticky := 1 }, 34816, 0, by decide +kernel⟩,
   ⟨((loops 3).setF SLV_FLT_EN.EN [0] 255).onLane 3 fun l => { l with st := .fault, sticky := 1 }, by decide +kernel⟩⟩
theorem witness_learningTick :
    (∃ (s : State) (c : Fin 144), s.fb SLV_CTRL.RUN [c.val] = true ∧ s.folded = false ∧ 0 < (s.cl c).tick ∧ (s.cl c).tick % 2 ^ clampN 10 20 (s.f SLV_LEARN.LTICK [c.val]) = 0)
    ∧ (∃ (s : State) (c : Fin 144), (s.fb SLV_CTRL.RUN [c.val] = false ∨ s.folded = true ∨ (s.cl c).tick = 0 ∨ (s.cl c).tick % 2 ^ clampN 10 20 (s.f SLV_LEARN.LTICK [c.val]) ≠ 0)) :=
  ⟨⟨((((loops 3).setF LANE_CFG.LEARN_EN [0, 3] 1).setF SLV_CTRL.LEARN [0] 1).onLane 3 fun l => { l with st := .locked, i := 70000 }).onCl 0 fun k => { k with tick := 2 ^ 20 }, 0, by decide +kernel⟩,
   ⟨rdy.setF SLV_CTRL.RUN [1] 0, 1, by decide +kernel⟩⟩
theorem witness_conversionFrame :
    (∃ (s : State), s.folded = false)
    ∧ (∃ (s : State), s.folded = true) :=
  ⟨⟨(loops 3).onCl 0 fun k => { k with adc := List.replicate 8 ⟨true, false⟩ }, by decide +kernel⟩,
   ⟨onPwr (loops 3) fun p => { p with st := 3 }, by decide +kernel⟩⟩
theorem witness_cuffExchange :
    (∃ (c : Fin 144), c.val ∈ [136, 137, 140, 141])
    ∧ (∃ (c : Fin 144), c.val ∈ [136, 137, 140, 141])
    ∧ (∃ (c : Fin 144), c.val ∈ [136, 137, 140, 141]) :=
  ⟨⟨136, by decide +kernel⟩,
   ⟨141, by decide +kernel⟩,
   ⟨136, by decide +kernel⟩⟩
theorem witness_references :
    (∃ (s : State) (c : Fin 144), (s.cl c).adc.length = 8 ∧ s.isOpen = true)
    ∧ (∃ (s : State) (c : Fin 144), (s.cl c).adc.length = 8 ∧ s.isOpen = true)
    ∧ (∃ (s : State) (c : Fin 144) (a : Fin 8), (s.cl c).adc.length = 8 ∧ (s.cl c).settled a = false)
    ∧ (∃ (s : State) (c : Fin 144) (a : Fin 8), (s.cl c).adc.length = 8 ∧ (s.cl c).settled a = false ∧ ((s.cl c).adc.getD a ⟨false, false⟩).settling = true)
    ∧ (∃ (s : State) (c : Fin 144) (a : Fin 8), (s.cl c).adc.length = 8 ∧ (s.cl c).settled a = true) :=
  ⟨⟨rdy.onCl 3 fun k => { k with adc := List.replicate 8 ⟨true, false⟩ }, 3, by decide +kernel⟩,
   ⟨rdy.onCl 3 fun k => { k with adc := List.replicate 8 ⟨true, false⟩ }, 3, by decide +kernel⟩,
   ⟨rdy, 3, 7, by decide +kernel⟩,
   ⟨rdy, 3, 7, by decide +kernel⟩,
   ⟨rdy.onCl 3 fun k => { k with adc := List.replicate 8 ⟨true, false⟩ }, 3, 7, by decide +kernel⟩⟩
theorem witness_accumulators_1 :
    (∃ (s : State), s.isOpen = true)
    ∧ (∃ (s : State), s.isOpen = true)
    ∧ (∃ (s : State), s.isOpen = true)
    ∧ (∃ (s : State), s.isOpen = true)
    ∧ (∃ (s : State) (c : Fin 144), (s.cl c).eng.stopping = true)
    ∧ (∃ (s : State) (c : Fin 144), (s.cl c).eng.stopping = true)
    ∧ (∃ (s : State) (c : Fin 144), s.isOpen = true ∧ (s.cl c).eng.en = true ∧ (s.accSrc c).testBit 0 = true ∧ (s.cl c).eng.strobeAt ≠ some s.clr.now)
    ∧ (∃ (s : State) (c : Fin 144), s.isOpen = true ∧ (s.cl c).eng.en = true ∧ (s.accSrc c).testBit 0 = true ∧ (s.cl c).eng.strobeAt ≠ some s.clr.now)
    ∧ (∃ (s : State) (c : Fin 144), s.isOpen = true ∧ (s.cl c).eng.en = true ∧ (s.accSrc c).testBit 0 = true ∧ (s.cl c).eng.strobeAt = some s.clr.now) :=
  ⟨⟨rdy, by decide +kernel⟩,
   ⟨rdy.onCl 3 fun k => { k with eng := { k.eng with stopping := true, en := true } }, by decide +kernel⟩,
   ⟨rdy.onCl 3 fun k => { k with eng := { k.eng with en := true } }, by decide +kernel⟩,
   ⟨rdy.onCl 3 fun k => { k with eng := { k.eng with stopping := true, en := true, enPend := true } }, by decide +kernel⟩,
   ⟨rdy.onCl 3 fun k => { k with eng := { k.eng with stopping := true, en := true, running := true } }, 3, by decide +kernel⟩,
   ⟨rdy.onCl 3 fun k => { k with eng := { k.eng with stopping := true, en := true, enPend := true } }, 3, by decide +kernel⟩,
   ⟨(rdy.setF ACC_CTRL.TRIG_SRC [3] 1).onCl 3 fun k => { k with eng := { k.eng with en := true } }, 3, by decide +kernel⟩,
   ⟨(rdy.setF ACC_CTRL.TRIG_SRC [3] 1).onCl 3 fun k => { k with eng := { k.eng with en := true, running := true, src := 1 } }, 3, by decide +kernel⟩,
   ⟨(rdy.setF ACC_CTRL.TRIG_SRC [3] 1).onCl 3 fun k => { k with eng := { k.eng with en := true, strobeAt := some 0 } }, 3, by decide +kernel⟩⟩
theorem witness_accumulators_2 :
    (∃ (s : State) (c : Fin 144), (s.cl c).eng.running = true ∧ (s.cl c).eng.stopping = false ∧ (s.cl c).eng.fi = 2 ^ (s.cl c).eng.k)
    ∧ (∃ (s : State) (c : Fin 144), (s.cl c).eng.running = true ∧ (s.cl c).eng.stopping = false ∧ (s.cl c).eng.fi = 2 ^ (s.cl c).eng.k) :=
  ⟨⟨rdy.onCl 3 fun k => { k with eng := { k.eng with en := true, running := true, fi := 16, k := 4 }, accs := sset [] 5 ⟨100, 16, 2, 9, true, false, true⟩ }, 3, by decide +kernel⟩,
   ⟨rdy.onCl 3 fun k => { k with eng := { k.eng with en := true, running := true, latched := true, fi := 16, k := 4 } }, 3, by decide +kernel⟩⟩
theorem witness_tonesAndLimits :
    (∃ (s : State) (e : Fin 36864), (s.lane e).zc = true)
    ∧ (∃ (s : State), s.isOpen = true)
    ∧ (∃ (s : State), s.isOpen = true)
    ∧ (∃ (s : State) (c : Fin 144) (v : Word), s.isOpen = true ∧ spCode (256 * c.val) (fget 0 16 v) ≤ spCode (256 * c.val) (fget 16 16 v))
    ∧ (∃ (s : State) (c : Fin 144) (v : Word), s.isOpen = true ∧ spCode (256 * c.val) (fget 0 16 v) ≤ spCode (256 * c.val) (fget 16 16 v))
    ∧ (∃ (s : State) (c : Fin 144) (v : Word), s.isOpen = true ∧ spCode (256 * c.val) (fget 16 16 v) < spCode (256 * c.val) (fget 0 16 v))
    ∧ (∃ (s : State) (c : Fin 144) (v : Word), s.isOpen = true ∧ spCode (256 * c.val) (fget 16 16 v) < spCode (256 * c.val) (fget 0 16 v)) :=
  ⟨⟨(loops 3).onLane 3 fun l => { l with st := .locked, zc := true, invP := true, acc := 0x900000 }, 3, by decide +kernel⟩,
   ⟨loops 3, by decide +kernel⟩,
   ⟨{ loops 3 with regs := sset (loops 3).regs (Reg.LSG_CTRL.at [0]) 0xFFFFFFFF }, by decide +kernel⟩,
   ⟨loops 3, 0, 0x0005FFF0, by decide +kernel⟩,
   ⟨loops 3, 136, 0xFFF00005, by decide +kernel⟩,
   ⟨loops 3, 0, 0xFFF00005, by decide +kernel⟩,
   ⟨loops 3, 136, 0x0005FFF0, by decide +kernel⟩⟩
theorem witness_handOverAndReports :
    (∃ (s : State) (e : Fin 36864), (s.lane e).prof.on = true ∧ (s.lane e).prof.len ≤ (s.lane e).prof.n)
    ∧ (∃ (s : State) (e : Fin 36864), (s.lane e).prof.on = true ∧ (s.lane e).prof.len ≤ (s.lane e).prof.n)
    ∧ (∃ (s : State) (c : Fin 144) (pat : Fin 1024) (k : ClTrans), (s.cl c).tr.find? (fun x => x.pat == pat.val) = some k ∧ (k.open_ = 0 ∨ 0 < k.nSup))
    ∧ (∃ (s : State) (e : Fin 36864) (tr : Trans), (s.lane e).tr = some tr ∧ 17 ≤ tr.f ∧ tr.recd = false)
    ∧ (∃ (s : State) (e : Fin 36864) (tr : Trans), (s.lane e).tr = some tr ∧ 17 ≤ tr.f ∧ tr.recd = false) :=
  ⟨⟨(loops 3).onLane 3 fun l => { l with st := .profile, lit := true, prof := ⟨true, 240, 240, 0, 0⟩ }, 3, by decide +kernel⟩,
   ⟨(loops 35328).onLane 35328 fun l => { l with st := .profile, lit := true, prof := ⟨true, 240, 240, 0, 0⟩, tap0 := { l.tap0 with word := -300 } }, 35328, by decide +kernel⟩,
   ⟨{ (rdy.onCl 3 fun k => { k with tr := [⟨9, 500, 0, 3, 1, 0, 0, 0, 64, true⟩] }) with col := [⟨9, 500, [3, 7], true, .complete, 0, 0, 0, false, none, none⟩] }, 3, 9, ⟨9, 500, 0, 3, 1, 0, 0, 0, 64, true⟩, by decide +kernel⟩,
   ⟨rdy.onLane 5 fun l => { l with tr := some ⟨9, 500, 17, .settled, 3, 4, 5, false, false, 0, 0, false⟩ }, 5, ⟨9, 500, 17, .settled, 3, 4, 5, false, false, 0, 0, false⟩, by decide +kernel⟩,
   ⟨rdy.onLane 5 fun l => { l with tr := some ⟨9, 500, 17, .progress, 3, 4, 5, false, false, 0, 0, false⟩ }, 5, ⟨9, 500, 17, .progress, 3, 4, 5, false, false, 0, 0, false⟩, by decide +kernel⟩⟩
theorem witness_patternFire : ∃ (s : State) (t : Nat) (p : PatEnt), s.yk.mode < 2 ∧ t % s.slotNs = 0 ∧ s.flt.safe = false ∧ s.pwr.st = 0 ∧ s.col = [] ∧ s.yk.store = [p] ∧ s.cal.routes = [] ∧ s.cal.next = [] ∧ s.cal.busyAdc = [] ∧ p.st = .armed ∧ p.kind = .request ∧ p.layer = 0 ∧ p.due ≤ t ∧ p.heldP = false :=
  ⟨{ loops 3 with yk := { rdy.yk with store := [⟨7, .armed, .request, [⟨3, true, none, none, none, none, none, none⟩], 0, 5000, false, 0, false, 0, false⟩] } }, 100000, ⟨7, .armed, .request, [⟨3, true, none, none, none, none, none, none⟩], 0, 5000, false, 0, false, 0, false⟩, by decide +kernel⟩
theorem witness_pulsePerSecond :
    (∃ (s : State) (t : Nat), 7 < s.sys.stage ∧ s.fb CLR_CTRL.PPS_EN [] = true ∧ (s.clr.st = .unset ∨ (phiOf (max s.clr.now t)).natAbs ≤ s.f CLR_DISC.PPS_WIN []))
    ∧ (∃ (s : State) (t : Nat), 7 < s.sys.stage ∧ s.fb CLR_CTRL.PPS_EN [] = true ∧ (s.clr.st = .unset ∨ (phiOf (max s.clr.now t)).natAbs ≤ s.f CLR_DISC.PPS_WIN []))
    ∧ (∃ (s : State) (t : Nat), 7 < s.sys.stage ∧ s.fb CLR_CTRL.PPS_EN [] = true ∧ s.clr.st = .locked ∧ s.f CLR_DISC.PPS_WIN [] < (phiOf (max s.clr.now t)).natAbs)
    ∧ (∃ (s : State), s.clr.st ≠ .unset ∧ s.clr.edgeIn = true)
    ∧ (∃ (s : State), s.clr.st ≠ .unset ∧ s.clr.edgeIn = false ∧ s.clr.ppsOk = true ∧ s.f CLR_HOLD.PPS_LOSS_N [] ≤ s.clr.missed + 1)
    ∧ (∃ (s : State), s.clr.st ≠ .unset ∧ s.clr.edgeIn = false ∧ s.clr.ppsOk = true ∧ s.f CLR_HOLD.PPS_LOSS_N [] ≤ s.clr.missed + 1)
    ∧ (∃ (s : State) (t : Nat) (e : Nat), s.clr.st = .unset ∧ s.clr.ppsOk = true ∧ s.clr.lastEdge = some e ∧ e + s.f CLR_HOLD.PPS_LOSS_N [] * secNs ≤ (s.passTo t).clr.now) :=
  ⟨⟨{ (rdy.setF CLR_CTRL.PPS_EN [] 1) with clr := { rdy.clr with st := .acquire, lockRun := 3 } }, 5000000040, by decide +kernel⟩,
   ⟨{ (rdy.setF CLR_CTRL.PPS_EN [] 1) with clr := { rdy.clr with st := .acquire, lockRun := 100 } }, 5000000040, by decide +kernel⟩,
   ⟨{ (rdy.setF CLR_CTRL.PPS_EN [] 1) with clr := { rdy.clr with st := .locked, now := 7, ppsOk := true } }, 5400000000, by decide +kernel⟩,
   ⟨{ rdy with clr := { rdy.clr with st := .locked, edgeIn := true, missed := 1 } }, by decide +kernel⟩,
   ⟨{ rdy with clr := { rdy.clr with st := .locked, ppsOk := true, missed := 20, todOk := true } }, by decide +kernel⟩,
   ⟨{ rdy with clr := { rdy.clr with st := .acquire, ppsOk := true, missed := 20, todOk := true } }, by decide +kernel⟩,
   ⟨{ rdy with clr := { rdy.clr with st := .unset, ppsOk := true, lastEdge := some 5 } }, 700000000005, 5, by decide +kernel⟩⟩
theorem witness_referenceAndTime_1 :
    (∃ (s : State), s.clr.refOk = true)
    ∧ (∃ (s : State), s.clr.refOk = true)
    ∧ (∃ (s : State) (t : Nat) (msg : List Byte) (gap : Bool), todValid msg gap = true ∧ (s.passTo t).todInWindow = true ∧ s.fb CLR_CTRL.TOD_EN [] = true ∧ s.clr.st ≠ .unset ∧ leValue ((msg.drop 2).take 6) = (s.passTo t).clr.now / secNs + 1)
    ∧ (∃ (msg : List Byte) (gap : Bool), todValid msg gap = false)
    ∧ (∃ (s : State), s.clr.todSeen = false)
    ∧ (∃ (s : State) (t : Nat), s.clr.st = .holdover ∧ s.f CLR_HOLD.HOLD_LIMIT [] ≠ 0 ∧ s.clr.holdAt + s.f CLR_HOLD.HOLD_LIMIT [] * secNs ≤ (s.passTo t).clr.now)
    ∧ (∃ (s : State) (v : Word), s.isOpen = true ∧ s.clr.st ≠ .unset ∧ (bit CLR_CTRL.PPS_EN.lo v = false ∨ bit CLR_CTRL.DISC_EN.lo v = false))
    ∧ (∃ (s : State), s.isOpen = true ∧ s.clr.st = .unset)
    ∧ (∃ (s : State), s.isOpen = true) :=
  ⟨⟨{ rdy with clr := { rdy.clr with refOk := true } }, by decide +kernel⟩,
   ⟨{ rdy with clr := { rdy.clr with refOk := true } }, by decide +kernel⟩,
   ⟨{ (rdy.setF CLR_CTRL.TOD_EN [] 1) with clr := { rdy.clr with st := .locked, lastEdge := some 5000000000 } }, 5100000000, [0xA7, 0x10, 6, 0, 0, 0, 0, 0, 0, 0, 0, 0, 0, 0, 0xB1, 0x92], false, by decide +kernel⟩,
   ⟨[0xA7, 0x10, 6, 0, 0, 0, 0, 0, 0, 0, 0, 0, 0, 0, 0xB1, 0x92], true, by decide +kernel⟩,
   ⟨{ rdy with clr := { rdy.clr with todOk := true } }, by decide +kernel⟩,
   ⟨{ (rdy.setF CLR_HOLD.HOLD_LIMIT [] 2) with clr := { rdy.clr with st := .holdover } }, 2000000000, by decide +kernel⟩,
   ⟨{ (rdy.setF CLR_CTRL.PPS_EN [] 1) with clr := { rdy.clr with st := .locked, adj := 9, fint := 4 } }, 0, by decide +kernel⟩,
   ⟨rdy, by decide +kernel⟩,
   ⟨rdy, by decide +kernel⟩⟩
theorem witness_referenceAndTime_2 :
    (∃ (s : State), s.isOpen = true)
    ∧ (∃ (s : State), s.isOpen = true)
    ∧ (∃ (s : State), 7 < s.sys.stage)
    ∧ (∃ (s : State), 7 < s.sys.stage) :=
  ⟨⟨rdy.setF CLR_CTRL.TOD_EN [] 1, by decide +kernel⟩,
   ⟨rdy, by decide +kernel⟩,
   ⟨(((rdy.setF YK_GRID.SLOT_US [] 50).setF CLR_SET_SECH.ARM [] 1).setF CLR_CTRL.PPS_EN [] 0).setF CLR_CTRL.TOD_EN [] 0, by decide +kernel⟩,
   ⟨(rdy.setF YK_GRID.SLOT_US [] 50).setF CLR_CTRL.PPS_EN [] 1, by decide +kernel⟩⟩
theorem witness_calendarSetUp_1 :
    (∃ (s : State), s.isOpen = true)
    ∧ (∃ (s : State), s.isOpen = true)
    ∧ (∃ (s : State), s.flt.safe = false)
    ∧ (∃ (s : State), s.isOpen = true ∧ s.calOwner = true ∧ s.flt.safe = false ∧ s.yk.mode = 0)
    ∧ (∃ (s : State), s.isOpen = true ∧ s.calOwner = true ∧ s.flt.safe = false ∧ s.yk.mode = 3)
    ∧ (∃ (s : State), s.isOpen = true ∧ s.calOwner = true ∧ s.flt.safe = true)
    ∧ (∃ (s : State), s.isOpen = true ∧ s.calOwner = true ∧ s.yk.mode = 1)
    ∧ (∃ (s : State), s.isOpen = true ∧ s.calOwner = true ∧ s.yk.mode = 2)
    ∧ (∃ (s : State), s.isOpen = true ∧ s.calOwner = true ∧ s.yk.mode = 3) :=
  ⟨⟨rdy, by decide +kernel⟩,
   ⟨rdy, by decide +kernel⟩,
   ⟨{ rdy with yk := { rdy.yk with store := [⟨7, .staged, .request, [], 100000, 5000, true, 0, false, 0, false⟩, ⟨8, .staged, .repair, [], 100000, 5000, true, 0, false, 0, false⟩] } }, by decide +kernel⟩,
   ⟨rdy, by decide +kernel⟩,
   ⟨{ rdy with yk := { rdy.yk with mode := 3 } }, by decide +kernel⟩,
   ⟨{ rdy with flt := { rdy.flt with safe := true } }, by decide +kernel⟩,
   ⟨{ rdy with yk := { rdy.yk with mode := 1 } }, by decide +kernel⟩,
   ⟨{ rdy with yk := { rdy.yk with mode := 2 } }, by decide +kernel⟩,
   ⟨{ rdy with yk := { rdy.yk with mode := 3, calPend := true } }, by decide +kernel⟩⟩
theorem witness_calendarSetUp_2 : ∃ (s : State) (v : Word), s.isOpen = true ∧ s.calOwner = true ∧ s.yk.mode = 2 ∧ bit 0 v = true ∧ 0 < s.entOfs s.yk.bank (s.bankN s.yk.bank) :=
  ⟨{ rdy with yk := { rdy.yk with mode := 2 } }, 1, by decide +kernel⟩
theorem witness_calendarRuns :
    (∃ (s : State) (t : Nat), s.yk.mode = 1 ∧ s.yk.calAt = t ∧ s.flt.safe = false ∧ (∀ p ∈ s.yk.store, ¬((p.st = .staged ∨ p.st = .armed) ∧ p.layer = 0 ∧ p.kind ≠ .repair)))
    ∧ (∃ (s : State) (t : Nat), s.yk.mode = 1 ∧ s.yk.calAt = t ∧ s.flt.safe = false ∧ (∃ p ∈ s.yk.store, (p.st = .staged ∨ p.st = .armed) ∧ p.layer = 0 ∧ p.kind ≠ .repair))
    ∧ (∃ (s : State) (t : Nat), s.yk.turnAt = t ∧ s.yk.mode = 2 ∧ s.yk.turnEnt ≠ 0)
    ∧ (∃ (s : State) (t : Nat), s.yk.turnAt = t ∧ s.yk.mode = 2 ∧ s.yk.turnEnt = 0 ∧ s.yk.swPend = true ∧ s.yk.swAt ≤ t)
    ∧ (∃ (s : State) (t : Nat), s.yk.turnAt = t ∧ s.yk.mode = 3 ∧ s.yk.turnEnt = 0 ∧ s.yk.stopAt ≤ t ∧ s.yk.calPend = false ∧ s.pth.placed = [])
    ∧ (∃ (s : State), s.annEn = true ∧ s.f YK_ANN_B.ANN_REPEAT [] ≠ 0 ∧ 2 ≤ s.yk.mode ∧ s.inPair = false) :=
  ⟨⟨{ rdy with yk := { rdy.yk with mode := 1, calAt := 1000000000 } }, 1000000000, by decide +kernel⟩,
   ⟨{ rdy with yk := { rdy.yk with mode := 1, calAt := 1000000000, store := [⟨7, .armed, .request, [⟨3, true, none, none, none, none, none, none⟩], 0, 5000, false, 0, false, 0, false⟩] } }, 1000000000, by decide +kernel⟩,
   ⟨{ rdy with yk := { rdy.yk with mode := 2, turnEnt := 1, turnAt := 1000 } }, 1000, by decide +kernel⟩,
   ⟨{ rdy with yk := { rdy.yk with mode := 2, turnAt := 1000, swPend := true, cycles := 4294967295 } }, 1000, by decide +kernel⟩,
   ⟨{ rdy with yk := { rdy.yk with mode := 3, turnAt := 1000 } }, 1000, by decide +kernel⟩,
   ⟨{ ((rdy.setF YK_ANN_B.ANN_REPEAT [] 4).setF YK_CTRL.ANN_EN [] 1) with yk := { rdy.yk with mode := 2 } }, by decide +kernel⟩⟩
theorem witness_requestChecks :
    (∃ (s : State) (t : Nat) (op : Nat) (c : Instr) (x : Txn) (rest : List Txn) (r : Req), (op, c) ∈ [(1, Instr.connect t), (2, .release t), (3, .move t)] ∧ s.inFabric = false ∧ s.pth.cur = none ∧ s.placeFree = true ∧ s.pth.delivered = x :: rest ∧ x.reqs = [r] ∧ r.op = op ∧ s.checkReq x 0 r = none)
    ∧ (∃ (s : State) (t : Nat) (op : Nat) (c : Instr) (x : Txn) (rest : List Txn) (r : Req), (op, c) ∈ [(1, Instr.connect t), (2, .release t), (3, .move t)] ∧ s.inFabric = false ∧ s.pth.cur = none ∧ s.placeFree = true ∧ s.pth.delivered = x :: rest ∧ x.reqs = [r] ∧ r.op = op)
    ∧ (∃ (s : State) (t : Nat) (op : Nat) (c : Instr) (x : Txn) (rest : List Txn) (r : Req), (op, c) ∈ [(1, Instr.connect t), (2, .release t), (3, .move t)] ∧ s.inFabric = false ∧ s.pth.cur = none ∧ s.placeFree = true ∧ s.pth.delivered = x :: rest ∧ x.reqs = [r] ∧ r.op = op)
    ∧ (∃ (s : State) (x : Txn) (r : Req), s.idTaken x r = true)
    ∧ (∃ (s : State) (x : Txn) (r : Req), s.idTaken x r = false ∧ s.flt.safe = true)
    ∧ (∃ (s : State) (x : Txn) (r : Req), s.idTaken x r = false ∧ s.thm.thr = true ∧ r.op ≠ 2)
    ∧ (∃ (s : State) (x : Txn) (i : Nat) (r : Req), s.inFabric = false ∧ s.idTaken x r = false ∧ s.flt.safe = false ∧ r.op = 2 ∧ (s.inPair = true → s.pair.role = 1) ∧ r.layer = 0 ∧ x.layer = 0 ∧ (s.outAfter x i r.a).isSome = true ∧ x.asap = true) :=
  ⟨⟨delivered (txn1 (req 1 3 9)), 7, 1, .connect 7, txn1 (req 1 3 9), [], req 1 3 9, by decide +kernel⟩,
   ⟨delivered (txn1 (req 3 3 9)), 7, 3, .move 7, txn1 (req 3 3 9), [], req 3 3 9, by decide +kernel⟩,
   ⟨delivered (txn1 (req 2 3 9)), 7, 2, .release 7, txn1 (req 2 3 9), [], req 2 3 9, by decide +kernel⟩,
   ⟨{ delivered (txn1 (req 2 3 9)) with hif := { rdy.hif with compq := [⟨0, 0, 0, 0x11, true, false, none⟩] } }, txn1 (req 2 3 9), req 2 3 9, by decide +kernel⟩,
   ⟨{ delivered (txn1 (req 2 3 9)) with flt := { rdy.flt with safe := true } }, txn1 (req 2 3 9), req 2 3 9, by decide +kernel⟩,
   ⟨{ delivered (txn1 (req 1 3 9)) with thm := { rdy.thm with thr := true } }, txn1 (req 1 3 9), req 1 3 9, by decide +kernel⟩,
   ⟨onePath 3 9 5, txn1 (req 2 3 9), 0, req 2 3 9, by decide +kernel⟩⟩
theorem witness_queriesAndIntake :
    (∃ (s : State) (x : Txn) (rest : List Txn) (r : Req), s.pth.cur = none ∧ s.placeFree = true ∧ s.pth.delivered = x :: rest ∧ x.reqs = [r] ∧ s.idTaken x r = false ∧ r.op = 4 ∧ r.layer = 0 ∧ r.sel = false)
    ∧ (∃ (s : State) (x : Txn) (rest : List Txn) (r : Req), s.pth.cur = none ∧ s.placeFree = true ∧ s.pth.delivered = x :: rest ∧ x.reqs = [r] ∧ s.idTaken x r = false ∧ r.op = 4 ∧ r.layer = 0 ∧ r.sel = false)
    ∧ (∃ (s : State) (x : Txn) (rest : List Txn) (r : Req), s.pth.cur = none ∧ s.placeFree = true ∧ s.pth.delivered = x :: rest ∧ x.reqs = [r] ∧ s.idTaken x r = false ∧ r.op = 0)
    ∧ (∃ (s : State) (m : State) (g : Nat), s.intakeOn = true ∧ s.readAll = m ∧ m.turnRing = some g ∧ m.deliverable g = 3 ∧ (m.ring g).run ≠ [])
    ∧ (∃ (s : State) (m : State) (g : Nat), s.intakeOn = true ∧ s.readAll = m ∧ m.turnRing = some g ∧ m.deliverable g = 4 ∧ (m.desc g (m.ring g).ci).badAlone = false ∧ (isFw (m.desc g (m.ring g).ci).op = false ∨ m.fwRuns = false))
    ∧ (∃ (s : State) (m : State) (g : Nat), s.intakeOn = true ∧ s.readAll = m ∧ m.turnRing = some g ∧ m.deliverable g = 4 ∧ (m.desc g (m.ring g).ci).badAlone = false ∧ (isFw (m.desc g (m.ring g).ci).op = false ∨ m.fwRuns = false)) :=
  ⟨⟨delivered (txn1 (req 4 3 0)), txn1 (req 4 3 0), [], req 4 3 0, by decide +kernel⟩,
   ⟨{ onePath 3 9 5 with pth := { (onePath 3 9 5).pth with delivered := [txn1 (req 4 3 0)] }, hif := (delivered (txn1 (req 4 3 0))).hif }, txn1 (req 4 3 0), [], req 4 3 0, by decide +kernel⟩,
   ⟨delivered (txn1 (req 0 3 0)), txn1 (req 0 3 0), [], req 0 3 0, by decide +kernel⟩,
   ⟨cmdRing 2 [1 + 2 ^ 8 + 2 ^ 9, 0x55, 3 + 9 * 2 ^ 16, 0, 0, 0, 0, 0, 0, 0, 0, 0, 0, 0, 0, 0, 2 + 2 ^ 9, 0x56, 4], (cmdRing 2 [1 + 2 ^ 8 + 2 ^ 9, 0x55, 3 + 9 * 2 ^ 16, 0, 0, 0, 0, 0, 0, 0, 0, 0, 0, 0, 0, 0, 2 + 2 ^ 9, 0x56, 4]).readAll, 0, by decide +kernel, rfl, by decide +kernel⟩,
   ⟨cmdRing 1 [1 + 2 ^ 9, 0x55, 3 + 9 * 2 ^ 16, 0], (cmdRing 1 [1 + 2 ^ 9, 0x55, 3 + 9 * 2 ^ 16, 0]).readAll, 0, by decide +kernel, rfl, by decide +kernel⟩,
   ⟨cmdRing 1 [4, 0x55, 3, 0], (cmdRing 1 [4, 0x55, 3, 0]).readAll, 0, by decide +kernel, rfl, by decide +kernel⟩⟩
theorem witness_placement :
    (∃ (s : State) (c : Cur), s.prl.lsHalt = false ∧ s.inFabric = false ∧ s.inPair = false ∧ s.pth.cur = some c ∧ c.txn.reqs.length ≤ c.idx ∧ s.placeFree = true)
    ∧ (∃ (s : State) (c : Cur), s.prl.lsHalt = false ∧ s.inFabric = false ∧ s.inPair = false ∧ s.pth.cur = some c ∧ c.txn.reqs.length ≤ c.idx ∧ s.placeFree = true)
    ∧ (∃ (s : State) (c : Cur), s.prl.lsHalt = false ∧ s.inFabric = false ∧ s.inPair = false ∧ s.pth.cur = some c ∧ c.txn.reqs.length ≤ c.idx ∧ s.placeFree = true) :=
  ⟨⟨{ delivered (txn1 (req 1 3 9)) with pth := { (delivered (txn1 (req 1 3 9))).pth with cur := some ⟨txn1 (req 1 3 9), 1, none⟩ } }, ⟨txn1 (req 1 3 9), 1, none⟩, by decide +kernel⟩,
   ⟨{ onePath 3 9 5 with pth := { (onePath 3 9 5).pth with cur := some ⟨txn1 (req 2 3 9), 1, none⟩ } }, ⟨txn1 (req 2 3 9), 1, none⟩, by decide +kernel⟩,
   ⟨(List.range 136).foldl (fun s i => s.setReg .PTH_EXCL [i] 0xFFFFFFFF) ({ delivered (txn1 (req 1 3 9)) with pth := { (delivered (txn1 (req 1 3 9))).pth with cur := some ⟨txn1 (req 1 3 9), 1, none⟩ } }), ⟨txn1 (req 1 3 9), 1, none⟩, by decide +kernel⟩⟩
theorem witness_stagingEnd :
    (∃ (s : State) (t : Nat) (p : Placed), s.pth.placed.find? (fun p => !p.staged && !p.hold && !p.rb) = some p ∧ p.mirDue = none ∧ p.seg = none ∧ 5 ≤ s.freeNums.length ∧ (((s.passTo t).txnDue p.txn p.loop p.rearr (s.passTo t).clr.now).late = false ∨ s.fb YK_CTRL.LATE_MODE [] = false))
    ∧ (∃ (s : State) (p : Placed), s.pth.placed.find? (fun p => !p.staged && !p.hold && !p.rb) = some p ∧ p.mirDue = none ∧ p.seg = none ∧ s.freeNums.length < 5) :=
  ⟨⟨{ { delivered (txn1 (req 1 3 9)) with clr := { rdy.clr with now := 5000 } } with pth := { ({ delivered (txn1 (req 1 3 9)) with clr := { rdy.clr with now := 5000 } }).pth with placed := [placed1 0 false (req 1 3 9) [⟨3, none, some ⟨9, 5⟩, PathRec.idle⟩]], plan := sset [] 3 (some ⟨9, 5⟩) } }, 7, placed1 0 false (req 1 3 9) [⟨3, none, some ⟨9, 5⟩, PathRec.idle⟩], by decide +kernel⟩,
   ⟨full { rdy with pth := { rdy.pth with placed := [placed1 0 false (req 1 3 9) [⟨3, none, some ⟨9, 5⟩, PathRec.idle⟩]], plan := sset [] 3 (some ⟨9, 5⟩) } }, placed1 0 false (req 1 3 9) [⟨3, none, some ⟨9, 5⟩, PathRec.idle⟩], by decide +kernel, by decide +kernel, by decide +kernel, by rw [full_free]; decide⟩⟩
theorem witness_patternResolves : ∃ (s : State) (pat : Fin 1024) (x : ColEnt) (p : Placed) (r : Req) (key : Nat) (old : Option Route) (rt : Route) (rcd : PathRec), s.inPair = false ∧ s.inFabric = false ∧ s.yk.mode < 2 ∧ s.col = [x] ∧ x.pat = pat.val ∧ x.wait = [] ∧ x.res = .complete ∧ x.has = true ∧ s.pth.placed = [p] ∧ s.pth.reps = [] ∧ s.pth.reports = [] ∧ p.pat = pat.val ∧ p.fired = true ∧ p.rb = false ∧ p.waits = none ∧ p.rolled = false ∧ p.waitRep = false ∧ p.repaired = false ∧ p.host = true ∧ p.seg = none ∧ p.ptn = none ∧ p.txn.reqs = [r] ∧ p.chg = [⟨key, old, some rt, rcd⟩] ∧ old ≠ some rt ∧ p.moved = [] ∧ sget none s.pth.live key = some rt ∧ (s.pathRec key).st = .pending :=
  ⟨{ delivered (txn1 (req 1 3 9)) with col := [⟨9, 500, [], true, .complete, 0, 0, 64, true, none, none⟩], pth := { rdy.pth with placed := [placed1 9 true (req 1 3 9) [⟨3, none, some ⟨9, 5⟩, PathRec.idle⟩]], conn := sset [] 3 ⟨.pending, 9, 5, false, 0⟩, live := sset [] 3 (some ⟨9, 5⟩) }, yk := { rdy.yk with store := [⟨9, .inFlight, .request, [], 0, 0, false, 0, false, 0, false⟩] } }, 9, ⟨9, 500, [], true, .complete, 0, 0, 64, true, none, none⟩, placed1 9 true (req 1 3 9) [⟨3, none, some ⟨9, 5⟩, PathRec.idle⟩], req 1 3 9, 3, none, ⟨9, 5⟩, PathRec.idle, by decide +kernel⟩
theorem witness_repairsAndFaultReports :
    (∃ (s : State) (t : Nat) (p : PatEnt), t % 1000 = 0 ∧ s.flt.safe = false ∧ s.pwr.st = 0 ∧ s.col = [] ∧ s.yk.store = [p] ∧ s.cal.routes = [] ∧ s.cal.next = [] ∧ s.cal.busyAdc = [] ∧ p.st = .staged ∧ p.kind = .repair ∧ p.layer = s.runLayer ∧ p.due ≤ t)
    ∧ (∃ (s : State) (r : Report) (rest : List Report), s.fab.waitQ = [] ∧ s.fab.late = [] ∧ s.fab.missed = [] ∧ s.fab.probes = [] ∧ s.pth.reps = [] ∧ s.pth.reports = r :: rest ∧ s.held r = false ∧ avoidable r.e = true ∧ s.pth.live = [] ∧ s.pth.placed = [])
    ∧ (∃ (s : State) (d : Nat × Nat) (dues : List (Nat × Nat)) (rt : Route), s.pth.contDue = d :: dues ∧ sget none s.pth.live (512 * s.runLayer + d.1) = some rt)
    ∧ (∃ (s : State) (e : Fin 36864), e.val ∈ s.pth.bank1 ∧ (s.lane e).st = .locked) :=
  ⟨⟨{ loops 3 with yk := { (loops 3).yk with store := [⟨7, .staged, .repair, [⟨3, true, none, none, none, none, none, none⟩], 0, 5000, false, 0, false, 0, false⟩] } }, 101000, ⟨7, .staged, .repair, [⟨3, true, none, none, none, none, none, none⟩], 0, 5000, false, 0, false, 0, false⟩, by decide +kernel⟩,
   ⟨{ rdy with pth := { (rdy).pth with reports := [⟨1029, 0, 0, 0, 0⟩, ⟨7, 0, 0, 0, 0⟩] } }, ⟨1029, 0, 0, 0, 0⟩, [⟨7, 0, 0, 0, 0⟩], by decide +kernel⟩,
   ⟨{ onePath 3 9 5 with pth := { (onePath 3 9 5).pth with contDue := [(3, 1), (4, 1)] } }, (3, 1), [(4, 1)], ⟨9, 5⟩, by decide +kernel⟩,
   ⟨{ (rdy.setF LANE_CFG.BANK [0, 3] 1).onLane 3 (fun l => { l with st := .locked }) with pth := { rdy.pth with bank1 := [3] } }, 3, by decide +kernel⟩⟩
theorem witness_exclusionWrites :
    (∃ (s : State), s.isOpen = true)
    ∧ (∃ (s : State), s.isOpen = true) :=
  ⟨⟨rdy.setReg .PTH_EXCL [135] 0xFFFF, by decide +kernel⟩,
   ⟨rdy.setReg .PTH_EXCL [135] 0xFFFF, by decide +kernel⟩⟩
theorem witness_tagsAndTargets :
    (∃ (s : State) (b : Fin 512) (a : Nat), s.inOf s.runLayer b = some a ∧ (s.pathRec (512 * s.runLayer + a)).st = .active)
    ∧ (∃ (s : State) (t : Nat), t % bitNs = 0 ∧ (s.tagIdReg = s.pth.tagId ∨ t % frameNs / bitNs ≠ 0))
    ∧ (∃ (s : State) (t : Nat), t % bitNs = 0 ∧ (s.tagIdReg = s.pth.tagId ∨ t % frameNs / bitNs ≠ 0))
    ∧ (∃ (s : State) (t : Nat) (a : Nat) (bins : List TagBin) (x : TagBin), t % 1000000 = 0 ∧ t % frameNs ≠ 1000000 ∧ s.inFabric = false ∧ s.fab.probes = [] ∧ s.fab.missed = [] ∧ s.yk.mode < 2 ∧ (∀ p ∈ s.pth.placed, p.lost = false) ∧ a < 512 ∧ (∀ k, k < 512 → k ≠ a → (s.liveRec k).st = .idle) ∧ (s.liveRec a).st = .active ∧ s.fb PTH_CTRL.VERIFY_EN [] = true ∧ s.tagHeld a (s.liveRec a).out false = false ∧ s.tagStatus a = 1 ∧ (sget TagV.off s.pth.tags a).since + 9000000 ≤ t ∧ x.out.val = (s.liveRec a).out ∧ bins.find? (fun y => y.out.val == x.out.val) = some x)
    ∧ (∃ (s : State) (t : Nat) (a : Nat) (bins : List TagBin) (x : TagBin), t % 1000000 = 0 ∧ t % frameNs ≠ 1000000 ∧ s.inFabric = false ∧ s.fab.probes = [] ∧ s.fab.missed = [] ∧ s.yk.mode < 2 ∧ (∀ p ∈ s.pth.placed, p.lost = false) ∧ a < 512 ∧ (∀ k, k < 512 → k ≠ a → (s.liveRec k).st = .idle) ∧ (s.liveRec a).st = .active ∧ s.fb PTH_CTRL.VERIFY_EN [] = true ∧ s.tagHeld a (s.liveRec a).out false = false ∧ s.tagStatus a = 1 ∧ (sget TagV.off s.pth.tags a).since + 9000000 ≤ t ∧ x.out.val = (s.liveRec a).out ∧ bins.find? (fun y => y.out.val == x.out.val) = some x)
    ∧ (∃ (s : State), s.isOpen = true)
    ∧ (∃ (s : State), s.isOpen = true) :=
  ⟨⟨onePath 3 9 5, 9, 3, by decide +kernel⟩,
   ⟨(onePath 3 9 5).onLane 34819 fun l => { l with st := .atten }, 10000000, by decide +kernel⟩,
   ⟨(onePath 3 9 5).onLane 34819 fun l => { l with st := .atten }, 230000000, by decide +kernel⟩,
   ⟨tagged 3 9, 9000000, 3, [⟨9, 500, 1, 5000, false⟩], ⟨9, 500, 1, 5000, false⟩, by decide +kernel⟩,
   ⟨tagged 3 9, 9000000, 3, [⟨9, 0, 500, 5000, false⟩], ⟨9, 0, 500, 5000, false⟩, by decide +kernel⟩,
   ⟨rdy, by decide +kernel⟩,
   ⟨{ rdy with sys := { rdy.sys with mode := 1 } }, by decide +kernel⟩⟩
theorem witness_ringCommands_1 :
    (∃ (s : State) (g : Fin 180) (v : Word) (ofs : Fin 1048576), bar2Ring ofs = some g.val ∧ hostProduced g = true ∧ (s.ring g).active = true ∧ s.dbOk g v.toNat = true)
    ∧ (∃ (s : State) (g : Fin 180) (v : Word) (ofs : Fin 1048576), bar2Ring ofs = some g.val ∧ 64 ≤ g.val ∧ g.val < 128 ∧ (s.ring g).active = true ∧ s.dbOk g v.toNat = true)
    ∧ (∃ (s : State) (g : Fin 180) (v : Word) (ofs : Fin 1048576), bar2Ring ofs = some g.val ∧ (g.val < 144 ∨ 148 ≤ g.val) ∧ ((s.ring g).active = false ∨ s.dbOk g v.toNat = false))
    ∧ (∃ (s : State) (g : Fin 180) (v : Word) (ofs : Fin 1048576), bar2Ring ofs = some g.val ∧ (g.val < 144 ∨ 148 ≤ g.val) ∧ ((s.ring g).active = false ∨ s.dbOk g v.toNat = false))
    ∧ (∃ (ofs : Fin 1048576) (full : Bool), (bar2Ring ofs = none ∨ full = false))
    ∧ (∃ (ofs : Fin 1048576) (full : Bool), (bar2Ring ofs = none ∨ full = false))
    ∧ (∃ (s : State) (g : Fin 180) (v : Word), s.isOpen = true ∧ (g.val < 144 ∨ 148 ≤ g.val) ∧ bit 31 v = true ∧ s.fb RING_CFG.EN [g.val] = false ∧ (s.ring g).busy = false)
    ∧ (∃ (s : State) (g : Fin 180) (v : Word), s.isOpen = true ∧ (g.val < 144 ∨ 148 ≤ g.val) ∧ bit 31 v = true ∧ s.fb RING_CFG.EN [g.val] = false ∧ (s.ring g).busy = false)
    ∧ (∃ (s : State) (g : Fin 180) (v : Word), s.isOpen = true ∧ g.val < 64 ∧ bit 31 v = false ∧ s.fb RING_CFG.EN [g.val] = true ∧ (s.ring g).busy = false) :=
  ⟨⟨ringAt 3 5 5 0, 3, 69, 0x3000, by decide +kernel⟩,
   ⟨ringAt 64 5 3 0, 64, 5, 0x40000, by decide +kernel⟩,
   ⟨ringAt 3 5 5 0, 3, 70, 0x3000, by decide +kernel⟩,
   ⟨ringAt 3 5 5 0, 179, 70, 0xb3000, by decide +kernel⟩,
   ⟨0x3004, true, by decide +kernel⟩,
   ⟨0x3000, false, by decide +kernel⟩,
   ⟨rdy, 3, 0x800A1F1F, by decide +kernel⟩,
   ⟨rdy, 179, 0xB00A1F00, by decide +kernel⟩,
   ⟨ringAt 3 5 5 0, 3, 0, by decide +kernel⟩⟩
theorem witness_ringCommands_2 :
    (∃ (s : State) (g : Fin 180) (v : Word), s.isOpen = true ∧ 64 ≤ g.val ∧ g.val < 128 ∧ bit 31 v = false ∧ s.fb RING_CFG.EN [g.val] = true ∧ (s.ring g).busy = false ∧ s.named (g.val - 64) = true)
    ∧ (∃ (s : State) (g : Fin 180), (g.val < 144 ∨ 148 ≤ g.val) ∧ (s.ring g).busy = true ∧ (s.ring g).enPend = false ∧ s.stopWaits g = false) :=
  ⟨⟨(ringAt 64 5 5 0).setF RING_CFG.EN [7] 1, 64, 0, by decide +kernel⟩,
   ⟨(ringAt 3 5 5 0).setRing 3 { Ring.reset with busy := true }, 3, by decide +kernel⟩⟩
theorem witness_entriesWritten :
    (∃ (s : State) (e : Evt) (rest : List Evt), s.prl.lsHalt = false ∧ s.hif.evq = e :: rest ∧ (s.ring (128 + e.ring)).active = true ∧ s.hasRoom (128 + e.ring) = true ∧ s.memWf = true)
    ∧ (∃ (s : State) (e : Evt) (rest : List Evt), s.prl.lsHalt = false ∧ s.hif.evq = e :: rest ∧ e.ring < 16 ∧ ((s.ring (128 + e.ring)).active = false ∨ s.hasRoom (128 + e.ring) = false))
    ∧ (∃ (s : State) (e : Evt) (rest : List Evt), s.prl.lsHalt = false ∧ s.hif.evq = e :: rest ∧ e.ring < 16 ∧ ((s.ring (128 + e.ring)).active = false ∨ s.hasRoom (128 + e.ring) = false))
    ∧ (∃ (s : State) (x : CompSlot) (c : Comp), s.prl.lsHalt = false ∧ s.nextComp = some x ∧ x.comp = some c ∧ c.moved = [] ∧ (s.ring (64 + c.cring)).active = true ∧ s.memWf = true)
    ∧ (∃ (s : State) (g : Fin 180), 64 ≤ g.val ∧ g.val < 144 ∧ s.f RING_COAL.COAL_US [g.val] ≠ 0 ∧ (s.ring g).u ≠ 0 ∧ (s.ring g).pi ≠ (s.ring g).ci ∧ s.fb MSIX_CTL.MASK [s.f RING_CFG.VEC [g.val]] = false) :=
  ⟨⟨(fun (s : State) => { s with hif := { s.hif with evq := [⟨0, 1, 0x10, 3, 5, [1, 2]⟩] } }) (ringAt 128 64 1 0), ⟨0, 1, 0x10, 3, 5, [1, 2]⟩, [], by decide +kernel⟩,
   ⟨(fun (s : State) => { s with hif := { s.hif with evq := [⟨0, 1, 0x10, 3, 5, [1, 2]⟩] } }) (ringAt 128 64 0 0), ⟨0, 1, 0x10, 3, 5, [1, 2]⟩, [], by decide +kernel⟩,
   ⟨(fun (s : State) => { s with hif := { s.hif with evq := [⟨0, 1, 0x10, 3, 5, [1, 2]⟩] } }) rdy, ⟨0, 1, 0x10, 3, 5, [1, 2]⟩, [], by decide +kernel⟩,
   ⟨{ ringAt 64 4294967295 4294967290 0 with hif := { (ringAt 64 4294967295 4294967290 0).hif with compq := [{ slot1 with comp := some comp1 }] } }, { slot1 with comp := some comp1 }, comp1, by decide +kernel⟩,
   ⟨((((ringAt 64 5 4 0).setF RING_COAL.COAL_US [64] 9)).setF MSIX_CTL.MASK [0] 0).setRing 64 { Ring.reset with active := true, u := 1, pi := 1 }, 64, by decide +kernel⟩⟩
theorem witness_sphRings_1 :
    (∃ (s : State) (k : Fin 16) (i : Nat), s.sphNext (148 + k) = some i ∧ s.flt.safe = true)
    ∧ (∃ (s : State) (k : Fin 16) (i : Nat), s.sphNext (148 + k) = some i ∧ s.flt.safe = false ∧ s.hnum (s.entryAt (148 + k) i 32 + 8) 4 % 2 ^ 14 < 60)
    ∧ (∃ (s : State) (k : Fin 16) (i : Nat) (w : Nat) (n : Nat) (b : List Byte) (z : Look), s.sphNext (148 + k) = some i ∧ s.flt.safe = false ∧ w = s.hnum (s.entryAt (148 + k) i 32 + 8) 4 ∧ 60 ≤ w % 2 ^ 14 ∧ w % 2 ^ 14 ≤ 9212 ∧ w / 2 ^ 14 % 4 = 0 ∧ w / 2 ^ 20 = 0 ∧ s.hnum (s.entryAt (148 + k) i 32 + 12) 4 = 0 ∧ b = s.hget (s.hnum (s.entryAt (148 + k) i 32) 8) (w % 2 ^ 14) ∧ (∀ q ∈ s.sgf.copies, q.fid ≠ s.sgf.nextId) ∧ z = s.lookup 64 (leValue ((b ++ fcs b).take 6)) (s.vidOf 64 (b ++ fcs b)) ∧ s.forwards = true ∧ z.outs = [n] ∧ s.outOpen n = true ∧ s.polEntry 64 (z.cls.getD (w / 2 ^ 16 % 16)) (s.vidOf 64 (b ++ fcs b)) = none ∧ s.sgf.inUse 64 + 72 ≤ s.f SGF_BUF.INPUT_MAX [] * 16 ∧ 72 ≤ s.sgf.free ∧ s.sgf.depth 64 n (z.cls.getD (w / 2 ^ 16 % 16)) < s.f SGF_BUF.VOQ_MAX [])
    ∧ (∃ (s : State) (k : Fin 16) (i : Nat) (w : Nat) (n : Nat) (b : List Byte) (z : Look), s.sphNext (148 + k) = some i ∧ s.flt.safe = false ∧ w = s.hnum (s.entryAt (148 + k) i 32 + 8) 4 ∧ 60 ≤ w % 2 ^ 14 ∧ w % 2 ^ 14 ≤ 9212 ∧ w / 2 ^ 14 % 4 = 0 ∧ w / 2 ^ 20 = 0 ∧ s.hnum (s.entryAt (148 + k) i 32 + 12) 4 = 0 ∧ b = s.hget (s.hnum (s.entryAt (148 + k) i 32) 8) (w % 2 ^ 14) ∧ (∀ q ∈ s.sgf.copies, q.fid ≠ s.sgf.nextId) ∧ z = s.lookup 64 (leValue ((b ++ fcs b).take 6)) (s.vidOf 64 (b ++ fcs b)) ∧ (s.forwards = false ∨ z.outs.filter s.outOpen = [] ∨ z.outs = [n] ∧ s.polEntry 64 (z.cls.getD (w / 2 ^ 16 % 16)) (s.vidOf 64 (b ++ fcs b)) = none ∧ (s.f SGF_BUF.INPUT_MAX [] * 16 < s.sgf.inUse 64 + 72 ∨ s.sgf.free < 72 ∨ s.f SGF_BUF.VOQ_MAX [] ≤ s.sgf.depth 64 n (z.cls.getD (w / 2 ^ 16 % 16)))))
    ∧ (∃ (s : State) (k : Fin 16) (i : Nat) (w : Nat) (n : Nat) (b : List Byte) (z : Look), s.sphNext (148 + k) = some i ∧ s.flt.safe = false ∧ w = s.hnum (s.entryAt (148 + k) i 32 + 8) 4 ∧ 60 ≤ w % 2 ^ 14 ∧ w % 2 ^ 14 ≤ 9212 ∧ w / 2 ^ 14 % 4 = 0 ∧ w / 2 ^ 20 = 0 ∧ s.hnum (s.entryAt (148 + k) i 32 + 12) 4 = 0 ∧ b = s.hget (s.hnum (s.entryAt (148 + k) i 32) 8) (w % 2 ^ 14) ∧ (∀ q ∈ s.sgf.copies, q.fid ≠ s.sgf.nextId) ∧ z = s.lookup 64 (leValue ((b ++ fcs b).take 6)) (s.vidOf 64 (b ++ fcs b)) ∧ (s.forwards = false ∨ z.outs.filter s.outOpen = [] ∨ z.outs = [n] ∧ s.polEntry 64 (z.cls.getD (w / 2 ^ 16 % 16)) (s.vidOf 64 (b ++ fcs b)) = none ∧ (s.f SGF_BUF.INPUT_MAX [] * 16 < s.sgf.inUse 64 + 72 ∨ s.sgf.free < 72 ∨ s.f SGF_BUF.VOQ_MAX [] ≤ s.sgf.depth 64 n (z.cls.getD (w / 2 ^ 16 % 16)))))
    ∧ (∃ (s : State) (d : SphDone) (rest : List SphDone), s.hif.sphDone = d :: rest ∧ s.memWf = true)
    ∧ (∃ (s : State) (k : Fin 16) (i : Nat) (c : Cpy) (f : Machine.Frm), s.sphNext (164 + k) = some i ∧ s.sphSelect k = some c ∧ 9216 ≤ s.hnum (s.entryAt (164 + k) i 32 + 8) 4 % 2 ^ 14 ∧ s.sgf.frame c.fid = some f ∧ s.memWf = true)
    ∧ (∃ (s : State) (g : Fin 180), hostProduced g = true ∧ (s.ring g).active = true)
    ∧ (∃ (s : State) (g : Fin 180), hostProduced g = true ∧ (s.ring g).active = true) :=
  ⟨⟨{ ringAt 148 1 0 0 with flt := { rdy.flt with safe := true } }, 0, 0, by decide +kernel⟩,
   ⟨((ringAt 148 1 0 0).hput 0x40000 (wordBytes [0x50000, 0, 59, 0])), 0, 0, by decide +kernel⟩,
   ⟨hostTx, 0, 0, 60, 5, eth.take 60, ⟨[5], false, none⟩, by decide +kernel⟩,
   ⟨hostTx.setF SGF_CTRL.FWD_EN [] 0, 0, 0, 60, 5, eth.take 60, ⟨[5], false, none⟩, by decide +kernel⟩,
   ⟨{ hostTx with sgf := { hostTx.sgf with fwd := [] } }, 0, 0, 60, 5, eth.take 60, ⟨[], false, none⟩, by decide +kernel⟩,
   ⟨{ ringAt 148 1 0 0 with hif := { (ringAt 148 1 0 0).hif with sphDone := [⟨0, 0, 1, 99, 5⟩] } }, ⟨0, 0, 1, 99, 5⟩, [], by decide +kernel⟩,
   ⟨{ ((ringAt 164 1 0 0).hput 0x40000 (wordBytes [0x50000, 0, 9216, 0])) with sgf := { (((ringAt 164 1 0 0).hput 0x40000 (wordBytes [0x50000, 0, 9216, 0]))).sgf with frames := [frm 9 100], copies := [{ cpy 9 64 2 with stag := some 4 }] } }, 0, 0, { cpy 9 64 2 with stag := some 4 }, frm 9 100, by decide +kernel⟩,
   ⟨ringAt 3 5 5 0, 3, by decide +kernel⟩,
   ⟨ringAt 179 5 5 0, 179, by decide +kernel⟩⟩
theorem witness_sphRings_2 : ∃ (s : State) (g : Fin 180) (e : Evt) (evs : List Evt), s.hif.evq = e :: evs ∧ 128 ≤ g.val ∧ g.val < 144 ∧ e.ring = g.val - 128 ∧ (s.ring g).active = true :=
  ⟨(fun (s : State) => { s with hif := { s.hif with evq := [⟨0, 1, 0x10, 3, 5, [1, 2]⟩] } }) (ringAt 128 64 1 0), 128, ⟨0, 1, 0x10, 3, 5, [1, 2]⟩, [], by decide +kernel⟩
theorem witness_captureRings_1 :
    (∃ (s : State) (k : Fin 4) (v : Word), s.isOpen = true ∧ s.fb CAP_CFG.EN [k.val] = false ∧ (s.capR k).busy = false ∧ bit 31 v = true ∧ s.capAdmit k = true)
    ∧ (∃ (s : State) (k : Fin 4) (v : Word), s.isOpen = true ∧ s.fb CAP_CFG.EN [k.val] = false ∧ (s.capR k).busy = false ∧ bit 31 v = true ∧ s.capAdmit k = false)
    ∧ (∃ (s : State) (k : Fin 4) (v : Word), s.isOpen = true ∧ s.fb CAP_CFG.EN [k.val] = true ∧ (s.capR k).busy = false ∧ bit 31 v = false)
    ∧ (∃ (s : State) (k : Fin 4) (v : Word) (n : Nat), (s.capR k).active = true ∧ bit 31 v = false ∧ s.capCi k v = some n)
    ∧ (∃ (s : State) (k : Fin 4), (s.capR k).active = false)
    ∧ (∃ (s : State) (k : Fin 4) (t : Nat) (r : CapRec), (s.capR k).fifo = [r] ∧ (s.capR k).gapP = none ∧ r.frame < (s.passTo t).clr.now / 1000 ∧ s.memWf = true ∧ (s.capR k).pi - max (s.capR k).ci (s.capR k).oldest ≠ s.capLen k)
    ∧ (∃ (t : Nat), t % 1000000 = 0)
    ∧ (∃ (s : State), s.isOpen = true)
    ∧ (∃ (rate : Fin 33) (width : Fin 9), rate.val ∈ [2, 5, 8, 16, 32] ∧ width.val ∈ [1, 2, 4, 8]) :=
  ⟨⟨((rdy.setF CAP_RSV.RSV [1] 100).setF CAP_CFG.SIZE [1] 10), 1, 0x80000006, by decide +kernel⟩,
   ⟨(rdy.setF CAP_SRC.FIRST_C [1] 9).setF CAP_SRC.LAST_C [1] 3, 1, 0x80000006, by decide +kernel⟩,
   ⟨(rdy.setF CAP_CFG.EN [1] 1).setCap 1 { CapRing.reset with active := true }, 1, 0x6, by decide +kernel⟩,
   ⟨(rdy.setF CAP_CFG.SIZE [1] 16).setCap 1 { CapRing.reset with active := true, pi := 200, ci := 64 }, 1, 2, 128, by decide +kernel⟩,
   ⟨rdy, 1, by decide +kernel⟩,
   ⟨({ rdy with clr := { rdy.clr with now := 9000 } }.setF CAP_CFG.SIZE [1] 16).setCap 1 { CapRing.reset with active := true, fifo := [⟨1, 0, 0, 5, [], 3⟩] }, 1, 7, ⟨1, 0, 0, 5, [], 3⟩, by decide +kernel⟩,
   ⟨5000000, by decide +kernel⟩,
   ⟨rdy.setCap 1 { CapRing.reset with active := true, pi := 5000000000, oldest := 4294967300 }, by decide +kernel⟩,
   ⟨8, 4, by decide +kernel⟩⟩
theorem witness_captureRings_2 : ∃ (t : Nat), t % 1000000 ≠ 0 :=
  ⟨5000001, by decide +kernel⟩
theorem witness_switchPorts :
    (∃ (s : State) (p : Fin 64) (v : Word), s.isOpen = true ∧ (s.spPort p).st = .disabled ∧ bit 31 v = true)
    ∧ (∃ (s : State) (p : Fin 64) (v : Word), s.isOpen = true ∧ (s.spPort p).st = .disabled ∧ bit 31 v = true)
    ∧ (∃ (s : State) (p : Fin 64) (v : Word), s.isOpen = true ∧ (s.spPort p).st ≠ .disabled ∧ (s.spPort p).st ≠ .stopping ∧ bit 31 v = false)
    ∧ (∃ (s : State) (p : Fin 64), (s.spPort p).st = .stopping ∧ (s.spPort p).tx = none ∧ (∀ c ∈ s.sgf.copies, c.out ≠ p.val))
    ∧ (∃ (s : State) (p : Fin 64) (rate : Fin 3) (fec : Fin 4), (s.spPort p).st = .negotiate ∨ (s.spPort p).st = .hold ∨ (s.spPort p).st = .down ∧ s.upOk p rate fec = true)
    ∧ (∃ (s : State) (p : Fin 64) (rate : Fin 3) (fec : Fin 4), (s.spPort p).st = .negotiate ∨ (s.spPort p).st = .hold ∨ (s.spPort p).st = .down ∧ s.upOk p rate fec = true)
    ∧ (∃ (s : State) (p : Fin 64), (s.spPort p).st = .up)
    ∧ (∃ (s : State) (p : Fin 64) (t : Nat), (s.spPort p).st = .hold ∧ s.f SGF_CTRL.HOLDOFF_US [] * 1000 ≤ (s.passTo t).clr.now - (s.spPort p).holdAt)
    ∧ (∃ (s : State) (p : Fin 64), bit 30 (s.spPort p).neg = true ∧ (s.spPort p).st = .negotiate) :=
  ⟨⟨rdy, 3, 0x80000000, by decide +kernel⟩,
   ⟨rdy.setF SP_CFG.AN_EN [3] 1, 3, 0x80000001, by decide +kernel⟩,
   ⟨port 3 (fun p => { p with st := .up }) rdy, 3, 0, by decide +kernel⟩,
   ⟨port 3 (fun p => { p with st := .stopping }) rdy, 3, by decide +kernel⟩,
   ⟨port 3 (fun p => { p with st := .hold, neg := 0x10000000 }) rdy, 3, 1, 0, by decide +kernel⟩,
   ⟨port 3 (fun p => { p with st := .negotiate, neg := 0x44000000 }) rdy, 3, 1, 0, by decide +kernel⟩,
   ⟨port 3 (fun p => { p with st := .up, tx := some 9 }) ({ rdy with sgf := { (rdy).sgf with frames := [frm 9 100], copies := [{ cpy 9 64 2 with stag := some 4 }] } }), 3, by decide +kernel⟩,
   ⟨port 3 (fun p => { p with st := .hold }) rdy, 3, 1000000000, by decide +kernel⟩,
   ⟨port 3 (fun p => { p with st := .negotiate, neg := 0x40000000 }) (rdy.setF SP_CFG.AN_EN [3] 1), 3, by decide +kernel⟩⟩
theorem witness_framesThroughTheSwitch :
    (∃ (s : State) (p : Fin 64) (l : List Byte) (d : Nat) (k : Look), (s.spPort p).st = .up ∧ sfind s.sgf.rx p = none ∧ s.forwards = true ∧ etypeOf l ≠ 0x8808 ∧ etypeOf l ≠ s.f SGF_TRAP.ETYPE [] ∧ s.lookup p (leValue (l.take 6)) (s.vidOf p l) = k ∧ k.outs = [d] ∧ s.outOpen d = true ∧ s.polEntry p (k.cls.getD (s.classOf p l)) (s.vidOf p l) = none ∧ s.sgf.inUse p + 72 ≤ s.f SGF_BUF.INPUT_MAX [] * 16 ∧ 72 ≤ s.sgf.free ∧ (∀ q ∈ s.sgf.copies, q.fid ≠ s.sgf.nextId) ∧ s.sgf.depth p d (k.cls.getD (s.classOf p l)) < s.f SGF_BUF.VOQ_MAX [])
    ∧ (∃ (s : State) (a : List Byte) (as : List (Nat × List Byte)) (n : Nat), s.yk.annOut = (n, a) :: as ∧ (n = 0 ∨ s.fab.out = []))
    ∧ (∃ (s : State) (p : Fin 64) (rest : List Byte) (id : Nat) (r : Rx), sfind s.sgf.rx p = some r ∧ r.dropped = false ∧ r.trap = false ∧ r.fid = some id ∧ (r.bytes ++ rest).length ≤ 9216 ∧ fcsOk (r.bytes ++ rest) = true)
    ∧ (∃ (s : State) (p : Fin 64) (rest : List Byte) (id : Nat) (r : Rx), sfind s.sgf.rx p = some r ∧ r.dropped = false ∧ r.fid = some id ∧ (r.bytes ++ rest).length ≤ 9216 ∧ fcsOk (r.bytes ++ rest) = false)
    ∧ (∃ (s : State), s.sgf.xq.length < 2)
    ∧ (∃ (s : State) (p : Fin 64) (id : Nat) (d : Nat) (c : Cpy) (f : Machine.Frm) (y : List XPair) (xs : List (List XPair)), s.sgf.xq = [(⟨id, p.val, d⟩ : XPair)] :: y :: xs ∧ s.sgf.copies.find? (fun q => q.fid == id && q.out == d) = some c ∧ s.sgf.frame id = some f ∧ f.whole = true ∧ c.cut = none ∧ c.moved + 1 = f.cells)
    ∧ (∃ (s : State) (o : Fin 64) (c : Cpy), (s.spPort o).st = .up ∧ (s.spPort o).tx = none ∧ s.flt.safe = false ∧ s.select o = some c)
    ∧ (∃ (s : State) (o : Fin 64) (id : Nat) (c : Cpy) (f : Machine.Frm), (s.spPort o).tx = some id ∧ s.sgf.copies.find? (fun q => q.fid == id && q.out == o.val) = some c ∧ s.sgf.frame id = some f ∧ f.whole = true ∧ f.cells ≤ c.moved ∧ c.cut = none ∧ f.bad = false)
    ∧ (∃ (s : State) (a : List Byte) (as : List (Nat × List Byte)) (n : Nat) (z : Option Nat × FabMsg) (zs : List (Option Nat × FabMsg)), s.yk.annOut = (n + 1, a) :: as ∧ s.fab.out = z :: zs) :=
  ⟨⟨sw, 2, eth, 5, ⟨[5], false, none⟩, by decide +kernel⟩,
   ⟨{ sw with yk := { sw.yk with annOut := [(0, [1]), (0, [2])] } }, [1], [(0, [2])], 0, by decide +kernel⟩,
   ⟨{ sw with sgf := { sw.sgf with rx := sset [] 2 ⟨eth.take 30, some 9, false, false⟩, frames := [{ frm 9 0 with whole := false, bytes := eth.take 30 }], copies := [{ cpy 9 5 0 with ct := false }] } }, 2, eth.drop 30, 9, ⟨eth.take 30, some 9, false, false⟩, by decide +kernel⟩,
   ⟨{ sw with sgf := { sw.sgf with rx := sset [] 2 ⟨eth.take 30, some 9, false, false⟩, frames := [{ frm 9 0 with whole := false, bytes := eth.take 30 }], copies := [{ cpy 9 5 0 with ct := false }] } }, 2, (eth.drop 30).reverse, 9, ⟨eth.take 30, some 9, false, false⟩, by decide +kernel⟩,
   ⟨{ queued 0 with sgf := { (queued 0).sgf with xq := [[]] } }, by decide +kernel⟩,
   ⟨{ queued 0 with sgf := { (queued 0).sgf with xq := [[⟨9, 2, 5⟩], [], []], frames := [frm 9 200], copies := [{ cpy 9 5 1 with asg := 2, moved := 1 }] } }, 2, 9, 5, { cpy 9 5 1 with asg := 2, moved := 1 }, frm 9 200, [], [[]], by decide +kernel⟩,
   ⟨{ queued 2 with sgf := { (queued 2).sgf with copies := [{ cpy 9 5 2 with stag := some 3 }] } }, 5, { cpy 9 5 2 with stag := some 3 }, by decide +kernel⟩,
   ⟨port 5 (fun p => { p with tx := some 9 }) { queued 2 with sgf := { (queued 2).sgf with copies := [{ cpy 9 5 2 with stag := some 3 }] } }, 5, 9, { cpy 9 5 2 with stag := some 3 }, frm 9 100, by decide +kernel⟩,
   ⟨{ sw with sys := { sw.sys with mode := 2, devid := 2 }, yk := { sw.yk with annOut := [(1, [1]), (1, [2])] }, fab := { sw.fab with out := [(none, msg 255 (.commit 5 false none))] } }, [1], [(1, [2])], 0, (none, msg 255 (.commit 5 false none)), [], by decide +kernel⟩⟩
theorem witness_forwardingCommands_1 :
    (∃ (s : State), s.isOpen = true ∧ s.sgf.cmd.isSome = true)
    ∧ (∃ (s : State) (i : Nat) (r : Nat) (e : Fwd), s.isOpen = true ∧ s.sgf.cmd = none ∧ e = (⟨s.fwdKey.1, s.fwdKey.2, (s.reg .SGF_FWD_RES []).toNat % 2 ^ 31⟩ : Fwd) ∧ s.sgf.fwdFind s.fwdKey.1 s.fwdKey.2 = some (i, r))
    ∧ (∃ (s : State) (i : Nat) (w : Nat) (e : Fwd), s.isOpen = true ∧ s.sgf.cmd = none ∧ e = (⟨s.fwdKey.1, s.fwdKey.2, (s.reg .SGF_FWD_RES []).toNat % 2 ^ 31⟩ : Fwd) ∧ s.sgf.fwdFind s.fwdKey.1 s.fwdKey.2 = none ∧ (List.range 4).find? (fun n => (sfind s.sgf.fwd (fwdBucket s.fwdKey.1 s.fwdKey.2 * 4 + n)).isNone) = some w ∧ i = fwdBucket s.fwdKey.1 s.fwdKey.2 * 4 + w)
    ∧ (∃ (s : State) (e : Fwd), s.isOpen = true ∧ s.sgf.cmd = none ∧ e = (⟨s.fwdKey.1, s.fwdKey.2, (s.reg .SGF_FWD_RES []).toNat % 2 ^ 31⟩ : Fwd) ∧ s.sgf.fwdFind s.fwdKey.1 s.fwdKey.2 = none ∧ (List.range 4).find? (fun n => (sfind s.sgf.fwd (fwdBucket s.fwdKey.1 s.fwdKey.2 * 4 + n)).isNone) = none)
    ∧ (∃ (s : State) (i : Nat) (r : Nat) (e : Fwd), s.isOpen = true ∧ s.sgf.cmd = none ∧ e = (⟨s.fwdKey.1, s.fwdKey.2, (s.reg .SGF_FWD_RES []).toNat % 2 ^ 31⟩ : Fwd) ∧ s.sgf.fwdFind s.fwdKey.1 s.fwdKey.2 = some (i, r))
    ∧ (∃ (s : State) (e : Fwd), s.isOpen = true ∧ s.sgf.cmd = none ∧ e = (⟨s.fwdKey.1, s.fwdKey.2, (s.reg .SGF_FWD_RES []).toNat % 2 ^ 31⟩ : Fwd) ∧ s.sgf.fwdFind s.fwdKey.1 s.fwdKey.2 = none)
    ∧ (∃ (s : State) (i : Nat) (r : Nat) (e : Fwd), s.isOpen = true ∧ s.sgf.cmd = none ∧ e = (⟨s.fwdKey.1, s.fwdKey.2, (s.reg .SGF_FWD_RES []).toNat % 2 ^ 31⟩ : Fwd) ∧ s.sgf.fwdFind s.fwdKey.1 s.fwdKey.2 = some (i, r))
    ∧ (∃ (s : State) (e : Fwd), s.isOpen = true ∧ s.sgf.cmd = none ∧ e = (⟨s.fwdKey.1, s.fwdKey.2, (s.reg .SGF_FWD_RES []).toNat % 2 ^ 31⟩ : Fwd) ∧ s.sgf.fwdFind s.fwdKey.1 s.fwdKey.2 = none)
    ∧ (∃ (s : State) (v : Word) (e : Fwd), s.isOpen = true ∧ s.sgf.cmd = none ∧ e = (⟨s.fwdKey.1, s.fwdKey.2, (s.reg .SGF_FWD_RES []).toNat % 2 ^ 31⟩ : Fwd) ∧ sfind s.sgf.fwd (fget 0 16 v) = some e) :=
  ⟨⟨{ sw with sgf := { sw.sgf with cmd := some ⟨0, none, none, none⟩ } }, by decide +kernel⟩,
   ⟨keyed sw, fwdBucket 0x070000000002 1 * 4, 5, ⟨0x070000000002, 1, 9⟩, by decide +kernel⟩,
   ⟨keyed { sw with sgf := { sw.sgf with fwd := [] } }, fwdBucket 0x070000000002 1 * 4, 0, ⟨0x070000000002, 1, 9⟩, by decide +kernel⟩,
   ⟨keyed { sw with sgf := { sw.sgf with fwd := (List.range 4).foldl (fun m k => sset m (fwdBucket 0x070000000002 1 * 4 + k) ⟨k, 2, 3⟩) [] } }, ⟨0x070000000002, 1, 9⟩, by decide +kernel⟩,
   ⟨keyed sw, fwdBucket 0x070000000002 1 * 4, 5, ⟨0x070000000002, 1, 9⟩, by decide +kernel⟩,
   ⟨keyed { sw with sgf := { sw.sgf with fwd := [] } }, ⟨0x070000000002, 1, 9⟩, by decide +kernel⟩,
   ⟨keyed sw, fwdBucket 0x070000000002 1 * 4, 5, ⟨0x070000000002, 1, 9⟩, by decide +kernel⟩,
   ⟨keyed { sw with sgf := { sw.sgf with fwd := [] } }, ⟨0x070000000002, 1, 9⟩, by decide +kernel⟩,
   ⟨(keyed { sw with sgf := { sw.sgf with fwd := sset [] 7 ⟨0x070000000002, 1, 9⟩ } }), 7, ⟨0x070000000002, 1, 9⟩, by decide +kernel⟩⟩
theorem witness_forwardingCommands_2 :
    (∃ (s : State) (e : Fwd), s.isOpen = true ∧ s.sgf.cmd = none ∧ e = (⟨s.fwdKey.1, s.fwdKey.2, (s.reg .SGF_FWD_RES []).toNat % 2 ^ 31⟩ : Fwd))
    ∧ (∃ (s : State) (d : FwdDone), s.sgf.cmd = some d ∧ d.result < 16) :=
  ⟨⟨keyed sw, ⟨0x070000000002, 1, 9⟩, by decide +kernel⟩,
   ⟨{ sw with sgf := { sw.sgf with cmd := some ⟨1, some 9, some 77, some (1, 2)⟩ } }, ⟨1, some 9, some 77, some (1, 2)⟩, by decide +kernel⟩⟩
theorem witness_trafficControl_1 :
    (∃ (s : State), s.sgf.shpApply = [] ∧ s.sgf.polApply = [])
    ∧ (∃ (s : State) (i : Nat), s.sgf.shpApply = [i] ∧ s.sgf.polApply = [] ∧ s.f SHP_PIR.PIR [i] ≠ 0 ∧ s.f SHP_PIR.PIR [i] < s.f SHP_CIR.CIR [i])
    ∧ (∃ (s : State) (i : Nat), s.sgf.shpApply = [i] ∧ s.sgf.polApply = [] ∧ (s.f SHP_PIR.PIR [i] = 0 ∨ s.f SHP_CIR.CIR [i] ≤ s.f SHP_PIR.PIR [i]) ∧ s.fb SHP_CFG.EN [i] = true ∧ (sget Tok.reset s.sgf.shp i).en = false)
    ∧ (∃ (s : State) (i : Nat), s.sgf.shpApply = [i] ∧ s.sgf.polApply = [] ∧ (s.f SHP_PIR.PIR [i] = 0 ∨ s.f SHP_CIR.CIR [i] ≤ s.f SHP_PIR.PIR [i]) ∧ s.fb SHP_CFG.EN [i] = true ∧ (sget Tok.reset s.sgf.shp i).en = false)
    ∧ (∃ (s : State), s.isOpen = true)
    ∧ (∃ (s : State), s.isOpen = true)
    ∧ (∃ (s : State), s.isOpen = true)
    ∧ (∃ (s : State) (i : Nat), s.sgf.shpApply = [] ∧ s.sgf.polApply = [i] ∧ (s.f POL_PIR.PIR [i] < s.f POL_CIR.CIR [i] ∨ s.f POL_CBS.CBS [i] = 0 ∨ s.f POL_PBS.PBS [i] = 0))
    ∧ (∃ (s : State) (i : Nat), s.sgf.shpApply = [] ∧ s.sgf.polApply = [i] ∧ (s.f POL_PIR.PIR [i] < s.f POL_CIR.CIR [i] ∨ s.f POL_CBS.CBS [i] = 0 ∨ s.f POL_PBS.PBS [i] = 0)) :=
  ⟨⟨{ rdy with sgf := { rdy.sgf with shp := sset [] 3 ⟨true, 1000, 2000, 16384, 16384, -5, 16383000, 0⟩ } }, by decide +kernel⟩,
   ⟨{ (rdy.setF SHP_PIR.PIR [3] 5).setF SHP_CIR.CIR [3] 9 with sgf := { rdy.sgf with shpApply := [3] } }, 3, by decide +kernel⟩,
   ⟨{ (((rdy.setF SHP_PIR.PIR [3] 9).setF SHP_CIR.CIR [3] 9).setF SHP_CFG.EN [3] 1) with sgf := { rdy.sgf with shpApply := [3] } }, 3, by decide +kernel⟩,
   ⟨{ (((rdy.setF SHP_PIR.PIR [3] 0).setF SHP_CIR.CIR [3] 9).setF SHP_CFG.EN [3] 1) with sgf := { rdy.sgf with shpApply := [3] } }, 3, by decide +kernel⟩,
   ⟨rdy, by decide +kernel⟩,
   ⟨rdy, by decide +kernel⟩,
   ⟨rdy, by decide +kernel⟩,
   ⟨{ (rdy.setF POL_PIR.PIR [3] 5).setF POL_CIR.CIR [3] 9 with sgf := { rdy.sgf with polApply := [3] } }, 3, by decide +kernel⟩,
   ⟨{ ((rdy.setF POL_CBS.CBS [3] 0).setF POL_PIR.PIR [3] 9).setF POL_CIR.CIR [3] 9 with sgf := { rdy.sgf with polApply := [3] } }, 3, by decide +kernel⟩⟩
theorem witness_trafficControl_2 : ∃ (s : State) (i : Nat), s.sgf.shpApply = [] ∧ s.sgf.polApply = [i] ∧ s.f POL_CIR.CIR [i] ≤ s.f POL_PIR.PIR [i] ∧ s.f POL_CBS.CBS [i] ≠ 0 ∧ s.f POL_PBS.PBS [i] ≠ 0 ∧ s.fb POL_CFG.EN [i] = true ∧ (sget Tok.reset s.sgf.pol i).en = false :=
  ⟨{ (((((rdy.setF POL_PIR.PIR [3] 9).setF POL_CIR.CIR [3] 9).setF POL_CBS.CBS [3] 4).setF POL_PBS.PBS [3] 6).setF POL_CFG.EN [3] 1) with sgf := { rdy.sgf with polApply := [3] } }, 3, by decide +kernel⟩
theorem witness_inputColour :
    (∃ (s : State) (p : Nat) (c : Nat) (vid : Nat) (i : Nat), s.polEntry p c vid = some i ∧ fget 0 2 (s.polTok i).cfg = 0)
    ∧ (∃ (s : State) (p : Nat) (c : Nat) (vid : Nat) (i : Nat), s.polEntry p c vid = some i ∧ fget 0 2 (s.polTok i).cfg = 0)
    ∧ (∃ (s : State) (p : Nat) (c : Nat) (vid : Nat) (i : Nat), s.polEntry p c vid = some i ∧ fget 0 2 (s.polTok i).cfg = 0)
    ∧ (∃ (s : State) (p : Nat) (c : Nat) (vid : Nat) (i : Nat), s.polEntry p c vid = some i ∧ fget 0 2 (s.polTok i).cfg = 0)
    ∧ (∃ (s : State) (v : Word), s.isOpen = true ∧ fget 0 2 v = 3) :=
  ⟨⟨((rdy.setReg .POL_PC [32] (2 ^ 31 + 7)).setReg .TRC_PCPCOL [] 0x1234), 2, 0, 1, 7, by decide +kernel⟩,
   ⟨((rdy.setReg .POL_PC [32] (2 ^ 31 + 7)).setReg .TRC_PCPCOL [] 0x1234), 2, 0, 1, 7, by decide +kernel⟩,
   ⟨((rdy.setReg .POL_PC [32] (2 ^ 31 + 7)).setReg .TRC_PCPCOL [] 0x1234), 2, 0, 1, 7, by decide +kernel⟩,
   ⟨((rdy.setReg .POL_PC [32] (2 ^ 31 + 7)).setReg .TRC_PCPCOL [] 0x1234), 2, 0, 1, 7, by decide +kernel⟩,
   ⟨rdy.setF POL_CFG.MODE [3] 2, 0xFFFFFFFF, by decide +kernel⟩⟩
theorem witness_mirrorFrames_1 :
    (∃ (s : State) (m : State) (h : MirHdr) (t : Nat), s.inPair = true ∧ s.pair.lanes ≠ 0 ∧ h.bad = 0 ∧ s.pair.held = [] ∧ s.pair.mrx < 2 ^ 32 ∧ h.mseq < 2 ^ 32 ∧ m = (s.passTo t).setPair { s.pair with mrx := (s.pair.mrx + 1) % 2 ^ 32 } ∧ 2 ^ 31 ≤ ahead s.pair.mrx h.mseq)
    ∧ (∃ (s : State) (m : State) (h : MirHdr) (t : Nat), s.inPair = true ∧ s.pair.lanes ≠ 0 ∧ h.bad = 0 ∧ s.pair.held = [] ∧ s.pair.mrx < 2 ^ 32 ∧ h.mseq < 2 ^ 32 ∧ m = (s.passTo t).setPair { s.pair with mrx := (s.pair.mrx + 1) % 2 ^ 32 } ∧ 0 < ahead s.pair.mrx h.mseq ∧ ahead s.pair.mrx h.mseq < 2 ^ 31)
    ∧ (∃ (s : State) (m : State) (h : MirHdr) (t : Nat), s.inPair = true ∧ s.pair.lanes ≠ 0 ∧ h.bad = 0 ∧ s.pair.held = [] ∧ s.pair.mrx < 2 ^ 32 ∧ h.mseq < 2 ^ 32 ∧ m = (s.passTo t).setPair { s.pair with mrx := (s.pair.mrx + 1) % 2 ^ 32 } ∧ h.mseq = s.pair.mrx)
    ∧ (∃ (s : State) (m : State) (h : MirHdr) (x : TxnW) (t : Nat), s.inPair = true ∧ s.pair.lanes ≠ 0 ∧ h.bad = 0 ∧ s.pair.held = [] ∧ s.pair.mrx < 2 ^ 32 ∧ h.mseq < 2 ^ 32 ∧ m = (s.passTo t).setPair { s.pair with mrx := (s.pair.mrx + 1) % 2 ^ 32 } ∧ h.mseq = s.pair.mrx ∧ s.pair.role = 2 ∧ s.prl.lsHalt = false ∧ m.txnCause x = 0 ∧ (m.takeTxn x x.due).isSome = true)
    ∧ (∃ (s : State) (m : State) (h : MirHdr) (x : TxnW) (t : Nat), s.inPair = true ∧ s.pair.lanes ≠ 0 ∧ h.bad = 0 ∧ s.pair.held = [] ∧ s.pair.mrx < 2 ^ 32 ∧ h.mseq < 2 ^ 32 ∧ m = (s.passTo t).setPair { s.pair with mrx := (s.pair.mrx + 1) % 2 ^ 32 } ∧ h.mseq = s.pair.mrx ∧ s.pair.role = 2 ∧ s.prl.lsHalt = false ∧ s.pair.sync = 2 ∧ m.txnCause x ≠ 0)
    ∧ (∃ (s : State) (m : State) (h : MirHdr) (t : Nat), s.inPair = true ∧ s.pair.lanes ≠ 0 ∧ h.bad = 0 ∧ s.pair.held = [] ∧ s.pair.mrx < 2 ^ 32 ∧ h.mseq < 2 ^ 32 ∧ m = (s.passTo t).setPair { s.pair with mrx := (s.pair.mrx + 1) % 2 ^ 32 } ∧ h.mseq = s.pair.mrx ∧ s.pair.role = 1 ∧ s.effSel = true)
    ∧ (∃ (s : State) (m : State) (h : MirHdr) (n : Word) (t : Nat) (o : Nat × Nat), s.inPair = true ∧ s.pair.lanes ≠ 0 ∧ h.bad = 0 ∧ s.pair.held = [] ∧ s.pair.mrx < 2 ^ 32 ∧ h.mseq < 2 ^ 32 ∧ m = (s.passTo t).setPair { s.pair with mrx := (s.pair.mrx + 1) % 2 ^ 32 } ∧ h.mseq = s.pair.mrx ∧ s.pair.role = 1 ∧ s.pair.outs.find? (fun y => y.1 == n.toNat) = some o)
    ∧ (∃ (s : State) (m : State) (h : MirHdr) (t : Nat), s.inPair = true ∧ s.pair.lanes ≠ 0 ∧ h.bad = 0 ∧ s.pair.held = [] ∧ s.pair.mrx < 2 ^ 32 ∧ h.mseq < 2 ^ 32 ∧ m = (s.passTo t).setPair { s.pair with mrx := (s.pair.mrx + 1) % 2 ^ 32 } ∧ h.mseq = s.pair.mrx)
    ∧ (∃ (s : State) (m : State) (h : MirHdr) (c : CtrlW) (t : Nat), s.inPair = true ∧ s.pair.lanes ≠ 0 ∧ h.bad = 0 ∧ s.pair.held = [] ∧ s.pair.mrx < 2 ^ 32 ∧ h.mseq < 2 ^ 32 ∧ m = (s.passTo t).setPair { s.pair with mrx := (s.pair.mrx + 1) % 2 ^ 32 } ∧ h.mseq = s.pair.mrx ∧ s.pair.role = 2 ∧ c.kind = 0 ∧ s.yk.mode = 0) :=
  ⟨⟨{ paired 2 2 with pair := { (paired 2 2).pair with mrx := 3 } }, (({ paired 2 2 with pair := { (paired 2 2).pair with mrx := 3 } }).passTo 7).setPair { ({ paired 2 2 with pair := { (paired 2 2).pair with mrx := 3 } }).pair with mrx := (({ paired 2 2 with pair := { (paired 2 2).pair with mrx := 3 } }).pair.mrx + 1) % 2 ^ 32 }, ⟨2, 0⟩, 7, by decide +kernel, by decide +kernel, by decide +kernel, by decide +kernel, by decide +kernel, by decide +kernel, rfl, by decide +kernel⟩,
   ⟨{ paired 2 2 with pair := { (paired 2 2).pair with mrx := 3 } }, (({ paired 2 2 with pair := { (paired 2 2).pair with mrx := 3 } }).passTo 7).setPair { ({ paired 2 2 with pair := { (paired 2 2).pair with mrx := 3 } }).pair with mrx := (({ paired 2 2 with pair := { (paired 2 2).pair with mrx := 3 } }).pair.mrx + 1) % 2 ^ 32 }, ⟨4, 0⟩, 7, by decide +kernel, by decide +kernel, by decide +kernel, by decide +kernel, by decide +kernel, by decide +kernel, rfl, by decide +kernel⟩,
   ⟨paired 2 2, ((paired 2 2).passTo 7).setPair { (paired 2 2).pair with mrx := ((paired 2 2).pair.mrx + 1) % 2 ^ 32 }, ⟨0, 0⟩, 7, by decide +kernel, by decide +kernel, by decide +kernel, by decide +kernel, by decide +kernel, by decide +kernel, rfl, by decide +kernel⟩,
   ⟨paired 2 2, ((paired 2 2).passTo 7).setPair { (paired 2 2).pair with mrx := ((paired 2 2).pair.mrx + 1) % 2 ^ 32 }, ⟨0, 0⟩, { (⟨1, 0, [⟨1, 3, 9, 5, 0x11⟩], 100000000, false, 0, 0⟩ : TxnW) with digest := (paired 2 2).tableDigest 0 }, 7, by decide +kernel, by decide +kernel, by decide +kernel, by decide +kernel, by decide +kernel, by decide +kernel, rfl, by decide +kernel⟩,
   ⟨paired 2 2, ((paired 2 2).passTo 7).setPair { (paired 2 2).pair with mrx := ((paired 2 2).pair.mrx + 1) % 2 ^ 32 }, ⟨0, 0⟩, ⟨1, 0, [⟨1, 3, 9, 5, 0x11⟩], 100000000, false, 0, 0⟩, 7, by decide +kernel, by decide +kernel, by decide +kernel, by decide +kernel, by decide +kernel, by decide +kernel, rfl, by decide +kernel⟩,
   ⟨{ paired 1 3 with pair := { (paired 1 3).pair with sel := true, ackWait := [(8, 99, 99), (9, 100, 100)] } }, (({ paired 1 3 with pair := { (paired 1 3).pair with sel := true, ackWait := [(8, 99, 99), (9, 100, 100)] } }).passTo 7).setPair { ({ paired 1 3 with pair := { (paired 1 3).pair with sel := true, ackWait := [(8, 99, 99), (9, 100, 100)] } }).pair with mrx := (({ paired 1 3 with pair := { (paired 1 3).pair with sel := true, ackWait := [(8, 99, 99), (9, 100, 100)] } }).pair.mrx + 1) % 2 ^ 32 }, ⟨0, 0⟩, 7, by decide +kernel, by decide +kernel, by decide +kernel, by decide +kernel, by decide +kernel, by decide +kernel, rfl, by decide +kernel⟩,
   ⟨{ paired 1 3 with pair := { (paired 1 3).pair with outs := [(8, 0), (9, 0)] } }, (({ paired 1 3 with pair := { (paired 1 3).pair with outs := [(8, 0), (9, 0)] } }).passTo 7).setPair { ({ paired 1 3 with pair := { (paired 1 3).pair with outs := [(8, 0), (9, 0)] } }).pair with mrx := (({ paired 1 3 with pair := { (paired 1 3).pair with outs := [(8, 0), (9, 0)] } }).pair.mrx + 1) % 2 ^ 32 }, ⟨0, 0⟩, 8, 7, (8, 0), by decide +kernel, by decide +kernel, by decide +kernel, by decide +kernel, by decide +kernel, by decide +kernel, rfl, by decide +kernel⟩,
   ⟨paired 1 3, ((paired 1 3).passTo 7).setPair { (paired 1 3).pair with mrx := ((paired 1 3).pair.mrx + 1) % 2 ^ 32 }, ⟨0, 0⟩, 7, by decide +kernel, by decide +kernel, by decide +kernel, by decide +kernel, by decide +kernel, by decide +kernel, rfl, by decide +kernel⟩,
   ⟨paired 2 2, ((paired 2 2).passTo 7).setPair { (paired 2 2).pair with mrx := ((paired 2 2).pair.mrx + 1) % 2 ^ 32 }, ⟨0, 0⟩, ⟨0, 1000000000⟩, 7, by decide +kernel, by decide +kernel, by decide +kernel, by decide +kernel, by decide +kernel, by decide +kernel, rfl, by decide +kernel⟩⟩
theorem witness_mirrorFrames_2 :
    (∃ (s : State) (m : State) (h : MirHdr) (c : CtrlW) (t : Nat), s.inPair = true ∧ s.pair.lanes ≠ 0 ∧ h.bad = 0 ∧ s.pair.held = [] ∧ s.pair.mrx < 2 ^ 32 ∧ h.mseq < 2 ^ 32 ∧ m = (s.passTo t).setPair { s.pair with mrx := (s.pair.mrx + 1) % 2 ^ 32 } ∧ h.mseq = s.pair.mrx ∧ s.pair.role = 2 ∧ c.kind = 1 ∧ s.yk.mode = 2)
    ∧ (∃ (s : State) (m : State) (h : MirHdr) (c : CtrlW) (t : Nat), s.inPair = true ∧ s.pair.lanes ≠ 0 ∧ h.bad = 0 ∧ s.pair.held = [] ∧ s.pair.mrx < 2 ^ 32 ∧ h.mseq < 2 ^ 32 ∧ m = (s.passTo t).setPair { s.pair with mrx := (s.pair.mrx + 1) % 2 ^ 32 } ∧ h.mseq = s.pair.mrx ∧ s.pair.role = 2 ∧ c.kind = 2 ∧ s.yk.mode = 2)
    ∧ (∃ (s : State) (m : State) (h : MirHdr) (g : StateW) (t : Nat), s.inPair = true ∧ s.pair.lanes ≠ 0 ∧ h.bad = 0 ∧ s.pair.held = [] ∧ s.pair.mrx < 2 ^ 32 ∧ h.mseq < 2 ^ 32 ∧ m = (s.passTo t).setPair { s.pair with mrx := (s.pair.mrx + 1) % 2 ^ 32 } ∧ h.mseq = s.pair.mrx ∧ s.pair.role = 2 ∧ s.prl.lsHalt = false ∧ s.pair.sync = 1 ∧ g.part = 0 ∧ g.last = false)
    ∧ (∃ (s : State) (m : State) (h : MirHdr) (t : Nat), s.inPair = true ∧ s.pair.lanes ≠ 0 ∧ h.bad = 0 ∧ s.pair.held = [] ∧ s.pair.mrx < 2 ^ 32 ∧ h.mseq < 2 ^ 32 ∧ m = (s.passTo t).setPair { s.pair with mrx := (s.pair.mrx + 1) % 2 ^ 32 } ∧ h.mseq = s.pair.mrx)
    ∧ (∃ (s : State) (m : State) (h : MirHdr) (t : Nat), s.inPair = true ∧ s.pair.lanes ≠ 0 ∧ h.bad = 0 ∧ s.pair.held = [] ∧ s.pair.mrx < 2 ^ 32 ∧ h.mseq < 2 ^ 32 ∧ m = (s.passTo t).setPair { s.pair with mrx := (s.pair.mrx + 1) % 2 ^ 32 }) :=
  ⟨⟨{ paired 2 2 with yk := { (paired 2 2).yk with mode := 2 } }, (({ paired 2 2 with yk := { (paired 2 2).yk with mode := 2 } }).passTo 7).setPair { ({ paired 2 2 with yk := { (paired 2 2).yk with mode := 2 } }).pair with mrx := (({ paired 2 2 with yk := { (paired 2 2).yk with mode := 2 } }).pair.mrx + 1) % 2 ^ 32 }, ⟨0, 0⟩, ⟨1, 1000000000⟩, 7, by decide +kernel, by decide +kernel, by decide +kernel, by decide +kernel, by decide +kernel, by decide +kernel, rfl, by decide +kernel⟩,
   ⟨{ paired 2 2 with yk := { (paired 2 2).yk with mode := 2 } }, (({ paired 2 2 with yk := { (paired 2 2).yk with mode := 2 } }).passTo 7).setPair { ({ paired 2 2 with yk := { (paired 2 2).yk with mode := 2 } }).pair with mrx := (({ paired 2 2 with yk := { (paired 2 2).yk with mode := 2 } }).pair.mrx + 1) % 2 ^ 32 }, ⟨0, 0⟩, ⟨2, 1000000000⟩, 7, by decide +kernel, by decide +kernel, by decide +kernel, by decide +kernel, by decide +kernel, by decide +kernel, rfl, by decide +kernel⟩,
   ⟨paired 2 1, ((paired 2 1).passTo 7).setPair { (paired 2 1).pair with mrx := ((paired 2 1).pair.mrx + 1) % 2 ^ 32 }, ⟨0, 0⟩, ⟨0, false, [], [], 0, 0⟩, 7, by decide +kernel, by decide +kernel, by decide +kernel, by decide +kernel, by decide +kernel, by decide +kernel, rfl, by decide +kernel⟩,
   ⟨{ paired 2 2 with pair := { (paired 2 2).pair with tx := [(0, .retry 1 1), (1, .retry 2 2)] } }, (({ paired 2 2 with pair := { (paired 2 2).pair with tx := [(0, .retry 1 1), (1, .retry 2 2)] } }).passTo 7).setPair { ({ paired 2 2 with pair := { (paired 2 2).pair with tx := [(0, .retry 1 1), (1, .retry 2 2)] } }).pair with mrx := (({ paired 2 2 with pair := { (paired 2 2).pair with tx := [(0, .retry 1 1), (1, .retry 2 2)] } }).pair.mrx + 1) % 2 ^ 32 }, ⟨0, 0⟩, 7, by decide +kernel, by decide +kernel, by decide +kernel, by decide +kernel, by decide +kernel, by decide +kernel, rfl, by decide +kernel⟩,
   ⟨paired 2 2, ((paired 2 2).passTo 7).setPair { (paired 2 2).pair with mrx := ((paired 2 2).pair.mrx + 1) % 2 ^ 32 }, ⟨0, 0⟩, 7, by decide +kernel, by decide +kernel, by decide +kernel, by decide +kernel, by decide +kernel, by decide +kernel, rfl⟩⟩
theorem witness_pairRoles_1 :
    (∃ (s : State), s.pair.healthOk = false ∧ 1000 ≤ s.pair.healthRun ∧ s.ready = true ∧ s.flt.safe = false)
    ∧ (∃ (s : State), s.inPair = true ∧ s.modeOn = true ∧ s.fb PAIR_CTRL.MIR_EN [] = true ∧ s.pair.lanes = 0)
    ∧ (∃ (s : State), s.inPair = true)
    ∧ (∃ (s : State), s.inPair = true ∧ s.pair.peer = true ∧ s.f PAIR_WD.PEER_TO [] * 100 ≤ s.pair.helloAge)
    ∧ (∃ (s : State), s.inPair = true ∧ s.pair.role = 2 ∧ s.pair.sync = 2)
    ∧ (∃ (s : State), s.inPair = true ∧ s.pair.role = 1 ∧ s.effSel = true)
    ∧ (∃ (s : State), s.inPair = true ∧ s.ready = true ∧ s.pair.role = 1 ∧ s.pair.ackWait = [] ∧ s.pth.cur = none)
    ∧ (∃ (s : State), s.inPair = true ∧ s.ready = true ∧ s.pair.role = 0 ∧ s.pair.dual = false)
    ∧ (∃ (s : State), s.inPair = true ∧ s.ready = true ∧ s.pair.role = 2 ∧ s.pair.dual = false) :=
  ⟨⟨{ paired 1 3 with pair := { (paired 1 3).pair with healthRun := 1000 } }, by decide +kernel⟩,
   ⟨{ (paired 1 3).setF PAIR_CTRL.MIR_EN [] 1 with pair := { ((paired 1 3).setF PAIR_CTRL.MIR_EN [] 1).pair with lanes := 0 } }, by decide +kernel⟩,
   ⟨paired 1 3, by decide +kernel⟩,
   ⟨{ paired 1 3 with pair := { (paired 1 3).pair with helloAge := 1000000 } }, by decide +kernel⟩,
   ⟨paired 2 2, by decide +kernel⟩,
   ⟨{ paired 1 3 with pair := { (paired 1 3).pair with sel := true, ackWait := [(8, 99, 99)], annWait := [(8, 9, [1])] } }, by decide +kernel⟩,
   ⟨paired 1 3, by decide +kernel⟩,
   ⟨paired 0 0, by decide +kernel⟩,
   ⟨paired 2 2, by decide +kernel⟩⟩
theorem witness_pairRoles_2 :
    (∃ (s : State), s.inPair = false)
    ∧ (∃ (s : State), s.reclaimOk = true)
    ∧ (∃ (s : State) (v : Word), s.inPair = true ∧ s.isOpen = true ∧ s.pair.role = 2 ∧ s.pair.sync = 2 ∧ bit 0 v = true ∧ bit 1 v = true) :=
  ⟨⟨rdy, by decide +kernel⟩,
   ⟨{ (paired 2 2).setF PAIR_CTRL.RECLAIM_HOLD [] 1 with pair := { ((paired 2 2).setF PAIR_CTRL.RECLAIM_HOLD [] 1).pair with okRun := 100000000, healthOk := true } }, by decide +kernel⟩,
   ⟨paired 2 2, 3, by decide +kernel⟩⟩
theorem witness_controlNetwork_1 :
    (∃ (s : State) (m : FabMsg) (x : FabSent), s.inFabric = true ∧ s.fab.waitQ = [] ∧ s.fab.late = [] ∧ (∀ p ∈ s.pth.placed, p.lost = false) ∧ s.fab.missed = [] ∧ (∀ x ∈ s.fab.probes, s.inTaken x.1 = false ∧ s.outTaken x.2 = none) ∧ m.src = s.devid ∧ showsTwin m.body = true)
    ∧ (∃ (s : State) (m : FabMsg) (x : FabSent), s.inFabric = true ∧ s.fab.waitQ = [] ∧ s.fab.late = [] ∧ (∀ p ∈ s.pth.placed, p.lost = false) ∧ s.fab.missed = [] ∧ (∀ x ∈ s.fab.probes, s.inTaken x.1 = false ∧ s.outTaken x.2 = none) ∧ m.src ≠ s.devid ∧ m.dst ≠ 255 ∧ m.dst ≠ s.devid ∧ m.hops < 7)
    ∧ (∃ (s : State) (m : FabMsg) (x : FabSent), s.inFabric = true ∧ s.fab.waitQ = [] ∧ s.fab.late = [] ∧ (∀ p ∈ s.pth.placed, p.lost = false) ∧ s.fab.missed = [] ∧ (∀ x ∈ s.fab.probes, s.inTaken x.1 = false ∧ s.outTaken x.2 = none) ∧ m.src ≠ s.devid ∧ m.dst = s.devid ∧ trackedMsg m.body = true ∧ s.fab.seen.contains (m.src, m.seq) = true)
    ∧ (∃ (s : State) (x : FabSent), s.inFabric = true ∧ s.fab.waitQ = [] ∧ s.fab.late = [] ∧ (∀ p ∈ s.pth.placed, p.lost = false) ∧ s.fab.missed = [] ∧ (∀ x ∈ s.fab.probes, s.inTaken x.1 = false ∧ s.outTaken x.2 = none) ∧ s.modeOn = true)
    ∧ (∃ (s : State) (m : FabMsg) (st : Nat) (mid : Bool) (dg : Word) (x : FabSent), s.inFabric = true ∧ s.fab.waitQ = [] ∧ s.fab.late = [] ∧ (∀ p ∈ s.pth.placed, p.lost = false) ∧ s.fab.missed = [] ∧ (∀ x ∈ s.fab.probes, s.inTaken x.1 = false ∧ s.outTaken x.2 = none) ∧ m.src ≠ s.devid ∧ m.dst = 255 ∧ m.body = .hello mid st dg ∧ s.fab.paths = [])
    ∧ (∃ (s : State) (m : FabMsg) (st : Nat) (mid : Bool) (dg : Word) (x : FabSent), s.inFabric = true ∧ s.fab.waitQ = [] ∧ s.fab.late = [] ∧ (∀ p ∈ s.pth.placed, p.lost = false) ∧ s.fab.missed = [] ∧ (∀ x ∈ s.fab.probes, s.inTaken x.1 = false ∧ s.outTaken x.2 = none) ∧ m.src ≠ s.devid ∧ m.dst = 255 ∧ m.body = .hello mid st dg ∧ s.fab.paths = [])
    ∧ (∃ (s : State) (x : FabSent), s.inFabric = true ∧ s.fab.waitQ = [] ∧ s.fab.late = [] ∧ (∀ p ∈ s.pth.placed, p.lost = false) ∧ s.fab.missed = [] ∧ (∀ x ∈ s.fab.probes, s.inTaken x.1 = false ∧ s.outTaken x.2 = none) ∧ s.modeOn = true ∧ s.fb FAB_CTRL.DISC_EN [] = false)
    ∧ (∃ (s : State) (m : FabMsg) (l : List (Nat × Nat)) (age : Nat) (x : FabSent), s.inFabric = true ∧ s.fab.waitQ = [] ∧ s.fab.late = [] ∧ (∀ p ∈ s.pth.placed, p.lost = false) ∧ s.fab.missed = [] ∧ (∀ x ∈ s.fab.probes, s.inTaken x.1 = false ∧ s.outTaken x.2 = none) ∧ m.src ≠ s.devid ∧ m.dst = 255 ∧ m.body = .lsa l age ∧ sget [] s.fab.lsas m.src ≠ l)
    ∧ (∃ (s : State) (x : FabSent), s.inFabric = true ∧ s.fab.waitQ = [] ∧ s.fab.late = [] ∧ (∀ p ∈ s.pth.placed, p.lost = false) ∧ s.fab.missed = [] ∧ (∀ x ∈ s.fab.probes, s.inTaken x.1 = false ∧ s.outTaken x.2 = none)) :=
  ⟨⟨fabDev 2, ⟨2, 255, 4, 0, .hello true 1 0⟩, ⟨msg 3 (.commit 6 false none), 0, 0⟩, by decide +kernel⟩,
   ⟨fabDev 2, msg 3 (.hello true 1 0), ⟨msg 3 (.commit 6 false none), 0, 0⟩, by decide +kernel⟩,
   ⟨onFab (fabDev 2) fun f => { f with seen := [(9, 4)] }, msg 2 (.reserve resv1), ⟨msg 3 (.commit 6 false none), 0, 0⟩, by decide +kernel⟩,
   ⟨fabDev 2, ⟨msg 3 (.commit 6 false none), 0, 0⟩, by decide +kernel⟩,
   ⟨fabDev 2, msg 255 (.hello true 1 0), 1, true, 0, ⟨msg 3 (.commit 6 false none), 0, 0⟩, by decide +kernel⟩,
   ⟨fabDev 2, msg 255 (.hello true 1 (fabDev 2).fabDigest), 1, true, (fabDev 2).fabDigest, ⟨msg 3 (.commit 6 false none), 0, 0⟩, by decide +kernel⟩,
   ⟨(fabDev 2).setF FAB_CTRL.DISC_EN [] 0, ⟨msg 3 (.commit 6 false none), 0, 0⟩, by decide +kernel⟩,
   ⟨fabDev 2, msg 255 (.lsa [(11, 4)] 0), [(11, 4)], 0, ⟨msg 3 (.commit 6 false none), 0, 0⟩, by decide +kernel⟩,
   ⟨fabDev 2, ⟨msg 3 (.commit 6 false none), 0, 0⟩, by decide +kernel⟩⟩
theorem witness_controlNetwork_2 :
    (∃ (s : State) (d : Fin 64) (t : Nat) (x : FabSent), s.inFabric = true ∧ s.fab.waitQ = [] ∧ s.fab.late = [] ∧ (∀ p ∈ s.pth.placed, p.lost = false) ∧ s.fab.missed = [] ∧ (∀ x ∈ s.fab.probes, s.inTaken x.1 = false ∧ s.outTaken x.2 = none) ∧ (s.fab.nbrs.any fun y => y.dev == d.val) = true ∧ s.fab.paths = [] ∧ s.fab.dead.contains d.val = false ∧ (∀ y ∈ s.fab.nbrs, y.dev = d.val → y.t + s.f FAB_TIME0.HELLO_N [] * s.f FAB_TIME0.HELLO_US [] * 10000 ≤ t))
    ∧ (∃ (s : State) (m : FabMsg) (d : Fin 64) (t : Nat) (x : FabSent), s.inFabric = true ∧ s.fab.waitQ = [] ∧ s.fab.late = [] ∧ (∀ p ∈ s.pth.placed, p.lost = false) ∧ s.fab.missed = [] ∧ (∀ x ∈ s.fab.probes, s.inTaken x.1 = false ∧ s.outTaken x.2 = none) ∧ m.src ≠ s.devid ∧ m.dst = 255 ∧ m.body = .downDev d t ∧ d.val ≠ s.devid ∧ s.fab.paths = [] ∧ s.fab.dead.contains d.val = false)
    ∧ (∃ (s : State) (m : FabMsg) (d : Fin 64) (t : Nat) (x : FabSent), s.inFabric = true ∧ s.fab.waitQ = [] ∧ s.fab.late = [] ∧ (∀ p ∈ s.pth.placed, p.lost = false) ∧ s.fab.missed = [] ∧ (∀ x ∈ s.fab.probes, s.inTaken x.1 = false ∧ s.outTaken x.2 = none) ∧ m.src ≠ s.devid ∧ m.dst = 255 ∧ m.body = .downDev d t ∧ d.val ≠ s.devid ∧ s.fab.paths = [] ∧ s.fab.dead.contains d.val = false)
    ∧ (∃ (s : State) (x : FabSent), s.inFabric = true ∧ s.fab.waitQ = [] ∧ s.fab.late = [] ∧ (∀ p ∈ s.pth.placed, p.lost = false) ∧ s.fab.missed = [] ∧ (∀ x ∈ s.fab.probes, s.inTaken x.1 = false ∧ s.outTaken x.2 = none) ∧ s.fab.sent = [x])
    ∧ (∃ (s : State) (x : FabSent), s.inFabric = true ∧ s.fab.waitQ = [] ∧ s.fab.late = [] ∧ (∀ p ∈ s.pth.placed, p.lost = false) ∧ s.fab.missed = [] ∧ (∀ x ∈ s.fab.probes, s.inTaken x.1 = false ∧ s.outTaken x.2 = none) ∧ s.fab.sent = [x])
    ∧ (∃ (s : State) (m : FabMsg) (x : FabSent), s.inFabric = true ∧ s.fab.waitQ = [] ∧ s.fab.late = [] ∧ (∀ p ∈ s.pth.placed, p.lost = false) ∧ s.fab.missed = [] ∧ (∀ x ∈ s.fab.probes, s.inTaken x.1 = false ∧ s.outTaken x.2 = none) ∧ m.src = s.devid ∧ showsTwin m.body = false) :=
  ⟨⟨onFab (fabDev 2) fun f => { f with nbrs := [⟨9, 3, 0⟩, ⟨11, 4, 0⟩] }, 9, 100000000000, ⟨msg 3 (.commit 6 false none), 0, 0⟩, by decide +kernel⟩,
   ⟨onFab (fabDev 2) fun f => { f with lnkOut := sset [] 300 ⟨2, 9, 310⟩ }, msg 255 (.downDev 9 7), 9, 7, ⟨msg 3 (.commit 6 false none), 0, 0⟩, by decide +kernel⟩,
   ⟨onFab (fabDev 2) fun f => { f with lnkOut := sset [] 300 ⟨2, 9, 310⟩ }, msg 255 (.downDev 11 7), 11, 7, ⟨msg 3 (.commit 6 false none), 0, 0⟩, by decide +kernel⟩,
   ⟨onFab (fabDev 2) fun f => { f with sent := [⟨msg 3 (.commit 6 false none), 0, 0⟩] }, ⟨msg 3 (.commit 6 false none), 0, 0⟩, by decide +kernel⟩,
   ⟨onFab (fabDev 2) fun f => { f with sent := [⟨msg 3 (.commit 6 false none), 0, 0⟩] }, ⟨msg 3 (.commit 6 false none), 0, 0⟩, by decide +kernel⟩,
   ⟨fabDev 2, ⟨2, 255, 4, 0, .lsa [(11, 4)] 0⟩, ⟨msg 3 (.commit 6 false none), 0, 0⟩, by decide +kernel⟩⟩
theorem witness_reservationsAndLinks_1 :
    (∃ (s : State) (m' : State) (m : FabMsg) (t : Nat) (p : Nat) (l : List Claim), s.inFabric = true ∧ s.fab.waitQ = [] ∧ s.fab.late = [] ∧ (∀ p ∈ s.pth.placed, p.lost = false) ∧ s.fab.missed = [] ∧ (∀ x ∈ s.fab.probes, s.inTaken x.1 = false ∧ s.outTaken x.2 = none) ∧ m.src ≠ s.devid ∧ m.dst = s.devid ∧ s.firstCopy m = true ∧ m' = (s.passTo t).setFab { s.fab with seen := s.fab.seen ++ [(m.src, m.seq)] } ∧ m.body = .disc l ∧ s.fab.paths = [])
    ∧ (∃ (s : State) (m' : State) (m : FabMsg) (t : Nat) (p : Nat) (w : ResvW), s.inFabric = true ∧ s.fab.waitQ = [] ∧ s.fab.late = [] ∧ (∀ p ∈ s.pth.placed, p.lost = false) ∧ s.fab.missed = [] ∧ (∀ x ∈ s.fab.probes, s.inTaken x.1 = false ∧ s.outTaken x.2 = none) ∧ m.src ≠ s.devid ∧ m.dst = s.devid ∧ s.firstCopy m = true ∧ m' = (s.passTo t).setFab { s.fab with seen := s.fab.seen ++ [(m.src, m.seq)] } ∧ m.body = .reserve w ∧ s.prl.lsHalt = false ∧ s.refuseCause (s.resvDevs m.src w) ≠ 0)
    ∧ (∃ (s : State) (m' : State) (m : FabMsg) (t : Nat) (p : Nat) (w : ResvW) (reqs : List Req) (paths : List (Nat × Nat × Nat)) (s1 : State), s.inFabric = true ∧ s.fab.waitQ = [] ∧ s.fab.late = [] ∧ (∀ p ∈ s.pth.placed, p.lost = false) ∧ s.fab.missed = [] ∧ (∀ x ∈ s.fab.probes, s.inTaken x.1 = false ∧ s.outTaken x.2 = none) ∧ m.src ≠ s.devid ∧ m.dst = s.devid ∧ s.firstCopy m = true ∧ m' = (s.passTo t).setFab { s.fab with seen := s.fab.seen ++ [(m.src, m.seq)] } ∧ m.body = .reserve w ∧ s.prl.lsHalt = false ∧ s.isMiddle = false ∧ s.refuseCause (s.resvDevs m.src w) = 0 ∧ m'.segItems m.src w.kind w.items [] = .ok (reqs, paths) ∧ m'.placeSeg (resvOwner w) w.num w.kind (m'.clr.now + m'.resvTo) reqs paths 1 0 = some (s1, []))
    ∧ (∃ (s : State) (m' : State) (m : FabMsg) (t : Nat) (n : Nat) (p : Nat) (q : FabReq) (ports : List (Nat × Nat)), s.inFabric = true ∧ s.fab.waitQ = [] ∧ s.fab.late = [] ∧ (∀ p ∈ s.pth.placed, p.lost = false) ∧ s.fab.missed = [] ∧ (∀ x ∈ s.fab.probes, s.inTaken x.1 = false ∧ s.outTaken x.2 = none) ∧ m.src ≠ s.devid ∧ m.dst = s.devid ∧ s.firstCopy m = true ∧ m' = (s.passTo t).setFab { s.fab with seen := s.fab.seen ++ [(m.src, m.seq)] } ∧ m.body = .reply n 0 ports ∧ s.fab.reqs.find? (fun z => z.num == n && z.stage == 0) = some q ∧ q.wait.contains m.src = true ∧ q.wait.filter (· ≠ m.src) ≠ []) :=
  ⟨⟨fabDev 2, ((fabDev 2).passTo 7).setFab { (fabDev 2).fab with seen := (fabDev 2).fab.seen ++ [((msg 2 (.disc [⟨true, 310, 5⟩])).src, (msg 2 (.disc [⟨true, 310, 5⟩])).seq)] }, msg 2 (.disc [⟨true, 310, 5⟩]), 7, 300, [⟨true, 310, 5⟩], by decide +kernel, by decide +kernel, by decide +kernel, by decide +kernel, by decide +kernel, by decide +kernel, by decide +kernel, by decide +kernel, by decide +kernel, rfl, by decide +kernel⟩,
   ⟨fabDev 2, ((fabDev 2).passTo 7).setFab { (fabDev 2).fab with seen := (fabDev 2).fab.seen ++ [((msg 2 (.reserve resv1)).src, (msg 2 (.reserve resv1)).seq)] }, msg 2 (.reserve resv1), 7, 300, resv1, by decide +kernel, by decide +kernel, by decide +kernel, by decide +kernel, by decide +kernel, by decide +kernel, by decide +kernel, by decide +kernel, by decide +kernel, rfl, by decide +kernel⟩,
   ⟨linked, ((linked).passTo 7).setFab { (linked).fab with seen := (linked).fab.seen ++ [((msg 2 (.reserve resv1)).src, (msg 2 (.reserve resv1)).seq)] }, msg 2 (.reserve resv1), 7, 300, resv1, [segReq 1 300 7], [(2309, 300, 7)], ((((linked.passTo 7).setFab { linked.fab with seen := [(9, 4)] }).placeSeg 9 6 0 (((linked.passTo 7).setFab { linked.fab with seen := [(9, 4)] }).clr.now + ((linked.passTo 7).setFab { linked.fab with seen := [(9, 4)] }).resvTo) [segReq 1 300 7] [(2309, 300, 7)] 1 0).getD (rdy, [])).1, by decide +kernel, by decide +kernel, by decide +kernel, by decide +kernel, by decide +kernel, by decide +kernel, by decide +kernel, by decide +kernel, by decide +kernel, rfl, by decide +kernel, by decide +kernel, by decide +kernel, by decide +kernel, rfl, rfl⟩,
   ⟨onFab (fabDev 2) fun f => { f with reqs := [freq 0 [9, 11]] }, ((onFab (fabDev 2) fun f => { f with reqs := [freq 0 [9, 11]] }).passTo 7).setFab { (onFab (fabDev 2) fun f => { f with reqs := [freq 0 [9, 11]] }).fab with seen := (onFab (fabDev 2) fun f => { f with reqs := [freq 0 [9, 11]] }).fab.seen ++ [((msg 2 (.reply 6 0 [(5, 310)])).src, (msg 2 (.reply 6 0 [(5, 310)])).seq)] }, msg 2 (.reply 6 0 [(5, 310)]), 7, 6, 300, freq 0 [9, 11], [(5, 310)], by decide +kernel, by decide +kernel, by decide +kernel, by decide +kernel, by decide +kernel, by decide +kernel, by decide +kernel, by decide +kernel, by decide +kernel, rfl, by decide +kernel⟩⟩
theorem witness_reservationsAndLinks_2 :
    (∃ (s : State) (m' : State) (m : FabMsg) (t : Nat) (n : Nat) (p : Nat), s.inFabric = true ∧ s.fab.waitQ = [] ∧ s.fab.late = [] ∧ (∀ p ∈ s.pth.placed, p.lost = false) ∧ s.fab.missed = [] ∧ (∀ x ∈ s.fab.probes, s.inTaken x.1 = false ∧ s.outTaken x.2 = none) ∧ m.src ≠ s.devid ∧ m.dst = s.devid ∧ s.firstCopy m = true ∧ m' = (s.passTo t).setFab { s.fab with seen := s.fab.seen ++ [(m.src, m.seq)] } ∧ m.body = .commit n false none ∧ s.segPlaced m.src n = none)
    ∧ (∃ (s : State) (m' : State) (m : FabMsg) (t : Nat) (n : Nat) (b : Nat) (p : Nat) (g : FabSeg) (pl : Placed), s.inFabric = true ∧ s.fab.waitQ = [] ∧ s.fab.late = [] ∧ (∀ p ∈ s.pth.placed, p.lost = false) ∧ s.fab.missed = [] ∧ (∀ x ∈ s.fab.probes, s.inTaken x.1 = false ∧ s.outTaken x.2 = none) ∧ m.src ≠ s.devid ∧ m.dst = s.devid ∧ s.firstCopy m = true ∧ m' = (s.passTo t).setFab { s.fab with seen := s.fab.seen ++ [(m.src, m.seq)] } ∧ m.body = .commit n false (some b) ∧ s.segPlaced m.src n = some pl ∧ s.seg? m.src n = some g ∧ pl.hold = true ∧ (s.passTo t).clr.now + s.leadNs ≤ b)
    ∧ (∃ (s : State) (m' : State) (m : FabMsg) (t : Nat) (n : Nat) (p : Nat) (o : SegOut) (q : FabReq), s.inFabric = true ∧ s.fab.waitQ = [] ∧ s.fab.late = [] ∧ (∀ p ∈ s.pth.placed, p.lost = false) ∧ s.fab.missed = [] ∧ (∀ x ∈ s.fab.probes, s.inTaken x.1 = false ∧ s.outTaken x.2 = none) ∧ m.src ≠ s.devid ∧ m.dst = s.devid ∧ s.firstCopy m = true ∧ m' = (s.passTo t).setFab { s.fab with seen := s.fab.seen ++ [(m.src, m.seq)] } ∧ m.body = .outcome n o ∧ s.fab.reqs.find? (fun z => z.num == n) = some q ∧ q.stage = 1 ∧ (q.outs.any fun z => z.1 == m.src) = false ∧ q.outs.length + 1 < q.devs.length)
    ∧ (∃ (s : State) (m' : State) (m : FabMsg) (t : Nat) (p : Nat), s.inFabric = true ∧ s.fab.waitQ = [] ∧ s.fab.late = [] ∧ (∀ p ∈ s.pth.placed, p.lost = false) ∧ s.fab.missed = [] ∧ (∀ x ∈ s.fab.probes, s.inTaken x.1 = false ∧ s.outTaken x.2 = none) ∧ m.src ≠ s.devid ∧ m.dst = s.devid ∧ s.firstCopy m = true ∧ m' = (s.passTo t).setFab { s.fab with seen := s.fab.seen ++ [(m.src, m.seq)] } ∧ s.fab.reqs = [] ∧ (∀ x ∈ s.pth.placed, x.hold = false → x.seg = none)) :=
  ⟨⟨onFab (fabDev 2) fun f => { f with segs := [seg6] }, ((onFab (fabDev 2) fun f => { f with segs := [seg6] }).passTo 7).setFab { (onFab (fabDev 2) fun f => { f with segs := [seg6] }).fab with seen := (onFab (fabDev 2) fun f => { f with segs := [seg6] }).fab.seen ++ [((msg 2 (.commit 6 false none)).src, (msg 2 (.commit 6 false none)).seq)] }, msg 2 (.commit 6 false none), 7, 6, 300, by decide +kernel, by decide +kernel, by decide +kernel, by decide +kernel, by decide +kernel, by decide +kernel, by decide +kernel, by decide +kernel, by decide +kernel, rfl, by decide +kernel⟩,
   ⟨{ onFab linked (fun f => { f with segs := [seg6] }) with pth := { linked.pth with placed := [held6] } }, (({ onFab linked (fun f => { f with segs := [seg6] }) with pth := { linked.pth with placed := [held6] } }).passTo 7).setFab { ({ onFab linked (fun f => { f with segs := [seg6] }) with pth := { linked.pth with placed := [held6] } }).fab with seen := ({ onFab linked (fun f => { f with segs := [seg6] }) with pth := { linked.pth with placed := [held6] } }).fab.seen ++ [((msg 2 (.commit 6 false (some 100000000))).src, (msg 2 (.commit 6 false (some 100000000))).seq)] }, msg 2 (.commit 6 false (some 100000000)), 7, 6, 100000000, 300, seg6, held6, by decide +kernel, by decide +kernel, by decide +kernel, by decide +kernel, by decide +kernel, by decide +kernel, by decide +kernel, by decide +kernel, by decide +kernel, rfl, by decide +kernel⟩,
   ⟨onFab (fabDev 2) fun f => { f with reqs := [freq 1 []] }, ((onFab (fabDev 2) fun f => { f with reqs := [freq 1 []] }).passTo 7).setFab { (onFab (fabDev 2) fun f => { f with reqs := [freq 1 []] }).fab with seen := (onFab (fabDev 2) fun f => { f with reqs := [freq 1 []] }).fab.seen ++ [((msg 2 (.outcome 6 ⟨0, false, false, false, false, 0, .middle⟩)).src, (msg 2 (.outcome 6 ⟨0, false, false, false, false, 0, .middle⟩)).seq)] }, msg 2 (.outcome 6 ⟨0, false, false, false, false, 0, .middle⟩), 7, 6, 300, ⟨0, false, false, false, false, 0, .middle⟩, freq 1 [], by decide +kernel, by decide +kernel, by decide +kernel, by decide +kernel, by decide +kernel, by decide +kernel, by decide +kernel, by decide +kernel, by decide +kernel, rfl, by decide +kernel⟩,
   ⟨onFab (fabDev 2) fun f => { f with segs := [seg6, { seg6 with dl := 3, num := 5 }] }, ((onFab (fabDev 2) fun f => { f with segs := [seg6, { seg6 with dl := 3, num := 5 }] }).passTo 7).setFab { (onFab (fabDev 2) fun f => { f with segs := [seg6, { seg6 with dl := 3, num := 5 }] }).fab with seen := (onFab (fabDev 2) fun f => { f with segs := [seg6, { seg6 with dl := 3, num := 5 }] }).fab.seen ++ [((msg 2 (.commit 6 false none)).src, (msg 2 (.commit 6 false none)).seq)] }, msg 2 (.commit 6 false none), 7, 300, by decide +kernel, by decide +kernel, by decide +kernel, by decide +kernel, by decide +kernel, by decide +kernel, by decide +kernel, by decide +kernel, by decide +kernel, rfl, by decide +kernel⟩⟩
theorem witness_reservationsAndLinks_3 :
    (∃ (s : State) (m' : State) (m : FabMsg) (t : Nat) (p : Nat), s.inFabric = true ∧ s.fab.waitQ = [] ∧ s.fab.late = [] ∧ (∀ p ∈ s.pth.placed, p.lost = false) ∧ s.fab.missed = [] ∧ (∀ x ∈ s.fab.probes, s.inTaken x.1 = false ∧ s.outTaken x.2 = none) ∧ m.src ≠ s.devid ∧ m.dst = s.devid ∧ s.firstCopy m = true ∧ m' = (s.passTo t).setFab { s.fab with seen := s.fab.seen ++ [(m.src, m.seq)] } ∧ s.fab.reqs = [] ∧ (∀ x ∈ s.pth.placed, x.hold = false → x.seg = none))
    ∧ (∃ (s : State) (m' : State) (m : FabMsg) (t : Nat) (p : Nat) (ref : Int), s.inFabric = true ∧ s.fab.waitQ = [] ∧ s.fab.late = [] ∧ (∀ p ∈ s.pth.placed, p.lost = false) ∧ s.fab.missed = [] ∧ (∀ x ∈ s.fab.probes, s.inTaken x.1 = false ∧ s.outTaken x.2 = none) ∧ m.src ≠ s.devid ∧ m.dst = s.devid ∧ s.firstCopy m = true ∧ m' = (s.passTo t).setFab { s.fab with seen := s.fab.seen ++ [(m.src, m.seq)] } ∧ s.fab.linkRef = [(p, ref)] ∧ s.inTaken p = true ∧ s.fab.paths = [] ∧ (s.lnkIn p).st ≠ 4 ∧ 128 * s.f FAB_WATCH.LINK_DB [] < ref - s.pIn p ∧ s.f FAB_WATCH.LINK_N [] ≤ sget 0 s.fab.linkLow p + 1)
    ∧ (∃ (s : State) (m' : State) (m : FabMsg) (t : Nat) (p : Nat) (ref : Int), s.inFabric = true ∧ s.fab.waitQ = [] ∧ s.fab.late = [] ∧ (∀ p ∈ s.pth.placed, p.lost = false) ∧ s.fab.missed = [] ∧ (∀ x ∈ s.fab.probes, s.inTaken x.1 = false ∧ s.outTaken x.2 = none) ∧ m.src ≠ s.devid ∧ m.dst = s.devid ∧ s.firstCopy m = true ∧ m' = (s.passTo t).setFab { s.fab with seen := s.fab.seen ++ [(m.src, m.seq)] } ∧ s.fab.linkRef = [(p, ref)] ∧ s.inTaken p = true ∧ ref - s.pIn p ≤ 128 * s.f FAB_WATCH.LINK_DB [])
    ∧ (∃ (s : State) (m' : State) (m : FabMsg) (t : Nat) (p : Nat) (rts : List (Rt × Bool)), s.inFabric = true ∧ s.fab.waitQ = [] ∧ s.fab.late = [] ∧ (∀ p ∈ s.pth.placed, p.lost = false) ∧ s.fab.missed = [] ∧ (∀ x ∈ s.fab.probes, s.inTaken x.1 = false ∧ s.outTaken x.2 = none) ∧ m.src ≠ s.devid ∧ m.dst = s.devid ∧ s.firstCopy m = true ∧ m' = (s.passTo t).setFab { s.fab with seen := s.fab.seen ++ [(m.src, m.seq)] } ∧ s.ready = true ∧ s.fb FAB_CTRL.PROBE_EN [] = true ∧ s.flt.safe = false ∧ s.freeNums ≠ [] ∧ s.probeRoutes (s.probePlan s.fab.probeN) (s.planPaths 0) = rts ∧ rts ≠ []) :=
  ⟨⟨{ onFab (fabDev 2) (fun f => { f with segs := [seg6, { seg6 with dl := 300000000, num := 5 }, { seg6 with owner := 11, st := 2 }] }) with pth := { rdy.pth with placed := [held6] } }, (({ onFab (fabDev 2) (fun f => { f with segs := [seg6, { seg6 with dl := 300000000, num := 5 }, { seg6 with owner := 11, st := 2 }] }) with pth := { rdy.pth with placed := [held6] } }).passTo 7).setFab { ({ onFab (fabDev 2) (fun f => { f with segs := [seg6, { seg6 with dl := 300000000, num := 5 }, { seg6 with owner := 11, st := 2 }] }) with pth := { rdy.pth with placed := [held6] } }).fab with seen := ({ onFab (fabDev 2) (fun f => { f with segs := [seg6, { seg6 with dl := 300000000, num := 5 }, { seg6 with owner := 11, st := 2 }] }) with pth := { rdy.pth with placed := [held6] } }).fab.seen ++ [((msg 2 (.commit 6 false none)).src, (msg 2 (.commit 6 false none)).seq)] }, msg 2 (.commit 6 false none), 7, 300, by decide +kernel, by decide +kernel, by decide +kernel, by decide +kernel, by decide +kernel, by decide +kernel, by decide +kernel, by decide +kernel, by decide +kernel, rfl, by decide +kernel⟩,
   ⟨onFab ({ fabDev 2 with pth := { (fabDev 2).pth with plan := sset [] 300 (some ⟨7, 5⟩) } }) fun f => { f with linkRef := sset [] 300 0, linkLow := sset [] 300 1000 }, ((onFab ({ fabDev 2 with pth := { (fabDev 2).pth with plan := sset [] 300 (some ⟨7, 5⟩) } }) fun f => { f with linkRef := sset [] 300 0, linkLow := sset [] 300 1000 }).passTo 7).setFab { (onFab ({ fabDev 2 with pth := { (fabDev 2).pth with plan := sset [] 300 (some ⟨7, 5⟩) } }) fun f => { f with linkRef := sset [] 300 0, linkLow := sset [] 300 1000 }).fab with seen := (onFab ({ fabDev 2 with pth := { (fabDev 2).pth with plan := sset [] 300 (some ⟨7, 5⟩) } }) fun f => { f with linkRef := sset [] 300 0, linkLow := sset [] 300 1000 }).fab.seen ++ [((msg 2 (.commit 6 false none)).src, (msg 2 (.commit 6 false none)).seq)] }, msg 2 (.commit 6 false none), 7, 300, 0, by decide +kernel, by decide +kernel, by decide +kernel, by decide +kernel, by decide +kernel, by decide +kernel, by decide +kernel, by decide +kernel, by decide +kernel, rfl, by decide +kernel⟩,
   ⟨onFab ({ fabDev 2 with pth := { (fabDev 2).pth with plan := sset [] 300 (some ⟨7, 5⟩) } }) fun f => { f with linkRef := sset [] 300 (-40000), linkLow := sset [] 300 1000 }, ((onFab ({ fabDev 2 with pth := { (fabDev 2).pth with plan := sset [] 300 (some ⟨7, 5⟩) } }) fun f => { f with linkRef := sset [] 300 (-40000), linkLow := sset [] 300 1000 }).passTo 7).setFab { (onFab ({ fabDev 2 with pth := { (fabDev 2).pth with plan := sset [] 300 (some ⟨7, 5⟩) } }) fun f => { f with linkRef := sset [] 300 (-40000), linkLow := sset [] 300 1000 }).fab with seen := (onFab ({ fabDev 2 with pth := { (fabDev 2).pth with plan := sset [] 300 (some ⟨7, 5⟩) } }) fun f => { f with linkRef := sset [] 300 (-40000), linkLow := sset [] 300 1000 }).fab.seen ++ [((msg 2 (.commit 6 false none)).src, (msg 2 (.commit 6 false none)).seq)] }, msg 2 (.commit 6 false none), 7, 300, -40000, by decide +kernel, by decide +kernel, by decide +kernel, by decide +kernel, by decide +kernel, by decide +kernel, by decide +kernel, by decide +kernel, by decide +kernel, rfl, by decide +kernel⟩,
   ⟨probing, ((probing).passTo 7).setFab { (probing).fab with seen := (probing).fab.seen ++ [((msg 2 (.reserve resv1)).src, (msg 2 (.reserve resv1)).seq)] }, msg 2 (.reserve resv1), 7, 300, probing.probeRoutes (probing.probePlan 0) [], by decide +kernel, by decide +kernel, by decide +kernel, by decide +kernel, by decide +kernel, by decide +kernel, by decide +kernel, by decide +kernel, by decide +kernel, rfl, by decide +kernel⟩⟩
theorem witness_reservationsAndLinks_4 :
    (∃ (s : State) (m' : State) (m : FabMsg) (t : Nat) (n : Nat) (b : Nat) (p : Nat) (l : List Claim), s.inFabric = true ∧ s.fab.waitQ = [] ∧ s.fab.late = [] ∧ (∀ p ∈ s.pth.placed, p.lost = false) ∧ s.fab.missed = [] ∧ (∀ x ∈ s.fab.probes, s.inTaken x.1 = false ∧ s.outTaken x.2 = none) ∧ m.src ≠ s.devid ∧ m.dst = s.devid ∧ s.firstCopy m = true ∧ m' = (s.passTo t).setFab { s.fab with seen := s.fab.seen ++ [(m.src, m.seq)] } ∧ m.body = .disc l ∧ s.fab.paths = [] ∧ ⟨false, p, n⟩ ∈ s.ownClaims ∧ ⟨true, b, n⟩ ∈ l ∧ s.linkOk m.src = true ∧ (∀ x ∈ sset s.fab.claims m.src l, ∀ c ∈ x.2, c.out = true → c.word = n → x.1 = m.src ∧ c.port = b))
    ∧ (∃ (s : State) (m' : State) (m : FabMsg) (t : Nat) (n : Nat) (b : Nat) (p : Nat) (l : List Claim), s.inFabric = true ∧ s.fab.waitQ = [] ∧ s.fab.late = [] ∧ (∀ p ∈ s.pth.placed, p.lost = false) ∧ s.fab.missed = [] ∧ (∀ x ∈ s.fab.probes, s.inTaken x.1 = false ∧ s.outTaken x.2 = none) ∧ m.src ≠ s.devid ∧ m.dst = s.devid ∧ s.firstCopy m = true ∧ m' = (s.passTo t).setFab { s.fab with seen := s.fab.seen ++ [(m.src, m.seq)] } ∧ m.body = .disc l ∧ s.fab.paths = [] ∧ ⟨false, p, n⟩ ∈ s.ownClaims ∧ ⟨true, b, n⟩ ∈ l ∧ s.linkOk m.src = true ∧ (∀ x ∈ sset s.fab.claims m.src l, ∀ c ∈ x.2, c.out = true → c.word = n → x.1 = m.src ∧ c.port = b))
    ∧ (∃ (s : State) (m' : State) (m : FabMsg) (t : Nat) (n : Nat) (b : Nat) (p : Nat) (l : List Claim), s.inFabric = true ∧ s.fab.waitQ = [] ∧ s.fab.late = [] ∧ (∀ p ∈ s.pth.placed, p.lost = false) ∧ s.fab.missed = [] ∧ (∀ x ∈ s.fab.probes, s.inTaken x.1 = false ∧ s.outTaken x.2 = none) ∧ m.src ≠ s.devid ∧ m.dst = s.devid ∧ s.firstCopy m = true ∧ m' = (s.passTo t).setFab { s.fab with seen := s.fab.seen ++ [(m.src, m.seq)] } ∧ m.body = .disc l ∧ s.fab.paths = [] ∧ ⟨true, p, n⟩ ∈ s.ownClaims ∧ ⟨false, b, n⟩ ∈ l ∧ s.linkOk m.src = true ∧ (∀ x ∈ sset s.fab.claims m.src l, ∀ c ∈ x.2, c.out = false → c.word = n → x.1 = m.src ∧ c.port = b))
    ∧ (∃ (s : State) (m' : State) (m : FabMsg) (t : Nat) (n : Nat) (p : Nat) (l : List Claim), s.inFabric = true ∧ s.fab.waitQ = [] ∧ s.fab.late = [] ∧ (∀ p ∈ s.pth.placed, p.lost = false) ∧ s.fab.missed = [] ∧ (∀ x ∈ s.fab.probes, s.inTaken x.1 = false ∧ s.outTaken x.2 = none) ∧ m.src ≠ s.devid ∧ m.dst = s.devid ∧ s.firstCopy m = true ∧ m' = (s.passTo t).setFab { s.fab with seen := s.fab.seen ++ [(m.src, m.seq)] } ∧ m.body = .disc l ∧ s.fab.paths = [] ∧ ⟨false, p, n⟩ ∈ s.ownClaims ∧ ((s.lnkIn p).st = 1 ∨ (s.lnkIn p).st = 2) ∧ (s.lnkIn p).dev = m.src ∧ (∀ x ∈ sset s.fab.claims m.src l, ∀ c ∈ x.2, c.out = true → c.word ≠ n)) :=
  ⟨⟨{ fabDev 2 with pth := { rdy.pth with tags := sset [] 300 { TagV.off with status := 3, last := 1280 } } }, (({ fabDev 2 with pth := { rdy.pth with tags := sset [] 300 { TagV.off with status := 3, last := 1280 } } }).passTo 7).setFab { ({ fabDev 2 with pth := { rdy.pth with tags := sset [] 300 { TagV.off with status := 3, last := 1280 } } }).fab with seen := ({ fabDev 2 with pth := { rdy.pth with tags := sset [] 300 { TagV.off with status := 3, last := 1280 } } }).fab.seen ++ [(((⟨40, 2, 4, 0, .disc [⟨true, 310, 5⟩]⟩ : FabMsg)).src, ((⟨40, 2, 4, 0, .disc [⟨true, 310, 5⟩]⟩ : FabMsg)).seq)] }, (⟨40, 2, 4, 0, .disc [⟨true, 310, 5⟩]⟩ : FabMsg), 7, 5, 310, 300, [⟨true, 310, 5⟩], by decide +kernel, by decide +kernel, by decide +kernel, by decide +kernel, by decide +kernel, by decide +kernel, by decide +kernel, by decide +kernel, by decide +kernel, rfl, by decide +kernel, by decide +kernel, State.ownClaims_in (v := { TagV.off with status := 3, last := 1280 }) (by decide) (by decide) rfl (by decide) rfl, by decide +kernel⟩,
   ⟨onFab { fabDev 2 with pth := { rdy.pth with tags := sset [] 300 { TagV.off with status := 3, last := 1280 } } } fun f => { f with lnkIn := sset [] 300 ⟨2, 41, 7⟩ }, ((onFab { fabDev 2 with pth := { rdy.pth with tags := sset [] 300 { TagV.off with status := 3, last := 1280 } } } fun f => { f with lnkIn := sset [] 300 ⟨2, 41, 7⟩ }).passTo 7).setFab { (onFab { fabDev 2 with pth := { rdy.pth with tags := sset [] 300 { TagV.off with status := 3, last := 1280 } } } fun f => { f with lnkIn := sset [] 300 ⟨2, 41, 7⟩ }).fab with seen := (onFab { fabDev 2 with pth := { rdy.pth with tags := sset [] 300 { TagV.off with status := 3, last := 1280 } } } fun f => { f with lnkIn := sset [] 300 ⟨2, 41, 7⟩ }).fab.seen ++ [(((⟨40, 2, 4, 0, .disc [⟨true, 310, 5⟩]⟩ : FabMsg)).src, ((⟨40, 2, 4, 0, .disc [⟨true, 310, 5⟩]⟩ : FabMsg)).seq)] }, (⟨40, 2, 4, 0, .disc [⟨true, 310, 5⟩]⟩ : FabMsg), 7, 5, 310, 300, [⟨true, 310, 5⟩], by decide +kernel, by decide +kernel, by decide +kernel, by decide +kernel, by decide +kernel, by decide +kernel, by decide +kernel, by decide +kernel, by decide +kernel, rfl, by decide +kernel, by decide +kernel, State.ownClaims_in (v := { TagV.off with status := 3, last := 1280 }) (by decide) (by decide) rfl (by decide) rfl, by decide +kernel⟩,
   ⟨{ fabDev 2 with pth := { rdy.pth with conn := sset [] 5 ⟨.active, 300, 0, false, 77⟩, plan := sset [] 5 (some ⟨300, 0⟩) } }, (({ fabDev 2 with pth := { rdy.pth with conn := sset [] 5 ⟨.active, 300, 0, false, 77⟩, plan := sset [] 5 (some ⟨300, 0⟩) } }).passTo 7).setFab { ({ fabDev 2 with pth := { rdy.pth with conn := sset [] 5 ⟨.active, 300, 0, false, 77⟩, plan := sset [] 5 (some ⟨300, 0⟩) } }).fab with seen := ({ fabDev 2 with pth := { rdy.pth with conn := sset [] 5 ⟨.active, 300, 0, false, 77⟩, plan := sset [] 5 (some ⟨300, 0⟩) } }).fab.seen ++ [(((⟨40, 2, 4, 0, .disc [⟨false, 310, 1029⟩]⟩ : FabMsg)).src, ((⟨40, 2, 4, 0, .disc [⟨false, 310, 1029⟩]⟩ : FabMsg)).seq)] }, (⟨40, 2, 4, 0, .disc [⟨false, 310, 1029⟩]⟩ : FabMsg), 7, 1029, 310, 300, [⟨false, 310, 1029⟩], by decide +kernel, by decide +kernel, by decide +kernel, by decide +kernel, by decide +kernel, by decide +kernel, by decide +kernel, by decide +kernel, by decide +kernel, rfl, by decide +kernel, by decide +kernel, State.ownClaims_out (a := 5) (by decide) (by decide) (by decide +kernel) (by decide +kernel), by decide +kernel⟩,
   ⟨onFab { fabDev 2 with pth := { rdy.pth with tags := sset [] 300 { TagV.off with status := 3, last := 1280 } } } fun f => { f with lnkIn := sset [] 300 ⟨2, 40, 311⟩, claims := [(40, [⟨true, 311, 5⟩])] }, ((onFab { fabDev 2 with pth := { rdy.pth with tags := sset [] 300 { TagV.off with status := 3, last := 1280 } } } fun f => { f with lnkIn := sset [] 300 ⟨2, 40, 311⟩, claims := [(40, [⟨true, 311, 5⟩])] }).passTo 7).setFab { (onFab { fabDev 2 with pth := { rdy.pth with tags := sset [] 300 { TagV.off with status := 3, last := 1280 } } } fun f => { f with lnkIn := sset [] 300 ⟨2, 40, 311⟩, claims := [(40, [⟨true, 311, 5⟩])] }).fab with seen := (onFab { fabDev 2 with pth := { rdy.pth with tags := sset [] 300 { TagV.off with status := 3, last := 1280 } } } fun f => { f with lnkIn := sset [] 300 ⟨2, 40, 311⟩, claims := [(40, [⟨true, 311, 5⟩])] }).fab.seen ++ [(((⟨40, 2, 4, 0, .disc [⟨true, 310, 6⟩]⟩ : FabMsg)).src, ((⟨40, 2, 4, 0, .disc [⟨true, 310, 6⟩]⟩ : FabMsg)).seq)] }, (⟨40, 2, 4, 0, .disc [⟨true, 310, 6⟩]⟩ : FabMsg), 7, 5, 300, [⟨true, 310, 6⟩], by decide +kernel, by decide +kernel, by decide +kernel, by decide +kernel, by decide +kernel, by decide +kernel, by decide +kernel, by decide +kernel, by decide +kernel, rfl, by decide +kernel, by decide +kernel, State.ownClaims_in (v := { TagV.off with status := 3, last := 1280 }) (by decide) (by decide) rfl (by decide) rfl, by decide +kernel⟩⟩
theorem witness_faultStatus :
    (∃ (s : State) (n : Fin 256), s.sys.por = false ∧ s.sys.mainRst = false ∧ s.sys.thmRst = false ∧ s.faultLevel n = true ∧ realSource n = true ∧ extLevel n = false ∧ s.flt.evc.find? (fun x => x.1 == n.val) = none ∧ s.src .FLT_STAT n = false ∧ immediate n = false)
    ∧ (∃ (s : State) (n : Fin 256), s.sys.por = false ∧ s.sys.mainRst = false ∧ s.sys.thmRst = false ∧ s.faultLevel n = true ∧ realSource n = true ∧ extLevel n = false ∧ s.flt.evc.find? (fun x => x.1 == n.val) = none ∧ s.src .FLT_STAT n = false ∧ immediate n = false)
    ∧ (∃ (s : State) (n : Fin 256), s.sys.por = false ∧ s.sys.mainRst = false ∧ s.sys.thmRst = false ∧ s.faultLevel n = true ∧ realSource n = true ∧ extLevel n = false ∧ s.flt.evc.find? (fun x => x.1 == n.val) = none ∧ s.src .FLT_STAT n = true)
    ∧ (∃ (s : State), s.sys.por = false ∧ s.sys.mainRst = false ∧ s.sys.thmRst = false ∧ s.isOpen = true)
    ∧ (∃ (s : State), s.sys.por = false ∧ s.sys.mainRst = false ∧ s.sys.thmRst = false ∧ s.isOpen = true ∧ s.flt.safe = false)
    ∧ (∃ (s : State) (w : Fin 3), s.sys.por = false ∧ s.sys.mainRst = false ∧ s.sys.thmRst = false ∧ s.isOpen = true ∧ w.val = 0)
    ∧ (∃ (s : State) (w : Fin 3), s.sys.por = false ∧ s.sys.mainRst = false ∧ s.sys.thmRst = false ∧ s.isOpen = true ∧ w.val = 1)
    ∧ (∃ (s : State) (w : Fin 3), s.sys.por = false ∧ s.sys.mainRst = false ∧ s.sys.thmRst = false ∧ s.isOpen = true ∧ w.val = 2) :=
  ⟨⟨stuck, 32, by decide +kernel⟩,
   ⟨stuck.setSrc .FLT_EN 32 false, 32, by decide +kernel⟩,
   ⟨stuck.setSrc .FLT_STAT 32 true, 32, by decide +kernel⟩,
   ⟨rdy, by decide +kernel⟩,
   ⟨stuck.setSrc .FLT_STAT 32 true, by decide +kernel⟩,
   ⟨rdy, 0, by decide +kernel⟩,
   ⟨rdy, 1, by decide +kernel⟩,
   ⟨rdy, 2, by decide +kernel⟩⟩
theorem witness_safeState_1 :
    (∃ (s : State) (n : Fin 256), s.sys.por = false ∧ s.sys.mainRst = false ∧ s.sys.thmRst = false ∧ s.faultLevel n = true ∧ realSource n = true ∧ extLevel n = false ∧ s.flt.evc.find? (fun x => x.1 == n.val) = none ∧ s.src .FLT_STAT n = false ∧ immediate n = true ∧ s.src .FLT_EN n = true ∧ s.flt.safe = false)
    ∧ (∃ (s : State) (n : Fin 256), s.sys.por = false ∧ s.sys.mainRst = false ∧ s.sys.thmRst = false ∧ s.faultLevel n = true ∧ realSource n = true ∧ extLevel n = false ∧ s.flt.evc.find? (fun x => x.1 == n.val) = none ∧ s.src .FLT_STAT n = false ∧ immediate n = true ∧ s.src .FLT_EN n = true ∧ s.flt.safe = false)
    ∧ (∃ (s : State) (n : Fin 256) (us : Nat) (ms : Nat), s.sys.por = false ∧ s.sys.mainRst = false ∧ s.sys.thmRst = false ∧ s.flt.esc.find? (fun x => x.1 == n.val) = some (n.val, ms) ∧ ms * 1000 ≤ us + 10 ∧ (n.val < 32 ∨ 184 ≤ n.val) ∧ s.flt.safe = false)
    ∧ (∃ (s : State) (n : Fin 256) (us : Nat) (ms : Nat), s.sys.por = false ∧ s.sys.mainRst = false ∧ s.sys.thmRst = false ∧ s.flt.esc.find? (fun x => x.1 == n.val) = some (n.val, ms) ∧ ms * 1000 ≤ us + 10 ∧ 32 ≤ n.val ∧ n.val < 184)
    ∧ (∃ (s : State) (n : Fin 256) (us : Nat) (ms : Nat), s.sys.por = false ∧ s.sys.mainRst = false ∧ s.sys.thmRst = false ∧ s.flt.esc.find? (fun x => x.1 == n.val) = some (n.val, ms) ∧ us + 10 < ms * 1000)
    ∧ (∃ (s : State), s.sys.por = false ∧ s.sys.mainRst = false ∧ s.sys.thmRst = false ∧ s.flt.entering = true ∧ s.flt.exitPend = false)
    ∧ (∃ (s : State) (g : Fin 8) (v : Word), s.sys.por = false ∧ s.sys.mainRst = false ∧ s.sys.thmRst = false ∧ s.isOpen = true ∧ s.flt.safe = true ∧ s.flt.entering = false ∧ (∀ m, m < 256 → s.src .FLT_HELD m = true → s.src .FLT_STAT m = true → m / 32 = g.val ∧ bit (m % 32) v = true ∧ s.faultLevel m = false))
    ∧ (∃ (s : State) (g : Fin 8) (v : Word), s.sys.por = false ∧ s.sys.mainRst = false ∧ s.sys.thmRst = false ∧ s.isOpen = true ∧ s.flt.safe = true ∧ s.flt.entering = false ∧ (∀ m, m < 256 → s.src .FLT_HELD m = true → s.src .FLT_STAT m = true → m / 32 = g.val ∧ bit (m % 32) v = true ∧ s.faultLevel m = false))
    ∧ (∃ (s : State), s.sys.por = false ∧ s.sys.mainRst = false ∧ s.sys.thmRst = false ∧ s.src .FLT_STAT 0 = false) :=
  ⟨⟨{ rdy with sys := { rdy.sys with mode := 3 } }.setSrc .FLT_EN 1 true, 1, by decide +kernel⟩,
   ⟨onThm (rdy.setSrc .FLT_EN 19 true) fun k => { k with shut := true }, 19, by decide +kernel⟩,
   ⟨onFlt rdy fun k => { k with esc := [(18, 100)] }, 18, 99990, 100, by decide +kernel⟩,
   ⟨onFlt rdy fun k => { k with esc := [(32, 100)] }, 32, 99990, 100, by decide +kernel⟩,
   ⟨onFlt rdy fun k => { k with esc := [(32, 100)] }, 32, 99989, 100, by decide +kernel⟩,
   ⟨onFlt rdy fun k => { k with safe := true, entering := true }, by decide +kernel⟩,
   ⟨(((onFlt rdy fun k => { k with safe := true }).onCl 5 fun k => { k with safe := true }).setSrc .FLT_HELD 18 true).setSrc .FLT_STAT 18 true, 0, 0x40000, by decide +kernel⟩,
   ⟨(onFlt rdy fun k => { k with safe := true }).onCl 5 fun k => { k with safe := true }, 0, 0, by decide +kernel⟩,
   ⟨rdy, by decide +kernel⟩⟩
theorem witness_safeState_2 :
    (∃ (s : State) (g : Fin 8) (v : Word), s.sys.por = false ∧ s.sys.mainRst = false ∧ s.sys.thmRst = false ∧ s.isOpen = true ∧ s.flt.safe = true ∧ s.flt.entering = true ∧ (∀ m, m < 256 → s.src .FLT_HELD m = true → s.src .FLT_STAT m = true → m / 32 = g.val ∧ bit (m % 32) v = true ∧ s.faultLevel m = false))
    ∧ (∃ (s : State) (n : Fin 256) (g : Fin 8) (v : Word), s.sys.por = false ∧ s.sys.mainRst = false ∧ s.sys.thmRst = false ∧ s.isOpen = true ∧ s.flt.safe = true ∧ s.src .FLT_HELD n = true ∧ s.src .FLT_STAT n = true ∧ (n.val / 32 ≠ g.val ∨ bit (n % 32) v = false)) :=
  ⟨⟨((onFlt rdy fun k => { k with safe := true, entering := true }).setSrc .FLT_HELD 18 true).setSrc .FLT_STAT 18 true, 0, 0x40000, by decide +kernel⟩,
   ⟨((onFlt rdy fun k => { k with safe := true }).setSrc .FLT_HELD 19 true).setSrc .FLT_STAT 19 true, 19, 0, 0x40000, by decide +kernel⟩⟩
theorem witness_thermalControl :
    (∃ (s : State) (x : SnsRead), s.snsEn x.i.val = true)
    ∧ (∃ (s : State) (x : SnsRead), s.snsEn x.i.val = true)
    ∧ (∃ (s : State) (leg : Nat), s.fb TEC_CTRL.EN [] = true ∧ s.thm.pdValid = true ∧ leg < 2)
    ∧ (∃ (s : State) (leg : Nat), s.fb TEC_CTRL.EN [] = true ∧ s.thm.pdValid = true ∧ leg < 2)
    ∧ (∃ (s : State), s.thm.pdValid = false)
    ∧ (∃ (s : State), s.fb TEC_CTRL.EN [] = true ∧ s.inBand = false ∧ s.f TEC_MON.TEC_TIME [] * 10000 ≤ s.thm.out) :=
  ⟨⟨rdy.setF THM_SNS.EN [0] 1, ⟨0, 500, 3000⟩, by decide +kernel⟩,
   ⟨onThm ((rdy.setF THM_SNS.EN [0] 1).setF THM_THR.SHUT_C [] 100) fun k => { k with start := false }, ⟨0, 500, 3000⟩, by decide +kernel⟩,
   ⟨onThm (rdy.setF TEC_CTRL.EN [] 1) fun k => { k with pdValid := true, mean := 900 }, 1, by decide +kernel⟩,
   ⟨onThm (rdy.setF TEC_CTRL.EN [] 1) fun k => { k with pdValid := true, mean := 700 }, 0, by decide +kernel⟩,
   ⟨rdy, by decide +kernel⟩,
   ⟨onThm (rdy.setF TEC_CTRL.EN [] 1) fun k => { k with out := 10000000 }, by decide +kernel⟩⟩
theorem witness_pwmChannels :
    (∃ (s : State) (ch : Fin 4) (p : Nat) (d : Nat), s.fb PWM_CTRL.EN [ch.val] = true ∧ (s.pwmOf ch).flt = false ∧ (p = (if s.fb PWM_CTRL.SYNC [ch.val] = false ∨ (s.pwmOf ch).updP = true then s.f PWM_PER.PER [ch.val] else (s.pwmOf ch).per)) ∧ (d = (if s.fb PWM_CTRL.SYNC [ch.val] = false ∨ (s.pwmOf ch).updP = true then s.f PWM_DUTY.DUTY [ch.val] else (s.pwmOf ch).duty)))
    ∧ (∃ (s : State) (ch : Fin 4), s.fb PWM_CTRL.EN [ch.val] = true ∧ (s.pwmOf ch).flt = true)
    ∧ (∃ (s : State) (ch : Fin 4), s.fb PWM_CTRL.EN [ch.val] = true ∧ (s.pwmOf ch).h < (s.pwmOf ch).per)
    ∧ (∃ (s : State) (n : Fin 3), n.val ≠ 0 ∧ s.fb PWM_CTRL.EN [n.val + 1] = true ∧ (s.pwmOf (n.val + 1)).pin = true)
    ∧ (∃ (s : State) (ch : Fin 4) (v : Word), s.isOpen = true ∧ bit 0 v = true ∧ (s.pwmOf ch).flt = false)
    ∧ (∃ (s : State) (ch : Fin 4) (v : Word), s.isOpen = true ∧ bit 0 v = true ∧ (s.pwmOf ch).flt = false)
    ∧ (∃ (s : State) (v : Word), s.isOpen = true ∧ bit 0 v = false)
    ∧ (∃ (s : State) (v : Word), s.isOpen = true ∧ bit 0 v = false)
    ∧ (∃ (s : State) (ch : Fin 4) (v : Word), s.isOpen = true ∧ bit 0 v = true ∧ s.fb PWM_CTRL.SYNC [ch.val] = true ∧ s.pwmOwned ch = false) :=
  ⟨⟨((rdy.setF PWM_CTRL.EN [0] 1)), 0, rdy.f PWM_PER.PER [0], rdy.f PWM_DUTY.DUTY [0], by decide +kernel⟩,
   ⟨onPwm ((rdy.setF PWM_CTRL.EN [0] 1)) 0 fun k => { k with flt := true, pin := true, h := 9 }, 0, by decide +kernel⟩,
   ⟨onPwm ((rdy.setF PWM_CTRL.EN [0] 1)) 0 fun k => { k with pin := true, h := 9 }, 0, by decide +kernel⟩,
   ⟨onPwm ((rdy.setF PWM_CTRL.EN [2] 1)) 2 fun k => { k with pin := true, h := 9 }, 1, by decide +kernel⟩,
   ⟨rdy.setF PWM_CTRL.EN [0] 0, 0, 1, by decide +kernel⟩,
   ⟨onPwm (rdy.setF PWM_CTRL.EN [0] 1) 0 fun k => { k with k := 7, duty := 100 }, 0, 1, by decide +kernel⟩,
   ⟨((rdy.setF PWM_CTRL.EN [3] 1)), 2, by decide +kernel⟩,
   ⟨rdy.setF TEC_CTRL.EN [] 1, 2, by decide +kernel⟩,
   ⟨rdy.setF PWM_CTRL.SYNC [3] 1, 3, 1, by decide +kernel⟩⟩
theorem witness_powerLadder :
    (∃ (s : State) (v : Word), s.isOpen = true ∧ 4 < fget 0 3 v)
    ∧ (∃ (s : State) (v : Word) (g : Nat), s.isOpen = true ∧ fget 0 3 v = g ∧ g ≤ 4 ∧ s.cal.busy = false ∧ s.pwr.chg = none ∧ (∀ p ∈ s.pwr.kept, isSetpt p.1 = true))
    ∧ (∃ (s : State) (v : Word) (g : Nat), s.isOpen = true ∧ fget 0 3 v = g ∧ g ≤ 4 ∧ s.cal.busy = false ∧ s.pwr.chg = none ∧ (∀ p ∈ s.pwr.kept, isSetpt p.1 = true))
    ∧ (∃ (s : State) (g : Nat) (off : Bool), s.pwr.pend = true ∧ s.pwr.chg = none ∧ s.target = g ∧ ({ s with pwr := { s.pwr with off := off } } : State).pwrWait g = 0 ∧ g < 2)
    ∧ (∃ (s : State) (g : Nat) (off : Bool), s.pwr.pend = true ∧ s.pwr.chg = none ∧ s.target = g ∧ ({ s with pwr := { s.pwr with off := off } } : State).pwrWait g = 0 ∧ g = 2)
    ∧ (∃ (s : State) (g : Nat) (off : Bool), s.pwr.pend = true ∧ s.pwr.chg = none ∧ s.target = g ∧ ({ s with pwr := { s.pwr with off := off } } : State).pwrWait g = 0 ∧ 3 ≤ g ∧ s.plk.st = .engaged)
    ∧ (∃ (s : State) (g : Nat), s.pwr.chg = some g ∧ s.pwr.late = false ∧ (g < 3 ∨ g ≤ s.pwr.st ∨ s.plk.st = .released))
    ∧ (∃ (s : State) (g : Nat), s.pwr.chg = some g ∧ s.pwr.late = false ∧ (g < 3 ∨ g ≤ s.pwr.st ∨ s.plk.st = .released))
    ∧ (∃ (s : State) (t : Nat) (c : Nat), s.firstCommit = some c ∧ s.fb PWR_CTRL.AUTO_WAKE [] = true ∧ 1 ≤ s.pwr.st ∧ s.pwr.st ≤ 3 ∧ s.pwr.chg = none ∧ c ≤ (s.passTo t).clr.now + (if s.pwr.st = 1 then 20000 else if s.pwr.st = 2 then 200000 else 2000000) + 10000) :=
  ⟨⟨rdy, 5, by decide +kernel⟩,
   ⟨rdy, 3, 3, by decide +kernel⟩,
   ⟨onPwr rdy fun k => { k with st := 4, off := true }, 0, 0, by decide +kernel⟩,
   ⟨onPwr (rdy.setF PWR_CTRL.TARGET [] 1) fun k => { k with pend := true }, 1, false, by decide +kernel⟩,
   ⟨onPwr (rdy.setF PWR_CTRL.TARGET [] 2) fun k => { k with pend := true }, 2, false, by decide +kernel⟩,
   ⟨{ onPwr (rdy.setF PWR_CTRL.TARGET [] 3) (fun k => { k with pend := true }) with plk := ⟨.engaged, false, true, 600⟩ }, 3, true, by decide +kernel⟩,
   ⟨onPwr rdy fun k => { k with chg := some 3 }, 3, by decide +kernel⟩,
   ⟨onPwr rdy fun k => { k with st := 3, chg := some 4 }, 4, by decide +kernel⟩,
   ⟨{ onPwr (rdy.setF PWR_CTRL.AUTO_WAKE [] 1) (fun k => { k with st := 3 }) with yk := { rdy.yk with store := [⟨7, .staged, .request, [], 2015000, 5000, false, 0, false, 0, false⟩] } }, 0, 2010000, by decide +kernel⟩⟩
theorem witness_praleProcessors_1 :
    (∃ (s : State), s.prl.lsHalt = false ∧ s.prl.awake = true)
    ∧ (∃ (s : State) (n : Nat), s.prl.hbAge = some n ∧ s.f PRL_WD.WD_MS [] * 1000 ≤ n)
    ∧ (∃ (s : State) (n : Nat), s.prl.hbAge = some n ∧ n < s.f PRL_WD.WD_MS [] * 1000)
    ∧ (∃ (s : State) (n : Nat), s.prl.lsHalt = false ∧ s.prl.awake = true ∧ n < 512 ∧ s.icQualifies n = true ∧ (∀ m, m < 512 → m ≠ n → s.icQualifies m = true → s.icRank n < s.icRank m))
    ∧ (∃ (s : State), s.prl.lsHalt = false ∧ s.prl.awake = true ∧ (∀ m, m < 512 → s.icQualifies m = false))
    ∧ (∃ (s : State) (p : Nat × Nat) (rest : List (Nat × Nat)), s.prl.lsHalt = false ∧ s.prl.ic.act = p :: rest ∧ (∀ m, m < 512 → (s.setIc { s.prl.ic with act := rest }).icQualifies m = false))
    ∧ (∃ (s : State), s.inReset = false ∧ s.prl.lsHalt = false)
    ∧ (∃ (s : State), s.prl.awake = true)
    ∧ (∃ (s : State) (line : Fin 32), s.prl.awake = false ∧ 2 < s.sys.stage ∧ line.val < 8 ∧ bit line (s.reg .IC_WAKE []) = true) :=
  ⟨⟨onPrl rdy fun k => { k with awake := true, hbCnt := 5 }, by decide +kernel⟩,
   ⟨onPrl rdy fun k => { k with hbAge := some 10000000 }, 10000000, by decide +kernel⟩,
   ⟨onPrl rdy fun k => { k with hbAge := some 9 }, 9, by decide +kernel⟩,
   ⟨(onPrl ((rdy.setF IC_SRC.EN [421] 1).setF IC_CTRL.GATE [] 0) fun k => { k with awake := true, ic := { k.ic with pend := [421] } }), 421, by decide +kernel⟩,
   ⟨onPrl rdy fun k => { k with awake := true }, by decide +kernel⟩,
   ⟨onPrl rdy fun k => { k with awake := true, ic := { k.ic with act := [(5, 3), (9, 7)] } }, (5, 3), [(9, 7)], by decide +kernel⟩,
   ⟨rdy, by decide +kernel⟩,
   ⟨onPrl rdy fun k => { k with awake := true, ic := { k.ic with pend := [3, 416], act := [(5, 3)] } }, by decide +kernel⟩,
   ⟨(onPrl rdy fun k => { k with ic := { k.ic with latched := [416], act := [(5, 3)], kept := [(416, 0, false), (417, 0, false), (432, 0, false)] } }).setReg .IC_WAKE [] 0xFF, 0, by decide +kernel⟩⟩
theorem witness_praleProcessors_2 :
    (∃ (s : State) (line : Fin 32), (8 ≤ line.val ∨ bit line (s.reg .IC_WAKE []) = false))
    ∧ (∃ (s : State) (x : LogEnt) (more : List LogEnt), s.prl.lsHalt = false ∧ s.prl.logLost = 0 ∧ s.prl.logBuf = x :: more)
    ∧ (∃ (s : State), s.prl.hbAge = none ∧ 4 < s.sys.stage ∧ s.f PRL_WD.WD_MS [] * 1000 ≤ s.prl.bootAge)
    ∧ (∃ (s : State), s.prl.hbAge = none ∧ (s.sys.stage ≤ 4 ∨ s.prl.bootAge < s.f PRL_WD.WD_MS [] * 1000))
    ∧ (∃ (s : State) (n : Nat), s.prl.lsHalt = false ∧ s.prl.logLost = n ∧ n ≠ 0) :=
  ⟨⟨rdy, 8, by decide +kernel⟩,
   ⟨onPrl rdy fun k => { k with logBuf := [⟨1, 2, 3, 4, [5]⟩], logOfs := 0, logSeq := 7 }, ⟨1, 2, 3, 4, [5]⟩, [], by decide +kernel⟩,
   ⟨onPrl (rdy.setF PRL_WD.WD_MS [] 5) fun k => { k with bootAge := 5000 }, by decide +kernel⟩,
   ⟨onPrl (rdy.setF PRL_WD.WD_MS [] 5) fun k => { k with bootAge := 4999 }, by decide +kernel⟩,
   ⟨(onPrl rdy fun k => { k with logLost := 3, logBuf := [⟨1, 2, 3, 4, [5]⟩], logOfs := 65504, logSeq := 7 }).setReg .HIF_EVT_EN [] 0xFF, 3, by decide +kernel⟩⟩
theorem witness_firmwareImages_1 :
    (∃ (s : State) (s1 : State) (x : Txn) (r : Req), s.prl.lsHalt = false ∧ s.takeMgmt 0x10 = some (x, r, s1) ∧ s.prl.owner ≠ 2 ∧ x.ofs + x.len ≤ slotBytes ∧ (x.ofs = 0 ∨ x.ofs = s.prl.extent))
    ∧ (∃ (s : State) (s1 : State) (x : Txn) (r : Req), s.prl.lsHalt = false ∧ s.takeMgmt 0x10 = some (x, r, s1) ∧ s.prl.owner ≠ 2 ∧ x.ofs + x.len ≤ slotBytes ∧ (x.ofs = 0 ∨ x.ofs = s.prl.extent))
    ∧ (∃ (s : State) (s1 : State) (x : Txn) (r : Req), s.prl.lsHalt = false ∧ s.takeMgmt 0x10 = some (x, r, s1) ∧ s.prl.owner = 2)
    ∧ (∃ (s : State) (s1 : State) (x : Txn) (r : Req), s.prl.lsHalt = false ∧ s.takeMgmt 0x11 = some (x, r, s1) ∧ s.prl.extent ≠ 0 ∧ (s.prl.slot s.prl.runB).st = 3)
    ∧ (∃ (s : State) (s1 : State) (x : Txn) (r : Req), s.prl.lsHalt = false ∧ s.takeMgmt 0x11 = some (x, r, s1) ∧ (s.prl.extent = 0 ∨ s.verify flashStage s.prl.extent ≠ 0))
    ∧ (∃ (s : State) (s1 : State) (x : Txn) (r : Req), s.prl.lsHalt = false ∧ s.takeMgmt 0x12 = some (x, r, s1) ∧ x.ofs + x.len ≤ logBytes ∧ s.memWf = true)
    ∧ (∃ (s : State) (v : Word), s.inReset = false ∧ s.prl.owner ≠ 0 ∧ bit 29 v = true)
    ∧ (∃ (s : State) (v : Word), s.inReset = false ∧ s.prl.lsHalt = false ∧ s.prl.owner = 2 ∧ bit 28 v = true ∧ bit 29 v = false ∧ s.prl.extent ≠ 0 ∧ (s.prl.slot s.prl.runB).st = 3)
    ∧ (∃ (s : State) (v : Word), s.prl.owner ≠ 2 ∧ bit 29 v = false) :=
  ⟨⟨onPrl ({ rdy with pth := { rdy.pth with delivered := [mgmt 0x10 64 8] } }) fun k => { k with extent := 64, owner := 1 }, { onPrl ({ rdy with pth := { rdy.pth with delivered := [mgmt 0x10 64 8] } }) fun k => { k with extent := 64, owner := 1 } with pth := { (onPrl ({ rdy with pth := { rdy.pth with delivered := [mgmt 0x10 64 8] } }) fun k => { k with extent := 64, owner := 1 }).pth with delivered := [] } }, mgmt 0x10 64 8, req 0x10 0 0, by decide +kernel, rfl, by decide +kernel⟩,
   ⟨onPrl ({ { rdy with hostMem := [(0x1000, 5)] } with pth := { rdy.pth with delivered := [mgmt 0x10 0 8] } }) fun k => { k with extent := 64 }, { onPrl ({ { rdy with hostMem := [(0x1000, 5)] } with pth := { rdy.pth with delivered := [mgmt 0x10 0 8] } }) fun k => { k with extent := 64 } with pth := { (onPrl ({ { rdy with hostMem := [(0x1000, 5)] } with pth := { rdy.pth with delivered := [mgmt 0x10 0 8] } }) fun k => { k with extent := 64 }).pth with delivered := [] } }, mgmt 0x10 0 8, req 0x10 0 0, by decide +kernel, rfl, by decide +kernel⟩,
   ⟨onPrl ({ rdy with pth := { rdy.pth with delivered := [mgmt 0x10 64 8] } }) fun k => { k with extent := 64, owner := 2 }, { onPrl ({ rdy with pth := { rdy.pth with delivered := [mgmt 0x10 64 8] } }) fun k => { k with extent := 64, owner := 2 } with pth := { (onPrl ({ rdy with pth := { rdy.pth with delivered := [mgmt 0x10 64 8] } }) fun k => { k with extent := 64, owner := 2 }).pth with delivered := [] } }, mgmt 0x10 64 8, req 0x10 0 0, by decide +kernel, rfl, by decide +kernel⟩,
   ⟨onPrl ({ rdy with pth := { rdy.pth with delivered := [mgmt 0x11 0 8] } }) fun k => { k with slotA := ⟨3, 0, 7, 1⟩, slotB := ⟨1, 0, 5, 1⟩, runB := false, svnFloor := 1, bootB := false, extent := 4096, owner := 1 }, { onPrl ({ rdy with pth := { rdy.pth with delivered := [mgmt 0x11 0 8] } }) fun k => { k with slotA := ⟨3, 0, 7, 1⟩, slotB := ⟨1, 0, 5, 1⟩, runB := false, svnFloor := 1, bootB := false, extent := 4096, owner := 1 } with pth := { (onPrl ({ rdy with pth := { rdy.pth with delivered := [mgmt 0x11 0 8] } }) fun k => { k with slotA := ⟨3, 0, 7, 1⟩, slotB := ⟨1, 0, 5, 1⟩, runB := false, svnFloor := 1, bootB := false, extent := 4096, owner := 1 }).pth with delivered := [] } }, mgmt 0x11 0 8, req 0x11 0 0, by decide +kernel, rfl, by decide +kernel⟩,
   ⟨onPrl ({ rdy with pth := { rdy.pth with delivered := [mgmt 0x11 0 8] } }) fun k => { k with owner := 1 }, { onPrl ({ rdy with pth := { rdy.pth with delivered := [mgmt 0x11 0 8] } }) fun k => { k with owner := 1 } with pth := { (onPrl ({ rdy with pth := { rdy.pth with delivered := [mgmt 0x11 0 8] } }) fun k => { k with owner := 1 }).pth with delivered := [] } }, mgmt 0x11 0 8, req 0x11 0 0, by decide +kernel, rfl, by decide +kernel⟩,
   ⟨{ rdy with pth := { rdy.pth with delivered := [mgmt 0x12 64 8] } }, { { rdy with pth := { rdy.pth with delivered := [mgmt 0x12 64 8] } } with pth := { ({ rdy with pth := { rdy.pth with delivered := [mgmt 0x12 64 8] } }).pth with delivered := [] } }, mgmt 0x12 64 8, req 0x12 0 0, by decide +kernel, rfl, by decide +kernel⟩,
   ⟨onPrl rdy fun k => { k with owner := 2, extent := 8 }, 0x20000000, by decide +kernel⟩,
   ⟨onPrl rdy fun k => { k with slotA := ⟨3, 0, 7, 1⟩, slotB := ⟨1, 0, 5, 1⟩, runB := false, svnFloor := 1, bootB := false, extent := 4096, owner := 2 }, 0x18000000, by decide +kernel⟩,
   ⟨rdy, 0x10000000, by decide +kernel⟩⟩
theorem witness_firmwareImages_2 :
    (∃ (s : State), 60000000 ≤ s.prl.stageAge ∧ s.prl.owner ≠ 0)
    ∧ (∃ (s : State), s.prl.stageAge < 60000000)
    ∧ (∃ (s : State), s.ready = true ∧ (s.prl.slot s.prl.runB).st = 2 ∧ 60000000 ≤ s.prl.aliveRun) :=
  ⟨⟨onPrl rdy fun k => { k with owner := 2, extent := 8, stageAge := 60000000 }, by decide +kernel⟩,
   ⟨onPrl rdy fun k => { k with stageAge := 59999999 }, by decide +kernel⟩,
   ⟨onPrl rdy fun k => { k with slotA := ⟨2, 1, 7, 4⟩, runB := false, svnFloor := 1, aliveRun := 60000000 }, by decide +kernel⟩⟩
theorem witness_outOfBandWindow_1 :
    (∃ (s : State), s.sys.por = false)
    ∧ (∃ (s : State), s.sys.por = false)
    ∧ (∃ (s : State), s.sys.por = false)
    ∧ (∃ (s : State), s.sys.por = false)
    ∧ (∃ (s : State), s.sys.por = false ∧ s.prl.oob.addr < 0x20000000)
    ∧ (∃ (s : State) (code : Byte), s.sys.por = false ∧ 4 < code.toNat)
    ∧ (∃ (s : State) (v : Word), s.sys.por = false ∧ v.toNat < 0x30000000)
    ∧ (∃ (s : State) (v : Word), s.sys.por = false ∧ v.toNat < 0x30000000)
    ∧ (∃ (s : State), s.sys.por = false) :=
  ⟨⟨rdy, by decide +kernel⟩,
   ⟨rdy, by decide +kernel⟩,
   ⟨rdy, by decide +kernel⟩,
   ⟨rdy, by decide +kernel⟩,
   ⟨rdy, by decide +kernel⟩,
   ⟨rdy, 5, by decide +kernel⟩,
   ⟨rdy, 0x20000004, by decide +kernel⟩,
   ⟨onOob rdy fun k => { k with inc := true, err := true }, 0x2FFFFFFF, by decide +kernel⟩,
   ⟨rdy, by decide +kernel⟩⟩
theorem witness_outOfBandWindow_2 :
    (∃ (s : State) (v : Word), s.sys.por = false ∧ bit 0 v = true)
    ∧ (∃ (s : State) (code : Byte) (v : Word) (p : Byte), s.sys.por = false ∧ 1 ≤ code.toNat ∧ code.toNat ≤ 4 ∧ p.toNat ≠ s.pecOf code.toNat v)
    ∧ (∃ (s : State), s.sys.por = false ∧ s.prl.oob.addr = 0x30000000 + flashStage ∧ s.prl.owner ≠ 1 ∧ s.prl.oob.inc = false)
    ∧ (∃ (s : State), s.sys.por = false ∧ s.prl.oob.addr = 0x30000000 + flashStage ∧ s.prl.owner = 1)
    ∧ (∃ (s : State), s.sys.por = false ∧ s.smbAlert = true)
    ∧ (∃ (s : State), s.sys.por = false ∧ s.smbAlert = false)
    ∧ (∃ (s : State), s.sys.por = false ∧ s.prl.awake = true ∧ 421 ∉ s.prl.ic.pend) :=
  ⟨⟨onOob rdy fun k => { k with err := true, code := 3 }, 1, by decide +kernel⟩,
   ⟨rdy, 4, 1, rdy.pecOf 4 1 + 1, by decide +kernel⟩,
   ⟨onOob rdy fun k => { k with addr := 0x34100000, inc := false }, by decide +kernel⟩,
   ⟨onPrl (onOob rdy fun k => { k with addr := 0x34100000 }) fun k => { k with owner := 1 }, by decide +kernel⟩,
   ⟨onOob rdy fun k => { k with alertEn := true, err := true }, by decide +kernel⟩,
   ⟨rdy, by decide +kernel⟩,
   ⟨onPrl rdy fun k => { k with awake := true }, by decide +kernel⟩⟩
theorem witness_calibrationCommands_1 :
    (∃ (s : State), s.inReset = false ∧ s.cal.busy = false ∧ s.calCause 1 ≠ 0)
    ∧ (∃ (s : State), s.inReset = false ∧ s.cal.busy = false ∧ s.calCause 2 ≠ 0)
    ∧ (∃ (s : State), s.inReset = false ∧ s.cal.busy = false ∧ s.calCause 6 ≠ 0)
    ∧ (∃ (s : State), s.inReset = false ∧ s.cal.busy = true)
    ∧ (∃ (s : State), s.inReset = false ∧ s.cal.busy = false ∧ s.freeNums ≠ [] ∧ s.calCause 1 = 0)
    ∧ (∃ (s : State), s.inReset = false ∧ s.cal.busy = false ∧ s.freeNums ≠ [] ∧ s.calCause 2 = 0)
    ∧ (∃ (s : State), s.inReset = false ∧ s.cal.busy = false ∧ s.freeNums ≠ [] ∧ s.calCause 3 = 0)
    ∧ (∃ (s : State), s.inReset = false ∧ s.cal.busy = false ∧ s.freeNums = [] ∧ s.cal.refs = [] ∧ s.calCause 3 = 0)
    ∧ (∃ (s : State), s.inReset = false ∧ s.cal.busy = false ∧ s.calCause 4 = 0) :=
  ⟨⟨onPwr rdy fun k => { k with st := 1 }, by decide +kernel⟩,
   ⟨onFlt rdy fun k => { k with safe := true }, by decide +kernel⟩,
   ⟨rdy, by decide +kernel⟩,
   ⟨calRun 1 4 0, by decide +kernel⟩,
   ⟨rdy, by decide +kernel⟩,
   ⟨rdy, by decide +kernel⟩,
   ⟨rdy, by decide +kernel⟩,
   ⟨full rdy, by decide +kernel, by decide +kernel, full_free _, by decide +kernel, by decide +kernel⟩,
   ⟨rdy, by decide +kernel⟩⟩
theorem witness_calibrationCommands_2 :
    (∃ (s : State), s.inReset = false ∧ s.cal.busy = false ∧ s.calCause 5 = 0)
    ∧ (∃ (s : State) (k : CalUndo), s.inReset = false ∧ s.cal.busy = false ∧ s.cal.last = some k)
    ∧ (∃ (s : State), s.inReset = false ∧ s.cal.busy = true)
    ∧ (∃ (s : State), s.inReset = false ∧ s.cal.busy = true)
    ∧ (∃ (s : State), s.inReset = false ∧ s.cal.busy = false) :=
  ⟨⟨rdy, by decide +kernel⟩,
   ⟨onCal rdy fun k => { k with last := some ⟨[], [(7, 5), (9, 6)]⟩, consts := sset [] 4 ⟨3, 65536⟩ }, ⟨[], [(7, 5), (9, 6)]⟩, by decide +kernel⟩,
   ⟨calRun 3 1 0, by decide +kernel⟩,
   ⟨onCal (calRun 3 1 0) fun k => { k with undo := ⟨[], [(7, 5)]⟩ }, by decide +kernel⟩,
   ⟨rdy, by decide +kernel⟩⟩
theorem witness_calibrationSteps_1 :
    (∃ (s : State) (c : Fin 136) (x : Nat × Nat × Bool), s.cal.busy = true ∧ s.cal.stage = 6 ∧ s.freeNums ≠ [] ∧ s.cal.todo.find? (fun y => y.1 / 256 == c.val) = some x)
    ∧ (∃ (s : State) (t : Nat), s.cal.busy = true ∧ s.cal.fired = true ∧ s.cal.fireAt + s.f CAL_PRB.DWELL_US [] * 1000 ≤ (s.passTo t).clr.now ∧ s.freeNums ≠ [] ∧ s.cal.stage = 1)
    ∧ (∃ (s : State) (t : Nat), s.cal.busy = true ∧ s.cal.fired = true ∧ s.cal.fireAt + s.f CAL_PRB.DWELL_US [] * 1000 ≤ (s.passTo t).clr.now ∧ s.freeNums ≠ [] ∧ s.cal.stage = 2)
    ∧ (∃ (s : State) (t : Nat), s.cal.busy = true ∧ s.cal.fired = true ∧ s.cal.fireAt + s.f CAL_PRB.DWELL_US [] * 1000 ≤ (s.passTo t).clr.now ∧ s.freeNums ≠ [] ∧ s.cal.stage = 4)
    ∧ (∃ (s : State) (t : Nat), (s.passTo t).clr.now < s.cal.fireAt + s.f CAL_PRB.DWELL_US [] * 1000)
    ∧ (∃ (s : State), s.cal.busy = true ∧ s.cal.again = [] ∧ s.cal.step < 8 ∧ s.cal.op = 4 ∧ (s.cal.busyAdc.any fun y => !((s.cl (y / 8)).settled (y % 8))) = false)
    ∧ (∃ (s : State), s.cal.busy = true ∧ s.cal.again = [] ∧ s.cal.step < 8 ∧ s.cal.op = 4 ∧ (s.cal.busyAdc.any fun y => !((s.cl (y / 8)).settled (y % 8))) = false)
    ∧ (∃ (s : State), s.cal.busy = true ∧ s.cal.again = [] ∧ s.cal.step < 8 ∧ s.cal.op = 4 ∧ (s.cal.busyAdc.any fun y => !((s.cl (y / 8)).settled (y % 8))) = true)
    ∧ (∃ (s : State) (m : List PortMeas), s.cal.busy = true ∧ s.cal.again = [] ∧ s.cal.step < 8 ∧ s.cal.op = 5 ∧ s.cal.mean = none ∧ (s.optFound m).length < 16) :=
  ⟨⟨onCal (calRun 2 6 0) fun k => { k with todo := [(5, 3, true), (300, 1, false)] }, 0, (5, 3, true), by decide +kernel⟩,
   ⟨onCal (calRun 3 1 0) fun k => { k with fired := true }, 100000000000, by decide +kernel⟩,
   ⟨onCal (calRun 3 2 0) fun k => { k with fired := true }, 100000000000, by decide +kernel⟩,
   ⟨onCal (calRun 2 4 0) fun k => { k with fired := true }, 100000000000, by decide +kernel⟩,
   ⟨onCal (calRun 2 4 0) fun k => { k with fired := true, fireAt := 100 }, 7, by decide +kernel⟩,
   ⟨onCal ((calRun 4 0 3).setF CAL_VREF.VREF [] 1250100) fun k => { k with c1 := 0 }, by decide +kernel⟩,
   ⟨onCal (calRun 4 0 3) fun k => { k with c1 := 0 }, by decide +kernel⟩,
   ⟨onCal (calRun 4 0 3) fun k => { k with busyAdc := [3] }, by decide +kernel⟩,
   ⟨calRun 5 0 0, [], by decide +kernel⟩⟩
theorem witness_calibrationSteps_2 :
    (∃ (s : State) (m : List PortMeas), s.cal.busy = true ∧ s.cal.again = [] ∧ s.cal.step < 8 ∧ s.cal.op = 5 ∧ s.cal.mean = none ∧ (s.optFound m).length < 16)
    ∧ (∃ (s : State), s.cal.busy = true ∧ s.cal.step = 8 ∧ (s.cal.op = 4 ∨ s.cal.op = 5))
    ∧ (∃ (s : State) (m : List PortMeas), s.cal.busy = true ∧ s.cal.again = [] ∧ s.cal.step < 8 ∧ s.cal.op = 5 ∧ s.cal.mean = none ∧ 16 ≤ (s.optFound m).length)
    ∧ (∃ (s : State) (c0 : Nat) (h0 : Nat) (r0 : Nat) (d : Int) (n : Nat), s.cal.busy = true ∧ s.cal.again = [] ∧ s.cal.step < 8 ∧ s.cal.op = 5 ∧ s.cal.mean = some (d, n) ∧ c0 < 144 ∧ h0 < 512 ∧ r0 < 3)
    ∧ (∃ (s : State) (c0 : Nat) (h0 : Nat) (r0 : Nat) (d : Int) (n : Nat), s.cal.busy = true ∧ s.cal.again = [] ∧ s.cal.step < 8 ∧ s.cal.op = 5 ∧ s.cal.mean = some (d, n) ∧ c0 < 144 ∧ h0 < 512 ∧ r0 < 3) :=
  ⟨⟨calRun 5 0 0, [⟨3, 0xFE00⟩], by decide +kernel⟩,
   ⟨calRun 5 0 8, by decide +kernel⟩,
   ⟨onCal ((calRun 5 0 0).setReg .CAL_SCOPE [] 0xF0000) fun k => { k with c1 := 143 }, (List.range 16).map fun i => ⟨Fin.ofNat 512 i, 0xFE00⟩, by decide +kernel⟩,
   ⟨onCal (calRun 5 0 0) fun k => { k with c1 := 0, mean := some (5000, 20) }, 0, 5, 0, 5000, 20, by decide +kernel⟩,
   ⟨onCal (calRun 5 0 0) fun k => { k with c1 := 0, mean := some (5000, 20) }, 0, 64, 2, 5000, 20, by decide +kernel⟩⟩

end Sys2Proof.Tests
end

section
/-! PROOF. What each command may change, and the statements about the machine as a whole (O1, O2, O3). -/
namespace Sys2Proof.Machine

/-! ### Parts as bits of `Keeps` -/

theorem Part.ctorIdx_inj {p q : Part} (h : p.ctorIdx = q.ctorIdx) : p = q := by
  rw [← Part.ofNat_ctorIdx p, h, Part.ofNat_ctorIdx]

/-- The bits of n that belong to no part of the list. -/
def bitsOutside (n : Nat) : List Part → Nat
  | [] => n
  | p :: l => bitsOutside (n ^^^ (n &&& 2 ^ p.ctorIdx)) l

theorem testBit_bitsOutside (n : Nat) (l : List Part) (p : Part) :
    (bitsOutside n l).testBit p.ctorIdx = (n.testBit p.ctorIdx && decide (p ∉ l)) := by
  induction l generalizing n with
  | nil => simp [bitsOutside]
  | cons q l ih =>
    have hq : q.ctorIdx = p.ctorIdx ↔ p = q := ⟨fun h => (Part.ctorIdx_inj h).symm, fun h => h ▸ rfl⟩
    simp only [bitsOutside, ih, Nat.testBit_xor, Nat.testBit_and, Nat.testBit_two_pow, hq, List.mem_cons, not_or]
    by_cases h : p = q <;> simp [h]

theorem Keeps.changesOnly {n : Nat} {l : List Part} {s t : State} (h : Keeps n s t) (hl : bitsOutside n l = 0) :
    changesOnly l s t := by
  refine ⟨h.pending, fun p hp => h.frame p ?_⟩
  have hbit := testBit_bitsOutside n l p
  simpa [hl, hp] using hbit.symm

theorem Keeps.trans {m n : Nat} {s u t : State} (h : Keeps m s u) (k : Keeps n u t) : Keeps (m ||| n) s t :=
  k.step (h.step .refl (by rw [← Nat.or_assoc, Nat.or_self])) (by rw [Nat.or_left_comm, Nat.or_self])

/-- An access of a register with a row of its own keeps what its meaning keeps, whether the register answers or not. -/
theorem hostWr_keeps {m : Nat} {s : State} {r : Reg} {ix : List Nat} {f : State → State} (h : Keeps m s (f s)) :
    Keeps m s (s.hostWr r ix f) := Keeps.ite .refl h

/-- A forwarding command changes what its operation changes, and the command register or the event of a refusal (R289). -/
theorem fwdCommand_keeps {n : Nat} {s : State} {v : Word} {f : State → State} (h : ∀ u, Keeps n u (f u)) :
    Keeps (0x100004 ||| n) s (s.hostWr .SGF_FWD_CMD [] fun s => s.fwdStart v f) :=
  hostWr_keeps (fwdStart_keeps .refl (by rw [← Nat.or_assoc, Nat.or_self]) v
    fun u k => (h u).step k (by rw [Nat.or_left_comm, Nat.or_self]))

/-! ### One row per command -/

/-- Every command answers a next state, and keeps the queue, the canonical form of host memory and every part outside a set of
bits that lies within `partsOf`. -/
theorem exec_keeps (c : Instr) (s : State) :
    ∃ t n, exec c s = .next t ∧ Keeps n s t ∧ bitsOutside n (partsOf c) = 0 :=
  match c with
  | .registerWrite .. => ⟨_, _, rfl, doRegisterWrite_keeps .., rfl⟩
  | .bar0AccessError .. => ⟨_, _, rfl, doBar0Error_keeps .., rfl⟩
  | .powerOnReset => ⟨_, _, rfl, doPowerOnReset_keeps .., rfl⟩
  | .porRelease .. => ⟨_, _, rfl, doPorRelease_keeps .., rfl⟩
  | .mainRailReset .. => ⟨_, _, rfl, doMainRailReset_keeps .., rfl⟩
  | .mainRailResetRelease .. => ⟨_, _, rfl, doMainRailRelease_keeps .., rfl⟩
  | .bootStage .. => ⟨_, _, rfl, doBootStage_keeps .., rfl⟩
  | .supplyFailBleed => ⟨_, _, rfl, doSupplyFailBleed_keeps .., rfl⟩
  | .hvSupplyLoss => ⟨_, _, rfl, doHvSupplyLoss_keeps .., rfl⟩
  | .engageRequest => ⟨_, _, rfl, hostWr_keeps (doEngageRequest_keeps ..), rfl⟩
  | .releaseRequest => ⟨_, _, rfl, hostWr_keeps (doReleaseRequest_keeps ..), rfl⟩
  | .placketEngaged .. => ⟨_, _, rfl, doPlacketEngaged_keeps .., rfl⟩
  | .engageTimeout .. => ⟨_, _, rfl, doEngageTimeout_keeps .., rfl⟩
  | .holdVoltageLow .. => ⟨_, _, rfl, doHoldVoltageLow_keeps .., rfl⟩
  | .placketReleased => ⟨_, _, rfl, doPlacketReleased_keeps .., rfl⟩
  | .cufCtrlWrite .. => ⟨_, _, rfl, hostWr_keeps (doCufCtrlWrite_keeps ..), rfl⟩
  | .toneZeroCrossing .. => ⟨_, _, rfl, doToneZeroCrossing_keeps .., rfl⟩
  | .conversionFrame .. => ⟨_, _, rfl, doConversionFrame_keeps .., rfl⟩
  | .lightClassChange .. => ⟨_, _, rfl, doLightClass_keeps .., rfl⟩
  | .hiRangeReturn .. => ⟨_, _, rfl, doHiRangeReturn_keeps .., rfl⟩
  | .loopUpdate .. => ⟨_, _, rfl, doLoopUpdate_keeps .., rfl⟩
  | .loopLock .. => ⟨_, _, rfl, doLoopLock_keeps .., rfl⟩
  | .loopUnlock .. => ⟨_, _, rfl, doLoopUnlock_keeps .., rfl⟩
  | .integratorSatFault .. => ⟨_, _, rfl, doSatFault_keeps .., rfl⟩
  | .leakFault .. => ⟨_, _, rfl, doLeakFault_keeps .., rfl⟩
  | .acqTimeout .. => ⟨_, _, rfl, doAcqTimeout_keeps .., rfl⟩
  | .learningTick .. => ⟨_, _, rfl, doLearningTick_keeps .., rfl⟩
  | .setptWrite .. => ⟨_, _, rfl, hostWr_keeps (doSetptWrite_keeps ..), rfl⟩
  | .laneRestart .. => ⟨_, _, rfl, hostWr_keeps ((passTo_keeps ..).trans (doLaneCfgWrite_keeps ..)), rfl⟩
  | .restartAll .. => ⟨_, _, rfl, hostWr_keeps ((passTo_keeps ..).trans (doSlvCtrlWrite_keeps ..)), rfl⟩
  | .cuffExchange .. => ⟨_, _, rfl, doCuffExchange_keeps .., rfl⟩
  | .exchangeStale .. => ⟨_, _, rfl, doExchangeStale_keeps .., rfl⟩
  | .refSelectWrite .. => ⟨_, _, rfl, hostWr_keeps (doRefSelect_keeps ..), rfl⟩
  | .refSettleExpiry .. => ⟨_, _, rfl, doRefExpiry_keeps .., rfl⟩
  | .refOutOfWindow .. => ⟨_, _, rfl, doRefOut_keeps .., rfl⟩
  | .accEnable .. => ⟨_, _, rfl, hostWr_keeps (doAccCtrl_keeps ..), rfl⟩
  | .accStop .. => ⟨_, _, rfl, hostWr_keeps (doAccCtrl_keeps ..), rfl⟩
  | .accStopDone .. => ⟨_, _, rfl, doAccStopDone_keeps .., rfl⟩
  | .accTrigger .. => ⟨_, _, rfl, hostWr_keeps (accTrigger_keeps ..), rfl⟩
  | .accWindowEnd .. => ⟨_, _, rfl, doAccWindowEnd_keeps .., rfl⟩
  | .driveUpdate .. => ⟨_, _, rfl, doDriveUpdate_keeps .., rfl⟩
  | .ovcDetect .. => ⟨_, _, rfl, doOvcDetect_keeps .., rfl⟩
  | .lsgHostLoad .. => ⟨_, _, rfl, hostWr_keeps (doLsgLoad_keeps ..), rfl⟩
  | .drvLimWrite .. => ⟨_, _, rfl, hostWr_keeps (doDrvLim_keeps ..), rfl⟩
  | .patternFire .. => ⟨_, _, rfl, doPatternFire_keeps .., rfl⟩
  | .handOver .. => ⟨_, _, rfl, doHandOver_keeps .., rfl⟩
  | .clusterReport .. => ⟨_, _, rfl, doClusterReport_keeps .., rfl⟩
  | .collectorResolve .. => ⟨_, _, rfl, doCollectorResolve_keeps .., rfl⟩
  | .measRecord .. => ⟨_, _, rfl, doMeasRecord_keeps .., rfl⟩
  | .intakeTurn => ⟨_, _, rfl, doIntakeTurn_keeps .., rfl⟩
  | .connect .. => ⟨_, _, rfl, doConnect_keeps .., rfl⟩
  | .release .. => ⟨_, _, rfl, doRelease_keeps .., rfl⟩
  | .move .. => ⟨_, _, rfl, doMove_keeps .., rfl⟩
  | .query => ⟨_, _, rfl, doQuery_keeps .., rfl⟩
  | .fence => ⟨_, _, rfl, doFence_keeps .., rfl⟩
  | .fwLoad => ⟨_, _, rfl, doFwLoad_keeps .., rfl⟩
  | .fwCommit .. => ⟨_, _, rfl, doFwCommit_keeps .., rfl⟩
  | .logRead => ⟨_, _, rfl, doLogRead_keeps .., rfl⟩
  | .placement .. => ⟨_, _, rfl, doPlacement_keeps .., rfl⟩
  | .stagingEnd .. => ⟨_, _, rfl, doStagingEnd_keeps .., rfl⟩
  | .commitPoint .. => ⟨_, _, rfl, doCommitPoint_keeps .., rfl⟩
  | .completionWrite => ⟨_, _, rfl, doCompletionWrite_keeps .., rfl⟩
  | .elementFaultReport .. => ⟨_, _, rfl, doElementFaultReport_keeps .., rfl⟩
  | .repairPatternFire .. => ⟨_, _, rfl, doRepairFire_keeps .., rfl⟩
  | .continuityFault .. => ⟨_, _, rfl, doContinuityFault_keeps .., rfl⟩
  | .bankRestore .. => ⟨_, _, rfl, doBankRestore_keeps .., rfl⟩
  | .eqRefresh .. => ⟨_, _, rfl, doEqRefresh_keeps .., rfl⟩
  | .tagBitPeriod .. => ⟨_, _, rfl, doTagBitPeriod_keeps .., rfl⟩
  | .tagEvaluation .. => ⟨_, _, rfl, doTagEvaluation_keeps .., rfl⟩
  | .tagIdWrite .. => ⟨_, _, rfl, hostWr_keeps (doTagIdWrite_keeps ..), rfl⟩
  | .pthExclWrite .. => ⟨_, _, rfl, hostWr_keeps (doPthExclWrite_keeps ..), rfl⟩
  | .pthExclSetWrite .. => ⟨_, _, rfl, hostWr_keeps (doPthExclSetWrite_keeps ..), rfl⟩
  | .ppsEdge .. => ⟨_, _, rfl, doPpsEdge_keeps .., rfl⟩
  | .ppsWindowClose .. => ⟨_, _, rfl, doPpsWindowClose_keeps .., rfl⟩
  | .networkSecond .. => ⟨_, _, rfl, doNetworkSecond_keeps .., rfl⟩
  | .ref10mWindow .. => ⟨_, _, rfl, doRef10mWindow_keeps .., rfl⟩
  | .ref10mLoss => ⟨_, _, rfl, doRef10mLoss_keeps .., rfl⟩
  | .todMessage .. => ⟨_, _, rfl, doTodMessage_keeps .., rfl⟩
  | .todWindowClose .. => ⟨_, _, rfl, doTodWindowClose_keeps .., rfl⟩
  | .holdoverLimit .. => ⟨_, _, rfl, doHoldoverLimit_keeps .., rfl⟩
  | .clrCtrlWrite .. => ⟨_, _, rfl, hostWr_keeps (doClrCtrlWrite_keeps ..), rfl⟩
  | .timeSetArm .. => ⟨_, _, rfl, hostWr_keeps (doTimeSetArm_keeps ..), rfl⟩
  | .clockSnapshot .. => ⟨_, _, rfl, hostWr_keeps (doClockSnapshot_keeps ..), rfl⟩
  | .ykGridWrite .. => ⟨_, _, rfl, hostWr_keeps (doYkGridWrite_keeps ..), rfl⟩
  | .calendarStartRequest .. => ⟨_, _, rfl, hostWr_keeps (doCalStartReq_keeps ..), rfl⟩
  | .calendarStopRequest .. => ⟨_, _, rfl, hostWr_keeps (doCalStopReq_keeps ..), rfl⟩
  | .calendarStart .. => ⟨_, _, rfl, doCalStart_keeps .., rfl⟩
  | .calendarTurn .. => ⟨_, _, rfl, doCalTurn_keeps .., rfl⟩
  | .calSwitchRequest .. => ⟨_, _, rfl, hostWr_keeps (doCalSwitchReq_keeps ..), rfl⟩
  | .announceRepeat .. => ⟨_, _, rfl, doAnnRepeat_keeps .., rfl⟩
  | .doorbell .. => ⟨_, _, rfl, doDoorbell_keeps .., rfl⟩
  | .ringEnable .. => ⟨_, _, rfl, hostWr_keeps (doRingCtrl_keeps ..), rfl⟩
  | .ringDisable .. => ⟨_, _, rfl, hostWr_keeps (doRingCtrl_keeps ..), rfl⟩
  | .ringStopDone .. => ⟨_, _, rfl, doRingStopDone_keeps .., rfl⟩
  | .eventWrite => ⟨_, _, rfl, doEventWrite_keeps .., rfl⟩
  | .coalesceTimer .. => ⟨_, _, rfl, doCoalesceTimer_keeps .., rfl⟩
  | .sphTxFetch .. => ⟨_, _, rfl, doSphTxFetch_keeps .., rfl⟩
  | .sphTxWriteback => ⟨_, _, rfl, doSphTxWriteback_keeps .., rfl⟩
  | .sphRxWrite .. => ⟨_, _, rfl, doSphRxWrite_keeps .., rfl⟩
  | .dmaReadFail .. => ⟨_, _, rfl, doDmaReadFail_keeps .., rfl⟩
  | .dmaWriteFail .. => ⟨_, _, rfl, doDmaWriteFail_keeps .., rfl⟩
  | .pcieFunctionReset .. => ⟨_, _, rfl, doPcieReset_keeps .., rfl⟩
  | .pcieLinkRetrain .. => ⟨_, _, rfl, doPcieLinkRetrain_keeps .., rfl⟩
  | .captureEnable .. => ⟨_, _, rfl, hostWr_keeps ((passTo_keeps ..).trans (doCapCfg_keeps ..)), rfl⟩
  | .captureDisable .. => ⟨_, _, rfl, hostWr_keeps (doCapCfg_keeps ..), rfl⟩
  | .captureDoorbell .. => ⟨_, _, rfl, doCaptureDoorbell_keeps .., rfl⟩
  | .captureWrite .. => ⟨_, _, rfl, doCaptureWrite_keeps .., rfl⟩
  | .quotaWindowEnd .. => ⟨_, _, rfl, doQuotaWindowEnd_keeps .., rfl⟩
  | .capIndexLatch .. => ⟨_, _, rfl, hostWr_keeps (doCapIndexLatch_keeps ..), rfl⟩
  | .frameIngress .. => ⟨_, _, rfl, doFrameIngress_keeps .., rfl⟩
  | .frameComplete .. => ⟨_, _, rfl, doFrameComplete_keeps .., rfl⟩
  | .crossbarSlot .. => ⟨_, _, rfl, doCrossbarSlot_keeps .., rfl⟩
  | .egressSelect .. => ⟨_, _, rfl, doEgressSelect_keeps .., rfl⟩
  | .transmitEnd .. => ⟨_, _, rfl, doTransmitEnd_keeps .., rfl⟩
  | .portEnable .. => ⟨_, _, rfl, hostWr_keeps (doSpCfg_keeps ..), rfl⟩
  | .portDisable .. => ⟨_, _, rfl, hostWr_keeps (doSpCfg_keeps ..), rfl⟩
  | .portStopDone .. => ⟨_, _, rfl, doPortStopDone_keeps .., rfl⟩
  | .linkUp .. => ⟨_, _, rfl, doLinkUp_keeps .., rfl⟩
  | .linkLoss .. => ⟨_, _, rfl, doLinkLoss_keeps .., rfl⟩
  | .holdoffExpiry .. => ⟨_, _, rfl, doHoldoffExpiry_keeps .., rfl⟩
  | .anTimeout .. => ⟨_, _, rfl, doAnTimeout_keeps .., rfl⟩
  | .fwdInsert .. => ⟨_, _, rfl, fwdCommand_keeps fwdInsert_keeps, rfl⟩
  | .fwdDelete .. => ⟨_, _, rfl, fwdCommand_keeps fwdDelete_keeps, rfl⟩
  | .fwdLookup .. => ⟨_, _, rfl, fwdCommand_keeps fwdLookup_keeps, rfl⟩
  | .fwdRead .. => ⟨_, _, rfl, fwdCommand_keeps fwdRead_keeps, rfl⟩
  | .fwdClear .. => ⟨_, _, rfl, fwdCommand_keeps fwdClear_keeps, rfl⟩
  | .fwdCommandDone => ⟨_, _, rfl, doFwdCommandDone_keeps .., rfl⟩
  | .tokenRefill .. => ⟨_, _, rfl, doTokenRefill_keeps .., rfl⟩
  | .shaperApply .. => ⟨_, _, rfl, hostWr_keeps (doShpCfg_keeps ..), rfl⟩
  | .policerApply .. => ⟨_, _, rfl, hostWr_keeps (doPolCfg_keeps ..), rfl⟩
  | .queueSample .. => ⟨_, _, rfl, doQueueSample_keeps .., rfl⟩
  | .healthUpdate => ⟨_, _, rfl, doHealthUpdate_keeps .., rfl⟩
  | .healthOkAssert => ⟨_, _, rfl, doHealthOk_keeps .., rfl⟩
  | .helloSend .. => ⟨_, _, rfl, doHelloSend_keeps .., rfl⟩
  | .hello .. => ⟨_, _, rfl, mirRecv_keeps .., rfl⟩
  | .txn .. => ⟨_, _, rfl, mirRecv_keeps .., rfl⟩
  | .ack .. => ⟨_, _, rfl, mirRecv_keeps .., rfl⟩
  | .outcome .. => ⟨_, _, rfl, mirRecv_keeps .., rfl⟩
  | .ann .. => ⟨_, _, rfl, mirRecv_keeps .., rfl⟩
  | .ctrl .. => ⟨_, _, rfl, mirRecv_keeps .., rfl⟩
  | .stateMsg .. => ⟨_, _, rfl, mirRecv_keeps .., rfl⟩
  | .retry .. => ⟨_, _, rfl, mirRecv_keeps .., rfl⟩
  | .mirrorLaneChange .. => ⟨_, _, rfl, doMirrorLane_keeps .., rfl⟩
  | .peerLoss => ⟨_, _, rfl, doPeerLoss_keeps .., rfl⟩
  | .mirrorTimeout .. => ⟨_, _, rfl, doMirrorTimeout_keeps .., rfl⟩
  | .activeSelChange .. => ⟨_, _, rfl, doActiveSel_keeps .., rfl⟩
  | .reclaimHold => ⟨_, _, rfl, doReclaimHold_keeps .., rfl⟩
  | .pairResync .. => ⟨_, _, rfl, hostWr_keeps (doPairCtrl_keeps ..), rfl⟩
  | .fabHelloSend .. => ⟨_, _, rfl, doFabHelloSend_keeps .., rfl⟩
  | .fabHello .. => ⟨_, _, rfl, doFabHello_keeps .., rfl⟩
  | .discSend .. => ⟨_, _, rfl, doDiscSend_keeps .., rfl⟩
  | .disc .. => ⟨_, _, rfl, doDisc_keeps .., rfl⟩
  | .lsa .. => ⟨_, _, rfl, doLsa_keeps .., rfl⟩
  | .routeRecompute => ⟨_, _, rfl, doRouteRecompute_keeps .., rfl⟩
  | .neighbourLoss .. => ⟨_, _, rfl, doNeighbourLoss_keeps .., rfl⟩
  | .reserve .. => ⟨_, _, rfl, doReserve_keeps .., rfl⟩
  | .resvReply .. => ⟨_, _, rfl, doResvReply_keeps .., rfl⟩
  | .commit .. => ⟨_, _, rfl, doCommit_keeps .., rfl⟩
  | .fabOutcome .. => ⟨_, _, rfl, doFabOutcome_keeps .., rfl⟩
  | .down .. => ⟨_, _, rfl, doDown_keeps .., rfl⟩
  | .controlRetransmit .. => ⟨_, _, rfl, doControlRetransmit_keeps .., rfl⟩
  | .reservationTimeout .. => ⟨_, _, rfl, doReservationTimeout_keeps .., rfl⟩
  | .linkLossDetect .. => ⟨_, _, rfl, doLinkLossDetect_keeps .., rfl⟩
  | .probeDwell .. => ⟨_, _, rfl, doProbeDwell_keeps .., rfl⟩
  | .faultSourceSet .. => ⟨_, _, rfl, doFaultSourceSet_keeps .., rfl⟩
  | .fltForce .. => ⟨_, _, rfl, hostWr_keeps (doFltForce_keeps ..), rfl⟩
  | .fltStatClear .. => ⟨_, _, rfl, hostWr_keeps (doFltStatClear_keeps ..), rfl⟩
  | .fltConfigWrite .. => ⟨_, _, rfl, hostWr_keeps (doFltConfig_keeps ..), rfl⟩
  | .escalationExpiry .. => ⟨_, _, rfl, doEscalationExpiry_keeps .., rfl⟩
  | .parityError .. => ⟨_, _, rfl, doParityError_keeps .., rfl⟩
  | .safeEntryComplete .. => ⟨_, _, rfl, doSafeEntryComplete_keeps .., rfl⟩
  | .sensorMeasure .. => ⟨_, _, rfl, doSensors_keeps .., rfl⟩
  | .thermalRestart => ⟨_, _, rfl, doThermalRestart_keeps .., rfl⟩
  | .thermalRestartRelease .. => ⟨_, _, rfl, doThermalRelease_keeps .., rfl⟩
  | .tecLoop => ⟨_, _, rfl, doTecLoop_keeps .., rfl⟩
  | .tecBandTimeout => ⟨_, _, rfl, doTecBandTimeout_keeps .., rfl⟩
  | .pwmReload .. => ⟨_, _, rfl, doPwmReload_keeps .., rfl⟩
  | .pwmPulseEnd .. => ⟨_, _, rfl, doPwmPulseEnd_keeps .., rfl⟩
  | .pwmFaultInput .. => ⟨_, _, rfl, doPwmFault_keeps .., rfl⟩
  | .pwmEnable .. => ⟨_, _, rfl, hostWr_keeps (doPwmCtrl_keeps ..), rfl⟩
  | .pwmDisable .. => ⟨_, _, rfl, hostWr_keeps (doPwmCtrl_keeps ..), rfl⟩
  | .pwmUpdate .. => ⟨_, _, rfl, hostWr_keeps (doPwmUpd_keeps ..), rfl⟩
  | .powerTargetWrite .. => ⟨_, _, rfl, hostWr_keeps (doPowerTarget_keeps ..), rfl⟩
  | .powerEntry .. => ⟨_, _, rfl, doPowerEntry_keeps .., rfl⟩
  | .powerChangeDone .. => ⟨_, _, rfl, doPowerDone_keeps .., rfl⟩
  | .autoWake .. => ⟨_, _, rfl, doAutoWake_keeps .., rfl⟩
  | .lockstepHalt => ⟨_, _, rfl, doLockstepHalt_keeps .., rfl⟩
  | .heartbeat => ⟨_, _, rfl, doHeartbeat_keeps .., rfl⟩
  | .heartbeatLate => ⟨_, _, rfl, doHeartbeatLate_keeps .., rfl⟩
  | .interruptEntry => ⟨_, _, rfl, doInterruptEntry_keeps .., rfl⟩
  | .interruptReturn => ⟨_, _, rfl, doInterruptReturn_keeps .., rfl⟩
  | .icGateWrite .. => ⟨_, _, rfl, hostWr_keeps (doIcGate_keeps ..), rfl⟩
  | .praleSleep => ⟨_, _, rfl, doPraleSleep_keeps .., rfl⟩
  | .praleWake .. => ⟨_, _, rfl, doPraleWake_keeps .., rfl⟩
  | .read32 .. => ⟨_, _, rfl, doRead32_keeps .., rfl⟩
  | .write32 .. => ⟨_, _, rfl, doWrite32_keeps .., rfl⟩
  | .alertResponse => ⟨_, _, rfl, doAlertResponse_keeps .., rfl⟩
  | .logAppend => ⟨_, _, rfl, doLogAppend_keeps .., rfl⟩
  | .stageRelease .. => ⟨_, _, rfl, hostWr_keeps (doPrlStage_keeps ..), rfl⟩
  | .stageCommit .. => ⟨_, _, rfl, hostWr_keeps (doPrlStage_keeps ..), rfl⟩
  | .stagingTimeout => ⟨_, _, rfl, doStagingTimeout_keeps .., rfl⟩
  | .slotConfirm => ⟨_, _, rfl, doSlotConfirm_keeps .., rfl⟩
  | .trimCheck .. => ⟨_, _, rfl, hostWr_keeps (doCalCmd_keeps ..), rfl⟩
  | .trim .. => ⟨_, _, rfl, hostWr_keeps (doCalCmd_keeps ..), rfl⟩
  | .probeLearn .. => ⟨_, _, rfl, hostWr_keeps (doCalCmd_keeps ..), rfl⟩
  | .calElec .. => ⟨_, _, rfl, hostWr_keeps (doCalCmd_keeps ..), rfl⟩
  | .calOpt .. => ⟨_, _, rfl, hostWr_keeps (doCalCmd_keeps ..), rfl⟩
  | .restore .. => ⟨_, _, rfl, hostWr_keeps (doCalCmd_keeps ..), rfl⟩
  | .abort .. => ⟨_, _, rfl, hostWr_keeps (doCalCmd_keeps ..), rfl⟩
  | .probeLayerDwell .. => ⟨_, _, rfl, doProbeLayerDwell_keeps .., rfl⟩
  | .trimPulse .. => ⟨_, _, rfl, doTrimPulse_keeps .., rfl⟩
  | .calStepDone .. => ⟨_, _, rfl, doCalStep_keeps .., rfl⟩
  | .calRunDone .. => ⟨_, _, rfl, doCalRunDone_keeps .., rfl⟩
  | .rcRegisterRead .. => ⟨_, _, rfl, doRcRead_keeps .., rfl⟩
  | .ppsLossBeforeSet .. => ⟨_, _, rfl, doPpsLossBeforeSet_keeps .., rfl⟩
  | .hvSupplyReturn => ⟨_, _, rfl, doHvSupplyReturn_keeps .., rfl⟩
  | .smbusTimeout => ⟨_, _, rfl, doSmbusTimeout_keeps .., rfl⟩
  | .perstNDeassertion => ⟨_, _, rfl, doPerstDeassert_keeps .., rfl⟩

/-- Settles O3: what `exec_keeps` lets a command change lies within `partsOf`. -/
theorem frameOfEveryCommand : Obligations.FrameOfEveryCommand := by
  intro c s
  obtain ⟨t, n, ht, hk, hn⟩ := exec_keeps c s
  exact ⟨t, ht, hk.changesOnly hn⟩

/-- Settles O1. -/
theorem stepRunsFront : Obligations.StepRunsFront := by
  intro c s rest h
  simp only [step, h]

/-- Settles O2. -/
theorem resetState : Obligations.ResetState := by
  exact ⟨rfl, rfl, rfl, rfl, rfl, rfl, rfl, rfl, rfl, rfl, rfl, rfl, rfl⟩

end Sys2Proof.Machine
end

section
/-! PROOF. Register accesses: the access codes, the places of the registers, which registers answer, and the statements about them
(O11, O12). -/
namespace Sys2Proof.Machine

/-! ### The access codes, bit by bit (R12) -/

theorem bit_eq_getLsbD (n : Nat) (w : Word) : bit n w = w.getLsbD n := rfl

theorem bit_wd {n : Nat} (h : n < 32) (x : Nat) : bit n (wd x) = x.testBit n := by
  rw [bit_eq_getLsbD, BitVec.getLsbD_ofNat, decide_eq_true h, Bool.true_and]

theorem reg_wrCodes_same (s : State) (r : Reg) (ix : List Nat) (v : Word) :
    (s.wrCodes r ix v).reg r ix
      = ((s.reg r ix &&& ~~~ wd r.row.rw) ||| (v &&& wd r.row.rw)) &&& ~~~ (v &&& wd r.row.w1c) := reg_setReg_same ..

/-- One bit under the access codes: o before, v written, with the masks' bits rw and wc. -/
theorem accessCode_bit (o v rw wc : Bool) :
    ((o && !rw || v && rw) && !(v && wc)) = if wc && v then false else if rw then v else o := by
  revert o v rw wc; decide

theorem bit_reg_wrCodes (s : State) (r : Reg) (ix : List Nat) (v : Word) {n : Nat} (h : n < 32) :
    bit n ((s.wrCodes r ix v).reg r ix) =
      if r.row.w1c.testBit n && bit n v then false else if r.row.rw.testBit n then bit n v else bit n (s.reg r ix) := by
  rw [reg_wrCodes_same, ← bit_wd h r.row.w1c, ← bit_wd h r.row.rw]
  simp only [bit_eq_getLsbD, BitVec.getLsbD_and, BitVec.getLsbD_or, BitVec.getLsbD_not, h, decide_true, Bool.true_and]
  exact accessCode_bit ..

theorem otherRegs_wrCodes (s : State) (r : Reg) (ix : List Nat) (v : Word) : otherRegs [r.at ix] s (s.wrCodes r ix v) :=
  .setReg (List.mem_singleton.2 rfl)

/-- Settles O12. -/
theorem accessCodes : Obligations.AccessCodes := fun s r ix v _ h => ⟨bit_reg_wrCodes s r ix v h, otherRegs_wrCodes s r ix v⟩

/-! ### Where a register lies (R98, R229) -/

theorem dimOff_of_matchDims {dims : List (Nat × Nat)} {off : Nat} {ix : List Nat} (h : matchDims dims off = some ix) :
    dimOff dims ix = off := by
  induction dims generalizing off ix with
  | nil =>
    cases off with
    | zero => rfl
    | succ => cases h
  | cons d t ih =>
    obtain ⟨st, n⟩ := d
    simp only [matchDims, Option.ite_none_right_eq_some, Option.map_eq_some_iff] at h
    obtain ⟨-, jx, hj, rfl⟩ := h
    rw [dimOff, ih hj, Nat.div_add_mod]

/-- The register found at an offset lies there. -/
theorem at_of_locate {a : Nat} {p : Reg × List Nat} (h : locate a = some p) : p.1.at p.2 = a := by
  obtain ⟨r, -, hr⟩ := List.exists_of_findSome?_eq_some h
  simp only [Reg.match?, Option.ite_none_left_eq_some, Option.map_eq_some_iff] at hr
  obtain ⟨hb, ix, hix, rfl⟩ := hr
  rw [Reg.at, dimOff_of_matchDims hix]
  exact Nat.add_sub_cancel' (Nat.le_of_not_lt hb)

/-- Register q takes no offset 0x100_0000 + 0x1_0000 c + o of a cluster c: it lies below the clusters, or is a cluster register
whose inner dimensions do not reach o. -/
def Reg.missesCluster (q : Reg) (o : Nat) : Bool :=
  match q.row.dims with
  | [] => decide (q.row.base < 0x1000000)
  | (st, n) :: t =>
    if st = 0x10000 then decide (q.row.base < 0x1010000) && (matchDims t ((0x1010000 + o - q.row.base) % 0x10000)).isNone
    else decide (0 < st) && decide (q.row.base + n * st ≤ 0x1000000)

theorem match?_of_missesCluster {q : Reg} {o : Nat} (h : q.missesCluster o = true) (c : Nat) :
    q.match? (0x1000000 + 0x10000 * c + o) = none := by
  unfold Reg.missesCluster at h
  unfold Reg.match?
  split
  · rfl
  next hb =>
    rw [Option.map_eq_none_iff]
    split at h
    next hd =>
      have hoff : 0x1000000 + 0x10000 * c + o - q.row.base ≠ 0 := by
        have := of_decide_eq_true h
        omega
      obtain ⟨k, hk⟩ := Nat.exists_eq_succ_of_ne_zero hoff
      rw [hd, hk, matchDims]
      nofun
    next st n t hd =>
      rw [hd, matchDims]
      split at h
      next hst =>
        simp only [Bool.and_eq_true, decide_eq_true_eq, Option.isNone_iff_eq_none] at h
        have hmod : (0x1000000 + 0x10000 * c + o - q.row.base) % st = (0x1010000 + o - q.row.base) % 0x10000 := by
          subst hst
          omega
        rw [hmod, h.2]
        simp
      next =>
        simp only [Bool.and_eq_true, decide_eq_true_eq] at h
        have hout : ¬ (0x1000000 + 0x10000 * c + o - q.row.base) / st < n := by
          rw [Nat.div_lt_iff_lt_mul h.1]
          omega
        rw [if_neg hout]

/-- A register with one word per cluster is found at its place, where the registers looked up before it miss its offset. -/
theorem locate_cluster {r : Reg} {pre post : List Reg} (hl : allRegs = pre ++ r :: post) (hd : r.row.dims = [(0x10000, 144)])
    {o : Nat} (ho : r.row.base = 0x1000000 + o) (hm : ∀ q ∈ pre, q.missesCluster o = true) (c : Fin 144) :
    locate (r.at [c.val]) = some (r, [c.val]) := by
  have hat : r.at [c.val] = 0x1000000 + 0x10000 * c.val + o := by
    simp only [Reg.at, hd, dimOff, ho]
    omega
  have hself : r.match? (r.at [c.val]) = some (r, [c.val]) := by
    simp [Reg.match?, Reg.at, hd, dimOff, matchDims]
  rw [locate, List.findSome?_eq_some_iff]
  exact ⟨pre, r, post, hl, hself, fun q hq => hat ▸ match?_of_missesCluster (hm q hq) c.val⟩

/-! ### Registers that answer (R362, R387, R464) -/

theorem doRegisterWrite_none {a : Nat} (h : locate a = none) (v : Word) (s : State) : doRegisterWrite a v s = s := by
  simp [doRegisterWrite, h]

theorem doRegisterWrite_shut {s : State} {a : Nat} {p : Reg × List Nat} (h : locate a = some p) (hs : s.shut p.1 p.2 = true)
    (v : Word) : doRegisterWrite a v s = s := by
  simp [doRegisterWrite, h, hs]

theorem doRegisterWrite_open {s : State} {a : Nat} {p : Reg × List Nat} (h : locate a = some p) (hs : s.shut p.1 p.2 = false)
    (v : Word) : doRegisterWrite a v s = s.writeReg p.1 p.2 v := by
  simp [doRegisterWrite, h, hs]

theorem doRcRead_open {s : State} {a : Nat} {p : Reg × List Nat} (h : locate a = some p) (hs : s.shut p.1 p.2 = false) :
    doRcRead a s = s.readClear p.1 p.2 := by
  simp [doRcRead, State.readAt, h, hs]

/-- A register is shut in a reset, in a mode it does not belong to, and before READY outside the early offsets. -/
theorem shut_of_closed {s : State} {r : Reg} {ix : List Nat}
    (h : s.inReset = true ∨ s.modeOff r = true ∨ s.ready = false ∧ earlyAt (r.at ix) = false) : s.shut r ix = true := by
  rcases h with h | h | ⟨hr, he⟩ <;> simp [State.shut, *]

/-- Registers outside the PAIR and FAB blocks belong to every mode. -/
theorem modeOff_of_base (s : State) {r : Reg} (h : r.row.base < 0xB0000 ∨ 0xC0000 ≤ r.row.base) : s.modeOff r = false := by
  have hp : ¬ (0xB0000 ≤ r.row.base ∧ r.row.base < 0xB0100) := by omega
  have hf : ¬ (0xB8000 ≤ r.row.base ∧ r.row.base < 0xC0000) := by omega
  unfold State.modeOff
  split <;> simp_all

/-- Nothing of an open module shuts a register that belongs to every mode and is no set-point. -/
theorem not_shut {s : State} {r : Reg} {ix : List Nat} (ho : s.isOpen = true)
    (hb : r.row.base < 0xB0000 ∨ 0xC0000 ≤ r.row.base) (hr : r ≠ .SETPT) : s.shut r ix = false := by
  simp [shut_of_isOpen ho, modeOff_of_base s hb, hr]

/-- A command that is one access of one register is `hostWr` at that register. -/
theorem exec_of_regOf {c : Instr} {p : Reg × List Nat} (h : regOf c = some p) (s : State) :
    ∃ f, exec c s = .next (s.hostWr p.1 p.2 f) := by
  cases c <;> cases h <;> exact ⟨_, rfl⟩

theorem exec_shut {c : Instr} {p : Reg × List Nat} {s : State} (h : regOf c = some p) (hs : s.shut p.1 p.2 = true) :
    exec c s = .next s := by
  obtain ⟨f, hf⟩ := exec_of_regOf h s
  rw [hf, hostWr_of_shut hs]

/-! ### Registers that only store what the codes let through -/

/-- Registers without dimensions whose writes have no other effect than that of the access codes. -/
def codeRegs : List Reg := [.HIF_SCRATCH, .PTH_EVT, .CLR_EVT, .YK_EVT, .PWR_EVT, .THM_EVT, .SGF_EVT, .PLK_EVT]

theorem locate_codeRegs : ∀ r ∈ codeRegs, locate (r.at []) = some (r, []) := by decide +kernel

theorem base_codeRegs : ∀ r ∈ codeRegs, (r.row.base < 0xB0000 ∨ 0xC0000 ≤ r.row.base) ∧ r ≠ .SETPT := by decide

theorem writeReg_codeRegs (s : State) (v : Word) : ∀ r ∈ codeRegs, s.writeReg r [] v = s.wrCodes r [] v := by
  simp only [codeRegs, List.forall_mem_cons]
  exact ⟨rfl, rfl, rfl, rfl, rfl, rfl, rfl, rfl, nofun⟩

theorem doRegisterWrite_codeRegs {s : State} (ho : s.isOpen = true) {r : Reg} (hr : r ∈ codeRegs) (v : Word) :
    doRegisterWrite (r.at []) v s = s.wrCodes r [] v := by
  obtain ⟨hbase, hsp⟩ := base_codeRegs r hr
  rw [doRegisterWrite_open (locate_codeRegs r hr) (not_shut ho hbase hsp), writeReg_codeRegs s v r hr]

/-! ### Counters that a read clears -/

/-- Counters of a cluster that become 0 when read. -/
def clearRegs : List Reg := [.TRN_CNT, .SLV_LRN_CNT, .ACC_OVR]

theorem locate_clearRegs {r : Reg} (hr : r ∈ clearRegs) (c : Fin 144) : locate (r.at [c.val]) = some (r, [c.val]) := by
  have htable : ∀ r ∈ clearRegs, allRegs = allRegs.takeWhile (· ≠ r) ++ r :: (allRegs.dropWhile (· ≠ r)).tail
      ∧ r.row.dims = [(0x10000, 144)] ∧ r.row.base = 0x1000000 + (r.row.base - 0x1000000)
      ∧ ∀ q ∈ allRegs.takeWhile (· ≠ r), q.missesCluster (r.row.base - 0x1000000) = true := by decide +kernel
  obtain ⟨hl, hd, hb, hm⟩ := htable r hr
  exact locate_cluster hl hd hb hm c

theorem base_clearRegs : ∀ r ∈ clearRegs, (r.row.base < 0xB0000 ∨ 0xC0000 ≤ r.row.base) ∧ r ≠ .SETPT := by decide

theorem readReg_open {s : State} {r : Reg} {ix : List Nat} (hr : s.ready = true) (hm : s.modeOff r = false) :
    s.readReg r ix = s.view r ix := by
  simp [State.readReg, hr, hm]

theorem view_clearRegs (s : State) (c : Nat) : ∀ r ∈ clearRegs, s.view r [c] = s.reg r [c] := by
  simp only [clearRegs, List.forall_mem_cons]
  exact ⟨rfl, rfl, rfl, nofun⟩

theorem readClear_clearRegs (s : State) (c : Nat) : ∀ r ∈ clearRegs,
    s.readClear r [c] = State.setReg { s with rdata := s.readReg r [c] } r [c] 0 := by
  have hall : ∀ w : Word, w &&& ~~~ wd 0xFFFFFFFF = 0 := fun _ => BitVec.and_zero
  simp only [clearRegs, List.forall_mem_cons]
  exact ⟨congrArg (State.setReg _ _ _) (hall _), congrArg (State.setReg _ _ _) (hall _),
    congrArg (State.setReg _ _ _) (hall _), nofun⟩

theorem doRcRead_clearRegs {s : State} (ho : s.isOpen = true) {r : Reg} (hr : r ∈ clearRegs) (c : Fin 144) :
    doRcRead (r.at [c.val]) s = State.setReg { s with rdata := s.reg r [c.val] } r [c.val] 0 := by
  obtain ⟨hbase, hsp⟩ := base_clearRegs r hr
  have hready : s.ready = true := (Bool.and_eq_true_iff.1 ho).1
  rw [doRcRead_open (locate_clearRegs hr c) (not_shut ho hbase hsp), readClear_clearRegs s c r hr,
    readReg_open hready (modeOff_of_base s hbase), view_clearRegs s c r hr]

/-! ### Access errors (R228) -/

theorem hifErr_accErr (s : State) : s.hifErr HIF_ERR.ACC_ERR none
    = State.setF (if s.fb HIF_ERR.ACC_ERR [] then s else s.msi (s.f HIF_CTRL.ERR_VEC [])) HIF_ERR.ACC_ERR [] 1 := rfl

/-- An access error changes no part but the registers and, by its message, the host interface (R228, R231, R256). -/
theorem hifErr_accErr_keeps (s : State) : Keeps 0x2004 s (s.hifErr HIF_ERR.ACC_ERR none) := by
  rw [hifErr_accErr]
  exact (setF_keeps ..).step (.ite .refl (msi_keeps ..)) rfl

theorem rdata_hifErr_accErr (s : State) : (s.hifErr HIF_ERR.ACC_ERR none).rdata = s.rdata :=
  (hifErr_accErr_keeps s).frame .rdata rfl

theorem f_hifErr_accErr (s : State) : (s.hifErr HIF_ERR.ACC_ERR none).f HIF_ERR.ACC_ERR [] = 1 := by
  rw [hifErr_accErr, f_setF_same _ _ _ _ (by decide)]
  rfl

theorem doBar0Error_out_of_reset {s : State} (h : s.inReset = false) (w : Bool) :
    doBar0Error w s = State.hifErr (if w then s else { s with rdata := 0xFFFFFFFF }) HIF_ERR.ACC_ERR none :=
  if_neg (ne_true_of_eq_false h)

/-! ### The statement on register accesses -/

theorem wrCodes_changesOnly (s : State) (r : Reg) (ix : List Nat) (v : Word) : changesOnly [.regs] s (s.wrCodes r ix v) :=
  (wrCodes_keeps ..).changesOnly rfl

theorem exec_registerWrite_codeRegs {s : State} (ho : s.isOpen = true) {r : Reg} (hr : r ∈ codeRegs) (v : Word) :
    exec (.registerWrite (r.at []) v) s = .next (s.wrCodes r [] v) :=
  congrArg Host.Outcome.next (doRegisterWrite_codeRegs ho hr v)

theorem reg_wrCodes_scratch (s : State) (v : Word) : (s.wrCodes .HIF_SCRATCH [] v).reg .HIF_SCRATCH [] = v := by
  have hrw : wd Reg.HIF_SCRATCH.row.rw = BitVec.allOnes 32 := rfl
  have hwc : wd Reg.HIF_SCRATCH.row.w1c = 0#32 := rfl
  simp only [reg_wrCodes_same, hrw, hwc, BitVec.not_allOnes, BitVec.and_zero, BitVec.zero_or, BitVec.not_zero, BitVec.and_allOnes]

theorem runs_write_scratch {s : State} (ho : s.isOpen = true) (v : Word) :
    Runs (.registerWrite (Reg.HIF_SCRATCH.at []) v) s fun t =>
      t.reg .HIF_SCRATCH [] = v ∧ changesOnly [.regs] s t ∧ otherRegs [Reg.HIF_SCRATCH.at []] s t :=
  ⟨_, exec_registerWrite_codeRegs ho (.head _) v, reg_wrCodes_scratch s v, wrCodes_changesOnly .., otherRegs_wrCodes s _ [] v⟩

theorem runs_write_event {s : State} (ho : s.isOpen = true) (v : Word) {r : Reg} (hr : r ∈ codeRegs) (hrw : r.row.rw = 0) :
    Runs (.registerWrite (r.at []) v) s fun t =>
      t.reg r [] = s.reg r [] &&& ~~~ (v &&& wd r.row.w1c) ∧ changesOnly [.regs] s t ∧ otherRegs [r.at []] s t := by
  have hreg : (s.wrCodes r [] v).reg r [] = s.reg r [] &&& ~~~ (v &&& wd r.row.w1c) := by
    simp only [reg_wrCodes_same, hrw, BitVec.and_zero, BitVec.or_zero, BitVec.not_zero, BitVec.and_allOnes]
  exact ⟨_, exec_registerWrite_codeRegs ho hr v, hreg, wrCodes_changesOnly .., otherRegs_wrCodes s _ [] v⟩

theorem runs_read_counter {s : State} (ho : s.isOpen = true) {r : Reg} (hr : r ∈ clearRegs) (c : Fin 144) :
    Runs (.rcRegisterRead (r.at [c.val])) s fun t =>
      t.rdata = s.reg r [c.val] ∧ t.reg r [c.val] = 0 ∧ changesOnly [.regs, .rdata] s t ∧ otherRegs [r.at [c.val]] s t := by
  have hk : Keeps 0x400004 s (State.setReg { s with rdata := s.reg r [c.val] } r [c.val] 0) :=
    (setReg_keeps ..).step (Keeps.upd .refl) rfl
  exact ⟨_, congrArg Host.Outcome.next (doRcRead_clearRegs ho hr c), rfl, reg_setReg_same .., hk.changesOnly rfl,
    .trans (.of_regs rfl) (.setReg (List.mem_singleton.2 rfl))⟩

theorem runs_read_scratch {s : State} (ho : s.isOpen = true) :
    Runs (.rcRegisterRead (Reg.HIF_SCRATCH.at [])) s fun t => t = { s with rdata := s.reg .HIF_SCRATCH [] } := by
  obtain ⟨hbase, hsp⟩ := base_codeRegs .HIF_SCRATCH (.head _)
  have hready : s.ready = true := (Bool.and_eq_true_iff.1 ho).1
  have hclear : s.readClear .HIF_SCRATCH [] = { s with rdata := s.readReg .HIF_SCRATCH [] } := rfl
  refine ⟨_, rfl, ?_⟩
  rw [doRcRead_open (locate_codeRegs _ (.head _)) (not_shut ho hbase hsp), hclear,
    readReg_open hready (modeOff_of_base s hbase)]
  rfl

theorem runs_accessError {s : State} (h : s.inReset = false) (w : Bool) :
    Runs (.bar0AccessError w) s fun t => t.f HIF_ERR.ACC_ERR [] = 1 ∧ (w = false → t.rdata = 0xFFFFFFFF)
      ∧ (w = true → t.rdata = s.rdata) ∧ changesOnly [.regs, .hif, .rdata] s t := by
  have hk : Keeps 0x400000 s (if w then s else { s with rdata := 0xFFFFFFFF }) := .ite .refl (Keeps.upd .refl)
  refine ⟨_, congrArg Host.Outcome.next (doBar0Error_out_of_reset h w), f_hifErr_accErr _, ?_, ?_,
    (hk.trans (hifErr_accErr_keeps _)).changesOnly rfl⟩
  · rintro rfl
    exact rdata_hifErr_accErr _
  · rintro rfl
    exact rdata_hifErr_accErr _

/-- Before READY a write outside the early offsets changes nothing, whether a register lies there or not. -/
theorem doRegisterWrite_before_ready {s : State} {a : Nat} (hr : s.ready = false) (ha : earlyAt a = false) (v : Word) :
    doRegisterWrite a v s = s := by
  cases hl : locate a with
  | none => exact doRegisterWrite_none hl v s
  | some p => exact doRegisterWrite_shut hl (shut_of_closed (.inr (.inr ⟨hr, by rwa [at_of_locate hl]⟩))) v

/-- Settles O11, clause by clause. -/
theorem registerAccesses : Obligations.RegisterAccesses := by
  refine ⟨fun s a v h => ⟨⟨_, rfl, doRegisterWrite_none h v s⟩, ⟨_, rfl, ?_⟩⟩, fun s v c w hready hreset => ?_,
    fun s a v => ⟨fun hr ha => ⟨_, rfl, ?_⟩, fun c p hp hc => ⟨s, exec_shut hp (shut_of_closed hc), rfl⟩⟩⟩
  · simp [doRcRead, State.readAt, h]
  · have ho : s.isOpen = true := by simp [State.isOpen, hready, hreset]
    have hevent : ∀ r ∈ [Reg.PTH_EVT, .CLR_EVT, .YK_EVT, .PWR_EVT, .THM_EVT, .SGF_EVT, .PLK_EVT], r.row.rw = 0 := by decide
    exact ⟨runs_write_scratch ho v, fun r hr => runs_write_event ho v (.tail _ hr) (hevent r hr),
      fun r hr => runs_read_counter ho hr c, runs_read_scratch ho, runs_accessError hreset w⟩
  · have hearly : earlyAt a = false := by
      simp only [earlyAt, Bool.or_eq_false_iff, Bool.and_eq_false_iff, decide_eq_false_iff_not]
      omega
    exact doRegisterWrite_before_ready hr hearly v

end Sys2Proof.Machine
end

section
/-! PROOF. What a PCIe reset does to the path service, and the refutation of the statement on the resets (O8). -/
namespace Sys2Proof.Machine

/-! ### The path service over a PCIe reset (R226) -/

/-- The transaction holds a CONNECT, RELEASE or MOVE request (R156). -/
def Txn.asksPath (x : Txn) : Bool := x.reqs.any fun r => decide (1 ≤ r.op) && decide (r.op ≤ 3)

/-- A PCIe reset drops what was delivered and asks for no path: a QUERY, a FENCE or a management descriptor; all else of the
path service is kept. -/
theorem doPcieReset_pth (k : PcieRst) (s : State) :
    (doPcieReset k s).pth = { s.pth with delivered := s.pth.delivered.filter Txn.asksPath } := by
  cases k <;> rfl

theorem doPcieReset_pth_eq_iff (k : PcieRst) (s : State) :
    (doPcieReset k s).pth = s.pth ↔ ∀ x ∈ s.pth.delivered, x.asksPath = true := by
  rw [doPcieReset_pth, ← List.filter_eq_self]
  exact ⟨congrArg Pth.delivered, fun h => by rw [h]⟩

/-- A QUERY of in-port 3, delivered alone from command ring 0 (R157, R239). -/
def queryTxn : Txn :=
  { ring := 0, cring := 0, asap := true, rasap := true, policy := 0, actT := 0, rearrT := 0, maxMoved := 0, movedAddr := 0
    movedCap := 0, buf := 0, len := 0, ofs := 0, switch := false, t := 0
    reqs := [{ op := 4, reqId := 0x11, a := 3, b := 0, layer := 0, sel := false, cmdCI := 1, id := 1, dst := 0 }] }

/-- A ready module in no reset, with a QUERY that the path service has not answered yet. -/
def queryWaits : State :=
  { State.reset with
    sys := { State.reset.sys with por := false, stage := 15, pcie := true, readySince := true }
    pth := { State.reset.pth with delivered := [queryTxn] } }

theorem not_asksPath_queryTxn : queryTxn.asksPath = false := by decide

/-- Refutes O8: the clause that a PCIe reset leaves the whole path service as it is fails where a QUERY is delivered and not yet
answered: a hot reset drops the QUERY, so that `delivered` differs (R226). The paths themselves are kept, by `doPcieReset_pth`. -/
theorem not_resets : ¬ Obligations.Resets := by
  unfold Obligations.Resets
  rintro ⟨-, -, -, hpcie⟩
  obtain ⟨⟨t, ht, -, hpth, -⟩, -⟩ := hpcie queryWaits .hotReset
  have hrun : exec (.pcieFunctionReset .hotReset) queryWaits = .next (doPcieReset .hotReset queryWaits) := rfl
  obtain rfl : doPcieReset .hotReset queryWaits = t := Host.Outcome.next.inj (hrun.symm.trans ht)
  have hasks : queryTxn.asksPath = true := (doPcieReset_pth_eq_iff ..).1 hpth queryTxn (.head _)
  simp [not_asksPath_queryTxn] at hasks

end Sys2Proof.Machine
end

section
/-! PROOF. The rules for fields that the statements of chapter 02 share: a field after the store of another, and the event bits of
blocks that are no interrupt source. -/
namespace Sys2Proof.Machine

/-! ### Fields after a store -/

/-- A field of a register that no write of l reached reads the same. -/
theorem f_of_otherRegs {l : List Nat} {s t : State} (h : otherRegs l s t) (hs : t.sys.stage = s.sys.stage) {x : Fld} {ix : List Nat}
    (hx : x.reg.at ix ∉ l) : t.f x ix = s.f x ix := by
  simp only [State.f, State.reg, hs, h _ hx]

/-- Storing a field leaves the fields of every other register. -/
theorem f_setF_ne (s : State) {x y : Fld} {ix jx : List Nat} (v : Nat) (h : x.reg.at ix ≠ y.reg.at jx) :
    (s.setF x ix v).f y jx = s.f y jx :=
  f_of_otherRegs (.setF (List.mem_singleton.2 rfl)) rfl (by simpa using h.symm)

/-- Storing a field leaves the fields beside it in its register. -/
theorem f_setF_beside (s : State) {x y : Fld} (ix : List Nat) (v : Nat) (hr : y.reg = x.reg) (hx : x.lo + x.len ≤ 32)
    (hd : y.lo + y.len ≤ x.lo ∨ x.lo + x.len ≤ y.lo) : (s.setF x ix v).f y ix = s.f y ix := by
  simp only [State.f, State.setF, hr, reg_setReg_same, fget_fput_ne v _ hx hd]

theorem Keeps.stage {m : Nat} {s t : State} (h : Keeps m s t) (hm : m.testBit 1 = false) : t.sys.stage = s.sys.stage := by
  have hrest : t.sys.rest = s.sys.rest := h.frame .sys hm
  exact show t.sys.rest.stage = s.sys.rest.stage by rw [hrest]

/-- An event bit whose register is no interrupt source is set, and nothing else happens (R12, R437). -/
theorem raise_of_no_source (s : State) {x : Fld} (ix : List Nat) (h : icOf x.reg = none) : s.raise x ix = s.setF x ix 1 := by
  simp only [State.raise, h]

/-- A command that answers t runs with every property of what t equals. -/
theorem Runs.of_eq {c : Instr} {s t u : State} {P : State → Prop} (h : exec c s = .next t) (e : t = u) (hu : P u) : Runs c s P :=
  ⟨u, e ▸ h, hu⟩

end Sys2Proof.Machine
end

section
/-! PROOF. The Placket case by case, and the statements on its requests, events and supplies (O6, O10). -/
namespace Sys2Proof.Machine

/-! ### Storing the Placket -/

/-- Stores the Placket. -/
def State.putPlk (s : State) (p : Plk) : State := { s with plk := p }

@[simp] theorem putPlk_plk (s : State) (p : Plk) : (s.putPlk p).plk = p := rfl
@[simp] theorem putPlk_f (s : State) (p : Plk) (x : Fld) (ix : List Nat) : (s.putPlk p).f x ix = s.f x ix := rfl
theorem putPlk_keeps (s : State) (p : Plk) : Keeps 0x8 s (s.putPlk p) := Keeps.upd .refl
theorem f_putPlk_setF_same (s : State) (p : Plk) (x : Fld) (ix : List Nat) (v : Nat) (h : x.lo + x.len ≤ 32) :
    ((s.setF x ix v).putPlk p).f x ix = v % 2 ^ x.len := f_setF_same s x ix v h
theorem setPlk_eq (s : State) (st : PlkSt) : s.setPlk st = s.putPlk { s.plk with st := st } := rfl
theorem holdV_eq (s : State) (hv : Nat) : s.holdV hv = s.putPlk { s.plk with holdV := hv } := rfl

/-! ### Requests, case by case (R54, R55) -/

/-- An engage request is refused (R54): an inhibit, or no charge pump. -/
def State.engageRefused (s : State) : Prop := s.plkInhibit = true ∨ s.plk.pumpOk = false

/-- The state that a refused engage request leaves (R54). -/
def State.refuseEngage (s : State) : State := (s.setF PLK_CTRL.ENGAGE [] 0).setF PLK_EVT.ENG_REFUSED [] 1

theorem not_engageRefused {s : State} : ¬ s.engageRefused ↔ s.plkInhibit = false ∧ s.plk.pumpOk = true := by
  simp [State.engageRefused]

theorem evalEngage_allowed {s : State} (hi : s.plkInhibit = false) (hp : s.plk.pumpOk = true) :
    s.evalEngage = s.putPlk { s.plk with st := .engaging } := by
  simp [State.evalEngage, hi, hp, setPlk_eq]

theorem evalEngage_refused {s : State} (h : s.engageRefused) : s.evalEngage = s.refuseEngage := by
  have hcond : (s.plkInhibit || !s.plk.pumpOk) = true := by simpa [State.engageRefused] using h
  rw [State.evalEngage, if_pos hcond, raise_of_no_source _ _ rfl, State.refuseEngage]

@[simp] theorem refuseEngage_plk (s : State) : s.refuseEngage.plk = s.plk := rfl
theorem refuseEngage_ENGAGE (s : State) : s.refuseEngage.f PLK_CTRL.ENGAGE [] = 0 := by
  rw [State.refuseEngage, f_setF_ne _ _ (by decide), f_setF_same _ _ _ _ (by decide)]
  rfl
theorem refuseEngage_ENG_REFUSED (s : State) : s.refuseEngage.f PLK_EVT.ENG_REFUSED [] = 1 := f_setF_same _ _ _ _ (by decide)
theorem refuseEngage_keeps (s : State) : Keeps 0x4 s s.refuseEngage := (setF_keeps ..).trans (setF_keeps ..)

theorem evalEngage_keeps_regs_plk (s : State) : Keeps 0xc s s.evalEngage := by
  by_cases h : s.engageRefused
  · rw [evalEngage_refused h]
    exact (refuseEngage_keeps s).step .refl rfl
  · obtain ⟨hi, hp⟩ := not_engageRefused.1 h
    rw [evalEngage_allowed hi hp]
    exact (putPlk_keeps ..).step .refl rfl

theorem engageReq_released {s : State} (h : s.plk.st = .released) : s.engageReq = (s.setF PLK_CTRL.ENGAGE [] 1).evalEngage := by
  simp only [State.engageReq, h]

theorem engageReq_releasing {s : State} (h : s.plk.st = .releasing) :
    s.engageReq = (s.setF PLK_CTRL.ENGAGE [] 1).putPlk { s.plk with engPend := true } := by
  simp only [State.engageReq, h, State.setF_plk, State.putPlk]

theorem engageReq_under_way {s : State} (h : s.plk.st = .engaging ∨ s.plk.st = .engaged) :
    s.engageReq = s.setF PLK_CTRL.ENGAGE [] 1 := by
  rcases h with h | h <;> simp only [State.engageReq, h]

theorem plkRelease_under_way {s : State} (h : s.plk.st = .engaging ∨ s.plk.st = .engaged) :
    s.plkRelease = s.putPlk { s.plk with st := .releasing } := by
  rcases h with h | h <;> simp only [State.plkRelease, h, setPlk_eq]

theorem plkRelease_releasing {s : State} (h : s.plk.st = .releasing) : s.plkRelease = s := by
  simp only [State.plkRelease, h]

theorem doReleaseRequest_eq (s : State) :
    doReleaseRequest s = ((s.setF PLK_CTRL.ENGAGE [] 0).putPlk { s.plk with engPend := false }).plkRelease := rfl

theorem doReleaseRequest_under_way {s : State} (h : s.plk.st = .engaging ∨ s.plk.st = .engaged) :
    doReleaseRequest s = (s.setF PLK_CTRL.ENGAGE [] 0).putPlk { s.plk with st := .releasing, engPend := false } := by
  rw [doReleaseRequest_eq, plkRelease_under_way (by exact h)]
  rfl

/-! ### Events, case by case (R54, R56, R57) -/

/-- The state that a hold voltage too low leaves (R54, R57). -/
def State.pumpLow (s : State) (hv : Nat) : State :=
  ((s.setF PLK_CTRL.ENGAGE [] 0).setF PLK_EVT.PUMP_LOW [] 1).putPlk { s.plk with st := .releasing, holdV := hv }

theorem plkPumpLow_under_way {s : State} (h : s.plk.st = .engaging ∨ s.plk.st = .engaged) :
    s.plkPumpLow = s.pumpLow s.plk.holdV := by
  rw [State.plkPumpLow, raise_of_no_source _ _ rfl, plkRelease_under_way (by exact h)]
  rfl

theorem pumpLow_ENGAGE (s : State) (hv : Nat) : (s.pumpLow hv).f PLK_CTRL.ENGAGE [] = 0 := by
  rw [State.pumpLow, putPlk_f, f_setF_ne _ _ (by decide), f_setF_same _ _ _ _ (by decide)]
  rfl
theorem pumpLow_PUMP_LOW (s : State) (hv : Nat) : (s.pumpLow hv).f PLK_EVT.PUMP_LOW [] = 1 :=
  f_putPlk_setF_same _ _ _ _ _ (by decide)
theorem pumpLow_keeps (s : State) (hv : Nat) : Keeps 0xc s (s.pumpLow hv) :=
  ((setF_keeps ..).trans (setF_keeps ..)).trans (putPlk_keeps ..)

theorem doEngageTimeout_engaging {s : State} (h : s.plk.st = .engaging) (hv : Nat) : doEngageTimeout hv s = s.pumpLow hv := by
  rw [doEngageTimeout, if_pos h, plkPumpLow_under_way (by exact .inl h)]
  rfl

theorem doHoldVoltageLow_engaged {s : State} (h : s.plk.st = .engaged) {hv : Nat} (hlow : hv < 500) :
    doHoldVoltageLow hv s = s.pumpLow hv := by
  rw [doHoldVoltageLow, if_pos ⟨h, hlow⟩, plkPumpLow_under_way (by exact .inr h)]
  rfl

/-- The couplers are clear (R57, R59, R60): ENGAGED, the event and the count of cycles, verification from the start. -/
def State.plkEngaged (s : State) (hv : Nat) : State :=
  (((s.putPlk { s.plk with st := .engaged, holdV := hv }).setF PLK_EVT.ENGAGED_DONE [] 1).bump .PLK_CYCLES [] 1).tagRestart s.clr.now

theorem doPlacketEngaged_engaging {s : State} (h : s.plk.st = .engaging) {hv : Nat} (hhigh : 540 ≤ hv) :
    doPlacketEngaged hv s = s.plkEngaged hv := by
  rw [doPlacketEngaged, if_pos ⟨h, hhigh⟩, raise_of_no_source _ _ rfl]
  rfl

theorem plkEngaged_ENGAGED_DONE (s : State) (hv : Nat) : (s.plkEngaged hv).f PLK_EVT.ENGAGED_DONE [] = 1 := by
  have hcycles : otherRegs [Reg.PLK_CYCLES.at []] ((s.putPlk { s.plk with st := .engaged, holdV := hv }).setF PLK_EVT.ENGAGED_DONE [] 1)
      (s.plkEngaged hv) := .trans (.bump (.head _)) (.of_regs rfl)
  rw [f_of_otherRegs hcycles rfl (by decide), f_setF_same _ _ _ _ (by decide)]
  rfl

theorem plkEngaged_keeps (s : State) (hv : Nat) : Keeps 0x20c s (s.plkEngaged hv) :=
  (((putPlk_keeps ..).trans (setF_keeps ..)).trans (bump_keeps ..)).trans (tagRestart_keeps ..)

/-- The Placket comes home: RELEASED, no request pending, no hold voltage, RELEASED_DONE set (R56). -/
def State.plkAtHome (s : State) : State :=
  (s.putPlk { s.plk with st := .released, engPend := false, holdV := 0 }).setF PLK_EVT.RELEASED_DONE [] 1

theorem plkHome_eq (s : State) : s.plkHome = if s.plk.engPend then s.plkAtHome.evalEngage else s.plkAtHome := by
  rw [State.plkHome, raise_of_no_source _ _ rfl]
  rfl

theorem plkHome_alone {s : State} (h : s.plk.engPend = false) : s.plkHome = s.plkAtHome := by simp [plkHome_eq, h]
theorem plkHome_pending {s : State} (h : s.plk.engPend = true) : s.plkHome = s.plkAtHome.evalEngage := by simp [plkHome_eq, h]

@[simp] theorem plkAtHome_plk (s : State) : s.plkAtHome.plk = { s.plk with st := .released, engPend := false, holdV := 0 } := rfl
theorem plkAtHome_keeps (s : State) : Keeps 0xc s s.plkAtHome := (putPlk_keeps ..).trans (setF_keeps ..)

theorem plkHome_keeps_regs_plk (s : State) : Keeps 0xc s s.plkHome := by
  rw [plkHome_eq]
  exact .ite ((evalEngage_keeps_regs_plk _).step (plkAtHome_keeps s) rfl) (plkAtHome_keeps s)

/-- Without a charge pump the Placket stays home, whether a request was pending or not. -/
theorem plkHome_plk_without_pump {s : State} (h : s.plk.pumpOk = false) : s.plkHome.plk = s.plkAtHome.plk := by
  rw [plkHome_eq, evalEngage_refused (by exact .inr h)]
  split <;> rfl

/-- The supplies fail (R58): the Placket is home without a charge pump, and only it and its registers changed. -/
theorem doSupplyFailBleed_home (s : State) :
    (doSupplyFailBleed s).plk.st = .released ∧ (doSupplyFailBleed s).plk.pumpOk = false ∧ Keeps 0xc s (doSupplyFailBleed s) := by
  have hoff : Keeps 0xc s (s.putPlk { s.plk with pumpOk := false }) := (putPlk_keeps ..).step .refl rfl
  have hhome : ∀ u : State, u.plk.pumpOk = false → Keeps 0xc s u →
      u.plkHome.plk.st = .released ∧ u.plkHome.plk.pumpOk = false ∧ Keeps 0xc s u.plkHome := fun u hu k => by
    rw [plkHome_plk_without_pump hu]
    exact ⟨rfl, hu, (plkHome_keeps_regs_plk u).step k rfl⟩
  have hlow : ∀ h : s.plk.st = .engaging ∨ s.plk.st = .engaged, Keeps 0xc s (s.putPlk { s.plk with pumpOk := false }).plkPumpLow :=
    fun h => by
      rw [plkPumpLow_under_way (by exact h)]
      exact (pumpLow_keeps ..).step hoff rfl
  unfold doSupplyFailBleed
  split
  case h_1 hst => exact ⟨hst, rfl, hoff⟩
  case h_2 hst => exact hhome _ rfl hoff
  case h_3 hne hne' =>
    have hst : s.plk.st = .engaging ∨ s.plk.st = .engaged := by
      cases hs : s.plk.st <;> simp_all
    have hpump : (s.putPlk { s.plk with pumpOk := false }).plkPumpLow.plk.pumpOk = false := by
      rw [plkPumpLow_under_way (by exact hst)]
      rfl
    exact hhome _ hpump (hlow hst)

/-! ### What the commands answer -/

theorem not_shut_PLK_CTRL {s : State} (h : s.isOpen = true) : s.shut .PLK_CTRL [] = false :=
  not_shut h (.inr (by decide)) nofun

theorem exec_engageRequest {s : State} (h : s.isOpen = true) : exec .engageRequest s = .next s.engageReq :=
  congrArg Host.Outcome.next (hostWr_of_not_shut (not_shut_PLK_CTRL h))

theorem exec_releaseRequest {s : State} (h : s.isOpen = true) : exec .releaseRequest s = .next (doReleaseRequest s) :=
  congrArg Host.Outcome.next (hostWr_of_not_shut (not_shut_PLK_CTRL h))

theorem exec_placketReleased {s : State} (h : s.plk.st = .releasing) : exec .placketReleased s = .next s.plkHome :=
  congrArg Host.Outcome.next (if_pos h)

/-- ENG_PEND as PLK_STATUS shows it (R60). -/
theorem view_PLK_STATUS_ENG_PEND (s : State) : fget 4 1 (s.view .PLK_STATUS []) = b2n s.plk.engPend := by
  obtain ⟨st, w, hview⟩ : ∃ st w, s.view .PLK_STATUS [] = fput 0 2 st (fput 4 1 (b2n s.plk.engPend) w) := ⟨_, _, rfl⟩
  rw [hview, fget_fput_ne _ _ (by decide) (by decide), fget_fput_same _ _ _ _ (by decide)]
  cases s.plk.engPend <;> rfl

/-! ### The statements -/

/-- Settles O6, clause by clause: each branch of the Placket is one store of its registers and its state. -/
theorem placket : Obligations.Placket := by
  unfold Obligations.Placket
  refine ⟨fun s ho => ⟨fun hst hi hp => ?allowed, fun hst hno => ?refused, fun hst => ?deferred, fun hst => ?ignored⟩,
    fun s hv => ⟨fun ho hst => ?release, fun hst hhigh => ?engaged, fun hst => ?timeout, fun hst hlow => ?holdLow,
      fun hst hpend => ?home, fun hst hpend hi hp => ?again⟩, fun s => ⟨?bleed, ?loss, ?back⟩⟩
  case allowed =>
    exact .of_eq (exec_engageRequest ho) ((engageReq_released hst).trans (evalEngage_allowed hi hp))
      ⟨rfl, f_putPlk_setF_same _ _ _ _ _ (by decide), ((setF_keeps ..).trans (putPlk_keeps ..)).changesOnly rfl, .setF (.head _)⟩
  case refused =>
    exact .of_eq (exec_engageRequest ho) ((engageReq_released hst).trans (evalEngage_refused hno))
      ⟨rfl, refuseEngage_ENGAGE _, refuseEngage_ENG_REFUSED _, ((setF_keeps ..).trans (refuseEngage_keeps _)).changesOnly rfl,
        .trans (.setF (.head _)) (.trans (.setF (.head _)) (.setF (.tail _ (.head _))))⟩
  case deferred =>
    exact .of_eq (exec_engageRequest ho) (engageReq_releasing hst)
      ⟨rfl, f_putPlk_setF_same _ _ _ _ _ (by decide), ((setF_keeps ..).trans (putPlk_keeps ..)).changesOnly rfl, .setF (.head _)⟩
  case ignored =>
    exact .of_eq (exec_engageRequest ho) (engageReq_under_way hst) ⟨rfl, (setF_keeps ..).changesOnly rfl, .setF (.head _)⟩
  case release =>
    exact .of_eq (exec_releaseRequest ho) (doReleaseRequest_under_way hst)
      ⟨rfl, f_putPlk_setF_same _ _ _ _ _ (by decide), ((setF_keeps ..).trans (putPlk_keeps ..)).changesOnly rfl, .setF (.head _)⟩
  case engaged =>
    exact .of_eq rfl (doPlacketEngaged_engaging hst hhigh) ⟨rfl, rfl, plkEngaged_ENGAGED_DONE .., (plkEngaged_keeps ..).changesOnly rfl⟩
  case timeout =>
    exact .of_eq rfl (doEngageTimeout_engaging hst _)
      ⟨rfl, rfl, pumpLow_ENGAGE .., pumpLow_PUMP_LOW .., (pumpLow_keeps ..).changesOnly rfl⟩
  case holdLow =>
    exact .of_eq rfl (doHoldVoltageLow_engaged hst hlow)
      ⟨rfl, pumpLow_ENGAGE .., pumpLow_PUMP_LOW .., (pumpLow_keeps ..).changesOnly rfl⟩
  case home =>
    exact .of_eq (exec_placketReleased hst) (plkHome_alone hpend)
      ⟨rfl, f_setF_same _ _ _ _ (by decide), (plkAtHome_keeps s).changesOnly rfl⟩
  case again =>
    exact .of_eq (exec_placketReleased hst) ((plkHome_pending hpend).trans (evalEngage_allowed hi hp))
      ⟨rfl, rfl, ((plkAtHome_keeps s).trans (putPlk_keeps ..)).changesOnly rfl⟩
  case bleed =>
    obtain ⟨hst, hpump, hkeeps⟩ := doSupplyFailBleed_home s
    exact ⟨_, rfl, hst, hpump, hkeeps.changesOnly rfl⟩
  case loss => exact ⟨_, rfl, rfl, rfl, (doHvSupplyLoss_keeps s).changesOnly rfl⟩
  case back => exact ⟨_, rfl, rfl, rfl, (doHvSupplyReturn_keeps s).changesOnly rfl⟩

/-- Settles O10: the deferred request waits in ENG_PEND, and the end of the release evaluates it. -/
theorem deferredEngage : Obligations.DeferredEngage := by
  unfold Obligations.DeferredEngage
  refine fun s ho => ⟨fun hst => ?deferred, fun hst hpend => ?evaluated, fun hst _ => ?cancelled, fun hst => ?release⟩
  case deferred =>
    exact .of_eq (exec_engageRequest ho) (engageReq_releasing hst) ⟨hst, view_PLK_STATUS_ENG_PEND _⟩
  case evaluated =>
    by_cases hno : s.engageRefused
    · exact .of_eq (exec_placketReleased hst) ((plkHome_pending hpend).trans (evalEngage_refused hno))
        ⟨rfl, (if_pos hno).symm, fun _ => ⟨refuseEngage_ENGAGE _, refuseEngage_ENG_REFUSED _⟩⟩
    · obtain ⟨hi, hp⟩ := not_engageRefused.1 hno
      exact .of_eq (exec_placketReleased hst) ((plkHome_pending hpend).trans (evalEngage_allowed hi hp))
        ⟨rfl, (if_neg hno).symm, fun h => absurd h hno⟩
  case cancelled =>
    exact .of_eq (exec_releaseRequest ho) (plkRelease_releasing hst) ⟨hst, rfl⟩
  case release =>
    exact .of_eq (exec_releaseRequest ho) (doReleaseRequest_under_way hst) rfl

end Sys2Proof.Machine
end

section
/-! PROOF. A change of one Cuff in both planes, which tones, tag bits and loss targets make (R39, R52, R171, R174). -/
namespace Sys2Proof.Machine

/-- Changes the Cuff of a port in both planes. -/
def State.bothPlanes (s : State) (side p : Nat) (f : Lane → Lane) : State :=
  [0, 1].foldl (fun s pl => s.setLane (cuffOf pl side p) (f (s.lane (cuffOf pl side p)))) s

variable {s : State} {side p : Nat} {f : Lane → Lane}

theorem bothPlanes_keeps : Keeps 0x10 s (s.bothPlanes side p f) := .trans (setLane_keeps ..) (setLane_keeps ..)

theorem lane_bothPlanes {pl : Nat} (h : pl < 2) :
    (s.bothPlanes side p f).lane (cuffOf pl side p) = f (s.lane (cuffOf pl side p)) := by
  have hne : cuffOf 0 side p ≠ cuffOf 1 side p := by simp only [cuffOf]; omega
  simp only [State.bothPlanes, List.foldl]
  obtain rfl | rfl : pl = 0 ∨ pl = 1 := by omega
  · rw [lane_setLane_ne _ _ hne.symm, lane_setLane_same]
  · rw [lane_setLane_same, lane_setLane_ne _ _ hne]

theorem lane_bothPlanes_ne {e : Nat} (h : ∀ pl, pl < 2 → e ≠ cuffOf pl side p) : (s.bothPlanes side p f).lane e = s.lane e := by
  simp only [State.bothPlanes, List.foldl]
  rw [lane_setLane_ne _ _ (h 1 (by decide)).symm, lane_setLane_ne _ _ (h 0 (by decide)).symm]

/-- What the change leaves of every lane, it leaves of all. -/
theorem bothPlanes_same {α : Type} (g : Lane → α) (h : ∀ l, g (f l) = g l) (e : Nat) :
    g ((s.bothPlanes side p f).lane e) = g (s.lane e) := by
  by_cases he : ∃ pl, pl < 2 ∧ e = cuffOf pl side p
  · obtain ⟨pl, hpl, rfl⟩ := he
    rw [lane_bothPlanes hpl, h]
  · rw [lane_bothPlanes_ne fun pl hpl heq => he ⟨pl, hpl, heq⟩]

/-- Cuffs of one side at different ports are different elements, whatever their planes (R47). -/
theorem cuffOf_ne {q : Nat} (hp : p < 512) (hq : q < 512) (h : p ≠ q) (i j : Nat) : cuffOf i side p ≠ cuffOf j side q := by
  simp only [cuffOf]
  omega

end Sys2Proof.Machine
end

section
/-! PROOF. What a change of TAG_DEPTH does to the tag tones, and the statement on CUF_CTRL (O7). -/
namespace Sys2Proof.Machine

/-! ### A new tone of one in-port (R39, R52) -/

/-- The lane with the tone amplitude and shift of free value n. -/
def Lane.withTone (n : Nat) (l : Lane) : Lane := { l with tagAmp := Config.freeAmp n % 256, tagAsh := Config.freeAsh n % 8 }

theorem lane_retone (s : State) (p e : Nat) : (s.retone p).lane e = (s.bothPlanes 0 p (Lane.withTone s.freeN)).lane e := rfl

theorem toned_retone (s : State) (p q : Nat) : (s.retone p).toned q = s.toned q := by
  have hvalid : ∀ e, ((s.retone p).lane e).valid = (s.lane e).valid := fun e => by
    rw [lane_retone]
    exact bothPlanes_same (f := Lane.withTone s.freeN) Lane.valid (fun _ => rfl) e
  have hset : ∀ (l : LaneSet) (amp ash : Nat), (l.retone p amp ash).amp.isSome = l.amp.isSome ∧ (l.retone p amp ash).e = l.e := by
    intro l amp ash
    unfold LaneSet.retone
    split
    case isTrue h => exact ⟨h.1.symm, rfl⟩
    case isFalse => exact ⟨rfl, rfl⟩
  have hstore : ∀ i j : Nat, ((s.retone p).yk.store.any fun x => x.lanes.any fun l => l.amp.isSome && (l.e == i || l.e == j))
      = s.yk.store.any fun x => x.lanes.any fun l => l.amp.isSome && (l.e == i || l.e == j) := by
    intro i j
    have hyk : (s.retone p).yk.store = s.yk.store.map fun x => { x with
      lanes := x.lanes.map fun l => l.retone p (Config.freeAmp s.freeN % 256) (Config.freeAsh s.freeN % 8) } := rfl
    simp only [hyk, List.any_map, Function.comp_def, hset]
  have hsys : (s.retone p).toneless q = s.toneless q := rfl
  simp only [State.toned, hvalid, hstore, hsys]

/-! ### New tones of all in-ports -/

/-- New tones of the in-ports of a list, as far as they have a path. -/
def State.retoneAll (s : State) (l : List Nat) : State := l.foldl (fun s p => if s.toned p then s.retone p else s) s

theorem retoneAll_keeps (s : State) (l : List Nat) : Keeps 0x200110 s (s.retoneAll l) :=
  .foldl .refl fun _ _ k => .ite ((retone_keeps ..).step k rfl) k

/-- From s to t each toned in-port of l took one free value for its two ingress lanes, and no other lane changed. -/
structure Retoned (l : List Nat) (s t : State) : Prop where
  freeN_le : s.freeN ≤ t.freeN
  tone : ∀ p ∈ l, s.toned p = true → ∃ n, s.freeN ≤ n ∧ n < t.freeN
    ∧ ∀ pl, pl < 2 → t.lane (cuffOf pl 0 p) = (s.lane (cuffOf pl 0 p)).withTone n
  other : ∀ e, (∀ p ∈ l, ∀ pl, s.toned p = true → e ≠ cuffOf pl 0 p) → t.lane e = s.lane e

theorem retoneAll_retoned {l : List Nat} (hl : ∀ p ∈ l, p < 512) (hnd : l.Nodup) (s : State) : Retoned l s (s.retoneAll l) := by
  induction l generalizing s with
  | nil => exact ⟨Nat.le_refl _, nofun, fun _ _ => rfl⟩
  | cons p l ih =>
    obtain ⟨hp, hl⟩ := List.forall_mem_cons.1 hl
    obtain ⟨hnot, hnd⟩ := List.nodup_cons.1 hnd
    by_cases ht : s.toned p = true
    · have hstep : s.retoneAll (p :: l) = (s.retone p).retoneAll l := by simp only [State.retoneAll, List.foldl, if_pos ht]
      obtain ⟨hle, htone, hother⟩ := ih hl hnd (s.retone p)
      simp only [toned_retone] at htone hother
      have hfree : (s.retone p).freeN = s.freeN + 1 := rfl
      rw [hfree] at hle htone
      rw [hstep]
      refine ⟨by omega, List.forall_mem_cons.2 ⟨fun _ => ⟨s.freeN, Nat.le_refl _, hle, fun pl hpl => ?_⟩, fun q hq hqt => ?_⟩,
        fun e he => ?_⟩
      · rw [hother _ fun q hq j _ => cuffOf_ne hp (hl q hq) (fun h => hnot (h ▸ hq)) pl j, lane_retone, lane_bothPlanes hpl]
      · obtain ⟨n, hn, hlt, hlane⟩ := htone q hq hqt
        refine ⟨n, by omega, hlt, fun pl hpl => ?_⟩
        rw [hlane pl hpl, lane_retone,
          lane_bothPlanes_ne fun j _ => cuffOf_ne (hl q hq) hp (fun h => hnot (h ▸ hq)) pl j]
      · rw [hother e fun q hq j hqt => he q (.tail _ hq) j hqt, lane_retone,
          lane_bothPlanes_ne fun j _ => he p (.head _) j ht]
    · have hstep : s.retoneAll (p :: l) = s.retoneAll l := by simp only [State.retoneAll, List.foldl, if_neg ht]
      obtain ⟨hle, htone, hother⟩ := ih hl hnd s
      rw [hstep]
      exact ⟨hle, List.forall_mem_cons.2 ⟨fun h => absurd h ht, htone⟩, fun e he => hother e fun q hq => he q (.tail _ hq)⟩

/-! ### The write of CUF_CTRL (R51) -/

/-- TAG_DEPTH as a write of CUF_CTRL stores it. -/
def depthOf (v : Word) : Nat := clampN 4 20 (fget 0 5 v)

/-- The registers of the Cuff globals after a write of CUF_CTRL. -/
def State.cufCtrlRegs (s : State) (v : Word) : State :=
  let s1 := (s.setF CUF_CTRL.IDLE_BLOCK [] (fget 8 1 v)).setF CUF_CTRL.TAG_DEPTH [] (depthOf v)
  if fget 0 5 v = depthOf v then s1 else s1.setF CUF_STATUS.DEPTH_CLAMP [] 1

theorem doCufCtrlWrite_eq (v : Word) (s : State) : doCufCtrlWrite v s
    = if depthOf v = s.f CUF_CTRL.TAG_DEPTH [] then s.cufCtrlRegs v else (s.cufCtrlRegs v).retoneAll (List.range 512) := by
  rw [State.cufCtrlRegs, ← raise_of_no_source _ _ (show icOf CUF_STATUS.DEPTH_CLAMP.reg = none from rfl)]
  rfl

theorem depthOf_lt (v : Word) : depthOf v < 2 ^ 5 := by
  unfold depthOf clampN
  split_ifs <;> omega

theorem cufCtrlRegs_keeps (s : State) (v : Word) : Keeps 0x4 s (s.cufCtrlRegs v) := by
  have h1 : Keeps 0x4 s ((s.setF CUF_CTRL.IDLE_BLOCK [] (fget 8 1 v)).setF CUF_CTRL.TAG_DEPTH [] (depthOf v)) :=
    (setF_keeps ..).trans (setF_keeps ..)
  exact .ite h1 ((setF_keeps ..).step h1 rfl)

/-- CUF_CTRL itself holds what the first two stores left. -/
theorem cufCtrlRegs_CUF_CTRL (s : State) (v : Word) {x : Fld} (hx : x.reg = .CUF_CTRL) : (s.cufCtrlRegs v).f x []
    = ((s.setF CUF_CTRL.IDLE_BLOCK [] (fget 8 1 v)).setF CUF_CTRL.TAG_DEPTH [] (depthOf v)).f x [] := by
  unfold State.cufCtrlRegs
  split
  · rfl
  · exact f_setF_ne _ _ (by rw [hx]; decide)

theorem cufCtrlRegs_TAG_DEPTH (s : State) (v : Word) : (s.cufCtrlRegs v).f CUF_CTRL.TAG_DEPTH [] = depthOf v := by
  rw [cufCtrlRegs_CUF_CTRL s v rfl, f_setF_same _ _ _ _ (by decide)]
  exact Nat.mod_eq_of_lt (depthOf_lt v)

theorem cufCtrlRegs_IDLE_BLOCK (s : State) (v : Word) : (s.cufCtrlRegs v).f CUF_CTRL.IDLE_BLOCK [] = fget 8 1 v := by
  rw [cufCtrlRegs_CUF_CTRL s v rfl, f_setF_beside (x := CUF_CTRL.TAG_DEPTH) (y := CUF_CTRL.IDLE_BLOCK) _ _ _ rfl (by decide) (by decide),
    f_setF_same _ _ _ _ (by decide)]
  exact Nat.mod_eq_of_lt (fget_lt 8 1 v)

theorem cufCtrlRegs_DEPTH_CLAMP (s : State) {v : Word} (h : fget 0 5 v ≠ depthOf v) :
    (s.cufCtrlRegs v).f CUF_STATUS.DEPTH_CLAMP [] = 1 := by
  rw [State.cufCtrlRegs, if_neg h]
  exact f_setF_same _ _ _ _ (by decide)

/-- The new tones leave every register. -/
theorem doCufCtrlWrite_f (v : Word) (s : State) (x : Fld) : (doCufCtrlWrite v s).f x [] = (s.cufCtrlRegs v).f x [] := by
  rw [doCufCtrlWrite_eq]
  split
  · rfl
  · have hk := retoneAll_keeps (s.cufCtrlRegs v) (List.range 512)
    exact f_of_otherRegs (.of_regs (l := []) (hk.frame .regs rfl)) (hk.stage rfl) nofun

theorem toned_cufCtrlRegs (s : State) (v : Word) (p : Nat) : (s.cufCtrlRegs v).toned p = s.toned p := by
  unfold State.cufCtrlRegs
  split <;> rfl

theorem lane_cufCtrlRegs (s : State) (v : Word) (e : Nat) : (s.cufCtrlRegs v).lane e = s.lane e := by
  unfold State.cufCtrlRegs
  split <;> rfl

theorem exec_cufCtrlWrite {s : State} (h : s.isOpen = true) (v : Word) : exec (.cufCtrlWrite v) s = .next (doCufCtrlWrite v s) :=
  congrArg Host.Outcome.next (hostWr_of_not_shut (not_shut h (.inr (by decide)) nofun))

/-- Settles O7: the registers are stored first; a new depth then gives each toned in-port its free value. -/
theorem cufCtrlWrite : Obligations.CufCtrlWrite := by
  unfold Obligations.CufCtrlWrite
  intro s v ho
  have hdepth : (doCufCtrlWrite v s).f CUF_CTRL.TAG_DEPTH [] = depthOf v :=
    (doCufCtrlWrite_f ..).trans (cufCtrlRegs_TAG_DEPTH s v)
  have hregs := cufCtrlRegs_keeps s v
  have hkeeps : Keeps 0x200114 s (doCufCtrlWrite v s) := by
    rw [doCufCtrlWrite_eq]
    exact .ite (hregs.step .refl rfl) ((retoneAll_keeps ..).step (hregs.step .refl rfl) rfl)
  have hsame : depthOf v = s.f CUF_CTRL.TAG_DEPTH [] → doCufCtrlWrite v s = s.cufCtrlRegs v := fun h => by
    rw [doCufCtrlWrite_eq, if_pos h]
  have hnew : depthOf v ≠ s.f CUF_CTRL.TAG_DEPTH [] → Retoned (List.range 512) (s.cufCtrlRegs v) (doCufCtrlWrite v s) := fun h => by
    rw [doCufCtrlWrite_eq, if_neg h]
    exact retoneAll_retoned (fun _ => List.mem_range.1) List.nodup_range _
  refine ⟨_, exec_cufCtrlWrite ho v, hdepth, (doCufCtrlWrite_f ..).trans (cufCtrlRegs_IDLE_BLOCK s v), fun hout => ?clamped,
    fun h => ?kept, fun h p hp ht => ?tone, fun e he => ?others, hkeeps.changesOnly rfl⟩
  case clamped =>
    refine (doCufCtrlWrite_f ..).trans (cufCtrlRegs_DEPTH_CLAMP s ?_)
    unfold depthOf clampN
    split_ifs <;> omega
  case kept =>
    rw [hsame (hdepth.symm.trans h)]
    exact ⟨hregs.frame .lanes rfl, hregs.frame .yk rfl⟩
  case tone =>
    have hfree : (s.cufCtrlRegs v).freeN = s.freeN := hregs.frame .freeN rfl
    obtain ⟨n, hle, hlt, hlane⟩ := (hnew (hdepth ▸ h)).tone p (List.mem_range.2 hp) ((toned_cufCtrlRegs s v p).trans ht)
    refine ⟨n, hfree ▸ hle, hlt, fun pl hpl => ?_⟩
    rw [hlane pl hpl, lane_cufCtrlRegs]
    rfl
  case others =>
    by_cases h : depthOf v = s.f CUF_CTRL.TAG_DEPTH []
    · rw [hsame h, lane_cufCtrlRegs]
    · rw [(hnew h).other e, lane_cufCtrlRegs]
      exact fun p hp pl ht => he p pl (List.mem_range.1 hp) ((toned_cufCtrlRegs s v p).symm.trans ht)

end Sys2Proof.Machine
end

section
/-! PROOF. The refresh of loss targets and the bits of the tags (O37, R171, R174). -/
namespace Sys2Proof.Machine

/-! ### Network time runs on before a command acts -/

/-- What does not read network time is the same once it ran on. -/
theorem passTo_congr {α : Type} (s : State) (t : Nat) (g : State → α) (h : ∀ c, g { s with clr := c } = g s) :
    g (s.passTo t) = g s := by
  unfold State.passTo
  split
  · exact h _
  · rfl

section
variable (s : State) (t : Nat)

@[simp] theorem passTo_runLayer : (s.passTo t).runLayer = s.runLayer := passTo_congr s t (·.runLayer) fun _ => rfl
@[simp] theorem passTo_pathRec (key : Nat) : (s.passTo t).pathRec key = s.pathRec key :=
  passTo_congr s t (·.pathRec key) fun _ => rfl
@[simp] theorem passTo_inOf (ly b : Nat) : (s.passTo t).inOf ly b = s.inOf ly b := passTo_congr s t (·.inOf ly b) fun _ => rfl
@[simp] theorem passTo_inFabric : (s.passTo t).inFabric = s.inFabric := passTo_congr s t (·.inFabric) fun _ => rfl
@[simp] theorem passTo_liveRec (key : Nat) : (s.passTo t).liveRec key = s.liveRec key :=
  passTo_congr s t (·.liveRec key) fun _ => rfl
@[simp] theorem passTo_tagHeld (a b : Nat) (held : Bool) : (s.passTo t).tagHeld a b held = s.tagHeld a b held :=
  passTo_congr s t (·.tagHeld a b held) fun _ => rfl
@[simp] theorem passTo_tonePresent (x : TagBin) : (s.passTo t).tonePresent x = s.tonePresent x :=
  passTo_congr s t (·.tonePresent x) fun _ => rfl
@[simp] theorem passTo_tagIdReg : (s.passTo t).tagIdReg = s.tagIdReg := passTo_congr s t (·.tagIdReg) fun _ => rfl
end

/-! ### The refresh of a loss target (R171) -/

/-- The target that a refresh computes, and whether it was raised to its floor. -/
def State.eqTarget (s : State) (a b : Nat) : Nat × Bool :=
  s.lossTarget a b (Config.freeLoss s.freeN) (Config.freeLoss (s.freeN + 1)) (some (s.lane (cuffOf 0 1 b)).tgt)

@[simp] theorem passTo_eqTarget (s : State) (t a b : Nat) : (s.passTo t).eqTarget a b = s.eqTarget a b :=
  passTo_congr s t (·.eqTarget a b) fun _ => rfl

/-- A target differs from the one in force by more than the deadband. -/
abbrev State.eqMoves (s : State) (b tg : Nat) : Prop :=
  64 * s.f PTH_EQ.EQ_DEADBAND [] < 5 * ((tg : Int) - (s.lane (cuffOf 0 1 b)).tgt).natAbs

/-- The lane with a loss target. -/
def Lane.withTgt (tg : Nat) (l : Lane) : Lane := { l with tgt := tg }

/-- Two free values are taken. -/
def State.takeTwo (s : State) : State := { s with freeN := s.freeN + 2 }

/-- A target is stored in both egress lanes, and whether it was raised in the record of its path. -/
def State.storeTgt (s : State) (key b : Nat) (tg : Nat × Bool) : State :=
  let s1 := (s.bothPlanes 1 b (Lane.withTgt tg.1)).setRec key { s.pathRec key with eqR := tg.2 }
  if tg.2 then s1.raise PTH_EVT.EQ_RAISED [] else s1

theorem storeTgt_keeps (s : State) (key b : Nat) (tg : Nat × Bool) :
    Keeps 0x100204 (s.bothPlanes 1 b (Lane.withTgt tg.1)) (s.storeTgt key b tg) := by
  have hrec : Keeps 0x100204 (s.bothPlanes 1 b (Lane.withTgt tg.1))
      ((s.bothPlanes 1 b (Lane.withTgt tg.1)).setRec key { s.pathRec key with eqR := tg.2 }) := (setRec_keeps ..).step .refl rfl
  exact .ite ((raise_keeps ..).step hrec rfl) hrec

/-- A refresh of an ACTIVE path takes two free values, and stores the target where it moves. -/
theorem doEqRefresh_active {s u : State} {a b : Nat} (t : Nat) (hu : s.passTo t = u) (hin : u.inOf u.runLayer b = some a)
    (hact : (u.pathRec (512 * u.runLayer + a)).st = .active) :
    doEqRefresh b t s = if u.takeTwo.eqMoves b (u.eqTarget a b).1
      then u.takeTwo.storeTgt (512 * u.runLayer + a) b (u.eqTarget a b) else u.takeTwo := by
  unfold doEqRefresh
  rw [hu]
  simp only [hin]
  rw [if_neg (not_not.2 hact)]
  rfl

/-- After the refresh of an ACTIVE path both egress lanes have the new target where it moves; no other lane changes, and two free
values are taken. -/
theorem doEqRefresh_targets {s : State} {a b : Nat} (t : Nat) (hin : s.inOf s.runLayer b = some a)
    (hact : (s.pathRec (512 * s.runLayer + a)).st = .active) :
    (doEqRefresh b t s).freeN = s.freeN + 2
    ∧ (∀ pl, pl < 2 → ((doEqRefresh b t s).lane (cuffOf pl 1 b)).tgt
        = if s.eqMoves b (s.eqTarget a b).1 then (s.eqTarget a b).1 else (s.lane (cuffOf pl 1 b)).tgt)
    ∧ ∀ e, (∀ pl, pl < 2 → e ≠ cuffOf pl 1 b) → (doEqRefresh b t s).lane e = s.lane e := by
  have hmoves : (s.passTo t).takeTwo.eqMoves b (s.eqTarget a b).1 = s.eqMoves b (s.eqTarget a b).1 :=
    passTo_congr s t (·.takeTwo.eqMoves b (s.eqTarget a b).1) fun _ => rfl
  have hrefresh := doEqRefresh_active (b := b) (a := a) t rfl (by simpa using hin) (by simpa using hact)
  simp only [passTo_eqTarget, hmoves] at hrefresh
  have hlane : ∀ e, (s.passTo t).takeTwo.lane e = s.lane e := passTo_lane s t
  have hfree : (s.passTo t).takeTwo.freeN = s.freeN + 2 := congrArg (· + 2) (passTo_freeN s t)
  by_cases h : s.eqMoves b (s.eqTarget a b).1
  · rw [hrefresh, if_pos h]
    have hk := storeTgt_keeps (s.passTo t).takeTwo (512 * (s.passTo t).runLayer + a) b (s.eqTarget a b)
    have hlanes : ∀ e, ((s.passTo t).takeTwo.storeTgt (512 * (s.passTo t).runLayer + a) b (s.eqTarget a b)).lane e
        = ((s.passTo t).takeTwo.bothPlanes 1 b (Lane.withTgt (s.eqTarget a b).1)).lane e :=
      fun e => congrArg (sget Lane.reset · e) (hk.frame .lanes rfl)
    refine ⟨(hk.frame .freeN rfl).trans ((bothPlanes_keeps.frame .freeN rfl).trans hfree), fun pl hpl => ?_, fun e he => ?_⟩
    · rw [hlanes, lane_bothPlanes hpl, if_pos h]
      rfl
    · rw [hlanes, lane_bothPlanes_ne he, hlane]
  · rw [hrefresh, if_neg h]
    exact ⟨hfree, fun pl _ => by rw [hlane, if_neg h], fun e _ => hlane e⟩

/-! ### The bits of the tags (R174) -/

/-- The lane commanded to invert its phase. -/
def Lane.inverted (l : Lane) : Lane := { l with invP := true }

/-- At bit i the ingress Cuffs of in-port p are commanded to invert (R39, R174). -/
def State.tagInverts (s : State) (i p : Nat) : Bool :=
  !s.toneless p && frameBit (s.ownWord p) i && decide ((s.lane (cuffOf 0 0 p)).st = .atten ∨ (s.lane (cuffOf 1 0 p)).st = .atten)

/-- Bit i of the in-ports of a list. -/
def State.tagBits (s : State) (i : Nat) (l : List Nat) : State :=
  l.foldl (fun s p => if s.tagInverts i p then s.bothPlanes 0 p Lane.inverted else s) s

theorem tagBits_keeps (s : State) (i : Nat) (l : List Nat) : Keeps 0x10 s (s.tagBits i l) :=
  .foldl .refl fun _ _ k => .ite (bothPlanes_keeps.step k rfl) k

theorem tagInverts_bothPlanes (s : State) (i p q : Nat) :
    (s.bothPlanes 0 p Lane.inverted).tagInverts i q = s.tagInverts i q := by
  have hst : ∀ e, ((s.bothPlanes 0 p Lane.inverted).lane e).st = (s.lane e).st :=
    bothPlanes_same (f := Lane.inverted) Lane.st fun _ => rfl
  simp only [State.tagInverts, hst]
  rfl

theorem invP_tagBits {l : List Nat} (hl : ∀ p ∈ l, p < 512) (s : State) (i : Nat) {p pl : Nat} (hp : p < 512) (hpl : pl < 2) :
    ((s.tagBits i l).lane (cuffOf pl 0 p)).invP = ((s.lane (cuffOf pl 0 p)).invP || (decide (p ∈ l) && s.tagInverts i p)) := by
  induction l generalizing s with
  | nil => simp [State.tagBits]
  | cons q l ih =>
    obtain ⟨hq, hl⟩ := List.forall_mem_cons.1 hl
    by_cases hi : s.tagInverts i q = true
    · have hstep : s.tagBits i (q :: l) = (s.bothPlanes 0 q Lane.inverted).tagBits i l := by
        simp only [State.tagBits, List.foldl, if_pos hi]
      rw [hstep, ih hl, tagInverts_bothPlanes]
      by_cases hpq : p = q
      · subst hpq
        rw [lane_bothPlanes hpl]
        simp [Lane.inverted, hi]
      · rw [lane_bothPlanes_ne fun j _ => cuffOf_ne hp hq hpq pl j]
        simp [hpq]
    · have hstep : s.tagBits i (q :: l) = s.tagBits i l := by simp only [State.tagBits, List.foldl, if_neg hi]
      rw [hstep, ih hl]
      by_cases hpq : p = q
      · subst hpq
        simp [hi]
      · simp [hpq]

/-- At the start of a bit period with no new identity, the in-ports of all numbers take their bits. -/
theorem doTagBitPeriod_eq {s : State} {t : Nat} (ht : t % bitNs = 0) (hid : s.tagIdReg = s.pth.tagId ∨ t % frameNs / bitNs ≠ 0) :
    doTagBitPeriod t s = (s.passTo t).tagBits (t % frameNs / bitNs) (List.range 512) := by
  have hno : ¬ (t % frameNs / bitNs = 0 ∧ (s.passTo t).tagIdReg ≠ (s.passTo t).pth.tagId) := by
    rw [passTo_tagIdReg, passTo_pth]
    exact fun h => hid.elim h.2 (absurd h.1)
  simp only [doTagBitPeriod, ht, ne_eq, not_true_eq_false, if_false, State.tagBits]
  rw [if_neg hno]
  congr 1
  funext u p
  have hcond : u.tagInverts (t % frameNs / bitNs) p = (!(u.toneless p || !frameBit (u.ownWord p) (t % frameNs / bitNs))
      && decide ((u.lane (cuffOf 0 0 p)).st = .atten ∨ (u.lane (cuffOf 1 0 p)).st = .atten)) := by simp [State.tagInverts]
  rw [hcond]
  cases u.toneless p || !frameBit (u.ownWord p) (t % frameNs / bitNs) with
  | true => rfl
  | false =>
    simp only [Bool.not_false, Bool.true_and, decide_eq_true_eq]
    rfl

end Sys2Proof.Machine
end

section
/-! PROOF. The evaluation of the tags (O37, R175, R176). -/
namespace Sys2Proof.Machine

/-! ### The turns of an evaluation -/

/-- The turn of one in-port at an evaluation. -/
def State.tagTurn (t : Nat) (bins : List TagBin) (ly : Nat) (s : State) (a : Nat) : State :=
  let r := s.liveRec (512 * ly + a)
  if r.st = .pending then s
  else if r.st = .idle then (if s.offTurn a then s.tagPort t a 0 true (some ly) bins else s)
  else s.tagPort t a r.out (decide (r.st = .repairing) || !s.standing a r.out) (some ly) bins

/-- The turns of the probe segments at an evaluation (R375). -/
def State.tagProbes (t : Nat) (bins : List TagBin) (s : State) : State :=
  s.fab.probes.foldl (fun s x => if (s.pathRec x.1).st = .idle then s.tagPort t x.1 x.2 false none bins else s) s

theorem doTagEvaluation_eq {s u : State} {t : Nat} (hu : s.passTo t = u) (ht : t % 1000000 = 0) (bins : List TagBin) :
    doTagEvaluation t bins s
      = State.schedEvent s (((List.range 512).foldl (State.tagTurn t bins u.runLayer) u).tagProbes t bins).fabAfter := by
  delta doTagEvaluation State.tagProbes State.tagTurn
  rw [hu, if_neg (not_not.2 ht)]

theorem offTurn_static {s : State} (h : s.yk.mode < 2) (a : Nat) : s.offTurn a = false := by
  simp only [State.offTurn, Bool.and_eq_false_iff, decide_eq_false_iff_not]
  omega

theorem standing_static {s : State} (h : s.yk.mode < 2) (a b : Nat) : s.standing a b = true := by
  simp [State.standing, h]

/-- In STATIC mode an in-port without a path has no turn. -/
theorem tagTurn_idle {s : State} {ly a : Nat} (t : Nat) (bins : List TagBin) (hy : s.yk.mode < 2)
    (h : (s.liveRec (512 * ly + a)).st = .idle) : s.tagTurn t bins ly a = s := by
  simp [State.tagTurn, h, offTurn_static hy]

/-- In STATIC mode an ACTIVE path is evaluated and not held. -/
theorem tagTurn_active {s : State} {ly a : Nat} (t : Nat) (bins : List TagBin) (hy : s.yk.mode < 2)
    (h : (s.liveRec (512 * ly + a)).st = .active) :
    s.tagTurn t bins ly a = s.tagPort t a (s.liveRec (512 * ly + a)).out false (some ly) bins := by
  simp [State.tagTurn, h, standing_static hy]

/-- A path in SEARCH for 9 ms finds its tone or misses it; at no frame's end, that is all the evaluation decides. -/
theorem tagStep_search {s : State} {t : Nat} {v : TagV} (want : Nat) (x : TagBin) (h1 : v.status = 1) (h9 : v.since + 9000000 ≤ t)
    (hf : t % frameNs ≠ 1000000) : (s.tagStep want t x v).status = if s.tonePresent x then 2 else 5 := by
  simp only [State.tagStep, h1, if_true, if_pos h9, if_neg hf]

/-- In STATIC mode and outside FABRIC, in-port a has the only path: it is ACTIVE, its verifier runs and ends SEARCH at this
evaluation, which ends no frame, with the bin x (R175, R176). -/
structure State.EndsSearch (s : State) (t a : Nat) (bins : List TagBin) (x : TagBin) : Prop where
  frame : t % frameNs ≠ 1000000
  fabric : s.inFabric = false
  static : s.yk.mode < 2
  idle : ∀ k, k < 512 → k ≠ a → (s.liveRec k).st = .idle
  active : (s.liveRec a).st = .active
  enabled : s.fb PTH_CTRL.VERIFY_EN [] = true
  free : s.tagHeld a (s.liveRec a).out false = false
  search : s.tagStatus a = 1
  due : (sget TagV.off s.pth.tags a).since + 9000000 ≤ t
  bin : bins.find? (fun y => y.out.val == (s.liveRec a).out) = some x

theorem State.EndsSearch.passTo {s : State} {t a : Nat} {bins : List TagBin} {x : TagBin} (h : s.EndsSearch t a bins x) :
    (s.passTo t).EndsSearch t a bins x where
  frame := h.frame
  fabric := by rw [passTo_inFabric, h.fabric]
  static := by rw [passTo_yk]; exact h.static
  idle := fun k hk hka => by rw [passTo_liveRec, h.idle k hk hka]
  active := by rw [passTo_liveRec, h.active]
  enabled := by rw [passTo_fb, h.enabled]
  free := by rw [passTo_liveRec, passTo_tagHeld, h.free]
  search := by rw [State.tagStatus, passTo_pth]; exact h.search
  due := by rw [passTo_pth]; exact h.due
  bin := by rw [passTo_liveRec, h.bin]

/-- The turn of a path that ends SEARCH stores the verifier's finding. -/
theorem tagPort_search {s : State} {t a : Nat} {bins : List TagBin} {x : TagBin} (h : s.EndsSearch t a bins x) (ly : Option Nat) :
    ∃ v : TagV, s.tagPort t a (s.liveRec a).out false ly bins = s.setTag a v ly
      ∧ v.status = if s.tonePresent x then 2 else 5 := by
  have hrun : ¬ (1 = 0 ∨ 1 = 7) := by decide
  have hdue := h.due
  have hlate : ¬ t < (sget TagV.off s.pth.tags a).since := by omega
  have hstatus : (sget TagV.off s.pth.tags a).status = 1 := h.search
  refine ⟨s.tagStep (s.wantWord a) t x (sget TagV.off s.pth.tags a), ?_, tagStep_search _ x hstatus hdue h.frame⟩
  simp only [State.tagPort, h.enabled, h.free, hstatus, Bool.not_true, Bool.false_eq_true, if_false, if_neg hrun, if_neg hlate, h.bin,
    Option.getD_some]

/-- Stores the verifier of an in-port, without more. -/
def State.storeTag (s : State) (a : Nat) (v : TagV) : State := { s with pth := { s.pth with tags := sset s.pth.tags a v } }

theorem storeTag_keeps (s : State) (a : Nat) (v : TagV) : Keeps 0x200 s (s.storeTag a v) := Keeps.upd .refl

/-- The mode is the same where the straps were kept. -/
theorem Keeps.inFabric {m : Nat} {s t : State} (h : Keeps m s t) (hm : m.testBit 0 = false) : t.inFabric = s.inFabric := by
  have hmode : t.sys.mode = s.sys.mode := (h.frame .straps hm).1
  simp only [State.inFabric, hmode]

/-- A tone found ends SEARCH without an event. -/
theorem setTag_found {s : State} {a : Nat} {v : TagV} (ly : Nat) (hv : v.status = 2) : s.setTag a v (some ly) = s.storeTag a v := by
  simp [State.setTag, State.storeTag, hv, tagBad]

/-- A tone missed in SEARCH sets TAG_FAULT and posts the event; outside FABRIC, nobody else is told. -/
theorem setTag_missed {s : State} {a : Nat} {v : TagV} (ly : Nat) (hfab : s.inFabric = false) (h1 : s.tagStatus a = 1)
    (hv : v.status = 5) : s.setTag a v (some ly) = ((s.storeTag a v).raise PTH_EVT.TAG_FAULT []).post 0 0x02 5
      [portsW a ((s.storeTag a v).pathRec (512 * ly + a)).out, wd v.last] := by
  have hk := ((storeTag_keeps s a v).trans (raise_keeps _ PTH_EVT.TAG_FAULT [])).trans
    (post_keeps _ 0 0x02 5 [portsW a ((s.storeTag a v).pathRec (512 * ly + a)).out, wd v.last])
  have hfab' := (hk.inFabric rfl).trans hfab
  unfold State.tagStatus at h1
  simp only [State.storeTag] at hfab' ⊢
  simp [State.setTag, h1, hv, tagBad, hfab']

/-- Setting TAG_FAULT sets the bit, whatever edge it makes (R437). -/
theorem raise_TAG_FAULT (s : State) : (s.raise PTH_EVT.TAG_FAULT []).f PTH_EVT.TAG_FAULT [] = 1 := by
  have hraise : s.raise PTH_EVT.TAG_FAULT [] = (s.setF PTH_EVT.TAG_FAULT [] 1).icEdge 436 := rfl
  rw [hraise, f_of_otherRegs (l := [Reg.IC_SRC.at [436]]) (.icEdge (.head _)) ((icEdge_keeps ..).stage rfl) (by decide),
    f_setF_same _ _ _ _ (by decide)]
  rfl

/-- A field reads the same where the registers were kept. -/
theorem Keeps.f {m : Nat} {s t : State} (h : Keeps m s t) (hr : m.testBit 2 = false) (hs : m.testBit 1 = false) (x : Fld)
    (ix : List Nat) : t.f x ix = s.f x ix :=
  f_of_otherRegs (l := []) (.of_regs (h.frame .regs hr)) (h.stage hs) nofun

/-- What a finding of the verifier leaves: the verifier stored, the event of a path fault where it is one, and nothing of the rest of
the path service, of the lanes or of the fabric. -/
structure TagStored (a : Nat) (v : TagV) (s u : State) : Prop where
  pth : u.pth = { s.pth with tags := sset s.pth.tags a v }
  keeps : Keeps 0x102204 s u
  fault : v.status = 5 → u.f PTH_EVT.TAG_FAULT [] = 1

theorem setTag_search {s : State} {a : Nat} {v : TagV} (ly : Nat) (hfab : s.inFabric = false) (h1 : s.tagStatus a = 1)
    (hv : v.status = 2 ∨ v.status = 5) : TagStored a v s (s.setTag a v (some ly)) := by
  rcases hv with hv | hv
  · rw [setTag_found ly hv]
    exact ⟨rfl, (storeTag_keeps s a v).step .refl rfl, fun h => absurd (hv.symm.trans h) (by decide)⟩
  · rw [setTag_missed ly hfab h1 hv]
    have hraise := raise_keeps (s.storeTag a v) PTH_EVT.TAG_FAULT []
    have hpost := post_keeps ((s.storeTag a v).raise PTH_EVT.TAG_FAULT []) 0 0x02 5
      [portsW a ((s.storeTag a v).pathRec (512 * ly + a)).out, wd v.last]
    exact ⟨(hpost.frame .pth rfl).trans (hraise.frame .pth rfl), hpost.step (hraise.step ((storeTag_keeps s a v).step .refl rfl) rfl) rfl,
      fun _ => (hpost.f rfl rfl ..).trans (raise_TAG_FAULT _)⟩

/-! ### What follows the turns -/

/-- Without lost transactions, missed losses and probe segments, what follows a change of the table wakes waiting requests and
releases at old middles, and nothing else. -/
theorem fabAfter_of_quiet {s : State} (hl : ∀ p ∈ s.pth.placed, p.lost = false) (hm : s.fab.missed = []) (hp : s.fab.probes = []) :
    s.fabAfter = s.wakeWaiting.lateRelease := by
  have hsweep : s.sweepLost = s := by
    have hnone : (s.pth.placed.find? fun p => p.lost && !p.hold) = none :=
      List.find?_eq_none.2 fun p hp => by simp [hl p hp]
    refine foldl_keeps (· = s) rfl fun u _ hu => ?_
    subst hu
    rw [hnone]
  have hkept : s.wakeWaiting.lateRelease.fab.missed = [] ∧ s.wakeWaiting.lateRelease.fab.probes = [] :=
    foldl_keeps (fun u : State => u.fab.missed = [] ∧ u.fab.probes = []) ⟨hm, hp⟩ fun _ _ h => h
  rw [State.fabAfter, hsweep, State.missedLoss, hkept.1]
  simp [State.yieldProbes, State.dropProbes, hkept.2]

/-- All of the path service but the requests that wait is kept. -/
theorem fabAfter_quiet_pth {s : State} (hl : ∀ p ∈ s.pth.placed, p.lost = false) (hm : s.fab.missed = []) (hp : s.fab.probes = []) :
    (∃ d, s.fabAfter.pth = { s.pth with delivered := d }) ∧ Keeps 0xa00 s s.fabAfter := by
  rw [fabAfter_of_quiet hl hm hp]
  have hlate := lateRelease_keeps s.wakeWaiting
  exact ⟨⟨_, hlate.frame .pth rfl⟩, hlate.step (wakeWaiting_keeps s) rfl⟩

/-- A fold whose steps are idle but for one is that step. -/
theorem foldl_of_idle_but {α β : Type} {f : β → α → β} {a : α} {x : β} {l : List α} (hnd : l.Nodup) (ha : a ∈ l)
    (hbefore : ∀ k ∈ l, k ≠ a → f x k = x) (hafter : ∀ k ∈ l, k ≠ a → f (f x a) k = f x a) : l.foldl f x = f x a := by
  have hidle : ∀ (y : β) (m : List α), (∀ k ∈ m, f y k = y) → m.foldl f y = y := fun y m => by
    induction m with
    | nil => exact fun _ => rfl
    | cons k m ih => exact fun h => by rw [List.foldl, h k (.head _), ih fun j hj => h j (.tail _ hj)]
  induction l with
  | nil => cases ha
  | cons k l ih =>
    obtain ⟨hk, hnd⟩ := List.nodup_cons.1 hnd
    by_cases hka : k = a
    · subst hka
      exact hidle _ _ fun j hj => hafter j (.tail _ hj) fun h => hk (h ▸ hj)
    · rw [List.foldl, hbefore k (.head _) hka]
      exact ih hnd ((List.mem_cons.1 ha).resolve_left (Ne.symm hka)) (fun j hj => hbefore j (.tail _ hj)) fun j hj => hafter j (.tail _ hj)

theorem liveRec_of_pth {s u : State} (hp : u.pth.placed = s.pth.placed) (hc : u.pth.conn = s.pth.conn) (key : Nat) :
    u.liveRec key = s.liveRec key := by
  simp only [State.liveRec, State.recBefore, State.firedPart, State.pathRec, hp, hc]

/-- The turns of all in-ports are that of the one whose path ends SEARCH. -/
theorem tagTurns_search {s : State} {t a : Nat} {bins : List TagBin} {x : TagBin} (h : s.EndsSearch t a bins x) (ha : a < 512) :
    ∃ v : TagV, v.status = (if s.tonePresent x then 2 else 5)
      ∧ TagStored a v s ((List.range 512).foldl (State.tagTurn t bins 0) s) := by
  have hkey : ∀ k, 512 * 0 + k = k := by omega
  obtain ⟨v, hport, hv⟩ := tagPort_search h (some 0)
  have hset : s.tagTurn t bins 0 a = s.setTag a v (some 0) := by
    rw [tagTurn_active t bins h.static (by rw [hkey, h.active]), hkey, hport]
  have hstored : TagStored a v s (s.tagTurn t bins 0 a) :=
    hset ▸ setTag_search 0 h.fabric h.search (by rw [hv]; split <;> simp)
  have hlive : ∀ k, (s.tagTurn t bins 0 a).liveRec k = s.liveRec k :=
    liveRec_of_pth (by rw [hstored.pth]) (by rw [hstored.pth])
  have hmode : (s.tagTurn t bins 0 a).yk.mode < 2 := by
    have hyk : (s.tagTurn t bins 0 a).yk = s.yk := hstored.keeps.frame .yk rfl
    rw [hyk]
    exact h.static
  refine ⟨v, hv, ?_⟩
  rw [foldl_of_idle_but List.nodup_range (List.mem_range.2 ha)]
  · exact hstored
  · exact fun k hk hka => tagTurn_idle t bins h.static (by rw [hkey, h.idle k (List.mem_range.1 hk) hka])
  · exact fun k hk hka => tagTurn_idle t bins hmode (by rw [hkey, hlive, h.idle k (List.mem_range.1 hk) hka])

end Sys2Proof.Machine
end

section
/-! PROOF. An evaluation as a whole, the write of the tag identity, and the statement on targets and tags (O37). -/
namespace Sys2Proof.Machine

/-! ### The whole evaluation -/

/-- After the turns of an evaluation nothing touches the verifiers, the table, the lanes and the event. -/
theorem tagEvaluation_end {s w : State} {t a : Nat} {v : TagV} (bins : List TagBin) (hw : TagStored a v (s.passTo t) w)
    (hprobes : s.fab.probes = []) (hmissed : s.fab.missed = []) (hlost : ∀ p ∈ s.pth.placed, p.lost = false) :
    (∃ d, (s.schedEvent (w.tagProbes t bins).fabAfter).pth = { s.pth with tags := sset s.pth.tags a v, delivered := d })
    ∧ (s.schedEvent (w.tagProbes t bins).fabAfter).lanes = s.lanes
    ∧ (v.status = 5 → (s.schedEvent (w.tagProbes t bins).fabAfter).f PTH_EVT.TAG_FAULT [] = 1) := by
  obtain ⟨hpth, hkeeps, hfault⟩ := hw
  rw [passTo_pth] at hpth
  have hfab : w.fab = s.fab := (hkeeps.frame .fab rfl).trans (passTo_fab s t)
  have hnone : w.tagProbes t bins = w := by rw [State.tagProbes, hfab, hprobes, List.foldl]
  rw [hnone]
  obtain ⟨⟨d, hd⟩, hafter⟩ := fabAfter_quiet_pth (s := w) (by rw [hpth]; exact hlost) (by rw [hfab, hmissed]) (by rw [hfab, hprobes])
  have hsched := schedEvent_keeps s w.fabAfter
  refine ⟨⟨d, (hsched.frame .pth rfl).trans ?_⟩, ?_, fun h5 => ?_⟩
  · rw [hd, hpth]
  · exact (hsched.frame .lanes rfl).trans ((hafter.frame .lanes rfl).trans ((hkeeps.frame .lanes rfl).trans (passTo_lanes s t)))
  · exact (hsched.f rfl rfl ..).trans ((hafter.f rfl rfl ..).trans (hfault h5))

/-- An evaluation with no probe segments, no lost transactions and no missed losses: the path that ends SEARCH takes its finding, and
the table, the lanes and the other tags stay. -/
theorem doTagEvaluation_search {s : State} {t a : Nat} {bins : List TagBin} {x : TagBin} (h : s.EndsSearch t a bins x) (ha : a < 512)
    (ht : t % 1000000 = 0) (hprobes : s.fab.probes = []) (hmissed : s.fab.missed = []) (hlost : ∀ p ∈ s.pth.placed, p.lost = false) :
    ∃ (v : TagV) (d : List Txn), v.status = (if s.tonePresent x then 2 else 5)
      ∧ (doTagEvaluation t bins s).pth = { s.pth with tags := sset s.pth.tags a v, delivered := d }
      ∧ (doTagEvaluation t bins s).lanes = s.lanes
      ∧ (v.status = 5 → (doTagEvaluation t bins s).f PTH_EVT.TAG_FAULT [] = 1) := by
  have hlayer : (s.passTo t).runLayer = 0 := by
    rw [passTo_runLayer, State.runLayer, if_neg (Nat.not_le.2 h.static)]
  obtain ⟨v, hv, hstored⟩ := tagTurns_search h.passTo ha
  rw [passTo_tonePresent] at hv
  obtain ⟨⟨d, hpth⟩, hlanes, hfault⟩ := tagEvaluation_end bins hstored hprobes hmissed hlost
  rw [doTagEvaluation_eq rfl ht, hlayer]
  exact ⟨v, d, hv, hpth, hlanes, hfault⟩

/-! ### The tag identity (R189, R332, R374) -/

theorem exec_tagIdWrite {s : State} (h : s.isOpen = true) (v : Word) : exec (.tagIdWrite v) s = .next (doTagIdWrite v s) :=
  congrArg Host.Outcome.next (hostWr_of_not_shut (not_shut h (.inl (by decide)) nofun))

/-- UNIT as a write of PTH_TAG_ID leaves it, before DEVID is stored. -/
def State.tagUnit (s : State) (v : Word) : State :=
  if s.inPair || s.inFabric then s else s.setF PTH_TAG_ID.UNIT [] (fget 6 1 v)

theorem doTagIdWrite_eq (v : Word) (s : State) :
    doTagIdWrite v s = if s.inFabric then s.tagUnit v else (s.tagUnit v).setF PTH_TAG_ID.DEVID [] (fget 0 6 v) := rfl

theorem doTagIdWrite_UNIT (v : Word) (s : State) : (doTagIdWrite v s).f PTH_TAG_ID.UNIT []
    = if s.inPair || s.inFabric then s.f PTH_TAG_ID.UNIT [] else fget 6 1 v := by
  have hunit : (s.tagUnit v).f PTH_TAG_ID.UNIT [] = if s.inPair || s.inFabric then s.f PTH_TAG_ID.UNIT [] else fget 6 1 v := by
    unfold State.tagUnit
    split
    · rfl
    · rw [f_setF_same _ _ _ _ (by decide)]
      exact Nat.mod_eq_of_lt (fget_lt 6 1 v)
  rw [doTagIdWrite_eq, ← hunit]
  split
  · rfl
  · exact f_setF_beside _ _ _ rfl (by decide) (by decide)

theorem doTagIdWrite_DEVID (v : Word) (s : State) : (doTagIdWrite v s).f PTH_TAG_ID.DEVID []
    = if s.inFabric then s.f PTH_TAG_ID.DEVID [] else fget 0 6 v := by
  rw [doTagIdWrite_eq]
  split
  case isTrue h => rw [State.tagUnit, if_pos (by simp [h])]
  case isFalse h =>
    rw [f_setF_same _ _ _ _ (by decide)]
    exact Nat.mod_eq_of_lt (fget_lt 0 6 v)

theorem doTagIdWrite_regs (v : Word) (s : State) :
    otherRegs [Reg.PTH_TAG_ID.at []] s (doTagIdWrite v s) ∧ changesOnly [.regs] s (doTagIdWrite v s) := by
  have hunit : Keeps 0x4 s (s.tagUnit v) := .ite .refl (setF_keeps ..)
  have hunit' : otherRegs [Reg.PTH_TAG_ID.at []] s (s.tagUnit v) := by
    unfold State.tagUnit
    split
    · exact .refl
    · exact .setF (.head _)
  rw [doTagIdWrite_eq]
  split
  · exact ⟨hunit', hunit.changesOnly rfl⟩
  · exact ⟨hunit'.trans (.setF (.head _)), (hunit.trans (setF_keeps ..)).changesOnly rfl⟩

/-- Settles O37, one lemma for each of its four commands. -/
theorem tagsAndTargets : Obligations.TagsAndTargets := by
  unfold Obligations.TagsAndTargets
  intro s t b a v bins x
  refine ⟨fun hin hact => ?target, fun ht hid => ?bits,
    fun ht hf hfab hprobes hmissed hy hlost ha hidle hact hen hheld h1 h9 hout hx => ?evaluation, fun ho => ?identity⟩
  case target =>
    obtain ⟨hfree, hboth, hother⟩ := doEqRefresh_targets t hin hact
    refine ⟨_, rfl, hfree, fun tg htg => ⟨fun pl hpl => htg ▸ hboth pl hpl, fun e h0 h1 => hother e fun pl hpl => ?_⟩⟩
    obtain rfl | rfl : pl = 0 ∨ pl = 1 := by omega
    · exact h0
    · exact h1
  case bits =>
    have hbits := tagBits_keeps (s.passTo t) (t % frameNs / bitNs) (List.range 512)
    refine .of_eq rfl (doTagBitPeriod_eq ht hid) ⟨(hbits.frame .pth rfl).trans (passTo_pth s t), fun p pl hp hpl => ?_,
      ((passTo_keeps s t).trans hbits).changesOnly rfl⟩
    have hinverts : (s.passTo t).tagInverts (t % frameNs / bitNs) p = s.tagInverts (t % frameNs / bitNs) p :=
      passTo_congr s t (·.tagInverts (t % frameNs / bitNs) p) fun _ => rfl
    rw [invP_tagBits (fun _ => List.mem_range.1) _ _ hp hpl, passTo_lane, hinverts, decide_eq_true (List.mem_range.2 hp),
      Bool.true_and, State.tagInverts]
  case evaluation =>
    have hends : s.EndsSearch t a bins x := ⟨hf, hfab, hy, hidle, hact, hen, hheld, h1, h9, hout ▸ hx⟩
    obtain ⟨v', d, hv, hpth, hlanes, hfault⟩ := doTagEvaluation_search hends ha ht hprobes hmissed hlost
    refine ⟨_, rfl, ?_, fun hmiss => hfault (by rw [hv, hmiss]; rfl), by rw [hpth], hlanes⟩
    rw [State.tagStatus, hpth, sget_sset_same, hv]
  case identity =>
    obtain ⟨hregs, honly⟩ := doTagIdWrite_regs v s
    refine ⟨_, exec_tagIdWrite ho v, fun hp hf => ?_, fun hf => ?_, fun h => ?_, fun hf => ?_, hregs, honly⟩
    · simp [doTagIdWrite_UNIT, hp, hf]
    · simp [doTagIdWrite_DEVID, hf]
    · rcases h with h | h <;> simp [doTagIdWrite_UNIT, h]
    · simp [doTagIdWrite_DEVID, hf]

end Sys2Proof.Machine
end

section
/-! PROOF. Rules for the loops over lanes: folds in which each element has one turn, what the turn of a lane may change where it
does not end in FAULT, and what it leaves for the lanes beside it. -/
namespace Sys2Proof.Machine

/-! ### Folds in turns -/

section
variable {α β : Type} {R : β → β → Prop} (hr : ∀ x, R x x) (ht : ∀ {x y z}, R x y → R y z → R x z)
include hr ht

/-- What holds over each step of a fold holds over all of it. -/
theorem foldl_rel {f : β → α → β} {l : List α} (h : ∀ x, ∀ a ∈ l, R x (f x a)) (x : β) : R x (l.foldl f x) := by
  induction l generalizing x with
  | nil => exact hr x
  | cons a l ih => exact ht (h x a (.head _)) (ih (fun y b hb => h y b (.tail _ hb)) (f x a))

/-- An element of a fold has one turn, and only the other elements' turns lie before and behind it. -/
theorem foldl_turn {f : β → α → β} {l : List α} {a : α} (hnd : l.Nodup) (ha : a ∈ l) (h : ∀ x, ∀ b ∈ l, b ≠ a → R x (f x b))
    (x : β) : ∃ y, R x y ∧ R (f y a) (l.foldl f x) := by
  obtain ⟨pre, post, rfl⟩ := List.append_of_mem ha
  have hsplit := List.nodup_append.1 hnd
  have hpre : ∀ b ∈ pre, b ≠ a := fun b hb => hsplit.2.2 b hb a (.head _)
  have hpost : ∀ b ∈ post, b ≠ a := fun b hb e => (List.nodup_cons.1 hsplit.2.1).1 (e ▸ hb)
  refine ⟨pre.foldl f x, foldl_rel hr ht (fun y b hb => h y b (by simp [hb]) (hpre b hb)) x, ?_⟩
  rw [List.foldl_append, List.foldl_cons]
  exact foldl_rel hr ht (fun y b hb => h y b (by simp [hb]) (hpost b hb)) _

end

section
variable {R : State → State → Prop} (hr : ∀ s, R s s) (ht : ∀ {s u v}, R s u → R u v → R s v) {f : State → Nat → State} {c : Nat}
include hr ht

theorem forLanes_rel (h : ∀ u e, e / 256 = c → R u (f u e)) (s : State) : R s (forLanes c f s) :=
  foldl_rel hr ht (fun u j hj => h u _ (by have := List.mem_range.1 hj; omega)) s

/-- Each lane of a cluster has one turn in a loop over the cluster. -/
theorem forLanes_turn {x : Nat} (hx : x / 256 = c) (h : ∀ u e, e ≠ x → R u (f u e)) (s : State) :
    ∃ u, R s u ∧ R (f u x) (forLanes c f s) := by
  have hself : 256 * c + x % 256 = x := by omega
  have hturn := foldl_turn hr ht (f := fun s j => f s (256 * c + j)) List.nodup_range
    (List.mem_range.2 (Nat.mod_lt x (by decide : 0 < 256))) (fun u j hj hne => h u _ (by have := List.mem_range.1 hj; omega)) s
  rwa [hself] at hturn

end

/-! ### Parts that were kept -/

theorem Keeps.cl {m : Nat} {s t : State} (h : Keeps m s t) (h5 : m.testBit 5 = false) (c : Nat) : t.cl c = s.cl c :=
  congrArg (sget Cluster.reset · c) (h.frame .clusters h5)

theorem Keeps.lane {m : Nat} {s t : State} (h : Keeps m s t) (h4 : m.testBit 4 = false) (e : Nat) : t.lane e = s.lane e :=
  congrArg (sget Lane.reset · e) (h.frame .lanes h4)

theorem otherLanes_trans {e : Nat} {s u v : State} (h : otherLanes e s u) (k : otherLanes e u v) : otherLanes e s v :=
  fun x hx => (k x hx).trans (h x hx)

/-! ### Storing a lane that does not enter FAULT -/

/-- The counts of suppressed records of the capture rings (R266). -/
def suppRegs : List Nat := [Reg.CAP_SUPP.at [0], Reg.CAP_SUPP.at [1], Reg.CAP_SUPP.at [2], Reg.CAP_SUPP.at [3]]

theorem mem_suppRegs : ∀ k < 4, Reg.CAP_SUPP.at [k] ∈ suppRegs := by decide

section
variable {s : State} {e : Nat} {x : Lane}

/-- The store of a lane that does not enter FAULT is the store and the offer of its record. -/
theorem putLaneBuf_eq (b : Int) (h : x.st = .fault → (s.lane e).st = .fault) : s.putLaneBuf e x b = s.setLane e x
    ∨ s.putLaneBuf e x b = (s.setLane e x).offer 2 (e / 256) (e % 256) s.tag (loopPayload (s.lane e) x b) := by
  unfold State.putLaneBuf
  extract_lets o s1 s2
  rw [if_neg (fun hf => hf.2 (h hf.1))]
  simp only [s2]
  split
  · exact .inr rfl
  · exact .inl rfl

theorem putLaneBuf_keeps_of_no_fault (b : Int) (h : x.st = .fault → (s.lane e).st = .fault) : Keeps 0x4014 s (s.putLaneBuf e x b) := by
  rcases putLaneBuf_eq b h with h | h <;> rw [h]
  · exact (setLane_keeps ..).step .refl rfl
  · exact (setLane_keeps ..).trans (offer_keeps ..)

theorem otherRegs_putLaneBuf_of_no_fault (b : Int) (h : x.st = .fault → (s.lane e).st = .fault) :
    otherRegs suppRegs s (s.putLaneBuf e x b) := by
  rcases putLaneBuf_eq b h with h | h <;> rw [h]
  · exact .of_regs rfl
  · exact .trans (u := s.setLane e x) (.of_regs rfl) (.offer mem_suppRegs)

theorem putLane_keeps_of_no_fault (h : x.st = .fault → (s.lane e).st = .fault) : Keeps 0x4014 s (s.putLane e x) :=
  putLaneBuf_keeps_of_no_fault _ h

theorem otherRegs_putLane_of_no_fault (h : x.st = .fault → (s.lane e).st = .fault) : otherRegs suppRegs s (s.putLane e x) :=
  otherRegs_putLaneBuf_of_no_fault _ h

end

/-! ### The turn of a lane -/

/-- The registers that a turn of lane e may write: its set-points, the count of folds of its cluster (R79), and the counts of
suppressed records. -/
def turnRegs (e : Nat) : List Nat :=
  suppRegs ++ [Reg.SETPT.at [e / 256, e % 256, 0], Reg.SETPT.at [e / 256, e % 256, 1], Reg.SLV_LRN_CNT.at [e / 256]]

/-- A turn of lane e that does not enter FAULT: no other lane changes, of the registers only those of `turnRegs`, and of the other
parts only the capture rings. -/
structure LaneTurn (e : Nat) (s u : State) : Prop where
  others : otherLanes e s u
  regs : otherRegs (turnRegs e) s u
  keeps : Keeps 0x4014 s u

section
variable {e : Nat} {s u v : State}

theorem LaneTurn.refl : LaneTurn e s s := ⟨fun _ _ => rfl, .refl, .refl⟩

theorem LaneTurn.trans (h : LaneTurn e s u) (k : LaneTurn e u v) : LaneTurn e s v :=
  ⟨otherLanes_trans h.others k.others, h.regs.trans k.regs, h.keeps.trans k.keeps⟩

theorem LaneTurn.setLane (x : Lane) : LaneTurn e s (s.setLane e x) :=
  ⟨fun _ h => lane_setLane_ne s x h.symm, .of_regs rfl, (setLane_keeps ..).step .refl rfl⟩

theorem LaneTurn.putLane {x : Lane} (h : x.st = .fault → (s.lane e).st = .fault) : LaneTurn e s (s.putLane e x) :=
  ⟨otherLanes_putLane e x, (otherRegs_putLane_of_no_fault h).mono fun _ ha => List.mem_append_left _ ha, putLane_keeps_of_no_fault h⟩

theorem setpt_mem_turnRegs (e : Nat) (k : Bool) : Reg.SETPT.at [e / 256, e % 256, b2n k] ∈ turnRegs e := by
  cases k <;> simp [turnRegs, b2n]

@[simp] theorem lane_foldSp (s : State) (e x : Nat) (a : Int) : (s.foldSp e a).lane x = s.lane x := (foldSp_keeps ..).lane rfl x

theorem LaneTurn.foldSp (a : Int) : LaneTurn e s (s.foldSp e a) := by
  refine ⟨fun x _ => lane_foldSp s e x a, ?_, (foldSp_keeps ..).step .refl rfl⟩
  unfold State.foldSp
  split
  · exact .refl
  · exact .trans (.setF (setpt_mem_turnRegs e _)) (.bump (by simp [turnRegs]))

end

/-! ### What a turn leaves for the lanes beside it -/

/-- From s to u only lanes beside x had turns: lane x, and every register that no turn of another lane writes, is the same. -/
structure Beside (x : Nat) (s u : State) : Prop where
  lane : u.lane x = s.lane x
  regs : ∀ a, (∀ e, e ≠ x → a ∉ turnRegs e) → ∀ d, sget d u.regs a = sget d s.regs a
  keeps : Keeps 0x4014 s u

theorem LaneTurn.beside {e x : Nat} {s u : State} (h : LaneTurn e s u) (hx : e ≠ x) : Beside x s u :=
  ⟨h.others x hx.symm, fun a ha => h.regs a (ha e hx), h.keeps⟩

theorem Beside.refl {x : Nat} {s : State} : Beside x s s := ⟨rfl, fun _ _ _ => rfl, .refl⟩

theorem Beside.trans {x : Nat} {s u v : State} (h : Beside x s u) (k : Beside x u v) : Beside x s v :=
  ⟨k.lane.trans h.lane, fun a ha d => (k.regs a ha d).trans (h.regs a ha d), h.keeps.trans k.keeps⟩

/-- An offset that no turn writes: below the capture sets, or in a cluster outside its set-points and its count of folds. -/
def clearOfTurns (a : Nat) : Bool :=
  decide (a < 0x200000) || (decide (0x1000000 ≤ a) && decide (a % 0x10000 ≠ 0x3c)
    && (decide (a % 0x10000 < 0x1000) || decide (0x1800 ≤ a % 0x10000)))

theorem suppRegs_bounds : ∀ a ∈ suppRegs, 0x200000 ≤ a ∧ a < 0x1000000 := by decide

theorem at_SETPT (q j k : Nat) : Reg.SETPT.at [q, j, k] = 0x1001000 + 0x10000 * q + 8 * j + 4 * k := by
  simp only [Reg.at, Reg.row, dimOff]
  omega

theorem at_SLV_LRN_CNT (q : Nat) : Reg.SLV_LRN_CNT.at [q] = 0x100003c + 0x10000 * q := rfl

theorem mem_turnRegs {a e : Nat} (h : a ∈ turnRegs e) : a ∈ suppRegs ∨ (∃ k < 2, a = Reg.SETPT.at [e / 256, e % 256, k])
    ∨ a = Reg.SLV_LRN_CNT.at [e / 256] := by
  simp only [turnRegs, List.mem_append, List.mem_cons, List.not_mem_nil, or_false] at h
  rcases h with h | h | h | h
  · exact .inl h
  · exact .inr (.inl ⟨0, by decide, h⟩)
  · exact .inr (.inl ⟨1, by decide, h⟩)
  · exact .inr (.inr h)

theorem notMem_turnRegs {a : Nat} (h : clearOfTurns a = true) (e : Nat) : a ∉ turnRegs e := by
  simp only [clearOfTurns, Bool.or_eq_true, Bool.and_eq_true, decide_eq_true_eq] at h
  intro ha
  rcases mem_turnRegs ha with hs | ⟨k, hk, rfl⟩ | rfl
  · have := suppRegs_bounds a hs
    omega
  · rw [at_SETPT] at h
    omega
  · rw [at_SLV_LRN_CNT] at h
    omega

/-- No turn of another lane writes the set-points of lane x. -/
theorem setpt_notMem_turnRegs {e x : Nat} (hx : e ≠ x) (k : Bool) : Reg.SETPT.at [x / 256, x % 256, b2n k] ∉ turnRegs e := by
  have hk : b2n k < 2 := by cases k <;> decide
  intro ha
  rcases mem_turnRegs ha with hs | ⟨j, hj, heq⟩ | heq
  · have := suppRegs_bounds _ hs
    rw [at_SETPT] at this
    omega
  · rw [at_SETPT, at_SETPT] at heq
    omega
  · rw [at_SETPT, at_SLV_LRN_CNT] at heq
    omega

/-- A register with one word per cluster is clear of all turns where that of cluster 0 is. -/
theorem clearOfTurns_cluster {r : Reg} (hd : r.row.dims = [(0x10000, 144)]) (hb : 0x1000000 ≤ r.row.base)
    (h : clearOfTurns r.row.base = true) (c : Nat) : clearOfTurns (r.at [c]) = true := by
  have hat : r.at [c] = r.row.base + 0x10000 * c := by simp [Reg.at, hd, dimOff]
  rw [hat]
  simp only [clearOfTurns, Bool.or_eq_true, Bool.and_eq_true, decide_eq_true_eq] at h ⊢
  omega

theorem clearOfTurns_LANE_CFG (x : Nat) : clearOfTurns (Reg.LANE_CFG.at [x / 256, x % 256]) = true := by
  simp only [clearOfTurns, Reg.at, Reg.row, dimOff, Bool.or_eq_true, Bool.and_eq_true, decide_eq_true_eq]
  omega

theorem clearOfTurns_LUT {b i : Nat} (c : Nat) (hb : b < 4) (hi : i < 64) : clearOfTurns (Reg.LUT.at [c, b, i]) = true := by
  simp only [clearOfTurns, Reg.at, Reg.row, dimOff, Bool.or_eq_true, Bool.and_eq_true, decide_eq_true_eq]
  omega

section
variable {x : Nat} {s u : State} (h : Beside x s u)
include h

theorem Beside.reg {r : Reg} {ix : List Nat} (hr : ∀ e, e ≠ x → r.at ix ∉ turnRegs e) : u.reg r ix = s.reg r ix := by
  simp only [State.reg, h.keeps.stage rfl, h.regs _ hr]

theorem Beside.reg_clear {r : Reg} {ix : List Nat} (hr : clearOfTurns (r.at ix) = true) : u.reg r ix = s.reg r ix :=
  h.reg fun e _ => notMem_turnRegs hr e

theorem Beside.f_clear {y : Fld} {ix : List Nat} (hr : clearOfTurns (y.reg.at ix) = true) : u.f y ix = s.f y ix := by
  simp only [State.f, h.reg_clear hr]

/-- A field of a register with one word per cluster. -/
theorem Beside.f_cluster {y : Fld} (hy : y.reg.row.dims = [(0x10000, 144)] ∧ 0x1000000 ≤ y.reg.row.base
    ∧ clearOfTurns y.reg.row.base = true) (c : Nat) : u.f y [c] = s.f y [c] :=
  h.f_clear (clearOfTurns_cluster hy.1 hy.2.1 hy.2.2 c)

theorem Beside.f_LANE_CFG {y : Fld} (hy : y.reg = .LANE_CFG) : u.f y [x / 256, x % 256] = s.f y [x / 256, x % 256] :=
  h.f_clear (hy ▸ clearOfTurns_LANE_CFG x)

theorem Beside.sp (k : Bool) : u.sp x k = s.sp x k := by
  simp only [State.sp, State.f, h.reg fun e he => setpt_notMem_turnRegs he k, SETPT.SP]

theorem Beside.spRef (k : Bool) : u.spRef x k = s.spRef x k := by
  simp only [State.spRef, State.f, h.reg fun e he => setpt_notMem_turnRegs he k, SETPT.SP_REF]

theorem Beside.damp : u.damp x = s.damp x := h.f_LANE_CFG rfl

theorem Beside.polOf : u.polOf x = s.polOf x := by
  simp only [State.polOf, State.fb, h.f_LANE_CFG (y := LANE_CFG.POL) rfl]

theorem Beside.loopOn : u.loopOn x = s.loopOn x := by
  simp only [State.loopOn, State.loopEn, State.fb, h.damp, h.f_LANE_CFG (y := LANE_CFG.LOOP_EN) rfl,
    h.f_cluster (y := SLV_CTRL.RUN) (by decide)]

theorem Beside.learnEn : u.learnEn x = s.learnEn x := by
  simp only [State.learnEn, State.fb, h.f_LANE_CFG (y := LANE_CFG.LEARN_EN) rfl, h.f_cluster (y := SLV_CTRL.LEARN) (by decide)]

theorem Beside.intLim : u.intLim x = s.intLim x := by
  simp only [State.intLim, h.f_cluster (y := SLV_LIM.INT_LIMIT) (by decide)]

theorem Beside.stickyEn : u.stickyEn x = s.stickyEn x := by
  simp only [State.stickyEn, h.lane, h.f_cluster (y := SLV_FLT_EN.EN) (by decide)]

theorem Beside.gainOf (err : Int) : u.gainOf x err = s.gainOf x err := by
  have hbank : u.bankOf x = s.bankOf x := by
    simp only [State.bankOf, h.f_LANE_CFG (y := LANE_CFG.BANK) rfl, h.f_cluster (y := SLV_CTRL.LUT_XOR) (by decide)]
  have hcfg : u.reg .SLV_LUTCFG [x / 256] = s.reg .SLV_LUTCFG [x / 256] :=
    h.reg_clear (clearOfTurns_cluster (by decide) (by decide) (by decide) _)
  have hb : s.bankOf x < 4 := Nat.mod_lt _ (by decide)
  simp only [State.gainOf, hbank, hcfg]
  rw [h.reg_clear (clearOfTurns_LUT _ hb (by omega))]

theorem Beside.div : u.div = s.div := by
  have hpwr : u.pwr = s.pwr := h.keeps.frame .pwr rfl
  have hthm : u.thm = s.thm := h.keeps.frame .thm rfl
  rw [State.div, State.throttle, hpwr, hthm]
  rfl

end

end Sys2Proof.Machine
end

section
/-! PROOF. The turns that the loops over lanes give to each lane: folds, holds, the return to the loop, restarts and updates. -/
namespace Sys2Proof.Machine

/-! ### The states a lane enters (R83, R97) -/

theorem enter_switching {e : Nat} (l : Lane) (h : isCuffE e = false) :
    l.enter e = if l.lit then l.acquire.restart else (l.hold 0).restart := by simp [Lane.enter, h]

theorem enter_cuff {e : Nat} (l : Lane) (h : isCuffE e = true) : l.enter e = if l.cmd then { l with st := .block, why := 0 }
    else if isEgressE e then l.acquire else { l with st := .atten, why := 0 } := by simp [Lane.enter, h]

/-- A lane that enters by its class or slot does not enter FAULT, and keeps its isolation. -/
theorem enter_facts (l : Lane) (e : Nat) : (l.enter e).st ≠ .fault ∧ (l.enter e).isol = l.isol := by
  unfold Lane.enter
  split_ifs <;> simp [Lane.acquire, Lane.restart, Lane.hold]

theorem redemod_facts (l : Lane) (e : Nat) : (l.redemod e).st = l.st ∧ (l.redemod e).isol = l.isol := by
  unfold Lane.redemod
  split_ifs <;> exact ⟨rfl, rfl⟩

/-! ### Folds (R79, R80) -/

/-- A fold touches integrator, flags and drive, and the drive only under a run that was reverted (R476). -/
theorem foldOf_lane (s : State) (e : Nat) (l : Lane) (sh : Nat) : ∃ i k d, (s.foldOf e l sh).1 = { l with i := i, sticky := k, drv := d }
    ∧ (s.cal.back.contains e = false → d = l.drv) := by
  unfold State.foldOf
  extract_lets t a
  split
  · exact ⟨_, _, _, rfl, fun _ => rfl⟩
  · split
    case isTrue hback => exact ⟨_, _, _, rfl, fun h => absurd (hback.symm.trans h) (by decide)⟩
    case isFalse => exact ⟨_, _, _, rfl, fun _ => rfl⟩

theorem depart_lane (s : State) (e : Nat) (all : Bool) : ∃ i k d, (s.depart e all).1 = { s.lane e with i := i, sticky := k, drv := d }
    ∧ (s.cal.back.contains e = false → d = (s.lane e).drv) := by
  unfold State.depart
  split
  · exact foldOf_lane ..
  · exact ⟨_, _, _, rfl, fun _ => rfl⟩

/-! ### One turn each -/

section
variable {s : State} {e : Nat}

/-- A lane stored after a fold. -/
theorem LaneTurn.foldPut (a : Int) {x : Lane} (h : x.st = .fault → (s.lane e).st = .fault) :
    LaneTurn e s ((s.foldSp e a).putLane e x) :=
  (LaneTurn.foldSp a).trans (.putLane (by rwa [lane_foldSp]))

theorem toHold_turn (why : Nat) : LaneTurn e s (s.toHold e why) := .foldPut _ nofun

theorem toOff_turn : LaneTurn e s (s.toOff e) := .foldPut _ nofun

theorem reenter_turn : LaneTurn e s (s.reenter e) := by
  unfold State.reenter
  extract_lets l0 l
  split
  · exact .putLane fun h => absurd ((redemod_facts (l.hold 1) e).1.symm.trans h) nofun
  · exact .putLane fun h => absurd h (enter_facts l e).1

theorem restartLane_turn : LaneTurn e s (s.restartLane e) := by
  unfold State.restartLane
  extract_lets s1
  split_ifs
  · exact .refl
  · exact (LaneTurn.setLane _).trans reenter_turn
  · exact .setLane _

theorem takeDamp_turn : LaneTurn e s (s.takeDamp e) := by
  unfold State.takeDamp
  extract_lets l
  split_ifs
  · exact .refl
  · exact .setLane _

theorem cufHoldLane_turn : LaneTurn e s (s.cufHoldLane e) := by
  unfold State.cufHoldLane
  extract_lets l
  repeat' split
  · exact .refl
  · exact toHold_turn _
  · exact .putLane id
  · exact .refl
  · exact .putLane nofun
  · exact .refl

theorem calHold_turn : LaneTurn e s (s.calHold e) := by
  unfold State.calHold
  extract_lets l s1
  split
  · exact (LaneTurn.setLane _).trans (toHold_turn 2)
  · exact .setLane _

theorem learnLane_turn : LaneTurn e s (s.learnLane e) := by
  unfold State.learnLane
  extract_lets x
  split
  · refine .foldPut _ fun h => ?_
    obtain ⟨i, k, d, hx, -⟩ := foldOf_lane s e (s.lane e) (8 + s.f SLV_LEARN.LFRAC [e / 256])
    exact (congrArg Lane.st hx).symm.trans h
  · exact .refl

/-- Neither a set-point change nor the integrator changes the state of a lane. -/
theorem st_limit (l : Lane) (lim i : Int) : (l.limit lim i).st = l.st := by
  unfold Lane.limit
  split_ifs <;> rfl

theorem st_takeSpAdj (s : State) (e : Nat) (l : Lane) : (s.takeSpAdj e l).st = l.st := by
  unfold State.takeSpAdj
  split
  · rfl
  · exact st_limit ..

theorem st_addInt (l : Lane) (lim d : Int) : (l.addInt lim d).st = l.st := by
  unfold Lane.addInt
  split <;> exact st_limit ..

theorem st_integrate (s : State) (e : Nat) (l : Lane) : (s.integrate e l).st = l.st := st_addInt ..

theorem loopLane_turn : LaneTurn e s (s.loopLane e) := by
  unfold State.loopLane
  extract_lets s1 l l1 l2
  have hl2 : l2.st = l.st := by
    simp only [l2, l1]
    split
    · rw [st_integrate, st_takeSpAdj]
    · rw [st_takeSpAdj]
  have hdamp : LaneTurn e s s1 := takeDamp_turn
  split_ifs
  · exact hdamp
  · exact hdamp.trans toOff_turn
  · exact hdamp
  · exact hdamp.trans reenter_turn
  · exact hdamp
  · exact hdamp
  · exact hdamp.trans (.putLane fun h => hl2.symm.trans h)

end

end Sys2Proof.Machine
end

section
/-! PROOF. Set-point writes and restarts (O15). -/
namespace Sys2Proof.Machine

/-! ### Bits and times -/

theorem fb_eq_bit (s : State) {x : Fld} (h : x.len = 1) (ix : List Nat) : s.fb x ix = bit x.lo (s.reg x.reg ix) := by
  simp only [State.fb, State.f, h, fget, bit, Nat.testBit, Nat.one_and_eq_mod_two, pow_one, bne, ne_eq]
  by_cases hm : (s.reg x.reg ix).toNat >>> x.lo % 2 = 0 <;> simp [hm]

theorem now_passTo {s : State} (h : s.isOpen = true) (t : Nat) : (s.passTo t).clr.now = max s.clr.now t := by
  have hstage : s.sys.stage = 15 := of_decide_eq_true (Bool.and_eq_true_iff.1 h).1
  simp [State.passTo, hstage]

theorem passTo_stickyEn (s : State) (t e : Nat) : (s.passTo t).stickyEn e = s.stickyEn e := passTo_congr s t (·.stickyEn e) fun _ => rfl

/-! ### Set-point writes (R81) -/

theorem exec_setptWrite (s : State) (e : Fin 36864) (k : Fin 2) (v : Word) : exec (.setptWrite e k v) s
    = .next (s.hostWr .SETPT [e / 256, e % 256, k] (doSetptWrite e (decide (k = 1)) v)) := rfl

theorem shut_SETPT {s : State} (h : s.isOpen = true) (ix : List Nat) : s.shut .SETPT ix = s.storeOff := by
  simp [shut_of_isOpen h, modeOff_of_base s (r := .SETPT) (.inr (by decide))]

/-- The lane after a set-point write: the commanded slot of a lane in ACQUIRE, LOCKED, HOLD or FAULT notes the change. -/
theorem doSetptWrite_lane (e : Nat) (k : Bool) (v : Word) (s : State) : (doSetptWrite e k v s).lane e =
    if k = (s.lane e).cmd ∧ (s.lane e).st ∈ [LaneSt.acquire, .locked, .hold, .fault]
    then { s.lane e with spAdj := (s.lane e).spAdj + (spCode e (fget 16 16 v) - s.sp e k), spAt := some (k, s.clr.now) }
    else { s.lane e with spAt := some (k, s.clr.now) } := by
  have hst : (s.lane e).st ∈ [LaneSt.acquire, .locked, .hold, .fault]
      ↔ (s.lane e).st.runs = true ∨ (s.lane e).st = .hold ∨ (s.lane e).st = .fault := by
    cases (s.lane e).st <;> decide
  simp only [hst]
  unfold doSetptWrite
  extract_lets l d s1
  split
  · exact lane_setLane_same ..
  · exact lane_setLane_same ..

theorem doSetptWrite_frame (e : Nat) (k : Bool) (v : Word) (s : State) : otherLanes e s (doSetptWrite e k v s)
    ∧ (doSetptWrite e k v s).regs = (s.setReg .SETPT [e / 256, e % 256, b2n k] v).regs := by
  unfold doSetptWrite
  extract_lets l d s1
  split
  · exact ⟨fun x hx => lane_setLane_ne _ _ hx.symm, rfl⟩
  · exact ⟨fun x hx => lane_setLane_ne _ _ hx.symm, rfl⟩

theorem b2n_decide_one (k : Fin 2) : b2n (decide (k = 1)) = k.val := by
  revert k; decide

/-! ### RESTART of a lane (R83, R85, R397) -/

/-- A RESTART of lane e is discarded: an enabled sticky flag, or a transition start at this time. -/
abbrev State.restartLost (s : State) (e : Nat) : Prop := s.stickyEn e = true ∨ (s.lane e).tr.any (fun x => x.t0 == s.clr.now) = true

theorem restartLane_lost {s : State} {e : Nat} (h : s.restartLost e) : s.restartLane e = s :=
  if_pos (Bool.or_eq_true_iff.2 h)

/-- The lane as a RESTART that is taken notes it: no isolation. -/
def State.noteRestart (s : State) (e : Nat) : State :=
  s.setLane e { s.lane e with isol := false, rstAt := some (s.clr.now, (s.lane e).isol) }

theorem restartLane_taken {s : State} {e : Nat} (h : ¬ s.restartLost e) :
    s.restartLane e = if (s.lane e).st = .fault then (s.noteRestart e).reenter e else s.noteRestart e :=
  if_neg fun hb => h (Bool.or_eq_true_iff.1 hb)

/-- A lane that comes back to its loop does not enter FAULT, and keeps its isolation. -/
theorem reenter_facts (s : State) (e : Nat) : ((s.reenter e).lane e).st ≠ .fault ∧ ((s.reenter e).lane e).isol = (s.lane e).isol := by
  have hl : (if (s.lane e).st = .off then { s.lane e with drv := s.sp e (s.lane e).cmd } else s.lane e).isol = (s.lane e).isol := by
    split <;> rfl
  unfold State.reenter
  extract_lets l0 l
  split
  · rw [lane_putLane_same]
    obtain ⟨hst, hisol⟩ := redemod_facts (l.hold 1) e
    exact ⟨fun h => absurd (hst.symm.trans h) nofun, hisol.trans hl⟩
  · rw [lane_putLane_same]
    obtain ⟨hst, hisol⟩ := enter_facts l e
    exact ⟨hst, hisol.trans hl⟩

/-- A RESTART that is taken ends isolation and FAULT. -/
theorem restartLane_taken_facts {s : State} {e : Nat} (h : ¬ s.restartLost e) :
    ((s.restartLane e).lane e).isol = false ∧ ((s.restartLane e).lane e).st ≠ .fault := by
  have hnote : (s.noteRestart e).lane e = { s.lane e with isol := false, rstAt := some (s.clr.now, (s.lane e).isol) } :=
    lane_setLane_same ..
  rw [restartLane_taken h]
  split
  · obtain ⟨hst, hisol⟩ := reenter_facts (s.noteRestart e) e
    exact ⟨hisol.trans (by rw [hnote]), hst⟩
  next hst => exact ⟨by rw [hnote], by rwa [hnote]⟩

/-- Outside P2 a switching lane in FAULT comes back by its class, with its demodulator restarted. -/
theorem reenter_switching {s : State} {e : Nat} (hcuf : isCuffE e = false) (hp2 : (s.cl (e / 256)).p2 = false)
    (hst : (s.lane e).st = .fault) : ((s.reenter e).lane e).fill = 0
      ∧ ((s.reenter e).lane e).st = if (s.lane e).lit then .acquire else .hold := by
  have henter : s.reenter e = s.putLane e ((s.lane e).enter e) := by simp [State.reenter, hp2, hst]
  rw [henter, lane_putLane_same, enter_switching _ hcuf]
  split <;> exact ⟨rfl, rfl⟩

/-! ### A write of LANE_CFG (R70, R72, R99) -/

/-- What a write of LANE_CFG stores before a RESTART acts: the register, gain bank 1 given up, the demodulator of a switching lane
restarted where DFREQ or DPH changed. -/
def State.storeLaneCfg (s : State) (e : Nat) (v : Word) : State :=
  let ix := [e / 256, e % 256]
  let s0 := s.wrCodes .LANE_CFG ix v
  let s1 := { s0 with pth := { s0.pth with bank1 := s0.pth.bank1.filter (· ≠ e) } }
  let s2 := if isCuffE e then s1 else s1.setF LANE_CFG.DFREQ ix (clampN 19 56 (fget 10 6 v))
  if (s2.f LANE_CFG.DFREQ ix ≠ s.f LANE_CFG.DFREQ ix ∨ s2.f LANE_CFG.DPH ix ≠ s.f LANE_CFG.DPH ix) ∧ isCuffE e = false
  then s2.setLane e (s2.lane e).restart else s2

theorem doLaneCfgWrite_eq (e : Nat) (v : Word) (s : State) :
    doLaneCfgWrite e v s = if bit 1 v then (s.storeLaneCfg e v).restartLane e else s.storeLaneCfg e v := rfl

/-- The store changes the register of the lane, and of the lane at most its demodulator; a Cuff lane has none. -/
structure LaneCfgStored (e : Nat) (s u : State) : Prop where
  regs : otherRegs [Reg.LANE_CFG.at [e / 256, e % 256]] s u
  keeps : Keeps 0x214 s u
  others : otherLanes e s u
  lane : u.lane e = s.lane e ∨ u.lane e = (s.lane e).restart
  cuff : isCuffE e = true → u.lanes = s.lanes

theorem storeLaneCfg_stored (s : State) (e : Nat) (v : Word) : LaneCfgStored e s (s.storeLaneCfg e v) := by
  unfold State.storeLaneCfg
  extract_lets ix s0 p s1 s2
  have hregs : otherRegs [Reg.LANE_CFG.at ix] s s2 := by
    have hwr : otherRegs [Reg.LANE_CFG.at ix] s s1 := .trans (otherRegs_wrCodes s .LANE_CFG ix v) (.of_regs rfl)
    simp only [s2]
    split
    · exact hwr
    · exact hwr.trans (.setF (.head _))
  have hkeeps : Keeps 0x204 s s2 := by
    have hbank : Keeps 0x204 s s1 := Keeps.upd ((wrCodes_keeps ..).step .refl rfl)
    exact .ite hbank ((setF_keeps ..).step hbank rfl)
  have hlane : ∀ x, s2.lane x = s.lane x := hkeeps.lane rfl
  split
  case isTrue h =>
    refine ⟨hregs.trans (.of_regs rfl), (setLane_keeps ..).step (hkeeps.step .refl rfl) rfl, fun x hx => ?_, .inr ?_,
      fun hc => absurd (hc.symm.trans h.2) nofun⟩
    · rw [lane_setLane_ne _ _ hx.symm, hlane]
    · rw [lane_setLane_same, hlane]
  case isFalse =>
    exact ⟨hregs, hkeeps.step .refl rfl, fun x _ => hlane x, .inl (hlane e), fun _ => hkeeps.frame .lanes rfl⟩

section
variable {e : Nat} {s u : State} (h : LaneCfgStored e s u)
include h

/-- Nothing that a RESTART looks at changes. -/
theorem LaneCfgStored.same {α : Type} (g : Lane → α) (hg : ∀ l : Lane, g l.restart = g l) : g (u.lane e) = g (s.lane e) := by
  rcases h.lane with hl | hl <;> rw [hl]
  exact hg _

theorem LaneCfgStored.stickyEn : u.stickyEn e = s.stickyEn e := by
  have hreg : u.f SLV_FLT_EN.EN [e / 256] = s.f SLV_FLT_EN.EN [e / 256] :=
    f_of_otherRegs h.regs (h.keeps.stage rfl) (by simp only [SLV_FLT_EN.EN, Reg.at, Reg.row, dimOff, List.mem_singleton]; omega)
  simp only [State.stickyEn, hreg, h.same Lane.sticky fun _ => rfl]

theorem LaneCfgStored.restartLost : u.restartLost e ↔ s.restartLost e := by
  have hclr : u.clr = s.clr := h.keeps.frame .clr rfl
  simp only [State.restartLost, h.stickyEn, h.same Lane.tr fun _ => rfl, hclr]

end

theorem exec_laneRestart {s : State} (ho : s.isOpen = true) (e : Fin 36864) (v : Word) (t : Nat) :
    exec (.laneRestart e v t) s = .next (((s.passTo t).storeLaneCfg e (v ||| 2)).restartLane e) := by
  have hbit : bit 1 (v ||| 2) = true := by simp [bit_eq_getLsbD]
  have hopen : s.shut .LANE_CFG [e / 256, e % 256] = false := not_shut ho (.inr (by decide)) nofun
  exact congrArg Host.Outcome.next ((hostWr_of_not_shut hopen).trans ((doLaneCfgWrite_eq ..).trans (if_pos hbit)))

theorem restartLost_passTo {s : State} (ho : s.isOpen = true) (t e : Nat) : (s.passTo t).restartLost e
    ↔ s.stickyEn e = true ∨ (s.lane e).tr.any (fun x => x.t0 == max s.clr.now t) = true := by
  rw [State.restartLost, passTo_stickyEn, passTo_lane, now_passTo ho]

/-- A switching lane in FAULT outside P2 whose RESTART is taken. -/
theorem runs_laneRestart_fault {s : State} (ho : s.isOpen = true) (e : Fin 36864) (v : Word) (t : Nat)
    (hsticky : s.stickyEn e = false) (htr : (s.lane e).tr.any (fun x => x.t0 == max s.clr.now t) = false)
    (hst : (s.lane e).st = .fault) (hcuf : isCuffE e = false) (hp2 : (s.cl (e.val / 256)).p2 = false) :
    Runs (.laneRestart e v t) s fun u => (u.lane e).isol = false ∧ (u.lane e).fill = 0
      ∧ (u.lane e).st = (if (s.lane e).lit then .acquire else .hold) ∧ otherLanes e s u := by
  have hstored := storeLaneCfg_stored (s.passTo t) e (v ||| 2)
  obtain ⟨w, hw⟩ : ∃ w, w = (s.passTo t).storeLaneCfg e (v ||| 2) := ⟨_, rfl⟩
  rw [← hw] at hstored
  have hlost : ¬ w.restartLost e := by simp [hstored.restartLost, restartLost_passTo ho, hsticky, htr]
  have hfault : (w.lane e).st = .fault := (hstored.same Lane.st fun _ => rfl).trans (by rwa [passTo_lane])
  have hlit : (w.lane e).lit = (s.lane e).lit := (hstored.same Lane.lit fun _ => rfl).trans (by rw [passTo_lane])
  have hcl : (w.cl (e / 256)).p2 = false := by rw [hstored.keeps.cl rfl, passTo_cl, hp2]
  have hnote : (w.noteRestart e).lane e = { w.lane e with isol := false, rstAt := some (w.clr.now, (w.lane e).isol) } :=
    lane_setLane_same ..
  obtain ⟨hfill, hback⟩ := reenter_switching (s := w.noteRestart e) hcuf hcl (by rw [hnote, hfault])
  refine ⟨_, exec_laneRestart ho e v t, ?_⟩
  rw [← hw]
  refine ⟨(restartLane_taken_facts hlost).1, ?_, ?_, fun x hx => ?_⟩
  · rw [restartLane_taken hlost, if_pos hfault, hfill]
  · rw [restartLane_taken hlost, if_pos hfault, hback, hnote, hlit]
  · rw [restartLane_turn.others x hx, hstored.others x hx, passTo_lane]

/-- A Cuff lane whose RESTART is discarded. -/
theorem runs_laneRestart_lost {s : State} (ho : s.isOpen = true) (e : Fin 36864) (v : Word) (t : Nat)
    (hlost : s.stickyEn e = true ∨ (s.lane e).tr.any (fun x => x.t0 == max s.clr.now t) = true) (hcuf : isCuffE e = true) :
    Runs (.laneRestart e v t) s fun u => u.lanes = s.lanes := by
  have hstored := storeLaneCfg_stored (s.passTo t) e (v ||| 2)
  refine .of_eq (exec_laneRestart ho e v t) (restartLane_lost ?_) ((hstored.cuff hcuf).trans (passTo_lanes s t))
  rwa [hstored.restartLost, restartLost_passTo ho]

/-! ### A write of SLV_CTRL (R75, R79, R83) -/

/-- What a write of SLV_CTRL stores before RESTART_ALL acts: the register, and the learning time from 0 where RUN rises. -/
def State.storeSlvCtrl (s : State) (c : Nat) (v : Word) : State :=
  let s1 := s.wrCodes .SLV_CTRL [c] v
  if !s.fb SLV_CTRL.RUN [c] && bit 0 v then s1.setCl c { s1.cl c with tick := 0 } else s1

theorem doSlvCtrlWrite_eq (c : Nat) (v : Word) (s : State) : doSlvCtrlWrite c v s
    = if bit 2 v then forLanes c State.restartLane (s.storeSlvCtrl c v) else s.storeSlvCtrl c v := rfl

theorem storeSlvCtrl_keeps (s : State) (c : Nat) (v : Word) : Keeps 0x24 s (s.storeSlvCtrl c v) := by
  have hwr : Keeps 0x24 s (s.wrCodes .SLV_CTRL [c] v) := (wrCodes_keeps ..).step .refl rfl
  exact .ite ((setCl_keeps ..).step hwr rfl) hwr

theorem storeSlvCtrl_regs (s : State) (c : Nat) (v : Word) : (s.storeSlvCtrl c v).regs = (s.wrCodes .SLV_CTRL [c] v).regs := by
  unfold State.storeSlvCtrl
  extract_lets s1
  split <;> rfl

theorem storeSlvCtrl_RUN (s : State) (c : Nat) (v : Word) : (s.storeSlvCtrl c v).fb SLV_CTRL.RUN [c] = bit 0 v := by
  have hreg : (s.storeSlvCtrl c v).reg .SLV_CTRL [c] = (s.wrCodes .SLV_CTRL [c] v).reg .SLV_CTRL [c] :=
    reg_congr (storeSlvCtrl_regs s c v) ((storeSlvCtrl_keeps s c v).stage rfl) ..
  have hrw : Reg.SLV_CTRL.row.rw.testBit 0 = true := by decide
  have hwc : Reg.SLV_CTRL.row.w1c.testBit 0 = false := by decide
  rw [fb_eq_bit _ rfl, show SLV_CTRL.RUN.reg = .SLV_CTRL from rfl, show SLV_CTRL.RUN.lo = 0 from rfl, hreg,
    bit_reg_wrCodes _ _ _ _ (by decide), hrw, hwc]
  rfl

theorem storeSlvCtrl_restartLost (s : State) (c : Nat) (v : Word) (e : Nat) : (s.storeSlvCtrl c v).restartLost e ↔ s.restartLost e := by
  have hk := storeSlvCtrl_keeps s c v
  have hregs : otherRegs [Reg.SLV_CTRL.at [c]] s (s.storeSlvCtrl c v) :=
    .trans (otherRegs_wrCodes s .SLV_CTRL [c] v) (.of_regs (storeSlvCtrl_regs s c v))
  have hclr : (s.storeSlvCtrl c v).clr = s.clr := hk.frame .clr rfl
  have hf : (s.storeSlvCtrl c v).f SLV_FLT_EN.EN [e / 256] = s.f SLV_FLT_EN.EN [e / 256] :=
    f_of_otherRegs hregs (hk.stage rfl) (by simp only [SLV_FLT_EN.EN, Reg.at, Reg.row, dimOff, List.mem_singleton]; omega)
  simp only [State.restartLost, State.stickyEn, hf, hk.lane rfl, hclr]

theorem exec_restartAll {s : State} (ho : s.isOpen = true) (c : Fin 144) (v : Word) (t : Nat) :
    exec (.restartAll c v t) s = .next (forLanes c State.restartLane ((s.passTo t).storeSlvCtrl c (v ||| 4))) := by
  have hbit : bit 2 (v ||| 4) = true := by simp [bit_eq_getLsbD]
  have hopen : s.shut .SLV_CTRL [c.val] = false := not_shut ho (.inr (by decide)) nofun
  exact congrArg Host.Outcome.next ((hostWr_of_not_shut hopen).trans ((doSlvCtrlWrite_eq ..).trans (if_pos hbit)))

/-- A loop over a cluster leaves the lanes beside it and what they read. -/
theorem forLanes_beside {f : State → Nat → State} (hf : ∀ u e, LaneTurn e u (f u e)) {c x : Nat} (hx : x / 256 ≠ c) (s : State) :
    Beside x s (forLanes c f s) :=
  forLanes_rel (fun _ => .refl) .trans (fun u e he => (hf u e).beside (by rintro rfl; exact hx he)) s

/-- The turn of a lane in a loop over its cluster. -/
theorem forLanes_own_turn {f : State → Nat → State} (hf : ∀ u e, LaneTurn e u (f u e)) (x : Nat) (s : State) :
    ∃ u, Beside x s u ∧ Beside x (f u x) (forLanes (x / 256) f s) :=
  forLanes_turn (fun _ => .refl) .trans rfl (fun u e he => (hf u e).beside he) s

theorem Beside.restartLost {x : Nat} {s u : State} (h : Beside x s u) : u.restartLost x ↔ s.restartLost x := by
  have hclr : u.clr = s.clr := h.keeps.frame .clr rfl
  simp only [State.restartLost, h.stickyEn, h.lane, hclr]

/-- RESTART_ALL lane by lane. -/
theorem forLanes_restartLane (x : Nat) (s : State) :
    (s.restartLost x → (forLanes (x / 256) State.restartLane s).lane x = s.lane x)
    ∧ (¬ s.restartLost x → ((forLanes (x / 256) State.restartLane s).lane x).isol = false
        ∧ ((forLanes (x / 256) State.restartLane s).lane x).st ≠ .fault) := by
  obtain ⟨u, hbefore, hafter⟩ := forLanes_own_turn (fun u e => restartLane_turn (s := u) (e := e)) x s
  rw [hafter.lane]
  refine ⟨fun h => ?_, fun h => restartLane_taken_facts fun hu => h (hbefore.restartLost.1 hu)⟩
  rw [restartLane_lost (hbefore.restartLost.2 h), hbefore.lane]

theorem runs_restartAll {s : State} (ho : s.isOpen = true) (c : Fin 144) (v : Word) (t : Nat) :
    Runs (.restartAll c v t) s fun u => (∀ x, x / 256 ≠ c.val → u.lane x = s.lane x)
      ∧ (∀ x, x / 256 = c.val → s.stickyEn x = true ∨ (s.lane x).tr.any (fun y => y.t0 == max s.clr.now t) = true →
          u.lane x = s.lane x)
      ∧ (∀ x, x / 256 = c.val → s.stickyEn x = false → (s.lane x).tr.any (fun y => y.t0 == max s.clr.now t) = false →
          (u.lane x).isol = false ∧ (u.lane x).st ≠ .fault)
      ∧ u.fb SLV_CTRL.RUN [c.val] = bit 0 v := by
  have hlane : ∀ x, ((s.passTo t).storeSlvCtrl c (v ||| 4)).lane x = s.lane x := fun x => by
    rw [(storeSlvCtrl_keeps ..).lane rfl, passTo_lane]
  have hlost : ∀ x, ((s.passTo t).storeSlvCtrl c (v ||| 4)).restartLost x
      ↔ s.stickyEn x = true ∨ (s.lane x).tr.any (fun y => y.t0 == max s.clr.now t) = true := fun x => by
    rw [storeSlvCtrl_restartLost, restartLost_passTo ho]
  have hout : ∀ x, x / 256 ≠ c.val → Beside x ((s.passTo t).storeSlvCtrl c (v ||| 4))
      (forLanes c State.restartLane ((s.passTo t).storeSlvCtrl c (v ||| 4))) :=
    fun x hx => forLanes_beside (fun _ _ => restartLane_turn) hx _
  refine ⟨_, exec_restartAll ho c v t, fun x hx => ?_, fun x hx h => ?_, fun x hx h1 h2 => ?_, ?_⟩
  · rw [(hout x hx).lane, hlane]
  · rw [← hx, (forLanes_restartLane x _).1 (by rw [hx]; exact (hlost x).2 h), hx, hlane]
  · rw [← hx]
    exact (forLanes_restartLane x _).2 fun h => by
      rw [hx, hlost, h1, h2] at h
      simp at h
  · have hreg := (hout (256 * (c + 1)) (by omega)).f_cluster (y := SLV_CTRL.RUN) (by decide) c
    have hbit : bit 0 (v ||| 4) = bit 0 v := by simp [bit_eq_getLsbD]
    rw [State.fb, hreg, ← hbit, ← storeSlvCtrl_RUN (s.passTo t), State.fb]

/-! ### The statement -/

/-- Settles O15: set-point writes store and note, a RESTART is lost or taken, and in RESTART_ALL each lane has its own turn. -/
theorem setPointsAndRestarts : Obligations.SetPointsAndRestarts := by
  unfold Obligations.SetPointsAndRestarts
  refine ⟨fun s e k v ho => ⟨fun hoff => ?off, fun hon => ?stored⟩, fun s e c v t ho =>
    ⟨runs_laneRestart_fault ho e v t, runs_laneRestart_lost ho e v t, runs_restartAll ho c v t⟩⟩
  case off =>
    exact .of_eq (exec_setptWrite s e k v) (hostWr_of_shut ((shut_SETPT ho _).trans hoff)) rfl
  case stored =>
    obtain ⟨hothers, hregs⟩ := doSetptWrite_frame e (decide (k = 1)) v s
    have hk := doSetptWrite_keeps e (decide (k = 1)) v s
    rw [b2n_decide_one] at hregs
    refine .of_eq (exec_setptWrite s e k v) (hostWr_of_not_shut ((shut_SETPT ho _).trans hon)) ⟨?_, doSetptWrite_lane .., hothers,
      .trans (.setReg (.head _)) (.of_regs hregs), hk.changesOnly rfl⟩
    rw [reg_congr hregs (hk.stage rfl), reg_setReg_same]

end Sys2Proof.Machine
end

section
/-! PROOF. A loop update (O16). -/
namespace Sys2Proof.Machine

/-! ### The integrator and its limit (R73, R74) -/

theorem limit_i (l : Lane) {lim : Int} (h : 0 ≤ lim) (i : Int) : (l.limit lim i).i = clampI (-lim) lim i := by
  by_cases hhi : lim < i
  · rw [Lane.limit, if_pos hhi, clampI, if_neg (by omega), if_pos hhi]
  by_cases hlo : i < -lim
  · rw [Lane.limit, if_neg hhi, if_pos hlo, clampI, if_pos hlo]
  · rw [Lane.limit, if_neg hhi, if_neg hlo, clampI, if_neg hlo, if_neg hhi]

/-- Within the limit the update adds d. -/
theorem addInt_within {l : Lane} {lim : Int} (h : (l.i.natAbs : Int) ≤ lim) (d : Int) :
    (l.addInt lim d).i = clampI (-lim) lim (l.i + d) := by
  rw [Lane.addInt, if_neg (Int.not_lt.2 h), limit_i _ (by omega)]

/-- Beyond a limit lowered since, it takes the limit with its sign and sets the flag of that side. -/
theorem addInt_beyond {l : Lane} {lim : Int} (h0 : 0 ≤ lim) (h : lim < l.i.natAbs) (d : Int) :
    (l.addInt lim d).i = (if 0 < l.i then lim else -lim)
      ∧ (l.addInt lim d).sticky = l.sticky ||| stk (if 0 < l.i then 0 else 1) := by
  rw [Lane.addInt, if_pos h, Lane.limit]
  by_cases hp : 0 < l.i
  · rw [if_pos (by omega : lim < l.i), if_pos hp, if_pos hp]
    exact ⟨rfl, rfl⟩
  · rw [if_neg (by omega : ¬ lim < l.i), if_pos (by omega : l.i < -lim), if_neg hp, if_neg hp]
    exact ⟨rfl, rfl⟩

theorem intLim_nonneg (s : State) (x : Nat) : 0 ≤ s.intLim x := by
  unfold State.intLim
  omega

/-! ### The turn of a lane at a loop update -/

/-- What the update adds to the integrator of a switching lane (R73, R91). -/
def State.loopAdd (s : State) (x : Nat) (l : Lane) : Int :=
  (if s.polOf x then 1 else -1) * asr ((s.gainOf x l.e : Int) * l.e * (s.div : Int)) 12

/-- The lane l' is what an update of the switching lane x makes of l. -/
def State.LoopUpdated (s : State) (x : Nat) (l l' : Lane) : Prop :=
  (l.i.natAbs ≤ s.intLim x → l'.i = clampI (-(s.intLim x)) (s.intLim x) (l.i + s.loopAdd x l))
  ∧ (s.intLim x < l.i.natAbs → l'.i = (if 0 < l.i then s.intLim x else -(s.intLim x))
      ∧ l'.sticky = l.sticky ||| stk (if 0 < l.i then 0 else 1))
  ∧ l'.drv = s.sp x l.cmd + asr l'.i 8 ∧ l'.st = l.st

theorem integrate_switching (s : State) {x : Nat} (hcuf : isCuffE x = false) {l : Lane} (hhi : l.clampHi = false)
    (hlo : l.clampLo = false) : (s.integrate x l).i = (l.addInt (s.intLim x) (s.loopAdd x l)).i
      ∧ (s.integrate x l).sticky = (l.addInt (s.intLim x) (s.loopAdd x l)).sticky
      ∧ (s.integrate x l).drv = s.sp x l.cmd + asr (s.integrate x l).i 8 := by
  have hadd : s.loopAdd x l = if s.polOf x then asr ((s.gainOf x l.e : Int) * l.e * (s.div : Int)) 12
      else -asr ((s.gainOf x l.e : Int) * l.e * (s.div : Int)) 12 := by
    unfold State.loopAdd
    split <;> simp
  simp [State.integrate, hcuf, hhi, hlo, hadd]

theorem integrate_updated (s : State) {x : Nat} (hcuf : isCuffE x = false) {l : Lane} (hhi : l.clampHi = false)
    (hlo : l.clampLo = false) : s.LoopUpdated x l (s.integrate x l) := by
  obtain ⟨hi, hsticky, hdrv⟩ := integrate_switching s hcuf hhi hlo
  refine ⟨fun hin => hi.trans (addInt_within hin _), fun hout => ?_, hdrv, st_integrate ..⟩
  rw [hi, hsticky]
  exact addInt_beyond (intLim_nonneg s x) hout _

/-- A switching lane that a loop update integrates: its loop is on and runs, nothing keeps it from being updated. -/
structure State.Integrates (s : State) (x : Nat) : Prop where
  safe : s.flt.safe = false
  cuff : isCuffE x = false
  on : s.loopOn x = true
  runs : (s.lane x).st.runs = true
  isol : (s.lane x).isol = false
  adj : (s.lane x).spAdj = 0
  hi : (s.lane x).clampHi = false
  lo : (s.lane x).clampLo = false

theorem takeDamp_lane {s : State} {x : Nat} (h : (s.lane x).st ≠ .profile) :
    (s.takeDamp x).lane x = { s.lane x with damp := s.damp x } := by
  unfold State.takeDamp
  extract_lets l
  split
  next hd =>
    have hdamp : l.damp = s.damp x := hd.resolve_left h
    rw [← hdamp]
  · exact lane_setLane_same ..

/-- What DAMP leaves: the update of a switching lane does not read it. -/
theorem takeDamp_integrate (s : State) {x : Nat} (hcuf : isCuffE x = false) (l : Lane) :
    (s.takeDamp x).integrate x l = s.integrate x l := by
  unfold State.takeDamp
  extract_lets l0
  split
  · rfl
  · simp only [State.integrate, hcuf, Bool.false_eq_true, if_false]
    rfl

theorem takeDamp_loopOn (s : State) (x e : Nat) : (s.takeDamp e).loopOn x = s.loopOn x := by
  unfold State.takeDamp
  extract_lets l
  split <;> rfl

theorem loopLane_integrates {s : State} {x : Nat} (h : s.Integrates x) :
    (s.loopLane x).lane x = s.integrate x { s.lane x with damp := s.damp x } := by
  have hoff : (s.lane x).st ≠ .off := fun he => absurd (he ▸ h.runs) nofun
  have hprof : (s.lane x).st ≠ .profile := fun he => absurd (he ▸ h.runs) nofun
  have hsafe : (s.takeDamp x).flt.safe = false := by
    have hflt : (s.takeDamp x).flt = s.flt := takeDamp_turn.keeps.frame .flt rfl
    rw [hflt, h.safe]
  unfold State.loopLane
  extract_lets s1 l l1 l2
  have hl : l = { s.lane x with damp := s.damp x } := takeDamp_lane hprof
  have hl2 : l2 = s.integrate x { s.lane x with damp := s.damp x } := by
    have hadj : l1 = l := if_pos (by rw [hl]; exact h.adj)
    have hrun : (l.st.runs && !l.isol && !s1.flt.safe) = true := by rw [hl, hsafe, h.runs, h.isol]; rfl
    simp only [l2]
    rw [if_pos hrun, hadj, takeDamp_integrate s h.cuff, hl]
  rw [takeDamp_loopOn, h.on, if_neg (by simp), if_neg (by rw [hl]; exact hoff), if_neg (by rw [hl]; exact hprof)]
  split
  next hsame => exact (show s1.lane x = l from rfl).trans (hsame.symm.trans hl2)
  · rw [lane_putLane_same, hl2]

theorem loopLane_updated {s : State} {x : Nat} (h : s.Integrates x) : s.LoopUpdated x (s.lane x) ((s.loopLane x).lane x) :=
  loopLane_integrates h ▸ integrate_updated s h.cuff (l := { s.lane x with damp := s.damp x }) h.hi h.lo

/-- A lane in PROFILE has an idle turn. -/
theorem loopLane_profile {s : State} {x : Nat} (h : (s.lane x).st = .profile) : (s.loopLane x).lane x = s.lane x := by
  have hdamp : s.takeDamp x = s := if_pos (.inl h)
  simp [State.loopLane, hdamp, h]

theorem Beside.integrates {x : Nat} {s u : State} (h : Beside x s u) (hs : s.Integrates x) : u.Integrates x := by
  have hflt : u.flt = s.flt := h.keeps.frame .flt rfl
  exact ⟨by rw [hflt, hs.safe], hs.cuff, by rw [h.loopOn, hs.on], by rw [h.lane, hs.runs], by rw [h.lane, hs.isol],
    by rw [h.lane, hs.adj], by rw [h.lane, hs.hi], by rw [h.lane, hs.lo]⟩

theorem Beside.loopUpdated {x : Nat} {s u : State} (h : Beside x s u) {l l' : Lane} (hu : u.LoopUpdated x l l') :
    s.LoopUpdated x l l' := by
  simpa only [State.LoopUpdated, State.loopAdd, h.intLim, h.polOf, h.gainOf, h.div, h.sp] using hu

/-- The lane after a loop over its cluster. -/
theorem forLanes_loopLane {s : State} {x : Nat} (h : s.Integrates x) :
    s.LoopUpdated x (s.lane x) ((forLanes (x / 256) State.loopLane s).lane x) := by
  obtain ⟨u, hbefore, hafter⟩ := forLanes_own_turn (fun u e => loopLane_turn (s := u) (e := e)) x s
  rw [hafter.lane, ← hbefore.lane]
  exact hbefore.loopUpdated (loopLane_updated (hbefore.integrates h))

theorem forLanes_loopLane_profile {s : State} {x : Nat} (h : (s.lane x).st = .profile) :
    (forLanes (x / 256) State.loopLane s).lane x = s.lane x := by
  obtain ⟨u, hbefore, hafter⟩ := forLanes_own_turn (fun u e => loopLane_turn (s := u) (e := e)) x s
  rw [hafter.lane, loopLane_profile (by rwa [hbefore.lane]), hbefore.lane]

/-! ### The statement -/

theorem passTo_folded (s : State) (t : Nat) : (s.passTo t).folded = s.folded := passTo_congr s t (·.folded) fun _ => rfl

/-- The lanes after a loop update: none moves in P3 and P4. -/
theorem doLoopUpdate_lane (c t : Nat) (s : State) (x : Nat) : (doLoopUpdate c t s).lane x
    = if s.folded then s.lane x else (forLanes c State.loopLane (s.passTo t)).lane x := by
  have hcl : (doLoopUpdate c t s).lane x
      = (if (s.passTo t).folded then s.passTo t else forLanes c State.loopLane (s.passTo t)).lane x := rfl
  rw [hcl, passTo_folded]
  split
  · exact passTo_lane ..
  · rfl

theorem integrates_passTo {s : State} {x : Nat} (h : s.Integrates x) (t : Nat) : (s.passTo t).Integrates x := by
  unfold State.passTo
  split
  · exact ⟨h.safe, h.cuff, h.on, h.runs, h.isol, h.adj, h.hi, h.lo⟩
  · exact h

/-- Settles O16: RUN takes effect, and each lane of the cluster has its turn, in which what it reads is as it was. -/
theorem loopUpdate : Obligations.LoopUpdate := by
  unfold Obligations.LoopUpdate
  refine fun s c t => ⟨_, rfl, ?run, fun x hx => ?others, fun x hst => ?profile, fun hf => ?unpowered,
    fun hf hsafe x hx hcuf hon hrun hisol hadj hhi hlo => ?updated⟩
  case run =>
    have hrun : ((doLoopUpdate c t s).cl c).runAct = (s.passTo t).fb SLV_CTRL.RUN [c.val] := by
      rw [doLoopUpdate, cl_setCl_same]
    rw [hrun, passTo_fb]
  case others =>
    rw [doLoopUpdate_lane, (forLanes_beside (fun _ _ => loopLane_turn) hx _).lane, passTo_lane, ite_self]
  case profile =>
    rw [doLoopUpdate_lane]
    by_cases hx : x / 256 = c.val
    · rw [← hx, forLanes_loopLane_profile (by rwa [passTo_lane]), passTo_lane, ite_self]
    · rw [(forLanes_beside (fun _ _ => loopLane_turn) hx _).lane, passTo_lane, ite_self]
  case unpowered =>
    have hcl : (doLoopUpdate c t s).lanes
        = (if (s.passTo t).folded then s.passTo t else forLanes c State.loopLane (s.passTo t)).lanes := rfl
    rw [hcl, passTo_folded, if_pos hf, passTo_lanes]
  case updated =>
    have hs : s.Integrates x := ⟨hsafe, hcuf, hon, hrun, hisol, hadj, hhi, hlo⟩
    have hturn := forLanes_loopLane (integrates_passTo hs t)
    rw [passTo_congr s t (State.LoopUpdated · x) fun _ => rfl, passTo_lane] at hturn
    rw [doLoopUpdate_lane, hf, if_neg (by decide), ← hx]
    exact hturn

end Sys2Proof.Machine
end

section
/-! PROOF. A learning tick (O17). -/
namespace Sys2Proof.Machine

/-! ### Set-points under a store -/

/-- A set-point whose register no write of l reached reads the same. -/
theorem sp_of_otherRegs {l : List Nat} {s u : State} (h : otherRegs l s u) (hs : u.sys.stage = s.sys.stage) {x : Nat} {k : Bool}
    (hx : Reg.SETPT.at [x / 256, x % 256, b2n k] ∉ l) : u.sp x k = s.sp x k :=
  congrArg (spCode x) (f_of_otherRegs h hs hx)

theorem setpt_notMem_suppRegs (x : Nat) (k : Bool) : Reg.SETPT.at [x / 256, x % 256, b2n k] ∉ suppRegs := fun h => by
  have := suppRegs_bounds _ h
  rw [at_SETPT] at this
  omega

/-- Storing a lane leaves the set-points. -/
theorem sp_putLane_of_no_fault {s : State} {e : Nat} {l : Lane} (h : l.st = .fault → (s.lane e).st = .fault) (x : Nat) (k : Bool) :
    (s.putLane e l).sp x k = s.sp x k :=
  sp_of_otherRegs (otherRegs_putLane_of_no_fault h) ((putLane_keeps_of_no_fault h).stage rfl) (setpt_notMem_suppRegs x k)

theorem at_SETPT_ne_at_SLV_LRN_CNT (x : Nat) (k : Bool) (c : Nat) : Reg.SETPT.at [x / 256, x % 256, b2n k] ≠ Reg.SLV_LRN_CNT.at [c] := by
  have hk : b2n k < 2 := by cases k <;> decide
  rw [at_SETPT, at_SLV_LRN_CNT]
  omega

theorem foldSp_zero (s : State) (x : Nat) : s.foldSp x 0 = s := by simp [State.foldSp]

/-- A fold leaves the set-point of the other slot. -/
theorem sp_foldSp_other (s : State) (x : Nat) (a : Int) : (s.foldSp x a).sp x (!(s.lane x).cmd) = s.sp x (!(s.lane x).cmd) := by
  unfold State.foldSp
  split
  · rfl
  · have hregs : otherRegs [Reg.SETPT.at [x / 256, x % 256, b2n (s.lane x).cmd], Reg.SLV_LRN_CNT.at [x / 256]] s
        ((s.setSp x (s.lane x).cmd (s.sp x (s.lane x).cmd + a)).bump .SLV_LRN_CNT [x / 256] 1) :=
      .trans (.setF (.head _)) (.bump (.tail _ (.head _)))
    refine sp_of_otherRegs hregs rfl ?_
    have hslot : Reg.SETPT.at [x / 256, x % 256, b2n (!(s.lane x).cmd)] ≠ Reg.SETPT.at [x / 256, x % 256, b2n (s.lane x).cmd] := by
      rw [at_SETPT, at_SETPT]
      cases (s.lane x).cmd <;> simp [b2n]
    simp [hslot, at_SETPT_ne_at_SLV_LRN_CNT]

/-- A code of the format of a switching lane comes back as it was stored (R77). -/
theorem spCode_spBits {x : Nat} (hcuf : isCuffE x = false) {v : Int} (h : -32768 ≤ v ∧ v ≤ 32767) :
    spCode x (spBits x v % 2 ^ SETPT.SP.len) = v := by
  have hlen : SETPT.SP.len = 16 := rfl
  have hbits : spBits x v = low 16 v := by simp [spBits, hcuf, h]
  simp only [spCode, hcuf, hbits, hlen, sgn, low, Bool.false_eq_true, if_false, Nat.reducePow, Nat.reduceSub]
  split <;> omega

theorem sp_setSp_same (s : State) (x : Nat) (k : Bool) (v : Int) :
    (s.setSp x k v).sp x k = spCode x (spBits x v % 2 ^ SETPT.SP.len) :=
  congrArg (spCode x) (f_setF_same s SETPT.SP _ _ (by decide))

theorem sp_bump_SLV_LRN_CNT (s : State) (x c n : Nat) (k : Bool) : (s.bump .SLV_LRN_CNT [c] n).sp x k = s.sp x k :=
  sp_of_otherRegs (l := [Reg.SLV_LRN_CNT.at [c]]) (.bump (.head _)) rfl fun h =>
    at_SETPT_ne_at_SLV_LRN_CNT x k c (List.mem_singleton.1 h)

/-- A fold moves the set-point of the commanded slot by a, where the sum is in the format. -/
theorem sp_foldSp_same {s : State} {x : Nat} (hcuf : isCuffE x = false) {a : Int}
    (h : a = 0 ∨ -32768 ≤ s.sp x (s.lane x).cmd + a ∧ s.sp x (s.lane x).cmd + a ≤ 32767) :
    (s.foldSp x a).sp x (s.lane x).cmd = s.sp x (s.lane x).cmd + a := by
  by_cases ha : a = 0
  · rw [ha, foldSp_zero, Int.add_zero]
  · have hfold : s.foldSp x a = (s.setSp x (s.lane x).cmd (s.sp x (s.lane x).cmd + a)).bump .SLV_LRN_CNT [x / 256] 1 := if_neg ha
    rw [hfold, sp_bump_SLV_LRN_CNT, sp_setSp_same, spCode_spBits hcuf (h.resolve_left ha)]

/-- A part that is folded leads into the limits around the reference. -/
theorem foldPart_within (sp ref lim t : Int) : foldPart sp ref lim t = 0
    ∨ ref - lim ≤ sp + foldPart sp ref lim t ∧ sp + foldPart sp ref lim t ≤ ref + lim := by
  unfold foldPart
  extract_lets a b
  split_ifs <;> omega

/-! ### The turn of a lane at a tick -/

/-- Lane x learns nothing at a tick: not LOCKED, or one of the conditions that keep a fold away (R79, R396, R398, R81). -/
def State.LearnsNot (s : State) (x : Nat) : Prop :=
  (s.lane x).st ≠ .locked ∨ s.learnEn x = false ∨ (s.lane x).isol = true ∨ s.flt.safe = true
    ∨ (s.lane x).spAt = some ((s.lane x).cmd, s.clr.now)

theorem foldOf_idle {s : State} {x : Nat} {l : Lane} (h : s.learnEn x = false ∨ l.isol = true ∨ s.flt.safe = true
    ∨ l.spAt = some (l.cmd, s.clr.now)) (sh : Nat) : s.foldOf x l sh = (l, 0) :=
  if_pos (by simpa [or_assoc] using h)

theorem learnLane_idle {s : State} {x : Nat} (h : s.LearnsNot x) :
    (s.learnLane x).lane x = s.lane x ∧ ∀ k, (s.learnLane x).sp x k = s.sp x k := by
  by_cases hst : (s.lane x).st = .locked
  · have hput : s.learnLane x = s.putLane x (s.lane x) := by
      simp [State.learnLane, hst, foldOf_idle (h.resolve_left (not_not_intro hst)), foldSp_zero]
    rw [hput]
    exact ⟨lane_putLane_same .., sp_putLane_of_no_fault id x⟩
  · have hsame : s.learnLane x = s := if_neg hst
    rw [hsame]
    exact ⟨rfl, fun _ => rfl⟩

/-- The part of the integrator of lane x that a tick may fold (R79). -/
def State.learnt (s : State) (x : Nat) : Int := asr (s.lane x).i (8 + s.f SLV_LEARN.LFRAC [x / 256])

/-- The part that it does fold. -/
def State.learnPart (s : State) (x : Nat) : Int :=
  foldPart (s.sp x (s.lane x).cmd) (s.spRef x (s.lane x).cmd) (s.f SLV_LIM.LEARN_LIM [x / 256]) (s.learnt x)

/-- The lane after it folded a: the flag is set where a part stays (R79). -/
def State.learntLane (s : State) (x : Nat) (a : Int) : Lane :=
  { s.lane x with
    i := (s.lane x).i - a * 256, sticky := if a = s.learnt x then (s.lane x).sticky else (s.lane x).sticky ||| stk 5 }

/-- The tick from s to u folds a into the set-point in force of lane x (R79). -/
structure State.Learns (s : State) (x : Nat) (a : Int) (u : State) : Prop where
  lane : u.lane x = s.learntLane x a
  own : (s.spRef x (s.lane x).cmd).natAbs + s.f SLV_LIM.LEARN_LIM [x / 256] ≤ 32767 →
    u.sp x (s.lane x).cmd = s.sp x (s.lane x).cmd + a
  other : u.sp x (!(s.lane x).cmd) = s.sp x (!(s.lane x).cmd)

theorem foldOf_learns {s : State} {x : Nat} (h : ¬ s.LearnsNot x) (hback : s.cal.back.contains x = false) :
    s.foldOf x (s.lane x) (8 + s.f SLV_LEARN.LFRAC [x / 256]) = (s.learntLane x (s.learnPart x), s.learnPart x) := by
  simp only [State.LearnsNot, not_or, Bool.not_eq_false, Bool.not_eq_true, ne_eq, not_not] at h
  obtain ⟨-, hen, hisol, hsafe, hat⟩ := h
  have hfolds : (!s.learnEn x || (s.lane x).isol || s.flt.safe || (s.lane x).spAt == some ((s.lane x).cmd, s.clr.now)) = false := by
    simp [hen, hisol, hsafe, hat]
  have hlive : ¬ s.cal.back.contains x = true := (Bool.not_eq_true _).mpr hback
  unfold State.foldOf
  rw [hfolds, if_neg (by decide)]
  simp only [if_neg hlive, ne_eq, ite_not]
  rfl

theorem learnLane_learns {s : State} {x : Nat} (h : ¬ s.LearnsNot x) (hcuf : isCuffE x = false)
    (hback : s.cal.back.contains x = false) : s.Learns x (s.learnPart x) (s.learnLane x) := by
  have hst : (s.lane x).st = .locked := not_not.1 fun hn => h (.inl hn)
  have hput : s.learnLane x = (s.foldSp x (s.learnPart x)).putLane x (s.learntLane x (s.learnPart x)) := by
    simp only [State.learnLane, if_pos hst, foldOf_learns h hback]
  have hsp : ∀ k, (s.learnLane x).sp x k = (s.foldSp x (s.learnPart x)).sp x k := fun k => by
    rw [hput]
    exact sp_putLane_of_no_fault (fun hf => by rwa [lane_foldSp]) x k
  refine ⟨?_, fun hlim => ?_, ?_⟩
  · rw [hput, lane_putLane_same]
  · rw [hsp]
    refine sp_foldSp_same hcuf ((foldPart_within ..).imp_right fun hin => ?_)
    rw [← State.learnPart] at hin
    omega
  · rw [hsp, sp_foldSp_other]

/-! ### A tick over a cluster -/

section
variable {x : Nat} {s u : State} (h : Beside x s u)
include h

theorem Beside.learnsNot : u.LearnsNot x ↔ s.LearnsNot x := by
  have hclr : u.clr = s.clr := h.keeps.frame .clr rfl
  have hflt : u.flt = s.flt := h.keeps.frame .flt rfl
  simp only [State.LearnsNot, h.lane, h.learnEn, hclr, hflt]

theorem Beside.learnt : u.learnt x = s.learnt x := by
  simp only [State.learnt, h.lane, h.f_cluster (y := SLV_LEARN.LFRAC) (by decide)]

theorem Beside.learnPart : u.learnPart x = s.learnPart x := by
  simp only [State.learnPart, h.lane, h.sp, h.spRef, h.learnt, h.f_cluster (y := SLV_LIM.LEARN_LIM) (by decide)]

end

/-- What a tick does to lane x does not depend on the turns of other lanes before and after. -/
theorem State.Learns.beside {x : Nat} {s u v w : State} {a : Int} (h : u.Learns x a v) (hb : Beside x s u) (ha : Beside x v w) :
    s.Learns x a w := by
  obtain ⟨hlane, hown, hother⟩ := h
  simp only [State.learntLane, hb.lane, hb.learnt, hb.spRef, hb.sp, hb.f_cluster (y := SLV_LIM.LEARN_LIM) (by decide)] at hlane hown hother
  exact ⟨ha.lane.trans hlane, fun hlim => (ha.sp _).trans (hown hlim), (ha.sp _).trans hother⟩

theorem forLanes_learnLane_idle {s : State} {c x : Nat} (h : x / 256 ≠ c ∨ s.LearnsNot x) :
    (forLanes c State.learnLane s).lane x = s.lane x ∧ ∀ k, (forLanes c State.learnLane s).sp x k = s.sp x k := by
  by_cases hx : x / 256 = c
  · subst hx
    obtain ⟨u, hbefore, hafter⟩ := forLanes_own_turn (fun u e => learnLane_turn (s := u) (e := e)) x s
    obtain ⟨hlane, hsp⟩ := learnLane_idle (hbefore.learnsNot.2 (h.resolve_left (not_not_intro rfl)))
    exact ⟨by rw [hafter.lane, hlane, hbefore.lane], fun k => by rw [hafter.sp, hsp, hbefore.sp]⟩
  · have hb : Beside x s (forLanes c State.learnLane s) := forLanes_beside (fun _ _ => learnLane_turn) hx s
    exact ⟨hb.lane, hb.sp⟩

theorem forLanes_learnLane_learns {s : State} {x : Nat} (h : ¬ s.LearnsNot x) (hcuf : isCuffE x = false)
    (hback : s.cal.back.contains x = false) : s.Learns x (s.learnPart x) (forLanes (x / 256) State.learnLane s) := by
  obtain ⟨u, hbefore, hafter⟩ := forLanes_own_turn (fun u e => learnLane_turn (s := u) (e := e)) x s
  have hcal : u.cal = s.cal := hbefore.keeps.frame .cal rfl
  rw [← hbefore.learnPart]
  exact (learnLane_learns (fun hu => h (hbefore.learnsNot.1 hu)) hcuf (by rwa [hcal])).beside hbefore hafter

/-! ### The statement -/

theorem State.Learns.of_passTo {s u : State} {t x : Nat} {a : Int} (h : (s.passTo t).Learns x a u) : s.Learns x a u := by
  unfold State.passTo at h
  split at h
  · exact ⟨h.lane, h.own, h.other⟩
  · exact h

/-- A learning tick is due: RUN, power, and a multiple of 2^LTICK other than 0 (R79). -/
def State.tickDue (s : State) (c : Nat) : Prop := s.fb SLV_CTRL.RUN [c] = true ∧ s.folded = false ∧ 0 < (s.cl c).tick
  ∧ (s.cl c).tick % 2 ^ clampN 10 20 (s.f SLV_LEARN.LTICK [c]) = 0

theorem doLearningTick_eq (c t : Nat) (s : State) :
    (s.tickDue c → doLearningTick c t s = forLanes c State.learnLane (s.passTo t))
    ∧ (¬ s.tickDue c → doLearningTick c t s = s.passTo t) := by
  have hcond : ((s.passTo t).fb SLV_CTRL.RUN [c] && !(s.passTo t).folded && decide (0 < ((s.passTo t).cl c).tick)
      && decide (((s.passTo t).cl c).tick % 2 ^ clampN 10 20 ((s.passTo t).f SLV_LEARN.LTICK [c]) = 0)) = true ↔ s.tickDue c := by
    simp [State.tickDue, passTo_folded, and_assoc]
  exact ⟨fun h => if_pos (hcond.2 h), fun h => if_neg fun hb => h (hcond.1 hb)⟩

/-- Settles O17: each lane of the cluster has its turn, in which it folds or is idle. -/
theorem learningTick : Obligations.LearningTick := by
  unfold Obligations.LearningTick
  refine fun s c t => ⟨fun hrun hfold htick hmul => ⟨_, congrArg Host.Outcome.next ((doLearningTick_eq c t s).1
    ⟨hrun, hfold, htick, hmul⟩), fun x hx => ?idle, fun x hx hcuf hst hen hisol hsafe hat hback a ha => ?learns⟩, fun h =>
    .of_eq rfl ((doLearningTick_eq c t s).2 ?none) ((passTo_keeps s t).changesOnly rfl)⟩
  case idle =>
    have hsp : ∀ k, (s.passTo t).sp x k = s.sp x k := fun k => passTo_congr s t (·.sp x k) fun _ => rfl
    have hen : (s.passTo t).learnEn x = s.learnEn x := passTo_congr s t (·.learnEn x) fun _ => rfl
    have hidle := forLanes_learnLane_idle (s := s.passTo t) (c := c) (x := x) (by
      simpa only [State.LearnsNot, passTo_lane, passTo_flt, hen] using hx)
    simpa only [passTo_lane, hsp] using hidle
  case learns =>
    have hen' : (s.passTo t).learnEn x = true := (passTo_congr s t (·.learnEn x) fun _ => rfl).trans hen
    have hlearn := forLanes_learnLane_learns (s := s.passTo t) (x := x) (by
      simp [State.LearnsNot, hst, hen', hisol, hsafe, hat]) hcuf (by rwa [passTo_cal])
    have hpart : (s.passTo t).learnPart x = a := by
      rw [passTo_congr s t (·.learnPart x) fun _ => rfl, ha, ← hx]
      rfl
    rw [hpart, hx] at hlearn
    obtain ⟨hlane, hown, hother⟩ := hlearn.of_passTo
    simp only [State.learntLane, State.learnt, hx] at hlane hown
    exact ⟨hlane, hown, hother⟩
  case none =>
    rintro ⟨hrun, hfold, htick, hmul⟩
    rcases h with h | h | h | h
    · exact absurd (hrun.symm.trans h) nofun
    · exact absurd (hfold.symm.trans h) nofun
    · omega
    · exact h hmul

end Sys2Proof.Machine
end

section
/-! PROOF. Lock, unlock, faults and overcurrent of a lane (O13). -/
namespace Sys2Proof.Machine

/-! ### A lane stored at a time -/

/-- What the storing of lane e at a time leaves: the lane, and its record in the capture rings. -/
structure Stored (e : Nat) (l : Lane) (s u : State) : Prop where
  lane : u.lane e = l
  others : otherLanes e s u
  regs : otherRegs (noteRegs e) s u
  parts : changesOnly [.regs, .lanes, .clr, .cap] s u

theorem stored_putLaneBuf {s : State} {e t : Nat} {l : Lane} {b : Int} (h : l.st = .fault → (s.lane e).st = .fault) :
    Stored e l s ((s.passTo t).putLaneBuf e l b) := by
  have hlanes : ((s.passTo t).putLaneBuf e l b).lanes = sset s.lanes e l := by rw [putLaneBuf_lanes, passTo_lanes]
  have hkeeps : Keeps 0x4014 (s.passTo t) ((s.passTo t).putLaneBuf e l b) := putLaneBuf_keeps_of_no_fault _ (by rwa [passTo_lane])
  refine ⟨?_, fun x hx => ?_, .trans (.of_regs (passTo_regs s t)) (otherRegs_putLaneBuf e l b), ?_⟩
  · simp [State.lane, hlanes]
  · simp [State.lane, hlanes, sget_sset_ne _ _ _ hx.symm]
  · exact ((passTo_keeps s t).trans hkeeps).changesOnly rfl

theorem stored_putLane {s : State} {e t : Nat} {l : Lane} (h : l.st = .fault → (s.lane e).st = .fault) :
    Stored e l s ((s.passTo t).putLane e l) := stored_putLaneBuf h

/-! ### Lock and unlock (R83) -/

section
variable (s : State) (t e : Nat)

theorem passTo_loopOn : (s.passTo t).loopOn e = s.loopOn e := passTo_congr s t (·.loopOn e) fun _ => rfl
theorem passTo_darkDue : (s.passTo t).darkDue e = s.darkDue e := passTo_congr s t (·.darkDue e) fun _ => rfl
theorem passTo_satDue : (s.passTo t).satDue e = s.satDue e := passTo_congr s t (·.satDue e) fun _ => rfl
theorem passTo_leakDue : (s.passTo t).leakDue e = s.leakDue e := passTo_congr s t (·.leakDue e) fun _ => rfl
theorem passTo_acqDue : (s.passTo t).acqDue e = s.acqDue e := passTo_congr s t (·.acqDue e) fun _ => rfl
theorem passTo_faultOk : (s.passTo t).faultOk e = s.faultOk e := passTo_congr s t (·.faultOk e) fun _ => rfl

end

/-- No condition of higher priority than lock and unlock is due in a lane whose loop is on (R84). -/
structure State.LoopCalm (s : State) (e : Nat) : Prop where
  on : s.loopOn e = true
  dark : s.darkDue e = false
  sat : s.satDue e = false
  leak : s.leakDue e = false

theorem doLoopLock_eq {s : State} {e : Nat} (t : Nat) (h : s.LoopCalm e) (hst : (s.lane e).st = .acquire)
    (hrun : max 1 (s.f SLV_LOOP.LOCK_CNT [e / 256]) ≤ (s.lane e).lockRun) (hacq : s.acqDue e = false) :
    doLoopLock e t s = (s.passTo t).putLane e { s.lane e with st := .locked, lockRun := 0, unlockRun := 0 } := by
  unfold doLoopLock
  simp only [passTo_lane, passTo_f, passTo_loopOn, passTo_darkDue, passTo_satDue, passTo_leakDue, passTo_acqDue]
  exact if_pos ⟨hst, hrun, h.on, h.dark, h.sat, h.leak, hacq⟩

theorem doLoopUnlock_eq {s : State} {e : Nat} (t : Nat) (h : s.LoopCalm e) (hst : (s.lane e).st = .locked)
    (hrun : max 1 (s.f SLV_LOOP.LOCK_CNT [e / 256]) ≤ (s.lane e).unlockRun) :
    doLoopUnlock e t s = (s.passTo t).putLane e { (s.lane e).acquire with sticky := (s.lane e).sticky ||| stk 4 } := by
  unfold doLoopUnlock
  simp only [passTo_lane, passTo_f, passTo_loopOn, passTo_darkDue, passTo_satDue, passTo_leakDue]
  exact if_pos ⟨hst, hrun, h.on, h.dark, h.sat, h.leak⟩

/-! ### Faults (R83, R90) -/

/-- A lane that enters FAULT is reported to the path service. -/
theorem putLaneBuf_reports {s : State} {e : Nat} {x : Lane} (b : Int) (h : x.st = .fault) (h0 : (s.lane e).st ≠ .fault) :
    ∃ r : Report, (s.putLaneBuf e x b).pth.reports = s.pth.reports ++ [r] ∧ r.e = e ∧ r.kind = 0 := by
  unfold State.putLaneBuf
  extract_lets o s1 s2 b2 pth
  have hpth : s2.pth = s.pth := by
    simp only [s2]
    split
    · exact (offer_keeps ..).frame .pth rfl
    · rfl
  rw [if_pos ⟨h, h0⟩]
  refine ⟨⟨e, 0, 0, s2.clr.now, b2⟩, (congrArg Pth.reports ((icEdge_keeps ..).frame .pth rfl)).trans ?_, rfl, rfl⟩
  exact congrArg (fun p : Pth => p.reports ++ _) hpth

/-- A lane that is not in FAULT enters it with the flags fl. -/
theorem faulted_toFault {s : State} {e : Nat} (t : Nat) (fl : BitVec 8) (h : (s.lane e).st ≠ .fault) :
    faulted e fl s ((s.passTo t).toFault e fl) := by
  unfold State.toFault
  rw [passTo_lane]
  refine ⟨lane_putLane_same .., fun x hx => ?_, ?_, .trans (.of_regs (passTo_regs s t)) (otherRegs_putLane e _), ?_⟩
  · rw [lane_putLane_ne _ hx.symm, passTo_lane]
  · rw [← passTo_pth s t]
    exact putLaneBuf_reports _ rfl (by rwa [passTo_lane])
  · exact ((passTo_keeps s t).trans (putLane_keeps ..)).changesOnly rfl

/-- A fault that is due and may be taken. -/
theorem faulted_of_due {s : State} {e t : Nat} {fl : BitVec 8} {due : State → Bool} {u : State} (hdue : due (s.passTo t) = due s)
    (hu : u = if due (s.passTo t) && (s.passTo t).faultOk e then (s.passTo t).toFault e fl else s.passTo t)
    (h : due s = true) (hok : s.faultOk e = true) (hst : (s.lane e).st ≠ .fault) : faulted e fl s u := by
  rw [hu, hdue, passTo_faultOk, h, hok]
  exact faulted_toFault t fl hst

theorem not_fault_of_runs {st : LaneSt} (h : st.runs = true) : st ≠ .fault := by
  rintro rfl
  exact absurd h (by decide)

theorem not_fault_of_satDue {s : State} {e : Nat} (h : s.satDue e = true) : (s.lane e).st ≠ .fault := by
  simp only [State.satDue, Bool.and_eq_true] at h
  exact not_fault_of_runs h.1

theorem not_fault_of_leakDue {s : State} {e : Nat} (h : s.leakDue e = true) : (s.lane e).st ≠ .fault := by
  simp only [State.leakDue, Bool.and_eq_true] at h
  exact not_fault_of_runs h.1.2

theorem not_fault_of_acqDue {s : State} {e : Nat} (h : s.acqDue e = true) : (s.lane e).st ≠ .fault := by
  simp only [State.acqDue, Bool.and_eq_true, decide_eq_true_eq] at h
  simp [h.1.1]

/-! ### The statement -/

/-- Settles O13: each event of a lane is one store of it. -/
theorem laneEvents : Obligations.LaneEvents := by
  unfold Obligations.LaneEvents
  refine ⟨fun s e t hon hdark hsat hleak => ⟨fun hst hrun hacq => ?lock, fun hst hrun => ?unlock⟩, fun s e t =>
    ⟨fun hok => ⟨fun h => ⟨_, rfl, ?sat⟩, fun h => ⟨_, rfl, ?leak⟩, fun h => ⟨_, rfl, ?acq⟩⟩, fun hhv => ?overcurrent⟩⟩
  case lock =>
    obtain ⟨hlane, hothers, hregs, hparts⟩ := stored_putLane (s := s) (e := e) (t := t)
      (l := { s.lane e with st := .locked, lockRun := 0, unlockRun := 0 }) nofun
    exact .of_eq rfl (doLoopLock_eq t ⟨hon, hdark, hsat, hleak⟩ hst hrun hacq) ⟨hlane, hothers, hregs, hparts⟩
  case unlock =>
    obtain ⟨hlane, hothers, hregs, hparts⟩ := stored_putLane (s := s) (e := e) (t := t)
      (l := { (s.lane e).acquire with sticky := (s.lane e).sticky ||| stk 4 }) nofun
    exact .of_eq rfl (doLoopUnlock_eq t ⟨hon, hdark, hsat, hleak⟩ hst hrun) ⟨hlane, hothers, hregs, hparts⟩
  case sat => exact faulted_of_due (due := (·.satDue e)) (passTo_satDue s t e) rfl h hok (not_fault_of_satDue h)
  case leak => exact faulted_of_due (due := (·.leakDue e)) (passTo_leakDue s t e) rfl h hok (not_fault_of_leakDue h)
  case acq => exact faulted_of_due (due := (·.acqDue e)) (passTo_acqDue s t e) rfl h hok (not_fault_of_acqDue h)
  case overcurrent =>
    have hdo : doOvcDetect e t s = (s.passTo t).putLaneBuf e { s.lane e with sticky := (s.lane e).sticky ||| stk 7 } (s.lane e).buf := by
      simp [doOvcDetect, hhv]
    obtain ⟨hlane, hothers, hregs, hparts⟩ := stored_putLaneBuf (s := s) (e := e) (t := t) (b := (s.lane e).buf)
      (l := { s.lane e with sticky := (s.lane e).sticky ||| stk 7 }) id
    exact .of_eq rfl hdo ⟨hlane, hothers, hregs, hparts⟩

end Sys2Proof.Machine
end

section
/-! PROOF. Light classes, and the return from overload (O14). -/
namespace Sys2Proof.Machine

/-! ### The class of a switching lane (R69, R92, R139) -/

/-- The lane may change its class: it switches, no profile runs, and its cluster is not in P2. -/
structure State.ClassFree (s : State) (e : Nat) : Prop where
  cuff : isCuffE e = false
  prof : (s.lane e).prof.on = false
  p2 : (s.cl (e / 256)).p2 = false

theorem doLightClass_kept {s : State} {e : Nat} (t : Nat) (h : (s.lane e).prof.on = true ∨ (s.cl (e / 256)).p2 = true) :
    doLightClass e t s = s.passTo t :=
  if_pos (by rcases h with h | h <;> simp [h])

section
variable {s : State} {e : Nat} (h : s.ClassFree e)
include h

/-- Dark to lit: a lane in HOLD (dark) acquires with its demodulator restarted, any other keeps its state (R83). -/
theorem doLightClass_lit (t : Nat) (hlit : (s.lane e).lit = false) (hrun : 8 ≤ (s.lane e).litRun) :
    doLightClass e t s = (s.passTo t).putLane e (if (s.lane e).st = .hold ∧ (s.lane e).why = 0
      then { s.lane e with lit := true, litRun := 0 }.acquire.restart else { s.lane e with lit := true, litRun := 0 }) := by
  unfold doLightClass
  simp only [passTo_lane, passTo_cl, h.cuff, h.prof, h.p2, hlit, hrun, Bool.or_self, Bool.false_eq_true, if_false, and_self, if_true]
  split <;> rfl

theorem doLightClass_dark (t : Nat) (hlit : (s.lane e).lit = true) (hrun : 8 ≤ (s.lane e).darkRun) (hst : (s.lane e).st.runs = false) :
    doLightClass e t s = (s.passTo t).putLane e { s.lane e with lit := false, darkRun := 0 } := by
  unfold doLightClass
  simp only [passTo_lane, passTo_cl, h.cuff, h.prof, h.p2, hlit, hrun, hst, Bool.or_self, Bool.false_eq_true, if_false, and_self,
    if_true, Bool.true_eq_false, false_and]

end

/-- The lane that goes to HOLD (dark): its departure fold, and its class (R80, R83). -/
def State.darkened (s : State) (e : Nat) : Lane := { (s.depart e false).1 with lit := false, darkRun := 0 }.hold 0

/-- Lit to dark of a lane whose loop runs; a run that was reverted is over for it (R476). -/
def State.goDark (s : State) (e : Nat) : State :=
  let u := (s.foldSp e (s.depart e false).2).putLane e (s.darkened e)
  { u with cal := { u.cal with back := u.cal.back.filter (· ≠ e) } }

theorem doLightClass_darkRuns {s : State} {e : Nat} (h : s.ClassFree e) (t : Nat) (hlit : (s.lane e).lit = true)
    (hrun : 8 ≤ (s.lane e).darkRun) (hst : (s.lane e).st.runs = true) : doLightClass e t s = (s.passTo t).goDark e := by
  unfold doLightClass
  simp only [passTo_lane, passTo_cl, h.cuff, h.prof, h.p2, hlit, hrun, hst, Bool.or_self, Bool.false_eq_true, if_false, and_self,
    if_true, Bool.true_eq_false, false_and]
  rfl

theorem goDark_lane (s : State) (e : Nat) : (s.goDark e).lane e = s.darkened e := lane_putLane_same ..

theorem goDark_others (s : State) (e : Nat) : otherLanes e s (s.goDark e) :=
  (LaneTurn.foldPut (s.depart e false).2 (x := s.darkened e) nofun).others

theorem goDark_keeps (s : State) (e : Nat) : Keeps 0x84014 s (s.goDark e) :=
  Keeps.upd ((LaneTurn.foldPut (s.depart e false).2 (x := s.darkened e) nofun).keeps.step .refl rfl)

theorem darkened_facts (s : State) (e : Nat) : (s.darkened e).lit = false ∧ (s.darkened e).st = .hold ∧ (s.darkened e).why = 0
    ∧ (s.cal.back.contains e = false → (s.darkened e).drv = (s.lane e).drv) := by
  obtain ⟨i, k, d, hlane, hdrv⟩ := depart_lane s e false
  have hd : (s.darkened e).drv = d := congrArg Lane.drv hlane
  exact ⟨rfl, rfl, rfl, fun hb => hd.trans (hdrv hb)⟩

/-! ### A tap in overload (R102) -/

/-- The lane whose tap has left overload. -/
def hiReturned (e : Nat) (tap : Bool) (l : Lane) : Lane :=
  let x := if tap then l.tap1 else l.tap0
  let y := { x with ovl := false, lowRun := 0, hi := nextHi e l.cmd tap false }
  if tap then { l with tap1 := y } else { l with tap0 := y }

theorem doHiRangeReturn_eq {s : State} {e : Nat} {tap : Bool} (hovl : (if tap then (s.lane e).tap1 else (s.lane e).tap0).ovl = true)
    (hrun : 16 ≤ (if tap then (s.lane e).tap1 else (s.lane e).tap0).lowRun) :
    doHiRangeReturn e tap s = s.setLane e (hiReturned e tap (s.lane e)) := if_pos ⟨hovl, hrun⟩

theorem hiReturned_facts (e : Nat) (tap : Bool) (l : Lane) :
    (if tap then (hiReturned e tap l).tap1 else (hiReturned e tap l).tap0).ovl = false ∧ (hiReturned e tap l).st = l.st
      ∧ (if tap then (hiReturned e tap l).tap0 = l.tap0 else (hiReturned e tap l).tap1 = l.tap1) := by
  cases tap <;> simp [hiReturned]

/-! ### The statement -/

/-- Settles O14: a class change is one store of the lane, after a departure fold where its loop runs into the dark. -/
theorem lightClasses : Obligations.LightClasses := by
  unfold Obligations.LightClasses
  refine fun s e t tap hcuf => ⟨fun hprof hp2 hlit hrun => ?lit, fun hprof hp2 hlit hrun => ?dark, fun h => ?kept, fun hovl hrun => ?hi⟩
  case lit =>
    obtain ⟨l, hl⟩ : ∃ l : Lane, l = if (s.lane e).st = .hold ∧ (s.lane e).why = 0
      then { s.lane e with lit := true, litRun := 0 }.acquire.restart else { s.lane e with lit := true, litRun := 0 } := ⟨_, rfl⟩
    have hst : l.st = .fault → (s.lane e).st = .fault := by
      rw [hl]
      split
      · nofun
      · exact id
    obtain ⟨hlane, hothers, hregs, hparts⟩ := stored_putLane (t := t) hst
    refine .of_eq rfl ((doLightClass_lit ⟨hcuf, hprof, hp2⟩ t hlit hrun).trans (by rw [← hl])) ⟨?_, fun hh hw => ?_, fun hh => ?_,
      hothers, hregs, hparts⟩
    · rw [hlane, hl]
      split <;> rfl
    · rw [hlane, hl, if_pos ⟨hh, hw⟩]
      exact ⟨rfl, rfl⟩
    · rw [hlane, hl, if_neg fun h => hh h.1]
  case dark =>
    have hfree : s.ClassFree e := ⟨hcuf, hprof, hp2⟩
    by_cases hst : (s.lane e).st.runs = true
    · obtain ⟨hdark, hhold, hwhy, hdrv⟩ := darkened_facts (s.passTo t) e
      have hlane : ((s.passTo t).goDark e).lane e = (s.passTo t).darkened e := goDark_lane ..
      refine .of_eq rfl (doLightClass_darkRuns hfree t hlit hrun hst) ⟨by rw [hlane, hdark], fun _ => ?_,
        fun hn => absurd (hst.symm.trans hn) nofun, fun x hx => by rw [goDark_others _ _ x hx, passTo_lane],
        ((passTo_keeps s t).trans (goDark_keeps ..)).changesOnly rfl⟩
      rw [hlane]
      rw [passTo_cal, passTo_lane] at hdrv
      exact ⟨hhold, hwhy, hdrv⟩
    · have hoff : (s.lane e).st.runs = false := Bool.eq_false_iff.2 hst
      obtain ⟨hlane, hothers, -, hparts⟩ := stored_putLane (s := s) (e := e) (t := t)
        (l := { s.lane e with lit := false, darkRun := 0 }) id
      exact .of_eq rfl (doLightClass_dark hfree t hlit hrun hoff) ⟨by rw [hlane], fun h => absurd h hst, fun _ => hlane, hothers,
        ⟨hparts.1, fun p hp => hparts.2 p fun hm => hp (List.mem_append_left [Part.cal] hm)⟩⟩
  case kept => exact .of_eq rfl (doLightClass_kept t h) ((passTo_keeps s t).changesOnly rfl)
  case hi =>
    obtain ⟨hovl', hst, htap⟩ := hiReturned_facts e tap (s.lane e)
    have hlane : (s.setLane e (hiReturned e tap (s.lane e))).lane e = hiReturned e tap (s.lane e) := lane_setLane_same ..
    refine .of_eq rfl (doHiRangeReturn_eq hovl hrun) ?_
    rw [hlane]
    exact ⟨hovl', hst, htap, fun x hx => lane_setLane_ne _ _ hx.symm, (setLane_keeps ..).changesOnly rfl⟩

end Sys2Proof.Machine
end

section
/-! PROOF. The exchange of the Cuff clusters (O19): where the in-ports of the lanes have the 9 bits
that they have in the format, the clause on stale words holds; the statement fails where one lies beyond. -/
namespace Sys2Proof.Machine

/-! ### The loop over the egress clusters of one plane -/

/-- The words of ingress cluster c are no longer fresh. -/
def State.wordsStale (s : State) (c t : Nat) : State := (s.passTo t).setCl c { (s.passTo t).cl c with exFresh := false }

/-- The first egress cluster of the plane of ingress cluster c. -/
def egressOf (c : Nat) : Nat := if c < 140 then 138 else 142

theorem doExchangeStale_eq {c : Nat} (hc : c = 136 ∨ c = 137 ∨ c = 140 ∨ c = 141) (t : Nat) (s : State) : doExchangeStale c t s
    = forLanes (egressOf c + 1) State.cufHoldLane (forLanes (egressOf c) State.cufHoldLane (s.wordsStale c t)) := if_pos hc

theorem wordsStale_lane (s : State) (c t x : Nat) : (s.wordsStale c t).lane x = s.lane x := passTo_lane ..

/-- Only lanes of the plane whose words are stale have turns. -/
theorem doExchangeStale_beside {c x : Nat} (hc : c = 136 ∨ c = 137 ∨ c = 140 ∨ c = 141) (hx : x / 256 ≠ egressOf c)
    (hx1 : x / 256 ≠ egressOf c + 1) (t : Nat) (s : State) : (doExchangeStale c t s).lane x = s.lane x := by
  rw [doExchangeStale_eq hc, (forLanes_beside (fun _ _ => cufHoldLane_turn) hx1 _).lane,
    (forLanes_beside (fun _ _ => cufHoldLane_turn) hx _).lane, wordsStale_lane]

/-! ### In-ports of the format -/

/-- The egress lane x runs, and the words that it uses are those of cluster c, stale. -/
structure State.UsesStale (s : State) (c x : Nat) : Prop where
  egress : isEgressE x = true
  words : ingressCl (planeE x) (s.lane x).src = c
  stale : (s.cl c).exFresh = false
  valid : (s.lane x).valid = true
  runs : (s.lane x).st.runs = true

theorem Beside.usesStale {c x : Nat} {s u : State} (h : Beside x s u) (hs : s.UsesStale c x) : u.UsesStale c x :=
  ⟨hs.egress, by rw [h.lane, hs.words], by rw [h.keeps.cl rfl, hs.stale], by rw [h.lane, hs.valid], by rw [h.lane, hs.runs]⟩

/-- Its turn puts the lane into HOLD with reason 3 (R97). -/
theorem cufHoldLane_stale {s : State} {c x : Nat} (h : s.UsesStale c x) :
    ((s.cufHoldLane x).lane x).st = .hold ∧ ((s.cufHoldLane x).lane x).why = 3 := by
  have hex : s.exStale x = true := by simp [State.exStale, h.words, h.stale]
  have hcond : s.cufHold x = some 3 := by simp [State.cufHold, h.valid, hex]
  have hturn : s.cufHoldLane x = s.toHold x 3 := by simp [State.cufHoldLane, h.egress, hcond, h.runs]
  rw [hturn, State.toHold, lane_putLane_same]
  exact ⟨rfl, rfl⟩

theorem forLanes_cufHoldLane_stale {s : State} {c x : Nat} (h : s.UsesStale c x) :
    ((forLanes (x / 256) State.cufHoldLane s).lane x).st = .hold ∧ ((forLanes (x / 256) State.cufHoldLane s).lane x).why = 3 := by
  obtain ⟨u, hbefore, hafter⟩ := forLanes_own_turn (fun u e => cufHoldLane_turn (s := u) (e := e)) x s
  rw [hafter.lane]
  exact cufHoldLane_stale (hbefore.usesStale h)

/-- An egress lane whose in-port has 9 bits lies in the plane of the ingress cluster that it uses. -/
theorem cluster_of_ingressCl {c x p : Nat} (hx : x < 36864) (he : isEgressE x = true) (hp : p < 512) (h : ingressCl (planeE x) p = c) :
    x / 256 = egressOf c ∨ x / 256 = egressOf c + 1 := by
  simp only [isEgressE, isCuffE, Bool.and_eq_true, decide_eq_true_eq] at he
  simp only [ingressCl, planeE, isCuffE, he.1, decide_true, if_true] at h
  unfold egressOf
  split <;> omega

/-- With such an in-port the lane goes to HOLD with reason 3, as the statement has it. -/
theorem doExchangeStale_hold {s : State} {c x : Nat} (hc : c = 136 ∨ c = 137 ∨ c = 140 ∨ c = 141) (t : Nat) (hx : x < 36864)
    (he : isEgressE x = true) (hp : (s.lane x).src < 512) (hw : ingressCl (planeE x) (s.lane x).src = c)
    (hv : (s.lane x).valid = true) (hr : (s.lane x).st.runs = true) :
    ((doExchangeStale c t s).lane x).st = .hold ∧ ((doExchangeStale c t s).lane x).why = 3 := by
  have hstale : (s.wordsStale c t).UsesStale c x := by
    refine ⟨he, ?_, by rw [State.wordsStale, cl_setCl_same], ?_, ?_⟩ <;> rwa [wordsStale_lane]
  rw [doExchangeStale_eq hc]
  rcases cluster_of_ingressCl hx he hp hw with hcl | hcl
  · rw [(forLanes_beside (fun _ _ => cufHoldLane_turn) (by omega) _).lane, ← hcl]
    exact forLanes_cufHoldLane_stale hstale
  · rw [← hcl]
    exact forLanes_cufHoldLane_stale ((forLanes_beside (fun _ _ => cufHoldLane_turn) (by omega) _).usesStale hstale)

/-! ### The statement -/

/-- The egress Cuff lane of out-port 0 in plane 0. -/
def egress0 : Nat := 35328

/-- A state in which this lane runs, with in-port 1024 for its path: beyond the 9 bits that an in-port has, it lies on the cluster
of in-port 0 in plane 1. -/
def strayPath : State := State.reset.setLane egress0 { Lane.reset with st := .acquire, valid := true, src := 1024 }

theorem strayPath_lane : strayPath.lane egress0 = { Lane.reset with st := .acquire, valid := true, src := 1024 } := lane_setLane_same ..

/-- Refutes O19: the clause on stale words fails in a state outside the format. The source in-port of a lane is any number in the
model; with 1024 the lane of plane 0 uses, by the statement's formula, the words of cluster 140, which is of plane 1, and the
stale words of 140 put only lanes of plane 1 into HOLD (R95). For in-ports below 512 the clause holds, by `doExchangeStale_hold`. -/
theorem not_cuffExchange : ¬ Obligations.CuffExchange := by
  unfold Obligations.CuffExchange
  intro h
  obtain ⟨-, u, hu, -, -, hstale⟩ := h strayPath 140 0 (by decide)
  have hrun : exec (.exchangeStale 140 0) strayPath = .next (doExchangeStale 140 0 strayPath) := rfl
  obtain rfl : doExchangeStale 140 0 strayPath = u := Host.Outcome.next.inj (hrun.symm.trans hu)
  have hcl : ingressCl (planeE egress0) (strayPath.lane egress0).src = 140 := by rw [strayPath_lane]; decide
  have hhold := (hstale egress0 (by decide) (by decide) hcl (by rw [strayPath_lane]) (by rw [strayPath_lane]; decide)).1
  rw [doExchangeStale_beside (by decide) (by decide) (by decide), strayPath_lane] at hhold
  exact absurd hhold nofun

end Sys2Proof.Machine
end

section
/-! PROOF. The references of the converters (O20). -/
namespace Sys2Proof.Machine

/-! ### The calibration hold of the lanes of an ADC (R93, R109) -/

/-- From s to u lane x went to HOLD (calibration) if it ran, with its drive but under a run that was reverted (R476). -/
def calHeld (x : Nat) (s u : State) : Prop := (s.lane x).st.runs = true → (u.lane x).st = .hold ∧ (u.lane x).why = 2
  ∧ (s.cal.back.contains x = false → (u.lane x).drv = (s.lane x).drv)

/-- Lane x is one of the 32 lanes of ADC a of cluster c (R101). -/
def onAdc (c a x : Nat) : Prop := x / 256 = c ∧ x % 256 / 32 = a

theorem calHold_held (s : State) (x : Nat) : calHeld x s (s.calHold x) := by
  intro hruns
  obtain ⟨v, hv⟩ : ∃ v, v = s.setLane x { s.lane x with fresh := true, litRun := 0, darkRun := 0 } := ⟨_, rfl⟩
  have hlane : v.lane x = { s.lane x with fresh := true, litRun := 0, darkRun := 0 } := by rw [hv, lane_setLane_same]
  have hcal : v.cal = s.cal := by rw [hv]; rfl
  have hhold : s.calHold x = v.toHold x 2 := by simp [State.calHold, hruns, hv]
  obtain ⟨i, k, d, hdep, hdrv⟩ := depart_lane v x false
  rw [hhold, State.toHold, lane_putLane_same]
  refine ⟨rfl, rfl, fun hback => ?_⟩
  have hd : ((v.depart x false).1.hold 2).drv = d := congrArg Lane.drv hdep
  exact hd.trans ((hdrv (by rwa [hcal])).trans (by rw [hlane]))

/-- Lanes of other ADCs, and what they read, stay. -/
theorem calHoldAdc_beside {c a x : Nat} (ha : a < 8) (hx : ¬ onAdc c a x) (s : State) : Beside x s (s.calHoldAdc c a) := by
  refine foldl_rel (f := fun s j => State.calHold s (256 * c + 32 * a + j)) (fun _ => .refl) .trans
    (fun u j hj => calHold_turn.beside fun h => hx ?_) s
  have := List.mem_range.1 hj
  unfold onAdc
  omega

/-- The 32 lanes of the ADC are held. -/
theorem calHoldAdc_held {c a x : Nat} (hx : onAdc c a x) (s : State) : calHeld x s (s.calHoldAdc c a) := by
  obtain ⟨hc, ha⟩ := hx
  have hself : 256 * c + 32 * a + x % 32 = x := by omega
  obtain ⟨u, hbefore, hafter⟩ := foldl_turn (R := Beside x) (fun _ => .refl) .trans
    (f := fun s j => State.calHold s (256 * c + 32 * a + j)) List.nodup_range (List.mem_range.2 (Nat.mod_lt x (by decide : 0 < 32)))
    (fun u j _ hne => calHold_turn.beside (by omega)) s
  rw [hself] at hafter
  have hcal : u.cal = s.cal := hbefore.keeps.frame .cal rfl
  intro hruns
  have hheld := calHold_held u x (by rwa [hbefore.lane])
  rw [← hafter.lane, hcal, hbefore.lane] at hheld
  exact hheld

section
variable (s : State) (c a : Nat)

/-- An element of the next cluster, beside all lanes of this one. -/
theorem calHoldAdc_next {a : Nat} (ha : a < 8) : Beside (256 * (c + 1)) s (s.calHoldAdc c a) :=
  calHoldAdc_beside ha (fun h => by have := h.1; omega) s

theorem calHoldAdc_reg {a : Nat} (ha : a < 8) {r : Reg} {ix : List Nat} (hr : clearOfTurns (r.at ix) = true) :
    (s.calHoldAdc c a).reg r ix = s.reg r ix := (calHoldAdc_next s c ha).reg_clear hr

theorem calHoldAdc_f {a : Nat} (ha : a < 8) {y : Fld} {ix : List Nat} (hr : clearOfTurns (y.reg.at ix) = true) :
    (s.calHoldAdc c a).f y ix = s.f y ix := (calHoldAdc_next s c ha).f_clear hr

theorem calHoldAdc_cl {a : Nat} (ha : a < 8) (d : Nat) : (s.calHoldAdc c a).cl d = s.cl d := (calHoldAdc_next s c ha).keeps.cl rfl d

theorem calHoldAdc_cal {a : Nat} (ha : a < 8) : (s.calHoldAdc c a).cal = s.cal := (calHoldAdc_next s c ha).keeps.frame .cal rfl

end

theorem clearOfTurns_CNV_REF (c : Nat) : clearOfTurns (Reg.CNV_REF.at [c]) = true :=
  clearOfTurns_cluster (by decide) (by decide) (by decide) c

theorem clearOfTurns_CNV_STATUS (c : Nat) : clearOfTurns (Reg.CNV_STATUS.at [c]) = true :=
  clearOfTurns_cluster (by decide) (by decide) (by decide) c

/-! ### The reference of one ADC (R108) -/

/-- The reference of ADC a of cluster c as it is stored. -/
def State.refOf (s : State) (c a : Nat) : AdcRef := (s.cl c).adc.getD a ⟨false, false⟩

theorem adc_set_ne {l : List AdcRef} {a b : Nat} (h : b ≠ a) (r d : AdcRef) : (l.set b r).getD a d = l.getD a d := by
  simp [List.getD, List.getElem?_set_ne h]

/-- A write of CNV_REF changes the reference of ADC a. -/
def State.refChanges (s : State) (c : Nat) (v : Word) (a : Nat) : Prop := fget (2 * a) 2 v ≠ 3 ∧ fget (2 * a) 2 v ≠ s.refSel c a

/-- CNV_REF and the reference of ADC a after its change, before its lanes are held. -/
def State.takeRef (s : State) (c : Nat) (v : Word) (a : Nat) : State :=
  let s1 := s.setReg .CNV_REF [c] (fput (2 * a) 2 (fget (2 * a) 2 v) (s.reg .CNV_REF [c]))
  s1.setCl c { s1.cl c with adc := (s1.cl c).adc.set a ⟨false, true⟩ }

theorem refSelect_kept {s : State} {c a : Nat} {v : Word} (h : ¬ s.refChanges c v a) : s.refSelect c v a = s :=
  if_pos (by unfold State.refChanges at h; tauto)

theorem refSelect_changed {s : State} {c a : Nat} {v : Word} (h : s.refChanges c v a) :
    s.refSelect c v a = (s.takeRef c v a).calHoldAdc c a := if_neg (not_or.2 h)

theorem takeRef_reg (s : State) (c : Nat) (v : Word) (a : Nat) :
    (s.takeRef c v a).reg .CNV_REF [c] = fput (2 * a) 2 (fget (2 * a) 2 v) (s.reg .CNV_REF [c]) :=
  reg_setReg_same s .CNV_REF [c] _

theorem takeRef_adc (s : State) (c : Nat) (v : Word) (a : Nat) :
    ((s.takeRef c v a).cl c).adc = (s.cl c).adc.set a ⟨false, true⟩ := by rw [State.takeRef, cl_setCl_same]; rfl

/-- From s to u only other ADCs of cluster c were changed. -/
structure BesideAdc (c a : Nat) (s u : State) : Prop where
  sel : u.refSel c a = s.refSel c a
  ref : u.refOf c a = s.refOf c a
  len : (u.cl c).adc.length = (s.cl c).adc.length
  lane : ∀ x, x / 256 ≠ c ∨ onAdc c a x → u.lane x = s.lane x
  back : u.cal = s.cal

theorem BesideAdc.refl {c a : Nat} {s : State} : BesideAdc c a s s := ⟨rfl, rfl, rfl, fun _ _ => rfl, rfl⟩

theorem BesideAdc.trans {c a : Nat} {s u v : State} (h : BesideAdc c a s u) (k : BesideAdc c a u v) : BesideAdc c a s v :=
  ⟨k.sel.trans h.sel, k.ref.trans h.ref, k.len.trans h.len, fun x hx => (k.lane x hx).trans (h.lane x hx), k.back.trans h.back⟩

theorem refSelect_beside {c a b : Nat} (hb : b < 8) (h : b ≠ a) (v : Word) (s : State) :
    BesideAdc c a s (s.refSelect c v b) := by
  by_cases hch : s.refChanges c v b
  case neg => rw [refSelect_kept hch]; exact .refl
  rw [refSelect_changed hch]
  refine ⟨?_, ?_, ?_, fun x hx => ?_, calHoldAdc_cal _ _ hb⟩
  · rw [State.refSel, calHoldAdc_reg _ _ hb (clearOfTurns_CNV_REF c), takeRef_reg, fget_fput_ne _ _ (by omega) (by omega), State.refSel]
  · rw [State.refOf, calHoldAdc_cl _ _ hb, takeRef_adc, State.refOf, adc_set_ne h]
  · rw [calHoldAdc_cl _ _ hb, takeRef_adc, List.length_set]
  · have hout : ¬ onAdc c b x := fun ho => hx.elim (fun hc => hc ho.1) fun hon => h (ho.2.symm.trans hon.2)
    exact (calHoldAdc_beside hb hout _).lane

/-- What a write of CNV_REF makes of ADC a: its reference, and its lanes (R108, R109). -/
structure RefWritten (c a : Nat) (v : Word) (s u : State) : Prop where
  sel : u.refSel c a = if fget (2 * a) 2 v = 3 then s.refSel c a else fget (2 * a) 2 v
  ref : u.refOf c a = if u.refSel c a = s.refSel c a then s.refOf c a else ⟨false, true⟩
  outer : ∀ x, x / 256 ≠ c → u.lane x = s.lane x
  same : u.refSel c a = s.refSel c a → ∀ x, onAdc c a x → u.lane x = s.lane x
  held : u.refSel c a ≠ s.refSel c a → ∀ x, onAdc c a x → calHeld x s u

theorem refSelect_written {c a : Nat} (ha : a < 8) (v : Word) {s : State} (hlen : (s.cl c).adc.length = 8) :
    RefWritten c a v s (s.refSelect c v a) := by
  by_cases hch : s.refChanges c v a
  case neg =>
    rw [refSelect_kept hch]
    refine ⟨?_, by rw [if_pos rfl], fun _ _ => rfl, fun _ _ _ => rfl, fun h => absurd rfl h⟩
    unfold State.refChanges at hch
    split <;> tauto
  have hsel : (s.refSelect c v a).refSel c a = fget (2 * a) 2 v := by
    rw [refSelect_changed hch, State.refSel, calHoldAdc_reg _ _ ha (clearOfTurns_CNV_REF c), takeRef_reg,
      fget_fput_same _ _ _ _ (by omega), Nat.mod_eq_of_lt (fget_lt ..)]
  have hnew : (s.refSelect c v a).refSel c a ≠ s.refSel c a := by rw [hsel]; exact hch.2
  refine ⟨by rw [hsel, if_neg hch.1], ?_, fun x hx => ?_, fun h => absurd h hnew, fun _ x hx => ?_⟩
  · rw [if_neg hnew, refSelect_changed hch, State.refOf, calHoldAdc_cl _ _ ha, takeRef_adc, List.getD_eq_getElem _ _ (by simp [hlen, ha]),
      List.getElem_set_self]
  · rw [refSelect_changed hch]
    exact (calHoldAdc_beside ha (fun h => hx h.1) _).lane
  · rw [refSelect_changed hch]
    exact calHoldAdc_held hx (s.takeRef c v a)

/-- A write of all fields: each ADC has its own turn. -/
theorem doRefSelect_written {c a : Nat} (ha : a < 8) (v : Word) {s : State} (hlen : (s.cl c).adc.length = 8) :
    RefWritten c a v s (doRefSelect c v s) := by
  obtain ⟨u, hbefore, hafter⟩ := foldl_turn (R := BesideAdc c a) (fun _ => .refl) .trans (f := State.refSelect c v) List.nodup_range
    (List.mem_range.2 ha) (fun u b hb hne => refSelect_beside (List.mem_range.1 hb) hne v u) s
  obtain ⟨hsel, href, houter, hsame, hheld⟩ := refSelect_written (s := u) ha v (hbefore.len.trans hlen)
  rw [← hafter.sel, hbefore.sel] at hsel hsame hheld
  rw [← hafter.ref, ← hafter.sel, hbefore.sel, hbefore.ref] at href
  refine ⟨hsel, href, fun x hx => ?_, fun h x hx => ?_, fun h x hx hruns => ?_⟩
  · exact (hafter.lane x (.inl hx)).trans ((houter x hx).trans (hbefore.lane x (.inl hx)))
  · exact (hafter.lane x (.inr hx)).trans ((hsame h x hx).trans (hbefore.lane x (.inr hx)))
  · have hlane := hbefore.lane x (.inr hx)
    have hturn := hheld h x hx (by rwa [hlane])
    rw [hlane, hbefore.back, ← hafter.lane x (.inr hx)] at hturn
    exact hturn

/-! ### Settling, and leaving the window (R108) -/

/-- Stores the reference of one ADC. -/
def State.putRef (s : State) (c a : Nat) (r : AdcRef) : State := s.setCl c { s.cl c with adc := (s.cl c).adc.set a r }

theorem putRef_settled_same {s : State} {c a : Nat} (h : a < (s.cl c).adc.length) (r : AdcRef) :
    ((s.putRef c a r).cl c).settled a = r.settled := by
  rw [State.putRef, cl_setCl_same, Cluster.settled, List.getD_eq_getElem _ _ (by simpa using h), List.getElem_set_self]

theorem putRef_settled_ne (s : State) {c a b : Nat} (h : b ≠ a) (r : AdcRef) :
    ((s.putRef c a r).cl c).settled b = (s.cl c).settled b := by
  rw [State.putRef, cl_setCl_same, Cluster.settled, adc_set_ne h.symm, Cluster.settled]

/-- REF_BAD of the ADC is set. -/
theorem refBad_testBit (s : State) (c : Nat) {a : Nat} (ha : a < 8) :
    ((s.refBad c a).f CNV_STATUS.REF_BAD [c]).testBit a = true := by
  have hlen : CNV_STATUS.REF_BAD.len = 8 := rfl
  rw [State.refBad, f_setF_same _ _ _ _ (by decide), hlen, Nat.testBit_mod_two_pow, Nat.testBit_or, Nat.testBit_two_pow_self]
  simp [ha]

theorem refBad_cl (s : State) (c a d : Nat) : (s.refBad c a).cl d = s.cl d := (refBad_keeps ..).cl rfl d

section
variable {s : State} {c a : Nat}

theorem doRefExpiry_in (h : (s.cl c).settled a = false) : doRefExpiry c a true s = s.putRef c a ⟨true, false⟩ := by
  unfold doRefExpiry
  simp only [h, Bool.false_eq_true, if_false, if_true]
  rfl

theorem doRefExpiry_out (h : (s.cl c).settled a = false) (hs : (s.refOf c a).settling = true) :
    doRefExpiry c a false s = (s.putRef c a ⟨false, false⟩).refBad c a := by
  unfold State.refOf at hs
  unfold doRefExpiry
  simp only [h, hs, Bool.false_eq_true, if_false, if_true]
  rfl

theorem doRefOut_eq (h : (s.cl c).settled a = true) :
    doRefOut c a s = ((s.putRef c a ⟨false, false⟩).refBad c a).calHoldAdc c a := if_pos h

end

/-! ### The statement -/

theorem exec_refSelectWrite {s : State} (ho : s.isOpen = true) (c : Fin 144) (v : Word) :
    exec (.refSelectWrite c v) s = .next (doRefSelect c v s) := by
  have hopen : s.shut .CNV_REF [c.val] = false := not_shut ho (.inr (by decide)) nofun
  exact congrArg Host.Outcome.next (hostWr_of_not_shut hopen)

/-- Settles O20: each ADC has its own turn in a write of CNV_REF, and each of its lanes in the hold of the ADC. -/
theorem references : Obligations.References := by
  unfold Obligations.References
  refine fun s c a v hlen => ⟨fun ho => ⟨_, exec_refSelectWrite ho c v, ?write⟩, fun h => ?settled, fun h hs => ?bad, fun h => ?out⟩
  all_goals have hlt : a.val < (s.cl c).adc.length := by rw [hlen]; exact a.isLt
  case write =>
    obtain ⟨hsel, href, houter, hsame, hheld⟩ := doRefSelect_written a.isLt v hlen
    exact ⟨hsel, href, houter, fun x hx hxa => ⟨fun h => hsame h x ⟨hx, hxa⟩, fun h => hheld h x ⟨hx, hxa⟩⟩⟩
  case settled =>
    exact .of_eq rfl (doRefExpiry_in h) ⟨putRef_settled_same hlt _, fun b hb => putRef_settled_ne s hb _,
      (setCl_keeps ..).changesOnly rfl⟩
  case bad =>
    exact .of_eq rfl (doRefExpiry_out h hs) ⟨by rw [refBad_cl, putRef_settled_same hlt], refBad_testBit _ _ a.isLt,
      ((setCl_keeps ..).trans (refBad_keeps ..)).changesOnly rfl⟩
  case out =>
    refine .of_eq rfl (doRefOut_eq h) ⟨?_, ?_, fun x hx => ?_, fun x hx hxa => ?_⟩
    · rw [calHoldAdc_cl _ _ a.isLt, refBad_cl, putRef_settled_same hlt]
    · rw [calHoldAdc_f _ _ a.isLt (clearOfTurns_CNV_STATUS c), refBad_testBit _ _ a.isLt]
    · exact (calHoldAdc_beside a.isLt (fun ho => hx.elim (fun hc => hc ho.1) fun ha => ha ho.2) _).lane
    · exact calHoldAdc_held ⟨hx, hxa⟩ ((s.putRef c a ⟨false, false⟩).refBad c a)

end Sys2Proof.Machine
end

section
/-! PROOF. The hand-over of a lane at the end of its profile (O24). -/
namespace Sys2Proof.Machine

/-! ### What the pure lane changes leave -/

/-- Entry by class or slot touches the loop state with its counts and the demodulator, and nothing that the profile left. -/
theorem enter_keeps (l : Lane) (e : Nat) : (l.enter e).prof = l.prof ∧ (l.enter e).leakIdle = l.leakIdle ∧ (l.enter e).i = l.i
    ∧ (l.enter e).drv = l.drv ∧ (l.enter e).tap0 = l.tap0 := by
  unfold Lane.enter
  split_ifs <;> exact ⟨rfl, rfl, rfl, rfl, rfl⟩

theorem limit_eq (l : Lane) {lim : Int} (h : 0 ≤ lim) (i : Int) : ∃ k, l.limit lim i = { l with i := clampI (-lim) lim i, sticky := k } := by
  have hi := limit_i l h i
  unfold Lane.limit at hi ⊢
  split_ifs at hi ⊢ <;> exact ⟨_, by rw [← hi]⟩

/-- The long average of an egress lane that is to pass light starts at its power word (R97). -/
theorem freshAvg_tap0_avg (l : Lane) (e : Nat) :
    (l.freshAvg e).tap0.avg = if isEgressE e && !l.cmd then l.tap0.word else l.tap0.avg := by
  unfold Lane.freshAvg
  split <;> rfl

theorem freshAvg_keeps (l : Lane) (e : Nat) : (l.freshAvg e).prof = l.prof ∧ (l.freshAvg e).leakIdle = l.leakIdle
    ∧ (l.freshAvg e).i = l.i ∧ (l.freshAvg e).drv = l.drv ∧ (l.freshAvg e).lit = l.lit ∧ (l.freshAvg e).cmd = l.cmd := by
  unfold Lane.freshAvg
  split <;> exact ⟨rfl, rfl, rfl, rfl, rfl, rfl⟩

theorem redemod_keeps (l : Lane) (e : Nat) : (l.redemod e).lit = l.lit ∧ (l.redemod e).cmd = l.cmd ∧ (l.redemod e).tap0 = l.tap0 := by
  unfold Lane.redemod
  split <;> exact ⟨rfl, rfl, rfl⟩

/-! ### The three ends of a profile (R83, R139) -/

/-- The lane whose profile has ended, before it takes its state. -/
def State.ended (s : State) (e : Nat) : Lane :=
  { (s.lane e).redemod e with
    prof := { (s.lane e).prof with on := false }, leakIdle := 16, damp := s.damp e
    tr := (s.lane e).tr.filter fun x => !x.recd || x.res == .progress }

/-- The lane whose loop goes on: its integrator takes what a set-point write left between target and set-point (R81). -/
def State.resumed (s : State) (e : Nat) : Lane :=
  let l := (s.ended e).limit (s.intLim e) (((s.lane e).prof.tgt - s.slotDrive e (s.lane e).cmd) * 256)
  { l with drv := s.slotDrive e (s.lane e).cmd + asr l.i 8 }.freshAvg e

/-- The lane after its hand-over. -/
def State.handedOver (s : State) (e : Nat) : Lane :=
  if (s.lane e).st = .off then s.ended e
  else if !s.loopOn e then { s.ended e with st := .off, i := 0, why := 0 }
  else (s.resumed e).enter e

theorem doHandOver_eq {s : State} {e : Nat} (t : Nat) (hon : (s.lane e).prof.on = true) (hlen : (s.lane e).prof.len ≤ (s.lane e).prof.n) :
    doHandOver e t s = (s.passTo t).putLane e (s.handedOver e) := by
  have hdue : ¬ (!((s.passTo t).lane e).prof.on || decide (((s.passTo t).lane e).prof.n < ((s.passTo t).lane e).prof.len)) = true := by
    rw [passTo_lane, hon]
    simpa using hlen
  have hsame : (s.passTo t).handedOver e = s.handedOver e := passTo_congr s t (·.handedOver e) fun _ => rfl
  rw [← hsame]
  unfold doHandOver
  simp only [if_neg hdue]
  unfold State.handedOver
  split
  · rfl
  · split <;> rfl

section
variable (s : State) (e : Nat)

theorem ended_st : (s.ended e).st = (s.lane e).st := (redemod_facts (s.lane e) e).1

/-- The demodulator of a switching lane restarted with the end of the profile (R72). -/
theorem ended_fill (h : isCuffE e = false) : (s.ended e).fill = 0 := by
  have hfill : (s.ended e).fill = ((s.lane e).redemod e).fill := rfl
  rw [hfill, Lane.redemod, h]
  rfl

/-- The lane whose loop goes on, before it takes its state. -/
structure Resumed (l : Lane) : Prop where
  on : l.prof.on = false
  leakIdle : l.leakIdle = 16
  int : l.i = clampI (-(s.intLim e)) (s.intLim e) (((s.lane e).prof.tgt - s.slotDrive e (s.lane e).cmd) * 256)
  drv : l.drv = s.slotDrive e (s.lane e).cmd + asr l.i 8
  lit : l.lit = (s.lane e).lit
  cmd : l.cmd = (s.lane e).cmd
  avg : l.tap0.avg = if isEgressE e && !(s.lane e).cmd then (s.lane e).tap0.word else (s.lane e).tap0.avg

theorem resumed_resumed : Resumed s e (s.resumed e) := by
  obtain ⟨k, hk⟩ := limit_eq (s.ended e) (intLim_nonneg s e) (((s.lane e).prof.tgt - s.slotDrive e (s.lane e).cmd) * 256)
  obtain ⟨hlit, hcmd, htap⟩ := redemod_keeps (s.lane e) e
  have hcmd' : (s.ended e).cmd = (s.lane e).cmd := hcmd
  have htap' : (s.ended e).tap0 = (s.lane e).tap0 := htap
  unfold State.resumed
  rw [hk]
  extract_lets l
  obtain ⟨fprof, fidle, fint, fdrv, flit, fcmd⟩ := freshAvg_keeps { l with drv := s.slotDrive e (s.lane e).cmd + asr l.i 8 } e
  refine ⟨by rw [fprof]; rfl, fidle, fint, by rw [fdrv, fint], flit.trans hlit, fcmd.trans hcmd, ?_⟩
  rw [freshAvg_tap0_avg]
  simp only [l, hcmd', htap']

/-- Its hand-over: what it resumed with, and the state of its class or slot. -/
theorem handedOver_loop (hst : (s.lane e).st ≠ .off) (hon : s.loopOn e = true) : s.handedOver e = (s.resumed e).enter e := by
  rw [State.handedOver, if_neg hst, hon]
  rfl

theorem handedOver_loopOff (hst : (s.lane e).st ≠ .off) (hon : s.loopOn e = false) :
    s.handedOver e = { s.ended e with st := .off, i := 0, why := 0 } := by
  rw [State.handedOver, if_neg hst, hon]
  rfl

theorem handedOver_off (hst : (s.lane e).st = .off) : s.handedOver e = s.ended e := if_pos hst

/-- The lane does not enter FAULT, and its profile is over. -/
theorem handedOver_facts : (s.handedOver e).st ≠ .fault ∧ (s.handedOver e).prof.on = false ∧ (s.handedOver e).leakIdle = 16
    ∧ (isCuffE e = false → (s.handedOver e).fill = 0) := by
  by_cases hst : (s.lane e).st = .off
  · rw [handedOver_off s e hst]
    exact ⟨by rw [ended_st, hst]; nofun, rfl, rfl, ended_fill s e⟩
  cases hon : s.loopOn e
  case false =>
    rw [handedOver_loopOff s e hst hon]
    exact ⟨nofun, rfl, rfl, ended_fill s e⟩
  case true =>
    obtain ⟨hprof, hidle, -⟩ := enter_keeps (s.resumed e) e
    have hres := resumed_resumed s e
    rw [handedOver_loop s e hst hon]
    refine ⟨(enter_facts _ e).1, by rw [hprof, hres.on], hidle.trans hres.leakIdle, fun hcuf => ?_⟩
    rw [enter_switching _ hcuf]
    split <;> rfl

end

/-- The loop goes on: integrator and drive by the set-point in force, the state by class or slot (R81, R83, R97). -/
structure HandedLoop (s : State) (e : Nat) (l : Lane) : Prop where
  int : l.i = clampI (-(s.intLim e)) (s.intLim e) (((s.lane e).prof.tgt - s.slotDrive e (s.lane e).cmd) * 256)
  drv : l.drv = s.slotDrive e (s.lane e).cmd + asr l.i 8
  switching : isCuffE e = false → l.st = if (s.lane e).lit then .acquire else .hold
  cuff : isCuffE e = true → l.st = (if (s.lane e).cmd then .block else if isEgressE e then .acquire else .atten)
    ∧ l.tap0.avg = if isEgressE e && !(s.lane e).cmd then (s.lane e).tap0.word else (s.lane e).tap0.avg

theorem handedLoop_enter (s : State) (e : Nat) : HandedLoop s e ((s.resumed e).enter e) := by
  obtain ⟨-, -, hi, hdrv, htap⟩ := enter_keeps (s.resumed e) e
  have hres := resumed_resumed s e
  refine ⟨hi.trans hres.int, by rw [hdrv, hi, hres.drv], fun hcuf => ?_, fun hcuf => ⟨?_, by rw [htap, hres.avg]⟩⟩
  · rw [enter_switching _ hcuf, hres.lit]
    split <;> rfl
  · rw [enter_cuff _ hcuf, hres.cmd]
    split_ifs <;> rfl

/-- The hand-over, as O24 has it. -/
theorem runs_handOver {s : State} {e : Fin 36864} {t : Nat} (hon : (s.lane e).prof.on = true) (hlen : (s.lane e).prof.len ≤ (s.lane e).prof.n) :
    Runs (.handOver e t) s (Stored e (s.handedOver e) s) := by
  refine .of_eq rfl (doHandOver_eq t hon hlen) (stored_putLane fun h => absurd h (handedOver_facts s e).1)

end Sys2Proof.Machine
end

section
/-! PROOF. The report of a cluster, the record of a lane, and the statement on both and the hand-over (O24). -/
namespace Sys2Proof.Machine

/-! ### Registers that a command does not reach -/

theorem reg_of_otherRegs {l : List Nat} {s t : State} (h : otherRegs l s t) (hs : t.sys.stage = s.sys.stage) {r : Reg} {ix : List Nat}
    (hr : r.at ix ∉ l) : t.reg r ix = s.reg r ix := by
  simp only [State.reg, hs, h _ hr]

/-- A register with one word per lane in the profile table of R152, by its offset in the entry. -/
theorem at_profile {r : Reg} {b : Nat} (hd : r.row.dims = [(0x10000, 144), (0x10, 256)]) (hb : r.row.base = 0x1008000 + b) (q j : Nat) :
    r.at [q, j] = 0x1008000 + b + 0x10000 * q + 0x10 * j := by
  simp only [Reg.at, hd, hb, dimOff]
  omega

theorem at_PRF_LAST (q j : Nat) : Reg.PRF_LAST.at [q, j] = 0x1008000 + 4 + 0x10000 * q + 0x10 * j := at_profile rfl rfl q j
theorem at_PRF_PWR (q j : Nat) : Reg.PRF_PWR.at [q, j] = 0x1008000 + 8 + 0x10000 * q + 0x10 * j := at_profile rfl rfl q j
theorem at_PRF_MOVE (q j : Nat) : Reg.PRF_MOVE.at [q, j] = 0x1008000 + 12 + 0x10000 * q + 0x10 * j := at_profile rfl rfl q j

/-! ### The record of a lane (R147, R152) -/

/-- FINAL of a record: the power word of the tap that the slot leaves dark. -/
def State.finalWord (s : State) (e : Nat) : Int :=
  if isCuffE e then 0 else if darkIs0 e (s.lane e).cmd then (s.lane e).tap1.word else (s.lane e).tap0.word

/-- The profile table of lane e holds the record of tr. -/
structure Recorded (s : State) (e : Nat) (tr : Trans) (len : Nat) (res : LaneRes) (u : State) : Prop where
  last : u.reg .PRF_LAST [e / 256, e % 256] = wd (res.code * 2 ^ 28 + tr.df % 16 * 2 ^ 24 + len * 2 ^ 16 + min 65535 tr.tset)
  pwr : u.reg .PRF_PWR [e / 256, e % 256]
    = wd (low 16 (s.finalWord e) * 2 ^ 16 + low 16 (if isCuffE e then 0 else tr.peakLeak))
  move : u.reg .PRF_MOVE [e / 256, e % 256]
    = wd (min 65535 (if isCuffE e then 0 else (max 0 (tr.maxLit - s.finalWord e)).toNat) * 2 ^ 16 + tr.dist)

theorem writeMeas_recorded (s : State) (e : Nat) (tr : Trans) (len : Nat) (res : LaneRes) :
    Recorded s e tr len res (s.writeMeas e tr len res) := by
  unfold State.writeMeas
  extract_lets ix l cuf fin peak ovr s1 s2 s3
  have hoffer : ∀ {ty cl item w pl} {r : Reg}, r.at ix ∉ suppRegs → (s3.offer ty cl item w pl).reg r ix = s3.reg r ix :=
    fun hr => reg_of_otherRegs (.offer mem_suppRegs) ((offer_keeps ..).stage rfl) hr
  have hlate : ∀ {n : Nat}, 0x1008000 ≤ n → n ∉ suppRegs := fun hn hm => by
    have := (suppRegs_bounds _ hm).2
    omega
  have hL : Reg.PRF_LAST.at ix = 0x1008000 + 4 + 0x10000 * (e / 256) + 0x10 * (e % 256) := at_PRF_LAST ..
  have hP : Reg.PRF_PWR.at ix = 0x1008000 + 8 + 0x10000 * (e / 256) + 0x10 * (e % 256) := at_PRF_PWR ..
  have hM : Reg.PRF_MOVE.at ix = 0x1008000 + 12 + 0x10000 * (e / 256) + 0x10 * (e % 256) := at_PRF_MOVE ..
  refine ⟨?_, ?_, ?_⟩
  · rw [hoffer (hlate (by omega)), reg_setReg_ne _ _ (by omega), reg_setReg_ne _ _ (by omega), reg_setReg_same]
  · rw [hoffer (hlate (by omega)), reg_setReg_ne _ _ (by omega), reg_setReg_same]
    rfl
  · rw [hoffer (hlate (by omega)), reg_setReg_same]
    rfl

theorem Recorded.setLane {s u : State} {e : Nat} {tr : Trans} {len : Nat} {res : LaneRes} (h : Recorded s e tr len res u) (l : Lane) :
    Recorded s e tr len res (u.setLane e l) := ⟨h.last, h.pwr, h.move⟩

/-- The transition of a lane once its record is written: it stays while it is in progress or its profile runs (R148). -/
def Lane.recorded (l : Lane) (tr : Trans) : Lane :=
  { l with tr := if tr.res = .progress ∨ l.prof.on = true then some { tr with recd := true } else none }

theorem doMeasRecord_eq {s : State} {e : Nat} {tr : Trans} (t : Nat) (h : (s.lane e).tr = some tr) (hf : 17 ≤ tr.f) (hr : tr.recd = false) :
    doMeasRecord e t s = ((s.passTo t).writeMeas e tr (s.lane e).prof.len tr.res).setLane e ((s.lane e).recorded tr) := by
  have hlane : ((s.passTo t).writeMeas e tr (s.lane e).prof.len tr.res).lane e = s.lane e := by
    rw [(writeMeas_keeps ..).lane rfl, passTo_lane]
  unfold doMeasRecord
  simp only [passTo_lane, h]
  rw [if_neg (by simp [hr]; omega), hlane]
  rfl

/-! ### Steps of calibration that start again (R476) -/

/-- From s to u only the references and the range of cluster c were changed, and lanes had turns. -/
structure StepsAgain (c : Nat) (s u : State) : Prop where
  reg : ∀ r ix, clearOfTurns (Reg.at r ix) = true → Reg.at r ix ≠ Reg.CNV_RANGE.at [c] → Reg.at r ix ≠ Reg.CNV_REF.at [c] →
    u.reg r ix = s.reg r ix
  tr : (u.cl c).tr = (s.cl c).tr

theorem StepsAgain.refl {c : Nat} {s : State} : StepsAgain c s s := ⟨fun _ _ _ _ _ => rfl, rfl⟩

theorem StepsAgain.trans {c : Nat} {s u v : State} (h : StepsAgain c s u) (k : StepsAgain c u v) : StepsAgain c s v :=
  ⟨fun r ix hc hrange href => (k.reg r ix hc hrange href).trans (h.reg r ix hc hrange href), k.tr.trans h.tr⟩

theorem StepsAgain.putCal {c : Nat} {s : State} (k : Cal) : StepsAgain c s { s with cal := k } := ⟨fun _ _ _ _ _ => rfl, rfl⟩

theorem StepsAgain.setRange {c : Nat} {s : State} (n : Nat) : StepsAgain c s (s.setF CNV_RANGE.RMODE [c] n) :=
  ⟨fun _ _ _ hrange _ => reg_setReg_ne _ _ hrange.symm, rfl⟩

theorem StepsAgain.calHoldAdc {c a : Nat} (ha : a < 8) {s : State} : StepsAgain c s (s.calHoldAdc c a) :=
  ⟨fun _ _ hc _ _ => calHoldAdc_reg s c ha hc, by rw [calHoldAdc_cl _ _ ha]⟩

theorem StepsAgain.takeRef {c a : Nat} {v : Word} {s : State} : StepsAgain c s (s.takeRef c v a) :=
  ⟨fun _ _ _ _ href => reg_setReg_ne s _ href.symm, by rw [State.takeRef, cl_setCl_same]; rfl⟩

theorem StepsAgain.refSelect {c a : Nat} (ha : a < 8) (v : Word) {s : State} : StepsAgain c s (s.refSelect c v a) := by
  by_cases h : s.refChanges c v a
  · rw [refSelect_changed h]
    exact .trans .takeRef (.calHoldAdc ha)
  · rw [refSelect_kept h]
    exact .refl

theorem calAgain_steps (s : State) (c : Nat) : StepsAgain c s (s.calAgain c) := by
  refine foldl_rel (fun _ => .refl) .trans (fun u key _ => ?_) s
  have hkey : key % 8 < 8 := Nat.mod_lt _ (by decide)
  split
  all_goals split
  · exact .trans (.trans (.trans (.putCal _) (.setRange 2)) (.calHoldAdc hkey)) (.refSelect hkey _)
  · exact .trans (.trans (.putCal _) (.setRange 2)) (.calHoldAdc hkey)
  · exact .trans (.trans (.putCal _) (.calHoldAdc hkey)) (.refSelect hkey _)
  · exact .trans (.putCal _) (.calHoldAdc hkey)

/-- With no abandoned step of the cluster nothing starts again. -/
theorem calAgain_none {s : State} {c : Nat} (h : ∀ k ∈ s.cal.again, k / 8 ≠ c) : s.calAgain c = s := by
  have hnil : (s.cal.again.filter fun k => decide (k / 8 = c)) = [] := List.filter_eq_nil_iff.2 fun k hk => by simp [h k hk]
  rw [State.calAgain, hnil]
  rfl

/-! ### The report of a cluster (R145, R146) -/

/-- The latest settle time, as TRN_TIME and COL_SLOT_B have it. -/
def ClTrans.latest (k : ClTrans) : Word := if k.has then wd (k.t0 + k.tl) else 0

/-- The registers of the report: the result of the cluster, and its collector slot. -/
def State.putSlot (s : State) (c pat : Nat) (k : ClTrans) : State :=
  (((s.setReg .TRN_RESULT [c] (wd (k.result.code * 2 ^ 30 + k.nFail * 2 ^ 18 + k.nUnobs * 2 ^ 9 + k.nSet))).setReg .TRN_TIME [c]
    k.latest).setReg .COL_SLOT_A [c] (wd (pat * 2 ^ 22 + k.result.code * 2 ^ 20 + k.nUnobs * 2 ^ 9 + k.nFail))).setReg .COL_SLOT_B [c]
    k.latest

/-- The pattern is closed in its cluster, and merged into its entry of the collector. -/
def State.closePat (s : State) (c pat : Nat) (k : ClTrans) : State :=
  let s1 := s.setCl c { s.cl c with tr := (s.cl c).tr.filter (fun x => x.pat ≠ pat) }
  { s1 with col := s1.col.map fun x => if x.pat = pat then x.merge c k else x }

/-- What the report of a cluster writes before its interrupt. -/
def State.putReport (s : State) (c pat : Nat) (k : ClTrans) : State := (s.putSlot c pat k).closePat c pat k

theorem doClusterReport_eq {s : State} {c pat : Nat} {k : ClTrans} (h : (s.cl c).tr.find? (fun x => x.pat == pat) = some k)
    (hk : k.open_ = 0 ∨ 0 < k.nSup) : doClusterReport c pat s = ((s.putReport c pat k).icEdge (256 + c)).calAgain c := by
  unfold doClusterReport
  simp only [h]
  rw [if_neg (by omega)]
  rfl

theorem closePat_reg (s : State) (c pat : Nat) (k : ClTrans) (r : Reg) (ix : List Nat) : (s.closePat c pat k).reg r ix = s.reg r ix := rfl

theorem closePat_cl (s : State) (c pat : Nat) (k : ClTrans) :
    (s.closePat c pat k).cl c = { s.cl c with tr := (s.cl c).tr.filter (fun x => x.pat ≠ pat) } := cl_setCl_same ..

theorem putSlot_keeps (s : State) (c pat : Nat) (k : ClTrans) : Keeps 0x4 s (s.putSlot c pat k) :=
  (setReg_keeps ..).step ((setReg_keeps ..).step ((setReg_keeps ..).step (setReg_keeps ..) rfl) rfl) rfl

theorem putReport_keeps (s : State) (c pat : Nat) (k : ClTrans) : Keeps 0x64 s (s.putReport c pat k) :=
  Keeps.upd ((setCl_keeps ..).step ((putSlot_keeps ..).step .refl rfl) rfl)

/-- An offset that nothing behind the report writes. -/
def reportReg (c a : Nat) : Prop :=
  clearOfTurns a = true ∧ a ≠ Reg.CNV_RANGE.at [c] ∧ a ≠ Reg.CNV_REF.at [c] ∧ a ≠ Reg.IC_SRC.at [256 + c]

theorem reg_behind_report (s : State) {c : Nat} {r : Reg} {ix : List Nat} (h : reportReg c (r.at ix)) :
    ((s.icEdge (256 + c)).calAgain c).reg r ix = s.reg r ix := by
  obtain ⟨hclear, hrange, href, hic⟩ := h
  rw [(calAgain_steps ..).reg _ _ hclear hrange href]
  exact reg_of_otherRegs (.icEdge (List.mem_singleton.2 rfl)) ((icEdge_keeps ..).stage rfl) (by simpa using hic)

/-! The offsets of the registers of a report, and of those that are written behind it. -/

theorem at_TRN_RESULT (c : Nat) : Reg.TRN_RESULT.at [c] = 0x1000328 + 0x10000 * c := rfl
theorem at_TRN_TIME (c : Nat) : Reg.TRN_TIME.at [c] = 0x100032c + 0x10000 * c := rfl
theorem at_COL_SLOT_A (c : Nat) : Reg.COL_SLOT_A.at [c] = 0x30a00 + 8 * c := rfl
theorem at_COL_SLOT_B (c : Nat) : Reg.COL_SLOT_B.at [c] = 0x30a04 + 8 * c := rfl
theorem at_CNV_RANGE (c : Nat) : Reg.CNV_RANGE.at [c] = 0x1000108 + 0x10000 * c := rfl
theorem at_CNV_REF (c : Nat) : Reg.CNV_REF.at [c] = 0x1000100 + 0x10000 * c := rfl
theorem at_IC_SRC (n : Nat) : Reg.IC_SRC.at [n] = 0x40000400 + 4 * n := rfl

/-- An offset of cluster c clear of turns and of its references and range, or one of the collector slots. -/
theorem reportReg_iff (c a : Nat) : reportReg c a ↔ clearOfTurns a = true ∧ a ≠ 0x1000108 + 0x10000 * c
    ∧ a ≠ 0x1000100 + 0x10000 * c ∧ a ≠ 0x40000400 + 4 * (256 + c) := by
  rw [reportReg, at_CNV_RANGE, at_CNV_REF, at_IC_SRC]

theorem reportReg_TRN_RESULT (c : Nat) : reportReg c (Reg.TRN_RESULT.at [c]) :=
  (reportReg_iff ..).2 ⟨clearOfTurns_cluster (by decide) (by decide) (by decide) c, by rw [at_TRN_RESULT]; omega⟩

theorem reportReg_TRN_TIME (c : Nat) : reportReg c (Reg.TRN_TIME.at [c]) :=
  (reportReg_iff ..).2 ⟨clearOfTurns_cluster (by decide) (by decide) (by decide) c, by rw [at_TRN_TIME]; omega⟩

theorem clearOfTurns_of_lt {a : Nat} (h : a < 0x200000) : clearOfTurns a = true := by simp [clearOfTurns, h]

theorem reportReg_COL_SLOT_A {c : Nat} (hc : c < 144) : reportReg c (Reg.COL_SLOT_A.at [c]) := by
  rw [at_COL_SLOT_A, reportReg_iff]
  exact ⟨clearOfTurns_of_lt (by omega), by omega⟩

theorem reportReg_COL_SLOT_B {c : Nat} (hc : c < 144) : reportReg c (Reg.COL_SLOT_B.at [c]) := by
  rw [at_COL_SLOT_B, reportReg_iff]
  exact ⟨clearOfTurns_of_lt (by omega), by omega⟩

/-- The registers that a report has written. -/
structure ReportRegs (s : State) (c pat : Nat) (k : ClTrans) : Prop where
  result : s.reg .TRN_RESULT [c] = wd (k.result.code * 2 ^ 30 + k.nFail * 2 ^ 18 + k.nUnobs * 2 ^ 9 + k.nSet)
  time : s.reg .TRN_TIME [c] = k.latest
  slotA : s.reg .COL_SLOT_A [c] = wd (pat * 2 ^ 22 + k.result.code * 2 ^ 20 + k.nUnobs * 2 ^ 9 + k.nFail)
  slotB : s.reg .COL_SLOT_B [c] = k.latest

theorem putReport_regs (s : State) (c pat : Nat) (k : ClTrans) : ReportRegs (s.putReport c pat k) c pat k := by
  have hR := at_TRN_RESULT c
  have hT := at_TRN_TIME c
  have hA := at_COL_SLOT_A c
  have hB := at_COL_SLOT_B c
  refine ⟨?_, ?_, ?_, ?_⟩
  all_goals rw [State.putReport, closePat_reg, State.putSlot]
  · rw [reg_setReg_ne _ _ (by omega), reg_setReg_ne _ _ (by omega), reg_setReg_ne _ _ (by omega), reg_setReg_same]
  · rw [reg_setReg_ne _ _ (by omega), reg_setReg_ne _ _ (by omega), reg_setReg_same]
  · rw [reg_setReg_ne _ _ (by omega), reg_setReg_same]
  · rw [reg_setReg_same]

theorem report_regs (s : State) {c : Nat} (hc : c < 144) (pat : Nat) (k : ClTrans) :
    ReportRegs (((s.putReport c pat k).icEdge (256 + c)).calAgain c) c pat k := by
  obtain ⟨hR, hT, hA, hB⟩ := putReport_regs s c pat k
  exact ⟨by rw [reg_behind_report _ (reportReg_TRN_RESULT c), hR], by rw [reg_behind_report _ (reportReg_TRN_TIME c), hT],
    by rw [reg_behind_report _ (reportReg_COL_SLOT_A hc), hA], by rw [reg_behind_report _ (reportReg_COL_SLOT_B hc), hB]⟩

/-- The collector merges the report into the entry of its pattern (R146). -/
theorem report_col (s : State) (c pat : Nat) (k : ClTrans) : (((s.putReport c pat k).icEdge (256 + c)).calAgain c).col
    = s.col.map fun x : ColEnt => if x.pat = pat then { x with
        wait := x.wait.filter (· ≠ c), res := if x.res.code < k.result.code then k.result else x.res,
        nUnobs := x.nUnobs + k.nUnobs, nFail := x.nFail + k.nFail, tl := max x.tl k.tl, has := x.has || k.has } else x :=
  ((calAgain_keeps ..).frame .col rfl).trans ((icEdge_keeps ..).frame .col rfl)

/-- The cluster has closed the pattern. -/
theorem report_tr (s : State) (c pat : Nat) (k : ClTrans) :
    ((((s.putReport c pat k).icEdge (256 + c)).calAgain c).cl c).tr = (s.cl c).tr.filter (fun x => x.pat ≠ pat) := by
  have hslot : (s.putSlot c pat k).cl c = s.cl c := (putSlot_keeps ..).cl rfl c
  rw [(calAgain_steps ..).tr, (icEdge_keeps ..).cl rfl, State.putReport, closePat_cl, hslot]

/-- With no abandoned step of calibration the report reaches no lane. -/
theorem report_parts {s : State} {c : Nat} (pat : Nat) (k : ClTrans) (h : ∀ a ∈ s.cal.again, a / 8 ≠ c) :
    changesOnly [.regs, .clusters, .col, .prl] s (((s.putReport c pat k).icEdge (256 + c)).calAgain c) := by
  have hkeeps : Keeps 0x100064 s ((s.putReport c pat k).icEdge (256 + c)) := (putReport_keeps s c pat k).trans (icEdge_keeps ..)
  have hcal : ((s.putReport c pat k).icEdge (256 + c)).cal = s.cal := hkeeps.frame .cal rfl
  rw [calAgain_none (by rwa [hcal])]
  exact hkeeps.changesOnly rfl

/-! ### The statement -/

/-- Settles O24: the hand-over and the record are one store of the lane each, and what the report writes no step behind it
reaches. -/
theorem handOverAndReports : Obligations.HandOverAndReports := by
  unfold Obligations.HandOverAndReports
  refine ⟨fun s e t hon hlen => ?handOver, fun s c pat k e tr t => ⟨fun hfind hk => ?report, fun htr hf hr => ?record⟩⟩
  case handOver =>
    obtain ⟨u, hu, hlane, hothers, hregs, hparts⟩ := runs_handOver (t := t) hon hlen
    obtain ⟨-, hprof, hidle, hfill⟩ := handedOver_facts s e
    refine ⟨u, hu, ?_⟩
    beta_reduce
    rw [hlane]
    refine ⟨hprof, hidle, hfill, hothers, fun hst => ?_, fun hst hoff => ?_, fun hst hloop => ?_, hregs, hparts⟩
    · rw [handedOver_off s e hst, ended_st, hst]
    · rw [handedOver_loopOff s e hst hoff]
      exact ⟨rfl, rfl⟩
    · rw [handedOver_loop s e hst hloop]
      obtain ⟨hi, hdrv, hswitch, hcuff⟩ := handedLoop_enter s e
      exact ⟨hi, hdrv, hswitch, hcuff⟩
  case report =>
    obtain ⟨hR, hT, hA, hB⟩ := report_regs s c.isLt pat k
    exact .of_eq rfl (doClusterReport_eq hfind hk) ⟨hR, hA, hB, hT.trans hB.symm, report_col .., report_tr .., report_parts pat k⟩
  case record =>
    obtain ⟨hlast, hpwr, hmove⟩ := (writeMeas_recorded (s.passTo t) e tr (s.lane e).prof.len tr.res).setLane ((s.lane e).recorded tr)
    have hfin : (s.passTo t).finalWord e = s.finalWord e := passTo_congr s t (·.finalWord e) fun _ => rfl
    rw [hfin, State.finalWord] at hpwr hmove
    refine .of_eq rfl (doMeasRecord_eq t htr hf hr) ⟨hlast, fun hcuf => ?cuff, fun hcuf w hw => ?switching, lane_setLane_same ..,
      fun x hx => ?others, ((passTo_keeps s t).trans ((writeMeas_keeps ..).trans (setLane_keeps ..))).changesOnly rfl⟩
    case cuff =>
      simp only [if_pos hcuf, Nat.min_zero, Nat.zero_mul, Nat.zero_add] at hpwr hmove
      exact ⟨hpwr, hmove⟩
    case switching =>
      simp only [hcuf, Bool.false_eq_true, if_false, ← hw] at hpwr hmove
      exact ⟨hpwr, hmove⟩
    case others => rw [lane_setLane_ne _ _ hx.symm, (writeMeas_keeps ..).lane rfl, passTo_lane]

end Sys2Proof.Machine
end

section
/-! PROOF. The drive of a lane: its output, and a drive update (O22). -/
namespace Sys2Proof.Machine

/-! ### A lane stored with its buffer -/

theorem lane_putLaneBuf_same (s : State) (e : Nat) (l : Lane) (b : Int) : (s.putLaneBuf e l b).lane e = l := by
  simp [State.lane, putLaneBuf_lanes]

theorem otherLanes_putLaneBuf (s : State) (e : Nat) (l : Lane) (b : Int) : otherLanes e s (s.putLaneBuf e l b) := fun x hx => by
  simp [State.lane, putLaneBuf_lanes, sget_sset_ne _ _ _ hx.symm]

theorem LaneTurn.putLaneBuf {s : State} {e : Nat} {l : Lane} (b : Int) (h : l.st = .fault → (s.lane e).st = .fault) :
    LaneTurn e s (s.putLaneBuf e l b) :=
  ⟨otherLanes_putLaneBuf s e l b, (otherRegs_putLaneBuf_of_no_fault b h).mono fun _ ha => List.mem_append_left _ ha,
    putLaneBuf_keeps_of_no_fault b h⟩

/-! ### The output (R118, R121) -/

/-- The output computation sets the clamps, their flag and the code, and nothing else of the lane. -/
theorem driveOut_lane (s : State) (e : Nat) (l : Lane) : ∃ hi lo k o,
    s.driveOut e l = { l with clampHi := hi, clampLo := lo, sticky := k, out := o } := ⟨_, _, _, _, rfl⟩

/-- The output of lane e is forced to 0: the safe command, isolation, OUT_EN 0, or no power (R121, R425). -/
def State.muted (s : State) (e : Nat) (l : Lane) : Prop :=
  (s.cl (e / 256)).safe = true ∨ l.isol = true ∨ s.fb DRV_CTRL.OUT_EN [e / 256] = false ∨ s.folded = true

theorem driveOut_muted {s : State} {e : Nat} {l : Lane} (h : s.muted e l) : (s.driveOut e l).out = 0 :=
  if_pos (by simpa [State.muted, or_assoc] using h)

/-- With limits in order the output is value plus tone between them. -/
theorem driveOut_live {s : State} {e : Nat} {l : Lane} (h : ¬ s.muted e l) (hlim : (s.drvLims e).1 ≤ (s.drvLims e).2) :
    (s.driveOut e l).out = clampI (s.drvLims e).1 (s.drvLims e).2 (l.loaded + s.tone e l) := by
  refine (if_neg (by simpa [State.muted, or_assoc] using h)).trans ?_
  unfold clampI
  split_ifs <;> omega

/-! ### The turn of a lane at a drive update (R118, R123) -/

/-- The lane l' is what a drive update of lane x makes of l. -/
structure State.Driven (s : State) (x : Nat) (l l' : Lane) : Prop where
  st : l'.st = l.st
  int : l'.i = l.i
  drv : l'.drv = l.drv
  buf : l'.buf = s.nextBuf x l
  acc : l'.acc = (l.acc + (s.toneFreq x * 16777216 + l.rem) / 12000000) % 16777216
  mute : s.muted x l → l'.out = 0
  out : ¬ s.muted x l → (s.drvLims x).1 ≤ (s.drvLims x).2 →
    l'.out = clampI (s.drvLims x).1 (s.drvLims x).2 (l'.loaded + s.tone x l')

/-- Before the output is computed: buffer and tone have moved on, loop state and isolation have not. -/
structure State.Clocked (s : State) (x : Nat) (l l' : Lane) : Prop where
  st : l'.st = l.st
  int : l'.i = l.i
  drv : l'.drv = l.drv
  isol : l'.isol = l.isol
  buf : l'.buf = s.nextBuf x l
  acc : l'.acc = (l.acc + (s.toneFreq x * 16777216 + l.rem) / 12000000) % 16777216

theorem State.Clocked.driven {s : State} {x : Nat} {l l' : Lane} (h : s.Clocked x l l') : s.Driven x l (s.driveOut x l') := by
  have hmute : s.muted x l' ↔ s.muted x l := by simp only [State.muted, h.isol]
  exact ⟨h.st, h.int, h.drv, h.buf, h.acc, fun hm => driveOut_muted (hmute.2 hm), fun hm hlim => driveOut_live (hmute.not.2 hm) hlim⟩

theorem driveLane_eq (s : State) (x : Nat) : ∃ l, s.Clocked x (s.lane x) l
    ∧ s.driveLane x = s.putLaneBuf x (s.driveOut x l) (s.nextBuf x (s.lane x)) := by
  unfold State.driveLane
  extract_lets c l buf g loads n acc p l1 l2
  refine ⟨l2, ?_, rfl⟩
  have hl1 : s.Clocked x l l1 := ⟨rfl, rfl, rfl, rfl, rfl, rfl⟩
  simp only [l2]
  split
  · exact ⟨hl1.st, hl1.int, hl1.drv, hl1.isol, hl1.buf, hl1.acc⟩
  · exact hl1

theorem driveLane_driven (s : State) (x : Nat) : s.Driven x (s.lane x) ((s.driveLane x).lane x) := by
  obtain ⟨l, hl, heq⟩ := driveLane_eq s x
  rw [heq, lane_putLaneBuf_same]
  exact hl.driven

theorem driveLane_turn {s : State} {x : Nat} : LaneTurn x s (s.driveLane x) := by
  obtain ⟨l, hl, heq⟩ := driveLane_eq s x
  rw [heq]
  exact .putLaneBuf _ fun h => hl.st.symm.trans h

/-! ### What an update reads, after turns of other lanes -/

theorem clearOfTurns_TONE_TAB (c : Nat) {i : Nat} (h : i < 1024) : clearOfTurns (Reg.TONE_TAB.at [c, i]) = true := by
  simp only [clearOfTurns, Reg.at, Reg.row, dimOff, Bool.or_eq_true, Bool.and_eq_true, decide_eq_true_eq]
  omega

section
variable {x : Nat} {s u : State} (h : Beside x s u)
include h

theorem Beside.folded : u.folded = s.folded := by
  have hpwr : u.pwr = s.pwr := h.keeps.frame .pwr rfl
  simp only [State.folded, hpwr]

theorem Beside.nextBuf (l : Lane) : u.nextBuf x l = s.nextBuf x l := by
  have hcal : u.cal = s.cal := h.keeps.frame .cal rfl
  have hidle : u.fb CUF_CTRL.IDLE_BLOCK [] = s.fb CUF_CTRL.IDLE_BLOCK [] := by
    simp only [State.fb, h.f_clear (y := CUF_CTRL.IDLE_BLOCK) (ix := []) (by decide)]
  have hopt : u.optCl (x / 256) = s.optCl (x / 256) := by simp only [State.optCl, hcal]
  have hdrive : u.driveOf x l = s.driveOf x l := by
    simp only [State.driveOf, h.sp, hidle, hopt, hcal]
  simp only [State.nextBuf, hdrive]

theorem Beside.toneFreq : u.toneFreq x = s.toneFreq x := by
  simp only [State.toneFreq, State.dfreq, h.f_LANE_CFG (y := LANE_CFG.DFREQ) rfl]

theorem Beside.drvLims : u.drvLims x = s.drvLims x := by
  simp only [State.drvLims, h.f_cluster (y := DRV_LIM.DRV_LO) (by decide), h.f_cluster (y := DRV_LIM.DRV_HI) (by decide)]

theorem Beside.tone (l : Lane) : u.tone x l = s.tone x l := by
  have hval : u.toneVal (x / 256) l.acc = s.toneVal (x / 256) l.acc := by
    unfold State.toneVal
    extract_lets ph q i v w
    have hi : i < 1024 := by
      simp only [i]
      split <;> omega
    have hvw : v = w := congrArg Int.ofNat (h.f_clear (clearOfTurns_TONE_TAB _ hi))
    rw [hvw]
  simp only [State.tone, hval]

theorem Beside.muted (l : Lane) : u.muted x l ↔ s.muted x l := by
  simp only [State.muted, h.keeps.cl rfl, State.fb, h.f_cluster (y := DRV_CTRL.OUT_EN) (by decide), h.folded]

theorem Beside.driven {l l' : Lane} (hu : u.Driven x l l') : s.Driven x l l' := by
  obtain ⟨hst, hint, hdrv, hbuf, hacc, hmute, hout⟩ := hu
  rw [h.nextBuf] at hbuf
  rw [h.toneFreq] at hacc
  rw [h.muted] at hmute
  rw [h.muted, h.drvLims, h.tone] at hout
  exact ⟨hst, hint, hdrv, hbuf, hacc, hmute, hout⟩

end

/-- The lane after the updates of its cluster. -/
theorem forLanes_driveLane_driven (s : State) (x : Nat) : s.Driven x (s.lane x) ((forLanes (x / 256) State.driveLane s).lane x) := by
  obtain ⟨u, hbefore, hafter⟩ := forLanes_own_turn (fun u e => driveLane_turn (s := u) (x := e)) x s
  rw [hafter.lane, ← hbefore.lane]
  exact hbefore.driven (driveLane_driven u x)

theorem forLanes_driveLane_keeps (s : State) (c : Nat) : Keeps 0x4014 s (forLanes c State.driveLane s) :=
  forLanes_rel (R := Keeps 0x4014) (fun _ => .refl) .trans (fun _ _ _ => driveLane_turn.keeps) s

/-! ### A drive update -/

/-- The end of an update of cluster c: the count of updates moves on, and the load strobes are used up (R129). -/
def State.endUpdate (s : State) (c : Nat) : State :=
  s.setCl c { s.cl c with upd := ((s.cl c).upd + 1) % 12, ldP := 0, slotP := false }

theorem doDriveUpdate_eq (c t : Nat) (s : State) : ∃ n, doDriveUpdate c t s
    = ((forLanes c State.driveLane (s.passTo t)).setF LSG_EVT.DONE [c] n).endUpdate c := ⟨_, rfl⟩

theorem doDriveUpdate_lane (c t : Nat) (s : State) (x : Nat) :
    (doDriveUpdate c t s).lane x = (forLanes c State.driveLane (s.passTo t)).lane x := by
  obtain ⟨n, hn⟩ := doDriveUpdate_eq c t s
  rw [hn, State.endUpdate, (setCl_keeps ..).lane rfl, (setF_keeps ..).lane rfl]

/-- Before its end an update changes no cluster. -/
theorem drivenLanes_cl (c t n : Nat) (s : State) (d : Nat) :
    ((forLanes c State.driveLane (s.passTo t)).setF LSG_EVT.DONE [c] n).cl d = s.cl d := by
  rw [(setF_keeps ..).cl rfl, (forLanes_driveLane_keeps ..).cl rfl, passTo_cl]

theorem doDriveUpdate_cl_same (c t : Nat) (s : State) :
    (doDriveUpdate c t s).cl c = { s.cl c with upd := ((s.cl c).upd + 1) % 12, ldP := 0, slotP := false } := by
  obtain ⟨n, hn⟩ := doDriveUpdate_eq c t s
  rw [hn, State.endUpdate, cl_setCl_same, drivenLanes_cl]

theorem doDriveUpdate_cl_ne {c d : Nat} (h : d ≠ c) (t : Nat) (s : State) : (doDriveUpdate c t s).cl d = s.cl d := by
  obtain ⟨n, hn⟩ := doDriveUpdate_eq c t s
  rw [hn, State.endUpdate, cl_setCl_ne _ _ h.symm, drivenLanes_cl]

theorem State.Driven.of_passTo {s : State} {t x : Nat} {l l' : Lane} (h : (s.passTo t).Driven x l l') : s.Driven x l l' := by
  unfold State.passTo at h
  split at h
  · exact ⟨h.st, h.int, h.drv, h.buf, h.acc, h.mute, h.out⟩
  · exact h

theorem doDriveUpdate_driven (t : Nat) (s : State) (x : Nat) : s.Driven x (s.lane x) ((doDriveUpdate (x / 256) t s).lane x) := by
  have hturn := (forLanes_driveLane_driven (s.passTo t) x).of_passTo
  rwa [passTo_lane, ← doDriveUpdate_lane] at hturn

/-- Settles O22: each lane of the cluster has its turn, in which what it reads is as it was. -/
theorem driveUpdate : Obligations.DriveUpdate := by
  unfold Obligations.DriveUpdate
  refine fun s c t => ⟨doDriveUpdate c t s, rfl, fun x hx => ?others, fun x hx => ?own, ?upd, ?strobes, ?slot,
    fun d hd => doDriveUpdate_cl_ne hd t s⟩
  case others => rw [doDriveUpdate_lane, (forLanes_beside (fun _ _ => driveLane_turn) hx _).lane, passTo_lane]
  case own =>
    obtain ⟨hst, hint, hdrv, hbuf, hacc, hmute, hout⟩ := hx ▸ doDriveUpdate_driven t s x
    unfold State.muted at hmute hout
    rw [hx] at hmute hout
    refine ⟨hst, hint, hdrv, hbuf, hacc, hmute, fun hsafe hisol hen hpow => hout ?_⟩
    simp [hsafe, hisol, hen, hpow]
  all_goals rw [doDriveUpdate_cl_same]

end Sys2Proof.Machine
end

section
/-! PROOF. Tone zero crossings, set-point load strobes and drive limits (O23). -/
namespace Sys2Proof.Machine

/-- A cluster register that is no set-point takes its access in an open module. -/
theorem hostWr_cluster {s : State} (ho : s.isOpen = true) {r : Reg} (hr : 0x1000000 ≤ r.row.base ∧ r ≠ .SETPT) (ix : List Nat)
    (f : State → State) : s.hostWr r ix f = f s := hostWr_of_not_shut (not_shut ho (.inr (by omega)) hr.2)

/-! ### Zero crossings (R126, R127) -/

/-- The lane at a zero crossing, before its output: switch, amplitudes and inversion take effect. -/
def Lane.crossed (l : Lane) (e : Nat) : Lane :=
  { l with
    on := l.toneWant e, amp := (l.ampWant e).1, ash := (l.ampWant e).2
    acc := if l.invP then (l.acc + 0x800000) % 16777216 else l.acc
    invP := false, zc := false }

theorem doToneZeroCrossing_eq {s : State} {e : Nat} (h : (s.lane e).zc = true) :
    doToneZeroCrossing e s = s.putLaneBuf e (s.driveOut e ((s.lane e).crossed e)) (s.lane e).buf := if_pos h

/-! ### Load strobes (R129) -/

/-- The groups that a write of LSG_LOAD gives a strobe. -/
def State.hostStrobes (s : State) (c : Nat) (v : Word) : Nat :=
  (if bit 1 v && s.lsgTakes c 1 true then 2 ^ 1 else 0) ||| (if bit 2 v && s.lsgTakes c 2 true then 2 ^ 2 else 0)
    ||| (if bit 3 v && s.lsgTakes c 3 true then 2 ^ 3 else 0)

theorem doLsgLoad_eq (c : Nat) (v : Word) (s : State) :
    doLsgLoad c v s = s.setCl c { s.cl c with ldP := (s.cl c).ldP ||| s.hostStrobes c v } := rfl

theorem testBit_ite_two_pow (b : Bool) (k g : Nat) : (if b then 2 ^ k else 0).testBit g = (b && decide (k = g)) := by
  cases b
  · exact Nat.zero_testBit g
  · exact Nat.testBit_two_pow

theorem testBit_hostStrobes (s : State) (c : Nat) (v : Word) {g : Nat} (h1 : 1 ≤ g) (h3 : g ≤ 3) :
    (s.hostStrobes c v).testBit g = (bit g v && s.lsgTakes c g true) := by
  simp only [State.hostStrobes, Nat.testBit_or, testBit_ite_two_pow]
  obtain rfl | rfl | rfl : g = 1 ∨ g = 2 ∨ g = 3 := by omega
  all_goals simp

theorem exec_lsgHostLoad {s : State} (ho : s.isOpen = true) (c : Fin 144) (v : Word) :
    exec (.lsgHostLoad c v) s = .next (doLsgLoad c v s) :=
  congrArg Host.Outcome.next (hostWr_cluster ho (by decide) ..)

/-! ### Drive limits (R131) -/

theorem exec_drvLimWrite {s : State} (ho : s.isOpen = true) (c : Fin 144) (v : Word) :
    exec (.drvLimWrite c v) s = .next (doDrvLim c v s) :=
  congrArg Host.Outcome.next (hostWr_cluster ho (by decide) ..)

theorem doDrvLim_stored {c : Nat} {v : Word} (h : spCode (256 * c) (fget 0 16 v) ≤ spCode (256 * c) (fget 16 16 v)) (s : State) :
    doDrvLim c v s = s.setReg .DRV_LIM [c] v := if_neg (Int.not_lt.2 h)

theorem doDrvLim_refused {c : Nat} {v : Word} (h : spCode (256 * c) (fget 16 16 v) < spCode (256 * c) (fget 0 16 v)) (s : State) :
    doDrvLim c v s = s.setF DRV_STATUS.LIM_REJ [c] 1 := (if_pos h).trans (raise_of_no_source s [c] rfl)

/-! ### The statement -/

/-- Settles O23: a zero crossing is one store of the lane, a load one of the strobes, and limits are stored or refused. -/
theorem tonesAndLimits : Obligations.TonesAndLimits := by
  unfold Obligations.TonesAndLimits
  refine fun s e c v => ⟨fun h => ?crossing, fun ho => ?strobes, fun ho h => ?stored, fun ho h => ?refused⟩
  case crossing =>
    refine .of_eq rfl (doToneZeroCrossing_eq h) ?_
    rw [lane_putLaneBuf_same]
    exact ⟨rfl, rfl, rfl, rfl, rfl, rfl, otherLanes_putLaneBuf s e _ _⟩
  case strobes =>
    refine .of_eq (exec_lsgHostLoad ho c v) (doLsgLoad_eq c v s) ⟨fun g h1 h3 => ?_, fun d hd => cl_setCl_ne s _ hd.symm,
      (setCl_keeps ..).changesOnly rfl⟩
    rw [cl_setCl_same, Nat.testBit_or, testBit_hostStrobes s c v h1 h3]
  case stored =>
    exact .of_eq (exec_drvLimWrite ho c v) (doDrvLim_stored h s) ⟨reg_setReg_same .., .setReg (.head _), (setReg_keeps ..).changesOnly rfl⟩
  case refused =>
    exact .of_eq (exec_drvLimWrite ho c v) (doDrvLim_refused h s) ⟨f_setF_same _ _ _ _ (by decide), .setF (.head _),
      (setF_keeps ..).changesOnly rfl⟩

end Sys2Proof.Machine
end

section
/-! PROOF. The accumulators of a cluster: their control and their triggers. -/
namespace Sys2Proof.Machine

/-! ### The engine of a cluster -/

/-- Stores the engine of a cluster. -/
def State.setEng (s : State) (c : Nat) (g : AccEng) : State := s.setCl c { s.cl c with eng := g }

theorem setEng_cl_same (s : State) (c : Nat) (g : AccEng) : (s.setEng c g).cl c = { s.cl c with eng := g } := cl_setCl_same ..

theorem setEng_cl_ne (s : State) {c d : Nat} (h : d ≠ c) (g : AccEng) : (s.setEng c g).cl d = s.cl d := cl_setCl_ne s _ h.symm

theorem setEng_keeps (s : State) (c : Nat) (g : AccEng) : Keeps 0x20 s (s.setEng c g) := setCl_keeps ..

/-! ### Writes of ACC_CTRL (R113, R115, R131) -/

/-- The engine after a write with ACC_EN = 1: enabled, or to be enabled when it has stopped (R115). -/
def AccEng.enable (g : AccEng) : AccEng := if g.stopping then { g with enPend := true } else { g with en := true }

/-- The engine after a write with ACC_EN = 0: it stops, or the enable that waits is cancelled (R115). -/
def AccEng.stop (g : AccEng) : AccEng :=
  if g.stopping then { g with enPend := false } else if g.en then { g with stopping := true } else g

theorem accCtrl_cl (s : State) (c : Nat) (v : Word) (d : Nat) : (s.accCtrl c v).cl d = s.cl d := (accCtrl_keeps ..).cl rfl d

theorem accCtrl_K (s : State) (c : Nat) (v : Word) : (s.accCtrl c v).f ACC_CTRL.K [c] = min 20 (fget 0 5 v) := by
  have hlen : ACC_CTRL.K.len = 5 := rfl
  rw [State.accCtrl, f_setF_same _ _ _ _ (by decide), hlen]
  omega

theorem otherRegs_accCtrl (s : State) (c : Nat) (v : Word) : otherRegs [Reg.ACC_CTRL.at [c]] s (s.accCtrl c v) :=
  (otherRegs_wrCodes s .ACC_CTRL [c] v).trans (.setF (.head _))

theorem doAccCtrl_enable {v : Word} (h : bit 16 v = true) (c : Nat) (s : State) :
    doAccCtrl c v s = (s.accCtrl c v).setEng c (s.cl c).eng.enable := by
  unfold doAccCtrl AccEng.enable
  rw [if_pos h, ← accCtrl_cl s c v c]
  split <;> rfl

theorem doAccCtrl_stop_eng {v : Word} (h : bit 16 v = false) (c : Nat) (s : State) :
    ((doAccCtrl c v s).cl c).eng = (s.cl c).eng.stop := by
  unfold doAccCtrl AccEng.stop
  rw [if_neg (by simp [h]), ← accCtrl_cl s c v c]
  split
  · rw [cl_setCl_same]
  · split
    · rw [cl_setCl_same]
    · rfl

theorem otherRegs_doAccCtrl (c : Nat) (v : Word) (s : State) : otherRegs [Reg.ACC_CTRL.at [c]] s (doAccCtrl c v s) := by
  refine (otherRegs_accCtrl s c v).trans (.of_regs ?_)
  unfold doAccCtrl
  extract_lets s1 k g
  split_ifs <;> rfl

theorem fget_K_of_enable (v : Word) : fget 0 5 (v ||| 0x10000) = fget 0 5 v := by
  simp [fget, BitVec.toNat_or, Nat.or_mod_two_pow (n := 5)]

theorem exec_accEnable {s : State} (ho : s.isOpen = true) (c : Fin 144) (v : Word) :
    exec (.accEnable c v) s = .next (doAccCtrl c (v ||| 0x10000) s) :=
  congrArg Host.Outcome.next (hostWr_cluster ho (by decide) ..)

theorem exec_accStop {s : State} (ho : s.isOpen = true) (c : Fin 144) (v : Word) :
    exec (.accStop c v) s = .next (doAccCtrl c (v &&& 0xFFFEFFFF) s) :=
  congrArg Host.Outcome.next (hostWr_cluster ho (by decide) ..)

/-! ### The end of a stop (R115) -/

/-- The cluster whose accumulators have stopped. -/
def Cluster.accStopped (k : Cluster) : Cluster :=
  { k with
    accs := []
    eng := { k.eng with
      en := k.eng.enPend, enPend := false, stopping := false, running := false, latched := false, startP := false, fi := 0 } }

theorem doAccStopDone_eq {s : State} {c : Nat} (h : (s.cl c).eng.stopping = true) :
    doAccStopDone c s = s.setCl c (s.cl c).accStopped := if_pos h

/-! ### Triggers (R114) -/

/-- The engine after a trigger that is taken: latched while a scan runs or is about to, else the start of one. -/
def AccEng.take (g : AccEng) : AccEng :=
  if g.latched then g else if g.running || g.startP then { g with latched := true } else { g with startP := true }

/-- What a trigger that is taken does to cluster c: the engine moves on, and one that finds a trigger latched is an overrun. -/
structure TriggerTaken (c : Nat) (s u : State) : Prop where
  own : u.cl c = { s.cl c with eng := (s.cl c).eng.take }
  others : ∀ d, d ≠ c → u.cl d = s.cl d
  ovr : u.reg .ACC_OVR [c] = if (s.cl c).eng.latched then satInc (s.reg .ACC_OVR [c]) 1 else s.reg .ACC_OVR [c]
  regs : otherRegs [Reg.ACC_OVR.at [c]] s u

theorem accTake_taken (s : State) (c : Nat) : TriggerTaken c s (s.accTake c) := by
  unfold State.accTake
  extract_lets k
  by_cases hlatched : k.eng.latched = true
  case pos =>
    have htake : (s.cl c).eng.take = (s.cl c).eng := if_pos hlatched
    rw [if_pos hlatched]
    exact ⟨by rw [htake]; rfl, fun _ _ => rfl, by rw [if_pos hlatched]; exact reg_setReg_same .., .bump (.head _)⟩
  have hovr : (if (s.cl c).eng.latched then satInc (s.reg .ACC_OVR [c]) 1 else s.reg .ACC_OVR [c]) = s.reg .ACC_OVR [c] :=
    if_neg hlatched
  have htake : (if k.eng.running || k.eng.startP then s.setEng c { k.eng with latched := true }
      else s.setEng c { k.eng with startP := true }) = s.setEng c k.eng.take := by
    rw [AccEng.take, if_neg hlatched]
    split <;> rfl
  rw [if_neg hlatched]
  exact htake ▸ ⟨setEng_cl_same .., fun d hd => setEng_cl_ne s hd _, hovr.symm, .of_regs rfl⟩

section
variable {s : State} {c : Nat} (hen : (s.cl c).eng.en = true) (hsrc : (s.accSrc c).testBit 0 = true)
include hen hsrc

/-- The engine is enabled for host triggers, as `State.accTrigger` asks. -/
theorem accTrigger_enabled : ¬ (!(s.cl c).eng.en || !(s.accSrc c).testBit (b2n false)) = true := by simp [hen, hsrc, b2n]

/-- A host trigger that stands alone at its network time is taken. -/
theorem accTrigger_alone (h : (s.cl c).eng.strobeAt ≠ some s.clr.now) : s.accTrigger c false
    = (s.setEng c { (s.cl c).eng with hostAt := some s.clr.now, strobeAt := none }).accTake c :=
  (if_neg (accTrigger_enabled hen hsrc)).trans (if_neg h)

/-- One at the network time of a slot strobe that was taken is the same trigger. -/
theorem accTrigger_same (h : (s.cl c).eng.strobeAt = some s.clr.now) : s.accTrigger c false
    = s.setEng c { (s.cl c).eng with hostAt := none, strobeAt := none } :=
  (if_neg (accTrigger_enabled hen hsrc)).trans (if_pos h)

end

theorem exec_accTrigger {s : State} (ho : s.isOpen = true) (c : Fin 144) :
    exec (.accTrigger c) s = .next (s.accTrigger c false) :=
  congrArg Host.Outcome.next (hostWr_cluster ho (by decide) ..)

end Sys2Proof.Machine
end

section
/-! PROOF. The end of an accumulator window, and the statement on the accumulators (O21). -/
namespace Sys2Proof.Machine

/-! ### Where an accumulator shows (R131) -/

/-- A register with one word per tap, by its offset in the entry. -/
theorem at_accumulator {r : Reg} {b : Nat} (hd : r.row.dims = [(0x10000, 144), (0x10, 512)]) (hb : r.row.base = 0x1004000 + b)
    (c h : Nat) : r.at [c, h] = 0x1004000 + b + 0x10000 * c + 0x10 * h := by
  simp only [Reg.at, hd, hb, dimOff]
  omega

theorem at_ACC_SUM (c h : Nat) : Reg.ACC_SUM.at [c, h] = 0x1004000 + 0 + 0x10000 * c + 0x10 * h := at_accumulator rfl rfl c h
theorem at_ACC_CNT (c h : Nat) : Reg.ACC_CNT.at [c, h] = 0x1004000 + 4 + 0x10000 * c + 0x10 * h := at_accumulator rfl rfl c h
theorem at_ACC_MM (c h : Nat) : Reg.ACC_MM.at [c, h] = 0x1004000 + 8 + 0x10000 * c + 0x10 * h := at_accumulator rfl rfl c h
theorem at_ACC_THR (c h : Nat) : Reg.ACC_THR.at [c, h] = 0x1004000 + 12 + 0x10000 * c + 0x10 * h := at_accumulator rfl rfl c h

/-! ### One accumulator publishes (R113) -/

/-- The value of the accumulator of tap h. -/
def State.acc (s : State) (c h : Nat) : Acc := sget (Acc.start false) (s.cl c).accs h

/-- The registers of the accumulator of tap h show its value. -/
def State.accShow (s : State) (c h : Nat) : State :=
  let a := s.acc c h
  ((s.setReg .ACC_SUM [c, h] (wd a.sum)).setReg .ACC_CNT [c, h]
    (wd (a.cnt + b2n a.stale * 2 ^ 16 + b2n a.hi * 2 ^ 17 + b2n a.short * 2 ^ 18))).setReg .ACC_MM [c, h] (wd (a.mn + a.mx * 2 ^ 16))

/-- SUM and COUNT of tap h show the value a (R112). -/
structure Shows (c h : Nat) (a : Acc) (u : State) : Prop where
  sum : u.reg .ACC_SUM [c, h] = wd a.sum
  cnt : fget 0 16 (u.reg .ACC_CNT [c, h]) = a.cnt % 65536

theorem fget_count (a : Acc) :
    fget 0 16 (wd (a.cnt + b2n a.stale * 2 ^ 16 + b2n a.hi * 2 ^ 17 + b2n a.short * 2 ^ 18)) = a.cnt % 65536 := by
  simp only [fget, BitVec.toNat_ofNat, Nat.shiftRight_zero]
  omega

theorem accShow_shows (s : State) (c h : Nat) : Shows c h (s.acc c h) (s.accShow c h) := by
  have hS := at_ACC_SUM c h
  have hC := at_ACC_CNT c h
  have hM := at_ACC_MM c h
  refine ⟨?_, ?_⟩ <;> rw [State.accShow]
  · rw [reg_setReg_ne _ _ (by omega), reg_setReg_ne _ _ (by omega), reg_setReg_same]
  · rw [reg_setReg_ne _ _ (by omega), reg_setReg_same, fget_count]

/-- The threshold of a tap, and a record of its crossing, write no other register than these (R116). -/
def crossRegs (c h : Nat) : List Nat := Reg.ACC_THR.at [c, h] :: suppRegs

/-- Publishing is showing the value and comparing it with the threshold. -/
theorem accPublish_show (s : State) (c h : Nat) : otherRegs (crossRegs c h) (s.accShow c h) (s.accPublish c h) := by
  unfold State.accPublish
  extract_lets a s1 s2 s3 ab
  have hs3 : s.accShow c h = s3 := rfl
  rw [hs3]
  split
  · split
    · exact .refl
    · exact .trans (u := s3.setF ACC_THR.ABOVE [c, h] (b2n ab)) (.setF (.head _))
        (.offer fun k hk => .tail _ (mem_suppRegs k hk))
  · exact .refl

/-- The registers that the accumulator of tap h writes when it publishes. -/
def publishRegs (c h : Nat) : List Nat := Reg.ACC_SUM.at [c, h] :: Reg.ACC_CNT.at [c, h] :: Reg.ACC_MM.at [c, h] :: crossRegs c h

theorem otherRegs_accPublish (s : State) (c h : Nat) : otherRegs (publishRegs c h) s (s.accPublish c h) := by
  have hshow : otherRegs (publishRegs c h) s (s.accShow c h) :=
    .trans (.trans (.setReg (.head _)) (.setReg (.tail _ (.head _)))) (.setReg (.tail _ (.tail _ (.head _))))
  exact hshow.trans ((accPublish_show s c h).mono fun _ ha => .tail _ (.tail _ (.tail _ ha)))

theorem notMem_suppRegs {a : Nat} (h : 0x1000000 ≤ a) : a ∉ suppRegs := fun hm => by
  have := (suppRegs_bounds _ hm).2
  omega

/-- What tap h shows does not lie among the registers of thresholds and records. -/
theorem notMem_crossRegs (c h : Nat) : Reg.ACC_SUM.at [c, h] ∉ crossRegs c h ∧ Reg.ACC_CNT.at [c, h] ∉ crossRegs c h := by
  have hS := at_ACC_SUM c h
  have hC := at_ACC_CNT c h
  have hT := at_ACC_THR c h
  simp only [crossRegs, List.mem_cons, not_or]
  exact ⟨⟨by omega, notMem_suppRegs (by omega)⟩, ⟨by omega, notMem_suppRegs (by omega)⟩⟩

theorem notMem_publishRegs (c : Nat) {h j : Nat} (hne : j ≠ h) :
    Reg.ACC_SUM.at [c, h] ∉ publishRegs c j ∧ Reg.ACC_CNT.at [c, h] ∉ publishRegs c j := by
  have hS := at_ACC_SUM c h
  have hC := at_ACC_CNT c h
  have hSj := at_ACC_SUM c j
  have hCj := at_ACC_CNT c j
  have hMj := at_ACC_MM c j
  have hTj := at_ACC_THR c j
  simp only [publishRegs, crossRegs, List.mem_cons, not_or]
  exact ⟨⟨by omega, by omega, by omega, by omega, notMem_suppRegs (by omega)⟩,
    ⟨by omega, by omega, by omega, by omega, notMem_suppRegs (by omega)⟩⟩

/-- What a tap shows stays while other registers are written. -/
theorem Shows.of_otherRegs {c h : Nat} {a : Acc} {l : List Nat} {u v : State} (hu : Shows c h a u) (hr : otherRegs l u v)
    (hs : v.sys.stage = u.sys.stage) (hl : Reg.ACC_SUM.at [c, h] ∉ l ∧ Reg.ACC_CNT.at [c, h] ∉ l) : Shows c h a v :=
  ⟨by rw [reg_of_otherRegs hr hs hl.1, hu.sum], by rw [reg_of_otherRegs hr hs hl.2, hu.cnt]⟩

theorem accPublish_shows (s : State) (c h : Nat) : Shows c h (s.acc c h) (s.accPublish c h) :=
  (accShow_shows s c h).of_otherRegs (accPublish_show s c h) ((accPublish_keeps ..).stage rfl) (notMem_crossRegs c h)

/-! ### All accumulators publish -/

/-- From s to u taps of cluster c other than h published. -/
structure BesideTap (c h : Nat) (s u : State) : Prop where
  keeps : Keeps 0x4004 s u
  shows : ∀ a, Shows c h a s → Shows c h a u

theorem forTaps_shows (s : State) (c : Nat) {h : Nat} (hh : h < 512) :
    Shows c h (s.acc c h) ((List.range 512).foldl (State.accPublish c) s) := by
  obtain ⟨u, hbefore, hafter⟩ := foldl_turn (R := BesideTap c h) (fun _ => ⟨.refl, fun _ => id⟩)
    (fun h1 h2 => ⟨h1.keeps.trans h2.keeps, fun a ha => h2.shows a (h1.shows a ha)⟩) (f := State.accPublish c) List.nodup_range
    (List.mem_range.2 hh) (fun u j _ hne => ⟨accPublish_keeps .., fun a ha => ha.of_otherRegs (otherRegs_accPublish u c j)
      ((accPublish_keeps ..).stage rfl) (notMem_publishRegs c hne)⟩) s
  have hacc : u.acc c h = s.acc c h := by rw [State.acc, hbefore.keeps.cl rfl, State.acc]
  exact hacc ▸ hafter.shows _ (accPublish_shows u c h)

theorem forTaps_keeps (s : State) (c : Nat) : Keeps 0x4004 s ((List.range 512).foldl (State.accPublish c) s) :=
  foldl_rel (R := Keeps 0x4004) (fun _ => .refl) .trans (fun u j _ => accPublish_keeps c u j) s

/-! ### The end of a window (R113, R114) -/

/-- The cluster behind a window: nothing runs, and a latched trigger is the start of the next scan. -/
def Cluster.scanned (k : Cluster) : Cluster :=
  { k with accs := [], eng := { k.eng with running := false, fi := 0, startP := k.eng.latched, latched := false } }

/-- All taps of cluster c have published, and SCANS counts the window. -/
def State.published (s : State) (c : Nat) : State :=
  let u := (List.range 512).foldl (State.accPublish c) s
  u.setF ACC_STATUS.SCANS [c] (u.f ACC_STATUS.SCANS [c] + 1)

theorem published_keeps (s : State) (c : Nat) : Keeps 0x4004 s (s.published c) :=
  (setF_keeps ..).step (forTaps_keeps s c) rfl

theorem published_shows (s : State) (c : Nat) {h : Nat} (hh : h < 512) : Shows c h (s.acc c h) (s.published c) := by
  have hS := at_ACC_SUM c h
  have hC := at_ACC_CNT c h
  have hN : Reg.ACC_STATUS.at [c] = 0x1000118 + 0x10000 * c := rfl
  exact (forTaps_shows s c hh).of_otherRegs (l := [Reg.ACC_STATUS.at [c]]) (.setF (.head _)) ((setF_keeps ..).stage rfl)
    ⟨by rw [List.mem_singleton]; omega, by rw [List.mem_singleton]; omega⟩

/-- The window closes on all that was published. -/
def State.closeWindow (s : State) (c : Nat) : State := s.setCl c (s.cl c).scanned

theorem doAccWindowEnd_eq {s : State} {c : Nat} (t : Nat) (hrun : (s.cl c).eng.running = true) (hstop : (s.cl c).eng.stopping = false)
    (hfi : (s.cl c).eng.fi = 2 ^ (s.cl c).eng.k) : doAccWindowEnd c t s = ((s.passTo t).published c).closeWindow c := by
  have hdue : (((s.passTo t).cl c).eng.running && !((s.passTo t).cl c).eng.stopping
      && decide (((s.passTo t).cl c).eng.fi = 2 ^ ((s.passTo t).cl c).eng.k)) = true := by
    rw [passTo_cl, hrun, hstop, hfi]
    simp
  simp only [doAccWindowEnd, if_pos hdue, State.closeWindow, State.published, Cluster.scanned]

/-- The end of a window, as O21 has it. -/
structure WindowEnded (c : Nat) (s u : State) : Prop where
  shows : ∀ h, h < 512 → Shows c h (s.acc c h) u
  own : u.cl c = (s.cl c).scanned
  others : ∀ d, d ≠ c → u.cl d = s.cl d
  lanes : u.lanes = s.lanes

theorem windowEnded_published (s : State) (c t : Nat) : WindowEnded c s (((s.passTo t).published c).closeWindow c) := by
  have hkeeps := published_keeps (s.passTo t) c
  have hacc : ∀ h, (s.passTo t).acc c h = s.acc c h := fun h => passTo_congr s t (·.acc c h) fun _ => rfl
  unfold State.closeWindow
  refine ⟨fun h hh => ?_, ?_, fun d hd => ?_, ?_⟩
  · exact hacc h ▸ (published_shows (s.passTo t) c hh).of_otherRegs (l := []) (.of_regs (State.setCl_regs ..))
      ((setCl_keeps ..).stage rfl) ⟨nofun, nofun⟩
  · rw [cl_setCl_same, hkeeps.cl rfl, passTo_cl]
  · rw [cl_setCl_ne _ _ hd.symm, hkeeps.cl rfl, passTo_cl]
  · exact ((setCl_keeps ..).frame .lanes rfl).trans ((hkeeps.frame .lanes rfl).trans (passTo_lanes s t))

/-! ### The statement -/

/-- Settles O21: writes and triggers are one store of the engine each, and at a window end each tap has its turn. -/
theorem accumulators : Obligations.Accumulators := by
  unfold Obligations.Accumulators
  refine ⟨fun s c v => ⟨fun ho => ?enable, fun ho => ?stop, fun h => ?stopped⟩, fun s c t =>
    ⟨fun ho hen hsrc => ⟨fun h g hg => ?alone, fun h => ?same⟩, fun hrun hstop hfi => ?window⟩⟩
  case enable =>
    have hbit : bit 16 (v ||| 0x10000) = true := by simp [bit_eq_getLsbD]
    refine .of_eq (exec_accEnable ho c v) (doAccCtrl_enable hbit c s) ⟨?_, ?_, fun d hd => ?_, ?_, ?_⟩
    · rw [setEng_cl_same]
      rfl
    · exact (accCtrl_K s c (v ||| 0x10000)).trans (by rw [fget_K_of_enable])
    · rw [setEng_cl_ne _ hd, accCtrl_cl]
    · exact (otherRegs_accCtrl s c _).trans (.of_regs rfl)
    · exact ((accCtrl_keeps ..).trans (setEng_keeps ..)).changesOnly rfl
  case stop =>
    have hbit : bit 16 (v &&& 0xFFFEFFFF) = false := by simp [bit_eq_getLsbD]
    exact ⟨_, exec_accStop ho c v, doAccCtrl_stop_eng hbit c s, otherRegs_doAccCtrl c _ s, (doAccCtrl_keeps ..).changesOnly rfl⟩
  case stopped =>
    refine .of_eq rfl (doAccStopDone_eq h) ?_
    rw [cl_setCl_same]
    exact ⟨rfl, rfl, rfl, rfl, rfl, fun d hd => cl_setCl_ne s _ hd.symm, (setCl_keeps ..).changesOnly rfl⟩
  case alone =>
    obtain ⟨hown, hothers, hovr, hregs⟩ := accTake_taken (s.setEng c g) c
    rw [setEng_cl_same] at hown hovr
    exact .of_eq (exec_accTrigger ho c) (hg ▸ accTrigger_alone hen hsrc h) ⟨hown, hovr,
      fun d hd => (hothers d hd).trans (setEng_cl_ne s hd g), .trans (.of_regs rfl) hregs,
      ((setEng_keeps ..).trans (accTake_keeps ..)).changesOnly rfl⟩
  case same =>
    exact .of_eq (exec_accTrigger ho c) (accTrigger_same hen hsrc h) ⟨setEng_cl_same .., (setEng_keeps ..).changesOnly rfl⟩
  case window =>
    obtain ⟨hshows, hown, hothers, hlanes⟩ := windowEnded_published s c t
    refine .of_eq rfl (doAccWindowEnd_eq t hrun hstop hfi) ⟨fun h hh => ⟨(hshows h hh).sum, (hshows h hh).cnt⟩, ?_, ?_, ?_, hothers, hlanes⟩
    all_goals rw [hown, Cluster.scanned]

end Sys2Proof.Machine
end

section
/-! PROOF. What the turn of a lane in a conversion frame leaves for the conversions of the frame, and for the other lanes. -/
namespace Sys2Proof.Machine

/-! ### What conversions read (R101, R103, R106) -/

/-- An offset in a cluster below its transition events, but for its count of folds: nothing that a lane stores in a frame. -/
def convOffset (a : Nat) : Prop := 0x1000000 ≤ a ∧ a < 0x2000000 ∧ a % 0x10000 < 0x320 ∧ a % 0x10000 ≠ 0x3c

/-- From s to u nothing changed that a conversion or the learning time reads. -/
structure ConvSame (s u : State) : Prop where
  reg : ∀ r ix, convOffset (Reg.at r ix) → u.reg r ix = s.reg r ix
  adc : ∀ d, (u.cl d).adc = (s.cl d).adc
  tick : ∀ d, (u.cl d).tick = (s.cl d).tick
  consts : u.cal.consts = s.cal.consts
  busy : u.cal.busyAdc = s.cal.busyAdc

theorem ConvSame.refl {s : State} : ConvSame s s := ⟨fun _ _ _ => rfl, fun _ => rfl, fun _ => rfl, rfl, rfl⟩

theorem ConvSame.trans {s u v : State} (h : ConvSame s u) (k : ConvSame u v) : ConvSame s v :=
  ⟨fun r ix hr => (k.reg r ix hr).trans (h.reg r ix hr), fun d => (k.adc d).trans (h.adc d), fun d => (k.tick d).trans (h.tick d),
    k.consts.trans h.consts, k.busy.trans h.busy⟩

/-- A step that keeps clusters and calibration, and writes no register that a conversion reads. -/
theorem ConvSame.of_keeps {l : List Nat} {m : Nat} {s u : State} (h : otherRegs l s u) (hl : ∀ a ∈ l, ¬ convOffset a)
    (hk : Keeps m s u) (h1 : m.testBit 1 = false) (h5 : m.testBit 5 = false) (h19 : m.testBit 19 = false) : ConvSame s u := by
  have hcal : u.cal = s.cal := hk.frame .cal h19
  exact ⟨fun r ix hr => reg_of_otherRegs h (hk.stage h1) fun hm => hl _ hm hr, fun d => by rw [hk.cl h5], fun d => by rw [hk.cl h5],
    by rw [hcal], by rw [hcal]⟩

theorem ConvSame.f {s u : State} (h : ConvSame s u) {y : Fld} {ix : List Nat} (hy : convOffset (y.reg.at ix)) :
    u.f y ix = s.f y ix := by
  simp only [State.f, h.reg _ _ hy]

theorem convOffset_cluster {r : Reg} (hr : r.row.dims = [(0x10000, 144)] ∧ 0x1000000 ≤ r.row.base ∧ r.row.base < 0x1000320
    ∧ r.row.base ≠ 0x100003c) {c : Nat} (hc : c < 144) : convOffset (r.at [c]) := by
  have hat : r.at [c] = r.row.base + 0x10000 * c := by simp [Reg.at, hr.1, dimOff]
  rw [hat, convOffset]
  omega

theorem convOffset_SCAN_EN {c i : Nat} (hc : c < 144) (hi : i < 16) : convOffset (Reg.SCAN_EN.at [c, i]) := by
  simp only [convOffset, Reg.at, Reg.row, dimOff]
  omega

section
variable {s u : State} (h : ConvSame s u) {c : Nat} (hc : c < 144)
include h hc

theorem ConvSame.refSel (a : Nat) : u.refSel c a = s.refSel c a := by
  simp only [State.refSel, h.reg .CNV_REF [c] (convOffset_cluster (by decide) hc)]

theorem ConvSame.rmode : u.f CNV_RANGE.RMODE [c] = s.f CNV_RANGE.RMODE [c] :=
  h.f (convOffset_cluster (by decide) hc)

theorem ConvSame.run : u.fb SLV_CTRL.RUN [c] = s.fb SLV_CTRL.RUN [c] := by
  simp only [State.fb, h.f (y := SLV_CTRL.RUN) (convOffset_cluster (by decide) hc)]

theorem ConvSame.rangeOf (hi : Bool) : u.rangeOf c hi = s.rangeOf c hi := by
  unfold State.rangeOf
  rw [h.rmode hc]

/-- A conversion of one of the 512 taps. -/
theorem ConvSame.convert {n : Nat} (hn : n < 512) (hi : Bool) (smp : List TapSample) : u.convert c n hi smp = s.convert c n hi smp := by
  have hscan : u.scanEn c (n / 64) (n % 64) = s.scanEn c (n / 64) (n % 64) := by
    simp only [State.scanEn, h.reg .SCAN_EN _ (convOffset_SCAN_EN hc (by omega : 2 * (n / 64) + n % 64 / 32 < 16))]
  have hcode : ∀ raw, u.correct c n hi (s.refSel c (n / 64)) raw = s.correct c n hi (s.refSel c (n / 64)) raw := fun raw => by
    simp only [State.correct, State.convConst, h.consts]
  have hstale : u.adcStale c (n / 64) = s.adcStale c (n / 64) := by
    simp only [State.adcStale, Cluster.settled, h.adc, h.refSel hc, h.rmode hc, h.busy]
  simp only [State.convert, hscan, h.refSel hc, hcode, hstale]

end

/-! ### Turns in a frame -/

/-- From s to u lane e had a turn, or a part of one: no other lane changed and no other cluster, and nothing that conversions
read. -/
structure FrameTurn (e : Nat) (s u : State) : Prop where
  same : ConvSame s u
  lanes : otherLanes e s u
  clusters : ∀ d, d ≠ e / 256 → u.cl d = s.cl d

/-- Both taps of a lane. -/
def Lane.taps (l : Lane) : Tap × Tap := (l.tap0, l.tap1)

/-- A part of the turn of lane e that does not touch its taps. -/
structure FrameStep (e : Nat) (s u : State) : Prop extends FrameTurn e s u where
  taps : (u.lane e).taps = (s.lane e).taps

section
variable {e : Nat} {s u v : State}

theorem FrameTurn.trans (h : FrameTurn e s u) (k : FrameTurn e u v) : FrameTurn e s v :=
  ⟨h.same.trans k.same, otherLanes_trans h.lanes k.lanes, fun d hd => (k.clusters d hd).trans (h.clusters d hd)⟩

theorem FrameStep.refl : FrameStep e s s := ⟨⟨.refl, fun _ _ => rfl, fun _ _ => rfl⟩, rfl⟩

theorem FrameStep.trans (h : FrameStep e s u) (k : FrameStep e u v) : FrameStep e s v :=
  ⟨h.toFrameTurn.trans k.toFrameTurn, k.taps.trans h.taps⟩

theorem FrameStep.ite {p : Prop} [Decidable p] (h : FrameStep e s u) (k : FrameStep e s v) : FrameStep e s (if p then u else v) := by
  split <;> assumption

theorem FrameTurn.setLane (l : Lane) : FrameTurn e s (s.setLane e l) :=
  ⟨⟨fun _ _ _ => rfl, fun _ => rfl, fun _ => rfl, rfl, rfl⟩, fun _ h => lane_setLane_ne s l h.symm, fun _ _ => rfl⟩

theorem FrameStep.setLane {l : Lane} (h : l.taps = (s.lane e).taps) : FrameStep e s (s.setLane e l) :=
  ⟨.setLane l, by rw [lane_setLane_same, h]⟩

/-- A step that keeps all lanes and clusters and the calibration, and writes no register that a conversion reads. -/
theorem FrameStep.of_keeps {l : List Nat} {m : Nat} (h : otherRegs l s u) (hl : ∀ a ∈ l, ¬ convOffset a) (hk : Keeps m s u)
    (h1 : m.testBit 1 = false) (h4 : m.testBit 4 = false) (h5 : m.testBit 5 = false) (h19 : m.testBit 19 = false) : FrameStep e s u :=
  ⟨⟨.of_keeps h hl hk h1 h5 h19, fun x _ => hk.lane h4 x, fun d _ => hk.cl h5 d⟩, by rw [hk.lane h4]⟩

theorem not_convOffset_turnRegs : ∀ a ∈ turnRegs e, ¬ convOffset a := by
  intro a ha hc
  obtain ⟨hlow, -, hmod, hfold⟩ := hc
  refine notMem_turnRegs ?_ e ha
  simp only [clearOfTurns, Bool.or_eq_true, Bool.and_eq_true, decide_eq_true_eq]
  omega

/-- The turns of the loops over lanes are turns in a frame. -/
theorem LaneTurn.frame (h : LaneTurn e s u) : FrameTurn e s u :=
  ⟨.of_keeps h.regs not_convOffset_turnRegs h.keeps rfl rfl rfl, h.others, fun d _ => h.keeps.cl rfl d⟩

theorem LaneTurn.step (h : LaneTurn e s u) (ht : (u.lane e).taps = (s.lane e).taps) : FrameStep e s u := ⟨h.frame, ht⟩

theorem FrameStep.putLane {l : Lane} (h : l.st = .fault → (s.lane e).st = .fault) (ht : l.taps = (s.lane e).taps) :
    FrameStep e s (s.putLane e l) := LaneTurn.step (.putLane h) (by rw [lane_putLane_same, ht])

end

/-! ### Holds and returns leave the taps -/

section
variable (s : State) (e : Nat)

theorem depart_taps (all : Bool) : (s.depart e all).1.taps = (s.lane e).taps := by
  obtain ⟨i, k, d, hl, -⟩ := depart_lane s e all
  rw [hl]
  rfl

theorem toHold_step (why : Nat) : FrameStep e s (s.toHold e why) :=
  (toHold_turn why).step (by rw [State.toHold, lane_putLane_same]; exact depart_taps s e _)

theorem enter_taps (l : Lane) : (l.enter e).taps = l.taps := by
  unfold Lane.enter
  split_ifs <;> rfl

theorem redemod_taps (l : Lane) : (l.redemod e).taps = l.taps := by
  unfold Lane.redemod
  split <;> rfl

theorem reenter_step : FrameStep e s (s.reenter e) := by
  refine reenter_turn.step ?_
  unfold State.reenter
  extract_lets l0 l
  have hl : l.taps = l0.taps := by
    simp only [l]
    split <;> rfl
  split <;> rw [lane_putLane_same]
  · exact (redemod_taps e _).trans hl
  · exact (enter_taps e l).trans hl

theorem cufHoldLane_step : FrameStep e s (s.cufHoldLane e) := by
  unfold State.cufHoldLane
  extract_lets l
  repeat' split
  · exact .refl
  · exact toHold_step s e _
  · exact .putLane id rfl
  · exact .refl
  · exact .putLane nofun rfl
  · exact .refl

theorem calHold_step : FrameStep e s (s.calHold e) := by
  unfold State.calHold
  extract_lets l s1
  have hset : FrameStep e s s1 := .setLane rfl
  split
  · exact hset.trans (toHold_step s1 e 2)
  · exact hset

theorem calHoldLane_step : FrameStep e s (s.calHoldLane e) := by
  unfold State.calHoldLane
  extract_lets l on off l1 s1
  have hl1 : l1.taps = l.taps := by
    simp only [l1]
    split <;> rfl
  have hset : FrameStep e s s1 := .setLane hl1
  split_ifs
  · exact calHold_step s e
  · exact hset.trans (reenter_step s1 e)
  · exact hset
  · exact .refl

end

end Sys2Proof.Machine
end

section
/-! PROOF. The settle decision of a lane in a conversion frame, as a part of its turn (R140, R142, R467). -/
namespace Sys2Proof.Machine

section
variable {e : Nat} {s : State}

theorem ConvSame.setCl {c : Nat} {k : Cluster} (hadc : k.adc = (s.cl c).adc) (htick : k.tick = (s.cl c).tick) :
    ConvSame s (s.setCl c k) := by
  have hcl : ∀ d, ((s.setCl c k).cl d).adc = (s.cl d).adc ∧ ((s.setCl c k).cl d).tick = (s.cl d).tick := fun d => by
    by_cases hd : c = d
    · subst hd
      rw [cl_setCl_same]
      exact ⟨hadc, htick⟩
    · rw [cl_setCl_ne _ _ hd]
      exact ⟨rfl, rfl⟩
  exact ⟨fun _ _ _ => rfl, fun d => (hcl d).1, fun d => (hcl d).2, rfl, rfl⟩

theorem FrameStep.setCl {k : Cluster} (hadc : k.adc = (s.cl (e / 256)).adc) (htick : k.tick = (s.cl (e / 256)).tick) :
    FrameStep e s (s.setCl (e / 256) k) :=
  ⟨⟨.setCl hadc htick, fun _ _ => rfl, fun _ hd => cl_setCl_ne s k hd.symm⟩, rfl⟩

theorem FrameStep.setCal {k : Cal} (hconsts : k.consts = s.cal.consts) (hbusy : k.busyAdc = s.cal.busyAdc) :
    FrameStep e s { s with cal := k } :=
  ⟨⟨⟨fun _ _ _ => rfl, fun _ => rfl, fun _ => rfl, hconsts, hbusy⟩, fun _ _ => rfl, fun _ _ => rfl⟩, rfl⟩

end

section
variable (s : State) (e : Nat)

theorem otherRegs_writeMeas (tr : Trans) (len : Nat) (res : LaneRes) : otherRegs ([Reg.PRF_LAST.at [e / 256, e % 256],
    Reg.PRF_PWR.at [e / 256, e % 256], Reg.PRF_MOVE.at [e / 256, e % 256]] ++ suppRegs) s (s.writeMeas e tr len res) := by
  unfold State.writeMeas
  extract_lets ix l cuf fin peak ovr s1 s2 s3
  have h3 : otherRegs ([Reg.PRF_LAST.at ix, Reg.PRF_PWR.at ix, Reg.PRF_MOVE.at ix] ++ suppRegs) s s3 :=
    .trans (.trans (.setReg (.head _)) (.setReg (.tail _ (.head _)))) (.setReg (.tail _ (.tail _ (.head _))))
  exact h3.trans (.offer fun k hk => List.mem_append_right _ (mem_suppRegs k hk))

theorem not_convOffset_suppRegs : ∀ a ∈ suppRegs, ¬ convOffset a := fun _ ha hc => notMem_suppRegs hc.1 ha

theorem writeMeas_step (tr : Trans) (len : Nat) (res : LaneRes) : FrameStep e s (s.writeMeas e tr len res) := by
  refine .of_keeps (otherRegs_writeMeas s e tr len res) (fun a ha => ?_) (writeMeas_keeps ..) rfl rfl rfl rfl
  have hL := at_PRF_LAST (e / 256) (e % 256)
  have hP := at_PRF_PWR (e / 256) (e % 256)
  have hM := at_PRF_MOVE (e / 256) (e % 256)
  rcases List.mem_append.1 ha with hprf | hsupp
  · simp only [List.mem_cons, List.not_mem_nil, or_false] at hprf
    unfold convOffset
    omega
  · exact not_convOffset_suppRegs a hsupp

theorem clDecide_step (pat : Nat) (r : LaneRes) (ns : Nat) : FrameStep e s (s.clDecide e pat r ns) := .setCl rfl rfl

theorem failReport_step (r : Report) : FrameStep e s (s.failReport r) := by
  have hregs : otherRegs [Reg.IC_SRC.at [256 + r.e / 256]] s (s.failReport r) :=
    .trans (u := { s with pth := { s.pth with reports := s.pth.reports ++ [r] } }) (.of_regs rfl) (.icEdge (.head _))
  refine .of_keeps hregs (fun a ha => ?_) (failReport_keeps ..) rfl rfl rfl rfl
  rw [List.mem_singleton.1 ha, at_IC_SRC, convOffset]
  omega

theorem settleTo_step : FrameStep e s (s.raise TRN_EVT.SETTLE_TO [e / 256]) := by
  rw [raise_of_no_source s _ rfl]
  refine .of_keeps (.setF (List.mem_singleton.2 rfl)) (fun a ha => ?_) (setF_keeps ..) rfl rfl rfl rfl
  have hat : Reg.TRN_EVT.at [e / 256] = 0x1000330 + 0x10000 * (e / 256) := rfl
  rw [List.mem_singleton.1 ha, show TRN_EVT.SETTLE_TO.reg = .TRN_EVT from rfl, hat, convOffset]
  omega

theorem probeSeen_step : FrameStep e s (s.probeSeen e) := by
  unfold State.probeSeen
  extract_lets k s1
  have hcal : FrameStep e s s1 := .setCal rfl rfl
  exact hcal.trans (foldl_rel (R := FrameStep e) (fun _ => .refl) .trans (fun u r _ => failReport_step u e r) s1)

theorem decideLane_step (tr : Trans) (res : LaneRes) (f tset ns : Nat) : FrameStep e s (s.decideLane e tr res f tset ns) := by
  unfold State.decideLane
  extract_lets tr1 l s1 l1 s2 s3 r
  have h1 : FrameStep e s s1 :=
    .trans (u := s.setLane e { s.lane e with tr := some tr1 }) (.setLane rfl) (clDecide_step _ e tr.pat res ns)
  have h2 : FrameStep e s s2 := by
    simp only [s2]
    split
    · have hrec := writeMeas_step s1 e tr1 (s.lane e).prof.len res
      exact (h1.trans hrec).trans (.setLane hrec.taps.symm)
    · exact h1
  have h3 : FrameStep e s s3 := h2.trans (settleTo_step s2 e)
  split_ifs
  · exact h3.trans (.setCal rfl rfl)
  · exact h3.trans (failReport_step s3 e r)
  · exact h2

/-- Each branch of the check decides the lane, or leaves it open. -/
theorem settleCheck_step (tr : Trans) : FrameStep e s (s.settleCheck e tr) := by
  have hdecide : ∀ res f tset ns, FrameStep e s (s.decideLane e tr res f tset ns) := decideLane_step s e tr
  exact .ite .refl (.ite (.ite (hdecide ..) .refl) (.ite .refl (.ite (hdecide ..) (.ite (hdecide ..) (.ite (hdecide ..) .refl)))))

theorem measure_taps (l : Lane) : (l.measure e).taps = l.taps := by
  unfold Lane.measure
  split <;> rfl

end

end Sys2Proof.Machine
end

section
/-! PROOF. A conversion frame (O18). -/
namespace Sys2Proof.Machine

/-! ### The turn of a lane in a frame (R104, R105) -/

/-- Tap n of lane e, 0 or 1, after it took its conversion. -/
def State.frameTap (smp : List TapSample) (s : State) (e n : Nat) (t : Tap) : Tap :=
  let c := e / 256
  let h := e % 256 * 2
  t.take (s.scanEn c (h / 64) ((h + n) % 64)) (isCuffE e) (decide (s.refSel c (h / 64) = 2)) (clampN 8 12 (s.f SLV_CUF.CUF_TAU [c]))
    (s.convert c (h + n) (s.rangeOf c t.hi) smp)

/-- The lane with the ranges by role of the next frame (R101). -/
def Lane.nextRanges (l : Lane) (e : Nat) : Lane :=
  { l with tap0 := { l.tap0 with hi := nextHi e l.cmd false l.tap0.ovl }, tap1 := { l.tap1 with hi := nextHi e l.cmd true l.tap1.ovl } }

/-- The turn of a lane: both taps take their conversions, steps that leave the taps follow, and the ranges of the next frame. -/
theorem frameLane_eq (smp : List TapSample) (s : State) (e : Nat) : ∃ l u v, FrameStep e s u
    ∧ l.taps = (s.frameTap smp e 0 (s.lane e).tap0, s.frameTap smp e 1 (s.lane e).tap1) ∧ FrameStep e (u.setLane e l) v
    ∧ s.frameLane smp e = v.setLane e ((v.lane e).nextRanges e) := by
  unfold State.frameLane
  extract_lets c h cuf l tau k0 k1 vana t0 t1 p2 d0 dk dOvl l1 l2 l3 litW darkW leak l4 l5 s0 s1 s2 s3 s4 s5 l6
  have hl2 : l2.taps = l1.taps := by
    simp only [l2]
    split <;> rfl
  have hl3 : l3.taps = l2.taps := by
    simp only [l3]
    split_ifs <;> rfl
  have hl4 : l4.taps = l3.taps := by
    simp only [l4]
    split_ifs <;> rfl
  have hl5 : l5.taps = l4.taps := by
    simp only [l5]
    split <;> rfl
  have h0 : FrameStep e s s0 := .ite (probeSeen_step s e) .refl
  have h2 : FrameStep e s1 s2 := by
    simp only [s2]
    split
    · exact settleCheck_step s1 e _
    · exact .refl
  have h3 : FrameStep e s1 s3 := h2.trans (.setLane (measure_taps e _))
  have h5 : FrameStep e s1 s5 := (h3.trans (calHoldLane_step s3 e)).trans (cufHoldLane_step s4 e)
  exact ⟨l5, s0, s5, h0, hl5.trans (hl4.trans (hl3.trans hl2)), h5, rfl⟩

theorem frameLane_turn (smp : List TapSample) (s : State) (e : Nat) : FrameTurn e s (s.frameLane smp e) := by
  obtain ⟨l, u, v, hu, -, hv, heq⟩ := frameLane_eq smp s e
  rw [heq]
  exact (hu.toFrameTurn.trans (.setLane l)).trans (hv.toFrameTurn.trans (.setLane _))

/-- The lane l' is what the conversions of a frame make of lane x, that was l. -/
structure State.Converted (smp : List TapSample) (s : State) (x : Nat) (l l' : Lane) : Prop where
  convs0 : l'.tap0.convs = (s.convert (x / 256) (x % 256 * 2) (s.rangeOf (x / 256) l.tap0.hi) smp :: l.tap0.convs).take 16
  convs1 : l'.tap1.convs = (s.convert (x / 256) (x % 256 * 2 + 1) (s.rangeOf (x / 256) l.tap1.hi) smp :: l.tap1.convs).take 16
  word0 : l'.tap0.word = if s.refSel (x / 256) (x % 256 * 2 / 64) = 2 then l.tap0.word
    else powerWord ((l'.tap0.convs.map Conv.hiCodes).foldl (· + ·) 0)

/-- The power word of a tap that takes a conversion is formed from the last 16 unless VANA is selected (R104, R110). -/
theorem take_word (t : Tap) (en cuf : Bool) {p : Prop} [Decidable p] (tau : Nat) (k : Conv) : (t.take en cuf (decide p) tau k).word
    = if p then t.word else powerWord (((t.take en cuf (decide p) tau k).convs.map Conv.hiCodes).foldl (· + ·) 0) := by
  by_cases hp : p <;> simp [Tap.take, hp]

theorem frameLane_converted (smp : List TapSample) (s : State) (x : Nat) :
    s.Converted smp x (s.lane x) ((s.frameLane smp x).lane x) := by
  obtain ⟨l, u, v, -, hl, hv, heq⟩ := frameLane_eq smp s x
  have htaps : (v.lane x).taps = (s.frameTap smp x 0 (s.lane x).tap0, s.frameTap smp x 1 (s.lane x).tap1) := by
    rw [hv.taps, lane_setLane_same, hl]
  obtain ⟨h0, h1⟩ := Prod.mk.inj htaps
  rw [heq, lane_setLane_same]
  have hconvs0 : ((v.lane x).nextRanges x).tap0.convs = (v.lane x).tap0.convs := rfl
  have hconvs1 : ((v.lane x).nextRanges x).tap1.convs = (v.lane x).tap1.convs := rfl
  have hword0 : ((v.lane x).nextRanges x).tap0.word = (v.lane x).tap0.word := rfl
  refine ⟨?_, ?_, ?_⟩
  · rw [hconvs0, h0]
    rfl
  · rw [hconvs1, h1]
    rfl
  · rw [hconvs0, hword0, h0]
    exact take_word ..

theorem ConvSame.converted {s u : State} (h : ConvSame s u) {x : Nat} (hx : x / 256 < 144) {smp : List TapSample} {l l' : Lane}
    (hu : u.Converted smp x l l') : s.Converted smp x l l' := by
  obtain ⟨h0, h1, hw⟩ := hu
  rw [h.convert hx (by omega), h.rangeOf hx] at h0 h1
  rw [h.refSel hx] at hw
  exact ⟨h0, h1, hw⟩

/-! ### The lanes of a cluster in a frame -/

/-- From s to u only lanes beside x had turns in a frame. -/
structure BesideFrame (x : Nat) (s u : State) : Prop where
  same : ConvSame s u
  lane : u.lane x = s.lane x

theorem BesideFrame.refl {x : Nat} {s : State} : BesideFrame x s s := ⟨.refl, rfl⟩

theorem BesideFrame.trans {x : Nat} {s u v : State} (h : BesideFrame x s u) (k : BesideFrame x u v) : BesideFrame x s v :=
  ⟨h.same.trans k.same, k.lane.trans h.lane⟩

theorem FrameTurn.beside {e x : Nat} {s u : State} (h : FrameTurn e s u) (hx : e ≠ x) : BesideFrame x s u :=
  ⟨h.same, h.lanes x hx.symm⟩

section
variable (smp : List TapSample) (s : State)

theorem forLanes_frameLane_beside {c x : Nat} (hx : x / 256 ≠ c) : BesideFrame x s (forLanes c (State.frameLane smp) s) :=
  forLanes_rel (R := BesideFrame x) (fun _ => .refl) .trans
    (fun u e he => (frameLane_turn smp u e).beside (by rintro rfl; exact hx he)) s

theorem forLanes_frameLane_cl {c d : Nat} (hd : d ≠ c) : (forLanes c (State.frameLane smp) s).cl d = s.cl d :=
  forLanes_rel (R := fun s u => u.cl d = s.cl d) (fun _ => rfl) (fun h k => k.trans h)
    (fun u e he => (frameLane_turn smp u e).clusters d (by rwa [he])) s

theorem forLanes_frameLane_converted {x : Nat} (hx : x / 256 < 144) :
    s.Converted smp x (s.lane x) ((forLanes (x / 256) (State.frameLane smp) s).lane x) := by
  obtain ⟨u, hbefore, hafter⟩ := forLanes_turn (R := BesideFrame x) (fun _ => .refl) .trans rfl
    (fun u e he => (frameLane_turn smp u e).beside he) s
  rw [hafter.lane, ← hbefore.lane]
  exact hbefore.same.converted hx (frameLane_converted smp u x)

end

/-! ### The accumulators in a frame (R112, R113) -/

/-- From s to u the accumulators of cluster c moved on. -/
structure AccTurn (c : Nat) (s u : State) : Prop where
  same : ConvSame s u
  clusters : ∀ d, d ≠ c → u.cl d = s.cl d

section
variable {c : Nat} {s : State}

theorem AccTurn.refl : AccTurn c s s := ⟨.refl, fun _ _ => rfl⟩

theorem AccTurn.trans {u v : State} (h : AccTurn c s u) (k : AccTurn c u v) : AccTurn c s v :=
  ⟨h.same.trans k.same, fun d hd => (k.clusters d hd).trans (h.clusters d hd)⟩

theorem AccTurn.setAcc (g : AccEng) (m : SMap Acc) : AccTurn c s (s.setCl c { s.cl c with eng := g, accs := m }) :=
  ⟨.setCl rfl rfl, fun _ hd => cl_setCl_ne s _ hd.symm⟩

theorem accStart_turn (t : Nat) : AccTurn c s (s.accStart c t) := by
  unfold State.accStart
  extract_lets k kk src
  have hstart : ∀ g, AccTurn c s (s.setCl c { k with eng := g, accs := [] }) := fun g => .setAcc g []
  split_ifs
  · exact hstart _
  · exact .refl
  · exact hstart _
  · exact .refl

theorem accFrame_turn (t : Nat) (smp : List TapSample) : AccTurn c s (s.accFrame c t smp) := by
  unfold State.accFrame
  extract_lets s1 s2 k
  have h1 : AccTurn c s s1 := accStart_turn t
  have h2 : AccTurn c s1 s2 := foldl_rel (R := AccTurn c) (fun _ => .refl) .trans (fun u h _ => .setAcc (u.cl c).eng _) s1
  split
  · exact (h1.trans h2).trans (.setAcc _ (s2.cl c).accs)
  · exact h1

end

/-! ### A frame -/

/-- The frame of cluster c before its end: accumulators, then lanes. -/
def State.framed (s : State) (c : Nat) (smp : List TapSample) : State :=
  forLanes c (State.frameLane smp) (s.accFrame c s.clr.now smp)

/-- The end of a frame: the learning time counts while RUN is 1 (R79). -/
def State.endFrame (s : State) (c : Nat) : State :=
  s.setCl c { s.cl c with tick := if s.fb SLV_CTRL.RUN [c] then (s.cl c).tick + 1 else (s.cl c).tick }

theorem doConversionFrame_unpowered {s : State} (h : s.folded = true) (c t : Nat) (smp : List TapSample) :
    doConversionFrame c t smp s = s.passTo t := if_pos ((passTo_folded s t).trans h)

theorem doConversionFrame_eq {s : State} (h : s.folded = false) (c t : Nat) (smp : List TapSample) :
    doConversionFrame c t smp s = ((s.passTo t).framed c smp).endFrame c :=
  if_neg (by rw [passTo_folded, h]; decide)

section
variable (s : State) (smp : List TapSample)

theorem accFrame_lane (c t x : Nat) : (s.accFrame c t smp).lane x = s.lane x := (accFrame_keeps ..).lane rfl x

theorem framed_same (c : Nat) : ConvSame s (s.framed c smp) :=
  (accFrame_turn ..).same.trans (forLanes_frameLane_beside smp _ (x := 256 * (c + 1)) (by omega)).same

theorem framed_cl {c d : Nat} (hd : d ≠ c) : (s.framed c smp).cl d = s.cl d :=
  (forLanes_frameLane_cl smp _ hd).trans ((accFrame_turn ..).clusters d hd)

theorem framed_lane {c x : Nat} (hx : x / 256 ≠ c) : (s.framed c smp).lane x = s.lane x :=
  (forLanes_frameLane_beside smp _ hx).lane.trans (accFrame_lane ..)

theorem framed_converted {x : Nat} (hx : x / 256 < 144) : s.Converted smp x (s.lane x) ((s.framed (x / 256) smp).lane x) := by
  have hturn := forLanes_frameLane_converted smp (s.accFrame (x / 256) s.clr.now smp) hx
  rw [accFrame_lane] at hturn
  exact (accFrame_turn ..).same.converted hx hturn

end

theorem passTo_same (s : State) (t : Nat) : ConvSame s (s.passTo t) :=
  .of_keeps (l := []) (.of_regs (passTo_regs s t)) nofun (passTo_keeps s t) rfl rfl rfl

theorem endFrame_lane (s : State) (c x : Nat) : (s.endFrame c).lane x = s.lane x :=
  (setCl_keeps ..).lane rfl x

/-- Settles O18: in a frame each lane of the cluster has its turn, in which its taps take one conversion each. -/
theorem conversionFrame : Obligations.ConversionFrame := by
  unfold Obligations.ConversionFrame
  refine fun s c t smp => ⟨fun hf => .of_eq rfl (doConversionFrame_eq hf c t smp) ⟨fun x hx => ?own, fun x hx => ?others,
    fun d hd => ?clusters, ?tick⟩, fun hf => .of_eq rfl (doConversionFrame_unpowered hf c t smp) ((passTo_keeps s t).changesOnly rfl)⟩
  case own =>
    have hturn := (passTo_same s t).converted (hx ▸ c.isLt) (framed_converted (s.passTo t) smp (hx ▸ c.isLt))
    rw [passTo_lane, hx] at hturn
    obtain ⟨h0, h1, hw⟩ := hturn
    rw [hx] at h0 h1 hw
    rw [endFrame_lane]
    exact ⟨h0, h1, hw⟩
  case others => rw [endFrame_lane, framed_lane _ _ hx, passTo_lane]
  case clusters => rw [State.endFrame, cl_setCl_ne _ _ hd.symm, framed_cl _ _ hd, passTo_cl]
  case tick =>
    have hsame := (passTo_same s t).trans (framed_same (s.passTo t) smp c)
    rw [State.endFrame, cl_setCl_same]
    simp only [hsame.run c.isLt, hsame.tick]

end Sys2Proof.Machine
end

section
/-! PROOF. The turn of a lane at a strobe: the settings of its pattern, the end of an earlier transition, the start of the new one
(R132, R135, R172). -/
namespace Sys2Proof.Machine

/-! ### Tables filled one key at a time -/

theorem mem_sset {α : Type} {m : SMap α} {a : Nat} {v : α} {x : Nat × α} (h : x ∈ sset m a v) : x = (a, v) ∨ x ∈ m := by
  induction m with
  | nil => exact .inl (List.mem_singleton.1 h)
  | cons q m ih =>
    unfold sset at h
    split_ifs at h with hlt heq
    · exact List.mem_cons.1 h
    · rcases List.mem_cons.1 h with hx | hx
      · exact .inl (heq ▸ hx)
      · exact .inr (.tail _ hx)
    · rcases List.mem_cons.1 h with hx | hx
      · exact .inr (hx ▸ .head _)
      · exact (ih hx).imp_right (.tail _)

theorem mem_keys_sset {α : Type} (m : SMap α) (a : Nat) (v : α) (k : Nat) :
    k ∈ (sset m a v).map Prod.fst ↔ k = a ∨ k ∈ m.map Prod.fst := by
  induction m with
  | nil => simp [sset]
  | cons q m ih =>
    unfold sset
    split_ifs with hlt heq
    · simp
    · simp [heq]
    · simp only [List.map_cons, List.mem_cons, ih]
      tauto

/-! ### The lanes of a pattern (R204, R209) -/

/-- The pattern names slot k for lane e. -/
def PatEnt.names (p : PatEnt) (e : Nat) (k : Bool) : Prop := ∃ l ∈ p.lanes, l.e = e ∧ l.slot = k

theorem mem_groupSlots_one {p : PatEnt} {x : Nat × Nat × Bool × PatKind} (h : x ∈ groupSlots [p]) : p.names x.1 x.2.2.1 := by
  have hfold : ∀ (l : List LaneSet) (m : SMap (Nat × Bool × PatKind)), (∀ y ∈ m, p.names y.1 y.2.2.1) → (∀ a ∈ l, a ∈ p.lanes) →
      ∀ y ∈ l.foldl (fun m a => sset m a.e (p.num, a.slot, p.kind)) m, p.names y.1 y.2.2.1 := by
    intro l
    induction l with
    | nil => exact fun m hm _ => hm
    | cons a l ih =>
      refine fun m hm hl => ih _ (fun y hy => ?_) fun b hb => hl b (.tail _ hb)
      rcases mem_sset hy with rfl | hy
      · exact ⟨a, hl a (.head _), rfl, rfl⟩
      · exact hm y hy
  exact hfold p.lanes [] nofun (fun _ h => h) x h

theorem keys_groupSlots_one (p : PatEnt) (e : Nat) : e ∈ (groupSlots [p]).map Prod.fst ↔ ∃ l ∈ p.lanes, l.e = e := by
  have hfold : ∀ (l : List LaneSet) (m : SMap (Nat × Bool × PatKind)),
      e ∈ (l.foldl (fun m a => sset m a.e (p.num, a.slot, p.kind)) m).map Prod.fst ↔ e ∈ m.map Prod.fst ∨ ∃ a ∈ l, a.e = e := by
    intro l
    induction l with
    | nil => simp
    | cons a l ih =>
      intro m
      rw [List.foldl_cons, ih, mem_keys_sset]
      simp only [List.mem_cons, exists_eq_or_imp, eq_comm (a := e)]
      tauto
  simpa [groupSlots] using hfold p.lanes []

/-! ### One lane at a strobe (R132, R135, R172) -/

/-- What the strobe may do to lane e and beside it: every other lane is kept, no pattern gets in flight, no calibration step
begins. -/
structure StrobeTurn (e : Nat) (s u : State) : Prop where
  lanes : otherLanes e s u
  col : s.col = [] → u.col = []
  busy : u.cal.busyAdc = s.cal.busyAdc

section
variable {e : Nat} {s u v : State}

theorem StrobeTurn.refl : StrobeTurn e s s := ⟨fun _ _ => rfl, id, rfl⟩

theorem StrobeTurn.trans (h : StrobeTurn e s u) (k : StrobeTurn e u v) : StrobeTurn e s v :=
  ⟨otherLanes_trans h.lanes k.lanes, fun h0 => k.col (h.col h0), k.busy.trans h.busy⟩

theorem StrobeTurn.ite {c : Prop} [Decidable c] (h : StrobeTurn e s u) (k : StrobeTurn e s v) : StrobeTurn e s (if c then u else v) := by
  split <;> assumption

theorem StrobeTurn.of_keeps {m : Nat} (h : Keeps m s u) (hl : otherLanes e s u) (h6 : m.testBit 6 = false)
    (h19 : m.testBit 19 = false) : StrobeTurn e s u :=
  ⟨hl, (h.frame .col h6).trans, congrArg Cal.busyAdc (h.frame .cal h19)⟩

/-- What reaches no lane is part of the turn of any lane. -/
theorem StrobeTurn.beside {m : Nat} (h : Keeps m s u) (h4 : m.testBit 4 = false) (h6 : m.testBit 6 = false)
    (h19 : m.testBit 19 = false) : StrobeTurn e s u :=
  .of_keeps h (fun x _ => h.lane h4 x) h6 h19

theorem otherLanes_setLane (s : State) (e : Nat) (l : Lane) : otherLanes e s (s.setLane e l) := fun _ hx => lane_setLane_ne s l hx.symm

theorem StrobeTurn.setLane (l : Lane) : StrobeTurn e s (s.setLane e l) := ⟨otherLanes_setLane s e l, id, rfl⟩

end

section
variable (s : State) (e : Nat)

theorem applySet_turn (l : LaneSet) : StrobeTurn l.e s (s.applySet l) := by
  refine .of_keeps (applySet_keeps s l) ?_ rfl rfl
  unfold State.applySet
  extract_lets k s1
  have h1 : otherLanes l.e s s1 := otherLanes_setLane _ _ _
  split
  · exact otherLanes_trans h1 (doSetptWrite_frame ..).1
  · exact h1

theorem supersede_turn : StrobeTurn e s (s.supersede e) := by
  unfold State.supersede
  extract_lets l s1
  split
  · exact .refl
  · next tr _ =>
    extract_lets s2 s3 l3
    have h1 : StrobeTurn e s s1 := .beside (raise_keeps ..) rfl rfl rfl
    have h2 : StrobeTurn e s1 s2 := .ite (.beside (clDecide_keeps ..) rfl rfl rfl) .refl
    have h3 : StrobeTurn e s2 s3 := .ite (.beside (reResult_keeps ..) rfl rfl rfl) (.beside (writeMeas_keeps ..) rfl rfl rfl)
    exact ((h1.trans h2).trans h3).trans (.setLane _)

theorem abortLane_turn : StrobeTurn e s (s.abortLane e) ∧ ((s.abortLane e).lane e).cmd = (s.lane e).cmd := by
  unfold State.abortLane
  extract_lets l
  split
  · next tr _ =>
    split
    · exact ⟨.refl, rfl⟩
    · extract_lets s1
      have hset : StrobeTurn e s (s.setLane e { l with tr := some { tr with res := .aborted } }) := .setLane _
      have hcl := clRedecide_keeps (s.setLane e { l with tr := some { tr with res := .aborted } }) e tr.pat tr.res
      have h1 : StrobeTurn e s s1 := hset.trans (.beside hcl rfl rfl rfl)
      have hcmd : (s1.lane e).cmd = (s.lane e).cmd := by rw [hcl.lane rfl, lane_setLane_same]
      split
      · have hre := reResult_keeps s1 e .aborted
        exact ⟨h1.trans (.beside hre rfl rfl rfl), by rw [hre.lane rfl, hcmd]⟩
      · exact ⟨h1, hcmd⟩
  · exact ⟨.refl, rfl⟩

theorem calMeet_turn (key : Nat) : StrobeTurn e s (s.calMeet key) := by
  have hk := calMeet_keeps s key
  refine ⟨fun x _ => hk.lane rfl x, (hk.frame .col rfl).trans, ?_⟩
  unfold State.calMeet
  split <;> rfl

theorem startTrans_turn (pat t0 : Nat) (slot : Bool) :
    StrobeTurn e s (s.startTrans pat t0 e slot) ∧ ((s.startTrans pat t0 e slot).lane e).cmd = slot := by
  unfold State.startTrans
  split
  · next h => exact ⟨.refl, h⟩
  · extract_lets c s0 x s1 l due tgt d ls n iso cut key busy tr left tap0 tap1 l1 s2 s4 s5 s6 s7 s8
    have h2 : StrobeTurn e s s2 := ((supersede_turn s e).trans (.beside (foldSp_keeps s0 e x.2) rfl rfl rfl)).trans
      (.of_keeps (putLane_keeps s1 e l1) (otherLanes_putLane e l1) rfl rfl)
    have h7 : Keeps 0x100024 s2 s7 := (setCl_keeps ..).step ((bump_keeps ..).step (.ite ((raise_keeps ..).step
      (.ite ((raise_keeps ..).step .refl rfl) .refl) rfl) (.ite ((raise_keeps ..).step .refl rfl) .refl)) rfl) rfl
    have h8 : StrobeTurn e s s8 := (h2.trans (.beside h7 rfl rfl rfl)).trans (.ite (calMeet_turn ..) .refl)
    have hlane : s8.lane e = l1 := by
      have hk : Keeps 0x180024 s2 s8 := .ite ((calMeet_keeps ..).step (h7.step .refl rfl) rfl) (h7.step .refl rfl)
      rw [hk.lane rfl, lane_putLane_same]
    obtain ⟨habort, hcmd⟩ := abortLane_turn s8 e
    split
    · exact ⟨h8.trans habort, by rw [hcmd, hlane]⟩
    · exact ⟨h8, by rw [hlane]⟩

theorem markBy_turn (pat : Nat) : StrobeTurn e s (s.markBy e pat) := by
  unfold State.markBy
  split
  · exact .ite ⟨fun _ _ => rfl, fun h => by simp [h], rfl⟩ .refl
  · exact .refl

theorem selectBank1_turn (probe : Bool) : StrobeTurn e s (State.selectBank1 probe s e) := by
  have hk := selectBank1_keeps probe s e
  refine ⟨fun x _ => hk.lane rfl x, (hk.frame .col rfl).trans, ?_⟩
  unfold State.selectBank1
  split <;> rfl

/-- Behind its turn at the strobe, a lane has the slot that the group decides for it. -/
theorem fireLane_turn (t : Nat) (x : Nat × Nat × Bool × PatKind) :
    StrobeTurn x.1 s (State.fireLane t s x) ∧ ((State.fireLane t s x).lane x.1).cmd = x.2.2.1 := by
  unfold State.fireLane
  split
  · next h => exact ⟨.refl, h⟩
  · extract_lets s1 s2
    have h2 : StrobeTurn x.1 s s2 := (markBy_turn s x.1 x.2.1).trans (.ite (selectBank1_turn ..) .refl)
    obtain ⟨hturn, hcmd⟩ := startTrans_turn s2 x.1 x.2.1 t x.2.2.1
    exact ⟨h2.trans hturn, hcmd⟩

end

end Sys2Proof.Machine
end

section
/-! PROOF. A pattern that fires alone (O25). -/
namespace Sys2Proof.Machine

/-! ### Announcements leave the store (R220, R221) -/

/-- The pattern store and the last pattern are the same. -/
structure PatternsKept (s u : State) : Prop where
  store : u.yk.store = s.yk.store
  lastPat : u.yk.lastPat = s.yk.lastPat

section
variable {s u v : State}

theorem PatternsKept.refl : PatternsKept s s := ⟨rfl, rfl⟩

theorem PatternsKept.trans (h : PatternsKept s u) (k : PatternsKept u v) : PatternsKept s v :=
  ⟨k.store.trans h.store, k.lastPat.trans h.lastPat⟩

theorem PatternsKept.of_yk (h : u.yk = s.yk) : PatternsKept s u := ⟨by rw [h], by rw [h]⟩

end

theorem announce_patterns (s : State) (ty : Nat) (shared : Bool) (body : List Byte) : PatternsKept s (s.announce ty shared body) := by
  have hsend : ∀ m, PatternsKept s (s.mirSend m) := fun m => .of_yk ((mirSend_keeps ..).frame .yk rfl)
  unfold State.announce
  split
  · exact ⟨rfl, rfl⟩
  · split
    · exact .refl
    · split
      · extract_lets q fr s1 pr s2
        have h2 : PatternsKept s s2 := (hsend _).trans (u := s1) ⟨rfl, rfl⟩
        split
        · exact h2.trans ⟨rfl, rfl⟩
        · exact h2.trans ⟨rfl, rfl⟩
      · exact ⟨rfl, rfl⟩

theorem notice_patterns (s : State) (t pat kind : Nat) (shared : Bool) (l : List NotEnt) : PatternsKept s (s.notice t pat kind shared l) :=
  foldl_rel (R := PatternsKept) (fun _ => .refl) .trans (fun _ _ _ => announce_patterns ..) s

theorem announceRb_patterns (t pat : Nat) (s : State) : PatternsKept s (State.announceRb t pat s) := by
  unfold State.announceRb
  split
  · exact foldl_rel (R := PatternsKept) (fun _ => .refl) .trans (fun _ _ _ => notice_patterns ..) s
  · exact .refl

theorem afterFire_patterns {p : PatEnt} (h : p.kind ≠ .calib) (turn : Bool) (t : Nat) (s : State) :
    PatternsKept s (State.afterFire turn t s p) := by
  unfold State.afterFire
  extract_lets _ s1 _ _ _ _ rts _ s2 s3
  rw [if_neg h]
  have h2 : PatternsKept s s2 := ⟨rfl, rfl⟩
  have h3 : PatternsKept s2 s3 := by
    simp only [s3]
    split
    · exact notice_patterns ..
    · exact .refl
  exact (h2.trans h3).trans (announceRb_patterns ..)

/-! ### A pattern that fires alone (R209) -/

/-- The lanes of a pattern have taken its settings: set-points, targets and tones. -/
def State.readied (s : State) (p : PatEnt) : State := p.lanes.foldl State.applySet (s.calForget (s.newRoutes p))

/-- The strobe has reached every lane that a pattern names. -/
def State.struck (s : State) (t : Nat) (p : PatEnt) : State := (groupSlots [p]).foldl (State.fireLane t) (s.readied p)

/-- What the strobe of one pattern does to the lanes: those it names have a slot that it names for them, the others are kept. -/
structure Struck (p : PatEnt) (s u : State) : Prop where
  named : ∀ l ∈ p.lanes, p.names l.e (u.lane l.e).cmd
  others : ∀ e, (∀ l ∈ p.lanes, l.e ≠ e) → u.lane e = s.lane e

/-- Between lists of turns at a strobe: the lanes outside the list are kept, no pattern gets in flight, no calibration step
begins. -/
structure StrobeTurns (l : List Nat) (s u : State) : Prop where
  lanes : ∀ e ∉ l, u.lane e = s.lane e
  col : s.col = [] → u.col = []
  busy : u.cal.busyAdc = s.cal.busyAdc

theorem StrobeTurns.foldl {α : Type} {f : State → α → State} {key : α → Nat} (h : ∀ u a, StrobeTurn (key a) u (f u a))
    (l : List α) (s : State) : StrobeTurns (l.map key) s (l.foldl f s) := by
  induction l generalizing s with
  | nil => exact ⟨fun _ _ => rfl, id, rfl⟩
  | cons a l ih =>
    have hl := ih (f s a)
    refine ⟨fun e he => ?_, fun h0 => hl.col ((h s a).col h0), hl.busy.trans (h s a).busy⟩
    rw [List.map_cons, List.mem_cons, not_or] at he
    exact (hl.lanes e he.2).trans ((h s a).lanes e he.1)

/-- Behind the turns of a group, a lane has a slot decided for it, where it has a turn or had such a slot before. -/
theorem foldl_fireLane_cmd {P : Nat → Bool → Prop} (t : Nat) {l : List (Nat × Nat × Bool × PatKind)} (hl : ∀ x ∈ l, P x.1 x.2.2.1)
    {e : Nat} {s : State} (h : e ∈ l.map Prod.fst ∨ P e (s.lane e).cmd) : P e ((l.foldl (State.fireLane t) s).lane e).cmd := by
  induction l generalizing s with
  | nil => exact h.resolve_left nofun
  | cons x l ih =>
    obtain ⟨hturn, hcmd⟩ := fireLane_turn s t x
    refine ih (fun y hy => hl y (.tail _ hy)) ?_
    by_cases hx : e = x.1
    · exact .inr (by rw [hx, hcmd]; exact hl x (.head _))
    · rw [List.map_cons, List.mem_cons, or_iff_right hx] at h
      exact h.imp_right fun h => by rwa [hturn.lanes e hx]

theorem readied_turns (s : State) (p : PatEnt) : StrobeTurns (p.lanes.map LaneSet.e) s (s.readied p) := by
  have hk := calForget_keeps s (s.newRoutes p)
  have hbusy : (s.calForget (s.newRoutes p)).cal.busyAdc = s.cal.busyAdc := by
    unfold State.calForget
    split <;> rfl
  have hset := StrobeTurns.foldl applySet_turn p.lanes (s.calForget (s.newRoutes p))
  exact ⟨fun e he => (hset.lanes e he).trans (hk.lane rfl e), fun h0 => hset.col ((hk.frame .col rfl).trans h0), hset.busy.trans hbusy⟩

theorem struck_turns (s : State) (t : Nat) (p : PatEnt) : StrobeTurns ((groupSlots [p]).map Prod.fst) (s.readied p) (s.struck t p) :=
  StrobeTurns.foldl (fun u x => (fireLane_turn u t x).1) (groupSlots [p]) (s.readied p)

theorem struck_struck (s : State) (t : Nat) (p : PatEnt) : Struck p s (s.struck t p) := by
  refine ⟨fun l hl => foldl_fireLane_cmd t (fun x hx => mem_groupSlots_one hx) (.inl ((keys_groupSlots_one p l.e).2 ⟨l, hl, rfl⟩)),
    fun e he => ?_⟩
  rw [(struck_turns s t p).lanes e fun h => ?_, (readied_turns s p).lanes e fun h => ?_]
  · obtain ⟨l, hl, rfl⟩ := List.mem_map.1 h
    exact he l hl rfl
  · obtain ⟨l, hl, hle⟩ := (keys_groupSlots_one p e).1 h
    exact he l hl hle

theorem giveWay_of_no_routes {s : State} (h : s.cal.routes = []) (hn : s.cal.next = []) (g : List PatEnt) : s.giveWay g = (g, s) := by
  have hhits : s.probeHits g = [] := by simp [State.probeHits, h, hn]
  simp [State.giveWay, hhits]

/-- No calibration is at work that a strobe could meet: no probe routes, no step (R469, R476). -/
structure State.NoCal (s : State) : Prop where
  routes : s.cal.routes = []
  next : s.cal.next = []
  busy : s.cal.busyAdc = []

theorem fire_alone {s : State} (h : s.NoCal) (t : Nat) (p : PatEnt) :
    s.fire t none [p] = (State.afterFire false t (State.launch none t (s.struck t p) p) p).strobe := by
  have hbusy : (s.struck t p).cal.busyAdc = [] := ((struck_turns s t p).busy.trans (readied_turns s p).busy).trans h.busy
  have hmet : (s.struck t p).calAbandonMet = s.struck t p := by simp [State.calAbandonMet, hbusy]
  rw [← hmet]
  simp only [State.fire, giveWay_of_no_routes h.routes h.next, List.flatMap_cons, List.flatMap_nil, List.append_nil]
  rfl

/-- What a pattern leaves that fires alone: its lanes struck, its number shown, itself in flight in store and collector. -/
structure Fired (p : PatEnt) (s u : State) : Prop extends Struck p s u where
  lastPat : u.yk.lastPat = p.num
  col : u.col.map ColEnt.pat = [p.num]
  store : u.yk.store = s.yk.store.map fun q => if q.num = p.num then { q with st := .inFlight, turn := false } else q

theorem Fired.of_keeps {p : PatEnt} {s u v : State} {m : Nat} (h : Fired p s u) (hk : Keeps m u v) (h4 : m.testBit 4 = false)
    (h6 : m.testBit 6 = false) (hy : PatternsKept u v) : Fired p s v where
  named l hl := by rw [hk.lane h4]; exact h.named l hl
  others e he := (hk.lane h4 e).trans (h.others e he)
  lastPat := hy.lastPat.trans h.lastPat
  col := by rw [show v.col = u.col from hk.frame .col h6]; exact h.col
  store := hy.store.trans h.store

theorem launch_fired {s u : State} {p : PatEnt} (h : Struck p s u) (hcol : u.col = []) (hyk : u.yk = s.yk) (t : Nat) :
    Fired p s (State.launch none t u p) := by
  unfold State.launch
  extract_lets s1 s2 s3
  have h3 : Keeps 0x4004 s2 s3 := .ite .refl (offer_keeps ..)
  have hlane : ∀ e, s3.lane e = u.lane e := h3.lane rfl
  have hyk3 : s3.yk = s2.yk := h3.frame .yk rfl
  have hcol3 : s3.col = s2.col := h3.frame .col rfl
  refine ⟨⟨fun l hl => ?_, fun e he => (hlane e).trans (h.others e he)⟩, rfl, ?_, ?_⟩
  · exact (hlane l.e).symm ▸ h.named l hl
  · change s3.col.map ColEnt.pat = _
    rw [hcol3]
    simp [s2, s1, State.modPat, hcol, State.newCol]
  · change s3.yk.store = _
    rw [hyk3, ← hyk]
    rfl

/-- The steps of a strobe that come before a pattern is in flight leave the Yoke as it is. -/
theorem struck_yk (s : State) (t : Nat) (p : PatEnt) : (s.struck t p).yk = s.yk := by
  have hset : Keeps 0x80014 s (s.readied p) :=
    .foldl ((calForget_keeps ..).step .refl rfl) fun _ l h => (applySet_keeps _ l).step h rfl
  have hfire : Keeps 0x184274 (s.readied p) (s.struck t p) := .foldl .refl fun _ x h => (fireLane_keeps t _ x).step h rfl
  exact (hfire.frame .yk rfl).trans (hset.frame .yk rfl)

theorem fire_fired {s : State} {p : PatEnt} (h : s.NoCal) (hcol : s.col = []) (hkind : p.kind ≠ .calib) (t : Nat) :
    Fired p s (s.fire t none [p]) := by
  rw [fire_alone h]
  have hlaunch := launch_fired (struck_struck s t p) ((struck_turns s t p).col ((readied_turns s p).col hcol)) (struck_yk s t p) t
  have hafter := hlaunch.of_keeps (afterFire_keeps false t _ p) rfl rfl (afterFire_patterns hkind ..)
  exact hafter.of_keeps (strobe_keeps _) rfl rfl (.of_yk ((strobe_keeps _).frame .yk rfl))

/-! ### Which patterns fire (R209, R210) -/

/-- Nothing is in flight, and one pattern is in the store (R146, R204). -/
structure State.Waiting (s : State) (p : PatEnt) : Prop where
  p0 : s.pwr.st = 0
  col : s.col = []
  store : s.yk.store = [p]

theorem dueStatic_alone {s : State} {p : PatEnt} (h : s.yk.store = [p]) {t : Nat} (hst : p.st = .armed) (hkind : p.kind = .request)
    (hlayer : p.layer = 0) (hdue : p.due ≤ t) (hheld : p.heldP = false) : s.dueStatic t = [p] := by
  simp [State.dueStatic, h, hst, hkind, hlayer, hdue, hheld, insertPat]

theorem dueStatic_of_not_armed {s : State} {p : PatEnt} (h : s.yk.store = [p]) (hst : p.st ≠ .armed) (t : Nat) : s.dueStatic t = [] := by
  simp [State.dueStatic, h, hst]

theorem dueRepair_alone {s : State} {p : PatEnt} (h : s.yk.store = [p]) {t layer : Nat} (hst : p.st = .staged) (hkind : p.kind = .repair)
    (hlayer : p.layer = layer) (hdue : p.due ≤ t) : s.dueRepair layer t = [p] := by
  simp [State.dueRepair, h, hst, hkind, hlayer, hdue, insertPat]

theorem dueRepair_of_not_repair {s : State} {p : PatEnt} (h : s.yk.store = [p]) (hkind : p.kind ≠ .repair) (layer t : Nat) :
    s.dueRepair layer t = [] := by
  simp [State.dueRepair, h, hkind]

theorem fireAt_alone {s : State} {p : PatEnt} (h : s.Waiting p) {t : Nat} {grid : Bool}
    (hdue : s.dueRepair s.runLayer t = [p] ∧ (grid = true → s.dueStatic t = [])
      ∨ s.dueRepair s.runLayer t = [] ∧ grid = true ∧ s.dueStatic t = [p]) :
    s.fireAt t grid = s.fire t none [p] := by
  unfold State.fireAt
  rcases hdue with ⟨hrep, hreq⟩ | ⟨hrep, rfl, hreq⟩
  · have hreq' : (if grid then s.dueStatic t else []) = [] := by
      split
      · next hg => exact hreq hg
      · rfl
    simp [h.p0, h.col, hrep, hreq', insertPat]
  · simp [h.p0, h.col, hrep, hreq, insertPat]

/-- The strobe of one pattern at a time t that a command names. -/
theorem fired_of_passTo {s : State} {p : PatEnt} {t : Nat} (h : (s.passTo t).NoCal) (hcol : s.col = []) (hkind : p.kind ≠ .calib) :
    Fired p s (State.schedEvent s ((s.passTo t).fire t none [p])) := by
  have hfire := fire_fired h ((passTo_col s t).trans hcol) hkind t
  have hev := schedEvent_keeps s ((s.passTo t).fire t none [p])
  have hfired := hfire.of_keeps hev rfl rfl (.of_yk (hev.frame .yk rfl))
  exact ⟨⟨hfired.named, fun e he => (hfired.others e he).trans (passTo_lane s t e)⟩, hfired.lastPat, hfired.col,
    by rw [hfired.store, passTo_yk]⟩

theorem exec_patternFire (s : State) (t : Nat) : exec (.patternFire t) s = .next (doPatternFire t s) := rfl

theorem exec_repairPatternFire (s : State) (t : Nat) : exec (.repairPatternFire t) s = .next (doRepairFire t s) := rfl

theorem doPatternFire_alone {s : State} {p : PatEnt} {t : Nat} (h : s.Waiting p) (hmode : s.yk.mode < 2) (ht : t % s.slotNs = 0)
    (hsafe : s.flt.safe = false) (hkind : p.kind = .request) (hdue : s.dueStatic t = [p]) :
    doPatternFire t s = State.schedEvent s ((s.passTo t).fire t none [p]) := by
  have hw : (s.passTo t).Waiting p := ⟨by simpa using h.p0, by simpa using h.col, by simpa using h.store⟩
  have hfire : (s.passTo t).fireAt t true = (s.passTo t).fire t none [p] :=
    fireAt_alone hw (.inr ⟨dueRepair_of_not_repair hw.store (by simp [hkind]) .., rfl, by
      simpa [State.dueStatic] using hdue⟩)
  have hguard : ¬ (2 ≤ (s.passTo t).yk.mode ∨ t % (s.passTo t).slotNs ≠ 0 ∨ (s.passTo t).flt.safe = true) := by
    have hslot : (s.passTo t).slotNs = s.slotNs := by simp only [State.slotNs, passTo_yk]
    simp [hslot, ht, hsafe, hmode]
  unfold doPatternFire
  extract_lets s1
  rw [if_neg hguard, if_pos (show s1.pwr.st = 0 from hw.p0), hfire]

/-- Settles O25: the one due pattern is the whole group, so that what `Fired` says of its firing is what the command does. -/
theorem patternFire : Obligations.PatternFire := by
  unfold Obligations.PatternFire
  intro s t p hmode ht hsafe hp0 hcol hstore hroutes hnext hbusy hst hkind hlayer hdue hheld
  have hfired : Fired p s (State.schedEvent s ((s.passTo t).fire t none [p])) :=
    fired_of_passTo ⟨by simpa using hroutes, by simpa using hnext, by simpa using hbusy⟩ hcol (by simp [hkind])
  refine .of_eq (exec_patternFire s t) (doPatternFire_alone ⟨hp0, hcol, hstore⟩ hmode ht hsafe hkind
    (dueStatic_alone hstore hst hkind hlayer hdue hheld)) ⟨fun l hl => ?_, hfired.others, hfired.lastPat, hfired.col, ?_⟩
  · obtain ⟨m, hm, hme, hslot⟩ := hfired.named l hl
    exact ⟨m, hm, hme, hslot.symm⟩
  · simp [hfired.store, hstore]

end Sys2Proof.Machine
end

section
/-! PROOF. Repair patterns, fault reports, continuity and gain banks (O35). -/
namespace Sys2Proof.Machine

/-! ### A repair pattern fires (R133, R182) -/

theorem doRepairFire_alone {s : State} {p : PatEnt} {t : Nat} (h : s.Waiting p) (ht : t % 1000 = 0) (hsafe : s.flt.safe = false)
    (hst : p.st = .staged) (hdue : s.dueRepair s.runLayer t = [p]) :
    doRepairFire t s = State.schedEvent s ((s.passTo t).fire t none [p]) := by
  have hw : (s.passTo t).Waiting p := ⟨by simpa using h.p0, by simpa using h.col, by simpa using h.store⟩
  have hrep : (s.passTo t).dueRepair (s.passTo t).runLayer t = [p] := by
    simpa only [State.dueRepair, passTo_yk, passTo_runLayer] using hdue
  have hguard : ¬ (t % 1000 ≠ 0 ∨ ((s.passTo t).dueRepair (s.passTo t).runLayer t).isEmpty = true ∨ (s.passTo t).flt.safe = true
      ∨ (s.passTo t).pwr.st ≠ 0 ∨ 4 ≤ (s.passTo t).col.length) := by
    simp only [ht, hrep, passTo_flt, hsafe, hw.p0, hw.col]
    simp
  unfold doRepairFire
  extract_lets s1
  rw [if_neg hguard, fireAt_alone hw (.inl ⟨hrep, fun _ => dueStatic_of_not_armed hw.store (by simp [hst]) t⟩)]

/-! ### A fault that no path meets (R179, R181) -/

section
variable {s : State}

theorem hitBy_of_no_paths (h : s.pth.live = []) (layer e : Nat) : s.hitBy layer e = [] := by
  simp [State.hitBy, State.liveRts, h, sget]

theorem restageHit_of_no_repairs (h : s.pth.reps = []) (n : Nat × Nat) : s.restageHit n = s := by
  simp [State.restageHit, h]

theorem replaceAt_of_none_placed (h : s.pth.placed = []) (n : Nat × Nat) (layer : Nat) : State.replaceAt n s layer = s := by
  simp [State.replaceAt, h]

/-- A fault of a node at stages 1 to 15 that no path crosses, in force or placed, excludes the node and starts nothing. -/
theorem elementFault_of_no_paths (hlive : s.pth.live = []) (hplaced : s.pth.placed = []) (hreps : s.pth.reps = []) {e : Nat}
    (ha : avoidable e = true) (onset : Nat) : s.elementFault e onset = s.exclude (nodeE e) := by
  have hlive' : (s.exclude (nodeE e)).pth.live = [] := hlive
  have hplaced' : (s.exclude (nodeE e)).pth.placed = [] := hplaced
  have hstart : ∀ l, (s.exclude (nodeE e)).startRep e onset (((((s.exclude (nodeE e)).hitBy l e).map fun a => 512 * l + a)).filter
      fun k => !(s.exclude (nodeE e)).leaving k) [] = s.exclude (nodeE e) := fun l => by
    rw [hitBy_of_no_paths hlive']
    rfl
  have hlayers : (List.range 64).filter (fun l => l != s.runLayer && s.pth.live.any fun p => p.1 / 512 == l) = [] := by
    simp [hlive]
  simp only [State.elementFault, ha, if_true, restageHit_of_no_repairs (s := s.exclude (nodeE e)) hreps, hlayers, List.foldl_cons,
    List.foldl_nil, hstart, replaceAt_of_none_placed hplaced']

end

theorem testBit_or_wd {k : Nat} (h : k < 32) (v : Word) : (v ||| wd (2 ^ k)).toNat.testBit k = true := by
  have hlt : 2 ^ k < 2 ^ 32 := Nat.pow_lt_pow_right (by decide) h
  rw [BitVec.toNat_or, Nat.testBit_or, wd, BitVec.toNat_ofNat, Nat.mod_eq_of_lt hlt, Nat.testBit_two_pow_self, Bool.or_true]

/-- The place of a node in PTH_EXCL (R181). -/
def exclIx (n : Nat × Nat) : List Nat := [8 * n.1 + n.2 / 32]

theorem exclude_facts (s : State) (n : Nat × Nat) : ((s.exclude n).reg .PTH_EXCL (exclIx n)).toNat.testBit (n.2 % 32) = true
    ∧ otherRegs [Reg.PTH_EXCL.at (exclIx n)] s (s.exclude n) := by
  have hreg : (s.exclude n).reg .PTH_EXCL (exclIx n) = s.reg .PTH_EXCL (exclIx n) ||| wd (2 ^ (n.2 % 32)) := reg_setReg_same ..
  exact ⟨by rw [hreg]; exact testBit_or_wd (Nat.mod_lt _ (by decide)) _, .setReg (.head _)⟩

/-- With nothing lost, missed, waiting or probed, what follows a change of the table changes nothing of the path service. -/
theorem fabAfter_idle_pth {s : State} (hl : s.pth.placed = []) (hm : s.fab.missed = []) (hp : s.fab.probes = []) (hw : s.fab.waitQ = []) :
    s.fabAfter.pth = s.pth ∧ Keeps 0xa00 s s.fabAfter := by
  have hlost : ∀ p ∈ s.pth.placed, p.lost = false := by simp [hl]
  refine ⟨?_, (fabAfter_quiet_pth hlost hm hp).2⟩
  have hlate : s.wakeWaiting.lateRelease.pth = s.wakeWaiting.pth := (lateRelease_keeps ..).frame .pth rfl
  rw [fabAfter_of_quiet hlost hm hp, hlate]
  simp [State.wakeWaiting, hw]

/-- A report is taken up; the rest of them stay (R179). -/
def State.takeReport (s : State) (rest : List Report) : State := { s with pth := { s.pth with reports := rest } }

theorem doElementFaultReport_eq {s : State} {r : Report} {rest : List Report} (hr : s.pth.reports = r :: rest)
    (hheld : s.held r = false) (t : Nat) : doElementFaultReport t s
      = State.schedEvent s ((((s.passTo t).takeReport rest).elementFault r.e (r.t - r.bound * 1000)).fabAfter) := by
  have hfree : (s.passTo t).held r = false := by simpa [State.held] using hheld
  have hfind : (s.passTo t).pth.reports.find? (fun r => !(s.passTo t).held r) = some r := by simp [hr, hfree]
  simp only [doElementFaultReport, hfind]
  simp [State.takeReport, hr]

/-- What the report of a node leaves that no path crosses: the node excluded, the report gone. -/
structure NodeExcluded (n : Nat × Nat) (rest : List Report) (s u : State) : Prop where
  pth : u.pth = { s.pth with reports := rest }
  bit : (u.reg .PTH_EXCL (exclIx n)).toNat.testBit (n.2 % 32) = true
  regs : otherRegs [Reg.PTH_EXCL.at (exclIx n)] s u
  lanes : u.lanes = s.lanes

/-- What the exclusion of a node leaves once the report of its fault is taken. -/
theorem excluded_takeReport (s : State) (t : Nat) (rest : List Report) (n : Nat × Nat) :
    NodeExcluded n rest s (((s.passTo t).takeReport rest).exclude n) := by
  obtain ⟨hbit, hregs⟩ := exclude_facts ((s.passTo t).takeReport rest) n
  refine ⟨?_, hbit, .trans (.of_regs (passTo_regs s t)) hregs, passTo_lanes s t⟩
  change { (s.passTo t).pth with reports := rest } = { s.pth with reports := rest }
  rw [passTo_pth]

theorem NodeExcluded.of_keeps {n : Nat × Nat} {rest : List Report} {s u v : State} {m : Nat} (h : NodeExcluded n rest s u)
    (hk : Keeps m u v) (hp : v.pth = u.pth) (h1 : m.testBit 1 = false) (h2 : m.testBit 2 = false) (h4 : m.testBit 4 = false) :
    NodeExcluded n rest s v :=
  ⟨hp.trans h.pth, by rw [reg_congr (hk.frame .regs h2) (hk.stage h1)]; exact h.bit, h.regs.trans (.of_regs (hk.frame .regs h2)),
    (hk.frame .lanes h4).trans h.lanes⟩

/-- The oldest report names an element of stages 1 to 15 with no path in force or placed, and no check holds it. -/
structure State.LoneFault (s : State) (r : Report) (rest : List Report) : Prop where
  reports : s.pth.reports = r :: rest
  held : s.held r = false
  avoidable : avoidable r.e = true
  live : s.pth.live = []
  placed : s.pth.placed = []
  reps : s.pth.reps = []

/-- In the fabric logic nothing waits for a change of the table. -/
structure State.FabIdle (s : State) : Prop where
  waitQ : s.fab.waitQ = []
  missed : s.fab.missed = []
  probes : s.fab.probes = []

theorem doElementFaultReport_excludes {s : State} {r : Report} {rest : List Report} (h : s.LoneFault r rest) (hf : s.FabIdle) (t : Nat) :
    NodeExcluded (nodeE r.e) rest s (doElementFaultReport t s) := by
  have hexcl := excluded_takeReport s t rest (nodeE r.e)
  have hfab : (((s.passTo t).takeReport rest).exclude (nodeE r.e)).fab = s.fab := passTo_fab s t
  have hpth : ((s.passTo t).takeReport rest).pth = { s.pth with reports := rest } := hexcl.pth
  have helem := elementFault_of_no_paths (by rw [hpth]; exact h.live) (by rw [hpth]; exact h.placed) (by rw [hpth]; exact h.reps)
    h.avoidable (r.t - r.bound * 1000)
  obtain ⟨hafter, hkafter⟩ := fabAfter_idle_pth (by rw [hexcl.pth]; exact h.placed) (by rw [hfab]; exact hf.missed)
    (by rw [hfab]; exact hf.probes) (by rw [hfab]; exact hf.waitQ)
  have hsched := schedEvent_keeps s (((s.passTo t).takeReport rest).exclude (nodeE r.e)).fabAfter
  rw [doElementFaultReport_eq h.reports h.held, helem]
  exact (hexcl.of_keeps hkafter hafter rfl rfl rfl).of_keeps hsched (hsched.frame .pth rfl) rfl rfl rfl

/-! ### Continuity (R180) -/

/-- An event bit of the path service is set, whatever edge it makes (R437). -/
theorem f_raise_PTH_EVT (s : State) {x : Fld} (hx : x.reg = .PTH_EVT) (hlen : x.len = 1 ∧ x.lo < 32) : (s.raise x []).f x [] = 1 := by
  have hraise : s.raise x [] = (s.setF x [] 1).icEdge 436 := by simp only [State.raise, hx, icOf]
  have hat : x.reg.at [] ∉ [Reg.IC_SRC.at [436]] := by rw [hx]; decide
  rw [hraise, f_of_otherRegs (.icEdge (.head _)) ((icEdge_keeps ..).stage rfl) hat, f_setF_same _ _ _ _ (by omega), hlen.1]
  rfl

/-- The oldest continuity condition is taken up, and its event bit is set (R180). -/
def State.takeDue (s : State) (dues : List (Nat × Nat)) : State :=
  { s with pth := { s.pth with contDue := dues } }.raise PTH_EVT.CONT_FAULT []

/-- A report joins those that wait. -/
def State.addReport (s : State) (r : Report) : State := { s with pth := { s.pth with reports := s.pth.reports ++ [r] } }

theorem doContinuityFault_eq {s : State} {d : Nat × Nat} {dues : List (Nat × Nat)} {rt : Route} (h : s.pth.contDue = d :: dues)
    (hlive : sget none s.pth.live (512 * s.runLayer + d.1) = some rt) (t : Nat) :
    ∃ r : Report, r.kind = 2 ∧ doContinuityFault t s = ((s.passTo t).takeDue dues).addReport r := by
  generalize hu : doContinuityFault t s = u
  unfold doContinuityFault at hu
  extract_lets s1 at hu
  split at hu
  · next hnone => simp [s1, h] at hnone
  · next d' dues' hdue =>
    obtain ⟨rfl, rfl⟩ : d = d' ∧ dues = dues' := by simpa [s1, h] using hdue
    extract_lets s2 at hu
    have hlive' : sget none s1.pth.live (512 * s1.runLayer + d.1) = some rt := by simpa [s1] using hlive
    split at hu
    · next hnone => exact absurd (hlive'.symm.trans hnone) nofun
    · exact ⟨_, rfl, hu.symm⟩

theorem takeDue_pth (s : State) (t : Nat) (dues : List (Nat × Nat)) :
    ((s.passTo t).takeDue dues).pth = { s.pth with contDue := dues } := by
  have hraise : ((s.passTo t).takeDue dues).pth = { (s.passTo t).pth with contDue := dues } := (raise_keeps ..).frame .pth rfl
  rw [hraise, passTo_pth]

theorem takeDue_lanes (s : State) (t : Nat) (dues : List (Nat × Nat)) : ((s.passTo t).takeDue dues).lanes = s.lanes :=
  ((raise_keeps ..).frame .lanes rfl).trans (passTo_lanes s t)

/-! ### Gain banks (R185) -/

theorem doBankRestore_locked {s : State} {e : Nat} (hmem : e ∈ s.pth.bank1) (hst : (s.lane e).st = .locked) :
    doBankRestore e s = { s.setF LANE_CFG.BANK [e / 256, e % 256] 0 with pth := { s.pth with bank1 := s.pth.bank1.erase e } } := by
  simp [doBankRestore, hst, State.bank0, hmem]

theorem exec_elementFaultReport (s : State) (t : Nat) : exec (.elementFaultReport t) s = .next (doElementFaultReport t s) := rfl

theorem exec_continuityFault (s : State) (t : Nat) : exec (.continuityFault t) s = .next (doContinuityFault t s) := rfl

theorem exec_bankRestore (s : State) (e : Fin 36864) : exec (.bankRestore e) s = .next (doBankRestore e s) := rfl

/-- Settles O35: a repair pattern that fires alone fires like any other, and each report and condition is taken by itself. -/
theorem repairsAndFaultReports : Obligations.RepairsAndFaultReports := by
  unfold Obligations.RepairsAndFaultReports
  refine ⟨fun s t p ht hsafe hp0 hcol hstore hroutes hnext hbusy hst hkind hlayer hdue => ?repair,
    fun s t e r rest d dues rt => ⟨fun hwait _ hmissed hprobes hreps hr hheld ha hlive hplaced => ?fault, fun hcont hlive => ?continuity,
      fun hmem hst => ?bank⟩⟩
  case repair =>
    have hfired : Fired p s (State.schedEvent s ((s.passTo t).fire t none [p])) :=
      fired_of_passTo ⟨by simpa using hroutes, by simpa using hnext, by simpa using hbusy⟩ hcol (by simp [hkind])
    refine .of_eq (exec_repairPatternFire s t) (doRepairFire_alone ⟨hp0, hcol, hstore⟩ ht hsafe hst
      (dueRepair_alone hstore hst hkind hlayer hdue)) ⟨fun l hl => ?_, hfired.others, hfired.lastPat, hfired.col⟩
    obtain ⟨m, hm, hme, hslot⟩ := hfired.named l hl
    exact ⟨m, hm, hme, hslot.symm⟩
  case fault =>
    have hdone := doElementFaultReport_excludes ⟨hr, hheld, ha, hlive, hplaced, hreps⟩ ⟨hwait, hmissed, hprobes⟩ t
    exact .of_eq (exec_elementFaultReport s t) rfl ⟨hdone.pth, hdone.bit, hdone.regs, hdone.lanes⟩
  case continuity =>
    obtain ⟨x, hx, heq⟩ := doContinuityFault_eq hcont hlive t
    refine .of_eq (exec_continuityFault s t) heq ⟨f_raise_PTH_EVT _ rfl (by decide), ⟨x, ?_, hx⟩, takeDue_lanes s t dues⟩
    simp only [State.addReport, takeDue_pth]
  case bank =>
    have hk := doBankRestore_keeps e s
    rw [doBankRestore_locked hmem hst] at hk
    exact .of_eq (exec_bankRestore s e) (doBankRestore_locked hmem hst)
      ⟨f_setF_same s LANE_CFG.BANK _ 0 (by decide), rfl, .setF (List.mem_singleton.2 rfl), hk.changesOnly rfl⟩

end Sys2Proof.Machine
end

section
/-! PROOF. A pattern that settles: its records and its transaction, as the collector hands its outcome over (R146, R155, R186). -/
namespace Sys2Proof.Machine

/-! ### What settles -/

/-- One change that places a path on route rt, which its in-port did not have. -/
structure Chg.Connects (c : Chg) (rt : Route) : Prop where
  new : c.new = some rt
  old : c.old ≠ some rt

/-- A transaction of the host of one request and one change has fired with a pattern, and is neither rolled back nor repaired, waits
for nothing, and is of this module alone. -/
structure Placed.Open (p : Placed) (pat : Nat) (r : Req) (c : Chg) : Prop where
  pat : p.pat = pat
  fired : p.fired = true
  rb : p.rb = false
  waits : p.waits = none
  rolled : p.rolled = false
  waitRep : p.waitRep = false
  repaired : p.repaired = false
  host : p.host = true
  seg : p.seg = none
  ptn : p.ptn = none
  reqs : p.txn.reqs = [r]
  chg : p.chg = [c]
  moved : p.moved = []

/-- Every cluster of a pattern has written its slot, and each lane has settled. -/
structure ColEnt.Heard (x : ColEnt) : Prop where
  wait : x.wait = []
  complete : x.res = .complete
  has : x.has = true

/-- In STATIC mode that pattern is the only one in flight, and its transaction the only one placed. -/
structure State.Settles (s : State) (x : ColEnt) (p : Placed) : Prop where
  static : s.yk.mode < 2
  col : s.col = [x]
  placed : s.pth.placed = [p]
  reps : s.pth.reps = []
  reports : s.pth.reports = []

/-- The valid time of a pattern that settled (R146). -/
def ColEnt.validT (x : ColEnt) : Word := wd (x.t0 + x.tl)

theorem effect_heard {x : ColEnt} (h : x.Heard) {e : Effect} (he : x.effect [] false = some e) :
    e.out.res = .complete ∧ e.out.vt = x.validT ∧ e.rep = false := by
  have hres : x.outc.res = .complete := h.complete
  obtain rfl : ⟨x.outc, [], false⟩ = e := by simpa [ColEnt.effect, hres] using he
  exact ⟨hres, by simp [ColEnt.outc, h.complete, h.has, ColEnt.validT], rfl⟩

/-! ### Turns of the one placed transaction -/

section
variable {s : State} {p : Placed} (hp : s.pth.placed = [p])
include hp

theorem txn?_alone : s.txn? p.id = some p := by simp [State.txn?, hp]

theorem eachTxn_alone {sel : Placed → Bool} (hsel : sel p = true) (k : State → Placed → State) : s.eachTxn sel k = k s p := by
  simp [State.eachTxn, hp, hsel, txn?_alone hp]

theorem upTo_alone : s.upTo p.id = 1 := by simp [State.upTo, hp]

theorem modTxn_alone (f : Placed → Placed) : (s.modTxn p.id f).pth = { s.pth with placed := [f p] } := by
  simp [State.modTxn, hp]

/-- Behind the one placed transaction stands the record shown (R155). -/
theorem recWrite_alone (key : Nat) (f : PathRec → PathRec) : s.recWrite (s.upTo p.id) key f = s.setRec key (f (s.pathRec key)) := by
  have hsame : { s with pth := { s.pth with placed := [p] } } = s := by rw [← hp]
  simp [State.recWrite, upTo_alone hp, hp, State.recBefore, recWalk, hsame]

end

/-- A transaction that fired with a pattern has its turn when the pattern resolves (R186). -/
theorem eachOf_alone {s : State} {p : Placed} {pat : Nat} {r : Req} {c : Chg} (hp : s.pth.placed = [p]) (ho : p.Open pat r c)
    (k : State → Placed → State) : s.eachOf pat k = k s p :=
  eachTxn_alone hp (by simp [ho.pat, ho.fired, ho.waits, ho.rolled, ho.waitRep]) k

theorem eachTxn_of_none_placed {s : State} (h : s.pth.placed = []) (sel : Placed → Bool) (k : State → Placed → State) :
    s.eachTxn sel k = s := by simp [State.eachTxn, h]

/-! ### The records (R155) -/

/-- The record of a path that was placed, once its pattern has resolved. -/
def PathRec.settled (rc : PathRec) (rt : Route) (vt : Word) : PathRec :=
  { rc with st := .active, out := rt.out, mid := rt.mid, validT := vt }

/-- A record stored, and the verifier of an in-port perhaps started: all else of the path service is kept. -/
structure RecordPut (key : Nat) (rc : PathRec) (s u : State) : Prop where
  pth : ∃ tags cont, u.pth = { s.pth with conn := sset s.pth.conn key rc, tags := tags, cont := cont }
  keeps : Keeps 0x200 s u

theorem applyRec_put {s : State} {p : Placed} {c : Chg} {rt : Route} (hp : s.pth.placed = [p]) (hc : c.Connects rt) (hm : p.moved = [])
    (hlive : sget none s.pth.live c.key = some rt) (hst : (s.pathRec c.key).st = .pending) (t0 : Nat) (vt : Word) :
    RecordPut c.key ((s.pathRec c.key).settled rt vt) s (State.applyRec t0 vt p s c) := by
  refine ⟨?_, applyRec_keeps ..⟩
  unfold State.applyRec
  simp only [hc.new, if_neg hc.old, hlive, if_true, recWrite_alone hp, hst, hm]
  split
  · exact ⟨_, _, rfl⟩
  · exact ⟨_, _, rfl⟩

theorem txnRecs_put {s : State} {p : Placed} {c : Chg} {r : Req} {rt : Route} {pat : Nat} {e : Effect} (hp : s.pth.placed = [p])
    (ho : p.Open pat r c) (hc : c.Connects rt) (he : e.out.res = .complete) (hlive : sget none s.pth.live c.key = some rt)
    (hst : (s.pathRec c.key).st = .pending) :
    RecordPut c.key ((s.pathRec c.key).settled rt e.out.vt) s (State.txnRecs e s p) := by
  have heq : State.txnRecs e s p = State.applyRec e.out.t0 e.out.vt p s c := by
    simp [State.txnRecs, ho.rolled, he, State.applyRecs, ho.chg]
  rw [heq]
  exact applyRec_put hp hc ho.moved hlive hst ..

/-! ### The entry of the pattern, and the collector (R146, R204) -/

theorem retire_static {s : State} (h : s.yk.mode < 2) (n : Nat) : s.retire n = s.freePat n := by
  unfold State.retire
  split
  · next hnone =>
    have hkept : (s.yk.store.filter fun p => p.num ≠ n) = s.yk.store := List.filter_eq_self.2 fun q hq => by
      simpa using List.find?_eq_none.1 hnone q hq
    rw [State.freePat, hkept]
  · simp [h]

theorem closeCol_alone {s : State} {x : ColEnt} (h : s.col = [x]) (ef : Option Effect) : (s.closeCol x ef).col = [] := by
  simp [State.closeCol, h]

/-! ### The end of the transaction (R186, R248) -/

/-- The completion of the one request of a transaction that ends APPLIED carries the pattern and the valid time. -/
structure Comp.Applied (d : Comp) (pat : Nat) (vt : Word) : Prop where
  status : d.status = 0
  pattern : d.pattern = pat
  validT : d.validT = vt
  txnEnd : d.txnEnd = true

/-- A completion filled in, and nothing else of the host interface changed. -/
def fillSlot (id : Nat) (d : Comp) (q : CompSlot) : CompSlot := if q.id = id then { q with comp := some d } else q

theorem completeTxn_one {x : Txn} {r : Req} (hx : x.reqs = [r]) (s : State) (v : Verdict) (old : Nat → Nat → Nat) (mid : Nat → Nat) :
    ∃ d : Comp, s.completeTxn x v old mid = s.fillComp r.id d ∧ d.status = v.status ∧ d.pattern = v.pattern
      ∧ d.validT = (if v.status = stApplied then v.validT else 0) ∧ d.txnEnd = true := by
  unfold State.completeTxn
  simp only [hx]
  exact ⟨_, rfl, rfl, rfl, rfl, rfl⟩

/-- A transaction has left with its completion d for request `id`: besides, only references of links may have been taken anew. -/
structure TxnEnded (id : Nat) (d : Comp) (s u : State) : Prop where
  pth : u.pth = { s.pth with placed := [] }
  compq : u.hif.compq = s.hif.compq.map (fillSlot id d)
  probes : u.fab.probes = s.fab.probes
  missed : u.fab.missed = s.fab.missed
  keeps : Keeps 0x2a00 s u

theorem refLinks_fab (s : State) (l : List Nat) : (s.refLinks l).fab.probes = s.fab.probes ∧ (s.refLinks l).fab.missed = s.fab.missed :=
  foldl_keeps (fun u : State => u.fab.probes = s.fab.probes ∧ u.fab.missed = s.fab.missed) ⟨rfl, rfl⟩ fun u _ h => by
    split
    · exact h
    · exact h

theorem finish_applied {s : State} {p : Placed} {pat : Nat} {r : Req} {c : Chg} (hp : s.pth.placed = [p]) (ho : p.Open pat r c) :
    ∃ d : Comp, d.Applied pat p.validT ∧ TxnEnded r.id d s (s.finish p stApplied) := by
  unfold State.finish
  extract_lets s1 ok v s2 s3 s4
  obtain ⟨d, hd, hstatus, hpattern, hvalid, hend⟩ := completeTxn_one ho.reqs s1 v (s.oldOut p) (s.midAfter p)
  have h2 : s2 = s1.fillComp r.id d := by simp [s2, ho.host, ho.rb, ← hd]
  have h3 : s3 = s2 := by simp [s3, State.pairDone, ho.ptn, Placed.isSnap, ho.host]
  have hdone : ∀ o, s4.segDone p o = s4 := fun o => by simp [State.segDone, ho.seg]
  obtain ⟨hprobes, hmissed⟩ := refLinks_fab s3 ((p.chg.filter fun c => c.new.isSome).map fun c => c.key % 512)
  have h4 : s4 = s3.refLinks ((p.chg.filter fun c => c.new.isSome).map fun c => c.key % 512) := rfl
  have hlinks := refLinks_keeps s3 ((p.chg.filter fun c => c.new.isSome).map fun c => c.key % 512)
  rw [← h4, h3, h2] at hprobes hmissed hlinks
  rw [hdone]
  refine ⟨d, ⟨hstatus, hpattern.trans ho.pat, hvalid, hend⟩, ?_, congrArg Hif.compq (hlinks.frame .hif rfl), hprobes, hmissed, ?_⟩
  · have hpth : s4.pth = s1.pth := hlinks.frame .pth rfl
    rw [hpth]
    simp [s1, State.dropPlaced, hp]
  · exact (dropPlaced_keeps s p).trans ((fillComp_keeps ..).trans hlinks)

/-- Marked with the outcome of its pattern, a transaction is as open as before. -/
def Placed.decided (p : Placed) (e : Effect) : Placed := { p with validT := e.out.vt, unobs := p.unobs || e.out.unobs, waits := none }

theorem outcomeTxn_open {s : State} {p : Placed} {pat : Nat} {r : Req} {c : Chg} {e : Effect} (hp : s.pth.placed = [p])
    (ho : p.Open pat r c) (hres : e.out.res = .complete) (hrep : e.rep = false) :
    ∃ d : Comp, d.Applied pat e.out.vt ∧ TxnEnded r.id d s (State.outcomeTxn e s p) := by
  have hpth := modTxn_alone hp fun q => q.decided e
  have hplaced : (s.modTxn p.id fun q => q.decided e).pth.placed = [p.decided e] := by rw [hpth]
  have hopen : (p.decided e).Open pat r c := { ho with waits := rfl }
  have htxn : (s.modTxn p.id fun q => q.decided e).txn? p.id = some (p.decided e) := txn?_alone (p := p.decided e) hplaced
  have heq : State.outcomeTxn e s p = (s.modTxn p.id fun q => q.decided e).finish (p.decided e) stApplied := by
    unfold State.outcomeTxn
    extract_lets s1
    have hs1 : s1 = s.modTxn p.id fun q => q.decided e := rfl
    rw [hs1, htxn]
    simp [hopen.rolled, hopen.rb, hres, hrep, hopen.repaired]
  obtain ⟨d, hd, hend⟩ := finish_applied hplaced hopen
  refine ⟨d, hd, heq ▸ ⟨?_, hend.compq, hend.probes, hend.missed, (modTxn_keeps ..).trans hend.keeps⟩⟩
  rw [hend.pth, hpth]

/-! ### The resolution of the pattern (R146) -/

/-- What the resolution of a pattern that settled leaves before it comes to the fabric: collector and entry free, the record of the
path, no transaction, its completion. -/
structure Resolved (x : ColEnt) (key : Nat) (rc : PathRec) (id : Nat) (d : Comp) (s u : State) : Prop where
  col : u.col = []
  store : u.yk.store = s.yk.store.filter fun q => q.num ≠ x.pat
  pth : ∃ tags cont, u.pth = { s.pth with conn := sset s.pth.conn key rc, tags := tags, cont := cont, placed := [] }
  compq : u.hif.compq = s.hif.compq.map (fillSlot id d)
  probes : u.fab.probes = s.fab.probes
  missed : u.fab.missed = s.fab.missed
  keeps : Keeps 0x2b40 s u

theorem stageWaiting_of_none {s : State} (hp : s.pth.placed = []) (hr : s.pth.reps = []) : s.stageWaiting = s := by
  simp [State.stageWaiting, eachTxn_of_none_placed hp, hr]

/-- The collector forgets the pattern of x, and its entry is FREE (R146, R204). -/
def State.uncollect (s : State) (x : ColEnt) (e : Effect) : State := (s.closeCol x (some e)).freePat x.pat

/-- The records of a transaction, then its end, once its pattern has gone with effect e (R155, R186). -/
def State.settle (s : State) (x : ColEnt) (e : Effect) (p : Placed) : State :=
  State.outcomeTxn e (State.txnRecs e (s.uncollect x e) p) p

section
variable {s : State} {x : ColEnt} {p : Placed} {r : Req} {c : Chg} {rt : Route} {e : Effect} (h : s.Settles x p) (hx : x.Heard)
  (ho : p.Open x.pat r c) (hc : c.Connects rt) (hlive : sget none s.pth.live c.key = some rt) (hst : (s.pathRec c.key).st = .pending)
  (he : x.effect [] false = some e)
include h hx ho hc hlive hst he

omit hx he in
theorem recorded_put (hres : e.out.res = .complete) :
    RecordPut c.key ((s.pathRec c.key).settled rt e.out.vt) (s.uncollect x e) (State.txnRecs e (s.uncollect x e) p) :=
  txnRecs_put (s := s.uncollect x e) h.placed ho hc hres hlive hst

omit hx he in
theorem recorded_placed (hres : e.out.res = .complete) : (State.txnRecs e (s.uncollect x e) p).pth.placed = [p] := by
  obtain ⟨⟨tags, cont, hput⟩, -⟩ := recorded_put h ho hc hlive hst hres
  rw [hput]
  exact h.placed

theorem settle_resolved : ∃ d : Comp, d.Applied x.pat x.validT
    ∧ Resolved x c.key ((s.pathRec c.key).settled rt x.validT) r.id d s (s.settle x e p) := by
  obtain ⟨hres, hvt, hrep⟩ := effect_heard hx he
  have hfree : Keeps 0x140 s (s.uncollect x e) := (closeCol_keeps ..).trans (freePat_keeps ..)
  have hcol : (s.uncollect x e).col = [] := closeCol_alone h.col (some e)
  obtain ⟨⟨tags, cont, hput⟩, hkput⟩ := recorded_put h ho hc hlive hst hres
  obtain ⟨d, hd, hend⟩ := outcomeTxn_open (recorded_placed h ho hc hlive hst hres) ho hres hrep
  have hfab : (State.txnRecs e (s.uncollect x e) p).fab = s.fab := hkput.frame .fab rfl
  have hhif : (State.txnRecs e (s.uncollect x e) p).hif = s.hif := hkput.frame .hif rfl
  have hk : Keeps 0x2a00 (s.uncollect x e) (s.settle x e p) := hkput.trans hend.keeps
  refine ⟨d, hvt ▸ hd, (hk.frame .col rfl).trans hcol, congrArg Yk.store (hk.frame .yk rfl), ⟨tags, cont, ?_⟩,
    hend.compq.trans (by rw [hhif]), hend.probes.trans (by rw [hfab]), hend.missed.trans (by rw [hfab]), hfree.trans hk⟩
  rw [← hvt]
  exact hend.pth.trans (by rw [hput]; rfl)

theorem resolve_eq : s.resolve x = (s.settle x e p).fabAfter.icEdge 437 := by
  have hsame : { s with pth := { s.pth with reports := [] } } = s := by rw [← h.reports]
  obtain ⟨d, -, hdone⟩ := settle_resolved h hx ho hc hlive hst he
  obtain ⟨tags, cont, hpth⟩ := hdone.pth
  unfold State.resolve
  extract_lets mine failed bad reps ef reports _ s1 s2 s3 s4 s5
  have hfailed : failed = false := by simp [failed, hx.complete]
  have hbad : bad = [] := by simp [bad, hfailed]
  have hreps : reps = [] := by simp [reps, h.reps]
  have hreports : reports = [] := by simp [reports, hfailed, h.reports]
  have hef : ef = some e := by simp only [ef, hbad, hreps]; exact he
  have h1 : s1 = s.uncollect x e := by
    simp only [s1, hef, hreports]
    rw [hsame]
    exact retire_static (s := s.closeCol x (some e)) h.static x.pat
  have h2 : s2 = State.txnRecs e (s.uncollect x e) p := by
    simp only [s2, hef, h1]
    exact eachOf_alone (s := s.uncollect x e) h.placed ho _
  have h4 : s4 = s2 := by simp only [s4, s3, hbad, hreps, List.foldl_nil]
  have h5 : s5 = s.settle x e p := by
    simp only [s5, hef, h4, h2]
    exact eachOf_alone (recorded_placed h ho hc hlive hst (effect_heard hx he).1) ho _
  rw [h5, stageWaiting_of_none (by rw [hpth]) (by rw [hpth]; exact h.reps)]

end

end Sys2Proof.Machine
end

section
/-! PROOF. The end of a pattern that settles, where no probe segment is left, and the refutation of the statement on it (O34). -/
namespace Sys2Proof.Machine

/-! ### The command (R146) -/

theorem effect_of_heard {x : ColEnt} (h : x.Heard) : ∃ e, x.effect [] false = some e := by
  have hres : x.outc.res = .complete := h.complete
  exact ⟨⟨x.outc, [], false⟩, by simp [ColEnt.effect, hres]⟩

theorem exec_collectorResolve (s : State) (pat : Fin 1024) (t : Nat) :
    exec (.collectorResolve pat t) s = .next (doCollectorResolve pat t s) := rfl

theorem State.Settles.passTo {s : State} {x : ColEnt} {p : Placed} (h : s.Settles x p) (t : Nat) : (s.passTo t).Settles x p :=
  ⟨by simpa using h.static, by simpa using h.col, by simpa using h.placed, by simpa using h.reps, by simpa using h.reports⟩

/-- A pattern that settled resolves: up to what follows a change of the table, the command does what `Resolved` says. -/
theorem doCollectorResolve_settles {s : State} {x : ColEnt} {p : Placed} {r : Req} {c : Chg} {rt : Route} (h : s.Settles x p)
    (hx : x.Heard) (ho : p.Open x.pat r c) (hc : c.Connects rt) (hlive : sget none s.pth.live c.key = some rt)
    (hst : (s.pathRec c.key).st = .pending) (t : Nat) :
    ∃ (d : Comp) (w : State), d.Applied x.pat x.validT
      ∧ Resolved x c.key ((s.pathRec c.key).settled rt x.validT) r.id d (s.passTo t) w
      ∧ doCollectorResolve x.pat t s = State.schedEvent s (w.fabAfter.icEdge 437) := by
  obtain ⟨e, he⟩ := effect_of_heard hx
  have hlive' : sget none (s.passTo t).pth.live c.key = some rt := by rw [passTo_pth, hlive]
  have hst' : ((s.passTo t).pathRec c.key).st = .pending := by rw [passTo_pathRec, hst]
  obtain ⟨d, hd, hdone⟩ := settle_resolved (h.passTo t) hx ho hc hlive' hst' he
  refine ⟨d, _, hd, by simpa using hdone, ?_⟩
  have hfind : (s.passTo t).col.find? (fun y => y.pat == x.pat) = some x := by simp [h.col]
  simp only [doCollectorResolve, hfind, hx.wait, List.isEmpty_nil, if_true,
    resolve_eq (h.passTo t) hx ho hc hlive' hst' he]

/-! ### With no probe segment left (R375) -/

theorem schedEvent_compq (o s : State) : (State.schedEvent o s).hif.compq = s.hif.compq := by
  unfold State.schedEvent
  extract_lets new
  split
  · have hlog : (s.logEvent 0x31 0 [new]).hif = s.hif := (logEvent_keeps ..).frame .hif rfl
    unfold State.post State.postRaw
    split <;> rw [← hlog]
  · rfl

/-- A pattern is through: collector and entry are free, its path has its record, its transaction has left with its completion, and
the lanes are kept. -/
structure PatternDone (x : ColEnt) (key : Nat) (rc : PathRec) (id : Nat) (d : Comp) (s u : State) : Prop where
  col : u.col = []
  placed : u.pth.placed = []
  store : ∀ q ∈ u.yk.store, q.num ≠ x.pat
  record : u.pathRec key = rc
  lanes : u.lanes = s.lanes
  compq : u.hif.compq = s.hif.compq.map (fillSlot id d)

theorem patternDone_of_no_probes {s w : State} {x : ColEnt} {key : Nat} {rc : PathRec} {id t : Nat} {d : Comp}
    (h : Resolved x key rc id d (s.passTo t) w) (hm : s.fab.missed = []) (hp : s.fab.probes = []) :
    PatternDone x key rc id d s (State.schedEvent s (w.fabAfter.icEdge 437)) := by
  obtain ⟨tags, cont, hpth⟩ := h.pth
  have hplaced : w.pth.placed = [] := by rw [hpth]
  have hlost : ∀ p ∈ w.pth.placed, p.lost = false := by simp [hplaced]
  obtain ⟨⟨del, hafter⟩, hka⟩ := fabAfter_quiet_pth hlost (h.missed.trans (by rw [passTo_fab, hm]))
    (h.probes.trans (by rw [passTo_fab, hp]))
  have hke : Keeps 0x102004 w.fabAfter (State.schedEvent s (w.fabAfter.icEdge 437)) := (icEdge_keeps ..).trans (schedEvent_keeps ..)
  have hk : Keeps 0x102a04 w (State.schedEvent s (w.fabAfter.icEdge 437)) := hka.trans hke
  have hp' : (State.schedEvent s (w.fabAfter.icEdge 437)).pth = w.fabAfter.pth := hke.frame .pth rfl
  have hhif : (w.fabAfter.icEdge 437).hif = w.hif := (hka.trans (icEdge_keeps ..)).frame .hif rfl
  refine ⟨(hk.frame .col rfl).trans h.col, ?_, fun q hq => ?_, ?_, ?_, ?_⟩
  · rw [hp', hafter, hplaced]
  · rw [show (State.schedEvent s (w.fabAfter.icEdge 437)).yk = w.yk from hk.frame .yk rfl, h.store] at hq
    simpa using (List.mem_filter.1 hq).2
  · rw [State.pathRec, hp', hafter, hpth, sget_sset_same]
  · exact ((hk.frame .lanes rfl).trans (h.keeps.frame .lanes rfl)).trans (passTo_lanes s t)
  · rw [schedEvent_compq, hhif, h.compq, passTo_hif]

/-- The pattern of a CONNECT-like change completes its transaction, where no probe segment and no missed loss is left. -/
theorem doCollectorResolve_patternDone {s : State} {x : ColEnt} {p : Placed} {r : Req} {c : Chg} {rt : Route} (h : s.Settles x p)
    (hx : x.Heard) (ho : p.Open x.pat r c) (hc : c.Connects rt) (hlive : sget none s.pth.live c.key = some rt)
    (hst : (s.pathRec c.key).st = .pending) (hm : s.fab.missed = []) (hp : s.fab.probes = []) (t : Nat) :
    ∃ d : Comp, d.Applied x.pat x.validT
      ∧ PatternDone x c.key ((s.pathRec c.key).settled rt x.validT) r.id d s (doCollectorResolve x.pat t s) := by
  obtain ⟨d, w, hd, hw, heq⟩ := doCollectorResolve_settles h hx ho hc hlive hst t
  exact ⟨d, hd, heq ▸ patternDone_of_no_probes hw hm hp⟩

/-! ### With a probe segment left -/

theorem newPat_of_empty_store {s : State} (h : s.yk.store = []) (kind : PatKind) (st : PatSt) (lanes : List LaneSet) (due lead : Nat)
    (timed : Bool) (layer : Nat) : ∃ (n : Nat) (q : PatEnt) (u : State), s.newPat kind st lanes due lead timed layer = some (n, u)
      ∧ u.yk.store = [q] ∧ q.num = Config.freePick s.freeN % 1024 := by
  have hfree : s.freeNums = List.range 1024 := by simp [State.freeNums, h]
  have hlt : Config.freePick s.freeN % 1024 < 1024 := Nat.mod_lt _ (by decide)
  unfold State.newPat
  extract_lets l f n y
  have hl : l = List.range 1024 := hfree
  have hnum : n = Config.freePick s.freeN % 1024 := by
    change l.getD (Config.freePick s.freeN % l.length) 0 = _
    rw [hl, List.length_range, List.getD_eq_getElem?_getD, List.getElem?_range hlt, Option.getD_some]
  have hstore : y.store = [] := h
  rw [if_neg (by rw [hl, List.isEmpty_iff, List.range_eq_nil]; decide)]
  clear_value n
  exact ⟨n, _, _, rfl, by rw [hstore, List.nil_append], hnum⟩

/-- A probe segment whose in-port has a path and whose out-port has none gives way in a pattern of its own (R375). -/
theorem yieldProbes_takes_entry {s : State} {x : Nat × Nat} (hstore : s.yk.store = []) (hsafe : s.flt.safe = false)
    (hp : s.fab.probes = [x]) (hin : s.inTaken x.1 = true) (hout : s.outTaken x.2 = none) :
    ∃ q ∈ s.yieldProbes.yk.store, q.num = Config.freePick s.freeN % 1024 := by
  unfold State.yieldProbes State.dropProbes
  extract_lets gone ins _ s1 lanes
  have hgone : gone = [x] := by simp [gone, hp, hin]
  have hins : ins = [] := by simp [ins, hgone, hin]
  have hs1 : s1.yk.store = [] ∧ s1.flt.safe = false ∧ s1.freeN = s.freeN := by
    simp only [s1, hins, List.foldl_nil]
    exact ⟨hstore, hsafe, rfl⟩
  have hlanes : lanes.isEmpty = false := by simp [lanes, hins, hgone, hout, closeOut]
  obtain ⟨n, q, u, hnew, hu, hq⟩ := newPat_of_empty_store hs1.1 .probe .staged lanes (s1.boundary (s1.clr.now + s1.leadNs)) s1.leadNs
    false 0
  rw [if_neg (by simp [hgone]), if_neg (by simp [hlanes, hs1.2.1]), hnew]
  exact ⟨q, by simp [hu], hq.trans (by rw [hs1.2.2])⟩

/-- With nothing placed and no loss missed, what follows a change of the table ends with the probe segments that give way. -/
theorem fabAfter_of_none_placed {s : State} (hp : s.pth.placed = []) (hm : s.fab.missed = []) :
    s.fabAfter = s.wakeWaiting.lateRelease.yieldProbes := by
  have hsweep : s.sweepLost = s := by simp [State.sweepLost, hp]
  have hmissed : s.wakeWaiting.lateRelease.fab.missed = [] := foldl_keeps (fun u : State => u.fab.missed = []) hm fun _ _ h => h
  rw [State.fabAfter, hsweep, State.missedLoss, hmissed]
  rfl

theorem mapIn_of_one_route {k a b : Nat} {rt : Route} (h : rt.out ≠ b) : mapIn [(k, some rt)] a b = none := by
  refine List.find?_eq_none.2 fun i _ => ?_
  by_cases hk : k = 512 * a + i
  · simpa [sget, hk] using h
  · simp [sget, hk]

theorem lateRelease_probes (s : State) : s.lateRelease.fab.probes = s.fab.probes :=
  foldl_keeps (fun u : State => u.fab.probes = s.fab.probes) rfl fun _ _ h => h

/-! ### The counterexample -/

/-- A CONNECT of in-port 3 to out-port 5 (R156). -/
def firedReq : Req := { op := 1, reqId := 0x11, a := 3, b := 5, layer := 0, sel := false, cmdCI := 1, id := 1, dst := 0 }

/-- It has fired as pattern n. -/
def firedConnect (n : Nat) : Placed :=
  { Placed.new 0 (Txn.own [firedReq] 0)
      [⟨3, none, some ⟨5, 0⟩, PathRec.idle⟩] [] false with
    pat := n, staged := true, fired := true, host := true }

/-- Pattern n, fired at 1 µs, has heard every cluster; each lane had settled by 1.5 µs. -/
def heardEnt (n : Nat) : ColEnt := ⟨n, 1000, [], true, .complete, 0, 0, 500, true, none, none⟩

/-- A module alone in which pattern n has heard every cluster, and the fabric logic still holds a probe segment of the path's in-port
to out-port 7. -/
def probeLeft (n : Nat) : State :=
  { State.reset with
    sys := { State.reset.sys with por := false, stage := 15, pcie := true, readySince := true }
    col := [heardEnt n]
    pth := { State.reset.pth with
      conn := [(3, { PathRec.idle with st := .pending, out := 5 })], live := [(3, some ⟨5, 0⟩)], plan := [(3, some ⟨5, 0⟩)]
      placed := [firedConnect n], nextId := 1 }
    fab := { Fab.reset with probes := [(3, 7)] } }

theorem probeLeft_settles (n : Nat) : (probeLeft n).Settles (heardEnt n) (firedConnect n) := ⟨Nat.zero_lt_two, rfl, rfl, rfl, rfl⟩

theorem heardEnt_heard (n : Nat) : (heardEnt n).Heard := ⟨rfl, rfl, rfl⟩

theorem firedConnect_open (n : Nat) : (firedConnect n).Open n firedReq ⟨3, none, some ⟨5, 0⟩, PathRec.idle⟩ :=
  ⟨rfl, rfl, rfl, rfl, rfl, rfl, rfl, rfl, rfl, rfl, rfl, rfl, rfl⟩

/-- The pattern in which the probe segment gives way takes an entry that a free value picks: it can be the one of the pattern that
has just resolved. -/
theorem probeLeft_takes_entry (n : Nat) (t : Nat) :
    ∃ q ∈ (doCollectorResolve n t (probeLeft n)).yk.store, q.num = Config.freePick 0 % 1024 := by
  obtain ⟨d, w, -, hw, heq⟩ := doCollectorResolve_settles (rt := ⟨5, 0⟩) (probeLeft_settles n) (heardEnt_heard n)
    (firedConnect_open n) ⟨rfl, nofun⟩ rfl rfl t
  obtain ⟨tags, cont, hpth⟩ := hw.pth
  have hwait : Keeps 0xa00 w w.wakeWaiting.lateRelease := (wakeWaiting_keeps w).trans (lateRelease_keeps _)
  have hk : Keeps 0x2bc0 (probeLeft n) w.wakeWaiting.lateRelease := ((passTo_keeps (probeLeft n) t).trans hw.keeps).trans hwait
  have hstore : w.wakeWaiting.lateRelease.yk.store = [] := by
    rw [show w.wakeWaiting.lateRelease.yk = w.yk from hwait.frame .yk rfl, hw.store, passTo_yk]
    rfl
  have hplan : w.wakeWaiting.lateRelease.pth.plan = [(3, some ⟨5, 0⟩)] := by
    rw [show w.wakeWaiting.lateRelease.pth = w.wakeWaiting.pth from (lateRelease_keeps _).frame .pth rfl]
    change w.pth.plan = _
    rw [hpth, passTo_pth]
    rfl
  have hprobes : w.wakeWaiting.lateRelease.fab.probes = [(3, 7)] := (lateRelease_probes _).trans (by
    change w.fab.probes = _
    rw [hw.probes, passTo_fab]
    rfl)
  have hin : w.wakeWaiting.lateRelease.inTaken 3 = true := by rw [State.inTaken, hplan]; rfl
  have hout : w.wakeWaiting.lateRelease.outTaken 7 = none := by rw [State.outTaken, hplan, mapIn_of_one_route (by decide)]
  have hsafe : w.wakeWaiting.lateRelease.flt.safe = false := congrArg Flt.safe (hk.frame .flt rfl)
  have hfree : w.wakeWaiting.lateRelease.freeN = 0 := hk.frame .freeN rfl
  have hafter : w.fabAfter = w.wakeWaiting.lateRelease.yieldProbes :=
    fabAfter_of_none_placed (by rw [hpth]) (hw.missed.trans (by rw [passTo_fab]; rfl))
  have hyk : (State.schedEvent (probeLeft n) (w.fabAfter.icEdge 437)).yk = w.fabAfter.yk :=
    ((icEdge_keeps ..).trans (schedEvent_keeps ..)).frame .yk rfl
  change ∃ q ∈ (doCollectorResolve (heardEnt n).pat t (probeLeft n)).yk.store, _
  rw [heq, hyk, hafter, ← hfree]
  exact yieldProbes_takes_entry hstore hsafe hprobes hin hout

/-- Refutes O34: the fabric logic of a module alone may still hold a probe segment of the in-port. It gives way in a pattern of its
own, and that pattern can take the very entry that the resolution has just freed. With no probe segment and no missed loss left, the
statement's clauses hold (`doCollectorResolve_patternDone`). -/
theorem not_patternResolves : ¬ Obligations.PatternResolves := by
  unfold Obligations.PatternResolves
  intro h
  let n : Fin 1024 := ⟨Config.freePick 0 % 1024, Nat.mod_lt _ (by decide)⟩
  obtain ⟨u, hu, -, -, hstore, -⟩ := h (probeLeft n) 0 n (heardEnt n) (firedConnect n) firedReq 3 none ⟨5, 0⟩ PathRec.idle
    rfl rfl Nat.zero_lt_two rfl rfl rfl rfl rfl rfl rfl rfl rfl rfl rfl rfl rfl rfl rfl rfl rfl rfl rfl rfl nofun rfl rfl rfl
  obtain ⟨q, hq, hnum⟩ := probeLeft_takes_entry n 0
  obtain rfl : doCollectorResolve n 0 (probeLeft n) = u := Host.Outcome.next.inj ((exec_collectorResolve ..).symm.trans hu)
  exact hstore q hq hnum

end Sys2Proof.Machine
end

section
/-! PROOF. What the commands of the path service share: the transaction in front, and the completions that a transaction fills in. -/
namespace Sys2Proof.Machine

/-! ### The transaction in front (R158) -/

/-- A transaction of one request is the oldest delivered one, and its turn has come: none is under check, and none is between its
placement and the end of its staging. -/
structure State.Fronts (s : State) (x : Txn) (rest : List Txn) (r : Req) : Prop where
  cur : s.pth.cur = none
  free : s.placeFree = true
  delivered : s.pth.delivered = x :: rest
  reqs : x.reqs = [r]

/-- The path service with the transaction in front taken out. -/
def State.takeFront (s : State) (rest : List Txn) : State := { s with pth := { s.pth with delivered := rest } }

theorem takeFront_keeps (s : State) (rest : List Txn) : Keeps 0x200 s (s.takeFront rest) := Keeps.upd .refl

section
variable {s : State} {x : Txn} {rest : List Txn} {r : Req}

theorem frontReq_of_fronts (h : s.Fronts x rest r) (hop : r.op ≤ 4) : frontReq s.pth.delivered = some (x, rest) := by
  have hmgmt : x.mgmt = false := by
    simp only [Txn.mgmt, h.reqs, List.any_cons, List.any_nil, Bool.or_false, isMgmt, Bool.and_eq_false_iff, decide_eq_false_iff_not]
    omega
  simp [frontReq, h.delivered, hmgmt]

theorem takeOp_front (h : s.Fronts x rest r) (hop : r.op ≤ 4) : s.takeOp r.op = some (x, r, s.takeFront rest) := by
  simp [State.takeOp, h.cur, h.free, frontReq_of_fronts h hop, h.reqs, State.takeFront]

theorem takeCur_front (h : s.Fronts x rest r) (hop : r.op ≤ 4) : s.takeCur = some (⟨x, 0, none⟩, s.takeFront rest) := by
  simp [State.takeCur, h.cur, frontReq_of_fronts h hop, State.takeFront]

theorem request_front (h : s.Fronts x rest r) (hop : r.op ≤ 4) :
    s.request r.op = (s.takeFront rest).checked ⟨x, 0, none⟩ ((s.takeFront rest).checkReq x 0 r) := by
  simp [State.request, h.free, takeCur_front h hop, h.reqs]

theorem State.Fronts.passTo (h : s.Fronts x rest r) (t : Nat) : (s.passTo t).Fronts x rest r :=
  ⟨by rw [passTo_pth, h.cur], (passTo_congr s t (·.placeFree) fun _ => rfl).trans h.free, by rw [passTo_pth, h.delivered], h.reqs⟩

end

/-! ### Completions of a transaction (R242, R248) -/

theorem mem_fillSlot_same {id : Nat} {q : CompSlot} {l : List CompSlot} (d : Comp) (hq : q ∈ l) (hid : q.id = id) :
    { q with comp := some d } ∈ l.map (fillSlot id d) :=
  List.mem_map.2 ⟨q, hq, if_pos hid⟩

theorem mem_fillSlot_ne {id : Nat} {q : CompSlot} {l : List CompSlot} (d : Comp) (hq : q ∈ l) (hid : q.id ≠ id) :
    q ∈ l.map (fillSlot id d) :=
  List.mem_map.2 ⟨q, hq, if_neg hid⟩

section
variable {f : State → Req × Nat → Comp}

/-- The slots of other requests are kept. -/
theorem foldl_fillComp_others {l : List (Req × Nat)} {q : CompSlot} (hid : q.id ∉ l.map (·.1.id)) {s : State} (hq : q ∈ s.hif.compq) :
    q ∈ (l.foldl (fun u p => u.fillComp p.1.id (f u p)) s).hif.compq := by
  induction l generalizing s with
  | nil => exact hq
  | cons p l ih =>
    obtain ⟨hne, htail⟩ := List.ne_and_not_mem_of_not_mem_cons hid
    exact ih htail (mem_fillSlot_ne _ hq hne)

/-- The slot of each request takes the completion of its own turn. -/
theorem foldl_fillComp_own {P : Req × Nat → Comp → Prop} (hf : ∀ u p, P p (f u p)) {l : List (Req × Nat)}
    (hnd : (l.map (·.1.id)).Nodup) {p : Req × Nat} (hp : p ∈ l) {q : CompSlot} (hid : q.id = p.1.id) {s : State}
    (hq : q ∈ s.hif.compq) :
    ∃ d, { q with comp := some d } ∈ (l.foldl (fun u p => u.fillComp p.1.id (f u p)) s).hif.compq ∧ P p d := by
  induction l generalizing s with
  | nil => cases hp
  | cons y l ih =>
    obtain ⟨hy, hnd⟩ := List.nodup_cons.1 hnd
    rcases List.mem_cons.1 hp with rfl | hp
    · have hmem : { q with comp := some (f s p) } ∈ (s.fillComp p.1.id (f s p)).hif.compq := mem_fillSlot_same _ hq hid
      have hid' : q.id ∉ l.map (·.1.id) := by rw [hid]; exact hy
      exact ⟨_, foldl_fillComp_others (q := { q with comp := some (f s p) }) hid' hmem, hf s p⟩
    · have hne : q.id ≠ y.1.id := fun h => hy (List.mem_map.2 ⟨p, hp, hid.symm.trans h⟩)
      exact ih hnd hp (mem_fillSlot_ne _ hq hne)

end

/-- The completion of a request of a transaction of n requests, at place i, under verdict v (R242, R248). -/
structure Comp.Carries (d : Comp) (v : Verdict) (i n : Nat) : Prop where
  status : d.status = v.status
  nMoved : d.nMoved = v.moved.length
  txnEnd : d.txnEnd = decide (i + 1 = n)

theorem completeTxn_eq_foldl (s : State) (x : Txn) (v : Verdict) (old : Nat → Nat → Nat) (mid : Nat → Nat) :
    ∃ f : State → Req × Nat → Comp,
      s.completeTxn x v old mid = (x.reqs.zip (List.range x.reqs.length)).foldl (fun u p => u.fillComp p.1.id (f u p)) s
        ∧ ∀ u p, (f u p).Carries v p.2 x.reqs.length := by
  refine ⟨_, rfl, ?_⟩
  exact fun _ _ => ⟨rfl, rfl, rfl⟩

theorem map_id_zip_range (l : List Req) : (l.zip (List.range l.length)).map (·.1.id) = l.map Req.id := by
  calc (l.zip (List.range l.length)).map (·.1.id)
      = ((l.zip (List.range l.length)).map Prod.fst).map Req.id := List.map_map.symm
    _ = l.map Req.id := by rw [List.map_fst_zip (by simp)]

theorem completeTxn_own {x : Txn} (hnd : (x.reqs.map Req.id).Nodup) {r : Req} (hr : r ∈ x.reqs) {s : State} {q : CompSlot}
    (hq : q ∈ s.hif.compq) (hid : q.id = r.id) (v : Verdict) (old : Nat → Nat → Nat) (mid : Nat → Nat) :
    ∃ d i, { q with comp := some d } ∈ (s.completeTxn x v old mid).hif.compq ∧ i < x.reqs.length ∧ d.Carries v i x.reqs.length := by
  have hfst : (x.reqs.zip (List.range x.reqs.length)).map Prod.fst = x.reqs := List.map_fst_zip (by simp)
  obtain ⟨p, hp, rfl⟩ := List.mem_map.1 (hfst.symm ▸ hr)
  obtain ⟨f, heq, hf⟩ := completeTxn_eq_foldl s x v old mid
  obtain ⟨d, hd, hcarries⟩ := foldl_fillComp_own (P := fun p d => d.Carries v p.2 x.reqs.length) hf
    (by rwa [map_id_zip_range]) hp hid hq
  exact ⟨d, p.2, heq ▸ hd, List.mem_range.1 (List.of_mem_zip hp).2, hcarries⟩

theorem completeTxn_others {x : Txn} {s : State} {q : CompSlot} (hq : q ∈ s.hif.compq) (hid : q.id ∉ x.reqs.map Req.id) (v : Verdict)
    (old : Nat → Nat → Nat) (mid : Nat → Nat) : q ∈ (s.completeTxn x v old mid).hif.compq := by
  obtain ⟨f, heq, -⟩ := completeTxn_eq_foldl s x v old mid
  rw [heq]
  exact foldl_fillComp_others (by rwa [map_id_zip_range]) hq

/-- A rejected transaction has each request completed with the status, and no path moved (R161). -/
theorem rejectTxn_own {x : Txn} (hnd : (x.reqs.map Req.id).Nodup) {r : Req} (hr : r ∈ x.reqs) {s : State} {q : CompSlot}
    (hq : q ∈ s.hif.compq) (hid : q.id = r.id) (st : Nat) :
    ∃ d i, { q with comp := some d } ∈ (s.rejectTxn x st).hif.compq ∧ i < x.reqs.length
      ∧ d.Carries (Verdict.reject st) i x.reqs.length :=
  completeTxn_own hnd hr hq hid ..

end Sys2Proof.Machine
end

section
/-! PROOF. The host's writes of the exclusions (O36), and the checks of CONNECT, RELEASE and MOVE (O30). -/
namespace Sys2Proof.Machine

/-! ### The host's writes of the exclusions (R184) -/

theorem setReg_frame (s : State) (r : Reg) (ix : List Nat) (v : Word) :
    otherRegs [r.at ix] s (s.setReg r ix v) ∧ changesOnly [.regs] s (s.setReg r ix v) :=
  ⟨.setReg (.head _), (setReg_keeps ..).changesOnly rfl⟩

theorem exec_pthExclWrite {s : State} (h : s.isOpen = true) (w : Fin 136) (v : Word) :
    exec (.pthExclWrite w v) s = .next (s.setReg .PTH_EXCL [w.val] (s.reg .PTH_EXCL [w.val] &&& ~~~ v)) :=
  congrArg Host.Outcome.next (hostWr_of_not_shut (not_shut h (.inl (by decide)) nofun))

theorem exec_pthExclSetWrite {s : State} (h : s.isOpen = true) (w : Fin 136) (v : Word) :
    exec (.pthExclSetWrite w v) s = .next (s.setReg .PTH_EXCL [w.val] (s.reg .PTH_EXCL [w.val] ||| v)) :=
  congrArg Host.Outcome.next (hostWr_of_not_shut (not_shut h (.inl (by decide)) nofun))

/-- Settles O36: either write is one store of its word of PTH_EXCL. -/
theorem exclusionWrites : Obligations.ExclusionWrites := by
  unfold Obligations.ExclusionWrites
  exact fun s w v h =>
    ⟨⟨_, exec_pthExclWrite h w v, reg_setReg_same .., setReg_frame ..⟩,
      ⟨_, exec_pthExclSetWrite h w v, reg_setReg_same .., setReg_frame ..⟩⟩

/-! ### The checks (R161, R162) -/

section
variable {s : State} {x : Txn} {r : Req}

theorem checkReq_of_idTaken (h : s.idTaken x r = true) (i : Nat) : s.checkReq x i r = some (1, stId) := if_pos h

theorem checkReq_of_stateBad (hid : s.idTaken x r = false) (h : s.stateBad x r = true) (i : Nat) :
    s.checkReq x i r = some (2, stState) := by
  simp [State.checkReq, hid, h]

theorem stateBad_of_safe (h : s.flt.safe = true) : s.stateBad x r = true := by simp [State.stateBad, h]

theorem stateBad_of_throttle (h : s.thm.thr = true) (hop : r.op ≠ 2) : s.stateBad x r = true := by
  simp [State.stateBad, State.throttle, h, hop]

/-- A RELEASE of layer 0 outside FABRIC is refused for the state only in the safe state, and in a pair by a module that is not
ACTIVE. -/
theorem stateBad_release (hfab : s.inFabric = false) (hsafe : s.flt.safe = false) (hop : r.op = 2)
    (hpair : s.inPair = true → s.pair.role = 1) (hr : r.layer = 0) (hx : x.layer = 0) : s.stateBad x r = false := by
  have hlayer : s.layerBad 0 = false := if_pos rfl
  simpa [State.stateBad, State.fabStateBad, hfab, hsafe, hop, hlayer, hr, hx] using hpair

theorem checkReq_release {i : Nat} (hfab : s.inFabric = false) (hid : s.idTaken x r = false) (hstate : s.stateBad x r = false)
    (hop : r.op = 2) (hpath : (s.outAfter x i r.a).isSome = true) (hasap : x.asap = true) : s.checkReq x i r = none := by
  have hport : s.portBad x i r = false := by
    unfold State.portBad
    rw [hop]
    simpa using hpath
  have htime : s.timeBad x = false := by simp [State.timeBad, hasap]
  simp [State.checkReq, hid, hstate, hfab, hport, htime]

end

/-- The checks of a request read neither network time nor what else is delivered. -/
theorem checkReq_takeFront (s : State) (t : Nat) (rest : List Txn) (x : Txn) (i : Nat) (r : Req) :
    ((s.passTo t).takeFront rest).checkReq x i r = s.checkReq x i r := by
  unfold State.passTo
  split <;> rfl

/-! ### CONNECT, RELEASE and MOVE (R156) -/

theorem exec_request {op t : Nat} {c : Instr} (h : (op, c) ∈ [(1, Instr.connect t), (2, .release t), (3, .move t)]) (s : State) :
    op ≤ 3 ∧ exec c s = .next (((s.passTo t).setAside).request op) := by
  simp only [List.mem_cons, Prod.mk.injEq, List.not_mem_nil, or_false] at h
  obtain ⟨rfl, rfl⟩ | ⟨rfl, rfl⟩ | ⟨rfl, rfl⟩ := h <;> exact ⟨by decide, rfl⟩

theorem setAside_of_not_fabric {s : State} (h : s.inFabric = false) : s.setAside = s := by simp [State.setAside, h]

theorem checked_passes {x : Txn} {r : Req} (hx : x.reqs = [r]) (s : State) :
    s.checked ⟨x, 0, none⟩ none = s.setCur (some ⟨x, 1, none⟩) := by
  simp [State.checked, hx, firstFail]

theorem checked_fails {x : Txn} {r : Req} (hx : x.reqs = [r]) (s : State) (f : Nat × Nat) :
    s.checked ⟨x, 0, none⟩ (some f) = (s.setCur none).rejectTxn x f.2 := by
  simp [State.checked, hx, firstFail]

section
variable {s : State} {x : Txn} {rest : List Txn} {r : Req} {t : Nat} {c : Instr}

/-- Outside FABRIC the one request of the transaction in front has its check. -/
theorem exec_request_front (hc : (r.op, c) ∈ [(1, Instr.connect t), (2, .release t), (3, .move t)]) (hfab : s.inFabric = false)
    (h : s.Fronts x rest r) :
    exec c s = .next (((s.passTo t).takeFront rest).checked ⟨x, 0, none⟩ (s.checkReq x 0 r)) := by
  obtain ⟨hop, hexec⟩ := exec_request hc s
  rw [hexec, setAside_of_not_fabric ((passTo_inFabric s t).trans hfab), request_front (h.passTo t) (by omega), checkReq_takeFront]

theorem request_passes (hc : (r.op, c) ∈ [(1, Instr.connect t), (2, .release t), (3, .move t)]) (hfab : s.inFabric = false)
    (h : s.Fronts x rest r) (hcheck : s.checkReq x 0 r = none) :
    Runs c s fun u => u.pth = { s.pth with delivered := rest, cur := some ⟨x, 1, none⟩ } ∧ changesOnly [.clr, .pth] s u := by
  refine .of_eq (exec_request_front hc hfab h) (by rw [hcheck, checked_passes h.reqs]) ⟨?_, ?_⟩
  · simp [State.setCur, State.takeFront]
  · exact (((passTo_keeps s t).trans (takeFront_keeps ..)).trans (setCur_keeps ..)).changesOnly rfl

theorem request_fails (hc : (r.op, c) ∈ [(1, Instr.connect t), (2, .release t), (3, .move t)]) (hfab : s.inFabric = false)
    (h : s.Fronts x rest r) {k st : Nat} (hcheck : s.checkReq x 0 r = some (k, st)) :
    Runs c s fun u => u.pth = { s.pth with delivered := rest }
      ∧ (∀ q ∈ s.hif.compq, q.id = r.id →
          ∃ d, { q with comp := some d } ∈ u.hif.compq ∧ d.status = st ∧ d.txnEnd = true ∧ d.nMoved = 0)
      ∧ (∀ q ∈ s.hif.compq, q.id ≠ r.id → q ∈ u.hif.compq) ∧ changesOnly [.clr, .pth, .hif] s u := by
  have hk : Keeps 0x280 s (((s.passTo t).takeFront rest).setCur none) :=
    ((passTo_keeps s t).trans (takeFront_keeps ..)).trans (setCur_keeps ..)
  have hhif : (((s.passTo t).takeFront rest).setCur none).hif = s.hif := hk.frame .hif rfl
  have hreject := rejectTxn_keeps (((s.passTo t).takeFront rest).setCur none) x st
  refine .of_eq (exec_request_front hc hfab h) (by rw [hcheck, checked_fails h.reqs]) ⟨?_, fun q hq hid => ?_, fun q hq hid => ?_, ?_⟩
  · refine (hreject.frame .pth rfl).trans ?_
    simp [State.setCur, State.takeFront, h.cur]
  · rw [← hhif] at hq
    obtain ⟨d, i, hd, hi, hcarries⟩ := rejectTxn_own (x := x) (by simp [h.reqs]) (by simp [h.reqs]) hq hid st
    have hlen : x.reqs.length = 1 := by rw [h.reqs]; rfl
    exact ⟨d, hd, hcarries.status, hcarries.txnEnd.trans (decide_eq_true (by omega)), hcarries.nMoved⟩
  · rw [← hhif] at hq
    exact completeTxn_others hq (by simpa [h.reqs] using hid) _ _ _
  · exact (hk.trans hreject).changesOnly rfl

end

/-- Settles O30: the one request in front has its check, after which the transaction is held or rejected; the order of the checks
gives the refusals. -/
theorem requestChecks : Obligations.RequestChecks := by
  unfold Obligations.RequestChecks
  refine ⟨fun s t op c x rest r hc hfab hcur hfree hdel hreqs hop => ?_, fun s x i r => ⟨?_, ?_, ?_, ?_⟩⟩
  · subst hop
    have h : s.Fronts x rest r := ⟨hcur, hfree, hdel, hreqs⟩
    exact ⟨request_passes hc hfab h, fun k st => request_fails hc hfab h⟩
  · exact fun hid => checkReq_of_idTaken hid i
  · exact fun hid hsafe => checkReq_of_stateBad hid (stateBad_of_safe hsafe) i
  · exact fun hid hthr hop => checkReq_of_stateBad hid (stateBad_of_throttle hthr hop) i
  · exact fun hfab hid hsafe hop hpair hr hx hpath hasap =>
      checkReq_release hfab hid (stateBad_release hfab hsafe hop hpair hr hx) hop hpath hasap

end Sys2Proof.Machine
end

section
/-! PROOF. QUERY and FENCE, the delivery of descriptors, and the statement on both (O31). -/
namespace Sys2Proof.Machine

/-! ### QUERY and FENCE (R160, R242, R249) -/

section
variable {s : State} {x : Txn} {rest : List Txn} {r : Req}

theorem doQuery_front (h : s.Fronts x rest r) (hop : r.op = 4) (hid : s.idTaken x r = false) (hlayer : r.layer = 0) :
    doQuery s = (s.takeFront rest).fillComp r.id
      { mgmtComp x r stApplied (s.queryWords (s.f YK_VIEW.LAYER []) r.sel r.a).1 (s.queryWords (s.f YK_VIEW.LAYER []) r.sel r.a).2.1 with
        pattern := (s.queryWords (s.f YK_VIEW.LAYER []) r.sel r.a).2.2 } := by
  have htake := takeOp_front h hop.le
  rw [hop] at htake
  have hid' : (s.takeFront rest).idTaken x r = false := hid
  have hlayer' : (s.takeFront rest).layerBad r.layer = false := if_pos hlayer
  simp only [doQuery, htake, hid', hlayer', Bool.false_eq_true, if_false]
  rfl

theorem doFence_front (h : s.Fronts x rest r) (hop : r.op = 0) (hid : s.idTaken x r = false) :
    doFence s = (s.takeFront rest).fillComp r.id (mgmtComp x r stApplied 0 0) := by
  have htake := takeOp_front h (by omega)
  rw [hop] at htake
  have hid' : (s.takeFront rest).idTaken x r = false := hid
  simp only [doFence, htake, hid', Bool.false_eq_true, if_false]

/-- A completion filled in for the transaction in front, which leaves: no path changes. -/
theorem fillComp_takeFront (s : State) (rest : List Txn) (id : Nat) (d : Comp) :
    ((s.takeFront rest).fillComp id d).pth = { s.pth with delivered := rest }
      ∧ changesOnly [.pth, .hif] s ((s.takeFront rest).fillComp id d) :=
  ⟨rfl, ((takeFront_keeps s rest).trans (fillComp_keeps ..)).changesOnly rfl⟩

theorem queryWords_idle {layer a : Nat} (h : (s.pathRec (512 * layer + a)).st = .idle) : s.queryWords layer false a = (wd a, 0, 0) := by
  simp [State.queryWords, h]

/-- The words of a path by its in-port are those of its record (R249). -/
theorem queryWords_path {layer a : Nat} {p : PathRec} (hp : p = s.pathRec (512 * layer + a)) (h : p.st ≠ .idle) :
    s.queryWords layer false a
      = (wd (p.st.code * 2 ^ 29 + s.tagStatus a * 2 ^ 26 + b2n p.eqR * 2 ^ 25 + p.out * 2 ^ 16 + a), p.validT, p.mid) := by
  subst hp
  simp [State.queryWords, h]

end

/-! ### Completion slots (R241, R242) -/

/-- From state s to state u the requests of descriptors l of ring g have taken their completion slots and reservations. -/
structure SlotsTaken (g : Nat) (l : List Desc) (s u : State) : Prop where
  pth : u.pth = s.pth
  compq : u.hif.compq.length = s.hif.compq.length + l.length
  compG : u.compG g = s.compG g
  resv : (u.ring (s.compG g)).resv = (s.ring (s.compG g)).resv + l.length
  rings : ∀ k, k ≠ s.compG g → u.ring k = s.ring k

theorem SlotsTaken.refl (g : Nat) (s : State) : SlotsTaken g [] s s := ⟨rfl, rfl, rfl, rfl, fun _ _ => rfl⟩

theorem SlotsTaken.trans {g : Nat} {l m : List Desc} {s u v : State} (h : SlotsTaken g l s u) (k : SlotsTaken g m u v) :
    SlotsTaken g (l ++ m) s v := by
  refine ⟨k.pth.trans h.pth, ?_, k.compG.trans h.compG, ?_, fun j hj => (k.rings j (by rwa [h.compG])).trans (h.rings j hj)⟩
  · rw [k.compq, h.compq, List.length_append, Nat.add_assoc]
  · rw [← h.compG, k.resv, h.compG, h.resv, List.length_append, Nat.add_assoc]

theorem slot_taken (s : State) (g : Nat) (d : Desc) (txn : Nat) (ordered fence : Bool) :
    SlotsTaken g [d] s (s.slot g d txn ordered fence).1 := by
  refine ⟨rfl, by simp [State.slot], rfl, ?_, fun k hk => ring_setRing_ne _ _ (Ne.symm hk)⟩
  exact congrArg Ring.resv (ring_setRing_same ..)

/-- One turn of `State.slots`. -/
def slotTurn (g txn : Nat) (acc : State × List Req) (d : Desc) : State × List Req :=
  ((acc.1.slot g d txn d.ordered (decide (d.op = 0))).1, acc.2 ++ [(acc.1.slot g d txn d.ordered (decide (d.op = 0))).2])

theorem slots_eq_foldl (s : State) (g : Nat) (l : List Desc) : s.slots g l = l.foldl (slotTurn g s.hif.nextId) (s, []) := rfl

theorem foldl_slotTurn (g txn : Nat) (l : List Desc) (acc : State × List Req) :
    SlotsTaken g l acc.1 (l.foldl (slotTurn g txn) acc).1
      ∧ (l.foldl (slotTurn g txn) acc).2.map Req.op = acc.2.map Req.op ++ l.map fun d => d.req.op := by
  induction l generalizing acc with
  | nil => exact ⟨.refl g _, by simp⟩
  | cons d l ih =>
    obtain ⟨htaken, hops⟩ := ih (slotTurn g txn acc d)
    refine ⟨(slot_taken acc.1 g d txn _ _).trans htaken, ?_⟩
    rw [List.foldl_cons, hops]
    simp [slotTurn, State.slot]

theorem slots_taken (s : State) (g : Nat) (l : List Desc) :
    SlotsTaken g l s (s.slots g l).1 ∧ (s.slots g l).2.map Req.op = l.map fun d => d.req.op := by
  rw [slots_eq_foldl]
  simpa using foldl_slotTurn g s.hif.nextId l (s, [])

/-! ### Delivery (R239) -/

/-- From state s to state u the descriptors l of ring g were delivered as one transaction, each with its slot. -/
structure Delivered (g : Nat) (l : List Desc) (s u : State) : Prop where
  txn : ∃ x : Txn, u.pth = { s.pth with delivered := s.pth.delivered ++ [x] } ∧ x.ring = g ∧ x.reqs.map Req.op = l.map fun d => d.req.op
  compq : u.hif.compq.length = s.hif.compq.length + l.length
  resv : (u.ring (s.compG g)).resv = (s.ring (s.compG g)).resv + l.length
  rings : ∀ k, k ≠ s.compG g → u.ring k = s.ring k

theorem deliver_delivered (s : State) (g : Nat) {l : List Desc} (hl : l ≠ []) : Delivered g l s (s.deliver g l) := by
  obtain ⟨d, rest, rfl⟩ := List.exists_cons_of_ne_nil hl
  obtain ⟨htaken, hops⟩ := slots_taken s g (d :: rest)
  refine ⟨⟨s.mkTxn g d (s.slots g (d :: rest)).2, ?_, rfl, hops⟩, htaken.compq, htaken.resv, htaken.rings⟩
  have hpth : (s.slots g (d :: rest)).1.pth = s.pth := htaken.pth
  simp [State.deliver, hpth]

/-- What later leaves the path service and the host interface alone leaves what was delivered. -/
theorem Delivered.of_same {g : Nat} {l : List Desc} {s u v : State} (h : Delivered g l s u) (hp : v.pth = u.pth) (hh : v.hif = u.hif) :
    Delivered g l s v := by
  have hring : ∀ k, v.ring k = u.ring k := fun k => by rw [State.ring, State.ring, hh]
  exact ⟨by rw [hp]; exact h.txn, by rw [hh]; exact h.compq, by rw [hring]; exact h.resv, fun k hk => (hring k).trans (h.rings k hk)⟩

/-- A descriptor on its own that is well formed and not BUSY is delivered (R239, R247). -/
theorem alone_delivered {s : State} (g : Nat) {d : Desc} (hbad : d.badAlone = false) (hfw : (isFw d.op && s.fwRuns) = false) :
    Delivered g [d] s (s.alone g d) := by
  have hdel := deliver_delivered s g (List.cons_ne_nil d [])
  unfold State.alone
  rw [if_neg (by simp [hbad]), if_neg (by simp [hfw])]
  split
  · exact hdel.of_same ((icEdge_keeps ..).frame .pth rfl) ((icEdge_keeps ..).frame .hif rfl)
  · exact hdel

/-! ### The turn of intake (R239) -/

theorem turnRing_lt {s : State} {g : Nat} (h : s.turnRing = some g) : g < 64 := by
  unfold State.turnRing at h
  extract_lets l top c at h
  have hc : ∀ k ∈ c, k < 64 := fun k hk => List.mem_range.1 (List.mem_filter.1 (List.mem_filter.1 hk).1).1
  split at h
  case h_1 j hj =>
    obtain rfl := Option.some.inj h
    exact hc j (List.mem_of_find?_eq_some hj)
  case h_2 => exact hc g (List.mem_of_head? h)

/-- A command ring is no completion ring. -/
theorem ne_compG {g : Nat} (hg : g < 64) (s : State) (k : Nat) : g ≠ s.compG k := by
  unfold State.compG
  omega

theorem readAll_compG {s m : State} (h : s.readAll = m) (g : Nat) : m.compG g = s.compG g := by
  subst h
  exact congrArg (64 + ·) ((readAll_keeps s).f rfl rfl ..)

theorem readAll_pth {s m : State} (h : s.readAll = m) : m.pth = s.pth := by
  subst h
  exact (readAll_keeps s).frame .pth rfl

/-- The ring of the turn is remembered for the next one (R239). -/
def State.turned (s : State) (prio g : Nat) : State := { s with hif := { s.hif with rr := sset s.hif.rr prio g } }

section
variable (s : State) (prio g k : Nat)

theorem turned_pth : (s.turned prio g).pth = s.pth := rfl
theorem turned_compq : (s.turned prio g).hif.compq = s.hif.compq := rfl
theorem turned_ring : (s.turned prio g).ring k = s.ring k := rfl
theorem runOver_pth : (s.runOver g).pth = s.pth := rfl
theorem runOver_compq : (s.runOver g).hif.compq = s.hif.compq := rfl
theorem runOver_ring : (s.runOver g).ring g = { s.ring g with run := [], runEnd := false, runRej := 0 } := ring_setRing_same ..
theorem runOver_ring_ne {g k : Nat} (h : g ≠ k) : (s.runOver g).ring k = s.ring k := ring_setRing_ne _ _ h
theorem ciOn_pth : (s.ciOn g).pth = s.pth := rfl
theorem ciOn_compq : (s.ciOn g).hif.compq = s.hif.compq := rfl
theorem ciOn_ring : (s.ciOn g).ring g = { s.ring g with ci := idxInc (s.ring g).ci } := ring_setRing_same ..

end

theorem doIntakeTurn_serves {s m : State} {g : Nat} (hon : s.intakeOn = true) (hm : s.readAll = m) (hg : m.turnRing = some g) :
    doIntakeTurn s = (m.serve g).turned (m.f RING_CFG.PRIO [g]) g := by
  simp only [doIntakeTurn, hon, hm, hg, Bool.not_true, Bool.false_eq_true, if_false]
  rfl

theorem serve_run {s : State} {g : Nat} (h : s.deliverable g = 3) : s.serve g = (s.deliver g (s.ring g).run).runOver g := by
  simp only [State.serve, h]

theorem serve_alone {s : State} {g : Nat} (h : s.deliverable g = 4) :
    s.serve g = (s.ciOn g).alone g (s.desc g (s.ring g).ci) := by
  simp only [State.serve, h]

section
variable {s m : State} {g : Nat} (hon : s.intakeOn = true) (hm : s.readAll = m) (hg : m.turnRing = some g)
include hon hm hg

theorem exec_intakeTurn_run (h : m.deliverable g = 3) :
    exec .intakeTurn s = .next (((m.deliver g (m.ring g).run).runOver g).turned (m.f RING_CFG.PRIO [g]) g) :=
  congrArg Host.Outcome.next ((doIntakeTurn_serves hon hm hg).trans (by rw [serve_run h]))

theorem exec_intakeTurn_alone (h : m.deliverable g = 4) :
    exec .intakeTurn s = .next (((m.ciOn g).alone g (m.desc g (m.ring g).ci)).turned (m.f RING_CFG.PRIO [g]) g) :=
  congrArg Host.Outcome.next ((doIntakeTurn_serves hon hm hg).trans (by rw [serve_alone h]))

end

theorem exec_query (s : State) : exec .query s = .next (doQuery s) := rfl
theorem exec_fence (s : State) : exec .fence s = .next (doFence s) := rfl

/-- Settles O31: the descriptor in front is answered from the table, and a turn of intake delivers what its ring gives. -/
theorem queriesAndIntake : Obligations.QueriesAndIntake := by
  unfold Obligations.QueriesAndIntake
  refine ⟨fun s x rest r hcur hfree hdel hreqs hid => ?_, fun s m g hon hm hg => ?_⟩
  · have h : s.Fronts x rest r := ⟨hcur, hfree, hdel, hreqs⟩
    refine ⟨fun hop hlayer hsel => ?query, fun hop => ?fence⟩
    case query =>
      obtain ⟨hpth, honly⟩ := fillComp_takeFront s rest r.id _
      refine .of_eq (exec_query s) (doQuery_front h hop hid hlayer) ⟨hpth, honly, fun p q hp hq hqid => ?_⟩
      refine ⟨_, mem_fillSlot_same _ hq hqid, rfl, fun hidle => ?_, fun hst => ?_⟩
      · rw [hsel, queryWords_idle (hp ▸ hidle)]
        exact ⟨rfl, rfl⟩
      · rw [hsel, queryWords_path hp hst]
        exact ⟨rfl, rfl⟩
    case fence =>
      obtain ⟨hpth, honly⟩ := fillComp_takeFront s rest r.id (mgmtComp x r stApplied 0 0)
      exact .of_eq (exec_fence s) (doFence_front h hop hid)
        ⟨hpth, honly, fun q hq hqid => ⟨_, mem_fillSlot_same _ hq hqid, rfl⟩⟩
  · have hne : ∀ k, g ≠ m.compG k := ne_compG (turnRing_lt hg) m
    refine ⟨fun hrun hlist => ?run, fun halone hbad hfw => ?alone⟩
    case run =>
      have hd := deliver_delivered m g hlist
      obtain ⟨x, hx, hring, hops⟩ := hd.txn
      rw [readAll_pth hm] at hx
      refine ⟨_, exec_intakeTurn_run hon hm hg hrun, x, ?_, hring, hops, ?_, ?_, ?_, ?_⟩
      · rw [turned_pth, runOver_pth, hx]
      · rw [turned_compq, runOver_compq, hd.compq]
      · rw [turned_ring, runOver_ring, hd.rings g (hne g)]
      · rw [turned_ring, runOver_ring]
      · rw [turned_ring, ← readAll_compG hm, runOver_ring_ne _ (hne g), hd.resv]
    case alone =>
      have hfree : (isFw (m.desc g (m.ring g).ci).op && (m.ciOn g).fwRuns) = false := Bool.and_eq_false_iff.2 hfw
      have hd := alone_delivered (s := m.ciOn g) g hbad hfree
      obtain ⟨x, hx, hring, hops⟩ := hd.txn
      rw [ciOn_pth, readAll_pth hm] at hx
      refine ⟨_, exec_intakeTurn_alone hon hm hg halone, x, (turned_pth ..).trans hx, hring, hops, ?_, ?_⟩
      · rw [turned_compq, hd.compq, ciOn_compq, List.length_singleton]
      · rw [turned_ring, hd.rings g (hne g), ciOn_ring]

end Sys2Proof.Machine
end

section
/-! PROOF. The placement of a checked transaction where no probe segment is left, and the refutation of the statement on it (O32). -/
namespace Sys2Proof.Machine

/-! ### Placing in a module alone (R158, R165) -/

/-- A transaction whose requests are all checked is in hand in a module alone, Prale's cores run, and none is between an earlier
placement and the end of its staging. -/
structure State.Places (s : State) (c : Cur) : Prop where
  runs : s.prl.lsHalt = false
  fabric : s.inFabric = false
  pair : s.inPair = false
  cur : s.pth.cur = some c
  checked : c.txn.reqs.length ≤ c.idx
  free : s.placeFree = true

/-- The result of the search for the transaction (R165, R166). -/
def State.searched (s : State) (x : Txn) : PlaceR :=
  placeTxn s.exclNodes (s.keptRoutes x) x.named (s.newPaths x) x.policy x.maxMoved

/-- The state in which the placement finds the table: network time has run on, and the transaction is no more under check. -/
def State.toPlace (s : State) (t : Nat) : State := (s.passTo t).setCur none

theorem toPlace_keeps (s : State) (t : Nat) : Keeps 0x280 s (s.toPlace t) := (passTo_keeps s t).trans (setCur_keeps ..)

theorem toPlace_pth (s : State) (t : Nat) : (s.toPlace t).pth = { s.pth with cur := none } := by
  rw [State.toPlace, State.setCur, passTo_pth]

theorem toPlace_searched (s : State) (t : Nat) (x : Txn) : (s.toPlace t).searched x = s.searched x :=
  passTo_congr s t (fun u => (u.setCur none).searched x) fun _ => rfl

theorem toPlace_changes (s : State) (t : Nat) (x : Txn) (new moved : List Rt) :
    (s.toPlace t).changes x new moved = s.changes x new moved :=
  passTo_congr s t (fun u => (u.setCur none).changes x new moved) fun _ => rfl

/-- The placed transaction that a successful search gives. -/
def State.newPlaced (s : State) (x : Txn) (new moved : List Rt) (loop : Bool) : Placed :=
  { Placed.new s.pth.nextId x (s.changes x new moved) (moved.map Rt.a) loop with host := true }

theorem placeNow_bad {s : State} {x : Txn} {st : Nat} (h : s.searched x = .bad st) : s.placeNow x = s.rejectTxn x st := by
  unfold State.searched at h
  simp only [State.placeNow, h]

theorem placeNow_ok {s : State} {x : Txn} {new moved : List Rt} {loop : Bool} (hpair : s.inPair = false)
    (h : s.searched x = .ok new moved loop) :
    s.placeNow x = (s.takeChanges (s.changes x new moved) new).addPlaced (s.newPlaced x new moved loop) := by
  have hpair' : (s.takeChanges (s.changes x new moved) new).inPair = false :=
    (congrArg (fun m => decide (m = 1)) ((takeChanges_keeps s (s.changes x new moved) new).frame .straps rfl).1).trans hpair
  unfold State.searched at h
  simp only [State.placeNow, h, hpair, Bool.false_and, Bool.false_eq_true, if_false, State.mirrorTxn, hpair', Bool.not_false, if_true]
  rfl

theorem pendRecs_pth (s : State) (l : List Chg) (new : List Rt) : ∃ conn, (s.pendRecs l new).pth = { s.pth with conn := conn } := by
  refine foldl_keeps (fun u : State => ∃ conn, u.pth = { s.pth with conn := conn }) ⟨_, rfl⟩ fun u c hu => ?_
  obtain ⟨conn, hconn⟩ := hu
  split
  · split
    · exact ⟨_, by rw [State.setRec, hconn]⟩
    · exact ⟨conn, hconn⟩
  · exact ⟨conn, hconn⟩

theorem takeChanges_pth (s : State) (l : List Chg) (new : List Rt) :
    ∃ conn, (s.takeChanges l new).pth = { s.pth with conn := conn, plan := planTake s.pth.plan l } := by
  obtain ⟨conn, hconn⟩ := pendRecs_pth s l new
  exact ⟨conn, by simp only [State.takeChanges, hconn]⟩

/-- A placed transaction joins the path service, whose plan takes its changes; the routes in force stay. -/
structure PlacedNow (x : Txn) (new moved : List Rt) (loop : Bool) (s u : State) : Prop where
  pth : ∃ conn, u.pth = { s.pth with
    conn := conn, plan := planTake s.pth.plan (s.changes x new moved), placed := s.pth.placed ++ [s.newPlaced x new moved loop]
    nextId := max s.pth.nextId (s.pth.nextId + 1) }
  keeps : Keeps 0x200 s u

theorem placeNow_placed {s : State} {x : Txn} {new moved : List Rt} {loop : Bool} (hpair : s.inPair = false)
    (h : s.searched x = .ok new moved loop) : PlacedNow x new moved loop s (s.placeNow x) := by
  obtain ⟨conn, hconn⟩ := takeChanges_pth s (s.changes x new moved) new
  rw [placeNow_ok hpair h]
  refine ⟨⟨conn, ?_⟩, (takeChanges_keeps ..).trans (addPlaced_keeps ..)⟩
  simp only [State.addPlaced, hconn]
  rfl

theorem doPlacement_eq {s : State} {c : Cur} (h : s.Places c) (t : Nat) :
    doPlacement t s = State.schedEvent s ((s.toPlace t).placeNow c.txn).yieldProbes := by
  have hfree : (s.passTo t).placeFree = true := (passTo_congr s t (·.placeFree) fun _ => rfl).trans h.free
  simp [doPlacement, h.runs, State.placeAny, State.placement, h.cur, h.fabric, hfree, h.checked, State.toPlace]

/-! ### With no probe segment left (R375) -/

theorem yieldProbes_of_no_probes {s : State} (h : s.fab.probes = []) : s.yieldProbes = s := by
  simp [State.yieldProbes, State.dropProbes, h]

theorem schedEvent_of_same {o s : State} (h : s.reg .YK_EVT [] = o.reg .YK_EVT []) : State.schedEvent o s = s := by
  simp [State.schedEvent, h]

theorem toPlace_inPair (s : State) (t : Nat) : (s.toPlace t).inPair = s.inPair := by
  rw [State.inPair, State.inPair, ((toPlace_keeps s t).frame .straps rfl).1]

theorem placeNow_alone_keeps {s : State} (hpair : s.inPair = false) (x : Txn) : Keeps 0x2200 s (s.placeNow x) := by
  cases h : s.searched x with
  | ok new moved loop => exact (placeNow_placed hpair h).keeps.step .refl rfl
  | bad st =>
    rw [placeNow_bad h]
    exact (rejectTxn_keeps s x st).step .refl rfl

theorem doPlacement_of_no_probes {s : State} {c : Cur} (h : s.Places c) (hp : s.fab.probes = []) (t : Nat) :
    doPlacement t s = (s.toPlace t).placeNow c.txn := by
  have hk : Keeps 0x2280 s ((s.toPlace t).placeNow c.txn) :=
    (toPlace_keeps s t).trans (placeNow_alone_keeps ((toPlace_inPair s t).trans h.pair) c.txn)
  have hfab : ((s.toPlace t).placeNow c.txn).fab = s.fab := hk.frame .fab rfl
  rw [doPlacement_eq h, yieldProbes_of_no_probes (by rw [hfab, hp])]
  exact schedEvent_of_same (reg_congr (hk.frame .regs rfl) (hk.stage rfl) ..)

/-- A search that places the new paths adds one placed transaction, whose changes the plan takes. -/
theorem doPlacement_places {s : State} {c : Cur} (h : s.Places c) (hp : s.fab.probes = []) (t : Nat) {new moved : List Rt} {loop : Bool}
    (hok : s.searched c.txn = .ok new moved loop) :
    (∃ conn, (doPlacement t s).pth = { s.pth with
      conn := conn, cur := none, plan := planTake s.pth.plan (s.changes c.txn new moved)
      placed := s.pth.placed ++ [s.newPlaced c.txn new moved loop], nextId := max s.pth.nextId (s.pth.nextId + 1) })
    ∧ changesOnly [.clr, .pth] s (doPlacement t s) := by
  obtain ⟨⟨conn, hpth⟩, hk⟩ := placeNow_placed ((toPlace_inPair s t).trans h.pair) ((toPlace_searched s t c.txn).trans hok)
  rw [doPlacement_of_no_probes h hp]
  refine ⟨⟨conn, ?_⟩, ((toPlace_keeps s t).trans hk).changesOnly rfl⟩
  rw [hpth, State.newPlaced, toPlace_changes, toPlace_pth, State.newPlaced]

/-- A search that fails ends the check, and each request completes with its status. -/
theorem doPlacement_rejects {s : State} {c : Cur} (h : s.Places c) (hp : s.fab.probes = []) (t : Nat) {st : Nat}
    (hbad : s.searched c.txn = .bad st) :
    (doPlacement t s).pth = { s.pth with cur := none } ∧ changesOnly [.clr, .pth, .hif] s (doPlacement t s)
      ∧ ∀ r ∈ c.txn.reqs, ∀ q ∈ s.hif.compq, q.id = r.id → (c.txn.reqs.map Req.id).Nodup →
          ∃ d, { q with comp := some d } ∈ (doPlacement t s).hif.compq ∧ d.status = st := by
  have hk := rejectTxn_keeps (s.toPlace t) c.txn st
  have hhif : (s.toPlace t).hif = s.hif := (toPlace_keeps s t).frame .hif rfl
  rw [doPlacement_of_no_probes h hp, placeNow_bad ((toPlace_searched s t c.txn).trans hbad)]
  refine ⟨(hk.frame .pth rfl).trans (toPlace_pth s t), ((toPlace_keeps s t).trans hk).changesOnly rfl, fun r hr q hq hid hnd => ?_⟩
  obtain ⟨d, _, hd, -, hcarries⟩ := rejectTxn_own hnd hr (hhif ▸ hq) hid st
  exact ⟨d, hd, hcarries.status⟩

/-! ### With a probe segment left -/

/-- The probe segments that stay are those whose ports have no path (R375). -/
theorem yieldProbes_probes (s : State) :
    s.yieldProbes.fab.probes = s.fab.probes.filter fun x => !(s.inTaken x.1 || (s.outTaken x.2).isSome) := by
  unfold State.yieldProbes State.dropProbes
  extract_lets gone ins _ s1 lanes
  have hs1 : s1.fab.probes = s.fab.probes.filter fun x => !(s.inTaken x.1 || (s.outTaken x.2).isSome) :=
    foldl_keeps (fun u : State => u.fab.probes = _) rfl fun _ _ hu => hu
  split
  · next hgone =>
    refine (List.filter_eq_self.2 fun y hy => ?_).symm
    simpa using List.filter_eq_nil_iff.1 (List.isEmpty_iff.1 hgone) y hy
  · split
    · exact hs1
    · split
      · exact hs1
      · next n s2 hnew =>
        have hfab : s2.fab = s1.fab := (newPat_keeps _ _ _ _ _ _ _ _ _ hnew).frame .fab rfl
        rw [hfab, hs1]

theorem inTaken_of_mem_yieldProbes {s : State} {x : Nat × Nat} (h : x ∈ s.yieldProbes.fab.probes) : s.inTaken x.1 = false := by
  rw [yieldProbes_probes] at h
  have hfree := (List.mem_filter.1 h).2
  simp only [Bool.not_eq_true', Bool.or_eq_false_iff] at hfree
  exact hfree.1

/-- After a placement no probe segment is left at an in-port that the plan gives a path. -/
theorem doPlacement_probes {s : State} {c : Cur} (h : s.Places c) (t : Nat) {new moved : List Rt} {loop : Bool}
    (hok : s.searched c.txn = .ok new moved loop) {x : Nat × Nat} (hx : x ∈ (doPlacement t s).fab.probes) :
    sget none (planTake s.pth.plan (s.changes c.txn new moved)) x.1 = none := by
  obtain ⟨⟨conn, hpth⟩, -⟩ := placeNow_placed ((toPlace_inPair s t).trans h.pair) ((toPlace_searched s t c.txn).trans hok)
  rw [doPlacement_eq h, (schedEvent_keeps ..).frame .fab rfl] at hx
  have hfree := inTaken_of_mem_yieldProbes hx
  rw [State.inTaken, hpth, toPlace_changes, toPlace_pth] at hfree
  simpa using hfree

/-! ### The counterexample -/

/-- A CONNECT of in-port 3 to out-port 5, checked and in hand (R156). -/
def checkedConnect : Cur := ⟨Txn.own [firedReq] 0, 1, none⟩

/-- A module alone with that CONNECT in hand, whose fabric logic still holds a probe segment of the in-port to out-port 7. -/
def probeAhead : State :=
  { State.reset with
    sys := { State.reset.sys with por := false, stage := 15, pcie := true, readySince := true }
    pth := { State.reset.pth with cur := some checkedConnect }
    fab := { Fab.reset with probes := [(3, 7)] } }

theorem probeAhead_places : probeAhead.Places checkedConnect := ⟨rfl, rfl, rfl, rfl, by decide, rfl⟩

theorem probeAhead_searched : probeAhead.searched checkedConnect.txn = .ok [⟨3, 5, 1⟩] [] false := by decide +kernel

theorem probeAhead_plan :
    sget none (planTake probeAhead.pth.plan (probeAhead.changes checkedConnect.txn [⟨3, 5, 1⟩] [])) 3 = some ⟨5, 1⟩ := by
  decide +kernel

/-- Refutes O32: the fabric logic of a module alone may still hold a probe segment at an in-port that the placement gives a path. The
segment is released with the placement (R375), so that more than the clock and the path service changes. With no probe segment left,
both clauses hold (`doPlacement_places`, `doPlacement_rejects`). -/
theorem not_placement : ¬ Obligations.Placement := by
  unfold Obligations.Placement
  intro h
  obtain ⟨hok, -⟩ := h probeAhead 0 checkedConnect rfl rfl rfl rfl (by decide) rfl
  obtain ⟨u, hu, -, -, -, -, -, honly⟩ := hok _ _ _ probeAhead_searched
  obtain rfl : doPlacement 0 probeAhead = u := Host.Outcome.next.inj (Eq.trans rfl hu)
  have hfab : (doPlacement 0 probeAhead).fab = probeAhead.fab := honly .fab (by decide)
  have hnone := doPlacement_probes (x := (3, 7)) probeAhead_places 0 probeAhead_searched (by rw [hfab]; exact .head _)
  exact absurd (probeAhead_plan.symm.trans hnone) nofun

end Sys2Proof.Machine
end

section
/-! PROOF. Registers behind an event: the rules that the statements on network time, the schedule and the staging share. -/
namespace Sys2Proof.Machine

/-! ### Registers behind an event (R12, R437) -/

section
variable {s t : State}

theorem Keeps.reg {m : Nat} (h : Keeps m s t) (hr : m.testBit 2 = false) (hs : m.testBit 1 = false) (r : Reg) (ix : List Nat) :
    t.reg r ix = s.reg r ix := reg_congr (h.frame .regs hr) (h.stage hs) r ix

theorem Keeps.fb {m : Nat} (h : Keeps m s t) (hr : m.testBit 2 = false) (hs : m.testBit 1 = false) (x : Fld) (ix : List Nat) :
    t.fb x ix = s.fb x ix := by rw [State.fb, h.f hr hs, State.fb]

theorem f_of_reg {x : Fld} {ix : List Nat} (h : t.reg x.reg ix = s.reg x.reg ix) : t.f x ix = s.f x ix := by
  rw [State.f, h, State.f]

theorem fb_of_f {x : Fld} {ix : List Nat} (h : t.f x ix = s.f x ix) : t.fb x ix = s.fb x ix := by rw [State.fb, h, State.fb]

end

section
variable (s : State) {x : Fld} {ix jx : List Nat} {r : Reg}

/-- An edge of an interrupt source reaches no register below those of the controller. -/
theorem icEdge_reg (n : Nat) (hr : r.at ix < 0x40000400) : (s.icEdge n).reg r ix = s.reg r ix :=
  reg_of_otherRegs (.icEdge (List.mem_singleton.2 rfl)) ((icEdge_keeps ..).stage rfl) (by
    rw [List.mem_singleton, at_IC_SRC]
    omega)

/-- Below the interrupt controller, an event writes no more than its bit. -/
theorem raise_reg (ix : List Nat) (hr : r.at jx < 0x40000400) : (s.raise x ix).reg r jx = (s.setF x ix 1).reg r jx := by
  unfold State.raise
  extract_lets s1
  split
  · exact icEdge_reg s1 _ hr
  · rfl

theorem raise_reg_ne (hr : r.at jx < 0x40000400) (h : x.reg.at ix ≠ r.at jx) : (s.raise x ix).reg r jx = s.reg r jx := by
  rw [raise_reg s ix hr, State.setF, reg_setReg_ne _ _ h]

theorem raise_f_same (hr : x.reg.at ix < 0x40000400) (hx : x.len = 1 ∧ x.lo < 32) : (s.raise x ix).f x ix = 1 := by
  rw [State.f, raise_reg s ix hr]
  exact (f_setF_same s x ix 1 (by omega)).trans (by rw [hx.1]; rfl)

/-- An event leaves the other bits of its register. -/
theorem raise_f_beside {y : Fld} (hr : x.reg.at ix < 0x40000400) (hy : y.reg = x.reg) (hx : x.lo + x.len ≤ 32)
    (hd : y.lo + y.len ≤ x.lo ∨ x.lo + x.len ≤ y.lo) : (s.raise x ix).f y ix = s.f y ix := by
  rw [State.f, raise_reg s ix (by rwa [hy])]
  exact f_setF_beside s ix 1 hy hx hd

end

section
variable (o s : State) (r : Reg) (x : Fld) (ix : List Nat)

theorem clockEvent_reg : (State.clockEvent o s).reg r ix = s.reg r ix := (clockEvent_keeps o s).reg rfl rfl r ix
@[simp] theorem schedEvent_f : (State.schedEvent o s).f x ix = s.f x ix := (schedEvent_keeps o s).f rfl rfl x ix
@[simp] theorem clockEvent_f : (State.clockEvent o s).f x ix = s.f x ix := (clockEvent_keeps o s).f rfl rfl x ix
@[simp] theorem schedEvent_yk : (State.schedEvent o s).yk = s.yk := (schedEvent_keeps o s).frame .yk rfl
@[simp] theorem schedEvent_pth : (State.schedEvent o s).pth = s.pth := (schedEvent_keeps o s).frame .pth rfl
@[simp] theorem clockEvent_clr : (State.clockEvent o s).clr = s.clr := (clockEvent_keeps o s).frame .clr rfl
@[simp] theorem raise_clr : (s.raise x ix).clr = s.clr := (raise_keeps ..).frame .clr rfl
@[simp] theorem raise_yk : (s.raise x ix).yk = s.yk := (raise_keeps ..).frame .yk rfl
@[simp] theorem raise_pth : (s.raise x ix).pth = s.pth := (raise_keeps ..).frame .pth rfl

end

end Sys2Proof.Machine
end

section
/-! PROOF. The end of staging: a pattern that takes a free entry, a transaction that finds none, and the statement on both (O33). -/
namespace Sys2Proof.Machine

/-! ### A free entry (R204) -/

/-- What a pattern is that has just taken an entry. -/
structure PatEnt.Takes (q : PatEnt) (free : List Nat) (kind : PatKind) (st : PatSt) (due layer : Nat) : Prop where
  num : q.num ∈ free
  kind : q.kind = kind
  st : q.st = st
  due : q.due = due
  layer : q.layer = layer

theorem newPat_of_free {s : State} (h : s.freeNums ≠ []) (kind : PatKind) (st : PatSt) (lanes : List LaneSet) (due lead : Nat)
    (timed : Bool) (layer : Nat) : ∃ (n : Nat) (q : PatEnt) (u : State), s.newPat kind st lanes due lead timed layer = some (n, u)
      ∧ u.yk.store = s.yk.store ++ [q] ∧ u.pth = s.pth ∧ q.Takes s.freeNums kind st due layer := by
  unfold State.newPat
  extract_lets l f n y
  have hlt : Config.freePick f.1 % l.length < l.length := Nat.mod_lt _ (List.length_pos_iff.2 h)
  have hn : n ∈ l := by
    simp only [n, List.getD_eq_getElem _ _ hlt]
    exact List.getElem_mem _
  rw [if_neg (by simpa [List.isEmpty_iff] using h)]
  clear_value n
  exact ⟨n, _, _, rfl, rfl, rfl, hn, rfl, rfl, rfl, rfl⟩

/-! ### The lanes of the pattern (R168, R172) -/

/-- Of the path service only the records shown have changed. -/
def RecsOnly (s u : State) : Prop := ∃ conn, u.pth = { s.pth with conn := conn }

section
variable {s u v : State}

theorem RecsOnly.of_pth (h : u.pth = s.pth) : RecsOnly s u := ⟨_, h⟩

theorem RecsOnly.trans (h : RecsOnly s u) (k : RecsOnly u v) : RecsOnly s v := by
  obtain ⟨_, h⟩ := h
  obtain ⟨_, k⟩ := k
  exact ⟨_, by rw [k, h]⟩

theorem RecsOnly.setRec (key : Nat) (r : PathRec) : RecsOnly s (s.setRec key r) := ⟨_, rfl⟩

end

theorem openPath_pth (s : State) (a b : Nat) : (s.openPath a b).2.2.pth = s.pth := (openPath_keeps s a b _ rfl).frame .pth rfl

theorem stageLanes_recs (s : State) (l : List Chg) : RecsOnly s (s.stageLanes l).2.2 := by
  refine foldl_keeps (fun acc : List LaneSet × Bool × State => RecsOnly s acc.2.2) (.of_pth rfl) fun acc c h => ?_
  split
  · next r _ =>
    split
    · exact h
    · extract_lets o rc s1
      have ho : RecsOnly s o.2.2 := h.trans (.of_pth (openPath_pth ..))
      simp only [s1]
      split
      · exact (ho.trans (.setRec ..)).trans (.of_pth (raise_pth ..))
      · exact ho.trans (.setRec ..)
  · exact h

theorem patLanes_recs (s : State) (layer : Nat) (l : List Chg) : RecsOnly s (s.patLanes layer l).2.2 := stageLanes_recs s l

theorem patLanes_yk (s : State) (layer : Nat) (l : List Chg) : (s.patLanes layer l).2.2.yk = s.yk :=
  (patLanes_keeps s layer l _ rfl).frame .yk rfl

/-! ### Announcements (R221, R222) -/

theorem sendMap_patterns (s : State) (m : SMap (Option Route)) (layer t : Nat) : PatternsKept s (s.sendMap m layer t) := announce_patterns ..

theorem announceTxn_patterns (s : State) (p : Placed) (pat k : Nat) : PatternsKept s (s.announceTxn p pat k) := by
  unfold State.announceTxn
  extract_lets ly s1
  have h1 : PatternsKept s s1 := by
    simp only [s1]
    split
    · exact sendMap_patterns ..
    · exact .refl
  split
  · exact h1
  · split
    · exact h1.trans ((notice_patterns ..).trans (notice_patterns ..))
    · exact h1.trans (notice_patterns ..)

/-! ### A transaction that is staged (R204, R206, R207) -/

theorem staticDue_floor (s : State) (endT : Nat) (want : Option Nat) (after lead : Nat) :
    (s.staticDue endT want after lead).floor = (s.staticDue endT want after lead).due := by
  unfold State.staticDue
  extract_lets asap b0 late b1 b2
  split <;> rfl

/-- In STATIC mode the boundary of a request is also the time before which it may not fire. -/
theorem txnDue_floor {s : State} {x : Txn} (h : s.isCal x.layer = false) (loop rearr : Bool) (endT : Nat) :
    (s.txnDue x loop rearr endT).floor = (s.txnDue x loop rearr endT).due := by
  simp only [State.txnDue, h, Bool.false_eq_true, if_false, staticDue_floor]

/-- A transaction's pattern has taken an entry of the store for the due time `d`; no plan and no route in force has changed. -/
structure TxnStaged (p : Placed) (d : DueR) (s u : State) : Prop where
  store : ∃ q, u.yk.store = s.yk.store ++ [q] ∧ q.Takes s.freeNums .request .staged d.floor p.txn.layer
  plan : u.pth.plan = s.pth.plan
  live : u.pth.live = s.pth.live

/-- A transaction of this module alone whose boundary the scheduler chooses itself (R206, R341). -/
structure Placed.Own (p : Placed) : Prop where
  mirDue : p.mirDue = none
  seg : p.seg = none

theorem stage_stages {s : State} {p : Placed} (h : p.Own) (hfree : 5 ≤ s.freeNums.length)
    (htime : (s.txnDue p.txn p.loop p.rearr s.clr.now).late = false ∨ s.fb YK_CTRL.LATE_MODE [] = false) :
    TxnStaged p (s.txnDue p.txn p.loop p.rearr s.clr.now) s (s.stage p) := by
  unfold State.stage
  extract_lets x d lanes s1 timed
  have hd : d = s.txnDue p.txn p.loop p.rearr s.clr.now := by simp [d, x, h.mirDue]
  clear_value d
  subst hd
  have hkind : ∀ u : State, u.segKind p = .request := fun u => by simp only [State.segKind, h.seg]
  have htime' : ¬ ((s.txnDue p.txn p.loop p.rearr s.clr.now).late && s.fb YK_CTRL.LATE_MODE []) = true := by
    rcases htime with h | h <;> simp [h]
  rw [if_neg (by simpa [h.mirDue] using hfree), if_neg htime']
  have hyk : s1.yk = s.yk := patLanes_yk ..
  obtain ⟨conn, hrecs⟩ : RecsOnly s s1 := patLanes_recs ..
  have hnums : s1.freeNums = s.freeNums := by rw [State.freeNums, hyk, State.freeNums]
  obtain ⟨n, q, u, hnew, hstore, hpth, htakes⟩ := newPat_of_free (s := s1) (by rw [hnums]; exact List.length_pos_iff.1 (by omega))
    (s1.segKind p) .staged lanes.1 (s.txnDue p.txn p.loop p.rearr s.clr.now).floor s1.leadNs timed x.layer
  rw [hkind, hnums] at htakes
  split
  · next hnone => exact absurd (hnew.symm.trans hnone) nofun
  · next n' s2 hsome =>
    obtain ⟨rfl, rfl⟩ : n = n' ∧ u = s2 := by simpa using hnew.symm.trans hsome
    extract_lets s3 s4 s5
    have h5 : Keeps 0x100004 s3 s5 := .ite ((raise_keeps ..).step (.ite (countLate_keeps s3) .refl) rfl) (.ite (countLate_keeps s3) .refl)
    have hann := announceTxn_patterns s5 p n (p.mirDue.getD (s.txnDue p.txn p.loop p.rearr s.clr.now).due)
    have hpth' : (s5.announceTxn p n (p.mirDue.getD (s.txnDue p.txn p.loop p.rearr s.clr.now).due)).pth = s3.pth :=
      ((announceTxn_keeps ..).frame .pth rfl).trans (h5.frame .pth rfl)
    have hplan : s3.pth.plan = s.pth.plan ∧ s3.pth.live = s.pth.live := by
      simp only [s3, State.modTxn, hpth, hrecs, and_self]
    refine ⟨⟨q, ?_, htakes⟩, by rw [hpth', hplan.1], by rw [hpth', hplan.2]⟩
    rw [hann.store, show s5.yk = u.yk from h5.frame .yk rfl, hstore, hyk]

/-! ### A transaction that finds the store full (R204) -/

theorem recWalk_ids (key : Nat) (rc : PathRec) (l : List Placed) : (recWalk key rc l).1.map Placed.id = l.map Placed.id := by
  induction l with
  | nil => rfl
  | cons q l ih =>
    unfold recWalk
    split
    · simp [ih]
    · extract_lets q1 r
      split
      · simp [q1]
      · simp [q1, r, ih]

theorem oldWalk_ids (key : Nat) (old : Option Route) (l : List Placed) : (oldWalk key old l).1.map Placed.id = l.map Placed.id := by
  induction l with
  | nil => rfl
  | cons q l ih =>
    unfold oldWalk
    split
    · simp
    · simp [ih]

theorem recWrite_ids (s : State) (n key : Nat) (f : PathRec → PathRec) :
    (s.recWrite n key f).pth.placed.map Placed.id = s.pth.placed.map Placed.id := by
  unfold State.recWrite
  extract_lets l rc w pth s1
  have h1 : s1.pth.placed.map Placed.id = s.pth.placed.map Placed.id := by
    simp only [s1, w, l, List.map_append, recWalk_ids]
    rw [← List.map_append, List.take_append_drop]
  split
  · exact h1
  · exact h1

theorem undoChg_ids (s : State) (p : Placed) (c : Chg) : (s.undoChg p c).pth.placed.map Placed.id = s.pth.placed.map Placed.id := by
  unfold State.undoChg
  extract_lets n fired gone old s1 w pth
  have hw : (s1.pth.placed.take n ++ w.1).map Placed.id = s1.pth.placed.map Placed.id := by
    rw [List.map_append, oldWalk_ids, ← List.map_append, List.take_append_drop]
  exact hw.trans (recWrite_ids ..)

/-- A transaction that is withdrawn leaves the list of those placed. -/
theorem withdraw_ids {s : State} {p : Placed} (h : p ∈ s.pth.placed) :
    (s.withdraw p).pth.placed.map Placed.id = (s.pth.placed.map Placed.id).filter (· ≠ p.id) := by
  have hids : ∀ (q : Placed) (l : List Chg), (l.foldl (fun s c => s.undoChg q c) s).pth.placed.map Placed.id = s.pth.placed.map Placed.id :=
    fun q l => foldl_keeps (fun u : State => u.pth.placed.map Placed.id = s.pth.placed.map Placed.id) rfl
      fun u c hu => (undoChg_ids u q c).trans hu
  unfold State.withdraw
  split
  · next q hq =>
    have hid : q.id = p.id := by simpa using List.find?_some hq
    rw [State.dropPlaced, ← hids q q.chg, List.filter_map, ← hid]
    rfl
  · next hnone => exact absurd (List.find?_eq_none.1 hnone p h) (by simp)

/-- The only transaction placed, with one change, takes its change back from the plan when it is withdrawn. -/
theorem withdraw_alone_plan {s : State} {p : Placed} {c : Chg} (hp : s.pth.placed = [p]) (hc : p.chg = [c]) :
    (s.withdraw p).pth.plan = sset s.pth.plan c.key c.old := by
  have htaken : s.taken 1 c = false := by
    unfold State.taken
    split
    · rfl
    · simp [hp]
  have hrec : s.recWrite 1 c.key (fun _ => c.rcd) = s.setRec c.key c.rcd := upTo_alone hp ▸ recWrite_alone hp c.key fun _ => c.rcd
  rw [State.withdraw, txn?_alone hp]
  simp [hc, State.dropPlaced, State.undoChg, upTo_alone hp, htaken, hrec, State.setRec, hp, oldWalk]

theorem stage_full {s : State} {p : Placed} (h : p.Own) (hfree : s.freeNums.length < 5) :
    s.stage p = ((s.withdraw p).rejectTxn p.txn stTime).raise YK_EVT.STORE_FULL [] := by
  simp [State.stage, h.mirDue, hfree]

/-! ### The statement -/

section
variable (s : State) (t : Nat)

@[simp] theorem passTo_freeNums : (s.passTo t).freeNums = s.freeNums := passTo_congr s t (·.freeNums) fun _ => rfl
@[simp] theorem passTo_isCal (layer : Nat) : (s.passTo t).isCal layer = s.isCal layer := passTo_congr s t (·.isCal layer) fun _ => rfl

end

theorem exec_stagingEnd (s : State) (t : Nat) : exec (.stagingEnd t) s = .next (doStagingEnd t s) := rfl

theorem doStagingEnd_first {s : State} {p : Placed} (h : s.pth.placed.find? (fun p => !p.staged && !p.hold && !p.rb) = some p) (t : Nat) :
    doStagingEnd t s = State.schedEvent s ((s.passTo t).stage p) := by
  simp [doStagingEnd, h]

/-- Settles O33: with a free entry the pattern takes one; without, the transaction is withdrawn from the plan and refused. -/
theorem stagingEnd : Obligations.StagingEnd := by
  unfold Obligations.StagingEnd
  intro s t p c hfirst hmir hseg
  have hown : p.Own := ⟨hmir, hseg⟩
  have hlanes : (doStagingEnd t s).lanes = s.lanes := (doStagingEnd_keeps t s).frame .lanes rfl
  rw [doStagingEnd_first hfirst t] at hlanes
  refine ⟨fun hfree htime => ?staged, fun hfull => ?full⟩
  case staged =>
    obtain ⟨⟨q, hstore, htakes⟩, hplan, hlive⟩ := stage_stages (s := s.passTo t) hown (by simpa using hfree) (by simpa using htime)
    refine .of_eq (exec_stagingEnd s t) (doStagingEnd_first hfirst t) ⟨⟨q, by simpa using hstore, htakes.st, htakes.kind,
      by simpa using htakes.num, fun hcal => htakes.due.trans ?_, fun _ => htakes.due, htakes.layer⟩, hlanes,
      by simpa using hplan, by simpa using hlive⟩
    exact txnDue_floor (by simpa using hcal) ..
  case full =>
    have hk : Keeps 0x102204 (s.passTo t) ((s.passTo t).stage p) := by
      rw [stage_full hown (by simpa using hfull)]
      exact (raise_keeps ..).step ((rejectTxn_keeps ..).step ((withdraw_keeps ..).step .refl rfl) rfl) rfl
    have hpth : ((s.passTo t).stage p).pth = ((s.passTo t).withdraw p).pth := by
      rw [stage_full hown (by simpa using hfull), raise_pth]
      exact (rejectTxn_keeps ..).frame .pth rfl
    have hyk : ((s.passTo t).stage p).yk = s.yk := (hk.frame .yk rfl).trans (passTo_yk s t)
    refine .of_eq (exec_stagingEnd s t) (doStagingEnd_first hfirst t) ⟨?_, by simp [hyk], hlanes, ?_, fun hp hc => ?_⟩
    · rw [schedEvent_f, stage_full hown (by simpa using hfull)]
      exact raise_f_same _ (by decide) (by decide)
    · rw [schedEvent_pth, hpth, withdraw_ids (by simpa using List.mem_of_find?_eq_some hfirst), passTo_pth]
    · rw [schedEvent_pth, hpth, withdraw_alone_plan (by simpa using hp) hc, passTo_pth]

end Sys2Proof.Machine
end

section
/-! PROOF. Edges of PPS_IN and missed seconds, and the statement on them (O26). -/
namespace Sys2Proof.Machine

/-! ### The clock under the commands (R192) -/

section
variable (s : State)

theorem passTo_clr {s : State} (h : 7 < s.sys.stage) (t : Nat) : (s.passTo t).clr = { s.clr with now := max s.clr.now t } := by
  simp [State.passTo, h]

/-- Network time running on changes nothing else of the clock. -/
theorem passTo_clr_field {α : Type} (s : State) (t : Nat) (g : Clr → α) (h : ∀ k n, g { k with now := n } = g k) :
    g (s.passTo t).clr = g s.clr := by
  unfold State.passTo
  split
  · exact h ..
  · rfl

@[simp] theorem passTo_clr_st (t : Nat) : (s.passTo t).clr.st = s.clr.st := passTo_clr_field s t Clr.st fun _ _ => rfl
@[simp] theorem passTo_clr_ppsOk (t : Nat) : (s.passTo t).clr.ppsOk = s.clr.ppsOk := passTo_clr_field s t Clr.ppsOk fun _ _ => rfl
@[simp] theorem passTo_clr_edgeIn (t : Nat) : (s.passTo t).clr.edgeIn = s.clr.edgeIn := passTo_clr_field s t Clr.edgeIn fun _ _ => rfl
@[simp] theorem passTo_clr_missed (t : Nat) : (s.passTo t).clr.missed = s.clr.missed := passTo_clr_field s t Clr.missed fun _ _ => rfl
@[simp] theorem passTo_clr_lastEdge (t : Nat) : (s.passTo t).clr.lastEdge = s.clr.lastEdge :=
  passTo_clr_field s t Clr.lastEdge fun _ _ => rfl

@[simp] theorem setClr_clr (k : Clr) : (s.setClr k).clr = k := rfl
@[simp] theorem setClr_setClr (j k : Clr) : (s.setClr j).setClr k = s.setClr k := rfl
@[simp] theorem setClr_reg (k : Clr) (r : Reg) (ix : List Nat) : (s.setClr k).reg r ix = s.reg r ix := rfl
@[simp] theorem setClr_f (k : Clr) (x : Fld) (ix : List Nat) : (s.setClr k).f x ix = s.f x ix := rfl
@[simp] theorem setClr_fb (k : Clr) (x : Fld) (ix : List Nat) : (s.setClr k).fb x ix = s.fb x ix := rfl

/-- A step sets network time, and moves the instants that are measured by it (R201). -/
theorem makeStep_clr (n : Nat) : ∃ e d, (s.makeStep n).clr = { s.clr with now := n, stepP := false, lastEdge := e, todEdge := d } := by
  unfold State.makeStep
  extract_lets d k0 k s1 s2 grid s3
  have h1 : s1.clr = k := raise_clr ..
  exact ⟨_, _, ((offer_keeps ..).frame .clr rfl).trans h1⟩

end

/-! ### An accepted edge (R194) -/

/-- The clock has just accepted an edge. -/
structure Clr.Accepted (k : Clr) : Prop where
  ppsOk : k.ppsOk = true
  edgeIn : k.edgeIn = true
  missed : k.missed = 0
  badRun : k.badRun = 0

theorem Clr.Accepted.go {k : Clr} (h : k.Accepted) (st : ClrSt) : (k.go st).Accepted := by
  unfold Clr.go
  split
  · exact h
  · exact ⟨h.ppsOk, h.edgeIn, h.missed, h.badRun⟩

theorem Clr.Accepted.measured {k : Clr} (h : k.Accepted) (x : Int) : Clr.Accepted { k with phi := x } :=
  ⟨h.ppsOk, h.edgeIn, h.missed, h.badRun⟩

theorem Clr.Accepted.waiting {k : Clr} (h : k.Accepted) (b : Bool) : Clr.Accepted { k with stepP := b } :=
  ⟨h.ppsOk, h.edgeIn, h.missed, h.badRun⟩

theorem Clr.Accepted.discipline {k : Clr} (h : k.Accepted) (use : Int) : (k.discipline use).Accepted :=
  ⟨h.ppsOk, h.edgeIn, h.missed, h.badRun⟩

section
variable {s : State} (h : s.clr.Accepted)
include h

theorem makeStep_accepted (n : Nat) : (s.makeStep n).clr.Accepted := by
  obtain ⟨e, d, hclr⟩ := makeStep_clr s n
  rw [hclr]
  exact ⟨h.ppsOk, h.edgeIn, h.missed, h.badRun⟩

theorem settingDone_accepted : s.settingDone.clr.Accepted := by
  unfold State.settingDone
  extract_lets s1 k0 k
  have h1 : s1.clr = s.clr := by
    simp only [s1]
    split <;> rfl
  have hk : k.Accepted := by
    simp only [k, k0, h1]
    exact ⟨h.ppsOk, h.edgeIn, h.missed, h.badRun⟩
  rw [setClr_clr]
  split
  · exact hk.go _
  · exact hk

theorem enterAcquire_accepted : s.enterAcquire.clr.Accepted := by
  unfold State.enterAcquire
  split
  · exact h.go _
  · exact h

theorem lockEdge_accepted (phi : Int) : (s.lockEdge phi).clr.Accepted := by
  unfold State.lockEdge
  extract_lets k thr n1 n2
  split
  · split
    · exact h.go _
    · exact ⟨h.ppsOk, h.edgeIn, h.missed, h.badRun⟩
  · split
    · split
      · rw [raise_clr]
        exact h.go _
      · exact ⟨h.ppsOk, h.edgeIn, h.missed, h.badRun⟩
    · exact h

end

/-- The edge is accepted: what the clock notes of it. -/
def State.takeEdge (s : State) : State :=
  s.setClr { s.clr.lapse with
    ppsOk := true, lastEdge := some s.clr.now, edgeIn := true, missed := 0, badRun := 0, todSeen := false }

/-- A setting that is due is made, or waits for the Yoke (R197, R201). -/
def State.useSetting (s : State) : State :=
  match (if s.settingDue then s.edgeStep else none) with
  | some n =>
    if s.ykQuiet then (s.makeStep n).settingDone
    else s.setClr { s.clr with stepP := true, setAt := some (s.clr.setAt.getD s.clr.now), todSet := s.clr.todSet }
  | none => s

/-- The phase error of the edge is taken, and FREERUN and HOLDOVER are left for ACQUIRE (R198). -/
def State.measure (s : State) : State := (s.setClr { s.clr with phi := phiOf s.clr.now }).enterAcquire

/-- The edge disciplines the clock in ACQUIRE and LOCKED (R199, R201). -/
def State.useEdge (s : State) (err : Int) (waits : Bool) : State :=
  if s.clr.st = .acquire ∨ s.clr.st = .locked then
    let u := s.lockEdge err
    if waits then u.setClr (u.clr.discipline (err - roundUs err))
    else match (if u.clr.st = .acquire ∧ u.fb CLR_CTRL.STEP_EN [] = true ∧ 1000 ≤ err.natAbs
        then some ((u.clr.now : Int) - roundUs err).toNat else none) with
      | some n =>
        if u.ykQuiet then (u.makeStep n).setClr ((u.makeStep n).clr.discipline (err - roundUs err))
        else u.setClr ({ u.clr with stepP := true }.discipline (err - roundUs err))
      | none => u.setClr ({ u.clr with stepP := false }.discipline err)
  else s.setClr { s.clr with stepP := waits }

/-- The parts of an accepted edge, in their order. -/
theorem edgeIn_eq (s : State) : s.edgeIn = s.takeEdge.useSetting.measure.useEdge (phiOf s.takeEdge.useSetting.clr.now)
    (s.takeEdge.settingDue && !s.takeEdge.ykQuiet) := by
  unfold State.edgeIn
  extract_lets k0 s0 due k1 s1 waits phi k2 s2 s3 k3 k4
  show _ = s2.useEdge phi waits
  unfold State.useEdge
  rfl

theorem useSetting_accepted {s : State} (h : s.clr.Accepted) : s.useSetting.clr.Accepted := by
  unfold State.useSetting
  split
  · split
    · exact settingDone_accepted (makeStep_accepted h _)
    · exact ⟨h.ppsOk, h.edgeIn, h.missed, h.badRun⟩
  · exact h

theorem useEdge_accepted {s : State} (h : s.clr.Accepted) (err : Int) (waits : Bool) : (s.useEdge err waits).clr.Accepted := by
  have hu := lockEdge_accepted h err
  unfold State.useEdge
  split
  · dsimp only
    split
    · exact hu.discipline _
    · split
      · split
        · exact (makeStep_accepted hu _).discipline _
        · exact (hu.waiting true).discipline _
      · exact (hu.waiting false).discipline _
  · exact h.waiting waits

theorem edgeIn_accepted (s : State) : s.edgeIn.clr.Accepted := by
  have h0 : s.takeEdge.clr.Accepted := ⟨rfl, rfl, rfl, rfl⟩
  have h1 := useSetting_accepted h0
  have h2 : s.takeEdge.useSetting.measure.clr.Accepted :=
    enterAcquire_accepted (s := s.takeEdge.useSetting.setClr _) (h1.measured _)
  rw [edgeIn_eq]
  exact useEdge_accepted h2 ..

/-! ### An accepted edge in ACQUIRE (R198, R199) -/

theorem lapse_eq (k : Clr) : ∃ x, k.lapse = { k with todSet := x } ∧ (x.isSome = true → k.todSet.isSome = true) := by
  unfold Clr.lapse
  split
  · exact ⟨none, rfl, nofun⟩
  · exact ⟨k.todSet, rfl, id⟩

/-- The state that ACQUIRE leaves at an accepted edge of phase error phi (R198). -/
def State.lockSt (s : State) (phi : Int) : ClrSt :=
  if phi.natAbs ≤ s.f CLR_DISC.LOCK_THR [] ∧ s.f CLR_DISC.LOCK_N [] ≤ s.clr.lockRun + 1 ∨ s.f CLR_DISC.LOCK_N [] = 0 then .locked
  else .acquire

theorem lockEdge_acquire {s : State} (h : s.clr.st = .acquire) (phi : Int) :
    ∃ m n, s.lockEdge phi = s.setClr { s.clr with st := s.lockSt phi, lockRun := m, unlockRun := n } := by
  have hn : s.f CLR_DISC.LOCK_N [] ≤ (if phi.natAbs ≤ s.f CLR_DISC.LOCK_THR [] then s.clr.lockRun + 1 else 0)
      ↔ phi.natAbs ≤ s.f CLR_DISC.LOCK_THR [] ∧ s.f CLR_DISC.LOCK_N [] ≤ s.clr.lockRun + 1 ∨ s.f CLR_DISC.LOCK_N [] = 0 := by
    split <;> omega
  simp only [State.lockEdge, h, if_true, hn, State.lockSt]
  split
  · exact ⟨0, 0, by simp [Clr.go, h]⟩
  · exact ⟨_, s.clr.unlockRun, by rw [← h]⟩

/-- In ACQUIRE, with no setting due and no step allowed, an accepted edge disciplines the clock. -/
structure Disciplined (err : Int) (s u : State) : Prop where
  now : u.clr.now = s.clr.now
  phi : u.clr.phi = err
  fint : u.clr.fint = s.clr.fint - asr err 4
  adj : u.clr.adj = clampI (-5000) 5000 (u.clr.fint - asr err 1)
  st : u.clr.st = s.lockSt err

theorem takeEdge_settingDue {s : State} (hdue : s.settingDue = false) : s.takeEdge.settingDue = false := by
  obtain ⟨x, hx, hsome⟩ := lapse_eq s.clr
  have hset : (s.fb CLR_CTRL.TOD_EN [] && x.isSome) = true → (s.fb CLR_CTRL.TOD_EN [] && s.clr.todSet.isSome) = true := by
    simp only [Bool.and_eq_true]
    exact And.imp_right hsome
  simp only [State.settingDue, Bool.or_eq_false_iff] at hdue
  simp only [State.settingDue, State.takeEdge, hx, setClr_clr, setClr_fb, Bool.or_eq_false_iff]
  exact ⟨Bool.eq_false_iff.2 fun h => absurd (hset h) (Bool.eq_false_iff.1 hdue.1), hdue.2⟩

theorem useSetting_of_not_due {s : State} (h : s.settingDue = false) : s.useSetting = s := by simp [State.useSetting, h]

theorem measure_acquire {s : State} (h : s.clr.st = .acquire) : s.measure = s.setClr { s.clr with phi := phiOf s.clr.now } := by
  simp [State.measure, State.enterAcquire, h]

theorem useEdge_acquire {s : State} (h : s.clr.st = .acquire) (hstep : s.fb CLR_CTRL.STEP_EN [] = false) (err : Int) :
    ∃ m n, s.useEdge err false = s.setClr (Clr.discipline { s.clr with
      st := s.lockSt err, lockRun := m, unlockRun := n, stepP := false } err) := by
  obtain ⟨m, n, hlock⟩ := lockEdge_acquire h err
  refine ⟨m, n, ?_⟩
  have hstep' : (s.lockEdge err).fb CLR_CTRL.STEP_EN [] = false := by rw [hlock, setClr_fb, hstep]
  rw [State.useEdge, if_pos (.inl h)]
  simp only [Bool.false_eq_true, if_false, hstep', false_and, and_false]
  rw [hlock, setClr_setClr, setClr_clr]

theorem setClr_lockSt {s : State} {k : Clr} (h : k.lockRun = s.clr.lockRun) (err : Int) : (s.setClr k).lockSt err = s.lockSt err := by
  simp only [State.lockSt, setClr_f, setClr_clr, h]

/-- The state in which an edge is used that changes no state of the clock: only the phase error is taken. -/
structure Measured (s u : State) : Prop where
  st : u.clr.st = s.clr.st
  now : u.clr.now = s.clr.now
  phi : u.clr.phi = phiOf s.clr.now
  fint : u.clr.fint = s.clr.fint
  lockSt : ∀ err, u.lockSt err = s.lockSt err
  stepEn : u.fb CLR_CTRL.STEP_EN [] = s.fb CLR_CTRL.STEP_EN []

theorem measure_measured {s : State} (h : s.clr.st = .acquire) : Measured s s.takeEdge.measure := by
  obtain ⟨x, hx, -⟩ := lapse_eq s.clr
  have htake : s.takeEdge = s.setClr { s.clr with
      todSet := x, ppsOk := true, lastEdge := some s.clr.now, edgeIn := true, missed := 0, badRun := 0, todSeen := false } := by
    rw [State.takeEdge, hx]
  rw [measure_acquire (by rw [htake, setClr_clr, h]), htake]
  refine ⟨by rw [setClr_clr, setClr_clr], by rw [setClr_clr, setClr_clr], by rw [setClr_clr, setClr_clr],
    by rw [setClr_clr, setClr_clr], fun err => ?_, by rw [setClr_fb, setClr_fb]⟩
  rw [setClr_lockSt, setClr_lockSt] <;> rfl

theorem Disciplined.of_measured {s u v : State} {err : Int} (h : Measured s u) (hphi : phiOf s.clr.now = err)
    {m n : Nat} (hv : v.clr = Clr.discipline { u.clr with st := u.lockSt err, lockRun := m, unlockRun := n, stepP := false } err) :
    Disciplined err s v := by
  refine ⟨?_, ?_, ?_, ?_, ?_⟩ <;> rw [hv]
  · exact h.now
  · exact h.phi.trans hphi
  · exact congrArg (· - asr err 4) h.fint
  · rfl
  · exact h.lockSt err

theorem edgeIn_acquire {s : State} (h : s.clr.st = .acquire) (hdue : s.settingDue = false) (hstep : s.fb CLR_CTRL.STEP_EN [] = false) :
    Disciplined (phiOf s.clr.now) s s.edgeIn := by
  have hdue' := takeEdge_settingDue hdue
  have hnow : s.takeEdge.clr.now = s.clr.now := by
    obtain ⟨x, hx, -⟩ := lapse_eq s.clr
    rw [State.takeEdge, hx, setClr_clr]
  have hmeas := measure_measured h
  obtain ⟨m, n, huse⟩ := useEdge_acquire (hmeas.st.trans h) (hmeas.stepEn.trans hstep) (phiOf s.clr.now)
  rw [edgeIn_eq, useSetting_of_not_due hdue', hdue', hnow, Bool.false_and, huse]
  exact .of_measured hmeas rfl (setClr_clr _ _)

/-! ### An edge outside the window (R194) -/

theorem badEdge_keeps (k : Clr) (phi : Int) : (k.badEdge phi).st = k.st ∧ (k.badEdge phi).ppsOk = k.ppsOk ∧ (k.badEdge phi).adj = k.adj := by
  unfold Clr.badEdge
  extract_lets d lo hi
  split <;> exact ⟨rfl, rfl, rfl⟩

theorem edgeOut_locked {s : State} (h : s.clr.st = .locked) :
    s.edgeOut = (s.setClr (s.clr.badEdge (phiOf s.clr.now))).raise CLR_EVT.PPS_BAD [] := by
  simp [State.edgeOut, (badEdge_keeps ..).1, h]

/-! ### The command (R194) -/

/-- The state in which an edge at time t is judged. -/
def State.atEdge (s : State) (t : Nat) : State := (s.passTo t).icEdge 416

theorem atEdge_f (s : State) (t : Nat) {x : Fld} {ix : List Nat} (h : x.reg.at ix < 0x40000400) : (s.atEdge t).f x ix = s.f x ix :=
  (f_of_reg (icEdge_reg _ _ h)).trans (passTo_f ..)

theorem atEdge_fb (s : State) (t : Nat) {x : Fld} {ix : List Nat} (h : x.reg.at ix < 0x40000400) : (s.atEdge t).fb x ix = s.fb x ix :=
  fb_of_f (atEdge_f s t h)

theorem atEdge_clr {s : State} (h : 7 < s.sys.stage) (t : Nat) : (s.atEdge t).clr = { s.clr with now := max s.clr.now t } :=
  ((icEdge_keeps ..).frame .clr rfl).trans (passTo_clr h t)

theorem exec_ppsEdge (s : State) (t : Nat) : exec (.ppsEdge t) s = .next (doPpsEdge t s) := rfl

/-- An edge counts: the reference has locked in the boot, and PPS_EN is 1 (R194). -/
structure State.TakesEdges (s : State) : Prop where
  locked : 7 < s.sys.stage
  enabled : s.fb CLR_CTRL.PPS_EN [] = true

/-- An edge at time t is accepted: time is UNSET, or it lies within PPS_WIN (R194). -/
def State.accepts (s : State) (t : Nat) : Prop :=
  s.clr.st = .unset ∨ (phiOf (max s.clr.now t)).natAbs ≤ s.f CLR_DISC.PPS_WIN []

section
variable {s : State} (h : s.TakesEdges) (t : Nat)
include h

theorem atEdge_inWindow : ((s.atEdge t).clr.st = .unset || decide ((phiOf (s.atEdge t).clr.now).natAbs ≤ (s.atEdge t).f CLR_DISC.PPS_WIN []))
    = true ↔ s.accepts t := by
  rw [atEdge_clr h.locked, atEdge_f s t (by decide), State.accepts, Bool.or_eq_true, decide_eq_true_eq, decide_eq_true_eq]

theorem doPpsEdge_accepted (ha : s.accepts t) : doPpsEdge t s = State.clockEvent s (s.atEdge t).edgeIn := by
  have hguard : ¬ (s.sys.stage ≤ 7 ∨ s.fb CLR_CTRL.PPS_EN [] = false) := by simp [h.enabled, h.locked]
  rw [doPpsEdge, if_neg hguard]
  exact congrArg (State.clockEvent s) (if_pos ((atEdge_inWindow h t).2 ha))

theorem doPpsEdge_outside (ha : ¬ s.accepts t) : doPpsEdge t s = State.clockEvent s (s.atEdge t).edgeOut := by
  have hguard : ¬ (s.sys.stage ≤ 7 ∨ s.fb CLR_CTRL.PPS_EN [] = false) := by simp [h.enabled, h.locked]
  rw [doPpsEdge, if_neg hguard]
  exact congrArg (State.clockEvent s) (if_neg fun hin => ha ((atEdge_inWindow h t).1 hin))

theorem atEdge_settingDue : (s.atEdge t).settingDue = s.settingDue := by
  simp only [State.settingDue, atEdge_fb s t (x := CLR_CTRL.TOD_EN) (ix := []) (by decide),
    atEdge_fb s t (x := CLR_SET_SECH.ARM) (ix := []) (by decide), atEdge_clr h.locked]

theorem atEdge_lockSt (phi : Int) : (s.atEdge t).lockSt phi = s.lockSt phi := by
  simp only [State.lockSt, atEdge_f s t (x := CLR_DISC.LOCK_THR) (ix := []) (by decide),
    atEdge_f s t (x := CLR_DISC.LOCK_N) (ix := []) (by decide), atEdge_clr h.locked]

theorem runs_ppsEdge_accepted (ha : s.accepts t) : Runs (.ppsEdge t) s fun u =>
    u.clr.ppsOk = true ∧ u.clr.edgeIn = true ∧ u.clr.missed = 0 ∧ u.clr.badRun = 0
    ∧ (s.clr.st = .acquire → s.settingDue = false → s.fb CLR_CTRL.STEP_EN [] = false →
        u.clr.now = max s.clr.now t ∧ u.clr.phi = phiOf (max s.clr.now t)
        ∧ u.clr.fint = s.clr.fint - asr (phiOf (max s.clr.now t)) 4
        ∧ u.clr.adj = clampI (-5000) 5000 (u.clr.fint - asr (phiOf (max s.clr.now t)) 1)
        ∧ u.clr.st = s.lockSt (phiOf (max s.clr.now t))) := by
  have hacc := edgeIn_accepted (s.atEdge t)
  have hclr := atEdge_clr h.locked t
  refine .of_eq (exec_ppsEdge s t) (doPpsEdge_accepted h t ha) ?_
  rw [clockEvent_clr]
  refine ⟨hacc.ppsOk, hacc.edgeIn, hacc.missed, hacc.badRun, fun hst hdue hstep => ?_⟩
  obtain ⟨hnow, hphi, hfint, hadj, hlock⟩ := edgeIn_acquire (s := s.atEdge t) (by rw [hclr]; exact hst)
    ((atEdge_settingDue h t).trans hdue) ((atEdge_fb s t (by decide)).trans hstep)
  rw [atEdge_lockSt h] at hlock
  rw [hclr] at hnow hphi hfint hadj hlock
  exact ⟨hnow, hphi, hfint, hadj, hlock⟩

theorem runs_ppsEdge_outside (hst : s.clr.st = .locked) (hout : s.f CLR_DISC.PPS_WIN [] < (phiOf (max s.clr.now t)).natAbs) :
    Runs (.ppsEdge t) s fun u =>
      u.clr.st = .locked ∧ u.clr.ppsOk = s.clr.ppsOk ∧ u.clr.adj = s.clr.adj ∧ u.f CLR_EVT.PPS_BAD [] = 1 := by
  have hclr := atEdge_clr h.locked t
  have hlocked : (s.atEdge t).clr.st = .locked := by rw [hclr]; exact hst
  have hno : ¬ s.accepts t := by
    rintro (hu | hin)
    · exact absurd (hst.symm.trans hu) nofun
    · omega
  obtain ⟨hbst, hbok, hbadj⟩ := badEdge_keeps (s.atEdge t).clr (phiOf (s.atEdge t).clr.now)
  refine .of_eq (exec_ppsEdge s t) (doPpsEdge_outside h t hno) ?_
  rw [edgeOut_locked hlocked, clockEvent_clr, raise_clr, setClr_clr, clockEvent_f]
  refine ⟨hbst.trans hlocked, hbok.trans ?_, hbadj.trans ?_, raise_f_same _ (by decide) (by decide)⟩ <;> rw [hclr]

end

/-! ### Missed seconds (R194, R198) -/

/-- The state in which the loss of PPS_IN leaves the clock (R198). -/
def ClrSt.afterLoss : ClrSt → ClrSt
  | .locked => .holdover
  | .acquire => .freerun
  | x => x

/-- PPS_IN is lost. -/
structure PpsLost (s u : State) : Prop where
  ppsOk : u.clr.ppsOk = false
  todOk : u.clr.todOk = false
  st : u.clr.st = s.clr.st.afterLoss
  evt : u.f CLR_EVT.PPS_LOST [] = 1

theorem ppsLost_lost (o s : State) : PpsLost s (State.clockEvent o s.ppsLost) := by
  unfold State.ppsLost
  extract_lets k0 k k1
  have hk : k1.st = s.clr.st.afterLoss ∧ k1.ppsOk = false ∧ k1.todOk = false := by
    cases hst : s.clr.st <;> simp [k1, k, k0, hst, ClrSt.afterLoss, Clr.go]
  refine ⟨?_, ?_, ?_, (clockEvent_f ..).trans (raise_f_same _ (by decide) (by decide))⟩
  all_goals rw [clockEvent_clr, raise_clr, setClr_clr]
  · exact hk.2.1
  · exact hk.2.2
  · exact hk.1

theorem exec_ppsWindowClose (s : State) (t : Nat) : exec (.ppsWindowClose t) s = .next (doPpsWindowClose t s) := rfl

theorem exec_ppsLossBeforeSet (s : State) (t : Nat) : exec (.ppsLossBeforeSet t) s = .next (doPpsLossBeforeSet t s) := rfl

section
variable {s : State} (hset : s.clr.st ≠ .unset) (t : Nat)
include hset

theorem doPpsWindowClose_edge (he : s.clr.edgeIn = true) :
    doPpsWindowClose t s = (s.passTo t).setClr { (s.passTo t).clr with edgeIn := false, missed := 0 } := by
  simp [doPpsWindowClose, hset, he]

/-- The state behind a second without an edge. -/
def State.missSec (s : State) (t : Nat) : State := (s.passTo t).setClr { (s.passTo t).clr with missed := s.clr.missed + 1 }

theorem doPpsWindowClose_loss (he : s.clr.edgeIn = false) (hok : s.clr.ppsOk = true)
    (hn : s.f CLR_HOLD.PPS_LOSS_N [] ≤ s.clr.missed + 1) : doPpsWindowClose t s = State.clockEvent s (s.missSec t).ppsLost := by
  simp [doPpsWindowClose, hset, he, hok, hn, State.missSec]

end

theorem doPpsLossBeforeSet_loss {s : State} {t e : Nat} (hst : s.clr.st = .unset) (hok : s.clr.ppsOk = true) (he : s.clr.lastEdge = some e)
    (hn : e + s.f CLR_HOLD.PPS_LOSS_N [] * secNs ≤ (s.passTo t).clr.now) :
    doPpsLossBeforeSet t s = State.clockEvent s (s.passTo t).ppsLost := by
  simp [doPpsLossBeforeSet, hst, hok, he, hn]

/-- Settles O26: the accepted edge, the edge outside the window, and the loss of PPS_IN, each from its rule. -/
theorem pulsePerSecond : Obligations.PulsePerSecond := by
  unfold Obligations.PulsePerSecond
  refine ⟨fun s t hstage hen => ⟨runs_ppsEdge_accepted ⟨hstage, hen⟩ t, runs_ppsEdge_outside ⟨hstage, hen⟩ t⟩,
    fun s t e => ⟨fun hset he => ?edge, fun hset he hok hn => ?lost, fun hst hok hlast hn => ?before⟩⟩
  case edge =>
    exact .of_eq (exec_ppsWindowClose s t) (doPpsWindowClose_edge hset t he)
      ⟨rfl, rfl, passTo_clr_ppsOk s t, ((passTo_keeps s t).trans (setClr_keeps ..)).changesOnly rfl⟩
  case lost =>
    have hlost := ppsLost_lost s (s.missSec t)
    have hst : (s.missSec t).clr.st = s.clr.st := passTo_clr_st s t
    refine .of_eq (exec_ppsWindowClose s t) (doPpsWindowClose_loss hset t he hok hn) ⟨hlost.ppsOk, hlost.todOk, hlost.evt, ?_⟩
    rw [hlost.st, hst]
    rfl
  case before =>
    have hlost := ppsLost_lost s (s.passTo t)
    refine .of_eq (exec_ppsLossBeforeSet s t) (doPpsLossBeforeSet_loss hst hok hlast hn) ⟨hlost.ppsOk, ?_, hlost.evt⟩
    rw [hlost.st, passTo_clr_st, hst]
    rfl

end Sys2Proof.Machine
end

section
/-! PROOF. The reference input, the time of day, settings of network time and the snapshot (O27). -/
namespace Sys2Proof.Machine

/-! ### REF10M_IN (R195) -/

theorem exec_ref10mWindow (s : State) (b : Bool) : exec (.ref10mWindow b) s = .next (doRef10mWindow b s) := rfl

theorem exec_ref10mLoss (s : State) : exec .ref10mLoss s = .next s.refLost := rfl

theorem refLost_of_ok {s : State} (h : s.clr.refOk = true) :
    s.refLost = State.clockEvent s ((s.setClr { s.clr with refRun := 0, refOk := false }).raise CLR_EVT.REF_LOST []) := by
  simp [State.refLost, h]

/-- The reference input is lost. -/
structure RefLost (u : State) : Prop where
  refOk : u.clr.refOk = false
  refRun : u.clr.refRun = 0
  evt : u.f CLR_EVT.REF_LOST [] = 1

theorem refLost_lost {s : State} (h : s.clr.refOk = true) : RefLost s.refLost := by
  rw [refLost_of_ok h]
  refine ⟨?_, ?_, (clockEvent_f ..).trans (raise_f_same _ (by decide) (by decide))⟩ <;> rw [clockEvent_clr, raise_clr, setClr_clr]

/-! ### TOD_RX (R196, R197) -/

theorem exec_todMessage (s : State) (t : Nat) (msg : List Byte) (gap : Bool) :
    exec (.todMessage t msg gap) s = .next (doTodMessage t msg gap s) := rfl

theorem exec_todWindowClose (s : State) (t : Nat) : exec (.todWindowClose t) s = .next (doTodWindowClose t s) := rfl

theorem exec_holdoverLimit (s : State) (t : Nat) : exec (.holdoverLimit t) s = .next (doHoldoverLimit t s) := rfl

/-- The seconds that a message names (R196). -/
def todSec (msg : List Byte) : Nat := leValue ((msg.drop 2).take 6)

/-- A message that agrees with network time changes of the clock only what it notes of the messages (R197). -/
structure TodAgrees (s u : State) : Prop where
  todOk : u.clr.todOk = true
  todSeen : u.clr.todSeen = true
  st : u.clr.st = s.clr.st
  reg : ∀ r ix, u.reg r ix = s.reg r ix

theorem todUse_agrees {s : State} {sec : Nat} (hset : s.clr.st ≠ .unset) (hsec : sec = s.clr.now / secNs + 1) :
    TodAgrees s (s.todUse sec) := by
  obtain ⟨x, hx, -⟩ := lapse_eq s.clr
  have huse : s.todUse sec = s.setClr { s.clr with todSet := x, todOk := true, todSeen := true, todLast := none } := by
    simp only [State.todUse, hx, if_neg hset, hsec, if_true]
  rw [huse]
  exact ⟨rfl, rfl, rfl, fun _ _ => rfl⟩

section
variable {s : State} {t : Nat} {msg : List Byte} {gap : Bool}

/-- The state in which a message is used: its flags are shown (R196). -/
def State.todShown (s : State) (t : Nat) (msg : List Byte) : State :=
  (s.passTo t).setReg .CLR_TOD [] (wd (leValue [msg.getD 11 0, msg.getD 10 0, msg.getD 8 0, msg.getD 9 0]))

theorem todShown_reg {r : Reg} {ix : List Nat} (h : Reg.CLR_TOD.at [] ≠ r.at ix) : (s.todShown t msg).reg r ix = s.reg r ix := by
  rw [State.todShown, reg_setReg_ne _ _ h, passTo_reg]

theorem doTodMessage_used (hv : todValid msg gap = true) (hw : (s.passTo t).todInWindow = true) (hen : s.fb CLR_CTRL.TOD_EN [] = true) :
    doTodMessage t msg gap s = State.clockEvent s ((s.todShown t msg).todUse (todSec msg)) := by
  have hen' : (s.todShown t msg).fb CLR_CTRL.TOD_EN [] = true := (fb_of_f (f_of_reg (todShown_reg (by decide)))).trans hen
  unfold doTodMessage
  extract_lets s1 s2
  rw [if_pos (by rw [hv, hw]; rfl), if_pos (show s2.fb CLR_CTRL.TOD_EN [] = true from hen')]
  rfl

/-- The state behind a message that is not valid (R196). -/
def State.todBad (s : State) : State := ((s.setClr { s.clr with todLast := none }).bump .CLR_TOD_ERR [] 1).raise CLR_EVT.TOD_BAD []

theorem doTodMessage_invalid (hv : todValid msg gap = false) : doTodMessage t msg gap s = State.clockEvent s (s.passTo t).todBad := by
  simp only [doTodMessage, hv, Bool.false_and, Bool.false_eq_true, if_false, State.todBad]

theorem todBad_err (s : State) : s.todBad.reg .CLR_TOD_ERR [] = satInc (s.reg .CLR_TOD_ERR []) 1 := by
  rw [State.todBad, raise_reg_ne _ (by decide) (by decide), State.bump, reg_setReg_same, setClr_reg]

theorem todBad_todOk (s : State) : s.todBad.clr.todOk = s.clr.todOk := by
  rw [State.todBad, raise_clr]
  rfl

theorem doTodWindowClose_unseen (h : s.clr.todSeen = false) :
    doTodWindowClose t s = (s.passTo t).setClr { (s.passTo t).clr with todOk := false } := by
  have hseen : (s.passTo t).clr.todSeen = false := (passTo_clr_field s t Clr.todSeen fun _ _ => rfl).trans h
  simp [doTodWindowClose, hseen]

theorem doHoldoverLimit_reached (hst : s.clr.st = .holdover) (hn : s.f CLR_HOLD.HOLD_LIMIT [] ≠ 0)
    (ht : s.clr.holdAt + s.f CLR_HOLD.HOLD_LIMIT [] * secNs ≤ (s.passTo t).clr.now) :
    doHoldoverLimit t s = State.clockEvent s ((s.passTo t).raise CLR_EVT.HOLD_LIMIT []) := by
  have hat : (s.passTo t).clr.holdAt = s.clr.holdAt := passTo_clr_field s t Clr.holdAt fun _ _ => rfl
  simp [doHoldoverLimit, hst, hn, hat, ht]

end

/-! ### CLR_CTRL (R198) -/

/-- A write by the access codes stores a bit that is RW (R12). -/
theorem fb_wrCodes_rw {x : Fld} {r : Reg} (hr : x.reg = r) (hx : x.len = 1 ∧ x.lo < 32) (hrw : r.row.rw.testBit x.lo = true)
    (hwc : r.row.w1c.testBit x.lo = false) (s : State) (ix : List Nat) (v : Word) : (s.wrCodes r ix v).fb x ix = bit x.lo v := by
  subst hr
  rw [fb_eq_bit _ hx.1, bit_reg_wrCodes _ _ _ _ hx.2, hwc, hrw]
  rfl

theorem wrCodes_ppsDisc (s : State) (v : Word) :
    (s.wrCodes .CLR_CTRL [] v).ppsDisc = (bit CLR_CTRL.PPS_EN.lo v && bit CLR_CTRL.DISC_EN.lo v) := by
  rw [State.ppsDisc, fb_wrCodes_rw (x := CLR_CTRL.PPS_EN) (r := .CLR_CTRL) rfl (by decide) (by decide) (by decide),
    fb_wrCodes_rw (x := CLR_CTRL.DISC_EN) (r := .CLR_CTRL) rfl (by decide) (by decide) (by decide)]

/-- What a write of CLR_CTRL drops leaves the rest of the clock (R197, R201). -/
theorem dropSteps_clr (s : State) : ∃ a b c d, s.dropSteps.clr = { s.clr with todSet := a, todLast := b, setAt := c, stepP := d }
    ∧ (s.clr.setAt = none → s.fb CLR_CTRL.STEP_EN [] = false → d = false) :=
  ⟨_, _, _, _, rfl, fun hset hstep => by simp [hset, hstep]⟩

theorem exec_clrCtrlWrite {s : State} (h : s.isOpen = true) (v : Word) : exec (.clrCtrlWrite v) s = .next (doClrCtrlWrite v s) :=
  congrArg Host.Outcome.next (hostWr_of_not_shut (not_shut h (.inl (by decide)) nofun))

theorem doClrCtrlWrite_unset {s : State} (h : s.clr.st = .unset) (v : Word) :
    doClrCtrlWrite v s = State.clockEvent s (s.wrCodes .CLR_CTRL [] v).dropSteps := by
  have hst : (s.wrCodes .CLR_CTRL [] v).clr.st = .unset := h
  simp [doClrCtrlWrite, hst]

theorem doClrCtrlWrite_off {s : State} (h : s.clr.st ≠ .unset) {v : Word} (hv : (bit CLR_CTRL.PPS_EN.lo v && bit CLR_CTRL.DISC_EN.lo v) = false) :
    doClrCtrlWrite v s = State.clockEvent s ((s.wrCodes .CLR_CTRL [] v).setClr (s.clr.go .freerun)).dropSteps := by
  have hst : (s.wrCodes .CLR_CTRL [] v).clr = s.clr := rfl
  simp [doClrCtrlWrite, hst, h, wrCodes_ppsDisc, hv]

theorem go_freerun (k : Clr) : (k.go .freerun).st = .freerun ∧ (k.st ≠ .freerun → (k.go .freerun).adj = k.fint)
    ∧ (k.go .freerun).now = k.now := by
  unfold Clr.go
  split
  · next h => exact ⟨h, fun hne => absurd h hne, rfl⟩
  · exact ⟨rfl, fun _ => rfl, rfl⟩

section
variable {s : State} (ho : s.isOpen = true) (v : Word)
include ho

theorem runs_clrCtrl_off (hset : s.clr.st ≠ .unset) (hoff : bit CLR_CTRL.PPS_EN.lo v = false ∨ bit CLR_CTRL.DISC_EN.lo v = false) :
    Runs (.clrCtrlWrite v) s fun u => u.clr.st = .freerun ∧ (s.clr.st ≠ .freerun → u.clr.adj = s.clr.fint) ∧ u.clr.now = s.clr.now := by
  have hv : (bit CLR_CTRL.PPS_EN.lo v && bit CLR_CTRL.DISC_EN.lo v) = false := by
    rcases hoff with h | h <;> simp [h]
  obtain ⟨a, b, c, d, hclr, -⟩ := dropSteps_clr ((s.wrCodes .CLR_CTRL [] v).setClr (s.clr.go .freerun))
  obtain ⟨hst, hadj, hnow⟩ := go_freerun s.clr
  refine .of_eq (exec_clrCtrlWrite ho v) (doClrCtrlWrite_off hset hv) ?_
  rw [clockEvent_clr, hclr, setClr_clr]
  exact ⟨hst, hadj, hnow⟩

theorem runs_clrCtrl_unset (hst : s.clr.st = .unset) : Runs (.clrCtrlWrite v) s fun u =>
    u.clr = { s.clr with todSet := u.clr.todSet, todLast := u.clr.todLast, setAt := u.clr.setAt, stepP := u.clr.stepP }
    ∧ (s.clr.setAt = none → bit CLR_CTRL.STEP_EN.lo v = false → u.clr.stepP = false)
    ∧ u.fb CLR_CTRL.PPS_EN [] = bit CLR_CTRL.PPS_EN.lo v := by
  obtain ⟨a, b, c, d, hclr, hstep⟩ := dropSteps_clr (s.wrCodes .CLR_CTRL [] v)
  refine .of_eq (exec_clrCtrlWrite ho v) (doClrCtrlWrite_unset hst v) ⟨?_, fun hset hoff => ?_, ?_⟩
  · rw [clockEvent_clr, hclr]
    rfl
  · rw [clockEvent_clr, hclr]
    exact hstep hset ((fb_wrCodes_rw rfl (by decide) (by decide) (by decide) s [] v).trans hoff)
  · exact (fb_of_f (clockEvent_f ..)).trans (fb_wrCodes_rw rfl (by decide) (by decide) (by decide) s [] v)

end

/-! ### CLR_SET_SECH and the snapshot (R197, R202) -/

theorem exec_timeSetArm {s : State} (h : s.isOpen = true) (v : Word) : exec (.timeSetArm v) s = .next (doTimeSetArm v s) :=
  congrArg Host.Outcome.next (hostWr_of_not_shut (not_shut h (.inl (by decide)) nofun))

theorem exec_clockSnapshot {s : State} (h : s.isOpen = true) (t : Nat) : exec (.clockSnapshot t) s = .next (doClockSnapshot t s) :=
  congrArg Host.Outcome.next (hostWr_of_not_shut (not_shut h (.inl (by decide)) nofun))

theorem f_setSec (s : State) (v : Word) : (s.setF CLR_SET_SECH.SEC_HI [] (fget 0 16 v)).f CLR_SET_SECH.SEC_HI [] = fget 0 16 v := by
  rw [f_setF_same _ _ _ _ (by decide)]
  exact Nat.mod_eq_of_lt (fget_lt 0 16 v)

/-- A write of CLR_SET_SECH stores the seconds, and takes ARM while TOD_EN is 0 (R197). -/
theorem doTimeSetArm_stores (v : Word) (s : State) : (doTimeSetArm v s).f CLR_SET_SECH.SEC_HI [] = fget 0 16 v
    ∧ (doTimeSetArm v s).fb CLR_SET_SECH.ARM [] = (s.fb CLR_SET_SECH.ARM [] || (bit 31 v && !s.fb CLR_CTRL.TOD_EN []))
    ∧ otherRegs [Reg.CLR_SET_SECH.at []] s (doTimeSetArm v s) := by
  have hsec : otherRegs [Reg.CLR_SET_SECH.at []] s (s.setF CLR_SET_SECH.SEC_HI [] (fget 0 16 v)) := .setF (.head _)
  unfold doTimeSetArm
  extract_lets s1 k
  split
  · next h =>
    refine ⟨?_, ?_, hsec.trans (.trans (.setF (.head _)) (.of_regs rfl))⟩
    · rw [setClr_f]
      exact (f_setF_beside (x := CLR_SET_SECH.ARM) (y := CLR_SET_SECH.SEC_HI) s1 [] 1 rfl (by decide) (by decide)).trans (f_setSec s v)
    · rw [setClr_fb, h, Bool.or_true, State.fb, f_setF_same _ _ _ _ (by decide)]
      rfl
  · next h =>
    refine ⟨f_setSec s v, ?_, hsec⟩
    rw [Bool.eq_false_iff.2 h, Bool.or_false]
    exact fb_of_f (f_setF_beside s [] _ rfl (by decide) (by decide))

/-- What a snapshot of network time n latches (R202). -/
structure Snapped (n : Nat) (u : State) : Prop where
  secl : u.reg .CLR_SNAP_SECL [] = wd (n / secNs)
  ns : u.reg .CLR_SNAP_NS [] = wd (n % secNs)
  tag : u.reg .CLR_SNAP_TAG [] = wd n

theorem snapshot_snapped (s : State) : Snapped s.clr.now s.snapshot := by
  unfold State.snapshot
  extract_lets n
  refine ⟨?_, ?_, reg_setReg_same ..⟩
  · rw [reg_setReg_ne _ _ (by decide), reg_setReg_ne _ _ (by decide), reg_setReg_ne _ _ (by decide), reg_setReg_same]
  · rw [reg_setReg_ne _ _ (by decide), reg_setReg_same]

theorem snapshot_clr (s : State) : s.snapshot.clr = s.clr := (snapshot_keeps s).frame .clr rfl

/-! ### Whole seconds (R205, R197) -/

theorem exec_networkSecond (s : State) (sec : Nat) : exec (.networkSecond sec) s = .next (doNetworkSecond sec s) := rfl

/-- A step leaves the registers below the capture unit, but for the events of the clock. -/
theorem makeStep_reg (s : State) (n : Nat) {r : Reg} {ix : List Nat} (hr : r.at ix < 0x200000) (h : CLR_EVT.STEPPED.reg.at [] ≠ r.at ix) :
    (s.makeStep n).reg r ix = s.reg r ix := by
  unfold State.makeStep
  extract_lets d k0 k s1 s2 grid s3
  have hoff : otherRegs suppRegs s3 (s3.offer 0x20 255 0 s3.tag (s3.timePayload true)) := .offer mem_suppRegs
  have h1 : s1.reg r ix = s.reg r ix := raise_reg_ne (s.setClr k) (by omega) h
  rw [reg_of_otherRegs hoff ((offer_keeps ..).stage rfl) fun hm => by have := suppRegs_bounds _ hm; omega]
  exact h1

theorem makeStep_fb (s : State) (n : Nat) {x : Fld} {ix : List Nat} (hr : x.reg.at ix < 0x200000)
    (h : CLR_EVT.STEPPED.reg.at [] ≠ x.reg.at ix) : (s.makeStep n).fb x ix = s.fb x ix := fb_of_f (f_of_reg (makeStep_reg s n hr h))

/-- A setting of the host has been applied (R197, R198). -/
structure HostSet (s u : State) : Prop where
  now : u.clr.now = s.clr.now
  st : u.clr.st ≠ .unset
  arm : u.f CLR_SET_SECH.ARM [] = 0

theorem afterSet_ne_unset (s : State) : s.afterSet ≠ .unset := by
  unfold State.afterSet
  split <;> nofun

theorem settingDone_host {s : State} (h : s.fb CLR_CTRL.TOD_EN [] = false) : HostSet s s.settingDone := by
  unfold State.settingDone
  rw [if_neg (ne_true_of_eq_false h)]
  extract_lets s1 k0 k
  have hk : k.now = s.clr.now := rfl
  have harm : s1.f CLR_SET_SECH.ARM [] = 0 := f_setF_same _ _ _ _ (by decide)
  refine ⟨?_, ?_, harm⟩ <;> rw [setClr_clr]
  · unfold Clr.go
    split_ifs <;> exact hk
  · split
    · next hun =>
      have hne := (afterSet_ne_unset s1).symm
      simp only [Clr.go, hun, if_neg hne]
      exact hne.symm
    · next hset => exact hset

/-- At a whole second network time has reached it, and the accepted slot length is in force (R205). -/
def State.atSecond (s : State) (sec : Nat) : State :=
  { s.passTo (sec * secNs) with yk := { (s.passTo (sec * secNs)).yk with slot := (s.passTo (sec * secNs)).f YK_GRID.SLOT_US [] } }

/-- An armed setting of the host takes effect at a whole second, without PPS_EN (R197). -/
def State.hostSets (s : State) : Bool := s.fb CLR_SET_SECH.ARM [] && !s.fb CLR_CTRL.TOD_EN [] && !s.fb CLR_CTRL.PPS_EN []

/-- The seconds that the host has asked for (R197). -/
def State.hostSec (s : State) : Nat := (s.reg .CLR_SET_SECL []).toNat + s.f CLR_SET_SECH.SEC_HI [] * 2 ^ 32

/-- Network time that was UNSET counts its seconds from the setting on (R194). -/
def State.freshWindow (s : State) : State :=
  if s.clr.st = .unset then s.setClr { s.clr with edgeIn := false, missed := 0 } else s

/-- The captures take a TIME record (R265). -/
def State.offerTime (s : State) : State := s.offer 0x20 255 0 s.tag (s.timePayload false)

/-- A setting waits for the Yoke to be quiet (R201). -/
def State.waitStep (s : State) : State := s.setClr { s.clr with stepP := true, setAt := some (s.clr.setAt.getD s.clr.now) }

section
variable (s : State) (sec : Nat)

theorem atSecond_f (x : Fld) (ix : List Nat) : (s.atSecond sec).f x ix = s.f x ix := passTo_f s (sec * secNs) x ix
theorem atSecond_fb (x : Fld) (ix : List Nat) : (s.atSecond sec).fb x ix = s.fb x ix := passTo_fb s (sec * secNs) x ix
theorem atSecond_reg (r : Reg) (ix : List Nat) : (s.atSecond sec).reg r ix = s.reg r ix := passTo_reg s (sec * secNs) r ix

theorem atSecond_yk : (s.atSecond sec).yk = { s.yk with slot := s.f YK_GRID.SLOT_US [] } := by
  rw [State.atSecond, passTo_f, passTo_yk]

theorem atSecond_hostSets : (s.atSecond sec).hostSets = s.hostSets := by simp only [State.hostSets, atSecond_fb]

theorem atSecond_hostSec : (s.atSecond sec).hostSec = s.hostSec := by rw [State.hostSec, atSecond_reg, atSecond_f, State.hostSec]

theorem atSecond_ykQuiet : (s.atSecond sec).ykQuiet = s.ykQuiet := by
  have hcol : (s.atSecond sec).col = s.col := passTo_col s (sec * secNs)
  simp only [State.ykQuiet, atSecond_fb, hcol, atSecond_yk]

theorem freshWindow_keeps : Keeps 0x80 s s.freshWindow := .ite (setClr_keeps ..) .refl

theorem freshWindow_fb (x : Fld) (ix : List Nat) : s.freshWindow.fb x ix = s.fb x ix := (freshWindow_keeps s).fb rfl rfl x ix

theorem edgeStep_host (htod : s.fb CLR_CTRL.TOD_EN [] = false) (harm : s.fb CLR_SET_SECH.ARM [] = true) :
    s.edgeStep = some (setTo s.clr.now (advSec s.hostSec s.clr.now s.clr.setAt)) := by
  simp [State.edgeStep, htod, harm, State.hostSec]

/-- What a whole second does behind the new slot length (R197, R205, R265). -/
def State.useSecond (o s : State) : State :=
  if !s.hostSets then s.offerTime
  else if s.ykQuiet then
    match s.edgeStep with
    | some n => State.clockEvent o (s.freshWindow.makeStep n).settingDone
    | none => s
  else s.waitStep.offerTime

theorem doNetworkSecond_eq {s : State} (h : 7 < s.sys.stage) : doNetworkSecond sec s = State.useSecond s (s.atSecond sec) :=
  if_neg (show ¬ s.sys.stage ≤ 7 by omega)

theorem offerTime_yk : s.offerTime.yk = s.yk := (offer_keeps ..).frame .yk rfl
theorem offerTime_clr : s.offerTime.clr = s.clr := (offer_keeps ..).frame .clr rfl

theorem useSecond_yk (o s : State) : (State.useSecond o s).yk = s.yk := by
  unfold State.useSecond
  split
  · exact offerTime_yk s
  · split
    · split
      · next n _ =>
        have h := (freshWindow_keeps s).trans (makeStep_keeps s.freshWindow n)
        exact ((h.trans (settingDone_keeps _)).trans (clockEvent_keeps o _)).frame .yk rfl
      · rfl
    · exact offerTime_yk s.waitStep

theorem useSecond_idle (o : State) {s : State} (h : s.hostSets = false) : State.useSecond o s = s.offerTime := by
  rw [State.useSecond, h]
  rfl

/-- A setting of the host that is due at a whole second is made (R197, R198). -/
theorem useSecond_host (o : State) {s : State} (htod : s.fb CLR_CTRL.TOD_EN [] = false) (harm : s.fb CLR_SET_SECH.ARM [] = true)
    (hpps : s.fb CLR_CTRL.PPS_EN [] = false) (hq : s.ykQuiet = true) (hset : s.clr.setAt = none) :
    (State.useSecond o s).clr.now = s.hostSec * secNs + s.clr.now % 1000 ∧ (State.useSecond o s).clr.st ≠ .unset
    ∧ (State.useSecond o s).f CLR_SET_SECH.ARM [] = 0 := by
  have hhost : s.hostSets = true := by simp [State.hostSets, htod, harm, hpps]
  have hstep := edgeStep_host s htod harm
  rw [hset] at hstep
  have huse : State.useSecond o s = State.clockEvent o (s.freshWindow.makeStep (setTo s.clr.now s.hostSec)).settingDone := by
    rw [State.useSecond, hhost, hq, hstep]
    rfl
  obtain ⟨e, d, hclr⟩ := makeStep_clr s.freshWindow (setTo s.clr.now s.hostSec)
  have hdone := settingDone_host (s := s.freshWindow.makeStep (setTo s.clr.now s.hostSec))
    ((makeStep_fb _ _ (by decide) (by decide)).trans ((freshWindow_fb ..).trans htod))
  rw [huse, clockEvent_clr, clockEvent_f]
  refine ⟨hdone.now.trans ?_, hdone.st, hdone.arm⟩
  rw [hclr]
  rfl

end

/-- Settles O27: the windows of REF10M_IN and TOD_RX, the accesses of the clock's registers and the whole second, each from its
rule. -/
theorem referenceAndTime : Obligations.ReferenceAndTime := by
  unfold Obligations.ReferenceAndTime
  refine ⟨fun s t msg gap => ⟨?window, fun hok => ⟨?bad, ?silence⟩, fun hv hw hen hset hsec => ?message, fun hv => ?invalid,
    fun hseen => ?unseen, fun hst hn ht => ?holdover⟩, fun s v t sec => ⟨fun ho => runs_clrCtrl_off ho v, fun ho => runs_clrCtrl_unset ho v,
    fun ho => ?arm, fun ho => ?snapshot, fun hstage => ?second⟩⟩
  case window =>
    exact .of_eq (exec_ref10mWindow s true) (if_pos rfl) ⟨rfl, rfl, rfl, rfl, (setClr_keeps ..).changesOnly rfl⟩
  case bad =>
    exact .of_eq (exec_ref10mWindow s false) (if_neg nofun) ⟨(refLost_lost hok).refOk, (refLost_lost hok).refRun, (refLost_lost hok).evt⟩
  case silence => exact .of_eq (exec_ref10mLoss s) rfl ⟨(refLost_lost hok).refOk, (refLost_lost hok).refRun, (refLost_lost hok).evt⟩
  case message =>
    have hclr : (s.todShown t msg).clr = (s.passTo t).clr := rfl
    have huse := todUse_agrees (s := s.todShown t msg) (sec := todSec msg) (by rw [hclr, passTo_clr_st]; exact hset) (by rw [hclr]; exact hsec)
    refine .of_eq (exec_todMessage s t msg gap) (doTodMessage_used hv hw hen) ?_
    rw [clockEvent_clr, clockEvent_reg, huse.reg, todShown_reg (by decide)]
    exact ⟨huse.todOk, huse.todSeen, huse.st.trans ((congrArg Clr.st hclr).trans (passTo_clr_st s t)), rfl⟩
  case invalid =>
    refine .of_eq (exec_todMessage s t msg gap) (doTodMessage_invalid hv) ?_
    rw [clockEvent_reg, clockEvent_f, clockEvent_clr, todBad_err, passTo_reg]
    exact ⟨rfl, raise_f_same _ (by decide) (by decide), (todBad_todOk _).trans (passTo_clr_field s t Clr.todOk fun _ _ => rfl)⟩
  case unseen =>
    exact .of_eq (exec_todWindowClose s t) (doTodWindowClose_unseen hseen) ⟨rfl, ((passTo_keeps s t).trans (setClr_keeps ..)).changesOnly rfl⟩
  case holdover =>
    refine .of_eq (exec_holdoverLimit s t) (doHoldoverLimit_reached hst hn ht) ?_
    rw [clockEvent_f, clockEvent_clr, raise_clr, passTo_clr_st]
    exact ⟨raise_f_same _ (by decide) (by decide), hst⟩
  case arm =>
    obtain ⟨hsec, harm, hreg⟩ := doTimeSetArm_stores v s
    exact .of_eq (exec_timeSetArm ho v) rfl ⟨hsec, harm, hreg, (doTimeSetArm_keeps v s).changesOnly rfl⟩
  case snapshot =>
    obtain ⟨hsecl, hns, htag⟩ := snapshot_snapped (s.passTo t)
    have hclr := snapshot_clr (s.passTo t)
    refine .of_eq (exec_clockSnapshot ho t) rfl ⟨?_, ?_, ?_, congrArg Clr.now hclr, (doClockSnapshot_keeps t s).changesOnly rfl⟩
    · exact hsecl.trans (by rw [← hclr]; rfl)
    · exact hns.trans (by rw [← hclr]; rfl)
    · exact htag.trans (by rw [← hclr]; rfl)
  case second =>
    have hnow : (s.atSecond sec).clr = { s.clr with now := max s.clr.now (sec * secNs) } := passTo_clr hstage _
    refine .of_eq (exec_networkSecond s sec) (doNetworkSecond_eq sec hstage) ⟨(useSecond_yk ..).trans (atSecond_yk s sec), fun hoff => ?_,
      fun harm htod hpps hq hset => ?_⟩
    · have hhost : (s.atSecond sec).hostSets = false := by
        rw [atSecond_hostSets, State.hostSets]
        rcases hoff with h | h | h <;> simp [h]
      rw [useSecond_idle s hhost, offerTime_clr, hnow]
    · have h := useSecond_host s (s := s.atSecond sec) ((atSecond_fb ..).trans htod) ((atSecond_fb ..).trans harm) ((atSecond_fb ..).trans hpps)
        ((atSecond_ykQuiet s sec).trans hq) (by rw [hnow]; exact hset)
      rw [atSecond_hostSec, hnow] at h
      exact h

end Sys2Proof.Machine
end

section
/-! PROOF. The grid of slots, commit points and the requests to the calendar (O28). -/
namespace Sys2Proof.Machine

/-! ### YK_GRID (R205) -/

theorem exec_ykGridWrite {s : State} (h : s.isOpen = true) (v : Word) : exec (.ykGridWrite v) s = .next (doYkGridWrite v s) :=
  congrArg Host.Outcome.next (hostWr_of_not_shut (not_shut h (.inl (by decide)) nofun))

/-- A slot length can be taken (R205). -/
def State.takesSlot (s : State) (n : Nat) : Prop :=
  20 ≤ n ∧ n ≤ 1000000 ∧ 1000000 % n = 0 ∧ s.yk.store.all (fun p => !(p.st == .armed) && !(p.st == .staged && p.timed)) = true

theorem clampN_lt {lo hi x m : Nat} (hlo : lo < m) (hhi : hi < m) : clampN lo hi x < m := by
  unfold clampN
  split_ifs <;> omega

section
variable (s : State) (v : Word)

/-- The lead that a write of YK_GRID takes (R205). -/
def State.takeLead : State := s.setF YK_GRID.LEAD_US [] (clampN 5 1000 (fget 20 10 v))

theorem takeLead_lead : (s.takeLead v).f YK_GRID.LEAD_US [] = clampN 5 1000 (fget 20 10 v) := by
  rw [State.takeLead, f_setF_same _ _ _ _ (by decide)]
  exact Nat.mod_eq_of_lt (clampN_lt (by decide) (by decide))

theorem takeLead_slot : (s.takeLead v).f YK_GRID.SLOT_US [] = s.f YK_GRID.SLOT_US [] := f_setF_beside s [] _ rfl (by decide) (by decide)

/-- What a write of YK_GRID does: the lead is taken, and of the slot length what the store allows (R205). -/
structure GridTaken (s : State) (v : Word) (u : State) : Prop where
  yk : u.yk = s.yk
  lead : u.f YK_GRID.LEAD_US [] = clampN 5 1000 (fget 20 10 v)
  slot : (s.takesSlot (fget 0 20 v) → u.f YK_GRID.SLOT_US [] = fget 0 20 v)
    ∧ (¬ s.takesSlot (fget 0 20 v) → u.f YK_GRID.SLOT_US [] = s.f YK_GRID.SLOT_US [])
  rej : u.f YK_GRID.SLOT_US [] ≠ fget 0 20 v → u.f YK_EVT.GRID_REJ [] = 1

theorem doYkGridWrite_taken : GridTaken s v (doYkGridWrite v s) := by
  have hlead := takeLead_lead s v
  have hslot := takeLead_slot s v
  unfold doYkGridWrite
  extract_lets s1 n
  split
  · next hsame =>
    have hn : s1.f YK_GRID.SLOT_US [] = n := hslot.trans hsame.symm
    exact ⟨rfl, hlead, ⟨fun _ => hn, fun _ => hslot⟩, fun hne => absurd hn hne⟩
  · split
    · next htake =>
      have hn : (s1.setF YK_GRID.SLOT_US [] n).f YK_GRID.SLOT_US [] = n :=
        (f_setF_same _ _ _ _ (by decide)).trans (Nat.mod_eq_of_lt (fget_lt 0 20 v))
      exact ⟨rfl, (f_setF_beside (x := YK_GRID.SLOT_US) (y := YK_GRID.LEAD_US) s1 [] n rfl (by decide) (by decide)).trans hlead,
        ⟨fun _ => hn, fun hno => absurd htake hno⟩, fun hne => absurd hn hne⟩
    · next hno =>
      have hkeep : ∀ x : Fld, x.reg = .YK_GRID → (State.schedEvent s (s1.raise YK_EVT.GRID_REJ [])).f x [] = s1.f x [] := fun x hx => by
        rw [schedEvent_f]
        exact f_of_reg (raise_reg_ne s1 (by rw [hx]; decide) (by rw [hx]; decide))
      refine ⟨by rw [schedEvent_yk, raise_yk]; rfl, (hkeep _ rfl).trans hlead, ⟨fun htake => absurd htake hno,
        fun _ => (hkeep _ rfl).trans hslot⟩, fun _ => ?_⟩
      rw [schedEvent_f]
      exact raise_f_same s1 (by decide) (by decide)

end

/-! ### Commit points (R206) -/

theorem exec_commitPoint (s : State) (t : Nat) : exec (.commitPoint t) s = .next (doCommitPoint t s) := rfl

/-- When a pattern is due does not change as network time runs on. -/
theorem passTo_patDue (s : State) (t : Nat) (p : PatEnt) : (s.passTo t).patDue p = s.patDue p := by
  unfold State.passTo
  split <;> rfl

/-- A pattern as it stands behind a commit point at network time now (R206). -/
def State.commitPat (s : State) (now : Nat) (p : PatEnt) : PatEnt :=
  if p.st = .staged ∧ p.kind ≠ .repair ∧ p.heldP = false ∧ s.patDue p ≤ now + p.lead then { p with st := .armed } else p

theorem doCommitPoint_yk {s : State} (h : s.flt.safe = false) (t : Nat) :
    (doCommitPoint t s).yk = { s.yk with store := s.yk.store.map (s.commitPat (s.passTo t).clr.now) } := by
  have hsafe : ¬ (s.passTo t).flt.safe = true := by rw [passTo_flt, h]; nofun
  simp only [doCommitPoint, if_neg hsafe, passTo_yk, passTo_patDue]
  rfl

/-! ### Announcements and the calendar (R220, R222) -/

/-- Of the Yoke only the announcements that wait for the fabric have changed. -/
def AnnOnly (s u : State) : Prop := ∃ q l, u.yk = { s.yk with annSeq := q, annOut := l }

section
variable {s u v : State}

theorem AnnOnly.of_yk (h : u.yk = s.yk) : AnnOnly s u := ⟨_, _, h⟩

theorem AnnOnly.trans (h : AnnOnly s u) (k : AnnOnly u v) : AnnOnly s v := by
  obtain ⟨_, _, h⟩ := h
  obtain ⟨q, l, k⟩ := k
  exact ⟨q, l, by rw [k, h]⟩

end

section
variable (s : State)

theorem mirSend_yk (m : MirMsg) : (s.mirSend m).yk = s.yk := (mirSend_keeps ..).frame .yk rfl
@[simp] theorem sendCtrl_yk (kind t : Nat) : (s.sendCtrl kind t).yk = s.yk := (sendCtrl_keeps ..).frame .yk rfl

theorem handAnn_annOnly (q : Nat) (f : List Byte) : AnnOnly s (s.handAnn q f) := ⟨_, _, rfl⟩

theorem announce_annOnly (ty : Nat) (shared : Bool) (body : List Byte) : AnnOnly s (s.announce ty shared body) := by
  unfold State.announce
  split
  · exact handAnn_annOnly ..
  · split
    · exact .of_yk rfl
    · split
      · extract_lets q fr s1 pr s2
        have h2 : AnnOnly s s2 := .of_yk (mirSend_yk ..)
        split
        · exact h2.trans (.of_yk rfl)
        · exact h2.trans (handAnn_annOnly ..)
      · exact handAnn_annOnly ..

theorem sendCalendar_annOnly (t : Nat) (b : Bool) : AnnOnly s (s.sendCalendar t b) :=
  (announce_annOnly ..).trans (foldl_rel (R := AnnOnly) (fun _ => .of_yk rfl) .trans (fun _ _ _ => announce_annOnly ..) _)

/-- The announcement of a calendar, where announcements are enabled. -/
theorem annCalendar_annOnly (t : Nat) (b : Bool) : AnnOnly s (if s.annEn then s.sendCalendar t b else s) := by
  split
  · exact sendCalendar_annOnly ..
  · exact .of_yk rfl

end

/-! ### The requests to the calendar (R217 to R219) -/

theorem le_secAfter (t : Nat) : t ≤ secAfter t := by
  unfold secAfter ceilDiv secNs
  omega

theorem le_startFor (s : State) (lead : Nat) : s.clr.now + lead ≤ s.startFor lead := by
  unfold State.startFor
  split
  · exact le_secAfter _
  · omega

/-- A start of the calendar is pending (R217). -/
structure CalPending (s u : State) : Prop where
  mode : u.yk.mode = 1
  at_ : s.clr.now + s.leadNs ≤ u.yk.calAt
  store : u.yk.store = s.yk.store

/-- The start that the lead and the announcements allow (R217, R222). -/
def State.startAt (s : State) : Nat := s.startFor (if s.annEn then max s.leadNs s.annLead else s.leadNs)

/-- The calendar waits for its start at the time d; one that only the announcements defer shows ANN_DEFER (R217, R222). -/
def State.pendAt (s : State) (late : Bool) (d : Nat) : State :=
  let u : State := { s with yk := { s.yk with mode := 1, calAt := d, calPend := false } }
  if late then u.raise YK_EVT.ANN_DEFER [] else u

/-- The calendar that is to start or to switch is announced, and named to the other module of a pair (R222, R344). -/
def State.tellCal (s : State) (kind d : Nat) (b : Bool) : State := (if s.annEn then s.sendCalendar d b else s).sendCtrl kind d

theorem calPending_eq (s : State) : ∃ late b, s.calPending = (s.pendAt late s.startAt).tellCal 0 s.startAt b := by
  refine ⟨decide (s.startFor s.leadNs < s.startAt), (s.pendAt (decide (s.startFor s.leadNs < s.startAt)) s.startAt).yk.bank, ?_⟩
  simp only [State.pendAt, decide_eq_true_eq]
  rfl

theorem tellCal_annOnly (s : State) (kind d : Nat) (b : Bool) : AnnOnly s (s.tellCal kind d b) :=
  (annCalendar_annOnly s d b).trans (.of_yk (sendCtrl_yk ..))

theorem tellCal_reg (s : State) (kind d : Nat) (b : Bool) (r : Reg) (ix : List Nat) : (s.tellCal kind d b).reg r ix = s.reg r ix := by
  have h : Keeps 0x500 s (if s.annEn then s.sendCalendar d b else s) := .ite (sendCalendar_keeps ..) .refl
  exact (h.trans (sendCtrl_keeps ..)).reg rfl rfl r ix

theorem pendAt_yk (s : State) (late : Bool) (d : Nat) : (s.pendAt late d).yk = { s.yk with mode := 1, calAt := d, calPend := false } := by
  unfold State.pendAt
  split
  · rw [raise_yk]
  · rfl

theorem pendAt_reg (s : State) (late : Bool) (d : Nat) {r : Reg} {ix : List Nat} (hr : r.at ix < 0x40000400) (h : Reg.YK_EVT.at [] ≠ r.at ix) :
    (s.pendAt late d).reg r ix = s.reg r ix := by
  unfold State.pendAt
  split
  · exact raise_reg_ne _ hr h
  · rfl

theorem le_startAt (s : State) : s.clr.now + s.leadNs ≤ s.startAt := by
  have hlead : s.leadNs ≤ if s.annEn then max s.leadNs s.annLead else s.leadNs := by
    split
    · exact le_max_left ..
    · exact le_rfl
  exact (Nat.add_le_add_left hlead _).trans (le_startFor s _)

theorem calPending_pending (s : State) : CalPending s s.calPending := by
  obtain ⟨late, b, h⟩ := calPending_eq s
  obtain ⟨q, l, hyk⟩ := tellCal_annOnly (s.pendAt late s.startAt) 0 s.startAt b
  rw [← h, pendAt_yk] at hyk
  exact ⟨by rw [hyk], by rw [hyk]; exact le_startAt s, by rw [hyk]⟩

theorem calPending_reg (s : State) {r : Reg} {ix : List Nat} (hr : r.at ix < 0x40000400) (h : Reg.YK_EVT.at [] ≠ r.at ix) :
    s.calPending.reg r ix = s.reg r ix := by
  obtain ⟨late, b, heq⟩ := calPending_eq s
  rw [heq, tellCal_reg, pendAt_reg s late _ hr h]

section
variable {s : State} (ho : s.isOpen = true) (v : Word) (t : Nat)
include ho

theorem exec_calendarStartRequest : exec (.calendarStartRequest v t) s = .next (doCalStartReq v t s) :=
  congrArg Host.Outcome.next (hostWr_of_not_shut (not_shut ho (.inl (by decide)) nofun))

theorem exec_calendarStopRequest : exec (.calendarStopRequest v t) s = .next (doCalStopReq v t s) :=
  congrArg Host.Outcome.next (hostWr_of_not_shut (not_shut ho (.inl (by decide)) nofun))

theorem exec_calSwitchRequest : exec (.calSwitchRequest v t) s = .next (doCalSwitchReq v t s) :=
  congrArg Host.Outcome.next (hostWr_of_not_shut (not_shut ho (.inl (by decide)) nofun))

end

section
variable (s : State) (v : Word) (t : Nat)

/-- YK_CTRL as a request to the calendar writes it, but for CAL_RUN (R217, R218). -/
def State.takeCtrl : State := (s.passTo t).wrCodes .YK_CTRL [] (v &&& 0xFFFFFFFE)

/-- A write of YK_CTRL leaves CAL_RUN and asks for a start (R217). -/
def State.askStart : State := (s.takeCtrl v t).setF YK_CTRL.CAL_RUN [] (s.f YK_CTRL.CAL_RUN [])

theorem passTo_calOwner : (s.passTo t).calOwner = s.calOwner := by
  unfold State.passTo
  split <;> rfl

theorem takeCtrl_yk : (s.takeCtrl v t).yk = s.yk := passTo_yk s t
theorem takeCtrl_calOwner : (s.takeCtrl v t).calOwner = s.calOwner := passTo_calOwner s t
theorem askStart_yk : (s.askStart v t).yk = s.yk := passTo_yk s t
theorem askStart_calOwner : (s.askStart v t).calOwner = s.calOwner := takeCtrl_calOwner s v t
theorem askStart_safe : (s.askStart v t).flt.safe = s.flt.safe := congrArg Flt.safe (passTo_flt s t)

theorem askStart_run : (s.askStart v t).fb YK_CTRL.CAL_RUN [] = s.fb YK_CTRL.CAL_RUN [] := by
  refine fb_of_f ((f_setF_same _ _ _ _ (by decide)).trans (Nat.mod_eq_of_lt ?_))
  exact fget_lt ..

/-- The state in which a start is taken. -/
def State.takenStart : State := (s.askStart v t).setF YK_CTRL.CAL_RUN [] 1

theorem takenStart_yk : (s.takenStart v t).yk = s.yk := passTo_yk s t

theorem takenStart_clr : (s.takenStart v t).clr = (s.passTo t).clr := rfl

theorem takenStart_leadNs : (s.takenStart v t).leadNs = s.leadNs := by
  have hreg : (s.takenStart v t).reg .YK_GRID [] = s.reg .YK_GRID [] := by
    rw [State.takenStart, State.askStart, State.takeCtrl, State.setF, State.setF, State.wrCodes]
    rw [reg_setReg_ne _ _ (by decide), reg_setReg_ne _ _ (by decide), reg_setReg_ne _ _ (by decide), passTo_reg]
  rw [State.leadNs, f_of_reg hreg, State.leadNs]

theorem takenStart_run : (s.takenStart v t).fb YK_CTRL.CAL_RUN [] = true := by
  rw [State.fb, State.takenStart, f_setF_same _ _ _ _ (by decide)]
  rfl

/-- What a start request does in each mode of the calendar (R217, R218). -/
def State.start (s : State) : State :=
  match s.yk.mode with
  | 0 => s.calPending
  | 3 => { s with yk := { s.yk with calPend := true } }
  | _ => s

theorem doCalStartReq_eq (h : s.calOwner = true) :
    doCalStartReq v t s = if s.flt.safe then s.askStart v t else State.schedEvent s (s.takenStart v t).start := by
  unfold doCalStartReq
  extract_lets s1 s1' s2
  have hown : s1'.calOwner = true := (askStart_calOwner s v t).trans h
  have hsafe : s1'.flt.safe = s.flt.safe := askStart_safe s v t
  rw [hown, hsafe]
  rfl

theorem doCalStartReq_taken {s : State} (h : s.calOwner = true) (hsafe : s.flt.safe = false) (v : Word) (t : Nat) :
    doCalStartReq v t s = State.schedEvent s (s.takenStart v t).start := by
  rw [doCalStartReq_eq s v t h, if_neg (by rw [hsafe]; nofun)]

theorem doCalStartReq_safe {s : State} (h : s.calOwner = true) (hsafe : s.flt.safe = true) (v : Word) (t : Nat) :
    doCalStartReq v t s = s.askStart v t := by
  rw [doCalStartReq_eq s v t h, if_pos hsafe]

theorem start_static {s : State} (h : s.yk.mode = 0) : s.start = s.calPending := by simp only [State.start, h]

theorem start_stopping {s : State} (h : s.yk.mode = 3) : s.start = { s with yk := { s.yk with calPend := true } } := by simp only [State.start, h]

/-- CAL_RUN as a request for a stop leaves YK_CTRL, by what the calendar does (R218). -/
def State.stop (s : State) : State :=
  match s.yk.mode with
  | 1 => { s with yk := { s.yk with mode := 0 } }.sendCtrl 1 s.clr.now
  | 2 =>
    let u := { s with yk := { s.yk with mode := 3, stopAt := 0 } }
    u.sendCtrl 1 (u.turnAfter u.yk.bank u.yk.start 0 u.yk.turnAt)
  | 3 => { s with yk := { s.yk with calPend := false } }
  | _ => s

theorem doCalStopReq_eq (h : s.calOwner = true) : doCalStopReq v t s = (s.takeCtrl v t).stop := by
  have hown := (takeCtrl_calOwner s v t).trans h
  unfold doCalStopReq
  extract_lets s1
  rw [show s1.calOwner = true from hown]
  rfl

/-- The Yoke behind a stop request (R218). -/
def Yk.stop (y : Yk) : Yk :=
  match y.mode with
  | 1 => { y with mode := 0 }
  | 2 => { y with mode := 3, stopAt := 0 }
  | 3 => { y with calPend := false }
  | _ => y

theorem Yk.stop_pending {y : Yk} (h : y.mode = 1) : y.stop = { y with mode := 0 } := by simp only [Yk.stop, h]
theorem Yk.stop_calendar {y : Yk} (h : y.mode = 2) : y.stop = { y with mode := 3, stopAt := 0 } := by simp only [Yk.stop, h]
theorem Yk.stop_stopping {y : Yk} (h : y.mode = 3) : y.stop = { y with calPend := false } := by simp only [Yk.stop, h]

theorem stop_yk (s : State) : s.stop.yk = s.yk.stop := by
  unfold State.stop Yk.stop
  split
  · rw [sendCtrl_yk]
  · extract_lets u
    rw [sendCtrl_yk]
  · rfl
  · rfl

theorem runs_stop (ho : s.isOpen = true) (hown : s.calOwner = true) :
    Runs (.calendarStopRequest v t) s fun u => u.yk = s.yk.stop ∧ u.pth = s.pth :=
  .of_eq (exec_calendarStopRequest ho v t) (doCalStopReq_eq s v t hown)
    ⟨(stop_yk _).trans (by rw [takeCtrl_yk]), by
      rw [← doCalStopReq_eq s v t hown]
      exact (doCalStopReq_keeps v t s).frame .pth rfl⟩

end

/-! ### A switch (R219) -/

/-- A first turn at or after t lies at or after t, a whole number of cycles behind the start. -/
theorem turnAfter_spec (s : State) (b : Bool) (start t : Nat) (h : 0 < s.entOfs b (s.bankN b)) :
    t ≤ s.turnAfter b start 0 t ∧ ∃ k, s.turnAfter b start 0 t = start + k * s.entOfs b (s.bankN b) := by
  unfold State.turnAfter
  extract_lets c t0
  have h0 : t0 = start := rfl
  rw [h0]
  refine ⟨?_, _, rfl⟩
  have hc : 0 < c := h
  clear_value c
  have hdiv : t - start ≤ ceilDiv (t - start) c * c := by
    unfold ceilDiv
    have := Nat.lt_div_mul_add (a := t - start + c - 1) hc
    omega
  omega

/-- The turn of entry 0 that a switch takes: at or after the time asked for, the announcements' lead and the next turn (R219, R222). -/
def State.switchAt (s : State) : Nat :=
  s.turnAfter s.yk.bank s.yk.start 0 (max (max s.calTime (if s.annEn then s.clr.now + s.annLead else 0)) s.yk.turnAt)

/-- A switch waits for the turn at d; one that only the announcements defer shows ANN_DEFER (R219, R222). -/
def State.switchPendAt (s : State) (late : Bool) (d : Nat) : State :=
  let u : State := { s with yk := { s.yk with swPend := true, swAt := d } }
  if late then u.raise YK_EVT.ANN_DEFER [] else u

theorem switchPendAt_yk (s : State) (late : Bool) (d : Nat) : (s.switchPendAt late d).yk = { s.yk with swPend := true, swAt := d } := by
  unfold State.switchPendAt
  split
  · rw [raise_yk]
  · rfl

section
variable (s : State) (t : Nat)

theorem passTo_bankN (b : Bool) : (s.passTo t).bankN b = s.bankN b := by simp only [State.bankN, passTo_f]
theorem passTo_entOfs (b : Bool) (i : Nat) : (s.passTo t).entOfs b i = s.entOfs b i := by simp only [State.entOfs, State.entNs, passTo_f]
theorem passTo_calTime : (s.passTo t).calTime = s.calTime := by simp only [State.calTime, passTo_reg, passTo_f]

end

theorem switchAt_spec {s : State} (h : 0 < s.entOfs s.yk.bank (s.bankN s.yk.bank)) : s.calTime ≤ s.switchAt ∧ s.yk.turnAt ≤ s.switchAt
    ∧ ∃ k, s.switchAt = s.yk.start + k * s.entOfs s.yk.bank (s.bankN s.yk.bank) := by
  obtain ⟨hle, hk⟩ := turnAfter_spec s s.yk.bank s.yk.start
    (max (max s.calTime (if s.annEn then s.clr.now + s.annLead else 0)) s.yk.turnAt) h
  exact ⟨((le_max_left ..).trans (le_max_left ..)).trans hle, (le_max_right ..).trans hle, hk⟩

theorem doCalSwitchReq_eq {s : State} {v : Word} (hmode : s.yk.mode = 2) (hown : s.calOwner = true) (hv : bit 0 v = true) (t : Nat) :
    ∃ late b, doCalSwitchReq v t s
      = State.schedEvent s (((s.passTo t).switchPendAt late (s.passTo t).switchAt).tellCal 2 (s.passTo t).switchAt b) := by
  have hgo : (bit 0 v && decide ((s.passTo t).yk.mode = 2) && (s.passTo t).calOwner) = true := by
    rw [passTo_yk, passTo_calOwner, hv, hmode, hown]
    rfl
  let u := s.passTo t
  let late := decide (u.turnAfter u.yk.bank u.yk.start 0 (max u.calTime u.yk.turnAt) < u.switchAt)
  refine ⟨late, !(u.switchPendAt late u.switchAt).yk.bank, (if_pos hgo).trans ?_⟩
  simp only [State.switchPendAt, late, u, decide_eq_true_eq]
  rfl

/-- A switch of the bank waits (R219). -/
structure SwitchPending (s u : State) : Prop where
  swPend : u.yk.swPend = true
  calTime : s.calTime ≤ u.yk.swAt
  turnAt : s.yk.turnAt ≤ u.yk.swAt
  cycle : ∃ k, u.yk.swAt = s.yk.start + k * s.entOfs s.yk.bank (s.bankN s.yk.bank)
  mode : u.yk.mode = s.yk.mode
  bank : u.yk.bank = s.yk.bank
  store : u.yk.store = s.yk.store

theorem doCalSwitchReq_pending {s : State} {v : Word} (hmode : s.yk.mode = 2) (hown : s.calOwner = true) (hv : bit 0 v = true)
    (hc : 0 < s.entOfs s.yk.bank (s.bankN s.yk.bank)) (t : Nat) : SwitchPending s (doCalSwitchReq v t s) := by
  obtain ⟨late, b, heq⟩ := doCalSwitchReq_eq hmode hown hv t
  obtain ⟨q, l, hyk⟩ := tellCal_annOnly ((s.passTo t).switchPendAt late (s.passTo t).switchAt) 2 (s.passTo t).switchAt b
  have hat := switchAt_spec (s := s.passTo t) (by rw [passTo_yk, passTo_bankN, passTo_entOfs]; exact hc)
  rw [passTo_calTime, passTo_yk, passTo_bankN, passTo_entOfs] at hat
  rw [switchPendAt_yk, passTo_yk] at hyk
  obtain ⟨htime, hturn, hk⟩ := hat
  rw [heq]
  refine ⟨?_, ?_, ?_, ?_, ?_, ?_, ?_⟩ <;> rw [schedEvent_yk, hyk]
  · exact htime
  · exact hturn
  · exact hk

/-- Settles O28: the write of YK_GRID, the commit point, and the start, the stop and the switch, each from its rule. -/
theorem calendarSetUp : Obligations.CalendarSetUp := by
  unfold Obligations.CalendarSetUp
  refine ⟨fun s v t => ⟨fun ho => ?grid, fun hsafe => ?commit⟩, fun s v t ho hown => ⟨fun hsafe hmode => ?start, fun hsafe hmode => ?restart,
    fun hsafe => ?safe, fun hmode => ?unpend, fun hmode => ?stop, fun hmode => ?cancel, fun hmode hv hc => ?switch⟩⟩
  case grid =>
    obtain ⟨hyk, hlead, hslot, hrej⟩ := doYkGridWrite_taken s v
    refine .of_eq (exec_ykGridWrite ho v) rfl ⟨hyk, hlead, ?_, hrej⟩
    split
    · next htake => exact hslot.1 htake
    · next hno => exact hslot.2 hno
  case commit =>
    exact .of_eq (exec_commitPoint s t) rfl ⟨doCommitPoint_yk hsafe t, (doCommitPoint_keeps t s).changesOnly rfl⟩
  case start =>
    obtain ⟨hpend, hat, hstore⟩ := calPending_pending (s.takenStart v t)
    rw [takenStart_leadNs, takenStart_clr] at hat
    rw [takenStart_yk] at hstore
    have hdo : doCalStartReq v t s = State.schedEvent s (s.takenStart v t).calPending := by
      rw [doCalStartReq_taken hown hsafe, start_static (by rw [takenStart_yk, hmode])]
    have hpth : (doCalStartReq v t s).pth = s.pth := (doCalStartReq_keeps v t s).frame .pth rfl
    rw [hdo] at hpth
    have hrun : (s.takenStart v t).calPending.fb YK_CTRL.CAL_RUN [] = true :=
      (fb_of_f (f_of_reg (calPending_reg _ (by decide) (by decide)))).trans (takenStart_run s v t)
    refine .of_eq (exec_calendarStartRequest ho v t) hdo ⟨?_, (fb_of_f (schedEvent_f ..)).trans hrun, ?_, ?_, hpth⟩ <;> rw [schedEvent_yk]
    · exact hpend
    · exact hat
    · exact hstore
  case restart =>
    refine .of_eq (exec_calendarStartRequest ho v t) (doCalStartReq_taken hown hsafe v t) ?_
    rw [start_stopping (by rw [takenStart_yk, hmode])]
    exact (schedEvent_yk ..).trans (by rw [takenStart_yk])
  case safe =>
    exact .of_eq (exec_calendarStartRequest ho v t) (doCalStartReq_safe hown hsafe v t) ⟨askStart_yk s v t, askStart_run s v t⟩
  case unpend =>
    rw [← Yk.stop_pending hmode]
    exact runs_stop s v t ho hown
  case stop =>
    rw [← Yk.stop_calendar hmode]
    exact runs_stop s v t ho hown
  case cancel =>
    rw [← Yk.stop_stopping hmode]
    exact runs_stop s v t ho hown
  case switch =>
    have h := doCalSwitchReq_pending hmode hown hv hc t
    exact .of_eq (exec_calSwitchRequest ho v t) rfl ⟨h.swPend, h.calTime, h.turnAt, h.cycle, h.mode.trans hmode, h.bank, h.store,
      (doCalSwitchReq_keeps v t s).frame .pth rfl⟩

end Sys2Proof.Machine
end

section
/-! PROOF. What a firing group leaves of the calendar, the events of the Yoke and the path service (R209, R214). -/
namespace Sys2Proof.Machine

/-- Of the Yoke only the pattern store, its last pattern and the announcements have changed. -/
def StoreOnly (y z : Yk) : Prop := ∃ a b c q l, z = { y with store := a, stamp := b, lastPat := c, annSeq := q, annOut := l }

/-- What a firing group leaves: the calendar in the Yoke, every register below those of the clusters, and a path service that
holds no transaction. -/
structure Turned (s u : State) : Prop where
  yk : StoreOnly s.yk u.yk
  low : ∀ a < 0x200000, ∀ d, sget d u.regs a = sget d s.regs a
  none : s.pth.placed = [] → u.pth.placed = []

theorem StoreOnly.refl {y : Yk} : StoreOnly y y := ⟨_, _, _, _, _, rfl⟩

theorem StoreOnly.trans {x y z : Yk} (h : StoreOnly x y) (k : StoreOnly y z) : StoreOnly x z := by
  obtain ⟨_, _, _, _, _, rfl⟩ := h
  obtain ⟨a, b, c, q, l, rfl⟩ := k
  exact ⟨a, b, c, q, l, rfl⟩

section
variable {s u v : State}

theorem Turned.refl : Turned s s := ⟨.refl, fun _ _ _ => rfl, id⟩

theorem Turned.trans (h : Turned s u) (k : Turned u v) : Turned s v :=
  ⟨h.yk.trans k.yk, fun a ha d => (k.low a ha d).trans (h.low a ha d), fun h0 => k.none (h.none h0)⟩

theorem Turned.ite {c : Prop} [Decidable c] (h : Turned s u) (k : Turned s v) : Turned s (if c then u else v) := by
  split <;> assumption

theorem Turned.foldl {α : Type} {f : State → α → State} (h : ∀ x a, Turned x (f x a)) (l : List α) (s : State) : Turned s (l.foldl f s) :=
  foldl_rel (R := Turned) (fun _ => .refl) .trans (fun x a _ => h x a) s

/-- What leaves the registers, the Yoke and the path service is part of a turn. -/
theorem Turned.of_keeps {m : Nat} (h : Keeps m s u) (h2 : m.testBit 2 = false) (h8 : m.testBit 8 = false) (h9 : m.testBit 9 = false) :
    Turned s u :=
  ⟨h.frame .yk h8 ▸ .refl, fun _ _ _ => by rw [h.frame .regs h2], fun h0 => by rw [h.frame .pth h9]; exact h0⟩

/-- What writes only registers of clusters, captures and interrupts is part of a turn. -/
theorem Turned.of_regs {m : Nat} {l : List Nat} (h : Keeps m s u) (hr : otherRegs l s u) (hl : ∀ a ∈ l, 0x200000 ≤ a)
    (h8 : m.testBit 8 = false) (h9 : m.testBit 9 = false) : Turned s u :=
  ⟨h.frame .yk h8 ▸ .refl, fun a ha => hr a fun hm => by have := hl a hm; omega, fun h0 => by rw [h.frame .pth h9]; exact h0⟩

theorem Turned.reg (h : Turned s u) (hs : u.sys.stage = s.sys.stage) {r : Reg} {ix : List Nat} (hr : r.at ix < 0x200000) :
    u.reg r ix = s.reg r ix := by
  rw [State.reg, State.reg, hs, h.low _ hr]

end

/-! ### The operations of a firing group -/

section
variable (s : State) (e : Nat) {r : Reg} {x : Fld} (ix : List Nat)

theorem base_le_at (r : Reg) : r.row.base ≤ r.at ix := Nat.le_add_right ..

theorem setReg_turned (h : 0x200000 ≤ r.row.base) (v : Word) : Turned s (s.setReg r ix v) :=
  .of_regs (setReg_keeps ..) (.setReg (List.mem_singleton.2 rfl)) (fun _ ha => List.mem_singleton.1 ha ▸ h.trans (base_le_at ix r)) rfl rfl

theorem setF_turned (h : 0x200000 ≤ x.reg.row.base) (v : Nat) : Turned s (s.setF x ix v) := setReg_turned s ix h _

theorem bump_turned (h : 0x200000 ≤ r.row.base) (n : Nat) : Turned s (s.bump r ix n) := setReg_turned s ix h _

theorem icEdge_turned (n : Nat) : Turned s (s.icEdge n) :=
  .of_regs (icEdge_keeps ..) (.icEdge (List.mem_singleton.2 rfl)) (fun _ ha => List.mem_singleton.1 ha ▸ by rw [at_IC_SRC]; omega) rfl rfl

theorem raise_turned (h : 0x200000 ≤ x.reg.row.base) : Turned s (s.raise x ix) := by
  unfold State.raise
  extract_lets s1
  have h1 : Turned s s1 := setF_turned s ix h 1
  split
  · exact h1.trans (icEdge_turned ..)
  · exact h1

theorem offer_turned (ty cl item : Nat) (w : Word) (pl : List Word) : Turned s (s.offer ty cl item w pl) :=
  .of_regs (offer_keeps ..) (.offer mem_suppRegs) (fun a ha => (suppRegs_bounds a ha).1) rfl rfl

theorem noteRegs_bounds : ∀ a ∈ noteRegs e, 0x200000 ≤ a := by
  intro a ha
  simp only [noteRegs, List.mem_cons, List.not_mem_nil, or_false] at ha
  rcases ha with rfl | rfl | rfl | rfl | rfl
  · decide
  · decide
  · decide
  · decide
  · rw [at_IC_SRC]
    omega

theorem putLaneBuf_placed (l : Lane) (b : Int) : (s.putLaneBuf e l b).pth.placed = s.pth.placed := by
  unfold State.putLaneBuf
  extract_lets o s1 s2 b'
  have h2 : s2.pth = s.pth := by
    simp only [s2]
    split
    · exact (offer_keeps ..).frame .pth rfl
    · rfl
  split
  · rw [show (State.icEdge _ (256 + e / 256)).pth = _ from (icEdge_keeps ..).frame .pth rfl]
    have hplaced : s2.pth.placed = s.pth.placed := by rw [h2]
    exact hplaced
  · rw [h2]

theorem putLane_turned (l : Lane) : Turned s (s.putLane e l) :=
  ⟨(putLane_keeps s e l).frame .yk rfl ▸ .refl, fun a ha => otherRegs_putLane e l a fun hm => by have := noteRegs_bounds e a hm; omega,
    fun h0 => (putLaneBuf_placed ..).trans h0⟩

theorem foldSp_turned (a : Int) : Turned s (s.foldSp e a) := by
  unfold State.foldSp
  extract_lets k
  exact .ite .refl ((setF_turned s _ (by decide) _).trans (bump_turned _ _ (by decide) 1))

theorem calHold_turned : Turned s (s.calHold e) := by
  unfold State.calHold State.toHold
  extract_lets l s1 d
  have h1 : Turned s s1 := .of_keeps (setLane_keeps ..) rfl rfl rfl
  exact .ite (h1.trans ((foldSp_turned ..).trans (putLane_turned ..))) h1

theorem refSelect_turned (c a : Nat) (v : Word) : Turned s (State.refSelect c v s a) := by
  unfold State.refSelect
  extract_lets n s1
  have h1 : Turned s s1 := setReg_turned s _ (by decide) _
  exact .ite .refl (h1.trans (.trans (.of_keeps (setCl_keeps ..) rfl rfl rfl) (.foldl (fun x j => calHold_turned x _) _ _)))

theorem calAbandon_turned (key : Nat) : Turned s (s.calAbandon key) := by
  unfold State.calAbandon
  extract_lets k s0 s1
  have h0 : Turned s s0 := ⟨.refl, fun _ _ _ => rfl, id⟩
  have h1 : Turned s0 s1 := by
    simp only [s1]
    split
    · exact setF_turned s0 _ (by decide) _
    · exact .refl
  split
  · exact (h0.trans h1).trans (refSelect_turned ..)
  · exact h0.trans h1

theorem calAbandonMet_turned : Turned s s.calAbandonMet := .foldl calAbandon_turned _ s

theorem writeMeas_turned (tr : Trans) (len : Nat) (res : LaneRes) : Turned s (s.writeMeas e tr len res) := by
  unfold State.writeMeas
  extract_lets ix l cuf fin peak ovr s1 s2 s3
  exact (((setReg_turned s ix (by decide) _).trans (setReg_turned s1 ix (by decide) _)).trans (setReg_turned s2 ix (by decide) _)).trans
    (offer_turned ..)

theorem reResult_turned (res : LaneRes) : Turned s (s.reResult e res) := setF_turned s _ (by decide) _

theorem supersede_turned : Turned s (s.supersede e) := by
  unfold State.supersede
  extract_lets l s1
  split
  · exact .refl
  · next tr _ =>
    extract_lets s2 s3 l3
    have h1 : Turned s s1 := raise_turned s _ (by decide)
    have h2 : Turned s1 s2 := .ite (.of_keeps (clDecide_keeps ..) rfl rfl rfl) .refl
    have h3 : Turned s2 s3 := .ite (reResult_turned ..) (writeMeas_turned ..)
    exact ((h1.trans h2).trans h3).trans (.of_keeps (setLane_keeps ..) rfl rfl rfl)

theorem abortLane_turned : Turned s (s.abortLane e) := by
  unfold State.abortLane
  extract_lets l
  split
  · next tr _ =>
    extract_lets s1
    have h1 : Turned s s1 := .trans (.of_keeps (setLane_keeps ..) rfl rfl rfl) (.of_keeps (clRedecide_keeps ..) rfl rfl rfl)
    exact .ite .refl (.ite (h1.trans (reResult_turned ..)) h1)
  · exact .refl

theorem startTrans_turned (pat t0 : Nat) (slot : Bool) : Turned s (s.startTrans pat t0 e slot) := by
  unfold State.startTrans
  split
  · exact .refl
  · extract_lets c s0 x s1 l due tgt d ls n iso cut key busy tr left tap0 tap1 l1 s2 s4 s5 s6 s7 s8
    have h2 : Turned s s2 := ((supersede_turned s e).trans (foldSp_turned s0 e x.2)).trans (putLane_turned s1 e l1)
    have h5 : Turned s2 s5 := .trans (u := s4) (.ite (raise_turned s2 _ (by decide)) .refl) (.ite (raise_turned s4 _ (by decide)) .refl)
    have h7 : Turned s5 s7 := (bump_turned s5 _ (by decide) 1).trans (.of_keeps (setCl_keeps ..) rfl rfl rfl)
    have h8 : Turned s7 s8 := .ite (.of_keeps (calMeet_keeps ..) rfl rfl rfl) .refl
    have hall : Turned s s8 := ((h2.trans h5).trans h7).trans h8
    exact .ite (hall.trans (abortLane_turned ..)) hall

theorem selectBank1_turned (probe : Bool) : Turned s (State.selectBank1 probe s e) := by
  unfold State.selectBank1
  extract_lets s1 l
  exact .ite .refl ((setF_turned s _ (by decide) 1).trans ⟨.refl, fun _ _ _ => rfl, id⟩)

theorem fireLane_turned (t : Nat) (x : Nat × Nat × Bool × PatKind) : Turned s (State.fireLane t s x) := by
  unfold State.fireLane
  extract_lets s1 s2
  have h1 : Turned s s1 := .of_keeps (markBy_keeps ..) rfl rfl rfl
  have h2 : Turned s1 s2 := .ite (selectBank1_turned ..) .refl
  exact .ite .refl ((h1.trans h2).trans (startTrans_turned ..))

theorem applySet_turned (l : LaneSet) : Turned s (s.applySet l) := by
  unfold State.applySet doSetptWrite
  extract_lets k s1
  have h1 : Turned s s1 := .of_keeps (setLane_keeps ..) rfl rfl rfl
  split
  · extract_lets l2 s2
    have h2 : Turned s1 s2 := setReg_turned s1 _ (by decide) _
    exact (h1.trans h2).trans (.ite (.of_keeps (setLane_keeps ..) rfl rfl rfl) (.of_keeps (setLane_keeps ..) rfl rfl rfl))
  · exact h1

theorem bank0_turned : Turned s (s.bank0 e) := by
  unfold State.bank0
  extract_lets s1
  exact .ite ((setF_turned s _ (by decide) 0).trans ⟨.refl, fun _ _ _ => rfl, id⟩) .refl

theorem bankBack_turned (keep : List Nat) : Turned s (s.bankBack keep) :=
  .trans (.foldl bank0_turned _ s) ⟨.refl, fun _ _ _ => rfl, id⟩

theorem giveWay_turned (g : List PatEnt) : Turned s (s.giveWay g).2 := by
  unfold State.giveWay
  extract_lets hit routes next ln gone cut mine s1
  have h1 : Turned s s1 := .ite (bankBack_turned ..) .refl
  split
  · exact .refl
  · exact h1.trans ⟨.refl, fun _ _ _ => rfl, id⟩

theorem accTrigger_turned (c : Nat) (strobe : Bool) : Turned s (s.accTrigger c strobe) := by
  have hcl : ∀ (u : State) k, Turned u (u.setCl c k) := fun u k => .of_keeps (setCl_keeps ..) rfl rfl rfl
  have htake : ∀ u : State, Turned u (u.accTake c) := fun u => by
    unfold State.accTake
    extract_lets k
    exact .ite (bump_turned u _ (by decide) 1) (.ite (hcl ..) (hcl ..))
  unfold State.accTrigger
  extract_lets k g g1
  exact .ite .refl (.ite (hcl ..) ((hcl ..).trans (htake _)))

theorem strobe_turned : Turned s s.strobe :=
  .foldl (fun _ c => .trans (.of_keeps (setCl_keeps ..) rfl rfl rfl) (accTrigger_turned _ c true)) _ s

theorem AnnOnly.turned {s u : State} (h : AnnOnly s u) (hk : Keeps 0x500 s u) : Turned s u := by
  obtain ⟨q, l, hyk⟩ := h
  exact ⟨⟨_, _, _, q, l, hyk⟩, fun _ _ _ => by rw [hk.frame .regs rfl], fun h0 => by rw [hk.frame .pth rfl]; exact h0⟩

theorem notice_turned (t pat kind : Nat) (shared : Bool) (l : List NotEnt) : Turned s (s.notice t pat kind shared l) :=
  .foldl (fun _ _ => (announce_annOnly ..).turned (announce_keeps ..)) _ s

theorem announceRb_turned (t pat : Nat) : Turned s (State.announceRb t pat s) :=
  .ite (.foldl (fun _ _ => notice_turned ..) _ s) .refl

theorem launch_turned (turn : Option Nat) (t : Nat) (p : PatEnt) : Turned s (State.launch turn t s p) := by
  unfold State.launch
  extract_lets s1 s2 s3
  have h2 : Turned s s2 := ⟨⟨_, _, _, _, _, rfl⟩, fun _ _ _ => rfl, id⟩
  have h3 : Turned s2 s3 := .ite .refl (offer_turned ..)
  exact (h2.trans h3).trans ⟨⟨_, _, _, _, _, rfl⟩, fun _ _ _ => rfl, id⟩

theorem afterFire_turned (turn : Bool) (t : Nat) (p : PatEnt) : Turned s (State.afterFire turn t s p) := by
  unfold State.afterFire
  extract_lets q s1 k ln s2 k2 rts q1 s3 s4
  have h1 : Turned s s1 := ⟨.refl, fun _ _ _ => rfl, fun h => congrArg (List.map _) h⟩
  split
  · have h2 : Turned s1 s2 := .trans (.foldl (fun x e => selectBank1_turned x e true) _ _) (bankBack_turned ..)
    exact (h1.trans h2).trans ⟨.refl, fun _ _ _ => rfl, id⟩
  · have h3 : Turned s1 s3 := ⟨.refl, fun _ _ _ => rfl, id⟩
    have h4 : Turned s3 s4 := .ite (notice_turned ..) .refl
    exact ((h1.trans h3).trans h4).trans (announceRb_turned ..)

theorem fire_turned (t : Nat) (turn : Option Nat) (g : List PatEnt) : Turned s (s.fire t turn g) := by
  unfold State.fire
  extract_lets w g1 s1 s2 s3 s4
  have h1 : Turned s s1 := (giveWay_turned s g).trans (.of_keeps (calForget_keeps ..) rfl rfl rfl)
  have h2 : Turned s1 s2 := .foldl (fun x p => .foldl (fun u l => applySet_turned u l) _ x) _ _
  have h3 : Turned s2 s3 := .trans (.foldl (fun u x => fireLane_turned u t x) _ _) (calAbandonMet_turned _)
  have h4 : Turned s3 s4 := .foldl (fun u p => launch_turned u turn t p) _ _
  have h5 := Turned.foldl (fun u p => afterFire_turned u turn.isSome t p) g1 s4
  exact ((((h1.trans h2).trans h3).trans h4).trans h5).trans (strobe_turned _)

theorem newPat_turned {kind : PatKind} {st : PatSt} {lanes : List LaneSet} {due lead layer n : Nat} {timed : Bool} {u : State}
    (h : s.newPat kind st lanes due lead timed layer = some (n, u)) : Turned s u := by
  unfold State.newPat at h
  extract_lets l f k y at h
  clear_value k
  split at h
  · cases h
  · cases h
    exact ⟨⟨_, _, _, _, _, rfl⟩, fun _ _ _ => rfl, id⟩

/-- The pattern that a turn fires is found in the store, or made there (R212, R214). -/
theorem turnPat_turned {i t n : Nat} {u : State} (h : s.turnPat i t = some (n, u)) : Turned s u := by
  unfold State.turnPat at h
  split at h
  · cases h
    exact .refl
  · unfold State.resident at h
    split at h
    · cases h
      exact .refl
    · split at h
      · next m v hnew =>
        cases h
        have hm := newPat_turned s hnew
        exact hm.trans ⟨.refl, fun _ _ _ => rfl, id⟩
      · cases h

/-- A turn is skipped (R214). -/
def State.skipTurn (s : State) : State := (s.setF YK_CNT.SKIP [] (min 65535 (s.f YK_CNT.SKIP [] + 1))).raise YK_EVT.TURN_SKIP []

theorem turn_cases (i t : Nat) : s.turn i t = s.skipTurn ∨ Turned s (s.turn i t) := by
  unfold State.turn
  extract_lets skip
  split
  · exact .inl rfl
  · split
    · next n u hpat =>
      split
      · exact .inr ((turnPat_turned s hpat).trans (fire_turned ..))
      · exact .inl rfl
    · exact .inl rfl

theorem skipTurn_yk : s.skipTurn.yk = s.yk := raise_yk ..
theorem skipTurn_pth : s.skipTurn.pth = s.pth := raise_pth ..

theorem skipTurn_evt {x : Fld} (hx : x.reg = .YK_EVT) (hb : x.lo + x.len ≤ 2 ∨ 3 ≤ x.lo) : s.skipTurn.f x [] = s.f x [] := by
  rw [State.skipTurn, raise_f_beside (x := YK_EVT.TURN_SKIP) (y := x) _ (by decide) hx (by decide) hb]
  exact f_of_reg (by rw [State.setF, reg_setReg_ne _ _ (by rw [hx]; decide)])

/-- A turn leaves the calendar, and the events of the Yoke but TURN_SKIP. -/
theorem turn_yk (i t : Nat) : StoreOnly s.yk (s.turn i t).yk := by
  rcases turn_cases s i t with h | h
  · rw [h, skipTurn_yk]
    exact .refl
  · exact h.yk

theorem turn_evt (i t : Nat) {x : Fld} (hx : x.reg = .YK_EVT) (hb : x.lo + x.len ≤ 2 ∨ 3 ≤ x.lo) : (s.turn i t).f x [] = s.f x [] := by
  rcases turn_cases s i t with h | h
  · rw [h, skipTurn_evt s hx hb]
  · exact f_of_reg (h.reg ((turn_keeps ..).stage rfl) (by rw [hx]; decide))

theorem turn_placed (i t : Nat) (h0 : s.pth.placed = []) : (s.turn i t).pth.placed = [] := by
  rcases turn_cases s i t with h | h
  · rw [h, skipTurn_pth, h0]
  · exact h.none h0

end

end Sys2Proof.Machine
end

section
/-! PROOF. Starts, turns and announcements of the calendar (O29). -/
namespace Sys2Proof.Machine

/-! ### The start (R217) -/

theorem exec_calendarStart (s : State) (t : Nat) : exec (.calendarStart t) s = .next (doCalStart t s) := rfl

/-- A static change of layer 0 waits, and defers the start (R217). -/
def State.staticWaits (s : State) : Prop := ∃ p ∈ s.yk.store, (p.st = .staged ∨ p.st = .armed) ∧ p.layer = 0 ∧ p.kind ≠ .repair

theorem staticWaits_iff (s : State) : s.yk.store.any (fun p => (p.st == .staged || p.st == .armed) && decide (p.layer = 0)
    && !(p.kind == .repair)) = true ↔ s.staticWaits := by
  simp [State.staticWaits, List.any_eq_true, and_assoc]

/-- The calendar is at its start at t (R217). -/
def State.started (s : State) (t : Nat) : State := { s with yk := { s.yk with mode := 2, start := t, cycles := 1 } }

/-- The start waits until d (R217). -/
def State.deferStart (s : State) (d : Nat) : State := { s with yk := { s.yk with calAt := d } }.sendCtrl 0 d

/-- The module is at the start time of its calendar, outside the safe state (R217). -/
structure State.AtStart (s : State) (t : Nat) : Prop where
  mode : s.yk.mode = 1
  time : s.yk.calAt = t
  safe : s.flt.safe = false

section
variable {s : State} {t : Nat}

theorem State.AtStart.guard (h : s.AtStart t) : ¬ ((s.passTo t).yk.mode ≠ 1 ∨ t ≠ (s.passTo t).yk.calAt ∨ (s.passTo t).flt.safe = true) := by
  simp [h.mode, h.time, h.safe]

theorem doCalStart_defers (h : s.AtStart t) (hw : s.staticWaits) : doCalStart t s = (s.passTo t).deferStart (secAfter (t + 1)) := by
  have hany := (staticWaits_iff (s.passTo t)).2 (by rw [State.staticWaits, passTo_yk]; exact hw)
  exact (if_neg h.guard).trans (if_pos hany)

theorem doCalStart_starts (h : s.AtStart t) (hw : ¬ s.staticWaits) : doCalStart t s
    = State.schedEvent s (((((s.passTo t).started t).turn 0 t).raise YK_EVT.CAL_STARTED []).nextTurn 0 t) := by
  have hany : ¬ _ := fun hany => hw (by
    have h1 := (staticWaits_iff (s.passTo t)).1 hany
    rwa [State.staticWaits, passTo_yk] at h1)
  exact (if_neg h.guard).trans (if_neg hany)

end

section
variable (s : State) (i t : Nat) (x : Fld) (ix : List Nat)

theorem nextTurn_yk : (s.nextTurn i t).yk
    = { s.yk with entry := i, turnAt := t + s.entNs s.yk.bank i, turnEnt := (i + 1) % max 1 (s.bankN s.yk.bank) } := rfl

theorem nextTurn_f : (s.nextTurn i t).f x ix = s.f x ix := (nextTurn_keeps s i t).f rfl rfl x ix

end

theorem runs_calendarStart_starts {s : State} {t : Nat} (h : s.AtStart t) (hw : ¬ s.staticWaits) : Runs (.calendarStart t) s fun u =>
    u.yk.mode = 2 ∧ u.yk.start = t ∧ u.yk.cycles = 1 ∧ u.yk.entry = 0 ∧ u.f YK_EVT.CAL_STARTED [] = 1 := by
  obtain ⟨a, b, c, q, l, hyk⟩ := turn_yk ((s.passTo t).started t) 0 t
  refine .of_eq (exec_calendarStart s t) (doCalStart_starts h hw) ?_
  rw [schedEvent_yk, schedEvent_f, nextTurn_yk, nextTurn_f, raise_yk, hyk]
  exact ⟨rfl, rfl, rfl, rfl, raise_f_same _ (by decide) (by decide)⟩

theorem runs_calendarStart_defers {s : State} {t : Nat} (h : s.AtStart t) (hw : s.staticWaits) : Runs (.calendarStart t) s fun u =>
    u.yk = { s.yk with calAt := secAfter (t + 1) } ∧ changesOnly [.clr, .yk, .pair] s u := by
  generalize hd : secAfter (t + 1) = d
  have hdo := doCalStart_defers h hw
  rw [hd] at hdo
  refine .of_eq (exec_calendarStart s t) hdo ⟨?_, ?_⟩
  · rw [State.deferStart, sendCtrl_yk, passTo_yk]
  · have hset : Keeps 0x100 (s.passTo t) { s.passTo t with yk := { (s.passTo t).yk with calAt := d } } := .upd .refl
    exact (((passTo_keeps s t).trans hset).trans (sendCtrl_keeps ..)).changesOnly rfl

/-! ### Turns (R214, R218, R219) -/

theorem exec_calendarTurn (s : State) (t : Nat) : exec (.calendarTurn t) s = .next (doCalTurn t s) := rfl

/-- A switch that is due takes effect (R219). -/
def State.switched (s : State) (t : Nat) : State :=
  { s with yk := { s.yk with bank := !s.yk.bank, start := t, swPend := false } }.raise YK_EVT.CAL_SWITCHED []

/-- A cycle of the calendar is counted (R223). -/
def State.countCycle (s : State) : State := { s with yk := { s.yk with cycles := (s.yk.cycles + 1) % 2 ^ 32 } }

/-- The calendar stops (R218). -/
def State.stopped (s : State) : State := { s with yk := { s.yk with mode := 0, swPend := false, entry := 0 } }.raise YK_EVT.CAL_STOPPED []

/-- The state in which an entry fires its turn: behind a switch that is due, and a cycle counted, at entry 0 (R214, R219). -/
def State.enterTurn (s : State) (t : Nat) : State :=
  let u := if s.yk.turnEnt = 0 ∧ s.yk.swPend = true ∧ s.yk.swAt ≤ t then s.switched t else s
  if s.yk.turnEnt = 0 then u.countCycle else u

section
variable {s : State} {t : Nat}

theorem turn_guard (hmode : 2 ≤ s.yk.mode) (ht : s.yk.turnAt = t) : ¬ ((s.passTo t).yk.mode < 2 ∨ t ≠ (s.passTo t).yk.turnAt) := by
  rw [passTo_yk]
  omega

theorem doCalTurn_runs (hmode : s.yk.mode = 2) (ht : s.yk.turnAt = t) : doCalTurn t s
    = State.schedEvent s ((((s.passTo t).enterTurn t).turn s.yk.turnEnt t).nextTurn s.yk.turnEnt t) := by
  have hrun : ¬ ((s.passTo t).yk.turnEnt = 0 ∧ (s.passTo t).yk.mode = 3 ∧ (s.passTo t).yk.stopAt ≤ t) := by
    rw [passTo_yk]
    omega
  have hent : (s.passTo t).yk.turnEnt = s.yk.turnEnt := by rw [passTo_yk]
  rw [← hent]
  exact (if_neg (turn_guard (by omega) ht)).trans (if_neg hrun)

theorem doCalTurn_stops (hmode : s.yk.mode = 3) (ht : s.yk.turnAt = t) (hent : s.yk.turnEnt = 0) (hstop : s.yk.stopAt ≤ t) :
    doCalTurn t s = State.schedEvent s ((s.passTo t).turn 0 t).dropLayers.stopped.calResume.sweepLost := by
  have hrun : (s.passTo t).yk.turnEnt = 0 ∧ (s.passTo t).yk.mode = 3 ∧ (s.passTo t).yk.stopAt ≤ t := by
    rw [passTo_yk]
    exact ⟨hent, hmode, hstop⟩
  exact (if_neg (turn_guard (by omega) ht)).trans (if_pos hrun)

theorem enterTurn_other (h : s.yk.turnEnt ≠ 0) (t : Nat) : s.enterTurn t = s := by simp [State.enterTurn, h]

theorem enterTurn_switch (h : s.yk.turnEnt = 0) (hpend : s.yk.swPend = true) (hat : s.yk.swAt ≤ t) :
    s.enterTurn t = (s.switched t).countCycle := by simp [State.enterTurn, h, hpend, hat]

theorem switched_yk (s : State) (t : Nat) : (s.switched t).yk = { s.yk with bank := !s.yk.bank, start := t, swPend := false } := raise_yk ..

theorem runs_calendarTurn_other (ht : s.yk.turnAt = t) (hmode : s.yk.mode = 2) (hent : s.yk.turnEnt ≠ 0) : Runs (.calendarTurn t) s fun u =>
    u.yk.mode = 2 ∧ u.yk.entry = s.yk.turnEnt ∧ u.yk.bank = s.yk.bank ∧ u.yk.cycles = s.yk.cycles := by
  obtain ⟨a, b, c, q, l, hyk⟩ := turn_yk (s.passTo t) s.yk.turnEnt t
  have hrun := doCalTurn_runs hmode ht
  rw [enterTurn_other (by rw [passTo_yk]; exact hent)] at hrun
  refine .of_eq (exec_calendarTurn s t) hrun ?_
  rw [schedEvent_yk, nextTurn_yk, hyk, passTo_yk]
  exact ⟨hmode, rfl, rfl, rfl⟩

theorem runs_calendarTurn_switch (ht : s.yk.turnAt = t) (hmode : s.yk.mode = 2) (hent : s.yk.turnEnt = 0) (hpend : s.yk.swPend = true)
    (hat : s.yk.swAt ≤ t) : Runs (.calendarTurn t) s fun u => u.yk.bank = !s.yk.bank ∧ u.yk.start = t ∧ u.yk.swPend = false ∧ u.yk.entry = 0
      ∧ u.yk.cycles = (s.yk.cycles + 1) % 2 ^ 32 ∧ u.f YK_EVT.CAL_SWITCHED [] = 1 := by
  obtain ⟨a, b, c, q, l, hyk⟩ := turn_yk ((s.passTo t).switched t).countCycle 0 t
  have hrun := doCalTurn_runs hmode ht
  rw [enterTurn_switch (by rw [passTo_yk]; exact hent) (by rw [passTo_yk]; exact hpend) (by rw [passTo_yk]; exact hat), hent] at hrun
  have hevt : ((s.passTo t).switched t).countCycle.f YK_EVT.CAL_SWITCHED [] = 1 := raise_f_same _ (by decide) (by decide)
  have hcount : ((s.passTo t).switched t).countCycle.yk
      = { s.yk with bank := !s.yk.bank, start := t, swPend := false, cycles := (s.yk.cycles + 1) % 2 ^ 32 } := by
    rw [State.countCycle, switched_yk, passTo_yk]
  refine .of_eq (exec_calendarTurn s t) hrun ?_
  rw [schedEvent_yk, schedEvent_f, nextTurn_f, nextTurn_yk, hyk, hcount, turn_evt _ _ _ rfl (by decide), hevt]
  exact ⟨rfl, rfl, rfl, rfl, rfl, rfl⟩

/-! ### The end of the calendar (R218) -/

theorem calResume_idle (h : s.yk.calPend = false) : s.calResume = s := by simp [State.calResume, h]

theorem sweepLost_of_none_placed (h : s.pth.placed = []) : s.sweepLost = s := by simp [State.sweepLost, h]

/-- With nothing placed, the end of the calendar releases the layers from 1 up (R218). -/
structure LayersReleased (s u : State) : Prop where
  yk : StoreOnly s.yk u.yk
  placed : u.pth.placed = []
  plan : ∀ k, 512 ≤ k → sget none u.pth.plan k = none

theorem sget_filter_low {α : Type} (d : α) (m : SMap α) {k : Nat} (h : 512 ≤ k) : sget d (m.filter fun p => decide (p.1 < 512)) k = d := by
  induction m with
  | nil => rfl
  | cons p m ih =>
    rw [List.filter_cons]
    split
    · next hp =>
      have hne : p.1 ≠ k := by
        have := of_decide_eq_true hp
        omega
      rw [sget, if_neg hne, ih]
    · exact ih

theorem dropLayers_released (h : s.pth.placed = []) : LayersReleased s s.dropLayers := by
  unfold State.dropLayers
  extract_lets l s1 s2
  have hl : l = [] := by simp [l, h]
  have h1 : s1 = s.releaseLayers := by simp only [s1, hl, List.foldl_nil]
  have hp : s1.pth.placed = [] := by rw [h1]; exact h
  have h2 : s2 = s.releaseLayers := (eachTxn_of_none_placed hp _ _).trans h1
  have hyk : StoreOnly s.yk s2.yk := by
    rw [h2]
    exact ⟨_, _, _, _, _, rfl⟩
  have hplaced : s2.pth.placed = [] := by
    rw [h2]
    exact h
  have hplan : s2.pth.plan = s.pth.plan.filter fun p => decide (p.1 < 512) := by rw [h2, State.releaseLayers]
  refine ⟨hyk, by simp [hplaced], fun k hk => ?_⟩
  show sget none s2.pth.plan k = none
  rw [hplan, sget_filter_low none _ hk]

theorem runs_calendarTurn_stop (ht : s.yk.turnAt = t) (hmode : s.yk.mode = 3) (hent : s.yk.turnEnt = 0) (hstop : s.yk.stopAt ≤ t)
    (hpend : s.yk.calPend = false) (hnone : s.pth.placed = []) : Runs (.calendarTurn t) s fun u =>
      u.yk.mode = 0 ∧ u.yk.entry = 0 ∧ u.f YK_EVT.CAL_STOPPED [] = 1 ∧ ∀ k, 512 ≤ k → sget none u.pth.plan k = none := by
  obtain ⟨hyk, hplaced, hplan⟩ := dropLayers_released (turn_placed (s.passTo t) 0 t (by rw [passTo_pth]; exact hnone))
  obtain ⟨a, b, c, q, l, hyk⟩ := (turn_yk (s.passTo t) 0 t).trans hyk
  rw [passTo_yk] at hyk
  have hstopped : ((s.passTo t).turn 0 t).dropLayers.stopped.yk
      = { ((s.passTo t).turn 0 t).dropLayers.yk with mode := 0, swPend := false, entry := 0 } := raise_yk ..
  have hpth : ((s.passTo t).turn 0 t).dropLayers.stopped.pth = ((s.passTo t).turn 0 t).dropLayers.pth := raise_pth ..
  have hdo := doCalTurn_stops hmode ht hent hstop
  rw [calResume_idle (by rw [hstopped, hyk]; exact hpend), sweepLost_of_none_placed (by rw [hpth]; exact hplaced)] at hdo
  refine .of_eq (exec_calendarTurn s t) hdo ?_
  rw [schedEvent_yk, schedEvent_f, schedEvent_pth, hstopped, hpth]
  exact ⟨rfl, rfl, raise_f_same _ (by decide) (by decide), hplan⟩

end

/-! ### The repeat of the announcements (R222) -/

theorem exec_announceRepeat (s : State) (t : Nat) : exec (.announceRepeat t) s = .next (doAnnRepeat t s) := rfl

/-- n announcements have been handed over outside PAIR, and nothing else has changed. -/
structure Announced (n : Nat) (s u : State) : Prop where
  yk : ∃ l, u.yk = { s.yk with annSeq := s.yk.annSeq + n, annOut := l } ∧ l.length = s.yk.annOut.length + n
  keeps : Keeps 0x100 s u

section
variable {s u v : State}

theorem Announced.refl : Announced 0 s s := ⟨⟨_, rfl, rfl⟩, .refl⟩

theorem Announced.trans {m n : Nat} (h : Announced m s u) (k : Announced n u v) : Announced (m + n) s v := by
  obtain ⟨⟨l, hyk, hl⟩, hk⟩ := h
  obtain ⟨⟨l', hyk', hl'⟩, hk'⟩ := k
  rw [hyk] at hyk' hl'
  exact ⟨⟨l', by rw [hyk', Nat.add_assoc], by rw [hl']; simp only [hl, Nat.add_assoc]⟩, hk'.step hk rfl⟩

theorem announce_announced (h : s.inPair = false) (ty : Nat) (shared : Bool) (body : List Byte) : Announced 1 s (s.announce ty shared body) := by
  have hann : s.announce ty shared body = s.handAnn (s.yk.annSeq + 1) (s.annFrame ty (s.yk.annSeq + 1) body) := by
    simp [State.announce, h]
  rw [hann]
  exact ⟨⟨_, rfl, by rw [List.length_append, List.length_singleton]⟩, handAnn_keeps ..⟩

theorem Announced.inPair {n : Nat} (k : Announced n s u) (h : s.inPair = false) : u.inPair = false := by
  rw [← h, State.inPair, State.inPair, (k.keeps.frame .straps rfl).1]

theorem foldl_announced {α : Type} {f : State → α → State} (hf : ∀ x a, x.inPair = false → Announced 1 x (f x a)) (l : List α) (s : State)
    (h : s.inPair = false) : Announced l.length s (l.foldl f s) := by
  induction l generalizing s with
  | nil => exact .refl
  | cons a l ih =>
    have h1 := hf s a h
    rw [List.length_cons, Nat.add_comm]
    exact h1.trans (ih (f s a) (h1.inPair h))

theorem sendCalendar_announced (h : s.inPair = false) (t : Nat) (b : Bool) : Announced (1 + s.bankN b) s (s.sendCalendar t b) := by
  have h1 : Announced 1 s (s.sendSched t b) := announce_announced h ..
  have h2 := foldl_announced (f := fun u i => u.sendMap (u.tableAt i (t + u.entOfs b i)) i (t + u.entOfs b i))
    (fun x a hx => announce_announced hx ..) (List.range (s.bankN b)) (s.sendSched t b) (h1.inPair h)
  rw [List.length_range] at h2
  exact h1.trans h2

end

/-- Settles O29: the start, the three turns and the repeat of the announcements, each from its rule. -/
theorem calendarRuns : Obligations.CalendarRuns := by
  unfold Obligations.CalendarRuns
  refine fun s t => ⟨fun hmode htime hsafe => ⟨fun hnone => ?start, fun hw => runs_calendarStart_defers ⟨hmode, htime, hsafe⟩ hw⟩,
    fun ht => ⟨runs_calendarTurn_other ht, runs_calendarTurn_switch ht, runs_calendarTurn_stop ht⟩, fun hen hrep hmode hpair => ?announce⟩
  case start => exact runs_calendarStart_starts ⟨hmode, htime, hsafe⟩ fun ⟨p, hp, hw⟩ => hnone p hp hw
  case announce =>
    have hgo : ((s.passTo t).annEn && decide ((s.passTo t).f YK_ANN_B.ANN_REPEAT [] ≠ 0) && decide (2 ≤ (s.passTo t).yk.mode)) = true := by
      have hen' : (s.passTo t).annEn = true := (passTo_fb ..).trans hen
      simp [hen', hrep, hmode]
    have hpair' : (s.passTo t).inPair = false := by
      rw [← hpair, State.inPair, State.inPair, ((passTo_keeps s t).frame .straps rfl).1]
    obtain ⟨⟨l, hyk, hl⟩, hk⟩ := sendCalendar_announced hpair' (s.passTo t).yk.start (s.passTo t).yk.bank
    refine .of_eq (exec_announceRepeat s t) (if_pos hgo) ?_
    rw [hyk]
    rw [passTo_yk, passTo_bankN, ← Nat.add_assoc] at *
    exact ⟨rfl, hl, rfl, ((passTo_keeps s t).trans hk).changesOnly rfl⟩

end Sys2Proof.Machine
end

section
/-! PROOF. Host memory behind a write, and the canonical form that every step keeps (O4). -/
namespace Sys2Proof.Machine

/-! ### Lengths of what is written -/

@[simp] theorem length_leBytes (k x : Nat) : (leBytes k x).length = k := by
  induction k generalizing x with
  | zero => rfl
  | succ k ih => rw [leBytes, List.length_cons, ih]

@[simp] theorem length_wordBytes (l : List Word) : (wordBytes l).length = 4 * l.length := by
  induction l with
  | nil => rfl
  | cons w l ih =>
    have hcons : wordBytes (w :: l) = leBytes 4 w.toNat ++ wordBytes l := rfl
    rw [hcons, List.length_append, length_leBytes, ih, List.length_cons]
    omega

@[simp] theorem length_padW (n : Nat) (l : List Word) : (padW n l).length = n := by simp [padW]

/-! ### Reading what was written -/

theorem Memory.getL_congr {m m' : List Host.Cell} {a n : Nat} (h : ∀ b, a ≤ b → b < a + n → Memory.get m b = Memory.get m' b) :
    Memory.getL m a n = Memory.getL m' a n := by
  induction n generalizing a with
  | zero => rfl
  | succ n ih =>
    rw [Memory.getL, Memory.getL, h a (Nat.le_refl a) (by omega), ih fun b hb hn => h b (by omega) (by omega)]

theorem Memory.getL_putL_same {m : List Host.Cell} (h : Memory.wf m = true) (a : Nat) (l : List Byte) :
    Memory.getL (Memory.putL m a l) a l.length = l := by
  induction l generalizing m a with
  | nil => rfl
  | cons x l ih =>
    have hwf : Memory.wf (Memory.put m a x) = true := mem_put_from h (Nat.zero_le a)
    have hx : Memory.get (Memory.putL (Memory.put m a x) (a + 1) l) a = x := by
      rw [Memory.get_putL_outside _ _ _ (.inl (Nat.lt_succ_self a)), Memory.get_put_same _ _ _ h]
    rw [List.length_cons, Memory.getL, Memory.putL, hx, ih hwf]

section
variable {s u : State} {a n : Nat} {l : List Byte}

/-- A read of the bytes written gives them back. -/
theorem hget_written (hw : s.memWf = true) (hm : u.hostMem = Memory.putL s.hostMem a l) (hn : l.length = n) : u.hget a n = l := by
  rw [State.hget, hm, ← hn, Memory.getL_putL_same hw]

/-- A write changes no byte outside it. -/
theorem get_not_written (hm : u.hostMem = Memory.putL s.hostMem a l) (hn : l.length = n) :
    ∀ b, b < a ∨ a + n ≤ b → Memory.get u.hostMem b = Memory.get s.hostMem b := fun b hb => by
  rw [hm, Memory.get_putL_outside _ _ _ (by rwa [hn])]

/-- A read beside a write gives what it gave before. -/
theorem hget_not_written {b k : Nat} (hm : u.hostMem = Memory.putL s.hostMem a l) (hb : b + k ≤ a) : u.hget b k = s.hget b k :=
  Memory.getL_congr fun c _ hc => get_not_written hm rfl c (.inl (by omega))

end

/-- Settles O4: a step takes the queue's front off and runs it, and `exec_keeps` says that every command keeps the form. -/
theorem hostMemoryStaysCanonical : Obligations.HostMemoryStaysCanonical := by
  intro s t hwf hstep
  unfold step at hstep
  split at hstep
  case h_1 => cases hstep; exact hwf
  case h_2 c rest _ =>
    obtain ⟨u, n, hu, hk, -⟩ := exec_keeps c { s with pending := rest }
    cases hstep.symm.trans hu
    exact hk.wf hwf

end Sys2Proof.Machine
end

section
/-! PROOF. Messages, errors and moderation of the rings (R231, R234, R254, R256, R259): what each leaves of the registers, the rings
and the queues of the host interface. -/
namespace Sys2Proof.Machine

/-! ### Places of registers -/

theorem at_RING_CFG (g : Nat) : Reg.RING_CFG.at [g] = 0x200008 + 0x40 * g := rfl
theorem at_RING_STATUS (g : Nat) : Reg.RING_STATUS.at [g] = 0x20000c + 0x40 * g := rfl
theorem at_RING_LOST (g : Nat) : Reg.RING_LOST.at [g] = 0x20001c + 0x40 * g := rfl
theorem at_MSIX_PBA (n : Nat) : Reg.MSIX_PBA.at [n] = 0xd000 + 4 * n := rfl

/-! ### Messages and errors (R231, R256, R259) -/

/-- From s to u the host interface has noted an error or sent messages: no register behind its own first ones is reached, and of
its queues only that of the messages. -/
structure HifNoted (s u : State) : Prop where
  hif : ∃ l, u.hif = { s.hif with msix := l }
  regs : ∀ r ix, 0x10000 ≤ Reg.at r ix → u.reg r ix = s.reg r ix
  keeps : Keeps 0x2004 s u

section
variable {s u v : State}

theorem HifNoted.refl : HifNoted s s := ⟨⟨_, rfl⟩, fun _ _ _ => rfl, .refl⟩

theorem HifNoted.trans (h : HifNoted s u) (k : HifNoted u v) : HifNoted s v := by
  obtain ⟨l, hl⟩ := h.hif
  obtain ⟨m, hm⟩ := k.hif
  exact ⟨⟨m, by rw [hm, hl]⟩, fun r ix hr => (k.regs r ix hr).trans (h.regs r ix hr), h.keeps.trans k.keeps⟩

theorem HifNoted.ring (h : HifNoted s u) (g : Nat) : u.ring g = s.ring g := by
  obtain ⟨l, hl⟩ := h.hif
  rw [State.ring, hl, State.ring]

theorem HifNoted.f (h : HifNoted s u) {x : Fld} {ix : List Nat} (hx : 0x10000 ≤ x.reg.at ix) : u.f x ix = s.f x ix :=
  f_of_reg (h.regs _ _ hx)

end

section
variable (s : State)

theorem setReg_noted {r : Reg} {ix : List Nat} (hr : r.at ix < 0x10000) (w : Word) : HifNoted s (s.setReg r ix w) :=
  ⟨⟨_, rfl⟩, fun q jx hq => reg_setReg_ne _ _ (by omega), (setReg_keeps ..).step .refl rfl⟩

theorem msi_noted {n : Nat} (h : n < 256) : HifNoted s (s.msi n) := by
  unfold State.msi
  split
  · exact setReg_noted s (by rw [at_MSIX_PBA]; omega) _
  · exact ⟨⟨_, rfl⟩, fun _ _ _ => rfl, Keeps.upd .refl⟩

/-- HIF_ERR_RING takes the ring of the first error (R231). -/
def State.errRing (s : State) : Option Nat → State
  | some g => if s.reg .HIF_ERR [] = 0 then s.setReg .HIF_ERR_RING [] (wd (2 ^ 31 + g)) else s
  | none => s

theorem errRing_noted (o : Option Nat) : HifNoted s (s.errRing o) := by
  unfold State.errRing
  split
  · split
    · exact setReg_noted s (by decide) _
    · exact .refl
  · exact .refl

/-- A change of the bit from 0 to 1 sends ERR_VEC (R231). -/
def State.errMsg (s : State) (x : Fld) (o : Option Nat) : State :=
  if s.fb x [] then s.errRing o else (s.errRing o).msi ((s.errRing o).f HIF_CTRL.ERR_VEC [])

theorem errMsg_noted (x : Fld) (o : Option Nat) : HifNoted s (s.errMsg x o) := by
  unfold State.errMsg
  split
  · exact errRing_noted s o
  · exact (errRing_noted s o).trans (msi_noted _ (fget_lt ..))

variable {x : Fld} (hx : x.reg = .HIF_ERR) (o : Option Nat)
include hx

theorem hifErr_eq : s.hifErr x o = (s.errMsg x o).setF x [] 1 := by
  have hraise : ∀ z : State, z.raise x [] = z.setF x [] 1 := fun z => raise_of_no_source z [] (by rw [hx]; rfl)
  cases o <;> exact hraise _

theorem hifErr_noted : HifNoted s (s.hifErr x o) := by
  rw [hifErr_eq s hx]
  exact (errMsg_noted s x o).trans (setReg_noted _ (by rw [hx]; decide) _)

theorem f_hifErr (hlen : x.len = 1 ∧ x.lo < 32) : (s.hifErr x o).f x [] = 1 := by
  rw [hifErr_eq s hx, f_setF_same _ _ _ _ (by omega), hlen.1]
  rfl

end

/-- RING_ERROR has no entry in the log (R449, R454): it is posted, and nothing else happens. -/
theorem ringError_keeps_hif (s : State) (g : Nat) : Keeps 0x2000 s (s.ringError g) := postRaw_keeps ..

theorem ringError_hif (s : State) (g : Nat) : ∃ l, (s.ringError g).hif = { s.hif with evq := l } := by
  unfold State.ringError
  extract_lets st
  have hpost : s.post 5 0x50 g [wd (fget 8 3 st)] = s.postRaw 5 0x50 g [wd (fget 8 3 st)] := rfl
  rw [hpost, State.postRaw]
  split
  · exact ⟨_, rfl⟩
  · exact ⟨_, rfl⟩

/-- From s to u an error of a ring was noted (R259): bit x of its status, bit y of HIF_ERR, and the event. -/
structure ErrorNoted (x : Fld) (ix : List Nat) (y : Fld) (s u : State) : Prop where
  bit : u.f x ix = 1
  hifBit : u.f y [] = 1
  regs : ∀ r jx, 0x10000 ≤ Reg.at r jx → x.reg.at ix ≠ Reg.at r jx → u.reg r jx = s.reg r jx
  hif : ∃ l m, u.hif = { s.hif with evq := l, msix := m }
  keeps : Keeps 0x2004 s u

theorem ErrorNoted.ring {x : Fld} {ix : List Nat} {y : Fld} {s u : State} (h : ErrorNoted x ix y s u) (g : Nat) :
    u.ring g = s.ring g := by
  obtain ⟨l, m, hl⟩ := h.hif
  rw [State.ring, hl, State.ring]

theorem error_noted (s : State) {x : Fld} {ix : List Nat} {y : Fld} (hsrc : icOf x.reg = none) (hat : 0x10000 ≤ x.reg.at ix)
    (hx : x.len = 1 ∧ x.lo < 32) (hy : y.reg = .HIF_ERR) (hylen : y.len = 1 ∧ y.lo < 32) (g : Nat) :
    ErrorNoted x ix y s (((s.raise x ix).hifErr y (some g)).ringError g) := by
  rw [raise_of_no_source s ix hsrc]
  have hn := hifErr_noted (s.setF x ix 1) hy (some g)
  have hreg := fun r jx => (ringError_keeps_hif ((s.setF x ix 1).hifErr y (some g)) g).reg rfl rfl r jx
  obtain ⟨l, hl⟩ := ringError_hif ((s.setF x ix 1).hifErr y (some g)) g
  obtain ⟨m, hm⟩ := hn.hif
  refine ⟨?_, ?_, fun r jx hr hne => ?_, ⟨l, m, ?_⟩, ((setF_keeps ..).trans hn.keeps).trans (ringError_keeps_hif ..)⟩
  · rw [f_of_reg (hreg ..), hn.f hat, f_setF_same _ _ _ _ (by omega), hx.1]
    rfl
  · rw [f_of_reg (hreg ..), f_hifErr _ hy _ hylen]
  · rw [hreg, hn.regs r jx hr, State.setF, reg_setReg_ne _ _ hne]
  · rw [hl, hm]
    rfl

theorem ringErr_noted (s : State) (g : Nat) {x y : Fld} (hreg : x.reg = .RING_STATUS) (hx : x.len = 1 ∧ x.lo < 32)
    (hy : y.reg = .HIF_ERR) (hylen : y.len = 1 ∧ y.lo < 32) : ErrorNoted x [g] y s (s.ringErr g x y) :=
  error_noted s (by rw [hreg]; rfl) (by rw [hreg, at_RING_STATUS]; omega) hx hy hylen g

/-! ### Moderation (R256) -/

/-- From s to u the messages of ring g were moderated: its count and its timer may have changed, and messages were sent. -/
structure Moderated (g : Nat) (s u : State) : Prop where
  ring : ∃ n b, u.ring g = { s.ring g with u := n, coalP := b }
  others : ∀ h, h ≠ g → u.ring h = s.ring h
  hif : ∃ rs l, u.hif = { s.hif with rings := rs, msix := l }
  regs : ∀ r ix, 0x10000 ≤ Reg.at r ix → u.reg r ix = s.reg r ix
  keeps : Keeps 0x2004 s u

theorem Moderated.refl {g : Nat} {s : State} : Moderated g s s :=
  ⟨⟨_, _, rfl⟩, fun _ _ => rfl, ⟨_, _, rfl⟩, fun _ _ _ => rfl, .refl⟩

theorem Moderated.trans {g : Nat} {s u v : State} (h : Moderated g s u) (k : Moderated g u v) : Moderated g s v := by
  obtain ⟨n, b, hr⟩ := h.ring
  obtain ⟨n', b', hr'⟩ := k.ring
  obtain ⟨rs, l, hh⟩ := h.hif
  obtain ⟨rs', l', hh'⟩ := k.hif
  exact ⟨⟨n', b', by rw [hr', hr]⟩, fun j hj => (k.others j hj).trans (h.others j hj), ⟨rs', l', by rw [hh', hh]⟩,
    fun r ix hat => (k.regs r ix hat).trans (h.regs r ix hat), h.keeps.trans k.keeps⟩

theorem HifNoted.moderated {s u : State} (h : HifNoted s u) (g : Nat) : Moderated g s u := by
  obtain ⟨l, hl⟩ := h.hif
  exact ⟨⟨_, _, h.ring g⟩, fun j _ => h.ring j, ⟨_, l, hl⟩, h.regs, h.keeps⟩

theorem setRing_moderated (s : State) (g n : Nat) (b : Bool) : Moderated g s (s.setRing g { s.ring g with u := n, coalP := b }) :=
  ⟨⟨n, b, ring_setRing_same ..⟩, fun _ hj => ring_setRing_ne _ _ (Ne.symm hj), ⟨_, _, rfl⟩, fun _ _ _ => rfl,
    (setRing_keeps ..).step .refl rfl⟩

theorem signal_moderated (s : State) (g : Nat) : Moderated g s (s.signal g) := by
  unfold State.signal
  extract_lets r
  split
  · exact (setRing_moderated s g 0 false).trans ((msi_noted _ (fget_lt ..)).moderated g)
  · exact .refl

theorem counted_moderated (s : State) (g : Nat) : Moderated g s (s.counted g) :=
  (setRing_moderated s g _ _).trans (signal_moderated ..)

/-- A ring whose timer has run sends its message when it has unsignalled entries, of which the host has not read all (R256). -/
theorem signal_due {s : State} {g : Nat} (hp : (s.ring g).coalP = true) (hu : (s.ring g).u ≠ 0) (hne : (s.ring g).pi ≠ (s.ring g).ci) :
    s.signal g = (s.setRing g { s.ring g with u := 0, coalP := false }).msi (s.f RING_CFG.VEC [g]) := by
  have hpos : 0 < (s.ring g).u := Nat.pos_of_ne_zero hu
  simp [State.signal, hp, hpos, hne]

/-! ### Entries of completion and event rings (R234, R243) -/

/-- From s to u the bytes l were written to the entry of index PI of ring g, and PI moved on. -/
structure EntryWritten (g : Nat) (l : List Byte) (s u : State) : Prop where
  hostMem : u.hostMem = Memory.putL s.hostMem (s.entryAt g (s.ring g).pi 32) l
  pi : (u.ring g).pi = idxInc (s.ring g).pi
  hif : ∃ rs m, u.hif = { s.hif with rings := rs, msix := m }
  keeps : Keeps 0x802004 s u

theorem writeEntry_written (s : State) (g : Nat) (l : List Word) (d7 : Nat) :
    EntryWritten g (wordBytes (padW 7 l) ++ leBytes 4 (d7 + s.phase g (s.ring g).pi * 2 ^ 31)) s (s.writeEntry g l d7) := by
  have hm := counted_moderated ((s.hput (s.entryAt g (s.ring g).pi 32)
    (wordBytes (padW 7 l) ++ leBytes 4 (d7 + s.phase g (s.ring g).pi * 2 ^ 31))).setRing g { s.ring g with pi := idxInc (s.ring g).pi }) g
  obtain ⟨n, b, hr⟩ := hm.ring
  obtain ⟨rs, m, hh⟩ := hm.hif
  refine ⟨hm.keeps.frame .hostMem rfl, ?_, ⟨rs, m, hh⟩, writeEntry_keeps ..⟩
  exact (congrArg Ring.pi hr).trans (congrArg Ring.pi (ring_setRing_same ..))

theorem length_entry (l : List Word) (d7 : Nat) : (wordBytes (padW 7 l) ++ leBytes 4 d7).length = 32 := by simp

/-- What the host finds in its memory behind an entry: the entry, and every other byte as before. -/
theorem EntryWritten.memory {g d7 : Nat} {l : List Word} {s u : State} (h : EntryWritten g (wordBytes (padW 7 l) ++ leBytes 4 d7) s u)
    (hw : s.memWf = true) :
    u.hget (s.entryAt g (s.ring g).pi 32) 32 = wordBytes (padW 7 l) ++ leBytes 4 d7
      ∧ ∀ a, a < s.entryAt g (s.ring g).pi 32 ∨ s.entryAt g (s.ring g).pi 32 + 32 ≤ a → Memory.get u.hostMem a = Memory.get s.hostMem a :=
  ⟨hget_written hw h.hostMem (length_entry ..), get_not_written h.hostMem (length_entry ..)⟩

end Sys2Proof.Machine
end

section
/-! PROOF. Events and completions in host memory, and the moderation timers (O39). -/
namespace Sys2Proof.Machine

theorem exec_eventWrite (s : State) : exec .eventWrite s = .next (doEventWrite s) := rfl
theorem exec_completionWrite (s : State) : exec .completionWrite s = .next (doCompletionWrite s) := rfl
theorem exec_coalesceTimer (g : Fin 180) (s : State) : exec (.coalesceTimer g) s = .next (doCoalesceTimer g s) := rfl

/-! ### Events (R252, R253, R255) -/

/-- The event at the head of the queue has left it. -/
def State.evTaken (s : State) (rest : List Evt) : State := { s with hif := { s.hif with evq := rest } }

theorem evTaken_keeps (s : State) (rest : List Evt) : Keeps 0x2000 s (s.evTaken rest) := Keeps.upd .refl

section
variable {s : State} {e : Evt} {rest : List Evt} (hrun : s.prl.lsHalt = false) (hq : s.hif.evq = e :: rest)
include hrun hq

theorem doEventWrite_room (ha : (s.ring (128 + e.ring)).active = true) (hroom : s.hasRoom (128 + e.ring) = true) :
    doEventWrite s = (s.evTaken rest).writeEntry (128 + e.ring) e.words ((s.ring (128 + e.ring)).pi % 65536) := by
  have hcond : (((s.evTaken rest).ring (128 + e.ring)).active && (s.evTaken rest).hasRoom (128 + e.ring)) = true :=
    Bool.and_eq_true_iff.2 ⟨ha, hroom⟩
  simp only [doEventWrite, hrun, hq, Bool.false_eq_true, if_false]
  exact if_pos hcond

/-- The event is counted as lost: for EVT_OVERFLOW, in RING_LOST and in HIF_ERR (R255). -/
theorem doEventWrite_lost (hno : (s.ring (128 + e.ring)).active = false ∨ s.hasRoom (128 + e.ring) = false) :
    doEventWrite s = (((s.evTaken rest).setRing (128 + e.ring) { s.ring (128 + e.ring) with
      lostNew := (s.ring (128 + e.ring)).lostNew + 1 }).bump .RING_LOST [128 + e.ring] 1).hifErr HIF_ERR.EVT_LOST (some (128 + e.ring)) := by
  have hcond : ¬ (((s.evTaken rest).ring (128 + e.ring)).active && (s.evTaken rest).hasRoom (128 + e.ring)) = true := by
    rw [Bool.not_eq_true, Bool.and_eq_false_iff]
    exact hno
  simp only [doEventWrite, hrun, hq, Bool.false_eq_true, if_false]
  exact if_neg hcond

theorem runs_eventWrite_room (ha : (s.ring (128 + e.ring)).active = true) (hroom : s.hasRoom (128 + e.ring) = true)
    (hw : s.memWf = true) : Runs .eventWrite s fun t =>
      t.hif.evq = rest ∧ (t.ring (128 + e.ring)).pi = idxInc (s.ring (128 + e.ring)).pi
      ∧ t.hget (s.entryAt (128 + e.ring) (s.ring (128 + e.ring)).pi 32) 32 = wordBytes (padW 7 e.words)
          ++ leBytes 4 ((s.ring (128 + e.ring)).pi % 65536 + s.phase (128 + e.ring) (s.ring (128 + e.ring)).pi * 2 ^ 31)
      ∧ (∀ a, (a < s.entryAt (128 + e.ring) (s.ring (128 + e.ring)).pi 32 ∨ s.entryAt (128 + e.ring) (s.ring (128 + e.ring)).pi 32 + 32 ≤ a) →
          Memory.get t.hostMem a = Memory.get s.hostMem a) ∧ changesOnly [.regs, .hif, .hostMem] s t := by
  have hent := writeEntry_written (s.evTaken rest) (128 + e.ring) e.words ((s.ring (128 + e.ring)).pi % 65536)
  obtain ⟨hget, hother⟩ := hent.memory hw
  obtain ⟨rs, m, hhif⟩ := hent.hif
  exact .of_eq (exec_eventWrite s) (doEventWrite_room hrun hq ha hroom)
    ⟨by rw [hhif]; rfl, hent.pi, hget, hother, ((evTaken_keeps s rest).trans hent.keeps).changesOnly rfl⟩

theorem runs_eventWrite_lost (hno : (s.ring (128 + e.ring)).active = false ∨ s.hasRoom (128 + e.ring) = false) :
    Runs .eventWrite s fun t => t.hif.evq = rest
      ∧ t.reg .RING_LOST [128 + e.ring] = satInc (s.reg .RING_LOST [128 + e.ring]) 1 ∧ t.f HIF_ERR.EVT_LOST [] = 1
      ∧ (t.ring (128 + e.ring)).pi = (s.ring (128 + e.ring)).pi ∧ changesOnly [.regs, .hif] s t := by
  have hn := hifErr_noted (((s.evTaken rest).setRing (128 + e.ring) { s.ring (128 + e.ring) with
    lostNew := (s.ring (128 + e.ring)).lostNew + 1 }).bump .RING_LOST [128 + e.ring] 1) (x := HIF_ERR.EVT_LOST) rfl (some (128 + e.ring))
  obtain ⟨m, hm⟩ := hn.hif
  refine .of_eq (exec_eventWrite s) (doEventWrite_lost hrun hq hno) ⟨by rw [hm]; rfl, ?_, f_hifErr _ rfl _ (by decide), ?_,
    ((((evTaken_keeps s rest).trans (setRing_keeps ..)).trans (bump_keeps ..)).trans hn.keeps).changesOnly rfl⟩
  · rw [hn.regs _ _ (by rw [at_RING_LOST]; omega)]
    exact reg_setReg_same ..
  · rw [hn.ring]
    exact (congrArg Ring.pi (ring_setRing_same ..)).trans rfl

end

/-! ### Completions (R242, R243) -/

/-- A completion without a moved list is one entry of its ring. -/
theorem doCompletionWrite_plain {s : State} {x : CompSlot} {c : Comp} (hrun : s.prl.lsHalt = false) (hx : s.nextComp = some x)
    (hc : x.comp = some c) (hmoved : c.moved = []) (ha : (s.ring (64 + c.cring)).active = true) :
    doCompletionWrite s = (s.dropSlot x c).writeEntry (64 + c.cring) c.words x.ring := by
  have hact : ((s.dropSlot x c).ring (64 + c.cring)).active = true :=
    (congrArg Ring.active (ring_setRing_same ..)).trans ha
  have hbytes : (movedBytes c).isEmpty = true := by simp [movedBytes, hmoved]
  simp [doCompletionWrite, State.putComp, hrun, hx, hc, hact, hbytes]

theorem dropSlot_pi (s : State) (x : CompSlot) (c : Comp) : ((s.dropSlot x c).ring (64 + c.cring)).pi = (s.ring (64 + c.cring)).pi :=
  (congrArg Ring.pi (ring_setRing_same ..)).trans rfl

theorem runs_completionWrite {s : State} {x : CompSlot} {c : Comp} (hrun : s.prl.lsHalt = false) (hx : s.nextComp = some x)
    (hc : x.comp = some c) (hmoved : c.moved = []) (ha : (s.ring (64 + c.cring)).active = true) (hw : s.memWf = true) :
    Runs .completionWrite s fun t => t.hif.compq = s.hif.compq.filter (fun y => y.id != x.id)
      ∧ (t.ring (64 + c.cring)).pi = idxInc (s.ring (64 + c.cring)).pi
      ∧ t.hget (s.entryAt (64 + c.cring) (s.ring (64 + c.cring)).pi 32) 32 = wordBytes (padW 7 c.words)
          ++ leBytes 4 (x.ring + s.phase (64 + c.cring) (s.ring (64 + c.cring)).pi * 2 ^ 31)
      ∧ (∀ a, (a < s.entryAt (64 + c.cring) (s.ring (64 + c.cring)).pi 32 ∨ s.entryAt (64 + c.cring) (s.ring (64 + c.cring)).pi 32 + 32 ≤ a) →
          Memory.get t.hostMem a = Memory.get s.hostMem a) ∧ changesOnly [.regs, .hif, .hostMem] s t := by
  have hent := writeEntry_written (s.dropSlot x c) (64 + c.cring) c.words x.ring
  obtain ⟨hget, hother⟩ := hent.memory hw
  obtain ⟨rs, m, hhif⟩ := hent.hif
  have hpi := hent.pi
  rw [dropSlot_pi] at hget hother hpi
  exact .of_eq (exec_completionWrite s) (doCompletionWrite_plain hrun hx hc hmoved ha)
    ⟨by rw [hhif]; rfl, hpi, hget, hother, ((dropSlot_keeps s x c).trans hent.keeps).changesOnly rfl⟩

/-! ### Moderation timers (R256) -/

theorem doCoalesceTimer_due {s : State} {g : Nat} (h64 : 64 ≤ g) (h144 : g < 144) (hus : s.f RING_COAL.COAL_US [g] ≠ 0)
    (hu : (s.ring g).u ≠ 0) (hne : (s.ring g).pi ≠ (s.ring g).ci) :
    doCoalesceTimer g s = ((s.setRing g { s.ring g with coalP := true }).setRing g { s.ring g with u := 0, coalP := false }).msi
      (s.f RING_CFG.VEC [g]) := by
  have hcap : ¬ (144 ≤ g ∧ g < 148) := by omega
  have hcmd : ¬ g < 64 := by omega
  have hring : (s.setRing g { s.ring g with coalP := true }).ring g = { s.ring g with coalP := true } := ring_setRing_same ..
  simp only [doCoalesceTimer, hus, hcap, hcmd, hu, if_false]
  rw [signal_due (by rw [hring]) (by rw [hring]; exact hu) (by rw [hring]; exact hne), hring]
  rfl

theorem msi_unmasked {s : State} {n : Nat} (h : s.fb MSIX_CTL.MASK [n] = false) :
    s.msi n = { s with hif := { s.hif with msix := s.hif.msix ++ [n] } } := by
  rw [State.msi, h]
  rfl

theorem runs_coalesceTimer {s : State} {g : Fin 180} (h64 : 64 ≤ g.val) (h144 : g.val < 144) (hus : s.f RING_COAL.COAL_US [g] ≠ 0)
    (hu : (s.ring g).u ≠ 0) (hne : (s.ring g).pi ≠ (s.ring g).ci) (hmask : s.fb MSIX_CTL.MASK [s.f RING_CFG.VEC [g]] = false) :
    Runs (.coalesceTimer g) s fun t =>
      t.ring g = { s.ring g with u := 0, coalP := false } ∧ (∀ h, h ≠ g.val → t.ring h = s.ring h)
        ∧ t.hif.msix = s.hif.msix ++ [s.f RING_CFG.VEC [g]] ∧ changesOnly [.hif] s t := by
  refine .of_eq (exec_coalesceTimer g s) ((doCoalesceTimer_due h64 h144 hus hu hne).trans (msi_unmasked hmask))
    ⟨ring_setRing_same .., fun h hh => ?_, rfl, (Keeps.upd (m := 0x2000) .refl).changesOnly rfl⟩
  exact (ring_setRing_ne _ _ (Ne.symm hh)).trans (ring_setRing_ne _ _ (Ne.symm hh))

/-- Settles O39: an event with room and without, a completion, and a moderation timer. -/
theorem entriesWritten : Obligations.EntriesWritten := by
  unfold Obligations.EntriesWritten
  exact fun s e rest x c g => ⟨runs_eventWrite_room, fun hrun hq _ => runs_eventWrite_lost hrun hq, runs_completionWrite,
    runs_coalesceTimer⟩

end Sys2Proof.Machine
end

section
/-! PROOF. Doorbells, and the start and stop of rings (O38). -/
namespace Sys2Proof.Machine

theorem exec_doorbell (w : Bar2Write) (v : Word) (stores : List HostStore) (s : State) :
    exec (.doorbell w v stores) s = .next (doDoorbell w.ofs w.full v stores s) := rfl
theorem exec_ringStopDone (g : Fin 180) (s : State) : exec (.ringStopDone g) s = .next (doRingStopDone g s) := rfl

/-! ### The host's stores before a doorbell (R238) -/

/-- The host's stores are visible. -/
def State.stored (s : State) (stores : List HostStore) : State := stores.foldl (fun s x => s.hput x.addr x.bytes) s

theorem stored_eq (s : State) (stores : List HostStore) :
    s.stored stores = { s with hostMem := stores.foldl (fun m x => Memory.putL m x.addr x.bytes) s.hostMem } := by
  induction stores generalizing s with
  | nil => rfl
  | cons x l ih => exact ih (s.hput x.addr x.bytes)

theorem stored_ring (s : State) (stores : List HostStore) (g : Nat) : (s.stored stores).ring g = s.ring g := by rw [stored_eq]; rfl

theorem stored_dbOk (s : State) (stores : List HostStore) (g v : Nat) : (s.stored stores).dbOk g v = s.dbOk g v := by
  rw [stored_eq]
  rfl

theorem stored_hostMem (s : State) (stores : List HostStore) :
    (s.stored stores).hostMem = stores.foldl (fun m x => Memory.putL m x.addr x.bytes) s.hostMem := by rw [stored_eq]

theorem stored_keeps (s : State) (stores : List HostStore) : Keeps 0x800000 s (s.stored stores) :=
  Keeps.foldl .refl fun _ _ h => (hput_keeps ..).step h rfl

theorem doDoorbell_ring {ofs g : Nat} (h : bar2Ring ofs = some g) (v : Word) (stores : List HostStore) (s : State) :
    doDoorbell ofs true v stores s = (s.stored stores).ringDoorbell g v := by
  simp only [doDoorbell, h, if_true]
  rfl

theorem doDoorbell_ignored {ofs : Nat} {full : Bool} (h : bar2Ring ofs = none ∨ full = false) (v : Word) (stores : List HostStore)
    (s : State) : doDoorbell ofs full v stores s = s.stored stores := by
  unfold doDoorbell
  extract_lets s1
  split
  case h_1 g hg =>
    rcases h with hnone | rfl
    · rw [hnone] at hg
      cases hg
    · rfl
  case h_2 => rfl

/-! ### The ring's own part (R235) -/

theorem ring_of_hif {s u : State} (h : u.hif = s.hif) (g : Nat) : u.ring g = s.ring g := by rw [State.ring, h, State.ring]

/-- A ring that the host has read up to index v (R235, R256). -/
def Ring.readTo (r : Ring) (v : Nat) : Ring :=
  { r with ci := v, u := idxSub r.pi v, coalP := r.coalP && decide (idxSub r.pi v ≠ 0) }

section
variable {s : State} {g : Nat} {v : Word}

theorem ringDoorbell_produced (hp : hostProduced g = true) (ha : (s.ring g).active = true) (hv : s.dbOk g v.toNat = true) :
    s.ringDoorbell g v = if g < 64 then (s.setRing g { s.ring g with pi := v.toNat }).icEdge 400
      else s.setRing g { s.ring g with pi := v.toNat } := by
  have hcap : ¬ (144 ≤ g ∧ g < 148) := by
    simp only [hostProduced, Bool.or_eq_true, decide_eq_true_eq] at hp
    omega
  have hok : (!(s.ring g).active || !(s.dbOk g v.toNat)) = false := by rw [ha, hv]; rfl
  simp only [State.ringDoorbell, hcap, hok, hp, Bool.false_eq_true, if_false, if_true]

theorem ringDoorbell_produced_hif (hp : hostProduced g = true) (ha : (s.ring g).active = true) (hv : s.dbOk g v.toNat = true) :
    (s.ringDoorbell g v).hif = (s.setRing g { s.ring g with pi := v.toNat }).hif := by
  rw [ringDoorbell_produced hp ha hv]
  split
  · exact (icEdge_keeps ..).frame .hif rfl
  · rfl

/-- A completion ring takes its CI and what that leaves to signal (R235, R256). -/
theorem ringDoorbell_completion (h64 : 64 ≤ g) (h128 : g < 128) (ha : (s.ring g).active = true) (hv : s.dbOk g v.toNat = true) :
    s.ringDoorbell g v = (s.setRing g ((s.ring g).readTo v.toNat)).signal g := by
  have hcap : ¬ (144 ≤ g ∧ g < 148) := by omega
  have hok : (!(s.ring g).active || !(s.dbOk g v.toNat)) = false := by rw [ha, hv]; rfl
  have hp : hostProduced g = false := by
    simp only [hostProduced, Bool.or_eq_false_iff, decide_eq_false_iff_not]
    omega
  have hover : ∀ z : State, z.overflow g = z := fun z => if_neg (by omega)
  simp only [State.ringDoorbell, hcap, hok, hp, hover, Bool.false_eq_true, if_false]
  rfl

theorem ringDoorbell_refused (hcap : g < 144 ∨ 148 ≤ g) (hno : (s.ring g).active = false ∨ s.dbOk g v.toNat = false) :
    s.ringDoorbell g v = s.ringErr g RING_STATUS.DB_ERR HIF_ERR.DB_ERR := by
  have hcap' : ¬ (144 ≤ g ∧ g < 148) := by omega
  have hbad : (!(s.ring g).active || !(s.dbOk g v.toNat)) = true := by
    rcases hno with h | h <;> simp [h]
  simp only [State.ringDoorbell, hcap', hbad, if_false, if_true]

end

section
variable {s : State} {g : Fin 180} {v : Word} {stores : List HostStore} {ofs : Fin 1048576}

theorem runs_doorbell_produced (hofs : bar2Ring ofs = some g.val) (hp : hostProduced g = true) (ha : (s.ring g).active = true)
    (hv : s.dbOk g v.toNat = true) : Runs (.doorbell ⟨ofs, true⟩ v stores) s fun t =>
      t.ring g = { s.ring g with pi := v.toNat } ∧ (∀ h, h ≠ g.val → t.ring h = s.ring h)
        ∧ t.hostMem = stores.foldl (fun m x => Memory.putL m x.addr x.bytes) s.hostMem ∧ changesOnly [.regs, .hif, .prl, .hostMem] s t := by
  have ha' : ((s.stored stores).ring g).active = true := by rwa [stored_ring]
  have hv' : (s.stored stores).dbOk g v.toNat = true := by rwa [stored_dbOk]
  have hhif := ringDoorbell_produced_hif hp ha' hv'
  have hring := ring_of_hif hhif
  have hmem : ((s.stored stores).ringDoorbell g v).hostMem = (s.stored stores).hostMem := by
    rw [ringDoorbell_produced hp ha' hv']
    split
    · exact (icEdge_keeps ..).frame .hostMem rfl
    · rfl
  refine .of_eq (exec_doorbell ..) (doDoorbell_ring hofs v stores s) ⟨?_, fun h hh => ?_, ?_, ?_⟩
  · rw [hring, ring_setRing_same, stored_ring]
  · rw [hring, ring_setRing_ne _ _ (Ne.symm hh), stored_ring]
  · rw [hmem, stored_hostMem]
  · exact ((stored_keeps s stores).trans (ringDoorbell_keeps ..)).changesOnly rfl

theorem runs_doorbell_completion (hofs : bar2Ring ofs = some g.val) (h64 : 64 ≤ g.val) (h128 : g.val < 128)
    (ha : (s.ring g).active = true) (hv : s.dbOk g v.toNat = true) : Runs (.doorbell ⟨ofs, true⟩ v stores) s fun t =>
      (t.ring g).ci = v.toNat ∧ (t.ring g).pi = (s.ring g).pi ∧ (t.ring g).active = true ∧ (∀ h, h ≠ g.val → t.ring h = s.ring h)
        ∧ t.hostMem = stores.foldl (fun m x => Memory.putL m x.addr x.bytes) s.hostMem ∧ changesOnly [.regs, .hif, .hostMem] s t := by
  have ha' : ((s.stored stores).ring g).active = true := by rwa [stored_ring]
  have hv' : (s.stored stores).dbOk g v.toNat = true := by rwa [stored_dbOk]
  have hm := signal_moderated ((s.stored stores).setRing g (((s.stored stores).ring g).readTo v.toNat)) g
  obtain ⟨n, b, hr⟩ := hm.ring
  rw [ring_setRing_same] at hr
  refine .of_eq (exec_doorbell ..) ((doDoorbell_ring hofs v stores s).trans (ringDoorbell_completion h64 h128 ha' hv'))
    ⟨by rw [hr]; rfl, by rw [hr]; exact (congrArg Ring.pi (stored_ring ..)).trans rfl, by rw [hr]; exact ha', fun h hh => ?_, ?_, ?_⟩
  · rw [hm.others h hh, ring_setRing_ne _ _ (Ne.symm hh), stored_ring]
  · exact (hm.keeps.frame .hostMem rfl).trans (stored_hostMem s stores)
  · exact (((stored_keeps s stores).trans (setRing_keeps ..)).trans hm.keeps).changesOnly rfl

theorem runs_doorbell_refused (hofs : bar2Ring ofs = some g.val) (hcap : g.val < 144 ∨ 148 ≤ g.val)
    (hno : (s.ring g).active = false ∨ s.dbOk g v.toNat = false) : Runs (.doorbell ⟨ofs, true⟩ v stores) s fun t =>
      (∀ h, t.ring h = s.ring h) ∧ t.f RING_STATUS.DB_ERR [g.val] = 1 ∧ t.f HIF_ERR.DB_ERR [] = 1
        ∧ changesOnly [.regs, .hif, .prl, .hostMem] s t := by
  have hno' : ((s.stored stores).ring g).active = false ∨ (s.stored stores).dbOk g v.toNat = false := by
    rwa [stored_ring, stored_dbOk]
  have he := ringErr_noted (s.stored stores) g (x := RING_STATUS.DB_ERR) (y := HIF_ERR.DB_ERR) rfl (by decide) rfl (by decide)
  exact .of_eq (exec_doorbell ..) ((doDoorbell_ring hofs v stores s).trans (ringDoorbell_refused hcap hno'))
    ⟨fun h => (he.ring h).trans (stored_ring s stores h), he.bit, he.hifBit, ((stored_keeps s stores).trans he.keeps).changesOnly rfl⟩

theorem runs_doorbell_ignored {full : Bool} (h : bar2Ring ofs = none ∨ full = false) : Runs (.doorbell ⟨ofs, full⟩ v stores) s fun t =>
    t.hostMem = stores.foldl (fun m x => Memory.putL m x.addr x.bytes) s.hostMem ∧ changesOnly [.hostMem] s t :=
  .of_eq (exec_doorbell ..) (doDoorbell_ignored h v stores s) ⟨stored_hostMem s stores, (stored_keeps s stores).changesOnly rfl⟩

end

/-! ### RING_CFG (R236, R237) -/

theorem clampN_le {lo hi : Nat} (h : lo ≤ hi) (x : Nat) : clampN lo hi x ≤ hi := by
  unfold clampN
  split
  · exact h
  · split <;> omega

section
variable {s : State} {g : Fin 180}

theorem not_shut_RING_CFG (h : s.isOpen = true) (g : Nat) : s.shut .RING_CFG [g] = false :=
  not_shut h (by decide) (by decide)

theorem doRingCtrl_ring {g : Nat} (h : g < 144 ∨ 148 ≤ g) (v : Word) (s : State) : doRingCtrl g v s = doRingCfg g v s :=
  if_neg (by omega)

theorem exec_ringEnable (h : s.isOpen = true) (hg : g.val < 144 ∨ 148 ≤ g.val) (v : Word) :
    exec (.ringEnable g v) s = .next (doRingCfg g v s) :=
  congrArg Host.Outcome.next ((hostWr_of_not_shut (not_shut_RING_CFG h g)).trans (doRingCtrl_ring hg v s))

theorem exec_ringDisable (h : s.isOpen = true) (hg : g.val < 144 ∨ 148 ≤ g.val) (v : Word) :
    exec (.ringDisable g v) s = .next (doRingCfg g v s) :=
  congrArg Host.Outcome.next ((hostWr_of_not_shut (not_shut_RING_CFG h g)).trans (doRingCtrl_ring hg v s))

end

section
variable {s : State} {g : Nat} {v : Word}

/-- The size and the completion ring of a stopped ring are taken from a write of RING_CFG (R236, R237). -/
def State.takeSize (s : State) (g : Nat) (v : Word) : State :=
  (s.setF RING_CFG.SIZE [g] (clampN 6 16 (fget 0 5 v))).setF RING_CFG.ASSOC [g] (fget 16 6 v)

/-- Priority and vector are taken from every write of RING_CFG (R236). -/
def State.takePrio (s : State) (g : Nat) (v : Word) : State :=
  (s.setF RING_CFG.PRIO [g] (fget 28 2 v)).setF RING_CFG.VEC [g] (fget 8 8 v)

theorem takeSize_keeps (s : State) (g : Nat) (v : Word) : Keeps 0x4 s (s.takeSize g v) := (setF_keeps ..).step (setF_keeps ..) rfl
theorem takePrio_keeps (s : State) (g : Nat) (v : Word) : Keeps 0x4 s (s.takePrio g v) := (setF_keeps ..).step (setF_keeps ..) rfl

theorem takeSize_otherRegs (s : State) (g : Nat) (v : Word) : otherRegs [Reg.RING_CFG.at [g]] s (s.takeSize g v) :=
  .trans (.setF (List.mem_singleton.2 rfl)) (.setF (List.mem_singleton.2 rfl))

theorem takePrio_otherRegs (s : State) (g : Nat) (v : Word) : otherRegs [Reg.RING_CFG.at [g]] s (s.takePrio g v) :=
  .trans (.setF (List.mem_singleton.2 rfl)) (.setF (List.mem_singleton.2 rfl))

theorem ringStart_ring (s : State) (g : Nat) : (s.ringStart g).ring g = { Ring.reset with active := true, lostNew := (s.ring g).lostNew } :=
  (ring_of_hif (State.setF_hif ..) g).trans (ring_setRing_same ..)

theorem ringStart_ring_ne (s : State) {g h : Nat} (hne : g ≠ h) : (s.ringStart g).ring h = s.ring h :=
  (ring_of_hif (State.setF_hif ..) h).trans (ring_setRing_ne _ _ hne)

theorem ringStart_otherRegs (s : State) (g : Nat) : otherRegs [Reg.RING_CFG.at [g]] s (s.ringStart g) :=
  .trans (u := s.setRing g { Ring.reset with active := true, lostNew := (s.ring g).lostNew }) (.of_regs rfl)
    (.setF (List.mem_singleton.2 rfl))

/-- A write that would change the size or the completion ring of a running ring is noted (R236). -/
def State.refuseSize (s : State) (g : Nat) (v : Word) : State :=
  if decide (clampN 6 16 (fget 0 5 v) ≠ s.f RING_CFG.SIZE [g]) || decide (fget 16 6 v ≠ s.f RING_CFG.ASSOC [g])
  then s.hifErr HIF_ERR.CFG_REJ (some g) else s

theorem refuseSize_noted (s : State) (g : Nat) (v : Word) : HifNoted s (s.refuseSize g v) := by
  unfold State.refuseSize
  split
  · exact hifErr_noted s rfl _
  · exact .refl

theorem stopRefused_of_small (h : g < 64) : s.stopRefused g v = false := by
  have h64 : decide (64 ≤ g) = false := decide_eq_false (by omega)
  simp [State.stopRefused, h64]

theorem doRingCfg_start (hv : bit 31 v = true) (hen : s.fb RING_CFG.EN [g] = false) (hb : (s.ring g).busy = false) :
    doRingCfg g v s = ((s.takeSize g v).takePrio g v).ringStart g := by
  have hno : s.stopRefused g v = false := by simp [State.stopRefused, hv]
  simp only [doRingCfg, hno, hen, hb, hv, Bool.or_self, Bool.false_eq_true, if_false, if_true]
  rfl

theorem ringStop_f (s : State) (g : Nat) (x : Fld) (ix : List Nat) : (s.ringStop g).f x ix = s.f x ix := rfl

theorem doRingCfg_stop (hg : g < 64) (hv : bit 31 v = false) (hen : s.fb RING_CFG.EN [g] = true) (hb : (s.ring g).busy = false) :
    doRingCfg g v s = (((s.refuseSize g v).takePrio g v).setF RING_CFG.EN [g] 0).ringStop g := by
  simp only [doRingCfg, stopRefused_of_small hg, hen, hb, hv, Bool.true_or, Bool.not_true, Bool.false_eq_true, if_false, if_true]
  rfl

theorem doRingCfg_refused (h64 : 64 ≤ g) (h128 : g < 128) (hv : bit 31 v = false) (hen : s.fb RING_CFG.EN [g] = true)
    (hb : (s.ring g).busy = false) (hn : s.named (g - 64) = true) : doRingCfg g v s = s.hifErr HIF_ERR.CFG_REJ (some g) := by
  have hyes : s.stopRefused g v = true := by simp [State.stopRefused, hv, hen, hb, h64, h128, hn]
  simp only [doRingCfg, hyes, if_true]

/-- What a started ring has in RING_CFG. -/
theorem started_fields (s : State) (g : Nat) (v : Word) :
    (((s.takeSize g v).takePrio g v).ringStart g).f RING_CFG.EN [g] = 1
      ∧ (((s.takeSize g v).takePrio g v).ringStart g).f RING_CFG.SIZE [g] = clampN 6 16 (fget 0 5 v)
      ∧ (((s.takeSize g v).takePrio g v).ringStart g).f RING_CFG.ASSOC [g] = fget 16 6 v
      ∧ (((s.takeSize g v).takePrio g v).ringStart g).f RING_CFG.PRIO [g] = fget 28 2 v
      ∧ (((s.takeSize g v).takePrio g v).ringStart g).f RING_CFG.VEC [g] = fget 8 8 v := by
  have hen : ∀ z : State, (z.ringStart g).f RING_CFG.EN [g] = 1 := fun z => f_setF_same _ _ _ _ (by decide)
  have hstart : ∀ (z : State) (y : Fld), y.reg = .RING_CFG → y.lo + y.len ≤ 31 → (z.ringStart g).f y [g] = z.f y [g] :=
    fun z y hy hlo => f_setF_beside (z.setRing g _) [g] 1 hy (by decide) (.inl hlo)
  have hsize : clampN 6 16 (fget 0 5 v) % 2 ^ 5 = clampN 6 16 (fget 0 5 v) :=
    Nat.mod_eq_of_lt (Nat.lt_of_le_of_lt (clampN_le (by decide) _) (by decide))
  refine ⟨hen _, ?_, ?_, ?_, ?_⟩ <;> rw [hstart _ _ rfl (by decide)] <;>
    simp (disch := decide) only [State.takePrio, State.takeSize, f_setF_beside, f_setF_same]
  · exact hsize
  all_goals exact Nat.mod_eq_of_lt (fget_lt ..)

end

section
variable {s : State} {g : Fin 180} {v : Word} (ho : s.isOpen = true)
include ho

theorem runs_ringEnable (hg : g.val < 144 ∨ 148 ≤ g.val) (hv : bit 31 v = true) (hen : s.fb RING_CFG.EN [g.val] = false)
    (hb : (s.ring g).busy = false) :
    Runs (.ringEnable g v) s fun t => t.ring g = { Ring.reset with active := true, lostNew := (s.ring g).lostNew }
      ∧ (∀ h, h ≠ g.val → t.ring h = s.ring h) ∧ t.f RING_CFG.EN [g.val] = 1
      ∧ t.f RING_CFG.SIZE [g.val] = clampN 6 16 (fget 0 5 v) ∧ t.f RING_CFG.ASSOC [g.val] = fget 16 6 v
      ∧ t.f RING_CFG.PRIO [g.val] = fget 28 2 v ∧ t.f RING_CFG.VEC [g.val] = fget 8 8 v
      ∧ otherRegs [Reg.RING_CFG.at [g.val]] s t ∧ changesOnly [.regs, .hif] s t := by
  obtain ⟨hEN, hSIZE, hASSOC, hPRIO, hVEC⟩ := started_fields s g v
  have hk := (takeSize_keeps s g v).trans (takePrio_keeps _ g v)
  have hring := ring_of_hif (hk.frame .hif rfl)
  refine .of_eq (exec_ringEnable ho hg v) (doRingCfg_start hv hen hb) ⟨?_, fun h hh => ?_, hEN, hSIZE, hASSOC, hPRIO,
    hVEC, ((takeSize_otherRegs s g v).trans (takePrio_otherRegs _ g v)).trans (ringStart_otherRegs _ g),
    (hk.trans (ringStart_keeps ..)).changesOnly rfl⟩
  · rw [ringStart_ring, hring]
  · rw [ringStart_ring_ne _ (Ne.symm hh), hring]

theorem runs_ringDisable (hg : g.val < 64) (hv : bit 31 v = false) (hen : s.fb RING_CFG.EN [g.val] = true)
    (hb : (s.ring g).busy = false) : Runs (.ringDisable g v) s fun t =>
      t.ring g = { s.ring g with active := false, busy := true, run := [], runEnd := false, runRej := 0 }
      ∧ (∀ h, h ≠ g.val → t.ring h = s.ring h)
      ∧ t.f RING_CFG.EN [g.val] = 0 ∧ t.f RING_CFG.SIZE [g.val] = s.f RING_CFG.SIZE [g.val] := by
  have hn := refuseSize_noted s g v
  have hp : hostProduced g = true := by simp [hostProduced, hg]
  refine .of_eq (exec_ringDisable ho (.inl (by omega)) v) (doRingCfg_stop hg hv hen hb) ⟨?_, fun h hh => ?_, ?_, ?_⟩
  · have hring : (((s.refuseSize g v).takePrio g v).setF RING_CFG.EN [g.val] 0).ring g = s.ring g := hn.ring g
    rw [State.ringStop, ring_setRing_same, hring, hp]
  · exact (ring_setRing_ne _ _ (Ne.symm hh)).trans (hn.ring h)
  · rw [ringStop_f, f_setF_same _ _ _ _ (by decide)]
    rfl
  · have hsize : ((s.refuseSize g v).takePrio g v).f RING_CFG.SIZE [g.val] = (s.refuseSize g v).f RING_CFG.SIZE [g.val] := by
      simp (disch := decide) only [State.takePrio, f_setF_beside]
    have hat : 0x10000 ≤ RING_CFG.SIZE.reg.at [g.val] := by
      have hreg : RING_CFG.SIZE.reg = .RING_CFG := rfl
      rw [hreg, at_RING_CFG]
      omega
    rw [← hn.f hat, ← hsize, ringStop_f]
    exact f_setF_beside _ _ _ rfl (by decide) (by decide)

theorem runs_ringDisable_refused (h64 : 64 ≤ g.val) (h128 : g.val < 128) (hv : bit 31 v = false)
    (hen : s.fb RING_CFG.EN [g.val] = true) (hb : (s.ring g).busy = false) (hnm : s.named (g.val - 64) = true) :
    Runs (.ringDisable g v) s fun t =>
      (∀ h, t.ring h = s.ring h) ∧ t.reg .RING_CFG [g.val] = s.reg .RING_CFG [g.val] ∧ t.f HIF_ERR.CFG_REJ [] = 1 := by
  have hn := hifErr_noted s (x := HIF_ERR.CFG_REJ) rfl (some g.val)
  exact .of_eq (exec_ringDisable ho (.inl (by omega)) v) (doRingCfg_refused h64 h128 hv hen hb hnm)
    ⟨hn.ring, hn.regs _ _ (by rw [at_RING_CFG]; omega), f_hifErr s rfl _ (by decide)⟩

end

/-! ### The end of a stop (R236) -/

theorem doRingStopDone_done {s : State} {g : Nat} (hg : g < 144 ∨ 148 ≤ g) (hb : (s.ring g).busy = true)
    (he : (s.ring g).enPend = false) (hw : s.stopWaits g = false) :
    doRingStopDone g s = s.setRing g { s.ring g with busy := false, enPend := false } := by
  have hcap : ¬ (144 ≤ g ∧ g < 148) := by omega
  simp [doRingStopDone, hcap, hb, he, hw]

theorem runs_ringStopDone {s : State} {g : Fin 180} (hg : g.val < 144 ∨ 148 ≤ g.val) (hb : (s.ring g).busy = true)
    (he : (s.ring g).enPend = false) (hw : s.stopWaits g = false) :
    Runs (.ringStopDone g) s fun t => t.ring g = { s.ring g with busy := false } ∧ (∀ h, h ≠ g.val → t.ring h = s.ring h)
      ∧ changesOnly [.hif] s t := by
  refine .of_eq (exec_ringStopDone g s) (doRingStopDone_done hg hb he hw)
    ⟨?_, fun h hh => ring_setRing_ne _ _ (Ne.symm hh), (setRing_keeps ..).changesOnly rfl⟩
  rw [ring_setRing_same, ← he]

/-- Settles O38: a doorbell taken, refused and ignored, then the start, the stop and the end of a stop. -/
theorem ringCommands : Obligations.RingCommands := by
  unfold Obligations.RingCommands
  exact fun s g v stores ofs full => ⟨runs_doorbell_produced, runs_doorbell_completion, runs_doorbell_refused, runs_doorbell_ignored,
    runs_ringEnable, runs_ringDisable, runs_ringDisable_refused, runs_ringStopDone⟩

end Sys2Proof.Machine
end

section
/-! PROOF. A frame that enters the switch where no policer decides it (R286, R288, R291, R294, R309): what the port counters do not
reach, the lookup, and the copy that is admitted or refused. -/
namespace Sys2Proof.Machine

/-! ### What the port counters do not reach (R311) -/

theorem at_SP_CNT (p k : Nat) : Reg.SP_CNT.at [p, k] = 0x410040 + 0x100 * p + 4 * k := by
  rw [Nat.add_assoc]
  rfl

theorem at_SP_CFG (p : Nat) : Reg.SP_CFG.at [p] = 0x410000 + 0x100 * p := rfl

/-- Offsets of registers that are no port counter. -/
def offCounters (a : Nat) : Prop := a < 0x410040 ∨ 0x414100 ≤ a ∨ a % 0x100 < 0x40

/-- From s to u no more than port counters has changed, of what the switch decides by. -/
structure CountsOnly (s u : State) : Prop where
  sgf : u.sgf = s.sgf
  flt : u.flt = s.flt
  regs : ∀ r ix, offCounters (Reg.at r ix) → u.reg r ix = s.reg r ix

theorem offCounters_of_base {r : Reg} {ix : List Nat} (h : 0x414100 ≤ r.row.base) : offCounters (r.at ix) :=
  .inr (.inl (Nat.le_trans h (base_le_at ix r)))

section
variable {s u v : State}

theorem CountsOnly.refl : CountsOnly s s := ⟨rfl, rfl, fun _ _ _ => rfl⟩

theorem CountsOnly.trans (h : CountsOnly s u) (k : CountsOnly u v) : CountsOnly s v :=
  ⟨k.sgf.trans h.sgf, k.flt.trans h.flt, fun r ix hr => (k.regs r ix hr).trans (h.regs r ix hr)⟩

theorem CountsOnly.of_keeps {m : Nat} (h : Keeps m s u) (h1 : m.testBit 1 = false) (h2 : m.testBit 2 = false)
    (h12 : m.testBit 12 = false) (h15 : m.testBit 15 = false) : CountsOnly s u :=
  ⟨h.frame .sgf h12, h.frame .flt h15, fun r ix _ => h.reg h2 h1 r ix⟩

theorem spCount_countsOnly (s : State) {p k : Nat} (hp : p ≤ 64) (hk : k < 13) : CountsOnly s (s.spCount p k) := by
  refine ⟨rfl, rfl, fun r ix hr => reg_setReg_ne _ _ ?_⟩
  unfold offCounters at hr
  rw [at_SP_CNT]
  omega

variable (h : CountsOnly s u)
include h

theorem CountsOnly.f {x : Fld} {ix : List Nat} (hx : offCounters (x.reg.at ix)) : u.f x ix = s.f x ix := f_of_reg (h.regs _ _ hx)

theorem CountsOnly.f_SP_CFG {x : Fld} (hx : x.reg = .SP_CFG) (p : Nat) : u.f x [p] = s.f x [p] :=
  h.f (.inr (.inr (by rw [hx, at_SP_CFG]; omega)))

theorem CountsOnly.outOpen (p : Nat) : u.outOpen p = s.outOpen p := by
  rw [State.outOpen, State.spPort, h.sgf, State.outOpen, State.spPort]

theorem CountsOnly.vidOf (p : Nat) (l : List Byte) : u.vidOf p l = s.vidOf p l := by
  rw [State.vidOf, h.f_SP_CFG rfl, State.vidOf]

theorem CountsOnly.members (n : Nat) : u.members n = s.members n := by
  have hreg : ∀ p, u.reg .MC_MASK [n, p / 32] = s.reg .MC_MASK [n, p / 32] := fun p =>
    h.regs _ _ (offCounters_of_base (by decide))
  simp only [State.members, hreg]

theorem CountsOnly.lookup (p da vid : Nat) : u.lookup p da vid = s.lookup p da vid := by
  simp only [State.lookup, h.sgf, h.members, h.f_SP_CFG (x := SP_CFG.MISS) rfl]

theorem CountsOnly.forwards : u.forwards = s.forwards := by
  rw [State.forwards, State.fb, h.f (.inl (by decide)), h.flt, State.forwards, State.fb]

theorem CountsOnly.polEntry (p c vid : Nat) : u.polEntry p c vid = s.polEntry p c vid := by
  have hreg : ∀ (r : Reg) ix, 0x414100 ≤ r.row.base → u.reg r ix = s.reg r ix := fun r ix hr => h.regs _ _ (offCounters_of_base hr)
  have hsel : u.fb POL_PORT.SEL [p] = s.fb POL_PORT.SEL [p] := fb_of_f (f_of_reg (hreg _ _ (by decide)))
  simp only [State.polEntry, hsel, hreg .POL_VID _ (by decide), hreg .POL_PC _ (by decide)]

end

/-! ### Copies and their queues (R293, R294) -/

/-- No copy in the buffer bears the number of the next frame. -/
def Sgf.freshId (g : Sgf) : Prop := ∀ q ∈ g.copies, q.fid ≠ g.nextId

/-- The fabric with a new frame in its buffer, no copy made yet. -/
def Sgf.withFrame (g : Sgf) (f : Frm) : Sgf := { g with frames := g.frames ++ [f], nextId := g.nextId + 1 }

theorem foldl_cells_congr {g g' : Sgf} {l : List Cpy} (h : ∀ q ∈ l, g.frame q.fid = g'.frame q.fid) (a : Nat) :
    l.foldl (fun a x => a + ((g.frame x.fid).map Frm.cells).getD 0) a
      = l.foldl (fun a x => a + ((g'.frame x.fid).map Frm.cells).getD 0) a := by
  induction l generalizing a with
  | nil => rfl
  | cons x l ih => rw [List.foldl_cons, List.foldl_cons, h x (.head _), ih fun q hq => h q (.tail _ hq)]

/-- A new frame adds nothing to the queues until it has a copy. -/
theorem depth_withFrame {g : Sgf} (hfresh : g.freshId) {f : Frm} (hf : f.id = g.nextId) (i o c : Nat) :
    (g.withFrame f).depth i o c = g.depth i o c := by
  refine foldl_cells_congr (fun q hq => ?_) 0
  have hne : (f.id == q.fid) = false := by
    rw [hf, beq_eq_false_iff_ne]
    exact (hfresh q (List.mem_of_mem_filter hq)).symm
  rw [Sgf.frame, Sgf.withFrame, List.find?_append, List.find?_singleton, hne]
  simp [Sgf.frame]

/-! ### A frame that no policer decides (R286, R294) -/

/-- Room in the store for one more frame of a port (R294). -/
def State.roomFor (s : State) (p : Nat) : Prop := s.sgf.inUse p + 72 ≤ s.f SGF_BUF.INPUT_MAX [] * 16 ∧ 72 ≤ s.sgf.free

/-- The copy of a frame that has arrived whole. -/
def Frm.copyTo (f : Frm) (o : Nat) : Cpy := ⟨f.id, f.inp, o, f.cls, 0, 0, false, none, none, none⟩

/-- The fabric with a new frame in its buffer and the frame's one copy, to output o. -/
def Sgf.withCopy (g : Sgf) (f : Frm) (o : Nat) : Sgf := { g.withFrame f with copies := g.copies ++ [f.copyTo o] }

section
variable {s : State} {f : Frm} {o : Nat} (hfresh : s.sgf.freshId) (hf : f.id = s.sgf.nextId)
include hfresh hf

/-- A frame with one output gets its copy where there is room for its input and in the store, and space in its queue. -/
theorem enqueue_admits (hroom : s.roomFor f.inp) (hq : s.sgf.depth f.inp o f.cls < s.f SGF_BUF.VOQ_MAX []) :
    s.enqueue f true [o] = s.setSgf (s.sgf.withCopy f o) := by
  have hok : (decide (s.sgf.inUse f.inp + 72 ≤ s.f SGF_BUF.INPUT_MAX [] * 16) && decide (72 ≤ s.sgf.free)) = true := by
    simpa [State.roomFor] using hroom
  have hcond : (true && decide ((s.sgf.withFrame f).depth f.inp o f.cls < s.f SGF_BUF.VOQ_MAX [])) = true := by
    rw [depth_withFrame hfresh hf, Bool.true_and, decide_eq_true hq]
  rw [State.enqueue, hok]
  exact if_pos hcond

theorem enqueue_refuses (h : ¬ s.roomFor f.inp ∨ s.f SGF_BUF.VOQ_MAX [] ≤ s.sgf.depth f.inp o f.cls) :
    s.enqueue f true [o] = (s.setSgf (s.sgf.withFrame f)).spCount f.inp 4 := by
  have hcond : ¬ (decide (s.sgf.inUse f.inp + 72 ≤ s.f SGF_BUF.INPUT_MAX [] * 16) && decide (72 ≤ s.sgf.free)
      && decide ((s.sgf.withFrame f).depth f.inp o f.cls < s.f SGF_BUF.VOQ_MAX [])) = true := by
    rw [depth_withFrame hfresh hf]
    simp only [State.roomFor] at h
    simp only [Bool.and_eq_true, decide_eq_true_eq]
    omega
  exact if_neg hcond

end

section
variable {s : State} {p c0 : Nat} {l : List Byte} {host : Option (Nat × Nat)} {ts : Word}

theorem ingress_off (h : s.forwards = false) : s.ingress p c0 l true true false host ts = ⟨s.spCount p 5, none, false⟩ := by
  rw [State.ingress, h]
  rfl

theorem dropLook_countsOnly (s : State) {p : Nat} (hp : p ≤ 64) {k : Look} (hk : ∀ o ∈ k.outs, o ≤ 64) : CountsOnly s (s.dropLook p k) := by
  have hfold : ∀ (outs : List Nat) (u : State), (∀ o ∈ outs, o ≤ 64) →
      CountsOnly u (outs.foldl (fun s o => if s.outOpen o then s else s.spCount o 10) u) := by
    intro outs
    induction outs with
    | nil => exact fun u _ => .refl
    | cons o t ih =>
      intro u ho
      refine .trans ?_ (ih _ fun x hx => ho x (.tail _ hx))
      dsimp only
      split
      · exact .refl
      · exact spCount_countsOnly u (ho o (.head _)) (by decide)
  unfold State.dropLook
  split
  · exact spCount_countsOnly s hp (by decide)
  · exact hfold _ s hk

theorem members_le (s : State) (n : Nat) : ∀ o ∈ s.members n, o ≤ 64 := fun _ ho =>
  Nat.le_of_lt_succ (List.mem_range.1 (List.mem_of_mem_filter ho))

theorem ucast_le (p d : Nat) : ∀ o ∈ ucast p d, o ≤ 64 := by
  unfold ucast
  split
  · simp
  · simp only [List.mem_singleton]
    omega

/-- A lookup names ports (R291). -/
theorem lookup_le (s : State) (p da vid : Nat) : ∀ o ∈ (s.lookup p da vid).outs, o ≤ 64 := by
  have hmc : ∀ n, ∀ o ∈ (s.members n).filter fun o => o != p, o ≤ 64 := fun n o ho => members_le s n o (List.mem_of_mem_filter ho)
  unfold State.lookup
  extract_lets mc
  split
  · extract_lets cls
    split
    · exact ucast_le _ _
    · exact hmc _
    · exact fun _ ho => nomatch ho
  · split
    · exact ucast_le _ _
    · exact hmc _
    · exact fun _ ho => nomatch ho

variable (hon : s.forwards = true) {z : Look} (hz : z = s.lookup p (leValue (l.take 6)) (s.vidOf p l))
include hon hz

/-- A frame none of whose outputs is open goes no further (R286). -/
theorem ingress_closed (hp : p ≤ 64) (h : z.outs.filter s.outOpen = []) :
    s.ingress p c0 l true true false host ts = ⟨s.dropLook p z, none, false⟩ := by
  have hd : CountsOnly s (s.dropLook p z) := dropLook_countsOnly s hp (hz ▸ lookup_le s p _ _)
  have hopen : (s.dropLook p z).outOpen = s.outOpen := funext hd.outOpen
  simp only [State.ingress, hon, ← hz, hopen, h, Bool.not_true, Bool.false_eq_true, if_false, List.isEmpty_nil, if_true]

variable {o : Nat} (houts : z.outs = [o]) (hopen : s.outOpen o = true)
  (hpol : s.polEntry p (z.cls.getD c0) (s.vidOf p l) = none)
include houts hopen hpol

/-- The entry of a frame with one open output that no policer decides: it is offered to that output. -/
theorem ingress_one : s.ingress p c0 l true true false host ts =
    ⟨s.enqueue (s.newFrm p (z.cls.getD c0) l true z.mcast false host none ts) true [o],
      if (s.enqueue (s.newFrm p (z.cls.getD c0) l true z.mcast false host none ts) true [o]).sgf.copies.any
        fun c => c.fid == s.sgf.nextId then some s.sgf.nextId else none, true⟩ := by
  have hdrop : s.dropLook p z = s := by simp [State.dropLook, houts, hopen]
  have hfilter : [o].filter s.outOpen = [o] := by simp [hopen]
  have hpolice : s.police p (z.cls.getD c0) (s.vidOf p l) (pcpOf l) l.length = ⟨false, z.cls.getD c0, none, s⟩ := by
    simp only [State.police, hpol]
  simp only [State.ingress, hon, ← hz, hdrop, houts, hfilter, hpolice, Bool.not_true, Bool.false_eq_true, if_false, List.isEmpty_cons]
  rfl

variable (hfresh : s.sgf.freshId)
include hfresh

theorem ingress_admits (hroom : s.roomFor p) (hq : s.sgf.depth p o (z.cls.getD c0) < s.f SGF_BUF.VOQ_MAX []) :
    s.ingress p c0 l true true false host ts =
      ⟨s.setSgf (s.sgf.withCopy (s.newFrm p (z.cls.getD c0) l true z.mcast false host none ts) o), some s.sgf.nextId, true⟩ := by
  rw [ingress_one hon hz houts hopen hpol, enqueue_admits hfresh rfl hroom hq, if_pos]
  simp [State.setSgf, Sgf.withCopy, Frm.copyTo, State.newFrm]

theorem ingress_refuses (h : ¬ s.roomFor p ∨ s.f SGF_BUF.VOQ_MAX [] ≤ s.sgf.depth p o (z.cls.getD c0)) :
    s.ingress p c0 l true true false host ts =
      ⟨(s.setSgf (s.sgf.withFrame (s.newFrm p (z.cls.getD c0) l true z.mcast false host none ts))).spCount p 4, none, true⟩ := by
  rw [ingress_one hon hz houts hopen hpol, enqueue_refuses hfresh rfl h, if_neg]
  · rfl
  · rw [List.any_eq_true]
    rintro ⟨q, hq, hid⟩
    exact hfresh q hq (beq_iff_eq.1 hid)

end

end Sys2Proof.Machine
end

section
/-! PROOF. The SPH rings and failed transfers (O40). -/
namespace Sys2Proof.Machine

theorem exec_sphTxFetch (k : Fin 16) (t : Nat) (s : State) : exec (.sphTxFetch k t) s = .next (doSphTxFetch k t s) := rfl
theorem exec_sphTxWriteback (s : State) : exec .sphTxWriteback s = .next (doSphTxWriteback s) := rfl
theorem exec_sphRxWrite (k : Fin 16) (t : Nat) (s : State) : exec (.sphRxWrite k t) s = .next (doSphRxWrite k t s) := rfl
theorem exec_dmaReadFail (g : Fin 180) (buf : Bool) (s : State) : exec (.dmaReadFail g buf) s = .next (doDmaReadFail g buf s) := rfl
theorem exec_dmaWriteFail (g : Fin 180) (buf : Bool) (s : State) : exec (.dmaWriteFail g buf) s = .next (doDmaWriteFail g buf s) := rfl

/-! ### Transmit descriptors (R257) -/

@[simp] theorem passTo_ring (s : State) (t g : Nat) : (s.passTo t).ring g = s.ring g := passTo_congr s t (·.ring g) fun _ => rfl
theorem passTo_entryAt (s : State) (t g i n : Nat) : (s.passTo t).entryAt g i n = s.entryAt g i n :=
  passTo_congr s t (·.entryAt g i n) fun _ => rfl
theorem passTo_hget (s : State) (t a n : Nat) : (s.passTo t).hget a n = s.hget a n := passTo_congr s t (·.hget a n) fun _ => rfl
theorem passTo_hnum (s : State) (t a n : Nat) : (s.passTo t).hnum a n = s.hnum a n := passTo_congr s t (·.hnum a n) fun _ => rfl
theorem passTo_sphNext (s : State) (t g : Nat) : (s.passTo t).sphNext g = s.sphNext g := passTo_congr s t (·.sphNext g) fun _ => rfl

/-- Index i of SPH ring g has been fetched at network time t. -/
def State.sphFetched (s : State) (t g i : Nat) : State := (s.passTo t).setRing g { s.ring g with nxt := idxInc i }

section
variable (s : State) (t g i : Nat)

theorem sphFetched_keeps : Keeps 0x2080 s (s.sphFetched t g i) := (passTo_keeps ..).trans (setRing_keeps ..)
theorem sphFetched_ring : (s.sphFetched t g i).ring g = { s.ring g with nxt := idxInc i } := ring_setRing_same ..
theorem sphFetched_ring_ne {h : Nat} (hne : h ≠ g) : (s.sphFetched t g i).ring h = s.ring h :=
  (ring_setRing_ne _ _ hne.symm).trans (passTo_ring ..)
theorem sphFetched_sphDone : (s.sphFetched t g i).hif.sphDone = s.hif.sphDone :=
  (show (s.sphFetched t g i).hif.sphDone = (s.passTo t).hif.sphDone from rfl).trans (by rw [passTo_hif])
theorem sphFetched_countsOnly : CountsOnly s (s.sphFetched t g i) := .of_keeps (sphFetched_keeps s t g i) rfl rfl rfl rfl

end

/-- A transmit frame has been read and counted as received. -/
def State.txBegun (s : State) (t k i : Nat) : State := (s.sphFetched t (148 + k) i).spCount 64 0

/-- A transmit frame has entered the switch, or not (R257, R294, R307): the rest of its charge, the write-back of a frame
without a copy, and cells freed. -/
def Entry.sphEnd (x : Entry) (k i n : Nat) : State :=
  ((match x.id with
    | some id => x.st.polRest ((x.st.sgf.frame id).bind Frm.pol) n
    | none => x.st).hostDrop (some (k, i)) x.id).sgfPrune

/-- A transmit descriptor that R257 allows: its length, and the bits that are reserved. -/
structure State.TxGood (s : State) (a w : Nat) : Prop where
  word : w = s.hnum (a + 8) 4
  short : 60 ≤ w % 2 ^ 14
  long : w % 2 ^ 14 ≤ 9212
  low : w / 2 ^ 14 % 4 = 0
  high : w / 2 ^ 20 = 0
  rest : s.hnum (a + 12) 4 = 0

section
variable {s : State} {k i : Nat} (t : Nat) (hn : s.sphNext (148 + k) = some i)
include hn

theorem doSphTxFetch_safe (hsafe : s.flt.safe = true) :
    doSphTxFetch k t s = ((s.sphFetched t (148 + k) i).spCount 64 5).txDone k i 2 := by
  have hsafe' : (s.passTo t).flt.safe = true := by rwa [passTo_flt]
  have hnext : (s.passTo t).sphNext (148 + k) = some i := by rwa [passTo_sphNext]
  simp only [doSphTxFetch, hnext, passTo_ring]
  exact if_pos hsafe'

theorem doSphTxFetch_short (hsafe : s.flt.safe = false) (hlen : s.hnum (s.entryAt (148 + k) i 32 + 8) 4 % 2 ^ 14 < 60) :
    doSphTxFetch k t s = (s.sphFetched t (148 + k) i).txDone k i 4 := by
  have hsafe' : ¬ (s.passTo t).flt.safe = true := by rw [passTo_flt, hsafe]; exact Bool.false_ne_true
  have hnext : (s.passTo t).sphNext (148 + k) = some i := by rwa [passTo_sphNext]
  simp only [doSphTxFetch, hnext, passTo_ring, passTo_entryAt, passTo_hnum]
  exact (if_neg hsafe').trans (if_pos (.inl hlen))

theorem doSphTxFetch_frame (hsafe : s.flt.safe = false) {w : Nat} (hw : s.TxGood (s.entryAt (148 + k) i 32) w) {b : List Byte}
    (hb : b = s.hget (s.hnum (s.entryAt (148 + k) i 32) 8) (w % 2 ^ 14)) :
    doSphTxFetch k t s = ((s.txBegun t k i).ingress 64 (w / 2 ^ 16 % 16) (b ++ fcs b) true true false (some (k, i))
      (s.txBegun t k i).tag).sphEnd k i (b ++ fcs b).length := by
  obtain ⟨hword, hshort, hlong, hlow, hhigh, hrest⟩ := hw
  have hsafe' : ¬ (s.passTo t).flt.safe = true := by rw [passTo_flt, hsafe]; exact Bool.false_ne_true
  have hnext : (s.passTo t).sphNext (148 + k) = some i := by rwa [passTo_sphNext]
  have hgood : ¬ (w % 2 ^ 14 < 60 ∨ 9212 < w % 2 ^ 14 ∨ w / 2 ^ 14 % 4 ≠ 0 ∨ w / 2 ^ 20 ≠ 0
      ∨ s.hnum (s.entryAt (148 + k) i 32 + 12) 4 ≠ 0) := by omega
  have hb' : ((s.passTo t).setRing (148 + k) { s.ring (148 + k) with nxt := idxInc i }).hget (s.hnum (s.entryAt (148 + k) i 32) 8) (w % 2 ^ 14)
      = b := (passTo_hget ..).trans hb.symm
  simp only [doSphTxFetch, hnext, passTo_ring, passTo_entryAt, passTo_hnum, ← hword, hb']
  exact (if_neg hsafe').trans (if_neg hgood)

end

/-! ### The end of a transmit frame's entry -/

section
variable (st : State) (id : Nat) (passed : Bool) (k i n : Nat)

theorem sphEnd_dropped_hif : (Entry.sphEnd ⟨st, none, passed⟩ k i n).hif
    = { st.hif with sphDone := st.hif.sphDone ++ [(⟨k, i, 2, 0, 0⟩ : SphDone)] } := rfl
theorem sphEnd_dropped_copies : (Entry.sphEnd ⟨st, none, passed⟩ k i n).sgf.copies = st.sgf.copies := rfl
theorem sphEnd_dropped_reg (r : Reg) (ix : List Nat) : (Entry.sphEnd ⟨st, none, passed⟩ k i n).reg r ix = st.reg r ix := rfl

theorem sphEnd_entered_keeps : Keeps 0x1000 st (Entry.sphEnd ⟨st, some id, passed⟩ k i n) :=
  (sgfPrune_keeps ..).step (polRest_keeps ..) rfl

theorem polRest_copies (d : Option (Nat × Bool × Bool)) : (st.polRest d n).sgf.copies = st.sgf.copies := by cases d <;> rfl
theorem polRest_frames (d : Option (Nat × Bool × Bool)) : (st.polRest d n).sgf.frames = st.sgf.frames := by cases d <;> rfl

theorem sphEnd_entered_copies : (Entry.sphEnd ⟨st, some id, passed⟩ k i n).sgf.copies = st.sgf.copies := polRest_copies ..

/-- A frame with a copy stays in the buffer. -/
theorem mem_sphEnd_entered {f : Frm} (hf : f ∈ st.sgf.frames) {c : Cpy} (hc : c ∈ st.sgf.copies) (hid : c.fid = f.id) :
    f ∈ (Entry.sphEnd ⟨st, some id, passed⟩ k i n).sgf.frames := by
  refine List.mem_filter.2 ⟨?_, List.any_eq_true.2 ⟨c, ?_, beq_iff_eq.2 hid⟩⟩
  · exact (polRest_frames st n _).symm ▸ hf
  · exact (polRest_copies st n _).symm ▸ hc

end

/-! ### A transmit frame and the switch (R257, R286, R294, R307) -/

/-- A port's counters beside RX (R311) leave its count of received frames. -/
theorem spCount_rx (s : State) (p q : Nat) {j : Nat} (h0 : 0 < j) (h64 : j < 64) :
    (s.spCount q j).reg .SP_CNT [p, 0] = s.reg .SP_CNT [p, 0] :=
  reg_setReg_ne _ _ (by rw [at_SP_CNT, at_SP_CNT]; omega)

theorem dropLook_rx (s : State) (p q : Nat) (z : Look) : (s.dropLook q z).reg .SP_CNT [p, 0] = s.reg .SP_CNT [p, 0] := by
  unfold State.dropLook
  split
  · exact spCount_rx s p q (by decide) (by decide)
  · refine foldl_keeps (fun u : State => u.reg .SP_CNT [p, 0] = s.reg .SP_CNT [p, 0]) rfl fun u o hu => ?_
    split
    · exact hu
    · exact (spCount_rx u p o (by decide) (by decide)).trans hu

theorem CountsOnly.roomFor {s u : State} (h : CountsOnly s u) (p : Nat) : u.roomFor p ↔ s.roomFor p := by
  rw [State.roomFor, h.sgf, h.f (.inl (by decide)), State.roomFor]

/-- The next transmit descriptor of ring k is good, and its frame b, of word w, has the lookup z. -/
structure State.TxOffered (s : State) (k i w : Nat) (b : List Byte) (z : Look) : Prop where
  next : s.sphNext (148 + k) = some i
  notSafe : s.flt.safe = false
  good : s.TxGood (s.entryAt (148 + k) i 32) w
  bytes : b = s.hget (s.hnum (s.entryAt (148 + k) i 32) 8) (w % 2 ^ 14)
  fresh : s.sgf.freshId
  look : z = s.lookup 64 (leValue ((b ++ fcs b).take 6)) (s.vidOf 64 (b ++ fcs b))

section
variable (s : State) (t k i : Nat)

theorem txBegun_countsOnly : CountsOnly s (s.txBegun t k i) :=
  (sphFetched_countsOnly s t _ i).trans (spCount_countsOnly _ (by decide) (by decide))

theorem txBegun_rx : (s.txBegun t k i).reg .SP_CNT [64, 0] = satInc (s.reg .SP_CNT [64, 0]) 1 := by
  rw [State.txBegun, State.spCount, State.bump, reg_setReg_same, (sphFetched_keeps s t (148 + k) i).reg rfl rfl]

theorem txBegun_ring : (s.txBegun t k i).ring (148 + k) = { s.ring (148 + k) with nxt := idxInc i } := sphFetched_ring ..
theorem txBegun_ring_ne {h : Nat} (hne : h ≠ 148 + k) : (s.txBegun t k i).ring h = s.ring h := sphFetched_ring_ne s t _ i hne
theorem txBegun_sphDone : (s.txBegun t k i).hif.sphDone = s.hif.sphDone := sphFetched_sphDone ..

end

/-- From s to u the descriptor of index i of transmit ring k was fetched, and its frame counted and dropped without a copy. -/
def State.TxDropped (s : State) (k i : Nat) (u : State) : Prop :=
  u.ring (148 + k) = { s.ring (148 + k) with nxt := idxInc i } ∧ (∀ h, h ≠ 148 + k → u.ring h = s.ring h)
    ∧ u.sgf.copies = s.sgf.copies ∧ u.hif.sphDone = s.hif.sphDone ++ [(⟨k, i, 2, 0, 0⟩ : SphDone)]
    ∧ u.reg .SP_CNT [64, 0] = satInc (s.reg .SP_CNT [64, 0]) 1 ∧ changesOnly [.regs, .clr, .sgf, .hif] s u

section
variable {s : State} {k : Fin 16} {i w : Nat} {b : List Byte} {z : Look} {t : Nat} (h : s.TxOffered k i w b z)
include h

/-- A transmit frame that gets no copy is written back with status 2. -/
theorem runs_sphTxFetch_dropped {st : State} {passed : Bool}
    (hx : (s.txBegun t k i).ingress 64 (w / 2 ^ 16 % 16) (b ++ fcs b) true true false (some (k.val, i))
      (s.txBegun t k i).tag = ⟨st, none, passed⟩)
    (hcopies : st.sgf.copies = s.sgf.copies) (hcnt : st.reg .SP_CNT [64, 0] = (s.txBegun t k i).reg .SP_CNT [64, 0]) :
    Runs (.sphTxFetch k t) s (s.TxDropped k i) := by
  have heq := doSphTxFetch_frame t h.next h.notSafe h.good h.bytes
  have hst : st.hif = (s.txBegun t k i).hif := by
    have hk := ingress_keeps (s.txBegun t k i) 64 (w / 2 ^ 16 % 16) (b ++ fcs b) true true false (some (k.val, i))
      (s.txBegun t k i).tag
    rw [hx] at hk
    exact hk.frame .hif rfl
  have hring : ∀ j, (Entry.sphEnd ⟨st, none, passed⟩ k i (b ++ fcs b).length).ring j = (s.txBegun t k i).ring j :=
    fun j => ring_of_hif hst j
  refine .of_eq (exec_sphTxFetch k t s) (heq.trans (congrArg (Entry.sphEnd · k i (b ++ fcs b).length) hx)) ⟨?_, fun j hj => ?_,
    hcopies, ?_, ?_, ?_⟩
  · rw [hring, txBegun_ring]
  · rw [hring, txBegun_ring_ne s t k i hj]
  · rw [sphEnd_dropped_hif, hst, txBegun_sphDone]
  · rw [sphEnd_dropped_reg, hcnt, txBegun_rx]
  · rw [← hx]
    exact heq ▸ (doSphTxFetch_keeps ..).changesOnly rfl

theorem offered_look : z = (s.txBegun t k i).lookup 64 (leValue ((b ++ fcs b).take 6)) ((s.txBegun t k i).vidOf 64 (b ++ fcs b)) := by
  have hc := txBegun_countsOnly s t k i
  rw [hc.lookup, hc.vidOf]
  exact h.look

theorem offered_fresh : (s.txBegun t k i).sgf.freshId := by
  rw [(txBegun_countsOnly s t k i).sgf]
  exact h.fresh

theorem runs_sphTxFetch_off (hoff : s.forwards = false) :
    Runs (.sphTxFetch k t) s (s.TxDropped k i) := by
  have hc := txBegun_countsOnly s t k i
  exact runs_sphTxFetch_dropped h (ingress_off (by rw [hc.forwards, hoff])) (congrArg Sgf.copies hc.sgf)
    (spCount_rx _ 64 64 (by decide) (by decide))

theorem runs_sphTxFetch_closed (hon : s.forwards = true) (hz : z.outs.filter s.outOpen = []) :
    Runs (.sphTxFetch k t) s (s.TxDropped k i) := by
  have hc := txBegun_countsOnly s t k i
  have hopen : (s.txBegun t k i).outOpen = s.outOpen := funext hc.outOpen
  refine runs_sphTxFetch_dropped h (ingress_closed (by rw [hc.forwards, hon]) (offered_look h) (Nat.le_refl 64) (by rw [hopen, hz]))
    (congrArg Sgf.copies ?_) (dropLook_rx ..)
  exact ((dropLook_keeps ..).frame .sgf rfl).trans hc.sgf

omit h in
theorem offered_noPolicer {c : Nat} (hpol : s.polEntry 64 c (s.vidOf 64 (b ++ fcs b)) = none) :
    (s.txBegun t k i).polEntry 64 c ((s.txBegun t k i).vidOf 64 (b ++ fcs b)) = none := by
  have hc := txBegun_countsOnly s t k i
  rw [hc.polEntry, hc.vidOf]
  exact hpol

variable {n : Nat} (houts : z.outs = [n])
  (hpol : s.polEntry 64 (z.cls.getD (w / 2 ^ 16 % 16)) (s.vidOf 64 (b ++ fcs b)) = none)
include houts hpol

/-- No room for the frame's input or in the store, or none in its queue (R294). -/
theorem runs_sphTxFetch_refused (hon : s.forwards = true) (hopen : s.outOpen n = true)
    (hfull : ¬ s.roomFor 64 ∨ s.f SGF_BUF.VOQ_MAX [] ≤ s.sgf.depth 64 n (z.cls.getD (w / 2 ^ 16 % 16))) :
    Runs (.sphTxFetch k t) s (s.TxDropped k i) := by
  have hc := txBegun_countsOnly s t k i
  refine runs_sphTxFetch_dropped h (ingress_refuses (by rw [hc.forwards, hon]) (offered_look h) houts (by rw [hc.outOpen, hopen])
    (offered_noPolicer hpol) (offered_fresh h) ?_) ?_ (spCount_rx _ 64 64 (by decide) (by decide))
  · rwa [hc.roomFor, hc.sgf, hc.f (.inl (by decide))]
  · exact (show _ = (s.txBegun t k i).sgf.copies from rfl).trans (congrArg Sgf.copies hc.sgf)

/-- The frame enters with its one copy. -/
theorem runs_sphTxFetch_enters (hon : s.forwards = true) (hopen : s.outOpen n = true) (hroom : s.roomFor 64)
    (hq : s.sgf.depth 64 n (z.cls.getD (w / 2 ^ 16 % 16)) < s.f SGF_BUF.VOQ_MAX []) : Runs (.sphTxFetch k t) s fun u =>
      u.ring (148 + k) = { s.ring (148 + k) with nxt := idxInc i } ∧ (∀ h, h ≠ 148 + k.val → u.ring h = s.ring h)
      ∧ u.sgf.copies = s.sgf.copies ++ [(⟨s.sgf.nextId, 64, n, z.cls.getD (w / 2 ^ 16 % 16), 0, 0, false, none, none, none⟩ : Cpy)]
      ∧ (∃ x ∈ u.sgf.frames, x.id = s.sgf.nextId ∧ x.host = some (k.val, i) ∧ x.bytes = b ++ fcs b ∧ x.whole = true)
      ∧ u.hif.sphDone = s.hif.sphDone ∧ u.reg .SP_CNT [64, 0] = satInc (s.reg .SP_CNT [64, 0]) 1
      ∧ changesOnly [.regs, .clr, .sgf, .hif] s u := by
  have hc := txBegun_countsOnly s t k i
  have heq := doSphTxFetch_frame t h.next h.notSafe h.good h.bytes
  have hx := ingress_admits (host := some (k.val, i)) (ts := (s.txBegun t k i).tag) (by rw [hc.forwards, hon]) (offered_look h)
    houts (by rw [hc.outOpen, hopen]) (offered_noPolicer hpol) (offered_fresh h) ((hc.roomFor 64).2 hroom)
    (by rwa [hc.sgf, hc.f (.inl (by decide))])
  obtain ⟨f, hf⟩ : ∃ f, f = (s.txBegun t k i).newFrm 64 (z.cls.getD (w / 2 ^ 16 % 16)) (b ++ fcs b) true z.mcast false
    (some (k.val, i)) none (s.txBegun t k i).tag := ⟨_, rfl⟩
  have hid : f.id = s.sgf.nextId := by rw [hf, ← hc.sgf]; rfl
  rw [← hf] at hx
  have hk := sphEnd_entered_keeps ((s.txBegun t k i).setSgf ((s.txBegun t k i).sgf.withCopy f n)) (s.txBegun t k i).sgf.nextId true k i
    (b ++ fcs b).length
  have hring := ring_of_hif (hk.frame .hif rfl)
  refine .of_eq (exec_sphTxFetch k t s) (heq.trans (congrArg (Entry.sphEnd · k i (b ++ fcs b).length) hx)) ⟨?_, fun j hj => ?_,
    ?_, ⟨f, mem_sphEnd_entered _ _ _ _ _ _ (c := f.copyTo n) ?_ ?_ rfl, hid, by rw [hf]; rfl, by rw [hf]; rfl, by rw [hf]; rfl⟩, ?_, ?_, ?_⟩
  · exact (hring _).trans (txBegun_ring ..)
  · exact (hring _).trans (txBegun_ring_ne s t k i hj)
  · rw [sphEnd_entered_copies]
    have hcopy : f.copyTo n = ⟨s.sgf.nextId, 64, n, z.cls.getD (w / 2 ^ 16 % 16), 0, 0, false, none, none, none⟩ := by
      rw [Frm.copyTo, hid, hf]
      rfl
    rw [← hcopy, ← hc.sgf]
    rfl
  · exact List.mem_append_right _ (List.mem_singleton.2 rfl)
  · exact List.mem_append_right _ (List.mem_singleton.2 rfl)
  · exact (congrArg Hif.sphDone (hk.frame .hif rfl)).trans (txBegun_sphDone ..)
  · exact (hk.reg rfl rfl ..).trans (txBegun_rx ..)
  · rw [← hx]
    exact heq ▸ (doSphTxFetch_keeps ..).changesOnly rfl

omit houts hpol in
/-- A frame gets no copy with forwarding off, without an open output, and at one output that has no room for it. -/
theorem runs_sphTxFetch_no_copy (hno : s.forwards = false ∨ z.outs.filter s.outOpen = [] ∨ z.outs = [n]
      ∧ s.polEntry 64 (z.cls.getD (w / 2 ^ 16 % 16)) (s.vidOf 64 (b ++ fcs b)) = none
      ∧ (s.f SGF_BUF.INPUT_MAX [] * 16 < s.sgf.inUse 64 + 72 ∨ s.sgf.free < 72
        ∨ s.f SGF_BUF.VOQ_MAX [] ≤ s.sgf.depth 64 n (z.cls.getD (w / 2 ^ 16 % 16)))) :
    Runs (.sphTxFetch k t) s (s.TxDropped k i) := by
  cases hon : s.forwards with
  | false => exact runs_sphTxFetch_off h hon
  | true =>
    rcases hno with hoff | hclosed | ⟨houts, hpol, hfull⟩
    · rw [hoff] at hon
      cases hon
    · exact runs_sphTxFetch_closed h hon hclosed
    · cases hopen : s.outOpen n with
      | false => exact runs_sphTxFetch_closed h hon (by simp [houts, hopen])
      | true =>
        refine runs_sphTxFetch_refused h houts hpol hon hopen ?_
        rw [State.roomFor]
        omega

end

end Sys2Proof.Machine
end

section
/-! PROOF. The write-backs of the SPH rings, failed transfers, and the statement on the SPH rings (O40). -/
namespace Sys2Proof.Machine

/-! ### Descriptors that carry no frame to the switch (R257) -/

theorem runs_sphTxFetch_safe {s : State} {k : Fin 16} {i : Nat} (t : Nat) (hn : s.sphNext (148 + k) = some i) (hsafe : s.flt.safe = true) :
    Runs (.sphTxFetch k t) s fun u => u.hif.sphDone = s.hif.sphDone ++ [(⟨k.val, i, 2, 0, 0⟩ : SphDone)]
      ∧ u.ring (148 + k) = { s.ring (148 + k) with nxt := idxInc i }
      ∧ u.reg .SP_CNT [64, 5] = satInc (s.reg .SP_CNT [64, 5]) 1 ∧ otherRegs [Reg.SP_CNT.at [64, 5]] s u
      ∧ changesOnly [.regs, .clr, .hif] s u := by
  have hk := sphFetched_keeps s t (148 + k) i
  refine .of_eq (exec_sphTxFetch k t s) (doSphTxFetch_safe t hn hsafe) ⟨?_, sphFetched_ring .., ?_, ?_,
    ((hk.trans (spCount_keeps ..)).trans (txDone_keeps ..)).changesOnly rfl⟩
  · exact congrArg (· ++ [(⟨k.val, i, 2, 0, 0⟩ : SphDone)]) (sphFetched_sphDone s t (148 + k) i)
  · rw [← hk.reg rfl rfl]
    exact reg_setReg_same (s.sphFetched t (148 + k) i) .SP_CNT [64, 5] _
  · exact .trans (.of_regs (hk.frame .regs rfl)) (.bump (List.mem_singleton.2 rfl))

theorem runs_sphTxFetch_short {s : State} {k : Fin 16} {i : Nat} (t : Nat) (hn : s.sphNext (148 + k) = some i)
    (hsafe : s.flt.safe = false) (hlen : s.hnum (s.entryAt (148 + k) i 32 + 8) 4 % 2 ^ 14 < 60) :
    Runs (.sphTxFetch k t) s fun u => u.hif.sphDone = s.hif.sphDone ++ [(⟨k.val, i, 4, 0, 0⟩ : SphDone)]
      ∧ u.ring (148 + k) = { s.ring (148 + k) with nxt := idxInc i } ∧ changesOnly [.clr, .hif] s u :=
  .of_eq (exec_sphTxFetch k t s) (doSphTxFetch_short t hn hsafe hlen)
    ⟨congrArg (· ++ [(⟨k.val, i, 4, 0, 0⟩ : SphDone)]) (sphFetched_sphDone s t (148 + k) i), sphFetched_ring ..,
      ((sphFetched_keeps ..).trans (txDone_keeps ..)).changesOnly rfl⟩

/-! ### Write-backs (R233, R257, R258) -/

/-- From s to u the bytes l were written to the last sixteen of descriptor i of ring g, which is written back. -/
structure WrittenBack (g i : Nat) (l : List Byte) (s u : State) : Prop where
  hostMem : u.hostMem = Memory.putL s.hostMem (s.entryAt g i 32 + 16) l
  nxt : (u.ring g).nxt = (s.ring g).nxt
  hif : ∃ rs m, u.hif = { s.hif with rings := rs, msix := m }
  keeps : Keeps 0x802004 s u

/-- The indices of a ring behind the write-back of descriptor i: CI passes what is written back (R233). -/
def Ring.wroteBack (r : Ring) (i : Nat) : Ring :=
  let w := r.wb ++ [i]
  let ci := (List.range w.length).foldl (fun c _ => if w.contains c then idxInc c else c) r.ci
  { r with ci := ci, wb := w.filter fun j => decide (idxSub j ci < 2 ^ 31) }

theorem writeBack_eq (s : State) (g i : Nat) (l : List Word) : s.writeBack g i l
    = ((s.hput (s.entryAt g i 32 + 16) (wordBytes (padW 4 l))).setRing g ((s.ring g).wroteBack i)).counted g := rfl

theorem writeBack_written (s : State) (g i : Nat) (l : List Word) : WrittenBack g i (wordBytes (padW 4 l)) s (s.writeBack g i l) := by
  have hm := counted_moderated ((s.hput (s.entryAt g i 32 + 16) (wordBytes (padW 4 l))).setRing g ((s.ring g).wroteBack i)) g
  obtain ⟨n, b, hr⟩ := hm.ring
  obtain ⟨rs, m, hh⟩ := hm.hif
  rw [ring_setRing_same] at hr
  rw [← writeBack_eq] at hm hr hh
  exact ⟨hm.keeps.frame .hostMem rfl, by rw [hr]; rfl, ⟨rs, m, hh⟩, writeBack_keeps ..⟩

/-- The words of a transmit write-back (R257). -/
def SphDone.words (d : SphDone) : List Word :=
  [if d.status = 1 then d.ts else 0, wd (d.status + if d.status = 1 then d.port * 2 ^ 16 else 0), 0, wd (2 ^ 31)]

/-- The oldest write-back that waits has left its queue. -/
def State.doneTaken (s : State) (rest : List SphDone) : State := { s with hif := { s.hif with sphDone := rest } }

theorem doneTaken_keeps (s : State) (rest : List SphDone) : Keeps 0x2000 s (s.doneTaken rest) := Keeps.upd .refl

theorem doSphTxWriteback_first {s : State} {d : SphDone} {rest : List SphDone} (hq : s.hif.sphDone = d :: rest) :
    doSphTxWriteback s = (s.doneTaken rest).writeBack (148 + d.k) d.idx d.words := by
  simp only [doSphTxWriteback, hq, decide_eq_true_eq]
  rfl

theorem runs_sphTxWriteback {s : State} {d : SphDone} {rest : List SphDone} (hq : s.hif.sphDone = d :: rest) (hw : s.memWf = true) :
    Runs .sphTxWriteback s fun u => u.hif.sphDone = rest
      ∧ u.hget (s.entryAt (148 + d.k) d.idx 32 + 16) 16 = wordBytes d.words
      ∧ (∀ a, (a < s.entryAt (148 + d.k) d.idx 32 + 16 ∨ s.entryAt (148 + d.k) d.idx 32 + 32 ≤ a) →
          Memory.get u.hostMem a = Memory.get s.hostMem a) ∧ changesOnly [.regs, .hif, .hostMem] s u := by
  have hb := writeBack_written (s.doneTaken rest) (148 + d.k) d.idx d.words
  obtain ⟨rs, m, hh⟩ := hb.hif
  have hmem : _ = Memory.putL s.hostMem (s.entryAt (148 + d.k) d.idx 32 + 16) (wordBytes d.words) := hb.hostMem
  exact .of_eq (exec_sphTxWriteback s) (doSphTxWriteback_first hq) ⟨by rw [hh]; rfl, hget_written hw hmem rfl,
    get_not_written (n := 16) hmem rfl, ((doneTaken_keeps s rest).trans hb.keeps).changesOnly rfl⟩

/-! ### Received frames (R258) -/

theorem reap_rings (s : State) : s.reap.hif.rings = s.hif.rings := by
  unfold State.reap
  extract_lets gone s1 g done
  have hk : Keeps 0x1000 s s1 := .foldl .refl fun _ _ h => .ite h ((polRest_keeps ..).step h rfl)
  have hhif : s1.hif = s.hif := hk.frame .hif rfl
  rw [← hhif]

theorem rxTaken_ring (s : State) (c : Cpy) (g : Nat) : (s.rxTaken c).ring g = s.ring g := by
  rw [State.ring, State.rxTaken, reap_rings]
  rfl

section
variable {s : State} {k i : Nat} {c : Cpy} {f : Frm} (hn : s.sphNext (164 + k) = some i) (hc : s.sphSelect k = some c)
  (hbig : 9216 ≤ s.hnum (s.entryAt (164 + k) i 32 + 8) 4 % 2 ^ 14) (hf : s.sgf.frame c.fid = some f)
include hn hc hbig hf

theorem doSphRxWrite_frame (t : Nat) : doSphRxWrite k t s = (((((s.sphFetched t (164 + k) i).hput (s.hnum (s.entryAt (164 + k) i 32) 8)
    f.bytes).writeBack (164 + k) i (rxWords f k)).spCount 64 7).rxTaken c) := by
  have hsel : (s.passTo t).sphSelect k = some c := (passTo_congr s t (·.sphSelect k) fun _ => rfl).trans hc
  have hsmall : decide (s.hnum (s.entryAt (164 + k) i 32 + 8) 4 % 2 ^ 14 < 9216) = false := decide_eq_false (by omega)
  simp only [doSphRxWrite, State.sphRx, passTo_sphNext, hn, hsel, passTo_entryAt, passTo_hnum, passTo_sgf, hf, hsmall, passTo_ring,
    Bool.false_eq_true, if_false]
  rfl

end

theorem runs_sphRxWrite {s : State} {k : Fin 16} {i : Nat} {c : Cpy} {f : Frm} (t : Nat) (hn : s.sphNext (164 + k) = some i)
    (hc : s.sphSelect k = some c) (hbig : 9216 ≤ s.hnum (s.entryAt (164 + k) i 32 + 8) 4 % 2 ^ 14) (hf : s.sgf.frame c.fid = some f)
    (hw : s.memWf = true) : Runs (.sphRxWrite k t) s fun u => (u.ring (164 + k)).nxt = idxInc i
      ∧ u.hget (s.entryAt (164 + k) i 32 + 16) 16 = wordBytes (rxWords f k)
      ∧ (s.hnum (s.entryAt (164 + k) i 32) 8 + f.bytes.length ≤ s.entryAt (164 + k) i 32 + 16 →
          u.hget (s.hnum (s.entryAt (164 + k) i 32) 8) f.bytes.length = f.bytes) := by
  obtain ⟨a, ha⟩ : ∃ a, a = s.hnum (s.entryAt (164 + k) i 32) 8 := ⟨_, rfl⟩
  obtain ⟨s1, hs1⟩ : ∃ s1, s1 = (s.sphFetched t (164 + k) i).hput a f.bytes := ⟨_, rfl⟩
  have heq := doSphRxWrite_frame hn hc hbig hf t
  rw [← ha, ← hs1] at heq
  have hb := writeBack_written s1 (164 + k) i (rxWords f k)
  have hk := ((spCount_keeps (s1.writeBack (164 + k) i (rxWords f k)) 64 7).trans (rxTaken_keeps _ c))
  have hat : s1.entryAt (164 + k) i 32 = s.entryAt (164 + k) i 32 := by rw [hs1]; exact passTo_entryAt ..
  have hm1 : s1.hostMem = Memory.putL s.hostMem a f.bytes := by rw [hs1]; exact congrArg (Memory.putL · a f.bytes) (passTo_hostMem s t)
  have hwords : padW 4 (rxWords f k) = rxWords f k := rfl
  have hmem := (hk.frame .hostMem rfl).trans hb.hostMem
  rw [hat, hwords] at hmem
  have hw1 : s1.memWf = true := by rw [State.memWf, hm1]; exact mem_putL _ _ hw
  refine .of_eq (exec_sphRxWrite k t s) heq ⟨?_, hget_written hw1 hmem rfl, fun hbelow => ?_⟩
  · rw [rxTaken_ring]
    refine Eq.trans hb.nxt ?_
    rw [hs1]
    exact congrArg Ring.nxt (sphFetched_ring s t (164 + k) i)
  · rw [← ha] at hbelow ⊢
    rw [hget_not_written hmem hbelow]
    exact hget_written hw hm1 rfl

/-! ### Failed transfers (R259) -/

theorem ringStop_ring (s : State) (g : Nat) : (s.ringStop g).ring g
    = { s.ring g with active := false, busy := hostProduced g, run := [], runEnd := false, runRej := 0 } := ring_setRing_same ..
theorem ringStop_ring_ne (s : State) {g h : Nat} (hne : h ≠ g) : (s.ringStop g).ring h = s.ring h := ring_setRing_ne _ _ hne.symm

/-- A ring that stops on a failed transfer has its error noted (R259). -/
theorem dmaStop_noted (s : State) (g : Nat) {y : Fld} (hy : y.reg = .HIF_ERR) (hylen : y.len = 1 ∧ y.lo < 32) :
    ErrorNoted RING_STATUS.DMA_ERR [g] y (s.ringStop g) (s.dmaStop g y) :=
  ringErr_noted (s.ringStop g) g (x := RING_STATUS.DMA_ERR) rfl (by decide) hy hylen

theorem runs_dmaReadFail {s : State} {g : Fin 180} (hp : hostProduced g = true) (ha : (s.ring g).active = true) :
    Runs (.dmaReadFail g false) s fun u => (u.ring g).active = false
      ∧ (u.ring g).pi = (s.ring g).pi ∧ (u.ring g).ci = (s.ring g).ci ∧ u.f RING_STATUS.DMA_ERR [g.val] = 1 ∧ u.f HIF_ERR.DMA_RD [] = 1
      ∧ (∀ h, h ≠ g.val → u.ring h = s.ring h) ∧ changesOnly [.regs, .hif, .prl] s u := by
  have heq : doDmaReadFail g false s = s.dmaStop g HIF_ERR.DMA_RD := by simp [doDmaReadFail, hp, ha]
  have he := dmaStop_noted s g (y := HIF_ERR.DMA_RD) rfl (by decide)
  have hr := (he.ring g).trans (ringStop_ring s g)
  exact .of_eq (exec_dmaReadFail g false s) heq ⟨by rw [hr], by rw [hr], by rw [hr], he.bit, he.hifBit,
    fun h hh => (he.ring h).trans (ringStop_ring_ne s hh), ((ringStop_keeps ..).trans he.keeps).changesOnly rfl⟩

/-- The event whose entry could not be written has left its queue, and counts as written (R259). -/
theorem doDmaWriteFail_event {s : State} {g : Nat} {e : Evt} {evs : List Evt} (hq : s.hif.evq = e :: evs) (h128 : 128 ≤ g)
    (h144 : g < 144) (he : e.ring = g - 128) (ha : (s.ring g).active = true) :
    doDmaWriteFail g false s = (s.evTaken evs).entryLost g := by
  have h64 : ¬ g < 64 := by omega
  have hn128 : ¬ g < 128 := by omega
  simp only [doDmaWriteFail, State.entryFail, h64, hn128, h144, hq, he, ha, Bool.false_eq_true, if_false, if_true, and_self]
  rfl

theorem runs_dmaWriteFail_event {s : State} {g : Fin 180} {e : Evt} {evs : List Evt} (hq : s.hif.evq = e :: evs) (h128 : 128 ≤ g.val)
    (h144 : g.val < 144) (he : e.ring = g.val - 128) (ha : (s.ring g).active = true) :
    Runs (.dmaWriteFail g false) s fun u => (u.ring g).active = false ∧ (u.ring g).pi = idxInc (s.ring g).pi
      ∧ u.f RING_STATUS.DMA_ERR [g.val] = 1 ∧ u.f HIF_ERR.DMA_WR [] = 1 ∧ changesOnly [.regs, .hif, .prl] s u := by
  have hm := counted_moderated ((s.evTaken evs).setRing g { s.ring g with pi := idxInc (s.ring g).pi }) g
  obtain ⟨n, b, hr⟩ := hm.ring
  rw [ring_setRing_same] at hr
  have hd := dmaStop_noted (((s.evTaken evs).setRing g { s.ring g with pi := idxInc (s.ring g).pi }).counted g) g (y := HIF_ERR.DMA_WR)
    rfl (by decide)
  have hring := (hd.ring g).trans (ringStop_ring _ g)
  rw [hr] at hring
  refine .of_eq (exec_dmaWriteFail g false s) (doDmaWriteFail_event hq h128 h144 he ha) ⟨?_, ?_, hd.bit, hd.hifBit, ?_⟩
  · exact congrArg Ring.active hring
  · exact congrArg Ring.pi hring
  · exact ((((evTaken_keeps s evs).trans (setRing_keeps ..)).trans hm.keeps).trans ((ringStop_keeps ..).trans hd.keeps)).changesOnly rfl

/-- Settles O40, clause by clause: transmit descriptors, write-backs, received frames and failed transfers. -/
theorem sphRings : Obligations.SphRings := by
  unfold Obligations.SphRings
  refine fun s k t i d rest c f g e evs w n b z => ⟨runs_sphTxFetch_safe t, runs_sphTxFetch_short t,
    fun hn hsafe hword hshort hlong hlow hhigh hrest hb hfresh hz => ?frame, runs_sphTxWriteback, runs_sphRxWrite t, runs_dmaReadFail,
    runs_dmaWriteFail_event⟩
  have h : s.TxOffered k i w b z := ⟨hn, hsafe, ⟨hword, hshort, hlong, hlow, hhigh, hrest⟩, hb, hfresh, hz⟩
  exact ⟨fun hon houts hopen hpol hin hstore hq => runs_sphTxFetch_enters h houts hpol hon hopen ⟨hin, hstore⟩ hq,
    runs_sphTxFetch_no_copy h⟩

end Sys2Proof.Machine
end

section
/-! PROOF. Capture rings: their start and stop, doorbells, the records written, the quota windows, and the PCIe link (O41). -/
namespace Sys2Proof.Machine

theorem exec_captureDoorbell (k : Fin 4) (v : Word) (t : Nat) (s : State) :
    exec (.captureDoorbell k v t) s = .next (doCaptureDoorbell k v t s) := rfl
theorem exec_captureWrite (k : Fin 4) (t : Nat) (s : State) : exec (.captureWrite k t) s = .next (doCaptureWrite k t s) := rfl
theorem exec_quotaWindowEnd (t : Nat) (s : State) : exec (.quotaWindowEnd t) s = .next (doQuotaWindowEnd t s) := rfl
theorem exec_pcieLinkRetrain (rate : Fin 33) (width : Fin 9) (s : State) :
    exec (.pcieLinkRetrain rate width) s = .next (doPcieLinkRetrain rate width s) := rfl

theorem at_CAP_CFG (k : Nat) : Reg.CAP_CFG.at [k] = 0x202408 + 0x40 * k := rfl
theorem at_CAP_STATUS (k : Nat) : Reg.CAP_STATUS.at [k] = 0x20240c + 0x40 * k := rfl
theorem at_CAP_SRC (k : Nat) : Reg.CAP_SRC.at [k] = 0x202420 + 0x40 * k := rfl
theorem at_CAP_QUOTA (k : Nat) : Reg.CAP_QUOTA.at [k] = 0x202424 + 0x40 * k := rfl
theorem at_CAP_RSV (k : Nat) : Reg.CAP_RSV.at [k] = 0x202428 + 0x40 * k := rfl

/-! ### A capture ring beside other changes -/

theorem f_setCap (s : State) (k : Nat) (c : CapRing) (x : Fld) (ix : List Nat) : (s.setCap k c).f x ix = s.f x ix := rfl

theorem capR_of_cap {s u : State} (h : u.cap = s.cap) (k : Nat) : u.capR k = s.capR k := by rw [State.capR, h, State.capR]

section
variable (s : State) (t : Nat)

@[simp] theorem passTo_capR (k : Nat) : (s.passTo t).capR k = s.capR k := passTo_congr s t (·.capR k) fun _ => rfl
@[simp] theorem passTo_capCi (k : Nat) (v : Word) : (s.passTo t).capCi k v = s.capCi k v :=
  passTo_congr s t (·.capCi k v) fun _ => rfl

theorem passTo_otherRegs (l : List Nat) : otherRegs l s (s.passTo t) := .of_regs (passTo_congr s t (·.regs) fun _ => rfl)

end

/-- An error of a capture ring is noted, and the rings stay (R259). -/
theorem capErr_noted (s : State) (k : Nat) {x y : Fld} (hreg : x.reg = .CAP_STATUS) (hx : x.len = 1 ∧ x.lo < 32)
    (hy : y.reg = .HIF_ERR) (hylen : y.len = 1 ∧ y.lo < 32) : ErrorNoted x [k] y s (s.capErr k x y) :=
  error_noted s (by rw [hreg]; rfl) (by rw [hreg, at_CAP_STATUS]; omega) hx hy hylen (capG k)

/-! ### Admission (R268) -/

section
variable {s u : State} {k : Nat}

/-- Admission of ring k looks at no field of its own CAP_CFG. -/
theorem capAdmit_congr (hr : otherRegs [Reg.CAP_CFG.at [k]] s u) (hsys : u.sys = s.sys) (hcap : u.cap = s.cap) :
    u.capAdmit k = s.capAdmit k := by
  have hf : ∀ (y : Fld) (j : Nat), y.reg.at [j] ≠ Reg.CAP_CFG.at [k] → u.f y [j] = s.f y [j] := fun y j hne =>
    f_of_otherRegs hr (by rw [hsys]) (by simpa using hne)
  have hsrc : ∀ y : Fld, y.reg = .CAP_SRC → u.f y [k] = s.f y [k] := fun y hy =>
    hf y k (by rw [hy, at_CAP_SRC, at_CAP_CFG]; omega)
  have hquota : ∀ y : Fld, y.reg = .CAP_QUOTA → u.f y [k] = s.f y [k] := fun y hy =>
    hf y k (by rw [hy, at_CAP_QUOTA, at_CAP_CFG]; omega)
  have hrsv : ∀ j, u.f CAP_RSV.RSV [j] = s.f CAP_RSV.RSV [j] := fun j =>
    hf _ j (show Reg.CAP_RSV.at [j] ≠ _ by rw [at_CAP_RSV, at_CAP_CFG]; omega)
  have hworst : u.capWorst k = s.capWorst k := by
    have hfb : ∀ y : Fld, y.reg = .CAP_SRC → u.fb y [k] = s.fb y [k] := fun y hy => fb_of_f (hsrc y hy)
    simp (disch := decide) only [State.capWorst, hfb, hsrc, hquota]
  have hlimit : u.capLimit = s.capLimit := by rw [State.capLimit, hsys, State.capLimit]
  have hreserved : u.capReserved (some k) = s.capReserved (some k) := by
    refine List.foldl_ext _ _ _ fun a j _ => ?_
    by_cases hj : j = k
    · simp [hj]
    · have hen : u.fb CAP_CFG.EN [j] = s.fb CAP_CFG.EN [j] :=
        fb_of_f (hf _ j (show Reg.CAP_CFG.at [j] ≠ _ by rw [at_CAP_CFG, at_CAP_CFG]; omega))
      rw [hen, hrsv, capR_of_cap hcap]
  simp (disch := decide) only [State.capAdmit, hsrc, hworst, hrsv, hlimit, hreserved]

end

/-! ### CAP_CFG (R236, R274) -/

section
variable {s : State} {k : Nat} {v : Word}

/-- A stopped ring takes size and vector from a write of CAP_CFG (R236). -/
def State.capSized (s : State) (k : Nat) (v : Word) : State :=
  (s.setF CAP_CFG.SIZE [k] (clampN 12 37 (fget 0 6 v))).setF CAP_CFG.VEC [k] (fget 8 8 v)

theorem capSized_keeps (s : State) (k : Nat) (v : Word) : Keeps 0x4 s (s.capSized k v) := (setF_keeps ..).step (setF_keeps ..) rfl

theorem capSized_otherRegs (s : State) (k : Nat) (v : Word) : otherRegs [Reg.CAP_CFG.at [k]] s (s.capSized k v) :=
  .trans (.setF (List.mem_singleton.2 rfl)) (.setF (List.mem_singleton.2 rfl))

theorem capSized_capAdmit (s : State) (k : Nat) (v : Word) (t : Nat) : ((s.passTo t).capSized k v).capAdmit k = s.capAdmit k :=
  capAdmit_congr ((passTo_otherRegs s t _).trans (capSized_otherRegs _ k v)) (passTo_congr s t (·.sys) fun _ => rfl) (passTo_cap s t)

/-- A write that would change size or vector of a running ring is noted (R236). -/
def State.refuseSized (s : State) (k : Nat) (v : Word) : State :=
  if decide (clampN 12 37 (fget 0 6 v) ≠ s.f CAP_CFG.SIZE [k]) || decide (fget 8 8 v ≠ s.f CAP_CFG.VEC [k])
  then s.hifErr HIF_ERR.CFG_REJ (some (capG k)) else s

theorem refuseSized_noted (s : State) (k : Nat) (v : Word) : HifNoted s (s.refuseSized k v) := by
  unfold State.refuseSized
  split
  · exact hifErr_noted s rfl _
  · exact .refl

theorem doCapCfg_start (hv : bit 31 v = true) (hen : s.fb CAP_CFG.EN [k] = false) (hb : (s.capR k).busy = false) :
    doCapCfg k v s = (s.capSized k v).capEnable k := by
  simp only [doCapCfg, hen, hb, hv, Bool.or_self, Bool.false_eq_true, if_false, if_true]
  rfl

theorem doCapCfg_stop (hv : bit 31 v = false) (hen : s.fb CAP_CFG.EN [k] = true) (hb : (s.capR k).busy = false) :
    doCapCfg k v s = ((s.refuseSized k v).setF CAP_CFG.EN [k] 0).setCap k
      { (s.refuseSized k v).capR k with active := false, busy := true } := by
  simp only [doCapCfg, hen, hb, hv, Bool.or_false, Bool.false_eq_true, if_false, if_true]
  rfl

theorem doCapCfg_passTo (t : Nat) (hv : bit 31 v = true) (hen : s.fb CAP_CFG.EN [k] = false) (hb : (s.capR k).busy = false) :
    doCapCfg k v (s.passTo t) = ((s.passTo t).capSized k v).capEnable k :=
  doCapCfg_start hv ((passTo_congr s t (·.fb CAP_CFG.EN [k]) fun _ => rfl).trans hen) (by rw [passTo_capR, hb])

theorem capSized_passTo_capR (s : State) (t k : Nat) (v : Word) (j : Nat) : ((s.passTo t).capSized k v).capR j = s.capR j :=
  capR_of_cap (passTo_cap s t) j

/-- A ring that starts: without records but for the staged TIME record (R268, R274). -/
def State.capFresh (s : State) (k : Nat) : CapRing :=
  { CapRing.reset with
    active := true, winT := s.clr.now, u := 0, latPi := (s.capR k).latPi, latOld := (s.capR k).latOld
    fifo := [⟨0x20, 255, 0, s.tag, s.timePayload false, s.clr.now / 1000⟩] }

theorem capEnable_admitted (h : s.capAdmit k = true) : (s.capEnable k).capR k = s.capFresh k
    ∧ (∀ j, j ≠ k → (s.capEnable k).capR j = s.capR j) ∧ (s.capEnable k).f CAP_CFG.EN [k] = 1 ∧ Keeps 0x4004 s (s.capEnable k) := by
  rw [State.capEnable, if_pos h]
  refine ⟨?_, fun j hj => ?_, f_setF_same _ _ _ _ (by decide),
    ((setCap_keeps ..).trans (setCap_keeps ..)).trans (setF_keeps ..)⟩
  · exact (capR_of_cap (State.setF_cap ..) k).trans ((capR_setCap_same ..).trans (by rw [capR_setCap_same]; rfl))
  · exact (capR_of_cap (State.setF_cap ..) j).trans ((capR_setCap_ne _ _ (Ne.symm hj)).trans (capR_setCap_ne _ _ (Ne.symm hj)))

theorem capEnable_refused (h : s.capAdmit k = false) :
    s.capEnable k = ((s.setF CAP_CFG.EN [k] 0).setCap k { s.capR k with enPend := false }).capErr k CAP_STATUS.ADM_REJ HIF_ERR.CFG_REJ := by
  rw [State.capEnable, h]
  rfl

end

section
variable {s : State} {k : Fin 4} {v : Word} {t : Nat} (ho : s.isOpen = true)
include ho

theorem not_shut_CAP_CFG : s.shut .CAP_CFG [k.val] = false := not_shut ho (by decide) (by decide)

theorem exec_captureEnable : exec (.captureEnable k v t) s = .next (doCapCfg k v (s.passTo t)) :=
  congrArg Host.Outcome.next (hostWr_of_not_shut (not_shut_CAP_CFG ho))

theorem exec_captureDisable : exec (.captureDisable k v) s = .next (doCapCfg k v s) :=
  congrArg Host.Outcome.next (hostWr_of_not_shut (not_shut_CAP_CFG ho))

theorem runs_captureEnable (hen : s.fb CAP_CFG.EN [k] = false) (hb : (s.capR k).busy = false) (hv : bit 31 v = true)
    (ha : s.capAdmit k = true) : Runs (.captureEnable k v t) s fun u => u.f CAP_CFG.EN [k.val] = 1 ∧ (u.capR k).active = true
      ∧ (u.capR k).pi = 0 ∧ (u.capR k).ci = 0 ∧ (u.capR k).lost = 0 ∧ ((u.capR k).fifo.map fun x => (x.ty, x.cl)) = [(0x20, 255)]
      ∧ (∀ j, j ≠ k.val → u.capR j = s.capR j) ∧ changesOnly [.regs, .clr, .cap] s u := by
  obtain ⟨hring, hothers, hEN, hk⟩ := capEnable_admitted ((capSized_capAdmit s k v t).trans ha)
  refine .of_eq (exec_captureEnable ho) (doCapCfg_passTo t hv hen hb) ⟨hEN, ?_, ?_, ?_, ?_, ?_,
    fun j hj => (hothers j hj).trans (capSized_passTo_capR ..),
    (((passTo_keeps s t).trans (capSized_keeps ..)).trans hk).changesOnly rfl⟩ <;> rw [hring] <;> rfl

theorem runs_captureEnable_refused (hen : s.fb CAP_CFG.EN [k] = false) (hb : (s.capR k).busy = false) (hv : bit 31 v = true)
    (ha : s.capAdmit k = false) : Runs (.captureEnable k v t) s fun u => u.f CAP_CFG.EN [k.val] = 0
      ∧ u.capR k = { s.capR k with enPend := false } ∧ u.f CAP_STATUS.ADM_REJ [k.val] = 1 ∧ u.f HIF_ERR.CFG_REJ [] = 1 := by
  have he := capErr_noted ((((s.passTo t).capSized k v).setF CAP_CFG.EN [k.val] 0).setCap k
    { ((s.passTo t).capSized k v).capR k with enPend := false }) k (x := CAP_STATUS.ADM_REJ) (y := HIF_ERR.CFG_REJ) rfl (by decide)
    rfl (by decide)
  have hEN := he.regs .CAP_CFG [k.val] (by rw [at_CAP_CFG]; omega)
    (show Reg.CAP_STATUS.at [k.val] ≠ _ by rw [at_CAP_STATUS, at_CAP_CFG]; omega)
  refine .of_eq (exec_captureEnable ho)
    ((doCapCfg_passTo t hv hen hb).trans (capEnable_refused ((capSized_capAdmit s k v t).trans ha))) ⟨?_, ?_, he.bit, he.hifBit⟩
  · rw [f_of_reg (x := CAP_CFG.EN) hEN, f_setCap, f_setF_same _ _ _ _ (by decide)]
    rfl
  · rw [capR_of_cap (he.keeps.frame .cap rfl), capR_setCap_same, capSized_passTo_capR]

theorem runs_captureDisable (hen : s.fb CAP_CFG.EN [k] = true) (hb : (s.capR k).busy = false) (hv : bit 31 v = false) :
    Runs (.captureDisable k v) s fun u => u.f CAP_CFG.EN [k.val] = 0 ∧ u.capR k = { s.capR k with active := false, busy := true }
      ∧ (∀ j, j ≠ k.val → u.capR j = s.capR j) := by
  have hcap := capR_of_cap ((refuseSized_noted s k v).keeps.frame .cap rfl)
  refine .of_eq (exec_captureDisable ho) (doCapCfg_stop hv hen hb) ⟨?_, ?_, fun j hj => ?_⟩
  · rw [f_setCap, f_setF_same _ _ _ _ (by decide)]
    rfl
  · rw [capR_setCap_same, hcap]
  · exact (capR_setCap_ne _ _ (Ne.symm hj)).trans (hcap j)

end

/-! ### Doorbells (R235, R270) -/

/-- Moderation of ring k changes its count and its timer, and sends messages (R256). -/
theorem capSignal_capR (s : State) (k : Nat) : (∃ n b, (s.capSignal k).capR k = { s.capR k with u := n, coalP := b })
    ∧ ∀ j, j ≠ k → (s.capSignal k).capR j = s.capR j := by
  unfold State.capSignal
  extract_lets c
  split
  · have hm := capR_of_cap ((msi_keeps (s.setCap k { c with u := 0, coalP := false }) (s.f CAP_CFG.VEC [k])).frame .cap rfl)
    exact ⟨⟨_, _, (hm k).trans (capR_setCap_same ..)⟩, fun j hj => (hm j).trans (capR_setCap_ne _ _ (Ne.symm hj))⟩
  · exact ⟨⟨_, _, rfl⟩, fun _ _ => rfl⟩

/-- A ring that the host has read up to index n (R270). -/
def CapRing.readTo (c : CapRing) (n : Nat) : CapRing :=
  { c with ci := max n c.oldest, u := c.pi - max n c.oldest, coalP := c.coalP && decide (c.pi - max n c.oldest ≠ 0) }

section
variable {s : State} {k n : Nat} {v : Word} (t : Nat)

theorem doCaptureDoorbell_read (ha : (s.capR k).active = true) (hv : bit 31 v = false) (hn : s.capCi k v = some n) :
    doCaptureDoorbell k v t s = ((s.passTo t).setCap k ((s.capR k).readTo n)).capSignal k := by
  simp only [doCaptureDoorbell, CapRing.readTo, passTo_capR, passTo_capCi, ha, hv, hn, Bool.not_true, Bool.false_eq_true, if_false]

theorem doCaptureDoorbell_refused (ha : (s.capR k).active = false) :
    doCaptureDoorbell k v t s = (s.passTo t).capErr k CAP_STATUS.DB_ERR HIF_ERR.DB_ERR := by
  simp only [doCaptureDoorbell, passTo_capR, ha, Bool.not_false, if_true]
  rfl

end

section
variable {s : State} {k : Fin 4} {n : Nat} {v : Word} {t : Nat}

theorem runs_captureDoorbell (ha : (s.capR k).active = true) (hv : bit 31 v = false) (hn : s.capCi k v = some n) :
    Runs (.captureDoorbell k v t) s fun u => (u.capR k).ci = max n (s.capR k).oldest ∧ (u.capR k).pi = (s.capR k).pi
      ∧ (u.capR k).fifo = (s.capR k).fifo ∧ (∀ j, j ≠ k.val → u.capR j = s.capR j) ∧ changesOnly [.regs, .clr, .hif, .cap] s u := by
  obtain ⟨⟨m, b, hring⟩, hothers⟩ := capSignal_capR ((s.passTo t).setCap k ((s.capR k).readTo n)) k
  rw [capR_setCap_same] at hring
  refine .of_eq (exec_captureDoorbell ..) (doCaptureDoorbell_read t ha hv hn) ⟨by rw [hring]; rfl, by rw [hring]; rfl,
    by rw [hring]; rfl, fun j hj => ?_, (((passTo_keeps s t).trans (setCap_keeps ..)).trans (capSignal_keeps ..)).changesOnly rfl⟩
  rw [hothers j hj, capR_setCap_ne _ _ (Ne.symm hj), passTo_capR]

theorem runs_captureDoorbell_refused (ha : (s.capR k).active = false) : Runs (.captureDoorbell k v t) s fun u =>
    (∀ j, u.capR j = s.capR j) ∧ u.f CAP_STATUS.DB_ERR [k.val] = 1 ∧ u.f HIF_ERR.DB_ERR [] = 1 := by
  have he := capErr_noted (s.passTo t) k (x := CAP_STATUS.DB_ERR) (y := HIF_ERR.DB_ERR) rfl (by decide) rfl (by decide)
  exact .of_eq (exec_captureDoorbell ..) (doCaptureDoorbell_refused t ha)
    ⟨fun j => (capR_of_cap (he.keeps.frame .cap rfl) j).trans (passTo_capR ..), he.bit, he.hifBit⟩

end

/-! ### Records written (R261, R264, R271) -/

/-- The bytes of a record at index i in a ring of n entries (R271). -/
def CapRec.bytes (r : CapRec) (i n : Nat) : List Byte :=
  wordBytes (padW 7 (wd (r.ty + r.cl * 2 ^ 8 + r.item * 2 ^ 16) :: r.time :: r.pl)) ++ leBytes 4 ((i / n + 1) % 65536)

theorem length_CapRec_bytes (r : CapRec) (i n : Nat) : (r.bytes i n).length = 32 := by simp [CapRec.bytes]

/-- The address of the record of index i in a capture ring (R271). -/
def State.capAddr (s : State) (k i : Nat) : Nat := s.ringBase (144 + k) + i % s.capLen k * 32

theorem capPut_hostMem (s : State) (k : Nat) (r : CapRec) : (s.capPut k r).hostMem =
    Memory.putL s.hostMem (s.capAddr k (s.capR k).pi) (r.bytes (s.capR k).pi (s.capLen k)) :=
  (capSignal_keeps ..).frame .hostMem rfl

theorem capPut_capR (s : State) (k : Nat) (r : CapRec) :
    ((s.capPut k r).capR k).fifo = (s.capR k).fifo ∧ ((s.capPut k r).capR k).pi = (s.capR k).pi + 1 := by
  unfold State.capPut
  extract_lets c a d0 lap s1
  obtain ⟨⟨m, b, hring⟩, -⟩ := capSignal_capR (s1.setCap k { c with pi := c.pi + 1, u := c.u + 1 }) k
  rw [hring, capR_setCap_same]
  exact ⟨rfl, rfl⟩

/-- The records staged in a ring have left it. -/
def State.capDrained (s : State) (k : Nat) : State := s.setCap k { s.capR k with fifo := [] }

theorem capWrite_plain {s : State} {k : Nat} (r : CapRec) (hgap : (s.capR k).gapP = none) (hroom : s.capFull k = false) :
    State.capWrite k s r = s.capPut k r := by
  simp only [State.capWrite, hgap, State.capWrite1, hroom, Bool.false_eq_true, if_false]

section
variable {s : State} {k t : Nat} {r : CapRec}

/-- A single record of a frame that has ended leaves the FIFO for memory (R264). -/
theorem doCaptureWrite_single (hq : (s.capR k).fifo = [r]) (hgap : (s.capR k).gapP = none)
    (hend : r.frame < (s.passTo t).clr.now / 1000) (hroom : (s.capR k).pi - max (s.capR k).ci (s.capR k).oldest ≠ s.capLen k) :
    doCaptureWrite k t s = ((s.passTo t).capDrained k).capPut k r := by
  have hfirst : (s.capR k).firstFrame = some r.frame := by rw [CapRing.firstFrame, hq]; rfl
  have hin : (s.capR k).inFrame r.frame = [r] := by simp [CapRing.inFrame, hq, capInsert]
  have hleft : (s.capR k).fifo.filter (fun x => x.frame != r.frame) = [] := by simp [hq]
  have hdue : (s.passTo t).capDue k r.frame = true := by simp [State.capDue, hend]
  have hring : ((s.passTo t).capDrained k).capR k = { s.capR k with fifo := [] } := by
    rw [State.capDrained, capR_setCap_same, passTo_capR]
  have hlen : ((s.passTo t).capDrained k).capLen k = s.capLen k := passTo_congr s t (·.capLen k) fun _ => rfl
  have hfull : ((s.passTo t).capDrained k).capFull k = false := by
    rw [State.capFull, hring, hlen]
    exact decide_eq_false hroom
  have hwrite := capWrite_plain r (s := (s.passTo t).capDrained k) (k := k) (by rw [hring]; exact hgap) hfull
  simp only [doCaptureWrite, passTo_capR, hfirst, hdue, hin, hleft, if_true, List.foldl_cons, List.foldl_nil]
  rw [← hwrite, State.capDrained, passTo_capR]

end

theorem runs_captureWrite {s : State} {k : Fin 4} {t : Nat} {r : CapRec} (hq : (s.capR k).fifo = [r]) (hgap : (s.capR k).gapP = none)
    (hend : r.frame < (s.passTo t).clr.now / 1000) (hw : s.memWf = true)
    (hroom : (s.capR k).pi - max (s.capR k).ci (s.capR k).oldest ≠ s.capLen k) : Runs (.captureWrite k t) s fun u =>
      (u.capR k).fifo = [] ∧ (u.capR k).pi = (s.capR k).pi + 1
      ∧ u.hget (s.ringBase (144 + k) + (s.capR k).pi % s.capLen k * 32) 32 = wordBytes (padW 7 (wd (r.ty + r.cl * 2 ^ 8 + r.item * 2 ^ 16)
          :: r.time :: r.pl)) ++ leBytes 4 (((s.capR k).pi / s.capLen k + 1) % 65536)
      ∧ (∀ a, (a < s.ringBase (144 + k) + (s.capR k).pi % s.capLen k * 32 ∨ s.ringBase (144 + k) + (s.capR k).pi % s.capLen k * 32 + 32 ≤ a) →
          Memory.get u.hostMem a = Memory.get s.hostMem a) ∧ changesOnly [.regs, .clr, .hif, .cap, .hostMem] s u := by
  have hring : ((s.passTo t).capDrained k).capR k = { s.capR k with fifo := [] } := by
    rw [State.capDrained, capR_setCap_same, passTo_capR]
  have hlen : ((s.passTo t).capDrained k).capLen k = s.capLen k := passTo_congr s t (·.capLen k) fun _ => rfl
  have haddr : ((s.passTo t).capDrained k).capAddr k (s.capR k).pi = s.capAddr k (s.capR k).pi :=
    passTo_congr s t (·.capAddr k (s.capR k).pi) fun _ => rfl
  have hmem : (((s.passTo t).capDrained k).capPut k r).hostMem =
      Memory.putL s.hostMem (s.capAddr k (s.capR k).pi) (r.bytes (s.capR k).pi (s.capLen k)) := by
    rw [capPut_hostMem, hring, hlen, haddr]
    exact congrArg (Memory.putL · _ _) (passTo_congr s t (·.hostMem) fun _ => rfl)
  obtain ⟨hfifo, hpi⟩ := capPut_capR ((s.passTo t).capDrained k) k r
  rw [hring] at hfifo hpi
  exact .of_eq (exec_captureWrite ..) (doCaptureWrite_single hq hgap hend hroom) ⟨hfifo, hpi,
    hget_written hw hmem (length_CapRec_bytes ..), get_not_written hmem (length_CapRec_bytes ..),
    (((passTo_keeps s t).trans (setCap_keeps ..)).trans (capPut_keeps ..)).changesOnly rfl⟩

/-! ### Quota windows (R266) -/

/-- What the end of a window sets, and PI. -/
def CapRing.window (c : CapRing) : SMap Nat × SMap Nat × SMap Nat × SMap Nat × Nat × Nat :=
  (c.taken, c.supp, c.takenN, c.suppN, c.winT, c.pi)

theorem stage_window (c : CapRing) (r : CapRec) (t : Word) : (c.stage r t).window = c.window := by
  unfold CapRing.stage
  split <;> rfl

theorem foldl_stage_window (c : CapRing) (l : List CapRec) (t : Word) :
    (l.foldl (fun c r => c.stage r t) c).window = c.window :=
  foldl_rel (R := fun c d : CapRing => d.window = c.window) (fun _ => rfl) (fun h k => k.trans h) (fun c r _ => stage_window c r t) c

/-- The end of its window as an active ring sees it. -/
theorem windowEnd_window {s : State} {k : Nat} (h : (s.capR k).active = true) : ((s.windowEnd k).capR k).window =
    ((s.capR k).takenN, (s.capR k).suppN, [], [], s.clr.now, (s.capR k).pi) := by
  simp only [State.windowEnd, h, Bool.not_true, Bool.false_eq_true, if_false]
  rw [capR_setCap_same, foldl_stage_window]
  rfl

theorem windowEnd_idle {s : State} {k : Nat} (h : (s.capR k).active = false) : s.windowEnd k = s := by
  simp only [State.windowEnd, h, Bool.not_false, if_true]

theorem windowEnd_others (s : State) {j k : Nat} (h : k ≠ j) : (s.windowEnd k).capR j = s.capR j := by
  unfold State.windowEnd
  extract_lets c l
  split
  · rfl
  · exact capR_setCap_ne _ _ h

/-- Each ring has one turn at the end of the windows, and finds itself and network time as they were. -/
theorem windowEnds_turn (s : State) {j : Nat} (hj : j < 4) : ∃ y : State, (y.capR j = s.capR j ∧ y.clr = s.clr)
    ∧ ((List.range 4).foldl State.windowEnd s).capR j = (y.windowEnd j).capR j := by
  obtain ⟨y, hy, hend, -⟩ := foldl_turn (R := fun x y : State => y.capR j = x.capR j ∧ y.clr = x.clr) (fun _ => ⟨rfl, rfl⟩)
    (fun h k => ⟨k.1.trans h.1, k.2.trans h.2⟩) List.nodup_range (List.mem_range.2 hj)
    (fun x b _ hb => ⟨windowEnd_others x hb, (windowEnd_keeps x b).frame .clr rfl⟩) s
  exact ⟨y, hy, hend⟩

section
variable {s : State} {t : Nat}

theorem runs_quotaWindowEnd (ht : t % 1000000 = 0) : Runs (.quotaWindowEnd t) s fun u => changesOnly [.clr, .cap] s u ∧ ∀ j, j < 4 →
    (if (s.capR j).active = true then (u.capR j).taken = (s.capR j).takenN ∧ (u.capR j).supp = (s.capR j).suppN
      ∧ (u.capR j).takenN = [] ∧ (u.capR j).suppN = [] ∧ (u.capR j).winT = (s.passTo t).clr.now
      ∧ (u.capR j).pi = (s.capR j).pi else u.capR j = s.capR j) := by
  refine ⟨_, exec_quotaWindowEnd t s, (doQuotaWindowEnd_keeps t s).changesOnly rfl, fun j hj => ?_⟩
  have hdo : doQuotaWindowEnd t s = (List.range 4).foldl State.windowEnd (s.passTo t) := if_neg (by simp [ht])
  obtain ⟨y, ⟨hring, hclr⟩, hend⟩ := windowEnds_turn (s.passTo t) hj
  rw [passTo_capR] at hring
  rw [hdo, hend]
  split
  case isTrue ha =>
    have hwin := windowEnd_window (s := y) (k := j) (by rw [hring, ha])
    rw [hring, hclr] at hwin
    simpa only [CapRing.window, Prod.mk.injEq] using hwin
  case isFalse ha => rw [windowEnd_idle (by rw [hring]; simpa using ha), hring]

theorem runs_quotaWindowEnd_between (ht : t % 1000000 ≠ 0) : Runs (.quotaWindowEnd t) s fun u => changesOnly [.clr] s u :=
  .of_eq (exec_quotaWindowEnd t s) (if_pos ht) ((passTo_keeps s t).changesOnly rfl)

end

/-! ### The latched index words (R276) and the PCIe link (R225) -/

theorem runs_capIndexLatch {s : State} {k : Fin 4} {old : Bool} (ho : s.isOpen = true) : Runs (.capIndexLatch k old) s fun u =>
    u.rdata = wd (if old then (s.capR k).oldest else (s.capR k).pi)
      ∧ u.capR k = (if old then { s.capR k with latOld := (s.capR k).oldest / 2 ^ 32 } else { s.capR k with latPi := (s.capR k).pi / 2 ^ 32 })
      ∧ (∀ j, j ≠ k.val → u.capR j = s.capR j) ∧ changesOnly [.cap, .rdata] s u := by
  have hk := (doCapIndexLatch_keeps k old s).changesOnly (l := [.cap, .rdata]) rfl
  cases old with
  | true =>
    exact .of_eq (congrArg Host.Outcome.next (hostWr_of_not_shut (not_shut ho (r := .CAP_OLDEST_LO) (by decide) (by decide)))) rfl
      ⟨rfl, capR_setCap_same .., fun j hj => capR_setCap_ne _ _ (Ne.symm hj), hk⟩
  | false =>
    exact .of_eq (congrArg Host.Outcome.next (hostWr_of_not_shut (not_shut ho (r := .CAP_PI_LO) (by decide) (by decide)))) rfl
      ⟨rfl, capR_setCap_same .., fun j hj => capR_setCap_ne _ _ (Ne.symm hj), hk⟩

theorem runs_pcieLinkRetrain {s : State} {rate : Fin 33} {width : Fin 9} (hr : rate.val ∈ [2, 5, 8, 16, 32])
    (hw : width.val ∈ [1, 2, 4, 8]) : Runs (.pcieLinkRetrain rate width) s fun u =>
      u.sys = { s.sys with linkRate := rate.val, linkWidth := width.val } ∧ u.pwr = { s.pwr with off := false }
      ∧ changesOnly [.sys, .pwr] s u := by
  have htrains : thisEndpoint.trains rate width = true :=
    Bool.and_eq_true_iff.2 ⟨List.contains_iff_mem.2 hr, List.contains_iff_mem.2 hw⟩
  have hdo : doPcieLinkRetrain rate width s =
      { s with sys := { s.sys with linkRate := rate, linkWidth := width }, pwr := { s.pwr with off := false } } := if_pos htrains
  exact .of_eq (exec_pcieLinkRetrain ..) hdo ⟨rfl, rfl, hdo ▸ (doPcieLinkRetrain_keeps ..).changesOnly rfl⟩

/-- Settles O41: the start and stop of capture rings, doorbells, a record, the end of a window, the index words, and the link. -/
theorem captureRings : Obligations.CaptureRings := by
  unfold Obligations.CaptureRings
  exact fun s k v t n r old rate width => ⟨runs_captureEnable, runs_captureEnable_refused, runs_captureDisable, runs_captureDoorbell,
    runs_captureDoorbell_refused, runs_captureWrite, runs_quotaWindowEnd, runs_capIndexLatch, runs_pcieLinkRetrain,
    runs_quotaWindowEnd_between⟩

end Sys2Proof.Machine
end

section
/-! PROOF. Staging of firmware images, commits, the log's read, and the confirmation of a slot (O57). -/
namespace Sys2Proof.Machine

theorem exec_fwLoad (s : State) : exec .fwLoad s = .next (doFwLoad s) := rfl
theorem exec_fwCommit (ok : Bool) (s : State) : exec (.fwCommit ok) s = .next (doFwCommit ok s) := rfl
theorem exec_logRead (s : State) : exec .logRead s = .next (doLogRead s) := rfl
theorem exec_stagingTimeout (s : State) : exec .stagingTimeout s = .next (doStagingTimeout s) := rfl
theorem exec_slotConfirm (s : State) : exec .slotConfirm s = .next (doSlotConfirm s) := rfl

/-! ### Flash, events and the descriptor taken -/

/-- Bytes just written to flash are read back. -/
theorem flashGet_of_newest {s : State} {a : Nat} {d : List Byte} {l : List FlashWr} (h : s.prl.flash = ⟨a, d.length, d⟩ :: l) :
    s.flashGet a d.length = d := by
  refine List.ext_getElem (by simp [State.flashGet]) fun i hi hd => ?_
  simp [State.flashGet, State.flashByte, h, hd]

theorem length_getL (m : List Host.Cell) (a n : Nat) : (Memory.getL m a n).length = n := by
  induction n generalizing a with
  | zero => rfl
  | succ n ih => rw [Memory.getL, List.length_cons, ih]

theorem length_hget (s : State) (a n : Nat) : (s.hget a n).length = n := length_getL ..

theorem length_flashGet (s : State) (a n : Nat) : (s.flashGet a n).length = n := by simp [State.flashGet]

/-- A log entry changes the buffer of the log and its count of losses, and nothing else of Prale (R449). -/
theorem logPut_prl (s : State) (kind level code : Nat) (pl : List Word) :
    ∃ b n, (s.logPut kind level code pl).prl = { s.prl with logBuf := b, logLost := n } := by
  unfold State.logPut
  extract_lets p
  split
  · exact ⟨_, _, rfl⟩
  · split
    · exact ⟨_, _, rfl⟩
    · exact ⟨_, _, rfl⟩

/-- So does a firmware event (R456). -/
theorem mgmtEvent_prl (s : State) (sub : Nat) (pl : List Word) :
    ∃ b n, (s.mgmtEvent sub pl).prl = { s.prl with logBuf := b, logLost := n } := by
  obtain ⟨b, n, h⟩ := logPut_prl s 4 (sub % 256) sub pl
  exact ⟨b, n, (Keeps.frame (postRaw_keeps ..) .prl rfl).trans h⟩

/-- The descriptor taken leaves the queue of the delivered ones (R247). -/
theorem takeMgmt_eq {s s1 : State} {op : Nat} {x : Txn} {r : Req} (h : s.takeMgmt op = some (x, r, s1)) :
    ∃ p, s1 = { s with pth := p } := by
  unfold State.takeMgmt at h
  split at h
  · split at h
    · cases h
      exact ⟨_, rfl⟩
    · cases h
  · cases h

/-! ### FW_LOAD (R453) -/

section
variable {s s1 : State} {x : Txn} {r : Req}

theorem doFwLoad_staged (hrun : s.prl.lsHalt = false) (htake : s.takeMgmt 0x10 = some (x, r, s1)) (hown : s.prl.owner ≠ 2)
    (hlen : x.ofs + x.len ≤ slotBytes) (hofs : x.ofs = 0 ∨ x.ofs = s.prl.extent) :
    doFwLoad s = (s1.stageWrite 1 x.ofs (s.hget x.buf x.len)).fillComp r.id (mgmtComp x r 0 (wd x.len) 0) := by
  have hfits : ¬ (slotBytes < x.ofs + x.len ∨ (x.ofs ≠ 0 ∧ x.ofs ≠ s.prl.extent)) := by omega
  simp only [doFwLoad, hrun, htake, hown, hfits, Bool.false_eq_true, if_false]

theorem doFwLoad_owned (hrun : s.prl.lsHalt = false) (htake : s.takeMgmt 0x10 = some (x, r, s1)) (hown : s.prl.owner = 2) :
    doFwLoad s = s1.fillComp r.id (mgmtComp x r 18 0 0) := by
  simp only [doFwLoad, hrun, htake, hown, Bool.false_eq_true, if_false, if_true]

theorem runs_fwLoad (hrun : s.prl.lsHalt = false) (htake : s.takeMgmt 0x10 = some (x, r, s1)) (hown : s.prl.owner ≠ 2)
    (hlen : x.ofs + x.len ≤ slotBytes) (hofs : x.ofs = 0 ∨ x.ofs = s.prl.extent) : Runs .fwLoad s fun u =>
      u.prl.extent = x.ofs + x.len ∧ u.prl.owner = (if x.ofs = 0 then 1 else s.prl.owner) ∧ u.prl.stageAge = 0
      ∧ u.flashGet (flashStage + x.ofs) x.len = s.hget x.buf x.len ∧ u.pth = s1.pth ∧ changesOnly [.pth, .hif, .prl] s u := by
  have heq := doFwLoad_staged hrun htake hown hlen hofs
  have hk := heq ▸ (doFwLoad_keeps s).changesOnly (l := [.pth, .hif, .prl]) rfl
  obtain ⟨p, rfl⟩ := takeMgmt_eq htake
  have hn := length_hget s x.buf x.len
  refine .of_eq (exec_fwLoad s) heq ⟨congrArg (x.ofs + ·) hn, rfl, rfl, ?_, rfl, hk⟩
  have hread := flashGet_of_newest (s := ((({ s with pth := p } : State).stageWrite 1 x.ofs (s.hget x.buf x.len)).fillComp r.id
    (mgmtComp x r 0 (wd x.len) 0))) (a := flashStage + x.ofs) (d := s.hget x.buf x.len) rfl
  rwa [hn] at hread

theorem runs_fwLoad_owned (hrun : s.prl.lsHalt = false) (htake : s.takeMgmt 0x10 = some (x, r, s1)) (hown : s.prl.owner = 2) :
    Runs .fwLoad s fun u => u.pth = s1.pth ∧ changesOnly [.pth, .hif] s u :=
  .of_eq (exec_fwLoad s) (doFwLoad_owned hrun htake hown)
    ⟨rfl, ((takeMgmt_keeps _ _ _ htake).trans (fillComp_keeps ..)).changesOnly rfl⟩

end

/-! ### Commits (R452, R454) -/

/-- From s to u the staged image was committed to the slot that does not run. -/
structure Committed (sw : Bool) (s u : State) : Prop where
  owner : u.prl.owner = 0
  other : (u.prl.slot (!s.prl.runB)).st = (if sw then 2 else 1)
  tries : (u.prl.slot (!s.prl.runB)).tries = (if sw then 3 else 0)
  running : u.prl.slot s.prl.runB = s.prl.slot s.prl.runB
  bootB : u.prl.bootB = (if sw then !s.prl.runB else s.prl.bootB)
  runB : u.prl.runB = s.prl.runB

section
variable {s : State}

theorem slot_setSlot_same (p : Prl) (b : Bool) (x : Slot) : (p.setSlot b x).slot b = x := by cases b <;> rfl

theorem slot_setSlot_not (p : Prl) (b : Bool) (x : Slot) : (p.setSlot (!b) x).slot b = p.slot b := by cases b <;> rfl

/-- Prale with the image x in the slot that does not run, which boots next when sw is set (R454). -/
def Prl.programmed (p : Prl) (sw : Bool) (x : Slot) : Prl :=
  { p.setSlot (!p.runB) x with bootB := if sw then !p.runB else (p.setSlot (!p.runB) x).bootB }

/-- The slot record of the staged image (R454). -/
def State.newSlot (s : State) (sw : Bool) : Slot :=
  ⟨if sw then 2 else 1, if sw then 3 else 0, wd (hdr (s.flashGet flashStage 4096) 8 4), hdr (s.flashGet flashStage 4096) 12 1⟩

/-- The staged image goes to the slot that does not run. -/
def State.programOther (s : State) (sw : Bool) : State :=
  let done := (s.setPrl { s.prl with owner := 0 }).flashPut (slotBase (!s.prl.runB)) slotBytes
    (s.flashGet flashStage (4096 + hdr (s.flashGet flashStage 4096) 16 4))
  done.setPrl (done.prl.programmed sw (s.newSlot sw))

theorem fwCommit_accepted (sw : Bool) (hext : s.prl.extent ≠ 0) (hver : s.verify flashStage s.prl.extent = 0)
    (hst : (s.prl.slot s.prl.runB).st = 3) : s.fwCommit sw true = (0, (s.programOther sw).mgmtEvent 1
      [wd (hdr (s.flashGet flashStage 4096) 8 4), wd (b2n (!s.prl.runB) + 2 * b2n sw)]) := by
  simp only [State.fwCommit, hext, hver, hst, Bool.not_true, Bool.false_eq_true, ne_eq, not_true_eq_false, if_false]
  rfl

theorem slot_setSlot_other (p : Prl) (b : Bool) (x : Slot) : (p.setSlot b x).slot (!b) = p.slot (!b) := by cases b <;> rfl

theorem setSlot_owner (p : Prl) (b : Bool) (x : Slot) : (p.setSlot b x).owner = p.owner := by cases b <;> rfl
theorem setSlot_runB (p : Prl) (b : Bool) (x : Slot) : (p.setSlot b x).runB = p.runB := by cases b <;> rfl
theorem setSlot_bootB (p : Prl) (b : Bool) (x : Slot) : (p.setSlot b x).bootB = p.bootB := by cases b <;> rfl

theorem programOther_committed (s : State) (sw : Bool) : Committed sw s (s.programOther sw) where
  owner := setSlot_owner ..
  other := congrArg Slot.st (slot_setSlot_same ..)
  tries := congrArg Slot.tries (slot_setSlot_same ..)
  running := slot_setSlot_not _ s.prl.runB _
  bootB := congrArg (fun b => if sw then !s.prl.runB else b) (setSlot_bootB ..)
  runB := setSlot_runB ..

/-- A commit is not undone by what touches nothing of Prale but its log. -/
theorem Committed.of_log {sw : Bool} {u v : State} {b : List LogEnt} {n : Nat} (h : Committed sw s u)
    (hv : v.prl = { u.prl with logBuf := b, logLost := n }) : Committed sw s v := by
  obtain ⟨howner, hother, htries, hrunning, hboot, hrunB⟩ := h
  constructor <;> rw [hv] <;> assumption

theorem fwCommit_committed (sw : Bool) (hext : s.prl.extent ≠ 0) (hver : s.verify flashStage s.prl.extent = 0)
    (hst : (s.prl.slot s.prl.runB).st = 3) : (s.fwCommit sw true).1 = 0 ∧ Committed sw s (s.fwCommit sw true).2 := by
  rw [fwCommit_accepted sw hext hver hst]
  obtain ⟨b, n, hlog⟩ := mgmtEvent_prl (s.programOther sw) 1
    [wd (hdr (s.flashGet flashStage 4096) 8 4), wd (b2n (!s.prl.runB) + 2 * b2n sw)]
  exact ⟨rfl, (programOther_committed s sw).of_log hlog⟩

/-- An empty or failing image frees staging, and no more (R454). -/
theorem fwCommit_refused (sw ok : Bool) (h : s.prl.extent = 0 ∨ s.verify flashStage s.prl.extent ≠ 0) :
    (s.fwCommit sw ok).1 ≠ 0 ∧ (s.fwCommit sw ok).2 = s.setPrl { s.prl with owner := 0 } := by
  by_cases hext : s.prl.extent = 0
  · simp [State.fwCommit, hext]
  · have hver : s.verify flashStage s.prl.extent ≠ 0 := h.resolve_left hext
    simp [State.fwCommit, hext, hver]

theorem fwCommit_pth (s : State) (sw ok : Bool) : (s.fwCommit sw ok).2.pth = s.pth := (fwCommit_keeps s sw ok _ rfl).frame .pth rfl

end

section
variable {s s1 : State} {x : Txn} {r : Req} {ok : Bool} (hrun : s.prl.lsHalt = false) (htake : s.takeMgmt 0x11 = some (x, r, s1))
include hrun htake

/-- A commit by its descriptor is answered in its completion (R454). -/
theorem doFwCommit_taken : ∃ d, doFwCommit ok s = (s1.fwCommit x.switch ok).2.fillComp r.id d := by
  simp only [doFwCommit, hrun, htake, Bool.false_eq_true, if_false]
  split <;> exact ⟨_, rfl⟩

theorem runs_fwCommit (hext : s.prl.extent ≠ 0) (hst : (s.prl.slot s.prl.runB).st = 3) : Runs (.fwCommit true) s fun u =>
    s.verify flashStage s.prl.extent = 0 → u.prl.owner = 0 ∧ (u.prl.slot (!s.prl.runB)).st = (if x.switch then 2 else 1)
      ∧ (u.prl.slot (!s.prl.runB)).tries = (if x.switch then 3 else 0) ∧ u.prl.slot s.prl.runB = s.prl.slot s.prl.runB
      ∧ u.prl.bootB = (if x.switch then !s.prl.runB else s.prl.bootB) ∧ u.prl.runB = s.prl.runB ∧ u.pth = s1.pth := by
  obtain ⟨d, heq⟩ := doFwCommit_taken (ok := true) hrun htake
  obtain ⟨p, rfl⟩ := takeMgmt_eq htake
  refine .of_eq (exec_fwCommit true s) heq fun hver => ?_
  obtain ⟨-, howner, hother, htries, hrunning, hboot, hrunB⟩ := fwCommit_committed (s := { s with pth := p }) x.switch hext hver hst
  exact ⟨howner, hother, htries, hrunning, hboot, hrunB, fwCommit_pth ..⟩

theorem runs_fwCommit_refused (h : s.prl.extent = 0 ∨ s.verify flashStage s.prl.extent ≠ 0) : Runs (.fwCommit ok) s fun u =>
    u.prl = { s.prl with owner := 0 } ∧ u.pth = s1.pth := by
  obtain ⟨d, heq⟩ := doFwCommit_taken (ok := ok) hrun htake
  obtain ⟨p, rfl⟩ := takeMgmt_eq htake
  obtain ⟨-, hfree⟩ := fwCommit_refused (s := { s with pth := p }) x.switch ok h
  exact .of_eq (exec_fwCommit ok s) heq ⟨congrArg State.prl hfree, fwCommit_pth ..⟩

end

/-! ### LOG_READ (R450) -/

theorem doLogRead_copied {s s1 : State} {x : Txn} {r : Req} (hrun : s.prl.lsHalt = false) (htake : s.takeMgmt 0x12 = some (x, r, s1))
    (hlen : x.ofs + x.len ≤ logBytes) : doLogRead s = (s1.hput x.buf (s.flashGet (flashLog + x.ofs) x.len)).fillComp r.id
      (mgmtComp x r 0 (wd x.len) (wd s.prl.logOfs)) := by
  simp only [doLogRead, hrun, htake, Nat.not_lt.2 hlen, Bool.false_eq_true, if_false]

theorem runs_logRead {s s1 : State} {x : Txn} {r : Req} (hrun : s.prl.lsHalt = false) (htake : s.takeMgmt 0x12 = some (x, r, s1))
    (hlen : x.ofs + x.len ≤ logBytes) (hw : s.memWf = true) : Runs .logRead s fun u =>
      u.hget x.buf x.len = s.flashGet (flashLog + x.ofs) x.len
        ∧ (∀ a, (a < x.buf ∨ x.buf + x.len ≤ a) → Memory.get u.hostMem a = Memory.get s.hostMem a)
        ∧ u.pth = s1.pth ∧ changesOnly [.pth, .hif, .hostMem] s u := by
  have heq := doLogRead_copied hrun htake hlen
  have hk := ((takeMgmt_keeps _ _ _ htake).trans (hput_keeps s1 x.buf (s.flashGet (flashLog + x.ofs) x.len))).trans
    (fillComp_keeps _ r.id (mgmtComp x r 0 (wd x.len) (wd s.prl.logOfs)))
  obtain ⟨p, rfl⟩ := takeMgmt_eq htake
  exact .of_eq (exec_logRead s) heq ⟨hget_written hw rfl (length_flashGet ..), get_not_written (l := s.flashGet (flashLog + x.ofs) x.len)
    rfl (length_flashGet ..), rfl, hk.changesOnly rfl⟩

/-! ### PRL_STAGE and the timeout (R453) -/

section
variable {s : State} {v : Word}

/-- PRL_STAGE is one of the early registers: only a reset shuts it (R464). -/
theorem not_shut_PRL_STAGE (h : s.inReset = false) : s.shut .PRL_STAGE [] = false := by
  have hmode : s.modeOff .PRL_STAGE = false := modeOff_of_base s (.inl (by decide))
  have hearly : earlyAt (Reg.PRL_STAGE.at []) = true := by decide
  simp [State.shut, h, hmode, hearly]

theorem exec_stageRelease (h : s.inReset = false) : exec (.stageRelease v) s = .next (doPrlStage false v true s) :=
  congrArg Host.Outcome.next (hostWr_of_not_shut (not_shut_PRL_STAGE h))

theorem exec_stageCommit (h : s.inReset = false) (ok : Bool) : exec (.stageCommit v ok) s = .next (doPrlStage true v ok s) :=
  congrArg Host.Outcome.next (hostWr_of_not_shut (not_shut_PRL_STAGE h))

/-- The end of an ownership changes of Prale the owner and the log (R453, R456). -/
theorem stageFree_prl (h : s.prl.owner ≠ 0) (byTime : Bool) :
    ∃ b n, (s.stageFree byTime).prl = { s.prl with owner := 0, logBuf := b, logLost := n } := by
  rw [State.stageFree, if_neg h]
  exact mgmtEvent_prl ..

theorem runs_stageRelease (hr : s.inReset = false) (hown : s.prl.owner ≠ 0) (hv : bit 29 v = true) :
    Runs (.stageRelease v) s fun u => u.prl.owner = 0 ∧ u.prl.extent = s.prl.extent
      ∧ u.prl.slotA = s.prl.slotA ∧ u.prl.slotB = s.prl.slotB ∧ changesOnly [.hif, .prl] s u := by
  have heq : doPrlStage false v true s = s.stageFree false := if_pos hv
  obtain ⟨b, n, hp⟩ := stageFree_prl hown false
  exact .of_eq (exec_stageRelease hr) heq
    ⟨by rw [hp], by rw [hp], by rw [hp], by rw [hp], (stageFree_keeps ..).changesOnly rfl⟩

theorem doPrlStage_commit (hrun : s.prl.lsHalt = false) (hown : s.prl.owner = 2) (hc : bit 28 v = true) (hv : bit 29 v = false)
    (ok : Bool) : doPrlStage true v ok s = (s.fwCommit (bit 27 v) ok).2 := by
  simp [doPrlStage, hrun, hown, hc, hv]

theorem runs_stageCommit (hr : s.inReset = false) (hrun : s.prl.lsHalt = false) (hown : s.prl.owner = 2) (hc : bit 28 v = true)
    (hv : bit 29 v = false) (hext : s.prl.extent ≠ 0) (hst : (s.prl.slot s.prl.runB).st = 3) :
    Runs (.stageCommit v true) s fun u => s.verify flashStage s.prl.extent = 0 → u.prl.owner = 0
      ∧ (u.prl.slot (!s.prl.runB)).st = (if bit 27 v then 2 else 1) ∧ u.prl.slot s.prl.runB = s.prl.slot s.prl.runB
      ∧ u.prl.bootB = (if bit 27 v then !s.prl.runB else s.prl.bootB) ∧ changesOnly [.hif, .prl] s u := by
  refine .of_eq (exec_stageCommit hr true) (doPrlStage_commit hrun hown hc hv true) fun hver => ?_
  obtain ⟨-, howner, hother, -, hrunning, hboot, -⟩ := fwCommit_committed (bit 27 v) hext hver hst
  exact ⟨howner, hother, hrunning, hboot, (fwCommit_keeps s (bit 27 v) true _ rfl).changesOnly rfl⟩

/-- A write that neither commits nor releases does nothing, whether the register takes it or not. -/
theorem runs_stageCommit_ignored {ok : Bool} (hown : s.prl.owner ≠ 2) (hv : bit 29 v = false) :
    Runs (.stageCommit v ok) s fun u => u = s := by
  have hdo : doPrlStage true v ok s = s := by simp [doPrlStage, hown, hv]
  refine ⟨_, rfl, ?_⟩
  rw [State.hostWr, hdo, ite_self]

theorem runs_stagingTimeout (hage : 60000000 ≤ s.prl.stageAge) (hown : s.prl.owner ≠ 0) : Runs .stagingTimeout s fun u =>
    u.prl.owner = 0 ∧ u.prl.extent = s.prl.extent ∧ changesOnly [.hif, .prl] s u := by
  obtain ⟨b, n, hp⟩ := stageFree_prl hown true
  exact .of_eq (exec_stagingTimeout s) (if_pos hage) ⟨by rw [hp], by rw [hp], (stageFree_keeps ..).changesOnly rfl⟩

theorem runs_stagingTimeout_early (hage : s.prl.stageAge < 60000000) : Runs .stagingTimeout s fun u => u = s :=
  .of_eq (exec_stagingTimeout s) (if_neg (Nat.not_le.2 hage)) rfl

/-! ### SLOT_CONFIRM (R455) -/

/-- Prale with its running slot CONFIRMED. -/
def Prl.confirmed (p : Prl) : Prl :=
  { p.setSlot p.runB { p.slot p.runB with st := 3 } with svnFloor := max p.svnFloor (p.slot p.runB).svn }

theorem doSlotConfirm_alive (hr : s.ready = true) (hst : (s.prl.slot s.prl.runB).st = 2) (halive : 60000000 ≤ s.prl.aliveRun) :
    doSlotConfirm s = (s.setPrl s.prl.confirmed).mgmtEvent 2 [(s.prl.slot s.prl.runB).ver, wd (b2n s.prl.runB)] := by
  have hdue : (s.ready && decide ((s.prl.slot s.prl.runB).st = 2) && decide (60000000 ≤ s.prl.aliveRun)) = true := by
    simp [hr, hst, halive]
  exact if_pos hdue

theorem runs_slotConfirm (hr : s.ready = true) (hst : (s.prl.slot s.prl.runB).st = 2) (halive : 60000000 ≤ s.prl.aliveRun) :
    Runs .slotConfirm s fun u => u.prl.slot s.prl.runB = { s.prl.slot s.prl.runB with st := 3 }
      ∧ u.prl.slot (!s.prl.runB) = s.prl.slot (!s.prl.runB)
      ∧ u.prl.svnFloor = max s.prl.svnFloor (s.prl.slot s.prl.runB).svn ∧ changesOnly [.hif, .prl] s u := by
  have heq := doSlotConfirm_alive hr hst halive
  obtain ⟨b, n, hp⟩ := mgmtEvent_prl (s.setPrl s.prl.confirmed) 2 [(s.prl.slot s.prl.runB).ver, wd (b2n s.prl.runB)]
  refine .of_eq (exec_slotConfirm s) heq ⟨?_, ?_, by rw [hp]; rfl, heq ▸ (doSlotConfirm_keeps s).changesOnly rfl⟩
  · rw [hp]
    exact slot_setSlot_same ..
  · rw [hp]
    exact slot_setSlot_other ..

end

/-- Settles O57: staging, commits by descriptor and by PRL_STAGE, the log's read, releases, and the confirmation of a trial. -/
theorem firmwareImages : Obligations.FirmwareImages := by
  unfold Obligations.FirmwareImages
  exact fun s s1 x r v ok => ⟨runs_fwLoad, runs_fwLoad_owned, runs_fwCommit, runs_fwCommit_refused, runs_logRead, runs_stageRelease,
    runs_stageCommit, runs_stageCommit_ignored, runs_stagingTimeout, runs_stagingTimeout_early, runs_slotConfirm⟩

end Sys2Proof.Machine
end

section
/-! PROOF. The commands of the forwarding table (O44). -/
namespace Sys2Proof.Machine

theorem exec_fwdCommandDone (s : State) : exec .fwdCommandDone s = .next (doFwdCommandDone s) := rfl

/-- A write by the access codes stores a field whose bits are all RW (R12). -/
theorem f_wrCodes_rw {x : Fld} {r : Reg} (hr : x.reg = r) (hx : x.lo + x.len ≤ 32)
    (hrw : ∀ i < x.len, r.row.rw.testBit (x.lo + i) = true) (hwc : ∀ i < x.len, r.row.w1c.testBit (x.lo + i) = false)
    (s : State) (ix : List Nat) (v : Word) : (s.wrCodes r ix v).f x ix = fget x.lo x.len v := by
  subst hr
  refine Nat.eq_of_testBit_eq fun i => ?_
  rw [State.f, testBit_fget, testBit_fget]
  by_cases hi : i < x.len
  · have hbit := bit_reg_wrCodes s x.reg ix v (n := x.lo + i) (by omega)
    rw [hrw i hi, hwc i hi] at hbit
    exact congrArg (decide (i < x.len) && ·) hbit
  · rw [decide_eq_false hi, Bool.false_and, Bool.false_and]

/-! ### A command starts or is refused (R289, R464) -/

section
variable {s : State} {v : Word}

theorem fwdStart_busy (h : s.sgf.cmd.isSome = true) (f : State → State) : s.fwdStart v f = s.setF SGF_EVT.CMD_REJ [] 1 := by
  rw [State.fwdStart, if_pos h, raise_of_no_source _ _ rfl]

/-- The state in which a command runs: what the access codes let through has been stored. -/
def State.fwdBegun (s : State) (v : Word) : State := s.wrCodes .SGF_FWD_CMD [] v

@[simp] theorem fwdBegun_sgf : (s.fwdBegun v).sgf = s.sgf := rfl

theorem fwdBegun_reg {r : Reg} {ix : List Nat} (h : Reg.SGF_FWD_CMD.at [] ≠ r.at ix) : (s.fwdBegun v).reg r ix = s.reg r ix :=
  reg_setReg_ne s _ h

@[simp] theorem fwdBegun_res : (s.fwdBegun v).reg .SGF_FWD_RES [] = s.reg .SGF_FWD_RES [] := fwdBegun_reg (by decide)

@[simp] theorem fwdBegun_key : (s.fwdBegun v).fwdKey = s.fwdKey := by
  rw [State.fwdKey, fwdBegun_reg (by decide), f_of_reg (fwdBegun_reg (by decide)), f_of_reg (fwdBegun_reg (by decide)), State.fwdKey]

@[simp] theorem fwdBegun_index : (s.fwdBegun v).f SGF_FWD_CMD.INDEX [] = fget 0 16 v :=
  f_wrCodes_rw rfl (by decide) (by decide) (by decide) s [] v

theorem fwdBegun_keeps : Keeps 0x4 s (s.fwdBegun v) := wrCodes_keeps ..

theorem fwdStart_idle (h : s.sgf.cmd = none) (f : State → State) : s.fwdStart v f = f (s.fwdBegun v) :=
  if_neg (by rw [h]; exact Bool.false_ne_true)

variable (ho : s.isOpen = true)
include ho

theorem not_shut_SGF_FWD_CMD : s.shut .SGF_FWD_CMD [] = false := not_shut ho (.inr (by decide)) nofun

theorem exec_fwdInsert : exec (.fwdInsert v) s = .next (s.fwdStart v fwdInsert) :=
  congrArg Host.Outcome.next (hostWr_of_not_shut (not_shut_SGF_FWD_CMD ho))
theorem exec_fwdDelete : exec (.fwdDelete v) s = .next (s.fwdStart v fwdDelete) :=
  congrArg Host.Outcome.next (hostWr_of_not_shut (not_shut_SGF_FWD_CMD ho))
theorem exec_fwdLookup : exec (.fwdLookup v) s = .next (s.fwdStart v fwdLookup) :=
  congrArg Host.Outcome.next (hostWr_of_not_shut (not_shut_SGF_FWD_CMD ho))
theorem exec_fwdRead : exec (.fwdRead v) s = .next (s.fwdStart v fwdRead) :=
  congrArg Host.Outcome.next (hostWr_of_not_shut (not_shut_SGF_FWD_CMD ho))
theorem exec_fwdClear : exec (.fwdClear v) s = .next (s.fwdStart v fwdClear) :=
  congrArg Host.Outcome.next (hostWr_of_not_shut (not_shut_SGF_FWD_CMD ho))

/-- While a command runs, each of the five does no more than set CMD_REJ (R289). -/
theorem exec_fwdCommand_busy (h : s.sgf.cmd.isSome = true) :
    ∀ c ∈ [Instr.fwdInsert v, .fwdDelete v, .fwdLookup v, .fwdRead v, .fwdClear v], exec c s = .next (s.setF SGF_EVT.CMD_REJ [] 1) := by
  have hrej := fun f => congrArg (Host.Outcome.next (σ := State) (φ := Fault) (ρ := Refusal)) (fwdStart_busy (v := v) h f)
  simp only [List.forall_mem_cons]
  exact ⟨(exec_fwdInsert ho).trans (hrej _), (exec_fwdDelete ho).trans (hrej _), (exec_fwdLookup ho).trans (hrej _),
    (exec_fwdRead ho).trans (hrej _), (exec_fwdClear ho).trans (hrej _), nofun⟩

theorem runs_fwdCommand_busy (h : s.sgf.cmd.isSome = true) :
    ∀ c ∈ [Instr.fwdInsert v, .fwdDelete v, .fwdLookup v, .fwdRead v, .fwdClear v], Runs c s fun u =>
      u.f SGF_EVT.CMD_REJ [] = 1 ∧ otherRegs [Reg.SGF_EVT.at []] s u ∧ changesOnly [.regs] s u := fun c hc =>
  .of_eq (exec_fwdCommand_busy ho h c hc) rfl ⟨f_setF_same _ _ _ _ (by decide), .setF (.head _), (setF_keeps ..).changesOnly rfl⟩

end

/-! ### What a command does to the table (R288, R289) -/

section
variable {s : State} {v : Word} {i r w : Nat} {e : Fwd}

/-- A command that has started leaves the table m, and will show d at its end. -/
def State.fwdEnds (s : State) (v : Word) (m : SMap Fwd) (d : FwdDone) : State :=
  ((s.fwdBegun v).setSgf { s.sgf with fwd := m }).fwdResult d

theorem fwdEnds_keeps (m : SMap Fwd) (d : FwdDone) : Keeps 0x1004 s (s.fwdEnds v m d) :=
  (fwdBegun_keeps.trans (setSgf_keeps ..)).trans (fwdResult_keeps ..)

/-- The entry that INSERT stores. -/
def State.fwdEntry (s : State) : Fwd := ⟨s.fwdKey.1, s.fwdKey.2, (s.reg .SGF_FWD_RES []).toNat % 2 ^ 31⟩

theorem fwdInsert_present (h : s.sgf.fwdFind s.fwdKey.1 s.fwdKey.2 = some (i, r)) :
    fwdInsert (s.fwdBegun v) = s.fwdEnds v (sset s.sgf.fwd i s.fwdEntry) ⟨3, some i, none, none⟩ := by
  simp only [fwdInsert, fwdBegun_key, fwdBegun_sgf, fwdBegun_res, h]
  rfl

theorem fwdInsert_free (h : s.sgf.fwdFind s.fwdKey.1 s.fwdKey.2 = none)
    (hw : (List.range 4).find? (fun n => (sfind s.sgf.fwd (fwdBucket s.fwdKey.1 s.fwdKey.2 * 4 + n)).isNone) = some w) :
    fwdInsert (s.fwdBegun v) = s.fwdEnds v (sset s.sgf.fwd (fwdBucket s.fwdKey.1 s.fwdKey.2 * 4 + w) s.fwdEntry)
      ⟨0, some (fwdBucket s.fwdKey.1 s.fwdKey.2 * 4 + w), none, none⟩ := by
  simp only [fwdInsert, fwdBegun_key, fwdBegun_sgf, fwdBegun_res, h, hw]
  rfl

theorem fwdInsert_full (h : s.sgf.fwdFind s.fwdKey.1 s.fwdKey.2 = none)
    (hw : (List.range 4).find? (fun n => (sfind s.sgf.fwd (fwdBucket s.fwdKey.1 s.fwdKey.2 * 4 + n)).isNone) = none) :
    fwdInsert s = (s.noWay.2.setF SGF_EVT.FWD_FULL [] 1).fwdResult ⟨2, some s.noWay.1, none, none⟩ := by
  simp only [fwdInsert, h, hw, raise_of_no_source _ _ (show icOf SGF_EVT.FWD_FULL.reg = none from rfl)]

theorem fwdDelete_present (h : s.sgf.fwdFind s.fwdKey.1 s.fwdKey.2 = some (i, r)) :
    fwdDelete (s.fwdBegun v) = s.fwdEnds v (sdel s.sgf.fwd i) ⟨0, none, none, none⟩ := by
  simp only [fwdDelete, fwdBegun_key, fwdBegun_sgf, h]
  rfl

theorem fwdDelete_absent (h : s.sgf.fwdFind s.fwdKey.1 s.fwdKey.2 = none) :
    fwdDelete (s.fwdBegun v) = s.fwdEnds v s.sgf.fwd ⟨1, none, none, none⟩ := by
  simp only [fwdDelete, fwdBegun_key, fwdBegun_sgf, h]
  rfl

theorem fwdLookup_present (h : s.sgf.fwdFind s.fwdKey.1 s.fwdKey.2 = some (i, r)) :
    fwdLookup (s.fwdBegun v) = s.fwdEnds v s.sgf.fwd ⟨0, some i, some (wd (2 ^ 31 + r)), none⟩ := by
  simp only [fwdLookup, fwdBegun_key, fwdBegun_sgf, h]
  rfl

theorem fwdLookup_absent (h : s.sgf.fwdFind s.fwdKey.1 s.fwdKey.2 = none) :
    fwdLookup s = s.noWay.2.fwdResult ⟨1, some s.noWay.1, some (s.reg .SGF_FWD_RES [] &&& wd 0x7FFFFFFF), none⟩ := by
  simp only [fwdLookup, h]

theorem fwdRead_occupied (h : sfind s.sgf.fwd (fget 0 16 v) = some e) :
    fwdRead (s.fwdBegun v) = s.fwdEnds v s.sgf.fwd
      ⟨0, none, some (wd (2 ^ 31 + e.res)), some (wd e.da, wd (e.vid * 2 ^ 16 + e.da / 2 ^ 32))⟩ := by
  simp only [fwdRead, fwdBegun_index, fwdBegun_sgf, h]
  rfl

theorem fwdClear_empties : fwdClear (s.fwdBegun v) = s.fwdEnds v [] ⟨0, none, none, none⟩ := rfl

/-- A command whose operation ends so changes no more of the switch than the table and the result it will show. -/
theorem runs_fwdEnds {c : Instr} {f : State → State} {m : SMap Fwd} {d : FwdDone} (hexec : exec c s = .next (s.fwdStart v f))
    (hidle : s.sgf.cmd = none) (h : f (s.fwdBegun v) = s.fwdEnds v m d) :
    Runs c s fun u => u.sgf = { s.sgf with fwd := m, cmd := some d } ∧ changesOnly [.regs, .sgf] s u :=
  .of_eq hexec ((fwdStart_idle hidle f).trans h) ⟨rfl, (fwdEnds_keeps m d).changesOnly rfl⟩

/-- A way of a full bucket is a free value, and no part but its number changes. -/
theorem noWay_begun_keeps : Keeps 0x200004 s (s.fwdBegun v).noWay.2 := fwdBegun_keeps.trans (noWay_keeps _ _ rfl)

variable (ho : s.isOpen = true) (hidle : s.sgf.cmd = none)
include ho hidle

theorem runs_fwdInsert_full (h : s.sgf.fwdFind s.fwdKey.1 s.fwdKey.2 = none)
    (hw : (List.range 4).find? (fun n => (sfind s.sgf.fwd (fwdBucket s.fwdKey.1 s.fwdKey.2 * 4 + n)).isNone) = none) :
    Runs (.fwdInsert v) s fun u => u.sgf.fwd = s.sgf.fwd ∧ u.sgf.cmd.map FwdDone.result = some 2
      ∧ u.f SGF_EVT.FWD_FULL [] = 1 ∧ changesOnly [.regs, .sgf, .freeN] s u :=
  .of_eq (exec_fwdInsert ho) ((fwdStart_idle hidle fwdInsert).trans
      (fwdInsert_full (s := s.fwdBegun v) (by rwa [fwdBegun_key]) (by rwa [fwdBegun_key])))
    ⟨rfl, rfl, f_setF_same (s.fwdBegun v).noWay.2 _ _ _ (by decide),
      ((noWay_begun_keeps.trans (setF_keeps ..)).trans (fwdResult_keeps ..)).changesOnly rfl⟩

theorem runs_fwdLookup_absent (h : s.sgf.fwdFind s.fwdKey.1 s.fwdKey.2 = none) :
    Runs (.fwdLookup v) s fun u => u.sgf.fwd = s.sgf.fwd ∧ u.sgf.cmd.map FwdDone.result = some 1
      ∧ changesOnly [.regs, .sgf, .freeN] s u :=
  .of_eq (exec_fwdLookup ho) ((fwdStart_idle hidle fwdLookup).trans (fwdLookup_absent (s := s.fwdBegun v) (by rwa [fwdBegun_key])))
    ⟨rfl, rfl, (noWay_begun_keeps.trans (fwdResult_keeps ..)).changesOnly rfl⟩

end

/-! ### The end of a command (R289, R309) -/

/-- INDEX shows where the command has one. -/
def State.showIndex (s : State) (o : Option Nat) : State :=
  match o with
  | some i => s.setF SGF_FWD_CMD.INDEX [] i
  | none => s

/-- The result word shows where the command has one. -/
def State.showRes (s : State) (o : Option Word) : State :=
  match o with
  | some w => s.setReg .SGF_FWD_RES [] w
  | none => s

/-- The key words show where the command has them. -/
def State.showKey (s : State) (o : Option (Word × Word)) : State :=
  match o with
  | some k => (s.setReg .SGF_FWD_KEY0 [] k.1).setReg .SGF_FWD_KEY1 [] k.2
  | none => s

/-- BUSY clears, and RESULT shows. -/
def State.showResult (s : State) (n : Nat) : State := (s.setSgf { s.sgf with cmd := none }).setF SGF_FWD_CMD.RESULT [] n

section
variable (s : State)

theorem showIndex_otherRegs (o : Option Nat) : otherRegs [Reg.SGF_FWD_CMD.at []] s (s.showIndex o) := by
  cases o with
  | none => exact .refl
  | some i => exact .setF (.head _)

theorem showRes_otherRegs (o : Option Word) : otherRegs [Reg.SGF_FWD_RES.at []] s (s.showRes o) := by
  cases o with
  | none => exact .refl
  | some w => exact .setReg (.head _)

theorem showKey_otherRegs (o : Option (Word × Word)) :
    otherRegs [Reg.SGF_FWD_KEY0.at [], Reg.SGF_FWD_KEY1.at []] s (s.showKey o) := by
  cases o with
  | none => exact .refl
  | some k => exact .trans (.setReg (.head _)) (.setReg (.tail _ (.head _)))

theorem showIndex_keeps (o : Option Nat) : Keeps 0x4 s (s.showIndex o) := by
  cases o with
  | none => exact .refl
  | some i => exact setF_keeps ..

theorem showRes_keeps (o : Option Word) : Keeps 0x4 s (s.showRes o) := by
  cases o with
  | none => exact .refl
  | some w => exact setReg_keeps ..

theorem showKey_keeps (o : Option (Word × Word)) : Keeps 0x4 s (s.showKey o) := by
  cases o with
  | none => exact .refl
  | some k => exact (setReg_keeps ..).trans (setReg_keeps ..)

theorem showResult_keeps (n : Nat) : Keeps 0x1004 s (s.showResult n) := (setSgf_keeps ..).trans (setF_keeps ..)

theorem showIndex_result (o : Option Nat) : (s.showIndex o).f SGF_FWD_CMD.RESULT [] = s.f SGF_FWD_CMD.RESULT [] := by
  cases o with
  | none => rfl
  | some i => exact f_setF_beside s [] i rfl (by decide) (by decide)

/-- The result word and the key lie outside SGF_FWD_CMD. -/
theorem shown_command (x : Fld) (hx : x.reg = .SGF_FWD_CMD) (o : Option Word) (k : Option (Word × Word)) :
    ((s.showRes o).showKey k).f x [] = s.f x [] := by
  rw [f_of_otherRegs (showKey_otherRegs _ k) ((showKey_keeps ..).stage rfl) (by rw [hx]; decide),
    f_of_otherRegs (showRes_otherRegs _ o) ((showRes_keeps ..).stage rfl) (by rw [hx]; decide)]

end

section
variable {s : State} {d : FwdDone} (h : s.sgf.cmd = some d)
include h

theorem doFwdCommandDone_shows :
    doFwdCommandDone s = (((s.showResult d.result).showIndex d.index).showRes d.res).showKey d.key := by
  simp only [doFwdCommandDone, h]
  rfl

theorem runs_fwdCommandDone (hr : d.result < 16) : Runs .fwdCommandDone s fun u => u.sgf = { s.sgf with cmd := none }
      ∧ u.f SGF_FWD_CMD.RESULT [] = d.result ∧ (∀ n, d.index = some n → n < 65536 → u.f SGF_FWD_CMD.INDEX [] = n)
      ∧ (∀ z, d.res = some z → u.reg .SGF_FWD_RES [] = z)
      ∧ (∀ z, d.key = some z → u.reg .SGF_FWD_KEY0 [] = z.1 ∧ u.reg .SGF_FWD_KEY1 [] = z.2)
      ∧ otherRegs [Reg.SGF_FWD_CMD.at [], Reg.SGF_FWD_RES.at [], Reg.SGF_FWD_KEY0.at [], Reg.SGF_FWD_KEY1.at []] s u
      ∧ changesOnly [.regs, .sgf] s u := by
  have hi := showIndex_keeps (s.showResult d.result) d.index
  have hw := showRes_keeps ((s.showResult d.result).showIndex d.index) d.res
  have hk := showKey_keeps (((s.showResult d.result).showIndex d.index).showRes d.res) d.key
  refine .of_eq (exec_fwdCommandDone s) (doFwdCommandDone_shows h) ⟨?_, ?_, fun n hn hlt => ?_, fun z hz => ?_, fun z hz => ?_, ?_,
    (((showResult_keeps s d.result).trans hi).trans (hw.trans hk)).changesOnly rfl⟩
  · exact (hk.frame .sgf rfl).trans ((hw.frame .sgf rfl).trans (hi.frame .sgf rfl))
  · rw [shown_command _ _ rfl, showIndex_result]
    exact (f_setF_same _ _ _ _ (by decide)).trans (Nat.mod_eq_of_lt hr)
  · rw [shown_command _ _ rfl, hn]
    exact (f_setF_same _ _ _ _ (by decide)).trans (Nat.mod_eq_of_lt hlt)
  · rw [reg_of_otherRegs (showKey_otherRegs _ _) (hk.stage rfl) (by decide), hz]
    exact reg_setReg_same ..
  · rw [hz]
    exact ⟨(reg_setReg_ne _ _ (by decide)).trans (reg_setReg_same ..), reg_setReg_same ..⟩
  · have hresult : otherRegs [Reg.SGF_FWD_CMD.at []] s (s.showResult d.result) := .trans (.of_regs rfl) (.setF (.head _))
    exact .trans (.mono (hresult.trans (showIndex_otherRegs _ _)) (by simp))
      (.trans (.mono (showRes_otherRegs _ _) (by simp)) (.mono (showKey_otherRegs _ _) (by simp)))

end

/-- Settles O44: a refused command, the five commands case by case, and what the end of a command shows. -/
theorem forwardingCommands : Obligations.ForwardingCommands := by
  unfold Obligations.ForwardingCommands
  refine fun s v i r w e d => ⟨runs_fwdCommand_busy, fun ho hidle he => ?_, runs_fwdCommandDone⟩
  obtain rfl : e = s.fwdEntry := he
  exact ⟨fun h => runs_fwdEnds (exec_fwdInsert ho) hidle (fwdInsert_present h),
    fun h hw hi => hi ▸ runs_fwdEnds (exec_fwdInsert ho) hidle (fwdInsert_free h hw),
    runs_fwdInsert_full ho hidle,
    fun h => runs_fwdEnds (exec_fwdDelete ho) hidle (fwdDelete_present h),
    fun h => runs_fwdEnds (exec_fwdDelete ho) hidle (fwdDelete_absent h),
    fun h => runs_fwdEnds (exec_fwdLookup ho) hidle (fwdLookup_present h),
    runs_fwdLookup_absent ho hidle,
    fun h => runs_fwdEnds (exec_fwdRead ho) hidle (fwdRead_occupied h),
    runs_fwdEnds (exec_fwdClear ho) hidle fwdClear_empties⟩

end Sys2Proof.Machine
end

section
/-! PROOF. The rules of the switch: its sparse tables, and what each of its operations leaves of the ports, the copies, the frames
that arrive and the registers (R281, R293, R303, R304, R311). -/
namespace Sys2Proof.Machine

/-! ### Sparse tables -/

theorem sfind_sset_same {α : Type} (m : SMap α) (a : Nat) (v : α) : sfind (sset m a v) a = some v := by
  induction m with
  | nil => simp [sset, sfind]
  | cons p m ih =>
    obtain ⟨k, w⟩ := p
    unfold sset
    split
    · simp [sfind]
    · split
      · next h => simp [sfind, h]
      · next h => rw [sfind, if_neg (Ne.symm h), ih]

theorem sfind_sdel_same {α : Type} (m : SMap α) (a : Nat) : sfind (sdel m a) a = none := by
  induction m with
  | nil => rfl
  | cons p m ih =>
    obtain ⟨k, w⟩ := p
    by_cases h : k = a
    · rwa [sdel, List.filter_cons_of_neg (by simpa using h)]
    · rwa [sdel, List.filter_cons_of_pos (by simpa using h), sfind, if_neg h]

/-! ### Ports (R281) -/

section
variable {s u : State}

theorem spPort_of_ports (h : u.sgf.ports = s.sgf.ports) (q : Nat) : u.spPort q = s.spPort q := by
  rw [State.spPort, h, State.spPort]

@[simp] theorem passTo_spPort (s : State) (t q : Nat) : (s.passTo t).spPort q = s.spPort q := spPort_of_ports (by rw [passTo_sgf]) q

@[simp] theorem spPort_setSpPort_same (s : State) (p : Nat) (x : SpPort) : (s.setSpPort p x).spPort p = x := sget_sset_same ..

theorem spPort_setSpPort_ne (s : State) {p q : Nat} (x : SpPort) (h : q ≠ p) : (s.setSpPort p x).spPort q = s.spPort q :=
  sget_sset_ne _ _ _ h.symm

end

/-! ### Frames and copies that leave (R293, R304) -/

section
variable (s : State)

theorem polRest_sgf (d : Option (Nat × Bool × Bool)) (n : Nat) :
    ∃ a b, (s.polRest d n).sgf = { s.sgf with pol := a, polOld := b } := by
  cases d with
  | none => exact ⟨_, _, rfl⟩
  | some x => exact ⟨_, _, rfl⟩

/-- Cells freed: of the switch, frames without a copy leave, and policers are charged. -/
theorem reap_sgf : ∃ a b, s.reap.sgf = { s.sgf with
    pol := a, polOld := b, frames := s.sgf.frames.filter fun f => s.sgf.copies.any fun c => c.fid == f.id } := by
  unfold State.reap
  extract_lets gone s1 g done
  have hcharged : ∃ a b, s1.sgf = { s.sgf with pol := a, polOld := b } := by
    refine foldl_keeps (fun u : State => ∃ a b, u.sgf = { s.sgf with pol := a, polOld := b }) ⟨_, _, rfl⟩ fun u f hu => ?_
    obtain ⟨a, b, hu⟩ := hu
    split
    · exact ⟨a, b, hu⟩
    · obtain ⟨a', b', h⟩ := polRest_sgf u f.pol (u.gotBytes f)
      exact ⟨a', b', by rw [h, hu]⟩
  obtain ⟨a, b, h⟩ := hcharged
  exact ⟨a, b, by simp only [g, h]; rfl⟩

@[simp] theorem reap_copies : s.reap.sgf.copies = s.sgf.copies := by obtain ⟨a, b, h⟩ := reap_sgf s; rw [h]
@[simp] theorem reap_ports : s.reap.sgf.ports = s.sgf.ports := by obtain ⟨a, b, h⟩ := reap_sgf s; rw [h]
@[simp] theorem reap_rx : s.reap.sgf.rx = s.sgf.rx := by obtain ⟨a, b, h⟩ := reap_sgf s; rw [h]
@[simp] theorem reap_wire : s.reap.sgf.wire = s.sgf.wire := by obtain ⟨a, b, h⟩ := reap_sgf s; rw [h]

theorem mem_reap_frames {f : Frm} {c : Cpy} (hf : f ∈ s.sgf.frames) (hc : c ∈ s.sgf.copies) (h : c.fid = f.id) :
    f ∈ s.reap.sgf.frames := by
  obtain ⟨a, b, hs⟩ := reap_sgf s
  rw [hs]
  exact List.mem_filter.2 ⟨hf, List.any_eq_true.2 ⟨c, hc, beq_iff_eq.2 h⟩⟩

@[simp] theorem polRest_ports (d : Option (Nat × Bool × Bool)) (n : Nat) : (s.polRest d n).sgf.ports = s.sgf.ports := by
  obtain ⟨a, b, h⟩ := polRest_sgf s d n
  rw [h]

@[simp] theorem polRest_rx (d : Option (Nat × Bool × Bool)) (n : Nat) : (s.polRest d n).sgf.rx = s.sgf.rx := by
  obtain ⟨a, b, h⟩ := polRest_sgf s d n
  rw [h]

/-- A shaper that is charged changes nothing else of the switch (R316). -/
theorem shpCharge_sgf (o c n : Nat) : ∃ a, (s.shpCharge o c n).sgf = { s.sgf with shp := a } := by
  unfold State.shpCharge
  extract_lets t x lo u
  split <;> exact ⟨_, rfl⟩

/-- A frame that failed takes with it the copies that are not cut through (R304). -/
theorem failFrm_copies (id : Nat) (l : List Byte) :
    (s.failFrm id l).sgf.copies = s.sgf.copies.filter fun c => !(c.fid == id && !c.ct) := reap_copies _
@[simp] theorem failFrm_ports (id : Nat) (l : List Byte) : (s.failFrm id l).sgf.ports = s.sgf.ports := reap_ports _
@[simp] theorem failFrm_rx (id : Nat) (l : List Byte) : (s.failFrm id l).sgf.rx = s.sgf.rx := reap_rx _

/-- An event of the switch is no interrupt source: it writes its bit (R437). -/
theorem raise_keeps_regs {x : Fld} (ix : List Nat) (h : icOf x.reg = none) : Keeps 0x4 s (s.raise x ix) := by
  rw [raise_of_no_source s ix h]
  exact setF_keeps ..

@[simp] theorem raise_sgf (x : Fld) (ix : List Nat) : (s.raise x ix).sgf = s.sgf := (raise_keeps ..).frame .sgf rfl

end

/-! ### Places of registers (R310, R311) -/

theorem at_SP_EVT (p : Nat) : Reg.SP_EVT.at [p] = 0x41000c + 0x100 * p := rfl

theorem spEvt_lt (p : Fin 64) : Reg.SP_EVT.at [p.val] < 0x40000400 := by
  rw [at_SP_EVT]
  omega

theorem spEvt_ne_spCnt (p q k : Nat) (hk : k < 13) : Reg.SP_EVT.at [p] ≠ Reg.SP_CNT.at [q, k] := by
  rw [at_SP_EVT, at_SP_CNT]
  omega

theorem spCnt_ne {p q j k : Nat} (hj : j < 13) (hk : k < 13) (h : j ≠ k) : Reg.SP_CNT.at [p, j] ≠ Reg.SP_CNT.at [q, k] := by
  rw [at_SP_CNT, at_SP_CNT]
  omega

/-! ### Flushes (R281, R283, R305) -/

section
variable (s : State)

/-- Each copy that is flushed counts at its output (R311). -/
def State.flushCounted (s : State) (l : List Cpy) : State :=
  l.foldl (fun s c => (s.spCount c.out 9).modFrm c.fid fun f => { f with flushed := true }) s

theorem flush_eq (sel : Cpy → Bool) : s.flush sel = ((s.flushCounted (s.sgf.copies.filter sel)).dropCpy sel).reap := rfl

theorem flushCounted_sgf (l : List Cpy) : ∃ fr, (s.flushCounted l).sgf = { s.sgf with frames := fr } :=
  foldl_keeps (fun u : State => ∃ fr, u.sgf = { s.sgf with frames := fr }) ⟨_, rfl⟩ fun u c hu => by
    obtain ⟨fr, hu⟩ := hu
    exact ⟨_, congrArg (fun g : Sgf => { g with
      frames := u.sgf.frames.map fun x : Frm => if x.id = c.fid then { x with flushed := true } else x }) hu⟩

theorem flushCounted_otherRegs {m : List Nat} {l : List Cpy} (h : ∀ c ∈ l, Reg.SP_CNT.at [c.out, 9] ∈ m) :
    otherRegs m s (s.flushCounted l) := by
  induction l generalizing s with
  | nil => exact .refl
  | cons c l ih => exact .trans (.trans (.bump (h c (.head _))) (.of_regs rfl)) (ih _ fun x hx => h x (.tail _ hx))

/-- A flush removes its copies, and frames that have none left; it charges policers, and no more of the switch changes. -/
theorem flush_sgf (sel : Cpy → Bool) : ∃ fr a b, (s.flush sel).sgf =
    { s.sgf with frames := fr, pol := a, polOld := b, copies := s.sgf.copies.filter fun c => !sel c } := by
  obtain ⟨fr, hc⟩ := flushCounted_sgf s (s.sgf.copies.filter sel)
  obtain ⟨a, b, hr⟩ := reap_sgf ((s.flushCounted (s.sgf.copies.filter sel)).dropCpy sel)
  exact ⟨_, a, b, by rw [flush_eq, hr, State.dropCpy, State.setSgf_sgf, hc]⟩

theorem flush_otherRegs {m : List Nat} {sel : Cpy → Bool} (h : ∀ c, sel c = true → Reg.SP_CNT.at [c.out, 9] ∈ m) :
    otherRegs m s (s.flush sel) :=
  .trans (flushCounted_otherRegs s fun c hc => h c (List.mem_filter.1 hc).2) (.of_regs ((reap_keeps _).frame .regs rfl))

variable (o : Nat)

theorem flushOut_sgf : ∃ fr a b, (s.flushOut o).sgf =
    { s.sgf with frames := fr, pol := a, polOld := b, copies := s.sgf.copies.filter fun c => !s.queuedTo o c } := by
  obtain ⟨fr, a, b, h⟩ := flush_sgf s (s.queuedTo o)
  unfold State.flushOut
  split
  · split
    · exact ⟨fr, a, b, h⟩
    · exact ⟨fr, a, b, (raise_sgf ..).trans h⟩
  · next hnone =>
    have hall : (s.sgf.copies.filter fun c => !s.queuedTo o c) = s.sgf.copies := by
      simpa [List.filter_eq_self] using hnone
    exact ⟨_, _, _, by rw [hall]⟩

@[simp] theorem flushOut_spPort (q : Nat) : (s.flushOut o).spPort q = s.spPort q :=
  spPort_of_ports (by obtain ⟨fr, a, b, h⟩ := flushOut_sgf s o; rw [h]) q

@[simp] theorem flushOut_rx : (s.flushOut o).sgf.rx = s.sgf.rx := by
  obtain ⟨fr, a, b, h⟩ := flushOut_sgf s o
  rw [h]

/-- Behind a flush an output has no copy but the one that it is sending. -/
theorem tx_of_mem_flushOut {c : Cpy} (hc : c ∈ (s.flushOut o).sgf.copies) (ho : c.out = o) : (s.spPort o).tx = some c.fid := by
  obtain ⟨fr, a, b, h⟩ := flushOut_sgf s o
  rw [h] at hc
  simpa [State.queuedTo, ho] using (List.mem_filter.1 hc).2

theorem flushOut_otherRegs : otherRegs [Reg.SP_CNT.at [o, 9], Reg.SP_EVT.at [o]] s (s.flushOut o) := by
  have hflush : otherRegs [Reg.SP_CNT.at [o, 9], Reg.SP_EVT.at [o]] s (s.flush (s.queuedTo o)) := flush_otherRegs s fun c hc => by
    have hout : c.out = o := by
      simp only [State.queuedTo, Bool.and_eq_true, beq_iff_eq] at hc
      exact hc.1
    rw [hout]
    exact .head _
  unfold State.flushOut
  split
  · extract_lets s1
    split
    · exact hflush
    · rw [raise_of_no_source _ _ rfl]
      exact hflush.trans (.setF (.tail _ (.head _)))
  · exact .refl

theorem flushOut_keeps_prl : Keeps 0x3004 s (s.flushOut o) := by
  unfold State.flushOut
  split
  · extract_lets s1
    exact .ite (flush_keeps ..) ((raise_keeps_regs _ _ rfl).step (flush_keeps ..) rfl)
  · exact .refl

end

/-! ### Frames that arrive (R303, R304) -/

section
variable (s : State) (p : Nat) (rest : List Byte)

@[simp] theorem dropRx_ports : (s.dropRx p rest).sgf.ports = s.sgf.ports := by
  unfold State.dropRx
  split
  · rfl
  · extract_lets g s1 l
    split
    · rw [failFrm_ports, polRest_ports]
      rfl
    · rfl

/-- A frame that goes no further no longer arrives. -/
theorem dropRx_gone : sfind (s.dropRx p rest).sgf.rx p = none := by
  unfold State.dropRx
  split
  · next h => exact h
  · extract_lets g s1 l
    have hgone : sfind s1.sgf.rx p = none := sfind_sdel_same ..
    split
    · rwa [failFrm_rx, polRest_rx]
    · exact hgone

@[simp] theorem cutRx_ports : (s.cutRx p rest).sgf.ports = s.sgf.ports := by
  unfold State.cutRx
  split
  · rfl
  · split <;> exact dropRx_ports ..

theorem cutRx_gone : sfind (s.cutRx p rest).sgf.rx p = none := by
  unfold State.cutRx
  split
  · next h => exact h
  · split <;> exact dropRx_gone ..

theorem cutRx_otherRegs : otherRegs [Reg.SP_CNT.at [p, 1]] s (s.cutRx p rest) := by
  have hdrop : ∀ u : State, otherRegs [Reg.SP_CNT.at [p, 1]] u (u.dropRx p rest) := fun u => .of_regs ((dropRx_keeps ..).frame .regs rfl)
  unfold State.cutRx
  split
  · exact .refl
  · split
    · exact hdrop s
    · exact .trans (.bump (.head _)) (hdrop _)

@[simp] theorem restNow_sgf : (s.restNow p).2.sgf = s.sgf := (restNow_keeps s p _ rfl).frame .sgf rfl

end

/-! ### Transmissions that are cut (R281, R311, R316) -/

section
variable (s : State) (o n : Nat)

theorem endTx_ports {id : Nat} (h : (s.spPort o).tx = some id) :
    (s.endTx o n).sgf.ports = sset s.sgf.ports o { s.spPort o with tx := none } := by
  simp only [State.endTx, h]
  split
  · next c f _ _ =>
    obtain ⟨a, ha⟩ := shpCharge_sgf (s.setSpPort o { s.spPort o with tx := none }) o c.cls
      (min n (if f.whole then f.bytes.length else 9216))
    rw [ha]
    rfl
  · rfl

theorem cutTx_idle (h : (s.spPort o).tx = none) : s.cutTx o n = s := by simp only [State.cutTx, h]

theorem cutTx_sending {id : Nat} (h : (s.spPort o).tx = some id) :
    s.cutTx o n = (((s.endTx o n).spCount o 11).dropCpy fun x => x.fid == id && x.out == o).reap := by simp only [State.cutTx, h]

theorem cutTx_ports {id : Nat} (h : (s.spPort o).tx = some id) :
    (s.cutTx o n).sgf.ports = sset s.sgf.ports o { s.spPort o with tx := none } := by
  rw [cutTx_sending s o n h, reap_ports]
  exact endTx_ports s o n h

theorem cutTx_spPort_same : (s.cutTx o n).spPort o = { s.spPort o with tx := none } := by
  cases h : (s.spPort o).tx with
  | none => rw [cutTx_idle s o n h, ← h]
  | some id => rw [State.spPort, cutTx_ports s o n h, sget_sset_same]

theorem cutTx_spPort_ne {q : Nat} (hq : q ≠ o) : (s.cutTx o n).spPort q = s.spPort q := by
  cases h : (s.spPort o).tx with
  | none => rw [cutTx_idle s o n h]
  | some id => rw [State.spPort, cutTx_ports s o n h, sget_sset_ne _ _ _ hq.symm, State.spPort]

/-- A transmission that is cut counts in TX_ABORT (R311). -/
theorem cutTx_count (h : (s.spPort o).tx.isSome = true) : (s.cutTx o n).reg .SP_CNT [o, 11] = satInc (s.reg .SP_CNT [o, 11]) 1 := by
  obtain ⟨id, hid⟩ := Option.isSome_iff_exists.1 h
  have hreap := (reap_keeps (((s.endTx o n).spCount o 11).dropCpy fun x => x.fid == id && x.out == o)).reg rfl rfl
  rw [cutTx_sending s o n hid, hreap, ← (endTx_keeps s o n).reg rfl rfl]
  exact reg_setReg_same (s.endTx o n) .SP_CNT [o, 11] _

theorem cutTx_otherRegs : otherRegs [Reg.SP_CNT.at [o, 11]] s (s.cutTx o n) := by
  cases h : (s.spPort o).tx with
  | none =>
    rw [cutTx_idle s o n h]
    exact .refl
  | some id =>
    rw [cutTx_sending s o n h]
    have hend : (s.endTx o n).regs = s.regs := (endTx_keeps ..).frame .regs rfl
    exact .trans (.of_regs hend) (.trans (.bump (.head _)) (.of_regs ((reap_keeps _).frame .regs rfl)))

end

end Sys2Proof.Machine
end

section
/-! PROOF. The states of an SP port (O42). -/
namespace Sys2Proof.Machine

theorem exec_portStopDone (p : Fin 64) (s : State) : exec (.portStopDone p) s = .next (doPortStopDone p s) := rfl
theorem exec_linkUp (p : Fin 64) (rate : Fin 3) (fec : Fin 4) (s : State) :
    exec (.linkUp p rate fec) s = .next (doLinkUp p rate fec s) := rfl
theorem exec_linkLoss (p : Fin 64) (k : LinkCut) (t : Nat) (s : State) :
    exec (.linkLoss p k t) s = .next (doLinkLoss p k.left k.rest t s) := rfl
theorem exec_holdoffExpiry (p : Fin 64) (t : Nat) (s : State) : exec (.holdoffExpiry p t) s = .next (doHoldoffExpiry p t s) := rfl
theorem exec_anTimeout (p : Fin 64) (s : State) : exec (.anTimeout p) s = .next (doAnTimeout p s) := rfl

/-! ### SP_CFG (R281, R310) -/

/-- A field whose value 3 keeps the previous one leaves the bits beside it. -/
theorem bit_keep3 {lo i : Nat} (hlo : lo + 2 ≤ 32) (hi : i < lo ∨ lo + 2 ≤ i) (o v : Word) : bit i (keep3 lo o v) = bit i v := by
  unfold keep3
  split
  · exact (testBit_fput lo 2 _ v i hlo).trans (if_neg (by omega))
  · rfl

section
variable {s : State} {p : Fin 64} {v : Word}

theorem not_shut_SP_CFG (ho : s.isOpen = true) : s.shut .SP_CFG [p.val] = false := not_shut ho (.inr (by decide)) nofun

theorem exec_portEnable (ho : s.isOpen = true) : exec (.portEnable p v) s = .next (doSpCfg p v s) :=
  congrArg Host.Outcome.next (hostWr_of_not_shut (not_shut_SP_CFG ho))

theorem exec_portDisable (ho : s.isOpen = true) : exec (.portDisable p v) s = .next (doSpCfg p v s) :=
  congrArg Host.Outcome.next (hostWr_of_not_shut (not_shut_SP_CFG ho))

/-- The configuration of an SP port has been stored by the access codes. -/
def State.spStored (s : State) (p : Nat) (v : Word) : State :=
  s.wrCodes .SP_CFG [p] (keep3 28 (s.reg .SP_CFG [p]) (keep3 18 (s.reg .SP_CFG [p]) v))

theorem spCfg_stored : s.spCfg p v = s.spStored p v := if_neg (by omega)

theorem spStored_keeps (s : State) (p : Nat) (v : Word) : Keeps 0x4 s (s.spStored p v) := wrCodes_keeps ..

theorem spStored_EN (p : Nat) (hv : bit 31 v = true) : (s.spStored p v).f SP_CFG.EN [p] = 1 := by
  have hen : (s.spStored p v).fb SP_CFG.EN [p] = true := by
    rw [State.spStored, fb_wrCodes_rw (x := SP_CFG.EN) (r := .SP_CFG) rfl (by decide) (by decide) (by decide)]
    exact (bit_keep3 (by decide) (by decide) _ _).trans ((bit_keep3 (by decide) (by decide) _ _).trans hv)
  have hlt : (s.spStored p v).f SP_CFG.EN [p] < 2 := fget_lt ..
  have hne : (s.spStored p v).f SP_CFG.EN [p] ≠ 0 := of_decide_eq_true hen
  omega

theorem doSpCfg_enable (hst : (s.spPort p).st = .disabled) (hv : bit 31 v = true) :
    doSpCfg p v s = (s.spStored p v).negotiate p (s.spPort p) .negotiate := by
  have hne : ¬ p.val = 64 := by omega
  have hst' : ((s.spStored p v).spPort p).st = .disabled := hst
  simp only [doSpCfg, hne, hv, if_false, if_true, spCfg_stored, hst']
  rfl

theorem runs_portEnable (ho : s.isOpen = true) (hst : (s.spPort p).st = .disabled) (hv : bit 31 v = true) :
    Runs (.portEnable p v) s fun u => u.spPort p = { s.spPort p with st := .negotiate, neg := u.reg .SP_CFG [p.val] }
      ∧ u.f SP_CFG.EN [p.val] = 1 ∧ (∀ q, q ≠ p.val → u.spPort q = s.spPort q) ∧ u.sgf.copies = s.sgf.copies
      ∧ otherRegs [Reg.SP_CFG.at [p.val]] s u ∧ changesOnly [.regs, .sgf] s u :=
  .of_eq (exec_portEnable ho) (doSpCfg_enable hst hv) ⟨spPort_setSpPort_same .., spStored_EN (s := s) p.val hv,
    fun _ hq => spPort_setSpPort_ne (s.spStored p v) _ hq, rfl, (otherRegs_wrCodes s _ _ _).trans (.of_regs rfl),
    ((spStored_keeps s p v).trans (negotiate_keeps ..)).changesOnly rfl⟩

/-! ### A port that stops (R281) -/

/-- A port that is to stop has its configuration stored, and the frame that arrives on it goes no further. -/
def State.spCleared (s : State) (p : Nat) (v : Word) : State :=
  ((s.spStored p v).restNow p).2.dropRx p ((s.spStored p v).restNow p).1

/-- A port that is UP no longer is. -/
def State.spLeft (s : State) (p : Nat) (st : SpSt) : State := if st = .up then s.raise SP_EVT.LINK_DOWN [p] else s

theorem spCleared_keeps (s : State) (p : Nat) (v : Word) : Keeps 0x203004 s (s.spCleared p v) :=
  ((spStored_keeps s p v).trans (restNow_keeps _ p _ rfl)).trans (dropRx_keeps ..)

theorem spCleared_spPort (s : State) (p : Nat) (v : Word) (q : Nat) : (s.spCleared p v).spPort q = s.spPort q :=
  spPort_of_ports (by rw [State.spCleared, dropRx_ports, restNow_sgf]; rfl) q

theorem spLeft_keeps (s : State) (p : Nat) (st : SpSt) : Keeps 0x4 s (s.spLeft p st) := .ite (raise_keeps_regs s [p] rfl) .refl

theorem spLeft_sgf (s : State) (p : Nat) (st : SpSt) : (s.spLeft p st).sgf = s.sgf := (spLeft_keeps ..).frame .sgf rfl

theorem doSpCfg_disable (h0 : (s.spPort p).st ≠ .disabled) (h5 : (s.spPort p).st ≠ .stopping) (hv : bit 31 v = false) :
    doSpCfg p v s = (((s.spCleared p v).spLeft p (s.spPort p).st).setSpPort p
      { s.spPort p with st := .stopping, capped := false }).flushOut p := by
  have hne : ¬ p.val = 64 := by omega
  simp only [doSpCfg, hne, hv, if_false, Bool.false_eq_true, spCfg_stored]
  split
  · next h => exact absurd h h0
  · next h => exact absurd h h5
  · rfl

theorem raise_FLUSHED_beside (s : State) (p : Fin 64) :
    (s.raise SP_EVT.FLUSHED [p.val]).f SP_EVT.LINK_DOWN [p.val] = s.f SP_EVT.LINK_DOWN [p.val] :=
  raise_f_beside s (x := SP_EVT.FLUSHED) (y := SP_EVT.LINK_DOWN) (spEvt_lt p) rfl (by decide) (by decide)

/-- A flush sets FLUSHED at most. -/
theorem flushOut_LINK_DOWN (s : State) (p : Fin 64) : (s.flushOut p).f SP_EVT.LINK_DOWN [p.val] = s.f SP_EVT.LINK_DOWN [p.val] := by
  have hflush : ∀ sel : Cpy → Bool, (∀ c, sel c = true → c.out = p.val) →
      (s.flush sel).f SP_EVT.LINK_DOWN [p.val] = s.f SP_EVT.LINK_DOWN [p.val] := fun sel hsel =>
    f_of_otherRegs (flush_otherRegs (m := [Reg.SP_CNT.at [p.val, 9]]) s fun c hc => by rw [hsel c hc]; exact .head _)
      ((flush_keeps ..).stage rfl) fun h => spEvt_ne_spCnt p p 9 (by decide) (List.mem_singleton.1 h)
  have hqueued : ∀ c, s.queuedTo p c = true → c.out = p.val := fun c hc => by
    simp only [State.queuedTo, Bool.and_eq_true, beq_iff_eq] at hc
    exact hc.1
  unfold State.flushOut
  split
  · extract_lets s1
    split
    · exact hflush _ hqueued
    · exact (raise_FLUSHED_beside s1 p).trans (hflush _ hqueued)
  · rfl

theorem runs_portDisable (ho : s.isOpen = true) (h0 : (s.spPort p).st ≠ .disabled) (h5 : (s.spPort p).st ≠ .stopping)
    (hv : bit 31 v = false) : Runs (.portDisable p v) s fun u =>
      (u.spPort p).st = .stopping ∧ (u.spPort p).tx = (s.spPort p).tx ∧ (∀ q, q ≠ p.val → u.spPort q = s.spPort q)
      ∧ (∀ c ∈ u.sgf.copies, c.out = p.val → (s.spPort p).tx = some c.fid) ∧ sfind u.sgf.rx p = none
      ∧ ((s.spPort p).st = .up → u.f SP_EVT.LINK_DOWN [p.val] = 1) ∧ changesOnly [.regs, .sgf, .hif, .freeN] s u := by
  have hport : (((s.spCleared p v).spLeft p (s.spPort p).st).setSpPort p
      { s.spPort p with st := .stopping, capped := false }).spPort p = { s.spPort p with st := .stopping, capped := false } :=
    spPort_setSpPort_same ..
  refine .of_eq (exec_portDisable ho) (doSpCfg_disable h0 h5 hv) ⟨?_, ?_, fun q hq => ?_, fun c hc hout => ?_, ?_, fun hup => ?_,
    ((((spCleared_keeps s p v).trans (spLeft_keeps ..)).trans (setSpPort_keeps ..)).trans (flushOut_keeps_prl ..)).changesOnly rfl⟩
  · rw [flushOut_spPort, hport]
  · rw [flushOut_spPort, hport]
  · rw [flushOut_spPort, spPort_setSpPort_ne _ _ hq, spPort_of_ports (congrArg Sgf.ports (spLeft_sgf ..)), spCleared_spPort]
  · rw [← tx_of_mem_flushOut _ _ hc hout, hport]
  · rw [flushOut_rx]
    exact (congrArg (fun g : Sgf => sfind g.rx p) (spLeft_sgf ..)).trans (dropRx_gone ..)
  · rw [flushOut_LINK_DOWN, State.spLeft, if_pos hup]
    exact raise_f_same (s.spCleared p v) (spEvt_lt p) (by decide)

theorem doPortStopDone_empty (hst : (s.spPort p).st = .stopping) (htx : (s.spPort p).tx = none)
    (hc : ∀ c ∈ s.sgf.copies, c.out ≠ p.val) : doPortStopDone p s = s.setSpPort p
      (if (s.spPort p).enPend then { SpPort.reset with st := .negotiate, neg := s.reg .SP_CFG [p.val] } else SpPort.reset) := by
  have hany : (s.sgf.copies.any fun c => c.out == p.val) = false := by simpa using hc
  simp only [doPortStopDone, hst, htx, hany, ne_eq, not_true_eq_false, Option.isSome_none, Bool.false_eq_true, or_self, if_false]
  split <;> rfl

theorem runs_portStopDone (hst : (s.spPort p).st = .stopping) (htx : (s.spPort p).tx = none)
    (hc : ∀ c ∈ s.sgf.copies, c.out ≠ p.val) : Runs (.portStopDone p) s fun u =>
      u.spPort p = (if (s.spPort p).enPend then { SpPort.reset with st := .negotiate, neg := s.reg .SP_CFG [p.val] } else SpPort.reset)
      ∧ (∀ q, q ≠ p.val → u.spPort q = s.spPort q) ∧ changesOnly [.sgf] s u :=
  .of_eq (exec_portStopDone p s) (doPortStopDone_empty hst htx hc)
    ⟨spPort_setSpPort_same .., fun _ hq => spPort_setSpPort_ne s _ hq, (setSpPort_keeps ..).changesOnly rfl⟩

end

/-! ### A link that comes up, or does not (R279, R281) -/

section
variable {s : State} {p : Fin 64}

/-- From s to u the port p holds x, and one event of it is set. -/
structure PortNoted (p : Fin 64) (x : SpPort) (e : Fld) (s u : State) : Prop where
  port : u.spPort p = x
  others : ∀ q, q ≠ p.val → u.spPort q = s.spPort q
  event : u.f e [p.val] = 1
  regs : otherRegs [Reg.SP_EVT.at [p.val]] s u
  parts : changesOnly [.regs, .sgf] s u

theorem setSpPort_raise (s : State) (p : Fin 64) (x : SpPort) {e : Fld} (he : e.reg = .SP_EVT) (hl : e.len = 1 ∧ e.lo < 32) :
    PortNoted p x e s ((s.setSpPort p x).raise e [p.val]) where
  port := (spPort_of_ports (congrArg Sgf.ports (raise_sgf ..)) _).trans (spPort_setSpPort_same ..)
  others q hq := (spPort_of_ports (congrArg Sgf.ports (raise_sgf ..)) _).trans (spPort_setSpPort_ne s x hq)
  event := raise_f_same _ (by rw [he]; exact spEvt_lt p) hl
  regs := by
    rw [raise_of_no_source _ _ (by rw [he]; rfl)]
    exact .trans (.of_regs rfl) (.setF (by rw [he]; exact .head _))
  parts := ((setSpPort_keeps ..).trans (raise_keeps_regs _ _ (by rw [he]; rfl))).changesOnly rfl

theorem doLinkUp_resolved {rate : Fin 3} {fec : Fin 4} (hst : (s.spPort p).st = .negotiate ∨ (s.spPort p).st = .hold ∨ (s.spPort p).st = .down)
    (hok : s.upOk p rate fec = true) : doLinkUp p rate fec s
      = (s.setSpPort p { s.spPort p with st := .up, rate := rate.val, fec := fec.val }).raise SP_EVT.LINK_UP [p.val] := by
  have htries : (s.spPort p).st.tries = true := by rcases hst with h | h | h <;> rw [h] <;> rfl
  exact if_pos (by rw [htries, hok]; rfl)

theorem runs_linkUp {rate : Fin 3} {fec : Fin 4} (hst : (s.spPort p).st = .negotiate ∨ (s.spPort p).st = .hold ∨ (s.spPort p).st = .down)
    (hok : s.upOk p rate fec = true) : Runs (.linkUp p rate fec) s fun u =>
      u.spPort p = { s.spPort p with st := .up, rate := rate.val, fec := fec.val } ∧ (∀ q, q ≠ p.val → u.spPort q = s.spPort q)
      ∧ u.f SP_EVT.LINK_UP [p.val] = 1 ∧ otherRegs [Reg.SP_EVT.at [p.val]] s u ∧ changesOnly [.regs, .sgf] s u := by
  obtain ⟨hport, hothers, hevent, hregs, hparts⟩ := setSpPort_raise s p
    { s.spPort p with st := .up, rate := rate.val, fec := fec.val } (e := SP_EVT.LINK_UP) rfl (by decide)
  exact .of_eq (exec_linkUp p rate fec s) (doLinkUp_resolved hst hok) ⟨hport, hothers, hevent, hregs, hparts⟩

theorem doAnTimeout_negotiating (han : bit 30 (s.spPort p).neg = true) (hst : (s.spPort p).st = .negotiate) : doAnTimeout p s
    = (s.setSpPort p { s.spPort p with neg := s.reg .SP_CFG [p.val] }).raise SP_EVT.AN_FAIL [p.val] := by
  have htries : (s.spPort p).st.tries = true := by rw [hst]; rfl
  simp only [doAnTimeout, htries, han, if_true]
  rfl

theorem runs_anTimeout (han : bit 30 (s.spPort p).neg = true) (hst : (s.spPort p).st = .negotiate) : Runs (.anTimeout p) s fun u =>
    u.f SP_EVT.AN_FAIL [p.val] = 1 ∧ u.spPort p = { s.spPort p with neg := s.reg .SP_CFG [p.val] }
      ∧ (∀ q, q ≠ p.val → u.spPort q = s.spPort q) ∧ otherRegs [Reg.SP_EVT.at [p.val]] s u ∧ changesOnly [.regs, .sgf] s u := by
  obtain ⟨hport, hothers, hevent, hregs, hparts⟩ := setSpPort_raise s p { s.spPort p with neg := s.reg .SP_CFG [p.val] }
    (e := SP_EVT.AN_FAIL) rfl (by decide)
  exact .of_eq (exec_anTimeout p s) (doAnTimeout_negotiating han hst) ⟨hevent, hport, hothers, hregs, hparts⟩

end

/-! ### A port that goes DOWN is flushed (R281, R305) -/

section
variable (s : State) (p : Fin 64) (x : SpPort)

/-- Port p holds x; its queues are flushed and FLUSHED is set. -/
def State.flushedPort (s : State) (p : Nat) (x : SpPort) : State := ((s.setSpPort p x).flushOut p).raise SP_EVT.FLUSHED [p]

theorem flushedPort_keeps : Keeps 0x3004 s (s.flushedPort p x) :=
  ((setSpPort_keeps ..).trans (flushOut_keeps_prl ..)).trans (raise_keeps_regs _ _ rfl)

theorem flushedPort_spPort (q : Nat) : (s.flushedPort p x).spPort q = (s.setSpPort p x).spPort q :=
  (spPort_of_ports (congrArg Sgf.ports (raise_sgf ..)) q).trans (flushOut_spPort ..)

theorem flushedPort_rx : (s.flushedPort p x).sgf.rx = s.sgf.rx :=
  (congrArg Sgf.rx (raise_sgf ..)).trans (flushOut_rx ..)

theorem flushedPort_FLUSHED : (s.flushedPort p x).f SP_EVT.FLUSHED [p.val] = 1 := raise_f_same _ (spEvt_lt p) (by decide)

theorem flushedPort_LINK_DOWN : (s.flushedPort p x).f SP_EVT.LINK_DOWN [p.val] = s.f SP_EVT.LINK_DOWN [p.val] :=
  (raise_FLUSHED_beside _ p).trans (flushOut_LINK_DOWN ..)

theorem flushedPort_copies {c : Cpy} (hc : c ∈ (s.flushedPort p x).sgf.copies) (ho : c.out = p.val) : x.tx = some c.fid := by
  have hc' : c ∈ ((s.setSpPort p x).flushOut p).sgf.copies := by rwa [State.flushedPort, raise_sgf] at hc
  simpa using tx_of_mem_flushOut _ _ hc' ho

theorem flushedPort_otherRegs : otherRegs [Reg.SP_CNT.at [p.val, 9], Reg.SP_EVT.at [p.val]] s (s.flushedPort p x) := by
  rw [State.flushedPort, raise_of_no_source _ _ rfl]
  exact .trans (.trans (.of_regs rfl) (flushOut_otherRegs (s.setSpPort p x) p)) (.setF (.tail _ (.head _)))

end

/-! ### A link that is lost (R281, R304, R311) -/

section
variable (s : State) (p : Fin 64) (n : Nat) (rest : List Byte)

/-- The transmission and the reception of a port have ended with its link, and LINK_DOWN is set. -/
def State.linkLost (s : State) (p n : Nat) (rest : List Byte) : State := ((s.cutTx p n).cutRx p rest).raise SP_EVT.LINK_DOWN [p]

theorem linkLost_keeps : Keeps 0x3004 s (s.linkLost p n rest) :=
  ((cutTx_keeps ..).trans (cutRx_keeps ..)).trans (raise_keeps_regs _ _ rfl)

theorem linkLost_ports : (s.linkLost p n rest).sgf.ports = (s.cutTx p n).sgf.ports :=
  (congrArg Sgf.ports (raise_sgf ..)).trans (cutRx_ports ..)

theorem linkLost_spPort_same : (s.linkLost p n rest).spPort p = { s.spPort p with tx := none } :=
  (spPort_of_ports (linkLost_ports ..) _).trans (cutTx_spPort_same ..)

theorem linkLost_spPort_ne {q : Nat} (hq : q ≠ p.val) : (s.linkLost p n rest).spPort q = s.spPort q :=
  (spPort_of_ports (linkLost_ports ..) _).trans (cutTx_spPort_ne _ _ _ hq)

theorem linkLost_rx : sfind (s.linkLost p n rest).sgf.rx p = none :=
  (congrArg (fun g : Sgf => sfind g.rx p) (raise_sgf ..)).trans (cutRx_gone ..)

theorem linkLost_LINK_DOWN : (s.linkLost p n rest).f SP_EVT.LINK_DOWN [p.val] = 1 := raise_f_same _ (spEvt_lt p) (by decide)

/-- What the loss of a link writes behind the count of the transmission (R311). -/
theorem linkLost_behind_cutTx : otherRegs [Reg.SP_CNT.at [p.val, 1], Reg.SP_EVT.at [p.val]] (s.cutTx p n) (s.linkLost p n rest) := by
  rw [State.linkLost, raise_of_no_source _ _ rfl]
  exact .trans (.mono (cutRx_otherRegs _ p rest) (by simp)) (.setF (.tail _ (.head _)))

theorem linkLost_TX_ABORT (h : (s.spPort p).tx.isSome = true) :
    (s.linkLost p n rest).reg .SP_CNT [p.val, 11] = satInc (s.reg .SP_CNT [p.val, 11]) 1 := by
  rw [reg_of_otherRegs (linkLost_behind_cutTx s p n rest) (((cutRx_keeps ..).trans (raise_keeps_regs _ [p.val] rfl)).stage rfl)
    (by simp [spCnt_ne (p := p) (q := p) (j := 11) (k := 1), (spEvt_ne_spCnt p p 11 (by decide)).symm])]
  exact cutTx_count s p n h

theorem linkLost_HOLDOFF : (s.linkLost p n rest).f SGF_CTRL.HOLDOFF_US [] = s.f SGF_CTRL.HOLDOFF_US [] := by
  have hcut : otherRegs [Reg.SP_CNT.at [p.val, 11], Reg.SP_CNT.at [p.val, 1], Reg.SP_EVT.at [p.val]] s (s.linkLost p n rest) :=
    .trans (.mono (cutTx_otherRegs s p n) (by simp)) (.mono (linkLost_behind_cutTx s p n rest) (by simp))
  have hctrl : Reg.SGF_CTRL.at [] = 0x400000 := rfl
  refine f_of_otherRegs hcut ((linkLost_keeps s p n rest).stage rfl) ?_
  simp only [SGF_CTRL.HOLDOFF_US, hctrl, at_SP_CNT, at_SP_EVT, List.mem_cons, List.not_mem_nil, or_false]
  omega

theorem leaveUp_down (h : s.f SGF_CTRL.HOLDOFF_US [] = 0) : s.leaveUp p n rest = (s.linkLost p n rest).flushedPort p
    { s.spPort p with st := .down, neg := (s.linkLost p n rest).reg .SP_CFG [p.val], tx := none } := by
  have h0 : (s.linkLost p n rest).f SGF_CTRL.HOLDOFF_US [] = 0 := (linkLost_HOLDOFF ..).trans h
  rw [State.leaveUp, ← State.linkLost]
  exact (if_pos h0).trans (by rw [State.negotiate, linkLost_spPort_same]; rfl)

theorem leaveUp_hold (h : s.f SGF_CTRL.HOLDOFF_US [] ≠ 0) : s.leaveUp p n rest = (s.linkLost p n rest).setSpPort p
    { s.spPort p with
      st := .hold, neg := (s.linkLost p n rest).reg .SP_CFG [p.val], holdAt := (s.linkLost p n rest).clr.now, tx := none } := by
  have h0 : ¬ (s.linkLost p n rest).f SGF_CTRL.HOLDOFF_US [] = 0 := by rwa [linkLost_HOLDOFF]
  rw [State.leaveUp, ← State.linkLost]
  exact (if_neg h0).trans (by rw [State.negotiate, linkLost_spPort_same])

/-- From s to u the link of port p was lost. -/
structure LinkGone (p : Fin 64) (s u : State) : Prop where
  tx : (u.spPort p).tx = none
  st : (u.spPort p).st = (if s.f SGF_CTRL.HOLDOFF_US [] = 0 then .down else .hold)
  event : u.f SP_EVT.LINK_DOWN [p.val] = 1
  others : ∀ q, q ≠ p.val → u.spPort q = s.spPort q
  rx : sfind u.sgf.rx p = none
  count : (s.spPort p).tx.isSome = true → u.reg .SP_CNT [p.val, 11] = satInc (s.reg .SP_CNT [p.val, 11]) 1
  keeps : Keeps 0x3004 s u

theorem leaveUp_linkGone : LinkGone p s (s.leaveUp p n rest) := by
  by_cases h : s.f SGF_CTRL.HOLDOFF_US [] = 0
  · rw [leaveUp_down s p n rest h]
    obtain ⟨x, hx⟩ : ∃ x : SpPort, x = { s.spPort p with st := .down, neg := (s.linkLost p n rest).reg .SP_CFG [p.val], tx := none } :=
      ⟨_, rfl⟩
    have hport : ((s.linkLost p n rest).flushedPort p x).spPort p = x := (flushedPort_spPort ..).trans (spPort_setSpPort_same ..)
    rw [← hx]
    refine ⟨by rw [hport, hx], by rw [hport, hx, if_pos h], ?_, fun q hq => ?_, ?_, fun htx => ?_,
      (linkLost_keeps ..).trans (flushedPort_keeps ..)⟩
    · rw [flushedPort_LINK_DOWN, linkLost_LINK_DOWN]
    · rw [flushedPort_spPort, spPort_setSpPort_ne _ _ hq, linkLost_spPort_ne s p n rest hq]
    · rw [flushedPort_rx, linkLost_rx]
    · rw [reg_of_otherRegs (flushedPort_otherRegs _ p x) ((flushedPort_keeps ..).stage rfl)
        (by simp [spCnt_ne (p := p) (q := p) (j := 11) (k := 9), (spEvt_ne_spCnt p p 11 (by decide)).symm]),
        linkLost_TX_ABORT s p n rest htx]
  · rw [leaveUp_hold s p n rest h]
    exact ⟨by rw [spPort_setSpPort_same], by rw [spPort_setSpPort_same, if_neg h], linkLost_LINK_DOWN .., fun q hq => by
      rw [spPort_setSpPort_ne _ _ hq, linkLost_spPort_ne s p n rest hq], linkLost_rx .., linkLost_TX_ABORT s p n rest,
      (linkLost_keeps ..).trans (setSpPort_keeps ..)⟩

end

section
variable {s : State} {p : Fin 64} {left t : Nat} {rest : List Byte}

theorem runs_linkLoss (hst : (s.spPort p).st = .up) : Runs (.linkLoss p ⟨left, rest⟩ t) s fun u => (u.spPort p).tx = none
      ∧ (u.spPort p).st = (if s.f SGF_CTRL.HOLDOFF_US [] = 0 then .down else .hold)
      ∧ u.f SP_EVT.LINK_DOWN [p.val] = 1 ∧ (∀ q, q ≠ p.val → u.spPort q = s.spPort q)
      ∧ sfind u.sgf.rx p = none ∧ ((s.spPort p).tx.isSome = true → u.reg .SP_CNT [p.val, 11] = satInc (s.reg .SP_CNT [p.val, 11]) 1)
      ∧ changesOnly [.regs, .clr, .sgf, .hif] s u := by
  have hup : ((s.passTo t).spPort p).st = .up := by rw [passTo_spPort, hst]
  obtain ⟨htx, hst', hevent, hothers, hrx, hcount, hkeeps⟩ := leaveUp_linkGone (s.passTo t) p left rest
  simp only [passTo_f, passTo_spPort, passTo_reg] at hst' hothers hcount
  exact .of_eq (exec_linkLoss p ⟨left, rest⟩ t s) (if_pos hup)
    ⟨htx, hst', hevent, hothers, hrx, hcount, ((passTo_keeps s t).trans hkeeps).changesOnly rfl⟩

theorem runs_holdoffExpiry (hst : (s.spPort p).st = .hold)
    (hdue : s.f SGF_CTRL.HOLDOFF_US [] * 1000 ≤ (s.passTo t).clr.now - (s.spPort p).holdAt) :
    Runs (.holdoffExpiry p t) s fun u => (u.spPort p).st = .down ∧ u.f SP_EVT.FLUSHED [p.val] = 1
      ∧ (∀ c ∈ u.sgf.copies, c.out = p.val → (s.spPort p).tx = some c.fid) ∧ (∀ q, q ≠ p.val → u.spPort q = s.spPort q) := by
  have heq : doHoldoffExpiry p t s = (s.passTo t).flushedPort p { s.spPort p with st := .down } := by
    have hcond : ((s.passTo t).spPort p).st = .hold
        ∧ (s.passTo t).f SGF_CTRL.HOLDOFF_US [] * 1000 ≤ (s.passTo t).clr.now - ((s.passTo t).spPort p).holdAt := by
      rw [passTo_spPort, passTo_f]
      exact ⟨hst, hdue⟩
    exact (if_pos hcond).trans (by rw [passTo_spPort]; rfl)
  refine .of_eq (exec_holdoffExpiry p t s) heq ⟨?_, flushedPort_FLUSHED .., fun c hc ho => ?_, fun q hq => ?_⟩
  · rw [flushedPort_spPort, spPort_setSpPort_same]
  · exact flushedPort_copies (s.passTo t) p { s.spPort p with st := .down } hc ho
  · rw [flushedPort_spPort, spPort_setSpPort_ne _ _ hq, passTo_spPort]

end

/-- Settles O42, clause by clause: each change of state is one store of the port, and what is flushed or cut beside it. -/
theorem switchPorts : Obligations.SwitchPorts := by
  unfold Obligations.SwitchPorts
  exact fun s p v rate fec left t rest => ⟨runs_portEnable, runs_portDisable, runs_portStopDone, runs_linkUp, runs_linkLoss,
    runs_holdoffExpiry, runs_anTimeout⟩

end Sys2Proof.Machine
end

section
/-! PROOF. A frame from its first cell to its end (O43). -/
namespace Sys2Proof.Machine

theorem exec_frameIngress (p : Fin 65) (l : List Byte) (whole : Bool) (ts : Word) (t : Nat) (s : State) :
    exec (.frameIngress p l whole ts t) s = .next (doFrameIngress p l whole ts t s) := rfl
theorem exec_frameComplete (p : Fin 64) (rest : List Byte) (err : Bool) (t : Nat) (s : State) :
    exec (.frameComplete p rest err t) s = .next (doFrameComplete p rest err t s) := rfl
theorem exec_crossbarSlot (bad : List (Fin 65)) (t : Nat) (s : State) :
    exec (.crossbarSlot bad t) s = .next (doCrossbarSlot bad t s) := rfl
theorem exec_egressSelect (o : Fin 64) (t : Nat) (s : State) : exec (.egressSelect o t) s = .next (doEgressSelect o t s) := rfl
theorem exec_transmitEnd (o : Fin 64) (t : Nat) (s : State) : exec (.transmitEnd o t) s = .next (doTransmitEnd o t s) := rfl

/-! ### The first cell of a frame (R286, R294, R301) -/

/-- The fabric with a new frame in its buffer and the frame's one copy to output o, cut through or not. -/
def Sgf.withCell (g : Sgf) (f : Frm) (o : Nat) (ct : Bool) : Sgf :=
  { g.withFrame f with copies := g.copies ++ [{ f.copyTo o with ct := ct }] }

theorem enqueue_first_cell {s : State} {f : Frm} {o : Nat} (hfresh : s.sgf.freshId) (hf : f.id = s.sgf.nextId) (hroom : s.roomFor f.inp)
    (hq : s.sgf.depth f.inp o f.cls < s.f SGF_BUF.VOQ_MAX []) (all : Bool) :
    ∃ ct, s.enqueue f all [o] = s.setSgf (s.sgf.withCell f o ct) := by
  have hok : (decide (s.sgf.inUse f.inp + 72 ≤ s.f SGF_BUF.INPUT_MAX [] * 16) && decide (72 ≤ s.sgf.free)) = true := by
    simpa [State.roomFor] using hroom
  have hcond : (true && decide ((s.sgf.withFrame f).depth f.inp o f.cls < s.f SGF_BUF.VOQ_MAX [])) = true := by
    rw [depth_withFrame hfresh hf, Bool.true_and, decide_eq_true hq]
  refine ⟨!all && (s.setSgf (s.sgf.withFrame f)).mayCut f.inp o f.cls, ?_⟩
  rw [State.enqueue, hok]
  exact if_pos hcond

/-- A frame of port p that begins with l is no control frame and traps nothing; the lookup k sends it to the one open output d, no
policer decides it, and there is room for it. -/
structure State.CellOffered (s : State) (p d : Nat) (l : List Byte) (k : Look) : Prop where
  up : (s.spPort p).st = .up
  idle : sfind s.sgf.rx p = none
  on : s.forwards = true
  noPause : etypeOf l ≠ 0x8808
  noTrap : etypeOf l ≠ s.f SGF_TRAP.ETYPE []
  look : k = s.lookup p (leValue (l.take 6)) (s.vidOf p l)
  outs : k.outs = [d]
  opened : s.outOpen d = true
  noPolicer : s.polEntry p (k.cls.getD (s.classOf p l)) (s.vidOf p l) = none
  room : s.roomFor p
  fresh : s.sgf.freshId
  space : s.sgf.depth p d (k.cls.getD (s.classOf p l)) < s.f SGF_BUF.VOQ_MAX []

theorem passTo_classOf (s : State) (t p : Nat) (l : List Byte) : (s.passTo t).classOf p l = s.classOf p l :=
  passTo_congr s t (·.classOf p l) fun _ => rfl

theorem State.CellOffered.passTo {s : State} {p d : Nat} {l : List Byte} {k : Look} (h : s.CellOffered p d l k) (t : Nat) :
    (s.passTo t).CellOffered p d l k := by
  have hc : CountsOnly s (s.passTo t) := .of_keeps (passTo_keeps s t) rfl rfl rfl rfl
  obtain ⟨hup, hidle, hon, hpause, htrap, hlook, houts, hopen, hpol, hroom, hfresh, hspace⟩ := h
  exact ⟨by rwa [passTo_spPort], by rwa [hc.sgf], by rwa [hc.forwards], hpause, by rwa [passTo_f], by rwa [hc.lookup, hc.vidOf], houts,
    by rwa [hc.outOpen], by rwa [hc.polEntry, hc.vidOf, passTo_classOf], (hc.roomFor p).2 hroom, by rwa [hc.sgf],
    by rwa [hc.sgf, passTo_f, passTo_classOf]⟩

section
variable {s : State} {p d : Nat} {l : List Byte} {k : Look} (h : s.CellOffered p d l k)
include h

/-- Such a first cell enters with one copy. -/
theorem ingress_first_cell (ts : Word) : ∃ f ct, f = s.newFrm p (k.cls.getD (s.classOf p l)) l false k.mcast false none none ts
    ∧ s.ingress p (s.classOf p l) l false false false none ts = ⟨s.setSgf (s.sgf.withCell f d ct), some s.sgf.nextId, true⟩ := by
  obtain ⟨f, hf⟩ : ∃ f, f = s.newFrm p (k.cls.getD (s.classOf p l)) l false k.mcast false none none ts := ⟨_, rfl⟩
  have hid : f.id = s.sgf.nextId := by rw [hf]; rfl
  obtain ⟨ct, hct⟩ := enqueue_first_cell (o := d) h.fresh hid (by rw [hf]; exact h.room) (by rw [hf]; exact h.space) false
  have hdrop : s.dropLook p k = s := by simp [State.dropLook, h.outs, h.opened]
  have hfilter : [d].filter s.outOpen = [d] := by simp [h.opened]
  have hpolice : s.police p (k.cls.getD (s.classOf p l)) (s.vidOf p l) (pcpOf l) l.length
      = ⟨false, k.cls.getD (s.classOf p l), none, s⟩ := by
    simp only [State.police, h.noPolicer]
  have hcopied : ((s.setSgf (s.sgf.withCell f d ct)).sgf.copies.any fun c => c.fid == s.sgf.nextId) = true := by
    simp [State.setSgf, Sgf.withCell, Frm.copyTo, hid]
  refine ⟨f, ct, hf, ?_⟩
  simp only [State.ingress, h.on, ← h.look, hdrop, h.outs, hfilter, hpolice, ← hf, hct, hid, Bool.not_true, Bool.false_eq_true, if_false,
    List.isEmpty_cons]
  rw [if_pos hcopied]

end

/-- The frame arriving at port p. -/
def State.putRx (s : State) (p : Nat) (r : Rx) : State := s.setSgf { s.sgf with rx := sset s.sgf.rx p r }

/-- From s to u a frame of class c that begins with l entered by port p, with one copy, to output d. -/
structure FirstCell (p d c : Nat) (l : List Byte) (ts : Word) (s u : State) : Prop where
  copies : ∃ ct, u.sgf.copies = s.sgf.copies ++ [(⟨s.sgf.nextId, p, d, c, 0, 0, ct, none, none, none⟩ : Cpy)]
  frame : ∃ q ∈ u.sgf.frames, q.id = s.sgf.nextId ∧ q.bytes = l ∧ q.inp = p ∧ q.ts = ts ∧ q.whole = false
  rx : sfind u.sgf.rx p = some (⟨l, some s.sgf.nextId, false, false⟩ : Rx)
  ports : u.sgf.ports = s.sgf.ports
  keeps : Keeps 0x3000 s u

theorem rxFirst_firstCell {s : State} {p d : Nat} {l : List Byte} {k : Look} (h : s.CellOffered p d l k) (ts : Word) :
    FirstCell p d (k.cls.getD (s.classOf p l)) l ts s (s.rxFirst p l false ts) := by
  obtain ⟨f, ct, hf, hx⟩ := ingress_first_cell h ts
  have hsafe : s.flt.safe = false := by
    have hon := h.on
    simp only [State.forwards, Bool.and_eq_true, Bool.not_eq_true'] at hon
    exact hon.2
  have hstart : ¬ ((s.spPort p).st ≠ .up ∨ (sfind s.sgf.rx p).isSome = true) := by simp [h.up, h.idle]
  have heq : s.rxFirst p l false ts = ((s.setSgf (s.sgf.withCell f d ct)).putRx p ⟨l, some s.sgf.nextId, false, false⟩).reap := by
    simp only [State.rxFirst, hstart, hsafe, h.noPause, h.noTrap, decide_false, Bool.false_and, Bool.false_eq_true, if_false, hx]
    rfl
  have hcopy : ({ f.copyTo d with ct := ct } : Cpy) = ⟨s.sgf.nextId, p, d, k.cls.getD (s.classOf p l), 0, 0, ct, none, none, none⟩ := by
    rw [hf]
    rfl
  have hfields : f.id = s.sgf.nextId ∧ f.bytes = l ∧ f.inp = p ∧ f.ts = ts ∧ f.whole = false := by
    rw [hf]
    exact ⟨rfl, rfl, rfl, rfl, rfl⟩
  rw [heq]
  exact ⟨⟨ct, by rw [reap_copies, ← hcopy]; rfl⟩,
    ⟨f, mem_reap_frames _ (c := { f.copyTo d with ct := ct }) (List.mem_append_right _ (.head _)) (List.mem_append_right _ (.head _)) rfl,
      hfields⟩,
    by rw [reap_rx]; exact sfind_sset_same .., by rw [reap_ports]; rfl,
    ((setSgf_keeps ..).trans (setSgf_keeps ..)).trans (reap_keeps _)⟩

theorem runs_frameIngress {s : State} {p : Fin 64} {l : List Byte} {ts : Word} {t d : Nat} {k : Look} (h : s.CellOffered p d l k) :
    Runs (.frameIngress ⟨p.val, by omega⟩ l false ts t) s fun u =>
      (∃ ct, u.sgf.copies = s.sgf.copies ++ [(⟨s.sgf.nextId, p.val, d, k.cls.getD (s.classOf p l), 0, 0, ct, none, none, none⟩ : Cpy)])
      ∧ (∃ q ∈ u.sgf.frames, q.id = s.sgf.nextId ∧ q.bytes = l ∧ q.inp = p.val ∧ q.ts = ts ∧ q.whole = false)
      ∧ sfind u.sgf.rx p = some (⟨l, some s.sgf.nextId, false, false⟩ : Rx) ∧ u.sgf.ports = s.sgf.ports
      ∧ changesOnly [.clr, .sgf, .hif] s u := by
  obtain ⟨hcopies, hframe, hrx, hports, hkeeps⟩ := rxFirst_firstCell (h.passTo t) ts
  rw [passTo_sgf, passTo_classOf] at hcopies
  rw [passTo_sgf] at hframe hrx hports
  have hne : ¬ p.val = 64 := by omega
  exact .of_eq (exec_frameIngress ..) (if_neg hne) ⟨hcopies, hframe, hrx, hports, ((passTo_keeps s t).trans hkeeps).changesOnly rfl⟩

/-! ### A frame that the T512 originates (R220, R277, R300) -/

section
variable (s : State)

/-- Frames that enter count at no port as received (R311). -/
theorem enqueue_rx (f : Frm) (all : Bool) (outs : List Nat) (p : Nat) :
    (s.enqueue f all outs).reg .SP_CNT [p, 0] = s.reg .SP_CNT [p, 0] := by
  refine foldl_keeps (fun u : State => u.reg .SP_CNT [p, 0] = s.reg .SP_CNT [p, 0]) rfl fun u o hu => ?_
  unfold State.letIn
  split
  · exact hu
  · exact (spCount_rx u p f.inp (by decide) (by decide)).trans hu

/-- An own frame counts as received by port 64 (R277, R311). -/
theorem ownEnter_rx (l : List Byte) (outs : List Nat) (mcast : Bool) :
    (s.ownEnter l outs mcast).reg .SP_CNT [64, 0] = satInc (s.reg .SP_CNT [64, 0]) 1 := by
  have hcount : (s.spCount 64 0).reg .SP_CNT [64, 0] = satInc (s.reg .SP_CNT [64, 0]) 1 := reg_setReg_same ..
  unfold State.ownEnter
  extract_lets s1 s2 f
  split
  · exact (spCount_rx s1 64 64 (by decide) (by decide)).trans hcount
  · rw [(reap_keeps _).reg rfl rfl, enqueue_rx, dropLook_rx, hcount]

variable {s} {n : Nat} {a : List Byte} {as : List (Nat × List Byte)}

theorem annNext_due (ha : s.yk.annOut = (n, a) :: as) (h : n = 0 ∨ s.fab.out = []) : s.annNext = some (a, as) := by
  simp only [State.annNext, ha, h, if_true]

theorem annNext_waits (ha : s.yk.annOut = (n + 1, a) :: as) (h : s.fab.out ≠ []) : s.annNext = none := by
  simp [State.annNext, ha, h]

/-- The oldest announcement has left the queue of those that wait. -/
def State.annTaken (s : State) (as : List (Nat × List Byte)) : State := { s with yk := { s.yk with annOut := as } }

/-- The oldest control message has left its queue, and each announcement waits for one message less. -/
def State.ctlTaken (s : State) (zs : List (Option Nat × FabMsg)) : State :=
  { s with fab := { s.fab with out := zs }, yk := { s.yk with annOut := s.yk.annOut.map fun a => (a.1 - 1, a.2) } }

theorem annTaken_keeps (s : State) (as : List (Nat × List Byte)) : Keeps 0x100 s (s.annTaken as) := Keeps.upd .refl
theorem ctlTaken_keeps (s : State) (zs : List (Option Nat × FabMsg)) : Keeps 0x900 s (s.ctlTaken zs) := Keeps.upd .refl

theorem ownIngress_announcement (ha : s.yk.annOut = (n, a) :: as) (h : n = 0 ∨ s.fab.out = []) :
    ∃ l outs, s.ownIngress = (s.annTaken as).ownEnter l outs true := by
  simp only [State.ownIngress, annNext_due ha h]
  exact ⟨_, _, rfl⟩

theorem ownIngress_control {z : Option Nat × FabMsg} {zs : List (Option Nat × FabMsg)} (ha : s.yk.annOut = (n + 1, a) :: as)
    (hz : s.fab.out = z :: zs) : ∃ l outs m, s.ownIngress = (s.ctlTaken zs).ownEnter l outs m := by
  have hnone : s.annNext = none := annNext_waits ha (by rw [hz]; exact List.cons_ne_nil _ _)
  simp only [State.ownIngress, hnone, hz]
  exact ⟨_, _, _, rfl⟩

variable {l : List Byte} {ts : Word} {t : Nat}

theorem runs_frameIngress_announcement (ha : s.yk.annOut = (n, a) :: as) (h : n = 0 ∨ s.fab.out = []) :
    Runs (.frameIngress 64 l false ts t) s fun u => u.yk = { s.yk with annOut := as }
      ∧ u.reg .SP_CNT [64, 0] = satInc (s.reg .SP_CNT [64, 0]) 1 ∧ changesOnly [.regs, .clr, .yk, .sgf, .hif] s u := by
  obtain ⟨f, outs, heq⟩ := ownIngress_announcement (s := s.passTo t) (by rwa [passTo_yk]) (by rwa [passTo_fab])
  have ht := annTaken_keeps (s.passTo t) as
  have hk := ownEnter_keeps ((s.passTo t).annTaken as) f outs true
  refine .of_eq (exec_frameIngress ..) heq ⟨?_, ?_, (((passTo_keeps s t).trans ht).trans hk).changesOnly rfl⟩
  · rw [hk.frame .yk rfl, State.annTaken, passTo_yk]
  · rw [ownEnter_rx, ht.reg rfl rfl, passTo_reg]

theorem runs_frameIngress_control {z : Option Nat × FabMsg} {zs : List (Option Nat × FabMsg)} (ha : s.yk.annOut = (n + 1, a) :: as)
    (hz : s.fab.out = z :: zs) : Runs (.frameIngress 64 l false ts t) s fun u =>
      u.fab = { s.fab with out := zs } ∧ u.yk = { s.yk with annOut := (n, a) :: as.map fun q => (q.1 - 1, q.2) }
      ∧ u.reg .SP_CNT [64, 0] = satInc (s.reg .SP_CNT [64, 0]) 1 ∧ changesOnly [.regs, .clr, .yk, .fab, .sgf, .hif] s u := by
  obtain ⟨f, outs, m, heq⟩ := ownIngress_control (s := s.passTo t) (z := z) (zs := zs) (by rwa [passTo_yk]) (by rwa [passTo_fab])
  have ht := ctlTaken_keeps (s.passTo t) zs
  have hk := ownEnter_keeps ((s.passTo t).ctlTaken zs) f outs m
  refine .of_eq (exec_frameIngress ..) heq ⟨?_, ?_, ?_, (((passTo_keeps s t).trans ht).trans hk).changesOnly rfl⟩
  · rw [hk.frame .fab rfl, State.ctlTaken, passTo_fab]
  · rw [hk.frame .yk rfl, State.ctlTaken, passTo_yk, ha]
    rfl
  · rw [ownEnter_rx, ht.reg rfl rfl, passTo_reg]

end

/-! ### The last cell of a frame (R303, R304, R311) -/

section
variable {s : State} {p : Fin 64} {id t : Nat} {r : Rx} {rest : List Byte}

/-- The frame id arrives no more on port p; its policer takes the rest of its charge, n bytes in all. -/
def State.rxClosed (s : State) (p id n : Nat) : State :=
  (s.setSgf { s.sgf with rx := sdel s.sgf.rx p }).polRest ((s.sgf.frame id).bind Frm.pol) n

theorem rxClosed_keeps (s : State) (p id n : Nat) : Keeps 0x1000 s (s.rxClosed p id n) := (setSgf_keeps ..).trans (polRest_keeps ..)
theorem rxClosed_copies (s : State) (p id n : Nat) : (s.rxClosed p id n).sgf.copies = s.sgf.copies := polRest_copies ..
theorem rxClosed_frames (s : State) (p id n : Nat) : (s.rxClosed p id n).sgf.frames = s.sgf.frames := polRest_frames ..
theorem rxClosed_gone (s : State) (p id n : Nat) : sfind (s.rxClosed p id n).sgf.rx p = none := by
  rw [State.rxClosed, polRest_rx]
  exact sfind_sdel_same ..

variable (hr : sfind s.sgf.rx p = some r) (hd : r.dropped = false) (hid : r.fid = some id) (hlen : (r.bytes ++ rest).length ≤ 9216)
include hr hd hid hlen

theorem rxLast_good (htrap : r.trap = false) (hok : fcsOk (r.bytes ++ rest) = true) : s.rxLast p rest false =
    ((s.rxClosed p id (r.bytes ++ rest).length).spCount p 0).modFrm id fun f => { f with bytes := r.bytes ++ rest, whole := true } := by
  simp only [State.rxLast, hr, hd, hid, Nat.not_lt.2 hlen, htrap, hok, Bool.not_true, Bool.or_self, Bool.false_eq_true, if_false]
  rfl

theorem rxLast_bad (hbad : fcsOk (r.bytes ++ rest) = false) : s.rxLast p rest false =
    ((s.rxClosed p id (r.bytes ++ rest).length).spCount p 1).failFrm id ((r.bytes ++ rest).take ((r.bytes ++ rest).length - 4)) := by
  simp only [State.rxLast, hr, hd, hid, Nat.not_lt.2 hlen, hbad, Bool.not_false, Bool.or_true, Bool.false_eq_true, if_false, if_true]
  rfl

theorem runs_frameComplete_good (htrap : r.trap = false) (hok : fcsOk (r.bytes ++ rest) = true) :
    Runs (.frameComplete p rest false t) s fun u =>
      u.reg .SP_CNT [p.val, 0] = satInc (s.reg .SP_CNT [p.val, 0]) 1
      ∧ u.sgf.frames = s.sgf.frames.map (fun q : Machine.Frm => if q.id = id then { q with bytes := r.bytes ++ rest, whole := true } else q)
      ∧ u.sgf.copies = s.sgf.copies ∧ sfind u.sgf.rx p = none ∧ otherRegs [Reg.SP_CNT.at [p.val, 0]] s u
      ∧ changesOnly [.regs, .clr, .sgf] s u := by
  have heq := rxLast_good (s := s.passTo t) (by rwa [passTo_sgf]) hd hid hlen htrap hok
  have hc := (passTo_keeps s t).trans (rxClosed_keeps (s.passTo t) p id (r.bytes ++ rest).length)
  refine .of_eq (exec_frameComplete ..) heq ⟨?_, ?_, ?_, rxClosed_gone .., ?_,
    ((hc.trans (spCount_keeps ..)).trans (modFrm_keeps ..)).changesOnly rfl⟩
  · rw [← hc.reg rfl rfl]
    exact reg_setReg_same (State.rxClosed ..) .SP_CNT [p.val, 0] _
  · have hframes := rxClosed_frames (s.passTo t) p id (r.bytes ++ rest).length
    rw [passTo_sgf] at hframes
    exact congrArg (List.map _) hframes
  · exact (rxClosed_copies ..).trans (by rw [passTo_sgf])
  · exact .trans (.of_regs (hc.frame .regs rfl)) (.trans (.bump (.head _)) (.of_regs rfl))

theorem runs_frameComplete_bad (hbad : fcsOk (r.bytes ++ rest) = false) : Runs (.frameComplete p rest false t) s fun u =>
      u.reg .SP_CNT [p.val, 1] = satInc (s.reg .SP_CNT [p.val, 1]) 1
      ∧ u.sgf.copies = s.sgf.copies.filter (fun q => !(q.fid == id && !q.ct)) ∧ sfind u.sgf.rx p = none
      ∧ changesOnly [.regs, .clr, .sgf, .hif] s u := by
  have heq := rxLast_bad (s := s.passTo t) (by rwa [passTo_sgf]) hd hid hlen hbad
  have hc := (passTo_keeps s t).trans (rxClosed_keeps (s.passTo t) p id (r.bytes ++ rest).length)
  have hfail := failFrm_keeps ((State.rxClosed (s.passTo t) p id (r.bytes ++ rest).length).spCount p 1) id
    ((r.bytes ++ rest).take ((r.bytes ++ rest).length - 4))
  refine .of_eq (exec_frameComplete ..) heq ⟨?_, ?_, ?_, ((hc.trans (spCount_keeps ..)).trans hfail).changesOnly rfl⟩
  · rw [hfail.reg rfl rfl, ← hc.reg rfl rfl]
    exact reg_setReg_same (State.rxClosed ..) .SP_CNT [p.val, 1] _
  · have hcopies := rxClosed_copies (s.passTo t) p id (r.bytes ++ rest).length
    rw [passTo_sgf] at hcopies
    rw [failFrm_copies]
    exact congrArg (List.filter _) hcopies
  · rw [failFrm_rx]
    exact rxClosed_gone ..

end

/-! ### The crossbar (R296 to R298) -/

/-- One more cell of the copy of a pair is assigned. -/
def assignCell (m : List Cpy) (z : XPair) : List Cpy :=
  m.map fun q : Cpy => if q.fid = z.fid ∧ q.out = z.out then { q with asg := q.asg + 1 } else q

/-- An assignment moves no cell: each copy is there as before, but for what is assigned of it. -/
theorem mem_foldl_assignCell {q : Cpy} (l : List XPair) {m : List Cpy} (h : q ∈ m) : ∃ n, { q with asg := n } ∈ l.foldl assignCell m := by
  induction l generalizing m q with
  | nil => exact ⟨q.asg, h⟩
  | cons z l ih =>
    have hmap := List.mem_map_of_mem (f := fun q : Cpy => if q.fid = z.fid ∧ q.out = z.out then { q with asg := q.asg + 1 } else q) h
    by_cases hz : q.fid = z.fid ∧ q.out = z.out
    · rw [if_pos hz] at hmap
      obtain ⟨n, hn⟩ := ih hmap
      exact ⟨n, hn⟩
    · rw [if_neg hz] at hmap
      exact ih hmap

/-- A matching assigns a cell for each of its pairs. -/
def State.assign (s : State) (l : List XPair) : State := l.foldl (fun s x => s.modCpy x.fid x.out fun c => { c with asg := c.asg + 1 }) s

theorem assign_keeps (s : State) (l : List XPair) : Keeps 0x1000 s (s.assign l) :=
  Keeps.foldl .refl fun _ _ h => (modCpy_keeps ..).step h rfl

theorem assign_sgf (s : State) (l : List XPair) : (s.assign l).sgf = { s.sgf with copies := l.foldl assignCell s.sgf.copies } := by
  induction l generalizing s with
  | nil => rfl
  | cons x l ih => exact ih _

/-- A matcher starts: its matching is queued and its cells are assigned. -/
def State.startMatch (s : State) : State :=
  let m := s.sgf.matching s.sphBusy
  (s.setSgf { s.sgf with xq := s.sgf.xq ++ [m.pairs], gptr := m.gptr, aptr := m.aptr }).assign m.pairs

theorem startMatch_keeps (s : State) : Keeps 0x1000 s s.startMatch := (setSgf_keeps ..).trans (assign_keeps ..)

theorem startMatch_sgf (s : State) : ∃ g a, s.startMatch.sgf = { s.sgf with
    xq := s.sgf.xq ++ [(s.sgf.matching s.sphBusy).pairs], gptr := g, aptr := a,
    copies := (s.sgf.matching s.sphBusy).pairs.foldl assignCell s.sgf.copies } := ⟨_, _, assign_sgf ..⟩

/-- A copy has as many cells in staging after the start of a matcher as before, under the same stamp. -/
theorem mem_startMatch {s : State} {q : Cpy} (h : q ∈ s.sgf.copies) :
    ∃ x ∈ s.startMatch.sgf.copies, x.fid = q.fid ∧ x.out = q.out ∧ x.moved = q.moved ∧ x.stag = q.stag := by
  obtain ⟨g, a, hm⟩ := startMatch_sgf s
  obtain ⟨n, hn⟩ := mem_foldl_assignCell (s.sgf.matching s.sphBusy).pairs h
  rw [hm]
  exact ⟨_, hn, rfl, rfl, rfl, rfl⟩

/-- The matchings that wait to be used. -/
def State.setXq (s : State) (l : List (List XPair)) : State := s.setSgf { s.sgf with xq := l }

theorem setXq_copies (s : State) (l : List (List XPair)) : (s.setXq l).sgf.copies = s.sgf.copies := rfl

theorem setXq_keeps (s : State) (l : List (List XPair)) : Keeps 0x1000 s (s.setXq l) := setSgf_keeps ..

/-- The oldest of the matchings is used, once two are two slots old (R296). -/
def State.useMatch (bad : List (Fin 65)) (s : State) : State :=
  match s.sgf.xq with
  | a :: b :: rest => (a.foldl (State.moveCell bad) s).setXq (b :: rest)
  | _ => s

theorem doCrossbarSlot_eq (bad : List (Fin 65)) (t : Nat) (s : State) :
    doCrossbarSlot bad t s = ((s.passTo t).useMatch bad).startMatch := rfl

section
variable {s : State} {bad : List (Fin 65)} {t : Nat}

theorem useMatch_early (h : s.sgf.xq.length < 2) : s.useMatch bad = s := by
  unfold State.useMatch
  split
  · next hq =>
    rw [hq] at h
    simp at h
  · rfl

theorem useMatch_single {x : XPair} {y : List XPair} {xs : List (List XPair)} (h : s.sgf.xq = [x] :: y :: xs) :
    s.useMatch bad = (s.moveCell bad x).setXq (y :: xs) := by
  simp only [State.useMatch, h, List.foldl_cons, List.foldl_nil]

theorem runs_crossbarSlot_early (h : s.sgf.xq.length < 2) : Runs (.crossbarSlot [] t) s fun u =>
      u.sgf.xq = s.sgf.xq ++ [(s.sgf.matching s.sphBusy).pairs]
      ∧ u.sgf.frames = s.sgf.frames ∧ u.sgf.ports = s.sgf.ports ∧ u.sgf.copies = (s.sgf.matching s.sphBusy).pairs.foldl (fun m z =>
          m.map fun q : Cpy => if q.fid = z.fid ∧ q.out = z.out then { q with asg := q.asg + 1 } else q) s.sgf.copies
      ∧ changesOnly [.clr, .sgf] s u := by
  have heq : doCrossbarSlot [] t s = (s.passTo t).startMatch := by
    rw [doCrossbarSlot_eq, useMatch_early (by rwa [passTo_sgf])]
  obtain ⟨g, a, hm⟩ := startMatch_sgf (s.passTo t)
  have hbusy : (s.passTo t).sphBusy = s.sphBusy := passTo_congr s t (·.sphBusy) fun _ => rfl
  rw [passTo_sgf, hbusy] at hm
  exact .of_eq (exec_crossbarSlot ..) heq ⟨by rw [hm], by rw [hm], by rw [hm], by rw [hm]; rfl,
    ((passTo_keeps s t).trans (startMatch_keeps _)).changesOnly rfl⟩

/-- The last of the n cells of a copy of frame id to output d reaches staging: the copy is complete, with the next stamp. -/
def State.staged (s : State) (id d n : Nat) : State :=
  let s1 := s.modCpy id d fun c => { c with moved := n, stag := some s.sgf.stamp }
  s1.setSgf { s1.sgf with stamp := s.sgf.stamp + 1 }

theorem staged_keeps (s : State) (id d n : Nat) : Keeps 0x1000 s (s.staged id d n) := (modCpy_keeps ..).trans (setSgf_keeps ..)

variable {id i d : Nat} {c : Cpy} (hc : s.sgf.copies.find? (fun q => q.fid == id && q.out == d) = some c)
include hc

theorem mem_staged (n : Nat) :
    ∃ q ∈ (s.staged id d n).sgf.copies, q.fid = id ∧ q.out = d ∧ q.moved = n ∧ q.stag = some s.sgf.stamp := by
  have hid : c.fid = id ∧ c.out = d := by simpa using List.find?_some hc
  have hmap := List.mem_map_of_mem (f := fun x : Cpy =>
    if x.fid = id ∧ x.out = d then { x with moved := n, stag := some s.sgf.stamp } else x) (List.mem_of_find?_eq_some hc)
  rw [if_pos hid] at hmap
  exact ⟨_, hmap, hid.1, hid.2, rfl, rfl⟩

variable {f : Machine.Frm} (hf : s.sgf.frame id = some f) (hw : f.whole = true) (hcut : c.cut = none) (hn : c.moved + 1 = f.cells)
include hf hw hcut hn

theorem moveCell_last : s.moveCell [] ⟨id, i, d⟩ = s.staged id d (c.moved + 1) := by
  have hlast : (f.whole && decide (c.moved + 1 = f.cells)) = true := by rw [hw, decide_eq_true hn]; rfl
  simp only [State.moveCell, hc, hf, hcut, hlast, Option.isSome_none, List.any_nil, Bool.false_eq_true, if_false, if_true]
  rfl

theorem runs_crossbarSlot_last {y : List XPair} {xs : List (List XPair)} (h : s.sgf.xq = [(⟨id, i, d⟩ : XPair)] :: y :: xs) :
    Runs (.crossbarSlot [] t) s fun u =>
      (∃ q ∈ u.sgf.copies, q.fid = id ∧ q.out = d ∧ q.moved = c.moved + 1 ∧ q.stag = some s.sgf.stamp)
      ∧ u.sgf.stamp = s.sgf.stamp + 1 ∧ (∃ z, u.sgf.xq = y :: xs ++ [z]) ∧ u.sgf.frames = s.sgf.frames ∧ changesOnly [.clr, .sgf] s u := by
  have hs := passTo_sgf (s := s) t
  have heq : doCrossbarSlot [] t s = (((s.passTo t).staged id d (c.moved + 1)).setXq (y :: xs)).startMatch := by
    rw [doCrossbarSlot_eq, useMatch_single (by rwa [hs]), moveCell_last (by rwa [hs]) (by rwa [hs]) hw hcut hn]
  obtain ⟨q, hq, hfid, hout, hmoved, hstag⟩ := mem_staged (s := s.passTo t) (by rwa [hs]) (c.moved + 1)
  obtain ⟨x, hx, hxf, hxo, hxm, hxs⟩ := mem_startMatch ((setXq_copies ((s.passTo t).staged id d (c.moved + 1)) (y :: xs)).symm ▸ hq)
  obtain ⟨g, a, hm⟩ := startMatch_sgf (((s.passTo t).staged id d (c.moved + 1)).setXq (y :: xs))
  have hk := (((passTo_keeps s t).trans (staged_keeps _ id d (c.moved + 1))).trans (setXq_keeps _ (y :: xs))).trans (startMatch_keeps _)
  exact .of_eq (exec_crossbarSlot ..) heq
    ⟨⟨x, hx, hxf.trans hfid, hxo.trans hout, hxm.trans hmoved, (hxs.trans hstag).trans (by rw [hs])⟩,
      by rw [hm, ← hs]; rfl, ⟨_, by rw [hm]; rfl⟩, by rw [hm, ← hs]; rfl, hk.changesOnly rfl⟩

end

/-! ### Transmission (R299, R311, R316) -/

section
variable {s : State} {o : Fin 64} {t id : Nat} {c : Cpy}

theorem runs_egressSelect (hst : (s.spPort o).st = .up) (htx : (s.spPort o).tx = none) (hsafe : s.flt.safe = false)
    (hsel : s.select o = some c) : Runs (.egressSelect o t) s fun u =>
      u.spPort o = { s.spPort o with tx := some c.fid } ∧ (∀ q, q ≠ o.val → u.spPort q = s.spPort q)
      ∧ u.sgf.copies = s.sgf.copies.map (fun q : Cpy => if q.fid = c.fid ∧ q.out = o.val then { q with txAt := some (s.passTo t).clr.now } else q)
      ∧ changesOnly [.clr, .sgf] s u := by
  have hgo : ¬ (((s.passTo t).spPort o).st ≠ .up ∨ ((s.passTo t).spPort o).tx.isSome = true ∨ (s.passTo t).flt.safe = true) := by
    rw [passTo_spPort, passTo_flt, hst, htx, hsafe]
    simp
  have hsel' : (s.passTo t).select o = some c := (passTo_congr s t (·.select o) fun _ => rfl).trans hsel
  have heq : doEgressSelect o t s = ((s.passTo t).setSpPort o { s.spPort o with tx := some c.fid }).modCpy c.fid o
      fun q => { q with txAt := some (s.passTo t).clr.now } := by
    unfold doEgressSelect
    dsimp only
    rw [if_neg hgo, hsel', passTo_spPort]
  refine .of_eq (exec_egressSelect ..) heq ⟨spPort_setSpPort_same .., fun q hq => ?_, ?_,
    (((passTo_keeps s t).trans (setSpPort_keeps ..)).trans (modCpy_keeps ..)).changesOnly rfl⟩
  · exact (spPort_setSpPort_ne (s.passTo t) _ hq).trans (passTo_spPort ..)
  · exact congrArg (fun g : Sgf => g.copies.map (fun q : Cpy =>
      if q.fid = c.fid ∧ q.out = o.val then { q with txAt := some (s.passTo t).clr.now } else q)) (passTo_sgf (s := s) t)

/-- The copy c of a good frame f has left by output o: its shaper is charged, and it counts in TX. -/
def State.txCounted (s : State) (o : Nat) (c : Cpy) (f : Frm) : State :=
  ((s.setSpPort o { s.spPort o with tx := none }).shpCharge o c.cls f.bytes.length).spCount o 7

theorem txCounted_keeps (s : State) (o : Nat) (c : Cpy) (f : Frm) : Keeps 0x1004 s (s.txCounted o c f) :=
  ((setSpPort_keeps ..).trans (shpCharge_keeps ..)).trans (spCount_keeps ..)

theorem txCounted_sgf (s : State) (o : Nat) (c : Cpy) (f : Frm) : ∃ a, (s.txCounted o c f).sgf =
    { s.sgf with ports := sset s.sgf.ports o { s.spPort o with tx := none }, shp := a } :=
  shpCharge_sgf (s.setSpPort o { s.spPort o with tx := none }) o c.cls f.bytes.length

theorem txCounted_reg (s : State) (o : Nat) (c : Cpy) (f : Frm) :
    (s.txCounted o c f).reg .SP_CNT [o, 7] = satInc (s.reg .SP_CNT [o, 7]) 1 :=
  (reg_setReg_same ..).trans (congrArg (satInc · 1) (((setSpPort_keeps ..).trans (shpCharge_keeps ..)).reg rfl rfl .SP_CNT [o, 7]))

theorem txCounted_otherRegs (s : State) (o : Nat) (c : Cpy) (f : Frm) : otherRegs [Reg.SP_CNT.at [o, 7]] s (s.txCounted o c f) :=
  .trans (.of_regs (((setSpPort_keeps ..).trans (shpCharge_keeps ..)).frame .regs rfl)) (.bump (.head _))

/-- The bytes b are on the wire of output o, and the copy of frame id to it is gone. -/
def State.wired (s : State) (o id : Nat) (b : List Byte) : State :=
  ((s.setSgf { s.sgf with wire := s.sgf.wire ++ [(o, b)] }).dropCpy fun x => x.fid == id && x.out == o).reap

theorem wired_keeps (s : State) (o id : Nat) (b : List Byte) : Keeps 0x3000 s (s.wired o id b) :=
  ((setSgf_keeps ..).trans (dropCpy_keeps ..)).trans (reap_keeps _)

theorem doTransmitEnd_whole {f : Machine.Frm} (htx : (s.spPort o).tx = some id)
    (hc : s.sgf.copies.find? (fun q => q.fid == id && q.out == o.val) = some c) (hf : s.sgf.frame id = some f) (hw : f.whole = true)
    (hm : f.cells ≤ c.moved) (hcut : c.cut = none) (hbad : f.bad = false) :
    ∃ g, doTransmitEnd o t s = (((s.passTo t).txCounted o c f).modFrm id g).wired o id f.bytes := by
  have hthere : (f.whole && decide (f.cells ≤ c.moved)) = true := by rw [hw, decide_eq_true hm]; rfl
  have hbytes : txBytes f c = f.bytes := by simp only [txBytes, hcut]
  simp only [doTransmitEnd, passTo_spPort, htx, passTo_sgf, hc, hf, hthere, hbytes, hcut, hbad, Bool.not_true, Bool.false_and,
    Option.isSome_none, Bool.or_self, Bool.false_eq_true, if_false]
  exact ⟨_, by rw [State.txCounted, passTo_spPort]; rfl⟩

theorem runs_transmitEnd {f : Machine.Frm} (htx : (s.spPort o).tx = some id)
    (hc : s.sgf.copies.find? (fun q => q.fid == id && q.out == o.val) = some c) (hf : s.sgf.frame id = some f) (hw : f.whole = true)
    (hm : f.cells ≤ c.moved) (hcut : c.cut = none) (hbad : f.bad = false) : Runs (.transmitEnd o t) s fun u =>
      u.sgf.wire = s.sgf.wire ++ [(o.val, f.bytes)] ∧ u.spPort o = { s.spPort o with tx := none }
      ∧ u.reg .SP_CNT [o.val, 7] = satInc (s.reg .SP_CNT [o.val, 7]) 1
      ∧ u.sgf.copies = s.sgf.copies.filter (fun q => !(q.fid == id && q.out == o.val))
      ∧ otherRegs [Reg.SP_CNT.at [o.val, 7]] s u ∧ changesOnly [.regs, .clr, .sgf, .hif] s u := by
  obtain ⟨g, heq⟩ := doTransmitEnd_whole (t := t) htx hc hf hw hm hcut hbad
  obtain ⟨a, hsgf⟩ := txCounted_sgf (s.passTo t) o c f
  have hcount := txCounted_keeps (s.passTo t) o c f
  have hbehind := (modFrm_keeps ((s.passTo t).txCounted o c f) id g).trans (wired_keeps _ o id f.bytes)
  rw [passTo_sgf, passTo_spPort] at hsgf
  refine .of_eq (exec_transmitEnd ..) heq ⟨?_, ?_, ?_, ?_, ?_, (((passTo_keeps s t).trans hcount).trans hbehind).changesOnly rfl⟩
  · have hwire : ((s.passTo t).txCounted o c f).sgf.wire = s.sgf.wire := by rw [hsgf]
    exact (reap_wire _).trans (congrArg (· ++ [(o.val, f.bytes)]) hwire)
  · have hports : ((((s.passTo t).txCounted o c f).modFrm id g).wired o id f.bytes).sgf.ports
        = sset s.sgf.ports o { s.spPort o with tx := none } := (reap_ports _).trans (congrArg Sgf.ports hsgf)
    rw [State.spPort, hports, sget_sset_same]
  · rw [hbehind.reg rfl rfl, txCounted_reg, passTo_reg]
  · have hcopies : ((s.passTo t).txCounted o c f).sgf.copies = s.sgf.copies := by rw [hsgf]
    exact (reap_copies _).trans (congrArg (List.filter fun q : Cpy => !(q.fid == id && q.out == o.val)) hcopies)
  · exact (passTo_otherRegs s t _).trans ((txCounted_otherRegs (s.passTo t) o c f).trans (.of_regs (hbehind.frame .regs rfl)))

end

/-- Settles O43: the first cell, own frames, the last cell, the crossbar and the transmission, each from its rule. -/
theorem framesThroughTheSwitch : Obligations.FramesThroughTheSwitch := by
  unfold Obligations.FramesThroughTheSwitch
  exact fun s p o l rest ts t id d k r c f x y xs a as n z zs => ⟨
    fun hup hidle hon hpause htrap hlook houts hopen hpol hin hfree hfresh hspace =>
      runs_frameIngress ⟨hup, hidle, hon, hpause, htrap, hlook.symm, houts, hopen, hpol, ⟨hin, hfree⟩, hfresh, hspace⟩,
    runs_frameIngress_announcement, fun hr hd htrap hid hlen hok => runs_frameComplete_good hr hd hid hlen htrap hok,
    runs_frameComplete_bad, runs_crossbarSlot_early, fun hq hc hf hw hcut hn => runs_crossbarSlot_last hc hf hw hcut hn hq,
    runs_egressSelect, runs_transmitEnd, runs_frameIngress_control⟩

end Sys2Proof.Machine
end

section
/-! PROOF. The input colour of a policer, and the writes of SHP_CFG and POL_CFG (O46, R315, R319, R322). -/
namespace Sys2Proof.Machine

/-! ### The input colour (R322) -/

section
variable (s : State)

@[simp] theorem inColour_zero (tag : Option (Nat × Bool)) : s.inColour 0 tag = 0 := by
  cases tag <;> rfl

/-- A policer in MODE 0 does not look at the tag. -/
theorem police_of_mode_zero {p c vid i : Nat} (hi : s.polEntry p c vid = some i) (hmode : fget 0 2 (s.polTok i).cfg = 0)
    (tag : Option (Nat × Bool)) (n : Nat) : s.police p c vid tag n = s.police p c vid none n := by
  simp only [State.police, hi, hmode, inColour_zero]

theorem pcpOf_tagged {l : List Byte} (h : isTagged l = true) :
    pcpOf l = some (byteAt l 14 / 32, decide (byteAt l 14 / 16 % 2 = 1)) := if_pos h

theorem pcpOf_untagged {l : List Byte} (h : ¬ isTagged l = true) : pcpOf l = none := if_neg h

theorem inColour_one (l : List Byte) :
    s.inColour 1 (pcpOf l) = if isTagged l = true ∧ byteAt l 14 / 16 % 2 = 1 then 1 else 0 := by
  by_cases h : isTagged l = true
  · simp [pcpOf_tagged h, State.inColour, b2n, h]
  · simp [pcpOf_untagged h, State.inColour, h]

theorem inColour_two (l : List Byte) : s.inColour 2 (pcpOf l)
    = if isTagged l = true then fget (2 * (byteAt l 14 / 32)) 2 (s.reg .TRC_PCPCOL []) else 0 := by
  by_cases h : isTagged l = true
  · rw [pcpOf_tagged h, if_pos h]
    rfl
  · rw [pcpOf_untagged h, if_neg h]
    rfl

end

/-! ### Fields that 3 keeps (R322, R323) -/

theorem fget_keep3_same {lo : Nat} (h : lo + 2 ≤ 32) (o v : Word) :
    fget lo 2 (keep3 lo o v) = if fget lo 2 v = 3 then fget lo 2 o else fget lo 2 v := by
  unfold keep3
  split
  · rw [fget_fput_same _ _ _ _ h, Nat.mod_eq_of_lt (fget_lt ..)]
  · rfl

theorem fget_keep3_beside {lo lo' len' : Nat} (h : lo + 2 ≤ 32) (hd : lo' + len' ≤ lo ∨ lo + 2 ≤ lo') (o v : Word) :
    fget lo' len' (keep3 lo o v) = fget lo' len' v := by
  unfold keep3
  split
  · exact fget_fput_ne _ _ h hd
  · rfl

/-- The word that a write of v stores in POL_CFG where it held o: a 3 in MODE, YEL_ACT or RED_ACT keeps that field. -/
def polCfgWord (o v : Word) : Word := keep3 0 o (keep3 4 o (keep3 6 o v))

section
variable (o v : Word)

theorem fget_polCfgWord_EN : fget 16 1 (polCfgWord o v) = fget 16 1 v := by
  rw [polCfgWord, fget_keep3_beside, fget_keep3_beside, fget_keep3_beside] <;> decide

theorem fget_polCfgWord_MODE : fget 0 2 (polCfgWord o v) = if fget 0 2 v = 3 then fget 0 2 o else fget 0 2 v := by
  rw [polCfgWord, fget_keep3_same, fget_keep3_beside, fget_keep3_beside] <;> decide

theorem fget_polCfgWord_YEL_ACT : fget 4 2 (polCfgWord o v) = if fget 4 2 v = 3 then fget 4 2 o else fget 4 2 v := by
  rw [polCfgWord, fget_keep3_beside, fget_keep3_same, fget_keep3_beside] <;> decide

theorem fget_polCfgWord_RED_ACT : fget 6 2 (polCfgWord o v) = if fget 6 2 v = 3 then fget 6 2 o else fget 6 2 v := by
  rw [polCfgWord, fget_keep3_beside, fget_keep3_beside, fget_keep3_same] <;> decide

end

/-! ### A write with APPLY asks for a commit (R315, R319) -/

/-- The commits that wait once one of n is asked for. -/
def askCommit (n : Nat) (l : List Nat) : List Nat := if l.contains n then l else l ++ [n]

theorem mem_askCommit (n : Nat) (l : List Nat) : n ∈ askCommit n l := by
  unfold askCommit
  split
  · next h => exact List.contains_iff_mem.1 h
  · exact List.mem_append_right l (.head _)

section
variable (n : Nat) {v : Word} (s : State)

theorem doShpCfg_apply (h : bit 31 v = true) :
    doShpCfg n v s = (s.wrCodes .SHP_CFG [n] v).setSgf { s.sgf with shpApply := askCommit n s.sgf.shpApply } := if_pos h

theorem doShpCfg_no_apply (h : bit 31 v = false) : doShpCfg n v s = s.wrCodes .SHP_CFG [n] v := if_neg (ne_true_of_eq_false h)

theorem doPolCfg_apply (h : bit 31 v = true) : doPolCfg n v s
    = (s.wrCodes .POL_CFG [n] (polCfgWord (s.reg .POL_CFG [n]) v)).setSgf
      { s.sgf with polApply := askCommit n s.sgf.polApply } := if_pos h

theorem doPolCfg_no_apply (h : bit 31 v = false) :
    doPolCfg n v s = s.wrCodes .POL_CFG [n] (polCfgWord (s.reg .POL_CFG [n]) v) := if_neg (ne_true_of_eq_false h)

end

section
variable (n : Nat) (v : Word) (s : State)

/-- Beside the commit that it asks for, a write of SHP_CFG does what the access codes do. -/
theorem doShpCfg_stores : (doShpCfg n v s).regs = (s.wrCodes .SHP_CFG [n] v).regs ∧ (doShpCfg n v s).sys = s.sys
    ∧ (doShpCfg n v s).sgf.shp = s.sgf.shp := by
  cases h : bit 31 v
  · rw [doShpCfg_no_apply n s h]
    exact ⟨rfl, rfl, rfl⟩
  · rw [doShpCfg_apply n s h]
    exact ⟨rfl, rfl, rfl⟩

/-- Beside the commit that it asks for, a write of POL_CFG does what the access codes do with the word that 3 keeps. -/
theorem doPolCfg_stores : (doPolCfg n v s).regs = (s.wrCodes .POL_CFG [n] (polCfgWord (s.reg .POL_CFG [n]) v)).regs
    ∧ (doPolCfg n v s).sys = s.sys ∧ (doPolCfg n v s).sgf.pol = s.sgf.pol := by
  cases h : bit 31 v
  · rw [doPolCfg_no_apply n s h]
    exact ⟨rfl, rfl, rfl⟩
  · rw [doPolCfg_apply n s h]
    exact ⟨rfl, rfl, rfl⟩

theorem doShpCfg_EN : (doShpCfg n v s).f SHP_CFG.EN [n] = fget 0 1 v := by
  obtain ⟨hregs, hsys, -⟩ := doShpCfg_stores n v s
  exact (f_of_reg (reg_congr hregs (congrArg Sys.stage hsys) ..)).trans
    (f_wrCodes_rw rfl (by decide) (by decide) (by decide) s [n] v)

/-- A field of POL_CFG that software writes holds what the stored word gives it. -/
theorem doPolCfg_f {x : Fld} (hr : x.reg = .POL_CFG) (hx : x.lo + x.len ≤ 17)
    (hrw : ∀ i < x.len, Reg.POL_CFG.row.rw.testBit (x.lo + i) = true) :
    (doPolCfg n v s).f x [n] = fget x.lo x.len (polCfgWord (s.reg .POL_CFG [n]) v) := by
  obtain ⟨hregs, hsys, -⟩ := doPolCfg_stores n v s
  exact (f_of_reg (reg_congr hregs (congrArg Sys.stage hsys) ..)).trans
    (f_wrCodes_rw hr (by omega) hrw (fun _ _ => Nat.zero_testBit _) s [n] _)

theorem doPolCfg_EN : (doPolCfg n v s).f POL_CFG.EN [n] = fget 16 1 v :=
  (doPolCfg_f n v s rfl (by decide) (by decide)).trans (fget_polCfgWord_EN ..)

theorem doPolCfg_MODE :
    (doPolCfg n v s).f POL_CFG.MODE [n] = if fget 0 2 v = 3 then s.f POL_CFG.MODE [n] else fget 0 2 v :=
  (doPolCfg_f n v s rfl (by decide) (by decide)).trans (fget_polCfgWord_MODE ..)

theorem doPolCfg_YEL_ACT :
    (doPolCfg n v s).f POL_CFG.YEL_ACT [n] = if fget 4 2 v = 3 then s.f POL_CFG.YEL_ACT [n] else fget 4 2 v :=
  (doPolCfg_f n v s rfl (by decide) (by decide)).trans (fget_polCfgWord_YEL_ACT ..)

theorem doPolCfg_RED_ACT :
    (doPolCfg n v s).f POL_CFG.RED_ACT [n] = if fget 6 2 v = 3 then s.f POL_CFG.RED_ACT [n] else fget 6 2 v :=
  (doPolCfg_f n v s rfl (by decide) (by decide)).trans (fget_polCfgWord_RED_ACT ..)

end

/-! ### What the two commands answer (R464) -/

section
variable {s : State} (ho : s.isOpen = true) (n : Fin 1024) (m : Fin 4096) (v : Word)
include ho

theorem exec_shaperApply : exec (.shaperApply n v) s = .next (doShpCfg n v s) :=
  congrArg Host.Outcome.next (hostWr_of_not_shut (not_shut ho (.inr (by decide)) nofun))

theorem exec_policerApply : exec (.policerApply m v) s = .next (doPolCfg m v s) :=
  congrArg Host.Outcome.next (hostWr_of_not_shut (not_shut ho (.inr (by decide)) nofun))

theorem runs_shaperApply : Runs (.shaperApply n v) s fun u => u.f SHP_CFG.EN [n.val] = fget 0 1 v ∧ u.sgf.shp = s.sgf.shp
    ∧ (bit 31 v = true → n.val ∈ u.sgf.shpApply) ∧ (bit 31 v = false → u.sgf = s.sgf) ∧ otherRegs [Reg.SHP_CFG.at [n.val]] s u
    ∧ changesOnly [.regs, .sgf] s u := by
  obtain ⟨hregs, -, hshp⟩ := doShpCfg_stores n v s
  refine ⟨_, exec_shaperApply ho n v, doShpCfg_EN n v s, hshp, fun h => ?_, fun h => ?_,
    (otherRegs_wrCodes s .SHP_CFG [n.val] v).trans (.of_regs hregs), (doShpCfg_keeps ..).changesOnly rfl⟩
  · rw [doShpCfg_apply n s h]
    exact mem_askCommit ..
  · rw [doShpCfg_no_apply n s h]
    rfl

theorem runs_policerApply : Runs (.policerApply m v) s fun u => u.f POL_CFG.EN [m.val] = fget 16 1 v
    ∧ u.f POL_CFG.MODE [m.val] = (if fget 0 2 v = 3 then s.f POL_CFG.MODE [m.val] else fget 0 2 v)
    ∧ u.f POL_CFG.YEL_ACT [m.val] = (if fget 4 2 v = 3 then s.f POL_CFG.YEL_ACT [m.val] else fget 4 2 v)
    ∧ u.f POL_CFG.RED_ACT [m.val] = (if fget 6 2 v = 3 then s.f POL_CFG.RED_ACT [m.val] else fget 6 2 v)
    ∧ u.sgf.pol = s.sgf.pol ∧ (bit 31 v = true → m.val ∈ u.sgf.polApply) ∧ (bit 31 v = false → u.sgf = s.sgf)
    ∧ otherRegs [Reg.POL_CFG.at [m.val]] s u ∧ changesOnly [.regs, .sgf] s u := by
  obtain ⟨hregs, -, hpol⟩ := doPolCfg_stores m v s
  refine ⟨_, exec_policerApply ho m v, doPolCfg_EN m v s, doPolCfg_MODE m v s, doPolCfg_YEL_ACT m v s, doPolCfg_RED_ACT m v s,
    hpol, fun h => ?_, fun h => ?_, (otherRegs_wrCodes s .POL_CFG [m.val] _).trans (.of_regs hregs),
    (doPolCfg_keeps ..).changesOnly rfl⟩
  · rw [doPolCfg_apply m s h]
    exact mem_askCommit ..
  · rw [doPolCfg_no_apply m s h]
    rfl

theorem runs_policerApply_keeps_MODE (h : fget 0 2 v = 3) :
    Runs (.policerApply m v) s fun u => u.f POL_CFG.MODE [m.val] = s.f POL_CFG.MODE [m.val] :=
  ⟨_, exec_policerApply ho m v, (doPolCfg_MODE m v s).trans (if_pos h)⟩

end

/-- Settles O46: in MODE 0 the frame's tag plays no part, MODE 1 and MODE 2 read it as R322's table says, and 3 is not stored. -/
theorem inputColour : Obligations.InputColour := by
  unfold Obligations.InputColour
  refine fun s p c vid n i l m v => ⟨fun hi hmode => ?_, inColour_one s l, inColour_two s l,
    fun ho h => runs_policerApply_keeps_MODE ho m v h⟩
  rw [police_of_mode_zero s hi hmode (pcpOf l) n]
  exact ⟨rfl, rfl, rfl, rfl⟩

end Sys2Proof.Machine
end

section
/-! PROOF. Token refills with the commits they make (O45, R313, R315, R319). -/
namespace Sys2Proof.Machine

/-! ### Tables changed entry by entry -/

/-- Reading a table whose entries were all changed, where the change leaves the default as it is. -/
theorem sget_map {α : Type} {d : α} {a : Nat} (g : Nat → α → α) (m : SMap α) (hd : g a d = d) :
    sget d (m.map fun p => (p.1, g p.1 p.2)) a = g a (sget d m a) := by
  induction m with
  | nil => exact hd.symm
  | cons p m ih =>
    rw [List.map_cons, sget, sget]
    split
    · next h => rw [h]
    · exact ih

/-! ### Buckets (R313, R315) -/

theorem milli_eq (n : Nat) : milli n = 8000 * n := by
  unfold milli
  omega

theorem Tok.refill_eq (k : Tok) :
    k.refill = { k with tc := min (8000 * k.cbs) (k.tc + k.cir), tp := min (8000 * k.pbs) (k.tp + k.pir) } := by
  rw [Tok.refill, milli_eq, milli_eq]

theorem Tok.refill_reset : Tok.reset.refill = Tok.reset := by decide

/-- A parameter set with full buckets. -/
def Tok.full (k : Tok) : Tok := { k with tc := 8000 * k.cbs, tp := 8000 * k.pbs }

/-- The first commit of an enabled set fills the buckets (R315). -/
theorem Tok.commit_first {k n : Tok} (hn : n.en = true) (hk : k.en = false) : k.commit n = n.full := by
  simp [Tok.commit, hn, hk, milli_eq, Tok.full]

theorem Tok.refill_full (k : Tok) : k.full.refill = k.full := by
  have hcap (a b : Nat) : min (8000 * (a : Int)) (8000 * a + b) = 8000 * a := by omega
  rw [Tok.refill_eq, Tok.full, hcap, hcap]

theorem sget_refilled (m : SMap Tok) (j : Nat) :
    sget Tok.reset (m.map fun p => (p.1, p.2.refill)) j = (sget Tok.reset m j).refill :=
  sget_map (fun _ => Tok.refill) m Tok.refill_reset

/-! ### Commits (R315, R319) -/

section
variable {s : State} {i : Nat}

theorem shpCommit_refused (h : s.f SHP_PIR.PIR [i] ≠ 0 ∧ s.f SHP_PIR.PIR [i] < s.f SHP_CIR.CIR [i]) :
    s.shpCommit i = s.setF TRC_EVT.PAR_REJ [] 1 := (if_pos h).trans (raise_of_no_source s [] rfl)

theorem shpCommit_first (h : s.f SHP_PIR.PIR [i] = 0 ∨ s.f SHP_CIR.CIR [i] ≤ s.f SHP_PIR.PIR [i])
    (hen : s.fb SHP_CFG.EN [i] = true) (hoff : (sget Tok.reset s.sgf.shp i).en = false) :
    s.shpCommit i = s.setSgf { s.sgf with shp := sset s.sgf.shp i (s.shpStaged i).full } := by
  have hnew : ¬ ((s.shpStaged i).pir ≠ 0 ∧ (s.shpStaged i).pir < (s.shpStaged i).cir) :=
    fun hbad => h.elim hbad.1 (Nat.not_le.2 hbad.2)
  rw [State.shpCommit, if_neg hnew, Tok.commit_first hen hoff]

theorem polCommit_refused (h : s.f POL_PIR.PIR [i] < s.f POL_CIR.CIR [i] ∨ s.f POL_CBS.CBS [i] = 0 ∨ s.f POL_PBS.PBS [i] = 0) :
    s.polCommit i = s.setF TRC_EVT.PAR_REJ [] 1 := (if_pos h).trans (raise_of_no_source s [] rfl)

theorem polCommit_first (hrate : s.f POL_CIR.CIR [i] ≤ s.f POL_PIR.PIR [i]) (hcbs : s.f POL_CBS.CBS [i] ≠ 0)
    (hpbs : s.f POL_PBS.PBS [i] ≠ 0) (hen : s.fb POL_CFG.EN [i] = true) (hoff : (sget Tok.reset s.sgf.pol i).en = false) :
    s.polCommit i = s.setSgf { s.sgf with pol := sset s.sgf.pol i (s.polStaged i).full } := by
  have hnew : ¬ ((s.polStaged i).pir < (s.polStaged i).cir ∨ (s.polStaged i).cbs = 0 ∨ (s.polStaged i).pbs = 0) :=
    fun hbad => hbad.elim (Nat.not_lt.2 hrate) fun hz => hz.elim hcbs hpbs
  rw [State.polCommit, if_neg hnew, Tok.commit_first hen hoff]

/-- The commits that wait, made one after the other. -/
def State.committed (s : State) : State := s.sgf.polApply.foldl State.polCommit (s.sgf.shpApply.foldl State.shpCommit s)

theorem committed_none (hs : s.sgf.shpApply = []) (hp : s.sgf.polApply = []) : s.committed = s := by
  rw [State.committed, hs, hp]
  rfl

theorem committed_shaper (hs : s.sgf.shpApply = [i]) (hp : s.sgf.polApply = []) : s.committed = s.shpCommit i := by
  rw [State.committed, hs, hp]
  rfl

theorem committed_policer (hs : s.sgf.shpApply = []) (hp : s.sgf.polApply = [i]) : s.committed = s.polCommit i := by
  rw [State.committed, hs, hp]
  rfl

end

/-! ### A refill behind its commits (R313) -/

section
variable (s : State) (t : Nat)

/-- What a refill does to the state in which its commits were made. -/
structure RefillOf (c u : State) : Prop where
  shp : u.sgf.shp = c.sgf.shp.map fun q => (q.1, q.2.refill)
  pol : u.sgf.pol = c.sgf.pol.map fun q => (q.1, q.2.refill)
  shpApply : u.sgf.shpApply = []
  polApply : u.sgf.polApply = []
  keeps : Keeps 0x1000 c u

theorem doTokenRefill_refills : RefillOf (s.passTo t).committed (doTokenRefill t s) := ⟨rfl, rfl, rfl, rfl, setSgf_keeps ..⟩

theorem exec_tokenRefill : exec (.tokenRefill t) s = .next (doTokenRefill t s) := rfl

variable {s t} {c u : State}

theorem RefillOf.shaper (h : RefillOf c u) (j : Nat) : sget Tok.reset u.sgf.shp j = (sget Tok.reset c.sgf.shp j).refill := by
  rw [h.shp, sget_refilled]

theorem RefillOf.policer (h : RefillOf c u) (j : Nat) : sget Tok.reset u.sgf.pol j = (sget Tok.reset c.sgf.pol j).refill := by
  rw [h.pol, sget_refilled]

/-- Where the commits change no more than the switch, so does the whole command. -/
theorem RefillOf.changesOnly (h : RefillOf c u) (hc : Keeps 0x1000 (s.passTo t) c) : changesOnly [.clr, .sgf] s u :=
  ((passTo_keeps s t).trans (hc.trans h.keeps)).changesOnly rfl

/-- A refused commit leaves PAR_REJ, and buckets that were refilled as ever. -/
theorem RefillOf.of_refused (h : RefillOf c u) (hc : c = (s.passTo t).setF TRC_EVT.PAR_REJ [] 1) :
    u.f TRC_EVT.PAR_REJ [] = 1 ∧ u.sgf.shp = s.sgf.shp.map (fun q => (q.1, q.2.refill))
      ∧ u.sgf.pol = s.sgf.pol.map (fun q => (q.1, q.2.refill)) ∧ otherRegs [Reg.TRC_EVT.at []] s u := by
  subst hc
  refine ⟨(h.keeps.f rfl rfl ..).trans (f_setF_same _ _ _ _ (by decide)), ?_, ?_,
    (passTo_otherRegs s t _).trans (.trans (.setF (.head _)) (.of_regs (h.keeps.frame .regs rfl)))⟩
  · rw [h.shp, State.setF_sgf, passTo_sgf]
  · rw [h.pol, State.setF_sgf, passTo_sgf]

end

/-! ### The commands -/

section
variable {s : State} {t i : Nat}

theorem runs_tokenRefill (hs : s.sgf.shpApply = []) (hp : s.sgf.polApply = []) : Runs (.tokenRefill t) s fun u =>
    (∀ j, ∀ k, k = sget Tok.reset s.sgf.shp j →
      sget Tok.reset u.sgf.shp j = { k with tc := min (8000 * k.cbs) (k.tc + k.cir), tp := min (8000 * k.pbs) (k.tp + k.pir) })
    ∧ (∀ j, ∀ k, k = sget Tok.reset s.sgf.pol j →
      sget Tok.reset u.sgf.pol j = { k with tc := min (8000 * k.cbs) (k.tc + k.cir), tp := min (8000 * k.pbs) (k.tp + k.pir) })
    ∧ changesOnly [.clr, .sgf] s u := by
  have h := doTokenRefill_refills s t
  rw [committed_none (by rwa [passTo_sgf]) (by rwa [passTo_sgf])] at h
  refine ⟨_, exec_tokenRefill s t, ?_, ?_, h.changesOnly .refl⟩
  · rintro j _ rfl
    rw [h.shaper, passTo_sgf, Tok.refill_eq]
  · rintro j _ rfl
    rw [h.policer, passTo_sgf, Tok.refill_eq]

theorem runs_tokenRefill_shaper_refused (hs : s.sgf.shpApply = [i]) (hp : s.sgf.polApply = []) (hpir : s.f SHP_PIR.PIR [i] ≠ 0)
    (hlow : s.f SHP_PIR.PIR [i] < s.f SHP_CIR.CIR [i]) : Runs (.tokenRefill t) s fun u =>
      u.f TRC_EVT.PAR_REJ [] = 1 ∧ u.sgf.shp = s.sgf.shp.map (fun q => (q.1, q.2.refill))
      ∧ u.sgf.shpApply = [] ∧ otherRegs [Reg.TRC_EVT.at []] s u := by
  have h := doTokenRefill_refills s t
  obtain ⟨hrej, hshp, -, hregs⟩ := h.of_refused ((committed_shaper (by rwa [passTo_sgf]) (by rwa [passTo_sgf])).trans
    (shpCommit_refused (by simpa only [passTo_f] using ⟨hpir, hlow⟩)))
  exact ⟨_, exec_tokenRefill s t, hrej, hshp, h.shpApply, hregs⟩

theorem runs_tokenRefill_policer_refused (hs : s.sgf.shpApply = []) (hp : s.sgf.polApply = [i])
    (hbad : s.f POL_PIR.PIR [i] < s.f POL_CIR.CIR [i] ∨ s.f POL_CBS.CBS [i] = 0 ∨ s.f POL_PBS.PBS [i] = 0) :
    Runs (.tokenRefill t) s fun u => u.f TRC_EVT.PAR_REJ [] = 1 ∧ u.sgf.pol = s.sgf.pol.map (fun q => (q.1, q.2.refill))
      ∧ u.sgf.polApply = [] ∧ otherRegs [Reg.TRC_EVT.at []] s u := by
  have h := doTokenRefill_refills s t
  obtain ⟨hrej, -, hpol, hregs⟩ := h.of_refused ((committed_policer (by rwa [passTo_sgf]) (by rwa [passTo_sgf])).trans
    (polCommit_refused (by simpa only [passTo_f] using hbad)))
  exact ⟨_, exec_tokenRefill s t, hrej, hpol, h.polApply, hregs⟩

theorem shpStaged_full_passTo (hen : s.fb SHP_CFG.EN [i] = true) : ((s.passTo t).shpStaged i).full
    = ⟨true, s.f SHP_CIR.CIR [i], s.f SHP_PIR.PIR [i], s.f SHP_CBS.CBS [i], s.f SHP_PBS.PBS [i],
      8000 * s.f SHP_CBS.CBS [i], 8000 * s.f SHP_PBS.PBS [i], 0⟩ := by
  simp only [State.shpStaged, Tok.full, passTo_f, passTo_fb, hen]

theorem polStaged_full_passTo (hen : s.fb POL_CFG.EN [i] = true) : ((s.passTo t).polStaged i).full
    = ⟨true, s.f POL_CIR.CIR [i], s.f POL_PIR.PIR [i], s.f POL_CBS.CBS [i], s.f POL_PBS.PBS [i],
      8000 * s.f POL_CBS.CBS [i], 8000 * s.f POL_PBS.PBS [i], s.reg .POL_CFG [i]⟩ := by
  simp only [State.polStaged, Tok.full, passTo_f, passTo_fb, passTo_reg, hen]

theorem runs_tokenRefill_shaper_first (hs : s.sgf.shpApply = [i]) (hp : s.sgf.polApply = [])
    (hrate : s.f SHP_PIR.PIR [i] = 0 ∨ s.f SHP_CIR.CIR [i] ≤ s.f SHP_PIR.PIR [i]) (hen : s.fb SHP_CFG.EN [i] = true)
    (hoff : (sget Tok.reset s.sgf.shp i).en = false) : Runs (.tokenRefill t) s fun u =>
      sget Tok.reset u.sgf.shp i = ⟨true, s.f SHP_CIR.CIR [i], s.f SHP_PIR.PIR [i], s.f SHP_CBS.CBS [i], s.f SHP_PBS.PBS [i],
        8000 * s.f SHP_CBS.CBS [i], 8000 * s.f SHP_PBS.PBS [i], 0⟩
      ∧ u.sgf.shpApply = [] ∧ changesOnly [.clr, .sgf] s u := by
  have h := doTokenRefill_refills s t
  rw [committed_shaper (by rwa [passTo_sgf]) (by rwa [passTo_sgf]), shpCommit_first (by simpa only [passTo_f] using hrate)
    (by rwa [passTo_fb]) (by rwa [passTo_sgf])] at h
  refine ⟨_, exec_tokenRefill s t, ?_, h.shpApply, h.changesOnly (setSgf_keeps ..)⟩
  rw [h.shaper, State.setSgf_sgf, sget_sset_same, Tok.refill_full, shpStaged_full_passTo hen]

theorem runs_tokenRefill_policer_first (hs : s.sgf.shpApply = []) (hp : s.sgf.polApply = [i])
    (hrate : s.f POL_CIR.CIR [i] ≤ s.f POL_PIR.PIR [i]) (hcbs : s.f POL_CBS.CBS [i] ≠ 0) (hpbs : s.f POL_PBS.PBS [i] ≠ 0)
    (hen : s.fb POL_CFG.EN [i] = true) (hoff : (sget Tok.reset s.sgf.pol i).en = false) : Runs (.tokenRefill t) s fun u =>
      sget Tok.reset u.sgf.pol i = ⟨true, s.f POL_CIR.CIR [i], s.f POL_PIR.PIR [i], s.f POL_CBS.CBS [i], s.f POL_PBS.PBS [i],
        8000 * s.f POL_CBS.CBS [i], 8000 * s.f POL_PBS.PBS [i], s.reg .POL_CFG [i]⟩
      ∧ u.sgf.polApply = [] ∧ changesOnly [.clr, .sgf] s u := by
  have h := doTokenRefill_refills s t
  rw [committed_policer (by rwa [passTo_sgf]) (by rwa [passTo_sgf]), polCommit_first (by rwa [passTo_f, passTo_f])
    (by rwa [passTo_f]) (by rwa [passTo_f]) (by rwa [passTo_fb]) (by rwa [passTo_sgf])] at h
  refine ⟨_, exec_tokenRefill s t, ?_, h.polApply, h.changesOnly (setSgf_keeps ..)⟩
  rw [h.policer, State.setSgf_sgf, sget_sset_same, Tok.refill_full, polStaged_full_passTo hen]

end

end Sys2Proof.Machine
end

section
/-! PROOF. The samples of the queues, and the statement on traffic control (O45, R326, R331). -/
namespace Sys2Proof.Machine

/-! ### The queues that hold a copy (R325) -/

theorem sfind_eq_none {α : Type} {m : SMap α} {a : Nat} (h : ∀ p ∈ m, p.1 ≠ a) : sfind m a = none := by
  induction m with
  | nil => rfl
  | cons p m ih => rw [sfind, if_neg (h p (.head _)), ih fun q hq => h q (.tail _ hq)]

theorem mem_foldl_sset {α β : Type} {key : α → Nat} {val : α → β} {l : List α} {m : SMap β} {p : Nat × β}
    (h : p ∈ l.foldl (fun m x => sset m (key x) (val x)) m) : (∃ x ∈ l, key x = p.1) ∨ p ∈ m := by
  induction l generalizing m with
  | nil => exact .inr h
  | cons x l ih =>
    rcases ih h with ⟨y, hy, hkey⟩ | hp
    · exact .inl ⟨y, .tail _ hy, hkey⟩
    · exact (mem_sset hp).imp_left fun e => ⟨x, .head _, (congrArg Prod.fst e).symm⟩

section
variable {g : Sgf} {q : Nat} {x : Cpy}

theorem ne_of_mem_busyQueues (h : ∀ c ∈ g.copies, queueNo c.inp c.out c.cls ≠ q) : ∀ p ∈ g.busyQueues, p.1 ≠ q := by
  rintro p hp rfl
  rcases mem_foldl_sset hp with ⟨c, hc, hq⟩ | hnil
  · exact h c hc hq
  · cases hnil

theorem busyQueues_one (h : g.copies = [x]) : g.busyQueues = [(queueNo x.inp x.out x.cls, x.inp, x.out, x.cls)] := by
  rw [Sgf.busyQueues, h]
  rfl

end

/-! ### Samples (R326) -/

theorem Obs.sample_reset (tau : Nat) : Obs.reset.sample tau 0 0 = Obs.reset := by
  have hasr : asr 0 tau = 0 := Int.zero_ediv _
  simp [Obs.sample, Obs.reset, hasr, low, usat, clampI]

section
variable (g : Sgf) (now tau : Nat)

/-- The observer o of queue k once the queues without copies were sampled. -/
def Sgf.idle (k : Nat) (o : Obs) : Obs := if (sfind g.busyQueues k).isSome then o else o.sample tau 0 0

/-- The observers once the queues without copies were sampled. -/
def Sgf.idled : SMap Obs := g.obs.map fun p => if (sfind g.busyQueues p.1).isSome then p else (p.1, p.2.sample tau 0 0)

/-- The sample of the queue p, which holds a copy. -/
def Sgf.sampleOf (m : SMap Obs) (p : Nat × Nat × Nat × Nat) : SMap Obs :=
  sset m p.1 ((sget Obs.reset m p.1).sample tau (g.depth p.2.1 p.2.2.1 p.2.2.2) (g.headDelay now p.2.1 p.2.2.1 p.2.2.2))

/-- The observers after a sample. -/
def Sgf.sampled : SMap Obs := g.busyQueues.foldl (g.sampleOf now tau) (g.idled tau)

theorem sget_idled (q : Nat) : sget Obs.reset (g.idled tau) q = g.idle tau q (sget Obs.reset g.obs q) := by
  have hmap : g.idled tau = g.obs.map fun p => (p.1, g.idle tau p.1 p.2) := by
    refine List.map_congr_left fun p _ => ?_
    unfold Sgf.idle
    split <;> rfl
  have hreset : g.idle tau q Obs.reset = Obs.reset := by rw [Sgf.idle, Obs.sample_reset, ite_self]
  rw [hmap, sget_map (g.idle tau) g.obs hreset]

theorem sget_foldl_sampleOf {q : Nat} {l : SMap (Nat × Nat × Nat)} (h : ∀ p ∈ l, p.1 ≠ q) (m : SMap Obs) :
    sget Obs.reset (l.foldl (g.sampleOf now tau) m) q = sget Obs.reset m q := by
  induction l generalizing m with
  | nil => rfl
  | cons p l ih => exact (ih (fun r hr => h r (.tail _ hr)) _).trans (sget_sset_ne _ _ _ (h p (.head _)))

/-- A queue without copies is sampled with depth and delay 0. -/
theorem sget_sampled_of_empty {q : Nat} (h : ∀ c ∈ g.copies, queueNo c.inp c.out c.cls ≠ q) :
    sget Obs.reset (g.sampled now tau) q = (sget Obs.reset g.obs q).sample tau 0 0 := by
  have hbusy := ne_of_mem_busyQueues h
  rw [Sgf.sampled, sget_foldl_sampleOf g now tau hbusy, sget_idled, Sgf.idle, sfind_eq_none hbusy]
  rfl

/-- The queue of the only copy is sampled with its depth and the delay of that copy. -/
theorem sget_sampled_one {x : Cpy} (h : g.copies = [x]) : sget Obs.reset (g.sampled now tau) (queueNo x.inp x.out x.cls)
    = (sget Obs.reset g.obs (queueNo x.inp x.out x.cls)).sample tau (g.depth x.inp x.out x.cls)
        (g.headDelay now x.inp x.out x.cls) := by
  have hbusy := busyQueues_one h
  have hidle : sget Obs.reset (g.idled tau) (queueNo x.inp x.out x.cls)
      = sget Obs.reset g.obs (queueNo x.inp x.out x.cls) := by
    rw [sget_idled, Sgf.idle, hbusy]
    simp [sfind]
  rw [Sgf.sampled, hbusy, List.foldl_cons, List.foldl_nil, Sgf.sampleOf, sget_sset_same, hidle]

end

/-! ### QUEUE_SAMPLE -/

section
variable {s : State} {t : Nat}

theorem doQueueSample_off (h : s.fb TRC_CTRL.OBS_EN [] = false) : doQueueSample t s = s.passTo t :=
  if_pos (by rw [passTo_fb, h]; rfl)

theorem doQueueSample_on (h : s.fb TRC_CTRL.OBS_EN [] = true) : (doQueueSample t s).sgf
    = { s.sgf with obs := s.sgf.sampled (s.passTo t).clr.now (s.f TRC_CTRL.OBS_TAU []), obsSeq := s.sgf.obsSeq + 1 } := by
  have hon : ¬ (!(s.passTo t).fb TRC_CTRL.OBS_EN []) = true := by rw [passTo_fb, h]; decide
  rw [doQueueSample, if_neg hon, State.setSgf_sgf, passTo_sgf, passTo_f]
  rfl

theorem exec_queueSample (t : Nat) (s : State) : exec (.queueSample t) s = .next (doQueueSample t s) := rfl

theorem runs_queueSample (x : Cpy) : Runs (.queueSample t) s fun u => changesOnly [.clr, .sgf] s u
    ∧ (s.fb TRC_CTRL.OBS_EN [] = false → u.sgf = s.sgf)
    ∧ (s.fb TRC_CTRL.OBS_EN [] = true → u.sgf.obsSeq = s.sgf.obsSeq + 1 ∧ u.sgf.copies = s.sgf.copies
      ∧ (∀ q, (∀ c ∈ s.sgf.copies, queueNo c.inp c.out c.cls ≠ q) → (sget Obs.reset u.sgf.obs q).dnow = 0)
      ∧ (s.sgf.copies = [x] → ∀ q, q = queueNo x.inp x.out x.cls → ∀ d, d = s.sgf.depth x.inp x.out x.cls →
        (sget Obs.reset u.sgf.obs q).dnow = d % 2 ^ 16
          ∧ (sget Obs.reset u.sgf.obs q).dmax = max (sget Obs.reset s.sgf.obs q).dmax d % 2 ^ 16)) := by
  refine ⟨_, exec_queueSample t s, (doQueueSample_keeps t s).changesOnly rfl, fun hoff => ?_, fun hon => ?_⟩
  · rw [doQueueSample_off hoff, passTo_sgf]
  · rw [doQueueSample_on hon]
    refine ⟨rfl, rfl, fun q hq => ?_, ?_⟩
    · rw [sget_sampled_of_empty _ _ _ hq]
      rfl
    · rintro hone _ rfl _ rfl
      rw [sget_sampled_one _ _ _ hone]
      exact ⟨rfl, rfl⟩

end

/-- Settles O45: refills, commits refused and taken, the two writes, and the samples, each from its rule. -/
theorem trafficControl : Obligations.TrafficControl := by
  unfold Obligations.TrafficControl
  exact fun s t i n m v x => ⟨runs_tokenRefill, runs_tokenRefill_shaper_refused, runs_tokenRefill_shaper_first,
    fun ho => runs_shaperApply ho n v, fun ho => runs_policerApply ho m v, runs_queueSample x,
    runs_tokenRefill_policer_refused, runs_tokenRefill_policer_first⟩

end Sys2Proof.Machine
end

section
/-! PROOF. The stages of the boot (O9, R461 to R463), and the bound on the boot stage (O5). -/
namespace Sys2Proof.Machine

/-! ### Parts that were kept -/

theorem Keeps.readySince {m : Nat} {s t : State} (h : Keeps m s t) (hm : m.testBit 1 = false) :
    t.sys.readySince = s.sys.readySince := by
  have hs : t.sys.rest = s.sys.rest := h.frame .sys hm
  exact congrArg (·.readySince) hs

theorem Keeps.sysStopped {m : Nat} {s t : State} (h : Keeps m s t) (hm : m.testBit 1 = false) :
    t.sys.stopped = s.sys.stopped := by
  have hs : t.sys.rest = s.sys.rest := h.frame .sys hm
  exact congrArg (·.stopped) hs

/-! ### Tables written in one go -/

/-- A table made of a list of keys holds at each of them what was listed for it. -/
theorem sget_map_of_mem {α : Type} (d : α) (g : Nat → α) {l : List Nat} {k : Nat} (h : k ∈ l) :
    sget d (l.map fun e => (e, g e)) k = g k := by
  induction l with
  | nil => simp at h
  | cons a l ih =>
    by_cases hk : a = k
    · simp [sget, hk]
    · simpa [sget, hk] using ih (List.mem_of_ne_of_mem (Ne.symm hk) h)

/-! ### One stage after the other (R461) -/

theorem nextStage_stage (s : State) : s.nextStage.sys.stage = s.sys.stage + 1 := rfl

/-- The rest of stage 6 leaves the boot stage. -/
theorem bootData_stage (s : State) : s.bootData.sys.stage = s.sys.stage + 1 := by
  have h : Keeps 0x1e8004 s.nextStage s.bootData := by
    unfold State.bootData
    exact .foldl (.upd (.foldl ((setThm_keeps ..).step ((loadF_keeps ..).step .refl rfl) rfl)
      fun _ _ hu => .ite ((pwmStart_keeps ..).step hu rfl) hu)) fun _ _ hu => (setReg_keeps ..).step hu rfl
  exact h.stage rfl

theorem bootFaults_stage (s : State) : s.bootFaults.sys.stage = s.sys.stage + 1 := by
  have h : Keeps 0x8004 s.nextStage s.bootFaults := by
    unfold State.bootFaults
    exact .foldl ((loadF_keeps ..).step .refl rfl) fun _ _ hu => (escUpdate_keeps ..).step hu rfl
  exact h.stage rfl

/-- Stage 14 sets READY and ends the phase START before it takes its role and tells a rollback. -/
theorem bootReady_keeps_ready (s : State) :
    Keeps 0x102704 { s.nextStage with
      sys := { s.nextStage.sys with readySince := true }, thm := { s.nextStage.thm with start := false } } s.bootReady := by
  unfold State.bootReady
  dsimp only
  split
  · exact (mgmtEvent_keeps ..).step ((setPrl_keeps ..).step (roleStep_keeps _) rfl) rfl
  · exact roleStep_keeps _

theorem bootStop_facts (s : State) : s.bootStop.sys.stage = s.sys.stage ∧ s.bootStop.sys.stopped = true
    ∧ s.bootStop.reg .PRL_BOOT [] = wd (2 ^ 31 + s.sys.stage * 2 ^ 24 + bootCause s.sys.stage) := by
  unfold State.bootStop
  extract_lets n s1
  refine ⟨(logPut_keeps ..).stage rfl, (logPut_keeps ..).sysStopped rfl, ?_⟩
  rw [(logPut_keeps ..).reg rfl rfl]
  exact reg_setReg_same ..

/-! ### What a BOOT_STAGE does -/

/-- What a stage whose tests pass leaves (R461). -/
def State.bootPassed (s : State) : State :=
  match s.sys.stage with
  | 2 => State.nextStage { s with plk := { s.plk with pumpOk := s.sys.hvOk }, prl := { s.prl with awake := true } }
  | 3 => s.bootImage
  | 4 => State.nextStage { s with prl := { s.prl with remap := true } }
  | 6 => s.bootData
  | 9 => s.bootDrive
  | 10 => s.bootLoops
  | 13 => s.bootFaults
  | 14 => s.bootReady
  | _ => s.nextStage

theorem bootPassed_four {s : State} (h : s.sys.stage = 4) :
    s.bootPassed = State.nextStage { s with prl := { s.prl with remap := true } } := by simp [State.bootPassed, h]
theorem bootPassed_nine {s : State} (h : s.sys.stage = 9) : s.bootPassed = s.bootDrive := by simp [State.bootPassed, h]
theorem bootPassed_ten {s : State} (h : s.sys.stage = 10) : s.bootPassed = s.bootLoops := by simp [State.bootPassed, h]
theorem bootPassed_fourteen {s : State} (h : s.sys.stage = 14) : s.bootPassed = s.bootReady := by simp [State.bootPassed, h]

theorem exec_bootStage (s : State) (b : BootIn) : exec (.bootStage b) s = .next (doBootStage b s) := rfl

section
variable {s : State} {b : BootIn} (hr : s.inReset = false) (hs : s.sys.stopped = false)
include hr hs

/-- A stage that fails stops the boot where PRL_BOOT has a cause for it. -/
theorem doBootStage_fails (hb : b.ok = false ∨ s.sys.stage = 14 ∧ s.selfTest = false) (hc : bootCause s.sys.stage ≠ 0)
    (h3 : s.sys.stage = 3 → s.sys.bootSrc = false) : doBootStage b s = s.bootStop := by
  have h15 : ¬ 15 ≤ s.sys.stage := fun h => hc (by
    unfold bootCause; split <;> omega)
  unfold doBootStage
  rw [if_neg (by simp [hr, hs, h15]), if_neg (fun h => by simp [h3 h.1] at h), if_pos, if_neg hc]
  rcases hb with h | ⟨h14, h⟩ <;> simp [*]

/-- A stage whose tests pass, outside stage 3, which has an image to find. -/
theorem doBootStage_passes (h15 : s.sys.stage < 15) (h3 : s.sys.stage ≠ 3) (hb : b.ok = true)
    (h14 : s.sys.stage = 14 → s.selfTest = true) : doBootStage b s = s.bootPassed := by
  have hfail : ¬ ((!b.ok || (decide (s.sys.stage = 14) && !s.selfTest)) = true) := by
    by_cases h : s.sys.stage = 14 <;> simp [hb, h, h14]
  have hlive : ¬ ((s.inReset || s.sys.stopped || decide (15 ≤ s.sys.stage)) = true) := by simp [hr, hs]; omega
  unfold doBootStage
  rw [if_neg hlive, if_neg (fun h => h3 h.1), if_neg hfail]
  rfl

end

/-! ### The clauses -/

theorem bootPassed_stage {s : State} (h : s.sys.stage ∈ [0, 1, 2, 4, 5, 6, 7, 8, 9, 10, 11, 12, 13]) :
    s.bootPassed.sys.stage = s.sys.stage + 1 := by
  unfold State.bootPassed
  split
  · rfl
  · simp_all
  · rfl
  · exact bootData_stage s
  · rfl
  · rfl
  · exact bootFaults_stage s
  · simp_all
  · rfl

/-- Stage 9 leaves every lane as `restLane` says. -/
theorem lane_bootDrive (s : State) {e : Nat} (he : e < 36864) : s.bootDrive.lane e = s.nextStage.restLane e :=
by
  have hmem : e ∈ List.range 36864 := List.mem_range.mpr he
  unfold State.bootDrive State.lane
  generalize List.range 36864 = l at hmem
  exact sget_map_of_mem _ _ hmem

theorem cl_bootLoops (s : State) {c : Nat} (hc : c < 144) : s.bootLoops.cl c = { s.cl c with runAct := true, tick := 0 } := by
  rw [State.cl, show s.bootLoops.clusters = (List.range 144).map fun c => (c, { s.cl c with runAct := true, tick := 0 }) from rfl]
  exact sget_map_of_mem _ _ (List.mem_range.mpr hc)

/-- READY rises with the end of stage 14, and the phase START ends. -/
theorem bootReady_facts (s : State) (h : s.sys.stage = 14) :
    s.bootReady.ready = true ∧ s.bootReady.sys.readySince = true ∧ s.bootReady.thm.start = false := by
  have k := bootReady_keeps_ready s
  refine ⟨decide_eq_true ?_, k.readySince rfl, congrArg Thm.start (k.frame .thm rfl)⟩
  rw [k.stage rfl, nextStage_stage, h]

/-- With BOOT_SRC = 1 and no image staged, stage 3 waits (R462). -/
theorem doBootStage_waits {s : State} (b : BootIn) (h3 : s.sys.stage = 3) (hsrc : s.sys.bootSrc = true) (hx : s.prl.extent = 0) :
    doBootStage b s = s := by
  have himage : s.bootImage = s := by unfold State.bootImage; rw [if_pos hsrc, if_neg (fun h => h.2.1 hx)]
  unfold doBootStage
  split
  · rfl
  · rw [if_pos ⟨h3, hsrc⟩, himage]

/-- Settles O9: a passed stage is `bootPassed`, a failed one `bootStop`. -/
theorem bootStages : Obligations.BootStages := by
  intro s b hr hs
  have pass := doBootStage_passes (b := b) hr hs
  refine ⟨fun hb hn => ?_, fun hb hn => ?_, fun hb hn => ?_, fun hb hn => ?_, fun hb hn ht => ?_, fun h3 hsrc hx => ?_, fun hb hn h3 => ?_⟩
  · have h15 : s.sys.stage < 15 ∧ s.sys.stage ≠ 3 ∧ s.sys.stage ≠ 14 := by simp at hn; omega
    exact .of_eq (exec_bootStage s b) (pass h15.1 h15.2.1 hb (fun h => absurd h h15.2.2)) (bootPassed_stage hn)
  · exact .of_eq (exec_bootStage s b) ((pass (by omega) (by omega) hb (by omega)).trans (bootPassed_four hn)) rfl
  · refine .of_eq (exec_bootStage s b) ((pass (by omega) (by omega) hb (by omega)).trans (bootPassed_nine hn)) fun e he => ?_
    rw [lane_bootDrive s he]
    exact ⟨rfl, rfl⟩
  · refine .of_eq (exec_bootStage s b) ((pass (by omega) (by omega) hb (by omega)).trans (bootPassed_ten hn)) fun c hc => ?_
    rw [cl_bootLoops s hc]
  · exact .of_eq (exec_bootStage s b) ((pass (by omega) (by omega) hb fun _ => ht).trans (bootPassed_fourteen hn)) (bootReady_facts s hn)
  · exact .of_eq (exec_bootStage s b) (doBootStage_waits b h3 hsrc hx) rfl
  · have hc : bootCause s.sys.stage ≠ 0 := by
      simp at hn
      rcases hn with h | h | h | h | h | h | h <;> simp [h, bootCause]
    exact .of_eq (exec_bootStage s b) (doBootStage_fails hr hs hb hc h3) (bootStop_facts s)

/-! ### The bound on the boot stage -/

theorem mainReset_stage (s : State) : s.mainReset.sys.stage = 0 := by
  unfold State.mainReset
  exact ((setF_keeps ..).stage rfl).trans (((bump_keeps ..).stage rfl).trans
    ((Keeps.foldl (m := 4) .refl fun _ _ hu => (setReg_keeps ..).step hu rfl).stage rfl))

theorem doMainRailReset_stage {s : State} (h : s.sys.stage ≤ 15) (rail : Nat) : (doMainRailReset rail s).sys.stage ≤ 15 := by
  unfold doMainRailReset
  split
  · exact h
  · extract_lets n r r1
    rw [(setReg_keeps ..).stage rfl]
    show r.sys.stage ≤ 15
    by_cases hm : s.sys.mainRst = true
    · simpa [r, hm] using h
    · simp [r, hm, mainReset_stage]

theorem straps_stage (s : State) (m : Nat) (p : Bool) (d : Nat) (x : Bool) : (s.straps m p d x).sys.stage = s.sys.stage :=
  (straps_keeps s m p d x).stage rfl

theorem doPorRelease_stage {s : State} (h : s.sys.stage ≤ 15) (m : Nat) (p : Bool) (d : Nat) (x : Bool) :
    (doPorRelease m p d x s).sys.stage ≤ 15 := by
  unfold doPorRelease
  split
  · exact h
  · simp [straps_stage]

theorem doMainRailRelease_stage (s : State) (p : Bool) (d : Nat) (x : Bool) :
    (doMainRailRelease p d x s).sys.stage = s.sys.stage := by
  unfold doMainRailRelease
  split
  · rfl
  · split
    · rfl
    · exact straps_stage ..

theorem doThermalRestart_stage {s : State} (h : s.sys.stage ≤ 15) : (doThermalRestart s).sys.stage ≤ 15 := by
  unfold doThermalRestart
  split
  · exact h
  · simp [mainReset_stage]

theorem doThermalRelease_stage {s : State} (h : s.sys.stage ≤ 15) (p : Bool) (d : Nat) (x : Bool) :
    (doThermalRelease p d x s).sys.stage ≤ 15 := by
  unfold doThermalRelease
  split
  · exact h
  · split
    · exact h
    · simp [straps_stage]

theorem doPcieReset_stage (k : PcieRst) (s : State) : (doPcieReset k s).sys.stage = s.sys.stage := by
  have h1 : Keeps 0x7204 s s.resetHif := resetHif_keeps s
  cases k
  case linkDown => exact ((cause_keeps ..).stage rfl).trans (h1.stage rfl)
  all_goals exact h1.stage rfl

theorem doPcieLinkRetrain_stage (r w : Nat) (s : State) : (doPcieLinkRetrain r w s).sys.stage = s.sys.stage := by
  unfold doPcieLinkRetrain
  split <;> rfl

theorem bootImage_stage (s : State) : s.bootImage.sys.stage ≤ s.sys.stage + 1 := by
  have hrom := (bootRom_keeps s _ rfl).stage rfl
  unfold State.bootImage
  split
  · split
    · exact le_rfl
    · exact Nat.le_succ _
  · dsimp only
    split
    · rw [nextStage_stage, hrom]
    · rw [(bootStop_facts _).1, hrom]; exact Nat.le_succ _

theorem bootReady_stage (s : State) : s.bootReady.sys.stage = s.sys.stage + 1 := (bootReady_keeps_ready s).stage rfl

theorem bootPassed_stage_le (s : State) : s.bootPassed.sys.stage ≤ s.sys.stage + 1 := by
  unfold State.bootPassed
  split
  · exact le_rfl
  · exact bootImage_stage s
  · exact le_rfl
  · exact (bootData_stage s).le
  · exact le_rfl
  · exact le_rfl
  · exact (bootFaults_stage s).le
  · exact (bootReady_stage s).le
  · exact le_rfl

theorem doBootStage_stage {s : State} (h : s.sys.stage ≤ 15) (b : BootIn) : (doBootStage b s).sys.stage ≤ 15 := by
  unfold doBootStage
  split
  · exact h
  next hlive =>
    have h15 : s.sys.stage < 15 := by simp at hlive; omega
    split
    · exact (bootImage_stage s).trans h15
    · split
      · split
        · exact h
        · rw [(bootStop_facts s).1]; exact h
      · exact (bootPassed_stage_le s).trans h15

/-- A command that leaves `sys` alone keeps the bound. -/
theorem stage_le_of_kept {c : Instr} {s t : State} (h : s.sys.stage ≤ 15) (ht : exec c s = .next t) (hc : Part.sys ∉ partsOf c) :
    t.sys.stage ≤ 15 := by
  obtain ⟨u, hu, -, hk⟩ := frameOfEveryCommand c s
  obtain rfl : t = u := Host.Outcome.next.inj (ht.symm.trans hu)
  have hsys : t.sys.rest = s.sys.rest := hk .sys hc
  rw [show t.sys.stage = s.sys.stage from congrArg (·.stage) hsys]
  exact h

theorem stage_le_of_exec {c : Instr} {s t : State} (h : s.sys.stage ≤ 15) (ht : exec c s = .next t) : t.sys.stage ≤ 15 := by
  cases c with
  | powerOnReset => cases ht; exact Nat.zero_le _
  | porRelease m p d x => cases ht; exact doPorRelease_stage h ..
  | mainRailReset r => cases ht; exact doMainRailReset_stage h r
  | mainRailResetRelease r p d x => cases ht; exact (doMainRailRelease_stage ..).trans_le h
  | bootStage b => cases ht; exact doBootStage_stage h b
  | hvSupplyLoss => cases ht; exact h
  | hvSupplyReturn => cases ht; exact h
  | pcieFunctionReset k => cases ht; exact (doPcieReset_stage ..).trans_le h
  | pcieLinkRetrain r w => cases ht; exact (doPcieLinkRetrain_stage ..).trans_le h
  | thermalRestart => cases ht; exact doThermalRestart_stage h
  | thermalRestartRelease m p d x => cases ht; exact doThermalRelease_stage h ..
  | perstNDeassertion => cases ht; exact h
  | _ => exact stage_le_of_kept h ht (by simp [partsOf])

/-- Settles O5: the commands that change `sys` are twelve; the others keep it by `frameOfEveryCommand`. -/
theorem bootStageBounded : Obligations.BootStageBounded := by
  intro s t h ht
  unfold step at ht
  split at ht
  · cases ht; exact h
  next c rest _ => exact stage_le_of_exec (s := { s with pending := rest }) h ht

end Sys2Proof.Machine
end

section
/-! PROOF. Mirror frames (O47): a HELLO that ends a double selection lets a standby take over, which closes every unconfirmed
transaction (R356, R358), not those alone that the HELLO confirms. -/
namespace Sys2Proof.Machine

/-! ### A frame that is the next one (R336, R337) -/

/-- The state in which the next frame of the mirror link is taken: its number is passed. -/
def State.mirNext (s : State) (t : Nat) : State := (s.passTo t).setPair { s.pair with mrx := (s.pair.mrx + 1) % 2 ^ 32 }

theorem ahead_self (n : Nat) : ahead n n = 0 := by
  unfold ahead
  omega

/-- The next frame on the link, with none held, is taken at once; RETRY, which acts before it is taken, is left out. -/
theorem mirRecv_next {s : State} {h : MirHdr} (hp : s.inPair = true) (hl : s.pair.lanes ≠ 0) (hb : h.bad = 0) (hh : s.pair.held = [])
    (hn : s.pair.mrx < 2 ^ 32) (he : h.mseq = s.pair.mrx) (ofs : Int) (m : MirMsg) (t : Nat) (hm : ∀ lo hi, m ≠ .retry lo hi) :
    s.mirRecv h ofs m t = State.schedEvent s ((s.mirNext t).mirTake ofs m) := by
  have hn' : h.mseq % 4294967296 = s.pair.mrx := by omega
  have hp' : (s.passTo t).inPair = true := by simpa [State.inPair] using hp
  have ha : ahead s.pair.mrx s.pair.mrx = 0 := ahead_self _
  unfold State.mirRecv
  cases m with
  | retry lo hi => exact absurd rfl (hm lo hi)
  | _ => simp [hp', hl, hb, hn', hh, ha, State.setPair, insHeld, mirDrain, State.mirNext]

/-! ### What a HELLO leaves of the role and the selection (R355, R356) -/

/-- The role and ACTIVE_SEL are the same. -/
structure RoleKept (s t : State) : Prop where
  role : t.pair.role = s.pair.role
  sel : t.pair.sel = s.pair.sel

theorem RoleKept.trans {s t u : State} (h : RoleKept s t) (k : RoleKept t u) : RoleKept s u :=
  ⟨k.role.trans h.role, k.sel.trans h.sel⟩

@[simp] theorem pairEvent_pair (s : State) (sub : Nat) (pl : List Word) : (s.pairEvent sub pl).pair = s.pair :=
  (pairEvent_keeps ..).frame .pair rfl

theorem pairEvent_roleKept (s : State) (sub : Nat) (pl : List Word) : RoleKept s (s.pairEvent sub pl) :=
  ⟨by rw [pairEvent_pair], by rw [pairEvent_pair]⟩

theorem RoleKept.ite {c : Prop} {i : Decidable c} {s x y : State} (hx : RoleKept s x) (hy : RoleKept s y) :
    RoleKept s (ite c x y) := by
  split <;> assumption

theorem cfgCheck_roleKept (s : State) (d : Word) : RoleKept s (s.cfgCheck d) := by
  unfold State.cfgCheck
  generalize s.pairDigest = own
  dsimp only
  split
  · exact ⟨rfl, rfl⟩
  · split
    · refine .trans ?_ (pairEvent_roleKept ..)
      exact ⟨rfl, rfl⟩
    · exact ⟨rfl, rfl⟩

theorem conflictCheck_pair (s : State) (w : HelloW) : (s.conflictCheck w).pair = { s.pair with
    conflict := decide (w.pref = s.sys.pref), dual := s.pair.sel && decide (w.role = 1)
    reclaim := s.pair.reclaim && !decide (w.pref = s.sys.pref) } := by
  unfold State.conflictCheck
  dsimp only [State.setPair]
  split <;> split <;> simp

/-- What a HELLO says of its sender, and what it confirms (R338, R358). -/
def State.heard (s : State) (w : HelloW) (ofs : Int) : Pair :=
  { s.pair with peer := true, hello := some w, helloAge := 0, offset := ofs
                unconf := s.pair.unconf.filter fun x => !s.confirms w x, seq := max s.pair.seq (w.seq.toNat % 2 ^ 31) }

/-- `onHello` before the intake, the snapshots and the role: the peer and its values are noted (R338, R345, R355, R358). -/
def State.helloNoted (s : State) (w : HelloW) (ofs : Int) : State :=
  let s1 := s.setPair (s.heard w ofs)
  let s2 := if s.pair.peer then s1 else s1.pairEvent 7 [w.health]
  let s3 := if s2.skewed && !s2.pair.skew then s2.pairEvent 10 [BitVec.ofInt 32 ofs] else s2
  ((s3.setPair { s3.pair with skew := s2.skewed }).cfgCheck w.digest).conflictCheck w

theorem helloNoted_keeps (s : State) (w : HelloW) (ofs : Int) : Keeps 0x102404 s (s.helloNoted w ofs) := by
  unfold State.helloNoted
  extract_lets s1 s2 s3
  have h1 : Keeps 0x102404 s s1 := (setPair_keeps ..).step .refl rfl
  have h2 : Keeps 0x102404 s s2 := .ite h1 ((pairEvent_keeps ..).step h1 rfl)
  have h3 : Keeps 0x102404 s s3 := .ite ((pairEvent_keeps ..).step h2 rfl) h2
  exact (conflictCheck_keeps ..).step ((cfgCheck_keeps ..).step ((setPair_keeps ..).step h3 rfl) rfl) rfl

theorem helloNoted_roleKept (s : State) (w : HelloW) (ofs : Int) : RoleKept s (s.helloNoted w ofs) := by
  unfold State.helloNoted
  extract_lets s1 s2 s3
  have h1 : RoleKept s s1 := ⟨rfl, rfl⟩
  have h2 : RoleKept s s2 := .ite h1 (h1.trans (pairEvent_roleKept ..))
  have h3 : RoleKept s s3 := .ite (h2.trans (pairEvent_roleKept ..)) h2
  have h4 : RoleKept s (s3.setPair { s3.pair with skew := s2.skewed }) := h3.trans ⟨rfl, rfl⟩
  have h5 := h4.trans (cfgCheck_roleKept _ w.digest)
  refine h5.trans ?_
  constructor <;> rw [conflictCheck_pair]

theorem helloNoted_dual (s : State) {w : HelloW} (hw : w.role ≠ 1) (ofs : Int) : (s.helloNoted w ofs).pair.dual = false := by
  unfold State.helloNoted
  dsimp only
  rw [conflictCheck_pair]
  simp [hw]

theorem onHello_eq (s : State) (w : HelloW) (ofs : Int) : s.onHello w ofs =
    ((if (s.helloNoted w ofs).pair.role = 2 ∧ (s.helloNoted w ofs).pair.sync = 0 ∧ w.role = 1 then
        (s.helloNoted w ofs).setPair { (s.helloNoted w ofs).pair with sync := 1, snap := [], snapOn := false }
      else s.helloNoted w ofs).startIntake.snapCheck (if s.pair.peer then s.pair.hello else none) w).roleStep := by
  unfold State.onHello State.helloNoted
  cases s.pair.peer <;> rfl

/-! ### The takeover closes what waits for the peer (R356, R358) -/

theorem foldl_pairEvent_pair {α : Type} (sub : Nat) (pl : α → List Word) (l : List α) (s : State) :
    (l.foldl (fun s a => s.pairEvent sub (pl a)) s).pair = s.pair := by
  induction l generalizing s with
  | nil => rfl
  | cons a l ih => rw [List.foldl_cons, ih, pairEvent_pair]

theorem startIntake_unconf (s : State) : s.startIntake.pair.unconf = s.pair.unconf := by
  unfold State.startIntake
  extract_lets go
  split <;> rfl

theorem takeover_unconf (s : State) : s.takeover.pair.unconf = [] := by
  unfold State.takeover
  dsimp only
  rw [startIntake_unconf]
  dsimp only
  rw [foldl_pairEvent_pair 5 fun w : Nat × Nat × List Word => w.2.2, pairEvent_pair]
  rfl

/-- A ready standby whose selection is in force takes over. -/
theorem roleStep_takes_over {s : State} (hp : s.inPair = true) (hr : s.ready = true) (h2 : s.pair.role = 2) (hsel : s.effSel = true) :
    s.roleStep = s.takeover := by
  unfold State.roleStep
  simp [hp, hr, h2, hsel]

theorem startIntake_of_standby {s : State} (h2 : s.pair.role = 2) : s.startIntake = s := by
  unfold State.startIntake
  simp [h2]

theorem snapCheck_of_standby {s : State} (h2 : s.pair.role = 2) (old : Option HelloW) (w : HelloW) : s.snapCheck old w = s := by
  unfold State.snapCheck
  simp [h2]

/-- With a peer that is not active, a standby whose selection is asserted takes over at the HELLO, and every transaction that waits
for the peer is closed (R355, R356, R358). -/
theorem onHello_standby {s : State} {w : HelloW} (ofs : Int) (hp : s.inPair = true) (hr : s.ready = true) (h2 : s.pair.role = 2)
    (hsel : s.pair.sel = true) (hw : w.role ≠ 1) : (s.onHello w ofs).pair.unconf = [] := by
  have hk := helloNoted_keeps s w ofs
  have hrk := helloNoted_roleKept s w ofs
  have hd := helloNoted_dual s hw ofs
  rw [onHello_eq]
  generalize s.helloNoted w ofs = v at hk hrk hd ⊢
  have hv2 : v.pair.role = 2 := hrk.role.trans h2
  have hvp : v.inPair = true := by
    rw [← hp]
    exact congrArg (fun m => decide (m = 1)) (hk.frame .straps rfl).1
  have hvr : v.ready = true := by
    rw [← hr]
    exact congrArg (fun n => decide (n = 15)) (hk.stage rfl)
  rw [if_neg (fun h => hw h.2.2), startIntake_of_standby hv2, snapCheck_of_standby hv2,
    roleStep_takes_over hvp hvr hv2 (by simp [State.effSel, hrk.sel, hsel, hd]), takeover_unconf]

/-! ### The counterexample -/

/-- Unit 1 in STANDBY, its ACTIVE_SEL asserted while the peer was active too, with one transaction that waits for the peer. -/
def doubleSelected : State :=
  { State.reset with
    sys := { State.reset.sys with por := false, stage := 15, pcie := true, readySince := true, mode := 1, pref := false }
    pair := { State.reset.pair with role := 2, sync := 2, lanes := 1, peer := true, sel := true, dual := true, unconf := [(5, 0, [])] } }

/-- The HELLO of a peer that has become standby, whose last PTN is 4. -/
def helloOfStandby : HelloW := ⟨false, true, 2, 2, false, 7, 4, 0, 6, 0⟩

theorem hello_of_standby_confirms_nothing (t : Nat) : (doubleSelected.mirNext t).confirms helloOfStandby (5, 0, []) = false := by
  have : ¬ ahead 5 4 < 2 ^ 31 := by decide
  exact Bool.and_eq_false_iff.mpr (.inl (decide_eq_false this))

/-- The HELLO that ends the double selection leaves no transaction that waits for the peer. -/
theorem hello_of_standby_closes (ofs : Int) : ((doubleSelected.mirNext 0).onHello helloOfStandby ofs).pair.unconf = [] :=
  onHello_standby ofs (by decide) (by decide) (by decide) (by decide) (by decide)

theorem mirTake_hello (s : State) (w : HelloW) (ofs : Int) : s.mirTake ofs (.hello w) = s.onHello w ofs := rfl

/-- Refutes O47: the clause on HELLO says that transactions which the HELLO does not confirm still wait. The HELLO of a peer that has
become standby ends the double selection of unit 1, which takes over (R355, R356) and closes them all (R358): here the one of PTN 5,
which PTN 4 does not confirm. -/
theorem not_mirrorFrames : ¬ Obligations.MirrorFrames := by
  intro hall
  obtain ⟨-, -, hnext, -⟩ := hall doubleSelected (doubleSelected.mirNext 0) ⟨0, 0⟩ helloOfStandby ⟨0, 0, [], 0, false, 0, 0⟩ ⟨0, []⟩ ⟨0, 0⟩
    ⟨0, false, [], [], 0, 0⟩ 0 0 0 0 0 0 0 (0, 0) (by decide) (by decide) rfl rfl (by decide) (by decide) rfl
  obtain ⟨⟨u, hu, -, -, -, -, hunconf, -⟩, -⟩ := hnext rfl
  have hclosed : u.pair.unconf = [] := by
    rw [← Host.Outcome.next.inj hu, mirRecv_next (by decide) (by decide) rfl rfl (by decide) rfl _ _ _ (by simp),
      (schedEvent_keeps ..).frame .pair rfl, mirTake_hello, hello_of_standby_closes]
  have hwaits : (5, 0, []) ∈ u.pair.unconf := by
    rw [hunconf]
    refine List.mem_filter.mpr ⟨by simp [doubleSelected], ?_⟩
    rw [hello_of_standby_confirms_nothing, Bool.not_false]
  rw [hclosed] at hwaits
  exact absurd hwaits List.not_mem_nil

end Sys2Proof.Machine
end

section
/-! PROOF. The PWM channels (O54, R419 to R424). -/
namespace Sys2Proof.Machine

variable {s : State} {ch : Nat}

/-- A one-bit field as a number. -/
theorem f_eq_b2n_fb (s : State) {x : Fld} (hx : x.len = 1) (ix : List Nat) : s.f x ix = b2n (s.fb x ix) := by
  have hlt : s.f x ix < 2 ^ x.len := fget_lt ..
  rw [hx] at hlt
  unfold State.fb b2n
  split <;> simp_all
  omega

/-! ### A channel as stored -/

@[simp] theorem pwmOf_setPwm_same (s : State) (ch : Nat) (k : Pwm) : (s.setPwm ch k).pwmOf ch = k := sget_sset_same ..

theorem pwmOf_setPwm_ne (s : State) {ch c : Nat} (k : Pwm) (h : c ≠ ch) : (s.setPwm ch k).pwmOf c = s.pwmOf c :=
  sget_sset_ne _ _ _ (Ne.symm h)

theorem pwmOf_congr {s t : State} (h : t.pwm = s.pwm) (ch : Nat) : t.pwmOf ch = s.pwmOf ch := by rw [State.pwmOf, h]; rfl

/-- No event register of a PWM channel is an interrupt source of its own. -/
theorem raise_pwmStatus (s : State) {x : Fld} (hx : x.reg = .PWM_STATUS) (ch : Nat) : s.raise x [ch] = s.setF x [ch] 1 :=
  raise_of_no_source s [ch] (by rw [hx]; rfl)

/-! ### A cut and the start of a period (R419, R420, R422) -/

theorem pwmCut_pwmOf (s : State) (ch c : Nat) : (s.pwmCut ch).pwmOf c = s.pwmOf c :=
  pwmOf_congr ((pwmCut_keeps ..).frame .pwm rfl) c

/-- A cut sets CUT and counts. -/
theorem pwmCut_regs (s : State) (ch : Nat) : (s.pwmCut ch).regs = ((s.setF PWM_STATUS.CUT [ch] 1).bump .PWM_CUTS [ch] 1).regs := by
  unfold State.pwmCut
  rw [raise_pwmStatus s rfl]
  dsimp only
  split <;> rfl

theorem pwmCut_reg (s : State) (ch : Nat) (r : Reg) (ix : List Nat) :
    (s.pwmCut ch).reg r ix = ((s.setF PWM_STATUS.CUT [ch] 1).bump .PWM_CUTS [ch] 1).reg r ix :=
  reg_congr (pwmCut_regs s ch) ((pwmCut_keeps ..).stage rfl) r ix

theorem pwmStatus_ne_pwmCuts : ∀ ch : Fin 4, Reg.PWM_STATUS.at [ch.val] ≠ Reg.PWM_CUTS.at [ch.val] := by decide

theorem pwmCut_cut (s : State) (ch : Fin 4) : (s.pwmCut ch).f PWM_STATUS.CUT [ch.val] = 1 := by
  rw [State.f, pwmCut_reg, State.bump, reg_setReg_ne (q := PWM_STATUS.CUT.reg) _ _ (pwmStatus_ne_pwmCuts ch).symm]
  exact f_setF_same s PWM_STATUS.CUT [ch.val] 1 (by decide)

theorem pwmCut_cuts (s : State) (ch : Fin 4) : (s.pwmCut ch).reg .PWM_CUTS [ch.val] = satInc (s.reg .PWM_CUTS [ch.val]) 1 := by
  rw [pwmCut_reg, State.bump, reg_setReg_same, State.setF, reg_setReg_ne (r := PWM_STATUS.CUT.reg) _ _ (pwmStatus_ne_pwmCuts ch)]

theorem pwmCut_flt (s : State) (h : 2 ≤ ch) : (s.pwmCut ch).flt = { s.flt with evc := s.flt.evc ++ [(22, false)] } := by
  unfold State.pwmCut
  rw [raise_pwmStatus s rfl, if_pos h]
  rfl

theorem pwmStart_of_no_fault (h : (s.pwmOf ch).flt = false) (k : Nat) : s.pwmStart ch k =
    s.setPwm ch { s.pwmOf ch with
      k := k, h := pwmH (s.pwmOf ch).per (s.pwmOf ch).duty k, pin := decide (0 < pwmH (s.pwmOf ch).per (s.pwmOf ch).duty k) } := by
  simp [State.pwmStart, h]

theorem pwmStart_of_fault (h : (s.pwmOf ch).flt = true) (k : Nat) : s.pwmStart ch k =
    (s.setPwm ch { s.pwmOf ch with k := k, h := pwmH (s.pwmOf ch).per (s.pwmOf ch).duty k, pin := false }).pwmCut ch := by
  simp [State.pwmStart, h]

/-! ### Reload and the end of a pulse (R419, R420, R424) -/

theorem exec_pwmReload (ch : Fin 4) (s : State) : exec (.pwmReload ch) s = .next (doPwmReload ch s) := rfl
theorem exec_pwmPulseEnd (ch : Fin 4) (s : State) : exec (.pwmPulseEnd ch) s = .next (doPwmPulseEnd ch s) := rfl
theorem exec_pwmFaultInput (n : Fin 3) (active : Bool) (s : State) : exec (.pwmFaultInput n active) s = .next (doPwmFault n active s) := rfl

/-- A reload takes PER and DUTY: without SYNC, or with an update pending (R424). -/
def State.pwmTakes (s : State) (ch : Nat) : Bool := !s.fb PWM_CTRL.SYNC [ch] || (s.pwmOf ch).updP

/-- The values of a channel at its reload, before the period starts (R419). -/
def State.pwmTaken (s : State) (ch : Nat) : Pwm :=
  { s.pwmOf ch with
    per := if s.pwmTakes ch then s.f PWM_PER.PER [ch] else (s.pwmOf ch).per
    duty := if s.pwmTakes ch then s.f PWM_DUTY.DUTY [ch] else (s.pwmOf ch).duty
    presc := s.f PWM_CTRL.PRESC [ch], updP := false }

/-- The channel with its values taken; CLAMP tells that the duty exceeds the period. -/
def State.pwmReloaded (s : State) (ch : Nat) : State :=
  if s.pwmTakes ch && decide ((s.pwmTaken ch).per < (s.pwmTaken ch).duty / 16) then
    (s.setPwm ch (s.pwmTaken ch)).setF PWM_STATUS.CLAMP [ch] 1
  else s.setPwm ch (s.pwmTaken ch)

theorem doPwmReload_eq (h : s.fb PWM_CTRL.EN [ch] = true) :
    doPwmReload ch s = (s.pwmReloaded ch).pwmStart ch (((s.pwmOf ch).k + 1) % 16) := by
  unfold doPwmReload
  rw [if_neg (by simp [h])]
  dsimp only
  rw [raise_pwmStatus _ rfl]
  rfl

theorem pwmReloaded_pwm (s : State) (ch : Nat) : (s.pwmReloaded ch).pwm = (s.setPwm ch (s.pwmTaken ch)).pwm := by
  unfold State.pwmReloaded
  split <;> rfl

theorem pwmReloaded_same (s : State) (ch : Nat) : (s.pwmReloaded ch).pwmOf ch = s.pwmTaken ch :=
  (pwmOf_congr (pwmReloaded_pwm s ch) ch).trans (pwmOf_setPwm_same ..)

theorem pwmReloaded_ne (s : State) {c : Nat} (h : c ≠ ch) : (s.pwmReloaded ch).pwmOf c = s.pwmOf c :=
  (pwmOf_congr (pwmReloaded_pwm s ch) c).trans (pwmOf_setPwm_ne _ _ h)

theorem pwmReloaded_otherRegs (s : State) (ch : Nat) : otherRegs [Reg.PWM_STATUS.at [ch]] s (s.pwmReloaded ch) := by
  unfold State.pwmReloaded
  split
  · exact .trans (u := s.setPwm ch (s.pwmTaken ch)) .refl (.setF (List.mem_singleton.mpr rfl))
  · exact .refl

theorem pwmReloaded_keeps (s : State) (ch : Nat) : Keeps 0x40004 s (s.pwmReloaded ch) := by
  have h : Keeps 0x40004 s (s.setPwm ch (s.pwmTaken ch)) := (setPwm_keeps ..).step .refl rfl
  exact .ite ((setF_keeps ..).step h rfl) h

theorem pwmTakes_eq_true : s.pwmTakes ch = true ↔ s.fb PWM_CTRL.SYNC [ch] = false ∨ (s.pwmOf ch).updP = true := by
  simp [State.pwmTakes]

theorem runs_pwmReload {ch : Fin 4} {p d : Nat} (hen : s.fb PWM_CTRL.EN [ch.val] = true) (hflt : (s.pwmOf ch).flt = false)
    (hp : p = if s.fb PWM_CTRL.SYNC [ch.val] = false ∨ (s.pwmOf ch).updP = true then s.f PWM_PER.PER [ch.val] else (s.pwmOf ch).per)
    (hd : d = if s.fb PWM_CTRL.SYNC [ch.val] = false ∨ (s.pwmOf ch).updP = true then s.f PWM_DUTY.DUTY [ch.val] else (s.pwmOf ch).duty) :
    Runs (.pwmReload ch) s fun u => u.pwmOf ch = (⟨p, d, s.f PWM_CTRL.PRESC [ch.val], ((s.pwmOf ch).k + 1) % 16,
        pwmH p d (((s.pwmOf ch).k + 1) % 16), decide (0 < pwmH p d (((s.pwmOf ch).k + 1) % 16)), false, false⟩ : Pwm)
      ∧ (∀ c, c ≠ ch.val → u.pwmOf c = s.pwmOf c) ∧ otherRegs [Reg.PWM_STATUS.at [ch.val]] s u ∧ changesOnly [.regs, .pwm] s u := by
  simp only [← pwmTakes_eq_true] at hp hd
  have htaken : s.pwmTaken ch = ⟨p, d, s.f PWM_CTRL.PRESC [ch.val], (s.pwmOf ch).k, (s.pwmOf ch).h, (s.pwmOf ch).pin, false, false⟩ := by
    subst hp hd
    exact congrArg (fun b => ({ s.pwmTaken ch with flt := b } : Pwm)) hflt
  have hfree : ((s.pwmReloaded ch).pwmOf ch).flt = false := by rw [pwmReloaded_same, htaken]
  refine .of_eq (exec_pwmReload ch s) ((doPwmReload_eq hen).trans (pwmStart_of_no_fault hfree _)) ⟨?_, fun c hc => ?_, ?_, ?_⟩
  · rw [pwmOf_setPwm_same, pwmReloaded_same, htaken]
  · rw [pwmOf_setPwm_ne _ _ hc, pwmReloaded_ne _ hc]
  · exact pwmReloaded_otherRegs s ch
  · exact Keeps.changesOnly (n := 0x40004) ((setPwm_keeps ..).step (pwmReloaded_keeps s ch) rfl) rfl

theorem runs_pwmReload_faulty {ch : Fin 4} (hen : s.fb PWM_CTRL.EN [ch.val] = true) (hflt : (s.pwmOf ch).flt = true) :
    Runs (.pwmReload ch) s fun u => (u.pwmOf ch).pin = false
      ∧ u.f PWM_STATUS.CUT [ch.val] = 1 ∧ u.reg .PWM_CUTS [ch.val] = satInc (s.reg .PWM_CUTS [ch.val]) 1 := by
  have hkept : ((s.pwmReloaded ch).pwmOf ch).flt = true := by rw [pwmReloaded_same]; exact hflt
  have hcuts : (s.pwmReloaded ch).reg .PWM_CUTS [ch.val] = s.reg .PWM_CUTS [ch.val] :=
    reg_of_otherRegs (pwmReloaded_otherRegs s ch) ((pwmReloaded_keeps s ch).stage rfl)
      (by simpa using (pwmStatus_ne_pwmCuts ch).symm)
  refine .of_eq (exec_pwmReload ch s) ((doPwmReload_eq hen).trans (pwmStart_of_fault hkept _)) ⟨?_, pwmCut_cut .., ?_⟩
  · rw [pwmCut_pwmOf, pwmOf_setPwm_same]
  · rw [pwmCut_cuts, ← hcuts]; rfl

theorem runs_pwmPulseEnd {ch : Fin 4} (hen : s.fb PWM_CTRL.EN [ch.val] = true) (hh : (s.pwmOf ch).h < (s.pwmOf ch).per) :
    Runs (.pwmPulseEnd ch) s fun u =>
      u.pwmOf ch = { s.pwmOf ch with pin := false } ∧ (∀ c, c ≠ ch.val → u.pwmOf c = s.pwmOf c) ∧ changesOnly [.pwm] s u :=
  .of_eq (exec_pwmPulseEnd ch s) (if_pos (by simp [hen, hh]))
    ⟨pwmOf_setPwm_same .., fun _ hc => pwmOf_setPwm_ne _ _ hc, (setPwm_keeps ..).changesOnly rfl⟩

/-! ### Fault inputs (R422) -/

theorem runs_pwmFaultInput_fan {n : Fin 3} (hn : n.val ≠ 0) (hen : s.fb PWM_CTRL.EN [n.val + 1] = true)
    (hpin : (s.pwmOf (n.val + 1)).pin = true) : Runs (.pwmFaultInput n true) s fun u =>
      u.pwmOf (n.val + 1) = { s.pwmOf (n.val + 1) with flt := true, pin := false } ∧ u.f PWM_STATUS.CUT [n.val + 1] = 1
        ∧ u.flt = { s.flt with evc := s.flt.evc ++ [(22, false)] } ∧ (∀ c, c ≠ n.val + 1 → u.pwmOf c = s.pwmOf c) := by
  have hcut : doPwmFault n true s =
      (s.setPwm (n.val + 1) { s.pwmOf (n.val + 1) with flt := true, pin := false }).pwmCut (n.val + 1) := by
    simp [doPwmFault, hn, State.pwmFlt, hen, hpin]
  refine .of_eq (exec_pwmFaultInput n true s) hcut ⟨?_, pwmCut_cut _ ⟨n.val + 1, by omega⟩, pwmCut_flt _ (by omega), fun c hc => ?_⟩
  · rw [pwmCut_pwmOf, pwmOf_setPwm_same]
  · rw [pwmCut_pwmOf, pwmOf_setPwm_ne _ _ hc]

theorem pwmFlt_released (s : State) (ch : Nat) : s.pwmFlt ch false = s.setPwm ch { s.pwmOf ch with flt := false } := by
  simp [State.pwmFlt]

/-- The release of the TEC input frees channels 0 and 1. -/
theorem runs_pwmFaultInput_tec_released (s : State) : Runs (.pwmFaultInput 0 false) s fun u =>
    u.pwmOf 0 = { s.pwmOf 0 with flt := false } ∧ u.pwmOf 1 = { s.pwmOf 1 with flt := false }
      ∧ u.pwmOf 2 = s.pwmOf 2 ∧ u.pwmOf 3 = s.pwmOf 3 ∧ changesOnly [.pwm] s u := by
  have hfree : doPwmFault 0 false s = (s.setPwm 0 { s.pwmOf 0 with flt := false }).setPwm 1 { s.pwmOf 1 with flt := false } := by
    rw [doPwmFault, if_pos rfl, pwmFlt_released, pwmFlt_released, pwmOf_setPwm_ne s _ (by decide : (1 : Nat) ≠ 0)]
  refine .of_eq (exec_pwmFaultInput 0 false s) hfree ⟨?_, pwmOf_setPwm_same .., ?_, ?_, ?_⟩
  · rw [pwmOf_setPwm_ne _ _ (by decide), pwmOf_setPwm_same]
  · rw [pwmOf_setPwm_ne _ _ (by decide), pwmOf_setPwm_ne _ _ (by decide)]
  · rw [pwmOf_setPwm_ne _ _ (by decide), pwmOf_setPwm_ne _ _ (by decide)]
  · exact Keeps.changesOnly (n := 0x40000) ((setPwm_keeps ..).step (setPwm_keeps ..) rfl) rfl

/-! ### Writes of PWM_CTRL and PWM_UPD (R421, R424, R464) -/

theorem pwmCtrl_en (s : State) (ch : Nat) (v : Word) : (s.wrCodes .PWM_CTRL [ch] v).fb PWM_CTRL.EN [ch] = bit 0 v :=
  fb_wrCodes_rw rfl (by decide) (by decide) (by decide) ..

theorem pwmCtrl_idle (s : State) (ch : Nat) (v : Word) : (s.wrCodes .PWM_CTRL [ch] v).fb PWM_CTRL.IDLE_LVL [ch] = bit 2 v :=
  fb_wrCodes_rw rfl (by decide) (by decide) (by decide) ..

theorem doPwmCtrl_enable {v : Word} (hv : bit 0 v = true) : doPwmCtrl ch v s = (s.wrCodes .PWM_CTRL [ch] v).pwmStart ch 0 := by
  simp [doPwmCtrl, pwmCtrl_en, hv]

theorem doPwmCtrl_disable {v : Word} (hv : bit 0 v = false) :
    doPwmCtrl ch v s = (s.wrCodes .PWM_CTRL [ch] v).setPwm ch { s.pwmOf ch with pin := bit 2 v } := by
  have hkept : (s.wrCodes .PWM_CTRL [ch] v).pwmOf ch = s.pwmOf ch := rfl
  simp [doPwmCtrl, pwmCtrl_en, pwmCtrl_idle, hv, hkept]

section
variable (ho : s.isOpen = true)
include ho

theorem exec_pwmEnable (ch : Fin 4) (v : Word) : exec (.pwmEnable ch v) s = .next (doPwmCtrl ch v s) :=
  congrArg Host.Outcome.next (hostWr_of_not_shut (not_shut ho (by decide) (by decide)))

theorem exec_pwmDisable (ch : Fin 4) (v : Word) : exec (.pwmDisable ch v) s = .next (doPwmCtrl ch v s) :=
  congrArg Host.Outcome.next (hostWr_of_not_shut (not_shut ho (by decide) (by decide)))

theorem exec_pwmUpdate (ch : Fin 4) (v : Word) : exec (.pwmUpdate ch v) s = .next (doPwmUpd ch v s) :=
  congrArg Host.Outcome.next (hostWr_of_not_shut (not_shut ho (by decide) (by decide)))

theorem runs_pwmEnable {ch : Fin 4} {v : Word} (hv : bit 0 v = true) (hflt : (s.pwmOf ch).flt = false) :
    Runs (.pwmEnable ch v) s fun u =>
      u.f PWM_CTRL.EN [ch.val] = 1 ∧ u.f PWM_CTRL.PRESC [ch.val] = fget 4 2 v ∧ (u.pwmOf ch).k = 0
        ∧ (u.pwmOf ch).h = pwmH (s.pwmOf ch).per (s.pwmOf ch).duty 0 ∧ (u.pwmOf ch).pin = decide (0 < (u.pwmOf ch).h)
        ∧ otherRegs [Reg.PWM_CTRL.at [ch.val]] s u ∧ changesOnly [.regs, .pwm] s u := by
  have hen : (s.wrCodes .PWM_CTRL [ch.val] v).f PWM_CTRL.EN [ch.val] = 1 := by
    rw [f_eq_b2n_fb _ rfl, pwmCtrl_en, hv]
    rfl
  have hpresc : (s.wrCodes .PWM_CTRL [ch.val] v).f PWM_CTRL.PRESC [ch.val] = fget 4 2 v :=
    f_wrCodes_rw rfl (by decide) (by decide) (by decide) ..
  refine .of_eq (exec_pwmEnable ho ch v) ((doPwmCtrl_enable hv).trans (pwmStart_of_no_fault (s := s.wrCodes .PWM_CTRL [ch.val] v) hflt 0)) ⟨hen, hpresc, ?_⟩
  rw [pwmOf_setPwm_same]
  exact ⟨rfl, rfl, rfl, otherRegs_wrCodes s .PWM_CTRL [ch.val] v,
    Keeps.changesOnly (n := 0x40004) ((setPwm_keeps ..).step ((wrCodes_keeps ..).step .refl rfl) rfl) rfl⟩

theorem runs_pwmDisable {ch : Fin 4} {v : Word} (hv : bit 0 v = false) : Runs (.pwmDisable ch v) s fun u =>
    u.f PWM_CTRL.EN [ch.val] = 0
      ∧ u.pwmOf ch = { s.pwmOf ch with pin := bit 2 v } ∧ (∀ c, c ≠ ch.val → u.pwmOf c = s.pwmOf c)
      ∧ otherRegs [Reg.PWM_CTRL.at [ch.val]] s u ∧ changesOnly [.regs, .pwm] s u := by
  have hen : (s.wrCodes .PWM_CTRL [ch.val] v).f PWM_CTRL.EN [ch.val] = 0 := by
    rw [f_eq_b2n_fb _ rfl, pwmCtrl_en, hv]
    rfl
  exact .of_eq (exec_pwmDisable ho ch v) (doPwmCtrl_disable hv) ⟨hen, pwmOf_setPwm_same .., fun _ hc => pwmOf_setPwm_ne _ _ hc,
    otherRegs_wrCodes s .PWM_CTRL [ch.val] v,
    Keeps.changesOnly (n := 0x40004) ((setPwm_keeps ..).step ((wrCodes_keeps ..).step .refl rfl) rfl) rfl⟩

theorem runs_pwmUpdate {ch : Fin 4} {v : Word} (hv : bit 0 v = true) (hsync : s.fb PWM_CTRL.SYNC [ch.val] = true)
    (hown : s.pwmOwned ch = false) : Runs (.pwmUpdate ch v) s fun u =>
      u.pwmOf ch = { s.pwmOf ch with updP := true } ∧ (∀ c, c ≠ ch.val → u.pwmOf c = s.pwmOf c) ∧ changesOnly [.pwm] s u :=
  .of_eq (exec_pwmUpdate ho ch v) (if_pos (by simp [hv, hsync, hown]))
    ⟨pwmOf_setPwm_same .., fun _ hc => pwmOf_setPwm_ne _ _ hc, (setPwm_keeps ..).changesOnly rfl⟩

end

/-- Settles O54, one lemma per clause. -/
theorem pwmChannels : Obligations.PwmChannels := fun s _ch _n _v _p _d =>
  ⟨runs_pwmReload, runs_pwmReload_faulty, runs_pwmPulseEnd, runs_pwmFaultInput_fan, runs_pwmFaultInput_tec_released s,
    fun ho => runs_pwmEnable ho, fun ho => runs_pwmDisable ho, fun ho => runs_pwmUpdate ho⟩

end Sys2Proof.Machine
end

section
/-! PROOF. The power ladder (O55, R425 to R428, R432). -/
namespace Sys2Proof.Machine

section
variable {s : State}

/-! ### The sweeps over the clusters: what they leave -/

theorem reenter_turned (s : State) (e : Nat) : Turned s (s.reenter e) := .ite (putLane_turned ..) (putLane_turned ..)

theorem setLane_turned (s : State) (e : Nat) (l : Lane) : Turned s (s.setLane e l) := .of_keeps (setLane_keeps ..) rfl rfl rfl

theorem setCl_turned (s : State) (c : Nat) (k : Cluster) : Turned s (s.setCl c k) := .of_keeps (setCl_keeps ..) rfl rfl rfl

theorem wakeLane_turned (s : State) (e : Nat) : Turned s (s.wakeLane e) := .ite (setLane_turned ..) (putLane_turned ..)

theorem forLanes_turned {f : State → Nat → State} (h : ∀ u e, Turned u (f u e)) (c : Nat) (s : State) : Turned s (forLanes c f s) :=
  forLanes_rel (R := Turned) (fun _ => .refl) .trans (fun u e _ => h u e) s

/-- A lane of a cluster that leaves P2. -/
def State.leaveLane (s : State) (e : Nat) : State :=
  let s1 := s.setLane e { (s.lane e).redemod e with classIdle := 16, litRun := 0, darkRun := 0 }
  if (s.lane e).st = .hold ∧ (s.lane e).why = 1 then s1.reenter e else s1

/-- A cluster that leaves P2. -/
def State.leaveCluster (s : State) (c : Nat) : State :=
  let s1 := s.setCl c { s.cl c with p2 := false }
  if c = 136 ∨ c = 137 ∨ c = 140 ∨ c = 141 then s1 else forLanes c State.leaveLane s1

/-- A cluster that enters P2. -/
def State.enterCluster (s : State) (c : Nat) : State :=
  let s1 := if c = 136 ∨ c = 137 ∨ c = 140 ∨ c = 141 then s
    else forLanes c (fun s e => if (s.lane e).st.runs || ((s.lane e).st == .hold && (s.lane e).why == 0) then s.toHold e 1 else s) s
  s1.setCl c { s1.cl c with p2 := true }

/-- A cluster that wakes. -/
def State.wakeCluster (s : State) (c : Nat) : State :=
  forLanes c State.wakeLane (s.setCl c { s.cl c with p2 := false, adc := (s.cl c).adc.map fun _ => ⟨false, true⟩ })

theorem leaveP2_eq (s : State) : s.leaveP2 = (List.range 144).foldl State.leaveCluster s := rfl
theorem enterP2_eq (s : State) : s.enterP2 = (List.range 144).foldl State.enterCluster s := rfl
theorem wakeDomain_eq (s : State) : s.wakeDomain = (List.range 144).foldl State.wakeCluster s := rfl

theorem leaveLane_turned (s : State) (e : Nat) : Turned s (s.leaveLane e) :=
  .ite ((setLane_turned ..).trans (reenter_turned ..)) (setLane_turned ..)

theorem leaveP2_turned (s : State) : Turned s s.leaveP2 := by
  rw [leaveP2_eq]
  exact .foldl (fun u c => .ite (setCl_turned ..) ((setCl_turned ..).trans (forLanes_turned leaveLane_turned c _))) _ s

theorem wakeDomain_turned (s : State) : Turned s s.wakeDomain := by
  rw [wakeDomain_eq]
  exact .foldl (fun u c => (setCl_turned ..).trans (forLanes_turned wakeLane_turned c _)) _ s

/-! ### The sweeps over the clusters: the P2 hold -/

theorem leaveLane_keeps (s : State) (e : Nat) : Keeps 0x104214 s (s.leaveLane e) :=
  .ite ((reenter_keeps ..).step ((setLane_keeps ..).step .refl rfl) rfl) ((setLane_keeps ..).step .refl rfl)

theorem cl_leaveCluster (s : State) (c d : Nat) : (s.leaveCluster c).cl d = (s.setCl c { s.cl c with p2 := false }).cl d := by
  unfold State.leaveCluster
  dsimp only
  split
  · rfl
  · exact (Keeps.forLanes (m := 0x104214) .refl fun u e h => (leaveLane_keeps u e).step h rfl).cl rfl d

theorem cl_wakeCluster (s : State) (c d : Nat) : (s.wakeCluster c).cl d =
    (s.setCl c { s.cl c with p2 := false, adc := (s.cl c).adc.map fun _ => ⟨false, true⟩ }).cl d :=
  (Keeps.forLanes (m := 0x104214) .refl fun u e h => (wakeLane_keeps u e).step h rfl).cl rfl d

theorem cl_enterCluster_ne (s : State) {c d : Nat} (h : d ≠ c) : (s.enterCluster c).cl d = s.cl d := by
  unfold State.enterCluster
  extract_lets s1
  have h1 : Keeps 0x104214 s s1 := .ite .refl (.forLanes .refl fun u e h => .ite ((toHold_keeps ..).step h rfl) h)
  rw [cl_setCl_ne _ _ h.symm, h1.cl rfl]

theorem enterCluster_p2 (s : State) (c : Nat) : ((s.enterCluster c).cl c).p2 = true := by
  unfold State.enterCluster
  rw [cl_setCl_same]

/-- A sweep in which each cluster sets its own P2 hold sets it everywhere. -/
theorem foldl_p2 {f : State → Nat → State} {b : Bool} (hown : ∀ u c, ((f u c).cl c).p2 = b) (hne : ∀ u c d, d ≠ c → (f u c).cl d = u.cl d)
    (s : State) {k : Nat} (hk : k < 144) : (((List.range 144).foldl f s).cl k).p2 = b := by
  obtain ⟨u, -, hafter⟩ := foldl_turn (R := fun u v : State => v.cl k = u.cl k) (fun _ => rfl) (fun h h' => h'.trans h) List.nodup_range
    (List.mem_range.2 hk) (fun u c _ hc => hne u c k (Ne.symm hc)) s
  rw [hafter, hown]

theorem leaveP2_p2 (s : State) {k : Nat} (hk : k < 144) : (s.leaveP2.cl k).p2 = false := by
  rw [leaveP2_eq]
  refine foldl_p2 (fun u c => ?_) (fun u c d hd => ?_) s hk
  · rw [cl_leaveCluster, cl_setCl_same]
  · rw [cl_leaveCluster, cl_setCl_ne _ _ hd.symm]

theorem wakeDomain_p2 (s : State) {k : Nat} (hk : k < 144) : (s.wakeDomain.cl k).p2 = false := by
  rw [wakeDomain_eq]
  refine foldl_p2 (fun u c => ?_) (fun u c d hd => ?_) s hk
  · rw [cl_wakeCluster, cl_setCl_same]
  · rw [cl_wakeCluster, cl_setCl_ne _ _ hd.symm]

theorem enterP2_p2 (s : State) {k : Nat} (hk : k < 144) : (s.enterP2.cl k).p2 = true := by
  rw [enterP2_eq]
  exact foldl_p2 enterCluster_p2 (fun u c d hd => cl_enterCluster_ne u hd) s hk

/-! ### The set-points reloaded, and the end of the inhibit -/

theorem sget_filter_of_kept {α : Type} (d : α) (q : Nat → Bool) (m : SMap α) {a : Nat} (h : q a = true) :
    sget d (m.filter fun p => q p.1) a = sget d m a := by
  induction m with
  | nil => rfl
  | cons p m ih =>
    by_cases hp : q p.1 = true
    · rw [List.filter_cons_of_pos (by exact hp)]
      simp only [sget, ih]
    · have hne : p.1 ≠ a := fun e => hp (e ▸ h)
      rw [List.filter_cons_of_neg (by exact hp), ih]
      simp [sget, hne]

theorem sget_foldl_sset_of_ne {α : Type} (d : α) {a : Nat} (l : List (Nat × α)) (h : ∀ p ∈ l, p.1 ≠ a) (m : SMap α) :
    sget d (l.foldl (fun m p => sset m p.1 p.2) m) a = sget d m a := by
  induction l generalizing m with
  | nil => rfl
  | cons p l ih => rw [List.foldl_cons, ih fun q hq => h q (.tail _ hq), sget_sset_ne _ _ _ (h p (.head _))]

/-- The reload writes set-points only, where only such were kept (R427, R428). -/
theorem reload_reg (hk : ∀ p ∈ s.pwr.kept, isSetpt p.1 = true) {r : Reg} {ix : List Nat} (hr : isSetpt (r.at ix) = false) :
    s.reload.reg r ix = s.reg r ix := by
  have hne : ∀ p ∈ s.pwr.kept, p.1 ≠ r.at ix := fun p hp e => by rw [← e, hk p hp] at hr; exact absurd hr (by decide)
  unfold State.reload State.reg
  dsimp only
  rw [sget_foldl_sset_of_ne _ _ hne, sget_filter_of_kept _ (fun a => !isSetpt a) _ (by rw [hr]; rfl)]

theorem evalEngage_otherRegs (s : State) : otherRegs [Reg.PLK_CTRL.at [], Reg.PLK_EVT.at []] s s.evalEngage := by
  by_cases h : s.engageRefused
  · rw [evalEngage_refused h]
    have h1 : otherRegs [Reg.PLK_CTRL.at [], Reg.PLK_EVT.at []] s (s.setF PLK_CTRL.ENGAGE [] 0) := .setF (.head _)
    exact h1.trans (.setF (.tail _ (.head _)))
  · obtain ⟨hi, hp⟩ := not_engageRefused.1 h
    rw [evalEngage_allowed hi hp]
    exact .of_regs rfl

theorem engageReq_otherRegs (s : State) : otherRegs [Reg.PLK_CTRL.at [], Reg.PLK_EVT.at []] s s.engageReq := by
  have hset : otherRegs [Reg.PLK_CTRL.at [], Reg.PLK_EVT.at []] s (s.setF PLK_CTRL.ENGAGE [] 1) := .setF (.head _)
  unfold State.engageReq
  split
  · exact hset.trans (evalEngage_otherRegs _)
  · exact hset
  · exact hset

theorem inhibitEnd_reg (s : State) {r : Reg} {ix : List Nat} (h1 : r.at ix ≠ Reg.PLK_CTRL.at []) (h2 : r.at ix ≠ Reg.PLK_EVT.at []) :
    s.inhibitEnd.reg r ix = s.reg r ix := by
  unfold State.inhibitEnd
  split
  · exact reg_of_otherRegs (engageReq_otherRegs s) ((engageReq_keeps s).stage rfl) (by simp [h1, h2])
  · rfl

/-! ### The start of an exit (R426, R428) -/

theorem wakeDomain_inhibitEnd_keeps (s : State) : Keeps 0x10423c s s.wakeDomain.inhibitEnd :=
  (inhibitEnd_keeps ..).step ((wakeDomain_keeps ..).step .refl rfl) rfl

/-- The ladder after an exit to g has started. -/
def Pwr.exits (p : Pwr) (g now : Nat) : Pwr := { p with chg := some g, pend := false, late := false, off := false, t0 := now }

theorem startExit_pwr (s : State) (g : Nat) : (s.startExit g).pwr = s.pwr.exits g s.clr.now := by
  unfold State.startExit
  extract_lets _ s1 s2
  have h2 : s2.pwr = s.pwr.exits g s.clr.now := by
    unfold s2
    split <;> rfl
  split
  · rw [(wakeDomain_inhibitEnd_keeps s2).frame .pwr rfl, h2]
  · exact h2

/-- An exit from P1 or P2, or one that stays in P3 or P4, is a change of the ladder alone. -/
theorem startExit_of_powered {g : Nat} (h4 : s.pwr.st ≠ 4) (h3 : ¬ (3 ≤ s.pwr.st ∧ g < 3)) :
    s.startExit g = s.setPwr (s.pwr.exits g s.clr.now) := by
  unfold State.startExit
  dsimp only
  rw [if_neg h4, if_neg h3]
  rfl

theorem startExit_reg (hk : ∀ p ∈ s.pwr.kept, isSetpt p.1 = true) (g : Nat) {r : Reg} {ix : List Nat} (hr : isSetpt (r.at ix) = false)
    (hlow : r.at ix < 0x200000) (h1 : r.at ix ≠ Reg.PLK_CTRL.at []) (h2 : r.at ix ≠ Reg.PLK_EVT.at []) :
    (s.startExit g).reg r ix = s.reg r ix := by
  unfold State.startExit
  extract_lets _ s1 s2
  have hs2 : s2.reg r ix = s.reg r ix := by
    unfold s2
    split
    · exact reload_reg (s := s1) hk hr
    · rfl
  split
  · rw [inhibitEnd_reg _ h1 h2, (wakeDomain_turned s2).reg ((wakeDomain_keeps s2).stage rfl) hlow, hs2]
  · exact hs2

theorem startExit_p2 {g : Nat} (h3 : 3 ≤ s.pwr.st) (hg : g < 3) {k : Nat} (hk : k < 144) : ((s.startExit g).cl k).p2 = false := by
  unfold State.startExit
  rw [if_pos ⟨h3, hg⟩, (inhibitEnd_keeps _).cl rfl]
  exact wakeDomain_p2 _ hk

/-! ### Requests (R426, R428) -/

/-- The state in which a request is weighed: AUTO_WAKE and TARGET stored, no calibration to abort. -/
def State.targeted (s : State) (v : Word) (t : Nat) : State :=
  ((s.passTo t).setF PWR_CTRL.AUTO_WAKE [] (fget 8 1 v)).setF PWR_CTRL.TARGET [] (fget 0 3 v)

theorem targeted_pwr (v : Word) (t : Nat) : (s.targeted v t).pwr = s.pwr := passTo_pwr s t

theorem targeted_target (v : Word) (t : Nat) : (s.targeted v t).target = fget 0 3 v :=
  (f_setF_same _ _ _ _ (by decide)).trans (Nat.mod_eq_of_lt (fget_lt ..))

theorem autoWake_stored (s : State) (v : Word) : (s.setF PWR_CTRL.AUTO_WAKE [] (fget 8 1 v)).f PWR_CTRL.AUTO_WAKE [] = fget 8 1 v :=
  (f_setF_same _ _ _ _ (by decide)).trans (Nat.mod_eq_of_lt (fget_lt ..))

theorem targeted_autoWake (v : Word) (t : Nat) : (s.targeted v t).f PWR_CTRL.AUTO_WAKE [] = fget 8 1 v :=
  (f_setF_beside (x := PWR_CTRL.TARGET) (y := PWR_CTRL.AUTO_WAKE) _ _ _ rfl (by decide) (by decide)).trans (autoWake_stored ..)

theorem targeted_otherRegs (v : Word) (t : Nat) : otherRegs [Reg.PWR_CTRL.at []] s (s.targeted v t) := by
  have h0 : otherRegs [Reg.PWR_CTRL.at []] s (s.passTo t) := passTo_otherRegs s t _
  have h1 : otherRegs [Reg.PWR_CTRL.at []] s ((s.passTo t).setF PWR_CTRL.AUTO_WAKE [] (fget 8 1 v)) := h0.trans (.setF (.head _))
  exact h1.trans (.setF (.head _))

theorem targeted_keeps (v : Word) (t : Nat) : Keeps 0x84 s (s.targeted v t) :=
  (setF_keeps ..).step ((setF_keeps ..).step ((passTo_keeps ..).step .refl rfl) rfl) rfl

theorem doPowerTarget_above {v : Word} (h : 4 < fget 0 3 v) (t : Nat) :
    doPowerTarget v t s = (s.passTo t).setF PWR_CTRL.AUTO_WAKE [] (fget 8 1 v) := if_pos h

theorem calAbort_idle (h : s.cal.busy = false) (cause : Nat) : s.calAbort cause = s := if_pos (by rw [h]; rfl)

theorem doPowerTarget_idle {v : Word} (h : fget 0 3 v ≤ 4) (hb : s.cal.busy = false) (hc : s.pwr.chg = none) (t : Nat) :
    doPowerTarget v t s = (s.targeted v t).pwrRequest := by
  have hb' : (s.targeted v t).cal.busy = false := by rw [(targeted_keeps v t).frame .cal rfl]; exact hb
  have hc' : (s.targeted v t).pwr.chg = none := by rw [targeted_pwr]; exact hc
  unfold doPowerTarget
  rw [if_neg (by omega)]
  simp only [← State.targeted.eq_1, calAbort_idle hb', ite_self, hc']

/-- What a request leaves of the ladder (R426, log entry 117). -/
theorem pwrRequest_pwr (s : State) : s.pwrRequest.pwr =
    if s.target < s.pwr.st then s.pwr.exits s.target s.clr.now
    else { s.pwr with pend := decide (s.pwr.st < s.target), late := false, off := false } := by
  unfold State.pwrRequest
  dsimp only
  split
  · exact startExit_pwr ..
  · rfl

/-- A request that asks for no exit from P3 or P4 changes the ladder alone. -/
theorem pwrRequest_of_powered (h : s.pwr.st < 3 ∨ s.pwr.st ≤ s.target) : ∃ p, s.pwrRequest = s.setPwr p := by
  unfold State.pwrRequest
  dsimp only
  split
  · exact ⟨_, startExit_of_powered (by omega) (by omega)⟩
  · exact ⟨_, rfl⟩

theorem pwrRequest_reg (hk : ∀ p ∈ s.pwr.kept, isSetpt p.1 = true) {r : Reg} {ix : List Nat} (hr : isSetpt (r.at ix) = false)
    (hlow : r.at ix < 0x200000) (h1 : r.at ix ≠ Reg.PLK_CTRL.at []) (h2 : r.at ix ≠ Reg.PLK_EVT.at []) :
    s.pwrRequest.reg r ix = s.reg r ix := by
  unfold State.pwrRequest
  dsimp only
  split
  · exact startExit_reg hk _ hr hlow h1 h2
  · rfl

section
variable (ho : s.isOpen = true) {v : Word}
include ho

theorem exec_powerTargetWrite (v : Word) (t : Nat) : exec (.powerTargetWrite v t) s = .next (doPowerTarget v t s) :=
  congrArg Host.Outcome.next (hostWr_of_not_shut (not_shut ho (by decide) (by decide)))

theorem runs_powerTargetWrite_above (hv : 4 < fget 0 3 v) (t : Nat) : Runs (.powerTargetWrite v t) s fun u =>
    u.f PWR_CTRL.TARGET [] = s.f PWR_CTRL.TARGET []
      ∧ u.f PWR_CTRL.AUTO_WAKE [] = fget 8 1 v ∧ otherRegs [Reg.PWR_CTRL.at []] s u ∧ changesOnly [.regs, .clr] s u := by
  have hregs : otherRegs [Reg.PWR_CTRL.at []] s (s.passTo t) := passTo_otherRegs s t _
  refine .of_eq (exec_powerTargetWrite ho v t) (doPowerTarget_above hv t) ⟨?_, autoWake_stored .., hregs.trans (.setF (.head _)), ?_⟩
  · exact (f_setF_beside (x := PWR_CTRL.AUTO_WAKE) (y := PWR_CTRL.TARGET) _ _ _ rfl (by decide) (by decide)).trans (passTo_f ..)
  · exact Keeps.changesOnly (n := 0x84) ((setF_keeps ..).step ((passTo_keeps ..).step .refl rfl) rfl) rfl

theorem runs_powerTargetWrite {g : Nat} (hg : fget 0 3 v = g) (h4 : g ≤ 4) (hb : s.cal.busy = false) (hc : s.pwr.chg = none)
    (hk : ∀ p ∈ s.pwr.kept, isSetpt p.1 = true) (t : Nat) : Runs (.powerTargetWrite v t) s fun u =>
      u.f PWR_CTRL.TARGET [] = g ∧ u.f PWR_CTRL.AUTO_WAKE [] = fget 8 1 v ∧ u.pwr.st = s.pwr.st
      ∧ ((s.pwr.st < 3 ∨ s.pwr.st ≤ g) → otherRegs [Reg.PWR_CTRL.at []] s u ∧ changesOnly [.regs, .clr, .pwr] s u)
      ∧ (3 ≤ s.pwr.st → g < 3 → ∀ k, k < 144 → (u.cl k).p2 = false)
      ∧ u.pwr.chg = (if g < s.pwr.st then some g else none) ∧ u.pwr.pend = decide (s.pwr.st < g)
      ∧ u.pwr.off = false := by
  have htarget : (s.targeted v t).target = g := (targeted_target v t).trans hg
  have hpwr := targeted_pwr (s := s) v t
  have hreg : (s.targeted v t).pwrRequest.reg .PWR_CTRL [] = (s.targeted v t).reg .PWR_CTRL [] :=
    pwrRequest_reg (by rw [hpwr]; exact hk) (by decide) (by decide) (by decide) (by decide)
  have hladder := pwrRequest_pwr (s.targeted v t)
  rw [htarget, hpwr] at hladder
  refine .of_eq (exec_powerTargetWrite ho v t) (doPowerTarget_idle (by omega) hb hc t) ⟨?_, ?_, ?_, fun hst => ?_, fun h3 hg3 k hk => ?_, ?_⟩
  · rw [f_of_reg hreg]; exact htarget
  · rw [f_of_reg hreg]; exact targeted_autoWake v t
  · rw [hladder]; split <;> rfl
  · obtain ⟨p, hp⟩ := pwrRequest_of_powered (s := s.targeted v t) (by rwa [hpwr, htarget])
    rw [hp]
    exact ⟨targeted_otherRegs v t, Keeps.changesOnly (n := 0x10084) ((setPwr_keeps ..).step ((targeted_keeps v t).step .refl rfl) rfl) rfl⟩
  · unfold State.pwrRequest
    rw [htarget, hpwr, if_pos (by omega)]
    exact startExit_p2 (by rwa [hpwr]) hg3 hk
  · rw [hladder]
    split
    · exact ⟨rfl, (decide_eq_false (by omega)).symm, rfl⟩
    · exact ⟨hc, rfl, rfl⟩

end

/-! ### Entries (R426, R427) -/

theorem exec_powerEntry (off : Bool) (t : Nat) (s : State) : exec (.powerEntry off t) s = .next (doPowerEntry off t s) := rfl

/-- The state in which a waiting entry is weighed. -/
def State.offTold (s : State) (off : Bool) (t : Nat) : State := (s.passTo t).setPwr { s.pwr with off := off }

theorem offTold_pwrWait (off : Bool) (t g : Nat) :
    (s.offTold off t).pwrWait g = ({ s with pwr := { s.pwr with off := off } } : State).pwrWait g :=
  passTo_congr s t (fun u => (u.setPwr { s.pwr with off := off }).pwrWait g) fun _ => rfl

/-- An entry to g that starts, before its cluster and Placket actions. -/
def State.entering (s : State) (off : Bool) (g t : Nat) : State :=
  (s.offTold off t).setPwr { s.pwr with off := off, chg := some g, pend := false, t0 := (s.passTo t).clr.now }

theorem entering_keeps (off : Bool) (g t : Nat) : Keeps 0x10080 s (s.entering off g t) :=
  (setPwr_keeps ..).step ((setPwr_keeps ..).step ((passTo_keeps ..).step .refl rfl) rfl) rfl

section
variable {g : Nat} {off : Bool} (hp : s.pwr.pend = true) (hc : s.pwr.chg = none) (hg : s.target = g)
  (hw : ({ s with pwr := { s.pwr with off := off } } : State).pwrWait g = 0)
include hp hc hg hw

theorem doPowerEntry_starts (t : Nat) : doPowerEntry off t s =
    if g = 2 then (s.entering off g t).enterP2 else if 3 ≤ g then (s.entering off g t).plkRelease else s.entering off g t := by
  have htarget : (s.offTold off t).target = g := (passTo_f ..).trans hg
  have hwait : (s.offTold off t).pwrWait g = 0 := (offTold_pwrWait off t g).trans hw
  unfold doPowerEntry
  simp only [← State.offTold.eq_1, htarget, hwait]
  rw [if_neg (by simp [State.offTold, State.setPwr, hp, hc])]
  rfl

theorem runs_powerEntry_shallow (t : Nat) (h2 : g < 2) : Runs (.powerEntry off t) s fun u =>
    u.pwr.chg = some g ∧ u.pwr.pend = false ∧ u.pwr.st = s.pwr.st ∧ u.pwr.off = off ∧ changesOnly [.clr, .pwr] s u := by
  have hstart := doPowerEntry_starts hp hc hg hw t
  rw [if_neg (by omega), if_neg (by omega)] at hstart
  exact .of_eq (exec_powerEntry off t s) hstart ⟨rfl, rfl, rfl, rfl, (entering_keeps off g t).changesOnly rfl⟩

theorem runs_powerEntry_p2 (t : Nat) (h2 : g = 2) : Runs (.powerEntry off t) s fun u =>
    u.pwr.chg = some 2 ∧ ∀ k, k < 144 → (u.cl k).p2 = true := by
  refine .of_eq (exec_powerEntry off t s) ((doPowerEntry_starts hp hc hg hw t).trans (if_pos h2)) ⟨?_, fun k hk => enterP2_p2 _ hk⟩
  rw [(enterP2_keeps _).frame .pwr rfl, h2]
  rfl

theorem runs_powerEntry_deep (t : Nat) (h3 : 3 ≤ g) (hplk : s.plk.st = .engaged) : Runs (.powerEntry off t) s fun u =>
    u.pwr.chg = some g ∧ u.plk.st = .releasing ∧ u.lanes = s.lanes := by
  have hplk' : (s.entering off g t).plk.st = .engaged := by rw [(entering_keeps off g t).frame .plk rfl]; exact hplk
  have hstart := doPowerEntry_starts hp hc hg hw t
  rw [if_neg (by omega), if_pos h3, plkRelease_under_way (.inr hplk')] at hstart
  exact .of_eq (exec_powerEntry off t s) hstart ⟨rfl, rfl, (entering_keeps off g t).frame .lanes rfl⟩

end

/-! ### The end of a change (R427, R428) -/

/-- PWR_EXIT of an exit that ends now: the state it leaves and the microseconds since its start, saturated. -/
def State.exitWord (s : State) : Word := wd (s.pwr.st * 2 ^ 29 + min 0xFFFFFF ((s.clr.now - s.pwr.t0) / 1000))

/-- State g in force, and the measured time of an exit to P0 told. -/
def State.exitTold (s : State) (g : Nat) : State :=
  let s2 := s.setPwr { s.pwr with st := g, chg := none }
  if g < s.pwr.st ∧ g = 0 then s2.setReg .PWR_EXIT [] s.exitWord else s2

/-- The switch follows the ladder: an entry to P3 or P4 empties it. -/
def State.switchFollows (s : State) (g : Nat) : State :=
  if 3 ≤ g ∧ s.pwr.st < 3 then (s.exitTold g).sgfOff else s.exitTold g

/-- The P2 hold and the set-point store follow the ladder too. -/
def State.blocksFollow (s : State) (g : Nat) : State :=
  if s.pwr.st = 2 ∧ g < 2 then (s.switchFollows g).leaveP2
  else if 3 ≤ s.pwr.st ∧ g = 2 then (s.switchFollows g).enterP2
  else if g = 4 then (s.switchFollows g).storeDark
  else s.switchFollows g

/-- The end of a change to g. -/
def State.changeDone (s : State) (g : Nat) : State :=
  ((if g = 0 then (s.blocksFollow g).resumeHeld else s.blocksFollow g).post 2 0x21 g []).raise PWR_EVT.CHANGED []

theorem exitTold_pwr (s : State) (g : Nat) : (s.exitTold g).pwr = { s.pwr with st := g, chg := none } := by
  unfold State.exitTold
  dsimp only
  split <;> rfl

/-- The ladder once a change to g has ended; only P4 notes set-points. -/
theorem blocksFollow_pwr (s : State) (g : Nat) :
    (s.blocksFollow g).pwr.st = g ∧ (s.blocksFollow g).pwr.chg = none ∧ (s.blocksFollow g).pwr.late = s.pwr.late := by
  have h4 : (s.switchFollows g).pwr = { s.pwr with st := g, chg := none } := by
    unfold State.switchFollows
    split
    · rw [(sgfOff_keeps _).frame .pwr rfl, exitTold_pwr]
    · exact exitTold_pwr ..
  have hdark : (s.switchFollows g).storeDark.pwr = { (s.switchFollows g).pwr with kept := (s.switchFollows g).setpts } := rfl
  unfold State.blocksFollow
  split
  · rw [(leaveP2_keeps _).frame .pwr rfl, h4]; exact ⟨rfl, rfl, rfl⟩
  · split
    · rw [(enterP2_keeps _).frame .pwr rfl, h4]; exact ⟨rfl, rfl, rfl⟩
    · split
      · rw [hdark, h4]; exact ⟨rfl, rfl, rfl⟩
      · rw [h4]; exact ⟨rfl, rfl, rfl⟩

theorem changeDone_keeps (s : State) (g : Nat) : Keeps 0x102104 (s.blocksFollow g) (s.changeDone g) :=
  (raise_keeps ..).step ((post_keeps ..).step (.ite ((resumeHeld_keeps _).step .refl rfl) .refl) rfl) rfl

theorem changeDone_reg (s : State) (g : Nat) {r : Reg} {ix : List Nat} (hr : r.at ix < 0x40000400) (hne : Reg.PWR_EVT.at [] ≠ r.at ix) :
    (s.changeDone g).reg r ix = (s.blocksFollow g).reg r ix := by
  have hheld : Keeps 0x100 (s.blocksFollow g) (if g = 0 then (s.blocksFollow g).resumeHeld else s.blocksFollow g) :=
    .ite (resumeHeld_keeps _) .refl
  exact (raise_reg_ne _ hr hne).trans (((post_keeps ..).reg rfl rfl r ix).trans (hheld.reg rfl rfl r ix))

theorem changeDone_p2 (h2 : s.pwr.st = 2) {g : Nat} (hg : g < 2) {k : Nat} (hk : k < 144) : ((s.changeDone g).cl k).p2 = false := by
  rw [(changeDone_keeps s g).cl rfl, State.blocksFollow, if_pos ⟨h2, hg⟩]
  exact leaveP2_p2 _ hk

theorem changeDone_exit {g : Nat} (hg : g = 0) (h0 : 0 < s.pwr.st) : (s.changeDone g).reg .PWR_EXIT [] = s.exitWord := by
  have htold : (s.switchFollows g).reg .PWR_EXIT [] = s.exitWord := by
    rw [State.switchFollows, if_neg (by omega), State.exitTold, if_pos ⟨by omega, hg⟩]
    exact reg_setReg_same ..
  rw [changeDone_reg _ _ (by decide) (by decide), ← htold, State.blocksFollow]
  split
  · exact (leaveP2_turned _).reg ((leaveP2_keeps _).stage rfl) (by decide)
  · rw [if_neg (by omega), if_neg (by omega)]

theorem changeDone_sgf {g : Nat} (hf : s.pwr.st < 3) (hg : 3 ≤ g) :
    (s.changeDone g).sgf = { Sgf.reset with wire := s.sgf.wire, trapped := s.sgf.trapped } := by
  have hoff : (s.switchFollows g).sgf = { Sgf.reset with wire := s.sgf.wire, trapped := s.sgf.trapped } := by
    rw [State.switchFollows, if_pos ⟨hg, hf⟩, State.exitTold, if_neg (by omega)]
    rfl
  rw [(changeDone_keeps s g).frame .sgf rfl, State.blocksFollow, if_neg (by omega), if_neg (by omega), ← hoff]
  split
  · exact (storeDark_keeps _).frame .sgf rfl
  · rfl

theorem exec_powerChangeDone (t : Nat) (s : State) : exec (.powerChangeDone t) s = .next (doPowerDone t s) := rfl

theorem doPowerDone_ends {g : Nat} (hc : s.pwr.chg = some g) (hl : s.pwr.late = false)
    (hg : g < 3 ∨ g ≤ s.pwr.st ∨ s.plk.st = .released) (t : Nat) : doPowerDone t s = (s.passTo t).changeDone g := by
  have hlate : ((s.passTo t).changeDone g).pwr.late = false := by
    rw [(changeDone_keeps _ g).frame .pwr rfl, (blocksFollow_pwr _ g).2.2, passTo_pwr, hl]
  have hplk : ¬ (3 ≤ g ∧ (s.passTo t).pwr.st < g ∧ (s.passTo t).plk.st ≠ .released) := by
    rw [passTo_pwr, passTo_plk]
    rintro ⟨h3, hlt, hne⟩
    rcases hg with h | h | h
    · omega
    · omega
    · exact hne h
  have hc' : (s.passTo t).pwr.chg = some g := by rw [passTo_pwr, hc]
  simp only [doPowerDone, hc', if_neg hplk]
  exact if_neg (ne_true_of_eq_false hlate)

theorem runs_powerChangeDone {g : Nat} (hc : s.pwr.chg = some g) (hl : s.pwr.late = false)
    (hg : g < 3 ∨ g ≤ s.pwr.st ∨ s.plk.st = .released) (t : Nat) : Runs (.powerChangeDone t) s fun u =>
      u.pwr.st = g ∧ u.pwr.chg = none ∧ u.f PWR_EVT.CHANGED [] = 1
        ∧ (s.pwr.st = 2 → g < 2 → ∀ k, k < 144 → (u.cl k).p2 = false)
        ∧ (g = 0 → 0 < s.pwr.st → u.reg .PWR_EXIT [] = wd (s.pwr.st * 2 ^ 29 + min 0xFFFFFF (((s.passTo t).clr.now - s.pwr.t0) / 1000)))
        ∧ (s.pwr.st < 3 → 3 ≤ g → u.sgf.ports = [] ∧ u.sgf.frames = [] ∧ u.sgf.copies = [] ∧ u.sgf.fwd = [])
        ∧ (g = 4 → u.storeOff = true) := by
  obtain ⟨hst, hchg, -⟩ := blocksFollow_pwr (s.passTo t) g
  have hpwr : ((s.passTo t).changeDone g).pwr = ((s.passTo t).blocksFollow g).pwr := (changeDone_keeps _ g).frame .pwr rfl
  rw [← hpwr] at hst hchg
  refine .of_eq (exec_powerChangeDone t s) (doPowerDone_ends hc hl hg t)
    ⟨hst, hchg, raise_f_same (x := PWR_EVT.CHANGED) _ (by decide) (by decide), fun h2 hg2 k hk => ?_, fun h0 hf => ?_, fun hf h3 => ?_, fun h4 => ?_⟩
  · exact changeDone_p2 (by rwa [passTo_pwr]) hg2 hk
  · rw [changeDone_exit h0 (by rwa [passTo_pwr]), State.exitWord, passTo_pwr]
  · rw [changeDone_sgf (by rwa [passTo_pwr]) h3]
    exact ⟨rfl, rfl, rfl, rfl⟩
  · rw [State.storeOff, hst, hchg, h4]
    rfl

/-! ### AUTO_WAKE (R428) -/

theorem exec_autoWake (t : Nat) (s : State) : exec (.autoWake t) s = .next (doAutoWake t s) := rfl

theorem runs_autoWake {c : Nat} (hf : s.firstCommit = some c) (ha : s.fb PWR_CTRL.AUTO_WAKE [] = true) (h1 : 1 ≤ s.pwr.st) (h3 : s.pwr.st ≤ 3)
    (hc : s.pwr.chg = none) (t : Nat)
    (hdue : c ≤ (s.passTo t).clr.now + (if s.pwr.st = 1 then 20000 else if s.pwr.st = 2 then 200000 else 2000000) + 10000) :
    Runs (.autoWake t) s fun u => u.pwr.chg = some 0 ∧ u.pwr.st = s.pwr.st ∧ u.pwr.t0 = (s.passTo t).clr.now ∧ u.f PWR_EVT.AUTO [] = 1
      ∧ (s.pwr.st ≤ 2 → changesOnly [.regs, .clr, .pwr, .prl] s u) := by
  have hfirst : (s.passTo t).firstCommit = some c := by rw [State.firstCommit, passTo_yk]; exact hf
  have hwake : doAutoWake t s = ((s.passTo t).startExit 0).raise PWR_EVT.AUTO [] := by
    unfold doAutoWake
    simp only [hfirst]
    rw [if_pos (by simp [ha, h1, h3, hc, exitNs]; exact hdue)]
  have hladder : (((s.passTo t).startExit 0).raise PWR_EVT.AUTO []).pwr = s.pwr.exits 0 (s.passTo t).clr.now := by
    rw [(raise_keeps ..).frame .pwr rfl, startExit_pwr, passTo_pwr]
  refine .of_eq (exec_autoWake t s) hwake ⟨?_, ?_, ?_, raise_f_same (x := PWR_EVT.AUTO) _ (by decide) (by decide), fun h2 => ?_⟩
  · rw [hladder]; rfl
  · rw [hladder]; rfl
  · rw [hladder]; rfl
  · rw [startExit_of_powered (by rw [passTo_pwr]; omega) (by rw [passTo_pwr]; omega)]
    exact Keeps.changesOnly (n := 0x110084) ((raise_keeps ..).step ((setPwr_keeps ..).step ((passTo_keeps ..).step .refl rfl) rfl) rfl) rfl

end

/-- Settles O55, one lemma per clause. -/
theorem powerLadder : Obligations.PowerLadder := fun _s _v t _g _c _off =>
  ⟨fun ho hv => runs_powerTargetWrite_above ho hv t, fun ho hg h4 hb hc hk => runs_powerTargetWrite ho hg h4 hb hc hk t,
    fun hp hc hg hw => ⟨runs_powerEntry_shallow hp hc hg hw t, runs_powerEntry_p2 hp hc hg hw t, runs_powerEntry_deep hp hc hg hw t⟩,
    fun hc hl hg => runs_powerChangeDone hc hl hg t, fun hf ha h1 h3 hc hdue => runs_autoWake hf ha h1 h3 hc t hdue⟩

end Sys2Proof.Machine
end

section
/-! PROOF. What the path service, the pair logic, the fabric, the Yoke and the switch never write: the registers of the fault
collector, the thermal block, PWM, power and the Placket. -/
namespace Sys2Proof.Machine

/-! ### The quiet registers -/

/-- The places of the fault collector, the thermal block, PWM and power, and of the Placket and Cuff blocks. -/
def quietAddr (a : Nat) : Bool := decide (0x80000 ≤ a ∧ a < 0xB0000) || decide (0xC0000 ≤ a ∧ a < 0x100000)

/-- The quiet registers hold the same, at the same boot stage. -/
def Quiet (s u : State) : Prop := u.sys.stage = s.sys.stage ∧ ∀ a, quietAddr a = true → ∀ d, sget d u.regs a = sget d s.regs a

theorem not_quietAddr_of_high {a : Nat} (h : 0x100000 ≤ a) : quietAddr a = false := by
  simp [quietAddr]
  omega

theorem not_quietAddr_of_base {r : Reg} (h : 0x100000 ≤ r.row.base) (ix : List Nat) : quietAddr (r.at ix) = false :=
  not_quietAddr_of_high (h.trans (base_le_at ix r))

section
variable {s u v : State} {m : Nat}

theorem Quiet.refl : Quiet s s := ⟨rfl, fun _ _ _ => rfl⟩

theorem Quiet.trans (h : Quiet s u) (k : Quiet u v) : Quiet s v := ⟨k.1.trans h.1, fun a ha d => (k.2 a ha d).trans (h.2 a ha d)⟩

theorem Quiet.ite {c : Prop} {i : Decidable c} (h : Quiet s u) (k : Quiet s v) : Quiet s (ite c u v) := by
  split <;> assumption

theorem Quiet.of_keeps (h : Keeps m s u) (h1 : m.testBit 1 = false) (h2 : m.testBit 2 = false) : Quiet s u :=
  ⟨h.stage h1, fun _ _ _ => by rw [h.frame .regs h2]⟩

theorem Quiet.then (h : Quiet s u) (k : Keeps m u v) (h1 : m.testBit 1 = false) (h2 : m.testBit 2 = false) : Quiet s v :=
  h.trans (.of_keeps k h1 h2)

theorem Quiet.of_otherRegs {l : List Nat} (h : otherRegs l s u) (hs : u.sys.stage = s.sys.stage) (hl : ∀ a ∈ l, quietAddr a = false) :
    Quiet s u :=
  ⟨hs, fun a ha => h a fun hm => by rw [hl a hm] at ha; exact absurd ha (by decide)⟩

theorem Quiet.of_turned (h : Turned s u) (hs : u.sys.stage = s.sys.stage) : Quiet s u :=
  ⟨hs, fun a ha => h.low a (by simp [quietAddr] at ha; omega)⟩

theorem Quiet.upd {w : State} (h : Quiet s u) (hr : w.regs = u.regs) (hs : w.sys = u.sys) : Quiet s w :=
  ⟨(congrArg Sys.stage hs).trans h.1, fun a ha d => by rw [hr, h.2 a ha]⟩

theorem Quiet.foldl {α : Type} {f : State → α → State} (h : ∀ x a, Quiet x (f x a)) (l : List α) (s : State) : Quiet s (l.foldl f s) :=
  foldl_rel (R := Quiet) (fun _ => .refl) .trans (fun x a _ => h x a) s

theorem Quiet.reg (h : Quiet s u) {r : Reg} {ix : List Nat} (hr : quietAddr (r.at ix) = true) : u.reg r ix = s.reg r ix := by
  rw [State.reg, State.reg, h.1, h.2 _ hr]

theorem Quiet.f (h : Quiet s u) {x : Fld} {ix : List Nat} (hr : quietAddr (x.reg.at ix) = true) : u.f x ix = s.f x ix :=
  f_of_reg (h.reg hr)

end

/-! ### Writes of other registers -/

section
variable (s : State) {r : Reg} {x : Fld} {ix : List Nat}

theorem setReg_quiet (h : quietAddr (r.at ix) = false) (v : Word) : Quiet s (s.setReg r ix v) :=
  .of_otherRegs (.setReg (List.mem_singleton.2 rfl)) rfl fun _ ha => List.mem_singleton.1 ha ▸ h

theorem setF_quiet (h : quietAddr (x.reg.at ix) = false) (v : Nat) : Quiet s (s.setF x ix v) := setReg_quiet s h _

theorem bump_quiet (h : quietAddr (r.at ix) = false) (n : Nat) : Quiet s (s.bump r ix n) := setReg_quiet s h _

theorem icEdge_quiet (n : Nat) : Quiet s (s.icEdge n) :=
  .of_otherRegs (.icEdge (List.mem_singleton.2 rfl)) ((icEdge_keeps ..).stage rfl) fun _ ha =>
    List.mem_singleton.1 ha ▸ not_quietAddr_of_base (by decide) _

theorem raise_quiet (h : quietAddr (x.reg.at ix) = false) : Quiet s (s.raise x ix) := by
  have h1 := setF_quiet s h 1
  unfold State.raise
  split
  · exact h1.trans (icEdge_quiet _ _)
  · exact h1

end

section
variable (s : State)

/-! ### Lanes -/

theorem abortLane_quiet (e : Nat) : Quiet s (s.abortLane e) := .of_turned (abortLane_turned s e) ((abortLane_keeps ..).stage rfl)

theorem safeClusters_quiet (on : Bool) : Quiet s (s.safeClusters on) := by
  unfold State.safeClusters
  have h1 : Quiet s ((List.range 144).foldl (fun (s : State) c => s.setCl c { s.cl c with safe := on }) s) :=
    .foldl (fun u c => .of_keeps (setCl_keeps ..) rfl rfl) _ s
  exact .ite (h1.trans (.foldl abortLane_quiet _ _)) h1

/-! ### The pair -/

theorem pairEvent_quiet (sub : Nat) (pl : List Word) : Quiet s (s.pairEvent sub pl) := by
  unfold State.pairEvent
  split
  · exact .refl
  · extract_lets s1
    have h1 : Quiet s s1 := by
      unfold s1
      split
      · exact setReg_quiet s (by decide) _
      · exact .refl
    exact h1.then (post_keeps ..) rfl rfl

theorem loseSync_quiet (cause : Nat) : Quiet s (s.loseSync cause) := by
  unfold State.loseSync
  refine .ite ?_ .refl
  exact (Quiet.of_keeps (setPair_keeps s _) rfl rfl).trans (pairEvent_quiet ..)

theorem compareOut_quiet (n own st : Nat) : Quiet s (s.compareOut n own st) :=
  .ite .refl ((pairEvent_quiet ..).then (sendSnapshot_keeps ..) rfl rfl)

theorem pairDone_quiet (p : Placed) (status : Nat) (vt : Word) : Quiet s (s.pairDone p status vt) := by
  unfold State.pairDone
  split
  · exact .ite (loseSync_quiet ..) .refl
  · extract_lets w _ s1 s2 _
    have h1 : Quiet s s1 := by
      unfold s1
      split
      · refine .trans ?_ (compareOut_quiet ..)
        exact .refl
      · exact .refl
    have h2 : Quiet s s2 := .of_keeps (mirSend_keeps ..) rfl rfl
    exact .ite .refl (.ite (.ite (h1.trans (pairEvent_quiet ..)) h1)
      (.ite (h2.trans (pairEvent_quiet ..)) (.ite h2 (h2.then (setPair_keeps ..) rfl rfl))))

theorem mirrorOut_quiet (w : TxnW) : Quiet s (s.mirrorOut w) := by
  unfold State.mirrorOut
  extract_lets _ s1
  exact .ite .refl ((Quiet.of_keeps (mirSend_keeps s1 _) rfl rfl).trans (bump_quiet _ (by decide) 1))

/-! ### Transactions staged again -/

theorem stageLanes_quiet (l : List Chg) : Quiet s (s.stageLanes l).2.2 := by
  unfold State.stageLanes
  refine foldl_keeps (fun u : List LaneSet × Bool × State => Quiet s u.2.2) .refl fun u c hu => ?_
  split
  · split
    · exact hu
    · extract_lets o _ _
      have ho : Quiet s o.2.2 := hu.then (openPath_keeps u.2.2 _ _ o rfl) rfl rfl
      exact .ite ((ho.then (setRec_keeps ..) rfl rfl).trans (raise_quiet _ (by decide))) (ho.then (setRec_keeps ..) rfl rfl)
  · exact hu

theorem patLanes_quiet (layer : Nat) (l : List Chg) : Quiet s (s.patLanes layer l).2.2 := stageLanes_quiet s l

theorem rebuild_quiet (p : Placed) : Quiet s (s.rebuild p) :=
  .ite .refl ((patLanes_quiet s p.txn.layer p.chg).then (m := 0x100) (Keeps.trans (m := 0x100) (Keeps.upd .refl) (modPat_keeps ..)) rfl rfl)

theorem eachTxn_quiet (sel : Placed → Bool) {k : State → Placed → State} (h : ∀ u p, Quiet u (k u p)) : Quiet s (s.eachTxn sel k) := by
  unfold State.eachTxn
  refine .foldl (fun u n => ?_) _ s
  split
  · exact h ..
  · exact .refl

theorem takeRoutes_quiet (layer : Nat) (l : List (Nat × Route × Route)) : Quiet s (s.takeRoutes layer l) := by
  unfold State.takeRoutes
  extract_lets s1
  have h1 : Quiet s s1 := by
    unfold s1
    refine .foldl (fun u x => ?_) _ _
    exact Quiet.refl.upd rfl rfl
  exact h1.trans (eachTxn_quiet _ _ fun u p => rebuild_quiet u p)

theorem unstageRep_quiet (r : Rep) : Quiet s (s.unstageRep r) := by
  unfold State.unstageRep
  extract_lets back s1
  have h1 : Quiet s s1 := .ite (.of_keeps (freePat_keeps ..) rfl rfl) .refl
  exact (((h1.then (putRep_keeps ..) rfl rfl).trans (takeRoutes_quiet ..))).then (refreshLayer_keeps ..) rfl rfl

theorem stageRb_quiet (q : Placed) : Quiet s (s.stageRb q) := by
  unfold State.stageRb
  refine .ite .refl (.ite (raise_quiet s (by decide)) ?_)
  extract_lets layer lanes s1 soon due
  have h1 : Quiet s s1 := patLanes_quiet s layer q.chg
  split
  · exact .refl
  next n s2 hn =>
    have h2 : Quiet s s2 := h1.then (newPat_keeps _ _ _ _ _ _ _ _ _ hn) rfl rfl
    extract_lets s3 first after
    have h3 : Quiet s s3 := h2.then (modTxn_keeps ..) rfl rfl
    exact h3.upd rfl rfl

theorem redo_quiet (bad : NodeSet) (p : Placed) : Quiet s (State.redo bad s p) := by
  unfold State.redo
  split
  · exact .of_keeps (loseTxn_keeps ..) rfl rfl
  · split
    · exact ((Quiet.of_keeps (takeChanges_keeps s _ _) rfl rfl).then (addPlaced_keeps ..) rfl rfl).trans (rebuild_quiet ..)
    · extract_lets x
      split
      · exact .of_keeps (loseTxn_keeps ..) rfl rfl
      · exact ((Quiet.of_keeps (takeChanges_keeps s _ _) rfl rfl).then (addPlaced_keeps ..) rfl rfl).trans (rebuild_quiet ..)

theorem beneath_quiet (layer n : Nat) (bad : NodeSet) {k : State → State} (hk : ∀ u, Quiet u (k u)) : Quiet s (s.beneath layer n bad k) := by
  unfold State.beneath
  extract_lets l
  have h1 : Quiet s (l.reverse.foldl State.withdraw s) := .foldl (fun u p => .of_keeps (withdraw_keeps u p) rfl rfl) _ _
  exact (h1.trans (hk _)).trans (.foldl (redo_quiet · bad) _ _)

theorem rollBack_quiet (x : Txn) (n : Nat) (l : List Chg) (due : Option Nat) (seg : Option (Nat × Nat)) :
    Quiet s (s.rollBack x n l due seg) := by
  unfold State.rollBack
  extract_lets dg
  refine beneath_quiet s x.layer n [] fun u => ?_
  extract_lets c new _ q s1 at_ k p q1
  have h1 : Quiet u s1 := .of_keeps (takeChanges_keeps ..) rfl rfl
  refine .ite ?_ ((h1.then (addPlaced_keeps ..) rfl rfl).trans (stageRb_quiet ..))
  exact ((h1.trans (mirrorOut_quiet ..)).then (addPlaced_keeps ..) rfl rfl).trans (stageRb_quiet ..)

/-! ### The fabric -/

theorem fabEvent_quiet (sub : Nat) (pl : List Word) : Quiet s (s.fabEvent sub pl) := by
  unfold State.fabEvent
  exact ((setReg_quiet s (by decide) _).trans (icEdge_quiet ..)).then (post_keeps ..) rfl rfl

theorem segRollback_quiet (owner num : Nat) (due : Option Nat) : Quiet s (s.segRollback owner num due) := by
  unfold State.segRollback
  split
  · refine .ite ?_ .refl
    exact (rollBack_quiet ..).then (modSeg_keeps ..) rfl rfl
  · exact .refl

theorem fabFinish_quiet (q : FabReq) : Quiet s (s.fabFinish q) := by
  unfold State.fabFinish
  refine .ite .refl ?_
  extract_lets _ s1 j s2 fault due s3 s4 st back _
  have h1 : Quiet s s1 := Quiet.refl.upd rfl rfl
  have hpath (u : State) (a : Nat) (p : FabPath) : Quiet u (u.setFpath a p) := .of_keeps (setFpath_keeps ..) rfl rfl
  have h2 : Quiet s s2 := h1.trans (.foldl (fun u i => by
    extract_lets u1 _ u2
    have k1 : Quiet u u1 := .ite (hpath ..) (hpath ..)
    have k2 : Quiet u u2 := .ite k1 (k1.then (setRec_keeps ..) rfl rfl)
    exact .ite (k2.trans (fabEvent_quiet ..)) k2) _ _)
  have h3 : Quiet s s3 := h1.trans (.foldl (fun u x =>
    .ite (.ite (segRollback_quiet ..) (.of_keeps (fabSend_keeps ..) rfl rfl)) .refl) _ _)
  have h4 : Quiet s s4 := h3.trans (.foldl (fun u i => .ite ((hpath ..).trans (fabEvent_quiet ..)) (hpath ..)) _ _)
  exact .ite (h2.then (fabComplete_keeps ..) rfl rfl) (.ite (h4.then (fabComplete_keeps ..) rfl rfl) (h4.upd rfl rfl))

theorem fabGather_quiet (num dev : Nat) (o : SegOut) : Quiet s (s.fabGather num dev o) := by
  unfold State.fabGather
  split
  · exact .refl
  · refine .ite .refl ?_
    extract_lets q1 _ s1
    have h1 : Quiet s s1 := Quiet.refl.upd rfl rfl
    exact h1.trans (fabFinish_quiet ..)

theorem segDone_quiet (p : Placed) (o : SegOut) : Quiet s (s.segDone p o) := by
  unfold State.segDone
  split
  · exact .refl
  · extract_lets s1 s2
    have h1 : Quiet s s1 := .of_keeps (modSeg_keeps ..) rfl rfl
    have h2 : Quiet s s2 := by
      unfold s2
      split
      · exact .ite (h1.then (segRefs_keeps ..) rfl rfl) h1
      · exact h1
    refine .ite (.ite (.of_keeps (rbDone_keeps ..) rfl rfl) (.of_keeps (fabSend_keeps ..) rfl rfl)) (.ite ?_ (h2.then (fabSend_keeps ..) rfl rfl))
    refine .trans ?_ (fabGather_quiet ..)
    exact h2.upd rfl rfl

theorem finish_quiet (p : Placed) (status : Nat) : Quiet s (s.finish p status) := by
  unfold State.finish
  extract_lets s1 ok v s2 s3 s4
  have h1 : Quiet s s1 := .of_keeps (dropPlaced_keeps ..) rfl rfl
  have h2 : Quiet s s2 := .ite (h1.then (completeTxn_keeps ..) rfl rfl) h1
  have h3 : Quiet s s3 := h2.trans (pairDone_quiet ..)
  have h4 : Quiet s s4 := .ite (h3.then (refLinks_keeps ..) rfl rfl) h3
  exact h4.trans (segDone_quiet ..)

theorem abortTxn_quiet (p : Placed) : Quiet s (s.abortTxn p) := by
  unfold State.abortTxn
  extract_lets s1
  have h1 : Quiet s s1 := .of_keeps (withdraw_keeps ..) rfl rfl
  refine .trans ?_ (finish_quiet ..)
  exact .ite (h1.then (freePat_keeps ..) rfl rfl) h1

theorem dropLayers_quiet : Quiet s s.dropLayers := by
  unfold State.dropLayers
  extract_lets l s1 s2
  have h1 : Quiet s s1 := (Quiet.foldl abortTxn_quiet l s).then (releaseLayers_keeps ..) rfl rfl
  exact (h1.trans (eachTxn_quiet s1 _ fun u p => finish_quiet u p stFault)).upd rfl rfl

/-! ### The entry of the safe state -/

theorem safePaths_quiet : Quiet s s.safePaths := by
  unfold State.safePaths
  extract_lets s1 l s2 pats _ s3 s4 _ s5 cal s6 _ s7 s8
  have h1 : Quiet s s1 := by
    unfold s1
    split
    · refine .ite ?_ .refl
      exact (Quiet.of_keeps (setCur_keeps s none) rfl rfl).then (rejectTxn_keeps ..) rfl rfl
    · exact .refl
  have h2 : Quiet s s2 := h1.trans (.foldl abortTxn_quiet l s1)
  have h3 : Quiet s s3 := h2.upd rfl rfl
  have h3' : Quiet s (pats.foldl State.freePat s3) := h3.trans (.foldl (fun u n => .of_keeps (freePat_keeps u n) rfl rfl) pats s3)
  have h4 : Quiet s s4 := h3'.trans (.foldl unstageRep_quiet _ (pats.foldl State.freePat s3))
  have h5 : Quiet s s5 := h4.upd rfl rfl
  have h6 : Quiet s s6 := h5.trans (dropLayers_quiet s5)
  have h7 : Quiet s s7 := by
    clear_value s6
    exact h6.upd rfl rfl
  have h8 : Quiet s s8 := h7.trans (setF_quiet s7 (by decide) 0)
  exact .ite (h8.trans (raise_quiet s8 (by decide))) h8

/-! ### The end of a calibration run -/

theorem refSelect_quiet (c a : Nat) (v : Word) : Quiet s (State.refSelect c v s a) :=
  .of_turned (refSelect_turned s c a v) ((refSelect_keeps ..).stage rfl)

theorem calUnhold_quiet : Quiet s s.calUnhold := by
  unfold State.calUnhold
  extract_lets k s1 s2
  have h1 : Quiet s s1 := .foldl (fun u p => refSelect_quiet u ..) _ s
  have h2 : Quiet s s2 := h1.trans (.foldl (fun u p => setF_quiet u (not_quietAddr_of_base (by decide) _) _) _ s1)
  exact h2.then (setCal_keeps ..) rfl rfl

theorem doSetptWrite_quiet (e : Nat) (k : Bool) (v : Word) : Quiet s (doSetptWrite e k v s) := by
  unfold doSetptWrite
  extract_lets l d s1
  have h1 : Quiet s s1 := setReg_quiet s (not_quietAddr_of_base (by decide) _) v
  exact .ite (h1.then (setLane_keeps ..) rfl rfl) (h1.then (setLane_keeps ..) rfl rfl)

theorem calStop_quiet (result cause : Nat) : Quiet s (s.calStop result cause) := by
  unfold State.calStop
  refine .ite .refl ?_
  extract_lets s1 k s2 _ s3
  have h1 : Quiet s s1 := calUnhold_quiet s
  have h2 : Quiet s s2 := (h1.then (setCal_keeps s1 _) rfl rfl).trans (.foldl (fun u p => doSetptWrite_quiet u ..) _ _)
  have h3 : Quiet s s3 := h2.upd rfl rfl
  exact .ite h3 (h3.then (calRelease_keeps ..) rfl rfl)

/-! ### The switch -/

theorem spCount_quiet (p k : Nat) : Quiet s (s.spCount p k) := bump_quiet s (not_quietAddr_of_base (by decide) _) 1

theorem flushOut_quiet (o : Nat) : Quiet s (s.flushOut o) := by
  unfold State.flushOut State.flush
  extract_lets l s1 s2
  have h1 : Quiet s s1 := .foldl (fun u c => (spCount_quiet u ..).then (modFrm_keeps ..) rfl rfl) _ s
  have h2 : Quiet s s2 := (h1.then (dropCpy_keeps ..) rfl rfl).then (reap_keeps ..) rfl rfl
  exact .ite (.ite h2 (h2.trans (raise_quiet s2 (not_quietAddr_of_base (by decide) _)))) .refl

theorem sgfSafe_quiet : Quiet s s.sgfSafe := by
  unfold State.sgfSafe
  extract_lets s1 s2 _ s3
  have h1 : Quiet s s1 := .foldl (fun u o => .of_keeps (endTx_keeps u _ _) rfl rfl) _ s
  have h2 : Quiet s s2 := h1.trans (.foldl (fun u p => .ite .refl (spCount_quiet ..)) _ s1)
  have h3 : Quiet s s3 := h2.then (setSgf_keeps ..) rfl rfl
  exact h3.trans (.foldl flushOut_quiet _ s3)

end
end Sys2Proof.Machine
end

section
/-! PROOF. The registers of the fault collector (R388 to R396): the bits of its groups, and what they leave of the causes. -/
namespace Sys2Proof.Machine

/-! ### The bits of a group register -/

section
variable (s : State) {r q : Reg} (n : Nat) {m : Nat} (v : Bool)

/-- A register of the group table (R388): 64 bytes for each of 8 groups. -/
def grouped (r : Reg) : Prop := r.row.dims = [(0x40, 8)] ∧ 0x80100 ≤ r.row.base

theorem grouped.at {r : Reg} (h : grouped r) (k : Nat) : r.at [k] = r.row.base + 0x40 * k := by
  rw [Reg.at, h.1]
  rfl

theorem grouped_STAT : grouped .FLT_STAT := ⟨rfl, by decide⟩
theorem grouped_HELD : grouped .FLT_HELD := ⟨rfl, by decide⟩
theorem grouped_ACTED : grouped .FLT_ACTED := ⟨rfl, by decide⟩
theorem grouped_EN : grouped .FLT_EN := ⟨rfl, by decide⟩

/-- Two registers of the table with other places in their group are never the same one. -/
theorem at_ne_of_grouped (hr : grouped r) (hq : grouped q) (h : r.row.base % 64 ≠ q.row.base % 64) (j k : Nat) :
    r.at [j] ≠ q.at [k] := by
  rw [hr.at, hq.at]
  omega

theorem src_congr {s u : State} (h : u.reg r [n / 32] = s.reg r [n / 32]) : u.src r n = s.src r n := by
  rw [State.src, h, State.src]

theorem src_setReg_other (hr : grouped r) (hq : grouped q) (h : r.row.base % 64 ≠ q.row.base % 64) (k : Nat) (w : Word) :
    (s.setReg r [k] w).src q n = s.src q n := src_congr n (reg_setReg_ne s w (at_ne_of_grouped hr hq h _ _))

theorem src_setSrc_other (hr : grouped r) (hq : grouped q) (h : r.row.base % 64 ≠ q.row.base % 64) :
    (s.setSrc r n v).src q m = s.src q m := src_setReg_other s m hr hq h ..

theorem src_setSrc (hr : grouped r) : (s.setSrc r n v).src r m = if m = n then v else s.src r m := by
  by_cases hg : n / 32 = m / 32
  · have hbit : (s.setSrc r n v).src r m = (fput (n % 32) 1 (b2n v) (s.reg r [m / 32])).toNat.testBit (m % 32) := by
      rw [State.src, State.setSrc, hg, reg_setReg_same]
      rfl
    rw [hbit, testBit_fput _ _ _ _ _ (by omega)]
    by_cases hmn : m = n
    · subst hmn
      cases v <;> simp [b2n]
    · rw [if_neg hmn, if_neg (by omega)]
      rfl
  · rw [if_neg fun h => hg (by rw [h])]
    exact src_congr m (reg_setReg_ne s _ (by rw [hr.at, hr.at]; omega))

theorem src_setSrc_same (hr : grouped r) : (s.setSrc r n v).src r n = v := by rw [src_setSrc s n v hr, if_pos rfl]

end

/-! ### Causes -/

/-- A place of the fault collector. -/
def inCollector (a : Nat) : Prop := 0x80000 ≤ a ∧ a < 0x81000

/-- Only the registers of the collector, its timers and its marks have changed. -/
structure OwnFaults (s u : State) : Prop where
  rest : u = { s with regs := u.regs, flt := u.flt }
  ext : u.flt.ext = s.flt.ext
  regs : ∀ a, ¬ inCollector a → ∀ d, sget d u.regs a = sget d s.regs a

section
variable {s u v : State}

theorem OwnFaults.refl : OwnFaults s s := ⟨rfl, rfl, fun _ _ _ => rfl⟩

theorem OwnFaults.trans (h : OwnFaults s u) (k : OwnFaults u v) : OwnFaults s v := by
  refine ⟨?_, k.ext.trans h.ext, fun a ha d => (k.regs a ha d).trans (h.regs a ha d)⟩
  have hk := k.rest
  rw [h.rest] at hk
  exact hk

theorem OwnFaults.setReg {r : Reg} {ix : List Nat} (h : inCollector (r.at ix)) (w : Word) : OwnFaults s (s.setReg r ix w) :=
  ⟨rfl, rfl, fun _ ha _ => sget_sset_ne _ _ _ fun e => ha (e ▸ h)⟩

theorem OwnFaults.setFlt {k : Flt} (h : k.ext = s.flt.ext) : OwnFaults s (s.setFlt k) := ⟨rfl, h, fun _ _ _ => rfl⟩

theorem OwnFaults.stage (h : OwnFaults s u) : u.sys.stage = s.sys.stage := by rw [h.rest]

theorem OwnFaults.reg (h : OwnFaults s u) {r : Reg} {ix : List Nat} (hr : ¬ inCollector (r.at ix)) : u.reg r ix = s.reg r ix := by
  rw [State.reg, State.reg, h.stage, h.regs _ hr]

/-- A register of a block behind the collector, and one without indices before it. -/
def besideCollector (r : Reg) : Bool := decide (0x81000 ≤ r.row.base) || (decide (r.row.base < 0x80000) && decide (r.row.dims = []))

theorem not_inCollector {r : Reg} (h : besideCollector r = true) (ix : List Nat) : ¬ inCollector (r.at ix) := by
  simp only [besideCollector, Bool.or_eq_true, Bool.and_eq_true, decide_eq_true_eq] at h
  rintro ⟨h1, h2⟩
  rcases h with h | ⟨h, hd⟩
  · have := base_le_at ix r
    omega
  · rw [Reg.at, hd] at h1
    cases ix <;> simp [dimOff] at h1 <;> omega

theorem OwnFaults.f (h : OwnFaults s u) {x : Fld} (hx : besideCollector x.reg = true) (ix : List Nat) : u.f x ix = s.f x ix :=
  f_of_reg (h.reg (not_inCollector hx ix))

theorem OwnFaults.fb (h : OwnFaults s u) {x : Fld} (hx : besideCollector x.reg = true) (ix : List Nat) : u.fb x ix = s.fb x ix :=
  fb_of_f (h.f hx ix)

theorem OwnFaults.lane (h : OwnFaults s u) (e : Nat) : u.lane e = s.lane e := by rw [h.rest]; rfl

theorem OwnFaults.cl (h : OwnFaults s u) (c : Nat) : u.cl c = s.cl c := by rw [h.rest]; rfl

/-- The cause of a source as a level does not rest on the collector's own registers. -/
theorem OwnFaults.faultLevel (h : OwnFaults s u) (n : Nat) : u.faultLevel n = s.faultLevel n := by
  have hf : ∀ x ix, besideCollector x.reg = true → u.f x ix = s.f x ix := fun x ix hx => h.f hx ix
  have hfb : ∀ x ix, besideCollector x.reg = true → u.fb x ix = s.fb x ix := fun x ix hx => h.fb hx ix
  have hreg : ∀ r, besideCollector r = true → ∀ ix, u.reg r ix = s.reg r ix := fun r hr ix => h.reg (not_inCollector hr ix)
  have hl := h.lane
  have hc := h.cl
  have he := h.ext
  have hthm : u.thm = s.thm := by rw [h.rest]
  have hsys : u.sys = s.sys := by rw [h.rest]
  have hprl : u.prl = s.prl := by rw [h.rest]
  have hpair : u.pair = s.pair := by rw [h.rest]
  have hpth : u.pth = s.pth := by rw [h.rest]
  have hcal : u.cal = s.cal := by rw [h.rest]
  have hstale : ∀ e, u.exStale e = s.exStale e := fun e => by simp only [State.exStale, State.optCl, hl, hc, hcal]
  have hsns : u.snsEn = s.snsEn := funext fun i => hfb THM_SNS.EN [i] (by decide)
  have htone : u.toneAligned = s.toneAligned := funext fun p => by simp only [State.toneAligned, hl, hc]
  simp (disch := decide) only [State.faultLevel, State.anyLane, State.partBits, State.strapFault, State.snsBroken, State.snsOn,
    State.sns, State.tecCause, State.exchBad, State.exchOk, State.nPaths, State.viewLayer, State.cufStatus, State.show,
    State.inPair, hf, hfb, hreg, hl, he, hthm, hsys, hprl, hpair, hpth, hsns, htone, hstale]
  rfl

end

/-! ### Clears (R389, R395) -/

section
variable (s : State) (n m : Nat)

theorem inCollector_of_grouped {r : Reg} (h : grouped r) (hb : r.row.base ≤ 0x80200) (hn : n < 256) : inCollector (r.at [n / 32]) := by
  have := h.2
  rw [inCollector, h.at]
  omega

theorem setSrc_ownFaults {r : Reg} (h : grouped r) (hb : r.row.base ≤ 0x80200) (hn : n < 256) (v : Bool) :
    OwnFaults s (s.setSrc r n v) := .setReg (inCollector_of_grouped n h hb hn) _

/-- The status, the mark and the hold of a source cleared, its timer stopped. -/
def State.unmarked (s : State) (n : Nat) : State :=
  (((s.setSrc .FLT_STAT n false).setSrc .FLT_ACTED n false).setSrc .FLT_HELD n false).escStop n

theorem unmarked_src (r : Reg) : (s.unmarked n).src r m =
    (((s.setSrc .FLT_STAT n false).setSrc .FLT_ACTED n false).setSrc .FLT_HELD n false).src r m := rfl

theorem clearSrc_eq : s.clearSrc n = if n = 0 then (s.unmarked n).setF FLT_PAR.VALID [] 0 else s.unmarked n := rfl

theorem unmarked_ownFaults (hn : n < 256) : OwnFaults s (s.unmarked n) :=
  (((setSrc_ownFaults s n grouped_STAT (by decide) hn _).trans (setSrc_ownFaults _ n grouped_ACTED (by decide) hn _)).trans
    (setSrc_ownFaults _ n grouped_HELD (by decide) hn _)).trans (.setFlt rfl)

theorem clearSrc_ownFaults (hn : n < 256) : OwnFaults s (s.clearSrc n) := by
  have h := unmarked_ownFaults s n hn
  rw [clearSrc_eq]
  split
  · exact h.trans (.setReg ⟨by decide, by decide⟩ _)
  · exact h

/-- The word FLT_PAR is no group register. -/
theorem clearSrc_src {r : Reg} (h : grouped r) : (s.clearSrc n).src r m = (s.unmarked n).src r m := by
  rw [clearSrc_eq]
  split
  · refine src_congr m (reg_setReg_ne _ _ ?_)
    have := h.2
    rw [h.at]
    show 0x80010 ≠ _
    omega
  · rfl

theorem clearSrc_STAT : (s.clearSrc n).src .FLT_STAT m = (decide (m ≠ n) && s.src .FLT_STAT m) := by
  rw [clearSrc_src s n m grouped_STAT]
  rw [unmarked_src, src_setSrc_other _ n false grouped_HELD grouped_STAT (by decide), src_setSrc_other _ n false grouped_ACTED grouped_STAT (by decide), src_setSrc _ n false grouped_STAT]
  by_cases h : m = n <;> simp [h]

theorem clearSrc_HELD : (s.clearSrc n).src .FLT_HELD m = (decide (m ≠ n) && s.src .FLT_HELD m) := by
  rw [clearSrc_src s n m grouped_HELD]
  rw [unmarked_src, src_setSrc _ n false grouped_HELD, src_setSrc_other _ n false grouped_ACTED grouped_HELD (by decide), src_setSrc_other _ n false grouped_STAT grouped_HELD (by decide)]
  by_cases h : m = n <;> simp [h]

theorem clearSrc_safe : (s.clearSrc n).flt = { s.flt with esc := s.flt.esc.filter fun x => x.1 ≠ n } := by
  rw [clearSrc_eq]
  split <;> rfl

/-- A status written with 1 is cleared where its cause does not hold. -/
def State.clearStep (s : State) (n : Nat) : State := if s.src .FLT_STAT n && !s.faultLevel n then s.clearSrc n else s

theorem clearStep_ownFaults (hn : n < 256) : OwnFaults s (s.clearStep n) := by
  unfold State.clearStep
  split
  · exact clearSrc_ownFaults s n hn
  · exact .refl

theorem clearStep_STAT : (s.clearStep n).src .FLT_STAT m = (s.src .FLT_STAT m && !(decide (m = n) && !s.faultLevel m)) := by
  unfold State.clearStep
  by_cases hm : m = n
  · subst hm
    split
    · next h =>
      rw [clearSrc_STAT]
      simp_all
    · next h => cases hs : s.src .FLT_STAT m <;> simp_all
  · split
    · rw [clearSrc_STAT]
      simp [hm]
    · simp [hm]

theorem clearStep_HELD (h : s.src .FLT_HELD m = false) : (s.clearStep n).src .FLT_HELD m = false := by
  unfold State.clearStep
  split
  · rw [clearSrc_HELD, h, Bool.and_false]
  · exact h

theorem clearStep_safe : (s.clearStep n).flt.safe = s.flt.safe ∧ (s.clearStep n).flt.entering = s.flt.entering := by
  unfold State.clearStep
  split
  · rw [clearSrc_safe]
    exact ⟨rfl, rfl⟩
  · exact ⟨rfl, rfl⟩

/-- What a list of clears leaves of every status: those of the list go where their cause does not hold. -/
theorem clearSteps_STAT (l : List Nat) (hl : ∀ n ∈ l, n < 256) :
    (l.foldl State.clearStep s).src .FLT_STAT m = (s.src .FLT_STAT m && !(decide (m ∈ l) && !s.faultLevel m)) := by
  induction l generalizing s with
  | nil => simp
  | cons n l ih =>
    have hown := clearStep_ownFaults s n (hl n (.head _))
    rw [List.foldl_cons, ih _ fun k hk => hl k (.tail _ hk), hown.faultLevel, clearStep_STAT]
    simp only [List.mem_cons, Bool.decide_or]
    cases s.src .FLT_STAT m <;> cases s.faultLevel m <;> cases decide (m = n) <;> cases decide (m ∈ l) <;> rfl

/-- The sources that a write of a status word names. -/
def namedSources (g : Nat) (v : Word) : List Nat := ((List.range 32).filter fun j => bit j v).map fun j => 32 * g + j

theorem mem_namedSources {g : Nat} {v : Word} : m ∈ namedSources g v ↔ m / 32 = g ∧ bit (m % 32) v = true := by
  simp only [namedSources, List.mem_map, List.mem_filter, List.mem_range]
  constructor
  · rintro ⟨j, ⟨hj, hv⟩, rfl⟩
    exact ⟨by omega, by rwa [show (32 * g + j) % 32 = j by omega]⟩
  · rintro ⟨rfl, hv⟩
    exact ⟨m % 32, ⟨by omega, hv⟩, by omega⟩

theorem namedSources_lt {g : Nat} (hg : g < 8) (v : Word) : ∀ n ∈ namedSources g v, n < 256 := fun n hn => by
  have := ((mem_namedSources n).1 hn).1
  omega

/-- The state behind the clears of a write, before the exit is looked at. -/
def State.cleared (s : State) (g : Nat) (v : Word) : State := (namedSources g v).foldl State.clearStep s

theorem doFltStatClear_eq (g : Nat) (v : Word) : doFltStatClear g v s = (s.cleared g v).exitCheck := rfl

theorem cleared_keeps (g : Nat) (v : Word) : Keeps 0x8004 s (s.cleared g v) :=
  .foldl .refl fun u n hu => .ite ((clearSrc_keeps u n).step hu rfl) hu

theorem cleared_STAT {g : Nat} (hg : g < 8) (v : Word) : (s.cleared g v).src .FLT_STAT m =
    (s.src .FLT_STAT m && !(decide (m / 32 = g) && bit (m % 32) v && !s.faultLevel m)) := by
  rw [State.cleared, clearSteps_STAT s m _ (namedSources_lt hg v)]
  simp only [mem_namedSources, Bool.decide_and, Bool.decide_eq_true]

theorem cleared_HELD (g : Nat) (v : Word) (h : s.src .FLT_HELD m = false) : (s.cleared g v).src .FLT_HELD m = false :=
  foldl_keeps (fun u : State => u.src .FLT_HELD m = false) h fun u n hu => clearStep_HELD u n m hu

theorem cleared_safe (g : Nat) (v : Word) : (s.cleared g v).flt.safe = s.flt.safe ∧ (s.cleared g v).flt.entering = s.flt.entering :=
  foldl_keeps (fun u : State => u.flt.safe = s.flt.safe ∧ u.flt.entering = s.flt.entering) ⟨rfl, rfl⟩ fun u n hu =>
    ⟨(clearStep_safe u n).1.trans hu.1, (clearStep_safe u n).2.trans hu.2⟩

theorem exitCheck_of_not_safe {s : State} (h : s.flt.safe = false) : s.exitCheck = s := by
  rw [State.exitCheck, h]
  rfl

end
end Sys2Proof.Machine
end

section
/-! PROOF. New faults, clears, forces, enables and classes (O51). -/
namespace Sys2Proof.Machine

/-! ### A new fault (R389 to R392) -/

/-- The status of a new fault is set and offered to capture. -/
def State.faultNoted (s : State) (n : Nat) : State :=
  (s.setSrc .FLT_STAT n true).offer 0x10 255 0 s.tag [wd n, wd (s.classOfSrc n)]

section
variable (s : State) (n m : Nat)

theorem faultNoted_otherRegs : otherRegs (Reg.FLT_STAT.at [n / 32] :: suppRegs) s (s.faultNoted n) :=
  (otherRegs.setReg (.head _)).trans (.offer fun k hk => .tail _ (mem_suppRegs k hk))

theorem faultNoted_keeps : Keeps 0x4004 s (s.faultNoted n) := (offer_keeps ..).step ((setSrc_keeps ..).step .refl rfl) rfl

/-- What the record of a new fault leaves of the collector's registers. -/
theorem faultNoted_reg {r : Reg} {ix : List Nat} (h : r.at ix < 0x200000) :
    (s.faultNoted n).reg r ix = (s.setSrc .FLT_STAT n true).reg r ix := by
  have hoffer : otherRegs suppRegs (s.setSrc .FLT_STAT n true) (s.faultNoted n) := .offer mem_suppRegs
  refine reg_of_otherRegs hoffer ((offer_keeps ..).stage rfl) fun hm => ?_
  have hhigh : ∀ a ∈ suppRegs, 0x200000 ≤ a := by decide
  have := hhigh _ hm
  omega

theorem grouped.low {r : Reg} (h : grouped r) (hb : r.row.base ≤ 0x80200) (hn : n < 256) : r.at [n / 32] < 0x200000 := by
  rw [h.at]
  omega

theorem faultNoted_src {r : Reg} (h : grouped r) (hb : r.row.base ≤ 0x80200) (hm : m < 256) :
    (s.faultNoted n).src r m = (s.setSrc .FLT_STAT n true).src r m := src_congr m (faultNoted_reg s n (h.low m hb hm))

theorem faultNoted_STAT (hn : n < 256) : (s.faultNoted n).src .FLT_STAT n = true := by
  rw [faultNoted_src s n n grouped_STAT (by decide) hn, src_setSrc_same s n true grouped_STAT]

theorem faultNoted_EN (hn : n < 256) : (s.faultNoted n).src .FLT_EN n = s.src .FLT_EN n := by
  rw [faultNoted_src s n n grouped_EN (by decide) hn, src_setSrc_other s n true grouped_STAT grouped_EN (by decide)]

/-- The notice of a new fault by its class: a log entry, or an event. -/
def State.faultTold (s : State) (n : Nat) (forced : Bool) (info : Word) : State :=
  let pl := (s.faultNoted n).faultPl n forced false (immediate n) info 0
  if s.classOfSrc n = 0 then (s.faultNoted n).logPut 1 0 n pl else (s.faultNoted n).post 1 0x10 n pl

theorem faultTold_keeps (forced : Bool) (info : Word) : Keeps 0x102000 (s.faultNoted n) (s.faultTold n forced info) :=
  .ite ((logPut_keeps ..).step .refl rfl) ((post_keeps ..).step .refl rfl)

/-- A new fault of a source that is not immediate. -/
theorem newFault_of_not_immediate (hn : n < 256) (hi : immediate n = false) (forced : Bool) (info : Word) :
    s.newFault n forced info = if s.src .FLT_EN n = false then s.faultNoted n
      else if s.classOfSrc n = 2 then (s.faultTold n forced info).escStart n else s.faultTold n forced info := by
  have hen := faultNoted_EN s n hn
  unfold State.newFault
  extract_lets c s1 pl s2
  have h1 : s1 = s.faultNoted n := rfl
  have hpl : pl = (s.faultNoted n).faultPl n forced false (immediate n) info 0 := rfl
  have h2 : s2 = (s.faultNoted n).post 1 0x10 n pl := rfl
  rw [h1, hen, hi, h2, hpl]
  cases s.src .FLT_EN n
  · rfl
  · by_cases h0 : s.classOfSrc n = 0
    · simp [State.faultTold, c, h0]
    · simp [State.faultTold, c, h0]

/-- The parts of a state behind a new fault that is not immediate: lanes, Yoke, safe state, timers and registers. -/
structure FaultSet (n : Nat) (s u : State) : Prop where
  stat : u.src .FLT_STAT n = true
  lanes : u.lanes = s.lanes
  yk : u.yk = s.yk
  regs : otherRegs (Reg.FLT_STAT.at [n / 32] :: suppRegs) s u
  flt : u.flt = s.flt

theorem faultNoted_set (hn : n < 256) : FaultSet n s (s.faultNoted n) :=
  have h := faultNoted_keeps s n
  ⟨faultNoted_STAT s n hn, (offer_lanes ..).trans rfl, h.frame .yk rfl, faultNoted_otherRegs s n, h.frame .flt rfl⟩

theorem faultTold_set (hn : n < 256) (forced : Bool) (info : Word) : FaultSet n s (s.faultTold n forced info) := by
  have h := faultNoted_set s n hn
  have k := faultTold_keeps s n forced info
  exact ⟨(src_congr n (k.reg rfl rfl _ _)).trans h.stat, (k.frame .lanes rfl).trans h.lanes, (k.frame .yk rfl).trans h.yk,
    h.regs.trans (.of_regs (k.frame .regs rfl)), (k.frame .flt rfl).trans h.flt⟩

theorem not_mem_statRegs : Reg.FLT_CTRL.at [] ∉ Reg.FLT_STAT.at [n / 32] :: suppRegs := by
  have hs : Reg.FLT_CTRL.at [] ∉ suppRegs := by decide
  simp only [List.mem_cons, hs, or_false, grouped_STAT.at]
  show 0x80000 ≠ 0x80100 + _
  omega

/-- The collector's cycle of a cause whose source has neither a force nor an event waiting (R389). -/
theorem doFaultSourceSet_level {s : State} {n : Nat} (info : Word) (hpor : s.sys.por = false) (hmain : s.sys.mainRst = false)
    (hthm : s.sys.thmRst = false) (hlevel : s.faultLevel n = true) (hreal : realSource n = true) (hext : extLevel n = false)
    (hfind : s.flt.evc.find? (fun x => x.1 == n) = none) :
    doFaultSourceSet n false info s = if s.src .FLT_STAT n then s else s.newFault n false info := by
  unfold doFaultSourceSet
  extract_lets _ s0 ev forced _ s1 holds
  have h0 : s0 = s := if_neg (by simp [hext])
  have hev : ev = none := by rw [← hfind, ← h0]
  have h1 : s1 = s := by simp only [s1, hev, h0]
  have hforced : forced = false := by simp only [forced, hev, Option.any_none]
  have hholds : holds = true := by simp only [holds, hreal, h1, hlevel, Bool.true_or, Bool.or_true, Bool.and_true]
  rw [hholds, hforced, h1, hpor, hmain, hthm]
  cases s.src .FLT_STAT n <;> rfl

end

/-! ### Enables and classes (R390, R391, R394) -/

section
variable (s : State) (n g : Nat)

theorem escUpdate_regs (o : State) : (State.escUpdate o s g).regs = s.regs := (escUpdate_keeps o s g).frame .regs rfl

/-- A write of a register of group g leaves the registers beside it. -/
theorem doFltConfig_facts {r : Reg} {w : Nat} {v x : Word} (h : doFltConfig g w v s = State.escUpdate s (s.setReg r [g] x) g) :
    (doFltConfig g w v s).reg r [g] = x ∧ otherRegs [r.at [g]] s (doFltConfig g w v s)
      ∧ changesOnly [.regs, .flt] s (doFltConfig g w v s) := by
  refine ⟨?_, ?_, (doFltConfig_keeps g w v s).changesOnly rfl⟩
  · rw [h, reg_congr (escUpdate_regs ..) ((escUpdate_keeps ..).stage rfl), reg_setReg_same]
  · rw [h]
    exact (otherRegs.setReg (.head _)).trans (.of_regs (escUpdate_regs ..))

end

section
variable {s : State} (ho : s.isOpen = true)
include ho

theorem exec_fltForce (g : Fin 8) (v : Word) : exec (.fltForce g v) s = .next (doFltForce g v s) :=
  congrArg Host.Outcome.next (hostWr_of_not_shut (not_shut ho (by decide) (by decide)))

theorem exec_fltStatClear (g : Fin 8) (v : Word) : exec (.fltStatClear g v) s = .next ((s.cleared g v).exitCheck) :=
  congrArg Host.Outcome.next (hostWr_of_not_shut (not_shut ho (by decide) (by decide)))

theorem exec_fltConfigWrite (g : Fin 8) (w : Fin 3) (v : Word) : exec (.fltConfigWrite g w v) s = .next (doFltConfig g w v s) :=
  congrArg Host.Outcome.next (hostWr_of_not_shut (not_shut ho (by decide) (by decide)))

end

/-- Settles O51. -/
theorem faultStatus : Obligations.FaultStatus := by
  intro s n g w v info hpor hmain hthm
  refine ⟨fun hlevel hreal hext hfind hstat himm => ?_, fun hlevel hreal hext hfind hstat => ?_, fun ho => ?_, fun ho hsafe => ?_,
    fun ho hw => ?_, fun ho hw => ?_, fun ho hw => ?_⟩
  · have hdo := doFaultSourceSet_level info hpor hmain hthm hlevel hreal hext hfind
    rw [hstat, if_neg Bool.false_ne_true, newFault_of_not_immediate s n n.isLt himm] at hdo
    refine .of_eq rfl hdo ?_
    have hset (u : State) (h : FaultSet n s u) : u.flt.safe = s.flt.safe := by rw [h.flt]
    have hnoted := faultNoted_set s n n.isLt
    have htold := faultTold_set s n n.isLt false info
    cases hen : s.src .FLT_EN n
    · exact ⟨hnoted.stat, hset _ hnoted, hnoted.lanes, hnoted.yk, hnoted.regs, by rw [if_pos rfl, hnoted.flt]; simp⟩
    · by_cases hc : s.classOfSrc n = 2
      · rw [if_neg (by simp), if_pos hc]
        refine ⟨htold.stat, (hset _ htold :), htold.lanes, htold.yk, htold.regs, ?_⟩
        rw [if_pos ⟨rfl, hc⟩, State.escStart, State.setFlt, htold.flt, f_of_otherRegs htold.regs
          (((faultTold_keeps s n false info).stage rfl).trans ((faultNoted_keeps s n).stage rfl)) (not_mem_statRegs n)]
      · rw [if_neg (by simp), if_neg hc]
        exact ⟨htold.stat, hset _ htold, htold.lanes, htold.yk, htold.regs, by rw [htold.flt]; simp [hc]⟩
  · have hdo := doFaultSourceSet_level info hpor hmain hthm hlevel hreal hext hfind
    rw [hstat, if_pos rfl] at hdo
    exact .of_eq rfl hdo rfl
  · exact ⟨_, exec_fltForce ho g v, rfl, (doFltForce_keeps g v s).changesOnly rfl⟩
  · have hexit := exitCheck_of_not_safe ((cleared_safe s g v).1.trans hsafe)
    refine .of_eq (exec_fltStatClear ho g v) hexit ⟨(cleared_keeps s g v).changesOnly rfl, fun j hj => ?_⟩
    rw [cleared_STAT s _ g.isLt, show (32 * g.val + j) / 32 = g.val by omega, show (32 * g.val + j) % 32 = j by omega]
    simp
  · exact ⟨_, exec_fltConfigWrite ho g w v, doFltConfig_facts s g (by rw [hw]; rfl)⟩
  · exact ⟨_, exec_fltConfigWrite ho g w v, doFltConfig_facts s g (by rw [hw]; rfl)⟩
  · exact ⟨_, exec_fltConfigWrite ho g w v, doFltConfig_facts s g (by rw [hw]; rfl)⟩

end Sys2Proof.Machine
end

section
/-! PROOF. The entry into the safe state and its end, isolation and parity (O52). -/
namespace Sys2Proof.Machine

/-! ### The safe command of the clusters, and the isolation of lanes -/

/-- Every cluster keeps its safe command. -/
structure SafeKept (s u : State) : Prop where
  safe : ∀ c, (u.cl c).safe = (s.cl c).safe

section
variable {s u v : State} {m : Nat}

theorem SafeKept.refl : SafeKept s s := ⟨fun _ => rfl⟩

theorem SafeKept.trans (h : SafeKept s u) (k : SafeKept u v) : SafeKept s v := ⟨fun c => (k.safe c).trans (h.safe c)⟩

theorem SafeKept.of_keeps (h : Keeps m s u) (h5 : m.testBit 5 = false) : SafeKept s u := ⟨fun c => by rw [h.cl h5]⟩

theorem SafeKept.setCl {c : Nat} {k : Cluster} (h : k.safe = (s.cl c).safe) : SafeKept s (s.setCl c k) := by
  refine ⟨fun d => ?_⟩
  by_cases hd : c = d
  · rw [← hd, cl_setCl_same, h]
  · rw [cl_setCl_ne s k hd]

theorem SafeKept.foldl {α : Type} {f : State → α → State} (h : ∀ x a, SafeKept x (f x a)) (l : List α) (s : State) :
    SafeKept s (l.foldl f s) :=
  foldl_rel (R := SafeKept) (fun _ => .refl) .trans (fun x a _ => h x a) s

theorem clRedecide_safe (s : State) (e pat : Nat) (old : LaneRes) : SafeKept s (s.clRedecide e pat old) := .setCl rfl

theorem abortLane_safe (s : State) (e : Nat) : SafeKept s (s.abortLane e) := by
  unfold State.abortLane
  extract_lets l
  split
  · split
    · exact .refl
    · extract_lets s1
      have h1 : SafeKept s s1 := .trans (.of_keeps (setLane_keeps s e _) rfl) (clRedecide_safe ..)
      split
      · exact h1.trans (.of_keeps (reResult_keeps ..) rfl)
      · exact h1
  · exact .refl

theorem setLane_isol {s : State} {e : Nat} {l : Lane} (h : l.isol = (s.lane e).isol) (x : Nat) :
    ((s.setLane e l).lane x).isol = (s.lane x).isol := by
  by_cases he : e = x
  · subst he
    rw [lane_setLane_same, h]
  · rw [lane_setLane_ne s l he]

/-- An abort leaves the isolation of every lane. -/
theorem abortLane_isol (s : State) (e x : Nat) : ((s.abortLane e).lane x).isol = (s.lane x).isol := by
  unfold State.abortLane
  extract_lets l
  split
  · next tr _ =>
    split
    · rfl
    · extract_lets s1
      have h1 : (s1.lane x).isol = (s.lane x).isol := by
        rw [(clRedecide_keeps ..).lane rfl]
        refine setLane_isol ?_ x
        rfl
      split
      · rw [(reResult_keeps ..).lane rfl, h1]
      · exact h1
  · rfl

/-- The safe command given to a list of clusters. -/
def State.command (on : Bool) (s : State) (c : Nat) : State := s.setCl c { s.cl c with safe := on }

theorem command_safe (on : Bool) (s : State) (c d : Nat) : ((s.command on c).cl d).safe = if d = c then on else (s.cl d).safe := by
  by_cases h : c = d
  · rw [if_pos h.symm, State.command, ← h, cl_setCl_same]
  · rw [if_neg (Ne.symm h), State.command, cl_setCl_ne s _ h]

theorem foldl_command (on : Bool) (c : Nat) (l : List Nat) (s : State) :
    ((l.foldl (State.command on) s).cl c).safe = if c ∈ l then on else (s.cl c).safe := by
  induction l generalizing s with
  | nil => rfl
  | cons d l ih =>
    rw [List.foldl_cons, ih, command_safe]
    by_cases hc : c ∈ l <;> by_cases hd : c = d <;> simp [hc, hd]

theorem safeClusters_eq (s : State) (on : Bool) : s.safeClusters on =
    if on then (s.lanes.map Prod.fst).foldl State.abortLane ((List.range 144).foldl (State.command on) s)
    else (List.range 144).foldl (State.command on) s := rfl

theorem safeClusters_cl (s : State) (on : Bool) {c : Nat} (hc : c < 144) : ((s.safeClusters on).cl c).safe = on := by
  have h1 := foldl_command on c (List.range 144) s
  rw [if_pos (List.mem_range.2 hc)] at h1
  rw [safeClusters_eq]
  split
  · rw [(SafeKept.foldl abortLane_safe (s.lanes.map Prod.fst) _).safe, h1]
  · exact h1

end

/-! ### The end of a calibration run in the safe state (R476) -/

section
variable (s : State)

theorem doSetptWrite_turned (e : Nat) (k : Bool) (v : Word) : Turned s (doSetptWrite e k v s) := by
  unfold doSetptWrite
  extract_lets l d s1
  have h1 : Turned s s1 := setReg_turned s _ (by decide) v
  exact .ite (h1.trans (setLane_turned ..)) (h1.trans (setLane_turned ..))

theorem calUnhold_turned : Turned s s.calUnhold := by
  unfold State.calUnhold
  extract_lets k s1 s2
  have h1 : Turned s s1 := .foldl (fun u p => refSelect_turned u ..) _ s
  have h2 : Turned s s2 := h1.trans (.foldl (fun u p => setF_turned u _ (by decide) _) _ s1)
  exact h2.trans (.of_keeps (setCal_keeps ..) rfl rfl rfl)

theorem refSelect_safe (c a : Nat) (v : Word) : SafeKept s (State.refSelect c v s a) := by
  by_cases h : s.refChanges c v a
  · rw [refSelect_changed h]
    have htake : SafeKept s (s.takeRef c v a) := by
      refine .trans (.of_keeps (setReg_keeps s _ _ _) rfl) (.setCl ?_)
      rfl
    exact htake.trans (.of_keeps (calHoldAdc_keeps ..) rfl)
  · rw [refSelect_kept h]
    exact .refl

theorem calUnhold_safe : SafeKept s s.calUnhold := by
  unfold State.calUnhold
  extract_lets k s1 s2
  have h1 : SafeKept s s1 := .foldl (fun u p => refSelect_safe u ..) _ s
  have h2 : SafeKept s s2 := h1.trans (.foldl (fun u p => .of_keeps (setF_keeps u ..) rfl) _ s1)
  exact h2.trans (.of_keeps (setCal_keeps ..) rfl)

/-- In the safe state the release of the probe routes waits, and of the Yoke only the store changes. -/
theorem calStop_in_safe {result cause : Nat} (h : s.flt.safe = true) :
    Turned s (s.calStop result cause) ∧ SafeKept s (s.calStop result cause) := by
  unfold State.calStop
  split
  · exact ⟨.refl, .refl⟩
  · extract_lets s1 k s2 _ s3
    have hflt : s3.flt = s.flt := ((spBack_keeps ..).frame .flt rfl).trans ((calUnhold_keeps s).frame .flt rfl)
    have h2 : Turned s s2 := ((calUnhold_turned s).trans (.of_keeps (setCal_keeps s1 _) rfl rfl rfl)).trans
      (.foldl (fun u p => doSetptWrite_turned u ..) _ _)
    have h3 : Turned s2 s3 := ⟨⟨_, _, _, _, _, rfl⟩, fun _ _ _ => rfl, id⟩
    have k2 : SafeKept s s2 := ((calUnhold_safe s).trans (.of_keeps (setCal_keeps s1 _) rfl)).trans (.of_keeps (spBack_keeps ..) rfl)
    rw [if_pos (by rw [hflt, h])]
    exact ⟨h2.trans h3, ⟨k2.safe⟩⟩

/-! ### Registers of the Yoke beside the pair and the switch -/

theorem loseSync_otherRegs (cause : Nat) : otherRegs [Reg.PAIR_EVT.at []] s (s.loseSync cause) := by
  unfold State.loseSync
  split
  · unfold State.pairEvent
    split
    · exact .of_regs rfl
    · extract_lets _ s1
      refine .trans (u := s1) ?_ (.of_regs ((post_keeps ..).frame .regs rfl))
      unfold s1
      split
      · exact .trans (.of_regs rfl) (.setReg (List.mem_singleton.2 rfl))
      · exact .of_regs rfl
  · exact .refl

theorem spCount_turned (p k : Nat) : Turned s (s.spCount p k) := bump_turned s _ (by decide) 1

theorem flushOut_turned (o : Nat) : Turned s (s.flushOut o) := by
  unfold State.flushOut State.flush
  extract_lets l s1 s2
  have h1 : Turned s s1 := .foldl (fun u c => (spCount_turned u ..).trans (.of_keeps (modFrm_keeps ..) rfl rfl rfl)) _ s
  have h2 : Turned s s2 := (h1.trans (.of_keeps (dropCpy_keeps ..) rfl rfl rfl)).trans (.of_keeps (reap_keeps ..) rfl rfl rfl)
  exact .ite (.ite h2 (h2.trans (raise_turned s2 _ (by decide)))) .refl

theorem sgfSafe_turned : Turned s s.sgfSafe := by
  unfold State.sgfSafe
  extract_lets s1 s2 _ s3
  have h1 : Turned s s1 := .foldl (fun u o => .of_keeps (endTx_keeps u _ _) rfl rfl rfl) _ s
  have h2 : Turned s s2 := h1.trans (.foldl (fun u p => .ite .refl (spCount_turned ..)) _ s1)
  have h3 : Turned s s3 := h2.trans (.of_keeps (setSgf_keeps ..) rfl rfl rfl)
  exact h3.trans (.foldl flushOut_turned _ s3)

theorem raise_f_ne_CAL_STOPPED : (s.raise YK_EVT.CAL_STOPPED []).f YK_CTRL.CAL_RUN [] = s.f YK_CTRL.CAL_RUN [] :=
  f_of_reg (raise_reg_ne s (by decide) (by decide))

/-- The calendar is over once the paths took the safe state (R218). -/
theorem safePaths_calendar : s.safePaths.yk.mode = 0 ∧ s.safePaths.f YK_CTRL.CAL_RUN [] = 0 := by
  unfold State.safePaths
  extract_lets s1 l s2 pats _ s3 s4 _ s5 cal s6 _ s7 s8
  have h8 : s8.f YK_CTRL.CAL_RUN [] = 0 := f_setF_same s7 _ _ _ (by decide)
  have hm : s8.yk.mode = 0 := by
    clear_value s6
    rfl
  split
  · exact ⟨by rw [(raise_keeps ..).frame .yk rfl, hm], (raise_f_ne_CAL_STOPPED s8).trans h8⟩
  · exact ⟨hm, h8⟩

end

/-! ### The entry (R398, R399) -/

section
variable (s : State) (n : Nat)

/-- The marks of an entry: the held source, the status word and its count. -/
def State.safeMarked (s : State) (n : Nat) : State :=
  let s1 := (s.setSrc .FLT_HELD n true).setFlt { s.flt with exitPend := false }
  let s2 := (s1.setReg .FLT_SAFE [] (wd n)).bump .FLT_SAFE_CNT [] 1
  s2.setFlt { s2.flt with safe := true, entering := true }

/-- The Placket released and the clusters commanded. -/
def State.commanded (s : State) : State := (doReleaseRequest s).safeClusters true

/-- The paths and the calendar over, with their events. -/
def State.pathsSafe (s : State) : State := State.schedEvent s (s.setPair { s.pair with healthRun := 0 }).safePaths

/-- The acts of an entry behind its marks. -/
def State.safeActs (s : State) (n : Nat) : State := (((s.commanded.pathsSafe.calAbort 2).loseSync 6).sgfSafe).post 1 0x11 n []

theorem enterSafe_first (h : s.flt.safe = false) : s.enterSafe n = (s.safeMarked n).safeActs n := if_neg (by rw [h]; nofun)

theorem safeMarked_flt : (s.safeMarked n).flt = { s.flt with safe := true, entering := true, exitPend := false } := rfl

theorem safeMarked_keeps : Keeps 0x8004 s (s.safeMarked n) :=
  (setFlt_keeps ..).step ((bump_keeps ..).step ((setReg_keeps ..).step ((setFlt_keeps ..).step ((setSrc_keeps ..).step .refl rfl) rfl) rfl)
    rfl) rfl

theorem safeMarked_reg_eq (r : Reg) (ix : List Nat) : (s.safeMarked n).reg r ix =
    (((s.setSrc .FLT_HELD n true).setReg .FLT_SAFE [] (wd n)).bump .FLT_SAFE_CNT [] 1).reg r ix := rfl

theorem safeMarked_reg {r : Reg} {ix : List Nat} (h1 : r.at ix ≠ Reg.FLT_SAFE.at []) (h2 : r.at ix ≠ Reg.FLT_SAFE_CNT.at []) :
    (s.safeMarked n).reg r ix = (s.setSrc .FLT_HELD n true).reg r ix :=
  (safeMarked_reg_eq s n r ix).trans ((reg_setReg_ne _ _ h2.symm).trans (reg_setReg_ne _ _ h1.symm))

theorem safeMarked_cause : (s.safeMarked n).reg .FLT_SAFE [] = wd n :=
  (safeMarked_reg_eq s n ..).trans ((reg_setReg_ne _ _ (show Reg.FLT_SAFE_CNT.at [] ≠ Reg.FLT_SAFE.at [] by decide)).trans
    (reg_setReg_same ..))

/-- A release request leaves the coupler neither engaged nor engaging, and ENGAGE 0. -/
theorem doReleaseRequest_facts : (doReleaseRequest s).f PLK_CTRL.ENGAGE [] = 0 ∧ (doReleaseRequest s).plk.st ≠ .engaged
    ∧ (doReleaseRequest s).plk.st ≠ .engaging := by
  have hf : (doReleaseRequest s).f PLK_CTRL.ENGAGE [] = 0 := by
    rw [doReleaseRequest_eq, (plkRelease_keeps _).f rfl rfl, putPlk_f]
    exact f_setF_same s _ _ _ (by decide)
  by_cases h : s.plk.st = .engaging ∨ s.plk.st = .engaged
  · refine ⟨hf, ?_⟩
    rw [doReleaseRequest_under_way h]
    exact ⟨nofun, nofun⟩
  · rw [not_or] at h
    refine ⟨hf, ?_⟩
    have hplk : (doReleaseRequest s).plk.st = s.plk.st := by
      rw [doReleaseRequest_eq, State.plkRelease]
      split
      · next h1 => exact absurd h1 h.1
      · next h1 => exact absurd h1 h.2
      · rfl
    rw [hplk]
    exact ⟨h.2, h.1⟩

theorem doReleaseRequest_otherRegs : otherRegs [Reg.PLK_CTRL.at []] s (doReleaseRequest s) := by
  rw [doReleaseRequest_eq]
  refine .trans (u := s.setF PLK_CTRL.ENGAGE [] 0) (.setF (.head _)) ?_
  refine .of_regs ((plkRelease_keeps _).frame .regs rfl)

theorem pathsSafe_keeps : Keeps 0x302f04 s s.pathsSafe :=
  (schedEvent_keeps ..).step ((safePaths_keeps _).step ((setPair_keeps s _).step .refl rfl) rfl) rfl

theorem pathsSafe_quiet : Quiet s s.pathsSafe :=
  ((Quiet.of_keeps (setPair_keeps s _) rfl rfl).trans (safePaths_quiet _)).then (schedEvent_keeps ..) rfl rfl

theorem pathsSafe_calendar : s.pathsSafe.yk.mode = 0 ∧ s.pathsSafe.f YK_CTRL.CAL_RUN [] = 0 := by
  rw [State.pathsSafe, schedEvent_yk, schedEvent_f]
  exact safePaths_calendar _

/-- What an entry leaves: the marks of its source, the safe command, the calendar over and the Placket released. -/
structure SafeEntered (n : Nat) (s u : State) : Prop where
  flt : u.flt = { s.flt with safe := true, entering := true, exitPend := false }
  held : u.src .FLT_HELD n = true
  cause : u.reg .FLT_SAFE [] = wd n
  kept : ∀ r ix, inCollector (r.at ix) → r.at ix ≠ Reg.FLT_HELD.at [n / 32] → r.at ix ≠ Reg.FLT_SAFE.at [] →
    r.at ix ≠ Reg.FLT_SAFE_CNT.at [] → u.reg r ix = s.reg r ix
  clusters : ∀ c, c < 144 → (u.cl c).safe = true
  mode : u.yk.mode = 0
  calRun : u.f YK_CTRL.CAL_RUN [] = 0
  engage : u.f PLK_CTRL.ENGAGE [] = 0
  plk : u.plk.st ≠ .engaged ∧ u.plk.st ≠ .engaging
  clr : u.clr = s.clr

theorem quietAddr_of_inCollector {a : Nat} (h : inCollector a) : quietAddr a = true := by
  obtain ⟨h1, h2⟩ := h
  simp only [quietAddr, Bool.or_eq_true, decide_eq_true_eq]
  exact .inl (by omega)

/-- What the acts behind the commands leave: the quiet registers, the safe commands, and a calendar that is over. -/
structure ActsBehind (s u : State) : Prop where
  quiet : Quiet s u
  safe : SafeKept s u
  keeps : Keeps 0x387f34 s u
  mode : u.yk.mode = 0
  calRun : u.f YK_CTRL.CAL_RUN [] = 0

theorem loseSync_f (cause : Nat) : (s.loseSync cause).f YK_CTRL.CAL_RUN [] = s.f YK_CTRL.CAL_RUN [] :=
  f_of_otherRegs (loseSync_otherRegs s cause) ((loseSync_keeps ..).stage rfl) (by decide)

theorem Turned.calRun {s u : State} (h : Turned s u) (hs : u.sys.stage = s.sys.stage) :
    u.f YK_CTRL.CAL_RUN [] = s.f YK_CTRL.CAL_RUN [] := f_of_reg (h.reg hs (by decide))

theorem actsBehind (h : s.flt.safe = true) : ActsBehind s ((((s.pathsSafe.calAbort 2).loseSync 6).sgfSafe).post 1 0x11 n []) := by
  have hx := pathsSafe_keeps s
  have hy := calAbort_keeps s.pathsSafe 2
  have hz := loseSync_keeps (s.pathsSafe.calAbort 2) 6
  have hq := sgfSafe_keeps ((s.pathsSafe.calAbort 2).loseSync 6)
  have hu := post_keeps ((s.pathsSafe.calAbort 2).loseSync 6).sgfSafe 1 0x11 n []
  have hsafe : s.pathsSafe.flt.safe = true := by rw [hx.frame .flt rfl, h]
  obtain ⟨hturn, hkept⟩ := calStop_in_safe (result := 2) (cause := 2) s.pathsSafe hsafe
  have hcal := pathsSafe_calendar s
  refine ⟨?_, ?_, ?_, ?_, ?_⟩
  · exact ((((pathsSafe_quiet s).trans (calStop_quiet _ 2 2)).trans (loseSync_quiet _ 6)).trans (sgfSafe_quiet _)).then hu rfl rfl
  · exact ((((SafeKept.of_keeps hx rfl).trans hkept).trans (.of_keeps hz rfl)).trans (.of_keeps hq rfl)).trans (.of_keeps hu rfl)
  · exact hu.step (hq.step (hz.step (hy.step (hx.step .refl rfl) rfl) rfl) rfl) rfl
  · obtain ⟨a, b, c, q, l, hyk⟩ := hturn.yk
    have hmode : (s.pathsSafe.calAbort 2).yk.mode = s.pathsSafe.yk.mode := by rw [State.calAbort, hyk]
    rw [hu.frame .yk rfl, hq.frame .yk rfl, hz.frame .yk rfl, hmode, hcal.1]
  · rw [hu.f rfl rfl, (sgfSafe_turned _).calRun (hq.stage rfl), loseSync_f, State.calAbort, hturn.calRun (hy.stage rfl), hcal.2]

theorem enterSafe_entered (h : s.flt.safe = false) (hn : n < 256) : SafeEntered n s (s.enterSafe n) := by
  rw [enterSafe_first s n h]
  have hrel := doReleaseRequest_keeps (s.safeMarked n)
  have hcls := safeClusters_keeps (doReleaseRequest (s.safeMarked n)) true
  have hflt : (s.safeMarked n).commanded.flt = (s.safeMarked n).flt := (hcls.frame .flt rfl).trans (hrel.frame .flt rfl)
  have hacts := actsBehind (s.safeMarked n).commanded n (by rw [hflt, safeMarked_flt])
  have hquiet : Quiet (doReleaseRequest (s.safeMarked n)) ((s.safeMarked n).safeActs n) := (safeClusters_quiet _ true).trans hacts.quiet
  have hkept : ∀ r ix, inCollector (r.at ix) → ((s.safeMarked n).safeActs n).reg r ix = (s.safeMarked n).reg r ix := fun r ix hr => by
    rw [hquiet.reg (quietAddr_of_inCollector hr)]
    refine reg_of_otherRegs (doReleaseRequest_otherRegs _) (hrel.stage rfl) fun hm => ?_
    have hplk : Reg.PLK_CTRL.at [] = 0xc0000 := rfl
    rw [List.mem_singleton, hplk] at hm
    rw [hm] at hr
    exact absurd hr.2 (by decide)
  obtain ⟨hengage, hplk⟩ := doReleaseRequest_facts (s.safeMarked n)
  refine ⟨?_, ?_, ?_, fun r ix hr h1 h2 h3 => ?_, fun c hc => ?_, hacts.mode, hacts.calRun, ?_, ?_, ?_⟩
  · exact (hacts.keeps.frame .flt rfl).trans (hflt.trans (safeMarked_flt s n))
  · have hin := inCollector_of_grouped n grouped_HELD (by decide) hn
    have hne : ∀ a, a < 0x80100 → Reg.FLT_HELD.at [n / 32] ≠ a := fun a ha => by
      have hb := grouped_HELD.2
      rw [grouped_HELD.at]
      omega
    rw [src_congr n (hkept _ _ hin), src_congr n (safeMarked_reg s n (hne _ (by decide)) (hne _ (by decide))),
      src_setSrc_same s n true grouped_HELD]
  · rw [hkept _ _ ⟨by decide, by decide⟩, safeMarked_cause]
  · rw [hkept r ix hr, safeMarked_reg s n h2 h3]
    exact reg_setReg_ne s _ h1.symm
  · exact (hacts.safe.safe c).trans (safeClusters_cl _ true hc)
  · rw [hquiet.f (by decide), hengage]
  · rw [show ((s.safeMarked n).safeActs n).plk = (doReleaseRequest (s.safeMarked n)).plk from
      (hacts.keeps.frame .plk rfl).trans (hcls.frame .plk rfl)]
    exact hplk
  · exact (hacts.keeps.frame .clr rfl).trans ((hcls.frame .clr rfl).trans ((hrel.frame .clr rfl).trans
      ((safeMarked_keeps s n).frame .clr rfl)))

end

/-! ### Isolation (R396) -/

section
variable (s : State) (n : Nat)

theorem isolate_isol (e x : Nat) : ((s.isolate e).lane x).isol = (decide (x = e) || (s.lane x).isol) := by
  rw [State.isolate, abortLane_isol]
  by_cases h : e = x
  · rw [h, lane_setLane_same]
    simp
  · rw [lane_setLane_ne s _ h]
    simp [Ne.symm h]

theorem foldl_isolate {x : Nat} : ∀ (l : List Nat) (s : State), (x ∈ l ∨ (s.lane x).isol = true) →
    ((l.foldl State.isolate s).lane x).isol = true := by
  intro l
  induction l with
  | nil => exact fun s h => h.resolve_left List.not_mem_nil
  | cons e l ih =>
    intro s h
    refine ih _ ?_
    rw [isolate_isol, Bool.or_eq_true, decide_eq_true_eq]
    rcases h with h | h
    · rcases List.mem_cons.1 h with h | h
      · exact .inr (.inl h)
      · exact .inl h
    · exact .inr (.inr h)

theorem isolate_turned (e : Nat) : Turned s (s.isolate e) := (setLane_turned ..).trans (abortLane_turned ..)

theorem OwnFaults.isolates {s u : State} (h : OwnFaults s u) (e : Nat) : u.isolates n e = s.isolates n e := by
  have hlast : u.prfLast e = s.prfLast e := by
    have hreg : u.reg .PRF_LAST [e / 256, e % 256] = s.reg .PRF_LAST [e / 256, e % 256] := h.reg (not_inCollector (by decide) _)
    simp only [State.prfLast, h.lane, hreg]
  simp only [State.isolates, State.stickyEn, h.lane, h.f (x := SLV_FLT_EN.EN) (by decide), hlast]

/-- The timer of an expired source is over, and it has acted. -/
def State.expired (s : State) (n : Nat) : State := (s.escStop n).setSrc .FLT_ACTED n true

theorem expired_ownFaults (hn : n < 256) : OwnFaults s (s.expired n) :=
  OwnFaults.trans (u := s.escStop n) (.setFlt rfl) (setSrc_ownFaults _ n grouped_ACTED (by decide) hn true)

theorem expired_ACTED : (s.expired n).src .FLT_ACTED n = true := src_setSrc_same _ n true grouped_ACTED

/-- The lanes that the expiry of source n isolates. -/
def State.toIsolate (s : State) (n : Nat) : List Nat := ((s.expired n).lanes.map Prod.fst).filter ((s.expired n).isolates n)

/-- An expiry in its time isolates lanes, or enters the safe state. -/
theorem doEscalationExpiry_due {s : State} {n us ms : Nat} (hfind : s.flt.esc.find? (fun x => x.1 == n) = some (n, ms))
    (hms : ms * 1000 ≤ us + 10) (info : Word) : doEscalationExpiry n us info s =
      if 32 ≤ n ∧ n < 184 then ((s.toIsolate n).foldl State.isolate (s.expired n)).post 1 0x10 n
        ((s.expired n).faultPl n false true false info (s.toIsolate n).length)
      else ((s.expired n).post 1 0x10 n ((s.expired n).faultPl n false true true info 0)).enterSafe n := by
  rw [doEscalationExpiry, hfind]
  exact if_neg (by show ¬ us + 10 < ms * 1000; omega)

end

/-! ### The exit (R401, R402) -/

section
variable (s : State)

/-- A source holds the safe state with its status set. -/
def State.heldAny (s : State) : Bool := (List.range 8).any fun g => decide (s.reg .FLT_HELD [g] &&& s.reg .FLT_STAT [g] ≠ 0)

theorem word_ne_zero_iff (w : Word) : w ≠ 0 ↔ ∃ i < 32, w.getLsbD i = true := by
  constructor
  · intro h
    by_contra hc
    push Not at hc
    refine h (BitVec.eq_of_getLsbD_eq fun i hi => ?_)
    rw [Bool.eq_false_iff.2 (hc i hi)]
    simp
  · rintro ⟨i, -, hi⟩ rfl
    simp at hi

theorem heldAny_iff : s.heldAny = true ↔ ∃ m < 256, s.src .FLT_HELD m = true ∧ s.src .FLT_STAT m = true := by
  simp only [State.heldAny, List.any_eq_true, List.mem_range, decide_eq_true_eq, word_ne_zero_iff, BitVec.getLsbD_and, Bool.and_eq_true]
  constructor
  · rintro ⟨g, hg, i, hi, hheld, hstat⟩
    refine ⟨32 * g + i, by omega, ?_⟩
    have hdiv : (32 * g + i) / 32 = g := by omega
    have hmod : (32 * g + i) % 32 = i := by omega
    simp only [State.src, hdiv, hmod, bit_eq_getLsbD]
    exact ⟨hheld, hstat⟩
  · rintro ⟨m, hm, hheld, hstat⟩
    exact ⟨m / 32, by omega, m % 32, by omega, hheld, hstat⟩

theorem exitCheck_eq : s.exitCheck = if (!s.flt.safe || s.heldAny) = true then s
    else if s.flt.entering then s.setFlt { s.flt with exitPend := true } else s.exitSafe := rfl

/-- The exit ends the safe state and the safe command. -/
theorem exitSafe_facts : s.exitSafe.flt.safe = false ∧ ∀ c, c < 144 → (s.exitSafe.cl c).safe = false := by
  unfold State.exitSafe
  extract_lets _ s1 s2
  have hflt : s1.flt.safe = false := congrArg Flt.safe ((safeClusters_keeps ..).frame .flt rfl)
  have h2 : Keeps 0x302f04 s1 s2 :=
    (schedEvent_keeps ..).step ((sweepLost_keeps _).step ((stageWaiting_keeps s1).step .refl rfl) rfl) rfl
  have h3 : Keeps 0x302f04 s1 ((if s2.cal.busy then s2 else s2.calRelease).post 1 0x12 0 []) :=
    (post_keeps ..).step (.ite h2 ((calRelease_keeps s2).step h2 rfl)) rfl
  refine ⟨by rw [h3.frame .flt rfl, hflt], fun c hc => ?_⟩
  rw [h3.cl rfl]
  exact safeClusters_cl _ false hc

/-- A write that clears every held status still set leaves none. -/
theorem cleared_heldAny {g : Nat} (hg : g < 8) {v : Word} (h : ∀ m, m < 256 → s.src .FLT_HELD m = true → s.src .FLT_STAT m = true →
    m / 32 = g ∧ bit (m % 32) v = true ∧ s.faultLevel m = false) : (s.cleared g v).heldAny = false := by
  rw [Bool.eq_false_iff]
  intro hc
  obtain ⟨m, hm, hheld, hstat⟩ := (heldAny_iff _).1 hc
  have hheld' : s.src .FLT_HELD m = true := by
    by_contra hn
    rw [cleared_HELD s m g v (Bool.eq_false_iff.2 hn)] at hheld
    exact Bool.false_ne_true hheld
  rw [cleared_STAT s m hg v, Bool.and_eq_true] at hstat
  obtain ⟨hdiv, hbit, hlevel⟩ := h m hm hheld' hstat.1
  simp [hdiv, hbit, hlevel] at hstat

/-- A held status that a write does not name keeps its hold. -/
theorem cleared_HELD_other {m g : Nat} {v : Word} (h : m ∉ namedSources g v) : (s.cleared g v).src .FLT_HELD m = s.src .FLT_HELD m := by
  refine foldl_rel (R := fun x y : State => y.src .FLT_HELD m = x.src .FLT_HELD m) (fun _ => rfl) (fun h k => k.trans h)
    (fun u n hn => ?_) s
  have hne : m ≠ n := fun e => h (e ▸ hn)
  unfold State.clearStep
  split
  · rw [clearSrc_HELD]
    simp [hne]
  · rfl

theorem cleared_heldAny_other {m g : Nat} (hg : g < 8) {v : Word} (hm : m < 256) (hheld : s.src .FLT_HELD m = true)
    (hstat : s.src .FLT_STAT m = true) (h : m / 32 ≠ g ∨ bit (m % 32) v = false) : (s.cleared g v).heldAny = true := by
  have hn : m ∉ namedSources g v := fun hn => by
    obtain ⟨h1, h2⟩ := (mem_namedSources m).1 hn
    rcases h with h | h
    · exact h h1
    · rw [h] at h2
      exact Bool.false_ne_true h2
  refine (heldAny_iff _).2 ⟨m, hm, by rw [cleared_HELD_other s hn, hheld], ?_⟩
  rw [cleared_STAT s m hg v, hstat]
  rcases h with h | h <;> simp [h]

end

/-! ### Parity (R403) -/

section
variable (s : State)

/-- A second entry marks its source and no other register. -/
theorem enterSafe_again {n : Nat} (h : s.flt.safe = true) :
    s.enterSafe n = (s.setSrc .FLT_HELD n true).setFlt { s.flt with exitPend := false } := if_pos h

/-- An entry leaves the collector's registers beside its own marks. -/
theorem enterSafe_reg {n : Nat} (hn : n < 256) {r : Reg} {ix : List Nat} (hr : inCollector (r.at ix))
    (h1 : r.at ix ≠ Reg.FLT_HELD.at [n / 32]) (h2 : r.at ix ≠ Reg.FLT_SAFE.at []) (h3 : r.at ix ≠ Reg.FLT_SAFE_CNT.at []) :
    (s.enterSafe n).reg r ix = s.reg r ix := by
  cases h : s.flt.safe
  · exact (enterSafe_entered s n h hn).kept r ix hr h1 h2 h3
  · rw [enterSafe_again s h]
    exact reg_setReg_ne s _ h1.symm

/-- An entry leaves every status. -/
theorem enterSafe_STAT {n m : Nat} (hn : n < 256) (hm : m < 256) : (s.enterSafe n).src .FLT_STAT m = s.src .FLT_STAT m := by
  have hb := grouped_STAT.2
  refine src_congr m (enterSafe_reg s hn (inCollector_of_grouped m grouped_STAT (by decide) hm)
    (at_ne_of_grouped grouped_STAT grouped_HELD (by decide) _ _) ?_ ?_)
  all_goals
    rw [grouped_STAT.at]
    refine Nat.ne_of_gt (Nat.lt_of_lt_of_le ?_ (Nat.le_add_right ..))
    decide

/-- A new fault of an enabled immediate source enters the safe state. -/
theorem newFault_immediate {n : Nat} (hn : n < 256) (hi : immediate n = true) (forced : Bool) (info : Word) :
    s.newFault n forced info = if s.src .FLT_EN n = false then s.faultNoted n
      else ((s.faultNoted n).post 1 0x10 n ((s.faultNoted n).faultPl n forced false true info 0)).enterSafe n := by
  have hen := faultNoted_EN s n hn
  unfold State.newFault
  extract_lets c s1 pl s2
  have h1 : s1 = s.faultNoted n := rfl
  have hpl : pl = (s.faultNoted n).faultPl n forced false (immediate n) info 0 := rfl
  rw [h1, hen, hpl, hi]
  cases s.src .FLT_EN n <;> rfl

/-- A new immediate fault sets its status and leaves the collector's registers beside it and the marks of an entry. -/
theorem newFault_immediate_facts {n : Nat} (hn : n < 256) (hi : immediate n = true) (forced : Bool) (info : Word) :
    (s.newFault n forced info).src .FLT_STAT n = true
    ∧ ∀ r ix, inCollector (r.at ix) → r.at ix ∉ [Reg.FLT_STAT.at [n / 32], Reg.FLT_HELD.at [n / 32], Reg.FLT_SAFE.at [],
        Reg.FLT_SAFE_CNT.at []] → (s.newFault n forced info).reg r ix = s.reg r ix := by
  have hnoted : ∀ r ix, inCollector (r.at ix) → r.at ix ≠ Reg.FLT_STAT.at [n / 32] → (s.faultNoted n).reg r ix = s.reg r ix :=
    fun r ix hr h => (faultNoted_reg s n (hr.2.trans (by decide))).trans (reg_setReg_ne s _ h.symm)
  have hpost := post_keeps (s.faultNoted n) 1 0x10 n ((s.faultNoted n).faultPl n forced false true info 0)
  rw [newFault_immediate s hn hi]
  split
  · exact ⟨faultNoted_STAT s n hn, fun r ix hr h => hnoted r ix hr (List.ne_of_not_mem_cons h)⟩
  · refine ⟨?_, fun r ix hr h => ?_⟩
    · rw [enterSafe_STAT _ hn hn, src_congr n (hpost.reg rfl rfl _ _), faultNoted_STAT s n hn]
    · simp only [List.mem_cons, List.not_mem_nil, or_false, not_or] at h
      obtain ⟨h0, h1, h2, h3⟩ := h
      rw [enterSafe_reg _ hn hr h1 h2 h3, hpost.reg rfl rfl, hnoted r ix hr h0]

/-- The state behind the record of a parity error. -/
def State.parityMarked (s : State) (i : Nat) : State :=
  let p := parityReg i
  let s1 := s.setReg p.1 p.2 (wd (Reg.hw p.1 p.2))
  (if i = 0 then s1 else State.escUpdate s s1 ((i - 1) / 3)).setReg .FLT_PAR [] (wd (2 ^ 31 + (p.1.at p.2 - 0x80000)))

theorem doParityError_eq {s : State} (hpor : s.sys.por = false) (hmain : s.sys.mainRst = false) (hthm : s.sys.thmRst = false) (i : Nat) :
    doParityError i false s = if (s.parityMarked i).src .FLT_STAT 0 then s.parityMarked i else (s.parityMarked i).newFault 0 false 0 := by
  rw [doParityError, hpor, hmain, hthm]
  rfl

/-- The words of parity lie in the collector, none at the marks of a fault. -/
theorem parityReg_place (i : Fin 25) : (0x80000 ≤ (parityReg i).1.at (parityReg i).2 ∧ (parityReg i).1.at (parityReg i).2 < 0x81000)
    ∧ (parityReg i).1.at (parityReg i).2 ∉ [Reg.FLT_STAT.at [0 / 32], Reg.FLT_HELD.at [0 / 32], Reg.FLT_SAFE.at [],
        Reg.FLT_SAFE_CNT.at []] ∧ (parityReg i).1.at (parityReg i).2 ≠ Reg.FLT_PAR.at [] := by
  revert i
  decide

theorem parityMarked_reg (i : Nat) {r : Reg} {ix : List Nat} (h : r.at ix ≠ Reg.FLT_PAR.at []) :
    (s.parityMarked i).reg r ix = (s.setReg (parityReg i).1 (parityReg i).2 (wd (Reg.hw (parityReg i).1 (parityReg i).2))).reg r ix := by
  refine (reg_setReg_ne _ _ h.symm).trans ?_
  split
  · rfl
  · exact (escUpdate_keeps ..).reg rfl rfl r ix

end

/-- Settles O52. -/
theorem safeState : Obligations.SafeState := by
  intro s n us ms info i g v hpor hmain hthm
  refine ⟨fun hlevel hreal hext hfind hstat himm hen hsafe => ?_, fun hfind hms hn hsafe => ?_, fun hfind hms h1 h2 => ?_,
    fun hfind hms => ?_, fun hent hpend => ?_, fun ho hsafe hent hall => ?_, fun hstat => ?_, fun ho hsafe hent hall => ?_,
    fun ho hsafe hheld hstat hout => ?_⟩
  · have hdo := doFaultSourceSet_level info hpor hmain hthm hlevel hreal hext hfind
    rw [hstat, if_neg Bool.false_ne_true, newFault_immediate s n.isLt himm, hen, if_neg (by nofun)] at hdo
    refine .of_eq rfl hdo ?_
    have hpost := post_keeps (s.faultNoted n) 1 0x10 n ((s.faultNoted n).faultPl n false false true info 0)
    have hnoted := faultNoted_keeps s n
    have hu := enterSafe_entered ((s.faultNoted n).post 1 0x10 n ((s.faultNoted n).faultPl n false false true info 0)) n
      (by rw [hpost.frame .flt rfl, hnoted.frame .flt rfl, hsafe]) n.isLt
    refine ⟨by rw [hu.flt], by rw [hu.flt], ?_, hu.held, hu.cause, hu.clusters, hu.mode, hu.calRun, hu.engage, hu.plk.1, hu.plk.2, ?_⟩
    · rw [enterSafe_STAT _ n.isLt n.isLt, src_congr n (hpost.reg rfl rfl _ _), faultNoted_STAT s n n.isLt]
    · rw [hu.clr, hpost.frame .clr rfl, hnoted.frame .clr rfl]
  · have hdo := doEscalationExpiry_due hfind hms info
    rw [if_neg (by omega)] at hdo
    refine .of_eq rfl hdo ?_
    have hpost := post_keeps (s.expired n) 1 0x10 n ((s.expired n).faultPl n false true true info 0)
    have hflt : (s.expired n).flt = { s.flt with esc := s.flt.esc.filter fun x => x.1 ≠ n.val } := rfl
    have hu := enterSafe_entered ((s.expired n).post 1 0x10 n ((s.expired n).faultPl n false true true info 0)) n
      (by rw [hpost.frame .flt rfl, hflt, hsafe]) n.isLt
    have hacted := hu.kept .FLT_ACTED [n / 32] (inCollector_of_grouped n grouped_ACTED (by decide) n.isLt)
      (at_ne_of_grouped grouped_ACTED grouped_HELD (by decide) _ _)
      (Nat.ne_of_gt (Nat.lt_of_lt_of_le (by decide) (base_le_at _ _))) (Nat.ne_of_gt (Nat.lt_of_lt_of_le (by decide) (base_le_at _ _)))
    refine ⟨by rw [hu.flt], ?_, hu.held, ?_⟩
    · rw [src_congr n hacted, src_congr n (hpost.reg rfl rfl _ _), expired_ACTED]
    · rw [hu.flt, hpost.frame .flt rfl, hflt]
  · have hdo := doEscalationExpiry_due hfind hms info
    rw [if_pos ⟨h1, h2⟩] at hdo
    refine .of_eq rfl hdo ?_
    have hpost := post_keeps ((s.toIsolate n).foldl State.isolate (s.expired n)) 1 0x10 n
      ((s.expired n).faultPl n false true false info (s.toIsolate n).length)
    have hown := expired_ownFaults s n n.isLt
    have hiso : Keeps 0x34 (s.expired n) ((s.toIsolate n).foldl State.isolate (s.expired n)) :=
      .foldl .refl fun u e hu => (isolate_keeps u e).step hu rfl
    have hturn : Turned (s.expired n) ((s.toIsolate n).foldl State.isolate (s.expired n)) := .foldl isolate_turned _ _
    refine ⟨by rw [hpost.frame .flt rfl, hiso.frame .flt rfl]; rfl, ?_, fun p hp hi => ?_⟩
    · rw [src_congr n (hpost.reg rfl rfl _ _), src_congr n (hturn.reg (hiso.stage rfl) (grouped_ACTED.low n (by decide) n.isLt)),
        expired_ACTED]
    · rw [hpost.lane rfl]
      refine foldl_isolate _ _ (.inl (List.mem_filter.2 ⟨List.mem_map.2 ⟨p, ?_, rfl⟩, by rw [hown.isolates, hi]⟩))
      rwa [show (s.expired n).lanes = s.lanes by rw [hown.rest]]
  · refine .of_eq rfl ?_ rfl
    rw [doEscalationExpiry, hfind]
    exact if_pos hms
  · refine .of_eq rfl (?_ : doSafeEntryComplete true s = s.setFlt { s.flt with entering := false }) ⟨rfl, (setFlt_keeps s _).changesOnly rfl⟩
    simp [doSafeEntryComplete, hent, hpend]
  · refine .of_eq (exec_fltStatClear ho g v) ?_ (exitSafe_facts (s.cleared g v))
    obtain ⟨hs, he⟩ := cleared_safe s g v
    rw [exitCheck_eq, hs, he, hsafe, hent, cleared_heldAny s g.isLt hall]
    rfl
  · obtain ⟨hin, hout, hpar⟩ := parityReg_place i
    have hmarked : (s.parityMarked i).src .FLT_STAT 0 = false := by
      rw [← hstat]
      exact src_congr 0 ((parityMarked_reg s i (by decide)).trans (reg_setReg_ne s _ (List.ne_of_not_mem_cons hout)))
    have hdo := doParityError_eq hpor hmain hthm i
    rw [hmarked, if_neg Bool.false_ne_true] at hdo
    obtain ⟨hset, hkept⟩ := newFault_immediate_facts (s.parityMarked i) (n := 0) (by decide) rfl false 0
    refine .of_eq rfl hdo ⟨?_, ?_, hset⟩
    · rw [hkept _ _ hin hout, parityMarked_reg s i hpar, reg_setReg_same]
    · rw [hkept _ _ ⟨by decide, by decide⟩ (by decide)]
      exact reg_setReg_same ..
  · have hkeeps : Keeps 0x8004 s ((s.cleared g v).setFlt { (s.cleared g v).flt with exitPend := true }) :=
      (setFlt_keeps ..).step (cleared_keeps s g v) rfl
    obtain ⟨hs, he⟩ := cleared_safe s g v
    refine .of_eq (u := (s.cleared g v).setFlt { (s.cleared g v).flt with exitPend := true }) (exec_fltStatClear ho g v) ?_
      ⟨hs.trans hsafe, rfl, hkeeps.changesOnly rfl⟩
    rw [exitCheck_eq, hs, he, hsafe, hent, cleared_heldAny s g.isLt hall]
    rfl
  · obtain ⟨hs, -⟩ := cleared_safe s g v
    refine .of_eq (exec_fltStatClear ho g v) ?_ ⟨hs.trans hsafe, (cleared_keeps s g v).changesOnly rfl⟩
    rw [exitCheck_eq, cleared_heldAny_other s g.isLt n.isLt hheld hstat hout]
    simp

end Sys2Proof.Machine
end

section
/-! PROOF. The sensors, the thermal levels and the TEC loop (O53). -/
namespace Sys2Proof.Machine

/-! ### A port that restarts writes no quiet register -/

section
variable (s : State) (p : Nat)

theorem cutTx_quiet (n : Nat) : Quiet s (s.cutTx p n) := by
  unfold State.cutTx
  split
  · exact .refl
  · exact (((Quiet.of_keeps (endTx_keeps ..) rfl rfl).trans (spCount_quiet ..)).then (dropCpy_keeps ..) rfl rfl).then
      (reap_keeps ..) rfl rfl

theorem cutRx_quiet (rest : List Byte) : Quiet s (s.cutRx p rest) := by
  unfold State.cutRx
  split
  · exact .refl
  · exact .ite (.of_keeps (dropRx_keeps ..) rfl rfl) ((spCount_quiet ..).then (dropRx_keeps ..) rfl rfl)

theorem leaveUp_quiet (n : Nat) (rest : List Byte) : Quiet s (s.leaveUp p n rest) := by
  have hevt : ∀ x : Fld, 0x100000 ≤ x.reg.row.base → ∀ u : State, Quiet u (u.raise x [p]) := fun x hx u =>
    raise_quiet u (not_quietAddr_of_base hx _)
  unfold State.leaveUp
  extract_lets s1 x
  have h1 : Quiet s s1 := ((cutTx_quiet s p n).trans (cutRx_quiet _ p rest)).trans (hevt _ (by decide) _)
  exact .ite (((h1.then (negotiate_keeps ..) rfl rfl).trans (flushOut_quiet _ p)).trans (hevt _ (by decide) _))
    (h1.then (negotiate_keeps ..) rfl rfl)

theorem restartPort_quiet : Quiet s (s.restartPort p) := (Quiet.of_keeps (restNow_keeps s p _ rfl) rfl rfl).trans (leaveUp_quiet ..)

theorem sgfThrottle_quiet (on : Bool) : Quiet s (s.sgfThrottle on) := by
  have hset (u : State) (q : Nat) (x : SpPort) : Quiet u (u.setSpPort q x) := .of_keeps (setSpPort_keeps ..) rfl rfl
  unfold State.sgfThrottle
  refine .foldl (fun u q => ?_) _ s
  extract_lets x s1
  exact .ite (.ite ((hset ..).trans (restartPort_quiet ..)) .refl)
    (.ite (.ite ((hset u q _).trans (restartPort_quiet ..)) (hset ..)) .refl)

end

/-! ### The levels (R412 to R415) -/

section
variable (s : State)

/-- The shutdown level newly asserted by a measurement. -/
def State.shutsDown (s : State) : Bool := levelNow s.thm.shut s.hottest (s.thrOf THM_THR.SHUT_C) && !s.thm.shut

/-- What the levels leave of the thermal block: the three levels, the latch and the request of a restart. -/
structure Levelled (s u : State) : Prop where
  warn : u.thm.warn = levelNow s.thm.warn s.hottest (s.thrOf THM_THR.WARN_C)
  thr : u.thm.thr = levelNow s.thm.thr s.hottest (s.thrOf THM_THR.THR_C)
  shut : u.thm.shut = levelNow s.thm.shut s.hottest (s.thrOf THM_THR.SHUT_C)
  sns : u.thm.sns = s.thm.sns
  latch : u.thm.latch = (s.shutsDown && decide (s.phase_ = 3) || s.thm.latch)
  restart : u.thm.restartP = (s.shutsDown && !decide (s.phase_ = 3) && !s.sys.thmRst || s.thm.restartP)
  told : s.shutsDown = true → u.f THM_EVT.SHUTDOWN [] = 1
  enabled : u.reg .FLT_EN [0] = s.reg .FLT_EN [0]

theorem assertLevel_shut (u : State) : (u.assertLevel 3).f THM_EVT.SHUTDOWN [] = 1 := by
  have h := thermalEvent_keeps (u.raise THM_EVT.SHUTDOWN []) 3
  exact (h.f rfl rfl _ _).trans (raise_f_same (x := THM_EVT.SHUTDOWN) u (by decide) (by decide))

theorem assertLevel_FLT_EN (lvl : Nat) : (s.assertLevel lvl).reg .FLT_EN [0] = s.reg .FLT_EN [0] := by
  unfold State.assertLevel
  extract_lets x
  rw [(thermalEvent_keeps ..).reg rfl rfl]
  refine raise_reg_ne s (by decide) ?_
  unfold x
  split_ifs <;> decide

/-- The levels asserted, in their order. -/
def State.asserted (s : State) (up : List (Nat × Bool)) : State := up.foldl (fun (s : State) (p : Nat × Bool) => s.assertLevel p.1) s

theorem asserted_keeps (up : List (Nat × Bool)) : Keeps 0x102004 s (s.asserted up) :=
  .foldl .refl fun u k hu => (assertLevel_keeps u k.1).step hu rfl

theorem asserted_FLT_EN (up : List (Nat × Bool)) : (s.asserted up).reg .FLT_EN [0] = s.reg .FLT_EN [0] :=
  foldl_keeps (fun u : State => u.reg .FLT_EN [0] = s.reg .FLT_EN [0]) rfl fun u _ hu => (assertLevel_FLT_EN u _).trans hu

/-- A shutdown newly asserted is told behind the levels below it. -/
theorem asserted_shut (w t : Bool) : (s.asserted ([(1, w), (2, t), (3, true)].filter fun p : Nat × Bool => p.2)).f THM_EVT.SHUTDOWN [] = 1 := by
  have hlist : ([(1, w), (2, t), (3, true)].filter fun p : Nat × Bool => p.2)
      = ([(1, w), (2, t)].filter fun p : Nat × Bool => p.2) ++ [(3, true)] := by
    cases w <;> cases t <;> rfl
  rw [hlist, State.asserted, List.foldl_append]
  exact assertLevel_shut _

theorem levels_levelled : Levelled s s.levels := by
  unfold State.levels
  extract_lets h o n up s1 s3 s4 s5
  have h1 : Keeps 0x102000 (s.setThm n) s1 := .foldl .refl fun u k hu => (thermalEvent_keeps u k).step hu rfl
  have h3 : Keeps 0x102004 s1 s3 := asserted_keeps s1 up
  have q4 : Quiet s3 s4 := .ite .refl (icEdge_quiet ..)
  have q5 : Quiet s3 s5 := .ite q4 (q4.trans (sgfThrottle_quiet ..))
  have h4 : Keeps 0x303004 s3 s4 := .ite .refl ((icEdge_keeps ..).step .refl rfl)
  have h5 : Keeps 0x303004 s3 s5 := .ite h4 ((sgfThrottle_keeps ..).step h4 rfl)
  have hthm : s5.thm = n := (h5.frame .thm rfl).trans ((h3.frame .thm rfl).trans (h1.frame .thm rfl))
  have hen : s5.reg .FLT_EN [0] = s.reg .FLT_EN [0] := by
    rw [q5.reg (by decide)]
    exact (asserted_FLT_EN s1 up).trans (h1.reg rfl rfl ..)
  have htold : s.shutsDown = true → s5.f THM_EVT.SHUTDOWN [] = 1 := fun hnew => by
    have hup : (n.shut && !o.shut) = true := hnew
    have hs3 : s3.f THM_EVT.SHUTDOWN [] = 1 := by
      have hs : s3 = s1.asserted ([(1, n.warn && !o.warn), (2, n.thr && !o.thr), (3, true)].filter fun p : Nat × Bool => p.2) := by
        rw [← hup]
        rfl
      rw [hs, asserted_shut]
    rw [q5.f (by decide), hs3]
  have hshut : (n.shut && !o.shut) = s.shutsDown := rfl
  rw [hshut]
  cases hnew : s.shutsDown
  · rw [if_neg Bool.false_ne_true]
    exact ⟨by rw [hthm], by rw [hthm], by rw [hthm], by rw [hthm], by rw [hthm, hnew]; rfl, by rw [hthm, hnew]; rfl, htold, hen⟩
  · rw [if_pos rfl]
    have hwarn := congrArg Thm.warn hthm
    have hthr := congrArg Thm.thr hthm
    have hsh := congrArg Thm.shut hthm
    have hsns := congrArg Thm.sns hthm
    have hlatch := congrArg Thm.latch hthm
    have hrst := congrArg Thm.restartP hthm
    by_cases hphase : s.phase_ = 3
    · rw [if_pos hphase]
      exact ⟨hwarn, hthr, hsh, hsns, by simp [hnew, hphase, State.setThm], hrst.trans (by simp [hphase, n, o]), htold, hen⟩
    · rw [if_neg hphase]
      cases hr : s.sys.thmRst
      · exact ⟨hwarn, hthr, hsh, hsns, hlatch.trans (by simp [hphase, n, o]), by simp [hnew, hphase, State.setThm, hr], htold, hen⟩
      · exact ⟨hwarn, hthr, hsh, hsns, hlatch.trans (by simp [hphase, n, o]), hrst.trans (by simp [hr, n, o]), htold, hen⟩

/-- The estimate and its supervision leave what the levels left. -/
structure LevelsKept (s u : State) : Prop where
  warn : u.thm.warn = s.thm.warn
  thr : u.thm.thr = s.thm.thr
  shut : u.thm.shut = s.thm.shut
  sns : u.thm.sns = s.thm.sns
  latch : u.thm.latch = s.thm.latch
  restart : u.thm.restartP = s.thm.restartP

theorem watched_levels : LevelsKept s s.estimate.tecWatch := by
  unfold State.tecWatch
  split_ifs <;> exact ⟨rfl, rfl, rfl, rfl, rfl, rfl⟩

theorem Levelled.watched {s u : State} (h : Levelled s u) : Levelled s u.estimate.tecWatch := by
  have k := watched_levels u
  have hk : Keeps 0x20000 u u.estimate.tecWatch := (tecWatch_keeps ..).step ((estimate_keeps u).step .refl rfl) rfl
  exact ⟨k.warn.trans h.warn, k.thr.trans h.thr, k.shut.trans h.shut, k.sns.trans h.sns, k.latch.trans h.latch,
    k.restart.trans h.restart, fun hs => (hk.f rfl rfl ..).trans (h.told hs), (hk.reg rfl rfl ..).trans h.enabled⟩

/-- The gate of one sensor (R409, R410). -/
def State.gated (s : State) (x : SnsRead) : State :=
  if s.snsEn x.i.val then
    let o := s.sns x.i.val
    let n := o.gate x.cnt (sgn 16 x.val.toNat)
    let s' := s.setThm { s.thm with sns := sset s.thm.sns x.i.val n }
    if n.broken && !o.broken then (s'.raise THM_EVT.BROKEN []).cause 20 else s'
  else s

theorem doSensorMeasure_eq (t : Nat) (l : List SnsRead) :
    doSensorMeasure t l s = (l.foldl State.gated (s.passTo t)).levels.estimate.tecWatch := rfl

/-- The gate of an enabled sensor changes that sensor, the BROKEN bit and the causes that wait. -/
theorem gated_facts {s : State} {x : SnsRead} (h : s.snsEn x.i.val = true) :
    (s.gated x).thm = { s.thm with sns := sset s.thm.sns x.i.val ((s.sns x.i.val).gate x.cnt (sgn 16 x.val.toNat)) }
    ∧ (s.gated x).flt.safe = s.flt.safe ∧ (s.gated x).f THM_CTRL.TEST [] = s.f THM_CTRL.TEST [] := by
  unfold State.gated
  rw [if_pos h]
  extract_lets o n _ s'
  split
  · have hr := raise_keeps s' THM_EVT.BROKEN []
    have hflt : (s'.raise THM_EVT.BROKEN []).flt = s.flt := hr.frame .flt rfl
    refine ⟨hr.frame .thm rfl, (congrArg Flt.safe hflt :), ?_⟩
    exact f_of_reg (raise_reg_ne (x := THM_EVT.BROKEN) (r := .THM_CTRL) (ix := []) (jx := []) s' (by decide) (by decide))
  · exact ⟨rfl, rfl, rfl⟩

theorem phase_congr {s u : State} (hstart : u.thm.start = s.thm.start) (hlatch : u.thm.latch = s.thm.latch)
    (hsafe : u.flt.safe = s.flt.safe) (htest : u.f THM_CTRL.TEST [] = s.f THM_CTRL.TEST []) : u.phase_ = s.phase_ := by
  rw [State.phase_, hstart, fb_of_f htest, hsafe, hlatch, State.phase_]

theorem sns_of_thm {s u : State} (h : u.thm.sns = s.thm.sns) (i : Nat) : u.sns i = s.sns i := by rw [State.sns, h, State.sns]

/-- The measurement, and the safe state where it asks for a restart (R415). -/
theorem doSensors_eq (t : Nat) (l : List SnsRead) : doSensors t l s =
    if (doSensorMeasure t l s).thm.restartP && !s.thm.restartP then (doSensorMeasure t l s).thermalSafe else doSensorMeasure t l s := rfl

theorem doSensors_thm (t : Nat) (l : List SnsRead) : (doSensors t l s).thm = (doSensorMeasure t l s).thm := by
  rw [doSensors_eq]
  split
  · exact (thermalSafe_keeps _).frame .thm rfl
  · rfl

/-- Source 19 enabled enters the safe state and holds it. -/
theorem thermalSafe_facts {s : State} (hmain : s.sys.mainRst = false) (hen : s.src .FLT_EN 19 = true) :
    s.thermalSafe.flt.safe = true ∧ s.thermalSafe.src .FLT_HELD 19 = true := by
  have henter : ∀ u : State, (u.enterSafe 19).flt.safe = true ∧ (u.enterSafe 19).src .FLT_HELD 19 = true := fun u => by
    cases h : u.flt.safe
    · have hu := enterSafe_entered u 19 h (by decide)
      exact ⟨by rw [hu.flt], hu.held⟩
    · rw [enterSafe_again u h]
      exact ⟨h, src_setSrc_same u 19 true grouped_HELD⟩
  rw [State.thermalSafe, hmain, if_neg Bool.false_ne_true]
  split
  · exact henter s
  · rw [newFault_immediate s (by decide) rfl, hen, if_neg (by nofun)]
    exact henter _

theorem Levelled.of_passTo {t : Nat} {s u : State} (h : Levelled (s.passTo t) u) : Levelled s u := by
  have hhot : (s.passTo t).hottest = s.hottest := passTo_congr s t (·.hottest) fun _ => rfl
  have hthr (x : Fld) : (s.passTo t).thrOf x = s.thrOf x := passTo_congr s t (·.thrOf x) fun _ => rfl
  have hphase : (s.passTo t).phase_ = s.phase_ := passTo_congr s t (·.phase_) fun _ => rfl
  have hdown : (s.passTo t).shutsDown = s.shutsDown := passTo_congr s t (·.shutsDown) fun _ => rfl
  obtain ⟨h1, h2, h3, h4, h5, h6, h7, h8⟩ := h
  rw [passTo_thm, hhot, hthr] at h1 h2 h3
  rw [passTo_thm] at h4
  rw [hdown, hphase, passTo_thm] at h5 h6
  rw [passTo_sys] at h6
  rw [hdown] at h7
  rw [passTo_reg] at h8
  exact ⟨h1, h2, h3, h4, h5, h6, h7, h8⟩

/-- The levels behind a measurement of no sensor. -/
theorem measured_levelled (t : Nat) : Levelled s (doSensorMeasure t [] s) := Levelled.of_passTo (levels_levelled (s.passTo t)).watched

/-- A shutdown that is newly asserted. -/
theorem shutsDown_of_new {s u : State} (h : Levelled s u) (hwas : s.thm.shut = false) (hnow : u.thm.shut = true) : s.shutsDown = true := by
  rw [State.shutsDown, ← h.shut, hnow, hwas]
  rfl

/-- No shutdown is newly asserted where the level does not change. -/
theorem not_shutsDown_of_same {s u : State} (h : Levelled s u) (hsame : u.thm.shut = s.thm.shut) : s.shutsDown = false := by
  rw [State.shutsDown, ← h.shut, hsame, Bool.and_not_self]

/-! ### The TEC loop (R417) -/

/-- The thermal block behind one step of the loop. -/
def State.tecStepped (s : State) : Thm :=
  let e := s.thm.mean - 800
  let kp : Int := s.f TEC_GAIN.KP []
  let ki : Int := s.f TEC_GAIN.KI []
  let u0 := asr (kp * e + s.thm.acc) 6
  let acc := if (65535 < u0 ∧ 0 < e) ∨ (u0 < -65535 ∧ e < 0) then s.thm.acc else sat 24 (s.thm.acc + ki * e)
  { s.thm with acc := acc, u := clampI (-65535) 65535 (asr (kp * e + acc) 6) }

/-- The leg that one step of the loop drives. -/
def State.tecLeg (s : State) : Nat := if 0 < s.tecStepped.u then s.f TEC_CTRL.COOL_LEG [] else 1 - s.f TEC_CTRL.COOL_LEG []

theorem doTecLoop_step {s : State} (hen : s.fb TEC_CTRL.EN [] = true) (hpd : s.thm.pdValid = true) : doTecLoop s =
    ((s.setThm s.tecStepped).tecDuty s.tecLeg (s.tecStepped.u.natAbs * s.f PWM_PER.PER [s.tecLeg] * 16 / 65535)).tecDuty (1 - s.tecLeg) 0 := by
  rw [doTecLoop, hen, hpd]
  rfl

theorem tecLeg_lt : s.tecLeg < 2 := by
  have h : s.f TEC_CTRL.COOL_LEG [] < 2 := fget_lt ..
  unfold State.tecLeg
  split <;> omega

theorem clampI_bounds {lo hi : Int} (h : lo ≤ hi) (x : Int) : lo ≤ clampI lo hi x ∧ clampI lo hi x ≤ hi := by
  unfold clampI
  split_ifs <;> omega

theorem tecStepped_bounds : -65535 ≤ s.tecStepped.u ∧ s.tecStepped.u ≤ 65535 := clampI_bounds (by decide) _

theorem at_PWM_DUTY (ch : Nat) : Reg.PWM_DUTY.at [ch] = 0x90808 + 0x20 * ch := rfl

theorem tecDuty_same (ch d : Nat) : (s.tecDuty ch d).f PWM_DUTY.DUTY [ch] = d % 65536 := f_setF_same s _ _ _ (by decide)

theorem tecDuty_ne {ch c : Nat} (h : ch ≠ c) (d : Nat) : (s.tecDuty ch d).f PWM_DUTY.DUTY [c] = s.f PWM_DUTY.DUTY [c] :=
  f_setF_ne s _ (by show Reg.PWM_DUTY.at [ch] ≠ Reg.PWM_DUTY.at [c]; rw [at_PWM_DUTY, at_PWM_DUTY]; omega)

theorem tecDuty_updP (ch d : Nat) : ((s.tecDuty ch d).pwmOf ch).updP = true := by
  rw [State.tecDuty, pwmOf_setPwm_same]

theorem tecDuty_updP_ne {ch c : Nat} (h : ch ≠ c) (d : Nat) : (s.tecDuty ch d).pwmOf c = s.pwmOf c := by
  rw [State.tecDuty, pwmOf_setPwm_ne _ _ (Ne.symm h)]
  rfl

/-- Both channels of the loop wait for their update. -/
theorem tecDuty_both {c leg : Nat} (hc : c < 2) (hleg : leg < 2) (d x : Nat) :
    (((s.tecDuty leg d).tecDuty (1 - leg) x).pwmOf c).updP = true := by
  by_cases h : 1 - leg = c
  · rw [h, tecDuty_updP]
  · rw [tecDuty_updP_ne _ h, show c = leg by omega, tecDuty_updP]

theorem tecDuty_otherRegs {ch : Nat} (h : ch < 2) (d : Nat) :
    otherRegs [Reg.PWM_DUTY.at [0], Reg.PWM_DUTY.at [1]] s (s.tecDuty ch d) := by
  refine otherRegs.trans (u := s.setF PWM_DUTY.DUTY [ch] d) (.setF ?_) (.of_regs rfl)
  interval_cases ch <;> decide

/-- The duty of a leg fits its field. -/
theorem tecDuty_fits {u : Int} {per : Nat} (hlo : -65535 ≤ u) (hhi : u ≤ 65535) (hper : per < 4096) :
    u.natAbs * per * 16 / 65535 % 65536 = u.natAbs * per * 16 / 65535 := by
  refine Nat.mod_eq_of_lt ((Nat.div_lt_iff_lt_mul (by decide)).2 ?_)
  have habs : u.natAbs ≤ 65535 := by omega
  calc u.natAbs * per * 16 ≤ 65535 * 4095 * 16 := by gcongr; omega
    _ < 65536 * 65535 := by decide

end

/-- Settles O53. -/
theorem thermalControl : Obligations.ThermalControl := by
  intro s t leg x
  refine ⟨fun hen => ?_, ?_, fun hen hpd hleg => ?_, fun hpd => ?_, fun hen hband htime => ?_⟩
  · have hfb : (s.passTo t).snsEn x.i.val = true := (passTo_fb s t THM_SNS.EN [x.i.val]).trans hen
    obtain ⟨hthm, hsafe, htest⟩ := gated_facts hfb
    have hm : Levelled ((s.passTo t).gated x) (doSensorMeasure t [x] s) := (levels_levelled _).watched
    have hsns : (doSensorMeasure t [x] s).thm.sns
        = sset s.thm.sns x.i.val ((s.sns x.i.val).gate x.cnt (sgn 16 x.val.toNat)) := by
      rw [hm.sns, hthm, passTo_thm]
      rw [sns_of_thm (congrArg Thm.sns (passTo_thm s t))]
    refine ⟨_, rfl, ?_, fun i hi => ?_, fun h => ?_⟩
    · rw [State.sns, doSensors_thm, hsns, sget_sset_same]
    · rw [State.sns, doSensors_thm, hsns, sget_sset_ne _ _ _ hi.symm]
      rfl
    · have hkeeps := doSensorMeasure_keeps t [x] s
      have hphase : ((s.passTo t).gated x).phase_ = s.phase_ := by
        have h1 : ((s.passTo t).gated x).thm.start = s.thm.start := by rw [hthm, passTo_thm]
        have h2 : ((s.passTo t).gated x).thm.latch = s.thm.latch := by rw [hthm, passTo_thm]
        exact phase_congr h1 h2 (by rw [hsafe, passTo_flt]) (by rw [htest, passTo_f])
      have hno : (((s.passTo t).gated x).shutsDown && !decide (((s.passTo t).gated x).phase_ = 3)) = false := by
        have hsh : ((s.passTo t).gated x).thm.shut = s.thm.shut := by rw [hthm, passTo_thm]
        rcases h with h | h
        · rw [hphase, h]
          simp
        · rw [State.shutsDown, hsh, h]
          simp
      have hrst : (doSensorMeasure t [x] s).thm.restartP = s.thm.restartP := by
        rw [hm.restart, hno, hthm, passTo_thm]
        rfl
      rw [doSensors_eq, hrst, if_neg (by simp), hkeeps.frame .lanes rfl]
  · have hm := measured_levelled s t
    have hthm := doSensors_thm s t []
    refine ⟨_, rfl, by rw [hthm, hm.warn], by rw [hthm, hm.thr], by rw [hthm, hm.shut], fun i => sns_of_thm (by rw [hthm, hm.sns]) i,
      fun hwas hnow hphase => ?_, fun hwas hnow hphase hreset => ?_, fun hsame => ?_⟩
    · have hnew := shutsDown_of_new hm hwas (by rw [← hthm, hnow])
      have hrst := hm.restart
      rw [hphase, hnew] at hrst
      refine ⟨by rw [hthm, hm.latch, hnew, hphase]; rfl, ?_⟩
      rw [doSensors_eq, hrst, if_neg (by simp)]
      exact hm.told hnew
    · have hnew := shutsDown_of_new hm hwas (by rw [← hthm, hnow])
      have hrst : (doSensorMeasure t [] s).thm.restartP = true := by
        rw [hm.restart, hnew, hreset, decide_eq_false hphase]
        rfl
      refine ⟨by rw [hthm, hrst], ?_, fun hno hmain hen => ?_⟩
      · rw [hthm, hm.latch, decide_eq_false hphase, Bool.and_false, Bool.false_or]
      · have hkeeps := doSensorMeasure_keeps t [] s
        rw [doSensors_eq, hrst, hno, Bool.not_false, Bool.and_true, if_pos rfl]
        have hm0 : (doSensorMeasure t [] s).sys.mainRst = false := by
          have hrest : (doSensorMeasure t [] s).sys.rest = s.sys.rest := hkeeps.frame .sys rfl
          exact (congrArg Sys.mainRst hrest).trans hmain
        exact thermalSafe_facts hm0 ((src_congr 19 hm.enabled).trans hen)
    · have hno := not_shutsDown_of_same hm (by rw [← hthm, hsame])
      exact ⟨by rw [hthm, hm.latch, hno]; rfl, by rw [hthm, hm.restart, hno]; rfl⟩
  · have hdo := doTecLoop_step hen hpd
    obtain ⟨hlo, hhi⟩ := tecStepped_bounds s
    have hlt := tecLeg_lt s
    have hne : s.tecLeg ≠ 1 - s.tecLeg := by omega
    have hper : s.f PWM_PER.PER [s.tecLeg] < 4096 := fget_lt ..
    have hkeeps := doTecLoop_keeps s
    rw [hdo] at hkeeps
    refine .of_eq rfl hdo ⟨hlo, hhi, fun hl => ?_, ?_, ?_, ?_, hkeeps.changesOnly rfl⟩
    · have hleg' : leg = s.tecLeg := hl
      rw [hleg', tecDuty_same, tecDuty_ne _ hne.symm, tecDuty_same, tecDuty_fits hlo hhi hper]
      exact ⟨rfl, rfl⟩
    · exact tecDuty_both _ (by omega) hlt _ _
    · exact tecDuty_both _ (by omega) hlt _ _
    · refine otherRegs.trans ?_ (tecDuty_otherRegs _ (by omega) _)
      exact .trans (.of_regs rfl) (tecDuty_otherRegs _ hlt _)
  · refine .of_eq rfl ?_ rfl
    rw [doTecLoop, hpd]
    simp
  · refine .of_eq rfl (?_ : doTecBandTimeout s = s.setThm { s.thm with tecTo := true }) ⟨rfl, (setThm_keeps s _).changesOnly rfl⟩
    rw [doTecBandTimeout, hen, hband, decide_eq_true htime]
    rfl

end Sys2Proof.Machine
end

section
/-! PROOF. Health, mirror lanes and the roles of a pair (O48). -/
namespace Sys2Proof.Machine

/-! ### Notes of the pair: log entries, and the bits of PAIR_EVT that stay -/

/-- Of Prale only the log has changed. -/
def LogsOnly (s u : State) : Prop := ∃ b n, u.prl = { s.prl with logBuf := b, logLost := n }

section
variable {s u v : State}

theorem LogsOnly.refl : LogsOnly s s := ⟨_, _, rfl⟩

theorem LogsOnly.trans (h : LogsOnly s u) (k : LogsOnly u v) : LogsOnly s v := by
  obtain ⟨_, _, hu⟩ := h
  obtain ⟨b, n, hv⟩ := k
  exact ⟨b, n, by rw [hv, hu]⟩

theorem LogsOnly.of_prl (h : u.prl = s.prl) : LogsOnly s u := ⟨_, _, h⟩

end

theorem logEvent_logs (s : State) (code sub : Nat) (pl : List Word) : LogsOnly s (s.logEvent code sub pl) := by
  unfold State.logEvent
  split
  case h_9 => exact .refl
  all_goals exact logPut_prl ..

/-- A bit of PAIR_EVT. -/
def pairEvtFld (x : Fld) : Prop := x.reg = .PAIR_EVT ∧ x.len = 1 ∧ x.lo < 32

/-- What a step of the roles leaves: the health word, the peer, of Prale all but the log, and every bit of PAIR_EVT that was set. -/
structure RoleAct (s u : State) : Prop where
  health : u.pair.health = s.pair.health
  peer : u.pair.peer = s.pair.peer
  logs : LogsOnly s u
  told : ∀ x, pairEvtFld x → s.f x [] = 1 → u.f x [] = 1

section
variable {s u v : State}

theorem RoleAct.refl : RoleAct s s := ⟨rfl, rfl, .refl, fun _ _ => id⟩

theorem RoleAct.trans (h : RoleAct s u) (k : RoleAct u v) : RoleAct s v :=
  ⟨k.health.trans h.health, k.peer.trans h.peer, h.logs.trans k.logs, fun x hx hs => k.told x hx (h.told x hx hs)⟩

theorem RoleAct.ite {c : Prop} {i : Decidable c} (h : RoleAct s u) (k : RoleAct s v) : RoleAct s (ite c u v) := by
  split <;> assumption

theorem RoleAct.of_keeps {m : Nat} (h : Keeps m s u) (hh : u.pair.health = s.pair.health) (hp : u.pair.peer = s.pair.peer) (h1 : m.testBit 1 = false)
    (h2 : m.testBit 2 = false) (h20 : m.testBit 20 = false) : RoleAct s u :=
  ⟨hh, hp, .of_prl (h.frame .prl h20), fun x _ hx => by rw [h.f h2 h1, hx]⟩

theorem RoleAct.setPair {p : Pair} (h : p.health = s.pair.health) (k : p.peer = s.pair.peer) : RoleAct s (s.setPair p) :=
  ⟨h, k, .refl, fun _ _ => id⟩

end

theorem fget_bit (i : Nat) (w : Word) : fget i 1 w = 1 ↔ w.toNat.testBit i = true := by
  rw [fget, Nat.testBit_eq_decide_div_mod_eq, Nat.shiftRight_eq_div_pow]
  simp

section
variable (s : State) (sub : Nat) (pl : List Word)

theorem pairEvent_logs : LogsOnly s (s.pairEvent sub pl) := by
  unfold State.pairEvent
  split
  · exact .refl
  · extract_lets s1
    have h1 : s1.prl = s.prl := by
      unfold s1
      split <;> rfl
    have hpost : (s1.post 4 0x40 sub pl).prl = (s1.logEvent 0x40 sub pl).prl := (postRaw_keeps ..).frame .prl rfl
    exact (LogsOnly.of_prl h1).trans ((logEvent_logs s1 0x40 sub pl).trans (.of_prl hpost))

/-- The word PAIR_EVT behind an event. -/
theorem pairEvent_reg (hp : s.inPair = true) : (s.pairEvent sub pl).reg .PAIR_EVT [] =
    (pairBitOf sub).elim (s.reg .PAIR_EVT []) fun b => s.reg .PAIR_EVT [] ||| wd (2 ^ b) := by
  unfold State.pairEvent
  rw [hp, if_neg (by decide)]
  extract_lets s1
  rw [(post_keeps ..).reg rfl rfl]
  unfold s1
  cases pairBitOf sub
  · rfl
  · exact reg_setReg_same ..

theorem pairEvent_act : RoleAct s (s.pairEvent sub pl) := by
  refine ⟨by rw [pairEvent_pair], by rw [pairEvent_pair], pairEvent_logs s sub pl, fun x hx hs => ?_⟩
  cases hp : s.inPair
  case false =>
    have hno : s.pairEvent sub pl = s := by
      rw [State.pairEvent, hp]
      rfl
    rw [hno, hs]
  obtain ⟨hreg, hlen, hlo⟩ := hx
  rw [State.f, hreg, hlen, fget_bit] at hs ⊢
  rw [pairEvent_reg s sub pl hp]
  cases pairBitOf sub
  · exact hs
  · rw [Option.elim_some, BitVec.toNat_or, Nat.testBit_or, hs, Bool.true_or]

/-- An event of the pair sets its bit. -/
theorem pairEvent_told (hp : s.inPair = true) {x : Fld} (hx : pairEvtFld x) (hb : pairBitOf sub = some x.lo) :
    (s.pairEvent sub pl).f x [] = 1 := by
  obtain ⟨hreg, hlen, hlo⟩ := hx
  rw [State.f, hreg, hlen, fget_bit, pairEvent_reg s sub pl hp, hb]
  exact testBit_or_wd hlo _

end

section
variable (s : State)

theorem loseSync_act (cause : Nat) : RoleAct s (s.loseSync cause) := by
  unfold State.loseSync
  split
  · refine RoleAct.trans (u := s.setPair { s.pair with sync := 0, snap := [], snapOn := false }) (.setPair rfl rfl) (pairEvent_act ..)
  · exact .refl

theorem startIntake_act : RoleAct s s.startIntake := by
  unfold State.startIntake
  extract_lets go
  exact .ite (.setPair rfl rfl) .refl

theorem syncDone_act : RoleAct s s.syncDone := by
  unfold State.syncDone
  split
  · exact RoleAct.trans (u := s.setPair { s.pair with sync := 2, snapOn := false }) (.setPair rfl rfl) (pairEvent_act ..)
  · exact .refl

/-- An announcement waits for the ACK of its transaction. -/
def State.annHeld (s : State) (all : Bool) (x : Nat × Nat × List Byte) : Bool :=
  !all && s.pair.ackWait.any fun w => w.1 == x.1 && decide (s.clr.now < w.2.1)

/-- A hand-over of announcements leaves the pair but the list of those that wait. -/
theorem handOff_pair (all : Bool) : (s.handOff all).pair = { s.pair with annWait := s.pair.annWait.filter (s.annHeld all) } := by
  unfold State.handOff
  extract_lets waits
  exact foldl_keeps (fun u : State => u.pair = { s.pair with annWait := s.pair.annWait.filter (s.annHeld all) }) rfl fun u x hu =>
    ((handAnn_keeps ..).frame .pair rfl).trans hu

theorem handOff_act (all : Bool) : RoleAct s (s.handOff all) :=
  .of_keeps (handOff_keeps all s) (by rw [handOff_pair]) (by rw [handOff_pair]) rfl rfl rfl

theorem foldl_pairEvent_act {α : Type} (sub : Nat) (pl : α → List Word) (l : List α) (s : State) :
    RoleAct s (l.foldl (fun s a => s.pairEvent sub (pl a)) s) :=
  foldl_rel (R := RoleAct) (fun _ => .refl) .trans (fun x _ _ => pairEvent_act x _ _) s

theorem takeover_act : RoleAct s s.takeover := by
  unfold State.takeover
  extract_lets p s1 s2 s3
  have h1 : RoleAct s s1 := .setPair rfl rfl
  have h2 : RoleAct s s2 := h1.trans (pairEvent_act ..)
  have h3 : RoleAct s s3 := h2.trans (foldl_pairEvent_act 5 (fun w : Nat × Nat × List Word => w.2.2) p.unconf s2)
  refine h3.trans (.trans ?_ (startIntake_act _))
  exact ⟨rfl, rfl, .refl, fun _ _ => id⟩

/-! ### The steps of the roles (R356) -/

/-- The active module whose selection is gone yields. -/
def State.selYields (s : State) : State :=
  if s.pair.role = 1 ∧ s.effSel = false then s.setPair { s.pair with role := 3, intake := false } else s

/-- The standby that a yielding module becomes: its synchronisation by what the peer reported. -/
def State.yielded (s : State) : State :=
  let sy := if s.pair.hello.map (fun w => w.ptn.toNat) = some s.pair.ptn then 2 else 0
  let s' := s.handOff true
  let u := (s'.setPair { s'.pair with role := 2, sync := sy, snapSent := false }).pairEvent 2 [wd s.pair.ptn]
  let u1 := if sy = 2 then u.pairEvent 4 [wd s.pair.ptn] else u
  if u1.pair.peer then u1 else u1.loseSync 1

/-- A yielding module with no work open is a standby. -/
def State.yieldEnds (s : State) : State :=
  if s.pair.role = 3 ∧ s.pair.ackWait.all (fun x => decide (x.2.1 ≤ s.clr.now)) = true ∧ s.pth.cur = none then s.yielded else s

/-- A starting module takes its role, and a standby that is selected takes over. -/
def State.roleTaken (s : State) : State :=
  if s.pair.role = 0 then
    if s.effSel then State.startIntake (s.setPair { s.pair with role := 1, sync := 3, seq := (s.pair.seq + 2 ^ 20) % 2 ^ 31 })
    else s.setPair { s.pair with role := 2, sync := 0 }
  else if s.pair.role = 2 ∧ s.effSel = true then s.takeover
  else s

theorem roleStep_eq : s.roleStep = if !s.inPair || !s.ready then s else s.selYields.yieldEnds.roleTaken := rfl

theorem selYields_act : RoleAct s s.selYields := .ite (.setPair rfl rfl) .refl

theorem yielded_act : RoleAct s s.yielded := by
  unfold State.yielded
  extract_lets sy s' _ u u1
  have h1 : RoleAct s (s'.setPair { s'.pair with role := 2, sync := sy, snapSent := false }) := (handOff_act s true).trans (.setPair rfl rfl)
  have hu : RoleAct s u := h1.trans (pairEvent_act ..)
  have hu1 : RoleAct s u1 := .ite (hu.trans (pairEvent_act ..)) hu
  exact .ite hu1 (hu1.trans (loseSync_act ..))

theorem yieldEnds_act : RoleAct s s.yieldEnds := .ite (yielded_act s) .refl

theorem roleTaken_act : RoleAct s s.roleTaken := by
  unfold State.roleTaken
  refine .ite (.ite (.trans ?_ (startIntake_act _)) (.setPair rfl rfl)) (.ite (takeover_act s) .refl)
  exact .setPair rfl rfl

theorem roleStep_act : RoleAct s s.roleStep := by
  rw [roleStep_eq]
  exact .ite .refl (((selYields_act s).trans (yieldEnds_act _)).trans (roleTaken_act _))

end

section
variable {s : State}

theorem roleStep_outside (h : s.inPair = false) : s.roleStep = s := by
  rw [roleStep_eq, h]
  rfl

theorem selYields_kept (h : s.pair.role ≠ 1 ∨ s.effSel = true) : s.selYields = s :=
  if_neg fun ⟨h1, h2⟩ => by
    rcases h with h | h
    · exact h h1
    · rw [h] at h2
      exact Bool.noConfusion h2

theorem yieldEnds_kept (h : s.pair.role ≠ 3) : s.yieldEnds = s := if_neg fun hn => h hn.1

theorem roleTaken_kept (h0 : s.pair.role ≠ 0) (h : s.pair.role ≠ 2 ∨ s.effSel = false) : s.roleTaken = s := by
  rw [State.roleTaken, if_neg h0]
  refine if_neg fun ⟨h1, h2⟩ => ?_
  rcases h with h | h
  · exact h h1
  · rw [h] at h2
    exact Bool.noConfusion h2

/-- An active module that is selected keeps its role. -/
theorem roleStep_active (hr : s.pair.role = 1) (hsel : s.effSel = true) : s.roleStep = s := by
  rw [roleStep_eq, selYields_kept (.inr hsel), yieldEnds_kept (by omega), roleTaken_kept (by omega) (.inl (by omega)), ite_self]

/-- A standby that is not selected stays one. -/
theorem roleStep_standby (hr : s.pair.role = 2) (hsel : s.effSel = false) : s.roleStep = s := by
  rw [roleStep_eq, selYields_kept (.inl (by omega)), yieldEnds_kept (by omega), roleTaken_kept (by omega) (.inr hsel), ite_self]

/-- A starting module that is selected becomes active. -/
theorem roleStep_starts (hp : s.inPair = true) (hready : s.ready = true) (hr : s.pair.role = 0) (hsel : s.effSel = true) :
    s.roleStep = State.startIntake (s.setPair { s.pair with role := 1, sync := 3, seq := (s.pair.seq + 2 ^ 20) % 2 ^ 31 }) := by
  rw [roleStep_eq, hp, hready, selYields_kept (.inl (by omega)), yieldEnds_kept (by omega), State.roleTaken, if_pos hr, if_pos hsel]
  rfl

/-- The intake is all that its start may change. -/
theorem startIntake_pair : ∃ b, s.startIntake.pair = { s.pair with intake := b } := by
  unfold State.startIntake
  extract_lets go
  split
  · exact ⟨true, rfl⟩
  · exact ⟨s.pair.intake, rfl⟩

/-- What a takeover leaves of the pair: active and unsynchronised, the shared count raised. -/
theorem takeover_pair : s.takeover.pair.role = 1 ∧ s.takeover.pair.sync = 3 ∧ s.takeover.pair.seq = (s.pair.seq + 2 ^ 20) % 2 ^ 31
    ∧ s.takeover.pth.conn = s.pth.conn := by
  unfold State.takeover
  extract_lets p s1 s2 s3
  have h3 : Keeps 0x102004 s1 s3 := .foldl ((pairEvent_keeps s1 _ _).step .refl rfl) fun u w hu => (pairEvent_keeps u _ _).step hu rfl
  have hpair : s3.pair = s1.pair := h3.frame .pair rfl
  have hpth : s3.pth = s1.pth := h3.frame .pth rfl
  generalize hv : ({ s3 with pth := _ } : State) = v
  have hvp : v.pair = s1.pair := by rw [← hv, ← hpair]
  have hvc : v.pth.conn = s.pth.conn := by rw [← hv]; exact (congrArg Pth.conn hpth :)
  obtain ⟨b, hb⟩ := startIntake_pair (s := v)
  have hpth' : v.startIntake.pth = v.pth := (startIntake_keeps v).frame .pth rfl
  have hseq : s1.pair.seq = (s.pair.seq + 2 ^ 20) % 2 ^ 31 := rfl
  have hall : v.startIntake.pair = { s1.pair with intake := b } := by rw [hb, hvp]
  exact ⟨congrArg Pair.role hall, congrArg Pair.sync hall, (congrArg Pair.seq hall).trans hseq, by rw [hpth', hvc]⟩

theorem takeover_told (hp : s.inPair = true) : s.takeover.f PAIR_EVT.TAKEOVER [] = 1 := by
  unfold State.takeover
  extract_lets p s1 s2 s3
  have h2 : s2.f PAIR_EVT.TAKEOVER [] = 1 := pairEvent_told s1 1 _ hp ⟨rfl, rfl, by decide⟩ rfl
  have h3 : s3.f PAIR_EVT.TAKEOVER [] = 1 :=
    (foldl_pairEvent_act 5 (fun w : Nat × Nat × List Word => w.2.2) p.unconf s2).told _ ⟨rfl, rfl, by decide⟩ h2
  exact ((startIntake_keeps _).f rfl rfl _ _).trans h3

/-- What a loss of synchronisation leaves of a standby. -/
theorem loseSync_pair (cause : Nat) : (s.loseSync cause).pair.role = s.pair.role
    ∧ (s.pair.role = 2 → (s.pair.sync = 1 ∨ s.pair.sync = 2 ∨ s.pair.sync = 0) → (s.loseSync cause).pair.sync = 0) := by
  unfold State.loseSync
  split
  · rw [pairEvent_pair]
    exact ⟨rfl, fun _ _ => rfl⟩
  · next h => exact ⟨rfl, fun hr hs => by tauto⟩

theorem loseSync_told (hp : s.inPair = true) (hr : s.pair.role = 2) (hs : s.pair.sync = 2) (cause : Nat) :
    (s.loseSync cause).f PAIR_EVT.SYNC_LOST [] = 1 := by
  rw [State.loseSync, if_pos ⟨hr, .inr hs⟩]
  refine pairEvent_told (s.setPair { s.pair with sync := 0, snap := [], snapOn := false }) 3 [wd cause] ?_ ⟨rfl, rfl, by decide⟩ rfl
  exact hp

/-- A loss of synchronisation changes the pair's synchronisation and its snapshot alone. -/
theorem loseSync_kept (cause : Nat) : (s.loseSync cause).pair.sel = s.pair.sel ∧ (s.loseSync cause).pair.intake = s.pair.intake
    ∧ (s.loseSync cause).pair.peer = s.pair.peer := by
  unfold State.loseSync
  split
  · rw [pairEvent_pair]
    exact ⟨rfl, rfl, rfl⟩
  · exact ⟨rfl, rfl, rfl⟩

/-- What the peer reported and the own count name the same transaction. -/
def State.upToDate (s : State) : Prop := s.pair.hello.map (fun w => w.ptn.toNat) = some s.pair.ptn

/-- The standby that a yielding module becomes. -/
theorem yielded_facts (hp : s.inPair = true) : s.yielded.pair.role = 2 ∧ s.yielded.pair.sel = s.pair.sel
    ∧ s.yielded.pair.intake = s.pair.intake ∧ s.yielded.f PAIR_EVT.YIELD [] = 1 ∧ s.yielded.pth = s.pth
    ∧ (s.pair.peer = false → s.yielded.pair.sync = 0)
    ∧ (s.pair.peer = true → s.upToDate → s.yielded.pair.sync = 2 ∧ s.yielded.f PAIR_EVT.SYNCED [] = 1)
    ∧ (¬ s.upToDate → s.yielded.pair.sync = 0) := by
  unfold State.yielded
  extract_lets sy s' _ u u1
  have hoff : Keeps 0x500 s s' := handOff_keeps true s
  have hs' : s'.pair = { s.pair with annWait := s.pair.annWait.filter (s.annHeld true) } := handOff_pair s true
  have hin : s'.inPair = true := by rw [State.inPair, (hoff.frame .straps rfl).1]; exact hp
  have hu : u.pair = { s'.pair with role := 2, sync := sy, snapSent := false } := pairEvent_pair ..
  have huin : u.inPair = true := by rw [State.inPair, ((pairEvent_keeps ..).frame .straps rfl).1]; exact hin
  have huy : u.f PAIR_EVT.YIELD [] = 1 := by
    refine pairEvent_told _ 2 _ ?_ ⟨rfl, rfl, by decide⟩ rfl
    exact hin
  have hu1 : u1.pair = { s'.pair with role := 2, sync := sy, snapSent := false } := by
    unfold u1
    split
    · rw [pairEvent_pair, hu]
    · exact hu
  have hu1k : Keeps 0x102404 u u1 := .ite ((pairEvent_keeps ..).step .refl rfl) .refl
  have hu1y : RoleAct u u1 := .ite (pairEvent_act ..) .refl
  have hsync : s.upToDate → u1.f PAIR_EVT.SYNCED [] = 1 := fun hup => by
    have hsy : sy = 2 := if_pos hup
    unfold u1
    rw [if_pos hsy]
    exact pairEvent_told u 4 _ huin ⟨rfl, rfl, by decide⟩ rfl
  have hpeer : u1.pair.peer = s.pair.peer := by rw [hu1, hs']
  have hpth : u1.pth = s.pth := (hu1k.frame .pth rfl).trans (((pairEvent_keeps ..).frame .pth rfl).trans (hoff.frame .pth rfl))
  obtain ⟨hrole, hlost⟩ := loseSync_pair (s := u1) 1
  obtain ⟨hsel, hintake, -⟩ := loseSync_kept (s := u1) 1
  have hsy : ¬ s.upToDate → sy = 0 := fun hup => if_neg hup
  cases hpr : s.pair.peer
  · have hzero : (u1.loseSync 1).pair.sync = 0 := by
      refine hlost (by rw [hu1]) ?_
      rw [hu1]
      show sy = 1 ∨ sy = 2 ∨ sy = 0
      unfold sy
      split
      · exact .inr (.inl rfl)
      · exact .inr (.inr rfl)
    rw [hpeer, hpr, if_neg Bool.false_ne_true, hrole, hsel, hintake, hu1, hs']
    exact ⟨rfl, rfl, rfl, (loseSync_act u1 1).told _ ⟨rfl, rfl, by decide⟩ (hu1y.told _ ⟨rfl, rfl, by decide⟩ huy),
      ((loseSync_keeps ..).frame .pth rfl).trans hpth, fun _ => hzero, nofun, fun _ => hzero⟩
  · rw [hpeer, hpr, if_pos rfl, hu1, hs']
    exact ⟨rfl, rfl, rfl, hu1y.told _ ⟨rfl, rfl, by decide⟩ huy, hpth, nofun, fun _ hup => ⟨if_pos hup, hsync hup⟩, hsy⟩

end

/-! ### The health word (R351) -/

/-- A list of bits as a number, the first bit lowest. -/
def bitsVal : List Bool → Nat
  | [] => 0
  | b :: l => b2n b + 2 * bitsVal l

theorem bitsVal_lt (l : List Bool) : bitsVal l < 2 ^ l.length := by
  induction l with
  | nil => exact Nat.one_pos
  | cons b l ih =>
    rw [bitsVal, List.length_cons, Nat.pow_succ]
    cases b <;> simp only [b2n] <;> split <;> omega

theorem testBit_bitsVal (l : List Bool) (n : Nat) : (bitsVal l).testBit n = l.getD n false := by
  induction l generalizing n with
  | nil => simp [bitsVal]
  | cons b l ih =>
    cases n with
    | zero =>
      rw [bitsVal, Nat.testBit_zero]
      cases b <;> simp [b2n]
    | succ n =>
      rw [bitsVal, Nat.testBit_succ, show (b2n b + 2 * bitsVal l) / 2 = bitsVal l by cases b <;> simp only [b2n] <;> split <;> omega, ih]
      rfl

theorem foldl_bits (l : List Bool) (k a : Nat) :
    (l.zip (List.range' k l.length)).foldl (fun a p => a + b2n p.1 * 2 ^ p.2) a = a + 2 ^ k * bitsVal l := by
  induction l generalizing k a with
  | nil => simp [bitsVal]
  | cons b l ih =>
    rw [List.length_cons, List.range'_succ, List.zip_cons_cons, List.foldl_cons, ih, bitsVal]
    ring

/-- A bit below 12 of the health word is the health bit of its place. -/
theorem bit_healthWord (s : State) {n : Nat} (h : n < 12) : bit n s.healthWord = s.healthBits.getD n false := by
  have hlen : s.healthBits.length = 12 := rfl
  have hsum := foldl_bits s.healthBits 0 0
  rw [hlen, ← List.range_eq_range', Nat.zero_add, Nat.pow_zero, Nat.one_mul] at hsum
  have hlt := bitsVal_lt s.healthBits
  rw [hlen] at hlt
  rw [State.healthWord, bit_wd (by omega), hsum,
    show bitsVal s.healthBits + s.badPaths * 2 ^ 16 + b2n (s.inPair && decide (s.pair.role = 1)) * 2 ^ 26
      = 2 ^ 16 * (s.badPaths + b2n (s.inPair && decide (s.pair.role = 1)) * 2 ^ 10) + bitsVal s.healthBits by ring,
    Nat.testBit_two_pow_mul_add _ (by omega), if_pos (by omega), testBit_bitsVal]

section
variable (s : State)

theorem setHealthOk_act (b : Bool) : RoleAct s (s.setHealthOk b) :=
  RoleAct.trans (u := s.setPair { s.pair with healthOk := b, okRun := 0 }) (.setPair rfl rfl) (pairEvent_act ..)

/-- One microsecond of the watches of Prale (R351). -/
def State.aged (s : State) : State := { s with prl := { s.prl with
  hbAge := s.prl.hbAge.map (· + 1), bootAge := if s.prl.hbAge.isNone && decide (4 < s.sys.stage) then s.prl.bootAge + 1 else s.prl.bootAge
  stageAge := s.prl.stageAge + 1
  aliveRun := if s.ready && s.aliveNow then s.prl.aliveRun + 1 else 0 } }

/-- The health of this microsecond, before the roles follow it. -/
def State.healthNoted (s : State) : State :=
  let w := s.healthWord
  let ok := s.healthHolds w
  let p := s.pair
  let s1 := s.setPair { p with
    health := w, healthRun := if ok then p.healthRun + 1 else 0, okRun := if p.healthOk then p.okRun + 1 else 0
    helloAge := if p.peer then p.helloAge + 1 else p.helloAge }
  if p.healthOk && !ok then s1.setHealthOk false else s1

theorem doHealthUpdate_eq : doHealthUpdate s = if s.aged.healthNoted.syncDone.roleStep.reclaimOk then s.aged.healthNoted.syncDone.roleStep
    else s.aged.healthNoted.syncDone.roleStep.setPair { s.aged.healthNoted.syncDone.roleStep.pair with reclaim := false } := rfl

theorem healthNoted_facts : s.healthNoted.pair.health = s.healthWord ∧ LogsOnly s s.healthNoted := by
  unfold State.healthNoted
  extract_lets w ok p s1
  split
  · have h := setHealthOk_act s1 false
    exact ⟨h.health, h.logs⟩
  · exact ⟨rfl, .refl⟩

theorem healthNoted_keeps : Keeps 0x102404 s s.healthNoted := by
  unfold State.healthNoted
  extract_lets w ok p s1
  have h1 : Keeps 0x102404 s s1 := (setPair_keeps s _).step .refl rfl
  exact .ite ((setHealthOk_keeps ..).step h1 rfl) h1

/-- The microsecond's update leaves the health word of the aged state and the watches as they went on. -/
theorem doHealthUpdate_act : (doHealthUpdate s).pair.health = s.aged.healthWord ∧ LogsOnly s.aged (doHealthUpdate s) := by
  obtain ⟨hh, hl⟩ := healthNoted_facts s.aged
  have hact : RoleAct s.aged.healthNoted (doHealthUpdate s) := by
    have h := (syncDone_act s.aged.healthNoted).trans (roleStep_act _)
    rw [doHealthUpdate_eq]
    refine .ite h (h.trans ?_)
    exact .setPair rfl rfl
  exact ⟨hact.health.trans hh, hl.trans hact.logs⟩

theorem doHealthUpdate_yk (hp : s.inPair = false) : (doHealthUpdate s).yk = s.yk := by
  have hk : Keeps 0x102404 s.aged s.aged.healthNoted.syncDone := (syncDone_keeps ..).step (healthNoted_keeps _) rfl
  have hin : s.aged.healthNoted.syncDone.inPair = false := by
    rw [State.inPair, (hk.frame .straps rfl).1]
    exact hp
  have hyk : s.aged.healthNoted.syncDone.yk = s.yk := hk.frame .yk rfl
  rw [doHealthUpdate_eq, roleStep_outside hin]
  split
  · exact hyk
  · exact hyk

end

section
variable {s : State}

/-- The HEALTH_OK that a healthy run asserts. -/
theorem doHealthOk_due (hok : s.pair.healthOk = false) (hrun : 1000 ≤ s.pair.healthRun) (hready : s.ready = true)
    (hsafe : s.flt.safe = false) : doHealthOk s = s.setHealthOk true := by
  simp [doHealthOk, hok, hrun, hready, hsafe]

/-- The state of a lost peer, before the roles follow it. -/
def State.peerGone (s : State) : State :=
  (s.setPair { s.pair with peer := false, dual := false, outs := [], peerOuts := [], snapSent := false }).pairEvent 6 []

theorem peerLost_eq (h : s.pair.peer = true) : s.peerLost = ((s.peerGone.loseSync 1).startIntake).roleStep := by
  unfold State.peerLost State.peerGone
  exact if_neg (by simp [h])

theorem effSel_of_not_sel (h : s.pair.sel = false) : s.effSel = false := by rw [State.effSel, h, Bool.false_and]

theorem effSel_of_not_dual (hsel : s.pair.sel = true) (hd : s.pair.dual = false) : s.effSel = true := by
  rw [State.effSel, hsel, hd]
  rfl

end

section
variable {s : State}

/-- The first mirror lane to come up starts the numbering anew. -/
theorem doMirrorLane_first (hp : s.inPair = true) (hon : s.modeOn = true) (hen : s.fb PAIR_CTRL.MIR_EN [] = true)
    (hlanes : s.pair.lanes = 0) (lane : Fin 2) : doMirrorLane lane true s =
      (s.icEdge 439).setPair { s.pair with lanes := 2 ^ lane.val, mtx := 0, tx := [], mrx := 0, held := [] } := by
  simp [doMirrorLane, hp, hon, hen, hlanes]

theorem doMirrorLane_down (hp : s.inPair = true) (lane : Nat) :
    (doMirrorLane lane false s).pair = { s.pair with lanes := s.pair.lanes &&& (3 - 2 ^ lane) }
    ∧ Keeps 0x100404 s (doMirrorLane lane false s) := by
  refine ⟨?_, doMirrorLane_keeps lane false s⟩
  unfold doMirrorLane
  rw [hp, if_neg (by simp)]
  extract_lets p n s1
  have hn : n = p.lanes &&& (3 - 2 ^ lane) := rfl
  rw [if_neg (by rintro ⟨h0, h1⟩; rw [hn, h0] at h1; simp at h1)]
  rfl

end

section
variable {s : State}

/-- A mirror time-out of the module that is not standby: the waits that are due end, and the announcements behind them go out. -/
theorem doMirrorTimeout_active {t : Nat} (hp : s.inPair = true) (hr : s.pair.role = 1) : ∃ w : State, doMirrorTimeout t s = (w.handOff false).roleStep
    ∧ w.pair = { s.pair with ackWait := s.pair.ackWait.filter fun x => decide ((s.passTo t).clr.now < x.2.2) }
    ∧ w.clr = (s.passTo t).clr ∧ w.sys = s.sys := by
  have hp1 : (s.passTo t).inPair = true := by rw [State.inPair, passTo_sys]; exact hp
  unfold doMirrorTimeout
  extract_lets s1 late _ s2 s3
  rw [if_neg (by rw [hp1]; decide), if_neg (by rw [passTo_pair, hr]; decide)]
  have h2 : s2.pair = { s.pair with ackWait := s.pair.ackWait.filter fun x => decide ((s.passTo t).clr.now < x.2.2) } := by
    show ({ s1.pair with ackWait := s1.pair.ackWait.filter fun x => decide (s1.clr.now < x.2.2) } : Pair) = _
    rw [show s1.pair = s.pair from passTo_pair s t]
  refine ⟨s3, rfl, ?_, ?_, ?_⟩
  · unfold s3
    split <;> exact h2
  · unfold s3
    split <;> rfl
  · unfold s3
    split <;> exact passTo_sys s t

end

section
variable {s u : State}

theorem effSel_congr (h1 : u.pair.sel = s.pair.sel) (h2 : u.pair.dual = s.pair.dual) (h3 : u.pair.conflict = s.pair.conflict)
    (h4 : u.sys.pref = s.sys.pref) : u.effSel = s.effSel := by
  rw [State.effSel, State.effSel, State.unit, State.unit, h1, h2, h3, h4]

end

section
variable {s : State}

/-- A module that yields, with its intake over. -/
def State.yielding (s : State) : State := s.setPair { s.pair with role := 3, intake := false }

/-- An active module without selection and with no work open ends as a standby. -/
theorem roleStep_yields (hp : s.inPair = true) (hready : s.ready = true) (hr : s.pair.role = 1) (hsel : s.pair.sel = false)
    (hack : s.pair.ackWait = []) (hcur : s.pth.cur = none) : s.roleStep = s.yielding.yielded := by
  have hyield : s.selYields = s.yielding := if_pos ⟨hr, effSel_of_not_sel hsel⟩
  have hends : s.yielding.yieldEnds = s.yielding.yielded := by
    refine if_pos ⟨rfl, ?_, hcur⟩
    show s.pair.ackWait.all _ = true
    rw [hack]
    rfl
  obtain ⟨hrole, hsel', -⟩ := yielded_facts (s := s.yielding) hp
  have hkeep : s.yielding.yielded.effSel = false := effSel_of_not_sel (hsel'.trans hsel)
  rw [roleStep_eq, hp, hready, hyield, hends, roleTaken_kept (by omega) (.inr hkeep)]
  rfl

/-- The level of ACTIVE_SEL as it is taken, before the roles follow it. -/
def State.selected (s : State) (sel : Bool) : State := (s.icEdge 417).setPair { s.pair with sel := sel, dual := s.pair.dual && sel }

theorem selected_keeps (s : State) (sel : Bool) : Keeps 0x100404 s (s.selected sel) :=
  (setPair_keeps ..).step ((icEdge_keeps s 417).step .refl rfl) rfl

theorem doActiveSel_facts (hp : s.inPair = true) (hready : s.ready = true) (sel : Bool) :
    (s.selected sel).pair = { s.pair with sel := sel, dual := s.pair.dual && sel } ∧ (s.selected sel).inPair = true
    ∧ (s.selected sel).ready = true ∧ (s.selected sel).pth = s.pth ∧ doActiveSel sel s = (s.selected sel).roleStep := by
  have hk := selected_keeps s sel
  refine ⟨rfl, ?_, ?_, hk.frame .pth rfl, ?_⟩
  · rw [State.inPair, (hk.frame .straps rfl).1]
    exact hp
  · rw [State.ready, hk.stage rfl]
    exact hready
  · rw [doActiveSel, hp]
    rfl

end

/-- The fields of PAIR_CTRL as a write leaves them. -/
def State.pairCtrl (s : State) (v : Word) : State :=
  (s.setF PAIR_CTRL.RECLAIM_HOLD [] (min 3600 (fget 16 16 v))).setF PAIR_CTRL.MIR_EN [] (fget 0 1 v)

theorem pairCtrl_hold (s : State) (v : Word) : (s.pairCtrl v).f PAIR_CTRL.RECLAIM_HOLD [] = min 3600 (fget 16 16 v) := by
  rw [State.pairCtrl, f_setF_beside (x := PAIR_CTRL.MIR_EN) (y := PAIR_CTRL.RECLAIM_HOLD) _ _ _ rfl (by decide) (by decide),
    f_setF_same s PAIR_CTRL.RECLAIM_HOLD _ _ (by decide)]
  exact Nat.mod_eq_of_lt (lt_of_le_of_lt (Nat.min_le_left ..) (by decide))

theorem pairCtrl_enable (s : State) (v : Word) : (s.pairCtrl v).f PAIR_CTRL.MIR_EN [] = fget 0 1 v := by
  rw [State.pairCtrl, f_setF_same _ PAIR_CTRL.MIR_EN _ _ (by decide)]
  exact Nat.mod_eq_of_lt (fget_lt 0 1 v)

/-- Settles O48. -/
theorem pairRoles : Obligations.PairRoles := by
  intro s lane t v
  have hpt (h : s.inPair = true) : (s.passTo t).inPair = true := by rw [State.inPair, passTo_sys]; exact h
  refine ⟨?_, fun hok hrun hready hsafe => ?_, fun hp hon hen hlanes => ?_, fun hp => ?_, fun hp hpeer hage => ?_, fun hp hr hs => ?_,
    fun hp hr hsel => ?_, fun hp hready hr hack hcur => ?_, fun hp hready hr hdual => ?_, fun hp hready hr hdual => ?_, fun hp => ?_,
    fun hok => ?_, fun hp ho hr hs h0 h1 => ?_⟩
  · obtain ⟨hh, b, n, hl⟩ := doHealthUpdate_act s
    have hk := doHealthUpdate_keeps s
    refine ⟨_, rfl, ?_, ?_, ?_, ?_, by rw [hl]; rfl, by rw [hl]; rfl, hk.frame .lanes rfl, doHealthUpdate_yk s⟩
    all_goals rw [hh, bit_healthWord _ (by decide)]
    · rfl
    · rfl
    · rfl
    · rfl
  · have hk := setHealthOk_keeps s true
    have hdo := doHealthOk_due hok hrun hready hsafe
    refine .of_eq rfl hdo ⟨?_, fun hp => ?_, hk.changesOnly rfl⟩
    · exact pairEvent_pair ..
    · exact pairEvent_told (s.setPair { s.pair with healthOk := true, okRun := 0 }) 13 _ hp ⟨rfl, rfl, by decide⟩ rfl
  · have hdo : doMirrorLane lane true s = ((s.icEdge 439).setPair { s.pair with lanes := 2 ^ lane.val, mtx := 0, tx := [], mrx := 0, held := [] }) :=
      doMirrorLane_first hp hon hen hlanes lane
    exact .of_eq rfl hdo ⟨rfl, ((setPair_keeps _ _).step (icEdge_keeps s 439 |>.step .refl rfl) rfl : Keeps 0x100404 _ _).changesOnly rfl⟩
  · obtain ⟨hpair, hk⟩ := doMirrorLane_down hp lane.val
    exact ⟨_, rfl, hpair, hk.changesOnly rfl⟩
  · have hk := peerLost_keeps s
    have hdo : doPeerLoss s = s.peerLost := by
      rw [doPeerLoss, hp, decide_eq_true hage]
      rfl
    have hgone : s.peerGone.pair = { s.pair with peer := false, dual := false, outs := [], peerOuts := [], snapSent := false } :=
      pairEvent_pair ..
    have hgonek : Keeps 0x102404 s s.peerGone := (pairEvent_keeps ..).step ((setPair_keeps s _).step .refl rfl) rfl
    have hgin : s.peerGone.inPair = true := by rw [State.inPair, (hgonek.frame .straps rfl).1]; exact hp
    have hgtold : s.peerGone.f PAIR_EVT.PEER_LOST [] = 1 := by
      refine pairEvent_told _ 6 _ ?_ ⟨rfl, rfl, by decide⟩ rfl
      exact hp
    have hact : RoleAct s.peerGone s.peerLost := by
      rw [peerLost_eq hpeer]
      exact ((loseSync_act ..).trans (startIntake_act _)).trans (roleStep_act _)
    refine .of_eq rfl hdo ⟨by rw [hact.peer, hgone], hact.told _ ⟨rfl, rfl, by decide⟩ hgtold, fun hr hs hsel => ?_, hk.frame .lanes rfl⟩
    have hgr : s.peerGone.pair.role = 2 := by rw [hgone, hr]
    obtain ⟨hrole, hsync⟩ := loseSync_pair (s := s.peerGone) 1
    have hend : s.peerLost = s.peerGone.loseSync 1 := by
      have hsel' : (s.peerGone.loseSync 1).pair.sel = false := by rw [(loseSync_kept 1).1, hgone, hsel]
      rw [peerLost_eq hpeer, startIntake_of_standby (hrole.trans hgr), roleStep_standby (hrole.trans hgr) (effSel_of_not_sel hsel')]
    rw [hend]
    exact ⟨hrole.trans hgr, hsync hgr (by rw [hgone, hs]; exact .inr (.inl rfl)), loseSync_told hgin hgr (by rw [hgone, hs]) 1,
      ((loseSync_keeps ..).frame .yk rfl).trans (hgonek.frame .yk rfl)⟩
  · have hdo : doMirrorTimeout t s = (s.passTo t).loseSync 2 := by
      rw [doMirrorTimeout, if_neg (by rw [hpt hp]; decide), if_pos (by rw [passTo_pair, hr])]
    have hk := loseSync_keeps (s.passTo t) 2
    obtain ⟨hrole, hsync⟩ := loseSync_pair (s := s.passTo t) 2
    rw [passTo_pair] at hrole hsync
    exact .of_eq rfl hdo ⟨hrole.trans hr, hsync hr (.inr (.inl hs)), loseSync_told (hpt hp) (by rw [passTo_pair, hr])
      (by rw [passTo_pair, hs]) 2, (hk.frame .pth rfl).trans (passTo_pth s t), (hk.frame .yk rfl).trans (passTo_yk s t)⟩
  · obtain ⟨w, hdo, hwpair, hwclr, hwsys⟩ := doMirrorTimeout_active (t := t) hp hr
    have hpair := handOff_pair w false
    have hrole : (w.handOff false).pair.role = 1 := by rw [hpair, hwpair, hr]
    have hpref : (w.handOff false).sys.pref = s.sys.pref := (((handOff_keeps false w).frame .straps rfl).2.1).trans (congrArg Sys.pref hwsys)
    have hwsel : (w.handOff false).effSel = true := by
      rw [← hsel]
      refine effSel_congr ?_ ?_ ?_ hpref
      all_goals rw [hpair, hwpair]
    rw [roleStep_active hrole hwsel] at hdo
    refine .of_eq rfl hdo ⟨hrole, by rw [hpair, hwpair], ?_⟩
    have hheld : w.annHeld false = fun z => (w.handOff false).pair.ackWait.any fun y => y.1 == z.1 && decide ((s.passTo t).clr.now < y.2.1) := by
      funext z
      rw [State.annHeld, hwclr, hpair]
      rfl
    rw [← hheld, hpair, hwpair]
  · obtain ⟨hpair, hin, hrdy, hpth, hdo⟩ := doActiveSel_facts hp hready false
    have hyield := roleStep_yields hin hrdy (by rw [hpair, hr]) (by rw [hpair]) (by rw [hpair, hack]) (by rw [hpth, hcur])
    have hypair : (s.selected false).yielding.pair = { s.pair with sel := false, dual := s.pair.dual && false, role := 3, intake := false } := rfl
    obtain ⟨h1, h2, h3, h4, h5, h6, h7, h8⟩ := yielded_facts (s := (s.selected false).yielding) hin
    have hup : (s.selected false).yielding.upToDate ↔ s.pair.hello.map (fun w => w.ptn.toNat) = some s.pair.ptn := Iff.rfl
    exact .of_eq rfl (hdo.trans hyield) ⟨h1, h2, h3, h4, h5.trans hpth, h6, fun hpeer h => h7 hpeer (hup.2 h), fun h => h8 fun hu => h (hup.1 hu)⟩
  · obtain ⟨hpair, hin, hrdy, hpth, hdo⟩ := doActiveSel_facts hp hready true
    have hsel : (s.selected true).effSel = true := effSel_of_not_dual (by rw [hpair]) (by rw [hpair, hdual]; rfl)
    rw [roleStep_starts hin hrdy (by rw [hpair, hr]) hsel] at hdo
    refine .of_eq rfl hdo ?_
    obtain ⟨b, hb⟩ := startIntake_pair (s := (s.selected true).setPair { (s.selected true).pair with
      role := 1, sync := 3, seq := ((s.selected true).pair.seq + 2 ^ 20) % 2 ^ 31 })
    rw [hb]
    refine ⟨rfl, rfl, congrArg Pair.sel hpair, ?_⟩
    show ((s.selected true).pair.seq + 2 ^ 20) % 2 ^ 31 = _
    rw [hpair]
  · obtain ⟨hpair, hin, hrdy, hpth, hdo⟩ := doActiveSel_facts hp hready true
    have hsel : (s.selected true).effSel = true := effSel_of_not_dual (by rw [hpair]) (by rw [hpair, hdual]; rfl)
    rw [roleStep_takes_over hin hrdy (by rw [hpair, hr]) hsel] at hdo
    obtain ⟨h1, h2, h3, h4⟩ := takeover_pair (s := s.selected true)
    rw [hpair] at h3
    exact .of_eq rfl hdo ⟨h1, h2, h3, takeover_told hin, h4.trans (congrArg Pth.conn hpth)⟩
  · refine .of_eq rfl ?_ rfl
    rw [doActiveSel, hp]
    rfl
  · refine .of_eq rfl (?_ : doReclaimHold s = s.setPair { s.pair with reclaim := true }) ⟨rfl, (setPair_keeps s _).changesOnly rfl⟩
    rw [doReclaimHold, if_pos hok]
  · have hdo : doPairCtrl v s = (s.pairCtrl v).loseSync 5 := by
      rw [doPairCtrl, hp, h0, h1]
      rfl
    have hshut : s.shut .PAIR_CTRL [] = false := by
      have hbase : Reg.PAIR_CTRL.row.base = 0xb0000 := rfl
      simp [shut_of_isOpen ho, State.modeOff, hp, hbase]
    have hexec : exec (.pairResync v) s = .next ((s.pairCtrl v).loseSync 5) :=
      (congrArg Host.Outcome.next (hostWr_of_not_shut hshut)).trans (congrArg Host.Outcome.next hdo)
    obtain ⟨hrole, hsync⟩ := loseSync_pair (s := s.pairCtrl v) 5
    have hkept : ∀ x : Fld, x.reg = .PAIR_CTRL → ((s.pairCtrl v).loseSync 5).f x [] = (s.pairCtrl v).f x [] := fun x hx =>
      f_of_otherRegs (loseSync_otherRegs (s.pairCtrl v) 5) ((loseSync_keeps ..).stage rfl) (by rw [hx]; decide)
    refine ⟨_, hexec, hsync hr (.inr (.inl hs)), hrole.trans hr, ?_, ?_, loseSync_told (s := s.pairCtrl v) hp hr hs 5, (loseSync_keeps ..).frame .pth rfl⟩
    · rw [hkept _ rfl, pairCtrl_hold]
    · rw [hkept _ rfl, pairCtrl_enable, (fget_bit 0 v).2 h0]

end Sys2Proof.Machine
end

section
/-! PROOF. The calibration engine's shared operations: set-points written back, ADCs held and let go, patterns staged, runs stopped. -/
namespace Sys2Proof.Machine

/-! ### Set-points written back (R476, R477) -/

/-- The set-point register of a key of a revert. -/
abbrev spIx (k : Nat) : List Nat := [k / 2 / 256, k / 2 % 256, k % 2]

theorem at_spIx_injective {k l : Nat} (h : Reg.SETPT.at (spIx k) = Reg.SETPT.at (spIx l)) : k = l := by
  rw [at_SETPT, at_SETPT] at h
  omega

theorem b2n_odd (k : Nat) : b2n (decide (k % 2 = 1)) = k % 2 := by
  rcases Nat.mod_two_eq_zero_or_one k with h | h <;> rw [h] <;> rfl

/-- One set-point written back. -/
def State.spWrite (s : State) (p : Nat × Word) : State := doSetptWrite (p.1 / 2) (decide (p.1 % 2 = 1)) p.2 s

theorem spBack_eq (s : State) (u : CalUndo) : s.spBack u = u.setpt.foldl State.spWrite s := rfl

theorem spWrite_regs (s : State) (p : Nat × Word) : (s.spWrite p).regs = (s.setReg .SETPT (spIx p.1) p.2).regs := by
  have h := (doSetptWrite_frame (p.1 / 2) (decide (p.1 % 2 = 1)) p.2 s).2
  rwa [b2n_odd] at h

theorem spWrite_keeps (s : State) (p : Nat × Word) : Keeps 0x14 s (s.spWrite p) := doSetptWrite_keeps ..

theorem spWrite_reg_ne (s : State) (p : Nat × Word) {r : Reg} {ix : List Nat} (h : Reg.SETPT.at (spIx p.1) ≠ r.at ix) :
    (s.spWrite p).reg r ix = s.reg r ix :=
  (reg_congr (s := s.setReg .SETPT (spIx p.1) p.2) (spWrite_regs s p) ((spWrite_keeps s p).stage rfl) r ix).trans (reg_setReg_ne _ _ h)

theorem spWrite_reg_same (s : State) (p : Nat × Word) : (s.spWrite p).reg .SETPT (spIx p.1) = p.2 :=
  (reg_congr (s := s.setReg .SETPT (spIx p.1) p.2) (spWrite_regs s p) ((spWrite_keeps s p).stage rfl) _ _).trans (reg_setReg_same ..)

theorem spWrite_lane_ne (s : State) (p : Nat × Word) {e : Nat} (h : p.1 / 2 ≠ e) : (s.spWrite p).lane e = s.lane e :=
  (doSetptWrite_frame (p.1 / 2) (decide (p.1 % 2 = 1)) p.2 s).1 e h.symm

theorem foldl_spWrite_reg_ne (l : List (Nat × Word)) (s : State) {k : Nat} (h : ∀ p ∈ l, p.1 ≠ k) :
    (l.foldl State.spWrite s).reg .SETPT (spIx k) = s.reg .SETPT (spIx k) :=
  foldl_rel (R := fun s u : State => u.reg .SETPT (spIx k) = s.reg .SETPT (spIx k)) (fun _ => rfl) (fun h k => k.trans h)
    (fun u p hp => spWrite_reg_ne u p fun e => h p hp (at_spIx_injective e)) s

/-- A key that occurs once: no entry behind it has it. -/
theorem split_of_unique_key {α : Type} {l : List (Nat × α)} {p : Nat × α} (h : l.filter (fun q => q.1 == p.1) = [p]) :
    ∃ l1 l2, l = l1 ++ p :: l2 ∧ ∀ q ∈ l2, q.1 ≠ p.1 := by
  obtain ⟨l1, l2, hl, -, -, h2⟩ := List.filter_eq_cons_iff.1 h
  exact ⟨l1, l2, hl, fun q hq hk => (List.filter_eq_nil_iff.1 h2) q hq (beq_iff_eq.2 hk)⟩

/-- A set-point that a revert lists once holds the word of the list. -/
theorem spBack_reg (s : State) {u : CalUndo} {p : Nat × Word} (h : u.setpt.filter (fun q => q.1 == p.1) = [p]) :
    (s.spBack u).reg .SETPT (spIx p.1) = p.2 := by
  obtain ⟨l1, l2, hl, h2⟩ := split_of_unique_key h
  rw [spBack_eq, hl, List.foldl_append, List.foldl_cons, foldl_spWrite_reg_ne l2 _ h2, spWrite_reg_same]

theorem spBack_otherRegs (s : State) (u : CalUndo) : otherRegs (u.setpt.map fun p => Reg.at .SETPT (spIx p.1)) s (s.spBack u) :=
  foldl_rel (R := otherRegs (u.setpt.map fun p => Reg.at .SETPT (spIx p.1))) (fun _ => .refl) .trans
    (fun x _ hp => .trans (.setReg (List.mem_map_of_mem hp)) (.of_regs (spWrite_regs x _))) s

theorem spBack_lane (s : State) {u : CalUndo} {e : Nat} (h : (u.setpt.any fun p => p.1 / 2 == e) = false) :
    (s.spBack u).lane e = s.lane e :=
  foldl_rel (R := fun s u : State => u.lane e = s.lane e) (fun _ => rfl) (fun h k => k.trans h)
    (fun x p hp => spWrite_lane_ne x p (by simpa using List.any_eq_false.1 h p hp)) s

/-- A write of the word that a set-point holds already changes of its lane the time of the last write alone. -/
theorem spWrite_same_lane {s : State} {p : Nat × Word} (h : s.reg .SETPT (spIx p.1) = p.2) (e : Nat) :
    (s.spWrite p).lane e = { s.lane e with spAt := ((s.spWrite p).lane e).spAt } := by
  by_cases he : p.1 / 2 = e
  · subst he
    have hsp : spCode (p.1 / 2) (fget 16 16 p.2) - s.sp (p.1 / 2) (decide (p.1 % 2 = 1)) = 0 := by
      rw [State.sp, State.f, b2n_odd, ← h]
      exact Int.sub_self _
    simp only [State.spWrite, doSetptWrite_lane, hsp]
    split_ifs
    · simp
    · rfl
  · rw [spWrite_lane_ne s p he]

/-! ### ADCs held and let go (R472 to R474) -/

theorem calHoldAdc_frame (s : State) (c a : Nat) : Keeps 0x4014 s (s.calHoldAdc c a) :=
  foldl_rel (R := Keeps 0x4014) (fun _ => .refl) .trans (fun _ _ _ => calHold_turn.keeps) s

theorem refSelect_frame (c a : Nat) (v : Word) (s : State) : Keeps 0x4034 s (s.refSelect c v a) := by
  by_cases h : s.refChanges c v a
  · rw [refSelect_changed h]
    exact (calHoldAdc_frame ..).step ((setCl_keeps ..).step ((setReg_keeps ..).step .refl rfl) rfl) rfl
  · rw [refSelect_kept h]
    exact .refl

theorem refSelect_lane {c a e : Nat} (ha : a < 8) (he : ¬ onAdc c a e) (v : Word) (s : State) :
    (s.refSelect c v a).lane e = s.lane e := by
  by_cases h : s.refChanges c v a
  · rw [refSelect_changed h]
    exact (calHoldAdc_beside ha he _).lane
  · rw [refSelect_kept h]

/-- The ADC of a key. -/
abbrev onKey (k e : Nat) : Prop := onAdc (k / 8) (k % 8) e

theorem calTake_lane (s : State) {keys : List Nat} {e : Nat} (h : ∀ k ∈ keys, ¬ onKey k e) : (s.calTake keys).lane e = s.lane e :=
  foldl_rel (R := fun s u : State => u.lane e = s.lane e) (f := fun (s : State) (k : Nat) => s.calHoldAdc (k / 8) (k % 8))
    (fun _ => rfl) (fun h k => k.trans h) (fun u k hk => (calHoldAdc_beside (Nat.mod_lt _ (by decide)) (h k hk) u).lane) _

/-- Behind the note of the ADCs taken, only lanes, their registers and capture rings change. -/
theorem calTake_frame (s : State) (keys : List Nat) : Keeps 0x4014 (s.setCal { s.cal with busyAdc := keys }) (s.calTake keys) :=
  foldl_rel (R := Keeps 0x4014) (fun _ => .refl) .trans (fun u k _ => calHoldAdc_frame u (k / 8) (k % 8)) _

theorem calTake_cal (s : State) (keys : List Nat) : (s.calTake keys).cal = { s.cal with busyAdc := keys } :=
  (calTake_frame s keys).frame .cal rfl

theorem calTake_kept (s : State) (keys : List Nat) : Keeps 0x84014 s (s.calTake keys) :=
  (calTake_frame s keys).step ((setCal_keeps ..).step .refl rfl) rfl

/-- The references of a step come back. -/
def State.refsBack (s : State) (l : List (Nat × Nat)) : State :=
  l.foldl (fun (s : State) (p : Nat × Nat) => State.refSelect (p.1 / 8) (wd (p.2 * 4 ^ (p.1 % 8))) s (p.1 % 8)) s

/-- The range modes of a step come back. -/
def State.rmodesBack (s : State) (l : List (Nat × Nat)) : State :=
  l.foldl (fun (s : State) (p : Nat × Nat) => s.setF CNV_RANGE.RMODE [p.1] p.2) s

/-- The calibration engine between two steps. -/
def Cal.unheld (k : Cal) : Cal := { k with refs := [], rmodes := [], busyAdc := [], again := [], zero := [] }

theorem calUnhold_eq (s : State) : s.calUnhold = ((s.refsBack s.cal.refs).rmodesBack s.cal.rmodes).setCal s.cal.unheld := rfl

theorem calUnhold_cal (s : State) : s.calUnhold.cal = s.cal.unheld := rfl

theorem refsBack_frame (s : State) (l : List (Nat × Nat)) : Keeps 0x4034 s (s.refsBack l) :=
  foldl_rel (R := Keeps 0x4034) (fun _ => .refl) .trans (fun u p _ => refSelect_frame (p.1 / 8) (p.1 % 8) _ u) s

theorem rmodesBack_frame (s : State) (l : List (Nat × Nat)) : Keeps 0x4 s (s.rmodesBack l) :=
  foldl_rel (R := Keeps 0x4) (fun _ => .refl) .trans (fun u _ _ => setF_keeps u ..) s

theorem calUnhold_frame (s : State) : Keeps 0x84034 s s.calUnhold :=
  (setCal_keeps ..).step ((rmodesBack_frame ..).step ((refsBack_frame ..).step .refl rfl) rfl) rfl

theorem calUnhold_lane {s : State} {e : Nat} (h : ∀ p ∈ s.cal.refs, ¬ onKey p.1 e) : s.calUnhold.lane e = s.lane e := by
  have hrefs : (s.refsBack s.cal.refs).lane e = s.lane e :=
    foldl_rel (R := fun s u : State => u.lane e = s.lane e) (fun _ => rfl) (fun h k => k.trans h)
      (fun u p hp => refSelect_lane (Nat.mod_lt _ (by decide)) (h p hp) _ u) s
  exact ((rmodesBack_frame (s.refsBack s.cal.refs) s.cal.rmodes).lane rfl e).trans hrefs

theorem calUnhold_lanes {s : State} (h : s.cal.refs = []) : s.calUnhold.lanes = s.lanes := by
  rw [calUnhold_eq, h]
  exact (rmodesBack_frame s s.cal.rmodes).frame .lanes rfl

/-! ### Patterns of a stage (R204, R468) -/

/-- A pattern was staged as stage n: one more entry of the store, and the engine waits for it. -/
structure CalStaged (n : Nat) (s u : State) : Prop where
  cal : u.cal = { s.cal with stage := n, fired := false, next := u.cal.next, undo := u.cal.undo }
  store : ∃ q, u.yk.store = s.yk.store ++ [q]
  kept : Keeps 0x280100 s u

/-- The engine waits for the pattern of stage n. -/
def Cal.awaits (k : Cal) (n : Nat) (routes : List Rt) : Cal :=
  { k with stage := n, fired := false, next := routes.map fun r => (r.a, r.b, r.m) }

theorem calStage_taken {s u : State} {lanes : List LaneSet} (h : s.calPat lanes = some u) (n : Nat) (routes : List Rt) :
    s.calStage n routes lanes = u.setCal (u.cal.awaits n routes) := by
  unfold State.calStage
  rw [h]
  rfl

theorem calStage_full {s : State} {lanes : List LaneSet} (h : s.calPat lanes = none) (n : Nat) (routes : List Rt) :
    s.calStage n routes lanes = (State.schedEvent s (s.raise YK_EVT.STORE_FULL [])).calStop 4 0 := by
  unfold State.calStage
  rw [h]

theorem calPat_of_free {s : State} (h : s.freeNums ≠ []) (lanes : List LaneSet) :
    ∃ u q, s.calPat lanes = some u ∧ u.yk.store = s.yk.store ++ [q] ∧ Keeps 0x200100 s u := by
  unfold State.calPat
  obtain ⟨num, q, u, hu, hstore, -, -⟩ :=
    newPat_of_free h .calib .staged lanes (s.boundary (max (s.clr.now + s.leadNs) (s.afterDue 0))) s.leadNs false 0
  exact ⟨u, q, by rw [hu]; rfl, hstore, newPat_keeps s _ _ _ _ _ _ _ _ hu⟩

theorem calPat_of_full {s : State} (h : s.freeNums = []) (lanes : List LaneSet) : s.calPat lanes = none := by
  unfold State.calPat State.newPat
  extract_lets l
  rw [if_pos (by rw [show l = [] from h]; rfl)]
  rfl

theorem calStage_staged {s : State} (h : s.freeNums ≠ []) (n : Nat) (routes : List Rt) (lanes : List LaneSet) :
    CalStaged n s (s.calStage n routes lanes) := by
  obtain ⟨u, q, hu, hstore, hk⟩ := calPat_of_free h lanes
  have hcal : u.cal = s.cal := hk.frame .cal rfl
  rw [calStage_taken hu]
  refine ⟨?_, ⟨q, hstore⟩, (setCal_keeps ..).step (hk.step .refl rfl) rfl⟩
  rw [← hcal]
  rfl

theorem calLayer_staged {s : State} (h : s.freeNums ≠ []) (n : Nat) (cross : Bool) : CalStaged n s (s.calLayer n cross) := by
  unfold State.calLayer
  extract_lets rts gone s1
  have h1 := calStage_staged (s := s1) h n rts (gone.flatMap closeIn ++ rts.flatMap fun r => routeLanes r.a ⟨r.b, r.m⟩ ++ probeIn r.a)
  exact ⟨h1.cal, h1.store, h1.kept.step ((calKeep_keeps ..).step .refl rfl) rfl⟩

theorem CalStaged.length {n : Nat} {s u : State} (h : CalStaged n s u) : u.yk.store.length = s.yk.store.length + 1 := by
  obtain ⟨q, hq⟩ := h.store
  rw [hq, List.length_append, List.length_singleton]

/-! ### The end of a run without being stored (R476) -/

/-- The calibration engine behind a run that reverted. -/
def Cal.stopped (k : Cal) (result cause : Nat) : Cal :=
  { k.unheld with
    consts := k.undo.consts, busy := false, result := result, cause := cause, stage := 0, fired := false, routes := [], mean := none
    back := (k.undo.setpt.map fun p => p.1 / 2).eraseDups.filter k.lanes.contains
    next := [], lanes := [], seen := [], todo := [] }

/-- The lanes and registers of a revert: the step's holds end and the set-points come back. -/
def State.calRevert (s : State) (result cause : Nat) : State := (s.calUnhold.setCal (s.cal.stopped result cause)).spBack s.cal.undo

/-- A revert ends: of the set-points, lanes and registers nothing changes. -/
theorem calStop_kept {s : State} (h : s.cal.busy = true) (result cause : Nat) :
    Keeps 0x200100 (s.calRevert result cause) (s.calStop result cause) := by
  unfold State.calStop
  rw [if_neg (by simp [h])]
  extract_lets s1 k s2 _ s3
  have h3 : Keeps 0x200100 s2 s3 := Keeps.upd .refl
  exact .ite h3 (h3.trans (calRelease_keeps s3))

theorem calRevert_cal (s : State) (result cause : Nat) : (s.calRevert result cause).cal = s.cal.stopped result cause :=
  (spBack_keeps ..).frame .cal rfl

theorem calStop_cal {s : State} (h : s.cal.busy = true) (result cause : Nat) :
    (s.calStop result cause).cal = s.cal.stopped result cause :=
  ((calStop_kept h result cause).frame .cal rfl).trans (calRevert_cal ..)

theorem calStop_setpt {s : State} (h : s.cal.busy = true) (result cause : Nat) {p : Nat × Word}
    (hp : s.cal.undo.setpt.filter (fun q => q.1 == p.1) = [p]) : (s.calStop result cause).reg .SETPT (spIx p.1) = p.2 :=
  ((calStop_kept h result cause).reg rfl rfl ..).trans (spBack_reg _ hp)

theorem calStop_lane {s : State} (h : s.cal.busy = true) (result cause : Nat) (hu : s.cal.undo.setpt = []) (e : Nat) :
    (s.calStop result cause).lane e = s.calUnhold.lane e := by
  rw [(calStop_kept h result cause).lane rfl, State.calRevert, spBack_eq, hu]
  rfl

theorem calStop_lanes {s : State} (h : s.cal.busy = true) (result cause : Nat) (hr : s.cal.refs = []) (hu : s.cal.undo.setpt = []) :
    (s.calStop result cause).lanes = s.lanes := by
  rw [(calStop_kept h result cause).frame .lanes rfl, State.calRevert, spBack_eq, hu]
  exact calUnhold_lanes hr

end Sys2Proof.Machine
end

section
/-! PROOF. How calibration runs begin and end by command, and O59. -/
namespace Sys2Proof.Machine

/-! ### The command register (R463, R476, R479) -/

theorem hostWr_CAL_CMD {s : State} (h : s.inReset = false) (f : State → State) : s.hostWr .CAL_CMD [] f = f s := by
  have hmode : s.modeOff .CAL_CMD = false := modeOff_of_base s (.inl (by decide))
  have hearly : earlyAt (Reg.CAL_CMD.at []) = true := by decide
  exact hostWr_of_not_shut (by simp [State.shut, h, hmode, hearly])

section
variable {s : State} (h : s.inReset = false) (t : Nat)
include h

theorem exec_trimCheck : exec (.trimCheck t) s = .next (doCalCmd 1 t s) := congrArg Host.Outcome.next (hostWr_CAL_CMD h _)
theorem exec_trim : exec (.trim t) s = .next (doCalCmd 2 t s) := congrArg Host.Outcome.next (hostWr_CAL_CMD h _)
theorem exec_probeLearn : exec (.probeLearn t) s = .next (doCalCmd 3 t s) := congrArg Host.Outcome.next (hostWr_CAL_CMD h _)
theorem exec_calElec : exec (.calElec t) s = .next (doCalCmd 4 t s) := congrArg Host.Outcome.next (hostWr_CAL_CMD h _)
theorem exec_calOpt : exec (.calOpt t) s = .next (doCalCmd 5 t s) := congrArg Host.Outcome.next (hostWr_CAL_CMD h _)
theorem exec_restore : exec (.restore t) s = .next (doCalCmd 6 t s) := congrArg Host.Outcome.next (hostWr_CAL_CMD h _)
theorem exec_abort : exec (.abort t) s = .next (doCalCmd 15 t s) := congrArg Host.Outcome.next (hostWr_CAL_CMD h _)

end

@[simp] theorem passTo_calCause (s : State) (t op : Nat) : (s.passTo t).calCause op = s.calCause op :=
  passTo_congr s t (·.calCause op) fun _ => rfl

section
variable {s : State} {op : Nat} (t : Nat) (h1 : 1 ≤ op) (h6 : op ≤ 6)
include h1 h6

theorem doCalCmd_busy (hb : s.cal.busy = true) : doCalCmd op t s = (s.passTo t).raise CAL_STATUS.CMD_REJ [] := by
  unfold doCalCmd
  extract_lets s0
  rw [if_neg (by omega), if_neg (by omega), if_pos (by simpa [s0] using hb)]

/-- A command against which there is a cause. -/
def State.calRefused (s : State) (op : Nat) : State :=
  s.setCal { s.cal with op := op, result := 3, cause := s.calCause op, doneC := 0 }

theorem doCalCmd_refused (hb : s.cal.busy = false) (hc : s.calCause op ≠ 0) : doCalCmd op t s = (s.passTo t).calRefused op := by
  have hc' : (s.passTo t).calCause op ≠ 0 := by rwa [passTo_calCause]
  unfold doCalCmd
  extract_lets s0 c
  rw [if_neg (by omega), if_neg (by omega), if_neg (by simp [s0, hb]), if_pos hc']
  rfl

/-- What a command against which there is no cause begins. -/
def State.calGo (s : State) (op : Nat) : State :=
  match op with
  | 3 => (s.calBegin op).calLayer 1 false
  | 4 => (s.calBegin op).elecHold
  | 5 => (s.calBegin op).optHold
  | 6 => s.calRestore
  | _ => (s.calBegin op).calLayer 4 false

theorem doCalCmd_taken (hb : s.cal.busy = false) (hc : s.calCause op = 0) : doCalCmd op t s = (s.passTo t).calGo op := by
  have hc' : (s.passTo t).calCause op = 0 := by rwa [passTo_calCause]
  unfold doCalCmd
  extract_lets s0 c
  rw [if_neg (by omega), if_neg (by omega), if_neg (by simp [s0, hb]), if_neg (not_not_intro hc')]
  rfl

end

theorem doCalCmd_abort (s : State) (t : Nat) : doCalCmd 15 t s = (s.passTo t).calStop 2 7 := rfl

theorem calGo_trimCheck (s : State) : s.calGo 1 = (s.calBegin 1).calLayer 4 false := rfl
theorem calGo_trim (s : State) : s.calGo 2 = (s.calBegin 2).calLayer 4 false := rfl
theorem calGo_learn (s : State) : s.calGo 3 = (s.calBegin 3).calLayer 1 false := rfl
theorem calGo_elec (s : State) : s.calGo 4 = (s.calBegin 4).elecHold := rfl
theorem calGo_opt (s : State) : s.calGo 5 = (s.calBegin 5).optHold := rfl
theorem calGo_restore (s : State) : s.calGo 6 = s.calRestore := rfl

/-! ### Refusals (R476, R479) -/

theorem calRefused_ends (s : State) (op t : Nat) : ((s.passTo t).calRefused op).cal
      = { s.cal with op := op, result := 3, cause := s.calCause op, doneC := 0 }
    ∧ changesOnly [.clr, .cal] s ((s.passTo t).calRefused op) := by
  refine ⟨?_, Keeps.changesOnly (n := 0x80080) ((setCal_keeps ..).step ((passTo_keeps ..).step .refl rfl) rfl) rfl⟩
  rw [← passTo_calCause s t op, ← passTo_cal s t]
  rfl

theorem cmdRej_raised (s : State) (t : Nat) : ((s.passTo t).raise CAL_STATUS.CMD_REJ []).f CAL_STATUS.CMD_REJ [] = 1
    ∧ otherRegs [Reg.CAL_STATUS.at []] s ((s.passTo t).raise CAL_STATUS.CMD_REJ [])
    ∧ changesOnly [.regs, .clr] s ((s.passTo t).raise CAL_STATUS.CMD_REJ []) := by
  rw [raise_of_no_source _ _ rfl]
  exact ⟨f_setF_same _ _ _ _ (by decide), (passTo_otherRegs s t _).trans (.setF (.head _)),
    Keeps.changesOnly (n := 0x84) ((setF_keeps ..).step ((passTo_keeps ..).step .refl rfl) rfl) rfl⟩

theorem runs_refused {s : State} (hr : s.inReset = false) (hb : s.cal.busy = true) (t : Nat) :
    ∀ c ∈ [Instr.trimCheck t, .trim t, .probeLearn t, .calElec t, .calOpt t, .restore t], Runs c s fun u =>
      u.f CAL_STATUS.CMD_REJ [] = 1 ∧ otherRegs [Reg.CAL_STATUS.at []] s u ∧ changesOnly [.regs, .clr] s u := by
  simp only [List.mem_cons, List.not_mem_nil, or_false, forall_eq_or_imp, forall_eq]
  exact ⟨.of_eq (exec_trimCheck hr t) (doCalCmd_busy t (by decide) (by decide) hb) (cmdRej_raised s t),
    .of_eq (exec_trim hr t) (doCalCmd_busy t (by decide) (by decide) hb) (cmdRej_raised s t),
    .of_eq (exec_probeLearn hr t) (doCalCmd_busy t (by decide) (by decide) hb) (cmdRej_raised s t),
    .of_eq (exec_calElec hr t) (doCalCmd_busy t (by decide) (by decide) hb) (cmdRej_raised s t),
    .of_eq (exec_calOpt hr t) (doCalCmd_busy t (by decide) (by decide) hb) (cmdRej_raised s t),
    .of_eq (exec_restore hr t) (doCalCmd_busy t (by decide) (by decide) hb) (cmdRej_raised s t)⟩

/-! ### Runs of patterns begin (R466, R468) -/

/-- A run of kind op has begun with one pattern staged as stage n. -/
def LayerBegun (op n : Nat) (s u : State) : Prop := u.cal.busy = true ∧ u.cal.op = op ∧ u.cal.result = 0 ∧ u.cal.stage = n
  ∧ u.cal.fired = false ∧ u.yk.store.length = s.yk.store.length + 1 ∧ u.lanes = s.lanes

theorem layerBegun {s : State} (h : s.freeNums ≠ []) (op n t : Nat) :
    LayerBegun op n s (((s.passTo t).calBegin op).calLayer n false) := by
  have hst : CalStaged n ((s.passTo t).calBegin op) (((s.passTo t).calBegin op).calLayer n false) :=
    calLayer_staged (by rwa [show ((s.passTo t).calBegin op).freeNums = (s.passTo t).freeNums from rfl, passTo_freeNums]) n false
  have hlen : ((s.passTo t).calBegin op).yk = s.yk := passTo_yk s t
  have hlanes : ((s.passTo t).calBegin op).lanes = s.lanes := passTo_lanes s t
  refine ⟨?_, ?_, ?_, ?_, ?_, by rw [hst.length, hlen], (hst.kept.frame .lanes rfl).trans hlanes⟩ <;> rw [hst.cal] <;> rfl

/-! ### PROBE_LEARN without a free entry (R204) -/

/-- The lane holds what it held but the time of its last set-point write. -/
abbrev SpAtOnly (s u : State) : Prop := ∀ e, u.lane e = { s.lane e with spAt := (u.lane e).spAt }

theorem SpAtOnly.trans {s u v : State} (h : SpAtOnly s u) (k : SpAtOnly u v) : SpAtOnly s v := fun e => by rw [k e, h e]

/-- Set-points written back that hold their words already. -/
theorem foldl_spWrite_same (l : List (Nat × Word)) {s : State} (h : ∀ p ∈ l, s.reg .SETPT (spIx p.1) = p.2) :
    SpAtOnly s (l.foldl State.spWrite s) := by
  induction l generalizing s with
  | nil => exact fun _ => rfl
  | cons p l ih =>
    have hp := h p (.head _)
    refine SpAtOnly.trans (spWrite_same_lane hp) (ih fun q hq => ?_)
    by_cases hk : q.1 = p.1
    · rw [hk, spWrite_reg_same, ← hp, ← hk, h q (.tail _ hq)]
    · rw [spWrite_reg_ne s p fun e => hk (at_spIx_injective e).symm, h q (.tail _ hq)]

/-- The set-points remembered are those that the registers hold. -/
theorem calKeep_setpt (s : State) (l : List Nat) (h0 : s.cal.undo.setpt = []) :
    ∀ p ∈ (s.calKeep l).cal.undo.setpt, s.reg .SETPT (spIx p.1) = p.2 := by
  intro p hp
  have hp' : p ∈ s.cal.undo.setpt ++ ((l.flatMap fun e => [2 * e, 2 * e + 1]).filter fun k =>
      !(s.cal.undo.setpt.any fun p => p.1 == k)).map fun k => (k, s.reg .SETPT [k / 512, k / 2 % 256, k % 2]) := hp
  rw [h0, List.nil_append] at hp'
  obtain ⟨k, -, rfl⟩ := List.mem_map.1 hp'
  rw [spIx, Nat.div_div_eq_div_mul]

/-- Behind the holds of a step, a register outside CNV_REF, CNV_RANGE and what lanes write is as before. -/
theorem calUnhold_setpt (s : State) (hr : s.cal.refs = []) (k : Nat) :
    s.calUnhold.reg .SETPT (spIx k) = s.reg .SETPT (spIx k) := by
  rw [calUnhold_eq, hr]
  refine foldl_rel (R := fun s u : State => u.reg .SETPT (spIx k) = s.reg .SETPT (spIx k))
    (f := fun (s : State) (p : Nat × Nat) => s.setF CNV_RANGE.RMODE [p.1] p.2) (fun _ => rfl) (fun h k => k.trans h)
    (fun u p _ => reg_setReg_ne _ _ ?_) s
  rw [at_SETPT]
  simp only [Reg.at, Reg.row, dimOff, CNV_RANGE.RMODE]
  omega

/-- The event of a full store is noted in YK_EVT and in its interrupt source. -/
theorem raise_STORE_FULL_setpt (s : State) (k : Nat) :
    (s.raise YK_EVT.STORE_FULL []).reg .SETPT (spIx k) = s.reg .SETPT (spIx k) := by
  have hother : otherRegs [Reg.YK_EVT.at [], Reg.IC_SRC.at [435]] s (s.raise YK_EVT.STORE_FULL []) :=
    .trans (.setF (.head _)) (.icEdge (.tail _ (.head _)))
  refine reg_of_otherRegs hother ((raise_keeps ..).stage rfl) ?_
  rw [at_SETPT, at_IC_SRC, show Reg.YK_EVT.at [] = 0x20010 from rfl]
  simp only [List.mem_cons, List.not_mem_nil, or_false]
  omega

/-- The run fails: the store is full. -/
theorem learnFails {s : State} (hb : s.cal.busy = true) (hr : s.cal.refs = [])
    (hp : ∀ p ∈ s.cal.undo.setpt, s.reg .SETPT (spIx p.1) = p.2) :
    ((State.schedEvent s (s.raise YK_EVT.STORE_FULL [])).calStop 4 0).cal = s.cal.stopped 4 0
    ∧ ((State.schedEvent s (s.raise YK_EVT.STORE_FULL [])).calStop 4 0).f YK_EVT.STORE_FULL [] = 1
    ∧ SpAtOnly s ((State.schedEvent s (s.raise YK_EVT.STORE_FULL [])).calStop 4 0) := by
  have hev := schedEvent_keeps s (s.raise YK_EVT.STORE_FULL [])
  have hrs := raise_keeps s YK_EVT.STORE_FULL []
  have hfull : (State.schedEvent s (s.raise YK_EVT.STORE_FULL [])).f YK_EVT.STORE_FULL [] = 1 :=
    (hev.f rfl rfl ..).trans (raise_f_same s (by decide) (by decide))
  have hcal : (State.schedEvent s (s.raise YK_EVT.STORE_FULL [])).cal = s.cal := (hev.frame .cal rfl).trans (hrs.frame .cal rfl)
  have hlane : ∀ e, (State.schedEvent s (s.raise YK_EVT.STORE_FULL [])).lane e = s.lane e :=
    fun e => (hev.lane rfl e).trans (hrs.lane rfl e)
  have hsetpt : ∀ k, (State.schedEvent s (s.raise YK_EVT.STORE_FULL [])).reg .SETPT (spIx k) = s.reg .SETPT (spIx k) := fun k =>
    (hev.reg rfl rfl ..).trans (raise_STORE_FULL_setpt s k)
  generalize State.schedEvent s (s.raise YK_EVT.STORE_FULL []) = v at hfull hcal hlane hsetpt ⊢
  rw [← hcal] at hb hr hp ⊢
  have hkept := calStop_kept hb 4 0
  refine ⟨calStop_cal hb 4 0, ?_, fun e => ?_⟩
  · have hturn : Turned v (v.calRevert 4 0) := ((calUnhold_turned v).trans (.of_keeps (setCal_keeps ..) rfl rfl rfl)).trans
      (.foldl (fun u p => doSetptWrite_turned u ..) _ _)
    have hstage : (v.calRevert 4 0).sys.stage = v.sys.stage :=
      ((spBack_keeps ..).stage rfl).trans ((calUnhold_keeps v).stage rfl)
    exact (hkept.f rfl rfl ..).trans ((f_of_reg (hturn.reg hstage (by decide))).trans hfull)
  · have hback : SpAtOnly v (v.calRevert 4 0) := by
      have h0 : SpAtOnly v (v.calUnhold.setCal (v.cal.stopped 4 0)) := fun e => by
        rw [show (v.calUnhold.setCal (v.cal.stopped 4 0)).lane e = v.lane e from
          congrArg (sget Lane.reset · e) (calUnhold_lanes hr)]
      refine h0.trans (foldl_spWrite_same _ fun p hm => ?_)
      exact (calUnhold_setpt v hr p.1).trans ((hsetpt p.1).trans (hp p hm))
    rw [hkept.lane rfl, hback e, hlane]

theorem runs_probeLearn_full {s : State} (hr : s.inReset = false) (hb : s.cal.busy = false) (hn : s.freeNums = []) (href : s.cal.refs = [])
    (hc : s.calCause 3 = 0) (t : Nat) : Runs (.probeLearn t) s fun u => u.cal.busy = false ∧ u.cal.result = 4
      ∧ u.f YK_EVT.STORE_FULL [] = 1 ∧ ∀ e, e < 36864 → u.lane e = { s.lane e with spAt := (u.lane e).spAt } := by
  refine .of_eq (exec_probeLearn hr t) ((doCalCmd_taken t (by decide) (by decide) hb hc).trans (calGo_learn _)) ?_
  unfold State.calLayer
  extract_lets rts gone s1
  clear_value rts gone
  have hfree : s1.freeNums = [] := (passTo_freeNums s t).trans hn
  have hrefs : s1.cal.refs = [] := by
    show (s.passTo t).cal.refs = []
    rw [passTo_cal]
    exact href
  have hkeys : ∀ p ∈ s1.cal.undo.setpt, s1.reg .SETPT (spIx p.1) = p.2 := calKeep_setpt ((s.passTo t).calBegin 3) _ rfl
  rw [calStage_full (calPat_of_full hfree _)]
  obtain ⟨hcal, hfull, hlane⟩ := learnFails (s := s1) rfl hrefs hkeys
  have hlanes : ∀ e, s1.lane e = s.lane e := passTo_lane s t
  exact ⟨by rw [hcal]; rfl, by rw [hcal]; rfl, hfull, fun e _ => (hlane e).trans (by rw [hlanes])⟩

/-! ### CAL_ELEC (R472, R473) -/

/-- The references of an ADC step in the clusters in scope are selected. -/
def State.vrefExt (s : State) (a : Nat) (keys : List Nat) : State :=
  keys.foldl (fun (s : State) k => State.refSelect (k / 8) (wd (4 ^ a)) s a) s

/-- The ADCs of a step, one in every cluster in scope. -/
def State.stepKeys (s : State) : List Nat := s.scopeCl.map fun c => 8 * c + s.cal.step

/-- The engine with the references noted that the step found. -/
def State.refsNoted (s : State) : State :=
  s.setCal { s.cal with refs := s.stepKeys.map fun k => (k, s.refSel (k / 8) s.cal.step) }

theorem elecHold_eq (s : State) : s.elecHold = (s.refsNoted.calTake s.stepKeys).vrefExt s.cal.step s.stepKeys := rfl

theorem vrefExt_frame (s : State) (a : Nat) (keys : List Nat) : Keeps 0x4034 s (s.vrefExt a keys) :=
  foldl_rel (R := Keeps 0x4034) (fun _ => .refl) .trans (fun u k _ => refSelect_frame (k / 8) a _ u) s

theorem elecHold_cal (s : State) : s.elecHold.cal = { s.refsNoted.cal with busyAdc := s.stepKeys } := by
  rw [elecHold_eq]
  exact ((vrefExt_frame ..).frame .cal rfl).trans (calTake_cal ..)

theorem elecHold_frame (s : State) : Keeps 0x84034 s s.elecHold := by
  rw [elecHold_eq]
  exact (vrefExt_frame ..).step ((calTake_kept ..).step ((setCal_keeps ..).step .refl rfl) rfl) rfl

/-- Of the lanes, only those of the ADCs in step are held. -/
theorem elecHold_lane {s : State} (ha : s.cal.step < 8) {e : Nat} (he : ∀ c ∈ s.scopeCl, ¬ onAdc c s.cal.step e) :
    s.elecHold.lane e = s.lane e := by
  have hkey : ∀ k ∈ s.stepKeys, k % 8 = s.cal.step ∧ ¬ onAdc (k / 8) s.cal.step e := by
    intro k hk
    obtain ⟨c, hc, rfl⟩ := List.mem_map.1 hk
    have hdiv : (8 * c + s.cal.step) / 8 = c := by omega
    exact ⟨by omega, by rw [hdiv]; exact he c hc⟩
  rw [elecHold_eq]
  have hsel : ((s.refsNoted.calTake s.stepKeys).vrefExt s.cal.step s.stepKeys).lane e = (s.refsNoted.calTake s.stepKeys).lane e :=
    foldl_rel (R := fun s u : State => u.lane e = s.lane e)
      (f := fun (u : State) k => State.refSelect (k / 8) (wd (4 ^ s.cal.step)) u s.cal.step) (fun _ => rfl) (fun h k => k.trans h)
      (fun u k hk => refSelect_lane ha (hkey k hk).2 _ u) _
  refine hsel.trans (calTake_lane _ fun k hk => ?_)
  obtain ⟨hmod, hoff⟩ := hkey k hk
  rwa [onKey, hmod]

theorem mem_scopeCl {s : State} {c : Nat} : c ∈ s.scopeCl ↔ c < 144 ∧ s.inScope c = true := by
  simp [State.scopeCl]

/-- The scope of a run that has begun is that of CAL_SCOPE. -/
theorem calBegin_scopeCl (s : State) (op t : Nat) : ((s.passTo t).calBegin op).scopeCl
    = (List.range 144).filter fun c => decide (s.f CAL_SCOPE.FIRST_C [] ≤ c) && decide (c ≤ s.f CAL_SCOPE.LAST_C []) := by
  rw [← passTo_f s t CAL_SCOPE.FIRST_C, ← passTo_f s t CAL_SCOPE.LAST_C]
  rfl

theorem runs_calElec {s : State} (hr : s.inReset = false) (hb : s.cal.busy = false) (hc : s.calCause 4 = 0) (t : Nat) :
    Runs (.calElec t) s fun u => u.cal.busy = true ∧ u.cal.op = 4 ∧ u.cal.step = 0
      ∧ u.cal.busyAdc = ((List.range 144).filter fun c => decide (s.f CAL_SCOPE.FIRST_C [] ≤ c) && decide (c ≤ s.f CAL_SCOPE.LAST_C [])).map (8 * ·)
      ∧ (∀ e, (e / 256 < s.f CAL_SCOPE.FIRST_C [] ∨ s.f CAL_SCOPE.LAST_C [] < e / 256 ∨ 32 ≤ e % 256) → u.lane e = s.lane e)
      ∧ changesOnly [.regs, .lanes, .clusters, .clr, .cal, .cap] s u := by
  refine .of_eq (exec_calElec hr t) ((doCalCmd_taken t (by decide) (by decide) hb hc).trans (calGo_elec _)) ?_
  have hcal := elecHold_cal ((s.passTo t).calBegin 4)
  have hfirst : ∀ e, ((s.passTo t).calBegin 4).lane e = s.lane e := passTo_lane s t
  refine ⟨by rw [hcal]; rfl, by rw [hcal]; rfl, by rw [hcal]; rfl, ?_, fun e he => ?_, ?_⟩
  · rw [hcal, ← calBegin_scopeCl s 4 t]
    rfl
  · refine (elecHold_lane (by show 0 < 8; decide) fun c hm hon => ?_).trans (hfirst e)
    rw [calBegin_scopeCl, List.mem_filter, Bool.and_eq_true, decide_eq_true_eq, decide_eq_true_eq] at hm
    obtain ⟨hcl, hadc⟩ := hon
    have hadc' : e % 256 / 32 = 0 := hadc
    omega
  · exact Keeps.changesOnly (n := 0x840b4) ((elecHold_frame _).step ((calBegin_keeps ..).step ((passTo_keeps ..).step .refl rfl) rfl) rfl) rfl

/-! ### CAL_OPT (R474, R475) -/

/-- The ingress Cuff clusters of the in-ports measured. -/
def State.optCls (s : State) : List Nat := (s.optPorts.flatMap fun p => [136 + p / 256, 140 + p / 256]).eraseDups

/-- The engine with the range modes noted that the window found. -/
def State.optNoted (s : State) : State :=
  s.setCal { s.cal with
    rmodes := s.optCls.map fun c => (c, s.f CNV_RANGE.RMODE [c])
    zero := s.optPorts.flatMap fun p => [cuffOf 0 0 p, cuffOf 1 0 p] }

/-- The ingress clusters of the window convert in HI, and the egress lanes that use their words hold. -/
def State.optWindow (s : State) (cls : List Nat) : State :=
  [138, 139, 142, 143].foldl (fun s c => forLanes c State.cufHoldLane s)
    (cls.foldl (fun (s : State) c => s.setF CNV_RANGE.RMODE [c] 2) s)

theorem optHold_eq (s : State) : s.optHold
    = (s.optNoted.calTake (s.optCls.flatMap fun c => (List.range 8).map fun a => 8 * c + a)).optWindow s.optCls := rfl

theorem forLanes_cufHoldLane_frame (c : Nat) (s : State) : Keeps 0x4014 s (forLanes c State.cufHoldLane s) :=
  forLanes_rel (R := Keeps 0x4014) (fun _ => .refl) .trans (fun _ _ _ => cufHoldLane_turn.keeps) s

theorem optWindow_frame (s : State) (cls : List Nat) : Keeps 0x4014 s (s.optWindow cls) := by
  have hmode : Keeps 0x4014 s (cls.foldl (fun (s : State) c => s.setF CNV_RANGE.RMODE [c] 2) s) :=
    .foldl .refl fun u c h => (setF_keeps ..).step h rfl
  exact hmode.trans (foldl_rel (R := Keeps 0x4014) (fun _ => .refl) .trans (fun u c _ => forLanes_cufHoldLane_frame c u) _)

theorem optWindow_lane (s : State) (cls : List Nat) {e : Nat} (he : e / 256 < 136) : (s.optWindow cls).lane e = s.lane e := by
  have hmode : (cls.foldl (fun (s : State) c => s.setF CNV_RANGE.RMODE [c] 2) s).lane e = s.lane e :=
    foldl_keeps (fun u : State => u.lane e = s.lane e) rfl fun _ _ h => h
  refine Eq.trans (foldl_rel (R := fun s u : State => u.lane e = s.lane e) (fun _ => rfl) (fun h k => k.trans h) (fun u c hc => ?_) _) hmode
  have hc' : 136 ≤ c := by
    simp only [List.mem_cons, List.not_mem_nil, or_false] at hc
    omega
  exact (forLanes_beside (fun _ _ => cufHoldLane_turn) (by omega) u).lane

theorem optHold_cal (s : State) : s.optHold.cal
    = { s.optNoted.cal with busyAdc := s.optCls.flatMap fun c => (List.range 8).map fun a => 8 * c + a } := by
  rw [optHold_eq]
  exact ((optWindow_frame ..).frame .cal rfl).trans (calTake_cal ..)

theorem optNoted_keeps (s : State) : Keeps 0x80000 s s.optNoted := by
  unfold State.optNoted
  exact (setCal_keeps ..).step .refl rfl

theorem optNoted_consts (s : State) : s.optNoted.cal.consts = s.cal.consts := by
  unfold State.optNoted State.setCal
  rfl

theorem optHold_frame (s : State) : Keeps 0x84014 s s.optHold := by
  rw [optHold_eq]
  exact (optWindow_frame ..).step ((calTake_kept ..).step ((optNoted_keeps s).step .refl rfl) rfl) rfl

theorem mem_optCls {s : State} {c : Nat} (h : c ∈ s.optCls) : 136 ≤ c := by
  obtain ⟨p, -, hp⟩ := List.mem_flatMap.1 (List.mem_eraseDups.1 h)
  simp only [List.mem_cons, List.not_mem_nil, or_false] at hp
  omega

theorem optHold_lane (s : State) {e : Nat} (he : e / 256 < 136) : s.optHold.lane e = s.lane e := by
  rw [optHold_eq]
  refine (optWindow_lane _ _ he).trans ((calTake_lane _ fun k hk hon => ?_).trans ((optNoted_keeps s).lane rfl e))
  obtain ⟨c, hc, ha⟩ := List.mem_flatMap.1 hk
  obtain ⟨a, ha8, rfl⟩ := List.mem_map.1 ha
  have h8 := List.mem_range.1 ha8
  have hcl := hon.1
  have := mem_optCls hc
  omega

theorem runs_calOpt {s : State} (hr : s.inReset = false) (hb : s.cal.busy = false) (hc : s.calCause 5 = 0) (t : Nat) :
    Runs (.calOpt t) s fun u => u.cal.busy = true ∧ u.cal.op = 5 ∧ u.cal.step = 0
      ∧ u.cal.consts = s.cal.consts ∧ u.cal.mean = none
      ∧ (∀ e, e / 256 < 136 → u.lane e = s.lane e) ∧ changesOnly [.regs, .lanes, .clr, .cal, .cap] s u := by
  refine .of_eq (exec_calOpt hr t) ((doCalCmd_taken t (by decide) (by decide) hb hc).trans (calGo_opt _)) ?_
  have hcal := optHold_cal ((s.passTo t).calBegin 5)
  have hconsts : ((s.passTo t).calBegin 5).optNoted.cal.consts = s.cal.consts := by
    rw [optNoted_consts, ← passTo_cal s t]
    rfl
  have hfirst : ∀ e, ((s.passTo t).calBegin 5).lane e = s.lane e := passTo_lane s t
  refine ⟨by rw [hcal]; rfl, by rw [hcal]; rfl, by rw [hcal]; rfl, ?_, by rw [hcal]; rfl, fun e he => (optHold_lane _ he).trans (hfirst e), ?_⟩
  · rw [hcal]
    exact hconsts
  · exact Keeps.changesOnly (n := 0x84094) ((optHold_frame _).step ((calBegin_keeps ..).step ((passTo_keeps ..).step .refl rfl) rfl) rfl) rfl

/-! ### RESTORE and ABORT (R476, R477) -/

/-- The engine with the constants of a revert in force and in store. -/
def Cal.restored (k : Cal) (u : CalUndo) : Cal :=
  { k with op := 6, result := 1, cause := 0, doneC := 0, consts := u.consts, stored := u.consts, last := none }

theorem calRestore_eq {s : State} {k : CalUndo} (h : s.cal.last = some k) :
    s.calRestore = ((s.setCal (s.cal.restored k)).spBack k).spStore k := by
  unfold State.calRestore
  rw [h]
  rfl

/-- A set-point is stored with the word of its register. -/
theorem spStore_storedSp (s : State) {u : CalUndo} {p : Nat × Word} (h : u.setpt.filter (fun q => q.1 == p.1) = [p]) :
    sget 0 (s.spStore u).cal.storedSp p.1 = s.reg .SETPT (spIx p.1) := by
  obtain ⟨l1, l2, hl, h2⟩ := split_of_unique_key h
  have hfold : (s.spStore u).cal.storedSp = (u.setpt.map fun p : Nat × Word => (p.1, s.reg .SETPT [p.1 / 512, p.1 / 2 % 256, p.1 % 2])).foldl
      (fun m p => sset m p.1 p.2) s.cal.storedSp := by
    rw [List.foldl_map]
    rfl
  rw [hfold, hl, List.map_append, List.foldl_append, List.map_cons, List.foldl_cons, sget_foldl_sset_of_ne, sget_sset_same, spIx,
    Nat.div_div_eq_div_mul]
  intro q hq
  obtain ⟨q', hq', rfl⟩ := List.mem_map.1 hq
  exact h2 q' hq'

theorem runs_restore {s : State} {k : CalUndo} (hr : s.inReset = false) (hb : s.cal.busy = false) (hk : s.cal.last = some k) (t : Nat) :
    Runs (.restore t) s fun u => u.cal.consts = k.consts ∧ u.cal.stored = k.consts
      ∧ u.cal.last = none ∧ u.cal.result = 1 ∧ u.cal.busy = false
      ∧ (∀ p ∈ k.setpt, k.setpt.filter (fun q => q.1 == p.1) = [p] → u.reg .SETPT [p.1 / 2 / 256, p.1 / 2 % 256, p.1 % 2] = p.2
        ∧ sget 0 u.cal.storedSp p.1 = p.2) ∧ (∀ e, e < 36864 → (k.setpt.any fun p => p.1 / 2 == e) = false → u.lane e = s.lane e)
      ∧ otherRegs (k.setpt.map fun p => Reg.at .SETPT [p.1 / 2 / 256, p.1 / 2 % 256, p.1 % 2]) s u ∧ changesOnly [.regs, .lanes, .clr, .cal] s u := by
  have hcause : s.calCause 6 = 0 := by
    unfold State.calCause
    extract_lets sc
    rw [if_pos rfl, hk]
    rfl
  have hgo : (s.passTo t).calGo 6 = (((s.passTo t).setCal ((s.passTo t).cal.restored k)).spBack k).spStore k :=
    (calGo_restore _).trans (calRestore_eq (by rw [passTo_cal]; exact hk))
  obtain ⟨v, hv⟩ : ∃ v, v = (s.passTo t).setCal ((s.passTo t).cal.restored k) := ⟨_, rfl⟩
  have hset : Keeps 0x80080 s v := hv ▸ (setCal_keeps ..).step ((passTo_keeps ..).step .refl rfl) rfl
  have hcal : v.cal = s.cal.restored k := by rw [hv, ← passTo_cal s t]; rfl
  have hback := spBack_keeps v k
  have hstore : ((v.spBack k).spStore k).cal = { s.cal.restored k with storedSp := ((v.spBack k).spStore k).cal.storedSp } := by
    rw [← hcal, ← hback.frame .cal rfl]
    rfl
  refine .of_eq (exec_restore hr t) ((doCalCmd_taken t (by decide) (by decide) hb hcause).trans (hgo.trans (by rw [← hv])))
    ⟨?_, ?_, ?_, ?_, ?_, fun p _ hp => ?_, fun e _ he => ?_, ?_, ?_⟩
  · rw [hstore]; rfl
  · rw [hstore]; rfl
  · rw [hstore]; rfl
  · rw [hstore]; rfl
  · rw [hstore]; exact hb
  · exact ⟨spBack_reg v hp, (spStore_storedSp _ hp).trans (spBack_reg v hp)⟩
  · exact (spBack_lane v he).trans (hset.lane rfl e)
  · exact (otherRegs.of_regs (hset.frame .regs rfl)).trans ((spBack_otherRegs v k).trans (.of_regs rfl))
  · have hsp : Keeps 0x80000 (v.spBack k) ((v.spBack k).spStore k) := (setCal_keeps ..).step .refl rfl
    exact Keeps.changesOnly (n := 0x80094) (hsp.step (hback.step (hset.step .refl rfl) rfl) rfl) rfl

theorem runs_abort {s : State} (hr : s.inReset = false) (hb : s.cal.busy = true) (t : Nat) :
    Runs (.abort t) s fun u => u.cal.busy = false ∧ u.cal.result = 2 ∧ u.cal.cause = 7
      ∧ u.cal.consts = s.cal.undo.consts ∧ u.cal.stage = 0
      ∧ (∀ p ∈ s.cal.undo.setpt, s.cal.undo.setpt.filter (fun q => q.1 == p.1) = [p] → u.reg .SETPT [p.1 / 2 / 256, p.1 / 2 % 256, p.1 % 2] = p.2)
      ∧ (s.cal.refs = [] → s.cal.undo.setpt = [] → u.lanes = s.lanes) := by
  have hpass : (s.passTo t).cal = s.cal := passTo_cal s t
  have hb' : (s.passTo t).cal.busy = true := by rw [hpass]; exact hb
  have hcal : ((s.passTo t).calStop 2 7).cal = s.cal.stopped 2 7 := (calStop_cal hb' 2 7).trans (by rw [hpass])
  refine .of_eq (exec_abort hr t) (doCalCmd_abort s t) ⟨by rw [hcal]; rfl, by rw [hcal]; rfl, by rw [hcal]; rfl, by rw [hcal]; rfl,
    by rw [hcal]; rfl, fun p _ hp => calStop_setpt hb' 2 7 (by rwa [hpass]), fun href hset => ?_⟩
  exact (calStop_lanes hb' 2 7 (by rwa [hpass]) (by rwa [hpass])).trans (passTo_lanes s t)

theorem runs_abort_idle {s : State} (hr : s.inReset = false) (hb : s.cal.busy = false) (t : Nat) :
    Runs (.abort t) s fun u => changesOnly [.clr] s u := by
  refine .of_eq (exec_abort hr t) ((doCalCmd_abort s t).trans (calAbort_idle (s := s.passTo t) (by rwa [passTo_cal]) 7)) ?_
  exact Keeps.changesOnly (n := 0x80) (passTo_keeps ..) rfl

/-- Settles O59, one lemma per clause. -/
theorem calibrationCommands : Obligations.CalibrationCommands := fun s t _k hr =>
  ⟨fun hb => ⟨fun hc => .of_eq (exec_trimCheck hr t) (doCalCmd_refused t (by decide) (by decide) hb hc) (calRefused_ends s 1 t),
      fun hc => .of_eq (exec_trim hr t) (doCalCmd_refused t (by decide) (by decide) hb hc) (calRefused_ends s 2 t),
      fun hc => .of_eq (exec_restore hr t) (doCalCmd_refused t (by decide) (by decide) hb hc) (calRefused_ends s 6 t)⟩,
    fun hb => runs_refused hr hb t,
    fun hb hn hc => .of_eq (exec_trimCheck hr t) ((doCalCmd_taken t (by decide) (by decide) hb hc).trans (calGo_trimCheck _)) (layerBegun hn 1 4 t),
    fun hb hn hc => .of_eq (exec_trim hr t) ((doCalCmd_taken t (by decide) (by decide) hb hc).trans (calGo_trim _)) (layerBegun hn 2 4 t),
    fun hb hn hc => .of_eq (exec_probeLearn hr t) ((doCalCmd_taken t (by decide) (by decide) hb hc).trans (calGo_learn _)) (layerBegun hn 3 1 t),
    fun hb hn href hc => runs_probeLearn_full hr hb hn href hc t, fun hb hc => runs_calElec hr hb hc t,
    fun hb hc => runs_calOpt hr hb hc t, fun hb hk => runs_restore hr hb hk t, fun hb => runs_abort hr hb t,
    fun hb => runs_abort_idle hr hb t⟩

end Sys2Proof.Machine
end

section
/-! PROOF. Pulses, dwells, steps and the end of calibration runs, and O60. -/
namespace Sys2Proof.Machine

/-! ### Trim pulses (R470) -/

theorem exec_trimPulse (s : State) (c : Fin 136) (t : Nat) : exec (.trimPulse c t) s = .next (doTrimPulse c t s) := rfl

/-- A pulse was counted for element e alone; no lane has changed. -/
structure Pulsed (e : Nat) (s u : State) : Prop where
  pulses : u.cal.pulses = sset s.cal.pulses e (sget 0 s.cal.pulses e + 1)
  lanes : u.lanes = s.lanes

/-- A state that follows a pulse without a further one. -/
theorem Pulsed.then {e : Nat} {s u v : State} (h : Pulsed e s u) (hp : v.cal.pulses = u.cal.pulses) (hl : v.lanes = u.lanes) :
    Pulsed e s v := ⟨hp.trans h.pulses, hl.trans h.lanes⟩

theorem CalStaged.pulses {n : Nat} {s u : State} (h : CalStaged n s u) : u.cal.pulses = s.cal.pulses := by rw [h.cal]

theorem doTrimPulse_pulsed {s : State} {c : Nat} {x : Nat × Nat × Bool} (hb : s.cal.busy = true) (h6 : s.cal.stage = 6) (hn : s.freeNums ≠ [])
    (hx : s.cal.todo.find? (fun y => y.1 / 256 == c) = some x) (t : Nat) : Pulsed x.1 s (doTrimPulse c t s) := by
  unfold doTrimPulse
  extract_lets s0 k
  have hk : k = s.cal := passTo_cal s t
  clear_value k
  subst hk
  rw [if_neg (by simp [hb, h6])]
  split
  case h_1 hnone => exact absurd (hx.symm.trans hnone) nofun
  case h_2 y hy =>
  obtain rfl : x = y := Option.some.inj (hx.symm.trans hy)
  extract_lets n todo busy s1 s2
  have hfirst : Pulsed x.1 s s1 := ⟨rfl, passTo_lanes s t⟩
  have hsecond : Pulsed x.1 s s2 ∧ s2.freeNums = s.freeNums := by
    unfold s2
    split
    · exact ⟨hfirst.then rfl rfl, passTo_freeNums s t⟩
    · exact ⟨hfirst, passTo_freeNums s t⟩
  obtain ⟨hpulse, hfree⟩ := hsecond
  split
  · have hst := calLayer_staged (s := s2) (by rwa [hfree]) 4 false
    exact hpulse.then hst.pulses (hst.kept.frame .lanes rfl)
  · exact hpulse

/-! ### Dwells (R467, R468) -/

theorem exec_probeLayerDwell (t : Nat) (s : State) : exec (.probeLayerDwell t) s = .next (doProbeLayerDwell t s) := rfl

@[simp] theorem passTo_litIn (s : State) (t : Nat) (k : Bool) : (s.passTo t).litIn k = s.litIn k :=
  passTo_congr s t (·.litIn k) fun _ => rfl

theorem doProbeLayerDwell_early {s : State} {t : Nat} (h : (s.passTo t).clr.now < s.cal.fireAt + s.f CAL_PRB.DWELL_US [] * 1000) :
    doProbeLayerDwell t s = s.passTo t := by
  unfold doProbeLayerDwell
  extract_lets s0 k
  exact if_pos (by simp [s0, k, h])

/-- The engine with the elements added that the layer has lit. -/
def State.dwellHit (s : State) : State :=
  s.setCal { s.cal with lit0 := (s.cal.lit0 ++ s.litIn false).eraseDups, lit1 := (s.cal.lit1 ++ s.litIn true).eraseDups }

/-- The engine with the elements that the layer of a trim has lit. -/
def State.trimHit (s : State) : State := s.setCal { s.cal with lit0 := s.litIn false ++ s.litIn true }

theorem dwellHit_freeNums (s : State) (t : Nat) : (s.passTo t).dwellHit.freeNums = s.freeNums := passTo_freeNums s t

theorem trimHit_freeNums (s : State) (t : Nat) : (s.passTo t).trimHit.freeNums = s.freeNums := passTo_freeNums s t

section
variable {s : State} {t : Nat} (hb : s.cal.busy = true) (hf : s.cal.fired = true)
  (hd : s.cal.fireAt + s.f CAL_PRB.DWELL_US [] * 1000 ≤ (s.passTo t).clr.now)
include hb hf hd

/-- What the end of a dwell does, by the stage. -/
theorem doProbeLayerDwell_due : doProbeLayerDwell t s = match (s.passTo t).cal.stage with
    | 1 => (s.passTo t).dwellHit.calLayer 2 true
    | 2 => (s.passTo t).dwellHit.calLetGo 3
    | 4 => (s.passTo t).trimHit.calLetGo 5
    | 5 => (s.passTo t).trimNext
    | _ => s.passTo t := by
  unfold doProbeLayerDwell
  extract_lets s0 k hit
  rw [if_neg (by simp [s0, k, hb, hf, hd])]
  rfl

theorem dwell_bar (h1 : s.cal.stage = 1) : doProbeLayerDwell t s = (s.passTo t).dwellHit.calLayer 2 true := by
  rw [doProbeLayerDwell_due hb hf hd, passTo_cal, h1]
  rfl

theorem dwell_cross (h2 : s.cal.stage = 2) : doProbeLayerDwell t s = (s.passTo t).dwellHit.calLetGo 3 := by
  rw [doProbeLayerDwell_due hb hf hd, passTo_cal, h2]
  rfl

theorem dwell_trim (h4 : s.cal.stage = 4) : doProbeLayerDwell t s = (s.passTo t).trimHit.calLetGo 5 := by
  rw [doProbeLayerDwell_due hb hf hd, passTo_cal, h4]
  rfl

end

theorem calLetGo_staged {s : State} (h : s.freeNums ≠ []) (n : Nat) : CalStaged n s (s.calLetGo n) :=
  calStage_staged h n [] (s.openIdle.flatMap closeIn)

/-- The dwell of a probe layer has gone on to stage n. -/
theorem CalStaged.dwelt {s u : State} {n t : Nat} (h : CalStaged n (s.passTo t).dwellHit u) : u.cal.stage = n ∧ u.cal.fired = false
    ∧ u.cal.lit0 = (s.cal.lit0 ++ s.litIn false).eraseDups ∧ u.cal.lit1 = (s.cal.lit1 ++ s.litIn true).eraseDups ∧ u.lanes = s.lanes := by
  have hlanes : u.lanes = s.lanes := (h.kept.frame .lanes rfl).trans (passTo_lanes s t)
  rw [h.cal, ← passTo_litIn s t false, ← passTo_litIn s t true, ← passTo_cal s t]
  exact ⟨rfl, rfl, rfl, rfl, hlanes⟩

theorem CalStaged.trimDwelt {s u : State} {n t : Nat} (h : CalStaged n (s.passTo t).trimHit u) : u.cal.stage = n
    ∧ u.cal.lit0 = s.litIn false ++ s.litIn true ∧ u.lanes = s.lanes := by
  have hlanes : u.lanes = s.lanes := (h.kept.frame .lanes rfl).trans (passTo_lanes s t)
  rw [h.cal, ← passTo_litIn s t false, ← passTo_litIn s t true]
  exact ⟨rfl, rfl, hlanes⟩

/-! ### Folds that reach a property -/

section
variable {α β : Type} {Q : β → Prop} {f : β → α → β} {l : List α} (hk : ∀ x, ∀ b ∈ l, Q x → Q (f x b))
include hk

theorem foldl_stays {x : β} (h : Q x) : Q (l.foldl f x) :=
  foldl_rel (R := fun x y => Q x → Q y) (fun _ => id) (fun h k => k ∘ h) hk x h

/-- A property that one element of a list brings about and none takes away holds behind the fold. -/
theorem foldl_reaches {a : α} (ha : a ∈ l) (h : ∀ x, Q (f x a)) (x : β) : Q (l.foldl f x) := by
  obtain ⟨l1, l2, rfl⟩ := List.append_of_mem ha
  rw [List.foldl_append, List.foldl_cons]
  exact foldl_stays (fun y b hb => hk y b (by simp [hb])) (h _)

end

theorem sfind_sset_ne {α : Type} (m : SMap α) {a b : Nat} (v : α) (h : a ≠ b) : sfind (sset m a v) b = sfind m b := by
  induction m with
  | nil => simp [sset, sfind, h]
  | cons p m ih =>
    simp only [sset]
    split_ifs with hlt heq
    · simp [sfind, h]
    · subst heq
      simp [sfind, h]
    · simp [sfind, ih]

theorem sget_eq_sfind {α : Type} (d : α) (m : SMap α) (a : Nat) : sget d m a = (sfind m a).getD d := by
  induction m with
  | nil => rfl
  | cons p m ih =>
    simp only [sget, sfind]
    split_ifs
    · rfl
    · exact ih

/-! ### Constants of the channels (R473, R474) -/

/-- Of the engine only constants and the size of their changes differ, and of the state only the engine. -/
def ConstsOnly (s u : State) : Prop := ∃ m d c, u = s.setCal { s.cal with consts := m, delta := d, deltaC := c }

theorem ConstsOnly.refl {s : State} : ConstsOnly s s := ⟨_, _, _, rfl⟩

theorem ConstsOnly.trans {s u v : State} (h : ConstsOnly s u) (k : ConstsOnly u v) : ConstsOnly s v := by
  obtain ⟨_, _, _, rfl⟩ := h
  obtain ⟨_, _, _, rfl⟩ := k
  exact ⟨_, _, _, rfl⟩

theorem setConst_constsOnly (s : State) (c h : Nat) (hi : Bool) (ref : Nat) (x : CalConst) : ConstsOnly s (s.setConst c h hi ref x) :=
  ⟨_, _, _, rfl⟩

/-- A constant of the channel whose gain is scaled. -/
def State.scaled (s : State) (num : Int) (den : Nat) (p : Nat × Nat) (x : Bool × Nat) : CalConst :=
  { s.convConst p.1 p.2 x.1 x.2 with gain := (2 * (s.convConst p.1 p.2 x.1 x.2).gain * pow10Q num den + fix1) / (2 * fix1) }

/-- The gain of one range and reference of a channel is scaled. -/
def State.scaleForm (num : Int) (den : Nat) (p : Nat × Nat) (s : State) (x : Bool × Nat) : State :=
  s.setCal { s.cal with consts := sset s.cal.consts (convKey p.1 p.2 x.1 x.2) (s.scaled num den p x) }

theorem scaleCh_eq (num : Int) (den : Nat) (s : State) (p : Nat × Nat) :
    s.scaleCh num den p = chanForms.foldl (State.scaleForm num den p) s := rfl

theorem scaleForm_constsOnly (num : Int) (den : Nat) (p : Nat × Nat) (s : State) (x : Bool × Nat) :
    ConstsOnly s (s.scaleForm num den p x) := ⟨_, _, _, rfl⟩

theorem scaleCh_constsOnly (num : Int) (den : Nat) (s : State) (p : Nat × Nat) : ConstsOnly s (s.scaleCh num den p) :=
  foldl_rel (R := ConstsOnly) (fun _ => .refl) .trans (fun u x _ => scaleForm_constsOnly num den p u x) s

theorem convKey_injective {c h c' h' ref ref' : Nat} {hi hi' : Bool} (hh : h < 512) (hh' : h' < 512) (hr : ref < 3) (hr' : ref' < 3)
    (he : convKey c h hi ref = convKey c' h' hi' ref') : (c, h) = (c', h') ∧ (hi, ref) = (hi', ref') := by
  have h1 : b2n hi < 2 := by cases hi <;> decide
  have h2 : b2n hi' < 2 := by cases hi' <;> decide
  unfold convKey at he
  have hbit : b2n hi = b2n hi' := by omega
  have hhi : hi = hi' := by
    revert hbit
    cases hi <;> cases hi' <;> decide
  exact ⟨Prod.ext (by show c = c'; omega) (by show h = h'; omega), Prod.ext hhi (by show ref = ref'; omega)⟩

theorem mem_chanForms {hi : Bool} {ref : Nat} : (hi, ref) ∈ chanForms ↔ ref < 3 := by
  constructor
  · intro h
    simp only [chanForms, List.mem_cons, Prod.mk.injEq, List.not_mem_nil, or_false] at h
    omega
  · intro h
    have : ref = 0 ∨ ref = 1 ∨ ref = 2 := by omega
    cases hi <;> rcases this with rfl | rfl | rfl <;> decide

theorem mem_stepChans {s : State} {c h : Nat} : (c, h) ∈ s.stepChans ↔ c ∈ s.scopeCl ∧ h / 64 = s.cal.step := by
  simp only [State.stepChans, List.mem_flatMap, List.mem_map, List.mem_range, Prod.mk.injEq]
  constructor
  · rintro ⟨d, hd, i, hi, rfl, rfl⟩
    exact ⟨hd, by omega⟩
  · rintro ⟨hc, hstep⟩
    exact ⟨c, hc, h % 64, by omega, rfl, by omega⟩

/-! ### The step of CAL_ELEC (R473) -/

/-- All constants of the step's channels, as found. -/
def State.elecFold (s : State) (l : List CalMeas) (n : Nat) (z : State) : State :=
  s.stepChans.foldl (fun z ch => chanForms.foldl (fun z x =>
    z.setConst ch.1 ch.2 x.1 x.2 (s.elecConst l n ch.1 ch.2 x.1 x.2)) z) z

theorem elecApply_eq (s : State) (l : List CalMeas) : s.elecApply l = s.elecFold l s.freeN { s with freeN := s.freeN + 1 } := rfl

theorem elecFold_constsOnly (s : State) (l : List CalMeas) (n : Nat) (z : State) : ConstsOnly z (s.elecFold l n z) :=
  foldl_rel (R := ConstsOnly) (fun _ => .refl) .trans
    (fun u _ _ => foldl_rel (R := ConstsOnly) (fun _ => .refl) .trans (fun v _ _ => setConst_constsOnly v ..) u) z

theorem setConst_sfind_ne (s : State) {c h ref a : Nat} {hi : Bool} (x : CalConst) (hne : convKey c h hi ref ≠ a) :
    sfind (s.setConst c h hi ref x).cal.consts a = sfind s.cal.consts a := sfind_sset_ne _ _ hne

theorem setConst_sfind_same (s : State) (c h : Nat) (hi : Bool) (ref : Nat) (x : CalConst) :
    sfind (s.setConst c h hi ref x).cal.consts (convKey c h hi ref) = some x := sfind_sset_same ..

section
variable (s : State) {c h ref : Nat} {hi : Bool} (hh : h < 512) (hr : ref < 3)
include hh hr

/-- A channel outside the step keeps its constants. -/
theorem elecFold_other (l : List CalMeas) (n : Nat) (z : State) (h8 : s.cal.step < 8) (hc : (c, h) ∉ s.stepChans) :
    sfind (s.elecFold l n z).cal.consts (convKey c h hi ref) = sfind z.cal.consts (convKey c h hi ref) := by
  refine foldl_rel (R := fun u v : State => sfind v.cal.consts (convKey c h hi ref) = sfind u.cal.consts (convKey c h hi ref))
    (fun _ => rfl) (fun h k => k.trans h) (fun u ch hch => ?_) z
  refine foldl_rel (R := fun u v : State => sfind v.cal.consts (convKey c h hi ref) = sfind u.cal.consts (convKey c h hi ref))
    (fun _ => rfl) (fun h k => k.trans h) (fun v x hx => setConst_sfind_ne v _ fun he => hc ?_) u
  have hrange := (mem_stepChans (s := s) (c := ch.1) (h := ch.2)).1 hch
  have heq := convKey_injective (by omega) hh ((mem_chanForms (hi := x.1)).1 hx) hr he
  rw [← heq.1]
  exact hch

/-- No constant found takes away that a channel of the step holds its own. -/
theorem setConst_stays (l : List CalMeas) (n : Nat) (h8 : s.cal.step < 8) (v : State) {ch : Nat × Nat} (hch : ch ∈ s.stepChans)
    {x : Bool × Nat} (hx : x ∈ chanForms) (hv : sfind v.cal.consts (convKey c h hi ref) = some (s.elecConst l n c h hi ref)) :
    sfind (v.setConst ch.1 ch.2 x.1 x.2 (s.elecConst l n ch.1 ch.2 x.1 x.2)).cal.consts (convKey c h hi ref)
      = some (s.elecConst l n c h hi ref) := by
  by_cases he : convKey ch.1 ch.2 x.1 x.2 = convKey c h hi ref
  · have hrange := (mem_stepChans (s := s) (c := ch.1) (h := ch.2)).1 hch
    obtain ⟨hch', hx'⟩ := convKey_injective (by omega) hh ((mem_chanForms (hi := x.1)).1 hx) hr he
    cases hch'
    cases hx'
    exact setConst_sfind_same ..
  · rw [setConst_sfind_ne _ _ he, hv]

/-- Every channel of the step holds what was found for it. -/
theorem elecFold_found (l : List CalMeas) (n : Nat) (z : State) (h8 : s.cal.step < 8) (hc : (c, h) ∈ s.stepChans) :
    sfind (s.elecFold l n z).cal.consts (convKey c h hi ref) = some (s.elecConst l n c h hi ref) :=
  foldl_reaches (Q := fun v : State => sfind v.cal.consts (convKey c h hi ref) = some (s.elecConst l n c h hi ref))
    (fun _ _ hch => foldl_stays fun v _ hx => setConst_stays s hh hr l n h8 v hch hx) hc
    (fun _ => foldl_reaches (fun v _ hx => setConst_stays s hh hr l n h8 v hc hx) (mem_chanForms.2 hr)
      (fun _ => setConst_sfind_same ..) _) z

end

/-! ### Steps (R472) -/

theorem exec_calStepDone (l : List CalMeas) (m : List PortMeas) (t : Nat) (s : State) :
    exec (.calStepDone l m t) s = .next (doCalStep l m t s) := rfl

@[simp] theorem passTo_optFound (s : State) (t : Nat) (m : List PortMeas) : (s.passTo t).optFound m = s.optFound m :=
  passTo_congr s t (·.optFound m) fun _ => rfl

@[simp] theorem passTo_scopeCl (s : State) (t : Nat) : (s.passTo t).scopeCl = s.scopeCl := passTo_congr s t (·.scopeCl) fun _ => rfl

@[simp] theorem passTo_meanCl (s : State) (t : Nat) : (s.passTo t).meanCl = s.meanCl := passTo_congr s t (·.meanCl) fun _ => rfl

@[simp] theorem passTo_inScope (s : State) (t c : Nat) : (s.passTo t).inScope c = s.inScope c := passTo_congr s t (·.inScope c) fun _ => rfl

/-- A reference in use of the ADCs in step is not settled. -/
def State.unsettled (s : State) : Bool := s.cal.busyAdc.any fun y => !((s.cl (y / 8)).settled (y % 8))

@[simp] theorem passTo_unsettled (s : State) (t : Nat) : (s.passTo t).unsettled = s.unsettled := passTo_congr s t (·.unsettled) fun _ => rfl

/-- The window of CAL_OPT ends. -/
def State.windowEnds (s : State) (m : List PortMeas) : State := (s.optApply (s.optFound m)).calUnhold

/-- A window that found too few ports ends the run's steps. -/
def State.windowFails (s : State) : State := s.setCal { s.cal with step := 8, doneC := s.scopeCl.length }

/-- The mean over the ports found is noted. -/
def State.meanTaken (s : State) (found : List (Nat × Int)) : State :=
  s.setCal { s.cal with mean := some ((found.map Prod.snd).foldl (· + ·) 0, found.length) }

section
variable {s : State} (hb : s.cal.busy = true) (ha : s.cal.again = []) (h8 : s.cal.step < 8) (l : List CalMeas) (m : List PortMeas) (t : Nat)
include hb ha h8

theorem doCalStep_elec (h4 : s.cal.op = 4) : doCalStep l m t s = if s.unsettled then (s.passTo t).calStop 4 5
    else (((s.passTo t).elecApply l).calUnhold).stepOn State.elecHold := by
  unfold doCalStep
  extract_lets s0 k
  have hk : k = s.cal := passTo_cal s t
  rw [if_neg (by simp [hk, hb, ha]; omega), if_pos (by rw [hk, h4])]
  show (if (s.passTo t).unsettled then _ else _) = _
  rw [passTo_unsettled]

theorem doCalStep_window (h5 : s.cal.op = 5) (hm : s.cal.mean = none) : doCalStep l m t s =
    if (s.optFound m).length < 16 then ((s.passTo t).windowEnds m).windowFails
    else (((s.passTo t).windowEnds m).meanTaken (s.optFound m)).optStep := by
  unfold doCalStep
  extract_lets s0 k
  have hk : k = s.cal := passTo_cal s t
  rw [if_neg (by simp [hk, hb, ha]; omega), if_neg (by rw [hk, h5]; decide), if_pos (by rw [hk, h5]), hk, hm]
  rw [← passTo_optFound s t m]
  rfl

theorem doCalStep_mean (h5 : s.cal.op = 5) {d : Int} {n : Nat} (hm : s.cal.mean = some (d, n)) :
    doCalStep l m t s = ((s.passTo t).meanApply d n).calUnhold.stepOn State.optStep := by
  unfold doCalStep
  extract_lets s0 k
  have hk : k = s.cal := passTo_cal s t
  rw [if_neg (by simp [hk, hb, ha]; omega), if_neg (by rw [hk, h5]; decide), if_pos (by rw [hk, h5]), hk, hm]

end


/-! ### The next step (R472, R479) -/

/-- The next step of a run. -/
def State.stepped (s : State) : State := s.setCal { s.cal with step := s.cal.step + 1 }

/-- Behind the last step every cluster in scope is complete. -/
def State.stepsOver (s : State) : State := s.setCal { s.cal with doneC := s.scopeCl.length }

theorem stepOn_eq (s : State) (go : State → State) : s.stepOn go = if s.cal.step + 1 < 8 then go s.stepped else s.stepped.stepsOver := rfl

/-- A step has gone on: constants, mean, scope and what the run is are the same. -/
structure SteppedTo (n : Nat) (s u : State) : Prop where
  step : u.cal.step = n
  busy : u.cal.busy = s.cal.busy
  mean : u.cal.mean = s.cal.mean
  consts : u.cal.consts = s.cal.consts
  freeN : u.freeN = s.freeN

theorem elecHold_stepped (s : State) : SteppedTo s.cal.step s s.elecHold := by
  have hcal := elecHold_cal s
  exact ⟨by rw [hcal]; rfl, by rw [hcal]; rfl, by rw [hcal]; rfl, by rw [hcal]; rfl, (elecHold_frame s).frame .freeN rfl⟩

theorem optStep_cal (s : State) : s.optStep.cal = { s.cal with busyAdc := s.meanCl.map fun c => 8 * c + s.cal.step } := calTake_cal ..

theorem optStep_stepped (s : State) : SteppedTo s.cal.step s s.optStep := by
  have hcal := optStep_cal s
  exact ⟨by rw [hcal], by rw [hcal], by rw [hcal], by rw [hcal], (calTake_kept ..).frame .freeN rfl⟩

/-- A step goes on, whatever the next one takes. -/
theorem stepOn_stepped {go : State → State} (hgo : ∀ u : State, SteppedTo u.cal.step u (go u)) (s : State) :
    SteppedTo (s.cal.step + 1) s (s.stepOn go) := by
  rw [stepOn_eq]
  split
  · have h := hgo s.stepped
    exact ⟨h.step, h.busy, h.mean, h.consts, h.freeN⟩
  · exact ⟨rfl, rfl, rfl, rfl, rfl⟩

/-- Lanes outside the scope keep what they hold when a step of CAL_ELEC goes on. -/
theorem stepOn_elecHold_lane {s : State} {e : Nat} (he : s.inScope (e / 256) = false) : (s.stepOn State.elecHold).lane e = s.lane e := by
  rw [stepOn_eq]
  split
  case isTrue h8 =>
    refine elecHold_lane (s := s.stepped) h8 fun c hc hon => ?_
    have hin : s.inScope c = true := (mem_scopeCl.1 hc).2
    rw [← hon.1, he] at hin
    cases hin
  case isFalse => rfl

theorem calUnhold_lane_outside {s : State} (h : ∀ y ∈ s.cal.refs, s.inScope (y.1 / 8) = true) {e : Nat} (he : s.inScope (e / 256) = false) :
    s.calUnhold.lane e = s.lane e :=
  calUnhold_lane fun p hp hon => by
    have hin := h p hp
    rw [← hon.1, he] at hin
    cases hin

theorem unheld_stepped (s : State) : SteppedTo s.cal.step s s.calUnhold :=
  ⟨rfl, rfl, rfl, rfl, (calUnhold_frame s).frame .freeN rfl⟩

/-! ### CAL_ELEC (R473) -/

section
variable {s : State} (hb : s.cal.busy = true) (ha : s.cal.again = []) (h8 : s.cal.step < 8) (l : List CalMeas) (m : List PortMeas) (t : Nat)
include hb ha h8

theorem runs_elecStep (h4 : s.cal.op = 4) (hset : s.unsettled = false) (c0 h0 r0 : Nat) (hi : Bool) : Runs (.calStepDone l m t) s fun u =>
      u.cal.step = s.cal.step + 1 ∧ u.cal.busy = true ∧ u.freeN = s.freeN + 1
      ∧ (c0 < 144 → h0 < 512 → r0 < 3 →
        (s.inScope c0 = true ∧ h0 / 64 = s.cal.step → sfind u.cal.consts (convKey c0 h0 hi r0) = some (s.elecConst l s.freeN c0 h0 hi r0))
        ∧ (¬ (s.inScope c0 = true ∧ h0 / 64 = s.cal.step) → sfind u.cal.consts (convKey c0 h0 hi r0) = sfind s.cal.consts (convKey c0 h0 hi r0)))
      ∧ ((∀ y ∈ s.cal.refs, s.inScope (y.1 / 8) = true) → ∀ e, s.inScope (e / 256) = false → u.lane e = s.lane e) := by
  have hpass : (s.passTo t).cal = s.cal := passTo_cal s t
  have h8' : (s.passTo t).cal.step < 8 := by rwa [hpass]
  have hchans : ∀ c h, (c, h) ∈ (s.passTo t).stepChans ↔ c < 144 ∧ s.inScope c = true ∧ h / 64 = s.cal.step := fun c h => by
    rw [mem_stepChans, passTo_scopeCl, mem_scopeCl, hpass, and_assoc]
  have hconst : (s.passTo t).elecConst l (s.passTo t).freeN c0 h0 hi r0 = s.elecConst l s.freeN c0 h0 hi r0 :=
    passTo_congr s t (fun u => u.elecConst l u.freeN c0 h0 hi r0) fun _ => rfl
  have hother := fun hh hr => elecFold_other (s.passTo t) (c := c0) (h := h0) (ref := r0) (hi := hi) hh hr l (s.passTo t).freeN
    { s.passTo t with freeN := (s.passTo t).freeN + 1 } h8'
  have hfound := fun hh hr => elecFold_found (s.passTo t) (c := c0) (h := h0) (ref := r0) (hi := hi) hh hr l (s.passTo t).freeN
    { s.passTo t with freeN := (s.passTo t).freeN + 1 } h8'
  obtain ⟨k, d, c, hv⟩ := elecFold_constsOnly (s.passTo t) l (s.passTo t).freeN { s.passTo t with freeN := (s.passTo t).freeN + 1 }
  obtain ⟨v, hdef⟩ : ∃ v, v = (s.passTo t).elecApply l := ⟨_, rfl⟩
  rw [← elecApply_eq, ← hdef] at hother hfound hv
  have hcal : v.cal = { s.cal with consts := k, delta := d, deltaC := c } := by rw [hv, ← hpass]; rfl
  have hlanes : ∀ e, v.lane e = s.lane e := fun e => by rw [hv, ← passTo_lane s t e]; rfl
  have hfree : v.freeN = s.freeN + 1 := by rw [hv, ← passTo_freeN s t]; rfl
  have hstep := stepOn_stepped elecHold_stepped v.calUnhold
  have hun := unheld_stepped v
  have hgo : doCalStep l m t s = v.calUnhold.stepOn State.elecHold := by
    rw [doCalStep_elec hb ha h8 l m t h4, if_neg (by simp [hset]), ← hdef]
  refine .of_eq (exec_calStepDone l m t s) hgo
    ⟨?_, ?_, ?_, fun hc hh hr => ⟨fun hin => ?_, fun hout => ?_⟩, fun hrefs e he => ?_⟩
  · rw [hstep.step, hun.step, hcal]
  · rw [hstep.busy, hun.busy, hcal, hb]
  · rw [hstep.freeN, hun.freeN, hfree]
  · rw [hstep.consts, hun.consts, hfound hh hr ((hchans c0 h0).2 ⟨hc, hin⟩), hconst]
  · rw [hstep.consts, hun.consts, hother hh hr fun hm => hout ((hchans c0 h0).1 hm).2]
    exact congrArg (fun k : Cal => sfind k.consts (convKey c0 h0 hi r0)) hpass
  · have hscope : ∀ c, v.inScope c = s.inScope c := fun c => by simp only [State.inScope, hcal]
    have hlane := stepOn_elecHold_lane (s := v.calUnhold) (e := e) ((hscope _).trans he)
    rw [hlane, calUnhold_lane_outside (fun y hy => ?_) ((hscope _).trans he), hlanes]
    rw [hscope]
    exact hrefs y (by rwa [hcal] at hy)

theorem runs_elecUnsettled (h4 : s.cal.op = 4) (hset : s.unsettled = true) : Runs (.calStepDone l m t) s fun u =>
      u.cal.busy = false ∧ u.cal.result = 4 ∧ u.cal.cause = 5 ∧ u.cal.consts = s.cal.undo.consts
      ∧ (s.cal.undo.setpt = [] → (∀ y ∈ s.cal.refs, s.inScope (y.1 / 8) = true) → ∀ e, s.inScope (e / 256) = false → u.lane e = s.lane e) := by
  have hpass : (s.passTo t).cal = s.cal := passTo_cal s t
  have hb' : (s.passTo t).cal.busy = true := by rwa [hpass]
  have hcal : ((s.passTo t).calStop 4 5).cal = s.cal.stopped 4 5 := (calStop_cal hb' 4 5).trans (by rw [hpass])
  have hgo : doCalStep l m t s = (s.passTo t).calStop 4 5 := by rw [doCalStep_elec hb ha h8 l m t h4, if_pos hset]
  refine .of_eq (exec_calStepDone l m t s) hgo ⟨by rw [hcal]; rfl, by rw [hcal]; rfl, by rw [hcal]; rfl, by rw [hcal]; rfl,
    fun hset hrefs e he => ?_⟩
  rw [calStop_lane hb' 4 5 (by rwa [hpass]), calUnhold_lane_outside (fun y hy => ?_) (by rwa [passTo_inScope]), passTo_lane]
  rw [passTo_inScope]
  exact hrefs y (by rwa [hpass] at hy)

end

/-! ### CAL_OPT (R474) -/

theorem optApply_constsOnly (s : State) (l : List (Nat × Int)) : ConstsOnly s (s.optApply l) := by
  refine foldl_rel (R := ConstsOnly) (fun _ => .refl) .trans (fun u x _ => ?_) s
  have hscale : ConstsOnly u ([136, 140].foldl (fun (s : State) c0 => s.scaleCh x.2 256000 (c0 + x.1 / 256, 2 * (x.1 % 256))) u) :=
    foldl_rel (R := ConstsOnly) (fun _ => .refl) .trans (fun v c _ => scaleCh_constsOnly ..) u
  exact hscale.trans ⟨_, _, _, rfl⟩

/-- A window ends: of the engine, only constants, their changes and the holds differ. -/
theorem windowEnds_facts (s : State) (m : List PortMeas) (t : Nat) : (∃ k d c, ((s.passTo t).windowEnds m).cal
      = { s.cal with consts := k, delta := d, deltaC := c }.unheld) ∧ (s.cal.refs = [] → ((s.passTo t).windowEnds m).lanes = s.lanes)
    ∧ (m = [] → ((s.passTo t).windowEnds m).cal.consts = s.cal.consts) := by
  obtain ⟨v, hv⟩ : ∃ v, v = (s.passTo t).optApply ((s.passTo t).optFound m) := ⟨_, rfl⟩
  obtain ⟨k, d, c, hk⟩ := optApply_constsOnly (s.passTo t) ((s.passTo t).optFound m)
  have hdef : (s.passTo t).windowEnds m = v.calUnhold := by rw [hv]; rfl
  rw [← hv] at hk
  have hcal : v.cal = { s.cal with consts := k, delta := d, deltaC := c } := by rw [hk, ← passTo_cal s t]; rfl
  have hlanes : v.lanes = s.lanes := by rw [hk, ← passTo_lanes s t]; rfl
  rw [hdef]
  refine ⟨⟨k, d, c, by rw [calUnhold_cal, hcal]⟩, fun hr => (calUnhold_lanes (by rw [hcal]; exact hr)).trans hlanes, fun hm => ?_⟩
  have hnone : v = s.passTo t := by rw [hv, hm]; rfl
  rw [calUnhold_cal, hnone, passTo_cal]
  rfl

theorem meanCl_of_cal {s u : State} (h0 : u.cal.c0 = s.cal.c0) (h1 : u.cal.c1 = s.cal.c1) : u.meanCl = s.meanCl ∧ u.scopeCl = s.scopeCl := by
  have hscope : u.inScope = s.inScope := by
    funext c
    simp only [State.inScope, h0, h1]
  simp only [State.meanCl, State.scopeCl, hscope, and_self]

section
variable {s : State} (hb : s.cal.busy = true) (ha : s.cal.again = []) (h8 : s.cal.step < 8) (h5 : s.cal.op = 5) (l : List CalMeas) (m : List PortMeas) (t : Nat)
include hb ha h8 h5

theorem runs_optTooFew (hmean : s.cal.mean = none) (hfew : (s.optFound m).length < 16) : Runs (.calStepDone l m t) s fun u =>
    u.cal.step = 8 ∧ u.cal.busy = true ∧ u.cal.doneC = s.scopeCl.length ∧ u.cal.mean = none ∧ (m = [] → u.cal.consts = s.cal.consts)
      ∧ (s.cal.refs = [] → u.lanes = s.lanes) := by
  obtain ⟨⟨k, d, c, hcal⟩, hlanes, hnone⟩ := windowEnds_facts s m t
  have hgo : doCalStep l m t s = ((s.passTo t).windowEnds m).windowFails := by
    rw [doCalStep_window hb ha h8 l m t h5 hmean, if_pos hfew]
  have hscope := (meanCl_of_cal (s := s) (u := (s.passTo t).windowEnds m) (by rw [hcal]; rfl) (by rw [hcal]; rfl)).2
  generalize (s.passTo t).windowEnds m = v at *
  refine .of_eq (exec_calStepDone l m t s) hgo ⟨rfl, ?_, congrArg List.length hscope, ?_, hnone, hlanes⟩
  · show v.cal.busy = true
    rw [hcal]
    exact hb
  · show v.cal.mean = none
    rw [hcal]
    exact hmean

theorem runs_optMean (hmean : s.cal.mean = none) (hmany : 16 ≤ (s.optFound m).length) : Runs (.calStepDone l m t) s fun u =>
    u.cal.step = s.cal.step ∧ u.cal.busy = true
      ∧ u.cal.mean = some (((s.optFound m).map Prod.snd).foldl (· + ·) 0, (s.optFound m).length)
      ∧ u.cal.busyAdc = s.meanCl.map (fun c => 8 * c + s.cal.step)
      ∧ (s.cal.refs = [] → ∀ e, e < 36864 → (e / 256 ∉ s.meanCl ∨ e % 256 / 32 ≠ s.cal.step) → u.lane e = s.lane e) := by
  obtain ⟨⟨k, d, c, hcal⟩, hlanes, -⟩ := windowEnds_facts s m t
  have hgo : doCalStep l m t s = (((s.passTo t).windowEnds m).meanTaken (s.optFound m)).optStep := by
    rw [doCalStep_window hb ha h8 l m t h5 hmean, if_neg (by omega)]
  have hscope := (meanCl_of_cal (s := s) (u := (s.passTo t).windowEnds m) (by rw [hcal]; rfl) (by rw [hcal]; rfl)).1
  generalize (s.passTo t).windowEnds m = v at *
  have hstep : v.cal.step = s.cal.step := by rw [hcal]; rfl
  have hopt := optStep_cal (v.meanTaken (s.optFound m))
  refine .of_eq (exec_calStepDone l m t s) hgo ⟨?_, ?_, by rw [hopt]; rfl, ?_, fun hr e _ he => ?_⟩
  · rw [hopt]
    exact hstep
  · rw [hopt]
    show v.cal.busy = true
    rw [hcal]
    exact hb
  · rw [hopt]
    show v.meanCl.map (fun c => 8 * c + v.cal.step) = _
    rw [hscope, hstep]
  · refine (calTake_lane (v.meanTaken (s.optFound m)) fun x hx hon => ?_).trans (congrArg (sget Lane.reset · e) (hlanes hr))
    have hx' : x ∈ v.meanCl.map fun c => 8 * c + v.cal.step := hx
    rw [hscope, hstep] at hx'
    obtain ⟨c, hc, rfl⟩ := List.mem_map.1 hx'
    obtain ⟨hcl, hadc⟩ := hon
    rcases he with he | he
    · exact he (by rwa [hcl, show (8 * c + s.cal.step) / 8 = c by omega])
    · omega

end

/-! ### The scaling by the mean (R474) -/

/-- In a run at step n, only constants changed and that of key a did not. -/
def KeepsConst (n a : Nat) (s u : State) : Prop := s.cal.step = n → ConstsOnly s u ∧ sfind u.cal.consts a = sfind s.cal.consts a

theorem ConstsOnly.step {s u : State} (h : ConstsOnly s u) : u.cal.step = s.cal.step := by
  obtain ⟨_, _, _, rfl⟩ := h
  rfl

theorem KeepsConst.refl {n a : Nat} {s : State} : KeepsConst n a s s := fun _ => ⟨.refl, rfl⟩

theorem KeepsConst.trans {n a : Nat} {s u v : State} (h : KeepsConst n a s u) (k : KeepsConst n a u v) : KeepsConst n a s v := by
  intro hn
  obtain ⟨hsu, hau⟩ := h hn
  obtain ⟨huv, hav⟩ := k (hsu.step.trans hn)
  exact ⟨hsu.trans huv, hav.trans hau⟩

theorem scaled_congr {s u : State} {num : Int} {den : Nat} {p : Nat × Nat} {x : Bool × Nat}
    (h : sfind u.cal.consts (convKey p.1 p.2 x.1 x.2) = sfind s.cal.consts (convKey p.1 p.2 x.1 x.2)) :
    u.scaled num den p x = s.scaled num den p x := by
  simp only [State.scaled, State.convConst, sget_eq_sfind, h]

/-- One cluster of the step, scaled by the mean. -/
def State.meanCluster (num : Int) (den : Nat) (s : State) (c : Nat) : State :=
  (List.range 64).foldl (fun (s : State) i => s.scaleCh num den (c, 64 * s.cal.step + i)) s

theorem meanApply_eq (s : State) (sum : Int) (n : Nat) : s.meanApply sum n = s.meanCl.foldl (State.meanCluster sum (256000 * n)) s := rfl

section
variable (num : Int) (den : Nat) {c h ref : Nat} {hi : Bool} (hh : h < 512) (hr : ref < 3)
include hh hr

theorem scaleForm_keepsConst (n : Nat) {p : Nat × Nat} {x : Bool × Nat} (hp : p.2 < 512) (hx : x ∈ chanForms)
    (hne : p ≠ (c, h) ∨ x ≠ (hi, ref)) (u : State) : KeepsConst n (convKey c h hi ref) u (u.scaleForm num den p x) :=
  fun _ => ⟨scaleForm_constsOnly .., sfind_sset_ne _ _ fun he => by
    have heq := convKey_injective hp hh ((mem_chanForms (hi := x.1)).1 hx) hr he
    exact hne.elim (fun h => h heq.1) fun h => h heq.2⟩

theorem scaleCh_keepsConst (n : Nat) {p : Nat × Nat} (hp : p.2 < 512) (hne : p ≠ (c, h)) (u : State) :
    KeepsConst n (convKey c h hi ref) u (u.scaleCh num den p) :=
  foldl_rel (R := KeepsConst n (convKey c h hi ref)) (fun _ => .refl) .trans
    (fun v _ hx => scaleForm_keepsConst num den hh hr n hp hx (.inl hne) v) u

/-- Each range and reference of a channel is scaled once. -/
theorem scaleCh_scaled (u : State) : sfind (u.scaleCh num den (c, h)).cal.consts (convKey c h hi ref) = some (u.scaled num den (c, h) (hi, ref)) := by
  obtain ⟨y, hbefore, hafter⟩ := foldl_turn (R := KeepsConst u.cal.step (convKey c h hi ref)) (fun _ => .refl) .trans
    (f := State.scaleForm num den (c, h)) (l := chanForms) (by decide) (mem_chanForms.2 hr)
    (fun v x hx hne => scaleForm_keepsConst num den hh hr _ hh hx (.inr hne) v) u
  obtain ⟨hconsts, hsame⟩ := hbefore rfl
  have hstep : (y.scaleForm num den (c, h) (hi, ref)).cal.step = u.cal.step := hconsts.step
  have hsc : y.scaled num den (c, h) (hi, ref) = u.scaled num den (c, h) (hi, ref) := scaled_congr hsame
  rw [scaleCh_eq, (hafter hstep).2, ← hsc]
  exact sfind_sset_same ..

theorem meanCluster_keepsConst {n : Nat} (h8 : n < 8) {d : Nat} (hne : d ≠ c ∨ h / 64 ≠ n) (u : State) :
    KeepsConst n (convKey c h hi ref) u (u.meanCluster num den d) :=
  foldl_rel (R := KeepsConst n (convKey c h hi ref)) (fun _ => .refl) .trans (fun v i hi hn =>
    have hi64 := List.mem_range.1 hi
    scaleCh_keepsConst num den hh hr n (p := (d, 64 * v.cal.step + i)) (by show 64 * v.cal.step + i < 512; omega)
      (fun he => by
        obtain ⟨hd, he⟩ := Prod.mk.inj he
        omega) v hn) u

theorem meanCluster_scaled {u : State} (hn : h / 64 = u.cal.step) (h8 : u.cal.step < 8) :
    sfind (u.meanCluster num den c).cal.consts (convKey c h hi ref) = some (u.scaled num den (c, h) (hi, ref)) := by
  obtain ⟨y, hbefore, hafter⟩ := foldl_turn (R := KeepsConst u.cal.step (convKey c h hi ref)) (fun _ => .refl) .trans
    (f := fun (s : State) i => s.scaleCh num den (c, 64 * s.cal.step + i)) (l := List.range 64) List.nodup_range
    (List.mem_range.2 (Nat.mod_lt h (by decide : 0 < 64)))
    (fun v i hi hne hv =>
      have hi64 := List.mem_range.1 hi
      scaleCh_keepsConst num den hh hr _ (p := (c, 64 * v.cal.step + i)) (by show 64 * v.cal.step + i < 512; omega)
        (fun he => by
          obtain ⟨-, he⟩ := Prod.mk.inj he
          omega) v hv) u
  obtain ⟨hconsts, hsame⟩ := hbefore rfl
  have hself : 64 * y.cal.step + h % 64 = h := by
    rw [hconsts.step, ← hn]
    omega
  rw [hself] at hafter
  have hstep : (y.scaleCh num den (c, h)).cal.step = u.cal.step := (scaleCh_constsOnly num den y (c, h)).step.trans hconsts.step
  have hsc : y.scaled num den (c, h) (hi, ref) = u.scaled num den (c, h) (hi, ref) := scaled_congr hsame
  rw [State.meanCluster, (hafter hstep).2, scaleCh_scaled num den hh hr, hsc]

end

theorem meanCluster_constsOnly (num : Int) (den : Nat) (s : State) (c : Nat) : ConstsOnly s (s.meanCluster num den c) :=
  foldl_rel (R := ConstsOnly) (fun _ => .refl) .trans (fun _ _ _ => scaleCh_constsOnly ..) s

theorem nodup_meanCl (s : State) : s.meanCl.Nodup := (List.nodup_range.filter _).filter _

section
variable (s : State) (sum : Int) (k : Nat) {c h ref : Nat} {hi : Bool} (hh : h < 512) (hr : ref < 3) (h8 : s.cal.step < 8)
include hh hr h8

theorem meanApply_other (hne : ¬ (c ∈ s.meanCl ∧ h / 64 = s.cal.step)) :
    sfind (s.meanApply sum k).cal.consts (convKey c h hi ref) = sfind s.cal.consts (convKey c h hi ref) := by
  rw [meanApply_eq]
  refine (foldl_rel (R := KeepsConst s.cal.step (convKey c h hi ref)) (fun _ => .refl) .trans (fun u d hd =>
    meanCluster_keepsConst sum _ hh hr h8 ?_ u) s rfl).2
  by_cases hc : d = c
  · exact .inr fun hstep => hne ⟨hc ▸ hd, hstep⟩
  · exact .inl hc

theorem meanApply_scaled (hc : c ∈ s.meanCl) (hn : h / 64 = s.cal.step) :
    sfind (s.meanApply sum k).cal.consts (convKey c h hi ref) = some (s.scaled sum (256000 * k) (c, h) (hi, ref)) := by
  obtain ⟨y, hbefore, hafter⟩ := foldl_turn (R := KeepsConst s.cal.step (convKey c h hi ref)) (fun _ => .refl) .trans
    (f := State.meanCluster sum (256000 * k)) (nodup_meanCl s) hc
    (fun v d _ hne => meanCluster_keepsConst sum _ hh hr h8 (.inl hne) v) s
  obtain ⟨hconsts, hsame⟩ := hbefore rfl
  have hstep : (y.meanCluster sum (256000 * k) c).cal.step = s.cal.step := (meanCluster_constsOnly sum _ y c).step.trans hconsts.step
  have hsc : y.scaled sum (256000 * k) (c, h) (hi, ref) = s.scaled sum (256000 * k) (c, h) (hi, ref) := scaled_congr hsame
  rw [meanApply_eq, (hafter hstep).2, meanCluster_scaled sum _ hh hr (by rw [hconsts.step, hn]) (by rw [hconsts.step]; exact h8), hsc]

end

theorem meanApply_constsOnly (s : State) (sum : Int) (k : Nat) : ConstsOnly s (s.meanApply sum k) :=
  foldl_rel (R := ConstsOnly) (fun _ => .refl) .trans (fun u c _ => meanCluster_constsOnly sum (256000 * k) u c) s

theorem runs_meanStep {s : State} (hb : s.cal.busy = true) (ha : s.cal.again = []) (h8 : s.cal.step < 8) (h5 : s.cal.op = 5)
    {d : Int} {n : Nat} (hmean : s.cal.mean = some (d, n)) (l : List CalMeas) (m : List PortMeas) (t : Nat) {c0 h0 r0 : Nat} {hi : Bool}
    (hh : h0 < 512) (hr : r0 < 3) : Runs (.calStepDone l m t) s fun u => u.cal.step = s.cal.step + 1 ∧ u.cal.busy = true ∧ u.cal.mean = some (d, n)
      ∧ (c0 ∈ s.meanCl ∧ h0 / 64 = s.cal.step → sfind u.cal.consts (convKey c0 h0 hi r0) = some { s.convConst c0 h0 hi r0 with
          gain := (2 * (s.convConst c0 h0 hi r0).gain * pow10Q d (256000 * n) + fix1) / (2 * fix1) })
      ∧ (¬ (c0 ∈ s.meanCl ∧ h0 / 64 = s.cal.step) → sfind u.cal.consts (convKey c0 h0 hi r0) = sfind s.cal.consts (convKey c0 h0 hi r0)) := by
  have hpass : (s.passTo t).cal = s.cal := passTo_cal s t
  have h8' : (s.passTo t).cal.step < 8 := by rwa [hpass]
  have hscaled : (s.passTo t).scaled d (256000 * n) (c0, h0) (hi, r0) = s.scaled d (256000 * n) (c0, h0) (hi, r0) :=
    scaled_congr (by rw [hpass])
  have hown := meanApply_scaled (s.passTo t) d n (c := c0) (hi := hi) hh hr h8'
  have hother := meanApply_other (s.passTo t) d n (c := c0) (hi := hi) hh hr h8'
  rw [passTo_meanCl, hpass] at hown hother
  rw [hscaled] at hown
  obtain ⟨k, e, c, hv⟩ := meanApply_constsOnly (s.passTo t) d n
  have hgo : doCalStep l m t s = ((s.passTo t).meanApply d n).calUnhold.stepOn State.optStep := doCalStep_mean hb ha h8 l m t h5 hmean
  generalize (s.passTo t).meanApply d n = v at *
  have hcal : v.cal = { s.cal with consts := k, delta := e, deltaC := c } := by rw [hv, ← hpass]; rfl
  have hstep := stepOn_stepped optStep_stepped v.calUnhold
  have hun := unheld_stepped v
  refine .of_eq (exec_calStepDone l m t s) hgo ⟨?_, ?_, ?_, fun hin => ?_, fun hout => ?_⟩
  · rw [hstep.step, hun.step, hcal]
  · rw [hstep.busy, hun.busy, hcal, hb]
  · rw [hstep.mean, hun.mean, hcal, hmean]
  · rw [hstep.consts, hun.consts]
    exact hown hin.1 hin.2
  · rw [hstep.consts, hun.consts]
    exact hother hout

/-! ### The end of a run (R472, R478) -/

theorem exec_calRunDone (t : Nat) (s : State) : exec (.calRunDone t) s = .next (doCalRunDone t s) := rfl

/-- The kind of a calibration in CAL_LAST. -/
abbrev calKind (op : Nat) : Nat := if op = 4 then 0 else 1

/-- The engine behind a calibration that has completed. -/
def State.calEnded (s : State) : State :=
  s.setCal { s.cal with
    busy := false, result := 1, cause := 0, doneC := (s.scopeCl.filter fun c => decide (3 < s.cal.op) || decide (c < 136)).length, stage := 0
    last := some s.cal.undo, stored := s.cal.consts }

theorem doCalRunDone_calib {s : State} (hb : s.cal.busy = true) (h8 : s.cal.step = 8) (hop : s.cal.op = 4 ∨ s.cal.op = 5) (t : Nat) :
    doCalRunDone t s = ((s.passTo t).calEnded.setReg .CAL_LAST [calKind s.cal.op] (wd ((s.passTo t).clr.now / secNs))).setReg .CAL_DELTA []
      (wd (s.cal.deltaC * 2 ^ 16 + s.cal.delta)) := by
  have hpass : (s.passTo t).cal = s.cal := passTo_cal s t
  unfold doCalRunDone State.calEnded
  simp only [hpass]
  rcases hop with h | h <;> simp [h, hb, h8, calKind]

theorem runs_calRunDone {s : State} (hb : s.cal.busy = true) (h8 : s.cal.step = 8) (hop : s.cal.op = 4 ∨ s.cal.op = 5) (t : Nat) :
    Runs (.calRunDone t) s fun u => u.cal.busy = false
      ∧ u.cal.result = 1 ∧ u.cal.cause = 0 ∧ u.cal.stored = s.cal.consts ∧ u.cal.last = some s.cal.undo ∧ u.cal.consts = s.cal.consts
      ∧ u.reg .CAL_LAST [if s.cal.op = 4 then 0 else 1] = wd ((s.passTo t).clr.now / secNs)
      ∧ u.reg .CAL_DELTA [] = wd (s.cal.deltaC * 2 ^ 16 + s.cal.delta)
      ∧ otherRegs [Reg.CAL_LAST.at [if s.cal.op = 4 then 0 else 1], Reg.CAL_DELTA.at []] s u ∧ changesOnly [.regs, .clr, .cal] s u := by
  have hpass : (s.passTo t).cal = s.cal := passTo_cal s t
  have hend : Keeps 0x80080 s (s.passTo t).calEnded := by
    unfold State.calEnded
    exact (setCal_keeps ..).step ((passTo_keeps ..).step .refl rfl) rfl
  have hdiff : Reg.CAL_DELTA.at [] ≠ Reg.CAL_LAST.at [calKind s.cal.op] := by
    rcases hop with h | h <;> rw [h] <;> decide
  have hundo : (s.passTo t).calEnded.cal.last = some s.cal.undo := by rw [← hpass]; rfl
  have hstored : (s.passTo t).calEnded.cal.stored = s.cal.consts := by rw [← hpass]; rfl
  have hconsts : (s.passTo t).calEnded.cal.consts = s.cal.consts := by rw [← hpass]; rfl
  refine .of_eq (exec_calRunDone t s) (doCalRunDone_calib hb h8 hop t) ⟨rfl, rfl, rfl, hstored, hundo, hconsts, ?_, reg_setReg_same .., ?_, ?_⟩
  · exact (reg_setReg_ne _ _ hdiff).trans (reg_setReg_same ..)
  · exact (otherRegs.of_regs (hend.frame .regs rfl)).trans ((otherRegs.setReg (.head _)).trans (.setReg (.tail _ (.head _))))
  · exact Keeps.changesOnly (n := 0x80084) ((setReg_keeps ..).step ((setReg_keeps ..).step (hend.step .refl rfl) rfl) rfl) rfl

/-! ### The statement -/

/-- Settles O60, one lemma per clause. -/
theorem calibrationSteps : Obligations.CalibrationSteps := by
  intro s t c x l m c0 h0 r0 hi d n
  refine ⟨fun hb h6 hn hx => ?_, fun hb hf hd hn => ⟨fun h1 => ?_, fun h2 => ?_, fun h4 => ?_⟩, fun h => ?_,
    fun hb ha h8 h4 hset => runs_elecStep hb ha h8 l m t h4 hset c0 h0 r0 hi,
    fun hb ha h8 h4 hset => runs_elecUnsettled hb ha h8 l m t h4 hset,
    fun hb ha h8 h5 hm hfew => runs_optTooFew hb ha h8 h5 l m t hm hfew,
    fun hb h8 hop => runs_calRunDone hb h8 hop t,
    fun hb ha h8 h5 hm hmany => runs_optMean hb ha h8 h5 l m t hm hmany,
    fun hb ha h8 h5 hm _ hh hr => runs_meanStep hb ha h8 h5 hm l m t hh hr⟩
  · have hp := doTrimPulse_pulsed hb h6 hn hx t
    exact .of_eq (exec_trimPulse s c t) rfl
      ⟨by rw [hp.pulses, sget_sset_same], fun e he => by rw [hp.pulses, sget_sset_ne _ _ _ he.symm], hp.lanes⟩
  · exact .of_eq (exec_probeLayerDwell t s) (dwell_bar hb hf hd h1) (calLayer_staged (by rwa [dwellHit_freeNums]) 2 true).dwelt
  · exact .of_eq (exec_probeLayerDwell t s) (dwell_cross hb hf hd h2) (calLetGo_staged (by rwa [dwellHit_freeNums]) 3).dwelt
  · exact .of_eq (exec_probeLayerDwell t s) (dwell_trim hb hf hd h4) (calLetGo_staged (by rwa [trimHit_freeNums]) 5).trimDwelt
  · exact .of_eq (exec_probeLayerDwell t s) (doProbeLayerDwell_early h) (Keeps.changesOnly (n := 0x80) (passTo_keeps ..) rfl)

end Sys2Proof.Machine
end

section
/-! PROOF. Prale's cores, heartbeat, interrupt controller, sleep and log (O56). -/
namespace Sys2Proof.Machine

/-! ### Processors and heartbeat (R433, R434) -/

theorem exec_lockstepHalt (s : State) : exec .lockstepHalt s = .next (doLockstepHalt s) := rfl
theorem exec_heartbeat (s : State) : exec .heartbeat s = .next (doHeartbeat s) := rfl
theorem exec_heartbeatLate (s : State) : exec .heartbeatLate s = .next (doHeartbeatLate s) := rfl

theorem setPrl_changes (s : State) (p : Prl) : (s.setPrl p).prl = p ∧ changesOnly [.prl] s (s.setPrl p) :=
  ⟨rfl, Keeps.changesOnly (n := 0x100000) (setPrl_keeps ..) rfl⟩

theorem doHeartbeat_runs {s : State} (hh : s.prl.lsHalt = false) (ha : s.prl.awake = true) :
    doHeartbeat s = s.setPrl { s.prl with hbAge := some 0, hbCnt := (s.prl.hbCnt + 1) % 256, hbLate := false } :=
  if_neg (by simp [hh, ha])

theorem heartbeatDue_refreshed {s : State} {n : Nat} (h : s.prl.hbAge = some n) :
    s.heartbeatDue = decide (s.f PRL_WD.WD_MS [] * 1000 ≤ n) := by simp only [State.heartbeatDue, h]

theorem heartbeatDue_first {s : State} (h : s.prl.hbAge = none) :
    s.heartbeatDue = (decide (4 < s.sys.stage) && decide (s.f PRL_WD.WD_MS [] * 1000 ≤ s.prl.bootAge)) := by
  simp only [State.heartbeatDue, h]

theorem runs_heartbeatLate {s : State} (h : s.heartbeatDue = true) : Runs .heartbeatLate s fun u => u.prl = { s.prl with hbLate := true }
    ∧ changesOnly [.prl] s u := .of_eq (exec_heartbeatLate s) (if_pos h) (setPrl_changes ..)

theorem runs_heartbeatInTime {s : State} (h : s.heartbeatDue = false) : Runs .heartbeatLate s fun u => u = s :=
  .of_eq (exec_heartbeatLate s) (if_neg (by simp [h])) rfl

/-! ### Interrupt controller (R437 to R442) -/

theorem exec_interruptEntry (s : State) : exec .interruptEntry s = .next (doInterruptEntry s) := rfl
theorem exec_interruptReturn (s : State) : exec .interruptReturn s = .next (doInterruptReturn s) := rfl

/-- The better of two candidates (R439). -/
def State.icBetter (s : State) (w : Option Nat) (n : Nat) : Option Nat :=
  match w with
  | none => some n
  | some m => if s.icRank n < s.icRank m then some n else some m

theorem icWinner_eq (s : State) : s.icWinner = ((List.range 512).filter s.icQualifies).foldl s.icBetter none := rfl

theorem icWinner_none {s : State} (h : ∀ m, m < 512 → s.icQualifies m = false) : s.icWinner = none := by
  have hnil : (List.range 512).filter s.icQualifies = [] :=
    List.filter_eq_nil_iff.2 fun m hm => by simp [h m (List.mem_range.1 hm)]
  rw [icWinner_eq, hnil]
  rfl

/-- The candidate of lowest rank stays, and it wins where it stands in the list. -/
theorem foldl_icBetter {s : State} {n : Nat} {l : List Nat} (hl : ∀ m ∈ l, m ≠ n → s.icRank n < s.icRank m) (w : Option Nat)
    (hw : ∀ m, w = some m → m ≠ n → s.icRank n < s.icRank m) (hn : w = some n ∨ n ∈ l) : l.foldl s.icBetter w = some n := by
  induction l generalizing w with
  | nil => exact hn.resolve_right (List.not_mem_nil)
  | cons k l ih =>
    refine ih (fun m hm => hl m (.tail _ hm)) _ (fun m hm hne => ?_) ?_
    · cases w with
      | none => exact hl m (Option.some.inj hm ▸ .head _) hne
      | some j =>
        simp only [State.icBetter] at hm
        split at hm
        · exact hl m (Option.some.inj hm ▸ .head _) hne
        · exact hw m hm hne
    · by_cases hk : k = n
      · subst hk
        refine .inl ?_
        cases w with
        | none => rfl
        | some j =>
          by_cases hj : j = k
          · simp [State.icBetter, hj]
          · exact if_pos (hw j rfl hj)
      · refine hn.imp (fun h => ?_) fun h => (List.mem_cons.1 h).resolve_left fun e => hk e.symm
        subst h
        exact if_neg (by have := hl k (.head _) hk; omega)

theorem icWinner_some {s : State} {n : Nat} (hn : n < 512) (hq : s.icQualifies n = true)
    (hr : ∀ m, m < 512 → m ≠ n → s.icQualifies m = true → s.icRank n < s.icRank m) : s.icWinner = some n := by
  rw [icWinner_eq]
  refine foldl_icBetter (fun m hm hne => ?_) none (fun _ h => nomatch h) (.inr (List.mem_filter.2 ⟨List.mem_range.2 hn, hq⟩))
  obtain ⟨hlt, hqm⟩ := List.mem_filter.1 hm
  exact hr m (List.mem_range.1 hlt) hne hqm

theorem doInterruptEntry_fetch {s : State} (hh : s.prl.lsHalt = false) (ha : s.prl.awake = true) {n : Nat} (hw : s.icWinner = some n) :
    doInterruptEntry s = s.icFetch n := by
  unfold doInterruptEntry
  rw [if_neg (by simp [hh, ha]), hw]

theorem doInterruptEntry_spurious {s : State} (hh : s.prl.lsHalt = false) (ha : s.prl.awake = true) (hw : s.icWinner = none) :
    doInterruptEntry s = s.setF IC_CTRL.SPUR [] (min 65535 (s.f IC_CTRL.SPUR [] + 1)) := by
  unfold doInterruptEntry
  rw [if_neg (by simp [hh, ha]), hw]

theorem runs_spurious {s : State} (hh : s.prl.lsHalt = false) (ha : s.prl.awake = true) (hq : ∀ m, m < 512 → s.icQualifies m = false) :
    Runs .interruptEntry s fun u => u.f IC_CTRL.SPUR [] = min 65535 (s.f IC_CTRL.SPUR [] + 1)
      ∧ otherRegs [Reg.IC_CTRL.at []] s u ∧ changesOnly [.regs] s u := by
  refine .of_eq (exec_interruptEntry s) (doInterruptEntry_spurious hh ha (icWinner_none hq))
    ⟨?_, .setF (.head _), Keeps.changesOnly (n := 0x4) (setF_keeps ..) rfl⟩
  rw [f_setF_same _ _ _ _ (by decide)]
  exact Nat.mod_eq_of_lt (Nat.lt_of_le_of_lt (Nat.min_le_left ..) (by decide))

theorem doInterruptReturn_ends {s : State} (hh : s.prl.lsHalt = false) {p : Nat × Nat} {rest : List (Nat × Nat)}
    (ha : s.prl.ic.act = p :: rest) (hq : ∀ m, m < 512 → (s.setIc { s.prl.ic with act := rest }).icQualifies m = false) :
    doInterruptReturn s = s.setIc { s.prl.ic with act := rest } := by
  unfold doInterruptReturn
  rw [if_neg (by simp [hh])]
  split
  case h_1 hnil => exact absurd (ha.symm.trans hnil) nofun
  case h_2 q rest' hcons =>
  obtain rfl : rest' = rest := (List.cons.inj (hcons.symm.trans ha)).2
  extract_lets _ s1
  have hw : s1.icWinner = none := icWinner_none hq
  rw [hw]

theorem hostWr_IC_CTRL {s : State} (h : s.inReset = false) (f : State → State) : s.hostWr .IC_CTRL [] f = f s := by
  have hmode : s.modeOff .IC_CTRL = false := modeOff_of_base s (.inr (by decide))
  have hearly : earlyAt (Reg.IC_CTRL.at []) = true := by decide
  exact hostWr_of_not_shut (by simp [State.shut, h, hmode, hearly])

theorem exec_icGateWrite {s : State} (h : s.inReset = false) (gate : Bool) : exec (.icGateWrite gate) s = .next (doIcGate gate s) :=
  congrArg Host.Outcome.next (hostWr_IC_CTRL h _)

theorem runs_icGateWrite {s : State} (h : s.inReset = false) (hh : s.prl.lsHalt = false) (gate : Bool) : Runs (.icGateWrite gate) s fun u =>
    u.f IC_CTRL.GATE [] = (if gate then 1 else 0) ∧ u.f IC_CTRL.SPUR [] = s.f IC_CTRL.SPUR [] ∧ otherRegs [Reg.IC_CTRL.at []] s u
      ∧ changesOnly [.regs] s u := by
  refine .of_eq (exec_icGateWrite h gate) (if_neg (by simp [hh])) ⟨?_,
    f_setF_beside (x := IC_CTRL.GATE) (y := IC_CTRL.SPUR) _ _ _ rfl (by decide) (by decide), .setF (.head _),
    Keeps.changesOnly (n := 0x4) (setF_keeps ..) rfl⟩
  rw [f_setF_same _ _ _ _ (by decide)]
  cases gate <;> rfl

/-! ### Sleep and wake (R443, R444) -/

theorem exec_praleSleep (s : State) : exec .praleSleep s = .next (doPraleSleep s) := rfl
theorem exec_praleWake (line : Fin 32) (s : State) : exec (.praleWake line) s = .next (doPraleWake line s) := rfl

theorem sget_filter_of_dropped {α : Type} (d : α) (q : Nat → Bool) (m : SMap α) {a : Nat} (h : q a = false) :
    sget d (m.filter fun p => q p.1) a = d := by
  induction m with
  | nil => rfl
  | cons p m ih =>
    rw [List.filter_cons]
    split
    case isTrue hp =>
      rw [sget, if_neg fun e => by rw [e, h] at hp; cases hp]
      exact ih
    case isFalse => exact ih

/-- An interrupt source that nothing has written is not enabled (R15, R458). -/
theorem EN_dflt (stage n : Nat) : fget 31 1 (Reg.IC_SRC.dflt stage [n]) = 0 := by
  have hhw : Reg.hw .IC_SRC [n] = b2n (icFiltered n) := rfl
  have hfw : Reg.fw .IC_SRC [n] = 0 := rfl
  unfold Reg.dflt
  rw [hhw, hfw]
  cases icFiltered n <;> split <;> decide

/-- The sources as they lose power. -/
def State.icCleared (s : State) : State :=
  { s with regs := s.regs.filter fun p : Nat × Word => !(decide (0x40000400 ≤ p.1) && decide (p.1 < 0x40000C00)) }

/-- The word with which a retained source wakes. -/
def State.icKept (s : State) (n : Nat) (z : State) : Word := (z.reg .IC_SRC [n] &&& 0x700000FF) ||| (s.reg .IC_SRC [n] &&& 0x80FF0000)

/-- One retained source is saved. -/
def State.icKeep (s z : State) (n : Nat) : State := z.setReg .IC_SRC [n] (s.icKept n z)

theorem icSave_eq (s : State) : s.icSave = icRetained.foldl s.icKeep s.icCleared := rfl

theorem icKeep_reg_ne (s z : State) {n m : Nat} (h : n ≠ m) : (s.icKeep z n).reg .IC_SRC [m] = z.reg .IC_SRC [m] :=
  reg_setReg_ne _ _ (by rw [at_IC_SRC, at_IC_SRC]; omega)

theorem icSave_EN {s : State} {m : Nat} (hm : m < 512) (h : m ∉ icRetained) : s.icSave.f IC_SRC.EN [m] = 0 := by
  have hkeep : s.icSave.reg .IC_SRC [m] = s.icCleared.reg .IC_SRC [m] := by
    rw [icSave_eq]
    exact foldl_rel (R := fun s u : State => u.reg .IC_SRC [m] = s.reg .IC_SRC [m]) (fun _ => rfl) (fun h k => k.trans h)
      (fun z n hn => icKeep_reg_ne s z fun e => h (e ▸ hn)) _
  have hclear : s.icCleared.reg .IC_SRC [m] = Reg.IC_SRC.dflt s.sys.stage [m] :=
    sget_filter_of_dropped _ (fun a => !(decide (0x40000400 ≤ a) && decide (a < 0x40000C00))) s.regs
      (by rw [at_IC_SRC]; simp; omega)
  rw [State.f, show IC_SRC.EN.reg = .IC_SRC from rfl, hkeep, hclear]
  exact EN_dflt ..

/-- A retained source wakes with its own EN, GRP and SUB. -/
theorem icSave_kept {s : State} {m : Nat} (h : m ∈ icRetained) : ∃ z : State, s.icSave.reg .IC_SRC [m] = s.icKept m z := by
  obtain ⟨z, -, hz⟩ := foldl_turn (R := fun s u : State => u.reg .IC_SRC [m] = s.reg .IC_SRC [m]) (fun _ => rfl) (fun h k => k.trans h)
    (f := s.icKeep) (l := icRetained) (by decide) h (fun z n _ hne => icKeep_reg_ne s z hne) s.icCleared
  exact ⟨z, by rw [icSave_eq, hz]; exact reg_setReg_same ..⟩

theorem fget_icKept (s z : State) (m : Nat) {lo len : Nat} (h : ∀ i < len, (0x700000FF : Word).toNat.testBit (lo + i) = false
    ∧ (0x80FF0000 : Word).toNat.testBit (lo + i) = true) : fget lo len (s.icKept m z) = fget lo len (s.reg .IC_SRC [m]) := by
  refine Nat.eq_of_testBit_eq fun i => ?_
  rw [testBit_fget, testBit_fget, State.icKept, BitVec.toNat_or, Nat.testBit_or, BitVec.toNat_and, BitVec.toNat_and, Nat.testBit_and,
    Nat.testBit_and]
  by_cases hi : i < len
  · obtain ⟨h0, h1⟩ := h i hi
    rw [h0, h1]
    simp
  · simp [hi]

theorem f_icSave_kept {s : State} {m : Nat} (h : m ∈ icRetained) {lo len : Nat} (hm : ∀ i < len, (0x700000FF : Word).toNat.testBit (lo + i) = false
    ∧ (0x80FF0000 : Word).toNat.testBit (lo + i) = true) : s.icSave.f ⟨.IC_SRC, lo, len⟩ [m] = s.f ⟨.IC_SRC, lo, len⟩ [m] := by
  obtain ⟨z, hz⟩ := icSave_kept h
  exact (congrArg (fget lo len) hz).trans (fget_icKept s z m hm)

theorem runs_praleSleep {s : State} (ha : s.prl.awake = true) : Runs .praleSleep s fun u => u.prl.awake = false ∧ u.prl.ic.pend = [] ∧ u.prl.ic.act = []
      ∧ u.prl.ic.kept.map (fun k => k.1) = [416, 417, 432] ∧ u.prl.logBuf = s.prl.logBuf ∧ (∀ m, m < 512 → m ∉ icRetained → u.f IC_SRC.EN [m] = 0)
      ∧ (∀ m ∈ icRetained, u.f IC_SRC.EN [m] = s.f IC_SRC.EN [m] ∧ u.f IC_SRC.GRP [m] = s.f IC_SRC.GRP [m]
        ∧ u.f IC_SRC.SUB [m] = s.f IC_SRC.SUB [m]) ∧ changesOnly [.regs, .prl] s u := by
  have hsleep : doPraleSleep s = s.icSave.setPrl { s.prl with
      awake := false
      ic := ⟨[], [], [], icRetained.map fun n => (n, s.reg .IC_SRC [n], s.prl.ic.pend.contains n)⟩ } := if_neg (by simp [ha])
  have hEN := fun m hm h => icSave_EN (s := s) (m := m) hm h
  have hkept : ∀ m ∈ icRetained, s.icSave.f IC_SRC.EN [m] = s.f IC_SRC.EN [m] ∧ s.icSave.f IC_SRC.GRP [m] = s.f IC_SRC.GRP [m]
      ∧ s.icSave.f IC_SRC.SUB [m] = s.f IC_SRC.SUB [m] := fun m h =>
    ⟨f_icSave_kept h (by decide), f_icSave_kept h (by decide), f_icSave_kept h (by decide)⟩
  have hsave : Keeps 0x4 s s.icSave := icSave_keeps s
  generalize s.icSave = v at hsleep hEN hkept hsave
  exact .of_eq (exec_praleSleep s) hsleep ⟨rfl, rfl, rfl, rfl, rfl, hEN, hkept,
    Keeps.changesOnly (n := 0x100004) ((setPrl_keeps ..).step (hsave.step .refl rfl) rfl) rfl⟩

/-- An edge as the sleeping domain latches it (R444). -/
def Ic.latch (k : Ic) (n : Nat) : Ic :=
  if (n = 416 ∨ n = 417 ∨ n = 432) ∧ k.latched.contains n = false then { k with latched := k.latched ++ [n] } else k

theorem icEdge_wakes {s : State} {n : Nat} (ha : s.prl.awake = false) (hw : s.icWakes n = true) (h2 : 2 < s.sys.stage) :
    s.icEdge n = { s with prl := { s.prl with awake := true, ic := (s.prl.ic.latch n).awoken } } := by
  unfold State.icEdge
  extract_lets k k1
  rw [if_neg (by simp [ha]), if_pos ⟨hw, h2⟩]
  rfl

theorem wakeSrc_retained : ∀ l < 8, (wakeSrc.getD l 0 = 416 ∨ wakeSrc.getD l 0 = 417 ∨ wakeSrc.getD l 0 = 432) ↔ l < 3 := by decide

theorem icWakes_line {s : State} {l : Nat} (hl : l < 8) (hb : bit l (s.reg .IC_WAKE []) = true) : s.icWakes (wakeSrc.getD l 0) = true :=
  List.any_eq_true.2 ⟨l, List.mem_range.2 hl, by simp [hb]⟩

theorem latch_kept (k : Ic) (n : Nat) : (k.latch n).kept = k.kept := by
  unfold Ic.latch
  split <;> rfl

/-- What has come in sleep, the event of a retained line among it. -/
theorem latch_contains (k : Ic) {l : Nat} (hl : l < 8) (a : Nat) : (k.latch (wakeSrc.getD l 0)).latched.contains a
    = (k.latched.contains a || (decide (l < 3) && a == wakeSrc.getD l 0)) := by
  have hret := wakeSrc_retained l hl
  unfold Ic.latch
  by_cases h3 : l < 3
  · by_cases hc : k.latched.contains (wakeSrc.getD l 0) = true
    · rw [if_neg fun h => by rw [hc] at h; exact absurd h.2 (by decide)]
      by_cases ha : a = wakeSrc.getD l 0
      · rw [ha, hc]
        rfl
      · rw [beq_false_of_ne ha, Bool.and_false, Bool.or_false]
    · rw [if_pos ⟨hret.2 h3, by simpa using hc⟩]
      simp [h3, beq_eq_decide]
  · rw [if_neg fun h => h3 (hret.1 h.1)]
    simp [h3]

theorem runs_praleWake {s : State} {line : Fin 32} (ha : s.prl.awake = false) (h2 : 2 < s.sys.stage) (hl : line.val < 8)
    (hb : bit line (s.reg .IC_WAKE []) = true) : Runs (.praleWake line) s fun u => u.prl.awake = true
      ∧ u.prl.ic.act = [] ∧ u.prl.ic.pend = ((s.prl.ic.kept.filter fun k => k.2.2 || s.prl.ic.latched.contains k.1
        || (decide (line.val < 3) && k.1 == wakeSrc.getD line 0)).map fun k => k.1) ∧ changesOnly [.prl] s u := by
  have hwake : doPraleWake line s = s.icEdge (wakeSrc.getD line 0) := if_neg (by simp [ha, hb]; omega)
  refine .of_eq (exec_praleWake line s) (hwake.trans (icEdge_wakes ha (icWakes_line hl hb) h2)) ⟨rfl, rfl, ?_, ?_⟩
  · show (((s.prl.ic.latch _).kept.filter fun p => p.2.2 || (s.prl.ic.latch _).latched.contains p.1).map fun p => p.1) = _
    simp only [latch_kept, latch_contains _ hl, Bool.or_assoc]
  · exact Keeps.changesOnly (n := 0x100000) (Keeps.upd .refl) rfl

theorem runs_praleWake_other {s : State} {line : Fin 32} (h : 8 ≤ line.val ∨ bit line (s.reg .IC_WAKE []) = false) :
    Runs (.praleWake line) s fun u => u = s := by
  refine .of_eq (exec_praleWake line s) (if_pos ?_) rfl
  rcases h with h | h <;> simp [h]

/-! ### The log in flash (R449, R450) -/

theorem exec_logAppend (s : State) : exec .logAppend s = .next (doLogAppend s) := rfl

/-- A write to flash leaves every byte outside its place. -/
theorem flashPut_flashByte {s : State} {a n b : Nat} (d : List Byte) (h : b < a ∨ a + n ≤ b) :
    (s.flashPut a n d).flashByte b = s.flashByte b := by
  have hfind : (s.flashPut a n d).prl.flash.find? (fun w => decide (w.a ≤ b) && decide (b < w.a + w.n))
      = s.prl.flash.find? fun w => decide (w.a ≤ b) && decide (b < w.a + w.n) := by
    rw [show (s.flashPut a n d).prl.flash = ⟨a, n, d⟩ :: s.prl.flash.filter fun w : FlashWr => !(decide (a ≤ w.a) && decide (w.a + w.n ≤ a + n)) from rfl,
      List.find?_cons_of_neg (by simp; omega), List.find?_filter]
    congr 1
    funext w
    by_cases hw : w.a ≤ b ∧ b < w.a + w.n
    · simp [hw]
      omega
    · have hnot : (decide (w.a ≤ b) && decide (b < w.a + w.n)) = false := by simpa using hw
      rw [hnot]
      simp
  simp only [State.flashByte, hfind]

theorem length_logBytes (x : LogEnt) (q : Nat) : (x.bytes q).length = 32 := by simp [LogEnt.bytes]

/-- The sector of the log that a write at offset o enters, erased. -/
def State.sectorEntered (s : State) : State :=
  if s.prl.logOfs % 65536 = 0 then s.flashPut (flashLog + s.prl.logOfs) 65536 [] else s

theorem logWrite_eq (s : State) (x : LogEnt) : s.logWrite x =
    (s.sectorEntered.flashPut (flashLog + s.prl.logOfs) 32 (x.bytes ((s.prl.logSeq + 1) % 2 ^ 32))).setPrl
      { (s.sectorEntered.flashPut (flashLog + s.prl.logOfs) 32 (x.bytes ((s.prl.logSeq + 1) % 2 ^ 32))).prl with
        logOfs := (s.prl.logOfs + 32) % logBytes, logSeq := (s.prl.logSeq + 1) % 2 ^ 32 } := rfl

theorem sectorEntered_prl (s : State) : ∃ m, s.sectorEntered.prl = { s.prl with flash := m } := by
  unfold State.sectorEntered
  split <;> exact ⟨_, rfl⟩

/-- What a log entry written changes of Prale: the flash, the write offset and SEQ. -/
theorem logWrite_prl (s : State) (x : LogEnt) : ∃ m, (s.logWrite x).prl = { s.prl with
    flash := m, logOfs := (s.prl.logOfs + 32) % logBytes, logSeq := (s.prl.logSeq + 1) % 2 ^ 32 } := by
  obtain ⟨m, hm⟩ := sectorEntered_prl s
  rw [logWrite_eq]
  generalize s.sectorEntered = v at *
  refine ⟨(v.flashPut (flashLog + s.prl.logOfs) 32 (x.bytes ((s.prl.logSeq + 1) % 2 ^ 32))).prl.flash, ?_⟩
  unfold State.flashPut State.setPrl
  simp only [hm]

theorem logWrite_flashGet (s : State) (x : LogEnt) :
    (s.logWrite x).flashGet (flashLog + s.prl.logOfs) 32 = x.bytes ((s.prl.logSeq + 1) % 2 ^ 32) := by
  have hlen := length_logBytes x ((s.prl.logSeq + 1) % 2 ^ 32)
  have hget := flashGet_of_newest (s := s.logWrite x) (a := flashLog + s.prl.logOfs) (d := x.bytes ((s.prl.logSeq + 1) % 2 ^ 32))
    (l := s.sectorEntered.prl.flash.filter fun w : FlashWr =>
      !(decide (flashLog + s.prl.logOfs ≤ w.a) && decide (w.a + w.n ≤ flashLog + s.prl.logOfs + 32))) (by rw [hlen]; rfl)
  rwa [hlen] at hget

/-- A log entry leaves the bytes outside its place and, where it enters a sector, outside that. -/
theorem logWrite_flashByte {s : State} (x : LogEnt) {b : Nat} (h : b < flashLog + s.prl.logOfs ∨ flashLog + s.prl.logOfs + 32 ≤ b)
    (hs : s.prl.logOfs % 65536 = 0 → b < flashLog + s.prl.logOfs ∨ flashLog + s.prl.logOfs + 65536 ≤ b) :
    (s.logWrite x).flashByte b = s.flashByte b := by
  have hsector : s.sectorEntered.flashByte b = s.flashByte b := by
    unfold State.sectorEntered
    split
    case isTrue h0 => exact flashPut_flashByte [] (hs h0)
    case isFalse => rfl
  rw [logWrite_eq]
  exact (flashPut_flashByte _ h).trans hsector

theorem runs_logAppend_entry {s : State} {x : LogEnt} {more : List LogEnt} (hh : s.prl.lsHalt = false) (h0 : s.prl.logLost = 0)
    (hb : s.prl.logBuf = x :: more) : Runs .logAppend s fun u => u.prl.logBuf = more
      ∧ u.prl.logSeq = (s.prl.logSeq + 1) % 2 ^ 32 ∧ u.prl.logOfs = (s.prl.logOfs + 32) % logBytes
      ∧ u.flashGet (flashLog + s.prl.logOfs) 32 = x.bytes ((s.prl.logSeq + 1) % 2 ^ 32) ∧ changesOnly [.prl] s u := by
  have hdo : doLogAppend s = (s.setPrl { s.prl with logBuf := more }).logWrite x := by
    unfold doLogAppend
    extract_lets p
    rw [if_neg (by simp [p, hh]), if_neg (not_not_intro h0)]
    split
    case h_1 hnil => exact absurd (hb.symm.trans hnil) nofun
    case h_2 y rest hcons =>
    obtain ⟨rfl, rfl⟩ := List.cons.inj (hcons.symm.trans hb)
    rfl
  obtain ⟨m, hprl⟩ := logWrite_prl (s.setPrl { s.prl with logBuf := more }) x
  refine .of_eq (exec_logAppend s) hdo ⟨by rw [hprl]; rfl, by rw [hprl]; rfl, by rw [hprl]; rfl, logWrite_flashGet (s.setPrl { s.prl with logBuf := more }) x, ?_⟩
  exact Keeps.changesOnly (n := 0x100000) ((logWrite_keeps ..).step ((setPrl_keeps ..).step .refl rfl) rfl) rfl

/-! ### The log after a loss (R449, R450, R456) -/

/-- The state with the entry written that tells the count lost. -/
def State.lossTold (s : State) : State :=
  let s1 := s.logWrite ⟨0x0F, 0, 0, s.clr.now, [wd s.prl.logLost]⟩
  s1.setPrl { s1.prl with logLost := 0 }

theorem lossTold_prl (s : State) : ∃ m, s.lossTold.prl = { s.prl with
    flash := m, logOfs := (s.prl.logOfs + 32) % logBytes, logSeq := (s.prl.logSeq + 1) % 2 ^ 32, logLost := 0 } := by
  obtain ⟨m, hm⟩ := logWrite_prl s ⟨0x0F, 0, 0, s.clr.now, [wd s.prl.logLost]⟩
  unfold State.lossTold
  generalize s.logWrite ⟨0x0F, 0, 0, s.clr.now, [wd s.prl.logLost]⟩ = v at *
  refine ⟨m, ?_⟩
  unfold State.setPrl
  simp only [hm]

theorem doLogAppend_loss {s : State} (hh : s.prl.lsHalt = false) (h : s.prl.logLost ≠ 0) : doLogAppend s =
    (s.lossTold.logWrite ⟨4, 4, 4, s.clr.now, [wd s.prl.logLost]⟩).postRaw 6 0x60 4 [wd s.prl.logLost] := by
  unfold doLogAppend
  extract_lets p s1
  rw [if_neg (by simp [p, hh]), if_pos h]
  rfl

/-- The entry of LOG_LOST does not reach the place of the entry before it. -/
theorem lossTold_entry_stays (s : State) (x : LogEnt) :
    (s.lossTold.logWrite x).flashGet (flashLog + s.prl.logOfs) 32 = s.lossTold.flashGet (flashLog + s.prl.logOfs) 32 := by
  obtain ⟨m, hm⟩ := lossTold_prl s
  have hofs : s.lossTold.prl.logOfs = (s.prl.logOfs + 32) % logBytes := by rw [hm]
  refine List.map_congr_left fun i hi => ?_
  have hi32 := List.mem_range.1 hi
  have hbytes : logBytes = 16777216 := rfl
  refine logWrite_flashByte x ?_ fun h0 => ?_ <;> rw [hofs, hbytes] at * <;> omega

theorem flashGet_congr {s u : State} (h : u.prl.flash = s.prl.flash) (a n : Nat) : u.flashGet a n = s.flashGet a n := by
  have hbyte : u.flashByte = s.flashByte := by
    funext b
    simp only [State.flashByte, h]
  rw [State.flashGet, hbyte, State.flashGet]

theorem lossTold_flash (s : State) :
    s.lossTold.prl.flash = (s.logWrite ⟨0x0F, 0, 0, s.clr.now, [wd s.prl.logLost]⟩).prl.flash := by
  unfold State.lossTold State.setPrl
  rfl

theorem lossTold_flashGet (s : State) : s.lossTold.flashGet (flashLog + s.prl.logOfs) 32
    = (⟨0x0F, 0, 0, s.clr.now, [wd s.prl.logLost]⟩ : LogEnt).bytes ((s.prl.logSeq + 1) % 2 ^ 32) :=
  (flashGet_congr (lossTold_flash s) ..).trans (logWrite_flashGet ..)

theorem lossTold_keeps (s : State) : Keeps 0x100000 s s.lossTold := by
  unfold State.lossTold
  extract_lets s1
  exact (setPrl_keeps ..).step ((logWrite_keeps ..).step .refl rfl) rfl

theorem postRaw_enabled {s : State} {cls code sub : Nat} {pl : List Word} (h : bit cls (s.reg .HIF_EVT_EN []) = true) :
    (s.postRaw cls code sub pl).hif.evq = s.hif.evq ++ [⟨fget (4 * cls) 4 (s.reg .HIF_EVT_ROUTE []), cls, code, sub, s.tag, pl⟩] := by
  rw [State.postRaw, if_pos h]

theorem runs_logAppend_loss {s : State} (hh : s.prl.lsHalt = false) (h : s.prl.logLost ≠ 0) :
    Runs .logAppend s fun u => u.prl.logLost = 0 ∧ u.prl.logBuf = s.prl.logBuf
      ∧ u.prl.logSeq = (s.prl.logSeq + 2) % 2 ^ 32 ∧ u.prl.logOfs = (s.prl.logOfs + 64) % logBytes
      ∧ u.flashGet (flashLog + s.prl.logOfs) 32 = (⟨0x0F, 0, 0, s.clr.now, [wd s.prl.logLost]⟩ : LogEnt).bytes ((s.prl.logSeq + 1) % 2 ^ 32)
      ∧ (bit 6 (s.reg .HIF_EVT_EN []) = true → u.hif.evq = s.hif.evq ++
        [(⟨fget 24 4 (s.reg .HIF_EVT_ROUTE []), 6, 0x60, 4, s.tag, [wd s.prl.logLost]⟩ : Evt)]) ∧ changesOnly [.hif, .prl] s u := by
  have hdo := doLogAppend_loss hh h
  have hbytes := (lossTold_entry_stays s ⟨4, 4, 4, s.clr.now, [wd s.prl.logLost]⟩).trans (lossTold_flashGet s)
  obtain ⟨m, hm⟩ := lossTold_prl s
  obtain ⟨k, hk⟩ := logWrite_prl s.lossTold ⟨4, 4, 4, s.clr.now, [wd s.prl.logLost]⟩
  have hw : Keeps 0x100000 s (s.lossTold.logWrite ⟨4, 4, 4, s.clr.now, [wd s.prl.logLost]⟩) := (logWrite_keeps ..).step (lossTold_keeps s) rfl
  generalize s.lossTold.logWrite ⟨4, 4, 4, s.clr.now, [wd s.prl.logLost]⟩ = v at *
  have hpost := postRaw_keeps v 6 0x60 4 [wd s.prl.logLost]
  have hprl : (v.postRaw 6 0x60 4 [wd s.prl.logLost]).prl = v.prl := hpost.frame .prl rfl
  refine .of_eq (exec_logAppend s) hdo ⟨by rw [hprl, hk, hm], by rw [hprl, hk, hm], ?_, ?_, ?_, fun h6 => ?_, ?_⟩
  · rw [hprl, hk, hm]
    show ((s.prl.logSeq + 1) % 2 ^ 32 + 1) % 2 ^ 32 = _
    rw [Nat.mod_add_mod]
  · rw [hprl, hk, hm]
    show ((s.prl.logOfs + 32) % logBytes + 32) % logBytes = _
    rw [Nat.mod_add_mod]
  · exact (flashGet_congr (congrArg Prl.flash hprl) ..).trans hbytes
  · have hreg : v.regs = s.regs := hw.frame .regs rfl
    rw [postRaw_enabled (by rwa [reg_congr hreg (hw.stage rfl)]), reg_congr hreg (hw.stage rfl), State.tag, hw.frame .clr rfl, hw.frame .hif rfl,
      State.tag]
  · exact Keeps.changesOnly (n := 0x102000) (hpost.step (hw.step .refl rfl) rfl) rfl

/-! ### The statement -/

/-- Settles O56, one lemma per clause. -/
theorem praleProcessors : Obligations.PraleProcessors := by
  intro s n gate line p rest x more
  refine ⟨.of_eq (exec_lockstepHalt s) rfl (setPrl_changes ..),
    fun hh ha => .of_eq (exec_heartbeat s) (doHeartbeat_runs hh ha) (setPrl_changes ..),
    fun hb hd => runs_heartbeatLate (by simp [heartbeatDue_refreshed hb, hd]),
    fun hb hd => runs_heartbeatInTime (by simp [heartbeatDue_refreshed hb, hd]),
    fun hh ha hn hq hr => .of_eq (exec_interruptEntry s) (doInterruptEntry_fetch hh ha (icWinner_some hn hq hr)) (setPrl_changes ..),
    fun hh ha hq => runs_spurious hh ha hq,
    fun hh ha hq => .of_eq (exec_interruptReturn s) (doInterruptReturn_ends hh ha hq) (setPrl_changes ..),
    fun h hh => runs_icGateWrite h hh gate, fun ha => runs_praleSleep ha, fun ha h2 hl hb => runs_praleWake ha h2 hl hb,
    fun h => runs_praleWake_other h, fun hh h0 hb => runs_logAppend_entry hh h0 hb,
    fun hb h4 hd => runs_heartbeatLate (by simp [heartbeatDue_first hb, h4, hd]),
    fun hb hd => runs_heartbeatInTime (by simp [heartbeatDue_first hb]; omega), fun hh h hn => ?_⟩
  subst h
  exact runs_logAppend_loss hh hn

end Sys2Proof.Machine
end

section
/-! PROOF. The SMBus window (O58). -/
namespace Sys2Proof.Machine

/-! ### The start of an access (R437, R445) -/

theorem icEdge_prl (s : State) (n : Nat) : ∃ k a, (s.icEdge n).prl = { s.prl with ic := k, awake := a } := by
  unfold State.icEdge
  extract_lets k k1
  split_ifs <;> exact ⟨_, _, rfl⟩

/-- An access has been addressed to the module: of Prale only the interrupt controller and its sleep may have changed. -/
structure Addressed (s u : State) : Prop where
  prl : ∃ k a, u.prl = { s.prl with ic := k, awake := a }
  kept : Keeps 0x100084 s u

theorem smbStart_addressed (s : State) (t : Nat) : Addressed s (s.passTo t).smbStart := by
  refine ⟨?_, (icEdge_keeps ..).step ((passTo_keeps ..).step .refl rfl) rfl⟩
  rw [← passTo_prl s t]
  exact icEdge_prl ..

theorem Keeps.smbAddr {m : Nat} {s u : State} (h : Keeps m s u) (hm : m.testBit 0 = false) : u.smbAddr = s.smbAddr := by
  obtain ⟨-, hpref, -⟩ := h.frame .straps hm
  rw [State.smbAddr, State.smbAddr, hpref]

theorem Keeps.readPec {m : Nat} {s u : State} (h : Keeps m s u) (hm : m.testBit 0 = false) (code : Nat) (v : Word) :
    u.readPec code v = s.readPec code v := by rw [State.readPec, State.readPec, h.smbAddr hm]

theorem oobGive_oob (u : State) (code : Nat) (v : Word) :
    (u.oobGive code v).prl.oob = { u.prl.oob with pec := u.readPec code (u.oobGive code v).rdata } := by
  unfold State.oobGive State.setOob State.setPrl
  rfl

section
variable {s u : State} (h : Addressed s u)
include h

theorem Addressed.oob : u.prl.oob = s.prl.oob := by
  obtain ⟨_, _, hp⟩ := h.prl
  rw [hp]

theorem Addressed.owner : u.prl.owner = s.prl.owner := by
  obtain ⟨_, _, hp⟩ := h.prl
  rw [hp]

theorem Addressed.extent : u.prl.extent = s.prl.extent := by
  obtain ⟨_, _, hp⟩ := h.prl
  rw [hp]

theorem Addressed.flash : u.prl.flash = s.prl.flash := by
  obtain ⟨_, _, hp⟩ := h.prl
  rw [hp]

theorem Addressed.smbAddr : u.smbAddr = s.smbAddr := h.kept.smbAddr rfl

theorem Addressed.readPec (code : Nat) (v : Word) : u.readPec code v = s.readPec code v := h.kept.readPec rfl code v

theorem Addressed.pecOf (code : Nat) (v : Word) : u.pecOf code v = s.pecOf code v := by rw [State.pecOf, State.pecOf, h.smbAddr]

/-- The word given, and its packet error code. -/
theorem Addressed.gives (code : Nat) (v : Word) : (u.oobGive code v).rdata = v
    ∧ (u.oobGive code v).prl.oob = { s.prl.oob with pec := s.readPec code (u.oobGive code v).rdata }
    ∧ changesOnly [.regs, .clr, .prl, .rdata] s (u.oobGive code v) := by
  refine ⟨rfl, ?_, Keeps.changesOnly (n := 0x500084) ((oobGive_keeps ..).step (h.kept.step .refl rfl) rfl) rfl⟩
  rw [oobGive_oob, h.oob, h.readPec]

/-- The window after a write that stores its registers. -/
theorem Addressed.stores (o : Oob) : (u.setOob o).prl.oob = o ∧ changesOnly [.regs, .clr, .prl] s (u.setOob o) :=
  ⟨rfl, Keeps.changesOnly (n := 0x100084) ((setOob_keeps ..).step (h.kept.step .refl rfl) rfl) rfl⟩

theorem Addressed.fails (code : Nat) : (u.oobFail code).prl.oob = { s.prl.oob with err := true, code := code }
    ∧ changesOnly [.regs, .clr, .prl] s (u.oobFail code) := by
  rw [← h.oob]
  exact h.stores _

end

/-! ### Reads (R446, R448) -/

theorem oobRead_low {u : State} (ha : u.prl.oob.addr < 0x20000000) : u.oobRead = u.freeRead.oobFail 1 := by
  have h1 : inBar u.prl.oob.addr = false := by simp [inBar]; omega
  have h2 : inFlash u.prl.oob.addr = false := by simp [inFlash]; omega
  have h3 : inIc u.prl.oob.addr = false := by simp [inIc]; omega
  have h4 : inWatch u.prl.oob.addr = false := by simp [inWatch]; omega
  unfold State.oobRead
  simp only [h1, h2, h3, h4, Bool.false_eq_true, if_false]

theorem oobStatus_eq (u : State) :
    u.oobStatus = wd ((if u.prl.awake then 256 else 0) + u.prl.oob.code * 2 + (if u.prl.oob.err then 1 else 0)) := by
  unfold State.oobStatus
  cases u.prl.awake <;> cases u.prl.oob.err <;> simp [b2n]

/-- ERR is bit 0 of OOB_STATUS (R448). -/
theorem fget_status (awake err : Bool) (code : Nat) :
    fget 0 1 (wd ((if awake then 256 else 0) + code * 2 + (if err then 1 else 0))) = if err then 1 else 0 := by
  simp only [fget, wd, BitVec.toNat_ofNat, Nat.shiftRight_zero, pow_one]
  split_ifs <;> omega

theorem prefetch_low {u : State} (h : inFlash u.prl.oob.addr = false) : u.prefetch = u := by
  unfold State.prefetch
  exact if_neg (by simp [h])

theorem exec_write32 (code : Byte) (v : Word) (pec : Option Byte) (t : Nat) (s : State) : exec (.write32 code v pec t) s
    = .next (doWrite32 code.toNat v pec t s) := rfl

/-- What a write does whose packet error code, if any, is right. -/
def State.oobStores (s : State) (code : Nat) (v : Word) : State :=
  match code with
  | 1 => if bit 0 v then s.setOob { s.prl.oob with err := false } else s
  | 2 => State.prefetch (s.setOob { s.prl.oob with addr := v.toNat / 4 * 4 })
  | 3 => s.oobWrite v
  | _ => s.setOob { s.prl.oob with alertEn := bit 1 v, inc := bit 0 v }

theorem oobStores_status {u : State} {v : Word} (h : bit 0 v = true) : u.oobStores 1 v = u.setOob { u.prl.oob with err := false } := if_pos h
theorem oobStores_addr (u : State) (v : Word) : u.oobStores 2 v = (u.setOob { u.prl.oob with addr := v.toNat / 4 * 4 }).prefetch := rfl
theorem oobStores_data (u : State) (v : Word) : u.oobStores 3 v = u.oobWrite v := rfl
theorem oobStores_ctrl (u : State) (v : Word) : u.oobStores 4 v = u.setOob { u.prl.oob with alertEn := bit 1 v, inc := bit 0 v } := rfl

theorem exec_read32 (code : Byte) (t : Nat) (s : State) : exec (.read32 code t) s = .next (doRead32 code.toNat t s) := rfl

theorem doRead32_of {s : State} (hp : s.sys.por = false) (code t : Nat) : doRead32 code t s = match code with
    | 0 => (s.passTo t).smbStart.oobGive 0 0x75121F9C
    | 1 => (s.passTo t).smbStart.oobGive 1 (s.passTo t).smbStart.oobStatus
    | 2 => (s.passTo t).smbStart.oobGive 2 (wd (s.passTo t).smbStart.prl.oob.addr)
    | 3 => (s.passTo t).smbStart.oobRead.oobGive 3 (s.passTo t).smbStart.oobRead.rdata
    | 4 => (s.passTo t).smbStart.oobGive 4 (s.passTo t).smbStart.oobCtrl
    | _ => (s.passTo t).smbStart := if_neg (by simp [hp])

section
variable {s : State} (hp : s.sys.por = false) (t : Nat)
include hp

theorem doRead32_id : doRead32 0 t s = (s.passTo t).smbStart.oobGive 0 0x75121F9C := doRead32_of hp 0 t
theorem doRead32_status : doRead32 1 t s = (s.passTo t).smbStart.oobGive 1 (s.passTo t).smbStart.oobStatus := doRead32_of hp 1 t
theorem doRead32_addr : doRead32 2 t s = (s.passTo t).smbStart.oobGive 2 (wd (s.passTo t).smbStart.prl.oob.addr) := doRead32_of hp 2 t
theorem doRead32_data : doRead32 3 t s = (s.passTo t).smbStart.oobRead.oobGive 3 (s.passTo t).smbStart.oobRead.rdata := doRead32_of hp 3 t
theorem doRead32_ctrl : doRead32 4 t s = (s.passTo t).smbStart.oobGive 4 (s.passTo t).smbStart.oobCtrl := doRead32_of hp 4 t

theorem doRead32_unknown {code : Nat} (h : 4 < code) : doRead32 code t s = (s.passTo t).smbStart := by
  rw [doRead32_of hp]
  split <;> first | omega | rfl

theorem runs_readId : Runs (.read32 0 t) s fun u => u.rdata = 0x75121F9C ∧ u.prl.oob = { s.prl.oob with pec := s.readPec 0 u.rdata }
    ∧ changesOnly [.regs, .clr, .prl, .rdata] s u :=
  .of_eq (exec_read32 0 t s) (doRead32_id hp t) ((smbStart_addressed s t).gives 0 _)

theorem runs_readAddr : Runs (.read32 2 t) s fun u => u.rdata = wd s.prl.oob.addr
    ∧ u.prl.oob = { s.prl.oob with pec := s.readPec 2 u.rdata } ∧ changesOnly [.regs, .clr, .prl, .rdata] s u := by
  have h := smbStart_addressed s t
  have hgive := h.gives 2 (wd s.prl.oob.addr)
  exact .of_eq (exec_read32 2 t s) ((doRead32_addr hp t).trans (by rw [h.oob])) hgive

theorem runs_readCtrl : Runs (.read32 4 t) s fun u => fget 0 1 u.rdata = (if s.prl.oob.inc then 1 else 0)
    ∧ fget 1 1 u.rdata = (if s.prl.oob.alertEn then 1 else 0) ∧ u.prl.oob = { s.prl.oob with pec := s.readPec 4 u.rdata } := by
  have h := smbStart_addressed s t
  have hctrl : (s.passTo t).smbStart.oobCtrl = wd (b2n s.prl.oob.alertEn * 2 + b2n s.prl.oob.inc) := by rw [State.oobCtrl, h.oob]
  obtain ⟨hdata, hoob, -⟩ := h.gives 4 (s.passTo t).smbStart.oobCtrl
  refine .of_eq (exec_read32 4 t s) (doRead32_ctrl hp t) ⟨?_, ?_, hoob⟩
  · rw [hdata, hctrl]
    cases s.prl.oob.alertEn <;> cases s.prl.oob.inc <;> decide
  · rw [hdata, hctrl]
    cases s.prl.oob.alertEn <;> cases s.prl.oob.inc <;> decide

theorem runs_readStatus : Runs (.read32 1 t) s fun u => fget 0 1 u.rdata = (if s.prl.oob.err then 1 else 0)
    ∧ u.prl.oob = { s.prl.oob with pec := s.readPec 1 u.rdata }
    ∧ u.rdata = wd ((if u.prl.awake then 256 else 0) + s.prl.oob.code * 2 + (if s.prl.oob.err then 1 else 0)) := by
  have h := smbStart_addressed s t
  have hdo := doRead32_status hp t
  generalize (s.passTo t).smbStart = u at *
  have hstatus := oobStatus_eq u
  rw [h.oob] at hstatus
  obtain ⟨hdata, hoob, -⟩ := h.gives 1 u.oobStatus
  have hawake : (u.oobGive 1 u.oobStatus).prl.awake = u.prl.awake := by
    unfold State.oobGive State.setOob State.setPrl
    rfl
  rw [← hawake] at hstatus
  replace hdata := hdata.trans hstatus
  generalize u.oobGive 1 u.oobStatus = w at *
  refine .of_eq (exec_read32 1 t s) hdo ⟨?_, hoob, hdata⟩
  rw [hdata]
  exact fget_status _ _ _

/-- A read below BAR0 has failed: code 1, with free data. -/
theorem runs_readLow (ha : s.prl.oob.addr < 0x20000000) : Runs (.read32 3 t) s fun u =>
    u.prl.oob = { s.prl.oob with err := true, code := 1, pec := s.readPec 3 u.rdata } ∧ u.lanes = s.lanes := by
  have h := smbStart_addressed s t
  have hdo := doRead32_data hp t
  rw [oobRead_low (by rwa [h.oob])] at hdo
  generalize (s.passTo t).smbStart = u at *
  have hk : Keeps 0x700000 u (u.freeRead.oobFail 1) := (oobFail_keeps ..).step ((freeRead_keeps u).step .refl rfl) rfl
  have hfree : u.freeRead.prl = u.prl := (freeRead_keeps u).frame .prl rfl
  have hoob : (u.freeRead.oobFail 1).prl.oob = { u.freeRead.prl.oob with err := true, code := 1 } := by
    unfold State.oobFail State.setOob State.setPrl
    rfl
  rw [hfree] at hoob
  generalize u.freeRead.oobFail 1 = w at *
  have hgive := oobGive_oob w 3 w.rdata
  rw [hoob, h.oob, hk.readPec rfl, h.readPec] at hgive
  have hlanes : (w.oobGive 3 w.rdata).lanes = s.lanes :=
    ((oobGive_keeps w 3 w.rdata).frame .lanes rfl).trans ((hk.frame .lanes rfl).trans (h.kept.frame .lanes rfl))
  exact .of_eq (exec_read32 3 t s) hdo ⟨hgive, hlanes⟩

theorem runs_readUnknown {code : Byte} (hc : 4 < code.toNat) : Runs (.read32 code t) s fun u => u.rdata = s.rdata ∧ u.prl.oob = s.prl.oob := by
  have h := smbStart_addressed s t
  exact .of_eq (exec_read32 code t s) (doRead32_unknown hp t hc) ⟨h.kept.frame .rdata rfl, h.oob⟩

/-! ### Writes (R446 to R448, R453) -/

theorem doWrite32_none {code : Nat} (h1 : 1 ≤ code) (h4 : code ≤ 4) (v : Word) :
    doWrite32 code v none t s = (s.passTo t).smbStart.oobStores code v := by
  unfold doWrite32
  extract_lets s1 o
  rw [if_neg (by simp [hp]), if_neg (by omega), if_neg (by simp)]
  rfl

theorem runs_writeAddr {v : Word} (hv : v.toNat < 0x30000000) : Runs (.write32 2 v none t) s fun u =>
    u.prl.oob = { s.prl.oob with addr := v.toNat / 4 * 4 } ∧ changesOnly [.regs, .clr, .prl] s u := by
  have h := smbStart_addressed s t
  have hdo := doWrite32_none hp t (code := 2) (by decide) (by decide) v
  rw [oobStores_addr, prefetch_low (by show inFlash (v.toNat / 4 * 4) = false; simp [inFlash]; omega), h.oob] at hdo
  exact .of_eq (exec_write32 2 v none t s) hdo (h.stores _)

theorem runs_writeCtrl (v : Word) : Runs (.write32 4 v none t) s fun u =>
    u.prl.oob = { s.prl.oob with inc := bit 0 v, alertEn := bit 1 v } ∧ changesOnly [.regs, .clr, .prl] s u := by
  have h := smbStart_addressed s t
  have hdo := doWrite32_none hp t (code := 4) (by decide) (by decide) v
  rw [oobStores_ctrl, h.oob] at hdo
  exact .of_eq (exec_write32 4 v none t s) hdo (h.stores _)

theorem runs_writeStatus {v : Word} (hv : bit 0 v = true) : Runs (.write32 1 v none t) s fun u =>
    u.prl.oob = { s.prl.oob with err := false } ∧ changesOnly [.regs, .clr, .prl] s u := by
  have h := smbStart_addressed s t
  have hdo := doWrite32_none hp t (code := 1) (by decide) (by decide) v
  rw [oobStores_status hv, h.oob] at hdo
  exact .of_eq (exec_write32 1 v none t s) hdo (h.stores _)

theorem runs_writePec {code : Byte} {v : Word} {p : Byte} (h1 : 1 ≤ code.toNat) (h4 : code.toNat ≤ 4) (hpec : p.toNat ≠ s.pecOf code.toNat v) :
    Runs (.write32 code v (some p) t) s fun u =>
      u.prl.oob = { s.prl.oob with err := true, code := 7 } ∧ changesOnly [.regs, .clr, .prl] s u := by
  have h := smbStart_addressed s t
  have hdo : doWrite32 code.toNat v (some p) t s = (s.passTo t).smbStart.oobFail 7 := by
    unfold doWrite32
    extract_lets s1 o
    rw [if_neg (by simp [hp]), if_neg (by omega), if_pos (by simpa [s1, h.pecOf] using hpec)]
  exact .of_eq (exec_write32 code v (some p) t s) hdo (h.fails 7)

/-! ### Writes of OOB_DATA at the start of staging (R448, R453) -/

omit hp in
theorem oobWrite_staging {u : State} (ha : u.prl.oob.addr = 0x30000000 + flashStage) (v : Word) : u.oobWrite v = u.oobStage flashStage v := by
  have hbar : inBar u.prl.oob.addr = false := by rw [ha]; decide
  have hflash : inFlash u.prl.oob.addr = true := by rw [ha]; decide
  have hofs : u.prl.oob.addr - 0x30000000 = flashStage := by rw [ha, Nat.add_sub_cancel_left]
  unfold State.oobWrite
  extract_lets a o
  rw [if_neg (by simp [a, hbar]), if_pos hflash, hofs]

omit hp in
theorem oobStage_start {u : State} (ho : u.prl.owner ≠ 1) (v : Word) :
    u.oobStage flashStage v = (u.stageWrite 2 0 (leBytes 4 v.toNat)).oobTook v := by
  have hin : inStaging flashStage = true := by decide
  unfold State.oobStage
  rw [if_neg (by simp [hin]), if_neg ho, if_neg (by simp), Nat.sub_self]

omit hp in
theorem oobStage_owned {u : State} (ho : u.prl.owner = 1) (v : Word) : u.oobStage flashStage v = u.oobFail 6 := by
  have hin : inStaging flashStage = true := by decide
  unfold State.oobStage
  rw [if_neg (by simp [hin]), if_pos ho]

omit hp in
theorem oobTook_still {u : State} (hi : u.prl.oob.inc = false) (v : Word) : u.oobTook v = u.setOob { u.prl.oob with data := v } := by
  unfold State.oobTook State.oobDone
  extract_lets _ o
  exact if_neg (by rw [show o.inc = u.prl.oob.inc from rfl, hi]; decide)

omit hp in
/-- What the first staging write of the window makes of Prale (R453). -/
theorem stageWrite_start (u : State) (d : List Byte) : (u.stageWrite 2 0 d).prl.extent = 0 + d.length ∧ (u.stageWrite 2 0 d).prl.owner = 2
    ∧ (u.stageWrite 2 0 d).prl.oob = u.prl.oob ∧ (u.stageWrite 2 0 d).flashGet flashStage d.length = d := by
  unfold State.stageWrite State.flashPut State.setPrl
  exact ⟨rfl, rfl, rfl, flashGet_of_newest rfl⟩

theorem runs_stageStart (ha : s.prl.oob.addr = 0x30000000 + flashStage) (ho : s.prl.owner ≠ 1) (hi : s.prl.oob.inc = false) (v : Word) :
    Runs (.write32 3 v none t) s fun u =>
      u.prl.extent = 4 ∧ u.prl.owner = 2 ∧ u.flashGet flashStage 4 = leBytes 4 v.toNat ∧ u.prl.oob = { s.prl.oob with data := v }
        ∧ changesOnly [.regs, .clr, .prl] s u := by
  have h := smbStart_addressed s t
  have hdo := doWrite32_none hp t (code := 3) (by decide) (by decide) v
  rw [oobStores_data, oobWrite_staging (by rwa [h.oob]), oobStage_start (by rwa [h.owner])] at hdo
  obtain ⟨hext, hown, hoob, hget⟩ := stageWrite_start (s.passTo t).smbStart (leBytes 4 v.toNat)
  have hk : Keeps 0x100084 s ((s.passTo t).smbStart.stageWrite 2 0 (leBytes 4 v.toNat)) := (stageWrite_keeps ..).step (h.kept.step .refl rfl) rfl
  rw [h.oob] at hoob
  rw [length_leBytes] at hget hext
  generalize (s.passTo t).smbStart.stageWrite 2 0 (leBytes 4 v.toNat) = w at *
  rw [oobTook_still (by rwa [hoob]), hoob] at hdo
  exact .of_eq (exec_write32 3 v none t s) hdo ⟨hext, hown, hget, rfl,
    Keeps.changesOnly (n := 0x100084) ((setOob_keeps ..).step (hk.step .refl rfl) rfl) rfl⟩

theorem runs_stageOwned (ha : s.prl.oob.addr = 0x30000000 + flashStage) (ho : s.prl.owner = 1) (v : Word) :
    Runs (.write32 3 v none t) s fun u =>
      u.prl.oob = { s.prl.oob with err := true, code := 6 } ∧ u.prl.extent = s.prl.extent ∧ u.prl.flash = s.prl.flash := by
  have h := smbStart_addressed s t
  have hdo := doWrite32_none hp t (code := 3) (by decide) (by decide) v
  rw [oobStores_data, oobWrite_staging (by rwa [h.oob]), oobStage_owned (by rwa [h.owner])] at hdo
  exact .of_eq (exec_write32 3 v none t s) hdo ⟨(h.fails 6).1, h.extent, h.flash⟩

/-! ### The alert response and the bus timeout (R437, R445, R488) -/

omit hp in
theorem exec_alertResponse (s : State) : exec .alertResponse s = .next (doAlertResponse s) := rfl
omit hp in
theorem exec_smbusTimeout (s : State) : exec .smbusTimeout s = .next (doSmbusTimeout s) := rfl

/-- The answer to the Alert Response Address: the own address, and a free bit behind it. -/
def State.alertAnswer (s : State) : State :=
  { s with freeN := s.freeN + 1, rdata := wd (2 * s.smbAddr + (Config.freeOob s.freeN).toNat % 2) }

theorem runs_alertResponse (ha : s.smbAlert = true) : Runs .alertResponse s fun u => u.rdata.toNat / 2 = (if s.sys.pref then 0x5B else 0x5A)
    ∧ changesOnly [.freeN, .rdata] s u := by
  have hdo : doAlertResponse s = s.alertAnswer := if_neg (by simp [hp, ha])
  refine .of_eq (exec_alertResponse s) hdo ⟨?_, Keeps.changesOnly (n := 0x600000) (Keeps.upd .refl) rfl⟩
  show (wd (2 * s.smbAddr + (Config.freeOob s.freeN).toNat % 2)).toNat / 2 = s.smbAddr
  have hlow : s.smbAddr < 128 := by
    unfold State.smbAddr
    split <;> decide
  rw [wd, BitVec.toNat_ofNat]
  omega

omit hp in
theorem runs_alertQuiet (ha : s.smbAlert = false) : Runs .alertResponse s fun u => u = s :=
  .of_eq (exec_alertResponse s) (if_pos (by simp [ha])) rfl

/-- Source 421 becomes pending (R437). -/
def State.smbPended (s : State) : State :=
  { s with freeN := s.freeN + 1, prl := { s.prl with ic := { s.prl.ic with pend := s.prl.ic.pend ++ [421] } } }

omit hp in
theorem smbStart_pended (ha : s.prl.awake = true) (hn : 421 ∉ s.prl.ic.pend) : State.smbStart { s with freeN := s.freeN + 1 } = s.smbPended := by
  unfold State.smbStart State.icEdge
  extract_lets k k1
  rw [if_pos ha, if_neg (by simpa [k] using hn)]
  rfl

/-- The transaction cut off: by its free word w it was not addressed to the module, or raised source 421, or had read a register. -/
theorem doSmbusTimeout_eq (ha : s.prl.awake = true) (hn : 421 ∉ s.prl.ic.pend) : ∃ (w : Word) (v : State), doSmbusTimeout s =
    if !bit 0 w then { s with freeN := s.freeN + 1 }
    else if bit 1 w && inBar s.prl.oob.addr then { v with rdata := s.rdata }
    else s.smbPended := by
  unfold doSmbusTimeout
  rw [if_neg (by simp [hp])]
  extract_lets f w s1 v
  have hs1 : s1 = s.smbPended := smbStart_pended ha hn
  have hoob : s1.prl.oob = s.prl.oob := by rw [hs1]; rfl
  have hf : f.2 = { s with freeN := s.freeN + 1 } := rfl
  clear_value v
  clear_value w s1
  rw [hoob, hs1, hf]
  exact ⟨w, v, rfl⟩

theorem runs_smbusTimeout (ha : s.prl.awake = true) (hn : 421 ∉ s.prl.ic.pend) : Runs .smbusTimeout s fun u => u.rdata = s.rdata
    ∧ (inBar s.prl.oob.addr = false →
      (u.prl = s.prl ∨ u.prl = { s.prl with ic := { s.prl.ic with pend := s.prl.ic.pend ++ [421] } })
        ∧ u.freeN = s.freeN + 1 ∧ changesOnly [.freeN, .prl] s u) := by
  obtain ⟨w, v, hdo⟩ := doSmbusTimeout_eq hp ha hn
  refine .of_eq (exec_smbusTimeout s) hdo ?_
  have hfree : Keeps 0x300000 s { s with freeN := s.freeN + 1 } := Keeps.upd .refl
  have hpend : Keeps 0x300000 s s.smbPended := Keeps.upd .refl
  split_ifs with h0 h1
  · exact ⟨rfl, fun _ => ⟨.inl rfl, rfl, hfree.changesOnly rfl⟩⟩
  · exact ⟨rfl, fun hb => by rw [hb, Bool.and_false] at h1; cases h1⟩
  · exact ⟨rfl, fun _ => ⟨.inr rfl, rfl, hpend.changesOnly rfl⟩⟩

end

/-! ### The statement -/

/-- Settles O58, one lemma per clause. -/
theorem outOfBandWindow : Obligations.OutOfBandWindow := fun _s t _code v _p hp =>
  ⟨runs_readId hp t, runs_readAddr hp t, runs_readCtrl hp t, runs_readStatus hp t, fun ha => runs_readLow hp t ha,
    fun hc => runs_readUnknown hp t hc, fun hv => runs_writeAddr hp t hv, runs_writeCtrl hp t v, fun hv => runs_writeStatus hp t hv,
    fun h1 h4 hpec => runs_writePec hp t h1 h4 hpec, fun ha ho hi => runs_stageStart hp t ha ho hi v,
    fun ha ho => runs_stageOwned hp t ha ho v, fun ha => runs_alertResponse hp ha, fun ha => runs_alertQuiet ha,
    fun ha hn => runs_smbusTimeout hp ha hn⟩

end Sys2Proof.Machine
end

section
/-! PROOF. What the statements on the fabric share (R363, R371, R386): its events, a state with nothing left to do, and the
reception of a message. -/
namespace Sys2Proof.Machine

/-! ### The bits of FAB_EVT (R386, R387) -/

/-- A one-bit field of FAB_EVT, set by the event with this subtype. -/
structure FabBit (x : Fld) (sub : Nat) : Prop where
  reg : x.reg = .FAB_EVT
  len : x.len = 1
  at_ : x.lo = sub - 1
  lt : sub ≤ 32

section
variable (s : State) (sub : Nat) (pl : List Word)

theorem fabEvent_otherRegs : otherRegs [Reg.FAB_EVT.at [], Reg.IC_SRC.at [440]] s (s.fabEvent sub pl) := by
  unfold State.fabEvent
  refine .trans (.trans (.setReg (.head _)) (.icEdge (.tail _ (.head _)))) (.of_regs ((post_keeps ..).frame .regs rfl))

theorem fabEvent_reg : (s.fabEvent sub pl).reg .FAB_EVT [] = s.reg .FAB_EVT [] ||| wd (2 ^ (sub - 1)) := by
  unfold State.fabEvent
  extract_lets s1
  have hset : s1.reg .FAB_EVT [] = s.reg .FAB_EVT [] ||| wd (2 ^ (sub - 1)) :=
    (reg_of_otherRegs (l := [Reg.IC_SRC.at [440]]) (.icEdge (.head _)) ((icEdge_keeps ..).stage rfl) (by decide)).trans
      (reg_setReg_same ..)
  exact ((post_keeps ..).reg rfl rfl ..).trans hset

variable {s} {x : Fld}

theorem f_one_iff_bit {k : Nat} (h : FabBit x k) : s.f x [] = 1 ↔ (s.reg .FAB_EVT []).toNat.testBit (k - 1) = true := by
  rw [State.f, h.reg, h.len, h.at_, fget_bit]

theorem fabEvent_sets (h : FabBit x sub) : (s.fabEvent sub pl).f x [] = 1 := by
  have hlt : sub - 1 < 32 := by
    have := h.lt
    omega
  rw [f_one_iff_bit h, fabEvent_reg, BitVec.toNat_or, Nat.testBit_or]
  exact Bool.or_eq_true_iff.2 (.inr ((bit_wd hlt _).trans Nat.testBit_two_pow_self))

theorem fabEvent_stays {k : Nat} (h : FabBit x k) (hx : s.f x [] = 1) : (s.fabEvent sub pl).f x [] = 1 := by
  rw [f_one_iff_bit h] at hx ⊢
  rw [fabEvent_reg, BitVec.toNat_or, Nat.testBit_or, hx, Bool.true_or]

theorem fabEvent_fab : (s.fabEvent sub pl).fab = s.fab := (fabEvent_keeps ..).frame .fab rfl

end

/-! ### A state with nothing left to do -/

/-- No request waits, no release is owed, no placed transaction is lost, every path that a loss has hit awaits its reservation, and
no probe segment stands where a path is. -/
structure Calm (s : State) : Prop where
  waitQ : s.fab.waitQ = []
  late : s.fab.late = []
  placed : ∀ p ∈ s.pth.placed, p.lost = false
  missed : ∀ x ∈ s.fab.missed, (s.fab.reqs.any fun q => q.num == x.1) = true
  probes : ∀ x ∈ s.fab.probes, s.inTaken x.1 = false ∧ s.outTaken x.2 = none

section
variable {s u : State}

theorem Calm.of_pth (h : Calm s) (hp : u.pth = s.pth) (hw : u.fab.waitQ = s.fab.waitQ) (hl : u.fab.late = s.fab.late)
    (hr : u.fab.probes = s.fab.probes) (hm : ∀ x ∈ u.fab.missed, (u.fab.reqs.any fun q => q.num == x.1) = true) : Calm u where
  waitQ := hw.trans h.waitQ
  late := hl.trans h.late
  placed := hp ▸ h.placed
  missed := hm
  probes := by
    rw [hr]
    simpa only [State.inTaken, State.outTaken, hp] using h.probes

theorem sweepLost_of_none_lost (h : ∀ p ∈ s.pth.placed, p.lost = false) : s.sweepLost = s := by
  have hnone : (s.pth.placed.find? fun p => p.lost && !p.hold) = none := List.find?_eq_none.2 fun p hp => by simp [h p hp]
  refine foldl_keeps (· = s) rfl fun u _ hu => ?_
  subst hu
  rw [hnone]

theorem wakeWaiting_of_none (h : s.fab.waitQ = []) : s.wakeWaiting = s := by
  simp only [State.wakeWaiting, h, List.filter_nil, List.nil_append]
  rw [← h]

theorem lateRelease_of_none (h : s.fab.late = []) : s.lateRelease = s := by
  simp [State.lateRelease, h]

theorem reroute_nil (away : Bool) : s.reroute [] away = s := by
  simp [State.reroute]

theorem affected_false : (s.affected fun _ => false) = [] := by
  simp [State.affected]

theorem missedLoss_of_awaited (h : ∀ x ∈ s.fab.missed, (s.fab.reqs.any fun q => q.num == x.1) = true) : s.missedLoss = s := by
  have hended : (s.fab.missed.filter fun x => !(s.fab.reqs.any fun q => q.num == x.1)) = [] :=
    List.filter_eq_nil_iff.2 fun x hx => by rw [h x hx]; nofun
  unfold State.missedLoss
  simp only [hended, List.any_nil, affected_false, reroute_nil, List.contains_nil, Bool.not_false, List.filter_true]
  exact ite_self _

theorem yieldProbes_of_free (h : ∀ x ∈ s.fab.probes, s.inTaken x.1 = false ∧ s.outTaken x.2 = none) : s.yieldProbes = s := by
  have hgone : (s.fab.probes.filter fun x => s.inTaken x.1 || (s.outTaken x.2).isSome) = [] :=
    List.filter_eq_nil_iff.2 fun x hx => by rw [(h x hx).1, (h x hx).2]; nofun
  simp [State.yieldProbes, State.dropProbes, hgone]

theorem Calm.fabAfter (h : Calm s) : s.fabAfter = s := by
  rw [State.fabAfter, sweepLost_of_none_lost h.placed, wakeWaiting_of_none h.waitQ, lateRelease_of_none h.late,
    missedLoss_of_awaited h.missed, yieldProbes_of_free h.probes]

theorem topoNote_fab (o s : State) : (State.topoNote o s).fab = s.fab := (topoNote_keeps o s).frame .fab rfl

theorem topoNote_stays {o : State} {x : Fld} {k : Nat} (h : FabBit x k) (hx : s.f x [] = 1) : (State.topoNote o s).f x [] = 1 := by
  unfold State.topoNote
  split
  · exact hx
  · exact fabEvent_stays _ _ h hx

theorem Calm.topoNote (o : State) (h : Calm s) : Calm (State.topoNote o s) :=
  h.of_pth ((topoNote_keeps o s).frame .pth rfl) (by rw [topoNote_fab]) (by rw [topoNote_fab]) (by rw [topoNote_fab])
    (by rw [topoNote_fab]; exact h.missed)

/-- What a change leaves of the fabric logic and of a bit of FAB_EVT stands in the state behind all that follows it. -/
theorem settled (o o' : State) (h : Calm s) : (State.schedEvent o (State.topoNote o' s).fabAfter).fab = s.fab
    ∧ ∀ (x : Fld) (k : Nat), FabBit x k → s.f x [] = 1 → (State.schedEvent o (State.topoNote o' s).fabAfter).f x [] = 1 := by
  rw [(h.topoNote o').fabAfter]
  exact ⟨((schedEvent_keeps ..).frame .fab rfl).trans (topoNote_fab o' s),
    fun x k hk hx => (schedEvent_f ..).trans (topoNote_stays hk hx)⟩

/-! ### The reception of a message (R363, R371) -/

variable {m : FabMsg} {t : Nat} {k : State → State}

theorem passTo_devid : (s.passTo t).devid = s.devid := passTo_congr s t (·.devid) fun _ => rfl
theorem passTo_firstCopy : (s.passTo t).firstCopy m = s.firstCopy m := passTo_congr s t (·.firstCopy m) fun _ => rfl
theorem passTo_fabDigest : (s.passTo t).fabDigest = s.fabDigest := passTo_congr s t (·.fabDigest) fun _ => rfl

/-- The state in which a message is taken: a tracked one is kept in mind. -/
def State.noted (s : State) (m : FabMsg) (t : Nat) : State :=
  if trackedMsg m.body then (s.passTo t).setFab { s.fab with seen := s.fab.seen ++ [(m.src, m.seq)] } else s.passTo t

theorem noted_keeps : Keeps 0x880 s (s.noted m t) := by
  unfold State.noted
  split
  · exact (passTo_keeps s t).trans (setFab_keeps ..)
  · exact (passTo_keeps s t).step .refl rfl

theorem noted_untracked (h : trackedMsg m.body = false) : s.noted m t = s.passTo t := by
  rw [State.noted, h]
  rfl

theorem noted_fab : ∃ l, (s.noted m t).fab = { s.fab with seen := l } := by
  unfold State.noted
  split
  · exact ⟨_, rfl⟩
  · exact ⟨s.fab.seen, passTo_fab ..⟩

theorem Calm.noted (h : Calm s) : Calm (s.noted m t) := by
  obtain ⟨l, hl⟩ := noted_fab (s := s) (m := m) (t := t)
  refine h.of_pth (noted_keeps.frame .pth rfl) ?_ ?_ ?_ ?_ <;> rw [hl]
  exact h.missed

variable (hf : s.inFabric = true)
include hf

theorem fabRecv_own_twin (hsrc : m.src = s.devid) (hb : showsTwin m.body = true) :
    fabRecv m t k s = ((s.passTo t).setFab { s.fab with st := 2 }).fabEvent 9 [wd s.devid] := by
  unfold fabRecv
  rw [if_neg (by rw [hf]; decide)]
  simp only [passTo_devid, if_pos hsrc, hb, passTo_fab]
  rfl

theorem fabRecv_own (hsrc : m.src = s.devid) (hb : showsTwin m.body = false) : fabRecv m t k s = s.passTo t := by
  unfold fabRecv
  rw [if_neg (by rw [hf]; decide)]
  simp only [passTo_devid, if_pos hsrc, hb]
  rfl

theorem fabRecv_forward (hsrc : m.src ≠ s.devid) (hdst : m.dst ≠ 255 ∧ m.dst ≠ s.devid) (hops : m.hops < 7) :
    fabRecv m t k s = (s.passTo t).setFab { s.fab with
      out := s.fab.out ++ [((sfind s.fab.rt m.dst).map Prod.snd, { m with hops := m.hops + 1 })] } := by
  unfold fabRecv
  rw [if_neg (by rw [hf]; decide)]
  simp only [passTo_devid, if_neg hsrc, if_pos hdst, passTo_fab]
  exact if_neg (by omega)

theorem fabRecv_seen (hsrc : m.src ≠ s.devid) (hdst : m.dst = 255 ∨ m.dst = s.devid) (h : s.firstCopy m = false) :
    fabRecv m t k s = s.passTo t := by
  unfold fabRecv
  rw [if_neg (by rw [hf]; decide)]
  simp only [passTo_devid, if_neg hsrc, passTo_firstCopy, h]
  rw [if_neg fun hn => hdst.elim hn.1 hn.2]
  rfl

theorem fabRecv_takes (hsrc : m.src ≠ s.devid) (hdst : m.dst = 255 ∨ m.dst = s.devid) (h : s.firstCopy m = true) :
    fabRecv m t k s = State.schedEvent (s.passTo t) (State.topoNote (s.passTo t) (k (s.noted m t))).fabAfter := by
  unfold fabRecv
  rw [if_neg (by rw [hf]; decide)]
  simp only [passTo_devid, if_neg hsrc, passTo_firstCopy, h, passTo_fab]
  rw [if_neg fun hn => hdst.elim hn.1 hn.2]
  rfl

/-- A message that is not tracked is taken whether or not it came before. -/
theorem fabRecv_untracked (hsrc : m.src ≠ s.devid) (hdst : m.dst = 255 ∨ m.dst = s.devid) (h : trackedMsg m.body = false) :
    fabRecv m t k s = State.schedEvent (s.passTo t) (State.topoNote (s.passTo t) (k (s.passTo t))).fabAfter := by
  rw [fabRecv_takes hf hsrc hdst (by simp [State.firstCopy, h]), noted_untracked h]

end

/-! ### Paths (R364, R384) -/

section
variable {s : State}

theorem fpath_of_no_paths (h : s.fab.paths = []) (a : Nat) : s.fpath a = s.localPath a := by
  rw [State.fpath, h]
  rfl

/-- A path that the table shows is local or none, and never BLOCKED. -/
theorem localPath_cases (s : State) (a : Nat) : ((s.localPath a).loc = true ∨ (s.localPath a).st = 0) ∧ (s.localPath a).st ≠ 5 := by
  unfold State.localPath
  extract_lets r
  split
  · refine ⟨.inl rfl, ?_⟩
    show localCode r.st ≠ 5
    cases r.st <;> decide
  · exact ⟨.inr rfl, by decide⟩

theorem retryBlocked_of_no_paths (h : s.fab.paths = []) : s.retryBlocked = s := by
  have hnone : ((List.range 256).filter fun a => (s.fpath a).st == 5) = [] :=
    List.filter_eq_nil_iff.2 fun a _ => by simpa [fpath_of_no_paths h] using (localPath_cases s a).2
  rw [State.retryBlocked, hnone, reroute_nil]

theorem affected_of_no_paths (h : s.fab.paths = []) (c : FabPath → Bool) : s.affected c = [] :=
  List.filter_eq_nil_iff.2 fun a _ => by
    rw [fpath_of_no_paths h]
    rcases (localPath_cases s a).1 with hl | hl <;> simp [hl]

/-- Of a loss that hits no path in force only those of open reservations are noted (R384). -/
theorem lossOf_of_no_paths (h : s.fab.paths = []) (c : FabPath → Bool) :
    ∃ l, s.lossOf c = s.setFab { s.fab with missed := s.fab.missed ++ l }
      ∧ ∀ x ∈ l, (s.fab.reqs.any fun q => q.num == x.1) = true := by
  unfold State.lossOf
  rw [affected_of_no_paths h]
  extract_lets l
  refine ⟨l, ?_, fun x hx => ?_⟩
  · rw [reroute_nil]
    split
    · next hl =>
      rw [List.isEmpty_iff.1 hl, List.append_nil]
      rfl
    · rfl
  · simp only [l, List.mem_flatMap, List.mem_filter, List.mem_map] at hx
    obtain ⟨q, ⟨hq, -⟩, i, -, rfl⟩ := hx
    exact List.any_eq_true.2 ⟨q, hq, beq_self_eq_true _⟩

end

end Sys2Proof.Machine
end

section
/-! PROOF. HELLO, LSA, DOWN and silent neighbours (R370, R371, R373, R384). -/
namespace Sys2Proof.Machine

section
variable {s : State} {m : FabMsg} {t : Nat}

theorem exec_fabHello (port : Fin 64) : exec (.fabHello m port t) s = .next (fabRecv m t (helloIn m port t) s) := rfl
theorem exec_reserve : exec (.reserve m t) s = .next (fabRecv m t (reserveIn m) s) := rfl
theorem exec_lsa : exec (.lsa m t) s = .next (fabRecv m t (lsaIn m) s) := rfl
theorem exec_down : exec (.down m t) s = .next (fabRecv m t (downIn m) s) := rfl
theorem exec_fabHelloSend : exec (.fabHelloSend t) s = .next (doFabHelloSend t s) := rfl
theorem exec_discSend : exec (.discSend t) s = .next (doDiscSend t s) := rfl
theorem exec_neighbourLoss (d : Fin 64) : exec (.neighbourLoss d t) s = .next (doNeighbourLoss d t s) := rfl
theorem exec_controlRetransmit : exec (.controlRetransmit t) s = .next (doControlRetransmit t s) := rfl

theorem bit_DUP_DEVID : FabBit FAB_EVT.DUP_DEVID 9 := ⟨rfl, rfl, rfl, by decide⟩
theorem bit_DIGEST : FabBit FAB_EVT.DIGEST 10 := ⟨rfl, rfl, rfl, by decide⟩
theorem bit_DEV_FOUND : FabBit FAB_EVT.DEV_FOUND 4 := ⟨rfl, rfl, rfl, by decide⟩
theorem bit_DEV_LOST : FabBit FAB_EVT.DEV_LOST 3 := ⟨rfl, rfl, rfl, by decide⟩
theorem bit_MISWIRED : FabBit FAB_EVT.MISWIRED 5 := ⟨rfl, rfl, rfl, by decide⟩
theorem bit_LINK_DOWN : FabBit FAB_EVT.LINK_DOWN 2 := ⟨rfl, rfl, rfl, by decide⟩

/-! ### Reception -/

section
variable (hf : s.inFabric = true)
include hf

theorem runs_twin (port : Fin 64) (hsrc : m.src = s.devid) (hb : showsTwin m.body = true) :
    Runs (.fabHello m port t) s fun u => u.fab = { s.fab with st := 2 }
      ∧ u.f FAB_EVT.DUP_DEVID [] = 1 ∧ changesOnly [.regs, .clr, .fab, .hif, .prl] s u :=
  .of_eq (exec_fabHello port) (fabRecv_own_twin hf hsrc hb) ⟨fabEvent_fab .., fabEvent_sets _ _ bit_DUP_DEVID,
    (((passTo_keeps s t).trans (setFab_keeps ..)).trans (fabEvent_keeps ..)).changesOnly rfl⟩

theorem runs_own_lsa (hsrc : m.src = s.devid) (hb : showsTwin m.body = false) : Runs (.lsa m t) s fun u => changesOnly [.clr] s u :=
  .of_eq exec_lsa (fabRecv_own hf hsrc hb) ((passTo_keeps s t).changesOnly rfl)

theorem runs_forward (port : Fin 64) (hsrc : m.src ≠ s.devid) (h255 : m.dst ≠ 255) (hdst : m.dst ≠ s.devid) (hops : m.hops < 7) :
    Runs (.fabHello m port t) s fun u =>
      u.fab = { s.fab with out := s.fab.out ++ [((sfind s.fab.rt m.dst).map Prod.snd, { m with hops := m.hops + 1 })] }
        ∧ changesOnly [.clr, .fab] s u :=
  .of_eq (exec_fabHello port) (fabRecv_forward hf hsrc ⟨h255, hdst⟩ hops)
    ⟨rfl, ((passTo_keeps s t).trans (setFab_keeps ..)).changesOnly rfl⟩

theorem runs_seen (hsrc : m.src ≠ s.devid) (hdst : m.dst = s.devid) (htr : trackedMsg m.body = true)
    (hseen : s.fab.seen.contains (m.src, m.seq) = true) : Runs (.reserve m t) s fun u => changesOnly [.clr] s u :=
  .of_eq exec_reserve (fabRecv_seen hf hsrc (.inr hdst) (by rw [State.firstCopy, htr, hseen]; rfl)) ((passTo_keeps s t).changesOnly rfl)

/-! ### What a device sends (R370) -/

theorem runs_helloSend (hmode : s.modeOn = true) : Runs (.fabHelloSend t) s fun u =>
    u.fab = { s.fab with seq := s.fab.seq + 1, out := s.fab.out ++
        [(none, (⟨s.devid, 255, s.fab.seq + 1, 0, .hello s.isMiddle s.fab.st s.fabDigest⟩ : FabMsg))] } ∧ changesOnly [.clr, .fab] s u := by
  have hsends : doFabHelloSend t s = (s.passTo t).fabSend 255 (.hello s.isMiddle s.fab.st s.fabDigest) := by
    have hmid : (s.passTo t).isMiddle = s.isMiddle := passTo_congr s t (·.isMiddle) fun _ => rfl
    have hon : (s.passTo t).modeOn = true := (passTo_congr s t (·.modeOn) fun _ => rfl).trans hmode
    unfold doFabHelloSend
    simp only [passTo_inFabric, hf, hon, passTo_fabDigest, hmid, passTo_fab]
    rfl
  refine .of_eq exec_fabHelloSend hsends ⟨?_, ((passTo_keeps s t).trans (fabSend_keeps ..)).changesOnly rfl⟩
  simp only [State.fabSend, passTo_devid, passTo_fab, trackedMsg]
  rfl

theorem runs_discSend (hmode : s.modeOn = true) (hdisc : s.fb FAB_CTRL.DISC_EN [] = false) : Runs (.discSend t) s fun u =>
    u.fab = { s.fab with seq := s.fab.seq + 1, out :=
        s.fab.out ++ [(none, (⟨s.devid, 255, s.fab.seq + 1, 0, .lsa (s.fab.nbrs.map fun y => (y.dev, y.port)) 0⟩ : FabMsg))] }
      ∧ changesOnly [.clr, .fab] s u := by
  have hsends : doDiscSend t s = (s.passTo t).fabSend 255 (.lsa (s.fab.nbrs.map fun y => (y.dev, y.port)) 0) := by
    have hon : (s.passTo t).modeOn = true := (passTo_congr s t (·.modeOn) fun _ => rfl).trans hmode
    unfold doDiscSend
    simp only [passTo_inFabric, hf, hon, passTo_fb, hdisc, Bool.false_eq_true, if_false, passTo_fab]
    rfl
  refine .of_eq exec_discSend hsends ⟨?_, ((passTo_keeps s t).trans (fabSend_keeps ..)).changesOnly rfl⟩
  simp only [State.fabSend, passTo_devid, passTo_fab, trackedMsg]
  rfl

end

/-! ### LSA (R371) -/

theorem lsaIn_changed {l : List (Nat × Nat)} {age : Nat} (hb : m.body = .lsa l age) (hl : sget [] s.fab.lsas m.src ≠ l) :
    lsaIn m s = s.setFab { s.fab with lsas := sset s.fab.lsas m.src l, rtStale := true,
                                      out := s.fab.out ++ [(none, { m with hops := m.hops + 1 })] } := by
  unfold lsaIn
  rw [hb]
  exact if_neg hl

theorem Calm.passTo (h : Calm s) (t : Nat) : Calm (s.passTo t) :=
  h.of_pth (passTo_pth ..) (by rw [passTo_fab]) (by rw [passTo_fab]) (by rw [passTo_fab]) (by rw [passTo_fab]; exact h.missed)

theorem runs_lsa {l : List (Nat × Nat)} {age : Nat} (hf : s.inFabric = true) (hc : Calm s) (hsrc : m.src ≠ s.devid) (hdst : m.dst = 255)
    (hb : m.body = .lsa l age) (hl : sget [] s.fab.lsas m.src ≠ l) : Runs (.lsa m t) s fun u =>
      u.fab = { s.fab with lsas := sset s.fab.lsas m.src l, rtStale := true, out := s.fab.out ++ [(none, { m with hops := m.hops + 1 })] }
        ∧ changesOnly [.clr, .pth, .fab] s u := by
  have hin := lsaIn_changed (s := s.passTo t) hb (by rwa [passTo_fab])
  rw [passTo_fab] at hin
  have hcalm : Calm (lsaIn m (s.passTo t)) := hin ▸ (hc.passTo t).of_pth rfl (by rw [passTo_fab]; rfl) (by rw [passTo_fab]; rfl)
    (by rw [passTo_fab]; rfl) hc.missed
  have hnote : State.topoNote (s.passTo t) (lsaIn m (s.passTo t)) = lsaIn m (s.passTo t) := by
    rw [hin, State.topoNote, passTo_fab]
    exact if_pos ⟨rfl, rfl, rfl⟩
  have htake : fabRecv m t (lsaIn m) s = lsaIn m (s.passTo t) := by
    rw [fabRecv_untracked hf hsrc (.inl hdst) (by rw [hb]; rfl), hnote, hcalm.fabAfter]
    exact schedEvent_of_same (by rw [hin]; rfl)
  refine .of_eq exec_lsa (htake.trans hin) ⟨rfl, ((passTo_keeps s t).trans (setFab_keeps ..)).changesOnly rfl⟩

/-! ### HELLO (R371, R373) -/

theorem devFound_fab (d : Nat) : (s.devFound d).fab = { s.fab with
    known := if s.fab.known.contains d then s.fab.known else s.fab.known ++ [d], dead := s.fab.dead.filter (· ≠ d)
    lnkOut := reclaimLinks d s.fab.lnkOut, lnkIn := reclaimLinks d s.fab.lnkIn } := by
  unfold State.devFound
  exact fabEvent_fab ..

theorem fabDigest_of_reg {u : State} (h : ∀ r ∈ [Reg.YK_GRID, .YK_HORIZON, .PTH_CTRL, .PTH_EQ, .PTH_CHK, .CUF_CTRL, .FAB_CTRL, .FAB_TIME0,
    .FAB_TIME1, .FAB_TIME2, .FAB_WATCH], u.reg r [] = s.reg r []) : u.fabDigest = s.fabDigest := by
  simp only [List.mem_cons, List.not_mem_nil, or_false, forall_eq_or_imp, forall_eq] at h
  obtain ⟨h1, h2, h3, h4, h5, h6, h7, h8, h9, h10, h11⟩ := h
  rw [State.fabDigest, h1, h2, h3, h4, h5, h6, h7, h8, h9, h10, h11, State.fabDigest]

theorem fabEvent_fabDigest (sub : Nat) (pl : List Word) : (s.fabEvent sub pl).fabDigest = s.fabDigest :=
  fabDigest_of_reg fun r hr => reg_of_otherRegs (fabEvent_otherRegs s sub pl) ((fabEvent_keeps ..).stage rfl) (by
    revert r
    decide)

theorem devFound_fabDigest (d : Nat) : (s.devFound d).fabDigest = s.fabDigest := by
  unfold State.devFound
  exact fabEvent_fabDigest ..

theorem mem_known_of_found (k : List Nat) (d : Nat) : d ∈ (if k.contains d then k else k ++ [d]) := by
  split
  · next h => exact List.contains_iff_mem.1 h
  · simp

/-- A device that sends HELLO is found where it is not known, or lost. -/
def State.fresh (s : State) (d : Nat) : Bool := !s.fab.known.contains d || s.fab.dead.contains d

/-- A HELLO is heard: its sender is a neighbour, and its digest is held. -/
def State.greeted (s : State) (m : FabMsg) (port t : Nat) (dg : Word) : State :=
  s.setFab { s.fab with
    nbrs := s.fab.nbrs.filter (fun x : Nbr => !(x.dev == m.src && x.port == port)) ++ [⟨m.src, port, t⟩]
    digest := sset s.fab.digest m.src dg
    rtStale := s.fab.rtStale || s.fresh m.src || !(s.fab.nbrs.any fun x => x.dev == m.src && x.port == port) }

/-- The comparison of a digest (R373): a difference not told before is told, one that has gone is forgotten. -/
def State.digested (s : State) (d : Nat) (dg : Word) : State :=
  if decide (dg ≠ s.fabDigest) = s.fab.digBad.contains d then s
  else if dg ≠ s.fabDigest then (s.setFab { s.fab with digBad := s.fab.digBad ++ [d] }).fabEvent 10 [s.fabDigest, dg, wd d]
  else s.setFab { s.fab with digBad := s.fab.digBad.filter (· ≠ d) }

theorem helloIn_eq {mid : Bool} {st : Nat} {dg : Word} (port : Nat) (hb : m.body = .hello mid st dg) : helloIn m port t s =
    if s.fresh m.src then (((s.greeted m port t dg).devFound m.src).digested m.src dg).retryBlocked
    else (s.greeted m port t dg).digested m.src dg := by
  unfold helloIn
  rw [hb]
  cases h : s.fresh m.src <;> simp only [State.fresh] at h <;> simp only [h] <;> simp only [State.digested, State.greeted, State.fresh, h]
    <;> simp

theorem digested_fab (d : Nat) (dg : Word) : ∃ l, (s.digested d dg).fab = { s.fab with digBad := l }
    ∧ l.contains d = decide (dg ≠ s.fabDigest) := by
  unfold State.digested
  split_ifs with h1 h2
  · exact ⟨_, rfl, h1.symm⟩
  · exact ⟨_, fabEvent_fab .., by simp [h2]⟩
  · exact ⟨_, rfl, by simp [h2]⟩

theorem digested_stays {x : Fld} {k : Nat} (d : Nat) (dg : Word) (h : FabBit x k) (hx : s.f x [] = 1) : (s.digested d dg).f x [] = 1 := by
  unfold State.digested
  split_ifs
  · exact hx
  · exact fabEvent_stays _ _ h hx
  · exact hx

theorem digested_tells {d : Nat} {dg : Word} (hd : dg ≠ s.fabDigest) (hnew : s.fab.digBad.contains d = false) :
    (s.digested d dg).f FAB_EVT.DIGEST [] = 1 := by
  unfold State.digested
  rw [if_neg (by rw [hnew, decide_eq_true hd]; decide), if_pos hd]
  exact fabEvent_sets _ _ bit_DIGEST

/-- What a HELLO with digest `dg` changes (R371, R373). -/
structure Greets (m : FabMsg) (port t : Nat) (dg : Word) (s u : State) : Prop where
  calm : Calm s → Calm u
  nbrs : u.fab.nbrs = s.fab.nbrs.filter (fun y : Nbr => !(y.dev == m.src && y.port == port)) ++ [⟨m.src, port, t⟩]
  digest : u.fab.digest = sset s.fab.digest m.src dg
  dead : u.fab.dead = s.fab.dead.filter (· ≠ m.src)
  known : m.src ∈ u.fab.known
  found : s.fresh m.src = true → u.f FAB_EVT.DEV_FOUND [] = 1
  told : dg ≠ s.fabDigest → s.fab.digBad.contains m.src = false → u.f FAB_EVT.DIGEST [] = 1
  bad : u.fab.digBad.contains m.src = decide (dg ≠ s.fabDigest)

theorem digested_keeps (d : Nat) (dg : Word) : Keeps 0x102804 s (s.digested d dg) := by
  unfold State.digested
  split_ifs
  · exact .refl
  · exact (setFab_keeps ..).trans (fabEvent_keeps ..)
  · exact (setFab_keeps ..).step .refl rfl

theorem greets_new (port t : Nat) (dg : Word) :
    Greets m port t dg s (((s.greeted m port t dg).devFound m.src).digested m.src dg) := by
  have hdig : ((s.greeted m port t dg).devFound m.src).fabDigest = s.fabDigest := devFound_fabDigest m.src
  have hfound : ((s.greeted m port t dg).devFound m.src).fab = _ := devFound_fab m.src
  obtain ⟨l, hfab, hl⟩ := digested_fab (s := (s.greeted m port t dg).devFound m.src) m.src dg
  rw [hfound] at hfab
  have hk : Keeps 0x102804 s (((s.greeted m port t dg).devFound m.src).digested m.src dg) :=
    ((setFab_keeps s _).trans (devFound_keeps (s.greeted m port t dg) m.src)).trans (digested_keeps m.src dg)
  have hset : ((s.greeted m port t dg).devFound m.src).f FAB_EVT.DEV_FOUND [] = 1 := by
    unfold State.devFound
    exact fabEvent_sets _ _ bit_DEV_FOUND
  refine ⟨fun hc => hc.of_pth (hk.frame .pth rfl) ?_ ?_ ?_ ?_, ?_, ?_, ?_, ?_, fun _ => digested_stays _ _ bit_DEV_FOUND hset,
    fun hd hnew => digested_tells (by rwa [hdig]) (by rwa [hfound]), by rw [hfab, ← hdig]; exact hl⟩ <;> rw [hfab]
  · rfl
  · rfl
  · rfl
  · exact hc.missed
  · rfl
  · rfl
  · rfl
  · exact mem_known_of_found s.fab.known m.src

theorem greets_again {port t : Nat} {dg : Word} (h : s.fresh m.src = false) :
    Greets m port t dg s ((s.greeted m port t dg).digested m.src dg) := by
  obtain ⟨hknown, hdead⟩ := Bool.or_eq_false_iff.1 h
  rw [Bool.not_eq_false'] at hknown
  obtain ⟨l, hfab, hl⟩ := digested_fab (s := s.greeted m port t dg) m.src dg
  have hk : Keeps 0x102804 s ((s.greeted m port t dg).digested m.src dg) := (setFab_keeps s _).trans (digested_keeps m.src dg)
  refine ⟨fun hc => hc.of_pth (hk.frame .pth rfl) ?_ ?_ ?_ ?_, ?_, ?_, ?_, ?_, fun hn => absurd hn (by rw [h]; decide),
    fun hd hnew => digested_tells hd hnew, by rw [hfab]; exact hl⟩ <;> rw [hfab]
  · rfl
  · rfl
  · rfl
  · exact hc.missed
  · rfl
  · rfl
  · refine (List.filter_eq_self.2 fun d hd => ?_).symm
    have hne : d ≠ m.src := fun he => absurd (List.contains_iff_mem.2 (he ▸ hd)) (ne_true_of_eq_false hdead)
    simpa using hne
  · exact List.contains_iff_mem.1 hknown

theorem helloIn_greets {mid : Bool} {st : Nat} {dg : Word} (port t : Nat) (hb : m.body = .hello mid st dg) (hp : s.fab.paths = []) :
    Greets m port t dg s (helloIn m port t s) := by
  rw [helloIn_eq port hb]
  split
  · next h =>
    have hpaths : (((s.greeted m port t dg).devFound m.src).digested m.src dg).fab.paths = [] := by
      obtain ⟨l, hfab, -⟩ := digested_fab (s := (s.greeted m port t dg).devFound m.src) m.src dg
      rw [hfab, devFound_fab]
      exact hp
    rw [retryBlocked_of_no_paths hpaths]
    exact greets_new port t dg
  · next h => exact greets_again (Bool.eq_false_of_not_eq_true h)

theorem runs_hello {mid : Bool} {st : Nat} {dg : Word} (hf : s.inFabric = true) (hc : Calm s) (port : Fin 64) (hsrc : m.src ≠ s.devid)
    (hdst : m.dst = 255) (hb : m.body = .hello mid st dg) (hp : s.fab.paths = []) : Runs (.fabHello m port t) s fun u =>
      u.fab.nbrs = s.fab.nbrs.filter (fun y : Nbr => !(y.dev == m.src && y.port == port.val)) ++ [⟨m.src, port.val, t⟩]
        ∧ u.fab.digest = sset s.fab.digest m.src dg ∧ u.fab.dead = s.fab.dead.filter (· ≠ m.src) ∧ m.src ∈ u.fab.known
        ∧ ((s.fab.known.contains m.src = false ∨ s.fab.dead.contains m.src = true) → u.f FAB_EVT.DEV_FOUND [] = 1)
        ∧ (dg ≠ s.fabDigest → s.fab.digBad.contains m.src = false → u.f FAB_EVT.DIGEST [] = 1)
        ∧ (u.fab.digBad.contains m.src = decide (dg ≠ s.fabDigest)) := by
  have hg := helloIn_greets (s := s.passTo t) port.val t hb (by rwa [passTo_fab])
  obtain ⟨hfab, hbits⟩ := settled (s.passTo t) (s.passTo t) (hg.calm (hc.passTo t))
  refine .of_eq (exec_fabHello port) (fabRecv_untracked hf hsrc (.inl hdst) (by rw [hb]; rfl)) ?_
  rw [hfab]
  have hw : (s.passTo t).fab = s.fab := passTo_fab ..
  have hdg : (s.passTo t).fabDigest = s.fabDigest := passTo_fabDigest
  obtain ⟨-, hnbrs, hdigest, hdead, hknown, hfound, htold, hbad⟩ := hg
  have hfresh : (s.passTo t).fresh m.src = s.fresh m.src := passTo_congr s t (·.fresh m.src) fun _ => rfl
  rw [hw] at hnbrs hdigest hdead htold
  rw [hdg] at htold hbad
  rw [hfresh] at hfound
  refine ⟨hnbrs, hdigest, hdead, hknown, fun h => hbits _ _ bit_DEV_FOUND (hfound ?_),
    fun hd hn => hbits _ _ bit_DIGEST (htold hd hn), hbad⟩
  rw [State.fresh]
  rcases h with h | h
  · rw [h]; rfl
  · rw [h, Bool.or_true]

/-! ### Lost devices (R369, R371, R384) -/

/-- What the loss of a device changes where no own path is in force. -/
structure Loses (d : Nat) (s u : State) : Prop where
  calm : Calm s → Calm u
  nbrs : u.fab.nbrs = s.fab.nbrs
  dead : d ∈ u.fab.dead
  out : u.fab.lnkOut = downLinks d s.fab.lnkOut
  inn : u.fab.lnkIn = downLinks d s.fab.lnkIn
  lost : u.f FAB_EVT.DEV_LOST [] = 1

theorem devLost_loses {d : Nat} (hd : s.fab.dead.contains d = false) (hp : s.fab.paths = []) : Loses d s (s.devLost d) := by
  unfold State.devLost
  rw [if_neg (ne_true_of_eq_false hd)]
  extract_lets f s1
  have h1 : s1.fab = _ := fabEvent_fab ..
  have hk : Keeps 0x102804 s s1 := (setFab_keeps ..).trans (fabEvent_keeps ..)
  obtain ⟨l, hloss, hl⟩ := lossOf_of_no_paths (s := s1) (by rw [h1]; exact hp) fun p => p.mid == d
  have hset : s1.f FAB_EVT.DEV_LOST [] = 1 := fabEvent_sets _ _ bit_DEV_LOST
  rw [hloss]
  clear_value s1
  rw [h1] at hl ⊢
  refine ⟨fun hc => hc.of_pth (hk.frame .pth rfl) rfl rfl rfl fun x hx => ?_, rfl, List.mem_append_right _ (.head _), rfl, rfl, hset⟩
  rcases List.mem_append.1 hx with hx | hx
  · exact hc.missed x hx
  · exact hl x hx

theorem tellAll_fab (b : FabBody) : ∃ q o l, (s.tellAll b).fab = { s.fab with seq := q, out := o, sent := l } := by
  unfold State.tellAll
  refine foldl_keeps (fun u : State => ∃ q o l, u.fab = { s.fab with seq := q, out := o, sent := l })
    ⟨_, _, _, rfl⟩ fun u d hu => ?_
  obtain ⟨q, o, l, hu⟩ := hu
  refine ⟨q + 1, o ++ [(none, ⟨u.devid, d, q + 1, 0, b⟩)], if trackedMsg b then l ++ [(⟨⟨u.devid, d, q + 1, 0, b⟩, u.clr.now, 0⟩ : FabSent)] else l, ?_⟩
  simp only [State.fabSend, hu]

theorem Loses.tellAll {d : Nat} {u : State} (h : Loses d s u) (b : FabBody) : Loses d s (u.tellAll b) := by
  obtain ⟨q, o, l, hu⟩ := tellAll_fab (s := u) b
  have hk := tellAll_keeps u b
  refine ⟨fun hc => (h.calm hc).of_pth (hk.frame .pth rfl) ?_ ?_ ?_ ?_, ?_, ?_, ?_, ?_, (hk.f rfl rfl ..).trans h.lost⟩ <;> rw [hu]
  · exact (h.calm hc).missed
  · exact h.nbrs
  · exact h.dead
  · exact h.out
  · exact h.inn

theorem runs_down {d : Fin 64} {k : Nat} (hf : s.inFabric = true) (hc : Calm s) (hsrc : m.src ≠ s.devid) (hdst : m.dst = 255)
    (hb : m.body = .downDev d k) (hown : d.val ≠ s.devid) (hp : s.fab.paths = []) (hdead : s.fab.dead.contains d.val = false) :
    Runs (.down m t) s fun u => d.val ∈ u.fab.dead ∧ u.fab.lnkOut = downLinks d s.fab.lnkOut
        ∧ u.fab.lnkIn = downLinks d s.fab.lnkIn ∧ u.f FAB_EVT.DEV_LOST [] = 1 := by
  have hin : downIn m (s.passTo t) = (s.passTo t).devLost d := by
    unfold downIn
    rw [hb]
    exact if_neg (by rwa [passTo_devid])
  have hl := devLost_loses (s := s.passTo t) (d := d.val) (by rwa [passTo_fab]) (by rwa [passTo_fab])
  obtain ⟨hfab, hbits⟩ := settled (s.passTo t) (s.passTo t) (hl.calm (hc.passTo t))
  refine .of_eq exec_down ((fabRecv_untracked hf hsrc (.inl hdst) (by rw [hb]; rfl)).trans (by rw [hin])) ?_
  rw [hfab]
  have hw : (s.passTo t).fab = s.fab := passTo_fab ..
  exact ⟨hl.dead, hw ▸ hl.out, hw ▸ hl.inn, hbits _ _ bit_DEV_LOST hl.lost⟩

theorem runs_neighbourLoss {d : Fin 64} (hf : s.inFabric = true) (hc : Calm s) (hn : (s.fab.nbrs.any fun y => y.dev == d.val) = true)
    (hp : s.fab.paths = []) (hdead : s.fab.dead.contains d.val = false)
    (hold : ∀ y ∈ s.fab.nbrs, y.dev = d.val → y.t + s.f FAB_TIME0.HELLO_N [] * s.f FAB_TIME0.HELLO_US [] * 10000 ≤ t) :
    Runs (.neighbourLoss d t) s fun u => u.fab.nbrs = s.fab.nbrs.filter (fun y : Nbr => y.dev ≠ d.val) ∧ d.val ∈ u.fab.dead
      ∧ u.fab.lnkOut = downLinks d s.fab.lnkOut ∧ u.fab.lnkIn = downLinks d s.fab.lnkIn ∧ u.f FAB_EVT.DEV_LOST [] = 1 := by
  have hno : (s.fab.nbrs.any fun n => n.dev == d.val &&
      decide (t < n.t + s.f FAB_TIME0.HELLO_N [] * s.f FAB_TIME0.HELLO_US [] * 10000)) = false := by
    refine List.any_eq_false.2 fun y hy => ?_
    have := hold y hy
    simp only [Bool.and_eq_true, beq_iff_eq, decide_eq_true_eq]
    rintro ⟨hd, hlt⟩
    exact absurd (this hd) (by omega)
  have hsilent : doNeighbourLoss d t s = State.schedEvent s (State.topoNote (s.passTo t)
      ((((s.passTo t).setFab { s.fab with nbrs := s.fab.nbrs.filter fun n : Nbr => n.dev ≠ d.val }).devLost d).tellAll
        (.downDev d t))).fabAfter := by
    unfold doNeighbourLoss
    simp only [passTo_inFabric, passTo_f, passTo_fab, hf, hn, hno]
    rfl
  have hquiet : Calm ((s.passTo t).setFab { s.fab with nbrs := s.fab.nbrs.filter fun n : Nbr => n.dev ≠ d.val }) :=
    hc.of_pth (passTo_pth ..) rfl rfl rfl hc.missed
  have hl := (devLost_loses (s := (s.passTo t).setFab { s.fab with nbrs := s.fab.nbrs.filter fun n : Nbr => n.dev ≠ d.val }) (d := d.val)
    hdead hp).tellAll (.downDev d t)
  obtain ⟨hfab, hbits⟩ := settled s (s.passTo t) (hl.calm hquiet)
  refine .of_eq (exec_neighbourLoss d) hsilent ?_
  rw [hfab]
  exact ⟨hl.nbrs, hl.dead, hl.out, hl.inn, hbits _ _ bit_DEV_LOST hl.lost⟩

/-! ### CONTROL_RETRANSMIT (R371) -/

theorem runs_retransmit {x : FabSent} (hx : s.fab.sent = [x]) : Runs (.controlRetransmit t) s fun u => changesOnly [.clr, .fab] s u
      ∧ (x.t + 50000 ≤ (s.passTo t).clr.now → x.n < 3 → u.fab.out = s.fab.out ++ [(none, x.msg)]
          ∧ u.fab.sent = [{ x with t := (s.passTo t).clr.now, n := x.n + 1 }])
      ∧ (x.t + 50000 ≤ (s.passTo t).clr.now → 3 ≤ x.n → u.fab.out = s.fab.out ∧ u.fab.sent = [])
      ∧ ((s.passTo t).clr.now < x.t + 50000 → u.fab.out = s.fab.out ∧ u.fab.sent = [x]) := by
  refine .of_eq exec_controlRetransmit rfl ⟨((passTo_keeps s t).trans (setFab_keeps ..)).changesOnly rfl, fun hdue hn => ?_,
    fun hdue hn => ?_, fun hdue => ?_⟩
  · simp [doControlRetransmit, State.setFab, hx, hdue, hn]
  · simp [doControlRetransmit, State.setFab, hx, hdue, Nat.not_lt.2 hn]
  · simp [doControlRetransmit, State.setFab, hx, Nat.not_le.2 hdue]

end
end Sys2Proof.Machine
end

section
/-! PROOF. The routes of the fabric (R371): only a new computation changes them, and the loss of a device makes them stale. -/
namespace Sys2Proof.Machine

/-- Routes and state of the fabric are the same and, where `b` holds, the routes are no staler. -/
structure RouteKept (b : Bool) (s u : State) : Prop where
  rt : u.fab.rt = s.fab.rt
  st : u.fab.st = s.fab.st
  stale : b = true → u.fab.rtStale = s.fab.rtStale

section
variable {b : Bool} {s u v : State} {m : Nat}

theorem RouteKept.refl : RouteKept b s s := ⟨rfl, rfl, fun _ => rfl⟩
theorem RouteKept.trans (h : RouteKept b s u) (k : RouteKept b u v) : RouteKept b s v :=
  ⟨k.rt.trans h.rt, k.st.trans h.st, fun hb => (k.stale hb).trans (h.stale hb)⟩
theorem RouteKept.of_fab (h : u.fab = s.fab) : RouteKept b s u := ⟨by rw [h], by rw [h], fun _ => by rw [h]⟩
theorem RouteKept.of_keeps (h : Keeps m s u) (hm : m.testBit 11 = false) : RouteKept b s u := .of_fab (h.frame .fab hm)
theorem RouteKept.ite {c : Prop} {i : Decidable c} (h : RouteKept b s u) (k : RouteKept b s v) : RouteKept b s (ite c u v) := by
  split <;> assumption
theorem RouteKept.then (h : RouteKept b s u) (k : Keeps m u v) (hm : m.testBit 11 = false) : RouteKept b s v := h.trans (.of_keeps k hm)
theorem RouteKept.foldl {α : Type} {f : State → α → State} (h : ∀ x a, RouteKept b x (f x a)) (l : List α) (s : State) :
    RouteKept b s (l.foldl f s) :=
  foldl_rel (R := RouteKept b) (fun _ => .refl) .trans (fun x a _ => h x a) s
theorem RouteKept.after {f : Fab} (h : RouteKept b (s.setFab f) u) (hr : f.rt = s.fab.rt) (ht : f.st = s.fab.st)
    (hs : b = true → f.rtStale = s.fab.rtStale) : RouteKept b s u := RouteKept.trans ⟨hr, ht, hs⟩ h

variable (s)

theorem setFpath_route (a : Nat) (p : FabPath) : RouteKept b s (s.setFpath a p) := ⟨rfl, rfl, fun _ => rfl⟩
theorem fabSend_route (d : Nat) (x : FabBody) : RouteKept b s (s.fabSend d x) := ⟨rfl, rfl, fun _ => rfl⟩
theorem modSeg_route (o n : Nat) (f : FabSeg → FabSeg) : RouteKept b s (s.modSeg o n f) := ⟨rfl, rfl, fun _ => rfl⟩
theorem dropReq_route (n : Nat) : RouteKept b s (s.dropReq n) := ⟨rfl, rfl, fun _ => rfl⟩
theorem wakeWaiting_route : RouteKept b s s.wakeWaiting := ⟨rfl, rfl, fun _ => rfl⟩
theorem fabEvent_route (sub : Nat) (pl : List Word) : RouteKept b s (s.fabEvent sub pl) := .of_keeps (fabEvent_keeps ..) rfl
theorem topoNote_route (o : State) : RouteKept b s (State.topoNote o s) := .of_keeps (topoNote_keeps ..) rfl

theorem owesRelease_route (devs : List Nat) (items : List FabItem) : RouteKept b s (s.owesRelease devs items) := by
  unfold State.owesRelease
  exact .ite .refl ⟨rfl, rfl, fun _ => rfl⟩

theorem releaseSeg_route (o n : Nat) : RouteKept b s (s.releaseSeg o n) := by
  unfold State.releaseSeg
  extract_lets _ s1
  have h1 : RouteKept b s s1 := ⟨rfl, rfl, fun _ => rfl⟩
  split
  · next p _ =>
    exact .ite (h1.then (m := 0x300304) (beneath_keeps .refl rfl 0 _ _ fun u hu => (withdraw_keeps u p).step hu rfl) rfl) h1
  · exact h1

theorem placeSeg_route {s1 : State} {moved : List Nat} {o n k dl : Nat} {reqs : List Req} {paths : List (Nat × Nat × Nat)} {pol mm : Nat}
    (h : s.placeSeg o n k dl reqs paths pol mm = some (s1, moved)) : RouteKept b s s1 := by
  unfold State.placeSeg at h
  extract_lets x bad at h
  split at h
  · cases h
  split at h
  · cases h
  · extract_lets l _ p t1 _ t2 at h
    obtain ⟨rfl, -⟩ := h
    refine RouteKept.then (u := t2) ?_ (addPlaced_keeps ..) rfl
    exact (RouteKept.of_keeps (takeChanges_keeps s l _) rfl).trans ⟨rfl, rfl, fun _ => rfl⟩

theorem resvFail_route (q : FabReq) (st : Nat) : RouteKept b s (s.resvFail q st) := by
  unfold State.resvFail
  extract_lets s1
  refine RouteKept.then (u := s1) ?_ (fabComplete_keeps ..) rfl
  exact (dropReq_route s q.num).trans (.foldl (fun u i => .ite ((setFpath_route ..).trans (fabEvent_route ..)) (setFpath_route ..)) _ _)

theorem fabTry_route (n : Nat) (q : FabReq) : RouteKept b s (State.fabTry n s q) := by
  induction n generalizing s q with
  | zero => exact resvFail_route ..
  | succ n ih =>
    unfold State.fabTry
    refine .ite (resvFail_route ..) ?_
    extract_lets mid next num _ s0 pol old others
    split
    · exact ih s next
    · extract_lets own
      have h0 : RouteKept b s s0 := ⟨rfl, rfl, fun _ => rfl⟩
      split
      · exact h0.trans (ih s0 next)
      · next s1 moved hplace =>
        extract_lets q1 w s2 _ s3
        have h1 : RouteKept b s s1 := h0.trans (placeSeg_route s0 hplace)
        have h2 : RouteKept b s s2 := (RouteKept.ite (h1.trans (releaseSeg_route ..)) h1).trans (owesRelease_route ..)
        have h3 : RouteKept b s s3 := h2.trans ⟨rfl, rfl, fun _ => rfl⟩
        exact h3.trans (.foldl (fun u d => fabSend_route ..) _ _)

theorem reroute_route (l : List Nat) (away : Bool) : RouteKept b s (s.reroute l away) := by
  unfold State.reroute
  refine .ite .refl ?_
  extract_lets acc
  have hacc : RouteKept b s acc.1 := foldl_keeps (fun a : State × _ => RouteKept b s a.1) .refl fun a x ha => by
    extract_lets p
    split
    · exact ha.trans (setFpath_route ..)
    · exact .ite ha (ha.trans ((setFpath_route ..).trans (fabEvent_route ..)))
  refine hacc.trans (.foldl (fun u g => ?_) _ _)
  extract_lets num dst q _ s1
  exact (fabTry_route ..).after rfl rfl fun _ => rfl

theorem retryBlocked_route : RouteKept b s s.retryBlocked := reroute_route ..

theorem lossOf_route (c : FabPath → Bool) : RouteKept b s (s.lossOf c) := by
  unfold State.lossOf
  extract_lets l
  split
  · exact reroute_route ..
  · exact (reroute_route ..).after rfl rfl fun _ => rfl

theorem missedLoss_route : RouteKept b s s.missedLoss := by
  unfold State.missedLoss
  refine .ite .refl ?_
  extract_lets ended _ s1
  exact (reroute_route ..).after rfl rfl fun _ => rfl

theorem devFound_route (d : Nat) : RouteKept b s (s.devFound d) := by
  unfold State.devFound
  exact (fabEvent_route ..).after rfl rfl fun _ => rfl

/-- The loss of a device leaves the routes as they were computed, and makes them stale. -/
theorem devLost_route (d : Nat) : RouteKept false s (s.devLost d) := by
  unfold State.devLost
  refine .ite .refl ?_
  extract_lets f s1
  have h1 : RouteKept false s s1 := (fabEvent_route ..).after rfl rfl fun h => absurd h Bool.false_ne_true
  exact h1.trans (lossOf_route ..)

theorem dropProbes_route (sel : Nat × Nat → Bool) : RouteKept b s (s.dropProbes sel) := by
  unfold State.dropProbes
  extract_lets gone ins _ s1 lanes
  have h1 : RouteKept b s s1 := by
    have h0 : RouteKept b s (s.setFab { s.fab with probes := s.fab.probes.filter fun x => !sel x }) := ⟨rfl, rfl, fun _ => rfl⟩
    exact h0.trans (.foldl (fun u x => .of_keeps (tagStop_keeps u x.1) rfl) ins _)
  refine .ite .refl (.ite h1 ?_)
  split
  · exact h1
  · next hn => exact h1.then (newPat_keeps _ _ _ _ _ _ _ _ _ hn) rfl

theorem lateRelease_route : RouteKept b s s.lateRelease := by
  unfold State.lateRelease
  extract_lets l
  refine .foldl (fun u x => ?_) _ _
  exact ⟨rfl, rfl, fun _ => rfl⟩

theorem refLinks_route (l : List Nat) : RouteKept b s (s.refLinks l) := by
  unfold State.refLinks
  refine .foldl (fun u x => ?_) _ _
  exact .ite ⟨rfl, rfl, fun _ => rfl⟩ .refl

theorem segRefs_route (g : FabSeg) : RouteKept b s (s.segRefs g) := by
  unfold State.segRefs
  refine .ite (.foldl (fun u x => ?_) _ _) (.foldl (fun u x => ?_) _ _)
  · exact ⟨rfl, rfl, fun _ => rfl⟩
  · exact .ite ⟨rfl, rfl, fun _ => rfl⟩ ⟨rfl, rfl, fun _ => rfl⟩

theorem rbDone_route (n d : Nat) : RouteKept b s (s.rbDone n d) := by
  unfold State.rbDone
  split
  · exact .refl
  · extract_lets w
    exact .ite (RouteKept.after (.of_keeps (fabComplete_keeps ..) rfl) rfl rfl fun _ => rfl) ⟨rfl, rfl, fun _ => rfl⟩

theorem segRollback_route (o n : Nat) (due : Option Nat) : RouteKept b s (s.segRollback o n due) := by
  unfold State.segRollback
  split
  · exact .ite ((RouteKept.of_keeps (rollBack_keeps ..) rfl).trans (modSeg_route ..)) .refl
  · exact .refl

theorem fabFinish_route (q : FabReq) : RouteKept b s (s.fabFinish q) := by
  unfold State.fabFinish
  refine .ite .refl ?_
  extract_lets _ s1 j s2 fault due s3 s4 st back _
  have h1 : RouteKept b s s1 := ⟨rfl, rfl, fun _ => rfl⟩
  have h2 : RouteKept b s s2 := h1.trans (.foldl (fun u i => by
    extract_lets u1 _ u2
    have k1 : RouteKept b u u1 := .ite (setFpath_route ..) (setFpath_route ..)
    have k2 : RouteKept b u u2 := .ite k1 (k1.then (setRec_keeps ..) rfl)
    exact .ite (k2.trans (fabEvent_route ..)) k2) _ _)
  have h3 : RouteKept b s s3 := h1.trans (.foldl (fun u x => .ite (.ite (segRollback_route ..) (fabSend_route ..)) .refl) _ _)
  have h4 : RouteKept b s s4 :=
    h3.trans (.foldl (fun u i => .ite ((setFpath_route ..).trans (fabEvent_route ..)) (setFpath_route ..)) _ _)
  exact .ite (h2.then (fabComplete_keeps ..) rfl) (.ite (h4.then (fabComplete_keeps ..) rfl) (h4.trans ⟨rfl, rfl, fun _ => rfl⟩))

theorem fabGather_route (n d : Nat) (o : SegOut) : RouteKept b s (s.fabGather n d o) := by
  unfold State.fabGather
  split
  · exact .refl
  · refine .ite .refl ?_
    extract_lets q1 _ s1
    exact (fabFinish_route ..).after rfl rfl fun _ => rfl

theorem segDone_route (p : Placed) (o : SegOut) : RouteKept b s (s.segDone p o) := by
  unfold State.segDone
  split
  · exact .refl
  · extract_lets s1 s2
    have h2 : RouteKept b s s2 := by
      refine RouteKept.trans (u := s1) (modSeg_route ..) ?_
      unfold s2
      split
      · exact .ite (segRefs_route ..) .refl
      · exact .refl
    clear_value s2
    refine .ite (.ite (rbDone_route ..) (fabSend_route ..)) (.ite ?_ (h2.trans (fabSend_route ..)))
    exact h2.trans ((fabGather_route ..).after rfl rfl fun _ => rfl)

theorem finish_route (p : Placed) (st : Nat) : RouteKept b s (s.finish p st) := by
  unfold State.finish
  extract_lets s1 ok v s2 s3 s4
  have h1 : RouteKept b s s1 := .of_keeps (dropPlaced_keeps ..) rfl
  have h2 : RouteKept b s s2 := .ite (h1.then (completeTxn_keeps ..) rfl) h1
  have h3 : RouteKept b s s3 := h2.then (pairDone_keeps ..) rfl
  have h4 : RouteKept b s s4 := .ite (h3.trans (refLinks_route ..)) h3
  exact h4.trans (segDone_route ..)

theorem sweepLost_route : RouteKept b s s.sweepLost := by
  unfold State.sweepLost
  refine .foldl (fun u _ => ?_) _ _
  split
  · exact finish_route ..
  · exact .refl

theorem fabAfter_route : RouteKept b s s.fabAfter := by
  unfold State.fabAfter State.yieldProbes
  have h1 : RouteKept b s s.sweepLost.wakeWaiting := (sweepLost_route s).trans (wakeWaiting_route _)
  exact ((h1.trans (lateRelease_route _)).trans (missedLoss_route _)).trans (dropProbes_route _ _)

end

/-! ### ROUTE_RECOMPUTE (R371) -/

section
variable {s : State}

theorem exec_routeRecompute : exec .routeRecompute s = .next (doRouteRecompute s) := rfl

/-- FAB_RT as it is computed from the neighbours and the LSAs. -/
def State.newRt (s : State) : List (Nat × Nat × Nat) :=
  (List.range 64).filterMap fun d => if d = s.devid then none else (s.routeTo d).map fun r => (d, r)

theorem doRouteRecompute_routes (hf : s.inFabric = true) : (doRouteRecompute s).fab.rt = s.newRt
    ∧ (doRouteRecompute s).fab.st = (if s.fab.st = 0 then 1 else s.fab.st)
    ∧ (s.fab.rt = [] → (doRouteRecompute s).fab.rtStale = false) := by
  unfold doRouteRecompute
  rw [if_neg (by rw [hf]; decide)]
  extract_lets rt f s1 found s2 gone s3 s4
  have h2 (b : Bool) : RouteKept b s1 s2 := .foldl devFound_route _ _
  have h3 : RouteKept false s2 s3 := .foldl devLost_route _ _
  have hnone (hrt : s.fab.rt = []) : s3 = s2 := by
    have hgone : gone = [] := by simp only [gone, f, hrt]; rfl
    simp only [s3, hgone, List.foldl_nil]
  have h4 (b : Bool) : RouteKept b s3 s4 := .ite .refl (retryBlocked_route _)
  have hend (b : Bool) : RouteKept b s4 (State.schedEvent s (State.topoNote s s4).fabAfter) :=
    ((topoNote_route s4 s).trans (fabAfter_route _)).then (schedEvent_keeps ..) rfl
  have hall := (((h2 false).trans h3).trans (h4 false)).trans (hend false)
  refine ⟨hall.rt, hall.st, fun hrt => ?_⟩
  have h34 := h4 true
  rw [hnone hrt] at h34
  exact (((h2 true).trans h34).trans (hend true)).stale rfl

theorem routeTo_of_alone (h : s.fab.nbrs = []) (d : Nat) : s.routeTo d = none := by
  rw [State.routeTo, h]
  rfl

theorem newRt_of_alone (h : s.fab.nbrs = []) : s.newRt = [] := by
  refine List.filterMap_eq_nil_iff.2 fun d _ => ?_
  rw [routeTo_of_alone h]
  exact ite_self _

/-- Without LSAs no hop leads on from a device. -/
theorem ball_of_no_lsas (h : s.fab.lsas = []) (k n : Nat) : s.ball k [n] = [n] := by
  induction k with
  | zero => rfl
  | succ k ih =>
    unfold State.ball
    have hno : ([n].flatMap fun d => (sget [] s.fab.lsas d).map Prod.fst) = [] := by simp [h, sget]
    rw [hno]
    exact ih

theorem routeTo_of_one {n : Nbr} (hn : s.fab.nbrs = [n]) (hl : s.fab.lsas = []) (d : Nat) :
    s.routeTo d = if d = n.dev then some (1, n.port) else none := by
  have hhops : s.hopsFrom n.dev d = if d = n.dev then some 0 else none := by
    unfold State.hopsFrom
    simp only [ball_of_no_lsas hl]
    by_cases hd : d = n.dev
    · rw [if_pos hd, hd]
      simp [List.range, List.range.loop]
    · rw [if_neg hd]
      exact List.find?_eq_none.2 fun k _ => by simpa using hd
  unfold State.routeTo
  rw [hn, List.filterMap_cons, hhops]
  by_cases hd : d = n.dev
  · simp only [if_pos hd]
    rfl
  · simp only [if_neg hd]
    rfl

theorem filterMap_range_single {α : Type} {f : Nat → Option α} {n k : Nat} {x : α} (hk : k < n) (hx : f k = some x)
    (h : ∀ d, d ≠ k → f d = none) : (List.range n).filterMap f = [x] := by
  have hno (j : Nat) (hj : j ≤ k) : (List.range j).filterMap f = [] :=
    List.filterMap_eq_nil_iff.2 fun d hd => h d (by have := List.mem_range.1 hd; omega)
  induction n with
  | zero => exact absurd hk (Nat.not_lt_zero k)
  | succ n ih =>
    rw [List.range_succ, List.filterMap_append]
    rcases Nat.lt_succ_iff_lt_or_eq.1 hk with hlt | rfl
    · rw [ih hlt, List.filterMap_cons, h n (by omega)]
      rfl
    · rw [hno k (Nat.le_refl k), List.filterMap_cons, hx]
      rfl

theorem newRt_of_one {n : Nbr} (hn : s.fab.nbrs = [n]) (hl : s.fab.lsas = []) (hlt : n.dev < 64) (hown : n.dev ≠ s.devid) :
    s.newRt = [(n.dev, 1, n.port)] := by
  refine filterMap_range_single hlt ?_ fun d hd => ?_
  · rw [if_neg hown, routeTo_of_one hn hl, if_pos rfl]
    rfl
  · rw [routeTo_of_one hn hl, if_neg hd]
    exact ite_self _

theorem runs_routeRecompute (n : Nbr) (hf : s.inFabric = true) : Runs .routeRecompute s fun u =>
    (s.fab.rt = [] → u.fab.rtStale = false) ∧ u.fab.st = (if s.fab.st = 0 then 1 else s.fab.st)
      ∧ (s.fab.nbrs = [] → u.fab.rt = [])
      ∧ (s.fab.nbrs = [n] → s.fab.lsas = [] → n.dev < 64 → n.dev ≠ s.devid → u.fab.rt = [(n.dev, 1, n.port)]) := by
  obtain ⟨hrt, hst, hstale⟩ := doRouteRecompute_routes hf
  exact .of_eq exec_routeRecompute rfl ⟨hstale, hst, fun h => hrt.trans (newRt_of_alone h),
    fun hn hl hlt hown => hrt.trans (newRt_of_one hn hl hlt hown)⟩

end

/-- Settles O49, one lemma per clause. -/
theorem controlNetwork : Obligations.ControlNetwork := fun _s _m port _d _t _st _mid _dg n _l _age _x hf hw hl hp hm hpr =>
  have hc : Calm _ := ⟨hw, hl, hp, by rw [hm]; nofun, hpr⟩
  ⟨runs_twin hf port, runs_forward hf port, runs_seen hf, runs_helloSend hf, runs_hello hf hc port, runs_discSend hf, runs_lsa hf hc,
    runs_routeRecompute n hf, runs_neighbourLoss hf hc, runs_down hf hc, runs_retransmit, runs_own_lsa hf⟩

end Sys2Proof.Machine
end

section
/-! PROOF. DISC and the link tables (R368, R369, R376): what the claims of a device make of a link. -/
namespace Sys2Proof.Machine

/-! ### One link of the tables -/

/-- The entry of a link out-port or of a link in-port. -/
def State.lnkAt (s : State) (out : Bool) (p : Nat) : Lnk := if out then s.lnkOut p else s.lnkIn p

/-- The fabric logic with an entry of a link table stored. -/
def Fab.setLnk (f : Fab) (out : Bool) (p : Nat) (v : Lnk) : Fab :=
  if out then { f with lnkOut := sset f.lnkOut p v } else { f with lnkIn := sset f.lnkIn p v }

/-- The match of one claim of this device (R376). -/
def State.matchClaim (s : State) (d : Nat) (c : Claim) : State :=
  if c.out then State.matchOut d s c.port c.word else State.matchIn d s c.port c.word

/-- The far end of an own link is confirmed, by the side of the link. -/
def State.setLinkAt (s : State) (out : Bool) (p d u w : Nat) : State :=
  if out then s.setLinkOut p d u w else s.setLinkIn p d u w

/-- Of the fabric no more than one entry of a link table is written, and no bit of FAB_EVT is cleared. -/
structure LinkWrite (out : Bool) (p : Nat) (s u : State) : Prop where
  fab : u.fab = s.fab ∨ ∃ v, u.fab = s.fab.setLnk out p v
  keeps : Keeps 0x102804 s u
  stays : ∀ (x : Fld) (k : Nat), FabBit x k → s.f x [] = 1 → u.f x [] = 1

/-- Of the fabric only the link tables are written, and no bit of FAB_EVT is cleared. -/
structure LinksOnly (s u : State) : Prop where
  fab : ∃ lo li, u.fab = { s.fab with lnkOut := lo, lnkIn := li }
  keeps : Keeps 0x102804 s u
  stays : ∀ (x : Fld) (k : Nat), FabBit x k → s.f x [] = 1 → u.f x [] = 1

section
variable {s u v : State} {out : Bool} {p : Nat}

theorem lnkAt_of_setLnk {l : Lnk} (h : u.fab = s.fab.setLnk out p l) (o : Bool) (q : Nat) :
    u.lnkAt o q = if o = out ∧ q = p then l else s.lnkAt o q := by
  by_cases hq : q = p
  · subst hq
    cases o <;> cases out <;> simp [State.lnkAt, State.lnkOut, State.lnkIn, h, Fab.setLnk]
  · have hne : p ≠ q := Ne.symm hq
    cases o <;> cases out <;> simp [State.lnkAt, State.lnkOut, State.lnkIn, h, Fab.setLnk, hq, sget_sset_ne _ _ _ hne]

theorem LinkWrite.refl : LinkWrite out p s s := ⟨.inl rfl, .refl, fun _ _ _ => id⟩

theorem LinkWrite.set (l : Lnk) : LinkWrite out p s (s.setFab (s.fab.setLnk out p l)) :=
  ⟨.inr ⟨l, rfl⟩, (setFab_keeps ..).step .refl rfl, fun _ _ _ => id⟩

theorem LinkWrite.event (h : LinkWrite out p s u) (sub : Nat) (pl : List Word) : LinkWrite out p s (u.fabEvent sub pl) :=
  ⟨h.fab.imp (fabEvent_fab ..).trans fun ⟨l, hl⟩ => ⟨l, (fabEvent_fab ..).trans hl⟩, h.keeps.trans (fabEvent_keeps ..),
    fun x k hk hx => fabEvent_stays _ _ hk (h.stays x k hk hx)⟩

theorem LinkWrite.beside (h : LinkWrite out p s u) {o : Bool} {q : Nat} (hne : ¬ (o = out ∧ q = p)) : u.lnkAt o q = s.lnkAt o q := by
  rcases h.fab with hf | ⟨l, hf⟩
  · simp only [State.lnkAt, State.lnkOut, State.lnkIn, hf]
  · rw [lnkAt_of_setLnk hf, if_neg hne]

theorem LinksOnly.refl : LinksOnly s s := ⟨⟨_, _, rfl⟩, .refl, fun _ _ _ => id⟩

theorem LinksOnly.write (h : LinksOnly s u) (k : LinkWrite out p u v) : LinksOnly s v := by
  obtain ⟨lo, li, hu⟩ := h.fab
  refine ⟨?_, h.keeps.trans k.keeps, fun x n hn hx => k.stays x n hn (h.stays x n hn hx)⟩
  rcases k.fab with hf | ⟨l, hf⟩
  · exact ⟨lo, li, hf.trans hu⟩
  · rw [hf, hu]
    cases out
    · exact ⟨lo, sset li p l, rfl⟩
    · exact ⟨sset lo p l, li, rfl⟩

theorem LinksOnly.claims (h : LinksOnly s u) : u.fab.claims = s.fab.claims := by
  obtain ⟨_, _, hu⟩ := h.fab
  rw [hu]

theorem LinksOnly.linkOk (h : LinksOnly s u) (d : Nat) : u.linkOk d = s.linkOk d := by
  have hdev : u.sys.devid = s.sys.devid := (h.keeps.frame .straps rfl).2.2.1
  rw [State.linkOk, State.isMiddle, hdev]
  rfl

theorem LinksOnly.calm (h : LinksOnly s u) (hc : Calm s) : Calm u := by
  obtain ⟨_, _, hu⟩ := h.fab
  refine hc.of_pth (h.keeps.frame .pth rfl) ?_ ?_ ?_ ?_ <;> rw [hu]
  exact hc.missed

variable (s) (d u' w : Nat)

theorem setLinkAt_write : LinkWrite out p s (s.setLinkAt out p d u' w) := by
  unfold State.setLinkAt
  split
  · next h =>
    subst h
    unfold State.setLinkOut
    extract_lets o n _ s1
    have h1 : LinkWrite true p s s1 := .set n
    split
    · exact .refl
    · split
      · exact h1.event ..
      · exact h1
  · next h =>
    obtain rfl := Bool.eq_false_of_not_eq_true h
    unfold State.setLinkIn
    extract_lets o n _ s1
    have h1 : LinkWrite false p s s1 := .set n
    split
    · exact .refl
    · split
      · exact h1.event ..
      · exact h1

/-- An end of a valid link is CONFIRMED, and another far end that stood there makes MISWIRED set (R376). -/
theorem setLinkAt_confirms (hok : s.linkOk d = true) : (s.setLinkAt out p d u' w).lnkAt out p = ⟨2, d, u'⟩
    ∧ ((s.lnkAt out p).st = 1 ∨ (s.lnkAt out p).st = 2 → ((s.lnkAt out p).dev, (s.lnkAt out p).port) ≠ (d, u') →
      (s.setLinkAt out p d u' w).f FAB_EVT.MISWIRED [] = 1) := by
  have hother {o : Lnk} (h : (o.dev, o.port) ≠ (d, u')) : o.dev ≠ d ∨ o.port ≠ u' := by
    by_contra hn
    rw [not_or, not_not, not_not] at hn
    exact h (Prod.ext hn.1 hn.2)
  cases out with
  | true =>
    simp only [State.setLinkAt, State.lnkAt, if_true]
    unfold State.setLinkOut
    rw [hok]
    extract_lets o n _ s1
    have hset : s1.lnkOut p = ⟨2, d, u'⟩ := sget_sset_same ..
    split
    · next h => exact ⟨h, fun _ hne => absurd (show (o.dev, o.port) = (d, u') by rw [h]) hne⟩
    · split
      · exact ⟨by rw [State.lnkOut, fabEvent_fab]; exact hset, fun _ _ => fabEvent_sets _ _ bit_MISWIRED⟩
      · next hno => exact ⟨hset, fun hst hne => absurd (.inr ⟨hst, hother hne⟩) hno⟩
  | false =>
    simp only [State.setLinkAt, State.lnkAt, Bool.false_eq_true, if_false]
    unfold State.setLinkIn
    rw [hok]
    extract_lets o n _ s1
    have hset : s1.lnkIn p = ⟨2, d, u'⟩ := sget_sset_same ..
    split
    · next h => exact ⟨h, fun _ hne => absurd (show (o.dev, o.port) = (d, u') by rw [h]) hne⟩
    · split
      · exact ⟨by rw [State.lnkIn, fabEvent_fab]; exact hset, fun _ _ => fabEvent_sets _ _ bit_MISWIRED⟩
      · next hno => exact ⟨hset, fun hst hne => absurd (.inr ⟨hst, hother hne⟩) hno⟩

/-! ### The match of a claim (R376) -/

variable (c : Claim)

theorem matchClaim_write : LinkWrite c.out c.port s (s.matchClaim d c) := by
  obtain ⟨out, p, w⟩ := c
  cases out with
  | true =>
    show LinkWrite true p s (State.matchOut d s p w)
    unfold State.matchOut
    extract_lets o _
    split
    · exact .refl
    · split
      · exact setLinkAt_write (out := true) s _ _ w
      · split
        · exact setLinkAt_write (out := true) s _ _ w
        · split
          · split
            · exact LinkWrite.event (.set (out := true) { o with st := 3 }) ..
            · exact .refl
          · exact .refl
  | false =>
    show LinkWrite false p s (State.matchIn d s p w)
    unfold State.matchIn
    extract_lets o _
    split
    · exact .refl
    · split
      · exact setLinkAt_write (out := false) s _ _ w
      · split
        · exact setLinkAt_write (out := false) s _ _ w
        · split
          · exact LinkWrite.event (.set (out := false) { o with st := 3 }) ..
          · exact .refl

variable {s d} {out : Bool} {w : Nat}

theorem matchClaim_believed (hb : s.bears d (s.lnkAt out p) (!out) w = true) (hs : s.stillClaimed (s.lnkAt out p) (!out) w = true) :
    s.matchClaim d ⟨out, p, w⟩ = s.setLinkAt out p (s.lnkAt out p).dev (s.lnkAt out p).port w := by
  cases out with
  | true =>
    simp only [State.lnkAt, if_true, Bool.not_true] at hb hs
    simp [State.matchClaim, State.matchOut, State.setLinkAt, State.lnkAt, hb, hs]
  | false =>
    simp only [State.lnkAt, Bool.false_eq_true, if_false, Bool.not_false] at hb hs
    simp [State.matchClaim, State.matchIn, State.setLinkAt, State.lnkAt, hb, hs]

theorem matchClaim_found (hb : s.bears d (s.lnkAt out p) (!out) w = true) (hs : s.stillClaimed (s.lnkAt out p) (!out) w = false)
    {x : Nat × Nat} (hx : s.farEnd (!out) w = some x) : s.matchClaim d ⟨out, p, w⟩ = s.setLinkAt out p x.1 x.2 w := by
  cases out with
  | true =>
    simp only [State.lnkAt, if_true, Bool.not_true] at hb hs hx
    simp [State.matchClaim, State.matchOut, State.setLinkAt, hb, hs, hx]
  | false =>
    simp only [State.lnkAt, Bool.false_eq_true, if_false, Bool.not_false] at hb hs hx
    simp [State.matchClaim, State.matchIn, State.setLinkAt, hb, hs, hx]

/-- A link in-port whose word no claim names any more is MISWIRED, and stays so. -/
theorem matchClaim_lost (hb : s.bears d (s.lnkIn p) true w = true) (hs : s.stillClaimed (s.lnkIn p) true w = false)
    (hx : s.farEnd true w = none) : s.matchClaim d ⟨false, p, w⟩ = if (s.lnkIn p).st = 1 ∨ (s.lnkIn p).st = 2 then
      (s.setFab (s.fab.setLnk false p { s.lnkIn p with st := 3 })).fabEvent 5 [wd (p + 512 + (s.lnkIn p).dev * 65536), wd w] else s := by
  simp [State.matchClaim, State.matchIn, hb, hs, hx]
  rfl

/-! ### The claims of a device (R375) -/

section
variable {m : SMap (List Claim)} {k b n : Nat} {c : Claim}

theorem mem_of_mem_sget (h : c ∈ sget [] m k) : (k, sget [] m k) ∈ m := by
  induction m with
  | nil => exact absurd h List.not_mem_nil
  | cons q m ih =>
    obtain ⟨j, l⟩ := q
    unfold sget at h ⊢
    split at h
    · next hj => rw [if_pos hj, hj]; exact .head _
    · next hj => rw [if_neg hj]; exact .tail _ (ih h)

/-- Every claim of another device that names word n on the far side is that of port b of device d. -/
def OnlyEnd (m : SMap (List Claim)) (far : Bool) (n d b : Nat) : Prop :=
  ∀ x ∈ m, ∀ c ∈ x.2, c.out = far → c.word = n → x.1 = d ∧ c.port = b

variable {far : Bool} {o : Lnk}

theorem dev_of_stillClaimed (ho : OnlyEnd s.fab.claims far n d b) (h : s.stillClaimed o far n = true) : (o.dev, o.port) = (d, b) := by
  have hmem : (⟨far, o.port, n⟩ : Claim) ∈ sget [] s.fab.claims o.dev := List.contains_iff_mem.1 (Bool.and_eq_true_iff.1 h).2
  obtain ⟨hd, hb⟩ := ho _ (mem_of_mem_sget hmem) _ hmem rfl rfl
  exact Prod.ext hd hb

theorem bears_of_claim (h : (⟨far, b, n⟩ : Claim) ∈ sget [] s.fab.claims d) : s.bears d o far n = true := by
  unfold State.bears
  exact Bool.or_eq_true_iff.2 (.inr (List.any_eq_true.2 ⟨_, h, by simp⟩))

theorem mem_claimed {x : Nat × Nat} : x ∈ s.claimed far n ↔ ∃ y ∈ s.fab.claims, ∃ c ∈ y.2, c.out = far ∧ c.word = n ∧ x = (y.1, c.port) := by
  simp only [State.claimed, List.mem_flatMap, List.mem_map, List.mem_filter, Bool.and_eq_true, beq_iff_eq]
  constructor
  · rintro ⟨y, hy, c, ⟨hc, ho, hw⟩, rfl⟩
    exact ⟨y, hy, c, hc, ho, hw, rfl⟩
  · rintro ⟨y, hy, c, hc, ho, hw, rfl⟩
    exact ⟨y, hy, c, ⟨hc, ho, hw⟩, rfl⟩

theorem farEnd_of_only (ho : OnlyEnd s.fab.claims far n d b) (h : (⟨far, b, n⟩ : Claim) ∈ sget [] s.fab.claims d) (hok : s.linkOk d = true) :
    s.farEnd far n = some (d, b) := by
  have hall : ∀ x ∈ s.claimed far n, x = (d, b) := fun x hx => by
    obtain ⟨y, hy, c, hc, hout, hw, rfl⟩ := mem_claimed.1 hx
    obtain ⟨hd, hb⟩ := ho y hy c hc hout hw
    rw [hd, hb]
  have hmem : (d, b) ∈ s.claimed far n := mem_claimed.2 ⟨_, mem_of_mem_sget h, _, h, rfl, rfl, rfl⟩
  have hfind : (s.claimed far n).find? (fun x => s.linkOk x.1) = some (d, b) := by
    cases hf : (s.claimed far n).find? fun x => s.linkOk x.1 with
    | none => exact absurd hok (List.find?_eq_none.1 hf _ hmem)
    | some x => rw [hall x (List.mem_of_find?_eq_some hf)]
  simp only [State.farEnd, hfind]

theorem farEnd_of_none (h : ∀ x ∈ s.fab.claims, ∀ c ∈ x.2, c.out = far → c.word ≠ n) : s.farEnd far n = none := by
  have hnone : s.claimed far n = [] := List.eq_nil_iff_forall_not_mem.2 fun x hx => by
    obtain ⟨y, hy, c, hc, hout, hw, -⟩ := mem_claimed.1 hx
    exact h y hy c hc hout hw
  simp [State.farEnd, hnone]

theorem not_stillClaimed_of_none (h : ∀ x ∈ s.fab.claims, ∀ c ∈ x.2, c.out = far → c.word ≠ n) : s.stillClaimed o far n = false := by
  refine Bool.eq_false_of_not_eq_true fun hs => ?_
  have hmem : (⟨far, o.port, n⟩ : Claim) ∈ sget [] s.fab.claims o.dev := List.contains_iff_mem.1 (Bool.and_eq_true_iff.1 hs).2
  exact h _ (mem_of_mem_sget hmem) _ hmem rfl rfl

/-- The only claim that matches a word this device claims makes the link CONFIRMED (R376). -/
theorem matchClaim_confirms (ho : OnlyEnd s.fab.claims (!out) w d b) (h : (⟨!out, b, w⟩ : Claim) ∈ sget [] s.fab.claims d)
    (hok : s.linkOk d = true) : (s.matchClaim d ⟨out, p, w⟩).lnkAt out p = ⟨2, d, b⟩
    ∧ ((s.lnkAt out p).st = 1 ∨ (s.lnkAt out p).st = 2 → ((s.lnkAt out p).dev, (s.lnkAt out p).port) ≠ (d, b) →
      (s.matchClaim d ⟨out, p, w⟩).f FAB_EVT.MISWIRED [] = 1) := by
  have hb : s.bears d (s.lnkAt out p) (!out) w = true := bears_of_claim h
  cases hs : s.stillClaimed (s.lnkAt out p) (!out) w with
  | true =>
    obtain ⟨hd, hp⟩ := Prod.mk.inj (dev_of_stillClaimed ho hs)
    rw [matchClaim_believed hb hs, hd, hp]
    exact ⟨(setLinkAt_confirms s d b w hok).1, fun _ hne => absurd rfl hne⟩
  | false =>
    rw [matchClaim_found hb hs (farEnd_of_only ho h hok)]
    exact setLinkAt_confirms s d b w hok

end

end

end Sys2Proof.Machine
end

section
/-! PROOF. DISC as a whole (R376): the links that it confirms, marks and leaves. -/
namespace Sys2Proof.Machine

/-! ### The own claims name each port once (R375) -/

/-- The claim of this device for a link port, on the out or the in side. -/
def State.claimAt (s : State) (out : Bool) (p : Nat) : Option Claim :=
  if out then (if s.isLinkPort p then (s.feeds p).bind fun a => (s.carried a).map fun w => ⟨true, p, w⟩ else none)
  else
    let v := sget TagV.off s.pth.tags p
    if s.isLinkPort p ∧ v.last ≠ 0 ∧ (v.status = 3 ∨ s.fab.probes.any (fun x => x.1 == p) = true) then
      some ⟨false, p, v.last / 256⟩ else none

section
variable {s : State}

theorem claimAt_eq {out : Bool} {p : Nat} {c : Claim} (h : s.claimAt out p = some c) : c.out = out ∧ c.port = p := by
  unfold State.claimAt at h
  split at h
  · next ho =>
    split at h
    · obtain ⟨a, -, h⟩ := Option.bind_eq_some_iff.1 h
      obtain ⟨w, -, rfl⟩ := Option.map_eq_some_iff.1 h
      exact ⟨ho.symm, rfl⟩
    · cases h
  · next ho =>
    extract_lets v at h
    split at h
    · cases h
      exact ⟨(Bool.eq_false_of_not_eq_true ho).symm, rfl⟩
    · cases h

theorem claimAt_of_mem {c : Claim} (h : c ∈ s.ownClaims) : s.claimAt c.out c.port = some c := by
  obtain ⟨out, q, hq⟩ : ∃ out q, s.claimAt out q = some c := by
    rcases List.mem_append.1 h with h | h
    · obtain ⟨q, -, hq⟩ := List.mem_filterMap.1 h
      exact ⟨true, q, hq⟩
    · obtain ⟨q, -, hq⟩ := List.mem_filterMap.1 h
      exact ⟨false, q, hq⟩
  obtain ⟨rfl, rfl⟩ := claimAt_eq hq
  exact hq

theorem ownClaims_word {c c' : Claim} (h : c ∈ s.ownClaims) (h' : c' ∈ s.ownClaims) (ho : c.out = c'.out) (hp : c.port = c'.port) :
    c = c' := by
  have hc := claimAt_of_mem h
  rw [ho, hp, claimAt_of_mem h'] at hc
  exact (Option.some.inj hc).symm

end

section
variable {s u : State} (hpth : u.pth = s.pth) (hsys : u.sys = s.sys) (hprobes : u.fab.probes = s.fab.probes)

include hpth in
theorem inOf_of_pth (a b : Nat) : u.inOf a b = s.inOf a b := by
  unfold State.inOf State.pathRec
  rw [hpth]

include hpth hprobes in
theorem feeds_of_pth (p : Nat) : u.feeds p = s.feeds p := by
  unfold State.feeds
  rw [inOf_of_pth hpth, hprobes]

include hpth hsys in
theorem carried_of_pth (a : Nat) : u.carried a = s.carried a := by
  unfold State.carried State.isLinkPort State.isMiddle State.ownFa State.devid
  rw [hpth, hsys]

include hpth hsys hprobes in
theorem ownClaims_of_pth : u.ownClaims = s.ownClaims := by
  have hfeeds : u.feeds = s.feeds := funext (feeds_of_pth hpth hprobes)
  have hcarried : u.carried = s.carried := funext (carried_of_pth hpth hsys)
  unfold State.ownClaims State.isLinkPort State.isMiddle
  rw [hfeeds, hcarried, hpth, hsys, hprobes]
end

/-! ### All claims in turn -/

section
variable {s u : State} {d : Nat} {own : List Claim} {out : Bool} {p n : Nat} {o v : Lnk} {ev : Prop}

theorem foldl_links {f : State → Claim → State} (hf : ∀ u c, LinkWrite c.out c.port u (f u c)) (own : List Claim) (s : State) :
    LinksOnly s (own.foldl f s) :=
  foldl_keeps (LinksOnly s) .refl fun u c hu => hu.write (hf u c)

/-- The claim that names a port decides its link; the others leave it. -/
theorem matchClaims_decide (hc : (⟨out, p, n⟩ : Claim) ∈ own)
    (hword : ∀ c ∈ own, c.out = out → c.port = p → c = ⟨out, p, n⟩) (h0 : s.lnkAt out p = o)
    (hstep : ∀ u, LinksOnly s u → u.lnkAt out p = o →
      (u.matchClaim d ⟨out, p, n⟩).lnkAt out p = v ∧ (ev → (u.matchClaim d ⟨out, p, n⟩).f FAB_EVT.MISWIRED [] = 1))
    (hagain : ∀ u, LinksOnly s u → u.lnkAt out p = v → (u.matchClaim d ⟨out, p, n⟩).lnkAt out p = v) :
    (own.foldl (fun s c => s.matchClaim d c) s).lnkAt out p = v
      ∧ (ev → (own.foldl (fun s c => s.matchClaim d c) s).f FAB_EVT.MISWIRED [] = 1) := by
  have hbeside (u : State) (c : Claim) (hne : ¬ (c.out = out ∧ c.port = p)) : (u.matchClaim d c).lnkAt out p = u.lnkAt out p :=
    (matchClaim_write u d c).beside fun h => hne ⟨h.1.symm, h.2.symm⟩
  have hdone (u : State) (c : Claim) (hcm : c ∈ own) (hu : LinksOnly s u ∧ u.lnkAt out p = v ∧ (ev → u.f FAB_EVT.MISWIRED [] = 1)) :
      LinksOnly s (u.matchClaim d c) ∧ (u.matchClaim d c).lnkAt out p = v ∧ (ev → (u.matchClaim d c).f FAB_EVT.MISWIRED [] = 1) := by
    obtain ⟨hl, hv, he⟩ := hu
    refine ⟨hl.write (matchClaim_write u d c), ?_, fun h => (matchClaim_write u d c).stays _ _ bit_MISWIRED (he h)⟩
    by_cases hcp : c.out = out ∧ c.port = p
    · rw [hword c hcm hcp.1 hcp.2]
      exact hagain u hl hv
    · rw [hbeside u c hcp, hv]
  obtain ⟨l1, l2, hown⟩ := List.append_of_mem hc
  have hbefore := foldl_stays (l := l1) (f := fun s c => State.matchClaim s d c) (x := s)
    (Q := fun u => LinksOnly s u ∧ (u.lnkAt out p = o ∨ u.lnkAt out p = v ∧ (ev → u.f FAB_EVT.MISWIRED [] = 1)))
    (fun u c hcl ⟨hl, hu⟩ => by
      refine ⟨hl.write (matchClaim_write u d c), ?_⟩
      have hcm : c ∈ own := hown ▸ List.mem_append_left _ hcl
      rcases hu with hu | hu
      · by_cases hcp : c.out = out ∧ c.port = p
        · rw [hword c hcm hcp.1 hcp.2]
          exact .inr (hstep u hl hu)
        · exact .inl ((hbeside u c hcp).trans hu)
      · exact .inr (hdone u c hcm ⟨hl, hu⟩).2)
    ⟨.refl, .inl h0⟩
  have hat : LinksOnly s ((l1.foldl (fun s c => State.matchClaim s d c) s).matchClaim d ⟨out, p, n⟩)
      ∧ ((l1.foldl (fun s c => State.matchClaim s d c) s).matchClaim d ⟨out, p, n⟩).lnkAt out p = v
      ∧ (ev → ((l1.foldl (fun s c => State.matchClaim s d c) s).matchClaim d ⟨out, p, n⟩).f FAB_EVT.MISWIRED [] = 1) := by
    obtain ⟨hl, hu | hu⟩ := hbefore
    · exact ⟨hl.write (matchClaim_write ..), hstep _ hl hu⟩
    · exact hdone _ _ hc ⟨hl, hu⟩
  rw [hown, List.foldl_append, List.foldl_cons]
  exact (foldl_stays (f := fun s c => State.matchClaim s d c)
    (fun u c hcl hu => hdone u c (hown ▸ List.mem_append_right _ (.tail _ hcl)) hu) hat).2

/-! ### Words known from discovery frames only (R369) -/

theorem claimLink_write (s : State) (c : Claim) : LinkWrite c.out c.port s (s.claimLink c) := by
  obtain ⟨out, p, w⟩ := c
  unfold State.claimLink
  split
  · next x _ =>
    split
    · exact .refl
    · cases out
      · simp only [Bool.false_eq_true, if_false]
        split
        · exact LinkWrite.set (out := false) ⟨1, x.1, x.2⟩
        · exact .refl
      · simp only [if_true]
        split
        · exact LinkWrite.set (out := true) ⟨1, x.1, x.2⟩
        · exact .refl
  · exact .refl

/-- A link that is not UNKNOWN is left. -/
theorem claimLink_lnkAt (c : Claim) (h : (s.lnkAt out p).st ≠ 0) : (s.claimLink c).lnkAt out p = s.lnkAt out p := by
  by_cases hcp : out = c.out ∧ p = c.port
  · obtain ⟨rfl, rfl⟩ := hcp
    obtain ⟨out, p, w⟩ := c
    unfold State.claimLink
    split
    · split
      · rfl
      · cases out <;> simp_all [State.lnkAt]
    · rfl
  · exact (claimLink_write s c).beside hcp

/-! ### DISC -/

/-- The claims of a device are stored. -/
def State.claimsTaken (s : State) (d : Nat) (l : List Claim) : State :=
  s.setFab { s.fab with claims := sset s.fab.claims d l, remote := mergeLinks s.fab.remote (seenLinks (sset s.fab.claims d l)) }

/-- The links behind the match of all own claims. -/
def State.claimsMatched (s : State) (d : Nat) (l : List Claim) : State :=
  (s.claimsTaken d l).ownClaims.foldl (fun s c => s.matchClaim d c) (s.claimsTaken d l)

/-- The links behind a DISC of device d. -/
def State.discLinks (s : State) (d : Nat) (l : List Claim) : State :=
  ((s.claimsMatched d l).fab.said.filter fun c => !(s.claimsTaken d l).ownClaims.contains c).foldl State.claimLink
    (s.claimsMatched d l)

theorem claimsTaken_ownClaims (s : State) (d : Nat) (l : List Claim) : (s.claimsTaken d l).ownClaims = s.ownClaims :=
  ownClaims_of_pth rfl rfl rfl

theorem claimsMatched_links (s : State) (d : Nat) (l : List Claim) : LinksOnly (s.claimsTaken d l) (s.claimsMatched d l) :=
  foldl_links (fun u c => matchClaim_write u d c) ..

theorem discLinks_links (s : State) (d : Nat) (l : List Claim) : LinksOnly (s.claimsTaken d l) (s.discLinks d l) :=
  foldl_keeps (LinksOnly (s.claimsTaken d l)) (claimsMatched_links s d l) fun u c hu => hu.write (claimLink_write u c)

theorem discIn_eq {m : FabMsg} {l : List Claim} (hb : m.body = .disc l) (hp : s.fab.paths = []) : discIn m s = s.discLinks m.src l := by
  have hpaths : (s.discLinks m.src l).fab.paths = [] := by
    obtain ⟨_, _, hu⟩ := (discLinks_links s m.src l).fab
    rw [hu]
    exact hp
  unfold discIn
  split
  · next l' hl =>
    obtain rfl : l = l' := FabBody.disc.inj (hb.symm.trans hl)
    extract_lets d claims _ s1 own s2 s3
    have h1 : s1 = s.claimsTaken m.src l := rfl
    clear_value s1
    subst h1
    have h2 : s2 = s.claimsMatched m.src l := by
      unfold State.claimsMatched State.matchClaim
      rfl
    have h3 : s3 = s.discLinks m.src l := by
      unfold State.discLinks
      rw [← h2]
    rw [h3, retryBlocked_of_no_paths hpaths, ite_self]
  · next hno => exact absurd hb (hno l)

/-- A link that the match leaves with a known far end stays so. -/
theorem discLinks_lnkAt {l : List Claim} (h : ((s.claimsMatched d l).lnkAt out p).st ≠ 0) :
    (s.discLinks d l).lnkAt out p = (s.claimsMatched d l).lnkAt out p :=
  foldl_keeps (fun u : State => u.lnkAt out p = (s.claimsMatched d l).lnkAt out p) rfl fun u c hu =>
    (claimLink_lnkAt c (by rwa [hu])).trans hu

theorem discLinks_stays {l : List Claim} {x : Fld} {k : Nat} (hk : FabBit x k) (h : (s.claimsMatched d l).f x [] = 1) :
    (s.discLinks d l).f x [] = 1 :=
  foldl_keeps (fun u : State => u.f x [] = 1) h fun u c hu => (claimLink_write u c).stays x k hk hu

theorem Calm.discLinks (hc : Calm s) (d : Nat) (l : List Claim) : Calm (s.discLinks d l) :=
  (discLinks_links s d l).calm (hc.of_pth rfl rfl rfl rfl hc.missed)

end

end Sys2Proof.Machine
end

section
/-! PROOF. The links behind a DISC (R376): confirmed, miswired, and the claims kept. -/
namespace Sys2Proof.Machine

section
variable {s : State} {m : FabMsg} {t d p n b : Nat} {l : List Claim} {out : Bool}

theorem exec_disc : exec (.disc m t) s = .next (doDisc m t s) := rfl

theorem claims_of_matched {u : State} (h : LinksOnly (s.claimsTaken d l) u) : u.fab.claims = sset s.fab.claims d l := h.claims

/-- The only claim that matches a word of this device confirms its link, whatever the other claims match. -/
theorem claimsMatched_confirms (hown : (⟨out, p, n⟩ : Claim) ∈ s.ownClaims) (hl : (⟨!out, b, n⟩ : Claim) ∈ l) (hok : s.linkOk d = true)
    (ho : OnlyEnd (sset s.fab.claims d l) (!out) n d b) : (s.claimsMatched d l).lnkAt out p = ⟨2, d, b⟩
    ∧ (((s.lnkAt out p).st = 1 ∨ (s.lnkAt out p).st = 2) ∧ ((s.lnkAt out p).dev, (s.lnkAt out p).port) ≠ (d, b) →
      (s.claimsMatched d l).f FAB_EVT.MISWIRED [] = 1) := by
  have hconf {u : State} (hu : LinksOnly (s.claimsTaken d l) u) := matchClaim_confirms (s := u) (p := p) (out := out) (w := n) (d := d)
    (b := b) (by rwa [claims_of_matched hu]) (by rwa [claims_of_matched hu, sget_sset_same]) ((hu.linkOk d).trans hok)
  unfold State.claimsMatched
  rw [claimsTaken_ownClaims]
  refine matchClaims_decide (o := s.lnkAt out p) hown (fun c hc h1 h2 => ownClaims_word hc hown h1 h2) rfl (fun u hu h0 => ?_)
    fun u hu _ => (hconf hu).1
  rw [← h0]
  exact ⟨(hconf hu).1, fun h => (hconf hu).2 h.1 h.2⟩

/-- A link in-port whose word no claim names any more is MISWIRED. -/
theorem claimsMatched_loses (hown : (⟨false, p, n⟩ : Claim) ∈ s.ownClaims) (hst : (s.lnkIn p).st = 1 ∨ (s.lnkIn p).st = 2)
    (hdev : (s.lnkIn p).dev = d) (hno : ∀ x ∈ sset s.fab.claims d l, ∀ c ∈ x.2, c.out = true → c.word ≠ n) :
    (s.claimsMatched d l).lnkAt false p = { s.lnkIn p with st := 3 } ∧ (s.claimsMatched d l).f FAB_EVT.MISWIRED [] = 1 := by
  have hlost {u : State} (hu : LinksOnly (s.claimsTaken d l) u) (hd : (u.lnkIn p).dev = d) (h0 : (u.lnkIn p).st ≠ 0) :=
    matchClaim_lost (s := u) (p := p) (w := n) (d := d)
      (Bool.or_eq_true_iff.2 (.inl (by rw [hd]; simpa using h0)))
      (not_stillClaimed_of_none (by rwa [claims_of_matched hu])) (farEnd_of_none (by rwa [claims_of_matched hu]))
  have hdecide := matchClaims_decide (s := s.claimsTaken d l) (d := d) (o := s.lnkIn p) (v := { s.lnkIn p with st := 3 }) (ev := True) hown
    (fun c hc h1 h2 => ownClaims_word hc hown h1 h2) rfl (fun u hu h0 => ?_) fun u hu h0 => ?_
  · unfold State.claimsMatched
    rw [claimsTaken_ownClaims]
    exact ⟨hdecide.1, hdecide.2 trivial⟩
  · have h0 : u.lnkIn p = s.lnkIn p := h0
    have hw := hlost hu (by rw [h0, hdev]) (by rw [h0]; omega)
    rw [h0, if_pos hst] at hw
    rw [hw]
    exact ⟨(lnkAt_of_setLnk (fabEvent_fab ..) false p).trans (if_pos ⟨rfl, rfl⟩), fun _ => fabEvent_sets _ _ bit_MISWIRED⟩
  · have h3 : u.lnkIn p = { s.lnkIn p with st := 3 } := h0
    rw [hlost hu (by rw [h3, hdev]) (by rw [h3]; nofun), h3, if_neg (by simp)]
    exact h0

/-! ### The command -/

theorem passTo_ownClaims (s : State) (t : Nat) : (s.passTo t).ownClaims = s.ownClaims :=
  ownClaims_of_pth (s := s) (u := s.passTo t) (passTo_pth ..) (passTo_sys ..) (passTo_congr s t (·.fab.probes) fun _ => rfl)

section
variable (hf : s.inFabric = true) (hc : Calm s) (hsrc : m.src ≠ s.devid) (hdst : m.dst = s.devid) (hb : m.body = .disc l)
  (hp : s.fab.paths = [])
include hf hc hsrc hdst hb hp

theorem disc_next : ∃ u, exec (.disc m t) s = .next u ∧ u.fab = ((s.passTo t).discLinks m.src l).fab
    ∧ (∀ (x : Fld) (k : Nat), FabBit x k → ((s.passTo t).discLinks m.src l).f x [] = 1 → u.f x [] = 1) ∧ u.lanes = s.lanes := by
  have hin := discIn_eq (s := s.passTo t) hb (by rwa [passTo_fab])
  obtain ⟨hfab, hbits⟩ := settled (s.passTo t) (s.passTo t) ((hc.passTo t).discLinks m.src l)
  have htake : doDisc m t s = _ := fabRecv_untracked hf hsrc (.inr hdst) (by rw [hb]; rfl)
  rw [hin] at htake
  exact ⟨_, exec_disc, by rw [htake]; exact hfab, by rw [htake]; exact hbits, (doDisc_keeps m t s).frame .lanes rfl⟩

theorem runs_disc_claims : Runs (.disc m t) s fun u => sget [] u.fab.claims m.src = l ∧ u.lanes = s.lanes := by
  obtain ⟨u, hu, hfab, -, hlanes⟩ := disc_next (t := t) hf hc hsrc hdst hb hp
  refine ⟨u, hu, ?_, hlanes⟩
  rw [hfab, claims_of_matched (discLinks_links ..), sget_sset_same]

theorem runs_disc_confirms (hown : (⟨out, p, n⟩ : Claim) ∈ s.ownClaims) (hl : (⟨!out, b, n⟩ : Claim) ∈ l) (hok : s.linkOk m.src = true)
    (ho : OnlyEnd (sset s.fab.claims m.src l) (!out) n m.src b) : Runs (.disc m t) s fun u => u.lnkAt out p = ⟨2, m.src, b⟩
      ∧ ((s.lnkAt out p).st = 1 ∨ (s.lnkAt out p).st = 2 → ((s.lnkAt out p).dev, (s.lnkAt out p).port) ≠ (m.src, b) →
        u.f FAB_EVT.MISWIRED [] = 1) := by
  rw [← passTo_ownClaims s t] at hown
  have hlnk : (s.passTo t).lnkAt out p = s.lnkAt out p := by simp only [State.lnkAt, State.lnkOut, State.lnkIn, passTo_fab]
  obtain ⟨hset, hev⟩ := claimsMatched_confirms (s := s.passTo t) (d := m.src) hown hl
    ((passTo_congr s t (·.linkOk m.src) fun _ => rfl).trans hok) (by rwa [passTo_fab])
  rw [hlnk] at hev
  obtain ⟨u, hu, hfab, hbits, -⟩ := disc_next (t := t) hf hc hsrc hdst hb hp
  refine ⟨u, hu, ?_, fun hst hne => hbits _ _ bit_MISWIRED (discLinks_stays bit_MISWIRED (hev ⟨hst, hne⟩))⟩
  have hkept := discLinks_lnkAt (d := m.src) (l := l) (s := s.passTo t) (out := out) (p := p) (by rw [hset]; nofun)
  rw [hset] at hkept
  simpa only [State.lnkAt, State.lnkOut, State.lnkIn, hfab] using hkept

theorem runs_disc_loses (hown : (⟨false, p, n⟩ : Claim) ∈ s.ownClaims) (hst : (s.lnkIn p).st = 1 ∨ (s.lnkIn p).st = 2)
    (hdev : (s.lnkIn p).dev = m.src) (hno : ∀ x ∈ sset s.fab.claims m.src l, ∀ c ∈ x.2, c.out = true → c.word ≠ n) :
    Runs (.disc m t) s fun u => u.lnkIn p = { s.lnkIn p with st := 3 } ∧ u.f FAB_EVT.MISWIRED [] = 1 := by
  rw [← passTo_ownClaims s t] at hown
  have hlnk : (s.passTo t).lnkIn p = s.lnkIn p := by simp only [State.lnkIn, passTo_fab]
  obtain ⟨hset, hev⟩ := claimsMatched_loses (s := s.passTo t) (d := m.src) (l := l) hown (by rwa [hlnk]) (by rwa [hlnk])
    (by rwa [passTo_fab])
  rw [hlnk] at hset
  obtain ⟨u, hu, hfab, hbits, -⟩ := disc_next (t := t) hf hc hsrc hdst hb hp
  refine ⟨u, hu, ?_, hbits _ _ bit_MISWIRED (discLinks_stays bit_MISWIRED hev)⟩
  have hkept := discLinks_lnkAt (d := m.src) (l := l) (s := s.passTo t) (out := false) (p := p) (by rw [hset]; nofun)
  rw [hset] at hkept
  simpa only [State.lnkAt, Bool.false_eq_true, if_false, State.lnkIn, hfab] using hkept

end
end

end Sys2Proof.Machine
end

section
/-! PROOF. RESERVE, its replies, COMMIT and the outcomes (R378 to R380). -/
namespace Sys2Proof.Machine

/-! ### What follows a message that touches no link -/

section
variable {s v : State} {m : FabMsg} {t : Nat} {k : State → State}

/-- Only time and the fabric logic have changed, and of that neither routes, links and probe segments nor what waits to be done. -/
structure Tame (s u : State) : Prop where
  keeps : Keeps 0x880 s u
  rt : u.fab.rt = s.fab.rt
  out : u.fab.lnkOut = s.fab.lnkOut
  inn : u.fab.lnkIn = s.fab.lnkIn
  probes : u.fab.probes = s.fab.probes
  waitQ : u.fab.waitQ = s.fab.waitQ
  late : u.fab.late = s.fab.late
  missed : u.fab.missed = s.fab.missed

theorem Tame.trans {u : State} (h : Tame s u) (k : Tame u v) : Tame s v :=
  ⟨h.keeps.trans k.keeps, k.rt.trans h.rt, k.out.trans h.out, k.inn.trans h.inn, k.probes.trans h.probes, k.waitQ.trans h.waitQ,
    k.late.trans h.late, k.missed.trans h.missed⟩

theorem Tame.calm (h : Tame s v) (hc : Calm s) (hm : s.fab.missed = []) : Calm v :=
  hc.of_pth (h.keeps.frame .pth rfl) h.waitQ h.late h.probes (by rw [h.missed, hm]; nofun)

theorem noted_tame : Tame s (s.noted m t) := by
  obtain ⟨l, hl⟩ := noted_fab (s := s) (m := m) (t := t)
  refine ⟨noted_keeps, ?_, ?_, ?_, ?_, ?_, ?_, ?_⟩ <;> rw [hl]

theorem fabSend_tame (d : Nat) (b : FabBody) : Tame s (s.fabSend d b) :=
  ⟨(fabSend_keeps ..).step .refl rfl, rfl, rfl, rfl, rfl, rfl, rfl, rfl⟩

theorem fabReplied_tame (d n : Nat) (f : FabBody → Option Nat) : Tame s (s.fabReplied d n f) :=
  ⟨(fabReplied_keeps ..).step .refl rfl, rfl, rfl, rfl, rfl, rfl, rfl, rfl⟩

theorem modReq_tame (n : Nat) (f : FabReq → FabReq) : Tame s (s.modReq n f) :=
  ⟨(modReq_keeps ..).step .refl rfl, rfl, rfl, rfl, rfl, rfl, rfl, rfl⟩

theorem topoNote_of_same {o : State} (hr : v.fab.rt = o.fab.rt) (ho : v.fab.lnkOut = o.fab.lnkOut) (hi : v.fab.lnkIn = o.fab.lnkIn) :
    State.topoNote o v = v := if_pos ⟨hr, ho, hi⟩

/-- What follows a change that leaves nothing to be done is nothing. -/
theorem Tame.settled {o o' : State} (h : Tame o' v) (hc : Calm o') (hm : o'.fab.missed = []) (hk : v.reg .YK_EVT [] = o.reg .YK_EVT []) :
    State.schedEvent o (State.topoNote o' v).fabAfter = v := by
  rw [topoNote_of_same h.rt h.out h.inn, (h.calm hc hm).fabAfter, schedEvent_of_same hk]

theorem noted_shape : ∃ n l, s.noted m t = { s with clr := { s.clr with now := n }, fab := { s.fab with seen := l } } := by
  unfold State.noted State.passTo
  split <;> split
  · exact ⟨_, _, rfl⟩
  · exact ⟨s.clr.now, _, rfl⟩
  · exact ⟨_, s.fab.seen, rfl⟩
  · exact ⟨s.clr.now, s.fab.seen, rfl⟩

theorem noted_congr {α : Type} (g : State → α)
    (h : ∀ n l, g { s with clr := { s.clr with now := n }, fab := { s.fab with seen := l } } = g s) : g (s.noted m t) = g s := by
  obtain ⟨n, l, hn⟩ := noted_shape (s := s) (m := m) (t := t)
  rw [hn]
  exact h n l

theorem noted_tracked (h : trackedMsg m.body = true) :
    s.noted m t = (s.passTo t).setFab { s.fab with seen := s.fab.seen ++ [(m.src, m.seq)] } := by
  rw [State.noted, h]
  rfl

theorem Tame.of_passTo (h : Tame s v) (ht : Keeps 0x800 (s.passTo t) v) : Tame (s.passTo t) v := by
  refine ⟨ht.step .refl rfl, ?_, ?_, ?_, ?_, ?_, ?_, ?_⟩ <;> rw [passTo_fab]
  · exact h.rt
  · exact h.out
  · exact h.inn
  · exact h.probes
  · exact h.waitQ
  · exact h.late
  · exact h.missed

theorem noted_of_passTo : Keeps 0x800 (s.passTo t) (s.noted m t) := by
  unfold State.noted
  split
  · exact setFab_keeps ..
  · exact .refl

/-- A message that changes no more than this is taken with no other effect. -/
theorem fabRecv_tame (hf : s.inFabric = true) (hcalm : Calm s) (hmissed : s.fab.missed = []) (hsrc : m.src ≠ s.devid)
    (hdst : m.dst = s.devid) (hfirst : s.firstCopy m = true) (h : Tame (s.noted m t) (k (s.noted m t)))
    (hk : Keeps 0x800 (s.noted m t) (k (s.noted m t))) :
    fabRecv m t k s = k (s.noted m t) ∧ changesOnly [.clr, .pth, .fab] s (k (s.noted m t)) := by
  have hall : Tame s (k (s.noted m t)) := noted_tame.trans h
  rw [fabRecv_takes hf hsrc (.inr hdst) hfirst]
  exact ⟨(hall.of_passTo (hk.step noted_of_passTo rfl)).settled (hcalm.passTo t) (by rwa [passTo_fab])
    (by rw [hall.keeps.reg rfl rfl, passTo_reg]), hall.keeps.changesOnly rfl⟩

end

/-! ### The messages -/

section
variable {s : State} {m : FabMsg} {t : Nat}

theorem exec_resvReply : exec (.resvReply m t) s = .next (fabRecv m t (replyIn m) s) := rfl
theorem exec_commit : exec (.commit m t) s = .next (fabRecv m t (commitIn m) s) := rfl
theorem exec_fabOutcome : exec (.fabOutcome m t) s = .next (fabRecv m t (outcomeIn m) s) := rfl

theorem reserveIn_refuses {w : ResvW} (hb : m.body = .reserve w) (hh : s.prl.lsHalt = false)
    (hc : s.refuseCause (s.resvDevs m.src w) ≠ 0) :
    reserveIn m s = s.fabSend (resvOwner w) (.reply w.num (s.refuseCause (s.resvDevs m.src w)) []) := by
  unfold reserveIn
  rw [hb]
  simp only [hh, Bool.false_eq_true, if_false]
  exact if_pos hc

/-- A reply that is not the last one is noted with its request (R379). -/
theorem replyIn_notes {n : Nat} {ports : List (Nat × Nat)} {q : FabReq} (hb : m.body = .reply n 0 ports)
    (hq : s.fab.reqs.find? (fun z => z.num == n && z.stage == 0) = some q) (hw : q.wait.contains m.src = true)
    (hrest : q.wait.filter (· ≠ m.src) ≠ []) : ∃ q1 : FabReq, q1.num = n ∧ q1.wait = q.wait.filter (· ≠ m.src) ∧ q1.acc = q.acc ++ [m.src]
      ∧ replyIn m s = (s.fabReplied m.src n numReserve).modReq n fun _ => q1 := by
  have hnum : q.num = n := by
    have := List.find?_some hq
    simp only [Bool.and_eq_true, beq_iff_eq] at this
    exact this.1
  have hq' : (s.fabReplied m.src n numReserve).fab.reqs.find? (fun z => z.num == n && z.stage == 0) = some q := hq
  unfold replyIn
  rw [hb]
  show ∃ q1 : FabReq, _ ∧ _ ∧ _ ∧ (s.fabReplied m.src n numReserve).fabReply n m.src 0 ports = _
  unfold State.fabReply
  simp only [hq', hw, Bool.not_true, Bool.false_eq_true, if_false, ne_eq, not_true]
  refine ⟨_, ?_, ?_, ?_, if_neg (by simpa [List.isEmpty_iff] using hrest)⟩
  · exact hnum
  · rfl
  · rfl

/-- An outcome that is not the last one is noted with its request (R380). -/
theorem outcomeIn_notes {n : Nat} {o : SegOut} {q : FabReq} (hb : m.body = .outcome n o)
    (hq : s.fab.reqs.find? (fun z => z.num == n) = some q) (hst : q.stage = 1) (hnew : (q.outs.any fun z => z.1 == m.src) = false)
    (hrest : q.outs.length + 1 < q.devs.length) : outcomeIn m s = { s.fabReplied m.src n numCommit with
      fab := { (s.fabReplied m.src n numCommit).fab with
        reqs := s.fab.reqs.map fun r : FabReq => if r.num = n then { q with outs := q.outs ++ [(m.src, o)] } else r } } := by
  have hq' : (s.fabReplied m.src n numCommit).fab.reqs.find? (fun z => z.num == n) = some q := hq
  have hnum : (q.num == n) = true := List.find?_some (p := fun z : FabReq => z.num == n) hq
  have hany : ((s.fabReplied m.src n numCommit).fab.reqs.any fun q => q.num == n && q.stage == 1) = true :=
    List.any_eq_true.2 ⟨q, List.mem_of_find?_eq_some hq', by rw [hnum, hst]; rfl⟩
  unfold outcomeIn
  rw [hb]
  simp only [hany, if_true]
  unfold State.fabGather
  simp only [hq', hst, hnew, ne_eq, not_true, Bool.false_eq_true, or_self, if_false]
  unfold State.fabFinish
  exact if_pos (by simpa using hrest)

/-- A COMMIT that gives up a segment which is not placed drops the pending record (R379). -/
theorem commitIn_drops {n : Nat} (hb : m.body = .commit n false none) (hp : s.segPlaced m.src n = none) :
    commitIn m s = (s.fabReplied m.src n numReply).setFab { (s.fabReplied m.src n numReply).fab with
      segs := s.fab.segs.filter fun g : FabSeg => !(g.owner == m.src && g.num == n && g.st == 0) } := by
  unfold commitIn
  rw [hb]
  show (s.fabReplied m.src n numReply).releaseSeg m.src n = _
  unfold State.releaseSeg
  extract_lets _ s1
  have h1 : s1.segPlaced m.src n = none := hp
  simp only [h1]
  rfl

theorem mem_mapped {l : List FabReq} {n : Nat} {q q1 : FabReq} (h : q ∈ l) (hn : q.num = n) :
    q1 ∈ l.map fun r : FabReq => if r.num = n then q1 else r := List.mem_map.2 ⟨q, h, if_pos hn⟩

section
variable (hf : s.inFabric = true) (hcalm : Calm s) (hmissed : s.fab.missed = []) (hsrc : m.src ≠ s.devid) (hdst : m.dst = s.devid)
  (hfirst : s.firstCopy m = true)
include hf hcalm hmissed hsrc hdst hfirst

theorem runs_reserve_refused {w : ResvW} (hb : m.body = .reserve w) (hh : s.prl.lsHalt = false)
    (hc : s.refuseCause (s.resvDevs m.src w) ≠ 0) : Runs (.reserve m t) s fun u =>
      u.fab.out = s.fab.out ++ [(none, (⟨s.devid, resvOwner w, s.fab.seq + 1, 0,
          .reply w.num (s.refuseCause (s.resvDevs m.src w)) []⟩ : FabMsg))]
        ∧ u.fab.segs = s.fab.segs ∧ changesOnly [.clr, .pth, .fab] s u := by
  have hcause : (s.noted m t).refuseCause ((s.noted m t).resvDevs m.src w) = s.refuseCause (s.resvDevs m.src w) :=
    noted_congr (fun s => s.refuseCause (s.resvDevs m.src w)) fun _ _ => rfl
  have hin := reserveIn_refuses (s := s.noted m t) hb ((noted_congr (·.prl.lsHalt) fun _ _ => rfl).trans hh) (by rwa [hcause])
  rw [hcause] at hin
  obtain ⟨l, hfab⟩ := noted_fab (s := s) (m := m) (t := t)
  have hdev : (s.noted m t).devid = s.devid := noted_congr (·.devid) fun _ _ => rfl
  obtain ⟨htake, honly⟩ := fabRecv_tame (k := reserveIn m) (t := t) hf hcalm hmissed hsrc hdst hfirst (hin ▸ fabSend_tame ..)
    (hin ▸ fabSend_keeps ..)
  rw [hin] at htake honly
  refine .of_eq exec_reserve htake ⟨?_, ?_, honly⟩
  · simp only [State.fabSend, hfab, hdev]
  · simp only [State.fabSend, hfab]

theorem runs_reply {n : Nat} {ports : List (Nat × Nat)} {q : FabReq} (hb : m.body = .reply n 0 ports)
    (hq : s.fab.reqs.find? (fun z => z.num == n && z.stage == 0) = some q) (hw : q.wait.contains m.src = true)
    (hrest : q.wait.filter (· ≠ m.src) ≠ []) : Runs (.resvReply m t) s fun u =>
      (∃ z ∈ u.fab.reqs, z.num = n ∧ z.wait = q.wait.filter (· ≠ m.src) ∧ z.acc = q.acc ++ [m.src])
        ∧ u.fab.segs = s.fab.segs ∧ changesOnly [.clr, .pth, .fab] s u := by
  obtain ⟨l, hfab⟩ := noted_fab (s := s) (m := m) (t := t)
  obtain ⟨q1, hnum, hwait, hacc, hin⟩ := replyIn_notes (s := s.noted m t) hb (by rw [hfab]; exact hq) hw hrest
  obtain ⟨htake, honly⟩ := fabRecv_tame (k := replyIn m) (t := t) hf hcalm hmissed hsrc hdst hfirst
    (hin ▸ (fabReplied_tame ..).trans (modReq_tame ..)) (hin ▸ (fabReplied_keeps ..).trans (modReq_keeps ..))
  rw [hin] at htake honly
  refine .of_eq exec_resvReply htake ⟨⟨q1, ?_, hnum, hwait, hacc⟩, ?_, honly⟩
  · have hmem := List.mem_of_find?_eq_some hq
    have hqn := List.find?_some hq
    simp only [Bool.and_eq_true, beq_iff_eq] at hqn
    simp only [State.modReq, State.fabReplied, hfab]
    exact mem_mapped hmem hqn.1
  · simp only [State.modReq, State.fabReplied, hfab]

theorem runs_outcome {n : Nat} {o : SegOut} {q : FabReq} (hb : m.body = .outcome n o)
    (hq : s.fab.reqs.find? (fun z => z.num == n) = some q) (hst : q.stage = 1) (hnew : (q.outs.any fun z => z.1 == m.src) = false)
    (hrest : q.outs.length + 1 < q.devs.length) : Runs (.fabOutcome m t) s fun u =>
      (∃ z ∈ u.fab.reqs, z.num = n ∧ z.outs = q.outs ++ [(m.src, o)]) ∧ changesOnly [.clr, .pth, .fab] s u := by
  obtain ⟨l, hfab⟩ := noted_fab (s := s) (m := m) (t := t)
  have hin := outcomeIn_notes (s := s.noted m t) hb (by rw [hfab]; exact hq) hst hnew hrest
  have hqn : q.num = n := by simpa using List.find?_some (p := fun z : FabReq => z.num == n) hq
  obtain ⟨htake, honly⟩ := fabRecv_tame (k := outcomeIn m) (t := t) hf hcalm hmissed hsrc hdst hfirst
    (hin ▸ (fabReplied_tame ..).trans ⟨(setFab_keeps ..).step .refl rfl, rfl, rfl, rfl, rfl, rfl, rfl, rfl⟩)
    (hin ▸ (fabReplied_keeps ..).trans (setFab_keeps ..))
  rw [hin] at htake honly
  refine .of_eq exec_fabOutcome htake ⟨⟨{ q with outs := q.outs ++ [(m.src, o)] }, ?_, hqn, rfl⟩, honly⟩
  simp only [hfab]
  exact mem_mapped (List.mem_of_find?_eq_some hq) hqn

theorem runs_commit_drops {n : Nat} (hb : m.body = .commit n false none) (hp : s.segPlaced m.src n = none) :
    Runs (.commit m t) s fun u =>
      u.fab.segs = s.fab.segs.filter (fun z : FabSeg => !(z.owner == m.src && z.num == n && z.st == 0)) ∧ u.lanes = s.lanes := by
  obtain ⟨l, hfab⟩ := noted_fab (s := s) (m := m) (t := t)
  have hin := commitIn_drops (s := s.noted m t) hb ((noted_congr (·.segPlaced m.src n) fun _ _ => rfl).trans hp)
  obtain ⟨htake, honly⟩ := fabRecv_tame (k := commitIn m) (t := t) hf hcalm hmissed hsrc hdst hfirst
    (hin ▸ (fabReplied_tame ..).trans ⟨(setFab_keeps ..).step .refl rfl, rfl, rfl, rfl, rfl, rfl, rfl, rfl⟩)
    (hin ▸ (fabReplied_keeps ..).trans (setFab_keeps ..))
  rw [hin] at htake honly
  refine .of_eq exec_commit htake ⟨?_, honly.2 .lanes (by decide)⟩
  simp only [State.setFab, hfab]

end
end

end Sys2Proof.Machine
end

section
/-! PROOF. RESERVE placed at an edge device, and a COMMIT whose strobe is still to come (R378, R379). -/
namespace Sys2Proof.Machine

/-! ### Placed segments -/

section
variable {s v : State}

theorem fabAfter_yields (hw : s.fab.waitQ = []) (hl : s.fab.late = []) (hp : ∀ p ∈ s.pth.placed, p.lost = false) (hm : s.fab.missed = []) :
    s.fabAfter = s.yieldProbes := by
  rw [State.fabAfter, sweepLost_of_none_lost hp, wakeWaiting_of_none hw, lateRelease_of_none hl,
    missedLoss_of_awaited (by rw [hm]; nofun)]

theorem yieldProbes_fab (s : State) : ∃ l, s.yieldProbes.fab = { s.fab with probes := l } := by
  unfold State.yieldProbes State.dropProbes
  extract_lets gone ins _ s1 lanes
  have h1 : ∃ l, s1.fab = { s.fab with probes := l } :=
    foldl_keeps (fun u : State => ∃ l, u.fab = { s.fab with probes := l }) ⟨_, rfl⟩ fun u x hu => hu
  split
  · exact ⟨s.fab.probes, rfl⟩
  · split
    · exact h1
    · split
      · exact h1
      · next n s2 hnew =>
        rw [(newPat_keeps _ _ _ _ _ _ _ _ _ hnew).frame .fab rfl]
        exact h1

/-- What the placement of a segment leaves: its record, pending, and a transaction that is held. -/
theorem placeSeg_holds {s1 : State} {moved : List Nat} {o n k dl : Nat} {reqs : List Req} {paths : List (Nat × Nat × Nat)} {pol mm : Nat}
    (h : s.placeSeg o n k dl reqs paths pol mm = some (s1, moved)) : ∃ l p, p.lost = false ∧ s1.pth.placed = s.pth.placed ++ [p]
      ∧ s1.fab = { s.fab with segs := s.fab.segs.filter (fun g : FabSeg => !(g.owner == o && g.num == n)) ++
          [(⟨o, n, k, paths, l, 0, dl⟩ : FabSeg)] } := by
  unfold State.placeSeg at h
  extract_lets x _ bad at h
  split at h
  · cases h
  split at h
  · cases h
  next new moved' loop _ =>
  extract_lets l _ p t1 _ t2 at h
  obtain ⟨rfl, -⟩ := Prod.mk.inj (Option.some.inj h)
  obtain ⟨conn, hpth⟩ := takeChanges_pth s l new
  have hfab : t1.fab = s.fab := (takeChanges_keeps s l new).frame .fab rfl
  have hpth1 : t1.pth = _ := hpth
  clear_value t1
  refine ⟨l, p, rfl, ?_, ?_⟩
  · simp only [State.addPlaced, t2, hpth1]
  · rw [← hfab]
    rfl

variable {m : FabMsg} {t : Nat}

/-- An edge device that can place a RESERVE without moving a path answers with its ports. -/
theorem reserveIn_places {w : ResvW} {reqs : List Req} {paths : List (Nat × Nat × Nat)} {s1 : State} (hb : m.body = .reserve w)
    (hh : s.prl.lsHalt = false) (hc : s.refuseCause (s.resvDevs m.src w) = 0) (hedge : s.isMiddle = false)
    (hitems : s.segItems m.src w.kind w.items [] = .ok (reqs, paths))
    (hplace : s.placeSeg (resvOwner w) w.num w.kind (s.clr.now + s.resvTo) reqs paths 1 0 = some (s1, [])) :
    reserveIn m s = s1.fabSend (resvOwner w) (.reply w.num 0 (paths.map fun z => z.2)) := by
  have hedge1 : (s1.fabSend (resvOwner w) (.reply w.num 0 (paths.map fun z => z.2))).isMiddle = false := by
    have hdev : s1.sys.devid = s.sys.devid := ((placeSeg_keeps _ _ _ _ _ _ _ _ _ _ hplace).frame .straps rfl).2.2.1
    rw [← hedge]
    show decide (32 ≤ s1.sys.devid) = decide (32 ≤ s.sys.devid)
    rw [hdev]
  unfold reserveIn
  rw [hb]
  simp only [hh, Bool.false_eq_true, if_false, hc, ne_eq, not_true, hitems, hplace, List.isEmpty_nil, if_true, hedge1, Bool.false_and]

theorem runs_reserve_placed {w : ResvW} {reqs : List Req} {paths : List (Nat × Nat × Nat)} {s1 m' : State} (hf : s.inFabric = true)
    (hcalm : Calm s) (hmissed : s.fab.missed = []) (hsrc : m.src ≠ s.devid) (hdst : m.dst = s.devid) (hfirst : s.firstCopy m = true)
    (hm' : m' = (s.passTo t).setFab { s.fab with seen := s.fab.seen ++ [(m.src, m.seq)] }) (hb : m.body = .reserve w)
    (hh : s.prl.lsHalt = false) (hedge : s.isMiddle = false) (hc : s.refuseCause (s.resvDevs m.src w) = 0)
    (hitems : m'.segItems m.src w.kind w.items [] = .ok (reqs, paths))
    (hplace : m'.placeSeg (resvOwner w) w.num w.kind (m'.clr.now + m'.resvTo) reqs paths 1 0 = some (s1, [])) :
    Runs (.reserve m t) s fun u => u.fab.out.getLast?.map (fun z => z.2.body) = some (.reply w.num 0 (paths.map fun z => z.2))
        ∧ (∃ z ∈ u.fab.segs, z.owner = resvOwner w ∧ z.num = w.num ∧ z.st = 0 ∧ z.paths = paths)
        ∧ u.lanes = s.lanes := by
  have hnoted : s.noted m t = m' := (noted_tracked (by rw [hb]; rfl)).trans hm'.symm
  have hin := reserveIn_places (s := m') hb (by rw [← hnoted]; exact (noted_congr (·.prl.lsHalt) fun _ _ => rfl).trans hh)
    (by rw [← hnoted]; exact (noted_congr (fun s => s.refuseCause (s.resvDevs m.src w)) fun _ _ => rfl).trans hc)
    (by rw [← hnoted]; exact (noted_congr (·.isMiddle) fun _ _ => rfl).trans hedge) hitems hplace
  obtain ⟨l, p, hlost, hplaced, hfab⟩ := placeSeg_holds hplace
  have hpth : m'.pth = s.pth := hnoted ▸ noted_keeps.frame .pth rfl
  have hfab' : m'.fab = { s.fab with seen := s.fab.seen ++ [(m.src, m.seq)] } := hm' ▸ rfl
  have hk : Keeps 0xa00 m' (s1.fabSend (resvOwner w) (.reply w.num 0 (paths.map fun z => z.2))) :=
    (placeSeg_keeps _ _ _ _ _ _ _ _ _ _ hplace).trans (fabSend_keeps ..)
  rw [hfab'] at hfab
  have htake : doReserve m t s = State.schedEvent (s.passTo t)
      (s1.fabSend (resvOwner w) (.reply w.num 0 (paths.map fun z => z.2))).yieldProbes := by
    rw [doReserve, fabRecv_takes hf hsrc (.inr hdst) hfirst, hnoted, hin,
      topoNote_of_same (by rw [passTo_fab]; simp only [State.fabSend, hfab]) (by rw [passTo_fab]; simp only [State.fabSend, hfab])
        (by rw [passTo_fab]; simp only [State.fabSend, hfab]), fabAfter_yields]
    · simpa only [State.fabSend, hfab] using hcalm.waitQ
    · simpa only [State.fabSend, hfab] using hcalm.late
    · intro q hq
      rw [show (s1.fabSend _ _).pth = s1.pth from rfl, hplaced, hpth] at hq
      rcases List.mem_append.1 hq with hq | hq
      · exact hcalm.placed q hq
      · rw [List.mem_singleton.1 hq, hlost]
    · simpa only [State.fabSend, hfab] using hmissed
  refine .of_eq (exec_reserve.trans rfl) htake ?_
  obtain ⟨pr, hend⟩ := yieldProbes_fab (s1.fabSend (resvOwner w) (.reply w.num 0 (paths.map fun z => z.2)))
  have hlanes : (doReserve m t s).lanes = s.lanes := (doReserve_keeps m t s).frame .lanes rfl
  rw [htake] at hlanes
  rw [(schedEvent_keeps ..).frame .fab rfl, hend]
  refine ⟨?_, ⟨⟨resvOwner w, w.num, w.kind, paths, l, 0, m'.clr.now + m'.resvTo⟩, ?_, rfl, rfl, rfl, rfl⟩, hlanes⟩
  · simp [State.fabSend]
  · simp only [State.fabSend, hfab]
    exact List.mem_append_right _ (.head _)

/-! ### A segment that is staged for its strobe (R379) -/

/-- A transaction whose boundary is given is staged, or left for want of an entry: plan and routes in force stay, and none is lost. -/
theorem stage_due {p : Placed} {b : Nat} (hb : p.mirDue = some b) : (s.stage p).pth.plan = s.pth.plan ∧ (s.stage p).pth.live = s.pth.live
    ∧ ((∀ q ∈ s.pth.placed, q.lost = false) → ∀ q ∈ (s.stage p).pth.placed, q.lost = false) := by
  unfold State.stage
  extract_lets x d lanes s1 timed
  have hlate : d.late = false := by simp only [d, hb]
  rw [if_neg (by simp [hb]), if_neg (by simp [hlate])]
  obtain ⟨conn, hrecs⟩ : RecsOnly s s1 := patLanes_recs ..
  split
  · exact ⟨rfl, rfl, id⟩
  · next n s2 hnew =>
    extract_lets s3 s4 s5
    have h5 : Keeps 0x100004 s3 s5 := .ite ((raise_keeps ..).step (.ite (countLate_keeps s3) .refl) rfl) (.ite (countLate_keeps s3) .refl)
    have hpth : (s5.announceTxn p n (p.mirDue.getD d.due)).pth = s3.pth := ((announceTxn_keeps ..).frame .pth rfl).trans (h5.frame .pth rfl)
    have hpth2 : s2.pth = { s.pth with conn := conn } := ((newPat_keeps _ _ _ _ _ _ _ _ _ hnew).frame .pth rfl).trans hrecs
    rw [hpth]
    simp only [s3, State.modTxn, hpth2, true_and]
    intro hall q hq
    obtain ⟨r, hr, rfl⟩ := List.mem_map.1 hq
    split
    · exact hall r hr
    · exact hall r hr

/-- A held transaction that is to fire at a strobe. -/
def Placed.strobed (p : Placed) (b : Nat) : Placed := { p with hold := false, mirDue := some b }

/-- The segment of a reservation is committed for a strobe. -/
def State.segCommitted (s : State) (p : Placed) (owner num b : Nat) : State :=
  (s.modTxn p.id fun _ => p.strobed b).modSeg owner num fun g => { g with st := 1 }

/-- A segment held for its COMMIT is staged when its strobe leaves the time to do so. -/
theorem commitSeg_stages {owner num b : Nat} {pl : Placed} {g : FabSeg} (hp : s.segPlaced owner num = some pl)
    (hg : s.seg? owner num = some g) (hhold : pl.hold = true) (hlost : pl.lost = false) (hlead : s.clr.now + s.leadNs ≤ b) :
    s.commitSeg owner num b = (s.segCommitted pl owner num b).stage (pl.strobed b) := by
  have htime : ¬ b < s.clr.now + (if g.kind = 3 then 0 else s.leadNs) := by
    split <;> omega
  unfold State.commitSeg State.segCommitted Placed.strobed
  simp only [hp, hg, hhold, hlost, Bool.not_true, Bool.false_eq_true, if_false]
  rw [if_neg htime]

theorem commitIn_stages {n b : Nat} {pl : Placed} {g : FabSeg} (hb : m.body = .commit n false (some b))
    (hp : s.segPlaced m.src n = some pl) (hg : s.seg? m.src n = some g) (hhold : pl.hold = true) (hlost : pl.lost = false)
    (hlead : s.clr.now + s.leadNs ≤ b) :
    commitIn m s = ((s.fabReplied m.src n numReply).segCommitted pl m.src n b).stage (pl.strobed b) := by
  have hlead' : (s.fabReplied m.src n numReply).leadNs = s.leadNs :=
    congrArg (· * 1000) ((fabReplied_keeps s m.src n numReply).f rfl rfl YK_GRID.LEAD_US [])
  have hp' : (s.fabReplied m.src n numReply).segPlaced m.src n = some pl := hp
  have hg' : (s.fabReplied m.src n numReply).seg? m.src n = some g := hg
  unfold commitIn
  rw [hb]
  exact commitSeg_stages hp' hg' hhold hlost (hlead'.symm ▸ hlead)

theorem segCommitted_placed {p : Placed} (owner num b : Nat) (hp : p.lost = false) (h : ∀ q ∈ s.pth.placed, q.lost = false) :
    ∀ q ∈ (s.segCommitted p owner num b).pth.placed, q.lost = false := by
  intro q hq
  obtain ⟨r, hr, rfl⟩ := List.mem_map.1 hq
  split
  · exact hp
  · exact h r hr

theorem runs_commit_stages {n b : Nat} {pl : Placed} {g : FabSeg} (hf : s.inFabric = true) (hcalm : Calm s) (hmissed : s.fab.missed = [])
    (hsrc : m.src ≠ s.devid) (hdst : m.dst = s.devid) (hfirst : s.firstCopy m = true) (hb : m.body = .commit n false (some b))
    (hp : s.segPlaced m.src n = some pl) (hg : s.seg? m.src n = some g) (hhold : pl.hold = true)
    (hlead : (s.passTo t).clr.now + s.leadNs ≤ b) : Runs (.commit m t) s fun u =>
      (∃ z ∈ u.fab.segs, z.owner = m.src ∧ z.num = n ∧ z.st = 1) ∧ u.lanes = s.lanes ∧ u.pth.plan = s.pth.plan ∧ u.pth.live = s.pth.live := by
  obtain ⟨l, hfab⟩ := noted_fab (s := s) (m := m) (t := t)
  have hpth : (s.noted m t).pth = s.pth := noted_keeps.frame .pth rfl
  have hnow : (s.noted m t).clr = (s.passTo t).clr := noted_of_passTo.frame .clr rfl
  have hlead' : (s.noted m t).leadNs = s.leadNs := noted_congr (·.leadNs) fun _ _ => rfl
  have hlost : pl.lost = false := hcalm.placed pl (List.mem_of_find?_eq_some hp)
  have hin := commitIn_stages (s := s.noted m t) hb ((noted_congr (·.segPlaced m.src n) fun _ _ => rfl).trans hp)
    ((noted_congr (·.seg? m.src n) fun _ _ => rfl).trans hg) hhold hlost (by rw [hnow, hlead']; exact hlead)
  obtain ⟨hplan, hlive, hplaced⟩ := stage_due (s := ((s.noted m t).fabReplied m.src n numReply).segCommitted pl m.src n b)
    (p := pl.strobed b) rfl
  have hkept := stage_keeps (((s.noted m t).fabReplied m.src n numReply).segCommitted pl m.src n b) (pl.strobed b)
  rw [← hin] at hplan hlive hplaced hkept
  have hend : (commitIn m (s.noted m t)).fab = (((s.noted m t).fabReplied m.src n numReply).segCommitted pl m.src n b).fab :=
    hkept.frame .fab rfl
  simp only [State.segCommitted, State.modSeg, State.modTxn, State.fabReplied, hfab] at hend
  have hplan : (commitIn m (s.noted m t)).pth.plan = s.pth.plan := hplan.trans (by rw [← hpth]; rfl)
  have hlive : (commitIn m (s.noted m t)).pth.live = s.pth.live := hlive.trans (by rw [← hpth]; rfl)
  have hcalm' : Calm (commitIn m (s.noted m t)) := by
    refine ⟨?_, ?_, hplaced (segCommitted_placed _ _ _ hlost fun q hq => hcalm.placed q (hpth ▸ hq)), ?_, ?_⟩
    · rw [hend]; exact hcalm.waitQ
    · rw [hend]; exact hcalm.late
    · rw [hend, hmissed]; nofun
    · rw [hend]
      simpa only [State.inTaken, State.outTaken, hplan] using hcalm.probes
  have htake : doCommit m t s = State.schedEvent (s.passTo t) (commitIn m (s.noted m t)) := by
    rw [doCommit, fabRecv_takes hf hsrc (.inr hdst) hfirst, topoNote_of_same (by rw [passTo_fab, hend]) (by rw [passTo_fab, hend])
      (by rw [passTo_fab, hend]), hcalm'.fabAfter]
  have hlanes : (doCommit m t s).lanes = s.lanes := (doCommit_keeps m t s).frame .lanes rfl
  rw [htake] at hlanes
  refine .of_eq (exec_commit.trans rfl) htake ⟨?_, hlanes, by rw [schedEvent_pth, hplan], by rw [schedEvent_pth, hlive]⟩
  have hgseg := List.find?_some (p := fun g : FabSeg => g.owner == m.src && g.num == n) hg
  simp only [Bool.and_eq_true, beq_iff_eq] at hgseg
  rw [(schedEvent_keeps ..).frame .fab rfl, hend]
  exact ⟨{ g with st := 1 }, List.mem_map.2 ⟨g, List.mem_of_find?_eq_some hg, if_pos hgseg⟩, hgseg.1, hgseg.2, rfl⟩

end

end Sys2Proof.Machine
end

section
/-! PROOF. The watch of the links (R383) and the dwell of the probes (R375). -/
namespace Sys2Proof.Machine

section
variable {s : State} {t p : Nat} {ref : Int}

/-! ### LINK_LOSS_DETECT (R383) -/

theorem exec_linkLossDetect : exec (.linkLossDetect t) s = .next (doLinkLossDetect t s) := rfl

theorem doLinkLossDetect_one (hf : s.inFabric = true) (hr : s.fab.linkRef = [(p, ref)]) : doLinkLossDetect t s =
    State.schedEvent s (State.topoNote (s.passTo t) (State.watchLink (s.passTo t).clr.now (s.passTo t) p)).fabAfter := by
  unfold doLinkLossDetect
  simp only [passTo_inFabric, hf, passTo_fab, hr]
  rfl

theorem watchLink_clears (hr : s.fab.linkRef = [(p, ref)]) (hp : s.inTaken p = true)
    (hle : ref - s.pIn p ≤ 128 * s.f FAB_WATCH.LINK_DB []) :
    State.watchLink t s p = s.setFab { s.fab with linkLow := sdel s.fab.linkLow p } := by
  have href : sfind s.fab.linkRef p = some ref := by simp [hr, sfind]
  unfold State.watchLink
  simp only [href, hp, Bool.not_true, Bool.false_eq_true, if_false]
  exact if_pos hle

/-- What a link in-port that goes down changes where no own path is in force. -/
structure LinkFalls (p : Nat) (s u : State) : Prop where
  calm : Calm s → Calm u
  lnk : u.lnkIn p = { s.lnkIn p with st := 4 }
  down : u.f FAB_EVT.LINK_DOWN [] = 1

theorem watchLink_falls (hr : s.fab.linkRef = [(p, ref)]) (hp : s.inTaken p = true) (hpaths : s.fab.paths = [])
    (hst : (s.lnkIn p).st ≠ 4) (hlt : 128 * s.f FAB_WATCH.LINK_DB [] < ref - s.pIn p)
    (hn : s.f FAB_WATCH.LINK_N [] ≤ sget 0 s.fab.linkLow p + 1) : LinkFalls p s (State.watchLink t s p) := by
  have href : sfind s.fab.linkRef p = some ref := by simp [hr, sfind]
  have hlow : ¬ (sget 0 s.fab.linkLow p + 1 < s.f FAB_WATCH.LINK_N [] ∨ (s.lnkIn p).st = 4) := fun h => h.elim (by omega) hst
  unfold State.watchLink
  split
  · next hnone => exact absurd (href.symm.trans hnone) nofun
  next r hsome =>
  obtain rfl : ref = r := Option.some.inj (href.symm.trans hsome)
  rw [if_neg (by simp [hp])]
  extract_lets n _ l s1 s2
  rw [if_neg (by omega), if_neg hlow]
  have h1 : (s1.fabEvent 2 [wd (p + 512 + l.dev * 65536)]).fab = s1.fab := fabEvent_fab ..
  obtain ⟨q, o, k, h2⟩ := tellAll_fab (s := s1.fabEvent 2 [wd (p + 512 + l.dev * 65536)]) (.downLink s1.devid true p t)
  have hk : Keeps 0x102804 s s2 := ((setFab_keeps ..).trans (fabEvent_keeps ..)).trans (tellAll_keeps ..)
  have hset : s2.f FAB_EVT.LINK_DOWN [] = 1 := ((tellAll_keeps ..).f rfl rfl ..).trans (fabEvent_sets _ _ bit_LINK_DOWN)
  rw [h1] at h2
  have hfab : s2.fab = _ := h2
  clear_value s2
  obtain ⟨m, hloss, hm⟩ := lossOf_of_no_paths (s := s2) (by rw [hfab]; exact hpaths) fun q => q.dst == s2.devid && q.down == p
  rw [hloss]
  refine ⟨fun hc => hc.of_pth (hk.frame .pth rfl) ?_ ?_ ?_ fun x hx => ?_, ?_, hset⟩
  · exact (congrArg Fab.waitQ hfab).trans rfl
  · exact (congrArg Fab.late hfab).trans rfl
  · exact (congrArg Fab.probes hfab).trans rfl
  · rcases List.mem_append.1 hx with hx | hx
    · rw [hfab] at hx ⊢
      exact hc.missed x hx
    · exact hm x hx
  · exact (congrArg (fun f => sget Lnk.reset f.lnkIn p) hfab).trans (sget_sset_same ..)

section
variable (hf : s.inFabric = true) (hcalm : Calm s) (hr : s.fab.linkRef = [(p, ref)]) (hp : s.inTaken p = true)
include hf hcalm hr hp

theorem runs_link_clear (hmissed : s.fab.missed = []) (hle : ref - s.pIn p ≤ 128 * s.f FAB_WATCH.LINK_DB []) :
    Runs (.linkLossDetect t) s fun u =>
      u.fab = { s.fab with linkLow := sdel s.fab.linkLow p } ∧ changesOnly [.clr, .pth, .fab] s u := by
  have hpin : (s.passTo t).pIn p = s.pIn p := passTo_congr s t (·.pIn p) fun _ => rfl
  have hin := watchLink_clears (s := s.passTo t) (t := (s.passTo t).clr.now) (by rwa [passTo_fab])
    ((passTo_congr s t (·.inTaken p) fun _ => rfl).trans hp) (by rwa [hpin, passTo_f])
  rw [passTo_fab] at hin
  have htame : Tame (s.passTo t) (State.watchLink (s.passTo t).clr.now (s.passTo t) p) := by
    rw [hin]
    refine ⟨(setFab_keeps ..).step .refl rfl, ?_, ?_, ?_, ?_, ?_, ?_, ?_⟩ <;> rw [passTo_fab] <;> rfl
  refine .of_eq exec_linkLossDetect ((doLinkLossDetect_one hf hr).trans (htame.settled (hcalm.passTo t) (by rwa [passTo_fab]) ?_)) ?_
  · rw [htame.keeps.reg rfl rfl, passTo_reg]
  · rw [hin]
    exact ⟨rfl, ((passTo_keeps s t).trans (setFab_keeps ..)).changesOnly rfl⟩

theorem runs_link_falls (hpaths : s.fab.paths = []) (hst : (s.lnkIn p).st ≠ 4) (hlt : 128 * s.f FAB_WATCH.LINK_DB [] < ref - s.pIn p)
    (hn : s.f FAB_WATCH.LINK_N [] ≤ sget 0 s.fab.linkLow p + 1) : Runs (.linkLossDetect t) s fun u =>
      u.lnkIn p = { s.lnkIn p with st := 4 } ∧ u.f FAB_EVT.LINK_DOWN [] = 1 ∧ u.lanes = s.lanes := by
  have hpin : (s.passTo t).pIn p = s.pIn p := passTo_congr s t (·.pIn p) fun _ => rfl
  have hlnk : (s.passTo t).lnkIn p = s.lnkIn p := by simp only [State.lnkIn, passTo_fab]
  have hfalls := watchLink_falls (s := s.passTo t) (t := (s.passTo t).clr.now) (by rwa [passTo_fab])
    ((passTo_congr s t (·.inTaken p) fun _ => rfl).trans hp) (by rwa [passTo_fab]) (by rwa [hlnk]) (by rwa [hpin, passTo_f])
    (by rwa [passTo_fab, passTo_f])
  obtain ⟨hfab, hbits⟩ := settled s (s.passTo t) (hfalls.calm (hcalm.passTo t))
  have hlanes : (doLinkLossDetect t s).lanes = s.lanes := (doLinkLossDetect_keeps t s).frame .lanes rfl
  have heq := doLinkLossDetect_one (t := t) hf hr
  rw [heq] at hlanes
  refine .of_eq exec_linkLossDetect heq ⟨?_, hbits _ _ bit_LINK_DOWN hfalls.down, hlanes⟩
  rw [State.lnkIn, hfab, ← hlnk]
  exact hfalls.lnk

end
end

/-! ### PROBE_DWELL (R375) -/

section
variable {s : State} {t : Nat}

theorem exec_probeDwell : exec (.probeDwell t) s = .next (doProbeDwell t s) := rfl

/-- The lanes of a probe segment, and the state behind the free values that they take. -/
def probeLanes (acc : List LaneSet × State) (r : Rt × Bool) : List LaneSet × State :=
  let o := acc.2.openPath r.1.a r.1.b
  let cuffs := if r.2 then o.1 else o.1.filter (fun l => !isEgressE l.e) ++ closeOut r.1.b
  (acc.1 ++ routeLanes r.1.a ⟨r.1.b, r.1.m⟩ ++ cuffs, o.2.2)

theorem probeLanes_ne_nil (acc : List LaneSet × State) (r : Rt × Bool) : (probeLanes acc r).1 ≠ [] := by
  unfold probeLanes
  extract_lets o cuffs
  have hcuffs : cuffs ≠ [] := by
    simp only [cuffs]
    split
    · exact List.cons_ne_nil _ _
    · exact List.append_ne_nil_of_right_ne_nil _ (List.cons_ne_nil _ _)
  exact List.append_ne_nil_of_right_ne_nil _ hcuffs

theorem probeLanes_keeps (acc : List LaneSet × State) (r : Rt × Bool) : Keeps 0x200000 acc.2 (probeLanes acc r).2 :=
  openPath_keeps acc.2 r.1.a r.1.b _ rfl

theorem probeLanes_all {rts : List (Rt × Bool)} (h : rts ≠ []) : (rts.foldl probeLanes ([], s)).1 ≠ []
    ∧ Keeps 0x200000 s (rts.foldl probeLanes ([], s)).2 := by
  refine ⟨?_, foldl_keeps (fun a : List LaneSet × State => Keeps 0x200000 s a.2) .refl fun a r ha =>
    (probeLanes_keeps a r).step ha rfl⟩
  obtain ⟨r, hr⟩ := List.exists_mem_of_ne_nil _ h
  exact foldl_reaches (Q := fun a : List LaneSet × State => a.1 ≠ []) (fun a r _ _ => probeLanes_ne_nil a r) hr
    (fun a => probeLanes_ne_nil a r) _

/-- Of the path service only the verifiers have changed. -/
structure TagsOnly (s u : State) : Prop where
  fab : u.fab = s.fab
  yk : u.yk = s.yk
  plan : u.pth.plan = s.pth.plan
  conn : u.pth.conn = s.pth.conn

theorem TagsOnly.trans {u v : State} (h : TagsOnly s u) (k : TagsOnly u v) : TagsOnly s v :=
  ⟨k.fab.trans h.fab, k.yk.trans h.yk, k.plan.trans h.plan, k.conn.trans h.conn⟩

theorem foldl_tags {α : Type} {f : State → α → State} (hf : ∀ u x, TagsOnly u (f u x)) (l : List α) (s : State) :
    TagsOnly s (l.foldl f s) :=
  foldl_rel (R := TagsOnly) (fun _ => ⟨rfl, rfl, rfl, rfl⟩) .trans (fun u x _ => hf u x) s

/-- The verifiers behind a dwell: those of the probes that end, then those of the ones that begin. -/
def State.probesTagged (s : State) (old : List (Nat × Nat)) (rts : List (Rt × Bool)) (t : Nat) : State :=
  rts.foldl (fun s r => s.tagStart r.1.a r.1.b t) ((old.filter fun x => !(s.inTaken x.1)).foldl (fun s x => s.tagStop x.1) s)

theorem probesTagged_tags (s : State) (old : List (Nat × Nat)) (rts : List (Rt × Bool)) (t : Nat) :
    TagsOnly s (s.probesTagged old rts t) :=
  (foldl_tags (f := fun s x => State.tagStop s x.1) (fun _ _ => ⟨rfl, rfl, rfl, rfl⟩) (old.filter fun x => !(s.inTaken x.1)) s).trans
    (foldl_tags (f := fun s r => State.tagStart s r.1.a r.1.b t) (fun _ _ => ⟨rfl, rfl, rfl, rfl⟩) rts _)

theorem probeRoutes_congr {u : State} (h : u.exclNodes = s.exclNodes) (l : List (Nat × Nat × Bool)) (others : List Rt) :
    u.probeRoutes l others = s.probeRoutes l others := by
  induction l generalizing others with
  | nil => rfl
  | cons p l ih =>
    unfold State.probeRoutes
    rw [h]
    split
    · rw [ih]
    · exact ih _

theorem passTo_probePlan (n : Nat) : (s.passTo t).probePlan n = s.probePlan n := by
  have hlit : (s.passTo t).idleLit = s.idleLit := passTo_congr s t (·.idleLit) fun _ => rfl
  have hout : (s.passTo t).idleOut = s.idleOut := passTo_congr s t (·.idleOut) fun _ => rfl
  have hmid : (s.passTo t).isMiddle = s.isMiddle := passTo_congr s t (·.isMiddle) fun _ => rfl
  unfold State.probePlan
  rw [hlit, hout, hmid]

theorem passTo_probeRoutes (s : State) (t : Nat) :
    (s.passTo t).probeRoutes ((s.passTo t).probePlan (s.passTo t).fab.probeN) ((s.passTo t).planPaths 0) =
      s.probeRoutes (s.probePlan s.fab.probeN) (s.planPaths 0) := by
  have hplan : (s.passTo t).planPaths 0 = s.planPaths 0 := passTo_congr s t (·.planPaths 0) fun _ => rfl
  rw [passTo_fab, passTo_probePlan, hplan]
  exact probeRoutes_congr (passTo_congr s t (·.exclNodes) fun _ => rfl) ..

theorem runs_probeDwell {rts : List (Rt × Bool)} (hf : s.inFabric = true) (hready : s.ready = true)
    (hen : s.fb FAB_CTRL.PROBE_EN [] = true) (hsafe : s.flt.safe = false) (hfree : s.freeNums ≠ [])
    (hrts : s.probeRoutes (s.probePlan s.fab.probeN) (s.planPaths 0) = rts) (hne : rts ≠ []) : Runs (.probeDwell t) s fun u =>
      u.fab = { s.fab with probes := rts.map fun z => (z.1.a, z.1.b), probeN := s.fab.probeN + 1 }
        ∧ u.yk.store.length = s.yk.store.length + 1 ∧ u.lanes = s.lanes ∧ u.pth.plan = s.pth.plan ∧ u.pth.conn = s.pth.conn := by
  refine ⟨_, exec_probeDwell, ?_⟩
  have hlanes : (doProbeDwell t s).lanes = s.lanes := (doProbeDwell_keeps t s).frame .lanes rfl
  revert hlanes
  have hready' : (s.passTo t).ready = true := (passTo_congr s t (·.ready) fun _ => rfl).trans hready
  have hroutes := (passTo_probeRoutes s t).trans hrts
  obtain ⟨hacc, hkacc⟩ := probeLanes_all (s := s.passTo t) hne
  unfold doProbeDwell
  extract_lets s1 old rts' gone goneOut acc lanes s2
  rw [if_neg (by simp [s1, hf, hready', hen, hsafe])]
  have hrts' : rts' = rts := hroutes
  clear_value rts'
  subst hrts'
  have hacc : acc.1 ≠ [] := hacc
  have hk2 : Keeps 0x200080 s s2 := (passTo_keeps s t).trans hkacc
  have hne' : lanes ≠ [] := List.append_ne_nil_of_right_ne_nil _ hacc
  clear_value acc
  rw [if_neg (by simpa [List.isEmpty_iff] using hne')]
  have hyk2 : s2.yk = s.yk := hk2.frame .yk rfl
  have hpth2 : s2.pth = s.pth := hk2.frame .pth rfl
  have hfab2 : s2.fab = s.fab := hk2.frame .fab rfl
  obtain ⟨n, q, u, hnew, hstore, hpth, -⟩ := newPat_of_free (s := s2) (by rw [State.freeNums, hyk2]; exact hfree) .probe .staged lanes
    (s2.boundary (s2.clr.now + s2.leadNs)) s2.leadNs false 0
  have hfab : u.fab = s2.fab := (newPat_keeps _ _ _ _ _ _ _ _ _ hnew).frame .fab rfl
  simp only [hnew]
  intro hlanes
  have htags := probesTagged_tags (u.setFab { u.fab with probes := rts'.map fun r => (r.1.a, r.1.b), probeN := u.fab.probeN + 1 })
    old rts' t
  refine ⟨htags.fab.trans ?_, ?_, hlanes, htags.plan.trans ?_, htags.conn.trans ?_⟩
  · rw [hfab, hfab2]
    rfl
  · refine (congrArg (fun y : Yk => y.store.length) htags.yk).trans ?_
    show u.yk.store.length = _
    rw [hstore, hyk2, List.length_append]
    rfl
  · exact congrArg Pth.plan (hpth.trans hpth2)
  · exact congrArg Pth.conn (hpth.trans hpth2)

end

end Sys2Proof.Machine
end

section
/-! PROOF. RESERVATION_TIMEOUT (R379), and the statement on reservations and links (O50). -/
namespace Sys2Proof.Machine

/-! ### Which placed transactions are held -/

/-- What the reservations look at in a placed transaction: whether it is held, and for which reservation. -/
def Placed.mark (p : Placed) : Bool × Option (Nat × Nat) := (p.hold, p.seg)

/-- Every placed transaction of a reservation is held for its COMMIT. -/
structure SegsHeld (s : State) : Prop where
  free : ∀ x ∈ s.pth.placed, x.hold = false → x.seg = none

section
variable {s u : State}

theorem SegsHeld.of_marks (h : SegsHeld s) (hm : u.pth.placed.map Placed.mark = s.pth.placed.map Placed.mark) : SegsHeld u := by
  refine ⟨fun x hx hh => ?_⟩
  obtain ⟨y, hy, hxy⟩ := List.mem_map.1 (hm ▸ List.mem_map_of_mem hx)
  obtain ⟨h1, h2⟩ := Prod.mk.inj hxy
  exact h2 ▸ h.free y hy (h1.trans hh)

theorem SegsHeld.of_subset (h : SegsHeld s) (hs : ∀ x ∈ u.pth.placed, x ∈ s.pth.placed) : SegsHeld u :=
  ⟨fun x hx => h.free x (hs x hx)⟩

theorem recWalk_marks (key : Nat) (rc : PathRec) (l : List Placed) : (recWalk key rc l).1.map Placed.mark = l.map Placed.mark := by
  induction l with
  | nil => rfl
  | cons q l ih =>
    unfold recWalk
    split
    · simp [ih]
    · extract_lets q1 r
      split
      · simp [q1, Placed.mark]
      · simp [q1, r, ih, Placed.mark]

theorem oldWalk_marks (key : Nat) (old : Option Route) (l : List Placed) : (oldWalk key old l).1.map Placed.mark = l.map Placed.mark := by
  induction l with
  | nil => rfl
  | cons q l ih =>
    unfold oldWalk
    split
    · simp [Placed.mark]
    · simp [ih]

theorem recWrite_marks (s : State) (n key : Nat) (f : PathRec → PathRec) :
    (s.recWrite n key f).pth.placed.map Placed.mark = s.pth.placed.map Placed.mark := by
  unfold State.recWrite
  extract_lets l rc w pth s1
  have h1 : s1.pth.placed.map Placed.mark = s.pth.placed.map Placed.mark := by
    simp only [s1, w, l, List.map_append, recWalk_marks]
    rw [← List.map_append, List.take_append_drop]
  split
  · exact h1
  · exact h1

theorem undoChg_marks (s : State) (p : Placed) (c : Chg) : (s.undoChg p c).pth.placed.map Placed.mark = s.pth.placed.map Placed.mark := by
  unfold State.undoChg
  extract_lets n fired gone old s1 w pth
  have hw : (s1.pth.placed.take n ++ w.1).map Placed.mark = s1.pth.placed.map Placed.mark := by
    rw [List.map_append, oldWalk_marks, ← List.map_append, List.take_append_drop]
  exact hw.trans (recWrite_marks ..)

theorem dropPlaced_held (h : SegsHeld s) (p : Placed) : SegsHeld (s.dropPlaced p) := h.of_subset fun _ hx => (List.mem_filter.1 hx).1

theorem withdraw_held (h : SegsHeld s) (p : Placed) : SegsHeld (s.withdraw p) := by
  unfold State.withdraw
  split
  · next q _ =>
    exact dropPlaced_held (foldl_keeps SegsHeld h fun u c hu => hu.of_marks (undoChg_marks u q c)) q
  · exact h

/-- A transaction of the same reservation joins those placed. -/
theorem addPlaced_held (h : SegsHeld s) {p : Placed} (hp : p.hold = false → p.seg = none) : SegsHeld (s.addPlaced p) := by
  refine ⟨fun x hx => ?_⟩
  rcases List.mem_append.1 hx with hx | hx
  · exact h.free x hx
  · rw [List.mem_singleton.1 hx]
    exact hp

theorem takeChanges_held (h : SegsHeld s) (l : List Chg) (new : List Rt) : SegsHeld (s.takeChanges l new) := by
  obtain ⟨conn, hpth⟩ := takeChanges_pth s l new
  exact h.of_subset fun x hx => by rwa [hpth] at hx

theorem rebuild_held (h : SegsHeld s) (p : Placed) : SegsHeld (s.rebuild p) := by
  unfold State.rebuild
  split
  · exact h
  · extract_lets lanes y _ s2
    obtain ⟨conn, hpth⟩ := patLanes_recs s p.txn.layer p.chg
    have h2 : (s2.modPat p.pat fun q => { q with lanes := lanes.1, order := y.stamp }).pth = { s.pth with conn := conn } :=
      ((modPat_keeps ..).frame .pth rfl).trans hpth
    exact h.of_subset fun x hx => by rwa [h2] at hx

theorem loseTxn_held (h : SegsHeld s) {p : Placed} (hp : p.hold = false → p.seg = none) : SegsHeld (s.loseTxn p) := by
  unfold State.loseTxn
  refine addPlaced_held ?_ hp
  split
  · exact h.of_subset fun x hx => by rwa [(freePat_keeps s p.pat).frame .pth rfl] at hx
  · exact h

theorem redo_held (bad : NodeSet) (h : SegsHeld s) {p : Placed} (hp : p.hold = false → p.seg = none) : SegsHeld (State.redo bad s p) := by
  unfold State.redo
  split
  · exact loseTxn_held h hp
  · split
    · next l _ =>
      extract_lets q new
      have hq : q.hold = false → q.seg = none := hp
      clear_value q new
      exact rebuild_held (addPlaced_held (takeChanges_held h l new) hq) q
    · extract_lets x
      split
      · exact loseTxn_held h hp
      · next new moved loop _ =>
        extract_lets l q
        have hq : q.hold = false → q.seg = none := hp
        clear_value q l
        exact rebuild_held (addPlaced_held (takeChanges_held h l new) hq) q

theorem beneath_held (h : SegsHeld s) (layer n : Nat) (p : Placed) : SegsHeld (s.beneath layer n [] fun s => s.withdraw p) := by
  unfold State.beneath
  extract_lets l
  have hl : ∀ q ∈ l, q.hold = false → q.seg = none := fun q hq =>
    h.free q (List.mem_of_mem_drop (List.mem_filter.1 hq).1)
  refine foldl_stays (Q := SegsHeld) (fun u q hq hu => redo_held [] hu (hl q hq)) ?_
  exact withdraw_held (foldl_keeps SegsHeld h fun u q hu => withdraw_held hu q) p

/-! ### Segments that are released -/

theorem releaseSeg_held (h : SegsHeld s) (owner num : Nat) : SegsHeld (s.releaseSeg owner num) := by
  unfold State.releaseSeg
  extract_lets _ s1
  have h1 : SegsHeld s1 := h.of_subset fun _ hx => hx
  split
  · split
    · exact beneath_held h1 ..
    · exact h1
  · exact h1

theorem releaseSeg_fab (owner num : Nat) : (s.releaseSeg owner num).fab = { s.fab with
    segs := s.fab.segs.filter fun g : FabSeg => !(g.owner == owner && g.num == num && g.st == 0) } := by
  unfold State.releaseSeg
  extract_lets _ s1
  split
  · next p _ =>
    split
    · have hk : Keeps 0x300304 s1 (s1.beneath 0 (s1.upTo p.id) [] fun s => s.withdraw p) :=
        beneath_keeps .refl rfl 0 _ _ fun u hu => (withdraw_keeps u p).step hu rfl
      exact hk.frame .fab rfl
    · rfl
  · rfl

/-- The records that a list of releases takes away. -/
theorem releaseSegs_fab (l : List FabSeg) (s : State) : (l.foldl (fun s g => s.releaseSeg g.owner g.num) s).fab = { s.fab with
    segs := s.fab.segs.filter fun z : FabSeg => !(l.any fun g => z.owner == g.owner && z.num == g.num && z.st == 0) } := by
  induction l generalizing s with
  | nil => simp
  | cons g l ih =>
    rw [List.foldl_cons, ih, releaseSeg_fab]
    simp only [List.filter_filter, List.any_cons, Bool.not_or, Bool.and_comm]

/-! ### Lost transactions of no reservation -/

theorem finish_held (h : SegsHeld s) {p : Placed} (hp : p.seg = none) : SegsHeld (s.finish p stFault) ∧ (s.finish p stFault).fab = s.fab := by
  unfold State.finish
  extract_lets s1 ok v s2 s3 s4
  have h4 : s4 = s3 := if_neg (by decide)
  have hk2 : Keeps 0x2000 s1 s2 := .ite (completeTxn_keeps ..) .refl
  have hk3 : Keeps 0x102404 s1 s3 := (pairDone_keeps ..).step (hk2.step .refl rfl) rfl
  have hdone : s4.segDone p ⟨stFault, p.rearr, p.repaired, p.eqRaised, p.unobs, p.validT, .middle⟩ = s4 := by
    simp only [State.segDone, hp]
  rw [hdone, h4]
  exact ⟨(dropPlaced_held h p).of_subset fun x hx => by rwa [hk3.frame .pth rfl] at hx, hk3.frame .fab rfl⟩

theorem sweepLost_fab (h : SegsHeld s) : s.sweepLost.fab = s.fab := by
  refine (foldl_keeps (fun u : State => SegsHeld u ∧ u.fab = s.fab) ⟨h, rfl⟩ fun u _ hu => ?_).2
  split
  · next p hp =>
    have hlost := List.find?_some hp
    simp only [Bool.and_eq_true, Bool.not_eq_true'] at hlost
    obtain ⟨hh, hf⟩ := finish_held hu.1 (hu.1.free p (List.mem_of_find?_eq_some hp) hlost.2)
    exact ⟨hh, hf.trans hu.2⟩
  · exact hu

theorem fabAfter_segs (h : SegsHeld s) (hw : s.fab.waitQ = []) (hl : s.fab.late = []) (hm : s.fab.missed = []) :
    s.fabAfter.fab.segs = s.fab.segs := by
  have hfab := sweepLost_fab h
  obtain ⟨l, hend⟩ := yieldProbes_fab s.sweepLost
  rw [State.fabAfter, wakeWaiting_of_none (by rw [hfab, hw]), lateRelease_of_none (by rw [hfab, hl]),
    missedLoss_of_awaited (by rw [hfab, hm]; nofun), hend, hfab]

/-! ### RESERVATION_TIMEOUT (R379) -/

variable {t : Nat}

theorem exec_reservationTimeout : exec (.reservationTimeout t) s = .next (doReservationTimeout t s) := rfl

/-- The segments of other owners whose time has come. -/
def State.overdue (s : State) (now : Nat) : List FabSeg :=
  s.fab.segs.filter fun g => g.st == 0 && g.owner != s.devid && decide (g.dl ≤ now)

theorem doReservationTimeout_eq (hr : s.fab.reqs = []) : doReservationTimeout t s = State.schedEvent s
    (((s.passTo t).overdue (s.passTo t).clr.now).foldl (fun s g => s.releaseSeg g.owner g.num) (s.passTo t)).fabAfter := by
  have hreqs : (((s.passTo t).overdue (s.passTo t).clr.now).foldl (fun s g => s.releaseSeg g.owner g.num) (s.passTo t)).fab.reqs = [] := by
    rw [releaseSegs_fab, passTo_fab]
    exact hr
  unfold doReservationTimeout
  extract_lets s1 now s2 _ s3 s4 s5
  have h2 : s2.fab.reqs = [] := hreqs
  have h3 : s3 = s2 := by simp only [s3, h2]; rfl
  have h4 : s4 = s3 := by simp only [s4, h3, h2]; rfl
  have h5 : s5 = s4 := by simp only [s5, h4, h3, h2]; rfl
  rw [h5, h4, h3]
  rfl

theorem runs_timeout (hcalm : Calm s) (hmissed : s.fab.missed = []) (hr : s.fab.reqs = []) (hh : SegsHeld s) :
    Runs (.reservationTimeout t) s fun u =>
      u.fab.segs = s.fab.segs.filter (fun z : FabSeg => !(z.st == 0 && s.fab.segs.any fun y : FabSeg => y.st == 0
          && y.owner != s.devid && y.owner == z.owner && y.num == z.num && decide (y.dl ≤ (s.passTo t).clr.now)))
        ∧ u.lanes = s.lanes := by
  have heq := doReservationTimeout_eq (t := t) hr
  have hlanes : (doReservationTimeout t s).lanes = s.lanes := (doReservationTimeout_keeps t s).frame .lanes rfl
  rw [heq] at hlanes
  have hfab := releaseSegs_fab ((s.passTo t).overdue (s.passTo t).clr.now) (s.passTo t)
  have hheld : SegsHeld (((s.passTo t).overdue (s.passTo t).clr.now).foldl (fun s g => s.releaseSeg g.owner g.num) (s.passTo t)) :=
    foldl_keeps SegsHeld (hh.of_subset fun x hx => by rwa [passTo_pth] at hx) fun u g hu => releaseSeg_held hu ..
  refine .of_eq exec_reservationTimeout heq ⟨?_, hlanes⟩
  rw [(schedEvent_keeps ..).frame .fab rfl, fabAfter_segs hheld (by rw [hfab, passTo_fab]; exact hcalm.waitQ)
    (by rw [hfab, passTo_fab]; exact hcalm.late) (by rw [hfab, passTo_fab]; exact hmissed), hfab, passTo_fab]
  refine List.filter_congr fun z _ => ?_
  rw [State.overdue, List.any_filter, passTo_fab, passTo_devid]
  refine congrArg not ?_
  cases hz : z.st == 0 with
  | false => simp
  | true =>
    simp only [Bool.true_and, Bool.and_true]
    refine congrArg (s.fab.segs.any ·) (funext fun y => ?_)
    rw [BEq.comm (a := z.owner), BEq.comm (a := z.num)]
    ac_rfl

end

/-- Settles O50, one lemma per clause. -/
theorem reservationsAndLinks : Obligations.ReservationsAndLinks :=
  fun s _m' m _t n b _p _l _w _o _q _g _pl _ref _reqs _paths _s1 _ports _rts hf hw hl hp hm hpr hsrc hdst hfirst hm' =>
  have hc : Calm s := ⟨hw, hl, hp, by rw [hm]; nofun, hpr⟩
  ⟨fun hb hpaths => runs_disc_claims hf hc hsrc hdst hb hpaths,
    fun hb hh hcause => runs_reserve_refused hf hc hm hsrc hdst hfirst hb hh hcause,
    fun hb hh hedge hcause hitems hplace => runs_reserve_placed hf hc hm hsrc hdst hfirst hm' hb hh hedge hcause hitems hplace,
    fun hb hq hwait hrest => runs_reply hf hc hm hsrc hdst hfirst hb hq hwait hrest,
    fun hb hnone => runs_commit_drops hf hc hm hsrc hdst hfirst hb hnone,
    fun hb hplaced hg hhold hlead => runs_commit_stages hf hc hm hsrc hdst hfirst hb hplaced hg hhold hlead,
    fun hb hq hst hnew hrest => runs_outcome hf hc hm hsrc hdst hfirst hb hq hst hnew hrest,
    fun hr hh => runs_timeout hc hm hr ⟨hh⟩,
    fun hr htaken hpaths hst hlt hn => runs_link_falls hf hc hr htaken hpaths hst hlt hn,
    fun hr htaken hle => runs_link_clear hf hc hr htaken hm hle,
    fun hready hen hsafe hfree hrts hne => runs_probeDwell hf hready hen hsafe hfree hrts hne,
    fun hb hpaths hown hl hok ho => runs_disc_confirms (out := false) hf hc hsrc hdst hb hpaths hown hl hok ho,
    fun hb hpaths hown hl hok ho => runs_disc_confirms (out := true) hf hc hsrc hdst hb hpaths hown hl hok ho,
    fun hb hpaths hown hst hdev hno => runs_disc_loses hf hc hsrc hdst hb hpaths hown hst hdev hno⟩

end Sys2Proof.Machine
end
